-- ==== Sys2Proof/Word.lean ====
section
/-!
DEFINITION. The words of the module: 32-bit registers and wire words (R6, R8), bytes, and the plain
reading and writing of a bit range [hi:lo] (R4).
-/
namespace Sys2Proof

/-- A register, a wire word or a word of a structure in memory (R6, R8). -/
abbrev Word := BitVec 32

/-- A byte of a payload or of memory (R6). -/
abbrev Byte := BitVec 8

/-- The number held in bits [hi:lo] of a word. -/
def Word.fld (w : Word) (hi lo : Nat) : Nat := w.toNat / 2 ^ lo % 2 ^ (hi + 1 - lo)

/-- The word with bits [hi:lo] replaced by a number (its low bits). -/
def Word.setFld (w : Word) (hi lo v : Nat) : Word :=
  BitVec.ofNat 32
    (w.toNat / 2 ^ (hi + 1) * 2 ^ (hi + 1) + v % 2 ^ (hi + 1 - lo) * 2 ^ lo + w.toNat % 2 ^ lo)

/-- One bit of a word. -/
def Word.bit (w : Word) (n : Nat) : Bool := w.toNat.testBit n

/-- The bytes of a word, most significant first, as a wire word is sent (R6). -/
def Word.bytesBE (w : Word) : List Byte :=
  [BitVec.ofNat 8 (w.toNat / 2 ^ 24), BitVec.ofNat 8 (w.toNat / 2 ^ 16),
   BitVec.ofNat 8 (w.toNat / 2 ^ 8), BitVec.ofNat 8 w.toNat]

/-- The bytes of a word, least significant first, as a structure in memory holds it (R6). -/
def Word.bytesLE (w : Word) : List Byte := w.bytesBE.reverse

/-- The number that bytes spell, least significant first (R6). -/
def natOfBytesLE : List Byte → Nat
  | [] => 0
  | b :: bs => b.toNat + 256 * natOfBytesLE bs

/-- The bytes of a number, least significant first, `n` of them (R6). -/
def bytesLEOfNat : Nat → Nat → List Byte
  | 0, _ => []
  | n + 1, x => BitVec.ofNat 8 x :: bytesLEOfNat n (x / 256)

/-- The number that bytes spell, most significant first (R6). -/
def natOfBytesBE (bs : List Byte) : Nat := natOfBytesLE bs.reverse

/-- The words that bytes spell, each most significant byte first (R6); a last part of less than
four bytes is dropped. -/
def wordsOfBytesBE : List Byte → List Word
  | a :: b :: c :: d :: bs => BitVec.ofNat 32 (natOfBytesBE [a, b, c, d]) :: wordsOfBytesBE bs
  | _ => []

/-- The words that bytes spell, each least significant byte first (R6). -/
def wordsOfBytesLE : List Byte → List Word
  | a :: b :: c :: d :: bs => BitVec.ofNat 32 (natOfBytesLE [a, b, c, d]) :: wordsOfBytesLE bs
  | _ => []

/-- The number that an n-bit field holds as two's complement (R7). -/
def signedOf (n x : Nat) : Int := if x < 2 ^ (n - 1) then (x : Int) else (x : Int) - 2 ^ n

/-- The n-bit two's complement field of an integer (R7). -/
def fieldOfInt (n : Nat) (x : Int) : Nat := (x % (2 ^ n : Int)).toNat

/-- Whether a precedes b in a series of numbers modulo 2^n (R69). -/
def precedes (n a b : Nat) : Bool :=
  let d := (b + 2 ^ n - a % 2 ^ n) % 2 ^ n
  1 ≤ d && d ≤ 2 ^ (n - 1) - 1

/-- 1 for true, 0 for false. -/
def bit01 (b : Bool) : Nat := if b then 1 else 0

end Sys2Proof
end

