-- ==== Sys2Proof/Syntax.lean ====
section
/-!
DEFINITION. The syntax of the commands: packets, flits and frames as they stand on the wire, and `Instr`,
one constructor for each row of spec/opcode_table.json. Unit numbers are `Fin` types; relations
among operands are checked in WellFormed.lean.
-/
namespace Sys2Proof

/-- An FFP packet (R50): twelve header words, the payload, and the trailer word, which is on the wire
only when the payload is not empty. -/
structure Packet where
  hdr : List Word
  payload : List Byte
  trailer : Word
deriving DecidableEq, Repr

/-- A 256-byte link flit (R313), as its bytes in sending order. -/
structure Flit where
  bytes : List Byte
deriving DecidableEq, Repr

/-- The registers whose writes change the reservation total (R112). -/
inductive RsvReg where
  | inRsv | pl17Rsv | tcCfg (t : Fin 8) | nopathCtrl
deriving DecidableEq, Repr

/-- The IEEE 1588 messages of the default delay request-response profile (R353). -/
inductive PtpKind where
  | sync | delayReq | followUp | delayResp | announce
deriving DecidableEq, Repr

/-- A PTP message that the management port receives (R353). -/
structure PtpMsg where
  kind : PtpKind
  domain : Nat
  /-- sourcePortIdentity -/
  source : Nat
  seq : Nat
  /-- its timestamp in nanoseconds: originTimestamp, preciseOriginTimestamp or receiveTimestamp -/
  time : Int
  twoStep : Bool
  /-- correctionField, in whole nanoseconds -/
  corr : Int
  /-- of an Announce, its data set as one number: the smaller the better (the default best master clock algorithm) -/
  rank : Nat
  /-- of a Delay_Resp, its requestingPortIdentity is this clock's -/
  mine : Bool
deriving DecidableEq, Repr

/-- The timers of an IEEE 1588 port (R353). -/
inductive PtpTimer where
  | announceTimeout | sync | announce | delayReq
deriving DecidableEq, Repr

/-- What the boot ROM finds in an image (R395, R396): the fields that its checks compare, and the outcome of the
checks whose data is outside the model. -/
structure ImageCheck where
  /-- every byte could be read -/
  readOk : Bool
  /-- MAGIC, FORMAT, PART, BODY_LEN and reserved bytes are right -/
  header : Bool
  bodyLen : Nat
  svn : Nat
  /-- the digest of VENDOR_PK is the fused vendor root hash; VENDOR_SIG verifies -/
  vendorKey : Bool
  vendorSig : Bool
  /-- OWNER_SIGNED; SHA3-256 of OWNER_PK; OWNER_SIG verifies -/
  ownerSigned : Bool
  ownerHash : List Byte
  ownerSig : Bool
  /-- the digest of the body is BODY_DIGEST -/
  body : Bool
  /-- the digest D of the header, and BODY_DIGEST -/
  digest : List Byte
  bodyDigest : List Byte
deriving DecidableEq, Repr

/-- An identity of the ledger that fails (R418): its code, the unit that disagrees by KIND and INDEX, and the low
32 bits of its left side minus its right side. -/
structure Violation where
  code : Fin 18
  kind : Fin 256
  index : Fin 16777216
  diff : Word
deriving DecidableEq, Repr
/-- The commands: one constructor for each row of spec/opcode_table.json, with what the row takes from outside. -/
inductive Instr where
  /-- R12: A host write to a register with no behaviour of its own stores the fields as their access types state. A host read
  (R9, R10) is the access with nothing to write. -/
  | registerWrite (off : Word) (bytes : Fin 9) (w : Option Word)
  /-- R24: A write to GLB.FABRIC_ID changes the module identity, or is discarded when it changes fields while ASSIGNED reads 1. -/
  | fabricIdWrite (w : Word)
  /-- R27: The shared buffer empties or the withdrawal drain window expires; held packets are dropped and the lasers go off. -/
  | withdrawalDrainEnd
  /-- R389: GLB.RST_CMD KIND 0b01 requests a warm reset. -/
  | warmResetRequest
  /-- R390: GLB.RST_CMD KIND 0b10 requests a domain reset, answered in RST_STAT.STATUS. -/
  | domainResetRequest (n : Fin 32)
  /-- R389: PD01 turns on, the fuses are read, TB0 starts at zero, and boot waits for the input to be good. -/
  | coldReset
  /-- R443: A recognised RESET_N low stops the module abruptly and holds it in module reset. -/
  | resetNAssert (ns : Nat)
  /-- R389: Release of RESET_N starts a boot once the input is good and any thermal hold has ended. -/
  | resetNRelease
  /-- R389: The management cores give no heartbeat for 1 s, and a warm reset starts. -/
  | firmwareWatchdog
  /-- R389: Every tripped site has stayed 10 °C below its trip for 1 s, and the thermal module-reset hold ends. -/
  | thermalHoldEnd
  /-- R396: A boot attempt on one source finishes its image checks with success or a failure code. -/
  | imageCheckDone (c : ImageCheck)
  /-- R396: The host attempt fails with code 0x08 when there is no link within 100 ms or no GO within 1 s. -/
  | hostBootTimeout
  /-- R394: The back-off after a failed round ends, and a new round starts with slot A. -/
  | bootBackoffExpiry
  /-- R397: GLB.HOST_IMG_CTL.GO marks a host image ready, and the host attempt uses it. -/
  | hostImageGo (len : Fin 67108864)
  /-- R398: Bring-up completes; PHASE reads 0b11, and EV_BOOT and EV_RESET are raised. -/
  | bringupDone (stackList : List (Fin 32)) (groups : List (Fin 8 × Fin 17))
  /-- R399: After 60 s in phase 0b11 the boot record is cleared. -/
  | bootRecordClear
  /-- R400: GLB.FLASH_CMD program erases a slot, programs it from host memory, and then checks it. -/
  | flashProgram (slot : Fin 2) (len : Fin 67108864)
  /-- R400: GLB.FLASH_CMD erase erases an image slot. -/
  | flashErase (slot : Fin 2)
  /-- R400: Programming and read-back checking of a slot complete; a failed check erases the slot. -/
  | flashProgramDone (c : ImageCheck)
  /-- R405: GLB.SEC_CMD OP 0b01 raises the MIN_SVN fuse to the running SVN. -/
  | secRaiseMinSvn
  /-- R405: GLB.SEC_CMD OP 0b10 burns the owner hash and sets OWNER_REQ. -/
  | secBurnOwnerHash (bytes : List Byte)
  /-- R404: GLB.ATT_CMD OP 0b01 starts a signed attestation report, latching the nonce and LOG_HASH. -/
  | attestReport
  /-- R404: The report is written to host memory, or abandoned on link loss, and EV_ATTEST is raised. -/
  | attestReportDone
  /-- R403: GLB.ATT_CMD OP 0b10 copies a log entry into ATT_DATA. -/
  | attestReadEntry (i : Fin 256)
  /-- R402: GLB.ATT_CMD OP 0b11 writes the identity public key to ATT_ADDR. -/
  | attestWritePubkey
  /-- R79: A received FFP header enters its port's ingress header queue for its VC. -/
  | headerArrival (port : Fin 1089)
  /-- R77: A header takes a pipeline slot; the pipeline latches the generation, runs checks and lookup, chooses a path, meters the packet and admits it. -/
  | headerLookup (pl : Fin 18) (bank : Bool)
  /-- R115: A packet that waits under rule 5 is offered for admission again. -/
  | packetAdmitRetry (port : Fin 1089) (vc : Fin 4)
  /-- R109: A cell write held for want of a free bank is retried from the pipeline's write queue. -/
  | bankWriteRetry (pl : Fin 18) (vc : Fin 4) (free : Bool)
  /-- R54: The tail of a packet passes and its trailer is checked; on a mismatch it leaves with an inverted trailer. -/
  | packetTail (port : Fin 1089)
  /-- R116: A packet that has waited past AGE_LIMIT is dropped under the age reason. -/
  | ageLimitExpiry (port : Fin 1089) (vc : Fin 4)
  /-- R130: A port that can start a packet picks an eligible queue and sends one packet from it. -/
  | egressSchedule (egress : Fin 1094)
  /-- R136: A shaper's calendar-wheel slot is reached, and the shaper becomes eligible again. -/
  | shaperEligible (egress : Fin 1094) (i : Fin 9)
  /-- R136: Once per wheel revolution the overflow list is rescanned, and entries within reach enter the wheel. -/
  | wheelOverflowRescan (pl : Fin 18)
  /-- R137: A write to PLn.SHP_p_s reconfigures the shaper and resets its tokens. -/
  | shaperWrite (egress : Fin 1094) (i : Fin 9) (w : Word)
  /-- R144: A write to POL_C or POL_P resets the bucket it configures. -/
  | policerBucketWrite (port : Fin 1088) (tc : Fin 8) (second : Bool) (w : Word)
  /-- R124: A BUF.MARK_t write is stored, or is discarded and sets MARK_ORDER when its thresholds are out of order. -/
  | markThresholdWrite (t : Fin 8) (w : Word)
  /-- R112: A reservation write is discarded, and RSV_OVER is set, when the total would exceed 393,216 cells. -/
  | reservationWrite (r : RsvReg) (w : Word)
  /-- R121: A spill block moves to HBM when it is full or 1 µs after its first write. -/
  | spillBlockWrite (egress : Fin 1094) (tc : Fin 8)
  /-- R121: HBM confirms a spill block write, and the block's on-die cells are freed. -/
  | spillWriteConfirm (egress : Fin 1094) (tc : Fin 8)
  /-- R122: A spill block returns from HBM; a block with an uncorrectable error drops its packets. -/
  | spillBlockReturn (egress : Fin 1094) (tc : Fin 8) (err : Bool)
  /-- R123: A packet held longer than NOPATH_US is dropped under the no-path reason. -/
  | nopathTimeout
  /-- R125: After 8 µs with no non-zero ECHO, a leaf ID's rate limit rises by 25 Gb/s. -/
  | rateLimitRecover (leaf : Fin 4096)
  /-- R87: Every ADAPT_NS each pipeline refreshes the depth factors of its paths. -/
  | depthRefresh (pl : Fin 17)
  /-- R88: Easel writes W_BASE from path condition and health, within its change limits. -/
  | easelWeightUpdate (port : Fin 1088)
  /-- R90: Easel moves up to 4 buckets of a bundle per 100 µs for rebalancing. -/
  | easelRebalance (uid : Word) (moves : List (Fin 64 × Fin 1024))
  /-- R106: A write of W_BASE is stored, and a zero starts the move of every bucket pinned to the path. -/
  | pathWeightWrite (port : Fin 1088) (w : Word)
  /-- R91: The settle wait ends; the bucket is remapped and its held packets are released to the new path. -/
  | settleExpiry (uid : Word) (bucket : Fin 64)
  /-- R93: A PATH_MARK addressed to the module is queued behind earlier packets from the same BP port and VC. -/
  | pathMarkReceive
  /-- R93: Once every earlier packet has entered its egress queue, an ACK is returned for the mark. -/
  | pathMarkAckSend
  /-- R93: An ACK for a sent mark arrives; when every mark is acknowledged, the held packets are released. -/
  | pathMarkAckReceive
  /-- R93: MARK_TIMEOUT_US expires before every mark is acknowledged. -/
  | markTimeout (uid : Word) (bucket : Fin 64)
  /-- R105: BUF.FWD_CMD OP 0b01 writes a leaf destination or override entry into the shadow bank. -/
  | fwdWriteShadow (ovr : Bool) (index : Fin 4096)
  /-- R105: BUF.FWD_CMD OP 0b10 reads a shadow entry into FWD_DATA0–3. -/
  | fwdReadShadow (ovr : Bool) (index : Fin 4096)
  /-- R105: BUF.FWD_CMD OP 0b11 reads an active entry into FWD_DATA0–3. -/
  | fwdReadActive (ovr : Bool) (index : Fin 4096)
  /-- R102: BUF.FWD_GEN_CTRL.COMMIT schedules the shadow banks to become active at an epoch. -/
  | fwdCommit (gapUs : Fin 65536)
  /-- R101: TB0 reaches a commit's epoch; the new generation takes effect in every table, and the shadow copy begins. -/
  | epochReached
  /-- R103: The copy of the active bank into the shadow completes, and COPYING clears. -/
  | shadowCopyDone
  /-- R157: MCT.CMD OP 0b01 writes a group entry into the shadow bank. -/
  | mctWriteShadow (group : Fin 65536)
  /-- R157: MCT.CMD OP 0b10 reads a shadow group entry. -/
  | mctReadShadow (group : Fin 65536)
  /-- R157: MCT.CMD OP 0b11 reads an active group entry. -/
  | mctReadActive (group : Fin 65536)
  /-- R149: The replication unit takes a multicast packet, forms its targets, prunes fenced ones and creates replicas. -/
  | mcastReplicate
  /-- R153: A replica that waits under rule 5 in the replication unit is offered for admission again. -/
  | replicaAdmitRetry
  /-- R160: CNV.CMD OP 0b001 checks a context entry and writes it into the shadow bank. -/
  | cnvWriteShadow (n : Fin 16384)
  /-- R188: CNV.CMD OP 0b010 reads a shadow context entry. -/
  | cnvReadShadow (n : Fin 16384)
  /-- R188: CNV.CMD OP 0b011 reads an active context entry. -/
  | cnvReadActive (n : Fin 16384)
  /-- R189: CNV.CMD OP 0b100 reads a context's status into CNV.DATA_0–5. -/
  | cnvReadStatus (n : Fin 16384)
  /-- R180: CNV.CMD OP 0b101 forces every open segment of a context to a partial or retry result. -/
  | cnvForce (n : Fin 16384)
  /-- R163: RECLAIM ends; the slot becomes FREE, and EV_CNV_FREED is raised. -/
  | contextFreed (n : Fin 16384)
  /-- R168: A RED_CONTRIB reaches Canvas and is tested, then staged or discarded. -/
  | contribReceive
  /-- R177: A contribution held at the head of PL17's VC_COLL sub-queue is taken when staging or overflow frees. -/
  | canvasIngestRetry
  /-- R176: Easel grants a segment's accumulator and checkpoint area, and the segment opens. -/
  | segmentAreaGrant (n : Fin 16384) (next : Bool) (seg : Fin 16777216)
  /-- R176: The oldest waiting contribution reaches BATCH_WAIT_NS, and its batch is sent. -/
  | batchWaitExpiry (n : Fin 16384) (next : Bool) (seg : Fin 16777216)
  /-- R235: The Palette scheduler admits a Canvas batch against the die's energy account. -/
  | canvasBatchAdmit (n : Fin 16384) (next : Bool) (seg : Fin 16777216)
  /-- R176: An engine reports a batch folded after writing its checkpoint; the batch's staging is freed. -/
  | batchFolded (n : Fin 16384) (next : Bool) (seg : Fin 16777216)
  /-- R179: A segment's timer expires, and the segment goes to ENCODE as partial. -/
  | segmentTimeout (n : Fin 16384) (next : Bool) (seg : Fin 16777216)
  /-- R175: The encoded payload returns, and the segment's result is issued. -/
  | segmentEncodeDone (n : Fin 16384) (next : Bool) (seg : Fin 16777216)
  /-- R300: A PHASE_MARK addressed to the module reaches PL16, which schedules its pattern. -/
  | phaseMarkReceive
  /-- R183: A child waits TIMEOUT_US for the root's result, then issues retry and reopens the segment. -/
  | childResultTimeout (n : Fin 16384) (next : Bool) (seg : Fin 16777216)
  /-- R185: The last checkpoint reaches the new die, and the context returns to ACTIVE. -/
  | recoverCopyDone (n : Fin 16384)
  /-- R215: PAL.ENG_CTRL.PARK_REQ set to 1 parks the engine after its executing command. -/
  | engineParkRequest (e : Fin 8)
  /-- R207: PARK_REQ cleared returns a PARKED engine to IDLE within 1 µs. -/
  | engineUnpark (e : Fin 8)
  /-- R215: PAL.ENG_CTRL.OFFLINE_REQ set to 1 takes the engine offline after its executing command. -/
  | engineOfflineRequest (e : Fin 8)
  /-- R207: PAL.ENG_CTRL.RESUME brings an OFFLINE engine back through scrub to IDLE. -/
  | engineResume (e : Fin 8)
  /-- R206: A write to PAL.LANE_RETIRE requests a lane group's retirement or return. -/
  | laneRetireWrite (e : Fin 8) (mask : Fin 131072)
  /-- R206: At the next command boundary the spare group takes the retired group's place, or the engine goes OFFLINE. -/
  | laneGroupSwap (e : Fin 8)
  /-- R207: The scrub after domain turn-on ends, and the engine becomes IDLE. -/
  | engineScrubDone (e : Fin 8)
  /-- R209: The keep window expires with no command ready, and the ramp starts. -/
  | keepExpiry (e : Fin 8)
  /-- R210: Every 2.5 µs the ramp lowers the level by D/8; at level 0 the engine enters its target state. -/
  | rampStep (e : Fin 8)
  /-- R208: The die governor grants one level step of 8 per STEP_NS to an engine that requests it. -/
  | governorStep (d : Fin 4) (even : Bool) (odd : Bool)
  /-- R213: A fault stop abandons the executing command, starts the ramp and reset, and raises EV_PAL_FAULT. -/
  | engineFault (e : Fin 8) (kind : Fin 5) (group : Fin 18)
  /-- R214: The engine reset ends, and the engine resumes or goes OFFLINE. -/
  | engineResetDone (e : Fin 8)
  /-- R212: No command completes for WATCHDOG_US, and a fault stop occurs. -/
  | watchdogExpiry (e : Fin 8)
  /-- R218: The scheduler clears a watch's pending bit, reads the doorbell line and places completely posted lists in queues. -/
  | doorbellRead (ring : Fin 4096)
  /-- R244: PAL.RING_CMD OP 0b01 writes a ring entry, enabling, disabling or rebinding the ring. -/
  | ringWrite (ring : Fin 4096)
  /-- R244: PAL.RING_CMD OP 0b10 reads a ring entry. -/
  | ringRead (ring : Fin 4096)
  /-- R244: PAL.RING_CMD OP 0b11 reads a ring's status into RING_DATA_0–3. -/
  | ringStatusRead (ring : Fin 4096)
  /-- R234: A 10 µs TB2 window starts; B_d is published, and A_d is refilled. -/
  | energyWindowStart (d : Fin 4)
  /-- R236: An engine with no list running admits one candidate list and charges its energy. -/
  | listAdmit (e : Fin 8)
  /-- R222: Command NOP has no effect. -/
  | palNop (e : Fin 8)
  /-- R224: Command BEGIN opens a list and acts as a restart point. -/
  | palBegin (e : Fin 8)
  /-- R232: Command END fences every write of the list, then writes the completion record. -/
  | palEnd (e : Fin 8)
  /-- R232: Command FENCE waits for outstanding writes in its scope. -/
  | palFence (e : Fin 8)
  /-- R232: Every write in a fence's scope is performed, and the FENCE or END completes. -/
  | fenceComplete (e : Fin 8)
  /-- R232: A FENCE or END exceeds FENCE_US, and the list fails. -/
  | fenceTimeout (e : Fin 8)
  /-- R224: Command NOTIFY has the scheduler send a store or atomic add to a fabric address. -/
  | palNotify (e : Fin 8)
  /-- R224: The response to a NOTIFY arrives and is journalled; a non-zero RESULT fails the list. -/
  | notifyResponse (d : Fin 4)
  /-- R240: Command CKPT saves lane state to the journal half and marks a restart point. -/
  | palCkpt (e : Fin 8)
  /-- R226: Command MOVE moves bytes among memory, pages, lanes, shared vectors and scratch. -/
  | palMove (e : Fin 8)
  /-- R232: A home agent or CXL port confirms a MOVE write, and it is journalled. -/
  | moveWritePerformed (e : Fin 8) (i : Fin 16)
  /-- R227: Command ROW issues row operations into accumulators. -/
  | palRow (e : Fin 8)
  /-- R228: Command ELEM computes element-wise fp32 operations. -/
  | palElem (e : Fin 8)
  /-- R229: Command XLANE performs a row reduce or gather. -/
  | palXlane (e : Fin 8)
  /-- R230: Command CONVERT converts element formats in lane registers. -/
  | palConvert (e : Fin 8)
  /-- R247: A request reaches a home agent and is classified against its source's tracker. -/
  | homeRequestReceive (d : Fin 4)
  /-- R246: A request that waits for a tracker takes one when it frees, and the series entry is loaded. -/
  | trackerAllocate (d : Fin 4)
  /-- R246: An idle tracker's linger time ends; its entry is written back, and the tracker is freed. -/
  | trackerLingerExpiry (d : Fin 4) (space : Bool) (src : Fin 262144)
  /-- R252: A request allowed by ordering is checked, then performed and answered. -/
  | homeRequestPerform (d : Fin 4)
  /-- R253: A combining-buffer line read from memory arrives, and its queued atomics are performed. -/
  | lineFill (d : Fin 4)
  /-- R253: A buffered line with no request for 1 µs is written back and leaves the buffer. -/
  | combiningLineExpiry (d : Fin 4)
  /-- R258: A response or ACK to an own spine-space ID is delivered to the hub or a Palette scheduler, or is discarded as late. -/
  | responseReceive
  /-- R254: An unanswered module request is resent with its original SEQ after RETRY_US. -/
  | requestRetry (origin : Fin 5) (tag : Fin 65536)
  /-- R259: A request's completion timer expires, and the request is poisoned or held. -/
  | requestTimerExpiry (origin : Fin 5) (tag : Fin 65536)
  /-- R263: MEM.HA_TRK_CMD OP 0b01 returns a source to first contact. -/
  | trackerForget (d : Fin 4) (space : Bool) (src : Fin 262144)
  /-- R255: MEM.WIN_CMD OP 0b01 writes an access window. -/
  | windowWrite (index : Fin 4096)
  /-- R255: MEM.WIN_CMD OP 0b10 reads an access window. -/
  | windowRead (index : Fin 4096)
  /-- R260: MEM.HELD_CMD OP 0b01 releases one held request with RESULT 0x5. -/
  | heldRelease (index : Fin 4096)
  /-- R260: MEM.HELD_CMD OP 0b10 releases every held request to one DEST and space. -/
  | heldReleaseDest
  /-- R263: MEM.HELD_CMD OP 0b11 reads a held entry into MEM.HELD_DATA_w. -/
  | heldRead (index : Fin 4096)
  /-- R274: MEM.PAGE_CMD ALLOC places, zeroes and maps a page. -/
  | pageAlloc (h : Fin 268435456)
  /-- R274: MEM.PAGE_CMD FREE unmaps a page and frees its frames. -/
  | pageFree (h : Fin 268435456)
  /-- R274: MEM.PAGE_CMD READ copies a page-map entry into PAGE_DATA. -/
  | pageRead (h : Fin 268435456)
  /-- R274: MEM.PAGE_CMD SET_PIN writes a page's pin and moves a page that breaks it. -/
  | pageSetPin (h : Fin 268435456)
  /-- R268: A write to MEM.FIX_GIB_d grows the fixed window, leaving it PENDING, or shrinks it. -/
  | fixGibWrite (d : Fin 4) (gib : Fin 512)
  /-- R268: Enough frames are free and the new range is zeroed, so the grown window is mapped. -/
  | fixWindowMapped (d : Fin 4)
  /-- R280: Every 100 µs Easel classes dies, the buffer and CXL, adjusts the grant G and starts migrations. -/
  | easelInterval (u0 : Fin 101) (u1 : Fin 101) (u2 : Fin 101) (u3 : Fin 101) (waited : Fin 16) (cxlRd : Fin 101) (cxlWr : Fin 101)
  /-- R281: A page's chunks are copied; the map switches and held accesses are released. -/
  | pageCopyDone (h : Fin 268435456)
  /-- R276: Every HEAT_MS every page's HEAT is halved. -/
  | heatHalving
  /-- R279: Lowering SPILL_MAX_GIB reclaims spill blocks and drops their packets under reason 0x15. -/
  | spillMaxWrite (gib : Fin 65536)
  /-- R283: A write of 1 to MEM.STACK_RETIRED starts, queues or refuses a stack retirement. -/
  | stackRetireRequest (w : Word)
  /-- R283: Frames in use on the die fall to the bound, and slice relocation begins. -/
  | stackDemoteDone (k : Fin 32)
  /-- R283: The last slice is relocated; the stack becomes RETIRED, powers down and raises EV_STACK_STATE. -/
  | stackRelocateDone (k : Fin 32)
  /-- R284: A stack stops responding or exceeds the uncorrectable limit and becomes FAILED. -/
  | stackFail (k : Fin 32)
  /-- R264: Each line is scrub-read once per 24 h, and corrected lines are written back. -/
  | hbmScrub (home : Fin 4) (line : Fin 1099511627776) (outcome : Fin 4)
  /-- R286: A write to CXL.PORT_CTRL_k.EN trains and uses the port, or takes it down. -/
  | cxlPortEnable (k : Fin 8) (en : Bool) (fix : Fin 8192)
  /-- R272: CXL.PORT_CTRL_k.REMOVE starts managed removal, moving the port's pages off. -/
  | cxlRemove (k : Fin 8)
  /-- R272: Every page has left the port, and the link is taken down. -/
  | cxlRemoveDone (k : Fin 8)
  /-- R272: A CXL link goes down or its device reports a fatal error; the port becomes FAILED and its pool pages become LOST. -/
  | cxlPortFail (k : Fin 8)
  /-- R272: A failed port retrains every 1 s while EN is 1. -/
  | cxlRetrainTick (k : Fin 8)
  /-- R270: Hub firmware reads a device event through the mailbox and raises EV_CXL_PORT. -/
  | cxlDeviceEvent (k : Fin 8) (cls : Fin 256)
  /-- R292: A packet-mode slot begins; each plane hops colour, lends credits and sends its opening LC_DISCOVER. -/
  | slotStart
  /-- R303: An LC_DISCOVER arrives, and the sender's peer state and plane placement are updated. -/
  | discoverReceive (p : Fin 64) (skew : Fin 256) (power : Fin 256)
  /-- R303: LC_READY from a peer makes it LIVE. -/
  | lcReadyReceive (port : Fin 1088)
  /-- R303: LC_WITHDRAW from a peer makes it WITHDRAWN. -/
  | lcWithdrawReceive (port : Fin 1088)
  /-- R304: A peer is silent for DEAD_NS and becomes UNKNOWN or DEAD. -/
  | peerSilenceTimeout (j : Fin 64)
  /-- R302: After two frames of listening, planes are lit in the observed mode and colour, or by BASE_PATTERN. -/
  | prismListenEnd
  /-- R298: TB0 reaches a pattern's AT, and the changing planes enter RETUNE. -/
  | patternApply
  /-- R298: At AT + G_PHASE_NS the planes enter their new states, the fence applies, and queued packets are re-homed. -/
  | planeRetuneEnd
  /-- R310: OPT.PAT_CMD OP 0b01 writes a shadow pattern entry. -/
  | patWriteShadow (pattern : Fin 256)
  /-- R310: OPT.PAT_CMD OP 0b10 reads a shadow pattern entry. -/
  | patReadShadow (pattern : Fin 256)
  /-- R310: OPT.PAT_CMD OP 0b11 reads an active pattern entry. -/
  | patReadActive (pattern : Fin 256)
  /-- R293: A Prism timing write is discarded, and CFG_ERR is set, when G_PKT would exceed SLOT_NS/4. -/
  | prismGuardWrite (ctrl : Bool) (w : Word)
  /-- R310: OPT.LASER_CMD OP 0b01 reads a laser's record into OPT.LASER_DATA. -/
  | laserRead (e : Fin 32) (l : Fin 256)
  /-- R307: OPT.LASER_CMD OP 0b10 starts a spare-laser takeover. -/
  | laserTakeoverRequest (e : Fin 32) (l : Fin 256)
  /-- R307: The spare reaches temperature and is locked to the lane's wavelength and power. -/
  | spareWarmDone (e : Fin 18) (l : Fin 256) (locked : Bool)
  /-- R307: At the switch instant the matrix moves to the spare, the old laser retires, and EV_LASER is raised. -/
  | takeoverSwitch (e : Fin 18) (l : Fin 256)
  /-- R308: A working laser fails; the port runs on one lane, and a takeover starts. -/
  | laserFail (e : Fin 18) (l : Fin 256)
  /-- R306: Every 1 s each laser's bias ratio is measured and its equivalent hours are updated. -/
  | laserAgeingTick (e : Fin 18) (l : Fin 256) (ratio : Fin 65536) (power : Word) (rx : Fin 65536)
  /-- R305: A lane's power falls below the loss-of-signal threshold. -/
  | opticalLos (port : Fin 1088) (lane : Fin 2)
  /-- R305: Loss of signal clears after 1 µs above the threshold plus 1.0 dB. -/
  | opticalLosClear (port : Fin 1088) (lane : Fin 2)
  /-- R305: A lane crosses its low or high warning level, and EV_OPT_POWER is raised. -/
  | opticalPowerWarning (port : Fin 1088) (lane : Fin 2) (high : Bool) (power : Word)
  /-- R305: A lane is overloaded and is held out of service. -/
  | opticalOverload (port : Fin 1088) (lane : Fin 2) (power : Word)
  /-- R305: After 1 ms below +4.0 dBm an overloaded lane returns. -/
  | overloadClear (port : Fin 1088) (lane : Fin 2)
  /-- R315: A lane achieves PMA lock and FEC alignment during training. -/
  | laneLock (port : Fin 1088) (lane : Fin 2)
  /-- R315: After lane deskew, 8 good flits give flit lock, and control flits are exchanged. -/
  | flitLock (port : Fin 1088) (req : Fin 65536) (rsp : Fin 65536) (coll : Fin 65536) (bulk : Fin 65536)
  /-- R315: A training step does not complete in time, and training fails. -/
  | trainingStepTimeout (port : Fin 1088)
  /-- R315: The 1 ms rest after a failed training ends, and training restarts. -/
  | trainingRestExpiry (port : Fin 1088)
  /-- R66: An LC_IDENT arrives, and the port joins a bundle or is held out of service. -/
  | lcIdentReceive (port : Fin 1024)
  /-- R314: Every 100 µs the module repeats LC_IDENT. -/
  | lcIdentTimer (port : Fin 1024)
  /-- R319: A data flit is checked and accepted in FSEQ order, or discarded. -/
  | flitReceive (port : Fin 1088) (sender : Fin 64) (late : Bool) (f : Flit)
  /-- R314: A control flit's acknowledgement, NAK, credits and link-local packets are applied. -/
  | controlFlitReceive (port : Fin 1088) (sender : Fin 64) (f : Flit)
  /-- R319: The oldest unacknowledged flit waits ACK_TIMEOUT_NS and is replayed. -/
  | ackTimeout (port : Fin 1088) (peer : Fin 64)
  /-- R317: No good flit arrives for DOWN_NS while signal is present. -/
  | linkSilenceTimeout (port : Fin 1088)
  /-- R316: A lane loses lock or exceeds its error limit, and the port runs degraded on one lane. -/
  | laneFail (port : Fin 1088) (lane : Fin 2)
  /-- R316: A retrained lane rejoins the port at an agreed flit boundary. -/
  | laneRejoin (port : Fin 1088) (lane : Fin 2)
  /-- R351: Every TIME_US a TIME packet is sent on each eligible leaf port. -/
  | timePacketTimer
  /-- R326: A write of PLn.PORT_CTRL_p.EN trains the port, or takes it down and dark. -/
  | portEnableWrite (port : Fin 1088) (en : Bool)
  /-- R324: DRAIN set to 1 sends LC_WITHDRAW and moves the port's buckets away. -/
  | portDrain (port : Fin 1088)
  /-- R324: DRAIN cleared sends LC_READY and returns the port to service. -/
  | portUndrain (port : Fin 1088)
  /-- R324: Every move completes and the queues are empty, or DRAIN_US expires and the rest goes to handover. -/
  | portDrainEnd (port : Fin 1088)
  /-- R324: RETRAIN takes the link down with reason 0x7 and trains it again. -/
  | portRetrain (port : Fin 1088)
  /-- R324: PRESET retrains the port and returns its RW fields to reset. -/
  | portReset (port : Fin 1088)
  /-- R326: A LANE_MASK change removes or adds a lane without a lane degrade. -/
  | laneMaskWrite (port : Fin 1088) (mask : Fin 4)
  /-- R35: A die-to-die link goes down, with the effect fixed for its type, and raises EV_DIE_LINK. -/
  | dieLinkDown (n : Fin 23)
  /-- R34: A down die link is retrained every 1 s. -/
  | dieLinkRetrain (n : Fin 23) (wires : Fin 64)
  /-- R42: A consumer announces D after reset, and its producer loads its credits. -/
  | creditAnnounce (island : Fin 112)
  /-- R331: An Ethernet frame is checked, bridged, routed or flooded. -/
  | ethFrameReceive (port : Fin 1024) (bytes : List Byte)
  /-- R336: Once per second each pipeline removes learned MAC entries past AGE_S. -/
  | macAgeingScan (pl : Fin 16)
  /-- R340: ETH.CMD OP 0b01 writes a MAC entry, or a shadow route, next-hop or VLAN entry. -/
  | ethWriteEntry (table : Fin 8) (pipe : Fin 16) (index : Fin 65536)
  /-- R340: ETH.CMD OP 0b10 reads an entry. -/
  | ethReadEntry (table : Fin 8) (pipe : Fin 16) (index : Fin 65536)
  /-- R340: ETH.CMD OP 0b11 reads an active entry. -/
  | ethReadActive (table : Fin 8) (pipe : Fin 16) (index : Fin 65536)
  /-- R346: The selected source gives an offset measurement, which drives the TB0 state machine and rate correction. -/
  | timeMeasurement (offset : Int)
  /-- R346: No measurement arrives for 2 s; TB0 enters HOLDOVER or UNSET. -/
  | timeSourceTimeout
  /-- R346: A 1PPS edge is the instant of the first-lock step under SRC 0b11. -/
  | ppsEdge (ref10 : Bool)
  /-- R356: TIM.SET_CMD.SET requests the first-lock step to the SET time, or is discarded after the step. -/
  | timeSet
  /-- R345: Every 1 µs each TB0 copy is re-aligned to the master. -/
  | tb0Realign (island : Fin 112) (err : Int)
  /-- R353: A PTP message on the management port is processed under IEEE 1588. -/
  | ptpMessageReceive (m : PtpMsg)
  /-- R361: The Arsyn link goes down; transactions are voided and rings pause. -/
  | hostLinkDown
  /-- R361: The Arsyn link returns; the doorbell page is fetched again and started descriptors resume. -/
  | hostLinkUp (lanes : Fin 256)
  /-- R364: A NUDGE symbol causes a doorbell page read. -/
  | nudgeReceive (rings : Fin 65536)
  /-- R364: POLL_US passes, and the doorbell page is read. -/
  | doorbellPollTimer
  /-- R364: The doorbell page read returns, and the ring indices are updated. -/
  | doorbellPageReturn (status : Fin 3) (bytes : List Byte)
  /-- R367: A fetched descriptor returns and is checked and started. -/
  | descriptorFetch (tag : Fin 4096) (status : Fin 3) (words : List Word)
  /-- R358: An HMEM_RSP returns host data, or a failure status. -/
  | hmemResponse (tag : Fin 4096) (status : Fin 3) (bytes : List Byte)
  /-- R368: Descriptor NOP has no action. -/
  | hostNop (ring : Fin 16)
  /-- R368: Descriptor TX_PACKET sends an FFP packet from host memory. -/
  | txPacket (ring : Fin 16)
  /-- R368: Descriptor RX_POST posts a capture buffer. -/
  | rxPost (ring : Fin 16)
  /-- R368: Descriptor MEM_READ reads fabric memory into host memory. -/
  | memRead (ring : Fin 16)
  /-- R368: Descriptor MEM_WRITE writes host memory to fabric memory. -/
  | memWrite (ring : Fin 16)
  /-- R368: Descriptor MEM_ATOMIC performs one atomic and returns OLD. -/
  | memAtomic (ring : Fin 16)
  /-- R365: Writing EN to 1 zeroes the ring's indices and starts the ring. -/
  | hostRingEnable (ring : Fin 16) (w : Word)
  /-- R365: Writing EN to 0 stops fetching, aborts posted buffers, and disables the ring. -/
  | hostRingDisable (ring : Fin 16) (w : Word)
  /-- R375: The event or telemetry ring's EN write starts or stops that ring. -/
  | auxRingEnable (tel : Bool) (w : Word)
  /-- R366: A moderation interval ends, and one interrupt covers the deferred updates. -/
  | interruptModerationExpiry (ring : Fin 18)
  /-- R372: A queued event is written to the event ring when it has room. -/
  | eventDeliver
  /-- R377: Every 1 µs the input is sampled, and shedding levels are entered. -/
  | supplySample (v : Fin 65536) (watts : Fin 65536)
  /-- R378: A level's 10 ms dwell completes, and the level is released. -/
  | shedRelease
  /-- R388: PWR.SUPPLY_LOG.CLR clears LOWEST and M3_ENTRIES. -/
  | supplyLogClear
  /-- R45: PWR.DOM_CMD on turns a domain on after its required domains. -/
  | domainOn (n : Fin 32)
  /-- R45: PWR.DOM_CMD retention drains a domain and its dependants and puts them into retention. -/
  | domainRetention (n : Fin 32)
  /-- R45: PWR.DOM_CMD off drains a domain and its dependants and turns them off. -/
  | domainOff (n : Fin 32)
  /-- R46: A domain's crossings drain or the drain window expires, and the domain enters its new state. -/
  | domainDrainEnd (n : Fin 32)
  /-- R386: A domain completes its turn-on and its crossings handshake. -/
  | domainOnDone (n : Fin 32) (wires : List (Fin 16))
  /-- R387: A write of PWR.MSTATE.REQ enters or leaves M1, M2 or M3. -/
  | mstateRequest (req : Fin 4) (wake : Fin 65536)
  /-- R387: WAKE_S expires, and the module leaves M3. -/
  | m3WakeTimer
  /-- R383: Every 10 µs the sensors are sampled; slots, throttling, lanes and trips respond. -/
  | thermalSample (core : Int) (hub : Int) (dies : List Int) (stackList : List Int) (sites : List Int)
  /-- R385: An island's rail falls more than 4% below nominal, and its clock is stretched. -/
  | droopDetect (i : Fin 112)
  /-- R385: 1 µs after the rail recovers, the stretch is released. -/
  | droopRelease (i : Fin 112)
  /-- R412: TEL.SNAP_CTRL.REQ requests one snapshot target. -/
  | snapshotRequest
  /-- R413: Local TB0 reaches the target, and every island that is on latches its shadows. -/
  | snapshotTarget
  /-- R414: Loupe collects the shadows, the ledger checks them, and the snapshot is published and recorded. -/
  | snapshotComplete (fails : List Violation) (storage : Bool)
  /-- R416: Setting LOCK freezes the published bank. -/
  | snapshotLock
  /-- R416: Clearing LOCK publishes the newest completed snapshot. -/
  | snapshotUnlock
  /-- R416: LOCK clears itself 10 ms after it is set. -/
  | snapshotLockExpiry
  /-- R421: TEL.ISO_CMD RELEASE returns an isolated unit to service. -/
  | isolationRelease (kind : Fin 128) (index : Fin 16777216)
  /-- R410: TEL.QHWM CLR sets a queue's high-water mark to its current occupancy. -/
  | queueHwmClear (egress : Fin 1094) (tc : Fin 8)
  /-- R422: Once per second every part's score is evaluated and its state updated. -/
  | healthEvaluate (fec : List (Fin 1088 × Nat × Nat))
  /-- R426: An allowed health action starts at the part's next boundary or at the lease end. -/
  | healthActionStart (kind : Fin 256) (index : Fin 16777216)
  /-- R427: A part's pin expires, and its health actions resume. -/
  | healthPinExpiry (kind : Fin 256) (index : Fin 16777216)
  /-- R435: TEL.HEALTH_CMD OP 0b01 reads a part into HEALTH_DATA. -/
  | healthRead (kind : Fin 256) (index : Fin 65536)
  /-- R427: TEL.HEALTH_CMD OP 0b10 pins a part alive for PIN_S. -/
  | healthPin (kind : Fin 256) (index : Fin 65536)
  /-- R427: TEL.HEALTH_CMD OP 0b11 unpins a part. -/
  | healthUnpin (kind : Fin 256) (index : Fin 65536)
  /-- R431: A waiting maintenance activity is granted all its locks and starts. -/
  | maintLockGrant
  /-- R432: TEL.UCODE_CMD GO requests a hot microcode update of one island. -/
  | ucodeUpdate (island : Fin 128) (slot : Fin 2)
  /-- R432: The microcode is checked and loaded; the island drains, swaps banks and restarts. -/
  | ucodeLoadDone (c : ImageCheck)
  /-- R432: The island fails to announce within 10 µs, and the banks are swapped back. -/
  | ucodeAnnounceTimeout
  /-- R446: An I3C write of 0x01 to CMD writes M0 to MSTATE.REQ and wakes the module. -/
  | i3cWake
  /-- R444: The I3C ENTDAA command assigns a dynamic address. -/
  | i3cEntdaa (addr : Fin 128)
  /-- R444: The I3C SETDASA command assigns a dynamic address from the static one. -/
  | i3cSetdasa (static : Fin 128) (addr : Fin 128)
  /-- R444: The I3C RSTDAA command resets the dynamic address. -/
  | i3cRstdaa
  /-- R444: The I3C GETPID command returns the provisional ID. -/
  | i3cGetpid
  /-- R444: The I3C GETBCR command returns the bus characteristics register. -/
  | i3cGetbcr
  /-- R444: The I3C GETDCR command returns the device characteristics register. -/
  | i3cGetdcr
  /-- R444: The I3C GETSTATUS command returns the target status. -/
  | i3cGetstatus
  /-- R444: The I3C ENEC command enables in-band interrupts. -/
  | i3cEnec
  /-- R444: The I3C DISEC command disables in-band interrupts. -/
  | i3cDisec
  /-- R272: A CXL port completes training after PERST# release and becomes UP, and its fixed extent and pool are mapped. -/
  | cxlPortTrained (k : Fin 8) (cap : Fin 16384) (width : Fin 17) (speed : Fin 3) (decoders : Fin 9)
  /-- R226: Data read by a Palette MOVE returns from HBM, CXL or a relayed page, and is placed or fails the list as poisoned. -/
  | moveReadReturn (e : Fin 8) (i : Fin 16)
  /-- R353: An IEEE 1588 port timer expires, and the clock sends Sync and Follow_Up as master or Delay_Req as slave, or runs announce timeouts. -/
  | ptpMessageTimer (t : PtpTimer)
  /-- R445: An I3C write to ALERT_EN changes which causes drive ALERT_N and the in-band interrupt. -/
  | alertEnWrite (v : Fin 256)
deriving DecidableEq, Repr

end Sys2Proof
end

