-- ==== Sys2Proof/Decode.lean ====
section
/-!
DEFINITION. The reading of a command from a word. spec/opcode_table.json gives no row any bits: the
module's commands reach it as pin, link, register and timer events, none of them spelt by a word.
-/
namespace Sys2Proof

/-- The command that a word of `nbits` bits spells by the table's bits: none, as no row gives bits.
(DEDUCED, log entry 156) -/
def decodeTableWord (_nbits _w : Nat) : Option Instr := none

end Sys2Proof
end

