-- ==== Sys2Proof/Config.lean ====
section
/-!
DEFINITION. What the spec leaves open and the model does not choose: opaque constants without a body.
No proof can see a value of them, and a statement that holds here holds for every value.
-/
namespace Sys2Proof

/-- The bucket of a MAC table that a key falls in: a hash of (VID, MAC) (R335). -/
opaque Config.macBucket : Nat → Nat

/-- The draw of a pipeline's pseudo-random generator (R86): the n-th number drawn. -/
opaque Config.sprayDraw : Nat → Nat

/-- The rate offset that TB0 takes on a measurement, before the bound of R347, in units of 10^-12. -/
opaque Config.rateOffset : Nat → Int

/-- The IEEE 1588 data set of the module's own clock, with its identity, as one number: the smaller the better
(R353 names its clockClass alone). -/
opaque Config.ptpRank : Nat

/-- The error of a special function's result (R201), before its bound, in units in the last place. -/
opaque Config.sfuUlp : Nat → Word → Int

/-- A special function's result where the spec states none (the reciprocal square root of −0 and of a
negative number). -/
opaque Config.sfuOpen : Nat → Word → Word

/-- a × 2^n where b is a NaN, for which R228 states no n. -/
opaque Config.ldexpNan : Word → Word

/-- What a poisoned byte of memory reads as (R264): the spec calls the data not valid. -/
opaque Config.poisonByte : Nat → Byte

/-- What a byte of a fixed CXL extent holds that nothing has written since the port's n-th training
(R272: undefined contents). -/
opaque Config.cxlByte : Nat → Nat → Byte

/-- The row issue of an engine over the 1,024 cycles before a gap (R209), in units of 8 levels: the n-th
such figure. The model keeps no cycles. -/
opaque Config.rowIssue : Nat → Nat

/-- The bank that takes a cell among equally occupied ones (R108): by the packet's id and the cell's number. -/
opaque Config.bankTie : Nat → Nat → Nat

/-- One less than the depth of the crossing from PL17 into Canvas, which R38 leaves to the implementation. -/
opaque Config.canvasDepth : Nat

/-- The cycles that an island's clock has run at an instant, of the islands whose rate R37 does not give. -/
opaque Config.islandCycles : Nat → Nat → Nat

/-- An argument of an event that the spec names without saying what it holds (EV_THERMAL of the core and hub
dies, R383): the n-th one. -/
opaque Config.openArg : Nat → Nat

/-- A byte of a half of a list's journal area after a checkpoint or a record is put there: R240 gives no layout. By the
free values taken before, and the byte's number. -/
opaque Config.journalByte : Nat → Nat → Byte

/-- The SHA3-256 values that the boot measures over bytes whose layout the spec does not give (R403): the boot
ROM (KIND 0x01), the fuse state (0x05), microcode (0x06), the boot source (0x07); by KIND and a description. -/
opaque Config.measure : Nat → Nat → Nat → Nat → List (BitVec 8)

/-- The device identity's public key, of 1,312 bytes: derived from a secret that no one reads (R402). -/
opaque Config.identityKey : Nat → BitVec 8

/-- A signature by the identity key, of 2,420 bytes: hedged, so a new one each time (R404). -/
opaque Config.signature : Nat → Nat → BitVec 8

/-- The bytes that the I3C target answers to GETPID (0), GETBCR (1), GETDCR (2) and GETSTATUS (3), whose values the
spec does not give: the command, the n-th byte, and for GETSTATUS the free values taken before (R444); and for 4 the byte at
an offset of its space that the module's maker wrote, or that the table of R445 does not list. -/
opaque Config.i3cByte : Nat → Nat → Nat → BitVec 8

/-- Whether the series-table entry of a source lies on a stack of a home's die: R265 gives the table's size and not its layout.
By the home, the source and the stack 0 to 7 (R284). -/
opaque Config.seriesOn : Nat → Nat → Nat → Bool

/-- A byte of host memory that a register write has the module read, whose contents are outside the model: the free
values taken before, and the byte's number (R405). -/
opaque Config.hostByte : Nat → Nat → BitVec 8

end Sys2Proof
end

