-- ==== Sys2Proof/Machine/Fp.lean ====
section
/-!
DEFINITION. Element formats and fp32 arithmetic of Canvas and Palette (R169 to R174, R198 to R203): exact
values, decoding, rounding and encoding, the folds, and the operations of the element ALU and the
special-function unit.
-/
namespace Sys2Proof.Machine

/-- An exact value: ±man × 2^exp, an infinity, or a NaN. -/
inductive Fp where
  | nan
  | inf (neg : Bool)
  | fin (neg : Bool) (man : Nat) (exp : Int)
deriving DecidableEq, Repr

/-- What codes above the largest finite one mean. -/
inductive Specials where
  /-- the next code is infinity, those above it NaN (IEEE 754) -/
  | ieee
  /-- NaN, and no infinity (E4M3) -/
  | nanOnly
deriving DecidableEq, Repr

/-- A binary format: its width, precision, the exponent of its least unit, its largest finite magnitude
code, its codes above that. -/
structure FpFmt where
  width : Nat
  prec : Nat
  qmin : Int
  maxFin : Nat
  special : Specials
deriving DecidableEq, Repr

def fmtF32 : FpFmt := ⟨32, 24, -149, 0x7F7FFFFF, .ieee⟩
def fmtBf16 : FpFmt := ⟨16, 8, -133, 0x7F7F, .ieee⟩
def fmtF16 : FpFmt := ⟨16, 11, -24, 0x7BFF, .ieee⟩
def fmtE4M3 : FpFmt := ⟨8, 4, -9, 0x7E, .nanOnly⟩
def fmtE5M2 : FpFmt := ⟨8, 3, -16, 0x7B, .ieee⟩
def fmtE2M1 : FpFmt := ⟨4, 2, -1, 7, .nanOnly⟩

/-- The element format of a format code of R169. -/
def elemFmt (code : Nat) : FpFmt :=
  if code = 0 then fmtF32 else if code = 1 then fmtBf16 else if code = 2 then fmtF16
  else if code = 3 ∨ code = 5 then fmtE4M3 else if code = 4 ∨ code = 6 then fmtE5M2 else fmtE2M1

/-- The MX formats (R169). -/
def isMx (code : Nat) : Bool := 5 ≤ code

/-- Payload bytes for E elements (R169). -/
def payloadBytes (code elems : Nat) : Nat :=
  if code = 0 then 4 * elems else if code = 1 ∨ code = 2 then 2 * elems
  else if code = 3 ∨ code = 4 then elems
  else if code = 5 ∨ code = 6 then 33 * elems / 32 else 17 * elems / 32

/-- The value of a code of a format (R171: exact, subnormals kept). -/
def FpFmt.decode (f : FpFmt) (bits : Nat) : Fp :=
  let half := 2 ^ (f.width - 1)
  let neg := half ≤ bits % 2 ^ f.width
  let mag := bits % half
  let unit := 2 ^ (f.prec - 1)
  if f.maxFin < mag then
    match f.special with
    | .nanOnly => .nan
    | .ieee => if mag = f.maxFin + 1 then .inf neg else .nan
  else if mag < unit then .fin neg mag f.qmin
  else .fin neg (unit + mag % unit) (f.qmin + (mag / unit - 1 : Nat))

/-- Bits that a number takes. -/
def bitLen (n : Nat) : Nat := if n = 0 then 0 else Nat.log2 n + 1

/-- A magnitude shifted right, to nearest-even or toward zero. -/
def roundShift (nearest : Bool) (m sh : Nat) : Nat :=
  let q := m / 2 ^ sh
  let r := m % 2 ^ sh
  if nearest && (2 ^ sh < 2 * r || (2 * r == 2 ^ sh && q % 2 == 1)) then q + 1 else q

/-- The magnitude code of man × 2^exp in a format, rounded; it may lie above the largest finite code. -/
def FpFmt.magOf (f : FpFmt) (nearest : Bool) (man : Nat) (exp : Int) : Nat :=
  let q := max f.qmin (exp + (bitLen man : Int) - (f.prec : Int))
  let m := if q ≤ exp then man * 2 ^ (exp - q).toNat else roundShift nearest man (q - exp).toNat
  if man = 0 then 0 else (q - f.qmin).toNat * 2 ^ (f.prec - 1) + m

/-- What a finite value too large for the format becomes. -/
inductive Overflow where
  | infinity
  | largest
deriving DecidableEq, Repr

/-- The sign bit of a format. -/
def FpFmt.signBit (f : FpFmt) (neg : Bool) : Nat := if neg then 2 ^ (f.width - 1) else 0

/-- Encoding a value: rounding, overflow, and the codes given for infinities and NaN (R173). -/
def FpFmt.encode (f : FpFmt) (nearest : Bool) (ovf : Overflow) (infCode nanCode : Nat) (v : Fp) : Nat :=
  match v with
  | .nan => nanCode
  | .inf neg => f.signBit neg + infCode
  | .fin neg man exp =>
    let m := f.magOf nearest man exp
    f.signBit neg + (if f.maxFin < m then (match ovf with | .infinity => infCode | .largest => f.maxFin) else m)

/-! ## fp32 words -/

/-- A word as an fp32 value. -/
def f32 (w : Word) : Fp := fmtF32.decode w.toNat

/-- The fp32 word of a value, rounded to nearest-even; a NaN is 0x7FC0_0000 (R173, R200). -/
def toF32 (v : Fp) : Word := BitVec.ofNat 32 (fmtF32.encode true .infinity 0x7F800000 0x7FC00000 v)

/-- The largest |man × 2^exp| of two numbers brought to one exponent: the pair of mantissas. -/
def aligned (m1 : Nat) (e1 : Int) (m2 : Nat) (e2 : Int) : Nat × Nat × Int :=
  let e := min e1 e2
  (m1 * 2 ^ (e1 - e).toNat, m2 * 2 ^ (e2 - e).toNat, e)

/-- The signed mantissa. -/
def signedMan (neg : Bool) (m : Nat) : Int := if neg then -(m : Int) else m

/-- An exact sum; a zero sum of unlike signs is +0, and unlike infinities give NaN (R172, R200). -/
def Fp.add (a b : Fp) : Fp :=
  match a, b with
  | .nan, _ => .nan
  | _, .nan => .nan
  | .inf s, .inf t => if s = t then .inf s else .nan
  | .inf s, _ => .inf s
  | _, .inf t => .inf t
  | .fin s m e, .fin t n k =>
    let r := aligned m e n k
    let sum := signedMan s r.1 + signedMan t r.2.1
    .fin (if sum = 0 then s && t else sum < 0) sum.natAbs r.2.2

/-- An exact product. -/
def Fp.mul (a b : Fp) : Fp :=
  match a, b with
  | .nan, _ => .nan
  | _, .nan => .nan
  | .inf s, .inf t => .inf (s != t)
  | .inf s, .fin t n _ => if n = 0 then .nan else .inf (s != t)
  | .fin s m _, .inf t => if m = 0 then .nan else .inf (s != t)
  | .fin s m e, .fin t n k => .fin (s != t) (m * n) (e + k)

/-- The negative of a value. -/
def Fp.neg : Fp → Fp
  | .nan => .nan
  | .inf s => .inf (!s)
  | .fin s m e => .fin (!s) m e

/-- A value times 2^n, exact. -/
def Fp.scale (v : Fp) (n : Int) : Fp :=
  match v with
  | .fin s m e => .fin s m (e + n)
  | x => x

/-- The order of values with −0 below +0 (R170, R201): `a` is below `b`. NaN is unordered.
(DESIGN CHOICE, log entry 10) -/
def Fp.below (a b : Fp) : Bool :=
  match a, b with
  | .nan, _ => false
  | _, .nan => false
  | .inf s, .inf t => s && !t
  | .inf s, .fin _ _ _ => s
  | .fin _ _ _, .inf t => !t
  | .fin s m e, .fin t n k =>
    let r := aligned m e n k
    let x := signedMan s r.1
    let y := signedMan t r.2.1
    x < y || (x == y && m == 0 && s && !t)

/-- Numeric comparison, in which −0 equals +0. -/
def Fp.lt (a b : Fp) : Bool :=
  match a, b with
  | .fin _ 0 _, .fin _ 0 _ => false
  | _, _ => a.below b

/-! ## fp32 operations (R170, R172, R201) -/

def f32Nan : Word := 0x7FC00000#32
def f32Add (a b : Word) : Word := toF32 ((f32 a).add (f32 b))
def f32Sub (a b : Word) : Word := toF32 ((f32 a).add (f32 b).neg)
def f32Mul (a b : Word) : Word := toF32 ((f32 a).mul (f32 b))
/-- Fused multiply-add: one rounding. -/
def f32Fma (a b c : Word) : Word := toF32 (((f32 a).mul (f32 b)).add (f32 c))
def isNan (w : Word) : Bool := f32 w == .nan
/-- The lesser, −0 below +0, NaN if either is NaN. -/
def f32Min (a b : Word) : Word := if isNan a || isNan b then f32Nan else if (f32 b).below (f32 a) then b else a
/-- The greater, NaN if either is NaN. -/
def f32Max (a b : Word) : Word := if isNan a || isNan b then f32Nan else if (f32 a).below (f32 b) then b else a
def f32One : Word := 0x3F800000#32

/-- The integer that a value truncates to, toward zero, clamped to ±255 (R228). -/
def truncClamp (v : Fp) : Int :=
  match v with
  | .nan => 0
  | .inf s => if s then -255 else 255
  | .fin s m e =>
    let n := if 0 ≤ e then m * 2 ^ (min e.toNat 300) else m / 2 ^ (-e).toNat
    let c := min n 255
    if s then -(c : Int) else c

/-- a × 2^n with n from b (R228); for a NaN b the spec states no n. -/
def f32Ldexp (a b : Word) : Word :=
  if isNan b then Config.ldexpNan a else toF32 ((f32 a).scale (truncClamp (f32 b)))

/-! ## Special functions (R201): a reference value, off by a free number of units in the last place -/

/-- Fraction bits of the reference computations. -/
def fixBits : Nat := 160

/-- ln 2 × 2^160. -/
def ln2Fix : Nat := 0xB17217F7D1CF79ABC9E3B39803F2F6AF40F34326

/-- exp x = 1 + x (1 + x/2 (1 + …)), n terms, in fixed point. -/
def expHorner (x : Nat) : Nat → Nat → Nat
  | 0, acc => acc
  | n + 1, acc => expHorner x n (2 ^ fixBits + x * acc / 2 ^ fixBits / (n + 1))

/-- 2^f × 2^160 for a fraction f × 2^160. -/
def exp2Fix (f : Nat) : Nat := expHorner (f * ln2Fix / 2 ^ fixBits) 40 (2 ^ fixBits)

/-- The fraction bits of log2 of a number in [1, 2), in fixed point, most significant first. -/
def log2Bits : Nat → Nat → Nat → Nat
  | 0, _, acc => acc
  | n + 1, m, acc =>
    let sq := m * m / 2 ^ fixBits
    if 2 ^ (fixBits + 1) ≤ sq then log2Bits n (sq / 2) (2 * acc + 1) else log2Bits n sq (2 * acc)

/-- floor of the square root, by bits from 2^n down. -/
def sqrtBits : Nat → Nat → Nat → Nat
  | 0, _, r => r
  | n + 1, x, r => if (r + 2 ^ n) * (r + 2 ^ n) ≤ x then sqrtBits n x (r + 2 ^ n) else sqrtBits n x r

/-- A fixed-point number, truncated, as a value: one more bit tells that something was cut off. -/
def stickyFix (n : Nat) (q : Int) : Fp := .fin false (2 * n + 1) (q - 1)

/-- 2^a for a finite a. -/
def exp2Ref (s : Bool) (m : Nat) (e : Int) : Fp :=
  if m = 0 then .fin false 1 0
  else if 12 ≤ e + (bitLen m : Int) then (if s then .fin false 0 0 else .inf false)
  else
    let x := if 0 ≤ e + fixBits then m * 2 ^ (e + fixBits).toNat else m / 2 ^ (-(e + fixBits)).toNat
    let whole := x / 2 ^ fixBits
    let frac := x % 2 ^ fixBits
    if !s then
      if frac = 0 ∧ -(fixBits : Int) ≤ e then .fin false 1 whole else stickyFix (exp2Fix frac) (whole - fixBits)
    else if frac = 0 ∧ -(fixBits : Int) ≤ e then .fin false 1 (-(whole : Int))
    else stickyFix (exp2Fix (2 ^ fixBits - max 1 frac)) (-(whole : Int) - 1 - fixBits)

/-- log2 of m × 2^e. -/
def log2Ref (m : Nat) (e : Int) : Fp :=
  let k := bitLen m - 1
  let norm := m * 2 ^ (fixBits - k)
  let frac := log2Bits 120 norm 0
  let whole : Int := e + k
  let v : Int := whole * 2 ^ 120 + frac
  if norm = 2 ^ fixBits then .fin (whole < 0) whole.natAbs 0
  else .fin (v < 0) (2 * v.natAbs + 1) (-121)

/-- 1 / (m × 2^e). -/
def rcpRef (s : Bool) (m : Nat) (e : Int) : Fp :=
  let n := 2 ^ 200 / m
  .fin s (2 * n + bit01 (n * m != 2 ^ 200)) (-(e + 201))

/-- 1 / √(m × 2^e). -/
def rsqrtRef (m : Nat) (e : Int) : Fp :=
  let odd := (e % 2).toNat
  let n := sqrtBits 128 (2 ^ 200 / (m * 2 ^ odd)) 0
  .fin false (2 * n + bit01 (n * n * (m * 2 ^ odd) != 2 ^ 200)) (-((e - odd) / 2 + 101))

/-- The sign bit of an fp32 word as a number. -/
def mag31 (w : Word) : Nat := w.toNat / 2 ^ 31 * 2 ^ 31

/-- A finite result moved by a free number of units in the last place, at most `k` either way; zeros,
infinities and NaNs stand. -/
def deviate (k : Nat) (d : Int) (w : Word) : Word :=
  match f32 w with
  | .fin _ m _ =>
    let mag : Nat := w.toNat % 2 ^ 31
    let off : Int := max (-(k : Int)) (min (k : Int) d)
    if m = 0 then w
    else BitVec.ofNat 32 (mag31 w + (min (0x7F800000 : Int) (max 0 ((mag : Int) + off))).toNat)
  | _ => w

/-- The functions of the special-function unit. -/
inductive Sfu where
  | exp2 | log2 | rcp | rsqrt
deriving DecidableEq, Repr

def Sfu.code : Sfu → Nat
  | .exp2 => 0
  | .log2 => 1
  | .rcp => 2
  | .rsqrt => 3

/-- The reference value; `none` where the spec states no result (rsqrt of −0 or of a negative number). -/
def Sfu.ref (f : Sfu) (v : Fp) : Option Fp :=
  match f, v with
  | _, .nan => some .nan
  | .exp2, .inf s => some (if s then .fin false 0 0 else .inf false)
  | .exp2, .fin s m e => some (exp2Ref s m e)
  | .log2, .inf s => some (if s then .nan else .inf false)
  | .log2, .fin s m e => some (if m = 0 then .inf true else if s then .nan else log2Ref m e)
  | .rcp, .inf s => some (.fin s 0 0)
  | .rcp, .fin s m e => some (if m = 0 then .inf s else rcpRef s m e)
  | .rsqrt, .inf s => if s then none else some (.fin false 0 0)
  | .rsqrt, .fin s m e => if s then none else if m = 0 then some (.inf false) else some (rsqrtRef m e)

/-- A result of the special-function unit: within 2 units in the last place for exp2 and log2, 1 for the
reciprocals (R201); where the spec states none, free. (DESIGN CHOICE, log entry 82) -/
def Sfu.apply (f : Sfu) (a : Word) : Word :=
  match f.ref (f32 a) with
  | none => Config.sfuOpen f.code a
  | some v => deviate (match f with | .exp2 | .log2 => 2 | _ => 1) (Config.sfuUlp f.code a) (toF32 v)

/-! ## Payloads (R169, R171, R173, R174) -/

/-- Consecutive little-endian numbers of `n` bytes; fuel bounds their count. -/
def chunksLE (n : Nat) : Nat → List Byte → List Nat
  | 0, _ => []
  | k + 1, bs => if bs.isEmpty then [] else natOfBytesLE (bs.take n) :: chunksLE n k (bs.drop n)

/-- The element codes of `k` elements of a format from its packed bytes, e first in the low bits. -/
def elemCodes (code k : Nat) (bs : List Byte) : List Nat :=
  if code = 0 then chunksLE 4 k bs
  else if code = 1 ∨ code = 2 then chunksLE 2 k bs
  else if code = 7 then (bs.flatMap (fun b => [b.toNat % 16, b.toNat / 16])).take k
  else (bs.map (·.toNat)).take k

/-- Pairs of four-bit codes as bytes, the first low. -/
def pairBytes : List Nat → List Byte
  | a :: b :: l => BitVec.ofNat 8 (a % 16 + 16 * b) :: pairBytes l
  | [a] => [BitVec.ofNat 8 (a % 16)]
  | [] => []

/-- The packed bytes of element codes. -/
def codeBytes (code : Nat) (cs : List Nat) : List Byte :=
  if code = 0 then cs.flatMap (bytesLEOfNat 4)
  else if code = 1 ∨ code = 2 then cs.flatMap (bytesLEOfNat 2)
  else if code = 7 then pairBytes cs
  else cs.map (BitVec.ofNat 8)

/-- An element code to fp32, with its block scale for an MX format (R171). -/
def decodeElem (code scale c : Nat) : Word :=
  let v := (elemFmt code).decode c
  if isMx code then (if scale = 255 then f32Nan else toF32 (v.scale ((scale : Int) - 127)))
  else toF32 v

/-- The bytes of one MX block's elements. -/
def mxElemBytes (code : Nat) : Nat := if code = 7 then 16 else 32

/-- The blocks of an MX payload as (scale, codes); fuel bounds the number of blocks. -/
def mxBlocks (code : Nat) : Nat → List Byte → List (Nat × List Nat)
  | 0, _ => []
  | k + 1, bs =>
    match bs with
    | [] => []
    | s :: rest => (s.toNat, elemCodes code 32 (rest.take (mxElemBytes code)))
        :: mxBlocks code k (rest.drop (mxElemBytes code))

/-- A payload of E elements decoded to fp32 words (R171). -/
def decodePayload (code elems : Nat) (bs : List Byte) : List Word :=
  if isMx code then (mxBlocks code (elems / 32) bs).flatMap (fun b => b.2.map (decodeElem code b.1))
  else (elemCodes code elems bs).map (decodeElem code 0)

/-- One fp32 word to a non-MX element code (R173). `zero`: rounding toward zero, for bf16 and fp16. -/
def encodeElem (code : Nat) (zero : Bool) (w : Word) : Nat :=
  let v := f32 w
  if code = 0 then (if v = .nan then 0x7FC00000 else w.toNat)
  else if code = 1 then fmtBf16.encode (!zero) (if zero then .largest else .infinity) 0x7F80 0x7FC0 v
  else if code = 2 then fmtF16.encode (!zero) (if zero then .largest else .infinity) 0x7C00 0x7E00 v
  else if code = 3 then fmtE4M3.encode true .largest 0x7E 0x7F v
  else fmtE5M2.encode true .largest 0x7C 0x7E v

/-- emax and maxv = man × 2^exp of an MX element format (R174). -/
def mxEmax (code : Nat) : Int := if code = 5 then 8 else if code = 6 then 15 else 2
def mxMaxMan (code : Nat) : Nat := if code = 5 ∨ code = 6 then 7 else 3
def mxMaxExp (code : Nat) : Int := if code = 5 then 6 else if code = 6 then 13 else 1

/-- The largest magnitude of a block's finite values, as man × 2^exp. -/
def blockMax : List Word → Nat × Int
  | [] => (0, 0)
  | w :: ws =>
    let r := blockMax ws
    match f32 w with
    | .fin _ m e =>
      let a := aligned m e r.1 r.2
      if a.2.1 < a.1 then (m, e) else r
    | _ => r

/-- The scale exponent of a block of largest magnitude man × 2^exp (R174). `noClip`: rule 0b01. -/
def mxScale (code : Nat) (noClip : Bool) (man : Nat) (exp : Int) : Int :=
  if man = 0 then -127
  else
    let x := exp + (bitLen man : Int) - 1 - mxEmax code
    let a := aligned man exp (mxMaxMan code) (mxMaxExp code + x)
    let x := if noClip && decide (a.2.1 < a.1) then x + 1 else x
    max (-127) (min 127 x)

/-- One block of 32 fp32 words to its scale and element codes (R174). -/
def encodeBlock (code : Nat) (noClip : Bool) (ws : List Word) : Nat × List Nat :=
  if ws.any (fun w => match f32 w with | .fin _ _ _ => false | _ => true) then (255, ws.map (fun _ => 0))
  else
    let m := blockMax ws
    let x := mxScale code noClip m.1 m.2
    let f := elemFmt code
    ((x + 127).toNat, ws.map (fun w => f.encode true .largest f.maxFin 0 ((f32 w).scale (-x))))

/-- Blocks of 32 words; fuel bounds their number. -/
def blocksOf : Nat → List Word → List (List Word)
  | 0, _ => []
  | k + 1, ws => if ws.isEmpty then [] else ws.take 32 :: blocksOf k (ws.drop 32)

/-- fp32 words to a payload (R173, R174). -/
def encodePayload (code : Nat) (zero noClip : Bool) (ws : List Word) : List Byte :=
  if isMx code then
    (blocksOf (ws.length / 32) ws).flatMap (fun b =>
      let r := encodeBlock code noClip b
      BitVec.ofNat 8 r.1 :: codeBytes code r.2)
  else codeBytes code (ws.map (encodeElem code zero))

/-! ## Folds (R170, R172) -/

/-- One element folded by an operation: 0 SUM, 1 MIN, 2 MAX, 3 COPY (which has one contribution). -/
def foldElem (op : Nat) (a b : Word) : Word :=
  if op = 0 then f32Add a b else if op = 1 then f32Min a b else if op = 2 then f32Max a b else b

/-- Folding a decoded contribution into an accumulator, which is empty at first (R172). -/
def foldInto (op : Nat) (acc : Option (List Word)) (ws : List Word) : Option (List Word) :=
  match acc with
  | none => some ws
  | some a => some (List.zipWith (foldElem op) a ws)

/-- The sum of a row reduce: a fixed binary tree over neighbouring lanes; fuel bounds its depth (R202). -/
def pairSums (f : Word → Word → Word) : List Word → List Word
  | a :: b :: l => f a b :: pairSums f l
  | l => l
def treeFold (f : Word → Word → Word) : Nat → List Word → Word
  | 0, l => l.headD 0
  | n + 1, l => treeFold f n (pairSums f l)

end Sys2Proof.Machine
end

