-- ==== Sys2Proof/Machine/Packet.lean ====
section
/-!
DEFINITION. FFP packets and link flits (03_ffp_packets.md, 14_links_and_retry.md): field access by word
and bit range, CRC-32C, the packet types, the checks that look at the packet alone, and the edits
that a switch makes.
-/
namespace Sys2Proof.Machine

/-- The reflected generator 0x82F6_3B78 of R52. -/
def crcPoly : Word := 0x82F63B78#32

/-- One bit of the CRC register's shift (R52). -/
def crcShift (c : Word) : Word := if c.toNat % 2 = 1 then (c >>> 1) ^^^ crcPoly else c >>> 1

/-- Eight shifts after a byte is added (R52). -/
def crcByte (c : Word) (b : Byte) : Word :=
  let c := c ^^^ (b.setWidth 32)
  crcShift (crcShift (crcShift (crcShift (crcShift (crcShift (crcShift (crcShift c)))))))

/-- CRC-32C of bytes in sending order: preset to ones, result inverted (R52). -/
def crc32c (bs : List Byte) : Word := ~~~ (bs.foldl crcByte 0xFFFFFFFF#32)

/-- The bytes of wire words, word 0 first, most significant byte first (R6). -/
def bytesOfWords (ws : List Word) : List Byte := ws.flatMap Word.bytesBE

end Sys2Proof.Machine

namespace Sys2Proof

/-- Header word i; a word that is missing reads 0. -/
def Packet.w (p : Packet) (i : Nat) : Word := p.hdr.getD i 0

/-- A header field: word i, bits [hi:lo]. -/
def Packet.fld (p : Packet) (i hi lo : Nat) : Nat := (p.w i).fld hi lo

/-- The packet with a header field replaced. -/
def Packet.setFld (p : Packet) (i hi lo v : Nat) : Packet :=
  { p with hdr := p.hdr.set i ((p.w i).setFld hi lo v) }

/-! The common fields of R51. -/
def Packet.version (p : Packet) : Nat := p.fld 0 31 28
def Packet.ty (p : Packet) : Nat := p.fld 0 27 20
def Packet.tc (p : Packet) : Nat := p.fld 0 19 17
/-- VC code: 0 VC_REQ, 1 VC_RSP, 2 VC_COLL, 3 VC_BULK. -/
def Packet.vc (p : Packet) : Nat := p.fld 0 16 15
def Packet.spray (p : Packet) : Nat := p.fld 0 14 14
def Packet.last (p : Packet) : Nat := p.fld 0 13 13
def Packet.mark (p : Packet) : Nat := p.fld 0 12 11
def Packet.echo (p : Packet) : Nat := p.fld 0 10 9
def Packet.hop (p : Packet) : Nat := p.fld 0 8 5
def Packet.length (p : Packet) : Nat := p.fld 1 31 19
def Packet.dest (p : Packet) : Nat := p.fld 1 18 1
def Packet.dspace (p : Packet) : Nat := p.fld 1 0 0
def Packet.src (p : Packet) : Nat := p.fld 2 31 14
def Packet.sspace (p : Packet) : Nat := p.fld 2 13 13
def Packet.job (p : Packet) : Nat := p.fld 3 31 16
def Packet.seq (p : Packet) : Nat := p.fld 4 31 8
def Packet.hcrc (p : Packet) : Word := p.w 11
/-- The 64-bit ADDR of words 5 and 6 (R59, R60). -/
def Packet.addr (p : Packet) : Nat := p.fld 5 31 0 * 2 ^ 32 + p.fld 6 31 0

/-- The CRC that the header must carry (R51, R52). -/
def Packet.hcrcOf (p : Packet) : Word := Machine.crc32c (Machine.bytesOfWords (p.hdr.take 11))

/-- Whether the header's CRC is correct (check 1 of R67). -/
def Packet.hcrcOk (p : Packet) : Bool := p.hcrc == p.hcrcOf

/-- The packet with its header CRC computed over the edited header (R53). -/
def Packet.sealed (p : Packet) : Packet := { p with hdr := p.hdr.take 11 ++ [p.hcrcOf] }

/-- Whether the trailer agrees with the payload; a packet of LENGTH 0 has none (R50, R54). -/
def Packet.trailerOk (p : Packet) : Bool := p.length == 0 || p.trailer == Machine.crc32c p.payload

/-- The packet with a correct trailer. -/
def Packet.withTrailer (p : Packet) : Packet := { p with trailer := Machine.crc32c p.payload }

/-- The packet with its trailer inverted, so that the receiver's check fails (R54). (DESIGN CHOICE, log entry 179) -/
def Packet.invertTrailer (p : Packet) : Packet := { p with trailer := ~~~ p.trailer }

/-- The packet's bytes on the wire: header, payload, trailer (R50). -/
def Packet.bytes (p : Packet) : List Byte :=
  Machine.bytesOfWords (p.hdr.take 12) ++ (if p.length = 0 then [] else p.payload ++ p.trailer.bytesBE)

/-- The byte count B of R108. -/
def Packet.size (p : Packet) : Nat := if p.length = 0 then 48 else 48 + p.length + 4

/-- Raising MARK to at least a level, with the header CRC recomputed (R53, R73). -/
def Packet.raiseMark (p : Packet) (m : Nat) : Packet :=
  if p.mark < m then (p.setFld 0 12 11 m).sealed else p

/-- Adding 1 to HOP, with the header CRC recomputed (R53, R55). -/
def Packet.addHop (p : Packet) : Packet := (p.setFld 0 8 5 (p.hop + 1)).sealed

/-! Type-specific fields of requests and responses (R60, R61). The type codes are those of R56. -/

/-- SIZE of a load request. -/
def Packet.reqSize (p : Packet) : Nat := p.fld 7 15 3
def Packet.reqTag (p : Packet) : Nat := p.fld 7 31 16
def Packet.isLoad (p : Packet) : Bool := p.ty == 0x10 || p.ty == 0x14
def Packet.isStore (p : Packet) : Bool := p.ty == 0x11 || p.ty == 0x15
def Packet.isAtomic (p : Packet) : Bool := p.ty == 0x12 || p.ty == 0x16
/-- The 46-bit offset of a request's ADDR. -/
def Packet.offset (p : Packet) : Nat := p.addr % 2 ^ 46

/-- Bytes that a request names. -/
def Packet.span (p : Packet) : Nat :=
  if p.isLoad then p.reqSize else if p.isStore then p.length else if p.fld 8 27 27 = 1 then 8 else 4
def Packet.aop (p : Packet) : Nat := p.fld 8 31 28
/-- The operand: 64 bits of words 9 and 10, or word 10. -/
def Packet.operand (p : Packet) : Nat :=
  if p.fld 8 27 27 = 1 then p.fld 9 31 0 * 2 ^ 32 + p.fld 10 31 0 else p.fld 10 31 0
/-- The swap value of a compare-and-swap's payload (R60). -/
def Packet.swap (p : Packet) : Nat := natOfBytesLE (p.payload.take p.span)

end Sys2Proof

namespace Sys2Proof.Machine

/-! The packet types of R56. -/
def tyDATA : Nat := 0x01
def tyACK : Nat := 0x02
def tyMCAST : Nat := 0x03
def tyPATH_MARK : Nat := 0x04
def tyLOAD : Nat := 0x10
def tySTORE : Nat := 0x11
def tyATOMIC : Nat := 0x12
def tyLOAD_H : Nat := 0x14
def tySTORE_H : Nat := 0x15
def tyATOMIC_H : Nat := 0x16
def tyLOAD_RSP : Nat := 0x18
def tySTORE_RSP : Nat := 0x19
def tyATOMIC_RSP : Nat := 0x1A
def tyRED_CONTRIB : Nat := 0x20
def tyRED_RESULT : Nat := 0x21
def tyPHASE_MARK : Nat := 0x22
def tyTIME : Nat := 0x30
def tyLC_IDENT : Nat := 0x40
def tyLC_WITHDRAW : Nat := 0x41
def tyLC_READY : Nat := 0x42
def tyLC_DISCOVER : Nat := 0x43

/-! The virtual channels of R51. -/
def vcREQ : Nat := 0
def vcRSP : Nat := 1
def vcCOLL : Nat := 2
def vcBULK : Nat := 3

/-- Whether a type code stands in the table of R56. -/
def tyKnown (t : Nat) : Bool :=
  [0x01, 0x02, 0x03, 0x04, 0x10, 0x11, 0x12, 0x14, 0x15, 0x16, 0x18, 0x19, 0x1A, 0x20, 0x21, 0x22,
   0x30, 0x40, 0x41, 0x42, 0x43].contains t

/-- The link-local types (R57). -/
def tyLinkLocal (t : Nat) : Bool := t == 0x30 || (0x40 ≤ t && t ≤ 0x43)

/-- The memory-semantic requests of R60. -/
def tyRequest (t : Nat) : Bool := [0x10, 0x11, 0x12, 0x14, 0x15, 0x16].contains t

/-- The request types that name a home agent (R56). -/
def tyHomeRequest (t : Nat) : Bool := [0x14, 0x15, 0x16].contains t

/-- The response types of R61. -/
def tyResponse (t : Nat) : Bool := [0x18, 0x19, 0x1A].contains t

/-- The VC that the table gives a type; PATH_MARK carries the VC of its flow (R56). -/
def tyVc (t : Nat) : Option Nat :=
  if t = tyPATH_MARK then none
  else if t = tyDATA ∨ t = tyMCAST then some vcBULK
  else if tyRequest t then some vcREQ
  else if t = tyRED_CONTRIB ∨ t = tyRED_RESULT ∨ t = tyPHASE_MARK then some vcCOLL
  else some vcRSP

/-- Whether DSPACE names the space of DEST for the type (R56). -/
def tyEitherSpace (t : Nat) : Bool :=
  t == tyACK || t == tyPATH_MARK || tyResponse t || t == tyPHASE_MARK

/-- The types for which SPRAY must be 0 (R56). -/
def tyNoSpray (t : Nat) : Bool :=
  t == tyPATH_MARK || t == tyRED_CONTRIB || t == tyPHASE_MARK || tyLinkLocal t

/-- The types whose LENGTH must be 0 (R56). -/
def tyLengthZero (t : Nat) : Bool :=
  t == tyACK || t == tyPATH_MARK || t == tyLOAD || t == tyLOAD_H || t == tySTORE_RSP ||
    t == tyATOMIC_RSP || t == tyPHASE_MARK || tyLinkLocal t

/-- Whether DEST lies in the spine space (R56, R80). -/
def destSpine (p : Packet) : Bool :=
  tyHomeRequest p.ty || p.ty == tyRED_CONTRIB || (tyEitherSpace p.ty && p.dspace == 1)

/-- The type-specific fields are legal under R59 to R62 (check 3 of R67). -/
def fieldsLegal (p : Packet) : Bool :=
  if p.ty = tyDATA then p.addr / 2 ^ 46 == p.dest && p.fld 7 15 0 != 0
  else if p.ty = tyMCAST then p.fld 8 31 16 != 0
  else if tyRequest p.ty then
    p.addr / 2 ^ 46 == p.dest
      && (if p.ty = tyLOAD ∨ p.ty = tyLOAD_H then p.fld 7 15 3 ≤ 4096 else p.fld 7 15 3 == 0)
      && (if p.ty = tyATOMIC ∨ p.ty = tyATOMIC_H then p.fld 8 31 28 ≤ 5
          else p.fld 8 31 28 == 0 && p.fld 8 27 27 == 0)
  else if tyResponse p.ty then p.fld 5 15 12 ≤ 5
  else true

/-- The fixed LENGTH of a type is as the table requires (check 3 of R67). -/
def lengthLegal (p : Packet) : Bool :=
  if tyLengthZero p.ty then p.length == 0
  else if p.ty = tyATOMIC ∨ p.ty = tyATOMIC_H then
    p.length == (if p.fld 8 31 28 = 5 then 8 else 0)
  else true

/-- Check 3 of R67: the type, its VC, SPRAY, DSPACE, fixed LENGTH and type-specific fields. -/
def wellTyped (p : Packet) : Bool :=
  tyKnown p.ty
    && (match tyVc p.ty with | none => true | some v => p.vc == v)
    && (!tyNoSpray p.ty || p.spray == 0)
    && (tyEitherSpace p.ty || p.dspace == 0)
    && lengthLegal p && fieldsLegal p

/-- The bits of words 5 to 10 that a type defines (R59 to R63, R164 to R166). -/
def typeMasks (ty : Nat) : List Nat :=
  let f := 0xFFFFFFFF
  if ty = tyDATA then [f, f, f]
  else if ty = tyMCAST then [f, 0x3FFF, f, 0xFFFF0000]
  else if tyRequest ty then [f, f, 0xFFFFFFF8, 0xF8000000, f, f]
  else if ty = tyATOMIC_RSP then [0xFFFFF800, f, f]
  else if tyResponse ty then [0xFFFFF800]
  else if ty = tyACK then [0xFFFFFF00, f, f]
  else if ty = tyRED_CONTRIB then [0xFFFFFF80, f, 0xFFFFE000]
  else if ty = tyRED_RESULT then [0xFFFFFFE0, f, 0xFFFF8000, 0xFFFFC000]
  else if ty = tyPHASE_MARK then [0xFFFFFFFC, f, 0x3FFFFFFF]
  else []

/-- The bits of words 0 to 11 that a type's header defines (R51). -/
def headerMasks (ty : Nat) : List Nat :=
  [0xFFFFFFE0, 0xFFFFFFFF, 0xFFFFE000, 0xFFFF0000, 0xFFFFFF00] ++ (typeMasks ty ++ [0, 0, 0, 0, 0, 0]).take 6 ++ [0xFFFFFFFF]

/-- A header as its originator sends it: reserved bits zero, HOP 0, ECHO zero but in ACK and responses (R53, R55, R74). -/
def asOriginated (p : Packet) : Packet :=
  let h := (p.hdr.zip (headerMasks p.ty)).map (fun x => x.1 &&& BitVec.ofNat 32 x.2)
  let q := ({ p with hdr := h } : Packet).setFld 0 8 5 0
  if p.ty = tyACK ∨ tyResponse p.ty then q else q.setFld 0 10 9 0

/-- Cells that B bytes occupy (R108). -/
def cellsOf (b : Nat) : Nat := (b + 255) / 256

/-- H of R89: CRC-32C of words 1 and 2 with every bit but DEST and SRC zero. -/
def flowHash (src dest : Nat) : Nat :=
  (crc32c (bytesOfWords [BitVec.ofNat 32 (dest % 2 ^ 18 * 2), BitVec.ofNat 32 (src % 2 ^ 18 * 2 ^ 14)])).toNat

/-- The bucket of a pinned flow: the low six bits of H (R89). -/
def bucketOf (src dest : Nat) : Nat := flowHash src dest % 64

/-- A module-built header: the common fields of R51, reserved bits zero (R53), VERSION 1, HOP 0. -/
structure HeaderSpec where
  ty : Nat
  tc : Nat := 0
  vc : Nat
  spray : Nat := 0
  echo : Nat := 0
  length : Nat := 0
  dest : Nat := 0
  dspace : Nat := 0
  src : Nat := 0
  sspace : Nat := 0
  job : Nat := 0
  seq : Nat := 0
deriving Repr

/-- A packet that the module originates: the header, words 5 to 10, and the payload, with both CRCs. -/
def mkPacket (h : HeaderSpec) (typeWords : List Word) (payload : List Byte) : Packet :=
  let w0 := ((((((0 : Word).setFld 31 28 1).setFld 27 20 h.ty).setFld 19 17 h.tc).setFld 16 15 h.vc).setFld 14 14 h.spray).setFld 10 9 h.echo
  let w1 := (((0 : Word).setFld 31 19 h.length).setFld 18 1 h.dest).setFld 0 0 h.dspace
  let w2 := ((0 : Word).setFld 31 14 h.src).setFld 13 13 h.sspace
  let w3 := (0 : Word).setFld 31 16 h.job
  let w4 := (0 : Word).setFld 31 8 h.seq
  let tw := (typeWords ++ List.replicate 6 0#32).take 6
  ({ hdr := [w0, w1, w2, w3, w4] ++ tw, payload := payload, trailer := 0 } : Packet).sealed.withTrailer

end Sys2Proof.Machine

namespace Sys2Proof

/-! Flits (R313, R314). -/

/-- The head word of a flit. -/
def Flit.head (f : Flit) : Word := (wordsOfBytesBE (f.bytes.take 4)).headD 0
/-- KIND: 0 data, 1 control, 2 idle, 3 reserved. -/
def Flit.kind (f : Flit) : Nat := f.head.fld 31 30
def Flit.fseq (f : Flit) : Nat := f.head.fld 29 18
def Flit.start (f : Flit) : Nat := f.head.fld 17 10
/-- Bytes 4 to 251. -/
def Flit.payload (f : Flit) : List Byte := (f.bytes.drop 4).take 248
/-- The flit has 256 bytes, its CRC over bytes 0 to 251 is right, and its KIND is not reserved (R313). -/
def Flit.good (f : Flit) : Bool :=
  f.bytes.length == 256 && natOfBytesBE (f.bytes.drop 252) == (Machine.crc32c (f.bytes.take 252)).toNat
    && f.kind != 3
/-- A field of a control flit: the big-endian number of `n` bytes from byte `at`. -/
def Flit.num (f : Flit) (at_ n : Nat) : Nat := natOfBytesBE ((f.bytes.drop at_).take n)
def Flit.ackFseq (f : Flit) : Nat := f.num 4 4 / 2 ^ 20
def Flit.nak (f : Flit) : Bool := (f.num 4 4).testBit 19
def Flit.nll (f : Flit) : Nat := f.num 4 4 / 2 ^ 16 % 8
/-- Credits returned on a VC since training, modulo 2^16. -/
def Flit.cred (f : Flit) (vc : Nat) : Nat := f.num (8 + 2 * vc) 2

end Sys2Proof

namespace Sys2Proof.Machine

/-- A packet of a header alone, from 48 bytes. -/
def packetOfHeader (bs : List Byte) : Packet := { hdr := wordsOfBytesBE (bs.take 48), payload := [], trailer := 0 }
/-- The first `n` link-local packets of a control flit. -/
def flitLl (f : Flit) : Nat → List Packet
  | 0 => []
  | n + 1 => flitLl f n ++ [packetOfHeader ((f.bytes.drop (20 + 48 * n)).take 48)]

/-- A flit of a head word and 248 payload bytes, with its CRC (R313). -/
def mkFlit (head : Word) (payload : List Byte) : Flit :=
  let b := head.bytesBE ++ (payload ++ List.replicate 248 0#8).take 248
  { bytes := b ++ (crc32c b).bytesBE }

/-- The data flits that carry bytes, numbered from FSEQ `n`; the packet starts at byte 0 of the first
(R313). Fuel bounds the number of flits. (DESIGN CHOICE, log entry 19) -/
def dataFlits : Nat → Nat → Bool → List Byte → List Flit
  | 0, _, _, _ => []
  | fuel + 1, n, first, bs =>
    if bs.isEmpty then []
    else mkFlit (((0 : Word).setFld 29 18 n).setFld 17 10 (if first then 0 else 0xFF)) (bs.take 248)
      :: dataFlits fuel ((n + 1) % 4096) false (bs.drop 248)

/-- The packet that a whole byte string spells: header, payload of LENGTH, trailer (R50). -/
def packetOfBytes (bs : List Byte) : Packet :=
  let hdr := wordsOfBytesBE (bs.take 48)
  let len := (hdr.getD 1 0).fld 31 19
  { hdr := hdr, payload := (bs.drop 48).take len,
    trailer := if len = 0 then 0 else (wordsOfBytesBE ((bs.drop (48 + len)).take 4)).headD 0 }

/-- Bytes that a packet takes on the wire, told from the start of its header. -/
def wireSize (bs : List Byte) : Nat :=
  let len := ((wordsOfBytesBE ((bs.drop 4).take 4)).headD 0).fld 31 19
  if len = 0 then 48 else 52 + len

/-- The whole packets at the front of a byte stream, and what is left. `start`: a packet begins at the first byte, which
START names (R313). Elsewhere a first byte of zero between packets is fill. Fuel bounds the
number of packets. -/
def takePackets : Nat → Bool → List Byte → List Packet × List Byte
  | 0, _, bs => ([], bs)
  | fuel + 1, start, bs =>
    if !start && bs.headD 0 == 0 then ([], [])
    else if bs.length < 48 then ([], bs)
    else if bs.length < wireSize bs then ([], bs)
    else
      let r := takePackets fuel false (bs.drop (wireSize bs))
      (packetOfBytes (bs.take (wireSize bs)) :: r.1, r.2)

end Sys2Proof.Machine
end

