-- ==== Sys2Proof/Machine/Table.lean ====
section
/-!
DEFINITION. Sparse tables in one canonical form: keys strictly rising, no entry equal to what an
unlisted key reads as. Registers, counters, memory bytes, ports, queues and every other indexed
piece of state are held so, and equal contents are equal lists.
-/
namespace Sys2Proof.Machine

/-- A sparse table: pairs of a key and a value. -/
abbrev Tbl (α : Type) := List (Nat × α)

/-- The value at a key; an unlisted key reads as the table's default. -/
def Tbl.get {α : Type} (d : Nat → α) : Tbl α → Nat → α
  | [], k => d k
  | (j, v) :: t, k => if j = k then v else if k < j then d k else Tbl.get d t k

/-- The table without a key. -/
def Tbl.erase {α : Type} : Tbl α → Nat → Tbl α
  | [], _ => []
  | (j, v) :: t, k => if j = k then t else if k < j then (j, v) :: t else (j, v) :: Tbl.erase t k

/-- The table with a value listed at a key, keys kept rising. -/
def Tbl.insert {α : Type} : Tbl α → Nat → α → Tbl α
  | [], k, x => [(k, x)]
  | (j, v) :: t, k, x =>
    if j = k then (k, x) :: t
    else if k < j then (k, x) :: (j, v) :: t
    else (j, v) :: Tbl.insert t k x

/-- Writing a value at a key; writing the default removes the entry. -/
def Tbl.put {α : Type} [DecidableEq α] (d : Nat → α) (t : Tbl α) (k : Nat) (x : α) : Tbl α :=
  if x = d k then Tbl.erase t k else Tbl.insert t k x

/-- Applying a function to the value at a key. -/
def Tbl.upd {α : Type} [DecidableEq α] (d : Nat → α) (t : Tbl α) (k : Nat) (f : α → α) : Tbl α :=
  Tbl.put d t k (f (Tbl.get d t k))

/-- Applying a function to every listed value. -/
def Tbl.remap {α : Type} [DecidableEq α] (d : Nat → α) (f : α → α) (t : Tbl α) : Tbl α :=
  t.foldr (fun x u => Tbl.put d u x.1 (f x.2)) []

/-- Whether every listed key is above a bound, rising, and no listed value is its default. -/
def Tbl.wfFrom {α : Type} [DecidableEq α] (d : Nat → α) : Option Nat → Tbl α → Bool
  | _, [] => true
  | lo, (j, v) :: t =>
    (match lo with | none => true | some l => decide (l < j)) && decide (v ≠ d j)
      && Tbl.wfFrom d (some j) t

/-- The canonical form: rising keys, no listed default. -/
def Tbl.wf {α : Type} [DecidableEq α] (d : Nat → α) (t : Tbl α) : Bool := Tbl.wfFrom d none t

/-- Writing a run of values at consecutive keys. -/
def Tbl.putRun {α : Type} [DecidableEq α] (d : Nat → α) : Tbl α → Nat → List α → Tbl α
  | t, _, [] => t
  | t, k, x :: xs => Tbl.putRun d (Tbl.put d t k x) (k + 1) xs

/-- Reading a run of values at consecutive keys. -/
def Tbl.getRun {α : Type} (d : Nat → α) (t : Tbl α) : Nat → Nat → List α
  | _, 0 => []
  | k, n + 1 => Tbl.get d t k :: Tbl.getRun d t (k + 1) n

end Sys2Proof.Machine
end

