-- ==== Sys2Proof/Machine/RegMap.lean ====
section
/-!
DEFINITION. The setup window (R8 to R12): every register the spec places in it, with its fields, their
access types and reset values, and the power domain each belongs to (R448); and every counter.
The offsets of the map are those of the register tables of the chapters.
-/
namespace Sys2Proof.Machine

/-- How a field behaves on a write and on a reset (R12). -/
inductive Acc where
  | ro | rw | wo | w1c | w1s | rws | rwp
deriving DecidableEq, Repr

/-- One field of a register: its bits, access type and reset value. -/
structure FieldDef where
  name : String
  hi : Nat
  lo : Nat
  acc : Acc
  rst : Nat
deriving DecidableEq, Repr

/-- Which power domain a register belongs to, as a function of the first index of the register
where it depends on it (R37, R407, R448). -/
inductive DomOf where
  /-- the domain PDn -/
  | pd (n : Nat)
  /-- pipeline n: PL00-PL07 PD03, PL08-PL15 PD04, PL16-PL17 PD05 -/
  | pipeline
  /-- engine PEe: PD09 + e/2 -/
  | engine
  /-- Palette die d: PD09 + d -/
  | palDie
  /-- Palette die d's memory side: PD13 + d -/
  | memDie
  /-- optical engine e: LOE0-7 PD17, LOE8-15 PD18, BOE0-1 PD19 -/
  | optical
  /-- the pipeline that serves port p of the telemetry numbering (R409) -/
  | port
  /-- island i of R407 -/
  | island
deriving DecidableEq, Repr

/-- A register or an array of registers: `dims` gives stride and count of each index, outermost first. -/
structure RegDef where
  name : String
  base : Nat
  dims : List (Nat × Nat)
  dom : DomOf
  fields : List FieldDef
deriving DecidableEq, Repr

/-- A counter or an array of counters of 64 bits; `base` is the offset of the first low word. -/
structure CntDef where
  name : String
  base : Nat
  dims : List (Nat × Nat)
  dom : DomOf
deriving DecidableEq, Repr

/-- The domain of an island (R407). -/
def islandDomain (i : Nat) : Nat :=
  if i = 0 then 1 else if i ≤ 5 then 2 else if i ≤ 13 then 3 else if i ≤ 21 then 4
  else if i ≤ 23 then 5 else if i ≤ 27 then 6 else if i ≤ 31 then 7 else if i ≤ 41 then 8
  else if i ≤ 53 then 9 + (i - 42) / 3 else if i ≤ 73 then 13 + (i - 54) / 5
  else if i ≤ 89 then 17 else if i ≤ 105 then 18 else if i ≤ 109 then 19 else 20

/-- The domain of a pipeline (R37). -/
def pipelineDomain (n : Nat) : Nat := if n < 8 then 3 else if n < 16 then 4 else 5

/-- The domain number of a register with first index `i`. -/
def DomOf.at (i : Nat) : DomOf → Nat
  | .pd n => n
  | .pipeline => pipelineDomain i
  | .engine => 9 + i / 2
  | .palDie => 9 + i
  | .memDie => 13 + i
  | .optical => if i < 8 then 17 else if i < 16 then 18 else 19
  | .port => pipelineDomain (i / 64)
  | .island => islandDomain i

/-- The indices that an offset beyond the base spells, if it spells any. -/
def spellIdx : List (Nat × Nat) → Nat → Option (List Nat)
  | [], r => if r = 0 then some [] else none
  | (s, n) :: ds, r => if r / s < n then (spellIdx ds (r % s)).map (r / s :: ·) else none

/-- The indices of a definition that an offset names. -/
def offIdx (base : Nat) (dims : List (Nat × Nat)) (off : Nat) : Option (List Nat) :=
  if off < base then none else spellIdx dims (off - base)

/-- The registers of chapter 00. -/
def regs00 : List RegDef :=
  [⟨"GLB.ID", 0x00000000, [], (.pd 1), [⟨"VENDOR", 31, 16, .ro, 0x4E4D⟩, ⟨"PART", 15, 0, .ro, 0x4400⟩]⟩,
   ⟨"GLB.STEP", 0x00000004, [], (.pd 1), [⟨"STEP_MAJOR", 15, 8, .ro, 0x41⟩, ⟨"STEP_MINOR", 7, 0, .ro, 0x0⟩]⟩]

/-- The registers of chapter 01. -/
def regs01 : List RegDef :=
  [⟨"GLB.FABRIC_ID", 0x00000010, [], (.pd 1), [⟨"ASSIGNED", 31, 31, .rws, 0x0⟩, ⟨"PRISM_MEMBER", 30, 30, .rws, 0x0⟩, ⟨"PRISM_POS", 21, 16, .rws, 0x0⟩, ⟨"SPINE_ID", 9, 0, .rws, 0x0⟩]⟩]

/-- The registers of chapter 02. -/
def regs02 : List RegDef :=
  [⟨"GLB.D2D_STAT", 0x00000100, [(0x4, 23)], (.pd 1), [⟨"UP", 31, 31, .ro, 0x0⟩, ⟨"ISOLATED", 30, 30, .ro, 0x1⟩, ⟨"SPARES_USED", 27, 24, .ro, 0x0⟩, ⟨"CREDITS", 11, 0, .ro, 0x0⟩]⟩]

/-- The registers of chapter 04. -/
def regs04 : List RegDef :=
  [⟨"PL.PATH_WEIGHT", 0x01001000, [(0x100000, 17), (0x4, 64)], .pipeline, [⟨"W_BASE", 3, 0, .rw, 0x8⟩]⟩,
   ⟨"BUF.FWD_CMD", 0x03800000, [], (.pd 8), [⟨"OP", 31, 30, .wo, 0x0⟩, ⟨"TABLE", 24, 24, .wo, 0x0⟩, ⟨"INDEX", 11, 0, .wo, 0x0⟩]⟩,
   ⟨"BUF.FWD_STAT", 0x03800004, [], (.pd 8), [⟨"BUSY", 31, 31, .ro, 0x0⟩, ⟨"STATUS", 3, 0, .ro, 0x0⟩]⟩,
   ⟨"BUF.FWD_DATA", 0x03800010, [(0x4, 4)], (.pd 8), [⟨"DATA", 31, 0, .rw, 0x0⟩]⟩,
   ⟨"BUF.FWD_OVR_SHADOW", 0x03800020, [], (.pd 8), [⟨"COUNT", 16, 0, .ro, 0x0⟩]⟩,
   ⟨"BUF.FWD_OVR_ACTIVE", 0x03800024, [], (.pd 8), [⟨"COUNT", 16, 0, .ro, 0x0⟩]⟩,
   ⟨"BUF.FWD_GEN_ACTIVE", 0x03800030, [], (.pd 8), [⟨"GEN", 31, 0, .ro, 0x0⟩]⟩,
   ⟨"BUF.FWD_GEN_CTRL", 0x03800034, [], (.pd 8), [⟨"COMMIT", 31, 31, .wo, 0x0⟩, ⟨"PENDING", 30, 30, .ro, 0x0⟩, ⟨"COPYING", 29, 29, .ro, 0x0⟩, ⟨"GAP_US", 15, 0, .rw, 0x64⟩]⟩,
   ⟨"BUF.FWD_EPOCH_SEC", 0x03800038, [], (.pd 8), [⟨"SEC", 31, 0, .rw, 0x0⟩]⟩,
   ⟨"BUF.FWD_EPOCH_NS", 0x0380003C, [], (.pd 8), [⟨"NS", 29, 0, .rw, 0x0⟩]⟩,
   ⟨"BUF.FWD_SPRAY_CTRL", 0x03800040, [], (.pd 8), [⟨"EASEL_OWNS", 31, 31, .rw, 0x1⟩, ⟨"ADAPT_NS", 15, 0, .rw, 0x3E8⟩]⟩,
   ⟨"BUF.FWD_MOVE_CTRL", 0x03800044, [], (.pd 8), [⟨"SETTLE_US", 31, 16, .rw, 0xA⟩, ⟨"MARK_TIMEOUT_US", 15, 0, .rw, 0x32⟩]⟩]

/-- The registers of chapter 05. -/
def regs05 : List RegDef :=
  [⟨"BUF.CELL_TOTAL", 0x03000000, [], (.pd 8), [⟨"CELLS", 20, 0, .ro, 0x180000⟩]⟩,
   ⟨"BUF.CELL_FREE", 0x03000004, [], (.pd 8), [⟨"CELLS", 20, 0, .ro, 0x0⟩]⟩,
   ⟨"BUF.ADM_STAT", 0x03000008, [], (.pd 8), [⟨"RSV_OVER", 31, 31, .w1c, 0x0⟩, ⟨"MARK_ORDER", 30, 30, .w1c, 0x0⟩]⟩,
   ⟨"BUF.IN_RSV", 0x03000010, [], (.pd 8), [⟨"BULK", 31, 24, .rw, 0xC0⟩, ⟨"COLL", 23, 16, .rw, 0x18⟩, ⟨"RSP", 15, 8, .rw, 0x18⟩, ⟨"REQ", 7, 0, .rw, 0x18⟩]⟩,
   ⟨"BUF.PL17_RSV", 0x03000014, [], (.pd 8), [⟨"CELLS", 16, 0, .rw, 0x4000⟩]⟩,
   ⟨"BUF.IN_ALPHA", 0x03000018, [], (.pd 8), [⟨"IN_ALPHA", 3, 0, .rw, 0xE⟩]⟩,
   ⟨"BUF.SPILL_CTRL", 0x03000020, [], (.pd 8), [⟨"SPILL_Q_MAX", 31, 16, .rw, 0x1000⟩, ⟨"SPILL_ON", 15, 0, .rw, 0x100⟩]⟩,
   ⟨"BUF.NOPATH_CTRL", 0x03000028, [], (.pd 8), [⟨"NOPATH_MAX", 31, 16, .rw, 0x1000⟩, ⟨"NOPATH_US", 15, 0, .rw, 0x14⟩]⟩,
   ⟨"BUF.AGE_LIMIT", 0x0300002C, [], (.pd 8), [⟨"LIMIT_US", 15, 0, .rw, 0x7D0⟩]⟩,
   ⟨"BUF.TC_CFG", 0x03000040, [(0x4, 8)], (.pd 8), [⟨"EQ_MIN", 27, 16, .rw, 0x0⟩, ⟨"SPILL_EN", 5, 5, .rw, 0x1⟩, ⟨"LOSS", 4, 4, .rw, 0x0⟩, ⟨"ALPHA", 3, 0, .rw, 0xD⟩]⟩,
   ⟨"BUF.MARK", 0x03000060, [(0x4, 8)], (.pd 8), [⟨"SEVERE", 29, 20, .rw, 0x40⟩, ⟨"HIGH", 19, 10, .rw, 0x10⟩, ⟨"LOW", 9, 0, .rw, 0x4⟩]⟩]

/-- The registers of chapter 06. -/
def regs06 : List RegDef :=
  [⟨"PL.TC_SCHED", 0x01010000, [(0x100000, 17), (0x20, 64), (0x4, 8)], .pipeline, [⟨"STRICT", 8, 8, .rw, 0x0⟩, ⟨"WEIGHT", 7, 0, .rw, 0x1⟩]⟩,
   ⟨"PL.TC_SCHED17", 0x02110000, [(0x20, 6), (0x4, 8)], (.pd 5), [⟨"STRICT", 8, 8, .rw, 0x0⟩, ⟨"WEIGHT", 7, 0, .rw, 0x1⟩]⟩,
   ⟨"PL.LEN_OVH", 0x01010800, [(0x100000, 17), (0x4, 64)], .pipeline, [⟨"OVH", 6, 0, .rw, 0x0⟩]⟩,
   ⟨"PL.LEN_OVH17", 0x02110800, [(0x4, 6)], (.pd 5), [⟨"OVH", 6, 0, .rw, 0x0⟩]⟩,
   ⟨"PL.SHP", 0x01020000, [(0x100000, 17), (0x40, 64), (0x4, 9)], .pipeline, [⟨"TOKEN_INIT", 31, 31, .rw, 0x0⟩, ⟨"BURST", 30, 20, .rw, 0x10⟩, ⟨"RATE", 19, 0, .rw, 0xFFFFF⟩]⟩,
   ⟨"PL.SHP17", 0x02120000, [(0x40, 6), (0x4, 9)], (.pd 5), [⟨"TOKEN_INIT", 31, 31, .rw, 0x0⟩, ⟨"BURST", 30, 20, .rw, 0x10⟩, ⟨"RATE", 19, 0, .rw, 0xFFFFF⟩]⟩,
   ⟨"PL.SHP_TOK", 0x01021000, [(0x100000, 17), (0x40, 64), (0x4, 9)], .pipeline, [⟨"T", 31, 0, .ro, 0x10000⟩]⟩,
   ⟨"PL.SHP_TOK17", 0x02121000, [(0x40, 6), (0x4, 9)], (.pd 5), [⟨"T", 31, 0, .ro, 0x10000⟩]⟩,
   ⟨"PL.POL_C", 0x01030000, [(0x100000, 17), (0x80, 64), (0x10, 8)], .pipeline, [⟨"TOKEN_INIT", 31, 31, .rw, 0x0⟩, ⟨"CBS_or_PBS", 30, 20, .rw, 0x4⟩, ⟨"CIR_or_PIR", 19, 0, .rw, 0x0⟩]⟩,
   ⟨"PL.POL_P", 0x01030004, [(0x100000, 17), (0x80, 64), (0x10, 8)], .pipeline, [⟨"TOKEN_INIT", 31, 31, .rw, 0x0⟩, ⟨"CBS_or_PBS", 30, 20, .rw, 0x4⟩, ⟨"CIR_or_PIR", 19, 0, .rw, 0x0⟩]⟩,
   ⟨"PL.POL_MODE", 0x01030008, [(0x100000, 17), (0x80, 64), (0x10, 8)], .pipeline, [⟨"EN", 31, 31, .rw, 0x0⟩, ⟨"MODE", 30, 30, .rw, 0x0⟩, ⟨"AWARE", 29, 29, .rw, 0x0⟩, ⟨"YEL_ACT", 28, 27, .rw, 0x0⟩, ⟨"RED_ACT", 26, 25, .rw, 0x0⟩]⟩]

/-- The registers of chapter 07. -/
def regs07 : List RegDef :=
  [⟨"MCT.CMD", 0x04000000, [], (.pd 8), [⟨"OP", 31, 30, .wo, 0x0⟩, ⟨"GROUP", 15, 0, .wo, 0x0⟩]⟩,
   ⟨"MCT.STAT", 0x04000004, [], (.pd 8), [⟨"BUSY", 31, 31, .ro, 0x0⟩, ⟨"STATUS", 3, 0, .ro, 0x0⟩]⟩,
   ⟨"MCT.GRP_SHADOW", 0x04000010, [], (.pd 8), [⟨"COUNT", 16, 0, .ro, 0x0⟩]⟩,
   ⟨"MCT.GRP_ACTIVE", 0x04000014, [], (.pd 8), [⟨"COUNT", 16, 0, .ro, 0x0⟩]⟩,
   ⟨"MCT.DATA", 0x04000100, [(0x4, 36)], (.pd 8), [⟨"DATA", 31, 0, .rw, 0x0⟩]⟩,
   ⟨"MCT.FENCE", 0x04000200, [(0x4, 34)], (.pd 8), [⟨"FENCE", 31, 0, .rw, 0x0⟩]⟩]

/-- The registers of chapter 08. -/
def regs08 : List RegDef :=
  [⟨"CNV.CMD", 0x05000000, [], (.pd 8), [⟨"OP", 31, 29, .wo, 0x0⟩, ⟨"CTX", 13, 0, .wo, 0x0⟩]⟩,
   ⟨"CNV.STAT", 0x05000004, [], (.pd 8), [⟨"BUSY", 31, 31, .ro, 0x0⟩, ⟨"STATUS", 3, 0, .ro, 0x0⟩]⟩,
   ⟨"CNV.CTX_SHADOW", 0x05000010, [], (.pd 8), [⟨"COUNT", 14, 0, .ro, 0x0⟩]⟩,
   ⟨"CNV.CTX_ACTIVE", 0x05000014, [], (.pd 8), [⟨"COUNT", 14, 0, .ro, 0x0⟩]⟩,
   ⟨"CNV.STAGE_CTRL", 0x05000020, [], (.pd 8), [⟨"STAGE_LOW", 31, 16, .rw, 0x1000⟩, ⟨"OVF_MAX", 15, 0, .rw, 0x400⟩]⟩,
   ⟨"CNV.BATCH_CTRL", 0x05000024, [], (.pd 8), [⟨"BATCH_MAX", 31, 24, .rw, 0x10⟩, ⟨"BATCH_WAIT_NS", 11, 0, .rw, 0xC8⟩]⟩,
   ⟨"CNV.PHASE_CTRL", 0x05000028, [], (.pd 8), [⟨"LEAD_NS", 15, 0, .rw, 0xBB8⟩]⟩,
   ⟨"CNV.PAL_SHARE", 0x0500002C, [], (.pd 8), [⟨"SHARE", 6, 0, .rw, 0x19⟩]⟩,
   ⟨"CNV.ENERGY_DEF0", 0x05000040, [], (.pd 8), [⟨"ENERGY", 15, 0, .rw, 0x20⟩]⟩,
   ⟨"CNV.ENERGY_DEF1", 0x05000044, [], (.pd 8), [⟨"ENERGY", 15, 0, .rw, 0x18⟩]⟩,
   ⟨"CNV.ENERGY_DEF2", 0x05000048, [], (.pd 8), [⟨"ENERGY", 15, 0, .rw, 0x18⟩]⟩,
   ⟨"CNV.ENERGY_DEF3", 0x0500004C, [], (.pd 8), [⟨"ENERGY", 15, 0, .rw, 0x10⟩]⟩,
   ⟨"CNV.ENERGY_DEF4", 0x05000050, [], (.pd 8), [⟨"ENERGY", 15, 0, .rw, 0x10⟩]⟩,
   ⟨"CNV.ENERGY_DEF5", 0x05000054, [], (.pd 8), [⟨"ENERGY", 15, 0, .rw, 0x12⟩]⟩,
   ⟨"CNV.ENERGY_DEF6", 0x05000058, [], (.pd 8), [⟨"ENERGY", 15, 0, .rw, 0x12⟩]⟩,
   ⟨"CNV.ENERGY_DEF7", 0x0500005C, [], (.pd 8), [⟨"ENERGY", 15, 0, .rw, 0xC⟩]⟩,
   ⟨"CNV.DATA", 0x05000100, [(0x4, 42)], (.pd 8), [⟨"DATA", 31, 0, .rw, 0x0⟩]⟩]

/-- The registers of chapter 09. -/
def regs09 : List RegDef :=
  [⟨"PAL.ENG_CTRL", 0x06000000, [(0x100000, 8)], .engine, [⟨"PARK_REQ", 31, 31, .rw, 0x0⟩, ⟨"OFFLINE_REQ", 30, 30, .rws, 0x0⟩, ⟨"RESUME", 29, 29, .wo, 0x0⟩, ⟨"FILLER_EN", 28, 28, .rw, 0x1⟩, ⟨"KEEP_NS", 15, 0, .rw, 0xFA0⟩]⟩,
   ⟨"PAL.ENG_STAT", 0x06000004, [(0x100000, 8)], .engine, [⟨"STATE", 31, 28, .ro, 0x0⟩, ⟨"LEVEL", 26, 20, .ro, 0x0⟩, ⟨"FILLER_OFF", 19, 17, .ro, 0x0⟩, ⟨"FAULTS", 16, 12, .ro, 0x0⟩]⟩,
   ⟨"PAL.FAULT_CTRL", 0x06000008, [(0x100000, 8)], .engine, [⟨"WATCHDOG_US", 31, 16, .rw, 0x3E8⟩, ⟨"FAULT_LIMIT", 3, 0, .rw, 0x3⟩]⟩,
   ⟨"PAL.FAULT_STAT", 0x0600000C, [(0x100000, 8)], .engine, [⟨"LAST_GROUP", 12, 8, .ro, 0x1F⟩, ⟨"WATCHDOG", 4, 4, .w1c, 0x0⟩, ⟨"RESIDUE", 3, 3, .w1c, 0x0⟩, ⟨"SCRATCH_UE", 2, 2, .w1c, 0x0⟩, ⟨"SHARED_UE", 1, 1, .w1c, 0x0⟩, ⟨"REG_UE", 0, 0, .w1c, 0x0⟩]⟩,
   ⟨"PAL.LANE_MAP", 0x06000010, [(0x100000, 8)], .engine, [⟨"SPARE", 31, 27, .ro, 0x10⟩, ⟨"IN_USE", 16, 0, .ro, 0xFFFF⟩]⟩,
   ⟨"PAL.LANE_RETIRE", 0x06000014, [(0x100000, 8)], .engine, [⟨"RETIRED", 16, 0, .rwp, 0x0⟩]⟩,
   ⟨"PAL.DIE_GOV", 0x06000040, [(0x200000, 4)], .palDie, [⟨"STEP_NS", 15, 0, .rw, 0x190⟩]⟩]

/-- The registers of chapter 10. -/
def regs10 : List RegDef :=
  [⟨"PAL.RING_CMD", 0x06001000, [], (.pd 9), [⟨"OP", 31, 30, .wo, 0x0⟩, ⟨"RING", 11, 0, .wo, 0x0⟩]⟩,
   ⟨"PAL.RING_STAT", 0x06001004, [], (.pd 9), [⟨"BUSY", 31, 31, .ro, 0x0⟩, ⟨"STATUS", 3, 0, .ro, 0x0⟩]⟩,
   ⟨"PAL.RING_DATA", 0x06001010, [(0x4, 12)], (.pd 9), [⟨"DATA", 31, 0, .rw, 0x0⟩]⟩,
   ⟨"PAL.Q_CFG", 0x06002000, [(0x100000, 8), (0x4, 16)], .engine, [⟨"PRIO", 31, 30, .rw, 0x0⟩]⟩,
   ⟨"PAL.Q_STAT", 0x06002040, [(0x100000, 8), (0x4, 16)], .engine, [⟨"RUNNING", 31, 31, .ro, 0x0⟩, ⟨"LISTS", 8, 0, .ro, 0x0⟩]⟩,
   ⟨"PAL.LIST_CTRL", 0x06002080, [(0x100000, 8)], .engine, [⟨"FENCE_US", 31, 16, .rw, 0x64⟩, ⟨"CMD_NJ", 15, 0, .rw, 0x64⟩]⟩,
   ⟨"PAL.DIE_BUDGET", 0x06003000, [(0x200000, 4)], .palDie, [⟨"VALUE", 31, 0, .ro, 0x0⟩]⟩,
   ⟨"PAL.DIE_ACCOUNT", 0x06003004, [(0x200000, 4)], .palDie, [⟨"VALUE", 31, 0, .ro, 0x0⟩]⟩,
   ⟨"PAL.DIE_ADMIT", 0x06003008, [(0x200000, 4)], .palDie, [⟨"STARVE_US", 31, 16, .rw, 0x32⟩, ⟨"FILLER_PJ", 15, 0, .rw, 0x190⟩]⟩]

/-- The registers of chapter 11. -/
def regs11 : List RegDef :=
  [⟨"MEM.HA_CTRL", 0x07400000, [(0x100, 4)], .memDie, [⟨"WIN_EN", 31, 31, .rw, 0x0⟩, ⟨"TRK_LINGER_US", 15, 0, .rw, 0x32⟩]⟩,
   ⟨"MEM.HA_STAT", 0x07400004, [(0x100, 4)], .memDie, [⟨"SLOTS_FREE", 31, 15, .ro, 0x10000⟩, ⟨"TRK_ACTIVE", 14, 0, .ro, 0x0⟩]⟩,
   ⟨"MEM.HA_TRK_CMD", 0x07400008, [(0x100, 4)], .memDie, [⟨"OP", 31, 30, .wo, 0x0⟩, ⟨"SPACE", 29, 29, .wo, 0x0⟩, ⟨"SRC", 17, 0, .wo, 0x0⟩]⟩,
   ⟨"MEM.HA_TRK_STAT", 0x0740000C, [(0x100, 4)], .memDie, [⟨"BUSY", 31, 31, .ro, 0x0⟩, ⟨"STATUS", 3, 0, .ro, 0x0⟩]⟩,
   ⟨"MEM.WIN_CMD", 0x07410000, [], (.pd 2), [⟨"OP", 31, 30, .wo, 0x0⟩, ⟨"INDEX", 11, 0, .wo, 0x0⟩]⟩,
   ⟨"MEM.WIN_STAT", 0x07410004, [], (.pd 2), [⟨"BUSY", 31, 31, .ro, 0x0⟩, ⟨"STATUS", 3, 0, .ro, 0x0⟩]⟩,
   ⟨"MEM.WIN_DATA", 0x07410010, [(0x4, 4)], (.pd 2), [⟨"DATA", 31, 0, .rw, 0x0⟩]⟩,
   ⟨"MEM.REQ_TIMER", 0x07420000, [], (.pd 2), [⟨"HOLD_EN", 31, 31, .rw, 0x0⟩, ⟨"TIMEOUT_US", 16, 0, .rw, 0x2710⟩]⟩,
   ⟨"MEM.REQ_DOMAIN", 0x07420004, [], (.pd 2), [⟨"DOMAIN_EP", 18, 0, .rw, 0x0⟩]⟩,
   ⟨"MEM.REQ_RETRY", 0x07420008, [], (.pd 2), [⟨"RETRY_US", 15, 0, .rw, 0x32⟩]⟩,
   ⟨"MEM.HELD_CMD", 0x07420010, [], (.pd 2), [⟨"OP", 31, 30, .wo, 0x0⟩, ⟨"INDEX", 11, 0, .wo, 0x0⟩]⟩,
   ⟨"MEM.HELD_STAT", 0x07420014, [], (.pd 2), [⟨"BUSY", 31, 31, .ro, 0x0⟩, ⟨"COUNT", 16, 4, .ro, 0x0⟩, ⟨"STATUS", 3, 0, .ro, 0x0⟩]⟩,
   ⟨"MEM.HELD_DATA", 0x07420020, [(0x4, 4)], (.pd 2), [⟨"DATA", 31, 0, .rw, 0x0⟩]⟩]

/-- The registers of chapter 12. -/
def regs12 : List RegDef :=
  [⟨"MEM.STACK_STAT", 0x07000000, [(0x4, 32)], (.pd 2), [⟨"STATE", 31, 29, .ro, 0x0⟩, ⟨"RELOC_PCT", 6, 0, .ro, 0x0⟩]⟩,
   ⟨"MEM.STACK_RETIRED", 0x07000080, [], (.pd 1), [⟨"RETIRED", 31, 0, .rwp, 0x0⟩]⟩,
   ⟨"MEM.STACK_OPSTAT", 0x07000084, [], (.pd 2), [⟨"STATUS", 3, 0, .ro, 0x0⟩]⟩,
   ⟨"MEM.FIX_GIB", 0x07000100, [(0x4, 4)], .memDie, [⟨"PENDING", 31, 31, .ro, 0x0⟩, ⟨"GIB", 8, 0, .rw, 0x0⟩]⟩,
   ⟨"MEM.PAGE_CMD", 0x07000200, [], (.pd 2), [⟨"OP", 31, 29, .wo, 0x0⟩, ⟨"HANDLE", 27, 0, .wo, 0x0⟩]⟩,
   ⟨"MEM.PAGE_STAT", 0x07000204, [], (.pd 2), [⟨"BUSY", 31, 31, .ro, 0x0⟩, ⟨"STATUS", 3, 0, .ro, 0x0⟩]⟩,
   ⟨"MEM.PAGE_DATA", 0x07000210, [(0x4, 4)], (.pd 2), [⟨"DATA", 31, 0, .rw, 0x0⟩]⟩,
   ⟨"MEM.EASEL_CTRL", 0x07000300, [], (.pd 2), [⟨"MIG_EN", 31, 31, .rw, 0x1⟩, ⟨"SPILL_CXL", 30, 30, .rw, 0x0⟩, ⟨"MIG_GBPS", 15, 0, .rw, 0xC8⟩]⟩,
   ⟨"MEM.EASEL_RETIRE", 0x07000304, [], (.pd 2), [⟨"RETIRE_GBPS", 15, 0, .rw, 0xC8⟩]⟩,
   ⟨"MEM.EASEL_HEAT", 0x07000308, [], (.pd 2), [⟨"PROMOTE", 31, 24, .rw, 0x20⟩, ⟨"DEMOTE", 23, 16, .rw, 0x2⟩, ⟨"HEAT_MS", 15, 0, .rw, 0xA⟩]⟩,
   ⟨"MEM.EASEL_SAT", 0x0700030C, [], (.pd 2), [⟨"SAT_PCT", 15, 8, .rw, 0x5A⟩, ⟨"IDLE_PCT", 7, 0, .rw, 0x32⟩]⟩,
   ⟨"MEM.EASEL_SPACE", 0x07000310, [], (.pd 2), [⟨"SPILL_MAX_GIB", 31, 16, .rw, 0x40⟩, ⟨"FREE_LOW_GIB", 15, 0, .rw, 0x10⟩]⟩,
   ⟨"MEM.SPILL_FLOOR", 0x07000314, [], (.pd 2), [⟨"GBPS", 15, 0, .rw, 0x3E8⟩]⟩,
   ⟨"MEM.SPILL_GRANT", 0x07000318, [], (.pd 2), [⟨"GBPS", 15, 0, .ro, 0xFA0⟩]⟩,
   ⟨"MEM.DIE_FREE", 0x07000320, [(0x4, 4)], (.pd 2), [⟨"FRAMES", 22, 0, .ro, 0x0⟩]⟩,
   ⟨"MEM.DIE_LOAD", 0x07000330, [(0x4, 4)], (.pd 2), [⟨"CLASS", 31, 30, .ro, 0x0⟩, ⟨"UTIL_PCT", 6, 0, .ro, 0x0⟩]⟩,
   ⟨"CXL.PORT_CTRL", 0x07800000, [(0x100, 8)], (.pd 20), [⟨"EN", 31, 31, .rw, 0x0⟩, ⟨"REMOVE", 30, 30, .wo, 0x0⟩, ⟨"FIX_GIB", 12, 0, .rw, 0x0⟩]⟩,
   ⟨"CXL.PORT_STAT", 0x07800004, [(0x100, 8)], (.pd 20), [⟨"STATE", 31, 28, .ro, 0x0⟩, ⟨"WIDTH", 27, 23, .ro, 0x0⟩, ⟨"SPEED", 22, 21, .ro, 0x0⟩, ⟨"DECODERS", 20, 17, .ro, 0x0⟩, ⟨"CAP_GIB", 13, 0, .ro, 0x0⟩]⟩]

/-- The registers of chapter 13. -/
def regs13 : List RegDef :=
  [⟨"OPT.PRISM_CTRL", 0x08000000, [], (.pd 5), [⟨"BASE_PATTERN", 31, 24, .rw, 0x0⟩, ⟨"SLOT_SEL", 23, 22, .rw, 0x2⟩, ⟨"DEAD_NS", 15, 0, .rw, 0x7D0⟩]⟩,
   ⟨"OPT.PRISM_GUARD", 0x08000004, [], (.pd 5), [⟨"G_PHASE_NS", 31, 16, .rw, 0x898⟩, ⟨"SPREAD_NS", 15, 8, .rw, 0x4⟩, ⟨"TOFF_NS", 7, 0, .rw, 0x2⟩]⟩,
   ⟨"OPT.PRISM_STAT", 0x08000008, [], (.pd 5), [⟨"PATTERN", 31, 24, .ro, 0x0⟩, ⟨"CFG_ERR", 23, 23, .w1c, 0x0⟩, ⟨"RETUNING", 22, 22, .ro, 0x0⟩, ⟨"LIVE", 21, 16, .ro, 0x0⟩, ⟨"G_PKT", 15, 8, .ro, 0x10⟩]⟩,
   ⟨"OPT.PAT_CMD", 0x08000010, [], (.pd 5), [⟨"OP", 31, 30, .wo, 0x0⟩, ⟨"PATTERN", 7, 0, .wo, 0x0⟩]⟩,
   ⟨"OPT.PAT_STAT", 0x08000014, [], (.pd 5), [⟨"BUSY", 31, 31, .ro, 0x0⟩, ⟨"STATUS", 3, 0, .ro, 0x0⟩]⟩,
   ⟨"OPT.PAT_DATA", 0x08000020, [(0x4, 18)], (.pd 5), [⟨"DATA", 31, 0, .rw, 0x0⟩]⟩,
   ⟨"OPT.PLANE_STAT", 0x08000100, [(0x4, 64)], (.pd 5), [⟨"STATE", 31, 29, .ro, 0x0⟩, ⟨"COLOUR", 21, 16, .ro, 0x0⟩]⟩,
   ⟨"OPT.PEER_STAT", 0x08000200, [(0x4, 64)], (.pd 5), [⟨"STATE", 31, 29, .ro, 0x0⟩, ⟨"CAUSE", 28, 26, .ro, 0x0⟩, ⟨"SPINE_ID", 25, 16, .ro, 0x0⟩, ⟨"SKEW", 15, 8, .ro, 0x0⟩, ⟨"RX_PWR", 7, 0, .ro, 0x0⟩]⟩,
   ⟨"OPT.LASER_CMD", 0x08000400, [], (.pd 5), [⟨"OP", 31, 30, .wo, 0x0⟩, ⟨"ENGINE", 28, 24, .wo, 0x0⟩, ⟨"LASER", 7, 0, .wo, 0x0⟩]⟩,
   ⟨"OPT.LASER_STAT", 0x08000404, [], (.pd 5), [⟨"BUSY", 31, 31, .ro, 0x0⟩, ⟨"STATUS", 3, 0, .ro, 0x0⟩]⟩,
   ⟨"OPT.LASER_DATA", 0x08000410, [(0x4, 4)], (.pd 5), [⟨"DATA", 31, 0, .ro, 0x0⟩]⟩,
   ⟨"OPT.SPARES", 0x08000440, [(0x4, 18)], .optical, [⟨"READY", 3, 0, .ro, 0x0⟩]⟩]

/-- The registers of chapter 14. -/
def regs14 : List RegDef :=
  [⟨"PL.PORT_CTRL", 0x01040000, [(0x100000, 17), (0x4, 64)], .pipeline, [⟨"EN", 31, 31, .rw, 0x1⟩, ⟨"DRAIN", 30, 30, .rw, 0x0⟩, ⟨"RETRAIN", 29, 29, .wo, 0x0⟩, ⟨"PRESET", 28, 28, .wo, 0x0⟩, ⟨"LANE_MASK", 1, 0, .rw, 0x3⟩]⟩,
   ⟨"PL.PORT_STAT", 0x01040100, [(0x100000, 17), (0x4, 64)], .pipeline, [⟨"STATE", 31, 29, .ro, 0x0⟩, ⟨"LANES_UP", 28, 27, .ro, 0x0⟩, ⟨"REASON", 26, 23, .ro, 0x0⟩, ⟨"MEMBER", 22, 19, .ro, 0x0⟩, ⟨"REPLAY", 9, 0, .ro, 0x0⟩]⟩,
   ⟨"PL.LINK_CFG", 0x01040200, [(0x100000, 17)], .pipeline, [⟨"DOWN_NS", 31, 16, .rw, 0x258⟩, ⟨"REPLAY_LIMIT", 15, 12, .rw, 0x8⟩, ⟨"DRAIN_US", 11, 0, .rw, 0x64⟩]⟩,
   ⟨"PL.LINK_ACK", 0x01040204, [(0x100000, 17)], .pipeline, [⟨"ACK_TIMEOUT_NS", 15, 0, .rw, 0x1388⟩]⟩]

/-- The registers of chapter 15. -/
def regs15 : List RegDef :=
  [⟨"PL.ETH_MODE", 0x01050000, [(0x100000, 16)], .pipeline, [⟨"GROUP_EN", 7, 0, .rw, 0x0⟩]⟩,
   ⟨"PL.ETH_PVID", 0x01050100, [(0x100000, 16), (0x4, 64)], .pipeline, [⟨"UNTAG", 12, 12, .rw, 0x1⟩, ⟨"PVID", 11, 0, .rw, 0x1⟩]⟩,
   ⟨"ETH.CTRL", 0x09000000, [], (.pd 8), [⟨"LEARN_EN", 31, 31, .rw, 0x1⟩, ⟨"ECN_LEVEL", 30, 29, .rw, 0x2⟩, ⟨"AGE_S", 14, 0, .rw, 0x12C⟩]⟩,
   ⟨"ETH.RMAC_HI", 0x09000008, [], (.pd 8), [⟨"RMAC", 15, 0, .rw, 0x0⟩]⟩,
   ⟨"ETH.RMAC_LO", 0x0900000C, [], (.pd 8), [⟨"RMAC", 31, 0, .rw, 0x0⟩]⟩,
   ⟨"ETH.CMD", 0x09000010, [], (.pd 8), [⟨"OP", 31, 30, .wo, 0x0⟩, ⟨"TABLE", 29, 27, .wo, 0x0⟩, ⟨"PIPE", 26, 23, .wo, 0x0⟩, ⟨"INDEX", 15, 0, .wo, 0x0⟩]⟩,
   ⟨"ETH.STAT", 0x09000014, [], (.pd 8), [⟨"BUSY", 31, 31, .ro, 0x0⟩, ⟨"STATUS", 3, 0, .ro, 0x0⟩]⟩,
   ⟨"ETH.DATA", 0x09000020, [(0x4, 5)], (.pd 8), [⟨"DATA", 31, 0, .rw, 0x0⟩]⟩,
   ⟨"ETH.QOS", 0x09000100, [(0x4, 72)], (.pd 8), [⟨"TC", 4, 2, .rw, 0x0⟩, ⟨"COLOUR", 1, 0, .rw, 0x0⟩]⟩]

/-- The registers of chapter 16. -/
def regs16 : List RegDef :=
  [⟨"TIM.CTRL", 0x00200000, [], (.pd 1), [⟨"SRC", 31, 30, .rwp, 0x1⟩, ⟨"SLAVE_ONLY", 29, 29, .rwp, 0x1⟩, ⟨"TRANSPORT", 28, 28, .rwp, 0x0⟩, ⟨"PTP_DOMAIN", 23, 16, .rwp, 0x0⟩, ⟨"TIME_US", 15, 0, .rwp, 0x3E8⟩]⟩,
   ⟨"TIM.STAT", 0x00200004, [], (.pd 1), [⟨"STATE", 31, 29, .ro, 0x0⟩, ⟨"STEPPED", 28, 28, .ro, 0x0⟩, ⟨"PPS_OK", 27, 27, .ro, 0x0⟩, ⟨"REF10_OK", 26, 26, .ro, 0x0⟩, ⟨"PTP_OK", 25, 25, .ro, 0x0⟩, ⟨"OFFSET_NS", 15, 0, .ro, 0x0⟩]⟩,
   ⟨"TIM.RATE_CFG", 0x00200008, [], (.pd 1), [⟨"MAX_PPM", 7, 0, .rwp, 0x64⟩]⟩,
   ⟨"TIM.RATE", 0x0020000C, [], (.pd 1), [⟨"ADJ", 31, 0, .ro, 0x0⟩]⟩,
   ⟨"TIM.SET_SEC_HI", 0x00200010, [], (.pd 1), [⟨"SEC", 15, 0, .rw, 0x0⟩]⟩,
   ⟨"TIM.SET_SEC_LO", 0x00200014, [], (.pd 1), [⟨"SEC", 31, 0, .rw, 0x0⟩]⟩,
   ⟨"TIM.SET_NS", 0x00200018, [], (.pd 1), [⟨"NS", 29, 0, .rw, 0x0⟩]⟩,
   ⟨"TIM.SET_CMD", 0x0020001C, [], (.pd 1), [⟨"SET", 31, 31, .wo, 0x0⟩]⟩,
   ⟨"TIM.PHY_LAT", 0x00200020, [], (.pd 1), [⟨"TX_NS", 31, 16, .rwp, 0x0⟩, ⟨"RX_NS", 15, 0, .rwp, 0x0⟩]⟩,
   ⟨"TIM.SNAP_SEC_HI", 0x00200040, [], (.pd 2), [⟨"SNAP", 15, 0, .ro, 0x0⟩]⟩,
   ⟨"TIM.SNAP_SEC_LO", 0x00200044, [], (.pd 2), [⟨"SNAP", 31, 0, .ro, 0x0⟩]⟩,
   ⟨"TIM.SNAP_NS", 0x00200048, [], (.pd 2), [⟨"SNAP", 29, 0, .ro, 0x0⟩]⟩,
   ⟨"TIM.SNAP_FRAC", 0x0020004C, [], (.pd 2), [⟨"SNAP", 15, 0, .ro, 0x0⟩]⟩,
   ⟨"TIM.SNAP_TB1", 0x00200100, [(0x4, 18)], (.pd 2), [⟨"SNAP", 31, 0, .ro, 0x0⟩]⟩,
   ⟨"TIM.SNAP_TB2", 0x00200180, [(0x4, 4)], (.pd 2), [⟨"SNAP", 31, 0, .ro, 0x0⟩]⟩,
   ⟨"TIM.SNAP_TB3", 0x00200190, [], (.pd 2), [⟨"SNAP", 31, 0, .ro, 0x0⟩]⟩]

/-- The registers of chapter 17. -/
def regs17 : List RegDef :=
  [⟨"HLK.LINK_STAT", 0x00300000, [], (.pd 2), [⟨"STATE", 31, 29, .ro, 0x0⟩, ⟨"LANES_UP", 28, 21, .ro, 0x0⟩]⟩,
   ⟨"HLK.CTRL", 0x00300004, [], (.pd 2), [⟨"POLL_US", 15, 0, .rw, 0x64⟩]⟩,
   ⟨"HLK.DB_PAGE_LO", 0x00300008, [], (.pd 2), [⟨"ADDR", 31, 12, .rw, 0x0⟩]⟩,
   ⟨"HLK.DB_PAGE_HI", 0x0030000C, [], (.pd 2), [⟨"ADDR", 31, 0, .rw, 0x0⟩]⟩,
   ⟨"HLK.ST_PAGE_LO", 0x00300010, [], (.pd 2), [⟨"ADDR", 31, 12, .rw, 0x0⟩]⟩,
   ⟨"HLK.ST_PAGE_HI", 0x00300014, [], (.pd 2), [⟨"ADDR", 31, 0, .rw, 0x0⟩]⟩,
   ⟨"HLK.CAPTURE", 0x00300018, [], (.pd 2), [⟨"EN", 31, 31, .rw, 0x0⟩, ⟨"TYPE", 30, 23, .rw, 0x0⟩, ⟨"ALL", 22, 22, .rw, 0x0⟩, ⟨"PORT", 10, 0, .rw, 0x0⟩]⟩,
   ⟨"HLK.CR_BASE_LO", 0x00301000, [(0x20, 16)], (.pd 2), [⟨"ADDR", 31, 12, .rw, 0x0⟩]⟩,
   ⟨"HLK.CR_BASE_HI", 0x00301004, [(0x20, 16)], (.pd 2), [⟨"ADDR", 31, 0, .rw, 0x0⟩]⟩,
   ⟨"HLK.CQ_BASE_LO", 0x00301008, [(0x20, 16)], (.pd 2), [⟨"ADDR", 31, 12, .rw, 0x0⟩]⟩,
   ⟨"HLK.CQ_BASE_HI", 0x0030100C, [(0x20, 16)], (.pd 2), [⟨"ADDR", 31, 0, .rw, 0x0⟩]⟩,
   ⟨"HLK.CR_CFG", 0x00301010, [(0x20, 16)], (.pd 2), [⟨"EN", 31, 31, .rw, 0x0⟩, ⟨"LOG2", 30, 26, .rw, 0x6⟩, ⟨"CQ_LOG2", 25, 21, .rw, 0x6⟩, ⟨"INT_EN", 20, 20, .rw, 0x0⟩, ⟨"VECTOR", 19, 14, .rw, 0x0⟩, ⟨"MOD_US", 13, 0, .rw, 0x0⟩]⟩,
   ⟨"HLK.CR_STAT", 0x00301014, [(0x20, 16)], (.pd 2), [⟨"STATE", 31, 30, .ro, 0x0⟩, ⟨"ACTIVE", 16, 0, .ro, 0x0⟩]⟩,
   ⟨"HLK.EV_BASE_LO", 0x00302000, [], (.pd 2), [⟨"ADDR", 31, 12, .rw, 0x0⟩]⟩,
   ⟨"HLK.EV_BASE_HI", 0x00302004, [], (.pd 2), [⟨"ADDR", 31, 0, .rw, 0x0⟩]⟩,
   ⟨"HLK.EV_CFG", 0x00302008, [], (.pd 2), [⟨"EN", 31, 31, .rw, 0x0⟩, ⟨"LOG2", 30, 26, .rw, 0x8⟩, ⟨"INT_EN", 20, 20, .rw, 0x0⟩, ⟨"VECTOR", 19, 14, .rw, 0x0⟩, ⟨"MOD_US", 13, 0, .rw, 0x0⟩]⟩,
   ⟨"HLK.EV_STAT", 0x0030200C, [], (.pd 2), [⟨"STATE", 31, 30, .ro, 0x0⟩, ⟨"QUEUED", 12, 0, .ro, 0x0⟩]⟩,
   ⟨"HLK.TL_BASE_LO", 0x00302020, [], (.pd 2), [⟨"ADDR", 31, 12, .rw, 0x0⟩]⟩,
   ⟨"HLK.TL_BASE_HI", 0x00302024, [], (.pd 2), [⟨"ADDR", 31, 0, .rw, 0x0⟩]⟩,
   ⟨"HLK.TL_CFG", 0x00302028, [], (.pd 2), [⟨"EN", 31, 31, .rw, 0x0⟩, ⟨"LOG2", 30, 26, .rw, 0x6⟩, ⟨"INT_EN", 20, 20, .rw, 0x0⟩, ⟨"VECTOR", 19, 14, .rw, 0x0⟩, ⟨"MOD_US", 13, 0, .rw, 0x0⟩]⟩,
   ⟨"HLK.TL_STAT", 0x0030202C, [], (.pd 2), [⟨"STATE", 31, 30, .ro, 0x0⟩]⟩]

/-- The registers of chapter 18. -/
def regs18 : List RegDef :=
  [⟨"PWR.SUPPLY_STAT", 0x00100000, [], (.pd 1), [⟨"VIN", 31, 16, .ro, 0x0⟩, ⟨"LEVEL", 15, 13, .ro, 0x0⟩, ⟨"DWELL_US", 12, 0, .ro, 0x0⟩]⟩,
   ⟨"PWR.SUPPLY_LOG", 0x00100004, [], (.pd 1), [⟨"CLR", 31, 31, .wo, 0x0⟩, ⟨"LOWEST", 30, 28, .ro, 0x0⟩, ⟨"M3_ENTRIES", 15, 0, .ro, 0x0⟩]⟩,
   ⟨"PWR.BUDGET", 0x00100010, [], (.pd 1), [⟨"PAL_W", 31, 16, .rw, 0x640⟩, ⟨"MODULE_W", 15, 0, .rw, 0x1A90⟩]⟩,
   ⟨"PWR.DIE_WEIGHT", 0x00100014, [], (.pd 1), [⟨"W3", 31, 24, .rw, 0x1⟩, ⟨"W2", 23, 16, .rw, 0x1⟩, ⟨"W1", 15, 8, .rw, 0x1⟩, ⟨"W0", 7, 0, .rw, 0x1⟩]⟩,
   ⟨"PWR.THERM_CFG", 0x00100018, [], (.pd 1), [⟨"RISE", 7, 0, .rw, 0xA⟩]⟩,
   ⟨"PWR.DIE_THERM", 0x00100020, [(0x4, 4)], (.pd 1), [⟨"HEADROOM", 31, 24, .ro, 0x0⟩, ⟨"STATE", 23, 22, .ro, 0x0⟩, ⟨"PCT", 21, 15, .ro, 0x0⟩]⟩,
   ⟨"PWR.MSTATE", 0x00100030, [], (.pd 1), [⟨"REQ", 31, 30, .rw, 0x0⟩, ⟨"CUR", 29, 28, .ro, 0x0⟩, ⟨"WAKE_S", 15, 0, .rw, 0x0⟩]⟩,
   ⟨"PWR.DOM_CMD", 0x00100040, [], (.pd 1), [⟨"OP", 31, 30, .wo, 0x0⟩, ⟨"DOMAIN", 4, 0, .wo, 0x0⟩]⟩,
   ⟨"PWR.DOM_STAT", 0x00100080, [(0x4, 20)], (.pd 1), [⟨"STATE", 31, 29, .ro, 0x0⟩, ⟨"STATUS", 3, 0, .ro, 0x0⟩]⟩]

/-- The registers of chapter 19. -/
def regs19 : List RegDef :=
  [⟨"GLB.RST_CMD", 0x00000020, [], (.pd 1), [⟨"KIND", 31, 30, .wo, 0x0⟩, ⟨"DOMAIN", 4, 0, .wo, 0x0⟩]⟩,
   ⟨"GLB.RST_STAT", 0x00000024, [], (.pd 1), [⟨"LAST_KIND", 31, 29, .ro, 0x0⟩, ⟨"LAST_CAUSE", 28, 26, .ro, 0x0⟩, ⟨"STATUS", 3, 0, .ro, 0x0⟩]⟩,
   ⟨"GLB.BOOT_STAT", 0x00000030, [], (.pd 1), [⟨"PHASE", 31, 30, .ro, 0x0⟩, ⟨"SOURCE", 29, 28, .ro, 0x0⟩, ⟨"FAILS", 27, 20, .ro, 0x0⟩, ⟨"LAST_FAIL", 15, 8, .ro, 0x0⟩, ⟨"OWNER", 7, 7, .ro, 0x0⟩, ⟨"SVN", 6, 0, .ro, 0x0⟩]⟩,
   ⟨"GLB.HOST_IMG_LO", 0x00000034, [], (.pd 1), [⟨"ADDR", 31, 12, .rw, 0x0⟩]⟩,
   ⟨"GLB.HOST_IMG_HI", 0x00000038, [], (.pd 1), [⟨"ADDR", 31, 0, .rw, 0x0⟩]⟩,
   ⟨"GLB.HOST_IMG_CTL", 0x0000003C, [], (.pd 1), [⟨"GO", 31, 31, .wo, 0x0⟩, ⟨"LEN", 25, 0, .rw, 0x0⟩]⟩,
   ⟨"GLB.FLASH_CMD", 0x00000040, [], (.pd 1), [⟨"OP", 31, 30, .wo, 0x0⟩, ⟨"SLOT", 29, 29, .wo, 0x0⟩, ⟨"LEN", 25, 0, .wo, 0x0⟩]⟩,
   ⟨"GLB.FLASH_ADDR_LO", 0x00000044, [], (.pd 1), [⟨"ADDR", 31, 12, .rw, 0x0⟩]⟩,
   ⟨"GLB.FLASH_ADDR_HI", 0x00000048, [], (.pd 1), [⟨"ADDR", 31, 0, .rw, 0x0⟩]⟩,
   ⟨"GLB.FLASH_STAT", 0x0000004C, [], (.pd 1), [⟨"BUSY", 31, 31, .ro, 0x0⟩, ⟨"CHECK", 15, 8, .ro, 0x0⟩, ⟨"STATUS", 3, 0, .ro, 0x0⟩]⟩,
   ⟨"GLB.SEC_STAT", 0x00000050, [], (.pd 1), [⟨"OWNER_REQ", 31, 31, .ro, 0x0⟩, ⟨"MIN_SVN", 30, 24, .ro, 0x0⟩, ⟨"STATUS", 3, 0, .ro, 0x0⟩]⟩,
   ⟨"GLB.SEC_CMD", 0x00000054, [], (.pd 1), [⟨"OP", 31, 30, .wo, 0x0⟩]⟩,
   ⟨"GLB.ATT_CMD", 0x00000060, [], (.pd 1), [⟨"OP", 31, 30, .wo, 0x0⟩, ⟨"INDEX", 7, 0, .wo, 0x0⟩]⟩,
   ⟨"GLB.ATT_ADDR_LO", 0x00000064, [], (.pd 1), [⟨"ADDR", 31, 12, .rw, 0x0⟩]⟩,
   ⟨"GLB.ATT_ADDR_HI", 0x00000068, [], (.pd 1), [⟨"ADDR", 31, 0, .rw, 0x0⟩]⟩,
   ⟨"GLB.ATT_STAT", 0x0000006C, [], (.pd 1), [⟨"BUSY", 31, 31, .ro, 0x0⟩, ⟨"OVERFLOW", 30, 30, .ro, 0x0⟩, ⟨"ENTRIES", 24, 16, .ro, 0x0⟩, ⟨"STATUS", 3, 0, .ro, 0x0⟩]⟩,
   ⟨"GLB.NONCE", 0x00000070, [(0x4, 8)], (.pd 1), [⟨"NONCE", 31, 0, .rw, 0x0⟩]⟩,
   ⟨"GLB.ATT_DATA", 0x00000090, [(0x4, 16)], (.pd 1), [⟨"DATA", 31, 0, .ro, 0x0⟩]⟩]

/-- The registers of chapter 20. -/
def regs20 : List RegDef :=
  [⟨"TEL.SNAP_CTRL", 0x0A000000, [], (.pd 2), [⟨"REQ", 31, 31, .wo, 0x0⟩, ⟨"LOCK", 30, 30, .rw, 0x0⟩, ⟨"PERIOD_US", 15, 0, .rw, 0x3E8⟩]⟩,
   ⟨"TEL.SNAP_STAT", 0x0A000004, [], (.pd 2), [⟨"INCONSISTENT", 31, 31, .ro, 0x0⟩, ⟨"LOCKED", 30, 30, .ro, 0x0⟩]⟩,
   ⟨"TEL.SNAP_SEQ", 0x0A000008, [], (.pd 2), [⟨"SEQ", 31, 0, .ro, 0x0⟩]⟩,
   ⟨"TEL.LEDGER_UNIT", 0x0A000100, [], (.pd 2), [⟨"KIND", 31, 24, .ro, 0x0⟩, ⟨"INDEX", 23, 0, .ro, 0x0⟩]⟩,
   ⟨"TEL.LEDGER_STAT", 0x0A000104, [], (.pd 2), [⟨"LAST_ID", 31, 24, .ro, 0x0⟩, ⟨"ISOLATED", 11, 0, .ro, 0x0⟩]⟩,
   ⟨"TEL.ISO_CMD", 0x0A000108, [], (.pd 2), [⟨"RELEASE", 31, 31, .wo, 0x0⟩, ⟨"KIND", 30, 24, .wo, 0x0⟩, ⟨"INDEX", 23, 0, .wo, 0x0⟩]⟩,
   ⟨"TEL.ISO_STAT", 0x0A00010C, [], (.pd 2), [⟨"BUSY", 31, 31, .ro, 0x0⟩, ⟨"STATUS", 3, 0, .ro, 0x0⟩]⟩,
   ⟨"TEL.HEALTH_CFG", 0x0A000200, [], (.pd 2), [⟨"EXP_PER_HOUR", 31, 28, .rw, 0x2⟩, ⟨"PIN_MAX_S", 27, 16, .rw, 0x258⟩, ⟨"LEASE_MS", 15, 0, .rw, 0x1F4⟩]⟩,
   ⟨"TEL.HEALTH_STRAG", 0x0A000204, [], (.pd 2), [⟨"STRAG_ROUNDS", 7, 0, .rw, 0x3⟩]⟩,
   ⟨"TEL.HEALTH_CMD", 0x0A000208, [], (.pd 2), [⟨"OP", 31, 30, .wo, 0x0⟩, ⟨"KIND", 23, 16, .wo, 0x0⟩, ⟨"INDEX", 15, 0, .wo, 0x0⟩]⟩,
   ⟨"TEL.HEALTH_PIN_S", 0x0A00020C, [], (.pd 2), [⟨"PIN_S", 11, 0, .rw, 0x0⟩]⟩,
   ⟨"TEL.HEALTH_STAT", 0x0A000210, [], (.pd 2), [⟨"BUSY", 31, 31, .ro, 0x0⟩, ⟨"STATUS", 3, 0, .ro, 0x0⟩]⟩,
   ⟨"TEL.HEALTH_DATA_0", 0x0A000220, [], (.pd 2), [⟨"SCORE", 31, 22, .ro, 0x0⟩, ⟨"STATE", 21, 19, .ro, 0x0⟩, ⟨"FLAGGED", 18, 18, .ro, 0x0⟩, ⟨"PINNED", 17, 17, .ro, 0x0⟩, ⟨"ACTED", 16, 16, .ro, 0x0⟩, ⟨"PIN_LEFT", 11, 0, .ro, 0x0⟩]⟩,
   ⟨"TEL.HEALTH_DATA_1", 0x0A000224, [], (.pd 2), [⟨"APPLIED", 31, 22, .ro, 0x0⟩]⟩,
   ⟨"TEL.HEALTH_SUM", 0x0A000230, [], (.pd 2), [⟨"EXP_HOUR", 31, 24, .ro, 0x0⟩, ⟨"FLAGGED", 23, 12, .ro, 0x0⟩, ⟨"WATCH_UP", 11, 0, .ro, 0x0⟩]⟩,
   ⟨"TEL.MAINT_STAT", 0x0A000300, [], (.pd 2), [⟨"ACTIVE", 31, 24, .ro, 0x0⟩, ⟨"WAITING", 23, 16, .ro, 0x0⟩]⟩,
   ⟨"TEL.UCODE_CMD", 0x0A000400, [], (.pd 2), [⟨"GO", 31, 31, .wo, 0x0⟩, ⟨"SLOT", 30, 30, .wo, 0x0⟩, ⟨"ISLAND", 6, 0, .wo, 0x0⟩]⟩,
   ⟨"TEL.UCODE_STAT", 0x0A000404, [], (.pd 2), [⟨"BUSY", 31, 31, .ro, 0x0⟩, ⟨"CHECK", 15, 8, .ro, 0x0⟩, ⟨"STATUS", 3, 0, .ro, 0x0⟩]⟩,
   ⟨"TEL.STALL_ATTR_NOW", 0x0A000500, [], (.pd 2), [⟨"NOW", 4, 0, .ro, 0x0⟩]⟩,
   ⟨"TEL.QDEPTH", 0x0A300000, [(0x40, 1094), (0x8, 8)], (.pd 8), [⟨"DEPTH", 31, 0, .ro, 0x0⟩]⟩,
   ⟨"TEL.QHWM", 0x0A300004, [(0x40, 1094), (0x8, 8)], (.pd 8), [⟨"CLR", 31, 31, .wo, 0x0⟩, ⟨"HWM", 30, 0, .ro, 0x0⟩]⟩]

/-- Every register of the setup window. -/
def regMap : List RegDef :=
  regs00 ++ regs01 ++ regs02 ++ regs04 ++ regs05 ++ regs06 ++ regs07 ++ regs08 ++ regs09 ++ regs10 ++ regs11 ++ regs12 ++ regs13 ++ regs14 ++ regs15 ++ regs16 ++ regs17 ++ regs18 ++ regs19 ++ regs20

/-- The counters of chapter 04. -/
def cnts04 : List CntDef :=
  [⟨"PL.HDR_STALL", 0x01000200, [(0x100000, 18)], .pipeline⟩,
   ⟨"BUF.FWD_FORCED", 0x03800050, [], (.pd 8)⟩,
   ⟨"BUF.FWD_MOVES", 0x03800058, [], (.pd 8)⟩]

/-- The counters of chapter 05. -/
def cnts05 : List CntDef :=
  [⟨"BUF.SPILL_BYTES", 0x03000080, [], (.pd 8)⟩,
   ⟨"BUF.BANK_STALL", 0x03000088, [], (.pd 8)⟩,
   ⟨"BUF.DROP", 0x03001008, [(0x8, 22)], (.pd 8)⟩]

/-- The counters of chapter 07. -/
def cnts07 : List CntDef :=
  [⟨"MCT.RX_PKTS", 0x04000400, [], (.pd 8)⟩,
   ⟨"MCT.REPLICAS", 0x04000408, [], (.pd 8)⟩,
   ⟨"MCT.PRUNED_LEAF", 0x04000410, [], (.pd 8)⟩,
   ⟨"MCT.PRUNED_PEER", 0x04000418, [], (.pd 8)⟩,
   ⟨"MCT.SUPPRESSED", 0x04000420, [], (.pd 8)⟩]

/-- The counters of chapter 08. -/
def cnts08 : List CntDef :=
  [⟨"CNV.CONTRIB_RX", 0x05000400, [], (.pd 8)⟩,
   ⟨"CNV.FOLDED", 0x05000408, [], (.pd 8)⟩,
   ⟨"CNV.DUP", 0x05000410, [], (.pd 8)⟩,
   ⟨"CNV.LATE", 0x05000418, [], (.pd 8)⟩,
   ⟨"CNV.STALE", 0x05000420, [], (.pd 8)⟩,
   ⟨"CNV.BAD", 0x05000428, [], (.pd 8)⟩,
   ⟨"CNV.NOT_MEMBER", 0x05000430, [], (.pd 8)⟩,
   ⟨"CNV.OUT_WINDOW", 0x05000438, [], (.pd 8)⟩,
   ⟨"CNV.RESULTS", 0x05000440, [], (.pd 8)⟩,
   ⟨"CNV.PARTIALS", 0x05000448, [], (.pd 8)⟩,
   ⟨"CNV.RETRIES", 0x05000450, [], (.pd 8)⟩,
   ⟨"CNV.ABANDONED", 0x05000458, [], (.pd 8)⟩,
   ⟨"CNV.PRUNED_RESULTS", 0x05000460, [], (.pd 8)⟩,
   ⟨"CNV.PHASE_MARKS", 0x05000468, [], (.pd 8)⟩,
   ⟨"CNV.PHASE_LATE", 0x05000470, [], (.pd 8)⟩,
   ⟨"CNV.OVF_BYTES", 0x05000478, [], (.pd 8)⟩]

/-- The counters of chapter 09. -/
def cnts09 : List CntDef :=
  [⟨"PAL.BUSY_CYCLES", 0x06000100, [(0x100000, 8)], .engine⟩,
   ⟨"PAL.ROW_CYCLES", 0x06000108, [(0x100000, 8)], .engine⟩,
   ⟨"PAL.ROW_UNITS", 0x06000110, [(0x100000, 8)], .engine⟩,
   ⟨"PAL.FILLER_CYCLES", 0x06000118, [(0x100000, 8)], .engine⟩,
   ⟨"PAL.RAMPS", 0x06000120, [(0x100000, 8)], .engine⟩,
   ⟨"PAL.CORRECTED", 0x06000128, [(0x100000, 8)], .engine⟩,
   ⟨"PAL.FAULT_STOPS", 0x06000130, [(0x100000, 8)], .engine⟩]

/-- The counters of chapter 10. -/
def cnts10 : List CntDef :=
  [⟨"PAL.LISTS_DONE", 0x06002100, [(0x100000, 8)], .engine⟩,
   ⟨"PAL.LISTS_FAILED", 0x06002108, [(0x100000, 8)], .engine⟩,
   ⟨"PAL.LIST_RESUMES", 0x06002110, [(0x100000, 8)], .engine⟩,
   ⟨"PAL.ENERGY_CHARGED", 0x06002118, [(0x100000, 8)], .engine⟩,
   ⟨"PAL.ADMIT_WAIT", 0x06002120, [(0x100000, 8)], .engine⟩]

/-- The counters of chapter 11. -/
def cnts11 : List CntDef :=
  [⟨"MEM.HA_REQ_DONE", 0x07400040, [(0x100, 4)], .memDie⟩,
   ⟨"MEM.HA_DUP", 0x07400048, [(0x100, 4)], .memDie⟩,
   ⟨"MEM.HA_DISCARD", 0x07400050, [(0x100, 4)], .memDie⟩,
   ⟨"MEM.HA_WIN_REFUSED", 0x07400058, [(0x100, 4)], .memDie⟩,
   ⟨"MEM.HA_COMBINED", 0x07400060, [(0x100, 4)], .memDie⟩,
   ⟨"MEM.HA_GATE_NS", 0x07400068, [(0x100, 4)], .memDie⟩,
   ⟨"MEM.REQ_HELD", 0x07420100, [], (.pd 2)⟩,
   ⟨"MEM.REQ_HELD_RELEASED", 0x07420108, [], (.pd 2)⟩,
   ⟨"MEM.REQ_HELD_RESOLVED", 0x07420110, [], (.pd 2)⟩,
   ⟨"MEM.REQ_HELD_OVERFLOW", 0x07420118, [], (.pd 2)⟩,
   ⟨"MEM.REQ_POISONED", 0x07420120, [], (.pd 2)⟩]

/-- The counters of chapter 12. -/
def cnts12 : List CntDef :=
  [⟨"MEM.MIG_BYTES", 0x07000400, [], (.pd 2)⟩,
   ⟨"MEM.PROMOTIONS", 0x07000408, [], (.pd 2)⟩,
   ⟨"MEM.DEMOTIONS", 0x07000410, [], (.pd 2)⟩,
   ⟨"MEM.FOLLOW_MOVES", 0x07000418, [], (.pd 2)⟩,
   ⟨"MEM.RELOC_BYTES", 0x07000420, [], (.pd 2)⟩,
   ⟨"MEM.HBM_CE", 0x07000428, [], (.pd 2)⟩,
   ⟨"MEM.HBM_UE", 0x07000430, [], (.pd 2)⟩,
   ⟨"CXL.RD_BYTES", 0x07800040, [(0x100, 8)], (.pd 20)⟩,
   ⟨"CXL.WR_BYTES", 0x07800048, [(0x100, 8)], (.pd 20)⟩,
   ⟨"CXL.POISON", 0x07800050, [(0x100, 8)], (.pd 20)⟩]

/-- The counters of chapter 13. -/
def cnts13 : List CntDef :=
  [⟨"OPT.DATA_NS", 0x08000800, [], (.pd 5)⟩,
   ⟨"OPT.GUARD_NS", 0x08000808, [], (.pd 5)⟩,
   ⟨"OPT.LOOP_NS", 0x08000810, [], (.pd 5)⟩,
   ⟨"OPT.TAIL_NS", 0x08000818, [], (.pd 5)⟩,
   ⟨"OPT.IDLE_NS", 0x08000820, [], (.pd 5)⟩,
   ⟨"OPT.RETUNE_NS", 0x08000828, [], (.pd 5)⟩,
   ⟨"OPT.DARK_NS", 0x08000830, [], (.pd 5)⟩,
   ⟨"OPT.DOWN_NS", 0x08000838, [], (.pd 5)⟩,
   ⟨"OPT.ALIGN_ERR", 0x08000840, [], (.pd 5)⟩,
   ⟨"OPT.FENCE_LATE", 0x08000848, [], (.pd 5)⟩,
   ⟨"OPT.MARKS_RELAYED", 0x08000850, [], (.pd 5)⟩,
   ⟨"OPT.RETUNES", 0x08000858, [], (.pd 5)⟩,
   ⟨"OPT.TAKEOVERS", 0x08000860, [], (.pd 5)⟩]

/-- The counters of chapter 14. -/
def cnts14 : List CntDef :=
  [⟨"PL.LINK_CNT", 0x01041000, [(0x100000, 17), (0x40, 64), (0x8, 8)], .pipeline⟩]

/-- The counters of chapter 15. -/
def cnts15 : List CntDef :=
  [⟨"ETH.FILTER", 0x09001000, [(0x8, 8)], (.pd 8)⟩,
   ⟨"ETH.LEARN_FULL", 0x09001100, [(0x10, 16)], (.pipeline)⟩,
   ⟨"ETH.MOVES", 0x09001108, [(0x10, 16)], (.pipeline)⟩]

/-- The counters of chapter 17. -/
def cnts17 : List CntDef :=
  [⟨"HLK.NUDGES", 0x00303000, [], (.pd 2)⟩,
   ⟨"HLK.PAGE_READS", 0x00303008, [], (.pd 2)⟩,
   ⟨"HLK.DESC_DONE", 0x00303010, [], (.pd 2)⟩,
   ⟨"HLK.EV_MERGED", 0x00303018, [], (.pd 2)⟩,
   ⟨"HLK.EV_LOST", 0x00303020, [], (.pd 2)⟩,
   ⟨"HLK.TEL_SKIPPED", 0x00303028, [], (.pd 2)⟩,
   ⟨"HLK.CAP_MISSED", 0x00303030, [], (.pd 2)⟩]

/-- The counters of chapter 18. -/
def cnts18 : List CntDef :=
  [⟨"PWR.STRETCH", 0x00100100, [], (.pd 1)⟩,
   ⟨"PWR.SHED_ENTRIES", 0x00100108, [], (.pd 1)⟩,
   ⟨"PWR.THROTTLE_US", 0x00100110, [], (.pd 1)⟩]

/-- The counters of chapter 20. -/
def cnts20 : List CntDef :=
  [⟨"TEL.PORT_CNT", 0x0A100000, [(0x400, 1094), (0x8, 11)], .port⟩,
   ⟨"TEL.PORT_DROP", 0x0A100108, [(0x400, 1094), (0x8, 22)], .port⟩,
   ⟨"TEL.STALL", 0x0A400000, [(0x20, 112), (0x8, 3)], .island⟩,
   ⟨"TEL.SNAP_SKIPPED", 0x0A001000, [], (.pd 2)⟩,
   ⟨"TEL.INCONSISTENT", 0x0A001008, [], (.pd 2)⟩,
   ⟨"TEL.LEDGER_FAILS", 0x0A001010, [], (.pd 2)⟩,
   ⟨"TEL.EXPULSIONS", 0x0A001018, [], (.pd 2)⟩,
   ⟨"TEL.STALL_ATTR_NS", 0x0A001020, [], (.pd 2)⟩,
   ⟨"TEL.HUB_LATE_RSP", 0x0A001028, [], (.pd 2)⟩,
   ⟨"TEL.UCODE_SWAPS", 0x0A001030, [], (.pd 2)⟩]

/-- Every counter of the setup window (R11, R408). -/
def cntMap : List CntDef :=
  cnts04 ++ cnts05 ++ cnts07 ++ cnts08 ++ cnts09 ++ cnts10 ++ cnts11 ++ cnts12 ++ cnts13 ++ cnts14 ++ cnts15 ++ cnts17 ++ cnts18 ++ cnts20

/-- The first definition of a list that an offset names, with the indices. -/
def findReg : List RegDef → Nat → Option (RegDef × List Nat)
  | [], _ => none
  | r :: rs, off =>
    match offIdx r.base r.dims off with
    | some ix => some (r, ix)
    | none => findReg rs off

/-- The counter that a low or high word's offset names, with the indices and whether it is the high word. -/
def findCnt : List CntDef → Nat → Option (CntDef × List Nat × Bool)
  | [], _ => none
  | c :: cs, off =>
    match offIdx c.base c.dims off with
    | some ix => some (c, ix, false)
    | none =>
      match if off < 4 then none else offIdx c.base c.dims (off - 4) with
      | some ix => some (c, ix, true)
      | none => findCnt cs off

/-- The reset value that a register's fields spell. -/
def resetOfFields : List FieldDef → Word → Word
  | [], w => w
  | f :: fs, w => resetOfFields fs (w.setFld f.hi f.lo f.rst)

/-- The reset value of the register at an offset; 0 at an offset that holds no register. -/
def regReset (off : Nat) : Word :=
  match findReg regMap off with
  | some (r, _) => resetOfFields r.fields 0
  | none => 0

/-- The domain of a register with the indices found. -/
def RegDef.domain (r : RegDef) (ix : List Nat) : Nat := r.dom.at (ix.headD 0)

/-- The domain of a counter with the indices found. -/
def CntDef.domain (c : CntDef) (ix : List Nat) : Nat := c.dom.at (ix.headD 0)

/-! Offsets of the registers and counters, with the indices of each in the order of its name. -/

/-- GLB.ID (R3). -/
def R.GLB_ID : Nat := 0x00000000
/-- GLB.STEP (R3). -/
def R.GLB_STEP : Nat := 0x00000004
/-- GLB.FABRIC_ID (R22). -/
def R.GLB_FABRIC_ID : Nat := 0x00000010
/-- GLB.RST_CMD (R406). -/
def R.GLB_RST_CMD : Nat := 0x00000020
/-- GLB.RST_STAT (R406). -/
def R.GLB_RST_STAT : Nat := 0x00000024
/-- GLB.BOOT_STAT (R406). -/
def R.GLB_BOOT_STAT : Nat := 0x00000030
/-- GLB.HOST_IMG_LO (R406). -/
def R.GLB_HOST_IMG_LO : Nat := 0x00000034
/-- GLB.HOST_IMG_HI (R406). -/
def R.GLB_HOST_IMG_HI : Nat := 0x00000038
/-- GLB.HOST_IMG_CTL (R406). -/
def R.GLB_HOST_IMG_CTL : Nat := 0x0000003C
/-- GLB.FLASH_CMD (R406). -/
def R.GLB_FLASH_CMD : Nat := 0x00000040
/-- GLB.FLASH_ADDR_LO (R406). -/
def R.GLB_FLASH_ADDR_LO : Nat := 0x00000044
/-- GLB.FLASH_ADDR_HI (R406). -/
def R.GLB_FLASH_ADDR_HI : Nat := 0x00000048
/-- GLB.FLASH_STAT (R406). -/
def R.GLB_FLASH_STAT : Nat := 0x0000004C
/-- GLB.SEC_STAT (R406). -/
def R.GLB_SEC_STAT : Nat := 0x00000050
/-- GLB.SEC_CMD (R406). -/
def R.GLB_SEC_CMD : Nat := 0x00000054
/-- GLB.ATT_CMD (R406). -/
def R.GLB_ATT_CMD : Nat := 0x00000060
/-- GLB.ATT_ADDR_LO (R406). -/
def R.GLB_ATT_ADDR_LO : Nat := 0x00000064
/-- GLB.ATT_ADDR_HI (R406). -/
def R.GLB_ATT_ADDR_HI : Nat := 0x00000068
/-- GLB.ATT_STAT (R406). -/
def R.GLB_ATT_STAT : Nat := 0x0000006C
/-- GLB.NONCE (R406). -/
def R.GLB_NONCE (i : Nat) : Nat := 0x00000070 + 0x4 * i
/-- GLB.ATT_DATA (R406). -/
def R.GLB_ATT_DATA (i : Nat) : Nat := 0x00000090 + 0x4 * i
/-- GLB.D2D_STAT (R36). -/
def R.GLB_D2D_STAT (i : Nat) : Nat := 0x00000100 + 0x4 * i
/-- PWR.SUPPLY_STAT (R388). -/
def R.PWR_SUPPLY_STAT : Nat := 0x00100000
/-- PWR.SUPPLY_LOG (R388). -/
def R.PWR_SUPPLY_LOG : Nat := 0x00100004
/-- PWR.BUDGET (R388). -/
def R.PWR_BUDGET : Nat := 0x00100010
/-- PWR.DIE_WEIGHT (R388). -/
def R.PWR_DIE_WEIGHT : Nat := 0x00100014
/-- PWR.THERM_CFG (R388). -/
def R.PWR_THERM_CFG : Nat := 0x00100018
/-- PWR.DIE_THERM (R388). -/
def R.PWR_DIE_THERM (i : Nat) : Nat := 0x00100020 + 0x4 * i
/-- PWR.MSTATE (R388). -/
def R.PWR_MSTATE : Nat := 0x00100030
/-- PWR.DOM_CMD (R388). -/
def R.PWR_DOM_CMD : Nat := 0x00100040
/-- PWR.DOM_STAT (R388). -/
def R.PWR_DOM_STAT (i : Nat) : Nat := 0x00100080 + 0x4 * i
/-- TIM.CTRL (R356). -/
def R.TIM_CTRL : Nat := 0x00200000
/-- TIM.STAT (R356). -/
def R.TIM_STAT : Nat := 0x00200004
/-- TIM.RATE_CFG (R356). -/
def R.TIM_RATE_CFG : Nat := 0x00200008
/-- TIM.RATE (R356). -/
def R.TIM_RATE : Nat := 0x0020000C
/-- TIM.SET_SEC_HI (R356). -/
def R.TIM_SET_SEC_HI : Nat := 0x00200010
/-- TIM.SET_SEC_LO (R356). -/
def R.TIM_SET_SEC_LO : Nat := 0x00200014
/-- TIM.SET_NS (R356). -/
def R.TIM_SET_NS : Nat := 0x00200018
/-- TIM.SET_CMD (R356). -/
def R.TIM_SET_CMD : Nat := 0x0020001C
/-- TIM.PHY_LAT (R356). -/
def R.TIM_PHY_LAT : Nat := 0x00200020
/-- TIM.SNAP_SEC_HI (R356). -/
def R.TIM_SNAP_SEC_HI : Nat := 0x00200040
/-- TIM.SNAP_SEC_LO (R356). -/
def R.TIM_SNAP_SEC_LO : Nat := 0x00200044
/-- TIM.SNAP_NS (R356). -/
def R.TIM_SNAP_NS : Nat := 0x00200048
/-- TIM.SNAP_FRAC (R356). -/
def R.TIM_SNAP_FRAC : Nat := 0x0020004C
/-- TIM.SNAP_TB1 (R356). -/
def R.TIM_SNAP_TB1 (i : Nat) : Nat := 0x00200100 + 0x4 * i
/-- TIM.SNAP_TB2 (R356). -/
def R.TIM_SNAP_TB2 (i : Nat) : Nat := 0x00200180 + 0x4 * i
/-- TIM.SNAP_TB3 (R356). -/
def R.TIM_SNAP_TB3 : Nat := 0x00200190
/-- HLK.LINK_STAT (R375). -/
def R.HLK_LINK_STAT : Nat := 0x00300000
/-- HLK.CTRL (R375). -/
def R.HLK_CTRL : Nat := 0x00300004
/-- HLK.DB_PAGE_LO (R375). -/
def R.HLK_DB_PAGE_LO : Nat := 0x00300008
/-- HLK.DB_PAGE_HI (R375). -/
def R.HLK_DB_PAGE_HI : Nat := 0x0030000C
/-- HLK.ST_PAGE_LO (R375). -/
def R.HLK_ST_PAGE_LO : Nat := 0x00300010
/-- HLK.ST_PAGE_HI (R375). -/
def R.HLK_ST_PAGE_HI : Nat := 0x00300014
/-- HLK.CAPTURE (R375). -/
def R.HLK_CAPTURE : Nat := 0x00300018
/-- HLK.CR_BASE_LO (R375). -/
def R.HLK_CR_BASE_LO (i : Nat) : Nat := 0x00301000 + 0x20 * i
/-- HLK.CR_BASE_HI (R375). -/
def R.HLK_CR_BASE_HI (i : Nat) : Nat := 0x00301004 + 0x20 * i
/-- HLK.CQ_BASE_LO (R375). -/
def R.HLK_CQ_BASE_LO (i : Nat) : Nat := 0x00301008 + 0x20 * i
/-- HLK.CQ_BASE_HI (R375). -/
def R.HLK_CQ_BASE_HI (i : Nat) : Nat := 0x0030100C + 0x20 * i
/-- HLK.CR_CFG (R375). -/
def R.HLK_CR_CFG (i : Nat) : Nat := 0x00301010 + 0x20 * i
/-- HLK.CR_STAT (R375). -/
def R.HLK_CR_STAT (i : Nat) : Nat := 0x00301014 + 0x20 * i
/-- HLK.EV_BASE_LO (R375). -/
def R.HLK_EV_BASE_LO : Nat := 0x00302000
/-- HLK.EV_BASE_HI (R375). -/
def R.HLK_EV_BASE_HI : Nat := 0x00302004
/-- HLK.EV_CFG (R375). -/
def R.HLK_EV_CFG : Nat := 0x00302008
/-- HLK.EV_STAT (R375). -/
def R.HLK_EV_STAT : Nat := 0x0030200C
/-- HLK.TL_BASE_LO (R375). -/
def R.HLK_TL_BASE_LO : Nat := 0x00302020
/-- HLK.TL_BASE_HI (R375). -/
def R.HLK_TL_BASE_HI : Nat := 0x00302024
/-- HLK.TL_CFG (R375). -/
def R.HLK_TL_CFG : Nat := 0x00302028
/-- HLK.TL_STAT (R375). -/
def R.HLK_TL_STAT : Nat := 0x0030202C
/-- PL.PATH_WEIGHT (R106). -/
def R.PL_PATH_WEIGHT (i j : Nat) : Nat := 0x01001000 + 0x100000 * i + 0x4 * j
/-- PL.TC_SCHED (R146). -/
def R.PL_TC_SCHED (i j k : Nat) : Nat := 0x01010000 + 0x100000 * i + 0x20 * j + 0x4 * k
/-- PL.TC_SCHED17 (R146). -/
def R.PL_TC_SCHED17 (i j : Nat) : Nat := 0x02110000 + 0x20 * i + 0x4 * j
/-- PL.LEN_OVH (R146). -/
def R.PL_LEN_OVH (i j : Nat) : Nat := 0x01010800 + 0x100000 * i + 0x4 * j
/-- PL.LEN_OVH17 (R146). -/
def R.PL_LEN_OVH17 (i : Nat) : Nat := 0x02110800 + 0x4 * i
/-- PL.SHP (R146). -/
def R.PL_SHP (i j k : Nat) : Nat := 0x01020000 + 0x100000 * i + 0x40 * j + 0x4 * k
/-- PL.SHP17 (R146). -/
def R.PL_SHP17 (i j : Nat) : Nat := 0x02120000 + 0x40 * i + 0x4 * j
/-- PL.SHP_TOK (R146). -/
def R.PL_SHP_TOK (i j k : Nat) : Nat := 0x01021000 + 0x100000 * i + 0x40 * j + 0x4 * k
/-- PL.SHP_TOK17 (R146). -/
def R.PL_SHP_TOK17 (i j : Nat) : Nat := 0x02121000 + 0x40 * i + 0x4 * j
/-- PL.POL_C (R146). -/
def R.PL_POL_C (i j k : Nat) : Nat := 0x01030000 + 0x100000 * i + 0x80 * j + 0x10 * k
/-- PL.POL_P (R146). -/
def R.PL_POL_P (i j k : Nat) : Nat := 0x01030004 + 0x100000 * i + 0x80 * j + 0x10 * k
/-- PL.POL_MODE (R146). -/
def R.PL_POL_MODE (i j k : Nat) : Nat := 0x01030008 + 0x100000 * i + 0x80 * j + 0x10 * k
/-- PL.PORT_CTRL (R326). -/
def R.PL_PORT_CTRL (i j : Nat) : Nat := 0x01040000 + 0x100000 * i + 0x4 * j
/-- PL.PORT_STAT (R326). -/
def R.PL_PORT_STAT (i j : Nat) : Nat := 0x01040100 + 0x100000 * i + 0x4 * j
/-- PL.LINK_CFG (R326). -/
def R.PL_LINK_CFG (i : Nat) : Nat := 0x01040200 + 0x100000 * i
/-- PL.LINK_ACK (R326). -/
def R.PL_LINK_ACK (i : Nat) : Nat := 0x01040204 + 0x100000 * i
/-- PL.ETH_MODE (R339). -/
def R.PL_ETH_MODE (i : Nat) : Nat := 0x01050000 + 0x100000 * i
/-- PL.ETH_PVID (R339). -/
def R.PL_ETH_PVID (i j : Nat) : Nat := 0x01050100 + 0x100000 * i + 0x4 * j
/-- BUF.CELL_TOTAL (R128). -/
def R.BUF_CELL_TOTAL : Nat := 0x03000000
/-- BUF.CELL_FREE (R128). -/
def R.BUF_CELL_FREE : Nat := 0x03000004
/-- BUF.ADM_STAT (R128). -/
def R.BUF_ADM_STAT : Nat := 0x03000008
/-- BUF.IN_RSV (R128). -/
def R.BUF_IN_RSV : Nat := 0x03000010
/-- BUF.PL17_RSV (R128). -/
def R.BUF_PL17_RSV : Nat := 0x03000014
/-- BUF.IN_ALPHA (R128). -/
def R.BUF_IN_ALPHA : Nat := 0x03000018
/-- BUF.SPILL_CTRL (R128). -/
def R.BUF_SPILL_CTRL : Nat := 0x03000020
/-- BUF.NOPATH_CTRL (R128). -/
def R.BUF_NOPATH_CTRL : Nat := 0x03000028
/-- BUF.AGE_LIMIT (R128). -/
def R.BUF_AGE_LIMIT : Nat := 0x0300002C
/-- BUF.TC_CFG (R128). -/
def R.BUF_TC_CFG (i : Nat) : Nat := 0x03000040 + 0x4 * i
/-- BUF.MARK (R128). -/
def R.BUF_MARK (i : Nat) : Nat := 0x03000060 + 0x4 * i
/-- BUF.FWD_CMD (R105). -/
def R.BUF_FWD_CMD : Nat := 0x03800000
/-- BUF.FWD_STAT (R105). -/
def R.BUF_FWD_STAT : Nat := 0x03800004
/-- BUF.FWD_DATA (R105). -/
def R.BUF_FWD_DATA (i : Nat) : Nat := 0x03800010 + 0x4 * i
/-- BUF.FWD_OVR_SHADOW (R105). -/
def R.BUF_FWD_OVR_SHADOW : Nat := 0x03800020
/-- BUF.FWD_OVR_ACTIVE (R105). -/
def R.BUF_FWD_OVR_ACTIVE : Nat := 0x03800024
/-- BUF.FWD_GEN_ACTIVE (R105). -/
def R.BUF_FWD_GEN_ACTIVE : Nat := 0x03800030
/-- BUF.FWD_GEN_CTRL (R105). -/
def R.BUF_FWD_GEN_CTRL : Nat := 0x03800034
/-- BUF.FWD_EPOCH_SEC (R105). -/
def R.BUF_FWD_EPOCH_SEC : Nat := 0x03800038
/-- BUF.FWD_EPOCH_NS (R105). -/
def R.BUF_FWD_EPOCH_NS : Nat := 0x0380003C
/-- BUF.FWD_SPRAY_CTRL (R105). -/
def R.BUF_FWD_SPRAY_CTRL : Nat := 0x03800040
/-- BUF.FWD_MOVE_CTRL (R105). -/
def R.BUF_FWD_MOVE_CTRL : Nat := 0x03800044
/-- MCT.CMD (R157). -/
def R.MCT_CMD : Nat := 0x04000000
/-- MCT.STAT (R157). -/
def R.MCT_STAT : Nat := 0x04000004
/-- MCT.GRP_SHADOW (R157). -/
def R.MCT_GRP_SHADOW : Nat := 0x04000010
/-- MCT.GRP_ACTIVE (R157). -/
def R.MCT_GRP_ACTIVE : Nat := 0x04000014
/-- MCT.DATA (R157). -/
def R.MCT_DATA (i : Nat) : Nat := 0x04000100 + 0x4 * i
/-- MCT.FENCE (R157). -/
def R.MCT_FENCE (i : Nat) : Nat := 0x04000200 + 0x4 * i
/-- CNV.CMD (R188). -/
def R.CNV_CMD : Nat := 0x05000000
/-- CNV.STAT (R188). -/
def R.CNV_STAT : Nat := 0x05000004
/-- CNV.CTX_SHADOW (R188). -/
def R.CNV_CTX_SHADOW : Nat := 0x05000010
/-- CNV.CTX_ACTIVE (R188). -/
def R.CNV_CTX_ACTIVE : Nat := 0x05000014
/-- CNV.STAGE_CTRL (R188). -/
def R.CNV_STAGE_CTRL : Nat := 0x05000020
/-- CNV.BATCH_CTRL (R188). -/
def R.CNV_BATCH_CTRL : Nat := 0x05000024
/-- CNV.PHASE_CTRL (R188). -/
def R.CNV_PHASE_CTRL : Nat := 0x05000028
/-- CNV.PAL_SHARE (R188). -/
def R.CNV_PAL_SHARE : Nat := 0x0500002C
/-- CNV.ENERGY_DEF0 (R188). -/
def R.CNV_ENERGY_DEF0 : Nat := 0x05000040
/-- CNV.ENERGY_DEF1 (R188). -/
def R.CNV_ENERGY_DEF1 : Nat := 0x05000044
/-- CNV.ENERGY_DEF2 (R188). -/
def R.CNV_ENERGY_DEF2 : Nat := 0x05000048
/-- CNV.ENERGY_DEF3 (R188). -/
def R.CNV_ENERGY_DEF3 : Nat := 0x0500004C
/-- CNV.ENERGY_DEF4 (R188). -/
def R.CNV_ENERGY_DEF4 : Nat := 0x05000050
/-- CNV.ENERGY_DEF5 (R188). -/
def R.CNV_ENERGY_DEF5 : Nat := 0x05000054
/-- CNV.ENERGY_DEF6 (R188). -/
def R.CNV_ENERGY_DEF6 : Nat := 0x05000058
/-- CNV.ENERGY_DEF7 (R188). -/
def R.CNV_ENERGY_DEF7 : Nat := 0x0500005C
/-- CNV.DATA (R188). -/
def R.CNV_DATA (i : Nat) : Nat := 0x05000100 + 0x4 * i
/-- PAL.ENG_CTRL (R216). -/
def R.PAL_ENG_CTRL (i : Nat) : Nat := 0x06000000 + 0x100000 * i
/-- PAL.ENG_STAT (R216). -/
def R.PAL_ENG_STAT (i : Nat) : Nat := 0x06000004 + 0x100000 * i
/-- PAL.FAULT_CTRL (R216). -/
def R.PAL_FAULT_CTRL (i : Nat) : Nat := 0x06000008 + 0x100000 * i
/-- PAL.FAULT_STAT (R216). -/
def R.PAL_FAULT_STAT (i : Nat) : Nat := 0x0600000C + 0x100000 * i
/-- PAL.LANE_MAP (R216). -/
def R.PAL_LANE_MAP (i : Nat) : Nat := 0x06000010 + 0x100000 * i
/-- PAL.LANE_RETIRE (R216). -/
def R.PAL_LANE_RETIRE (i : Nat) : Nat := 0x06000014 + 0x100000 * i
/-- PAL.DIE_GOV (R216). -/
def R.PAL_DIE_GOV (i : Nat) : Nat := 0x06000040 + 0x200000 * i
/-- PAL.RING_CMD (R244). -/
def R.PAL_RING_CMD : Nat := 0x06001000
/-- PAL.RING_STAT (R244). -/
def R.PAL_RING_STAT : Nat := 0x06001004
/-- PAL.RING_DATA (R244). -/
def R.PAL_RING_DATA (i : Nat) : Nat := 0x06001010 + 0x4 * i
/-- PAL.Q_CFG (R244). -/
def R.PAL_Q_CFG (i j : Nat) : Nat := 0x06002000 + 0x100000 * i + 0x4 * j
/-- PAL.Q_STAT (R244). -/
def R.PAL_Q_STAT (i j : Nat) : Nat := 0x06002040 + 0x100000 * i + 0x4 * j
/-- PAL.LIST_CTRL (R244). -/
def R.PAL_LIST_CTRL (i : Nat) : Nat := 0x06002080 + 0x100000 * i
/-- PAL.DIE_BUDGET (R244). -/
def R.PAL_DIE_BUDGET (i : Nat) : Nat := 0x06003000 + 0x200000 * i
/-- PAL.DIE_ACCOUNT (R244). -/
def R.PAL_DIE_ACCOUNT (i : Nat) : Nat := 0x06003004 + 0x200000 * i
/-- PAL.DIE_ADMIT (R244). -/
def R.PAL_DIE_ADMIT (i : Nat) : Nat := 0x06003008 + 0x200000 * i
/-- MEM.HA_CTRL (R263). -/
def R.MEM_HA_CTRL (i : Nat) : Nat := 0x07400000 + 0x100 * i
/-- MEM.HA_STAT (R263). -/
def R.MEM_HA_STAT (i : Nat) : Nat := 0x07400004 + 0x100 * i
/-- MEM.HA_TRK_CMD (R263). -/
def R.MEM_HA_TRK_CMD (i : Nat) : Nat := 0x07400008 + 0x100 * i
/-- MEM.HA_TRK_STAT (R263). -/
def R.MEM_HA_TRK_STAT (i : Nat) : Nat := 0x0740000C + 0x100 * i
/-- MEM.WIN_CMD (R263). -/
def R.MEM_WIN_CMD : Nat := 0x07410000
/-- MEM.WIN_STAT (R263). -/
def R.MEM_WIN_STAT : Nat := 0x07410004
/-- MEM.WIN_DATA (R263). -/
def R.MEM_WIN_DATA (i : Nat) : Nat := 0x07410010 + 0x4 * i
/-- MEM.REQ_TIMER (R263). -/
def R.MEM_REQ_TIMER : Nat := 0x07420000
/-- MEM.REQ_DOMAIN (R263). -/
def R.MEM_REQ_DOMAIN : Nat := 0x07420004
/-- MEM.REQ_RETRY (R263). -/
def R.MEM_REQ_RETRY : Nat := 0x07420008
/-- MEM.HELD_CMD (R263). -/
def R.MEM_HELD_CMD : Nat := 0x07420010
/-- MEM.HELD_STAT (R263). -/
def R.MEM_HELD_STAT : Nat := 0x07420014
/-- MEM.HELD_DATA (R263). -/
def R.MEM_HELD_DATA (i : Nat) : Nat := 0x07420020 + 0x4 * i
/-- MEM.STACK_STAT (R285). -/
def R.MEM_STACK_STAT (i : Nat) : Nat := 0x07000000 + 0x4 * i
/-- MEM.STACK_RETIRED (R285). -/
def R.MEM_STACK_RETIRED : Nat := 0x07000080
/-- MEM.STACK_OPSTAT (R285). -/
def R.MEM_STACK_OPSTAT : Nat := 0x07000084
/-- MEM.FIX_GIB (R285). -/
def R.MEM_FIX_GIB (i : Nat) : Nat := 0x07000100 + 0x4 * i
/-- MEM.PAGE_CMD (R285). -/
def R.MEM_PAGE_CMD : Nat := 0x07000200
/-- MEM.PAGE_STAT (R285). -/
def R.MEM_PAGE_STAT : Nat := 0x07000204
/-- MEM.PAGE_DATA (R285). -/
def R.MEM_PAGE_DATA (i : Nat) : Nat := 0x07000210 + 0x4 * i
/-- MEM.EASEL_CTRL (R285). -/
def R.MEM_EASEL_CTRL : Nat := 0x07000300
/-- MEM.EASEL_RETIRE (R285). -/
def R.MEM_EASEL_RETIRE : Nat := 0x07000304
/-- MEM.EASEL_HEAT (R285). -/
def R.MEM_EASEL_HEAT : Nat := 0x07000308
/-- MEM.EASEL_SAT (R285). -/
def R.MEM_EASEL_SAT : Nat := 0x0700030C
/-- MEM.EASEL_SPACE (R285). -/
def R.MEM_EASEL_SPACE : Nat := 0x07000310
/-- MEM.SPILL_FLOOR (R285). -/
def R.MEM_SPILL_FLOOR : Nat := 0x07000314
/-- MEM.SPILL_GRANT (R285). -/
def R.MEM_SPILL_GRANT : Nat := 0x07000318
/-- MEM.DIE_FREE (R285). -/
def R.MEM_DIE_FREE (i : Nat) : Nat := 0x07000320 + 0x4 * i
/-- MEM.DIE_LOAD (R285). -/
def R.MEM_DIE_LOAD (i : Nat) : Nat := 0x07000330 + 0x4 * i
/-- CXL.PORT_CTRL (R286). -/
def R.CXL_PORT_CTRL (i : Nat) : Nat := 0x07800000 + 0x100 * i
/-- CXL.PORT_STAT (R286). -/
def R.CXL_PORT_STAT (i : Nat) : Nat := 0x07800004 + 0x100 * i
/-- OPT.PRISM_CTRL (R310). -/
def R.OPT_PRISM_CTRL : Nat := 0x08000000
/-- OPT.PRISM_GUARD (R310). -/
def R.OPT_PRISM_GUARD : Nat := 0x08000004
/-- OPT.PRISM_STAT (R310). -/
def R.OPT_PRISM_STAT : Nat := 0x08000008
/-- OPT.PAT_CMD (R310). -/
def R.OPT_PAT_CMD : Nat := 0x08000010
/-- OPT.PAT_STAT (R310). -/
def R.OPT_PAT_STAT : Nat := 0x08000014
/-- OPT.PAT_DATA (R310). -/
def R.OPT_PAT_DATA (i : Nat) : Nat := 0x08000020 + 0x4 * i
/-- OPT.PLANE_STAT (R310). -/
def R.OPT_PLANE_STAT (i : Nat) : Nat := 0x08000100 + 0x4 * i
/-- OPT.PEER_STAT (R310). -/
def R.OPT_PEER_STAT (i : Nat) : Nat := 0x08000200 + 0x4 * i
/-- OPT.LASER_CMD (R310). -/
def R.OPT_LASER_CMD : Nat := 0x08000400
/-- OPT.LASER_STAT (R310). -/
def R.OPT_LASER_STAT : Nat := 0x08000404
/-- OPT.LASER_DATA (R310). -/
def R.OPT_LASER_DATA (i : Nat) : Nat := 0x08000410 + 0x4 * i
/-- OPT.SPARES (R310). -/
def R.OPT_SPARES (i : Nat) : Nat := 0x08000440 + 0x4 * i
/-- ETH.CTRL (R340). -/
def R.ETH_CTRL : Nat := 0x09000000
/-- ETH.RMAC_HI (R340). -/
def R.ETH_RMAC_HI : Nat := 0x09000008
/-- ETH.RMAC_LO (R340). -/
def R.ETH_RMAC_LO : Nat := 0x0900000C
/-- ETH.CMD (R340). -/
def R.ETH_CMD : Nat := 0x09000010
/-- ETH.STAT (R340). -/
def R.ETH_STAT : Nat := 0x09000014
/-- ETH.DATA (R340). -/
def R.ETH_DATA (i : Nat) : Nat := 0x09000020 + 0x4 * i
/-- ETH.QOS (R340). -/
def R.ETH_QOS (i : Nat) : Nat := 0x09000100 + 0x4 * i
/-- TEL.SNAP_CTRL (R435). -/
def R.TEL_SNAP_CTRL : Nat := 0x0A000000
/-- TEL.SNAP_STAT (R435). -/
def R.TEL_SNAP_STAT : Nat := 0x0A000004
/-- TEL.SNAP_SEQ (R435). -/
def R.TEL_SNAP_SEQ : Nat := 0x0A000008
/-- TEL.LEDGER_UNIT (R435). -/
def R.TEL_LEDGER_UNIT : Nat := 0x0A000100
/-- TEL.LEDGER_STAT (R435). -/
def R.TEL_LEDGER_STAT : Nat := 0x0A000104
/-- TEL.ISO_CMD (R435). -/
def R.TEL_ISO_CMD : Nat := 0x0A000108
/-- TEL.ISO_STAT (R435). -/
def R.TEL_ISO_STAT : Nat := 0x0A00010C
/-- TEL.HEALTH_CFG (R435). -/
def R.TEL_HEALTH_CFG : Nat := 0x0A000200
/-- TEL.HEALTH_STRAG (R435). -/
def R.TEL_HEALTH_STRAG : Nat := 0x0A000204
/-- TEL.HEALTH_CMD (R435). -/
def R.TEL_HEALTH_CMD : Nat := 0x0A000208
/-- TEL.HEALTH_PIN_S (R435). -/
def R.TEL_HEALTH_PIN_S : Nat := 0x0A00020C
/-- TEL.HEALTH_STAT (R435). -/
def R.TEL_HEALTH_STAT : Nat := 0x0A000210
/-- TEL.HEALTH_DATA_0 (R435). -/
def R.TEL_HEALTH_DATA_0 : Nat := 0x0A000220
/-- TEL.HEALTH_DATA_1 (R435). -/
def R.TEL_HEALTH_DATA_1 : Nat := 0x0A000224
/-- TEL.HEALTH_SUM (R435). -/
def R.TEL_HEALTH_SUM : Nat := 0x0A000230
/-- TEL.MAINT_STAT (R435). -/
def R.TEL_MAINT_STAT : Nat := 0x0A000300
/-- TEL.UCODE_CMD (R435). -/
def R.TEL_UCODE_CMD : Nat := 0x0A000400
/-- TEL.UCODE_STAT (R435). -/
def R.TEL_UCODE_STAT : Nat := 0x0A000404
/-- TEL.STALL_ATTR_NOW (R435). -/
def R.TEL_STALL_ATTR_NOW : Nat := 0x0A000500
/-- TEL.QDEPTH (R435). -/
def R.TEL_QDEPTH (i j : Nat) : Nat := 0x0A300000 + 0x40 * i + 0x8 * j
/-- TEL.QHWM (R435). -/
def R.TEL_QHWM (i j : Nat) : Nat := 0x0A300004 + 0x40 * i + 0x8 * j
/-- Counter PL.HDR_STALL (R106). -/
def C.PL_HDR_STALL (i : Nat) : Nat := 0x01000200 + 0x100000 * i
/-- Counter BUF.FWD_FORCED (R105). -/
def C.BUF_FWD_FORCED : Nat := 0x03800050
/-- Counter BUF.FWD_MOVES (R105). -/
def C.BUF_FWD_MOVES : Nat := 0x03800058
/-- Counter BUF.SPILL_BYTES (R128). -/
def C.BUF_SPILL_BYTES : Nat := 0x03000080
/-- Counter BUF.BANK_STALL (R128). -/
def C.BUF_BANK_STALL : Nat := 0x03000088
/-- Counter BUF.DROP (R128). -/
def C.BUF_DROP (i : Nat) : Nat := 0x03001008 + 0x8 * i
/-- Counter MCT.RX_PKTS (R157). -/
def C.MCT_RX_PKTS : Nat := 0x04000400
/-- Counter MCT.REPLICAS (R157). -/
def C.MCT_REPLICAS : Nat := 0x04000408
/-- Counter MCT.PRUNED_LEAF (R157). -/
def C.MCT_PRUNED_LEAF : Nat := 0x04000410
/-- Counter MCT.PRUNED_PEER (R157). -/
def C.MCT_PRUNED_PEER : Nat := 0x04000418
/-- Counter MCT.SUPPRESSED (R157). -/
def C.MCT_SUPPRESSED : Nat := 0x04000420
/-- Counter CNV.CONTRIB_RX (R188). -/
def C.CNV_CONTRIB_RX : Nat := 0x05000400
/-- Counter CNV.FOLDED (R188). -/
def C.CNV_FOLDED : Nat := 0x05000408
/-- Counter CNV.DUP (R188). -/
def C.CNV_DUP : Nat := 0x05000410
/-- Counter CNV.LATE (R188). -/
def C.CNV_LATE : Nat := 0x05000418
/-- Counter CNV.STALE (R188). -/
def C.CNV_STALE : Nat := 0x05000420
/-- Counter CNV.BAD (R188). -/
def C.CNV_BAD : Nat := 0x05000428
/-- Counter CNV.NOT_MEMBER (R188). -/
def C.CNV_NOT_MEMBER : Nat := 0x05000430
/-- Counter CNV.OUT_WINDOW (R188). -/
def C.CNV_OUT_WINDOW : Nat := 0x05000438
/-- Counter CNV.RESULTS (R188). -/
def C.CNV_RESULTS : Nat := 0x05000440
/-- Counter CNV.PARTIALS (R188). -/
def C.CNV_PARTIALS : Nat := 0x05000448
/-- Counter CNV.RETRIES (R188). -/
def C.CNV_RETRIES : Nat := 0x05000450
/-- Counter CNV.ABANDONED (R188). -/
def C.CNV_ABANDONED : Nat := 0x05000458
/-- Counter CNV.PRUNED_RESULTS (R188). -/
def C.CNV_PRUNED_RESULTS : Nat := 0x05000460
/-- Counter CNV.PHASE_MARKS (R188). -/
def C.CNV_PHASE_MARKS : Nat := 0x05000468
/-- Counter CNV.PHASE_LATE (R188). -/
def C.CNV_PHASE_LATE : Nat := 0x05000470
/-- Counter CNV.OVF_BYTES (R188). -/
def C.CNV_OVF_BYTES : Nat := 0x05000478
/-- Counter PAL.BUSY_CYCLES (R216). -/
def C.PAL_BUSY_CYCLES (i : Nat) : Nat := 0x06000100 + 0x100000 * i
/-- Counter PAL.ROW_CYCLES (R216). -/
def C.PAL_ROW_CYCLES (i : Nat) : Nat := 0x06000108 + 0x100000 * i
/-- Counter PAL.ROW_UNITS (R216). -/
def C.PAL_ROW_UNITS (i : Nat) : Nat := 0x06000110 + 0x100000 * i
/-- Counter PAL.FILLER_CYCLES (R216). -/
def C.PAL_FILLER_CYCLES (i : Nat) : Nat := 0x06000118 + 0x100000 * i
/-- Counter PAL.RAMPS (R216). -/
def C.PAL_RAMPS (i : Nat) : Nat := 0x06000120 + 0x100000 * i
/-- Counter PAL.CORRECTED (R216). -/
def C.PAL_CORRECTED (i : Nat) : Nat := 0x06000128 + 0x100000 * i
/-- Counter PAL.FAULT_STOPS (R216). -/
def C.PAL_FAULT_STOPS (i : Nat) : Nat := 0x06000130 + 0x100000 * i
/-- Counter PAL.LISTS_DONE (R244). -/
def C.PAL_LISTS_DONE (i : Nat) : Nat := 0x06002100 + 0x100000 * i
/-- Counter PAL.LISTS_FAILED (R244). -/
def C.PAL_LISTS_FAILED (i : Nat) : Nat := 0x06002108 + 0x100000 * i
/-- Counter PAL.LIST_RESUMES (R244). -/
def C.PAL_LIST_RESUMES (i : Nat) : Nat := 0x06002110 + 0x100000 * i
/-- Counter PAL.ENERGY_CHARGED (R244). -/
def C.PAL_ENERGY_CHARGED (i : Nat) : Nat := 0x06002118 + 0x100000 * i
/-- Counter PAL.ADMIT_WAIT (R244). -/
def C.PAL_ADMIT_WAIT (i : Nat) : Nat := 0x06002120 + 0x100000 * i
/-- Counter MEM.HA_REQ_DONE (R263). -/
def C.MEM_HA_REQ_DONE (i : Nat) : Nat := 0x07400040 + 0x100 * i
/-- Counter MEM.HA_DUP (R263). -/
def C.MEM_HA_DUP (i : Nat) : Nat := 0x07400048 + 0x100 * i
/-- Counter MEM.HA_DISCARD (R263). -/
def C.MEM_HA_DISCARD (i : Nat) : Nat := 0x07400050 + 0x100 * i
/-- Counter MEM.HA_WIN_REFUSED (R263). -/
def C.MEM_HA_WIN_REFUSED (i : Nat) : Nat := 0x07400058 + 0x100 * i
/-- Counter MEM.HA_COMBINED (R263). -/
def C.MEM_HA_COMBINED (i : Nat) : Nat := 0x07400060 + 0x100 * i
/-- Counter MEM.HA_GATE_NS (R263). -/
def C.MEM_HA_GATE_NS (i : Nat) : Nat := 0x07400068 + 0x100 * i
/-- Counter MEM.REQ_HELD (R263). -/
def C.MEM_REQ_HELD : Nat := 0x07420100
/-- Counter MEM.REQ_HELD_RELEASED (R263). -/
def C.MEM_REQ_HELD_RELEASED : Nat := 0x07420108
/-- Counter MEM.REQ_HELD_RESOLVED (R263). -/
def C.MEM_REQ_HELD_RESOLVED : Nat := 0x07420110
/-- Counter MEM.REQ_HELD_OVERFLOW (R263). -/
def C.MEM_REQ_HELD_OVERFLOW : Nat := 0x07420118
/-- Counter MEM.REQ_POISONED (R263). -/
def C.MEM_REQ_POISONED : Nat := 0x07420120
/-- Counter MEM.MIG_BYTES (R285). -/
def C.MEM_MIG_BYTES : Nat := 0x07000400
/-- Counter MEM.PROMOTIONS (R285). -/
def C.MEM_PROMOTIONS : Nat := 0x07000408
/-- Counter MEM.DEMOTIONS (R285). -/
def C.MEM_DEMOTIONS : Nat := 0x07000410
/-- Counter MEM.FOLLOW_MOVES (R285). -/
def C.MEM_FOLLOW_MOVES : Nat := 0x07000418
/-- Counter MEM.RELOC_BYTES (R285). -/
def C.MEM_RELOC_BYTES : Nat := 0x07000420
/-- Counter MEM.HBM_CE (R285). -/
def C.MEM_HBM_CE : Nat := 0x07000428
/-- Counter MEM.HBM_UE (R285). -/
def C.MEM_HBM_UE : Nat := 0x07000430
/-- Counter CXL.RD_BYTES (R286). -/
def C.CXL_RD_BYTES (i : Nat) : Nat := 0x07800040 + 0x100 * i
/-- Counter CXL.WR_BYTES (R286). -/
def C.CXL_WR_BYTES (i : Nat) : Nat := 0x07800048 + 0x100 * i
/-- Counter CXL.POISON (R286). -/
def C.CXL_POISON (i : Nat) : Nat := 0x07800050 + 0x100 * i
/-- Counter OPT.DATA_NS (R310). -/
def C.OPT_DATA_NS : Nat := 0x08000800
/-- Counter OPT.GUARD_NS (R310). -/
def C.OPT_GUARD_NS : Nat := 0x08000808
/-- Counter OPT.LOOP_NS (R310). -/
def C.OPT_LOOP_NS : Nat := 0x08000810
/-- Counter OPT.TAIL_NS (R310). -/
def C.OPT_TAIL_NS : Nat := 0x08000818
/-- Counter OPT.IDLE_NS (R310). -/
def C.OPT_IDLE_NS : Nat := 0x08000820
/-- Counter OPT.RETUNE_NS (R310). -/
def C.OPT_RETUNE_NS : Nat := 0x08000828
/-- Counter OPT.DARK_NS (R310). -/
def C.OPT_DARK_NS : Nat := 0x08000830
/-- Counter OPT.DOWN_NS (R310). -/
def C.OPT_DOWN_NS : Nat := 0x08000838
/-- Counter OPT.ALIGN_ERR (R310). -/
def C.OPT_ALIGN_ERR : Nat := 0x08000840
/-- Counter OPT.FENCE_LATE (R310). -/
def C.OPT_FENCE_LATE : Nat := 0x08000848
/-- Counter OPT.MARKS_RELAYED (R310). -/
def C.OPT_MARKS_RELAYED : Nat := 0x08000850
/-- Counter OPT.RETUNES (R310). -/
def C.OPT_RETUNES : Nat := 0x08000858
/-- Counter OPT.TAKEOVERS (R310). -/
def C.OPT_TAKEOVERS : Nat := 0x08000860
/-- Counter PL.LINK_CNT (R326). -/
def C.PL_LINK_CNT (i j k : Nat) : Nat := 0x01041000 + 0x100000 * i + 0x40 * j + 0x8 * k
/-- Counter ETH.FILTER (R341). -/
def C.ETH_FILTER (i : Nat) : Nat := 0x09001000 + 0x8 * i
/-- Counter ETH.LEARN_FULL (R341). -/
def C.ETH_LEARN_FULL (i : Nat) : Nat := 0x09001100 + 0x10 * i
/-- Counter ETH.MOVES (R341). -/
def C.ETH_MOVES (i : Nat) : Nat := 0x09001108 + 0x10 * i
/-- Counter HLK.NUDGES (R375). -/
def C.HLK_NUDGES : Nat := 0x00303000
/-- Counter HLK.PAGE_READS (R375). -/
def C.HLK_PAGE_READS : Nat := 0x00303008
/-- Counter HLK.DESC_DONE (R375). -/
def C.HLK_DESC_DONE : Nat := 0x00303010
/-- Counter HLK.EV_MERGED (R375). -/
def C.HLK_EV_MERGED : Nat := 0x00303018
/-- Counter HLK.EV_LOST (R375). -/
def C.HLK_EV_LOST : Nat := 0x00303020
/-- Counter HLK.TEL_SKIPPED (R375). -/
def C.HLK_TEL_SKIPPED : Nat := 0x00303028
/-- Counter HLK.CAP_MISSED (R375). -/
def C.HLK_CAP_MISSED : Nat := 0x00303030
/-- Counter PWR.STRETCH (R388). -/
def C.PWR_STRETCH : Nat := 0x00100100
/-- Counter PWR.SHED_ENTRIES (R388). -/
def C.PWR_SHED_ENTRIES : Nat := 0x00100108
/-- Counter PWR.THROTTLE_US (R388). -/
def C.PWR_THROTTLE_US : Nat := 0x00100110
/-- Counter TEL.PORT_CNT (R409). -/
def C.TEL_PORT_CNT (i j : Nat) : Nat := 0x0A100000 + 0x400 * i + 0x8 * j
/-- Counter TEL.PORT_DROP (R409). -/
def C.TEL_PORT_DROP (i j : Nat) : Nat := 0x0A100108 + 0x400 * i + 0x8 * j
/-- Counter TEL.STALL (R411). -/
def C.TEL_STALL (i j : Nat) : Nat := 0x0A400000 + 0x20 * i + 0x8 * j
/-- Counter TEL.SNAP_SKIPPED (R435). -/
def C.TEL_SNAP_SKIPPED : Nat := 0x0A001000
/-- Counter TEL.INCONSISTENT (R435). -/
def C.TEL_INCONSISTENT : Nat := 0x0A001008
/-- Counter TEL.LEDGER_FAILS (R435). -/
def C.TEL_LEDGER_FAILS : Nat := 0x0A001010
/-- Counter TEL.EXPULSIONS (R435). -/
def C.TEL_EXPULSIONS : Nat := 0x0A001018
/-- Counter TEL.STALL_ATTR_NS (R435). -/
def C.TEL_STALL_ATTR_NS : Nat := 0x0A001020
/-- Counter TEL.HUB_LATE_RSP (R435). -/
def C.TEL_HUB_LATE_RSP : Nat := 0x0A001028
/-- Counter TEL.UCODE_SWAPS (R435). -/
def C.TEL_UCODE_SWAPS : Nat := 0x0A001030

end Sys2Proof.Machine
end

