-- ==== Sys2Proof/Machine/State.lean ====
section
/-!
DEFINITION. The state of the CSN-4400 as plain data: every register, counter, queue, table, mode and
pin the spec gives the module, the queue of commands that wait, and the state right after reset.
Sparse tables (Machine/Table.lean) list what differs from the value an unlisted key reads as.
-/
namespace Sys2Proof.Machine

/-- A value for each virtual channel (R51). -/
structure Four where
  req : Nat
  rsp : Nat
  coll : Nat
  bulk : Nat
deriving DecidableEq, Repr

/-- The value of VC code `v`. -/
def Four.get (f : Four) (v : Nat) : Nat :=
  if v = 0 then f.req else if v = 1 then f.rsp else if v = 2 then f.coll else f.bulk

/-- Replacing the value of VC code `v`. -/
def Four.set (f : Four) (v x : Nat) : Four :=
  if v = 0 then { f with req := x } else if v = 1 then { f with rsp := x }
  else if v = 2 then { f with coll := x } else { f with bulk := x }

/-- Zero for every VC. -/
def Four.zero : Four := ⟨0, 0, 0, 0⟩

/-- An event record waiting in the on-module queue (R372). -/
structure EvRec where
  code : Nat
  sev : Nat
  kind : Nat
  index : Nat
  arg0 : Nat
  arg1 : Nat
  arg2 : Nat
  count : Nat
  sec : Nat
  ns : Nat
deriving DecidableEq, Repr

/-! ## Packets inside the module (chapters 04 to 07) -/

/-- What routing makes of a frame (R332): the next hop's VID and MAC, and the router's own MAC. -/
structure EthEdit where
  vid : Nat
  dmac : Nat
  smac : Nat
deriving DecidableEq, Repr

/-- An Ethernet frame inside the module (R329 to R332, R338): the frame as received, without its tag and its
FCS, and what is to be made of it when it leaves. -/
structure EthFrame where
  bytes : List Byte
  /-- bytes received, tag and FCS among them -/
  len : Nat
  vid : Nat
  /-- PCP and DEI of the tag; 0 of an untagged frame -/
  pcp : Nat
  /-- the frame was routed -/
  edit : Option EthEdit
  /-- the ECN field was set to CE by a policer (R338) -/
  ce : Bool
  /-- the received FCS failed -/
  bad : Bool
deriving DecidableEq, Repr

/-- What an item carries: an FFP packet, or an Ethernet frame (R108, R329). -/
inductive Body where
  | ffp (p : Packet)
  | eth (f : EthFrame)
deriving DecidableEq, Repr

/-- The target a replica was made for (R148): it goes there and nowhere else, by whatever path (R151). -/
inductive Leg where
  | bundle (uid : Nat)
  | peer (j : Nat)
  /-- an Ethernet port (R331) -/
  | port (p : Nat)
deriving DecidableEq, Repr

/-- Where an item's cells are charged (R111, R115, R121, R123, R153). -/
inductive Charge where
  /-- no cells -/
  | none
  /-- the ingress reservation of its port and VC -/
  | reserved
  /-- the guaranteed cells of its queue (rule 2) -/
  | guaranteed
  /-- the shared pool, for its queue and its (port, VC) (rule 3) -/
  | shared
  /-- spill-staging cells: on-die, waiting for its block's write -/
  | staging
  /-- cells in HBM only -/
  | hbm
  /-- the no-path hold -/
  | hold
  /-- the move queue -/
  | move
  /-- a replica: its queue's charge alone; the cells belong to the multicast packet -/
  | replica
deriving DecidableEq, Repr

/-- A path of a bundle's bucket (R89): a member port, or a detour through a plane to a peer. -/
inductive Path where
  | member (port : Nat)
  | plane (p : Nat) (peer : Nat)
deriving DecidableEq, Repr

/-- A packet or frame held inside the module. -/
structure Item where
  /-- number in order of reception or origination: the packet's identity -/
  id : Nat
  body : Body
  /-- ingress port: 0-1023 LP, 1024-1087 BP, 1088 PL17's own ingress -/
  port : Nat
  tc : Nat
  vc : Nat
  /-- cells (R108) -/
  n : Nat
  /-- the table generation latched (R101) -/
  gen : Nat
  /-- the instant a wait began: for admission, in the hold (R116, R123) -/
  since : Nat
  charge : Charge
  /-- destination peer of the division on a BP port (R294) -/
  peer : Option Nat
  /-- the pinned flow's bundle and bucket (R89) -/
  bucket : Option (Nat × Nat)
  /-- the module originated the packet: HOP stays 0 (R55) -/
  own : Bool
  /-- a replica of a multicast packet, in that packet's cells: its id (R153) -/
  mcast : Option Nat
  /-- a replica's target (R148) -/
  leg : Option Leg
  /-- MARK was raised by the policer of this module (R143) -/
  marked : Bool
  /-- SPRAY of the packet: it may take another path when re-homed (R294, R298) -/
  spray : Bool
  /-- its VC sub-queue was empty at admission, on-die (conditions 1 and 2 of R117) -/
  cut : Bool
  /-- Prism position of the sender, of a packet received on a BP port (R168) -/
  sender : Option Nat
  /-- the leaf destination entry that the lookup read, of the generation latched; empty for every other class (R101) -/
  latch : List Word
  /-- the bundle of the ingress port when its header was looked up, 0 for none (R149 step 3) -/
  via : Nat
deriving DecidableEq, Repr

/-- An item waiting for admission into an egress queue (R115 rule 5). -/
structure Waiting where
  item : Item
  /-- egress port 0-1093 of the queue, of the item's TC -/
  egress : Nat
deriving DecidableEq, Repr

/-- Where a spill block is (R119 to R122). -/
inductive BlockState where
  /-- on-die, taking packets, since an instant -/
  | filling (since : Nat)
  /-- its write to HBM is on the way -/
  | writing
  /-- in HBM -/
  | inHbm
  /-- its read-back is on the way -/
  | reading
deriving DecidableEq, Repr

/-- The place of a spill block whose frame is lost with its die or port. -/
def lostPlace : Nat := 12

/-- A spill block of at most 64 cells (R119). -/
structure SpillBlock where
  st : BlockState
  items : List Item
  /-- where its frame is, once written: die 0-3, or CXL port k as 4 + k (R279) -/
  die : Nat
deriving DecidableEq, Repr

/-- An egress queue, the (port, TC) pair (R114): the on-die head, the spilled segment and the on-die
tail, each oldest first; a VC's sub-queue is the items of that VC. -/
structure EQueue where
  head : List Item
  spill : List SpillBlock
  tail : List Item
  /-- cells charged to the queue's guaranteed cells -/
  guar : Nat
  /-- cells charged to the shared pool, and replicas' charges -/
  shared : Nat
  /-- spilled cells: staging and in HBM -/
  spilled : Nat
  /-- high-water mark of the occupancy (R410) -/
  hwm : Nat
deriving DecidableEq, Repr

/-- An empty queue. -/
def EQueue.empty : EQueue := ⟨[], [], [], 0, 0, 0, 0⟩

/-- A multicast packet's cells while replicas are unfinished (R153). -/
structure McPacket where
  id : Nat
  port : Nat
  vc : Nat
  n : Nat
  /-- replicas not yet sent or dropped -/
  left : Nat
  /-- cells are charged to the shared pool -/
  charged : Bool
deriving DecidableEq, Repr

/-- An item in the replication unit's input queue, with the group entry of its generation (R148). -/
structure McIn where
  item : Item
  entry : List Word
deriving DecidableEq, Repr

/-- How far a path move has come (R91, R93, R95). -/
inductive MovePhase where
  /-- waiting for the old link's acknowledgements -/
  | acks
  /-- the settle wait, until an instant; forced with a cause when it ends, or not -/
  | settle (deadline : Nat)
  /-- PATH_MARKs not yet acknowledged, by (VC, SEQ), with the timeout's instant if there is one -/
  | marks (left : List (Nat × Nat)) (deadline : Option Nat)
deriving DecidableEq, Repr

/-- A bucket's path move in progress (R91). -/
structure Move where
  bundle : Nat
  bucket : Nat
  old : Path
  new : Path
  phase : MovePhase
  /-- held packets, oldest first -/
  held : List Item
deriving DecidableEq, Repr

/-- A bundle: ports with one SWITCH_UID; its bucket map and its last rebalance (R66, R89, R90). -/
structure Bundle where
  map : List Path
  lastRebalance : Option Nat
deriving DecidableEq, Repr

/-- A path mark received, behind earlier packets of its port and VC (R93). -/
structure MarkWait where
  port : Nat
  pkt : Packet
  /-- ids of the earlier packets not yet in an egress queue -/
  behind : List Nat
deriving DecidableEq, Repr

/-- A packet or frame whose tail has not yet passed: its id, port, whether its trailer or FCS is right (R54, R329), and
the frame that may be learned from (R335). -/
structure TailWait where
  id : Nat
  port : Nat
  ok : Bool
  frame : Option EthFrame
deriving DecidableEq, Repr

/-- A packet being cut through: it left its queue before its tail passed (R117). -/
structure Flying where
  egress : Nat
  item : Item
deriving DecidableEq, Repr

/-- A packet's cell writes held for want of a free bank (R109): its VC, cells, id and port, and whether its cells left the
ingress reservation meanwhile, so that their credits return as the cells are written (R111). -/
structure BankWrite where
  vc : Nat
  n : Nat
  id : Nat
  port : Nat
  owed : Bool
deriving DecidableEq, Repr

/-- What a pair's receiver of PATH_MARKs knows of a series that no tracker holds: every SEQ before `cum` has been received,
and these beyond it (R62). -/
structure Seen where
  cum : Nat
  beyond : List Nat
deriving DecidableEq, Repr

/-- The per-leaf-ID rate limiter (R125), rate in units of 2^-16 Gb/s. -/
structure RateLim where
  rate : Nat
  lastCut : Option Nat
  lastEcho : Nat
  /-- the next packet may start at -/
  nextAt : Nat
deriving DecidableEq, Repr

/-- The limiter's start: 400 Gb/s. -/
def RateLim.init : RateLim := ⟨400 * 65536, none, 0, 0⟩

/-- The datapath between ingress and egress. -/
structure Datapath where
  /-- next packet id -/
  nextId : Nat
  /-- whole packets received on a port, header not yet in its queue -/
  rx : Tbl (List Item)
  /-- ingress header queues, key port × 4 + VC, port 1088 for PL17 (R79) -/
  hq : Tbl (List Item)
  /-- the VC after which each pipeline's rotation goes on (R79) -/
  hqTurn : Tbl Nat
  /-- the first header slot of a pipeline that is still to be given, four for each 1.6 GHz cycle from time zero (R78) -/
  slotNext : Tbl Nat
  /-- items waiting for admission, key port × 4 + VC (R115, R116) -/
  waiting : Tbl (List Waiting)
  /-- egress queues, key port × 8 + TC (R114) -/
  queues : Tbl EQueue
  /-- cells charged to the ingress reservation, key port × 4 + VC (R111) -/
  inRsv : Tbl Nat
  /-- shared charge of (port, VC), key port × 4 + VC (R115) -/
  inShared : Tbl Nat
  /-- cells of the shared pool in use -/
  sharedUsed : Nat
  /-- cells in spill staging -/
  staging : Nat
  /-- cells in move queues -/
  moveCells : Nat
  /-- cells in the no-path hold (R123) -/
  holdCells : Nat
  /-- the no-path hold, oldest first (R123) -/
  hold : List Item
  /-- cell writes held for want of a free bank, per pipeline, oldest first (R109) -/
  bankQ : Tbl (List BankWrite)
  /-- occupied cells of each bank, 0-511 half A, 512-1,023 half B (R107, R108) -/
  banks : Tbl Nat
  /-- the banks of each packet's cells, by the packet's id (R108) -/
  cellBanks : List (Nat × List Nat)
  /-- spill blocks written, read back and discarded since PD20 came on (R127) -/
  blocksWritten : Nat
  blocksRead : Nat
  blocksLost : Nat
  tails : List TailWait
  flying : List Flying
  /-- ids of packets whose tail failed its check (R54) -/
  badTails : List Nat
  /-- the replication unit: input queue, unfinished packets, waiting replicas (R153, R154) -/
  mcIn : List McIn
  mcLive : List McPacket
  mcWait : List Waiting
  moves : List Move
  bundles : Tbl Bundle
  /-- PATH_MARKs addressed to the module, looked up and not yet received by the move-marker duty -/
  markIn : List Item
  markWaits : List MarkWait
  /-- input queues of the module's own units, oldest first: home agents 0-3, Canvas, hub (R114) -/
  unitIn : Tbl (List Item)
  /-- depth factor in quarters, key port × 8 + TC (R87) -/
  depth : Tbl Nat
  /-- detour rotation: the peer after which a plane's turn goes on (R86) -/
  detourTurn : Tbl Nat
  /-- instants at which Easel last changed a path's weight, key port (R88) -/
  weightAt : Tbl Nat
  limits : Tbl RateLim
  /-- next SEQ of the module's own series, key SRC-home × 2^19 + space × 2^18 + DEST (R68) -/
  seqs : Tbl Nat
  /-- last instants a bucket's VC carried a packet: key (bundle × 64 + bucket) × 4 + VC (R93) -/
  bucketUse : Tbl (Option Nat)
  /-- H[11:6] of the pinned packet that a bucket carried last: key bundle × 64 + bucket (R89, R90) -/
  bucketHash : Tbl Nat
  /-- a pipeline's last refresh of its depth factors (R87) -/
  depthAt : Tbl Nat
  /-- series of received PATH_MARKs that no tracker holds: key home × 2^19 + source (R62, R93) -/
  markSeen : Tbl (Option Seen)
deriving DecidableEq, Repr

/-- An empty datapath. -/
def Datapath.empty : Datapath :=
  { nextId := 0, rx := [], hq := [], hqTurn := [], slotNext := [], waiting := [], queues := [], inRsv := [],
    inShared := [], sharedUsed := 0, staging := 0, moveCells := 0, holdCells := 0, hold := [],
    bankQ := [], banks := [], cellBanks := [], blocksWritten := 0, blocksRead := 0, blocksLost := 0, tails := [], flying := [],
    badTails := [], mcIn := [], mcLive := [], mcWait := [], moves := [], bundles := [],
    markIn := [], markWaits := [], unitIn := [], depth := [], detourTurn := [], weightAt := [], limits := [], seqs := [],
    bucketUse := [], bucketHash := [], depthAt := [], markSeen := [] }

/-- The forwarding, group and generation tables (R81, R82, R100, R147). -/
structure Tables where
  leafActive : Tbl (List Word)
  leafShadow : Tbl (List Word)
  /-- key SPACE × 2^18 + KEY, words 0 and 1 -/
  ovrActive : Tbl (List Word)
  ovrShadow : Tbl (List Word)
  grpActive : Tbl (List Word)
  grpShadow : Tbl (List Word)
  gen : Nat
  /-- the pending commit's epoch, in ns of TB0 -/
  pending : Option Nat
  /-- the epoch that its commit requested, 0 for none (R102, R348) -/
  requested : Nat
  copying : Bool
  lastEpoch : Option Nat
  /-- Ethernet routes, key LEN × 2^128 + prefix, to a next-hop index (R333, R334) -/
  rt4Active : Tbl (Option Nat)
  rt4Shadow : Tbl (Option Nat)
  rt6Active : Tbl (Option Nat)
  rt6Shadow : Tbl (Option Nat)
  /-- next hops, words 0 to 2, and VLAN words, by VID (R341) -/
  nhActive : Tbl (List Word)
  nhShadow : Tbl (List Word)
  vlanActive : Tbl Word
  vlanShadow : Tbl Word
  /-- a generation has taken effect since the tables were cleared: READY was sent (R30) -/
  ready : Bool
deriving DecidableEq, Repr

def Tables.empty : Tables :=
  { leafActive := [], leafShadow := [], ovrActive := [], ovrShadow := [], grpActive := [],
    grpShadow := [], gen := 0, pending := none, requested := 0, copying := false, lastEpoch := none,
    rt4Active := [], rt4Shadow := [], rt6Active := [], rt6Shadow := [], nhActive := [], nhShadow := [],
    vlanActive := [], vlanShadow := [], ready := false }

/-- A shaper or policer bucket: tokens in units of 2^-16/125 byte, and the instant they stand at.
A rate of R Mb/s adds R × 1024 units each ns, exactly (R133, R141). -/
structure Bucket where
  tokens : Int
  time : Nat
  /-- the terms of the ledger's identity since the last snapshot, and the tokens then (R139) -/
  added : Int
  charged : Int
  clipped : Int
  adjust : Int
  prev : Int
deriving DecidableEq, Repr

/-- Units of a bucket in one byte. -/
def tokUnit : Nat := 65536 * 125

/-- Where a shaper waits (R136). -/
inductive WheelPos where
  | free
  /-- in the wheel, in the slot that begins at an instant -/
  | slot (at_ : Nat)
  /-- in the overflow list, due at an instant -/
  | overflow (due : Nat)
deriving DecidableEq, Repr

/-- Egress scheduling state (chapter 06). -/
structure Sched where
  /-- shapers, key port × 16 + s; unlisted: full at BURST 64 KiB -/
  shapers : Tbl Bucket
  wheel : Tbl WheelPos
  /-- deficit counters, key port × 8 + TC (R132) -/
  deficit : Tbl Nat
  /-- TC whose turn it is in the deficit rotation, and whether its turn has begun: key port -/
  turn : Tbl (Option Nat)
  /-- TC after which the deficit rotation goes on: key port -/
  drrLast : Tbl Nat
  /-- TC served last under rule 3: key port -/
  rrLast : Tbl Nat
  /-- VC served last in a queue: key port × 8 + TC -/
  vcLast : Tbl Nat
  /-- policer buckets, key (port × 8 + TC) × 2 + which (R141); unlisted: full at 16 KiB -/
  police : Tbl Bucket
deriving DecidableEq, Repr

/-- A full shaper at reset: BURST 0x010 × 4 KiB. -/
def shaperFull : Bucket := ⟨(65536 * tokUnit : Nat), 0, 0, 0, 0, 0, (65536 * tokUnit : Nat)⟩
/-- A full policer bucket at reset: 0x004 × 4 KiB. -/
def policeFull : Bucket := ⟨(16384 * tokUnit : Nat), 0, 0, 0, 0, 0, (16384 * tokUnit : Nat)⟩

def Sched.empty : Sched :=
  { shapers := [], wheel := [], deficit := [], turn := [], drrLast := [], rrLast := [], vcLast := [],
    police := [] }

/-! ## Links and ports (chapter 14) -/

/-- Link state of PLn.PORT_STAT_p.STATE (R326). -/
inductive LinkState where
  | down | training | heldOut | up | draining
deriving DecidableEq, Repr

/-- One link, or one (plane, peer) pair of a BP port (R319, R321). -/
structure Link where
  /-- next FSEQ to send -/
  txNext : Nat
  /-- data flits sent and not acknowledged, oldest first -/
  replay : List Flit
  /-- packets sent whose last byte lies in an unacknowledged flit, by that flit's FSEQ -/
  sent : List (Nat × Item)
  /-- the oldest flit has waited since -/
  since : Nat
  /-- replays of the oldest flit with no advance -/
  replays : Nat
  /-- FSEQ expected next -/
  rxNext : Nat
  /-- a NAK for the expected FSEQ was sent at -/
  nakAt : Option Nat
  /-- bytes of a packet not yet whole -/
  rxBytes : List Byte
  /-- credits held, in cells -/
  credits : Four
  /-- credit counts last received, modulo 2^16 -/
  credSeen : Four
  /-- the grant given to the partner at the last training -/
  grant : Four
  /-- cells received and credits returned since training -/
  rxCells : Four
  retCells : Four
  /-- cells sent and credits received since training -/
  txCells : Four
  gotCredits : Four
  /-- the credits that the partner granted at the last training (R315, R323) -/
  granted : Four
  /-- flits first sent, acknowledged, and voided, since training (R323) -/
  flitsSent : Nat
  flitsAcked : Nat
  flitsVoided : Nat
  /-- the pair's last acknowledgement, or the instant at which the buffer last filled from empty (R304) -/
  ackAt : Nat
deriving DecidableEq, Repr

/-- A link before its first training. -/
def Link.init : Link :=
  { txNext := 0, replay := [], sent := [], since := 0, replays := 0, rxNext := 0, nakAt := none,
    rxBytes := [], credits := .zero, credSeen := .zero, grant := .zero, rxCells := .zero,
    retCells := .zero, txCells := .zero, gotCredits := .zero, granted := .zero, flitsSent := 0, flitsAcked := 0,
    flitsVoided := 0,
    ackAt := 0 }

/-- One external port (chapters 13 and 14). Masks have bit l for lane l. -/
structure Port where
  st : LinkState
  /-- lanes carrying flits -/
  lanesUp : Nat
  /-- lanes locked, in training -/
  lanesLocked : Nat
  /-- lanes with loss of signal, as last declared (R305) -/
  los : Nat
  /-- lanes held out for overload (R305) -/
  overload : Nat
  /-- lanes whose laser has failed (R308) -/
  laserOut : Nat
  /-- last code of R317 -/
  reason : Nat
  member : Nat
  uid : Nat
  identSeen : Bool
  /-- training step 1 to 5; 0 while resting or not training -/
  step : Nat
  stepSince : Nat
  /-- the rest after a failed training ends at -/
  restUntil : Option Nat
  failures : Nat
  /-- flits with correct CRC in a row at step 3 -/
  goodFlits : Nat
  /-- the drain window ends at -/
  drainEnd : Option Nat
  /-- the last flit with a correct CRC arrived at -/
  lastGood : Nat
  /-- link-local packets received, oldest first -/
  llq : List Packet
  /-- the port runs Ethernet: PLn.ETH_MODE as taken at step 1 of its last training (R327) -/
  eth : Bool
  /-- trained before, so that a later training is counted -/
  trained : Nat
  /-- the ingress reservation by VC, as BUF.IN_RSV stood at the last training (R110, R128) -/
  rsv : Four
deriving DecidableEq, Repr

/-- A port after reset: LANES 0, state DOWN, loss of signal on both lanes. -/
def Port.init : Port :=
  { st := .down, lanesUp := 0, lanesLocked := 0, los := 3, overload := 0, laserOut := 0, reason := 0,
    member := 0, uid := 0, identSeen := false, step := 0, stepSince := 0, restUntil := none,
    failures := 0, goodFlits := 0, drainEnd := none, lastGood := 0, llq := [],
    eth := false, trained := 0, rsv := .zero }

/-! ## Canvas (chapter 08) -/

/-- A contribution held by Canvas: in staging, or in the overflow area of its context's die (R177). -/
structure Contrib where
  contrib : Nat
  folded : Nat
  part : Bool
  payload : List Byte
  /-- staging units, 0 when it overflowed -/
  units : Nat
  /-- bytes in overflow, and the die that holds them -/
  ovf : Nat
  place : Nat
  /-- accepted at -/
  at_ : Nat
deriving DecidableEq, Repr

/-- A batch sent to a Palette die; admitted against the die's energy account or waiting (R176, R178). -/
structure Batch where
  items : List Contrib
  admitted : Bool
  /-- a candidate since (R236) -/
  since : Nat
deriving DecidableEq, Repr

/-- The state of a segment within its round (R175). -/
inductive SegState where
  | idle | open_ | full | encode | done
deriving DecidableEq, Repr

/-- A segment of a context (R175 to R185). -/
structure Segment where
  st : SegState
  /-- contributors whose arrival bit is set -/
  arrived : List Nat
  /-- accepted and not yet in a batch, oldest first -/
  waiting : List Contrib
  /-- sent and not yet reported folded, oldest first -/
  batches : List Batch
  /-- the fp32 accumulator; none while it is empty (R172) -/
  acc : Option (List Word)
  /-- its checkpoint: the accumulator after the last batch reported (R176) -/
  count : Nat
  foldedSum : Nat
  /-- a folded contribution carried PART = 1 -/
  anyPart : Bool
  /-- it ends as partial: its timer expired, or it was forced -/
  ended : Bool
  forced : Bool
  /-- Easel has granted its accumulator and checkpoint area -/
  area : Bool
  /-- the timer expires at; what remains of it while the context is in RECOVER -/
  deadline : Option Nat
  remaining : Option Nat
  /-- ENERGY and TIMEOUT_US latched at opening: 1/16 nJ per 1,024 folds, and ns (R161) -/
  energy : Nat
  timeoutNs : Nat
  /-- STATUS of the result in ENCODE, and how it ended -/
  status : Nat
  /-- the payload of a COPY whose formats agree (R170) -/
  raw : Option (List Byte)
  /-- the die that folds it (R161) -/
  die : Nat
  /-- the encoded result waits for its round to become current (R184) -/
  encoded : Bool
  /-- a child's partial has been sent; the root's result is awaited until (R183) -/
  sent : Bool
  rootBy : Option Nat
deriving DecidableEq, Repr

/-- A segment at the start of its round. -/
def Segment.idle : Segment :=
  { st := .idle, arrived := [], waiting := [], batches := [], acc := none, count := 0, foldedSum := 0,
    anyPart := false, ended := false, forced := false, area := false, deadline := none, remaining := none,
    energy := 0, timeoutNs := 0, status := 0, raw := none, die := 0, encoded := false, sent := false, rootBy := none }

/-- The state of a context slot (R162). -/
inductive CtxState where
  | free | active | recover | reclaim
deriving DecidableEq, Repr

/-- A membership: the 34 MASK words and EXPECT (R159, R182). -/
structure Membership where
  mask : List Word
  expect : Nat
deriving DecidableEq, Repr

/-- A reduction context's slot (R158 to R163). -/
structure Ctx where
  st : CtxState
  /-- the active entry of 42 words -/
  entry : List Word
  /-- the current round, counted from activation; ROUND is its value modulo 256 -/
  round : Nat
  die : Nat
  /-- the membership of the current round, and the one that governs the next rounds -/
  member : Membership
  next : Membership
  /-- key: (0 for the current round, 1 for the next) × 2^24 + segment -/
  segs : Tbl Segment
  partials : Nat
  pruned : Nat
  retries : Nat
  /-- phase count of the marks sent -/
  phases : Nat
  /-- last phase count applied here -/
  lastPhase : Option Nat
  /-- EV_CNV_PARTIAL was raised in the current round; in the next -/
  partialNow : Bool
  partialNext : Bool
  /-- segments abandoned by the deleting commit -/
  abandoned : Nat
  /-- contributors missing, in how many rounds in a row, and in which last: (CONTRIB, rounds, round) (R428) -/
  missing : List (Nat × Nat × Nat)
  /-- earlier memberships, each with the round before which it governed (R168, R182) -/
  past : List (Nat × Membership)
deriving DecidableEq, Repr

def Ctx.init : Ctx :=
  { st := .free, entry := [], round := 0, die := 0, member := ⟨[], 0⟩, next := ⟨[], 0⟩, segs := [],
    partials := 0, pruned := 0, retries := 0, phases := 0, lastPhase := none, partialNow := false,
    partialNext := false, abandoned := 0, missing := [], past := [] }

/-- The ledger's terms of a Canvas island: contributions delivered to it, folded, discarded under R168, abandoned, and
cleared by retry (R158, R187). -/
structure CnvTerms where
  delivered : Nat
  folded : Nat
  discarded : Nat
  abandoned : Nat
  cleared : Nat
deriving DecidableEq, Repr

def CnvTerms.zero : CnvTerms := ⟨0, 0, 0, 0, 0⟩

/-- Canvas. -/
structure Canvas where
  ctxs : Tbl Ctx
  /-- the shadow bank (R160); unlisted: a zero entry -/
  shadow : Tbl (List Word)
  /-- free staging units (R177) -/
  staging : Nat
  /-- overflow bytes per die -/
  ovf : Four
  /-- ledger terms of islands 0 to 3 -/
  terms : Tbl CnvTerms
deriving DecidableEq, Repr

def Canvas.init : Canvas := ⟨[], [], 65536, .zero, []⟩


/-! ## Palette (chapters 09 and 10) -/

/-- The state of an engine (R207). -/
inductive EngState where
  | off | idle | active | keep | ramp | parked | faulted | offline
deriving DecidableEq, Repr

/-- A list in a hardware queue (R220, R221). -/
structure PList where
  ring : Nat
  /-- index of its BEGIN, modulo 2^32 -/
  first : Nat
  ncmd : Nat
  tag : Nat
  /-- ENERGY of its BEGIN, in nJ -/
  energy : Nat
  scratchKib : Nat
  /-- it became a candidate at (R236) -/
  cand : Option Nat
deriving DecidableEq, Repr

/-- The saved state of a CKPT (R224, R240). -/
structure Saved where
  cmd : Nat
  lanes : List (Nat × Word)
  scales : List (Nat × Byte)
  acc : List (Nat × Word)
  shared : List (Nat × Byte)
  sharedScale : List (Nat × Byte)
  scratch : List (Nat × Byte)
deriving DecidableEq, Repr

/-- What a MOVE in flight waits for (R226, R232). -/
inductive MoveWait where
  /-- data of its source in memory -/
  | read
  /-- confirmation of its write -/
  | write
deriving DecidableEq, Repr

/-- A MOVE in flight: the number of its command in the list, its words, what it waits for, and the data
that it will write. -/
structure MoveOp where
  cmd : Nat
  words : List Word
  wait : MoveWait
  data : List Byte
deriving DecidableEq, Repr

/-- The list that an engine runs (R231 to R240). -/
structure Running where
  list : PList
  /-- energy charged at admission, in nJ -/
  charged : Nat
  queue : Nat
  /-- commands started, from 0 for BEGIN -/
  pc : Nat
  /-- TB2 ns at admission -/
  start : Nat
  resumes : Nat
  /-- a FENCE or END waits, until an instant if FENCE_US is non-zero -/
  fence : Option (Option Nat)
  moves : List MoveOp
  /-- the journal: the last complete checkpoint, the records since, the NOTIFYs issued (R240) -/
  ckpt : Saved
  records : List Nat
  issued : List Nat
  /-- the half that holds the checkpoint -/
  half : Nat
  /-- destinations that its NOTIFYs have written: space, ID (R232); those to memory of the module that wait for their
  response: command, key, bytes (R231) -/
  dests : List (Nat × Nat)
  notes : List (Nat × Nat × Nat)
  /-- no command completes since -/
  lastDone : Nat
deriving DecidableEq, Repr

/-- What the end of a ramp or of a running command brings (R207, R215). -/
inductive EngTarget where
  | idle | parked | offline
deriving DecidableEq, Repr

/-- A Palette engine. Lane data is keyed lane × 8192 + slot (scale bytes lane × 2048 + register × 32 + b,
accumulators lane × 16 + a); shared vectors vector × 256 + byte (side store vector × 16 + i). -/
structure Engine where
  st : EngState
  level : Nat
  /-- a ramp runs (R210): its starting level D, and steps taken -/
  ramping : Bool
  rampD : Nat
  rampStep : Nat
  target : EngTarget
  /-- an offline request has its lock (R215, R430); a shedding level or M-state parks the engine (R379) -/
  offlining : Bool
  levelPark : Bool
  /-- the keep window ends at -/
  keepEnd : Nat
  /-- the ramp started at -/
  rampAt : Nat
  /-- fault stops in the last second -/
  faults : List Nat
  /-- groups suspect since an instant (R212) -/
  suspects : List (Nat × Nat)
  /-- a retirement found no spare (R214) -/
  noSpare : Bool
  /-- an engine reset or scrub is in progress -/
  resetting : Bool
  /-- a group to be retired at the reset -/
  dueGroup : Option Nat
  /-- cycles are counted up to, with filler cycles of less than one left over, in 64ths -/
  acctAt : Nat
  acctRem : Nat
  /-- hardware queues 0-15 -/
  queues : Tbl (List PList)
  run : Option Running
  /-- waiting suspended lists that resume here, oldest first (R237) -/
  resumeQ : List Running
  lanes : Tbl Word
  scales : Tbl Byte
  acc : Tbl Word
  shared : Tbl Byte
  sharedScale : Tbl Byte
  scratch : Tbl Byte
  /-- the lanes of groups that form no logical lanes, by physical lane 8 × group + i: slots, scale bytes, accumulators
  (R190, R206) -/
  outLanes : Tbl Word
  outScales : Tbl Byte
  outAcc : Tbl Word
deriving DecidableEq, Repr

def Engine.init : Engine :=
  { st := .off, level := 0, ramping := false, rampD := 0, rampStep := 0, target := .idle, offlining := false,
    levelPark := false, keepEnd := 0, rampAt := 0, faults := [], suspects := [], noSpare := false,
    resetting := false, dueGroup := none, acctAt := 0, acctRem := 0,
    queues := [], run := none, resumeQ := [], lanes := [], scales := [], acc := [], shared := [],
    sharedScale := [], scratch := [], outLanes := [], outScales := [], outAcc := [] }

/-- The state of a client ring (R220). -/
inductive PRingState where
  | disabled | idle | waiting | running | stalled | error
deriving DecidableEq, Repr

/-- A client ring (R217 to R220). -/
structure PRing where
  st : PRingState
  /-- the entry of 12 words -/
  entry : List Word
  /-- the engine and queue it is bound to -/
  engine : Nat
  queue : Nat
  pi : Nat
  ci : Nat
  errCount : Nat
  cqPi : Nat
  cqCi : Nat
  /-- the doorbell watch's pending bit -/
  pending : Bool
  /-- records reserved for a list admitted (R239) -/
  reserved : Nat
deriving DecidableEq, Repr

def PRing.init : PRing :=
  { st := .disabled, entry := List.replicate 12 0, engine := 0, queue := 0, pi := 0, ci := 0, errCount := 0,
    cqPi := 0, cqCi := 0, pending := false, reserved := 0 }

/-- The account of a Palette die (R234) and its level governor (R208). Energies in nJ, filler in pJ. -/
structure PalDie where
  account : Int
  budget : Nat
  /-- the present window ends at -/
  windowEnd : Nat
  /-- energy that Canvas batches have taken in the window, in 1/16 nJ -/
  canvas : Nat
  /-- the energy charged in the last window (R278) -/
  lastCharge : Nat
  charge : Nat
  /-- fractions of an nJ not yet charged: of batches in 1/16 nJ, of filler in pJ -/
  frac16 : Nat
  fracPj : Nat
  /-- the governor's last grant, and the engine it went to -/
  grantAt : Option Nat
  grantTo : Nat
  /-- answers of NOTIFYs not yet taken by the scheduler: ring, command index, status (R224, R258) -/
  responses : List (Nat × Nat × Nat)
  /-- A_d at the previous snapshot, and budgets added, charges and adjustments since (R418) -/
  prev : Int
  added : Int
  spent : Int
  adjust : Int
deriving DecidableEq, Repr

def PalDie.init : PalDie :=
  { account := 0, budget := 0, windowEnd := 0, canvas := 0, lastCharge := 0, charge := 0, frac16 := 0, fracPj := 0,
    grantAt := none, grantTo := 0, responses := [], prev := 0, added := 0, spent := 0, adjust := 0 }

/-- Palette. -/
structure Palette where
  engines : Tbl Engine
  rings : Tbl PRing
  dies : Tbl PalDie
deriving DecidableEq, Repr

def Palette.init : Palette := ⟨[], [], []⟩


/-! ## Home agents and requesters (chapter 11) -/

/-- The reply slot of an answered request (R246). -/
structure Reply where
  /-- the response packet as first sent -/
  rsp : Packet
  /-- a LOAD_H is performed again for a duplicate (R247) -/
  load : Bool
deriving DecidableEq, Repr

/-- The state of a received SEQ (R246): `waiting` under R248; `held` behind the ready requests, a line or memory that cannot
serve yet; in `progress`, its line being read. `mark`: a PATH_MARK of the series (R248).
(DESIGN CHOICE, log entry 169) -/
inductive SeqState where
  | waiting | progress | held | mark
  | answered (r : Reply)
deriving DecidableEq, Repr

/-- A source's series at a home agent: H, the SEQ that began it, the SEQs received (R246, R248). -/
structure Tracker where
  h : Nat
  first : Nat
  seqs : List (Nat × SeqState)
deriving DecidableEq, Repr

/-- A request in a slot (R253): its source, SEQ and packet; it waits on combining lines in `lines`. -/
structure HomeReq where
  src : Nat
  seq : Nat
  pkt : Packet
  since : Nat
  /-- ready under R248, in the order of readiness -/
  ready : Bool
deriving DecidableEq, Repr

/-- A combining-buffer entry (R253): a 64-byte line, its bytes once filled, its last request. -/
structure CLine where
  line : Nat
  data : Option (List Byte)
  poisoned : Bool
  last : Nat
deriving DecidableEq, Repr

/-- A home agent. Keys of sources: space × 2^18 + SRC. -/
structure Home where
  /-- active trackers; idle since, when idle -/
  active : Tbl (Option Nat)
  /-- the series of every source that is not in first contact -/
  series : Tbl (Option Tracker)
  slots : List HomeReq
  lines : List CLine
deriving DecidableEq, Repr

def Home.init : Home := ⟨[], [], [], []⟩

/-- What a module request is for (R224, R368). -/
inductive ReqUse where
  /-- a piece of a host descriptor: ring, descriptor index, piece -/
  | piece (ring idx n : Nat)
  /-- a NOTIFY: ring of the list, command index -/
  | notify (ring cmd : Nat)
deriving DecidableEq, Repr

/-- An outstanding request of the module (R258 to R260). -/
structure OutReq where
  /-- 0 hub, 4 + d the scheduler of Palette die d -/
  origin : Nat
  tag : Nat
  pkt : Packet
  use : ReqUse
  started : Nat
  lastSent : Nat
  /-- its last send left on a BP port -/
  viaBp : Bool
  /-- its entry of the held table, and held since -/
  held : Option (Nat × Nat)
deriving DecidableEq, Repr

/-- DATA of the hub not yet acknowledged, or a request of a TX_PACKET not yet answered (R98, R368): destination
space and ID, SEQ, and a request's tag. -/
structure DataOut where
  space : Nat
  dest : Nat
  seq : Nat
  tag : Option Nat
deriving DecidableEq, Repr

/-- The module's requesters. -/
structure Requesters where
  out : List OutReq
  data : List DataOut
  /-- next tags: 0 hub, 1 the scheduler of die 0, and so on -/
  tags : Tbl Nat
  /-- access windows (R255); unlisted: zero words -/
  windows : Tbl (List Word)
deriving DecidableEq, Repr

def Requesters.init : Requesters := ⟨[], [], [], []⟩


/-! ## Switch memory and Easel (chapter 12) -/

/-- The state of a page (R273). -/
inductive PageState where
  | unmapped | hbm | cxl | migrating | lost
deriving DecidableEq, Repr

/-- A place of a page: a die's HBM or a port's CXL pool, and the frame there. -/
structure Place where
  cxl : Bool
  unit : Nat
  frame : Nat
deriving DecidableEq, Repr

/-- A page-map entry (R273), with the reads of the present interval by die (R276). -/
structure Page where
  st : PageState
  pin : Nat
  pinDie : Nat
  affValid : Bool
  affDie : Nat
  heat : Nat
  at_ : Place
  dst : Option Place
  /-- why it moves: 0 demote, 1 promote, 2 follow, 3 set pin -/
  why : Nat
  reads : Four
  otherReads : Nat
deriving DecidableEq, Repr

def Page.init : Page :=
  { st := .unmapped, pin := 0, pinDie := 0, affValid := false, affDie := 0, heat := 0, at_ := ⟨false, 0, 0⟩,
    dst := none, why := 0, reads := .zero, otherReads := 0 }

/-- Easel's class of a level (R279). -/
inductive LoadClass where
  | normal | idle | saturated
deriving DecidableEq, Repr

/-- How far a stack's retirement has come (R283, R284). -/
inductive RetireStep where
  /-- waits for the die's maintenance lock -/
  | lock
  /-- moving pages off the die -/
  | demote
  /-- relocating slices -/
  | relocate
deriving DecidableEq, Repr

/-- Switch memory. Addresses: home agent × 2^46 + offset (R267), so that every byte has one key, wherever
Easel keeps it; a poisoned line is its address / 64, a slice its address / 16,384. -/
structure Memory where
  bytes : Tbl Byte
  /-- bytes of fixed CXL extents that have been written since the port was last trained -/
  cxlBytes : Tbl (Option Byte)
  /-- how many times each CXL port has been trained: its contents are undefined anew (R272) -/
  cxlGen : Tbl Nat
  poison : Tbl Bool
  /-- slices on a FAILED stack, not relocated (R284) -/
  badSlices : Tbl Bool
  pages : Tbl Page
  /-- GiB of each die's fixed window that are mapped -/
  fixed : Tbl Nat
  /-- stacks in retirement, with their step; stacks queued behind one of their die -/
  retiring : Tbl (Option RetireStep)
  retireQ : List Nat
  /-- the raw class of the last interval, and the class in effect: 0-3 dies, 4 the buffer, 5 CXL -/
  rawClass : Tbl LoadClass
  class_ : Tbl LoadClass
  /-- the die after which spill frames go on in rotation -/
  spillTurn : Nat
  /-- last EV_PLACEMENT by cause -/
  placedAt : Tbl (Option Nat)
  /-- uncorrectable lines of a stack in the present second: instants, newest first -/
  ueTimes : Tbl (List Nat)
  /-- Easel's last interval, and the last halving of heat -/
  intervalAt : Nat
  heatAt : Nat
  /-- the last failure or retraining of a CXL port that has failed and not returned (R272) -/
  cxlFailAt : Tbl (Option Nat)
  /-- when EN of a CXL port was set; none while PERST# is asserted (R286, R441) -/
  cxlEnAt : Tbl (Option Nat)
deriving DecidableEq, Repr

def Memory.init : Memory :=
  { bytes := [], cxlBytes := [], cxlGen := [], poison := [], badSlices := [], pages := [], fixed := [],
    retiring := [], retireQ := [], rawClass := [], class_ := [], spillTurn := 3, placedAt := [], ueTimes := [],
    intervalAt := 0, heatAt := 0, cxlFailAt := [], cxlEnAt := [] }


/-! ## Prism peers and planes (chapter 13) -/

/-- The state of a peer position (R303). -/
inductive PeerState where
  | unknown | discovering | live | withdrawn | dead
deriving DecidableEq, Repr

/-- A peer position (R303, OPT.PEER_STAT_j). -/
structure Peer where
  st : PeerState
  cause : Nat
  spineId : Nat
  skew : Nat
  rxPower : Nat
  /-- its last valid frame arrived at -/
  lastFrame : Nat
deriving DecidableEq, Repr

def Peer.init : Peer := ⟨.unknown, 0, 0, 0, 0, 0⟩

/-- The state of a plane (R291). -/
inductive PlaneState where
  | down | miswired | dark | packet
  /-- holding a colour other than 0 -/
  | phase (colour : Nat)
  | retune
deriving DecidableEq, Repr

/-- A plane: its state, and during RETUNE the state it will enter and when (R298). -/
structure Plane where
  st : PlaneState
  next : PlaneState
  /-- two consecutive unacknowledged slots, or a long silence, made the pair (plane, peer) unreachable:
  the peers, by position (R304) -/
  unreachable : List Nat
  /-- slots in a row to a peer that drew no acknowledgement: (peer, count) (R304) -/
  missed : List (Nat × Nat)
deriving DecidableEq, Repr

def Plane.init : Plane := ⟨.down, .down, [], []⟩

/-- What PL16 keeps for Prism as a whole (chapter 13). -/
structure Prism where
  /-- the pattern banks (R297); unlisted: a zero entry -/
  patActive : Tbl (List Word)
  patShadow : Tbl (List Word)
  /-- marks held: AT in ns of TB0, and PATTERN (R300) -/
  marks : List (Nat × Nat)
  /-- the AT of the last applied mark, and the patterns applied with it -/
  lastAt : Option Nat
  applied : List Nat
  /-- the re-tune in progress ends at, in ns of TB0 (R298) -/
  retuneEnd : Option Nat
  /-- planes that the last re-tune changed -/
  changed : List Nat
  /-- the re-tune fence (R299): packets numbered from here on that arrive on a changed plane wait until
  these packets have entered their queues -/
  fenceFrom : Nat
  behind : List Nat
  /-- listening (R302) ends at -/
  listenEnd : Option Nat
  /-- heard while listening: plane, reported position, slot position -/
  heard : List (Nat × Nat × Nat)
  /-- the number of the slot begun last (R292) -/
  slot : Option Nat
  /-- after the first-lock step new frames start here, in ns of TB0 (R348) -/
  frameFrom : Nat
  /-- (plane, peer) pairs that drew an acknowledgement in the present slot (R304) -/
  acked : List (Nat × Nat)
  /-- plane time is counted up to, and nanoseconds of frames sent since, by plane (R296) -/
  nsAt : Nat
  dataNs : Tbl Nat
deriving DecidableEq, Repr

def Prism.init : Prism :=
  { patActive := [], patShadow := [], marks := [], lastAt := none, applied := [], retuneEnd := none,
    changed := [], fenceFrom := 0, behind := [], listenEnd := none, heard := [], slot := none, frameFrom := 0, acked := [],
    nsAt := 0, dataNs := [] }

/-! ## Lasers (R287, R306 to R308) -/

/-- The state of a laser (OPT.LASER_DATA word 0). -/
inductive LaserState where
  | spare | inService | warming | failed | retired
deriving DecidableEq, Repr

/-- A laser's record, which no reset clears. -/
structure Laser where
  st : LaserState
  /-- R in units of 2^-12 -/
  ratio : Nat
  /-- E in units of 2^-64 hours -/
  hours : Nat
  /-- word 2: launch power and site temperature, as last measured -/
  power : Nat
  /-- received power of the lane served, as last measured -/
  rx : Nat
  /-- the lane it serves -/
  lane : Option Nat
  /-- a takeover found no spare (R307, R308) -/
  flagged : Bool
deriving DecidableEq, Repr

/-- Working lasers of an engine: 128 on a leaf engine, 64 on a bypass engine (R287). -/
def workingLasers (engine : Nat) : Nat := if engine < 16 then 128 else 64
/-- All lasers of an engine. -/
def allLasers (engine : Nat) : Nat := if engine < 16 then 136 else 68

/-- Laser records as made, key engine × 256 + laser: working lasers in service on their lanes, the rest
spare. -/
def laserNew (k : Nat) : Laser :=
  { st := if k % 256 < workingLasers (k / 256) then .inService else .spare,
    ratio := 4096, hours := 0, power := 0, rx := 0,
    lane := if k % 256 < workingLasers (k / 256) then some (k % 256) else none, flagged := false }

/-- A takeover in progress (R307). -/
structure Takeover where
  engine : Nat
  old : Nat
  spare : Nat
  /-- the spare is at temperature and locked -/
  ready : Bool
deriving DecidableEq, Repr

/-- The optical engines. -/
structure Optics where
  lasers : Tbl Laser
  takeovers : List Takeover
  /-- the last optical-power event of a lane, key laser (R305) -/
  warnedAt : Tbl (Option Nat)
deriving DecidableEq, Repr

def Optics.init : Optics := ⟨[], [], []⟩

/-! ## MAC tables (chapter 15) -/

/-- An entry of a pipeline's MAC table (R335, R336, R341). -/
structure MacEntry where
  fixed : Bool
  stamp : Nat
  port : Nat
deriving DecidableEq, Repr

/-! ## Time (chapter 16) -/

/-- The clock (R342): nanoseconds of the disciplined clock since power-up, the fraction of a nanosecond
in units of 10^-12 ns, TB0's offset from it in nanoseconds, and the present rate offset in units of
10^-12 (R347). Every instant of the state is in `now`'s nanoseconds. -/
structure Clock where
  now : Nat
  sub : Nat
  tb0Off : Int
  adj : Int
deriving DecidableEq, Repr

/-- The state of TB0 (R346). -/
inductive TimeState where
  | unset | acquiring | locked | holdover
deriving DecidableEq, Repr

/-- The IEEE 1588 port's state (R353), of those that an ordinary clock passes through. -/
inductive PtpState where
  | listening | slave | master
deriving DecidableEq, Repr

/-- The IEEE 1588 ordinary clock on the management port (R353). -/
structure Ptp where
  st : PtpState
  /-- the master followed: its data set as one number, less is better, and its port identity -/
  rank : Nat
  source : Nat
  /-- t1 and t2 of the last Sync, once known, with its sequence number; a two-step Sync waits for its Follow_Up -/
  syncSeq : Nat
  t1 : Option Int
  t2 : Option Int
  /-- correction of a two-step Sync that waits -/
  corr : Int
  /-- t3 of the Delay_Req sent, with its sequence number -/
  t3 : Option Int
  reqSeq : Nat
  /-- the next sequence number of Sync and of Announce -/
  seq : Nat
  /-- the offset last worked out from a whole exchange -/
  offset : Option Int
deriving DecidableEq, Repr

/-- TB0's discipline and the local bases (R342 to R347). -/
structure Timing where
  st : TimeState
  stepped : Bool
  /-- the last offset measurements of the present state, newest first, at most 16 (R346) -/
  recent : List Int
  lastOffset : Int
  lastMeas : Option Nat
  /-- SET_CMD waits for a 1PPS edge (SRC 0b11) -/
  setPending : Bool
  ppsAt : Option Nat
  ppsOk : Bool
  ref10Ok : Bool
  ptpOk : Bool
  /-- the last EV_TIME for an offset above 1 ms -/
  bigOffsetAt : Option Nat
  /-- instants at which the local bases started: key 0-17 TB1 of PLn, 18-21 TB2 of die d, 22 TB3 -/
  start : Tbl Nat
  /-- copies found ahead of the master hold their count until an instant, by island (R345) -/
  holding : Tbl Nat
  ptp : Ptp
deriving DecidableEq, Repr

def Timing.init : Timing :=
  { st := .unset, stepped := false, recent := [], lastOffset := 0, lastMeas := none, setPending := false,
    ppsAt := none, ppsOk := false, ref10Ok := false, ptpOk := false, bigOffsetAt := none, start := [],
    holding := [],
    ptp := { st := .listening, rank := 0, source := 0, syncSeq := 0, t1 := none, t2 := none, corr := 0, t3 := none,
             reqSeq := 0, seq := 0, offset := none } }

/-! ## Host link and rings (chapter 17) -/

/-- The run state of a ring in host memory (R365). -/
inductive RingState where
  | disabled | running | error
deriving DecidableEq, Repr

/-- A piece of a MEM descriptor: one request (R368). -/
structure Piece where
  faddr : Nat
  len : Nat
  /-- host data read for it has arrived (MEM_WRITE) -/
  data : Option (List Byte)
  sent : Bool
  /-- how it ended: a status of R374 -/
  result : Option Nat
deriving DecidableEq, Repr

/-- How far a descriptor has come. -/
inductive DescState where
  | fetched | started | finished
deriving DecidableEq, Repr

/-- A descriptor held by the module (R367, R368). -/
structure Desc where
  idx : Nat
  words : List Word
  st : DescState
  pieces : List Piece
  /-- host data is read up to this offset, and has come by offset (TX_PACKET, MEM_WRITE) -/
  asked : Nat
  parts : List (Nat × List Byte)
deriving DecidableEq, Repr

/-- A receive buffer posted by RX_POST (R369). -/
structure RxBuffer where
  ring : Nat
  idx : Nat
  user : Word
  haddr : Nat
  len : Nat
deriving DecidableEq, Repr

/-- A command ring and its completion ring (R365, R366, R370). -/
structure HostRing where
  st : RingState
  /-- EN was written to 0 while descriptors were started -/
  stopping : Bool
  /-- CR_PI and CQ_CI as last read -/
  pi : Nat
  cqCi : Nat
  /-- CR_CI and CQ_PI as last written -/
  ci : Nat
  cqPi : Nat
  /-- next descriptor to be fetched -/
  fetch : Nat
  /-- descriptors from CR_CI on, in ring order -/
  descs : List Desc
  /-- the ring's last interrupt -/
  lastInt : Option Nat
  /-- an interrupt is deferred (R366) -/
  deferred : Bool
deriving DecidableEq, Repr

def HostRing.init : HostRing :=
  { st := .disabled, stopping := false, pi := 0, cqCi := 0, ci := 0, cqPi := 0, fetch := 0, descs := [],
    lastInt := none, deferred := false }

/-- The event ring or the telemetry ring (R375). -/
structure AuxRing where
  st : RingState
  pi : Nat
  ci : Nat
  lastInt : Option Nat
  deferred : Bool
deriving DecidableEq, Repr

def AuxRing.init : AuxRing := ⟨.disabled, 0, 0, none, false⟩

/-- What an outstanding host memory read is for (R358). -/
inductive ReadFor where
  | doorbell
  | descriptor (ring idx : Nat)
  /-- data of a descriptor, from a byte offset of its range -/
  | data (ring idx off : Nat)
deriving DecidableEq, Repr

/-- An outstanding HMEM_RD. -/
structure HostRead where
  tag : Nat
  use : ReadFor
  addr : Nat
  len : Nat
deriving DecidableEq, Repr

/-- A write of host memory, or an interrupt, in the order of R366. -/
inductive HostWrite where
  | data (addr : Nat) (bytes : List Byte)
  | interrupt (vector : Nat)
deriving DecidableEq, Repr

/-- The host link and its rings. -/
structure HostLink where
  /-- the Arsyn link is trained; DL22 has gone down, so that the rings are paused; the module works with the host (R361) -/
  trained : Bool
  paused : Bool
  up : Bool
  lanes : Nat
  /-- a doorbell page read is in flight; another cause came meanwhile (R364) -/
  pageRead : Bool
  pagePending : Bool
  /-- the last page read began at -/
  lastPage : Nat
  nextTag : Nat
  reads : List HostRead
  /-- data reads that a loss of the link voided, to be sent again (R361) -/
  voided : List HostRead
  /-- TX_PACKETs under way: the packet's id, ring and descriptor index (R350) -/
  txWait : List (Nat × Nat × Nat)
  /-- writes owed while the link is down, oldest first (R361) -/
  owed : List HostWrite
  rings : Tbl HostRing
  buffers : List RxBuffer
  evRing : AuxRing
  tlRing : AuxRing
deriving DecidableEq, Repr

def HostLink.init : HostLink :=
  { trained := false, paused := false, up := false, lanes := 0, pageRead := false, pagePending := false, lastPage := 0, nextTag := 0,
    reads := [], voided := [], txWait := [], owed := [], rings := [], buffers := [], evRing := .init, tlRing := .init }

/-! ## Crossings (R33, R38 to R42) -/

/-- A crossing: whether its consumer has announced D, the credits its producer holds, the entries in its FIFO, the credits
in flight back, and the entries discarded by isolation (R38, R42, R46). Keys: 0-22 the core end of DLn as producer, 32-54
the far end as producer, 64-81 the traffic manager into PLn's egress side, 96 PL17 into Canvas. -/
structure Crossing where
  announced : Bool
  credits : Nat
  entries : Nat
  flight : Nat
  discarded : Nat
deriving DecidableEq, Repr

/-- A crossing whose consumer has not announced. -/
def Crossing.init : Crossing := ⟨false, 0, 0, 0, 0⟩

/-! ## Power domains (chapters 02 and 18) -/

/-- The state of a power domain (R43 to R47, R448). -/
inductive DomState where
  | off | retention | draining | turningOn | on | reset
deriving DecidableEq, Repr

/-! ## Power and heat (chapter 18) -/

/-- What a laser site's heat does to its engine's ports (R383). -/
inductive SiteHeat where
  | cool | oneLane | dark
deriving DecidableEq, Repr

/-- What a domain operation takes a domain to. -/
inductive DomGoal where
  | on | retention | off | reset
deriving DecidableEq, Repr

/-- A domain operation with its cascade (R45, R389). -/
structure DomOp where
  goal : DomGoal
  target : Nat
  /-- host software asked for it, and it holds its maintenance locks (R430) -/
  host : Bool
  /-- the domain in transit now -/
  cur : Option Nat
  /-- domains changed so far, with the state they were left in: 0 off, 1 retention, 2 on -/
  changed : List (Nat × Nat)
  /-- a reset's second part: what it took down is turned on again -/
  upping : Bool
deriving DecidableEq, Repr

/-- A domain that drains: the state it will enter, and the end of its drain window (R46). -/
structure Going where
  n : Nat
  target : DomState
  deadline : Nat
deriving DecidableEq, Repr

/-- The power controller in PD01 (R376 to R387). -/
structure Power where
  /-- the last 100 samples of the input in units of 10 mV, newest first; the last one was taken at -/
  samples : List Nat
  sampleAt : Option Nat
  /-- the input power over the last 1 ms, in W -/
  watts : Nat
  /-- the dwell of each level's release runs since (R378) -/
  dwell : Tbl (Option Nat)
  /-- the last EV_SUPPLY for an input above 60.0 V -/
  overAt : Option Nat
  /-- the sensors were sampled last at; hottest core, hub and laser-site sensors in units of 0.1 °C -/
  thermAt : Option Nat
  coreTemp : Int
  hubTemp : Int
  siteTemps : Tbl Int
  /-- hottest Palette-die sensor of each die, newest first, at most 11 samples (R384) -/
  dieTemps : Tbl (List Int)
  /-- hottest stack sensor of each die -/
  stackTemps : Tbl Int
  /-- a die meets the conditions to leave THROTTLED since; its thermal factor rose last at -/
  calmSince : Tbl (Option Nat)
  roseAt : Tbl Nat
  /-- pipelines offer 3 header slots per cycle (R383) -/
  slots3 : Bool
  /-- EV_THERMAL stands for the core die and the hub die: at 100 °C or more -/
  coreHot : Bool
  hubHot : Bool
  /-- laser sites by engine -/
  sites : Tbl SiteHeat
  /-- islands whose clock is stretched (R385) -/
  stretched : List Nat
  /-- domains that a level or M-state put into retention or off, and requests to turn on that it holds (R379) -/
  shed : List Nat
  held : List Nat
  /-- domain operations in order of request, domains that drain, and the domain that turns on from off (R382) -/
  ops : List DomOp
  going : List Going
  coldOn : Option Nat
  /-- a reset took PD02 down: its boot starts (R389) -/
  bootDue : Bool
  /-- the last attempt to train a die link that is down, by link (R34) -/
  linkTryAt : Tbl Nat
  /-- the module is in M3; its wake timer expires at (R387) -/
  m3 : Bool
  wakeAt : Option Nat
deriving DecidableEq, Repr

def Power.init : Power :=
  { samples := [], sampleAt := none, watts := 0, dwell := [], overAt := none, thermAt := none, coreTemp := 250,
    hubTemp := 250, siteTemps := [], dieTemps := [], stackTemps := [], calmSince := [], roseAt := [],
    slots3 := false, coreHot := false, hubHot := false, sites := [], stretched := [], shed := [], held := [],
    ops := [], going := [], coldOn := none, bootDue := false, linkTryAt := [], m3 := false, wakeAt := none }


/-! ## Withdrawal and boot (chapters 01 and 19) -/

/-- What an orderly withdrawal is for: what follows it (R27). -/
inductive WithdrawFor where
  | identity | warmReset | m3
deriving DecidableEq, Repr

/-- An orderly withdrawal in progress (R27): its drain window ends at an instant, and what it is for. -/
structure Withdrawal where
  deadline : Nat
  causes : List WithdrawFor
deriving DecidableEq, Repr

/-- Boot, the security root's fuses, flash slots, measurements and reports (chapter 19). -/
structure Boot where
  /-- the reset that this boot follows: 0 cold, 1 module, 2 warm, 3 domain; its cause (R391) -/
  kind : Nat
  cause : Nat
  /-- a boot is owed, and waits for the input, RESET_N or the thermal hold (R389, R443) -/
  waiting : Bool
  /-- RESET_N is held low -/
  resetLow : Bool
  /-- sites that tripped: 0 core, 1 hub, 2 + d Palette die d, 6 + d its stacks; all of them cool since (R389) -/
  tripped : List Nat
  coolSince : Option Nat
  /-- the filtered input has been at or above 43.0 V since (R389) -/
  goodSince : Option Nat
  /-- domains that a reset of PD02 took down, to be turned on when the boot completes -/
  mask : List Nat
  /-- the source a boot begins with, attempts failed in this round, rounds failed since the record was cleared
  (R394, R399) -/
  first : Nat
  tries : Nat
  rounds : Nat
  /-- failed attempts, the last failure code of slot A, slot B and the host, and the last of all -/
  fails : Nat
  codeA : Nat
  codeB : Nat
  codeHost : Nat
  last : Nat
  backoffEnd : Option Nat
  /-- the host attempt began at; host software has set GO (R397) -/
  hostFrom : Option Nat
  go : Bool
  /-- phase 0b11 since (R399) -/
  upAt : Option Nat
  /-- the slots hold no image (R400) -/
  erasedA : Bool
  erasedB : Bool
  /-- a program of a flash slot runs (R400): slot and length -/
  program : Option (Nat × Nat)
  /-- fuses (R401) -/
  ownerReq : Bool
  minSvn : Nat
  ownerHash : List Byte
  /-- fuses burnt since the boot, which take effect at the next one (R405) -/
  ownerReqNext : Bool
  minSvnNext : Nat
  ownerHashNext : List Byte
  /-- the measurement log: entries stored, entries measured, LOG_HASH (R403) -/
  log : List (List Byte)
  measured : Nat
  logHash : List Byte
  /-- a report in progress: the nonce and LOG_HASH as latched (R404) -/
  report : Option (List Byte × List Byte)
deriving DecidableEq, Repr

/-- Boot right after a cold reset: it waits for the input to be good. The fuses read as on a module that has
burnt none. (DESIGN CHOICE, log entry 137) -/
def Boot.init : Boot :=
  { kind := 0, cause := 4, waiting := true, resetLow := false, tripped := [], coolSince := none, goodSince := none,
    mask := [], first := 0, tries := 0, rounds := 0, fails := 0, codeA := 0, codeB := 0, codeHost := 0, last := 0,
    backoffEnd := none, hostFrom := none, go := false, upAt := none, erasedA := false, erasedB := false,
    program := none, ownerReq := false, minSvn := 0, ownerHash := [], ownerReqNext := false, minSvnNext := 0,
    ownerHashNext := [], log := [], measured := 0, logHash := List.replicate 32 0, report := none }


/-! ## The I3C target (chapter 21) -/

/-- The I3C target and the alert pin (R443 to R445). -/
structure I3c where
  /-- the dynamic address -/
  dyn : Option Nat
  /-- in-band interrupts are enabled -/
  ibi : Bool
  /-- ALERT_EN -/
  alertEn : Nat
  /-- ALERT_N is driven low -/
  low : Bool
deriving DecidableEq, Repr

def I3c.init : I3c := ⟨none, false, 0x0F, false⟩


/-! ## Maintenance locks (R430, R431) -/

/-- What a maintenance activity does to a power domain. -/
inductive DomAct where
  | reset | retention | off
deriving DecidableEq, Repr

/-- A maintenance activity: its code of R430 and its unit. -/
inductive Activity where
  | drain (port : Nat)
  | retrain (port : Nat)
  | portReset (port : Nat)
  | takeover (engine laser : Nat)
  | offline (engine : Nat)
  | resume (engine : Nat)
  | lanes (engine group : Nat) (retire : Bool)
  | stack (k : Nat)
  | cxlAdd (k : Nat)
  | cxlRemove (k : Nat)
  | ucode (island slot : Nat)
  | flash (slot : Nat) (erase : Bool)
  | domain (n : Nat) (act : DomAct)
deriving DecidableEq, Repr

/-! ## Telemetry, health, hot update (chapter 20) -/

/-- An identity of the ledger whose latched terms do not balance: its code, the unit that it isolates, and its left side less
its right side (R418). -/
structure Balance where
  code : Nat
  kind : Nat
  index : Nat
  diff : Int
deriving DecidableEq, Repr

/-- What a snapshot latched (R413): its target in ns of TB0, and what the registers of R408 read of it. -/
structure Snap where
  target : Nat
  /-- TB0's fraction at the target, in 2^-16 ns -/
  frac : Nat
  /-- bit n − 1: PDn was on -/
  on : Nat
  cnt : Tbl Nat
  /-- occupancy and high-water mark of queues, key port × 8 + TC (R410) -/
  depth : Tbl Nat
  hwm : Tbl Nat
  /-- local bases: key 0-17 TB1, 18-21 TB2, 22 TB3 (R354) -/
  bases : Tbl Nat
  /-- shapers' tokens and the dies' accounts, by register offset (R137, R234) -/
  fields : Tbl Word
  /-- the conditions of R433 that hold -/
  attr : Nat
  /-- the terms of every crossing (R38) -/
  xings : Tbl Crossing
  /-- the identities whose terms do not balance (R418) -/
  ledger : List Balance
  /-- causes of R415, each with its island, or none for the module -/
  causes : List (Nat × Option Nat)
  seq : Nat
deriving DecidableEq, Repr

/-- The health of a part (R422 to R427). -/
structure Part where
  /-- the published score -/
  score : Nat
  /-- its falls: instant and points, in the last 60 s -/
  falls : List (Nat × Nat)
  /-- 0 OK, 1 WATCH, 2 DRAIN, 3 RETIRE -/
  st : Nat
  flagged : Bool
  pinEnd : Option Nat
  /-- its action is allowed since, its budget reserved (R425, R426) -/
  allowedAt : Option Nat
  /-- its action has started -/
  acted : Bool
deriving DecidableEq, Repr

/-- A part without a history. -/
def Part.init : Part := ⟨0, [], 0, false, none, none, false⟩

/-- A hot update past its check (R432): island, slot, and whether it waits for the island's announcement. -/
structure Update where
  island : Nat
  slot : Nat
  /-- its crossings drain, once the image is loaded, until (R432 step 3) -/
  drainEnd : Option Nat
  /-- the island restarted at, once the banks are swapped -/
  swapped : Option Nat
deriving DecidableEq, Repr

/-- Loupe, the ledger, health and hot update. -/
structure Telemetry where
  /-- the published snapshot, the newest completed one while LOCK holds it back, the one in progress (R416) -/
  pub : Option Snap
  newest : Option Snap
  cur : Option Snap
  /-- requested targets, in ns of TB0 (R412) -/
  req : List Nat
  lastTarget : Option Nat
  /-- periodic targets started at, in ns of TB0 -/
  periodicFrom : Nat
  lockEnd : Option Nat
  seq : Nat
  /-- a target was skipped since the last record (R414) -/
  skipped : Bool
  /-- causes of R415 since the last target -/
  causes : List (Nat × Option Nat)
  /-- units isolated, by KIND and INDEX (R419) -/
  isolated : List (Nat × Nat)
  /-- errors of parts that no register counts, key (KIND × 2^24 + INDEX) × 8 + input (R423) -/
  errs : Tbl Nat
  /-- input counts at the last evaluation, and the increments of the last 600 evaluations, newest first -/
  seen : Tbl Nat
  hist : List (Tbl Nat)
  /-- the last evaluation (R422) -/
  evalAt : Nat
  /-- parts, key KIND × 2^24 + INDEX -/
  parts : Tbl Part
  /-- the expulsions' starts in the last 3,600 s (R425) -/
  expulsions : List Nat
  update : Option Update
  /-- plane time at the last target: the sum of the eight counters, and the instant (R296) -/
  planeBase : Option (Nat × Nat)
deriving DecidableEq, Repr

def Telemetry.init : Telemetry :=
  { pub := none, newest := none, cur := none, req := [], lastTarget := none, periodicFrom := 0, lockEnd := none,
    seq := 0, skipped := false, causes := [], isolated := [], errs := [], seen := [], hist := [], evalAt := 0, parts := [],
    expulsions := [], update := none, planeBase := none }

/-! ## What leaves the module -/

/-- One thing the module puts on its wires. The list of them is the model's own record of its outputs. -/
inductive Out where
  /-- a data flit on a port's link -/
  | flit (port : Nat) (f : Flit)
  /-- a control flit's NAK for an FSEQ -/
  | nak (port : Nat) (fseq : Nat)
  /-- a link-local packet, in a control flit (R57, R314) -/
  | linkLocal (port : Nat) (p : Packet)
  /-- an Ethernet frame on a port -/
  | frame (port : Nat) (bytes : List Byte)
  /-- a write of host memory or an interrupt over the Arsyn link (R358, R359) -/
  | host (w : HostWrite)
  /-- an HMEM_RD -/
  | hostRead (tag addr len : Nat)
  /-- what a host read of a register answered: its offset and value (R12) -/
  | regRead (off : Nat) (w : Word)
  /-- a PTP message on the management port: its type, sequence number and time in ns (R353) -/
  | ptp (kind seq time : Nat)
  /-- a transmitter switched on or off -/
  | laser (port : Nat) (on : Bool)
  /-- bytes that the I3C target answers (R444) -/
  | i3c (bytes : List Byte)
  /-- an in-band interrupt with no data (R444) -/
  | ibi
deriving DecidableEq, Repr

/-- The state of the module. -/
structure State where
  /-- the disciplined clock -/
  clk : Clock
  /-- the stored fields of every register, by offset; unlisted: the reset value (R12) -/
  regs : Tbl Word
  /-- every counter modulo 2^64, by the offset of its low word (R11) -/
  cnt : Tbl Nat
  /-- the state of each power domain PDn; unlisted: off (R43) -/
  dom : Tbl DomState
  /-- packets between ingress and egress -/
  dp : Datapath
  /-- forwarding and group tables and the generation -/
  tab : Tables
  /-- egress scheduling, shapers and policers -/
  sched : Sched
  /-- the external ports: 0-1023 LP, 1024-1087 BP -/
  ports : Tbl Port
  /-- links, key port × 64 + peer position on a BP port, port × 64 on an LP port (R321) -/
  links : Tbl Link
  /-- the peer positions (R303) -/
  peers : Tbl Peer
  /-- the Prism planes (R291) -/
  planes : Tbl Plane
  /-- Prism: patterns, re-tunes, slots (chapter 13) -/
  prism : Prism
  /-- lasers and takeovers (R306 to R308) -/
  optics : Optics
  /-- Canvas: contexts, segments and staging (chapter 08) -/
  canvas : Canvas
  /-- Palette: engines, client rings and die accounts (chapters 09, 10) -/
  pal : Palette
  /-- the home agents 0-3 (chapter 11) -/
  homes : Tbl Home
  /-- the module's requesters and the access windows (chapter 11) -/
  req : Requesters
  /-- switch memory, the page map and Easel (chapter 12) -/
  mem : Memory
  /-- TB0's discipline and the local time bases -/
  timing : Timing
  /-- the Arsyn link and the rings in host memory -/
  host : HostLink
  /-- maintenance activities in order of request; true: running (R430, R431) -/
  maint : List (Activity × Bool)
  /-- the power controller: input, heat, droop (chapter 18) -/
  pwr : Power
  /-- MAC tables of PL00 to PL15, key (pipeline × 4096 + VID) × 2^48 + MAC (R335) -/
  macs : Tbl (Option MacEntry)
  /-- snapshots, isolation, health, hot update (chapter 20) -/
  tel : Telemetry
  /-- boot, fuses, flash, measurements (chapter 19) -/
  boot : Boot
  /-- the I3C target and the alert pin (chapter 21) -/
  i3c : I3c
  /-- the orderly withdrawal in progress (R27) -/
  wd : Option Withdrawal
  /-- the on-module event queue, oldest first (R372) -/
  evq : List EvRec
  /-- events lost since the last EV_EVENT_LOST (R372) -/
  evLost : Nat
  /-- events raised while PD02 was not on, counted by PD01 (R372) -/
  evLostOff : Nat
  /-- the crossings of R38 -/
  xings : Tbl Crossing
  /-- the first cycle that a stall counter has not judged, by the counter's offset (R39, R79, R109, R411) -/
  cyc : Tbl Nat
  /-- what the module has put on its wires, newest first (the model's own field) -/
  out : List Out
  /-- how many free values have been taken (the model's own field) -/
  free : Nat
  /-- the commands that wait, first in first out -/
  pending : List Instr
deriving DecidableEq, Repr

/-- Why the machine stops with a fault. -/
inductive Fault where
  /-- RESET_N was low for 1 to 10 microseconds, for which R443 defines no outcome. Raised by
  RESET_N_ASSERT. Safe: the machine stops where the pin's effect is undefined. -/
  | resetPulseUndefined
deriving DecidableEq, Repr

/-- Why a command has no meaning. -/
inductive Refusal where
  /-- The command's meaning is not written. Raised by an arm of exec alone. Safe. -/
  | notModelled (mnemonic : String)
deriving DecidableEq, Repr

/-- The module right after a cold reset, before boot: PD01 is on, every other domain is off, every
table is empty, every register at its reset value. -/
def State.reset : State :=
  { clk := ⟨0, 0, 0, 0⟩,
    regs := [],
    cnt := [],
    dom := [(1, .on)],
    dp := .empty,
    tab := .empty,
    sched := .empty,
    ports := [],
    links := [],
    peers := [],
    planes := [],
    prism := .init,
    optics := .init,
    canvas := .init,
    pal := .init,
    homes := [],
    req := .init,
    mem := .init,
    timing := .init,
    host := .init,
    maint := [],
    pwr := .init,
    macs := [],
    tel := .init,
    boot := .init,
    i3c := .init,
    wd := none,
    evq := [],
    evLost := 0,
    evLostOff := 0,
    xings := [],
    cyc := [],
    out := [],
    free := 0,
    pending := [] }

end Sys2Proof.Machine
end

