-- ==== Sys2Proof/Machine/Ops.lean ====
section
/-!
DEFINITION. The named operations over the state: registers and their access types (R8 to R12, R448),
counters (R11), domains (R43), the clock and TB0 (R342), events (R372), sequence numbers (R68), and
the accessors of ports, links, queues, peers and planes.
-/
namespace Sys2Proof.Machine

/-! ## Clock -/

/-- The present instant in nanoseconds of the disciplined clock. -/
abbrev State.now (s : State) : Nat := s.clk.now

/-- TB0 in nanoseconds since its zero (R342). -/
def State.tb0 (s : State) : Nat := ((s.clk.now : Int) + s.clk.tb0Off).toNat

/-- TB0's fraction of a nanosecond, in units of 2^-16 ns (R342). -/
def State.tb0Frac (s : State) : Nat := s.clk.sub * 65536 / 1000000000000

/-- The instant of the disciplined clock at which TB0 shows a value. -/
def State.atTb0 (s : State) (t : Nat) : Nat := ((t : Int) - s.clk.tb0Off).toNat

/-- TB0 seconds and nanoseconds (R342). -/
def State.tb0Sec (s : State) : Nat := s.tb0 / 1000000000
def State.tb0Ns (s : State) : Nat := s.tb0 % 1000000000

/-- A local base: 32-bit nanoseconds since its domain turned on (R342). Key 0-17 TB1, 18-21 TB2, 22 TB3. -/
def State.localBase (s : State) (k : Nat) : Nat :=
  (s.clk.now - Tbl.get (fun _ => 0) s.timing.start k) % 2 ^ 32

/-! ## Domains -/

/-- The state of domain PDn. -/
def State.domSt (s : State) (n : Nat) : DomState := Tbl.get (fun _ => .off) s.dom n

/-- Whether domain PDn is on (R43, R448). -/
def State.on (s : State) (n : Nat) : Bool := s.domSt n == .on

/-- Whether a domain works on what has entered it: it is on, or drains (R46). -/
def State.works (s : State) (n : Nat) : Bool := s.domSt n == .on || s.domSt n == .draining

/-! ## Registers -/

/-- The stored fields of the register at an offset. -/
def State.rd (s : State) (off : Nat) : Word := Tbl.get regReset s.regs off

/-- A stored field: bits [hi:lo] of the register at an offset. -/
def State.fld (s : State) (off hi lo : Nat) : Nat := (s.rd off).fld hi lo

/-- The state with a register's stored word replaced. -/
def State.wr (s : State) (off : Nat) (w : Word) : State := { s with regs := Tbl.put regReset s.regs off w }

/-- The state with one stored field replaced: how the module sets a status or a field it owns. -/
def State.setF (s : State) (off hi lo v : Nat) : State := s.wr off ((s.rd off).setFld hi lo v)

/-- Storing words in consecutive registers of 4 bytes, from an offset. -/
def putWords (regs : Tbl Word) (off : Nat) : List Word → Tbl Word
  | [] => regs
  | w :: ws => putWords (Tbl.put regReset regs off w) (off + 4) ws

/-- The state with words stored in consecutive registers. -/
def State.wrWords (s : State) (off : Nat) (ws : List Word) : State := { s with regs := putWords s.regs off ws }

/-- The words of `n` consecutive registers. -/
def State.rdWords (s : State) (off : Nat) : Nat → List Word
  | 0 => []
  | n + 1 => s.rd off :: s.rdWords (off + 4) n

/-- What a write of `w` leaves in one field that holds `old`'s bits, by its access type (R12). -/
def FieldDef.write (f : FieldDef) (w old : Word) : Word :=
  match f.acc with
  | .ro | .wo => old
  | .rw | .rws | .rwp => old.setFld f.hi f.lo (w.fld f.hi f.lo)
  | .w1c => old.setFld f.hi f.lo (old.fld f.hi f.lo - (old.fld f.hi f.lo &&& w.fld f.hi f.lo))
  | .w1s => old.setFld f.hi f.lo (old.fld f.hi f.lo ||| w.fld f.hi f.lo)

/-- What a write leaves in the fields of a register (R12). -/
def writeFields : List FieldDef → Word → Word → Word
  | [], _, old => old
  | f :: fs, w, old => writeFields fs w (f.write w old)

/-- The register after a write of `w`, by the access types of its fields (R12). -/
def storeWord (off : Nat) (w old : Word) : Word :=
  match findReg regMap off with
  | some (r, _) => writeFields r.fields w old
  | none => old

/-- Storing a write as the access types state (R12): what a register with no behaviour of its own does. -/
def State.store (s : State) (off : Nat) (w : Word) : State := s.wr off (storeWord off w (s.rd off))

/-! ## Counters -/

/-- A counter's live value. -/
def State.count (s : State) (off : Nat) : Nat := Tbl.get (fun _ => 0) s.cnt off

/-- Counters with `n` added to one, modulo 2^64 (R11). -/
def bumpTbl (t : Tbl Nat) (off n : Nat) : Tbl Nat :=
  Tbl.upd (fun _ => 0) t off (fun c => (c + n) % 2 ^ 64)

/-- The state with `n` added to a counter. -/
def State.bump (s : State) (off n : Nat) : State := { s with cnt := bumpTbl s.cnt off n }

/-! ## Conditions that stand (R433, R445) -/

/-- The conditions of R433 that hold, in list order: a unit isolated; an engine FAULTED or a ring STALLED; a
context in RECOVER; a die link down with both its domains on; a stack FAILED or a die unreachable. -/
def State.attrNow (s : State) : Nat :=
  let down (n : Nat) : Bool := s.fld (R.GLB_D2D_STAT n) 31 30 == 0
  bit01 (!s.tel.isolated.isEmpty)
    + 2 * bit01 (s.pal.engines.any (fun ke => ke.2.st == .faulted) || s.pal.rings.any (fun kr => kr.2.st == .stalled))
    + 4 * bit01 (s.canvas.ctxs.any (fun kc => kc.2.st == .recover))
    + 8 * bit01 ((List.range 23).any down)
    + 16 * bit01 ((List.range 32).any (fun k => s.fld (R.MEM_STACK_STAT k) 31 29 == 4)
        || (List.range 4).any (fun d => down (18 + d)))

/-- ALERT_CAUSE of the I3C target (R445): a shedding level; a Palette die THROTTLED, or a core or hub site at or
above 100 °C; a unit isolated; a boot round failed and PHASE not 0b11. -/
def State.alertCause (s : State) : Nat :=
  bit01 (s.fld R.PWR_SUPPLY_STAT 15 13 != 0)
    + 2 * bit01 ((List.range 4).any (fun d => s.fld (R.PWR_DIE_THERM d) 23 22 == 2)
        || decide (1000 ≤ s.pwr.coreTemp) || decide (1000 ≤ s.pwr.hubTemp))
    + 4 * bit01 (!s.tel.isolated.isEmpty)
    + 8 * bit01 (s.boot.rounds != 0 && s.fld R.GLB_BOOT_STAT 31 30 != 3)

/-- Whether an enabled cause holds ALERT_N low (R443, R445). -/
def State.alertLow (s : State) : Bool := s.on 1 && s.alertCause &&& s.i3c.alertEn != 0

/-- ALERT_N follows its causes; its fall raises the in-band interrupt where that is enabled (R443, R444).
(DESIGN CHOICE, log entry 153) -/
def State.alertStep (s : State) : State :=
  let out := if s.alertLow && !s.i3c.low && s.i3c.ibi && s.i3c.dyn.isSome then Out.ibi :: s.out else s.out
  { s with i3c := { s.i3c with low := s.alertLow }, out := out }

/-- Whole cycles of a 1.6 GHz clock at an instant (R37). -/
def cycle16 (t : Nat) : Nat := 8 * t / 5

/-- Cycles from `c0` up to `c1` counted in a stall counter, each cycle once (R39, R79, R109, R411). -/
def State.countCycles (s : State) (off c0 c1 : Nat) : State :=
  let c := max c0 (Tbl.get (fun _ => 0) s.cyc off)
  if c < c1 then { s with cnt := bumpTbl s.cnt off (c1 - c), cyc := Tbl.put (fun _ => 0) s.cyc off c1 } else s

/-- The present 1.6 GHz cycle counted in a stall counter. -/
def State.countCycle (s : State) (off : Nat) : State := s.countCycles off (cycle16 s.now) (cycle16 s.now + 1)

/-- Each port's counter c of R409. (DEDUCED, log entry 45) -/
def State.bumpPort (s : State) (port c n : Nat) : State :=
  if port < 1094 then s.bump (C.TEL_PORT_CNT port c) n else s

/-! ## Isolation and the errors of parts (R419, R423) -/

/-- An island that the ledger isolated (R419). -/
def State.islandIsolated (s : State) (i : Nat) : Bool := s.tel.isolated.contains (0x10, i)

/-- A phase of the hot update of an island (R432). -/
def State.updating (s : State) (i : Nat) (phase : Update → Bool) : Bool :=
  match s.tel.update with
  | some u => u.island == i && phase u
  | none => false

/-- An island in reset: isolated, or restarted by a hot update and not announced (R419, R432). -/
def State.islandHeld (s : State) (i : Nat) : Bool := s.islandIsolated i || s.updating i (fun u => u.swapped.isSome)

/-- Producers send nothing into an island's crossings: it is in reset, or drains for a hot update (R46, R48). -/
def State.islandStops (s : State) (i : Nat) : Bool := s.islandHeld i || s.updating i (fun u => u.drainEnd.isSome)

/-- Errors of a part that no register counts: stack (KIND 9) input 0 corrected lines, 1 uncorrectable lines, 2 soft
repairs; lane group (KIND 6, INDEX engine + 256 × (group + 1)) input 0 residue faults, 1 corrected errors (R423). -/
def State.partErr (s : State) (kind index input n : Nat) : State :=
  { s with tel := { s.tel with errs := Tbl.upd (fun _ => 0) s.tel.errs ((kind * 2 ^ 24 + index) * 8 + input) (· + n) } }

/-! ## Crossings (R33, R38, R42) -/

/-- Credits of a die link per direction, in flits of 64 bytes (R33). -/
def dieCredits (n : Nat) : Nat := if 18 ≤ n ∧ n ≤ 21 then 2048 else 1024

/-- The depth D of a crossing (R33, R38): die links by R33, 256 from the traffic manager into a pipeline's egress side.
(DESIGN CHOICE, log entry 157) -/
def crossingDepth (k : Nat) : Nat :=
  if k < 64 then dieCredits (k % 32) else if k < 96 then 256 else Config.canvasDepth + 1

def State.xing (s : State) (k : Nat) : Crossing := Tbl.get (fun _ => Crossing.init) s.xings k
def State.setXing (s : State) (k : Nat) (x : Crossing) : State :=
  { s with xings := Tbl.put (fun _ => Crossing.init) s.xings k x }

/-- The consumer announces D and the producer loads its credits (R42). -/
def Crossing.announce (x : Crossing) (d : Nat) : Crossing :=
  if x.announced then x else { x with announced := true, credits := d, entries := 0, flight := 0 }

/-- The consumer no longer announces: the producer holds zero credits, and what the FIFO still held is the producer's again
(R42, R47, R48). -/
def Crossing.shut (x : Crossing) : Crossing := { Crossing.init with discarded := x.discarded }

/-- `n` entries sent into the FIFO, a credit for each: none without (R38). -/
def Crossing.send (x : Crossing) (n : Nat) : Crossing :=
  { x with credits := x.credits - n, entries := x.entries + min n x.credits }

/-- `n` entries removed by the consumer, a credit on its way back for each (R38). -/
def Crossing.take (x : Crossing) (n : Nat) : Crossing :=
  { x with entries := x.entries - n, flight := x.flight + min n x.entries }

/-- Isolation discards `n` entries of the FIFO, whose credits go back (R46 step 2). -/
def Crossing.discard (x : Crossing) (n : Nat) : Crossing := { x.take n with discarded := x.discarded + n }

/-- The credits in flight reach the producer. -/
def Crossing.back (x : Crossing) : Crossing := { x with credits := x.credits + x.flight, flight := 0 }

/-- `n` entries that the consumer takes as fast as they come: credits in flight return while the producer has none to
spare (R33: credits never limit a link below its bandwidth). -/
def Crossing.pass (x : Crossing) (n : Nat) : Crossing :=
  if !x.announced then x
  else if n ≤ x.credits then (x.send n).take n
  else (x.back.send (min n x.back.credits)).take (min n x.back.credits)

def State.xAnnounce (s : State) (k : Nat) : State := s.setXing k ((s.xing k).announce (crossingDepth k))
def State.xShut (s : State) (k : Nat) : State := s.setXing k (s.xing k).shut
def State.xPass (s : State) (k n : Nat) : State := s.setXing k ((s.xing k).pass n)

/-- Flits of 64 bytes that bytes fill. -/
def flits64 (b : Nat) : Nat := (b + 63) / 64

/-! ## Events -/

/-- An event to be raised: code, severity, source, arguments (R372, R373). -/
structure Ev where
  code : Nat
  sev : Nat
  kind : Nat
  index : Nat
  arg0 : Nat := 0
  arg1 : Nat := 0
  arg2 : Nat := 0
deriving DecidableEq, Repr

/-- The queue with an event merged into the record of the same code and source, if there is one. -/
def mergeEv (e : Ev) : List EvRec → Option (List EvRec)
  | [] => none
  | r :: rs =>
    if r.code = e.code ∧ r.kind = e.kind ∧ r.index = e.index then
      some ({ r with count := min (r.count + 1) (2 ^ 32 - 1) } :: rs)
    else (mergeEv e rs).map (r :: ·)

/-- The record that an event makes at an instant of TB0. -/
def Ev.record (e : Ev) (tb0 : Nat) : EvRec :=
  { code := e.code, sev := e.sev, kind := e.kind, index := e.index, arg0 := e.arg0, arg1 := e.arg1,
    arg2 := e.arg2, count := 1, sec := tb0 / 1000000000 % 2 ^ 32, ns := tb0 % 1000000000 }

/-- Raising an event (R372): merged, queued while PD02 is on and the queue of 4,096 has room, or lost. -/
def State.raise (s : State) (e : Ev) : State :=
  if s.on 2 then
    match mergeEv e s.evq with
    | some q => { s with evq := q, cnt := bumpTbl s.cnt C.HLK_EV_MERGED 1 }
    | none =>
      if s.evq.length < 4096 then { s with evq := s.evq ++ [e.record s.tb0] }
      else { s with evLost := s.evLost + 1, cnt := bumpTbl s.cnt C.HLK_EV_LOST 1 }
  else { s with evLostOff := s.evLostOff + 1 }

/-! Event sources (R372 word 1 KIND). (DESIGN CHOICE, log entry 22) -/
def srcPort (port : Nat) : Nat × Nat := if port < 1024 then (1, port) else (2, port - 1024)

/-- An event whose source is a port (R372). -/
def portEv (code sev port arg0 arg1 : Nat) : Ev :=
  { code := code, sev := sev, kind := (srcPort port).1,
    index := (srcPort port).2, arg0 := arg0, arg1 := arg1 }

/-- An event whose source is the module (KIND 0x0F). -/
def modEv (code sev arg0 arg1 arg2 : Nat) : Ev :=
  { code := code, sev := sev, kind := 0x0F, index := 0, arg0 := arg0, arg1 := arg1, arg2 := arg2 }

/-! ## The module's identity (R22) -/

/-- GLB.FABRIC_ID.ASSIGNED. -/
def State.assigned (s : State) : Bool := s.fld R.GLB_FABRIC_ID 31 31 == 1
/-- Whether the module carries traffic (R22, R23): it is assigned, or it withdraws after its identity was
cleared and still accepts and forwards every packet that arrives (R27). -/
def State.carries (s : State) : Bool :=
  s.assigned || (match s.wd with | some w => w.causes.contains .identity | none => false)
/-- The module takes part in the fabric: it carries traffic, and a generation has taken effect since its return (R23, R30).
(DEDUCED, log entry 170) -/
def State.joined (s : State) : Bool := s.carries && s.tab.ready
def State.prismMember (s : State) : Bool := s.fld R.GLB_FABRIC_ID 30 30 == 1
def State.prismPos (s : State) : Nat := s.fld R.GLB_FABRIC_ID 21 16
def State.spineId (s : State) : Nat := s.fld R.GLB_FABRIC_ID 9 0

/-- The spine-space endpoint ID of one of the module's home agents (R20). -/
def State.homeId (s : State) (home : Nat) : Nat := s.spineId * 4 + home

/-- Outstanding packets of one of the module's origins (0 the hub) toward a destination (R98). -/
def State.outstanding (s : State) (origin space dest : Nat) : Nat :=
  (s.req.out.filter (fun r => r.origin == origin && r.pkt.dest == dest && bit01 (destSpine r.pkt) == space)).length
    + (if origin = 0 then (s.req.data.filter (fun x => x.dest == dest && x.space == space)).length else 0)

/-- A unit of the module may issue to a destination: the module takes part, and the 32-bit counter does not wrap (R23, R30,
R98). -/
def State.mayIssue (s : State) (origin space dest : Nat) : Bool :=
  s.joined && decide (s.outstanding origin space dest < 2 ^ 32 - 1)

/-! ## Free values -/

/-- The state after a free value has been taken. -/
def State.tick (s : State) : State := { s with free := s.free + 1 }

/-! ## Outputs -/

/-- Whether boot is complete: BOOT_STAT.PHASE is 0b11, and the module answers link training (R394). -/
def State.booted (s : State) : Bool := s.fld R.GLB_BOOT_STAT 31 30 == 3

/-- The state with one more output. (DESIGN CHOICE, log entry 155) -/
def State.emit (s : State) (o : Out) : State := { s with out := o :: s.out }

/-! ## Sequence numbers of the module's own series (R68) -/

/-- The key of a series: the home of SRC, the space of DEST, DEST. -/
def seqKey (home dspace dest : Nat) : Nat := home * 2 ^ 19 + dspace * 2 ^ 18 + dest

/-- The next SEQ of a series. -/
def State.nextSeq (s : State) (home dspace dest : Nat) : Nat :=
  Tbl.get (fun _ => 0) s.dp.seqs (seqKey home dspace dest)

/-- The state with a series moved on by one, modulo 2^24. -/
def State.takeSeq (s : State) (home dspace dest : Nat) : State :=
  let t := Tbl.upd (fun _ => 0) s.dp.seqs (seqKey home dspace dest) (fun n => (n + 1) % 2 ^ 24)
  { s with dp := { s.dp with seqs := t } }

/-! ## Accessors -/

def State.port (s : State) (p : Nat) : Port := Tbl.get (fun _ => Port.init) s.ports p
def State.setPort (s : State) (p : Nat) (x : Port) : State :=
  { s with ports := Tbl.put (fun _ => Port.init) s.ports p x }
def State.link (s : State) (k : Nat) : Link := Tbl.get (fun _ => Link.init) s.links k
def State.setLink (s : State) (k : Nat) (x : Link) : State :=
  { s with links := Tbl.put (fun _ => Link.init) s.links k x }
def State.peer (s : State) (j : Nat) : Peer := Tbl.get (fun _ => Peer.init) s.peers j
def State.setPeer (s : State) (j : Nat) (x : Peer) : State :=
  { s with peers := Tbl.put (fun _ => Peer.init) s.peers j x }
def State.plane (s : State) (p : Nat) : Plane := Tbl.get (fun _ => Plane.init) s.planes p
def State.setPlane (s : State) (p : Nat) (x : Plane) : State :=
  { s with planes := Tbl.put (fun _ => Plane.init) s.planes p x }
def State.queue (s : State) (q : Nat) : EQueue := Tbl.get (fun _ => EQueue.empty) s.dp.queues q
def State.setQueue (s : State) (q : Nat) (x : EQueue) : State :=
  { s with dp := { s.dp with queues := Tbl.put (fun _ => EQueue.empty) s.dp.queues q x } }
def State.hq (s : State) (k : Nat) : List Item := Tbl.get (fun _ => []) s.dp.hq k
def State.setHq (s : State) (k : Nat) (x : List Item) : State :=
  { s with dp := { s.dp with hq := Tbl.put (fun _ => []) s.dp.hq k x } }
def State.rx (s : State) (p : Nat) : List Item := Tbl.get (fun _ => []) s.dp.rx p
def State.setRx (s : State) (p : Nat) (x : List Item) : State :=
  { s with dp := { s.dp with rx := Tbl.put (fun _ => []) s.dp.rx p x } }
def State.waitingAt (s : State) (k : Nat) : List Waiting := Tbl.get (fun _ => []) s.dp.waiting k
def State.setWaiting (s : State) (k : Nat) (x : List Waiting) : State :=
  { s with dp := { s.dp with waiting := Tbl.put (fun _ => []) s.dp.waiting k x } }

/-- The pipeline that serves a port; port 1088 and the destinations from 1088 are PL17's (R32, R114). -/
def pipeOf (port : Nat) : Nat := port / 64

/-- The power domain of a port's pipeline. -/
def portDomain (port : Nat) : Nat := pipelineDomain (pipeOf port)

/-- The key of a port's link, or of the pair (plane, peer) of a BP port in packet mode (R321). -/
def State.linkKey (s : State) (port peer : Nat) : Nat :=
  port * 64 + (if 1024 ≤ port ∧ (s.plane (port - 1024)).st = .packet then peer else 0)

/-- The keys listed in a table. -/
def Tbl.keys {α : Type} (t : Tbl α) : List Nat := t.map (·.1)

/-- Doing something for each element of a list, from left to right. -/
def forEach {α : Type} (f : α → State → State) : List α → State → State
  | [], s => s
  | x :: xs, s => forEach f xs (f x s)

/-- What is taken out for each element of a list, from left to right. -/
def takeEach {α : Type} (f : State → α → List Item × State) : List α → State → List Item × State
  | [], s => ([], s)
  | x :: xs, s =>
    let a := f s x
    let b := takeEach f xs a.2
    (a.1 ++ b.1, b.2)

/-- The outcome of a command that answers a state. -/
abbrev ok (s : State) : Host.Outcome State Fault Refusal := .next s

end Sys2Proof.Machine
end

