-- ==== Sys2Proof/Machine/HostOps.lean ====
section
/-!
DEFINITION. Shared operations of the host link (17_host_link_rings.md): writes of host memory in order,
interrupts with moderation, completion records, finished descriptors, packet capture, and host reads.
-/
namespace Sys2Proof.Machine

def State.ring (s : State) (r : Nat) : HostRing := Tbl.get (fun _ => HostRing.init) s.host.rings r
def State.setRing (s : State) (r : Nat) (x : HostRing) : State :=
  { s with host := { s.host with rings := Tbl.put (fun _ => HostRing.init) s.host.rings r x } }

/-! ## Status codes (R374) -/
def stOK : Nat := 0x00
def stCMD_FORMAT : Nat := 0x01
def stRING_OVERFLOW : Nat := 0x02
def stPAGE_FAULT : Nat := 0x03
def stPOISONED : Nat := 0x04
def stMEM_REFUSED : Nat := 0x05
def stFENCE_TIMEOUT : Nat := 0x06
def stJOURNAL_FULL : Nat := 0x07
def stENGINE_FAULT : Nat := 0x08
def stTARGET_DEAD : Nat := 0x09
def stRELEASED : Nat := 0x0D
def stHOST_MEM : Nat := 0x0E
def stPORT_DOWN : Nat := 0x0F
def stABORTED : Nat := 0x10
def stTRUNCATED : Nat := 0x11

/-- The status that a response's RESULT and POISON map to (R374). -/
def statusOfResult (result : Nat) (poison : Bool) : Nat :=
  if result = 0 then (if poison then stPOISONED else stOK) else 0x08 + result

/-! ## Writes to host memory (R360, R366) -/

/-- A write split at the 4 KiB boundaries of host memory (R358). Fuel bounds the number of parts.
(DEDUCED, log entry 120) -/
def splitWrite : Nat → Nat → List Byte → List HostWrite
  | 0, _, _ => []
  | n + 1, a, bs =>
    if bs.length ≤ 4096 - a % 4096 then [.data a bs]
    else .data a (bs.take (4096 - a % 4096)) :: splitWrite n (a + (4096 - a % 4096)) (bs.drop (4096 - a % 4096))

/-- A host write as it goes out. -/
def HostWrite.parts : HostWrite → List HostWrite
  | .data a bs => splitWrite (bs.length / 4096 + 2) a bs
  | .interrupt v => [.interrupt v]

/-- Host memory writes and interrupts go out in order while the link is up, and are owed while it is
down (R361, R366). (DESIGN CHOICE, log entry 182) -/
def State.hostWrites (s : State) (ws : List HostWrite) : State :=
  let ws := ws.flatMap HostWrite.parts
  if s.host.up then { s with out := (ws.map Out.host).reverse ++ s.out }
  else { s with host := { s.host with owed := s.host.owed ++ ws } }

/-- The address of a page or ring from its LO and HI registers (R363, R375). -/
def State.addrOf (s : State) (lo hi : Nat) : Nat := s.fld hi 31 0 * 2 ^ 32 + s.fld lo 31 12 * 4096

def State.statusPage (s : State) : Nat := s.addrOf R.HLK_ST_PAGE_LO R.HLK_ST_PAGE_HI
def State.doorbellPage (s : State) : Nat := s.addrOf R.HLK_DB_PAGE_LO R.HLK_DB_PAGE_HI

/-- The PHASE of the record with a given index on a ring of 2^log2 records (R366). -/
def phaseOf (log2 idx : Nat) : Nat := 1 - idx / 2 ^ log2 % 2

/-- The interrupt that a status-page update brings: at once, deferred, or none (R366). -/
def intNow (cfg : Word) (last : Option Nat) (now : Nat) : Bool :=
  cfg.fld 20 20 == 1 &&
    (cfg.fld 13 0 == 0 || (match last with | none => true | some t => t + cfg.fld 13 0 * 1000 ≤ now))

/-- Whether the update's interrupt is deferred (R366). -/
def intLater (cfg : Word) (last : Option Nat) (now : Nat) : Bool :=
  cfg.fld 20 20 == 1 && !intNow cfg last now

/-- The interrupt symbols of an update. -/
def intWrites (cfg : Word) (last : Option Nat) (now : Nat) : List HostWrite :=
  if intNow cfg last now then [.interrupt (cfg.fld 19 14)] else []

/-- A completion record (R371). `w4`, `w5` are the stamp words and `data` words 6 and 7. -/
def completionWords (opcode status phase : Nat) (user : Word) (idx bytes : Nat) (w4 w5 : Word) (data : Nat) :
    List Word :=
  [(((0 : Word).setFld 31 24 opcode).setFld 15 8 status).setFld 0 0 phase, user,
   BitVec.ofNat 32 idx, BitVec.ofNat 32 bytes, w4, w5, BitVec.ofNat 32 (data / 2 ^ 32), BitVec.ofNat 32 data]

/-- The bytes of a record's words in memory (R6). -/
def recordBytes (ws : List Word) : List Byte := ws.flatMap Word.bytesLE

/-- A completion to be written: its words for a PHASE (R371). -/
abbrev Completion := Nat → List Word

/-- A completion record as a descriptor's end writes it. -/
def completion (opcode status : Nat) (user : Word) (idx bytes : Nat) (w4 w5 : Word) (data : Nat) : Completion :=
  fun phase => completionWords opcode status phase user idx bytes w4 w5 data

/-- The next record of a completion ring taken, with the writes of the record and of its index. -/
def State.addRecord (s : State) (r : Nat) (c : Completion) : State × List HostWrite :=
  let g := s.ring r
  let log2 := (s.rd (R.HLK_CR_CFG r)).fld 25 21
  let base := s.addrOf (R.HLK_CQ_BASE_LO r) (R.HLK_CQ_BASE_HI r)
  (s.setRing r { g with cqPi := (g.cqPi + 1) % 2 ^ 32 },
   [.data (base + g.cqPi % 2 ^ log2 * 32) (recordBytes (c (phaseOf log2 g.cqPi))),
    .data (s.statusPage + 64 + 4 * r) (bytesLEOfNat 4 (g.cqPi + 1))])

/-- Writes that end in an update of a command ring's words on the status page: they go out in order, then the interrupt, at
once or deferred (R366). -/
def State.ringWrites (s : State) (r : Nat) (ws : List HostWrite) : State :=
  let g := s.ring r
  let cfg := s.rd (R.HLK_CR_CFG r)
  let s := s.setRing r { g with lastInt := if intNow cfg g.lastInt s.now then some s.now else g.lastInt,
                                deferred := g.deferred || intLater cfg g.lastInt s.now }
  s.hostWrites (ws ++ intWrites cfg g.lastInt s.now)

/-- A completion that no descriptor's end brings (R365). -/
def State.complete (s : State) (r : Nat) (c : Completion) : State :=
  let x := s.addRecord r c
  x.1.ringWrites r x.2

/-! ## Descriptors (R367) -/

def Desc.opcode (d : Desc) : Nat := (d.words.getD 0 0).fld 31 24
def Desc.post (d : Desc) : Bool := (d.words.getD 0 0).fld 23 23 == 1
def Desc.after (d : Desc) : Bool := (d.words.getD 0 0).fld 22 22 == 1
def Desc.spray (d : Desc) : Nat := (d.words.getD 0 0).fld 21 21
def Desc.tc (d : Desc) : Nat := (d.words.getD 0 0).fld 20 18
def Desc.user (d : Desc) : Word := d.words.getD 1 0
def Desc.haddr (d : Desc) : Nat := (d.words.getD 2 0).toNat * 2 ^ 32 + (d.words.getD 3 0).toNat
def Desc.faddr (d : Desc) : Nat := (d.words.getD 4 0).toNat * 2 ^ 32 + (d.words.getD 5 0).toNat
def Desc.length (d : Desc) : Nat := (d.words.getD 6 0).toNat
def Desc.aop (d : Desc) : Nat := (d.words.getD 7 0).fld 31 28
def Desc.awide (d : Desc) : Nat := (d.words.getD 7 0).fld 27 27
def Desc.portNo (d : Desc) : Nat := (d.words.getD 7 0).fld 10 0
def Desc.operand (d : Desc) : Nat := (d.words.getD 8 0).toNat * 2 ^ 32 + (d.words.getD 9 0).toNat
def Desc.swap (d : Desc) : Nat := (d.words.getD 10 0).toNat * 2 ^ 32 + (d.words.getD 11 0).toNat

/-- The leading run of finished descriptors leaves, and CR_CI advances over it (R370). -/
def dropFinished : List Desc → List Desc
  | [] => []
  | d :: ds => if d.st = .finished then dropFinished ds else d :: ds

/-- A descriptor finished: counted; CR_CI advances, with the write of it; a ring that stops ends when no
started descriptor remains (R365, R370). -/
def State.finishDesc (s : State) (r idx : Nat) : State × List HostWrite :=
  let g := s.ring r
  let ds := g.descs.map (fun d => if d.idx = idx then { d with st := .finished } else d)
  let left := dropFinished ds
  let ci := (g.ci + (ds.length - left.length)) % 2 ^ 32
  let idle := g.stopping && left.all (fun d => d.st != .started)
  let s := s.setRing r { g with descs := if idle then [] else left, ci := ci,
                                st := if idle then .disabled else g.st,
                                stopping := g.stopping && !idle }
  (s.bump C.HLK_DESC_DONE 1, if ci = g.ci then [] else [.data (s.statusPage + 4 * r) (bytesLEOfNat 4 ci)])

/-- A descriptor finished, with a completion if one is due: the record, CR_CI, CQ_PI, the interrupt (R366). -/
def State.closeDesc (s : State) (r idx : Nat) (c : Option Completion) : State :=
  let x := match c with | some c => s.addRecord r c | none => (s, [])
  let y := x.1.finishDesc r idx
  let ws := x.2.take 1 ++ y.2 ++ x.2.drop 1
  if ws.isEmpty then y.1 else y.1.ringWrites r ws

/-- The end of a descriptor: a completion when it failed or asked for one, then finished (R367). -/
def State.endDesc (s : State) (r : Nat) (d : Desc) (status bytes : Nat) (w4 w5 : Word) (data : Nat) : State :=
  s.closeDesc r d.idx (if status ≠ stOK ∨ d.post then some (completion d.opcode status d.user d.idx bytes w4 w5 data) else none)

/-! ## Stamps (R350, R371) -/

/-- Word 5 of a completion: PIPE and PORT. -/
def stampWord (port : Nat) : Word := ((0 : Word).setFld 30 26 (port / 64)).setFld 10 0 port

/-- TB1 of the pipeline that serves a port. -/
def State.stamp (s : State) (port : Nat) : Word := BitVec.ofNat 32 (s.localBase (port / 64))

/-- A TX_PACKET whose packet has left on a port completes with its stamp; one whose packet never left, with
STAMP_INV (R350, R368, R371). PL17's own destinations count as PORT 0x7FF. -/
def State.txDone (s : State) (id : Nat) (port : Option Nat) : State :=
  match s.host.txWait.find? (fun x => x.1 == id) with
  | none => s
  | some (_, r, idx) =>
    let s := { s with host := { s.host with txWait := s.host.txWait.filter (fun x => x.1 != id) } }
    match (s.ring r).descs.find? (fun d => d.idx == idx && d.st == .started) with
    | none => s
    | some d =>
      match port with
      | none => s.endDesc r d stOK d.length 0 ((0 : Word).setFld 31 31 1) 0
      | some p =>
        let w := if p < 1088 then stampWord p else ((0 : Word).setFld 30 26 17).setFld 10 0 0x7FF
        s.endDesc r d stOK d.length (s.stamp (min p 1088)) w 0

/-! ## Capture (R369) -/

/-- Whether HLK.CAPTURE names a packet received on a port. -/
def State.captures (s : State) (port ty : Nat) : Bool :=
  let c := s.rd R.HLK_CAPTURE
  s.on 2 && c.fld 31 31 == 1 && (c.fld 22 22 == 1 || c.fld 10 0 == port) && c.fld 30 23 == ty

/-- A matching packet is copied into the oldest posted buffer, or counted as missed (R369). -/
def State.capture (s : State) (port : Nat) (p : Packet) : State :=
  if s.captures port p.ty then
    match s.host.buffers with
    | [] => s.bump C.HLK_CAP_MISSED 1
    | b :: bs =>
      let bytes := bytesOfWords (p.hdr.take 12) ++ p.payload
      let cut := bytes.take b.len
      let s := { s with host := { s.host with buffers := bs } }
      let s := s.hostWrites [.data b.haddr cut]
      s.closeDesc b.ring b.idx (some (completion 0x02 (if b.len < bytes.length then stTRUNCATED else stOK) b.user b.idx
        cut.length (s.stamp port) (stampWord port) 0))
  else s

/-! ## Host reads (R358, R364) -/

/-- The first tag from one on that no outstanding read has. -/
def freeReadTag (l : List HostRead) : Nat → Nat → Nat
  | 0, t => t
  | n + 1, t => if l.any (fun x => x.tag == t) then freeReadTag l n ((t + 1) % 4096) else t

/-- An HMEM_RD sent with the next free tag (R358, R360). -/
def State.hostRead (s : State) (use : ReadFor) (addr len : Nat) : State :=
  let tag := freeReadTag s.host.reads 4096 s.host.nextTag
  { s with host := { s.host with nextTag := (tag + 1) % 4096,
                                 reads := s.host.reads ++ [⟨tag, use, addr, len⟩] },
           out := .hostRead tag addr len :: s.out }

/-- A cause of a doorbell page read: a read begins, or the pending flag is set while one is in flight;
while the link is down no read is made (R361, R364). -/
def State.pageCause (s : State) : State :=
  if !s.host.up then s
  else if s.host.pageRead then { s with host := { s.host with pagePending := true } }
  else
    let s := { s with host := { s.host with pageRead := true, lastPage := s.now } }
    (s.hostRead .doorbell s.doorbellPage 256).bump C.HLK_PAGE_READS 1

end Sys2Proof.Machine
end

