-- ==== Sys2Proof/Machine/Memory.lean ====
section
/-!
DEFINITION. Switch memory (12_memory_tiers_easel.md, R265 to R269, R273): which range an offset lies in and
whether it is mapped, poisoned lines, reads and writes of bytes (through a combining buffer's lines,
R253, R269), frames, and the load counted in a page's heat.
-/
namespace Sys2Proof.Machine

/-! ## Units -/

/-- The HBM domain of Palette die d (R43). -/
def hbmDomain (d : Nat) : Nat := 13 + d
/-- The Palette domain of die d. -/
def palDomain (d : Nat) : Nat := 9 + d

/-- Whether a Palette die can be reached: its HBM domain is on and its link is up (R35). -/
def State.dieUp (s : State) (d : Nat) : Bool := s.on (hbmDomain d) && s.fld (R.GLB_D2D_STAT (18 + d)) 31 31 == 1

/-- Whether a Palette die serves what has reached it: it is on, or drains (R46). -/
def State.dieWorks (s : State) (d : Nat) : Bool :=
  (s.on (hbmDomain d) || s.domSt (hbmDomain d) == .draining) && !s.islandHeld (56 + 5 * d) && s.fld (R.GLB_D2D_STAT (18 + d)) 31 31 == 1

/-- A stack's state (MEM.STACK_STAT_s): 0 OFF, 1 ONLINE, 2 DRAINING, 3 RETIRED, 4 FAILED. -/
def State.stackSt (s : State) (k : Nat) : Nat := s.fld (R.MEM_STACK_STAT k) 31 29
def State.setStack (s : State) (k st : Nat) : State := s.setF (R.MEM_STACK_STAT k) 31 29 st
/-- The stacks of a die in a state. -/
def State.stacksIn (s : State) (d : Nat) (p : Nat → Bool) : List Nat :=
  ((List.range 8).map (fun i => 8 * d + i)).filter (fun k => p (s.stackSt k))

/-- A CXL port's state (CXL.PORT_STAT_k): 0 DOWN, 1 TRAINING, 2 UP, 3 REMOVING, 4 FAILED. -/
def State.cxlSt (s : State) (k : Nat) : Nat := s.fld (R.CXL_PORT_STAT k) 31 28
def State.setCxlSt (s : State) (k st : Nat) : State := s.setF (R.CXL_PORT_STAT k) 31 28 st
def State.cxlFix (s : State) (k : Nat) : Nat := s.fld (R.CXL_PORT_CTRL k) 12 0
def State.cxlCap (s : State) (k : Nat) : Nat := s.fld (R.CXL_PORT_STAT k) 13 0
/-- A port carries traffic while UP or REMOVING. -/
def State.cxlServes (s : State) (k : Nat) : Bool := s.cxlSt k == 2 || s.cxlSt k == 3

def State.page (s : State) (h : Nat) : Page := Tbl.get (fun _ => Page.init) s.mem.pages h
def State.setPage (s : State) (h : Nat) (p : Page) : State :=
  { s with mem := { s.mem with pages := Tbl.put (fun _ => Page.init) s.mem.pages h p } }
/-- GiB of die d's fixed window that are mapped. -/
def State.fixedGib (s : State) (d : Nat) : Nat := Tbl.get (fun _ => 0) s.mem.fixed d

/-! ## Addresses (R267) -/

/-- The key of a byte: home agent and 46-bit offset. -/
def memKey (home off : Nat) : Nat := home % 4 * 2 ^ 46 + off % 2 ^ 46
/-- The key of a page's first byte, in the handle window of its anchor (R267, R269). -/
def pageKey (h : Nat) : Nat := memKey (h % 4) (2 ^ 45 + h % 2 ^ 28 * 2 ^ 17)

/-- What range a key lies in. -/
inductive Range where
  | fixed (die : Nat)
  | extent (port : Nat) (off : Nat)
  | handle (h : Nat)
  | hole
deriving DecidableEq, Repr

/-- The range of a key (R267). (DESIGN CHOICE, log entry 87) -/
def rangeOf (key : Nat) : Range :=
  let d := key / 2 ^ 46
  let off := key % 2 ^ 46
  if off < 2 ^ 39 then .fixed d
  else if off < 0x100000000000 then .hole
  else if off < 0x180000000000 then .extent (2 * d) (off - 0x100000000000)
  else if off < 0x200000000000 then .extent (2 * d + 1) (off - 0x180000000000)
  else
    let h := (off - 2 ^ 45) / 2 ^ 17
    if h % 4 = d then .handle h else .hole

/-- How an access to a key is served (R252 checks 3 and 4, R267, R272, R274, R284). -/
inductive Serve where
  /-- by a place: HBM of a die, or a CXL port -/
  | place (cxl : Bool) (unit : Nat)
  | unmapped
  /-- the memory it maps to has failed -/
  | dead
deriving DecidableEq, Repr

/-- How a page is served where it is. -/
def State.servePage (s : State) (h : Nat) : Serve :=
  let p := s.page h
  match p.st with
  | .unmapped => .unmapped
  | .lost => .dead
  | _ => .place p.at_.cxl p.at_.unit

/-- How a key is served. -/
def State.serve (s : State) (key : Nat) : Serve :=
  match rangeOf key with
  | .fixed d => if key % 2 ^ 46 < s.fixedGib d * 2 ^ 30 then .place false d else .unmapped
  | .extent k off =>
    if s.cxlFix k * 2 ^ 30 ≤ off then .unmapped
    else if s.cxlServes k then (if off < s.cxlCap k * 2 ^ 30 then .place true k else .unmapped)
    else if (Tbl.get (fun _ => none) s.mem.cxlFailAt k).isSome then .dead else .unmapped
  | .handle h => s.servePage h
  | .hole => .unmapped

/-- Whether the domain of a place is on: otherwise an access waits (R35, R48, R272, R386). -/
def State.placeOn (s : State) (cxl : Bool) (unit : Nat) : Bool :=
  if cxl then (s.on 20 || s.domSt 20 == .draining) && s.fld (R.GLB_D2D_STAT 22) 31 31 == 1 else s.dieWorks unit

/-! ## Poison (R264, R284) -/

/-- Whether the line of a key is poisoned: marked, or in a slice of a FAILED stack. -/
def State.poisoned (s : State) (key : Nat) : Bool :=
  Tbl.get (fun _ => false) s.mem.poison (key / 64) || Tbl.get (fun _ => false) s.mem.badSlices (key / 16384)

/-- Whether any line of a range is poisoned. -/
def State.anyPoison (s : State) (key len : Nat) : Bool :=
  if len = 0 then false
  else (List.range ((key + len - 1) / 64 - key / 64 + 1)).any (fun i => s.poisoned ((key / 64 + i) * 64))

/-! ## Bytes -/

def isExtent (key : Nat) : Bool := 0x100000000000 ≤ key % 2 ^ 46 && key % 2 ^ 46 < 0x200000000000

/-- The CXL port of an extent's key. -/
def extentPort (key : Nat) : Nat := 2 * (key / 2 ^ 46) + (if key % 2 ^ 46 < 0x180000000000 then 0 else 1)

/-- A byte as memory holds it. A poisoned byte and a byte of a fixed CXL extent that nothing has written
since the port's training read as free values (R264, R272). (DEDUCED, log entry 85; DESIGN CHOICE, log entry 86) -/
def State.memByte (s : State) (key : Nat) : Byte :=
  if s.poisoned key then Config.poisonByte key
  else if isExtent key then
    match Tbl.get (fun _ => none) s.mem.cxlBytes key with
    | some b => b
    | none => Config.cxlByte (Tbl.get (fun _ => 0) s.mem.cxlGen (extentPort key)) key
  else Tbl.get (fun _ => 0) s.mem.bytes key

/-- A home agent. -/
def State.home (s : State) (d : Nat) : Home := Tbl.get (fun _ => Home.init) s.homes d
def State.setHome (s : State) (d : Nat) (h : Home) : State :=
  { s with homes := Tbl.put (fun _ => Home.init) s.homes d h }

/-- The filled combining-buffer line of a key. -/
def State.lineOf (s : State) (key : Nat) : Option CLine :=
  (s.home (key / 2 ^ 46)).lines.find? (fun l => l.line == key / 64)

/-- A byte as an access sees it: from the combining buffer where its line is held there (R253, R269). -/
def State.readByte (s : State) (key : Nat) : Byte :=
  match s.lineOf key with
  | some l => match l.data with
    | some bs => bs.getD (key % 64) 0
    | none => s.memByte key
  | none => s.memByte key

/-- Bytes of a range, one by one. -/
def State.readBytes (s : State) (key : Nat) : Nat → List Byte
  | 0 => []
  | n + 1 => s.readByte key :: s.readBytes (key + 1) n

/-- Whether a range reads poisoned: a poisoned line, or a buffered line that was read poisoned. -/
def State.readsPoison (s : State) (key len : Nat) : Bool :=
  s.anyPoison key len ||
    (len != 0 && (s.home (key / 2 ^ 46)).lines.any (fun l => l.poisoned && key / 64 ≤ l.line && l.line ≤ (key + len - 1) / 64))

/-- One byte stored in memory. -/
def Memory.putByte (m : Memory) (key : Nat) (b : Byte) : Memory :=
  if isExtent key then { m with cxlBytes := Tbl.put (fun _ => none) m.cxlBytes key (some b) }
  else { m with bytes := Tbl.put (fun _ => 0) m.bytes key b }

/-- Bytes stored in memory. -/
def Memory.putBytes : Memory → Nat → List Byte → Memory
  | m, _, [] => m
  | m, key, b :: bs => (m.putByte key b).putBytes (key + 1) bs

/-- The lines that a range of bytes covers whole. -/
def wholeLines (key len : Nat) : List Nat :=
  let lo := (key + 63) / 64
  let hi := (key + len) / 64
  (List.range (hi - lo)).map (lo + ·)

/-- The slices that a range covers whole. -/
def wholeSlices (key len : Nat) : List Nat :=
  let lo := (key + 16383) / 16384
  let hi := (key + len) / 16384
  (List.range (hi - lo)).map (lo + ·)

/-- Poison that a write clears: of the lines, and of the slices, it covers whole (R264, R284). -/
def Memory.heal (m : Memory) (key len : Nat) : Memory :=
  { m with poison := (wholeLines key len).foldl (fun t l => Tbl.put (fun _ => false) t l false) m.poison,
           badSlices := (wholeSlices key len).foldl (fun t l => Tbl.put (fun _ => false) t l false) m.badSlices }

/-- The line with a byte of a write in it. -/
def CLine.putByte (l : CLine) (key : Nat) (b : Byte) : CLine :=
  if l.line = key / 64 then { l with data := l.data.map (fun bs => bs.set (key % 64) b) } else l

/-- Filled buffer lines take the bytes of a write to them (R269). -/
def putLines : List CLine → Nat → List Byte → List CLine
  | ls, _, [] => ls
  | ls, key, b :: bs => putLines (ls.map (fun l => l.putByte key b)) (key + 1) bs

/-- A write as every later access sees it: in memory, and in the buffered lines it touches. -/
def State.writeBytes (s : State) (key : Nat) (bs : List Byte) : State :=
  let d := key / 2 ^ 46
  let h := s.home d
  let s := if h.lines.isEmpty then s else s.setHome d { h with lines := putLines h.lines key bs }
  { s with mem := (s.mem.putBytes key bs).heal key bs.length }

/-- Bytes of a range removed: they read as zero again, and are not poisoned (R268, R274). -/
def Memory.clear (m : Memory) (lo hi : Nat) : Memory :=
  { m with bytes := m.bytes.filter (fun kb => kb.1 < lo || hi ≤ kb.1),
           poison := m.poison.filter (fun kb => kb.1 * 64 < lo || hi ≤ kb.1 * 64),
           badSlices := m.badSlices.filter (fun kb => kb.1 * 16384 < lo || hi ≤ kb.1 * 16384) }

/-- A range of one home's space made zero, with no poison and no line of it left in the combining buffer (R268, R274). -/
def State.zeroRange (s : State) (lo hi : Nat) : State :=
  let d := lo / 2 ^ 46
  let h := s.home d
  let s := s.setHome d { h with lines := h.lines.filter (fun l => l.line * 64 < lo || hi ≤ l.line * 64) }
  { s with mem := s.mem.clear lo hi }

/-! ## Frames (R265, R268, R279, R283) -/

/-- Frames of a die, and of its system area. -/
def sysFrames : Nat := 49152

/-- Frames that pages hold, or are moving to, on a die or a port. -/
def framesOf (cxl : Bool) (unit : Nat) (p : Page) : List Nat :=
  let f (x : Place) : List Nat := if x.cxl = cxl ∧ x.unit = unit then [x.frame] else []
  (match p.st with | .hbm | .cxl | .migrating => f p.at_ | _ => [])
    ++ (match p.dst with | some x => f x | none => [])

/-- Frames of a unit taken by pages. -/
def State.takenFrames (s : State) (cxl : Bool) (unit : Nat) : List Nat :=
  s.mem.pages.flatMap (fun kp => framesOf cxl unit kp.2)

/-- Spill blocks written to a place: die d, or CXL port k as 4 + k. -/
def blocksAt (place : Nat) (q : EQueue) : Nat :=
  (q.spill.filter (fun b => b.die == place && (match b.st with | .filling _ => false | _ => true))).length

/-- Frames of 128 KiB that spill blocks of 16 KiB take at a place. -/
def State.spillFramesAt (s : State) (place : Nat) : Nat :=
  ((s.dp.queues.map (fun kq => blocksAt place kq.2)).sum + 7) / 8

/-- Frames that a die can hold: its RETIRED stacks gone (R283). -/
def State.dieFrames (s : State) (d : Nat) : Nat := 524288 * (8 - (s.stacksIn d (· == 3)).length)

/-- Frames in use on a die: the system area, the fixed window, pages, spill blocks and Canvas overflow. -/
def State.usedFrames (s : State) (d : Nat) : Nat :=
  sysFrames + 8192 * s.fixedGib d + (s.takenFrames false d).length + s.spillFramesAt d
    + (s.canvas.ovf.get d + 131071) / 131072

/-- Free frames of a die (MEM.DIE_FREE_d); none while its HBM domain is off. -/
def State.freeFrames (s : State) (d : Nat) : Nat :=
  if s.dieUp d then s.dieFrames d - s.usedFrames d else 0

/-- Frames of a CXL port's pool that are free (R271). -/
def State.cxlFree (s : State) (k : Nat) : Nat :=
  if s.cxlSt k = 2 then
    8192 * (s.cxlCap k - s.cxlFix k) - (s.takenFrames true k).length - s.spillFramesAt (4 + k)
  else 0

/-- The lowest frame from `f` on that a list does not hold. (DEDUCED, log entry 88) -/
def lowestFree (taken : List Nat) : Nat → Nat → Nat
  | 0, f => f
  | n + 1, f => if taken.contains f then lowestFree taken n (f + 1) else f

/-- The lowest-numbered free frame of a die or a port (R275). -/
def State.lowestFrame (s : State) (cxl : Bool) (unit : Nat) : Nat :=
  let t := s.takenFrames cxl unit
  lowestFree t (t.length + 1) (if cxl then 0 else sysFrames)

/-- FREE_LOW in frames. -/
def State.freeLow (s : State) : Nat := 8192 * s.fld R.MEM_EASEL_SPACE 15 0

/-- The class of a level in effect (R279): 0-3 dies, 4 the buffer, 5 CXL. -/
def State.classAt (s : State) (i : Nat) : LoadClass := Tbl.get (fun _ => .normal) s.mem.class_ i

/-- A die that Easel may place on (R275). -/
def State.placeable (s : State) (d : Nat) : Bool :=
  s.dieUp d && (s.stacksIn d (· == 2)).isEmpty

/-- The unit of a list with the most of something; the first among equals. -/
def mostOf (f : Nat → Nat) : List Nat → Option Nat
  | [] => none
  | x :: xs =>
    match mostOf f xs with
    | none => some x
    | some y => if f y ≤ f x then some x else some y

/-- The dies in a class in effect or not. -/
def State.unsaturated (s : State) : List Nat := (List.range 4).filter (fun d => s.classAt d != .saturated)

/-- The CXL port with the most free frames, if any has one. -/
def State.bestPort (s : State) : Option Nat :=
  mostOf s.cxlFree ((List.range 8).filter (fun k => s.cxlFree k != 0))

/-! ## Heat (R276) -/

/-- `n` added to a page's heat, and reads counted by the die whose engine made them; `die` none for an
access that is no Palette read. -/
def State.heatPage (s : State) (h n : Nat) (die : Option Nat) (read : Bool) : State :=
  let p := s.page h
  if p.st = .unmapped ∨ p.st = .lost then s
  else
    let p := { p with heat := min 255 (p.heat + n) }
    let p := if !read then p else
      match die with
      | some d => { p with reads := p.reads.set d (p.reads.get d + 1) }
      | none => { p with otherReads := p.otherReads + 1 }
    s.setPage h p

/-! ## CXL counters (R286) -/

/-- Bytes read from or written to a CXL port counted. -/
def State.cxlBytesCount (s : State) (serve : Serve) (write : Bool) (n : Nat) (poison : Bool) : State :=
  match serve with
  | .place true k =>
    let s := s.bump (if write then C.CXL_WR_BYTES k else C.CXL_RD_BYTES k) n
    if poison then s.bump (C.CXL_POISON k) 1 else s
  | _ => s

/-- EV_PLACEMENT, at most once per second for each cause (R268, R280, R283). -/
def State.placement (s : State) (cause : Nat) (die : Option Nat) : State :=
  let k := cause * 8 + (match die with | some d => d + 1 | none => 0)
  match Tbl.get (fun _ => none) s.mem.placedAt k with
  | some t => if s.now < t + 1000000000 then s else
      ({ s with mem := { s.mem with placedAt := Tbl.put (fun _ => none) s.mem.placedAt k (some s.now) } } : State).raise
        { code := 0x0504, sev := 1, kind := if die.isSome then 0x12 else 0x0F, index := die.getD 0, arg0 := cause }
  | none =>
      ({ s with mem := { s.mem with placedAt := Tbl.put (fun _ => none) s.mem.placedAt k (some s.now) } } : State).raise
        { code := 0x0504, sev := 1, kind := if die.isSome then 0x12 else 0x0F, index := die.getD 0, arg0 := cause }

end Sys2Proof.Machine
end

