-- ==== Sys2Proof/Machine/Buffer.lean ====
section
/-!
DEFINITION. The shared buffer (05_shared_buffer_congestion.md): cells and reservations, where an item's
cells are charged and freed, credits returned to partners, admission, deep-buffer spill, the no-path
hold, congestion marks and drop reasons.
-/
namespace Sys2Proof.Machine

/-- The packet of an item. -/
def Item.pkt (it : Item) : Packet :=
  match it.body with
  | .ffp p => p
  | .eth _ => ⟨[], [], 0⟩

/-- The key of a port and a VC. -/
def pvKey (port vc : Nat) : Nat := port * 4 + vc

/-! ## Totals (R107, R112) -/

/-- Cells of the halves that are on (R107). -/
def State.cellTotal (s : State) : Nat := 786432 * (bit01 (s.on 6) + bit01 (s.on 7))

/-- A field of BUF.IN_RSV by VC, where 0 to 17 act as 18 (R110, R128). -/
def State.inRsvOf (s : State) (vc : Nat) : Nat := max 18 (s.fld R.BUF_IN_RSV (8 * vc + 7) (8 * vc))

/-- The reservations that a port takes at its training (R110, R128). -/
def State.grantNow (s : State) : Four := ⟨s.inRsvOf 0, s.inRsvOf 1, s.inRsvOf 2, s.inRsvOf 3⟩

/-- Cells charged to the ingress reservation of a port and VC (R111). -/
def State.inCharged (s : State) (port vc : Nat) : Nat := Tbl.get (fun _ => 0) s.dp.inRsv (pvKey port vc)

/-- What a port's reservation leaves to its partner at training: cells that earlier packets still hold return as they are
freed (R110). -/
def State.grantAt (s : State) (port : Nat) (rsv : Four) : Four :=
  ⟨rsv.req - s.inCharged port 0, rsv.rsp - s.inCharged port 1, rsv.coll - s.inCharged port 2, rsv.bulk - s.inCharged port 3⟩

/-- BUF.PL17_RSV, where 0 to 71 act as 72. -/
def State.pl17Rsv (s : State) : Nat := max 72 (s.fld R.BUF_PL17_RSV 16 0)

/-- PL17's ingress reservation has room for `n` cells of a VC: it is split equally among the four VCs (R112). -/
def State.pl17Room (s : State) (vc n : Nat) : Bool := s.inCharged 1088 vc + n ≤ s.pl17Rsv / 4

/-- The cells of NOPATH_MAX. -/
def State.nopathMax (s : State) : Nat := 16 * s.fld R.BUF_NOPATH_CTRL 31 16

/-- EQ_MIN of a TC. -/
def State.eqMin (s : State) (t : Nat) : Nat := s.fld (R.BUF_TC_CFG t) 27 16

/-- The sum of EQ_MIN over the first `n` TCs. -/
def State.eqMinSum (s : State) : Nat → Nat
  | 0 => 0
  | n + 1 => s.eqMinSum n + s.eqMin n

/-- The total of reservations that R112 bounds by 393,216. -/
def State.reservedTotal (s : State) : Nat :=
  1088 * (s.inRsvOf 0 + s.inRsvOf 1 + s.inRsvOf 2 + s.inRsvOf 3) + s.pl17Rsv + 1094 * s.eqMinSum 8
    + s.nopathMax

/-- F of R115: free cells of the shared pool. (DEDUCED, log entry 41) -/
def State.freeShared (s : State) : Nat :=
  s.cellTotal - s.reservedTotal - s.dp.sharedUsed - s.dp.staging - s.dp.moveCells - s.dp.holdCells

/-! ## Queues -/

/-- The key of the egress queue of a port and a TC (R114). -/
def qKey (egress tc : Nat) : Nat := egress * 8 + tc

/-- A queue's on-die charge. -/
def EQueue.charge (q : EQueue) : Nat := q.guar + q.shared

/-- A queue's occupancy: on-die charge and spilled cells (R124). -/
def EQueue.occupancy (q : EQueue) : Nat := q.guar + q.shared + q.spilled

/-- The queue with its high-water mark raised to its occupancy (R410). -/
def EQueue.mark (q : EQueue) : EQueue := { q with hwm := max q.hwm q.occupancy }

/-- Cells of items. -/
def cellsIn (l : List Item) : Nat := (l.map (·.n)).sum

/-- Adding to a number at a key. -/
def addAt (t : Tbl Nat) (k n : Nat) : Tbl Nat := Tbl.upd (fun _ => 0) t k (· + n)
/-- Taking from a number at a key. -/
def subAt (t : Tbl Nat) (k n : Nat) : Tbl Nat := Tbl.upd (fun _ => 0) t k (· - n)

/-! ## Credits returned to the partner (R110, R111) -/

/-- Each freed or admitted cell of an external port's ingress reservation returns one credit; on a BP
plane in PACKET it returns to the pool instead (R322). -/
def State.returnCredits (s : State) (port vc n : Nat) : State :=
  if port < 1024 ∨ (port < 1088 ∧ (s.plane (port - 1024)).st ≠ .packet) then
    let k := s.linkKey port 0
    let l := s.link k
    s.setLink k { l with retCells := l.retCells.set vc (l.retCells.get vc + n) }
  else s

/-! ## Banks (R107 to R109) -/

/-- The banks of the halves that are on (R107). -/
def banksOn (a b : Bool) : List Nat := (if a then List.range 512 else []) ++ (if b then (List.range 512).map (512 + ·) else [])

/-- The least occupied of a list of banks, by a draw among equals (R108). (DESIGN CHOICE, log entry 158) -/
def leastBank (banks : Tbl Nat) (l : List Nat) (draw : Nat) : Nat :=
  let occ (b : Nat) : Nat := Tbl.get (fun _ => 0) banks b
  let low := (l.map occ).foldl min (occ (l.headD 0))
  let least := l.filter (fun b => occ b == low)
  least.getD (draw % max 1 least.length) 0

/-- Banks for `n` cells of a packet: each the least occupied one, no two consecutive cells in one bank (R108). -/
def placeCells (on : List Nat) (id prev : Nat) : Nat → Tbl Nat → List Nat
  | 0, _ => []
  | n + 1, banks =>
    let b := leastBank banks (on.filter (· != prev)) (Config.bankTie id n)
    b :: placeCells on id b n (addAt banks b 1)

/-- The cells of a packet leave their banks. -/
def Datapath.releaseCells (d : Datapath) (id : Nat) : Datapath :=
  match d.cellBanks.find? (fun x => x.1 == id) with
  | none => d
  | some x => { d with banks := x.2.foldl (fun t b => subAt t b 1) d.banks,
                       cellBanks := d.cellBanks.filter (fun y => y.1 != id) }

/-- The `n` cells of a packet written into banks of the halves that are on (R107, R108). -/
def State.writeN (s : State) (id n : Nat) : State :=
  let d := s.dp.releaseCells id
  let l := if s.on 6 || s.on 7 then placeCells (banksOn (s.on 6) (s.on 7)) id 1024 n d.banks else []
  { s with dp := { d with banks := l.foldl (fun t b => addAt t b 1) d.banks, cellBanks := d.cellBanks ++ [(id, l)] } }

/-- The cells of an item written into banks. (DEDUCED, log entry 43) -/
def State.writeCells (s : State) (it : Item) : State := s.writeN it.id it.n

/-- Cells written anew for a packet that has none in the buffer. -/
def State.keepCells (s : State) (it : Item) : State :=
  if s.dp.cellBanks.any (fun x => x.1 == it.id) then s else s.writeCells it

/-- A packet has a cell in a half of the buffer: 6 half A, 7 half B (R107). -/
def State.inHalf (s : State) (half id : Nat) : Bool :=
  s.dp.cellBanks.any (fun x => x.1 == id && x.2.any (fun b => b / 512 + 6 == half))

/-- Cell writes that wait in a pipeline's write queue (R109). -/
def State.bankWaiting (s : State) (pl : Nat) : List BankWrite := Tbl.get (fun _ => []) s.dp.bankQ pl
def State.setBankQ (s : State) (pl : Nat) (l : List BankWrite) : State :=
  { s with dp := { s.dp with bankQ := Tbl.put (fun _ => []) s.dp.bankQ pl l } }

/-- The cells of an item wait in its pipeline's write queue (R109). -/
def State.unwritten (s : State) (port id : Nat) : Bool := (s.bankWaiting (port / 64)).any (fun w => w.id == id)

/-- An item whose cells are not written yet leaves its ingress reservation: its credits are owed until they are (R111). -/
def State.oweCredits (s : State) (port id : Nat) : State :=
  s.setBankQ (port / 64) ((s.bankWaiting (port / 64)).map (fun w => if w.id = id then { w with owed := true } else w))

/-- A write leaves the write queue; credits that were owed for it return (R109, R111). -/
def State.bankLeave (s : State) (port id : Nat) : State :=
  match (s.bankWaiting (port / 64)).find? (fun w => w.id == id) with
  | none => s
  | some w =>
    let s := s.setBankQ (port / 64) ((s.bankWaiting (port / 64)).filter (fun x => x.id != id))
    if w.owed then
      ({ s with dp := { s.dp with inRsv := subAt s.dp.inRsv (pvKey w.port w.vc) w.n } } : State).returnCredits w.port w.vc w.n
    else s

/-! ## Charges -/

/-- The replication unit's record of a multicast packet with one replica less; cells charged to the
shared pool are freed with the last (R153). -/
def Datapath.replicaDone (d : Datapath) (id : Nat) : Datapath :=
  match d.mcLive.find? (fun m => m.id == id) with
  | none => d
  | some m =>
    if m.left ≤ 1 ∧ m.charged then
      let d := d.releaseCells id
      { d with mcLive := d.mcLive.filter (fun x => x.id != id), badTails := d.badTails.filter (· != id),
               sharedUsed := d.sharedUsed - m.n,
               inShared := subAt d.inShared (pvKey m.port m.vc) m.n }
    else
      { d with mcLive := d.mcLive.map (fun x => if x.id = id then { x with left := x.left - 1 } else x) }

/-- A multicast packet with no replica left, whose cells were never charged to the pool, frees them at
once (R153). -/
def State.mcSettle (s : State) (id : Nat) : State :=
  match s.dp.mcLive.find? (fun m => m.id == id && m.left == 0) with
  | none => s
  | some m =>
    let s := { s with dp := { s.dp.releaseCells id with mcLive := s.dp.mcLive.filter (fun x => x.id != id),
                                                        badTails := s.dp.badTails.filter (· != id) } }
    if m.charged then s
    else if s.unwritten m.port id then s.oweCredits m.port id
    else ({ s with dp := { s.dp with inRsv := subAt s.dp.inRsv (pvKey m.port m.vc) m.n } } : State).returnCredits
      m.port m.vc m.n

/-- The datapath after an item's cells are freed; `q` is the queue they are charged to, where they are. -/
def Datapath.freed (d : Datapath) (q : Nat) (it : Item) : Datapath :=
  let upd (f : EQueue → EQueue) : Tbl EQueue := Tbl.upd (fun _ => EQueue.empty) d.queues q f
  match it.charge with
  | .none => d
  | .reserved => { d with inRsv := subAt d.inRsv (pvKey it.port it.vc) it.n }
  | .guaranteed => { d with queues := upd (fun x => { x with guar := x.guar - it.n }) }
  | .shared =>
    { d with queues := upd (fun x => { x with shared := x.shared - it.n }),
             sharedUsed := d.sharedUsed - it.n,
             inShared := subAt d.inShared (pvKey it.port it.vc) it.n }
  | .staging =>
    { d with queues := upd (fun x => { x with spilled := x.spilled - it.n }),
             staging := d.staging - it.n }
  | .hbm => { d with queues := upd (fun x => { x with spilled := x.spilled - it.n }) }
  | .hold => { d with holdCells := d.holdCells - it.n }
  | .move => { d with moveCells := d.moveCells - it.n }
  | .replica =>
    let d' := { d with queues := upd (fun x => { x with shared := x.shared - it.n }) }
    match it.mcast with
    | some id => d'.replicaDone id
    | none => d'

/-- An item's cells freed; cells of the ingress reservation return their credits, those not yet written as they are
written (R111). -/
def State.freeItem (s : State) (q : Nat) (it : Item) : State :=
  if it.charge = .reserved ∧ s.unwritten it.port it.id then s.oweCredits it.port it.id
  else
    let s' := { s with dp := s.dp.freed q it }
    if it.charge = .reserved then s'.returnCredits it.port it.vc it.n else s'

/-! ## A frame's cells beyond its length (R117) -/

/-- Items with those of id `id` cut to `n` cells. -/
def cutIn (id n : Nat) (l : List Item) : List Item := l.map (fun it => if it.id = id then { it with n := n } else it)

/-- A queue with the items of id `id` cut to `n` cells. -/
def EQueue.cut (id n : Nat) (q : EQueue) : EQueue :=
  { q with head := cutIn id n q.head, spill := q.spill.map (fun b => { b with items := cutIn id n b.items }),
           tail := cutIn id n q.tail }

/-- The items of id `id` that hold cells, each with its queue. -/
def Datapath.copies (d : Datapath) (id : Nat) : List (Nat × Item) :=
  let mine (k : Nat) (l : List Item) : List (Nat × Item) := (l.filter (fun it => it.id == id)).map (fun it => (k, it))
  d.rx.flatMap (fun x => mine 0 x.2) ++ d.hq.flatMap (fun x => mine 0 x.2)
    ++ d.waiting.flatMap (fun x => mine 0 (x.2.map (·.item)))
    ++ d.queues.flatMap (fun x => mine x.1 (x.2.head ++ x.2.spill.flatMap (·.items) ++ x.2.tail))
    ++ mine 0 d.hold ++ mine 0 (d.mcIn.map (·.item))

/-- Cells beyond `n` of id `id` freed where they are charged: with each item, for a flooded frame, and for one whose writes
wait for a bank. -/
def Datapath.freeBeyond (d : Datapath) (id n : Nat) : Datapath :=
  let d := (d.copies id).foldl (fun (d : Datapath) x => d.freed x.1 { x.2 with n := x.2.n - n, mcast := none }) d
  let d := match d.mcLive.find? (fun m => m.id == id) with
    | none => d
    | some m =>
      if m.charged then { d with sharedUsed := d.sharedUsed - (m.n - n), inShared := subAt d.inShared (pvKey m.port m.vc) (m.n - n) }
      else { d with inRsv := subAt d.inRsv (pvKey m.port m.vc) (m.n - n) }
  match (d.bankQ.flatMap (·.2)).find? (fun w => w.id == id && w.owed) with
  | none => d
  | some w => { d with inRsv := subAt d.inRsv (pvKey w.port w.vc) (w.n - n) }

/-- The banks of id `id`'s cells beyond `n` freed. -/
def Datapath.freeBanks (d : Datapath) (id n : Nat) : Datapath :=
  match d.cellBanks.find? (fun x => x.1 == id) with
  | none => d
  | some x => { d with banks := (x.2.drop n).foldl (fun t b => subAt t b 1) d.banks,
                       cellBanks := d.cellBanks.map (fun y => if y.1 = id then (y.1, y.2.take n) else y) }

/-- A frame, admitted with 36 cells, keeps `n` of them as its tail is written; the others are free (R117). -/
def Datapath.trim (d : Datapath) (id n : Nat) : Datapath :=
  let d := (d.freeBeyond id n).freeBanks id n
  { d with
    rx := Tbl.remap (fun _ => []) (cutIn id n) d.rx, hq := Tbl.remap (fun _ => []) (cutIn id n) d.hq,
    waiting := Tbl.remap (fun _ => []) (·.map (fun w => if w.item.id = id then { w with item := { w.item with n := n } } else w)) d.waiting,
    queues := Tbl.remap (fun _ => EQueue.empty) (EQueue.cut id n) d.queues, hold := cutIn id n d.hold,
    mcIn := d.mcIn.map (fun m => if m.item.id = id then { m with item := { m.item with n := n } } else m),
    mcLive := d.mcLive.map (fun m => if m.id = id then { m with n := n } else m),
    mcWait := d.mcWait.map (fun w => if w.item.id = id then { w with item := { w.item with n := n } } else w),
    bankQ := Tbl.remap (fun _ => []) (·.map (fun w => if w.id = id then { w with n := n } else w)) d.bankQ }

/-! ## Drops (R126) -/

/-- The reasons of R126. -/
def drHcrc : Nat := 0x01
def drVersion : Nat := 0x02
def drMalformed : Nat := 0x03
def drOversize : Nat := 0x04
def drUnassigned : Nat := 0x05
def drHop : Nat := 0x06
def drUnroutable : Nat := 0x07
def drOverride : Nat := 0x08
def drStaleJob : Nat := 0x09
def drPayload : Nat := 0x0A
def drNoPath : Nat := 0x0B
def drAdmission : Nat := 0x0C
def drAge : Nat := 0x0D
def drWithdrawal : Nat := 0x0E
def drIsolation : Nat := 0x0F
def drSpillError : Nat := 0x10
def drOverrun : Nat := 0x11
def drEmptyMask : Nat := 0x12
def drPolicer : Nat := 0x13
def drEthFilter : Nat := 0x14
def drSpillLimit : Nat := 0x15
def drOutOfService : Nat := 0x16

/-- A drop counted once for the module and once at the ingress port (R126, R409). -/
def countDropTbl (t : Tbl Nat) (port reason : Nat) : Tbl Nat :=
  let t := bumpTbl t (C.BUF_DROP (reason - 1)) 1
  if port < 1088 then bumpTbl t (C.TEL_PORT_DROP port (reason - 1)) 1 else t

def State.countDrop (s : State) (port reason : Nat) : State :=
  { s with cnt := countDropTbl s.cnt port reason }

/-- A tail that is still to pass of an item that is gone: a packet's is no longer awaited, a frame's may still be learned
from (R126, R335). -/
def dropTail (id : Nat) (l : List TailWait) : List TailWait :=
  (l.filter (fun t => t.id != id || t.frame.isSome)).map (fun t => if t.id = id then { t with ok := true } else t)

/-- A dropped item: counted once, under its first reason (a packet whose tail failed its check was counted then); its
cells freed, its tail no longer awaited (R126). -/
def State.dropItem (s : State) (reason q : Nat) (it : Item) : State :=
  let s := (s.bankLeave it.port it.id).freeItem q it
  let s := if s.dp.badTails.contains it.id then s else s.countDrop it.port reason
  let s := s.txDone it.id none
  { s with dp := { s.dp.releaseCells it.id with tails := dropTail it.id s.dp.tails,
                                                badTails := s.dp.badTails.filter (· != it.id) } }

/-- Dropping each of a list of items held under one queue's charge. -/
def State.dropAll (s : State) (reason q : Nat) (l : List Item) : State :=
  forEach (fun it s => s.dropItem reason q it) l s

/-! ## Admission (R115, R120) -/

/-- An exponent field of four bits, values below -6 acting as -6 and above 3 as 3 (R128). -/
def alphaOf (f : Nat) : Int := max (-6) (min 3 (signedOf 4 f))

/-- Whether a charge stays within 2^a × F. -/
def withinShare (charge : Nat) (a : Int) (f : Nat) : Bool :=
  if 0 ≤ a then charge ≤ 2 ^ a.toNat * f else charge * 2 ^ (-a).toNat ≤ f

/-- Blocks that hold spill frames. -/
def spillBlocksOf (q : EQueue) : Nat :=
  (q.spill.filter (fun b => match b.st with | .filling _ => false | _ => true)).length

/-- Blocks that a queue holds in HBM (R127). -/
def hbmBlocksOf (q : EQueue) : Nat := (q.spill.filter (fun b => b.st == .inHbm || b.st == .reading)).length

/-- Spill blocks in use in the whole module. -/
def State.spillBlocks (s : State) : Nat := (s.dp.queues.map (fun kq => spillBlocksOf kq.2)).sum

/-- Whether some die has a free frame (R279). -/
def State.anyFreeFrame (s : State) : Bool :=
  (List.range 4).any (fun d => s.freeFrames d != 0)
    || (s.fld R.MEM_EASEL_CTRL 30 30 == 1 && s.unsaturated.isEmpty && s.bestPort.isSome)

/-- Where the next spill block goes (R279): in rotation over the dies that are not saturated and have a
free frame; with every die saturated, to the CXL pool when SPILL_CXL is 1, else over the dies.
(DESIGN CHOICE, log entry 42) -/
def State.spillPlace (s : State) : Nat :=
  let turn := (List.range 4).map (fun i => (s.mem.spillTurn + 1 + i) % 4)
  match turn.find? (fun d => s.freeFrames d != 0 && s.classAt d != .saturated) with
  | some d => d
  | none =>
    match (if s.fld R.MEM_EASEL_CTRL 30 30 = 1 ∧ s.unsaturated.isEmpty then s.bestPort else none) with
    | some k => 4 + k
    | none => (turn.find? (fun d => s.freeFrames d != 0)).getD 0

/-- The Easel spill region has a free block: the amount in use is below SPILL_MAX_GIB and a free frame
exists (R120, R279). -/
def State.spillRegionFree (s : State) : Bool :=
  s.spillBlocks * 16384 < s.fld R.MEM_EASEL_SPACE 31 16 * 2 ^ 30 && s.anyFreeFrame

/-- The deep-buffer controller moves blocks: it is on and not isolated, and Easel grants it bandwidth (R120). -/
def State.spillRuns (s : State) : Bool := s.on 20 && !s.islandHeld 111 && s.fld R.MEM_SPILL_GRANT 15 0 != 0

/-- Spill is available to a queue (R120). -/
def State.spillAvail (s : State) (q : EQueue) : Bool :=
  let qmax := s.fld R.BUF_SPILL_CTRL 31 16
  s.spillRuns && s.spillRegionFree && (qmax == 0 || q.spilled * 256 < qmax * 2 ^ 20)

/-- The state of an egress queue (R119). -/
inductive SpillState where
  | onDie | spilling | stalled
deriving DecidableEq, Repr

/-- A queue is on-die while its spilled segment is empty; otherwise it is spilling while spill is
available to it, and stalled while it is not (R119). -/
def State.spillState (s : State) (q : EQueue) : SpillState :=
  if q.spill.isEmpty then .onDie else if s.spillAvail q then .spilling else .stalled

/-- What the rules of R115 decide. -/
inductive Admit where
  | append | guaranteed | shared | spill | wait | drop
deriving DecidableEq, Repr

/-- The N that admission tests: an Ethernet frame is admitted with N = 36, and the cells beyond its length
return at its tail (R117). -/
def Item.ask (it : Item) : Nat :=
  match it.body with
  | .ffp _ => it.n
  | .eth _ => if it.charge = .reserved then 36 else it.n

/-- Whether an item is an Ethernet frame, for which rule 5 acts as rule 6 (R329). -/
def Item.isEth (it : Item) : Bool := match it.body with | .ffp _ => false | .eth _ => true

/-- The admission decision of R115 for an item into a queue. `ingressTest`: rule 3 tests the ingress
share (a later replica skips it, R153). `replica`: rule 4 does not spill a replica (R153). -/
def State.admitRule (s : State) (it : Item) (egress : Nat) (ingressTest replica : Bool) : Admit :=
  let q := s.queue (qKey egress it.tc)
  let f := s.freeShared
  let cfg := R.BUF_TC_CFG it.tc
  let spillOn := s.fld R.BUF_SPILL_CTRL 15 0
  let st := s.spillState q
  if st = .spilling ∧ it.vc ≠ vcRSP then .append
  else if q.charge + it.ask ≤ s.eqMin it.tc then .guaranteed
  else if (!ingressTest || withinShare (Tbl.get (fun _ => 0) s.dp.inShared (pvKey it.port it.vc) + it.ask)
        (alphaOf (s.fld R.BUF_IN_ALPHA 3 0)) f)
      && withinShare (q.shared + it.ask) (alphaOf (s.fld cfg 3 0)) f then .shared
  else if !replica && s.fld cfg 5 5 == 1 && it.vc != vcRSP && st == .onDie
      && spillOn != 0 && spillOn * 64 ≤ q.charge && s.spillAvail q then .spill
  else if s.fld cfg 4 4 = 0 ∧ it.isEth = false then .wait
  else .drop

/-- A spilled segment with an item at its tail: in the last block while it fills and has room for whole
packets of at most 64 cells, else in a new block (R119, R121). -/
def appendSpill (now : Nat) (it : Item) : List SpillBlock → List SpillBlock
  | [] => [⟨.filling now, [it], 0⟩]
  | [b] =>
    match b.st with
    | .filling t =>
      if cellsIn b.items + it.n ≤ 64 then [⟨.filling t, b.items ++ [it], 0⟩] else [b, ⟨.filling now, [it], 0⟩]
    | _ => [b, ⟨.filling now, [it], 0⟩]
  | b :: bs => b :: appendSpill now it bs

/-- The queue with an item on-die: at the head list, or at the on-die tail behind a spilled segment,
which no VC_RSP packet waits for (R119, R121). -/
def EQueue.pushOnDie (q : EQueue) (it : Item) : EQueue :=
  let it := { it with cut := (q.spill.isEmpty || it.vc == vcRSP) && !q.head.any (fun x => x.vc == it.vc) }
  if q.spill.isEmpty ∨ it.vc = vcRSP then { q with head := q.head ++ [it] }
  else { q with tail := q.tail ++ [it] }

/-- The datapath with an item charged to the queue's guaranteed cells and queued (rule 2). -/
def Datapath.admitGuaranteed (d : Datapath) (k : Nat) (it : Item) : Datapath :=
  let f (q : EQueue) : EQueue := ({ q with guar := q.guar + it.n }.pushOnDie { it with charge := .guaranteed }).mark
  { d with queues := Tbl.upd (fun _ => EQueue.empty) d.queues k f }

/-- The datapath with an item charged to the shared pool and queued (rule 3). -/
def Datapath.admitShared (d : Datapath) (k : Nat) (it : Item) : Datapath :=
  let f (q : EQueue) : EQueue := ({ q with shared := q.shared + it.n }.pushOnDie { it with charge := .shared }).mark
  { d with queues := Tbl.upd (fun _ => EQueue.empty) d.queues k f,
           sharedUsed := d.sharedUsed + it.n, inShared := addAt d.inShared (pvKey it.port it.vc) it.n }

/-- The datapath with an item written to spill staging, at the tail of the queue's spilled segment
(rules 1 and 4, R121). -/
def Datapath.pushSpill (d : Datapath) (now k : Nat) (it : Item) : Datapath :=
  let f (q : EQueue) : EQueue :=
    ({ q with spill := appendSpill now { it with charge := .staging } q.spill,
              spilled := q.spilled + it.n } : EQueue).mark
  { d with queues := Tbl.upd (fun _ => EQueue.empty) d.queues k f, staging := d.staging + it.n }

/-- The on-die tail of a queue that spills again goes to the spilled segment first, so that order is
kept (R119, R121). -/
def Datapath.tailToSpill (now k : Nat) : List Item → Datapath → Datapath
  | [], d => d
  | it :: l, d => Datapath.tailToSpill now k l ((d.freed k it).pushSpill now k it)

/-- The datapath with an item at the tail of the spilled segment, behind every older item: the on-die tail of a queue that
was stalled goes to the spilled segment as the first packet is spilled again. (DESIGN CHOICE, log entry 159) -/
def Datapath.admitSpill (d : Datapath) (now k : Nat) (it : Item) : Datapath :=
  let q := Tbl.get (fun _ => EQueue.empty) d.queues k
  let d := { d with queues := Tbl.put (fun _ => EQueue.empty) d.queues k { q with tail := [] } }
  (Datapath.tailToSpill now k q.tail d).pushSpill now k it

/-- The item's cells leave the charge they had before admission: an ingress reservation (with its
credits), the hold or the move queue (R111, R123). -/
def State.leaveCharge (s : State) (it : Item) : State := s.freeItem 0 it

/-- Placing an item that a rule admitted. -/
def State.place (s : State) (r : Admit) (egress : Nat) (it : Item) : State :=
  let k := qKey egress it.tc
  let s := s.leaveCharge it
  match r with
  | .guaranteed => { s with dp := s.dp.admitGuaranteed k it }
  | .shared => { s with dp := s.dp.admitShared k it }
  | _ => { s with dp := s.dp.admitSpill s.now k it }

/-- Ids of the packets that no longer lie between ingress and an egress queue leave the path marks'
waits (R93). -/
def clearMarkWaits (id : Nat) (l : List MarkWait) : List MarkWait :=
  l.map (fun m => { m with behind := m.behind.filter (· != id) })

/-- The state in which an item has entered its queue or left the module, for the path marks and the
re-tune fence behind it (R93, R299). -/
def State.entered (s : State) (id : Nat) : State :=
  { s with dp := { s.dp with markWaits := clearMarkWaits id s.dp.markWaits },
           prism := { s.prism with behind := s.prism.behind.filter (· != id) } }

/-- A replica of a multicast packet is done with, or waits no more: the packet's cells are freed with its last one, and it
has entered its queues once none waits (R93, R153, R299). -/
def State.mcDone (s : State) (id : Nat) : State :=
  let s := s.mcSettle id
  if s.dp.mcWait.any (fun w => w.item.id == id) then s else s.entered id

/-- Offering an item to its queue once (R115): admitted, left waiting with `none`, or dropped. -/
def State.offer (s : State) (it : Item) (egress : Nat) : Option State :=
  match s.admitRule it egress true false with
  | .append => some ((s.place .spill egress it).entered it.id)
  | .spill => some ((s.place .spill egress it).entered it.id)
  | .guaranteed => some ((s.place .guaranteed egress it).entered it.id)
  | .shared => some ((s.place .shared egress it).entered it.id)
  | .drop => some ((s.dropItem drAdmission 0 it).entered it.id)
  | .wait => none

/-- Whether a multicast packet from a port and VC, or a replica of one, waits in the replication unit, which blocks the
packets behind it (R116, R153). -/
def State.replicaWaits (s : State) (port vc : Nat) : Bool :=
  s.dp.mcWait.any (fun w => w.item.port == port && w.item.vc == vc)
    || s.dp.mcIn.any (fun m => m.item.port == port && m.item.vc == vc)

/-- Admission of an item that arrived on (port, VC): behind the items already waiting there, or by the
rules of R115 (R116). -/
def State.takeIn (s : State) (it : Item) (egress : Nat) : State :=
  let k := pvKey it.port it.vc
  let it := { it with since := s.now }
  if (s.waitingAt k).isEmpty && !s.replicaWaits it.port it.vc then
    match s.offer it egress with
    | some s' => s'
    | none => s.setWaiting k [⟨it, egress⟩]
  else s.setWaiting k (s.waitingAt k ++ [⟨it, egress⟩])

/-- Offering the waiting items of a (port, VC) in arrival order until one must wait again (R115 rule 5,
R116). -/
def offerWaiting : List Waiting → State → List Waiting × State
  | [], s => ([], s)
  | w :: ws, s =>
    match s.offer w.item w.egress with
    | some s' => offerWaiting ws s'
    | none => (w :: ws, s)

/-! ## The no-path hold (R123) -/

/-- An item with no path: into the hold when it has room, else dropped (R123). -/
def State.holdItem (s : State) (it : Item) : State :=
  if s.nopathMax = 0 ∨ s.fld R.BUF_NOPATH_CTRL 15 0 = 0 ∨ s.nopathMax < s.dp.holdCells + it.n then
    (s.dropItem drNoPath 0 it).entered it.id
  else
    let s := s.leaveCharge it
    { s with dp := { s.dp with hold := s.dp.hold ++ [{ it with charge := .hold, since := s.now }],
                               holdCells := s.dp.holdCells + it.n } }

/-! ## Marks (R124) -/

/-- Whether an occupancy meets a threshold field, in units of 16 cells; zero disables the level. -/
def meets (occ thr : Nat) : Bool := thr != 0 && 16 * thr ≤ occ

/-- The level that an occupancy reaches under a BUF.MARK_t word: 0 none, 1 low, 2 high, 3 severe. -/
def markLevel (w : Word) (occ : Nat) : Nat :=
  if meets occ (w.fld 29 20) then 3 else if meets occ (w.fld 19 10) then 2
  else if meets occ (w.fld 9 0) then 1 else 0

/-- The enabled thresholds of a BUF.MARK_t word stand in non-decreasing order (R124). -/
def marksOrdered (w : Word) : Bool :=
  let on := [w.fld 9 0, w.fld 19 10, w.fld 29 20].filter (· != 0)
  (on.zip (on.drop 1)).all (fun p => p.1 ≤ p.2)

end Sys2Proof.Machine
end

