-- ==== Sys2Proof/Machine/Operands.lean ====
section
/-!
DEFINITION. The operand forms that commands read from the state (chapters 03, 04, 13): members of a
bundle, what a plane reaches and in which slot, path weights, and the path sets of R85.
-/
namespace Sys2Proof.Machine

/-! ## Bundles (R16, R66, R85) -/

/-- A port carries traffic as a bundle member: its link is up, not draining, not held out (R85). -/
def State.inService (s : State) (port : Nat) : Bool := (s.port port).st == .up

/-- The listed leaf ports of a SWITCH_UID that satisfy a condition. -/
def State.portsOf (s : State) (uid : Nat) (c : Port → Bool) : List Nat :=
  (s.ports.filter (fun kp => kp.1 < 1024 && kp.2.identSeen && kp.2.uid == uid && c kp.2)).map (·.1)

/-- A list of ports in MEMBER order. -/
def State.byMember (s : State) (l : List Nat) : List Nat :=
  (List.range 16).flatMap (fun m => l.filter (fun p => (s.port p).member == m))

/-- The members of a bundle in service, in MEMBER order (R85, R90). -/
def State.members (s : State) (uid : Nat) : List Nat :=
  if uid = 0 then [] else s.byMember (s.portsOf uid (fun p => p.st == .up))

/-- The members of a bundle whose link is up or draining. -/
def State.linked (s : State) (uid : Nat) : List Nat :=
  if uid = 0 then [] else s.byMember (s.portsOf uid (fun p => p.st == .up || p.st == .draining))

/-- The bundle that holds a leaf port in service or draining: its SWITCH_UID. -/
def State.bundleOf (s : State) (port : Nat) : Nat :=
  let p := s.port port
  if p.identSeen ∧ (p.st = .up ∨ p.st = .draining) then p.uid else 0

/-- A bundle's number in events: its lowest member port (R372). -/
def State.bundleIndex (s : State) (uid : Nat) : Nat :=
  match s.portsOf uid (fun _ => true) with
  | [] => 0
  | p :: _ => p

def State.bundle (s : State) (uid : Nat) : Bundle := Tbl.get (fun _ => ⟨[], none⟩) s.dp.bundles uid
def State.setBundle (s : State) (uid : Nat) (b : Bundle) : State :=
  { s with dp := { s.dp with bundles := Tbl.put (fun _ => ⟨[], none⟩) s.dp.bundles uid b } }

/-! ## Prism planes and slots (R291, R292) -/

/-- SLOT_NS (R292, OPT.PRISM_CTRL). -/
def State.slotNs (s : State) : Nat :=
  let sel := s.fld R.OPT_PRISM_CTRL 23 22
  if sel = 0 then 128 else if sel = 1 then 256 else 512

/-- The slot number at a TB0 instant (R292). -/
def slotNumber (slotNs tb0 : Nat) : Nat := tb0 / 1000000000 * (1000000000 / slotNs) + tb0 % 1000000000 / slotNs

/-- The colour that plane p carries in PACKET at the present slot (R292). -/
def State.slotColour (s : State) (p : Nat) : Nat := (slotNumber s.slotNs s.tb0 % 64 + p) % 64

/-- The position that a colour reaches from the module (R291). -/
def State.reachedBy (s : State) (colour : Nat) : Nat := (s.prismPos + colour) % 64

/-- Whether a peer is LIVE (R303). -/
def State.peerLive (s : State) (j : Nat) : Bool := (s.peer j).st == .live

/-- Whether the module knows a peer (R80). -/
def State.peerKnown (s : State) (j : Nat) : Bool := (s.peer j).st != .unknown

/-- Whether plane p reaches peer j in some slot: in PACKET every live peer, in PHASE the peer of its
colour (R291). Unreachable pairs are left out (R304). -/
def State.reaches (s : State) (p j : Nat) : Bool :=
  s.peerLive j && j != s.prismPos && !((s.plane p).unreachable.contains j) &&
    (match (s.plane p).st with
     | .packet => true
     | .phase c => s.reachedBy c == j
     | _ => false)

/-- Whether plane p reaches peer j now: in PACKET only in the slot of its colour (R291, R292). -/
def State.reachesNow (s : State) (p j : Nat) : Bool :=
  s.reaches p j && (match (s.plane p).st with
    | .packet => s.reachedBy (s.slotColour p) == j
    | _ => true)

/-- Whether a BP port sends packets: trained and not draining. -/
def State.planeUsable (s : State) (p : Nat) : Bool := (s.port (1024 + p)).st == .up

/-- The known peer with a spine ID. -/
def State.peerOfSpine (s : State) (spine : Nat) : Option Nat :=
  (List.range 64).find? (fun j => s.peerKnown j && (s.peer j).spineId == spine)

/-- The first plane, in cyclic order from plane `from_`, that reaches a peer (R89). -/
def State.firstPlane (s : State) (from_ j : Nat) : Option Nat :=
  ((List.range 64).map (fun i => (from_ + i) % 64)).find? (fun p => s.planeUsable p && s.reaches p j)

/-! ## Weights (R86, R87) -/

/-- W_BASE of a path's port; a detour carries the weight of its plane (R86). -/
def State.wBase (s : State) (port : Nat) : Nat := s.fld (R.PL_PATH_WEIGHT (port / 64) (port % 64)) 3 0

/-- The depth factor of a path's queue for a TC, in quarters; with ADAPT_NS 0 every factor is 1 (R87, R105). -/
def State.depthOf (s : State) (port tc : Nat) : Nat :=
  if s.fld R.BUF_FWD_SPRAY_CTRL 15 0 = 0 then 4 else Tbl.get (fun _ => 4) s.dp.depth (qKey port tc)

/-- The path of a weighted list in which a number falls. -/
def pickAt {α : Type} : List (α × Nat) → Nat → Option α
  | [], _ => none
  | (x, w) :: l, r => if r < w then some x else pickAt l (r - w)

/-- A path taken at random by weight (R86): effective weights, else base weights when every effective
weight is 0, else none. -/
def pickWeighted {α : Type} (draw : Nat) (eff base : List (α × Nat)) : Option α :=
  let te := (eff.map (·.2)).sum
  let tb := (base.map (·.2)).sum
  if te ≠ 0 then pickAt eff (draw % te) else if tb ≠ 0 then pickAt base (draw % tb) else none

/-- A path taken among ports for a TC at random (R86). (DESIGN CHOICE, log entry 17) -/
def State.sprayPort (s : State) (tc : Nat) (ports : List Nat) : Option Nat :=
  pickWeighted (Config.sprayDraw s.free)
    (ports.map (fun p => (p, s.wBase p * s.depthOf p tc))) (ports.map (fun p => (p, s.wBase p)))

/-! ## Replicas (R147 to R151) -/

/-- A bit of a group entry's egress mask (R147). -/
def maskBit (e : List Word) (b : Nat) : Bool := (e.getD (2 + b / 32) 0).bit (b % 32)

/-- MCT.FENCE's bit of a port (R157). -/
def State.fenced (s : State) (port : Nat) : Bool := (s.rd (R.MCT_FENCE (port / 32))).bit (port % 32)

/-- The group that a packet names: GROUP of MCAST_DATA word 5, of RED_RESULT word 7 (R59, R165). -/
def groupOf (p : Packet) : Nat := if p.ty = tyMCAST then p.fld 5 31 16 else p.fld 7 31 16

/-- The first unfenced member at or after a member in cyclic MEMBER order (R150). -/
def State.unfencedFrom (s : State) (ms : List Nat) (i : Nat) : Option Nat :=
  (ms.drop i ++ ms.take i).find? (fun p => !s.fenced p)

/-- The member of a pinned replica: the bucket's, or the first unfenced one after it (R150). Where the bucket's path is a
detour, or a member no longer in service, the order begins at the (bucket mod n)-th member.
(DESIGN CHOICE, log entry 160) -/
def State.pinnedMember (s : State) (uid : Nat) (p : Packet) (group : Nat) : Option Nat :=
  let ms := s.members uid
  let b := bucketOf p.src group
  let i := match (s.bundle uid).map[b]? with
    | some (.member port) => (ms.findIdx? (· == port)).getD (b % max 1 ms.length)
    | _ => b % max 1 ms.length
  s.unfencedFrom ms i

/-- The member that a replica to a bundle takes; none when the target is fenced (R150, R151). -/
def State.replicaMember (s : State) (uid : Nat) (p : Packet) (group : Nat) : Option Nat :=
  if p.spray = 1 then
    match s.sprayPort p.tc ((s.members uid).filter (fun m => !s.fenced m)) with
    | some m => some m
    | none => s.pinnedMember uid p group
  else s.pinnedMember uid p group

/-! ## Leaf destination entries (R81) -/

/-- The peers of an entry's DETOUR_MASK that are live, in rising order; the module's own bit ignored. -/
def State.detourPeers (s : State) (entry : List Word) : List Nat :=
  (List.range 64).filter (fun j =>
    (if j < 32 then (entry.getD 3 0).bit j else (entry.getD 2 0).bit (j - 32)) && j != s.prismPos && s.peerLive j)

/-- The planes by which a sprayed packet may take a detour (R85). -/
def State.detourPlanes (s : State) (entry : List Word) : List Nat :=
  (List.range 64).filter (fun p => s.planeUsable p && (s.detourPeers entry).any (fun j => s.reaches p j))

/-- The peer of a detour through a plane: taken in turn among the live peers of the mask that it
reaches (R86). -/
def State.detourPeer (s : State) (entry : List Word) (p : Nat) : Option Nat :=
  let l := (s.detourPeers entry).filter (fun j => s.reaches p j)
  let last := Tbl.get (fun _ => 0) s.dp.detourTurn p
  match l.find? (fun j => last < j) with
  | some j => some j
  | none => l.head?

end Sys2Proof.Machine
end

