-- ==== Sys2Proof/Machine/Accept.lean ====
section
/-!
DEFINITION. What Canvas does with a contribution that PL17 offers it (08_canvas_reduction.md): the fields of a context's
entry, the test of R168, and the space it takes (R177).
-/
namespace Sys2Proof.Machine

/-! ## Context entries (R159) -/

def ctxZero : List Word := List.replicate 42 0

/-- A field of an entry. -/
def Ctx.f (c : Ctx) (i hi lo : Nat) : Nat := (c.entry.getD i 0).fld hi lo
def Ctx.child (c : Ctx) : Bool := c.f 0 30 30 == 1
def Ctx.rootPos (c : Ctx) : Nat := c.f 0 29 24
def Ctx.pinned (c : Ctx) : Bool := c.f 0 23 23 == 1
def Ctx.pinDie (c : Ctx) : Nat := c.f 0 22 21
def Ctx.job (c : Ctx) : Nat := c.f 0 15 0
def Ctx.op (c : Ctx) : Nat := c.f 1 31 28
def Ctx.fmtIn (c : Ctx) : Nat := c.f 1 27 24
def Ctx.fmtOut (c : Ctx) : Nat := c.f 1 23 20
def Ctx.elems (c : Ctx) : Nat := c.f 1 15 0
def Ctx.nsegs (c : Ctx) : Nat := c.f 2 31 8
def Ctx.window (c : Ctx) : Nat := max 1 (c.f 4 20 10)
def Ctx.resTc (c : Ctx) : Nat := c.f 4 2 0
def Ctx.timeoutNs (c : Ctx) : Nat := c.f 5 31 16 * 1000
def Ctx.live (c : Ctx) : Bool := c.st == .active || c.st == .recover

def State.ctx (s : State) (n : Nat) : Ctx := Tbl.get (fun _ => Ctx.init) s.canvas.ctxs n
def State.setCtx (s : State) (n : Nat) (c : Ctx) : State :=
  { s with canvas := { s.canvas with ctxs := Tbl.put (fun _ => Ctx.init) s.canvas.ctxs n c } }
/-- The key of a segment of the current round, or of the next. -/
def segKey (next : Bool) (seg : Nat) : Nat := bit01 next * 2 ^ 24 + seg
def Ctx.seg (c : Ctx) (k : Nat) : Segment := Tbl.get (fun _ => Segment.idle) c.segs k
def Ctx.setSeg (c : Ctx) (k : Nat) (g : Segment) : Ctx :=
  { c with segs := Tbl.put (fun _ => Segment.idle) c.segs k g }
def State.setSeg (s : State) (n k : Nat) (g : Segment) : State := s.setCtx n ((s.ctx n).setSeg k g)

/-- MASK and EXPECT of an entry. -/
def membership (e : List Word) : Membership := ⟨(e.drop 8).take 34, (e.getD 4 0).fld 31 21⟩
def Membership.has (m : Membership) (b : Nat) : Bool := (m.mask.getD (b / 32) 0).bit (b % 32)
/-- The contributors of a membership. -/
def Membership.list (m : Membership) : List Nat := (List.range 1088).filter m.has
/-- The membership that governs a segment's round. -/
def Ctx.memberAt (c : Ctx) (k : Nat) : Membership := if k < 2 ^ 24 then c.member else c.next
/-- The absolute round of a segment. -/
def Ctx.roundAt (c : Ctx) (k : Nat) : Nat := if k < 2 ^ 24 then c.round else c.round + 1

/-- A segment that is OPEN or FULL. -/
def Segment.inWork (g : Segment) : Bool := g.st == .open_ || g.st == .full
/-- Contributions of a segment not yet reported folded. -/
def Segment.held (g : Segment) : List Contrib := g.waiting ++ g.batches.flatMap (·.items)

/-! ## Accepting a contribution (R168, R181, R182) -/

/-- What becomes of a contribution: discarded under a counter, or accepted for a segment. -/
inductive Judge where
  | discard (counter : Nat)
  | take (key : Nat)
deriving DecidableEq, Repr

/-- The lowest segment of the current round that is not DONE; fuel bounds the search. -/
def Ctx.lowest (c : Ctx) : Nat → Nat → Nat
  | 0, i => i
  | n + 1, i => if i < c.nsegs ∧ (c.seg i).st = .done then c.lowest n (i + 1) else i

/-- P of R181. -/
def Ctx.pos (c : Ctx) : Nat := c.lowest (c.segs.length + 1) 0

/-- The membership that governed a past round. (DEDUCED, log entry 58) -/
def pastMember (r : Int) (now : Membership) : List (Nat × Membership) → Membership
  | [] => now
  | (e, m) :: l => if r < e then m else pastMember r now l

/-- CONTRIB names a port of the bundle that a leaf port belongs to (rule 3). -/
def State.sameBundle (s : State) (contrib port : Nat) : Bool :=
  contrib == port || (s.bundleOf port != 0 && (s.port contrib).identSeen && (s.port contrib).uid == (s.port port).uid)

/-- Whether a contribution came from where CONTRIB says (rule 3). (DEDUCED, log entry 51) -/
def State.cameFrom (s : State) (it : Item) (contrib : Nat) : Bool :=
  if contrib < 1024 then it.port < 1024 && s.sameBundle contrib it.port
  else decide (1024 ≤ it.port ∧ it.port < 1088) && it.sender == some (contrib - 1024)

/-- The test of R168, in its order: a segment in ENCODE still takes what has not arrived. (DEDUCED, log entry 50) -/
def State.judge (s : State) (it : Item) : Judge :=
  let p := it.pkt
  let c := s.ctx (p.fld 5 31 18)
  let contrib := p.fld 5 17 7
  let d := (p.fld 6 31 24 + 256 - c.round % 256) % 256
  let r : Int := if d < 128 then (c.round + d : Nat) else (c.round : Int) + d - 256
  let m := if d = 0 then c.member else if d < 128 then c.next else pastMember r c.member c.past
  let k := segKey (d == 1) p.seq
  let g := c.seg k
  if !c.live ∨ c.job ≠ p.job then .discard C.CNV_STALE
  else if p.fld 6 23 20 ≠ c.fmtIn ∨ p.fld 6 19 16 ≠ c.op ∨ p.fld 6 15 0 ≠ c.elems
      ∨ p.length ≠ payloadBytes c.fmtIn c.elems ∨ c.nsegs ≤ p.seq then .discard C.CNV_BAD
  else if !s.cameFrom it contrib then .discard C.CNV_BAD
  else if !m.has contrib then .discard C.CNV_NOT_MEMBER
  else if 128 ≤ d then .discard C.CNV_DUP
  else if 2 ≤ d ∨ c.pos + c.window ≤ d * c.nsegs + p.seq then .discard C.CNV_OUT_WINDOW
  else if g.st = .done then .discard (if g.ended then C.CNV_LATE else C.CNV_DUP)
  else if g.forced then .discard C.CNV_LATE
  else if g.arrived.contains contrib then .discard C.CNV_DUP
  else .take k

/-! ## Staging (R177) -/

/-- Staging units of a contribution. -/
def stageUnits (len : Nat) : Nat := max 1 ((len + 1023) / 1024)
def State.stageLow (s : State) : Nat := s.fld R.CNV_STAGE_CTRL 31 16
def State.ovfMax (s : State) : Nat := s.fld R.CNV_STAGE_CTRL 15 0 * 2 ^ 20

/-- The die whose HBM takes new overflow of a context on die `d`: its own, or while it is saturated and not every die is,
the unsaturated die with the most free frames (R177, R280). -/
def State.ovfDie (s : State) (d : Nat) : Nat :=
  if s.classAt d = .saturated then (mostOf s.freeFrames s.unsaturated).getD d else d

/-- Whether the overflow area of a die takes `len` more bytes: within OVF_MAX, in free frames (R177, R278).
(DEDUCED, log entry 60) -/
def State.ovfRoom (s : State) (d len : Nat) : Bool :=
  s.canvas.ovf.get d + len ≤ s.ovfMax && s.ovfMax != 0 && s.freeFrames d != 0

/-- Where a contribution of a context on die `d` goes: `some true` staging, `some false` overflow, `none` held back. -/
def State.stageWhere (s : State) (d len : Nat) : Option Bool :=
  let u := stageUnits len
  if s.stageLow ≤ s.canvas.staging ∧ u ≤ s.canvas.staging then some true
  else if s.ovfRoom (s.ovfDie d) len then some false
  else if u ≤ s.canvas.staging then some true
  else none

/-- Canvas with the space taken that a contribution of `len` bytes for die `d` is given. -/
def State.takeSpace (s : State) (d len : Nat) (inStaging : Bool) : State :=
  let ovf := s.canvas.ovf
  let e := s.ovfDie d
  { s with canvas := { s.canvas with staging := s.canvas.staging - (if inStaging then stageUnits len else 0),
                                     ovf := if inStaging then ovf else ovf.set e (ovf.get e + len) } }

/-- The die of a contribution's segment: its context's while the segment is IDLE (R161). -/
def State.contribDie (s : State) (it : Item) (k : Nat) : Nat :=
  let c := s.ctx (it.pkt.fld 5 31 18)
  if (c.seg k).st = .idle then c.die else (c.seg k).die

/-- Canvas's space after the contributions on their way to it are placed. -/
def State.spaceAfter (s : State) : List Item → State
  | [] => s
  | it :: l =>
    let len := it.pkt.length
    match s.judge it with
    | .discard _ => s.spaceAfter l
    | .take k =>
      match s.stageWhere (s.contribDie it k) len with
      | some b => (s.takeSpace (s.contribDie it k) len b).spaceAfter l
      | none => s.spaceAfter l

/-- PL17 holds back an entry toward Canvas: one that Canvas would accept, for which neither staging nor overflow has room
beside the entries on their way, `ahead` (R177). -/
def State.canvasHolds (s : State) (ahead : List Item) (it : Item) : Bool :=
  it.pkt.ty == tyRED_CONTRIB && (match s.judge it with
    | .discard _ => false
    | .take k => ((s.spaceAfter ahead).stageWhere (s.contribDie it k) it.pkt.length).isNone)

end Sys2Proof.Machine
end

