-- ==== Sys2Proof/Machine/EthOps.lean ====
section
/-!
DEFINITION. Ethernet frames (15_ethernet_personality.md): parsing, the FCS, where a frame goes (R331 to R333),
the edits made as it leaves (R331, R332, R338), and the MAC tables (R335 to R337).
-/
namespace Sys2Proof.Machine

/-! ## The FCS (IEEE 802.3) -/

/-- One bit of the CRC-32 register's shift. -/
def fcsShift (c : Word) : Word := if c.toNat % 2 = 1 then (c >>> 1) ^^^ 0xEDB88320#32 else c >>> 1

/-- Eight shifts after a byte is added. -/
def fcsByte (c : Word) (b : Byte) : Word :=
  let c := c ^^^ (b.setWidth 32)
  fcsShift (fcsShift (fcsShift (fcsShift (fcsShift (fcsShift (fcsShift (fcsShift c)))))))

/-- The FCS of a frame's bytes. -/
def fcsOf (bs : List Byte) : Word := ~~~ (bs.foldl fcsByte 0xFFFFFFFF#32)

/-! ## Parsing (R329, R330) -/

/-- Bytes of a list as a number, most significant first. -/
def numAt (bs : List Byte) (at_ n : Nat) : Nat := natOfBytesBE ((bs.drop at_).take n)

/-- Whether the frame carries an IEEE 802.1Q tag (R329). -/
def frameTagged (bs : List Byte) : Bool := numAt bs 12 2 == 0x8100

/-- A received frame on a port with a PVID: its tag and its FCS taken off (R329, R331 order 1). -/
def parseFrame (pvid : Nat) (bs : List Byte) : EthFrame :=
  let n := bs.length - 4
  let body := bs.take n
  let tagged := frameTagged body
  let vid := if tagged then numAt body 14 2 % 4096 else 0
  { bytes := if tagged then body.take 12 ++ body.drop 16 else body, len := bs.length,
    vid := if vid = 0 then pvid else vid, pcp := if tagged then numAt body 14 2 / 4096 else 0, edit := none,
    ce := false, bad := !(bs.drop n == (fcsOf body).bytesLE) }

def EthFrame.dst (f : EthFrame) : Nat := numAt f.bytes 0 6
def EthFrame.src (f : EthFrame) : Nat := numAt f.bytes 6 6
def EthFrame.ethertype (f : EthFrame) : Nat := numAt f.bytes 12 2
/-- Byte i of the payload. -/
def EthFrame.byte (f : EthFrame) (i : Nat) : Nat := numAt f.bytes (14 + i) 1
def EthFrame.isIp4 (f : EthFrame) : Bool := f.ethertype == 0x0800
def EthFrame.isIp6 (f : EthFrame) : Bool := f.ethertype == 0x86DD

/-- The group bit of a MAC address: the least significant bit of its first byte. -/
def macGroup (mac : Nat) : Bool := mac.testBit 40

/-- The entry of ETH.QOS_k of a frame; an untagged one carries PCP 0 (R330). -/
def EthFrame.qosIndex (f : EthFrame) : Nat :=
  if f.isIp4 then f.byte 1 / 4
  else if f.isIp6 then (f.byte 0 % 16 * 16 + f.byte 1 / 16) / 4
  else 64 + f.pcp / 2

/-! ## IP headers (R332, R338) -/

/-- The sum of a header's 16-bit words. -/
def ipSum : List Byte → Nat
  | a :: b :: l => a.toNat * 256 + b.toNat + ipSum l
  | _ => 0

/-- Bytes of the IPv4 header: IHL words of four bytes. -/
def EthFrame.ip4Header (f : EthFrame) : List Byte := (f.bytes.drop 14).take (f.byte 0 % 16 * 4)

/-- Check 1 of R332. -/
def EthFrame.ipOk (f : EthFrame) : Bool :=
  if f.isIp4 then
    f.byte 0 / 16 == 4 && decide (5 ≤ f.byte 0 % 16) && f.ip4Header.length == f.byte 0 % 16 * 4
      && ipSum f.ip4Header % 65535 == 0
  else f.byte 0 / 16 == 6

/-- TTL or hop limit. -/
def EthFrame.ttl (f : EthFrame) : Nat := if f.isIp4 then f.byte 8 else f.byte 7

/-- The destination address. -/
def EthFrame.ipDst (f : EthFrame) : Nat := if f.isIp4 then numAt f.bytes 30 4 else numAt f.bytes 38 16

/-- Bytes with the IPv4 header checksum computed over the header as it stands. -/
def withIp4Sum (bs : List Byte) (headerBytes : Nat) : List Byte :=
  let z := (bs.set 24 0).set 25 0
  let c := 65535 - (ipSum ((z.drop 14).take headerBytes) + 65534) % 65535 - 1
  (z.set 24 (BitVec.ofNat 8 (c / 256))).set 25 (BitVec.ofNat 8 c)

/-- The bytes with TTL or hop limit lowered by 1, and CE in an ECN field of ECT(0) or ECT(1) (R332, R338). -/
def EthFrame.ipEdited (f : EthFrame) (ttl ce : Bool) : List Byte :=
  if f.isIp4 then
    let bs := if ttl then f.bytes.set 22 (BitVec.ofNat 8 (f.byte 8 - 1)) else f.bytes
    let e := f.byte 1 % 4
    let mark := ce && (e == 1 || e == 2)
    let bs := if mark then bs.set 15 (BitVec.ofNat 8 (f.byte 1 / 4 * 4 + 3)) else bs
    if ttl || mark then withIp4Sum bs (f.byte 0 % 16 * 4) else bs
  else if f.isIp6 then
    let bs := if ttl then f.bytes.set 21 (BitVec.ofNat 8 (f.byte 7 - 1)) else f.bytes
    let e := f.byte 1 / 16 % 4
    if ce && (e == 1 || e == 2) then bs.set 15 (BitVec.ofNat 8 (f.byte 1 / 64 * 64 + 48 + f.byte 1 % 16)) else bs
  else f.bytes

/-! ## A frame as it leaves (R329, R331, R332) -/

/-- The bytes of a number, most significant first. -/
def bytesBEOfNat (n x : Nat) : List Byte := (bytesLEOfNat n x).reverse

/-- A frame as it leaves an egress port: edited when it was routed, marked, tagged or not by the port's PVID
and UNTAG, with a new FCS, which is made to fail when the received one failed. -/
def State.frameOut (s : State) (egress : Nat) (f : EthFrame) (ce : Bool) : List Byte :=
  let bs := f.ipEdited f.edit.isSome (ce || f.ce)
  let vid := match f.edit with | some e => e.vid | none => f.vid
  let macs := match f.edit with
    | some e => bytesBEOfNat 6 e.dmac ++ bytesBEOfNat 6 e.smac
    | none => bs.take 12
  let pv := s.rd (R.PL_ETH_PVID (egress / 64) (egress % 64))
  let tag := if pv.fld 11 0 = vid ∧ pv.fld 12 12 = 1 then []
    else [0x81#8, 0x00#8] ++ bytesBEOfNat 2 (f.pcp * 4096 + vid)
  let out := macs ++ tag ++ bs.drop 12
  let c := fcsOf out
  out ++ (if f.bad then ~~~ c else c).bytesLE

/-! ## MAC tables (R335 to R337) -/

/-- The key of a MAC entry. -/
def macKey (pl vid mac : Nat) : Nat := (pl * 4096 + vid % 4096) * 2 ^ 48 + mac % 2 ^ 48

def State.macAt (s : State) (k : Nat) : Option MacEntry := Tbl.get (fun _ => none) s.macs k
def State.setMac (s : State) (k : Nat) (e : Option MacEntry) : State :=
  { s with macs := Tbl.put (fun _ => none) s.macs k e }

/-- The bucket of 65,536 that a key falls in (R335). (DESIGN CHOICE, log entry 111) -/
def macBucketOf (k : Nat) : Nat := Config.macBucket (k % 2 ^ 60) % 65536

/-- A key's bucket holds four entries already (R335). -/
def State.bucketFull (s : State) (k : Nat) : Bool :=
  4 ≤ (s.macs.filter (fun ke => ke.1 / 2 ^ 60 == k / 2 ^ 60 && macBucketOf ke.1 == macBucketOf k)).length

/-- STAMP (R336): TB0 seconds bits [15:0]. -/
def State.stampNow (s : State) : Nat := s.tb0Sec % 65536

/-- Learning from a frame with a correct FCS and a unicast source (R335). -/
def State.learn (s : State) (port : Nat) (f : EthFrame) : State :=
  if s.fld R.ETH_CTRL 31 31 = 0 ∨ f.bad ∨ macGroup f.src then s
  else
    let pl := pipeOf port
    let k := macKey pl f.vid f.src
    match s.macAt k with
    | none => if s.bucketFull k then s.bump (C.ETH_LEARN_FULL pl) 1 else s.setMac k (some ⟨false, s.stampNow, port⟩)
    | some e =>
      if e.port = port then (if e.fixed then s else s.setMac k (some { e with stamp := s.stampNow }))
      else if e.fixed then s
      else (s.setMac k (some ⟨false, s.stampNow, port⟩)).bump (C.ETH_MOVES pl) 1

/-! ## Where a frame goes (R331 to R334) -/

/-- The decision of R331: dropped under 0x14 with a filter number, flooded, or sent to a port, as edited. -/
inductive EthGoes where
  | drop (c : Nat)
  | flood
  | port (p : Nat) (f : EthFrame)
deriving DecidableEq, Repr

/-- The key of a route. -/
def routeKey (len prefix_ : Nat) : Nat := len * 2 ^ 128 + prefix_

/-- The longest-prefix match of R333, over addresses of `w` bits. -/
def longestMatch (t : Tbl (Option Nat)) (w addr : Nat) : Nat → Option Nat
  | 0 => Tbl.get (fun _ => none) t (routeKey 0 0)
  | n + 1 =>
    match Tbl.get (fun _ => none) t (routeKey (n + 1) (addr / 2 ^ (w - (n + 1)) * 2 ^ (w - (n + 1)))) with
    | some h => some h
    | none => longestMatch t w addr n

/-- Whether a port runs Ethernet (R327). -/
def State.isEthPort (s : State) (p : Nat) : Bool := p < 1024 && (s.port p).eth

/-- ETH.RMAC. -/
def State.rmac (s : State) : Nat := s.fld R.ETH_RMAC_HI 15 0 * 2 ^ 32 + s.fld R.ETH_RMAC_LO 31 0

/-- The next-hop entry that an unlisted index reads as. -/
def hopZero : List Word := [0, 0, 0]

/-- The checks of R332 and the edit they lead to. -/
def State.routed (s : State) (f : EthFrame) : EthGoes :=
  if !f.ipOk then .drop 3
  else if f.ttl < 2 then .drop 2
  else
    match (if f.isIp4 then longestMatch s.tab.rt4Active 32 f.ipDst 32 else longestMatch s.tab.rt6Active 128 f.ipDst 128) with
    | none => .drop 7
    | some h =>
      let e := Tbl.get (fun _ => hopZero) s.tab.nhActive h
      let w0 := e.getD 0 0
      let p := (e.getD 2 0).fld 9 0
      if w0.fld 31 31 = 0 ∨ w0.fld 30 30 = 1 then .drop 5
      else if !s.isEthPort p then .drop 6
      else .port p { f with edit := some { vid := w0.fld 27 16, dmac := w0.fld 15 0 * 2 ^ 32 + (e.getD 1 0).fld 31 0,
                                           smac := s.rmac } }

/-- The order of R331 for a frame that entered at a port. -/
def State.ethGoes (s : State) (port : Nat) (f : EthFrame) : EthGoes :=
  if (Tbl.get (fun _ => 0) s.tab.vlanActive f.vid).fld 31 31 = 0 then .drop 4
  else if s.rmac ≠ 0 ∧ f.dst = s.rmac ∧ (f.isIp4 ∨ f.isIp6) then s.routed f
  else if macGroup f.dst then .flood
  else
    match s.macAt (macKey (pipeOf port) f.vid f.dst) with
    | none => .flood
    | some e => if e.port = port ∨ !s.isEthPort e.port then .drop 6 else .port e.port f

/-- One word of a flooded frame's effective mask: the Ethernet ports of the group's mask but the ingress
port. -/
def State.floodWord (s : State) (e : List Word) (port i : Nat) : Word :=
  BitVec.ofNat 32 (((List.range 32).map (fun b =>
    if maskBit e (32 * i + b) ∧ 32 * i + b ≠ port ∧ s.isEthPort (32 * i + b) then 2 ^ b else 0)).sum)

/-- The group entry by which a frame is flooded: FLOOD_GROUP's, with the ingress port, non-Ethernet ports and
Prism bits removed (R331 order 3). -/
def State.floodEntry (s : State) (port vid : Nat) : List Word :=
  let g := (Tbl.get (fun _ => 0) s.tab.vlanActive vid).fld 15 0
  let e := Tbl.get (fun _ => []) s.tab.grpActive g
  [e.getD 0 0, e.getD 1 0] ++ (List.range 32).map (s.floodWord e port) ++ [0, 0]

/-- A drop under reason 0x14, counted in its filter counter too (R331). -/
def State.filterItem (s : State) (c : Nat) (it : Item) : State :=
  ((s.dropItem drEthFilter 0 it).bump (C.ETH_FILTER c) 1).entered it.id

end Sys2Proof.Machine
end

