-- ==== Sys2Proof/Machine/Forward.lean ====
section
/-!
DEFINITION. Forwarding (04_forwarding_spraying_fences.md, with R67, R140 to R145 and R369): header queues,
ingress checks, destination class and override, path choice, policing, and the lookup as one step.
-/
namespace Sys2Proof.Machine

/-! ## Policers (R140 to R145) -/

/-- The key of a policer bucket: 0 committed, 1 second. -/
def polKey (port tc which : Nat) : Nat := (port * 8 + tc) * 2 + which

def State.polBucket (s : State) (port tc which : Nat) : Bucket :=
  Tbl.get (fun _ => policeFull) s.sched.police (polKey port tc which)
def State.setPolBucket (s : State) (port tc which : Nat) (b : Bucket) : State :=
  { s with sched := { s.sched with police := Tbl.put (fun _ => policeFull) s.sched.police (polKey port tc which) b } }
/-- A bucket filled on to an instant at a rate in Mb/s, capped at a depth in bytes; what the cap loses
is counted as clipped (R133, R141). -/
def Bucket.refill (b : Bucket) (rate capBytes now : Nat) : Bucket :=
  let add : Int := ((rate * 1024 * (now - b.time) : Nat) : Int)
  let cap : Int := ((capBytes * tokUnit : Nat) : Int)
  { b with tokens := min cap (b.tokens + add), time := now, added := b.added + add,
           clipped := b.clipped + (b.tokens + add - min cap (b.tokens + add)) }

/-- A policer's bucket filled up to the present instant at its rate (R141). -/
def State.polNow (s : State) (port tc which : Nat) : Bucket :=
  let w := s.rd (if which = 0 then R.PL_POL_C (port / 64) (port % 64) tc else R.PL_POL_P (port / 64) (port % 64) tc)
  (s.polBucket port tc which).refill (w.fld 19 0) (w.fld 30 20 * 4096) s.now

/-- A charge of bytes; the count never falls below -2^31 bytes, and what that loses counts as clipped
(R133). -/
def Bucket.charge (b : Bucket) (bytes : Nat) : Bucket :=
  let c : Int := ((bytes * tokUnit : Nat) : Int)
  let low : Int := -((2 ^ 31 * tokUnit : Nat) : Int)
  { b with tokens := max low (b.tokens - c), charged := b.charged + c,
           clipped := b.clipped - (max low (b.tokens - c) - (b.tokens - c)) }

/-- A bucket set to a value by a register write (R137, R144). -/
def Bucket.restart (b : Bucket) (bytes now : Nat) : Bucket :=
  let v : Int := ((bytes * tokUnit : Nat) : Int)
  { b with tokens := v, time := now, adjust := b.adjust + (v - b.tokens) }

/-- The colours of a meter. -/
inductive Colour where
  | green | yellow | red
deriving DecidableEq, Repr

/-- The two-rate meters (R141): MODE 0 RFC 2698, MODE 1 RFC 4115, with the pre-colour of an aware
policer (green for a blind one). Answers the colour and which buckets the length is taken from. RFC 4115 asks that a bucket
hold more than the length. (PRESUMED, log entry 161) -/
def meter (mode : Nat) (pre : Colour) (c p len : Int) : Colour × Bool × Bool :=
  if mode = 0 then
    if pre = .red ∨ p < len then (.red, false, false)
    else if pre = .yellow ∨ c < len then (.yellow, false, true)
    else (.green, true, true)
  else
    if pre = .red then (.red, false, false)
    else if pre = .green ∧ len < c then (.green, true, false)
    else if len < p then (.yellow, false, true)
    else (.red, false, false)

/-- The charged length L of R135: B plus the port's signed overhead, at least 1. -/
def State.chargedLen (s : State) (port b : Nat) : Nat :=
  let ovh := signedOf 7 (s.fld (R.PL_LEN_OVH (port / 64) (port % 64)) 6 0)
  (max 1 ((b : Int) + ovh)).toNat

/-- What the policer's colour does (R143). -/
inductive PolAct where
  | pass | markLow | markSevere | drop
deriving DecidableEq, Repr

/-- The action that POL_MODE gives a colour (R143). -/
def polAction (w : Word) (c : Colour) : PolAct :=
  match c with
  | .green => .pass
  | .yellow => if w.fld 28 27 = 0 then .pass else if w.fld 28 27 = 1 then .markLow else .drop
  | .red => if w.fld 26 25 = 0 then .drop else if w.fld 26 25 = 1 then .markSevere else .pass

/-- Metering a packet of `b` bytes at its ingress port: the state with the buckets and colour counters,
and the action (R140 to R145). A packet that is not metered counts in no colour counter; a port's eight policers share its
three (R409). (DESIGN CHOICE, log entry 162) -/
def State.police (s : State) (port tc b : Nat) (pre : Colour) : State × PolAct :=
  let m := s.rd (R.PL_POL_MODE (port / 64) (port % 64) tc)
  if m.fld 31 31 = 0 then (s, .pass)
  else
    let cb := s.polNow port tc 0
    let pb := s.polNow port tc 1
    let len := s.chargedLen port b
    let l : Int := ((len * tokUnit : Nat) : Int)
    let r := meter (m.fld 30 30) (if m.fld 29 29 = 1 then pre else .green) cb.tokens pb.tokens l
    let cb := if r.2.1 then cb.charge len else cb
    let pb := if r.2.2 then pb.charge len else pb
    let c := match r.1 with | .green => 7 | .yellow => 8 | .red => 9
    (((s.setPolBucket port tc 0 cb).setPolBucket port tc 1 pb).bumpPort port c 1, polAction m r.1)

/-! ## Ingress checks (R67) -/

/-- Whether a spine-space DEST is the module's own (R20, R80). -/
def State.isOwn (s : State) (dest : Nat) : Bool := dest < 4096 && dest / 4 == s.spineId

/-- The peer position that a spine-space DEST names, among the peers the module knows (R80). -/
def State.peerOf (s : State) (dest : Nat) : Option Nat :=
  if dest < 4096 then s.peerOfSpine (dest / 4) else none

/-- The class of a packet (R80). -/
inductive Class where
  | link | group | own | peer (j : Nat) | unroutable | leaf
deriving DecidableEq, Repr

/-- The destination class of R80. (DEDUCED, log entry 38) -/
def State.classOf (s : State) (p : Packet) : Class :=
  if tyLinkLocal p.ty then .link
  else if p.ty = tyMCAST ∨ p.ty = tyRED_RESULT then .group
  else if destSpine p then
    if s.isOwn p.dest then .own
    else match s.peerOf p.dest with
      | some j => .peer j
      | none => .unroutable
  else .leaf

/-- The first failing check of R67 for a packet received on a port: its drop reason. On a port held
out of service a packet that passes check 1 and is not link-local is dropped under reason 0x16
(R315). Before the first generation since its return the module carries nothing (R30). (DEDUCED, log entry 18) -/
def State.ingressCheck (s : State) (port : Nat) (p : Packet) : Option Nat :=
  if !p.hcrcOk then some drHcrc
  else if port < 1088 ∧ (s.port port).st = .heldOut ∧ !tyLinkLocal p.ty then some drOutOfService
  else if p.version ≠ 1 then some drVersion
  else if !wellTyped p then some drMalformed
  else if 4096 < p.length then some drOversize
  else if !s.carries && !tyLinkLocal p.ty then some drUnassigned
  else if 2 < p.hop then some drHop
  else if s.classOf p = .unroutable then some drUnroutable
  else if !s.tab.ready && !tyLinkLocal p.ty then some drUnroutable
  else none

/-! ## The override table (R82, R83) -/

/-- The key of an override entry. -/
def ovrKey (space key : Nat) : Nat := space * 2 ^ 18 + key

/-- What the override table says of a packet: a drop reason, or the leaf ID to route by. -/
def overrideOf (t : Tbl (List Word)) (p : Packet) : Sum Nat Nat :=
  match Tbl.get (fun _ => []) t (ovrKey (bit01 (destSpine p)) p.dest) with
  | [w0, w1] =>
    if w0.fld 27 27 = 1 ∧ w1.fld 31 16 ≠ p.job then .inl drStaleJob
    else if w0.fld 29 28 = 2 then .inl drOverride
    else if w0.fld 29 28 = 1 then .inr (w1.fld 11 0)
    else .inr (p.dest / 64)
  | _ => .inr (p.dest / 64)

/-! ## Path choice (R85, R86, R89) -/

/-- Where a packet goes. -/
inductive Route where
  /-- an egress queue's port, with the division's peer and the pinned bucket -/
  | queue (egress : Nat) (peer : Option Nat) (bucket : Option (Nat × Nat))
  /-- a sprayed packet's detour: the plane chosen by weight, whose turn among its peers moves on, the plane's port that
  sends, and the peer -/
  | detour (via egress peer : Nat)
  /-- held behind the move of its bucket -/
  | moving (bundle bucket : Nat)
  | group
  | pathMark
  | link
  | noPath
  | drop (reason : Nat)
deriving DecidableEq, Repr

/-- The destination among PL17's for the module's own endpoints (R80): home agents for requests,
Canvas, and the hub's side for responses and ACKs (R258). -/
def ownEgress (p : Packet) : Nat :=
  if tyHomeRequest p.ty then 1088 + p.dest % 4
  else if p.ty = tyRED_CONTRIB ∨ p.ty = tyPHASE_MARK then 1092
  else 1093

/-- The detour of a pinned bucket: the live peer of the mask whose rank is the bucket modulo their
number, by the first plane that reaches it (R90). -/
def State.pinnedDetour (s : State) (entry : List Word) (hash bucket : Nat) : Option (Nat × Nat) :=
  let l := s.detourPeers entry
  match l[bucket % max 1 l.length]? with
  | none => none
  | some j => (s.firstPlane (hash / 64 % 64) j).map (fun p => (p, j))

/-- The path of a pinned packet to a leaf (R85, R89, R90). -/
def State.pinnedLeaf (s : State) (entry : List Word) (p : Packet) (fromBp : Bool) : Route :=
  let uid := (entry.getD 1 0).toNat
  let hash := flowHash p.src p.dest
  let b := hash % 64
  let detour := if fromBp then Route.noPath else
    match s.pinnedDetour entry hash b with
    | some (pl, j) => .queue (1024 + pl) (some j) (some (uid, b))
    | none => .noPath
  if s.dp.moves.any (fun m => m.bundle == uid && m.bucket == b) ∧ uid ≠ 0 then .moving uid b
  else
    let ms := s.members uid
    match (s.bundle uid).map[b]? with
    | some (.member port) =>
      if ms.contains port then .queue port none (some (uid, b))
      else match ms[b % max 1 ms.length]? with
        | some q => .queue q none (some (uid, b))
        | none => detour
    | some (.plane pl j) =>
      if !fromBp ∧ s.planeUsable pl ∧ s.reaches pl j then .queue (1024 + pl) (some j) (some (uid, b))
      else detour
    | none =>
      match ms[b % max 1 ms.length]? with
      | some q => .queue q none (some (uid, b))
      | none => detour

/-- The plane that sends a sprayed packet's detour: one that reaches its peer now, or the plane chosen, whose slot it
waits for (R86, R294). -/
def State.planeNow (s : State) (p j : Nat) : Nat :=
  if s.reachesNow p j then p
  else ((List.range 64).find? (fun q => s.planeUsable q && s.reachesNow q j)).getD p

/-- The path of a sprayed packet to a leaf (R85, R86). -/
def State.sprayLeaf (s : State) (entry : List Word) (p : Packet) (fromBp : Bool) : Route :=
  let ms := s.members (entry.getD 1 0).toNat
  let ds := if fromBp then [] else
    if ms.isEmpty || (entry.getD 0 0).fld 30 30 == 1 then s.detourPlanes entry else []
  match s.sprayPort p.tc (ms ++ ds.map (1024 + ·)) with
  | none => .noPath
  | some port =>
    if port < 1024 then .queue port none none
    else match s.detourPeer entry (port - 1024) with
      | some j => .detour (port - 1024) (1024 + s.planeNow (port - 1024) j) j
      | none => .noPath

/-- The path of a packet to a peer (R85, R89, R294). -/
def State.peerRoute (s : State) (j : Nat) (p : Packet) : Route :=
  if p.spray = 1 then
    match s.sprayPort p.tc (((List.range 64).filter (fun q => s.planeUsable q && s.reachesNow q j)).map (1024 + ·)) with
    | some port => .queue port (some j) none
    | none => .noPath
  else
    match s.firstPlane (flowHash p.src p.dest / 64 % 64) j with
    | some q => .queue (1024 + q) (some j) none
    | none => .noPath

/-- The path of a packet to a leaf by a leaf destination entry (R81, R85). -/
def State.leafRoute (s : State) (e : List Word) (p : Packet) (fromBp : Bool) : Route :=
  if (e.getD 0 0).fld 31 31 = 0 then .drop drUnroutable
  else if p.spray = 1 then s.sprayLeaf e p fromBp else s.pinnedLeaf e p fromBp

/-- The leaf destination entry that routes a packet, as the active tables stand; empty for every class but Leaf, and where
the override table drops it (R77 step 5, R83). -/
def State.leafEntry (s : State) (p : Packet) : List Word :=
  match s.classOf p, overrideOf s.tab.ovrActive p with
  | .leaf, .inr leaf => Tbl.get (fun _ => [0, 0, 0, 0]) s.tab.leafActive leaf
  | _, _ => []

/-- A port of a BP engine (R26). -/
def isBp (port : Nat) : Bool := decide (1024 ≤ port ∧ port < 1088)

/-- Stages 3 to 7 of R77 for a packet from an ingress port: class, override, path. -/
def State.route (s : State) (port : Nat) (p : Packet) : Route :=
  match s.classOf p with
  | .link => .link
  | .group => .group
  | .unroutable => .drop drUnroutable
  | .own =>
    match overrideOf s.tab.ovrActive p with
    | .inl r => .drop r
    | .inr _ => if p.ty = tyPATH_MARK then .pathMark else .queue (ownEgress p) none none
  | .peer j =>
    match overrideOf s.tab.ovrActive p with
    | .inl r => .drop r
    | .inr _ => if isBp port then .drop drHop else s.peerRoute j p
  | .leaf =>
    match overrideOf s.tab.ovrActive p with
    | .inl r => .drop r
    | .inr leaf => s.leafRoute (Tbl.get (fun _ => [0, 0, 0, 0]) s.tab.leafActive leaf) p (isBp port)

/-- The path of a packet that has been looked up before, by what it latched then: a leaf's entry of its own generation, or
its class (R95, R101). -/
def State.routeLatched (s : State) (it : Item) (p : Packet) : Route :=
  if it.latch ≠ [] then s.leafRoute it.latch p (isBp it.port)
  else
    match s.classOf p with
    | .peer j => s.peerRoute j p
    | .own => if p.ty = tyPATH_MARK then .pathMark else .queue (ownEgress p) none none
    | _ => s.route it.port p

/-- The rotation of detours moves on when a packet takes one (R86). -/
def State.noteDetour (s : State) (via peer : Nat) : State :=
  { s with dp := { s.dp with detourTurn := Tbl.put (fun _ => 0) s.dp.detourTurn via peer } }

/-- The flow hash of an item's packet (R89). -/
def Item.hash (it : Item) : Nat := match it.body with | .ffp p => flowHash p.src p.dest | .eth _ => 0

/-- A bucket's VC carried a packet at this instant, of this flow (R89, R93). -/
def State.noteBucket (s : State) (bucket : Option (Nat × Nat)) (it : Item) : State :=
  match bucket with
  | none => s
  | some (u, b) =>
    let t := Tbl.put (fun _ => none) s.dp.bucketUse ((u * 64 + b) * 4 + it.vc) (some s.now)
    let h := Tbl.put (fun _ => 0) s.dp.bucketHash (u * 64 + b) (it.hash / 64 % 64)
    { s with dp := { s.dp with bucketUse := t, bucketHash := h } }

/-- The move that holds a bucket's packets (R91). -/
def State.bucketMoves (s : State) (u b : Nat) : Bool := s.dp.moves.any (fun m => m.bundle == u && m.bucket == b)

/-- An item held behind its bucket's move: its cells go to the move queue (R91). -/
def State.holdForMove (s : State) (u b : Nat) (it : Item) : State :=
  let s := s.leaveCharge it
  let it := { it with charge := .move, bucket := some (u, b) }
  let ms := s.dp.moves.map (fun m =>
    if m.bundle = u ∧ m.bucket = b then { m with held := m.held ++ [it] } else m)
  { s with dp := { s.dp with moves := ms, moveCells := s.dp.moveCells + it.n } }

/-- Sending an item by its route: to admission, to a move's held packets, to the no-path hold, or to
the unit that takes it. A draw of the spray generator is used up (R86). -/
def State.dispatch (s : State) (it : Item) (r : Route) : State :=
  match r with
  | .queue egress peer bucket =>
    let it := { it with peer := peer, bucket := bucket }
    ((s.noteBucket bucket it).tick).takeIn it egress
  | .detour via egress j => ((s.noteDetour via j).tick).takeIn { it with peer := some j, bucket := none } egress
  | .moving u b => (s.noteBucket (some (u, b)) it).holdForMove u b it
  | .group =>
    let e := match it.body with
      | .ffp p => Tbl.get (fun _ => []) s.tab.grpActive (groupOf p)
      | .eth f => s.floodEntry it.port f.vid
    { s with dp := { s.dp with mcIn := s.dp.mcIn ++ [⟨it, e⟩] } }
  | .pathMark =>
    let s := s.txDone it.id none
    { s with dp := { s.dp with markIn := s.dp.markIn ++ [it] } }
  | .link =>
    let s := (s.bankLeave it.port it.id).freeItem 0 it
    let s := { s with dp := s.dp.releaseCells it.id }
    match it.body with
    | .ffp p => s.setPort it.port { s.port it.port with llq := (s.port it.port).llq ++ [p] }
    | .eth _ => s
  | .noPath => s.tick.holdItem it
  | .drop reason => (s.dropItem reason 0 it).entered it.id

/-- The only path of a frame sent to an Ethernet port is that port (R328). -/
def State.ethPath (s : State) (p : Nat) : Route := if s.inService p then .queue p none none else .noPath

/-- The bucket of a pinned replica to a bundle (R150, R155). -/
def legBucket (leg : Leg) (p : Packet) : Option (Nat × Nat) :=
  match leg with
  | .bundle u => if p.spray = 0 then some (u, bucketOf p.src (groupOf p)) else none
  | _ => none

/-- The way of a replica to its target, and to nothing else: another member of its bundle, an unfenced one if there is one;
the first plane that reaches its peer, from plane 0, MCT.FENCE aside (R95, R148, R151).
(DESIGN CHOICE, log entry 163) -/
def State.legRoute (s : State) (leg : Leg) (p : Packet) : Route :=
  match leg with
  | .bundle u =>
    match legBucket leg p with
    | some (_, b) =>
      if s.bucketMoves u b then .moving u b
      else match (s.replicaMember u p (groupOf p)).orElse (fun _ => (s.members u).head?) with
        | some m => .queue m none (some (u, b))
        | none => .noPath
    | none =>
      match (s.replicaMember u p (groupOf p)).orElse (fun _ => (s.members u).head?) with
      | some m => .queue m none none
      | none => .noPath
  | .peer j => match s.firstPlane 0 j with | some q => .queue (1024 + q) (some j) none | none => .noPath
  | .port q => s.ethPath q

/-- An Ethernet frame sent by R331 to R333: filtered, or on its way, edited. (DEDUCED, log entry 113) -/
def State.dispatchFrame (s : State) (it : Item) (f : EthFrame) : State :=
  match s.ethGoes it.port f with
  | .drop c => s.filterItem c it
  | .flood => s.dispatch it .group
  | .port p f' => s.dispatch { it with body := .eth f' } (s.ethPath p)

/-- An item handed to another path: a replica to its target, a packet by what it latched, a frame to its port
(R95, R101, R328). -/
def State.sendAgain (s : State) (it : Item) : State :=
  match it.leg, it.body with
  | some l, _ => s.dispatch it (s.legRoute l it.pkt)
  | none, .ffp p => s.dispatch it (s.routeLatched it p)
  | none, .eth f => s.dispatchFrame it { f with edit := none }

/-- A held item that finds a way: offered to its queue at once, ahead of nothing and behind nothing of its ingress port,
whose reservation it has left; `none` when it has no path, or must wait (R115 rule 5, R123). -/
def State.offerHeld (s : State) (it : Item) (r : Route) : Option State :=
  match r with
  | .noPath => none
  | .queue egress peer bucket => ((s.noteBucket bucket it).tick).offer { it with peer := peer, bucket := bucket } egress
  | .detour via egress j => ((s.noteDetour via j).tick).offer { it with peer := some j, bucket := none } egress
  | r => some (s.dispatch it r)

/-- A packet in the no-path hold is looked up again, wholly under the generation in force, which it latches (R101, R123);
`none` while it stays. -/
def State.lookupHeld (s : State) (it : Item) : Option State :=
  match it.leg, it.body with
  | some l, _ => s.offerHeld it (s.legRoute l it.pkt)
  | none, .ffp p => s.offerHeld { it with gen := s.tab.gen, latch := s.leafEntry p } (s.route it.port p)
  | none, .eth f =>
    match s.ethGoes it.port f with
    | .drop c => some (s.filterItem c it)
    | .flood => some (s.dispatch it .group)
    | .port q f' => s.offerHeld { it with gen := s.tab.gen, body := .eth f' } (s.ethPath q)

/-- Whether two held items have one destination: DEST in its space, or a frame's MAC address and VLAN (R123). -/
def sameDest (a b : Item) : Bool :=
  match a.body, b.body with
  | .ffp p, .ffp q => destSpine p == destSpine q && p.dest == q.dest && a.leg == b.leg
  | .eth f, .eth g => f.dst == g.dst && f.vid == g.vid
  | _, _ => false

/-! ## The rate limiter of module-originated packets (R125) -/

def State.limit (s : State) (leaf : Nat) : RateLim := Tbl.get (fun _ => RateLim.init) s.dp.limits leaf
def State.setLimit (s : State) (leaf : Nat) (x : RateLim) : State :=
  { s with dp := { s.dp with limits := Tbl.put (fun _ => RateLim.init) s.dp.limits leaf x } }

/-- Whether the limiter acts on a packet: DATA and memory-semantic requests that the module sends to an
endpoint-space destination (R125). -/
def limited (p : Packet) : Bool := !destSpine p && (p.ty == tyDATA || tyRequest p.ty)

/-- Nanoseconds that `b` bytes take at a rate in 2^-16 Gb/s, rounded up. -/
def paceNs (rate b : Nat) : Nat := (b * 8 * 65536 + rate - 1) / max 1 rate

/-- The limiter holds the packet back now. -/
def State.held (s : State) (it : Item) : Bool :=
  match it.body with
  | .ffp p => it.port == 1088 && limited p && s.now < (s.limit (p.dest / 64)).nextAt
  | .eth _ => false

/-- The limiter is charged for a packet that starts (R125). -/
def State.pace (s : State) (it : Item) : State :=
  match it.body with
  | .ffp p =>
    if it.port = 1088 ∧ limited p then
      let l := s.limit (p.dest / 64)
      s.setLimit (p.dest / 64) { l with nextAt := max s.now l.nextAt + paceNs l.rate p.size }
    else s
  | .eth _ => s

/-! ## The lookup (R77) -/

/-- A packet with the MARK that its policer's action asks for (R143). -/
def Item.policed (it : Item) (a : PolAct) : Item :=
  match it.body, a with
  | .ffp p, .markLow => { it with body := .ffp (p.raiseMark 1), marked := p.mark < 1 }
  | .ffp p, .markSevere => { it with body := .ffp (p.raiseMark 3), marked := p.mark < 3 }
  | .eth f, .markLow => { it with body := .eth { f with ce := true } }
  | .eth f, .markSevere => { it with body := .eth { f with ce := true } }
  | _, _ => it

/-- Whether R140 meters an item: not link-local, not VC_RSP, and not PL17's. -/
def metered (it : Item) (p : Packet) : Bool := it.port < 1088 && it.vc != vcRSP && !tyLinkLocal p.ty

/-- Policing, then the route (R140: after the lookup, before admission). A packet that the lookup
drops is not metered. -/
def State.meterAndGo (s : State) (it : Item) (p : Packet) (r : Route) : State :=
  match r with
  | .drop reason => (s.dropItem reason 0 it).entered it.id
  | _ =>
    if metered it p then
      let m := s.police it.port it.tc p.size .green
      match m.2 with
      | .drop => (m.1.dropItem drPolicer 0 it).entered it.id
      | a => m.1.dispatch (it.policed a) r
    else s.dispatch it r

/-- One header through the pipeline: the generation is latched, the checks made, the packet captured,
looked up, metered and admitted (R67, R77, R369). -/
def State.lookup (s : State) (it : Item) (p : Packet) : State :=
  let it := { it with gen := s.tab.gen, latch := s.leafEntry p, via := if it.port < 1024 then s.bundleOf it.port else 0 }
  if it.own then (s.pace it).dispatch it (s.route it.port p)
  else
    match s.ingressCheck it.port p with
    | some reason => (s.dropItem reason 0 it).entered it.id
    | none => (s.capture it.port p).meterAndGo it p ((s.capture it.port p).route it.port p)

/-- The pre-colour that ETH.QOS_k gives (R330). -/
def qosColour (w : Word) : Colour := if w.fld 1 0 = 0 then .green else if w.fld 1 0 = 1 then .yellow else .red

/-- One frame through the pipeline: sent by R331, metered before it is admitted; one that R331 filters is not metered
(R140, R142, R143, R331). -/
def State.lookupFrame (s : State) (it : Item) (f : EthFrame) : State :=
  let it := { it with gen := s.tab.gen }
  match s.ethGoes it.port f with
  | .drop c => s.filterItem c it
  | _ =>
    let m := s.police it.port it.tc f.len (qosColour (s.rd (R.ETH_QOS f.qosIndex)))
    match m.2 with
    | .drop => (m.1.dropItem drPolicer 0 it).entered it.id
    | a =>
      let it := it.policed a
      match it.body with
      | .eth f => m.1.dispatchFrame it f
      | .ffp _ => m.1

/-- The header-queue keys of a pipeline for a VC, in port order; PL17 has its own ingress (R79). -/
def hqKeys (pl vc : Nat) : List Nat :=
  if pl = 17 then [pvKey 1088 vc] else (List.range 64).map (fun i => pvKey (pl * 64 + i) vc)

/-- The re-tune fence (R299): a packet that arrived on a changed plane after the fence waits until every
earlier packet of the BP ports has entered its egress queue. -/
def State.fencedBack (s : State) (it : Item) : Bool :=
  decide (1024 ≤ it.port ∧ it.port < 1088) && s.prism.changed.contains (it.port - 1024) &&
    decide (s.prism.fenceFrom ≤ it.id) && !s.prism.behind.isEmpty

/-- The replication unit takes no packet: its input queue of 1,024 is full, or its island stops (R48, R154). -/
def State.mcastFull (s : State) : Bool := decide (1024 ≤ s.dp.mcIn.length) || s.islandStops 37

/-- A header waits at the key and may be taken: not one behind the re-tune fence (R299), not a multicast packet while the replication unit's
input queue of 1,024 is full (R154), not one that the limiter holds. -/
def State.takeable (s : State) (k : Nat) : Bool :=
  match s.hq k with
  | [] => false
  | it :: _ =>
    !s.held it && !s.fencedBack it &&
      (match it.body with
       | .ffp p => !((p.ty == tyMCAST || p.ty == tyRED_RESULT) && s.mcastFull)
       | .eth f => !(s.ethGoes it.port f == .flood && s.mcastFull))

/-- The key whose head takes the slot: VC_RSP heads first, then the other VCs in rotation (R79); of the ports with a head
of one VC, the lowest. (DESIGN CHOICE, log entry 164) -/
def State.lookupKey (s : State) (pl : Nat) : Option Nat :=
  let turn := Tbl.get (fun _ => 0) s.dp.hqTurn pl
  let order := [vcRSP] ++ (if turn = vcREQ then [vcCOLL, vcBULK, vcREQ]
    else if turn = vcCOLL then [vcBULK, vcREQ, vcCOLL] else [vcREQ, vcCOLL, vcBULK])
  (order.flatMap (hqKeys pl)).find? (fun k => s.takeable k)

/-- Whether a header still waits in a pipeline's queues (R79). -/
def State.headerWaits (s : State) (pl : Nat) : Bool :=
  (List.range 4).any (fun v => (hqKeys pl v).any (fun k => !(s.hq k).isEmpty))

/-- The oldest received header of a port whose part of the header queue has room; at PL17 also one whose cells its
reservation takes (R79, R112). A header of another VC never waits behind it. -/
def State.arriving (s : State) (port : Nat) : Option Item :=
  (s.rx port).find? (fun it => decide ((s.hq (pvKey port it.vc)).length < 16) && (port != 1088 || s.pl17Room it.vc it.n))

/-- HEADER_ARRIVAL (R79): a received header of a port enters the part of its own VC; the cycle counts while a header of
the pipeline waits. Port 1088 is PL17's ingress, where the packet's cells are charged as it enters (R112). -/
def execHeaderArrival (port : Fin 1089) (s : State) : Host.Outcome State Fault Refusal :=
  match (if s.islandHeld (6 + pipeOf port) then none else s.arriving port) with
  | none => ok (if s.headerWaits (pipeOf port) then s.countCycle (C.PL_HDR_STALL (pipeOf port)) else s)
  | some it =>
    let k := pvKey port it.vc
    let own : Bool := port.val == 1088
    let s := (s.setRx port ((s.rx port).filter (fun x => x.id != it.id))).setHq k
      (s.hq k ++ [if own then { it with charge := .reserved } else it])
    let s := if own then { s with dp := { s.dp with inRsv := addAt s.dp.inRsv k it.n } } else s
    ok (if 1 < (s.hq k).length then s.countCycle (C.PL_HDR_STALL (pipeOf port)) else s)

/-- The write queue of 256 cells, 32 of them kept for VC_RSP, has room for `n` cells of a VC (R109). -/
def State.bankRoom (s : State) (pl vc n : Nat) : Bool :=
  let l := s.bankWaiting pl
  let all := (l.map (·.n)).sum
  let other := ((l.filter (fun x => x.vc != vcRSP)).map (·.n)).sum
  all + n ≤ 256 && (vc == vcRSP || other + n ≤ 224)

/-- A packet's cells held in the write queue; the cycle counts in BANK_STALL (R109). -/
def State.bankHold (s : State) (pl : Nat) (it : Item) : State :=
  (s.setBankQ pl (s.bankWaiting pl ++ [⟨it.vc, it.n, it.id, it.port, false⟩])).countCycle C.BUF_BANK_STALL

/-- The cells of an item reach their banks, or wait in the write queue (R108, R109). -/
def State.bankWrite (s : State) (pl : Nat) (bank : Bool) (it : Item) : State :=
  if bank then s.writeCells it else s.bankHold pl it

end Sys2Proof.Machine
end

