-- ==== Sys2Proof/Machine/Maint.lean ====
section
/-!
DEFINITION. Maintenance locks (20_health_telemetry_maintenance.md, R430, R431): which locks each activity
takes, which activities conflict, and the requests served first in, first out.
-/
namespace Sys2Proof.Machine

/-- The locks of R430. -/
inductive Lock where
  | port (p : Nat)
  | pipe (n : Nat)
  | oe (e : Nat)
  | eng (e : Nat)
  | mem (d : Nat)
  | cxl (k : Nat)
  | isl (i : Nat)
  | core | hub | flash
  | dom (n : Nat)
deriving DecidableEq, Repr

/-- The optical engine of a port (R32). -/
def engineOf (port : Nat) : Nat := if port < 1024 then port / 64 else 16 + (port - 1024) / 32
/-- The domain of an optical engine (R43). -/
def opticalDomain (e : Nat) : Nat := if e < 8 then 17 else if e < 16 then 18 else 19

/-- The unit locks of an island (R407, R430). -/
def unitLocks (i : Nat) : List Lock :=
  if i = 0 then []
  else if i ≤ 5 then [.hub]
  else if i ≤ 23 then [.pipe (i - 6)]
  else if i ≤ 31 then []
  else if i ≤ 41 then [.core]
  else if i ≤ 53 then
    (if (i - 42) % 3 = 2 then [.eng (2 * ((i - 42) / 3)), .eng (2 * ((i - 42) / 3) + 1)]
     else [.eng (2 * ((i - 42) / 3) + (i - 42) % 3)])
  else if i ≤ 73 then [.mem ((i - 54) / 5)]
  else if i ≤ 89 then [.oe ((i - 74) % 8)]
  else if i ≤ 105 then [.oe (8 + (i - 90) % 8)]
  else if i ≤ 109 then [.oe (16 + (i - 106) % 2)]
  else if i = 110 then (List.range 8).map Lock.cxl
  else []

/-- The locks of an activity; true: exclusive (R430). -/
def Activity.locks : Activity → List (Lock × Bool)
  | .drain p => [(.port p, true), (.pipe (pipeOf p), false), (.oe (engineOf p), false)]
  | .retrain p => [(.port p, true), (.pipe (pipeOf p), false), (.oe (engineOf p), false)]
  | .portReset p => [(.port p, true), (.pipe (pipeOf p), false), (.oe (engineOf p), false)]
  | .takeover e l =>
    [(.port (if e < 16 then e * 64 + l % 128 / 2 else 1024 + (e - 16) * 32 + l % 64 / 2), true), (.oe e, false)]
  | .offline e => [(.eng e, true)]
  | .resume e => [(.eng e, true)]
  | .lanes e _ _ => [(.eng e, true)]
  | .stack k => [(.mem (k / 8), true)]
  | .cxlAdd k => [(.cxl k, true)]
  | .cxlRemove k => [(.cxl k, true)]
  | .ucode i _ => (Lock.isl i, true) :: (unitLocks i).map (·, true)
  | .flash _ _ => [(.flash, true)]
  | .domain n _ => [(.dom n, true)]

/-- The domain that a lock lies in. -/
def Lock.domain : Lock → Nat
  | .port p => portDomain p
  | .pipe n => pipelineDomain n
  | .oe e => opticalDomain e
  | .eng e => 9 + e / 2
  | .mem d => 13 + d
  | .cxl _ => 20
  | .isl i => islandDomain i
  | .core => 8
  | .hub => 2
  | .flash => 2
  | .dom n => n

/-- The domains that a domain requires, directly or through another (R43). -/
def requiresAll (n : Nat) : List Nat :=
  if n = 2 ∨ n = 8 then [1]
  else if n = 6 ∨ n = 7 then [8, 1]
  else if n = 3 ∨ n = 4 ∨ n = 5 then [8, 6, 7, 1]
  else if 9 ≤ n ∧ n ≤ 12 then [n + 4, 5, 8, 6, 7, 1]
  else if 13 ≤ n ∧ n ≤ 16 then [5, 8, 6, 7, 1]
  else if n = 17 then [3, 8, 6, 7, 1]
  else if n = 18 then [4, 8, 6, 7, 1]
  else if n = 19 then [5, 8, 6, 7, 1]
  else if n = 20 then [2, 8, 13, 14, 15, 16, 5, 6, 7, 1]
  else []

/-- The domain that an activity takes whole, if it does. -/
def Activity.wholeDomain : Activity → Option Nat
  | .domain n _ => some n
  | _ => none

/-- Whether a holder of domain PDn keeps an activity out: it holds every lock inside the domain, and the
domains that require it or that it requires conflict with it (R430). -/
def domainConflict (n : Nat) (b : Activity) : Bool :=
  match b.wholeDomain with
  | some m => m == n || (requiresAll n).contains m || (requiresAll m).contains n
  | none => b.locks.any (fun l => l.1.domain == n)

/-- Whether two activities conflict (R430): one holds exclusively a lock that the other holds. -/
def Activity.conflicts (a b : Activity) : Bool :=
  match a.wholeDomain with
  | some n => domainConflict n b
  | none =>
    match b.wholeDomain with
    | some m => domainConflict m a
    | none => a.locks.any (fun x => b.locks.any (fun y => x.1 == y.1 && (x.2 || y.2)))

/-- The activity's code of R430. -/
def Activity.code : Activity → Nat
  | .drain _ | .retrain _ | .portReset _ => 1
  | .takeover _ _ => 2
  | .offline _ | .resume _ => 3
  | .lanes _ _ _ => 4
  | .stack _ => 5
  | .cxlAdd _ | .cxlRemove _ => 6
  | .ucode _ _ => 7
  | .flash _ _ => 8
  | .domain _ _ => 9

/-- KIND and INDEX of the activity's unit, as ARG1 of EV_MAINT (R372, R431). -/
def Activity.unit : Activity → Nat
  | .drain p | .retrain p | .portReset p => (srcPort p).1 * 2 ^ 24 + (srcPort p).2
  | .takeover e l => 0x0B * 2 ^ 24 + e * 256 + l
  | .offline e | .resume e => 0x06 * 2 ^ 24 + e
  | .lanes e _ _ => 0x06 * 2 ^ 24 + e
  | .stack k => 0x09 * 2 ^ 24 + k
  | .cxlAdd k | .cxlRemove k => 0x0A * 2 ^ 24 + k
  | .ucode i _ => 0x10 * 2 ^ 24 + i
  | .flash _ _ => 0x0F * 2 ^ 24
  | .domain n _ => 0x05 * 2 ^ 24 + n

/-- EV_MAINT (R431): 0 waiting, 1 started, 2 done, 3 abandoned. -/
def State.maintEvent (s : State) (a : Activity) (st : Nat) : State := s.raise (modEv 0x0904 0 a.code a.unit st)

/-- Whether an activity that stands behind `ahead` in the queue may be granted its locks: it conflicts
with none of them, running or waiting (R431). -/
def grantable (ahead : List (Activity × Bool)) (a : Activity) : Bool := ahead.all (fun x => !a.conflicts x.1)

/-- An activity requested (R431): granted at once when it conflicts with none before it, else it waits. -/
def State.requestMaint (s : State) (a : Activity) (start : State → State) : State :=
  if grantable s.maint a then
    start (({ s with maint := s.maint ++ [(a, true)] } : State).maintEvent a 1)
  else ({ s with maint := s.maint ++ [(a, false)] } : State).maintEvent a 0

/-- The first running entry of an activity taken out. -/
def dropActivity (a : Activity) : List (Activity × Bool) → List (Activity × Bool)
  | [] => []
  | x :: l => if x = (a, true) then l else x :: dropActivity a l

/-- Whether an activity runs. -/
def State.maintRuns (s : State) (a : Activity) : Bool := s.maint.contains (a, true)

/-- A running activity ends, done (2) or abandoned (3), and its locks are released (R431). -/
def State.endMaint (s : State) (a : Activity) (st : Nat) : State :=
  if s.maintRuns a then ({ s with maint := dropActivity a s.maint } : State).maintEvent a st else s

/-- The first waiting activity whose locks are free of every activity before it. -/
def firstGrantable : List (Activity × Bool) → List (Activity × Bool) → Option (Activity × List (Activity × Bool))
  | _, [] => none
  | ahead, x :: rest =>
    if !x.2 && grantable ahead x.1 then some (x.1, ahead ++ (x.1, true) :: rest)
    else firstGrantable (ahead ++ [x]) rest

end Sys2Proof.Machine
end

