-- ==== Sys2Proof/Machine/Links.lean ====
section
/-!
DEFINITION. Shared operations of the link layer (14_links_and_retry.md): sending a packet over a link as
data flits kept for replay, replay, acknowledgement, link-local packets, handover and path moves
(R90, R91, R95, R96), and a link declared down (R317, R318).
-/
namespace Sys2Proof.Machine

/-! ## Sending (R313, R319) -/

/-- A packet sent on a link: its flits enter the replay buffer, its cells take credits, and it is kept
with the FSEQ of the flit that holds its last byte (R110, R319). -/
def State.linkSend (s : State) (port k : Nat) (it : Item) (p : Packet) : State :=
  let l := s.link k
  let fl := dataFlits 40 l.txNext true p.bytes
  let last := (l.txNext + fl.length - 1) % 4096
  let l' := { l with
    txNext := (l.txNext + fl.length) % 4096, replay := l.replay ++ fl, sent := l.sent ++ [(last, it)],
    since := if l.replay.isEmpty then s.now else l.since,
    ackAt := if l.replay.isEmpty then s.now else l.ackAt,
    credits := l.credits.set it.vc (l.credits.get it.vc - it.n),
    txCells := l.txCells.set it.vc (l.txCells.get it.vc + it.n),
    flitsSent := l.flitsSent + fl.length }
  let s := s.setLink k l'
  let s := s.xPass (engineOf port) (flits64 p.size)
  { s with out := (fl.map (Out.flit port)).reverse ++ s.out }

/-- A link-local packet sent in a control flit, which counts (R57, R314); an Ethernet port has none (R328). -/
def State.sendLocal (s : State) (port : Nat) (p : Packet) : State :=
  if (s.port port).eth then s
  else
  { s with out := .linkLocal port p :: s.out, cnt := bumpTbl s.cnt (C.PL_LINK_CNT (port / 64) (port % 64) 7) 1 }

/-- A link-local packet of a type, with words 5 to 7 (R65). -/
def localPacket (ty : Nat) (words : List Word) : Packet := mkPacket { ty := ty, vc := vcRSP } words []

/-- LC_IDENT as the module sends it on a port (R65). -/
def State.identPacket (s : State) (port : Nat) : Packet :=
  let w5 := ((((0 : Word).setFld 31 30 2).setFld 27 18 s.spineId).setFld 17 10 (port % 256)).setFld 9 6 (s.port port).member
  localPacket tyLC_IDENT [w5, if s.assigned then BitVec.ofNat 32 (s.spineId + 1) else 0]

/-- LC_WITHDRAW with a REASON (R65), sent in four consecutive control flits (R314). -/
def State.sendWithdraw (s : State) (port reason : Nat) : State :=
  let p := localPacket tyLC_WITHDRAW [(0 : Word).setFld 31 28 reason]
  (((s.sendLocal port p).sendLocal port p).sendLocal port p).sendLocal port p

/-- LC_READY, sent in four consecutive control flits (R65, R314). -/
def State.sendReady (s : State) (port : Nat) : State :=
  let p := localPacket tyLC_READY []
  (((s.sendLocal port p).sendLocal port p).sendLocal port p).sendLocal port p

/-- The ports in service, in rising order. -/
def State.portsUp (s : State) : List Nat := (s.ports.filter (fun kp => kp.2.st == .up)).map (·.1)

/-! ## Originating packets (R68, R127) -/

/-- A packet that the module originates, as an item of PL17's ingress. -/
def ownItem (id gen now : Nat) (p : Packet) (charge : Charge) : Item :=
  { id := id, body := .ffp p, port := 1088, tc := p.tc, vc := p.vc, n := cellsOf p.size, gen := gen, since := now,
    charge := charge, peer := none, bucket := none, own := true, mcast := none, leg := none, marked := false,
    spray := p.spray == 1, cut := false, sender := none, latch := [], via := 0 }

/-- A packet that the module originates waits before PL17's ingress; its cells are charged to PL17's reservation as it
enters (R112). A module that takes no part in the fabric originates nothing (R23, R30). (DEDUCED, log entry 171) -/
def State.originate (s : State) (p : Packet) : State :=
  let it := ownItem s.dp.nextId s.tab.gen s.now p .none
  if !s.joined then s else
  { s with dp := { s.dp with nextId := s.dp.nextId + 1, rx := Tbl.put (fun _ => []) s.dp.rx 1088 (s.rx 1088 ++ [it]) } }

/-- A packet of the module's own in the series of (home, DEST), which takes the next SEQ (R68). -/
def State.originateSeq (s : State) (home : Nat) (h : HeaderSpec) (words : List Word) (payload : List Byte) : State :=
  let p := mkPacket { h with src := s.homeId home, sspace := 1, seq := s.nextSeq home h.dspace h.dest } words payload
  (s.takeSeq home h.dspace h.dest).originate p

/-! ## Path moves (R90, R91, R93, R95, R96) -/

/-- The buckets whose map names a path. -/
def bucketsOn (b : Bundle) (path : Path) : List Nat :=
  (List.range b.map.length).filter (fun i => b.map[i]? == some path)

/-- Buckets that a map places on a member. -/
def countOn (b : Bundle) (port : Nat) : Nat := (bucketsOn b (.member port)).length

/-- The member of a list that holds the fewest buckets; the first among equals. -/
def fewest (b : Bundle) : List Nat → Option Nat
  | [] => none
  | p :: ps =>
    match fewest b ps with
    | none => some p
    | some q => if countOn b p ≤ countOn b q then some p else some q

/-- The new path of a bucket that leaves a path: an in-service member other than the old one, with a
non-zero W_BASE if there is one, with the fewest buckets, of the lowest MEMBER; else, with no member in service at all, a
detour (R90). The plane of a detour is the first that reaches the peer from plane H[11:6] of the bucket's latest packet; of
several leaf entries that name the switch, the active one of the lowest leaf ID gives the mask.
(DESIGN CHOICE, log entry 165) -/
def State.newPath (s : State) (uid bucket : Nat) (b : Bundle) (old : Path) : Option Path :=
  let ms := (s.members uid).filter (fun p => decide (Path.member p ≠ old))
  match fewest b (ms.filter (fun p => s.wBase p != 0)) with
  | some p => some (.member p)
  | none =>
    match fewest b ms with
    | some p => some (.member p)
    | none =>
      let e := if !(s.members uid).isEmpty then none else
         (s.tab.leafActive.find? (fun ke => (ke.2.getD 1 0).toNat == uid && (ke.2.getD 0 0).fld 31 31 == 1)).map (·.2)
      match e with
      | none => none
      | some e =>
        let l := s.detourPeers e
        match l[bucket % max 1 l.length]? with
        | none => none
        | some j =>
          (s.firstPlane (Tbl.get (fun _ => 0) s.dp.bucketHash (uid * 64 + bucket)) j).map (fun p => Path.plane p j)

/-- Items taken out of a queue, on-die and spilled, in order. -/
def EQueue.extract (mine : Item → Bool) (q : EQueue) : List Item × EQueue :=
  (q.head.filter mine ++ q.spill.flatMap (fun b => b.items.filter mine) ++ q.tail.filter mine,
   { q with head := q.head.filter (fun it => !mine it),
            spill := q.spill.map (fun b => { b with items := b.items.filter (fun it => !mine it) }),
            tail := q.tail.filter (fun it => !mine it) })

/-- Items of a bucket taken out of a queue. -/
def takeBucket (u b : Nat) (q : EQueue) : List Item × EQueue := q.extract (fun it => it.bucket == some (u, b))

/-- The queue whose spilled segment is empty has its tail on-die at the head again (R119). -/
def EQueue.settle (q : EQueue) : EQueue :=
  if q.spill.isEmpty then { q with head := q.head ++ q.tail, tail := [] } else q

/-- Spill blocks that handed over all their packets are gone: those in HBM count as read back (R127). -/
def State.pruneSpill (s : State) (k : Nat) : State :=
  let q := s.queue k
  let gone := q.spill.filter (fun b => b.items.isEmpty && (b.st == .inHbm || b.st == .reading))
  let s := s.setQueue k { q with spill := q.spill.filter (fun b => !b.items.isEmpty) }.settle
  { s with dp := { s.dp with blocksRead := s.dp.blocksRead + gone.length } }

/-- A queue that packets were taken from: spill blocks left empty are gone, and a queue left empty loses its TC's deficit
(R119, R132). -/
def State.emptied (s : State) (k : Nat) : State :=
  let s := s.pruneSpill k
  let q := s.queue k
  if q.head.isEmpty ∧ q.spill.isEmpty ∧ q.tail.isEmpty then
    { s with sched := { s.sched with deficit := Tbl.put (fun _ => 0) s.sched.deficit k 0 } }
  else s

/-- An item whose cells go from its queue's charge to the move queue (R91, R95); a replica takes cells of its own. -/
def State.toMove (s : State) (k : Nat) (it : Item) : State :=
  let s := (s.freeItem k it).keepCells it
  { s with dp := { s.dp with moveCells := s.dp.moveCells + it.n } }

/-- An item as the move queue holds it. -/
def Item.moving (it : Item) : Item := { it with charge := .move, mcast := none }

/-- The egress port of a path. -/
def Path.egress : Path → Nat
  | .member p => p
  | .plane p _ => 1024 + p

/-- Items that wait in the old path's queues are held first, their cells in the move queue
(R91: nothing more of the bucket is sent on the old path). -/
def State.pullBucket (s : State) (u b : Nat) (old : Path) : Nat → List Item × State
  | 0 => ([], s)
  | t + 1 =>
    let r := s.pullBucket u b old t
    let k := qKey old.egress t
    let tk := takeBucket u b (r.2.queue k)
    let s' := r.2.setQueue k tk.2
    let s' := (forEach (fun it (x : State) => x.toMove k it) tk.1 s').emptied k
    (r.1 ++ tk.1.map Item.moving, s')

/-- Whether a packet of the bucket is sent on a link and not yet acknowledged there (R91). -/
def State.bucketUnacked (s : State) (u b : Nat) (old : Path) : Bool :=
  let k := match old with
    | .member p => s.linkKey p 0
    | .plane p j => s.linkKey (1024 + p) j
  (s.link k).sent.any (fun x => x.2.bucket == some (u, b))

def State.settleNs (s : State) : Nat := s.fld R.BUF_FWD_MOVE_CTRL 31 16 * 1000
def State.markTimeoutNs (s : State) : Nat := s.fld R.BUF_FWD_MOVE_CTRL 15 0 * 1000

/-- The VCs on which a bucket has had packets in the last MARK_TIMEOUT_US (R93); with no timeout, on
which it has had packets. -/
def State.recentVcs (s : State) (u b : Nat) : List Nat :=
  (List.range 4).filter (fun v =>
    match Tbl.get (fun _ => none) s.dp.bucketUse ((u * 64 + b) * 4 + v) with
    | none => false
    | some t => s.markTimeoutNs == 0 || s.now ≤ t + s.markTimeoutNs)

/-- One PATH_MARK on the old plane for a VC: straight to the plane's queue of the mark's TC, in the
series of (HOME 0, the peer's HOME 0) (R93). -/
def State.sendMark (s : State) (plane peer vc : Nat) : State :=
  let dest := (s.peer peer).spineId * 4
  let seq := s.nextSeq 0 1 dest
  let p := mkPacket { ty := tyPATH_MARK, vc := vc, dest := dest, dspace := 1, src := s.homeId 0, sspace := 1, seq := seq } [] []
  let it := { ownItem s.dp.nextId s.tab.gen s.now p .none with peer := some peer }
  let s := s.takeSeq 0 1 dest
  let s := { s with dp := { s.dp with nextId := s.dp.nextId + 1 } }
  (s.writeCells it).takeIn it (1024 + plane)

/-- The phase in which a move off an old path begins: a live member waits for acknowledgements; a live
plane waits for its marks (R91, R93). Answers the phase and the state with the marks sent. -/
def State.beginPhase (s : State) (u b : Nat) (old : Path) : MovePhase × State :=
  match old with
  | .member _ =>
    if s.bucketUnacked u b old then (.acks, s) else (.settle (s.now + s.settleNs), s)
  | .plane p j =>
    let dest := (s.peer j).spineId * 4
    let vcs := s.recentVcs u b
    let seq0 := s.nextSeq 0 1 dest
    let marks := (List.range vcs.length).zip vcs |>.map (fun x => (x.2, (seq0 + x.1) % 2 ^ 24))
    (.marks marks (if s.markTimeoutNs = 0 then none else some (s.now + s.markTimeoutNs)),
     forEach (fun v s => s.sendMark p j v) vcs s)

/-- Whether a held packet may take its bucket's new path: it carries traffic, and a detour takes no packet that came over
Prism (R26) and no replica (R150). -/
def State.pathTakes (s : State) (new : Path) (it : Item) : Bool :=
  match new with
  | .member p => s.inService p
  | .plane p j => !isBp it.port && it.leg.isNone && s.planeUsable p && s.reaches p j

/-- A held packet released to the new path, under admission (R91), or by another way where that path does not take it. -/
def State.releaseItem (s : State) (new : Path) (it : Item) : State :=
  if s.pathTakes new it then
    match new with
    | .member p => s.takeIn it p
    | .plane p j => s.takeIn { it with peer := some j } (1024 + p)
  else s.sendAgain it

/-- The end of a move: its held packets go to the new path in order; the move counts, and a forced one
counts again and raises the path-move event (R91, R96). -/
def State.finishMove (s : State) (m : Move) (forced : Option Nat) : State :=
  let s := { s with dp := { s.dp with
    moves := s.dp.moves.filter (fun x => !(x.bundle == m.bundle && x.bucket == m.bucket)) } }
  let s := s.bump C.BUF_FWD_MOVES 1
  let s := match forced with
    | none => s
    | some cause => (s.bump C.BUF_FWD_FORCED 1).raise
        { code := 0x0201, sev := 1, kind := 0x11, index := s.bundleIndex m.bundle, arg0 := m.bucket, arg1 := cause }
  forEach (fun it s => s.releaseItem m.new it) m.held s

/-- A move that has every mark it needs is complete (R93). -/
def State.settleMarks (s : State) (m : Move) : State :=
  match m.phase with
  | .marks [] _ => s.finishMove m none
  | _ => s

/-- A bucket that moves already takes another new path, behind the fence it waits for: nothing of it has been sent on the
path that it would have taken (R90, R91). -/
def State.turnMove (s : State) (u b : Nat) (new : Path) : State :=
  let bd := s.bundle u
  let s := s.setBundle u { bd with map := bd.map.set b new }
  { s with dp := { s.dp with moves := s.dp.moves.map (fun m => if m.bundle = u ∧ m.bucket = b then { m with new := new } else m) } }

/-- PATH_MOVE_START (R91): a bucket's move is decided. The map names the new path at once for the
placements of later moves; packets are held until the fence ends. `fence`: the old path's link is down, and the held packets
wait until an instant (R95). (DEDUCED, log entry 34) -/
def State.startMove (s : State) (u b : Nat) (old new : Path) (fence : Option Nat) : State :=
  if s.bucketMoves u b then s.turnMove u b new
  else
    let r := s.pullBucket u b old 8
    let ph := match fence with
      | none => r.2.beginPhase u b old
      | some t => (.settle t, r.2)
    let bd := ph.2.bundle u
    let s := ph.2.setBundle u { bd with map := bd.map.set b new }
    let m : Move := ⟨u, b, old, new, ph.1, r.1⟩
    ({ s with dp := { s.dp with moves := s.dp.moves ++ [m] } } : State).settleMarks m

/-- Moving every bucket of a list off a path, each seeing the placements before it (R90). -/
def State.moveBuckets (u : Nat) (old : Path) (fence : Option Nat) : List Nat → State → State
  | [], s => s
  | b :: bs, s =>
    match s.newPath u b (s.bundle u) old with
    | some new => State.moveBuckets u old fence bs (s.startMove u b old new fence)
    | none => State.moveBuckets u old fence bs s

/-- Every bucket of every bundle that is pinned to a path starts its move (R90, R95, R106). -/
def State.moveOff (s : State) (old : Path) (fence : Option Nat) : State :=
  forEach (fun u (s : State) => State.moveBuckets u old fence (bucketsOn (s.bundle u) old) s)
    (Tbl.keys s.dp.bundles) s

/-- A move in its settle wait ends. Off a bundle member it is forced, with cause 2, when SETTLE_US is 0;
off a Prism plane whose link is down it is forced, with cause 1 when the peer is dead, else 3 (R95). -/
def State.endSettle (s : State) (m : Move) : State :=
  match m.old with
  | .member _ => s.finishMove m (if s.settleNs = 0 then some 2 else none)
  | .plane _ j => s.finishMove m (some (if (s.peer j).st = .dead then 1 else 3))

/-! ## Acknowledgement (R314, R319) -/

/-- Flits acknowledged by an ACK_FSEQ: those before it in the replay buffer (R319). -/
def ackedCount (l : Link) (ack : Nat) : Nat :=
  let base := (l.txNext + 4096 - l.replay.length) % 4096
  let d := (ack + 4096 - base) % 4096
  if d ≤ l.replay.length then d else 0

/-- The link after an acknowledgement: flits and packets before ACK_FSEQ leave the buffer. -/
def Link.acked (l : Link) (ack now : Nat) : Link :=
  let n := ackedCount l ack
  let left := l.replay.drop n
  let base := (l.txNext + 4096 - left.length) % 4096
  { l with replay := left,
           sent := l.sent.filter (fun x => (x.1 + 4096 - base) % 4096 < left.length),
           since := if n = 0 then l.since else now, replays := if n = 0 then l.replays else 0,
           flitsAcked := l.flitsAcked + n, ackAt := if n = 0 then l.ackAt else now }

/-- Moves that waited for a link's acknowledgements enter their settle wait when every packet of the
bucket is acknowledged (R91). -/
def State.checkAcks (s : State) : State :=
  let ms := s.dp.moves.map (fun m =>
    if m.phase = .acks ∧ !s.bucketUnacked m.bundle m.bucket m.old then
      { m with phase := .settle (s.now + s.settleNs) } else m)
  { s with dp := { s.dp with moves := ms } }

/-! ## The no-path hold looked up again (R123) -/

/-- NOPATH_RECONSIDER: held packets are looked up again, in order, under the generation in force; those
that find a path and are admitted leave the hold. One that stays, for want of a path or of room, keeps every later packet of
its destination behind it. -/
def reconsiderAll : List Item → State → State
  | [], s => s
  | it :: l, s =>
    let stay := { s with dp := { s.dp with hold := s.dp.hold ++ [it] } }
    if s.dp.hold.any (sameDest it) then reconsiderAll l stay
    else
      match s.lookupHeld it with
      | some s' => reconsiderAll l s'
      | none => reconsiderAll l stay

def State.reconsider (s : State) : State :=
  reconsiderAll s.dp.hold { s with dp := { s.dp with hold := [] } }

/-! ## Handover and link down (R95, R317, R318) -/

/-- A packet handed over to another path: a sprayed one is routed again; a pinned one follows its
bucket's move; a replica goes to its target; a frame has no other path and waits for its port (R328); the
cells are charged anew (R95). -/
def State.handOver (s : State) (it : Item) : State :=
  let s := if it.charge = .none then { s with dp := { s.dp with moveCells := s.dp.moveCells + it.n } } else s
  (s.keepCells it).sendAgain it.moving

/-- Every item of a port's queues, on-die and spilled, oldest first per TC, with the queue's key; the
queues are left empty. -/
def State.drainQueues (s : State) (egress : Nat) : Nat → List (Nat × Item) × State
  | 0 => ([], s)
  | t + 1 =>
    let r := s.drainQueues egress t
    let k := qKey egress t
    let q := r.2.queue k
    let x := q.extract (fun _ => true)
    (r.1 ++ x.1.map (fun it => (k, it)), r.2.setQueue k x.2)

/-- The items held for a move's start, with their cells taken into the move queue; queues left empty lose their
deficits. -/
def State.toMoveCells (s : State) (l : List (Nat × Item)) : State :=
  forEach (fun x (s : State) => (s.toMove x.1 x.2).emptied x.1) l s

/-- REPLAY_HANDOVER (R95): packets of the replay buffer, then of the queues. Pinned buckets of the port
start their moves and hold their packets first; sprayed packets are spread again. The move's fence
counts from the failed link's last acknowledgement. -/
def State.replayHandover (s : State) (port : Nat) (keys : List Nat) : State :=
  let sent := keys.flatMap (fun k => (s.link k).sent.map (fun x => { x.2 with charge := .none, own := true }))
    ++ (s.dp.flying.filter (fun f => f.egress == port)).map (fun f => { f.item with charge := .none, own := true })
  let lastAck := (keys.map (fun k => (s.link k).ackAt)).foldl max 0
  let s := forEach (fun k (s : State) =>
    let l := s.link k
    s.setLink k { l with replay := [], sent := [], flitsVoided := l.flitsVoided + l.replay.length }) keys s
  let s := { s with dp := { s.dp with flying := s.dp.flying.filter (fun f => f.egress != port) } }
  let q := s.drainQueues port 8
  let s := q.2.toMoveCells q.1
  let items := sent ++ q.1.map (fun x => { x.2 with charge := .move })
  let s := { s with dp := { s.dp with moveCells := s.dp.moveCells + cellsIn sent } }
  let s := if port < 1024 then s.moveOff (.member port) (some (lastAck + s.settleNs))
    else forEach (fun j (s : State) => s.moveOff (.plane (port - 1024) j) (some s.now)) (List.range 64) s
  let s := { s with dp := { s.dp with moves := s.dp.moves.map (fun m =>
    match m.phase, m.old with
    | .settle _, .member p => if p = port then { m with phase := .settle (lastAck + s.settleNs) } else m
    | .marks _ _, .plane p _ => if 1024 + p = port then { m with phase := .settle s.now } else m
    | .acks, .member p => if p = port then { m with phase := .settle (lastAck + s.settleNs) } else m
    | _, _ => m) } }
  forEach (fun it s => s.handOver it.moving) items s

/-- Bytes of a packet not yet whole are discarded, and the cells charged for them freed (R318). -/
def Link.voided (l : Link) : Link :=
  { l with rxBytes := [], nakAt := none, credits := .zero, replay := [], sent := [],
           flitsVoided := l.flitsVoided + l.replay.length }

/-- The keys of a port's links. -/
def linkKeys (port : Nat) : List Nat :=
  if port < 1024 then [port * 64] else (List.range 64).map (fun j => port * 64 + j)

/-! ## Beginning to train (R315) -/

/-- PLn.PORT_CTRL_p of a port. -/
def portCtrl (port : Nat) : Nat := R.PL_PORT_CTRL (port / 64) (port % 64)

/-- The port's domains are on and the die link of its engine is up (R35, R315). -/
def State.portPowered (s : State) (port : Nat) : Bool :=
  s.on (portDomain port) && s.on (opticalDomain (engineOf port)) && s.fld (R.GLB_D2D_STAT (engineOf port)) 31 31 == 1

/-- Only one lane of a port may run: shedding level 4 and above, or M2 (R316, R377, R387). -/
def State.oneLane (s : State) : Bool := 4 ≤ s.fld R.PWR_SUPPLY_STAT 15 13 || s.fld R.PWR_MSTATE 29 28 == 2

/-- The lanes of a mask that are not in another. -/
def lanesMinus (a b : Nat) : Nat := a - (a &&& b)

/-- What the heat of its laser site does to a port (R383). -/
def State.siteHeat (s : State) (port : Nat) : SiteHeat := Tbl.get (fun _ => .cool) s.pwr.sites (engineOf port)

/-- The lanes that a port may use: LANE_MASK, without lanes held out for overload or a failed laser, and
one lane alone where only one may run: the one in use, else the lower
(R316, R383). -/
def State.lanesAllowed (s : State) (port : Nat) : Nat :=
  let p := s.port port
  let m := lanesMinus (lanesMinus (s.fld (portCtrl port) 1 0) p.overload) p.laserOut
  if s.oneLane || s.siteHeat port == .oneLane then
    (if p.lanesUp = 2 then m &&& 2 else if m % 2 = 1 then 1 else m)
  else m

/-- The islands that a port needs: its pipeline, its engine, the core end of the engine's die link (R407). -/
def portIslands (port : Nat) : List Nat :=
  let e := engineOf port
  [6 + pipeOf port] ++ (if e < 8 then [74 + e, 82 + e] else if e < 16 then [82 + e, 90 + e] else [90 + e, 92 + e])

/-- A port isolated by the ledger, alone, with its pipeline or with an island that it needs: EN is held at 0
(R419). -/
def State.portIsolated (s : State) (port : Nat) : Bool :=
  s.tel.isolated.contains (srcPort port) || s.tel.isolated.contains (0x03, pipeOf port) && port / 64 != 16
    || (portIslands port).any s.islandHeld

/-- Whether a port trains: boot is complete, it is enabled with its domains on; a BP port only in a Prism
domain, not while listening and not on a plane that is dark (R22, R30, R302, R315). (DEDUCED, log entry 30) -/
def State.mayTrain (s : State) (port : Nat) : Bool :=
  s.booted && s.portPowered port && s.siteHeat port != .dark && !s.portIsolated port && s.fld (portCtrl port) 31 31 == 1 && s.fld (portCtrl port) 1 0 != 0 &&
    (port < 1024 || (s.prismMember && s.prism.listenEnd.isNone &&
      (match (s.plane (port - 1024)).next with | .packet => true | .phase _ => true | _ => false)))

/-- The personality that PLn.ETH_MODE gives a leaf port's group of eight (R327). -/
def State.ethChosen (s : State) (port : Nat) : Bool :=
  port < 1024 && (s.rd (R.PL_ETH_MODE (port / 64))).bit (port % 64 / 8)

/-- A port that is down begins to train at step 1; with signal on a lane it passes to step 2 (R315). -/
def State.beginTraining (s : State) (port : Nat) : State :=
  let p := s.port port
  if p.st = .down && p.restUntil.isNone && s.mayTrain port then
    let step := if lanesMinus (s.lanesAllowed port) p.los = 0 then 1 else 2
    (s.setPort port { p with st := .training, step := step, stepSince := s.now, lanesLocked := 0,
                             goodFlits := 0, eth := s.ethChosen port }).emit (.laser port true)
  else s

/-- A port's transmit lasers are on: it is trained, in training, or in the rest between two trainings (R315). -/
def Port.lit (p : Port) : Bool := p.st != .down || p.restUntil.isSome

/-- A port is trained: up, draining or held out of service (R315). -/
def Port.trained_ (p : Port) : Bool := p.st == .up || p.st == .draining || p.st == .heldOut

/-- LINK_DOWN (R317, R318): the port is DOWN with a reason, EV_LINK_DOWN is raised, its packets are
handed over, its credits are void; a drain in progress completes at once (R325); a port that stays
enabled trains again. -/
def State.linkDown (s : State) (port reason : Nat) : State :=
  let p := s.port port
  let s := s.setPort port { p with st := .down, lanesUp := 0, lanesLocked := 0, reason := reason, step := 0,
                                   identSeen := false, drainEnd := none, goodFlits := 0, llq := [] }
  let s := if 1024 ≤ port then
      let pl := s.plane (port - 1024)
      s.setPlane (port - 1024) { pl with st := .down, unreachable := [], missed := [] }
    else s
  let s := s.raise (portEv 0x0102 1 port reason 0)
  let s := if p.trained_ then s.replayHandover port (linkKeys port) else s
  let s := forEach (fun k (s : State) => s.setLink k (s.link k).voided) (linkKeys port) s
  (s.endMaint (.drain port) 2).beginTraining port

/-- A port goes down: a trained one by LINK_DOWN, one in training without an event. -/
def State.takeDown (s : State) (port reason : Nat) : State :=
  let p := s.port port
  if p.trained_ then s.linkDown port reason
  else s.setPort port { p with st := .down, step := 0, lanesLocked := 0, restUntil := none, failures := 0 }

end Sys2Proof.Machine
end

