-- ==== Sys2Proof/Machine/Egress.lean ====
section
/-!
DEFINITION. Egress scheduling and shaping (06_egress_scheduling.md): ready sub-queues, eligible queues, the
class scheduler, the calendar wheel, and a packet leaving its queue (R53, R54, R55, R73, R117, R124).
-/
namespace Sys2Proof.Machine

/-! ## Shapers (R133, R136, R137) -/

/-- The key of a shaper; s = 8 is the port's. -/
def shpKey (egress i : Nat) : Nat := egress * 16 + i

def State.shaper (s : State) (egress i : Nat) : Bucket :=
  Tbl.get (fun _ => shaperFull) s.sched.shapers (shpKey egress i)
def State.wheelPos (s : State) (egress i : Nat) : WheelPos :=
  Tbl.get (fun _ => .free) s.sched.wheel (shpKey egress i)
def State.setShaper (s : State) (egress i : Nat) (b : Bucket) (w : WheelPos) : State :=
  { s with sched := { s.sched with
      shapers := Tbl.put (fun _ => shaperFull) s.sched.shapers (shpKey egress i) b,
      wheel := Tbl.put (fun _ => .free) s.sched.wheel (shpKey egress i) w } }

/-- PLn.SHP_p_s of a shaper; PL17's destinations are its ports 0 to 5. -/
def State.shpReg (s : State) (egress i : Nat) : Word := s.rd (R.PL_SHP (egress / 64) (egress % 64) i)
def rateOff : Nat := 0xFFFFF

/-- A shaper's bucket filled on to now (R133); paused, it accrues nothing, and off, it is held at BURST (R138).
(DEDUCED, log entry 47) -/
def State.shaperNow (s : State) (egress i : Nat) : Bucket :=
  let w := s.shpReg egress i
  let b := s.shaper egress i
  if w.fld 19 0 = 0 then { b with time := s.now }
  else if w.fld 19 0 = rateOff then b.restart (w.fld 30 20 * 4096) s.now
  else b.refill (w.fld 19 0) (w.fld 30 20 * 4096) s.now

/-- Whether a shaper allows sending (R133, R136, R138). -/
def State.shaperAllows (s : State) (egress i : Nat) : Bool :=
  let rate := (s.shpReg egress i).fld 19 0
  if rate = rateOff then true else if rate = 0 then false
  else s.wheelPos egress i == .free && 0 ≤ (s.shaperNow egress i).tokens

/-- Where a bucket of negative tokens waits: the slot of 5 ns of its next-eligible time, rounded up, or
the overflow list beyond the wheel's 40.96 µs (R136). -/
def wheelPlace (b : Bucket) (rate now : Nat) : WheelPos :=
  if 0 ≤ b.tokens ∨ rate = 0 then .free
  else
    let per := rate * 1024
    let due := now + ((-b.tokens).toNat + per - 1) / per
    let slot := (due + 4) / 5 * 5
    if slot ≤ now + 40960 then .slot slot else .overflow due

/-- SHAPER_CHARGE (R133, R134): a shaper charged a length; a shaper that is off keeps T at BURST. -/
def State.chargeShaper (s : State) (egress i len : Nat) : State :=
  let w := s.shpReg egress i
  let rate := w.fld 19 0
  if rate = rateOff then s
  else
    let b := (s.shaperNow egress i).charge len
    s.setShaper egress i b (wheelPlace b rate s.now)

/-! ## Readiness (R114, R117, R129, R294) -/

/-- The link that an item would use from a port. -/
def State.linkOf (s : State) (egress : Nat) (it : Item) : Nat := s.linkKey egress (it.peer.getD 0)

/-- Nanoseconds of a frame at 400 Gb/s, rounded up. -/
def frameNs (b : Nat) : Nat := (b * 8 + 399) / 400

/-- G_PKT of R293. -/
def State.gPkt (s : State) : Nat := 8 + s.fld R.OPT_PRISM_GUARD 15 8 + 2 * s.fld R.OPT_PRISM_GUARD 7 0

/-- A frame lies within the data window of the present slot of its plane (R293, R294). -/
def State.fitsSlot (s : State) (b : Nat) : Bool :=
  let at_ := s.tb0Ns % s.slotNs
  s.prism.frameFrom ≤ s.tb0 && s.gPkt ≤ at_ && at_ + frameNs b ≤ s.slotNs

/-- The number of lanes in a mask. -/
def laneCount (m : Nat) : Nat := m % 2 + m / 2 % 2

/-- The bytes B of an item (R108). -/
def Item.size (it : Item) : Nat :=
  match it.body with
  | .ffp p => p.size
  | .eth f => f.len

/-- A packet may start: its tail has passed, or it may be cut through (R117); its cells wait for no bank (R109). -/
def State.mayStart (s : State) (egress : Nat) (it : Item) : Bool :=
  !s.unwritten it.port it.id && (!(s.dp.tails.any (fun t => t.id == it.id)) ||
    (it.cut && (it.port == 1088 || 1088 ≤ egress ||
      laneCount (s.port egress).lanesUp ≤ laneCount (s.port it.port).lanesUp)))

/-- The crossing from PL17 into a unit behind it: a home agent's or the hub's die link, or Canvas's own (R33, R38). -/
def unitXing (u : Nat) : Nat := if u < 4 then 18 + u else if u = 4 then 96 else 22

/-- Entries that an item takes in the crossing into a unit: flits of 64 bytes on a die link, one into Canvas. -/
def unitEntries (u : Nat) (it : Item) : Nat := if u = 4 then 1 else flits64 it.pkt.size

/-- A home agent that cannot serve: off or in reset, or its die unreachable. PL17 answers for it, and its link takes
nothing; while its domain drains or is in retention requests wait (R245, R386). (DEDUCED, log entry 92) -/
def State.homeDead (s : State) (u : Nat) : Bool :=
  decide (u < 4) && (match s.domSt (hbmDomain u) with
    | .off | .reset => true
    | .on => !s.dieUp u || s.islandIsolated (56 + 5 * u)
    | _ => false)

/-- The crossing into a unit has credit for an item, those in flight back among them (R38, R129). -/
def State.unitCredit (s : State) (u : Nat) (it : Item) : Bool :=
  let x := s.xing (unitXing u)
  s.homeDead u || unitEntries u it ≤ x.credits + x.flight

/-- An item enters the crossing into a unit (R38). -/
def State.unitSend (s : State) (u : Nat) (it : Item) : State :=
  let x := s.xing (unitXing u)
  let n := unitEntries u it
  let s := if s.homeDead u then s else s.setXing (unitXing u) ((if n ≤ x.credits then x else x.back).send n)
  let l := Tbl.get (fun _ => []) s.dp.unitIn u ++ [it]
  { s with dp := { s.dp with unitIn := Tbl.put (fun _ => []) s.dp.unitIn u l } }

/-- The input queue of a unit. -/
def State.unitQueue (s : State) (u : Nat) : List Item := Tbl.get (fun _ => []) s.dp.unitIn u
def State.setUnitIn (s : State) (u : Nat) (l : List Item) : State :=
  { s with dp := { s.dp with unitIn := Tbl.put (fun _ => []) s.dp.unitIn u l } }

/-- A unit removes an item from its crossing, which leaves a list there: its credits go back (R38). -/
def State.unitTake (s : State) (u : Nat) (it : Item) (l : List Item) : State :=
  (s.setUnitIn u l).setXing (unitXing u) ((s.xing (unitXing u)).take (unitEntries u it))

/-- A unit behind PL17 takes new entries (R46 to R48): a home agent while its domain is on, or dead, when PL17 answers for
it; the hub while its link is up (R35); none while an island of its way stops. -/
def State.unitTakes (s : State) (u : Nat) : Bool :=
  if u < 4 then
    s.homeDead u || s.on (hbmDomain u) && !([56 + 5 * u, 57 + 5 * u, 58 + 5 * u].any s.islandStops)
  else if u = 4 then s.on 8
  else s.on 2 && s.fld (R.GLB_D2D_STAT 22) 31 31 == 1 && !([4, 5].any s.islandStops)

/-- A packet with cells in a half that is in retention waits for it (R107). -/
def State.frozen (s : State) (it : Item) : Bool :=
  (s.domSt 6 == .retention && s.inHalf 6 it.id) || (s.domSt 7 == .retention && s.inHalf 7 it.id)

/-- A packet that started on a port before its tail passed is still being sent: nothing passes it (R70, R114). -/
def State.midPacket (s : State) (egress : Nat) : Bool := s.dp.flying.any (fun f => f.egress == egress)

/-- The crossing from the traffic manager into a pipeline's egress side has credit (R38, R42). -/
def State.pipeCredit (s : State) (pl : Nat) : Bool := (s.xing (64 + pl)).credits + (s.xing (64 + pl)).flight != 0

/-- The islands that a packet leaves through: the traffic manager's, its pipeline, a port's engine, a context's Canvas island
(R407). -/
def outIslands (egress : Nat) (it : Item) : List Nat :=
  [32, 33, 34, 35] ++ (if egress < 1088 then portIslands egress
    else if egress = 1092 then [23, 38 + it.pkt.fld 5 31 18 % 4] else [23])

/-- The replay buffer of 512 flits, which all pairs of a BP port share, holds a packet's flits (R319, R321). -/
def State.replayRoom (s : State) (egress : Nat) (it : Item) : Bool :=
  ((linkKeys egress).map (fun k => (s.link k).replay.length)).sum + (it.size + 247) / 248 ≤ 512

/-- A head may be sent now from a port: its domains are on, the port sends and is not in the middle of a packet, there is
credit for its VC and room in the replay window, and on a BP port its division's peer is reached and the frame fits; toward
a unit of PL17 the crossing has credit, and Canvas has space (R38, R129, R177, R294, R319). -/
def State.itemReady (s : State) (egress : Nat) (it : Item) : Bool :=
  if s.midPacket egress || !s.pipeCredit (egress / 64) || (outIslands egress it).any s.islandStops then false
  else if 1088 ≤ egress then
    s.works 5 && s.unitTakes (egress - 1088) && s.unitCredit (egress - 1088) it && s.mayStart egress it && !s.frozen it
      && !(egress == 1092 && s.canvasHolds (s.unitQueue 4) it)
  else if !s.on (portDomain egress) || !s.on (opticalDomain (engineOf egress)) || s.frozen it then false
  else
    let p := s.port egress
    let l := s.link (s.linkOf egress it)
    (p.st == .up || p.st == .draining) && s.mayStart egress it &&
      (match it.body with
       | .eth _ => true
       | .ffp _ =>
         it.n ≤ l.credits.get it.vc && s.replayRoom egress it &&
           (egress < 1024 ||
             (s.reachesNow (egress - 1024) (it.peer.getD 64) &&
               ((s.plane (egress - 1024)).st != .packet || s.fitsSlot it.size))))

/-- The head of a VC's sub-queue; on a BP port the head of the first ready division (R114, R294). -/
def State.headOf (s : State) (egress tc vc : Nat) : Option Item :=
  let l := (s.queue (qKey egress tc)).head.filter (fun it => it.vc == vc)
  if 1024 ≤ egress ∧ egress < 1088 then
    ((List.range 64).filterMap (fun j => l.find? (fun it => it.peer == some j))).find?
      (fun it => s.itemReady egress it)
  else
    match l with
    | [] => none
    | it :: _ => if s.itemReady egress it then some it else none

/-- The VC that a queue sends next: VC_RSP if ready, else the others in round robin (R131). -/
def State.nextHead (s : State) (egress tc : Nat) : Option Item :=
  let last := Tbl.get (fun _ => 3) s.sched.vcLast (qKey egress tc)
  let order := if last = vcREQ then [vcCOLL, vcBULK, vcREQ] else if last = vcCOLL then [vcBULK, vcREQ, vcCOLL]
    else [vcREQ, vcCOLL, vcBULK]
  ((vcRSP :: order).filterMap (fun v => s.headOf egress tc v)).head?

/-- The head that an eligible queue would send: held by no shaper, or a VC_RSP head (R129, R134). -/
def State.eligible (s : State) (egress tc : Nat) : Option Item :=
  match s.nextHead egress tc with
  | none => none
  | some it =>
    if it.vc = vcRSP ∨ (s.shaperAllows egress tc ∧ s.shaperAllows egress 8) then some it else none

/-! ## The class scheduler (R130, R132) -/

def State.schedReg (s : State) (egress tc : Nat) : Word := s.rd (R.PL_TC_SCHED (egress / 64) (egress % 64) tc)
def State.strict (s : State) (egress tc : Nat) : Bool := (s.schedReg egress tc).fld 8 8 == 1
def State.weight (s : State) (egress tc : Nat) : Nat := (s.schedReg egress tc).fld 7 0
def State.deficit (s : State) (egress tc : Nat) : Nat := Tbl.get (fun _ => 0) s.sched.deficit (qKey egress tc)
def State.setDeficit (s : State) (egress tc x : Nat) : State :=
  { s with sched := { s.sched with deficit := Tbl.put (fun _ => 0) s.sched.deficit (qKey egress tc) x } }

/-- The TCs after one, in cyclic order, it last. -/
def tcAfter (t : Nat) : List Nat := (List.range 8).map (fun i => (t + 1 + i) % 8)

/-- The charged length of an item at an egress port (R135). -/
def State.itemLen (s : State) (egress : Nat) (it : Item) : Nat := s.chargedLen egress it.size

/-- One turn of the deficit rotation: the TC whose turn it is sends if its counter holds the head's
length; else its turn ends and the next weighted, eligible TC begins its turn (R132). Fuel bounds the
turns. -/
def drr (egress : Nat) : Nat → State → Option (Nat × Item) × State
  | 0, s => (none, s)
  | fuel + 1, s =>
    match Tbl.get (fun _ => none) s.sched.turn egress with
    | some t =>
      let hd := if !s.strict egress t && 0 < s.weight egress t then s.eligible egress t else none
      match hd with
      | some it =>
        if s.itemLen egress it ≤ s.deficit egress t then (some (t, it), s)
        else drr egress fuel { s with sched := { s.sched with
          turn := Tbl.put (fun _ => none) s.sched.turn egress none,
          drrLast := Tbl.put (fun _ => 7) s.sched.drrLast egress t } }
      | none => drr egress fuel { s with sched := { s.sched with
          turn := Tbl.put (fun _ => none) s.sched.turn egress none,
          drrLast := Tbl.put (fun _ => 7) s.sched.drrLast egress t } }
    | none =>
      let last := Tbl.get (fun _ => 7) s.sched.drrLast egress
      match (tcAfter last).find? (fun t =>
          !s.strict egress t && 0 < s.weight egress t && (s.eligible egress t).isSome) with
      | none => (none, s)
      | some t =>
        let d := min 16777215 (s.deficit egress t + s.weight egress t * 256)
        let s := s.setDeficit egress t d
        drr egress fuel { s with sched := { s.sched with turn := Tbl.put (fun _ => none) s.sched.turn egress (some t) } }

/-- The choice of R130: strict classes from the highest, then deficit round robin, then round robin. -/
def State.choose (s : State) (egress : Nat) : Option (Nat × Item) × State :=
  match ([7, 6, 5, 4, 3, 2, 1, 0].filter (fun t => s.strict egress t)).findSome?
      (fun t => (s.eligible egress t).map (fun it => (t, it))) with
  | some r => (some r, s)
  | none =>
    match drr egress 1000 s with
    | (some (t, it), s') => (some (t, it), s'.setDeficit egress t (s'.deficit egress t - s'.itemLen egress it))
    | (none, s') =>
      let last := Tbl.get (fun _ => 7) s'.sched.rrLast egress
      match ((tcAfter last).filter (fun t => !s'.strict egress t && s'.weight egress t == 0)).findSome?
          (fun t => (s'.eligible egress t).map (fun it => (t, it))) with
      | some (t, it) =>
        (some (t, it), { s' with sched := { s'.sched with rrLast := Tbl.put (fun _ => 7) s'.sched.rrLast egress t } })
      | none => (none, s')

/-! ## A packet leaves its queue -/

/-- A packet as it leaves: MARK raised to the queue's level (R73, R124), HOP raised unless the module
originated it (R55), the trailer inverted when its check failed (R54). -/
def leavingPacket (p : Packet) (own : Bool) (level : Nat) (bad : Bool) : Packet :=
  let p := p.raiseMark level
  let p := if own then p else p.addHop
  if bad then p.invertTrailer else p

/-- The queue without an item. -/
def EQueue.without (q : EQueue) (id : Nat) (mcast : Option Nat) : EQueue :=
  { q with head := q.head.filter (fun x => !(x.id == id && x.mcast == mcast)) }

/-- A queue's occupancy reaches the mark level that ETH.CTRL.ECN_LEVEL names (R124, R338). -/
def State.ecnMark (s : State) (tc occ : Nat) : Bool :=
  let w := s.rd (R.BUF_MARK tc)
  match s.fld R.ETH_CTRL 30 29 with
  | 0 => false
  | 1 => meets occ (w.fld 9 0)
  | 2 => meets occ (w.fld 19 10)
  | _ => meets occ (w.fld 29 20)

/-- Counters of a sent packet at its egress port (R409), as its tail leaves: a packet whose trailer failed counts as a
drop and not as a packet out, its bytes as sent (R126). -/
def State.countSent (s : State) (egress : Nat) (it : Item) (bad : Bool) : State :=
  let s := if bad then s else s.bumpPort egress 2 1
  let s := s.bumpPort egress 3 it.size
  let s := if it.marked then s.bumpPort egress 4 1 else s
  if it.leg.isSome then s.bumpPort egress 5 1 else s

/-- The module's request that a leaving packet carries notes whether it left on a BP port (R259). -/
def State.noteVia (s : State) (it : Item) (p : Packet) (egress : Nat) : State :=
  if it.own && it.port == 1088 && tyRequest p.ty then
    { s with req := { s.req with out := s.req.out.map (fun r =>
        if r.pkt.dest = p.dest ∧ destSpine r.pkt = destSpine p ∧ r.pkt.seq = p.seq then
          { r with viaBp := decide (1024 ≤ egress ∧ egress < 1088) } else r) } }
  else s

/-- The time that a frame takes on its plane (R296). -/
def State.noteFrame (s : State) (egress : Nat) (it : Item) : State :=
  if egress < 1024 then s
  else { s with prism := { s.prism with dataNs := addAt s.prism.dataNs (egress - 1024) (frameNs it.size) } }

/-- The bank cells of a packet that has left the buffer, unless replicas of it are still to leave. -/
def State.leftBuffer (s : State) (it : Item) : State :=
  if s.dp.mcLive.any (fun m => m.id == it.id) then s else { s with dp := s.dp.releaseCells it.id }

/-- Putting a packet on its way out of a port: onto the link, into the own unit's input, which discards it when its trailer
does not agree (R54), or as an Ethernet frame; its cells are free. -/
def State.transmit (s : State) (egress : Nat) (it : Item) : State :=
  let bad := s.dp.badTails.contains it.id
  let s := ((s.countSent egress it bad).leftBuffer it).xPass (64 + egress / 64) 1
  let s := if it.leg.isSome then s else { s with dp := { s.dp with badTails := s.dp.badTails.filter (· != it.id) } }
  match it.body with
  | .ffp p =>
    let sent := if bad then p.invertTrailer else p
    let it := { it with body := .ffp (if it.leg.isSome then p else sent), charge := .none }
    let p := sent
    let s := s.txDone it.id (some egress)
    if 1088 ≤ egress then (if bad then s else s.unitSend (egress - 1088) it)
    else ((s.noteVia it p egress).noteFrame egress it).linkSend egress (s.linkOf egress it) it p
  | .eth f => s.emit (.frame egress (s.frameOut egress f false))

/-- SPILL_READBACK (R119): the first block in HBM is read while the on-die head holds fewer than 128
cells and spill is available. -/
def EQueue.readback (q : EQueue) (avail : Bool) : EQueue :=
  if avail && decide (cellsIn q.head < 128) then
    match q.spill with
    | ⟨.inHbm, its, d⟩ :: bs => { q with spill := ⟨.reading, its, d⟩ :: bs }
    | _ => q
  else q

/-- Read-back of a queue's spilled segment starts where its head has run low (R119). -/
def State.readbackQ (s : State) (k : Nat) : State := s.setQueue k ((s.queue k).readback (s.spillAvail (s.queue k)))

/-- Read-back starts in every queue whose head has run low (R119, R122). -/
def State.readbackAll (s : State) : State := forEach (fun k (s : State) => s.readbackQ k) (Tbl.keys s.dp.queues) s

/-- A packet leaves its queue: its cells are freed, spilled packets are read back, the round over the VCs has
advanced, and a queue left empty loses its deficit. -/
def State.leaveQueue (s : State) (egress tc : Nat) (it : Item) : State :=
  let k := qKey egress tc
  let s := (s.setQueue k ((s.queue k).without it.id it.mcast)).freeItem k it
  let s := s.readbackQ k
  let s := { s with sched := { s.sched with
    vcLast := if it.vc = vcRSP then s.sched.vcLast else Tbl.put (fun _ => 3) s.sched.vcLast k it.vc } }
  if (s.queue k).head.isEmpty ∧ (s.queue k).spill.isEmpty ∧ (s.queue k).tail.isEmpty
    then s.setDeficit egress tc 0 else s

/-- A packet charged to its queue's and its port's shapers (R133, R134). -/
def State.chargeBoth (s : State) (egress tc len : Nat) : State := (s.chargeShaper egress tc len).chargeShaper egress 8 len

/-- One packet sent from a queue (R130, R131): marked, edited, charged to the shapers, and put on its way; a packet whose
tail has not passed leaves by cut-through, and a frame is charged as its tail is read (R133). -/
def State.sendFrom (s : State) (egress tc : Nat) (it : Item) : State :=
  let q := s.queue (qKey egress tc)
  let level := markLevel (s.rd (R.BUF_MARK tc)) q.occupancy
  let len := s.itemLen egress it
  let raised := it.marked || (match it.body with | .ffp p => p.mark < level | .eth _ => false)
  let body := match it.body with
    | .ffp p => Body.ffp (leavingPacket p it.own level false)
    | .eth f => Body.eth { f with ce := f.ce || s.ecnMark tc q.occupancy }
  let out := { it with body := body, marked := raised }
  let s := s.leaveQueue egress tc it
  let fly : Bool := s.dp.tails.any (fun t => t.id == it.id)
  let s := if fly && it.isEth then s else s.chargeBoth egress tc len
  if fly then { s with dp := { s.dp with flying := s.dp.flying ++ [⟨egress, out⟩] } } else s.transmit egress out

/-- A packet that was being cut through leaves as its tail passes; a frame is charged now (R54, R133). -/
def State.flyOut (s : State) (x : Flying) : State :=
  let s := if x.item.isEth then s.chargeBoth x.egress x.item.tc (s.itemLen x.egress x.item) else s
  s.transmit x.egress x.item

/-- A port, or one of PL17's destinations, picks an eligible queue and sends one packet; nothing happens when no queue
is eligible, nor for an isolated pipeline (R130, R419). -/
def State.schedule (s : State) (egress : Nat) : State :=
  if egress / 64 ≠ 16 ∧ s.tel.isolated.contains (0x03, egress / 64) ∨ s.islandHeld (6 + egress / 64) then s
  else
    match s.choose egress with
    | (some (tc, it), s') => s'.sendFrom egress tc it
    | (none, s') => s'

/-- EGRESS_SCHEDULE (R130): a port, or one of PL17's destinations (1088 to 1093), sends one packet. -/
def execEgressSchedule (egress : Fin 1094) (s : State) : Host.Outcome State Fault Refusal := ok (s.schedule egress)

/-- An overflow entry that has come within reach enters the wheel (R136). -/
def wheelIn (now : Nat) (w : WheelPos) : WheelPos :=
  match w with
  | .overflow due => if (due + 4) / 5 * 5 ≤ now + 40960 then .slot ((due + 4) / 5 * 5) else w
  | _ => w

/-- WHEEL_OVERFLOW_RESCAN (R136): once per revolution the overflow list of a pipeline is rescanned. -/
def execWheelOverflowRescan (pl : Fin 18) (s : State) : Host.Outcome State Fault Refusal :=
  ok { s with sched := { s.sched with
    wheel := s.sched.wheel.map (fun kw => if kw.1 / 16 / 64 = pl.val then (kw.1, wheelIn s.now kw.2) else kw) } }

/-- The register-access event (R9, R10, R448): `cause` 0 width or alignment, 1 a reserved offset, 2 a domain that is not
on; `wr` 1 for a write. -/
def State.accessEvent (s : State) (off cause wr : Nat) : State :=
  s.raise (modEv 0x0801 1 off cause wr)

/-- The domain of the register at an offset. (DEDUCED, log entry 14) -/
def regDomain (off : Nat) : Nat :=
  match findReg regMap off with
  | some (r, ix) => r.domain ix
  | none => 0

/-- A write of a register with a behaviour of its own: carried out while the register's domain is on,
else discarded with the register-access event (R448). (DEDUCED, log entry 4) -/
def State.gate (s : State) (off : Nat) (f : State → State) : State :=
  if s.on (regDomain off) then f s else s.accessEvent off 2 1

/-- SHAPER_WRITE (R137): a write of PLn.SHP_p_s sets RATE and BURST, restarts T at BURST or at 0, and
places the shaper again. -/
def execShaperWrite (egress : Fin 1094) (i : Fin 9) (w : Word) (s : State) : Host.Outcome State Fault Refusal :=
  let off := R.PL_SHP (egress / 64) (egress % 64) i
  ok (s.gate off (fun s =>
    let b := s.shaperNow egress i
    let s := s.store off w
    let start := if w.fld 31 31 = 0 then w.fld 30 20 * 4096 else 0
    s.setShaper egress i (b.restart start s.now) .free))

/-- POLICER_BUCKET_WRITE (R144): a write of POL_C (`second` false) or POL_P resets that bucket alone,
full or empty by TOKEN_INIT. -/
def execPolicerBucketWrite (port : Fin 1088) (tc : Fin 8) (second : Bool) (w : Word) (s : State) :
    Host.Outcome State Fault Refusal :=
  let off := if second then R.PL_POL_P (port / 64) (port % 64) tc else R.PL_POL_C (port / 64) (port % 64) tc
  ok (s.gate off (fun s =>
    let b := s.polNow port tc (bit01 second)
    let start := if w.fld 31 31 = 0 then w.fld 30 20 * 4096 else 0
    (s.store off w).setPolBucket port tc (bit01 second) (b.restart start s.now)))

/-- The buckets of a policer brought up to now while it is on, and standing still while it is off (R144, R145). -/
def State.polStand (s : State) (port tc : Nat) : State :=
  let on : Bool := (s.rd (R.PL_POL_MODE (port / 64) (port % 64) tc)).fld 31 31 == 1
  let up (which : Nat) : Bucket := if on then s.polNow port tc which else { s.polBucket port tc which with time := s.now }
  (s.setPolBucket port tc 0 (up 0)).setPolBucket port tc 1 (up 1)

/-- A write of PLn.POL_MODE_p_t: discarded when an action is 0b11 (R143); else stored, with the buckets as they stood while
the policer was off (R145). -/
def State.polModeWrite (s : State) (port tc off : Nat) (w : Word) : State :=
  if w.fld 28 27 = 3 ∨ w.fld 26 25 = 3 then s else (s.polStand port tc).store off w

end Sys2Proof.Machine
end

