-- ==== Sys2Proof/Machine/Clock.lean ====
section
/-!
DEFINITION. The clock moves on: what time brings of itself to counters and crossings (R38, R39, R79, R109, R411, R433), and
the instants that deadlines cause, and the header slots of a pipeline (04, R77 to R79).
-/
namespace Sys2Proof.Machine

/-! ## Stalls (R39, R79, R109, R411) -/

/-- Whole cycles that an island's clock has run at an instant: 1.6 GHz in a pipeline, 2.0 GHz in a Palette die's engines and
scheduler (R37); no other rate is stated. -/
def islandCycle (i t : Nat) : Nat :=
  if 6 ≤ i ∧ i ≤ 23 then cycle16 t else if 42 ≤ i ∧ i ≤ 53 then 2 * t else Config.islandCycles i t

/-- A port of PL17's six has a head that waits for the credit of its crossing alone (R39). -/
def State.creditWaits (s : State) (u : Nat) : Bool :=
  (List.range 8).any (fun tc => (List.range 4).any (fun v =>
    match (s.queue (qKey (1088 + u) tc)).head.filter (fun it => it.vc == v) with
    | [] => false
    | it :: _ => !s.unitCredit u it))

/-- A port has a queue ready with credit, and none of its queues is eligible (R129, R411). -/
def State.portHeld (s : State) (egress : Nat) : Bool :=
  (List.range 8).any (fun tc => (s.nextHead egress tc).isSome) && !(List.range 8).any (fun tc => (s.eligible egress tc).isSome)

/-- The egress ports with a listed queue. -/
def State.queuedPorts (s : State) : List Nat := ((Tbl.keys s.dp.queues).map (· / 8)).eraseDups

/-- Buffer stalls of a pipeline: rule 5 of R115, the bank write queue, the header queue (R411). -/
def State.pipeWaits (s : State) (pl : Nat) : Bool :=
  s.dp.waiting.any (fun kw => kw.1 / 4 / 64 == pl && !kw.2.isEmpty) || !(s.bankWaiting pl).isEmpty || s.headerWaits pl

/-- A packet descriptor waits for a pipeline that has not announced its crossing (R39, R42). -/
def State.pipeStarved (s : State) (pl : Nat) : Bool :=
  !s.pipeCredit pl && s.queuedPorts.any (fun e => e / 64 == pl &&
    (List.range 8).any (fun tc => !(s.queue (qKey e tc)).head.isEmpty))

/-- A home agent's queue waits for a request slot (R253). -/
def State.slotsFull (s : State) (d : Nat) : Bool :=
  !(s.unitQueue d).isEmpty && 65536 ≤ (Tbl.get (fun _ => Home.init) s.homes d).slots.length

/-- A Palette die's scheduler has a candidate that it does not admit (R236). -/
def State.schedHolds (s : State) (d : Nat) : Bool :=
  [2 * d, 2 * d + 1].any (fun e =>
    (Tbl.get (fun _ => Engine.init) s.pal.engines e).queues.any (fun kq => kq.2.any (fun l => l.cand.isSome)))

/-- A spill block that is full waits for Easel's grant (R280). -/
def State.spillWaits (s : State) : Bool :=
  s.on 20 && s.fld R.MEM_SPILL_GRANT 15 0 == 0 && s.dp.queues.any (fun kq => !kq.2.spill.isEmpty)

/-- PL17 holds back the head of a VC_COLL sub-queue for want of staging and overflow (R177). -/
def State.canvasFull (s : State) : Bool :=
  (List.range 8).any (fun tc =>
    match (s.queue (qKey 1092 tc)).head.filter (fun it => it.vc == vcCOLL) with
    | [] => false
    | it :: _ => s.canvasHolds (s.unitQueue 4) it)

/-- The islands that stall now, with the kind of R411: 0 credit, 1 buffer, 2 scheduler. The traffic manager's island 0 and
Canvas's island 0 count for theirs. (DESIGN CHOICE, log entry 166) -/
def State.stalls (s : State) : List (Nat × Nat) :=
  (if (List.range 6).any s.creditWaits then [(23, 0)] else [])
    ++ (if (List.range 18).any s.pipeStarved then [(32, 0)] else [])
    ++ ((List.range 18).filter s.pipeWaits).map (fun n => (6 + n, 1))
    ++ (if s.canvasFull then [(38, 1)] else [])
    ++ ((List.range 4).filter s.slotsFull).map (fun d => (56 + 5 * d, 1))
    ++ ((s.queuedPorts.filter s.portHeld).map (· / 64)).eraseDups.map (fun n => (6 + n, 2))
    ++ ((List.range 4).filter s.schedHolds).map (fun d => (44 + 3 * d, 2))
    ++ (if s.spillWaits then [(111, 2)] else [])

/-- The stall counters over a span in which the state stands. -/
def State.stallSpan (s : State) (t0 t1 : Nat) : State :=
  let u := forEach (fun x (u : State) => u.countCycles (C.TEL_STALL x.1 x.2) (islandCycle x.1 t0) (islandCycle x.1 t1)) s.stalls s
  let u := forEach (fun n (u : State) => if s.headerWaits n then u.countCycles (C.PL_HDR_STALL n) (cycle16 t0) (cycle16 t1) else u)
    (List.range 18) u
  if (List.range 18).any (fun n => !(s.bankWaiting n).isEmpty) then u.countCycles C.BUF_BANK_STALL (cycle16 t0) (cycle16 t1) else u

/-! ## Time passes -/

/-- An engine has a candidate and no list running (PAL.ADMIT_WAIT). -/
def Engine.admitWaits (x : Engine) : Bool :=
  x.run.isNone && x.queues.any (fun kq => kq.2.head?.any (fun l => l.cand.isSome))

/-- PAL.ADMIT_WAIT of every engine over nanoseconds that pass. -/
def State.admitSpan (s : State) (ns : Nat) : State :=
  forEach (fun e (u : State) =>
    if (Tbl.get (fun _ => Engine.init) s.pal.engines e).admitWaits then u.bump (C.PAL_ADMIT_WAIT e) ns else u) (List.range 8) s

/-- Nanoseconds that pass while the state stands: credits in flight reach their producers (R33), stalls count, and
TEL.STALL_ATTR_NS counts while PD02 is on and a condition of R433 holds. -/
def State.attribute (s : State) (ns : Nat) : State :=
  if ns = 0 then s
  else
    let u := (s.stallSpan s.now (s.now + ns)).admitSpan ns
    { u with xings := Tbl.remap (fun _ => Crossing.init) Crossing.back s.xings,
             cnt := if s.on 2 ∧ s.attrNow ≠ 0 then bumpTbl u.cnt C.TEL_STALL_ATTR_NS ns else u.cnt }

/-- The clock moved on to an instant, never back: a command that a deadline causes is that instant.
(DESIGN CHOICE, log entry 3) -/
def State.reach (s : State) (t : Nat) : State :=
  let u := ({ s.attribute (t - s.now) with clk := { s.clk with now := max s.now t } } : State).alertStep
  { u with i3c := if t ≤ s.now then s.i3c else u.i3c, out := if t ≤ s.now then s.out else u.out }

/-! ## Header slots (R78, R383) -/

/-- A header slot that a pipeline offers to forwarded packets: 3 of every 128 are reserved, and while the core die is hot the
fourth of each cycle is not offered. (DESIGN CHOICE, log entry 181) -/
def slotOffered (three : Bool) (n : Nat) : Bool := 3 ≤ n % 128 && !(three && n % 4 == 3)

/-- The first slot offered from slot n on. -/
def nextSlot (three : Bool) (n : Nat) : Nat := ((List.range 6).map (n + ·)).find? (slotOffered three) |>.getD n

/-- The instant of a cycle of a 1.6 GHz clock, in whole ns, and the first cycle of an instant (R37). -/
def instant16 (c : Nat) : Nat := (5 * c + 7) / 8
def firstCycle16 (t : Nat) : Nat := (8 * t - 3) / 5

/-- A header takes the next slot of a pipeline that is offered, in the slot's cycle (R78). -/
def State.takeSlot (s : State) (pl : Nat) : State :=
  let n := nextSlot s.pwr.slots3 (max (Tbl.get (fun _ => 0) s.dp.slotNext pl) (4 * firstCycle16 s.now))
  let s := s.reach (instant16 (n / 4))
  { s with dp := { s.dp with slotNext := Tbl.put (fun _ => 0) s.dp.slotNext pl (n + 1) } }

/-- HEADER_LOOKUP (R77): a header takes the pipeline's next slot, and is checked, looked up, metered and
admitted. `bank`: its cell writes find a free bank; otherwise they wait in the pipeline's write queue,
and a header whose VC has no room there is not taken (R109). With no header waiting, or the pipeline's
domain not on, nothing happens. -/
def execHeaderLookup (pl : Fin 18) (bank : Bool) (s : State) : Host.Outcome State Fault Refusal :=
  if !s.works (pipelineDomain pl) ∨ s.islandHeld (6 + pl) ∨ s.islandHeld 36 then ok s
  else
    match s.lookupKey pl with
    | none => ok s
    | some k =>
      match s.hq k with
      | [] => ok s
      | it :: rest =>
        if !bank && !s.bankRoom pl it.vc it.n then ok (s.countCycle C.BUF_BANK_STALL)
        else
          let s := (s.takeSlot pl).setHq k rest
          let s := if it.vc = vcRSP then s
            else { s with dp := { s.dp with hqTurn := Tbl.put (fun _ => 0) s.dp.hqTurn pl it.vc } }
          let s := if s.headerWaits pl then s.countCycle (C.PL_HDR_STALL pl) else s
          let s := s.bankWrite pl bank it
          match it.body with
          | .ffp p => ok (s.lookup it p)
          | .eth f => ok (s.lookupFrame it f)

end Sys2Proof.Machine
end

