-- ==== Sys2Proof/Machine/Trackers.lean ====
section
/-!
DEFINITION. Series and trackers of the home agents (R246 to R250), acknowledgements of the module's own
packets (R62, R98, R258) and the rate limiter's decrease (R125).
-/
namespace Sys2Proof.Machine

/-! ## Series (R246, R247, R248) -/

/-- The key of a source: its space and ID (R245). -/
def srcKey (space src : Nat) : Nat := space * 2 ^ 18 + src % 2 ^ 18

/-- The state of a SEQ in a tracker: none where its bit is clear. -/
def Tracker.find (t : Tracker) (a : Nat) : Option SeqState := (t.seqs.find? (fun x => x.1 == a)).map (·.2)

/-- The tracker with a SEQ's state set. -/
def Tracker.put (t : Tracker) (a : Nat) (st : SeqState) : Tracker :=
  { t with seqs := t.seqs.filter (fun x => x.1 != a) ++ [(a, st)] }

/-- The distance from H back to a SEQ. -/
def Tracker.back (t : Tracker) (a : Nat) : Nat := (t.h + 2 ^ 24 - a % 2 ^ 24) % 2 ^ 24

/-- The tracker with H moved on: SEQs older than H − 127 leave, and H_first follows (R247, R248). -/
def Tracker.advance (t : Tracker) (a : Nat) : Tracker :=
  let t := { t with h := a }
  let t := { t with seqs := t.seqs.filter (fun x => t.back x.1 ≤ 127) }
  if t.back t.first ≤ 127 then t else { t with first := (a + 2 ^ 24 - 127) % 2 ^ 24 }

/-- The classes of R247. -/
inductive SeqClass where
  | new | duplicate | outside
deriving DecidableEq, Repr

/-- The class of an arriving SEQ (R247). -/
def Tracker.classify (t : Tracker) (a : Nat) : SeqClass :=
  let d := (a + 2 ^ 24 - t.h) % 2 ^ 24
  if 1 ≤ d ∧ d ≤ 64 then .new
  else if t.back a ≤ 127 then (if (t.find a).isSome then .duplicate else .new)
  else .outside

/-- The tracker with an arriving SEQ received, in a state. -/
def Tracker.receive (t : Tracker) (a : Nat) (st : SeqState) : Tracker :=
  let d := (a + 2 ^ 24 - t.h) % 2 ^ 24
  (if 1 ≤ d ∧ d ≤ 64 then t.advance a else t).put a st

/-- The series that the first request of a source begins (R250). -/
def Tracker.begin_ (a : Nat) (st : SeqState) : Tracker := ⟨a, a, [(a, st)]⟩

def Home.seriesOf (h : Home) (k : Nat) : Option Tracker := Tbl.get (fun _ => none) h.series k
def Home.setSeries (h : Home) (k : Nat) (t : Tracker) : Home :=
  { h with series := Tbl.put (fun _ => none) h.series k (some t) }

/-- The SEQs received from one on, in order, and the first that is not (R62). -/
def runOn (have_ : Nat → Bool) : Nat → Nat → Nat
  | 0, a => a
  | n + 1, a => if have_ a then runOn have_ n ((a + 1) % 2 ^ 24) else a

/-- What a tracker says of its series: every SEQ before H_first counts as received (R62, R248). -/
def Tracker.seen (t : Tracker) : Seen := ⟨runOn (fun a => (t.find a).isSome) 256 t.first, t.seqs.map (·.1)⟩

/-- A SEQ received in a series that no tracker holds. -/
def Seen.add (c : Seen) (a : Nat) : Seen :=
  let l := if precedes 24 a c.cum ∨ c.beyond.contains a then c.beyond else c.beyond ++ [a]
  let cum := runOn (fun x => l.contains x) 256 c.cum
  ⟨cum, l.filter (fun x => !precedes 24 x cum)⟩

/-! ## Order (R248, R253) -/

/-- A SEQ is done with, for a pinned request after it: received, and performed if it was pinned (R248). -/
def Home.seqDone (h : Home) (k : Nat) (t : Tracker) (a : Nat) : Bool :=
  match t.find a with
  | none => false
  | some .mark => true
  | some (.answered _) => true
  | some _ => !(h.slots.any (fun r => r.src == k && r.seq == a && r.pkt.spray == 0))

/-- Whether ordering lets a request proceed: the SEQs from H_first on, before its own, are done with; a SEQ before H_first
waits for none (R248). -/
def Home.ordered (h : Home) (r : HomeReq) : Bool :=
  if r.pkt.spray = 1 then true
  else match h.seriesOf r.src with
    | none => true
    | some t =>
      (List.range (t.back t.first - t.back r.seq)).all (fun i => h.seqDone r.src t ((r.seq + 2 ^ 24 - 1 - i) % 2 ^ 24))

/-- The state of a SEQ that a series still holds (R246). -/
def Home.setSeq (h : Home) (k a : Nat) (st : SeqState) : Home :=
  match h.seriesOf k with
  | some t => if (t.find a).isSome then h.setSeries k (t.put a st) else h
  | none => h

/-- Requests that become ready take their place behind those already ready (R251); the wait under R248
is what `gate` adds up. -/
def Home.refresh (h : Home) (now : Nat) : Home × Nat :=
  let newly := h.slots.filter (fun r => !r.ready && h.ordered r)
  let rest := h.slots.filter (fun r => !r.ready && !h.ordered r)
  (newly.foldl (fun (h : Home) (r : HomeReq) => h.setSeq r.src r.seq .held)
     { h with slots := h.slots.filter (·.ready) ++ newly.map (fun r => { r with ready := true }) ++ rest },
   (newly.map (fun r => now - r.since)).sum)

/-- The ready requests of a home brought up to date, with MEM.HA_GATE_NS_d. -/
def State.refreshHome (s : State) (d : Nat) : State :=
  let r := (s.home d).refresh s.now
  (s.setHome d r.1).bump (C.MEM_HA_GATE_NS d) r.2

/-- A mark of the series taken by its class. -/
def State.markClass (s : State) (d k seq : Nat) (t : Tracker) : SeqClass → State
  | .new => (s.setHome d ((s.home d).setSeries k (t.receive seq .mark))).refreshHome d
  | .duplicate | .outside => s

/-- A PATH_MARK consumed at the module marks its SEQ received in its pair's tracker (R248). -/
def State.markSeq (s : State) (p : Packet) : State :=
  let d := p.dest % 4
  let k := srcKey p.sspace p.src
  match (s.home d).seriesOf k with
  | none =>
    let c := (Tbl.get (fun _ => none) s.dp.markSeen (d * 2 ^ 19 + k)).getD ⟨0, []⟩
    { s with dp := { s.dp with markSeen := Tbl.put (fun _ => none) s.dp.markSeen (d * 2 ^ 19 + k) (some (c.add p.seq)) } }
  | some t => s.markClass d k p.seq t (t.classify p.seq)

/-- What the module has received of a packet's series: by its source's tracker, else by its marks alone (R62, R93). -/
def State.receivedOf (s : State) (p : Packet) : Seen :=
  let d := p.dest % 4
  let k := srcKey p.sspace p.src
  match (s.home d).seriesOf k with
  | some t => t.seen
  | none => (Tbl.get (fun _ => none) s.dp.markSeen (d * 2 ^ 19 + k)).getD ⟨0, []⟩

/-! ## The rate limiter's decrease (R125) -/

/-- The rate after an ECHO: × 7/8, 1/2 or 1/4, no lower than 1.5625 Gb/s. -/
def echoRate (rate echo : Nat) : Nat :=
  let r := if echo = 1 then rate * 7 / 8 else if echo = 2 then rate / 2 else rate / 4
  max 102400 r

/-- A non-zero ECHO from an endpoint lowers its leaf ID's rate, unless a decrease came within 2 µs. -/
def State.echo (s : State) (p : Packet) : State :=
  if p.sspace = 1 ∨ p.echo = 0 then s
  else
    let leaf := p.src / 64
    let l := s.limit leaf
    match l.lastCut with
    | some t => if s.now < t + 2000 then s.setLimit leaf { l with lastEcho := s.now }
        else s.setLimit leaf { l with rate := echoRate l.rate p.echo, lastCut := some s.now, lastEcho := s.now }
    | none => s.setLimit leaf { l with rate := echoRate l.rate p.echo, lastCut := some s.now, lastEcho := s.now }

/-! ## Acknowledgements (R62, R98, R258) -/

/-- Whether an ACK covers a SEQ (R62). -/
def ackCovers (p : Packet) (seq : Nat) : Bool :=
  let cum := p.fld 5 31 8
  let d := (seq + 2 ^ 24 - cum) % 2 ^ 24
  precedes 24 seq cum || (1 ≤ d && d ≤ 64 &&
    (if d ≤ 32 then (p.w 7).bit (d - 1) else (p.w 6).bit (d - 33)))

/-- Marks of a move that an ACK from a peer leaves unacknowledged (R93). -/
def marksLeft (s : State) (p : Packet) (m : Move) : Move :=
  match m.phase, m.old with
  | .marks left dl, .plane _ j =>
    if p.src = (s.peer j).spineId * 4 ∧ p.sspace = 1 then
      { m with phase := .marks (left.filter (fun x => !ackCovers p x.2)) dl }
    else m
  | _, _ => m

/-- Whether an ACK covers a DATA packet of the hub. -/
def DataOut.covered (p : Packet) (x : DataOut) : Bool :=
  x.space == p.sspace && x.dest == p.src && ackCovers p x.seq

/-- A move whose every mark is acknowledged. -/
def marksDone (m : Move) : Bool := match m.phase with | .marks [] _ => true | _ => false

/-- An ACK to the module (R258): DATA it covers leaves the outstanding counters, marks it covers are
acknowledged, and moves with no mark left end; one that covers nothing is counted as late. -/
def State.receiveAck (s : State) (p : Packet) : State :=
  let s := s.echo p
  let ms := s.dp.moves.map (marksLeft s p)
  let data := s.req.data.filter (fun x => !x.covered p)
  let none_ : Bool := decide (ms = s.dp.moves) && data.length == s.req.data.length
  let s := { s with dp := { s.dp with moves := ms }, req := { s.req with data := data } }
  let s := if none_ then s.bump C.TEL_HUB_LATE_RSP 1 else s
  forEach (fun m s => s.finishMove m none) (ms.filter marksDone) s

end Sys2Proof.Machine
end

