-- ==== Sys2Proof/Machine/Queues.lean ====
section
/-!
DEFINITION. Commands of the shared buffer (05_shared_buffer_congestion.md): retries of admission and of
bank writes, age limits, register writes with rules of their own, spill blocks, the no-path timeout,
the rate limiter's recovery and the depth factors (R87).
-/
namespace Sys2Proof.Machine

/-- SHAPER_ELIGIBLE (R136): the shaper's slot of the calendar wheel is reached, and it leaves the wheel
with the tokens it has. -/
def execShaperEligible (egress : Fin 1094) (i : Fin 9) (s : State) : Host.Outcome State Fault Refusal :=
  match s.wheelPos egress i with
  | .slot t =>
    let s := s.reach t
    ok (s.setShaper egress i (s.shaperNow egress i) .free)
  | _ => ok s

/-- PACKET_ADMIT_RETRY (R115 rule 5): the packets that wait on a port and VC are offered again, in
arrival order, once no multicast packet from there waits (R153); held packets that a path's queue refused are offered again
too (R123). -/
def execPacketAdmitRetry (port : Fin 1089) (vc : Fin 4) (s : State) : Host.Outcome State Fault Refusal :=
  let k := pvKey port vc
  if s.replicaWaits port vc then ok s
  else
    let r := offerWaiting (s.waitingAt k) s
    ok (r.2.setWaiting k r.1).reconsider

/-- The oldest held write of a VC reaches its banks: writes of one VC leave in their own order (R109). -/
def State.bankNext (s : State) (pl vc : Nat) : State :=
  match (s.bankWaiting pl).find? (fun w => w.vc == vc) with
  | none => s
  | some w => (s.bankLeave w.port w.id).writeN w.id w.n

/-- BANK_WRITE_RETRY (R109): the oldest held write of a VC is tried again; it leaves the queue when a
bank is free, and the cycle counts in BANK_STALL while a write still waits. -/
def execBankWriteRetry (pl : Fin 18) (vc : Fin 4) (free : Bool) (s : State) : Host.Outcome State Fault Refusal :=
  let s := if free then s.bankNext pl vc else s
  ok (if (s.bankWaiting pl).isEmpty then s else s.countCycle C.BUF_BANK_STALL)

/-- The age limit in ns; 0 means none (R128). -/
def State.ageNs (s : State) : Nat := s.fld R.BUF_AGE_LIMIT 15 0 * 1000

/-- AGE_LIMIT_EXPIRY (R116, R153): the oldest packet that waits on a port and VC, or else the oldest
waiting replica of a packet from there, has waited past AGE_LIMIT and is dropped under reason 0x0D.
(DESIGN CHOICE, log entry 46) -/
def execAgeLimitExpiry (port : Fin 1089) (vc : Fin 4) (s : State) : Host.Outcome State Fault Refusal :=
  if s.ageNs = 0 then ok s
  else
    let k := pvKey port vc
    match s.waitingAt k with
    | w :: ws =>
      let s := (s.reach (w.item.since + s.ageNs)).setWaiting k ws
      ok ((s.dropItem drAge 0 w.item).entered w.item.id)
    | [] =>
      match s.dp.mcWait.find? (fun w => w.item.port == port.val && w.item.vc == vc.val) with
      | none => ok s
      | some w =>
        let s := s.reach (w.item.since + s.ageNs)
        let s := { s with dp := { s.dp with mcWait := s.dp.mcWait.filter (fun x => decide (x ≠ w)) } }
        let id := w.item.mcast.getD 0
        ok ((({ s with dp := s.dp.replicaDone id } : State).countDrop port drAge).mcDone id)

/-- MARK_THRESHOLD_WRITE (R124): a BUF.MARK_t write is stored, or discarded with MARK_ORDER set when its
enabled thresholds are out of order. -/
def execMarkThresholdWrite (t : Fin 8) (w : Word) (s : State) : Host.Outcome State Fault Refusal :=
  ok (s.gate (R.BUF_MARK t) (fun s =>
    if marksOrdered w then s.store (R.BUF_MARK t) w else s.setF R.BUF_ADM_STAT 30 30 1))

/-- The offset of such a register. -/
def rsvOff : RsvReg → Nat
  | .inRsv => R.BUF_IN_RSV
  | .pl17Rsv => R.BUF_PL17_RSV
  | .tcCfg t => R.BUF_TC_CFG t
  | .nopathCtrl => R.BUF_NOPATH_CTRL

/-- RESERVATION_WRITE (R112): stored, or discarded with RSV_OVER set when the total of reservations
would exceed 393,216 cells. -/
def execReservationWrite (r : RsvReg) (w : Word) (s : State) : Host.Outcome State Fault Refusal :=
  ok (s.gate (rsvOff r) (fun s =>
    let s' := s.store (rsvOff r) w
    if s'.reservedTotal ≤ 393216 then s' else s.setF R.BUF_ADM_STAT 31 31 1))

/-! ## Spill blocks (R119 to R122) -/

/-- The first block in a state is changed by a function. -/
def updFirst (p : SpillBlock → Bool) (f : SpillBlock → SpillBlock) : List SpillBlock → List SpillBlock
  | [] => []
  | b :: bs => if p b then f b :: bs else b :: updFirst p f bs

def SpillBlock.isFilling (b : SpillBlock) : Bool := match b.st with | .filling _ => true | _ => false

/-- SPILL_BLOCK_WRITE (R121): the oldest block of a queue that is still on-die goes to HBM: it is full
(another block follows it, or it holds 64 cells), or 1 µs has passed since its first write. SPILL_Q_MAX bounds admission
alone (R120). -/
def execSpillBlockWrite (egress : Fin 1094) (tc : Fin 8) (s : State) : Host.Outcome State Fault Refusal :=
  let k := qKey egress tc
  let q := s.queue k
  match q.spill.find? SpillBlock.isFilling with
  | none => ok s
  | some b =>
    if !s.spillRuns || !s.spillRegionFree then ok s
    else
      let full := cellsIn b.items == 64 || 1 < (q.spill.filter SpillBlock.isFilling).length
      let since := match b.st with | .filling t => t | _ => 0
      let s := if full then s else s.reach (since + 1000)
      let d := s.spillPlace
      let s := s.setQueue k { q with spill := updFirst SpillBlock.isFilling (fun b => { b with st := .writing, die := d }) q.spill }
      let s := { s with mem := { s.mem with spillTurn := if d < 4 then d else s.mem.spillTurn } }
      ok (s.bump C.BUF_SPILL_BYTES (cellsIn b.items * 256))

/-- SPILL_WRITE_CONFIRM (R121): HBM confirms the oldest write of a queue, and the block's on-die cells
are freed. -/
def execSpillWriteConfirm (egress : Fin 1094) (tc : Fin 8) (s : State) : Host.Outcome State Fault Refusal :=
  let k := qKey egress tc
  let q := s.queue k
  match q.spill.find? (fun b => b.st == .writing) with
  | none => ok s
  | some b =>
    let f (b : SpillBlock) : SpillBlock :=
      ⟨.inHbm, b.items.map (fun it => { it with charge := .hbm }), b.die⟩
    let s := s.setQueue k { q with spill := updFirst (fun b => b.st == .writing) f q.spill }
    let s := { s with dp := { b.items.foldl (fun (d : Datapath) (it : Item) => d.releaseCells it.id) s.dp with
      staging := s.dp.staging - cellsIn b.items, blocksWritten := s.dp.blocksWritten + 1 } }
    ok (s.readbackQ k)

/-- A packet read back from HBM is charged on-die and joins the head (R119): to the queue's guaranteed cells while they
last, else to the shared pool, untested, as a packet that has been admitted already. (DESIGN CHOICE, log entry 167) -/
def State.returnItem (s : State) (k : Nat) (it : Item) : State :=
  let s := s.writeCells it
  let dp := s.dp.freed k it
  let q := Tbl.get (fun _ => EQueue.empty) dp.queues k
  if q.charge + it.n ≤ s.eqMin it.tc then
    let q' := { q with guar := q.guar + it.n, head := q.head ++ [{ it with charge := .guaranteed }] }
    { s with dp := { dp with queues := Tbl.put (fun _ => EQueue.empty) dp.queues k q' } }
  else
    let q' := { q with shared := q.shared + it.n, head := q.head ++ [{ it with charge := .shared }] }
    { s with dp := { dp with queues := Tbl.put (fun _ => EQueue.empty) dp.queues k q',
                             sharedUsed := dp.sharedUsed + it.n,
                             inShared := addAt dp.inShared (pvKey it.port it.vc) it.n } }

/-- One packet of a returned block: dropped when the block is bad (reason 0x10) or when it is past the
age limit (reason 0x0D), else back on-die (R122). -/
def State.returned (s : State) (k : Nat) (err : Bool) (it : Item) : State :=
  if err then s.dropItem drSpillError k it
  else if s.ageNs ≠ 0 ∧ it.since + s.ageNs < s.now then s.dropItem drAge k it
  else s.returnItem k it

/-- SPILL_BLOCK_RETURN (R119, R122): the block being read back returns; a block with an uncorrectable
error drops its packets. -/
def execSpillBlockReturn (egress : Fin 1094) (tc : Fin 8) (err : Bool) (s : State) :
    Host.Outcome State Fault Refusal :=
  let k := qKey egress tc
  let q := s.queue k
  match q.spill with
  | ⟨.reading, its, place⟩ :: bs =>
    let err := err || place == lostPlace
    let s := s.setQueue k { q with spill := bs }
    let s := forEach (fun it s => s.returned k err it) its s
    let s := ((s.setQueue k (s.queue k).settle).readbackQ k).emptied k
    ok { s with dp := { s.dp with blocksRead := s.dp.blocksRead + bit01 (!err),
                                  blocksLost := s.dp.blocksLost + bit01 err } }
  | _ => ok s

/-- NOPATH_TIMEOUT (R123): the packet longest in the no-path hold has been held NOPATH_US and is
dropped under the no-path reason. -/
def execNopathTimeout (s : State) : Host.Outcome State Fault Refusal :=
  match s.dp.hold with
  | [] => ok s
  | it :: l =>
    let s := s.reach (it.since + s.fld R.BUF_NOPATH_CTRL 15 0 * 1000)
    let s := { s with dp := { s.dp with hold := l } }
    ok ((s.dropItem drNoPath 0 it).entered it.id)

/-- RATE_LIMIT_RECOVER (R125): 8 µs without a non-zero ECHO raise a leaf ID's rate by 25 Gb/s, up to
400 Gb/s. -/
def execRateLimitRecover (leaf : Fin 4096) (s : State) : Host.Outcome State Fault Refusal :=
  let l := s.limit leaf
  if l.rate = 400 * 65536 then ok s
  else
    let s := s.reach (l.lastEcho + 8000)
    ok (s.setLimit leaf { l with rate := min (400 * 65536) (l.rate + 25 * 65536), lastEcho := s.now })

/-- The depth factor in quarters that a mark level gives (R87). -/
def depthQuarters (level : Nat) : Nat :=
  if level = 0 then 4 else if level = 1 then 2 else if level = 2 then 1 else 0

/-- The factors of a list of queues; an empty queue's factor is 1. -/
def refreshDepth (s : State) : List (Nat × EQueue) → Tbl Nat → Tbl Nat
  | [], t => t
  | (k, q) :: l, t =>
    refreshDepth s l (Tbl.put (fun _ => 4) t k (depthQuarters (markLevel (s.rd (R.BUF_MARK (k % 8))) q.occupancy)))

/-- ADAPT_NS in ns, 1 to 99 acting as 100 (R105). -/
def State.adaptNs (s : State) : Nat := max 100 (s.fld R.BUF_FWD_SPRAY_CTRL 15 0)

/-- DEPTH_REFRESH (R87): ADAPT_NS after its last refresh a pipeline refreshes the depth factors of its egress paths from the
occupancy of their queues; with ADAPT_NS 0 there is none, and every factor is 1. -/
def execDepthRefresh (pl : Fin 17) (s : State) : Host.Outcome State Fault Refusal :=
  if s.fld R.BUF_FWD_SPRAY_CTRL 15 0 = 0 then ok s
  else
    let s := s.reach (Tbl.get (fun _ => 0) s.dp.depthAt pl + s.adaptNs)
    let keep := s.dp.depth.filter (fun kd => kd.1 / 8 / 64 != pl.val)
    let mine := s.dp.queues.filter (fun kq => kq.1 / 8 / 64 == pl.val)
    ok { s with dp := { s.dp with depth := refreshDepth s mine keep,
                                  depthAt := Tbl.put (fun _ => 0) s.dp.depthAt pl s.now } }

/-! ## Path weights and moves (R88 to R96, R106) -/

/-- Buckets pinned to a port's path start their moves (R90, R106). -/
def State.moveOffPort (s : State) (port : Nat) : State :=
  if port < 1024 then s.moveOff (.member port) none
  else forEach (fun j (s : State) => s.moveOff (.plane (port - 1024) j) none) (List.range 64) s

/-- PATH_WEIGHT_WRITE (R88, R106): stored while EASEL_OWNS is 0, else discarded; a zero starts the move
of every bucket pinned to the path, and a weight that becomes non-zero has the no-path hold looked up
again (R123). -/
def execPathWeightWrite (port : Fin 1088) (w : Word) (s : State) : Host.Outcome State Fault Refusal :=
  let off := R.PL_PATH_WEIGHT (port / 64) (port % 64)
  ok (s.gate off (fun s =>
    if s.fld R.BUF_FWD_SPRAY_CTRL 31 31 = 1 then s
    else
      let was := s.wBase port
      let s := s.store off w
      if w.fld 3 0 = 0 then s.moveOffPort port
      else if was = 0 then s.reconsider else s))

/-- The move of a bucket. -/
def State.findMove (s : State) (uid bucket : Nat) : Option Move :=
  s.dp.moves.find? (fun m => m.bundle == uid && m.bucket == bucket)

/-- SETTLE_EXPIRY (R91, R95): the settle wait of a bucket's move ends; its held packets are released to
the new path. (DESIGN CHOICE, log entry 2) -/
def execSettleExpiry (uid : Word) (bucket : Fin 64) (s : State) : Host.Outcome State Fault Refusal :=
  match s.findMove uid.toNat bucket with
  | none => ok s
  | some m =>
    match m.phase with
    | .settle t => ok ((s.reach t).endSettle m)
    | _ => ok s

/-- Ids of the packets of a port and VC that have passed lookup and have not entered an egress queue. -/
def State.behindOf (s : State) (port vc : Nat) : List Nat :=
  ((s.waitingAt (pvKey port vc)).map (·.item.id))
    ++ ((s.dp.mcIn.filter (fun m => m.item.port == port && m.item.vc == vc)).map (·.item.id))
    ++ ((s.dp.mcWait.filter (fun w => w.item.port == port && w.item.vc == vc)).map (·.item.id))
    ++ ((s.dp.hold.filter (fun it => it.port == port && it.vc == vc)).map (·.id))
    ++ ((s.dp.moves.flatMap (·.held)).filter (fun it => it.port == port && it.vc == vc)).map (·.id)

/-- PATH_MARK_RECEIVE (R93): the oldest PATH_MARK addressed to the module is placed behind the earlier
packets of its port and VC. -/
def execPathMarkReceive (s : State) : Host.Outcome State Fault Refusal :=
  match s.dp.markIn with
  | [] => ok s
  | it :: l =>
    let s := (s.bankLeave it.port it.id).freeItem 0 it
    let s := ({ s with dp := s.dp.releaseCells it.id } : State).markSeq it.pkt
    match it.body with
    | .ffp p => ok { s with dp := { s.dp with
        markIn := l, markWaits := s.dp.markWaits ++ [⟨it.port, p, s.behindOf it.port it.vc⟩] } }
    | .eth _ => ok { s with dp := { s.dp with markIn := l } }

/-- The ACK for a packet: DEST its SRC, CUM_SEQ the first SEQ of the pair's series not received, the later ones received in
SACK, its TC and JOB, ECHO its MARK (R62, R74). (DEDUCED, log entry 35) -/
def ackFor (p : Packet) (cum : Nat) (beyond : List Nat) : Packet :=
  let sack (lo : Nat) : Word := BitVec.ofNat 32 (((List.range 32).map (fun n =>
    if beyond.contains ((cum + 1 + lo + n) % 2 ^ 24) then 2 ^ n else 0)).sum)
  mkPacket { ty := tyACK, tc := p.tc, vc := vcRSP, echo := p.mark, dest := p.src, dspace := p.sspace,
             src := p.dest, sspace := bit01 (destSpine p), job := p.job }
    [(0 : Word).setFld 31 8 cum, sack 32, sack 0] []

/-- PATH_MARK_ACK_SEND (R93): once every packet before a mark has entered its egress queue, its ACK is
returned. -/
def execPathMarkAckSend (s : State) : Host.Outcome State Fault Refusal :=
  match s.dp.markWaits.find? (fun m => m.behind.isEmpty) with
  | none => ok s
  | some m =>
    let s := { s with dp := { s.dp with markWaits := s.dp.markWaits.filter (fun x => decide (x ≠ m)) } }
    let c := s.receivedOf m.pkt
    ok (s.originate (ackFor m.pkt c.cum c.beyond))

/-- The hub's input queue, of responses and ACKs to the module's own endpoints. -/
def State.hubIn (s : State) : List Item := s.unitQueue 5

/-- PATH_MARK_ACK_RECEIVE (R93): an ACK at the head of the hub's input acknowledges marks of the moves
off the sender's planes; a move with every mark acknowledged releases its held packets. -/
def execPathMarkAckReceive (s : State) : Host.Outcome State Fault Refusal :=
  match s.hubIn with
  | [] => ok s
  | it :: l =>
    let p := it.pkt
    if p.ty ≠ tyACK then ok s else ok ((s.unitTake 5 it l).receiveAck p)

/-- MARK_TIMEOUT (R93, R96): MARK_TIMEOUT_US expires before every mark is acknowledged, and the move is
forced with cause 0. -/
def execMarkTimeout (uid : Word) (bucket : Fin 64) (s : State) : Host.Outcome State Fault Refusal :=
  match s.findMove uid.toNat bucket with
  | none => ok s
  | some m =>
    match m.phase with
    | .marks _ (some t) => ok ((s.reach t).finishMove m (some 0))
    | _ => ok s

/-! ## Forwarding tables (R81 to R84, R102, R105) -/

/-- The leaf entry that an unlisted leaf ID reads as. -/
def leafZero : List Word := [0, 0, 0, 0]

/-- Setting STATUS of a command register's status word. -/
def State.status (s : State) (off v : Nat) : State := s.setF off 3 0 v

/-- A leaf destination entry has no reserved bit set (R81). -/
def leafEntryOk (e : List Word) : Bool := (e.getD 0 0).fld 29 0 == 0

/-- An override entry has no reserved bit, and an ACTION that its space allows (R82, R83). -/
def ovrEntryOk (e : List Word) : Bool :=
  let w0 := e.getD 0 0
  let w1 := e.getD 1 0
  w0.fld 26 18 == 0 && w1.fld 15 12 == 0 && (e.getD 2 0).toNat == 0 && (e.getD 3 0).toNat == 0
    && w0.fld 29 28 != 3 && !(w0.fld 30 30 == 1 && w0.fld 29 28 == 1)

/-- FWD_WRITE_SHADOW (R82 to R84, R105): the entry in FWD_DATA0-3 is written into the shadow bank of the
leaf destination table (`ovr` false) or of the override table, or refused with a status. -/
def execFwdWriteShadow (ovr : Bool) (index : Fin 4096) (s : State) : Host.Outcome State Fault Refusal :=
  ok (s.gate R.BUF_FWD_CMD (fun s =>
    let e := s.rdWords (R.BUF_FWD_DATA 0) 4
    let stat := R.BUF_FWD_STAT
    if s.tab.pending.isSome then s.status stat 2
    else if !ovr then
      if !leafEntryOk e then s.status stat 3
      else ({ s with tab := { s.tab with
        leafShadow := Tbl.put (fun _ => leafZero) s.tab.leafShadow index e } } : State).status stat 0
    else if !ovrEntryOk e then s.status stat 3
    else
      let w0 := e.getD 0 0
      let k := ovrKey (w0.fld 30 30) (w0.fld 17 0)
      let present := !(Tbl.get (fun _ => ([] : List Word)) s.tab.ovrShadow k).isEmpty
      if w0.fld 31 31 = 0 then
        if present then ({ s with tab := { s.tab with ovrShadow := Tbl.erase s.tab.ovrShadow k } } : State).status stat 0
        else s.status stat 4
      else if !present && 65536 ≤ s.tab.ovrShadow.length then s.status stat 1
      else ({ s with tab := { s.tab with
        ovrShadow := Tbl.put (fun _ => []) s.tab.ovrShadow k [w0, e.getD 1 0] } } : State).status stat 0))

/-- Reading an entry of a bank into FWD_DATA0-3; an absent override key answers status 4 (R105). -/
def State.fwdRead (s : State) (ovr : Bool) (index : Nat) (leaf ovrT : Tbl (List Word)) : State :=
  s.gate R.BUF_FWD_CMD (fun s =>
    if !ovr then
      (s.wrWords (R.BUF_FWD_DATA 0) (Tbl.get (fun _ => leafZero) leaf index)).status R.BUF_FWD_STAT 0
    else
      let w0 := s.rd (R.BUF_FWD_DATA 0)
      match Tbl.get (fun _ => []) ovrT (ovrKey (w0.fld 30 30) (w0.fld 17 0)) with
      | [a, b] => (s.wrWords (R.BUF_FWD_DATA 0) [a, b, 0, 0]).status R.BUF_FWD_STAT 0
      | _ => s.status R.BUF_FWD_STAT 4)

/-- FWD_READ_SHADOW (R105). -/
def execFwdReadShadow (ovr : Bool) (index : Fin 4096) (s : State) : Host.Outcome State Fault Refusal :=
  ok (s.fwdRead ovr index s.tab.leafShadow s.tab.ovrShadow)

/-- FWD_READ_ACTIVE (R105). -/
def execFwdReadActive (ovr : Bool) (index : Fin 4096) (s : State) : Host.Outcome State Fault Refusal :=
  ok (s.fwdRead ovr index s.tab.leafActive s.tab.ovrActive)

/-- GAP_US in ns, 0 to 49 acting as 50 (R105). -/
def State.gapNs (s : State) : Nat := max 50 (s.fld R.BUF_FWD_GEN_CTRL 15 0) * 1000

/-- The first whole microsecond at or after an instant. -/
def nextMicro (t : Nat) : Nat := (t + 999) / 1000 * 1000

/-- The earliest epoch of a commit made at a TB0 instant: 2 µs on, GAP_US after the previous epoch, and
past the shadow copy's 45 µs (R102, R103). -/
def State.earliestEpoch (s : State) (tb0 : Nat) : Nat :=
  nextMicro (max (tb0 + 2000) (match s.tab.lastEpoch with | none => 0 | some e => e + s.gapNs))

/-- The requested epoch, read against TB0's high seconds; 0 when both registers are zero (R102). -/
def State.requestedEpoch (s : State) : Nat :=
  let sec := s.fld R.BUF_FWD_EPOCH_SEC 31 0
  let ns := s.fld R.BUF_FWD_EPOCH_NS 29 0
  if sec = 0 ∧ ns = 0 then 0 else (s.tb0Sec / 2 ^ 32 * 2 ^ 32 + sec) * 1000000000 + ns

/-- FWD_COMMIT (R102, R105): a write of FWD_GEN_CTRL with COMMIT set, whose GAP_US is stored; the shadow
banks are scheduled to become active, or the commit is not taken, with a status. -/
def execFwdCommit (gapUs : Fin 65536) (s : State) : Host.Outcome State Fault Refusal :=
  ok (s.gate R.BUF_FWD_GEN_CTRL (fun s =>
    let s := s.setF R.BUF_FWD_GEN_CTRL 15 0 gapUs
    let req := s.requestedEpoch
    if s.tab.pending.isSome then s.status R.BUF_FWD_STAT 2
    else if 999999999 < s.fld R.BUF_FWD_EPOCH_NS 29 0 ∨ s.tb0 + 10000000000 < req then s.status R.BUF_FWD_STAT 5
    else
      ({ s with tab := { s.tab with pending := some (max req (s.earliestEpoch s.tb0)), requested := req } } : State).status
        R.BUF_FWD_STAT 0))

/-- SHADOW_COPY_DONE (R103): the copy of the active bank into the shadow completes. The shadow already
reads as it will be, so only COPYING changes. -/
def execShadowCopyDone (s : State) : Host.Outcome State Fault Refusal :=
  ok { s with tab := { s.tab with copying := false } }

end Sys2Proof.Machine
end

