-- ==== Sys2Proof/Machine/Multicast.lean ====
section
/-!
DEFINITION. Multicast replication (07_multicast.md): the effective mask, fenced targets, the member or
plane of each replica, the admission of replicas, and the group table commands.
-/
namespace Sys2Proof.Machine

/-- A target of replication (R148): a bundle, with its lowest set bit; a bit in no bundle; a peer. -/
inductive Target where
  | bundle (uid : Nat) (bit : Nat)
  | alone (bit : Nat)
  | peer (j : Nat)
deriving DecidableEq, Repr

/-- The leaf bits of the mask, less the ingress bundle's under SRC_SUPPRESS (R149 step 3). -/
def leafBits (e : List Word) : List Nat := (List.range 1024).filter (maskBit e)

/-- The bits that SRC_SUPPRESS removes: those of the bundle the packet arrived on, its ingress port's among them. -/
def State.suppressed (s : State) (e : List Word) (it : Item) : List Nat :=
  if (e.getD 0 0).fld 29 29 = 1 ∧ it.via ≠ 0 then (leafBits e).filter (fun b => s.bundleOf b == it.via || b == it.port) else []

/-- The peers of the mask: none while PRISM_MEMBER is 0 or for a packet from a BP port; the own
position's bit is ignored (R148, R149). -/
def State.peerBits (s : State) (e : List Word) (port : Nat) : List Nat :=
  if s.prismMember ∧ ¬(1024 ≤ port ∧ port < 1088) then
    (List.range 64).filter (fun j => maskBit e (1024 + j) && j != s.prismPos)
  else []

/-- The leaf targets of a list of bits: one for each bundle, one for each bit in no bundle (R148). -/
def State.leafTargets (s : State) : List Nat → List Nat → List Target
  | [], _ => []
  | b :: bs, seen =>
    let u := s.bundleOf b
    if u = 0 then .alone b :: s.leafTargets bs seen
    else if seen.contains u then s.leafTargets bs seen
    else .bundle u b :: s.leafTargets bs (u :: seen)

/-- The planes of the peer targets, in rising order of position: each takes the lowest free, unfenced
plane that reaches it (R152). -/
def State.peerPlanes (s : State) : List Nat → List Nat → List (Nat × Option Nat)
  | [], _ => []
  | j :: js, used =>
    let p := (List.range 64).find? (fun p =>
      s.planeUsable p && s.reaches p j && !s.fenced (1024 + p) && !used.contains p)
    (j, p) :: s.peerPlanes js (match p with | some q => q :: used | none => used)

/-- A replica of an item for an egress port. -/
def Item.replica (it : Item) (peer : Option Nat) (leg : Leg) : Item :=
  { it with charge := .replica, mcast := some it.id, leg := some leg, peer := peer, bucket := legBucket leg it.pkt }

/-- The shared cells are charged once, when the first replica is admitted: they leave the ingress
reservation (R153). -/
def State.mcCharge (s : State) (id : Nat) : State :=
  match s.dp.mcLive.find? (fun m => m.id == id) with
  | none => s
  | some m =>
    if m.charged then s
    else
      let s := { s with dp := { s.dp with
        mcLive := s.dp.mcLive.map (fun (x : McPacket) => if x.id = id then { x with charged := true } else x),
        sharedUsed := s.dp.sharedUsed + m.n, inShared := addAt s.dp.inShared (pvKey m.port m.vc) m.n } }
      if s.unwritten m.port id then s.oweCredits m.port id
      else ({ s with dp := { s.dp with inRsv := subAt s.dp.inRsv (pvKey m.port m.vc) m.n } } : State).returnCredits
        m.port m.vc m.n

/-- A replica queued on-die: its N cells add to its queue's charge (R153). -/
def Datapath.admitReplica (d : Datapath) (k : Nat) (it : Item) : Datapath :=
  let f (q : EQueue) : EQueue := ({ q with shared := q.shared + it.n }.pushOnDie it).mark
  { d with queues := Tbl.upd (fun _ => EQueue.empty) d.queues k f }

/-- A replica whose bucket moves is held behind the move, in cells of its own (R95, R155). -/
def State.holdReplica (s : State) (u b : Nat) (it : Item) : State :=
  let id := it.mcast.getD 0
  let s := s.mcCharge id
  ({ s with dp := s.dp.replicaDone id } : State).holdForMove u b { it with charge := .none, mcast := none }

/-- Whether a packet's replicas wait behind earlier packets of their ingress port and VC (R116, R153). -/
def State.replicaBehind (s : State) (it : Item) : Bool :=
  s.dp.mcWait.any (fun w => w.item.port == it.port && w.item.vc == it.vc && w.item.id != it.id)
    || (s.waitingAt (pvKey it.port it.vc)).any (fun w => decide (w.item.id < it.id))

/-- Offering one replica (R153): admitted, copied into a spilling queue's segment, held behind its bucket's move, dropped, or
`none` when it must wait. `first`: rule 3 tests the ingress share. -/
def State.offerReplica (s : State) (it : Item) (egress : Nat) (first : Bool) : Option State :=
  let k := qKey egress it.tc
  let id := it.mcast.getD 0
  if s.replicaBehind it then none
  else
  match it.bucket.filter (fun ub => s.bucketMoves ub.1 ub.2) with
  | some ub => some (s.holdReplica ub.1 ub.2 it)
  | none =>
  match s.admitRule it egress first true with
  | .append | .spill =>
    let s := (s.mcCharge id)
    some { s with dp := (s.dp.admitSpill s.now k { it with charge := .none, mcast := none }).replicaDone id }
  | .guaranteed | .shared =>
    let s := s.mcCharge id
    some { s with dp := s.dp.admitReplica k it }
  | .drop => some ((({ s with dp := s.dp.replicaDone id } : State).countDrop it.port drAdmission).mcSettle id)
  | .wait => none

/-- Whether rule 3's ingress test is still to be made for a multicast packet (R153): it is made for each replica until one
has been admitted. (DESIGN CHOICE, log entry 168) -/
def State.firstReplica (s : State) (id : Nat) : Bool :=
  match s.dp.mcLive.find? (fun m => m.id == id) with
  | some m => !m.charged
  | none => false

/-- Replicas offered in turn; those refused under rule 5 wait in the replication unit (R153). -/
def offerReplicas (it : Item) : List (Nat × Leg) → State → State
  | [], s => s
  | (egress, leg) :: l, s =>
    let r := { it.replica (match leg with | .peer j => some j | _ => none) leg with since := s.now }
    match s.offerReplica r egress (s.firstReplica it.id) with
    | some s' => offerReplicas it l s'
    | none => offerReplicas it l { s with dp := { s.dp with mcWait := s.dp.mcWait ++ [⟨r, egress⟩] } }

/-- What became of a multicast packet's targets: replicas by egress port and target, pruned bundle
targets by their lowest bit, pruned peers. -/
structure Replication where
  replicas : List (Nat × Leg)
  prunedLeaf : List Nat
  prunedPeer : Nat
deriving DecidableEq, Repr

/-- Steps 3 and 4 of R149: the targets of a packet, pruned (R151) and given members and planes; each bundle has a draw of
its own (R86). -/
def State.targets (s : State) (it : Item) (e : List Word) (group : Nat) : Replication :=
  let p := it.pkt
  let sup := s.suppressed e it
  let leaf := s.leafTargets ((leafBits e).filter (fun b => !sup.contains b)) []
  let members := leaf.zipIdx.map (fun x =>
    match x.1 with
    | .bundle u b => (b, Leg.bundle u, ({ s with free := s.free + x.2 } : State).replicaMember u p group)
    | .alone b => (b, Leg.port b, none)
    | .peer j => (j, Leg.peer j, none))
  let planes := s.peerPlanes (s.peerBits e it.port) []
  { replicas := members.filterMap (fun x => x.2.2.map (fun m => (m, x.2.1)))
      ++ planes.filterMap (fun x => x.2.map (fun q => (1024 + q, Leg.peer x.1))),
    prunedLeaf := (members.filter (fun x => x.2.2.isNone)).map (·.1),
    prunedPeer := (planes.filter (fun x => x.2.isNone)).length }

/-- The targets of a flooded frame: each Ethernet port of the mask, pruned while it is not in service or its
fence bit is set (R151, R328, R331). -/
def State.floodTargets (s : State) (e : List Word) : Replication :=
  let l := leafBits e
  let live (b : Nat) : Bool := s.inService b && !s.fenced b
  { replicas := (l.filter live).map (fun b => (b, Leg.port b)), prunedLeaf := l.filter (fun b => !live b),
    prunedPeer := 0 }

/-- MCAST_REPLICATE's steps for one packet and the entry of its generation (R149, R153): dropped for an
invalid entry, a wrong job or an empty mask; else pruned targets are counted and a replica is created
for each other target. Answers the number of pruned targets too. -/
def State.replicate (s : State) (it : Item) (e : List Word) : State × Nat :=
  let p := it.pkt
  let s := s.bump C.MCT_RX_PKTS 1
  let w0 := e.getD 0 0
  let sup := s.suppressed e it
  if w0.fld 31 31 = 0 then ((s.dropItem drEmptyMask 0 it).entered it.id, 0)
  else if it.isEth = false ∧ w0.fld 30 30 = 1 ∧ w0.fld 15 0 ≠ p.job then ((s.dropItem drStaleJob 0 it).entered it.id, 0)
  else
    let s := s.bump C.MCT_SUPPRESSED sup.length
    if ((leafBits e).filter (fun b => !sup.contains b)).isEmpty ∧ (s.peerBits e it.port).isEmpty then
      ((s.dropItem drEmptyMask 0 it).entered it.id, 0)
    else
      let r := if it.isEth then s.floodTargets e else s.targets it e (groupOf p)
      let s := (s.bump C.MCT_PRUNED_LEAF r.prunedLeaf.length).bump C.MCT_PRUNED_PEER r.prunedPeer
      let s := forEach (fun b (s : State) => s.bumpPort b 6 1) r.prunedLeaf s
      let pruned := r.prunedLeaf.length + r.prunedPeer
      if r.replicas.isEmpty then
        let s := ((s.freeItem 0 it).entered it.id).txDone it.id none
        ({ s with dp := s.dp.releaseCells it.id }, pruned)
      else
        let s := s.bump C.MCT_REPLICAS r.replicas.length
        let s := { s with dp := { s.dp with mcLive := s.dp.mcLive ++
          [⟨it.id, it.port, it.vc, it.n, r.replicas.length, false⟩] } }
        let s := offerReplicas it r.replicas s
        (({ s with free := s.free + 1024 } : State).mcDone it.id, pruned)

/-- The waiting replicas offered again, in order; those still refused stay (R153). -/
def offerAgain : List Waiting → State → State
  | [], s => s
  | w :: l, s =>
    match s.offerReplica w.item w.egress (s.firstReplica (w.item.mcast.getD 0)) with
    | some s' => offerAgain l (if l.any (fun x => x.item.id == w.item.id) then s' else s'.mcDone w.item.id)
    | none => offerAgain l { s with dp := { s.dp with mcWait := s.dp.mcWait ++ [w] } }

/-- REPLICA_ADMIT_RETRY (R153): the replicas that wait in the replication unit are offered again. -/
def execReplicaAdmitRetry (s : State) : Host.Outcome State Fault Refusal :=
  ok (offerAgain s.dp.mcWait { s with dp := { s.dp with mcWait := [] } })

/-! ## The group table (R147, R157) -/

/-- The entry that an unlisted group reads as. -/
def groupZero : List Word := List.replicate 36 0

/-- A group entry sets no reserved bit (R147, R157). -/
def groupEntryOk (e : List Word) : Bool := (e.getD 0 0).fld 28 16 == 0 && (e.getD 1 0).toNat == 0

/-- MCT_WRITE_SHADOW (R157): the entry in MCT.DATA_w is written into the shadow bank; VALID 0 deletes
the group. -/
def execMctWriteShadow (group : Fin 65536) (s : State) : Host.Outcome State Fault Refusal :=
  ok (s.gate R.MCT_CMD (fun s =>
    let e := s.rdWords (R.MCT_DATA 0) 36
    if s.tab.pending.isSome then s.status R.MCT_STAT 2
    else if !groupEntryOk e then s.status R.MCT_STAT 3
    else
      let t := if (e.getD 0 0).fld 31 31 = 0 then Tbl.erase s.tab.grpShadow group
        else Tbl.put (fun _ => groupZero) s.tab.grpShadow group e
      ({ s with tab := { s.tab with grpShadow := t } } : State).status R.MCT_STAT 0))

/-- Reading a group entry into MCT.DATA_w. -/
def State.mctRead (s : State) (t : Tbl (List Word)) (group : Nat) : State :=
  s.gate R.MCT_CMD (fun s =>
    (s.wrWords (R.MCT_DATA 0) (Tbl.get (fun _ => groupZero) t group)).status R.MCT_STAT 0)

/-- MCT_READ_SHADOW (R157). -/
def execMctReadShadow (group : Fin 65536) (s : State) : Host.Outcome State Fault Refusal :=
  ok (s.mctRead s.tab.grpShadow group)

/-- MCT_READ_ACTIVE (R157). -/
def execMctReadActive (group : Fin 65536) (s : State) : Host.Outcome State Fault Refusal :=
  ok (s.mctRead s.tab.grpActive group)

end Sys2Proof.Machine
end

