-- ==== Sys2Proof/Machine/Prism.lean ====
section
/-!
DEFINITION. Prism planes (13_prism_optics.md, R288 to R302, R310): plane time, slots, patterns and phase
marks, re-tunes with their fence, the pattern table and the timing registers.
-/
namespace Sys2Proof.Machine

/-! ## Plane time (R296) -/

/-- Whether a frame waits on a plane for the peer that it reaches now, which did not fit. -/
def State.tailWaits (s : State) (p : Nat) : Bool :=
  (List.range 8).any (fun t => (s.queue (qKey (1024 + p) t)).head.any (fun it =>
    match it.peer with | some j => s.reachesNow p j | none => false))

/-- The guard's part of an interval of `e` ns that ends at the present instant. -/
def State.guardPart (s : State) (e : Nat) : Nat :=
  let o := (s.tb0 - 1) % 1000000000 % s.slotNs + 1
  let from_ := if e ≤ o then o - e else 0
  min s.gPkt o - min s.gPkt from_

/-- The eight counters after `e` ns of one plane: each nanosecond goes to one of them (R296); time
skipped after the first-lock step is guard time (R348). -/
def State.countPlane (s : State) (e p : Nat) : State :=
  let data := min e (Tbl.get (fun _ => 0) s.prism.dataNs p)
  match (s.plane p).st with
  | .down => s.bump C.OPT_DOWN_NS e
  | .miswired => s.bump C.OPT_DARK_NS e
  | .dark => s.bump C.OPT_DARK_NS e
  | .retune => s.bump C.OPT_RETUNE_NS e
  | .phase _ => (s.bump C.OPT_DATA_NS data).bump C.OPT_IDLE_NS (e - data)
  | .packet =>
    let skipped := min e (s.prism.frameFrom + e - s.tb0)
    let g := skipped + s.guardPart (e - skipped)
    let s := s.bump C.OPT_GUARD_NS g
    if (slotNumber s.slotNs (s.tb0 - 1) % 64 + p) % 64 = 0 then s.bump C.OPT_LOOP_NS (e - g)
    else
      let d := min (e - g) data
      let s := s.bump C.OPT_DATA_NS d
      if s.tailWaits p then s.bump C.OPT_TAIL_NS (e - g - d) else s.bump C.OPT_IDLE_NS (e - g - d)

/-- The time of every plane counted up to the present instant (R296), while PL16 works. While PL16 plane accounting is isolated,
counting stops (R419). (DESIGN CHOICE, log entry 107) -/
def State.accountPlanes (s : State) : State :=
  let e := s.now - s.prism.nsAt
  if e = 0 then s
  else if !s.works 5 || s.tel.isolated.contains (0x03, 16) then { s with prism := { s.prism with nsAt := s.now, dataNs := [] } }
  else
    let s := forEach (fun p s => s.countPlane e p) (List.range 64) s
    { s with prism := { s.prism with nsAt := s.now, dataNs := [] } }

/-! ## Which sender a plane delivers (R289, R291) -/

/-- The position whose light a plane delivers now under the routing law, if the plane receives. -/
def State.deliveredBy (s : State) (p : Nat) : Option Nat :=
  match (s.plane p).st with
  | .packet => some ((s.prismPos + 64 - s.slotColour p) % 64)
  | .phase c => some ((s.prismPos + 64 - c % 64) % 64)
  | _ => none

/-- Planes that deliver a position in some slot (R304). -/
def State.delivers (s : State) (j : Nat) : Bool :=
  (List.range 64).any (fun p =>
    match (s.plane p).st with
    | .packet => true
    | .phase c => (s.prismPos + 64 - c % 64) % 64 == j
    | _ => false)

/-! ## Handover of a plane's pairs (R95, R304) -/

/-- The packets sent and not acknowledged on a link, which ends without them. -/
def State.takeUnacked (s : State) (k : Nat) : List Item × State :=
  let l := s.link k
  let its := l.sent.map (fun x => { x.2 with charge := .move, own := true })
  let s := s.setLink k { l with replay := [], sent := [], flitsVoided := l.flitsVoided + l.replay.length }
  (its, { s with dp := { s.dp with moveCells := s.dp.moveCells + cellsIn its } })

/-- Some items of a plane's queues, on-die and spilled, their cells taken into the move queue. -/
def State.takeQueued (s : State) (p : Nat) (mine : Item → Bool) : Nat → List Item × State
  | 0 => ([], s)
  | t + 1 =>
    let r := s.takeQueued p mine t
    let k := qKey (1024 + p) t
    let x := (r.2.queue k).extract mine
    (r.1 ++ x.1.map (fun it => { it with charge := .move }),
     (r.2.setQueue k x.2).toMoveCells (x.1.map (fun it => (k, it))))

/-- Frames of a (plane, peer) pair handed over: unacknowledged ones, then queued ones; the buckets
pinned to the pair start their moves (R95, R304). -/
def State.pairHandover (s : State) (p j : Nat) : State :=
  let a := s.takeUnacked (s.linkKey (1024 + p) j)
  let b := a.2.takeQueued p (fun it => it.peer == some j) 8
  let s := b.2.moveOff (.plane p j) (some b.2.now)
  let s := { s with dp := { s.dp with moves := s.dp.moves.map (fun m =>
    match m.phase with
    | .marks _ _ => if m.old = .plane p j then { m with phase := .settle s.now } else m
    | _ => m) } }
  forEach (fun it s => s.handOver it) (a.1 ++ b.1) s

/-! ## Phase marks at PL16 (R300) -/

/-- The words of a PHASE_MARK (R166). -/
def markWords (ctx round pattern at_ : Nat) : List Word :=
  [(((0 : Word).setFld 31 18 ctx).setFld 17 10 round).setFld 9 2 pattern,
   BitVec.ofNat 32 (at_ / 1000000000), (0 : Word).setFld 29 0 (at_ % 1000000000)]

/-- PL16 takes a mark: ignored when its AT is earlier than that of the last applied mark, or when the
same mark was applied or is held (R300). -/
def State.takeMark (s : State) (pattern at_ : Nat) : State :=
  let stale : Bool := match s.prism.lastAt with
    | none => false
    | some l => decide (at_ < l) || (at_ == l && s.prism.applied.contains pattern)
  if stale || s.prism.marks.contains (at_, pattern) then s
  else { s with prism := { s.prism with marks := s.prism.marks ++ [(at_, pattern)] } }

/-! ## Patterns (R297, R298) -/

def patZero : List Word := List.replicate 18 0

/-- PLANE_MASK bit p of an entry. -/
def patMask (e : List Word) (p : Nat) : Bool := if p < 32 then (e.getD 1 0).bit p else (e.getD 0 0).bit (p - 32)
/-- The byte of plane p of an entry. -/
def patByte (e : List Word) (p : Nat) : Nat := (e.getD (2 + p / 4) 0).fld (8 * (p % 4) + 7) (8 * (p % 4))

/-- The state that an entry gives a plane of its mask. -/
def patState (e : List Word) (p : Nat) : PlaneState :=
  let b := patByte e p
  if 128 ≤ b then .packet else if b % 64 = 0 then .dark else .phase (b % 64)

/-- A bad entry: a reserved bit, or a byte outside the mask, is not zero. -/
def patBad (e : List Word) : Bool :=
  (List.range 64).any (fun p => patByte e p / 64 % 2 == 1 || (!patMask e p && patByte e p != 0))

/-- The state a plane holds or will hold when its port is up: of a plane in RETUNE or DOWN, the state it
enters then. -/
def Plane.inForce (p : Plane) : PlaneState :=
  match p.st with
  | .retune => p.next
  | .down => p.next
  | .miswired => p.next
  | x => x

/-- The states in force, overwritten by an entry (R298). -/
def State.overwritten (s : State) (e : List Word) : List PlaneState :=
  (List.range 64).map (fun p => if patMask e p then patState e p else (s.plane p).inForce)

/-- Whether another PHASE plane holds the reverse of a plane's colour (R298). -/
def hasReverse (l : List PlaneState) (p c : Nat) : Bool :=
  (List.range 64).any (fun q => q != p && (match l[q]? with
    | some (PlaneState.phase d) => (c + d) % 64 == 0
    | _ => false))

/-- PHASE planes whose colour has no reverse go DARK (R298): the resulting states, and how many. -/
def darkened (l : List PlaneState) : List PlaneState × Nat :=
  let r := (List.range 64).map (fun p =>
    match l[p]? with
    | some (PlaneState.phase c) => if hasReverse l p c then (PlaneState.phase c, 0) else (PlaneState.dark, 1)
    | some x => (x, 0)
    | none => (PlaneState.dark, 0))
  (r.map (·.1), (r.map (·.2)).sum)

/-- G_PHASE_NS, where 0 to 2,199 act as 2,200. -/
def State.gPhase (s : State) : Nat := max 2200 (s.fld R.OPT_PRISM_GUARD 31 16)

/-- A plane set to a new state in force: a plane in service enters RETUNE; one that is down or miswired
takes it when its port trains. Answers whether the plane re-tunes. -/
def State.setForce (s : State) (p : Nat) (x : PlaneState) : State :=
  let pl := s.plane p
  match pl.st with
  | .down => (s.setPlane p { pl with next := x }).beginTraining (1024 + p)
  | .miswired => s.setPlane p { pl with next := x }
  | _ => if pl.st = x then s else s.setPlane p { pl with st := .retune, next := x }

/-- The planes now in RETUNE. -/
def State.retuning (s : State) : List Nat := (List.range 64).filter (fun p => (s.plane p).st == .retune)

/-- The marks of one AT, applied together in rising order of pattern, so that the higher wins (R300). -/
def State.applyEntry (s : State) (pattern : Nat) : State :=
  let e := Tbl.get (fun _ => patZero) s.prism.patActive pattern
  let r := darkened (s.overwritten e)
  let s' := forEach (fun x (s : State) => s.setForce x.1 x.2) ((List.range 64).zip r.1) s
  (s'.setF R.OPT_PRISM_STAT 31 24 pattern).raise
    { code := 0x0602, sev := 1, kind := 0x0F, index := 0, arg0 := pattern, arg1 := r.2 }

/-- Removing duplicates and sorting small numbers by insertion. -/
def insertNat (x : Nat) : List Nat → List Nat
  | [] => [x]
  | y :: ys => if x ≤ y then x :: y :: ys else y :: insertNat x ys
def sortNat : List Nat → List Nat
  | [] => []
  | x :: xs => insertNat x (sortNat xs)

/-- The least of a list of numbers. -/
def leastOf : List Nat → Option Nat
  | [] => none
  | x :: xs => match leastOf xs with | none => some x | some y => some (min x y)

/-- Every mark of one AT applied at a TB0 instant: the planes that change re-tune until G_PHASE_NS after
it (R298, R300). -/
def State.applyMarks (s : State) (at_ start : Nat) : State :=
  let s := s.accountPlanes
  let ps := sortNat ((s.prism.marks.filter (fun m => m.1 == at_)).map (·.2))
  let old := if s.prism.lastAt = some at_ then s.prism.applied else []
  let before := s.retuning
  let s := forEach (fun p s => s.applyEntry p) ps s
  let now := s.retuning.filter (fun p => !before.contains p)
  let s := s.bump C.OPT_RETUNES now.length
  { s with prism := { s.prism with
      marks := s.prism.marks.filter (fun m => m.1 != at_), lastAt := some at_, applied := old ++ ps,
      changed := if now.isEmpty then s.prism.changed else s.retuning,
      retuneEnd := if s.retuning.isEmpty then none else some (start + s.gPhase) } }

/-- PATTERN_APPLY (R298, R300): TB0 reaches the earliest AT held; a mark whose AT has passed applies at
once, and one that falls into a re-tune waits for its end. -/
def execPatternApply (s : State) : Host.Outcome State Fault Refusal :=
  if !s.on 5 then ok s
  else
    match leastOf (s.prism.marks.map (·.1)) with
    | none => ok s
    | some at_ =>
      match s.prism.retuneEnd with
      | some e =>
        if at_ < e then ok s
        else let s := s.reach (s.atTb0 at_); ok (s.applyMarks at_ (max at_ s.tb0))
      | none => let s := s.reach (s.atTb0 at_); ok (s.applyMarks at_ (max at_ s.tb0))

/-- The plane of a bucket's detour under the states now: the first that reaches the peer from plane H[11:6] of the bucket's
latest packet, where the plane of the map no longer does (R89, R298). -/
def State.detourNow (s : State) (u b : Nat) (path : Path) : Path :=
  match path with
  | .plane p j =>
    if s.planeUsable p && s.reaches p j then path
    else match s.firstPlane (Tbl.get (fun _ => 0) s.dp.bucketHash (u * 64 + b)) j with
      | some q => .plane q j
      | none => path
  | _ => path

/-- Every bucket on a detour takes its plane under the states now. -/
def State.remapDetours (s : State) : State :=
  forEach (fun u (s : State) =>
    let bd := s.bundle u
    s.setBundle u { bd with map := ((List.range bd.map.length).zip bd.map).map (fun x => s.detourNow u x.1 x.2) })
    (Tbl.keys s.dp.bundles) s

/-- A sprayed packet placed on a plane that currently reaches its peer, by weight (R86, R294, R298). -/
def State.resprayTo (s : State) (it : Item) (j : Nat) : State :=
  match s.sprayPort it.tc (((List.range 64).filter (fun q => s.planeUsable q && s.reachesNow q j)).map (1024 + ·)) with
  | some port => (s.tick).takeIn it port
  | none => s.holdItem it

/-- A packet of a changed plane placed again (R298): sprayed, on a plane that reaches its peer; pinned, on
the plane of R89; with none, into the no-path hold. -/
def State.rehome (s : State) (it : Item) : State :=
  match it.body, it.peer with
  | .ffp p, some j =>
    if it.spray && it.leg.isNone then s.resprayTo it j
    else
      let plane := match it.bucket with
        | some (u, b) => (match (s.bundle u).map[b]? with
          | some (.plane q _) => if s.planeUsable q && s.reaches q j then some q else none
          | _ => none)
        | none => none
      match plane.orElse (fun _ => s.firstPlane (flowHash p.src p.dest / 64 % 64) j) with
      | some q => s.takeIn it (1024 + q)
      | none => s.holdItem it
  | _, _ => s.dropItem drNoPath 0 it

/-- Items in order of arrival. -/
def insertItem (x : Item) : List Item → List Item
  | [] => [x]
  | y :: ys => if x.id ≤ y.id then x :: y :: ys else y :: insertItem x ys
def byArrival : List Item → List Item
  | [] => []
  | x :: xs => insertItem x (byArrival xs)

/-- Packets received on BP ports that have not yet entered an egress queue (R299). -/
def State.bpInside (s : State) : List Nat :=
  let mine (it : Item) : Bool := decide (1024 ≤ it.port ∧ it.port < 1088)
  (s.dp.rx.flatMap (fun x => x.2.filter mine) ++ s.dp.hq.flatMap (fun x => x.2.filter mine)
    ++ s.dp.waiting.flatMap (fun x => (x.2.map (·.item)).filter mine)
    ++ (s.dp.mcIn.map (·.item)).filter mine).map (·.id)

/-- Every link of a port begins anew: the partner's grant taken as the own BUF.IN_RSV, the own what the port's reservation
leaves. (PRESUMED, log entry 106) -/
def State.freshLinks (s : State) (port : Nat) : State :=
  let g := s.grantAt port (s.port port).rsv
  forEach (fun k (s : State) => s.setLink k { Link.init with credits := (s.port port).rsv, granted := (s.port port).rsv, grant := g })
    (linkKeys port) s

/-- The queued and unacknowledged packets of a plane, taken out. -/
def State.takePlane (s : State) (p : Nat) : List Item × State :=
  let un := takeEach State.takeUnacked (linkKeys (1024 + p)) s
  let q := un.2.drainQueues (1024 + p) 8
  (un.1 ++ q.1.map (fun x => { x.2 with charge := .move }), q.2.toMoveCells q.1)

/-- A plane enters the state that its re-tune ends in: DOWN if its port has gone down meanwhile. -/
def State.endRetune (s : State) (p : Nat) : State :=
  let pl := s.plane p
  let s := s.setPlane p { pl with st := if (s.port (1024 + p)).st = .up ∨ (s.port (1024 + p)).st = .draining then pl.next else .down,
                                  unreachable := [], missed := [] }
  s.beginTraining (1024 + p)

/-- The planes of a re-tune in their new states: each is taken out of its old one, its links start afresh and its
peers are asked again; what its queues held is placed again. -/
def State.endRetunes (s : State) : State :=
  let ps := s.retuning
  let out := takeEach State.takePlane ps s
  let s := forEach (fun p (s : State) => (s.endRetune p).freshLinks (1024 + p)) ps out.2
  let s := { s with prism := { s.prism with retuneEnd := none, changed := ps, fenceFrom := s.dp.nextId,
                                            behind := s.bpInside } }
  let s := forEach (fun p (s : State) => if (s.plane p).st = .packet ∨ (s.plane p).st = .dark then s
    else s.sendLocal (1024 + p) (localPacket tyLC_DISCOVER
      [((0 : Word).setFld 31 22 s.spineId).setFld 21 16 s.prismPos])) ps s
  forEach (fun it s => s.rehome it) (byArrival out.1) s.remapDetours

/-- The marks that fell into a re-tune that ends at `e` apply. (DEDUCED, log entry 105) -/
def State.lateMarks (s : State) (e : Nat) : State :=
  match leastOf ((s.prism.marks.map (·.1)).filter (· < e)) with
  | none => s
  | some at_ => s.applyMarks at_ (max at_ s.tb0)

/-- PLANE_RETUNE_END (R298, R299): at AT + G_PHASE_NS the planes enter their new states, the fence is set,
queued packets are placed again, and marks that fell into the re-tune apply. -/
def execPlaneRetuneEnd (s : State) : Host.Outcome State Fault Refusal :=
  match s.prism.retuneEnd with
  | none => ok s
  | some e =>
    ok ((((s.reach (s.atTb0 e)).accountPlanes).endRetunes).lateMarks e)

/-! ## Slots (R292 to R294, R304, R322) -/

/-- The plane's loan in the slot that begins: the whole free pool of each VC goes to the peer of the
plane's next slot; the sender of the present slot keeps the loan it has, and what earlier borrowers have
not used has returned (R322). (DEDUCED, log entry 27) -/
def State.lend (s : State) (p : Nat) : State :=
  let port := 1024 + p
  let cur := s.linkKey port ((s.prismPos + 64 - s.slotColour p) % 64)
  let j := (s.prismPos + 64 - (s.slotColour p + 1) % 64) % 64
  let s := forEach (fun k (s : State) => s.setLink k { s.link k with grant := .zero })
    ((linkKeys port).filter (· != cur)) s
  if j = s.prismPos then s
  else
    let lent (v : Nat) : Nat := (s.link cur).grant.get v - (s.link cur).rxCells.get v
    let free (v : Nat) : Nat := (s.port port).rsv.get v - s.inCharged port v - lent v
    let k := s.linkKey port j
    s.setLink k { s.link k with grant := ⟨free 0, free 1, free 2, free 3⟩, rxCells := .zero, retCells := .zero }

/-- Sprayed packets that wait on a port whose slot does not reach their peer, taken from its queues. -/
def State.takeMissed (s : State) (p : Nat) : List Item × State :=
  s.takeQueued p (fun it => it.spray && it.leg.isNone &&
    (match it.peer with | some j => !s.reachesNow p j | none => false)) 8

/-- Sprayed packets that wait on planes in PACKET follow their peer: each takes, at send time, the plane that currently
reaches it (R294). (DEDUCED, log entry 172) -/
def State.followSlot (s : State) (ps : List Nat) : State :=
  let r := takeEach State.takeMissed ps s
  forEach (fun it (s : State) => match it.peer with | some j => s.resprayTo it j | none => s) (byArrival r.1) r.2

/-- The number of the last slot that began, or of the present one. -/
def State.nextSlot (s : State) : Nat :=
  match s.prism.slot with
  | none => slotNumber s.slotNs s.tb0
  | some n => max (n + 1) (slotNumber s.slotNs s.tb0)

/-- The TB0 instant of a slot's start. -/
def slotStart (slotNs n : Nat) : Nat :=
  let per := 1000000000 / slotNs
  n / per * 1000000000 + n % per * slotNs

/-- The colour of plane p in slot n (R292). -/
def colourIn (n p : Nat) : Nat := (n % 64 + p) % 64

/-- What slot n, which ends, tells of its pair: two in a row without an acknowledgement make the pair
unreachable (R304). -/
def State.endSlot (s : State) (n p : Nat) : State :=
  let j := s.reachedBy (colourIn n p)
  let pl := s.plane p
  if j == s.prismPos || !s.peerLive j || pl.unreachable.contains j then s
  else
    let c := (match pl.missed.find? (fun x => x.1 == j) with | some x => x.2 | none => 0) + 1
    let rest := pl.missed.filter (fun x => x.1 != j)
    if s.prism.acked.contains (p, j) then s.setPlane p { pl with missed := rest }
    else if c < 2 then s.setPlane p { pl with missed := rest ++ [(j, c)] }
    else (s.setPlane p { pl with missed := rest, unreachable := pl.unreachable ++ [j] }).pairHandover p j

/-- Unused credits of slot n, which ends, lapse (R322). -/
def State.lapse (s : State) (n p : Nat) : State :=
  let k := s.linkKey (1024 + p) (s.reachedBy (colourIn n p))
  s.setLink k { s.link k with credits := .zero }

/-- Whether a plane rotates colours. -/
def State.rotates (s : State) (p : Nat) : Bool := (s.plane p).st == .packet

/-! ## The pattern table and timing registers (R293, R310) -/

/-- PAT_WRITE_SHADOW: OPT.PAT_CMD OP 0b01 writes the shadow entry from OPT.PAT_DATA_w; status 2 while a
commit is pending, 3 for a bad entry (R310). -/
def execPatWriteShadow (pattern : Fin 256) (s : State) : Host.Outcome State Fault Refusal :=
  ok (s.gate R.OPT_PAT_CMD (fun s =>
    let e := s.rdWords (R.OPT_PAT_DATA 0) 18
    if s.tab.pending.isSome then s.status R.OPT_PAT_STAT 2
    else if patBad e then s.status R.OPT_PAT_STAT 3
    else ({ s with prism := { s.prism with patShadow := Tbl.put (fun _ => patZero) s.prism.patShadow pattern e } }
      : State).status R.OPT_PAT_STAT 0))

/-- A pattern entry copied into OPT.PAT_DATA_w. -/
def State.patRead (s : State) (t : Tbl (List Word)) (pattern : Nat) : State :=
  s.gate R.OPT_PAT_CMD (fun s =>
    (s.wrWords (R.OPT_PAT_DATA 0) (Tbl.get (fun _ => patZero) t pattern)).status R.OPT_PAT_STAT 0)

/-- PAT_READ_SHADOW: OP 0b10 (R310). -/
def execPatReadShadow (pattern : Fin 256) (s : State) : Host.Outcome State Fault Refusal :=
  ok (s.patRead s.prism.patShadow pattern)

/-- PAT_READ_ACTIVE: OP 0b11 (R310). -/
def execPatReadActive (pattern : Fin 256) (s : State) : Host.Outcome State Fault Refusal :=
  ok (s.patRead s.prism.patActive pattern)

/-- SLOT_NS of a SLOT_SEL value other than 0b11. -/
def slotNsOf (sel : Nat) : Nat := if sel = 0 then 128 else if sel = 1 then 256 else 512
/-- G_PKT of a guard word (R293). -/
def gPktOf (w : Word) : Nat := 8 + w.fld 15 8 + 2 * w.fld 7 0

/-- PRISM_GUARD_WRITE (R293, R310): a write of OPT.PRISM_CTRL (`ctrl`) or OPT.PRISM_GUARD is stored, or is
discarded and sets CFG_ERR when SLOT_SEL is 0b11 or G_PKT would exceed SLOT_NS / 4. -/
def execPrismGuardWrite (ctrl : Bool) (w : Word) (s : State) : Host.Outcome State Fault Refusal :=
  let off := if ctrl then R.OPT_PRISM_CTRL else R.OPT_PRISM_GUARD
  let sel := if ctrl then w.fld 23 22 else s.fld R.OPT_PRISM_CTRL 23 22
  let g := gPktOf (if ctrl then s.rd R.OPT_PRISM_GUARD else w)
  ok (s.gate off (fun s =>
    if sel = 3 ∨ slotNsOf sel < 4 * g then s.setF R.OPT_PRISM_STAT 23 23 1 else s.store off w))

end Sys2Proof.Machine
end

