-- ==== Sys2Proof/Machine/Home.lean ====
section
/-!
DEFINITION. Home agents (11_memory_semantic_fabric.md, R245 to R256): classification, order, checks,
atomics in the combining buffer, responses, windows and their commands.
-/
namespace Sys2Proof.Machine

/-! ## Slots (R253) -/

/-- Store staging that a request takes, in units of 256 B (R253). -/
def stagingUnits (p : Packet) : Nat := if p.length ≤ 64 then 0 else (p.length + 255) / 256

/-- A new request finds a slot and staging (R253). -/
def Home.roomFor (h : Home) (p : Packet) : Bool :=
  h.slots.length < 65536 && (h.slots.map (fun r => stagingUnits r.pkt)).sum + stagingUnits p ≤ 65536

/-! ## Trackers (R246) -/

def Home.isActive (h : Home) (k : Nat) : Bool := h.active.any (fun x => x.1 == k)

/-- TRK_LINGER_US in ns. -/
def State.lingerNs (s : State) (d : Nat) : Nat := s.fld (R.MEM_HA_CTRL d) 15 0 * 1000

/-- A source with no request left begins its linger, or frees its tracker at once (R246). -/
def State.idleSource (s : State) (d k : Nat) : State :=
  let h := s.home d
  if h.slots.any (fun r => r.src == k) then s
  else if s.lingerNs d = 0 then s.setHome d { h with active := Tbl.erase h.active k }
  else s.setHome d { h with active := Tbl.insert h.active k (some s.now) }

/-- A source takes a tracker, if one is free or it has one (R246). -/
def Home.take (h : Home) (k : Nat) : Option Home :=
  if h.isActive k ∨ h.active.length < 16384 then some { h with active := Tbl.insert h.active k none } else none

/-! ## Responses (R61, R251, R252) -/

/-- The response type of a request type. -/
def rspType (t : Nat) : Nat :=
  if t = tyLOAD ∨ t = tyLOAD_H then tyLOAD_RSP else if t = tySTORE ∨ t = tySTORE_H then tySTORE_RSP else tyATOMIC_RSP

/-- The words 5 to 7 of a response (R61). -/
def rspWords (tag result : Nat) (poison : Bool) (old : Nat) : List Word :=
  [(((0 : Word).setFld 31 16 tag).setFld 15 12 result).setFld 11 11 (bit01 poison),
   BitVec.ofNat 32 (old / 2 ^ 32), BitVec.ofNat 32 old]

/-- A response to a request, from a home agent of the module, with a SEQ (R61, R74). -/
def rspPacket (home src : Nat) (p : Packet) (seq result : Nat) (poison : Bool) (old : Nat) (data : List Byte) : Packet :=
  mkPacket { ty := rspType p.ty, tc := p.tc, vc := vcRSP, spray := p.spray, echo := p.mark, length := data.length,
             dest := p.src, dspace := p.sspace, src := src * 4 + home, sspace := 1, job := p.job, seq := seq }
    (rspWords p.reqTag result poison old) data

/-- All-ones data of a load's SIZE; nothing for other requests. -/
def onesFor (p : Packet) : List Byte := if p.isLoad then List.replicate p.reqSize 0xFF#8 else []

/-- The response sent: it takes the next SEQ of its series (R68). Answers the packet too. -/
def State.respond (s : State) (d : Nat) (p : Packet) (result : Nat) (poison : Bool) (old : Nat) (data : List Byte) :
    Packet × State :=
  let r := rspPacket d s.spineId p (s.nextSeq d p.sspace p.src) result poison old data
  (r, (s.takeSeq d p.sspace p.src).originate r)

/-- A request answered in its slot: the response goes out, its reply slot keeps it, the slot is free
(R246, R253). -/
def State.answer (s : State) (d : Nat) (r : HomeReq) (result : Nat) (poison : Bool) (old : Nat) (data : List Byte) :
    State :=
  let x := s.respond d r.pkt result poison old data
  let s := x.2.bump (C.MEM_HA_REQ_DONE d) 1
  let h := s.home d
  let h := { h with slots := h.slots.filter (fun y => !(y.src == r.src && y.seq == r.seq)) }
  ((s.setHome d (h.setSeq r.src r.seq (.answered ⟨x.1, r.pkt.isLoad⟩))).refreshHome d).idleSource d r.src

/-! ## Checks (R252, R255, R256) -/

/-- Check 1: within one 4 KiB block; an atomic aligned to its width (R60). -/
def spanOk (p : Packet) : Bool :=
  if p.isAtomic then p.offset % p.span == 0
  else p.span == 0 || p.offset / 4096 == (p.offset + p.span - 1) / 4096

/-- A window grants a request at a home (R255, R256). -/
def windowGrants (w : List Word) (d : Nat) (p : Packet) : Bool :=
  let w0 := w.getD 0 0
  w0.bit 31 && (w0.fld 27 24).testBit d && w0.fld 23 23 == p.sspace
    && (if p.isLoad then w0.bit 30 else if p.isStore then w0.bit 29 else w0.bit 28)
    && (p.src ^^^ w0.fld 17 0) &&& (w.getD 1 0).fld 17 0 == 0
    && decide ((w.getD 2 0).fld 29 0 ≤ p.offset / 65536) && decide (p.offset / 65536 ≤ (w.getD 3 0).fld 29 0)

/-- Check 2 (R256). -/
def State.windowsAllow (s : State) (d : Nat) (p : Packet) : Bool :=
  s.fld (R.MEM_HA_CTRL d) 31 31 == 0 || s.req.windows.any (fun w => windowGrants w.2 d p)

/-- The RESULT of the first failing check; 0 when all pass (R252). -/
def State.homeCheck (s : State) (d : Nat) (p : Packet) : Nat :=
  if !spanOk p then 4
  else if !s.windowsAllow d p then 2
  else match s.serve (memKey d p.offset) with
    | .unmapped => 3
    | .dead => 1
    | .place _ _ => 0

/-! ## Doorbell watches (R218) -/

/-- A ring's doorbell line: its key. -/
def PRing.home (r : PRing) : Nat := (r.entry.getD 1 0).fld 31 30
/-- A 46-bit offset of a ring entry's words i and i + 1. -/
def PRing.off (r : PRing) (i : Nat) : Nat := (r.entry.getD i 0).fld 13 0 * 2 ^ 32 + (r.entry.getD (i + 1) 0).toNat
def PRing.dbKey (r : PRing) : Nat := memKey r.home (r.off 4)

/-- Two ranges of bytes meet. -/
def meetsRange (a n b m : Nat) : Bool := n != 0 && m != 0 && a < b + m && b < a + n

/-- The pending bits of the enabled rings whose watched bytes a client's write touches (R218). -/
def State.watch (s : State) (key len : Nat) : State :=
  { s with pal := { s.pal with rings := s.pal.rings.map (fun kr =>
      let r := kr.2
      if r.st ≠ .disabled ∧ (meetsRange key len r.dbKey 8 ∨ meetsRange key len (r.dbKey + 16) 4)
      then (kr.1, { r with pending := true }) else kr) } }

/-! ## Atomics (R60, R251, R253) -/

/-- The new value of an atomic's operand: AOP 0 add, 1 and 2 signed, 3 and 4 unsigned minimum and
maximum, 5 compare-and-swap (R60). -/
def atomicNew (aop bits old operand swap : Nat) : Nat :=
  let lt (a b : Nat) : Bool := if aop ≤ 2 then signedOf bits a < signedOf bits b else a < b
  if aop = 0 then (old + operand) % 2 ^ bits
  else if aop = 1 ∨ aop = 3 then (if lt operand old then operand else old)
  else if aop = 2 ∨ aop = 4 then (if lt old operand then operand else old)
  else if old = operand then swap else old

/-! ## The combining buffer (R253) -/

/-- The lines that a request touches. -/
def reqLines (d : Nat) (p : Packet) : List Nat :=
  let k := memKey d p.offset
  if p.span = 0 then [] else (List.range ((k + p.span - 1) / 64 - k / 64 + 1)).map (k / 64 + ·)

def Home.buffered (h : Home) (l : Nat) : Bool := h.lines.any (fun x => x.line == l)
def Home.filled (h : Home) (l : Nat) : Bool := h.lines.any (fun x => x.line == l && x.data.isSome)

/-- Whether a ready request must wait: on a line not yet filled, or behind an earlier request that waits
on one of its buffered lines. `ahead` holds the lines of the earlier waiting requests. -/
def Home.mustWait (h : Home) (ahead : List Nat) (ls : List Nat) : Bool :=
  ls.any (fun l => ahead.contains l || (h.buffered l && !h.filled l))

/-- The first ready request that may be performed now: the domain of its memory is on, and no line keeps
it waiting (R251, R253, R272). -/
def State.firstReady (s : State) (d : Nat) : List HomeReq → List Nat → Option HomeReq
  | [], _ => none
  | r :: rs, ahead =>
    let h := s.home d
    let ls := reqLines d r.pkt
    let wait := h.mustWait ahead ls || (match s.serve (memKey d r.pkt.offset) with
      | .place c u => !s.placeOn c u
      | _ => false)
    if !r.ready then none
    else if wait then s.firstReady d rs (ahead ++ ls)
    else some r

/-- Lines written back to memory: their bytes are stored, poison stays with a line read poisoned (R253). -/
def State.writeBack (s : State) (d : Nat) (ls : List Nat) : State :=
  let h := s.home d
  let out := h.lines.filter (fun x => ls.contains x.line && x.data.isSome)
  let s := s.setHome d { h with lines := h.lines.filter (fun x => !ls.contains x.line) }
  forEach (fun (x : CLine) (s : State) =>
    match x.data with
    | none => s
    | some bs =>
      let m := s.mem.putBytes (x.line * 64) bs
      let s := { s with mem := if x.poisoned then m else m.heal (x.line * 64) 64 }
      s.cxlBytesCount (s.serve (x.line * 64)) true 64 false) out s

/-- Lines with a request queued to them. -/
def Home.queuedLines (d : Nat) (h : Home) : List Nat := (h.slots.filter (·.ready)).flatMap (fun r => reqLines d r.pkt)

/-- The line longest without a request among those with none queued. -/
def oldestLine : List CLine → Option CLine
  | [] => none
  | x :: xs =>
    match oldestLine xs with
    | none => some x
    | some y => if x.last ≤ y.last then some x else some y

/-- Room for a line in the buffer: a free entry, or that of the line longest idle, written back; `none`
while every entry has requests queued (R253). -/
def State.lineRoom (s : State) (d : Nat) : Option State :=
  let h := s.home d
  if h.lines.length < 1024 then some s
  else
    match oldestLine (h.lines.filter (fun x => x.data.isSome && !(h.queuedLines d).contains x.line)) with
    | none => none
    | some x => some (s.writeBack d [x.line])

/-- A request touches a line: its last request is now. -/
def State.touchLine (s : State) (d l : Nat) : State :=
  let h := s.home d
  s.setHome d { h with lines := h.lines.map (fun x => if x.line = l then { x with last := s.now } else x) }

/-- A write within one buffered line changes the line alone (R253). -/
def State.writeLine (s : State) (d key : Nat) (bs : List Byte) : State :=
  let h := s.home d
  let f (x : CLine) : CLine := if x.line = key / 64 ∧ bs.length = 64 then { x with poisoned := false } else x
  s.setHome d { h with lines := (putLines h.lines key bs).map f }

/-! ## Performing (R251, R252, R253) -/

/-- An atomic in its buffered line: OLD read, the new value written, the response with OLD. (DEDUCED, log entry 90) -/
def State.performAtomic (s : State) (d : Nat) (r : HomeReq) : State :=
  let p := r.pkt
  let k := memKey d p.offset
  let n := p.span
  let old := natOfBytesLE (s.readBytes k n)
  let poison := s.readsPoison k n
  let s := s.touchLine d (k / 64)
  let s := s.writeLine d k (bytesLEOfNat n (atomicNew p.aop (8 * n) old p.operand p.swap))
  let s := if p.aop = 5 then s else s.bump (C.MEM_HA_COMBINED d) 1
  (s.answer d r 0 poison old []).watch k n

/-- A load performed: the bytes as they stand (R251). -/
def State.loadData (s : State) (d : Nat) (p : Packet) : List Byte × Bool :=
  let k := memKey d p.offset
  (s.readBytes k p.reqSize, s.readsPoison k p.reqSize)

/-- Counts of an access: heat of its page, bytes of a CXL port (R276, R286). -/
def State.countAccess (s : State) (d : Nat) (p : Packet) (poison : Bool) : State :=
  let k := memKey d p.offset
  let s := match rangeOf k with
    | .handle h => s.heatPage h 1 none p.isLoad
    | _ => s
  s.cxlBytesCount (s.serve k) (!p.isLoad) p.span poison

/-- A load or store performed: in one buffered line, or against memory with every touched line written
back (R253). -/
def State.performPlain (s : State) (d : Nat) (r : HomeReq) : State :=
  let p := r.pkt
  let k := memKey d p.offset
  let ls := reqLines d p
  let s := if ls.length ≤ 1 then s else s.writeBack d ls
  let s := forEach (fun l (s : State) => s.touchLine d l) ls s
  if p.isLoad then
    let x := s.loadData d p
    (s.countAccess d p x.2).answer d r 0 x.2 0 x.1
  else
    let bs := p.payload.take p.length
    let s := if ls.length = 1 ∧ (s.home d).buffered (k / 64) then s.writeLine d k bs else s.writeBytes k bs
    ((s.countAccess d p false).answer d r 0 false 0 []).watch k bs.length

/-- One ready request checked and performed; an atomic to a line that is not buffered takes an entry and
reads the line, and its request waits for it (R252, R253). -/
def State.perform (s : State) (d : Nat) (r : HomeReq) : State :=
  let p := r.pkt
  let res := s.homeCheck d p
  if res ≠ 0 then
    let s := if res = 2 then s.bump (C.MEM_HA_WIN_REFUSED d) 1 else s
    s.answer d r res p.isLoad 0 (onesFor p)
  else if p.isAtomic then
    let k := memKey d p.offset
    if (s.home d).filled (k / 64) then (s.countAccess d p false).performAtomic d r
    else
      match s.lineRoom d with
      | none => s
      | some s =>
        let h := s.home d
        let h : Home := { h with lines := h.lines ++ [⟨k / 64, none, false, s.now⟩] }
        s.setHome d (h.setSeq r.src r.seq .progress)
  else s.performPlain d r

/-! ## Commands -/

/-- The memory that a duplicate load reads is in a domain that drains, is in retention or waits for its link (R245, R272). -/
def State.loadWaits (s : State) (d : Nat) (p : Packet) : Bool :=
  match s.serve (memKey d p.offset) with
  | .place c u => !s.placeOn c u
  | _ => false

/-- A duplicate answered again from its reply slot; a load is performed again, with its checks (R247, R252).
(DEDUCED, log entry 91) -/
def State.replyAgain (s : State) (d : Nat) (r : Reply) (p : Packet) : State :=
  let rsp :=
    if r.load then
      let res := s.homeCheck d p
      let x := if res = 0 then s.loadData d p else (onesFor p, true)
      { r.rsp with payload := x.1, hdr := ((r.rsp.setFld 5 15 12 res).setFld 5 11 11 (bit01 x.2)).hdr }
    else r.rsp
  s.originate (rsp.setFld 0 10 9 (max rsp.echo p.mark)).sealed.withTrailer

/-- A request in a slot carries the highest MARK of its packets, for the one response that answers them (R74, R247). -/
def Home.markAgain (h : Home) (k : Nat) (p : Packet) : Home :=
  { h with slots := h.slots.map (fun r =>
      if r.src = k ∧ r.seq = p.seq then { r with pkt := r.pkt.raiseMark p.mark } else r) }

/-- What a home agent makes of a request of a known source, by its class (R247): the request's home, its item, the rest of
the input, key, tracker, and the home with a tracker taken. -/
def State.takeClass (s : State) (d : Nat) (it : Item) (rest : List Item) (k : Nat) (t : Tracker) (h' : Home) :
    SeqClass → State
  | .outside => (((s.unitTake d it rest).setHome d h').bump (C.MEM_HA_DISCARD d) 1).idleSource d k
  | .duplicate =>
    let again (h : Home) : State := ((s.unitTake d it rest).setHome d h).bump (C.MEM_HA_DUP d) 1
    match t.find it.pkt.seq with
    | some (.answered r) =>
      if r.load && s.loadWaits d it.pkt then s else ((again h').replyAgain d r it.pkt).idleSource d k
    | _ => (again (h'.markAgain k it.pkt)).idleSource d k
  | .new =>
    if !(s.home d).roomFor it.pkt then s
    else
      let h' := h'.setSeries k (t.receive it.pkt.seq .waiting)
      ((s.unitTake d it rest).setHome d
        { h' with slots := h'.slots ++ [⟨k, it.pkt.seq, it.pkt, s.now, false⟩] }).refreshHome d

/-- A request of a source in first contact begins its series (R250). -/
def State.takeFirst (s : State) (d : Nat) (it : Item) (rest : List Item) (k : Nat) (h' : Home) : State :=
  if !(s.home d).roomFor it.pkt then s
  else
    let h' := h'.setSeries k (Tracker.begin_ it.pkt.seq .waiting)
    ((s.unitTake d it rest).setHome d
      { h' with slots := h'.slots ++ [⟨k, it.pkt.seq, it.pkt, s.now, false⟩] }).refreshHome d

/-- The request at the head of a living home agent's input. -/
def State.takeRequest (s : State) (d : Nat) (it : Item) (rest : List Item) : State :=
  let k := srcKey it.pkt.sspace it.pkt.src
  match (s.home d).take k with
  | none => s
  | some h' =>
    match (s.home d).seriesOf k with
    | none => s.takeFirst d it rest k h'
    | some t => s.takeClass d it rest k t h' (t.classify it.pkt.seq)

/-- HOME_REQUEST_RECEIVE (R245, R246, R247): the request at the head of a home agent's input is
classified. A new one takes a tracker and a slot, and waits at the head while none is free. -/
def execHomeRequestReceive (d : Fin 4) (s : State) : Host.Outcome State Fault Refusal :=
  match s.unitQueue d with
  | [] => ok s
  | it :: rest =>
    if s.homeDead d then
      ok ((s.setUnitIn d rest).respond d it.pkt 1 it.pkt.isLoad 0 (onesFor it.pkt)).2
    else if !s.dieWorks d then ok s
    else ok (s.takeRequest d it rest)

/-- TRACKER_ALLOCATE (R246): the source of the request that waits at the head of a home's input takes a
tracker that has become free, and its entry is loaded from the series table. -/
def execTrackerAllocate (d : Fin 4) (s : State) : Host.Outcome State Fault Refusal :=
  match s.unitQueue d with
  | [] => ok s
  | it :: _ =>
    match (s.home d).take (srcKey it.pkt.sspace it.pkt.src) with
    | none => ok s
    | some h => ok (s.setHome d h)

/-- TRACKER_LINGER_EXPIRY (R246): an idle source's linger ends; its entry is written back to the series
table and the tracker is freed. -/
def execTrackerLingerExpiry (d : Fin 4) (space : Bool) (src : Fin 262144) (s : State) :
    Host.Outcome State Fault Refusal :=
  let h := s.home d
  let k := srcKey (bit01 space) src
  match Tbl.get (fun _ => none) h.active k with
  | none => ok s
  | some t =>
    let s := s.reach (t + s.lingerNs d)
    ok (s.setHome d { h with active := Tbl.erase h.active k })

/-- HOME_REQUEST_PERFORM (R252): the first ready request that nothing keeps waiting is checked,
performed and answered. -/
def execHomeRequestPerform (d : Fin 4) (s : State) : Host.Outcome State Fault Refusal :=
  if !s.dieWorks d then ok s
  else
    match s.firstReady d (s.home d).slots [] with
    | none => ok s
    | some r => ok (s.perform d r)

/-- Ready requests that touch a line, performed in order until one must wait; fuel bounds their number. -/
def drainLine (d l : Nat) : Nat → State → State
  | 0, s => s
  | n + 1, s =>
    let h := s.home d
    match h.slots.find? (fun r => r.ready && (reqLines d r.pkt).contains l) with
    | none => s
    | some r =>
      if h.filled l ∧ !h.mustWait [] (reqLines d r.pkt) then drainLine d l n (s.perform d r) else s

/-- LINE_FILL (R253): the oldest line that a home agent reads for its combining buffer arrives from
memory, and the requests queued to it are performed. -/
def execLineFill (d : Fin 4) (s : State) : Host.Outcome State Fault Refusal :=
  let h := s.home d
  match h.lines.find? (fun x => x.data.isNone) with
  | none => ok s
  | some x =>
    let k := x.line * 64
    let bs := (List.range 64).map (fun i => s.memByte (k + i))
    let poison := s.anyPoison k 64
    let s := s.cxlBytesCount (s.serve k) false 64 poison
    let ls := h.lines.map (fun y => if y.line = x.line then { y with data := some bs, poisoned := poison } else y)
    let s := s.setHome d { s.home d with lines := ls }
    ok (drainLine d x.line h.slots.length s)

/-- COMBINING_LINE_EXPIRY (R253): the buffered line longest without a request, with none queued, has had
none for 1 µs; it is written back and leaves the buffer. -/
def execCombiningLineExpiry (d : Fin 4) (s : State) : Host.Outcome State Fault Refusal :=
  let h := s.home d
  match oldestLine (h.lines.filter (fun x => x.data.isSome && !(h.queuedLines d).contains x.line)) with
  | none => ok s
  | some x => ok ((s.reach (x.last + 1000)).writeBack d [x.line])

/-- TRACKER_FORGET (R263): MEM.HA_TRK_CMD_d with OP 0b01 returns a source to first contact, or is refused
with status 1 while it has requests waiting or in progress. -/
def execTrackerForget (d : Fin 4) (space : Bool) (src : Fin 262144) (s : State) : Host.Outcome State Fault Refusal :=
  ok (s.gate (R.MEM_HA_TRK_CMD d) (fun s =>
    let h := s.home d
    let k := srcKey (bit01 space) src
    if h.slots.any (fun r => r.src == k) then s.status (R.MEM_HA_TRK_STAT d) 1
    else
      (s.setHome d { h with series := Tbl.erase h.series k, active := Tbl.erase h.active k }).status
        (R.MEM_HA_TRK_STAT d) 0))

/-- The words that an unlisted window reads as. -/
def windowZero : List Word := [0, 0, 0, 0]

/-- No reserved bit of a window is set (R255, R263). -/
def windowOk (w : List Word) : Bool :=
  (w.getD 0 0).fld 22 18 == 0 && (w.getD 1 0).fld 31 18 == 0 && (w.getD 2 0).fld 31 30 == 0 && (w.getD 3 0).fld 31 30 == 0

/-- WINDOW_WRITE (R255, R263): MEM.WIN_CMD with OP 0b01 writes a window from MEM.WIN_DATA_w, or is
refused with status 3 when a reserved bit is set. -/
def execWindowWrite (index : Fin 4096) (s : State) : Host.Outcome State Fault Refusal :=
  ok (s.gate R.MEM_WIN_CMD (fun s =>
    let w := s.rdWords (R.MEM_WIN_DATA 0) 4
    if windowOk w then
      ({ s with req := { s.req with windows := Tbl.put (fun _ => windowZero) s.req.windows index w } } : State).status
        R.MEM_WIN_STAT 0
    else s.status R.MEM_WIN_STAT 3))

/-- WINDOW_READ (R263): OP 0b10 reads a window into MEM.WIN_DATA_w. -/
def execWindowRead (index : Fin 4096) (s : State) : Host.Outcome State Fault Refusal :=
  ok (s.gate R.MEM_WIN_CMD (fun s =>
    (s.wrWords (R.MEM_WIN_DATA 0) (Tbl.get (fun _ => windowZero) s.req.windows index)).status R.MEM_WIN_STAT 0))

end Sys2Proof.Machine
end

