-- ==== Sys2Proof/Machine/Requests.lean ====
section
/-!
DEFINITION. The module's requesters (R254, R258 to R261, R263) and the pieces of host descriptors that
they serve (R368): sending, retry, timers, the held table, responses.
-/
namespace Sys2Proof.Machine

/-! ## Sending (R98, R258, R368) -/

/-- A tag not in use by an origin, from a number on; the hub's tags have bit 15 set (R258). -/
def freeTag (out : List OutReq) (origin : Nat) : Nat → Nat → Nat
  | 0, t => t
  | n + 1, t =>
    let tag := t % 32768 + (if origin = 0 then 32768 else 0)
    if out.any (fun r => r.origin == origin && r.tag == tag) then freeTag out origin n (t + 1) else tag

/-- The HOME of an origin's SRC: 0 for the hub, the die's for a scheduler. -/
def originHome (origin : Nat) : Nat := if origin = 0 then 0 else origin - 4

/-- What a request carries. -/
structure ReqSpec where
  ty : Nat
  tc : Nat
  spray : Nat
  job : Nat
  /-- 0 endpoint space, 1 spine space -/
  space : Nat
  addr : Nat
  size : Nat
  aop : Nat
  awide : Nat
  operand : Nat
  payload : List Byte
deriving DecidableEq, Repr

/-- The words 5 to 10 of a request (R60). -/
def reqWords (q : ReqSpec) (tag : Nat) : List Word :=
  [BitVec.ofNat 32 (q.addr / 2 ^ 32), BitVec.ofNat 32 q.addr,
   ((0 : Word).setFld 31 16 tag).setFld 15 3 q.size,
   ((0 : Word).setFld 31 28 q.aop).setFld 27 27 q.awide,
   BitVec.ofNat 32 (q.operand / 2 ^ 32), BitVec.ofNat 32 q.operand]

/-- A request issued: it takes a tag and the next SEQ of its series, its timer starts, and it goes into
PL17 (R68, R254, R258). A NOTIFY's DSPACE is its SPACE (R224). -/
def State.issue (s : State) (origin : Nat) (use : ReqUse) (q : ReqSpec) : State :=
  let key := if origin = 0 then 0 else origin - 3
  let next := Tbl.get (fun _ => 0) s.req.tags key
  let tag := freeTag s.req.out origin 32768 next
  let home := originHome origin
  let dest := q.addr / 2 ^ 46
  let p := mkPacket { ty := q.ty, tc := q.tc, vc := vcREQ, spray := q.spray, length := q.payload.length,
                      dest := dest, dspace := if origin = 0 then 0 else q.space, src := s.homeId home, sspace := 1, job := q.job,
                      seq := s.nextSeq home q.space dest } (reqWords q tag) q.payload
  let r : OutReq := ⟨origin, tag, p, use, s.now, s.now, false, none⟩
  let s := { s with req := { s.req with out := s.req.out ++ [r],
                                        tags := Tbl.put (fun _ => 0) s.req.tags key ((tag + 1) % 32768) } }
  (s.takeSeq home q.space dest).originate p

/-- The spine-space form of a request type, or its endpoint-space form (R56). -/
def typeFor (base space : Nat) : Nat := if space = 1 then base + 4 else base

/-- Whether an ENDPOINT names a home agent: of this module or of a peer it knows (R18, R80).
(DEDUCED, log entry 39) -/
def State.spineEndpoint (s : State) (e : Nat) : Bool := s.isOwn e || (s.peerOf e).isSome

/-! ## Pieces of host descriptors (R368, R371) -/

/-- The descriptor with a piece changed. -/
def Desc.setPiece (d : Desc) (n : Nat) (f : Piece → Piece) : Desc :=
  { d with pieces := (List.range d.pieces.length).filterMap (fun i => d.pieces[i]?.map (fun p => if i = n then f p else p)) }

/-- A ring with a descriptor changed. -/
def HostRing.updDesc (g : HostRing) (idx : Nat) (f : Desc → Desc) : HostRing :=
  { g with descs := g.descs.map (fun d => if d.idx = idx then f d else d) }

/-- The first piece that failed: its address and status (R368). -/
def firstFailed : List Piece → Option (Nat × Nat)
  | [] => none
  | p :: ps =>
    match p.result with
    | some 0 => firstFailed ps
    | some st => some (p.faddr, st)
    | none => firstFailed ps

/-- Bytes of the leading run of successful pieces (R371). -/
def leadingBytes : List Piece → Nat
  | [] => 0
  | p :: ps => if p.result = some 0 then p.len + leadingBytes ps else 0

/-- The request of a piece (R368): the space is that of FADDR's ENDPOINT. -/
def State.pieceSpec (s : State) (d : Desc) (p : Piece) : ReqSpec :=
  let space := bit01 (s.spineEndpoint (p.faddr / 2 ^ 46))
  let base := if d.opcode = 0x10 then tyLOAD else if d.opcode = 0x11 then tySTORE else tyATOMIC
  let atomic := d.opcode == 0x12
  { ty := typeFor base space, tc := d.tc, spray := d.spray, job := 0, space := space, addr := p.faddr,
    size := if d.opcode = 0x10 then p.len else 0, aop := if atomic then d.aop else 0,
    awide := if atomic then d.awide else 0, operand := if atomic then d.operand else 0,
    payload := if atomic then (if d.aop = 5 then bytesLEOfNat 8 d.swap else []) else p.data.getD [] }

/-- A piece may be sent: a write has its data. -/
def Piece.ready (d : Desc) (p : Piece) : Bool :=
  !p.sent && p.result.isNone && (d.opcode != 0x11 || p.data.isSome)

/-- One piece sent, while the hub has a tag left and may issue to the destination (R98, R258: 32,768 tags). -/
def State.sendPiece (s : State) (ring idx n : Nat) : State :=
  match (s.ring ring).descs.find? (fun d => d.idx == idx && d.st == .started) with
  | none => s
  | some d =>
    match d.pieces[n]? with
    | none => s
    | some p =>
      let q := s.pieceSpec d p
      if p.ready d ∧ (s.req.out.filter (fun r => r.origin == 0)).length < 32768 ∧ s.mayIssue 0 q.space (q.addr / 2 ^ 46) then
        let g := s.ring ring
        let s := s.setRing ring (g.updDesc idx (fun d => d.setPiece n (fun p => { p with sent := true })))
        s.issue 0 (.piece ring idx n) q
      else s

/-- Every piece of a ring's started descriptors that may be sent is sent, in order. -/
def State.sendMore (s : State) (ring : Nat) : State :=
  let l := (s.ring ring).descs.flatMap (fun d =>
    if d.st = .started then
      ((List.range d.pieces.length).zip d.pieces).filterMap (fun x => if x.2.ready d then some (d.idx, x.1) else none)
    else [])
  forEach (fun (x : Nat × Nat) (s : State) => s.sendPiece ring x.1 x.2) l s

/-- A descriptor whose every piece has ended completes: its status that of the failed piece with the
lowest address, its data OLD or that piece's FADDR (R368, R371). -/
def State.settleDesc (s : State) (ring idx old : Nat) : State :=
  match (s.ring ring).descs.find? (fun d => d.idx == idx && d.st == .started) with
  | none => s
  | some d =>
    if d.pieces.any (fun p => p.result.isNone) then s
    else
      match firstFailed d.pieces with
      | none => s.endDesc ring d stOK (leadingBytes d.pieces) 0 0 (if d.opcode = 0x12 then old else 0)
      | some (a, st) => s.endDesc ring d st (leadingBytes d.pieces) 0 0 a

/-- A piece ends with a status; a load's data goes to host memory when its RESULT is 0 (R368).
(DEDUCED, log entry 94) -/
def State.pieceEnds (s : State) (ring idx n status old : Nat) (data : List Byte) : State :=
  match (s.ring ring).descs.find? (fun d => d.idx == idx && d.st == .started) with
  | none => s
  | some d =>
    match d.pieces[n]? with
    | none => s
    | some p =>
      let s := if d.opcode = 0x10 ∧ (status = stOK ∨ status = stPOISONED) then
          s.hostWrites [.data (d.haddr + (p.faddr - d.faddr)) data] else s
      let g := s.ring ring
      let s := s.setRing ring (g.updDesc idx (fun d => d.setPiece n (fun p => { p with result := some status })))
      (s.settleDesc ring idx old).sendMore ring

/-! ## Completion (R258 to R260) -/

/-- The request leaves the outstanding list. -/
def State.dropReq (s : State) (r : OutReq) : State :=
  { s with req := { s.req with out := s.req.out.filter (fun x => !(x.origin == r.origin && x.tag == r.tag)) } }

/-- A Palette die's account changed. -/
def State.updDie (s : State) (d : Nat) (f : PalDie → PalDie) : State :=
  { s with pal := { s.pal with dies := Tbl.upd (fun _ => PalDie.init) s.pal.dies d f } }

/-- A request completes with a RESULT and POISON, for the hub's descriptor or the scheduler's list. -/
def State.completeReq (s : State) (r : OutReq) (result : Nat) (poison : Bool) (old : Nat) (data : List Byte) : State :=
  let s := s.dropReq r
  match r.use with
  | .piece ring idx n => s.pieceEnds ring idx n (statusOfResult result poison) old data
  | .notify ring cmd =>
    let d := r.origin - 4
    s.updDie d (fun x => { x with responses := x.responses ++ [(ring, cmd, statusOfResult result false)] })

/-- The space of a request's DEST. -/
def OutReq.space (r : OutReq) : Nat := bit01 (destSpine r.pkt)

/-- ARG0 of EV_MEM_FAULT: the space and DEST. -/
def OutReq.destArg (r : OutReq) : Nat := r.space * 2 ^ 18 + r.pkt.dest

/-- POISON_COMPLETE (R259): RESULT 0x1, all-ones data for a load, EV_MEM_FAULT, counted. -/
def State.poisonReq (s : State) (r : OutReq) : State :=
  let s := s.raise { code := 0x0501, sev := 2, kind := 0x0C, index := r.origin, arg0 := r.destArg,
                     arg1 := r.pkt.fld 5 31 0, arg2 := r.pkt.fld 6 31 0 }
  (s.bump C.MEM_REQ_POISONED 1).completeReq r 1 r.pkt.isLoad 0 (onesFor r.pkt)

/-- The lowest free entry of the held table. -/
def State.freeHeld (s : State) : Option Nat :=
  (List.range 4096).find? (fun i => !(s.req.out.any (fun r => match r.held with | some (j, _) => j == i | none => false)))

/-- The state with an outstanding request replaced. -/
def State.setReq (s : State) (r : OutReq) : State :=
  { s with req := { s.req with out := s.req.out.map (fun x => if x.origin = r.origin ∧ x.tag = r.tag then r else x) } }

/-- HELD_ENTRY (R260): a request enters the held table with EV_HELD_LOAD; when the table is full it
completes as poisoned. -/
def State.holdReq (s : State) (r : OutReq) : State :=
  match (if (s.req.out.filter (fun x => x.held.isSome)).length < 4096 then s.freeHeld else none) with
  | none => (s.bump C.MEM_REQ_HELD_OVERFLOW 1).poisonReq r
  | some i =>
    let s := (s.setReq { r with held := some (i, s.now) }).bump C.MEM_REQ_HELD 1
    s.raise { code := 0x0502, sev := 1, kind := 0x0C, index := r.origin, arg0 := i, arg1 := r.destArg }

/-! ## Commands -/

/-- An outstanding request of an origin (0 the hub, 1 + d the scheduler of die d) by its tag. -/
def State.findReq (s : State) (origin tag : Nat) : Option OutReq :=
  s.req.out.find? (fun r => r.origin == (if origin = 0 then 0 else origin + 3) && r.tag == tag)

/-- RETRY_US in ns, 0 to 19 acting as 20 (R254, R263). -/
def State.retryNs (s : State) : Nat := max 20 (s.fld R.MEM_REQ_RETRY 15 0) * 1000

/-- TIMEOUT_US in ns, 0 for none; 1 to 9 act as 10, values above 100,000 as 100,000 (R263). -/
def State.timeoutNs (s : State) : Nat :=
  let t := s.fld R.MEM_REQ_TIMER 16 0
  if t = 0 then 0 else min 100000 (max 10 t) * 1000

/-- The request crosses Prism (R259). -/
def State.crossesPrism (s : State) (r : OutReq) : Bool := (r.space == 1 && !s.isOwn r.pkt.dest) || r.viaBp

/-- REQUEST_RETRY (R254): a request unanswered for RETRY_US is resent with its original SEQ. -/
def execRequestRetry (origin : Fin 5) (tag : Fin 65536) (s : State) : Host.Outcome State Fault Refusal :=
  match s.findReq origin tag with
  | none => ok s
  | some r =>
    let s := s.reach (r.lastSent + s.retryNs)
    ok ((s.setReq { r with lastSent := s.now }).originate r.pkt)

/-- REQUEST_TIMER_EXPIRY (R259): a request's timer expires, and it is poisoned or held; with TIMEOUT_US 0
it enters the held table at 100 ms. -/
def execRequestTimerExpiry (origin : Fin 5) (tag : Fin 65536) (s : State) : Host.Outcome State Fault Refusal :=
  match s.findReq origin tag with
  | none => ok s
  | some r =>
    if r.held.isSome then ok s
    else
      let t := s.timeoutNs
      let s := s.reach (r.started + (if t = 0 then 100000000 else t))
      if t = 0 then ok (s.holdReq r)
      else if s.fld R.MEM_REQ_TIMER 31 31 = 1 ∧ (4096 < s.fld R.MEM_REQ_DOMAIN 18 0 ∨ s.crossesPrism r) then ok (s.holdReq r)
      else ok (s.poisonReq r)

/-- The origin to which PL17 delivers a response (R258). -/
def rspOrigin (p : Packet) : Nat := if p.dest % 4 = 0 ∧ 32768 ≤ p.fld 5 31 16 then 0 else 4 + p.dest % 4

/-- RESPONSE_RECEIVE (R258, R260): the response or ACK at the head of the hub's input completes the
request that it answers, or is discarded as late. -/
def execResponseReceive (s : State) : Host.Outcome State Fault Refusal :=
  match s.hubIn with
  | [] => ok s
  | it :: l =>
    let p := it.pkt
    let s := s.unitTake 5 it l
    if p.ty = tyACK then ok (s.receiveAck p)
    else
      let s := s.echo p
      match s.req.out.find? (fun r => r.origin == rspOrigin p && r.tag == p.fld 5 31 16 && tyResponse p.ty
          && rspType r.pkt.ty == p.ty && r.pkt.dest == p.src && r.space == p.sspace) with
      | none =>
        -- an answer to a request that a TX_PACKET sent, or a late one
        match s.req.data.find? (fun x => x.tag == some (p.fld 5 31 16) && x.dest == p.src && x.space == p.sspace) with
        | some x => ok { s with req := { s.req with data := s.req.data.filter (fun y => decide (y ≠ x)) } }
        | none => ok (s.bump C.TEL_HUB_LATE_RSP 1)
      | some r =>
        let s := if r.held.isSome then s.bump C.MEM_REQ_HELD_RESOLVED 1 else s
        ok (s.completeReq r (p.fld 5 15 12) (p.fld 5 11 11 == 1) (p.fld 6 31 0 * 2 ^ 32 + p.fld 7 31 0) p.payload)

/-- A held request released: RESULT 0x5, all-ones data and POISON for a load (R260). -/
def State.releaseReq (s : State) (r : OutReq) : State :=
  (s.bump C.MEM_REQ_HELD_RELEASED 1).completeReq r 5 r.pkt.isLoad 0 (onesFor r.pkt)

/-- The held request of an entry. -/
def State.heldAt (s : State) (i : Nat) : Option OutReq :=
  s.req.out.find? (fun r => match r.held with | some (j, _) => j == i | none => false)

/-- HELD_RELEASE (R260, R261): MEM.HELD_CMD with OP 0b01 releases one held request; an empty entry
answers status 4. -/
def execHeldRelease (index : Fin 4096) (s : State) : Host.Outcome State Fault Refusal :=
  ok (s.gate R.MEM_HELD_CMD (fun s =>
    match s.heldAt index with
    | none => s.status R.MEM_HELD_STAT 4
    | some r => (s.releaseReq r).status R.MEM_HELD_STAT 0))

/-- HELD_RELEASE_DEST (R260): OP 0b10 releases every held request whose DEST and space equal those in
MEM.HELD_DATA_0. -/
def execHeldReleaseDest (s : State) : Host.Outcome State Fault Refusal :=
  ok (s.gate R.MEM_HELD_CMD (fun s =>
    let w := s.rd (R.MEM_HELD_DATA 0)
    let l := s.req.out.filter (fun r => r.held.isSome && r.pkt.dest == w.fld 17 0 && r.space == w.fld 19 19)
    (forEach (fun r s => s.releaseReq r) l s).status R.MEM_HELD_STAT 0))

/-- The words that HELD_READ gives for an entry (R263). -/
def heldWords (r : OutReq) (since now : Nat) : List Word :=
  [(((((0 : Word).setFld 31 31 1).setFld 30 28 r.origin).setFld 27 20 r.pkt.ty).setFld 19 19 r.space).setFld 17 0 r.pkt.dest,
   r.pkt.w 5, r.pkt.w 6,
   ((0 : Word).setFld 31 16 r.tag).setFld 15 0 (min 65535 ((now - since) / 1000000))]

/-- HELD_READ (R263): OP 0b11 reads a held entry into MEM.HELD_DATA_w; an empty entry answers status 4.
(DEDUCED, log entry 95) -/
def execHeldRead (index : Fin 4096) (s : State) : Host.Outcome State Fault Refusal :=
  ok (s.gate R.MEM_HELD_CMD (fun s =>
    match s.heldAt index with
    | some r =>
      match r.held with
      | some (_, t) => (s.wrWords (R.MEM_HELD_DATA 0) (heldWords r t s.now)).status R.MEM_HELD_STAT 0
      | none => s.status R.MEM_HELD_STAT 4
    | none => s.status R.MEM_HELD_STAT 4))

end Sys2Proof.Machine
end

