-- ==== Sys2Proof/Machine/PalBase.lean ====
section
/-!
DEFINITION. What Canvas and Palette share: engines and whether they can work, the energy account of a die
(R234), and the candidates for admission (R235, R236).
-/
namespace Sys2Proof.Machine

def State.engine (s : State) (e : Nat) : Engine := Tbl.get (fun _ => Engine.init) s.pal.engines e
def State.setEngine (s : State) (e : Nat) (x : Engine) : State :=
  { s with pal := { s.pal with engines := Tbl.put (fun _ => Engine.init) s.pal.engines e x } }
def State.palDie (s : State) (d : Nat) : PalDie := Tbl.get (fun _ => PalDie.init) s.pal.dies d
def State.palRing (s : State) (r : Nat) : PRing := Tbl.get (fun _ => PRing.init) s.pal.rings r
def State.setPalRing (s : State) (r : Nat) (x : PRing) : State :=
  { s with pal := { s.pal with rings := Tbl.put (fun _ => PRing.init) s.pal.rings r x } }

/-- An engine that works or may begin to: on, with no park, offline request or fault (R185, R207). -/
def State.engineAvail (s : State) (e : Nat) : Bool :=
  let x := s.engine e
  s.on (palDomain (e / 2)) && s.dieUp (e / 2) && x.target == .idle && !x.resetting &&
    (match x.st with | .idle | .active | .keep | .ramp => true | _ => false)

/-- The engine of a die that folds Canvas batches: the even-numbered one while it is available.
(DEDUCED, log entry 61) -/
def State.foldEngine (s : State) (d : Nat) : Option Nat := [2 * d, 2 * d + 1].find? s.engineAvail
def State.dieAvail (s : State) (d : Nat) : Bool := (s.foldEngine d).isSome

/-! ## The account (R234) -/

/-- A_d saturates at −2^31 and at 2^31 − 1. -/
def satAccount (x : Int) : Int := max (-2147483648) (min 2147483647 x)

/-- The account set to `a` where its charges and budgets alone make it `raw` (R418). -/
def PalDie.settle (x : PalDie) (raw a : Int) : PalDie := { x with account := a, adjust := x.adjust + (a - raw) }

/-- Energy charged to a die's account, in nJ. -/
def PalDie.spend (x : PalDie) (nj : Nat) : PalDie :=
  { x.settle (x.account - nj) (satAccount (x.account - nj)) with charge := x.charge + nj, spent := x.spent + nj }

/-- A window's budget added: min(A_d + B_d, B_d), or B_d for the first window (R234). -/
def PalDie.addBudget (x : PalDie) (b : Nat) (first : Bool) : PalDie :=
  { x.settle (x.account + b) (satAccount (if first then b else min (x.account + b) b)) with added := x.added + b }

/-- A batch's estimate charged, in 1/16 nJ: whole nJ go to the account, the rest is kept. -/
def PalDie.spendBatch (x : PalDie) (est : Nat) : PalDie :=
  { (x.spend ((x.frac16 + est) / 16)) with frac16 := (x.frac16 + est) % 16, canvas := x.canvas + est }

/-! ## Candidates (R235, R236) -/

/-- A candidate for admission on a die: a list at the head of an engine's queue, or a Canvas batch. -/
structure Cand where
  prio : Nat
  since : Nat
  queue : Nat
  engine : Nat
  /-- in 1/16 nJ -/
  energy : Nat
deriving DecidableEq, Repr

/-- A list's energy in nJ: 0 stands for NCMD × CMD_NJ (R224). -/
def State.listEnergy (s : State) (e : Nat) (l : PList) : Nat :=
  if l.energy = 0 then l.ncmd * s.fld (R.PAL_LIST_CTRL e) 15 0 else l.energy

/-- The heads that are candidates on an engine that can work, whether or not a list runs there. -/
def State.listCands (s : State) (e : Nat) : List Cand :=
  let x := s.engine e
  if !s.engineAvail e then []
  else (List.range 16).filterMap (fun q =>
    match Tbl.get (fun _ => []) x.queues q with
    | [] => none
    | l :: _ => l.cand.map (fun t => ⟨s.fld (R.PAL_Q_CFG e q) 31 30, t, q, e, 16 * s.listEnergy e l⟩))

/-- ENERGY of a context in 1/16 nJ per 1,024 folds, or the default of its format (R159). -/
def State.foldEnergy (s : State) (latched fmt : Nat) : Nat :=
  if latched = 0 then s.fld (R.CNV_ENERGY_DEF0 + 4 * fmt) 15 0 else latched

/-- A batch's estimate in 1/16 nJ (R178). (DEDUCED, log entry 62) -/
def State.estimate (s : State) (c : Ctx) (g : Segment) (n : Nat) : Nat :=
  s.foldEnergy g.energy ((c.entry.getD 1 0).fld 27 24) * ((c.entry.getD 1 0).fld 15 0 * n) / 1024

/-- The batches that wait for a die, ranked with priority 3 (R235). -/
def State.batchCands (s : State) (d : Nat) : List Cand :=
  s.canvas.ctxs.flatMap (fun kc => kc.2.segs.flatMap (fun kg =>
    if kg.2.die = d then
      (kg.2.batches.filter (fun b => !b.admitted)).map (fun b =>
        ⟨3, b.since, 16, 2 * d, s.estimate kc.2 kg.2 b.items.length⟩)
    else []))

/-- Whether candidate `a` ranks before `b` (rule 2). -/
def Cand.before (a b : Cand) : Bool :=
  if a.prio ≠ b.prio then b.prio < a.prio
  else if a.since ≠ b.since then a.since < b.since else a.queue < b.queue

/-- A_d ≥ min(ENERGY, B_d) (rule 3). -/
def PalDie.affords (x : PalDie) (energy : Nat) : Bool :=
  decide (((min energy (16 * x.budget) : Nat) : Int) ≤ 16 * x.account)

/-- Rule 4: with a candidate that has waited STARVE_US or longer, only the longest-waiting one. -/
def State.starveAllows (s : State) (d : Nat) (all : List Cand) (c : Cand) : Bool :=
  let lim := s.fld (R.PAL_DIE_ADMIT d) 31 16 * 1000
  lim == 0 || all.all (fun x => !(decide (x.since + lim ≤ s.now)) || decide (c.since ≤ x.since))

/-- Whether a candidate is admitted among all of its die (R236): affordable, not starving another, and
no affordable candidate that it competes with ranks before it. -/
def State.admits (s : State) (d : Nat) (all rivals : List Cand) (c : Cand) : Bool :=
  let x := s.palDie d
  x.budget != 0 && x.affords c.energy && s.starveAllows d all c &&
    rivals.all (fun r => !(r.before c && x.affords r.energy && s.starveAllows d all r))

end Sys2Proof.Machine
end

