-- ==== Sys2Proof/Machine/CanvasOps.lean ====
section
/-!
DEFINITION. Canvas (08_canvas_reduction.md): shadow writes, staging, the ledger's terms, batches and folds, results, phase marks, rounds, retry, and what an epoch and the loss of engines do.
-/
namespace Sys2Proof.Machine

/-! ## Shadow writes (R160) -/

/-- The number of set bits of MASK words. -/
def countBits (ws : List Word) : Nat := (ws.map (fun w => ((List.range 32).filter w.bit).length)).sum

/-- A setup error in a valid entry: checks 3 to 7 (R160). -/
def State.ctxBad (s : State) (e : List Word) : Bool :=
  let c : Ctx := { Ctx.init with entry := e }
  let m := membership e
  c.f 0 20 16 != 0 || c.f 4 9 3 != 0 || c.f 6 5 0 != 0 || c.f 7 13 8 != 0
    || 3 < c.op || 7 < c.fmtIn || 7 < c.fmtOut || 1 < c.f 1 19 18 || 1 < c.f 1 17 16
    || m.expect == 0 || m.expect != countBits m.mask || c.nsegs == 0
    || 4096 < payloadBytes c.fmtIn c.elems || 4096 < payloadBytes c.fmtOut c.elems
    || ((isMx c.fmtIn || isMx c.fmtOut) && c.elems % 32 != 0)
    || (c.op == 3 && m.expect != 1)
    || (c.f 3 15 0 != 0 && 65535 < c.f 3 31 16 + (c.nsegs - 1) / c.f 3 15 0)
    || (c.child && (!s.prismMember || c.rootPos == s.prismPos))
    || m.has (1024 + s.prismPos)

/-- Check 8: a same-JOB rewrite keeps CHILD, ROOT_POS, OP, FMT_IN, FMT_OUT, ELEMS and SEGS. -/
def ctxChanges (a b : List Word) : Bool :=
  let x : Ctx := { Ctx.init with entry := a }
  let y : Ctx := { Ctx.init with entry := b }
  x.child != y.child || x.rootPos != y.rootPos || x.op != y.op || x.fmtIn != y.fmtIn || x.fmtOut != y.fmtOut
    || x.elems != y.elems || x.nsegs != y.nsegs

/-- The status of a shadow write (R160). -/
def State.ctxCheck (s : State) (n : Nat) (e : List Word) : Nat :=
  let c := s.ctx n
  let w0 := e.getD 0 0
  if s.tab.pending.isSome then 2
  else if c.st = .reclaim ∨ (c.st ≠ .free ∧ w0.fld 15 0 ≠ c.job) then 1
  else if w0.fld 31 31 = 0 then 0
  else if s.ctxBad e then 3
  else if c.st ≠ .free ∧ ctxChanges c.entry e then 3
  else 0

/-! ## Space and terms (R177, R187) -/

/-- Bytes of contributions in the overflow of a die. -/
def ovfAt (l : List Contrib) (d : Nat) : Nat := ((l.filter (fun x => x.place == d)).map (·.ovf)).sum

/-- The space of contributions freed. -/
def State.freeContribs (s : State) (l : List Contrib) : State :=
  let o := s.canvas.ovf
  { s with canvas := { s.canvas with
      staging := s.canvas.staging + (l.map (·.units)).sum,
      ovf := ⟨o.req - ovfAt l 0, o.rsp - ovfAt l 1, o.coll - ovfAt l 2, o.bulk - ovfAt l 3⟩ } }

/-- The ledger's terms of the island that serves a context (R158, R187). -/
def State.cnvTerms (s : State) (i : Nat) : CnvTerms := Tbl.get (fun _ => CnvTerms.zero) s.canvas.terms i
def State.noteTerms (s : State) (n : Nat) (f : CnvTerms → CnvTerms) : State :=
  { s with canvas := { s.canvas with terms := Tbl.put (fun _ => CnvTerms.zero) s.canvas.terms (n % 4) (f (s.cnvTerms (n % 4))) } }

/-- Contributions of a segment cleared by a retry: their space is freed (R187). -/
def State.clearHeld (s : State) (n k : Nat) : State :=
  let l := ((s.ctx n).seg k).held
  (s.freeContribs l).noteTerms n (fun t => { t with cleared := t.cleared + l.length })


/-- `m` discards of context `n` counted (R168). -/
def State.discards (s : State) (n counter m : Nat) : State :=
  (s.bump counter m).noteTerms n (fun t => { t with discarded := t.discarded + m })

/-- A discard counted; a late contribution feeds its port's lateness (R168, R409). -/
def State.countDiscard (s : State) (n port counter : Nat) : State :=
  let s := s.discards n counter 1
  if counter = C.CNV_LATE ∧ port < 1088 then s.bumpPort port 10 1 else s

/-! ## Batches (R176, R178) -/

/-- BATCH_MAX, where 0 acts as 1 and values above 64 as 64. -/
def State.batchMax (s : State) : Nat := min 64 (max 1 (s.fld R.CNV_BATCH_CTRL 31 24))
def State.batchWait (s : State) : Nat := s.fld R.CNV_BATCH_CTRL 11 0

/-- Waiting contributions cut into batches while one is due. Fuel bounds their number. -/
def cutBatches (mx now wait : Nat) (all : Bool) : Nat → List Contrib → List (List Contrib) × List Contrib
  | 0, l => ([], l)
  | n + 1, l =>
    match l with
    | [] => ([], [])
    | c :: _ =>
      if all || decide (mx ≤ l.length) || decide (c.at_ + wait ≤ now) then
        let r := cutBatches mx now wait all n (l.drop mx)
        (l.take mx :: r.1, r.2)
      else ([], l)

/-- BATCH_DISPATCH (R176): batches that are due go to the segment's die, in order. A context in RECOVER,
or a segment without its area, sends none. -/
def State.dispatchSeg (s : State) (n k : Nat) : State :=
  let c := s.ctx n
  let g := c.seg k
  if c.st ≠ .active ∨ !g.area ∨ !g.inWork then s
  else
    let r := cutBatches s.batchMax s.now s.batchWait (g.st == .full || g.ended || g.forced)
      (g.waiting.length + 1) g.waiting
    s.setSeg n k { g with waiting := r.2, batches := g.batches ++ r.1.map (fun l => ⟨l, false, s.now⟩) }

/-! ## Partial results and stragglers (R179, R428) -/

/-- The record of a contributor missing once more, in round r. -/
def missOnce (r b : Nat) (l : List (Nat × Nat × Nat)) : Nat × List (Nat × Nat × Nat) :=
  let old := l.find? (fun x => x.1 == b)
  let rest := l.filter (fun x => x.1 != b)
  match old with
  | none => (1, rest ++ [(b, 1, r)])
  | some (_, cnt, last) =>
    if last = r then (0, l) else if last + 1 = r then (cnt + 1, rest ++ [(b, cnt + 1, r)]) else (1, rest ++ [(b, 1, r)])

/-- STRAGGLER_REPORT (R428): a contributor missing from partial results of STRAG_ROUNDS rounds in a row
raises EV_HEALTH. -/
def State.missing (s : State) (n r b : Nat) : State :=
  let c := s.ctx n
  let x := missOnce r b c.missing
  let s := s.setCtx n { c with missing := x.2 }
  let lim := s.fld R.TEL_HEALTH_STRAG 7 0
  if lim ≠ 0 ∧ x.1 = lim then
    s.raise { code := 0x0903, sev := 1, kind := 0x08, index := n, arg0 := 0, arg1 := 6, arg2 := b }
  else s

/-- PARTIAL_EVENT (R179): the first partial of a context in a round raises EV_CNV_PARTIAL. (DEDUCED, log entry 63) -/
def State.partialEvent (s : State) (n k : Nat) : State :=
  let c := s.ctx n
  let was := if k < 2 ^ 24 then c.partialNow else c.partialNext
  let c' := if k < 2 ^ 24 then { c with partialNow := true } else { c with partialNext := true }
  if was then s
  else (s.setCtx n c').raise
    { code := 0x0302, sev := 1, kind := 0x08, index := n, arg0 := c.roundAt k % 256, arg1 := k % 2 ^ 24 }

/-- A segment that ends partial: the event and the stragglers, of a root context. -/
def State.notePartial (s : State) (n k : Nat) : State :=
  let c := s.ctx n
  if c.child then s
  else
    let g := c.seg k
    let s := s.partialEvent n k
    forEach (fun b s => s.missing n (c.roundAt k) b)
      (((c.memberAt k).list).filter (fun b => !g.arrived.contains b)) s

/-! ## Results (R165, R167, R172 to R174, R183) -/

/-- The group of a segment's result (R159). -/
def Ctx.group (c : Ctx) (seg : Nat) : Nat :=
  let sc := c.f 3 15 0
  (c.f 3 31 16 + (if sc = 0 then 0 else seg / sc)) % 65536

/-- The result's payload and ELEMS: empty for a retry or an accumulator that is empty. -/
def Ctx.resultData (c : Ctx) (g : Segment) (fmt : Nat) : List Byte :=
  match g.acc with
  | none => []
  | some a =>
    match g.raw with
    | some bytes => if fmt = c.fmtIn then bytes else encodePayload fmt (c.f 1 19 18 == 1) (c.f 1 17 16 == 1) a
    | none => encodePayload fmt (c.f 1 19 18 == 1) (c.f 1 17 16 == 1) a

/-- The words 5 to 8 of a RED_RESULT (R165); a retry reports what had been folded, without data. -/
def resultWords (n : Nat) (c : Ctx) (g : Segment) (k status : Nat) (phase : Bool) : List Word :=
  let empty : Bool := status == 2 || g.acc.isNone
  [(((0 : Word).setFld 31 18 n).setFld 17 16 status).setFld 15 5 g.count,
   ((((0 : Word).setFld 31 24 (c.roundAt k % 256)).setFld 23 20 c.fmtOut).setFld 19 16 c.op).setFld 15 0
     (if empty then 0 else c.elems),
   ((0 : Word).setFld 31 16 (c.group (k % 2 ^ 24))).setFld 15 15 (bit01 phase),
   (0 : Word).setFld 31 14 (min 262143 g.foldedSum)]

/-- A RED_RESULT goes into PL17, to be replicated by its group (R167, R183); results of each STATUS are
counted. -/
def State.sendResult (s : State) (n k status : Nat) (phase : Bool) : State :=
  let c := s.ctx n
  let g := c.seg k
  let data := if status = 2 then [] else c.resultData g c.fmtOut
  let p := mkPacket { ty := tyRED_RESULT, tc := c.resTc, vc := vcCOLL, length := data.length, dest := c.f 7 31 14,
                      src := s.homeId 0, sspace := 1, job := c.job, seq := k % 2 ^ 24 }
    (resultWords n c g k status phase) data
  let cap (x : Nat) : Nat := min (x + 1) (2 ^ 32 - 1)
  let s := s.setCtx n { c with partials := if status = 1 then cap c.partials else c.partials,
                               retries := if status = 2 then cap c.retries else c.retries }
  let s := s.bump C.CNV_RESULTS 1
  let s := if status = 1 then s.bump C.CNV_PARTIALS 1 else if status = 2 then s.bump C.CNV_RETRIES 1 else s
  s.originate p

/-- A child's partial goes to the root: FMT_IN, PART when it is short, CONTRIB of the own position, FOLDED the sum folded
(R164, R183); an accumulator that is empty is sent as zeros. It goes on RES_TC. (DESIGN CHOICE, log entry 173) -/
def State.sendPartial (s : State) (n k status : Nat) : State :=
  let c := s.ctx n
  let g := c.seg k
  let data := match g.acc with
    | none => List.replicate (payloadBytes c.fmtIn c.elems) 0#8
    | some _ => c.resultData g c.fmtIn
  let w5 := ((0 : Word).setFld 31 18 n).setFld 17 7 (1024 + s.prismPos)
  let w6 := ((((0 : Word).setFld 31 24 (c.roundAt k % 256)).setFld 23 20 c.fmtIn).setFld 19 16 c.op).setFld 15 0 c.elems
  let w7 := ((0 : Word).setFld 31 14 (min 262143 g.foldedSum)).setFld 13 13 (bit01 (status == 1))
  s.originate (mkPacket { ty := tyRED_CONTRIB, tc := c.resTc, vc := vcCOLL, length := data.length,
                          dest := (s.peer c.rootPos).spineId * 4, src := s.homeId 0, sspace := 1, job := c.job,
                          seq := k % 2 ^ 24 } [w5, w6, w7] data)

/-! ## Phase marks (R184, R300) -/

/-- The pattern of the boundary that a segment's result ends: the end of its round, or PHASE_SEG.
(DEDUCED, log entry 54) -/
def Ctx.boundary (c : Ctx) (k : Nat) : Option Nat :=
  let ph := c.f 6 31 30
  let next : Bool := decide (2 ^ 24 ≤ k)
  let done := (c.segs.filter (fun x => decide (2 ^ 24 ≤ x.1) == next && x.2.st == .done)).length
  if ph % 2 = 1 ∧ done + 1 = c.nsegs then some (c.f 7 7 0)
  else if 2 ≤ ph ∧ k % 2 ^ 24 = c.f 6 29 6 then some (c.f 2 7 0)
  else none

/-- One PHASE_MARK to a peer; with no plane that reaches it, it is pruned (R184). (DEDUCED, log entry 64) -/
def State.sendPhaseMark (s : State) (n pattern at_ round count j : Nat) (relay : Bool) : State :=
  let c := s.ctx n
  if (List.range 64).any (fun p => s.planeUsable p && s.reaches p j) then
    let p := mkPacket { ty := tyPHASE_MARK, tc := c.resTc, vc := vcCOLL, dest := (s.peer j).spineId * 4, dspace := 1,
                        src := s.homeId 0, sspace := 1, job := c.job, seq := count }
      (markWords n (round % 256) pattern at_) []
    (s.bump (if relay then C.OPT_MARKS_RELAYED else C.CNV_PHASE_MARKS) 1).originate p
  else if relay then s
  else (s.setCtx n { c with pruned := min (c.pruned + 1) (2 ^ 32 - 1) }).bump C.CNV_PRUNED_RESULTS 1

/-- PHASE_MARK_ISSUE (R184): PL16 takes the pattern; a mark goes to each peer of the mask, and PL16 relays
it to the other live peers. -/
def State.issueMarks (s : State) (n k pattern : Nat) : State :=
  let c := s.ctx n
  let at_ := s.tb0 + s.fld R.CNV_PHASE_CTRL 15 0
  let r := c.roundAt k
  let named := (List.range 64).filter (fun j => (c.memberAt k).has (1024 + j))
  let count := c.phases
  let s := s.setCtx n { c with phases := (c.phases + 1) % 2 ^ 24 }
  let s := s.takeMark pattern at_
  let s := forEach (fun j s => s.sendPhaseMark n pattern at_ r count j false) named s
  forEach (fun j s => s.sendPhaseMark n pattern at_ r count j true)
    ((List.range 64).filter (fun j => s.peerLive j && !named.contains j)) s

/-! ## Rounds (R175, R181) -/

/-- A segment is DONE: what arrived too late to be folded is freed and counted by rule 7 of R168, LATE after a partial and
DUP otherwise. -/
def State.segDone (s : State) (n k : Nat) (short : Bool) : State :=
  let c := s.ctx n
  let g := c.seg k
  let s := s.freeContribs g.held
  let s := if g.held.isEmpty then s else s.discards n (if short then C.CNV_LATE else C.CNV_DUP) g.held.length
  s.setSeg n k { Segment.idle with st := .done, ended := short }

/-- Segments of the current round that are DONE. -/
def Ctx.doneNow (c : Ctx) : Nat := (c.segs.filter (fun x => x.1 < 2 ^ 24 && x.2.st == .done)).length

/-- ROUND_ADVANCE (R181, R182): the next round becomes current. -/
def Ctx.advanced (c : Ctx) : Ctx :=
  { c with round := c.round + 1,
           segs := (c.segs.filter (fun x => 2 ^ 24 ≤ x.1)).map (fun x => (x.1 - 2 ^ 24, x.2)),
           past := if c.member = c.next then c.past else c.past ++ [(c.round + 1, c.member)],
           member := c.next, partialNow := c.partialNext, partialNext := false }

/-- A root's result issued, with its phase boundary (R183, R184): the segment is DONE. -/
def State.issueRoot (s : State) (n k : Nat) : State :=
  let c := s.ctx n
  let g := c.seg k
  let b := c.boundary k
  let s := s.sendResult n k g.status b.isSome
  let s := match b with | some pat => s.issueMarks n k pat | none => s
  s.segDone n k (g.status == 1)

/-- Rounds advance while every segment is DONE; encoded results that waited for their round are then
issued. Fuel bounds the rounds and held results. -/
def State.advance (n : Nat) : Nat → State → State
  | 0, s => s
  | fuel + 1, s =>
    let c := s.ctx n
    if !c.live then s
    else if c.doneNow = c.nsegs ∧ c.nsegs ≠ 0 then State.advance n fuel (s.setCtx n c.advanced)
    else match c.segs.find? (fun x => x.1 < 2 ^ 24 && x.2.st == .encode && x.2.encoded) with
      | some x => State.advance n fuel (s.issueRoot n x.1)
      | none => s

/-! ## Completion (R175, R179, R180) -/

/-- A segment's result is void: what it holds is freed, a retry result goes out, and the segment is IDLE
for the same round (R180, R183, R185). -/
def State.voidSeg (s : State) (n k : Nat) : State :=
  ((s.clearHeld n k).sendResult n k 2 false).setSeg n k Segment.idle

/-- The segment goes to ENCODE with a status once every batch is folded. -/
def State.settleSeg (s : State) (n k : Nat) : State :=
  let g := (s.ctx n).seg k
  if !g.inWork ∨ !g.waiting.isEmpty ∨ !g.batches.isEmpty then s
  else if g.forced ∧ g.count = 0 then s.voidSeg n k
  else if g.forced ∨ g.ended ∨ g.st = .full then
    let short : Bool := g.forced || g.ended || g.st != .full || g.anyPart
    let s := s.setSeg n k { g with st := .encode, status := bit01 short, ended := short, deadline := none }
    if short then s.notePartial n k else s
  else s

/-- The state of a segment whose arrival count is held against EXPECT: FULL once it is reached, unless the timer has expired
or the segment is forced; a segment that is not OPEN or FULL stays (R175, R179). -/
def Segment.reached (g : Segment) (expect : Nat) : SegState :=
  if g.inWork && !g.ended && !g.forced then (if expect ≤ g.arrived.length then .full else .open_) else g.st

/-- A contribution staged for a segment, which opens if it was IDLE (R168 rule 9, R175). (DEDUCED, log entry 59) -/
def State.stage (s : State) (n k : Nat) (it : Item) (inStaging : Bool) : State :=
  let p := it.pkt
  let c := s.ctx n
  let g0 := c.seg k
  let u := stageUnits p.length
  let g : Segment := if g0.st ≠ .idle then g0 else
    { g0 with st := .open_, die := c.die, energy := c.f 5 15 0,
              timeoutNs := c.timeoutNs,
              deadline := if c.timeoutNs = 0 ∨ c.st ≠ .active then none else some (s.now + c.timeoutNs),
              remaining := if c.timeoutNs = 0 ∨ c.st = .active then none else some c.timeoutNs }
  let x : Contrib := { contrib := p.fld 5 17 7, folded := p.fld 7 31 14, part := p.fld 7 13 13 == 1,
                       payload := p.payload, units := if inStaging then u else 0,
                       ovf := if inStaging then 0 else p.length, place := s.ovfDie g.die, at_ := s.now }
  let arrived := g.arrived ++ [p.fld 5 17 7]
  let s := s.takeSpace g.die p.length inStaging
  let s := if inStaging then s else s.bump C.CNV_OVF_BYTES p.length
  let g := { g with arrived := arrived, waiting := g.waiting ++ [x] }
  let s := s.setSeg n k { g with st := g.reached (c.memberAt k).expect }
  (s.bump C.CNV_CONTRIB_RX 1).dispatchSeg n k

/-- The head of Canvas's input, a RED_CONTRIB, is tested and staged or discarded; `none`: it is held back
for want of space (R168, R177). -/
def State.ingest (s : State) (it : Item) : Option State :=
  let n := it.pkt.fld 5 31 18
  let t := s.noteTerms n (fun t => { t with delivered := t.delivered + 1 })
  match s.judge it with
  | .discard c => some (t.countDiscard n it.port c)
  | .take k => (s.stageWhere (s.contribDie it k) it.pkt.length).map (fun b => t.stage n k it b)

/-! ## Folding (R170 to R172) -/

/-- One contribution folded into a segment. -/
def Segment.fold (c : Ctx) (g : Segment) (x : Contrib) : Segment :=
  let adds : Bool := x.folded != 0 && c.elems != 0
  { g with acc := if adds then foldInto c.op g.acc (decodePayload c.fmtIn c.elems x.payload) else g.acc,
           raw := if adds && c.op == 3 then some x.payload else g.raw,
           count := g.count + 1, foldedSum := g.foldedSum + x.folded, anyPart := g.anyPart || x.part }

/-! ## Engines lost and found (R162, R185, R278) -/

/-- The die that Easel grants a context (R278). -/
def State.grantDie (s : State) (c : Ctx) : Option Nat :=
  if c.pinned then (if s.dieAvail c.pinDie then some c.pinDie else none)
  else mostOf (fun d => 2 ^ 64 - (s.palDie d).lastCharge) ((List.range 4).filter s.dieAvail)

/-- Whether every die that a context works on has an available engine. -/
def State.ctxRuns (s : State) (c : Ctx) : Bool :=
  s.dieAvail c.die && c.segs.all (fun x => !x.2.inWork || s.dieAvail x.2.die)

/-- Segment timers suspended (R162). -/
def Segment.suspend (now : Nat) (g : Segment) : Segment :=
  match g.deadline with
  | some t => { g with deadline := none, remaining := some (t - now) }
  | none => g

/-- Segment timers run on; batches not yet reported folded are sent again; `die`: where they go. -/
def Segment.resume (now : Nat) (die : Option Nat) (g : Segment) : Segment :=
  if !g.inWork then g
  else { g with deadline := g.remaining.map (now + ·), remaining := none, die := die.getD g.die,
                batches := g.batches.map (fun b => { b with admitted := false, since := now }) }

/-- Every segment of a context changed. -/
def Ctx.mapSegs (c : Ctx) (f : Segment → Segment) : Ctx := { c with segs := c.segs.map (fun x => (x.1, f x.2)) }

/-- CONTEXT_RECOVER_ENTRY (R185): RECOVER, with EV_CNV_STALL. -/
def State.enterRecover (s : State) (n : Nat) : State :=
  let c := s.ctx n
  (s.setCtx n { (c.mapSegs (Segment.suspend s.now)) with st := .recover }).raise
    { code := 0x0303, sev := 2, kind := 0x08, index := n, arg0 := c.die }

/-- Every segment in work is dispatched and settled again. (DEDUCED, log entry 53) -/
def State.redispatch (s : State) (n : Nat) : State :=
  forEach (fun k s => (s.dispatchSeg n k).settleSeg n k) (Tbl.keys (s.ctx n).segs) s

/-- RECOVER ends: ACTIVE, on a die if one is given. -/
def State.leaveRecover (s : State) (n : Nat) (die : Option Nat) : State :=
  let c := s.ctx n
  (s.setCtx n { (c.mapSegs (Segment.resume s.now die)) with st := .active, die := die.getD c.die }).redispatch n

/-- What a change of the engines available means for each context: to RECOVER, or back to ACTIVE (R162). -/
def State.canvasEngines (s : State) : State :=
  forEach (fun n (s : State) =>
    let c := s.ctx n
    if c.st = .active ∧ !s.ctxRuns c then s.enterRecover n
    else if c.st = .recover ∧ s.ctxRuns c then s.leaveRecover n none
    else s) (Tbl.keys s.canvas.ctxs) s

/-- Batches of a die not yet reported folded are sent again (R185). -/
def State.resendBatches (s : State) (d : Nat) : State :=
  let again (g : Segment) : Segment := if g.die = d then
    { g with batches := g.batches.map (fun b => { b with admitted := false, since := s.now }) } else g
  { s with canvas := { s.canvas with ctxs := s.canvas.ctxs.map (fun x => (x.1, x.2.mapSegs again)) } }

/-- A segment has something on a die: its accumulator, or contributions in overflow there. -/
def Segment.onDie (g : Segment) (d : Nat) : Bool :=
  g.inWork && (g.die == d || g.held.any (fun x => x.ovf != 0 && x.place == d))

/-- A die is lost with its checkpoints (R185): its open segments are void, and the context goes on where
Easel grants. -/
def State.canvasDieLost (s : State) (d : Nat) : State :=
  let s := forEach (fun n (s : State) =>
    if !(s.ctx n).live then s
    else
      let ks := ((s.ctx n).segs.filter (fun x => x.2.onDie d)).map (·.1)
      let s := forEach (fun k s => s.voidSeg n k) ks s
      let c := s.ctx n
      if c.die = d then
        match s.grantDie c with
        | some e => s.setCtx n { c with die := e }
        | none => s
      else s) (Tbl.keys s.canvas.ctxs) s
  s.canvasEngines

/-! ## The epoch (R161 to R163, R182) -/

/-- A context activated (R162). -/
def State.activate (s : State) (n : Nat) (e : List Word) : State :=
  let c : Ctx := { Ctx.init with st := .active, entry := e, member := membership e, next := membership e }
  s.setCtx n { c with die := (s.grantDie c).getD c.pinDie }

/-- A context deleted: RECLAIM; segments in ENCODE finish, the others are abandoned (R163). (DEDUCED, log entry 55) -/
def State.deleteCtx (s : State) (n : Nat) : State :=
  let waits := (s.ctx n).segs.filter (fun x => x.2.st == .encode && x.2.sent)
  let s := forEach (fun (x : Nat × Segment) (s : State) => s.segDone n x.1 (x.2.status == 1)) waits s
  let c := s.ctx n
  let dead := c.segs.filter (fun x => x.2.inWork)
  let lost := (dead.map (fun x => x.2.held.length)).sum
  let s := forEach (fun x (s : State) => s.freeContribs x.2.held) dead s
  let s := s.setCtx n { c with st := .reclaim, abandoned := dead.length,
                               segs := (c.segs.filter (fun x => x.2.st == .encode)).map
                                 (fun x => (x.1, { x.2 with encoded := false })) }
  (s.bump C.CNV_ABANDONED lost).noteTerms n (fun t => { t with abandoned := t.abandoned + lost })

/-- A same-JOB rewrite (R161): its membership governs from the next round on, which the generation event
reports (R182). Segments of that round already open are held against its EXPECT. (DEDUCED, log entry 52) -/
def State.rewriteCtx (s : State) (n gen : Nat) (e : List Word) : State :=
  let c := s.ctx n
  let m := membership e
  let die := if (e.getD 0 0).fld 23 23 = 1 then (e.getD 0 0).fld 22 21 else c.die
  let held (x : Nat × Segment) : Nat × Segment :=
    if x.1 < 2 ^ 24 ∨ m = c.next then x else (x.1, { x.2 with st := x.2.reached m.expect })
  let s' := s.setCtx n { c with entry := e, next := m, segs := c.segs.map held, die := die }
  if m = c.next then s'
  else (s'.redispatch n).raise { code := 0x0202, sev := 0, kind := 0x08, index := n, arg0 := gen, arg1 := (c.round + 1) % 256 }

/-- What an epoch does to one slot. -/
def State.epochCtx (s : State) (gen n : Nat) : State :=
  let c := s.ctx n
  let e := Tbl.get (fun _ => ctxZero) s.canvas.shadow n
  let valid : Bool := (e.getD 0 0).fld 31 31 == 1
  match c.st with
  | .free => if valid then s.activate n e else s
  | .reclaim => s
  | _ => if !valid then s.deleteCtx n else if e = c.entry then s else s.rewriteCtx n gen e

/-- The context banks at an epoch. -/
def State.canvasEpoch (s : State) (gen : Nat) : State :=
  let keys := Tbl.keys s.canvas.shadow ++ (Tbl.keys s.canvas.ctxs).filter (fun n => !(Tbl.keys s.canvas.shadow).contains n)
  (forEach (fun n s => s.epochCtx gen n) keys s).canvasEngines

/-! ## Results of a split group observed (R183) -/

/-- A child reissues a segment: a retry result to its group, and the segment opens again for the round. -/
def State.childRetry (s : State) (n k : Nat) : State := s.voidSeg n k

/-- CHILD_RESULT_OBSERVE (R183): the header copy of a RED_RESULT received on a BP port for a CHILD context
of the same JOB marks its segment DONE; a retry voids it for the round. (DEDUCED, log entry 57) -/
def State.observe (s : State) (it : Item) : State :=
  let p := it.pkt
  let n := p.fld 5 31 18
  let c := s.ctx n
  let d := (p.fld 6 31 24 + 256 - c.round % 256) % 256
  let k := segKey (d == 1) p.seq
  if p.ty = tyRED_RESULT ∧ 1024 ≤ it.port ∧ it.port < 1088 ∧ c.live ∧ c.child ∧ c.job = p.job ∧ d ≤ 1
      ∧ p.seq < c.nsegs ∧ (c.seg k).st ≠ .done then
    if p.fld 5 17 16 = 2 then (s.clearHeld n k).setSeg n k Segment.idle
    else (s.segDone n k (p.fld 5 17 16 == 1)).advance n 8
  else s

/-- A child whose root's colour is dead issues retry at once for each partial sent (R183). -/
def State.rootDead (s : State) (j : Nat) : State :=
  forEach (fun n (s : State) =>
    let c := s.ctx n
    if c.live ∧ c.child ∧ c.rootPos = j then
      forEach (fun k s => s.childRetry n k) ((c.segs.filter (fun x => x.2.st == .encode && x.2.sent)).map (·.1)) s
    else s) (Tbl.keys s.canvas.ctxs) s

end Sys2Proof.Machine
end

