-- ==== Sys2Proof/Machine/PalOps.lean ====
section
/-!
DEFINITION. Palette engines (09_palette_engines.md): states, cycles counted, keep and ramp, parks, faults,
lane groups, and the energy budget of a die (R234, R380, R381).
-/
namespace Sys2Proof.Machine

/-! ## Cycles counted (R216, R234) -/

/-- Filler cycles charged to a die's account in pJ each; fractions of an nJ are kept. -/
def PalDie.filler (x : PalDie) (pj : Nat) : PalDie := { (x.spend ((x.fracPj + pj) / 1000)) with fracPj := (x.fracPj + pj) % 1000 }

/-- Whether an engine's filler generator issues (R209, R210, R213). -/
def Engine.filling (x : Engine) : Bool := x.st == .keep || x.ramping

/-- Cycles of 2.0 GHz up to now counted: busy ones while a list executes, filler ones by the level. -/
def State.accrueOne (s : State) (e : Nat) : State :=
  let x := s.engine e
  let cyc := 2 * (s.now - x.acctAt)
  let s := s.setEngine e { x with acctAt := s.now, acctRem := if x.filling then (cyc * x.level + x.acctRem) % 64 else x.acctRem }
  if x.filling then
    let n := (cyc * x.level + x.acctRem) / 64
    let pj := n * s.fld (R.PAL_DIE_ADMIT (e / 2)) 15 0
    let nj := ((s.palDie (e / 2)).fracPj + pj) / 1000
    ((s.bump (C.PAL_FILLER_CYCLES e) n).bump (C.PAL_ENERGY_CHARGED e) nj).updDie (e / 2) (fun d => d.filler pj)
  else if x.st = .active ∧ x.run.isSome then s.bump (C.PAL_BUSY_CYCLES e) cyc
  else s

/-! ## States (R207) -/

/-- PAL.ENG_STAT.STATE. -/
def EngState.code : EngState → Nat
  | .off => 0
  | .idle => 1
  | .active => 2
  | .keep => 3
  | .ramp => 4
  | .parked => 5
  | .faulted => 6
  | .offline => 7

/-- An engine's state changed, with EV_PAL_ENGINE (R207), and what that means for Canvas (R162). -/
def State.setEngState (s : State) (e : Nat) (st : EngState) : State :=
  let x := s.engine e
  if x.st = st then s
  else
    let s := (s.accrueOne e)
    let s := s.setEngine e { s.engine e with st := st }
    (s.raise { code := 0x0401, sev := if st = .faulted ∨ st = .offline then 1 else 0, kind := 6, index := e,
               arg0 := st.code, arg1 := x.st.code }).canvasEngines

/-- Fault stops of the last second (R214). -/
def Engine.recentFaults (x : Engine) (now : Nat) : List Nat := x.faults.filter (fun t => now < t + 1000000000)

/-- Why filler is shed, the lowest code, or 0 (R211). -/
def State.fillerOff (s : State) (e : Nat) : Nat :=
  let d := s.palDie (e / 2)
  if s.fld (R.PAL_ENG_CTRL e) 28 28 = 0 ∨ s.fld (R.PAL_ENG_CTRL e) 15 0 = 0 then 1
  else if 1 ≤ s.fld R.PWR_SUPPLY_STAT 15 13 then 2
  else if s.fld (R.PWR_DIE_THERM (e / 2)) 23 22 = 2 then 3
  else if d.account < 0 ∨ d.budget = 0 then 4
  else 0

/-- Contents scrubbed: registers, accumulators, the shared buffer and scratch (R207, R213). -/
def Engine.scrub (x : Engine) : Engine :=
  { x with lanes := [], scales := [], acc := [], shared := [], sharedScale := [], scratch := [],
           outLanes := [], outScales := [], outAcc := [] }

/-! ## Keep and ramp (R209 to R211) -/

/-- What an engine becomes when its level is 0: its ramp's target (R207, R215). -/
def State.enterTarget (s : State) (e : Nat) : State :=
  let x := s.engine e
  match x.target with
  | .idle => s.setEngState e .idle
  | .parked => s.setEngState e .parked
  | .offline => (s.setEngine e x.scrub).setEngState e .offline

/-- A ramp starts from the present level; at level 0 it has ended (R210). (DEDUCED, log entry 69) -/
def State.startRamp (s : State) (e : Nat) : State :=
  let s := s.accrueOne e
  let x := s.engine e
  if x.ramping then s.setEngState e .ramp
  else if x.level = 0 then s.enterTarget e
  else
    let s := s.setEngine e { x with ramping := true, rampD := x.level, rampStep := 0, rampAt := s.now }
    (s.bump (C.PAL_RAMPS e) 1).setEngState e .ramp

/-- An engine that stops outside its rules of load begins to ramp down, whatever its state becomes (R210). -/
def State.rampDown (s : State) (e : Nat) : State :=
  let x := s.engine e
  if x.ramping ∨ x.level = 0 then s
  else (s.setEngine e { x with ramping := true, rampD := x.level, rampStep := 0, rampAt := s.now }).bump (C.PAL_RAMPS e) 1

/-- Filler shed on a die: every engine in KEEP starts its ramp (R211). -/
def State.shedFiller (s : State) (d : Nat) : State :=
  forEach (fun e (s : State) => if (s.engine e).st = .keep ∧ s.fillerOff e ≠ 0 then s.startRamp e else s)
    [2 * d, 2 * d + 1] s

/-- An engine's cycles counted, and filler shed where their charge overdraws the account (R211, R234).
(DESIGN CHOICE, log entry 67) -/
def State.accrue (s : State) (e : Nat) : State := (s.accrueOne e).shedFiller (e / 2)

/-- An engine has no command ready: KEEP at the level D, or RAMP while filler is shed (R209, R211). D is a
free multiple of 8 levels, rounded up from what its level allows. (DESIGN CHOICE, log entry 66) -/
def State.gap (s : State) (e : Nat) : State :=
  if s.fillerOff e ≠ 0 then s.startRamp e
  else
    let x := s.engine e
    let d := 8 * (Config.rowIssue s.free % ((x.level + 7) / 8 + 1))
    let s := (s.accrue e).tick
    let x := s.engine e
    (s.setEngine e { x with level := d, keepEnd := s.now + s.fld (R.PAL_ENG_CTRL e) 15 0 }).setEngState e .keep

/-- A command is ready: ACTIVE at the present level, and a ramp ends (R207). -/
def State.engineReady (s : State) (e : Nat) : State :=
  let s := s.accrue e
  let x := s.engine e
  (s.setEngine e { x with ramping := false }).setEngState e .active

/-! ## Parks and taking offline (R215) -/

/-- What an engine is asked for: offline before a park (R207). -/
def State.engTarget (s : State) (e : Nat) : EngTarget :=
  let x := s.engine e
  if x.offlining then .offline
  else if s.fld (R.PAL_ENG_CTRL e) 31 31 = 1 ∨ x.levelPark then .parked
  else .idle

/-- The executing command completes first: a fence that waits or MOVEs in flight (R215). (DEDUCED, log entry 70) -/
def Engine.executing (x : Engine) : Bool :=
  match x.run with
  | some r => r.fence.isSome || !r.moves.isEmpty
  | none => false

/-- An engine whose executing command has completed follows its park or offline request (R215). -/
def State.quiesce (s : State) (e : Nat) : State :=
  let x := s.engine e
  match x.st with
  | .active => if x.target != .idle && !x.executing then s.startRamp e else s
  | .keep => if x.target != .idle then s.startRamp e else s
  | .idle => if x.target != .idle then s.startRamp e else s
  | .parked => if x.target == .offline then s.enterTarget e else s
  | _ => s

/-- A park cleared: PARKED becomes IDLE, and an engine with a list goes on with it (R207, R215). -/
def State.unpark (s : State) (e : Nat) : State :=
  let x := s.engine e
  if x.target ≠ .idle then s
  else
    let s := if x.st = .parked then s.setEngState e .idle else s
    let x := s.engine e
    if (x.st = .idle ∨ x.st = .ramp) ∧ x.run.isSome then s.engineReady e else s

/-- The request in force worked out anew and followed. -/
def State.retarget (s : State) (e : Nat) : State :=
  let x := s.engine e
  let t := s.engTarget e
  let s := s.setEngine e { x with target := t }
  if t = .idle then s.unpark e else s.quiesce e

/-! ## Lane groups (R206) -/

/-- Groups of 8 lanes set in a mask of 17. -/
def groupsIn (mask : Nat) : Nat := ((List.range 17).filter (fun g => mask.testBit g)).length

/-- What logical group `i` of a table keyed by lanes of `per` entries holds, put under physical group `g` of another, whose
group `sp` comes into use. -/
def groupOut {α : Type} [DecidableEq α] (dflt : α) (t out : Tbl α) (per i g sp : Nat) : Tbl α :=
  (t.filter (fun k => k.1 / per / 8 == i)).foldl (fun o k => Tbl.put (fun _ => dflt) o (k.1 + 8 * g * per - 8 * i * per) k.2)
    (out.filter (fun k => k.1 / per / 8 != g && k.1 / per / 8 != sp))

/-- The lanes of logical group `i` leave use as physical group `g`, and those of group `sp` form them from now on, with the
contents that the logical lanes had (R190, R206). (DEDUCED, log entry 175) -/
def Engine.swapGroup (x : Engine) (i g sp : Nat) : Engine :=
  { x with outLanes := groupOut 0 x.lanes x.outLanes 8192 i g sp, outScales := groupOut 0 x.scales x.outScales 2048 i g sp,
           outAcc := groupOut 0 x.acc x.outAcc 16 i g sp }

/-- A group retired: the spare takes its place; with no spare the engine has too few (R206, R214). -/
def State.retireGroup (s : State) (e g : Nat) : State :=
  let use := s.fld (R.PAL_LANE_MAP e) 16 0
  let sp := s.fld (R.PAL_LANE_MAP e) 31 27
  let r := s.fld (R.PAL_LANE_RETIRE e) 16 0
  let s := if r.testBit g then s else s.setF (R.PAL_LANE_RETIRE e) 16 0 (r + 2 ^ g)
  if use.testBit g then
    if sp = 0x1F then
      let s := s.setF (R.PAL_LANE_MAP e) 16 0 (use - 2 ^ g)
      s.setEngine e { s.engine e with noSpare := true }
    else
      let i := groupsIn (use % 2 ^ g)
      let s := s.setEngine e ((s.engine e).swapGroup i g sp)
      (s.setF (R.PAL_LANE_MAP e) 16 0 (use - 2 ^ g + 2 ^ sp)).setF (R.PAL_LANE_MAP e) 31 27 0x1F
  else if sp = g then s.setF (R.PAL_LANE_MAP e) 31 27 0x1F
  else s

/-- A group returned: in use where one is missing, else the spare. -/
def State.returnGroup (s : State) (e g : Nat) : State :=
  let use := s.fld (R.PAL_LANE_MAP e) 16 0
  let r := s.fld (R.PAL_LANE_RETIRE e) 16 0
  let s := if r.testBit g then s.setF (R.PAL_LANE_RETIRE e) 16 0 (r - 2 ^ g) else s
  if use.testBit g ∨ s.fld (R.PAL_LANE_MAP e) 31 27 = g then s
  else if groupsIn use < 16 then
    let s := s.setF (R.PAL_LANE_MAP e) 16 0 (use + 2 ^ g)
    s.setEngine e { s.engine e with noSpare := groupsIn use + 1 < 16 }
  else s.setF (R.PAL_LANE_MAP e) 31 27 g

/-! ## Faults (R212, R213) -/

/-- What stops an engine (PAL.FAULT_STAT bits 0 to 4). -/
def faultBit (kind : Nat) : Nat := 2 ^ kind

/-- The executing command is abandoned, with the MOVEs in flight and a fence that waits (R213). -/
def Running.abandon (r : Running) : Running := { r with fence := none, moves := [] }

/-- Suspects after a residue fault in a group, and the group due for retirement (R212). -/
def Engine.suspect (x : Engine) (now g : Nat) : Engine :=
  let again := x.suspects.any (fun y => y.1 == g && decide (now ≤ y.2 + 1000000000))
  { x with suspects := (g, now) :: x.suspects.filter (fun y => y.1 != g),
           dueGroup := if again then some g else x.dueGroup }

/-- A fault stop (R213). `kind` is the bit of FAULT_STAT. -/
def State.faultStop (s : State) (e kind group : Nat) : State :=
  let s := s.accrue e
  let x := s.engine e
  let x := if kind = 3 then x.suspect s.now group else x
  let x := { x with faults := s.now :: x.recentFaults s.now, resetting := true, run := x.run.map Running.abandon }
  let s := s.setEngine e x
  let s := s.setF (R.PAL_FAULT_STAT e) kind kind 1
  let s := if kind = 3 then (s.setF (R.PAL_FAULT_STAT e) 12 8 group).partErr 6 (e + 256 * (group + 1)) 0 1 else s
  let s := s.bump (C.PAL_FAULT_STOPS e) 1
  let s := s.raise { code := 0x0402, sev := 2, kind := 6, index := e, arg0 := faultBit kind,
                     arg1 := if kind = 3 then group else 0x1F, arg2 := min 31 x.faults.length }
  (s.setEngState e .faulted).rampDown e

/-! ## The budget (R234, R355, R380, R381) -/

/-- Weight of a die (PWR.DIE_WEIGHT). -/
def State.dieWeight (s : State) (d : Nat) : Nat := s.fld R.PWR_DIE_WEIGHT (8 * d + 7) (8 * d)

/-- p_avail of R380, in W. -/
def State.powerAvail (s : State) : Nat :=
  let pal := s.fld R.PWR_BUDGET 31 16
  let cap := s.fld R.PWR_BUDGET 15 0
  let lvl := s.fld R.PWR_SUPPLY_STAT 15 13
  let p := if cap ≠ 0 ∧ cap < s.pwr.watts then pal - (s.pwr.watts - cap) else pal
  if 2 ≤ lvl then 0 else p

/-- B_d as the power controller works it out now, in nJ (R380). (DESIGN CHOICE, log entry 11) -/
def State.budgetOf (s : State) (d : Nat) : Nat :=
  let w := ((List.range 4).map (fun i => if s.on (palDomain i) && s.on (hbmDomain i) then s.dieWeight i else 0)).sum
  if w = 0 ∨ !s.on (palDomain d) then 0
  else
    let half := if 1 ≤ s.fld R.PWR_SUPPLY_STAT 15 13 then 2 else 1
    s.powerAvail * 10000 * s.dieWeight d * s.fld (R.PWR_DIE_THERM d) 21 15 / (half * w * 100)

/-- Nanoseconds from an instant of TB2 to the end of its window: the next multiple of 10,000, or the
wrap (R355). -/
def windowLeft (tb2 : Nat) : Nat := min (10000 - tb2 % 10000) (2 ^ 32 - tb2)

/-- Length of the window that holds an instant of TB2. -/
def windowLen (tb2 : Nat) : Nat := min 10000 (2 ^ 32 - (tb2 - tb2 % 10000))

/-- The budget of the present window in PAL.DIE_BUDGET. -/
def State.setBudget (s : State) (d b : Nat) : State := s.wr (R.PAL_DIE_BUDGET d) (BitVec.ofNat 32 b)

/-- A window that starts: min(A_d + B_d, B_d), or B_d for the first one (R234). (DEDUCED, log entry 74) -/
def State.startWindow (s : State) (d : Nat) (first : Bool) : State :=
  let tb2 := s.localBase (18 + d)
  let len := if first then windowLeft tb2 else windowLen tb2
  let b := s.budgetOf d * len / 10000
  let s := (s.updDie d (fun x =>
    { x.addBudget b first with
      budget := b, windowEnd := s.now + windowLeft tb2, canvas := 0, lastCharge := x.charge, charge := 0 })).setBudget d b
  s.shedFiller d

/-- A cause lowers B_d within a window: the account is cut at once (R381). -/
def State.cutBudget (s : State) (d : Nat) : State :=
  let x := s.palDie d
  let b := s.budgetOf d
  if b < x.budget then
    let left : Nat := b * (x.windowEnd - s.now) / 10000
    (s.updDie d (fun x => x.settle x.account (min x.account left))).shedFiller d
  else s.shedFiller d

/-- Every die's budget looked at after a change of the input, of the heat or of a setting. -/
def State.cutBudgets (s : State) : State := forEach (fun d (s : State) => s.cutBudget d) [0, 1, 2, 3] s

end Sys2Proof.Machine
end

