-- ==== Sys2Proof/Machine/Canvas.lean ====
section
/-!
DEFINITION. The commands of Canvas (08_canvas_reduction.md) and of the replication unit's work on a packet
(R149, R183).
-/
namespace Sys2Proof.Machine

/-! ## The context table (R160, R180, R188, R189) -/

/-- CNV_WRITE_SHADOW: CNV.CMD OP 0b001 checks the entry in CNV.DATA_w and writes it into the shadow bank;
an entry with VALID 0 deletes (R160). -/
def execCnvWriteShadow (n : Fin 16384) (s : State) : Host.Outcome State Fault Refusal :=
  ok (s.gate R.CNV_CMD (fun s =>
    let e := s.rdWords (R.CNV_DATA 0) 42
    let st := s.ctxCheck n e
    let e' := if (e.getD 0 0).fld 31 31 = 1 then e else ctxZero
    let s := if st = 0 then { s with canvas := { s.canvas with shadow := Tbl.put (fun _ => ctxZero) s.canvas.shadow n e' } } else s
    s.status R.CNV_STAT st))

/-- CNV_READ_SHADOW: OP 0b010 (R188). -/
def execCnvReadShadow (n : Fin 16384) (s : State) : Host.Outcome State Fault Refusal :=
  ok (s.gate R.CNV_CMD (fun s =>
    (s.wrWords (R.CNV_DATA 0) (Tbl.get (fun _ => ctxZero) s.canvas.shadow n)).status R.CNV_STAT 0))

/-- CNV_READ_ACTIVE: OP 0b011; a slot that holds no context reads zero (R188). -/
def execCnvReadActive (n : Fin 16384) (s : State) : Host.Outcome State Fault Refusal :=
  ok (s.gate R.CNV_CMD (fun s =>
    (s.wrWords (R.CNV_DATA 0) (if (s.ctx n).live then (s.ctx n).entry else ctxZero)).status R.CNV_STAT 0))

/-- STATE of R189. -/
def CtxState.code : CtxState → Nat
  | .free => 0
  | .active => 1
  | .recover => 2
  | .reclaim => 3

/-- The status words of a context (R189). (DEDUCED, log entry 56) -/
def Ctx.statusWords (c : Ctx) : List Word :=
  let opened := (c.segs.filter (fun x => x.2.inWork || x.2.st == .encode)).length
  [(((0 : Word).setFld 31 29 c.st.code).setFld 23 16 (c.round % 256)).setFld 15 14 c.die,
   (0 : Word).setFld 31 8 c.pos, BitVec.ofNat 32 c.partials, BitVec.ofNat 32 c.pruned, BitVec.ofNat 32 c.retries,
   (0 : Word).setFld 10 0 (min 2047 opened)]

/-- CNV_READ_STATUS: OP 0b100 reads a context's status into CNV.DATA_0–5 (R189). -/
def execCnvReadStatus (n : Fin 16384) (s : State) : Host.Outcome State Fault Refusal :=
  ok (s.gate R.CNV_CMD (fun s =>
    (s.wrWords (R.CNV_DATA 0) (s.ctx n).statusWords).status R.CNV_STAT 0))

/-- The force of one segment (R180): in RECOVER it is void; else what has arrived is folded first. -/
def State.forceSeg (s : State) (n k : Nat) : State :=
  let c := s.ctx n
  if c.st = .recover then s.voidSeg n k
  else ((s.setSeg n k { c.seg k with forced := true }).dispatchSeg n k).settleSeg n k

/-- CNV_FORCE: OP 0b101 forces every OPEN and FULL segment of a context; status 4 for a context that is not
ACTIVE or RECOVER (R180). -/
def execCnvForce (n : Fin 16384) (s : State) : Host.Outcome State Fault Refusal :=
  ok (s.gate R.CNV_CMD (fun s =>
    if !(s.ctx n).live then s.status R.CNV_STAT 4
    else (forEach (fun k s => s.forceSeg n k) (((s.ctx n).segs.filter (fun x => x.2.inWork)).map (·.1)) s).status
      R.CNV_STAT 0))

/-- CONTEXT_FREED (R163): RECLAIM ends once no segment is left in ENCODE; the slot is FREE, and
EV_CNV_FREED is raised. -/
def execContextFreed (n : Fin 16384) (s : State) : Host.Outcome State Fault Refusal :=
  let c := s.ctx n
  if c.st = .reclaim ∧ c.segs.isEmpty then
    ok ((s.setCtx n Ctx.init).raise
      { code := 0x0301, sev := 0, kind := 0x08, index := n, arg0 := c.job, arg1 := c.abandoned })
  else ok s

/-! ## Contributions (R168, R176 to R178) -/

/-- A contribution that waits because its Canvas island is isolated (R187): islands 38 to 41 serve CTX[1:0]. -/
def State.islandWaits (s : State) (it : Item) : Bool :=
  it.pkt.ty == tyRED_CONTRIB && s.islandHeld (38 + it.pkt.fld 5 31 18 % 4)

/-- The contribution at the head of Canvas's input taken, unless it is held back (R168, R177, R187). -/
def State.takeContrib (s : State) : State :=
  let held := (s.unitQueue 4).takeWhile s.islandWaits
  match (s.unitQueue 4).dropWhile s.islandWaits with
  | [] => s
  | it :: l =>
    if it.pkt.ty ≠ tyRED_CONTRIB ∨ !s.works 8 then s
    else match s.ingest it with
      | some s' => s'.unitTake 4 it (held ++ l)
      | none => s

/-- CONTRIB_RECEIVE (R168): a RED_CONTRIB reaches Canvas and is tested, then staged or discarded. PL17 holds back one for
which there is no space (R177). -/
def execContribReceive (s : State) : Host.Outcome State Fault Refusal := ok s.takeContrib

/-- CANVAS_INGEST_RETRY (R177): when nothing is on its way to Canvas, the head that PL17 has held back leaves for it; a
contribution at Canvas is taken. -/
def execCanvasIngestRetry (s : State) : Host.Outcome State Fault Refusal :=
  ok (if (s.unitQueue 4).isEmpty then s.schedule 1092 else s).takeContrib

/-- Scratch bytes that accumulators take on a die (R278). -/
def State.accBytes (s : State) (d : Nat) : Nat :=
  (s.canvas.ctxs.map (fun kc => 4 * kc.2.elems *
    (kc.2.segs.filter (fun x => x.2.area && x.2.die == d && (x.2.inWork || x.2.st == .encode))).length)).sum

/-- Scratch bytes of the list that an engine runs. -/
def State.listScratch (s : State) (e : Nat) : Nat :=
  match (s.engine e).run with
  | some r => r.list.scratchKib * 1024
  | none => 0

/-- Scratch SRAM of an engine: 32 MiB. -/
def scratchBytes : Nat := 2 ^ 25

/-- SEGMENT_AREA_GRANT (R176, R278): Easel grants a segment's accumulator and checkpoint area when it fits
in the scratch, and its staged contributions may be sent. -/
def execSegmentAreaGrant (n : Fin 16384) (next : Bool) (seg : Fin 16777216) (s : State) :
    Host.Outcome State Fault Refusal :=
  let k := segKey next seg
  let c := s.ctx n
  let g := c.seg k
  match s.foldEngine g.die with
  | none => ok s
  | some e =>
    if g.inWork ∧ !g.area ∧ s.accBytes g.die + 4 * c.elems + s.listScratch e ≤ scratchBytes then
      ok ((s.setSeg n k { g with area := true }).dispatchSeg n k)
    else ok s

/-- BATCH_WAIT_EXPIRY (R176): the oldest waiting contribution reaches BATCH_WAIT_NS, and its batch is sent. -/
def execBatchWaitExpiry (n : Fin 16384) (next : Bool) (seg : Fin 16777216) (s : State) :
    Host.Outcome State Fault Refusal :=
  let k := segKey next seg
  match ((s.ctx n).seg k).waiting with
  | [] => ok s
  | x :: _ => ok ((s.reach (x.at_ + s.batchWait)).dispatchSeg n k)

/-- The first batch not yet admitted, admitted. -/
def admitFirst : List Batch → List Batch
  | [] => []
  | b :: bs => if b.admitted then b :: admitFirst bs else { b with admitted := true } :: bs

/-- A batch within CNV.PAL_SHARE of B_d (R235). -/
def State.withinShareOf (s : State) (d est : Nat) : Bool :=
  let x := s.palDie d
  x.budget != 0 && decide ((x.canvas + est) * 100 ≤ min 100 (s.fld R.CNV_PAL_SHARE 6 0) * (16 * x.budget))

/-- CANVAS_BATCH_ADMIT (R178, R235): the scheduler admits the segment's oldest batch that waits: within the
share at once, beyond it as a candidate of R236; its estimate is charged. -/
def execCanvasBatchAdmit (n : Fin 16384) (next : Bool) (seg : Fin 16777216) (s : State) :
    Host.Outcome State Fault Refusal :=
  let k := segKey next seg
  let c := s.ctx n
  let g := c.seg k
  match g.batches.find? (fun b => !b.admitted) with
  | none => ok s
  | some b =>
    let est := s.estimate c g b.items.length
    let cand : Cand := ⟨3, b.since, 16, 2 * g.die, est⟩
    let lists := s.listCands (2 * g.die) ++ s.listCands (2 * g.die + 1)
    let rivals := s.batchCands g.die ++ lists
    if c.st = .active ∧ s.dieAvail g.die ∧ (s.withinShareOf g.die est || s.admits g.die rivals rivals cand) then
      let s := s.setSeg n k { g with batches := admitFirst g.batches }
      ok ((s.updDie g.die (fun x => x.spendBatch est)).shedFiller g.die)
    else ok s

/-- BATCH_FOLDED (R172, R176): the oldest batch, admitted, is folded in order and its checkpoint written;
its staging is freed, and the segment goes on to ENCODE when nothing more is to be folded. -/
def execBatchFolded (n : Fin 16384) (next : Bool) (seg : Fin 16777216) (s : State) :
    Host.Outcome State Fault Refusal :=
  let k := segKey next seg
  let c := s.ctx n
  let g := c.seg k
  match g.batches with
  | [] => ok s
  | b :: bs =>
    if !b.admitted ∨ c.st ≠ .active ∨ !s.dieAvail g.die then ok s
    else
      let s := s.freeContribs b.items
      let s := (s.bump C.CNV_FOLDED b.items.length).noteTerms n (fun t => { t with folded := t.folded + b.items.length })
      ok ((s.setSeg n k { (b.items.foldl (Segment.fold c) g) with batches := bs }).settleSeg n k)

/-- SEGMENT_TIMEOUT (R175, R179): the timer of an OPEN segment expires; what has arrived is sent and folded,
and the segment ends partial. -/
def execSegmentTimeout (n : Fin 16384) (next : Bool) (seg : Fin 16777216) (s : State) :
    Host.Outcome State Fault Refusal :=
  let k := segKey next seg
  match ((s.ctx n).seg k).deadline with
  | none => ok s
  | some t =>
    if ((s.ctx n).seg k).st ≠ .open_ then ok s
    else
      let s := s.reach t
      ok (((s.setSeg n k { (s.ctx n).seg k with ended := true, deadline := none }).dispatchSeg n k).settleSeg n k)

/-- A segment that finished in RECLAIM leaves its slot (R163). -/
def State.endSeg (s : State) (n k : Nat) : State :=
  (s.segDone n k (((s.ctx n).seg k).status == 1)).setSeg n k Segment.idle

/-- SEGMENT_ENCODE_DONE (R175, R183, R184): the encoded payload returns. A root issues the result, unless it
ends a boundary of a round that is not yet current; a child sends its partial to the root and waits. In RECLAIM a root
issues the result with PHASE 0 and no marks. (DESIGN CHOICE, log entry 174) -/
def execSegmentEncodeDone (n : Fin 16384) (next : Bool) (seg : Fin 16777216) (s : State) :
    Host.Outcome State Fault Refusal :=
  let k := segKey next seg
  let c := s.ctx n
  let g := c.seg k
  if g.st ≠ .encode ∨ g.encoded ∨ g.sent then ok s
  else if c.child then
    let s := s.sendPartial n k g.status
    if c.st = .reclaim then ok (s.endSeg n k)
    else ok (s.setSeg n k { g with sent := true, rootBy := if g.timeoutNs = 0 then none else some (s.now + g.timeoutNs) })
  else if c.st = .reclaim then ok ((s.sendResult n k g.status false).endSeg n k)
  else if next ∧ (c.boundary k).isSome then ok (s.setSeg n k { g with encoded := true })
  else ok ((s.issueRoot n k).advance n 8)

/-- CHILD_RESULT_TIMEOUT (R183): a child has waited TIMEOUT_US for the root's result; it issues retry and
opens the segment again. -/
def execChildResultTimeout (n : Fin 16384) (next : Bool) (seg : Fin 16777216) (s : State) :
    Host.Outcome State Fault Refusal :=
  let k := segKey next seg
  let g := (s.ctx n).seg k
  match g.rootBy with
  | none => ok s
  | some t => ok ((s.reach t).childRetry n k)

/-- RECOVER_COPY_DONE (R185): the last checkpoint reaches the die that Easel grants, and the context is
ACTIVE there. -/
def execRecoverCopyDone (n : Fin 16384) (s : State) : Host.Outcome State Fault Refusal :=
  let c := s.ctx n
  if c.st ≠ .recover then ok s
  else match s.grantDie c with
    | none => ok s
    | some d => ok (s.leaveRecover n (some d))

/-! ## Phase marks received (R184, R300) -/

/-- AT of a mark in ns of TB0: its seconds are the low 32 bits (R166). -/
def State.markAt (s : State) (p : Packet) : Nat :=
  (s.tb0Sec / 2 ^ 32 * 2 ^ 32 + p.fld 6 31 0) * 1000000000 + p.fld 7 29 0

/-- PHASE_MARK_RECEIVE (R184, R300): the PHASE_MARK at the head of Canvas's input goes to PL16 when it came
on a BP port or its context is held here; a phase count at or before the last applied is ignored, and
one after its AT counts as late. -/
def execPhaseMarkReceive (s : State) : Host.Outcome State Fault Refusal :=
  let held := (s.unitQueue 4).takeWhile s.islandWaits
  match (s.unitQueue 4).dropWhile s.islandWaits with
  | [] => ok s
  | it :: l =>
    let p := it.pkt
    if p.ty ≠ tyPHASE_MARK ∨ !s.works 8 then ok s
    else
      let s := s.unitTake 4 it (held ++ l)
      let n := p.fld 5 31 18
      let c := s.ctx n
      let mine : Bool := c.live && c.job == p.job
      let old : Bool := mine && (match c.lastPhase with | some x => !precedes 24 x p.seq | none => false)
      if old then ok s
      else if !mine && !decide (1024 ≤ it.port ∧ it.port < 1088) then ok s
      else
        let at_ := s.markAt p
        let s := if mine then s.setCtx n { c with lastPhase := some p.seq } else s
        let s := if at_ < s.tb0 then s.bump C.CNV_PHASE_LATE 1 else s
        ok (s.takeMark (p.fld 5 9 2) at_)

/-! ## The replication unit (R148 to R154, R180, R183) -/

/-- Replicas pruned of a result count with its context here: a root's own result, or the root's result that a child
replicates (R180). -/
def State.notePruned (s : State) (it : Item) (k : Nat) : State :=
  let p := it.pkt
  let n := p.fld 5 31 18
  let c := s.ctx n
  let mine : Bool := c.st != .free && c.job == p.job && (it.own || (c.child && decide (1024 ≤ it.port ∧ it.port < 1088)))
  if p.ty ≠ tyRED_RESULT ∨ k = 0 ∨ !(it.own || mine) then s
  else
    let s := if mine then s.setCtx n { c with pruned := min (c.pruned + k) (2 ^ 32 - 1) } else s
    s.bump C.CNV_PRUNED_RESULTS k

/-- MCAST_REPLICATE (R149, R183): the replication unit takes the oldest packet of its input, and Canvas
observes the header of a result for a child context. -/
def execMcastReplicate (s : State) : Host.Outcome State Fault Refusal :=
  match s.dp.mcIn with
  | [] => ok s
  | x :: l =>
    if !s.works 8 ∨ s.islandHeld 37 then ok s
    else
      let r := ({ s with dp := { s.dp with mcIn := l } } : State).replicate x.item x.entry
      ok ((r.1.notePruned x.item r.2).observe x.item)

end Sys2Proof.Machine
end

