-- ==== Sys2Proof/Machine/PalLists.lean ====
section
/-!
DEFINITION. Client rings and lists (10_palette_command_lists.md): doorbell lines, completion records,
placement in hardware queues, candidates, failure, suspension and resume.
-/
namespace Sys2Proof.Machine

/-! ## Entries (R217) -/

def PRing.f (r : PRing) (i hi lo : Nat) : Nat := (r.entry.getD i 0).fld hi lo
def PRing.pinned (r : PRing) : Bool := r.f 0 30 30 == 1
def PRing.job (r : PRing) : Nat := r.f 0 15 0
def PRing.log2 (r : PRing) : Nat := r.f 1 29 25
def PRing.cqLog2 (r : PRing) : Nat := r.f 1 24 20
def PRing.jrnl (r : PRing) : Nat := r.f 10 15 0
/-- The key of a command's slot, by its index. -/
def PRing.slotKey (r : PRing) (idx : Nat) : Nat := memKey r.home (r.off 2 + idx % 2 ^ r.log2 * 32)
/-- Commands posted (R219). -/
def PRing.posted (r : PRing) : Nat := (r.pi + 2 ^ 32 - r.ci % 2 ^ 32) % 2 ^ 32
/-- A completion record is free (R239). -/
def PRing.recordFree (r : PRing) : Bool := (r.cqPi + 2 ^ 32 - r.cqCi % 2 ^ 32) % 2 ^ 32 + r.reserved < 2 ^ r.cqLog2

/-- The words of a structure in switch memory, as the module reads it. -/
def State.memWords (s : State) (key n : Nat) : List Word := wordsOfBytesLE (s.readBytes key (4 * n))
/-- A word of a doorbell line. -/
def State.dbWord (s : State) (r : PRing) (at_ : Nat) : Nat := natOfBytesLE (s.readBytes (r.dbKey + at_) 4)
/-- The module's own write of a doorbell word, which no watch sees (R218). -/
def State.setDbWord (s : State) (r : PRing) (at_ v : Nat) : State := s.writeBytes (r.dbKey + at_) (bytesLEOfNat 4 v)

def PRing.updated (s : State) (ring : Nat) (f : PRing → PRing) : State := s.setPalRing ring (f (s.palRing ring))

/-! ## Completion records (R238, R239) -/

/-- A record and the indexes written: the record, CQ_PI, then CI. With the ring's die unreachable nothing
is written (R242). -/
def State.writeRecord (s : State) (ring : Nat) (ws : List Word) : State :=
  let r := s.palRing ring
  let w0 := (ws.getD 0 0).setFld 0 0 (phaseOf r.cqLog2 r.cqPi)
  let s := s.setPalRing ring { r with cqPi := (r.cqPi + 1) % 2 ^ 32 }
  if s.dieUp r.home then
    let s := s.writeBytes (memKey r.home (r.off 6 + r.cqPi % 2 ^ r.cqLog2 * 32)) (recordBytes (w0 :: ws.drop 1))
    s.setDbWord r 20 (r.cqPi + 1)
  else s

/-- CI advanced and written. -/
def State.advanceCi (s : State) (ring ci : Nat) : State :=
  let r := s.palRing ring
  let s := s.setPalRing ring { r with ci := ci % 2 ^ 32 }
  if s.dieUp r.home then s.setDbWord r 8 ci else s

/-- The words of a record (R238). -/
def recordWords (tag status : Nat) (user : Word) (idx energy start end_ engine resumes : Nat) : List Word :=
  [((0 : Word).setFld 31 16 tag).setFld 15 8 status, user, BitVec.ofNat 32 idx, BitVec.ofNat 32 energy,
   BitVec.ofNat 32 start, BitVec.ofNat 32 end_, ((0 : Word).setFld 31 24 engine).setFld 23 16 (min 255 resumes), 0]

/-- A list of a ring failed: the record, CI, ERR_COUNT, ERROR, the event (R239). `ws`: its record. -/
def State.ringFails (s : State) (ring engine status idx ci : Nat) (ws : List Word) : State :=
  let s := s.writeRecord ring ws
  let s := s.advanceCi ring ci
  let r := s.palRing ring
  let n := (r.errCount + 1) % 2 ^ 32
  let s := s.setPalRing ring { r with errCount := n, st := .error }
  let s := if s.dieUp r.home then s.setDbWord r 12 n else s
  let s := s.bump (C.PAL_LISTS_FAILED engine) 1
  s.raise { code := 0x0403, sev := 2, kind := 7, index := ring, arg0 := idx, arg1 := status }

/-- A list rejected before it was queued: no energy; LIST_TAG is zero under R219 and R221, and BEGIN's where SCRATCH_KIB
is too large (R224, R238). (DEDUCED, log entry 75) -/
def State.rejectList (s : State) (ring tag status idx ci : Nat) : State :=
  let r := s.palRing ring
  let t := s.localBase (18 + r.engine / 2)
  s.ringFails ring r.engine status idx ci (recordWords tag status 0 idx 0 t t r.engine 0)

/-! ## Queues -/

def Engine.queue (x : Engine) (q : Nat) : List PList := Tbl.get (fun _ => []) x.queues q
def Engine.setQueue (x : Engine) (q : Nat) (l : List PList) : Engine :=
  { x with queues := Tbl.put (fun _ => []) x.queues q l }
def Engine.queued (x : Engine) : Nat := (x.queues.map (fun kq => kq.2.length)).sum

/-- An engine that Easel may bind a ring to (R278). -/
def State.bindable (s : State) (e : Nat) : Bool :=
  s.on (palDomain (e / 2)) && (match (s.engine e).st with | .off | .parked | .faulted | .offline => false | _ => true)

/-- The engine that Easel names for an unpinned ring (R278, R237). (DEDUCED, log entry 76) -/
def State.easelEngine (s : State) (home : Nat) : Option Nat :=
  let least (l : List Nat) : Option Nat := mostOf (fun e => 2 ^ 32 - (s.engine e).queued) (l.filter s.bindable)
  match least [2 * home, 2 * home + 1] with
  | some e => some e
  | none => least ((List.range 8).filter (fun e => e / 2 != home))

/-! ## Placement (R220, R221) -/

/-- What the ring's posted commands come to. -/
inductive Posted where
  | nothing
  /-- not posted completely -/
  | part
  /-- to be rejected: LIST_TAG, status, CMD_IDX, CI after -/
  | bad (tag status idx ci : Nat)
  | list (l : PList)
deriving DecidableEq, Repr

/-- The opcodes of R222. -/
def opBEGIN : Nat := 0x01
def opEND : Nat := 0x02

/-- The ring's next list, as its slots spell it (R219, R221). -/
def State.nextList (s : State) (ring : Nat) : Posted :=
  let r := s.palRing ring
  let n := r.posted
  if 2 ^ r.log2 < n then .bad 0 stRING_OVERFLOW r.ci r.ci
  else if n = 0 then .nothing
  else
    let b := s.memWords (r.slotKey r.ci) 8
    let w0 := b.getD 0 0
    let ncmd := w0.fld 15 0
    if w0.fld 31 24 ≠ opBEGIN ∨ ncmd < 2 ∨ 16384 < ncmd ∨ 2 ^ r.log2 < ncmd then .bad 0 stCMD_FORMAT r.ci (r.ci + 1)
    else if n < ncmd then .part
    else
      let last := (r.ci + ncmd - 1) % 2 ^ 32
      let e := s.memWords (r.slotKey last) 8
      if (e.getD 0 0).fld 31 24 ≠ opEND then .bad 0 stCMD_FORMAT last (r.ci + ncmd)
      else if 32768 < (b.getD 3 0).fld 15 0 then .bad ((b.getD 1 0).fld 31 16) stCMD_FORMAT r.ci (r.ci + ncmd)
      else .list ⟨ring, r.ci, ncmd, (b.getD 1 0).fld 31 16, (b.getD 2 0).toNat, (b.getD 3 0).fld 15 0, none⟩

/-- The list of a ring that a queue of its engine holds. -/
def State.queuedList (s : State) (ring : Nat) : Bool :=
  let r := s.palRing ring
  ((s.engine r.engine).queue r.queue).any (fun l => l.ring == ring)

/-- The list of a ring that its engine runs, or that waits there suspended. -/
def State.runList (s : State) (ring : Nat) : Option Running :=
  let x := s.engine (s.palRing ring).engine
  (x.run.toList ++ x.resumeQ).find? (fun y => y.list.ring == ring)

/-- Whether the scheduler works for a ring: its engine's Palette domain is on, its home reachable. -/
def State.ringServed (s : State) (ring : Nat) : Bool :=
  let r := s.palRing ring
  s.on (palDomain (r.engine / 2)) && s.dieUp r.home

/-- The ring's next list placed in its queue, or rejected, or waiting for room or for a free record. -/
def State.placeNext (s : State) (ring : Nat) : State :=
  let r := s.palRing ring
  if !s.ringServed ring then s
  else match r.st with
    | .idle | .waiting =>
      if s.queuedList ring || (s.runList ring).isSome then s
      else match s.nextList ring with
        | .nothing => s.setPalRing ring { r with st := .idle }
        | .part => s.setPalRing ring { r with st := .idle }
        | .bad tag st idx ci => if r.recordFree then s.rejectList ring tag st idx ci else s
        | .list l =>
          let x := s.engine r.engine
          let q := x.queue r.queue
          let s := s.setPalRing ring { r with st := .waiting }
          if 256 ≤ q.length then s else s.setEngine r.engine (x.setQueue r.queue (q ++ [l]))
    | _ => s

/-- Rings that wait for room in a queue take it, the lowest number first. -/
def State.fillQueue (s : State) (e q : Nat) : State :=
  forEach (fun k (s : State) =>
    let r := s.palRing k
    if r.st = .waiting ∧ r.engine = e ∧ r.queue = q then s.placeNext k else s) (Tbl.keys s.pal.rings) s

/-! ## Candidates (R236, R278) -/

/-- Scratch bytes that accumulators of Canvas take on an engine. -/
def State.canvasScratch (s : State) (e : Nat) : Nat :=
  if s.foldEngine (e / 2) = some e then
    (s.canvas.ctxs.map (fun kc => 4 * kc.2.elems *
      (kc.2.segs.filter (fun x => x.2.area && x.2.die == e / 2 && (x.2.inWork || x.2.st == .encode))).length)).sum
  else 0

/-- Scratch bytes that the list which an engine runs holds. -/
def Engine.runScratch (x : Engine) : Nat := match x.run with | some r => r.list.scratchKib * 1024 | none => 0

/-- Whether a head is a candidate (rule 1 of R236): its ring has a free record, and its scratch fits beside the regions
of Canvas and of the list that runs (R278). -/
def State.isCand (s : State) (e : Nat) (l : PList) : Bool :=
  (s.palRing l.ring).recordFree
    && decide (l.scratchKib * 1024 + s.canvasScratch e + (s.engine e).runScratch ≤ 2 ^ 25)

/-- Since when a head has been a candidate. -/
def PList.refresh (l : PList) (is : Bool) (now : Nat) : PList :=
  { l with cand := if is then (match l.cand with | some t => some t | none => some now) else none }

/-- The heads of an engine's queues looked at: candidates from now on. -/
def State.refreshCands (s : State) (e : Nat) : State :=
  let x := s.engine e
  s.setEngine e { x with queues := x.queues.map (fun kq =>
    match kq.2 with
    | [] => kq
    | l :: ls => (kq.1, l.refresh (s.isCand e l) s.now :: ls)) }

/-! ## The end of a list -/

/-- What follows a list that has left its engine: the ring's next list, room for others, candidates, and
the gap. -/
def State.afterList (s : State) (e ring queue : Nat) : State :=
  let s := s.placeNext ring
  let s := s.fillQueue e queue
  let s := s.refreshCands e
  let x := s.engine e
  if x.st ≠ .active then s
  else if x.target ≠ .idle then s.quiesce e
  else s.gap e

/-- The record a list's end writes. -/
def State.listRecord (s : State) (e : Nat) (r : Running) (status idx : Nat) (user : Word) : List Word :=
  recordWords r.list.tag status user idx r.charged r.start (s.localBase (18 + e / 2)) e r.resumes

/-- The reserved record given back. -/
def PRing.unreserve (r : PRing) : PRing := { r with reserved := r.reserved - 1 }

/-- A list that has left an engine fails: its record, ERROR, the event (R239). `rel`: the failing command's
number in the list. -/
def State.failRunning (s : State) (e : Nat) (r : Running) (status rel : Nat) : State :=
  let s := PRing.updated s r.list.ring PRing.unreserve
  let idx := (r.list.first + rel) % 2 ^ 32
  s.ringFails r.list.ring e status idx (r.list.first + r.list.ncmd) (s.listRecord e r status idx 0)

/-- The running list fails at a command (R221, R239). -/
def State.listFail (s : State) (e status rel : Nat) : State :=
  let x := s.engine e
  match x.run with
  | none => s
  | some r =>
    let s := s.accrue e
    let s := s.setEngine e { s.engine e with run := none }
    (s.failRunning e r status rel).afterList e r.list.ring r.queue

/-- The running list completes at its END (R232, R238, R239). -/
def State.listDone (s : State) (e : Nat) (post : Bool) (user : Word) : State :=
  let x := s.engine e
  match x.run with
  | none => s
  | some r =>
    let s := s.accrue e
    let s := s.setEngine e { s.engine e with run := none }
    let last := (r.list.first + r.list.ncmd - 1) % 2 ^ 32
    let s := PRing.updated s r.list.ring PRing.unreserve
    let s := if post then s.writeRecord r.list.ring (s.listRecord e r stOK last user) else s
    let s := s.advanceCi r.list.ring (r.list.first + r.list.ncmd)
    let s := PRing.updated s r.list.ring (fun g => { g with st := if g.st = .error then .error else .idle })
    (s.bump (C.PAL_LISTS_DONE e) 1).afterList e r.list.ring r.queue

/-! ## Suspension and resume (R237, R240, R242) -/

/-- An engine held by the isolation of its die, or of an island that it needs (R419). -/
def State.engineHeld (s : State) (e : Nat) : Bool :=
  s.tel.isolated.contains (0x12, e / 2) || s.islandHeld (42 + 3 * (e / 2) + e % 2) || s.islandHeld (44 + 3 * (e / 2))

/-- Whether a list can be resumed: it has a journal, whose die is reachable, and its engine is not isolated (R242). -/
def State.resumable (s : State) (e : Nat) (r : Running) : Bool :=
  let g := s.palRing r.list.ring
  g.jrnl != 0 && s.dieUp g.home && !s.engineHeld e

/-- The engine with a checkpoint restored (R240). -/
def Engine.restore (x : Engine) (c : Saved) : Engine :=
  { x with lanes := c.lanes, scales := c.scales, acc := c.acc, shared := c.shared, sharedScale := c.sharedScale,
           scratch := c.scratch }

/-- A list taken up again from its last complete checkpoint (R240). -/
def Running.resumed (r : Running) (now : Nat) : Running :=
  { r.abandon with pc := r.ckpt.cmd + 1, resumes := r.resumes + 1, lastDone := now }

/-- A list resumes on an engine that has no list, or fails (R240, R242). -/
def State.resumeOn (s : State) (e : Nat) (r : Running) : State :=
  if s.resumable e r then
    let x := s.engine e
    let s := s.setEngine e { (x.scrub.restore r.ckpt) with run := some (r.resumed s.now) }
    let s := PRing.updated s r.list.ring (fun g => { g with st := if g.st = .error then .error else .running })
    (s.bump (C.PAL_LIST_RESUMES e) 1).engineReady e
  else
    let s := s.failRunning e r stENGINE_FAULT r.pc
    let s := s.placeNext r.list.ring
    s.fillQueue e r.queue

/-- A ring's lists leave an engine for queue `q` of an engine: its queued list, and its suspended one (R220, R237). -/
def State.moveRing (s : State) (ring from_ to_ q : Nat) : State :=
  let r := s.palRing ring
  let x := s.engine from_
  let mine := (x.queue r.queue).filter (fun l => l.ring == ring)
  let runs := x.resumeQ.filter (fun y => y.list.ring == ring)
  let s := s.setEngine from_ { (x.setQueue r.queue ((x.queue r.queue).filter (fun l => l.ring != ring))) with
                               resumeQ := x.resumeQ.filter (fun y => y.list.ring != ring) }
  let y := s.engine to_
  let s := s.setEngine to_ { (y.setQueue q (y.queue q ++ mine.map (fun l => { l with cand := none }))) with
                             resumeQ := y.resumeQ ++ runs }
  s.setPalRing ring { r with engine := to_, queue := q }

/-- Rings with lists on an engine that is lost, in the order in which their lists stand. -/
def State.ringsOn (s : State) (e : Nat) : List Nat :=
  let x := s.engine e
  let q := x.resumeQ.map (·.list.ring) ++ x.queues.flatMap (fun kq => kq.2.map (·.ring))
  q ++ (Tbl.keys s.pal.rings).filter (fun k => (s.palRing k).engine == e && (s.palRing k).st != .disabled && !q.contains k)

/-- The rings of an engine that is OFFLINE or off: unpinned ones move to the engine that Easel names, with
their lists; pinned ones that hold a list are STALLED (R220, R237). -/
def State.rehomeRings (s : State) (e : Nat) : State :=
  let away := forEach (fun k (s : State) =>
    let r := s.palRing k
    if r.pinned then
      (match r.st with
       | .running | .waiting => s.setPalRing k { r with st := .stalled }
       | _ => s)
    else match s.easelEngine r.home with
      | some t => (s.moveRing k e t r.queue).refreshCands t
      | none => s) (s.ringsOn e) s
  away

/-- The running list of an engine leaves it and waits in the engine's resume queue, before the lists already there. -/
def State.suspendList (s : State) (e : Nat) : State :=
  let s := s.accrue e
  let x := s.engine e
  s.setEngine e { x with run := none, resumeQ := x.run.toList.map Running.abandon ++ x.resumeQ }

/-- Suspended lists of an engine that cannot be resumed fail (R242). -/
def State.failSuspended (s : State) (e : Nat) : State :=
  let x := s.engine e
  let dead := x.resumeQ.filter (fun r => !s.resumable e r)
  forEach (fun r (s : State) => s.failRunning e r stENGINE_FAULT r.pc) dead
    (s.setEngine e { x with resumeQ := x.resumeQ.filter (fun r => s.resumable e r) })

/-- The running list of an engine that is lost waits in its resume queue, or fails (R237, R242). -/
def State.suspendRun (s : State) (e : Nat) : State := (s.suspendList e).failSuspended e

/-- An engine has become OFFLINE or lost its domain: its list is suspended and its rings go elsewhere. -/
def State.engineLost (s : State) (e : Nat) : State := (s.suspendRun e).rehomeRings e

/-- Engines that are OFFLINE or off and still hold unpinned lists, once another engine can take them. -/
def State.rehomeAll (s : State) : State :=
  forEach (fun e (s : State) =>
    match (s.engine e).st with
    | .off | .offline => s.rehomeRings e
    | _ => s) (List.range 8) s

/-- An engine works again: its stalled rings wait (R220), and lists that found no engine come to it. -/
def State.engineBack (s : State) (e : Nat) : State :=
  let s := forEach (fun k (s : State) =>
    let r := s.palRing k
    if r.st = .stalled ∧ r.engine = e then (s.setPalRing k { r with st := .waiting }).placeNext k else s)
    (Tbl.keys s.pal.rings) s
  (s.rehomeAll).refreshCands e

/-- An offline request has been met: the engine's lists leave it, and its lock is released (R215, R431). -/
def State.afterOffline (s : State) (e : Nat) : State :=
  if (s.engine e).st = .offline then
    let s := s.setEngine e { s.engine e with offlining := false }
    (s.engineLost e).endMaint (.offline e) 2
  else s

/-- A ring's home die is lost: it cannot write its record, and its lists are lost (R242). -/
def State.homeLost (s : State) (d : Nat) : State :=
  forEach (fun k (s : State) =>
    let r := s.palRing k
    if r.st = .disabled ∨ r.home ≠ d then s
    else
      let x := s.engine r.engine
      let mine (y : Running) : Bool := y.list.ring == k
      let run := match x.run with | some y => if mine y then none else some y | none => none
      let s := s.setEngine r.engine { (x.setQueue r.queue ((x.queue r.queue).filter (fun l => l.ring != k))) with
                                      run := run, resumeQ := x.resumeQ.filter (fun y => !mine y) }
      let s := s.setPalRing k { r with st := .error, errCount := (r.errCount + 1) % 2 ^ 32, reserved := 0 }
      let s := s.raise { code := 0x0403, sev := 2, kind := 7, index := k, arg0 := r.ci, arg1 := stENGINE_FAULT }
      if x.run.isSome ∧ run.isNone ∧ x.st = .active then s.gap r.engine else s) (Tbl.keys s.pal.rings) s

end Sys2Proof.Machine
end

