-- ==== Sys2Proof/Machine/PalEngine.lean ====
section
/-!
DEFINITION. The commands of Palette engines (09_palette_engines.md, R206 to R216) and of the die's energy
window (R234).
-/
namespace Sys2Proof.Machine

/-! ## Parks, offline, resume (R207, R215) -/

/-- ENGINE_PARK_REQUEST (R215): PAL.ENG_CTRL.PARK_REQ written to 1. -/
def execEngineParkRequest (e : Fin 8) (s : State) : Host.Outcome State Fault Refusal :=
  ok (s.gate (R.PAL_ENG_CTRL e) (fun s => ((s.setF (R.PAL_ENG_CTRL e) 31 31 1).retarget e).afterOffline e))

/-- ENGINE_UNPARK (R207, R215): PARK_REQ cleared. -/
def execEngineUnpark (e : Fin 8) (s : State) : Host.Outcome State Fault Refusal :=
  ok (s.gate (R.PAL_ENG_CTRL e) (fun s => (s.setF (R.PAL_ENG_CTRL e) 31 31 0).retarget e))

/-- The lock of an offline request is granted (R215, R430). -/
def State.startOffline (e : Nat) (s : State) : State :=
  let s := s.setEngine e { s.engine e with offlining := true }
  if (s.engine e).st = .offline then s.afterOffline e else (s.retarget e).afterOffline e

/-- ENGINE_OFFLINE_REQUEST (R215, R430): OFFLINE_REQ written to 1; the activity waits for its lock. -/
def execEngineOfflineRequest (e : Fin 8) (s : State) : Host.Outcome State Fault Refusal :=
  ok (s.gate (R.PAL_ENG_CTRL e) (fun s =>
    let was := s.fld (R.PAL_ENG_CTRL e) 30 30
    let s := s.setF (R.PAL_ENG_CTRL e) 30 30 1
    if was = 1 ∨ (s.engine e).st = .off then s
    else s.requestMaint (.offline e) (State.startOffline e)))

/-- The lock of a resume is granted: the engine is scrubbed (R207). -/
def State.startResume (e : Nat) (s : State) : State := s.setEngine e { s.engine e with resetting := true }

/-- ENGINE_RESUME (R207): RESUME written while OFFLINE_REQ is 0 and 16 groups are in use; ignored in any
other state. -/
def execEngineResume (e : Fin 8) (s : State) : Host.Outcome State Fault Refusal :=
  ok (s.gate (R.PAL_ENG_CTRL e) (fun s =>
    if (s.engine e).st = .offline ∧ s.fld (R.PAL_ENG_CTRL e) 30 30 = 0 ∧ groupsIn (s.fld (R.PAL_LANE_MAP e) 16 0) = 16
        ∧ !(s.engine e).resetting ∧ !s.engineHeld e then
      s.requestMaint (.resume e) (State.startResume e)
    else s))

/-- An engine enters IDLE after a scrub, or the state it is asked for (R207, R215). -/
def State.enterIdle (s : State) (e : Nat) : State :=
  let s := s.setEngine e { (s.engine e).scrub with resetting := false }
  let s := s.setEngState e .idle
  (s.engineBack e).retarget e

/-- ENGINE_SCRUB_DONE (R207): the scrub after the domain's turn-on, or of a resume, ends: IDLE, or OFFLINE
while OFFLINE_REQ keeps it so. -/
def execEngineScrubDone (e : Fin 8) (s : State) : Host.Outcome State Fault Refusal :=
  let x := s.engine e
  if !x.resetting ∨ !s.on (palDomain (e / 2)) then ok s
  else match x.st with
    | .off =>
      if s.fld (R.PAL_ENG_CTRL e) 30 30 = 1 ∨ groupsIn (s.fld (R.PAL_LANE_MAP e) 16 0) < 16 then
        ok (((s.setEngine e { x.scrub with resetting := false }).setEngState e .offline).afterOffline e)
      else ok ((s.enterIdle e).afterOffline e)
    | .offline =>
      if s.fld (R.PAL_ENG_CTRL e) 30 30 = 1 then
        ok ((s.setEngine e { x with resetting := false }).endMaint (.resume e) 3)
      else ok (((s.enterIdle e).endMaint (.resume e) 2).afterOffline e)
    | _ => ok s

/-! ## Lane groups (R206) -/

/-- A group's retirement or return requested by one bit of a write that changes it. -/
def State.laneBit (s : State) (e g old new : Nat) : State :=
  if old.testBit g == new.testBit g then s
  else s.requestMaint (.lanes e g (new.testBit g)) id

/-- LANE_RETIRE_WRITE (R206): a write of PAL.LANE_RETIRE requests each changed group's retirement or return.
(DEDUCED, log entry 73) -/
def execLaneRetireWrite (e : Fin 8) (mask : Fin 131072) (s : State) : Host.Outcome State Fault Refusal :=
  ok (s.gate (R.PAL_LANE_RETIRE e) (fun s =>
    let old := s.fld (R.PAL_LANE_RETIRE e) 16 0
    let s := s.setF (R.PAL_LANE_RETIRE e) 16 0 mask
    forEach (fun g (s : State) => s.laneBit e g old mask) (List.range 17) s))

/-- The lane activities of an engine that hold its lock. -/
def laneJobs (e : Nat) (l : List (Activity × Bool)) : List (Nat × Bool) :=
  l.filterMap (fun x => match x with
    | (.lanes e' g r, true) => if e' = e then some (g, r) else none
    | _ => none)

/-- With fewer than 16 groups an engine runs no work: it goes OFFLINE (R206). -/
def State.laneShort (s : State) (e : Nat) : State :=
  let x := s.engine e
  if !x.noSpare then s
  else match x.st with
    | .off | .offline | .faulted => s
    | _ => s.startOffline e

/-- LANE_GROUP_SWAP (R206): at the engine's command boundary the groups whose lock is held are retired or
returned. -/
def execLaneGroupSwap (e : Fin 8) (s : State) : Host.Outcome State Fault Refusal :=
  let jobs := laneJobs e s.maint
  if (s.engine e).executing ∨ (s.engine e).resetting ∨ jobs.isEmpty then ok s
  else
    let s := forEach (fun j (s : State) =>
      (if j.2 then s.retireGroup e j.1 else s.returnGroup e j.1).endMaint (.lanes e j.1 j.2) 2) jobs s
    ok (s.laneShort e)

/-! ## Keep, ramp, levels (R208 to R210) -/

/-- KEEP_EXPIRY (R209): the keep window ends with no command ready. -/
def execKeepExpiry (e : Fin 8) (s : State) : Host.Outcome State Fault Refusal :=
  let x := s.engine e
  if x.st = .keep then ok (((s.reach x.keepEnd).startRamp e).afterOffline e) else ok s

/-- An engine after the next of a ramp's 8 steps (R210). -/
def Engine.rampNext (x : Engine) : Engine :=
  let n := x.rampStep + 1
  { x with rampStep := n, level := x.rampD - n * x.rampD / 8, ramping := decide (n < 8) }

/-- RAMP_STEP (R210): one of the 8 steps of D / 8, each 2.5 µs after the one before; at level 0 the ramp
ends. -/
def execRampStep (e : Fin 8) (s : State) : Host.Outcome State Fault Refusal :=
  let x := s.engine e
  if !x.ramping then ok s
  else
    let s := (s.reach (x.rampAt + 2500 * (x.rampStep + 1))).accrue e
    let x := (s.engine e).rampNext
    let s := s.setEngine e x
    if x.rampStep = 8 ∧ x.st = .ramp then ok ((s.enterTarget e).afterOffline e) else ok s

/-- Whether an engine requests a step (R208): it works, below level 64, and its commands want more issue. -/
def Engine.mayRise (x : Engine) : Bool := x.st == .active && x.run.isSome && decide (x.level < 64)

/-- The engine of a die that the governor serves: the one that requests, in turn when both do (R208).
(DESIGN CHOICE, log entry 68) -/
def govPick (last a b : Nat) (wa wb : Bool) : Option Nat :=
  if wa && wb then some (if last = a then b else a) else if wa then some a else if wb then some b else none

/-- GOVERNOR_STEP (R208): the die's governor grants one step of 8 levels, no sooner than STEP_NS after the
last; `even` and `odd` tell which engines want more issue than their level allows. -/
def execGovernorStep (d : Fin 4) (even odd : Bool) (s : State) : Host.Outcome State Fault Refusal :=
  let a := 2 * d.val
  let b := 2 * d.val + 1
  let x := s.palDie d
  match govPick x.grantTo a b (even && (s.engine a).mayRise) (odd && (s.engine b).mayRise) with
  | none => ok s
  | some e =>
    let step := max 400 (s.fld (R.PAL_DIE_GOV d) 15 0)
    let s := s.reach (match x.grantAt with | some t => t + step | none => s.now)
    let s := s.accrue e
    let y := s.engine e
    ok ((s.setEngine e { y with level := min 64 (y.level + 8) }).updDie d
      (fun x => { x with grantAt := some s.now, grantTo := e }))

/-! ## Faults (R212 to R214) -/

/-- Whether an engine can take a fault stop. -/
def Engine.runsAt (x : Engine) : Bool :=
  match x.st with
  | .idle | .active | .keep | .ramp => true
  | _ => false

/-- ENGINE_FAULT (R212, R213): `kind` 0 REG_UE, 1 SHARED_UE, 2 SCRATCH_UE, 3 RESIDUE in `group` stop the
engine; 4 is a single-bit error, corrected and counted, in `group`, or outside the lane groups for 17.
(DEDUCED, log entry 71) -/
def execEngineFault (e : Fin 8) (kind : Fin 5) (group : Fin 18) (s : State) : Host.Outcome State Fault Refusal :=
  if !(s.engine e).runsAt then ok s
  else if kind.val = 4 then
    let s := s.bump (C.PAL_CORRECTED e) 1
    ok (if group.val < 17 then s.partErr 6 (e + 256 * (group + 1)) 1 1 else s)
  else if kind.val = 3 ∧ group.val = 17 then ok s
  else ok (s.faultStop e kind group)

/-- WATCHDOG_EXPIRY (R212): no command has completed for WATCHDOG_US while one executes. (DEDUCED, log entry 72) -/
def execWatchdogExpiry (e : Fin 8) (s : State) : Host.Outcome State Fault Refusal :=
  let x := s.engine e
  let w := s.fld (R.PAL_FAULT_CTRL e) 31 16
  match x.run with
  | none => ok s
  | some r =>
    if w = 0 ∨ x.st ≠ .active ∨ !x.executing then ok s
    else ok ((s.reach (r.lastDone + w * 1000)).faultStop e 4 0)

/-- The engine must go OFFLINE at the end of its reset (R214). -/
def State.mustOffline (s : State) (e : Nat) : Bool :=
  let x := s.engine e
  let lim := s.fld (R.PAL_FAULT_CTRL e) 3 0
  (lim != 0 && decide (lim ≤ (x.recentFaults s.now).length)) || x.noSpare || s.fld (R.PAL_ENG_CTRL e) 30 30 == 1 || x.offlining

/-- The list that a fault abandoned resumes after the reset, or fails (R240, R242); while a park is pending it waits
suspended, and the park completes first (R214). -/
def State.resumeAfterFault (s : State) (e : Nat) : State :=
  let x := s.engine e
  match x.run with
  | none => s
  | some r => if s.engTarget e = .parked then s.suspendRun e else (s.setEngine e { x with run := none }).resumeOn e r

/-- ENGINE_RESET_DONE (R213, R214): the scrub ends, a due group is swapped; the engine goes OFFLINE, parks,
or goes on with its list; unfolded batches are sent again (R185). -/
def execEngineResetDone (e : Fin 8) (s : State) : Host.Outcome State Fault Refusal :=
  let x := s.engine e
  if x.st ≠ .faulted ∨ !x.resetting then ok s
  else
    let s := s.setEngine e { x.scrub with resetting := false, dueGroup := none }
    let s := match x.dueGroup with | some g => s.retireGroup e g | none => s
    let s := s.resendBatches (e / 2)
    if s.mustOffline e then ok ((s.setEngState e .offline).afterOffline e)
    else
      let s := s.setEngState e .idle
      let s := s.resumeAfterFault e
      ok ((s.retarget e).afterOffline e)

/-! ## The energy window (R234, R355) -/

/-- ENERGY_WINDOW_START (R234, R355): a 10 µs window of TB2 starts; B_d is published and A_d refilled. -/
def execEnergyWindowStart (d : Fin 4) (s : State) : Host.Outcome State Fault Refusal :=
  if !s.on (palDomain d) then ok s
  else
    let s := s.reach (s.palDie d).windowEnd
    let s := (s.accrue (2 * d)).accrue (2 * d + 1)
    ok (s.startWindow d false)

end Sys2Proof.Machine
end

