-- ==== Sys2Proof/Machine/PalRings.lean ====
section
/-!
DEFINITION. The commands of client rings and of admission (10_palette_command_lists.md, R217 to R220, R234 to
R239, R244).
-/
namespace Sys2Proof.Machine

/-! ## The ring table (R217, R244) -/

/-- Whether a range of a ring's home lies in its fixed window (R268). -/
def State.inFixed (s : State) (home off len : Nat) : Bool := off + len ≤ s.fixedGib home * 2 ^ 30

/-- A bad entry (R217, R268). -/
def State.badEntry (s : State) (e : List Word) : Bool :=
  let r : PRing := { PRing.init with entry := e }
  r.f 0 22 16 != 0 || r.f 1 19 0 != 0 || r.f 10 31 16 != 0 || (e.getD 11 0) != 0
    || [2, 4, 6, 8].any (fun i => r.f i 31 14 != 0)
    || !decide (6 ≤ r.log2 ∧ r.log2 ≤ 16) || !decide (4 ≤ r.cqLog2 ∧ r.cqLog2 ≤ 16)
    || [2, 6, 8].any (fun i => r.off i % 4096 != 0) || r.off 4 % 64 != 0
    || !s.inFixed r.home (r.off 2) (32 * 2 ^ r.log2) || !s.inFixed r.home (r.off 4) 64
    || !s.inFixed r.home (r.off 6) (32 * 2 ^ r.cqLog2)
    || (r.jrnl != 0 && !s.inFixed r.home (r.off 8) (65536 * r.jrnl))

/-- The entry with ENG_PIN, ENGINE and QUEUE cleared: what a rewrite of a STALLED ring keeps (R220). -/
def unbound (e : List Word) : List Word := e.set 0 (((e.getD 0 0).setFld 30 30 0).setFld 29 23 0)

/-- Whether an engine is OFFLINE or its domain is off. -/
def State.engGone (s : State) (e : Nat) : Bool :=
  (s.engine e).st == .offline || (s.engine e).st == .off

/-- The status of a write of an entry (R220, R244). -/
def State.ringWriteStatus (s : State) (ring : Nat) (e : List Word) : Nat :=
  let r := s.palRing ring
  let n : PRing := { PRing.init with entry := e }
  let busy : Bool := match r.st with
    | .waiting | .running => true
    | .stalled => unbound e != unbound r.entry || (n.pinned && s.engGone (n.f 0 29 27))
    | _ => false
  if busy then 1 else if n.f 0 31 31 = 1 ∧ s.badEntry e then 3 else 0

/-- The engine that an entry binds its ring to (R217, R278). -/
def State.boundEngine (s : State) (e : List Word) : Nat :=
  let n : PRing := { PRing.init with entry := e }
  if n.pinned then n.f 0 29 27 else (s.easelEngine n.home).getD (2 * n.home)

/-- A ring enabled: CI, ERR_COUNT and CQ_PI written zero (R219). -/
def State.enableRing (s : State) (ring : Nat) (e : List Word) : State :=
  let r : PRing := { PRing.init with st := .idle, entry := e, engine := s.boundEngine e,
                                     queue := (e.getD 0 0).fld 26 23 }
  let s := s.setPalRing ring r
  if s.dieUp r.home then ((s.setDbWord r 8 0).setDbWord r 12 0).setDbWord r 20 0 else s

/-- A STALLED ring rewritten goes to its new engine and queue, with its queued or suspended list (R220).
(DEDUCED, log entry 77) -/
def State.rebind (s : State) (ring : Nat) (e : List Word) : State :=
  let t := s.boundEngine e
  let s := s.moveRing ring (s.palRing ring).engine t ((e.getD 0 0).fld 26 23)
  let s := s.setPalRing ring { s.palRing ring with entry := e, st := .waiting }
  (s.placeNext ring).refreshCands t

/-- An entry written; a disabled ring keeps the words of its entry (R244). -/
def State.writeRing (s : State) (ring : Nat) (e : List Word) : State :=
  let r := s.palRing ring
  if (e.getD 0 0).fld 31 31 = 0 then s.setPalRing ring { PRing.init with entry := e }
  else match r.st with
    | .disabled => s.enableRing ring e
    | .stalled => s.rebind ring e
    | _ => s.setPalRing ring { r with entry := e, engine := s.boundEngine e, queue := (e.getD 0 0).fld 26 23 }

/-- RING_WRITE (R244): PAL.RING_CMD OP 0b01 checks the entry in PAL.RING_DATA_w and enables, disables or
rebinds the ring. -/
def execRingWrite (ring : Fin 4096) (s : State) : Host.Outcome State Fault Refusal :=
  ok (s.gate R.PAL_RING_CMD (fun s =>
    let e := s.rdWords (R.PAL_RING_DATA 0) 12
    let st := s.ringWriteStatus ring e
    let s := if st = 0 then s.writeRing ring e else s
    s.setF R.PAL_RING_STAT 3 0 st))

/-- RING_READ (R244): OP 0b10 reads an entry into PAL.RING_DATA_w. -/
def execRingRead (ring : Fin 4096) (s : State) : Host.Outcome State Fault Refusal :=
  ok (s.gate R.PAL_RING_CMD (fun s =>
    (s.wrWords (R.PAL_RING_DATA 0) (s.palRing ring).entry).setF R.PAL_RING_STAT 3 0 0))

/-- STATE of a status read. -/
def PRingState.code : PRingState → Nat
  | .disabled => 0
  | .idle => 1
  | .waiting => 2
  | .running => 3
  | .stalled => 4
  | .error => 5

/-- The words of a status read (R244). -/
def PRing.statusWords (r : PRing) : List Word :=
  [(((0 : Word).setFld 31 29 r.st.code).setFld 26 24 r.engine).setFld 23 20 r.queue,
   BitVec.ofNat 32 r.pi, BitVec.ofNat 32 r.ci, BitVec.ofNat 32 r.errCount]

/-- RING_STATUS_READ (R244): OP 0b11 reads a ring's status into PAL.RING_DATA_0–3. -/
def execRingStatusRead (ring : Fin 4096) (s : State) : Host.Outcome State Fault Refusal :=
  ok (s.gate R.PAL_RING_CMD (fun s =>
    (s.wrWords (R.PAL_RING_DATA 0) (s.palRing ring).statusWords).setF R.PAL_RING_STAT 3 0 0))

/-! ## Doorbells (R218 to R221) -/

/-- The ring's queued list taken out of its queue. -/
def State.unqueue (s : State) (ring : Nat) : State :=
  let r := s.palRing ring
  let x := s.engine r.engine
  s.setEngine r.engine (x.setQueue r.queue ((x.queue r.queue).filter (fun l => l.ring != ring)))

/-- More commands posted than the ring holds (R219): ERROR at once, also while a list is queued or runs; a list still
queued leaves its queue, one that runs goes on. With no free record the doorbell is read again. -/
def State.ringOverflow (s : State) (ring : Nat) : State :=
  let r := s.palRing ring
  if r.recordFree then (s.unqueue ring).rejectList ring 0 stRING_OVERFLOW r.ci r.ci
  else s.setPalRing ring { r with pending := true }

/-- The doorbell line as the scheduler has read it: an ERROR that the client acknowledges ends; a list of the ring that still
runs has it RUNNING. -/
def State.readDoorbell (s : State) (ring : Nat) : State :=
  let r := s.palRing ring
  let st := if r.st = .error ∧ s.dbWord r 4 = r.errCount then (if (s.runList ring).isSome then .running else .idle) else r.st
  s.setPalRing ring { r with pending := false, pi := s.dbWord r 0, cqCi := s.dbWord r 16, st := st }

/-- DOORBELL_READ (R218): the scheduler clears the pending bit, reads the line, and places the ring's next
list. While the ring's queue is full it reads no doorbell. -/
def execDoorbellRead (ring : Fin 4096) (s : State) : Host.Outcome State Fault Refusal :=
  let r := s.palRing ring
  if r.st = .disabled ∨ !r.pending ∨ !s.ringServed ring ∨ 256 ≤ ((s.engine r.engine).queue r.queue).length then ok s
  else
    let s := s.readDoorbell ring
    let r := s.palRing ring
    let s := if r.st ≠ .error ∧ 2 ^ r.log2 < r.posted then s.ringOverflow ring else s.placeNext ring
    ok (s.refreshCands (s.palRing ring).engine)

/-! ## Admission (R234 to R236, R239) -/

/-- A queue without its head. -/
def Engine.popQueue (x : Engine) (q : Nat) : Engine := x.setQueue q ((x.queue q).drop 1)

/-- The checkpoint that BEGIN stands for: no state (R240). -/
def Saved.none_ : Saved :=
  { cmd := 0, lanes := [], scales := [], acc := [], shared := [], sharedScale := [], scratch := [] }

/-- A head admitted: its energy charged, which may shed the die's filler, a record reserved, RUNNING, the engine ACTIVE
(R211, R234, R239). -/
def State.admitList (s : State) (e : Nat) (c : Cand) : State :=
  let x := s.engine e
  match x.queue c.queue with
  | [] => s
  | l :: _ =>
    let nj := s.listEnergy e l
    let t := s.localBase (18 + e / 2)
    let r : Running := { list := l, charged := nj, queue := c.queue, pc := 0, start := t, resumes := 0,
                         fence := none, moves := [], ckpt := Saved.none_, records := [], issued := [], half := 1,
                         dests := [], notes := [],
                         lastDone := s.now }
    let s := s.accrue e
    let x := s.engine e
    let s := s.setEngine e { (x.popQueue c.queue) with run := some r }
    let s := s.updDie (e / 2) (fun d => d.spend nj)
    let s := s.bump (C.PAL_ENERGY_CHARGED e) nj
    let s := PRing.updated s l.ring (fun g => { g with st := .running, reserved := g.reserved + 1 })
    (((s.engineReady e).shedFiller (e / 2)).fillQueue e c.queue).refreshCands e

/-- LIST_ADMIT (R236, R237): an engine with no list takes up a suspended list that waits for it, or admits
the first candidate in rank that the die's account affords. -/
def execListAdmit (e : Fin 8) (s : State) : Host.Outcome State Fault Refusal :=
  let d := e.val / 2
  let x := s.engine e
  if x.run.isSome ∨ !s.engineAvail e then ok s
  else match x.resumeQ with
    | r :: rest => ok ((s.setEngine e { x with resumeQ := rest }).resumeOn e r)
    | [] =>
      let s := s.refreshCands e
      let mine := s.listCands e
      let batches := s.batchCands d
      let all := s.listCands (2 * d) ++ s.listCands (2 * d + 1) ++ batches
      match mine.find? (fun c => s.admits d all (mine ++ batches) c) with
      | none => ok s
      | some c => ok (s.admitList e c)

end Sys2Proof.Machine
end

