-- ==== Sys2Proof/Machine/PalMove.lean ====
section
/-!
DEFINITION. What the commands of a list share (R221, R222, R231), and MOVE: its sides, its placement of data
(R194, R225, R226), and the memory it reads and writes (R274).
-/
namespace Sys2Proof.Machine

/-! ## Issue (R221, R231, R240) -/

/-- The command's number has its effect in the journal. -/
def Running.recorded (r : Running) : Bool := r.records.contains r.pc

/-- A word of a command. -/
def cw (w : List Word) (i : Nat) : Word := w.getD i 0

/-- The running list's next command, when the engine may start one: it is ACTIVE with no park, offline or
fault pending, and no fence waits (R207, R215, R232). -/
def State.fetchCmd (s : State) (e : Nat) : Option (Running × List Word) :=
  let x := s.engine e
  match x.run with
  | none => none
  | some r =>
    let g := s.palRing r.list.ring
    if x.st = .active ∧ x.target = .idle ∧ r.fence = none ∧ s.dieUp g.home then
      some (r, s.memWords (g.slotKey (r.list.first + r.pc)) 8)
    else none

/-- The running list changed. -/
def State.updRun (s : State) (e : Nat) (f : Running → Running) : State :=
  let x := s.engine e
  s.setEngine e { x with run := x.run.map f }

/-- The command is done with issue: the next one follows. -/
def Running.next (r : Running) (now : Nat) : Running := { r with pc := r.pc + 1, lastDone := now }
def State.nextCmd (s : State) (e : Nat) : State := s.updRun e (fun r => r.next s.now)

/-- The command-format failure of the present command. (DEDUCED, log entry 80) -/
def State.badCmd (s : State) (e : Nat) (r : Running) : State := s.listFail e stCMD_FORMAT r.pc

/-- Bits that a command's table does not name are zero (R221). -/
def reservedOk (masks : List Nat) (w : List Word) : Bool :=
  (List.range 8).all (fun i => (cw w i).toNat &&& (0xFFFFFFFF - masks.getD i 0) == 0)

/-- BEGIN and END stand at the ends of a list, and nowhere else (R221). -/
def Running.placed (r : Running) (op : Nat) : Bool :=
  (op == opBEGIN) == (r.pc == 0) && (op == opEND) == (r.pc + 1 == r.list.ncmd)

/-- One command issued, if the next command of the engine's list has the opcode; a command that the
journal holds is skipped (R240). `eff` gets its words. (DESIGN CHOICE, log entry 65) -/
def State.issueCmd (s : State) (e op : Nat) (masks : List Word → List Nat)
    (eff : Running → List Word → State → State) : State :=
  match s.fetchCmd e with
  | none => s
  | some (r, w) =>
    if (cw w 0).fld 31 24 ≠ op then s
    else if r.recorded then s.nextCmd e
    else if !r.placed op ∨ !reservedOk (masks w) w then (s.badCmd e r).afterOffline e
    else ((eff r w s).quiesce e).afterOffline e

/-! ## Storage footprints (R231) -/

/-- A piece of storage: space (0 lane slots, 1 scale registers, 2 accumulators, 3 shared vectors, 4 scratch
bytes, 5 memory bytes), from, to (exclusive). -/
structure Extent where
  space : Nat
  lo : Nat
  hi : Nat
deriving DecidableEq, Repr

/-- What a command reads and writes. -/
structure Foot where
  reads : List Extent
  writes : List Extent
deriving DecidableEq, Repr

def Extent.meets (a b : Extent) : Bool := a.space == b.space && a.lo < b.hi && b.lo < a.hi
def piecesMeet (a b : List Extent) : Bool := a.any (fun x => b.any x.meets)

/-- Whether a command must wait for an earlier one. -/
def Foot.after (new old : Foot) : Bool :=
  piecesMeet old.writes (new.reads ++ new.writes) || piecesMeet old.reads new.writes

/-! ## MOVE (R225, R226) -/

/-- A side of a MOVE. -/
structure Side where
  kind : Nat
  w0 : Word
  w1 : Word
deriving DecidableEq, Repr

def mvSrc (w : List Word) : Side := ⟨(cw w 0).fld 23 21, cw w 2, cw w 3⟩
def mvDst (w : List Word) : Side := ⟨(cw w 0).fld 20 18, cw w 4, cw w 5⟩
def mvLayout (w : List Word) : Nat := (cw w 0).fld 17 16
def mvFmt (w : List Word) : Nat := (cw w 0).fld 15 12
def mvLen (w : List Word) : Nat := (cw w 1).toNat

/-- Bytes of an element of a non-MX format. -/
def elemBytes (fmt : Nat) : Nat := if fmt = 0 then 4 else if fmt ≤ 2 then 2 else 1

/-- Bytes of a block of an MX format with its scale, and of its elements in slots. -/
def blockBytes (fmt : Nat) : Nat := mxElemBytes fmt + 1
def blockSlots (fmt : Nat) : Nat := mxElemBytes fmt / 4
/-- Blocks of a shared vector. -/
def vecBlocks (fmt : Nat) : Nat := 256 / mxElemBytes fmt

/-- Lane slots that a MOVE fills or reads in each lane. -/
def laneSlots (transposed : Bool) (fmt len : Nat) : Nat :=
  if transposed then 32 * elemBytes fmt
  else if isMx fmt then len / 128 / blockBytes fmt * blockSlots fmt
  else len / 512

/-- Shared vectors that a MOVE fills or reads. -/
def sharedVecs (fmt len : Nat) : Nat := if isMx fmt then len / (vecBlocks fmt * blockBytes fmt) else len / 256

/-- The key of a memory side's first byte: a fabric address of the module's own spine space, or a page. -/
def Side.key (x : Side) : Nat :=
  if x.kind = 0 then memKey (x.w0.toNat / 2 ^ 14 % 4) (x.w0.toNat % 2 ^ 14 * 2 ^ 32 + x.w1.toNat)
  else pageKey (x.w0.fld 27 0) + x.w1.fld 16 0

def Side.isMem (x : Side) : Bool := x.kind ≤ 1
/-- First lane slot, or vector, or scratch offset of a side. -/
def Side.at_ (x : Side) : Nat :=
  if x.kind = 2 then x.w0.fld 13 0 else if x.kind = 3 then x.w0.fld 11 0 else x.w0.fld 24 0

/-- The bits of a side's words that its kind names. -/
def Side.masks (x : Side) : List Nat :=
  if x.kind = 0 then [0xFFFFFFFF, 0xFFFFFFFF] else if x.kind = 1 then [0x0FFFFFFF, 0x0001FFFF]
  else if x.kind = 2 then [0x3FFF, 0] else if x.kind = 3 then [0xFFF, 0] else [0x01FFFFFF, 0]

def moveMasks (w : List Word) : List Nat := [0xFFFFF000, 0xFFFFFFFF] ++ (mvSrc w).masks ++ (mvDst w).masks

/-- Whether a side breaks a condition of R225 and R226. `scratch`: bytes of the list's region. -/
def State.sideBad (s : State) (x : Side) (transposed : Bool) (fmt len scratch : Nat) : Bool :=
  match x.kind with
  | 0 => !s.isOwn (x.w0.toNat / 2 ^ 14)
  | 1 => decide (131072 < x.w1.fld 16 0 + len)
  | 2 =>
    let n := laneSlots transposed fmt len
    (if transposed then isMx fmt || len != 16384 * elemBytes fmt
     else len % 512 != 0 || (isMx fmt && (len / 128 % blockBytes fmt != 0 || x.at_ % blockSlots fmt != 0)))
      || decide (7680 < x.at_ + n)
  | 3 =>
    transposed || len % (if isMx fmt then vecBlocks fmt * blockBytes fmt else 256) != 0
      || decide (4096 < x.at_ + sharedVecs fmt len)
  | 4 => decide (scratch < x.at_ + len)
  | _ => true

/-- Whether a MOVE fails with the command-format status (R225, R226). -/
def State.moveBad (s : State) (w : List Word) (scratch : Nat) : Bool :=
  let a := mvSrc w
  let b := mvDst w
  let t : Bool := mvLayout w == 1
  let inEngine (x : Side) : Bool := x.kind == 2 || x.kind == 3
  4 < a.kind || 4 < b.kind || 1 < mvLayout w || 7 < mvFmt w || (inEngine a && inEngine b)
    || (t && a.kind != 2 && b.kind != 2)
    || s.sideBad a (t && a.kind == 2) (mvFmt w) (mvLen w) scratch || s.sideBad b (t && b.kind == 2) (mvFmt w) (mvLen w) scratch

/-- The storage of a side. -/
def Side.pieces (x : Side) (transposed : Bool) (fmt len : Nat) : List Extent :=
  match x.kind with
  | 2 =>
    let n := laneSlots transposed fmt len
    ⟨0, x.at_, x.at_ + n⟩ :: (if isMx fmt then [⟨1, x.at_ / 128, (x.at_ + n + 127) / 128⟩] else [])
  | 3 => [⟨3, x.at_, x.at_ + sharedVecs fmt len⟩]
  | 4 => [⟨4, x.at_, x.at_ + len⟩]
  | _ => [⟨5, x.key, x.key + len⟩]

def moveFoot (w : List Word) : Foot :=
  let t : Bool := mvLayout w == 1
  ⟨(mvSrc w).pieces t (mvFmt w) (mvLen w), (mvDst w).pieces t (mvFmt w) (mvLen w)⟩

/-- What a MOVE in flight still holds: its source until it is read, its destination until it is written. -/
def MoveOp.foot (m : MoveOp) : Foot :=
  match m.wait with
  | .read => moveFoot m.words
  | .write => ⟨[], (moveFoot m.words).writes⟩

/-- Bytes of the module's memory that a NOTIFY writes. -/
def noteFoot (key len : Nat) : Foot := ⟨[], [⟨5, key, key + len⟩]⟩

/-- A command waits for the MOVEs in flight, and the NOTIFYs to the module's own memory, that hold storage it needs
(R231). -/
def Running.blocked (r : Running) (f : Foot) : Bool :=
  r.moves.any (fun m => f.after m.foot) || r.notes.any (fun n => f.after (noteFoot n.2.1 n.2.2))

/-! ## Data in an engine (R194) -/

/-- A list cut into `k` pieces of `n`. -/
def cutList {α : Type} (n : Nat) : Nat → List α → List (List α)
  | 0, _ => []
  | k + 1, l => l.take n :: cutList n k (l.drop n)

def Engine.lane (x : Engine) (l slot : Nat) : Word := Tbl.get (fun _ => 0) x.lanes (l * 8192 + slot)
def Engine.laneRun (x : Engine) (l slot n : Nat) : List Word := Tbl.getRun (fun _ => 0) x.lanes (l * 8192 + slot) n
def Engine.putLane (x : Engine) (l slot : Nat) (ws : List Word) : Engine :=
  { x with lanes := Tbl.putRun (fun _ => 0) x.lanes (l * 8192 + slot) ws }
/-- The key of the scale byte of a block that starts at a slot. -/
def scaleKey (fmt l slot : Nat) : Nat := l * 2048 + slot / 128 * 32 + slot % 128 / blockSlots fmt
def Engine.laneScale (x : Engine) (fmt l slot : Nat) : Byte := Tbl.get (fun _ => 0) x.scales (scaleKey fmt l slot)
def Engine.putScale (x : Engine) (fmt l slot : Nat) (b : Byte) : Engine :=
  { x with scales := Tbl.put (fun _ => 0) x.scales (scaleKey fmt l slot) b }
def Engine.accum (x : Engine) (l a : Nat) : Word := Tbl.get (fun _ => 0) x.acc (l * 16 + a)
def Engine.putAcc (x : Engine) (l a : Nat) (w : Word) : Engine :=
  { x with acc := Tbl.put (fun _ => 0) x.acc (l * 16 + a) w }

/-- Doing something for each element, on an engine. -/
def eachDo {α : Type} (f : α → Engine → Engine) : List α → Engine → Engine
  | [], x => x
  | a :: l, x => eachDo f l (f a x)

/-- Blocks written into a lane from a slot on: scales and elements split (R194). -/
def putBlocks (fmt l : Nat) : List (List Byte) → Nat → Engine → Engine
  | [], _, x => x
  | b :: bs, slot, x =>
    putBlocks fmt l bs (slot + blockSlots fmt)
      ((x.putScale fmt l slot (b.headD 0)).putLane l slot (wordsOfBytesLE (b.drop 1)))

/-- Blocks read from a lane: scales and elements joined. -/
def getBlocks (fmt l : Nat) (x : Engine) : Nat → Nat → List Byte
  | 0, _ => []
  | n + 1, slot => x.laneScale fmt l slot :: (x.laneRun l slot (blockSlots fmt)).flatMap Word.bytesLE
      ++ getBlocks fmt l x n (slot + blockSlots fmt)

/-- The bytes of each lane of a linear move, or of a transposed tile: lane d takes column d. -/
def laneParts (transposed : Bool) (fmt : Nat) (bs : List Byte) : List (List Byte) :=
  if transposed then
    let rows := (cutList (128 * elemBytes fmt) 128 bs).map (cutList (elemBytes fmt) 128)
    (List.range 128).map (fun d => rows.flatMap (fun row => row.getD d []))
  else cutList (bs.length / 128) 128 bs

/-- Data placed in the lanes. -/
def Engine.toLanes (x : Engine) (transposed : Bool) (fmt first : Nat) (bs : List Byte) : Engine :=
  eachDo (fun (p : Nat × List Byte) x =>
    if isMx fmt then putBlocks fmt p.1 (cutList (blockBytes fmt) (p.2.length / blockBytes fmt) p.2) first x
    else x.putLane p.1 first (wordsOfBytesLE p.2))
    ((List.range 128).zip (laneParts transposed fmt bs)) x

/-- Data read from the lanes. -/
def Engine.fromLanes (x : Engine) (transposed : Bool) (fmt first len : Nat) : List Byte :=
  let n := laneSlots transposed fmt len
  let part (l : Nat) : List Byte :=
    if isMx fmt then getBlocks fmt l x (n / blockSlots fmt) first else (x.laneRun l first n).flatMap Word.bytesLE
  if transposed then
    let lanes := (List.range 128).map (fun l => cutList (elemBytes fmt) 128 (part l))
    (List.range 128).flatMap (fun r => lanes.flatMap (fun l => l.getD r []))
  else (List.range 128).flatMap part

/-- Blocks written into a shared vector and its side store. -/
def putVecBlocks (fmt : Nat) : List (List Byte) → Nat → Nat → Engine → Engine
  | [], _, _, x => x
  | b :: bs, v, i, x =>
    putVecBlocks fmt bs v (i + 1)
      { x with sharedScale := Tbl.put (fun _ => 0) x.sharedScale (v * 16 + i) (b.headD 0),
               shared := Tbl.putRun (fun _ => 0) x.shared (v * 256 + i * mxElemBytes fmt) (b.drop 1) }

/-- Data placed in shared vectors. -/
def Engine.toShared (x : Engine) (fmt first : Nat) (bs : List Byte) : Engine :=
  if isMx fmt then
    let n := vecBlocks fmt
    eachDo (fun (p : Nat × List Byte) x => putVecBlocks fmt (cutList (blockBytes fmt) n p.2) (first + p.1) 0 x)
      ((List.range (sharedVecs fmt bs.length)).zip
        (cutList (n * blockBytes fmt) (sharedVecs fmt bs.length) bs)) x
  else { x with shared := Tbl.putRun (fun _ => 0) x.shared (first * 256) bs }

/-- Data read from shared vectors. -/
def Engine.fromShared (x : Engine) (fmt first len : Nat) : List Byte :=
  if isMx fmt then
    (List.range (sharedVecs fmt len)).flatMap (fun v => (List.range (vecBlocks fmt)).flatMap (fun i =>
      Tbl.get (fun _ => 0) x.sharedScale ((first + v) * 16 + i)
        :: Tbl.getRun (fun _ => 0) x.shared ((first + v) * 256 + i * mxElemBytes fmt) (mxElemBytes fmt)))
  else Tbl.getRun (fun _ => 0) x.shared (first * 256) len

/-- Data placed on a side in the engine. -/
def Engine.toSide (x : Engine) (d : Side) (transposed : Bool) (fmt : Nat) (bs : List Byte) : Engine :=
  match d.kind with
  | 2 => x.toLanes transposed fmt d.at_ bs
  | 3 => x.toShared fmt d.at_ bs
  | _ => { x with scratch := Tbl.putRun (fun _ => 0) x.scratch d.at_ bs }

/-- Data read from a side in the engine. -/
def Engine.fromSide (x : Engine) (a : Side) (transposed : Bool) (fmt len : Nat) : List Byte :=
  match a.kind with
  | 2 => x.fromLanes transposed fmt a.at_ len
  | 3 => x.fromShared fmt a.at_ len
  | _ => Tbl.getRun (fun _ => 0) x.scratch a.at_ len

/-! ## Memory that a MOVE reads or writes (R226, R274, R276) -/

/-- A range cut at the boundaries of 128 KiB. Fuel bounds the number of parts. -/
def spans : Nat → Nat → Nat → List (Nat × Nat)
  | 0, _, _ => []
  | n + 1, key, len =>
    if len = 0 then []
    else
      let m := min len (131072 - key % 131072)
      (key, m) :: spans n (key + m) (len - m)
def spansOf (key len : Nat) : List (Nat × Nat) := spans (len / 131072 + 2) key len

/-- How memory answers a MOVE: it waits, fails the list, or goes on. -/
inductive MemAnswer where
  | wait | fail (status : Nat) | go
deriving DecidableEq, Repr

/-- What one part of a range answers: a LOST page poisoned data (R274); what a home agent, or PL17 for a dead one, refuses
is memory refused (R245, R252, R374). (DEDUCED, log entry 83) -/
def State.partAnswer (s : State) (key : Nat) : MemAnswer :=
  match rangeOf key, s.serve key with
  | .handle _, .unmapped => .fail stPAGE_FAULT
  | .handle _, .dead => .fail stPOISONED
  | _, .unmapped => .fail stMEM_REFUSED
  | _, .dead => .fail stMEM_REFUSED
  | .fixed d, .place cxl unit =>
    if s.homeDead d then .fail stMEM_REFUSED else if s.placeOn cxl unit then .go else .wait
  | _, .place cxl unit => if s.placeOn cxl unit then .go else .wait

/-- What a range answers: the first failure, else a wait. -/
def State.rangeAnswer (s : State) : List (Nat × Nat) → MemAnswer
  | [] => .go
  | p :: ps =>
    match s.partAnswer p.1 with
    | .fail st => .fail st
    | .wait => (match s.rangeAnswer ps with | .fail st => .fail st | _ => .wait)
    | .go => if s.partAnswer (p.1 + p.2 - 1) = .go then s.rangeAnswer ps else .fail stMEM_REFUSED

/-- A range of a side: one home's 46-bit space, else refused. -/
def State.sideAnswer (s : State) (x : Side) (len : Nat) : MemAnswer :=
  if 2 ^ 46 < x.key % 2 ^ 46 + len then .fail stMEM_REFUSED else s.rangeAnswer (spansOf x.key len)

/-- Heat and CXL bytes of a Palette access (R276, R286). -/
def State.countMove (s : State) (e key len : Nat) (read poison : Bool) : State :=
  forEach (fun (p : Nat × Nat) (s : State) =>
    let s := match rangeOf p.1 with
      | .handle h => s.heatPage h ((p.2 + 16383) / 16384) (some (e / 2)) read
      | _ => s
    s.cxlBytesCount (s.serve p.1) (!read) p.2 poison) (spansOf key len) s

end Sys2Proof.Machine
end

