-- ==== Sys2Proof/Machine/PalCtl.lean ====
section
/-!
DEFINITION. The control commands of a list and MOVE (R224 to R226, R232, R240), and what completes them.
-/
namespace Sys2Proof.Machine

/-! ## NOP, BEGIN, END, FENCE (R222, R224, R232) -/

/-- The opcodes of R222. -/
def opKnown (op : Nat) : Bool := [0x00, 0x01, 0x02, 0x03, 0x04, 0x05, 0x10, 0x20, 0x21, 0x22, 0x23].contains op

/-- The list fails at a command whose opcode is none of R222. -/
def State.unknownCmd (s : State) (e : Nat) : State :=
  match s.fetchCmd e with
  | none => s
  | some (r, w) => if opKnown ((cw w 0).fld 31 24) then s else (s.badCmd e r).afterOffline e

/-- PAL_NOP (R222): NOP has no effect. Any opcode that is not of the command set fails here with the
command-format status. -/
def execPalNop (e : Fin 8) (s : State) : Host.Outcome State Fault Refusal :=
  ok ((s.unknownCmd e).issueCmd e 0x00 (fun _ => [0xFF000000]) (fun _ _ s => s.nextCmd e))

/-- A checkpoint, or one of its records, put into a half of a list's journal area (R240): the half then holds bytes
whose layout the spec does not give. (DESIGN CHOICE, log entry 84) -/
def State.journal (s : State) (r : Running) (half : Nat) : State :=
  let g := s.palRing r.list.ring
  let n := g.jrnl * 32768
  if g.jrnl = 0 ∨ !s.dieUp g.home then s
  else
    let t := s.writeBytes (memKey g.home (g.off 8 + half * n)) ((List.range n).map (Config.journalByte s.free))
    { t with free := s.free + 1 }

/-- PAL_BEGIN (R224, R240): opens the list, and acts as a CKPT of no state. -/
def execPalBegin (e : Fin 8) (s : State) : Host.Outcome State Fault Refusal :=
  ok (s.issueCmd e opBEGIN (fun _ => [0xFF00FFFF, 0xFFFF0000, 0xFFFFFFFF, 0x0000FFFF])
    (fun r _ s => ((s.journal r (1 - r.half)).updRun e
      (fun r => { r with ckpt := Saved.none_, records := [], issued := [], half := 1 - r.half })).nextCmd e))

/-- A fence begins to wait, until FENCE_US if that is not zero (R232). -/
def State.startFence (s : State) (e : Nat) : State :=
  let us := s.fld (R.PAL_LIST_CTRL e) 31 16
  s.updRun e (fun r => { r with fence := some (if us = 0 then none else some (s.now + us * 1000)) })

/-- PAL_END (R232): a fence of every destination; FENCE_COMPLETE ends the list. -/
def execPalEnd (e : Fin 8) (s : State) : Host.Outcome State Fault Refusal :=
  ok (s.issueCmd e opEND (fun _ => [0xFF000001, 0xFFFFFFFF]) (fun _ _ s => s.startFence e))

/-- PAL_FENCE (R232): waits for the writes in its scope; scope 0b11 is a format failure. -/
def execPalFence (e : Fin 8) (s : State) : Host.Outcome State Fault Refusal :=
  ok (s.issueCmd e 0x03 (fun _ => [0xFFE00000, 0x0003FFFF]) (fun r w s =>
    if (cw w 0).fld 23 22 = 3 then s.badCmd e r else s.startFence e))

/-- Whether a MOVE in flight writes memory, and the home agent whose space it writes. -/
def MoveOp.toMem (m : MoveOp) : Bool := (mvDst m.words).isMem
def MoveOp.toHome (m : MoveOp) (h : Nat) : Bool := m.toMem && (mvDst m.words).key / 2 ^ 46 == h

/-- The outstanding counter of a die's scheduler toward a destination reads zero (R98). -/
def State.settled (s : State) (e : Nat) (x : Nat × Nat) : Bool := s.outstanding (4 + e / 2) x.1 x.2 == 0

/-- Whether every write of a fence's scope is performed (R232): of scope 0b01 those to DEST, of 0b10 those to this module's
memory, else those to every destination that the list has written. -/
def State.fenceMet (s : State) (e scope space dest : Nat) (r : Running) : Bool :=
  if scope = 1 then s.settled e (space, dest) && !(space == 1 && s.isOwn dest && r.moves.any (fun m => m.toHome (dest % 4)))
  else r.moves.all (fun m => !m.toMem) &&
    (if scope = 2 then (List.range 4).all (fun h => s.settled e (1, s.homeId h)) else r.dests.all (s.settled e))

/-- Responses of the list's NOTIFYs that the scheduler has not yet taken. -/
def State.unanswered (s : State) (e : Nat) (r : Running) : Bool :=
  (s.palDie (e / 2)).responses.any (fun x => x.1 == r.list.ring)

/-- The command that waits: its words. -/
def State.waitingCmd (s : State) (e : Nat) : Option (Running × List Word) :=
  match (s.engine e).run with
  | none => none
  | some r => if r.fence.isSome then some (r, s.memWords ((s.palRing r.list.ring).slotKey (r.list.first + r.pc)) 8) else none

/-- The scope of the FENCE or END that waits. -/
def fenceScope (w : List Word) : Nat := if (cw w 0).fld 31 24 = opEND then 0 else (cw w 0).fld 23 22
def State.fenceDone (s : State) (e : Nat) (r : Running) (w : List Word) : Bool :=
  s.fenceMet e (fenceScope w) ((cw w 0).fld 21 21) ((cw w 1).fld 17 0) r && !(fenceScope w == 0 && s.unanswered e r)

/-- A command's number put into the journal's records (R240). -/
def Running.record (r : Running) (cmd : Nat) : Running :=
  let r := { r with notes := r.notes.filter (fun n => n.1 != cmd) }
  if r.records.contains cmd then r else { r with records := r.records ++ [cmd] }

/-- FENCE_COMPLETE (R232): a FENCE completes; an END completes its list. -/
def execFenceComplete (e : Fin 8) (s : State) : Host.Outcome State Fault Refusal :=
  match s.waitingCmd e with
  | none => ok s
  | some (r, w) =>
    if (s.engine e).st ≠ .active ∨ !s.fenceDone e r w then ok s
    else if (cw w 0).fld 31 24 = opEND ∧ (cw w 0).bit 0 ∧ !s.dieUp (s.palRing r.list.ring).home then ok s
    else if (cw w 0).fld 31 24 = opEND then ok ((s.listDone e ((cw w 0).bit 0) (cw w 1)).afterOffline e)
    else
      let s := (s.journal r r.half).updRun e (fun r => ({ r with fence := none }.record r.pc).next s.now)
      ok ((s.quiesce e).afterOffline e)

/-- FENCE_TIMEOUT (R232): a FENCE or END that has not completed within FENCE_US fails its list. -/
def execFenceTimeout (e : Fin 8) (s : State) : Host.Outcome State Fault Refusal :=
  match s.waitingCmd e with
  | none => ok s
  | some (r, w) =>
    match r.fence with
    | some (some t) =>
      if (s.engine e).st ≠ .active ∨ s.fenceDone e r w then ok s
      else ok (((s.reach t).listFail e stFENCE_TIMEOUT r.pc).afterOffline e)
    | _ => ok s

/-! ## NOTIFY (R224, R240) -/

/-- The request that a NOTIFY sends; the 4-byte kinds use word 5. (DEDUCED, log entry 78) -/
def notifySpec (w : List Word) (job : Nat) : ReqSpec :=
  let kind := (cw w 0).fld 23 21
  let n := if kind = 0 ∨ kind = 2 then 8 else 4
  let v := if n = 8 then (cw w 4).toNat * 2 ^ 32 + (cw w 5).toNat else (cw w 5).toNat
  let space := (cw w 0).fld 20 20
  { ty := typeFor (if kind ≤ 1 then tySTORE else tyATOMIC) space, tc := (cw w 0).fld 18 16, spray := 0, job := job,
    space := space, addr := (cw w 2).toNat * 2 ^ 32 + (cw w 3).toNat,
    size := if kind ≤ 1 then n else 0, aop := 0, awide := if kind = 2 then 1 else 0,
    operand := if kind ≤ 1 then 0 else v, payload := if kind ≤ 1 then bytesLEOfNat n v else [] }

/-- A NOTIFY's destination: space and ID. -/
def notifyDest (w : List Word) : Nat × Nat := ((cw w 0).fld 20 20, (cw w 2).toNat / 2 ^ 14)

/-- The bytes of this module's memory that a NOTIFY writes: key and length. -/
def State.notifyBytes (s : State) (w : List Word) : Option (Nat × Nat) :=
  if (notifyDest w).1 = 1 ∧ s.isOwn (notifyDest w).2 then
    some ((⟨0, cw w 2, cw w 3⟩ : Side).key, if (cw w 0).fld 23 21 % 2 = 0 then 8 else 4)
  else none

/-- The NOTIFY sent by the die's scheduler, journalled as issued before. -/
def State.sendNotify (s : State) (e : Nat) (r : Running) (w : List Word) : State :=
  let g := s.palRing r.list.ring
  let note : List (Nat × Nat × Nat) := match s.notifyBytes w with | some (k, n) => [(r.pc, k, n)] | none => []
  let s := (s.journal r r.half).updRun e (fun r =>
    { r with issued := r.issued ++ [r.pc], dests := (notifyDest w :: r.dests).eraseDups, notes := r.notes ++ note })
  (s.issue (4 + e / 2) (.notify r.list.ring ((r.list.first + r.pc) % 2 ^ 32)) (notifySpec w g.job)).nextCmd e

/-- PAL_NOTIFY (R224): sends a store or an atomic add, once earlier commands are done with the memory it writes (R231) and
the scheduler may issue to its destination (R98); with RELEASE it waits until a FENCE of scope 0b00 would complete. One
that the journal holds as issued waits for its response (R240). -/
def execPalNotify (e : Fin 8) (s : State) : Host.Outcome State Fault Refusal :=
  ok (s.issueCmd e 0x04 (fun _ => [0xFFFF0000, 0, 0xFFFFFFFF, 0xFFFFFFFF, 0xFFFFFFFF, 0xFFFFFFFF]) (fun r w s =>
    if 3 < (cw w 0).fld 23 21 then s.badCmd e r
    else if r.issued.contains r.pc then s
    else if (cw w 0).bit 19 ∧ !s.fenceMet e 0 0 0 r then s
    else if (match s.notifyBytes w with | some (k, n) => r.blocked (noteFoot k n) | none => false) then s
    else if !s.mayIssue (4 + e / 2) (notifyDest w).1 (notifyDest w).2 then s
    else s.sendNotify e r w))

/-- A NOTIFY's response for a list: its number journalled, or the list's failure. -/
def State.notifyAnswered (s : State) (ring cmd status : Nat) : State :=
  let g := s.palRing ring
  let x := s.engine g.engine
  let rel (r : Running) : Nat := (cmd + 2 ^ 32 - r.list.first % 2 ^ 32) % 2 ^ 32
  match x.run with
  | some r =>
    if r.list.ring = ring then
      if status = stOK then (s.journal r r.half).updRun g.engine (fun r => r.record (rel r))
      else (s.listFail g.engine status (rel r)).afterOffline g.engine
    else s
  | none =>
    match x.resumeQ.find? (fun r => r.list.ring == ring) with
    | none => s
    | some r =>
      let rest := x.resumeQ.filter (fun y => y.list.ring != ring)
      if status = stOK then
        (s.journal r r.half).setEngine g.engine
          { x with resumeQ := x.resumeQ.map (fun y => if y.list.ring = ring then y.record (rel y) else y) }
      else (s.setEngine g.engine { x with resumeQ := rest }).failRunning g.engine r status (rel r)

/-- NOTIFY_RESPONSE (R224, R240): the oldest response that a die's scheduler has received is journalled; one
that reports a failure fails the list. -/
def execNotifyResponse (d : Fin 4) (s : State) : Host.Outcome State Fault Refusal :=
  match (s.palDie d).responses with
  | [] => ok s
  | (ring, cmd, st) :: rest =>
    ok ((s.updDie d (fun x => { x with responses := rest })).notifyAnswered ring cmd st)

/-! ## CKPT (R224, R240) -/

/-- What a CKPT saves. -/
def ckSlot (w : List Word) : Nat := (cw w 1).fld 29 16
def ckSlots (w : List Word) : Nat := (cw w 1).fld 13 0
def ckAcc (w : List Word) : Nat := (cw w 2).fld 15 0
def ckVec (w : List Word) : Nat := (cw w 3).fld 27 16
def ckVecs (w : List Word) : Nat := (cw w 3).fld 11 0
def ckScratch (w : List Word) : Nat := (cw w 4).fld 24 0
/-- Registers that the saved slots touch: their scale registers are saved with them. -/
def ckRegs (w : List Word) : Nat := if ckSlots w = 0 then 0 else (ckSlot w + ckSlots w + 127) / 128 - ckSlot w / 128

/-- Bytes that the saved state takes. -/
def ckBytes (w : List Word) : Nat :=
  128 * (4 * ckSlots w + 32 * ckRegs w + 4 * ((List.range 16).filter (fun a => (ckAcc w).testBit a)).length)
    + 272 * ckVecs w + ckScratch w

/-- The state that a CKPT saves. -/
def Engine.saved (x : Engine) (w : List Word) (cmd : Nat) : Saved :=
  let lo := ckSlot w
  let hi := ckSlot w + ckSlots w
  { cmd := cmd,
    lanes := x.lanes.filter (fun k => decide (lo ≤ k.1 % 8192 ∧ k.1 % 8192 < hi)),
    scales := x.scales.filter (fun k => decide (lo / 128 ≤ k.1 % 2048 / 32 ∧ k.1 % 2048 / 32 < lo / 128 + ckRegs w)),
    acc := x.acc.filter (fun k => (ckAcc w).testBit (k.1 % 16)),
    shared := x.shared.filter (fun k => decide (ckVec w ≤ k.1 / 256 ∧ k.1 / 256 < ckVec w + ckVecs w)),
    sharedScale := x.sharedScale.filter (fun k => decide (ckVec w ≤ k.1 / 16 ∧ k.1 / 16 < ckVec w + ckVecs w)),
    scratch := x.scratch.filter (fun k => decide (k.1 < ckScratch w)) }

/-- Bytes of the running list's scratch region. -/
def Running.scratchLen (r : Running) : Nat := r.list.scratchKib * 1024

def ckFoot (w : List Word) : Foot :=
  ⟨[⟨0, ckSlot w, ckSlot w + ckSlots w⟩, ⟨1, ckSlot w / 128, ckSlot w / 128 + ckRegs w⟩, ⟨2, 0, 16⟩,
    ⟨3, ckVec w, ckVec w + ckVecs w⟩, ⟨4, 0, ckScratch w⟩], []⟩

/-- PAL_CKPT (R240): the state goes to the half that does not hold the last complete checkpoint, and the
records are cleared; what does not fit fails the list with the journal-full status. With no journal it
has no effect. -/
def execPalCkpt (e : Fin 8) (s : State) : Host.Outcome State Fault Refusal :=
  ok (s.issueCmd e 0x05 (fun _ => [0xFF000000, 0x3FFF3FFF, 0x0000FFFF, 0x0FFF0FFF, 0x01FFFFFF]) (fun r w s =>
    let j := (s.palRing r.list.ring).jrnl
    if 7680 < ckSlot w + ckSlots w ∨ 4096 < ckVec w + ckVecs w ∨ r.scratchLen < ckScratch w then s.badCmd e r
    else if r.blocked (ckFoot w) ∨ 16 ≤ r.moves.length then s
    else if j = 0 then s.nextCmd e
    else if j * 32768 < ckBytes w then s.listFail e stJOURNAL_FULL r.pc
    else
      let sv := (s.engine e).saved w r.pc
      ((s.journal r (1 - r.half)).updRun e
        (fun r => { r with ckpt := sv, records := [], issued := [], half := 1 - r.half })).nextCmd e))

/-! ## MOVE (R225, R226, R231, R232) -/

/-- Data placed in the engine. -/
def State.placeData (s : State) (e : Nat) (w : List Word) (bs : List Byte) : State :=
  s.setEngine e ((s.engine e).toSide (mvDst w) (mvLayout w == 1) (mvFmt w) bs)

/-- A MOVE put in flight. -/
def State.addMove (s : State) (e : Nat) (m : MoveOp) : State :=
  (s.updRun e (fun r => { r with moves := r.moves ++ [m] })).nextCmd e

/-- PAL_MOVE (R226): data of an engine is read at once, data of memory when it returns; data for memory is
written when the write is performed. -/
def execPalMove (e : Fin 8) (s : State) : Host.Outcome State Fault Refusal :=
  ok (s.issueCmd e 0x10 moveMasks (fun r w s =>
    if mvLen w = 0 ∧ mvLayout w ≤ 1 ∧ (mvSrc w).kind ≤ 4 ∧ (mvDst w).kind ≤ 4 then s.nextCmd e
    else if s.moveBad w r.scratchLen then s.badCmd e r
    else if r.blocked (moveFoot w) ∨ 16 ≤ r.moves.length then s
    else if (mvSrc w).isMem then s.addMove e ⟨r.pc, w, .read, []⟩
    else
      let bs := (s.engine e).fromSide (mvSrc w) (mvLayout w == 1) (mvFmt w) (mvLen w)
      if (mvDst w).isMem then s.addMove e ⟨r.pc, w, .write, bs⟩ else (s.placeData e w bs).nextCmd e))

/-- The i-th MOVE in flight of an engine's list. -/
def State.moveAt (s : State) (e i : Nat) : Option (Running × MoveOp) :=
  match (s.engine e).run with
  | none => none
  | some r => (r.moves[i]?).map (fun m => (r, m))

/-- A MOVE leaves the list of those in flight. -/
def Running.dropMove (r : Running) (cmd : Nat) : Running := { r with moves := r.moves.filter (fun m => m.cmd != cmd) }

/-- MOVE_READ_RETURN (R226): the data of the i-th MOVE in flight returns and is placed, or fails the list:
page fault, poisoned, refused. It waits while its place cannot answer. -/
def execMoveReadReturn (e : Fin 8) (i : Fin 16) (s : State) : Host.Outcome State Fault Refusal :=
  match s.moveAt e i with
  | none => ok s
  | some (_, m) =>
    let a := mvSrc m.words
    let n := mvLen m.words
    if m.wait ≠ .read then ok s
    else match s.sideAnswer a n with
      | .wait => ok s
      | .fail st => ok ((s.listFail e st m.cmd).afterOffline e)
      | .go =>
        let bad := s.readsPoison a.key n
        let s := s.countMove e a.key n true bad
        if bad then ok ((s.listFail e stPOISONED m.cmd).afterOffline e)
        else
          let bs := s.readBytes a.key n
          if m.toMem then
            ok (s.updRun e (fun r => { r with moves := r.moves.map (fun x =>
              if x.cmd = m.cmd then { x with wait := .write, data := bs } else x) }))
          else
            let s := (s.placeData e m.words bs).updRun e (fun r => { (r.dropMove m.cmd) with lastDone := s.now })
            ok ((s.quiesce e).afterOffline e)

/-- MOVE_WRITE_PERFORMED (R232, R240): the write of the i-th MOVE in flight is performed and journalled, or
refused. -/
def execMoveWritePerformed (e : Fin 8) (i : Fin 16) (s : State) : Host.Outcome State Fault Refusal :=
  match s.moveAt e i with
  | none => ok s
  | some (r, m) =>
    let d := mvDst m.words
    if m.wait ≠ .write then ok s
    else match s.sideAnswer d m.data.length with
      | .wait => ok s
      | .fail st => ok ((s.listFail e st m.cmd).afterOffline e)
      | .go =>
        let s := (s.writeBytes d.key m.data).countMove e d.key m.data.length false false
        let s := (s.journal r r.half).updRun e (fun r => { ((r.dropMove m.cmd).record m.cmd) with lastDone := s.now })
        ok ((s.quiesce e).afterOffline e)

end Sys2Proof.Machine
end

