-- ==== Sys2Proof/Machine/PalMath.lean ====
section
/-!
DEFINITION. The compute commands of a list: ROW, ELEM, XLANE, CONVERT (R191, R192, R199 to R203, R222,
R223, R227 to R230).
-/
namespace Sys2Proof.Machine

/-! ## ROW (R191, R192, R198 to R200, R227) -/

def rowFmtL (w : List Word) : Nat := (cw w 0).fld 23 20
def rowFmtS (w : List Word) : Nat := (cw w 0).fld 19 16
def cmdLanes (w : List Word) : Nat := (cw w 0).fld 15 8
/-- S, or 0 for the code that names none. -/
def rowSplit (w : List Word) : Nat :=
  let c := (cw w 0).fld 7 6
  if c = 0 then 1 else if c = 1 then 2 else if c = 2 then 4 else 0
def rowReps (w : List Word) : Nat := (cw w 1).fld 31 16

/-- Bits of an element. -/
def elemBits (fmt : Nat) : Nat := (elemFmt fmt).width

/-- D: products per lane per cycle (R198). -/
def rowDepth (fmt : Nat) : Nat :=
  if elemBits fmt = 32 then 32 else if elemBits fmt = 16 then 128 else if elemBits fmt = 8 then 256 else 512

/-- Slots of a lane slice. -/
def sliceSlots (fmt s : Nat) : Nat := rowDepth fmt * elemBits fmt / 32 / s

/-- First slot, vector and accumulator of rep r; negative ones are out of range. -/
def rowSlot (w : List Word) (r : Nat) : Int := (cw w 1).fld 13 0 + r * signedOf 16 ((cw w 2).fld 31 16)
def rowVec (w : List Word) (r : Nat) : Int := (cw w 3).fld 27 16 + r * signedOf 16 ((cw w 2).fld 15 0)
def rowAcc (w : List Word) (r : Nat) : Nat := (cw w 3).fld 15 12 + r * (cw w 3).fld 11 8

/-- Whether the formats and the split pair (R192, R199). -/
def rowPairs (w : List Word) : Bool :=
  let s := rowSplit w
  rowFmtL w ≤ 7 && rowFmtS w ≤ 7 && elemBits (rowFmtL w) == elemBits (rowFmtS w)
    && (s == 1 || (s == 2 && elemBits (rowFmtL w) ≤ 8) || (s == 4 && rowFmtL w == 7))

/-- Whether a rep is in range and aligned (R227). -/
def rowRepOk (w : List Word) (r : Nat) : Bool :=
  let n := sliceSlots (rowFmtL w) (rowSplit w)
  let a := rowSlot w r
  let v := rowVec w r
  decide (0 ≤ a ∧ a + n ≤ 7680 ∧ a % n = 0 ∧ 0 ≤ v ∧ v ≤ 4095) && decide (rowAcc w r + rowSplit w ≤ 16)

/-- The elements of a run of packed bytes, each an exact value with its block's scale (R194, R200). `scale`
gives the scale byte of block b. (DEDUCED, log entry 79) -/
def operandElems (fmt n : Nat) (bs : List Byte) (scale : Nat → Nat) : List (Fp × Nat) :=
  (List.zip (List.range n) (elemCodes fmt n bs)).map (fun p =>
    ((elemFmt fmt).decode p.2, if isMx fmt then scale (p.1 / 32) else 127))

/-- One exact product with its two block scales (R200). -/
def scaledProduct (a b : Fp × Nat) : Fp :=
  if a.2 = 255 ∨ b.2 = 255 then .nan else (a.1.mul b.1).scale ((a.2 : Int) + b.2 - 254)

/-- The products of a cycle added exactly to an accumulator's value, rounded once (R200). -/
def rowSum (acc : Word) (a b : List (Fp × Nat)) : Word :=
  toF32 ((List.zipWith scaledProduct a b).foldl Fp.add (f32 acc))

/-- One rep in one lane: each split group against its own part of the vector (R192). -/
def Engine.rowLane (w : List Word) (slot vec acc l : Nat) (x : Engine) : Engine :=
  let s := rowSplit w
  let fl := rowFmtL w
  let fs := rowFmtS w
  let n := rowDepth fl / s
  let laneBytes := (x.laneRun l slot (sliceSlots fl s)).flatMap Word.bytesLE
  let a := operandElems fl n laneBytes (fun b => (x.laneScale fl l (slot + b * blockSlots fl)).toNat)
  eachDo (fun g x =>
    let from_ := g * (256 / s)
    let bytes := Tbl.getRun (fun _ => 0) x.shared (vec * 256 + from_) (n * elemBits fs / 8)
    let b := operandElems fs n bytes (fun b => (Tbl.get (fun _ => 0) x.sharedScale (vec * 16 + g * n / 32 + b)).toNat)
    x.putAcc l (acc + g) (rowSum (x.accum l (acc + g)) a b)) (List.range s) x

/-- The accumulators that a command writes set to +0 (CLR). -/
def Engine.clearAccs (w : List Word) (l : Nat) (x : Engine) : Engine :=
  eachDo (fun r x => eachDo (fun g x => x.putAcc l (rowAcc w r + g) 0) (List.range (rowSplit w)) x)
    (List.range (rowReps w)) x

/-- The row operations of a ROW in every enabled lane. -/
def Engine.row (x : Engine) (w : List Word) : Engine :=
  eachDo (fun l x =>
    let x := if (cw w 0).bit 5 then x.clearAccs w l else x
    eachDo (fun r x => x.rowLane w (rowSlot w r).toNat (rowVec w r).toNat (rowAcc w r) l) (List.range (rowReps w)) x)
    (List.range (cmdLanes w)) x

def rowFoot (w : List Word) : Foot :=
  let n := sliceSlots (rowFmtL w) (rowSplit w)
  let reps := List.range (rowReps w)
  let accs := reps.map (fun r => (⟨2, rowAcc w r, rowAcc w r + rowSplit w⟩ : Extent))
  ⟨reps.flatMap (fun r =>
      let a := (rowSlot w r).toNat
      [⟨0, a, a + n⟩, ⟨1, a / 128, a / 128 + 1⟩, ⟨3, (rowVec w r).toNat, (rowVec w r).toNat + 1⟩]) ++ accs, accs⟩

/-- PAL_ROW (R227): every rep is checked before the first issues; an engine at level 0 issues none yet. -/
def execPalRow (e : Fin 8) (s : State) : Host.Outcome State Fault Refusal :=
  ok (s.issueCmd e 0x20 (fun _ => [0xFFFFFFE0, 0xFFFF3FFF, 0xFFFFFFFF, 0x0FFFFF00]) (fun r w s =>
    if 128 < cmdLanes w ∨ !rowPairs w ∨ !(List.range (rowReps w)).all (rowRepOk w) then s.badCmd e r
    else if rowReps w = 0 ∨ cmdLanes w = 0 then s.nextCmd e
    else if r.blocked (rowFoot w) ∨ (s.engine e).level = 0 then s
    else
      let s := s.setEngine e ((s.engine e).row w)
      let s := (s.bump (C.PAL_ROW_CYCLES e) (rowReps w)).bump (C.PAL_ROW_UNITS e) (128 * cmdLanes w * rowReps w)
      s.nextCmd e))

/-! ## Operand specs (R223) -/

/-- An operand of ELEM or XLANE. -/
structure Opnd where
  kind : Nat
  index : Nat
deriving DecidableEq, Repr

def opnd (n : Nat) : Opnd := ⟨n / 2 ^ 14 % 4, n % 2 ^ 14⟩

/-- A source of `n` elements in range. -/
def Opnd.ok_ (o : Opnd) (n : Nat) : Bool :=
  if o.kind = 0 then decide (o.index + n ≤ 7680)
  else if o.kind = 1 then decide (o.index + n ≤ 16)
  else if o.kind = 2 then decide (o.index ≤ 15)
  else o.index == 0

/-- The value of element e of an operand in a lane. -/
def Engine.opndAt (x : Engine) (l : Nat) (imm : Word) (o : Opnd) (e : Nat) : Word :=
  if o.kind = 0 then x.lane l (o.index + e)
  else if o.kind = 1 then x.accum l (o.index + e)
  else if o.kind = 2 then x.accum l o.index
  else imm

/-- The storage of an operand of `n` elements. -/
def Opnd.pieces (o : Opnd) (n : Nat) : List Extent :=
  if o.kind = 0 then [⟨0, o.index, o.index + n⟩]
  else if o.kind = 1 then [⟨2, o.index, o.index + n⟩]
  else if o.kind = 2 then [⟨2, o.index, o.index + 1⟩]
  else []

/-- Two runs overlap without starting at the same index (R228). -/
def runClash (a : Opnd) (n : Nat) (b : Opnd) (m : Nat) : Bool :=
  a.kind == b.kind && a.kind ≤ 1 && a.index != b.index && a.index < b.index + m && b.index < a.index + n

/-! ## ELEM (R201, R228) -/

def elOp (w : List Word) : Nat := (cw w 0).fld 23 16
def elDst (w : List Word) : Opnd := opnd ((cw w 1).fld 31 16)
def elA (w : List Word) : Opnd := opnd ((cw w 1).fld 15 0)
def elB (w : List Word) : Opnd := opnd ((cw w 2).fld 31 16)
def elC (w : List Word) : Opnd := opnd ((cw w 2).fld 15 0)
def elCount (w : List Word) : Nat := (cw w 3).fld 29 16
def elPeriod (w : List Word) : Nat := (cw w 3).fld 7 0

/-- Whether an operation uses B, and C. -/
def elUsesB (op : Nat) : Bool := 1 ≤ op && op ≤ 9 && op != 8
def elUsesC (op : Nat) : Bool := op == 4 || op == 8

/-- The operations of R228. EOP 0x08 selects between A and B by C. -/
def elemOp (op : Nat) (a b c : Word) : Word :=
  if op = 0 then a
  else if op = 1 then f32Add a b
  else if op = 2 then f32Sub a b
  else if op = 3 then f32Mul a b
  else if op = 4 then f32Fma a b c
  else if op = 5 then f32Min a b
  else if op = 6 then f32Max a b
  else if op = 7 then (if (f32 a).lt (f32 b) then f32One else 0)
  else if op = 8 then (if c.toNat % 2 ^ 31 = 0 then b else a)
  else if op = 9 then f32Ldexp a b
  else if op = 0x10 then Sfu.exp2.apply a
  else if op = 0x11 then Sfu.log2.apply a
  else if op = 0x12 then Sfu.rcp.apply a
  else Sfu.rsqrt.apply a

/-- Elements of B and C that an ELEM reads. -/
def elPart (w : List Word) : Nat := if elPeriod w = 0 then elCount w else min (elPeriod w) (elCount w)
/-- The index in B and C of element e. -/
def elIndex (w : List Word) (e : Nat) : Nat := if elPeriod w = 0 then e else e % elPeriod w

/-- Whether an ELEM fails with the command-format status (R222, R223, R228). -/
def elemBad (w : List Word) : Bool :=
  let n := elCount w
  let d := elDst w
  let useB : Bool := elUsesB (elOp w) || elOp w == 8
  !(elOp w ≤ 9 || (0x10 ≤ elOp w && elOp w ≤ 0x13)) || 128 < cmdLanes w || 7680 < n || 1 < d.kind
    || !d.ok_ n || !(elA w).ok_ n || runClash d n (elA w) n
    || (if useB then !(elB w).ok_ (elPart w) || runClash d n (elB w) (elPart w) else elB w != ⟨0, 0⟩)
    || (if elUsesC (elOp w) then !(elC w).ok_ (elPart w) || runClash d n (elC w) (elPart w)
        else elC w != ⟨0, 0⟩)

/-- One element in one lane: every source is read before the destination is written. (DEDUCED, log entry 81) -/
def Engine.elemAt (w : List Word) (l e : Nat) (x : Engine) : Engine :=
  let imm := cw w 4
  let a := x.opndAt l imm (elA w) e
  let b := x.opndAt l imm (elB w) (elIndex w e)
  let c := x.opndAt l imm (elC w) (elIndex w e)
  let v := elemOp (elOp w) a b c
  if (elDst w).kind = 0 then x.putLane l ((elDst w).index + e) [v] else x.putAcc l ((elDst w).index + e) v

def elemFoot (w : List Word) : Foot :=
  ⟨(elA w).pieces (elCount w)
      ++ (if elUsesB (elOp w) || elOp w == 8 then (elB w).pieces (elPart w) else [])
      ++ (if elUsesC (elOp w) then (elC w).pieces (elPart w) else []),
   (elDst w).pieces (elCount w)⟩

/-- PAL_ELEM (R228): element by element, in order, in every enabled lane. -/
def execPalElem (e : Fin 8) (s : State) : Host.Outcome State Fault Refusal :=
  ok (s.issueCmd e 0x21 (fun _ => [0xFFFFFF00, 0xFFFFFFFF, 0xFFFFFFFF, 0x3FFF00FF, 0xFFFFFFFF]) (fun r w s =>
    if elemBad w then s.badCmd e r
    else if r.blocked (elemFoot w) then s
    else
      let x := eachDo (fun l x => eachDo (fun k x => x.elemAt w l k) (List.range (elCount w)) x)
        (List.range (cmdLanes w)) (s.engine e)
      (s.setEngine e x).nextCmd e))

/-! ## Conversion choices (R203) -/

/-- Whether ROUND and SCALE name choices of R203 for a result format. -/
def convOk (fmt round scale : Nat) : Bool :=
  (round == 0 || (round == 1 && (fmt == 1 || fmt == 2))) && (scale == 0 || (scale == 1 && isMx fmt))

/-- fp32 words to element codes and, for an MX format, block scales. -/
def convCodes (fmt round scale : Nat) (ws : List Word) : List Nat × List Nat :=
  if isMx fmt then
    let bs := (blocksOf (ws.length / 32) ws).map (encodeBlock fmt (scale == 1))
    (bs.flatMap (·.2), bs.map (·.1))
  else (ws.map (encodeElem fmt (round == 1)), [])

/-! ## XLANE (R202, R229) -/

def xlOp (w : List Word) : Nat := (cw w 0).fld 23 22
def xlSrc (w : List Word) : Opnd := opnd ((cw w 1).fld 15 0)
def xlVec (w : List Word) : Nat := (cw w 2).fld 31 20
def xlElem (w : List Word) : Nat := (cw w 2).fld 19 8
def xlFmt (w : List Word) : Nat := (cw w 2).fld 7 4
def xlRound (w : List Word) : Nat := (cw w 2).fld 3 2
def xlScale (w : List Word) : Nat := (cw w 2).fld 1 0
def xlAcc (w : List Word) : Nat := (cw w 3).fld 19 16
def xlCount (w : List Word) : Nat := (cw w 3).fld 15 0

/-- Elements of a format in a shared vector. -/
def vecElems (fmt : Nat) : Nat := 2048 / elemBits fmt

/-- Elements that an XLANE writes to shared vectors. -/
def xlElems (w : List Word) : Nat := if xlOp w = 3 then 128 * xlCount w else xlCount w
def xlShared (w : List Word) : Bool := xlOp w == 3 || (cw w 0).bit 21

/-- Whether an XLANE fails with the command-format status. -/
def xlaneBad (w : List Word) : Bool :=
  128 < cmdLanes w || 1 < (xlSrc w).kind || !(xlSrc w).ok_ (xlCount w)
    || (xlOp w == 3 && (7 < xlFmt w || !convOk (xlFmt w) (xlRound w) (xlScale w)
        || (isMx (xlFmt w) && xlElem w % 32 != 0)))
    || (xlOp w != 3 && xlShared w && xlFmt w != 0)
    || (if xlShared w then decide (4096 * vecElems (xlFmt w) < xlVec w * vecElems (xlFmt w) + xlElem w + xlElems w)
        else decide (16 < xlAcc w + xlCount w))

/-- What a disabled lane contributes (R202, R229). -/
def xlNeutral (op : Nat) : Word := if op = 1 then 0xFF800000 else if op = 2 then 0x7F800000 else 0

/-- Value k of every lane. -/
def Engine.column (x : Engine) (w : List Word) (k : Nat) : List Word :=
  (List.range 128).map (fun l => if l < cmdLanes w then x.opndAt l 0 (xlSrc w) k else xlNeutral (xlOp w))

/-- A row reduce over the 128 logical lanes, by a fixed binary tree (R202). -/
def reduceRow (op : Nat) (ws : List Word) : Word :=
  treeFold (if op = 0 then f32Add else if op = 1 then f32Max else f32Min) 7 ws

/-- Elements written to shared vectors: codes from an element on, and block scales. -/
def Engine.putElems (x : Engine) (fmt first : Nat) (codes scales : List Nat) : Engine :=
  let x := { x with shared := Tbl.putRun (fun _ => 0) x.shared (first * elemBits fmt / 8) (codeBytes fmt codes) }
  let key (i : Nat) : Nat := (first + 32 * i) / vecElems fmt * 16 + (first + 32 * i) % vecElems fmt / 32
  let side := (List.range scales.length).foldl
    (fun t i => Tbl.put (fun _ => 0) t (key i) (BitVec.ofNat 8 (scales.getD i 0))) x.sharedScale
  if isMx fmt then { x with sharedScale := side } else x

/-- The results of an XLANE. -/
def Engine.xlane (x : Engine) (w : List Word) : Engine :=
  let ks := List.range (xlCount w)
  let first := xlVec w * vecElems (xlFmt w) + xlElem w
  if xlOp w = 3 then
    let r := convCodes (xlFmt w) (xlRound w) (xlScale w) (ks.flatMap (x.column w))
    x.putElems (xlFmt w) first r.1 r.2
  else
    let vs := ks.map (fun k => reduceRow (xlOp w) (x.column w k))
    if xlShared w then x.putElems 0 first (vs.map (·.toNat)) []
    else eachDo (fun l x => eachDo (fun k x => x.putAcc l (xlAcc w + k) (vs.getD k 0)) ks x) (List.range 128) x

def xlaneFoot (w : List Word) : Foot :=
  let first := xlVec w * vecElems (xlFmt w) + xlElem w
  ⟨(xlSrc w).pieces (xlCount w),
   if xlShared w then [⟨3, first / vecElems (xlFmt w), (first + xlElems w + vecElems (xlFmt w) - 1) / vecElems (xlFmt w)⟩]
   else [⟨2, xlAcc w, xlAcc w + xlCount w⟩]⟩

/-- PAL_XLANE (R229): a row reduce or a gather of COUNT values; LANES 0 has no effect (R222). -/
def execPalXlane (e : Fin 8) (s : State) : Host.Outcome State Fault Refusal :=
  ok (s.issueCmd e 0x22 (fun _ => [0xFFE0FF00, 0x0000FFFF, 0xFFFFFFFF, 0x000FFFFF]) (fun r w s =>
    if xlaneBad w then s.badCmd e r
    else if cmdLanes w = 0 ∨ xlCount w = 0 then s.nextCmd e
    else if r.blocked (xlaneFoot w) then s
    else (s.setEngine e ((s.engine e).xlane w)).nextCmd e))

/-! ## CONVERT (R203, R230) -/

def cvIn (w : List Word) : Nat := (cw w 0).fld 23 20
def cvOut (w : List Word) : Nat := (cw w 0).fld 19 16
def cvRound (w : List Word) : Nat := (cw w 0).fld 15 14
def cvScale (w : List Word) : Nat := (cw w 0).fld 13 12
def cvLanes (w : List Word) : Nat := (cw w 0).fld 7 0
def cvSrc (w : List Word) : Nat := (cw w 1).fld 29 16
def cvDst (w : List Word) : Nat := (cw w 1).fld 13 0
def cvElems (w : List Word) : Nat := (cw w 2).fld 15 0

/-- Slots that n elements of a format take. -/
def runSlots (fmt n : Nat) : Nat := (n * elemBits fmt + 31) / 32

/-- Whether a CONVERT fails with the command-format status. -/
def convertBad (w : List Word) : Bool :=
  let n := cvElems w
  let si := runSlots (cvIn w) n
  let so := runSlots (cvOut w) n
  7 < cvIn w || 7 < cvOut w || 128 < cvLanes w || !convOk (cvOut w) (cvRound w) (cvScale w)
    || ((isMx (cvIn w) || isMx (cvOut w)) && n % 32 != 0)
    || (isMx (cvIn w) && cvSrc w % blockSlots (cvIn w) != 0) || (isMx (cvOut w) && cvDst w % blockSlots (cvOut w) != 0)
    || 7680 < cvSrc w + si || 7680 < cvDst w + so
    || (cvSrc w != cvDst w && cvSrc w < cvDst w + so && cvDst w < cvSrc w + si)

/-- The source elements of a lane as fp32. -/
def Engine.runF32 (x : Engine) (fmt slot n l : Nat) : List Word :=
  let bytes := (x.laneRun l slot (runSlots fmt n)).flatMap Word.bytesLE
  (List.zip (List.range n) (elemCodes fmt n bytes)).map (fun p =>
    decodeElem fmt (if isMx fmt then (x.laneScale fmt l (slot + p.1 / 32 * blockSlots fmt)).toNat else 0) p.2)

/-- Element codes written to a run of a lane's slots; a last slot filled in part keeps its other bits. -/
def Engine.putRunCodes (x : Engine) (fmt slot l : Nat) (codes scales : List Nat) : Engine :=
  let n := runSlots fmt codes.length
  let new := codeBytes fmt codes
  let old := (x.laneRun l slot n).flatMap Word.bytesLE
  let x := x.putLane l slot (wordsOfBytesLE (new ++ old.drop new.length))
  eachDo (fun i x => x.putScale fmt l (slot + i * blockSlots fmt) (BitVec.ofNat 8 (scales.getD i 0)))
    (List.range scales.length) x

/-- One lane converted. -/
def Engine.convertLane (w : List Word) (l : Nat) (x : Engine) : Engine :=
  let r := convCodes (cvOut w) (cvRound w) (cvScale w) (x.runF32 (cvIn w) (cvSrc w) (cvElems w) l)
  x.putRunCodes (cvOut w) (cvDst w) l r.1 r.2

def convertFoot (w : List Word) : Foot :=
  let side (slot fmt : Nat) : List Extent :=
    let n := runSlots fmt (cvElems w)
    [⟨0, slot, slot + n⟩, ⟨1, slot / 128, (slot + n + 127) / 128⟩]
  ⟨side (cvSrc w) (cvIn w), side (cvDst w) (cvOut w)⟩

/-- PAL_CONVERT (R230): ELEMS elements in each enabled lane, every one read before any is written. -/
def execPalConvert (e : Fin 8) (s : State) : Host.Outcome State Fault Refusal :=
  ok (s.issueCmd e 0x23 (fun _ => [0xFFFFF0FF, 0x3FFF3FFF, 0x0000FFFF]) (fun r w s =>
    if convertBad w then s.badCmd e r
    else if cvElems w = 0 then s.nextCmd e
    else if r.blocked (convertFoot w) then s
    else (s.setEngine e (eachDo (fun l x => x.convertLane w l) (List.range (cvLanes w)) (s.engine e))).nextCmd e))

end Sys2Proof.Machine
end

