-- ==== Sys2Proof/Machine/EaselOps.lean ====
section
/-!
DEFINITION. Easel (12_memory_tiers_easel.md, R268, R272, R275 to R284): where pages are placed and moved,
load classes and the spill grant, stacks, and what a lost place means for its pages.
-/
namespace Sys2Proof.Machine

/-! ## Placement (R275) -/

def hbmPlace (s : State) (d : Nat) : Place := ⟨false, d, s.lowestFrame false d⟩
def cxlPlace (s : State) (k : Nat) : Place := ⟨true, k, s.lowestFrame true k⟩

/-- A die on which a page may be placed now. -/
def State.hasRoom (s : State) (d : Nat) : Bool := s.placeable d && s.freeFrames d != 0
/-- A die above FREE_LOW. -/
def State.aboveLow (s : State) (d : Nat) : Bool := s.placeable d && decide (s.freeLow < s.freeFrames d)

/-- Step 4 of R275. -/
def State.roomiest (s : State) : Option Nat :=
  let dies := if s.unsaturated.isEmpty then [0, 1, 2, 3] else s.unsaturated
  mostOf s.freeFrames (dies.filter s.hasRoom)

/-- The first location of R275 with a free frame. -/
def State.easelPlace (s : State) (pin pinDie : Nat) (aff : Option Nat) : Option Place :=
  if pin = 3 then s.bestPort.map (cxlPlace s)
  else if pin = 2 then (if s.hasRoom pinDie then some (hbmPlace s pinDie) else none)
  else
    let byAff := match aff with | some d => if s.aboveLow d then some (hbmPlace s d) else none | none => none
    match byAff with
    | some p => some p
    | none =>
      match s.roomiest with
      | some d => some (hbmPlace s d)
      | none =>
        if pin = 0 ∧ [0, 1, 2, 3].all (fun d => decide (s.freeFrames d ≤ s.freeLow)) then s.bestPort.map (cxlPlace s) else none

/-- A page of a place breaks a pin. -/
def breaksPin (pin pinDie : Nat) (p : Place) : Bool :=
  if pin = 1 then p.cxl else if pin = 2 then p.cxl || p.unit != pinDie else if pin = 3 then !p.cxl else false

/-! ## Moves (R277, R280 to R282) -/

/-- The pages listed, with their handles. -/
def State.pagesIn (s : State) (p : Page → Bool) : List (Nat × Page) := s.mem.pages.filter (fun kp => p kp.2)

/-- Moves in progress. -/
def State.moveCount (s : State) : Nat := (s.pagesIn (fun p => p.st == .migrating)).length

/-- A die that a place touches is thermally throttled. -/
def State.throttledAt (s : State) (p : Place) : Bool := !p.cxl && s.fld (R.PWR_DIE_THERM p.unit) 23 22 == 2

/-- Whether a move may start (R281). -/
def State.movesOk (s : State) (a b : Place) : Bool :=
  s.on 2 && s.fld R.MEM_EASEL_CTRL 31 31 == 1 && s.fld R.MEM_EASEL_CTRL 15 0 != 0
    && s.fld R.PWR_SUPPLY_STAT 15 13 == 0 && !s.throttledAt a && !s.throttledAt b && decide (s.moveCount < 64)

/-- Step 1 of a move: the destination frame is taken (R281). Reasons: 0 demote, 1 promote, 2 follow, 3 set
pin and removal. -/
def State.migrate (s : State) (h : Nat) (dst : Place) (why : Nat) : State :=
  let p := s.page h
  match p.st with
  | .hbm | .cxl => if s.movesOk p.at_ dst then s.setPage h { p with st := .migrating, dst := some dst, why := why } else s
  | _ => s

/-- A move abandoned: the page stays at its source (R282). -/
def Page.abandon (p : Page) : Page :=
  if p.st = .migrating then { p with st := if p.at_.cxl then .cxl else .hbm, dst := none } else p

/-- Every move that satisfies a condition abandoned. -/
def State.abandonMoves (s : State) (c : Page → Bool) : State :=
  { s with mem := { s.mem with pages := s.mem.pages.map (fun kp => if c kp.2 then (kp.1, kp.2.abandon) else kp) } }

/-- The move that a page's pin calls for (R274, R277). -/
def State.moveToPin (s : State) (h : Nat) : State :=
  let p := s.page h
  if !breaksPin p.pin p.pinDie p.at_ then s
  else match s.easelPlace p.pin p.pinDie (if p.affValid then some p.affDie else none) with
    | some dst => s.migrate h dst 3
    | none => s

/-- A page whose place is lost, or that moves to it (R272, R282, R284). -/
def Page.placeLost (cxl : Bool) (unit : Nat) (p : Page) : Page :=
  let here (x : Place) : Bool := x.cxl == cxl && x.unit == unit
  match p.st with
  | .hbm | .cxl => if here p.at_ then { p with st := .lost } else p
  | .migrating =>
    if here p.at_ then { p with st := .lost, dst := none }
    else match p.dst with
      | some x => if here x then p.abandon else p
      | none => p
  | _ => p

/-- A block in the frames of a lost place, which returns with an uncorrectable error (R35, R122, R284). -/
def SpillBlock.placeLost (place : Nat) (b : SpillBlock) : SpillBlock :=
  match b.st with
  | .filling _ => b
  | _ => if b.die = place then { b with die := lostPlace } else b

/-- The spill blocks of a lost place are not readable any more. -/
def State.spillLost (s : State) (place : Nat) : State :=
  { s with dp := { s.dp with queues := s.dp.queues.map (fun (x : Nat × EQueue) =>
      (x.1, { x.2 with spill := x.2.spill.map (SpillBlock.placeLost place) })) } }

/-- Every page of a lost place (R272, R284); their bytes are gone, and spill blocks there are not readable any more. -/
def State.pagesLost (s : State) (cxl : Bool) (unit : Nat) : State :=
  let s := s.spillLost (if cxl then 4 + unit else unit)
  let gone := s.pagesIn (fun p => (p.placeLost cxl unit).st == .lost && p.st != .lost)
  let m := { s.mem with pages := s.mem.pages.map (fun kp => (kp.1, kp.2.placeLost cxl unit)) }
  { s with mem := gone.foldl (fun m kp => m.clear (pageKey kp.1) (pageKey kp.1 + 131072)) m }

/-! ## The rules of R277 -/

def State.promoteAt (s : State) : Nat := s.fld R.MEM_EASEL_HEAT 31 24
def State.demoteAt (s : State) : Nat := s.fld R.MEM_EASEL_HEAT 23 16

/-- Handles of pages, coldest first, or hottest first. -/
def coldest (l : List (Nat × Page)) : List Nat :=
  (sortNat (l.map (fun kp => kp.2.heat * 2 ^ 28 + kp.1))).map (· % 2 ^ 28)
def hottest (l : List (Nat × Page)) : List Nat :=
  (sortNat (l.map (fun kp => (255 - kp.2.heat) * 2 ^ 28 + kp.1))).map (· % 2 ^ 28)

/-- GiB that a PENDING window still asks for (R268). -/
def State.fixWanted (s : State) (d : Nat) : Nat := s.fld (R.MEM_FIX_GIB d) 8 0 - s.fixedGib d

/-- The stack of a die in step 2 of its retirement. -/
def State.demoting (s : State) (d : Nat) : Bool :=
  ((List.range 8).map (fun i => 8 * d + i)).any (fun k => Tbl.get (fun _ => none) s.mem.retiring k == some RetireStep.demote)

/-- Frames that may be in use once a stack more is gone (R283). -/
def State.retireBound (s : State) (d : Nat) : Nat :=
  (7 - (s.stacksIn d (· == 3)).length) * 524288 - s.freeLow

/-- A die's frames are needed under R268 or R283. -/
def State.framesNeeded (s : State) (d : Nat) : Bool :=
  (s.fixWanted d != 0 && decide (s.freeFrames d < 8192 * s.fixWanted d))
    || (s.demoting d && decide (s.retireBound d < s.usedFrames d))

/-- Frames of a die that moves in progress will free. -/
def State.leaving (s : State) (d : Nat) : Nat :=
  (s.pagesIn (fun p => p.st == .migrating && !p.at_.cxl && p.at_.unit == d)).length

/-- Demotion of one page, while the rule has not stopped. -/
def State.demotePage (s : State) (d h : Nat) : State :=
  let need := s.framesNeeded d
  if !need ∧ s.freeLow + 32768 ≤ s.freeFrames d + s.leaving d then s
  else
    let p := s.page h
    match (if p.pin = 0 then s.bestPort else none) with
    | some k => s.migrate h (cxlPlace s k) 0
    | none =>
      if !need ∨ s.bestPort.isSome then s
      else match mostOf s.freeFrames ((List.range 4).filter (fun e => e != d && s.hasRoom e)) with
        | some e => s.migrate h (hbmPlace s e) 0
        | none => s

/-- The demote rule of a die (R277, R280). -/
def State.demoteDie (s : State) (d : Nat) : State :=
  let due := s.dieUp d && (decide (s.freeFrames d < s.freeLow) || s.framesNeeded d
    || (s.classAt d == .saturated && s.classAt 5 != .saturated))
  if !due then s
  else forEach (fun h s => s.demotePage d h)
    (coldest (s.pagesIn (fun p => p.st == .hbm && p.at_.unit == d && (p.pin == 0 || p.pin == 1) && decide (p.heat ≤ s.demoteAt)))) s

/-- The die of a page's majority reader, with its reads and all reads (R276). (DEDUCED, log entry 98) -/
def Page.majority (p : Page) : Option Nat :=
  let all := p.reads.get 0 + p.reads.get 1 + p.reads.get 2 + p.reads.get 3 + p.otherReads
  (List.range 4).find? (fun d => all < 2 * p.reads.get d)

/-- The promote rule for one CXL page (R277). -/
def State.promotePage (s : State) (h : Nat) : State :=
  let p := s.page h
  let to_ := if p.affValid then some p.affDie else match p.majority with | some d => some d | none => s.roomiest
  match to_ with
  | some d => if s.aboveLow d then s.migrate h (hbmPlace s d) 1 else s
  | none => s

/-- The follow rule for one HBM page (R277). -/
def State.followPage (s : State) (h : Nat) : State :=
  let p := s.page h
  let all := p.reads.get 0 + p.reads.get 1 + p.reads.get 2 + p.reads.get 3 + p.otherReads
  match (List.range 4).find? (fun d => d != p.at_.unit && all != 0 && decide (3 * all ≤ 4 * p.reads.get d)) with
  | some d => if s.aboveLow d ∧ s.classAt d ≠ .saturated then s.migrate h (hbmPlace s d) 2 else s
  | none => s

/-- Promotions and follow moves; with PROMOTE 0 both are off. -/
def State.heatMoves (s : State) : State :=
  let n := s.promoteAt
  if n = 0 then s
  else
    let s := forEach (fun h s => s.promotePage h)
      (hottest (s.pagesIn (fun p => p.st == .cxl && p.pin == 0 && decide (n ≤ p.heat)))) s
    forEach (fun h s => s.followPage h)
      (hottest (s.pagesIn (fun p => p.st == .hbm && (p.pin == 0 || p.pin == 1) && decide (n ≤ p.heat)))) s

/-- With CXL saturated and a die idle and above FREE_LOW, the hottest CXL pages go there (R280). -/
def State.relieveCxl (s : State) : State :=
  if s.classAt 5 ≠ .saturated then s
  else
    match (List.range 4).find? (fun d => s.classAt d == .idle && s.aboveLow d) with
    | some d =>
      forEach (fun h (s : State) => if s.aboveLow d then s.migrate h (hbmPlace s d) 1 else s)
        (hottest (s.pagesIn (fun p => p.st == .cxl && p.pin == 0))) s
    | none =>
      if (List.range 4).all (fun d => s.classAt d == .saturated || decide (s.freeFrames d ≤ s.freeLow)) then
        s.placement 1 none
      else s

/-- Pages that a managed removal moves off a port (R272). -/
def State.emptyPort (s : State) (k : Nat) : State :=
  if s.cxlSt k ≠ 3 ∨ s.cxlFix k ≠ 0 then s
  else forEach (fun h (s : State) =>
    let p := s.page h
    if p.pin = 3 then
      (match s.bestPort with | some j => s.migrate h (cxlPlace s j) 3 | none => s)
    else match s.roomiest with
      | some d => s.migrate h (hbmPlace s d) 3
      | none => (match s.bestPort with | some j => s.migrate h (cxlPlace s j) 3 | none => s))
    (coldest (s.pagesIn (fun p => p.st == .cxl && p.at_.unit == k))) s

/-- Every move that Easel may start now. (DEDUCED, log entry 96) -/
def State.easelMoves (s : State) : State :=
  let s := forEach (fun (kp : Nat × Page) (s : State) => s.moveToPin kp.1)
    (s.pagesIn (fun p => p.st == .hbm || p.st == .cxl)) s
  let s := forEach (fun d (s : State) => s.demoteDie d) [0, 1, 2, 3] s
  let s := forEach (fun k (s : State) => s.emptyPort k) (List.range 8) s
  s.heatMoves.relieveCxl

/-! ## Classes and the grant (R279, R280) -/

/-- SAT_PCT, at most 100; 0 saturates nothing. -/
def State.satPct (s : State) : Nat := min 100 (s.fld R.MEM_EASEL_SAT 15 8)
def State.idlePct (s : State) : Nat := s.fld R.MEM_EASEL_SAT 7 0

/-- The class of a percentage. -/
def State.loadClass (s : State) (pct : Nat) (waited : Bool) : LoadClass :=
  if s.satPct ≠ 0 ∧ s.satPct ≤ pct ∧ waited then .saturated else if pct < s.idlePct then .idle else .normal

/-- The raw class of the buffer: tight (`saturated`), idle or neither. -/
def State.bufferClass (s : State) : LoadClass :=
  if 8 * s.freeShared < s.cellTotal then .saturated
  else if s.cellTotal < 2 * s.freeShared ∧ s.dp.queues.all (fun kq => kq.2.spill.isEmpty) then .idle
  else .normal

/-- A class takes effect when it holds for two intervals in a row (R279). -/
def State.setClass (s : State) (i : Nat) (raw : LoadClass) : State :=
  let old := Tbl.get (fun _ => .normal) s.mem.rawClass i
  let m := { s.mem with rawClass := Tbl.put (fun _ => .normal) s.mem.rawClass i raw }
  { s with mem := if raw = old then { m with class_ := Tbl.put (fun _ => .normal) m.class_ i raw } else m }

/-- CLASS of MEM.DIE_LOAD. -/
def LoadClass.code : LoadClass → Nat
  | .normal => 0
  | .idle => 1
  | .saturated => 2

/-- G halved: not below SPILL_FLOOR; with a floor of 0, below 125 GB/s it is 0 (R280). -/
def halveG (g floor_ : Nat) : Nat :=
  let h := g / 2
  if floor_ = 0 then (if h < 125 then 0 else h) else max h floor_

/-- G doubled; from 0 it rises to 125 GB/s. -/
def doubleG (g top : Nat) : Nat := if g = 0 then min 125 top else min (2 * g) top

/-- The grant after an interval (R280). (DEDUCED, log entry 100) -/
def State.nextGrant (s : State) : Nat :=
  let g := s.fld R.MEM_SPILL_GRANT 15 0
  let fl := s.fld R.MEM_SPILL_FLOOR 15 0
  if s.unsaturated.isEmpty then halveG g fl
  else if s.classAt 4 = .saturated ∧ s.unsaturated.length = 4 then doubleG g 8000
  else if 4000 < g then max 4000 (halveG g fl)
  else if g < 4000 then doubleG g 4000
  else g

/-! ## Stacks (R264 to R266, R283, R284) -/

/-- A stack changes its state, with EV_STACK_STATE (R266). -/
def State.stackTo (s : State) (k st : Nat) : State :=
  (s.setStack k st).raise { code := 0x0503, sev := if st = 4 then 2 else 0, kind := 9, index := k, arg0 := st }

def State.setRetiring (s : State) (k : Nat) (r : Option RetireStep) : State :=
  { s with mem := { s.mem with retiring := Tbl.put (fun _ => none) s.mem.retiring k r } }
def State.retiringAt (s : State) (k : Nat) : Option RetireStep := Tbl.get (fun _ => none) s.mem.retiring k

/-- The slice of frame f that sits on a stack (R265). -/
def sliceOn (k f : Nat) : Nat := (k % 8 + 8 - f % 8) % 8

/-- The slices, by number, that a stack holds: of pages on its die and of the die's fixed window. -/
def State.stackSlices (s : State) (k : Nat) : List Nat :=
  let d := k / 8
  let ofPages := (s.pagesIn (fun p => (p.st == .hbm || p.st == .migrating) && !p.at_.cxl && p.at_.unit == d)).map
    (fun kp => pageKey kp.1 / 16384 + sliceOn k kp.2.at_.frame)
  let ofFixed := (List.range (8192 * s.fixedGib d)).map (fun f => memKey d 0 / 16384 + 8 * f + sliceOn k f)
  ofPages ++ ofFixed

/-- The stack that holds a key of HBM, if the key has a frame there. -/
def State.stackOf (s : State) (key : Nat) : Option Nat :=
  let slice := key / 16384
  match rangeOf key with
  | .fixed d => some (8 * d + (slice / 8 + slice) % 8)
  | .handle h =>
    let p := s.page h
    if p.at_.cxl ∨ p.st = .unmapped ∨ p.st = .lost then none else some (8 * p.at_.unit + (p.at_.frame + slice) % 8)
  | _ => none

/-- The series-table entries on a stack read poisoned: their sources are in first contact again (R250, R284). A tracker that
is active holds its own. (DESIGN CHOICE, log entry 180) -/
def State.seriesPoisoned (s : State) (k : Nat) : State :=
  let h := s.home (k / 8)
  s.setHome (k / 8) { h with series := h.series.filter (fun x => h.isActive x.1 || !Config.seriesOn (k / 8) x.1 (k % 8)) }

/-- A stack failed (R284): its slices read as poisoned, and Easel relocates them if the remap table has room.
(DEDUCED, log entry 102) -/
def State.failStack (s : State) (k : Nat) : State :=
  let d := k / 8
  let bad := s.stackSlices k
  let others := ((s.stacksIn d (fun st => st == 3 || st == 4)).filter (· != k)).length
  let s := (s.stackTo k 4).seriesPoisoned k
  let s := { s with mem := { s.mem with badSlices := bad.foldl (fun t x => Tbl.put (fun _ => false) t x true) s.mem.badSlices } }
  let s := s.abandonMoves (fun p => match p.dst with | some x => !x.cxl && x.unit == d | none => false)
  if (s.retiringAt k).isSome ∨ 2 ≤ others then s else s.setRetiring k (some .demote)

/-- Slices of a FAILED stack relocated with poisoned contents: every line of them is poisoned (R284). -/
def Memory.spreadPoison (m : Memory) (l : List Nat) : Memory :=
  let bad := l.filter (fun x => Tbl.get (fun _ => false) m.badSlices x)
  { m with badSlices := bad.foldl (fun t x => Tbl.put (fun _ => false) t x false) m.badSlices,
           poison := bad.foldl (fun t x => (List.range 256).foldl (fun t i => Tbl.put (fun _ => false) t (x * 256 + i) true) t) m.poison }

/-- The lock of a retirement is granted: DRAINING (R283). -/
def State.startStack (k : Nat) (s : State) : State :=
  if s.stackSt k = 1 then (s.stackTo k 2).setRetiring k (some .demote) else s.setRetiring k (some .demote)

/-- Retirement of a stack begins, behind its lock. (DEDUCED, log entry 101) -/
def State.beginRetire (s : State) (k : Nat) : State :=
  (s.setRetiring k (some .lock)).requestMaint (.stack k) (State.startStack k)

/-- One newly set bit of MEM.STACK_RETIRED (R283, R284). -/
def State.retireBit (s : State) (k : Nat) : State :=
  let d := k / 8
  let mask := s.fld R.MEM_STACK_RETIRED 31 0
  let busy := ((List.range 8).map (fun i => 8 * d + i)).any (fun j => (s.retiringAt j).isSome)
  let n := ((List.range 8).filter (fun i => mask.testBit (8 * d + i) || s.stackSt (8 * d + i) == 4)).length
  if mask.testBit k then s
  else if s.stackSt k ≠ 4 ∧ 2 ≤ n then s.setF R.MEM_STACK_OPSTAT 3 0 5
  else
    let s := s.setF R.MEM_STACK_RETIRED 31 0 (mask + 2 ^ k)
    if s.stackSt k = 0 ∨ s.stackSt k = 3 ∨ (s.retiringAt k).isSome then s.setF R.MEM_STACK_OPSTAT 3 0 0
    else if busy then
      ({ s with mem := { s.mem with retireQ := s.mem.retireQ ++ [k] } } : State).setF R.MEM_STACK_OPSTAT 3 0 2
    else (s.beginRetire k).setF R.MEM_STACK_OPSTAT 3 0 0

/-- A line found uncorrectable (R264): poisoned, counted; more than 64 of a stack in 1 s fail it (R284). -/
def State.lineBad (s : State) (key : Nat) : State :=
  let s := { s with mem := { s.mem with poison := Tbl.put (fun _ => false) s.mem.poison (key / 64) true } }
  let s := s.bump C.MEM_HBM_UE 1
  match s.stackOf key with
  | none => s
  | some k =>
    let s := s.partErr 9 k 1 1
    let l := s.now :: (Tbl.get (fun _ => []) s.mem.ueTimes k).filter (fun t => s.now < t + 1000000000)
    let s := { s with mem := { s.mem with ueTimes := Tbl.put (fun _ => []) s.mem.ueTimes k l } }
    if 64 < l.length ∧ (s.stackSt k = 1 ∨ s.stackSt k = 2) then s.failStack k else s

/-! ## CXL ports (R271, R272) -/

/-- EV_CXL_PORT (R372). -/
def State.cxlEvent (s : State) (k cls : Nat) : State :=
  s.raise { code := 0x0505, sev := 1, kind := 0xA, index := k, arg0 := s.cxlSt k, arg1 := cls }

/-- Capacity that the other ports leave of the module's 16 TiB (R271). -/
def State.cxlLeft (s : State) (k : Nat) : Nat :=
  16384 - (((List.range 8).filter (fun j => j != k)).map (fun j => if s.cxlServes j then s.cxlCap j else 0)).sum

/-- A port has failed at an instant, or has not (R272). -/
def State.cxlFailed (s : State) (k : Nat) (t : Option Nat) : State :=
  { s with mem := { s.mem with cxlFailAt := Tbl.put (fun _ => none) s.mem.cxlFailAt k t } }

/-- A port's link is down: its pool's pages are LOST, and no capacity is in use (R272, R286).
(DEDUCED, log entry 103) -/
def State.cxlDown (s : State) (k st : Nat) : State :=
  let s := (s.setCxlSt k st).cxlFailed k (if st = 4 then some s.now else none)
  let s := (((s.setF (R.CXL_PORT_STAT k) 27 23 0).setF (R.CXL_PORT_STAT k) 20 17 0).setF (R.CXL_PORT_STAT k) 13 0 0)
  (s.pagesLost true k).cxlEvent k 0

/-- The lock of a port's addition is granted: it trains. -/
def State.startCxlAdd (k : Nat) (s : State) : State := (s.setCxlSt k 1).cxlEvent k 0
/-- The lock of a port's removal is granted. -/
def State.startCxlRemove (k : Nat) (s : State) : State := ((s.setCxlSt k 3).cxlEvent k 0).emptyPort k

end Sys2Proof.Machine
end

