-- ==== Sys2Proof/Machine/Easel.lean ====
section
/-!
DEFINITION. The commands of switch memory, Easel and the CXL tier (12_memory_tiers_easel.md).
-/
namespace Sys2Proof.Machine

/-! ## Pages (R273, R274) -/

/-- STATE of R273. -/
def PageState.code : PageState → Nat
  | .unmapped => 0
  | .hbm => 1
  | .cxl => 2
  | .migrating => 3
  | .lost => 4

/-- Words of a location. -/
def Place.word (p : Place) : Word := ((0 : Word).setFld 31 29 p.unit).setFld 25 0 p.frame

/-- The four words of a page-map entry (R273). -/
def Page.words (p : Page) : List Word :=
  let w0 := ((((((0 : Word).setFld 31 29 p.st.code).setFld 28 27 p.pin).setFld 26 25 p.pinDie).setFld 24 24
    (bit01 p.affValid)).setFld 23 22 p.affDie).setFld 7 0 p.heat
  let w1 := match p.st with | .hbm | .cxl | .migrating => p.at_.word | _ => 0
  match p.dst with
  | some d => [w0, w1, (0 : Word).setFld 31 29 (if d.cxl then 2 else 1), d.word]
  | none => [w0, w1, 0, 0]

/-- A write of PAGE_DATA_0 with a reserved bit set (R274). -/
def pageDataBad (w : Word) : Bool := w.fld 21 8 != 0

/-- Bytes of a page made zero, with no poison and no line of it left in the anchor's buffer. -/
def State.zeroPage (s : State) (h : Nat) : State := s.zeroRange (pageKey h) (pageKey h + 131072)

/-- PAGE_ALLOC (R274, R275): the handle's page is placed, zeroed and mapped. Status 4: not UNMAPPED; 1: no
free frame that the pin allows; 3: a reserved bit. -/
def execPageAlloc (h : Fin 268435456) (s : State) : Host.Outcome State Fault Refusal :=
  ok (s.gate R.MEM_PAGE_CMD (fun s =>
    let w := s.rd (R.MEM_PAGE_DATA 0)
    let pin := w.fld 28 27
    let aff := if w.fld 24 24 = 1 then some (w.fld 23 22) else none
    if pageDataBad w then s.setF R.MEM_PAGE_STAT 3 0 3
    else if (s.page h).st ≠ .unmapped then s.setF R.MEM_PAGE_STAT 3 0 4
    else match s.easelPlace pin (w.fld 26 25) aff with
      | none => s.setF R.MEM_PAGE_STAT 3 0 1
      | some p =>
        let s := s.zeroPage h
        (s.setPage h { Page.init with st := if p.cxl then .cxl else .hbm, pin := pin, pinDie := w.fld 26 25,
                                      affValid := aff.isSome, affDie := w.fld 23 22, at_ := p }).setF R.MEM_PAGE_STAT 3 0 0))

/-- PAGE_FREE (R274, R282): the page is unmapped and its frames are freed. -/
def execPageFree (h : Fin 268435456) (s : State) : Host.Outcome State Fault Refusal :=
  ok (s.gate R.MEM_PAGE_CMD (fun s =>
    if (s.page h).st = .unmapped then s.setF R.MEM_PAGE_STAT 3 0 4
    else ((s.zeroPage h).setPage h Page.init).setF R.MEM_PAGE_STAT 3 0 0))

/-- PAGE_READ (R274): the entry goes into MEM.PAGE_DATA_0–3. -/
def execPageRead (h : Fin 268435456) (s : State) : Host.Outcome State Fault Refusal :=
  ok (s.gate R.MEM_PAGE_CMD (fun s =>
    (s.wrWords (R.MEM_PAGE_DATA 0) (s.page h).words).setF R.MEM_PAGE_STAT 3 0 0))

/-- PAGE_SET_PIN (R274, R282): the pin fields are written, and a page that breaks them is moved. Status 1:
the new pin has no free frame; 4: UNMAPPED or LOST; 3: a reserved bit. -/
def execPageSetPin (h : Fin 268435456) (s : State) : Host.Outcome State Fault Refusal :=
  ok (s.gate R.MEM_PAGE_CMD (fun s =>
    let w := s.rd (R.MEM_PAGE_DATA 0)
    let pin := w.fld 28 27
    let die := w.fld 26 25
    let p := s.page h
    let breaks := breaksPin pin die p.at_ && (match p.dst with | some x => breaksPin pin die x | none => true)
    let aff := if p.affValid then some p.affDie else none
    if pageDataBad w then s.setF R.MEM_PAGE_STAT 3 0 3
    else if p.st = .unmapped ∨ p.st = .lost then s.setF R.MEM_PAGE_STAT 3 0 4
    else if breaks ∧ (s.easelPlace pin die aff).isNone then s.setF R.MEM_PAGE_STAT 3 0 1
    else
      let p := match p.dst with | some d => if breaksPin pin die d then p.abandon else p | none => p
      let s := s.setPage h { p with pin := pin, pinDie := die }
      (s.moveToPin h).setF R.MEM_PAGE_STAT 3 0 0))

/-- PAGE_COPY_DONE (R281): the chunks are copied, held lines written back, the map is switched and the
source frame freed. -/
def execPageCopyDone (h : Fin 268435456) (s : State) : Host.Outcome State Fault Refusal :=
  let p := s.page h
  match p.st, p.dst with
  | .migrating, some d =>
    let lines := ((s.home (h % 4)).lines.filter (fun l => l.line / 2048 == pageKey h / 131072)).map (·.line)
    let s := s.writeBack (h % 4) lines
    let s : State := { s with mem := s.mem.spreadPoison ((List.range 8).map (fun i => pageKey h / 16384 + i)) }
    let p := s.page h
    let s := s.setPage h { p with st := if d.cxl then .cxl else .hbm, at_ := d, dst := none }
    let s := s.bump C.MEM_MIG_BYTES 131072
    ok (if p.why = 0 then s.bump C.MEM_DEMOTIONS 1 else if p.why = 1 then s.bump C.MEM_PROMOTIONS 1
        else if p.why = 2 then s.bump C.MEM_FOLLOW_MOVES 1 else s)
  | _, _ => ok s

/-- HEAT_HALVING (R276): every HEAT_MS every HEAT is halved, and an interval of the reads by die ends. -/
def execHeatHalving (s : State) : Host.Outcome State Fault Refusal :=
  let ms := s.fld R.MEM_EASEL_HEAT 15 0
  if ms = 0 ∨ !s.on 2 then ok s
  else
    let s := s.reach (s.mem.heatAt + ms * 1000000)
    let pages := s.mem.pages.map (fun kp => (kp.1, { kp.2 with heat := kp.2.heat / 2, reads := Four.zero, otherReads := 0 }))
    ok { s with mem := { s.mem with heatAt := s.now, pages := pages } }

/-! ## Fixed windows (R268) -/

/-- FIX_GIB_WRITE (R268): a larger window is PENDING until it is mapped; a smaller one stops being mapped at
once, and its bytes are zeroed. (DEDUCED, log entry 89) -/
def execFixGibWrite (d : Fin 4) (gib : Fin 512) (s : State) : Host.Outcome State Fault Refusal :=
  ok (s.gate (R.MEM_FIX_GIB d) (fun s =>
    let old := s.fixedGib d
    let s := s.setF (R.MEM_FIX_GIB d) 8 0 gib
    if old < gib then
      let s := s.setF (R.MEM_FIX_GIB d) 31 31 1
      if s.freeFrames d < 8192 * (gib - old) then s.placement 0 (some d) else s
    else
      let s := s.zeroRange (memKey d (gib * 2 ^ 30)) (memKey d (old * 2 ^ 30))
      ({ s with mem := { s.mem with fixed := Tbl.put (fun _ => 0) s.mem.fixed d gib } } : State).setF (R.MEM_FIX_GIB d) 31 31 0))

/-- FIX_WINDOW_MAPPED (R268): enough frames are free and the new range is zeroed, so it is mapped; while
frames are short the placement event recurs once per second. -/
def execFixWindowMapped (d : Fin 4) (s : State) : Host.Outcome State Fault Refusal :=
  let want := s.fixWanted d
  if s.fld (R.MEM_FIX_GIB d) 31 31 = 0 ∨ !s.dieUp d then ok s
  else if s.freeFrames d < 8192 * want then ok (s.placement 0 (some d))
  else
    let old := s.fixedGib d
    let m := s.mem.clear (memKey d (old * 2 ^ 30)) (memKey d ((old + want) * 2 ^ 30))
    ok (({ s with mem := { m with fixed := Tbl.put (fun _ => 0) m.fixed d (old + want) } } : State).setF (R.MEM_FIX_GIB d) 31 31 0)

/-! ## Easel's interval (R279, R280) -/

/-- A die's utilisation and class in MEM.DIE_LOAD. -/
def State.setLoad (s : State) (d pct : Nat) : State :=
  (s.setF (R.MEM_DIE_LOAD d) 6 0 pct).setF (R.MEM_DIE_LOAD d) 31 30 (s.classAt d).code

/-- EASEL_INTERVAL (R279, R280): the classes of the dies (percent served, and whether requests waited), of
the buffer and of CXL (percent read and written), the grant G, and the moves that follow.
(DESIGN CHOICE, log entry 97) -/
def execEaselInterval (u0 u1 u2 u3 : Fin 101) (waited : Fin 16) (cxlRd cxlWr : Fin 101) (s : State) :
    Host.Outcome State Fault Refusal :=
  if !s.on 2 then ok s
  else
    let s := s.reach (s.mem.intervalAt + 100000)
    let s := { s with mem := { s.mem with intervalAt := s.now } }
    let us := [u0.val, u1.val, u2.val, u3.val]
    let s := forEach (fun d (s : State) => s.setClass d (s.loadClass (us.getD d 0) (waited.val.testBit d))) [0, 1, 2, 3] s
    let s := s.setClass 4 s.bufferClass
    let s := s.setClass 5 (s.loadClass (max cxlRd.val cxlWr.val) true)
    let s := forEach (fun d (s : State) => s.setLoad d (us.getD d 0)) [0, 1, 2, 3] s
    let s := (s.setF R.MEM_SPILL_GRANT 15 0 s.nextGrant).readbackAll
    ok s.easelMoves

/-! ## Spill frames (R279) -/

/-- Bytes of the packets in a queue's spill blocks. -/
def EQueue.spilledBytes (q : EQueue) : Nat := (q.spill.map (fun b => (b.items.map Item.size).sum)).sum

/-- The queue with the most spilled bytes. -/
def State.mostSpilled (s : State) : Option Nat :=
  mostOf (fun k => (s.queue k).spilledBytes) ((s.dp.queues.filter (fun kq => spillBlocksOf kq.2 != 0)).map (·.1))

/-- The oldest block of a queue reclaimed: its packets dropped under reason 0x15. -/
def State.reclaimBlock (s : State) (k : Nat) : State :=
  let q := s.queue k
  match q.spill with
  | [] => s
  | b :: bs =>
    let s := s.setQueue k { q with spill := bs }
    let s := (forEach (fun it s => s.dropItem drSpillLimit k it) b.items s).emptied k
    { s with dp := { s.dp with blocksLost := s.dp.blocksLost + (if b.st = .inHbm ∨ b.st = .reading then 1 else 0) } }

/-- Blocks reclaimed, one queue after another, until the amount in use fits. Fuel bounds their number. -/
def reclaimSpill (max_ : Nat) : Nat → Option Nat → State → State
  | 0, _, s => s
  | n + 1, cur, s =>
    if s.spillBlocks * 16384 ≤ max_ then s
    else
      let go := match cur with
        | some k => if spillBlocksOf (s.queue k) = 0 then s.mostSpilled else some k
        | none => s.mostSpilled
      match go with
      | none => s
      | some k => reclaimSpill max_ n (some k) (s.reclaimBlock k)

/-- SPILL_MAX_WRITE (R279): SPILL_MAX_GIB written; lowered below the amount in use, blocks are reclaimed. -/
def execSpillMaxWrite (gib : Fin 65536) (s : State) : Host.Outcome State Fault Refusal :=
  ok (s.gate R.MEM_EASEL_SPACE (fun s =>
    let s := s.setF R.MEM_EASEL_SPACE 31 16 gib
    reclaimSpill (gib * 2 ^ 30) s.spillBlocks none s))

/-! ## Stacks (R264, R283, R284) -/

/-- STACK_RETIRE_REQUEST (R283, R284): a write of MEM.STACK_RETIRED; each bit newly written 1 starts, queues
or refuses a retirement. -/
def execStackRetireRequest (w : Word) (s : State) : Host.Outcome State Fault Refusal :=
  ok (s.gate R.MEM_STACK_RETIRED (fun s =>
    forEach (fun k (s : State) => if w.bit k then s.retireBit k else s) (List.range 32) s))

/-- STACK_DEMOTE_DONE (R283): step 2 ends when the frames in use are within the bound; until then the
placement event recurs once per second where the frames that stay exceed it alone. -/
def execStackDemoteDone (k : Fin 32) (s : State) : Host.Outcome State Fault Refusal :=
  let d := k.val / 8
  if s.retiringAt k ≠ some .demote then ok s
  else if s.usedFrames d ≤ s.retireBound d then ok (s.setRetiring k (some .relocate))
  else
    let pinned := (s.pagesIn (fun p => !p.at_.cxl && p.at_.unit == d && p.pin == 2)).length
    if s.retireBound d < sysFrames + 8192 * s.fixedGib d + pinned then ok (s.placement 2 (some d)) else ok s

/-- STACK_RELOCATE_DONE (R283, R284): the last slice is relocated; the stack is RETIRED, its lock is
released, and a queued retirement of the die begins. With RETIRE_GBPS 0 relocation does not run. -/
def execStackRelocateDone (k : Fin 32) (s : State) : Host.Outcome State Fault Refusal :=
  let d := k.val / 8
  if s.retiringAt k ≠ some .relocate ∨ s.fld R.MEM_EASEL_RETIRE 15 0 = 0 then ok s
  else
    let s := { s with mem := s.mem.spreadPoison (s.stackSlices k) }
    let s := s.bump C.MEM_RELOC_BYTES (16384 * s.usedFrames d)
    let s := (s.setF (R.MEM_STACK_STAT k) 6 0 100).stackTo k 3
    let mask := s.fld R.MEM_STACK_RETIRED 31 0
    let s := if mask.testBit k then s else s.setF R.MEM_STACK_RETIRED 31 0 (mask + 2 ^ k.val)
    let s := (s.setRetiring k none).endMaint (.stack k) 2
    match s.mem.retireQ.find? (fun j => j / 8 == d) with
    | none => ok s
    | some j => ok (({ s with mem := { s.mem with retireQ := s.mem.retireQ.filter (· != j) } } : State).beginRetire j)

/-- STACK_FAIL (R284): a stack stops responding, or fails training. -/
def execStackFail (k : Fin 32) (s : State) : Host.Outcome State Fault Refusal :=
  if s.stackSt k = 1 ∨ s.stackSt k = 2 then ok (s.failStack k) else ok s

/-- A line of a stack read by the scrub, with its outcome. -/
def State.scrubLine (s : State) (k key outcome : Nat) : State :=
  if s.stackSt k = 4 ∨ s.poisoned key then s
  else if outcome = 1 then (s.bump C.MEM_HBM_CE 1).partErr 9 k 0 1
  else if outcome = 3 then ((s.bump C.MEM_HBM_CE 1).partErr 9 k 0 1).partErr 9 k 2 1
  else if outcome = 2 then s.lineBad key
  else s

/-- The die whose HBM holds a place. -/
def Serve.hbmDie : Serve → Option Nat
  | .place false d => some d
  | .place true _ | .unmapped | .dead => none

/-- The scrub of a line: nothing happens to one that no stack holds, or whose memory die has no link. -/
def State.scrubOn (s : State) (stack die : Option Nat) (key : Nat) (outcome : Fin 4) : State :=
  match stack, die with
  | some k, some d => if s.dieUp d then s.scrubLine k key outcome else s
  | _, _ => s

/-- HBM_SCRUB (R264): a line of HBM is read by the scrub: 0 clean, 1 corrected and written back, 2
uncorrectable, and poisoned until a write covers it, 3 corrected, and its row repaired for its repeated corrected
errors. -/
def execHbmScrub (home : Fin 4) (line : Fin 1099511627776) (outcome : Fin 4) (s : State) :
    Host.Outcome State Fault Refusal :=
  let key := memKey home (line * 64)
  ok (s.scrubOn (s.stackOf key) (s.serve key).hbmDie key outcome)

/-! ## CXL (R270 to R272, R286) -/

/-- When EN of a CXL port was set: PERST# is released 100 ms later (R441). A port that is off has it asserted. -/
def State.cxlClock (s : State) (k : Nat) (en : Bool) : State :=
  let at_ : Option Nat := if en then some ((Tbl.get (fun _ => none) s.mem.cxlEnAt k).getD s.now) else none
  { s with mem := { s.mem with cxlEnAt := Tbl.put (fun _ => none) s.mem.cxlEnAt k at_ } }

/-- CXL_PORT_ENABLE (R286): EN and FIX_GIB of CXL.PORT_CTRL_k written: 1 trains a port that is DOWN, 0 takes
its link down. -/
def execCxlPortEnable (k : Fin 8) (en : Bool) (fix : Fin 8192) (s : State) : Host.Outcome State Fault Refusal :=
  ok (s.gate (R.CXL_PORT_CTRL k) (fun s =>
    let s := ((s.setF (R.CXL_PORT_CTRL k) 31 31 (bit01 en)).setF (R.CXL_PORT_CTRL k) 12 0 fix).cxlClock k en
    if en ∧ s.cxlSt k = 0 then s.requestMaint (.cxlAdd k) (State.startCxlAdd k)
    else if !en ∧ s.cxlSt k ≠ 0 then
      ((s.cxlDown k 0).endMaint (.cxlAdd k) 3).endMaint (.cxlRemove k) 3
    else s.emptyPort k))

/-- CXL_PORT_TRAINED (R270 to R272, R441): a port in training, 100 ms or more after EN was set, is UP with a width, a speed, decoders and a
capacity in GiB; its extent is mapped with undefined contents. -/
def execCxlPortTrained (k : Fin 8) (cap : Fin 16384) (width : Fin 17) (speed : Fin 3) (decoders : Fin 9) (s : State) :
    Host.Outcome State Fault Refusal :=
  if s.cxlSt k ≠ 1 ∨ !s.on 20 then ok s
  else
    let c := min (min cap.val 8192) (s.cxlLeft k)
    let s := s.reach ((Tbl.get (fun _ => none) s.mem.cxlEnAt k).elim 0 (· + 100000000))
    let s := ((((s.setCxlSt k 2).setF (R.CXL_PORT_STAT k) 27 23 width).setF (R.CXL_PORT_STAT k) 22 21 speed).setF
      (R.CXL_PORT_STAT k) 20 17 decoders).setF (R.CXL_PORT_STAT k) 13 0 c
    let m := s.mem
    let m := { m with cxlGen := Tbl.upd (fun _ => 0) m.cxlGen k (· + 1),
                      cxlBytes := m.cxlBytes.filter (fun kb => extentPort kb.1 != k) }
    ok (((({ s with mem := m } : State).cxlFailed k none).cxlEvent k 0).endMaint (.cxlAdd k) 2)

/-- CXL_REMOVE (R272): REMOVE written: a port that is UP is removed, once its lock is held. -/
def execCxlRemove (k : Fin 8) (s : State) : Host.Outcome State Fault Refusal :=
  ok (s.gate (R.CXL_PORT_CTRL k) (fun s =>
    if s.cxlSt k = 2 then s.requestMaint (.cxlRemove k) (State.startCxlRemove k) else s))

/-- CXL_REMOVE_DONE (R272): FIX_GIB is 0 and no page is left on the port: its link is taken down. -/
def execCxlRemoveDone (k : Fin 8) (s : State) : Host.Outcome State Fault Refusal :=
  if s.cxlSt k ≠ 3 ∨ s.cxlFix k ≠ 0 ∨ s.takenFrames true k ≠ [] ∨ s.spillFramesAt (4 + k) ≠ 0 then ok (s.emptyPort k)
  else ok (((s.cxlDown k 0).cxlClock k false).endMaint (.cxlRemove k) 2)

/-- CXL_PORT_FAIL (R272): the link goes down or the device reports a fatal error; the pool's pages are LOST. -/
def execCxlPortFail (k : Fin 8) (s : State) : Host.Outcome State Fault Refusal :=
  let st := s.cxlSt k
  if st = 0 ∨ st = 4 then ok s
  else
    ok (((s.cxlDown k 4).endMaint (.cxlRemove k) 3).endMaint (.cxlAdd k) 3)

/-- CXL_RETRAIN_TICK (R272): 1 s after its failure a port whose EN is 1 trains again. -/
def execCxlRetrainTick (k : Fin 8) (s : State) : Host.Outcome State Fault Refusal :=
  if s.cxlSt k ≠ 4 ∨ s.fld (R.CXL_PORT_CTRL k) 31 31 = 0 ∨ !s.on 20 then ok s
  else
    let s := s.reach ((Tbl.get (fun _ => none) s.mem.cxlFailAt k).getD s.now + 1000000000)
    ok (((s.cxlFailed k (some s.now)).setCxlSt k 1).cxlEvent k 0)

/-- CXL_DEVICE_EVENT (R270): hub firmware reads a device event of a class and raises EV_CXL_PORT. -/
def execCxlDeviceEvent (k : Fin 8) (cls : Fin 256) (s : State) : Host.Outcome State Fault Refusal :=
  if s.cxlServes k ∧ s.on 2 then ok (s.cxlEvent k cls) else ok s

end Sys2Proof.Machine
end

