-- ==== Sys2Proof/Machine/HostRings.lean ====
section
/-!
DEFINITION. The host link's rings (17_host_link_rings.md): link down and up, the doorbell page, descriptors from
fetch to start, host data, ring control, interrupt moderation, events and telemetry records.
-/
namespace Sys2Proof.Machine

/-! ## Reads of host memory (R358, R361, R368) -/

/-- The number that four bytes of a page spell (R6). -/
def wordAt (bs : List Byte) (at_ : Nat) : Nat := natOfBytesLE ((bs.drop at_).take 4)

/-- The length of the next host read of a descriptor's range: to the next 4 KiB boundary of host memory or of
FADDR, so that every read belongs to one piece (R358, R368). -/
def Desc.nextRead (d : Desc) : Nat :=
  let h := 4096 - (d.haddr + d.asked) % 4096
  let f := if d.opcode = 0x11 then 4096 - (d.faddr + d.asked) % 4096 else h
  min (min h f) (d.length - d.asked)

/-- Host data of a descriptor is read, while fewer than 4,096 reads, the doorbell page's included, are outstanding (R360). Fuel bounds the
number of reads. (DESIGN CHOICE, log entry 125) -/
def State.askData (s : State) (r idx : Nat) : Nat → State
  | 0 => s
  | n + 1 =>
    match (s.ring r).descs.find? (fun d => d.idx == idx && d.st == .started) with
    | none => s
    | some d =>
      if (d.opcode = 0x01 ∨ d.opcode = 0x11) ∧ d.asked < d.length ∧ s.host.reads.length < 4095 then
        let len := d.nextRead
        let s := s.hostRead (.data r idx d.asked) (d.haddr + d.asked) len
        let s := s.setRing r ((s.ring r).updDesc idx (fun d => { d with asked := d.asked + len }))
        s.askData r idx n
      else s

/-- Descriptors of a ring are fetched up to CR_PI (R365). -/
def State.fetchMore (s : State) (r : Nat) : Nat → State
  | 0 => s
  | n + 1 =>
    let g := s.ring r
    if g.st = .running ∧ g.stopping = false ∧ g.fetch ≠ g.pi ∧ s.host.up ∧ s.host.reads.length < 4095 then
      let size := 2 ^ s.fld (R.HLK_CR_CFG r) 30 26
      let a := s.addrOf (R.HLK_CR_BASE_LO r) (R.HLK_CR_BASE_HI r) + g.fetch % size * 64
      let s := s.hostRead (.descriptor r g.fetch) a 64
      (s.setRing r { s.ring r with fetch := (g.fetch + 1) % 2 ^ 32 }).fetchMore r n
    else s

/-- What a ring still has to read is read, as far as reads may be outstanding. -/
def State.pump (s : State) (r : Nat) : State :=
  let s := s.fetchMore r 4096
  forEach (fun (d : Desc) (s : State) => s.askData r d.idx 4096) (s.ring r).descs s

/-- EV_HOST_MEM (R374). -/
def State.hostMemEvent (s : State) (r addr status : Nat) : State :=
  s.raise { code := 0x0804, sev := 2, kind := 0x0E, index := r, arg0 := addr / 2 ^ 32, arg1 := addr % 2 ^ 32,
            arg2 := status }

/-! ## The link (R361) -/

/-- A report in progress is abandoned when the link goes down (R404). -/
def State.dropReport (s : State) : State :=
  if s.boot.report.isNone then s
  else
    let s := { s with boot := { s.boot with report := none } }
    ((s.setF R.GLB_ATT_STAT 31 31 0).setF R.GLB_ATT_STAT 3 0 4).raise (modEv 0x0B02 2 2 0 0)

/-- The link to the host ends, by itself or by DL22 (`dl`): outstanding reads are void, those of started descriptors to be
sent again. While DL22 is down the rings are paused (R361). (DEDUCED, log entry 118) -/
def State.hostDown (s : State) (dl : Bool) : State :=
  let was := s.host.up
  let h := s.host
  let s := { s with host := if dl then { h with paused := true } else { h with trained := false, lanes := 0 } }
  if !was then s
  else
    let data := s.host.reads.filter (fun x => match x.use with | .data _ _ _ => true | _ => false)
    let s := { s with host := { s.host with up := false, reads := [], voided := s.host.voided ++ data,
                                            pageRead := false, pagePending := false } }
    (s.raise (modEv 0x0106 2 0 0 0)).dropReport

/-- HOST_LINK_DOWN (R361). -/
def execHostLinkDown (s : State) : Host.Outcome State Fault Refusal := ok (s.hostDown false)

/-- Descriptors fetched and not started are discarded, to be fetched again (R361). -/
def HostRing.refetch (g : HostRing) : HostRing :=
  let l := g.descs.filter (fun d => d.st != .fetched)
  { g with descs := l, fetch := (g.ci + l.length) % 2 ^ 32 }

/-- The link is up on some lanes: what is owed is written in order, voided reads are sent again, and the doorbell
page is read (R361, R364). (DEDUCED, log entry 119) -/
def State.hostUp (s : State) : State :=
  let s := { s with host := { s.host with up := true,
                                          rings := s.host.rings.map (fun (kg : Nat × HostRing) => (kg.1, kg.2.refetch)) } }
  let s := { s with out := (s.host.owed.map Out.host).reverse ++ s.out, host := { s.host with owed := [] } }
  let v := s.host.voided
  let s := { s with host := { s.host with voided := [] } }
  let s := forEach (fun (x : HostRead) (s : State) => s.hostRead x.use x.addr x.len) v s
  (s.raise (modEv 0x0106 0 1 s.host.lanes 0)).pageCause

/-- HOST_LINK_UP (R357, R361): the link is trained on the lanes of a mask. A link that is up changes its lanes; with DL22
down the rings stay paused. -/
def execHostLinkUp (lanes : Fin 256) (s : State) : Host.Outcome State Fault Refusal :=
  if !s.on 2 || lanes.val == 0 then ok s
  else
    let t := { s with host := { s.host with trained := true, lanes := lanes } }
    ok (if s.host.up || s.host.paused then t else t.hostUp)

/-- DL22 is up again: the rings go on where the link is trained (R361). -/
def State.hostResume (s : State) : State :=
  let t := { s with host := { s.host with paused := false } }
  if s.host.trained ∧ !s.host.up ∧ s.on 2 then t.hostUp else t

/-! ## The doorbell page (R363, R364) -/

/-- NUDGE_RECEIVE (R359, R364). -/
def execNudgeReceive (_rings : Fin 65536) (s : State) : Host.Outcome State Fault Refusal :=
  if s.on 2 ∧ s.host.up then ok (s.bump C.HLK_NUDGES 1).pageCause else ok s

/-- DOORBELL_POLL_TIMER (R364): POLL_US since the last read began; values above 1,000 act as 1,000. -/
def execDoorbellPollTimer (s : State) : Host.Outcome State Fault Refusal :=
  let us := min 1000 (s.fld R.HLK_CTRL 15 0)
  if us = 0 ∨ s.host.up = false then ok s else ok ((s.reach (s.host.lastPage + us * 1000)).pageCause)

/-- A ring whose host has posted more than it holds is in ERROR (R365). -/
def State.ringError (s : State) (r : Nat) : State :=
  let g := s.ring r
  let s := s.setRing r { g with st := .error, descs := g.descs.filter (fun d => d.st != .fetched) }
  let s := s.complete r (completion 0 stRING_OVERFLOW 0 g.ci 0 0 0 0)
  s.raise { code := 0x0802, sev := 2, kind := 0x0E, index := r, arg0 := stRING_OVERFLOW }

/-- A running ring takes the indices of the page. -/
def State.takeIndices (s : State) (bs : List Byte) (r : Nat) : State :=
  let g := s.ring r
  if g.st ≠ .running then s
  else
    let pi := wordAt bs (4 * r)
    let s := s.setRing r { g with pi := pi, cqCi := wordAt bs (64 + 4 * r) }
    if 2 ^ s.fld (R.HLK_CR_CFG r) 30 26 < (pi + 2 ^ 32 - g.ci) % 2 ^ 32 then s.ringError r else s

/-! ## Descriptors (R367, R368, R370) -/

/-- Opcodes of R368. -/
def opcodeKnown (o : Nat) : Bool := [0x00, 0x01, 0x02, 0x10, 0x11, 0x12].contains o

/-- A descriptor sets no reserved bit and meets the conditions of R368 that stand in it. LENGTH zero meets
them. (DEDUCED, log entry 93) -/
def Desc.legal (d : Desc) : Bool :=
  (d.words.getD 0 0).fld 17 0 == 0 && (d.words.getD 7 0).fld 26 11 == 0
    && (d.words.drop 12).all (fun w => w == 0) && opcodeKnown d.opcode
    && (d.length == 0 ||
      (if d.opcode = 0x01 then
          decide (48 ≤ d.length ∧ d.length ≤ 4144) && (decide (d.portNo < 1088) || d.portNo == 0x7FF)
       else if d.opcode = 0x02 then decide (48 ≤ d.length)
       else if d.opcode = 0x10 ∨ d.opcode = 0x11 then decide (d.length ≤ 67108864)
       else if d.opcode = 0x12 then d.length == (if d.awide = 1 then 8 else 4) && decide (d.aop ≤ 5)
       else true))

/-- The descriptor that a ring would start next: the oldest not started, in ring order, with the earlier ones
finished where AFTER asks for it, and a record of the completion ring free beside those owed (R365, R367,
R370). -/
def State.startable (s : State) (r : Nat) : Option Desc :=
  let g := s.ring r
  let owed := (g.descs.filter (fun d => d.st == .started)).length
  let free := 2 ^ s.fld (R.HLK_CR_CFG r) 25 21 - (g.cqPi + 2 ^ 32 - g.cqCi) % 2 ^ 32
  if g.st ≠ .running ∨ g.stopping ∨ s.host.up = false ∨ free ≤ owed then none
  else
    match g.descs.find? (fun d => d.st == .fetched) with
    | none => none
    | some d => if d.after && decide (0 < owed) then none else some d

/-- A descriptor is started. -/
def State.markStarted (s : State) (r idx : Nat) : State :=
  s.setRing r ((s.ring r).updDesc idx (fun d => { d with st := .started }))

/-- Why a descriptor completes at once without its action: it could not be read, or is malformed. -/
def Desc.fails (d : Desc) : Option Nat :=
  if d.words.isEmpty then some stHOST_MEM else if d.legal then none else some stCMD_FORMAT

/-- Failing descriptors at the front complete (R367). Fuel bounds their number. -/
def State.failFront (s : State) (r : Nat) : Nat → State
  | 0 => s
  | n + 1 =>
    match s.startable r with
    | none => s
    | some d =>
      match d.fails with
      | none => s
      | some st => ((s.markStarted r d.idx).endDesc r d st 0 0 0 0).failFront r n

/-- The failing descriptors of a ring complete as far as they may. -/
def State.settleRing (s : State) (r : Nat) : State := s.failFront r ((s.ring r).descs.length + 1)

/-- DOORBELL_PAGE_RETURN (R364, R365): the page read in flight returns its bytes, or fails and changes nothing.
A pending cause brings one more read. -/
def execDoorbellPageReturn (status : Fin 3) (bytes : List Byte) (s : State) : Host.Outcome State Fault Refusal :=
  if !s.host.pageRead then ok s
  else
    let again := s.host.pagePending
    let s := { s with host := { s.host with
      pageRead := false, pagePending := false, reads := s.host.reads.filter (fun x => x.use != .doorbell) } }
    let s := if status.val ≠ 0 then s
      else
        let s := forEach (fun r (s : State) => s.takeIndices bytes r) (List.range 16) s
        let s := { s with host := { s.host with evRing := { s.host.evRing with ci := wordAt bytes 128 },
                                                tlRing := { s.host.tlRing with ci := wordAt bytes 132 } } }
        forEach (fun r (s : State) => (s.pump r).settleRing r) (Tbl.keys s.host.rings) s
    ok (if again then s.pageCause else s)

/-- The outstanding read of a tag, and the state without it. -/
def State.takeRead (s : State) (tag : Nat) : Option HostRead × State :=
  (s.host.reads.find? (fun x => x.tag == tag),
   { s with host := { s.host with reads := s.host.reads.filter (fun x => x.tag != tag) } })

/-- A descriptor's place among its ring's, by distance from CR_CI. -/
def insertDesc (ci : Nat) (d : Desc) : List Desc → List Desc
  | [] => [d]
  | e :: l =>
    if (d.idx + 2 ^ 32 - ci) % 2 ^ 32 < (e.idx + 2 ^ 32 - ci) % 2 ^ 32 then d :: e :: l else e :: insertDesc ci d l

/-- DESCRIPTOR_FETCH (R367): a descriptor read returns its words, or fails; failing and malformed descriptors
complete when their turn comes. -/
def execDescriptorFetch (tag : Fin 4096) (status : Fin 3) (words : List Word) (s : State) :
    Host.Outcome State Fault Refusal :=
  match (s.takeRead tag).1 with
  | some ⟨_, .descriptor r idx, addr, _⟩ =>
    let s := (s.takeRead tag).2
    let g := s.ring r
    if g.st ≠ .running ∨ g.stopping then ok s
    else
      let s := if status.val ≠ 0 then s.hostMemEvent r addr status else s
      let d : Desc := { idx := idx, words := if status.val ≠ 0 then [] else (words ++ List.replicate 16 0).take 16,
                        st := .fetched, pieces := [], asked := 0, parts := [] }
      let s := s.setRing r { s.ring r with descs := insertDesc g.ci d (s.ring r).descs }
      ok ((s.pump r).settleRing r)
  | _ => ok s

/-- A descriptor of length 0 ends at once with no data (R367); RX_POST has a completion of its own.
(DEDUCED, log entry 122) -/
def State.endEmpty (s : State) (r opcode : Nat) (d : Desc) : State :=
  if opcode = 2 then s.closeDesc r d.idx (some (completion 2 stOK d.user d.idx 0 0 0 0)) else s.endDesc r d stOK 0 0 0 0

/-- A started descriptor acts, by `f` where it has a length. -/
def State.runDesc (s : State) (r opcode : Nat) (d : Desc) (f : Desc → State → State) : State :=
  if opcode ≠ 0 ∧ d.length = 0 then (s.endEmpty r opcode d).settleRing r else (f d s).settleRing r

/-- The next descriptor of a ring is started, when it has the opcode; with LENGTH zero it completes at once
(R367, R368). -/
def State.startOp (s : State) (r opcode : Nat) (f : Desc → State → State) : State :=
  let s := s.settleRing r
  match s.startable r with
  | none => s
  | some d =>
    if d.opcode ≠ opcode then s else (s.markStarted r d.idx).runDesc r opcode { d with st := .started } f

/-- HOST_NOP (R368). -/
def execHostNop (ring : Fin 16) (s : State) : Host.Outcome State Fault Refusal :=
  ok (s.startOp ring 0x00 (fun d s => s.endDesc ring d stOK 0 0 0 0))

/-- TX_PACKET (R368): the packet's bytes are read from host memory. -/
def execTxPacket (ring : Fin 16) (s : State) : Host.Outcome State Fault Refusal :=
  ok (s.startOp ring 0x01 (fun d s => s.askData ring d.idx 4096))

/-- RX_POST (R368, R369): a receive buffer is posted. -/
def execRxPost (ring : Fin 16) (s : State) : Host.Outcome State Fault Refusal :=
  ok (s.startOp ring 0x02 (fun d s =>
    { s with host := { s.host with buffers := s.host.buffers ++ [⟨ring, d.idx, d.user, d.haddr, d.length⟩] } }))

/-- The pieces of a range, divided at every 4 KiB boundary of FADDR (R368). Fuel bounds their number. -/
def pieces : Nat → Nat → Nat → List Piece
  | 0, _, _ => []
  | n + 1, a, len =>
    if len = 0 then []
    else
      let k := min len (4096 - a % 4096)
      ⟨a, k, none, false, none⟩ :: pieces n (a + k) (len - k)

/-- A MEM descriptor's pieces take their places, and what may be sent is sent. -/
def State.startMem (s : State) (ring : Nat) (d : Desc) : State :=
  let l := if d.opcode = 0x12 then [⟨d.faddr, d.length, none, false, none⟩] else pieces (d.length / 4096 + 2) d.faddr d.length
  let s := s.setRing ring ((s.ring ring).updDesc d.idx (fun d => { d with pieces := l }))
  (s.askData ring d.idx 4096).sendMore ring

/-- MEM_READ (R368). -/
def execMemRead (ring : Fin 16) (s : State) : Host.Outcome State Fault Refusal :=
  ok (s.startOp ring 0x10 (fun d s => s.startMem ring d))

/-- MEM_WRITE (R368). -/
def execMemWrite (ring : Fin 16) (s : State) : Host.Outcome State Fault Refusal :=
  ok (s.startOp ring 0x11 (fun d s => s.startMem ring d))

/-- MEM_ATOMIC (R368). -/
def execMemAtomic (ring : Fin 16) (s : State) : Host.Outcome State Fault Refusal :=
  ok (s.startOp ring 0x12 (fun d s => s.startMem ring d))

/-! ## Packets sent by the host (R368) -/

/-- The bytes that have come for a range, in order; none while a part is missing. Fuel bounds the parts. -/
def gather (parts : List (Nat × List Byte)) : Nat → Nat → Nat → Option (List Byte)
  | 0, _, len => if len = 0 then some [] else none
  | n + 1, off, len =>
    if len = 0 then some []
    else
      match parts.find? (fun p => p.1 == off) with
      | none => none
      | some p =>
        if p.2.isEmpty then none
        else (gather parts n (off + p.2.length) (len - p.2.length)).map (p.2 ++ ·)

/-- The packet of a TX_PACKET: the header and payload given, SPRAY and TC of the descriptor, a new trailer, the header as
the module originates one (R53, R55, R74). (DEDUCED, log entry 123) -/
def Desc.packet (d : Desc) (bs : List Byte) : Packet :=
  let p := asOriginated { hdr := wordsOfBytesBE (bs.take 48), payload := bs.drop 48, trailer := 0 }
  ((p.setFld 0 14 14 d.spray).setFld 0 19 17 d.tc).withTrailer

/-- The header's LENGTH fits the descriptor, and checks 2 to 4 of R67 pass; link-local types are refused. -/
def Desc.packetOk (d : Desc) (p : Packet) : Bool :=
  p.length == d.length - 48 && p.version == 1 && wellTyped p && decide (p.length ≤ 4096) && !tyLinkLocal p.ty

/-- The series of a packet (R68): SRC, by HOME for the module's own, and DEST or GROUP. -/
def State.txSeries (s : State) (p : Packet) : Nat :=
  let home := if p.sspace = 1 ∧ s.isOwn p.src then p.src % 4 else 8 + 2 * p.src + p.sspace
  if p.ty = tyMCAST then seqKey (home + 2 ^ 20) 0 (groupOf p) else seqKey home (bit01 (destSpine p)) p.dest

/-- The packet with the next SEQ of its series and its HCRC; an ACK carries no SEQ (R68). -/
def State.numbered (s : State) (p : Packet) : Packet × State :=
  if p.ty = tyACK then (p.sealed, s)
  else
    let k := s.txSeries p
    let q := (p.setFld 4 31 8 (Tbl.get (fun _ => 0) s.dp.seqs k)).sealed
    (q, { s with dp := { s.dp with seqs := Tbl.upd (fun _ => 0) s.dp.seqs k (fun n => (n + 1) % 2 ^ 24) } })

/-- DATA and requests count in the hub's outstanding counter of their destination (R98, R368). -/
def State.countData (s : State) (p : Packet) : State :=
  if p.ty = tyDATA ∨ tyRequest p.ty then
    { s with req := { s.req with data := s.req.data ++ [⟨bit01 (destSpine p), p.dest, p.seq, if p.ty = tyDATA then none else some p.reqTag⟩] } }
  else s

/-- A packet that leaves on a named port, past lookup (R368): on a BP port to the peer of its DEST, else to the
peer that the plane reaches now. -/
def State.sendOnPort (s : State) (port : Nat) (p : Packet) : State :=
  let peer := if port < 1024 then none
    else match (if destSpine p then s.peerOf p.dest else none) with
      | some j => some j
      | none => some (s.reachedBy (match (s.plane (port - 1024)).st with
          | .phase c => c
          | _ => s.slotColour (port - 1024)))
  let it : Item := {
    id := s.dp.nextId, body := .ffp p, port := 1088, tc := p.tc, vc := p.vc, n := cellsOf p.size, gen := s.tab.gen,
    since := s.now, charge := .reserved, peer := peer, bucket := none, own := true, mcast := none, leg := none,
    marked := false, spray := false, cut := false, sender := none, latch := [], via := 0 }
  let s := { s with dp := { s.dp with nextId := s.dp.nextId + 1,
                                      inRsv := addAt s.dp.inRsv (pvKey 1088 p.vc) it.n } }
  s.takeIn it port

/-- The hub may send a packet of the host: of DATA and requests, while the counter of their destination does not wrap
(R98). -/
def State.maySendTx (s : State) (p : Packet) : Bool :=
  !(p.ty == tyDATA || tyRequest p.ty) || decide (s.outstanding 0 (bit01 (destSpine p)) p.dest < 2 ^ 32 - 1)

/-- A TX_PACKET whose bytes have all come is sent, waits for its destination's counter, or completes with a status; a module
that takes no part in the fabric sends none, and its packet completes as one that never left (R23, R98, R368).
(DEDUCED, log entry 124) -/
def State.sendTx (s : State) (r : Nat) (d : Desc) (bs : List Byte) : State :=
  let p := d.packet bs
  if !d.packetOk p then s.endDesc r d stCMD_FORMAT 0 0 0 0
  else if d.portNo < 1088 ∧ (!s.inService d.portNo || (s.port d.portNo).eth) then s.endDesc r d stPORT_DOWN 0 0 0 0
  else if !s.joined then s.endDesc r d stOK d.length 0 ((0 : Word).setFld 31 31 1) 0
  else if !s.maySendTx p then s
  else
    let x := s.numbered p
    let s := x.2.countData x.1
    let s := { s with host := { s.host with txWait := s.host.txWait ++ [(s.dp.nextId, r, d.idx)] } }
    if d.portNo < 1088 then s.sendOnPort d.portNo x.1 else s.originate x.1

/-- Data has come for a descriptor: a packet goes when it is whole, a piece of a MEM_WRITE when its bytes are
there. -/
def State.dataCame (s : State) (r : Nat) (d : Desc) : State :=
  if d.opcode = 0x01 then
    match gather d.parts (d.parts.length + 1) 0 d.length with
    | some bs => s.sendTx r d bs
    | none => s
  else
    let fill (p : Piece) : Piece :=
      if p.data.isNone && !p.sent then { p with data := gather d.parts (d.parts.length + 1) (p.faddr - d.faddr) p.len } else p
    (s.setRing r ((s.ring r).updDesc d.idx (fun d => { d with pieces := d.pieces.map fill }))).sendMore r

/-- HMEM_RESPONSE (R358, R374): host data returns for a descriptor, or a failure status ends the packet or the
piece that it was read for. -/
def execHmemResponse (tag : Fin 4096) (status : Fin 3) (bytes : List Byte) (s : State) :
    Host.Outcome State Fault Refusal :=
  match (s.takeRead tag).1 with
  | some ⟨_, .data r idx off, addr, len⟩ =>
    let s := (s.takeRead tag).2
    let s := if status.val ≠ 0 then s.hostMemEvent r addr status else s
    match (s.ring r).descs.find? (fun d => d.idx == idx && d.st == .started) with
    | none => ok s
    | some d =>
      if status.val ≠ 0 then
        if d.opcode = 0x01 then ok ((s.endDesc r d stHOST_MEM 0 0 0 0).settleRing r)
        else
          match (List.range d.pieces.length).find? (fun n =>
              match d.pieces[n]? with
              | some p => decide (p.faddr - d.faddr ≤ off ∧ off < p.faddr - d.faddr + p.len) && p.result.isNone && !p.sent
              | none => false) with
          | some n => ok (((s.pieceEnds r idx n stHOST_MEM 0 []).pump r).settleRing r)
          | none => ok s
      else
        let d' := { d with parts := d.parts ++ [(off, (bytes ++ List.replicate len 0).take len)] }
        let s := s.setRing r ((s.ring r).updDesc idx (fun _ => d'))
        ok (((s.dataCame r d').pump r).settleRing r)
  | _ => ok s

/-! ## Ring control (R365, R375) -/

/-- LOG2 and CQ_LOG2 of a CR_CFG word lie in their ranges (R375). -/
def ringSizes (w : Word) : Bool :=
  decide (6 ≤ w.fld 30 26 ∧ w.fld 30 26 ≤ 16 ∧ 4 ≤ w.fld 25 21 ∧ w.fld 25 21 ≤ 16)

/-- HOST_RING_ENABLE (R365): a write of HLK.CR_CFG_r with EN 1; the ring starts at index zero. A write with a
size out of range is discarded. A ring that runs only takes the fields. (DEDUCED, log entry 121) -/
def execHostRingEnable (ring : Fin 16) (w : Word) (s : State) : Host.Outcome State Fault Refusal :=
  let off := R.HLK_CR_CFG ring
  ok (s.gate off (fun s =>
    let w := w.setFld 31 31 1
    let g := s.ring ring
    if !ringSizes w || g.stopping then s
    else
      let s := s.store off w
      if g.st ≠ .disabled then s
      else (s.setRing ring { HostRing.init with st := .running, lastInt := g.lastInt }).hostWrites
        [.data (s.statusPage + 4 * ring) (bytesLEOfNat 4 0), .data (s.statusPage + 64 + 4 * ring) (bytesLEOfNat 4 0)]))

/-- Posted buffers of a ring complete unused (R365). -/
def State.abortBuffers (s : State) (r : Nat) : State :=
  let l := s.host.buffers.filter (fun b => b.ring == r)
  let s := { s with host := { s.host with buffers := s.host.buffers.filter (fun b => b.ring != r) } }
  forEach (fun (b : RxBuffer) (s : State) => s.closeDesc r b.idx (some (completion 0x02 stABORTED b.user b.idx 0 0 0 0))) l s

/-- HOST_RING_DISABLE (R365): a write of HLK.CR_CFG_r with EN 0 to a ring that runs or is in ERROR: no further fetch; posted
buffers are aborted; started descriptors finish, then the ring is DISABLED. -/
def execHostRingDisable (ring : Fin 16) (w : Word) (s : State) : Host.Outcome State Fault Refusal :=
  let off := R.HLK_CR_CFG ring
  ok (s.gate off (fun s =>
    let s := s.store off (w.setFld 31 31 0)
    let g := s.ring ring
    if g.st = .disabled then s
    else
      let s := s.setRing ring { g with descs := g.descs.filter (fun d => d.st != .fetched), stopping := true }
      let s := s.abortBuffers ring
      let g := s.ring ring
      if g.st ≠ .disabled ∧ g.descs.all (fun d => d.st != .started) then
        s.setRing ring { g with st := .disabled, stopping := false, descs := [] }
      else s))

def State.setAux (s : State) (tel : Bool) (a : AuxRing) : State :=
  if tel then { s with host := { s.host with tlRing := a } } else { s with host := { s.host with evRing := a } }
def State.aux (s : State) (tel : Bool) : AuxRing := if tel then s.host.tlRing else s.host.evRing
def auxCfg (tel : Bool) : Nat := if tel then R.HLK_TL_CFG else R.HLK_EV_CFG

/-- The place of EV_PI or TL_PI on the status page. -/
def State.auxIndex (s : State) (tel : Bool) : Nat := s.statusPage + (if tel then 132 else 128)

/-- AUX_RING_ENABLE (R375): a write of HLK.EV_CFG or, with `tel`, of HLK.TL_CFG. EN set with a size in range
starts the ring at index zero; EN 0 stops it. -/
def execAuxRingEnable (tel : Bool) (w : Word) (s : State) : Host.Outcome State Fault Refusal :=
  let off := auxCfg tel
  ok (s.gate off (fun s =>
    let a := s.aux tel
    let log2 := w.fld 30 26
    if w.fld 31 31 = 0 then (s.store off w).setAux tel { a with st := .disabled }
    else if 16 < log2 ∨ log2 < (if tel then 4 else 8) then s
    else if a.st = .running then s.store off w
    else ((s.store off w).setAux tel { AuxRing.init with st := .running, lastInt := a.lastInt }).hostWrites
      [.data (s.auxIndex tel) (bytesLEOfNat 4 0)]))

/-- INTERRUPT_MODERATION_EXPIRY (R366): of command ring 0 to 15, of the event ring (16) or of the telemetry ring
(17): one interrupt covers the deferred updates. -/
def execInterruptModerationExpiry (ring : Fin 18) (s : State) : Host.Outcome State Fault Refusal :=
  if ring.val < 16 then
    let g := s.ring ring
    let cfg := s.rd (R.HLK_CR_CFG ring)
    if !g.deferred then ok s
    else
      let s := s.reach (g.lastInt.getD 0 + cfg.fld 13 0 * 1000)
      ok ((s.setRing ring { g with deferred := false, lastInt := some s.now }).hostWrites [.interrupt (cfg.fld 19 14)])
  else
    let tel := ring.val == 17
    let a := s.aux tel
    let cfg := s.rd (auxCfg tel)
    if !a.deferred then ok s
    else
      let s := s.reach (a.lastInt.getD 0 + cfg.fld 13 0 * 1000)
      ok ((s.setAux tel { a with deferred := false, lastInt := some s.now }).hostWrites [.interrupt (cfg.fld 19 14)])

/-! ## Event and telemetry records (R366, R372, R375, R417) -/

/-- Room for a record in the event or telemetry ring. -/
def State.auxRoom (s : State) (tel : Bool) : Bool :=
  let a := s.aux tel
  a.st == .running && decide ((a.pi + 2 ^ 32 - a.ci) % 2 ^ 32 < 2 ^ (s.rd (auxCfg tel)).fld 30 26)

/-- A record written to the event or telemetry ring, with its index and interrupt (R366); `words` are the record
for a PHASE. -/
def State.writeAux (s : State) (tel : Bool) (words : Nat → List Word) : State :=
  let a := s.aux tel
  let cfg := s.rd (auxCfg tel)
  let log2 := cfg.fld 30 26
  let base := if tel then s.addrOf R.HLK_TL_BASE_LO R.HLK_TL_BASE_HI else s.addrOf R.HLK_EV_BASE_LO R.HLK_EV_BASE_HI
  let size := if tel then 64 else 32
  let s := s.setAux tel { a with pi := (a.pi + 1) % 2 ^ 32,
                                 lastInt := if intNow cfg a.lastInt s.now then some s.now else a.lastInt,
                                 deferred := a.deferred || intLater cfg a.lastInt s.now }
  s.hostWrites ([.data (base + a.pi % 2 ^ log2 * size) (recordBytes (words (phaseOf log2 a.pi))),
                 .data (s.auxIndex tel) (bytesLEOfNat 4 (a.pi + 1))] ++ intWrites cfg a.lastInt s.now)

/-- An event record (R372). -/
def EvRec.words (e : EvRec) (phase : Nat) : List Word :=
  [(((0 : Word).setFld 31 16 e.code).setFld 15 14 e.sev).setFld 0 0 phase,
   ((0 : Word).setFld 31 24 e.kind).setFld 23 0 e.index, BitVec.ofNat 32 e.arg0, BitVec.ofNat 32 e.arg1,
   BitVec.ofNat 32 e.arg2, BitVec.ofNat 32 e.count, BitVec.ofNat 32 e.sec, BitVec.ofNat 32 e.ns]

/-- EVENT_DELIVER (R372): the oldest queued event is written to the event ring when the ring has room and the link
is up; the room that it leaves lets EV_EVENT_LOST report what was lost. -/
def execEventDeliver (s : State) : Host.Outcome State Fault Refusal :=
  match s.evq with
  | [] => ok s
  | e :: l =>
    if !s.on 2 || !s.host.up || !s.auxRoom false then ok s
    else
      let s := ({ s with evq := l } : State).writeAux false e.words
      if s.evLost = 0 then ok s
      else ok (({ s with evLost := 0 } : State).raise (modEv 0x0803 1 s.evLost 0 0))

end Sys2Proof.Machine
end

