-- ==== Sys2Proof/Machine/Training.lean ====
section
/-!
DEFINITION. Training, lanes and ports (14_links_and_retry.md, R305, R315 to R317, R324 to R326; 03, R65,
R66): lane and flit lock, timeouts, LC_IDENT and the forming of bundles, lanes that leave and rejoin, light
levels, and the port commands.
-/
namespace Sys2Proof.Machine

/-! ## Training (R315) -/

/-- A training fails: the port rests for 1 ms; the third failure in a row declares reason 0x2.
(DEDUCED, log entry 23) -/
def State.trainingFails (s : State) (port : Nat) : State :=
  let p := s.port port
  let n := p.failures + 1
  let s := s.setPort port { p with st := .down, step := 0, lanesUp := 0, lanesLocked := 0, goodFlits := 0,
                                   restUntil := some (s.now + 1000000), failures := n,
                                   reason := if n = 3 then 2 else p.reason }
  if n = 3 then s.raise (portEv 0x0102 1 port 2 0) else s

/-- A BP port is up: its plane enters the state in force (R291). -/
def State.planeUp (s : State) (port : Nat) : State :=
  if port < 1024 then s
  else
    let s := s.accountPlanes
    let pl := s.plane (port - 1024)
    s.setPlane (port - 1024) { pl with st := pl.next, unreachable := [], missed := [] }

/-- Training ends with the port up (R315 step 6), or DRAINING while DRAIN is 1 (R324). -/
def State.portUp (s : State) (port : Nat) : State :=
  let p := s.port port
  let s := s.setPort port { p with
    st := if s.fld (portCtrl port) 30 30 = 1 then .draining else .up, step := 0, failures := 0,
    trained := p.trained + 1, lastGood := s.now }
  ((s.bump (C.PL_LINK_CNT (port / 64) (port % 64) 5) 1).planeUp port).raise (portEv 0x0101 0 port p.lanesUp p.member)

/-- A training takes the value of BUF.IN_RSV (R110, R128, R315 step 4). -/
def State.latchRsv (s : State) (port : Nat) : State := s.setPort port { s.port port with rsv := s.grantNow }

/-- The lanes of a port have locked (R315 step 2): an FFP port passes to flit lock; on an Ethernet port the PCS
is aligned and the port is up (R328; DEDUCED: the command table has no other event for the alignment).
(DEDUCED, log entry 112) -/
def State.lanesLock (s : State) (port : Nat) : State :=
  let p := s.port port
  if p.eth then
    (((s.setPort port { p with lanesUp := p.lanesLocked, lastGood := s.now }).latchRsv port).portUp port).reconsider
  else s.setPort port { p with step := 3, stepSince := s.now }

/-- LANE_LOCK (R315 step 2, R316): a lane that is allowed and has signal locks. In training the port passes
to step 3 when every allowed lane is locked; on a trained port the lane waits to rejoin. -/
def execLaneLock (port : Fin 1088) (lane : Fin 2) (s : State) : Host.Outcome State Fault Refusal :=
  let p := s.port port
  let bit := 2 ^ lane.val
  if (lanesMinus (s.lanesAllowed port) p.los) &&& bit = 0 then ok s
  else
    let locked := p.lanesLocked ||| bit
    if p.st = .training ∧ p.step = 2 then
      if lanesMinus (s.lanesAllowed port) locked = 0 then
        ok ((s.setPort port { p with lanesLocked := locked }).lanesLock port)
      else if p.lanesLocked = 0 then ok (s.setPort port { p with lanesLocked := locked, stepSince := s.now })
      else ok (s.setPort port { p with lanesLocked := locked })
    else if p.trained_ ∧ p.lanesUp &&& bit = 0 then ok (s.setPort port { p with lanesLocked := locked })
    else ok s

/-- The links of a port as step 4 leaves them: sequence numbers and counts zero, the partner's grant held, the own
reservation granted but for cells that earlier packets still hold (R110); on a plane in PACKET credits come by loans alone
(R315, R322). -/
def State.trainedLinks (s : State) (port : Nat) (g : Four) : State :=
  let packet : Bool := decide (1024 ≤ port) && (s.plane (port - 1024)).next == .packet
  let s := s.latchRsv port
  let own := s.grantAt port (s.port port).rsv
  forEach (fun k (s : State) => s.setLink k
    { Link.init with credits := if packet then .zero else g, granted := g, grant := if packet then .zero else own })
    (linkKeys port) s

/-- FLIT_LOCK (R315 steps 3 and 4): flit lock on the locked lanes, and control flits exchanged; `req` to
`bulk` are the credits that the partner grants. A leaf port passes to the exchange of LC_IDENT, a BP port is
up. -/
def execFlitLock (port : Fin 1088) (req rsp coll bulk : Fin 65536) (s : State) : Host.Outcome State Fault Refusal :=
  let p := s.port port
  if p.st = .training ∧ p.step = 3 then
    let s := (s.setPort port { p with lanesUp := p.lanesLocked, goodFlits := 8, step := 5, stepSince := s.now,
                                      lastGood := s.now }).trainedLinks port ⟨req, rsp, coll, bulk⟩
    if port.val < 1024 then ok (s.sendLocal port (s.identPacket port)) else ok ((s.portUp port).reconsider)
  else ok s

/-- The instant at which a training step must be complete (R315). -/
def Port.stepEnd (p : Port) : Nat :=
  p.stepSince + (if p.step = 2 then (if p.lanesLocked = 0 then 50000 else 100000)
    else if p.step = 3 then 10000 else 1000)

/-- TRAINING_STEP_TIMEOUT (R315): a step does not complete in its time and training fails; at step 2 with
one lane locked the port goes on with that lane. Step 1 has no limit. -/
def execTrainingStepTimeout (port : Fin 1088) (s : State) : Host.Outcome State Fault Refusal :=
  let p := s.port port
  if p.st = .training ∧ 2 ≤ p.step then
    let s := s.reach p.stepEnd
    if p.step = 2 ∧ p.lanesLocked ≠ 0 then ok (s.lanesLock port)
    else ok (s.trainingFails port)
  else ok s

/-- TRAINING_REST_EXPIRY (R315): after 1 ms of rest the port starts again at step 1. -/
def execTrainingRestExpiry (port : Fin 1088) (s : State) : Host.Outcome State Fault Refusal :=
  let p := s.port port
  match p.restUntil with
  | none => ok s
  | some t => ok (((s.reach t).setPort port { p with restUntil := none }).beginTraining port)

/-! ## LC_IDENT and bundles (R16, R65, R66, R90) -/

/-- The first packet of a type in a port's link-local queue, and the rest. -/
def takeLocal (ty : Nat) : List Packet → Option (Packet × List Packet)
  | [] => none
  | p :: ps => if p.ty = ty then some (p, ps) else (takeLocal ty ps).map (fun r => (r.1, p :: r.2))

/-- Why a leaf port with an identity is held out of service: 0x6 identity absent, 0x5 bundle overflow, 0 for
none (R16, R65, R66). -/
def State.holdReason (s : State) (port uid member : Nat) : Nat :=
  if uid = 0 then 6
  else if 8 ≤ member then 5
  else if (s.portsOf uid (fun p => (p.st == .up || p.st == .draining) && p.member == member)).any (· != port) then 5
  else 0

/-- A member enters service: with no other in service the map is formed, every bucket on this member; a
bucket on a detour moves there behind its fence (R90). (DEDUCED, log entry 33) -/
def State.joinBundle (s : State) (port uid : Nat) : State :=
  if (s.members uid).any (· != port) then s
  else
    let b := s.bundle uid
    if b.map.isEmpty then s.setBundle uid { b with map := List.replicate 64 (.member port) }
    else
      let set := b.map.map (fun x => match x with | .member _ => Path.member port | y => y)
      let s := s.setBundle uid { b with map := set }
      forEach (fun i (s : State) =>
        match (State.bundle s uid).map[i]? with
        | some (Path.plane p j) => s.startMove uid i (.plane p j) (.member port) none
        | _ => s) (List.range 64) s

/-- A port takes an identity: held out of service with a reason, or up and a member of its bundle.
(DEDUCED, log entry 24) -/
def State.identified (s : State) (port uid member : Nat) : State :=
  let p := s.port port
  let r := s.holdReason port uid member
  let s := s.setPort port { p with uid := uid, member := member, identSeen := true, step := 0, failures := 0 }
  if r ≠ 0 then
    let s := if p.st = .up ∨ p.st = .draining then s.replayHandover port (linkKeys port) else s
    (s.setPort port { s.port port with st := .heldOut, reason := r }).raise (portEv 0x0102 1 port r 0)
  else ((s.portUp port).joinBundle port uid).reconsider

/-- LC_IDENT_RECEIVE (R65, R66, R315 step 5): the oldest LC_IDENT received on a leaf port. At step 5 it ends
the training; later, a changed identity is taken anew. -/
def execLcIdentReceive (port : Fin 1024) (s : State) : Host.Outcome State Fault Refusal :=
  let p := s.port port
  match takeLocal tyLC_IDENT p.llq with
  | none => ok s
  | some (pkt, rest) =>
    let uid := pkt.fld 6 31 0
    let member := pkt.fld 5 9 6
    let s := s.setPort port { p with llq := rest }
    if p.st = .training ∧ p.step = 5 then ok (s.identified port uid member)
    else if p.trained_ ∧ ¬ (p.identSeen ∧ p.uid = uid ∧ p.member = member) then ok (s.identified port uid member)
    else if p.st = .heldOut ∧ s.holdReason port uid member = 0 then ok (s.identified port uid member)
    else ok s

/-- LC_IDENT_TIMER (R314): every 100 µs a trained leaf port sends LC_IDENT again. -/
def execLcIdentTimer (port : Fin 1024) (s : State) : Host.Outcome State Fault Refusal :=
  let p := s.port port
  if p.trained_ ∨ p.step = 5 then ok (s.sendLocal port (s.identPacket port)) else ok s

/-! ## Lanes (R316) -/

/-- A lane leaves a port. A trained port runs on with the other lane, and goes down with a reason when none
is left; a port in training goes on with one lane or fails. -/
def State.laneLeaves (s : State) (port lane reason : Nat) : State :=
  let p := s.port port
  let up := lanesMinus p.lanesUp (2 ^ lane)
  let locked := lanesMinus p.lanesLocked (2 ^ lane)
  if p.trained_ then
    if p.lanesUp ≠ 0 ∧ up = 0 then s.linkDown port reason
    else s.setPort port { p with lanesUp := up, lanesLocked := locked }
  else if p.st = .training ∧ 3 ≤ p.step then
    if locked = 0 then s.trainingFails port else s.setPort port { p with lanesUp := up, lanesLocked := locked }
  else s.setPort port { p with lanesLocked := locked }

/-- A lane degrade (R316): counted when a lane that carries flits leaves a trained port. -/
def State.degrade (s : State) (port lane reason : Nat) : State :=
  let p := s.port port
  let s := if p.trained_ ∧ p.lanesUp &&& 2 ^ lane ≠ 0 then s.bump (C.PL_LINK_CNT (port / 64) (port % 64) 6) 1 else s
  s.laneLeaves port lane reason

/-- LANE_FAIL (R316): a lane loses FEC lock or shows too many uncorrected codewords. When it was the last,
the link goes down: for loss of signal where there is none, else for silence. -/
def execLaneFail (port : Fin 1088) (lane : Fin 2) (s : State) : Host.Outcome State Fault Refusal :=
  ok (s.degrade port lane (if (s.port port).los &&& 2 ^ lane.val ≠ 0 then 1 else 4))

/-- LANE_REJOIN (R316): a lane that has locked again rejoins a trained port at an agreed flit boundary. -/
def execLaneRejoin (port : Fin 1088) (lane : Fin 2) (s : State) : Host.Outcome State Fault Refusal :=
  let p := s.port port
  let bit := 2 ^ lane.val
  if p.trained_ ∧ p.lanesUp &&& bit = 0 ∧ p.lanesLocked &&& bit ≠ 0 ∧
      (lanesMinus (s.lanesAllowed port) p.los) &&& bit ≠ 0 then
    ok (s.setPort port { p with lanesUp := p.lanesUp ||| bit })
  else ok s

/-- LINK_SILENCE_TIMEOUT (R317): no flit with a correct CRC for DOWN_NS while signal is present. A plane in
PACKET is judged by peer instead (R304). (DEDUCED, log entry 25) -/
def execLinkSilenceTimeout (port : Fin 1088) (s : State) : Host.Outcome State Fault Refusal :=
  let p := s.port port
  let lim := s.fld (R.PL_LINK_CFG (port / 64)) 31 16
  let phase : Bool := match (s.plane (port - 1024)).st with | .phase _ => true | _ => false
  if lim = 0 ∨ ¬ p.trained_ ∨ lanesMinus p.lanesUp p.los = 0 ∨ (1024 ≤ port.val ∧ !phase) then ok s
  else ok ((s.reach (p.lastGood + max 250 lim)).linkDown port 4)

/-! ## Light levels (R305) -/

/-- Whether a lane's loss of signal goes to the link layer: leaf ports and planes in PHASE, or not yet up. -/
def State.losToLink (s : State) (port : Nat) : Bool :=
  port < 1024 || (match (s.plane (port - 1024)).st with | .packet => false | .dark => false | .retune => false | _ => true)

/-- OPTICAL_LOS (R305, R317): a lane loses its signal. The lane leaves the port; with no other lane in use
the link goes down with reason 0x1. In packet mode the peers are judged instead. -/
def execOpticalLos (port : Fin 1088) (lane : Fin 2) (s : State) : Host.Outcome State Fault Refusal :=
  let p := s.port port
  let s := s.setPort port { p with los := p.los ||| 2 ^ lane.val }
  if s.losToLink port then ok (s.degrade port lane 1) else ok s

/-- OPTICAL_LOS_CLEAR (R305): signal is back; a port at step 1 passes to step 2. -/
def execOpticalLosClear (port : Fin 1088) (lane : Fin 2) (s : State) : Host.Outcome State Fault Refusal :=
  let p := s.port port
  let los := lanesMinus p.los (2 ^ lane.val)
  if p.st = .training ∧ p.step = 1 ∧ s.lanesAllowed port &&& 2 ^ lane.val ≠ 0 then
    ok (s.setPort port { p with los := los, step := 2, stepSince := s.now, lanesLocked := 0 })
  else ok (s.setPort port { p with los := los })

/-- The number of a lane's laser in events: engine × 256 + its working laser (R287, R372). -/
def laneLaser (port lane : Nat) : Nat :=
  engineOf port * 256 + 2 * (if port < 1024 then port % 64 else (port - 1024) % 32) + lane

/-- EV_OPT_POWER (R305): 0 low, 1 high, 2 overload, with the power in 0.01 dBm. -/
def State.powerEvent (s : State) (port lane what power : Nat) : State :=
  s.raise { code := 0x0603, sev := 1, kind := 0x0B, index := laneLaser port lane, arg0 := what, arg1 := power }

/-- OPTICAL_POWER_WARNING (R305): a lane crosses its low or high warning level: the event, at most once per
60 s per lane. (PRESUMED, log entry 110) -/
def execOpticalPowerWarning (port : Fin 1088) (lane : Fin 2) (high : Bool) (power : Word) (s : State) :
    Host.Outcome State Fault Refusal :=
  let k := laneLaser port lane
  let again : Bool := match Tbl.get (fun _ => none) s.optics.warnedAt k with
    | none => true
    | some t => decide (t + 60000000000 ≤ s.now)
  if again then
    ok (({ s with optics := { s.optics with warnedAt := Tbl.put (fun _ => none) s.optics.warnedAt k (some s.now) } }
      : State).powerEvent port lane (bit01 high) power.toNat)
  else ok s

/-- OPTICAL_OVERLOAD (R305): the lane is held out of service; with no other lane in use the link goes down
with reason 0x9. -/
def execOpticalOverload (port : Fin 1088) (lane : Fin 2) (power : Word) (s : State) : Host.Outcome State Fault Refusal :=
  let p := s.port port
  if p.overload &&& 2 ^ lane.val ≠ 0 then ok s
  else
    let s := (s.setPort port { p with overload := p.overload ||| 2 ^ lane.val }).powerEvent port lane 2 power.toNat
    ok (s.laneLeaves port lane 9)

/-- OVERLOAD_CLEAR (R305): the lane has been below +4.0 dBm for 1 ms; it may be used again. -/
def execOverloadClear (port : Fin 1088) (lane : Fin 2) (s : State) : Host.Outcome State Fault Refusal :=
  let p := s.port port
  ok ((s.setPort port { p with overload := lanesMinus p.overload (2 ^ lane.val) }).beginTraining port)

/-! ## Port commands (R324 to R326) -/

/-- Lanes that are no longer allowed leave a port without a degrade (R316); with none left the link goes
down. -/
def State.trimLanes (s : State) (port : Nat) : State :=
  let p := s.port port
  let up := p.lanesUp &&& s.lanesAllowed port
  if p.lanesUp = up ∨ ¬ p.trained_ then s
  else if up = 0 then s.linkDown port 7
  else s.setPort port { p with lanesUp := up, lanesLocked := p.lanesLocked &&& up }

/-- A port goes down and dark at host request (R317 code 0x7): a drain in progress is abandoned (R325). -/
def State.portOff (s : State) (port : Nat) : State :=
  ((s.endMaint (.drain port) 3).takeDown port 7).emit (.laser port false)

/-- PORT_ENABLE_WRITE (R326): a write of EN. 0 takes the link down with reason 0x7 and the transmitter dark;
1 trains the port. -/
def execPortEnableWrite (port : Fin 1088) (en : Bool) (s : State) : Host.Outcome State Fault Refusal :=
  ok (s.gate (portCtrl port) (fun s =>
    let was := s.fld (portCtrl port) 31 31
    let s := s.setF (portCtrl port) 31 31 (bit01 en)
    if !en && was == 1 then s.portOff port else if en then s.beginTraining port else s))

/-- LANE_MASK_WRITE (R326): lanes whose bit clears leave, those whose bit sets may train and rejoin; zero acts
as EN = 0. (DEDUCED, log entry 16) -/
def execLaneMaskWrite (port : Fin 1088) (mask : Fin 4) (s : State) : Host.Outcome State Fault Refusal :=
  ok (s.gate (portCtrl port) (fun s =>
    let was := s.fld (portCtrl port) 1 0
    let s := s.setF (portCtrl port) 1 0 mask
    if mask = 0 then (if was ≠ 0 ∧ s.fld (portCtrl port) 31 31 = 1 then s.portOff port else s)
    else (s.trimLanes port).beginTraining port))

/-- Easel's weight of zero for a path that it takes out of service (R88), while EASEL_OWNS is 1. -/
def State.easelZero (s : State) (port : Nat) : State :=
  if s.fld R.BUF_FWD_SPRAY_CTRL 31 31 = 1 then
    let off := R.PL_PATH_WEIGHT (port / 64) (port % 64)
    let s := s.setF off 3 0 0
    { s with dp := { s.dp with weightAt := Tbl.put (fun _ => 0) s.dp.weightAt port s.now } }.moveOffPort port
  else s

/-- Whether a draining port has nothing left: no move off it runs, its queues and replay buffers are empty. -/
def State.drained (s : State) (port : Nat) : Bool :=
  s.dp.moves.all (fun m => m.old.egress != port) &&
    (List.range 8).all (fun t => let q := s.queue (qKey port t); q.head.isEmpty && q.spill.isEmpty && q.tail.isEmpty) &&
    (linkKeys port).all (fun k => (s.link k).replay.isEmpty)

/-- The drain's end: what is left is handed over (R324 step 3), and the locks are released. -/
def State.endDrain (s : State) (port : Nat) : State :=
  let s := if s.drained port then s else s.replayHandover port (linkKeys port)
  (s.setPort port { s.port port with drainEnd := none }).endMaint (.drain port) 2

/-- A drain starts (R324): DRAINING, LC_WITHDRAW with REASON 0x4, the buckets move; with DRAIN_US zero the
handover comes at once. A port that is not up has nothing to drain. -/
def State.startDrain (port : Nat) (s : State) : State :=
  let p := s.port port
  if p.st = .up then
    let us := s.fld (R.PL_LINK_CFG (port / 64)) 11 0
    let s := s.setPort port { p with st := .draining, drainEnd := some (s.now + us * 1000) }
    let s := (s.sendWithdraw port 4).easelZero port
    if us = 0 then s.endDrain port else s
  else s.endMaint (.drain port) 2

/-- PORT_DRAIN (R324, R326): DRAIN is written 1; the drain takes its locks under R431. -/
def execPortDrain (port : Fin 1088) (s : State) : Host.Outcome State Fault Refusal :=
  ok (s.gate (portCtrl port) (fun s =>
    if s.fld (portCtrl port) 30 30 = 1 then s
    else (s.setF (portCtrl port) 30 30 1).requestMaint (.drain port) (State.startDrain port)))

/-- PORT_DRAIN_END (R324 step 3): nothing is left on the port, or its window expires and the rest goes to
handover. -/
def execPortDrainEnd (port : Fin 1088) (s : State) : Host.Outcome State Fault Refusal :=
  match (s.port port).drainEnd with
  | none => ok s
  | some t => ok ((if s.drained port then s else s.reach t).endDrain port)

/-- PORT_UNDRAIN (R324): DRAIN is cleared; LC_READY is sent, by a module that takes part in the fabric (R23, R30), and the port
returns to service. A drain still
running is abandoned. (DESIGN CHOICE, log entry 31) -/
def execPortUndrain (port : Fin 1088) (s : State) : Host.Outcome State Fault Refusal :=
  ok (s.gate (portCtrl port) (fun s =>
    let s := s.setF (portCtrl port) 30 30 0
    let p := s.port port
    if p.st = .draining then
      let s := (s.setPort port { p with st := .up, drainEnd := none }).endMaint (.drain port) 3
      let s := if s.joined then s.sendReady port else s
      (if port.val < 1024 ∧ p.eth = false then s.joinBundle port p.uid else s).reconsider
    else { s with maint := s.maint.filter (· != (.drain port, false)) }))

/-- A retrain starts and, its link being down, ends its hold of the locks (R324). (DEDUCED, log entry 32) -/
def State.startRetrain (port : Nat) (s : State) : State :=
  ((s.takeDown port 7).beginTraining port).endMaint (.retrain port) 2

/-- PORT_RETRAIN (R324, R325): the link goes down with reason 0x7 and trains; while the port drains, the
request waits for the drain's locks. -/
def execPortRetrain (port : Fin 1088) (s : State) : Host.Outcome State Fault Refusal :=
  ok (s.gate (portCtrl port) (fun s => s.requestMaint (.retrain port) (State.startRetrain port)))

/-- The registers of a port that a port reset returns to their reset values (R393). -/
def portRegs (port : Nat) : List Nat :=
  let n := port / 64
  let p := port % 64
  [portCtrl port, R.PL_PATH_WEIGHT n p, R.PL_LEN_OVH n p, R.PL_ETH_PVID n p]
    ++ (List.range 8).map (fun t => R.PL_TC_SCHED n p t) ++ (List.range 9).map (fun i => R.PL_SHP n p i)
    ++ (List.range 8).flatMap (fun t => [R.PL_POL_C n p t, R.PL_POL_P n p t, R.PL_POL_MODE n p t])

/-- Registers returned to their reset values. -/
def State.resetRegs (s : State) (offs : List Nat) : State :=
  { s with regs := s.regs.filter (fun kw => !offs.contains kw.1) }

/-- Shapers and policers of a port restart full, and its deficit counters at 0 (R132, R139, R144, R146). -/
def State.resetSched (s : State) (port : Nat) : State :=
  { s with sched := { s.sched with
      shapers := s.sched.shapers.filter (fun kb => kb.1 / 16 != port), wheel := s.sched.wheel.filter (fun kb => kb.1 / 16 != port),
      deficit := s.sched.deficit.filter (fun kb => kb.1 / 8 != port), police := s.sched.police.filter (fun kb => kb.1 / 16 != port) } }

/-- A port reset starts (R324): a retrain that also returns the port's fields to reset. -/
def State.startPortReset (port : Nat) (s : State) : State :=
  let s := ((s.takeDown port 7).resetRegs (portRegs port)).resetSched port
  (s.beginTraining port).endMaint (.portReset port) 2

/-- PORT_RESET (R324, R326): PRESET; its locks are those of a retrain. -/
def execPortReset (port : Fin 1088) (s : State) : Host.Outcome State Fault Refusal :=
  ok (s.gate (portCtrl port) (fun s => s.requestMaint (.portReset port) (State.startPortReset port)))

end Sys2Proof.Machine
end

