-- ==== Sys2Proof/Machine/Flits.lean ====
section
/-!
DEFINITION. Flits received and replayed (14_links_and_retry.md, R313, R314, R319, R321, R322; 05, R113; 03,
R54): acceptance in FSEQ order, NAKs, acknowledgements, credits, link-local packets, and packet tails.
-/
namespace Sys2Proof.Machine

/-! ## Packets from a link -/

/-- A whole packet received on a link. Without credit for its cells it is dropped as a credit overrun (R113);
else its cells are charged to the ingress reservation (R111), its header goes to its pipeline, and its trailer,
if it has one, is still to be checked (R54). (DESIGN CHOICE, log entry 20) -/
def State.receivePacket (s : State) (port k : Nat) (sender : Option Nat) (p : Packet) : State :=
  let l := s.link k
  let n := cellsOf p.size
  let room := l.grant.get p.vc + l.retCells.get p.vc - l.rxCells.get p.vc
  let s := (s.bumpPort port 0 1).bumpPort port 1 p.size
  if room < n then (s.countDrop port drOverrun).raise (portEv 0x0103 2 port p.vc (n - room))
  else
    let id := s.dp.nextId
    let it : Item := {
      id := id, body := .ffp p, port := port, tc := p.tc, vc := p.vc, n := n, gen := s.tab.gen, since := s.now,
      charge := .reserved, peer := none, bucket := none, own := false, mcast := none, leg := none, marked := false,
      spray := p.spray == 1, cut := false, sender := sender, latch := [], via := 0 }
    let s := s.setLink k { l with rxCells := l.rxCells.set p.vc (l.rxCells.get p.vc + n) }
    let tails := if p.length = 0 then s.dp.tails else s.dp.tails ++ [⟨id, port, p.trailerOk, none⟩]
    let s := s.xPass (32 + engineOf port) (flits64 p.size)
    { s with dp := { s.dp with nextId := id + 1, rx := Tbl.put (fun _ => []) s.dp.rx port (s.rx port ++ [it]),
                               inRsv := addAt s.dp.inRsv (pvKey port p.vc) n, tails := tails } }

/-- The whole packets that a data flit completes, and the bytes of one that goes on in the next flit: the bytes before START
belong to the packet that has begun, the first packet of the flit begins at START (R313). -/
def Link.takeFlit (l : Link) (f : Flit) : List Packet × List Byte :=
  let old := if l.rxBytes.isEmpty then ([], [])
    else takePackets 64 true (l.rxBytes ++ (if f.start = 0xFF then f.payload else f.payload.take f.start))
  if f.start = 0xFF then old
  else
    let new := takePackets 64 true (f.payload.drop f.start)
    (old.1 ++ new.1, new.2)

/-- A packet's tail passes: a frame may be learned from (R335), and its cells beyond its length are free (R117); one that
was cut through leaves now. -/
def State.tailPassed (s : State) (t : TailWait) : State :=
  let s := match t.frame with
    | some f => { s.learn t.port f with dp := s.dp.trim t.id (cellsOf f.len) }
    | none => s
  let fl := s.dp.flying.filter (fun x => x.item.id == t.id)
  let s := { s with dp := { s.dp with flying := s.dp.flying.filter (fun x => x.item.id != t.id) } }
  forEach (fun (x : Flying) (s : State) => s.flyOut x) fl s

/-- PACKET_TAIL (R54, R329, R335): the tail of the oldest packet or frame of a port whose tail has not passed. A trailer or
FCS that does not agree counts a drop for payload CRC, and the packet leaves with its trailer inverted. (DEDUCED, log
entry 44) (DEDUCED, log entry 44) -/
def execPacketTail (port : Fin 1089) (s : State) : Host.Outcome State Fault Refusal :=
  match s.dp.tails.find? (fun t => t.port == port.val) with
  | none => ok s
  | some t =>
    let s := { s with dp := { s.dp with tails := s.dp.tails.filter (fun x => x.id != t.id) } }
    let s := if t.ok then s
      else { s.countDrop t.port drPayload with dp := { s.dp with badTails := s.dp.badTails ++ [t.id] } }
    ok (s.tailPassed t)

/-! ## Replay (R319) -/

/-- ACK_TIMEOUT_NS, where 0 to 2,499 act as 2,500 (R326). -/
def State.ackTimeout (s : State) (port : Nat) : Nat := max 2500 (s.fld (R.PL_LINK_ACK (port / 64)) 15 0)

/-- A flit that fails its CRC or arrives out of order draws one NAK for the expected FSEQ; no further one
for the same FSEQ follows for ACK_TIMEOUT_NS (R319). It rides a control flit (R314). (DESIGN CHOICE, log entry 21) -/
def State.drawNak (s : State) (port k : Nat) : State :=
  let l := s.link k
  let due : Bool := match l.nakAt with | none => true | some t => decide (t + s.ackTimeout port ≤ s.now)
  if due then
    (((s.setLink k { l with nakAt := some s.now }).emit (.nak port l.rxNext)).bump
      (C.PL_LINK_CNT (port / 64) (port % 64) 4) 1).bump (C.PL_LINK_CNT (port / 64) (port % 64) 7) 1
  else s

/-- Every unacknowledged flit is sent again in order; at the REPLAY_LIMIT-th time with no advance the link
goes down with reason 0x3 (R319). -/
def State.replayAll (s : State) (port k : Nat) : State :=
  let l := s.link k
  if l.replay.isEmpty then s
  else
    let lim := s.fld (R.PL_LINK_CFG (port / 64)) 15 12
    let s := s.setLink k { l with replays := l.replays + 1, since := s.now }
    let s := { s with out := (l.replay.map (Out.flit port)).reverse ++ s.out }
    let s := s.bump (C.PL_LINK_CNT (port / 64) (port % 64) 3) l.replay.length
    if lim ≠ 0 ∧ lim ≤ l.replays + 1 then s.linkDown port 3 else s

/-! ## Receiving -/

/-- Whether flits are taken from a port: it is trained or exchanges control flits; a BP port also while the
module listens (R302). -/
def State.hears (s : State) (port : Nat) : Bool :=
  let p := s.port port
  s.portPowered port && !p.eth && (p.trained_ || (p.st == .training && p.step == 5) ||
    (decide (1024 ≤ port) && s.prism.listenEnd.isSome))

/-- A good flit arrived: the link is not silent, nor is the peer that sent it (R304, R317). -/
def State.heardFrom (s : State) (port : Nat) (sender : Nat) : State :=
  let s := s.setPort port { s.port port with lastGood := s.now }
  if port < 1024 ∨ (s.peer sender).st = .unknown then s else s.setPeer sender { s.peer sender with lastFrame := s.now }

/-- A flit failed its CRC: counted, and it draws a NAK (R319, R326). -/
def State.badFlit (s : State) (port k : Nat) : State :=
  (s.bump (C.PL_LINK_CNT (port / 64) (port % 64) 2) 1).drawNak port k

/-- A packet of a changed plane from a sender other than the one it now delivers is on the old colour
(R299). -/
def State.oldColour (s : State) (port sender : Nat) : Bool :=
  decide (1024 ≤ port) && s.prism.changed.contains (port - 1024) && s.deliveredBy (port - 1024) != some sender

/-- FLIT_RECEIVE (R313, R319, R321): a data or idle flit arrives on a port, on a BP port from the peer at
`sender`. `late`: on a plane in PACKET it arrives partly outside the data window and is discarded (R295). A
data flit is accepted in FSEQ order alone. -/
def execFlitReceive (port : Fin 1088) (sender : Fin 64) (late : Bool) (f : Flit) (s : State) :
    Host.Outcome State Fault Refusal :=
  let k := s.linkKey port sender
  if !s.hears port || !(s.port port).trained_ then ok s
  else if late && decide (1024 ≤ port.val) && (s.plane (port - 1024)).st == .packet then ok (s.bump C.OPT_ALIGN_ERR 1)
  else if !f.good then ok (s.badFlit port k)
  else if f.kind = 1 then ok s
  else
    let s := s.heardFrom port sender
    if f.kind = 2 then ok s
    else
      let l := s.link k
      if f.fseq ≠ l.rxNext then ok (s.drawNak port k)
      else
        let r := l.takeFlit f
        let s := s.setLink k { l with rxNext := (l.rxNext + 1) % 4096, nakAt := none, rxBytes := r.2 }
        let from_ := if port.val < 1024 then none else some sender.val
        let s := if s.oldColour port sender then s.bump C.OPT_FENCE_LATE r.1.length else s
        ok (forEach (fun p s => s.receivePacket port k from_ p) r.1 s)

/-! ## Control flits (R314) -/

/-- The planes that hold a colour. -/
def State.planesAt (s : State) (c : Nat) : List Nat := (List.range 64).filter (fun p => (s.plane p).st == .phase c)

/-- The plane whose frames to a sender are acknowledged by a control flit that arrives on plane q: the one
that carries the reverse colour now (R294); in PHASE, of several planes of that colour, the one of q's rank
among the planes of its own. -/
def State.ackedPlane (s : State) (q sender : Nat) : Option Nat :=
  match (s.plane q).st with
  | .packet =>
    let c := (sender + 64 - s.prismPos) % 64
    some ((c + 64 - slotNumber s.slotNs s.tb0 % 64) % 64)
  | .phase d =>
    let l := s.planesAt ((64 - d % 64) % 64)
    l[((s.planesAt d).filter (· < q)).length % max 1 l.length]?
  | _ => none

/-- The links that a control flit concerns: (port, key) of the acknowledgement, and the key of the credits,
which on a plane in PACKET are the loan for the plane's next slot (R322). (DEDUCED, log entry 26) -/
def State.ctlLinks (s : State) (port sender : Nat) : Option ((Nat × Nat) × Nat) :=
  if port < 1024 then some ((port, port * 64), port * 64)
  else
    match s.ackedPlane (port - 1024) sender with
    | none => none
    | some p =>
      match (s.plane (port - 1024)).st with
      | .packet => some ((1024 + p, s.linkKey (1024 + p) sender),
          s.linkKey (1024 + (p + 63) % 64) sender)
      | _ => some ((1024 + p, s.linkKey (1024 + p) sender), s.linkKey (1024 + p) sender)

/-- Credits of a control flit: the counts are cumulative, modulo 2^16 (R314). -/
def Link.credited (l : Link) (f : Flit) : Link :=
  let d (v : Nat) : Nat := (f.cred v + 65536 - l.credSeen.get v % 65536) % 65536
  { l with credits := ⟨l.credits.req + d 0, l.credits.rsp + d 1, l.credits.coll + d 2, l.credits.bulk + d 3⟩,
           gotCredits := ⟨l.gotCredits.req + d 0, l.gotCredits.rsp + d 1, l.gotCredits.coll + d 2,
                          l.gotCredits.bulk + d 3⟩,
           credSeen := ⟨f.cred 0, f.cred 1, f.cred 2, f.cred 3⟩ }

/-- A (plane, peer) pair drew an acknowledgement: it is reachable, and its slot is not missed (R304). -/
def State.pairAcked (s : State) (port sender : Nat) : State :=
  if port < 1024 then s
  else
    let p := port - 1024
    let pl := s.plane p
    let s := s.setPlane p { pl with unreachable := pl.unreachable.filter (· != sender),
                                    missed := pl.missed.filter (fun x => x.1 != sender) }
    { s with prism := { s.prism with acked := if s.prism.acked.contains (p, sender) then s.prism.acked
                                              else s.prism.acked ++ [(p, sender)] } }

/-- The acknowledgement of a control flit, applied before its NAK (R319); a NAK for a flit already
acknowledged is ignored. -/
def State.applyAck (s : State) (port k sender : Nat) (f : Flit) : State :=
  let s := ((s.setLink k ((s.link k).acked f.ackFseq s.now)).pairAcked port sender).checkAcks
  let l := s.link k
  let oldest := (l.txNext + 4096 - l.replay.length) % 4096
  if f.nak && oldest == f.ackFseq then s.replayAll port k else s

/-- A link-local packet of a control flit: checked as at ingress (R67), then kept for its command; TIME has
no use at a spine. -/
def State.takeLocalPacket (s : State) (port : Nat) (p : Packet) : State :=
  match s.ingressCheck port p with
  | some r => s.countDrop port r
  | none =>
    if !tyLinkLocal p.ty || p.ty == tyTIME then s
    else s.setPort port { s.port port with llq := (s.port port).llq ++ [p] }

/-- CONTROL_FLIT_RECEIVE (R314, R319): on a BP port, from the peer at `sender`. -/
def execControlFlitReceive (port : Fin 1088) (sender : Fin 64) (f : Flit) (s : State) :
    Host.Outcome State Fault Refusal :=
  if !s.hears port then ok s
  else if !f.good then
    ok (if (s.port port).trained_ then s.badFlit port (s.linkKey port sender) else s)
  else if f.kind ≠ 1 then ok s
  else
    let s := s.heardFrom port sender
    let s := match (if (s.port port).trained_ then s.ctlLinks port sender else none) with
      | none => s
      | some ((p, k), kc) =>
        let s := s.setLink kc ((s.link kc).credited f)
        s.applyAck p k sender f
    ok (forEach (fun p s => s.takeLocalPacket port p) (flitLl f (min 4 f.nll)) s)

end Sys2Proof.Machine
end

