-- ==== Sys2Proof/Machine/Peers.lean ====
section
/-!
DEFINITION. Prism peers (13_prism_optics.md, R292 to R294, R302 to R304, R322): the start of a slot,
discovery, readiness and withdrawal, silence and colour death, listening, and the acknowledgement timeout.
-/
namespace Sys2Proof.Machine

/-- Whether a plane's light goes to a position in some slot, whatever the peer's state. -/
def State.aims (s : State) (p j : Nat) : Bool :=
  match (s.plane p).st with
  | .packet => true
  | .phase c => s.reachedBy c == j
  | _ => false

/-- The planes whose light goes to a position. -/
def State.aimed (s : State) (j : Nat) : List Nat := (List.range 64).filter (fun p => s.aims p j)

/-- A colour dies (R303, R304): the peer is DEAD with a cause, the event is raised, frames for it are handed
over (R95), and children whose root it was retry (R183). -/
def State.colourDeath (s : State) (j cause : Nat) : State :=
  let x := s.peer j
  let s := s.setPeer j { x with st := .dead, cause := cause }
  let s := s.raise { code := 0x0601, sev := 1, kind := 0x0D, index := j, arg0 := x.spineId, arg1 := cause }
  (forEach (fun p s => s.pairHandover p j) (s.aimed j) s).rootDead j

/-- Cause 5 (R304): every plane that reaches a LIVE or WITHDRAWN peer is unreachable for it. -/
def State.deathByPlanes (s : State) (j : Nat) : State :=
  let st := (s.peer j).st
  let ps := s.aimed j
  if (st = .live ∨ st = .withdrawn) ∧ !ps.isEmpty ∧ ps.all (fun p => (s.plane p).unreachable.contains j) then
    s.colourDeath j 5
  else s

/-! ## Slots (R292 to R294) -/

/-- LC_DISCOVER as the module sends it (R65). (DEDUCED, log entry 28) -/
def State.discoverPacket (s : State) : Packet :=
  localPacket tyLC_DISCOVER [((0 : Word).setFld 31 22 s.spineId).setFld 21 16 s.prismPos]

/-- SLOT_START (R292, R294, R304, R322): a slot begins. Pairs of the slot that ends without an
acknowledgement count towards unreachability, its unused credits lapse; every plane in PACKET lends its free
pool to the peer of its next slot and opens with LC_DISCOVER; sprayed packets follow their peers. -/
def execSlotStart (s : State) : Host.Outcome State Fault Refusal :=
  let ps := (List.range 64).filter s.rotates
  if !s.on 5 || ps.isEmpty then ok s
  else
    let n := s.nextSlot
    let s := match s.prism.slot with
      | none => s
      | some m => forEach (fun p (s : State) => (s.endSlot m p).lapse m p) ps s
    let s := (s.reach (s.atTb0 (slotStart s.slotNs n))).accountPlanes
    let s := forEach (fun j (s : State) => s.deathByPlanes j) (List.range 64) s
    let s := { s with prism := { s.prism with acked := [], slot := some n } }
    let s := (forEach (fun p s => s.lend p) ps s).followSlot ps
    ok (forEach (fun p s => s.sendLocal (1024 + p) s.discoverPacket) ps s)

/-! ## Discovery (R302, R303) -/

/-- A plane becomes MISWIRED (R302): its transmitter is off, what it holds is handed over. -/
def State.miswire (s : State) (p : Nat) : State :=
  let s := s.accountPlanes
  let s := s.setPlane p { s.plane p with st := .miswired }
  let s := s.raise { code := 0x0602, sev := 1, kind := 2, index := p, arg0 := s.fld R.OPT_PRISM_STAT 31 24, arg1 := 0, arg2 := 4 }
  let s := s.replayHandover (1024 + p) (linkKeys (1024 + p))
  (forEach (fun k (s : State) => s.setLink k (s.link k).voided) (linkKeys (1024 + p)) s).emit (.laser (1024 + p) false)

/-- A SPINE_ID that the module or a live peer other than j holds (cause 3 of R304). (DEDUCED, log entry 29) -/
def State.spineTaken (s : State) (j spine : Nat) : Bool :=
  spine == s.spineId || (List.range 64).any (fun i => i != j && s.peerLive i && (s.peer i).spineId == spine)

/-- A geometrically placed LC_DISCOVER of peer j (R303): a conflict is colour death; an UNKNOWN or DEAD peer
becomes DISCOVERING, and is told that the module is ready where it is. -/
def State.discovered (s : State) (p j spine skew power : Nat) : State :=
  if s.spineTaken j spine then (if (s.peer j).st = .dead then s else s.colourDeath j 3)
  else
    let x := s.peer j
    let new : Bool := x.st == .unknown || x.st == .dead
    let s := s.setPeer j { x with st := if new then .discovering else x.st, spineId := spine, skew := skew,
                                  rxPower := power, lastFrame := s.now }
    if new && s.joined && s.assigned then s.sendReady (1024 + p) else s

/-- DISCOVER_RECEIVE (R302, R303): the oldest LC_DISCOVER received on a plane, with the arrival skew and the
power measured. While the module listens it is noted; else its position is checked against the routing law. -/
def execDiscoverReceive (p : Fin 64) (skew power : Fin 256) (s : State) : Host.Outcome State Fault Refusal :=
  let port := s.port (1024 + p)
  match takeLocal tyLC_DISCOVER port.llq with
  | none => ok s
  | some (pkt, rest) =>
    let spine := pkt.fld 5 31 22
    let pos := pkt.fld 5 21 16
    let s := s.setPort (1024 + p) { port with llq := rest }
    if s.prism.listenEnd.isSome then
      let h := (p.val, pos, slotNumber s.slotNs s.tb0 % 64)
      ok { s with prism := { s.prism with heard := if s.prism.heard.contains h then s.prism.heard else s.prism.heard ++ [h] } }
    else
      match s.deliveredBy p with
      | none => ok s
      | some g =>
        if pos ≠ g then
          let s := s.miswire p
          ok (if pos = s.prismPos ∧ (s.peer g).st ≠ .dead then s.colourDeath g 3 else s)
        else if g = s.prismPos then ok s
        else ok (s.discovered p g spine skew power)

/-- LC_READY_RECEIVE (R303): on a plane, the sender becomes LIVE if it was DISCOVERING or WITHDRAWN. A leaf's
LC_READY changes nothing here. -/
def execLcReadyReceive (port : Fin 1088) (s : State) : Host.Outcome State Fault Refusal :=
  match takeLocal tyLC_READY (s.port port).llq with
  | none => ok s
  | some (_, rest) =>
    let s := s.setPort port { s.port port with llq := rest }
    match (if port.val < 1024 then none else s.deliveredBy (port - 1024)) with
    | none => ok s
    | some j =>
      let x := s.peer j
      if x.st = .discovering ∨ x.st = .withdrawn then
        let s := s.setPeer j { x with st := .live }
        let s := forEach (fun p (s : State) => s.setPlane p { s.plane p with
          unreachable := (s.plane p).unreachable.filter (· != j),
          missed := (s.plane p).missed.filter (fun m => m.1 != j) }) (List.range 64) s
        ok s.reconsider
      else ok s

/-- LC_WITHDRAW_RECEIVE (R303): on a plane, a LIVE sender becomes WITHDRAWN, and the buckets pinned to it
move. A leaf's LC_WITHDRAW changes nothing here. -/
def execLcWithdrawReceive (port : Fin 1088) (s : State) : Host.Outcome State Fault Refusal :=
  match takeLocal tyLC_WITHDRAW (s.port port).llq with
  | none => ok s
  | some (_, rest) =>
    let s := s.setPort port { s.port port with llq := rest }
    match (if port.val < 1024 then none else s.deliveredBy (port - 1024)) with
    | none => ok s
    | some j =>
      let x := s.peer j
      if x.st = .live then
        let s := s.setPeer j { x with st := .withdrawn }
        ok (forEach (fun p (s : State) => s.moveOff (.plane p j) none) (List.range 64) s)
      else ok s

/-! ## Silence (R303, R304) -/

/-- DEAD_NS, where 1 to 499 act as 500; 0: silence never kills a peer (R310). -/
def State.deadNs (s : State) : Nat :=
  let d := s.fld R.OPT_PRISM_CTRL 15 0
  if d = 0 then 0 else max 500 d

/-- PEER_SILENCE_TIMEOUT (R303, R304): no valid frame from a peer for DEAD_NS on any plane that delivers it. A
DISCOVERING peer becomes UNKNOWN, a LIVE one DEAD with cause 1, a WITHDRAWN one DEAD with cause 2. -/
def execPeerSilenceTimeout (j : Fin 64) (s : State) : Host.Outcome State Fault Refusal :=
  let x := s.peer j
  if s.deadNs = 0 ∨ !s.delivers j then ok s
  else
    let t := s.reach (x.lastFrame + s.deadNs)
    match x.st with
    | .discovering => ok (t.setPeer j { x with st := .unknown })
    | .live => ok (t.colourDeath j 1)
    | .withdrawn => ok (t.colourDeath j 2)
    | _ => ok s

/-- The oldest unacknowledged flit of link `k` has waited too long, by the state of the port's plane. -/
def State.ackExpired (s : State) (port peer k : Nat) : PlaneState → State
  | .phase c =>
    let l := s.link k
    let j := s.reachedBy c
    let dead := l.ackAt + s.deadNs
    if s.deadNs ≠ 0 ∧ dead ≤ l.since + s.ackTimeout port then
      let p := port - 1024
      let s := s.reach dead
      let s := s.setPlane p { s.plane p with unreachable := (s.plane p).unreachable ++ [j] }
      (s.pairHandover p j).deathByPlanes j
    else (s.reach (l.since + s.ackTimeout port)).replayAll port k
  | .packet =>
    let s := s.reach ((s.link k).since + s.ackTimeout port)
    if s.reachedBy (s.slotColour (port - 1024)) = peer then s.replayAll port k else s
  | _ => (s.reach ((s.link k).since + s.ackTimeout port)).replayAll port k

/-- ACK_TIMEOUT (R304, R319, R321): the oldest unacknowledged flit of a link, on a plane in PACKET of the pair
with `peer`, has waited ACK_TIMEOUT_NS and every one is sent again; in packet mode only in a slot that reaches
the peer. On a plane in PHASE, DEAD_NS without an acknowledgement makes the pair unreachable first. -/
def execAckTimeout (port : Fin 1088) (peer : Fin 64) (s : State) : Host.Outcome State Fault Refusal :=
  let k := s.linkKey port peer
  if (s.link k).replay.isEmpty ∨ ¬ (s.port port).trained_ then ok s
  else ok (s.ackExpired port peer k (if port.val < 1024 then PlaneState.down else (s.plane (port - 1024)).st))

/-! ## Joining the domain (R302) -/

/-- The module begins to listen: two frames, with its transmitters off. -/
def State.startListening (s : State) : State :=
  let s := s.accountPlanes
  let s := forEach (fun p (s : State) =>
    ((s.takeDown (1024 + p) 7).setPlane p Plane.init).emit (.laser (1024 + p) false)) (List.range 64) s
  { s with prism := { s.prism with listenEnd := some (s.now + 128 * s.slotNs), heard := [], slot := none,
                                   acked := [], retuneEnd := none } }

/-- What was heard on one plane tells (R302): positions as R292 predicts for their slots, PACKET; one
position continuously, PHASE; nothing, DARK; anything else does not fit the routing law, MISWIRED. -/
def State.observed (s : State) (p : Nat) : PlaneState :=
  let h := (s.prism.heard.filter (fun x => x.1 == p)).map (·.2)
  match h with
  | [] => .dark
  | (x, _) :: _ =>
    if h.all (fun a => a.1 == (s.prismPos + 64 - (a.2 + p) % 64) % 64) then .packet
    else if h.all (fun a => a.1 == x) then (if x = s.prismPos then .dark else .phase ((s.prismPos + 64 - x) % 64))
    else .miswired

/-- A plane lit in a mode: its port trains, and the plane enters the mode when the port is up; DARK and
MISWIRED planes stay dark. -/
def State.light (s : State) (p : Nat) (x : PlaneState) : State :=
  match x with
  | .dark => s.setPlane p { Plane.init with st := .dark, next := .dark }
  | .miswired => s.miswire p
  | _ => (s.setPlane p { Plane.init with st := .down, next := x }).beginTraining (1024 + p)

/-- PRISM_LISTEN_END (R302): planes are lit in the observed mode and colour; if nothing was heard at all the
domain is starting, and BASE_PATTERN lights every plane, those outside its mask in PACKET. -/
def execPrismListenEnd (s : State) : Host.Outcome State Fault Refusal :=
  match s.prism.listenEnd with
  | none => ok s
  | some t =>
    let s := s.reach t
    let e := Tbl.get (fun _ => patZero) s.prism.patActive (s.fld R.OPT_PRISM_CTRL 31 24)
    let base := (darkened ((List.range 64).map (fun p => if patMask e p then patState e p else .packet))).1
    let all := if s.prism.heard.isEmpty then base else (List.range 64).map s.observed
    let s := { s with prism := { s.prism with listenEnd := none, heard := [] } }
    ok (forEach (fun x (s : State) => s.light x.1 x.2) ((List.range 64).zip all) s)

end Sys2Proof.Machine
end

