-- ==== Sys2Proof/Machine/Optics.lean ====
section
/-!
DEFINITION. Lasers (13_prism_optics.md, R306 to R308, R310): ageing, the laser record, takeovers and failures.
-/
namespace Sys2Proof.Machine

def State.laser (s : State) (e l : Nat) : Laser := Tbl.get laserNew s.optics.lasers (e * 256 + l)
def State.setLaser (s : State) (e l : Nat) (x : Laser) : State :=
  { s with optics := { s.optics with lasers := Tbl.put laserNew s.optics.lasers (e * 256 + l) x } }

/-- The port of a lane of an engine, and the lane's number in it (R287). -/
def lanePort (e lane : Nat) : Nat := if e < 16 then e * 64 + lane / 2 else 1024 + (e - 16) * 32 + lane / 2

/-- Whether an engine has a laser of an index (R287, R310). -/
def laserKnown (e l : Nat) : Bool := e < 18 && l < allLasers e

/-- The laser's term of its health score (R306): min(1,000, floor(1,800 × (R − 1))). -/
def Laser.term (x : Laser) : Nat := min 1000 (1800 * (x.ratio - 4096) / 4096)

/-- STATE of OPT.LASER_DATA word 0 (R310). -/
def LaserState.code : LaserState → Nat
  | .spare => 0
  | .inService => 1
  | .warming => 2
  | .failed => 3
  | .retired => 4

/-- OPT.LASER_DATA words 0 to 3 (R310). -/
def Laser.words (x : Laser) : List Word :=
  [(((0 : Word).setFld 31 29 x.st.code).setFld 25 16 x.term).setFld 15 0 x.ratio,
   BitVec.ofNat 32 (x.hours / 2 ^ 64), BitVec.ofNat 32 x.power,
   ((0 : Word).setFld 31 16 x.rx).setFld 7 0 (x.lane.getD 255)]

/-- LASER_READ (R310): OPT.LASER_CMD OP 0b01. -/
def execLaserRead (e : Fin 32) (l : Fin 256) (s : State) : Host.Outcome State Fault Refusal :=
  ok (s.gate R.OPT_LASER_CMD (fun s =>
    if laserKnown e l then (s.wrWords (R.OPT_LASER_DATA 0) (s.laser e l).words).status R.OPT_LASER_STAT 0
    else s.status R.OPT_LASER_STAT 3))

/-! ## Takeovers (R307) -/

/-- The first spare of an engine that is ready. -/
def State.spareOf (s : State) (e : Nat) : Option Nat :=
  (List.range (allLasers e)).find? (fun l => (s.laser e l).st == .spare)

/-- Step 1 (R307): a spare enters WARMING; with none ready the laser stays as it is, flagged. -/
def State.startTakeover (e l : Nat) (s : State) : State :=
  match s.spareOf e with
  | some k =>
    let s := s.setLaser e k { s.laser e k with st := .warming }
    { s with optics := { s.optics with takeovers := s.optics.takeovers ++ [⟨e, l, k, false⟩] } }
  | none => (s.setLaser e l { s.laser e l with flagged := true }).endMaint (.takeover e l) 3

/-- LASER_TAKEOVER_REQUEST (R307, R310): OPT.LASER_CMD OP 0b10. -/
def execLaserTakeoverRequest (e : Fin 32) (l : Fin 256) (s : State) : Host.Outcome State Fault Refusal :=
  ok (s.gate R.OPT_LASER_CMD (fun s =>
    if !laserKnown e l then s.status R.OPT_LASER_STAT 3
    else if (s.laser e l).st ≠ .inService ∨ (s.laser e l).lane = none then s.status R.OPT_LASER_STAT 4
    else if (s.spareOf e).isNone then
      (s.setLaser e l { s.laser e l with flagged := true }).status R.OPT_LASER_STAT 5
    else (s.status R.OPT_LASER_STAT 0).requestMaint (.takeover e l) (State.startTakeover e l)))

/-- The takeover of a laser. -/
def State.takeoverOf (s : State) (e l : Nat) : Option Takeover :=
  s.optics.takeovers.find? (fun t => t.engine == e && t.old == l)

/-- The takeovers without that of a laser. -/
def State.dropTakeover (s : State) (e l : Nat) : State :=
  { s with optics := { s.optics with takeovers := s.optics.takeovers.filter (fun t => !(t.engine == e && t.old == l)) } }

/-- SPARE_WARM_DONE (R307 steps 2 and 3): the spare is at temperature and `locked`, ready for the switch; on a
failure to lock it is FAILED and step 1 repeats with the next spare. (DEDUCED, log entry 109) -/
def execSpareWarmDone (e : Fin 18) (l : Fin 256) (locked : Bool) (s : State) : Host.Outcome State Fault Refusal :=
  match s.takeoverOf e l with
  | none => ok s
  | some t =>
    if t.ready then ok s
    else if locked then
      let s := s.dropTakeover e l
      ok { s with optics := { s.optics with takeovers := s.optics.takeovers ++ [{ t with ready := true }] } }
    else
      let s := (s.dropTakeover e l).setLaser e t.spare { s.laser e t.spare with st := .failed }
      ok (s.startTakeover e l)

/-- TAKEOVER_SWITCH (R307 steps 4 to 6): the matrix moves to the spare, which is IN_SERVICE on the lane; the old
laser is RETIRED; EV_LASER is raised. A lane that its laser's failure took out may retrain (R308). -/
def execTakeoverSwitch (e : Fin 18) (l : Fin 256) (s : State) : Host.Outcome State Fault Refusal :=
  match s.takeoverOf e l with
  | none => ok s
  | some t =>
    if !t.ready then ok s
    else
      let old := s.laser e l
      let s := (s.dropTakeover e l).setLaser e t.spare { s.laser e t.spare with st := .inService, lane := old.lane }
      let s := s.setLaser e l { old with st := .retired, lane := none, flagged := false }
      let s := s.raise { code := 0x0604, sev := 0, kind := 0x0B, index := e * 256 + l, arg0 := t.spare, arg1 := 0 }
      let s := (s.bump C.OPT_TAKEOVERS 1).endMaint (.takeover e l) 2
      match old.lane with
      | none => ok s
      | some lane =>
        let p := lanePort e lane
        let x := s.port p
        ok ((s.setPort p { x with laserOut := lanesMinus x.laserOut (2 ^ (lane % 2)) }).beginTraining p)

/-- LASER_FAIL (R308): a working laser becomes FAILED, its port runs on one lane, and a takeover starts at once
at step 1, as a fault action that takes no lock (R431). -/
def execLaserFail (e : Fin 18) (l : Fin 256) (s : State) : Host.Outcome State Fault Refusal :=
  let x := s.laser e l
  match x.st, x.lane with
  | .inService, some lane =>
    let s := s.setLaser e l { x with st := .failed }
    let p := lanePort e lane
    let s := s.setPort p { s.port p with laserOut := (s.port p).laserOut ||| 2 ^ (lane % 2) }
    let s := s.degrade p (lane % 2) 1
    ok (if (s.takeoverOf e l).isSome then s else s.startTakeover e l)
  | _, _ => ok s

/-! ## Ageing (R306) -/

/-- M in tenths (R306): 10 for a lit laser, 6 on a plane in PHASE, 0 while the laser is dark or a spare.
(DEDUCED, log entry 108) -/
def State.ageRate (s : State) (e : Nat) (x : Laser) : Nat :=
  match x.st, x.lane with
  | .inService, some lane =>
    let p := lanePort e lane
    if (s.port p).st = .down then 0
    else if p < 1024 then 10
    else match (s.plane (p - 1024)).st with
      | .phase _ => 6
      | .packet | .retune => 10
      | _ => 0
  | _, _ => 0

/-- One second of operation at a site temperature of t × 0.1 °C, in 2^-64 hours: 2^((T − 55) / 10) × M / 3,600,
truncated (R306). -/
def agedBy (t : Int) (m : Nat) : Nat :=
  let x := t - 550
  let k := x / 100
  let f := (x % 100).toNat
  let v := exp2Fix (f * 2 ^ fixBits / 100) * m * 2 ^ 64
  (if 0 ≤ k then v * 2 ^ k.toNat else v / 2 ^ (-k).toNat) / (36000 * 2 ^ fixBits)

/-- LASER_AGEING_TICK (R306): each second a laser's bias ratio is measured (`ratio`, in 2^-12), with its launch
power and site temperature (word 2 of its record) and the power received on its lane; its equivalent hours
grow. -/
def execLaserAgeingTick (e : Fin 18) (l : Fin 256) (ratio : Fin 65536) (power : Word) (rx : Fin 65536) (s : State) :
    Host.Outcome State Fault Refusal :=
  if laserKnown e l then
    let x := s.laser e l
    ok (s.setLaser e l { x with ratio := ratio, power := power.toNat, rx := rx,
                                hours := x.hours + agedBy (signedOf 16 (power.fld 15 0)) (s.ageRate e x) })
  else ok s

end Sys2Proof.Machine
end

