-- ==== Sys2Proof/Machine/Sha3.lean ====
section
/-!
DEFINITION. SHA3-256 (FIPS 202), which the module uses for measurements (19_reset_boot_security.md, R402 to
R404). Lanes are numbered x + 5y.
-/
namespace Sys2Proof.Machine

/-- A lane of the Keccak state. -/
abbrev Lane := BitVec 64

/-- The lane at (x, y), both modulo 5. -/
def lane (a : List Lane) (x y : Nat) : Lane := a.getD (x % 5 + 5 * (y % 5)) 0

/-- A state of 25 lanes by its lanes. -/
def lanes (f : Nat → Nat → Lane) : List Lane := (List.range 25).map (fun i => f (i % 5) (i / 5))

/-- The step theta. -/
def theta (a : List Lane) : List Lane :=
  let c : List Lane := (List.range 5).map (fun x => lane a x 0 ^^^ lane a x 1 ^^^ lane a x 2 ^^^ lane a x 3 ^^^ lane a x 4)
  let col (x : Nat) : Lane := c.getD (x % 5) 0
  lanes (fun x y => lane a x y ^^^ (col (x + 4) ^^^ (col (x + 1)).rotateLeft 1))

/-- The rotation offsets of rho, by lane. -/
def rhoOff : List Nat :=
  [0, 1, 62, 28, 27, 36, 44, 6, 55, 20, 3, 10, 43, 25, 39, 41, 45, 15, 21, 8, 18, 2, 61, 56, 14]

/-- The steps rho and pi: the lane at (x, y) comes from (x + 3y, x). -/
def rhoPi (a : List Lane) : List Lane :=
  lanes (fun x y =>
    let i := (x + 3 * y) % 5 + 5 * x
    (a.getD i 0).rotateLeft (rhoOff.getD i 0))

/-- The step chi. -/
def chi (a : List Lane) : List Lane :=
  lanes (fun x y => lane a x y ^^^ (~~~(lane a (x + 1) y) &&& lane a (x + 2) y))

/-- The round constants of iota. -/
def iotaConst : List Lane :=
  [0x0000000000000001, 0x0000000000008082, 0x800000000000808A, 0x8000000080008000, 0x000000000000808B,
   0x0000000080000001, 0x8000000080008081, 0x8000000000008009, 0x000000000000008A, 0x0000000000000088,
   0x0000000080008009, 0x000000008000000A] ++
  [0x000000008000808B, 0x800000000000008B, 0x8000000000008089, 0x8000000000008003, 0x8000000000008002,
   0x8000000000000080, 0x000000000000800A, 0x800000008000000A, 0x8000000080008081, 0x8000000000008080,
   0x0000000080000001, 0x8000000080008008]

/-- One round with its constant. -/
def keccakRound (a : List Lane) (rc : Lane) : List Lane :=
  let b := chi (rhoPi (theta a))
  b.set 0 (b.getD 0 0 ^^^ rc)

/-- Keccak-f[1600]. -/
def keccakF (a : List Lane) : List Lane := iotaConst.foldl keccakRound a

/-- Eight bytes as a lane, least significant first. -/
def laneOf (bs : List Byte) : Lane := bs.foldr (fun b acc => acc <<< 8 ||| b.zeroExtend 64) 0

/-- The bytes of a lane. -/
def Lane.bytes (x : Lane) : List Byte := (List.range 8).map (fun i => (x >>> (8 * i)).truncate 8)

/-- A block of 136 bytes absorbed. -/
def absorb (a : List Lane) (block : List Byte) : List Lane :=
  keccakF ((List.range 25).map (fun i => a.getD i 0 ^^^ laneOf ((block.drop (8 * i)).take 8)))

/-- Whole blocks absorbed one after another; fuel bounds their number. -/
def absorbAll : Nat → List Byte → List Lane → List Lane
  | 0, _, a => a
  | n + 1, bs, a => if bs.isEmpty then a else absorbAll n (bs.drop 136) (absorb a (bs.take 136))

/-- The message padded for SHA-3: 0x06, zeros, and the top bit of the block's last byte. -/
def sha3Pad (m : List Byte) : List Byte :=
  let n := 136 - m.length % 136
  if n = 1 then m ++ [0x86] else m ++ 0x06 :: List.replicate (n - 2) 0 ++ [0x80]

/-- SHA3-256 (FIPS 202). -/
def sha3 (m : List Byte) : List Byte :=
  let p := sha3Pad m
  (absorbAll (p.length / 136 + 1) p (List.replicate 25 0)).flatMap Lane.bytes |>.take 32

end Sys2Proof.Machine
end

