-- ==== Sys2Proof/Machine/Domains.lean ====
section
/-!
DEFINITION. Power domains (02_module_construction.md, R34, R35, R43 to R48; 18, R382, R386; 19, R389, R392,
R393): what a domain requires, draining, isolation, what is lost with a domain and what comes back, cascades,
die links, and the start of a boot.
-/
namespace Sys2Proof.Machine

/-! ## Die links (R33 to R36) -/

/-- The islands at the two ends of die link n, far end first (R407). -/
def linkIslands (n : Nat) : List Nat :=
  if n < 8 then [74 + n, 82 + n] else if n < 16 then [82 + n, 90 + n] else if n < 18 then [90 + n, 92 + n]
  else if n < 22 then [57 + 5 * (n - 18), 58 + 5 * (n - 18)] else [4, 5]

/-- The power domain of both ends of die link n (R33). -/
def dieLinkDomain (n : Nat) : Nat :=
  if n < 8 then 17 else if n < 16 then 18 else if n < 18 then 19 else if n < 22 then n - 5 else 2

/-- The die links of a domain. -/
def linksIn (d : Nat) : List Nat := (List.range 23).filter (fun n => dieLinkDomain n == d)

/-- Whether die link n is up. -/
def State.dieLinkUp (s : State) (n : Nat) : Bool := s.fld (R.GLB_D2D_STAT n) 31 31 == 1

/-- EV_DIE_LINK, on every change of state (R34). -/
def State.dieLinkEvent (s : State) (n : Nat) : State :=
  let up := s.fld (R.GLB_D2D_STAT n) 31 31
  s.raise { code := 0x0104, sev := if up = 1 then 0 else 2, kind := 4, index := n, arg0 := up,
            arg1 := s.fld (R.GLB_D2D_STAT n) 27 24 }

/-- The last attempt to train die link n (R34). -/
def State.tryLink (s : State) (n : Nat) : State :=
  { s with pwr := { s.pwr with linkTryAt := Tbl.put (fun _ => 0) s.pwr.linkTryAt n s.now } }

/-- A die link trained, with some wires on spares: up, both its crossings announced (R34, R42).
(DEDUCED, log entry 135) -/
def State.dieLinkOn (s : State) (n spares : Nat) : State :=
  ((((s.setF (R.GLB_D2D_STAT n) 31 30 2).setF (R.GLB_D2D_STAT n) 27 24 spares).xAnnounce n).xAnnounce (32 + n)).dieLinkEvent n

/-- A die link that is up goes down; its credits are void. -/
def State.dieLinkOff (s : State) (n : Nat) : State :=
  if s.dieLinkUp n then
    ((((s.setF (R.GLB_D2D_STAT n) 31 31 0).xShut n).xShut (32 + n)).tryLink n).dieLinkEvent n
  else s

/-! ## Crossings of a domain (R38, R42, R46, R47) -/

/-- The crossings that are no die link's: the traffic manager's into each pipeline's egress side, PL17's into Canvas; each
with the domains at its two ends. -/
def innerCrossings : List (Nat × Nat × Nat) :=
  (List.range 18).map (fun pl => (64 + pl, 8, pipelineDomain pl)) ++ [(96, 5, 8)]

/-- The producer and consumer of a crossing that are islands of the core (R407): traffic manager 0 and a pipeline, PL17 and
Canvas 0. -/
def innerIslands (k : Nat) : List Nat := if k = 96 then [23, 38] else [32, 6 + (k - 64)]

/-- A crossing whose two domains are on, and whose islands are not in reset, is announced (R42, R47). -/
def State.openCrossings (s : State) : State :=
  forEach (fun (x : Nat × Nat × Nat) (s : State) =>
    if s.on x.2.1 && s.on x.2.2 && !(innerIslands x.1).any s.islandHeld then s.xAnnounce x.1
    else s) innerCrossings s

/-- The crossings of a domain that leaves the on state are closed at their producers (R46, R47). -/
def State.shutCrossings (s : State) (d : Nat) : State :=
  forEach (fun (x : Nat × Nat × Nat) (s : State) => if x.2.1 = d ∨ x.2.2 = d then s.xShut x.1 else s) innerCrossings s

/-- Isolation clamps on the links of a domain, or none (R46 step 3, R36). -/
def State.clamp (s : State) (d : Nat) (on : Bool) : State :=
  forEach (fun n (s : State) =>
    let s := if on then s.dieLinkOff n else s
    s.setF (R.GLB_D2D_STAT n) 30 30 (bit01 on)) (linksIn d) s

/-! ## What a domain requires (R43, R45) -/

/-- The domains that PDn requires: one of each group. (DEDUCED, log entry 129) -/
def requiresAny (n : Nat) : List (List Nat) :=
  if n = 2 then [[1]]
  else if n ≤ 2 then []
  else if n ≤ 5 then [[8], [6, 7]]
  else if n ≤ 7 then [[8]]
  else if n = 8 then [[1]]
  else if n ≤ 12 then [[n + 4]]
  else if n ≤ 16 then [[5]]
  else if n = 17 then [[3]]
  else if n = 18 then [[4]]
  else if n = 19 then [[5]]
  else if n = 20 then [[2], [8], [13, 14, 15, 16]]
  else []

/-- The order in which domains leave the on state in a cascade: the reverse of R43. -/
def downOrder : List Nat := [17, 18, 19, 20, 9, 10, 11, 12, 13, 14, 15, 16, 3, 4, 5, 6, 7, 8, 2]

/-- The domains that have a retention state (R386). -/
def retainable (n : Nat) : Bool := n = 6 || n = 7 || (9 ≤ n && n ≤ 16) || n = 20

/-- A domain that stands: neither off nor in retention nor in reset. -/
def State.stands (s : State) (n : Nat) : Bool :=
  match s.domSt n with
  | .off | .retention | .reset => false
  | _ => true

/-- Domains that still stand and would lose a requirement with those of a list. (DEDUCED, log entry 130) -/
def State.growCascade (s : State) (c : List Nat) : List Nat :=
  c ++ downOrder.filter (fun m => !c.contains m && s.stands m &&
    (requiresAny m).any (fun g => g.any c.contains && g.all (fun a => c.contains a || !s.stands a)))

/-- The domains that a request to take PDn down takes down (R45). -/
def State.cascade (s : State) (n : Nat) : List Nat :=
  s.growCascade (s.growCascade (s.growCascade (s.growCascade (s.growCascade [n]))))

/-- The first of a cascade to leave the on state; PDn itself when nothing else stands. -/
def State.nextDown (s : State) (n : Nat) : Nat :=
  let c := s.cascade n
  (downOrder.find? (fun m => m != n && c.contains m && s.stands m)).getD n

/-- The domain to turn on next so that PDn can be on (R45); where one of several will do, one that turns on
already, else the lowest. Fuel bounds the depth of R43. -/
def State.nextUp (s : State) (n : Nat) : Nat → Nat
  | 0 => n
  | k + 1 =>
    match (requiresAny n).find? (fun g => !g.any s.on) with
    | none => n
    | some g =>
      match g.find? (fun a => s.domSt a == .turningOn), g with
      | some a, _ => a
      | none, a :: _ => s.nextUp a k
      | none, [] => n

/-! ## Registers and counters that a reset returns (R12, R393) -/

/-- A register's word after a reset that keeps the fields of some access types. -/
def keptWord (off : Nat) (w : Word) (keep : Acc → Bool) : Word :=
  match findReg regMap off with
  | some (r, _) => r.fields.foldl (fun acc f => if keep f.acc then acc.setFld f.hi f.lo (w.fld f.hi f.lo) else acc) (regReset off)
  | none => 0

/-- The registers after a reset of those at some offsets. -/
def resetWords (which : Nat → Bool) (keep : Acc → Bool) : Tbl Word → Tbl Word
  | [] => []
  | kw :: t =>
    let rest := resetWords which keep t
    if which kw.1 then
      let w := keptWord kw.1 kw.2 keep
      if w = regReset kw.1 then rest else (kw.1, w) :: rest
    else kw :: rest

/-- The domain of the counter at an offset (R11). -/
def cntDomain (off : Nat) : Nat :=
  match findCnt cntMap off with
  | some (c, ix, _) => c.domain ix
  | none => 0

/-- The registers of domain PDn returned to reset but for RWP fields, its counters cleared (R12, R392, R393). -/
def State.resetDomain (s : State) (n : Nat) : State :=
  { s with regs := resetWords (fun off => regDomain off == n) (fun a => a == .rwp) s.regs,
           cnt := s.cnt.filter (fun kc => cntDomain kc.1 != n) }

/-! ## Packets that go with a domain (R46, R107) -/

/-- Packets held on-die, each with the key of the queue that charges it: received, waiting for a header slot or
for admission, queued, in the no-path hold, in moves, in the replication unit. `hbm`: spilled ones too. -/
def State.heldItems (s : State) (hbm : Bool) : List (Nat × Item) :=
  let free (l : List Item) : List (Nat × Item) := l.map (fun it => (0, it))
  s.dp.rx.flatMap (fun x => free x.2) ++ s.dp.hq.flatMap (fun x => free x.2)
    ++ s.dp.waiting.flatMap (fun x => free (x.2.map (·.item)))
    ++ s.dp.queues.flatMap (fun x =>
      (x.2.head ++ x.2.spill.flatMap (fun b => if hbm || b.st != .inHbm then b.items else []) ++ x.2.tail).map
        (fun it => (x.1, it)))
    ++ free s.dp.hold ++ s.dp.moves.flatMap (fun m => free m.held) ++ free (s.dp.mcIn.map (·.item))

/-- An egress queue without some items. -/
def EQueue.lessHeld (q : EQueue) (gone : Item → Bool) (hbm : Bool) : EQueue :=
  let stay (l : List Item) : List Item := l.filter (fun it => !gone it)
  { q with
    head := stay q.head, tail := stay q.tail,
    spill := (q.spill.map (fun b => if hbm || b.st != .inHbm then { b with items := stay b.items } else b)).filter
      (fun b => !b.items.isEmpty) }

/-- Blocks in HBM that go with some items. -/
def blocksGone (qs : Tbl EQueue) (gone : Item → Bool) (hbm : Bool) : Nat :=
  (qs.map (fun x => hbmBlocksOf x.2 - hbmBlocksOf (x.2.lessHeld gone hbm))).sum

/-- Held packets dropped under a reason, each once (R27, R107, R126). -/
def State.dropHeld (s : State) (gone : Item → Bool) (hbm : Bool) (reason : Nat) : State :=
  let l := (s.heldItems hbm).filter (fun x => gone x.2)
  let stay (l : List Item) : List Item := l.filter (fun it => !gone it)
  let d := s.dp
  let reps := d.mcWait.filter (fun w => gone w.item)
  let s := { s with dp := { d with
    rx := d.rx.map (fun (x : Nat × List Item) => (x.1, stay x.2)),
    hq := d.hq.map (fun (x : Nat × List Item) => (x.1, stay x.2)),
    waiting := d.waiting.map (fun (x : Nat × List Waiting) => (x.1, x.2.filter (fun w => !gone w.item))),
    queues := d.queues.map (fun (x : Nat × EQueue) => (x.1, x.2.lessHeld gone hbm)), hold := stay d.hold,
    moves := d.moves.map (fun (m : Move) => { m with held := stay m.held }),
    mcIn := d.mcIn.filter (fun (m : McIn) => !gone m.item), mcWait := d.mcWait.filter (fun (w : Waiting) => !gone w.item),
    blocksLost := d.blocksLost + blocksGone d.queues gone hbm } }
  let s := { s with dp := { s.dp with
    rx := s.dp.rx.filter (fun (x : Nat × List Item) => !x.2.isEmpty), hq := s.dp.hq.filter (fun (x : Nat × List Item) => !x.2.isEmpty),
    waiting := s.dp.waiting.filter (fun (x : Nat × List Waiting) => !x.2.isEmpty) } }
  let s := forEach (fun x (s : State) => (s.dropItem reason x.1 x.2).emptied x.1) l s
  forEach (fun (w : Waiting) (s : State) =>
    let id := w.item.mcast.getD 0
    (({ s with dp := s.dp.replicaDone id } : State).countDrop w.item.port reason).mcSettle id) reps s

/-- The ports of a domain: of its pipelines, or of its optical engines (R43). -/
def domainPorts (n : Nat) : List Nat :=
  if n = 3 ∨ n = 17 then List.range 512
  else if n = 4 ∨ n = 18 then (List.range 512).map (· + 512)
  else if n = 5 ∨ n = 19 then (List.range 64).map (· + 1024)
  else []

/-- Whether a received item waits in a pipeline of a domain. -/
def ofPipes (n port : Nat) : Bool := portDomain port == n

/-- The unit behind PL17 whose crossing a domain is at an end of (R33, R43). -/
def domainUnit (n : Nat) : Option Nat :=
  if n = 2 then some 5 else if n = 5 ∨ n = 8 then some 4 else if 13 ≤ n ∧ n ≤ 16 then some (n - 13) else none

/-- Packets received on ports and not yet in a header queue: they lie between the ports' engine and their pipeline. -/
def State.arrivedAt (s : State) (here : Nat → Bool) : List Item := (s.dp.rx.filter (fun x => here x.1)).flatMap (·.2)

/-- Packets in the crossings into and out of a domain (R46), as the model holds them. -/
def State.entriesIn (s : State) (n : Nat) : List Item :=
  let unit := match domainUnit n with | some u => s.unitQueue u | none => []
  if 3 ≤ n ∧ n ≤ 5 then
    s.arrivedAt (ofPipes n) ++ (s.dp.hq.filter (fun x => ofPipes n (x.1 / 4))).flatMap (·.2) ++ unit
  else if n = 6 ∨ n = 7 then
    ((s.heldItems false).map (·.2) ++ s.dp.mcWait.map (·.item)).filter (fun it => s.inHalf n it.id)
  else if n = 8 then s.dp.mcIn.map (·.item) ++ unit
  else if 17 ≤ n ∧ n ≤ 19 then s.arrivedAt (fun p => decide (p < 1088) && opticalDomain (engineOf p) == n)
  else if n = 20 then
    s.dp.queues.flatMap (fun x => x.2.spill.flatMap (fun b =>
      match b.st with | .writing => b.items | .reading => b.items | _ => []))
  else unit

/-- Entries in the crossings into and out of a domain: packets, and answers on their way to a Palette scheduler (R46). -/
def State.entryCount (s : State) (n : Nat) : Nat :=
  (s.entriesIn n).length + (if 9 ≤ n ∧ n ≤ 12 then (s.palDie (n - 9)).responses.length else 0)

/-- Arriving packets that a drain discards count in the crossing of their engine's die link (R46). -/
def State.countArriving (s : State) (l : List Item) : State :=
  forEach (fun (it : Item) (s : State) =>
    let k := 32 + engineOf it.port
    if it.port < 1088 then s.setXing k { s.xing k with discarded := (s.xing k).discarded + flits64 it.size } else s) l s

/-- Entries on their way into a unit discarded, and counted in its crossing (R46). -/
def State.dropUnit (s : State) (u : Nat) (gone : Item → Bool) : State :=
  let l := s.unitQueue u
  let k := unitXing u
  forEach (fun it (s : State) => (s.setXing k ((s.xing k).discard (unitEntries u it))).dropItem drIsolation 0 it)
    (l.filter gone) (s.setUnitIn u (l.filter (fun it => !gone it)))

/-- Packets still in crossings when a drain window expires are discarded, each once under reason 0x0F, and counted per crossing
(R46, R126). -/
def State.discardItems (s : State) (l : List Item) (hbm : Bool) : State :=
  let gone (it : Item) : Bool := (l.map (·.id)).contains it.id
  let s := s.countArriving ((s.arrivedAt (fun _ => true)).filter gone)
  (forEach (fun u (s : State) => s.dropUnit u gone) (List.range 6) s).dropHeld gone hbm drIsolation

/-- The entries still queued when a domain's drain window expires are discarded (R46). -/
def State.discardEntries (s : State) (n : Nat) : State :=
  let s := s.discardItems (s.entriesIn n) (n = 20)
  if 9 ≤ n ∧ n ≤ 12 then s.updDie (n - 9) (fun d => { d with responses := [] }) else s

/-! ## Crossings of an island (R48, R419, R432) -/

/-- The die link of an island that is one of its ends. -/
def islandLink (i : Nat) : Option Nat := (List.range 23).find? (fun n => (linkIslands n).contains i)

/-- Packets in the crossings into an island (R48). -/
def State.islandEntries (s : State) (i : Nat) : List Item :=
  match islandLink i with
  | some n =>
    if n < 18 then s.arrivedAt (fun p => decide (p < 1088) && engineOf p == n)
    else if n < 22 then s.unitQueue (n - 18) else s.unitQueue 5
  | none =>
    if 6 ≤ i ∧ i ≤ 23 then
      s.arrivedAt (fun p => pipeOf p == i - 6) ++ (s.dp.hq.filter (fun x => pipeOf (x.1 / 4) == i - 6)).flatMap (·.2)
    else if i = 37 then s.dp.mcIn.map (·.item)
    else if 38 ≤ i ∧ i ≤ 41 then (s.unitQueue 4).filter (fun it => it.pkt.fld 5 31 18 % 4 == i - 38)
    else if 54 ≤ i ∧ i ≤ 73 ∧ (i - 54) % 5 = 2 then s.unitQueue ((i - 54) / 5)
    else if i = 111 then s.entriesIn 20
    else []

/-- The crossings of an island in reset are closed at their producers (R42). -/
def State.shutIsland (s : State) (i : Nat) : State :=
  match islandLink i with
  | some n => (s.xShut n).xShut (32 + n)
  | none => forEach (fun (x : Nat × Nat × Nat) (s : State) => if (innerIslands x.1).contains i then s.xShut x.1 else s)
      innerCrossings s

/-- The crossings of an island that has announced itself (R42, R432). -/
def State.openIsland (s : State) (i : Nat) : State :=
  match islandLink i with
  | some n => if s.dieLinkUp n then (s.xAnnounce n).xAnnounce (32 + n) else s
  | none => s.openCrossings

/-! ## What is lost with a domain (R392, R393) -/

/-- Spill blocks discarded with the deep-buffer controller (R122, R419). -/
def State.discardSpill (s : State) : State :=
  let l := s.dp.queues.flatMap (fun x => x.2.spill.flatMap (fun b => b.items.map (fun it => (x.1, it))))
  let n := (s.dp.queues.map (fun x => hbmBlocksOf x.2)).sum
  let s := { s with dp := { s.dp with queues := s.dp.queues.map (fun x => (x.1, { x.2 with spill := [] })),
                                      blocksLost := s.dp.blocksLost + n } }
  let s := forEach (fun x (s : State) => s.dropItem drSpillError x.1 x.2) l s
  forEach (fun k (s : State) => s.emptied k) (Tbl.keys s.dp.queues) s

/-- What a port keeps of its fibres and lasers when its pipeline loses its state. -/
def Port.bare (p : Port) : Port := { Port.init with los := p.los, overload := p.overload, laserOut := p.laserOut }

/-- The state of the ports of domains PD03 to PD05 lost. -/
def State.portsLost (s : State) (n : Nat) : State :=
  let here (port : Nat) : Bool := portDomain port == n
  let ports := s.ports.foldl (fun t x => if here x.1 then Tbl.put (fun _ => Port.init) t x.1 x.2.bare else t) s.ports
  { s with
    ports := ports, links := s.links.filter (fun x => !here (x.1 / 64)),
    macs := s.macs.filter (fun x => pipelineDomain (x.1 / 2 ^ 48 / 4096) != n),
    sched := { s.sched with
      shapers := s.sched.shapers.filter (fun x => !here (x.1 / 16)), wheel := s.sched.wheel.filter (fun x => !here (x.1 / 16)),
      police := s.sched.police.filter (fun x => !here (x.1 / 16)),
      deficit := s.sched.deficit.filter (fun x => !here (x.1 / 8)), turn := s.sched.turn.filter (fun x => !here x.1),
      drrLast := s.sched.drrLast.filter (fun x => !here x.1), rrLast := s.sched.rrLast.filter (fun x => !here x.1),
      vcLast := s.sched.vcLast.filter (fun x => !here (x.1 / 8)) },
    dp := { s.dp with
      hqTurn := s.dp.hqTurn.filter (fun x => pipelineDomain x.1 != n),
      bankQ := s.dp.bankQ.filter (fun x => pipelineDomain x.1 != n),
      weightAt := s.dp.weightAt.filter (fun x => !here x.1) } }

/-- PD05 loses PL16 and PL17: Prism and its peers (R393). The module's own series go on (R68). -/
def State.spineSideLost (s : State) : State :=
  { s with prism := .init, planes := [], peers := [], dp := { s.dp with detourTurn := [] } }

/-- PD08 loses the traffic manager, the tables, the replication unit and Canvas. The module has not left the fabric: its
ready message of R30 stands, and packets that have reached the hub stay there. -/
def State.coreLost (s : State) : State :=
  { s with tab := { Tables.empty with ready := s.tab.ready }, canvas := .init,
           dp := { Datapath.empty with nextId := s.dp.nextId, seqs := s.dp.seqs, unitIn := s.dp.unitIn.filter (fun x => x.1 != 4) },
           sched := { s.sched with deficit := [], turn := [], drrLast := [], rrLast := [], vcLast := [] } }

/-- PAL.LANE_MAP as the retired groups leave it (R206, R393: LANE_RETIRE is kept in PD01). -/
def State.remapLanes (s : State) (e : Nat) : State :=
  let r := s.fld (R.PAL_LANE_RETIRE e) 16 0
  let good := (List.range 17).filter (fun g => !r.testBit g)
  let use := good.take 16
  let s := s.setF (R.PAL_LANE_MAP e) 16 0 (use.foldl (fun m g => m + 2 ^ g) 0)
  let s := s.setF (R.PAL_LANE_MAP e) 31 27 ((good.drop 16).headD 0x1F)
  s.setEngine e { s.engine e with noSpare := use.length < 16 }

/-- Rings bound to some engines lose their run state with the lists queued, suspended and running there; they restart when
they are enabled again (R244). -/
def State.dropRings (s : State) (es : List Nat) : State :=
  let s := forEach (fun e (s : State) => s.setEngine e { s.engine e with run := none, queues := [], resumeQ := [] }) es s
  { s with pal := { s.pal with rings := s.pal.rings.map (fun (x : Nat × PRing) =>
      (x.1, if es.contains x.2.engine then { PRing.init with entry := x.2.entry } else x.2)) } }

/-- The Palette domain of die d loses its engines and the die's settings (R237, R393); the ring table is kept while
another Palette die is on. With a reset the run state of the die's rings is lost; as the domain goes off, lists of unpinned
rings move, and those of pinned rings wait for the engine. (DEDUCED, log entry 176) -/
def State.palLost (s : State) (d : Nat) (reset : Bool) : State :=
  let es := [2 * d, 2 * d + 1]
  let s := if reset then s.dropRings es else s
  let s := forEach (fun e (s : State) =>
    let s := s.setEngState e .off
    (s.engineLost e).endMaint (.offline e) 3) es s
  let s := s.resetDomain (palDomain d)
  let s := forEach (fun e (s : State) =>
    let x := s.engine e
    (s.setEngine e { Engine.init with queues := x.queues, resumeQ := x.resumeQ, acctAt := s.now }).remapLanes e) es s
  let s := s.updDie d (fun _ => PalDie.init)
  if (List.range 4).any (fun i => i != d && (s.on (palDomain i) || s.domSt (palDomain i) == .retention)) then s
  else { s with pal := { s.pal with rings := [], engines := s.pal.engines.map (fun x => (x.1, { x.2 with queues := [], resumeQ := [] })) } }

/-- The HBM domain of die d loses its memory, its home agent and its trackers (R284, R393); the page map stays. -/
def State.hbmLost (s : State) (d : Nat) : State :=
  let s := forEach (fun k (s : State) => if s.stackSt k = 0 then s else s.stackTo k 0) ((List.range 8).map (· + 8 * d)) s
  let s := ((s.pagesLost false d).canvasDieLost d).homeLost d
  let m := s.mem.clear (memKey d 0) (memKey d (2 ^ 39))
  let s := { s with
    mem := { m with fixed := Tbl.put (fun _ => 0) m.fixed d 0,
                    retiring := m.retiring.filter (fun x => x.1 / 8 != d), retireQ := m.retireQ.filter (fun k => k / 8 != d),
                    ueTimes := m.ueTimes.filter (fun x => x.1 / 8 != d),
                    rawClass := m.rawClass.filter (fun x => x.1 != d), class_ := m.class_.filter (fun x => x.1 != d) },
    homes := s.homes.filter (fun x => x.1 != d) }
  let stackList := (List.range 8).map (· + 8 * d)
  let s := forEach (fun k (s : State) => (s.endMaint (.stack k) 3)) stackList s
  let sts := stackList.map s.stackSt
  let s := s.resetDomain (hbmDomain d)
  forEach (fun x (s : State) => s.setStack x.1 x.2) (stackList.zip sts) s

/-- PD20 loses the CXL ports and the deep-buffer controller (R272, R393). -/
def State.cxlLost (s : State) : State :=
  let s := forEach (fun k (s : State) => if s.cxlSt k = 0 then s else
    ((s.cxlDown k 0).endMaint (.cxlAdd k) 3).endMaint (.cxlRemove k) 3) (List.range 8) s
  let s := (s.discardSpill).resetDomain 20
  { s with mem := { s.mem with cxlBytes := [], cxlFailAt := [], cxlEnAt := [] },
           dp := { s.dp with blocksWritten := 0, blocksRead := 0, blocksLost := 0 } }

/-- Hot updates and flash programs end with PD02, running or waiting (R431). -/
def State.dropHubJobs (s : State) : State :=
  let hub (x : Activity × Bool) : Bool := match x.1 with | .ucode _ _ => true | .flash _ _ => true | _ => false
  let gone := s.maint.filter hub
  let s := { s with maint := s.maint.filter (fun x => !hub x) }
  let s := if gone.isEmpty then s else s.setF R.GLB_FLASH_STAT 31 31 0
  forEach (fun (x : Activity × Bool) (s : State) => s.maintEvent x.1 3) gone s

/-- PD02 loses the host link, its rings, the event queue, the hub's requests and windows, Loupe and Easel's
settings (R361, R372, R375, R393); events not delivered are counted by PD01. -/
def State.hubLost (s : State) : State :=
  let s := (s.hostDown false).dropHubJobs
  let t := s.tel
  let s := { s with
    evLostOff := s.evLostOff + (s.evq.map (fun (e : EvRec) => e.count)).sum, evq := [], evLost := 0,
    host := HostLink.init,
    req := { out := s.req.out.filter (fun r => r.origin != 0), data := [], tags := s.req.tags.filter (fun x => x.1 != 0),
             windows := [] },
    tel := { Telemetry.init with parts := t.parts, expulsions := t.expulsions, hist := t.hist, evalAt := t.evalAt, seen := t.seen,
                                 errs := t.errs, isolated := t.isolated },
    boot := { s.boot with program := none },
    mem := { s.mem with intervalAt := 0, heatAt := 0, placedAt := [] } }
  s.resetDomain 2

/-- Every peer is unknown once PD19 is off or reset (R80, R392). (DEDUCED, log entry 178) -/
def State.forgetPeers (s : State) : State := { s.accountPlanes with peers := [] }

/-- PDn leaves the on state for off or reset: its settings and state return to reset (R392). -/
def State.lose (s : State) (n : Nat) (reset : Bool) : State :=
  if n = 2 then s.hubLost
  else if n ≤ 4 then (s.portsLost n).resetDomain n
  else if n = 5 then (s.portsLost 5).spineSideLost.resetDomain 5
  else if n ≤ 7 then s
  else if n = 8 then s.coreLost.resetDomain 8
  else if n ≤ 12 then s.palLost (n - 9) reset
  else if n ≤ 16 then s.hbmLost (n - 13)
  else if n ≤ 19 then
    let s := if n = 19 then s.forgetPeers else s
    ({ s with optics := { s.optics with takeovers := s.optics.takeovers.filter (fun t => opticalDomain t.engine != n) } }
      : State).resetDomain n
  else if n = 20 then s.cxlLost
  else s

/-! ## Entering and leaving the on state (R46, R47, R386) -/

/-- A domain changed state: a snapshot that spans it is inconsistent (R415). -/
def State.noteDomain (s : State) (n : Nat) : State :=
  { s with tel := { s.tel with causes := s.tel.causes ++ [(1, (List.range 112).find? (fun i => islandDomain i == n))] } }

/-- LC_WITHDRAW from the trained ports of a domain (R46 step 1). -/
def State.withdrawPorts (s : State) (n reason : Nat) : State :=
  forEach (fun p (s : State) => if (s.port p).trained_ then s.sendWithdraw p reason else s) (domainPorts n) s

/-- PDn begins to drain (R46 step 1): its ports withdraw, Palette engines park (R215, R387), Palette budgets are worked out
anew. -/
def State.startDrainDomain (s : State) (n : Nat) (target : DomState) (reason : Nat) : State :=
  let s := { s with dom := Tbl.put (fun _ => .off) s.dom n .draining,
                    pwr := { s.pwr with going := s.pwr.going ++ [(⟨n, target, s.now + 100000⟩ : Going)] } }
  let s := (s.noteDomain n).withdrawPorts n reason
  let s := if 9 ≤ n ∧ n ≤ 12 then
      forEach (fun e (s : State) => (s.setEngine e { s.engine e with levelPark := true }).retarget e)
        [2 * (n - 9), 2 * (n - 9) + 1] s
    else s
  if 9 ≤ n ∧ n ≤ 16 then s.canvasEngines.cutBudgets else s

/-- PDn enters off, retention or reset (R46 steps 3 and 4): clamps set, its ports down with reason 0x8, and for off
and reset its state lost. -/
def State.enterDomain (s : State) (n : Nat) (target : DomState) : State :=
  let s := s.accountPlanes
  let s := forEach (fun p (s : State) =>
    let lit := (s.port p).lit
    let s := s.takeDown p 8
    if lit then s.emit (.laser p false) else s) (domainPorts n) s
  let s := (if n = 5 ∨ n = 19 then forEach (fun j (s : State) => s.deathByPlanes j) (List.range 64) s else s).clamp n true
  let s := s.shutCrossings n
  let s := { s with dom := Tbl.put (fun _ => .off) s.dom n target,
                    pwr := { s.pwr with going := s.pwr.going.filter (fun g => g.n != n) } }
  let s := if target = .retention then s else s.lose n (target == .reset)
  let s := (s.noteDomain n).canvasEngines
  if 9 ≤ n ∧ n ≤ 16 then s.cutBudgets else s

/-- Whether the engines of a draining Palette domain are at level 0 and stopped (R382: the ramp is never
skipped). (DEDUCED, log entry 132) -/
def State.enginesQuiet (s : State) (n : Nat) : Bool :=
  if 9 ≤ n ∧ n ≤ 12 then
    [2 * (n - 9), 2 * (n - 9) + 1].all (fun e =>
      match (s.engine e).st with | .parked | .offline | .off => (s.engine e).level == 0 | _ => false)
  else true

/-- PD02 is on: what PD01 counted while it was not is reported (R372). -/
def State.hubBack (s : State) : State :=
  let s := { s with tel := { s.tel with periodicFrom := s.tb0 } }
  if s.evLostOff = 0 then s
  else
    let n := s.evLostOff
    ((({ s with evLostOff := 0 } : State).bump C.HLK_EV_LOST n).raise (modEv 0x0803 1 n 0 0))

/-- The local bases of a domain that comes from off start (R47). -/
def State.startBases (s : State) (n : Nat) : State :=
  let bases := if n = 2 then [22] else if n = 3 then List.range 8 else if n = 4 then (List.range 8).map (· + 8)
    else if n = 5 then [16, 17] else if 13 ≤ n ∧ n ≤ 16 then [18 + (n - 13)] else []
  { s with timing := { s.timing with
      start := bases.foldl (fun t k => Tbl.put (fun _ => 0) t k s.now) s.timing.start } }

/-- Die link n trains with `w` failed wires in the worse direction: more than 8 leave it down, to be retrained in 1 s, with
host traffic stalled behind DL22 (R34, R35). -/
def State.trainDie (s : State) (n w : Nat) : State :=
  if w ≤ 8 then s.dieLinkOn n w
  else
    let s := s.tryLink n
    if n = 22 then { s with host := { s.host with paused := true } } else s

/-- The die links of a domain train (R34). -/
def State.trainDies (s : State) (n : Nat) (wires : List Nat) : State :=
  let ls := linksIn n
  forEach (fun i (s : State) => s.trainDie (ls.getD i 0) (wires.getD i 0)) (List.range ls.length) s

/-- The engines of a domain are scrubbed, or unparked where it comes from retention; its stacks are online. -/
def State.unitsOn (s : State) (n : Nat) (cold : Bool) : State :=
  if 9 ≤ n ∧ n ≤ 12 then
    let es := [2 * (n - 9), 2 * (n - 9) + 1]
    if cold then
      forEach (fun e (s : State) => s.setEngine e { s.engine e with resetting := true }) es (s.startWindow (n - 9) true)
    else
      let s := s.startWindow (n - 9) true
      forEach (fun e (s : State) => (s.setEngine e { s.engine e with levelPark := false }).retarget e) es s
  else if 13 ≤ n ∧ n ≤ 16 ∧ cold then
    forEach (fun k (s : State) => s.stackTo k (if (s.fld R.MEM_STACK_RETIRED 31 0).testBit k then 3 else 1))
      ((List.range 8).map (· + 8 * (n - 13))) s
  else s

/-- The ports of a domain begin to train; the back-panel ports of a Prism member listen first. -/
def State.portsOn (s : State) (n : Nat) : State :=
  if n = 19 ∧ s.prismMember then s.startListening else forEach (fun p (s : State) => s.beginTraining p) (domainPorts n) s

/-- PDn is on (R47, R386): its local bases start when it comes from off, its clamps open, its die links train, its crossings
are announced, its ports train, engines are scrubbed or unparked, stacks are online, and read-back resumes with PD20 (R122).
`wires`: for each of its die links, the wires that training found failed (R34). -/
def State.domainOn (s : State) (n : Nat) (cold : Bool) (wires : List Nat) : State :=
  let s := s.accountPlanes
  let s := { s with dom := Tbl.put (fun _ => .off) s.dom n .on,
                    pwr := { s.pwr with coldOn := if s.pwr.coldOn = some n then none else s.pwr.coldOn } }
  let s := if cold then s.startBases n else s
  let s := (((s.noteDomain n).clamp n false).trainDies n wires).openCrossings
  let s := if n = 2 then s.hubBack else s
  let s := (s.unitsOn n cold).portsOn n
  let s := if n = 20 then s.readbackAll else s
  (s.canvasEngines).reconsider

/-! ## Shedding levels and M-states hold domains (R377, R379, R387) -/

/-- The shedding level in force. -/
def State.level (s : State) : Nat := s.fld R.PWR_SUPPLY_STAT 15 13

/-- The M-state that a level forces (R387). -/
def forcedM (level : Nat) : Nat := if level < 2 then 0 else if level < 4 then 1 else if level = 4 then 2 else 3

/-- The M-state to be in force: the deeper of the requested and the forced one (R387). -/
def State.wantM (s : State) : Nat := max (s.fld R.PWR_MSTATE 31 30) (forcedM s.level)

/-- Whether the shedding level in force holds PDn off or in retention (R377, R379). -/
def State.levelHolds (s : State) (n : Nat) : Bool :=
  (9 ≤ n && n ≤ 12 || n == 20) && 2 ≤ s.level || n == 19 && 3 ≤ s.level

/-- The state in which a level or an M-state holds PDn, if it does (R377, R387). (DEDUCED, log entry 128) -/
def State.forcedDom (s : State) (n : Nat) : Option DomGoal :=
  if 9 ≤ n ∧ n ≤ 12 ∧ 1 ≤ s.wantM then some .retention
  else if n = 20 ∧ 2 ≤ s.level then some .retention
  else if n = 19 ∧ 3 ≤ s.level then some .off
  else none

/-! ## Domain operations (R45, R389) -/

/-- EV_POWER_DOMAIN for the domains that an operation left in a state (R45). -/
def State.domainEvent (s : State) (o : DomOp) (code : Nat) : State :=
  let mask := ((o.changed.filter (fun x => x.2 == code)).map (fun x => 2 ^ (x.1 - 1))).foldl (· ||| ·) 0
  if mask = 0 then s else s.raise (modEv 0x0A03 0 mask code 0)

/-- The mask of the domains of an operation. -/
def DomOp.mask (o : DomOp) : Nat := (o.changed.map (fun x => 2 ^ (x.1 - 1))).foldl (· ||| ·) 0

/-- The maintenance activity of an operation, if it holds locks (R430). -/
def DomOp.activity (o : DomOp) : Option Activity :=
  if !o.host then none
  else match o.goal with
    | .on => none
    | .retention => some (.domain o.target .retention)
    | .off => some (.domain o.target .off)
    | .reset => some (.domain o.target .reset)

/-- An operation is complete: one event names every domain that changed; a reset raises EV_RESET once all are
on again, or after the boot that a reset of PD02 owes (R45, R391). -/
def State.opDone (s : State) (o : DomOp) : State :=
  let s := if o.goal = .reset then (if o.changed.any (fun x => x.1 == 2) then s else s.raise (modEv 0x0B03 0 3 0 o.mask))
    else ((s.domainEvent o 0).domainEvent o 1).domainEvent o 2
  match o.activity with
  | some a => s.endMaint a 2
  | none => s

/-- The state that PDn enters for a goal. -/
def DomGoal.stateOf (g : DomGoal) (n : Nat) : DomState :=
  match g with
  | .retention => if retainable n then .retention else .off
  | .reset => .reset
  | _ => .off

/-- One operation carried on as far as it goes without waiting. Fuel bounds the number of domains. Answers the
operation that is left, if any. -/
def State.runOp (s : State) (o : DomOp) : Nat → Option DomOp × State
  | 0 => (some o, s)
  | k + 1 =>
    if o.cur.isSome then (some o, s)
    else if o.upping ∨ o.goal = .on then
      let l := if o.upping then (o.changed.map (·.1)).reverse else [o.target]
      match l.find? (fun n => !s.on n && (s.forcedDom n).isNone) with
      | none =>
        let kept := l.filter (fun n => !s.on n)
        (none, ({ s with pwr := { s.pwr with shed := s.pwr.shed ++ (if o.upping then kept else []) } } : State).opDone o)
      | some t =>
        let n := s.nextUp t 6
        match s.domSt n with
        | .off | .reset =>
          if s.pwr.coldOn.isSome then (some o, s)
          else (some { o with cur := some n },
                { s with dom := Tbl.put (fun _ => .off) s.dom n .turningOn, pwr := { s.pwr with coldOn := some n } })
        | .retention => (some { o with cur := some n }, { s with dom := Tbl.put (fun _ => .off) s.dom n .turningOn })
        | _ => (some o, s)
    else
      let n := s.nextDown o.target
      let target := o.goal.stateOf n
      let code := if target = .retention then 1 else 0
      let next (s : State) : Option DomOp × State := s.runOp { o with changed := o.changed ++ [(n, code)] } k
      let finish (s : State) : Option DomOp × State :=
        if o.goal = .reset then
          if o.changed.any (fun x => x.1 == 2) then
            (none, ({ s with boot := { s.boot with kind := 3, cause := 0, mask := o.changed.map (·.1) },
                             pwr := { s.pwr with bootDue := true } } : State).opDone o)
          else s.runOp { o with upping := true } k
        else (none, s.opDone o)
      match s.domSt n with
      | .on => (some { o with cur := some n }, s.startDrainDomain n target (if o.host then 4 else 2))
      | .retention => if target = .retention then finish s else next (s.enterDomain n target)
      | .off =>
        if o.goal = .reset then next { s with dom := Tbl.put (fun _ => .off) s.dom n .reset } else finish s
      | .reset => if o.goal = .reset then finish s else next { s with dom := Tbl.put (fun _ => .off) s.dom n .off }
      | _ => (some o, s)

/-- Every operation carried on in order of request. -/
def State.runOps (s : State) : List DomOp → State
  | [] => s
  | o :: os =>
    let r := s.runOp o 24
    match r.1 with
    | some o' => ({ r.2 with pwr := { r.2.pwr with ops := r.2.pwr.ops ++ [o'] } } : State).runOps os
    | none => r.2.runOps os

/-- The operations carried on until none of them can go further: each pass may free what another waits for. -/
def State.advanceOps (s : State) : Nat → State
  | 0 => s
  | k + 1 =>
    let l := s.pwr.ops
    (({ s with pwr := { s.pwr with ops := [] } } : State).runOps l).advanceOps k

/-! ## The start of a boot (R389, R394, R403) -/

/-- A measurement (R403): it extends LOG_HASH; the log stores 256 entries, and past them EV_ATTEST is raised
once. -/
def State.measure (s : State) (kind : Nat) (meas : List Byte) : State :=
  let b := s.boot
  let entry := bytesLEOfNat 4 b.measured ++ bytesLEOfNat 4 kind ++ bytesLEOfNat 8 (s.tb0Sec % 2 ^ 48)
    ++ bytesLEOfNat 4 s.tb0Ns ++ List.replicate 12 0 ++ (meas ++ List.replicate 32 0).take 32
  let full := 256 ≤ b.log.length
  let s := { s with boot := { b with measured := b.measured + 1, logHash := sha3 (b.logHash ++ entry),
                                     log := if full then b.log else b.log ++ [entry] } }
  let s := s.setF R.GLB_ATT_STAT 24 16 s.boot.log.length
  if full ∧ s.fld R.GLB_ATT_STAT 30 30 = 0 then (s.setF R.GLB_ATT_STAT 30 30 1).raise (modEv 0x0B02 0 0 0 0) else s

/-- An attempt on a source begins (R394, R396). -/
def State.attempt (s : State) (source : Nat) : State :=
  let s := (s.setF R.GLB_BOOT_STAT 31 30 1).setF R.GLB_BOOT_STAT 29 28 source
  { s with boot := { s.boot with backoffEnd := none, hostFrom := if source = 2 then some s.now else none } }

/-- A boot starts (R389, R394): fuses take effect, a new measurement log, the first source, and PD02 is turned on
for the host link. -/
def State.startBoot (s : State) : State :=
  let b := s.boot
  let s := { s with boot := { b with waiting := false, tries := 0, first := 0, go := false, upAt := none, log := [], measured := 0,
                                     logHash := List.replicate 32 0, report := none, ownerReq := b.ownerReqNext,
                                     minSvn := b.minSvnNext, ownerHash := b.ownerHashNext },
                    pwr := { s.pwr with bootDue := false, m3 := false, wakeAt := none,
                                        ops := s.pwr.ops ++ (if s.on 2 then [] else [(⟨.on, 2, false, none, [], false⟩ : DomOp)]) } }
  let s := (s.setF R.GLB_ATT_STAT 31 30 0).setF R.GLB_ATT_STAT 24 16 0
  let s := (s.setF R.GLB_SEC_STAT 31 31 (bit01 s.boot.ownerReq)).setF R.GLB_SEC_STAT 30 24 s.boot.minSvn
  let s := (s.setF R.GLB_BOOT_STAT 27 20 (min 255 b.fails)).setF R.GLB_BOOT_STAT 15 8 b.last
  (s.measure 1 (Config.measure 1 0 0 0)).attempt b.first

/-- Domain operations carried on, with the boot that a reset of PD02 owes. -/
def State.domainsGo (s : State) : State :=
  let s := s.advanceOps (s.pwr.ops.length + 1)
  if s.pwr.bootDue then
    let s := s.startBoot
    s.advanceOps (s.pwr.ops.length + 1)
  else s

/-- A domain operation added and carried on. -/
def State.addOp (s : State) (goal : DomGoal) (n : Nat) (host : Bool) : State :=
  ({ s with pwr := { s.pwr with ops := s.pwr.ops ++ [(⟨goal, n, host, none, [], false⟩ : DomOp)] } } : State).domainsGo

/-- The operation whose domain in transit is PDn has it in its new state. -/
def State.opStep (s : State) (n code : Nat) : State :=
  { s with pwr := { s.pwr with ops := s.pwr.ops.map (fun (o : DomOp) =>
    if o.cur = some n then { o with cur := none, changed := if o.upping then o.changed else o.changed ++ [(n, code)] } else o) } }

/-- The lock of a host domain operation is granted (R430). -/
def State.startDomainOp (n : Nat) (act : DomAct) (s : State) : State :=
  s.addOp (match act with | .reset => .reset | .retention => .retention | .off => .off) n true

/-- Whether PDn or a domain that it requires is in transit (R390). -/
def State.inTransit (s : State) (n : Nat) : Bool :=
  (n :: requiresAll n).any (fun m => match s.domSt m with | .draining | .turningOn | .reset => true | _ => false)

/-! ## Commands -/

/-- PWR.DOM_STAT_n.STATUS. -/
def State.domStatus (s : State) (n st : Nat) : State := s.setF (R.PWR_DOM_STAT (n - 1)) 3 0 st

/-- Whether DOMAIN names a domain that host software may switch (R388). -/
def domKnown (n : Nat) : Bool := 2 ≤ n && n ≤ 20

/-- PWR.DOM_CMD answered with a status, where the domain has a DOM_STAT. -/
def State.domAnswer (s : State) (n st : Nat) : State := if 1 ≤ n ∧ n ≤ 20 then s.domStatus n st else s

/-- DOMAIN_ON (R45, R379): turned on after the domains that it requires. A domain that a level or an M-state holds,
or that needs one held, waits: status 0x6. -/
def execDomainOn (n : Fin 32) (s : State) : Host.Outcome State Fault Refusal :=
  let needs := n.val :: (requiresAny n).flatMap (fun g => if g.any s.on then [] else g.take 1)
  if !domKnown n then ok (s.domAnswer n 3)
  else if s.on n then ok (s.domStatus n 0)
  else if needs.any (fun m => (s.forcedDom m).isSome && !s.on m) then
    ok (({ s with pwr := { s.pwr with held := if s.pwr.held.contains n then s.pwr.held else s.pwr.held ++ [n.val] } } : State).domStatus n 6)
  else if s.inTransit n ∨ s.tel.isolated.contains (0x05, n.val) then ok (s.domStatus n 2)
  else ok ((s.domStatus n 0).addOp .on n false)

/-- A request to take PDn down: refused, already met, or behind its maintenance locks (R45, R379, R386, R430). -/
def State.domDown (s : State) (n : Nat) (act : DomAct) : State :=
  if !domKnown n ∨ (act = .retention ∧ !retainable n) then s.domAnswer n 3
  else
    let s := { s with pwr := { s.pwr with held := s.pwr.held.filter (· != n), shed := s.pwr.shed.filter (· != n) } }
    match s.domSt n with
    | .draining | .turningOn | .reset => s.domStatus n 2
    | .off => s.domStatus n 0
    | .retention => if act = .retention then s.domStatus n 0
      else (s.domStatus n 0).requestMaint (.domain n act) (State.startDomainOp n act)
    | .on => (s.domStatus n 0).requestMaint (.domain n act) (State.startDomainOp n act)

/-- DOMAIN_RETENTION (R45, R386). -/
def execDomainRetention (n : Fin 32) (s : State) : Host.Outcome State Fault Refusal := ok (s.domDown n .retention)

/-- DOMAIN_OFF (R45). -/
def execDomainOff (n : Fin 32) (s : State) : Host.Outcome State Fault Refusal := ok (s.domDown n .off)

/-- DOMAIN_DRAIN_END (R46): the crossings of a draining domain are empty, or its window expires and what is left is
discarded, counted and reported; the domain enters its state. A Palette domain waits for its engines' ramp. -/
def execDomainDrainEnd (n : Fin 32) (s : State) : Host.Outcome State Fault Refusal :=
  match s.pwr.going.find? (fun g => g.n == n.val) with
  | none => ok s
  | some g =>
    if !s.enginesQuiet n then ok s
    else
      let left := s.entryCount n
      let s := if left = 0 then s
        else
          let s := (s.reach g.deadline).discardEntries n
          s.raise { code := 0x0105, sev := 1, kind := 5, index := n, arg0 := left }
      ok (((s.enterDomain n g.target).opStep n (if g.target = .retention then 1 else 0)).domainsGo)

/-- DOMAIN_ON_DONE (R47, R386): a domain's turn-on completes with its crossings' handshakes; `wires` are the failed
wires that the training of its die links found. -/
def execDomainOnDone (n : Fin 32) (wires : List (Fin 16)) (s : State) : Host.Outcome State Fault Refusal :=
  if s.domSt n ≠ .turningOn then ok s
  else
    let cold : Bool := s.pwr.coldOn == some n.val
    ok (((s.domainOn n cold (wires.map (·.val))).opStep n 2).domainsGo)

/-- The effect of a die link that goes down (R35): ports of its engine down with reason 0x8; a Palette die out of
reach; host traffic stalled. (DEDUCED, log entry 134) -/
def State.dieLinkLost (s : State) (n : Nat) : State :=
  if n < 18 then
    forEach (fun p (s : State) => s.takeDown p 8) ((domainPorts (dieLinkDomain n)).filter (fun p => engineOf p == n)) s
  else if n < 22 then
    let d := n - 18
    let s := forEach (fun e (s : State) =>
      if (s.engine e).st = .off ∨ (s.engine e).st = .offline then s
      else (((s.accrue e).engineLost e).rampDown e).setEngState e .faulted) [2 * d, 2 * d + 1] s
    (((s.pagesLost false d).canvasDieLost d).homeLost d).canvasEngines
  else s.hostDown true

/-- DIE_LINK_DOWN (R34, R35). -/
def execDieLinkDown (n : Fin 23) (s : State) : Host.Outcome State Fault Refusal :=
  if !s.dieLinkUp n then ok s else ok ((s.dieLinkOff n).dieLinkLost n)

/-- DIE_LINK_RETRAIN (R34, R35): 1 s after the last attempt, a down link of a domain that is on trains, with `wires` failed
wires in the worse direction; what it serves comes back with it. -/
def execDieLinkRetrain (n : Fin 23) (wires : Fin 64) (s : State) : Host.Outcome State Fault Refusal :=
  if s.dieLinkUp n ∨ !s.on (dieLinkDomain n) ∨ (linkIslands n).any s.islandIsolated then ok s
  else
    let s := ((s.reach (Tbl.get (fun _ => 0) s.pwr.linkTryAt n + 1000000000)).tryLink n).trainDie n wires
    if 8 < wires.val then ok s
    else if n.val < 18 then
      ok (forEach (fun p (s : State) => s.beginTraining p) ((domainPorts (dieLinkDomain n)).filter (fun p => engineOf p == n)) s)
    else if n.val < 22 then
      ok ((forEach (fun e (s : State) =>
        if (s.engine e).st = .faulted then s.setEngine e { s.engine e with resetting := true } else s)
        [2 * (n - 18), 2 * (n - 18) + 1] s).canvasEngines.reconsider)
    else ok s.hostResume

end Sys2Proof.Machine
end

