-- ==== Sys2Proof/Machine/Power.lean ====
section
/-!
DEFINITION. The power controller (18_power_thermal.md, R376 to R388) and leaving the fabric
(01_fabric_position_and_limits.md, R22 to R30): supply levels, M-states, heat, droop, identity, orderly withdrawal
and abrupt stop.
-/
namespace Sys2Proof.Machine

/-! ## What a reset or M3 leaves (R28, R387, R393) -/

/-- What becomes of the registers. -/
structure Keeps where
  /-- fields of PD01 that are kept -/
  pd01 : Acc → Bool
  /-- fields of the other domains that are kept -/
  rest : Acc → Bool
  /-- handle pages, their contents, the page map, series tables and trackers are kept -/
  memory : Bool
  /-- health scores and the expulsion record are kept -/
  health : Bool
  /-- PWR counters are kept -/
  counters : Bool

/-- Registers of PD01 that show what the hardware is at, whatever is reset, and PWR.SUPPLY_LOG (R388, R393). -/
def pd01Live : List Nat :=
  [R.PWR_SUPPLY_STAT, R.PWR_SUPPLY_LOG, R.PWR_DIE_THERM 0, R.PWR_DIE_THERM 1, R.PWR_DIE_THERM 2, R.PWR_DIE_THERM 3,
   R.GLB_RST_STAT]

/-- GLB.D2D_STAT_n: every die link is isolated while its domain is off (R36). -/
def isD2d (off : Nat) : Bool := R.GLB_D2D_STAT 0 ≤ off && off < R.GLB_D2D_STAT 23

/-- The registers that are left. -/
def keptRegs (k : Keeps) (regs : Tbl Word) : Tbl Word :=
  resetWords (fun off => regDomain off == 1 && !pd01Live.contains off) k.pd01
    (resetWords (fun off => regDomain off != 1) k.rest (regs.filter (fun kw => !isD2d kw.1)))

/-- Pages of the CXL tier are lost with PD20 (R272). -/
def Page.placeLostIf (p : Page) : Page := if p.at_.cxl ∧ p.st ≠ .unmapped then { p with st := .lost } else p

/-- Pages kept across a warm reset end a move at their source (R282, R393). -/
def Memory.warm (m : Memory) : Memory :=
  let m := (List.range 4).foldl (fun (m : Memory) d => m.clear (memKey d 0) (memKey d (2 ^ 39))) m
  { Memory.init with
    bytes := m.bytes, poison := m.poison, badSlices := m.badSlices, retiring := m.retiring, retireQ := m.retireQ,
    pages := m.pages.map (fun (x : Nat × Page) => (x.1, x.2.abandon.placeLostIf)) }

/-- A home agent across a warm reset: its series and trackers stay; requests that it had received and not answered, and its
combining lines, are gone, so that they count as not received (R31, R263, R393). (DEDUCED, log entry 177) -/
def Home.warm (now : Nat) (h : Home) : Home :=
  { active := h.active.map (fun x => (x.1, some (x.2.getD now))),
    series := h.series.map (fun x => (x.1, x.2.map (fun t =>
      { t with seqs := t.seqs.filter (fun q => match q.2 with | .waiting | .progress | .held => false | _ => true) }))),
    slots := [], lines := [] }

/-- Every domain but PD01 off and its state lost; what PD01, the engines' records and the outside keep stays (R28,
R393). -/
def State.stripped (s : State) (k : Keeps) : State :=
  { State.reset with
    clk := s.clk, regs := keptRegs k s.regs,
    cnt := if k.counters then s.cnt.filter (fun kc => cntDomain kc.1 == 1) else [],
    ports := s.ports.foldl (fun t x => Tbl.put (fun _ => Port.init) t x.1 x.2.bare) [],
    optics := { Optics.init with lasers := s.optics.lasers },
    dp := if k.memory then { Datapath.empty with seqs := s.dp.seqs } else .empty,
    homes := if k.memory then Tbl.remap (fun _ => Home.init) (Home.warm s.now) s.homes else [], mem := if k.memory then s.mem.warm else .init,
    timing := { s.timing with start := [], holding := [], ptp := Timing.init.ptp },
    pwr := { s.pwr with shed := [], held := [], ops := [], going := [], coldOn := none, bootDue := false, m3 := false,
                        wakeAt := none, stretched := [] },
    tel := if k.health then { Telemetry.init with parts := s.tel.parts, expulsions := s.tel.expulsions, hist := s.tel.hist, evalAt := s.tel.evalAt,
                                                  seen := s.tel.seen, errs := s.tel.errs } else .init,
    boot := { s.boot with program := none, report := none },
    i3c := { s.i3c with alertEn := if k.counters then s.i3c.alertEn else I3c.init.alertEn },
    evLostOff := s.evLostOff + (s.evq.map (fun (e : EvRec) => e.count)).sum,
    out := s.out, free := s.free, pending := s.pending }

/-- The machine so stripped, with the lane maps as the retired groups that PD01 keeps leave them (R206).
(DEDUCED, log entry 36) -/
def State.strip (s : State) (k : Keeps) : State := forEach (fun e (s : State) => s.remapLanes e) (List.range 8) (s.stripped k)

/-- The ports whose transmit lasers are on. -/
def State.litPorts (s : State) : List Nat := (s.ports.filter (fun x => x.2.lit)).map (·.1)

/-- Every transmit laser off (R27, R28). -/
def State.darken (s : State) : State := forEach (fun p (s : State) => s.emit (.laser p false)) s.litPorts s

/-- The columns of R393: module reset, warm reset, M3. (DESIGN CHOICE, log entry 151) -/
def keepModule : Keeps := ⟨fun a => a == .rwp, fun a => a == .rwp, false, false, false⟩
def keepWarm : Keeps := ⟨fun a => a == .rwp || a == .rws, fun a => a == .rwp || a == .rws, true, true, false⟩
def keepM3 : Keeps := ⟨fun _ => true, fun a => a == .rwp, false, true, true⟩

/-- The boot record cleared (R399). -/
def Boot.clearRecord (b : Boot) : Boot := { b with rounds := 0, fails := 0, codeA := 0, codeB := 0, codeHost := 0, last := 0, first := 0 }

/-- GLB.BOOT_STAT.PHASE. -/
def State.setPhase (s : State) (p : Nat) : State := s.setF R.GLB_BOOT_STAT 31 30 p

/-- An abrupt stop into module reset (R28, R389): lasers off, every domain but PD01 off, nothing that the module held
comes back; a boot is owed, of a cause of R391. -/
def State.abruptStop (s : State) (cause : Nat) : State :=
  let s := s.darken.strip keepModule
  { s with boot := { s.boot.clearRecord with kind := 1, cause := cause, waiting := true, tries := 0, backoffEnd := none,
                                             hostFrom := none, upAt := none, mask := [] } }

/-- PD01 goes off with the supply (R44, R376, R377 level 6). -/
def State.powerOff (s : State) : State :=
  let s := s.abruptStop 4
  { s with dom := [], pwr := { Power.init with siteTemps := s.pwr.siteTemps },
           boot := { s.boot with kind := 0, goodSince := none, tripped := [], coolSince := none } }

/-- A boot that is owed starts when RESET_N is high, no thermal hold runs, and the filtered input has stayed at or
above 43.0 V for 10 ms (R389, R443). -/
def State.tryBoot (s : State) : State :=
  let b := s.boot
  match b.goodSince with
  | none => s
  | some t => if b.waiting ∧ !b.resetLow ∧ b.tripped.isEmpty ∧ t + 10000000 ≤ s.now ∧ s.on 1 then s.startBoot.domainsGo else s

/-! ## Orderly withdrawal (R27) -/

/-- A withdrawal begins, or takes one more cause: LC_WITHDRAW on every port in service, with a drain window of
100 µs. (DEDUCED, log entry 37) -/
def State.beginWithdraw (s : State) (cause : WithdrawFor) (reason : Nat) : State :=
  match s.wd with
  | some w => { s with wd := some { w with causes := if w.causes.contains cause then w.causes else w.causes ++ [cause] } }
  | none =>
    let s := forEach (fun p (s : State) => s.sendWithdraw p reason)
      ((s.ports.filter (fun x => x.2.st == .up || x.2.st == .draining)).map (·.1)) s
    { s with wd := some ⟨s.now + 100000, [cause]⟩ }

/-- Whether the module holds no packet. -/
def State.bufferEmpty (s : State) : Bool :=
  (s.heldItems true).isEmpty && s.dp.mcWait.isEmpty && s.links.all (fun x => x.2.sent.isEmpty)

/-- Packets kept for replay dropped under a reason. -/
def State.dropSent (s : State) (reason : Nat) : State :=
  let l := s.links.flatMap (fun x => x.2.sent.map (·.2))
  let s := forEach (fun k (s : State) => 
    s.setLink k { s.link k with sent := [], replay := [], flitsVoided := (s.link k).flitsVoided + (s.link k).replay.length })
    (Tbl.keys s.links) s
  forEach (fun it (s : State) => s.countDrop it.port reason) l s

/-- The module enters M3 (R387): PD01 alone is on, all ports are dark. (DEDUCED, log entry 131) -/
def State.enterM3 (s : State) : State :=
  let w := s.fld R.PWR_MSTATE 15 0
  let s := (s.darken.strip keepM3).setF R.PWR_MSTATE 29 28 3
  let s := { s with pwr := { s.pwr with m3 := true, wakeAt := if w = 0 then none else some (s.now + w * 1000000000) },
                    boot := { s.boot with waiting := false, tries := 0, backoffEnd := none, hostFrom := none } }
  if s.booted then s else s.setPhase 0

/-- Return from M3 (R30, R387): a boot, of the kind that M3 cut short, else counted as a reset of every domain
that was off. -/
def State.leaveM3 (s : State) (cause : Nat) : State :=
  let s := if s.booted then
      { s with boot := { s.boot with kind := 3, cause := cause, mask := (List.range 19).map (· + 2) } }
    else s
  let s := s.setF R.PWR_MSTATE 29 28 s.wantM
  s.startBoot.domainsGo

/-- A warm reset after its withdrawal (R389): HBM contents stay, everything else but PD01 is reset, and the module
boots from image verification. -/
def State.warmReset (s : State) : State :=
  let on := (List.range 4).filter (fun d => s.on (hbmDomain d) || s.domSt (hbmDomain d) == .retention)
  let jobs := s.maint.filter (fun x => match x.1 with | .stack _ => true | _ => false)
  let sts := (List.range 32).map s.stackSt
  let s := s.darken.strip keepWarm
  let s := forEach (fun k (s : State) => s.setStack k (sts.getD k 0)) (List.range 32) s
  let s := { s with maint := jobs, dom := on.foldl (fun t d => Tbl.put (fun _ => .off) t (hbmDomain d) .retention) s.dom,
                    boot := { s.boot with kind := 2, mask := [] } }
  s.startBoot.domainsGo

/-- The module leaves its Prism domain: BP ports dark, peers unknown (R22). -/
def State.leavePrism (s : State) : State :=
  let s := forEach (fun p (s : State) =>
    ((s.takeDown (1024 + p) 7).setPlane p Plane.init).emit (.laser (1024 + p) false)) (List.range 64) s.accountPlanes
  { s with peers := [], prism := { s.prism with listenEnd := none, heard := [], slot := none, acked := [] } }

/-- A port goes dark and rests before it trains again (R27 step 4, R315). -/
def State.restDark (s : State) (port : Nat) : State :=
  let until_ : Option Nat := some (s.now + 1000000)
  let s := (s.setPort port { s.port port with restUntil := until_ }).takeDown port 7
  (s.setPort port { s.port port with restUntil := until_ }).emit (.laser port false)

/-- The end of a withdrawal (R27 step 4): lasers off; then the warm reset, or M3, or, after a rest, the ports train again
unassigned (R23), and the ready message waits for a generation after the module is assigned again (R30). -/
def State.endWithdraw (s : State) (w : Withdrawal) : State :=
  let s := { s.dropSent drWithdrawal with wd := none }
  if w.causes.contains .warmReset then s.warmReset
  else if w.causes.contains .m3 then
    let s := s.enterM3
    if s.wantM < 3 then s.leaveM3 0 else s
  else
    let s := forEach (fun p (s : State) => s.restDark p) s.litPorts { s with tab := { s.tab with ready := false } }
    if s.prismMember then s else s.leavePrism

/-- WITHDRAWAL_DRAIN_END (R27 step 3): the buffer is empty, or the window expires and what is still held is dropped
under reason 0x0E. -/
def execWithdrawalDrainEnd (s : State) : Host.Outcome State Fault Refusal :=
  match s.wd with
  | none => ok s
  | some w =>
    if s.bufferEmpty then ok (s.endWithdraw w)
    else
      let s := ((s.reach w.deadline).dropHeld (fun _ => true) true drWithdrawal)
      ok (s.endWithdraw w)

/-! ## Identity (R22 to R24) -/

/-- FABRIC_ID_WRITE (R22, R24): discarded as a whole when it changes the identity while ASSIGNED reads 1 and stays 1.
Clearing ASSIGNED withdraws; PRISM_MEMBER set begins to listen (R302), cleared darkens the BP ports, at the end of a
withdrawal that runs. -/
def execFabricIdWrite (w : Word) (s : State) : Host.Outcome State Fault Refusal :=
  let old := s.rd R.GLB_FABRIC_ID
  let changes : Bool := w.fld 9 0 != old.fld 9 0 || w.fld 30 30 != old.fld 30 30 || w.fld 21 16 != old.fld 21 16
  if changes ∧ old.fld 31 31 = 1 ∧ w.fld 31 31 = 1 then ok s
  else
    let s := s.store R.GLB_FABRIC_ID w
    let s := if old.fld 31 31 = 1 ∧ w.fld 31 31 = 0 then s.beginWithdraw .identity 0 else s
    if old.fld 30 30 = 0 ∧ w.fld 30 30 = 1 then ok (if s.on 19 then s.startListening else s)
    else if old.fld 30 30 = 1 ∧ w.fld 30 30 = 0 ∧ s.wd.isNone then ok s.leavePrism
    else ok s

/-! ## Levels and M-states in force (R377 to R379, R387) -/

/-- The domains that levels and M-states hold (R377, R387). -/
def heldDomains : List Nat := [9, 10, 11, 12, 20, 19]

/-- One domain follows the levels and the M-state: taken down, or turned on again when nothing holds it and it was
on, or its request stands (R378, R379). -/
def State.followForce (s : State) (n : Nat) : State :=
  match s.forcedDom n with
  | some g =>
    if s.pwr.shed.contains n ∨ !s.stands n then s
    else ({ s with pwr := { s.pwr with shed := s.pwr.shed ++ [n] } } : State).addOp g n false
  | none =>
    if s.pwr.shed.contains n ∨ s.pwr.held.contains n then
      let s := { s with pwr := { s.pwr with shed := s.pwr.shed.filter (· != n), held := s.pwr.held.filter (· != n) } }
      s.addOp .on n false
    else s

/-- Levels and M-state followed: M3 by withdrawal, domains, lanes (R377, R387). -/
def State.applyForce (s : State) (cause : Nat) : State :=
  if s.wantM = 3 then
    if s.pwr.m3 then s else s.beginWithdraw .m3 (if s.level = 5 then 2 else 3)
  else if s.pwr.m3 then s.leaveM3 cause
  else if (match s.wd with | some w => w.causes.contains .m3 | none => false) then s
  else
    let s := s.setF R.PWR_MSTATE 29 28 s.wantM
    let s := if s.oneLane then forEach (fun p (s : State) => s.trimLanes p) (s.ports.map (·.1)) s else s
    forEach (fun n (s : State) => s.followForce n) heldDomains s

/-- MSTATE_REQUEST (R387, R388): REQ and WAKE_S are written. Level 5 wins over a request (R379). -/
def execMstateRequest (req : Fin 4) (wake : Fin 65536) (s : State) : Host.Outcome State Fault Refusal :=
  ok (((s.setF R.PWR_MSTATE 31 30 req).setF R.PWR_MSTATE 15 0 wake).applyForce 0)

/-- M3_WAKE_TIMER (R387): WAKE_S expires; the request returns to M0. -/
def execM3WakeTimer (s : State) : Host.Outcome State Fault Refusal :=
  match s.pwr.wakeAt with
  | none => ok s
  | some t =>
    let s := s.reach t
    ok (({ s with pwr := { s.pwr with wakeAt := none } } : State).setF R.PWR_MSTATE 31 30 0 |>.applyForce 0)

/-! ## Supply (R376 to R378) -/

/-- Thresholds of the levels, in 10 mV (R377). -/
def levelThreshold (n : Nat) : Nat := if n = 0 then 0 else 5200 - 200 * n

/-- The filtered input is below a voltage: the mean of the samples (R376). -/
def below (samples : List Nat) (v : Nat) : Bool := samples.sum < v * samples.length

/-- EV_SUPPLY, with the filtered input in 10 mV (R379). -/
def State.supplyEvent (s : State) (arg0 : Nat) : State := s.raise (modEv 0x0A01 1 arg0 (s.fld R.PWR_SUPPLY_STAT 31 16) 0)

/-- Entry to a level (R377, R379, R388). -/
def State.enterLevel (s : State) (n : Nat) : State :=
  let s := (s.setF R.PWR_SUPPLY_STAT 15 13 n).bump C.PWR_SHED_ENTRIES 1
  let s := s.setF R.PWR_SUPPLY_LOG 30 28 (max n (s.fld R.PWR_SUPPLY_LOG 30 28))
  let s := if n = 5 then s.setF R.PWR_SUPPLY_LOG 15 0 (min 65535 (s.fld R.PWR_SUPPLY_LOG 15 0 + 1)) else s
  let s := (s.supplyEvent n).cutBudgets
  let s := s.abandonMoves (fun _ => true)
  s.applyForce 4

/-- Every level from the one in force to a deeper one, in order. -/
def State.enterLevels (s : State) : List Nat → State
  | [] => s
  | n :: ns => (s.enterLevel n).enterLevels ns

/-- The dwells of the levels in force (R378). -/
def dwells (samples : List Nat) (now level : Nat) (t : Tbl (Option Nat)) : Tbl (Option Nat) :=
  (List.range 5).foldl (fun t i =>
    let n := i + 1
    if n ≤ level ∧ !below samples (levelThreshold n + 100) then
      (match Tbl.get (fun _ => none) t n with | none => Tbl.put (fun _ => none) t n (some now) | some _ => t)
    else Tbl.put (fun _ => none) t n none) t

/-- EV_SUPPLY for an input above 60.0 V is due: none yet, or the last one 1 s ago (R379). -/
def overDue (last : Option Nat) (now : Nat) : Bool :=
  match last with
  | none => true
  | some t => decide (t + 1000000000 ≤ now)

/-- SUPPLY_SAMPLE (R376 to R379, R389): one sample of the input, in 10 mV, each 1 µs, with the input power of the
last 1 ms in W. The mean of the last 100 samples decides. (DEDUCED, log entry 127) -/
def execSupplySample (v watts : Fin 65536) (s : State) : Host.Outcome State Fault Refusal :=
  if !s.on 1 then ok s
  else
    let s := match s.pwr.sampleAt with | some t => s.reach (t + 1000) | none => s
    let was := s.pwr.samples
    let l := (v.val :: was).take 100
    let s := { s with pwr := { s.pwr with samples := l, sampleAt := some s.now, watts := watts } }
    if below l 4000 ∨ 6400 * l.length < l.sum then ok s.powerOff
    else
      let s := s.setF R.PWR_SUPPLY_STAT 31 16 (l.sum / l.length)
      let fell (n : Nat) : Bool := below l (levelThreshold n) && !was.isEmpty && !below was (levelThreshold n)
      let deepest := ([5, 4, 3, 2, 1].find? fell).getD 0
      let s := s.enterLevels (((List.range 5).map (· + 1)).filter (fun n => s.level < n && n ≤ deepest))
      let s := { s with pwr := { s.pwr with dwell := dwells l s.now s.level s.pwr.dwell },
                        boot := { s.boot with goodSince := if below l 4300 then none else some (s.boot.goodSince.getD s.now) } }
      let s := if 6000 * l.length < l.sum ∧ overDue s.pwr.overAt s.now then
          ({ s with pwr := { s.pwr with overAt := some s.now } } : State).supplyEvent 7
        else s
      ok s.cutBudgets.tryBoot

/-- SHED_RELEASE (R378): the 10 ms dwell of the deepest level in force completes; the level is released and undoes
its own actions. -/
def execShedRelease (s : State) : Host.Outcome State Fault Refusal :=
  let n := s.level
  match Tbl.get (fun _ => none) s.pwr.dwell n with
  | none => ok s
  | some t =>
    if n = 0 then ok s
    else
      let s := (s.reach (t + 10000000)).setF R.PWR_SUPPLY_STAT 15 13 (n - 1)
      let s := { s with pwr := { s.pwr with dwell := Tbl.put (fun _ => none) s.pwr.dwell n none } }
      ok ((s.supplyEvent (8 + n)).applyForce 4)

/-- SUPPLY_LOG_CLEAR (R388): CLR clears LOWEST and M3_ENTRIES. -/
def execSupplyLogClear (s : State) : Host.Outcome State Fault Refusal :=
  ok ((s.setF R.PWR_SUPPLY_LOG 30 28 0).setF R.PWR_SUPPLY_LOG 15 0 0)

/-! ## Heat (R383, R384) -/

/-- Headroom of die d in units of 0.1 °C (R383). -/
def State.headroom (s : State) (d : Nat) : Int :=
  min (1000 - (Tbl.get (fun _ => []) s.pwr.dieTemps d).headD 250) (950 - Tbl.get (fun _ => 250) s.pwr.stackTemps d)

/-- The thermal factor of a headroom (R383). -/
def factorOf (h : Int) : Nat :=
  if 100 ≤ h then 100 else if 50 ≤ h then 75 else if 20 ≤ h then 50 else if 0 ≤ h then 25 else 0

/-- The state of a headroom: 0 NORMAL, 1 WARM, 2 THROTTLED. -/
def heatOf (h : Int) : Nat := if 100 ≤ h then 0 else if 50 ≤ h then 1 else 2

/-- A rise of RISE over the last 100 µs, sample with sample (R384). -/
def risen (rise : Nat) (l : List Int) : Bool :=
  match l.head?, l.getLast? with
  | some new, some old => rise != 0 && decide ((rise : Int) ≤ new - old)
  | _, _ => false

/-- A factor's next row upward. -/
def rowUp (pct want : Nat) : Nat := min want (pct / 25 * 25 + 25)

/-- A die's thermal state after a sample (R381, R383, R384). -/
def State.heatDie (s : State) (d : Nat) : State :=
  let off := R.PWR_DIE_THERM d
  let h := s.headroom d
  let rise := risen (s.fld R.PWR_THERM_CFG 7 0) (Tbl.get (fun _ => []) s.pwr.dieTemps d)
  let was := s.fld off 23 22
  let calm := decide (70 ≤ h) && !rise
  let since := if calm then some ((Tbl.get (fun _ => none) s.pwr.calmSince d).getD s.now) else none
  let left : Bool := match since with | some t => decide (t + 1000000 ≤ s.now) | none => false
  let st := if rise ∨ heatOf h = 2 then 2 else if was = 2 ∧ !left then 2 else heatOf h
  let want := if st = 2 then min 50 (factorOf h) else factorOf h
  let pct := s.fld off 21 15
  let climbs : Bool := decide (pct < want) && decide (Tbl.get (fun _ => 0) s.pwr.roseAt d + 1000000 ≤ s.now)
  let s := { s with pwr := { s.pwr with
    calmSince := Tbl.put (fun _ => none) s.pwr.calmSince d since,
    roseAt := if climbs then Tbl.put (fun _ => 0) s.pwr.roseAt d s.now else s.pwr.roseAt } }
  let s := ((s.setF off 31 24 (fieldOfInt 8 (h / 10))).setF off 23 22 st).setF off 21 15
    (if want ≤ pct then want else if climbs then rowUp pct want else pct)
  let s := if (was = 2) = (st = 2) then s
    else s.raise { code := 0x0A02, sev := 1, kind := 0x12, index := d, arg0 := fieldOfInt 32 (h / 10), arg1 := st }
  s.cutBudget d

/-- A core or hub site at or above 100 °C (R383): the event, whose arguments the spec does not state. -/
def State.hotSite (s : State) (was hot : Bool) : State :=
  if hot ∧ !was then
    (s.raise (modEv 0x0A02 1 (Config.openArg s.free % 2 ^ 32) (Config.openArg (s.free + 1) % 2 ^ 32) 0)).tick.tick
  else s

/-- A laser site after a sample (R383): one lane at 75 °C until below 72 °C; dark at 80 °C until below 70 °C. -/
def State.heatSite (s : State) (e : Nat) : State :=
  let t := Tbl.get (fun _ => 250) s.pwr.siteTemps e
  let was := Tbl.get (fun _ => .cool) s.pwr.sites e
  let now : SiteHeat :=
    if 800 ≤ t then .dark
    else match was with
      | .dark => if t < 700 then .cool else .dark
      | .oneLane => if t < 720 then .cool else .oneLane
      | .cool => if 750 ≤ t then .oneLane else .cool
  if now = was then s
  else
    let s := { s with pwr := { s.pwr with sites := Tbl.put (fun _ => .cool) s.pwr.sites e now } }
    let ps := (domainPorts (opticalDomain e)).filter (fun p => engineOf p == e)
    match now with
    | .dark => forEach (fun p (s : State) => (s.takeDown p 8).emit (.laser p false)) ps s
    | .oneLane => forEach (fun p (s : State) => s.trimLanes p) ps s
    | .cool => forEach (fun p (s : State) => s.beginTraining p) ps s

/-- The sites of a sample that trip (R383): 0 core, 1 hub, 2 + d Palette die d, 6 + d its stacks; `less` degrees
below the trip. -/
def State.tripsAt (s : State) (less : Int) : List Nat :=
  (if 1100 - less ≤ s.pwr.coreTemp then [0] else []) ++ (if 1100 - less ≤ s.pwr.hubTemp then [1] else [])
    ++ ((List.range 4).filter (fun d => 1050 - less ≤ (Tbl.get (fun _ => []) s.pwr.dieTemps d).headD 250)).map (· + 2)
    ++ ((List.range 4).filter (fun d => 1000 - less ≤ Tbl.get (fun _ => 250) s.pwr.stackTemps d)).map (· + 6)

/-- New temperatures; a list shorter than its sites leaves the others as they were. (DESIGN CHOICE, log entry 136) -/
def State.takeTemps (s : State) (core hub : Int) (dies stackList sites : List Int) : State :=
  { s with pwr := { s.pwr with
    coreTemp := core, hubTemp := hub,
    dieTemps := (List.range (min 4 dies.length)).foldl (fun t d =>
      Tbl.upd (fun _ => []) t d (fun l => (dies.getD d 250 :: l).take 11)) s.pwr.dieTemps,
    stackTemps := (List.range (min 4 stackList.length)).foldl (fun t d => Tbl.put (fun _ => 250) t d (stackList.getD d 250)) s.pwr.stackTemps,
    siteTemps := (List.range (min 18 sites.length)).foldl (fun t e => Tbl.put (fun _ => 250) t e (sites.getD e 250)) s.pwr.siteTemps } }

/-- The core and hub dies after a sample (R383): events, and header slots of the pipelines. -/
def State.heatCore (s : State) : State :=
  let hotC := decide (1000 ≤ s.pwr.coreTemp)
  let hotH := decide (1000 ≤ s.pwr.hubTemp)
  let s := (s.hotSite s.pwr.coreHot hotC).hotSite s.pwr.hubHot hotH
  { s with pwr := { s.pwr with
    coreHot := hotC, hubHot := hotH,
    slots3 := if 1030 ≤ s.pwr.coreTemp then true else if s.pwr.coreTemp < 1000 then false else s.pwr.slots3 } }

/-- Trips of a sample (R383, R389): an abrupt stop; tripped sites are kept until all of them have cooled.
(DESIGN CHOICE, log entry 133) -/
def State.tripCheck (s : State) : State :=
  let trips := s.tripsAt 0
  let all := s.boot.tripped ++ trips.filter (fun x => !s.boot.tripped.contains x)
  let cool := !all.isEmpty && !all.any (s.tripsAt 99).contains
  let s := { s with boot := { s.boot with
    tripped := all, coolSince := if cool then some (s.boot.coolSince.getD s.now) else none } }
  if trips.isEmpty ∨ (s.boot.waiting ∧ s.boot.kind = 1) then s else s.abruptStop 2

/-- The instant of a sample of the sensors, every 10 µs (R383), with the time that some die was THROTTLED. -/
def State.thermTick (s : State) : State :=
  let s := match s.pwr.thermAt with | some t => s.reach (t + 10000) | none => s
  let s := if (List.range 4).any (fun d => s.fld (R.PWR_DIE_THERM d) 23 22 == 2) then s.bump C.PWR_THROTTLE_US 10 else s
  { s with pwr := { s.pwr with thermAt := some s.now } }

/-- THERMAL_SAMPLE (R383, R384, R389): every 10 µs the hottest sensors of the core die, the hub die, each Palette
die, each die's stacks and each laser site are sampled, in units of 0.1 °C. A trip is an abrupt stop, held until
the tripped sites have cooled. -/
def execThermalSample (core hub : Int) (dies stackList sites : List Int) (s : State) : Host.Outcome State Fault Refusal :=
  if !s.on 1 then ok s
  else
    let s := (s.thermTick.takeTemps core hub dies stackList sites).heatCore
    let s := forEach (fun d (s : State) => s.heatDie d) (List.range 4) s
    let s := forEach (fun e (s : State) => s.heatSite e) (List.range 18) s
    ok s.tripCheck

/-! ## Droop (R385) -/

/-- DROOP_DETECT (R385): an island's clock is stretched; the stretch is counted and changes only timing. -/
def execDroopDetect (i : Fin 112) (s : State) : Host.Outcome State Fault Refusal :=
  if !s.works (islandDomain i) ∨ s.pwr.stretched.contains i then ok s
  else ok (({ s with pwr := { s.pwr with stretched := s.pwr.stretched ++ [i.val] } } : State).bump C.PWR_STRETCH 1)

/-- DROOP_RELEASE (R385): the stretch is released. -/
def execDroopRelease (i : Fin 112) (s : State) : Host.Outcome State Fault Refusal :=
  ok { s with pwr := { s.pwr with stretched := s.pwr.stretched.filter (· != i.val) } }

end Sys2Proof.Machine
end

