-- ==== Sys2Proof/Machine/Time.lean ====
section
/-!
DEFINITION. Time (16_time_bases.md): TB0's states, the first-lock step and what it does to TB0's consumers, rate
correction, re-alignment of copies, TIME packets, and the PTP clock of the management port.
-/
namespace Sys2Proof.Machine

/-! ## States (R346) -/

/-- TIM.STAT.STATE of a state. -/
def TimeState.code : TimeState → Nat
  | .unset => 0 | .acquiring => 1 | .locked => 2 | .holdover => 3

/-- EV_TIME (R373). -/
def State.timeEvent (s : State) (sev what : Nat) (offset : Int) : State :=
  s.raise (modEv 0x0701 sev what s.timing.st.code (fieldOfInt 32 offset))

/-- TB0 enters a state, which raises the time event; a new run of measurements begins. -/
def State.timeTo (s : State) (st : TimeState) : State :=
  ({ s with timing := { s.timing with st := st, recent := [] } } : State).timeEvent 0 0 s.timing.lastOffset

/-- TIM.CTRL.SRC. -/
def State.timeSrc (s : State) : Nat := s.fld R.TIM_CTRL 31 30

/-- The last 16 measurements agree within 100 ns (R346). -/
def agree16 (l : List Int) : Bool :=
  l.length == 16 && l.all (fun a => l.all (fun b => decide (a - b ≤ 100)))

/-! ## The first-lock step (R346, R348) -/

/-- The first slot boundary of R292 at or after an instant of TB0. -/
def boundaryFrom (slotNs t : Nat) : Nat :=
  let n := slotNumber slotNs t
  if slotStart slotNs n = t then t else slotStart slotNs (n + 1)

/-- Learned stamps are rewritten with the new seconds (R336). -/
def restamp (sec : Nat) (t : Tbl (Option MacEntry)) : Tbl (Option MacEntry) :=
  t.map (fun ke => (ke.1, ke.2.map (fun e => if e.fixed then e else { e with stamp := sec % 65536 })))

/-- A pending commit re-timed by the step (R348). -/
def State.retimeCommit (s : State) : State :=
  if s.tab.pending.isSome then
    let r := s.tab.requested
    let e := if r ≠ 0 ∧ s.tb0 < r ∧ r ≤ s.tb0 + 10000000000 then r else s.earliestEpoch s.tb0
    { s with tab := { s.tab with pending := some e } }
  else s

/-- The first-lock step: TB0 is set to a time in nanoseconds, and its consumers follow (R346, R348). -/
def State.firstLock (s : State) (t : Int) : State :=
  let s := s.accountPlanes
  let d : Int := t - s.tb0
  let rebase (n : Nat) : Nat := ((n : Int) + d).toNat
  let s := { s with
    clk := { s.clk with tb0Off := s.clk.tb0Off + d },
    tab := { s.tab with lastEpoch := s.tab.lastEpoch.map rebase },
    prism := { s.prism with retuneEnd := s.prism.retuneEnd.map rebase, slot := none },
    tel := { s.tel with cur := s.tel.cur.map (fun (c : Snap) => { c with target := rebase c.target }),
                        req := s.tel.req.map rebase, lastTarget := s.tel.lastTarget.map rebase,
                        causes := s.tel.causes ++ [(2, none)] },
    timing := { s.timing with stepped := true, setPending := false } }
  let s := { s with
    tel := { s.tel with periodicFrom := s.tb0 }, macs := restamp s.tb0Sec s.macs,
    prism := { s.prism with frameFrom := boundaryFrom s.slotNs (s.tb0 + s.gPkt) } }
  s.retimeCommit.timeTo .locked

/-- The time of the SET registers, in nanoseconds. -/
def State.setTime (s : State) : Nat :=
  (s.fld R.TIM_SET_SEC_HI 15 0 * 2 ^ 32 + s.fld R.TIM_SET_SEC_LO 31 0) * 1000000000 + s.fld R.TIM_SET_NS 29 0

/-! ## Rate correction (R347) -/

/-- The bound ±MAX_PPM in units of 10^-12. -/
def State.rateBound (s : State) : Int := ((s.fld R.TIM_RATE_CFG 7 0 * 1000000 : Nat) : Int)

/-- A correction of the rate: the spec gives its bound, not its law, so the rate is a free value within it.
(DESIGN CHOICE, log entry 114) -/
def State.correctRate (s : State) : State :=
  let b := s.rateBound
  ({ s with clk := { s.clk with adj := max (-b) (min b (Config.rateOffset s.free)) } } : State).tick

/-- An offset above 1 ms after the step raises the time event once per minute (R347). -/
def State.bigOffset (s : State) (o : Int) : State :=
  let due : Bool := match s.timing.bigOffsetAt with | none => true | some t => decide (t + 60000000000 ≤ s.now)
  if 1000000 < o.natAbs ∧ due then
    ({ s with timing := { s.timing with bigOffsetAt := some s.now } } : State).timeEvent 1 2 o
  else s

/-! ## Measurements (R346) -/

/-- An offset to the selected source, in nanoseconds to be added to TB0. (DESIGN CHOICE, log entry 115) -/
def State.measured (s : State) (o : Int) : State :=
  if s.timeSrc = 0 then s
  else
    let s := { s with timing := { s.timing with lastOffset := o, lastMeas := some s.now,
                                                recent := (o :: s.timing.recent).take 16 } }
    match s.timing.st with
    | .unset =>
      let s := s.timeTo .acquiring
      { s with timing := { s.timing with recent := [o] } }
    | .acquiring =>
      if agree16 s.timing.recent ∧ s.timeSrc ≠ 3 then s.firstLock (s.tb0 + o) else s
    | .locked => s.correctRate.bigOffset o
    | .holdover => (if agree16 s.timing.recent then (s.timeTo .locked).correctRate else s).bigOffset o

/-- TIME_MEASUREMENT (R346, R347): the selected source gives an offset measurement: what is to be added to TB0,
in nanoseconds. With SRC 0b00 there is no source. -/
def execTimeMeasurement (offset : Int) (s : State) : Host.Outcome State Fault Refusal :=
  ok (s.measured offset)

/-- TIME_SOURCE_TIMEOUT (R346): no measurement for 2 s. -/
def execTimeSourceTimeout (s : State) : Host.Outcome State Fault Refusal :=
  match s.timing.lastMeas with
  | none => ok s
  | some t =>
    match s.timing.st with
    | .acquiring => ok ((s.reach (t + 2000000000)).timeTo .unset)
    | .locked => if s.timeSrc = 0 then ok s else ok ((s.reach (t + 2000000000)).timeTo .holdover)
    | _ => ok s

/-- A 1PPS edge noted: it is good where it follows the last by one second within 1 µs. -/
def State.notePps (s : State) (ref10 : Bool) : State :=
  let good : Bool := match s.timing.ppsAt with
    | none => false
    | some t => decide (999999000 ≤ s.now - t ∧ s.now - t ≤ 1000001000)
  { s with timing := { s.timing with ppsAt := some s.now, ppsOk := good, ref10Ok := ref10 } }

/-- PPS_EDGE (R346, R356): a 1PPS edge; `ref10`: the 10 MHz input is within ±10 ppm. With SRC 0b11 and SET_CMD
given, the edge after 16 agreeing measurements is the instant of the first-lock step. -/
def execPpsEdge (ref10 : Bool) (s : State) : Host.Outcome State Fault Refusal :=
  let s := s.notePps ref10
  if s.timeSrc = 3 ∧ s.timing.setPending ∧ s.timing.st = .acquiring ∧ agree16 s.timing.recent then
    ok (s.firstLock s.setTime)
  else ok s

/-- TIME_SET (R356): a write of TIM.SET_CMD with SET. After the step it is discarded, with the time event. -/
def execTimeSet (s : State) : Host.Outcome State Fault Refusal :=
  ok (s.gate R.TIM_SET_CMD (fun s =>
    if s.timing.stepped then s.timeEvent 1 3 s.timing.lastOffset
    else if s.timeSrc = 0 then s.firstLock s.setTime
    else if s.timeSrc = 3 then { s with timing := { s.timing with setPending := true } }
    else s))

/-! ## Copies (R345) -/

/-- TB0_REALIGN (R345): an island's copy is re-aligned; `err` is what it was ahead of the master, in ns. One more
than 20 ns away raises the time event and marks the snapshot; one that is ahead holds its count until the master
reaches it. (DEDUCED, log entry 117) -/
def execTb0Realign (island : Fin 112) (err : Int) (s : State) : Host.Outcome State Fault Refusal :=
  let s := if 0 < err then
      { s with timing := { s.timing with
          holding := Tbl.put (fun _ => 0) s.timing.holding island (s.now + err.toNat) } }
    else s
  if 20 < err.natAbs then
    let s := { s with tel := { s.tel with causes := s.tel.causes ++ [(0, some island.val)] } }
    ok (s.raise { code := 0x0701, sev := 1, kind := 0x10, index := island, arg0 := 1, arg1 := s.timing.st.code,
                  arg2 := fieldOfInt 32 err })
  else ok s

/-! ## TIME packets (R64, R351) -/

/-- A TIME packet with TB0 as it leaves (R64). -/
def State.timePacket (s : State) : Packet :=
  localPacket tyTIME [BitVec.ofNat 32 (s.tb0Sec / 65536),
    ((0 : Word).setFld 31 16 s.tb0Sec).setFld 15 0 s.tb0Frac, BitVec.ofNat 32 s.tb0Ns]

/-- Leaf ports that run FFP and have completed step 4 of R315. -/
def State.timePorts (s : State) : List Nat :=
  (s.ports.filter (fun kp => kp.1 < 1024 && !kp.2.eth && (kp.2.trained_ || (kp.2.st == .training && kp.2.step == 5)))).map (·.1)

/-- TIME_PACKET_TIMER (R351): a TIME packet on every such port, while TB0 is LOCKED or HOLDOVER and TIME_US is
not zero. -/
def execTimePacketTimer (s : State) : Host.Outcome State Fault Refusal :=
  if s.fld R.TIM_CTRL 15 0 = 0 ∨ s.timing.st = .unset ∨ s.timing.st = .acquiring then ok s
  else ok (forEach (fun p (s : State) => s.sendLocal p s.timePacket) s.timePorts s)

/-! ## PTP on the management port (R353) -/

def State.setPtp (s : State) (p : Ptp) : State := { s with timing := { s.timing with ptp := p } }
def State.slaveOnly (s : State) : Bool := s.fld R.TIM_CTRL 29 29 == 1

/-- The clock's own time-stamps at the MII boundary, corrected by the PHY latencies. -/
def State.rxStamp (s : State) : Int := (s.tb0 : Int) - s.fld R.TIM_PHY_LAT 15 0
def State.txStamp (s : State) : Int := (s.tb0 : Int) + s.fld R.TIM_PHY_LAT 31 16

/-- The clock follows a master. (PRESUMED, log entry 116) -/
def State.follow (s : State) (m : PtpMsg) : State :=
  let s := s.setPtp { s.timing.ptp with st := .slave, rank := m.rank, source := m.source, t1 := none, t2 := none, t3 := none }
  { s with timing := { s.timing with ptpOk := false } }

/-- An Announce: the best master clock algorithm (R353). -/
def State.announced (s : State) (m : PtpMsg) : State :=
  let p := s.timing.ptp
  match p.st with
  | .slave =>
    if m.source = p.source then s.setPtp { p with rank := m.rank }
    else if m.rank < p.rank then s.follow m else s
  | _ => if s.slaveOnly || m.rank < Config.ptpRank then s.follow m else s

/-- The exchange is whole: the offset from the master is half of (t2 − t1) − (t4 − t3), and what is to be added
to TB0 is its negative; with SRC 0b01 it is a measurement. -/
def State.exchanged (s : State) (t4 : Int) : State :=
  let p := s.timing.ptp
  match p.t1, p.t2, p.t3 with
  | some t1, some t2, some t3 =>
    let o := -(((t2 - t1) - (t4 - t3)) / 2)
    let s := s.setPtp { p with offset := some o, t3 := none }
    let s := { s with timing := { s.timing with ptpOk := true } }
    if s.timeSrc = 1 then s.measured o else s
  | _, _, _ => s

/-- PTP_MESSAGE_RECEIVE (R353): a message of the clock's domain on the management port, processed by an ordinary
clock of the default delay request-response profile. -/
def execPtpMessageReceive (m : PtpMsg) (s : State) : Host.Outcome State Fault Refusal :=
  let p := s.timing.ptp
  if !s.on 2 || m.domain ≠ min 127 (s.fld R.TIM_CTRL 23 16) then ok s
  else
    match m.kind with
    | .announce => ok (s.announced m)
    | .delayReq => if p.st = .master then ok (s.emit (.ptp 9 m.seq s.rxStamp.toNat)) else ok s
    | .sync =>
      if p.st ≠ .slave ∨ m.source ≠ p.source then ok s
      else ok (s.setPtp { p with syncSeq := m.seq, t2 := some s.rxStamp, corr := m.corr,
                                 t1 := if m.twoStep then none else some (m.time + m.corr) })
    | .followUp =>
      if p.st ≠ .slave ∨ m.source ≠ p.source ∨ m.seq ≠ p.syncSeq ∨ p.t2.isNone then ok s
      else ok (s.setPtp { p with t1 := some (m.time + p.corr + m.corr) })
    | .delayResp =>
      if p.st ≠ .slave ∨ m.source ≠ p.source ∨ m.seq ≠ p.reqSeq ∨ m.mine = false then ok s
      else ok (s.exchanged (m.time - m.corr))

/-- PTP_MESSAGE_TIMER (R353): a port timer. Without an Announce the clock listens again, or, unless SLAVE_ONLY,
becomes master; a master sends Sync with its Follow_Up and Announce; a slave sends Delay_Req. -/
def execPtpMessageTimer (t : PtpTimer) (s : State) : Host.Outcome State Fault Refusal :=
  let p := s.timing.ptp
  if !s.on 2 then ok s
  else
    match t with
    | .announceTimeout =>
      if p.st = .master then ok s
      else
        let s := s.setPtp { p with st := if s.slaveOnly then .listening else .master, t1 := none, t2 := none, t3 := none }
        ok { s with timing := { s.timing with ptpOk := false } }
    | .sync =>
      if p.st ≠ .master then ok s
      else
        let s := (s.emit (.ptp 0 p.seq 0)).emit (.ptp 8 p.seq s.txStamp.toNat)
        ok (s.setPtp { p with seq := (p.seq + 1) % 65536 })
    | .announce => if p.st ≠ .master then ok s else ok (s.emit (.ptp 0xB p.seq 0))
    | .delayReq =>
      if p.st ≠ .slave ∨ p.t1.isNone then ok s
      else
        let n := (p.reqSeq + 1) % 65536
        ok ((s.setPtp { p with t3 := some s.txStamp, reqSeq := n }).emit (.ptp 1 n 0))

end Sys2Proof.Machine
end

