-- ==== Sys2Proof/Machine/Boot.lean ====
section
/-!
DEFINITION. Resets, boot, flash, fuses, measurement and attestation (19_reset_boot_security.md, R389 to R405; 21,
R443).
-/
namespace Sys2Proof.Machine

/-! ## Resets (R389, R390, R443) -/

/-- COLD_RESET (R389): PD01 turns on: fuses are read, TB0 starts at zero and UNSET, and a boot waits for the input.
Lasers' records, fuses and flash slots are kept. -/
def execColdReset (s : State) : Host.Outcome State Fault Refusal :=
  let b := s.boot
  ok { State.reset with
    clk := { now := s.now, sub := 0, tb0Off := -(s.now : Int), adj := 0 },
    optics := { Optics.init with lasers := s.optics.lasers },
    ports := s.ports.foldl (fun t x => Tbl.put (fun _ => Port.init) t x.1 x.2.bare) [],
    boot := { Boot.init with
      resetLow := b.resetLow, erasedA := b.erasedA, erasedB := b.erasedB,
      ownerReq := b.ownerReqNext, minSvn := b.minSvnNext, ownerHash := b.ownerHashNext,
      ownerReqNext := b.ownerReqNext, minSvnNext := b.minSvnNext, ownerHashNext := b.ownerHashNext },
    i3c := { s.i3c with alertEn := I3c.init.alertEn, low := false },
    out := s.darken.out, free := s.free, pending := s.pending }

/-- RESET_N_ASSERT (R443): a low of less than 1 µs is ignored, one of 10 µs or more is a module reset; between the
two the outcome is undefined. (DEDUCED, log entry 142) -/
def execResetNAssert (ns : Nat) (s : State) : Host.Outcome State Fault Refusal :=
  if ns < 1000 then ok s
  else if ns < 10000 then .fault .resetPulseUndefined
  else if s.boot.resetLow then ok s
  else if !s.on 1 then ok { s with boot := { s.boot with resetLow := true } }
  else
    let s := s.abruptStop 1
    ok { s with boot := { s.boot with resetLow := true } }

/-- RESET_N_RELEASE (R389, R443): the boot starts once the input is good and any thermal hold has ended. -/
def execResetNRelease (s : State) : Host.Outcome State Fault Refusal :=
  ok ({ s with boot := { s.boot with resetLow := false } } : State).tryBoot

/-- THERMAL_HOLD_END (R389): every tripped site has stayed 10 °C below its trip for 1 s. -/
def execThermalHoldEnd (s : State) : Host.Outcome State Fault Refusal :=
  match s.boot.coolSince with
  | none => ok s
  | some t =>
    let s := s.reach (t + 1000000000)
    ok ({ s with boot := { s.boot with tripped := [], coolSince := none } } : State).tryBoot

/-- GLB.RST_STAT.STATUS. -/
def State.rstStatus (s : State) (st : Nat) : State := s.setF R.GLB_RST_STAT 3 0 st

/-- Domain resets that run are abandoned for a deeper one (R390). -/
def State.dropResets (s : State) : State :=
  let gone := s.pwr.ops.filter (fun (o : DomOp) => o.goal == .reset)
  let s := { s with pwr := { s.pwr with ops := s.pwr.ops.filter (fun (o : DomOp) => o.goal != .reset) } }
  forEach (fun (o : DomOp) (s : State) => match o.activity with | some a => s.endMaint a 3 | none => s) gone s

/-- A warm reset begins with its withdrawal (R27, R389). -/
def State.startWarm (s : State) (cause : Nat) : State :=
  ({ s with boot := { s.boot with cause := cause } } : State).dropResets.beginWithdraw .warmReset 1

/-- WARM_RESET_REQUEST (R389, R390): refused as busy before the boot is complete. -/
def execWarmResetRequest (s : State) : Host.Outcome State Fault Refusal :=
  if !s.booted then ok (s.rstStatus 2) else ok ((s.rstStatus 0).startWarm 0)

/-- DOMAIN_RESET_REQUEST (R389, R390). -/
def execDomainResetRequest (n : Fin 32) (s : State) : Host.Outcome State Fault Refusal :=
  let warm : Bool := match s.wd with | some w => w.causes.contains .warmReset | none => false
  if !domKnown n then ok (s.rstStatus 3)
  else if s.inTransit n ∨ !s.booted ∨ warm then
    ok (s.rstStatus 2)
  else if s.levelHolds n then ok (s.rstStatus 6)
  else ok ((s.rstStatus 0).requestMaint (.domain n .reset) (State.startDomainOp n .reset))

/-! ## Boot (R394 to R399) -/

/-- The source being tried or that booted: 0 A, 1 B, 2 host. -/
def State.bootSource (s : State) : Nat := s.fld R.GLB_BOOT_STAT 29 28

/-- Whether a slot is erased. -/
def Boot.erased (b : Boot) (slot : Nat) : Bool := if slot = 0 then b.erasedA else b.erasedB

/-- The failure code of an image, 0 for none (R396): the first check that fails; `host`: the length that host
software gave. (DESIGN CHOICE, log entry 138) -/
def Boot.checkImage (b : Boot) (c : ImageCheck) (host : Option Nat) : Nat :=
  if !c.readOk then (if host.isSome then 0x09 else 0x07)
  else if !c.header ∨ c.bodyLen = 0 ∨ 33546240 < c.bodyLen then 0x01
  else if host.any (fun (l : Nat) => l != 8192 + c.bodyLen) then 0x01
  else if c.svn < b.minSvn then 0x02
  else if !c.vendorKey then 0x03
  else if !c.vendorSig then 0x04
  else if b.ownerReq ∧ !(c.ownerSigned && c.ownerHash == b.ownerHash && c.ownerSig) then 0x05
  else if !c.body then 0x06
  else 0

/-- A failed attempt in the boot record (R399). -/
def State.recordFail (s : State) (source code : Nat) : State :=
  let b := s.boot
  let b := { b with fails := b.fails + 1, last := code, codeA := if source = 0 then code else b.codeA,
                    codeB := if source = 1 then code else b.codeB, codeHost := if source = 2 then code else b.codeHost }
  (({ s with boot := b } : State).setF R.GLB_BOOT_STAT 27 20 (min 255 b.fails)).setF R.GLB_BOOT_STAT 15 8 code

/-- An attempt ends in a failure code (R394): the next source, or after three a back-off. -/
def State.failAttempt (s : State) (code : Nat) : State :=
  let src := s.bootSource
  let s := s.recordFail src code
  let b := { s.boot with tries := s.boot.tries + 1, go := if src = 2 then false else s.boot.go, hostFrom := none }
  if b.tries < 3 then ({ s with boot := b } : State).attempt ((src + 1) % 3)
  else
    let k := b.rounds + 1
    ({ s with boot := { b with tries := 0, rounds := k, backoffEnd := some (s.now + min (2 ^ (k - 1)) 64 * 1000000000) } }
      : State).setPhase 0

/-- IMAGE_CHECK_DONE (R396, R397, R403): the checks of the source being tried end; a good image is measured and
handed over. The host attempt waits for its link and GO. -/
def execImageCheckDone (c : ImageCheck) (s : State) : Host.Outcome State Fault Refusal :=
  let src := s.bootSource
  if s.fld R.GLB_BOOT_STAT 31 30 ≠ 1 ∨ (src = 2 ∧ !(s.boot.go && s.host.up)) then ok s
  else
    let code := if src < 2 ∧ s.boot.erased src then 7
      else s.boot.checkImage c (if src = 2 then some (s.fld R.GLB_HOST_IMG_CTL 25 0) else none)
    if code ≠ 0 then ok (s.failAttempt code)
    else
      let b := s.boot
      let s := { s with boot := { b with go := if src = 2 then false else b.go, hostFrom := none } }
      let s := ((s.setPhase 2).setF R.GLB_BOOT_STAT 7 7 (bit01 b.ownerReq)).setF R.GLB_BOOT_STAT 6 0 c.svn
      let s := (s.measure 2 c.digest).measure 3 c.bodyDigest
      let s := if b.ownerReq then s.measure 4 b.ownerHash else s
      ok ((s.measure 5 (Config.measure 5 b.minSvn (bit01 b.ownerReq) 0)).measure 7 (Config.measure 7 src b.fails 0))

/-- HOST_BOOT_TIMEOUT (R396): no link within 100 ms, or no GO within 1 s, of the host attempt's start. -/
def execHostBootTimeout (s : State) : Host.Outcome State Fault Refusal :=
  match s.boot.hostFrom with
  | none => ok s
  | some t =>
    if !s.host.up then ok ((s.reach (t + 100000000)).failAttempt 8)
    else if !s.boot.go then ok ((s.reach (t + 1000000000)).failAttempt 8)
    else ok s

/-- BOOT_BACKOFF_EXPIRY (R394): the next round starts with slot A. -/
def execBootBackoffExpiry (s : State) : Host.Outcome State Fault Refusal :=
  match s.boot.backoffEnd with
  | none => ok s
  | some t => ok ((s.reach t).attempt 0)

/-- HOST_IMAGE_GO (R397, R406): LEN is written with GO; a GO of the present boot is kept for the host attempt. -/
def execHostImageGo (len : Fin 67108864) (s : State) : Host.Outcome State Fault Refusal :=
  let s := s.setF R.GLB_HOST_IMG_CTL 25 0 len
  let booting : Bool := s.fld R.GLB_BOOT_STAT 31 30 == 1 || s.boot.backoffEnd.isSome
  ok (if booting then { s with boot := { s.boot with go := true } } else s)

/-- FIRMWARE_WATCHDOG (R389, R396, R399): after hand-over the attempt fails; in service a warm reset starts, which
within 60 s of the boot counts as a failure of the source that booted. (DEDUCED, log entry 141) -/
def execFirmwareWatchdog (s : State) : Host.Outcome State Fault Refusal :=
  let ph := s.fld R.GLB_BOOT_STAT 31 30
  let src := s.bootSource
  if ph = 2 then ok (s.failAttempt 0x0A)
  else if ph = 3 then
    let early : Bool := match s.boot.upAt with | some t => decide (s.now < t + 60000000000) | none => false
    let s := if early then
        let s := s.recordFail src 0x0A
        { s with boot := { s.boot with first := (src + 1) % 3 } }
      else s
    ok (s.startWarm 3)
  else ok s

/-- BOOT_RECORD_CLEAR (R399): 60 s in phase 0b11. -/
def execBootRecordClear (s : State) : Host.Outcome State Fault Refusal :=
  match s.boot.upAt with
  | none => ok s
  | some t =>
    let s := s.reach (t + 60000000000)
    let s := (s.setF R.GLB_BOOT_STAT 27 20 0).setF R.GLB_BOOT_STAT 15 8 0
    ok { s with boot := { s.boot.clearRecord with upAt := none } }

/-- The order in which bring-up turns domains on (R43, R398). -/
def upOrder : List Nat := [2, 8, 6, 7, 3, 4, 5, 13, 14, 15, 16, 17, 18, 19, 9, 10, 11, 12, 20]

/-- Stacks that fail their test at bring-up (R398): marked RETIRED; on a die where a third stack would be retired
every failing stack is named, and the die stays off. Answers the dies that stay off. -/
def State.testStacks (s : State) (bad : List Nat) : List Nat × State :=
  let mask := s.fld R.MEM_STACK_RETIRED 31 0
  let new := bad.filter (fun k => !mask.testBit k)
  let dead := (List.range 4).filter (fun d =>
    let l := (List.range 8).map (· + 8 * d)
    let fresh := l.filter new.contains
    !fresh.isEmpty && decide (2 < (l.filter mask.testBit).length + fresh.length))
  let keep := (List.range 32).filter (fun k => new.contains k && !dead.contains (k / 8))
  let s := s.setF R.MEM_STACK_RETIRED 31 0 (keep.foldl (fun m k => m ||| 2 ^ k) mask)
  (dead, forEach (fun k (s : State) =>
    s.raise { code := 0x0503, sev := 2, kind := 9, index := k, arg0 := s.stackSt k })
    ((List.range 32).filter (fun k => new.contains k && dead.contains (k / 8))) s)

/-- One domain of a bring-up (R398): turned on when what it requires is on, unless a level or an M-state holds it. -/
def State.bringUp (s : State) (dead : List Nat) (n : Nat) : State :=
  if s.on n ∨ dead.any (fun d => n == palDomain d || n == hbmDomain d) then s
  else if (s.forcedDom n).isSome then
    { s with pwr := { s.pwr with shed := if s.pwr.shed.contains n then s.pwr.shed else s.pwr.shed ++ [n] } }
  else if (requiresAny n).all (fun g => g.any s.on) then
    (s.domainOn n (s.domSt n != .retention) []).opStep n 2
  else s

/-- EV_BOOT (R398). -/
def State.bootEvent (s : State) : State :=
  let b := s.boot
  s.raise (modEv 0x0B01 0 (s.bootSource + 256 * min 255 b.fails) (b.codeA + 256 * b.codeB + 65536 * b.codeHost)
    (s.fld R.GLB_BOOT_STAT 6 0))

/-- EV_RESET (R391), with GLB.RST_STAT. (DESIGN CHOICE, log entry 7) -/
def State.resetEvent (s : State) : State :=
  let b := s.boot
  let mask := if b.kind = 3 then (b.mask.map (fun n => 2 ^ (n - 1))).foldl (· ||| ·) 0 else 0
  ((s.setF R.GLB_RST_STAT 31 29 b.kind).setF R.GLB_RST_STAT 28 26 b.cause).raise (modEv 0x0B03 0 b.kind b.cause mask)

/-- BRINGUP_DONE (R398): every domain, or after a reset of PD02 those that it took down, is on; after cold and module
reset `stackList` and `groups` are what the tests found failing. Phase 0b11, EV_BOOT and EV_RESET; ports train. -/
def execBringupDone (stackList : List (Fin 32)) (groups : List (Fin 8 × Fin 17)) (s : State) : Host.Outcome State Fault Refusal :=
  if s.fld R.GLB_BOOT_STAT 31 30 ≠ 2 then ok s
  else
    let tests := decide (s.boot.kind < 2)
    let t := if tests then s.testStacks (stackList.map (·.val)) else ([], s)
    let s := t.2.setPhase 3
    let todo := if s.boot.kind = 3 then upOrder.filter s.boot.mask.contains else upOrder
    let s := forEach (fun n (s : State) => s.bringUp t.1 n) todo s
    let s := if tests then
        forEach (fun (x : Fin 8 × Fin 17) (s : State) =>
          if s.on (palDomain (x.1 / 2)) ∧ !(s.fld (R.PAL_LANE_RETIRE x.1) 16 0).testBit x.2 then s.retireGroup x.1 x.2 else s)
          groups s
      else s
    let s := forEach (fun p (s : State) => s.beginTraining p) (List.range 1088) s
    let s := { s with boot := { s.boot with upAt := some s.now } }
    ok ((s.bootEvent.resetEvent).applyForce 0).domainsGo

/-! ## Flash (R400) -/

/-- GLB.FLASH_STAT.STATUS. -/
def State.flashStatus (s : State) (st : Nat) : State := s.setF R.GLB_FLASH_STAT 3 0 st

/-- A slot erased. -/
def State.eraseSlot (s : State) (slot : Nat) (erased : Bool) : State :=
  { s with boot := { s.boot with erasedA := if slot = 0 then erased else s.boot.erasedA,
                                 erasedB := if slot = 0 then s.boot.erasedB else erased } }

/-- An erase, once it has its lock. -/
def State.startErase (slot : Nat) (s : State) : State :=
  ((s.eraseSlot slot true).setF R.GLB_FLASH_STAT 31 31 0).endMaint (.flash slot true) 2

/-- A program, once it has its lock: the slot is erased first. -/
def State.startProgram (slot len : Nat) (s : State) : State :=
  let s := s.eraseSlot slot true
  { s with boot := { s.boot with program := some (slot, len) } }

/-- A flash request: busy, or of the slot of the running image, or behind its lock; `len`: the bytes of a program. -/
def State.flashRequest (s : State) (slot : Nat) (len : Option Nat) (start : State → State) : State :=
  if s.fld R.GLB_FLASH_STAT 31 31 = 1 then s.flashStatus 2
  else if s.booted ∧ s.bootSource = slot then s.flashStatus 4
  else
    let s := { s with boot := { s.boot with program := len.map (fun n => (slot, n)) } }
    ((s.flashStatus 0).setF R.GLB_FLASH_STAT 31 31 1).requestMaint (.flash slot len.isNone) start

/-- FLASH_ERASE (R400, R406). -/
def execFlashErase (slot : Fin 2) (s : State) : Host.Outcome State Fault Refusal :=
  ok (s.flashRequest slot none (State.startErase slot))

/-- FLASH_PROGRAM (R400, R406): LEN above a slot is a bad request, and zero acts as an erase. -/
def execFlashProgram (slot : Fin 2) (len : Fin 67108864) (s : State) : Host.Outcome State Fault Refusal :=
  if s.fld R.GLB_FLASH_STAT 31 31 = 1 then ok (s.flashStatus 2)
  else if 33554432 < len.val then ok (s.flashStatus 3)
  else if len.val = 0 then ok (s.flashRequest slot none (State.startErase slot))
  else ok (s.flashRequest slot (some len.val) (State.startProgram slot len))

/-- FLASH_PROGRAM_DONE (R400): the slot is read back and checked; on a failed check it is erased. -/
def execFlashProgramDone (c : ImageCheck) (s : State) : Host.Outcome State Fault Refusal :=
  match s.boot.program with
  | none => ok s
  | some (slot, _) =>
    if !s.maintRuns (.flash slot false) then ok s
    else
      let code := s.boot.checkImage c none
      let s := { s with boot := { s.boot with program := none } }
      let s := ((s.eraseSlot slot (code != 0)).setF R.GLB_FLASH_STAT 15 8 code).flashStatus (if code = 0 then 0 else 5)
      ok ((s.setF R.GLB_FLASH_STAT 31 31 0).endMaint (.flash slot false) 2)

/-! ## Fuses (R401, R405) -/

/-- GLB.SEC_STAT.STATUS. -/
def State.secStatus (s : State) (st : Nat) : State := s.setF R.GLB_SEC_STAT 3 0 st

/-- A burn recorded (R405): the fuse state is measured, and EV_ATTEST is raised. -/
def State.burnt (s : State) : State :=
  let b := s.boot
  (s.measure 5 (Config.measure 5 b.minSvnNext (bit01 b.ownerReqNext) 0)).raise (modEv 0x0B02 0 3 0 0)

/-- SEC_RAISE_MIN_SVN (R405): MIN_SVN is raised to the running SVN; its effect starts at the next boot. -/
def execSecRaiseMinSvn (s : State) : Host.Outcome State Fault Refusal :=
  let svn := s.fld R.GLB_BOOT_STAT 6 0
  if 1 ≤ s.level then ok (s.secStatus 6)
  else if svn ≤ s.boot.minSvnNext then ok (s.secStatus 0)
  else
    let s := { s with boot := { s.boot with minSvnNext := svn } }
    ok ((s.setF R.GLB_SEC_STAT 30 24 svn).secStatus 0).burnt

/-- SEC_BURN_OWNER_HASH (R405): the owner hash is burnt from the 32 bytes that host memory holds at ATT_ADDR, and
OWNER_REQ is set; once set, the request burns nothing. -/
def execSecBurnOwnerHash (bytes : List Byte) (s : State) : Host.Outcome State Fault Refusal :=
  if 1 ≤ s.level then ok (s.secStatus 6)
  else if s.boot.ownerReqNext then ok (s.secStatus 4)
  else
    let s := { s with boot := { s.boot with ownerReqNext := true, ownerHashNext := (bytes ++ List.replicate 32 0).take 32 } }
    ok ((s.setF R.GLB_SEC_STAT 31 31 1).secStatus 0).burnt

/-! ## Measurements and reports (R402 to R404) -/

/-- GLB.ATT_STAT.STATUS. -/
def State.attStatus (s : State) (st : Nat) : State := s.setF R.GLB_ATT_STAT 3 0 st

/-- A command of GLB.ATT_CMD: discarded as busy while a report runs. -/
def State.attCommand (s : State) (f : State → State) : State :=
  if s.fld R.GLB_ATT_STAT 31 31 = 1 then s.attStatus 2 else f s

/-- ATTEST_REPORT (R404): a report starts with the nonce and LOG_HASH of this moment. -/
def execAttestReport (s : State) : Host.Outcome State Fault Refusal :=
  ok (s.attCommand (fun s =>
    if !s.host.up then (s.attStatus 4).raise (modEv 0x0B02 2 2 0 0)
    else
      let nonce := (s.rdWords (R.GLB_NONCE 0) 8).flatMap Word.bytesLE
      (({ s with boot := { s.boot with report := some (nonce, s.boot.logHash) } } : State).setF R.GLB_ATT_STAT 31 31 1).attStatus 0))

/-- The first 128 bytes of a report (R404). -/
def State.reportBytes (s : State) (nonce hash : List Byte) : List Byte :=
  let flags := ((((0 : Word).setFld 8 0 s.boot.log.length).setFld 9 9 (s.fld R.GLB_ATT_STAT 30 30)).setFld 11 10
    s.timing.st.code).setFld 13 12 s.bootSource
  [(1 : Word), s.rd R.GLB_ID, s.rd R.GLB_STEP, s.rd R.GLB_FABRIC_ID].flatMap Word.bytesLE
    ++ bytesLEOfNat 8 (s.tb0Sec % 2 ^ 48) ++ bytesLEOfNat 4 s.tb0Ns
    ++ (flags.setFld 14 14 (s.fld R.GLB_BOOT_STAT 7 7)).bytesLE ++ nonce ++ hash
    ++ bytesLEOfNat 4 (s.fld R.GLB_BOOT_STAT 6 0) ++ bytesLEOfNat 4 (s.fld R.GLB_SEC_STAT 30 24) ++ List.replicate 24 0

/-- The host address in GLB.ATT_ADDR. -/
def State.attAddr (s : State) : Nat := s.addrOf R.GLB_ATT_ADDR_LO R.GLB_ATT_ADDR_HI

/-- ATTEST_REPORT_DONE (R404): the report is signed with a free signature and written to ATT_ADDR. -/
def execAttestReportDone (s : State) : Host.Outcome State Fault Refusal :=
  match s.boot.report with
  | none => ok s
  | some (nonce, hash) =>
    let sig : List Byte := (List.range 2420).map (Config.signature s.free)
    let s := ({ s with boot := { s.boot with report := none } } : State).tick
    let s := s.hostWrites [.data s.attAddr (s.reportBytes nonce hash ++ sig)]
    ok (((s.setF R.GLB_ATT_STAT 31 31 0).attStatus 0).raise (modEv 0x0B02 0 1 0 0))

/-- ATTEST_READ_ENTRY (R403, R406): a stored entry in ATT_DATA; one not stored gives status 0x3. -/
def execAttestReadEntry (i : Fin 256) (s : State) : Host.Outcome State Fault Refusal :=
  ok (s.attCommand (fun s =>
    match s.boot.log[i.val]? with
    | none => s.attStatus 3
    | some e => (s.wrWords (R.GLB_ATT_DATA 0)
        ((List.range 16).map (fun w => BitVec.ofNat 32 (natOfBytesLE ((e.drop (4 * w)).take 4))))).attStatus 0))

/-- ATTEST_WRITE_PUBKEY (R402): the identity public key, of 1,312 bytes, is written to ATT_ADDR.
(DESIGN CHOICE, log entry 139) -/
def execAttestWritePubkey (s : State) : Host.Outcome State Fault Refusal :=
  ok (s.attCommand (fun s =>
    if !s.host.up then s.attStatus 4
    else (s.hostWrites [.data s.attAddr ((List.range 1312).map Config.identityKey)]).attStatus 0))

end Sys2Proof.Machine
end

