-- ==== Sys2Proof/Machine/Ether.lean ====
section
/-!
DEFINITION. Commands of the Ethernet personality (15_ethernet_personality.md): a frame received, the ageing
scan, and the table commands of ETH.CMD.
-/
namespace Sys2Proof.Machine

/-- A frame admitted to its port's VC_BULK reservation with 36 cells (R117): its header goes to its pipeline, and its tail, with the FCS, is still
to pass (R329, R330, R335). -/
def State.admitFrame (s : State) (port : Nat) (f : EthFrame) : State :=
  let id := s.dp.nextId
  let n := 36
  let it : Item := {
    id := id, body := .eth f, port := port, tc := (s.rd (R.ETH_QOS f.qosIndex)).fld 4 2, vc := vcBULK, n := n,
    gen := s.tab.gen, since := s.now, charge := .reserved, peer := none, bucket := none, own := false, mcast := none,
    leg := none, marked := false, spray := false, cut := false, sender := none, latch := [], via := 0 }
  { s with dp := { s.dp with nextId := id + 1, rx := Tbl.put (fun _ => []) s.dp.rx port (s.rx port ++ [it]),
                             inRsv := addAt s.dp.inRsv (pvKey port vcBULK) n,
                             tails := s.dp.tails ++ [⟨id, port, !f.bad, some f⟩] } }

/-- ETH_FRAME_RECEIVE (R329, R330): a frame with its FCS arrives on an Ethernet port that is up. The free part of the port's
VC_BULK reservation, as it stood at the port's training, holds it or it is dropped. -/
def execEthFrameReceive (port : Fin 1024) (bytes : List Byte) (s : State) : Host.Outcome State Fault Refusal :=
  let p := s.port port
  if !p.eth || !p.trained_ || !s.portPowered port then ok s
  else
    let s := s.setPort port { p with lastGood := s.now }
    let s := (s.bumpPort port 0 1).bumpPort port 1 bytes.length
    let f := parseFrame (s.fld (R.PL_ETH_PVID (port / 64) (port % 64)) 11 0) bytes
    if bytes.length < 64 then ok ((s.countDrop port drEthFilter).bump (C.ETH_FILTER 0) 1)
    else if 9216 < bytes.length then ok (s.countDrop port drOversize)
    else if f.ethertype = 0x8808 then ok ((s.countDrop port drEthFilter).bump (C.ETH_FILTER 1) 1)
    else if !s.carries then ok (s.countDrop port drUnassigned)
    else if p.rsv.get vcBULK < s.inCharged port vcBULK + 36 then ok (s.countDrop port drAdmission)
    else ok (s.admitFrame port f)

/-- Whether the ageing scanner removes an entry (R336). -/
def MacEntry.aged (e : MacEntry) (now age : Nat) : Bool :=
  !e.fixed && age != 0 && age ≤ (now + 65536 - e.stamp) % 65536

/-- MAC_AGEING_SCAN (R336): a pipeline's scanner visits every entry of its table. -/
def execMacAgeingScan (pl : Fin 16) (s : State) : Host.Outcome State Fault Refusal :=
  let age := s.fld R.ETH_CTRL 14 0
  ok { s with macs := s.macs.filter (fun ke =>
    !(ke.1 / 2 ^ 60 == pl.val && (match ke.2 with | some e => e.aged s.stampNow age | none => false))) }

/-! ## ETH.CMD (R340, R341) -/

/-- The five words of ETH.DATA_w. -/
def State.ethData (s : State) : List Word := s.rdWords (R.ETH_DATA 0) 5

/-- The MAC key that words 0 and 1 name in a pipeline's table. -/
def macKeyOf (pl : Nat) (e : List Word) : Nat :=
  macKey pl ((e.getD 0 0).fld 27 16) ((e.getD 0 0).fld 15 0 * 2 ^ 32 + (e.getD 1 0).fld 31 0)

/-- Writing a MAC entry (R335, R341). A pipeline that is not on has no table to write. -/
def State.writeMac (s : State) (pl : Nat) (e : List Word) : State :=
  let w0 := e.getD 0 0
  let k := macKeyOf pl e
  let there : Bool := (s.macAt k).isSome
  if w0.fld 29 28 ≠ 0 ∨ (e.getD 2 0).fld 15 10 ≠ 0 then s.status R.ETH_STAT 3
  else if !s.on (pipelineDomain pl) then s.status R.ETH_STAT 2
  else if w0.fld 31 31 = 0 then
    if there then (s.setMac k none).status R.ETH_STAT 0 else s.status R.ETH_STAT 4
  else if !there && s.bucketFull k then s.status R.ETH_STAT 1
  else (s.setMac k (some ⟨w0.fld 30 30 == 1, s.stampNow, (e.getD 2 0).fld 9 0⟩)).status R.ETH_STAT 0

/-- The prefix of a route entry's words. -/
def routePrefix (v6 : Bool) (e : List Word) : Nat :=
  if v6 then (e.getD 1 0).toNat * 2 ^ 96 + (e.getD 2 0).toNat * 2 ^ 64 + (e.getD 3 0).toNat * 2 ^ 32 + (e.getD 4 0).toNat
  else (e.getD 1 0).toNat

/-- Width of an address and the total of prefixes of a family (R333). -/
def routeBits (v6 : Bool) : Nat := if v6 then 128 else 32
def routeMax (v6 : Bool) : Nat := if v6 then 524288 else 1048576

/-- A route entry sets no reserved bit and no prefix bit beyond LEN, and LEN is within its family (R341). -/
def routeOk (v6 : Bool) (e : List Word) : Bool :=
  let len := (e.getD 0 0).fld 23 16
  (e.getD 0 0).fld 30 24 == 0 && len ≤ routeBits v6 && routePrefix v6 e % 2 ^ (routeBits v6 - len) == 0

/-- The key of a route entry's words. -/
def routeKeyOf (v6 : Bool) (e : List Word) : Nat := routeKey ((e.getD 0 0).fld 23 16) (routePrefix v6 e)

def State.routeShadow (s : State) (v6 : Bool) : Tbl (Option Nat) := if v6 then s.tab.rt6Shadow else s.tab.rt4Shadow
def State.setRouteShadow (s : State) (v6 : Bool) (t : Tbl (Option Nat)) : State :=
  if v6 then { s with tab := { s.tab with rt6Shadow := t } } else { s with tab := { s.tab with rt4Shadow := t } }

/-- Writing a shadow route (R333, R341). -/
def State.writeRoute (s : State) (v6 : Bool) (e : List Word) : State :=
  let t := s.routeShadow v6
  let k := routeKeyOf v6 e
  let there : Bool := (Tbl.get (fun _ => none) t k).isSome
  if !routeOk v6 e then s.status R.ETH_STAT 3
  else if (e.getD 0 0).fld 31 31 = 0 then
    if there then (s.setRouteShadow v6 (Tbl.erase t k)).status R.ETH_STAT 0 else s.status R.ETH_STAT 4
  else if !there && routeMax v6 ≤ t.length then s.status R.ETH_STAT 1
  else (s.setRouteShadow v6 (Tbl.put (fun _ => none) t k (some ((e.getD 0 0).fld 15 0)))).status R.ETH_STAT 0

/-- ETH_WRITE_ENTRY (R340, R341): OP 0b01. A MAC entry is written at once; the others into their shadows, which
are refused while a commit is pending. -/
def execEthWriteEntry (table : Fin 8) (pipe : Fin 16) (index : Fin 65536) (s : State) :
    Host.Outcome State Fault Refusal :=
  ok (s.gate R.ETH_CMD (fun s =>
    let e := s.ethData
    let w0 := e.getD 0 0
    if table = 0 then s.writeMac pipe e
    else if 4 < table.val then s.status R.ETH_STAT 3
    else if s.tab.pending.isSome then s.status R.ETH_STAT 2
    else if table = 1 then s.writeRoute false e
    else if table = 2 then s.writeRoute true e
    else if table = 3 then
      if w0.fld 29 28 ≠ 0 ∨ (e.getD 2 0).fld 31 10 ≠ 0 then s.status R.ETH_STAT 3
      else ({ s with tab := { s.tab with
        nhShadow := Tbl.put (fun _ => hopZero) s.tab.nhShadow index (e.take 3) } } : State).status R.ETH_STAT 0
    else if w0.fld 30 16 ≠ 0 ∨ 4096 ≤ index.val then s.status R.ETH_STAT 3
    else ({ s with tab := { s.tab with
      vlanShadow := Tbl.put (fun _ => 0) s.tab.vlanShadow index w0 } } : State).status R.ETH_STAT 0))

/-- An entry read into ETH.DATA_w; an absent key answers status 0x4. -/
def State.answerEth (s : State) (e : Option (List Word)) : State :=
  match e with
  | none => s.status R.ETH_STAT 4
  | some l => (s.wrWords (R.ETH_DATA 0) ((l ++ [0, 0, 0, 0, 0]).take 5)).status R.ETH_STAT 0

/-- The words of a MAC entry (R341). -/
def macWords (k : Nat) (m : MacEntry) : List Word :=
  [(((((0 : Word).setFld 31 31 1).setFld 30 30 (bit01 m.fixed)).setFld 27 16 (k / 2 ^ 48 % 4096))).setFld 15 0
      (k / 2 ^ 32), BitVec.ofNat 32 k, ((0 : Word).setFld 31 16 m.stamp).setFld 9 0 m.port]

/-- Reading an entry: of the tables with banks, from the given bank. -/
def State.ethRead (s : State) (table pipe index : Nat) (rt4 rt6 : Tbl (Option Nat)) (nh : Tbl (List Word))
    (vlan : Tbl Word) : State :=
  s.gate R.ETH_CMD (fun s =>
    let e := s.ethData
    let route (v6 : Bool) (t : Tbl (Option Nat)) : Option (List Word) :=
      (Tbl.get (fun _ => none) t (routeKeyOf v6 e)).map (fun h =>
        [(((0 : Word).setFld 31 31 1).setFld 23 16 ((e.getD 0 0).fld 23 16)).setFld 15 0 h] ++ (e.drop 1).take (if v6 then 4 else 1))
    if table = 0 then s.answerEth ((s.macAt (macKeyOf pipe e)).map (macWords (macKeyOf pipe e)))
    else if table = 1 then s.answerEth (route false rt4)
    else if table = 2 then s.answerEth (route true rt6)
    else if table = 3 then s.answerEth (some (Tbl.get (fun _ => hopZero) nh index))
    else if table = 4 ∧ index < 4096 then s.answerEth (some [Tbl.get (fun _ => 0) vlan index])
    else s.status R.ETH_STAT 3)

/-- ETH_READ_ENTRY (R340): OP 0b10, the shadow of a table with banks. -/
def execEthReadEntry (table : Fin 8) (pipe : Fin 16) (index : Fin 65536) (s : State) :
    Host.Outcome State Fault Refusal :=
  ok (s.ethRead table pipe index s.tab.rt4Shadow s.tab.rt6Shadow s.tab.nhShadow s.tab.vlanShadow)

/-- ETH_READ_ACTIVE (R340): OP 0b11, the active entry. -/
def execEthReadActive (table : Fin 8) (pipe : Fin 16) (index : Fin 65536) (s : State) :
    Host.Outcome State Fault Refusal :=
  ok (s.ethRead table pipe index s.tab.rt4Active s.tab.rt6Active s.tab.nhActive s.tab.vlanActive)

end Sys2Proof.Machine
end

