-- ==== Sys2Proof/Machine/I3c.lean ====
section
/-!
DEFINITION. The I3C target (21_connectors_electrical.md, R444 to R446): addresses, the common commands, the alert
enables and the wake command.
-/
namespace Sys2Proof.Machine

/-- The bytes of the target's answer number `what`, free values. -/
def State.i3cAnswer (s : State) (what n draw : Nat) : State :=
  if s.i3c.dyn.isSome then s.emit (.i3c ((List.range n).map (fun i => Config.i3cByte what i draw))) else s

/-- I3C_ENTDAA (R444): a target without a dynamic address takes the one that the controller gives. -/
def execI3cEntdaa (addr : Fin 128) (s : State) : Host.Outcome State Fault Refusal :=
  match s.i3c.dyn with
  | some _ => ok s
  | none => ok { s with i3c := { s.i3c with dyn := some addr } }

/-- I3C_SETDASA (R444): the controller gives a dynamic address to the target of a static address, which is 0x50.
(PRESUMED, log entry 150) -/
def execI3cSetdasa (static addr : Fin 128) (s : State) : Host.Outcome State Fault Refusal :=
  if static.val = 0x50 ∧ s.i3c.dyn.isNone then ok { s with i3c := { s.i3c with dyn := some addr } } else ok s

/-- I3C_RSTDAA (R444): the dynamic address is given up. -/
def execI3cRstdaa (s : State) : Host.Outcome State Fault Refusal := ok { s with i3c := { s.i3c with dyn := none } }

/-- I3C_GETPID (R444): the provisional ID, of 6 bytes. (DESIGN CHOICE, log entry 152) -/
def execI3cGetpid (s : State) : Host.Outcome State Fault Refusal := ok (s.i3cAnswer 0 6 0)

/-- I3C_GETBCR (R444): the bus characteristics register. -/
def execI3cGetbcr (s : State) : Host.Outcome State Fault Refusal := ok (s.i3cAnswer 1 1 0)

/-- I3C_GETDCR (R444): the device characteristics register. -/
def execI3cGetdcr (s : State) : Host.Outcome State Fault Refusal := ok (s.i3cAnswer 2 1 0)

/-- I3C_GETSTATUS (R444): the target's status, of 2 bytes. -/
def execI3cGetstatus (s : State) : Host.Outcome State Fault Refusal := ok (s.i3cAnswer 3 2 s.free).tick

/-- I3C_ENEC (R444): in-band interrupts are enabled. -/
def execI3cEnec (s : State) : Host.Outcome State Fault Refusal := ok { s with i3c := { s.i3c with ibi := true } }

/-- I3C_DISEC (R444): in-band interrupts are disabled. -/
def execI3cDisec (s : State) : Host.Outcome State Fault Refusal := ok { s with i3c := { s.i3c with ibi := false } }

/-- ALERT_EN_WRITE (R445): ALERT_EN is written, and ALERT_N follows; not acknowledged while PD01 is off. -/
def execAlertEnWrite (v : Fin 256) (s : State) : Host.Outcome State Fault Refusal :=
  if !s.on 1 then ok s else ok ({ s with i3c := { s.i3c with alertEn := v } } : State).alertStep

/-- I3C_WAKE (R446): M0 is requested and WAKE_S cleared; a module in M3 returns unless level 5 forces M3. Ignored while
RESET_N is low, and not acknowledged while PD01 is off. -/
def execI3cWake (s : State) : Host.Outcome State Fault Refusal :=
  if !s.on 1 ∨ s.boot.resetLow then ok s
  else ok (((s.setF R.PWR_MSTATE 31 30 0).setF R.PWR_MSTATE 15 0 0).applyForce 0)

end Sys2Proof.Machine
end

