-- ==== Sys2Proof/Machine/Ledger.lean ====
section
/-!
DEFINITION. The conservation ledger's identities (20_health_telemetry_maintenance.md, R418; R38, R127, R139, R144, R156,
R187, R296, R323): what is left over, at a snapshot, of each identity whose terms the model counts.
-/
namespace Sys2Proof.Machine

/-- Cells of a half by the packets that hold them, less the cells occupied in its banks: with free cells those that no bank
has occupied, the two sides of the cells identity (R107, R127). -/
def State.halfBalance (s : State) (h : Nat) : Int :=
  let mine (b : Nat) : Bool := b / 512 + 6 == h
  (((s.dp.cellBanks.map (fun x => (x.2.filter mine).length)).sum : Nat) : Int)
    - (((s.dp.banks.filter (fun x => mine x.1)).map (·.2)).sum : Nat)

/-- Receive credits of a leaf port and VC: cells received since training, with those that its reservation held then, less the
cells charged and the credits returned (R110, R323). -/
def State.rxBalance (s : State) (port v : Nat) : Int :=
  let l := s.link (port * 64)
  (l.rxCells.get v : Int) + (s.port port).rsv.get v - l.grant.get v - s.inCharged port v - l.retCells.get v

/-- Transmit credits of a link and VC: credits held and cells sent, less the grant and the credits received (R323). -/
def Link.txBalance (l : Link) (v : Nat) : Int :=
  (l.credits.get v : Int) + l.txCells.get v - l.granted.get v - l.gotCredits.get v

/-- Replay of a link: flits first sent less those acknowledged, voided and held (R323). -/
def Link.replayBalance (l : Link) : Int := (l.flitsSent : Int) - l.flitsAcked - l.flitsVoided - l.replay.length

/-- A crossing's three terms less D, while it is announced (R38). -/
def Crossing.balance (x : Crossing) (d : Nat) : Int :=
  if x.announced then (x.credits : Int) + x.entries + x.flight - d else 0

/-- The island of a crossing's producer (R407): the core end or the far end of a die link, traffic manager 0, PL17. -/
def crossingProducer (k : Nat) : Nat :=
  if k < 32 then (linkIslands k).getD 1 0 else if k < 64 then (linkIslands (k - 32)).headD 0 else if k < 96 then 32 else 23

/-- Blocks written less those read back, discarded and held in HBM (R127). -/
def State.spillBalance (s : State) : Int :=
  (s.dp.blocksWritten : Int) - s.dp.blocksRead - s.dp.blocksLost - ((s.dp.queues.map (fun x => hbmBlocksOf x.2)).sum : Nat)

/-- A bucket's tokens less what its terms make them since the previous snapshot (R139, R144). -/
def Bucket.balance (b : Bucket) : Int := b.tokens - (b.prev + b.added - b.charged - b.clipped + b.adjust)

/-- Replicas held: waiting at the replication unit, or charged to queues (R156). -/
def State.replicasHeld (s : State) : Nat :=
  s.dp.mcWait.length
    + (s.dp.queues.map (fun x => ((x.2.head ++ x.2.spill.flatMap (·.items) ++ x.2.tail).filter (fun it => it.charge == .replica)).length)).sum

/-- Unfinished replicas on the cells of multicast packets less the replicas held (R156). -/
def State.replicaBalance (s : State) : Int := ((s.dp.mcLive.map (·.left)).sum : Nat) - (s.replicasHeld : Int)

/-- The segments of the contexts that a Canvas island serves (R158). -/
def State.islandSegs (s : State) (i : Nat) : List Segment :=
  (s.canvas.ctxs.filter (fun x => x.1 % 4 == i)).flatMap (fun x => x.2.segs.map (·.2))

/-- Contributions delivered to a Canvas island less those folded, discarded, abandoned, cleared and held (R187). -/
def State.contribBalance (s : State) (i : Nat) : Int :=
  let t := s.cnvTerms i
  (t.delivered : Int) - t.folded - t.discarded - t.abandoned - t.cleared - (((s.islandSegs i).map (·.held.length)).sum : Nat)

/-- Arrival bits of an open segment less its contributions folded and held (R187). -/
def Segment.balance (g : Segment) : Int := if g.inWork then (g.arrived.length : Int) - g.count - g.held.length else 0

/-- Staging units free and held less 65,536 (R187). -/
def State.stagingBalance (s : State) : Int :=
  (s.canvas.staging : Int)
    + ((((List.range 4).flatMap s.islandSegs).map (fun g => (g.held.map (·.units)).sum)).sum : Nat) - 65536

/-- The eight counters of plane time, summed (R296). -/
def State.planeSum (s : State) : Nat :=
  ([C.OPT_DATA_NS, C.OPT_GUARD_NS, C.OPT_LOOP_NS, C.OPT_TAIL_NS, C.OPT_IDLE_NS, C.OPT_RETUNE_NS, C.OPT_DARK_NS, C.OPT_DOWN_NS].map
    (Tbl.get (fun _ => 0) s.cnt)).sum

/-- Growth of the counters since the last target less 64 times the time between, while PL16 counts (R296). -/
def State.planeBalance (s : State) : Int :=
  match s.tel.planeBase with
  | none => 0
  | some (n, t) =>
    if !s.on 5 || s.tel.isolated.contains (0x03, 16) then 0
    else (s.planeSum : Int) - n - 64 * (s.prism.nsAt - t : Nat)

/-- A die's account less what its terms make it since the previous snapshot (R234, R418). -/
def PalDie.balance (x : PalDie) : Int := x.account - (x.prev + x.added - x.spent + x.adjust)

/-- The unit that a shaper's violation isolates: the egress port, or PL17 for its destinations (R139). -/
def shaperUnit (egress : Nat) : Nat × Nat := if egress < 1088 then srcPort egress else (3, 17)

/-- Leaf ports that carry flits with credits. -/
def State.creditPorts (s : State) : List Nat :=
  (s.ports.filter (fun x => decide (x.1 < 1024) && x.2.trained_ && !x.2.eth)).map (·.1)

/-- What every identity leaves over (R418). Link credits (code 2) are checked through receive credits (R323); the BP pools and
the packets have no second count here, and balance by construction. -/
def State.balanceSheet (s : State) : List Balance :=
  let ports := s.creditPorts
  let at_ (code : Nat) (u : Nat × Nat) (d : Int) : Balance := ⟨code, u.1, u.2, d⟩
  ([6, 7].filter s.on).map (fun h => at_ 1 (5, h) (s.halfBalance h))
    ++ s.xings.map (fun x => at_ 3 (0x10, crossingProducer x.1) (x.2.balance (crossingDepth x.1)))
    ++ [at_ 4 (0x10, 111) s.spillBalance]
    ++ s.sched.shapers.map (fun x => at_ 6 (shaperUnit (x.1 / 16)) x.2.balance)
    ++ s.sched.police.map (fun x => at_ 7 (srcPort (x.1 / 16)) x.2.balance)
    ++ [at_ 8 (0x10, 37) s.replicaBalance]
    ++ (List.range 4).map (fun i => at_ 9 (0x10, 38 + i) (s.contribBalance i))
    ++ (List.range 4).flatMap (fun i => (s.islandSegs i).map (fun g => at_ 10 (0x10, 38 + i) g.balance))
    ++ [at_ 11 (0x10, 38) s.stagingBalance, at_ 12 (3, 16) s.planeBalance]
    ++ ports.flatMap (fun p => (List.range 4).map (fun v => at_ 13 (srcPort p) (s.rxBalance p v)))
    ++ ports.flatMap (fun p => (List.range 4).map (fun v => at_ 14 (srcPort p) ((s.link (p * 64)).txBalance v)))
    ++ ports.map (fun p => at_ 15 (srcPort p) (s.link (p * 64)).replayBalance)
    ++ (List.range 4).map (fun d => at_ 17 (0x12, d) (s.palDie d).balance)

/-- The identities that do not balance. -/
def State.imbalances (s : State) : List Balance := s.balanceSheet.filter (fun b => b.diff != 0)

end Sys2Proof.Machine
end

