-- ==== Sys2Proof/Machine/Tele.lean ====
section
/-!
DEFINITION. Loupe and the conservation ledger (20_health_telemetry_maintenance.md, R407 to R421): snapshot
targets, what a snapshot latches, its completion and publication, its record, and the isolation and release of
units. The identities are worked out from the module's own counts (Machine/Ledger.lean); what corrupts a term comes with
SNAPSHOT_COMPLETE.
-/
namespace Sys2Proof.Machine

/-! ## Targets (R412) -/

/-- The period in force in ns, 0 for none. -/
def State.snapPeriod (s : State) : Nat :=
  let p := s.fld R.TEL_SNAP_CTRL 15 0
  if p = 0 then 0 else max 500 p * 1000

/-- The least multiple of `p` at or above `t`. -/
def multipleFrom (p t : Nat) : Nat := (t + p - 1) / p * p

/-- The next periodic target, in ns of TB0. (DEDUCED, log entry 143) -/
def State.nextPeriodic (s : State) : Option Nat :=
  let p := s.snapPeriod
  if p = 0 then none
  else some (multipleFrom p (max (max s.tb0 (s.tel.periodicFrom + 2000)) ((s.tel.lastTarget.map (· + 1)).getD 0)))

/-- The smaller of a target and a list's. -/
def minTarget (a : Option Nat) (l : List Nat) : Option Nat :=
  l.foldl (fun m x => match m with | none => some x | some y => some (min x y)) a

/-- The next target of all. -/
def State.nextTarget (s : State) : Option Nat := minTarget s.nextPeriodic s.tel.req

/-- SNAPSHOT_REQUEST (R412): REQ requests the first whole microsecond that lies at least 2 µs ahead. -/
def execSnapshotRequest (s : State) : Host.Outcome State Fault Refusal :=
  ok (s.gate R.TEL_SNAP_CTRL (fun s =>
    let t := multipleFrom 1000 (s.tb0 + 2000)
    if s.tel.req.contains t then s else { s with tel := { s.tel with req := s.tel.req ++ [t] } }))

/-! ## Latching (R413, R415) -/

/-- The mask of domains that are on. -/
def State.onMask (s : State) : Nat := ((List.range 20).map (fun i => if s.on (i + 1) then 2 ^ i else 0)).foldl (· ||| ·) 0

/-- A number kept as two's complement in a register of 32 bits (R7). -/
def signedWord (x : Int) : Word := BitVec.ofNat 32 (fieldOfInt 32 x)

/-- Entries of a bank whose word 0 has its VALID bit 31 set (R82, R147, R158). -/
def validEntries (t : Tbl (List Word)) : Nat := (t.filter (fun x => (x.2.headD 0).bit 31)).length

/-- The COUNT fields that are not counters (R408): entries of the banks (R105, R157, R188), and held requests in use (R264). -/
def State.countFields (s : State) : List (Nat × Word) :=
  [(R.BUF_FWD_OVR_SHADOW, BitVec.ofNat 32 (validEntries s.tab.ovrShadow)),
   (R.BUF_FWD_OVR_ACTIVE, BitVec.ofNat 32 (validEntries s.tab.ovrActive)),
   (R.MCT_GRP_SHADOW, BitVec.ofNat 32 (validEntries s.tab.grpShadow)),
   (R.MCT_GRP_ACTIVE, BitVec.ofNat 32 (validEntries s.tab.grpActive)),
   (R.CNV_CTX_SHADOW, BitVec.ofNat 32 (validEntries s.canvas.shadow)),
   (R.CNV_CTX_ACTIVE, BitVec.ofNat 32 (s.canvas.ctxs.filter (fun x => (x.2.entry.headD 0).bit 31)).length),
   (R.MEM_HELD_STAT, BitVec.ofNat 32 (16 * (s.req.out.filter (fun r => r.held.isSome)).length))]

/-- The fields latched under a snapshot: SHP_TOK in whole bytes, rounded down, of the shapers of pipelines that are on
(R137), DIE_ACCOUNT (R234), and the COUNT fields that are not counters (R408). -/
def State.latchFields (s : State) : Tbl Word :=
  let t := s.countFields.foldl (fun (t : Tbl Word) x => Tbl.put regReset t x.1 x.2) []
  let t := s.sched.shapers.foldl (fun (t : Tbl Word) x =>
    Tbl.put regReset t (R.PL_SHP_TOK (x.1 / 16 / 64) (x.1 / 16 % 64) (x.1 % 16)) (signedWord (x.2.tokens / (tokUnit : Int)))) t
  (List.range 4).foldl (fun (t : Tbl Word) d => Tbl.put regReset t (R.PAL_DIE_ACCOUNT d) (signedWord (s.palDie d).account)) t

/-- What the islands latch at a target. -/
def State.latch (s : State) (t : Nat) : Snap :=
  { target := t, frac := s.tb0Frac, on := s.onMask, cnt := s.cnt,
    depth := (s.dp.queues.map (fun x => (x.1, x.2.occupancy))).filter (fun x => x.2 != 0),
    hwm := (s.dp.queues.map (fun x => (x.1, x.2.hwm))).filter (fun x => x.2 != 0),
    bases := ((List.range 23).map (fun k => (k, s.localBase k))).filter (fun x => x.2 != 0), fields := s.latchFields, attr := s.attrNow,
    xings := s.xings, ledger := s.imbalances, causes := s.tel.causes, seq := 0 }

/-- A bucket's terms of the ledger's identity begin anew at a snapshot (R139). (DEDUCED, log entry 48) -/
def Bucket.closeTerms (b : Bucket) : Bucket := { b with added := 0, charged := 0, clipped := 0, adjust := 0, prev := b.tokens }

/-- Shapers brought up to the present instant, and their terms latched and begun anew (R139, R413). -/
def State.settleShapers (s : State) : State :=
  forEach (fun k (s : State) =>
    let e := k / 16
    let i := k % 16
    if s.on (pipelineDomain (e / 64)) then s.setShaper e i (s.shaperNow e i) (s.wheelPos e i) else s) (Tbl.keys s.sched.shapers) s

/-- Buckets of policers that work brought up to the present instant (R144, R413). -/
def State.settlePolicers (s : State) : State :=
  forEach (fun k (s : State) =>
    let port := k / 16
    let tc := k / 2 % 8
    if s.on (pipelineDomain (port / 64)) ∧ s.fld (R.PL_POL_MODE (port / 64) (port % 64) tc) 31 31 = 1 then
      s.setPolBucket port tc (k % 2) (s.polNow port tc (k % 2))
    else s) (Tbl.keys s.sched.police) s

/-- A die's terms begun anew (R418). -/
def PalDie.closeTerms (x : PalDie) : PalDie := { x with prev := x.account, added := 0, spent := 0, adjust := 0 }

/-- The terms of every identity over the time between two snapshots begun anew: shapers, policers, dies, plane time. -/
def State.closeTerms (s : State) : State :=
  { s with
    sched := { s.sched with shapers := Tbl.remap (fun _ => shaperFull) Bucket.closeTerms s.sched.shapers,
                            police := Tbl.remap (fun _ => policeFull) Bucket.closeTerms s.sched.police },
    pal := { s.pal with dies := Tbl.remap (fun _ => PalDie.init) PalDie.closeTerms s.pal.dies },
    tel := { s.tel with planeBase := some (s.planeSum, s.prism.nsAt) } }

/-- Counters that grow with time brought up to the present instant (R211, R296). -/
def State.settleCounters (s : State) : State :=
  forEach (fun e (s : State) => s.accrue e) (List.range 8) s.accountPlanes.settleShapers.settlePolicers

/-- TB0 has reached target `t`: the snapshot is latched, or skipped while the previous one is not complete.
(DEDUCED, log entry 144) -/
def State.latchTarget (s : State) (t : Nat) : State :=
  let tel := { s.tel with req := s.tel.req.filter (· != t), lastTarget := some t }
  if s.tel.cur.isSome then ({ s with tel := { tel with skipped := true } } : State).bump C.TEL_SNAP_SKIPPED 1
  else ({ s with tel := { tel with cur := some (s.latch t), causes := [] } } : State).closeTerms

/-- SNAPSHOT_TARGET (R412 to R414): TB0 reaches the next target. While the previous snapshot is not complete the
target is skipped. -/
def execSnapshotTarget (s : State) : Host.Outcome State Fault Refusal :=
  if !s.on 2 then ok s
  else
    match s.nextTarget with
    | none => ok s
    | some t => ok (((s.reach (s.atTb0 t)).settleCounters).latchTarget t)

/-! ## Isolation (R419, R187) -/

/-- A Canvas island loses its contexts, which the fabric manager creates again. -/
def State.canvasIslandLost (s : State) (i : Nat) : State :=
  forEach (fun n (s : State) =>
    if n % 4 = i then
      let s := forEach (fun (x : Nat × Segment) (s : State) => s.freeContribs x.2.held) (s.ctx n).segs s
      s.setCtx n Ctx.init
    else s) (Tbl.keys s.canvas.ctxs) (s.noteTerms i (fun _ => CnvTerms.zero))

/-- An engine put OFFLINE by isolation; its level ramps down (R210). -/
def State.engineCut (s : State) (e : Nat) : State :=
  if (s.engine e).st = .off ∨ (s.engine e).st = .offline then s
  else ((((s.accrue e).engineLost e).rampDown e).setEngState e .offline).afterOffline e

/-- Multicast packets that wait at the replication unit are dropped under reason 0x0F. -/
def State.dropWaitingMcast (s : State) : State :=
  let ins := s.dp.mcIn
  let reps := s.dp.mcWait
  let s := { s with dp := { s.dp with mcIn := [], mcWait := [] } }
  let s := forEach (fun (m : McIn) (s : State) => s.dropItem drIsolation 0 m.item) ins s
  forEach (fun (w : Waiting) (s : State) =>
    let id := w.item.mcast.getD 0
    (({ s with dp := s.dp.replicaDone id } : State).countDrop w.item.port drIsolation).mcSettle id) reps s

/-- The Palette engines of a PE island or of a Palette scheduler. -/
def islandEngines (i : Nat) : List Nat :=
  if 42 ≤ i ∧ i ≤ 53 then
    let d := (i - 42) / 3
    if (i - 42) % 3 = 2 then [2 * d, 2 * d + 1] else [2 * d + (i - 42) % 3]
  else []

/-- The stacks of an HBM controller island. -/
def islandStacks (i : Nat) : List Nat :=
  if 54 ≤ i ∧ i ≤ 73 ∧ (i - 54) % 5 < 2 then
    (List.range 4).map (· + 8 * ((i - 54) / 5) + 4 * ((i - 54) % 5))
  else []

/-- An island is drained and held in reset: its consumers act as when its domain is off (R47, R419).
(DEDUCED, log entry 147) -/
def State.islandLost (s : State) (i : Nat) : State :=
  let s := s.shutIsland i
  match islandLink i with
  | some n => (s.dieLinkOff n).dieLinkLost n
  | none =>
    if i = 2 then s.hostDown false
    else if 6 ≤ i ∧ i ≤ 22 then forEach (fun p (s : State) => s.takeDown ((i - 6) * 64 + p) 8) (List.range 64) s
    else if i = 37 then s.dropWaitingMcast
    else if 38 ≤ i ∧ i ≤ 41 then s.canvasIslandLost (i - 38)
    else if !(islandEngines i).isEmpty then forEach (fun e (s : State) => s.engineCut e) (islandEngines i) s
    else if !(islandStacks i).isEmpty then
      let s := forEach (fun k (s : State) => if s.stackSt k = 0 ∨ s.stackSt k = 3 ∨ s.stackSt k = 4 then s else s.stackTo k 0)
        (islandStacks i) s
      (s.pagesLost false ((i - 54) / 5)).canvasDieLost ((i - 54) / 5)
    else if 54 ≤ i ∧ i ≤ 73 ∧ (i - 54) % 5 = 2 then { s with homes := s.homes.filter (fun x => x.1 != (i - 54) / 5) }
    else if i = 110 then forEach (fun k (s : State) => if s.cxlSt k = 0 then s else s.cxlDown k 0) (List.range 8) s
    else if i = 111 then s.discardSpill
    else s

/-- The port that KIND and INDEX name. -/
def portOfUnit (kind index : Nat) : Option Nat :=
  if kind = 1 ∧ index < 1024 then some index else if kind = 2 ∧ index < 64 then some (1024 + index) else none

/-- What the isolation of a unit does (R419). -/
def State.isolateEffect (s : State) (kind index : Nat) : State :=
  match portOfUnit kind index with
  | some p => s.portOff p
  | none =>
    if kind = 3 then
      if index < 16 then forEach (fun p (s : State) => s.portOff (index * 64 + p)) (List.range 64) s else s
    else if kind = 5 then s.addOp .off index false
    else if kind = 0x10 then s.islandLost index
    else if kind = 0x12 then
      forEach (fun e (s : State) =>
        let rel := match (s.engine e).run with | some r => r.pc | none => 0
        (s.listFail e stENGINE_FAULT rel).engineCut e) [2 * index, 2 * index + 1] s
    else s

/-- A unit isolated, once. -/
def State.isolate (s : State) (kind index : Nat) : State :=
  if s.tel.isolated.contains (kind, index) then s
  else
    let s := s.accountPlanes
    ({ s with tel := { s.tel with isolated := s.tel.isolated ++ [(kind, index)] } } : State).isolateEffect kind index

/-- Whether a unit is one that an identity's failure isolates (R418); islands 0 and 3 never are (R420).
(DEDUCED, log entry 49) -/
def unitFits (code kind index : Nat) : Bool :=
  if code = 1 then kind = 5 && (index = 6 || index = 7)
  else if code = 6 then (portOfUnit kind index).isSome || (kind = 3 && index = 17)
  else if code = 2 ∨ code = 7 ∨ (13 ≤ code ∧ code ≤ 15) then (portOfUnit kind index).isSome
  else if code = 3 then kind = 0x10 && index < 112 && index != 0 && index != 3
  else if code = 4 then kind = 0x10 && index = 111
  else if code = 5 then kind = 3 && index < 18
  else if code = 8 then kind = 0x10 && index = 37
  else if 9 ≤ code ∧ code ≤ 11 then kind = 0x10 && 38 ≤ index && index ≤ 41
  else if code = 12 ∨ code = 16 then kind = 3 && index = 16
  else if code = 17 then kind = 0x12 && index < 4
  else false

/-- A violation of the ledger (R418, R419): EV_LEDGER, and the unit is isolated; for code 16, and for code 5 of PL16, the BP
ports too. (DESIGN CHOICE, log entry 146) -/
def State.violate (s : State) (seq : Nat) (v : Balance) : State :=
  if !unitFits v.code v.kind v.index then s
  else
    let s := (s.setF R.TEL_LEDGER_UNIT 31 24 v.kind).setF R.TEL_LEDGER_UNIT 23 0 v.index
    let s := (s.setF R.TEL_LEDGER_STAT 31 24 v.code).bump C.TEL_LEDGER_FAILS 1
    let s := s.raise { code := 0x0901, sev := 3, kind := v.kind, index := v.index, arg0 := v.code, arg1 := fieldOfInt 32 v.diff, arg2 := seq }
    let s := s.isolate v.kind v.index
    if v.code = 16 ∨ v.code = 5 ∧ v.index = 16 then forEach (fun p (s : State) => s.isolate 2 p) (List.range 64) s else s

/-! ## Completion (R414 to R417, R420) -/

/-- A counter of every port of R409 summed in a snapshot: those with c in a range. -/
def Snap.sumPorts (c : Snap) (lo hi : Nat) : Nat :=
  ((c.cnt.filter (fun kn => decide (0x0A100000 ≤ kn.1 ∧ kn.1 < 0x0A100000 + 0x400 * 1094)
    && decide (lo ≤ (kn.1 - 0x0A100000) % 0x400 / 8 ∧ (kn.1 - 0x0A100000) % 0x400 / 8 ≤ hi))).map (·.2)).sum % 2 ^ 64

/-- The part with the highest published score: lowest KIND and INDEX first among equals; KIND 0 for none. -/
def State.worstPart (s : State) : Nat × Nat :=
  s.tel.parts.foldl (fun b x => if b.2 < x.2.score then (x.1, x.2.score) else b) (0, 0)

/-- Parts at 400 or above. -/
def State.watchUp (s : State) : Nat := (s.tel.parts.filter (fun x => decide (400 ≤ x.2.score))).length

/-- A telemetry record for a PHASE (R417). -/
def State.snapRecord (s : State) (c : Snap) (violated storage : Bool) (phase : Nat) : List Word :=
  let two (n : Nat) : List Word := [BitVec.ofNat 32 n, BitVec.ofNat 32 (n / 2 ^ 32)]
  let sec := c.target / 1000000000
  let flags := bit01 (!c.causes.isEmpty) + 2 * bit01 violated + 4 * bit01 s.tel.skipped + 8 * bit01 storage
  let w := s.worstPart
  [((0 : Word).setFld 31 24 1).setFld 0 0 phase, BitVec.ofNat 32 c.seq,
   ((0 : Word).setFld 31 16 flags).setFld 15 0 (sec / 2 ^ 32), BitVec.ofNat 32 sec, BitVec.ofNat 32 (c.target % 1000000000)]
  ++ two (c.sumPorts 0 0) ++ two (c.sumPorts 2 2) ++ two (c.sumPorts 33 54)
  ++ two (Tbl.get (fun _ => 0) c.cnt C.TEL_STALL_ATTR_NS)
  ++ [BitVec.ofNat 32 w.1, (((0 : Word).setFld 31 22 w.2).setFld 21 12 (min 1023 s.watchUp)).setFld 11 0 s.tel.isolated.length,
      BitVec.ofNat 32 c.on]

/-- The snapshot's record written, or counted as not delivered (R366, R375). -/
def State.deliverSnap (s : State) (c : Snap) (violated storage : Bool) : State :=
  let t := s
  if s.host.up ∧ s.auxRoom true then
    let s := s.writeAux true (t.snapRecord c violated storage)
    { s with tel := { s.tel with skipped := false } }
  else s.bump C.HLK_TEL_SKIPPED 1

/-- A snapshot published (R416), unless LOCK holds the published bank. -/
def State.publish (s : State) (c : Snap) : State :=
  if s.tel.lockEnd.isSome then { s with tel := { s.tel with newest := some c } }
  else { s with tel := { s.tel with pub := some c, newest := none } }

/-- A term of an identity that is corrupt, as the imbalance that it leaves. -/
def Violation.balance (v : Violation) : Balance := ⟨v.code, v.kind, v.index, v.diff.toInt⟩

/-- The violations that a snapshot finds (R415, R418): its own imbalances and those of corrupt terms, of units that the
ledger isolates; none in an inconsistent snapshot. -/
def Snap.violations (c : Snap) (fails : List Violation) : List Balance :=
  if c.causes.isEmpty then
    (c.ledger ++ fails.map Violation.balance).filter (fun v => unitFits v.code v.kind v.index && v.diff != 0)
  else []

/-- SNAPSHOT_COMPLETE (R414 to R420): the snapshot in progress takes its SEQ, is checked, published and recorded; it waits
while DL22 is down (R35). `fails`: terms that are corrupt, by what each leaves of its identity; `storage`: the ledger's
storage lost terms. -/
def execSnapshotComplete (fails : List Violation) (storage : Bool) (s : State) : Host.Outcome State Fault Refusal :=
  match s.tel.cur with
  | none => ok s
  | some c =>
    if !s.dieLinkUp 22 then ok s
    else
    let seq := (s.tel.seq + 1) % 2 ^ 32
    let c := { c with seq := seq }
    let s := { s with tel := { s.tel with cur := none, seq := seq } }
    let consistent := c.causes.isEmpty
    let l := c.violations fails
    let s := (s.publish c).deliverSnap c (!l.isEmpty) storage
    let s := if consistent then s else s.bump C.TEL_INCONSISTENT 1
    let s := forEach (fun (x : Nat × Option Nat) (s : State) =>
      s.raise { code := 0x0902, sev := 1, kind := if x.2.isSome then 0x10 else 0x0F, index := x.2.getD 0, arg0 := x.1 }) c.causes s
    let s := if storage then s.raise { code := 0x0902, sev := 1, kind := 0x10, index := 3, arg0 := 3 } else s
    ok (forEach (fun v (s : State) => s.violate seq v) l s)

/-! ## LOCK (R416) -/

/-- LOCK cleared: the newest completed snapshot is published. -/
def State.unlock (s : State) : State :=
  let t := s.tel
  let s := s.setF R.TEL_SNAP_CTRL 30 30 0
  match t.newest with
  | some c => { s with tel := { t with lockEnd := none, pub := some c, newest := none } }
  | none => { s with tel := { t with lockEnd := none } }

/-- SNAPSHOT_LOCK (R416): LOCK is set for 10 ms. -/
def execSnapshotLock (s : State) : Host.Outcome State Fault Refusal :=
  ok (s.gate R.TEL_SNAP_CTRL (fun s =>
    let s := s.setF R.TEL_SNAP_CTRL 30 30 1
    { s with tel := { s.tel with lockEnd := some (s.tel.lockEnd.getD (s.now + 10000000)) } }))

/-- SNAPSHOT_UNLOCK (R416). -/
def execSnapshotUnlock (s : State) : Host.Outcome State Fault Refusal :=
  ok (s.gate R.TEL_SNAP_CTRL State.unlock)

/-- SNAPSHOT_LOCK_EXPIRY (R416): LOCK clears itself 10 ms after it is set. -/
def execSnapshotLockExpiry (s : State) : Host.Outcome State Fault Refusal :=
  match s.tel.lockEnd with
  | none => ok s
  | some t => ok (s.reach t).unlock

/-! ## Release (R421, R435) -/

/-- Whether KIND and INDEX name a unit that can be isolated. -/
def unitKnown (kind index : Nat) : Bool :=
  (portOfUnit kind index).isSome || (kind = 3 && index < 18) || (kind = 5 && (index = 6 || index = 7))
    || (kind = 0x10 && index < 112) || (kind = 0x12 && index < 4)

/-- An engine that isolation put OFFLINE is scrubbed and comes back, unless its OFFLINE_REQ keeps it so. -/
def State.engineUncut (s : State) (e : Nat) : State :=
  if (s.engine e).st = .offline ∧ !s.engineHeld e then s.setEngine e { s.engine e with resetting := true } else s

/-- A die link trains again after its end was in reset. -/
def State.linkReturns (s : State) (n : Nat) : State :=
  if s.dieLinkUp n ∨ !s.on (dieLinkDomain n) ∨ (linkIslands n).any s.islandIsolated then s
  else
    let s := s.dieLinkOn n 0
    if n < 18 then forEach (fun p (s : State) => s.beginTraining p) ((domainPorts (dieLinkDomain n)).filter (fun p => engineOf p == n)) s
    else if n < 22 then
      (forEach (fun e (s : State) =>
        if (s.engine e).st = .faulted then s.setEngine e { s.engine e with resetting := true } else s)
        [2 * (n - 18), 2 * (n - 18) + 1] s).canvasEngines.reconsider
    else s.hostResume

/-- An island that was held in reset comes back by the handshake of R42. -/
def State.islandBack (s : State) (i : Nat) : State :=
  let s := s.openCrossings
  match islandLink i with
  | some n => s.linkReturns n
  | none =>
    if 6 ≤ i ∧ i ≤ 22 then forEach (fun p (s : State) => s.beginTraining ((i - 6) * 64 + p)) (List.range 64) s
    else if !(islandEngines i).isEmpty then forEach (fun e (s : State) => s.engineUncut e) (islandEngines i) s
    else if s.on (hbmDomain ((i - 54) / 5)) ∧ !(islandStacks i).isEmpty then
      forEach (fun k (s : State) => if s.stackSt k = 0 then s.stackTo k 1 else s) (islandStacks i) s
    else if i = 110 then
      forEach (fun k (s : State) =>
        if s.cxlSt k = 0 ∧ s.on 20 ∧ s.fld (R.CXL_PORT_CTRL k) 31 31 = 1 then State.startCxlAdd k s else s) (List.range 8) s
    else s

/-- The restart of a released unit (R421). -/
def State.releaseEffect (s : State) (kind index : Nat) : State :=
  match portOfUnit kind index with
  | some p => State.startPortReset p s
  | none =>
    if kind = 3 ∧ index < 16 then forEach (fun p (s : State) => State.startPortReset (index * 64 + p) s) (List.range 64) s
    else if kind = 5 then s.addOp .on index false
    else if kind = 0x10 then s.islandBack index
    else if kind = 0x12 then forEach (fun e (s : State) => s.engineUncut e) [2 * index, 2 * index + 1] s
    else s

/-- ISOLATION_RELEASE (R421, R435): RELEASE of TEL.ISO_CMD with KIND and INDEX. -/
def execIsolationRelease (kind : Fin 128) (index : Fin 16777216) (s : State) : Host.Outcome State Fault Refusal :=
  ok (s.gate R.TEL_ISO_CMD (fun s =>
    if !unitKnown kind index then s.status R.TEL_ISO_STAT 3
    else if !s.tel.isolated.contains (kind.val, index.val) then s.status R.TEL_ISO_STAT 4
    else
      let s := (s.accountPlanes).status R.TEL_ISO_STAT 0
      ({ s with tel := { s.tel with isolated := s.tel.isolated.filter (· != (kind.val, index.val)),
                                    planeBase := if kind.val = 3 ∧ index.val = 16 then none else s.tel.planeBase } } : State).releaseEffect
        kind index))

/-! ## Gauges (R410) -/

/-- QUEUE_HWM_CLEAR (R410): CLR sets a queue's high-water mark to its present occupancy. -/
def execQueueHwmClear (egress : Fin 1094) (tc : Fin 8) (s : State) : Host.Outcome State Fault Refusal :=
  ok (s.gate (R.TEL_QHWM egress tc) (fun s =>
    let q := s.queue (qKey egress tc)
    s.setQueue (qKey egress tc) { q with hwm := q.occupancy }))

end Sys2Proof.Machine
end

