-- ==== Sys2Proof/Machine/Health.lean ====
section
/-!
DEFINITION. Health (20_health_telemetry_maintenance.md, R422 to R428, R435): the scores of ports, lasers, stacks,
Palette engines and lane groups, the expulsion budget, actions and pins, and the weights that Easel derives from them
(04_forwarding_spraying_fences.md, R88, R90). Parts are named by KIND × 2^24 + INDEX (R372, R424).
-/
namespace Sys2Proof.Machine

/-! ## Parts -/

/-- A part's name. -/
def partKey (kind index : Nat) : Nat := kind * 2 ^ 24 + index
def partKind (k : Nat) : Nat := k / 2 ^ 24
def partIndex (k : Nat) : Nat := k % 2 ^ 24

/-- The parts that have a score. -/
def healthParts : List Nat :=
  (List.range 1024).map (partKey 1) ++ (List.range 64).map (partKey 2) ++ (List.range 8).map (partKey 6)
    ++ (List.range 8).flatMap (fun e => (List.range 17).map (fun g => partKey 6 (e + 256 * (g + 1))))
    ++ (List.range 32).map (partKey 9)
    ++ (List.range 18).flatMap (fun e => (List.range (allLasers e)).map (fun l => partKey 0x0B (e * 256 + l)))

/-- Whether KIND and INDEX name a part (R372, R424). -/
def partKnown (kind index : Nat) : Bool :=
  (portOfUnit kind index).isSome || (kind = 9 && index < 32)
    || (kind = 6 && index % 256 < 8 && index / 256 ≤ 17) || (kind = 0x0B && laserKnown (index / 256) (index % 256))

def State.part (s : State) (k : Nat) : Part := Tbl.get (fun _ => Part.init) s.tel.parts k
def State.setPart (s : State) (k : Nat) (x : Part) : State :=
  { s with tel := { s.tel with parts := Tbl.put (fun _ => Part.init) s.tel.parts k x } }

/-- The state of a published score (R424). -/
def healthState (score : Nat) : Nat := if score < 400 then 0 else if score < 700 then 1 else if score < 900 then 2 else 3

/-- The score that Easel applies (R425): a flagged or pinned part at no more than 699. -/
def Part.applied (x : Part) : Nat := if x.flagged ∨ x.pinEnd.isSome then min 699 x.score else x.score

/-- EV_HEALTH of a part (R428). -/
def State.healthEvent (s : State) (k cause arg2 : Nat) : State :=
  let x := s.part k
  s.raise { code := 0x0903, sev := 1, kind := partKind k, index := partIndex k,
            arg0 := x.score + x.st * 2 ^ 10 + bit01 x.flagged * 2 ^ 13 + bit01 x.pinEnd.isSome * 2 ^ 14, arg1 := cause, arg2 := arg2 }

/-! ## Inputs (R423) -/

/-- The counts that stand in registers and in the record of errors, by part key × 8 + input. -/
def State.healthInputs (s : State) : List (Nat × Nat) :=
  (List.range 1088).flatMap (fun p =>
    let k := partKey (srcPort p).1 (srcPort p).2 * 8
    let c (i : Nat) : Nat := s.count (C.PL_LINK_CNT (p / 64) (p % 64) i)
    [(k, c 1), (k + 1, c 3), (k + 2, c 5 - 1), (k + 3, c 6), (k + 4, s.count (C.TEL_PORT_CNT p 10))])
  ++ (List.range 8).flatMap (fun e =>
    [(partKey 6 e * 8, s.count (C.PAL_FAULT_STOPS e)), (partKey 6 e * 8 + 1, s.count (C.PAL_CORRECTED e))])
  ++ s.tel.errs

/-- What an input grew by since it was last seen; a counter that was cleared counts from zero. -/
def inputGrowth (seen : Tbl Nat) (x : Nat × Nat) : Nat × Nat :=
  let old := Tbl.get (fun _ => 0) seen x.1
  (x.1, if old ≤ x.2 then x.2 - old else x.2)

/-- One second of inputs added to the history of 600 s. -/
def State.noteInputs (s : State) : State :=
  let now := s.healthInputs
  let grown := (now.map (inputGrowth s.tel.seen)).filter (fun x => x.2 != 0)
  { s with tel := { s.tel with
      seen := now.foldl (fun t x => Tbl.put (fun _ => 0) t x.1 x.2) s.tel.seen,
      hist := (grown :: s.tel.hist).take 600 } }

/-- The counts of the last 600 s. -/
def sumHistory (h : List (Tbl Nat)) : Tbl Nat :=
  h.foldl (fun acc t => t.foldl (fun a x => Tbl.upd (fun _ => 0) a x.1 (· + x.2)) acc) []

/-- Points of 60 per °C above a limit, of a temperature in 0.1 °C. -/
def heatPoints (t limit : Int) : Nat := (6 * (t - limit)).toNat

/-- A part's raw score from its counts (R423). -/
def State.rawScore (s : State) (tot : Tbl Nat) (k : Nat) : Nat :=
  let n (i : Nat) : Nat := Tbl.get (fun _ => 0) tot (k * 8 + i)
  let kind := partKind k
  let i := partIndex k
  let sum :=
    match portOfUnit kind i with
    | some p => 2 * n 0 + n 1 / 10 + 150 * n 2 + 250 * n 3 + 10 * n 4
        + heatPoints (Tbl.get (fun _ => 250) s.pwr.siteTemps (engineOf p)) 650
    | none =>
      if kind = 0x0B then (s.laser (i / 256) (i % 256)).term
      else if kind = 9 then n 0 / 20 + 100 * n 1 + 50 * n 2 + heatPoints (Tbl.get (fun _ => 250) s.pwr.stackTemps (i / 8)) 850
      else if i < 256 then 300 * n 0 + n 1 / 20 + (4 * (100 - s.headroom (i / 2))).toNat
      else 450 * n 0 + n 1 / 2
  min 1000 sum

/-- The published score after an evaluation (R422): up at once, down by at most 10 points in any 60 s. -/
def Part.publish (x : Part) (raw now : Nat) : Part :=
  let falls := x.falls.filter (fun f => now < f.1 + 60000000000)
  let room := 10 - (falls.map (·.2)).sum
  let fall := min room (x.score - raw)
  { x with score := if x.score ≤ raw then raw else x.score - fall,
           falls := if raw < x.score ∧ 0 < fall then falls ++ [(now, fall)] else falls }

/-- A lane group at DRAIN is marked suspect (R424). -/
def State.markSuspect (s : State) (k : Nat) : State :=
  let i := partIndex k
  if partKind k = 6 ∧ 256 ≤ i then
    let e := i % 256
    let g := i / 256 - 1
    let x := s.engine e
    s.setEngine e { x with suspects := (g, s.now) :: x.suspects.filter (fun y => y.1 != g) }
  else s

/-- One part evaluated: its score and state published; below 700 it needs no action (R422, R424, R426).
(DEDUCED, log entry 148) -/
def State.evaluatePart (s : State) (tot : Tbl Nat) (k : Nat) : State :=
  let x := (s.part k).publish (s.rawScore tot k) s.now
  let st := healthState x.score
  let was := (s.part k).st
  let x := { x with st := st }
  let x := if x.score < 700 then { x with flagged := false, allowedAt := none, acted := false } else x
  let s := s.setPart k x
  let s := if st ≠ was then s.healthEvent k 0 0 else s
  if 2 ≤ st ∧ was < 2 ∧ x.pinEnd.isNone then s.markSuspect k else s

/-! ## Expulsions (R424 to R426) -/

/-- The score at which a part's action that takes it out of service is due. -/
def actionScore (k : Nat) : Nat :=
  if partKind k = 9 ∨ (partKind k = 6 ∧ 256 ≤ partIndex k) then 900 else 700

/-- Whether a part is in service, for its action to take out. -/
def State.partInService (s : State) (k : Nat) : Bool :=
  let i := partIndex k
  match portOfUnit (partKind k) i with
  | some p => (s.port p).st == .up
  | none =>
    if partKind k = 0x0B then
      let x := s.laser (i / 256) (i % 256)
      x.st == .inService && x.lane.isSome && (s.takeoverOf (i / 256) (i % 256)).isNone
    else if partKind k = 9 then s.stackSt i == 1
    else if i < 256 then
      (match (s.engine i).st with | .off | .offline => false | _ => true) && s.fld (R.PAL_ENG_CTRL i) 30 30 == 0
    else s.on (palDomain (i % 256 / 2)) && !(s.fld (R.PAL_LANE_RETIRE (i % 256)) 16 0).testBit (i / 256 - 1)

/-- Whether the spare that R424 requires exists. -/
def State.spareExists (s : State) (k : Nat) : Bool :=
  let i := partIndex k
  match portOfUnit (partKind k) i with
  | some p =>
    if p < 1024 then (s.members (s.bundleOf p)).any (· != p)
    else (List.range 64).any (fun q => 1024 + q != p && (s.port (1024 + q)).st == .up)
  | none =>
    if partKind k = 0x0B then (s.spareOf (i / 256)).isSome
    else if partKind k = 9 then
      decide (((List.range 8).filter (fun j => let st := s.stackSt (8 * (i / 8) + j); st == 3 || st == 4)).length < 2)
    else if i < 256 then
      (match (s.engine (i / 2 * 2 + 1 - i % 2)).st with | .parked | .faulted | .offline => false | _ => true)
    else s.fld (R.PAL_LANE_MAP (i % 256)) 31 27 != 0x1F

/-- Whether a part waits for its action to be allowed. -/
def State.wantsAction (s : State) (k : Nat) : Bool :=
  let x := s.part k
  decide (actionScore k ≤ x.score) && x.pinEnd.isNone && x.allowedAt.isNone && !x.acted && s.partInService k

/-- Parts that wait, highest score first, then lowest KIND and INDEX (R425). -/
def State.waitingParts (s : State) : List Nat :=
  (sortNat ((s.tel.parts.filter (fun kx => s.wantsAction kx.1)).map (fun kx => (1000 - kx.2.score) * 2 ^ 32 + kx.1))).map
    (· % 2 ^ 32)

/-- Expulsions of the last 3,600 s. -/
def State.expHour (s : State) : List Nat := s.tel.expulsions.filter (fun t => s.now < t + 3600000000000)

/-- Reservations held by allowed actions that have not started. -/
def State.reserved (s : State) : Nat := (s.tel.parts.filter (fun kx => kx.2.allowedAt.isSome)).length

/-- The action of a part starts: it counts as an expulsion (R424, R425). -/
def State.startAction (s : State) (k : Nat) : State :=
  let x := s.part k
  let i := partIndex k
  let s := s.setPart k { x with allowedAt := none, acted := true }
  let s := ({ s with tel := { s.tel with expulsions := s.expHour ++ [s.now] } } : State).bump C.TEL_EXPULSIONS 1
  let s := s.healthEvent k 5 0
  match portOfUnit (partKind k) i with
  | some p =>
    if s.fld (portCtrl p) 30 30 = 1 then s
    else (s.setF (portCtrl p) 30 30 1).requestMaint (.drain p) (State.startDrain p)
  | none =>
    if partKind k = 0x0B then s.requestMaint (.takeover (i / 256) (i % 256)) (State.startTakeover (i / 256) (i % 256))
    else if partKind k = 9 then s.retireBit i
    else if i < 256 then
      (s.setF (R.PAL_ENG_CTRL i) 30 30 1).requestMaint (.offline i) (State.startOffline i)
    else
      let e := i % 256
      let old := s.fld (R.PAL_LANE_RETIRE e) 16 0
      let new := old ||| 2 ^ (i / 256 - 1)
      (s.setF (R.PAL_LANE_RETIRE e) 16 0 new).laneBit e (i / 256 - 1) old new

/-- Whether an allowed action starts at once: a stack's, or any with no lease (R426, R435). -/
def State.startsAtOnce (s : State) (k : Nat) : Bool := partKind k = 9 || s.fld R.TEL_HEALTH_CFG 15 0 == 0

/-- A waiting part is allowed its action, its budget reserved, or is flagged (R425). -/
def State.allowPart (s : State) (k : Nat) : State :=
  let x := s.part k
  if s.expHour.length + s.reserved < s.fld R.TEL_HEALTH_CFG 31 28 ∧ s.spareExists k then
    let s := s.setPart k { x with flagged := false, allowedAt := some s.now }
    if s.startsAtOnce k then s.startAction k else s
  else if x.flagged then s
  else (s.setPart k { x with flagged := true }).healthEvent k 1 0

/-- HEALTH_EVALUATE (R422 to R426): once per second, not sooner than 1 s after the last, every part is scored, its state published, and waiting parts are
allowed or flagged. `fec`: FEC codewords corrected and uncorrected per port since the last evaluation, which the
port's counters gain (R326). -/
def execHealthEvaluate (fec : List (Fin 1088 × Nat × Nat)) (s : State) : Host.Outcome State Fault Refusal :=
  if !s.on 2 then ok s
  else
    let s := forEach (fun (x : Fin 1088 × Nat × Nat) (s : State) =>
      let p := x.1.val
      if s.on (portDomain p) then (s.bump (C.PL_LINK_CNT (p / 64) (p % 64) 0) x.2.1).bump (C.PL_LINK_CNT (p / 64) (p % 64) 1) x.2.2
      else s) fec s
    let s := s.reach (s.tel.evalAt + 1000000000)
    let s := { s with tel := { s.tel with evalAt := s.now } }.noteInputs
    let tot := sumHistory s.tel.hist
    let s := forEach (fun k (s : State) => s.evaluatePart tot k) healthParts s
    let s := { s with tel := { s.tel with expulsions := s.expHour } }
    ok (forEach (fun k (s : State) => s.allowPart k) s.waitingParts s)

/-- Whether the boundary of a part has come since its action was allowed (R426). (DEDUCED, log entry 40) -/
def State.atBoundary (s : State) (k since : Nat) : Bool :=
  let i := partIndex k
  let from_ : Int := (since : Int) + s.clk.tb0Off
  let epoch : Bool := match s.tab.lastEpoch with | some t => decide (from_ ≤ t ∧ t ≤ s.tb0) | none => false
  let pattern : Bool := match s.prism.lastAt with | some t => decide (from_ ≤ t ∧ t ≤ s.tb0) | none => false
  if partKind k = 6 then
    if i < 256 then (s.engine i).run.isNone else !(s.engine (i % 256)).executing
  else epoch || pattern

/-- HEALTH_ACTION_START (R426): an allowed action starts at its part's boundary, or at the end of the lease. -/
def execHealthActionStart (kind : Fin 256) (index : Fin 16777216) (s : State) : Host.Outcome State Fault Refusal :=
  let k := partKey kind index
  match (s.part k).allowedAt with
  | none => ok s
  | some t =>
    if (s.part k).score < 700 then ok (s.setPart k { s.part k with allowedAt := none })
    else if s.atBoundary k t then ok (s.startAction k)
    else ok ((s.reach (t + s.fld R.TEL_HEALTH_CFG 15 0 * 1000000)).startAction k)

/-! ## Pins and reads (R427, R435) -/

/-- Seconds that a pin still has, rounded up. -/
def Part.pinLeft (x : Part) (now : Nat) : Nat :=
  match x.pinEnd with
  | none => 0
  | some t => (t - now + 999999999) / 1000000000

/-- A pin ends: the part's actions resume (R427). -/
def State.unpin (s : State) (k cause : Nat) : State :=
  if (s.part k).pinEnd.isSome then
    let s := (s.setPart k { s.part k with pinEnd := none }).healthEvent k cause 0
    if 2 ≤ (s.part k).st then s.markSuspect k else s
  else s

/-- HEALTH_READ (R435): OP 0b01 of TEL.HEALTH_CMD. -/
def execHealthRead (kind : Fin 256) (index : Fin 65536) (s : State) : Host.Outcome State Fault Refusal :=
  ok (s.gate R.TEL_HEALTH_CMD (fun s =>
    if !partKnown kind index then s.status R.TEL_HEALTH_STAT 3
    else
      let x := s.part (partKey kind index)
      let w0 := ((((((0 : Word).setFld 31 22 x.score).setFld 21 19 x.st).setFld 18 18 (bit01 x.flagged)).setFld 17 17
        (bit01 x.pinEnd.isSome)).setFld 16 16 (bit01 x.acted)).setFld 11 0 (x.pinLeft s.now)
      ((s.wr R.TEL_HEALTH_DATA_0 w0).wr R.TEL_HEALTH_DATA_1 ((0 : Word).setFld 31 22 x.applied)).status R.TEL_HEALTH_STAT 0))

/-- HEALTH_PIN (R427, R435): OP 0b10 pins a part alive for PIN_S, at most PIN_MAX_S; zero unpins. Its allowed action
gives its reservation back. -/
def execHealthPin (kind : Fin 256) (index : Fin 65536) (s : State) : Host.Outcome State Fault Refusal :=
  ok (s.gate R.TEL_HEALTH_CMD (fun s =>
    let k := partKey kind index
    let n := s.fld R.TEL_HEALTH_PIN_S 11 0
    let lim := min 3600 (s.fld R.TEL_HEALTH_CFG 27 16)
    if !partKnown kind index then s.status R.TEL_HEALTH_STAT 3
    else if n = 0 then (s.unpin k 4).status R.TEL_HEALTH_STAT 0
    else if lim < n then s.status R.TEL_HEALTH_STAT 5
    else ((s.setPart k { s.part k with pinEnd := some (s.now + n * 1000000000), allowedAt := none }).healthEvent k 2 n).status
      R.TEL_HEALTH_STAT 0))

/-- HEALTH_UNPIN (R427, R435): OP 0b11. -/
def execHealthUnpin (kind : Fin 256) (index : Fin 65536) (s : State) : Host.Outcome State Fault Refusal :=
  ok (s.gate R.TEL_HEALTH_CMD (fun s =>
    if !partKnown kind index then s.status R.TEL_HEALTH_STAT 3
    else (s.unpin (partKey kind index) 4).status R.TEL_HEALTH_STAT 0))

/-- HEALTH_PIN_EXPIRY (R427): a part's pin ends by itself. -/
def execHealthPinExpiry (kind : Fin 256) (index : Fin 16777216) (s : State) : Host.Outcome State Fault Refusal :=
  let k := partKey kind index
  match (s.part k).pinEnd with
  | none => ok s
  | some t => ok ((s.reach t).unpin k 3)

/-! ## Easel's weights (R88, R90) -/

/-- The weight of a path by its condition and applied score (R88); none for a port that is not in service. -/
def State.easelWeight (s : State) (port : Nat) : Option Nat :=
  let p := s.port port
  let score := (s.part (partKey (srcPort port).1 (srcPort port).2)).applied
  if p.st = .draining then some 0
  else if p.st ≠ .up then none
  else if 700 ≤ score then some 0
  else
    let w := if p.lanesUp = 3 then 8 else 4
    some (if 400 ≤ score then w / 2 else w)

/-- A change between non-zero weights at most doubles or halves (R88). -/
def stepWeight (was want : Nat) : Nat :=
  if was = 0 ∨ want = 0 then want else if was < want then min want (2 * was) else max want (was / 2)

/-- EASEL_WEIGHT_UPDATE (R88): while EASEL_OWNS is 1 Easel writes a path's W_BASE, at most once per 100 µs but for a
zero, which takes effect at once and moves every bucket pinned to the path. -/
def execEaselWeightUpdate (port : Fin 1088) (s : State) : Host.Outcome State Fault Refusal :=
  match s.easelWeight port with
  | none => ok s
  | some want =>
    let was := s.wBase port
    let due := want = 0 ∨ Tbl.get (fun _ => 0) s.dp.weightAt port + 100000 ≤ s.now
      ∨ Tbl.get (fun _ => 0) s.dp.weightAt port = 0
    if s.fld R.BUF_FWD_SPRAY_CTRL 31 31 = 0 ∨ !s.on (portDomain port) ∨ was = want ∨ ¬ due then ok s
    else
      let s := s.setF (R.PL_PATH_WEIGHT (port / 64) (port % 64)) 3 0 (stepWeight was want)
      let s := { s with dp := { s.dp with weightAt := Tbl.put (fun _ => 0) s.dp.weightAt port s.now } }
      ok (if want = 0 then s.moveOffPort port else if was = 0 then s.reconsider else s)

/-- Whether a port may take buckets of a bundle: a member in service with a non-zero W_BASE. -/
def State.takesBuckets (s : State) (uid port : Nat) : Bool := (s.members uid).contains port && s.wBase port != 0

/-- EASEL_REBALANCE (R88, R90): Easel moves up to 4 buckets of a bundle to other members, at most once per 100 µs and
only while no other move of the bundle runs. `moves`: bucket and port, which the spec leaves to Easel. -/
def execEaselRebalance (uid : Word) (moves : List (Fin 64 × Fin 1024)) (s : State) : Host.Outcome State Fault Refusal :=
  let u := uid.toNat
  let b := s.bundle u
  let soon : Bool := match b.lastRebalance with | some t => decide (s.now < t + 100000) | none => false
  let fits (m : Fin 64 × Fin 1024) : Bool :=
    s.takesBuckets u m.2 && (match b.map[m.1.val]? with | some (.member p) => p != m.2.val | _ => false)
  if s.fld R.BUF_FWD_SPRAY_CTRL 31 31 = 0 ∨ 4 < moves.length ∨ !moves.all fits ∨ soon
      ∨ s.dp.moves.any (fun m => m.bundle == u) then ok s
  else
    let s := s.setBundle u { b with lastRebalance := some s.now }
    ok (forEach (fun (m : Fin 64 × Fin 1024) (s : State) =>
      match (State.bundle s u).map[m.1.val]? with
      | some old => s.startMove u m.1 old (.member m.2) none
      | none => s) moves s)

end Sys2Proof.Machine
end

