-- ==== Sys2Proof/Machine/Service.lean ====
section
/-!
DEFINITION. What runs under maintenance locks (20_health_telemetry_maintenance.md, R431, R432), the handshake of
crossings (02, R42), and the table epoch (04, R100 to R103).
-/
namespace Sys2Proof.Machine

/-! ## Grants (R431) -/

/-- A hot update has its locks (R432). (DEDUCED, log entry 149) -/
def State.startUcode (island slot : Nat) (s : State) : State :=
  { s with tel := { s.tel with update := some ⟨island, slot, none, none⟩ } }

/-- An activity starts once it has its locks. -/
def State.startActivity (a : Activity) (s : State) : State :=
  match a with
  | .drain p => State.startDrain p s
  | .retrain p => State.startRetrain p s
  | .portReset p => State.startPortReset p s
  | .takeover e l => State.startTakeover e l s
  | .offline e => State.startOffline e s
  | .resume e => State.startResume e s
  | .lanes _ _ _ => s
  | .stack k => State.startStack k s
  | .cxlAdd k => State.startCxlAdd k s
  | .cxlRemove k => State.startCxlRemove k s
  | .ucode i slot => State.startUcode i slot s
  | .flash slot erase =>
    if erase then State.startErase slot s
    else State.startProgram slot (match s.boot.program with | some x => x.2 | none => 0) s
  | .domain n act => State.startDomainOp n act s

/-- MAINT_LOCK_GRANT (R431): the first waiting activity that conflicts with none before it is granted all its locks and
starts. -/
def execMaintLockGrant (s : State) : Host.Outcome State Fault Refusal :=
  match firstGrantable [] s.maint with
  | none => ok s
  | some (a, l) => ok (State.startActivity a (({ s with maint := l } : State).maintEvent a 1))

/-! ## Hot update (R432) -/

/-- TEL.UCODE_STAT with BUSY, CHECK and STATUS. -/
def State.ucodeStat (s : State) (busy check st : Nat) : State :=
  s.wr R.TEL_UCODE_STAT ((((0 : Word).setFld 31 31 busy).setFld 15 8 check).setFld 3 0 st)

/-- UCODE_UPDATE (R432): GO of TEL.UCODE_CMD, behind its locks; island 0 and numbers above 111 are no island. -/
def execUcodeUpdate (island : Fin 128) (slot : Fin 2) (s : State) : Host.Outcome State Fault Refusal :=
  ok (s.gate R.TEL_UCODE_CMD (fun s =>
    if s.fld R.TEL_UCODE_STAT 31 31 = 1 then s.status R.TEL_UCODE_STAT 2
    else if island.val = 0 ∨ 112 ≤ island.val then s.status R.TEL_UCODE_STAT 3
    else (s.ucodeStat 1 0 2).requestMaint (.ucode island slot) (State.startUcode island slot)))

/-- A hot update ends. -/
def State.endUcode (s : State) (u : Update) (check st : Nat) : State :=
  let s := { s with tel := { s.tel with update := none } }
  (s.ucodeStat 0 check st).endMaint (.ucode u.island u.slot) (if st = 0 then 2 else 3)

/-- The phases of the hot update that runs. -/
def State.setUpdate (s : State) (u : Update) : State := { s with tel := { s.tel with update := some u } }

/-- The banks of an island are swapped and it restarts, its producers without credits (R42, R432 step 4). -/
def State.swapBanks (s : State) (u : Update) : State :=
  (s.setUpdate { u with drainEnd := none, swapped := some s.now }).shutIsland u.island

/-- The island's crossings are empty, or its drain window expires and what is left is discarded with the drain-timeout event
(R46 step 2, R48, R432 step 3). -/
def State.endIslandDrain (s : State) (u : Update) (until_ : Nat) : State :=
  let l := s.islandEntries u.island
  if l.isEmpty then s.swapBanks u
  else
    let s := (s.reach until_).discardItems l (u.island = 111)
    (s.raise { code := 0x0105, sev := 1, kind := 0x10, index := u.island, arg0 := l.length }).swapBanks u

/-- UCODE_LOAD_DONE (R48, R432 steps 2 to 4): the slot is checked and the microcode loaded; producers stop and the island's
crossings drain, at once when they are empty, else until the next UCODE_LOAD_DONE finds them empty or the window of 100 µs
over; then the banks are swapped and the island restarts. -/
def execUcodeLoadDone (c : ImageCheck) (s : State) : Host.Outcome State Fault Refusal :=
  match s.tel.update with
  | none => ok s
  | some u =>
    match u.swapped, u.drainEnd with
    | some _, _ => ok s
    | none, some t => ok (s.endIslandDrain u t)
    | none, none =>
      let code := if s.boot.erased u.slot then 0x07 else s.boot.checkImage c none
      if code ≠ 0 then ok (s.endUcode u code 5)
      else if (s.islandEntries u.island).isEmpty then ok (s.swapBanks u)
      else ok (s.setUpdate { u with drainEnd := some (s.now + 100000) })

/-- UCODE_ANNOUNCE_TIMEOUT (R432 step 5): no announcement within 10 µs: the banks are swapped back and the island
restarts on the old microcode. -/
def execUcodeAnnounceTimeout (s : State) : Host.Outcome State Fault Refusal :=
  match s.tel.update with
  | none => ok s
  | some u =>
    match u.swapped with
    | none => ok s
    | some t => ok (((s.reach (t + 10000)).endUcode u 0 5).openIsland u.island)

/-- CREDIT_ANNOUNCE (R42, R432): the consumer of an island's crossings announces D after its reset, and the producer
loads its credits; it completes the hot update that waits for it, which is measured (R403). -/
def execCreditAnnounce (island : Fin 112) (s : State) : Host.Outcome State Fault Refusal :=
  if !s.on (islandDomain island) ∨ s.islandIsolated island then ok s
  else
    match s.tel.update with
    | none => ok (s.openIsland island)
    | some u =>
      if u.island ≠ island.val then ok (s.openIsland island)
      else if u.swapped.isSome then
        let s := (s.bump C.TEL_UCODE_SWAPS 1).measure 6 (Config.measure 6 u.island u.slot 0)
        ok ((s.endUcode u 0 0).openIsland island)
      else ok s

/-! ## The epoch (R100 to R103) -/

/-- Every table switches to its shadow bank, and a new generation starts (R100). -/
def Tables.switch (t : Tables) (e : Nat) : Tables :=
  { t with leafActive := t.leafShadow, ovrActive := t.ovrShadow, grpActive := t.grpShadow, rt4Active := t.rt4Shadow,
           rt6Active := t.rt6Shadow, nhActive := t.nhShadow, vlanActive := t.vlanShadow,
           gen := (t.gen + 1) % 2 ^ 32, pending := none, requested := 0, copying := true, lastEpoch := some e }

/-- The generation event (R103): the generation and its epoch. -/
def State.genEvent (s : State) (e : Nat) : State :=
  s.raise (modEv 0x0202 0 s.tab.gen (e / 1000000000 % 2 ^ 32) (e % 1000000000))

/-- The first generation after a return: the ready message on each port in service, and what waited for it to originate
requests goes on (R23, R30). -/
def State.firstGeneration (s : State) : State :=
  if !s.tab.ready && s.assigned then
    let s := forEach (fun p (s : State) => s.sendReady p) s.portsUp { s with tab := { s.tab with ready := true } }
    forEach (fun r (s : State) => s.sendMore r) (List.range 16) s
  else s

/-- EPOCH_REACHED (R101 to R103): TB0 reaches the epoch of the pending commit: the forwarding, group, context, pattern
and Ethernet tables take effect, the ready message goes out with the first generation after a return (R30), and
packets held for want of a path are looked up again (R123). -/
def execEpochReached (s : State) : Host.Outcome State Fault Refusal :=
  match s.tab.pending with
  | none => ok s
  | some e =>
    let s := s.reach (s.atTb0 e)
    let s := { s with tab := s.tab.switch e, prism := { s.prism with patActive := s.prism.patShadow } }
    let s := (s.canvasEpoch s.tab.gen).genEvent e
    ok (s.firstGeneration).reconsider

end Sys2Proof.Machine
end

