-- ==== Sys2Proof/Machine/Regs.lean ====
section
/-!
DEFINITION. The setup window (00_scope.md, R8 to R12, R448): a host write of any register by its offset. A register with
no behaviour of its own stores the fields as their access types state; a write of one that has a behaviour does what the
command of that behaviour does.
-/
namespace Sys2Proof.Machine

/-- The state after a command that always completes. -/
def State.after (s : State) (f : State → Host.Outcome State Fault Refusal) : State :=
  match f s with
  | .next t => t
  | _ => s

/-- The n-th index of a register. -/
def ixAt (ix : List Nat) (n : Nat) : Nat := ix.getD n 0

/-- A write in the GLB and PWR windows. -/
def writeGlb (base off : Nat) (w : Word) (s : State) : State :=
  if base = R.GLB_FABRIC_ID then s.after (execFabricIdWrite w)
  else if base = R.GLB_RST_CMD then
    (match w.fld 31 30 with
     | 1 => s.after execWarmResetRequest
     | 2 => s.after (execDomainResetRequest (Fin.ofNat 32 (w.fld 4 0)))
     | 3 => s.rstStatus 3
     | _ => s)
  else if base = R.GLB_HOST_IMG_CTL then
    let len := Fin.ofNat 67108864 (w.fld 25 0)
    if w.bit 31 then s.after (execHostImageGo len) else s.store off w
  else if base = R.GLB_FLASH_CMD then
    (match w.fld 31 30 with
     | 1 => s.after (execFlashProgram (Fin.ofNat 2 (w.fld 29 29)) (Fin.ofNat 67108864 (w.fld 25 0)))
     | 2 => s.after (execFlashErase (Fin.ofNat 2 (w.fld 29 29)))
     | 3 => if s.fld R.GLB_FLASH_STAT 31 31 = 1 then s.flashStatus 2 else s.flashStatus 3
     | _ => s)
  else if base = R.GLB_SEC_CMD then
    (match w.fld 31 30 with
     | 1 => s.after execSecRaiseMinSvn
     | 2 => (s.after (execSecBurnOwnerHash ((List.range 32).map (Config.hostByte s.free)))).tick
     | 3 => s.secStatus 3
     | _ => s)
  else if base = R.GLB_ATT_CMD then
    (match w.fld 31 30 with
     | 1 => s.after execAttestReport
     | 2 => s.after (execAttestReadEntry (Fin.ofNat 256 (w.fld 7 0)))
     | 3 => s.after execAttestWritePubkey
     | _ => s)
  else if base = R.PWR_SUPPLY_LOG then (if w.bit 31 then s.after execSupplyLogClear else s)
  else if base = R.PWR_BUDGET ∨ base = R.PWR_DIE_WEIGHT then (s.store off w).cutBudgets
  else if base = R.PWR_MSTATE then s.after (execMstateRequest (Fin.ofNat 4 (w.fld 31 30)) (Fin.ofNat 65536 (w.fld 15 0)))
  else if base = R.PWR_DOM_CMD then
    let n := Fin.ofNat 32 (w.fld 4 0)
    (match w.fld 31 30 with
     | 1 => s.after (execDomainOn n)
     | 2 => s.after (execDomainRetention n)
     | 3 => s.after (execDomainOff n)
     | _ => s)
  else s.store off w

/-- A write in the TIM and HLK windows. -/
def writeHub (base : Nat) (ix : List Nat) (off : Nat) (w : Word) (s : State) : State :=
  if base = R.TIM_SET_CMD then (if w.bit 31 then s.after execTimeSet else s)
  else if base = R.HLK_CR_CFG 0 then
    let r := Fin.ofNat 16 (ixAt ix 0)
    if w.bit 31 then s.after (execHostRingEnable r w) else s.after (execHostRingDisable r w)
  else if base = R.HLK_EV_CFG then s.after (execAuxRingEnable false w)
  else if base = R.HLK_TL_CFG then s.after (execAuxRingEnable true w)
  else s.store off w

/-- A write of PLn.PORT_CTRL_p: EN and LANE_MASK where they change, DRAIN set or cleared, RETRAIN, PRESET (R326).
(DESIGN CHOICE, log entry 15) -/
def writePortCtrl (port : Nat) (w : Word) (s : State) : State :=
  let p := Fin.ofNat 1088 port
  let old := s.rd (portCtrl port)
  let s := if old.fld 31 31 = w.fld 31 31 then s else s.after (execPortEnableWrite p (w.bit 31))
  let s := if old.fld 1 0 = w.fld 1 0 then s else s.after (execLaneMaskWrite p (Fin.ofNat 4 (w.fld 1 0)))
  let s := if old.fld 30 30 = w.fld 30 30 then s else if w.bit 30 then s.after (execPortDrain p) else s.after (execPortUndrain p)
  let s := if w.bit 29 then s.after (execPortRetrain p) else s
  if w.bit 28 then s.after (execPortReset p) else s

/-- A write in the pipelines' windows. -/
def writePl (base : Nat) (ix : List Nat) (off : Nat) (w : Word) (s : State) : State :=
  let port := 64 * ixAt ix 0 + ixAt ix 1
  if base = R.PL_PATH_WEIGHT 0 0 then s.after (execPathWeightWrite (Fin.ofNat 1088 port) w)
  else if base = R.PL_SHP 0 0 0 then s.after (execShaperWrite (Fin.ofNat 1094 port) (Fin.ofNat 9 (ixAt ix 2)) w)
  else if base = R.PL_SHP17 0 0 then s.after (execShaperWrite (Fin.ofNat 1094 (1088 + ixAt ix 0)) (Fin.ofNat 9 (ixAt ix 1)) w)
  else if base = R.PL_POL_C 0 0 0 then
    s.after (execPolicerBucketWrite (Fin.ofNat 1088 port) (Fin.ofNat 8 (ixAt ix 2)) false w)
  else if base = R.PL_POL_P 0 0 0 then
    s.after (execPolicerBucketWrite (Fin.ofNat 1088 port) (Fin.ofNat 8 (ixAt ix 2)) true w)
  else if base = R.PL_POL_MODE 0 0 0 then s.polModeWrite port (ixAt ix 2) off w
  else if base = R.PL_PORT_CTRL 0 0 then writePortCtrl port w s
  else s.store off w

/-- A write in the BUF window. -/
def writeBuf (base : Nat) (ix : List Nat) (off : Nat) (w : Word) (s : State) : State :=
  if base = R.BUF_FWD_CMD then
    let i := Fin.ofNat 4096 (w.fld 11 0)
    (match w.fld 31 30 with
     | 1 => s.after (execFwdWriteShadow (w.bit 24) i)
     | 2 => s.after (execFwdReadShadow (w.bit 24) i)
     | 3 => s.after (execFwdReadActive (w.bit 24) i)
     | _ => s)
  else if base = R.BUF_FWD_GEN_CTRL then
    (if w.bit 31 then s.after (execFwdCommit (Fin.ofNat 65536 (w.fld 15 0))) else s.store off w)
  else if base = R.BUF_IN_RSV then s.after (execReservationWrite .inRsv w)
  else if base = R.BUF_PL17_RSV then s.after (execReservationWrite .pl17Rsv w)
  else if base = R.BUF_TC_CFG 0 then s.after (execReservationWrite (.tcCfg (Fin.ofNat 8 (ixAt ix 0))) w)
  else if base = R.BUF_NOPATH_CTRL then s.after (execReservationWrite .nopathCtrl w)
  else if base = R.BUF_MARK 0 then s.after (execMarkThresholdWrite (Fin.ofNat 8 (ixAt ix 0)) w)
  else s.store off w

/-- A write in the MCT and CNV windows. -/
def writeMct (base off : Nat) (w : Word) (s : State) : State :=
  if base = R.MCT_CMD then
    let g := Fin.ofNat 65536 (w.fld 15 0)
    (match w.fld 31 30 with
     | 1 => s.after (execMctWriteShadow g)
     | 2 => s.after (execMctReadShadow g)
     | 3 => s.after (execMctReadActive g)
     | _ => s)
  else if base = R.CNV_CMD then
    let n := Fin.ofNat 16384 (w.fld 13 0)
    (match w.fld 31 29 with
     | 0 => s
     | 1 => s.after (execCnvWriteShadow n)
     | 2 => s.after (execCnvReadShadow n)
     | 3 => s.after (execCnvReadActive n)
     | 4 => s.after (execCnvReadStatus n)
     | 5 => s.after (execCnvForce n)
     | _ => s.status R.CNV_STAT 3)
  else s.store off w

/-- A write of PAL.ENG_CTRL: FILLER_EN and KEEP_NS, the requests where they change, RESUME (R207, R215). -/
def writeEngCtrl (i off : Nat) (w : Word) (s : State) : State :=
  let e := Fin.ofNat 8 i
  let old := s.rd off
  let s := ((s.setF off 28 28 (w.fld 28 28)).setF off 15 0 (w.fld 15 0)).shedFiller (i / 2)
  let s := if old.fld 31 31 = w.fld 31 31 then s else if w.bit 31 then s.after (execEngineParkRequest e) else s.after (execEngineUnpark e)
  let s := if w.bit 30 then s.after (execEngineOfflineRequest e) else s.setF off 30 30 0
  if w.bit 29 then s.after (execEngineResume e) else s

/-- A write in the PAL window. -/
def writePal (base : Nat) (ix : List Nat) (off : Nat) (w : Word) (s : State) : State :=
  if base = R.PAL_ENG_CTRL 0 then writeEngCtrl (ixAt ix 0) off w s
  else if base = R.PAL_LANE_RETIRE 0 then s.after (execLaneRetireWrite (Fin.ofNat 8 (ixAt ix 0)) (Fin.ofNat 131072 (w.fld 16 0)))
  else if base = R.PAL_RING_CMD then
    let r := Fin.ofNat 4096 (w.fld 11 0)
    (match w.fld 31 30 with
     | 1 => s.after (execRingWrite r)
     | 2 => s.after (execRingRead r)
     | 3 => s.after (execRingStatusRead r)
     | _ => s)
  else s.store off w

/-- MEM.PAGE_CMD (R274): an operation not listed, or a reserved bit, gives status 0x3. (DEDUCED, log entry 104) -/
def writePageCmd (w : Word) (s : State) : State :=
  let h := Fin.ofNat 268435456 (w.fld 27 0)
  if w.bit 28 then s.status R.MEM_PAGE_STAT 3
  else match w.fld 31 29 with
    | 1 => s.after (execPageAlloc h)
    | 2 => s.after (execPageFree h)
    | 3 => s.after (execPageRead h)
    | 4 => s.after (execPageSetPin h)
    | _ => s.status R.MEM_PAGE_STAT 3

/-- A write in the MEM and CXL windows. -/
def writeMem (base : Nat) (ix : List Nat) (off : Nat) (w : Word) (s : State) : State :=
  if base = R.MEM_WIN_CMD then
    let i := Fin.ofNat 4096 (w.fld 11 0)
    (match w.fld 31 30 with
     | 0 => s
     | 1 => s.after (execWindowWrite i)
     | 2 => s.after (execWindowRead i)
     | _ => s.status R.MEM_WIN_STAT 3)
  else if base = R.MEM_HELD_CMD then
    let i := Fin.ofNat 4096 (w.fld 11 0)
    (match w.fld 31 30 with
     | 1 => s.after (execHeldRelease i)
     | 2 => s.after execHeldReleaseDest
     | 3 => s.after (execHeldRead i)
     | _ => s)
  else if base = R.MEM_HA_TRK_CMD 0 then
    let d := ixAt ix 0
    (match w.fld 31 30 with
     | 0 => s
     | 1 => s.after (execTrackerForget (Fin.ofNat 4 d) (w.bit 29) (Fin.ofNat 262144 (w.fld 17 0)))
     | _ => s.status (R.MEM_HA_TRK_STAT d) 3)
  else if base = R.MEM_STACK_RETIRED then s.after (execStackRetireRequest w)
  else if base = R.MEM_FIX_GIB 0 then s.after (execFixGibWrite (Fin.ofNat 4 (ixAt ix 0)) (Fin.ofNat 512 (w.fld 8 0)))
  else if base = R.MEM_PAGE_CMD then writePageCmd w s
  else if base = R.MEM_EASEL_CTRL then
    let was := s.fld off 31 31
    let s := s.store off w
    if was = 1 ∧ !w.bit 31 then s.abandonMoves (fun _ => true) else s
  else if base = R.MEM_EASEL_SPACE then
    (s.setF off 15 0 (w.fld 15 0)).after (execSpillMaxWrite (Fin.ofNat 65536 (w.fld 31 16)))
  else if base = R.CXL_PORT_CTRL 0 then
    let k := Fin.ofNat 8 (ixAt ix 0)
    let s := s.after (execCxlPortEnable k (w.bit 31) (Fin.ofNat 8192 (w.fld 12 0)))
    if w.bit 30 then s.after (execCxlRemove k) else s
  else s.store off w

/-- A write in the OPT and ETH windows. -/
def writeOpt (base off : Nat) (w : Word) (s : State) : State :=
  if base = R.OPT_PRISM_CTRL then s.after (execPrismGuardWrite true w)
  else if base = R.OPT_PRISM_GUARD then s.after (execPrismGuardWrite false w)
  else if base = R.OPT_PAT_CMD then
    let p := Fin.ofNat 256 (w.fld 7 0)
    (match w.fld 31 30 with
     | 1 => s.after (execPatWriteShadow p)
     | 2 => s.after (execPatReadShadow p)
     | 3 => s.after (execPatReadActive p)
     | _ => s)
  else if base = R.OPT_LASER_CMD then
    let e := Fin.ofNat 32 (w.fld 28 24)
    let l := Fin.ofNat 256 (w.fld 7 0)
    (match w.fld 31 30 with
     | 0 => s
     | 1 => s.after (execLaserRead e l)
     | 2 => s.after (execLaserTakeoverRequest e l)
     | _ => s.status R.OPT_LASER_STAT 3)
  else if base = R.ETH_CMD then
    let t := Fin.ofNat 8 (w.fld 29 27)
    let p := Fin.ofNat 16 (w.fld 26 23)
    let i := Fin.ofNat 65536 (w.fld 15 0)
    (match w.fld 31 30 with
     | 1 => s.after (execEthWriteEntry t p i)
     | 2 => s.after (execEthReadEntry t p i)
     | 3 => s.after (execEthReadActive t p i)
     | _ => s)
  else if base = R.ETH_QOS 0 then (if w.fld 1 0 = 3 then s else s.store off w)
  else s.store off w

/-- A write of TEL.SNAP_CTRL: PERIOD_US starts periodic targets anew, LOCK where it changes, REQ (R412, R416).
(DEDUCED, log entry 145) -/
def writeSnapCtrl (off : Nat) (w : Word) (s : State) : State :=
  let was := s.fld off 30 30
  let s := s.setF off 15 0 (w.fld 15 0)
  let s := { s with tel := { s.tel with periodicFrom := s.tb0 } }
  let s := if was = w.fld 30 30 then s else if w.bit 30 then s.after execSnapshotLock else s.after execSnapshotUnlock
  if w.bit 31 then s.after execSnapshotRequest else s

/-- A write in the TEL window. -/
def writeTel (base : Nat) (ix : List Nat) (off : Nat) (w : Word) (s : State) : State :=
  if base = R.TEL_SNAP_CTRL then writeSnapCtrl off w s
  else if base = R.TEL_ISO_CMD then
    (if w.bit 31 then s.after (execIsolationRelease (Fin.ofNat 128 (w.fld 30 24)) (Fin.ofNat 16777216 (w.fld 23 0))) else s)
  else if base = R.TEL_HEALTH_CMD then
    let k := Fin.ofNat 256 (w.fld 23 16)
    let i := Fin.ofNat 65536 (w.fld 15 0)
    (match w.fld 31 30 with
     | 1 => s.after (execHealthRead k i)
     | 2 => s.after (execHealthPin k i)
     | 3 => s.after (execHealthUnpin k i)
     | _ => s)
  else if base = R.TEL_UCODE_CMD then
    (if w.bit 31 then s.after (execUcodeUpdate (Fin.ofNat 128 (w.fld 6 0)) (Fin.ofNat 2 (w.fld 30 30))) else s)
  else if base = R.TEL_QHWM 0 0 then
    (if w.bit 31 then s.after (execQueueHwmClear (Fin.ofNat 1094 (ixAt ix 0)) (Fin.ofNat 8 (ixAt ix 1))) else s)
  else s.store off w

/-- A write of a register whose domain is on, by its window (R8). -/
def writeReg (base : Nat) (ix : List Nat) (off : Nat) (w : Word) (s : State) : State :=
  if base < 0x00200000 then writeGlb base off w s
  else if base < 0x01000000 then writeHub base ix off w s
  else if base < 0x03000000 then writePl base ix off w s
  else if base < 0x04000000 then writeBuf base ix off w s
  else if base < 0x06000000 then writeMct base off w s
  else if base < 0x07000000 then writePal base ix off w s
  else if base < 0x08000000 then writeMem base ix off w s
  else if base < 0x0A000000 then writeOpt base off w s
  else writeTel base ix off w s

end Sys2Proof.Machine
end

