-- ==== Sys2Proof/Machine/Flags.lean ====
section
/-!
DEFINITION. What the module shows of its state: what a host read of a register answers (R12, R408, R448), with the
fields that hardware sets, REGISTER_WRITE as the host's access of a register by its offset, the pins (R443), and what the
I3C target's space reads as (R445).
-/
namespace Sys2Proof.Machine

/-! ## Codes of states -/

/-- PORT_STAT.STATE (R326). -/
def LinkState.code : LinkState → Nat
  | .down => 0 | .training => 1 | .heldOut => 2 | .up => 3 | .draining => 4

/-- PEER_STAT.STATE (R310). -/
def PeerState.code : PeerState → Nat
  | .unknown => 0 | .discovering => 1 | .live => 2 | .withdrawn => 3 | .dead => 4

/-- PLANE_STAT.STATE (R310). -/
def PlaneState.code : PlaneState → Nat
  | .down => 0 | .miswired => 1 | .dark => 2 | .packet => 3 | .phase _ => 4 | .retune => 5

/-- PLANE_STAT.COLOUR (R310). -/
def PlaneState.colour : PlaneState → Nat
  | .phase c => c
  | _ => 0

/-- HLK.CR_STAT.STATE (R375). -/
def RingState.code : RingState → Nat
  | .disabled => 0 | .running => 1 | .error => 2

/-- PWR.DOM_STAT.STATE: 5 while a request to turn on is held (R379). -/
def State.domCode (s : State) (n : Nat) : Nat :=
  match s.domSt n with
  | .on => 2
  | .draining => 3
  | .turningOn => 4
  | .retention => if s.pwr.held.contains n then 5 else 1
  | .off | .reset => if s.pwr.held.contains n then 5 else 0

/-! ## Fields that are read live -/

/-- Fields set one after another. (DESIGN CHOICE, log entry 12) -/
def setFields : List (Nat × Nat × Nat) → Word → Word
  | [], w => w
  | (hi, lo, v) :: fs, w => setFields fs (w.setFld hi lo v)

/-- Views in the GLB, PWR, TIM and HLK windows. -/
def viewHub (base : Nat) (ix : List Nat) (s : State) : List (Nat × Nat × Nat) :=
  if base = R.GLB_D2D_STAT 0 then [(11, 0, if s.dieLinkUp (ixAt ix 0) then (s.xing (ixAt ix 0)).credits else 0)]
  else if base = R.PWR_SUPPLY_STAT then
    match Tbl.get (fun _ => none) s.pwr.dwell s.level with
    | some t => [(12, 0, min 8191 ((s.now - t) / 1000))]
    | none => [(12, 0, 0)]
  else if base = R.PWR_DOM_STAT 0 then [(31, 29, s.domCode (ixAt ix 0 + 1))]
  else if base = R.TIM_STAT then
    [(31, 29, s.timing.st.code), (28, 28, bit01 s.timing.stepped), (27, 27, bit01 s.timing.ppsOk),
     (26, 26, bit01 s.timing.ref10Ok), (25, 25, bit01 s.timing.ptpOk),
     (15, 0, fieldOfInt 16 (max (-32767) (min 32767 s.timing.lastOffset)))]
  else if base = R.TIM_RATE then [(31, 0, fieldOfInt 32 s.clk.adj)]
  else if base = R.HLK_LINK_STAT then
    [(31, 29, if s.host.trained then 2 else 0), (28, 21, if s.host.trained then s.host.lanes else 0)]
  else if base = R.HLK_CR_STAT 0 then
    let g := Tbl.get (fun _ => HostRing.init) s.host.rings (ixAt ix 0)
    [(31, 30, g.st.code), (16, 0, (g.descs.filter (fun d => d.st == .started)).length)]
  else if base = R.HLK_EV_STAT then [(31, 30, s.host.evRing.st.code), (12, 0, s.evq.length)]
  else if base = R.HLK_TL_STAT then [(31, 30, s.host.tlRing.st.code)]
  else []

/-- PLn.PORT_STAT_p (R326). -/
def State.portStat (s : State) (p : Nat) : List (Nat × Nat × Nat) :=
  let x := s.port p
  let held := if p < 1024 then (s.link (s.linkKey p 0)).replay.length
    else ((List.range 64).map (fun j => (s.link (s.linkKey p j)).replay.length)).sum
  [(31, 29, x.st.code), (28, 27, x.lanesUp), (26, 23, x.reason), (22, 19, x.member), (9, 0, min 512 held)]

/-- Views in the PL, BUF, MCT and CNV windows. -/
def viewCore (base : Nat) (ix : List Nat) (s : State) : List (Nat × Nat × Nat) :=
  if base = R.PL_PORT_STAT 0 0 then s.portStat (64 * ixAt ix 0 + ixAt ix 1)
  else if base = R.BUF_FWD_GEN_ACTIVE then [(31, 0, s.tab.gen)]
  else if base = R.BUF_FWD_GEN_CTRL then [(30, 30, bit01 s.tab.pending.isSome), (29, 29, bit01 s.tab.copying)]
  else if base = R.BUF_CELL_TOTAL then [(20, 0, s.cellTotal)]
  else if base = R.BUF_CELL_FREE then [(20, 0, s.freeShared)]
  else []

/-- Views in the PAL, MEM, OPT and TEL windows. -/
def viewUnits (base : Nat) (ix : List Nat) (s : State) : List (Nat × Nat × Nat) :=
  let i := ixAt ix 0
  if base = R.PAL_ENG_STAT 0 then
    let x := s.engine i
    [(31, 28, x.st.code), (26, 20, x.level), (19, 17, s.fillerOff i), (16, 12, min 31 (x.recentFaults s.now).length)]
  else if base = R.PAL_Q_STAT 0 0 then
    let x := s.engine i
    let q := ixAt ix 1
    [(31, 31, bit01 (match x.run with | some r => r.queue == q | none => false)),
     (8, 0, (Tbl.get (fun _ => []) x.queues q).length)]
  else if base = R.MEM_HA_STAT 0 then
    let h := Tbl.get (fun _ => Home.init) s.homes i
    [(31, 15, 65536 - h.slots.length), (14, 0, h.active.length)]
  else if base = R.MEM_DIE_FREE 0 then [(22, 0, s.freeFrames i)]
  else if base = R.OPT_PRISM_STAT then
    [(22, 22, bit01 (s.planes.any (fun x => x.2.st == .retune))),
     (21, 16, (s.peers.filter (fun x => x.2.st == .live)).length), (15, 8, s.gPkt)]
  else if base = R.OPT_PLANE_STAT 0 then [(31, 29, (s.plane i).st.code), (21, 16, (s.plane i).st.colour)]
  else if base = R.OPT_PEER_STAT 0 then
    let x := s.peer i
    [(31, 29, x.st.code), (28, 26, x.cause), (25, 16, x.spineId), (15, 8, x.skew), (7, 0, x.rxPower)]
  else if base = R.OPT_SPARES 0 then
    [(3, 0, ((List.range (allLasers i)).filter (fun l => (s.laser i l).st == .spare)).length)]
  else if base = R.TEL_SNAP_STAT then
    [(31, 31, bit01 (match s.tel.pub with | some c => !c.causes.isEmpty | none => false)), (30, 30, bit01 s.tel.lockEnd.isSome)]
  else if base = R.TEL_SNAP_SEQ then [(31, 0, match s.tel.pub with | some c => c.seq | none => 0)]
  else if base = R.TEL_LEDGER_STAT then [(11, 0, s.tel.isolated.length)]
  else if base = R.TEL_HEALTH_SUM then
    [(31, 24, s.expHour.length), (23, 12, (s.tel.parts.filter (fun x => x.2.flagged)).length), (11, 0, min 4095 s.watchUp)]
  else if base = R.TEL_MAINT_STAT then
    [(31, 24, (s.maint.filter (·.2)).length), (23, 16, (s.maint.filter (fun x => !x.2)).length)]
  else []

/-! ## Reads (R12, R408, R448) -/

/-- What a read shows of the stored fields: a WO field reads 0 (R12). -/
def readable : List FieldDef → Word → Word
  | [], w => w
  | f :: fs, w => readable fs (if f.acc = .wo then w.setFld f.hi f.lo 0 else w)

/-- A field of the published snapshot, 0 where the snapshot has the domain that keeps it absent (R413, R448).
(DEDUCED, log entry 6) -/
def State.published (s : State) (domain : Nat) (f : Snap → Word) : Word :=
  match s.tel.pub with
  | some c => if c.on.testBit (domain - 1) then f c else 0
  | none => 0

/-- The registers latched under a snapshot: SHP_TOK, DIE_ACCOUNT, and the COUNT fields that are not counters (R137, R234,
R408). -/
def latchedBases : List Nat :=
  [R.PL_SHP_TOK 0 0 0, R.PL_SHP_TOK17 0 0, R.PAL_DIE_ACCOUNT 0, R.BUF_FWD_OVR_SHADOW, R.BUF_FWD_OVR_ACTIVE, R.MCT_GRP_SHADOW,
   R.MCT_GRP_ACTIVE, R.CNV_CTX_SHADOW, R.CNV_CTX_ACTIVE, R.MEM_HELD_STAT]

/-- The registers that read the published snapshot, and what they read (R408): gauges, time-base snapshots, the fields
latched under a snapshot. -/
def State.snapRead (s : State) (base : Nat) (ix : List Nat) (off : Nat) : Option Word :=
  let i := ixAt ix 0
  let num (domain : Nat) (f : Snap → Nat) : Option Word := some (s.published domain (fun c => BitVec.ofNat 32 (f c)))
  if base = R.TIM_SNAP_SEC_HI then num 2 (fun c => c.target / 1000000000 / 2 ^ 32 % 2 ^ 16)
  else if base = R.TIM_SNAP_SEC_LO then num 2 (fun c => c.target / 1000000000)
  else if base = R.TIM_SNAP_NS then num 2 (fun c => c.target % 1000000000)
  else if base = R.TIM_SNAP_FRAC then num 2 (fun c => c.frac)
  else if base = R.TIM_SNAP_TB1 0 then num (pipelineDomain i) (fun c => Tbl.get (fun _ => 0) c.bases i)
  else if base = R.TIM_SNAP_TB2 0 then num (hbmDomain i) (fun c => Tbl.get (fun _ => 0) c.bases (18 + i))
  else if base = R.TIM_SNAP_TB3 then num 2 (fun c => Tbl.get (fun _ => 0) c.bases 22)
  else if base = R.TEL_STALL_ATTR_NOW then num 2 (fun c => c.attr)
  else if base = R.TEL_QDEPTH 0 0 then num 8 (fun c => Tbl.get (fun _ => 0) c.depth (qKey i (ixAt ix 1)))
  else if base = R.TEL_QHWM 0 0 then num 8 (fun c => Tbl.get (fun _ => 0) c.hwm (qKey i (ixAt ix 1)))
  else if latchedBases.contains base then
    match s.tel.pub with
    | none => some (regReset off)
    | some _ => some (s.published (regDomain off) (fun c => Tbl.get regReset c.fields off))
  else none

/-- What a host read of 4 bytes at an offset answers while the Arsyn link is up (R12, R408, R448). -/
def State.readReg (s : State) (off : Nat) : Word :=
  match findReg regMap off with
  | some (r, ix) =>
    (match s.snapRead r.base ix off with
     | some w => if s.on 2 then w else 0
     | none =>
       if s.on (r.domain ix) then
         readable r.fields (setFields (viewHub r.base ix s ++ viewCore r.base ix s ++ viewUnits r.base ix s) (s.rd off))
       else 0)
  | none =>
    match findCnt cntMap off with
    | some (c, ix, high) =>
      if s.on 2 then
        s.published (c.domain ix) (fun p =>
          if high then BitVec.ofNat 32 (Tbl.get (fun _ => 0) p.cnt (off - 4) / 2 ^ 32)
          else BitVec.ofNat 32 (Tbl.get (fun _ => 0) p.cnt off))
      else 0
    | none => 0

/-! ## The host's accesses (R9, R10, R448) -/

/-- Why an access of a register fails, by the cause of the register-access event (R373): 0 another width than 4 bytes or not
aligned, 1 a reserved offset, 2 a domain that is not on. A counter, and for a read what a snapshot latches, is reached
while PD02 is on (R448). -/
def State.accessFault (s : State) (off bytes : Nat) (write : Bool) : Option Nat :=
  if bytes ≠ 4 ∨ off % 4 ≠ 0 then some 0
  else
    match findReg regMap off with
    | some (r, ix) =>
      if s.on (if !write && (s.snapRead r.base ix off).isSome then 2 else r.domain ix) then none else some 2
    | none => if (findCnt cntMap off).isSome then (if s.on 2 then none else some 2) else some 1

/-- A host read of a register: what it answers leaves the module, 0 with the register-access event where the access fails
(R9, R10, R448). -/
def State.readAccess (s : State) (off bytes : Nat) : State :=
  match s.accessFault off bytes false with
  | some cause => (s.accessEvent off cause 0).emit (.regRead off 0)
  | none => s.emit (.regRead off (s.readReg off))

/-- A host write of a register: discarded with the register-access event where the access fails; a counter keeps its count
(R9, R10, R12, R448). -/
def State.writeAccess (s : State) (off bytes : Nat) (w : Word) : State :=
  match s.accessFault off bytes true with
  | some cause => s.accessEvent off cause 1
  | none =>
    match findReg regMap off with
    | some (r, ix) => writeReg r.base ix off w s
    | none => s

/-- REGISTER_WRITE (R9, R10, R12, R448): the host's access of `bytes` bytes at an offset, a write of `w`, or a read where there
is nothing to write. (DESIGN CHOICE, log entry 5; DEDUCED, log entry 13) -/
def execRegisterWrite (off : Word) (bytes : Fin 9) (w : Option Word) (s : State) : Host.Outcome State Fault Refusal :=
  match w with
  | some w => ok (s.writeAccess off.toNat bytes w)
  | none => ok (s.readAccess off.toNat bytes)

/-! ## Pins (R441, R443); true: high -/

/-- PWR_OK follows PD01. -/
def State.pinPwrOk (s : State) : Bool := s.on 1

/-- ALERT_N. -/
def State.pinAlertN (s : State) : Bool := !s.i3c.low

/-- THERMTRIP_N is low while the module holds itself in reset after a trip. -/
def State.pinThermtripN (s : State) : Bool := s.boot.tripped.isEmpty

/-- PERST# of CXL port k: released 100 ms after EN is set, asserted when the port is off or removed (R441). -/
def State.pinPerstN (s : State) (k : Nat) : Bool :=
  (Tbl.get (fun _ => none) s.mem.cxlEnAt k).any (fun t => decide (t + 100000000 ≤ s.now))

/-- BOOT_STAT[1:0] follows PHASE. -/
def State.pinBootStat (s : State) : Nat := s.fld R.GLB_BOOT_STAT 31 30

/-! ## The I3C target's space (R445) -/

/-- The order code CSN-4400-A0, in ASCII, padded with 0x00 to 16 bytes (R2, R445). -/
def orderCode : List Nat := [0x43, 0x53, 0x4E, 0x2D, 0x34, 0x34, 0x30, 0x30, 0x2D, 0x41, 0x30, 0, 0, 0, 0, 0]

/-- A byte of the status region, which PD01 serves (R445). -/
def State.i3cStatus (s : State) (off : Nat) : Byte :=
  if off = 0x0100 then BitVec.ofNat 8 (128 + 16 * s.level + 4 * s.fld R.PWR_MSTATE 29 28 + s.pinBootStat)
  else if off = 0x0101 then BitVec.ofNat 8 s.alertCause
  else if off = 0x0102 then BitVec.ofNat 8 s.i3c.alertEn
  else if off = 0x0110 then 0
  else Config.i3cByte 4 off 0

/-- The byte that a read of the I3C space answers (R444, R445). A byte written at manufacture for each module, and one that
the table does not list, is free. -/
def State.i3cRead (s : State) (off : Nat) : Byte :=
  if 0x1FFF < off then 0
  else if off = 0x0000 then 1
  else if 0x0001 ≤ off ∧ off ≤ 0x0010 then BitVec.ofNat 8 (orderCode.getD (off - 1) 0)
  else if 0x0025 ≤ off ∧ off ≤ 0x0028 then BitVec.ofNat 8 (0x4E4D4400 / 2 ^ (8 * (off - 0x0025)))
  else if 0x0029 ≤ off ∧ off ≤ 0x002C then BitVec.ofNat 8 (0x00004100 / 2 ^ (8 * (off - 0x0029)))
  else if 0x0100 ≤ off ∧ off < 0x1000 then if s.on 1 then s.i3cStatus off else 0
  else Config.i3cByte 4 off 0

end Sys2Proof.Machine
end

