-- ==== Sys2Proof/Machine/Dispatch.lean ====
section
/-!
DEFINITION. exec: each command to its meaning, one arm per constructor of Instr.
-/
namespace Sys2Proof.Machine

-- Each arm is one direct call of the command's own meaning.
def exec (i : Instr) (s : State) : Host.Outcome State Fault Refusal :=
  match i with
  | .registerWrite off bytes w => Sys2Proof.Machine.execRegisterWrite off bytes w s
  | .fabricIdWrite w => Sys2Proof.Machine.execFabricIdWrite w s
  | .withdrawalDrainEnd => Sys2Proof.Machine.execWithdrawalDrainEnd s
  | .warmResetRequest => Sys2Proof.Machine.execWarmResetRequest s
  | .domainResetRequest n => Sys2Proof.Machine.execDomainResetRequest n s
  | .coldReset => Sys2Proof.Machine.execColdReset s
  | .resetNAssert ns => Sys2Proof.Machine.execResetNAssert ns s
  | .resetNRelease => Sys2Proof.Machine.execResetNRelease s
  | .firmwareWatchdog => Sys2Proof.Machine.execFirmwareWatchdog s
  | .thermalHoldEnd => Sys2Proof.Machine.execThermalHoldEnd s
  | .imageCheckDone c => Sys2Proof.Machine.execImageCheckDone c s
  | .hostBootTimeout => Sys2Proof.Machine.execHostBootTimeout s
  | .bootBackoffExpiry => Sys2Proof.Machine.execBootBackoffExpiry s
  | .hostImageGo len => Sys2Proof.Machine.execHostImageGo len s
  | .bringupDone stackList groups => Sys2Proof.Machine.execBringupDone stackList groups s
  | .bootRecordClear => Sys2Proof.Machine.execBootRecordClear s
  | .flashProgram slot len => Sys2Proof.Machine.execFlashProgram slot len s
  | .flashErase slot => Sys2Proof.Machine.execFlashErase slot s
  | .flashProgramDone c => Sys2Proof.Machine.execFlashProgramDone c s
  | .secRaiseMinSvn => Sys2Proof.Machine.execSecRaiseMinSvn s
  | .secBurnOwnerHash bytes => Sys2Proof.Machine.execSecBurnOwnerHash bytes s
  | .attestReport => Sys2Proof.Machine.execAttestReport s
  | .attestReportDone => Sys2Proof.Machine.execAttestReportDone s
  | .attestReadEntry i' => Sys2Proof.Machine.execAttestReadEntry i' s
  | .attestWritePubkey => Sys2Proof.Machine.execAttestWritePubkey s
  | .headerArrival port => Sys2Proof.Machine.execHeaderArrival port s
  | .headerLookup pl bank => Sys2Proof.Machine.execHeaderLookup pl bank s
  | .packetAdmitRetry port vc => Sys2Proof.Machine.execPacketAdmitRetry port vc s
  | .bankWriteRetry pl vc free => Sys2Proof.Machine.execBankWriteRetry pl vc free s
  | .packetTail port => Sys2Proof.Machine.execPacketTail port s
  | .ageLimitExpiry port vc => Sys2Proof.Machine.execAgeLimitExpiry port vc s
  | .egressSchedule egress => Sys2Proof.Machine.execEgressSchedule egress s
  | .shaperEligible egress i' => Sys2Proof.Machine.execShaperEligible egress i' s
  | .wheelOverflowRescan pl => Sys2Proof.Machine.execWheelOverflowRescan pl s
  | .shaperWrite egress i' w => Sys2Proof.Machine.execShaperWrite egress i' w s
  | .policerBucketWrite port tc second w => Sys2Proof.Machine.execPolicerBucketWrite port tc second w s
  | .markThresholdWrite t w => Sys2Proof.Machine.execMarkThresholdWrite t w s
  | .reservationWrite r w => Sys2Proof.Machine.execReservationWrite r w s
  | .spillBlockWrite egress tc => Sys2Proof.Machine.execSpillBlockWrite egress tc s
  | .spillWriteConfirm egress tc => Sys2Proof.Machine.execSpillWriteConfirm egress tc s
  | .spillBlockReturn egress tc err => Sys2Proof.Machine.execSpillBlockReturn egress tc err s
  | .nopathTimeout => Sys2Proof.Machine.execNopathTimeout s
  | .rateLimitRecover leaf => Sys2Proof.Machine.execRateLimitRecover leaf s
  | .depthRefresh pl => Sys2Proof.Machine.execDepthRefresh pl s
  | .easelWeightUpdate port => Sys2Proof.Machine.execEaselWeightUpdate port s
  | .easelRebalance uid moves => Sys2Proof.Machine.execEaselRebalance uid moves s
  | .pathWeightWrite port w => Sys2Proof.Machine.execPathWeightWrite port w s
  | .settleExpiry uid bucket => Sys2Proof.Machine.execSettleExpiry uid bucket s
  | .pathMarkReceive => Sys2Proof.Machine.execPathMarkReceive s
  | .pathMarkAckSend => Sys2Proof.Machine.execPathMarkAckSend s
  | .pathMarkAckReceive => Sys2Proof.Machine.execPathMarkAckReceive s
  | .markTimeout uid bucket => Sys2Proof.Machine.execMarkTimeout uid bucket s
  | .fwdWriteShadow ovr index => Sys2Proof.Machine.execFwdWriteShadow ovr index s
  | .fwdReadShadow ovr index => Sys2Proof.Machine.execFwdReadShadow ovr index s
  | .fwdReadActive ovr index => Sys2Proof.Machine.execFwdReadActive ovr index s
  | .fwdCommit gapUs => Sys2Proof.Machine.execFwdCommit gapUs s
  | .epochReached => Sys2Proof.Machine.execEpochReached s
  | .shadowCopyDone => Sys2Proof.Machine.execShadowCopyDone s
  | .mctWriteShadow group => Sys2Proof.Machine.execMctWriteShadow group s
  | .mctReadShadow group => Sys2Proof.Machine.execMctReadShadow group s
  | .mctReadActive group => Sys2Proof.Machine.execMctReadActive group s
  | .mcastReplicate => Sys2Proof.Machine.execMcastReplicate s
  | .replicaAdmitRetry => Sys2Proof.Machine.execReplicaAdmitRetry s
  | .cnvWriteShadow n => Sys2Proof.Machine.execCnvWriteShadow n s
  | .cnvReadShadow n => Sys2Proof.Machine.execCnvReadShadow n s
  | .cnvReadActive n => Sys2Proof.Machine.execCnvReadActive n s
  | .cnvReadStatus n => Sys2Proof.Machine.execCnvReadStatus n s
  | .cnvForce n => Sys2Proof.Machine.execCnvForce n s
  | .contextFreed n => Sys2Proof.Machine.execContextFreed n s
  | .contribReceive => Sys2Proof.Machine.execContribReceive s
  | .canvasIngestRetry => Sys2Proof.Machine.execCanvasIngestRetry s
  | .segmentAreaGrant n next seg => Sys2Proof.Machine.execSegmentAreaGrant n next seg s
  | .batchWaitExpiry n next seg => Sys2Proof.Machine.execBatchWaitExpiry n next seg s
  | .canvasBatchAdmit n next seg => Sys2Proof.Machine.execCanvasBatchAdmit n next seg s
  | .batchFolded n next seg => Sys2Proof.Machine.execBatchFolded n next seg s
  | .segmentTimeout n next seg => Sys2Proof.Machine.execSegmentTimeout n next seg s
  | .segmentEncodeDone n next seg => Sys2Proof.Machine.execSegmentEncodeDone n next seg s
  | .phaseMarkReceive => Sys2Proof.Machine.execPhaseMarkReceive s
  | .childResultTimeout n next seg => Sys2Proof.Machine.execChildResultTimeout n next seg s
  | .recoverCopyDone n => Sys2Proof.Machine.execRecoverCopyDone n s
  | .engineParkRequest e => Sys2Proof.Machine.execEngineParkRequest e s
  | .engineUnpark e => Sys2Proof.Machine.execEngineUnpark e s
  | .engineOfflineRequest e => Sys2Proof.Machine.execEngineOfflineRequest e s
  | .engineResume e => Sys2Proof.Machine.execEngineResume e s
  | .laneRetireWrite e mask => Sys2Proof.Machine.execLaneRetireWrite e mask s
  | .laneGroupSwap e => Sys2Proof.Machine.execLaneGroupSwap e s
  | .engineScrubDone e => Sys2Proof.Machine.execEngineScrubDone e s
  | .keepExpiry e => Sys2Proof.Machine.execKeepExpiry e s
  | .rampStep e => Sys2Proof.Machine.execRampStep e s
  | .governorStep d even odd => Sys2Proof.Machine.execGovernorStep d even odd s
  | .engineFault e kind group => Sys2Proof.Machine.execEngineFault e kind group s
  | .engineResetDone e => Sys2Proof.Machine.execEngineResetDone e s
  | .watchdogExpiry e => Sys2Proof.Machine.execWatchdogExpiry e s
  | .doorbellRead ring => Sys2Proof.Machine.execDoorbellRead ring s
  | .ringWrite ring => Sys2Proof.Machine.execRingWrite ring s
  | .ringRead ring => Sys2Proof.Machine.execRingRead ring s
  | .ringStatusRead ring => Sys2Proof.Machine.execRingStatusRead ring s
  | .energyWindowStart d => Sys2Proof.Machine.execEnergyWindowStart d s
  | .listAdmit e => Sys2Proof.Machine.execListAdmit e s
  | .palNop e => Sys2Proof.Machine.execPalNop e s
  | .palBegin e => Sys2Proof.Machine.execPalBegin e s
  | .palEnd e => Sys2Proof.Machine.execPalEnd e s
  | .palFence e => Sys2Proof.Machine.execPalFence e s
  | .fenceComplete e => Sys2Proof.Machine.execFenceComplete e s
  | .fenceTimeout e => Sys2Proof.Machine.execFenceTimeout e s
  | .palNotify e => Sys2Proof.Machine.execPalNotify e s
  | .notifyResponse d => Sys2Proof.Machine.execNotifyResponse d s
  | .palCkpt e => Sys2Proof.Machine.execPalCkpt e s
  | .palMove e => Sys2Proof.Machine.execPalMove e s
  | .moveWritePerformed e i' => Sys2Proof.Machine.execMoveWritePerformed e i' s
  | .palRow e => Sys2Proof.Machine.execPalRow e s
  | .palElem e => Sys2Proof.Machine.execPalElem e s
  | .palXlane e => Sys2Proof.Machine.execPalXlane e s
  | .palConvert e => Sys2Proof.Machine.execPalConvert e s
  | .homeRequestReceive d => Sys2Proof.Machine.execHomeRequestReceive d s
  | .trackerAllocate d => Sys2Proof.Machine.execTrackerAllocate d s
  | .trackerLingerExpiry d space src => Sys2Proof.Machine.execTrackerLingerExpiry d space src s
  | .homeRequestPerform d => Sys2Proof.Machine.execHomeRequestPerform d s
  | .lineFill d => Sys2Proof.Machine.execLineFill d s
  | .combiningLineExpiry d => Sys2Proof.Machine.execCombiningLineExpiry d s
  | .responseReceive => Sys2Proof.Machine.execResponseReceive s
  | .requestRetry origin tag => Sys2Proof.Machine.execRequestRetry origin tag s
  | .requestTimerExpiry origin tag => Sys2Proof.Machine.execRequestTimerExpiry origin tag s
  | .trackerForget d space src => Sys2Proof.Machine.execTrackerForget d space src s
  | .windowWrite index => Sys2Proof.Machine.execWindowWrite index s
  | .windowRead index => Sys2Proof.Machine.execWindowRead index s
  | .heldRelease index => Sys2Proof.Machine.execHeldRelease index s
  | .heldReleaseDest => Sys2Proof.Machine.execHeldReleaseDest s
  | .heldRead index => Sys2Proof.Machine.execHeldRead index s
  | .pageAlloc h => Sys2Proof.Machine.execPageAlloc h s
  | .pageFree h => Sys2Proof.Machine.execPageFree h s
  | .pageRead h => Sys2Proof.Machine.execPageRead h s
  | .pageSetPin h => Sys2Proof.Machine.execPageSetPin h s
  | .fixGibWrite d gib => Sys2Proof.Machine.execFixGibWrite d gib s
  | .fixWindowMapped d => Sys2Proof.Machine.execFixWindowMapped d s
  | .easelInterval u0 u1 u2 u3 waited cxlRd cxlWr => Sys2Proof.Machine.execEaselInterval u0 u1 u2 u3 waited cxlRd cxlWr s
  | .pageCopyDone h => Sys2Proof.Machine.execPageCopyDone h s
  | .heatHalving => Sys2Proof.Machine.execHeatHalving s
  | .spillMaxWrite gib => Sys2Proof.Machine.execSpillMaxWrite gib s
  | .stackRetireRequest w => Sys2Proof.Machine.execStackRetireRequest w s
  | .stackDemoteDone k => Sys2Proof.Machine.execStackDemoteDone k s
  | .stackRelocateDone k => Sys2Proof.Machine.execStackRelocateDone k s
  | .stackFail k => Sys2Proof.Machine.execStackFail k s
  | .hbmScrub home line outcome => Sys2Proof.Machine.execHbmScrub home line outcome s
  | .cxlPortEnable k en fix => Sys2Proof.Machine.execCxlPortEnable k en fix s
  | .cxlRemove k => Sys2Proof.Machine.execCxlRemove k s
  | .cxlRemoveDone k => Sys2Proof.Machine.execCxlRemoveDone k s
  | .cxlPortFail k => Sys2Proof.Machine.execCxlPortFail k s
  | .cxlRetrainTick k => Sys2Proof.Machine.execCxlRetrainTick k s
  | .cxlDeviceEvent k cls => Sys2Proof.Machine.execCxlDeviceEvent k cls s
  | .slotStart => Sys2Proof.Machine.execSlotStart s
  | .discoverReceive p skew power => Sys2Proof.Machine.execDiscoverReceive p skew power s
  | .lcReadyReceive port => Sys2Proof.Machine.execLcReadyReceive port s
  | .lcWithdrawReceive port => Sys2Proof.Machine.execLcWithdrawReceive port s
  | .peerSilenceTimeout j => Sys2Proof.Machine.execPeerSilenceTimeout j s
  | .prismListenEnd => Sys2Proof.Machine.execPrismListenEnd s
  | .patternApply => Sys2Proof.Machine.execPatternApply s
  | .planeRetuneEnd => Sys2Proof.Machine.execPlaneRetuneEnd s
  | .patWriteShadow pattern => Sys2Proof.Machine.execPatWriteShadow pattern s
  | .patReadShadow pattern => Sys2Proof.Machine.execPatReadShadow pattern s
  | .patReadActive pattern => Sys2Proof.Machine.execPatReadActive pattern s
  | .prismGuardWrite ctrl w => Sys2Proof.Machine.execPrismGuardWrite ctrl w s
  | .laserRead e l => Sys2Proof.Machine.execLaserRead e l s
  | .laserTakeoverRequest e l => Sys2Proof.Machine.execLaserTakeoverRequest e l s
  | .spareWarmDone e l locked => Sys2Proof.Machine.execSpareWarmDone e l locked s
  | .takeoverSwitch e l => Sys2Proof.Machine.execTakeoverSwitch e l s
  | .laserFail e l => Sys2Proof.Machine.execLaserFail e l s
  | .laserAgeingTick e l ratio power rx => Sys2Proof.Machine.execLaserAgeingTick e l ratio power rx s
  | .opticalLos port lane => Sys2Proof.Machine.execOpticalLos port lane s
  | .opticalLosClear port lane => Sys2Proof.Machine.execOpticalLosClear port lane s
  | .opticalPowerWarning port lane high power => Sys2Proof.Machine.execOpticalPowerWarning port lane high power s
  | .opticalOverload port lane power => Sys2Proof.Machine.execOpticalOverload port lane power s
  | .overloadClear port lane => Sys2Proof.Machine.execOverloadClear port lane s
  | .laneLock port lane => Sys2Proof.Machine.execLaneLock port lane s
  | .flitLock port req rsp coll bulk => Sys2Proof.Machine.execFlitLock port req rsp coll bulk s
  | .trainingStepTimeout port => Sys2Proof.Machine.execTrainingStepTimeout port s
  | .trainingRestExpiry port => Sys2Proof.Machine.execTrainingRestExpiry port s
  | .lcIdentReceive port => Sys2Proof.Machine.execLcIdentReceive port s
  | .lcIdentTimer port => Sys2Proof.Machine.execLcIdentTimer port s
  | .flitReceive port sender late f => Sys2Proof.Machine.execFlitReceive port sender late f s
  | .controlFlitReceive port sender f => Sys2Proof.Machine.execControlFlitReceive port sender f s
  | .ackTimeout port peer => Sys2Proof.Machine.execAckTimeout port peer s
  | .linkSilenceTimeout port => Sys2Proof.Machine.execLinkSilenceTimeout port s
  | .laneFail port lane => Sys2Proof.Machine.execLaneFail port lane s
  | .laneRejoin port lane => Sys2Proof.Machine.execLaneRejoin port lane s
  | .timePacketTimer => Sys2Proof.Machine.execTimePacketTimer s
  | .portEnableWrite port en => Sys2Proof.Machine.execPortEnableWrite port en s
  | .portDrain port => Sys2Proof.Machine.execPortDrain port s
  | .portUndrain port => Sys2Proof.Machine.execPortUndrain port s
  | .portDrainEnd port => Sys2Proof.Machine.execPortDrainEnd port s
  | .portRetrain port => Sys2Proof.Machine.execPortRetrain port s
  | .portReset port => Sys2Proof.Machine.execPortReset port s
  | .laneMaskWrite port mask => Sys2Proof.Machine.execLaneMaskWrite port mask s
  | .dieLinkDown n => Sys2Proof.Machine.execDieLinkDown n s
  | .dieLinkRetrain n wires => Sys2Proof.Machine.execDieLinkRetrain n wires s
  | .creditAnnounce island => Sys2Proof.Machine.execCreditAnnounce island s
  | .ethFrameReceive port bytes => Sys2Proof.Machine.execEthFrameReceive port bytes s
  | .macAgeingScan pl => Sys2Proof.Machine.execMacAgeingScan pl s
  | .ethWriteEntry table pipe index => Sys2Proof.Machine.execEthWriteEntry table pipe index s
  | .ethReadEntry table pipe index => Sys2Proof.Machine.execEthReadEntry table pipe index s
  | .ethReadActive table pipe index => Sys2Proof.Machine.execEthReadActive table pipe index s
  | .timeMeasurement offset => Sys2Proof.Machine.execTimeMeasurement offset s
  | .timeSourceTimeout => Sys2Proof.Machine.execTimeSourceTimeout s
  | .ppsEdge ref10 => Sys2Proof.Machine.execPpsEdge ref10 s
  | .timeSet => Sys2Proof.Machine.execTimeSet s
  | .tb0Realign island err => Sys2Proof.Machine.execTb0Realign island err s
  | .ptpMessageReceive m => Sys2Proof.Machine.execPtpMessageReceive m s
  | .hostLinkDown => Sys2Proof.Machine.execHostLinkDown s
  | .hostLinkUp lanes => Sys2Proof.Machine.execHostLinkUp lanes s
  | .nudgeReceive rings => Sys2Proof.Machine.execNudgeReceive rings s
  | .doorbellPollTimer => Sys2Proof.Machine.execDoorbellPollTimer s
  | .doorbellPageReturn status bytes => Sys2Proof.Machine.execDoorbellPageReturn status bytes s
  | .descriptorFetch tag status words => Sys2Proof.Machine.execDescriptorFetch tag status words s
  | .hmemResponse tag status bytes => Sys2Proof.Machine.execHmemResponse tag status bytes s
  | .hostNop ring => Sys2Proof.Machine.execHostNop ring s
  | .txPacket ring => Sys2Proof.Machine.execTxPacket ring s
  | .rxPost ring => Sys2Proof.Machine.execRxPost ring s
  | .memRead ring => Sys2Proof.Machine.execMemRead ring s
  | .memWrite ring => Sys2Proof.Machine.execMemWrite ring s
  | .memAtomic ring => Sys2Proof.Machine.execMemAtomic ring s
  | .hostRingEnable ring w => Sys2Proof.Machine.execHostRingEnable ring w s
  | .hostRingDisable ring w => Sys2Proof.Machine.execHostRingDisable ring w s
  | .auxRingEnable tel w => Sys2Proof.Machine.execAuxRingEnable tel w s
  | .interruptModerationExpiry ring => Sys2Proof.Machine.execInterruptModerationExpiry ring s
  | .eventDeliver => Sys2Proof.Machine.execEventDeliver s
  | .supplySample v watts => Sys2Proof.Machine.execSupplySample v watts s
  | .shedRelease => Sys2Proof.Machine.execShedRelease s
  | .supplyLogClear => Sys2Proof.Machine.execSupplyLogClear s
  | .domainOn n => Sys2Proof.Machine.execDomainOn n s
  | .domainRetention n => Sys2Proof.Machine.execDomainRetention n s
  | .domainOff n => Sys2Proof.Machine.execDomainOff n s
  | .domainDrainEnd n => Sys2Proof.Machine.execDomainDrainEnd n s
  | .domainOnDone n wires => Sys2Proof.Machine.execDomainOnDone n wires s
  | .mstateRequest req wake => Sys2Proof.Machine.execMstateRequest req wake s
  | .m3WakeTimer => Sys2Proof.Machine.execM3WakeTimer s
  | .thermalSample core hub dies stackList sites => Sys2Proof.Machine.execThermalSample core hub dies stackList sites s
  | .droopDetect i' => Sys2Proof.Machine.execDroopDetect i' s
  | .droopRelease i' => Sys2Proof.Machine.execDroopRelease i' s
  | .snapshotRequest => Sys2Proof.Machine.execSnapshotRequest s
  | .snapshotTarget => Sys2Proof.Machine.execSnapshotTarget s
  | .snapshotComplete fails storage => Sys2Proof.Machine.execSnapshotComplete fails storage s
  | .snapshotLock => Sys2Proof.Machine.execSnapshotLock s
  | .snapshotUnlock => Sys2Proof.Machine.execSnapshotUnlock s
  | .snapshotLockExpiry => Sys2Proof.Machine.execSnapshotLockExpiry s
  | .isolationRelease kind index => Sys2Proof.Machine.execIsolationRelease kind index s
  | .queueHwmClear egress tc => Sys2Proof.Machine.execQueueHwmClear egress tc s
  | .healthEvaluate fec => Sys2Proof.Machine.execHealthEvaluate fec s
  | .healthActionStart kind index => Sys2Proof.Machine.execHealthActionStart kind index s
  | .healthPinExpiry kind index => Sys2Proof.Machine.execHealthPinExpiry kind index s
  | .healthRead kind index => Sys2Proof.Machine.execHealthRead kind index s
  | .healthPin kind index => Sys2Proof.Machine.execHealthPin kind index s
  | .healthUnpin kind index => Sys2Proof.Machine.execHealthUnpin kind index s
  | .maintLockGrant => Sys2Proof.Machine.execMaintLockGrant s
  | .ucodeUpdate island slot => Sys2Proof.Machine.execUcodeUpdate island slot s
  | .ucodeLoadDone c => Sys2Proof.Machine.execUcodeLoadDone c s
  | .ucodeAnnounceTimeout => Sys2Proof.Machine.execUcodeAnnounceTimeout s
  | .i3cWake => Sys2Proof.Machine.execI3cWake s
  | .i3cEntdaa addr => Sys2Proof.Machine.execI3cEntdaa addr s
  | .i3cSetdasa static addr => Sys2Proof.Machine.execI3cSetdasa static addr s
  | .i3cRstdaa => Sys2Proof.Machine.execI3cRstdaa s
  | .i3cGetpid => Sys2Proof.Machine.execI3cGetpid s
  | .i3cGetbcr => Sys2Proof.Machine.execI3cGetbcr s
  | .i3cGetdcr => Sys2Proof.Machine.execI3cGetdcr s
  | .i3cGetstatus => Sys2Proof.Machine.execI3cGetstatus s
  | .i3cEnec => Sys2Proof.Machine.execI3cEnec s
  | .i3cDisec => Sys2Proof.Machine.execI3cDisec s
  | .cxlPortTrained k cap width speed decoders => Sys2Proof.Machine.execCxlPortTrained k cap width speed decoders s
  | .moveReadReturn e i' => Sys2Proof.Machine.execMoveReadReturn e i' s
  | .ptpMessageTimer t => Sys2Proof.Machine.execPtpMessageTimer t s
  | .alertEnWrite v => Sys2Proof.Machine.execAlertEnWrite v s

end Sys2Proof.Machine
end

