-- ==== Sys2Proof/Machine/Idle.lean ====
section
/-!
DEFINITION. What passes of itself while no command waits: the clock (R342, R347).
-/
namespace Sys2Proof.Machine

/-- Units of the fraction in a nanosecond. -/
def nsUnit : Nat := 1000000000000

/-- The clock a nominal nanosecond later, at the present rate offset (R347). -/
def Clock.advance (c : Clock) : Clock :=
  let f := c.sub + ((nsUnit : Int) + c.adj).toNat
  { c with now := c.now + f / nsUnit, sub := f % nsUnit }

/-- One nominal nanosecond passes while no command waits. (DESIGN CHOICE, log entry 1) -/
def idle (s : State) : State :=
  ({ s.attribute (s.clk.advance.now - s.now) with clk := s.clk.advance } : State).alertStep

end Sys2Proof.Machine
end

