-- ==== Sys2Proof/WellFormed.lean ====
section
/-!
DEFINITION. Well-formed commands: the checks on operands that their types leave open. Every command has an effect on
every state; what is checked here is that its operands are ones that the module's surroundings can give it.
-/
namespace Sys2Proof

/-- An outcome of image checks spells whole SHA3-256 digests (R395). -/
def ImageCheck.wf (c : ImageCheck) : Bool :=
  c.ownerHash.length == 32 && c.digest.length == 32 && c.bodyDigest.length == 32

/-- A flit is 256 bytes (R313). -/
def Flit.wf (f : Flit) : Bool := f.bytes.length == 256

/-- The lasers of optical engine e: 136 of a leaf engine, 68 of a bypass engine (R287). -/
def laserExists (e l : Nat) : Bool := decide (l < if e < 16 then 136 else 68)

/-- A read of host memory that succeeds returns as many bytes as it names (R358); one that fails returns none. -/
def answerLength (status len want : Nat) : Bool := if status = 0 then len == want else len == 0

/-- The checks of one command. (DEDUCED, log entry 126) -/
def Instr.wf : Instr → Bool
  | .registerWrite _ bytes _ => decide (1 ≤ bytes.val)
  | .resetNAssert ns => decide (0 < ns)
  | .imageCheckDone c => c.wf
  | .bringupDone stackList groups => decide stackList.Nodup && decide groups.Nodup
  | .flashProgramDone c => c.wf
  | .secBurnOwnerHash bytes => bytes.length == 32
  | .easelRebalance _ moves => decide (moves.map (·.1)).Nodup
  | .laserAgeingTick e l _ _ _ => laserExists e l
  | .laserFail e l => laserExists e l
  | .spareWarmDone e l _ => laserExists e l
  | .takeoverSwitch e l => laserExists e l
  | .flitReceive _ _ _ f => f.wf
  | .controlFlitReceive _ _ f => f.wf
  | .ethFrameReceive _ bytes => decide (1 ≤ bytes.length)
  | .doorbellPageReturn status bytes => answerLength status bytes.length 256
  | .descriptorFetch _ status words => answerLength status words.length 16
  | .hmemResponse _ status bytes => decide (status.val = 0 ∨ bytes.length = 0)
  | .thermalSample _ _ dies stackList sites => dies.length == 4 && stackList.length == 4 && sites.length == 18
  | .domainOnDone _ wires => decide (wires.length ≤ 23)
  | .snapshotComplete fails _ => fails.all (fun v => decide (1 ≤ v.code.val))
  | .healthEvaluate fec => decide (fec.map (·.1)).Nodup
  | .ucodeLoadDone c => c.wf
  | .fabricIdWrite _ | .withdrawalDrainEnd | .warmResetRequest | .domainResetRequest _ | .coldReset | .resetNRelease
  | .firmwareWatchdog | .thermalHoldEnd | .hostBootTimeout | .bootBackoffExpiry | .hostImageGo _ | .bootRecordClear
  | .flashProgram _ _ | .flashErase _ | .secRaiseMinSvn | .attestReport | .attestReportDone | .attestReadEntry _
  | .attestWritePubkey | .headerArrival _ | .headerLookup _ _ | .packetAdmitRetry _ _ | .bankWriteRetry _ _ _
  | .packetTail _ | .ageLimitExpiry _ _ | .egressSchedule _ | .shaperEligible _ _ | .wheelOverflowRescan _
  | .shaperWrite _ _ _ | .policerBucketWrite _ _ _ _ | .markThresholdWrite _ _ | .reservationWrite _ _
  | .spillBlockWrite _ _ | .spillWriteConfirm _ _ | .spillBlockReturn _ _ _ | .nopathTimeout | .rateLimitRecover _
  | .depthRefresh _ | .easelWeightUpdate _ | .pathWeightWrite _ _ | .settleExpiry _ _ | .pathMarkReceive
  | .pathMarkAckSend | .pathMarkAckReceive | .markTimeout _ _ | .fwdWriteShadow _ _ | .fwdReadShadow _ _
  | .fwdReadActive _ _ | .fwdCommit _ | .epochReached | .shadowCopyDone | .mctWriteShadow _ | .mctReadShadow _
  | .mctReadActive _ | .mcastReplicate | .replicaAdmitRetry | .cnvWriteShadow _ | .cnvReadShadow _ | .cnvReadActive _
  | .cnvReadStatus _ | .cnvForce _ | .contextFreed _ | .contribReceive | .canvasIngestRetry | .segmentAreaGrant _ _ _
  | .batchWaitExpiry _ _ _ | .canvasBatchAdmit _ _ _ | .batchFolded _ _ _ | .segmentTimeout _ _ _
  | .segmentEncodeDone _ _ _ | .phaseMarkReceive | .childResultTimeout _ _ _ | .recoverCopyDone _
  | .engineParkRequest _ | .engineUnpark _ | .engineOfflineRequest _ | .engineResume _ | .laneRetireWrite _ _
  | .laneGroupSwap _ | .engineScrubDone _ | .keepExpiry _ | .rampStep _ | .governorStep _ _ _ | .engineFault _ _ _
  | .engineResetDone _ | .watchdogExpiry _ | .doorbellRead _ | .ringWrite _ | .ringRead _ | .ringStatusRead _
  | .energyWindowStart _ | .listAdmit _ | .palNop _ | .palBegin _ | .palEnd _ | .palFence _ | .fenceComplete _
  | .fenceTimeout _ | .palNotify _ | .notifyResponse _ | .palCkpt _ | .palMove _ | .moveWritePerformed _ _
  | .palRow _ | .palElem _ | .palXlane _ | .palConvert _ | .homeRequestReceive _ | .trackerAllocate _
  | .trackerLingerExpiry _ _ _ | .homeRequestPerform _ | .lineFill _ | .combiningLineExpiry _ | .responseReceive
  | .requestRetry _ _ | .requestTimerExpiry _ _ | .trackerForget _ _ _ | .windowWrite _ | .windowRead _
  | .heldRelease _ | .heldReleaseDest | .heldRead _ | .pageAlloc _ | .pageFree _ | .pageRead _ | .pageSetPin _
  | .fixGibWrite _ _ | .fixWindowMapped _ | .easelInterval _ _ _ _ _ _ _ | .pageCopyDone _ | .heatHalving
  | .spillMaxWrite _ | .stackRetireRequest _ | .stackDemoteDone _ | .stackRelocateDone _ | .stackFail _
  | .hbmScrub _ _ _ | .cxlPortEnable _ _ _ | .cxlRemove _ | .cxlRemoveDone _ | .cxlPortFail _ | .cxlRetrainTick _
  | .cxlDeviceEvent _ _ | .slotStart | .discoverReceive _ _ _ | .lcReadyReceive _ | .lcWithdrawReceive _
  | .peerSilenceTimeout _ | .prismListenEnd | .patternApply | .planeRetuneEnd | .patWriteShadow _ | .patReadShadow _
  | .patReadActive _ | .prismGuardWrite _ _ | .laserRead _ _ | .laserTakeoverRequest _ _ | .opticalLos _ _
  | .opticalLosClear _ _ | .opticalPowerWarning _ _ _ _ | .opticalOverload _ _ _ | .overloadClear _ _ | .laneLock _ _
  | .flitLock _ _ _ _ _ | .trainingStepTimeout _ | .trainingRestExpiry _ | .lcIdentReceive _ | .lcIdentTimer _
  | .ackTimeout _ _ | .linkSilenceTimeout _ | .laneFail _ _ | .laneRejoin _ _ | .timePacketTimer
  | .portEnableWrite _ _ | .portDrain _ | .portUndrain _ | .portDrainEnd _ | .portRetrain _ | .portReset _
  | .laneMaskWrite _ _ | .dieLinkDown _ | .dieLinkRetrain _ _ | .creditAnnounce _ | .macAgeingScan _
  | .ethWriteEntry _ _ _ | .ethReadEntry _ _ _ | .ethReadActive _ _ _ | .timeMeasurement _ | .timeSourceTimeout
  | .ppsEdge _ | .timeSet | .tb0Realign _ _ | .ptpMessageReceive _ | .hostLinkDown | .hostLinkUp _ | .nudgeReceive _
  | .doorbellPollTimer | .hostNop _ | .txPacket _ | .rxPost _ | .memRead _ | .memWrite _ | .memAtomic _
  | .hostRingEnable _ _ | .hostRingDisable _ _ | .auxRingEnable _ _ | .interruptModerationExpiry _ | .eventDeliver
  | .supplySample _ _ | .shedRelease | .supplyLogClear | .domainOn _ | .domainRetention _ | .domainOff _
  | .domainDrainEnd _ | .mstateRequest _ _ | .m3WakeTimer | .droopDetect _ | .droopRelease _ | .snapshotRequest
  | .snapshotTarget | .snapshotLock | .snapshotUnlock | .snapshotLockExpiry | .isolationRelease _ _
  | .queueHwmClear _ _ | .healthActionStart _ _ | .healthPinExpiry _ _ | .healthRead _ _ | .healthPin _ _
  | .healthUnpin _ _ | .maintLockGrant | .ucodeUpdate _ _ | .ucodeAnnounceTimeout | .i3cWake | .i3cEntdaa _
  | .i3cSetdasa _ _ | .i3cRstdaa | .i3cGetpid | .i3cGetbcr | .i3cGetdcr | .i3cGetstatus | .i3cEnec | .i3cDisec
  | .cxlPortTrained _ _ _ _ _ | .moveReadReturn _ _ | .ptpMessageTimer _ | .alertEnWrite _ => true

end Sys2Proof
end

