-- ==== Sys2Proof/Safety.lean ====
section
/-!
DEFINITION. The terms in which the claims are stated: the canonical form of the sparse tables, the parts of the state
and what leaves a part unchanged, and what a safe run is.
-/
namespace Sys2Proof.Machine

/-! ## Canonical form -/

/-- Switch memory in canonical form: keys strictly rising, no listed byte equal to what an unlisted one reads as, and so
for CXL bytes, poison and bad slices. -/
def Memory.wf (m : Memory) : Bool :=
  Tbl.wf (fun _ => (0 : Byte)) m.bytes && Tbl.wf (fun _ => none) m.cxlBytes && Tbl.wf (fun _ => false) m.poison && Tbl.wf (fun _ => false) m.badSlices

/-- The tables of registers, counters, domains, ports, links, peers, planes, home agents and crossings, and switch memory, in
canonical form. -/
def State.canonical (s : State) : Bool :=
  Tbl.wf regReset s.regs && Tbl.wf (fun _ => 0) s.cnt && Tbl.wf (fun _ => DomState.off) s.dom
    && Tbl.wf (fun _ => Port.init) s.ports && Tbl.wf (fun _ => Link.init) s.links && Tbl.wf (fun _ => Peer.init) s.peers
    && Tbl.wf (fun _ => Plane.init) s.planes && Tbl.wf (fun _ => Home.init) s.homes && s.mem.wf
    && Tbl.wf (fun _ => Crossing.init) s.xings

/-- Once the first-lock step has been taken TB0 is LOCKED or in HOLDOVER (R346). -/
def State.tb0Settled (s : State) : Bool := !s.timing.stepped || s.timing.st == .locked || s.timing.st == .holdover

/-- The command takes effect: it answers a next state, and that state has the property. -/
def Gives (c : Instr) (s : State) (p : State → Prop) : Prop := ∃ t, exec c s = .next t ∧ p t

/-- The next command of an engine's running list `r` is `w`: of the opcode, in its place, with its reserved bits zero, and
not yet in the journal (R221, R240). -/
def State.issues (s : State) (e op : Nat) (masks : List Nat) (r : Running) (w : List Word) : Prop :=
  s.fetchCmd e = some (r, w) ∧ (cw w 0).fld 31 24 = op ∧ r.recorded = false ∧ r.placed op = true
    ∧ reservedOk masks w = true

/-! ## Parts and frames -/

/-- The parts of the state: one for each of its fields. -/
inductive Field where
  /-- the clock -/
  | clk
  /-- the registers -/
  | regs
  /-- the counters -/
  | cnt
  /-- the power domains -/
  | dom
  /-- packets, cells and queues -/
  | dp
  /-- the forwarding and group tables -/
  | tab
  /-- egress scheduling -/
  | sched
  /-- the ports -/
  | ports
  /-- the links -/
  | links
  /-- the Prism peers -/
  | peers
  /-- the Prism planes -/
  | planes
  /-- Prism as a whole -/
  | prism
  /-- the lasers -/
  | optics
  /-- Canvas -/
  | canvas
  /-- Palette -/
  | pal
  /-- the home agents -/
  | homes
  /-- the requesters -/
  | req
  /-- switch memory and Easel -/
  | mem
  /-- TB0 and the local bases -/
  | timing
  /-- the host link and rings -/
  | host
  /-- maintenance activities -/
  | maint
  /-- the power controller -/
  | pwr
  /-- the MAC tables -/
  | macs
  /-- telemetry and health -/
  | tel
  /-- boot and the security root -/
  | boot
  /-- the I3C target -/
  | i3c
  /-- the orderly withdrawal -/
  | wd
  /-- the event queue -/
  | evq
  /-- events lost -/
  | evLost
  /-- events lost while PD02 was off -/
  | evLostOff
  /-- the crossings -/
  | xings
  /-- the cycles that the stall counters have judged -/
  | cyc
  /-- what the module has sent -/
  | out
  /-- the free values taken -/
  | free
  /-- the commands that wait -/
  | pending
deriving DecidableEq, Repr

/-- A part is the same in two states. -/
def Field.same : Field → State → State → Prop
  | .clk, s, t => t.clk = s.clk
  | .regs, s, t => t.regs = s.regs
  | .cnt, s, t => t.cnt = s.cnt
  | .dom, s, t => t.dom = s.dom
  | .dp, s, t => t.dp = s.dp
  | .tab, s, t => t.tab = s.tab
  | .sched, s, t => t.sched = s.sched
  | .ports, s, t => t.ports = s.ports
  | .links, s, t => t.links = s.links
  | .peers, s, t => t.peers = s.peers
  | .planes, s, t => t.planes = s.planes
  | .prism, s, t => t.prism = s.prism
  | .optics, s, t => t.optics = s.optics
  | .canvas, s, t => t.canvas = s.canvas
  | .pal, s, t => t.pal = s.pal
  | .homes, s, t => t.homes = s.homes
  | .req, s, t => t.req = s.req
  | .mem, s, t => t.mem = s.mem
  | .timing, s, t => t.timing = s.timing
  | .host, s, t => t.host = s.host
  | .maint, s, t => t.maint = s.maint
  | .pwr, s, t => t.pwr = s.pwr
  | .macs, s, t => t.macs = s.macs
  | .tel, s, t => t.tel = s.tel
  | .boot, s, t => t.boot = s.boot
  | .i3c, s, t => t.i3c = s.i3c
  | .wd, s, t => t.wd = s.wd
  | .evq, s, t => t.evq = s.evq
  | .evLost, s, t => t.evLost = s.evLost
  | .evLostOff, s, t => t.evLostOff = s.evLostOff
  | .xings, s, t => t.xings = s.xings
  | .cyc, s, t => t.cyc = s.cyc
  | .out, s, t => t.out = s.out
  | .free, s, t => t.free = s.free
  | .pending, s, t => t.pending = s.pending

/-- `t` differs from `s` in the listed parts alone. -/
def Only (ps : List Field) (s t : State) : Prop := ∀ p, p ∈ ps ∨ p.same s t

/-- A command's outcome, where it is a next state, differs from `s` in the listed parts alone. -/
def OnlyNext (ps : List Field) (s : State) (o : Host.Outcome State Fault Refusal) : Prop :=
  ∀ t, o = .next t → Only ps s t

/-! ## What each command can change -/

/-- The parts that raising an event can change: the counters and the event queue. -/
def evParts : List Field := [.cnt, .evq, .evLost, .evLostOff]

/-- The parts that passing time can change: the clock, counters, crossings, ALERT_N. -/
def timeParts : List Field := [.clk, .cnt, .i3c, .xings, .cyc, .out]

/-- The parts that taking a port down or training it can change, beside the events: its queues, its links, its peers' planes. -/
def portParts : List Field := [.dp, .sched, .ports, .links, .planes, .prism, .host, .maint, .out, .free]

/-- The parts that turning a domain on or off can change. -/
def domParts : List Field :=
  [.regs, .dom, .dp, .tab, .sched, .ports, .links, .peers, .planes, .prism, .optics, .canvas, .pal, .homes, .req, .mem,
   .host, .maint, .pwr, .macs, .tel, .boot, .xings, .out, .free]

/-- The frame of a command: the parts of the state that it may change; it leaves every other part as it is. -/
def frameOf : Instr → List Field
  | .registerWrite .. => domParts ++ evParts ++ [.clk, .timing, .wd]
  | .fabricIdWrite .. => portParts ++ evParts ++ [.regs, .peers, .wd]
  | .withdrawalDrainEnd .. | .supplySample .. | .thermalSample ..
      => domParts ++ timeParts ++ evParts ++ [.timing, .wd]
  | .warmResetRequest .. | .firmwareWatchdog .. => evParts ++ [.regs, .maint, .pwr, .boot, .wd, .out]
  | .domainResetRequest .. | .resetNRelease .. | .domainOn .. | .domainRetention .. | .domainOff ..
  | .snapshotComplete .. | .isolationRelease .. | .maintLockGrant .. => domParts ++ evParts
  | .coldReset ..
      => timeParts ++ evParts ++ [.regs, .dom, .dp, .tab, .sched, .ports, .links, .peers, .planes, .prism, .optics,
        .canvas, .pal, .homes, .req, .mem, .timing, .host, .maint, .pwr, .macs, .tel, .boot, .wd]
  | .resetNAssert ..
      => evParts ++ [.regs, .dom, .dp, .tab, .sched, .ports, .links, .peers, .planes, .prism, .optics, .canvas,
        .pal, .homes, .req, .mem, .timing, .host, .maint, .pwr, .macs, .tel, .boot, .i3c, .wd, .xings, .cyc, .out]
  | .thermalHoldEnd .. | .domainDrainEnd .. => domParts ++ timeParts ++ evParts
  | .imageCheckDone .. | .secRaiseMinSvn .. | .secBurnOwnerHash .. | .attestReport .. => evParts ++ [.regs, .boot]
  | .hostBootTimeout .. | .bootBackoffExpiry .. | .bootRecordClear .. => timeParts ++ [.regs, .boot]
  | .hostImageGo .. => [.regs, .boot]
  | .bringupDone .. => domParts ++ evParts ++ [.timing, .wd]
  | .flashProgram .. | .flashErase .. | .flashProgramDone .. => evParts ++ [.regs, .maint, .boot]
  | .attestReportDone .. => evParts ++ [.regs, .host, .boot, .out, .free]
  | .attestReadEntry .. | .supplyLogClear .. => [.regs]
  | .attestWritePubkey .. => [.regs, .host, .out]
  | .headerArrival .. => [.cnt, .dp, .cyc]
  | .headerLookup .. => timeParts ++ [.dp, .sched, .ports, .links, .prism, .host, .free]
  | .packetAdmitRetry .. => [.cnt, .dp, .ports, .links, .prism, .host, .out, .free]
  | .bankWriteRetry .. => [.cnt, .dp, .links, .cyc]
  | .packetTail .. => [.cnt, .dp, .sched, .links, .prism, .req, .host, .macs, .xings, .out]
  | .ageLimitExpiry .. | .nopathTimeout .. => timeParts ++ [.dp, .links, .prism, .host]
  | .egressSchedule .. => [.cnt, .dp, .sched, .links, .prism, .req, .host, .xings, .out]
  | .shaperEligible .. => timeParts ++ [.sched]
  | .wheelOverflowRescan .. => [.sched]
  | .shaperWrite .. | .policerBucketWrite .. => evParts ++ [.regs, .sched]
  | .markThresholdWrite .. | .reservationWrite .. | .fwdReadShadow .. | .fwdReadActive .. | .mctReadShadow ..
  | .mctReadActive .. | .cnvReadShadow .. | .cnvReadActive .. | .cnvReadStatus .. | .ringRead ..
  | .ringStatusRead .. | .windowRead .. | .heldRead .. | .pageRead .. | .patReadShadow .. | .patReadActive ..
  | .prismGuardWrite .. | .laserRead .. | .ethReadEntry .. | .ethReadActive .. | .healthRead .. => evParts ++ [.regs]
  | .spillBlockWrite .. => timeParts ++ [.dp, .mem]
  | .spillWriteConfirm .. | .pathMarkAckSend .. => [.dp]
  | .spillBlockReturn .. => [.cnt, .dp, .sched, .links, .host, .out]
  | .rateLimitRecover .. | .depthRefresh .. => timeParts ++ [.dp]
  | .easelWeightUpdate .. | .pathWeightWrite ..
      => evParts ++ [.regs, .dp, .sched, .ports, .links, .prism, .host, .out, .free]
  | .easelRebalance .. => evParts ++ [.dp, .sched, .ports, .links, .prism, .host, .out, .free]
  | .settleExpiry .. | .markTimeout .. => timeParts ++ evParts ++ [.dp, .ports, .links, .prism, .host, .free]
  | .pathMarkReceive .. => [.cnt, .dp, .links, .homes]
  | .pathMarkAckReceive .. => evParts ++ [.dp, .ports, .links, .prism, .req, .host, .xings, .out, .free]
  | .fwdWriteShadow .. | .fwdCommit .. | .mctWriteShadow .. => evParts ++ [.regs, .tab]
  | .epochReached .. => timeParts ++ evParts ++ [.dp, .tab, .ports, .links, .prism, .canvas, .req, .host, .free]
  | .shadowCopyDone .. => [.tab]
  | .mcastReplicate .. => [.cnt, .dp, .links, .prism, .canvas, .host, .out, .free]
  | .replicaAdmitRetry .. => [.cnt, .dp, .links, .prism]
  | .cnvWriteShadow .. => evParts ++ [.regs, .canvas]
  | .cnvForce .. => evParts ++ [.regs, .dp, .canvas]
  | .contextFreed .. => evParts ++ [.canvas]
  | .contribReceive .. => [.cnt, .dp, .canvas, .xings]
  | .canvasIngestRetry .. => [.cnt, .dp, .sched, .links, .prism, .canvas, .req, .host, .xings, .out]
  | .segmentAreaGrant .. => [.canvas]
  | .batchWaitExpiry .. => timeParts ++ [.canvas]
  | .canvasBatchAdmit .. => evParts ++ [.dp, .canvas, .pal]
  | .batchFolded .. | .recoverCopyDone .. => evParts ++ [.dp, .canvas]
  | .segmentTimeout .. => timeParts ++ evParts ++ [.dp, .canvas]
  | .segmentEncodeDone .. => [.cnt, .dp, .prism, .canvas]
  | .phaseMarkReceive .. => [.cnt, .dp, .prism, .canvas, .xings]
  | .childResultTimeout .. => timeParts ++ [.dp, .canvas]
  | .engineParkRequest .. | .engineOfflineRequest .. | .laneGroupSwap .. | .engineResetDone ..
      => evParts ++ [.regs, .dp, .canvas, .pal, .homes, .mem, .maint]
  | .engineUnpark .. => evParts ++ [.regs, .dp, .canvas, .pal]
  | .engineResume .. => evParts ++ [.pal, .maint]
  | .laneRetireWrite .. => evParts ++ [.regs, .maint]
  | .engineScrubDone .. => evParts ++ [.dp, .canvas, .pal, .homes, .mem, .maint]
  | .keepExpiry .. | .rampStep .. => timeParts ++ evParts ++ [.dp, .canvas, .pal, .homes, .mem, .maint]
  | .governorStep .. => timeParts ++ evParts ++ [.dp, .canvas, .pal]
  | .engineFault .. => evParts ++ [.regs, .dp, .canvas, .pal, .tel]
  | .watchdogExpiry .. => timeParts ++ evParts ++ [.regs, .dp, .canvas, .pal, .tel]
  | .doorbellRead .. => evParts ++ [.pal, .homes, .mem]
  | .ringWrite .. => evParts ++ [.regs, .pal, .homes, .mem]
  | .energyWindowStart .. => timeParts ++ evParts ++ [.regs, .dp, .canvas, .pal]
  | .listAdmit .. => evParts ++ [.dp, .canvas, .pal, .homes, .mem]
  | .palNop .. | .palBegin .. | .palEnd .. | .palFence .. | .fenceComplete .. | .notifyResponse ..
  | .palCkpt .. | .palMove .. | .moveWritePerformed .. | .palRow .. | .palElem .. | .palXlane ..
  | .palConvert .. | .moveReadReturn .. => evParts ++ [.dp, .canvas, .pal, .homes, .mem, .maint, .free]
  | .fenceTimeout .. => timeParts ++ evParts ++ [.dp, .canvas, .pal, .homes, .mem, .maint, .free]
  | .palNotify .. => evParts ++ [.dp, .canvas, .pal, .homes, .req, .mem, .maint, .free]
  | .homeRequestReceive .. => [.cnt, .dp, .homes, .xings]
  | .trackerAllocate .. => [.homes]
  | .trackerLingerExpiry .. => timeParts ++ [.homes]
  | .homeRequestPerform .. | .lineFill .. => [.cnt, .dp, .pal, .homes, .mem]
  | .combiningLineExpiry .. => timeParts ++ [.homes, .mem]
  | .responseReceive .. => evParts ++ [.dp, .ports, .links, .prism, .pal, .req, .host, .xings, .out, .free]
  | .requestRetry .. => timeParts ++ [.dp, .req]
  | .requestTimerExpiry .. => timeParts ++ evParts ++ [.dp, .pal, .req, .host]
  | .trackerForget .. => evParts ++ [.regs, .homes]
  | .windowWrite .. => evParts ++ [.regs, .req]
  | .heldRelease .. | .heldReleaseDest .. => evParts ++ [.regs, .dp, .pal, .req, .host, .out]
  | .pageAlloc .. | .pageFree .. | .fixGibWrite .. | .stackFail .. => evParts ++ [.regs, .homes, .mem]
  | .pageSetPin .. | .fixWindowMapped .. => evParts ++ [.regs, .mem]
  | .easelInterval .. => timeParts ++ evParts ++ [.regs, .dp, .mem]
  | .pageCopyDone .. => [.cnt, .homes, .mem]
  | .heatHalving .. => timeParts ++ [.mem]
  | .spillMaxWrite .. => evParts ++ [.regs, .dp, .sched, .links, .host, .out]
  | .stackRetireRequest .. | .stackRelocateDone .. | .cxlRemove .. => evParts ++ [.regs, .mem, .maint]
  | .stackDemoteDone .. => evParts ++ [.mem]
  | .hbmScrub .. => evParts ++ [.regs, .homes, .mem, .tel]
  | .cxlPortEnable .. | .cxlRemoveDone .. | .cxlPortFail .. => evParts ++ [.regs, .dp, .mem, .maint]
  | .cxlRetrainTick .. => timeParts ++ evParts ++ [.regs, .mem]
  | .cxlDeviceEvent .. => evParts
  | .slotStart ..
      => timeParts ++ evParts ++ [.dp, .sched, .ports, .links, .peers, .planes, .prism, .canvas, .host, .free]
  | .discoverReceive ..
      => evParts ++ [.dp, .sched, .ports, .links, .peers, .planes, .prism, .canvas, .host, .out, .free]
  | .lcReadyReceive .. => [.cnt, .dp, .ports, .links, .peers, .planes, .prism, .host, .out, .free]
  | .lcWithdrawReceive .. => evParts ++ [.dp, .sched, .ports, .links, .peers, .prism, .host, .out, .free]
  | .peerSilenceTimeout ..
      => timeParts ++ evParts ++ [.dp, .sched, .ports, .links, .peers, .prism, .canvas, .host, .free]
  | .prismListenEnd .. => timeParts ++ evParts ++ [.dp, .sched, .ports, .links, .planes, .prism, .host, .free]
  | .patternApply .. => timeParts ++ evParts ++ [.regs, .ports, .planes, .prism]
  | .planeRetuneEnd .. => timeParts ++ evParts ++ [.regs, .dp, .sched, .ports, .links, .planes, .prism, .host, .free]
  | .patWriteShadow .. => evParts ++ [.regs, .prism]
  | .laserTakeoverRequest .. => evParts ++ [.regs, .optics, .maint]
  | .spareWarmDone .. => evParts ++ [.optics, .maint]
  | .takeoverSwitch .. => evParts ++ [.ports, .optics, .maint, .out]
  | .laserFail .. => portParts ++ evParts ++ [.optics]
  | .laserAgeingTick .. => [.optics]
  | .opticalLos .. | .opticalOverload .. | .laneFail .. | .portRetrain .. => portParts ++ evParts
  | .opticalLosClear .. | .laneRejoin .. => [.ports]
  | .opticalPowerWarning .. => evParts ++ [.optics]
  | .overloadClear .. => [.ports, .out]
  | .laneLock .. | .flitLock .. => evParts ++ [.dp, .ports, .links, .planes, .prism, .host, .out, .free]
  | .trainingStepTimeout .. => timeParts ++ evParts ++ [.dp, .ports, .links, .planes, .prism, .host, .free]
  | .trainingRestExpiry .. => timeParts ++ [.ports]
  | .lcIdentReceive .. => evParts ++ [.dp, .sched, .ports, .links, .planes, .prism, .host, .out, .free]
  | .lcIdentTimer .. | .timePacketTimer .. => [.cnt, .out]
  | .flitReceive .. => evParts ++ [.dp, .ports, .links, .peers, .xings, .out]
  | .controlFlitReceive .. => portParts ++ evParts ++ [.peers]
  | .ackTimeout .. => portParts ++ timeParts ++ evParts ++ [.peers, .canvas]
  | .linkSilenceTimeout .. => portParts ++ timeParts ++ evParts
  | .portEnableWrite .. | .portReset .. | .laneMaskWrite .. => portParts ++ evParts ++ [.regs]
  | .portDrain .. | .portUndrain ..
      => evParts ++ [.regs, .dp, .sched, .ports, .links, .prism, .host, .maint, .out, .free]
  | .portDrainEnd .. => timeParts ++ evParts ++ [.dp, .sched, .ports, .links, .prism, .host, .maint, .free]
  | .dieLinkDown .. => portParts ++ evParts ++ [.regs, .canvas, .pal, .homes, .mem, .pwr, .boot, .xings]
  | .dieLinkRetrain ..
      => timeParts ++ evParts ++ [.regs, .dp, .ports, .links, .prism, .canvas, .pal, .host, .pwr, .free]
  | .creditAnnounce .. => evParts ++ [.regs, .maint, .tel, .boot, .xings]
  | .ethFrameReceive .. => [.cnt, .dp, .ports]
  | .macAgeingScan .. => [.macs]
  | .ethWriteEntry .. => evParts ++ [.regs, .tab, .macs]
  | .timeMeasurement .. => evParts ++ [.clk, .tab, .prism, .timing, .macs, .tel, .free]
  | .timeSourceTimeout .. => timeParts ++ evParts ++ [.timing]
  | .ppsEdge .. | .timeSet .. => evParts ++ [.clk, .tab, .prism, .timing, .macs, .tel]
  | .tb0Realign .. => evParts ++ [.timing, .tel]
  | .ptpMessageReceive .. => evParts ++ [.clk, .tab, .prism, .timing, .macs, .tel, .out, .free]
  | .hostLinkDown .. => evParts ++ [.regs, .host, .boot]
  | .hostLinkUp .. | .doorbellPageReturn .. | .descriptorFetch .. | .eventDeliver .. => evParts ++ [.host, .out]
  | .nudgeReceive .. | .hostNop .. | .txPacket .. | .rxPost .. => [.cnt, .host, .out]
  | .doorbellPollTimer .. | .interruptModerationExpiry .. => timeParts ++ [.host]
  | .hmemResponse .. => evParts ++ [.dp, .links, .prism, .req, .host, .out]
  | .memRead .. | .memWrite .. | .memAtomic .. => [.cnt, .dp, .req, .host, .out]
  | .hostRingEnable .. | .hostRingDisable .. | .auxRingEnable .. => evParts ++ [.regs, .host, .out]
  | .shedRelease .. | .m3WakeTimer .. => domParts ++ timeParts ++ evParts ++ [.wd]
  | .domainOnDone .. => domParts ++ evParts ++ [.timing]
  | .mstateRequest .. | .i3cWake .. => domParts ++ evParts ++ [.wd]
  | .droopDetect .. => [.cnt, .pwr]
  | .droopRelease .. => [.pwr]
  | .snapshotRequest .. => evParts ++ [.tel]
  | .snapshotTarget .. => timeParts ++ evParts ++ [.dp, .sched, .prism, .canvas, .pal, .tel]
  | .snapshotLock .. | .snapshotUnlock .. => evParts ++ [.regs, .tel]
  | .snapshotLockExpiry .. => timeParts ++ [.regs, .tel]
  | .queueHwmClear .. => evParts ++ [.dp]
  | .healthEvaluate .. | .healthActionStart ..
      => timeParts ++ evParts ++ [.regs, .dp, .sched, .ports, .links, .prism, .optics, .canvas, .pal, .homes, .mem,
        .host, .maint, .tel, .free]
  | .healthPinExpiry .. => timeParts ++ evParts ++ [.pal, .tel]
  | .healthPin .. | .healthUnpin .. => evParts ++ [.regs, .pal, .tel]
  | .ucodeUpdate .. => evParts ++ [.regs, .maint, .tel]
  | .ucodeLoadDone .. => timeParts ++ evParts ++ [.regs, .dp, .sched, .links, .host, .maint, .tel]
  | .ucodeAnnounceTimeout .. => timeParts ++ evParts ++ [.regs, .maint, .tel]
  | .i3cEntdaa .. | .i3cSetdasa .. | .i3cRstdaa .. | .i3cEnec .. | .i3cDisec .. => [.i3c]
  | .i3cGetpid .. | .i3cGetbcr .. | .i3cGetdcr .. => [.out]
  | .i3cGetstatus .. => [.out, .free]
  | .cxlPortTrained .. => timeParts ++ evParts ++ [.regs, .mem, .maint]
  | .ptpMessageTimer .. => [.timing, .out]
  | .alertEnWrite .. => [.i3c, .out]

/-- The offsets of `n` consecutive registers. -/
def regWords (off n : Nat) : List Nat := (List.range n).map (fun i => off + 4 * i)

/-- The registers that a command may write, by their offsets, where it is told which: those that answer it, those that it names, and
those that show what it does. None: not told (a reset, a domain taken up or down, a write of any register). -/
def State.regsWritten (s : State) (c : Instr) : Option (List Nat) :=
  match c with
  | .attestReadEntry .. => some (R.GLB_ATT_STAT :: regWords (R.GLB_ATT_DATA 0) 16)
  | .supplyLogClear => some [R.PWR_SUPPLY_LOG]
  | .hostImageGo .. => some [R.GLB_HOST_IMG_CTL]
  | .attestWritePubkey | .attestReport .. | .attestReportDone .. | .hostLinkDown => some [R.GLB_ATT_STAT]
  | .firmwareWatchdog => some [R.GLB_BOOT_STAT, R.GLB_RST_STAT]
  | .bootBackoffExpiry | .bootRecordClear | .hostBootTimeout => some [R.GLB_BOOT_STAT]
  | .imageCheckDone .. => some [R.GLB_BOOT_STAT, R.GLB_ATT_STAT]
  | .warmResetRequest => some [R.GLB_RST_STAT]
  | .secRaiseMinSvn | .secBurnOwnerHash .. => some [R.GLB_SEC_STAT, R.GLB_ATT_STAT]
  | .flashErase .. | .flashProgram .. | .flashProgramDone .. => some [R.GLB_FLASH_STAT]
  | .snapshotLockExpiry | .snapshotLock | .snapshotUnlock => some [R.TEL_SNAP_CTRL]
  | .ethReadActive .. | .ethReadEntry .. => some (R.ETH_STAT :: regWords (R.ETH_DATA 0) 5)
  | .ethWriteEntry .. => some [R.ETH_STAT]
  | .fwdReadShadow _ i =>
    some (R.BUF_FWD_STAT :: regWords (R.BUF_FWD_DATA 0) (max 4 (Tbl.get (fun _ => leafZero) s.tab.leafShadow i).length))
  | .fwdReadActive _ i =>
    some (R.BUF_FWD_STAT :: regWords (R.BUF_FWD_DATA 0) (max 4 (Tbl.get (fun _ => leafZero) s.tab.leafActive i).length))
  | .fwdWriteShadow .. => some [R.BUF_FWD_STAT]
  | .fwdCommit .. => some [R.BUF_FWD_GEN_CTRL, R.BUF_FWD_STAT]
  | .mctReadShadow g =>
    some (R.MCT_STAT :: regWords (R.MCT_DATA 0) (Tbl.get (fun _ => groupZero) s.tab.grpShadow g).length)
  | .mctReadActive g =>
    some (R.MCT_STAT :: regWords (R.MCT_DATA 0) (Tbl.get (fun _ => groupZero) s.tab.grpActive g).length)
  | .mctWriteShadow .. => some [R.MCT_STAT]
  | .cnvReadShadow n =>
    some (R.CNV_STAT :: regWords (R.CNV_DATA 0) (Tbl.get (fun _ => ctxZero) s.canvas.shadow n).length)
  | .cnvReadActive n => some (R.CNV_STAT :: regWords (R.CNV_DATA 0) (max 42 (s.ctx n).entry.length))
  | .cnvReadStatus .. => some (R.CNV_STAT :: regWords (R.CNV_DATA 0) 6)
  | .cnvWriteShadow .. | .cnvForce .. => some [R.CNV_STAT]
  | .ringRead r => some (R.PAL_RING_STAT :: regWords (R.PAL_RING_DATA 0) (s.palRing r).entry.length)
  | .ringStatusRead .. => some (R.PAL_RING_STAT :: regWords (R.PAL_RING_DATA 0) 4)
  | .ringWrite .. => some [R.PAL_RING_STAT]
  | .laserRead .. => some (R.OPT_LASER_STAT :: regWords (R.OPT_LASER_DATA 0) 4)
  | .laserTakeoverRequest .. => some [R.OPT_LASER_STAT]
  | .pageRead .. => some (R.MEM_PAGE_STAT :: regWords (R.MEM_PAGE_DATA 0) 4)
  | .pageAlloc .. | .pageFree .. | .pageSetPin .. => some [R.MEM_PAGE_STAT]
  | .patReadShadow p =>
    some (R.OPT_PAT_STAT :: regWords (R.OPT_PAT_DATA 0) (Tbl.get (fun _ => patZero) s.prism.patShadow p).length)
  | .patReadActive p =>
    some (R.OPT_PAT_STAT :: regWords (R.OPT_PAT_DATA 0) (Tbl.get (fun _ => patZero) s.prism.patActive p).length)
  | .patWriteShadow .. => some [R.OPT_PAT_STAT]
  | .patternApply .. | .planeRetuneEnd .. => some [R.OPT_PRISM_STAT]
  | .prismGuardWrite ctrl _ => some [R.OPT_PRISM_STAT, if ctrl then R.OPT_PRISM_CTRL else R.OPT_PRISM_GUARD]
  | .windowRead i =>
    some (R.MEM_WIN_STAT :: regWords (R.MEM_WIN_DATA 0) (Tbl.get (fun _ => windowZero) s.req.windows i).length)
  | .windowWrite .. => some [R.MEM_WIN_STAT]
  | .heldRead .. => some (R.MEM_HELD_STAT :: regWords (R.MEM_HELD_DATA 0) 4)
  | .heldRelease .. | .heldReleaseDest => some [R.MEM_HELD_STAT]
  | .trackerForget d _ _ => some [R.MEM_HA_TRK_STAT d]
  | .healthRead .. => some [R.TEL_HEALTH_STAT, R.TEL_HEALTH_DATA_0, R.TEL_HEALTH_DATA_1]
  | .healthPin .. | .healthUnpin .. => some [R.TEL_HEALTH_STAT]
  | .reservationWrite r _ => some [R.BUF_ADM_STAT, rsvOff r]
  | .markThresholdWrite t _ => some [R.BUF_ADM_STAT, R.BUF_MARK t]
  | .policerBucketWrite port tc second _ =>
    some [if second then R.PL_POL_P (port / 64) (port % 64) tc else R.PL_POL_C (port / 64) (port % 64) tc]
  | .shaperWrite e i _ => some [R.PL_SHP (e / 64) (e % 64) i]
  | .pathWeightWrite port _ | .easelWeightUpdate port => some [R.PL_PATH_WEIGHT (port / 64) (port % 64)]
  | .portDrain port => some [portCtrl port, R.PL_PATH_WEIGHT (port / 64) (port % 64)]
  | .portUndrain port | .laneMaskWrite port _ | .portEnableWrite port _ => some [portCtrl port]
  | .portReset port => some (portRegs port)
  | .dieLinkRetrain n _ => some [R.GLB_D2D_STAT n]
  | .dieLinkDown n => some [R.GLB_D2D_STAT n, R.GLB_ATT_STAT]
  | .creditAnnounce .. => some (R.GLB_ATT_STAT :: R.TEL_UCODE_STAT :: (List.range 23).map R.GLB_D2D_STAT)
  | .ucodeLoadDone .. | .ucodeAnnounceTimeout => some (R.TEL_UCODE_STAT :: (List.range 23).map R.GLB_D2D_STAT)
  | .ucodeUpdate .. => some [R.TEL_UCODE_STAT]
  | .hostRingEnable r _ | .hostRingDisable r _ => some [R.HLK_CR_CFG r]
  | .auxRingEnable tel _ => some [auxCfg tel]
  | .fixGibWrite d _ | .fixWindowMapped d => some [R.MEM_FIX_GIB d]
  | .stackFail k => some [R.MEM_STACK_STAT k]
  | .hbmScrub .. | .stackRelocateDone .. | .stackRetireRequest .. =>
    some (R.MEM_STACK_OPSTAT :: R.MEM_STACK_RETIRED :: (List.range 32).map R.MEM_STACK_STAT)
  | .cxlPortEnable k _ _ | .cxlRemove k | .cxlRemoveDone k | .cxlPortFail k | .cxlRetrainTick k =>
    some [R.CXL_PORT_CTRL k, R.CXL_PORT_STAT k]
  | .cxlPortTrained k _ _ _ _ => some [R.CXL_PORT_STAT k]
  | .spillMaxWrite .. => some [R.MEM_EASEL_SPACE]
  | .easelInterval .. => some (R.MEM_SPILL_GRANT :: (List.range 4).map R.MEM_DIE_LOAD)
  | .engineUnpark e | .engineParkRequest e | .engineOfflineRequest e => some [R.PAL_ENG_CTRL e]
  | .engineFault e _ _ | .watchdogExpiry e => some [R.PAL_FAULT_STAT e]
  | .laneRetireWrite e _ => some [R.PAL_LANE_RETIRE e]
  | .laneGroupSwap e | .engineResetDone e => some [R.PAL_LANE_MAP e, R.PAL_LANE_RETIRE e]
  | .energyWindowStart d => some [R.PAL_DIE_BUDGET d]
  | .fabricIdWrite .. => some [R.GLB_FABRIC_ID]
  | c => if Field.regs ∈ frameOf c then none else some []

/-! ## Safe runs -/

/-- A step is safe: it ends neither in a fault nor in a refusal. -/
def State.stepSafe (s : State) : Bool :=
  match step s with
  | .next _ => true
  | .fault _ => false
  | .refused _ => false

/-- The waiting commands are well formed. -/
def State.pendingWf (s : State) : Bool := s.pending.all Instr.wf

end Sys2Proof.Machine
end

