-- ==== Sys2Proof/Certificates/Slice0/Obligations.lean ====
section
/-! DEFINITION. The statements for the provers, one definition each. Where a statement rests on a choice of the model,
its docstring says so and names the log entry. -/

open Sys2Proof Sys2Proof.Machine

/-- With a command at the front of the queue, a step is that command's effect on the state without it. -/
def Obligations.StepRunsTheOldestCommand : Prop :=
  ∀ (c : Instr) (rest : List Instr) (s : State),
    step { s with pending := c :: rest } = exec c { s with pending := rest }

/-- With no command waiting, a step lets one nominal nanosecond pass (the model's choice, log entry 1): the clock advances
by it at the present rate offset, and besides the clock only the counters, the I3C target and the outputs can change. -/
def Obligations.IdleStepPassesTime : Prop :=
  ∀ s : State, s.pending = [] →
    ∃ t, step s = .next t ∧ t.clk = s.clk.advance ∧ t.clk.tb0Off = s.clk.tb0Off
      ∧ Only [.clk, .cnt, .i3c, .out] s t

/-- Every command answers a next state, whatever its operands and the state: the only exception is a low of RESET_N of 1
µs or more and less than 10 µs, whose outcome the spec leaves undefined. The model's choices in it: log entries 2 and
142. -/
def Obligations.EveryCommandAnswersANextState : Prop :=
  ∀ (c : Instr) (s : State), (∀ ns, c = .resetNAssert ns → ns < 1000 ∨ 10000 ≤ ns) → ∃ t, exec c s = .next t

/-- Every command leaves unchanged each part of the state outside its frame, which is written out for all 270 of them
(`frameOf`); the queue of waiting commands is in none; and a command whose frame holds neither memory nor the home
agents leaves every byte of memory reading as before. -/
def Obligations.EveryCommandKeepsItsFrame : Prop :=
  ∀ (c : Instr) (s : State),
    OnlyNext (frameOf c) s (exec c s) ∧ Field.pending ∉ frameOf c
      ∧ (Field.mem ∉ frameOf c → Field.homes ∉ frameOf c → ∀ t, exec c s = .next t → ∀ a, t.readByte a = s.readByte a)

/-- Every command for which `regsWritten` names the registers that it may write leaves every other register reading as
before: its own status register, the data registers that a table's read answers, and the registers that it names. -/
def Obligations.RegistersAreWrittenWhereNamed : Prop :=
  ∀ (c : Instr) (l : List Nat) (s t : State), s.canonical = true → s.regsWritten c = some l → exec c s = .next t →
    ∀ off, off ∉ l → t.rd off = s.rd off

/-- The state after reset is in canonical form keeps the invariant of TB0, no crossing of it is announced, its queue is
empty and PD01 alone is on. -/
def Obligations.ResetIsCanonical : Prop :=
  State.reset.canonical = true ∧ State.reset.tb0Settled = true ∧ State.reset.pending = []
    ∧ State.reset.xings = []
    ∧ ∀ n, State.reset.on n = true ↔ n = 1

/-- Every step keeps the canonical form: registers, counters, domains, ports, links, peers, planes, home agents and switch
memory stay listed in rising order with no entry equal to what an unlisted one reads as. -/
def Obligations.EveryStepKeepsCanonicalForm : Prop :=
  ∀ s t : State, s.canonical = true → step s = .next t → t.canonical = true

/-- The identity of the crossings (R38, R42). From every state in which each crossing that its consumer has announced has
its depth D as the sum of the producer's credits, the entries in its FIFO and the credits in flight back, a step gives
such a state again: a send, a take, a discard, an announcement and a shut-down all keep the sum. The model's choices
in it: log entry 157. -/
def Obligations.CrossingsKeepTheirIdentity : Prop :=
  ∀ s t : State, (∀ x, x ∈ s.xings → x.2.announced = true → x.2.credits + x.2.entries + x.2.flight = crossingDepth x.1) →
    step s = .next t →
    ∀ x, x ∈ t.xings → x.2.announced = true → x.2.credits + x.2.entries + x.2.flight = crossingDepth x.1

/-- Resets and their conditions (R389, R443). A cold reset leaves the reset state but for what PD01 keeps: registers,
counters and memory empty, PD01 alone on, TB0 zero, lasers' records and fuses kept. A low of RESET_N of 10 µs or more
is a module reset that waits for release; at release a boot that is owed starts once the input has been good for 10 ms
and nothing is tripped, and otherwise only the pin changes. The end of a thermal hold clears the tripped sites 1 s
after they cooled. A low of RESET_N of less than 1 µs is ignored, and one of 1 µs or more and less than 10 µs has no
stated outcome: the command stops (R443). The model's choices in it: log entries 3, 137, 141 and 142. -/
def Obligations.ResetsTakeEffect : Prop :=
  (∀ s : State,
     Gives .coldReset s (fun t => t.regs = [] ∧ t.cnt = [] ∧ t.dom = [(1, .on)] ∧ t.mem = Memory.init ∧ t.now = s.now
       ∧ t.tb0 = 0 ∧ t.optics.lasers = s.optics.lasers ∧ t.boot.minSvn = s.boot.minSvnNext
       ∧ t.boot.ownerReq = s.boot.ownerReqNext ∧ t.boot.ownerHash = s.boot.ownerHashNext
       ∧ t.boot.erasedA = s.boot.erasedA ∧ t.boot.erasedB = s.boot.erasedB ∧ t.boot.waiting = true ∧ t.boot.kind = 0)
     ∧ (∀ ns, 10000 ≤ ns → s.boot.resetLow = false → s.on 1 = true →
         Gives (.resetNAssert ns) s (fun t => t.boot.resetLow = true ∧ t.boot.waiting = true ∧ t.boot.kind = 1
           ∧ t.boot.cause = 1 ∧ t.boot.rounds = 0 ∧ t.dom = [(1, .on)] ∧ t.mem = Memory.init ∧ t.homes = []
           ∧ t.dp = State.reset.dp ∧ t.wd = none))
     ∧ (s.boot.goodSince = none →
         exec .resetNRelease s = .next { s with boot := { s.boot with resetLow := false } })
     ∧ (∀ t0, s.boot.goodSince = some t0 → s.boot.waiting = true → s.boot.tripped = [] → t0 + 10000000 ≤ s.now →
         s.on 1 = true →
         exec .resetNRelease s = .next ({ s with boot := { s.boot with resetLow := false } } : State).startBoot.domainsGo)
     ∧ (∀ t0, s.boot.coolSince = some t0 → s.boot.goodSince = none →
         Gives .thermalHoldEnd s (fun t => t.boot.tripped = [] ∧ t.boot.coolSince = none
           ∧ t.now = max s.now (t0 + 1000000000))))
  ∧ (∀ (ns : Nat) (s : State),
       (ns < 1000 → exec (.resetNAssert ns) s = .next s)
       ∧ (1000 ≤ ns → ns < 10000 → exec (.resetNAssert ns) s = .fault .resetPulseUndefined))

/-- A boot that starts (R389, R394): the fuses as burnt take effect, a new measurement log holds its first entry, PHASE is
0b01, and the first source is tried. Warm and domain resets (R27, R389, R390): refused as busy before boot is
complete; otherwise a warm reset begins the withdrawal with a drain window of 100 µs, and a domain reset requests its
activity. The end of an orderly withdrawal and of bring-up (R27, R398). With an empty buffer, or at the end of the
window, the withdrawal of an identity is over; what is still held is dropped; at the end of bring-up PHASE is 0b11.
The model's choices in it: log entries 37, 137, 139 and 140. -/
def Obligations.BootAndResetRequestsTakeEffect : Prop :=
  (∀ s : State, s.canonical = true →
     s.startBoot.fld R.GLB_BOOT_STAT 31 30 = 1 ∧ s.startBoot.fld R.GLB_BOOT_STAT 29 28 = s.boot.first % 4
       ∧ s.startBoot.boot.minSvn = s.boot.minSvnNext ∧ s.startBoot.boot.ownerReq = s.boot.ownerReqNext
       ∧ s.startBoot.boot.ownerHash = s.boot.ownerHashNext ∧ s.startBoot.boot.waiting = false
       ∧ s.startBoot.boot.measured = 1 ∧ s.startBoot.boot.log.length = 1)
  ∧ (∀ s : State, s.canonical = true →
       (s.booted = false → Gives .warmResetRequest s (fun t => t.fld R.GLB_RST_STAT 3 0 = 2 ∧ t.wd = s.wd))
       ∧ (s.booted = true → s.wd = none →
           Gives .warmResetRequest s (fun t => t.fld R.GLB_RST_STAT 3 0 = 0 ∧ t.boot.cause = 0
             ∧ t.wd = some ⟨s.now + 100000, [.warmReset]⟩))
       ∧ (∀ n : Fin 32, domKnown n = false → Gives (.domainResetRequest n) s (fun t => t.fld R.GLB_RST_STAT 3 0 = 3 ∧ t.dom = s.dom))
       ∧ (∀ n : Fin 32, domKnown n = true → s.inTransit n = false → s.booted = true → s.wd = none → s.forcedDom n = none →
           exec (.domainResetRequest n) s
             = .next ((s.rstStatus 0).requestMaint (.domain n .reset) (State.startDomainOp n .reset))))
  ∧ (∀ s : State, s.canonical = true →
       (∀ w, s.wd = some w → w.causes = [.identity] → s.bufferEmpty = true →
           Gives .withdrawalDrainEnd s (fun t => t.wd = none ∧ t.now = s.now ∧ t.dom = s.dom))
       ∧ (∀ w, s.wd = some w → w.causes = [.identity] → s.bufferEmpty = false →
           Gives .withdrawalDrainEnd s (fun t => t.wd = none ∧ t.now = max s.now w.deadline ∧ t.dom = s.dom))
       ∧ (s.fld R.GLB_BOOT_STAT 31 30 = 2 → (∀ n, n ∈ upOrder → s.on n = true) → s.level = 0 → s.fld R.PWR_MSTATE 31 30 = 0 →
           s.pwr.m3 = false → s.wd = none → s.pwr.shed = [] → s.pwr.held = [] → s.pwr.ops = [] → s.pwr.bootDue = false →
           Gives (.bringupDone [] []) s (fun t => t.fld R.GLB_BOOT_STAT 31 30 = 3 ∧ t.booted = true
             ∧ t.boot.upAt = some s.now ∧ t.fld R.GLB_RST_STAT 31 29 = s.boot.kind % 8 ∧ t.dom = s.dom))
       ∧ (∀ stackList groups, s.fld R.GLB_BOOT_STAT 31 30 ≠ 2 → exec (.bringupDone stackList groups) s = .next s))

/-- The verification of an image and its failures (R394, R396, R397). A good image of slot A is handed over in PHASE 0b10
with its SVN, the source unchanged; an image that fails counts one failed attempt under its code. Flash slots (R400):
an erase with its lock free is done at once; a program marks its slot erased and runs behind its lock; its end leaves
the check's code, the slot erased again where the check failed, and BUSY clear. The model's choices in it: log entries
3, 138 and 141. -/
def Obligations.ImagesAndFlashSlotsAreChecked : Prop :=
  (∀ s : State, s.canonical = true →
     (∀ c, s.fld R.GLB_BOOT_STAT 31 30 = 1 → s.bootSource = 0 → s.boot.erasedA = false → s.boot.checkImage c none = 0 →
         Gives (.imageCheckDone c) s (fun t => t.fld R.GLB_BOOT_STAT 31 30 = 2 ∧ t.fld R.GLB_BOOT_STAT 29 28 = 0
           ∧ t.fld R.GLB_BOOT_STAT 6 0 = c.svn % 128 ∧ t.boot.fails = s.boot.fails))
     ∧ (∀ c, s.fld R.GLB_BOOT_STAT 31 30 = 1 → s.bootSource = 0 → s.boot.erasedA = false → s.boot.checkImage c none ≠ 0 →
         Gives (.imageCheckDone c) s (fun t => t.boot.fails = s.boot.fails + 1 ∧ t.boot.last = s.boot.checkImage c none
           ∧ t.boot.codeA = s.boot.checkImage c none))
     ∧ (∀ t0, s.boot.hostFrom = some t0 → s.host.up = false →
         Gives .hostBootTimeout s (fun t => t.boot.fails = s.boot.fails + 1 ∧ t.boot.last = 8
           ∧ t.now = max s.now (t0 + 100000000)))
     ∧ (∀ t0, s.boot.backoffEnd = some t0 →
         Gives .bootBackoffExpiry s (fun t => t.fld R.GLB_BOOT_STAT 31 30 = 1 ∧ t.fld R.GLB_BOOT_STAT 29 28 = 0
           ∧ t.boot.backoffEnd = none ∧ t.now = max s.now t0))
     ∧ (∀ len, s.fld R.GLB_BOOT_STAT 31 30 = 1 →
         Gives (.hostImageGo len) s (fun t => t.boot.go = true ∧ t.fld R.GLB_HOST_IMG_CTL 25 0 = len))
     ∧ (s.fld R.GLB_BOOT_STAT 31 30 = 2 →
         Gives .firmwareWatchdog s (fun t => t.boot.fails = s.boot.fails + 1 ∧ t.boot.last = 0x0A))
     ∧ (s.fld R.GLB_BOOT_STAT 31 30 = 3 → s.boot.upAt = none → s.wd = none →
         Gives .firmwareWatchdog s (fun t => t.boot.cause = 3 ∧ t.wd = some ⟨s.now + 100000, [.warmReset]⟩))
     ∧ (∀ t0, s.boot.upAt = some t0 →
         Gives .bootRecordClear s (fun t => t.boot.fails = 0 ∧ t.boot.codeA = 0 ∧ t.boot.codeB = 0 ∧ t.boot.codeHost = 0
           ∧ t.boot.upAt = none ∧ t.fld R.GLB_BOOT_STAT 27 20 = 0 ∧ t.fld R.GLB_BOOT_STAT 15 8 = 0
           ∧ t.now = max s.now (t0 + 60000000000))))
  ∧ (∀ s : State, s.canonical = true →
       (∀ slot, s.fld R.GLB_FLASH_STAT 31 31 = 0 → s.booted = false → s.maint = [] →
           Gives (.flashErase slot) s (fun t => t.boot.erased slot = true ∧ t.fld R.GLB_FLASH_STAT 31 31 = 0
             ∧ t.fld R.GLB_FLASH_STAT 3 0 = 0 ∧ t.maint = []))
       ∧ (∀ slot (len : Fin 67108864), s.fld R.GLB_FLASH_STAT 31 31 = 0 → s.booted = false → s.maint = [] → 0 < len.val →
           len.val ≤ 33554432 →
           Gives (.flashProgram slot len) s (fun t => t.boot.program = some (slot.val, len.val) ∧ t.boot.erased slot = true
             ∧ t.fld R.GLB_FLASH_STAT 31 31 = 1 ∧ t.maint = [(.flash slot false, true)]))
       ∧ (∀ (slot : Fin 2) (len : Fin 67108864), 33554432 < len.val → s.fld R.GLB_FLASH_STAT 31 31 = 0 →
           Gives (.flashProgram slot len) s (fun t => t.fld R.GLB_FLASH_STAT 3 0 = 3 ∧ t.boot = s.boot))
       ∧ (∀ c slot len, s.boot.program = some (slot, len) → s.maintRuns (.flash slot false) = true → slot < 2 →
           Gives (.flashProgramDone c) s (fun t => t.boot.program = none
             ∧ t.boot.erased slot = (s.boot.checkImage c none != 0)
             ∧ t.fld R.GLB_FLASH_STAT 15 8 = s.boot.checkImage c none ∧ t.fld R.GLB_FLASH_STAT 31 31 = 0)))

/-- Fuses (R405): MIN_SVN is raised to the SVN that runs and the owner hash is burnt, each with effect from the next boot
only; at a shedding level no fuse is burnt. Attestation (R402 to R404): a report takes the nonce and the log hash of
its request and runs until it is signed; a stored log entry is read into ATT_DATA; the public key goes to host memory.
A signature and a key are free values. The model's choices in it: log entries 137 and 139. -/
def Obligations.FusesAndAttestationAnswer : Prop :=
  (∀ s : State, s.canonical = true →
     (s.level = 0 → s.boot.minSvnNext < s.fld R.GLB_BOOT_STAT 6 0 →
         Gives .secRaiseMinSvn s (fun t => t.boot.minSvnNext = s.fld R.GLB_BOOT_STAT 6 0 ∧ t.boot.minSvn = s.boot.minSvn
           ∧ t.fld R.GLB_SEC_STAT 30 24 = s.fld R.GLB_BOOT_STAT 6 0 ∧ t.fld R.GLB_SEC_STAT 3 0 = 0))
     ∧ (∀ bytes : List Byte, bytes.length = 32 → s.level = 0 → s.boot.ownerReqNext = false →
         Gives (.secBurnOwnerHash bytes) s (fun t => t.boot.ownerHashNext = bytes ∧ t.boot.ownerReqNext = true
           ∧ t.boot.ownerReq = s.boot.ownerReq ∧ t.boot.ownerHash = s.boot.ownerHash
           ∧ t.fld R.GLB_SEC_STAT 31 31 = 1 ∧ t.fld R.GLB_SEC_STAT 3 0 = 0))
     ∧ (1 ≤ s.level → Gives .secRaiseMinSvn s (fun t => t.fld R.GLB_SEC_STAT 3 0 = 6 ∧ t.boot = s.boot)))
  ∧ (∀ s : State, s.canonical = true → s.host.up = true →
       (s.fld R.GLB_ATT_STAT 31 31 = 0 →
           Gives .attestReport s (fun t => t.fld R.GLB_ATT_STAT 31 31 = 1 ∧ t.fld R.GLB_ATT_STAT 3 0 = 0
             ∧ t.boot.report = some ((s.rdWords (R.GLB_NONCE 0) 8).flatMap Word.bytesLE, s.boot.logHash)))
       ∧ (∀ x, s.boot.report = some x →
           Gives .attestReportDone s (fun t => t.fld R.GLB_ATT_STAT 31 31 = 0 ∧ t.fld R.GLB_ATT_STAT 3 0 = 0
             ∧ t.boot.report = none ∧ t.free = s.free + 1))
       ∧ (∀ (i : Fin 256) e, s.fld R.GLB_ATT_STAT 31 31 = 0 → s.boot.log[i.val]? = some e →
           Gives (.attestReadEntry i) s (fun t => t.fld R.GLB_ATT_STAT 3 0 = 0
             ∧ ∀ w, w < 16 → t.rd (R.GLB_ATT_DATA 0 + 4 * w) = BitVec.ofNat 32 (natOfBytesLE ((e.drop (4 * w)).take 4))))
       ∧ (∀ (i : Fin 256), s.fld R.GLB_ATT_STAT 31 31 = 0 → s.boot.log[i.val]? = none →
           Gives (.attestReadEntry i) s (fun t => t.fld R.GLB_ATT_STAT 3 0 = 3))
       ∧ (s.fld R.GLB_ATT_STAT 31 31 = 0 →
           Gives .attestWritePubkey s (fun t => t.fld R.GLB_ATT_STAT 3 0 = 0
             ∧ t.out = (((HostWrite.data s.attAddr ((List.range 1312).map Config.identityKey)).parts).map Out.host).reverse
                 ++ s.out)))

/-- Headers into and out of the header queues (R77 to R79). Of a port's received headers the oldest whose VC's part holds
fewer than 16 joins that part, whatever stands before it; where it stands behind another, or every part is full, the
cycle counts as a stall, once. The header whose turn it is takes the pipeline's next slot and leaves its part, its
cells written. One that fails an ingress check is dropped under the reason of the first check that fails (R67). The
model's choices in it: log entries 20, 164 and 181. -/
def Obligations.HeadersAreQueuedAndChecked : Prop :=
  ∀ s : State, s.canonical = true →
    (∀ (port : Fin 1089) it, port.val < 1088 → s.islandHeld (6 + pipeOf port) = false →
        (s.rx port).find? (fun x => decide ((s.hq (pvKey port x.vc)).length < 16)) = some it →
        Gives (.headerArrival port) s (fun t => t.hq (pvKey port it.vc) = s.hq (pvKey port it.vc) ++ [it]
          ∧ t.dp.rx = Tbl.put (fun _ => []) s.dp.rx port ((s.rx port).filter (fun x => x.id != it.id))
          ∧ (s.hq (pvKey port it.vc) = [] → t.cnt = s.cnt)
          ∧ (s.hq (pvKey port it.vc) ≠ [] → Tbl.get (fun _ => 0) s.cyc (C.PL_HDR_STALL (pipeOf port)) ≤ cycle16 s.now →
              t.count (C.PL_HDR_STALL (pipeOf port)) = (s.count (C.PL_HDR_STALL (pipeOf port)) + 1) % 2 ^ 64)))
    ∧ (∀ it, s.islandHeld 23 = false →
        (s.rx 1088).find? (fun x => decide ((s.hq (pvKey 1088 x.vc)).length < 16) && s.pl17Room x.vc x.n) = some it →
        Gives (.headerArrival 1088) s (fun t => t.hq (pvKey 1088 it.vc) = s.hq (pvKey 1088 it.vc)
            ++ [{ it with charge := .reserved }]
          ∧ t.dp.inRsv = addAt s.dp.inRsv (pvKey 1088 it.vc) it.n))
    ∧ (∀ port : Fin 1089, port.val < 1088 →
        (s.rx port).find? (fun x => decide ((s.hq (pvKey port x.vc)).length < 16)) = none →
        s.headerWaits (pipeOf port) = true →
        Gives (.headerArrival port) s (fun t => t.dp = s.dp
          ∧ (Tbl.get (fun _ => 0) s.cyc (C.PL_HDR_STALL (pipeOf port)) ≤ cycle16 s.now →
              t.count (C.PL_HDR_STALL (pipeOf port)) = (s.count (C.PL_HDR_STALL (pipeOf port)) + 1) % 2 ^ 64)))
    ∧ (∀ (pl : Fin 18) k it rest p, s.works (pipelineDomain pl) = true → s.islandHeld (6 + pl) = false →
        s.islandHeld 36 = false → s.lookupKey pl = some k → s.hq k = it :: rest → it.body = .ffp p → it.vc = vcRSP →
        (s.setHq k rest).headerWaits pl = false →
        exec (.headerLookup pl true) s = .next ((((s.takeSlot pl).setHq k rest).writeCells it).lookup it p))
    ∧ (∀ it p reason, it.own = false → s.ingressCheck it.port p = some reason →
        s.lookup it p = (s.dropItem reason 0 { it with gen := s.tab.gen, latch := s.leafEntry p,
                                                       via := if it.port < 1024 then s.bundleOf it.port else 0 }).entered
          it.id)

/-- The order of the ingress checks (R67, R315): a header whose CRC fails is dropped for that, whatever else is wrong with
it; on a port held out of service the next packet that is not link-local is dropped; then come the version, the type,
and a length above 4,096 bytes. A dropped packet is counted under its reason at the module, and at its port where that
is one of the 1,088 (R126), but for one that was counted already because its trailer failed; a packet that a host
descriptor handed over ends that descriptor besides, and is not taken here. -/
def Obligations.IngressChecksAndDropsAreCounted : Prop :=
  (∀ (s : State) (port : Nat) (p : Packet),
     (p.hcrcOk = false → s.ingressCheck port p = some drHcrc)
     ∧ (p.hcrcOk = true → port < 1088 → (s.port port).st = .heldOut → tyLinkLocal p.ty = false →
         s.ingressCheck port p = some drOutOfService)
     ∧ (p.hcrcOk = true → (s.port port).st ≠ .heldOut → p.version ≠ 1 → s.ingressCheck port p = some drVersion)
     ∧ (p.hcrcOk = true → (s.port port).st ≠ .heldOut → p.version = 1 → wellTyped p = false →
         s.ingressCheck port p = some drMalformed)
     ∧ (p.hcrcOk = true → (s.port port).st ≠ .heldOut → p.version = 1 → wellTyped p = true → 4096 < p.length →
         s.ingressCheck port p = some drOversize))
  ∧ (∀ (s : State), s.canonical = true → ∀ (reason q : Nat) (it : Item), 1 ≤ reason → reason ≤ 22 →
       (∀ x, x ∈ s.host.txWait → x.1 ≠ it.id) →
       (s.dp.badTails.contains it.id = false →
           (s.dropItem reason q it).count (C.BUF_DROP (reason - 1)) = (s.count (C.BUF_DROP (reason - 1)) + 1) % 2 ^ 64)
         ∧ (s.dp.badTails.contains it.id = false → it.port < 1088 →
             (s.dropItem reason q it).count (C.TEL_PORT_DROP it.port (reason - 1))
               = (s.count (C.TEL_PORT_DROP it.port (reason - 1)) + 1) % 2 ^ 64)
         ∧ (s.dp.badTails.contains it.id = true → (s.dropItem reason q it).cnt = s.cnt)
         ∧ (s.dropItem reason q it).dp.tails = dropTail it.id s.dp.tails)

/-- Retries, age limits and the no-path hold (R109, R115, R116, R123, R153): the packets that wait on a port and VC are
offered again in order; a held bank write leaves when a bank is free and otherwise counts its cycle; a packet that has
waited past the age limit, and one held without a path for its time, leave and are dropped. The model's choices in it:
log entries 2, 3 and 46. -/
def Obligations.WaitingPacketsAreRetriedOrAged : Prop :=
  ∀ s : State, s.canonical = true →
    (∀ (port : Fin 1089) (vc : Fin 4), s.replicaWaits port vc = false →
        exec (.packetAdmitRetry port vc) s
          = .next ((offerWaiting (s.waitingAt (pvKey port vc)) s).2.setWaiting (pvKey port vc)
              (offerWaiting (s.waitingAt (pvKey port vc)) s).1).reconsider)
    ∧ (∀ (pl : Fin 18) (vc : Fin 4) w, (s.bankWaiting pl).find? (fun x => x.vc == vc.val) = some w → w.port / 64 = pl.val →
        Gives (.bankWriteRetry pl vc true) s (fun t =>
          t.bankWaiting pl = (s.bankWaiting pl).filter (fun x => x.id != w.id)
          ∧ t.dp.cellBanks.any (fun x => x.1 == w.id) = true
          ∧ (t.bankWaiting pl = [] → t.cnt = s.cnt)))
    ∧ (∀ (pl : Fin 18) (vc : Fin 4), s.bankWaiting pl ≠ [] →
        Gives (.bankWriteRetry pl vc false) s (fun t => t.bankWaiting pl = s.bankWaiting pl
          ∧ (Tbl.get (fun _ => 0) s.cyc C.BUF_BANK_STALL ≤ cycle16 s.now →
              t.count C.BUF_BANK_STALL = (s.count C.BUF_BANK_STALL + 1) % 2 ^ 64)))
    ∧ (∀ (port : Fin 1089) (vc : Fin 4) w ws, s.ageNs ≠ 0 → s.waitingAt (pvKey port vc) = w :: ws →
        exec (.ageLimitExpiry port vc) s
          = .next ((((s.reach (w.item.since + s.ageNs)).setWaiting (pvKey port vc) ws).dropItem drAge 0 w.item).entered
              w.item.id))
    ∧ (∀ it l, s.dp.hold = it :: l →
        Gives .nopathTimeout s (fun t => t.dp.hold = l
          ∧ t.now = max s.now (it.since + s.fld R.BUF_NOPATH_CTRL 15 0 * 1000)))
    ∧ (∀ leaf : Fin 4096, (s.limit leaf).rate < 400 * 65536 →
        Gives (.rateLimitRecover leaf) s (fun t => t.now = max s.now ((s.limit leaf).lastEcho + 8000)
          ∧ t.dp.limits = Tbl.put (fun _ => RateLim.init) s.dp.limits leaf
              { s.limit leaf with rate := min (400 * 65536) ((s.limit leaf).rate + 25 * 65536), lastEcho := t.now }))
    ∧ (∀ (port : Fin 1089) x, s.dp.tails.find? (fun t => t.port == port.val) = some x → x.ok = true →
        x.frame = none → s.dp.flying = [] →
        Gives (.packetTail port) s (fun t => t.dp.tails = s.dp.tails.filter (fun y => y.id != x.id) ∧ t.cnt = s.cnt))
    ∧ (∀ (port : Fin 1089) x, s.dp.tails.find? (fun t => t.port == port.val) = some x → x.ok = false →
        x.frame = none → s.dp.flying = [] → x.port < 1088 →
        Gives (.packetTail port) s (fun t => t.dp.badTails = s.dp.badTails ++ [x.id]
          ∧ t.count (C.TEL_PORT_DROP x.port (drPayload - 1)) = (s.count (C.TEL_PORT_DROP x.port (drPayload - 1)) + 1) % 2 ^ 64))

/-- Strict priority and shaping (R130, R134): the highest strict class with an eligible head sends before any other, and
the choice changes nothing; a class whose head is not of VC_RSP is eligible only where its own shaper and the port's
allow it. Scheduling and shapers (R130, R136, R137, R144). A port sends the packet that its choice names; a shaper
whose slot is reached leaves the wheel; the rescan moves overflow entries of one pipeline alone; a write of a shaper
restarts its tokens at BURST or at zero, and a write of a policer's bucket restarts that bucket alone. The model's
choices in it: log entry 47. -/
def Obligations.EgressChoosesAndShapes : Prop :=
  (∀ (s : State) (egress tc : Nat) (it : Item), tc < 8 → s.strict egress tc = true → s.eligible egress tc = some it →
     (∀ u : Nat, u < 8 → tc < u → s.strict egress u = true → s.eligible egress u = none) →
     s.choose egress = (some (tc, it), s)
       ∧ (it.vc = vcRSP ∨ (s.shaperAllows egress tc = true ∧ s.shaperAllows egress 8 = true)))
  ∧ (∀ s : State, s.canonical = true →
       (∀ (egress : Fin 1094) tc it u, s.tel.isolated = [] → s.tel.update = none → s.choose egress = (some (tc, it), u) →
           exec (.egressSchedule egress) s = .next (u.sendFrom egress tc it))
       ∧ (∀ (egress : Fin 1094) (i : Fin 9) t0, s.wheelPos egress i = .slot t0 →
           Gives (.shaperEligible egress i) s (fun t => t.now = max s.now t0
             ∧ t.sched.wheel = Tbl.put (fun _ => .free) s.sched.wheel (shpKey egress i) .free))
       ∧ (∀ pl : Fin 18, Gives (.wheelOverflowRescan pl) s (fun t => t.sched.wheel = s.sched.wheel.map
             (fun kw => if kw.1 / 16 / 64 = pl.val then (kw.1, wheelIn s.now kw.2) else kw) ∧ t.sched.shapers = s.sched.shapers))
       ∧ (∀ (egress : Fin 1094) (i : Fin 9) w, s.on (regDomain (R.PL_SHP (egress / 64) (egress % 64) i)) = true →
           Gives (.shaperWrite egress i w) s (fun t =>
             t.rd (R.PL_SHP (egress / 64) (egress % 64) i)
                 = storeWord (R.PL_SHP (egress / 64) (egress % 64) i) w (s.rd (R.PL_SHP (egress / 64) (egress % 64) i))
             ∧ t.sched.shapers = Tbl.put (fun _ => shaperFull) s.sched.shapers (shpKey egress i)
                 ((s.shaperNow egress i).restart (if w.fld 31 31 = 0 then w.fld 30 20 * 4096 else 0) s.now)))
       ∧ (∀ (port : Fin 1088) (tc : Fin 8) w, s.on (regDomain (R.PL_POL_C (port / 64) (port % 64) tc)) = true →
           Gives (.policerBucketWrite port tc false w) s (fun t =>
             t.rd (R.PL_POL_C (port / 64) (port % 64) tc)
                 = storeWord (R.PL_POL_C (port / 64) (port % 64) tc) w (s.rd (R.PL_POL_C (port / 64) (port % 64) tc))
             ∧ ∃ b, t.sched.police = Tbl.put (fun _ => policeFull) s.sched.police (polKey port tc 0) b
                 ∧ b.tokens = (((if w.fld 31 31 = 0 then w.fld 30 20 * 4096 else 0) * tokUnit : Nat) : Int) ∧ b.time = s.now)))

/-- The ledger of a bucket of tokens (R133, R137, R138): filling, charging and restarting each keep the identity that the
tokens are what was added and set less what was charged and clipped. The model's choices in it: log entry 48. -/
def Obligations.TokenLedgerBalances : Prop :=
  ∀ (b : Bucket) (base : Int), b.tokens = base + b.added + b.adjust - b.charged - b.clipped →
    (∀ rate cap now, (b.refill rate cap now).tokens = base + (b.refill rate cap now).added + (b.refill rate cap now).adjust
        - (b.refill rate cap now).charged - (b.refill rate cap now).clipped)
    ∧ (∀ n, (b.charge n).tokens = base + (b.charge n).added + (b.charge n).adjust - (b.charge n).charged - (b.charge n).clipped)
    ∧ (∀ v now, (b.restart v now).tokens = base + (b.restart v now).added + (b.restart v now).adjust
        - (b.restart v now).charged - (b.restart v now).clipped)

/-- Thresholds, reservations and the depth of queues (R87, R112, R124): a mark register whose enabled thresholds stand in
order is stored, and another is discarded with MARK_ORDER set; a reservation is stored while all of them fit into
393,216 cells, and otherwise discarded with RSV_OVER set; a pipeline's depth factors follow the mark levels of its
queues once per ADAPT_NS (100 at least), and all are 1 where ADAPT_NS is 0. Spill blocks (R119, R121, R122): the
oldest block on the die goes to HBM and its cells' bytes are counted; its confirmation frees the cells; the block that
is read back returns and is counted as read, or as lost where it failed. The model's choices in it: log entries 42,
159 and 167. -/
def Obligations.BufferRegistersAndSpillTakeEffect : Prop :=
  (∀ s : State, s.canonical = true →
     (∀ (i : Fin 8) w, s.on (regDomain (R.BUF_MARK i)) = true → marksOrdered w = true →
         Gives (.markThresholdWrite i w) s (fun t => t.rd (R.BUF_MARK i) = storeWord (R.BUF_MARK i) w (s.rd (R.BUF_MARK i))
           ∧ ∀ off, off ≠ R.BUF_MARK i → t.rd off = s.rd off))
     ∧ (∀ (i : Fin 8) w, s.on (regDomain (R.BUF_MARK i)) = true → marksOrdered w = false →
         Gives (.markThresholdWrite i w) s (fun t => t.fld R.BUF_ADM_STAT 30 30 = 1
           ∧ ∀ off, off ≠ R.BUF_ADM_STAT → t.rd off = s.rd off))
     ∧ (∀ r w, s.on (regDomain (rsvOff r)) = true → (s.store (rsvOff r) w).reservedTotal ≤ 393216 →
         exec (.reservationWrite r w) s = .next (s.store (rsvOff r) w))
     ∧ (∀ r w, s.on (regDomain (rsvOff r)) = true → 393216 < (s.store (rsvOff r) w).reservedTotal →
         Gives (.reservationWrite r w) s (fun t => t.fld R.BUF_ADM_STAT 31 31 = 1
           ∧ ∀ off, off ≠ R.BUF_ADM_STAT → t.rd off = s.rd off))
     ∧ (∀ (pl : Fin 17) (egress tc : Nat), s.fld R.BUF_FWD_SPRAY_CTRL 15 0 = 0 →
         exec (.depthRefresh pl) s = .next s ∧ s.depthOf egress tc = 4)
     ∧ (∀ (pl : Fin 17) (egress tc : Nat), s.fld R.BUF_FWD_SPRAY_CTRL 15 0 ≠ 0 → egress / 64 = pl.val → tc < 8 →
         Gives (.depthRefresh pl) s (fun t => t.depthOf egress tc
             = depthQuarters (markLevel (s.rd (R.BUF_MARK tc)) (s.queue (qKey egress tc)).occupancy)
           ∧ t.now = max s.now (Tbl.get (fun _ => 0) s.dp.depthAt pl + max 100 (s.fld R.BUF_FWD_SPRAY_CTRL 15 0)))))
  ∧ (∀ s : State, s.canonical = true →
       (∀ (egress : Fin 1094) (tc : Fin 8) b, (s.queue (qKey egress tc)).spill.find? SpillBlock.isFilling = some b →
           s.spillRuns = true → s.spillRegionFree = true →
           Gives (.spillBlockWrite egress tc) s (fun t =>
             ((t.queue (qKey egress tc)).spill.find? (fun x => x.st == .writing)).isSome = true
             ∧ t.count C.BUF_SPILL_BYTES = (s.count C.BUF_SPILL_BYTES + cellsIn b.items * 256) % 2 ^ 64
             ∧ (cellsIn b.items = 64 → t.now = s.now)))
       ∧ (∀ (egress : Fin 1094) (tc : Fin 8) b, (s.queue (qKey egress tc)).spill.find? (fun x => x.st == .writing) = some b →
           Gives (.spillWriteConfirm egress tc) s (fun t => t.dp.staging = s.dp.staging - cellsIn b.items
             ∧ t.dp.blocksWritten = s.dp.blocksWritten + 1))
       ∧ (∀ (egress : Fin 1094) (tc : Fin 8) its d bs, (s.queue (qKey egress tc)).spill = ⟨.reading, its, d⟩ :: bs →
           Gives (.spillBlockReturn egress tc false) s (fun t => t.dp.blocksRead = s.dp.blocksRead + 1
             ∧ t.dp.blocksLost = s.dp.blocksLost)))

/-- Sub-queues and responses (R131, R134). Within a queue a ready VC_RSP head goes first; otherwise the ready heads of
VC_REQ, VC_COLL and VC_BULK go in that cyclic order from the VC after the last one served, which the packet that is
sent becomes; one packet is sent per turn; a VC_RSP head is eligible whatever the shapers hold, and its packet is
charged to its queue's shaper and to the port's like any other; only a frame whose tail has not passed is charged
later, as its tail is read (R133). -/
def Obligations.SubQueuesTakeTurns : Prop :=
  ∀ (s : State) (egress : Fin 1094) (tc : Nat),
    (∀ it, s.headOf egress tc vcRSP = some it → s.nextHead egress tc = some it ∧ s.eligible egress tc = some it)
    ∧ (∀ last order, (last, order) ∈ [(vcREQ, [vcCOLL, vcBULK, vcREQ]), (vcCOLL, [vcBULK, vcREQ, vcCOLL]),
          (vcBULK, [vcREQ, vcCOLL, vcBULK])] →
        s.headOf egress tc vcRSP = none → Tbl.get (fun _ => 3) s.sched.vcLast (qKey egress tc) = last →
        s.nextHead egress tc = (order.filterMap (fun v => s.headOf egress tc v)).head?)
    ∧ (∀ it u, s.tel.isolated = [] → s.islandHeld (6 + egress / 64) = false → s.choose egress = (some (tc, it), u) → Tbl.wf (fun _ => 3) u.sched.vcLast = true →
        Gives (.egressSchedule egress) s (fun t =>
          Tbl.get (fun _ => 3) t.sched.vcLast (qKey egress tc)
            = (if it.vc = vcRSP then Tbl.get (fun _ => 3) u.sched.vcLast (qKey egress tc) else it.vc)
          ∧ t.sched.shapers = (if it.isEth = true ∧ (s.dp.tails.any fun x => x.id == it.id) = true then u.sched.shapers
              else (((u.leaveQueue egress tc it).chargeShaper egress tc (u.itemLen egress it)).chargeShaper
                egress 8 (u.itemLen egress it)).sched.shapers)))

/-- Path weights and moves (R88, R90, R93, R95, R106). Easel's own weight takes effect by its steps while EASEL_OWNS is 1,
and a written weight is stored while it is 0; a rebalance notes its instant and starts its moves; a move off a member
ends with its settle wait and is counted, and one whose marks are not acknowledged in time is forced with cause 0.
Path marks (R62, R93): a mark received waits behind the earlier packets of its port and VC; once none is left its ACK,
with CUM_SEQ the first SEQ of its series not received, is originated, while the module takes part in the fabric; an
ACK at the head of the hub's input is taken from it. The model's choices in it: log entries 34, 35 and 165. -/
def Obligations.PathWeightsMovesAndMarks : Prop :=
  (∀ s : State, s.canonical = true →
     (∀ (port : Fin 1088) want, s.easelWeight port = some want → s.fld R.BUF_FWD_SPRAY_CTRL 31 31 = 1 →
         s.on (portDomain port) = true → want ≠ 0 → want < 16 → s.wBase port ≠ 0 → s.wBase port ≠ want →
         Tbl.get (fun _ => 0) s.dp.weightAt port + 100000 ≤ s.now →
         Gives (.easelWeightUpdate port) s (fun t => t.wBase port = stepWeight (s.wBase port) want
           ∧ t.dp.weightAt = Tbl.put (fun _ => 0) s.dp.weightAt port s.now ∧ t.dp.moves = s.dp.moves))
     ∧ (∀ (port : Fin 1088) w, s.on (regDomain (R.PL_PATH_WEIGHT (port / 64) (port % 64))) = true →
         s.fld R.BUF_FWD_SPRAY_CTRL 31 31 = 0 → w.fld 3 0 ≠ 0 → s.wBase port ≠ 0 →
         exec (.pathWeightWrite port w) s = .next (s.store (R.PL_PATH_WEIGHT (port / 64) (port % 64)) w))
     ∧ (∀ (port : Fin 1088) w, s.on (regDomain (R.PL_PATH_WEIGHT (port / 64) (port % 64))) = true →
         s.fld R.BUF_FWD_SPRAY_CTRL 31 31 = 1 → exec (.pathWeightWrite port w) s = .next s)
     ∧ (∀ (uid : Word), s.fld R.BUF_FWD_SPRAY_CTRL 31 31 = 1 → (s.bundle uid.toNat).lastRebalance = none →
         (∀ m, m ∈ s.dp.moves → m.bundle ≠ uid.toNat) →
         Gives (.easelRebalance uid []) s (fun t => (t.bundle uid.toNat).lastRebalance = some s.now
           ∧ (t.bundle uid.toNat).map = (s.bundle uid.toNat).map ∧ t.dp.moves = s.dp.moves))
     ∧ (∀ (uid : Word) (b : Fin 64) (q : Fin 1024), s.fld R.BUF_FWD_SPRAY_CTRL 31 31 = 1 →
         (s.bundle uid.toNat).lastRebalance = none → (∀ m, m ∈ s.dp.moves → m.bundle ≠ uid.toNat) →
         s.takesBuckets uid.toNat q = true → ∀ p, (s.bundle uid.toNat).map[b.val]? = some (.member p) → p ≠ q.val →
         exec (.easelRebalance uid [(b, q)]) s
           = .next ((s.setBundle uid.toNat { s.bundle uid.toNat with lastRebalance := some s.now }).startMove uid.toNat b
               (.member p) (.member q) none))
     ∧ (∀ (uid : Word) (b : Fin 64) m t0 p, s.findMove uid.toNat b = some m → m.phase = .settle t0 → m.old = .member p →
         m.held = [] → s.settleNs ≠ 0 →
         Gives (.settleExpiry uid b) s (fun t => t.now = max s.now t0
           ∧ t.dp.moves = s.dp.moves.filter (fun x => !(x.bundle == m.bundle && x.bucket == m.bucket))
           ∧ t.count C.BUF_FWD_MOVES = (s.count C.BUF_FWD_MOVES + 1) % 2 ^ 64
           ∧ t.count C.BUF_FWD_FORCED = s.count C.BUF_FWD_FORCED))
     ∧ (∀ (uid : Word) (b : Fin 64) m x t0, s.findMove uid.toNat b = some m → m.phase = .marks x (some t0) → m.held = [] →
         Gives (.markTimeout uid b) s (fun t => t.now = max s.now t0
           ∧ t.dp.moves = s.dp.moves.filter (fun x => !(x.bundle == m.bundle && x.bucket == m.bucket))
           ∧ t.count C.BUF_FWD_FORCED = (s.count C.BUF_FWD_FORCED + 1) % 2 ^ 64)))
  ∧ (∀ s : State, s.canonical = true →
       (∀ it l p, s.dp.markIn = it :: l → it.body = .ffp p →
           Gives .pathMarkReceive s (fun t => t.dp.markIn = l
             ∧ t.dp.markWaits.length = s.dp.markWaits.length + 1
             ∧ ∃ m, t.dp.markWaits.getLast? = some m ∧ m.pkt = p ∧ m.port = it.port))
       ∧ (∀ m, s.dp.markWaits.find? (fun m => m.behind.isEmpty) = some m → s.joined = true →
           Gives .pathMarkAckSend s (fun t => t.dp.markWaits = s.dp.markWaits.filter (fun x => decide (x ≠ m))
             ∧ ∃ it, t.rx 1088 = s.rx 1088 ++ [it] ∧ it.own = true
                 ∧ it.body = .ffp (ackFor m.pkt (s.receivedOf m.pkt).cum (s.receivedOf m.pkt).beyond)))
       ∧ (∀ it l, s.hubIn = it :: l → it.pkt.ty = tyACK →
           exec .pathMarkAckReceive s = .next ((s.unitTake 5 it l).receiveAck it.pkt)))

/-- The forwarding tables (R82 to R84, R102, R103, R105): a write reaches the shadow bank alone; a read of either bank
answers its entry; a commit sets the epoch and changes no bank; at the epoch every active bank takes its shadow's
contents and the generation counts on. The model's choices in it: log entry 4. -/
def Obligations.ForwardingTablesSwitchAtTheEpoch : Prop :=
  ∀ s : State, s.canonical = true →
    (∀ i : Fin 4096, s.on (regDomain R.BUF_FWD_CMD) = true → s.tab.pending = none →
        leafEntryOk (s.rdWords (R.BUF_FWD_DATA 0) 4) = true →
        Gives (.fwdWriteShadow false i) s (fun t => t.fld R.BUF_FWD_STAT 3 0 = 0
          ∧ t.tab = { s.tab with leafShadow := Tbl.put (fun _ => leafZero) s.tab.leafShadow i (s.rdWords (R.BUF_FWD_DATA 0) 4) }))
    ∧ (∀ (ovr : Bool) (i : Fin 4096) e, s.on (regDomain R.BUF_FWD_CMD) = true → s.tab.pending = some e →
        Gives (.fwdWriteShadow ovr i) s (fun t => t.fld R.BUF_FWD_STAT 3 0 = 2 ∧ t.tab = s.tab))
    ∧ (∀ (i : Fin 4096) a b c d, s.on (regDomain R.BUF_FWD_CMD) = true →
        Tbl.get (fun _ => leafZero) s.tab.leafShadow i = [a, b, c, d] →
        Gives (.fwdReadShadow false i) s (fun t => t.rdWords (R.BUF_FWD_DATA 0) 4 = [a, b, c, d]
          ∧ t.fld R.BUF_FWD_STAT 3 0 = 0 ∧ t.tab = s.tab))
    ∧ (∀ (i : Fin 4096) a b c d, s.on (regDomain R.BUF_FWD_CMD) = true →
        Tbl.get (fun _ => leafZero) s.tab.leafActive i = [a, b, c, d] →
        Gives (.fwdReadActive false i) s (fun t => t.rdWords (R.BUF_FWD_DATA 0) 4 = [a, b, c, d]
          ∧ t.fld R.BUF_FWD_STAT 3 0 = 0 ∧ t.tab = s.tab))
    ∧ (∀ gap : Fin 65536, s.on (regDomain R.BUF_FWD_GEN_CTRL) = true → s.tab.pending = none →
        s.fld R.BUF_FWD_EPOCH_SEC 31 0 = 0 → s.fld R.BUF_FWD_EPOCH_NS 29 0 = 0 → s.tab.lastEpoch = none →
        Gives (.fwdCommit gap) s (fun t => t.fld R.BUF_FWD_STAT 3 0 = 0
          ∧ t.tab = { s.tab with pending := some (nextMicro (s.tb0 + 2000)), requested := 0 }))
    ∧ (∀ e, s.tab.pending = some e → s.tab.ready = true →
        Gives .epochReached s (fun t => t.tab = s.tab.switch e ∧ t.now = max s.now (s.atTb0 e)))
    ∧ (∀ e, s.tab.pending = some e → s.tab.ready = true → s.dp.hold = [] → s.canvas.ctxs = [] → s.canvas.shadow = [] →
        Gives .epochReached s (fun t => t.prism.patActive = s.prism.patShadow))
    ∧ exec .shadowCopyDone s = .next { s with tab := { s.tab with copying := false } }

/-- Multicast groups (R147, R149, R153, R157): a valid entry reaches the shadow bank and one with VALID 0 deletes the
group; reads answer the entry; the replication unit takes the oldest packet of its input, and the replicas that wait
are offered again in order. What the replication unit counts (R149, R154): a packet whose group entry is not valid is
counted as received, and its drop under the empty-mask reason. The model's choices in it: log entry 4. -/
def Obligations.GroupsAreWrittenReadAndReplicated : Prop :=
  (∀ s : State, s.canonical = true →
     (∀ g : Fin 65536, s.on (regDomain R.MCT_CMD) = true → s.tab.pending = none →
         groupEntryOk (s.rdWords (R.MCT_DATA 0) 36) = true → (s.rd (R.MCT_DATA 0)).fld 31 31 = 1 →
         Gives (.mctWriteShadow g) s (fun t => t.fld R.MCT_STAT 3 0 = 0
           ∧ t.tab = { s.tab with grpShadow := Tbl.put (fun _ => groupZero) s.tab.grpShadow g (s.rdWords (R.MCT_DATA 0) 36) }))
     ∧ (∀ g : Fin 65536, s.on (regDomain R.MCT_CMD) = true → s.tab.pending = none →
         groupEntryOk (s.rdWords (R.MCT_DATA 0) 36) = true → (s.rd (R.MCT_DATA 0)).fld 31 31 = 0 →
         Gives (.mctWriteShadow g) s (fun t => t.fld R.MCT_STAT 3 0 = 0
           ∧ t.tab = { s.tab with grpShadow := Tbl.erase s.tab.grpShadow g }))
     ∧ (∀ g : Fin 65536, s.on (regDomain R.MCT_CMD) = true →
         (Tbl.get (fun _ => groupZero) s.tab.grpShadow g).length = 36 →
         Gives (.mctReadShadow g) s (fun t => t.rdWords (R.MCT_DATA 0) 36 = Tbl.get (fun _ => groupZero) s.tab.grpShadow g
           ∧ t.fld R.MCT_STAT 3 0 = 0 ∧ t.tab = s.tab))
     ∧ (∀ g : Fin 65536, s.on (regDomain R.MCT_CMD) = true →
         (Tbl.get (fun _ => groupZero) s.tab.grpActive g).length = 36 →
         Gives (.mctReadActive g) s (fun t => t.rdWords (R.MCT_DATA 0) 36 = Tbl.get (fun _ => groupZero) s.tab.grpActive g
           ∧ t.fld R.MCT_STAT 3 0 = 0 ∧ t.tab = s.tab))
     ∧ (∀ x l, s.dp.mcIn = x :: l → s.works 8 = true → s.islandHeld 37 = false →
         exec .mcastReplicate s
           = .next (((({ s with dp := { s.dp with mcIn := l } } : State).replicate x.item x.entry).1.notePruned x.item
               (({ s with dp := { s.dp with mcIn := l } } : State).replicate x.item x.entry).2).observe x.item))
     ∧ exec .replicaAdmitRetry s = .next (offerAgain s.dp.mcWait { s with dp := { s.dp with mcWait := [] } }))
  ∧ (∀ (s : State), s.canonical = true → ∀ (it : Item) (e : List Word), (e.getD 0 0).fld 31 31 = 0 → s.host.txWait = [] →
       s.dp.badTails.contains it.id = false →
       (s.replicate it e).2 = 0
         ∧ (s.replicate it e).1.count C.MCT_RX_PKTS = (s.count C.MCT_RX_PKTS + 1) % 2 ^ 64
         ∧ (s.replicate it e).1.count (C.BUF_DROP (drEmptyMask - 1)) = (s.count (C.BUF_DROP (drEmptyMask - 1)) + 1) % 2 ^ 64)

/-- The context table and the status of contexts (R160, R180, R188, R189): a write that passes its checks reaches the
shadow entry alone, a failing one only its status; reads answer the shadow entry, the active entry, or zero for a slot
that holds no context, and the six status words; a force of a context that is not live answers status 4. The model's
choices in it: log entries 4 and 56. -/
def Obligations.ContextTableAnswers : Prop :=
  ∀ s : State, s.canonical = true → s.on (regDomain R.CNV_CMD) = true → ∀ n : Fin 16384,
    (s.ctxCheck n (s.rdWords (R.CNV_DATA 0) 42) = 0 → (s.rd (R.CNV_DATA 0)).fld 31 31 = 1 →
        Gives (.cnvWriteShadow n) s (fun t => t.fld R.CNV_STAT 3 0 = 0 ∧ t.canvas = { s.canvas with
          shadow := Tbl.put (fun _ => ctxZero) s.canvas.shadow n (s.rdWords (R.CNV_DATA 0) 42) }))
    ∧ (s.ctxCheck n (s.rdWords (R.CNV_DATA 0) 42) = 3 →
        Gives (.cnvWriteShadow n) s (fun t => t.fld R.CNV_STAT 3 0 = 3 ∧ t.canvas = s.canvas))
    ∧ ((Tbl.get (fun _ => ctxZero) s.canvas.shadow n).length = 42 →
        Gives (.cnvReadShadow n) s (fun t => t.rdWords (R.CNV_DATA 0) 42 = Tbl.get (fun _ => ctxZero) s.canvas.shadow n
          ∧ t.fld R.CNV_STAT 3 0 = 0 ∧ t.canvas = s.canvas))
    ∧ ((s.ctx n).live = false →
        Gives (.cnvReadActive n) s (fun t => t.rdWords (R.CNV_DATA 0) 42 = ctxZero ∧ t.fld R.CNV_STAT 3 0 = 0
          ∧ t.canvas = s.canvas))
    ∧ ((s.ctx n).live = true → (s.ctx n).entry.length = 42 →
        Gives (.cnvReadActive n) s (fun t => t.rdWords (R.CNV_DATA 0) 42 = (s.ctx n).entry ∧ t.fld R.CNV_STAT 3 0 = 0
          ∧ t.canvas = s.canvas))
    ∧ Gives (.cnvReadStatus n) s (fun t => t.rdWords (R.CNV_DATA 0) 6 = (s.ctx n).statusWords
          ∧ t.fld R.CNV_STAT 3 0 = 0 ∧ t.canvas = s.canvas)
    ∧ ((s.ctx n).live = false → Gives (.cnvForce n) s (fun t => t.fld R.CNV_STAT 3 0 = 4 ∧ t.canvas = s.canvas))
    ∧ ((s.ctx n).live = true → (s.ctx n).segs = [] →
        Gives (.cnvForce n) s (fun t => t.fld R.CNV_STAT 3 0 = 0 ∧ t.canvas = s.canvas))

/-- Contributions (R168, R177): one at the head of Canvas's input that is tested leaves the input, staged or discarded;
PL17 holds back one for which there is no space beside those on their way, and once none is on its way the retry
offers what it holds back again. A contribution that fails its test is discarded and counted, and no context changes
(R168). A phase mark that came on a BP port, of no context held here, reaches PL16 with its pattern and its instant
(R184, R300). The model's choices in it: log entries 50, 60 and 64. -/
def Obligations.ContributionsAreTakenOrDiscarded : Prop :=
  (∀ (s : State) (it : Item) (l : List Item), it.pkt.ty = tyRED_CONTRIB →
     (∀ t, s.unitQueue 4 = it :: l → s.islandWaits it = false → s.works 8 = true → s.ingest it = some t →
         exec .contribReceive s = .next (t.unitTake 4 it l) ∧ exec .canvasIngestRetry s = .next (t.unitTake 4 it l))
     ∧ (s.unitQueue 4 = [] → exec .contribReceive s = .next s ∧ exec .canvasIngestRetry s = .next (s.schedule 1092).takeContrib)
     ∧ (s.canvasHolds (s.unitQueue 4) it = true → s.itemReady 1092 it = false))
  ∧ (∀ (s : State) (it : Item) (counter : Nat), s.judge it = .discard counter →
       ∃ t, s.ingest it = some t ∧ Only [.cnt, .canvas] s t ∧ t.canvas.ctxs = s.canvas.ctxs
         ∧ t.canvas.staging = s.canvas.staging ∧ t.canvas.ovf = s.canvas.ovf
         ∧ (s.canonical = true → counter ≠ C.CNV_LATE → t.count counter = (s.count counter + 1) % 2 ^ 64))
  ∧ (∀ s : State, ∀ it l, s.unitQueue 4 = it :: l → s.islandWaits it = false → it.pkt.ty = tyPHASE_MARK → s.works 8 = true →
       1024 ≤ it.port → it.port < 1088 → (s.ctx (it.pkt.fld 5 31 18)).live = false → s.tb0 ≤ s.markAt it.pkt →
       exec .phaseMarkReceive s = .next ((s.unitTake 4 it l).takeMark (it.pkt.fld 5 9 2) (s.markAt it.pkt)))

/-- Segments on their way (R163, R172, R175, R176, R178, R183, R185). A context in RECLAIM with no segment left is freed;
an area is granted while it fits in the scratch; a timer or a wait that expires is that instant; a batch that is
admitted and folded leaves its segment; a child's encoded segment is sent to the root and waits for the root's result.
The model's choices in it: log entries 3, 59, 61, 62, 173 and 174. -/
def Obligations.SegmentsAdvance : Prop :=
  ∀ (s : State) (n : Fin 16384) (next : Bool) (seg : Fin 16777216),
    ((s.ctx n).st = .reclaim → (s.ctx n).segs = [] →
        Gives (.contextFreed n) s (fun t => t.canvas = { s.canvas with
          ctxs := Tbl.put (fun _ => Ctx.init) s.canvas.ctxs n Ctx.init }))
    ∧ (∀ e, s.foldEngine ((s.ctx n).seg (segKey next seg)).die = some e → ((s.ctx n).seg (segKey next seg)).inWork = true →
        ((s.ctx n).seg (segKey next seg)).area = false →
        s.accBytes ((s.ctx n).seg (segKey next seg)).die + 4 * (s.ctx n).elems + s.listScratch e ≤ scratchBytes →
        exec (.segmentAreaGrant n next seg) s
          = .next ((s.setSeg n (segKey next seg) { (s.ctx n).seg (segKey next seg) with area := true }).dispatchSeg n
              (segKey next seg)))
    ∧ (∀ x l, ((s.ctx n).seg (segKey next seg)).waiting = x :: l →
        exec (.batchWaitExpiry n next seg) s
          = .next ((s.reach (x.at_ + s.batchWait)).dispatchSeg n (segKey next seg)))
    ∧ (∀ b, ((s.ctx n).seg (segKey next seg)).batches.find? (fun b => !b.admitted) = some b → (s.ctx n).st = .active →
        s.dieAvail ((s.ctx n).seg (segKey next seg)).die = true →
        s.withinShareOf ((s.ctx n).seg (segKey next seg)).die
          (s.estimate (s.ctx n) ((s.ctx n).seg (segKey next seg)) b.items.length) = true →
        Gives (.canvasBatchAdmit n next seg) s (fun t => ((t.ctx n).seg (segKey next seg)).batches
            = admitFirst ((s.ctx n).seg (segKey next seg)).batches ∧ t.mem = s.mem ∧ t.dp = s.dp))
    ∧ (∀ b bs, ((s.ctx n).seg (segKey next seg)).batches = b :: bs → b.admitted = true → (s.ctx n).st = .active →
        s.dieAvail ((s.ctx n).seg (segKey next seg)).die = true → bs ≠ [] → s.canonical = true →
        Gives (.batchFolded n next seg) s (fun t => ((t.ctx n).seg (segKey next seg)).batches = bs
          ∧ t.count C.CNV_FOLDED = (s.count C.CNV_FOLDED + b.items.length) % 2 ^ 64))
    ∧ (∀ t0, ((s.ctx n).seg (segKey next seg)).deadline = some t0 → ((s.ctx n).seg (segKey next seg)).st = .open_ →
        exec (.segmentTimeout n next seg) s
          = .next ((((s.reach t0).setSeg n (segKey next seg)
              { (s.ctx n).seg (segKey next seg) with ended := true, deadline := none }).dispatchSeg n
                (segKey next seg)).settleSeg n (segKey next seg)))
    ∧ (((s.ctx n).seg (segKey next seg)).st = .encode → ((s.ctx n).seg (segKey next seg)).encoded = false →
        ((s.ctx n).seg (segKey next seg)).sent = false → (s.ctx n).child = true → (s.ctx n).st = .active →
        ((s.ctx n).seg (segKey next seg)).timeoutNs ≠ 0 → s.joined = true →
        Gives (.segmentEncodeDone n next seg) s (fun t => ((t.ctx n).seg (segKey next seg)).sent = true
          ∧ ((t.ctx n).seg (segKey next seg)).rootBy = some (s.now + ((s.ctx n).seg (segKey next seg)).timeoutNs)
          ∧ ∃ it, t.rx 1088 = s.rx 1088 ++ [it]))
    ∧ (∀ t0, ((s.ctx n).seg (segKey next seg)).rootBy = some t0 →
        exec (.childResultTimeout n next seg) s = .next ((s.reach t0).childRetry n (segKey next seg)))
    ∧ (∀ d, (s.ctx n).st = .recover → s.grantDie (s.ctx n) = some d →
        exec (.recoverCopyDone n) s = .next (s.leaveRecover n (some d)))

/-- Engines (R206 to R210, R212 to R215). A park request on an idle engine at level 0 parks it, and on an engine whose
command executes it waits; clearing the request makes a parked engine idle; an offline request and a resume ask for
their activity; a keep window that expires starts the ramp, whose steps of 2.5 µs take off an eighth of the starting
level each, down to level 0 and IDLE; the governor grants 8 levels; a fault stops the engine, and the reset's end
leaves it scrubbed and IDLE. The model's choices in it: log entries 3, 68, 69 and 70. -/
def Obligations.EnginesFollowTheirStates : Prop :=
  ∀ (s : State) (e : Fin 8), s.canonical = true →
    (s.on (regDomain (R.PAL_ENG_CTRL e)) = true → (s.engine e).st = .idle → (s.engine e).level = 0 →
        (s.engine e).ramping = false → (s.engine e).offlining = false →
        Gives (.engineParkRequest e) s (fun t => t.fld (R.PAL_ENG_CTRL e) 31 31 = 1 ∧ (t.engine e).st = .parked
          ∧ (t.engine e).lanes = (s.engine e).lanes ∧ (t.engine e).scratch = (s.engine e).scratch))
    ∧ (s.on (regDomain (R.PAL_ENG_CTRL e)) = true → (s.engine e).st = .active → (s.engine e).executing = true →
        (s.engine e).offlining = false →
        Gives (.engineParkRequest e) s (fun t => t.fld (R.PAL_ENG_CTRL e) 31 31 = 1
          ∧ t.engine e = { s.engine e with target := .parked }))
    ∧ (s.on (regDomain (R.PAL_ENG_CTRL e)) = true → (s.engine e).st = .parked → (s.engine e).run = none →
        (s.engine e).offlining = false → (s.engine e).levelPark = false →
        Gives (.engineUnpark e) s (fun t => t.fld (R.PAL_ENG_CTRL e) 31 31 = 0 ∧ (t.engine e).st = .idle
          ∧ (t.engine e).lanes = (s.engine e).lanes))
    ∧ (s.on (regDomain (R.PAL_ENG_CTRL e)) = true → (s.engine e).st ≠ .off → s.fld (R.PAL_ENG_CTRL e) 30 30 = 0 →
        exec (.engineOfflineRequest e) s
          = .next ((s.setF (R.PAL_ENG_CTRL e) 30 30 1).requestMaint (.offline e) (State.startOffline e)))
    ∧ (s.on (regDomain (R.PAL_ENG_CTRL e)) = true → (s.engine e).st = .offline → (s.engine e).resetting = false →
        s.fld (R.PAL_ENG_CTRL e) 30 30 = 0 → groupsIn (s.fld (R.PAL_LANE_MAP e) 16 0) = 16 → s.tel.isolated = [] →
        s.maint = [] →
        Gives (.engineResume e) s (fun t => (t.engine e).resetting = true ∧ t.maint = [(.resume e, true)]))
    ∧ ((s.engine e).resetting = true → s.on (palDomain (e / 2)) = true → (s.engine e).st = .off →
        s.fld (R.PAL_ENG_CTRL e) 30 30 = 0 → 16 ≤ groupsIn (s.fld (R.PAL_LANE_MAP e) 16 0) →
        exec (.engineScrubDone e) s = .next ((s.enterIdle e).afterOffline e))
    ∧ ((s.engine e).st = .keep → (s.engine e).ramping = false → (s.engine e).level ≠ 0 →
        Gives (.keepExpiry e) s (fun t => (t.engine e).st = .ramp ∧ (t.engine e).ramping = true
          ∧ (t.engine e).rampD = (s.engine e).level ∧ (t.engine e).level = (s.engine e).level
          ∧ (t.engine e).rampAt = t.now ∧ t.now = max s.now (s.engine e).keepEnd))
    ∧ ((s.engine e).ramping = true → (s.engine e).rampStep + 1 < 8 →
        Gives (.rampStep e) s (fun t => (t.engine e).level
            = (s.engine e).rampD - ((s.engine e).rampStep + 1) * (s.engine e).rampD / 8
          ∧ (t.engine e).rampStep = (s.engine e).rampStep + 1 ∧ (t.engine e).st = (s.engine e).st
          ∧ t.now = max s.now ((s.engine e).rampAt + 2500 * ((s.engine e).rampStep + 1))))
    ∧ ((s.engine e).ramping = true → (s.engine e).rampStep = 7 → (s.engine e).st = .ramp → (s.engine e).target = .idle →
        Gives (.rampStep e) s (fun t => (t.engine e).level = 0 ∧ (t.engine e).ramping = false ∧ (t.engine e).st = .idle))
    ∧ (∀ d : Fin 4, (s.engine (2 * d)).mayRise = true →
        Gives (.governorStep d true false) s (fun t => (t.engine (2 * d)).level = min 64 ((s.engine (2 * d)).level + 8)
          ∧ (t.palDie d).grantAt = some t.now ∧ (t.palDie d).grantTo = 2 * d
          ∧ ∀ t0, (s.palDie d).grantAt = some t0 → t0 + max 400 (s.fld (R.PAL_DIE_GOV d) 15 0) ≤ t.now))
    ∧ (∀ (kind : Fin 5) (group : Fin 18), (s.engine e).runsAt = true → kind.val < 3 →
        Gives (.engineFault e kind group) s (fun t => (t.engine e).st = .faulted ∧ (t.engine e).resetting = true
          ∧ (t.engine e).run = (s.engine e).run.map Running.abandon ∧ t.fld (R.PAL_FAULT_STAT e) kind kind = 1
          ∧ t.count (C.PAL_FAULT_STOPS e) = (s.count (C.PAL_FAULT_STOPS e) + 1) % 2 ^ 64))
    ∧ (∀ group : Fin 18, (s.engine e).runsAt = true →
        Gives (.engineFault e 4 group) s (fun t => t.engine e = s.engine e
          ∧ t.count (C.PAL_CORRECTED e) = (s.count (C.PAL_CORRECTED e) + 1) % 2 ^ 64))
    ∧ (∀ r, (s.engine e).run = some r → s.fld (R.PAL_FAULT_CTRL e) 31 16 ≠ 0 → (s.engine e).st = .active →
        (s.engine e).executing = true →
        exec (.watchdogExpiry e) s
          = .next ((s.reach (r.lastDone + s.fld (R.PAL_FAULT_CTRL e) 31 16 * 1000)).faultStop e 4 0))
    ∧ ((s.engine e).st = .faulted → (s.engine e).resetting = true → (s.engine e).dueGroup = none →
        (s.engine e).run = none → (s.engine e).noSpare = false → (s.engine e).offlining = false →
        (s.engine e).levelPark = false → s.fld (R.PAL_FAULT_CTRL e) 3 0 = 0 → s.fld (R.PAL_ENG_CTRL e) 30 30 = 0 →
        s.fld (R.PAL_ENG_CTRL e) 31 31 = 0 →
        Gives (.engineResetDone e) s (fun t => (t.engine e).st = .idle ∧ (t.engine e).resetting = false
          ∧ (t.engine e).lanes = [] ∧ (t.engine e).acc = [] ∧ (t.engine e).shared = [] ∧ (t.engine e).scratch = []))

/-- The energy account (R234): a window that starts makes A_d the lesser of A_d + B_d and B_d and publishes B_d, and
admitting a list charges its whole ENERGY to A_d, reserves a record and makes its ring RUNNING. Lane groups (R206): a
write of LANE_RETIRE stores its mask, and at the engine's command boundary a group whose lock is held is taken out of
use and the spare takes its place. The model's choices in it: log entries 73 and 74. -/
def Obligations.EnergyAccountsAndLaneGroups : Prop :=
  (∀ (s : State), s.canonical = true →
     (∀ d : Fin 4, s.on (palDomain d) = true → (s.engine (2 * d)).filling = false → (s.engine (2 * d + 1)).filling = false →
         Gives (.energyWindowStart d) s (fun t => t.now = max s.now (s.palDie d).windowEnd
           ∧ (t.palDie d).account = satAccount (min ((s.palDie d).account + (t.palDie d).budget) (t.palDie d).budget)
           ∧ (t.palDie d).charge = 0 ∧ (t.palDie d).lastCharge = (s.palDie d).charge
           ∧ t.rd (R.PAL_DIE_BUDGET d) = BitVec.ofNat 32 (t.palDie d).budget))
     ∧ (∀ (e : Nat) (c : Cand) l ls, (s.engine e).queue c.queue = l :: ls → (s.engine e).filling = false →
         ((s.palDie (e / 2)).windowEnd ≠ 0) →
         ((s.admitList e c).palDie (e / 2)).account = satAccount ((s.palDie (e / 2)).account - s.listEnergy e l)
           ∧ ((s.admitList e c).palDie (e / 2)).charge = (s.palDie (e / 2)).charge + s.listEnergy e l
           ∧ ((s.admitList e c).palRing l.ring).st = .running
           ∧ ((s.admitList e c).palRing l.ring).reserved = (s.palRing l.ring).reserved + 1
           ∧ ((s.admitList e c).engine e).st = .active
           ∧ (((s.admitList e c).engine e).run.map (fun r => r.list)) = some l)
     ∧ (∀ (e : Fin 8) r rest, (s.engine e).run = none → s.engineAvail e = true → (s.engine e).resumeQ = r :: rest →
         exec (.listAdmit e) s = .next ((s.setEngine e { s.engine e with resumeQ := rest }).resumeOn e r))
     ∧ (∀ (e : Fin 8) c, (s.engine e).run = none → s.engineAvail e = true → (s.engine e).resumeQ = [] →
         ((s.refreshCands e).listCands e).find? (fun c => (s.refreshCands e).admits (e / 2)
             ((s.refreshCands e).listCands (2 * (e / 2)) ++ (s.refreshCands e).listCands (2 * (e / 2) + 1)
               ++ (s.refreshCands e).batchCands (e / 2))
             ((s.refreshCands e).listCands e ++ (s.refreshCands e).batchCands (e / 2)) c) = some c →
         exec (.listAdmit e) s = .next ((s.refreshCands e).admitList e c)))
  ∧ (∀ (s : State) (e : Fin 8), s.canonical = true →
       (∀ mask : Fin 131072, s.on (regDomain (R.PAL_LANE_RETIRE e)) = true →
           Gives (.laneRetireWrite e mask) s (fun t => t.fld (R.PAL_LANE_RETIRE e) 16 0 = mask
             ∧ t.fld (R.PAL_LANE_MAP e) 16 0 = s.fld (R.PAL_LANE_MAP e) 16 0 ∧ t.pal = s.pal))
       ∧ (∀ g, g < 17 → s.maint = [(.lanes e g true, true)] → (s.engine e).executing = false → (s.engine e).resetting = false →
           (s.engine e).noSpare = false → (s.fld (R.PAL_LANE_MAP e) 16 0).testBit g = true →
           s.fld (R.PAL_LANE_MAP e) 31 27 < 17 →
           (s.fld (R.PAL_LANE_MAP e) 16 0).testBit (s.fld (R.PAL_LANE_MAP e) 31 27) = false →
           Gives (.laneGroupSwap e) s (fun t => t.maint = [] ∧ t.fld (R.PAL_LANE_MAP e) 31 27 = 0x1F
             ∧ t.fld (R.PAL_LANE_MAP e) 16 0
                 = s.fld (R.PAL_LANE_MAP e) 16 0 - 2 ^ g + 2 ^ s.fld (R.PAL_LANE_MAP e) 31 27
             ∧ t.pal = s.pal)))

/-- The client ring table and the doorbells (R217 to R220, R244): a good entry written to a DISABLED ring enables it with
CI, ERR_COUNT and CQ_PI at zero; a bad one changes no ring and answers status 3; reads answer the entry and the
status; a doorbell read takes PI and CQ_CI from the line, clears the watch's pending bit, and with nothing new posted
leaves the ring IDLE. A list that fails (R239): its record takes one place of the completion ring, CI goes past the
list, ERR_COUNT advances by 1 and the ring is in ERROR; the failure is counted at the engine. The model's choices in
it: log entries 75 and 77. -/
def Obligations.ClientRingsAnswer : Prop :=
  (∀ (s : State) (ring : Fin 4096), s.canonical = true →
     (s.on (regDomain R.PAL_RING_CMD) = true → (s.palRing ring).st = .disabled →
         ((s.rdWords (R.PAL_RING_DATA 0) 12).getD 0 0).fld 31 31 = 1 → s.badEntry (s.rdWords (R.PAL_RING_DATA 0) 12) = false →
         Gives (.ringWrite ring) s (fun t => t.fld R.PAL_RING_STAT 3 0 = 0 ∧ t.palRing ring =
           { PRing.init with st := .idle, entry := s.rdWords (R.PAL_RING_DATA 0) 12,
                             engine := s.boundEngine (s.rdWords (R.PAL_RING_DATA 0) 12),
                             queue := ((s.rdWords (R.PAL_RING_DATA 0) 12).getD 0 0).fld 26 23 }))
     ∧ (s.on (regDomain R.PAL_RING_CMD) = true → (s.palRing ring).st = .disabled →
         ((s.rdWords (R.PAL_RING_DATA 0) 12).getD 0 0).fld 31 31 = 1 → s.badEntry (s.rdWords (R.PAL_RING_DATA 0) 12) = true →
         Gives (.ringWrite ring) s (fun t => t.fld R.PAL_RING_STAT 3 0 = 3 ∧ t.pal = s.pal ∧ t.mem = s.mem))
     ∧ (s.on (regDomain R.PAL_RING_CMD) = true → (s.palRing ring).st = .running →
         Gives (.ringWrite ring) s (fun t => t.fld R.PAL_RING_STAT 3 0 = 1 ∧ t.pal = s.pal ∧ t.mem = s.mem))
     ∧ (s.on (regDomain R.PAL_RING_CMD) = true → (s.palRing ring).entry.length = 12 →
         Gives (.ringRead ring) s (fun t => t.fld R.PAL_RING_STAT 3 0 = 0 ∧ t.pal = s.pal
           ∧ t.rdWords (R.PAL_RING_DATA 0) 12 = (s.palRing ring).entry))
     ∧ (s.on (regDomain R.PAL_RING_CMD) = true →
         Gives (.ringStatusRead ring) s (fun t => t.fld R.PAL_RING_STAT 3 0 = 0 ∧ t.pal = s.pal
           ∧ t.rdWords (R.PAL_RING_DATA 0) 4 = (s.palRing ring).statusWords))
     ∧ ((s.palRing ring).st = .idle → (s.palRing ring).pending = true → s.ringServed ring = true →
         ((s.engine (s.palRing ring).engine).queue (s.palRing ring).queue).length < 256 → s.queuedList ring = false →
         s.dbWord (s.palRing ring) 0 = (s.palRing ring).ci → (s.palRing ring).ci < 2 ^ 32 →
         Gives (.doorbellRead ring) s (fun t => t.palRing ring =
           { s.palRing ring with pending := false, pi := (s.palRing ring).ci, cqCi := s.dbWord (s.palRing ring) 16 })))
  ∧ (∀ (s : State) (engine : Fin 8) (ring status idx ci : Nat) (ws : List Word), s.canonical = true → (s.palRing ring).st ≠ .disabled →
       ((s.ringFails ring engine status idx ci ws).palRing ring).st = .error
         ∧ ((s.ringFails ring engine status idx ci ws).palRing ring).errCount = ((s.palRing ring).errCount + 1) % 2 ^ 32
         ∧ ((s.ringFails ring engine status idx ci ws).palRing ring).ci = ci % 2 ^ 32
         ∧ ((s.ringFails ring engine status idx ci ws).palRing ring).cqPi = ((s.palRing ring).cqPi + 1) % 2 ^ 32
         ∧ (s.ringFails ring engine status idx ci ws).count (C.PAL_LISTS_FAILED engine)
             = (s.count (C.PAL_LISTS_FAILED engine) + 1) % 2 ^ 64)

/-- The control commands of a list (R222, R224, R232, R240). NOP and, without a journal, CKPT have no effect but that the
next command follows; BEGIN starts with an empty checkpoint; a CKPT with a journal saves its state; END and FENCE
begin to wait, until FENCE_US where that is not zero, and a FENCE whose scope is performed ends its wait; a NOTIFY
that the die's scheduler may issue is sent, once no earlier command uses the memory it writes here; its responses are
taken in order. The model's choices in it: log entries 65, 78 and 84. -/
def Obligations.ListControlCommandsAct : Prop :=
  ∀ (s : State) (e : Fin 8) (r : Running) (w : List Word),
    (s.issues e 0x00 [0xFF000000] r w →
        exec (.palNop e) s = .next (s.setEngine e { s.engine e with run := some (r.next s.now) }))
    ∧ (s.issues e 0x01 [0xFF00FFFF, 0xFFFF0000, 0xFFFFFFFF, 0x0000FFFF] r w →
        (s.palRing r.list.ring).jrnl = 0 →
        exec (.palBegin e) s = .next ((s.setEngine e { s.engine e with
          run := some { r with ckpt := Saved.none_, records := [], issued := [], half := 1 - r.half } }).nextCmd e))
    ∧ (s.issues e 0x01 [0xFF00FFFF, 0xFFFF0000, 0xFFFFFFFF, 0x0000FFFF] r w →
        Gives (.palBegin e) s (fun t => (t.engine e).run = some
          (({ r with ckpt := Saved.none_, records := [], issued := [], half := 1 - r.half } : Running).next s.now)))
    ∧ (s.issues e 0x02 [0xFF000001, 0xFFFFFFFF] r w →
        Gives (.palEnd e) s (fun t => t.engine e = { s.engine e with run := some { r with
          fence := some (if s.fld (R.PAL_LIST_CTRL e) 31 16 = 0 then none
            else some (s.now + s.fld (R.PAL_LIST_CTRL e) 31 16 * 1000)) } }))
    ∧ (s.issues e 0x03 [0xFFE00000, 0x0003FFFF] r w → (cw w 0).fld 23 22 ≠ 3 →
        Gives (.palFence e) s (fun t => t.engine e = { s.engine e with run := some { r with
          fence := some (if s.fld (R.PAL_LIST_CTRL e) 31 16 = 0 then none
            else some (s.now + s.fld (R.PAL_LIST_CTRL e) 31 16 * 1000)) } }))
    ∧ (s.issues e 0x03 [0xFFE00000, 0x0003FFFF] r w → (cw w 0).fld 23 22 = 3 →
        exec (.palFence e) s = .next ((((s.listFail e stCMD_FORMAT r.pc).quiesce e).afterOffline e)))
    ∧ (s.waitingCmd e = some (r, w) → (s.engine e).st = .active → (s.engine e).target = .idle →
        s.fenceDone e r w = true → (cw w 0).fld 31 24 = 0x03 →
        Gives (.fenceComplete e) s (fun t => t.engine e = { s.engine e with
          run := some ((({ r with fence := none } : Running).record r.pc).next s.now) }))
    ∧ (s.waitingCmd e = some (r, w) → (s.engine e).st = .active → s.fenceDone e r w = true → (cw w 0).fld 31 24 = 0x02 →
        (cw w 0).bit 0 = false →
        exec (.fenceComplete e) s = .next ((s.listDone e false (cw w 1)).afterOffline e))
    ∧ (∀ t0, s.waitingCmd e = some (r, w) → r.fence = some (some t0) → (s.engine e).st = .active →
        s.fenceDone e r w = false →
        exec (.fenceTimeout e) s = .next (((s.reach t0).listFail e stFENCE_TIMEOUT r.pc).afterOffline e))
    ∧ (s.issues e 0x04 [0xFFFF0000, 0, 0xFFFFFFFF, 0xFFFFFFFF, 0xFFFFFFFF, 0xFFFFFFFF] r w → (cw w 0).fld 23 21 ≤ 3 →
        (cw w 0).bit 19 = false → r.issued.contains r.pc = false →
        s.mayIssue (4 + e / 2) (notifyDest w).1 (notifyDest w).2 = true →
        (s.notifyBytes w = none → Gives (.palNotify e) s (fun t => (t.engine e).run = some (({ r with
            issued := r.issued ++ [r.pc], dests := (notifyDest w :: r.dests).eraseDups, notes := r.notes } : Running).next
              s.now)
          ∧ t.req = (s.issue (4 + e / 2) (.notify r.list.ring ((r.list.first + r.pc) % 2 ^ 32))
              (notifySpec w (s.palRing r.list.ring).job)).req))
        ∧ (∀ k n, s.notifyBytes w = some (k, n) → r.blocked (noteFoot k n) = false →
            Gives (.palNotify e) s (fun t => (t.engine e).run = some (({ r with
                issued := r.issued ++ [r.pc], dests := (notifyDest w :: r.dests).eraseDups,
                notes := r.notes ++ [(r.pc, k, n)] } : Running).next s.now)
              ∧ t.req = (s.issue (4 + e / 2) (.notify r.list.ring ((r.list.first + r.pc) % 2 ^ 32))
                  (notifySpec w (s.palRing r.list.ring).job)).req)))
    ∧ (∀ (d : Fin 4) ring cmd st rest, (s.palDie d).responses = (ring, cmd, st) :: rest →
        exec (.notifyResponse d) s
          = .next ((s.updDie d (fun x => { x with responses := rest })).notifyAnswered ring cmd st))
    ∧ (s.issues e 0x05 [0xFF000000, 0x3FFF3FFF, 0x0000FFFF, 0x0FFF0FFF, 0x01FFFFFF] r w → r.moves = [] →
        ckSlot w + ckSlots w ≤ 7680 → ckVec w + ckVecs w ≤ 4096 → ckScratch w ≤ r.scratchLen →
        (s.palRing r.list.ring).jrnl = 0 →
        exec (.palCkpt e) s = .next (s.setEngine e { s.engine e with run := some (r.next s.now) }))
    ∧ (s.issues e 0x05 [0xFF000000, 0x3FFF3FFF, 0x0000FFFF, 0x0FFF0FFF, 0x01FFFFFF] r w → r.moves = [] →
        ckSlot w + ckSlots w ≤ 7680 → ckVec w + ckVecs w ≤ 4096 → ckScratch w ≤ r.scratchLen →
        (s.palRing r.list.ring).jrnl ≠ 0 → ckBytes w ≤ (s.palRing r.list.ring).jrnl * 32768 →
        Gives (.palCkpt e) s (fun t => (t.engine e).lanes = (s.engine e).lanes ∧ (t.engine e).run = some
          (({ r with ckpt := (s.engine e).saved w r.pc, records := [], issued := [], half := 1 - r.half } : Running).next
            s.now)))

/-- MOVE (R226, R231, R232): data of memory is read when it returns and then placed, or written when the write is
performed; data of an engine is read at once. The model's choices in it: log entry 83. -/
def Obligations.MovesRunInSteps : Prop :=
  ∀ (s : State) (e : Fin 8) (r : Running) (w : List Word),
    (s.issues e 0x10 (moveMasks w) r w → s.moveBad w r.scratchLen = false → mvLen w ≠ 0 → r.blocked (moveFoot w) = false →
        r.moves.length < 16 →
        ((mvSrc w).isMem = true →
          exec (.palMove e) s = .next ((s.setEngine e { s.engine e with
            run := some { r with moves := r.moves ++ [⟨r.pc, w, .read, []⟩] } }).nextCmd e))
        ∧ ((mvSrc w).isMem = false → (mvDst w).isMem = true →
          exec (.palMove e) s = .next ((s.setEngine e { s.engine e with run := some { r with moves := r.moves
            ++ [⟨r.pc, w, .write, (s.engine e).fromSide (mvSrc w) (mvLayout w == 1) (mvFmt w) (mvLen w)⟩] } }).nextCmd e))
        ∧ ((mvSrc w).isMem = false → (mvDst w).isMem = false →
          exec (.palMove e) s = .next ((s.placeData e w
            ((s.engine e).fromSide (mvSrc w) (mvLayout w == 1) (mvFmt w) (mvLen w))).nextCmd e)))
    ∧ (s.issues e 0x10 (moveMasks w) r w → s.moveBad w r.scratchLen = true → mvLen w ≠ 0 →
        exec (.palMove e) s = .next (((s.listFail e stCMD_FORMAT r.pc).quiesce e).afterOffline e))
    ∧ (∀ (i : Fin 16) m, s.moveAt e i = some (r, m) → m.wait = .read →
        s.sideAnswer (mvSrc m.words) (mvLen m.words) = .go → s.readsPoison (mvSrc m.words).key (mvLen m.words) = false →
        m.toMem = true →
        Gives (.moveReadReturn e i) s (fun t => (t.engine e).run = some { r with moves := r.moves.map (fun x =>
          if x.cmd = m.cmd then { x with wait := .write, data := s.readBytes (mvSrc m.words).key (mvLen m.words) } else x) }))
    ∧ (∀ (i : Fin 16) m, s.moveAt e i = some (r, m) → m.wait = .read →
        s.sideAnswer (mvSrc m.words) (mvLen m.words) = .go → s.readsPoison (mvSrc m.words).key (mvLen m.words) = false →
        m.toMem = false → (mvDst m.words).kind = 4 → (s.engine e).st = .active → (s.engine e).target = .idle →
        Gives (.moveReadReturn e i) s (fun t => (t.engine e).run = some { r.dropMove m.cmd with lastDone := s.now }
          ∧ (t.engine e).scratch = Tbl.putRun (fun _ => 0) (s.engine e).scratch (mvDst m.words).at_
              (s.readBytes (mvSrc m.words).key (mvLen m.words))))
    ∧ (∀ (i : Fin 16) m, s.moveAt e i = some (r, m) → m.wait = .write → s.sideAnswer (mvDst m.words) m.data.length = .go →
        (s.engine e).st = .active → (s.engine e).target = .idle → (s.palRing r.list.ring).jrnl = 0 →
        Gives (.moveWritePerformed e i) s (fun t =>
          (t.engine e).run = some { (r.dropMove m.cmd).record m.cmd with lastDone := s.now }
          ∧ t.mem.bytes = (s.writeBytes (mvDst m.words).key m.data).mem.bytes))
    ∧ (∀ (i : Fin 16) m st, s.moveAt e i = some (r, m) → m.wait = .write →
        s.sideAnswer (mvDst m.words) m.data.length = .fail st →
        exec (.moveWritePerformed e i) s = .next ((s.listFail e st m.cmd).afterOffline e))

/-- The compute commands (R202, R222, R227 to R230). A ROW in range changes accumulators alone and counts its reps and
units; an ELEM without wrap puts op(a, b, c) of each element into its destination slots; a reduce to accumulators puts
result k into accumulator DACC + k of every lane; a CONVERT converts each enabled lane; each is followed by the next
command. The model's choices in it: log entries 65, 79 and 81. -/
def Obligations.ComputeCommandsAct : Prop :=
  ∀ (s : State) (e : Fin 8) (r : Running) (w : List Word), r.moves = [] →
    (s.canonical = true → s.issues e 0x20 [0xFFFFFFE0, 0xFFFF3FFF, 0xFFFFFFFF, 0x0FFFFF00] r w → cmdLanes w ≤ 128 →
        rowPairs w = true → (∀ i, i < rowReps w → rowRepOk w i = true) → rowReps w ≠ 0 → cmdLanes w ≠ 0 →
        (s.engine e).level ≠ 0 →
        Gives (.palRow e) s (fun t =>
          t.engine e = { s.engine e with acc := ((s.engine e).row w).acc, run := some (r.next s.now) }
          ∧ t.count (C.PAL_ROW_CYCLES e) = (s.count (C.PAL_ROW_CYCLES e) + rowReps w) % 2 ^ 64
          ∧ t.count (C.PAL_ROW_UNITS e) = (s.count (C.PAL_ROW_UNITS e) + 128 * cmdLanes w * rowReps w) % 2 ^ 64))
    ∧ (s.issues e 0x21 [0xFFFFFF00, 0xFFFFFFFF, 0xFFFFFFFF, 0x3FFF00FF, 0xFFFFFFFF] r w → elemBad w = false →
        elPeriod w = 0 → (elDst w).kind = 0 → Tbl.wf (fun _ => 0) (s.engine e).lanes = true →
        Gives (.palElem e) s (fun t => (t.engine e).run = some (r.next s.now)
          ∧ (∀ l k, l < cmdLanes w → k < elCount w → (t.engine e).lane l ((elDst w).index + k)
              = elemOp (elOp w) ((s.engine e).opndAt l (cw w 4) (elA w) k) ((s.engine e).opndAt l (cw w 4) (elB w) k)
                  ((s.engine e).opndAt l (cw w 4) (elC w) k))
          ∧ (∀ l slot, slot < 8192 → (cmdLanes w ≤ l ∨ slot < (elDst w).index ∨ (elDst w).index + elCount w ≤ slot) →
              (t.engine e).lane l slot = (s.engine e).lane l slot)
          ∧ (t.engine e).acc = (s.engine e).acc))
    ∧ (s.issues e 0x22 [0xFFE0FF00, 0x0000FFFF, 0xFFFFFFFF, 0x000FFFFF] r w → xlaneBad w = false → xlOp w ≠ 3 →
        (cw w 0).bit 21 = false → cmdLanes w ≠ 0 → xlCount w ≠ 0 → Tbl.wf (fun _ => 0) (s.engine e).acc = true →
        Gives (.palXlane e) s (fun t => (t.engine e).run = some (r.next s.now) ∧ (t.engine e).lanes = (s.engine e).lanes
          ∧ ∀ l k, l < 128 → k < xlCount w →
              (t.engine e).accum l (xlAcc w + k) = reduceRow (xlOp w) ((s.engine e).column w k)))
    ∧ (s.issues e 0x23 [0xFFFFF0FF, 0x3FFF3FFF, 0x0000FFFF] r w → convertBad w = false → cvElems w ≠ 0 →
        exec (.palConvert e) s = .next ((s.setEngine e
          (eachDo (fun l x => x.convertLane w l) (List.range (cvLanes w)) (s.engine e))).nextCmd e))

/-- Memory reads back what was written (R251, R264): a range that is not poisoned, of a home whose combining buffer is
empty, reads as the bytes written to it; every byte outside the range reads as before; and a line that the write
covers whole is no longer marked poisoned. The model's choices in it: log entries 85 and 90. -/
def Obligations.MemoryReadsBackWrites : Prop :=
  ∀ (s : State) (key : Nat) (bs : List Byte), s.canonical = true →
    ((∀ i, i < bs.length → s.poisoned (key + i) = false) → key % 2 ^ 46 + bs.length ≤ 2 ^ 46 →
        (s.home (key / 2 ^ 46)).lines = [] → (s.writeBytes key bs).readBytes key bs.length = bs)
    ∧ (∀ a, a < key ∨ key + bs.length ≤ a → (s.writeBytes key bs).readByte a = s.readByte a)
    ∧ (∀ l, key ≤ 64 * l → 64 * l + 64 ≤ key + bs.length →
        Tbl.get (fun _ => false) (s.writeBytes key bs).mem.poison l = false)

/-- Requests at a home agent are taken by their class (R245 to R248, R250), while the module takes part in the fabric. A
home that cannot serve answers RESULT 0x1; a source in first contact begins its series with the request, which takes a
slot and is ready at once; a duplicate and a SEQ outside are counted and take none. A waiting source takes a free
tracker, and one whose linger ends gives its tracker back and keeps its series; a forgotten source has none, and is
refused with status 1 while it has a request. The model's choices in it: log entries 91 and 92. -/
def Obligations.HomeRequestsAreTakenByClass : Prop :=
  ∀ (s : State) (d : Fin 4), s.canonical = true →
    (∀ it rest, Tbl.get (fun _ => []) s.dp.unitIn d = it :: rest → s.homeDead d = true → s.joined = true →
        Gives (.homeRequestReceive d) s (fun t => t.dp.unitIn = Tbl.put (fun _ => []) s.dp.unitIn d rest
          ∧ ∃ x, t.rx 1088 = s.rx 1088 ++ [x] ∧ x.body = .ffp (rspPacket d s.spineId it.pkt
              (s.nextSeq d it.pkt.sspace it.pkt.src) 1 it.pkt.isLoad 0 (onesFor it.pkt))))
    ∧ (∀ it rest h', Tbl.get (fun _ => []) s.dp.unitIn d = it :: rest → s.homeDead d = false → s.dieWorks d = true →
        (s.home d).take (srcKey it.pkt.sspace it.pkt.src) = some h' →
        (s.home d).seriesOf (srcKey it.pkt.sspace it.pkt.src) = none → (s.home d).roomFor it.pkt = true →
        Gives (.homeRequestReceive d) s (fun t => t.dp.unitIn = Tbl.put (fun _ => []) s.dp.unitIn d rest
          ∧ (t.home d).seriesOf (srcKey it.pkt.sspace it.pkt.src) = some (Tracker.begin_ it.pkt.seq .held)
          ∧ (t.home d).slots.length = (s.home d).slots.length + 1
          ∧ ∃ x, x ∈ (t.home d).slots ∧ x.src = srcKey it.pkt.sspace it.pkt.src ∧ x.pkt = it.pkt ∧ x.since = s.now
              ∧ x.ready = true))
    ∧ (∀ it rest h' tr, Tbl.get (fun _ => []) s.dp.unitIn d = it :: rest → s.homeDead d = false → s.dieWorks d = true →
        (s.home d).take (srcKey it.pkt.sspace it.pkt.src) = some h' →
        (s.home d).seriesOf (srcKey it.pkt.sspace it.pkt.src) = some tr → tr.classify it.pkt.seq = .duplicate →
        (s.loadWaits d it.pkt = false ∨ ∀ a, tr.find it.pkt.seq = some (.answered a) → a.load = false) →
        Gives (.homeRequestReceive d) s (fun t =>
          (t.home d).slots.map (fun x => (x.src, x.seq, x.ready)) = (s.home d).slots.map (fun x => (x.src, x.seq, x.ready))
          ∧ (t.home d).series = (s.home d).series ∧ t.mem = s.mem
          ∧ t.count (C.MEM_HA_DUP d) = (s.count (C.MEM_HA_DUP d) + 1) % 2 ^ 64))
    ∧ (∀ it rest h' tr, Tbl.get (fun _ => []) s.dp.unitIn d = it :: rest → s.homeDead d = false → s.dieWorks d = true →
        (s.home d).take (srcKey it.pkt.sspace it.pkt.src) = some h' →
        (s.home d).seriesOf (srcKey it.pkt.sspace it.pkt.src) = some tr → tr.classify it.pkt.seq = .outside →
        Gives (.homeRequestReceive d) s (fun t => (t.home d).slots = (s.home d).slots
          ∧ (t.home d).series = (s.home d).series ∧ t.mem = s.mem ∧ t.rx 1088 = s.rx 1088
          ∧ t.count (C.MEM_HA_DISCARD d) = (s.count (C.MEM_HA_DISCARD d) + 1) % 2 ^ 64))
    ∧ (∀ it rest, Tbl.get (fun _ => []) s.dp.unitIn d = it :: rest → (s.home d).active.length < 16384 →
        Gives (.trackerAllocate d) s (fun t => (t.home d).active
            = Tbl.insert (s.home d).active (srcKey it.pkt.sspace it.pkt.src) none
          ∧ (t.home d).series = (s.home d).series))
    ∧ (∀ (space : Bool) (src : Fin 262144) t0, Tbl.get (fun _ => none) (s.home d).active (srcKey (bit01 space) src) = some t0 →
        Gives (.trackerLingerExpiry d space src) s (fun t => t.now = max s.now (t0 + s.lingerNs d)
          ∧ (t.home d).active = Tbl.erase (s.home d).active (srcKey (bit01 space) src)
          ∧ (t.home d).series = (s.home d).series))
    ∧ (∀ (space : Bool) (src : Fin 262144), s.on (regDomain (R.MEM_HA_TRK_CMD d)) = true →
        (s.home d).slots.any (fun r => r.src == srcKey (bit01 space) src) = false →
        Gives (.trackerForget d space src) s (fun t => t.fld (R.MEM_HA_TRK_STAT d) 3 0 = 0
          ∧ (t.home d).series = Tbl.erase (s.home d).series (srcKey (bit01 space) src)
          ∧ (t.home d).active = Tbl.erase (s.home d).active (srcKey (bit01 space) src)
          ∧ (t.home d).slots = (s.home d).slots))
    ∧ (∀ (space : Bool) (src : Fin 262144), s.on (regDomain (R.MEM_HA_TRK_CMD d)) = true →
        (s.home d).slots.any (fun r => r.src == srcKey (bit01 space) src) = true →
        Gives (.trackerForget d space src) s (fun t => t.fld (R.MEM_HA_TRK_STAT d) 3 0 = 1 ∧ t.homes = s.homes))

/-- A request is performed when it is ready (R251 to R253), and answered while the module takes part in the fabric. One
that fails a check is answered with that check's RESULT and changes no memory; a load of one line is answered with the
bytes as they stand; an atomic on a filled line of the combining buffer leaves the new value there and answers OLD; a
store within one line that is not buffered stores its bytes, and every other byte of memory reads as before; a line
that is read fills its entry, and an entry idle for 1 µs is written back. The model's choices in it: log entry 90. -/
def Obligations.HomeRequestsArePerformed : Prop :=
  ∀ (s : State) (d : Fin 4) (r : HomeReq), s.canonical = true →
    (s.dieWorks d = true → s.firstReady d (s.home d).slots [] = some r →
        exec (.homeRequestPerform d) s = .next (s.perform d r))
    ∧ (s.joined = true → s.homeCheck d r.pkt ≠ 0 → (s.perform d r).mem = s.mem
        ∧ ∃ x, (s.perform d r).rx 1088 = s.rx 1088 ++ [x] ∧ x.body = .ffp (rspPacket d s.spineId r.pkt
            (s.nextSeq d r.pkt.sspace r.pkt.src) (s.homeCheck d r.pkt) r.pkt.isLoad 0 (onesFor r.pkt)))
    ∧ (s.joined = true → s.homeCheck d r.pkt = 0 → r.pkt.isLoad = true → (reqLines d r.pkt).length ≤ 1 →
        (s.perform d r).mem.bytes = s.mem.bytes
        ∧ ∃ x, (s.perform d r).rx 1088 = s.rx 1088 ++ [x] ∧ x.body = .ffp (rspPacket d s.spineId r.pkt
            (s.nextSeq d r.pkt.sspace r.pkt.src) 0 (s.readsPoison (memKey d r.pkt.offset) r.pkt.reqSize) 0
            (s.readBytes (memKey d r.pkt.offset) r.pkt.reqSize)))
    ∧ (∀ l bs, s.joined = true → s.homeCheck d r.pkt = 0 → r.pkt.isAtomic = true →
        s.lineOf (memKey d r.pkt.offset) = some l → l.data = some bs → bs.length = 64 →
        (s.perform d r).readBytes (memKey d r.pkt.offset) r.pkt.span = bytesLEOfNat r.pkt.span
            (atomicNew r.pkt.aop (8 * r.pkt.span) (natOfBytesLE (s.readBytes (memKey d r.pkt.offset) r.pkt.span))
              r.pkt.operand r.pkt.swap)
        ∧ ∃ x, (s.perform d r).rx 1088 = s.rx 1088 ++ [x] ∧ x.body = .ffp (rspPacket d s.spineId r.pkt
            (s.nextSeq d r.pkt.sspace r.pkt.src) 0 (s.readsPoison (memKey d r.pkt.offset) r.pkt.span)
            (natOfBytesLE (s.readBytes (memKey d r.pkt.offset) r.pkt.span)) []))
    ∧ (∀ key bs, key = memKey d r.pkt.offset → s.homeCheck d r.pkt = 0 → r.pkt.isLoad = false → r.pkt.isAtomic = false →
        r.pkt.isStore = true → (reqLines d r.pkt).length = 1 → (s.home d).buffered (key / 64) = false →
        bs = r.pkt.payload.take r.pkt.length →
        (∀ a, a < key ∨ key + bs.length ≤ a → (s.perform d r).readByte a = s.readByte a)
        ∧ ((∀ i, i < bs.length → s.poisoned (key + i) = false) → (s.perform d r).readBytes key bs.length = bs))
    ∧ (∀ x, (s.home d).lines.find? (fun y => y.data.isNone) = some x → (s.home d).slots = [] →
        Gives (.lineFill d) s (fun t => (t.home d).lines = (s.home d).lines.map (fun y =>
          if y.line = x.line then { y with data := some ((List.range 64).map (fun i => s.memByte (x.line * 64 + i))),
                                           poisoned := s.anyPoison (x.line * 64) 64 } else y)))
    ∧ (∀ x, oldestLine ((s.home d).lines.filter (fun x => x.data.isSome && !((s.home d).queuedLines d).contains x.line))
          = some x →
        Gives (.combiningLineExpiry d) s (fun t => t.now = max s.now (x.last + 1000)
          ∧ (t.home d).lines = (s.home d).lines.filter (fun y => !([x.line].contains y.line))))

/-- The module's own requests (R254, R258 to R260). One unanswered for RETRY_US is sent again as it was; one whose timer
expires completes as poisoned or enters the held table; a response completes the request it answers, and one that
answers none is counted as late; a held request is read and released by its entry, or all of a destination at once.
Access windows (R255, R263): a write with no reserved bit set stores the window, and another is refused with status 3;
a read answers the window. The model's choices in it: log entry 3. -/
def Obligations.RequestsAndAccessWindows : Prop :=
  (∀ (s : State), s.canonical = true →
     (∀ (origin : Fin 5) (tag : Fin 65536) r, s.findReq origin tag = some r → s.joined = true →
         Gives (.requestRetry origin tag) s (fun t => t.now = max s.now (r.lastSent + s.retryNs)
           ∧ ∃ x, t.rx 1088 = s.rx 1088 ++ [x] ∧ x.body = .ffp r.pkt))
     ∧ (∀ (origin : Fin 5) (tag : Fin 65536) r, s.findReq origin tag = some r → r.held = none → s.timeoutNs ≠ 0 →
         s.fld R.MEM_REQ_TIMER 31 31 = 0 →
         exec (.requestTimerExpiry origin tag) s = .next ((s.reach (r.started + s.timeoutNs)).poisonReq r))
     ∧ (∀ (origin : Fin 5) (tag : Fin 65536) r, s.findReq origin tag = some r → r.held = none → s.timeoutNs = 0 →
         (s.req.out.filter (fun x => x.held.isSome)) = [] →
         Gives (.requestTimerExpiry origin tag) s (fun t => t.now = max s.now (r.started + 100000000)
           ∧ t.findReq origin tag = some { r with held := some (0, t.now) }
           ∧ t.count C.MEM_REQ_HELD = (s.count C.MEM_REQ_HELD + 1) % 2 ^ 64))
     ∧ (∀ it l, s.hubIn = it :: l → it.pkt.ty ≠ tyACK → it.pkt.echo = 0 → s.req.out = [] → s.req.data = [] →
         Gives .responseReceive s (fun t => t.dp.unitIn = Tbl.put (fun _ => []) s.dp.unitIn 5 l
           ∧ t.count C.TEL_HUB_LATE_RSP = (s.count C.TEL_HUB_LATE_RSP + 1) % 2 ^ 64))
     ∧ (∀ it l r, s.hubIn = it :: l → it.pkt.ty ≠ tyACK → it.pkt.echo = 0 → r.held = none →
         s.req.out.find? (fun r => r.origin == rspOrigin it.pkt && r.tag == it.pkt.fld 5 31 16 && tyResponse it.pkt.ty
           && rspType r.pkt.ty == it.pkt.ty && r.pkt.dest == it.pkt.src && r.space == it.pkt.sspace) = some r →
         exec .responseReceive s = .next ((s.unitTake 5 it l).completeReq r (it.pkt.fld 5 15 12) (it.pkt.fld 5 11 11 == 1)
           (it.pkt.fld 6 31 0 * 2 ^ 32 + it.pkt.fld 7 31 0) it.pkt.payload))
     ∧ (∀ index : Fin 4096, s.on (regDomain R.MEM_HELD_CMD) = true → s.heldAt index = none →
         Gives (.heldRelease index) s (fun t => t.fld R.MEM_HELD_STAT 3 0 = 4 ∧ t.req = s.req)
         ∧ Gives (.heldRead index) s (fun t => t.fld R.MEM_HELD_STAT 3 0 = 4 ∧ t.req = s.req))
     ∧ (∀ (index : Fin 4096) r, s.on (regDomain R.MEM_HELD_CMD) = true → s.heldAt index = some r →
         exec (.heldRelease index) s = .next (((s.bump C.MEM_REQ_HELD_RELEASED 1).completeReq r 5 r.pkt.isLoad 0
           (onesFor r.pkt)).status R.MEM_HELD_STAT 0))
     ∧ (∀ (index : Fin 4096) r i t0, s.on (regDomain R.MEM_HELD_CMD) = true → s.heldAt index = some r →
         r.held = some (i, t0) →
         Gives (.heldRead index) s (fun t => t.fld R.MEM_HELD_STAT 3 0 = 0 ∧ t.req = s.req
           ∧ t.rdWords (R.MEM_HELD_DATA 0) 4 = heldWords r t0 s.now))
     ∧ (∀ r, s.on (regDomain R.MEM_HELD_CMD) = true →
         s.req.out.filter (fun r => r.held.isSome && r.pkt.dest == (s.rd (R.MEM_HELD_DATA 0)).fld 17 0
           && r.space == (s.rd (R.MEM_HELD_DATA 0)).fld 19 19) = [r] →
         exec .heldReleaseDest s = .next ((s.releaseReq r).status R.MEM_HELD_STAT 0)))
  ∧ (∀ (s : State) (index : Fin 4096), s.canonical = true → s.on (regDomain R.MEM_WIN_CMD) = true →
       (windowOk (s.rdWords (R.MEM_WIN_DATA 0) 4) = true →
           Gives (.windowWrite index) s (fun t => t.fld R.MEM_WIN_STAT 3 0 = 0 ∧ t.req = { s.req with
             windows := Tbl.put (fun _ => windowZero) s.req.windows index (s.rdWords (R.MEM_WIN_DATA 0) 4) }))
       ∧ (windowOk (s.rdWords (R.MEM_WIN_DATA 0) 4) = false →
           Gives (.windowWrite index) s (fun t => t.fld R.MEM_WIN_STAT 3 0 = 3 ∧ t.req = s.req))
       ∧ ((Tbl.get (fun _ => windowZero) s.req.windows index).length = 4 →
           Gives (.windowRead index) s (fun t => t.fld R.MEM_WIN_STAT 3 0 = 0 ∧ t.req = s.req
             ∧ t.rdWords (R.MEM_WIN_DATA 0) 4 = Tbl.get (fun _ => windowZero) s.req.windows index)))

/-- Responses and releases of held requests (R261). A release of an empty entry returns status 0x4; and when a response
and a release reach one held request, the response is taken first: it empties the entry, and the release then finds
none. -/
def Obligations.AReleaseAfterTheResponseFindsNoEntry : Prop :=
  ∀ (s : State) (index : Fin 4096), s.on (regDomain R.MEM_HELD_CMD) = true →
    (s.heldAt index = none → exec (.heldRelease index) s = .next (s.setF R.MEM_HELD_STAT 3 0 4))
    ∧ (∀ it l r t0, s.hubIn = it :: l → it.pkt.ty ≠ tyACK → it.pkt.echo = 0 → r.held = some (index.val, t0) →
        s.req.out.find? (fun r => r.origin == rspOrigin it.pkt && r.tag == it.pkt.fld 5 31 16 && tyResponse it.pkt.ty
          && rspType r.pkt.ty == it.pkt.ty && r.pkt.dest == it.pkt.src && r.space == it.pkt.sspace) = some r →
        (∀ x t1, x ∈ s.req.out → x.held = some (index.val, t1) → x.origin = r.origin ∧ x.tag = r.tag) →
        Gives .responseReceive s (fun t => t.heldAt index = none
          ∧ exec (.heldRelease index) t = .next (t.setF R.MEM_HELD_STAT 3 0 4)))

/-- Pages (R273, R274, R276, R281). An allocation maps an UNMAPPED handle at the place that Easel chooses, and every byte
of the page reads as zero; a free unmaps it; with a page that is mapped, or that is not, the status says so; a read
answers the entry; a pin that the page already keeps is stored and moves nothing; a copy that is done makes the
destination the page's place and counts 131,072 bytes; every HEAT_MS HEAT is halved and the reads by die start anew.
Windows, intervals and spill room (R268, R279 to R281). A fixed window that grows is PENDING, and mapped when its
frames are free; one that shrinks is unmapped at once; an interval ends 100 µs after the one before, and with Easel
disabled it moves no page; a SPILL_MAX_GIB that still holds what is spilled loses none. The model's choices in it: log
entries 3, 87, 88, 89, 96 and 97. -/
def Obligations.PagesWindowsAndIntervals : Prop :=
  (∀ (s : State) (h : Fin 268435456), s.canonical = true →
     (∀ p, s.on (regDomain R.MEM_PAGE_CMD) = true → pageDataBad (s.rd (R.MEM_PAGE_DATA 0)) = false →
         (s.page h).st = .unmapped → (s.rd (R.MEM_PAGE_DATA 0)).fld 24 24 = 0 →
         s.easelPlace ((s.rd (R.MEM_PAGE_DATA 0)).fld 28 27) ((s.rd (R.MEM_PAGE_DATA 0)).fld 26 25) none = some p →
         Gives (.pageAlloc h) s (fun t => t.fld R.MEM_PAGE_STAT 3 0 = 0 ∧ (t.page h).at_ = p
           ∧ (t.page h).st = (if p.cxl then .cxl else .hbm) ∧ (t.page h).pin = (s.rd (R.MEM_PAGE_DATA 0)).fld 28 27
           ∧ ∀ i, i < 131072 → t.readByte (pageKey h + i) = 0))
     ∧ (s.on (regDomain R.MEM_PAGE_CMD) = true → pageDataBad (s.rd (R.MEM_PAGE_DATA 0)) = false →
         (s.page h).st ≠ .unmapped →
         Gives (.pageAlloc h) s (fun t => t.fld R.MEM_PAGE_STAT 3 0 = 4 ∧ t.mem = s.mem))
     ∧ (s.on (regDomain R.MEM_PAGE_CMD) = true → (s.page h).st ≠ .unmapped →
         Gives (.pageFree h) s (fun t => t.fld R.MEM_PAGE_STAT 3 0 = 0
           ∧ t.mem.pages = Tbl.put (fun _ => Page.init) s.mem.pages h Page.init
           ∧ ∀ i, i < 131072 → t.readByte (pageKey h + i) = 0))
     ∧ (s.on (regDomain R.MEM_PAGE_CMD) = true → (s.page h).st = .unmapped →
         Gives (.pageFree h) s (fun t => t.fld R.MEM_PAGE_STAT 3 0 = 4 ∧ t.mem = s.mem))
     ∧ (s.on (regDomain R.MEM_PAGE_CMD) = true →
         Gives (.pageRead h) s (fun t => t.fld R.MEM_PAGE_STAT 3 0 = 0 ∧ t.mem = s.mem
           ∧ t.rdWords (R.MEM_PAGE_DATA 0) 4 = (s.page h).words))
     ∧ (s.on (regDomain R.MEM_PAGE_CMD) = true → pageDataBad (s.rd (R.MEM_PAGE_DATA 0)) = false →
         (s.page h).st = .hbm → (s.page h).dst = none →
         breaksPin ((s.rd (R.MEM_PAGE_DATA 0)).fld 28 27) ((s.rd (R.MEM_PAGE_DATA 0)).fld 26 25) (s.page h).at_ = false →
         Gives (.pageSetPin h) s (fun t => t.fld R.MEM_PAGE_STAT 3 0 = 0 ∧ t.page h = { s.page h with
           pin := (s.rd (R.MEM_PAGE_DATA 0)).fld 28 27, pinDie := (s.rd (R.MEM_PAGE_DATA 0)).fld 26 25 }))
     ∧ (∀ d, (s.page h).st = .migrating → (s.page h).dst = some d →
         Gives (.pageCopyDone h) s (fun t => (t.page h).at_ = d ∧ (t.page h).dst = none
           ∧ (t.page h).st = (if d.cxl then .cxl else .hbm) ∧ (t.page h).pin = (s.page h).pin
           ∧ t.count C.MEM_MIG_BYTES = (s.count C.MEM_MIG_BYTES + 131072) % 2 ^ 64))
     ∧ (s.on 2 = true → s.fld R.MEM_EASEL_HEAT 15 0 ≠ 0 →
         Gives .heatHalving s (fun t => t.now = max s.now (s.mem.heatAt + s.fld R.MEM_EASEL_HEAT 15 0 * 1000000)
           ∧ t.mem.heatAt = t.now
           ∧ t.mem.pages = s.mem.pages.map (fun kp => (kp.1, { kp.2 with
               heat := kp.2.heat / 2, reads := Four.zero, otherReads := 0 })))))
  ∧ (∀ (s : State), s.canonical = true →
       (∀ (d : Fin 4) (gib : Fin 512), s.on (regDomain (R.MEM_FIX_GIB d)) = true → s.fixedGib d < gib →
           Gives (.fixGibWrite d gib) s (fun t => t.fld (R.MEM_FIX_GIB d) 8 0 = gib ∧ t.fld (R.MEM_FIX_GIB d) 31 31 = 1
             ∧ t.mem.fixed = s.mem.fixed))
       ∧ (∀ (d : Fin 4) (gib : Fin 512), s.on (regDomain (R.MEM_FIX_GIB d)) = true → gib ≤ s.fixedGib d →
           Gives (.fixGibWrite d gib) s (fun t => t.fld (R.MEM_FIX_GIB d) 8 0 = gib ∧ t.fld (R.MEM_FIX_GIB d) 31 31 = 0
             ∧ t.mem.fixed = Tbl.put (fun _ => 0) s.mem.fixed d gib ∧ t.mem.pages = s.mem.pages))
       ∧ (∀ d : Fin 4, s.fld (R.MEM_FIX_GIB d) 31 31 = 1 → s.dieUp d = true → 8192 * s.fixWanted d ≤ s.freeFrames d →
           Gives (.fixWindowMapped d) s (fun t => t.fld (R.MEM_FIX_GIB d) 31 31 = 0
             ∧ t.mem.fixed = Tbl.put (fun _ => 0) s.mem.fixed d (s.fixedGib d + s.fixWanted d)))
       ∧ (∀ (u0 u1 u2 u3 : Fin 101) (waited : Fin 16) (cxlRd cxlWr : Fin 101), s.on 2 = true →
           s.fld R.MEM_EASEL_CTRL 31 31 = 0 →
           Gives (.easelInterval u0 u1 u2 u3 waited cxlRd cxlWr) s (fun t => t.now = max s.now (s.mem.intervalAt + 100000)
             ∧ t.mem.intervalAt = t.now ∧ t.mem.bytes = s.mem.bytes
             ∧ t.mem.pages = s.mem.pages))
       ∧ (∀ gib : Fin 65536, s.on (regDomain R.MEM_EASEL_SPACE) = true → s.spillBlocks * 16384 ≤ gib * 2 ^ 30 →
           Gives (.spillMaxWrite gib) s (fun t => t.fld R.MEM_EASEL_SPACE 31 16 = gib ∧ t.dp = s.dp)))

/-- HBM stacks (R264, R283, R284). A retirement of an ONLINE stack takes its lock and makes it DRAINING; its demotion ends
when what is in use fits without it, and its relocation makes it RETIRED; a stack that fails is FAILED; a scrubbed
line that is uncorrectable is poisoned and counted, and one that was corrected is counted and keeps its contents. CXL
ports (R270 to R272, R286, R441). EN written to 1 trains a port that is DOWN, and to 0 takes its link down; a trained
port is UP, no sooner than 100 ms after EN, with its width, speed, decoders and at most 8,192 GiB; a removal makes it
REMOVING, and DOWN once it holds nothing; a port that fails is FAILED and none of its pages stays in the CXL tier; 1 s
later it trains again. The model's choices in it: log entries 101, 102 and 103. -/
def Obligations.StacksAndCxlPortsFollowTheirStates : Prop :=
  (∀ (s : State) (k : Fin 32), s.canonical = true →
     (s.on (regDomain R.MEM_STACK_RETIRED) = true → s.fld R.MEM_STACK_RETIRED 31 0 = 0 → (∀ j : Nat, j < 32 → s.stackSt j = 1) →
         s.mem.retiring = [] → s.maint = [] →
         Gives (.stackRetireRequest (BitVec.ofNat 32 (2 ^ k.val))) s (fun t => t.fld R.MEM_STACK_RETIRED 31 0 = 2 ^ k.val
           ∧ t.stackSt k = 2 ∧ t.retiringAt k = some .demote ∧ t.fld R.MEM_STACK_OPSTAT 3 0 = 0
           ∧ t.maint = [(.stack k, true)]))
     ∧ (s.retiringAt k = some .demote → s.usedFrames (k / 8) ≤ s.retireBound (k / 8) →
         exec (.stackDemoteDone k) s = .next (s.setRetiring k (some .relocate)))
     ∧ (s.retiringAt k = some .relocate → s.fld R.MEM_EASEL_RETIRE 15 0 ≠ 0 →
         (s.fld R.MEM_STACK_RETIRED 31 0).testBit k = true → s.mem.retireQ = [] →
         Gives (.stackRelocateDone k) s (fun t => t.stackSt k = 3
           ∧ t.mem.retiring = Tbl.put (fun _ => none) s.mem.retiring k none
           ∧ t.maint = (if s.maintRuns (.stack k) then dropActivity (.stack k) s.maint else s.maint)
           ∧ t.count C.MEM_RELOC_BYTES = (s.count C.MEM_RELOC_BYTES + 16384 * s.usedFrames (k / 8)) % 2 ^ 64))
     ∧ (s.stackSt k = 1 ∨ s.stackSt k = 2 → Gives (.stackFail k) s (fun t => t.stackSt k = 4))
     ∧ (∀ (home : Fin 4) (line : Fin 1099511627776) st d, s.stackOf (memKey home (line * 64)) = some st →
         (s.serve (memKey home (line * 64))).hbmDie = some d → s.dieUp d = true → s.stackSt st ≠ 4 →
         s.poisoned (memKey home (line * 64)) = false →
         Gives (.hbmScrub home line 2) s (fun t => t.poisoned (memKey home (line * 64)) = true
           ∧ t.count C.MEM_HBM_UE = (s.count C.MEM_HBM_UE + 1) % 2 ^ 64)
         ∧ Gives (.hbmScrub home line 1) s (fun t => t.mem = s.mem
           ∧ t.count C.MEM_HBM_CE = (s.count C.MEM_HBM_CE + 1) % 2 ^ 64)
         ∧ exec (.hbmScrub home line 0) s = .next s))
  ∧ (∀ (s : State) (k : Fin 8), s.canonical = true →
       (∀ fix : Fin 8192, s.on (regDomain (R.CXL_PORT_CTRL k)) = true → s.cxlSt k = 0 → s.maint = [] →
           Gives (.cxlPortEnable k true fix) s (fun t => t.cxlSt k = 1 ∧ t.fld (R.CXL_PORT_CTRL k) 31 31 = 1
             ∧ t.fld (R.CXL_PORT_CTRL k) 12 0 = fix ∧ t.maint = [(.cxlAdd k, true)]))
       ∧ (∀ fix : Fin 8192, s.on (regDomain (R.CXL_PORT_CTRL k)) = true → s.cxlSt k ≠ 0 →
           Gives (.cxlPortEnable k false fix) s (fun t => t.cxlSt k = 0 ∧ t.fld (R.CXL_PORT_CTRL k) 31 31 = 0))
       ∧ (∀ (cap : Fin 16384) (width : Fin 17) (speed : Fin 3) (decoders : Fin 9), s.cxlSt k = 1 → s.on 20 = true →
           Gives (.cxlPortTrained k cap width speed decoders) s (fun t => t.cxlSt k = 2
             ∧ t.fld (R.CXL_PORT_STAT k) 27 23 = width ∧ t.fld (R.CXL_PORT_STAT k) 22 21 = speed
             ∧ t.fld (R.CXL_PORT_STAT k) 20 17 = decoders
             ∧ t.fld (R.CXL_PORT_STAT k) 13 0 = min (min cap.val 8192) (s.cxlLeft k)
             ∧ t.now = max s.now ((Tbl.get (fun _ => none) s.mem.cxlEnAt k).elim 0 (· + 100000000))))
       ∧ (s.on (regDomain (R.CXL_PORT_CTRL k)) = true → s.cxlSt k = 2 → s.maint = [] →
           Gives (.cxlRemove k) s (fun t => t.cxlSt k = 3 ∧ t.maint = [(.cxlRemove k, true)]))
       ∧ (s.cxlSt k = 3 → s.cxlFix k = 0 → s.takenFrames true k = [] → s.spillFramesAt (4 + k) = 0 →
           Gives (.cxlRemoveDone k) s (fun t => t.cxlSt k = 0))
       ∧ (s.cxlSt k = 2 → Gives (.cxlPortFail k) s (fun t => t.cxlSt k = 4
           ∧ ∀ x, x ∈ t.mem.pages → x.2.st = .cxl → ¬(x.2.at_.cxl = true ∧ x.2.at_.unit = k)))
       ∧ (s.cxlSt k = 4 → s.fld (R.CXL_PORT_CTRL k) 31 31 = 1 → s.on 20 = true →
           Gives (.cxlRetrainTick k) s (fun t => t.cxlSt k = 1
             ∧ t.now = max s.now ((Tbl.get (fun _ => none) s.mem.cxlFailAt k).getD s.now + 1000000000)))
       ∧ (∀ cls : Fin 256, s.cxlServes k = true → s.on 2 = true →
           exec (.cxlDeviceEvent k cls) s = .next (s.cxlEvent k cls)))

/-- Peers (R302 to R304). While the module listens an LC_DISCOVER is noted; an LC_DISCOVER of the position that the
routing law gives makes an UNKNOWN peer DISCOVERING with its SPINE_ID, and one of another position makes the plane
MISWIRED; LC_READY makes a DISCOVERING peer LIVE and LC_WITHDRAW a LIVE one WITHDRAWN; DEAD_NS of silence makes a
DISCOVERING peer UNKNOWN and a LIVE one DEAD with cause 1; at the end of listening what was heard is done with. The
model's choices in it: log entries 28 and 29. -/
def Obligations.PeersFollowTheirStates : Prop :=
  ∀ (s : State), s.canonical = true →
    (∀ (p : Fin 64) (skew power : Fin 256) pkt rest, takeLocal tyLC_DISCOVER (s.port (1024 + p)).llq = some (pkt, rest) →
        s.prism.listenEnd.isSome = true →
        Gives (.discoverReceive p skew power) s (fun t => (t.port (1024 + p)).llq = rest ∧ t.peers = s.peers
          ∧ (p.val, pkt.fld 5 21 16, slotNumber s.slotNs s.tb0 % 64) ∈ t.prism.heard))
    ∧ (∀ (p : Fin 64) (skew power : Fin 256) pkt rest g, takeLocal tyLC_DISCOVER (s.port (1024 + p)).llq = some (pkt, rest) →
        s.prism.listenEnd = none → s.deliveredBy p = some g → pkt.fld 5 21 16 = g → g ≠ s.prismPos →
        s.spineTaken g (pkt.fld 5 31 22) = false → (s.peer g).st = .unknown →
        Gives (.discoverReceive p skew power) s (fun t => (t.port (1024 + p)).llq = rest
          ∧ (t.peer g).st = .discovering ∧ (t.peer g).spineId = pkt.fld 5 31 22 ∧ (t.peer g).lastFrame = s.now
          ∧ (t.peer g).skew = skew ∧ (t.peer g).rxPower = power))
    ∧ (∀ (p : Fin 64) (skew power : Fin 256) pkt rest g, takeLocal tyLC_DISCOVER (s.port (1024 + p)).llq = some (pkt, rest) →
        s.prism.listenEnd = none → s.deliveredBy p = some g → pkt.fld 5 21 16 ≠ g → pkt.fld 5 21 16 ≠ s.prismPos →
        Gives (.discoverReceive p skew power) s (fun t => (t.plane p).st = .miswired ∧ t.peers = s.peers))
    ∧ (∀ (port : Fin 1088) pkt rest j, takeLocal tyLC_READY (s.port port).llq = some (pkt, rest) → 1024 ≤ port.val →
        s.deliveredBy (port - 1024) = some j → (s.peer j).st = .discovering →
        Gives (.lcReadyReceive port) s (fun t => t.peer j = { s.peer j with st := .live }))
    ∧ (∀ (port : Fin 1088) pkt rest j, takeLocal tyLC_WITHDRAW (s.port port).llq = some (pkt, rest) → 1024 ≤ port.val →
        s.deliveredBy (port - 1024) = some j → (s.peer j).st = .live →
        Gives (.lcWithdrawReceive port) s (fun t => t.peer j = { s.peer j with st := .withdrawn }))
    ∧ (∀ j : Fin 64, s.deadNs ≠ 0 → s.delivers j = true → (s.peer j).st = .discovering →
        Gives (.peerSilenceTimeout j) s (fun t => t.peer j = { s.peer j with st := .unknown }
          ∧ t.now = max s.now ((s.peer j).lastFrame + s.deadNs)))
    ∧ (∀ j : Fin 64, s.deadNs ≠ 0 → s.delivers j = true → (s.peer j).st = .live →
        Gives (.peerSilenceTimeout j) s (fun t => t.peer j = { s.peer j with st := .dead, cause := 1 }
          ∧ t.now = max s.now ((s.peer j).lastFrame + s.deadNs)))
    ∧ (∀ t0, s.prism.listenEnd = some t0 →
        Gives .prismListenEnd s (fun t => t.prism.listenEnd = none ∧ t.prism.heard = [] ∧ t.now = max s.now t0))

/-- Slots, marks and re-tunes (R292, R298, R300, R304). A slot that begins is the next by number, and no pair has its
acknowledgement yet; the marks of the earliest AT apply at that instant of TB0; at the end of a re-tune each plane
whose port is up enters its new state. The pattern table and the timing registers (R293, R310): a write that passes
its checks reaches the shadow entry alone; status 2 while a commit is pending and 3 for a bad entry; reads answer
either bank; a timing write that breaks a bound is discarded with CFG_ERR. The model's choices in it: log entries 3, 4
and 105. -/
def Obligations.PlanesAndPatternTable : Prop :=
  (∀ (s : State), s.canonical = true →
     (s.on 5 = true → ((List.range 64).filter s.rotates) ≠ [] →
         Gives .slotStart s (fun t => t.prism.slot = some s.nextSlot ∧ t.prism.acked = []
           ∧ t.now = max s.now (s.atTb0 (slotStart s.slotNs s.nextSlot))))
     ∧ (∀ at_, s.on 5 = true → leastOf (s.prism.marks.map (·.1)) = some at_ → s.prism.retuneEnd = none →
         Gives .patternApply s (fun t => t.now = max s.now (s.atTb0 at_) ∧ t.prism.lastAt = some at_
           ∧ t.prism.marks = s.prism.marks.filter (fun m => m.1 != at_)
           ∧ t.prism.patActive = s.prism.patActive))
     ∧ (∀ e, s.prism.retuneEnd = some e → s.prism.marks = [] →
         Gives .planeRetuneEnd s (fun t => t.now = max s.now (s.atTb0 e) ∧ t.prism.retuneEnd = none
           ∧ t.prism.changed = s.retuning
           ∧ ∀ p, p < 64 → (s.plane p).st = .retune → (s.port (1024 + p)).st = .up → (t.plane p).st = (s.plane p).next)))
  ∧ (∀ (s : State), s.canonical = true →
       (∀ pattern : Fin 256, s.on (regDomain R.OPT_PAT_CMD) = true → s.tab.pending = none →
           patBad (s.rdWords (R.OPT_PAT_DATA 0) 18) = false →
           Gives (.patWriteShadow pattern) s (fun t => t.fld R.OPT_PAT_STAT 3 0 = 0 ∧ t.prism = { s.prism with
             patShadow := Tbl.put (fun _ => patZero) s.prism.patShadow pattern (s.rdWords (R.OPT_PAT_DATA 0) 18) }))
       ∧ (∀ (pattern : Fin 256) e, s.on (regDomain R.OPT_PAT_CMD) = true → s.tab.pending = some e →
           Gives (.patWriteShadow pattern) s (fun t => t.fld R.OPT_PAT_STAT 3 0 = 2 ∧ t.prism = s.prism))
       ∧ (∀ pattern : Fin 256, s.on (regDomain R.OPT_PAT_CMD) = true →
           (Tbl.get (fun _ => patZero) s.prism.patShadow pattern).length = 18 →
           Gives (.patReadShadow pattern) s (fun t => t.fld R.OPT_PAT_STAT 3 0 = 0 ∧ t.prism = s.prism
             ∧ t.rdWords (R.OPT_PAT_DATA 0) 18 = Tbl.get (fun _ => patZero) s.prism.patShadow pattern))
       ∧ (∀ pattern : Fin 256, s.on (regDomain R.OPT_PAT_CMD) = true →
           (Tbl.get (fun _ => patZero) s.prism.patActive pattern).length = 18 →
           Gives (.patReadActive pattern) s (fun t => t.fld R.OPT_PAT_STAT 3 0 = 0 ∧ t.prism = s.prism
             ∧ t.rdWords (R.OPT_PAT_DATA 0) 18 = Tbl.get (fun _ => patZero) s.prism.patActive pattern))
       ∧ (∀ w, s.on (regDomain R.OPT_PRISM_GUARD) = true → s.fld R.OPT_PRISM_CTRL 23 22 ≠ 3 →
           4 * gPktOf w ≤ slotNsOf (s.fld R.OPT_PRISM_CTRL 23 22) →
           exec (.prismGuardWrite false w) s = .next (s.store R.OPT_PRISM_GUARD w))
       ∧ (∀ w, s.on (regDomain R.OPT_PRISM_GUARD) = true → slotNsOf (s.fld R.OPT_PRISM_CTRL 23 22) < 4 * gPktOf w →
           Gives (.prismGuardWrite false w) s (fun t => t.fld R.OPT_PRISM_STAT 23 23 = 1
             ∧ ∀ off, off ≠ R.OPT_PRISM_STAT → t.rd off = s.rd off)))

/-- Lasers (R306 to R308, R310). A read answers a laser's record; a takeover warms the first spare; a spare that locks is
ready, and one that does not is FAILED; the switch puts the spare in service on the old laser's lane and retires the
old one; a working laser that fails is FAILED; each second its bias ratio is kept and its hours grow. The model's
choices in it: log entries 108 and 109. -/
def Obligations.LasersAreTakenOver : Prop :=
  ∀ (s : State), s.canonical = true → Tbl.wf laserNew s.optics.lasers = true →
    (∀ (e : Fin 32) (l : Fin 256), s.on (regDomain R.OPT_LASER_CMD) = true → laserKnown e l = true →
        Gives (.laserRead e l) s (fun t => t.fld R.OPT_LASER_STAT 3 0 = 0 ∧ t.optics = s.optics
          ∧ t.rdWords (R.OPT_LASER_DATA 0) 4 = (s.laser e l).words))
    ∧ (∀ (e : Fin 32) (l : Fin 256), s.on (regDomain R.OPT_LASER_CMD) = true → laserKnown e l = false →
        Gives (.laserRead e l) s (fun t => t.fld R.OPT_LASER_STAT 3 0 = 3 ∧ t.optics = s.optics))
    ∧ (∀ (e : Fin 32) (l : Fin 256) k lane, s.on (regDomain R.OPT_LASER_CMD) = true → laserKnown e l = true →
        (s.laser e l).st = .inService → (s.laser e l).lane = some lane → s.spareOf e = some k → s.maint = [] →
        Gives (.laserTakeoverRequest e l) s (fun t => t.fld R.OPT_LASER_STAT 3 0 = 0 ∧ (t.laser e k).st = .warming
          ∧ t.optics.takeovers = s.optics.takeovers ++ [⟨e, l, k, false⟩] ∧ t.maint = [(.takeover e l, true)]))
    ∧ (∀ (e : Fin 18) (l : Fin 256) x, s.takeoverOf e l = some x → x.ready = false →
        Gives (.spareWarmDone e l true) s (fun t => t.optics.lasers = s.optics.lasers ∧ t.optics.takeovers
          = s.optics.takeovers.filter (fun y => !(y.engine == e.val && y.old == l.val)) ++ [{ x with ready := true }])
        ∧ Gives (.spareWarmDone e l false) s (fun t => (t.laser e x.spare).st = .failed))
    ∧ (∀ (e : Fin 18) (l : Fin 256) x lane, s.takeoverOf e l = some x → x.ready = true → (s.laser e l).lane = some lane →
        x.spare ≠ l → x.spare < 256 →
        Gives (.takeoverSwitch e l) s (fun t => t.laser e x.spare = { s.laser e x.spare with st := .inService, lane := some lane }
          ∧ t.laser e l = { s.laser e l with st := .retired, lane := none, flagged := false }
          ∧ t.count C.OPT_TAKEOVERS = (s.count C.OPT_TAKEOVERS + 1) % 2 ^ 64))
    ∧ (∀ (e : Fin 18) (l : Fin 256) lane, (s.laser e l).st = .inService → (s.laser e l).lane = some lane →
        Gives (.laserFail e l) s (fun t => (t.laser e l).st = .failed ∧ (t.laser e l).lane = some lane))
    ∧ (∀ (e : Fin 18) (l : Fin 256) (ratio : Fin 65536) (power : Word) (rx : Fin 65536), laserKnown e l = true →
        Gives (.laserAgeingTick e l ratio power rx) s (fun t => (t.laser e l).ratio = ratio ∧ (t.laser e l).power = power.toNat
          ∧ (t.laser e l).rx = rx ∧ (t.laser e l).st = (s.laser e l).st ∧ (s.laser e l).hours ≤ (t.laser e l).hours))

/-- Training (R110, R315, R316, R65, R66). When every allowed lane has locked a port passes to flit lock; flit lock on a
leaf port sets the partner's credits, grants the reservation but for cells still charged, and passes to the exchange
of LC_IDENT, and on a BP port puts it in service and its plane into the state in force; a step that is not complete in
its time fails the training, which rests for 1 ms; an absent identity holds the port out of service with reason 6. The
model's choices in it: log entries 3 and 23. -/
def Obligations.PortsTrainStepByStep : Prop :=
  ∀ (s : State), s.canonical = true →
    (∀ (port : Fin 1088) (lane : Fin 2), (s.port port).st = .training → (s.port port).step = 2 → (s.port port).eth = false →
        (lanesMinus (s.lanesAllowed port) (s.port port).los) &&& 2 ^ lane.val ≠ 0 →
        lanesMinus (s.lanesAllowed port) ((s.port port).lanesLocked ||| 2 ^ lane.val) = 0 →
        Gives (.laneLock port lane) s (fun t => t.port port = { s.port port with
          lanesLocked := (s.port port).lanesLocked ||| 2 ^ lane.val, step := 3, stepSince := s.now }))
    ∧ (∀ (port : Fin 1088) (req rsp coll bulk : Fin 65536), port.val < 1024 → (s.port port).st = .training →
        (s.port port).step = 3 →
        Gives (.flitLock port req rsp coll bulk) s (fun t => t.port port = { s.port port with
            lanesUp := (s.port port).lanesLocked, goodFlits := 8, step := 5, stepSince := s.now, lastGood := s.now,
            rsv := s.grantNow }
          ∧ (t.link (port * 64)).credits = ⟨req, rsp, coll, bulk⟩
          ∧ (t.link (port * 64)).grant = s.grantAt port s.grantNow
          ∧ (t.link (port * 64)).txNext = 0 ∧ (t.link (port * 64)).replay = []))
    ∧ (∀ (port : Fin 1088) (req rsp coll bulk : Fin 65536), 1024 ≤ port.val → (s.port port).st = .training →
        (s.port port).step = 3 →
        Gives (.flitLock port req rsp coll bulk) s (fun t =>
          (t.port port).st = (if s.fld (portCtrl port) 30 30 = 1 then .draining else .up) ∧ (t.port port).failures = 0
          ∧ (t.plane (port - 1024)).st = (s.plane (port - 1024)).next))
    ∧ (∀ port : Fin 1088, (s.port port).st = .training → 2 ≤ (s.port port).step →
        ((s.port port).step = 2 → (s.port port).lanesLocked = 0) →
        Gives (.trainingStepTimeout port) s (fun t => t.now = max s.now (s.port port).stepEnd ∧ (t.port port).st = .down
          ∧ (t.port port).restUntil = some (t.now + 1000000) ∧ (t.port port).failures = (s.port port).failures + 1))
    ∧ (∀ (port : Fin 1088) t0, (s.port port).restUntil = some t0 →
        exec (.trainingRestExpiry port) s
          = .next (((s.reach t0).setPort port { s.port port with restUntil := none }).beginTraining port))
    ∧ (∀ (port : Fin 1024) pkt rest, takeLocal tyLC_IDENT (s.port port).llq = some (pkt, rest) →
        (s.port port).st = .training → (s.port port).step = 5 → pkt.fld 6 31 0 = 0 →
        Gives (.lcIdentReceive port) s (fun t => (t.port port).st = .heldOut ∧ (t.port port).reason = 6
          ∧ (t.port port).llq = rest ∧ (t.port port).uid = 0))
    ∧ (∀ (port : Fin 1024) pkt rest, takeLocal tyLC_IDENT (s.port port).llq = some (pkt, rest) →
        (s.port port).st = .training → (s.port port).step = 5 →
        (s.setPort port { s.port port with llq := rest }).holdReason port (pkt.fld 6 31 0) (pkt.fld 5 9 6) = 0 →
        Gives (.lcIdentReceive port) s (fun t => (t.port port).uid = pkt.fld 6 31 0 ∧ (t.port port).member = pkt.fld 5 9 6
          ∧ (t.port port).st = (if s.fld (portCtrl port) 30 30 = 1 then .draining else .up)))
    ∧ (∀ port : Fin 1024, (s.port port).trained_ = true →
        exec (.lcIdentTimer port) s = .next (s.sendLocal port (s.identPacket port)))

/-- Lanes and light (R305, R316, R317). A lane that leaves a trained port with two lanes is counted as a degrade, and the
port runs on with the other; a lane that has locked again rejoins; signal that comes back lets a port at step 1 go on;
a power warning is raised at most once per 60 s per lane; an overloaded lane is held out, and freed again; a leaf link
silent for DOWN_NS goes down with reason 4. The model's choices in it: log entries 23 and 25. -/
def Obligations.LanesLeaveAndRejoin : Prop :=
  ∀ (s : State) (port : Fin 1088) (lane : Fin 2), s.canonical = true →
    ((s.port port).trained_ = true → (s.port port).lanesUp = 3 →
        Gives (.laneFail port lane) s (fun t => (t.port port).lanesUp = 3 - 2 ^ lane.val ∧ (t.port port).st = (s.port port).st
          ∧ t.count (C.PL_LINK_CNT (port / 64) (port % 64) 6) = (s.count (C.PL_LINK_CNT (port / 64) (port % 64) 6) + 1) % 2 ^ 64))
    ∧ ((s.port port).trained_ = true → (s.port port).lanesUp = 3 → s.losToLink port = true →
        Gives (.opticalLos port lane) s (fun t => (t.port port).lanesUp = 3 - 2 ^ lane.val
          ∧ (t.port port).los = (s.port port).los ||| 2 ^ lane.val ∧ (t.port port).st = (s.port port).st
          ∧ t.count (C.PL_LINK_CNT (port / 64) (port % 64) 6) = (s.count (C.PL_LINK_CNT (port / 64) (port % 64) 6) + 1) % 2 ^ 64))
    ∧ ((s.port port).trained_ = true → (s.port port).lanesUp &&& 2 ^ lane.val = 0 →
        (s.port port).lanesLocked &&& 2 ^ lane.val ≠ 0 →
        (lanesMinus (s.lanesAllowed port) (s.port port).los) &&& 2 ^ lane.val ≠ 0 →
        Gives (.laneRejoin port lane) s (fun t => t.port port = { s.port port with
          lanesUp := (s.port port).lanesUp ||| 2 ^ lane.val }))
    ∧ ((s.port port).st = .training → (s.port port).step = 1 → s.lanesAllowed port &&& 2 ^ lane.val ≠ 0 →
        Gives (.opticalLosClear port lane) s (fun t => t.port port = { s.port port with
          los := lanesMinus (s.port port).los (2 ^ lane.val), step := 2, stepSince := s.now, lanesLocked := 0 }))
    ∧ (∀ (high : Bool) (power : Word) t0, Tbl.get (fun _ => none) s.optics.warnedAt (laneLaser port lane) = some t0 →
        s.now < t0 + 60000000000 → exec (.opticalPowerWarning port lane high power) s = .next s)
    ∧ (∀ (high : Bool) (power : Word), Tbl.get (fun _ => none) s.optics.warnedAt (laneLaser port lane) = none →
        Gives (.opticalPowerWarning port lane high power) s (fun t =>
          Tbl.get (fun _ => none) t.optics.warnedAt (laneLaser port lane) = some s.now ∧ t.ports = s.ports))
    ∧ (∀ power : Word, (s.port port).overload &&& 2 ^ lane.val = 0 → (s.port port).trained_ = true →
        (s.port port).lanesUp = 3 →
        Gives (.opticalOverload port lane power) s (fun t => (t.port port).overload = (s.port port).overload ||| 2 ^ lane.val
          ∧ (t.port port).lanesUp = 3 - 2 ^ lane.val ∧ (t.port port).st = (s.port port).st))
    ∧ Gives (.overloadClear port lane) s (fun t =>
          (t.port port).overload = lanesMinus (s.port port).overload (2 ^ lane.val))
    ∧ (port.val < 1024 → (s.port port).trained_ = true → s.fld (R.PL_LINK_CFG (port / 64)) 31 16 ≠ 0 →
        lanesMinus (s.port port).lanesUp (s.port port).los ≠ 0 →
        exec (.linkSilenceTimeout port) s
          = .next ((s.reach ((s.port port).lastGood + max 250 (s.fld (R.PL_LINK_CFG (port / 64)) 31 16))).linkDown port 4))

/-- Flits (R313, R314, R319). A good data flit in order moves the expected FSEQ on by one, modulo 4,096; one out of order,
or with a bad CRC, leaves it and draws a NAK; a flit outside the data window is counted and discarded; a control flit
without a NAK frees the flits before its ACK_FSEQ; a timeout sends every unacknowledged flit again. The model's
choices in it: log entries 19 and 26. -/
def Obligations.FlitsAreTakenInOrder : Prop :=
  ∀ (s : State) (port : Fin 1088) (sender : Fin 64) (f : Flit), s.canonical = true →
    (s.hears port = true → (s.port port).trained_ = true → f.good = true → f.kind = 0 →
        f.fseq = (s.link (s.linkKey port sender)).rxNext →
        Gives (.flitReceive port sender false f) s (fun t => (t.link (s.linkKey port sender)).rxNext
            = ((s.link (s.linkKey port sender)).rxNext + 1) % 4096
          ∧ (t.link (s.linkKey port sender)).nakAt = none))
    ∧ (s.hears port = true → (s.port port).trained_ = true → f.good = true → f.kind = 0 →
        f.fseq ≠ (s.link (s.linkKey port sender)).rxNext → (s.link (s.linkKey port sender)).nakAt = none →
        Gives (.flitReceive port sender false f) s (fun t => (t.link (s.linkKey port sender)).rxNext
            = (s.link (s.linkKey port sender)).rxNext ∧ t.dp = s.dp
          ∧ t.out = .nak port (s.link (s.linkKey port sender)).rxNext :: s.out
          ∧ t.count (C.PL_LINK_CNT (port / 64) (port % 64) 4) = (s.count (C.PL_LINK_CNT (port / 64) (port % 64) 4) + 1) % 2 ^ 64))
    ∧ (s.hears port = true → (s.port port).trained_ = true → f.good = false →
        (s.link (s.linkKey port sender)).nakAt = none →
        Gives (.flitReceive port sender false f) s (fun t => (t.link (s.linkKey port sender)).rxNext
            = (s.link (s.linkKey port sender)).rxNext ∧ t.dp = s.dp ∧ t.ports = s.ports
          ∧ t.count (C.PL_LINK_CNT (port / 64) (port % 64) 2) = (s.count (C.PL_LINK_CNT (port / 64) (port % 64) 2) + 1) % 2 ^ 64))
    ∧ (s.hears port = true → (s.port port).trained_ = true → 1024 ≤ port.val → (s.plane (port - 1024)).st = .packet →
        Gives (.flitReceive port sender true f) s (fun t => Only [.cnt] s t
          ∧ t.count C.OPT_ALIGN_ERR = (s.count C.OPT_ALIGN_ERR + 1) % 2 ^ 64))
    ∧ (s.hears port = true → (s.port port).trained_ = true → port.val < 1024 → f.good = true → f.kind = 1 → f.nak = false →
        Gives (.controlFlitReceive port sender f) s (fun t => (t.link (port * 64)).replay
            = (s.link (port * 64)).replay.drop (ackedCount (s.link (port * 64)) f.ackFseq)
          ∧ (t.link (port * 64)).credSeen = ⟨f.cred 0, f.cred 1, f.cred 2, f.cred 3⟩
          ∧ (t.link (port * 64)).rxNext = (s.link (port * 64)).rxNext))
    ∧ (port.val < 1024 → (s.link (s.linkKey port sender)).replay ≠ [] → (s.port port).trained_ = true →
        exec (.ackTimeout port sender) s = .next ((s.reach ((s.link (s.linkKey port sender)).since
          + s.ackTimeout port)).replayAll port (s.linkKey port sender)))

/-- Port commands (R324 to R326). EN set trains the port, and cleared takes it down; a mask is stored; a drain makes a
port that is up DRAINING for DRAIN_US; its end leaves no window; clearing DRAIN puts it back in service; a retrain and
a port reset ask for their locks, and a port reset returns the port's registers to their reset values. Die links and
maintenance locks (R34, R42, R431). A die link that is up goes down, and with its consumers no longer announced no
credit is held; one that is down, of a domain that is on, trains 1 s after the last attempt, with up to 8 failed
wires, and each direction holds its credits; a consumer that announces gives its producer the credits; and the first
activity that nothing before it keeps out is granted its locks and starts. The model's choices in it: log entries 3,
31, 32, 135 and 157. -/
def Obligations.PortCommandsAndDieLinks : Prop :=
  (∀ (s : State) (port : Fin 1088), s.canonical = true →
     (s.on (regDomain (portCtrl port)) = true →
         exec (.portEnableWrite port true) s = .next ((s.setF (portCtrl port) 31 31 1).beginTraining port))
     ∧ (s.on (regDomain (portCtrl port)) = true → s.fld (portCtrl port) 31 31 = 1 → (s.port port).st = .training →
         Gives (.portEnableWrite port false) s (fun t => t.fld (portCtrl port) 31 31 = 0 ∧ (t.port port).st = .down
           ∧ ∃ l, t.out = .laser port false :: l))
     ∧ (∀ mask : Fin 4, s.on (regDomain (portCtrl port)) = true → mask ≠ 0 →
         Gives (.laneMaskWrite port mask) s (fun t => t.fld (portCtrl port) 1 0 = mask))
     ∧ (s.on (regDomain (portCtrl port)) = true → s.fld (portCtrl port) 30 30 = 0 → s.maint = [] → (s.port port).st = .up →
         s.fld (R.PL_LINK_CFG (port / 64)) 11 0 ≠ 0 →
         Gives (.portDrain port) s (fun t => t.fld (portCtrl port) 30 30 = 1 ∧ (t.port port).st = .draining
           ∧ (t.port port).drainEnd = some (s.now + s.fld (R.PL_LINK_CFG (port / 64)) 11 0 * 1000)
           ∧ t.maint = [(.drain port, true)]))
     ∧ (∀ t0, (s.port port).drainEnd = some t0 →
         Gives (.portDrainEnd port) s (fun t => (t.port port).drainEnd = none
           ∧ t.now = (if s.drained port then s.now else max s.now t0)))
     ∧ (s.on (regDomain (portCtrl port)) = true → (s.port port).st = .draining →
         Gives (.portUndrain port) s (fun t => t.fld (portCtrl port) 30 30 = 0 ∧ (t.port port).st = .up
           ∧ (t.port port).drainEnd = none))
     ∧ (s.on (regDomain (portCtrl port)) = true →
         exec (.portRetrain port) s = .next (s.requestMaint (.retrain port) (State.startRetrain port)))
     ∧ (s.on (regDomain (portCtrl port)) = true → s.maint = [] →
         Gives (.portReset port) s (fun t => ∀ off, off ∈ portRegs port → t.rd off = regReset off)))
  ∧ (∀ (s : State), s.canonical = true →
       (∀ n : Fin 23, s.dieLinkUp n = true → exec (.dieLinkDown n) s = .next ((s.dieLinkOff n).dieLinkLost n))
       ∧ (∀ n : Fin 23, s.dieLinkUp n = true → (s.dieLinkOff n).fld (R.GLB_D2D_STAT n) 31 31 = 0
           ∧ ((s.dieLinkOff n).xing n).credits = 0 ∧ ((s.dieLinkOff n).xing (32 + n)).credits = 0)
       ∧ (∀ (n : Fin 23) (wires : Fin 64), s.dieLinkUp n = false → s.on (dieLinkDomain n) = true → wires.val ≤ 8 →
           s.tel.isolated = [] → (s.xing n).announced = false → (s.xing (32 + n)).announced = false →
           Gives (.dieLinkRetrain n wires) s (fun t => t.fld (R.GLB_D2D_STAT n) 31 30 = 2
             ∧ t.fld (R.GLB_D2D_STAT n) 27 24 = wires ∧ (t.xing n).credits = dieCredits n
             ∧ (t.xing (32 + n)).credits = dieCredits n
             ∧ t.now = max s.now (Tbl.get (fun _ => 0) s.pwr.linkTryAt n + 1000000000)))
       ∧ (∀ (island : Fin 112) n, s.on (islandDomain island) = true → s.islandHeld island = false → s.tel.update = none →
           islandLink island = some n → s.dieLinkUp n = true → (s.xing n).announced = false →
           Gives (.creditAnnounce island) s (fun t => (t.xing n).announced = true ∧ (t.xing n).credits = dieCredits n))
       ∧ (∀ a l, firstGrantable [] s.maint = some (a, l) →
           exec .maintLockGrant s = .next (State.startActivity a (({ s with maint := l } : State).maintEvent a 1))))

/-- Ethernet frames (R329, R331, R335, R336). A frame shorter than 64 bytes is dropped and counted as a runt, and a longer
one than 9,216 bytes and a MAC control frame are dropped; another frame is admitted to its port's VC_BULK reservation
while 36 cells of it are free; when the tail of a frame with a correct FCS passes, and its unicast source is not in
its pipeline's table, that source is learned at its port, with the present seconds, and its cells beyond its length
are free (R117); a frame of a VLAN that is not valid is filtered, one to a group address or to an address not in the
table is flooded, and a hit goes to its port but never back; the scan removes the learned entries of the age of its
pipeline, and no other. The Ethernet tables (R340, R341). A MAC entry is written into its pipeline's table at once,
with the present stamp, and an entry with VALID 0 deletes its key; routes, next hops and VLAN entries are written into
their shadows, and refused with status 2 while a commit is pending; an entry with a reserved bit set gives status 3; a
read answers the shadow's entry or the active one, and a key that is not there status 4. The model's choices in it:
log entries 4, 111 and 113. -/
def Obligations.FramesAndEthernetTables : Prop :=
  (∀ s : State, s.canonical = true →
     (∀ (port : Fin 1024) bytes, (s.port port).eth = true → (s.port port).trained_ = true → s.portPowered port = true →
         bytes.length < 64 →
         Gives (.ethFrameReceive port bytes) s (fun t => Only [.cnt, .ports] s t ∧ (t.port port).lastGood = s.now
           ∧ t.count (C.ETH_FILTER 0) = (s.count (C.ETH_FILTER 0) + 1) % 2 ^ 64
           ∧ t.count (C.BUF_DROP (drEthFilter - 1)) = (s.count (C.BUF_DROP (drEthFilter - 1)) + 1) % 2 ^ 64))
     ∧ (∀ (port : Fin 1024) bytes, (s.port port).eth = true → (s.port port).trained_ = true → s.portPowered port = true →
         9216 < bytes.length →
         Gives (.ethFrameReceive port bytes) s (fun t => Only [.cnt, .ports] s t
           ∧ t.count (C.BUF_DROP (drOversize - 1)) = (s.count (C.BUF_DROP (drOversize - 1)) + 1) % 2 ^ 64))
     ∧ (∀ (port : Fin 1024) bytes, (s.port port).eth = true → (s.port port).trained_ = true → s.portPowered port = true →
         64 ≤ bytes.length → bytes.length ≤ 9216 → (parseFrame (s.fld (R.PL_ETH_PVID (port / 64) (port % 64)) 11 0) bytes).ethertype = 0x8808 →
         Gives (.ethFrameReceive port bytes) s (fun t => Only [.cnt, .ports] s t
           ∧ t.count (C.ETH_FILTER 1) = (s.count (C.ETH_FILTER 1) + 1) % 2 ^ 64))
     ∧ (∀ (port : Fin 1024) bytes f, (s.port port).eth = true → (s.port port).trained_ = true → s.portPowered port = true →
         64 ≤ bytes.length → bytes.length ≤ 9216 → f = parseFrame (s.fld (R.PL_ETH_PVID (port / 64) (port % 64)) 11 0) bytes →
         f.ethertype ≠ 0x8808 → s.carries = true →
         s.inCharged port vcBULK + 36 ≤ (s.port port).rsv.get vcBULK →
         Gives (.ethFrameReceive port bytes) s (fun t => Only [.cnt, .ports, .dp] s t
           ∧ t.inCharged port vcBULK = s.inCharged port vcBULK + 36
           ∧ (∃ it, t.rx port = s.rx port ++ [it] ∧ it.body = .eth f ∧ it.vc = vcBULK ∧ it.n = 36)
           ∧ t.dp.tails = s.dp.tails ++ [⟨s.dp.nextId, port, !f.bad, some f⟩]))
     ∧ (∀ (port : Fin 1024) (w : TailWait) (f : EthFrame), s.dp.tails.find? (fun x => x.port == port.val) = some w → w.ok = true →
         w.frame = some f → s.dp.flying = [] →
         s.fld R.ETH_CTRL 31 31 = 1 → f.bad = false → macGroup f.src = false →
         s.macAt (macKey (port / 64) f.vid f.src) = none → s.bucketFull (macKey (port / 64) f.vid f.src) = false →
         Gives (.packetTail ⟨port, by omega⟩) s (fun t => Only [.macs, .dp] s t
           ∧ t.macAt (macKey (port / 64) f.vid f.src) = some ⟨false, s.stampNow, port⟩
           ∧ t.dp.tails = s.dp.tails.filter (fun x => x.id != w.id)))
     ∧ (∀ (port : Fin 1024) (w : TailWait) (f : EthFrame) (it : Item),
         s.dp.tails.find? (fun x => x.port == port.val) = some w → w.ok = true → w.frame = some f → s.dp.flying = [] →
         s.dp.copies w.id = [(0, it)] → it.charge = .reserved → it.port = port → it.vc = vcBULK → cellsOf f.len ≤ it.n →
         s.dp.mcLive = [] → s.dp.bankQ = [] → Tbl.wf (fun _ => []) s.dp.rx = true → Tbl.wf (fun _ => 0) s.dp.inRsv = true →
         Gives (.packetTail ⟨port, by omega⟩) s (fun t => Only [.cnt, .macs, .dp] s t
           ∧ t.inCharged port vcBULK = s.inCharged port vcBULK - (it.n - cellsOf f.len)
           ∧ t.rx port = cutIn w.id (cellsOf f.len) (s.rx port)))
     ∧ (∀ (port : Fin 1024) (f : EthFrame), (Tbl.get (fun _ => 0) s.tab.vlanActive f.vid).fld 31 31 = 0 → s.ethGoes port f = .drop 4)
     ∧ (∀ (port : Fin 1024) (f : EthFrame), (Tbl.get (fun _ => 0) s.tab.vlanActive f.vid).fld 31 31 = 1 → f.dst ≠ s.rmac →
         s.ethGoes port f = (if macGroup f.dst = true then .flood else match s.macAt (macKey (port / 64) f.vid f.dst) with
           | none => .flood
           | some e => if e.port ≠ port.val ∧ e.port < 1024 ∧ (s.port e.port).eth = true then .port e.port f else .drop 6))
     ∧ (∀ pl : Fin 16, Tbl.wf (fun _ => none) s.macs = true →
         Gives (.macAgeingScan pl) s (fun t => Only [.macs] s t ∧ ∀ k e, s.macAt k = some e →
           t.macAt k = (if k / 2 ^ 60 = pl.val ∧ e.fixed = false ∧ s.fld R.ETH_CTRL 14 0 ≠ 0
               ∧ s.fld R.ETH_CTRL 14 0 ≤ (s.stampNow + 65536 - e.stamp) % 65536 then none else some e))))
  ∧ (∀ s : State, s.canonical = true → s.on (regDomain R.ETH_CMD) = true →
       (∀ (pipe : Fin 16) (ix : Fin 65536), (s.ethData.getD 0 0).fld 29 28 = 0 → (s.ethData.getD 2 0).fld 15 10 = 0 →
           s.on (pipelineDomain pipe) = true → (s.ethData.getD 0 0).fld 31 31 = 1 →
           s.bucketFull (macKeyOf pipe s.ethData) = false →
           Gives (.ethWriteEntry 0 pipe ix) s (fun t => t.fld R.ETH_STAT 3 0 = 0
             ∧ t.macAt (macKeyOf pipe s.ethData)
                 = some ⟨(s.ethData.getD 0 0).fld 30 30 == 1, s.stampNow, (s.ethData.getD 2 0).fld 9 0⟩))
       ∧ (∀ (pipe : Fin 16) (ix : Fin 65536), (s.ethData.getD 0 0).fld 29 28 = 0 → (s.ethData.getD 2 0).fld 15 10 = 0 →
           s.on (pipelineDomain pipe) = true → (s.ethData.getD 0 0).fld 31 31 = 0 → Tbl.wf (fun _ => none) s.macs = true →
           Gives (.ethWriteEntry 0 pipe ix) s (fun t => t.macAt (macKeyOf pipe s.ethData) = none
             ∧ t.fld R.ETH_STAT 3 0 = if (s.macAt (macKeyOf pipe s.ethData)).isSome then 0 else 4))
       ∧ (∀ (v6 : Bool) (pipe : Fin 16) (ix : Fin 65536), s.tab.pending = none → routeOk v6 s.ethData = true →
           (s.ethData.getD 0 0).fld 31 31 = 1 → (s.routeShadow v6).length < routeMax v6 →
           Gives (.ethWriteEntry (if v6 then 2 else 1) pipe ix) s (fun t => t.fld R.ETH_STAT 3 0 = 0
             ∧ Tbl.get (fun _ => none) (t.routeShadow v6) (routeKeyOf v6 s.ethData) = some ((s.ethData.getD 0 0).fld 15 0)
             ∧ t.tab.rt4Active = s.tab.rt4Active ∧ t.tab.rt6Active = s.tab.rt6Active))
       ∧ (∀ (pipe : Fin 16) (ix : Fin 65536), s.tab.pending = none → (s.ethData.getD 0 0).fld 29 28 = 0 →
           (s.ethData.getD 2 0).fld 31 10 = 0 →
           Gives (.ethWriteEntry 3 pipe ix) s (fun t => t.fld R.ETH_STAT 3 0 = 0
             ∧ t.tab = { s.tab with nhShadow := Tbl.put (fun _ => hopZero) s.tab.nhShadow ix (s.ethData.take 3) }))
       ∧ (∀ (pipe : Fin 16) (ix : Fin 65536), s.tab.pending = none → (s.ethData.getD 0 0).fld 30 16 = 0 → ix.val < 4096 →
           Gives (.ethWriteEntry 4 pipe ix) s (fun t => t.fld R.ETH_STAT 3 0 = 0
             ∧ t.tab = { s.tab with vlanShadow := Tbl.put (fun _ => 0) s.tab.vlanShadow ix (s.ethData.getD 0 0) }))
       ∧ (∀ (table : Fin 8) (pipe : Fin 16) (ix : Fin 65536), 1 ≤ table.val → table.val ≤ 4 → s.tab.pending ≠ none →
           exec (.ethWriteEntry table pipe ix) s = .next (s.setF R.ETH_STAT 3 0 2))
       ∧ (∀ (table : Fin 8) (pipe : Fin 16) (ix : Fin 65536), 5 ≤ table.val →
           exec (.ethWriteEntry table pipe ix) s = .next (s.setF R.ETH_STAT 3 0 3))
       ∧ (∀ (pipe : Fin 16) (ix : Fin 65536) w, ix.val < 4096 → Tbl.get (fun _ => 0) s.tab.vlanShadow ix = w →
           Gives (.ethReadEntry 4 pipe ix) s (fun t => Only [.regs] s t ∧ t.fld R.ETH_STAT 3 0 = 0
             ∧ t.rdWords (R.ETH_DATA 0) 5 = [w, 0, 0, 0, 0]))
       ∧ (∀ (pipe : Fin 16) (ix : Fin 65536) w, ix.val < 4096 → Tbl.get (fun _ => 0) s.tab.vlanActive ix = w →
           Gives (.ethReadActive 4 pipe ix) s (fun t => Only [.regs] s t ∧ t.fld R.ETH_STAT 3 0 = 0
             ∧ t.rdWords (R.ETH_DATA 0) 5 = [w, 0, 0, 0, 0]))
       ∧ (∀ (pipe : Fin 16) (ix : Fin 65536), s.macAt (macKeyOf pipe s.ethData) = none →
           exec (.ethReadEntry 0 pipe ix) s = .next (s.setF R.ETH_STAT 3 0 4)))

/-- The states of TB0 (R346, R347). The first measurement makes TB0 ACQUIRING; 16 that agree take the first-lock step, to
the source's time, and TB0 is LOCKED; later measurements change the rate alone, within the bound of RATE_CFG; two
seconds without one lead back to UNSET, or from LOCKED to HOLDOVER; HOLDOVER ends with 16 that agree, with no step.
With SRC 0b11 the step waits for SET_CMD and the next 1PPS edge; with SRC 0b00 SET_CMD itself takes it; after the step
SET_CMD changes no time. A copy of TB0 that is ahead holds its count, and the master is not touched. The model's
choices in it: log entries 114, 115 and 117. -/
def Obligations.TimeStepsOnceAndThenRunsByRate : Prop :=
  ∀ s : State, s.canonical = true → (0 : Int) ≤ s.clk.now + s.clk.tb0Off →
    (∀ o : Int, s.timeSrc ≠ 0 → s.timing.st = .unset →
        Gives (.timeMeasurement o) s (fun t => t.timing.st = .acquiring ∧ t.timing.recent = [o] ∧ t.clk = s.clk
          ∧ t.timing.stepped = s.timing.stepped))
    ∧ (∀ o : Int, s.timeSrc ≠ 0 → s.timeSrc ≠ 3 → s.timing.st = .acquiring → agree16 ((o :: s.timing.recent).take 16) = true →
        Gives (.timeMeasurement o) s (fun t => t.timing.st = .locked ∧ t.timing.stepped = true
          ∧ t.tb0 = (s.tb0 + o).toNat ∧ t.now = s.now))
    ∧ (∀ o : Int, s.timeSrc ≠ 0 → s.timing.st = .locked →
        Gives (.timeMeasurement o) s (fun t => t.timing.st = .locked ∧ t.tb0 = s.tb0
          ∧ -(s.rateBound) ≤ t.clk.adj ∧ t.clk.adj ≤ s.rateBound))
    ∧ (∀ o : Int, s.timeSrc ≠ 0 → s.timing.st = .holdover →
        Gives (.timeMeasurement o) s (fun t => t.tb0 = s.tb0 ∧
          t.timing.st = if agree16 ((o :: s.timing.recent).take 16) = true then .locked else .holdover))
    ∧ (∀ t0, s.timing.lastMeas = some t0 → s.timing.st = .acquiring →
        Gives .timeSourceTimeout s (fun t => t.timing.st = .unset ∧ t.now = max s.now (t0 + 2000000000)))
    ∧ (∀ t0, s.timing.lastMeas = some t0 → s.timing.st = .locked → s.timeSrc ≠ 0 →
        Gives .timeSourceTimeout s (fun t => t.timing.st = .holdover ∧ t.now = max s.now (t0 + 2000000000)
          ∧ t.clk.adj = s.clk.adj))
    ∧ (∀ ref10 : Bool, s.timeSrc ≠ 3 →
        Gives (.ppsEdge ref10) s (fun t => Only [.timing] s t ∧ t.timing.ppsAt = some s.now ∧ t.timing.ref10Ok = ref10
          ∧ t.timing.st = s.timing.st ∧ ∀ t0, s.timing.ppsAt = some t0 →
              (t.timing.ppsOk = true ↔ 999999000 ≤ s.now - t0 ∧ s.now - t0 ≤ 1000001000)))
    ∧ (∀ ref10 : Bool, s.timeSrc = 3 → s.timing.setPending = true → s.timing.st = .acquiring → agree16 s.timing.recent = true →
        Gives (.ppsEdge ref10) s (fun t => t.timing.st = .locked ∧ t.timing.stepped = true ∧ t.tb0 = s.setTime
          ∧ t.timing.setPending = false))
    ∧ (s.on (regDomain R.TIM_SET_CMD) = true → s.timing.stepped = false → s.timeSrc = 0 →
        Gives .timeSet s (fun t => t.timing.st = .locked ∧ t.timing.stepped = true ∧ t.tb0 = s.setTime ∧ t.now = s.now
          ∧ t.macs = restamp t.tb0Sec s.macs))
    ∧ (s.on (regDomain R.TIM_SET_CMD) = true → s.timing.stepped = false → s.timeSrc = 3 →
        exec .timeSet s = .next { s with timing := { s.timing with setPending := true } })
    ∧ (s.on (regDomain R.TIM_SET_CMD) = true → s.timing.stepped = true →
        Gives .timeSet s (fun t => Only [.cnt, .evq, .evLost, .evLostOff] s t))
    ∧ (∀ (island : Fin 112) (err : Int), 0 < err →
        Gives (.tb0Realign island err) s (fun t => t.clk = s.clk
          ∧ Tbl.get (fun _ => 0) t.timing.holding island = s.now + err.toNat
          ∧ t.tel.causes = (if 20 < err then s.tel.causes ++ [(0, some island.val)] else s.tel.causes)))

/-- The first-lock step is taken once between cold resets, and TB0 never steps in any other case (R346): every command
keeps the invariant that TB0 is LOCKED or in HOLDOVER once STEPPED is set, and from such a state a command that leaves
STEPPED set leaves TB0's offset from the disciplined clock as it was. -/
def Obligations.Tb0IsNeverSteppedTwice : Prop :=
  ∀ (c : Instr) (s t : State), s.tb0Settled = true → exec c s = .next t →
    t.tb0Settled = true ∧ (s.timing.stepped = true → t.timing.stepped = true → t.clk.tb0Off = s.clk.tb0Off)

/-- TIME packets and PTP (R351, R353). While TB0 is LOCKED or HOLDOVER and TIME_US is not zero every leaf port that is in
training's last step or trained gets a TIME packet, and before that none; a slave-only clock follows the first master
it hears, and a better one than its own; one-step and two-step Syncs give t1, and a whole exchange the offset, which
is a measurement with SRC 0b01; a master answers Delay_Req and sends Sync and Announce; a slave sends Delay_Req;
without Announces the clock listens again. The model's choices in it: log entry 116. -/
def Obligations.TimePacketsAndPtp : Prop :=
  ∀ s : State, s.canonical = true →
    (s.timing.st = .unset ∨ s.timing.st = .acquiring → exec .timePacketTimer s = .next s)
    ∧ (s.timing.st = .locked ∨ s.timing.st = .holdover → s.fld R.TIM_CTRL 15 0 ≠ 0 →
        Gives .timePacketTimer s (fun t => Only [.cnt, .out] s t
          ∧ t.out = (s.timePorts.map (fun p => Out.linkLocal p s.timePacket)).reverse ++ s.out))
    ∧ (∀ m : PtpMsg, s.on 2 = true → m.domain = min 127 (s.fld R.TIM_CTRL 23 16) → m.kind = .announce →
        s.timing.ptp.st = .listening → s.slaveOnly = true →
        Gives (.ptpMessageReceive m) s (fun t => t.timing.ptp.st = .slave ∧ t.timing.ptp.source = m.source
          ∧ t.timing.ptp.rank = m.rank ∧ t.timing.ptpOk = false))
    ∧ (∀ m : PtpMsg, s.on 2 = true → m.domain = min 127 (s.fld R.TIM_CTRL 23 16) → m.kind = .announce →
        s.timing.ptp.st = .slave → m.source ≠ s.timing.ptp.source → m.rank < s.timing.ptp.rank →
        Gives (.ptpMessageReceive m) s (fun t => t.timing.ptp.st = .slave ∧ t.timing.ptp.source = m.source
          ∧ t.timing.ptp.rank = m.rank))
    ∧ (∀ m : PtpMsg, s.on 2 = true → m.domain = min 127 (s.fld R.TIM_CTRL 23 16) → m.kind = .sync → m.twoStep = false →
        s.timing.ptp.st = .slave → m.source = s.timing.ptp.source →
        Gives (.ptpMessageReceive m) s (fun t => t.timing.ptp.t1 = some (m.time + m.corr)
          ∧ t.timing.ptp.t2 = some ((s.tb0 : Int) - s.fld R.TIM_PHY_LAT 15 0)))
    ∧ (∀ (m : PtpMsg) x, s.on 2 = true → m.domain = min 127 (s.fld R.TIM_CTRL 23 16) → m.kind = .followUp →
        s.timing.ptp.st = .slave → m.source = s.timing.ptp.source → m.seq = s.timing.ptp.syncSeq → s.timing.ptp.t2 = some x →
        Gives (.ptpMessageReceive m) s (fun t => t.timing.ptp.t1 = some (m.time + s.timing.ptp.corr + m.corr)
          ∧ t.timing.ptp.t2 = some x))
    ∧ (∀ (m : PtpMsg) t1 t2 t3, s.on 2 = true → m.domain = min 127 (s.fld R.TIM_CTRL 23 16) → m.kind = .delayResp →
        s.timing.ptp.st = .slave → m.source = s.timing.ptp.source → m.seq = s.timing.ptp.reqSeq → m.mine = true →
        s.timing.ptp.t1 = some t1 → s.timing.ptp.t2 = some t2 → s.timing.ptp.t3 = some t3 → s.timeSrc = 1 →
        s.timing.st = .unset →
        Gives (.ptpMessageReceive m) s (fun t => t.timing.ptpOk = true ∧ t.timing.st = .acquiring
          ∧ t.timing.lastOffset = -(((t2 - t1) - (m.time - m.corr - t3)) / 2)))
    ∧ (∀ m : PtpMsg, s.on 2 = true → m.domain = min 127 (s.fld R.TIM_CTRL 23 16) → m.kind = .delayReq →
        s.timing.ptp.st = .master → exec (.ptpMessageReceive m) s = .next { s with out := .ptp 9 m.seq s.rxStamp.toNat :: s.out })
    ∧ (s.on 2 = true → s.timing.ptp.st ≠ .master →
        Gives (.ptpMessageTimer .announceTimeout) s (fun t =>
          t.timing.ptp.st = (if s.fld R.TIM_CTRL 29 29 = 1 then .listening else .master) ∧ t.timing.ptpOk = false))
    ∧ (s.on 2 = true → s.timing.ptp.st = .master →
        Gives (.ptpMessageTimer .sync) s (fun t => t.timing.ptp.seq = (s.timing.ptp.seq + 1) % 65536
          ∧ t.out = .ptp 8 s.timing.ptp.seq s.txStamp.toNat :: .ptp 0 s.timing.ptp.seq 0 :: s.out))
    ∧ (∀ t1, s.on 2 = true → s.timing.ptp.st = .slave → s.timing.ptp.t1 = some t1 →
        Gives (.ptpMessageTimer .delayReq) s (fun t =>
          t.timing.ptp.t3 = some ((s.tb0 : Int) + s.fld R.TIM_PHY_LAT 31 16)
          ∧ t.out = .ptp 1 ((s.timing.ptp.reqSeq + 1) % 65536) 0 :: s.out))

/-- The host link (R361, R364). When the link goes down outstanding reads are void, those for descriptor data to be sent
again; when it returns what is owed is written in order, descriptors not started are discarded, and the doorbell page
is read; a nudge and the poll interval read the page, or while a read is in flight ask for one more; a page that
returns with a failure changes nothing, and one that returns sets each running ring's CR_PI and the other rings' CI;
more posted than the ring holds makes it ERROR (R365). Rings and records (R365, R366, R372, R375). EN set with sizes
in range starts a ring at index zero and writes zero to its indices; sizes out of range leave everything; EN cleared
on a ring with nothing started disables it; the event and telemetry rings start in the same way; deferred updates
bring one interrupt at the end of the interval; the oldest event is written to the event ring when it has room, and
what was lost is then reported. The model's choices in it: log entries 118, 119 and 121. -/
def Obligations.HostLinkAndRings : Prop :=
  (∀ s : State, s.canonical = true →
     (s.host.up = true → Gives .hostLinkDown s (fun t => t.host.up = false ∧ t.host.lanes = 0 ∧ t.host.reads = []
         ∧ t.host.voided = s.host.voided ++ s.host.reads.filter (fun x => match x.use with | .data _ _ _ => true | _ => false)
         ∧ t.host.rings = s.host.rings ∧ t.out = s.out))
     ∧ (s.host.up = false → exec .hostLinkDown s = .next s)
     ∧ (∀ lanes : Fin 256, s.on 2 = true → lanes ≠ 0 → s.host.up = false → s.host.voided = [] → s.host.pageRead = false →
         Gives (.hostLinkUp lanes) s (fun t => t.host.up = true ∧ t.host.lanes = lanes ∧ t.host.owed = []
           ∧ t.host.pageRead = true
           ∧ t.out = .hostRead s.host.nextTag s.doorbellPage 256 :: (s.host.owed.map Out.host).reverse ++ s.out
           ∧ ∀ r, (t.ring r).descs = (s.ring r).descs.filter (fun d => d.st != .fetched)))
     ∧ (∀ m : Fin 65536, s.on 2 = true → s.host.up = true → s.host.pageRead = false →
         Gives (.nudgeReceive m) s (fun t => t.host.pageRead = true ∧ t.host.lastPage = s.now
           ∧ t.out = .hostRead s.host.nextTag s.doorbellPage 256 :: s.out
           ∧ t.count C.HLK_NUDGES = (s.count C.HLK_NUDGES + 1) % 2 ^ 64))
     ∧ (∀ m : Fin 65536, s.on 2 = true → s.host.up = true → s.host.pageRead = true →
         Gives (.nudgeReceive m) s (fun t => t.host = { s.host with pagePending := true } ∧ t.out = s.out
           ∧ t.count C.HLK_NUDGES = (s.count C.HLK_NUDGES + 1) % 2 ^ 64))
     ∧ (s.host.up = true → s.fld R.HLK_CTRL 15 0 ≠ 0 → s.host.pageRead = false →
         Gives .doorbellPollTimer s (fun t => t.host.pageRead = true ∧ t.host.lastPage = t.now
           ∧ t.now = max s.now (s.host.lastPage + min 1000 (s.fld R.HLK_CTRL 15 0) * 1000)))
     ∧ (∀ (status : Fin 3) bytes, s.host.pageRead = true → s.host.pagePending = false → status ≠ 0 →
         Gives (.doorbellPageReturn status bytes) s (fun t => Only [.host] s t ∧ t.host.pageRead = false
           ∧ t.host.rings = s.host.rings ∧ t.host.evRing = s.host.evRing ∧ t.host.tlRing = s.host.tlRing))
     ∧ (∀ bytes, s.host.pageRead = true →
         Gives (.doorbellPageReturn 0 bytes) s (fun t => t.host.evRing.ci = wordAt bytes 128
           ∧ t.host.tlRing.ci = wordAt bytes 132
           ∧ ∀ r : Fin 16, (s.ring r).st = .running → (t.ring r).pi = wordAt bytes (4 * r)
             ∧ (2 ^ s.fld (R.HLK_CR_CFG r) 30 26 < (wordAt bytes (4 * r) + 2 ^ 32 - (s.ring r).ci) % 2 ^ 32 →
                 (t.ring r).st = .error))))
  ∧ (∀ s : State, s.canonical = true →
       (∀ (r : Fin 16) w, s.on (regDomain (R.HLK_CR_CFG r)) = true → ringSizes (w.setFld 31 31 1) = true →
           (s.ring r).st = .disabled → (s.ring r).stopping = false → s.host.up = true →
           Gives (.hostRingEnable r w) s (fun t =>
             t.ring r = { HostRing.init with st := .running, lastInt := (s.ring r).lastInt }
             ∧ t.fld (R.HLK_CR_CFG r) 31 31 = 1
             ∧ t.out = .host (.data (s.statusPage + 64 + 4 * r) [0, 0, 0, 0]) :: .host (.data (s.statusPage + 4 * r) [0, 0, 0, 0])
                 :: s.out))
       ∧ (∀ (r : Fin 16) w, s.on (regDomain (R.HLK_CR_CFG r)) = true → ringSizes (w.setFld 31 31 1) = false →
           exec (.hostRingEnable r w) s = .next s)
       ∧ (∀ (r : Fin 16) w, s.on (regDomain (R.HLK_CR_CFG r)) = true → (s.ring r).st = .running →
           (∀ d, d ∈ (s.ring r).descs → d.st = .fetched) → (∀ b, b ∈ s.host.buffers → b.ring ≠ r.val) →
           Tbl.wf (fun _ => HostRing.init) s.host.rings = true →
           Gives (.hostRingDisable r w) s (fun t => (t.ring r).st = .disabled ∧ (t.ring r).descs = []
             ∧ t.fld (R.HLK_CR_CFG r) 31 31 = 0 ∧ t.out = s.out))
       ∧ (∀ (tel : Bool) w, s.on (regDomain (auxCfg tel)) = true → w.fld 31 31 = 1 → w.fld 30 26 ≤ 16 →
           (if tel then 4 else 8) ≤ w.fld 30 26 → (s.aux tel).st = .disabled → s.host.up = true →
           Gives (.auxRingEnable tel w) s (fun t =>
             t.aux tel = { AuxRing.init with st := .running, lastInt := (s.aux tel).lastInt }
             ∧ t.aux (!tel) = s.aux (!tel)
             ∧ t.out = .host (.data (s.auxIndex tel) [0, 0, 0, 0]) :: s.out))
       ∧ (∀ r : Fin 18, r.val < 16 → (s.ring r).deferred = true →
           Gives (.interruptModerationExpiry r) s (fun t => (t.ring r).deferred = false ∧ (t.ring r).lastInt = some t.now
             ∧ t.now = max s.now ((s.ring r).lastInt.getD 0 + s.fld (R.HLK_CR_CFG r) 13 0 * 1000)))
       ∧ (s.host.evRing.deferred = true →
           Gives (.interruptModerationExpiry 16) s (fun t => t.host.evRing.deferred = false
             ∧ t.host.evRing.lastInt = some t.now ∧ t.host.tlRing = s.host.tlRing))
       ∧ (∀ e l, s.evq = e :: l → s.on 2 = true → s.host.up = true → s.auxRoom false = true → s.evLost = 0 →
           Gives .eventDeliver s (fun t => t.evq = l ∧ t.host.evRing.pi = (s.host.evRing.pi + 1) % 2 ^ 32
             ∧ Only [.evq, .host, .out] s t))
       ∧ (∀ e, s.evq = [e] → s.on 2 = true → s.host.up = true → s.auxRoom false = true → s.evLost ≠ 0 →
           Gives .eventDeliver s (fun t => t.evLost = 0 ∧ t.evq = [(modEv 0x0803 1 s.evLost 0 0).record s.tb0]))
       ∧ (s.evq = [] ∨ s.host.up = false → exec .eventDeliver s = .next s))

/-- Descriptors (R367, R368, R370). A descriptor that comes in takes its place among its ring's; one that sets a reserved
bit or breaks a condition completes with no other effect; HOST_NOP finishes at once; TX_PACKET and MEM_WRITE read
their data from host memory; RX_POST posts a buffer; MEM_READ and MEM_ATOMIC send their request; host memory that
cannot be read ends the packet; a finished descriptor at the front moves CR_CI on. The model's choices in it: log
entries 120, 122 and 123. -/
def Obligations.DescriptorsRunInRingOrder : Prop :=
  ∀ (s : State) (r : Fin 16), s.canonical = true →
    (∀ (tag : Fin 4096) tg idx addr len words d, s.host.reads.find? (fun x => x.tag == tag.val) = some ⟨tg, .descriptor r idx, addr, len⟩ →
        (s.ring r).st = .running → (s.ring r).stopping = false → (s.ring r).descs = [] → (s.ring r).fetch = (s.ring r).pi →
        words.length = 16 →
        d = ({ idx := idx, words := words, st := .fetched, pieces := [], asked := 0, parts := [] } : Desc) → d.legal = true →
        Gives (.descriptorFetch tag 0 words) s (fun t => (t.ring r).descs = [d] ∧ (t.ring r).ci = (s.ring r).ci
          ∧ t.host.reads = s.host.reads.filter (fun x => x.tag != tag.val) ∧ t.out = s.out))
    ∧ (∀ (tag : Fin 4096) tg idx addr len words d, s.host.reads.find? (fun x => x.tag == tag.val) = some ⟨tg, .descriptor r idx, addr, len⟩ →
        (s.ring r).st = .running → (s.ring r).stopping = false → (s.ring r).descs = [] → (s.ring r).fetch = (s.ring r).pi →
        words.length = 16 → s.host.up = true →
        d = ({ idx := idx, words := words, st := .fetched, pieces := [], asked := 0, parts := [] } : Desc) → d.legal = false →
        ((s.ring r).cqPi + 2 ^ 32 - (s.ring r).cqCi) % 2 ^ 32 < 2 ^ s.fld (R.HLK_CR_CFG r) 25 21 →
        Gives (.descriptorFetch tag 0 words) s (fun t => (t.ring r).descs = [] ∧ Only [.host, .cnt, .out] s t
          ∧ (t.ring r).ci = ((s.ring r).ci + 1) % 2 ^ 32 ∧ (t.ring r).cqPi = ((s.ring r).cqPi + 1) % 2 ^ 32
          ∧ t.host.buffers = s.host.buffers))
    ∧ (∀ d, (s.ring r).descs = [d] → s.startable r = some d → d.fails = none → d.opcode = 0 →
        Gives (.hostNop r) s (fun t => (t.ring r).descs = [] ∧ (t.ring r).ci = ((s.ring r).ci + 1) % 2 ^ 32
          ∧ (t.ring r).cqPi = (if d.post = true then ((s.ring r).cqPi + 1) % 2 ^ 32 else (s.ring r).cqPi)
          ∧ t.count C.HLK_DESC_DONE = (s.count C.HLK_DESC_DONE + 1) % 2 ^ 64))
    ∧ (∀ d, (s.ring r).descs = [d] → s.startable r = some d → d.fails = none → d.opcode = 1 → d.asked = 0 → d.length ≠ 0 →
        d.length ≤ 4096 - d.haddr % 4096 → s.host.reads.length < 4096 →
        Gives (.txPacket r) s (fun t => t.host.reads = s.host.reads ++ [⟨s.host.nextTag, .data r d.idx 0, d.haddr, d.length⟩]
          ∧ t.out = .hostRead s.host.nextTag d.haddr d.length :: s.out
          ∧ (t.ring r).descs = [{ d with st := .started, asked := d.length }]))
    ∧ (∀ d, (s.ring r).descs = [d] → s.startable r = some d → d.fails = none → d.opcode = 2 → d.length ≠ 0 →
        Gives (.rxPost r) s (fun t => t.host.buffers = s.host.buffers ++ [⟨r, d.idx, d.user, d.haddr, d.length⟩]
          ∧ (t.ring r).descs = [{ d with st := .started }] ∧ t.out = s.out))
    ∧ (∀ d, (s.ring r).descs = [d] → s.startable r = some d → d.fails = none → d.opcode = 0x10 → d.length ≠ 0 →
        d.length ≤ 4096 - d.faddr % 4096 → (s.req.out.filter (fun r => r.origin == 0)).length < 32768 →
        Gives (.memRead r) s (fun t => ∃ q, t.req.out = s.req.out ++ [q] ∧ q.origin = 0 ∧ q.use = .piece r d.idx 0
          ∧ q.held = none))
    ∧ (∀ d, (s.ring r).descs = [d] → s.startable r = some d → d.fails = none → d.opcode = 0x11 → d.asked = 0 → d.length ≠ 0 →
        d.length ≤ 4096 - d.faddr % 4096 → d.length ≤ 4096 - d.haddr % 4096 → s.host.reads.length < 4096 →
        Gives (.memWrite r) s (fun t => t.req = s.req
          ∧ t.host.reads = s.host.reads ++ [⟨s.host.nextTag, .data r d.idx 0, d.haddr, d.length⟩]))
    ∧ (∀ d, (s.ring r).descs = [d] → s.startable r = some d → d.fails = none → d.opcode = 0x12 → d.length ≠ 0 →
        (s.req.out.filter (fun r => r.origin == 0)).length < 32768 →
        Gives (.memAtomic r) s (fun t => ∃ q, t.req.out = s.req.out ++ [q] ∧ q.origin = 0 ∧ q.use = .piece r d.idx 0
          ∧ q.held = none))
    ∧ (∀ (tag : Fin 4096) (status : Fin 3) tg idx off addr len bytes d,
        s.host.reads.find? (fun x => x.tag == tag.val) = some ⟨tg, .data r idx off, addr, len⟩ → status ≠ 0 →
        (s.ring r).st = .running → (s.ring r).stopping = false → (s.ring r).descs = [d] → d.idx = idx → d.st = .started →
        d.opcode = 1 →
        Gives (.hmemResponse tag status bytes) s (fun t => (t.ring r).descs = []
          ∧ (t.ring r).ci = ((s.ring r).ci + 1) % 2 ^ 32 ∧ (t.ring r).cqPi = ((s.ring r).cqPi + 1) % 2 ^ 32
          ∧ t.dp = s.dp))

/-- Power domains (R45, R46, R47, R379, R386). A domain that is off and whose requirements are on begins to turn on, one
cold at a time; one that a level or an M-state holds waits with status 0x6; one taken down drains for at most 100 µs
once its locks are granted, and when its crossings are empty enters its state; a domain whose turn-on completes is on;
a domain without a retention state refuses it. The model's choices in it: log entries 129, 130 and 132. -/
def Obligations.DomainsTurnOnAndOff : Prop :=
  ∀ (s : State) (n : Fin 32), s.canonical = true → s.pwr.ops = [] → s.pwr.bootDue = false →
    (domKnown n = true → s.domSt n = .off → (∀ g, g ∈ requiresAny n → ∃ a, a ∈ g ∧ s.on a = true) → s.forcedDom n = none →
        s.inTransit n = false → s.tel.isolated = [] → s.pwr.coldOn = none →
        Gives (.domainOn n) s (fun t => t.domSt n = .turningOn ∧ t.pwr.coldOn = some n.val
          ∧ t.fld (R.PWR_DOM_STAT (n - 1)) 3 0 = 0))
    ∧ (domKnown n = true → s.on n = true →
        exec (.domainOn n) s = .next (s.setF (R.PWR_DOM_STAT (n - 1)) 3 0 0))
    ∧ (domKnown n = true → s.on n = false → s.forcedDom n ≠ none →
        Gives (.domainOn n) s (fun t => t.dom = s.dom ∧ n.val ∈ t.pwr.held ∧ t.fld (R.PWR_DOM_STAT (n - 1)) 3 0 = 6))
    ∧ (domKnown n = true → s.domSt n = .on → s.nextDown n = n → grantable s.maint (.domain n .off) = true →
        Gives (.domainOff n) s (fun t => t.domSt n = .draining ∧ (⟨n, .off, s.now + 100000⟩ : Going) ∈ t.pwr.going
          ∧ (.domain n .off, true) ∈ t.maint))
    ∧ (domKnown n = true → retainable n = true → s.domSt n = .on → s.nextDown n = n →
        grantable s.maint (.domain n .retention) = true →
        Gives (.domainRetention n) s (fun t => t.domSt n = .draining
          ∧ (⟨n, .retention, s.now + 100000⟩ : Going) ∈ t.pwr.going))
    ∧ (domKnown n = true → retainable n = false →
        exec (.domainRetention n) s = .next (s.setF (R.PWR_DOM_STAT (n - 1)) 3 0 3))
    ∧ (∀ g, s.pwr.going.find? (fun g => g.n == n.val) = some g → s.enginesQuiet n = true → s.entriesIn n = [] →
        Gives (.domainDrainEnd n) s (fun t => t.domSt n = g.target ∧ ∀ x, x ∈ t.pwr.going → x.n ≠ n.val))
    ∧ (∀ wires : List (Fin 16), s.domSt n = .turningOn →
        Gives (.domainOnDone n wires) s (fun t => t.on n = true ∧ t.pwr.coldOn ≠ some n.val))

/-- The supply and the M-states (R376 to R378, R387, R388). The mean of the samples decides: one that falls through no
threshold changes no level; one below 40.0 V switches the module off; the first threshold enters level 1, and is
logged; a level is released when its dwell of 10 ms is complete; M3 is entered by an orderly withdrawal, M0 needs no
change, and the wake timer returns from M3; a droop stretches an island's clock and changes nothing else. Heat (R383,
R384, R389). With no trip the temperatures are taken and no domain changes; a die with less than 5 °C of headroom is
THROTTLED, at no more than 50 percent; a site at its trip temperature is an abrupt stop with cause 2, and stays
tripped. The model's choices in it: log entries 10, 128, 131 and 136. -/
def Obligations.SupplyAndHeat : Prop :=
  (∀ s : State, s.canonical = true →
     (∀ (v watts : Fin 65536) l, l = (v.val :: s.pwr.samples).take 100 → s.on 1 = true → 4000 * l.length ≤ l.sum →
         l.sum ≤ 6000 * l.length → s.boot.waiting = false →
         (∀ n : Nat, n < 6 → below l (levelThreshold n) = true → below s.pwr.samples (levelThreshold n) = true) →
         Gives (.supplySample v watts) s (fun t => t.pwr.samples = l ∧ t.pwr.watts = watts
           ∧ t.fld R.PWR_SUPPLY_STAT 31 16 = l.sum / l.length ∧ t.level = s.level ∧ t.dom = s.dom))
     ∧ (∀ (v watts : Fin 65536) l, l = (v.val :: s.pwr.samples).take 100 → s.on 1 = true → l.sum < 4000 * l.length →
         Gives (.supplySample v watts) s (fun t => t.dom = [] ∧ t.boot.waiting = true ∧ t.boot.kind = 0 ∧ t.homes = []
           ∧ t.dp = State.reset.dp))
     ∧ (∀ (v watts : Fin 65536) l, l = (v.val :: s.pwr.samples).take 100 → s.on 1 = true → l.sum < 5000 * l.length →
         4800 * l.length ≤ l.sum → s.pwr.samples ≠ [] → below s.pwr.samples 5000 = false → s.boot.waiting = false →
         s.level = 0 → s.fld R.PWR_MSTATE 31 30 = 0 → s.pwr.m3 = false → s.wd = none → s.pwr.shed = [] → s.pwr.held = [] →
         Gives (.supplySample v watts) s (fun t => t.level = 1 ∧ t.dom = s.dom
           ∧ t.fld R.PWR_SUPPLY_LOG 30 28 = max 1 (s.fld R.PWR_SUPPLY_LOG 30 28)))
     ∧ (∀ t0, s.level = 1 → Tbl.get (fun _ => none) s.pwr.dwell 1 = some t0 → s.fld R.PWR_MSTATE 31 30 = 0 → s.pwr.m3 = false →
         s.wd = none → s.pwr.shed = [] → s.pwr.held = [] →
         Gives .shedRelease s (fun t => t.level = 0 ∧ t.now = max s.now (t0 + 10000000) ∧ t.dom = s.dom))
     ∧ Gives .supplyLogClear s (fun t => Only [.regs] s t ∧ t.fld R.PWR_SUPPLY_LOG 30 28 = 0
           ∧ t.fld R.PWR_SUPPLY_LOG 15 0 = 0 ∧ ∀ off, off ≠ R.PWR_SUPPLY_LOG → t.rd off = s.rd off)
     ∧ (∀ wake : Fin 65536, s.level = 0 → s.pwr.m3 = false → s.wd = none → s.pwr.shed = [] → s.pwr.held = [] →
         Gives (.mstateRequest 0 wake) s (fun t => Only [.regs] s t ∧ t.fld R.PWR_MSTATE 31 28 = 0
           ∧ t.fld R.PWR_MSTATE 15 0 = wake))
     ∧ (∀ wake : Fin 65536, s.level < 5 → s.pwr.m3 = false → s.wd = none →
         Gives (.mstateRequest 3 wake) s (fun t => t.wd = some ⟨s.now + 100000, [.m3]⟩
           ∧ t.fld R.PWR_MSTATE 31 30 = 3 ∧ t.dom = s.dom))
     ∧ (∀ t0, s.pwr.wakeAt = some t0 → s.level = 0 → s.pwr.m3 = true →
         exec .m3WakeTimer s = .next ((({ s.reach t0 with pwr := { s.pwr with wakeAt := none } } : State).setF
           R.PWR_MSTATE 31 30 0).leaveM3 0))
     ∧ (∀ i : Fin 112, s.works (islandDomain i) = true → s.pwr.stretched.contains i.val = false →
         Gives (.droopDetect i) s (fun t => Only [.pwr, .cnt] s t ∧ i.val ∈ t.pwr.stretched
           ∧ t.count C.PWR_STRETCH = (s.count C.PWR_STRETCH + 1) % 2 ^ 64))
     ∧ (∀ i : Fin 112, Gives (.droopRelease i) s (fun t => Only [.pwr] s t ∧ i.val ∉ t.pwr.stretched)))
  ∧ (∀ (s : State) (core hub : Int) (dies stackList sites : List Int), s.canonical = true → s.on 1 = true →
       (s.boot.tripped = [] → (s.takeTemps core hub dies stackList sites).tripsAt 0 = [] →
           Gives (.thermalSample core hub dies stackList sites) s (fun t => t.pwr.coreTemp = core ∧ t.pwr.hubTemp = hub
             ∧ t.dom = s.dom ∧ t.boot.waiting = s.boot.waiting
             ∧ ∀ d, d < 4 → (s.takeTemps core hub dies stackList sites).headroom d < 50 →
                 t.fld (R.PWR_DIE_THERM d) 23 22 = 2 ∧ t.fld (R.PWR_DIE_THERM d) 21 15 ≤ 50))
       ∧ (∀ x, x ∈ (s.takeTemps core hub dies stackList sites).tripsAt 0 → s.boot.waiting = false →
           Gives (.thermalSample core hub dies stackList sites) s (fun t => t.dom = [(1, .on)] ∧ t.boot.cause = 2
             ∧ t.boot.waiting = true ∧ x ∈ t.boot.tripped)))

/-- Snapshots (R412 to R417). A request asks for the first whole microsecond that lies at least 2 µs ahead; at its target
a snapshot is latched, with what every identity leaves over, or skipped while the previous one is not complete; a
completed snapshot takes the next SEQ and is published, unless LOCK holds the published bank, and one without
violations isolates nothing; while DL22 is down nothing completes (R35); LOCK ends by a write or after 10 ms, and the
newest completed snapshot is then published; a violation of the spill identity isolates Easel's island, and a release
returns it; CLR of a queue's high-water mark sets it to the present occupancy. The model's choices in it: log entries
143, 145 and 146. -/
def Obligations.SnapshotsAreTakenAndPublished : Prop :=
  ∀ s : State, s.canonical = true →
    (s.on (regDomain R.TEL_SNAP_CTRL) = true →
        Gives .snapshotRequest s (fun t => ∃ x, x ∈ t.tel.req ∧ x % 1000 = 0 ∧ s.tb0 + 2000 ≤ x ∧ x < s.tb0 + 3000
          ∧ ∀ y, y ∈ t.tel.req → y ∈ s.tel.req ∨ y = x))
    ∧ (∀ x, s.on 2 = true → s.nextTarget = some x → s.tel.cur = none →
        Gives .snapshotTarget s (fun t => t.tel.lastTarget = some x ∧ t.tel.req = s.tel.req.filter (· != x) ∧ t.tel.causes = []
          ∧ t.now = max s.now (s.atTb0 x)
          ∧ ∃ c, t.tel.cur = some c ∧ c.target = x ∧ c.causes = s.tel.causes
            ∧ ∀ b, b ∈ c.ledger → b.diff ≠ 0))
    ∧ (∀ x c, s.on 2 = true → s.nextTarget = some x → s.tel.cur = some c →
        Gives .snapshotTarget s (fun t => t.tel.cur = some c ∧ t.tel.skipped = true ∧ t.tel.lastTarget = some x
          ∧ t.tel.pub = s.tel.pub))
    ∧ (∀ c, s.tel.cur = some c → s.dieLinkUp 22 = true → s.tel.lockEnd = none → c.violations [] = [] →
        Gives (.snapshotComplete [] false) s (fun t => t.tel.cur = none ∧ t.tel.seq = (s.tel.seq + 1) % 2 ^ 32
          ∧ t.tel.pub = some { c with seq := (s.tel.seq + 1) % 2 ^ 32 } ∧ t.tel.isolated = s.tel.isolated))
    ∧ (∀ fails storage, s.dieLinkUp 22 = false → exec (.snapshotComplete fails storage) s = .next s)
    ∧ (∀ c t0, s.tel.cur = some c → s.dieLinkUp 22 = true → s.tel.lockEnd = some t0 → c.violations [] = [] →
        Gives (.snapshotComplete [] false) s (fun t => t.tel.cur = none ∧ t.tel.pub = s.tel.pub
          ∧ t.tel.newest = some { c with seq := (s.tel.seq + 1) % 2 ^ 32 }))
    ∧ (∀ c fails v, s.tel.cur = some c → s.dieLinkUp 22 = true → c.violations fails = [v] → v.code = 4 → v.kind = 0x10 →
        v.index = 111 → s.tel.isolated.contains (0x10, 111) = false →
        Gives (.snapshotComplete fails false) s (fun t => t.tel.isolated = s.tel.isolated ++ [(0x10, 111)]
          ∧ t.fld R.TEL_LEDGER_STAT 31 24 = 4 ∧ t.fld R.TEL_LEDGER_UNIT 31 0 = 0x10 * 2 ^ 24 + 111))
    ∧ (s.on (regDomain R.TEL_SNAP_CTRL) = true → s.tel.lockEnd = none →
        Gives .snapshotLock s (fun t => t.fld R.TEL_SNAP_CTRL 30 30 = 1 ∧ t.tel.lockEnd = some (s.now + 10000000)
          ∧ t.tel.pub = s.tel.pub))
    ∧ (∀ c, s.on (regDomain R.TEL_SNAP_CTRL) = true → s.tel.newest = some c →
        Gives .snapshotUnlock s (fun t => t.fld R.TEL_SNAP_CTRL 30 30 = 0 ∧ t.tel.lockEnd = none ∧ t.tel.pub = some c
          ∧ t.tel.newest = none))
    ∧ (∀ t0, s.tel.lockEnd = some t0 → s.tel.newest = none →
        Gives .snapshotLockExpiry s (fun t => t.now = max s.now t0 ∧ t.fld R.TEL_SNAP_CTRL 30 30 = 0 ∧ t.tel.lockEnd = none
          ∧ t.tel.pub = s.tel.pub))
    ∧ (∀ (kind : Fin 128) (index : Fin 16777216), s.on (regDomain R.TEL_ISO_CMD) = true → unitKnown kind index = false →
        exec (.isolationRelease kind index) s = .next (s.setF R.TEL_ISO_STAT 3 0 3))
    ∧ (∀ (kind : Fin 128) (index : Fin 16777216), s.on (regDomain R.TEL_ISO_CMD) = true → unitKnown kind index = true →
        s.tel.isolated.contains (kind.val, index.val) = false →
        exec (.isolationRelease kind index) s = .next (s.setF R.TEL_ISO_STAT 3 0 4))
    ∧ (s.on (regDomain R.TEL_ISO_CMD) = true → s.tel.isolated.contains (0x10, 111) = true →
        Gives (.isolationRelease 0x10 111) s (fun t => t.fld R.TEL_ISO_STAT 3 0 = 0
          ∧ t.tel.isolated = s.tel.isolated.filter (· != (0x10, 111))))
    ∧ (∀ (egress : Fin 1094) (tc : Fin 8), s.on (regDomain (R.TEL_QHWM egress tc)) = true →
        Tbl.wf (fun _ => EQueue.empty) s.dp.queues = true →
        Gives (.queueHwmClear egress tc) s (fun t =>
          t.queue (qKey egress tc) = { s.queue (qKey egress tc) with hwm := (s.queue (qKey egress tc)).occupancy }
          ∧ ∀ k, k ≠ qKey egress tc → t.queue k = s.queue k))

/-- Scores (R422). A raw score is at most 1,000; the published score rises to it at once and falls toward it by at most 10
points in any 60 s, each fall noted with its instant; the published score decides the state; an evaluation adds one
second of inputs to the history and raises no action while none is budgeted. -/
def Obligations.ScoresRiseAtOnceAndFallSlowly : Prop :=
  (∀ (s : State) (tot : Tbl Nat) (k : Nat), s.rawScore tot k ≤ 1000)
  ∧ (∀ (x : Part) (raw now : Nat), x.score ≤ raw → (x.publish raw now).score = raw)
  ∧ (∀ (x : Part) (raw now : Nat), raw < x.score → raw ≤ (x.publish raw now).score ∧ (x.publish raw now).score ≤ x.score)
  ∧ (∀ (x : Part) (raw now : Nat), raw < x.score →
      (((x.falls.filter (fun f => now < f.1 + 60000000000)).map (·.2)).sum ≤ 10) →
      ((x.publish raw now).falls.map (·.2)).sum ≤ 10
        ∧ ((x.publish raw now).falls.map (·.2)).sum
            = ((x.falls.filter (fun f => now < f.1 + 60000000000)).map (·.2)).sum + (x.score - (x.publish raw now).score))
  ∧ (∀ (s : State) (tot : Tbl Nat) (k : Nat), Tbl.wf (fun _ => Part.init) s.tel.parts = true →
      ((s.evaluatePart tot k).part k).score = ((s.part k).publish (s.rawScore tot k) s.now).score
        ∧ ((s.evaluatePart tot k).part k).st = healthState ((s.evaluatePart tot k).part k).score)
  ∧ (∀ s : State, s.on 2 = true → s.fld R.TEL_HEALTH_CFG 31 28 = 0 →
      Gives (.healthEvaluate []) s (fun t => t.tel.hist.length = min 600 (s.tel.hist.length + 1)
        ∧ t.tel.isolated = s.tel.isolated ∧ t.ports = s.ports))

/-- Health actions, pins and hot updates (R425, R426, R427, R432, R435). An allowed action of a part whose score has
fallen below 700 is given up; at its boundary it starts, and counts as one expulsion; a read shows a part's score and
state; a pin ends after PIN_S seconds, or by an unpin, and gives an allowed action back; a hot update takes its locks,
ends with its code when its slot does not verify, drains its island's crossings for at most 100 µs before the swap,
and goes back after 10 µs without an announcement. The model's choices in it: log entries 40, 148 and 149. -/
def Obligations.PinsActionsAndHotUpdates : Prop :=
  ∀ s : State, s.canonical = true →
    (∀ (kind : Fin 256) (index : Fin 16777216) t0, (s.part (partKey kind index)).allowedAt = some t0 →
        (s.part (partKey kind index)).score < 700 →
        exec (.healthActionStart kind index) s
          = .next (s.setPart (partKey kind index) { s.part (partKey kind index) with allowedAt := none }))
    ∧ (∀ (index : Fin 16777216) t0, index.val < 1024 → (s.part (partKey 1 index)).allowedAt = some t0 →
        700 ≤ (s.part (partKey 1 index)).score → s.atBoundary (partKey 1 index) t0 = true →
        s.fld (portCtrl index) 30 30 = 1 →
        Gives (.healthActionStart 1 index) s (fun t => t.tel.expulsions = s.expHour ++ [s.now]
          ∧ (t.part (partKey 1 index)).acted = true ∧ (t.part (partKey 1 index)).allowedAt = none
          ∧ t.count C.TEL_EXPULSIONS = (s.count C.TEL_EXPULSIONS + 1) % 2 ^ 64))
    ∧ (∀ (kind : Fin 256) (index : Fin 65536), s.on (regDomain R.TEL_HEALTH_CMD) = true → partKnown kind index = true →
        (s.part (partKey kind index)).score ≤ 1000 →
        Gives (.healthRead kind index) s (fun t => Only [.regs] s t ∧ t.fld R.TEL_HEALTH_STAT 3 0 = 0
          ∧ t.fld R.TEL_HEALTH_DATA_0 31 22 = (s.part (partKey kind index)).score
          ∧ t.fld R.TEL_HEALTH_DATA_0 18 18 = bit01 (s.part (partKey kind index)).flagged
          ∧ t.fld R.TEL_HEALTH_DATA_0 17 17 = bit01 (s.part (partKey kind index)).pinEnd.isSome
          ∧ t.fld R.TEL_HEALTH_DATA_1 31 22 = (s.part (partKey kind index)).applied))
    ∧ (∀ (kind : Fin 256) (index : Fin 65536), s.on (regDomain R.TEL_HEALTH_CMD) = true → partKnown kind index = true →
        s.fld R.TEL_HEALTH_PIN_S 11 0 ≠ 0 → s.fld R.TEL_HEALTH_PIN_S 11 0 ≤ min 3600 (s.fld R.TEL_HEALTH_CFG 27 16) →
        Gives (.healthPin kind index) s (fun t => t.fld R.TEL_HEALTH_STAT 3 0 = 0
          ∧ (t.part (partKey kind index)).pinEnd = some (s.now + s.fld R.TEL_HEALTH_PIN_S 11 0 * 1000000000)
          ∧ (t.part (partKey kind index)).allowedAt = none
          ∧ (t.part (partKey kind index)).score = (s.part (partKey kind index)).score ∧ t.ports = s.ports))
    ∧ (∀ (kind : Fin 256) (index : Fin 65536), s.on (regDomain R.TEL_HEALTH_CMD) = true → partKnown kind index = true →
        min 3600 (s.fld R.TEL_HEALTH_CFG 27 16) < s.fld R.TEL_HEALTH_PIN_S 11 0 →
        exec (.healthPin kind index) s = .next (s.setF R.TEL_HEALTH_STAT 3 0 5))
    ∧ (∀ (kind : Fin 256) (index : Fin 65536), s.on (regDomain R.TEL_HEALTH_CMD) = true → partKnown kind index = true →
        Tbl.wf (fun _ => Part.init) s.tel.parts = true →
        Gives (.healthUnpin kind index) s (fun t => t.fld R.TEL_HEALTH_STAT 3 0 = 0
          ∧ t.part (partKey kind index) = { s.part (partKey kind index) with pinEnd := none }))
    ∧ (∀ (kind : Fin 256) (index : Fin 16777216) t0, (s.part (partKey kind index)).pinEnd = some t0 →
        Tbl.wf (fun _ => Part.init) s.tel.parts = true →
        Gives (.healthPinExpiry kind index) s (fun t => t.now = max s.now t0
          ∧ t.part (partKey kind index) = { s.part (partKey kind index) with pinEnd := none }))
    ∧ (∀ (island : Fin 128) (slot : Fin 2), s.on (regDomain R.TEL_UCODE_CMD) = true → s.fld R.TEL_UCODE_STAT 31 31 = 0 →
        island ≠ 0 → island.val < 112 → grantable s.maint (.ucode island slot) = true →
        Gives (.ucodeUpdate island slot) s (fun t => t.tel.update = some ⟨island, slot, none, none⟩
          ∧ t.fld R.TEL_UCODE_STAT 31 31 = 1 ∧ t.maint = s.maint ++ [(.ucode island slot, true)]))
    ∧ (∀ (island : Fin 128) (slot : Fin 2), s.on (regDomain R.TEL_UCODE_CMD) = true → s.fld R.TEL_UCODE_STAT 31 31 = 0 →
        island = 0 ∨ 112 ≤ island.val →
        exec (.ucodeUpdate island slot) s = .next (s.setF R.TEL_UCODE_STAT 3 0 3))
    ∧ (∀ u c, s.tel.update = some u → u.swapped = none → u.drainEnd = none → s.boot.erased u.slot = true →
        Gives (.ucodeLoadDone c) s (fun t => t.tel.update = none ∧ t.fld R.TEL_UCODE_STAT 31 31 = 0
          ∧ t.fld R.TEL_UCODE_STAT 15 8 = 7 ∧ t.fld R.TEL_UCODE_STAT 3 0 = 5))
    ∧ (∀ u c, s.tel.update = some u → u.swapped = none → u.drainEnd = none → s.boot.erased u.slot = false →
        s.boot.checkImage c none = 0 →
        Gives (.ucodeLoadDone c) s (fun t => t.tel.update = some (if s.islandEntries u.island = []
          then { u with swapped := some s.now } else { u with drainEnd := some (s.now + 100000) })))
    ∧ (∀ u c t0, s.tel.update = some u → u.swapped = none → u.drainEnd = some t0 → s.islandEntries u.island = [] →
        Gives (.ucodeLoadDone c) s (fun t => t.tel.update = some { u with drainEnd := none, swapped := some s.now }))
    ∧ (∀ u t0, s.tel.update = some u → u.swapped = some t0 →
        Gives .ucodeAnnounceTimeout s (fun t => t.tel.update = none ∧ t.now = max s.now (t0 + 10000)
          ∧ t.fld R.TEL_UCODE_STAT 3 0 = 5))

/-- The I3C target (R444 to R446). It takes a dynamic address while it holds none, by ENTDAA or, at its static address
0x50, by SETDASA, and gives it up by RSTDAA; while it holds one it answers with as many bytes as the common command
has (their values are free); ENEC and DISEC switch in-band interrupts; ALERT_N is low exactly while an enabled cause
stands; the wake command requests M0 and clears WAKE_S, returns a module from M3, and is ignored while RESET_N is low.
The model's choices in it: log entries 150, 152 and 153. -/
def Obligations.SidebandTargetAnswers : Prop :=
  ∀ s : State, s.canonical = true →
    (∀ a : Fin 128, s.i3c.dyn = none →
        exec (.i3cEntdaa a) s = .next { s with i3c := { s.i3c with dyn := some a.val } })
    ∧ (∀ (a : Fin 128) b, s.i3c.dyn = some b → exec (.i3cEntdaa a) s = .next s)
    ∧ (∀ static a : Fin 128, s.i3c.dyn = none →
        exec (.i3cSetdasa static a) s
          = .next (if static = 0x50 then { s with i3c := { s.i3c with dyn := some a.val } } else s))
    ∧ exec .i3cRstdaa s = .next { s with i3c := { s.i3c with dyn := none } }
    ∧ (s.i3c.dyn ≠ none →
        Gives .i3cGetpid s (fun t => ∃ b, b.length = 6 ∧ t = { s with out := .i3c b :: s.out })
        ∧ Gives .i3cGetbcr s (fun t => ∃ b, b.length = 1 ∧ t = { s with out := .i3c b :: s.out })
        ∧ Gives .i3cGetdcr s (fun t => ∃ b, b.length = 1 ∧ t = { s with out := .i3c b :: s.out })
        ∧ Gives .i3cGetstatus s (fun t => ∃ b, b.length = 2 ∧ t = { s with out := .i3c b :: s.out, free := s.free + 1 }))
    ∧ exec .i3cEnec s = .next { s with i3c := { s.i3c with ibi := true } }
    ∧ exec .i3cDisec s = .next { s with i3c := { s.i3c with ibi := false } }
    ∧ (∀ v : Fin 256, s.on 1 = true →
        Gives (.alertEnWrite v) s (fun t => Only [.i3c, .out] s t ∧ t.i3c.alertEn = v
          ∧ (t.i3c.low = true ↔ s.alertCause &&& v.val ≠ 0)))
    ∧ (s.on 1 = true → s.boot.resetLow = false → s.level = 0 → s.pwr.m3 = false → s.wd = none → s.pwr.shed = [] →
        s.pwr.held = [] →
        Gives .i3cWake s (fun t => Only [.regs] s t ∧ t.fld R.PWR_MSTATE 31 28 = 0 ∧ t.fld R.PWR_MSTATE 15 0 = 0))
    ∧ (s.on 1 = true → s.boot.resetLow = false → s.level = 0 → s.pwr.m3 = true →
        exec .i3cWake s = .next (((s.setF R.PWR_MSTATE 31 30 0).setF R.PWR_MSTATE 15 0 0).leaveM3 0))
    ∧ (s.on 1 = true → s.boot.resetLow = false → s.level = 5 → s.pwr.m3 = true →
        exec .i3cWake s = .next ((s.setF R.PWR_MSTATE 31 30 0).setF R.PWR_MSTATE 15 0 0))
    ∧ (s.boot.resetLow = true → exec .i3cWake s = .next s)

/-- The setup window (R9, R10, R12, R448). A write that is not 4 aligned bytes, or at a reserved offset, or of a register
whose domain is not on, stores nothing and raises the register-access event; such a read answers 0 and raises it, and
another read answers the register; a counter keeps its count, and what a snapshot latches is read while PD02 is on; a
register with no behaviour of its own stores each field as its access type states, and the identity register is
written by its own rule. The model's choices in it: log entries 5, 6 and 13. -/
def Obligations.RegisterWritesFollowAccessTypes : Prop :=
  ∀ (s : State) (w : Word), s.canonical = true →
    (∀ (off : Word) (n : Fin 9), n ≠ 4 ∨ off.toNat % 4 ≠ 0 →
        exec (.registerWrite off n none) s = .next ((s.raise (modEv 0x0801 1 off.toNat 0 0)).emit (.regRead off.toNat 0)))
    ∧ (∀ off : Word, off.toNat % 4 = 0 → findReg regMap off.toNat = none → findCnt cntMap off.toNat = none →
        exec (.registerWrite off 4 none) s = .next ((s.raise (modEv 0x0801 1 off.toNat 1 0)).emit (.regRead off.toNat 0)))
    ∧ (∀ (off : Word) r ix, off.toNat % 4 = 0 → findReg regMap off.toNat = some (r, ix) →
        exec (.registerWrite off 4 none) s
          = .next (if s.on (if (s.snapRead r.base ix off.toNat).isSome then 2 else r.domain ix) then s.emit (.regRead off.toNat (s.readReg off.toNat))
              else (s.raise (modEv 0x0801 1 off.toNat 2 0)).emit (.regRead off.toNat 0)))
    ∧ (∀ (off : Word) (n : Fin 9), n ≠ 4 ∨ off.toNat % 4 ≠ 0 →
        Gives (.registerWrite off n (some w)) s (fun t => Only [.cnt, .evq, .evLost, .evLostOff] s t
          ∧ t = s.raise (modEv 0x0801 1 off.toNat 0 1)))
    ∧ (∀ (off : Word) r ix, off.toNat % 4 = 0 → findReg regMap off.toNat = some (r, ix) → s.on (r.domain ix) = false →
        Gives (.registerWrite off 4 (some w)) s (fun t => Only [.cnt, .evq, .evLost, .evLostOff] s t
          ∧ t = s.raise (modEv 0x0801 1 off.toNat 2 1)))
    ∧ (∀ off : Word, off.toNat % 4 = 0 → findReg regMap off.toNat = none → findCnt cntMap off.toNat = none →
        Gives (.registerWrite off 4 (some w)) s (fun t => Only [.cnt, .evq, .evLost, .evLostOff] s t
          ∧ t = s.raise (modEv 0x0801 1 off.toNat 1 1)))
    ∧ (∀ off : Word, off.toNat % 4 = 0 → findReg regMap off.toNat = none → findCnt cntMap off.toNat ≠ none → s.on 2 = true →
        exec (.registerWrite off 4 (some w)) s = .next s)
    ∧ (s.on 2 = true → exec (.registerWrite (BitVec.ofNat 32 R.HLK_CAPTURE) 4 (some w)) s
          = .next (s.wr R.HLK_CAPTURE (storeWord R.HLK_CAPTURE w (s.rd R.HLK_CAPTURE))))
    ∧ (s.on 1 = true → exec (.registerWrite (BitVec.ofNat 32 R.GLB_FABRIC_ID) 4 (some w)) s = exec (.fabricIdWrite w) s)
    ∧ (∀ (f : FieldDef) (old : Word), f.lo ≤ f.hi → f.hi < 32 →
        (f.acc = .ro ∨ f.acc = .wo → f.write w old = old)
        ∧ (f.acc = .rw ∨ f.acc = .rws ∨ f.acc = .rwp → (f.write w old).fld f.hi f.lo = w.fld f.hi f.lo)
        ∧ (f.acc = .w1c → (f.write w old).fld f.hi f.lo &&& w.fld f.hi f.lo = 0)
        ∧ (f.acc = .w1s → (f.write w old).fld f.hi f.lo = old.fld f.hi f.lo ||| w.fld f.hi f.lo)
        ∧ ∀ i, i < 32 → i < f.lo ∨ f.hi < i → (f.write w old).getLsbD i = old.getLsbD i)

/-- The module's identity (R24). A write that changes SPINE_ID, PRISM_MEMBER or PRISM_POS while ASSIGNED reads 1 is
discarded as a whole, unless the same write sets ASSIGNED to 0; every other write is stored, and clearing ASSIGNED
begins an orderly withdrawal: the new fields are then stored, and a second write sets ASSIGNED. -/
def Obligations.IdentityIsChangedInTwoWrites : Prop :=
  ∀ (s : State) (w : Word), s.canonical = true →
    (s.assigned = true → w.fld 31 31 = 1 →
        w.fld 9 0 ≠ s.fld R.GLB_FABRIC_ID 9 0 ∨ w.fld 30 30 ≠ s.fld R.GLB_FABRIC_ID 30 30
          ∨ w.fld 21 16 ≠ s.fld R.GLB_FABRIC_ID 21 16 →
        exec (.fabricIdWrite w) s = .next s)
    ∧ (s.assigned = false ∨ w.fld 31 31 = 0 ∨ (w.fld 9 0 = s.fld R.GLB_FABRIC_ID 9 0 ∧ w.fld 30 30 = s.fld R.GLB_FABRIC_ID 30 30
          ∧ w.fld 21 16 = s.fld R.GLB_FABRIC_ID 21 16) →
        Gives (.fabricIdWrite w) s (fun t => t.fld R.GLB_FABRIC_ID 31 30 = w.fld 31 30
          ∧ t.fld R.GLB_FABRIC_ID 21 16 = w.fld 21 16 ∧ t.fld R.GLB_FABRIC_ID 9 0 = w.fld 9 0
          ∧ (s.assigned = true → w.fld 31 31 = 0 → s.wd = none → t.wd = some ⟨s.now + 100000, [.identity]⟩)
          ∧ (s.assigned = false ∨ w.fld 31 31 = 1 → t.wd = s.wd)))
end

