-- ==== Sys2Proof/Laws/Frame.lean ====
section
/-!
SUPPORT. The frame relation over a mask of fields: reflexive, transitive, monotone, and what a record update leaves
unchanged. The frames of the operations and commands (Laws/Frame*.lean) are put together from these lemmas.
-/

set_option linter.all false
namespace Sys2Proof.Machine

/-- `t` differs from `s` in fields of the mask alone; bit n stands for the n-th field. -/
def Within (m : Nat) (s t : State) : Prop := ∀ p : Field, m.testBit p.ctorIdx = true ∨ p.same s t

/-- A command's next state differs from `s` in fields of the mask alone. -/
def WithinNext (m : Nat) (s : State) (o : Host.Outcome State Fault Refusal) : Prop := ∀ t, o = .next t → Within m s t

theorem Field.same_trans (p : Field) {s t u : State} (h : p.same s t) (k : p.same t u) : p.same s u := by
  cases p <;> exact Eq.trans k h

theorem Within.refl (m : Nat) (s : State) : Within m s s := by
  intro p; right; cases p <;> rfl

theorem testBit_of_covers {m v i : Nat} (c : v &&& m = v) (h : v.testBit i = true) : m.testBit i = true := by
  rw [← c, Nat.testBit_and] at h
  exact (Bool.and_eq_true_iff.mp h).2

/-- A further operation whose frame is covered. -/
theorem Within.step {m v : Nat} {s t u : State} (k : Within v t u) (c : v &&& m = v) (h : Within m s t) :
    Within m s u := by
  intro p
  rcases h p with h | h
  · exact .inl h
  · rcases k p with k | k
    · exact .inl (testBit_of_covers c k)
    · exact .inr (p.same_trans h k)

theorem Within.covers {a b m : Nat} (h : a &&& b = a) (c : b &&& m = b) : a &&& m = a := by
  rw [← h, Nat.and_assoc, c]

theorem Within.each {α : Type} {m : Nat} {f : α → State → State} (h : ∀ x s, Within m s (f x s)) :
    ∀ (l : List α) (s : State), Within m s (forEach f l s)
  | [], s => Within.refl m s
  | x :: l, s => Within.step (Within.each h l (f x s)) (Nat.and_self m) (h x s)

/-- Taking something out for each element of a list. -/
theorem takeEach_step {α : Type} {f : State → α → List Item × State} {m : Nat} {l : List α} {r s : State}
    (k : ∀ s x, Within m s (f s x).2) (h : Within m r s) : Within m r (takeEach f l s).2 := by
  induction l generalizing s with
  | nil => exact h
  | cons x l ih => exact ih (Within.step (k s x) (Nat.and_self m) h)

/-- Doing something for each element after other operations. -/
theorem Within.stepEach {α : Type} {m : Nat} {s t : State} {f : α → State → State} {l : List α}
    (k : ∀ x s, Within m s (f x s)) (h : Within m s t) : Within m s (forEach f l t) :=
  Within.step (Within.each k l t) (Nat.and_self m) h

theorem WithinNext.ok {m : Nat} {s t : State} (h : Within m s t) : WithinNext m s (Sys2Proof.Machine.ok t) := by
  intro u hu
  cases hu
  exact h

theorem WithinNext.mono {m v : Nat} {s : State} {o : Host.Outcome State Fault Refusal} (h : WithinNext v s o)
    (c : v &&& m = v) : WithinNext m s o := fun t e => Within.step (h t e) c (Within.refl m s)

theorem WithinNext.fault {m : Nat} {s : State} (r : Fault) : WithinNext m s (.fault r) := by
  intro t h; cases h

/-- An operation that answers a pair, taken apart. -/
theorem Within.ofSnd {α : Type} {v : Nat} {s t : State} {a : α} {x : α × State} (e : x = (a, t)) (h : Within v s x.2) :
    Within v s t := by
  subst e; exact h

theorem State.after_step {f : State → Host.Outcome State Fault Refusal} {m : Nat} {r s : State}
    (k : ∀ x, WithinNext m x (f x)) (h : Within m r s) : Within m r (s.after f) := by
  unfold State.after
  split
  · exact Within.step (k _ _ (by assumption)) (Nat.and_self m) h
  · exact h

/-- From a mask to the list of the fields named. -/
theorem Within.only {m : Nat} {ps : List Field} {s t : State} (h : Within m s t)
    (c : ∀ p : Field, m.testBit p.ctorIdx = true → p ∈ ps) : Only ps s t := by
  intro p
  rcases h p with h | h
  · exact .inl (c p h)
  · exact .inr h

theorem Within.upd_boot {m : Nat} {r s : State} {x0 : _} (c : 16777216 &&& m = 16777216) (h : Within m r s) :
    Within m r { s with boot := x0 } :=
  Within.step (v := 16777216) (fun p => by cases p <;> first | exact .inr rfl | exact .inl (by decide)) c h

theorem Within.upd_canvas {m : Nat} {r s : State} {x0 : _} (c : 8192 &&& m = 8192) (h : Within m r s) :
    Within m r { s with canvas := x0 } :=
  Within.step (v := 8192) (fun p => by cases p <;> first | exact .inr rfl | exact .inl (by decide)) c h

theorem Within.upd_clk {m : Nat} {r s : State} {x0 : _} (c : 1 &&& m = 1) (h : Within m r s) :
    Within m r { s with clk := x0 } :=
  Within.step (v := 1) (fun p => by cases p <;> first | exact .inr rfl | exact .inl (by decide)) c h

theorem Within.upd_cnt {m : Nat} {r s : State} {x0 : _} (c : 4 &&& m = 4) (h : Within m r s) :
    Within m r { s with cnt := x0 } :=
  Within.step (v := 4) (fun p => by cases p <;> first | exact .inr rfl | exact .inl (by decide)) c h

theorem Within.upd_dp {m : Nat} {r s : State} {x0 : _} (c : 16 &&& m = 16) (h : Within m r s) :
    Within m r { s with dp := x0 } :=
  Within.step (v := 16) (fun p => by cases p <;> first | exact .inr rfl | exact .inl (by decide)) c h

theorem Within.upd_evLost {m : Nat} {r s : State} {x0 : _} (c : 268435456 &&& m = 268435456) (h : Within m r s) :
    Within m r { s with evLost := x0 } :=
  Within.step (v := 268435456) (fun p => by cases p <;> first | exact .inr rfl | exact .inl (by decide)) c h

theorem Within.upd_evLostOff {m : Nat} {r s : State} {x0 : _} (c : 536870912 &&& m = 536870912) (h : Within m r s) :
    Within m r { s with evLostOff := x0 } :=
  Within.step (v := 536870912) (fun p => by cases p <;> first | exact .inr rfl | exact .inl (by decide)) c h

theorem Within.upd_evq {m : Nat} {r s : State} {x0 : _} (c : 134217728 &&& m = 134217728) (h : Within m r s) :
    Within m r { s with evq := x0 } :=
  Within.step (v := 134217728) (fun p => by cases p <;> first | exact .inr rfl | exact .inl (by decide)) c h

theorem Within.upd_free {m : Nat} {r s : State} {x0 : _} (c : 8589934592 &&& m = 8589934592) (h : Within m r s) :
    Within m r { s with free := x0 } :=
  Within.step (v := 8589934592) (fun p => by cases p <;> first | exact .inr rfl | exact .inl (by decide)) c h

theorem Within.upd_homes {m : Nat} {r s : State} {x0 : _} (c : 32768 &&& m = 32768) (h : Within m r s) :
    Within m r { s with homes := x0 } :=
  Within.step (v := 32768) (fun p => by cases p <;> first | exact .inr rfl | exact .inl (by decide)) c h

theorem Within.upd_host {m : Nat} {r s : State} {x0 : _} (c : 524288 &&& m = 524288) (h : Within m r s) :
    Within m r { s with host := x0 } :=
  Within.step (v := 524288) (fun p => by cases p <;> first | exact .inr rfl | exact .inl (by decide)) c h

theorem Within.upd_i3c {m : Nat} {r s : State} {x0 : _} (c : 33554432 &&& m = 33554432) (h : Within m r s) :
    Within m r { s with i3c := x0 } :=
  Within.step (v := 33554432) (fun p => by cases p <;> first | exact .inr rfl | exact .inl (by decide)) c h

theorem Within.upd_links {m : Nat} {r s : State} {x0 : _} (c : 256 &&& m = 256) (h : Within m r s) :
    Within m r { s with links := x0 } :=
  Within.step (v := 256) (fun p => by cases p <;> first | exact .inr rfl | exact .inl (by decide)) c h

theorem Within.upd_macs {m : Nat} {r s : State} {x0 : _} (c : 4194304 &&& m = 4194304) (h : Within m r s) :
    Within m r { s with macs := x0 } :=
  Within.step (v := 4194304) (fun p => by cases p <;> first | exact .inr rfl | exact .inl (by decide)) c h

theorem Within.upd_maint {m : Nat} {r s : State} {x0 : _} (c : 1048576 &&& m = 1048576) (h : Within m r s) :
    Within m r { s with maint := x0 } :=
  Within.step (v := 1048576) (fun p => by cases p <;> first | exact .inr rfl | exact .inl (by decide)) c h

theorem Within.upd_mem {m : Nat} {r s : State} {x0 : _} (c : 131072 &&& m = 131072) (h : Within m r s) :
    Within m r { s with mem := x0 } :=
  Within.step (v := 131072) (fun p => by cases p <;> first | exact .inr rfl | exact .inl (by decide)) c h

theorem Within.upd_optics {m : Nat} {r s : State} {x0 : _} (c : 4096 &&& m = 4096) (h : Within m r s) :
    Within m r { s with optics := x0 } :=
  Within.step (v := 4096) (fun p => by cases p <;> first | exact .inr rfl | exact .inl (by decide)) c h

theorem Within.upd_out {m : Nat} {r s : State} {x0 : _} (c : 4294967296 &&& m = 4294967296) (h : Within m r s) :
    Within m r { s with out := x0 } :=
  Within.step (v := 4294967296) (fun p => by cases p <;> first | exact .inr rfl | exact .inl (by decide)) c h

theorem Within.upd_pal {m : Nat} {r s : State} {x0 : _} (c : 16384 &&& m = 16384) (h : Within m r s) :
    Within m r { s with pal := x0 } :=
  Within.step (v := 16384) (fun p => by cases p <;> first | exact .inr rfl | exact .inl (by decide)) c h

theorem Within.upd_peers {m : Nat} {r s : State} {x0 : _} (c : 512 &&& m = 512) (h : Within m r s) :
    Within m r { s with peers := x0 } :=
  Within.step (v := 512) (fun p => by cases p <;> first | exact .inr rfl | exact .inl (by decide)) c h

theorem Within.upd_pending {m : Nat} {r s : State} {x0 : _} (c : 17179869184 &&& m = 17179869184) (h : Within m r s) :
    Within m r { s with pending := x0 } :=
  Within.step (v := 17179869184) (fun p => by cases p <;> first | exact .inr rfl | exact .inl (by decide)) c h

theorem Within.upd_planes {m : Nat} {r s : State} {x0 : _} (c : 1024 &&& m = 1024) (h : Within m r s) :
    Within m r { s with planes := x0 } :=
  Within.step (v := 1024) (fun p => by cases p <;> first | exact .inr rfl | exact .inl (by decide)) c h

theorem Within.upd_ports {m : Nat} {r s : State} {x0 : _} (c : 128 &&& m = 128) (h : Within m r s) :
    Within m r { s with ports := x0 } :=
  Within.step (v := 128) (fun p => by cases p <;> first | exact .inr rfl | exact .inl (by decide)) c h

theorem Within.upd_prism {m : Nat} {r s : State} {x0 : _} (c : 2048 &&& m = 2048) (h : Within m r s) :
    Within m r { s with prism := x0 } :=
  Within.step (v := 2048) (fun p => by cases p <;> first | exact .inr rfl | exact .inl (by decide)) c h

theorem Within.upd_pwr {m : Nat} {r s : State} {x0 : _} (c : 2097152 &&& m = 2097152) (h : Within m r s) :
    Within m r { s with pwr := x0 } :=
  Within.step (v := 2097152) (fun p => by cases p <;> first | exact .inr rfl | exact .inl (by decide)) c h

theorem Within.upd_regs {m : Nat} {r s : State} {x0 : _} (c : 2 &&& m = 2) (h : Within m r s) :
    Within m r { s with regs := x0 } :=
  Within.step (v := 2) (fun p => by cases p <;> first | exact .inr rfl | exact .inl (by decide)) c h

theorem Within.upd_req {m : Nat} {r s : State} {x0 : _} (c : 65536 &&& m = 65536) (h : Within m r s) :
    Within m r { s with req := x0 } :=
  Within.step (v := 65536) (fun p => by cases p <;> first | exact .inr rfl | exact .inl (by decide)) c h

theorem Within.upd_sched {m : Nat} {r s : State} {x0 : _} (c : 64 &&& m = 64) (h : Within m r s) :
    Within m r { s with sched := x0 } :=
  Within.step (v := 64) (fun p => by cases p <;> first | exact .inr rfl | exact .inl (by decide)) c h

theorem Within.upd_tab {m : Nat} {r s : State} {x0 : _} (c : 32 &&& m = 32) (h : Within m r s) :
    Within m r { s with tab := x0 } :=
  Within.step (v := 32) (fun p => by cases p <;> first | exact .inr rfl | exact .inl (by decide)) c h

theorem Within.upd_tel {m : Nat} {r s : State} {x0 : _} (c : 8388608 &&& m = 8388608) (h : Within m r s) :
    Within m r { s with tel := x0 } :=
  Within.step (v := 8388608) (fun p => by cases p <;> first | exact .inr rfl | exact .inl (by decide)) c h

theorem Within.upd_timing {m : Nat} {r s : State} {x0 : _} (c : 262144 &&& m = 262144) (h : Within m r s) :
    Within m r { s with timing := x0 } :=
  Within.step (v := 262144) (fun p => by cases p <;> first | exact .inr rfl | exact .inl (by decide)) c h

theorem Within.upd_wd {m : Nat} {r s : State} {x0 : _} (c : 67108864 &&& m = 67108864) (h : Within m r s) :
    Within m r { s with wd := x0 } :=
  Within.step (v := 67108864) (fun p => by cases p <;> first | exact .inr rfl | exact .inl (by decide)) c h

theorem Within.upd_xings {m : Nat} {r s : State} {x0 : _} (c : 1073741824 &&& m = 1073741824) (h : Within m r s) :
    Within m r { s with xings := x0 } :=
  Within.step (v := 1073741824) (fun p => by cases p <;> first | exact .inr rfl | exact .inl (by decide)) c h

theorem Within.upd_cnt_cyc {m : Nat} {r s : State} {x0 : _} {x1 : _} (c : 2147483652 &&& m = 2147483652) (h : Within m r s) :
    Within m r { s with cnt := x0, cyc := x1 } :=
  Within.step (v := 2147483652) (fun p => by cases p <;> first | exact .inr rfl | exact .inl (by decide)) c h

theorem Within.upd_cnt_evLost {m : Nat} {r s : State} {x0 : _} {x1 : _} (c : 268435460 &&& m = 268435460) (h : Within m r s) :
    Within m r { s with cnt := x0, evLost := x1 } :=
  Within.step (v := 268435460) (fun p => by cases p <;> first | exact .inr rfl | exact .inl (by decide)) c h

theorem Within.upd_cnt_evq {m : Nat} {r s : State} {x0 : _} {x1 : _} (c : 134217732 &&& m = 134217732) (h : Within m r s) :
    Within m r { s with cnt := x0, evq := x1 } :=
  Within.step (v := 134217732) (fun p => by cases p <;> first | exact .inr rfl | exact .inl (by decide)) c h

theorem Within.upd_cnt_out {m : Nat} {r s : State} {x0 : _} {x1 : _} (c : 4294967300 &&& m = 4294967300) (h : Within m r s) :
    Within m r { s with cnt := x0, out := x1 } :=
  Within.step (v := 4294967300) (fun p => by cases p <;> first | exact .inr rfl | exact .inl (by decide)) c h

theorem Within.upd_cnt_xings {m : Nat} {r s : State} {x0 : _} {x1 : _} (c : 1073741828 &&& m = 1073741828) (h : Within m r s) :
    Within m r { s with cnt := x0, xings := x1 } :=
  Within.step (v := 1073741828) (fun p => by cases p <;> first | exact .inr rfl | exact .inl (by decide)) c h

theorem Within.upd_dom_pwr {m : Nat} {r s : State} {x0 : _} {x1 : _} (c : 2097160 &&& m = 2097160) (h : Within m r s) :
    Within m r { s with dom := x0, pwr := x1 } :=
  Within.step (v := 2097160) (fun p => by cases p <;> first | exact .inr rfl | exact .inl (by decide)) c h

theorem Within.upd_dp_mem {m : Nat} {r s : State} {x0 : _} {x1 : _} (c : 131088 &&& m = 131088) (h : Within m r s) :
    Within m r { s with dp := x0, mem := x1 } :=
  Within.step (v := 131088) (fun p => by cases p <;> first | exact .inr rfl | exact .inl (by decide)) c h

theorem Within.upd_dp_prism {m : Nat} {r s : State} {x0 : _} {x1 : _} (c : 2064 &&& m = 2064) (h : Within m r s) :
    Within m r { s with dp := x0, prism := x1 } :=
  Within.step (v := 2064) (fun p => by cases p <;> first | exact .inr rfl | exact .inl (by decide)) c h

theorem Within.upd_dp_req {m : Nat} {r s : State} {x0 : _} {x1 : _} (c : 65552 &&& m = 65552) (h : Within m r s) :
    Within m r { s with dp := x0, req := x1 } :=
  Within.step (v := 65552) (fun p => by cases p <;> first | exact .inr rfl | exact .inl (by decide)) c h

theorem Within.upd_homes_mem {m : Nat} {r s : State} {x0 : _} {x1 : _} (c : 163840 &&& m = 163840) (h : Within m r s) :
    Within m r { s with homes := x0, mem := x1 } :=
  Within.step (v := 163840) (fun p => by cases p <;> first | exact .inr rfl | exact .inl (by decide)) c h

theorem Within.upd_host_out {m : Nat} {r s : State} {x0 : _} {x1 : _} (c : 4295491584 &&& m = 4295491584) (h : Within m r s) :
    Within m r { s with host := x0, out := x1 } :=
  Within.step (v := 4295491584) (fun p => by cases p <;> first | exact .inr rfl | exact .inl (by decide)) c h

theorem Within.upd_i3c_out {m : Nat} {r s : State} {x0 : _} {x1 : _} (c : 4328521728 &&& m = 4328521728) (h : Within m r s) :
    Within m r { s with i3c := x0, out := x1 } :=
  Within.step (v := 4328521728) (fun p => by cases p <;> first | exact .inr rfl | exact .inl (by decide)) c h

theorem Within.upd_peers_prism {m : Nat} {r s : State} {x0 : _} {x1 : _} (c : 2560 &&& m = 2560) (h : Within m r s) :
    Within m r { s with peers := x0, prism := x1 } :=
  Within.step (v := 2560) (fun p => by cases p <;> first | exact .inr rfl | exact .inl (by decide)) c h

theorem Within.upd_pwr_boot {m : Nat} {r s : State} {x0 : _} {x1 : _} (c : 18874368 &&& m = 18874368) (h : Within m r s) :
    Within m r { s with pwr := x0, boot := x1 } :=
  Within.step (v := 18874368) (fun p => by cases p <;> first | exact .inr rfl | exact .inl (by decide)) c h

theorem Within.upd_regs_cnt {m : Nat} {r s : State} {x0 : _} {x1 : _} (c : 6 &&& m = 6) (h : Within m r s) :
    Within m r { s with regs := x0, cnt := x1 } :=
  Within.step (v := 6) (fun p => by cases p <;> first | exact .inr rfl | exact .inl (by decide)) c h

theorem Within.upd_tab_prism {m : Nat} {r s : State} {x0 : _} {x1 : _} (c : 2080 &&& m = 2080) (h : Within m r s) :
    Within m r { s with tab := x0, prism := x1 } :=
  Within.step (v := 2080) (fun p => by cases p <;> first | exact .inr rfl | exact .inl (by decide)) c h

theorem Within.upd_dom_maint_boot {m : Nat} {r s : State} {x0 : _} {x1 : _} {x2 : _} (c : 17825800 &&& m = 17825800) (h : Within m r s) :
    Within m r { s with dom := x0, maint := x1, boot := x2 } :=
  Within.step (v := 17825800) (fun p => by cases p <;> first | exact .inr rfl | exact .inl (by decide)) c h

theorem Within.upd_dom_pwr_boot {m : Nat} {r s : State} {x0 : _} {x1 : _} {x2 : _} (c : 18874376 &&& m = 18874376) (h : Within m r s) :
    Within m r { s with dom := x0, pwr := x1, boot := x2 } :=
  Within.step (v := 18874376) (fun p => by cases p <;> first | exact .inr rfl | exact .inl (by decide)) c h

theorem Within.upd_prism_macs_tel {m : Nat} {r s : State} {x0 : _} {x1 : _} {x2 : _} (c : 12584960 &&& m = 12584960) (h : Within m r s) :
    Within m r { s with prism := x0, macs := x1, tel := x2 } :=
  Within.step (v := 12584960) (fun p => by cases p <;> first | exact .inr rfl | exact .inl (by decide)) c h

theorem Within.upd_sched_pal_tel {m : Nat} {r s : State} {x0 : _} {x1 : _} {x2 : _} (c : 8405056 &&& m = 8405056) (h : Within m r s) :
    Within m r { s with sched := x0, pal := x1, tel := x2 } :=
  Within.step (v := 8405056) (fun p => by cases p <;> first | exact .inr rfl | exact .inl (by decide)) c h

theorem Within.upd_dp_peers_planes_prism {m : Nat} {r s : State} {x0 : _} {x1 : _} {x2 : _} {x3 : _} (c : 3600 &&& m = 3600) (h : Within m r s) :
    Within m r { s with dp := x0, peers := x1, planes := x2, prism := x3 } :=
  Within.step (v := 3600) (fun p => by cases p <;> first | exact .inr rfl | exact .inl (by decide)) c h

theorem Within.upd_dp_tab_sched_canvas {m : Nat} {r s : State} {x0 : _} {x1 : _} {x2 : _} {x3 : _} (c : 8304 &&& m = 8304) (h : Within m r s) :
    Within m r { s with dp := x0, tab := x1, sched := x2, canvas := x3 } :=
  Within.step (v := 8304) (fun p => by cases p <;> first | exact .inr rfl | exact .inl (by decide)) c h

theorem Within.upd_clk_tab_prism_timing_tel {m : Nat} {r s : State} {x0 : _} {x1 : _} {x2 : _} {x3 : _} {x4 : _} (c : 8652833 &&& m = 8652833) (h : Within m r s) :
    Within m r { s with clk := x0, tab := x1, prism := x2, timing := x3, tel := x4 } :=
  Within.step (v := 8652833) (fun p => by cases p <;> first | exact .inr rfl | exact .inl (by decide)) c h

theorem Within.upd_dp_sched_ports_links_macs {m : Nat} {r s : State} {x0 : _} {x1 : _} {x2 : _} {x3 : _} {x4 : _} (c : 4194768 &&& m = 4194768) (h : Within m r s) :
    Within m r { s with dp := x0, sched := x1, ports := x2, links := x3, macs := x4 } :=
  Within.step (v := 4194768) (fun p => by cases p <;> first | exact .inr rfl | exact .inl (by decide)) c h

theorem Within.upd_many8 {m : Nat} {r s : State} {x0 : _} {x1 : _} {x2 : _} {x3 : _} {x4 : _} {x5 : _} {x6 : _} {x7 : _} (c : 965410816 &&& m = 965410816) (h : Within m r s) :
    Within m r { s with req := x0, mem := x1, host := x2, tel := x3, boot := x4, evq := x5, evLost := x6, evLostOff := x7 } :=
  Within.step (v := 965410816) (fun p => by cases p <;> first | exact .inr rfl | exact .inl (by decide)) c h

/-! ## A field outside the mask -/

theorem Within.same {m : Nat} {s t : State} (h : Within m s t) (p : Field) (c : m.testBit p.ctorIdx = false) : p.same s t :=
  (h p).resolve_left (by rw [c]; decide)

theorem Within.clk_eq {m : Nat} {s t : State} (h : Within m s t) (c : m.testBit 0 = false) : t.clk = s.clk := h.same .clk c
theorem Within.regs_eq {m : Nat} {s t : State} (h : Within m s t) (c : m.testBit 1 = false) : t.regs = s.regs := h.same .regs c
theorem Within.cnt_eq {m : Nat} {s t : State} (h : Within m s t) (c : m.testBit 2 = false) : t.cnt = s.cnt := h.same .cnt c
theorem Within.dom_eq {m : Nat} {s t : State} (h : Within m s t) (c : m.testBit 3 = false) : t.dom = s.dom := h.same .dom c
theorem Within.dp_eq {m : Nat} {s t : State} (h : Within m s t) (c : m.testBit 4 = false) : t.dp = s.dp := h.same .dp c
theorem Within.tab_eq {m : Nat} {s t : State} (h : Within m s t) (c : m.testBit 5 = false) : t.tab = s.tab := h.same .tab c
theorem Within.sched_eq {m : Nat} {s t : State} (h : Within m s t) (c : m.testBit 6 = false) : t.sched = s.sched := h.same .sched c
theorem Within.ports_eq {m : Nat} {s t : State} (h : Within m s t) (c : m.testBit 7 = false) : t.ports = s.ports := h.same .ports c
theorem Within.links_eq {m : Nat} {s t : State} (h : Within m s t) (c : m.testBit 8 = false) : t.links = s.links := h.same .links c
theorem Within.peers_eq {m : Nat} {s t : State} (h : Within m s t) (c : m.testBit 9 = false) : t.peers = s.peers := h.same .peers c
theorem Within.planes_eq {m : Nat} {s t : State} (h : Within m s t) (c : m.testBit 10 = false) : t.planes = s.planes := h.same .planes c
theorem Within.prism_eq {m : Nat} {s t : State} (h : Within m s t) (c : m.testBit 11 = false) : t.prism = s.prism := h.same .prism c
theorem Within.optics_eq {m : Nat} {s t : State} (h : Within m s t) (c : m.testBit 12 = false) : t.optics = s.optics := h.same .optics c
theorem Within.canvas_eq {m : Nat} {s t : State} (h : Within m s t) (c : m.testBit 13 = false) : t.canvas = s.canvas := h.same .canvas c
theorem Within.pal_eq {m : Nat} {s t : State} (h : Within m s t) (c : m.testBit 14 = false) : t.pal = s.pal := h.same .pal c
theorem Within.homes_eq {m : Nat} {s t : State} (h : Within m s t) (c : m.testBit 15 = false) : t.homes = s.homes := h.same .homes c
theorem Within.req_eq {m : Nat} {s t : State} (h : Within m s t) (c : m.testBit 16 = false) : t.req = s.req := h.same .req c
theorem Within.mem_eq {m : Nat} {s t : State} (h : Within m s t) (c : m.testBit 17 = false) : t.mem = s.mem := h.same .mem c
theorem Within.timing_eq {m : Nat} {s t : State} (h : Within m s t) (c : m.testBit 18 = false) : t.timing = s.timing := h.same .timing c
theorem Within.host_eq {m : Nat} {s t : State} (h : Within m s t) (c : m.testBit 19 = false) : t.host = s.host := h.same .host c
theorem Within.maint_eq {m : Nat} {s t : State} (h : Within m s t) (c : m.testBit 20 = false) : t.maint = s.maint := h.same .maint c
theorem Within.pwr_eq {m : Nat} {s t : State} (h : Within m s t) (c : m.testBit 21 = false) : t.pwr = s.pwr := h.same .pwr c
theorem Within.macs_eq {m : Nat} {s t : State} (h : Within m s t) (c : m.testBit 22 = false) : t.macs = s.macs := h.same .macs c
theorem Within.tel_eq {m : Nat} {s t : State} (h : Within m s t) (c : m.testBit 23 = false) : t.tel = s.tel := h.same .tel c
theorem Within.boot_eq {m : Nat} {s t : State} (h : Within m s t) (c : m.testBit 24 = false) : t.boot = s.boot := h.same .boot c
theorem Within.i3c_eq {m : Nat} {s t : State} (h : Within m s t) (c : m.testBit 25 = false) : t.i3c = s.i3c := h.same .i3c c
theorem Within.wd_eq {m : Nat} {s t : State} (h : Within m s t) (c : m.testBit 26 = false) : t.wd = s.wd := h.same .wd c
theorem Within.evq_eq {m : Nat} {s t : State} (h : Within m s t) (c : m.testBit 27 = false) : t.evq = s.evq := h.same .evq c
theorem Within.evLost_eq {m : Nat} {s t : State} (h : Within m s t) (c : m.testBit 28 = false) : t.evLost = s.evLost := h.same .evLost c
theorem Within.evLostOff_eq {m : Nat} {s t : State} (h : Within m s t) (c : m.testBit 29 = false) : t.evLostOff = s.evLostOff := h.same .evLostOff c
theorem Within.xings_eq {m : Nat} {s t : State} (h : Within m s t) (c : m.testBit 30 = false) : t.xings = s.xings := h.same .xings c
theorem Within.cyc_eq {m : Nat} {s t : State} (h : Within m s t) (c : m.testBit 31 = false) : t.cyc = s.cyc := h.same .cyc c
theorem Within.out_eq {m : Nat} {s t : State} (h : Within m s t) (c : m.testBit 32 = false) : t.out = s.out := h.same .out c
theorem Within.free_eq {m : Nat} {s t : State} (h : Within m s t) (c : m.testBit 33 = false) : t.free = s.free := h.same .free c
theorem Within.pending_eq {m : Nat} {s t : State} (h : Within m s t) (c : m.testBit 34 = false) : t.pending = s.pending := h.same .pending c

end Sys2Proof.Machine
end

