-- ==== Sys2Proof/Laws/FrameOps.lean ====
section
/-!
SUPPORT. Frames of the shared operations, packets, buffer, home agents and links: one lemma per operation and command, which parts of the state it can change.
-/

set_option linter.all false
namespace Sys2Proof.Machine

/-! ## Machine/Ops.lean -/

theorem State.bump_within : ∀ (s : State) a1 a2, Within 4 s (State.bump s a1 a2) := by
  intro s a1 a2
  unfold State.bump
  repeat' first
    | with_reducible exact Within.refl _ _
    | assumption
    | ((with_reducible apply Within.stepEach); intro _ _)
    | split
    | extract_lets
    | ((fail_if_success with_reducible apply Within.upd_pending); (with_reducible apply Within.upd_cnt); rfl)
    | with_reducible intro _
    | with_reducible show Within _ _ (ite _ _ _)
    | ((with_reducible show Within _ _ (id _)); exact Within.refl _ _)
    | dsimp +zetaDelta only
    | ((fail_if_success with_reducible apply Within.upd_pending); (with_reducible apply Within.upd_cnt); rfl)

theorem State.bump_step {a1 : _} {a2 : _} {m : Nat} {r s : State} (c : 4 &&& m = 4) (h : Within m r s) :
    Within m r (State.bump s a1 a2) := Within.step (State.bump_within s a1 a2) c h

theorem State.emit_within : ∀ (s : State) a1, Within 4294967296 s (State.emit s a1) := by
  intro s a1
  unfold State.emit
  repeat' first
    | with_reducible exact Within.refl _ _
    | assumption
    | ((with_reducible apply Within.stepEach); intro _ _)
    | split
    | extract_lets
    | ((fail_if_success with_reducible apply Within.upd_pending); (with_reducible apply Within.upd_out); rfl)
    | with_reducible intro _
    | with_reducible show Within _ _ (ite _ _ _)
    | ((with_reducible show Within _ _ (id _)); exact Within.refl _ _)
    | dsimp +zetaDelta only
    | ((fail_if_success with_reducible apply Within.upd_pending); (with_reducible apply Within.upd_out); rfl)

theorem State.emit_step {a1 : _} {m : Nat} {r s : State} (c : 4294967296 &&& m = 4294967296) (h : Within m r s) :
    Within m r (State.emit s a1) := Within.step (State.emit_within s a1) c h

theorem State.wr_within : ∀ (s : State) a1 a2, Within 2 s (State.wr s a1 a2) := by
  intro s a1 a2
  unfold State.wr
  repeat' first
    | with_reducible exact Within.refl _ _
    | assumption
    | ((with_reducible apply Within.stepEach); intro _ _)
    | split
    | extract_lets
    | ((fail_if_success with_reducible apply Within.upd_pending); (with_reducible apply Within.upd_regs); rfl)
    | with_reducible intro _
    | with_reducible show Within _ _ (ite _ _ _)
    | ((with_reducible show Within _ _ (id _)); exact Within.refl _ _)
    | dsimp +zetaDelta only
    | ((fail_if_success with_reducible apply Within.upd_pending); (with_reducible apply Within.upd_regs); rfl)

theorem State.wr_step {a1 : _} {a2 : _} {m : Nat} {r s : State} (c : 2 &&& m = 2) (h : Within m r s) :
    Within m r (State.wr s a1 a2) := Within.step (State.wr_within s a1 a2) c h

theorem State.setF_within : ∀ (s : State) a1 a2 a3 a4, Within 2 s (State.setF s a1 a2 a3 a4) := by
  intro s a1 a2 a3 a4
  unfold State.setF
  repeat' first
    | with_reducible exact Within.refl _ _
    | assumption
    | ((with_reducible apply State.wr_step); rfl)
    | ((with_reducible apply Within.stepEach); intro _ _)
    | split
    | extract_lets
    | with_reducible intro _
    | with_reducible show Within _ _ (ite _ _ _)
    | ((with_reducible show Within _ _ (id _)); exact Within.refl _ _)
    | dsimp +zetaDelta only

theorem State.setF_step {a1 : _} {a2 : _} {a3 : _} {a4 : _} {m : Nat} {r s : State} (c : 2 &&& m = 2) (h : Within m r s) :
    Within m r (State.setF s a1 a2 a3 a4) := Within.step (State.setF_within s a1 a2 a3 a4) c h

theorem State.raise_within : ∀ (s : State) a1, Within 939524100 s (State.raise s a1) := by
  intro s a1
  unfold State.raise
  repeat' first
    | with_reducible exact Within.refl _ _
    | assumption
    | ((with_reducible apply Within.stepEach); intro _ _)
    | split
    | extract_lets
    | ((fail_if_success with_reducible apply Within.upd_pending); (with_reducible apply Within.upd_evLostOff); rfl)
    | ((fail_if_success with_reducible apply Within.upd_pending); (with_reducible apply Within.upd_evq); rfl)
    | ((fail_if_success with_reducible apply Within.upd_pending); (with_reducible apply Within.upd_cnt_evLost); rfl)
    | ((fail_if_success with_reducible apply Within.upd_pending); (with_reducible apply Within.upd_cnt_evq); rfl)
    | with_reducible intro _
    | with_reducible show Within _ _ (ite _ _ _)
    | ((with_reducible show Within _ _ (id _)); exact Within.refl _ _)
    | dsimp +zetaDelta only
    | ((fail_if_success with_reducible apply Within.upd_pending); (with_reducible apply Within.upd_evLostOff); rfl)
    | ((fail_if_success with_reducible apply Within.upd_pending); (with_reducible apply Within.upd_evq); rfl)
    | ((fail_if_success with_reducible apply Within.upd_pending); (with_reducible apply Within.upd_cnt_evLost); rfl)
    | ((fail_if_success with_reducible apply Within.upd_pending); (with_reducible apply Within.upd_cnt_evq); rfl)

theorem State.raise_step {a1 : _} {m : Nat} {r s : State} (c : 939524100 &&& m = 939524100) (h : Within m r s) :
    Within m r (State.raise s a1) := Within.step (State.raise_within s a1) c h

theorem State.setPlane_within : ∀ (s : State) a1 a2, Within 1024 s (State.setPlane s a1 a2) := by
  intro s a1 a2
  unfold State.setPlane
  repeat' first
    | with_reducible exact Within.refl _ _
    | assumption
    | ((with_reducible apply Within.stepEach); intro _ _)
    | split
    | extract_lets
    | ((fail_if_success with_reducible apply Within.upd_pending); (with_reducible apply Within.upd_planes); rfl)
    | with_reducible intro _
    | with_reducible show Within _ _ (ite _ _ _)
    | ((with_reducible show Within _ _ (id _)); exact Within.refl _ _)
    | dsimp +zetaDelta only
    | ((fail_if_success with_reducible apply Within.upd_pending); (with_reducible apply Within.upd_planes); rfl)

theorem State.setPlane_step {a1 : _} {a2 : _} {m : Nat} {r s : State} (c : 1024 &&& m = 1024) (h : Within m r s) :
    Within m r (State.setPlane s a1 a2) := Within.step (State.setPlane_within s a1 a2) c h

theorem State.setLink_within : ∀ (s : State) a1 a2, Within 256 s (State.setLink s a1 a2) := by
  intro s a1 a2
  unfold State.setLink
  repeat' first
    | with_reducible exact Within.refl _ _
    | assumption
    | ((with_reducible apply Within.stepEach); intro _ _)
    | split
    | extract_lets
    | ((fail_if_success with_reducible apply Within.upd_pending); (with_reducible apply Within.upd_links); rfl)
    | with_reducible intro _
    | with_reducible show Within _ _ (ite _ _ _)
    | ((with_reducible show Within _ _ (id _)); exact Within.refl _ _)
    | dsimp +zetaDelta only
    | ((fail_if_success with_reducible apply Within.upd_pending); (with_reducible apply Within.upd_links); rfl)

theorem State.setLink_step {a1 : _} {a2 : _} {m : Nat} {r s : State} (c : 256 &&& m = 256) (h : Within m r s) :
    Within m r (State.setLink s a1 a2) := Within.step (State.setLink_within s a1 a2) c h

theorem State.setWaiting_within : ∀ (s : State) a1 a2, Within 16 s (State.setWaiting s a1 a2) := by
  intro s a1 a2
  unfold State.setWaiting
  repeat' first
    | with_reducible exact Within.refl _ _
    | assumption
    | ((with_reducible apply Within.stepEach); intro _ _)
    | split
    | extract_lets
    | ((fail_if_success with_reducible apply Within.upd_pending); (with_reducible apply Within.upd_dp); rfl)
    | with_reducible intro _
    | with_reducible show Within _ _ (ite _ _ _)
    | ((with_reducible show Within _ _ (id _)); exact Within.refl _ _)
    | dsimp +zetaDelta only
    | ((fail_if_success with_reducible apply Within.upd_pending); (with_reducible apply Within.upd_dp); rfl)

theorem State.setWaiting_step {a1 : _} {a2 : _} {m : Nat} {r s : State} (c : 16 &&& m = 16) (h : Within m r s) :
    Within m r (State.setWaiting s a1 a2) := Within.step (State.setWaiting_within s a1 a2) c h

theorem State.takeSeq_within : ∀ (s : State) a1 a2 a3, Within 16 s (State.takeSeq s a1 a2 a3) := by
  intro s a1 a2 a3
  unfold State.takeSeq
  repeat' first
    | with_reducible exact Within.refl _ _
    | assumption
    | ((with_reducible apply Within.stepEach); intro _ _)
    | split
    | extract_lets
    | ((fail_if_success with_reducible apply Within.upd_pending); (with_reducible apply Within.upd_dp); rfl)
    | with_reducible intro _
    | with_reducible show Within _ _ (ite _ _ _)
    | ((with_reducible show Within _ _ (id _)); exact Within.refl _ _)
    | dsimp +zetaDelta only
    | ((fail_if_success with_reducible apply Within.upd_pending); (with_reducible apply Within.upd_dp); rfl)

theorem State.takeSeq_step {a1 : _} {a2 : _} {a3 : _} {m : Nat} {r s : State} (c : 16 &&& m = 16) (h : Within m r s) :
    Within m r (State.takeSeq s a1 a2 a3) := Within.step (State.takeSeq_within s a1 a2 a3) c h

theorem State.setPort_within : ∀ (s : State) a1 a2, Within 128 s (State.setPort s a1 a2) := by
  intro s a1 a2
  unfold State.setPort
  repeat' first
    | with_reducible exact Within.refl _ _
    | assumption
    | ((with_reducible apply Within.stepEach); intro _ _)
    | split
    | extract_lets
    | ((fail_if_success with_reducible apply Within.upd_pending); (with_reducible apply Within.upd_ports); rfl)
    | with_reducible intro _
    | with_reducible show Within _ _ (ite _ _ _)
    | ((with_reducible show Within _ _ (id _)); exact Within.refl _ _)
    | dsimp +zetaDelta only
    | ((fail_if_success with_reducible apply Within.upd_pending); (with_reducible apply Within.upd_ports); rfl)

theorem State.setPort_step {a1 : _} {a2 : _} {m : Nat} {r s : State} (c : 128 &&& m = 128) (h : Within m r s) :
    Within m r (State.setPort s a1 a2) := Within.step (State.setPort_within s a1 a2) c h

theorem State.tick_within : ∀ (s : State), Within 8589934592 s (State.tick s) := by
  intro s
  unfold State.tick
  repeat' first
    | with_reducible exact Within.refl _ _
    | assumption
    | ((with_reducible apply Within.stepEach); intro _ _)
    | split
    | extract_lets
    | ((fail_if_success with_reducible apply Within.upd_pending); (with_reducible apply Within.upd_free); rfl)
    | with_reducible intro _
    | with_reducible show Within _ _ (ite _ _ _)
    | ((with_reducible show Within _ _ (id _)); exact Within.refl _ _)
    | dsimp +zetaDelta only
    | ((fail_if_success with_reducible apply Within.upd_pending); (with_reducible apply Within.upd_free); rfl)

theorem State.tick_step  {m : Nat} {r s : State} (c : 8589934592 &&& m = 8589934592) (h : Within m r s) :
    Within m r (State.tick s) := Within.step (State.tick_within s) c h

theorem State.setQueue_within : ∀ (s : State) a1 a2, Within 16 s (State.setQueue s a1 a2) := by
  intro s a1 a2
  unfold State.setQueue
  repeat' first
    | with_reducible exact Within.refl _ _
    | assumption
    | ((with_reducible apply Within.stepEach); intro _ _)
    | split
    | extract_lets
    | ((fail_if_success with_reducible apply Within.upd_pending); (with_reducible apply Within.upd_dp); rfl)
    | with_reducible intro _
    | with_reducible show Within _ _ (ite _ _ _)
    | ((with_reducible show Within _ _ (id _)); exact Within.refl _ _)
    | dsimp +zetaDelta only
    | ((fail_if_success with_reducible apply Within.upd_pending); (with_reducible apply Within.upd_dp); rfl)

theorem State.setQueue_step {a1 : _} {a2 : _} {m : Nat} {r s : State} (c : 16 &&& m = 16) (h : Within m r s) :
    Within m r (State.setQueue s a1 a2) := Within.step (State.setQueue_within s a1 a2) c h

theorem State.setPeer_within : ∀ (s : State) a1 a2, Within 512 s (State.setPeer s a1 a2) := by
  intro s a1 a2
  unfold State.setPeer
  repeat' first
    | with_reducible exact Within.refl _ _
    | assumption
    | ((with_reducible apply Within.stepEach); intro _ _)
    | split
    | extract_lets
    | ((fail_if_success with_reducible apply Within.upd_pending); (with_reducible apply Within.upd_peers); rfl)
    | with_reducible intro _
    | with_reducible show Within _ _ (ite _ _ _)
    | ((with_reducible show Within _ _ (id _)); exact Within.refl _ _)
    | dsimp +zetaDelta only
    | ((fail_if_success with_reducible apply Within.upd_pending); (with_reducible apply Within.upd_peers); rfl)

theorem State.setPeer_step {a1 : _} {a2 : _} {m : Nat} {r s : State} (c : 512 &&& m = 512) (h : Within m r s) :
    Within m r (State.setPeer s a1 a2) := Within.step (State.setPeer_within s a1 a2) c h

theorem State.alertStep_within : ∀ (s : State), Within 4328521728 s (State.alertStep s) := by
  intro s
  unfold State.alertStep
  repeat' first
    | with_reducible exact Within.refl _ _
    | assumption
    | ((with_reducible apply Within.stepEach); intro _ _)
    | split
    | extract_lets
    | ((fail_if_success with_reducible apply Within.upd_pending); (with_reducible apply Within.upd_i3c_out); rfl)
    | with_reducible intro _
    | with_reducible show Within _ _ (ite _ _ _)
    | ((with_reducible show Within _ _ (id _)); exact Within.refl _ _)
    | dsimp +zetaDelta only
    | ((fail_if_success with_reducible apply Within.upd_pending); (with_reducible apply Within.upd_i3c_out); rfl)

theorem State.alertStep_step  {m : Nat} {r s : State} (c : 4328521728 &&& m = 4328521728) (h : Within m r s) :
    Within m r (State.alertStep s) := Within.step (State.alertStep_within s) c h

theorem State.countCycles_within : ∀ (s : State) a1 a2 a3, Within 2147483652 s (State.countCycles s a1 a2 a3) := by
  intro s a1 a2 a3
  unfold State.countCycles
  repeat' first
    | with_reducible exact Within.refl _ _
    | assumption
    | ((with_reducible apply Within.stepEach); intro _ _)
    | split
    | extract_lets
    | ((fail_if_success with_reducible apply Within.upd_pending); (with_reducible apply Within.upd_cnt_cyc); rfl)
    | with_reducible intro _
    | with_reducible show Within _ _ (ite _ _ _)
    | ((with_reducible show Within _ _ (id _)); exact Within.refl _ _)
    | dsimp +zetaDelta only
    | ((fail_if_success with_reducible apply Within.upd_pending); (with_reducible apply Within.upd_cnt_cyc); rfl)

theorem State.countCycles_step {a1 : _} {a2 : _} {a3 : _} {m : Nat} {r s : State} (c : 2147483652 &&& m = 2147483652) (h : Within m r s) :
    Within m r (State.countCycles s a1 a2 a3) := Within.step (State.countCycles_within s a1 a2 a3) c h

theorem State.setXing_within : ∀ (s : State) a1 a2, Within 1073741824 s (State.setXing s a1 a2) := by
  intro s a1 a2
  unfold State.setXing
  repeat' first
    | with_reducible exact Within.refl _ _
    | assumption
    | ((with_reducible apply Within.stepEach); intro _ _)
    | split
    | extract_lets
    | ((fail_if_success with_reducible apply Within.upd_pending); (with_reducible apply Within.upd_xings); rfl)
    | with_reducible intro _
    | with_reducible show Within _ _ (ite _ _ _)
    | ((with_reducible show Within _ _ (id _)); exact Within.refl _ _)
    | dsimp +zetaDelta only
    | ((fail_if_success with_reducible apply Within.upd_pending); (with_reducible apply Within.upd_xings); rfl)

theorem State.setXing_step {a1 : _} {a2 : _} {m : Nat} {r s : State} (c : 1073741824 &&& m = 1073741824) (h : Within m r s) :
    Within m r (State.setXing s a1 a2) := Within.step (State.setXing_within s a1 a2) c h

theorem State.xShut_within : ∀ (s : State) a1, Within 1073741824 s (State.xShut s a1) := by
  intro s a1
  unfold State.xShut
  repeat' first
    | with_reducible exact Within.refl _ _
    | assumption
    | ((with_reducible apply State.setXing_step); rfl)
    | ((with_reducible apply Within.stepEach); intro _ _)
    | split
    | extract_lets
    | with_reducible intro _
    | with_reducible show Within _ _ (ite _ _ _)
    | ((with_reducible show Within _ _ (id _)); exact Within.refl _ _)
    | dsimp +zetaDelta only

theorem State.xShut_step {a1 : _} {m : Nat} {r s : State} (c : 1073741824 &&& m = 1073741824) (h : Within m r s) :
    Within m r (State.xShut s a1) := Within.step (State.xShut_within s a1) c h

theorem State.wrWords_within : ∀ (s : State) a1 a2, Within 2 s (State.wrWords s a1 a2) := by
  intro s a1 a2
  unfold State.wrWords
  repeat' first
    | with_reducible exact Within.refl _ _
    | assumption
    | ((with_reducible apply Within.stepEach); intro _ _)
    | split
    | extract_lets
    | ((fail_if_success with_reducible apply Within.upd_pending); (with_reducible apply Within.upd_regs); rfl)
    | with_reducible intro _
    | with_reducible show Within _ _ (ite _ _ _)
    | ((with_reducible show Within _ _ (id _)); exact Within.refl _ _)
    | dsimp +zetaDelta only
    | ((fail_if_success with_reducible apply Within.upd_pending); (with_reducible apply Within.upd_regs); rfl)

theorem State.wrWords_step {a1 : _} {a2 : _} {m : Nat} {r s : State} (c : 2 &&& m = 2) (h : Within m r s) :
    Within m r (State.wrWords s a1 a2) := Within.step (State.wrWords_within s a1 a2) c h

theorem State.countCycle_within : ∀ (s : State) a1, Within 2147483652 s (State.countCycle s a1) := by
  intro s a1
  unfold State.countCycle
  repeat' first
    | with_reducible exact Within.refl _ _
    | assumption
    | ((with_reducible apply State.countCycles_step); rfl)
    | ((with_reducible apply Within.stepEach); intro _ _)
    | split
    | extract_lets
    | with_reducible intro _
    | with_reducible show Within _ _ (ite _ _ _)
    | ((with_reducible show Within _ _ (id _)); exact Within.refl _ _)
    | dsimp +zetaDelta only

theorem State.countCycle_step {a1 : _} {m : Nat} {r s : State} (c : 2147483652 &&& m = 2147483652) (h : Within m r s) :
    Within m r (State.countCycle s a1) := Within.step (State.countCycle_within s a1) c h

theorem State.xAnnounce_within : ∀ (s : State) a1, Within 1073741824 s (State.xAnnounce s a1) := by
  intro s a1
  unfold State.xAnnounce
  repeat' first
    | with_reducible exact Within.refl _ _
    | assumption
    | ((with_reducible apply State.setXing_step); rfl)
    | ((with_reducible apply Within.stepEach); intro _ _)
    | split
    | extract_lets
    | with_reducible intro _
    | with_reducible show Within _ _ (ite _ _ _)
    | ((with_reducible show Within _ _ (id _)); exact Within.refl _ _)
    | dsimp +zetaDelta only

theorem State.xAnnounce_step {a1 : _} {m : Nat} {r s : State} (c : 1073741824 &&& m = 1073741824) (h : Within m r s) :
    Within m r (State.xAnnounce s a1) := Within.step (State.xAnnounce_within s a1) c h

theorem State.bumpPort_within : ∀ (s : State) a1 a2 a3, Within 4 s (State.bumpPort s a1 a2 a3) := by
  intro s a1 a2 a3
  unfold State.bumpPort
  repeat' first
    | with_reducible exact Within.refl _ _
    | assumption
    | ((with_reducible apply State.bump_step); rfl)
    | ((with_reducible apply Within.stepEach); intro _ _)
    | split
    | extract_lets
    | with_reducible intro _
    | with_reducible show Within _ _ (ite _ _ _)
    | ((with_reducible show Within _ _ (id _)); exact Within.refl _ _)
    | dsimp +zetaDelta only

theorem State.bumpPort_step {a1 : _} {a2 : _} {a3 : _} {m : Nat} {r s : State} (c : 4 &&& m = 4) (h : Within m r s) :
    Within m r (State.bumpPort s a1 a2 a3) := Within.step (State.bumpPort_within s a1 a2 a3) c h

theorem State.partErr_within : ∀ (s : State) a1 a2 a3 a4, Within 8388608 s (State.partErr s a1 a2 a3 a4) := by
  intro s a1 a2 a3 a4
  unfold State.partErr
  repeat' first
    | with_reducible exact Within.refl _ _
    | assumption
    | ((with_reducible apply Within.stepEach); intro _ _)
    | split
    | extract_lets
    | ((fail_if_success with_reducible apply Within.upd_pending); (with_reducible apply Within.upd_tel); rfl)
    | with_reducible intro _
    | with_reducible show Within _ _ (ite _ _ _)
    | ((with_reducible show Within _ _ (id _)); exact Within.refl _ _)
    | dsimp +zetaDelta only
    | ((fail_if_success with_reducible apply Within.upd_pending); (with_reducible apply Within.upd_tel); rfl)

theorem State.partErr_step {a1 : _} {a2 : _} {a3 : _} {a4 : _} {m : Nat} {r s : State} (c : 8388608 &&& m = 8388608) (h : Within m r s) :
    Within m r (State.partErr s a1 a2 a3 a4) := Within.step (State.partErr_within s a1 a2 a3 a4) c h

theorem State.xPass_within : ∀ (s : State) a1 a2, Within 1073741824 s (State.xPass s a1 a2) := by
  intro s a1 a2
  unfold State.xPass
  repeat' first
    | with_reducible exact Within.refl _ _
    | assumption
    | ((with_reducible apply State.setXing_step); rfl)
    | ((with_reducible apply Within.stepEach); intro _ _)
    | split
    | extract_lets
    | with_reducible intro _
    | with_reducible show Within _ _ (ite _ _ _)
    | ((with_reducible show Within _ _ (id _)); exact Within.refl _ _)
    | dsimp +zetaDelta only

theorem State.xPass_step {a1 : _} {a2 : _} {m : Nat} {r s : State} (c : 1073741824 &&& m = 1073741824) (h : Within m r s) :
    Within m r (State.xPass s a1 a2) := Within.step (State.xPass_within s a1 a2) c h

theorem State.store_within : ∀ (s : State) a1 a2, Within 2 s (State.store s a1 a2) := by
  intro s a1 a2
  unfold State.store
  repeat' first
    | with_reducible exact Within.refl _ _
    | assumption
    | ((with_reducible apply State.wr_step); rfl)
    | ((with_reducible apply Within.stepEach); intro _ _)
    | split
    | extract_lets
    | with_reducible intro _
    | with_reducible show Within _ _ (ite _ _ _)
    | ((with_reducible show Within _ _ (id _)); exact Within.refl _ _)
    | dsimp +zetaDelta only

theorem State.store_step {a1 : _} {a2 : _} {m : Nat} {r s : State} (c : 2 &&& m = 2) (h : Within m r s) :
    Within m r (State.store s a1 a2) := Within.step (State.store_within s a1 a2) c h

theorem State.setHq_within : ∀ (s : State) a1 a2, Within 16 s (State.setHq s a1 a2) := by
  intro s a1 a2
  unfold State.setHq
  repeat' first
    | with_reducible exact Within.refl _ _
    | assumption
    | ((with_reducible apply Within.stepEach); intro _ _)
    | split
    | extract_lets
    | ((fail_if_success with_reducible apply Within.upd_pending); (with_reducible apply Within.upd_dp); rfl)
    | with_reducible intro _
    | with_reducible show Within _ _ (ite _ _ _)
    | ((with_reducible show Within _ _ (id _)); exact Within.refl _ _)
    | dsimp +zetaDelta only
    | ((fail_if_success with_reducible apply Within.upd_pending); (with_reducible apply Within.upd_dp); rfl)

theorem State.setHq_step {a1 : _} {a2 : _} {m : Nat} {r s : State} (c : 16 &&& m = 16) (h : Within m r s) :
    Within m r (State.setHq s a1 a2) := Within.step (State.setHq_within s a1 a2) c h

theorem State.setRx_within : ∀ (s : State) a1 a2, Within 16 s (State.setRx s a1 a2) := by
  intro s a1 a2
  unfold State.setRx
  repeat' first
    | with_reducible exact Within.refl _ _
    | assumption
    | ((with_reducible apply Within.stepEach); intro _ _)
    | split
    | extract_lets
    | ((fail_if_success with_reducible apply Within.upd_pending); (with_reducible apply Within.upd_dp); rfl)
    | with_reducible intro _
    | with_reducible show Within _ _ (ite _ _ _)
    | ((with_reducible show Within _ _ (id _)); exact Within.refl _ _)
    | dsimp +zetaDelta only
    | ((fail_if_success with_reducible apply Within.upd_pending); (with_reducible apply Within.upd_dp); rfl)

theorem State.setRx_step {a1 : _} {a2 : _} {m : Nat} {r s : State} (c : 16 &&& m = 16) (h : Within m r s) :
    Within m r (State.setRx s a1 a2) := Within.step (State.setRx_within s a1 a2) c h


/-! ## Machine/Maint.lean -/

theorem State.maintEvent_within : ∀ (s : State) a1 a2, Within 939524100 s (State.maintEvent s a1 a2) := by
  intro s a1 a2
  unfold State.maintEvent
  repeat' first
    | with_reducible exact Within.refl _ _
    | assumption
    | ((with_reducible apply State.raise_step); rfl)
    | ((with_reducible apply Within.stepEach); intro _ _)
    | split
    | extract_lets
    | with_reducible intro _
    | with_reducible show Within _ _ (ite _ _ _)
    | ((with_reducible show Within _ _ (id _)); exact Within.refl _ _)
    | dsimp +zetaDelta only

theorem State.maintEvent_step {a1 : _} {a2 : _} {m : Nat} {r s : State} (c : 939524100 &&& m = 939524100) (h : Within m r s) :
    Within m r (State.maintEvent s a1 a2) := Within.step (State.maintEvent_within s a1 a2) c h

theorem State.endMaint_within : ∀ (s : State) a1 a2, Within 940572676 s (State.endMaint s a1 a2) := by
  intro s a1 a2
  unfold State.endMaint
  repeat' first
    | with_reducible exact Within.refl _ _
    | assumption
    | ((with_reducible apply State.maintEvent_step); rfl)
    | ((with_reducible apply Within.stepEach); intro _ _)
    | split
    | extract_lets
    | ((fail_if_success with_reducible apply Within.upd_pending); (with_reducible apply Within.upd_maint); rfl)
    | with_reducible intro _
    | with_reducible show Within _ _ (ite _ _ _)
    | ((with_reducible show Within _ _ (id _)); exact Within.refl _ _)
    | dsimp +zetaDelta only
    | ((fail_if_success with_reducible apply Within.upd_pending); (with_reducible apply Within.upd_maint); rfl)

theorem State.endMaint_step {a1 : _} {a2 : _} {m : Nat} {r s : State} (c : 940572676 &&& m = 940572676) (h : Within m r s) :
    Within m r (State.endMaint s a1 a2) := Within.step (State.endMaint_within s a1 a2) c h

theorem State.requestMaint_step {a : Activity} {f : State → State} {m : Nat} {r s : State} (c : 940572676 &&& m = 940572676)
    (k : ∀ x, Within m x (f x)) (h : Within m r s) : Within m r (s.requestMaint a f) := by
  refine Within.step (v := m) ?_ (Nat.and_self m) h
  unfold State.requestMaint
  repeat' first
    | with_reducible exact Within.refl _ _
    | assumption
    | (refine Within.step (k _) (Nat.and_self _) ?_)
    | ((with_reducible apply State.maintEvent_step); exact Within.covers (by decide) c)
    | split
    | extract_lets
    | ((with_reducible apply Within.upd_maint); exact Within.covers (by decide) c)


/-! ## Machine/Memory.lean -/

theorem State.setStack_within : ∀ (s : State) a1 a2, Within 2 s (State.setStack s a1 a2) := by
  intro s a1 a2
  unfold State.setStack
  repeat' first
    | with_reducible exact Within.refl _ _
    | assumption
    | ((with_reducible apply State.setF_step); rfl)
    | ((with_reducible apply Within.stepEach); intro _ _)
    | split
    | extract_lets
    | with_reducible intro _
    | with_reducible show Within _ _ (ite _ _ _)
    | ((with_reducible show Within _ _ (id _)); exact Within.refl _ _)
    | dsimp +zetaDelta only

theorem State.setStack_step {a1 : _} {a2 : _} {m : Nat} {r s : State} (c : 2 &&& m = 2) (h : Within m r s) :
    Within m r (State.setStack s a1 a2) := Within.step (State.setStack_within s a1 a2) c h

theorem State.setHome_within : ∀ (s : State) a1 a2, Within 32768 s (State.setHome s a1 a2) := by
  intro s a1 a2
  unfold State.setHome
  repeat' first
    | with_reducible exact Within.refl _ _
    | assumption
    | ((with_reducible apply Within.stepEach); intro _ _)
    | split
    | extract_lets
    | ((fail_if_success with_reducible apply Within.upd_pending); (with_reducible apply Within.upd_homes); rfl)
    | with_reducible intro _
    | with_reducible show Within _ _ (ite _ _ _)
    | ((with_reducible show Within _ _ (id _)); exact Within.refl _ _)
    | dsimp +zetaDelta only
    | ((fail_if_success with_reducible apply Within.upd_pending); (with_reducible apply Within.upd_homes); rfl)

theorem State.setHome_step {a1 : _} {a2 : _} {m : Nat} {r s : State} (c : 32768 &&& m = 32768) (h : Within m r s) :
    Within m r (State.setHome s a1 a2) := Within.step (State.setHome_within s a1 a2) c h

theorem State.writeBytes_within : ∀ (s : State) a1 a2, Within 163840 s (State.writeBytes s a1 a2) := by
  intro s a1 a2
  unfold State.writeBytes
  repeat' first
    | with_reducible exact Within.refl _ _
    | assumption
    | ((with_reducible apply State.setHome_step); rfl)
    | ((with_reducible apply Within.stepEach); intro _ _)
    | split
    | extract_lets
    | ((fail_if_success with_reducible apply Within.upd_pending); (with_reducible apply Within.upd_mem); rfl)
    | with_reducible intro _
    | with_reducible show Within _ _ (ite _ _ _)
    | ((with_reducible show Within _ _ (id _)); exact Within.refl _ _)
    | dsimp +zetaDelta only
    | ((fail_if_success with_reducible apply Within.upd_pending); (with_reducible apply Within.upd_mem); rfl)

theorem State.writeBytes_step {a1 : _} {a2 : _} {m : Nat} {r s : State} (c : 163840 &&& m = 163840) (h : Within m r s) :
    Within m r (State.writeBytes s a1 a2) := Within.step (State.writeBytes_within s a1 a2) c h

theorem State.setCxlSt_within : ∀ (s : State) a1 a2, Within 2 s (State.setCxlSt s a1 a2) := by
  intro s a1 a2
  unfold State.setCxlSt
  repeat' first
    | with_reducible exact Within.refl _ _
    | assumption
    | ((with_reducible apply State.setF_step); rfl)
    | ((with_reducible apply Within.stepEach); intro _ _)
    | split
    | extract_lets
    | with_reducible intro _
    | with_reducible show Within _ _ (ite _ _ _)
    | ((with_reducible show Within _ _ (id _)); exact Within.refl _ _)
    | dsimp +zetaDelta only

theorem State.setCxlSt_step {a1 : _} {a2 : _} {m : Nat} {r s : State} (c : 2 &&& m = 2) (h : Within m r s) :
    Within m r (State.setCxlSt s a1 a2) := Within.step (State.setCxlSt_within s a1 a2) c h

theorem State.setPage_within : ∀ (s : State) a1 a2, Within 131072 s (State.setPage s a1 a2) := by
  intro s a1 a2
  unfold State.setPage
  repeat' first
    | with_reducible exact Within.refl _ _
    | assumption
    | ((with_reducible apply Within.stepEach); intro _ _)
    | split
    | extract_lets
    | ((fail_if_success with_reducible apply Within.upd_pending); (with_reducible apply Within.upd_mem); rfl)
    | with_reducible intro _
    | with_reducible show Within _ _ (ite _ _ _)
    | ((with_reducible show Within _ _ (id _)); exact Within.refl _ _)
    | dsimp +zetaDelta only
    | ((fail_if_success with_reducible apply Within.upd_pending); (with_reducible apply Within.upd_mem); rfl)

theorem State.setPage_step {a1 : _} {a2 : _} {m : Nat} {r s : State} (c : 131072 &&& m = 131072) (h : Within m r s) :
    Within m r (State.setPage s a1 a2) := Within.step (State.setPage_within s a1 a2) c h

theorem State.heatPage_within : ∀ (s : State) a1 a2 a3 a4, Within 131072 s (State.heatPage s a1 a2 a3 a4) := by
  intro s a1 a2 a3 a4
  unfold State.heatPage
  repeat' first
    | with_reducible exact Within.refl _ _
    | assumption
    | ((with_reducible apply State.setPage_step); rfl)
    | ((with_reducible apply Within.stepEach); intro _ _)
    | split
    | extract_lets
    | with_reducible intro _
    | with_reducible show Within _ _ (ite _ _ _)
    | ((with_reducible show Within _ _ (id _)); exact Within.refl _ _)
    | dsimp +zetaDelta only

theorem State.heatPage_step {a1 : _} {a2 : _} {a3 : _} {a4 : _} {m : Nat} {r s : State} (c : 131072 &&& m = 131072) (h : Within m r s) :
    Within m r (State.heatPage s a1 a2 a3 a4) := Within.step (State.heatPage_within s a1 a2 a3 a4) c h

theorem State.cxlBytesCount_within : ∀ (s : State) a1 a2 a3 a4, Within 4 s (State.cxlBytesCount s a1 a2 a3 a4) := by
  intro s a1 a2 a3 a4
  unfold State.cxlBytesCount
  repeat' first
    | with_reducible exact Within.refl _ _
    | assumption
    | ((with_reducible apply State.bump_step); rfl)
    | ((with_reducible apply Within.stepEach); intro _ _)
    | split
    | extract_lets
    | with_reducible intro _
    | with_reducible show Within _ _ (ite _ _ _)
    | ((with_reducible show Within _ _ (id _)); exact Within.refl _ _)
    | dsimp +zetaDelta only

theorem State.cxlBytesCount_step {a1 : _} {a2 : _} {a3 : _} {a4 : _} {m : Nat} {r s : State} (c : 4 &&& m = 4) (h : Within m r s) :
    Within m r (State.cxlBytesCount s a1 a2 a3 a4) := Within.step (State.cxlBytesCount_within s a1 a2 a3 a4) c h

theorem State.placement_within : ∀ (s : State) a1 a2, Within 939655172 s (State.placement s a1 a2) := by
  intro s a1 a2
  unfold State.placement
  repeat' first
    | with_reducible exact Within.refl _ _
    | assumption
    | ((with_reducible apply State.raise_step); rfl)
    | ((with_reducible apply Within.stepEach); intro _ _)
    | split
    | extract_lets
    | ((fail_if_success with_reducible apply Within.upd_pending); (with_reducible apply Within.upd_mem); rfl)
    | with_reducible intro _
    | with_reducible show Within _ _ (ite _ _ _)
    | ((with_reducible show Within _ _ (id _)); exact Within.refl _ _)
    | dsimp +zetaDelta only
    | ((fail_if_success with_reducible apply Within.upd_pending); (with_reducible apply Within.upd_mem); rfl)

theorem State.placement_step {a1 : _} {a2 : _} {m : Nat} {r s : State} (c : 939655172 &&& m = 939655172) (h : Within m r s) :
    Within m r (State.placement s a1 a2) := Within.step (State.placement_within s a1 a2) c h

theorem State.zeroRange_within : ∀ (s : State) a1 a2, Within 163840 s (State.zeroRange s a1 a2) := by
  intro s a1 a2
  unfold State.zeroRange
  repeat' first
    | with_reducible exact Within.refl _ _
    | assumption
    | ((with_reducible apply State.setHome_step); rfl)
    | ((with_reducible apply Within.stepEach); intro _ _)
    | split
    | extract_lets
    | ((fail_if_success with_reducible apply Within.upd_pending); (with_reducible apply Within.upd_mem); rfl)
    | with_reducible intro _
    | with_reducible show Within _ _ (ite _ _ _)
    | ((with_reducible show Within _ _ (id _)); exact Within.refl _ _)
    | dsimp +zetaDelta only
    | ((fail_if_success with_reducible apply Within.upd_pending); (with_reducible apply Within.upd_mem); rfl)

theorem State.zeroRange_step {a1 : _} {a2 : _} {m : Nat} {r s : State} (c : 163840 &&& m = 163840) (h : Within m r s) :
    Within m r (State.zeroRange s a1 a2) := Within.step (State.zeroRange_within s a1 a2) c h


/-! ## Machine/HostOps.lean -/

theorem State.hostWrites_within : ∀ (s : State) a1, Within 4295491584 s (State.hostWrites s a1) := by
  intro s a1
  unfold State.hostWrites
  repeat' first
    | with_reducible exact Within.refl _ _
    | assumption
    | ((with_reducible apply Within.stepEach); intro _ _)
    | split
    | extract_lets
    | ((fail_if_success with_reducible apply Within.upd_pending); (with_reducible apply Within.upd_host); rfl)
    | ((fail_if_success with_reducible apply Within.upd_pending); (with_reducible apply Within.upd_out); rfl)
    | with_reducible intro _
    | with_reducible show Within _ _ (ite _ _ _)
    | ((with_reducible show Within _ _ (id _)); exact Within.refl _ _)
    | dsimp +zetaDelta only
    | ((fail_if_success with_reducible apply Within.upd_pending); (with_reducible apply Within.upd_host); rfl)
    | ((fail_if_success with_reducible apply Within.upd_pending); (with_reducible apply Within.upd_out); rfl)

theorem State.hostWrites_step {a1 : _} {m : Nat} {r s : State} (c : 4295491584 &&& m = 4295491584) (h : Within m r s) :
    Within m r (State.hostWrites s a1) := Within.step (State.hostWrites_within s a1) c h

theorem State.setRing_within : ∀ (s : State) a1 a2, Within 524288 s (State.setRing s a1 a2) := by
  intro s a1 a2
  unfold State.setRing
  repeat' first
    | with_reducible exact Within.refl _ _
    | assumption
    | ((with_reducible apply Within.stepEach); intro _ _)
    | split
    | extract_lets
    | ((fail_if_success with_reducible apply Within.upd_pending); (with_reducible apply Within.upd_host); rfl)
    | with_reducible intro _
    | with_reducible show Within _ _ (ite _ _ _)
    | ((with_reducible show Within _ _ (id _)); exact Within.refl _ _)
    | dsimp +zetaDelta only
    | ((fail_if_success with_reducible apply Within.upd_pending); (with_reducible apply Within.upd_host); rfl)

theorem State.setRing_step {a1 : _} {a2 : _} {m : Nat} {r s : State} (c : 524288 &&& m = 524288) (h : Within m r s) :
    Within m r (State.setRing s a1 a2) := Within.step (State.setRing_within s a1 a2) c h

theorem State.ringWrites_within : ∀ (s : State) a1 a2, Within 4295491584 s (State.ringWrites s a1 a2) := by
  intro s a1 a2
  unfold State.ringWrites
  repeat' first
    | with_reducible exact Within.refl _ _
    | assumption
    | ((with_reducible apply State.hostWrites_step); rfl)
    | ((with_reducible apply State.setRing_step); rfl)
    | ((with_reducible apply Within.stepEach); intro _ _)
    | split
    | extract_lets
    | with_reducible intro _
    | with_reducible show Within _ _ (ite _ _ _)
    | ((with_reducible show Within _ _ (id _)); exact Within.refl _ _)
    | dsimp +zetaDelta only

theorem State.ringWrites_step {a1 : _} {a2 : _} {m : Nat} {r s : State} (c : 4295491584 &&& m = 4295491584) (h : Within m r s) :
    Within m r (State.ringWrites s a1 a2) := Within.step (State.ringWrites_within s a1 a2) c h

theorem State.finishDesc_within : ∀ (s : State) a1 a2, Within 524292 s (State.finishDesc s a1 a2).1 := by
  intro s a1 a2
  unfold State.finishDesc
  repeat' first
    | with_reducible exact Within.refl _ _
    | assumption
    | ((with_reducible apply State.bump_step); rfl)
    | ((with_reducible apply State.setRing_step); rfl)
    | ((with_reducible apply Within.stepEach); intro _ _)
    | split
    | extract_lets
    | with_reducible intro _
    | with_reducible show Within _ _ (ite _ _ _)
    | ((with_reducible show Within _ _ (id _)); exact Within.refl _ _)
    | dsimp +zetaDelta only

theorem State.finishDesc_step {a1 : _} {a2 : _} {m : Nat} {r s : State} (c : 524292 &&& m = 524292) (h : Within m r s) :
    Within m r (State.finishDesc s a1 a2).1 := Within.step (State.finishDesc_within s a1 a2) c h

theorem State.addRecord_within : ∀ (s : State) a1 a2, Within 524288 s (State.addRecord s a1 a2).1 := by
  intro s a1 a2
  unfold State.addRecord
  repeat' first
    | with_reducible exact Within.refl _ _
    | assumption
    | ((with_reducible apply State.setRing_step); rfl)
    | ((with_reducible apply Within.stepEach); intro _ _)
    | split
    | extract_lets
    | with_reducible intro _
    | with_reducible show Within _ _ (ite _ _ _)
    | ((with_reducible show Within _ _ (id _)); exact Within.refl _ _)
    | dsimp +zetaDelta only

theorem State.addRecord_step {a1 : _} {a2 : _} {m : Nat} {r s : State} (c : 524288 &&& m = 524288) (h : Within m r s) :
    Within m r (State.addRecord s a1 a2).1 := Within.step (State.addRecord_within s a1 a2) c h

theorem State.closeDesc_within : ∀ (s : State) a1 a2 a3, Within 4295491588 s (State.closeDesc s a1 a2 a3) := by
  intro s a1 a2 a3
  unfold State.closeDesc
  repeat' first
    | with_reducible exact Within.refl _ _
    | assumption
    | ((with_reducible apply State.ringWrites_step); rfl)
    | ((with_reducible apply State.finishDesc_step); rfl)
    | ((with_reducible apply State.addRecord_step); rfl)
    | ((with_reducible apply Within.stepEach); intro _ _)
    | split
    | extract_lets
    | with_reducible intro _
    | with_reducible show Within _ _ (ite _ _ _)
    | ((with_reducible show Within _ _ (id _)); exact Within.refl _ _)
    | dsimp +zetaDelta only

theorem State.closeDesc_step {a1 : _} {a2 : _} {a3 : _} {m : Nat} {r s : State} (c : 4295491588 &&& m = 4295491588) (h : Within m r s) :
    Within m r (State.closeDesc s a1 a2 a3) := Within.step (State.closeDesc_within s a1 a2 a3) c h

theorem State.endDesc_within : ∀ (s : State) a1 a2 a3 a4 a5 a6 a7, Within 4295491588 s (State.endDesc s a1 a2 a3 a4 a5 a6 a7) := by
  intro s a1 a2 a3 a4 a5 a6 a7
  unfold State.endDesc
  repeat' first
    | with_reducible exact Within.refl _ _
    | assumption
    | ((with_reducible apply State.closeDesc_step); rfl)
    | ((with_reducible apply Within.stepEach); intro _ _)
    | split
    | extract_lets
    | with_reducible intro _
    | with_reducible show Within _ _ (ite _ _ _)
    | ((with_reducible show Within _ _ (id _)); exact Within.refl _ _)
    | dsimp +zetaDelta only

theorem State.endDesc_step {a1 : _} {a2 : _} {a3 : _} {a4 : _} {a5 : _} {a6 : _} {a7 : _} {m : Nat} {r s : State} (c : 4295491588 &&& m = 4295491588) (h : Within m r s) :
    Within m r (State.endDesc s a1 a2 a3 a4 a5 a6 a7) := Within.step (State.endDesc_within s a1 a2 a3 a4 a5 a6 a7) c h

theorem State.txDone_within : ∀ (s : State) a1 a2, Within 4295491588 s (State.txDone s a1 a2) := by
  intro s a1 a2
  unfold State.txDone
  repeat' first
    | with_reducible exact Within.refl _ _
    | assumption
    | ((with_reducible apply State.endDesc_step); rfl)
    | ((with_reducible apply Within.stepEach); intro _ _)
    | split
    | extract_lets
    | ((fail_if_success with_reducible apply Within.upd_pending); (with_reducible apply Within.upd_host); rfl)
    | with_reducible intro _
    | with_reducible show Within _ _ (ite _ _ _)
    | ((with_reducible show Within _ _ (id _)); exact Within.refl _ _)
    | dsimp +zetaDelta only
    | ((fail_if_success with_reducible apply Within.upd_pending); (with_reducible apply Within.upd_host); rfl)

theorem State.txDone_step {a1 : _} {a2 : _} {m : Nat} {r s : State} (c : 4295491588 &&& m = 4295491588) (h : Within m r s) :
    Within m r (State.txDone s a1 a2) := Within.step (State.txDone_within s a1 a2) c h

theorem State.hostRead_within : ∀ (s : State) a1 a2 a3, Within 4295491584 s (State.hostRead s a1 a2 a3) := by
  intro s a1 a2 a3
  unfold State.hostRead
  repeat' first
    | with_reducible exact Within.refl _ _
    | assumption
    | ((with_reducible apply Within.stepEach); intro _ _)
    | split
    | extract_lets
    | ((fail_if_success with_reducible apply Within.upd_pending); (with_reducible apply Within.upd_host_out); rfl)
    | with_reducible intro _
    | with_reducible show Within _ _ (ite _ _ _)
    | ((with_reducible show Within _ _ (id _)); exact Within.refl _ _)
    | dsimp +zetaDelta only
    | ((fail_if_success with_reducible apply Within.upd_pending); (with_reducible apply Within.upd_host_out); rfl)

theorem State.hostRead_step {a1 : _} {a2 : _} {a3 : _} {m : Nat} {r s : State} (c : 4295491584 &&& m = 4295491584) (h : Within m r s) :
    Within m r (State.hostRead s a1 a2 a3) := Within.step (State.hostRead_within s a1 a2 a3) c h

theorem State.capture_within : ∀ (s : State) a1 a2, Within 4295491588 s (State.capture s a1 a2) := by
  intro s a1 a2
  unfold State.capture
  repeat' first
    | with_reducible exact Within.refl _ _
    | assumption
    | ((with_reducible apply State.bump_step); rfl)
    | ((with_reducible apply State.closeDesc_step); rfl)
    | ((with_reducible apply State.hostWrites_step); rfl)
    | ((with_reducible apply Within.stepEach); intro _ _)
    | split
    | extract_lets
    | ((fail_if_success with_reducible apply Within.upd_pending); (with_reducible apply Within.upd_host); rfl)
    | with_reducible intro _
    | with_reducible show Within _ _ (ite _ _ _)
    | ((with_reducible show Within _ _ (id _)); exact Within.refl _ _)
    | dsimp +zetaDelta only
    | ((fail_if_success with_reducible apply Within.upd_pending); (with_reducible apply Within.upd_host); rfl)

theorem State.capture_step {a1 : _} {a2 : _} {m : Nat} {r s : State} (c : 4295491588 &&& m = 4295491588) (h : Within m r s) :
    Within m r (State.capture s a1 a2) := Within.step (State.capture_within s a1 a2) c h

theorem State.complete_within : ∀ (s : State) a1 a2, Within 4295491584 s (State.complete s a1 a2) := by
  intro s a1 a2
  unfold State.complete
  repeat' first
    | with_reducible exact Within.refl _ _
    | assumption
    | ((with_reducible apply State.ringWrites_step); rfl)
    | ((with_reducible apply State.addRecord_step); rfl)
    | ((with_reducible apply Within.stepEach); intro _ _)
    | split
    | extract_lets
    | with_reducible intro _
    | with_reducible show Within _ _ (ite _ _ _)
    | ((with_reducible show Within _ _ (id _)); exact Within.refl _ _)
    | dsimp +zetaDelta only

theorem State.complete_step {a1 : _} {a2 : _} {m : Nat} {r s : State} (c : 4295491584 &&& m = 4295491584) (h : Within m r s) :
    Within m r (State.complete s a1 a2) := Within.step (State.complete_within s a1 a2) c h

theorem State.pageCause_within : ∀ (s : State), Within 4295491588 s (State.pageCause s) := by
  intro s
  unfold State.pageCause
  repeat' first
    | with_reducible exact Within.refl _ _
    | assumption
    | ((with_reducible apply State.bump_step); rfl)
    | ((with_reducible apply State.hostRead_step); rfl)
    | ((with_reducible apply Within.stepEach); intro _ _)
    | split
    | extract_lets
    | ((fail_if_success with_reducible apply Within.upd_pending); (with_reducible apply Within.upd_host); rfl)
    | with_reducible intro _
    | with_reducible show Within _ _ (ite _ _ _)
    | ((with_reducible show Within _ _ (id _)); exact Within.refl _ _)
    | dsimp +zetaDelta only
    | ((fail_if_success with_reducible apply Within.upd_pending); (with_reducible apply Within.upd_host); rfl)

theorem State.pageCause_step  {m : Nat} {r s : State} (c : 4295491588 &&& m = 4295491588) (h : Within m r s) :
    Within m r (State.pageCause s) := Within.step (State.pageCause_within s) c h


/-! ## Machine/Buffer.lean -/

theorem State.returnCredits_within : ∀ (s : State) a1 a2 a3, Within 256 s (State.returnCredits s a1 a2 a3) := by
  intro s a1 a2 a3
  unfold State.returnCredits
  repeat' first
    | with_reducible exact Within.refl _ _
    | assumption
    | ((with_reducible apply State.setLink_step); rfl)
    | ((with_reducible apply Within.stepEach); intro _ _)
    | split
    | extract_lets
    | with_reducible intro _
    | with_reducible show Within _ _ (ite _ _ _)
    | ((with_reducible show Within _ _ (id _)); exact Within.refl _ _)
    | dsimp +zetaDelta only

theorem State.returnCredits_step {a1 : _} {a2 : _} {a3 : _} {m : Nat} {r s : State} (c : 256 &&& m = 256) (h : Within m r s) :
    Within m r (State.returnCredits s a1 a2 a3) := Within.step (State.returnCredits_within s a1 a2 a3) c h

theorem State.setBankQ_within : ∀ (s : State) a1 a2, Within 16 s (State.setBankQ s a1 a2) := by
  intro s a1 a2
  unfold State.setBankQ
  repeat' first
    | with_reducible exact Within.refl _ _
    | assumption
    | ((with_reducible apply Within.stepEach); intro _ _)
    | split
    | extract_lets
    | ((fail_if_success with_reducible apply Within.upd_pending); (with_reducible apply Within.upd_dp); rfl)
    | with_reducible intro _
    | with_reducible show Within _ _ (ite _ _ _)
    | ((with_reducible show Within _ _ (id _)); exact Within.refl _ _)
    | dsimp +zetaDelta only
    | ((fail_if_success with_reducible apply Within.upd_pending); (with_reducible apply Within.upd_dp); rfl)

theorem State.setBankQ_step {a1 : _} {a2 : _} {m : Nat} {r s : State} (c : 16 &&& m = 16) (h : Within m r s) :
    Within m r (State.setBankQ s a1 a2) := Within.step (State.setBankQ_within s a1 a2) c h

theorem State.oweCredits_within : ∀ (s : State) a1 a2, Within 16 s (State.oweCredits s a1 a2) := by
  intro s a1 a2
  unfold State.oweCredits
  repeat' first
    | with_reducible exact Within.refl _ _
    | assumption
    | ((with_reducible apply State.setBankQ_step); rfl)
    | ((with_reducible apply Within.stepEach); intro _ _)
    | split
    | extract_lets
    | with_reducible intro _
    | with_reducible show Within _ _ (ite _ _ _)
    | ((with_reducible show Within _ _ (id _)); exact Within.refl _ _)
    | dsimp +zetaDelta only

theorem State.oweCredits_step {a1 : _} {a2 : _} {m : Nat} {r s : State} (c : 16 &&& m = 16) (h : Within m r s) :
    Within m r (State.oweCredits s a1 a2) := Within.step (State.oweCredits_within s a1 a2) c h

theorem State.freeItem_within : ∀ (s : State) a1 a2, Within 272 s (State.freeItem s a1 a2) := by
  intro s a1 a2
  unfold State.freeItem
  repeat' first
    | with_reducible exact Within.refl _ _
    | assumption
    | ((with_reducible apply State.returnCredits_step); rfl)
    | ((with_reducible apply State.oweCredits_step); rfl)
    | ((with_reducible apply Within.stepEach); intro _ _)
    | split
    | extract_lets
    | ((fail_if_success with_reducible apply Within.upd_pending); (with_reducible apply Within.upd_dp); rfl)
    | with_reducible intro _
    | with_reducible show Within _ _ (ite _ _ _)
    | ((with_reducible show Within _ _ (id _)); exact Within.refl _ _)
    | dsimp +zetaDelta only
    | ((fail_if_success with_reducible apply Within.upd_pending); (with_reducible apply Within.upd_dp); rfl)

theorem State.freeItem_step {a1 : _} {a2 : _} {m : Nat} {r s : State} (c : 272 &&& m = 272) (h : Within m r s) :
    Within m r (State.freeItem s a1 a2) := Within.step (State.freeItem_within s a1 a2) c h

theorem State.leaveCharge_within : ∀ (s : State) a1, Within 272 s (State.leaveCharge s a1) := by
  intro s a1
  unfold State.leaveCharge
  repeat' first
    | with_reducible exact Within.refl _ _
    | assumption
    | ((with_reducible apply State.freeItem_step); rfl)
    | ((with_reducible apply Within.stepEach); intro _ _)
    | split
    | extract_lets
    | with_reducible intro _
    | with_reducible show Within _ _ (ite _ _ _)
    | ((with_reducible show Within _ _ (id _)); exact Within.refl _ _)
    | dsimp +zetaDelta only

theorem State.leaveCharge_step {a1 : _} {m : Nat} {r s : State} (c : 272 &&& m = 272) (h : Within m r s) :
    Within m r (State.leaveCharge s a1) := Within.step (State.leaveCharge_within s a1) c h

theorem State.place_within : ∀ (s : State) a1 a2 a3, Within 272 s (State.place s a1 a2 a3) := by
  intro s a1 a2 a3
  unfold State.place
  repeat' first
    | with_reducible exact Within.refl _ _
    | assumption
    | ((with_reducible apply State.leaveCharge_step); rfl)
    | ((with_reducible apply Within.stepEach); intro _ _)
    | split
    | extract_lets
    | ((fail_if_success with_reducible apply Within.upd_pending); (with_reducible apply Within.upd_dp); rfl)
    | with_reducible intro _
    | with_reducible show Within _ _ (ite _ _ _)
    | ((with_reducible show Within _ _ (id _)); exact Within.refl _ _)
    | dsimp +zetaDelta only
    | ((fail_if_success with_reducible apply Within.upd_pending); (with_reducible apply Within.upd_dp); rfl)

theorem State.place_step {a1 : _} {a2 : _} {a3 : _} {m : Nat} {r s : State} (c : 272 &&& m = 272) (h : Within m r s) :
    Within m r (State.place s a1 a2 a3) := Within.step (State.place_within s a1 a2 a3) c h

theorem State.bankLeave_within : ∀ (s : State) a1 a2, Within 272 s (State.bankLeave s a1 a2) := by
  intro s a1 a2
  unfold State.bankLeave
  repeat' first
    | with_reducible exact Within.refl _ _
    | assumption
    | ((with_reducible apply State.setBankQ_step); rfl)
    | ((with_reducible apply State.returnCredits_step); rfl)
    | ((with_reducible apply Within.stepEach); intro _ _)
    | split
    | extract_lets
    | ((fail_if_success with_reducible apply Within.upd_pending); (with_reducible apply Within.upd_dp); rfl)
    | with_reducible intro _
    | with_reducible show Within _ _ (ite _ _ _)
    | ((with_reducible show Within _ _ (id _)); exact Within.refl _ _)
    | dsimp +zetaDelta only
    | ((fail_if_success with_reducible apply Within.upd_pending); (with_reducible apply Within.upd_dp); rfl)

theorem State.bankLeave_step {a1 : _} {a2 : _} {m : Nat} {r s : State} (c : 272 &&& m = 272) (h : Within m r s) :
    Within m r (State.bankLeave s a1 a2) := Within.step (State.bankLeave_within s a1 a2) c h

theorem State.countDrop_within : ∀ (s : State) a1 a2, Within 4 s (State.countDrop s a1 a2) := by
  intro s a1 a2
  unfold State.countDrop
  repeat' first
    | with_reducible exact Within.refl _ _
    | assumption
    | ((with_reducible apply Within.stepEach); intro _ _)
    | split
    | extract_lets
    | ((fail_if_success with_reducible apply Within.upd_pending); (with_reducible apply Within.upd_cnt); rfl)
    | with_reducible intro _
    | with_reducible show Within _ _ (ite _ _ _)
    | ((with_reducible show Within _ _ (id _)); exact Within.refl _ _)
    | dsimp +zetaDelta only
    | ((fail_if_success with_reducible apply Within.upd_pending); (with_reducible apply Within.upd_cnt); rfl)

theorem State.countDrop_step {a1 : _} {a2 : _} {m : Nat} {r s : State} (c : 4 &&& m = 4) (h : Within m r s) :
    Within m r (State.countDrop s a1 a2) := Within.step (State.countDrop_within s a1 a2) c h

theorem State.dropItem_within : ∀ (s : State) a1 a2 a3, Within 4295491860 s (State.dropItem s a1 a2 a3) := by
  intro s a1 a2 a3
  unfold State.dropItem
  repeat' first
    | with_reducible exact Within.refl _ _
    | assumption
    | ((with_reducible apply State.bankLeave_step); rfl)
    | ((with_reducible apply State.txDone_step); rfl)
    | ((with_reducible apply State.countDrop_step); rfl)
    | ((with_reducible apply State.freeItem_step); rfl)
    | ((with_reducible apply Within.stepEach); intro _ _)
    | split
    | extract_lets
    | ((fail_if_success with_reducible apply Within.upd_pending); (with_reducible apply Within.upd_dp); rfl)
    | with_reducible intro _
    | with_reducible show Within _ _ (ite _ _ _)
    | ((with_reducible show Within _ _ (id _)); exact Within.refl _ _)
    | dsimp +zetaDelta only
    | ((fail_if_success with_reducible apply Within.upd_pending); (with_reducible apply Within.upd_dp); rfl)

theorem State.dropItem_step {a1 : _} {a2 : _} {a3 : _} {m : Nat} {r s : State} (c : 4295491860 &&& m = 4295491860) (h : Within m r s) :
    Within m r (State.dropItem s a1 a2 a3) := Within.step (State.dropItem_within s a1 a2 a3) c h

theorem State.entered_within : ∀ (s : State) a1, Within 2064 s (State.entered s a1) := by
  intro s a1
  unfold State.entered
  repeat' first
    | with_reducible exact Within.refl _ _
    | assumption
    | ((with_reducible apply Within.stepEach); intro _ _)
    | split
    | extract_lets
    | ((fail_if_success with_reducible apply Within.upd_pending); (with_reducible apply Within.upd_dp_prism); rfl)
    | with_reducible intro _
    | with_reducible show Within _ _ (ite _ _ _)
    | ((with_reducible show Within _ _ (id _)); exact Within.refl _ _)
    | dsimp +zetaDelta only
    | ((fail_if_success with_reducible apply Within.upd_pending); (with_reducible apply Within.upd_dp_prism); rfl)

theorem State.entered_step {a1 : _} {m : Nat} {r s : State} (c : 2064 &&& m = 2064) (h : Within m r s) :
    Within m r (State.entered s a1) := Within.step (State.entered_within s a1) c h

theorem State.offer_within : ∀ (s : State) a1 a2, ∀ t, State.offer s a1 a2 = some t → Within 4295493908 s t := by
  intro s a1 a2
  unfold State.offer
  repeat' first
    | with_reducible exact Within.refl _ _
    | assumption
    | ((with_reducible apply State.place_step); rfl)
    | ((with_reducible apply State.dropItem_step); rfl)
    | ((with_reducible apply State.entered_step); rfl)
    | ((with_reducible apply Within.stepEach); intro _ _)
    | split
    | extract_lets
    | with_reducible intro _
    | with_reducible show Within _ _ (ite _ _ _)
    | ((with_reducible show Within _ _ (id _)); exact Within.refl _ _)
    | contradiction
    | (cases ‹some _ = some _›)
    | (obtain ⟨_, _, rfl⟩ := Option.map_eq_some_iff.mp ‹_›)

theorem State.takeIn_within : ∀ (s : State) a1 a2, Within 4295493908 s (State.takeIn s a1 a2) := by
  intro s a1 a2
  unfold State.takeIn
  repeat' first
    | with_reducible exact Within.refl _ _
    | assumption
    | (with_reducible refine Within.step (State.offer_within _ _ _ _ (by assumption)) rfl ?_)
    | ((with_reducible apply State.setWaiting_step); rfl)
    | ((with_reducible apply Within.stepEach); intro _ _)
    | split
    | extract_lets
    | with_reducible intro _
    | with_reducible show Within _ _ (ite _ _ _)
    | ((with_reducible show Within _ _ (id _)); exact Within.refl _ _)
    | dsimp +zetaDelta only

theorem State.takeIn_step {a1 : _} {a2 : _} {m : Nat} {r s : State} (c : 4295493908 &&& m = 4295493908) (h : Within m r s) :
    Within m r (State.takeIn s a1 a2) := Within.step (State.takeIn_within s a1 a2) c h

theorem State.writeN_within : ∀ (s : State) a1 a2, Within 16 s (State.writeN s a1 a2) := by
  intro s a1 a2
  unfold State.writeN
  repeat' first
    | with_reducible exact Within.refl _ _
    | assumption
    | ((with_reducible apply Within.stepEach); intro _ _)
    | split
    | extract_lets
    | ((fail_if_success with_reducible apply Within.upd_pending); (with_reducible apply Within.upd_dp); rfl)
    | with_reducible intro _
    | with_reducible show Within _ _ (ite _ _ _)
    | ((with_reducible show Within _ _ (id _)); exact Within.refl _ _)
    | dsimp +zetaDelta only
    | ((fail_if_success with_reducible apply Within.upd_pending); (with_reducible apply Within.upd_dp); rfl)

theorem State.writeN_step {a1 : _} {a2 : _} {m : Nat} {r s : State} (c : 16 &&& m = 16) (h : Within m r s) :
    Within m r (State.writeN s a1 a2) := Within.step (State.writeN_within s a1 a2) c h

theorem State.writeCells_within : ∀ (s : State) a1, Within 16 s (State.writeCells s a1) := by
  intro s a1
  unfold State.writeCells
  repeat' first
    | with_reducible exact Within.refl _ _
    | assumption
    | ((with_reducible apply State.writeN_step); rfl)
    | ((with_reducible apply Within.stepEach); intro _ _)
    | split
    | extract_lets
    | with_reducible intro _
    | with_reducible show Within _ _ (ite _ _ _)
    | ((with_reducible show Within _ _ (id _)); exact Within.refl _ _)
    | dsimp +zetaDelta only

theorem State.writeCells_step {a1 : _} {m : Nat} {r s : State} (c : 16 &&& m = 16) (h : Within m r s) :
    Within m r (State.writeCells s a1) := Within.step (State.writeCells_within s a1) c h

theorem State.holdItem_within : ∀ (s : State) a1, Within 4295493908 s (State.holdItem s a1) := by
  intro s a1
  unfold State.holdItem
  repeat' first
    | with_reducible exact Within.refl _ _
    | assumption
    | ((with_reducible apply State.dropItem_step); rfl)
    | ((with_reducible apply State.entered_step); rfl)
    | ((with_reducible apply State.leaveCharge_step); rfl)
    | ((with_reducible apply Within.stepEach); intro _ _)
    | split
    | extract_lets
    | ((fail_if_success with_reducible apply Within.upd_pending); (with_reducible apply Within.upd_dp); rfl)
    | with_reducible intro _
    | with_reducible show Within _ _ (ite _ _ _)
    | ((with_reducible show Within _ _ (id _)); exact Within.refl _ _)
    | dsimp +zetaDelta only
    | ((fail_if_success with_reducible apply Within.upd_pending); (with_reducible apply Within.upd_dp); rfl)

theorem State.holdItem_step {a1 : _} {m : Nat} {r s : State} (c : 4295493908 &&& m = 4295493908) (h : Within m r s) :
    Within m r (State.holdItem s a1) := Within.step (State.holdItem_within s a1) c h

theorem State.keepCells_within : ∀ (s : State) a1, Within 16 s (State.keepCells s a1) := by
  intro s a1
  unfold State.keepCells
  repeat' first
    | with_reducible exact Within.refl _ _
    | assumption
    | ((with_reducible apply State.writeCells_step); rfl)
    | ((with_reducible apply Within.stepEach); intro _ _)
    | split
    | extract_lets
    | with_reducible intro _
    | with_reducible show Within _ _ (ite _ _ _)
    | ((with_reducible show Within _ _ (id _)); exact Within.refl _ _)
    | dsimp +zetaDelta only

theorem State.keepCells_step {a1 : _} {m : Nat} {r s : State} (c : 16 &&& m = 16) (h : Within m r s) :
    Within m r (State.keepCells s a1) := Within.step (State.keepCells_within s a1) c h

theorem State.mcSettle_within : ∀ (s : State) a1, Within 272 s (State.mcSettle s a1) := by
  intro s a1
  unfold State.mcSettle
  repeat' first
    | with_reducible exact Within.refl _ _
    | assumption
    | ((with_reducible apply State.returnCredits_step); rfl)
    | ((with_reducible apply State.oweCredits_step); rfl)
    | ((with_reducible apply Within.stepEach); intro _ _)
    | split
    | extract_lets
    | ((fail_if_success with_reducible apply Within.upd_pending); (with_reducible apply Within.upd_dp); rfl)
    | with_reducible intro _
    | with_reducible show Within _ _ (ite _ _ _)
    | ((with_reducible show Within _ _ (id _)); exact Within.refl _ _)
    | dsimp +zetaDelta only
    | ((fail_if_success with_reducible apply Within.upd_pending); (with_reducible apply Within.upd_dp); rfl)

theorem State.mcSettle_step {a1 : _} {m : Nat} {r s : State} (c : 272 &&& m = 272) (h : Within m r s) :
    Within m r (State.mcSettle s a1) := Within.step (State.mcSettle_within s a1) c h

theorem State.dropAll_within : ∀ (s : State) a1 a2 a3, Within 4295491860 s (State.dropAll s a1 a2 a3) := by
  intro s a1 a2 a3
  unfold State.dropAll
  repeat' first
    | with_reducible exact Within.refl _ _
    | assumption
    | ((with_reducible apply State.dropItem_step); rfl)
    | ((with_reducible apply Within.stepEach); intro _ _)
    | split
    | extract_lets
    | with_reducible intro _
    | with_reducible show Within _ _ (ite _ _ _)
    | ((with_reducible show Within _ _ (id _)); exact Within.refl _ _)
    | dsimp +zetaDelta only

theorem State.dropAll_step {a1 : _} {a2 : _} {a3 : _} {m : Nat} {r s : State} (c : 4295491860 &&& m = 4295491860) (h : Within m r s) :
    Within m r (State.dropAll s a1 a2 a3) := Within.step (State.dropAll_within s a1 a2 a3) c h

theorem State.mcDone_within : ∀ (s : State) a1, Within 2320 s (State.mcDone s a1) := by
  intro s a1
  unfold State.mcDone
  repeat' first
    | with_reducible exact Within.refl _ _
    | assumption
    | ((with_reducible apply State.mcSettle_step); rfl)
    | ((with_reducible apply State.entered_step); rfl)
    | ((with_reducible apply Within.stepEach); intro _ _)
    | split
    | extract_lets
    | with_reducible intro _
    | with_reducible show Within _ _ (ite _ _ _)
    | ((with_reducible show Within _ _ (id _)); exact Within.refl _ _)
    | dsimp +zetaDelta only

theorem State.mcDone_step {a1 : _} {m : Nat} {r s : State} (c : 2320 &&& m = 2320) (h : Within m r s) :
    Within m r (State.mcDone s a1) := Within.step (State.mcDone_within s a1) c h

theorem offerWaiting_within : ∀ a0 (s : State), Within 4295493908 s (offerWaiting a0 s).2 := by
  intro a0 s
  induction a0 generalizing s with
  | nil => unfold offerWaiting; exact Within.refl _ _
  | cons x l ih =>
  unfold offerWaiting
  repeat' first
    | with_reducible exact Within.refl _ _
    | assumption
    | (refine Within.step (ih _) (Nat.and_self _) ?_)
    | (with_reducible refine Within.step (State.offer_within _ _ _ _ (by assumption)) rfl ?_)
    | ((with_reducible apply Within.stepEach); intro _ _)
    | split
    | extract_lets
    | with_reducible intro _
    | with_reducible show Within _ _ (ite _ _ _)
    | ((with_reducible show Within _ _ (id _)); exact Within.refl _ _)
    | dsimp +zetaDelta only

theorem offerWaiting_step {a0 : _} {m : Nat} {r s : State} (c : 4295493908 &&& m = 4295493908) (h : Within m r s) :
    Within m r (offerWaiting a0 s).2 := Within.step (offerWaiting_within a0 s) c h


/-! ## Machine/Operands.lean -/

theorem State.setBundle_within : ∀ (s : State) a1 a2, Within 16 s (State.setBundle s a1 a2) := by
  intro s a1 a2
  unfold State.setBundle
  repeat' first
    | with_reducible exact Within.refl _ _
    | assumption
    | ((with_reducible apply Within.stepEach); intro _ _)
    | split
    | extract_lets
    | ((fail_if_success with_reducible apply Within.upd_pending); (with_reducible apply Within.upd_dp); rfl)
    | with_reducible intro _
    | with_reducible show Within _ _ (ite _ _ _)
    | ((with_reducible show Within _ _ (id _)); exact Within.refl _ _)
    | dsimp +zetaDelta only
    | ((fail_if_success with_reducible apply Within.upd_pending); (with_reducible apply Within.upd_dp); rfl)

theorem State.setBundle_step {a1 : _} {a2 : _} {m : Nat} {r s : State} (c : 16 &&& m = 16) (h : Within m r s) :
    Within m r (State.setBundle s a1 a2) := Within.step (State.setBundle_within s a1 a2) c h


/-! ## Machine/Accept.lean -/

theorem State.setCtx_within : ∀ (s : State) a1 a2, Within 8192 s (State.setCtx s a1 a2) := by
  intro s a1 a2
  unfold State.setCtx
  repeat' first
    | with_reducible exact Within.refl _ _
    | assumption
    | ((with_reducible apply Within.stepEach); intro _ _)
    | split
    | extract_lets
    | ((fail_if_success with_reducible apply Within.upd_pending); (with_reducible apply Within.upd_canvas); rfl)
    | with_reducible intro _
    | with_reducible show Within _ _ (ite _ _ _)
    | ((with_reducible show Within _ _ (id _)); exact Within.refl _ _)
    | dsimp +zetaDelta only
    | ((fail_if_success with_reducible apply Within.upd_pending); (with_reducible apply Within.upd_canvas); rfl)

theorem State.setCtx_step {a1 : _} {a2 : _} {m : Nat} {r s : State} (c : 8192 &&& m = 8192) (h : Within m r s) :
    Within m r (State.setCtx s a1 a2) := Within.step (State.setCtx_within s a1 a2) c h

theorem State.setSeg_within : ∀ (s : State) a1 a2 a3, Within 8192 s (State.setSeg s a1 a2 a3) := by
  intro s a1 a2 a3
  unfold State.setSeg
  repeat' first
    | with_reducible exact Within.refl _ _
    | assumption
    | ((with_reducible apply State.setCtx_step); rfl)
    | ((with_reducible apply Within.stepEach); intro _ _)
    | split
    | extract_lets
    | with_reducible intro _
    | with_reducible show Within _ _ (ite _ _ _)
    | ((with_reducible show Within _ _ (id _)); exact Within.refl _ _)
    | dsimp +zetaDelta only

theorem State.setSeg_step {a1 : _} {a2 : _} {a3 : _} {m : Nat} {r s : State} (c : 8192 &&& m = 8192) (h : Within m r s) :
    Within m r (State.setSeg s a1 a2 a3) := Within.step (State.setSeg_within s a1 a2 a3) c h

theorem State.takeSpace_within : ∀ (s : State) a1 a2 a3, Within 8192 s (State.takeSpace s a1 a2 a3) := by
  intro s a1 a2 a3
  unfold State.takeSpace
  repeat' first
    | with_reducible exact Within.refl _ _
    | assumption
    | ((with_reducible apply Within.stepEach); intro _ _)
    | split
    | extract_lets
    | ((fail_if_success with_reducible apply Within.upd_pending); (with_reducible apply Within.upd_canvas); rfl)
    | with_reducible intro _
    | with_reducible show Within _ _ (ite _ _ _)
    | ((with_reducible show Within _ _ (id _)); exact Within.refl _ _)
    | dsimp +zetaDelta only
    | ((fail_if_success with_reducible apply Within.upd_pending); (with_reducible apply Within.upd_canvas); rfl)

theorem State.takeSpace_step {a1 : _} {a2 : _} {a3 : _} {m : Nat} {r s : State} (c : 8192 &&& m = 8192) (h : Within m r s) :
    Within m r (State.takeSpace s a1 a2 a3) := Within.step (State.takeSpace_within s a1 a2 a3) c h

theorem State.spaceAfter_within : ∀ (s : State) a1, Within 8192 s (State.spaceAfter s a1) := by
  intro s a1
  induction a1 generalizing s with
  | nil => unfold State.spaceAfter; exact Within.refl _ _
  | cons x l ih =>
  unfold State.spaceAfter
  repeat' first
    | with_reducible exact Within.refl _ _
    | assumption
    | (refine Within.step (ih _) (Nat.and_self _) ?_)
    | ((with_reducible apply State.takeSpace_step); rfl)
    | ((with_reducible apply Within.stepEach); intro _ _)
    | split
    | extract_lets
    | with_reducible intro _
    | with_reducible show Within _ _ (ite _ _ _)
    | ((with_reducible show Within _ _ (id _)); exact Within.refl _ _)
    | dsimp +zetaDelta only

theorem State.spaceAfter_step {a1 : _} {m : Nat} {r s : State} (c : 8192 &&& m = 8192) (h : Within m r s) :
    Within m r (State.spaceAfter s a1) := Within.step (State.spaceAfter_within s a1) c h


/-! ## Machine/EthOps.lean -/

theorem State.filterItem_within : ∀ (s : State) a1 a2, Within 4295493908 s (State.filterItem s a1 a2) := by
  intro s a1 a2
  unfold State.filterItem
  repeat' first
    | with_reducible exact Within.refl _ _
    | assumption
    | ((with_reducible apply State.bump_step); rfl)
    | ((with_reducible apply State.dropItem_step); rfl)
    | ((with_reducible apply State.entered_step); rfl)
    | ((with_reducible apply Within.stepEach); intro _ _)
    | split
    | extract_lets
    | with_reducible intro _
    | with_reducible show Within _ _ (ite _ _ _)
    | ((with_reducible show Within _ _ (id _)); exact Within.refl _ _)
    | dsimp +zetaDelta only

theorem State.filterItem_step {a1 : _} {a2 : _} {m : Nat} {r s : State} (c : 4295493908 &&& m = 4295493908) (h : Within m r s) :
    Within m r (State.filterItem s a1 a2) := Within.step (State.filterItem_within s a1 a2) c h

theorem State.setMac_within : ∀ (s : State) a1 a2, Within 4194304 s (State.setMac s a1 a2) := by
  intro s a1 a2
  unfold State.setMac
  repeat' first
    | with_reducible exact Within.refl _ _
    | assumption
    | ((with_reducible apply Within.stepEach); intro _ _)
    | split
    | extract_lets
    | ((fail_if_success with_reducible apply Within.upd_pending); (with_reducible apply Within.upd_macs); rfl)
    | with_reducible intro _
    | with_reducible show Within _ _ (ite _ _ _)
    | ((with_reducible show Within _ _ (id _)); exact Within.refl _ _)
    | dsimp +zetaDelta only
    | ((fail_if_success with_reducible apply Within.upd_pending); (with_reducible apply Within.upd_macs); rfl)

theorem State.setMac_step {a1 : _} {a2 : _} {m : Nat} {r s : State} (c : 4194304 &&& m = 4194304) (h : Within m r s) :
    Within m r (State.setMac s a1 a2) := Within.step (State.setMac_within s a1 a2) c h

theorem State.learn_within : ∀ (s : State) a1 a2, Within 4194308 s (State.learn s a1 a2) := by
  intro s a1 a2
  unfold State.learn
  repeat' first
    | with_reducible exact Within.refl _ _
    | assumption
    | ((with_reducible apply State.bump_step); rfl)
    | ((with_reducible apply State.setMac_step); rfl)
    | ((with_reducible apply Within.stepEach); intro _ _)
    | split
    | extract_lets
    | with_reducible intro _
    | with_reducible show Within _ _ (ite _ _ _)
    | ((with_reducible show Within _ _ (id _)); exact Within.refl _ _)
    | dsimp +zetaDelta only

theorem State.learn_step {a1 : _} {a2 : _} {m : Nat} {r s : State} (c : 4194308 &&& m = 4194308) (h : Within m r s) :
    Within m r (State.learn s a1 a2) := Within.step (State.learn_within s a1 a2) c h


/-! ## Machine/Forward.lean -/

theorem State.holdForMove_within : ∀ (s : State) a1 a2 a3, Within 272 s (State.holdForMove s a1 a2 a3) := by
  intro s a1 a2 a3
  unfold State.holdForMove
  repeat' first
    | with_reducible exact Within.refl _ _
    | assumption
    | ((with_reducible apply State.leaveCharge_step); rfl)
    | ((with_reducible apply Within.stepEach); intro _ _)
    | split
    | extract_lets
    | ((fail_if_success with_reducible apply Within.upd_pending); (with_reducible apply Within.upd_dp); rfl)
    | with_reducible intro _
    | with_reducible show Within _ _ (ite _ _ _)
    | ((with_reducible show Within _ _ (id _)); exact Within.refl _ _)
    | dsimp +zetaDelta only
    | ((fail_if_success with_reducible apply Within.upd_pending); (with_reducible apply Within.upd_dp); rfl)

theorem State.holdForMove_step {a1 : _} {a2 : _} {a3 : _} {m : Nat} {r s : State} (c : 272 &&& m = 272) (h : Within m r s) :
    Within m r (State.holdForMove s a1 a2 a3) := Within.step (State.holdForMove_within s a1 a2 a3) c h

theorem State.noteDetour_within : ∀ (s : State) a1 a2, Within 16 s (State.noteDetour s a1 a2) := by
  intro s a1 a2
  unfold State.noteDetour
  repeat' first
    | with_reducible exact Within.refl _ _
    | assumption
    | ((with_reducible apply Within.stepEach); intro _ _)
    | split
    | extract_lets
    | ((fail_if_success with_reducible apply Within.upd_pending); (with_reducible apply Within.upd_dp); rfl)
    | with_reducible intro _
    | with_reducible show Within _ _ (ite _ _ _)
    | ((with_reducible show Within _ _ (id _)); exact Within.refl _ _)
    | dsimp +zetaDelta only
    | ((fail_if_success with_reducible apply Within.upd_pending); (with_reducible apply Within.upd_dp); rfl)

theorem State.noteDetour_step {a1 : _} {a2 : _} {m : Nat} {r s : State} (c : 16 &&& m = 16) (h : Within m r s) :
    Within m r (State.noteDetour s a1 a2) := Within.step (State.noteDetour_within s a1 a2) c h

theorem State.noteBucket_within : ∀ (s : State) a1 a2, Within 16 s (State.noteBucket s a1 a2) := by
  intro s a1 a2
  unfold State.noteBucket
  repeat' first
    | with_reducible exact Within.refl _ _
    | assumption
    | ((with_reducible apply Within.stepEach); intro _ _)
    | split
    | extract_lets
    | ((fail_if_success with_reducible apply Within.upd_pending); (with_reducible apply Within.upd_dp); rfl)
    | with_reducible intro _
    | with_reducible show Within _ _ (ite _ _ _)
    | ((with_reducible show Within _ _ (id _)); exact Within.refl _ _)
    | dsimp +zetaDelta only
    | ((fail_if_success with_reducible apply Within.upd_pending); (with_reducible apply Within.upd_dp); rfl)

theorem State.noteBucket_step {a1 : _} {a2 : _} {m : Nat} {r s : State} (c : 16 &&& m = 16) (h : Within m r s) :
    Within m r (State.noteBucket s a1 a2) := Within.step (State.noteBucket_within s a1 a2) c h

theorem State.dispatch_within : ∀ (s : State) a1 a2, Within 12885428628 s (State.dispatch s a1 a2) := by
  intro s a1 a2
  unfold State.dispatch
  repeat' first
    | with_reducible exact Within.refl _ _
    | assumption
    | ((with_reducible apply State.setPort_step); rfl)
    | ((with_reducible apply State.holdForMove_step); rfl)
    | ((with_reducible apply State.takeIn_step); rfl)
    | ((with_reducible apply State.dropItem_step); rfl)
    | ((with_reducible apply State.bankLeave_step); rfl)
    | ((with_reducible apply State.noteDetour_step); rfl)
    | ((with_reducible apply State.entered_step); rfl)
    | ((with_reducible apply State.holdItem_step); rfl)
    | ((with_reducible apply State.tick_step); rfl)
    | ((with_reducible apply State.txDone_step); rfl)
    | ((with_reducible apply State.noteBucket_step); rfl)
    | ((with_reducible apply State.freeItem_step); rfl)
    | ((with_reducible apply Within.stepEach); intro _ _)
    | split
    | extract_lets
    | ((fail_if_success with_reducible apply Within.upd_pending); (with_reducible apply Within.upd_dp); rfl)
    | with_reducible intro _
    | with_reducible show Within _ _ (ite _ _ _)
    | ((with_reducible show Within _ _ (id _)); exact Within.refl _ _)
    | dsimp +zetaDelta only
    | ((fail_if_success with_reducible apply Within.upd_pending); (with_reducible apply Within.upd_dp); rfl)

theorem State.dispatch_step {a1 : _} {a2 : _} {m : Nat} {r s : State} (c : 12885428628 &&& m = 12885428628) (h : Within m r s) :
    Within m r (State.dispatch s a1 a2) := Within.step (State.dispatch_within s a1 a2) c h

theorem State.dispatchFrame_within : ∀ (s : State) a1 a2, Within 12885428628 s (State.dispatchFrame s a1 a2) := by
  intro s a1 a2
  unfold State.dispatchFrame
  repeat' first
    | with_reducible exact Within.refl _ _
    | assumption
    | ((with_reducible apply State.filterItem_step); rfl)
    | ((with_reducible apply State.dispatch_step); rfl)
    | ((with_reducible apply Within.stepEach); intro _ _)
    | split
    | extract_lets
    | with_reducible intro _
    | with_reducible show Within _ _ (ite _ _ _)
    | ((with_reducible show Within _ _ (id _)); exact Within.refl _ _)
    | dsimp +zetaDelta only

theorem State.dispatchFrame_step {a1 : _} {a2 : _} {m : Nat} {r s : State} (c : 12885428628 &&& m = 12885428628) (h : Within m r s) :
    Within m r (State.dispatchFrame s a1 a2) := Within.step (State.dispatchFrame_within s a1 a2) c h

theorem State.sendAgain_within : ∀ (s : State) a1, Within 12885428628 s (State.sendAgain s a1) := by
  intro s a1
  unfold State.sendAgain
  repeat' first
    | with_reducible exact Within.refl _ _
    | assumption
    | ((with_reducible apply State.dispatch_step); rfl)
    | ((with_reducible apply State.dispatchFrame_step); rfl)
    | ((with_reducible apply Within.stepEach); intro _ _)
    | split
    | extract_lets
    | with_reducible intro _
    | with_reducible show Within _ _ (ite _ _ _)
    | ((with_reducible show Within _ _ (id _)); exact Within.refl _ _)
    | dsimp +zetaDelta only

theorem State.sendAgain_step {a1 : _} {m : Nat} {r s : State} (c : 12885428628 &&& m = 12885428628) (h : Within m r s) :
    Within m r (State.sendAgain s a1) := Within.step (State.sendAgain_within s a1) c h

theorem State.bankHold_within : ∀ (s : State) a1 a2, Within 2147483668 s (State.bankHold s a1 a2) := by
  intro s a1 a2
  unfold State.bankHold
  repeat' first
    | with_reducible exact Within.refl _ _
    | assumption
    | ((with_reducible apply State.setBankQ_step); rfl)
    | ((with_reducible apply State.countCycle_step); rfl)
    | ((with_reducible apply Within.stepEach); intro _ _)
    | split
    | extract_lets
    | with_reducible intro _
    | with_reducible show Within _ _ (ite _ _ _)
    | ((with_reducible show Within _ _ (id _)); exact Within.refl _ _)
    | dsimp +zetaDelta only

theorem State.bankHold_step {a1 : _} {a2 : _} {m : Nat} {r s : State} (c : 2147483668 &&& m = 2147483668) (h : Within m r s) :
    Within m r (State.bankHold s a1 a2) := Within.step (State.bankHold_within s a1 a2) c h

theorem State.bankWrite_within : ∀ (s : State) a1 a2 a3, Within 2147483668 s (State.bankWrite s a1 a2 a3) := by
  intro s a1 a2 a3
  unfold State.bankWrite
  repeat' first
    | with_reducible exact Within.refl _ _
    | assumption
    | ((with_reducible apply State.bankHold_step); rfl)
    | ((with_reducible apply State.writeCells_step); rfl)
    | ((with_reducible apply Within.stepEach); intro _ _)
    | split
    | extract_lets
    | with_reducible intro _
    | with_reducible show Within _ _ (ite _ _ _)
    | ((with_reducible show Within _ _ (id _)); exact Within.refl _ _)
    | dsimp +zetaDelta only

theorem State.bankWrite_step {a1 : _} {a2 : _} {a3 : _} {m : Nat} {r s : State} (c : 2147483668 &&& m = 2147483668) (h : Within m r s) :
    Within m r (State.bankWrite s a1 a2 a3) := Within.step (State.bankWrite_within s a1 a2 a3) c h

theorem State.offerHeld_within : ∀ (s : State) a1 a2, ∀ t, State.offerHeld s a1 a2 = some t → Within 12885428628 s t := by
  intro s a1 a2
  unfold State.offerHeld
  repeat' first
    | with_reducible exact Within.refl _ _
    | assumption
    | (with_reducible refine Within.step (State.offer_within _ _ _ _ (by assumption)) rfl ?_)
    | ((with_reducible apply State.noteDetour_step); rfl)
    | ((with_reducible apply State.dispatch_step); rfl)
    | ((with_reducible apply State.tick_step); rfl)
    | ((with_reducible apply State.noteBucket_step); rfl)
    | ((with_reducible apply Within.stepEach); intro _ _)
    | split
    | extract_lets
    | with_reducible intro _
    | with_reducible show Within _ _ (ite _ _ _)
    | ((with_reducible show Within _ _ (id _)); exact Within.refl _ _)
    | contradiction
    | (cases ‹some _ = some _›)
    | (obtain ⟨_, _, rfl⟩ := Option.map_eq_some_iff.mp ‹_›)

theorem State.lookupHeld_within : ∀ (s : State) a1, ∀ t, State.lookupHeld s a1 = some t → Within 12885428628 s t := by
  intro s a1
  unfold State.lookupHeld
  repeat' first
    | with_reducible exact Within.refl _ _
    | assumption
    | (with_reducible refine Within.step (State.offerHeld_within _ _ _ _ (by assumption)) rfl ?_)
    | ((with_reducible apply State.filterItem_step); rfl)
    | ((with_reducible apply State.dispatch_step); rfl)
    | ((with_reducible apply Within.stepEach); intro _ _)
    | split
    | extract_lets
    | with_reducible intro _
    | with_reducible show Within _ _ (ite _ _ _)
    | ((with_reducible show Within _ _ (id _)); exact Within.refl _ _)
    | contradiction
    | (cases ‹some _ = some _›)
    | (obtain ⟨_, _, rfl⟩ := Option.map_eq_some_iff.mp ‹_›)

theorem State.setLimit_within : ∀ (s : State) a1 a2, Within 16 s (State.setLimit s a1 a2) := by
  intro s a1 a2
  unfold State.setLimit
  repeat' first
    | with_reducible exact Within.refl _ _
    | assumption
    | ((with_reducible apply Within.stepEach); intro _ _)
    | split
    | extract_lets
    | ((fail_if_success with_reducible apply Within.upd_pending); (with_reducible apply Within.upd_dp); rfl)
    | with_reducible intro _
    | with_reducible show Within _ _ (ite _ _ _)
    | ((with_reducible show Within _ _ (id _)); exact Within.refl _ _)
    | dsimp +zetaDelta only
    | ((fail_if_success with_reducible apply Within.upd_pending); (with_reducible apply Within.upd_dp); rfl)

theorem State.setLimit_step {a1 : _} {a2 : _} {m : Nat} {r s : State} (c : 16 &&& m = 16) (h : Within m r s) :
    Within m r (State.setLimit s a1 a2) := Within.step (State.setLimit_within s a1 a2) c h

theorem State.setPolBucket_within : ∀ (s : State) a1 a2 a3 a4, Within 64 s (State.setPolBucket s a1 a2 a3 a4) := by
  intro s a1 a2 a3 a4
  unfold State.setPolBucket
  repeat' first
    | with_reducible exact Within.refl _ _
    | assumption
    | ((with_reducible apply Within.stepEach); intro _ _)
    | split
    | extract_lets
    | ((fail_if_success with_reducible apply Within.upd_pending); (with_reducible apply Within.upd_sched); rfl)
    | with_reducible intro _
    | with_reducible show Within _ _ (ite _ _ _)
    | ((with_reducible show Within _ _ (id _)); exact Within.refl _ _)
    | dsimp +zetaDelta only
    | ((fail_if_success with_reducible apply Within.upd_pending); (with_reducible apply Within.upd_sched); rfl)

theorem State.setPolBucket_step {a1 : _} {a2 : _} {a3 : _} {a4 : _} {m : Nat} {r s : State} (c : 64 &&& m = 64) (h : Within m r s) :
    Within m r (State.setPolBucket s a1 a2 a3 a4) := Within.step (State.setPolBucket_within s a1 a2 a3 a4) c h

theorem State.police_within : ∀ (s : State) a1 a2 a3 a4, Within 68 s (State.police s a1 a2 a3 a4).1 := by
  intro s a1 a2 a3 a4
  unfold State.police
  repeat' first
    | with_reducible exact Within.refl _ _
    | assumption
    | ((with_reducible apply State.setPolBucket_step); rfl)
    | ((with_reducible apply State.bumpPort_step); rfl)
    | ((with_reducible apply Within.stepEach); intro _ _)
    | split
    | extract_lets
    | with_reducible intro _
    | with_reducible show Within _ _ (ite _ _ _)
    | ((with_reducible show Within _ _ (id _)); exact Within.refl _ _)
    | dsimp +zetaDelta only

theorem State.police_step {a1 : _} {a2 : _} {a3 : _} {a4 : _} {m : Nat} {r s : State} (c : 68 &&& m = 68) (h : Within m r s) :
    Within m r (State.police s a1 a2 a3 a4).1 := Within.step (State.police_within s a1 a2 a3 a4) c h

theorem State.meterAndGo_within : ∀ (s : State) a1 a2 a3, Within 12885428692 s (State.meterAndGo s a1 a2 a3) := by
  intro s a1 a2 a3
  unfold State.meterAndGo
  repeat' first
    | with_reducible exact Within.refl _ _
    | assumption
    | ((with_reducible apply State.dropItem_step); rfl)
    | ((with_reducible apply State.dispatch_step); rfl)
    | ((with_reducible apply State.entered_step); rfl)
    | ((with_reducible apply State.police_step); rfl)
    | ((with_reducible apply Within.stepEach); intro _ _)
    | split
    | extract_lets
    | with_reducible intro _
    | with_reducible show Within _ _ (ite _ _ _)
    | ((with_reducible show Within _ _ (id _)); exact Within.refl _ _)
    | dsimp +zetaDelta only

theorem State.meterAndGo_step {a1 : _} {a2 : _} {a3 : _} {m : Nat} {r s : State} (c : 12885428692 &&& m = 12885428692) (h : Within m r s) :
    Within m r (State.meterAndGo s a1 a2 a3) := Within.step (State.meterAndGo_within s a1 a2 a3) c h

theorem State.pace_within : ∀ (s : State) a1, Within 16 s (State.pace s a1) := by
  intro s a1
  unfold State.pace
  repeat' first
    | with_reducible exact Within.refl _ _
    | assumption
    | ((with_reducible apply State.setLimit_step); rfl)
    | ((with_reducible apply Within.stepEach); intro _ _)
    | split
    | extract_lets
    | with_reducible intro _
    | with_reducible show Within _ _ (ite _ _ _)
    | ((with_reducible show Within _ _ (id _)); exact Within.refl _ _)
    | dsimp +zetaDelta only

theorem State.pace_step {a1 : _} {m : Nat} {r s : State} (c : 16 &&& m = 16) (h : Within m r s) :
    Within m r (State.pace s a1) := Within.step (State.pace_within s a1) c h

theorem State.lookup_within : ∀ (s : State) a1 a2, Within 12885428692 s (State.lookup s a1 a2) := by
  intro s a1 a2
  unfold State.lookup
  repeat' first
    | with_reducible exact Within.refl _ _
    | assumption
    | ((with_reducible apply State.dropItem_step); rfl)
    | ((with_reducible apply State.meterAndGo_step); rfl)
    | ((with_reducible apply State.dispatch_step); rfl)
    | ((with_reducible apply State.entered_step); rfl)
    | ((with_reducible apply State.pace_step); rfl)
    | ((with_reducible apply State.capture_step); rfl)
    | ((with_reducible apply Within.stepEach); intro _ _)
    | split
    | extract_lets
    | with_reducible intro _
    | with_reducible show Within _ _ (ite _ _ _)
    | ((with_reducible show Within _ _ (id _)); exact Within.refl _ _)
    | dsimp +zetaDelta only

theorem State.lookup_step {a1 : _} {a2 : _} {m : Nat} {r s : State} (c : 12885428692 &&& m = 12885428692) (h : Within m r s) :
    Within m r (State.lookup s a1 a2) := Within.step (State.lookup_within s a1 a2) c h

theorem State.lookupFrame_within : ∀ (s : State) a1 a2, Within 12885428692 s (State.lookupFrame s a1 a2) := by
  intro s a1 a2
  unfold State.lookupFrame
  repeat' first
    | with_reducible exact Within.refl _ _
    | assumption
    | ((with_reducible apply State.dropItem_step); rfl)
    | ((with_reducible apply State.filterItem_step); rfl)
    | ((with_reducible apply State.entered_step); rfl)
    | ((with_reducible apply State.police_step); rfl)
    | ((with_reducible apply State.dispatchFrame_step); rfl)
    | ((with_reducible apply Within.stepEach); intro _ _)
    | split
    | extract_lets
    | with_reducible intro _
    | with_reducible show Within _ _ (ite _ _ _)
    | ((with_reducible show Within _ _ (id _)); exact Within.refl _ _)
    | dsimp +zetaDelta only

theorem State.lookupFrame_step {a1 : _} {a2 : _} {m : Nat} {r s : State} (c : 12885428692 &&& m = 12885428692) (h : Within m r s) :
    Within m r (State.lookupFrame s a1 a2) := Within.step (State.lookupFrame_within s a1 a2) c h

theorem execHeaderArrival_within : ∀ a0 (s : State), WithinNext 2147483668 s (execHeaderArrival a0 s) := by
  intro a0 s
  unfold execHeaderArrival
  repeat' first
    | with_reducible exact Within.refl _ _
    | assumption
    | ((with_reducible apply State.setRx_step); rfl)
    | ((with_reducible apply State.setHq_step); rfl)
    | ((with_reducible apply State.countCycle_step); rfl)
    | with_reducible apply WithinNext.ok
    | exact WithinNext.fault _
    | ((with_reducible apply Within.stepEach); intro _ _)
    | split
    | extract_lets
    | ((fail_if_success with_reducible apply Within.upd_pending); (with_reducible apply Within.upd_dp); rfl)
    | with_reducible intro _
    | with_reducible show Within _ _ (ite _ _ _)
    | ((with_reducible show Within _ _ (id _)); exact Within.refl _ _)
    | dsimp +zetaDelta only
    | ((fail_if_success with_reducible apply Within.upd_pending); (with_reducible apply Within.upd_dp); rfl)

theorem execHeaderArrival_next {a0 : _} {m : Nat} {s : State} (c : 2147483668 &&& m = 2147483668) :
    WithinNext m s (execHeaderArrival a0 s) := WithinNext.mono (execHeaderArrival_within a0 s) c


/-! ## Machine/Links.lean -/

theorem State.originate_within : ∀ (s : State) a1, Within 16 s (State.originate s a1) := by
  intro s a1
  unfold State.originate
  repeat' first
    | with_reducible exact Within.refl _ _
    | assumption
    | ((with_reducible apply Within.stepEach); intro _ _)
    | split
    | extract_lets
    | ((fail_if_success with_reducible apply Within.upd_pending); (with_reducible apply Within.upd_dp); rfl)
    | with_reducible intro _
    | with_reducible show Within _ _ (ite _ _ _)
    | ((with_reducible show Within _ _ (id _)); exact Within.refl _ _)
    | dsimp +zetaDelta only
    | ((fail_if_success with_reducible apply Within.upd_pending); (with_reducible apply Within.upd_dp); rfl)

theorem State.originate_step {a1 : _} {m : Nat} {r s : State} (c : 16 &&& m = 16) (h : Within m r s) :
    Within m r (State.originate s a1) := Within.step (State.originate_within s a1) c h

theorem State.sendMark_within : ∀ (s : State) a1 a2 a3, Within 4295493908 s (State.sendMark s a1 a2 a3) := by
  intro s a1 a2 a3
  unfold State.sendMark
  repeat' first
    | with_reducible exact Within.refl _ _
    | assumption
    | ((with_reducible apply State.takeIn_step); rfl)
    | ((with_reducible apply State.takeSeq_step); rfl)
    | ((with_reducible apply State.writeCells_step); rfl)
    | ((with_reducible apply Within.stepEach); intro _ _)
    | split
    | extract_lets
    | ((fail_if_success with_reducible apply Within.upd_pending); (with_reducible apply Within.upd_dp); rfl)
    | with_reducible intro _
    | with_reducible show Within _ _ (ite _ _ _)
    | ((with_reducible show Within _ _ (id _)); exact Within.refl _ _)
    | dsimp +zetaDelta only
    | ((fail_if_success with_reducible apply Within.upd_pending); (with_reducible apply Within.upd_dp); rfl)

theorem State.sendMark_step {a1 : _} {a2 : _} {a3 : _} {m : Nat} {r s : State} (c : 4295493908 &&& m = 4295493908) (h : Within m r s) :
    Within m r (State.sendMark s a1 a2 a3) := Within.step (State.sendMark_within s a1 a2 a3) c h

theorem State.beginPhase_within : ∀ (s : State) a1 a2 a3, Within 4295493908 s (State.beginPhase s a1 a2 a3).2 := by
  intro s a1 a2 a3
  unfold State.beginPhase
  repeat' first
    | with_reducible exact Within.refl _ _
    | assumption
    | ((with_reducible apply State.sendMark_step); rfl)
    | ((with_reducible apply Within.stepEach); intro _ _)
    | split
    | extract_lets
    | with_reducible intro _
    | with_reducible show Within _ _ (ite _ _ _)
    | ((with_reducible show Within _ _ (id _)); exact Within.refl _ _)
    | dsimp +zetaDelta only

theorem State.beginPhase_step {a1 : _} {a2 : _} {a3 : _} {m : Nat} {r s : State} (c : 4295493908 &&& m = 4295493908) (h : Within m r s) :
    Within m r (State.beginPhase s a1 a2 a3).2 := Within.step (State.beginPhase_within s a1 a2 a3) c h

theorem State.releaseItem_within : ∀ (s : State) a1 a2, Within 12885428628 s (State.releaseItem s a1 a2) := by
  intro s a1 a2
  unfold State.releaseItem
  repeat' first
    | with_reducible exact Within.refl _ _
    | assumption
    | ((with_reducible apply State.takeIn_step); rfl)
    | ((with_reducible apply State.sendAgain_step); rfl)
    | ((with_reducible apply Within.stepEach); intro _ _)
    | split
    | extract_lets
    | with_reducible intro _
    | with_reducible show Within _ _ (ite _ _ _)
    | ((with_reducible show Within _ _ (id _)); exact Within.refl _ _)
    | dsimp +zetaDelta only

theorem State.releaseItem_step {a1 : _} {a2 : _} {m : Nat} {r s : State} (c : 12885428628 &&& m = 12885428628) (h : Within m r s) :
    Within m r (State.releaseItem s a1 a2) := Within.step (State.releaseItem_within s a1 a2) c h

theorem State.finishMove_within : ∀ (s : State) a1 a2, Within 13824952724 s (State.finishMove s a1 a2) := by
  intro s a1 a2
  unfold State.finishMove
  repeat' first
    | with_reducible exact Within.refl _ _
    | assumption
    | ((with_reducible apply State.bump_step); rfl)
    | ((with_reducible apply State.raise_step); rfl)
    | ((with_reducible apply State.releaseItem_step); rfl)
    | ((with_reducible apply Within.stepEach); intro _ _)
    | split
    | extract_lets
    | ((fail_if_success with_reducible apply Within.upd_pending); (with_reducible apply Within.upd_dp); rfl)
    | with_reducible intro _
    | with_reducible show Within _ _ (ite _ _ _)
    | ((with_reducible show Within _ _ (id _)); exact Within.refl _ _)
    | dsimp +zetaDelta only
    | ((fail_if_success with_reducible apply Within.upd_pending); (with_reducible apply Within.upd_dp); rfl)

theorem State.finishMove_step {a1 : _} {a2 : _} {m : Nat} {r s : State} (c : 13824952724 &&& m = 13824952724) (h : Within m r s) :
    Within m r (State.finishMove s a1 a2) := Within.step (State.finishMove_within s a1 a2) c h

theorem State.settleMarks_within : ∀ (s : State) a1, Within 13824952724 s (State.settleMarks s a1) := by
  intro s a1
  unfold State.settleMarks
  repeat' first
    | with_reducible exact Within.refl _ _
    | assumption
    | ((with_reducible apply State.finishMove_step); rfl)
    | ((with_reducible apply Within.stepEach); intro _ _)
    | split
    | extract_lets
    | with_reducible intro _
    | with_reducible show Within _ _ (ite _ _ _)
    | ((with_reducible show Within _ _ (id _)); exact Within.refl _ _)
    | dsimp +zetaDelta only

theorem State.settleMarks_step {a1 : _} {m : Nat} {r s : State} (c : 13824952724 &&& m = 13824952724) (h : Within m r s) :
    Within m r (State.settleMarks s a1) := Within.step (State.settleMarks_within s a1) c h

theorem State.turnMove_within : ∀ (s : State) a1 a2 a3, Within 16 s (State.turnMove s a1 a2 a3) := by
  intro s a1 a2 a3
  unfold State.turnMove
  repeat' first
    | with_reducible exact Within.refl _ _
    | assumption
    | ((with_reducible apply State.setBundle_step); rfl)
    | ((with_reducible apply Within.stepEach); intro _ _)
    | split
    | extract_lets
    | ((fail_if_success with_reducible apply Within.upd_pending); (with_reducible apply Within.upd_dp); rfl)
    | with_reducible intro _
    | with_reducible show Within _ _ (ite _ _ _)
    | ((with_reducible show Within _ _ (id _)); exact Within.refl _ _)
    | dsimp +zetaDelta only
    | ((fail_if_success with_reducible apply Within.upd_pending); (with_reducible apply Within.upd_dp); rfl)

theorem State.turnMove_step {a1 : _} {a2 : _} {a3 : _} {m : Nat} {r s : State} (c : 16 &&& m = 16) (h : Within m r s) :
    Within m r (State.turnMove s a1 a2 a3) := Within.step (State.turnMove_within s a1 a2 a3) c h

theorem State.pruneSpill_within : ∀ (s : State) a1, Within 16 s (State.pruneSpill s a1) := by
  intro s a1
  unfold State.pruneSpill
  repeat' first
    | with_reducible exact Within.refl _ _
    | assumption
    | ((with_reducible apply State.setQueue_step); rfl)
    | ((with_reducible apply Within.stepEach); intro _ _)
    | split
    | extract_lets
    | ((fail_if_success with_reducible apply Within.upd_pending); (with_reducible apply Within.upd_dp); rfl)
    | with_reducible intro _
    | with_reducible show Within _ _ (ite _ _ _)
    | ((with_reducible show Within _ _ (id _)); exact Within.refl _ _)
    | dsimp +zetaDelta only
    | ((fail_if_success with_reducible apply Within.upd_pending); (with_reducible apply Within.upd_dp); rfl)

theorem State.pruneSpill_step {a1 : _} {m : Nat} {r s : State} (c : 16 &&& m = 16) (h : Within m r s) :
    Within m r (State.pruneSpill s a1) := Within.step (State.pruneSpill_within s a1) c h

theorem State.emptied_within : ∀ (s : State) a1, Within 80 s (State.emptied s a1) := by
  intro s a1
  unfold State.emptied
  repeat' first
    | with_reducible exact Within.refl _ _
    | assumption
    | ((with_reducible apply State.pruneSpill_step); rfl)
    | ((with_reducible apply Within.stepEach); intro _ _)
    | split
    | extract_lets
    | ((fail_if_success with_reducible apply Within.upd_pending); (with_reducible apply Within.upd_sched); rfl)
    | with_reducible intro _
    | with_reducible show Within _ _ (ite _ _ _)
    | ((with_reducible show Within _ _ (id _)); exact Within.refl _ _)
    | dsimp +zetaDelta only
    | ((fail_if_success with_reducible apply Within.upd_pending); (with_reducible apply Within.upd_sched); rfl)

theorem State.emptied_step {a1 : _} {m : Nat} {r s : State} (c : 80 &&& m = 80) (h : Within m r s) :
    Within m r (State.emptied s a1) := Within.step (State.emptied_within s a1) c h

theorem State.toMove_within : ∀ (s : State) a1 a2, Within 272 s (State.toMove s a1 a2) := by
  intro s a1 a2
  unfold State.toMove
  repeat' first
    | with_reducible exact Within.refl _ _
    | assumption
    | ((with_reducible apply State.keepCells_step); rfl)
    | ((with_reducible apply State.freeItem_step); rfl)
    | ((with_reducible apply Within.stepEach); intro _ _)
    | split
    | extract_lets
    | ((fail_if_success with_reducible apply Within.upd_pending); (with_reducible apply Within.upd_dp); rfl)
    | with_reducible intro _
    | with_reducible show Within _ _ (ite _ _ _)
    | ((with_reducible show Within _ _ (id _)); exact Within.refl _ _)
    | dsimp +zetaDelta only
    | ((fail_if_success with_reducible apply Within.upd_pending); (with_reducible apply Within.upd_dp); rfl)

theorem State.toMove_step {a1 : _} {a2 : _} {m : Nat} {r s : State} (c : 272 &&& m = 272) (h : Within m r s) :
    Within m r (State.toMove s a1 a2) := Within.step (State.toMove_within s a1 a2) c h

theorem State.pullBucket_within : ∀ (s : State) a1 a2 a3 a4, Within 336 s (State.pullBucket s a1 a2 a3 a4).2 := by
  intro s a1 a2 a3 a4
  induction a4 generalizing s a1 a2 a3 with
  | zero => unfold State.pullBucket; exact Within.refl _ _
  | succ x ih =>
  unfold State.pullBucket
  repeat' first
    | with_reducible exact Within.refl _ _
    | assumption
    | (refine Within.step (ih _ _ _ _) (Nat.and_self _) ?_)
    | ((with_reducible apply State.setQueue_step); rfl)
    | ((with_reducible apply State.emptied_step); rfl)
    | ((with_reducible apply State.toMove_step); rfl)
    | ((with_reducible apply Within.stepEach); intro _ _)
    | split
    | extract_lets
    | with_reducible intro _
    | with_reducible show Within _ _ (ite _ _ _)
    | ((with_reducible show Within _ _ (id _)); exact Within.refl _ _)
    | dsimp +zetaDelta only

theorem State.pullBucket_step {a1 : _} {a2 : _} {a3 : _} {a4 : _} {m : Nat} {r s : State} (c : 336 &&& m = 336) (h : Within m r s) :
    Within m r (State.pullBucket s a1 a2 a3 a4).2 := Within.step (State.pullBucket_within s a1 a2 a3 a4) c h

theorem State.startMove_within : ∀ (s : State) a1 a2 a3 a4 a5, Within 13824952788 s (State.startMove s a1 a2 a3 a4 a5) := by
  intro s a1 a2 a3 a4 a5
  unfold State.startMove
  repeat' first
    | with_reducible exact Within.refl _ _
    | assumption
    | ((with_reducible apply State.setBundle_step); rfl)
    | ((with_reducible apply State.beginPhase_step); rfl)
    | (with_reducible refine Within.step (Within.ofSnd (by assumption) (State.beginPhase_within _ _ _ _)) rfl ?_)
    | ((with_reducible apply State.settleMarks_step); rfl)
    | ((with_reducible apply State.turnMove_step); rfl)
    | ((with_reducible apply State.pullBucket_step); rfl)
    | (with_reducible refine Within.step (Within.ofSnd (by assumption) (State.pullBucket_within _ _ _ _ _)) rfl ?_)
    | ((with_reducible apply Within.stepEach); intro _ _)
    | split
    | extract_lets
    | ((fail_if_success with_reducible apply Within.upd_pending); (with_reducible apply Within.upd_dp); rfl)
    | with_reducible intro _
    | with_reducible show Within _ _ (ite _ _ _)
    | ((with_reducible show Within _ _ (id _)); exact Within.refl _ _)
    | dsimp +zetaDelta only
    | ((fail_if_success with_reducible apply Within.upd_pending); (with_reducible apply Within.upd_dp); rfl)

theorem State.startMove_step {a1 : _} {a2 : _} {a3 : _} {a4 : _} {a5 : _} {m : Nat} {r s : State} (c : 13824952788 &&& m = 13824952788) (h : Within m r s) :
    Within m r (State.startMove s a1 a2 a3 a4 a5) := Within.step (State.startMove_within s a1 a2 a3 a4 a5) c h

theorem State.moveBuckets_within : ∀ a0 a1 a2 a3 (s : State), Within 13824952788 s (State.moveBuckets a0 a1 a2 a3 s) := by
  intro a0 a1 a2 a3 s
  induction a3 generalizing a0 a1 a2 s with
  | nil => unfold State.moveBuckets; exact Within.refl _ _
  | cons x l ih =>
  unfold State.moveBuckets
  repeat' first
    | with_reducible exact Within.refl _ _
    | assumption
    | (refine Within.step (ih _ _ _ _) (Nat.and_self _) ?_)
    | ((with_reducible apply State.startMove_step); rfl)
    | ((with_reducible apply Within.stepEach); intro _ _)
    | split
    | extract_lets
    | with_reducible intro _
    | with_reducible show Within _ _ (ite _ _ _)
    | ((with_reducible show Within _ _ (id _)); exact Within.refl _ _)
    | dsimp +zetaDelta only

theorem State.moveBuckets_step {a0 : _} {a1 : _} {a2 : _} {a3 : _} {m : Nat} {r s : State} (c : 13824952788 &&& m = 13824952788) (h : Within m r s) :
    Within m r (State.moveBuckets a0 a1 a2 a3 s) := Within.step (State.moveBuckets_within a0 a1 a2 a3 s) c h

theorem State.moveOff_within : ∀ (s : State) a1 a2, Within 13824952788 s (State.moveOff s a1 a2) := by
  intro s a1 a2
  unfold State.moveOff
  repeat' first
    | with_reducible exact Within.refl _ _
    | assumption
    | ((with_reducible apply State.moveBuckets_step); rfl)
    | ((with_reducible apply Within.stepEach); intro _ _)
    | split
    | extract_lets
    | with_reducible intro _
    | with_reducible show Within _ _ (ite _ _ _)
    | ((with_reducible show Within _ _ (id _)); exact Within.refl _ _)
    | dsimp +zetaDelta only

theorem State.moveOff_step {a1 : _} {a2 : _} {m : Nat} {r s : State} (c : 13824952788 &&& m = 13824952788) (h : Within m r s) :
    Within m r (State.moveOff s a1 a2) := Within.step (State.moveOff_within s a1 a2) c h

theorem State.handOver_within : ∀ (s : State) a1, Within 12885428628 s (State.handOver s a1) := by
  intro s a1
  unfold State.handOver
  repeat' first
    | with_reducible exact Within.refl _ _
    | assumption
    | ((with_reducible apply State.keepCells_step); rfl)
    | ((with_reducible apply State.sendAgain_step); rfl)
    | ((with_reducible apply Within.stepEach); intro _ _)
    | split
    | extract_lets
    | ((fail_if_success with_reducible apply Within.upd_pending); (with_reducible apply Within.upd_dp); rfl)
    | with_reducible intro _
    | with_reducible show Within _ _ (ite _ _ _)
    | ((with_reducible show Within _ _ (id _)); exact Within.refl _ _)
    | dsimp +zetaDelta only
    | ((fail_if_success with_reducible apply Within.upd_pending); (with_reducible apply Within.upd_dp); rfl)

theorem State.handOver_step {a1 : _} {m : Nat} {r s : State} (c : 12885428628 &&& m = 12885428628) (h : Within m r s) :
    Within m r (State.handOver s a1) := Within.step (State.handOver_within s a1) c h

theorem State.toMoveCells_within : ∀ (s : State) a1, Within 336 s (State.toMoveCells s a1) := by
  intro s a1
  unfold State.toMoveCells
  repeat' first
    | with_reducible exact Within.refl _ _
    | assumption
    | ((with_reducible apply State.emptied_step); rfl)
    | ((with_reducible apply State.toMove_step); rfl)
    | ((with_reducible apply Within.stepEach); intro _ _)
    | split
    | extract_lets
    | with_reducible intro _
    | with_reducible show Within _ _ (ite _ _ _)
    | ((with_reducible show Within _ _ (id _)); exact Within.refl _ _)
    | dsimp +zetaDelta only

theorem State.toMoveCells_step {a1 : _} {m : Nat} {r s : State} (c : 336 &&& m = 336) (h : Within m r s) :
    Within m r (State.toMoveCells s a1) := Within.step (State.toMoveCells_within s a1) c h

theorem State.drainQueues_within : ∀ (s : State) a1 a2, Within 16 s (State.drainQueues s a1 a2).2 := by
  intro s a1 a2
  induction a2 generalizing s a1 with
  | zero => unfold State.drainQueues; exact Within.refl _ _
  | succ x ih =>
  unfold State.drainQueues
  repeat' first
    | with_reducible exact Within.refl _ _
    | assumption
    | (refine Within.step (ih _ _) (Nat.and_self _) ?_)
    | ((with_reducible apply State.setQueue_step); rfl)
    | ((with_reducible apply Within.stepEach); intro _ _)
    | split
    | extract_lets
    | with_reducible intro _
    | with_reducible show Within _ _ (ite _ _ _)
    | ((with_reducible show Within _ _ (id _)); exact Within.refl _ _)
    | dsimp +zetaDelta only

theorem State.drainQueues_step {a1 : _} {a2 : _} {m : Nat} {r s : State} (c : 16 &&& m = 16) (h : Within m r s) :
    Within m r (State.drainQueues s a1 a2).2 := Within.step (State.drainQueues_within s a1 a2) c h

theorem State.replayHandover_within : ∀ (s : State) a1 a2, Within 13824952788 s (State.replayHandover s a1 a2) := by
  intro s a1 a2
  unfold State.replayHandover
  repeat' first
    | with_reducible exact Within.refl _ _
    | assumption
    | ((with_reducible apply State.moveOff_step); rfl)
    | ((with_reducible apply State.handOver_step); rfl)
    | ((with_reducible apply State.toMoveCells_step); rfl)
    | ((with_reducible apply State.setLink_step); rfl)
    | ((with_reducible apply State.drainQueues_step); rfl)
    | (with_reducible refine Within.step (Within.ofSnd (by assumption) (State.drainQueues_within _ _ _)) rfl ?_)
    | ((with_reducible apply Within.stepEach); intro _ _)
    | split
    | extract_lets
    | ((fail_if_success with_reducible apply Within.upd_pending); (with_reducible apply Within.upd_dp); rfl)
    | with_reducible intro _
    | with_reducible show Within _ _ (ite _ _ _)
    | ((with_reducible show Within _ _ (id _)); exact Within.refl _ _)
    | dsimp +zetaDelta only
    | ((fail_if_success with_reducible apply Within.upd_pending); (with_reducible apply Within.upd_dp); rfl)

theorem State.replayHandover_step {a1 : _} {a2 : _} {m : Nat} {r s : State} (c : 13824952788 &&& m = 13824952788) (h : Within m r s) :
    Within m r (State.replayHandover s a1 a2) := Within.step (State.replayHandover_within s a1 a2) c h

theorem State.beginTraining_within : ∀ (s : State) a1, Within 4294967424 s (State.beginTraining s a1) := by
  intro s a1
  unfold State.beginTraining
  repeat' first
    | with_reducible exact Within.refl _ _
    | assumption
    | ((with_reducible apply State.setPort_step); rfl)
    | ((with_reducible apply State.emit_step); rfl)
    | ((with_reducible apply Within.stepEach); intro _ _)
    | split
    | extract_lets
    | with_reducible intro _
    | with_reducible show Within _ _ (ite _ _ _)
    | ((with_reducible show Within _ _ (id _)); exact Within.refl _ _)
    | dsimp +zetaDelta only

theorem State.beginTraining_step {a1 : _} {m : Nat} {r s : State} (c : 4294967424 &&& m = 4294967424) (h : Within m r s) :
    Within m r (State.beginTraining s a1) := Within.step (State.beginTraining_within s a1) c h

theorem State.linkDown_within : ∀ (s : State) a1 a2, Within 13826002388 s (State.linkDown s a1 a2) := by
  intro s a1 a2
  unfold State.linkDown
  repeat' first
    | with_reducible exact Within.refl _ _
    | assumption
    | ((with_reducible apply State.setPlane_step); rfl)
    | ((with_reducible apply State.setPort_step); rfl)
    | ((with_reducible apply State.replayHandover_step); rfl)
    | ((with_reducible apply State.endMaint_step); rfl)
    | ((with_reducible apply State.raise_step); rfl)
    | ((with_reducible apply State.setLink_step); rfl)
    | ((with_reducible apply State.beginTraining_step); rfl)
    | ((with_reducible apply Within.stepEach); intro _ _)
    | split
    | extract_lets
    | with_reducible intro _
    | with_reducible show Within _ _ (ite _ _ _)
    | ((with_reducible show Within _ _ (id _)); exact Within.refl _ _)
    | dsimp +zetaDelta only

theorem State.linkDown_step {a1 : _} {a2 : _} {m : Nat} {r s : State} (c : 13826002388 &&& m = 13826002388) (h : Within m r s) :
    Within m r (State.linkDown s a1 a2) := Within.step (State.linkDown_within s a1 a2) c h

theorem State.takeDown_within : ∀ (s : State) a1 a2, Within 13826002388 s (State.takeDown s a1 a2) := by
  intro s a1 a2
  unfold State.takeDown
  repeat' first
    | with_reducible exact Within.refl _ _
    | assumption
    | ((with_reducible apply State.setPort_step); rfl)
    | ((with_reducible apply State.linkDown_step); rfl)
    | ((with_reducible apply Within.stepEach); intro _ _)
    | split
    | extract_lets
    | with_reducible intro _
    | with_reducible show Within _ _ (ite _ _ _)
    | ((with_reducible show Within _ _ (id _)); exact Within.refl _ _)
    | dsimp +zetaDelta only

theorem State.takeDown_step {a1 : _} {a2 : _} {m : Nat} {r s : State} (c : 13826002388 &&& m = 13826002388) (h : Within m r s) :
    Within m r (State.takeDown s a1 a2) := Within.step (State.takeDown_within s a1 a2) c h

theorem State.sendLocal_within : ∀ (s : State) a1 a2, Within 4294967300 s (State.sendLocal s a1 a2) := by
  intro s a1 a2
  unfold State.sendLocal
  repeat' first
    | with_reducible exact Within.refl _ _
    | assumption
    | ((with_reducible apply Within.stepEach); intro _ _)
    | split
    | extract_lets
    | ((fail_if_success with_reducible apply Within.upd_pending); (with_reducible apply Within.upd_cnt_out); rfl)
    | with_reducible intro _
    | with_reducible show Within _ _ (ite _ _ _)
    | ((with_reducible show Within _ _ (id _)); exact Within.refl _ _)
    | dsimp +zetaDelta only
    | ((fail_if_success with_reducible apply Within.upd_pending); (with_reducible apply Within.upd_cnt_out); rfl)

theorem State.sendLocal_step {a1 : _} {a2 : _} {m : Nat} {r s : State} (c : 4294967300 &&& m = 4294967300) (h : Within m r s) :
    Within m r (State.sendLocal s a1 a2) := Within.step (State.sendLocal_within s a1 a2) c h

theorem State.sendWithdraw_within : ∀ (s : State) a1 a2, Within 4294967300 s (State.sendWithdraw s a1 a2) := by
  intro s a1 a2
  unfold State.sendWithdraw
  repeat' first
    | with_reducible exact Within.refl _ _
    | assumption
    | ((with_reducible apply State.sendLocal_step); rfl)
    | ((with_reducible apply Within.stepEach); intro _ _)
    | split
    | extract_lets
    | with_reducible intro _
    | with_reducible show Within _ _ (ite _ _ _)
    | ((with_reducible show Within _ _ (id _)); exact Within.refl _ _)
    | dsimp +zetaDelta only

theorem State.sendWithdraw_step {a1 : _} {a2 : _} {m : Nat} {r s : State} (c : 4294967300 &&& m = 4294967300) (h : Within m r s) :
    Within m r (State.sendWithdraw s a1 a2) := Within.step (State.sendWithdraw_within s a1 a2) c h

theorem State.checkAcks_within : ∀ (s : State), Within 16 s (State.checkAcks s) := by
  intro s
  unfold State.checkAcks
  repeat' first
    | with_reducible exact Within.refl _ _
    | assumption
    | ((with_reducible apply Within.stepEach); intro _ _)
    | split
    | extract_lets
    | ((fail_if_success with_reducible apply Within.upd_pending); (with_reducible apply Within.upd_dp); rfl)
    | with_reducible intro _
    | with_reducible show Within _ _ (ite _ _ _)
    | ((with_reducible show Within _ _ (id _)); exact Within.refl _ _)
    | dsimp +zetaDelta only
    | ((fail_if_success with_reducible apply Within.upd_pending); (with_reducible apply Within.upd_dp); rfl)

theorem State.checkAcks_step  {m : Nat} {r s : State} (c : 16 &&& m = 16) (h : Within m r s) :
    Within m r (State.checkAcks s) := Within.step (State.checkAcks_within s) c h

theorem reconsiderAll_within : ∀ a0 (s : State), Within 12885428628 s (reconsiderAll a0 s) := by
  intro a0 s
  induction a0 generalizing s with
  | nil => unfold reconsiderAll; exact Within.refl _ _
  | cons x l ih =>
  unfold reconsiderAll
  repeat' first
    | with_reducible exact Within.refl _ _
    | assumption
    | (refine Within.step (ih _) (Nat.and_self _) ?_)
    | (with_reducible refine Within.step (State.lookupHeld_within _ _ _ (by assumption)) rfl ?_)
    | ((with_reducible apply Within.stepEach); intro _ _)
    | split
    | extract_lets
    | ((fail_if_success with_reducible apply Within.upd_pending); (with_reducible apply Within.upd_dp); rfl)
    | with_reducible intro _
    | with_reducible show Within _ _ (ite _ _ _)
    | ((with_reducible show Within _ _ (id _)); exact Within.refl _ _)
    | dsimp +zetaDelta only
    | ((fail_if_success with_reducible apply Within.upd_pending); (with_reducible apply Within.upd_dp); rfl)

theorem reconsiderAll_step {a0 : _} {m : Nat} {r s : State} (c : 12885428628 &&& m = 12885428628) (h : Within m r s) :
    Within m r (reconsiderAll a0 s) := Within.step (reconsiderAll_within a0 s) c h

theorem State.reconsider_within : ∀ (s : State), Within 12885428628 s (State.reconsider s) := by
  intro s
  unfold State.reconsider
  repeat' first
    | with_reducible exact Within.refl _ _
    | assumption
    | ((with_reducible apply reconsiderAll_step); rfl)
    | ((with_reducible apply Within.stepEach); intro _ _)
    | split
    | extract_lets
    | ((fail_if_success with_reducible apply Within.upd_pending); (with_reducible apply Within.upd_dp); rfl)
    | with_reducible intro _
    | with_reducible show Within _ _ (ite _ _ _)
    | ((with_reducible show Within _ _ (id _)); exact Within.refl _ _)
    | dsimp +zetaDelta only
    | ((fail_if_success with_reducible apply Within.upd_pending); (with_reducible apply Within.upd_dp); rfl)

theorem State.reconsider_step  {m : Nat} {r s : State} (c : 12885428628 &&& m = 12885428628) (h : Within m r s) :
    Within m r (State.reconsider s) := Within.step (State.reconsider_within s) c h

theorem State.sendReady_within : ∀ (s : State) a1, Within 4294967300 s (State.sendReady s a1) := by
  intro s a1
  unfold State.sendReady
  repeat' first
    | with_reducible exact Within.refl _ _
    | assumption
    | ((with_reducible apply State.sendLocal_step); rfl)
    | ((with_reducible apply Within.stepEach); intro _ _)
    | split
    | extract_lets
    | with_reducible intro _
    | with_reducible show Within _ _ (ite _ _ _)
    | ((with_reducible show Within _ _ (id _)); exact Within.refl _ _)
    | dsimp +zetaDelta only

theorem State.sendReady_step {a1 : _} {m : Nat} {r s : State} (c : 4294967300 &&& m = 4294967300) (h : Within m r s) :
    Within m r (State.sendReady s a1) := Within.step (State.sendReady_within s a1) c h

theorem State.endSettle_within : ∀ (s : State) a1, Within 13824952724 s (State.endSettle s a1) := by
  intro s a1
  unfold State.endSettle
  repeat' first
    | with_reducible exact Within.refl _ _
    | assumption
    | ((with_reducible apply State.finishMove_step); rfl)
    | ((with_reducible apply Within.stepEach); intro _ _)
    | split
    | extract_lets
    | with_reducible intro _
    | with_reducible show Within _ _ (ite _ _ _)
    | ((with_reducible show Within _ _ (id _)); exact Within.refl _ _)
    | dsimp +zetaDelta only

theorem State.endSettle_step {a1 : _} {m : Nat} {r s : State} (c : 13824952724 &&& m = 13824952724) (h : Within m r s) :
    Within m r (State.endSettle s a1) := Within.step (State.endSettle_within s a1) c h

theorem State.linkSend_within : ∀ (s : State) a1 a2 a3 a4, Within 5368709376 s (State.linkSend s a1 a2 a3 a4) := by
  intro s a1 a2 a3 a4
  unfold State.linkSend
  repeat' first
    | with_reducible exact Within.refl _ _
    | assumption
    | ((with_reducible apply State.setLink_step); rfl)
    | ((with_reducible apply State.xPass_step); rfl)
    | ((with_reducible apply Within.stepEach); intro _ _)
    | split
    | extract_lets
    | ((fail_if_success with_reducible apply Within.upd_pending); (with_reducible apply Within.upd_out); rfl)
    | with_reducible intro _
    | with_reducible show Within _ _ (ite _ _ _)
    | ((with_reducible show Within _ _ (id _)); exact Within.refl _ _)
    | dsimp +zetaDelta only
    | ((fail_if_success with_reducible apply Within.upd_pending); (with_reducible apply Within.upd_out); rfl)

theorem State.linkSend_step {a1 : _} {a2 : _} {a3 : _} {a4 : _} {m : Nat} {r s : State} (c : 5368709376 &&& m = 5368709376) (h : Within m r s) :
    Within m r (State.linkSend s a1 a2 a3 a4) := Within.step (State.linkSend_within s a1 a2 a3 a4) c h

theorem State.originateSeq_within : ∀ (s : State) a1 a2 a3 a4, Within 16 s (State.originateSeq s a1 a2 a3 a4) := by
  intro s a1 a2 a3 a4
  unfold State.originateSeq
  repeat' first
    | with_reducible exact Within.refl _ _
    | assumption
    | ((with_reducible apply State.takeSeq_step); rfl)
    | ((with_reducible apply State.originate_step); rfl)
    | ((with_reducible apply Within.stepEach); intro _ _)
    | split
    | extract_lets
    | with_reducible intro _
    | with_reducible show Within _ _ (ite _ _ _)
    | ((with_reducible show Within _ _ (id _)); exact Within.refl _ _)
    | dsimp +zetaDelta only

theorem State.originateSeq_step {a1 : _} {a2 : _} {a3 : _} {a4 : _} {m : Nat} {r s : State} (c : 16 &&& m = 16) (h : Within m r s) :
    Within m r (State.originateSeq s a1 a2 a3 a4) := Within.step (State.originateSeq_within s a1 a2 a3 a4) c h


/-! ## Machine/Trackers.lean -/

theorem State.refreshHome_within : ∀ (s : State) a1, Within 32772 s (State.refreshHome s a1) := by
  intro s a1
  unfold State.refreshHome
  repeat' first
    | with_reducible exact Within.refl _ _
    | assumption
    | ((with_reducible apply State.bump_step); rfl)
    | ((with_reducible apply State.setHome_step); rfl)
    | ((with_reducible apply Within.stepEach); intro _ _)
    | split
    | extract_lets
    | with_reducible intro _
    | with_reducible show Within _ _ (ite _ _ _)
    | ((with_reducible show Within _ _ (id _)); exact Within.refl _ _)
    | dsimp +zetaDelta only

theorem State.refreshHome_step {a1 : _} {m : Nat} {r s : State} (c : 32772 &&& m = 32772) (h : Within m r s) :
    Within m r (State.refreshHome s a1) := Within.step (State.refreshHome_within s a1) c h

theorem State.echo_within : ∀ (s : State) a1, Within 16 s (State.echo s a1) := by
  intro s a1
  unfold State.echo
  repeat' first
    | with_reducible exact Within.refl _ _
    | assumption
    | ((with_reducible apply State.setLimit_step); rfl)
    | ((with_reducible apply Within.stepEach); intro _ _)
    | split
    | extract_lets
    | with_reducible intro _
    | with_reducible show Within _ _ (ite _ _ _)
    | ((with_reducible show Within _ _ (id _)); exact Within.refl _ _)
    | dsimp +zetaDelta only

theorem State.echo_step {a1 : _} {m : Nat} {r s : State} (c : 16 &&& m = 16) (h : Within m r s) :
    Within m r (State.echo s a1) := Within.step (State.echo_within s a1) c h

theorem State.markClass_within : ∀ (s : State) a1 a2 a3 a4 a5, Within 32772 s (State.markClass s a1 a2 a3 a4 a5) := by
  intro s a1 a2 a3 a4 a5
  unfold State.markClass
  repeat' first
    | with_reducible exact Within.refl _ _
    | assumption
    | ((with_reducible apply State.refreshHome_step); rfl)
    | ((with_reducible apply State.setHome_step); rfl)
    | ((with_reducible apply Within.stepEach); intro _ _)
    | split
    | extract_lets
    | with_reducible intro _
    | with_reducible show Within _ _ (ite _ _ _)
    | ((with_reducible show Within _ _ (id _)); exact Within.refl _ _)
    | dsimp +zetaDelta only

theorem State.markClass_step {a1 : _} {a2 : _} {a3 : _} {a4 : _} {a5 : _} {m : Nat} {r s : State} (c : 32772 &&& m = 32772) (h : Within m r s) :
    Within m r (State.markClass s a1 a2 a3 a4 a5) := Within.step (State.markClass_within s a1 a2 a3 a4 a5) c h

theorem State.markSeq_within : ∀ (s : State) a1, Within 32788 s (State.markSeq s a1) := by
  intro s a1
  unfold State.markSeq
  repeat' first
    | with_reducible exact Within.refl _ _
    | assumption
    | ((with_reducible apply State.markClass_step); rfl)
    | ((with_reducible apply Within.stepEach); intro _ _)
    | split
    | extract_lets
    | ((fail_if_success with_reducible apply Within.upd_pending); (with_reducible apply Within.upd_dp); rfl)
    | with_reducible intro _
    | with_reducible show Within _ _ (ite _ _ _)
    | ((with_reducible show Within _ _ (id _)); exact Within.refl _ _)
    | dsimp +zetaDelta only
    | ((fail_if_success with_reducible apply Within.upd_pending); (with_reducible apply Within.upd_dp); rfl)

theorem State.markSeq_step {a1 : _} {m : Nat} {r s : State} (c : 32788 &&& m = 32788) (h : Within m r s) :
    Within m r (State.markSeq s a1) := Within.step (State.markSeq_within s a1) c h

theorem State.receiveAck_within : ∀ (s : State) a1, Within 13825018260 s (State.receiveAck s a1) := by
  intro s a1
  unfold State.receiveAck
  repeat' first
    | with_reducible exact Within.refl _ _
    | assumption
    | ((with_reducible apply State.bump_step); rfl)
    | ((with_reducible apply State.echo_step); rfl)
    | ((with_reducible apply State.finishMove_step); rfl)
    | ((with_reducible apply Within.stepEach); intro _ _)
    | split
    | extract_lets
    | ((fail_if_success with_reducible apply Within.upd_pending); (with_reducible apply Within.upd_dp_req); rfl)
    | with_reducible intro _
    | with_reducible show Within _ _ (ite _ _ _)
    | ((with_reducible show Within _ _ (id _)); exact Within.refl _ _)
    | dsimp +zetaDelta only
    | ((fail_if_success with_reducible apply Within.upd_pending); (with_reducible apply Within.upd_dp_req); rfl)

theorem State.receiveAck_step {a1 : _} {m : Nat} {r s : State} (c : 13825018260 &&& m = 13825018260) (h : Within m r s) :
    Within m r (State.receiveAck s a1) := Within.step (State.receiveAck_within s a1) c h


/-! ## Machine/Egress.lean -/

theorem State.accessEvent_within : ∀ (s : State) a1 a2 a3, Within 939524100 s (State.accessEvent s a1 a2 a3) := by
  intro s a1 a2 a3
  unfold State.accessEvent
  repeat' first
    | with_reducible exact Within.refl _ _
    | assumption
    | ((with_reducible apply State.raise_step); rfl)
    | ((with_reducible apply Within.stepEach); intro _ _)
    | split
    | extract_lets
    | with_reducible intro _
    | with_reducible show Within _ _ (ite _ _ _)
    | ((with_reducible show Within _ _ (id _)); exact Within.refl _ _)
    | dsimp +zetaDelta only

theorem State.accessEvent_step {a1 : _} {a2 : _} {a3 : _} {m : Nat} {r s : State} (c : 939524100 &&& m = 939524100) (h : Within m r s) :
    Within m r (State.accessEvent s a1 a2 a3) := Within.step (State.accessEvent_within s a1 a2 a3) c h

theorem State.readbackQ_within : ∀ (s : State) a1, Within 16 s (State.readbackQ s a1) := by
  intro s a1
  unfold State.readbackQ
  repeat' first
    | with_reducible exact Within.refl _ _
    | assumption
    | ((with_reducible apply State.setQueue_step); rfl)
    | ((with_reducible apply Within.stepEach); intro _ _)
    | split
    | extract_lets
    | with_reducible intro _
    | with_reducible show Within _ _ (ite _ _ _)
    | ((with_reducible show Within _ _ (id _)); exact Within.refl _ _)
    | dsimp +zetaDelta only

theorem State.readbackQ_step {a1 : _} {m : Nat} {r s : State} (c : 16 &&& m = 16) (h : Within m r s) :
    Within m r (State.readbackQ s a1) := Within.step (State.readbackQ_within s a1) c h

theorem State.readbackAll_within : ∀ (s : State), Within 16 s (State.readbackAll s) := by
  intro s
  unfold State.readbackAll
  repeat' first
    | with_reducible exact Within.refl _ _
    | assumption
    | ((with_reducible apply State.readbackQ_step); rfl)
    | ((with_reducible apply Within.stepEach); intro _ _)
    | split
    | extract_lets
    | with_reducible intro _
    | with_reducible show Within _ _ (ite _ _ _)
    | ((with_reducible show Within _ _ (id _)); exact Within.refl _ _)
    | dsimp +zetaDelta only

theorem State.readbackAll_step  {m : Nat} {r s : State} (c : 16 &&& m = 16) (h : Within m r s) :
    Within m r (State.readbackAll s) := Within.step (State.readbackAll_within s) c h

theorem State.setShaper_within : ∀ (s : State) a1 a2 a3 a4, Within 64 s (State.setShaper s a1 a2 a3 a4) := by
  intro s a1 a2 a3 a4
  unfold State.setShaper
  repeat' first
    | with_reducible exact Within.refl _ _
    | assumption
    | ((with_reducible apply Within.stepEach); intro _ _)
    | split
    | extract_lets
    | ((fail_if_success with_reducible apply Within.upd_pending); (with_reducible apply Within.upd_sched); rfl)
    | with_reducible intro _
    | with_reducible show Within _ _ (ite _ _ _)
    | ((with_reducible show Within _ _ (id _)); exact Within.refl _ _)
    | dsimp +zetaDelta only
    | ((fail_if_success with_reducible apply Within.upd_pending); (with_reducible apply Within.upd_sched); rfl)

theorem State.setShaper_step {a1 : _} {a2 : _} {a3 : _} {a4 : _} {m : Nat} {r s : State} (c : 64 &&& m = 64) (h : Within m r s) :
    Within m r (State.setShaper s a1 a2 a3 a4) := Within.step (State.setShaper_within s a1 a2 a3 a4) c h

theorem State.chargeShaper_within : ∀ (s : State) a1 a2 a3, Within 64 s (State.chargeShaper s a1 a2 a3) := by
  intro s a1 a2 a3
  unfold State.chargeShaper
  repeat' first
    | with_reducible exact Within.refl _ _
    | assumption
    | ((with_reducible apply State.setShaper_step); rfl)
    | ((with_reducible apply Within.stepEach); intro _ _)
    | split
    | extract_lets
    | with_reducible intro _
    | with_reducible show Within _ _ (ite _ _ _)
    | ((with_reducible show Within _ _ (id _)); exact Within.refl _ _)
    | dsimp +zetaDelta only

theorem State.chargeShaper_step {a1 : _} {a2 : _} {a3 : _} {m : Nat} {r s : State} (c : 64 &&& m = 64) (h : Within m r s) :
    Within m r (State.chargeShaper s a1 a2 a3) := Within.step (State.chargeShaper_within s a1 a2 a3) c h

theorem State.chargeBoth_within : ∀ (s : State) a1 a2 a3, Within 64 s (State.chargeBoth s a1 a2 a3) := by
  intro s a1 a2 a3
  unfold State.chargeBoth
  repeat' first
    | with_reducible exact Within.refl _ _
    | assumption
    | ((with_reducible apply State.chargeShaper_step); rfl)
    | ((with_reducible apply Within.stepEach); intro _ _)
    | split
    | extract_lets
    | with_reducible intro _
    | with_reducible show Within _ _ (ite _ _ _)
    | ((with_reducible show Within _ _ (id _)); exact Within.refl _ _)
    | dsimp +zetaDelta only

theorem State.chargeBoth_step {a1 : _} {a2 : _} {a3 : _} {m : Nat} {r s : State} (c : 64 &&& m = 64) (h : Within m r s) :
    Within m r (State.chargeBoth s a1 a2 a3) := Within.step (State.chargeBoth_within s a1 a2 a3) c h

theorem State.setDeficit_within : ∀ (s : State) a1 a2 a3, Within 64 s (State.setDeficit s a1 a2 a3) := by
  intro s a1 a2 a3
  unfold State.setDeficit
  repeat' first
    | with_reducible exact Within.refl _ _
    | assumption
    | ((with_reducible apply Within.stepEach); intro _ _)
    | split
    | extract_lets
    | ((fail_if_success with_reducible apply Within.upd_pending); (with_reducible apply Within.upd_sched); rfl)
    | with_reducible intro _
    | with_reducible show Within _ _ (ite _ _ _)
    | ((with_reducible show Within _ _ (id _)); exact Within.refl _ _)
    | dsimp +zetaDelta only
    | ((fail_if_success with_reducible apply Within.upd_pending); (with_reducible apply Within.upd_sched); rfl)

theorem State.setDeficit_step {a1 : _} {a2 : _} {a3 : _} {m : Nat} {r s : State} (c : 64 &&& m = 64) (h : Within m r s) :
    Within m r (State.setDeficit s a1 a2 a3) := Within.step (State.setDeficit_within s a1 a2 a3) c h

theorem drr_within : ∀ a0 a1 (s : State), Within 64 s (drr a0 a1 s).2 := by
  intro a0 a1 s
  induction a1 generalizing a0 s with
  | zero => unfold drr; exact Within.refl _ _
  | succ x ih =>
  unfold drr
  repeat' first
    | with_reducible exact Within.refl _ _
    | assumption
    | (refine Within.step (ih _ _) (Nat.and_self _) ?_)
    | ((with_reducible apply State.setDeficit_step); rfl)
    | ((with_reducible apply Within.stepEach); intro _ _)
    | split
    | extract_lets
    | ((fail_if_success with_reducible apply Within.upd_pending); (with_reducible apply Within.upd_sched); rfl)
    | with_reducible intro _
    | with_reducible show Within _ _ (ite _ _ _)
    | ((with_reducible show Within _ _ (id _)); exact Within.refl _ _)
    | dsimp +zetaDelta only
    | ((fail_if_success with_reducible apply Within.upd_pending); (with_reducible apply Within.upd_sched); rfl)

theorem drr_step {a0 : _} {a1 : _} {m : Nat} {r s : State} (c : 64 &&& m = 64) (h : Within m r s) :
    Within m r (drr a0 a1 s).2 := Within.step (drr_within a0 a1 s) c h

theorem State.choose_within : ∀ (s : State) a1, Within 64 s (State.choose s a1).2 := by
  intro s a1
  unfold State.choose
  repeat' first
    | with_reducible exact Within.refl _ _
    | assumption
    | ((with_reducible apply drr_step); rfl)
    | (with_reducible refine Within.step (Within.ofSnd (by assumption) (drr_within _ _ _)) rfl ?_)
    | ((with_reducible apply State.setDeficit_step); rfl)
    | ((with_reducible apply Within.stepEach); intro _ _)
    | split
    | extract_lets
    | ((fail_if_success with_reducible apply Within.upd_pending); (with_reducible apply Within.upd_sched); rfl)
    | with_reducible intro _
    | with_reducible show Within _ _ (ite _ _ _)
    | ((with_reducible show Within _ _ (id _)); exact Within.refl _ _)
    | dsimp +zetaDelta only
    | ((fail_if_success with_reducible apply Within.upd_pending); (with_reducible apply Within.upd_sched); rfl)

theorem State.choose_step {a1 : _} {m : Nat} {r s : State} (c : 64 &&& m = 64) (h : Within m r s) :
    Within m r (State.choose s a1).2 := Within.step (State.choose_within s a1) c h

theorem State.countSent_within : ∀ (s : State) a1 a2 a3, Within 4 s (State.countSent s a1 a2 a3) := by
  intro s a1 a2 a3
  unfold State.countSent
  repeat' first
    | with_reducible exact Within.refl _ _
    | assumption
    | ((with_reducible apply State.bumpPort_step); rfl)
    | ((with_reducible apply Within.stepEach); intro _ _)
    | split
    | extract_lets
    | with_reducible intro _
    | with_reducible show Within _ _ (ite _ _ _)
    | ((with_reducible show Within _ _ (id _)); exact Within.refl _ _)
    | dsimp +zetaDelta only

theorem State.countSent_step {a1 : _} {a2 : _} {a3 : _} {m : Nat} {r s : State} (c : 4 &&& m = 4) (h : Within m r s) :
    Within m r (State.countSent s a1 a2 a3) := Within.step (State.countSent_within s a1 a2 a3) c h

theorem State.setUnitIn_within : ∀ (s : State) a1 a2, Within 16 s (State.setUnitIn s a1 a2) := by
  intro s a1 a2
  unfold State.setUnitIn
  repeat' first
    | with_reducible exact Within.refl _ _
    | assumption
    | ((with_reducible apply Within.stepEach); intro _ _)
    | split
    | extract_lets
    | ((fail_if_success with_reducible apply Within.upd_pending); (with_reducible apply Within.upd_dp); rfl)
    | with_reducible intro _
    | with_reducible show Within _ _ (ite _ _ _)
    | ((with_reducible show Within _ _ (id _)); exact Within.refl _ _)
    | dsimp +zetaDelta only
    | ((fail_if_success with_reducible apply Within.upd_pending); (with_reducible apply Within.upd_dp); rfl)

theorem State.setUnitIn_step {a1 : _} {a2 : _} {m : Nat} {r s : State} (c : 16 &&& m = 16) (h : Within m r s) :
    Within m r (State.setUnitIn s a1 a2) := Within.step (State.setUnitIn_within s a1 a2) c h

theorem State.gate_step {off : Nat} {f : State → State} {m : Nat} {r s : State} (c : 939524100 &&& m = 939524100)
    (k : ∀ x, Within m x (f x)) (h : Within m r s) : Within m r (s.gate off f) := by
  refine Within.step (v := m) ?_ (Nat.and_self m) h
  unfold State.gate
  repeat' first
    | with_reducible exact Within.refl _ _
    | assumption
    | (refine Within.step (k _) (Nat.and_self _) ?_)
    | ((with_reducible apply State.accessEvent_step); exact Within.covers (by decide) c)
    | split
    | extract_lets

theorem State.unitSend_within : ∀ (s : State) a1 a2, Within 1073741840 s (State.unitSend s a1 a2) := by
  intro s a1 a2
  unfold State.unitSend
  repeat' first
    | with_reducible exact Within.refl _ _
    | assumption
    | ((with_reducible apply State.setXing_step); rfl)
    | ((with_reducible apply Within.stepEach); intro _ _)
    | split
    | extract_lets
    | ((fail_if_success with_reducible apply Within.upd_pending); (with_reducible apply Within.upd_dp); rfl)
    | with_reducible intro _
    | with_reducible show Within _ _ (ite _ _ _)
    | ((with_reducible show Within _ _ (id _)); exact Within.refl _ _)
    | dsimp +zetaDelta only
    | ((fail_if_success with_reducible apply Within.upd_pending); (with_reducible apply Within.upd_dp); rfl)

theorem State.unitSend_step {a1 : _} {a2 : _} {m : Nat} {r s : State} (c : 1073741840 &&& m = 1073741840) (h : Within m r s) :
    Within m r (State.unitSend s a1 a2) := Within.step (State.unitSend_within s a1 a2) c h

theorem State.leftBuffer_within : ∀ (s : State) a1, Within 16 s (State.leftBuffer s a1) := by
  intro s a1
  unfold State.leftBuffer
  repeat' first
    | with_reducible exact Within.refl _ _
    | assumption
    | ((with_reducible apply Within.stepEach); intro _ _)
    | split
    | extract_lets
    | ((fail_if_success with_reducible apply Within.upd_pending); (with_reducible apply Within.upd_dp); rfl)
    | with_reducible intro _
    | with_reducible show Within _ _ (ite _ _ _)
    | ((with_reducible show Within _ _ (id _)); exact Within.refl _ _)
    | dsimp +zetaDelta only
    | ((fail_if_success with_reducible apply Within.upd_pending); (with_reducible apply Within.upd_dp); rfl)

theorem State.leftBuffer_step {a1 : _} {m : Nat} {r s : State} (c : 16 &&& m = 16) (h : Within m r s) :
    Within m r (State.leftBuffer s a1) := Within.step (State.leftBuffer_within s a1) c h

theorem State.noteFrame_within : ∀ (s : State) a1 a2, Within 2048 s (State.noteFrame s a1 a2) := by
  intro s a1 a2
  unfold State.noteFrame
  repeat' first
    | with_reducible exact Within.refl _ _
    | assumption
    | ((with_reducible apply Within.stepEach); intro _ _)
    | split
    | extract_lets
    | ((fail_if_success with_reducible apply Within.upd_pending); (with_reducible apply Within.upd_prism); rfl)
    | with_reducible intro _
    | with_reducible show Within _ _ (ite _ _ _)
    | ((with_reducible show Within _ _ (id _)); exact Within.refl _ _)
    | dsimp +zetaDelta only
    | ((fail_if_success with_reducible apply Within.upd_pending); (with_reducible apply Within.upd_prism); rfl)

theorem State.noteFrame_step {a1 : _} {a2 : _} {m : Nat} {r s : State} (c : 2048 &&& m = 2048) (h : Within m r s) :
    Within m r (State.noteFrame s a1 a2) := Within.step (State.noteFrame_within s a1 a2) c h

theorem State.noteVia_within : ∀ (s : State) a1 a2 a3, Within 65536 s (State.noteVia s a1 a2 a3) := by
  intro s a1 a2 a3
  unfold State.noteVia
  repeat' first
    | with_reducible exact Within.refl _ _
    | assumption
    | ((with_reducible apply Within.stepEach); intro _ _)
    | split
    | extract_lets
    | ((fail_if_success with_reducible apply Within.upd_pending); (with_reducible apply Within.upd_req); rfl)
    | with_reducible intro _
    | with_reducible show Within _ _ (ite _ _ _)
    | ((with_reducible show Within _ _ (id _)); exact Within.refl _ _)
    | dsimp +zetaDelta only
    | ((fail_if_success with_reducible apply Within.upd_pending); (with_reducible apply Within.upd_req); rfl)

theorem State.noteVia_step {a1 : _} {a2 : _} {a3 : _} {m : Nat} {r s : State} (c : 65536 &&& m = 65536) (h : Within m r s) :
    Within m r (State.noteVia s a1 a2 a3) := Within.step (State.noteVia_within s a1 a2 a3) c h

theorem State.transmit_within : ∀ (s : State) a1 a2, Within 5369301268 s (State.transmit s a1 a2) := by
  intro s a1 a2
  unfold State.transmit
  repeat' first
    | with_reducible exact Within.refl _ _
    | assumption
    | ((with_reducible apply State.unitSend_step); rfl)
    | ((with_reducible apply State.leftBuffer_step); rfl)
    | ((with_reducible apply State.countSent_step); rfl)
    | ((with_reducible apply State.noteFrame_step); rfl)
    | ((with_reducible apply State.linkSend_step); rfl)
    | ((with_reducible apply State.txDone_step); rfl)
    | ((with_reducible apply State.noteVia_step); rfl)
    | ((with_reducible apply State.xPass_step); rfl)
    | ((with_reducible apply State.emit_step); rfl)
    | ((with_reducible apply Within.stepEach); intro _ _)
    | split
    | extract_lets
    | ((fail_if_success with_reducible apply Within.upd_pending); (with_reducible apply Within.upd_dp); rfl)
    | with_reducible intro _
    | with_reducible show Within _ _ (ite _ _ _)
    | ((with_reducible show Within _ _ (id _)); exact Within.refl _ _)
    | dsimp +zetaDelta only
    | ((fail_if_success with_reducible apply Within.upd_pending); (with_reducible apply Within.upd_dp); rfl)

theorem State.transmit_step {a1 : _} {a2 : _} {m : Nat} {r s : State} (c : 5369301268 &&& m = 5369301268) (h : Within m r s) :
    Within m r (State.transmit s a1 a2) := Within.step (State.transmit_within s a1 a2) c h

theorem State.flyOut_within : ∀ (s : State) a1, Within 5369301332 s (State.flyOut s a1) := by
  intro s a1
  unfold State.flyOut
  repeat' first
    | with_reducible exact Within.refl _ _
    | assumption
    | ((with_reducible apply State.transmit_step); rfl)
    | ((with_reducible apply State.chargeBoth_step); rfl)
    | ((with_reducible apply Within.stepEach); intro _ _)
    | split
    | extract_lets
    | with_reducible intro _
    | with_reducible show Within _ _ (ite _ _ _)
    | ((with_reducible show Within _ _ (id _)); exact Within.refl _ _)
    | dsimp +zetaDelta only

theorem State.flyOut_step {a1 : _} {m : Nat} {r s : State} (c : 5369301332 &&& m = 5369301332) (h : Within m r s) :
    Within m r (State.flyOut s a1) := Within.step (State.flyOut_within s a1) c h

theorem State.leaveQueue_within : ∀ (s : State) a1 a2 a3, Within 336 s (State.leaveQueue s a1 a2 a3) := by
  intro s a1 a2 a3
  unfold State.leaveQueue
  repeat' first
    | with_reducible exact Within.refl _ _
    | assumption
    | ((with_reducible apply State.setQueue_step); rfl)
    | ((with_reducible apply State.setDeficit_step); rfl)
    | ((with_reducible apply State.readbackQ_step); rfl)
    | ((with_reducible apply State.freeItem_step); rfl)
    | ((with_reducible apply Within.stepEach); intro _ _)
    | split
    | extract_lets
    | ((fail_if_success with_reducible apply Within.upd_pending); (with_reducible apply Within.upd_sched); rfl)
    | with_reducible intro _
    | with_reducible show Within _ _ (ite _ _ _)
    | ((with_reducible show Within _ _ (id _)); exact Within.refl _ _)
    | dsimp +zetaDelta only
    | ((fail_if_success with_reducible apply Within.upd_pending); (with_reducible apply Within.upd_sched); rfl)

theorem State.leaveQueue_step {a1 : _} {a2 : _} {a3 : _} {m : Nat} {r s : State} (c : 336 &&& m = 336) (h : Within m r s) :
    Within m r (State.leaveQueue s a1 a2 a3) := Within.step (State.leaveQueue_within s a1 a2 a3) c h

theorem State.polStand_within : ∀ (s : State) a1 a2, Within 64 s (State.polStand s a1 a2) := by
  intro s a1 a2
  unfold State.polStand
  repeat' first
    | with_reducible exact Within.refl _ _
    | assumption
    | ((with_reducible apply State.setPolBucket_step); rfl)
    | ((with_reducible apply Within.stepEach); intro _ _)
    | split
    | extract_lets
    | with_reducible intro _
    | with_reducible show Within _ _ (ite _ _ _)
    | ((with_reducible show Within _ _ (id _)); exact Within.refl _ _)
    | dsimp +zetaDelta only

theorem State.polStand_step {a1 : _} {a2 : _} {m : Nat} {r s : State} (c : 64 &&& m = 64) (h : Within m r s) :
    Within m r (State.polStand s a1 a2) := Within.step (State.polStand_within s a1 a2) c h

theorem State.polModeWrite_within : ∀ (s : State) a1 a2 a3 a4, Within 66 s (State.polModeWrite s a1 a2 a3 a4) := by
  intro s a1 a2 a3 a4
  unfold State.polModeWrite
  repeat' first
    | with_reducible exact Within.refl _ _
    | assumption
    | ((with_reducible apply State.polStand_step); rfl)
    | ((with_reducible apply State.store_step); rfl)
    | ((with_reducible apply Within.stepEach); intro _ _)
    | split
    | extract_lets
    | with_reducible intro _
    | with_reducible show Within _ _ (ite _ _ _)
    | ((with_reducible show Within _ _ (id _)); exact Within.refl _ _)
    | dsimp +zetaDelta only

theorem State.polModeWrite_step {a1 : _} {a2 : _} {a3 : _} {a4 : _} {m : Nat} {r s : State} (c : 66 &&& m = 66) (h : Within m r s) :
    Within m r (State.polModeWrite s a1 a2 a3 a4) := Within.step (State.polModeWrite_within s a1 a2 a3 a4) c h

theorem State.sendFrom_within : ∀ (s : State) a1 a2 a3, Within 5369301332 s (State.sendFrom s a1 a2 a3) := by
  intro s a1 a2 a3
  unfold State.sendFrom
  repeat' first
    | with_reducible exact Within.refl _ _
    | assumption
    | ((with_reducible apply State.leaveQueue_step); rfl)
    | ((with_reducible apply State.transmit_step); rfl)
    | ((with_reducible apply State.chargeBoth_step); rfl)
    | ((with_reducible apply Within.stepEach); intro _ _)
    | split
    | extract_lets
    | ((fail_if_success with_reducible apply Within.upd_pending); (with_reducible apply Within.upd_dp); rfl)
    | with_reducible intro _
    | with_reducible show Within _ _ (ite _ _ _)
    | ((with_reducible show Within _ _ (id _)); exact Within.refl _ _)
    | dsimp +zetaDelta only
    | ((fail_if_success with_reducible apply Within.upd_pending); (with_reducible apply Within.upd_dp); rfl)

theorem State.sendFrom_step {a1 : _} {a2 : _} {a3 : _} {m : Nat} {r s : State} (c : 5369301332 &&& m = 5369301332) (h : Within m r s) :
    Within m r (State.sendFrom s a1 a2 a3) := Within.step (State.sendFrom_within s a1 a2 a3) c h

theorem State.schedule_within : ∀ (s : State) a1, Within 5369301332 s (State.schedule s a1) := by
  intro s a1
  unfold State.schedule
  repeat' first
    | with_reducible exact Within.refl _ _
    | assumption
    | ((with_reducible apply State.sendFrom_step); rfl)
    | ((with_reducible apply State.choose_step); rfl)
    | (with_reducible refine Within.step (Within.ofSnd (by assumption) (State.choose_within _ _)) rfl ?_)
    | ((with_reducible apply Within.stepEach); intro _ _)
    | split
    | extract_lets
    | with_reducible intro _
    | with_reducible show Within _ _ (ite _ _ _)
    | ((with_reducible show Within _ _ (id _)); exact Within.refl _ _)
    | dsimp +zetaDelta only

theorem State.schedule_step {a1 : _} {m : Nat} {r s : State} (c : 5369301332 &&& m = 5369301332) (h : Within m r s) :
    Within m r (State.schedule s a1) := Within.step (State.schedule_within s a1) c h

theorem State.unitTake_within : ∀ (s : State) a1 a2 a3, Within 1073741840 s (State.unitTake s a1 a2 a3) := by
  intro s a1 a2 a3
  unfold State.unitTake
  repeat' first
    | with_reducible exact Within.refl _ _
    | assumption
    | ((with_reducible apply State.setUnitIn_step); rfl)
    | ((with_reducible apply State.setXing_step); rfl)
    | ((with_reducible apply Within.stepEach); intro _ _)
    | split
    | extract_lets
    | with_reducible intro _
    | with_reducible show Within _ _ (ite _ _ _)
    | ((with_reducible show Within _ _ (id _)); exact Within.refl _ _)
    | dsimp +zetaDelta only

theorem State.unitTake_step {a1 : _} {a2 : _} {a3 : _} {m : Nat} {r s : State} (c : 1073741840 &&& m = 1073741840) (h : Within m r s) :
    Within m r (State.unitTake s a1 a2 a3) := Within.step (State.unitTake_within s a1 a2 a3) c h

theorem execPolicerBucketWrite_within : ∀ a0 a1 a2 a3 (s : State), WithinNext 939524166 s (execPolicerBucketWrite a0 a1 a2 a3 s) := by
  intro a0 a1 a2 a3 s
  unfold execPolicerBucketWrite
  repeat' first
    | with_reducible exact Within.refl _ _
    | assumption
    | ((with_reducible apply State.setPolBucket_step); rfl)
    | ((with_reducible apply State.store_step); rfl)
    | ((with_reducible apply State.gate_step); rfl)
    | with_reducible apply WithinNext.ok
    | exact WithinNext.fault _
    | ((with_reducible apply Within.stepEach); intro _ _)
    | split
    | extract_lets
    | with_reducible intro _
    | with_reducible show Within _ _ (ite _ _ _)
    | ((with_reducible show Within _ _ (id _)); exact Within.refl _ _)
    | dsimp +zetaDelta only

theorem execPolicerBucketWrite_next {a0 : _} {a1 : _} {a2 : _} {a3 : _} {m : Nat} {s : State} (c : 939524166 &&& m = 939524166) :
    WithinNext m s (execPolicerBucketWrite a0 a1 a2 a3 s) := WithinNext.mono (execPolicerBucketWrite_within a0 a1 a2 a3 s) c

theorem execShaperWrite_within : ∀ a0 a1 a2 (s : State), WithinNext 939524166 s (execShaperWrite a0 a1 a2 s) := by
  intro a0 a1 a2 s
  unfold execShaperWrite
  repeat' first
    | with_reducible exact Within.refl _ _
    | assumption
    | ((with_reducible apply State.setShaper_step); rfl)
    | ((with_reducible apply State.store_step); rfl)
    | ((with_reducible apply State.gate_step); rfl)
    | with_reducible apply WithinNext.ok
    | exact WithinNext.fault _
    | ((with_reducible apply Within.stepEach); intro _ _)
    | split
    | extract_lets
    | with_reducible intro _
    | with_reducible show Within _ _ (ite _ _ _)
    | ((with_reducible show Within _ _ (id _)); exact Within.refl _ _)
    | dsimp +zetaDelta only

theorem execShaperWrite_next {a0 : _} {a1 : _} {a2 : _} {m : Nat} {s : State} (c : 939524166 &&& m = 939524166) :
    WithinNext m s (execShaperWrite a0 a1 a2 s) := WithinNext.mono (execShaperWrite_within a0 a1 a2 s) c

theorem execWheelOverflowRescan_within : ∀ a0 (s : State), WithinNext 64 s (execWheelOverflowRescan a0 s) := by
  intro a0 s
  unfold execWheelOverflowRescan
  repeat' first
    | with_reducible exact Within.refl _ _
    | assumption
    | with_reducible apply WithinNext.ok
    | exact WithinNext.fault _
    | ((with_reducible apply Within.stepEach); intro _ _)
    | split
    | extract_lets
    | ((fail_if_success with_reducible apply Within.upd_pending); (with_reducible apply Within.upd_sched); rfl)
    | with_reducible intro _
    | with_reducible show Within _ _ (ite _ _ _)
    | ((with_reducible show Within _ _ (id _)); exact Within.refl _ _)
    | dsimp +zetaDelta only
    | ((fail_if_success with_reducible apply Within.upd_pending); (with_reducible apply Within.upd_sched); rfl)

theorem execWheelOverflowRescan_next {a0 : _} {m : Nat} {s : State} (c : 64 &&& m = 64) :
    WithinNext m s (execWheelOverflowRescan a0 s) := WithinNext.mono (execWheelOverflowRescan_within a0 s) c

theorem execEgressSchedule_within : ∀ a0 (s : State), WithinNext 5369301332 s (execEgressSchedule a0 s) := by
  intro a0 s
  unfold execEgressSchedule
  repeat' first
    | with_reducible exact Within.refl _ _
    | assumption
    | ((with_reducible apply State.schedule_step); rfl)
    | with_reducible apply WithinNext.ok
    | exact WithinNext.fault _
    | ((with_reducible apply Within.stepEach); intro _ _)
    | split
    | extract_lets
    | with_reducible intro _
    | with_reducible show Within _ _ (ite _ _ _)
    | ((with_reducible show Within _ _ (id _)); exact Within.refl _ _)
    | dsimp +zetaDelta only

theorem execEgressSchedule_next {a0 : _} {m : Nat} {s : State} (c : 5369301332 &&& m = 5369301332) :
    WithinNext m s (execEgressSchedule a0 s) := WithinNext.mono (execEgressSchedule_within a0 s) c


/-! ## Machine/Clock.lean -/

theorem State.admitSpan_within : ∀ (s : State) a1, Within 4 s (State.admitSpan s a1) := by
  intro s a1
  unfold State.admitSpan
  repeat' first
    | with_reducible exact Within.refl _ _
    | assumption
    | ((with_reducible apply State.bump_step); rfl)
    | ((with_reducible apply Within.stepEach); intro _ _)
    | split
    | extract_lets
    | with_reducible intro _
    | with_reducible show Within _ _ (ite _ _ _)
    | ((with_reducible show Within _ _ (id _)); exact Within.refl _ _)
    | dsimp +zetaDelta only

theorem State.admitSpan_step {a1 : _} {m : Nat} {r s : State} (c : 4 &&& m = 4) (h : Within m r s) :
    Within m r (State.admitSpan s a1) := Within.step (State.admitSpan_within s a1) c h

theorem State.stallSpan_within : ∀ (s : State) a1 a2, Within 2147483652 s (State.stallSpan s a1 a2) := by
  intro s a1 a2
  unfold State.stallSpan
  repeat' first
    | with_reducible exact Within.refl _ _
    | assumption
    | ((with_reducible apply State.countCycles_step); rfl)
    | ((with_reducible apply Within.stepEach); intro _ _)
    | split
    | extract_lets
    | with_reducible intro _
    | with_reducible show Within _ _ (ite _ _ _)
    | ((with_reducible show Within _ _ (id _)); exact Within.refl _ _)
    | dsimp +zetaDelta only

theorem State.stallSpan_step {a1 : _} {a2 : _} {m : Nat} {r s : State} (c : 2147483652 &&& m = 2147483652) (h : Within m r s) :
    Within m r (State.stallSpan s a1 a2) := Within.step (State.stallSpan_within s a1 a2) c h

theorem State.attribute_within : ∀ (s : State) a1, Within 3221225476 s (State.attribute s a1) := by
  intro s a1
  unfold State.attribute
  repeat' first
    | with_reducible exact Within.refl _ _
    | assumption
    | ((with_reducible apply State.admitSpan_step); rfl)
    | ((with_reducible apply State.stallSpan_step); rfl)
    | ((with_reducible apply Within.stepEach); intro _ _)
    | split
    | extract_lets
    | ((fail_if_success with_reducible apply Within.upd_pending); (with_reducible apply Within.upd_cnt_xings); rfl)
    | with_reducible intro _
    | with_reducible show Within _ _ (ite _ _ _)
    | ((with_reducible show Within _ _ (id _)); exact Within.refl _ _)
    | dsimp +zetaDelta only
    | ((fail_if_success with_reducible apply Within.upd_pending); (with_reducible apply Within.upd_cnt_xings); rfl)

theorem State.attribute_step {a1 : _} {m : Nat} {r s : State} (c : 3221225476 &&& m = 3221225476) (h : Within m r s) :
    Within m r (State.attribute s a1) := Within.step (State.attribute_within s a1) c h

theorem State.reach_within : ∀ (s : State) a1, Within 7549747205 s (State.reach s a1) := by
  intro s a1
  unfold State.reach
  repeat' first
    | with_reducible exact Within.refl _ _
    | assumption
    | ((with_reducible apply State.alertStep_step); rfl)
    | ((with_reducible apply State.attribute_step); rfl)
    | ((with_reducible apply Within.stepEach); intro _ _)
    | split
    | extract_lets
    | ((fail_if_success with_reducible apply Within.upd_pending); (with_reducible apply Within.upd_clk); rfl)
    | ((fail_if_success with_reducible apply Within.upd_pending); (with_reducible apply Within.upd_i3c_out); rfl)
    | with_reducible intro _
    | with_reducible show Within _ _ (ite _ _ _)
    | ((with_reducible show Within _ _ (id _)); exact Within.refl _ _)
    | dsimp +zetaDelta only
    | ((fail_if_success with_reducible apply Within.upd_pending); (with_reducible apply Within.upd_clk); rfl)
    | ((fail_if_success with_reducible apply Within.upd_pending); (with_reducible apply Within.upd_i3c_out); rfl)

theorem State.reach_step {a1 : _} {m : Nat} {r s : State} (c : 7549747205 &&& m = 7549747205) (h : Within m r s) :
    Within m r (State.reach s a1) := Within.step (State.reach_within s a1) c h

theorem State.takeSlot_within : ∀ (s : State) a1, Within 7549747221 s (State.takeSlot s a1) := by
  intro s a1
  unfold State.takeSlot
  repeat' first
    | with_reducible exact Within.refl _ _
    | assumption
    | ((with_reducible apply State.reach_step); rfl)
    | ((with_reducible apply Within.stepEach); intro _ _)
    | split
    | extract_lets
    | ((fail_if_success with_reducible apply Within.upd_pending); (with_reducible apply Within.upd_dp); rfl)
    | with_reducible intro _
    | with_reducible show Within _ _ (ite _ _ _)
    | ((with_reducible show Within _ _ (id _)); exact Within.refl _ _)
    | dsimp +zetaDelta only
    | ((fail_if_success with_reducible apply Within.upd_pending); (with_reducible apply Within.upd_dp); rfl)

theorem State.takeSlot_step {a1 : _} {m : Nat} {r s : State} (c : 7549747221 &&& m = 7549747221) (h : Within m r s) :
    Within m r (State.takeSlot s a1) := Within.step (State.takeSlot_within s a1) c h

theorem execHeaderLookup_within : ∀ a0 a1 (s : State), WithinNext 16140208597 s (execHeaderLookup a0 a1 s) := by
  intro a0 a1 s
  unfold execHeaderLookup
  repeat' first
    | with_reducible exact Within.refl _ _
    | assumption
    | ((with_reducible apply State.lookupFrame_step); rfl)
    | ((with_reducible apply State.bankWrite_step); rfl)
    | ((with_reducible apply State.takeSlot_step); rfl)
    | ((with_reducible apply State.setHq_step); rfl)
    | ((with_reducible apply State.countCycle_step); rfl)
    | ((with_reducible apply State.lookup_step); rfl)
    | with_reducible apply WithinNext.ok
    | exact WithinNext.fault _
    | ((with_reducible apply Within.stepEach); intro _ _)
    | split
    | extract_lets
    | ((fail_if_success with_reducible apply Within.upd_pending); (with_reducible apply Within.upd_dp); rfl)
    | with_reducible intro _
    | with_reducible show Within _ _ (ite _ _ _)
    | ((with_reducible show Within _ _ (id _)); exact Within.refl _ _)
    | dsimp +zetaDelta only
    | ((fail_if_success with_reducible apply Within.upd_pending); (with_reducible apply Within.upd_dp); rfl)

theorem execHeaderLookup_next {a0 : _} {a1 : _} {m : Nat} {s : State} (c : 16140208597 &&& m = 16140208597) :
    WithinNext m s (execHeaderLookup a0 a1 s) := WithinNext.mono (execHeaderLookup_within a0 a1 s) c


/-! ## Machine/Queues.lean -/

theorem State.moveOffPort_within : ∀ (s : State) a1, Within 13824952788 s (State.moveOffPort s a1) := by
  intro s a1
  unfold State.moveOffPort
  repeat' first
    | with_reducible exact Within.refl _ _
    | assumption
    | ((with_reducible apply State.moveOff_step); rfl)
    | ((with_reducible apply Within.stepEach); intro _ _)
    | split
    | extract_lets
    | with_reducible intro _
    | with_reducible show Within _ _ (ite _ _ _)
    | ((with_reducible show Within _ _ (id _)); exact Within.refl _ _)
    | dsimp +zetaDelta only

theorem State.moveOffPort_step {a1 : _} {m : Nat} {r s : State} (c : 13824952788 &&& m = 13824952788) (h : Within m r s) :
    Within m r (State.moveOffPort s a1) := Within.step (State.moveOffPort_within s a1) c h

theorem State.status_within : ∀ (s : State) a1 a2, Within 2 s (State.status s a1 a2) := by
  intro s a1 a2
  unfold State.status
  repeat' first
    | with_reducible exact Within.refl _ _
    | assumption
    | ((with_reducible apply State.setF_step); rfl)
    | ((with_reducible apply Within.stepEach); intro _ _)
    | split
    | extract_lets
    | with_reducible intro _
    | with_reducible show Within _ _ (ite _ _ _)
    | ((with_reducible show Within _ _ (id _)); exact Within.refl _ _)
    | dsimp +zetaDelta only

theorem State.status_step {a1 : _} {a2 : _} {m : Nat} {r s : State} (c : 2 &&& m = 2) (h : Within m r s) :
    Within m r (State.status s a1 a2) := Within.step (State.status_within s a1 a2) c h

theorem State.bankNext_within : ∀ (s : State) a1 a2, Within 272 s (State.bankNext s a1 a2) := by
  intro s a1 a2
  unfold State.bankNext
  repeat' first
    | with_reducible exact Within.refl _ _
    | assumption
    | ((with_reducible apply State.bankLeave_step); rfl)
    | ((with_reducible apply State.writeN_step); rfl)
    | ((with_reducible apply Within.stepEach); intro _ _)
    | split
    | extract_lets
    | with_reducible intro _
    | with_reducible show Within _ _ (ite _ _ _)
    | ((with_reducible show Within _ _ (id _)); exact Within.refl _ _)
    | dsimp +zetaDelta only

theorem State.bankNext_step {a1 : _} {a2 : _} {m : Nat} {r s : State} (c : 272 &&& m = 272) (h : Within m r s) :
    Within m r (State.bankNext s a1 a2) := Within.step (State.bankNext_within s a1 a2) c h

theorem State.fwdRead_within : ∀ (s : State) a1 a2 a3 a4, Within 939524102 s (State.fwdRead s a1 a2 a3 a4) := by
  intro s a1 a2 a3 a4
  unfold State.fwdRead
  repeat' first
    | with_reducible exact Within.refl _ _
    | assumption
    | ((with_reducible apply State.wrWords_step); rfl)
    | ((with_reducible apply State.gate_step); rfl)
    | ((with_reducible apply State.status_step); rfl)
    | ((with_reducible apply Within.stepEach); intro _ _)
    | split
    | extract_lets
    | with_reducible intro _
    | with_reducible show Within _ _ (ite _ _ _)
    | ((with_reducible show Within _ _ (id _)); exact Within.refl _ _)
    | dsimp +zetaDelta only

theorem State.fwdRead_step {a1 : _} {a2 : _} {a3 : _} {a4 : _} {m : Nat} {r s : State} (c : 939524102 &&& m = 939524102) (h : Within m r s) :
    Within m r (State.fwdRead s a1 a2 a3 a4) := Within.step (State.fwdRead_within s a1 a2 a3 a4) c h

theorem State.returnItem_within : ∀ (s : State) a1 a2, Within 16 s (State.returnItem s a1 a2) := by
  intro s a1 a2
  unfold State.returnItem
  repeat' first
    | with_reducible exact Within.refl _ _
    | assumption
    | ((with_reducible apply State.writeCells_step); rfl)
    | ((with_reducible apply Within.stepEach); intro _ _)
    | split
    | extract_lets
    | ((fail_if_success with_reducible apply Within.upd_pending); (with_reducible apply Within.upd_dp); rfl)
    | with_reducible intro _
    | with_reducible show Within _ _ (ite _ _ _)
    | ((with_reducible show Within _ _ (id _)); exact Within.refl _ _)
    | dsimp +zetaDelta only
    | ((fail_if_success with_reducible apply Within.upd_pending); (with_reducible apply Within.upd_dp); rfl)

theorem State.returnItem_step {a1 : _} {a2 : _} {m : Nat} {r s : State} (c : 16 &&& m = 16) (h : Within m r s) :
    Within m r (State.returnItem s a1 a2) := Within.step (State.returnItem_within s a1 a2) c h

theorem State.returned_within : ∀ (s : State) a1 a2 a3, Within 4295491860 s (State.returned s a1 a2 a3) := by
  intro s a1 a2 a3
  unfold State.returned
  repeat' first
    | with_reducible exact Within.refl _ _
    | assumption
    | ((with_reducible apply State.dropItem_step); rfl)
    | ((with_reducible apply State.returnItem_step); rfl)
    | ((with_reducible apply Within.stepEach); intro _ _)
    | split
    | extract_lets
    | with_reducible intro _
    | with_reducible show Within _ _ (ite _ _ _)
    | ((with_reducible show Within _ _ (id _)); exact Within.refl _ _)
    | dsimp +zetaDelta only

theorem State.returned_step {a1 : _} {a2 : _} {a3 : _} {m : Nat} {r s : State} (c : 4295491860 &&& m = 4295491860) (h : Within m r s) :
    Within m r (State.returned s a1 a2 a3) := Within.step (State.returned_within s a1 a2 a3) c h

theorem execFwdReadShadow_within : ∀ a0 a1 (s : State), WithinNext 939524102 s (execFwdReadShadow a0 a1 s) := by
  intro a0 a1 s
  unfold execFwdReadShadow
  repeat' first
    | with_reducible exact Within.refl _ _
    | assumption
    | ((with_reducible apply State.fwdRead_step); rfl)
    | with_reducible apply WithinNext.ok
    | exact WithinNext.fault _
    | ((with_reducible apply Within.stepEach); intro _ _)
    | split
    | extract_lets
    | with_reducible intro _
    | with_reducible show Within _ _ (ite _ _ _)
    | ((with_reducible show Within _ _ (id _)); exact Within.refl _ _)
    | dsimp +zetaDelta only

theorem execFwdReadShadow_next {a0 : _} {a1 : _} {m : Nat} {s : State} (c : 939524102 &&& m = 939524102) :
    WithinNext m s (execFwdReadShadow a0 a1 s) := WithinNext.mono (execFwdReadShadow_within a0 a1 s) c

theorem execFwdReadActive_within : ∀ a0 a1 (s : State), WithinNext 939524102 s (execFwdReadActive a0 a1 s) := by
  intro a0 a1 s
  unfold execFwdReadActive
  repeat' first
    | with_reducible exact Within.refl _ _
    | assumption
    | ((with_reducible apply State.fwdRead_step); rfl)
    | with_reducible apply WithinNext.ok
    | exact WithinNext.fault _
    | ((with_reducible apply Within.stepEach); intro _ _)
    | split
    | extract_lets
    | with_reducible intro _
    | with_reducible show Within _ _ (ite _ _ _)
    | ((with_reducible show Within _ _ (id _)); exact Within.refl _ _)
    | dsimp +zetaDelta only

theorem execFwdReadActive_next {a0 : _} {a1 : _} {m : Nat} {s : State} (c : 939524102 &&& m = 939524102) :
    WithinNext m s (execFwdReadActive a0 a1 s) := WithinNext.mono (execFwdReadActive_within a0 a1 s) c

theorem execFwdWriteShadow_within : ∀ a0 a1 (s : State), WithinNext 939524134 s (execFwdWriteShadow a0 a1 s) := by
  intro a0 a1 s
  unfold execFwdWriteShadow
  repeat' first
    | with_reducible exact Within.refl _ _
    | assumption
    | ((with_reducible apply State.gate_step); rfl)
    | ((with_reducible apply State.status_step); rfl)
    | with_reducible apply WithinNext.ok
    | exact WithinNext.fault _
    | ((with_reducible apply Within.stepEach); intro _ _)
    | split
    | extract_lets
    | ((fail_if_success with_reducible apply Within.upd_pending); (with_reducible apply Within.upd_tab); rfl)
    | with_reducible intro _
    | with_reducible show Within _ _ (ite _ _ _)
    | ((with_reducible show Within _ _ (id _)); exact Within.refl _ _)
    | dsimp +zetaDelta only
    | ((fail_if_success with_reducible apply Within.upd_pending); (with_reducible apply Within.upd_tab); rfl)

theorem execFwdWriteShadow_next {a0 : _} {a1 : _} {m : Nat} {s : State} (c : 939524134 &&& m = 939524134) :
    WithinNext m s (execFwdWriteShadow a0 a1 s) := WithinNext.mono (execFwdWriteShadow_within a0 a1 s) c

theorem execFwdCommit_within : ∀ a0 (s : State), WithinNext 939524134 s (execFwdCommit a0 s) := by
  intro a0 s
  unfold execFwdCommit
  repeat' first
    | with_reducible exact Within.refl _ _
    | assumption
    | ((with_reducible apply State.setF_step); rfl)
    | ((with_reducible apply State.gate_step); rfl)
    | ((with_reducible apply State.status_step); rfl)
    | with_reducible apply WithinNext.ok
    | exact WithinNext.fault _
    | ((with_reducible apply Within.stepEach); intro _ _)
    | split
    | extract_lets
    | ((fail_if_success with_reducible apply Within.upd_pending); (with_reducible apply Within.upd_tab); rfl)
    | with_reducible intro _
    | with_reducible show Within _ _ (ite _ _ _)
    | ((with_reducible show Within _ _ (id _)); exact Within.refl _ _)
    | dsimp +zetaDelta only
    | ((fail_if_success with_reducible apply Within.upd_pending); (with_reducible apply Within.upd_tab); rfl)

theorem execFwdCommit_next {a0 : _} {m : Nat} {s : State} (c : 939524134 &&& m = 939524134) :
    WithinNext m s (execFwdCommit a0 s) := WithinNext.mono (execFwdCommit_within a0 s) c

theorem execReservationWrite_within : ∀ a0 a1 (s : State), WithinNext 939524102 s (execReservationWrite a0 a1 s) := by
  intro a0 a1 s
  unfold execReservationWrite
  repeat' first
    | with_reducible exact Within.refl _ _
    | assumption
    | ((with_reducible apply State.setF_step); rfl)
    | ((with_reducible apply State.store_step); rfl)
    | ((with_reducible apply State.gate_step); rfl)
    | with_reducible apply WithinNext.ok
    | exact WithinNext.fault _
    | ((with_reducible apply Within.stepEach); intro _ _)
    | split
    | extract_lets
    | with_reducible intro _
    | with_reducible show Within _ _ (ite _ _ _)
    | ((with_reducible show Within _ _ (id _)); exact Within.refl _ _)
    | dsimp +zetaDelta only

theorem execReservationWrite_next {a0 : _} {a1 : _} {m : Nat} {s : State} (c : 939524102 &&& m = 939524102) :
    WithinNext m s (execReservationWrite a0 a1 s) := WithinNext.mono (execReservationWrite_within a0 a1 s) c

theorem execMarkThresholdWrite_within : ∀ a0 a1 (s : State), WithinNext 939524102 s (execMarkThresholdWrite a0 a1 s) := by
  intro a0 a1 s
  unfold execMarkThresholdWrite
  repeat' first
    | with_reducible exact Within.refl _ _
    | assumption
    | ((with_reducible apply State.setF_step); rfl)
    | ((with_reducible apply State.store_step); rfl)
    | ((with_reducible apply State.gate_step); rfl)
    | with_reducible apply WithinNext.ok
    | exact WithinNext.fault _
    | ((with_reducible apply Within.stepEach); intro _ _)
    | split
    | extract_lets
    | with_reducible intro _
    | with_reducible show Within _ _ (ite _ _ _)
    | ((with_reducible show Within _ _ (id _)); exact Within.refl _ _)
    | dsimp +zetaDelta only

theorem execMarkThresholdWrite_next {a0 : _} {a1 : _} {m : Nat} {s : State} (c : 939524102 &&& m = 939524102) :
    WithinNext m s (execMarkThresholdWrite a0 a1 s) := WithinNext.mono (execMarkThresholdWrite_within a0 a1 s) c

theorem execPathWeightWrite_within : ∀ a0 a1 (s : State), WithinNext 13824952790 s (execPathWeightWrite a0 a1 s) := by
  intro a0 a1 s
  unfold execPathWeightWrite
  repeat' first
    | with_reducible exact Within.refl _ _
    | assumption
    | ((with_reducible apply State.store_step); rfl)
    | ((with_reducible apply State.reconsider_step); rfl)
    | ((with_reducible apply State.gate_step); rfl)
    | ((with_reducible apply State.moveOffPort_step); rfl)
    | with_reducible apply WithinNext.ok
    | exact WithinNext.fault _
    | ((with_reducible apply Within.stepEach); intro _ _)
    | split
    | extract_lets
    | with_reducible intro _
    | with_reducible show Within _ _ (ite _ _ _)
    | ((with_reducible show Within _ _ (id _)); exact Within.refl _ _)
    | dsimp +zetaDelta only

theorem execPathWeightWrite_next {a0 : _} {a1 : _} {m : Nat} {s : State} (c : 13824952790 &&& m = 13824952790) :
    WithinNext m s (execPathWeightWrite a0 a1 s) := WithinNext.mono (execPathWeightWrite_within a0 a1 s) c

theorem execPathMarkAckReceive_within : ∀ (s : State), WithinNext 14898760084 s (execPathMarkAckReceive s) := by
  intro s
  unfold execPathMarkAckReceive
  repeat' first
    | with_reducible exact Within.refl _ _
    | assumption
    | ((with_reducible apply State.receiveAck_step); rfl)
    | ((with_reducible apply State.unitTake_step); rfl)
    | with_reducible apply WithinNext.ok
    | exact WithinNext.fault _
    | ((with_reducible apply Within.stepEach); intro _ _)
    | split
    | extract_lets
    | with_reducible intro _
    | with_reducible show Within _ _ (ite _ _ _)
    | ((with_reducible show Within _ _ (id _)); exact Within.refl _ _)
    | dsimp +zetaDelta only

theorem execPathMarkAckReceive_next  {m : Nat} {s : State} (c : 14898760084 &&& m = 14898760084) :
    WithinNext m s (execPathMarkAckReceive s) := WithinNext.mono (execPathMarkAckReceive_within s) c

theorem execAgeLimitExpiry_within : ∀ a0 a1 (s : State), WithinNext 7550273813 s (execAgeLimitExpiry a0 a1 s) := by
  intro a0 a1 s
  unfold execAgeLimitExpiry
  repeat' first
    | with_reducible exact Within.refl _ _
    | assumption
    | ((with_reducible apply State.dropItem_step); rfl)
    | ((with_reducible apply State.mcDone_step); rfl)
    | ((with_reducible apply State.entered_step); rfl)
    | ((with_reducible apply State.countDrop_step); rfl)
    | ((with_reducible apply State.reach_step); rfl)
    | ((with_reducible apply State.setWaiting_step); rfl)
    | with_reducible apply WithinNext.ok
    | exact WithinNext.fault _
    | ((with_reducible apply Within.stepEach); intro _ _)
    | split
    | extract_lets
    | ((fail_if_success with_reducible apply Within.upd_pending); (with_reducible apply Within.upd_dp); rfl)
    | with_reducible intro _
    | with_reducible show Within _ _ (ite _ _ _)
    | ((with_reducible show Within _ _ (id _)); exact Within.refl _ _)
    | dsimp +zetaDelta only
    | ((fail_if_success with_reducible apply Within.upd_pending); (with_reducible apply Within.upd_dp); rfl)

theorem execAgeLimitExpiry_next {a0 : _} {a1 : _} {m : Nat} {s : State} (c : 7550273813 &&& m = 7550273813) :
    WithinNext m s (execAgeLimitExpiry a0 a1 s) := WithinNext.mono (execAgeLimitExpiry_within a0 a1 s) c

theorem execShaperEligible_within : ∀ a0 a1 (s : State), WithinNext 7549747269 s (execShaperEligible a0 a1 s) := by
  intro a0 a1 s
  unfold execShaperEligible
  repeat' first
    | with_reducible exact Within.refl _ _
    | assumption
    | ((with_reducible apply State.setShaper_step); rfl)
    | ((with_reducible apply State.reach_step); rfl)
    | with_reducible apply WithinNext.ok
    | exact WithinNext.fault _
    | ((with_reducible apply Within.stepEach); intro _ _)
    | split
    | extract_lets
    | with_reducible intro _
    | with_reducible show Within _ _ (ite _ _ _)
    | ((with_reducible show Within _ _ (id _)); exact Within.refl _ _)
    | dsimp +zetaDelta only

theorem execShaperEligible_next {a0 : _} {a1 : _} {m : Nat} {s : State} (c : 7549747269 &&& m = 7549747269) :
    WithinNext m s (execShaperEligible a0 a1 s) := WithinNext.mono (execShaperEligible_within a0 a1 s) c

theorem execSpillWriteConfirm_within : ∀ a0 a1 (s : State), WithinNext 16 s (execSpillWriteConfirm a0 a1 s) := by
  intro a0 a1 s
  unfold execSpillWriteConfirm
  repeat' first
    | with_reducible exact Within.refl _ _
    | assumption
    | ((with_reducible apply State.setQueue_step); rfl)
    | ((with_reducible apply State.readbackQ_step); rfl)
    | with_reducible apply WithinNext.ok
    | exact WithinNext.fault _
    | ((with_reducible apply Within.stepEach); intro _ _)
    | split
    | extract_lets
    | ((fail_if_success with_reducible apply Within.upd_pending); (with_reducible apply Within.upd_dp); rfl)
    | with_reducible intro _
    | with_reducible show Within _ _ (ite _ _ _)
    | ((with_reducible show Within _ _ (id _)); exact Within.refl _ _)
    | dsimp +zetaDelta only
    | ((fail_if_success with_reducible apply Within.upd_pending); (with_reducible apply Within.upd_dp); rfl)

theorem execSpillWriteConfirm_next {a0 : _} {a1 : _} {m : Nat} {s : State} (c : 16 &&& m = 16) :
    WithinNext m s (execSpillWriteConfirm a0 a1 s) := WithinNext.mono (execSpillWriteConfirm_within a0 a1 s) c

theorem execMarkTimeout_within : ∀ a0 a1 (s : State), WithinNext 17079732629 s (execMarkTimeout a0 a1 s) := by
  intro a0 a1 s
  unfold execMarkTimeout
  repeat' first
    | with_reducible exact Within.refl _ _
    | assumption
    | ((with_reducible apply State.reach_step); rfl)
    | ((with_reducible apply State.finishMove_step); rfl)
    | with_reducible apply WithinNext.ok
    | exact WithinNext.fault _
    | ((with_reducible apply Within.stepEach); intro _ _)
    | split
    | extract_lets
    | with_reducible intro _
    | with_reducible show Within _ _ (ite _ _ _)
    | ((with_reducible show Within _ _ (id _)); exact Within.refl _ _)
    | dsimp +zetaDelta only

theorem execMarkTimeout_next {a0 : _} {a1 : _} {m : Nat} {s : State} (c : 17079732629 &&& m = 17079732629) :
    WithinNext m s (execMarkTimeout a0 a1 s) := WithinNext.mono (execMarkTimeout_within a0 a1 s) c

theorem execPacketAdmitRetry_within : ∀ a0 a1 (s : State), WithinNext 12885428628 s (execPacketAdmitRetry a0 a1 s) := by
  intro a0 a1 s
  unfold execPacketAdmitRetry
  repeat' first
    | with_reducible exact Within.refl _ _
    | assumption
    | ((with_reducible apply State.reconsider_step); rfl)
    | ((with_reducible apply offerWaiting_step); rfl)
    | (with_reducible refine Within.step (Within.ofSnd (by assumption) (offerWaiting_within _ _)) rfl ?_)
    | ((with_reducible apply State.setWaiting_step); rfl)
    | with_reducible apply WithinNext.ok
    | exact WithinNext.fault _
    | ((with_reducible apply Within.stepEach); intro _ _)
    | split
    | extract_lets
    | with_reducible intro _
    | with_reducible show Within _ _ (ite _ _ _)
    | ((with_reducible show Within _ _ (id _)); exact Within.refl _ _)
    | dsimp +zetaDelta only

theorem execPacketAdmitRetry_next {a0 : _} {a1 : _} {m : Nat} {s : State} (c : 12885428628 &&& m = 12885428628) :
    WithinNext m s (execPacketAdmitRetry a0 a1 s) := WithinNext.mono (execPacketAdmitRetry_within a0 a1 s) c

theorem execBankWriteRetry_within : ∀ a0 a1 a2 (s : State), WithinNext 2147483924 s (execBankWriteRetry a0 a1 a2 s) := by
  intro a0 a1 a2 s
  unfold execBankWriteRetry
  repeat' first
    | with_reducible exact Within.refl _ _
    | assumption
    | ((with_reducible apply State.bankNext_step); rfl)
    | ((with_reducible apply State.countCycle_step); rfl)
    | with_reducible apply WithinNext.ok
    | exact WithinNext.fault _
    | ((with_reducible apply Within.stepEach); intro _ _)
    | split
    | extract_lets
    | with_reducible intro _
    | with_reducible show Within _ _ (ite _ _ _)
    | ((with_reducible show Within _ _ (id _)); exact Within.refl _ _)
    | dsimp +zetaDelta only

theorem execBankWriteRetry_next {a0 : _} {a1 : _} {a2 : _} {m : Nat} {s : State} (c : 2147483924 &&& m = 2147483924) :
    WithinNext m s (execBankWriteRetry a0 a1 a2 s) := WithinNext.mono (execBankWriteRetry_within a0 a1 a2 s) c

theorem execRateLimitRecover_within : ∀ a0 (s : State), WithinNext 7549747221 s (execRateLimitRecover a0 s) := by
  intro a0 s
  unfold execRateLimitRecover
  repeat' first
    | with_reducible exact Within.refl _ _
    | assumption
    | ((with_reducible apply State.setLimit_step); rfl)
    | ((with_reducible apply State.reach_step); rfl)
    | with_reducible apply WithinNext.ok
    | exact WithinNext.fault _
    | ((with_reducible apply Within.stepEach); intro _ _)
    | split
    | extract_lets
    | with_reducible intro _
    | with_reducible show Within _ _ (ite _ _ _)
    | ((with_reducible show Within _ _ (id _)); exact Within.refl _ _)
    | dsimp +zetaDelta only

theorem execRateLimitRecover_next {a0 : _} {m : Nat} {s : State} (c : 7549747221 &&& m = 7549747221) :
    WithinNext m s (execRateLimitRecover a0 s) := WithinNext.mono (execRateLimitRecover_within a0 s) c

theorem execSettleExpiry_within : ∀ a0 a1 (s : State), WithinNext 17079732629 s (execSettleExpiry a0 a1 s) := by
  intro a0 a1 s
  unfold execSettleExpiry
  repeat' first
    | with_reducible exact Within.refl _ _
    | assumption
    | ((with_reducible apply State.endSettle_step); rfl)
    | ((with_reducible apply State.reach_step); rfl)
    | with_reducible apply WithinNext.ok
    | exact WithinNext.fault _
    | ((with_reducible apply Within.stepEach); intro _ _)
    | split
    | extract_lets
    | with_reducible intro _
    | with_reducible show Within _ _ (ite _ _ _)
    | ((with_reducible show Within _ _ (id _)); exact Within.refl _ _)
    | dsimp +zetaDelta only

theorem execSettleExpiry_next {a0 : _} {a1 : _} {m : Nat} {s : State} (c : 17079732629 &&& m = 17079732629) :
    WithinNext m s (execSettleExpiry a0 a1 s) := WithinNext.mono (execSettleExpiry_within a0 a1 s) c

theorem execPathMarkAckSend_within : ∀ (s : State), WithinNext 16 s (execPathMarkAckSend s) := by
  intro s
  unfold execPathMarkAckSend
  repeat' first
    | with_reducible exact Within.refl _ _
    | assumption
    | ((with_reducible apply State.originate_step); rfl)
    | with_reducible apply WithinNext.ok
    | exact WithinNext.fault _
    | ((with_reducible apply Within.stepEach); intro _ _)
    | split
    | extract_lets
    | ((fail_if_success with_reducible apply Within.upd_pending); (with_reducible apply Within.upd_dp); rfl)
    | with_reducible intro _
    | with_reducible show Within _ _ (ite _ _ _)
    | ((with_reducible show Within _ _ (id _)); exact Within.refl _ _)
    | dsimp +zetaDelta only
    | ((fail_if_success with_reducible apply Within.upd_pending); (with_reducible apply Within.upd_dp); rfl)

theorem execPathMarkAckSend_next  {m : Nat} {s : State} (c : 16 &&& m = 16) :
    WithinNext m s (execPathMarkAckSend s) := WithinNext.mono (execPathMarkAckSend_within s) c

theorem execNopathTimeout_within : ∀ (s : State), WithinNext 7550273813 s (execNopathTimeout s) := by
  intro s
  unfold execNopathTimeout
  repeat' first
    | with_reducible exact Within.refl _ _
    | assumption
    | ((with_reducible apply State.dropItem_step); rfl)
    | ((with_reducible apply State.entered_step); rfl)
    | ((with_reducible apply State.reach_step); rfl)
    | with_reducible apply WithinNext.ok
    | exact WithinNext.fault _
    | ((with_reducible apply Within.stepEach); intro _ _)
    | split
    | extract_lets
    | ((fail_if_success with_reducible apply Within.upd_pending); (with_reducible apply Within.upd_dp); rfl)
    | with_reducible intro _
    | with_reducible show Within _ _ (ite _ _ _)
    | ((with_reducible show Within _ _ (id _)); exact Within.refl _ _)
    | dsimp +zetaDelta only
    | ((fail_if_success with_reducible apply Within.upd_pending); (with_reducible apply Within.upd_dp); rfl)

theorem execNopathTimeout_next  {m : Nat} {s : State} (c : 7550273813 &&& m = 7550273813) :
    WithinNext m s (execNopathTimeout s) := WithinNext.mono (execNopathTimeout_within s) c

theorem execPathMarkReceive_within : ∀ (s : State), WithinNext 33044 s (execPathMarkReceive s) := by
  intro s
  unfold execPathMarkReceive
  repeat' first
    | with_reducible exact Within.refl _ _
    | assumption
    | ((with_reducible apply State.markSeq_step); rfl)
    | ((with_reducible apply State.bankLeave_step); rfl)
    | ((with_reducible apply State.freeItem_step); rfl)
    | with_reducible apply WithinNext.ok
    | exact WithinNext.fault _
    | ((with_reducible apply Within.stepEach); intro _ _)
    | split
    | extract_lets
    | ((fail_if_success with_reducible apply Within.upd_pending); (with_reducible apply Within.upd_dp); rfl)
    | with_reducible intro _
    | with_reducible show Within _ _ (ite _ _ _)
    | ((with_reducible show Within _ _ (id _)); exact Within.refl _ _)
    | dsimp +zetaDelta only
    | ((fail_if_success with_reducible apply Within.upd_pending); (with_reducible apply Within.upd_dp); rfl)

theorem execPathMarkReceive_next  {m : Nat} {s : State} (c : 33044 &&& m = 33044) :
    WithinNext m s (execPathMarkReceive s) := WithinNext.mono (execPathMarkReceive_within s) c

theorem execShadowCopyDone_within : ∀ (s : State), WithinNext 32 s (execShadowCopyDone s) := by
  intro s
  unfold execShadowCopyDone
  repeat' first
    | with_reducible exact Within.refl _ _
    | assumption
    | with_reducible apply WithinNext.ok
    | exact WithinNext.fault _
    | ((with_reducible apply Within.stepEach); intro _ _)
    | split
    | extract_lets
    | ((fail_if_success with_reducible apply Within.upd_pending); (with_reducible apply Within.upd_tab); rfl)
    | with_reducible intro _
    | with_reducible show Within _ _ (ite _ _ _)
    | ((with_reducible show Within _ _ (id _)); exact Within.refl _ _)
    | dsimp +zetaDelta only
    | ((fail_if_success with_reducible apply Within.upd_pending); (with_reducible apply Within.upd_tab); rfl)

theorem execShadowCopyDone_next  {m : Nat} {s : State} (c : 32 &&& m = 32) :
    WithinNext m s (execShadowCopyDone s) := WithinNext.mono (execShadowCopyDone_within s) c

theorem execDepthRefresh_within : ∀ a0 (s : State), WithinNext 7549747221 s (execDepthRefresh a0 s) := by
  intro a0 s
  unfold execDepthRefresh
  repeat' first
    | with_reducible exact Within.refl _ _
    | assumption
    | ((with_reducible apply State.reach_step); rfl)
    | with_reducible apply WithinNext.ok
    | exact WithinNext.fault _
    | ((with_reducible apply Within.stepEach); intro _ _)
    | split
    | extract_lets
    | ((fail_if_success with_reducible apply Within.upd_pending); (with_reducible apply Within.upd_dp); rfl)
    | with_reducible intro _
    | with_reducible show Within _ _ (ite _ _ _)
    | ((with_reducible show Within _ _ (id _)); exact Within.refl _ _)
    | dsimp +zetaDelta only
    | ((fail_if_success with_reducible apply Within.upd_pending); (with_reducible apply Within.upd_dp); rfl)

theorem execDepthRefresh_next {a0 : _} {m : Nat} {s : State} (c : 7549747221 &&& m = 7549747221) :
    WithinNext m s (execDepthRefresh a0 s) := WithinNext.mono (execDepthRefresh_within a0 s) c

theorem execSpillBlockWrite_within : ∀ a0 a1 (s : State), WithinNext 7549878293 s (execSpillBlockWrite a0 a1 s) := by
  intro a0 a1 s
  unfold execSpillBlockWrite
  repeat' first
    | with_reducible exact Within.refl _ _
    | assumption
    | ((with_reducible apply State.bump_step); rfl)
    | ((with_reducible apply State.setQueue_step); rfl)
    | ((with_reducible apply State.reach_step); rfl)
    | with_reducible apply WithinNext.ok
    | exact WithinNext.fault _
    | ((with_reducible apply Within.stepEach); intro _ _)
    | split
    | extract_lets
    | ((fail_if_success with_reducible apply Within.upd_pending); (with_reducible apply Within.upd_mem); rfl)
    | with_reducible intro _
    | with_reducible show Within _ _ (ite _ _ _)
    | ((with_reducible show Within _ _ (id _)); exact Within.refl _ _)
    | dsimp +zetaDelta only
    | ((fail_if_success with_reducible apply Within.upd_pending); (with_reducible apply Within.upd_mem); rfl)

theorem execSpillBlockWrite_next {a0 : _} {a1 : _} {m : Nat} {s : State} (c : 7549878293 &&& m = 7549878293) :
    WithinNext m s (execSpillBlockWrite a0 a1 s) := WithinNext.mono (execSpillBlockWrite_within a0 a1 s) c

theorem execSpillBlockReturn_within : ∀ a0 a1 a2 (s : State), WithinNext 4295491924 s (execSpillBlockReturn a0 a1 a2 s) := by
  intro a0 a1 a2 s
  unfold execSpillBlockReturn
  repeat' first
    | with_reducible exact Within.refl _ _
    | assumption
    | ((with_reducible apply State.setQueue_step); rfl)
    | ((with_reducible apply State.emptied_step); rfl)
    | ((with_reducible apply State.returned_step); rfl)
    | ((with_reducible apply State.readbackQ_step); rfl)
    | with_reducible apply WithinNext.ok
    | exact WithinNext.fault _
    | ((with_reducible apply Within.stepEach); intro _ _)
    | split
    | extract_lets
    | ((fail_if_success with_reducible apply Within.upd_pending); (with_reducible apply Within.upd_dp); rfl)
    | with_reducible intro _
    | with_reducible show Within _ _ (ite _ _ _)
    | ((with_reducible show Within _ _ (id _)); exact Within.refl _ _)
    | dsimp +zetaDelta only
    | ((fail_if_success with_reducible apply Within.upd_pending); (with_reducible apply Within.upd_dp); rfl)

theorem execSpillBlockReturn_next {a0 : _} {a1 : _} {a2 : _} {m : Nat} {s : State} (c : 4295491924 &&& m = 4295491924) :
    WithinNext m s (execSpillBlockReturn a0 a1 a2 s) := WithinNext.mono (execSpillBlockReturn_within a0 a1 a2 s) c

end Sys2Proof.Machine
end

