-- ==== Sys2Proof/Laws/FrameHome.lean ====
section
/-!
SUPPORT. Frames of replication, home agents, requesters, Prism and training: one lemma per operation and command, which parts of the state it can change.
-/

set_option linter.all false
namespace Sys2Proof.Machine

/-! ## Machine/Multicast.lean -/

theorem State.mcCharge_within : ∀ (s : State) a1, Within 272 s (State.mcCharge s a1) := by
  intro s a1
  unfold State.mcCharge
  repeat' first
    | with_reducible exact Within.refl _ _
    | assumption
    | ((with_reducible apply State.returnCredits_step); rfl)
    | ((with_reducible apply State.oweCredits_step); rfl)
    | ((with_reducible apply Within.stepEach); intro _ _)
    | split
    | extract_lets
    | ((fail_if_success with_reducible apply Within.upd_pending); (with_reducible apply Within.upd_dp); rfl)
    | with_reducible intro _
    | with_reducible show Within _ _ (ite _ _ _)
    | ((with_reducible show Within _ _ (id _)); exact Within.refl _ _)
    | dsimp +zetaDelta only
    | ((fail_if_success with_reducible apply Within.upd_pending); (with_reducible apply Within.upd_dp); rfl)

theorem State.mcCharge_step {a1 : _} {m : Nat} {r s : State} (c : 272 &&& m = 272) (h : Within m r s) :
    Within m r (State.mcCharge s a1) := Within.step (State.mcCharge_within s a1) c h

theorem State.holdReplica_within : ∀ (s : State) a1 a2 a3, Within 272 s (State.holdReplica s a1 a2 a3) := by
  intro s a1 a2 a3
  unfold State.holdReplica
  repeat' first
    | with_reducible exact Within.refl _ _
    | assumption
    | ((with_reducible apply State.holdForMove_step); rfl)
    | ((with_reducible apply State.mcCharge_step); rfl)
    | ((with_reducible apply Within.stepEach); intro _ _)
    | split
    | extract_lets
    | ((fail_if_success with_reducible apply Within.upd_pending); (with_reducible apply Within.upd_dp); rfl)
    | with_reducible intro _
    | with_reducible show Within _ _ (ite _ _ _)
    | ((with_reducible show Within _ _ (id _)); exact Within.refl _ _)
    | dsimp +zetaDelta only
    | ((fail_if_success with_reducible apply Within.upd_pending); (with_reducible apply Within.upd_dp); rfl)

theorem State.holdReplica_step {a1 : _} {a2 : _} {a3 : _} {m : Nat} {r s : State} (c : 272 &&& m = 272) (h : Within m r s) :
    Within m r (State.holdReplica s a1 a2 a3) := Within.step (State.holdReplica_within s a1 a2 a3) c h

theorem State.mctRead_within : ∀ (s : State) a1 a2, Within 939524102 s (State.mctRead s a1 a2) := by
  intro s a1 a2
  unfold State.mctRead
  repeat' first
    | with_reducible exact Within.refl _ _
    | assumption
    | ((with_reducible apply State.wrWords_step); rfl)
    | ((with_reducible apply State.gate_step); rfl)
    | ((with_reducible apply State.status_step); rfl)
    | ((with_reducible apply Within.stepEach); intro _ _)
    | split
    | extract_lets
    | with_reducible intro _
    | with_reducible show Within _ _ (ite _ _ _)
    | ((with_reducible show Within _ _ (id _)); exact Within.refl _ _)
    | dsimp +zetaDelta only

theorem State.mctRead_step {a1 : _} {a2 : _} {m : Nat} {r s : State} (c : 939524102 &&& m = 939524102) (h : Within m r s) :
    Within m r (State.mctRead s a1 a2) := Within.step (State.mctRead_within s a1 a2) c h

theorem State.offerReplica_within : ∀ (s : State) a1 a2 a3, ∀ t, State.offerReplica s a1 a2 a3 = some t → Within 276 s t := by
  intro s a1 a2 a3
  unfold State.offerReplica
  repeat' first
    | with_reducible exact Within.refl _ _
    | assumption
    | ((with_reducible apply State.holdReplica_step); rfl)
    | ((with_reducible apply State.mcSettle_step); rfl)
    | ((with_reducible apply State.countDrop_step); rfl)
    | ((with_reducible apply State.mcCharge_step); rfl)
    | ((with_reducible apply Within.stepEach); intro _ _)
    | split
    | extract_lets
    | ((fail_if_success with_reducible apply Within.upd_pending); (with_reducible apply Within.upd_dp); rfl)
    | with_reducible intro _
    | with_reducible show Within _ _ (ite _ _ _)
    | ((with_reducible show Within _ _ (id _)); exact Within.refl _ _)
    | contradiction
    | (cases ‹some _ = some _›)
    | (obtain ⟨_, _, rfl⟩ := Option.map_eq_some_iff.mp ‹_›)
    | ((fail_if_success with_reducible apply Within.upd_pending); (with_reducible apply Within.upd_dp); rfl)

theorem offerReplicas_within : ∀ a0 a1 (s : State), Within 276 s (offerReplicas a0 a1 s) := by
  intro a0 a1 s
  induction a1 generalizing a0 s with
  | nil => unfold offerReplicas; exact Within.refl _ _
  | cons x l ih =>
  unfold offerReplicas
  repeat' first
    | with_reducible exact Within.refl _ _
    | assumption
    | (refine Within.step (ih _ _) (Nat.and_self _) ?_)
    | (with_reducible refine Within.step (State.offerReplica_within _ _ _ _ _ (by assumption)) rfl ?_)
    | ((with_reducible apply Within.stepEach); intro _ _)
    | split
    | extract_lets
    | ((fail_if_success with_reducible apply Within.upd_pending); (with_reducible apply Within.upd_dp); rfl)
    | with_reducible intro _
    | with_reducible show Within _ _ (ite _ _ _)
    | ((with_reducible show Within _ _ (id _)); exact Within.refl _ _)
    | dsimp +zetaDelta only
    | ((fail_if_success with_reducible apply Within.upd_pending); (with_reducible apply Within.upd_dp); rfl)

theorem offerReplicas_step {a0 : _} {a1 : _} {m : Nat} {r s : State} (c : 276 &&& m = 276) (h : Within m r s) :
    Within m r (offerReplicas a0 a1 s) := Within.step (offerReplicas_within a0 a1 s) c h

theorem State.replicate_within : ∀ (s : State) a1 a2, Within 12885428500 s (State.replicate s a1 a2).1 := by
  intro s a1 a2
  unfold State.replicate
  repeat' first
    | with_reducible exact Within.refl _ _
    | assumption
    | ((with_reducible apply State.bump_step); rfl)
    | ((with_reducible apply offerReplicas_step); rfl)
    | ((with_reducible apply State.dropItem_step); rfl)
    | ((with_reducible apply State.mcDone_step); rfl)
    | ((with_reducible apply State.entered_step); rfl)
    | ((with_reducible apply State.bumpPort_step); rfl)
    | ((with_reducible apply State.txDone_step); rfl)
    | ((with_reducible apply State.freeItem_step); rfl)
    | ((with_reducible apply Within.stepEach); intro _ _)
    | split
    | extract_lets
    | ((fail_if_success with_reducible apply Within.upd_pending); (with_reducible apply Within.upd_dp); rfl)
    | ((fail_if_success with_reducible apply Within.upd_pending); (with_reducible apply Within.upd_free); rfl)
    | with_reducible intro _
    | with_reducible show Within _ _ (ite _ _ _)
    | ((with_reducible show Within _ _ (id _)); exact Within.refl _ _)
    | dsimp +zetaDelta only
    | ((fail_if_success with_reducible apply Within.upd_pending); (with_reducible apply Within.upd_dp); rfl)
    | ((fail_if_success with_reducible apply Within.upd_pending); (with_reducible apply Within.upd_free); rfl)

theorem State.replicate_step {a1 : _} {a2 : _} {m : Nat} {r s : State} (c : 12885428500 &&& m = 12885428500) (h : Within m r s) :
    Within m r (State.replicate s a1 a2).1 := Within.step (State.replicate_within s a1 a2) c h

theorem execMctWriteShadow_within : ∀ a0 (s : State), WithinNext 939524134 s (execMctWriteShadow a0 s) := by
  intro a0 s
  unfold execMctWriteShadow
  repeat' first
    | with_reducible exact Within.refl _ _
    | assumption
    | ((with_reducible apply State.gate_step); rfl)
    | ((with_reducible apply State.status_step); rfl)
    | with_reducible apply WithinNext.ok
    | exact WithinNext.fault _
    | ((with_reducible apply Within.stepEach); intro _ _)
    | split
    | extract_lets
    | ((fail_if_success with_reducible apply Within.upd_pending); (with_reducible apply Within.upd_tab); rfl)
    | with_reducible intro _
    | with_reducible show Within _ _ (ite _ _ _)
    | ((with_reducible show Within _ _ (id _)); exact Within.refl _ _)
    | dsimp +zetaDelta only
    | ((fail_if_success with_reducible apply Within.upd_pending); (with_reducible apply Within.upd_tab); rfl)

theorem execMctWriteShadow_next {a0 : _} {m : Nat} {s : State} (c : 939524134 &&& m = 939524134) :
    WithinNext m s (execMctWriteShadow a0 s) := WithinNext.mono (execMctWriteShadow_within a0 s) c

theorem execMctReadActive_within : ∀ a0 (s : State), WithinNext 939524102 s (execMctReadActive a0 s) := by
  intro a0 s
  unfold execMctReadActive
  repeat' first
    | with_reducible exact Within.refl _ _
    | assumption
    | ((with_reducible apply State.mctRead_step); rfl)
    | with_reducible apply WithinNext.ok
    | exact WithinNext.fault _
    | ((with_reducible apply Within.stepEach); intro _ _)
    | split
    | extract_lets
    | with_reducible intro _
    | with_reducible show Within _ _ (ite _ _ _)
    | ((with_reducible show Within _ _ (id _)); exact Within.refl _ _)
    | dsimp +zetaDelta only

theorem execMctReadActive_next {a0 : _} {m : Nat} {s : State} (c : 939524102 &&& m = 939524102) :
    WithinNext m s (execMctReadActive a0 s) := WithinNext.mono (execMctReadActive_within a0 s) c

theorem execMctReadShadow_within : ∀ a0 (s : State), WithinNext 939524102 s (execMctReadShadow a0 s) := by
  intro a0 s
  unfold execMctReadShadow
  repeat' first
    | with_reducible exact Within.refl _ _
    | assumption
    | ((with_reducible apply State.mctRead_step); rfl)
    | with_reducible apply WithinNext.ok
    | exact WithinNext.fault _
    | ((with_reducible apply Within.stepEach); intro _ _)
    | split
    | extract_lets
    | with_reducible intro _
    | with_reducible show Within _ _ (ite _ _ _)
    | ((with_reducible show Within _ _ (id _)); exact Within.refl _ _)
    | dsimp +zetaDelta only

theorem execMctReadShadow_next {a0 : _} {m : Nat} {s : State} (c : 939524102 &&& m = 939524102) :
    WithinNext m s (execMctReadShadow a0 s) := WithinNext.mono (execMctReadShadow_within a0 s) c

theorem offerAgain_within : ∀ a0 (s : State), Within 2324 s (offerAgain a0 s) := by
  intro a0 s
  induction a0 generalizing s with
  | nil => unfold offerAgain; exact Within.refl _ _
  | cons x l ih =>
  unfold offerAgain
  repeat' first
    | with_reducible exact Within.refl _ _
    | assumption
    | (refine Within.step (ih _) (Nat.and_self _) ?_)
    | ((with_reducible apply State.mcDone_step); rfl)
    | (with_reducible refine Within.step (State.offerReplica_within _ _ _ _ _ (by assumption)) rfl ?_)
    | ((with_reducible apply Within.stepEach); intro _ _)
    | split
    | extract_lets
    | ((fail_if_success with_reducible apply Within.upd_pending); (with_reducible apply Within.upd_dp); rfl)
    | with_reducible intro _
    | with_reducible show Within _ _ (ite _ _ _)
    | ((with_reducible show Within _ _ (id _)); exact Within.refl _ _)
    | dsimp +zetaDelta only
    | ((fail_if_success with_reducible apply Within.upd_pending); (with_reducible apply Within.upd_dp); rfl)

theorem offerAgain_step {a0 : _} {m : Nat} {r s : State} (c : 2324 &&& m = 2324) (h : Within m r s) :
    Within m r (offerAgain a0 s) := Within.step (offerAgain_within a0 s) c h

theorem execReplicaAdmitRetry_within : ∀ (s : State), WithinNext 2324 s (execReplicaAdmitRetry s) := by
  intro s
  unfold execReplicaAdmitRetry
  repeat' first
    | with_reducible exact Within.refl _ _
    | assumption
    | ((with_reducible apply offerAgain_step); rfl)
    | with_reducible apply WithinNext.ok
    | exact WithinNext.fault _
    | ((with_reducible apply Within.stepEach); intro _ _)
    | split
    | extract_lets
    | ((fail_if_success with_reducible apply Within.upd_pending); (with_reducible apply Within.upd_dp); rfl)
    | with_reducible intro _
    | with_reducible show Within _ _ (ite _ _ _)
    | ((with_reducible show Within _ _ (id _)); exact Within.refl _ _)
    | dsimp +zetaDelta only
    | ((fail_if_success with_reducible apply Within.upd_pending); (with_reducible apply Within.upd_dp); rfl)

theorem execReplicaAdmitRetry_next  {m : Nat} {s : State} (c : 2324 &&& m = 2324) :
    WithinNext m s (execReplicaAdmitRetry s) := WithinNext.mono (execReplicaAdmitRetry_within s) c


/-! ## Machine/Home.lean -/

theorem State.respond_within : ∀ (s : State) a1 a2 a3 a4 a5 a6, Within 16 s (State.respond s a1 a2 a3 a4 a5 a6).2 := by
  intro s a1 a2 a3 a4 a5 a6
  unfold State.respond
  repeat' first
    | with_reducible exact Within.refl _ _
    | assumption
    | ((with_reducible apply State.takeSeq_step); rfl)
    | ((with_reducible apply State.originate_step); rfl)
    | ((with_reducible apply Within.stepEach); intro _ _)
    | split
    | extract_lets
    | with_reducible intro _
    | with_reducible show Within _ _ (ite _ _ _)
    | ((with_reducible show Within _ _ (id _)); exact Within.refl _ _)
    | dsimp +zetaDelta only

theorem State.respond_step {a1 : _} {a2 : _} {a3 : _} {a4 : _} {a5 : _} {a6 : _} {m : Nat} {r s : State} (c : 16 &&& m = 16) (h : Within m r s) :
    Within m r (State.respond s a1 a2 a3 a4 a5 a6).2 := Within.step (State.respond_within s a1 a2 a3 a4 a5 a6) c h

theorem State.idleSource_within : ∀ (s : State) a1 a2, Within 32768 s (State.idleSource s a1 a2) := by
  intro s a1 a2
  unfold State.idleSource
  repeat' first
    | with_reducible exact Within.refl _ _
    | assumption
    | ((with_reducible apply State.setHome_step); rfl)
    | ((with_reducible apply Within.stepEach); intro _ _)
    | split
    | extract_lets
    | with_reducible intro _
    | with_reducible show Within _ _ (ite _ _ _)
    | ((with_reducible show Within _ _ (id _)); exact Within.refl _ _)
    | dsimp +zetaDelta only

theorem State.idleSource_step {a1 : _} {a2 : _} {m : Nat} {r s : State} (c : 32768 &&& m = 32768) (h : Within m r s) :
    Within m r (State.idleSource s a1 a2) := Within.step (State.idleSource_within s a1 a2) c h

theorem State.answer_within : ∀ (s : State) a1 a2 a3 a4 a5 a6, Within 32788 s (State.answer s a1 a2 a3 a4 a5 a6) := by
  intro s a1 a2 a3 a4 a5 a6
  unfold State.answer
  repeat' first
    | with_reducible exact Within.refl _ _
    | assumption
    | ((with_reducible apply State.bump_step); rfl)
    | ((with_reducible apply State.refreshHome_step); rfl)
    | ((with_reducible apply State.setHome_step); rfl)
    | ((with_reducible apply State.respond_step); rfl)
    | (with_reducible refine Within.step (Within.ofSnd (by assumption) (State.respond_within _ _ _ _ _ _ _)) rfl ?_)
    | ((with_reducible apply State.idleSource_step); rfl)
    | ((with_reducible apply Within.stepEach); intro _ _)
    | split
    | extract_lets
    | with_reducible intro _
    | with_reducible show Within _ _ (ite _ _ _)
    | ((with_reducible show Within _ _ (id _)); exact Within.refl _ _)
    | dsimp +zetaDelta only

theorem State.answer_step {a1 : _} {a2 : _} {a3 : _} {a4 : _} {a5 : _} {a6 : _} {m : Nat} {r s : State} (c : 32788 &&& m = 32788) (h : Within m r s) :
    Within m r (State.answer s a1 a2 a3 a4 a5 a6) := Within.step (State.answer_within s a1 a2 a3 a4 a5 a6) c h

theorem State.countAccess_within : ∀ (s : State) a1 a2 a3, Within 131076 s (State.countAccess s a1 a2 a3) := by
  intro s a1 a2 a3
  unfold State.countAccess
  repeat' first
    | with_reducible exact Within.refl _ _
    | assumption
    | ((with_reducible apply State.heatPage_step); rfl)
    | ((with_reducible apply State.cxlBytesCount_step); rfl)
    | ((with_reducible apply Within.stepEach); intro _ _)
    | split
    | extract_lets
    | with_reducible intro _
    | with_reducible show Within _ _ (ite _ _ _)
    | ((with_reducible show Within _ _ (id _)); exact Within.refl _ _)
    | dsimp +zetaDelta only

theorem State.countAccess_step {a1 : _} {a2 : _} {a3 : _} {m : Nat} {r s : State} (c : 131076 &&& m = 131076) (h : Within m r s) :
    Within m r (State.countAccess s a1 a2 a3) := Within.step (State.countAccess_within s a1 a2 a3) c h

theorem State.writeBack_within : ∀ (s : State) a1 a2, Within 163844 s (State.writeBack s a1 a2) := by
  intro s a1 a2
  unfold State.writeBack
  repeat' first
    | with_reducible exact Within.refl _ _
    | assumption
    | ((with_reducible apply State.cxlBytesCount_step); rfl)
    | ((with_reducible apply State.setHome_step); rfl)
    | ((with_reducible apply Within.stepEach); intro _ _)
    | split
    | extract_lets
    | ((fail_if_success with_reducible apply Within.upd_pending); (with_reducible apply Within.upd_mem); rfl)
    | with_reducible intro _
    | with_reducible show Within _ _ (ite _ _ _)
    | ((with_reducible show Within _ _ (id _)); exact Within.refl _ _)
    | dsimp +zetaDelta only
    | ((fail_if_success with_reducible apply Within.upd_pending); (with_reducible apply Within.upd_mem); rfl)

theorem State.writeBack_step {a1 : _} {a2 : _} {m : Nat} {r s : State} (c : 163844 &&& m = 163844) (h : Within m r s) :
    Within m r (State.writeBack s a1 a2) := Within.step (State.writeBack_within s a1 a2) c h

theorem State.lineRoom_within : ∀ (s : State) a1, ∀ t, State.lineRoom s a1 = some t → Within 163844 s t := by
  intro s a1
  unfold State.lineRoom
  repeat' first
    | with_reducible exact Within.refl _ _
    | assumption
    | ((with_reducible apply State.writeBack_step); rfl)
    | ((with_reducible apply Within.stepEach); intro _ _)
    | split
    | extract_lets
    | with_reducible intro _
    | with_reducible show Within _ _ (ite _ _ _)
    | ((with_reducible show Within _ _ (id _)); exact Within.refl _ _)
    | contradiction
    | (cases ‹some _ = some _›)
    | (obtain ⟨_, _, rfl⟩ := Option.map_eq_some_iff.mp ‹_›)

theorem State.touchLine_within : ∀ (s : State) a1 a2, Within 32768 s (State.touchLine s a1 a2) := by
  intro s a1 a2
  unfold State.touchLine
  repeat' first
    | with_reducible exact Within.refl _ _
    | assumption
    | ((with_reducible apply State.setHome_step); rfl)
    | ((with_reducible apply Within.stepEach); intro _ _)
    | split
    | extract_lets
    | with_reducible intro _
    | with_reducible show Within _ _ (ite _ _ _)
    | ((with_reducible show Within _ _ (id _)); exact Within.refl _ _)
    | dsimp +zetaDelta only

theorem State.touchLine_step {a1 : _} {a2 : _} {m : Nat} {r s : State} (c : 32768 &&& m = 32768) (h : Within m r s) :
    Within m r (State.touchLine s a1 a2) := Within.step (State.touchLine_within s a1 a2) c h

theorem State.watch_within : ∀ (s : State) a1 a2, Within 16384 s (State.watch s a1 a2) := by
  intro s a1 a2
  unfold State.watch
  repeat' first
    | with_reducible exact Within.refl _ _
    | assumption
    | ((with_reducible apply Within.stepEach); intro _ _)
    | split
    | extract_lets
    | ((fail_if_success with_reducible apply Within.upd_pending); (with_reducible apply Within.upd_pal); rfl)
    | with_reducible intro _
    | with_reducible show Within _ _ (ite _ _ _)
    | ((with_reducible show Within _ _ (id _)); exact Within.refl _ _)
    | dsimp +zetaDelta only
    | ((fail_if_success with_reducible apply Within.upd_pending); (with_reducible apply Within.upd_pal); rfl)

theorem State.watch_step {a1 : _} {a2 : _} {m : Nat} {r s : State} (c : 16384 &&& m = 16384) (h : Within m r s) :
    Within m r (State.watch s a1 a2) := Within.step (State.watch_within s a1 a2) c h

theorem State.writeLine_within : ∀ (s : State) a1 a2 a3, Within 32768 s (State.writeLine s a1 a2 a3) := by
  intro s a1 a2 a3
  unfold State.writeLine
  repeat' first
    | with_reducible exact Within.refl _ _
    | assumption
    | ((with_reducible apply State.setHome_step); rfl)
    | ((with_reducible apply Within.stepEach); intro _ _)
    | split
    | extract_lets
    | with_reducible intro _
    | with_reducible show Within _ _ (ite _ _ _)
    | ((with_reducible show Within _ _ (id _)); exact Within.refl _ _)
    | dsimp +zetaDelta only

theorem State.writeLine_step {a1 : _} {a2 : _} {a3 : _} {m : Nat} {r s : State} (c : 32768 &&& m = 32768) (h : Within m r s) :
    Within m r (State.writeLine s a1 a2 a3) := Within.step (State.writeLine_within s a1 a2 a3) c h

theorem State.performAtomic_within : ∀ (s : State) a1 a2, Within 49172 s (State.performAtomic s a1 a2) := by
  intro s a1 a2
  unfold State.performAtomic
  repeat' first
    | with_reducible exact Within.refl _ _
    | assumption
    | ((with_reducible apply State.bump_step); rfl)
    | ((with_reducible apply State.answer_step); rfl)
    | ((with_reducible apply State.touchLine_step); rfl)
    | ((with_reducible apply State.watch_step); rfl)
    | ((with_reducible apply State.writeLine_step); rfl)
    | ((with_reducible apply Within.stepEach); intro _ _)
    | split
    | extract_lets
    | with_reducible intro _
    | with_reducible show Within _ _ (ite _ _ _)
    | ((with_reducible show Within _ _ (id _)); exact Within.refl _ _)
    | dsimp +zetaDelta only

theorem State.performAtomic_step {a1 : _} {a2 : _} {m : Nat} {r s : State} (c : 49172 &&& m = 49172) (h : Within m r s) :
    Within m r (State.performAtomic s a1 a2) := Within.step (State.performAtomic_within s a1 a2) c h

theorem State.performPlain_within : ∀ (s : State) a1 a2, Within 180244 s (State.performPlain s a1 a2) := by
  intro s a1 a2
  unfold State.performPlain
  repeat' first
    | with_reducible exact Within.refl _ _
    | assumption
    | ((with_reducible apply State.answer_step); rfl)
    | ((with_reducible apply State.writeBytes_step); rfl)
    | ((with_reducible apply State.countAccess_step); rfl)
    | ((with_reducible apply State.touchLine_step); rfl)
    | ((with_reducible apply State.watch_step); rfl)
    | ((with_reducible apply State.writeLine_step); rfl)
    | ((with_reducible apply State.writeBack_step); rfl)
    | ((with_reducible apply Within.stepEach); intro _ _)
    | split
    | extract_lets
    | with_reducible intro _
    | with_reducible show Within _ _ (ite _ _ _)
    | ((with_reducible show Within _ _ (id _)); exact Within.refl _ _)
    | dsimp +zetaDelta only

theorem State.performPlain_step {a1 : _} {a2 : _} {m : Nat} {r s : State} (c : 180244 &&& m = 180244) (h : Within m r s) :
    Within m r (State.performPlain s a1 a2) := Within.step (State.performPlain_within s a1 a2) c h

theorem State.perform_within : ∀ (s : State) a1 a2, Within 180244 s (State.perform s a1 a2) := by
  intro s a1 a2
  unfold State.perform
  repeat' first
    | with_reducible exact Within.refl _ _
    | assumption
    | ((with_reducible apply State.bump_step); rfl)
    | ((with_reducible apply State.answer_step); rfl)
    | ((with_reducible apply State.performAtomic_step); rfl)
    | ((with_reducible apply State.countAccess_step); rfl)
    | ((with_reducible apply State.setHome_step); rfl)
    | (with_reducible refine Within.step (State.lineRoom_within _ _ _ (by assumption)) rfl ?_)
    | ((with_reducible apply State.performPlain_step); rfl)
    | ((with_reducible apply Within.stepEach); intro _ _)
    | split
    | extract_lets
    | with_reducible intro _
    | with_reducible show Within _ _ (ite _ _ _)
    | ((with_reducible show Within _ _ (id _)); exact Within.refl _ _)
    | dsimp +zetaDelta only

theorem State.perform_step {a1 : _} {a2 : _} {m : Nat} {r s : State} (c : 180244 &&& m = 180244) (h : Within m r s) :
    Within m r (State.perform s a1 a2) := Within.step (State.perform_within s a1 a2) c h

theorem State.replyAgain_within : ∀ (s : State) a1 a2 a3, Within 16 s (State.replyAgain s a1 a2 a3) := by
  intro s a1 a2 a3
  unfold State.replyAgain
  repeat' first
    | with_reducible exact Within.refl _ _
    | assumption
    | ((with_reducible apply State.originate_step); rfl)
    | ((with_reducible apply Within.stepEach); intro _ _)
    | split
    | extract_lets
    | with_reducible intro _
    | with_reducible show Within _ _ (ite _ _ _)
    | ((with_reducible show Within _ _ (id _)); exact Within.refl _ _)
    | dsimp +zetaDelta only

theorem State.replyAgain_step {a1 : _} {a2 : _} {a3 : _} {m : Nat} {r s : State} (c : 16 &&& m = 16) (h : Within m r s) :
    Within m r (State.replyAgain s a1 a2 a3) := Within.step (State.replyAgain_within s a1 a2 a3) c h

theorem State.takeClass_within : ∀ (s : State) a1 a2 a3 a4 a5 a6 a7, Within 1073774612 s (State.takeClass s a1 a2 a3 a4 a5 a6 a7) := by
  intro s a1 a2 a3 a4 a5 a6 a7
  unfold State.takeClass
  repeat' first
    | with_reducible exact Within.refl _ _
    | assumption
    | ((with_reducible apply State.bump_step); rfl)
    | ((with_reducible apply State.refreshHome_step); rfl)
    | ((with_reducible apply State.replyAgain_step); rfl)
    | ((with_reducible apply State.setHome_step); rfl)
    | ((with_reducible apply State.unitTake_step); rfl)
    | ((with_reducible apply State.idleSource_step); rfl)
    | ((with_reducible apply Within.stepEach); intro _ _)
    | split
    | extract_lets
    | with_reducible intro _
    | with_reducible show Within _ _ (ite _ _ _)
    | ((with_reducible show Within _ _ (id _)); exact Within.refl _ _)
    | dsimp +zetaDelta only

theorem State.takeClass_step {a1 : _} {a2 : _} {a3 : _} {a4 : _} {a5 : _} {a6 : _} {a7 : _} {m : Nat} {r s : State} (c : 1073774612 &&& m = 1073774612) (h : Within m r s) :
    Within m r (State.takeClass s a1 a2 a3 a4 a5 a6 a7) := Within.step (State.takeClass_within s a1 a2 a3 a4 a5 a6 a7) c h

theorem State.takeFirst_within : ∀ (s : State) a1 a2 a3 a4 a5, Within 1073774612 s (State.takeFirst s a1 a2 a3 a4 a5) := by
  intro s a1 a2 a3 a4 a5
  unfold State.takeFirst
  repeat' first
    | with_reducible exact Within.refl _ _
    | assumption
    | ((with_reducible apply State.refreshHome_step); rfl)
    | ((with_reducible apply State.setHome_step); rfl)
    | ((with_reducible apply State.unitTake_step); rfl)
    | ((with_reducible apply Within.stepEach); intro _ _)
    | split
    | extract_lets
    | with_reducible intro _
    | with_reducible show Within _ _ (ite _ _ _)
    | ((with_reducible show Within _ _ (id _)); exact Within.refl _ _)
    | dsimp +zetaDelta only

theorem State.takeFirst_step {a1 : _} {a2 : _} {a3 : _} {a4 : _} {a5 : _} {m : Nat} {r s : State} (c : 1073774612 &&& m = 1073774612) (h : Within m r s) :
    Within m r (State.takeFirst s a1 a2 a3 a4 a5) := Within.step (State.takeFirst_within s a1 a2 a3 a4 a5) c h

theorem State.takeRequest_within : ∀ (s : State) a1 a2 a3, Within 1073774612 s (State.takeRequest s a1 a2 a3) := by
  intro s a1 a2 a3
  unfold State.takeRequest
  repeat' first
    | with_reducible exact Within.refl _ _
    | assumption
    | ((with_reducible apply State.takeFirst_step); rfl)
    | ((with_reducible apply State.takeClass_step); rfl)
    | ((with_reducible apply Within.stepEach); intro _ _)
    | split
    | extract_lets
    | with_reducible intro _
    | with_reducible show Within _ _ (ite _ _ _)
    | ((with_reducible show Within _ _ (id _)); exact Within.refl _ _)
    | dsimp +zetaDelta only

theorem State.takeRequest_step {a1 : _} {a2 : _} {a3 : _} {m : Nat} {r s : State} (c : 1073774612 &&& m = 1073774612) (h : Within m r s) :
    Within m r (State.takeRequest s a1 a2 a3) := Within.step (State.takeRequest_within s a1 a2 a3) c h

theorem execTrackerForget_within : ∀ a0 a1 a2 (s : State), WithinNext 939556870 s (execTrackerForget a0 a1 a2 s) := by
  intro a0 a1 a2 s
  unfold execTrackerForget
  repeat' first
    | with_reducible exact Within.refl _ _
    | assumption
    | ((with_reducible apply State.setHome_step); rfl)
    | ((with_reducible apply State.gate_step); rfl)
    | ((with_reducible apply State.status_step); rfl)
    | with_reducible apply WithinNext.ok
    | exact WithinNext.fault _
    | ((with_reducible apply Within.stepEach); intro _ _)
    | split
    | extract_lets
    | with_reducible intro _
    | with_reducible show Within _ _ (ite _ _ _)
    | ((with_reducible show Within _ _ (id _)); exact Within.refl _ _)
    | dsimp +zetaDelta only

theorem execTrackerForget_next {a0 : _} {a1 : _} {a2 : _} {m : Nat} {s : State} (c : 939556870 &&& m = 939556870) :
    WithinNext m s (execTrackerForget a0 a1 a2 s) := WithinNext.mono (execTrackerForget_within a0 a1 a2 s) c

theorem execWindowRead_within : ∀ a0 (s : State), WithinNext 939524102 s (execWindowRead a0 s) := by
  intro a0 s
  unfold execWindowRead
  repeat' first
    | with_reducible exact Within.refl _ _
    | assumption
    | ((with_reducible apply State.wrWords_step); rfl)
    | ((with_reducible apply State.gate_step); rfl)
    | ((with_reducible apply State.status_step); rfl)
    | with_reducible apply WithinNext.ok
    | exact WithinNext.fault _
    | ((with_reducible apply Within.stepEach); intro _ _)
    | split
    | extract_lets
    | with_reducible intro _
    | with_reducible show Within _ _ (ite _ _ _)
    | ((with_reducible show Within _ _ (id _)); exact Within.refl _ _)
    | dsimp +zetaDelta only

theorem execWindowRead_next {a0 : _} {m : Nat} {s : State} (c : 939524102 &&& m = 939524102) :
    WithinNext m s (execWindowRead a0 s) := WithinNext.mono (execWindowRead_within a0 s) c

theorem execWindowWrite_within : ∀ a0 (s : State), WithinNext 939589638 s (execWindowWrite a0 s) := by
  intro a0 s
  unfold execWindowWrite
  repeat' first
    | with_reducible exact Within.refl _ _
    | assumption
    | ((with_reducible apply State.gate_step); rfl)
    | ((with_reducible apply State.status_step); rfl)
    | with_reducible apply WithinNext.ok
    | exact WithinNext.fault _
    | ((with_reducible apply Within.stepEach); intro _ _)
    | split
    | extract_lets
    | ((fail_if_success with_reducible apply Within.upd_pending); (with_reducible apply Within.upd_req); rfl)
    | with_reducible intro _
    | with_reducible show Within _ _ (ite _ _ _)
    | ((with_reducible show Within _ _ (id _)); exact Within.refl _ _)
    | dsimp +zetaDelta only
    | ((fail_if_success with_reducible apply Within.upd_pending); (with_reducible apply Within.upd_req); rfl)

theorem execWindowWrite_next {a0 : _} {m : Nat} {s : State} (c : 939589638 &&& m = 939589638) :
    WithinNext m s (execWindowWrite a0 s) := WithinNext.mono (execWindowWrite_within a0 s) c

theorem drainLine_within : ∀ a0 a1 a2 (s : State), Within 180244 s (drainLine a0 a1 a2 s) := by
  intro a0 a1 a2 s
  induction a2 generalizing a0 a1 s with
  | zero => unfold drainLine; exact Within.refl _ _
  | succ x ih =>
  unfold drainLine
  repeat' first
    | with_reducible exact Within.refl _ _
    | assumption
    | (refine Within.step (ih _ _ _) (Nat.and_self _) ?_)
    | ((with_reducible apply State.perform_step); rfl)
    | ((with_reducible apply Within.stepEach); intro _ _)
    | split
    | extract_lets
    | with_reducible intro _
    | with_reducible show Within _ _ (ite _ _ _)
    | ((with_reducible show Within _ _ (id _)); exact Within.refl _ _)
    | dsimp +zetaDelta only

theorem drainLine_step {a0 : _} {a1 : _} {a2 : _} {m : Nat} {r s : State} (c : 180244 &&& m = 180244) (h : Within m r s) :
    Within m r (drainLine a0 a1 a2 s) := Within.step (drainLine_within a0 a1 a2 s) c h

theorem execTrackerLingerExpiry_within : ∀ a0 a1 a2 (s : State), WithinNext 7549779973 s (execTrackerLingerExpiry a0 a1 a2 s) := by
  intro a0 a1 a2 s
  unfold execTrackerLingerExpiry
  repeat' first
    | with_reducible exact Within.refl _ _
    | assumption
    | ((with_reducible apply State.setHome_step); rfl)
    | ((with_reducible apply State.reach_step); rfl)
    | with_reducible apply WithinNext.ok
    | exact WithinNext.fault _
    | ((with_reducible apply Within.stepEach); intro _ _)
    | split
    | extract_lets
    | with_reducible intro _
    | with_reducible show Within _ _ (ite _ _ _)
    | ((with_reducible show Within _ _ (id _)); exact Within.refl _ _)
    | dsimp +zetaDelta only

theorem execTrackerLingerExpiry_next {a0 : _} {a1 : _} {a2 : _} {m : Nat} {s : State} (c : 7549779973 &&& m = 7549779973) :
    WithinNext m s (execTrackerLingerExpiry a0 a1 a2 s) := WithinNext.mono (execTrackerLingerExpiry_within a0 a1 a2 s) c

theorem execHomeRequestReceive_within : ∀ a0 (s : State), WithinNext 1073774612 s (execHomeRequestReceive a0 s) := by
  intro a0 s
  unfold execHomeRequestReceive
  repeat' first
    | with_reducible exact Within.refl _ _
    | assumption
    | ((with_reducible apply State.setUnitIn_step); rfl)
    | ((with_reducible apply State.takeRequest_step); rfl)
    | ((with_reducible apply State.respond_step); rfl)
    | (with_reducible refine Within.step (Within.ofSnd (by assumption) (State.respond_within _ _ _ _ _ _ _)) rfl ?_)
    | with_reducible apply WithinNext.ok
    | exact WithinNext.fault _
    | ((with_reducible apply Within.stepEach); intro _ _)
    | split
    | extract_lets
    | with_reducible intro _
    | with_reducible show Within _ _ (ite _ _ _)
    | ((with_reducible show Within _ _ (id _)); exact Within.refl _ _)
    | dsimp +zetaDelta only

theorem execHomeRequestReceive_next {a0 : _} {m : Nat} {s : State} (c : 1073774612 &&& m = 1073774612) :
    WithinNext m s (execHomeRequestReceive a0 s) := WithinNext.mono (execHomeRequestReceive_within a0 s) c

theorem execHomeRequestPerform_within : ∀ a0 (s : State), WithinNext 180244 s (execHomeRequestPerform a0 s) := by
  intro a0 s
  unfold execHomeRequestPerform
  repeat' first
    | with_reducible exact Within.refl _ _
    | assumption
    | ((with_reducible apply State.perform_step); rfl)
    | with_reducible apply WithinNext.ok
    | exact WithinNext.fault _
    | ((with_reducible apply Within.stepEach); intro _ _)
    | split
    | extract_lets
    | with_reducible intro _
    | with_reducible show Within _ _ (ite _ _ _)
    | ((with_reducible show Within _ _ (id _)); exact Within.refl _ _)
    | dsimp +zetaDelta only

theorem execHomeRequestPerform_next {a0 : _} {m : Nat} {s : State} (c : 180244 &&& m = 180244) :
    WithinNext m s (execHomeRequestPerform a0 s) := WithinNext.mono (execHomeRequestPerform_within a0 s) c

theorem execLineFill_within : ∀ a0 (s : State), WithinNext 180244 s (execLineFill a0 s) := by
  intro a0 s
  unfold execLineFill
  repeat' first
    | with_reducible exact Within.refl _ _
    | assumption
    | ((with_reducible apply State.cxlBytesCount_step); rfl)
    | ((with_reducible apply State.setHome_step); rfl)
    | ((with_reducible apply drainLine_step); rfl)
    | with_reducible apply WithinNext.ok
    | exact WithinNext.fault _
    | ((with_reducible apply Within.stepEach); intro _ _)
    | split
    | extract_lets
    | with_reducible intro _
    | with_reducible show Within _ _ (ite _ _ _)
    | ((with_reducible show Within _ _ (id _)); exact Within.refl _ _)
    | dsimp +zetaDelta only

theorem execLineFill_next {a0 : _} {m : Nat} {s : State} (c : 180244 &&& m = 180244) :
    WithinNext m s (execLineFill a0 s) := WithinNext.mono (execLineFill_within a0 s) c

theorem execCombiningLineExpiry_within : ∀ a0 (s : State), WithinNext 7549911045 s (execCombiningLineExpiry a0 s) := by
  intro a0 s
  unfold execCombiningLineExpiry
  repeat' first
    | with_reducible exact Within.refl _ _
    | assumption
    | ((with_reducible apply State.reach_step); rfl)
    | ((with_reducible apply State.writeBack_step); rfl)
    | with_reducible apply WithinNext.ok
    | exact WithinNext.fault _
    | ((with_reducible apply Within.stepEach); intro _ _)
    | split
    | extract_lets
    | with_reducible intro _
    | with_reducible show Within _ _ (ite _ _ _)
    | ((with_reducible show Within _ _ (id _)); exact Within.refl _ _)
    | dsimp +zetaDelta only

theorem execCombiningLineExpiry_next {a0 : _} {m : Nat} {s : State} (c : 7549911045 &&& m = 7549911045) :
    WithinNext m s (execCombiningLineExpiry a0 s) := WithinNext.mono (execCombiningLineExpiry_within a0 s) c

theorem execTrackerAllocate_within : ∀ a0 (s : State), WithinNext 32768 s (execTrackerAllocate a0 s) := by
  intro a0 s
  unfold execTrackerAllocate
  repeat' first
    | with_reducible exact Within.refl _ _
    | assumption
    | ((with_reducible apply State.setHome_step); rfl)
    | with_reducible apply WithinNext.ok
    | exact WithinNext.fault _
    | ((with_reducible apply Within.stepEach); intro _ _)
    | split
    | extract_lets
    | with_reducible intro _
    | with_reducible show Within _ _ (ite _ _ _)
    | ((with_reducible show Within _ _ (id _)); exact Within.refl _ _)
    | dsimp +zetaDelta only

theorem execTrackerAllocate_next {a0 : _} {m : Nat} {s : State} (c : 32768 &&& m = 32768) :
    WithinNext m s (execTrackerAllocate a0 s) := WithinNext.mono (execTrackerAllocate_within a0 s) c


/-! ## Machine/Requests.lean -/

theorem State.updDie_within : ∀ (s : State) a1 a2, Within 16384 s (State.updDie s a1 a2) := by
  intro s a1 a2
  unfold State.updDie
  repeat' first
    | with_reducible exact Within.refl _ _
    | assumption
    | ((with_reducible apply Within.stepEach); intro _ _)
    | split
    | extract_lets
    | ((fail_if_success with_reducible apply Within.upd_pending); (with_reducible apply Within.upd_pal); rfl)
    | with_reducible intro _
    | with_reducible show Within _ _ (ite _ _ _)
    | ((with_reducible show Within _ _ (id _)); exact Within.refl _ _)
    | dsimp +zetaDelta only
    | ((fail_if_success with_reducible apply Within.upd_pending); (with_reducible apply Within.upd_pal); rfl)

theorem State.updDie_step {a1 : _} {a2 : _} {m : Nat} {r s : State} (c : 16384 &&& m = 16384) (h : Within m r s) :
    Within m r (State.updDie s a1 a2) := Within.step (State.updDie_within s a1 a2) c h

theorem State.dropReq_within : ∀ (s : State) a1, Within 65536 s (State.dropReq s a1) := by
  intro s a1
  unfold State.dropReq
  repeat' first
    | with_reducible exact Within.refl _ _
    | assumption
    | ((with_reducible apply Within.stepEach); intro _ _)
    | split
    | extract_lets
    | ((fail_if_success with_reducible apply Within.upd_pending); (with_reducible apply Within.upd_req); rfl)
    | with_reducible intro _
    | with_reducible show Within _ _ (ite _ _ _)
    | ((with_reducible show Within _ _ (id _)); exact Within.refl _ _)
    | dsimp +zetaDelta only
    | ((fail_if_success with_reducible apply Within.upd_pending); (with_reducible apply Within.upd_req); rfl)

theorem State.dropReq_step {a1 : _} {m : Nat} {r s : State} (c : 65536 &&& m = 65536) (h : Within m r s) :
    Within m r (State.dropReq s a1) := Within.step (State.dropReq_within s a1) c h

theorem State.issue_within : ∀ (s : State) a1 a2 a3, Within 65552 s (State.issue s a1 a2 a3) := by
  intro s a1 a2 a3
  unfold State.issue
  repeat' first
    | with_reducible exact Within.refl _ _
    | assumption
    | ((with_reducible apply State.takeSeq_step); rfl)
    | ((with_reducible apply State.originate_step); rfl)
    | ((with_reducible apply Within.stepEach); intro _ _)
    | split
    | extract_lets
    | ((fail_if_success with_reducible apply Within.upd_pending); (with_reducible apply Within.upd_req); rfl)
    | with_reducible intro _
    | with_reducible show Within _ _ (ite _ _ _)
    | ((with_reducible show Within _ _ (id _)); exact Within.refl _ _)
    | dsimp +zetaDelta only
    | ((fail_if_success with_reducible apply Within.upd_pending); (with_reducible apply Within.upd_req); rfl)

theorem State.issue_step {a1 : _} {a2 : _} {a3 : _} {m : Nat} {r s : State} (c : 65552 &&& m = 65552) (h : Within m r s) :
    Within m r (State.issue s a1 a2 a3) := Within.step (State.issue_within s a1 a2 a3) c h

theorem State.sendPiece_within : ∀ (s : State) a1 a2 a3, Within 589840 s (State.sendPiece s a1 a2 a3) := by
  intro s a1 a2 a3
  unfold State.sendPiece
  repeat' first
    | with_reducible exact Within.refl _ _
    | assumption
    | ((with_reducible apply State.issue_step); rfl)
    | ((with_reducible apply State.setRing_step); rfl)
    | ((with_reducible apply Within.stepEach); intro _ _)
    | split
    | extract_lets
    | with_reducible intro _
    | with_reducible show Within _ _ (ite _ _ _)
    | ((with_reducible show Within _ _ (id _)); exact Within.refl _ _)
    | dsimp +zetaDelta only

theorem State.sendPiece_step {a1 : _} {a2 : _} {a3 : _} {m : Nat} {r s : State} (c : 589840 &&& m = 589840) (h : Within m r s) :
    Within m r (State.sendPiece s a1 a2 a3) := Within.step (State.sendPiece_within s a1 a2 a3) c h

theorem State.sendMore_within : ∀ (s : State) a1, Within 589840 s (State.sendMore s a1) := by
  intro s a1
  unfold State.sendMore
  repeat' first
    | with_reducible exact Within.refl _ _
    | assumption
    | ((with_reducible apply State.sendPiece_step); rfl)
    | ((with_reducible apply Within.stepEach); intro _ _)
    | split
    | extract_lets
    | with_reducible intro _
    | with_reducible show Within _ _ (ite _ _ _)
    | ((with_reducible show Within _ _ (id _)); exact Within.refl _ _)
    | dsimp +zetaDelta only

theorem State.sendMore_step {a1 : _} {m : Nat} {r s : State} (c : 589840 &&& m = 589840) (h : Within m r s) :
    Within m r (State.sendMore s a1) := Within.step (State.sendMore_within s a1) c h

theorem State.settleDesc_within : ∀ (s : State) a1 a2 a3, Within 4295491588 s (State.settleDesc s a1 a2 a3) := by
  intro s a1 a2 a3
  unfold State.settleDesc
  repeat' first
    | with_reducible exact Within.refl _ _
    | assumption
    | ((with_reducible apply State.endDesc_step); rfl)
    | ((with_reducible apply Within.stepEach); intro _ _)
    | split
    | extract_lets
    | with_reducible intro _
    | with_reducible show Within _ _ (ite _ _ _)
    | ((with_reducible show Within _ _ (id _)); exact Within.refl _ _)
    | dsimp +zetaDelta only

theorem State.settleDesc_step {a1 : _} {a2 : _} {a3 : _} {m : Nat} {r s : State} (c : 4295491588 &&& m = 4295491588) (h : Within m r s) :
    Within m r (State.settleDesc s a1 a2 a3) := Within.step (State.settleDesc_within s a1 a2 a3) c h

theorem State.pieceEnds_within : ∀ (s : State) a1 a2 a3 a4 a5 a6, Within 4295557140 s (State.pieceEnds s a1 a2 a3 a4 a5 a6) := by
  intro s a1 a2 a3 a4 a5 a6
  unfold State.pieceEnds
  repeat' first
    | with_reducible exact Within.refl _ _
    | assumption
    | ((with_reducible apply State.sendMore_step); rfl)
    | ((with_reducible apply State.hostWrites_step); rfl)
    | ((with_reducible apply State.settleDesc_step); rfl)
    | ((with_reducible apply State.setRing_step); rfl)
    | ((with_reducible apply Within.stepEach); intro _ _)
    | split
    | extract_lets
    | with_reducible intro _
    | with_reducible show Within _ _ (ite _ _ _)
    | ((with_reducible show Within _ _ (id _)); exact Within.refl _ _)
    | dsimp +zetaDelta only

theorem State.pieceEnds_step {a1 : _} {a2 : _} {a3 : _} {a4 : _} {a5 : _} {a6 : _} {m : Nat} {r s : State} (c : 4295557140 &&& m = 4295557140) (h : Within m r s) :
    Within m r (State.pieceEnds s a1 a2 a3 a4 a5 a6) := Within.step (State.pieceEnds_within s a1 a2 a3 a4 a5 a6) c h

theorem State.completeReq_within : ∀ (s : State) a1 a2 a3 a4 a5, Within 4295573524 s (State.completeReq s a1 a2 a3 a4 a5) := by
  intro s a1 a2 a3 a4 a5
  unfold State.completeReq
  repeat' first
    | with_reducible exact Within.refl _ _
    | assumption
    | ((with_reducible apply State.updDie_step); rfl)
    | ((with_reducible apply State.dropReq_step); rfl)
    | ((with_reducible apply State.pieceEnds_step); rfl)
    | ((with_reducible apply Within.stepEach); intro _ _)
    | split
    | extract_lets
    | with_reducible intro _
    | with_reducible show Within _ _ (ite _ _ _)
    | ((with_reducible show Within _ _ (id _)); exact Within.refl _ _)
    | dsimp +zetaDelta only

theorem State.completeReq_step {a1 : _} {a2 : _} {a3 : _} {a4 : _} {a5 : _} {m : Nat} {r s : State} (c : 4295573524 &&& m = 4295573524) (h : Within m r s) :
    Within m r (State.completeReq s a1 a2 a3 a4 a5) := Within.step (State.completeReq_within s a1 a2 a3 a4 a5) c h

theorem State.poisonReq_within : ∀ (s : State) a1, Within 5235097620 s (State.poisonReq s a1) := by
  intro s a1
  unfold State.poisonReq
  repeat' first
    | with_reducible exact Within.refl _ _
    | assumption
    | ((with_reducible apply State.bump_step); rfl)
    | ((with_reducible apply State.completeReq_step); rfl)
    | ((with_reducible apply State.raise_step); rfl)
    | ((with_reducible apply Within.stepEach); intro _ _)
    | split
    | extract_lets
    | with_reducible intro _
    | with_reducible show Within _ _ (ite _ _ _)
    | ((with_reducible show Within _ _ (id _)); exact Within.refl _ _)
    | dsimp +zetaDelta only

theorem State.poisonReq_step {a1 : _} {m : Nat} {r s : State} (c : 5235097620 &&& m = 5235097620) (h : Within m r s) :
    Within m r (State.poisonReq s a1) := Within.step (State.poisonReq_within s a1) c h

theorem State.setReq_within : ∀ (s : State) a1, Within 65536 s (State.setReq s a1) := by
  intro s a1
  unfold State.setReq
  repeat' first
    | with_reducible exact Within.refl _ _
    | assumption
    | ((with_reducible apply Within.stepEach); intro _ _)
    | split
    | extract_lets
    | ((fail_if_success with_reducible apply Within.upd_pending); (with_reducible apply Within.upd_req); rfl)
    | with_reducible intro _
    | with_reducible show Within _ _ (ite _ _ _)
    | ((with_reducible show Within _ _ (id _)); exact Within.refl _ _)
    | dsimp +zetaDelta only
    | ((fail_if_success with_reducible apply Within.upd_pending); (with_reducible apply Within.upd_req); rfl)

theorem State.setReq_step {a1 : _} {m : Nat} {r s : State} (c : 65536 &&& m = 65536) (h : Within m r s) :
    Within m r (State.setReq s a1) := Within.step (State.setReq_within s a1) c h

theorem State.holdReq_within : ∀ (s : State) a1, Within 5235097620 s (State.holdReq s a1) := by
  intro s a1
  unfold State.holdReq
  repeat' first
    | with_reducible exact Within.refl _ _
    | assumption
    | ((with_reducible apply State.bump_step); rfl)
    | ((with_reducible apply State.poisonReq_step); rfl)
    | ((with_reducible apply State.setReq_step); rfl)
    | ((with_reducible apply State.raise_step); rfl)
    | ((with_reducible apply Within.stepEach); intro _ _)
    | split
    | extract_lets
    | with_reducible intro _
    | with_reducible show Within _ _ (ite _ _ _)
    | ((with_reducible show Within _ _ (id _)); exact Within.refl _ _)
    | dsimp +zetaDelta only

theorem State.holdReq_step {a1 : _} {m : Nat} {r s : State} (c : 5235097620 &&& m = 5235097620) (h : Within m r s) :
    Within m r (State.holdReq s a1) := Within.step (State.holdReq_within s a1) c h

theorem State.releaseReq_within : ∀ (s : State) a1, Within 4295573524 s (State.releaseReq s a1) := by
  intro s a1
  unfold State.releaseReq
  repeat' first
    | with_reducible exact Within.refl _ _
    | assumption
    | ((with_reducible apply State.bump_step); rfl)
    | ((with_reducible apply State.completeReq_step); rfl)
    | ((with_reducible apply Within.stepEach); intro _ _)
    | split
    | extract_lets
    | with_reducible intro _
    | with_reducible show Within _ _ (ite _ _ _)
    | ((with_reducible show Within _ _ (id _)); exact Within.refl _ _)
    | dsimp +zetaDelta only

theorem State.releaseReq_step {a1 : _} {m : Nat} {r s : State} (c : 4295573524 &&& m = 4295573524) (h : Within m r s) :
    Within m r (State.releaseReq s a1) := Within.step (State.releaseReq_within s a1) c h

theorem execHeldRelease_within : ∀ a0 (s : State), WithinNext 5235097622 s (execHeldRelease a0 s) := by
  intro a0 s
  unfold execHeldRelease
  repeat' first
    | with_reducible exact Within.refl _ _
    | assumption
    | ((with_reducible apply State.releaseReq_step); rfl)
    | ((with_reducible apply State.gate_step); rfl)
    | ((with_reducible apply State.status_step); rfl)
    | with_reducible apply WithinNext.ok
    | exact WithinNext.fault _
    | ((with_reducible apply Within.stepEach); intro _ _)
    | split
    | extract_lets
    | with_reducible intro _
    | with_reducible show Within _ _ (ite _ _ _)
    | ((with_reducible show Within _ _ (id _)); exact Within.refl _ _)
    | dsimp +zetaDelta only

theorem execHeldRelease_next {a0 : _} {m : Nat} {s : State} (c : 5235097622 &&& m = 5235097622) :
    WithinNext m s (execHeldRelease a0 s) := WithinNext.mono (execHeldRelease_within a0 s) c

theorem execHeldReleaseDest_within : ∀ (s : State), WithinNext 5235097622 s (execHeldReleaseDest s) := by
  intro s
  unfold execHeldReleaseDest
  repeat' first
    | with_reducible exact Within.refl _ _
    | assumption
    | ((with_reducible apply State.releaseReq_step); rfl)
    | ((with_reducible apply State.gate_step); rfl)
    | ((with_reducible apply State.status_step); rfl)
    | with_reducible apply WithinNext.ok
    | exact WithinNext.fault _
    | ((with_reducible apply Within.stepEach); intro _ _)
    | split
    | extract_lets
    | with_reducible intro _
    | with_reducible show Within _ _ (ite _ _ _)
    | ((with_reducible show Within _ _ (id _)); exact Within.refl _ _)
    | dsimp +zetaDelta only

theorem execHeldReleaseDest_next  {m : Nat} {s : State} (c : 5235097622 &&& m = 5235097622) :
    WithinNext m s (execHeldReleaseDest s) := WithinNext.mono (execHeldReleaseDest_within s) c

theorem execHeldRead_within : ∀ a0 (s : State), WithinNext 939524102 s (execHeldRead a0 s) := by
  intro a0 s
  unfold execHeldRead
  repeat' first
    | with_reducible exact Within.refl _ _
    | assumption
    | ((with_reducible apply State.wrWords_step); rfl)
    | ((with_reducible apply State.gate_step); rfl)
    | ((with_reducible apply State.status_step); rfl)
    | with_reducible apply WithinNext.ok
    | exact WithinNext.fault _
    | ((with_reducible apply Within.stepEach); intro _ _)
    | split
    | extract_lets
    | with_reducible intro _
    | with_reducible show Within _ _ (ite _ _ _)
    | ((with_reducible show Within _ _ (id _)); exact Within.refl _ _)
    | dsimp +zetaDelta only

theorem execHeldRead_next {a0 : _} {m : Nat} {s : State} (c : 939524102 &&& m = 939524102) :
    WithinNext m s (execHeldRead a0 s) := WithinNext.mono (execHeldRead_within a0 s) c

theorem execRequestTimerExpiry_within : ∀ a0 a1 (s : State), WithinNext 8489877525 s (execRequestTimerExpiry a0 a1 s) := by
  intro a0 a1 s
  unfold execRequestTimerExpiry
  repeat' first
    | with_reducible exact Within.refl _ _
    | assumption
    | ((with_reducible apply State.poisonReq_step); rfl)
    | ((with_reducible apply State.holdReq_step); rfl)
    | ((with_reducible apply State.reach_step); rfl)
    | with_reducible apply WithinNext.ok
    | exact WithinNext.fault _
    | ((with_reducible apply Within.stepEach); intro _ _)
    | split
    | extract_lets
    | with_reducible intro _
    | with_reducible show Within _ _ (ite _ _ _)
    | ((with_reducible show Within _ _ (id _)); exact Within.refl _ _)
    | dsimp +zetaDelta only

theorem execRequestTimerExpiry_next {a0 : _} {a1 : _} {m : Nat} {s : State} (c : 8489877525 &&& m = 8489877525) :
    WithinNext m s (execRequestTimerExpiry a0 a1 s) := WithinNext.mono (execRequestTimerExpiry_within a0 a1 s) c

theorem execRequestRetry_within : ∀ a0 a1 (s : State), WithinNext 7549812757 s (execRequestRetry a0 a1 s) := by
  intro a0 a1 s
  unfold execRequestRetry
  repeat' first
    | with_reducible exact Within.refl _ _
    | assumption
    | ((with_reducible apply State.setReq_step); rfl)
    | ((with_reducible apply State.originate_step); rfl)
    | ((with_reducible apply State.reach_step); rfl)
    | with_reducible apply WithinNext.ok
    | exact WithinNext.fault _
    | ((with_reducible apply Within.stepEach); intro _ _)
    | split
    | extract_lets
    | with_reducible intro _
    | with_reducible show Within _ _ (ite _ _ _)
    | ((with_reducible show Within _ _ (id _)); exact Within.refl _ _)
    | dsimp +zetaDelta only

theorem execRequestRetry_next {a0 : _} {a1 : _} {m : Nat} {s : State} (c : 7549812757 &&& m = 7549812757) :
    WithinNext m s (execRequestRetry a0 a1 s) := WithinNext.mono (execRequestRetry_within a0 a1 s) c

theorem execResponseReceive_within : ∀ (s : State), WithinNext 14898776468 s (execResponseReceive s) := by
  intro s
  unfold execResponseReceive
  repeat' first
    | with_reducible exact Within.refl _ _
    | assumption
    | ((with_reducible apply State.bump_step); rfl)
    | ((with_reducible apply State.receiveAck_step); rfl)
    | ((with_reducible apply State.completeReq_step); rfl)
    | ((with_reducible apply State.echo_step); rfl)
    | ((with_reducible apply State.unitTake_step); rfl)
    | with_reducible apply WithinNext.ok
    | exact WithinNext.fault _
    | ((with_reducible apply Within.stepEach); intro _ _)
    | split
    | extract_lets
    | ((fail_if_success with_reducible apply Within.upd_pending); (with_reducible apply Within.upd_req); rfl)
    | with_reducible intro _
    | with_reducible show Within _ _ (ite _ _ _)
    | ((with_reducible show Within _ _ (id _)); exact Within.refl _ _)
    | dsimp +zetaDelta only
    | ((fail_if_success with_reducible apply Within.upd_pending); (with_reducible apply Within.upd_req); rfl)

theorem execResponseReceive_next  {m : Nat} {s : State} (c : 14898776468 &&& m = 14898776468) :
    WithinNext m s (execResponseReceive s) := WithinNext.mono (execResponseReceive_within s) c


/-! ## Machine/Prism.lean -/

theorem State.countPlane_within : ∀ (s : State) a1 a2, Within 4 s (State.countPlane s a1 a2) := by
  intro s a1 a2
  unfold State.countPlane
  repeat' first
    | with_reducible exact Within.refl _ _
    | assumption
    | ((with_reducible apply State.bump_step); rfl)
    | ((with_reducible apply Within.stepEach); intro _ _)
    | split
    | extract_lets
    | with_reducible intro _
    | with_reducible show Within _ _ (ite _ _ _)
    | ((with_reducible show Within _ _ (id _)); exact Within.refl _ _)
    | dsimp +zetaDelta only

theorem State.countPlane_step {a1 : _} {a2 : _} {m : Nat} {r s : State} (c : 4 &&& m = 4) (h : Within m r s) :
    Within m r (State.countPlane s a1 a2) := Within.step (State.countPlane_within s a1 a2) c h

theorem State.accountPlanes_within : ∀ (s : State), Within 2052 s (State.accountPlanes s) := by
  intro s
  unfold State.accountPlanes
  repeat' first
    | with_reducible exact Within.refl _ _
    | assumption
    | ((with_reducible apply State.countPlane_step); rfl)
    | ((with_reducible apply Within.stepEach); intro _ _)
    | split
    | extract_lets
    | ((fail_if_success with_reducible apply Within.upd_pending); (with_reducible apply Within.upd_prism); rfl)
    | with_reducible intro _
    | with_reducible show Within _ _ (ite _ _ _)
    | ((with_reducible show Within _ _ (id _)); exact Within.refl _ _)
    | dsimp +zetaDelta only
    | ((fail_if_success with_reducible apply Within.upd_pending); (with_reducible apply Within.upd_prism); rfl)

theorem State.accountPlanes_step  {m : Nat} {r s : State} (c : 2052 &&& m = 2052) (h : Within m r s) :
    Within m r (State.accountPlanes s) := Within.step (State.accountPlanes_within s) c h

theorem State.takeQueued_within : ∀ (s : State) a1 a2 a3, Within 336 s (State.takeQueued s a1 a2 a3).2 := by
  intro s a1 a2 a3
  induction a3 generalizing s a1 a2 with
  | zero => unfold State.takeQueued; exact Within.refl _ _
  | succ x ih =>
  unfold State.takeQueued
  repeat' first
    | with_reducible exact Within.refl _ _
    | assumption
    | (refine Within.step (ih _ _ _) (Nat.and_self _) ?_)
    | ((with_reducible apply State.setQueue_step); rfl)
    | ((with_reducible apply State.toMoveCells_step); rfl)
    | ((with_reducible apply Within.stepEach); intro _ _)
    | split
    | extract_lets
    | with_reducible intro _
    | with_reducible show Within _ _ (ite _ _ _)
    | ((with_reducible show Within _ _ (id _)); exact Within.refl _ _)
    | dsimp +zetaDelta only

theorem State.takeQueued_step {a1 : _} {a2 : _} {a3 : _} {m : Nat} {r s : State} (c : 336 &&& m = 336) (h : Within m r s) :
    Within m r (State.takeQueued s a1 a2 a3).2 := Within.step (State.takeQueued_within s a1 a2 a3) c h

theorem State.takeUnacked_within : ∀ (s : State) a1, Within 272 s (State.takeUnacked s a1).2 := by
  intro s a1
  unfold State.takeUnacked
  repeat' first
    | with_reducible exact Within.refl _ _
    | assumption
    | ((with_reducible apply State.setLink_step); rfl)
    | ((with_reducible apply Within.stepEach); intro _ _)
    | split
    | extract_lets
    | ((fail_if_success with_reducible apply Within.upd_pending); (with_reducible apply Within.upd_dp); rfl)
    | with_reducible intro _
    | with_reducible show Within _ _ (ite _ _ _)
    | ((with_reducible show Within _ _ (id _)); exact Within.refl _ _)
    | dsimp +zetaDelta only
    | ((fail_if_success with_reducible apply Within.upd_pending); (with_reducible apply Within.upd_dp); rfl)

theorem State.takeUnacked_step {a1 : _} {m : Nat} {r s : State} (c : 272 &&& m = 272) (h : Within m r s) :
    Within m r (State.takeUnacked s a1).2 := Within.step (State.takeUnacked_within s a1) c h

theorem State.pairHandover_within : ∀ (s : State) a1 a2, Within 13824952788 s (State.pairHandover s a1 a2) := by
  intro s a1 a2
  unfold State.pairHandover
  repeat' first
    | with_reducible exact Within.refl _ _
    | assumption
    | ((with_reducible apply State.moveOff_step); rfl)
    | ((with_reducible apply State.handOver_step); rfl)
    | ((with_reducible apply State.takeQueued_step); rfl)
    | (with_reducible refine Within.step (Within.ofSnd (by assumption) (State.takeQueued_within _ _ _ _)) rfl ?_)
    | ((with_reducible apply State.takeUnacked_step); rfl)
    | (with_reducible refine Within.step (Within.ofSnd (by assumption) (State.takeUnacked_within _ _)) rfl ?_)
    | ((with_reducible apply Within.stepEach); intro _ _)
    | split
    | extract_lets
    | ((fail_if_success with_reducible apply Within.upd_pending); (with_reducible apply Within.upd_dp); rfl)
    | with_reducible intro _
    | with_reducible show Within _ _ (ite _ _ _)
    | ((with_reducible show Within _ _ (id _)); exact Within.refl _ _)
    | dsimp +zetaDelta only
    | ((fail_if_success with_reducible apply Within.upd_pending); (with_reducible apply Within.upd_dp); rfl)

theorem State.pairHandover_step {a1 : _} {a2 : _} {m : Nat} {r s : State} (c : 13824952788 &&& m = 13824952788) (h : Within m r s) :
    Within m r (State.pairHandover s a1 a2) := Within.step (State.pairHandover_within s a1 a2) c h

theorem State.takeMark_within : ∀ (s : State) a1 a2, Within 2048 s (State.takeMark s a1 a2) := by
  intro s a1 a2
  unfold State.takeMark
  repeat' first
    | with_reducible exact Within.refl _ _
    | assumption
    | ((with_reducible apply Within.stepEach); intro _ _)
    | split
    | extract_lets
    | ((fail_if_success with_reducible apply Within.upd_pending); (with_reducible apply Within.upd_prism); rfl)
    | with_reducible intro _
    | with_reducible show Within _ _ (ite _ _ _)
    | ((with_reducible show Within _ _ (id _)); exact Within.refl _ _)
    | dsimp +zetaDelta only
    | ((fail_if_success with_reducible apply Within.upd_pending); (with_reducible apply Within.upd_prism); rfl)

theorem State.takeMark_step {a1 : _} {a2 : _} {m : Nat} {r s : State} (c : 2048 &&& m = 2048) (h : Within m r s) :
    Within m r (State.takeMark s a1 a2) := Within.step (State.takeMark_within s a1 a2) c h

theorem State.setForce_within : ∀ (s : State) a1 a2, Within 4294968448 s (State.setForce s a1 a2) := by
  intro s a1 a2
  unfold State.setForce
  repeat' first
    | with_reducible exact Within.refl _ _
    | assumption
    | ((with_reducible apply State.setPlane_step); rfl)
    | ((with_reducible apply State.beginTraining_step); rfl)
    | ((with_reducible apply Within.stepEach); intro _ _)
    | split
    | extract_lets
    | with_reducible intro _
    | with_reducible show Within _ _ (ite _ _ _)
    | ((with_reducible show Within _ _ (id _)); exact Within.refl _ _)
    | dsimp +zetaDelta only

theorem State.setForce_step {a1 : _} {a2 : _} {m : Nat} {r s : State} (c : 4294968448 &&& m = 4294968448) (h : Within m r s) :
    Within m r (State.setForce s a1 a2) := Within.step (State.setForce_within s a1 a2) c h

theorem State.applyEntry_within : ∀ (s : State) a1, Within 5234492550 s (State.applyEntry s a1) := by
  intro s a1
  unfold State.applyEntry
  repeat' first
    | with_reducible exact Within.refl _ _
    | assumption
    | ((with_reducible apply State.setF_step); rfl)
    | ((with_reducible apply State.setForce_step); rfl)
    | ((with_reducible apply State.raise_step); rfl)
    | ((with_reducible apply Within.stepEach); intro _ _)
    | split
    | extract_lets
    | with_reducible intro _
    | with_reducible show Within _ _ (ite _ _ _)
    | ((with_reducible show Within _ _ (id _)); exact Within.refl _ _)
    | dsimp +zetaDelta only

theorem State.applyEntry_step {a1 : _} {m : Nat} {r s : State} (c : 5234492550 &&& m = 5234492550) (h : Within m r s) :
    Within m r (State.applyEntry s a1) := Within.step (State.applyEntry_within s a1) c h

theorem State.applyMarks_within : ∀ (s : State) a1 a2, Within 5234494598 s (State.applyMarks s a1 a2) := by
  intro s a1 a2
  unfold State.applyMarks
  repeat' first
    | with_reducible exact Within.refl _ _
    | assumption
    | ((with_reducible apply State.accountPlanes_step); rfl)
    | ((with_reducible apply State.bump_step); rfl)
    | ((with_reducible apply State.applyEntry_step); rfl)
    | ((with_reducible apply Within.stepEach); intro _ _)
    | split
    | extract_lets
    | ((fail_if_success with_reducible apply Within.upd_pending); (with_reducible apply Within.upd_prism); rfl)
    | with_reducible intro _
    | with_reducible show Within _ _ (ite _ _ _)
    | ((with_reducible show Within _ _ (id _)); exact Within.refl _ _)
    | dsimp +zetaDelta only
    | ((fail_if_success with_reducible apply Within.upd_pending); (with_reducible apply Within.upd_prism); rfl)

theorem State.applyMarks_step {a1 : _} {a2 : _} {m : Nat} {r s : State} (c : 5234494598 &&& m = 5234494598) (h : Within m r s) :
    Within m r (State.applyMarks s a1 a2) := Within.step (State.applyMarks_within s a1 a2) c h

theorem State.endRetune_within : ∀ (s : State) a1, Within 4294968448 s (State.endRetune s a1) := by
  intro s a1
  unfold State.endRetune
  repeat' first
    | with_reducible exact Within.refl _ _
    | assumption
    | ((with_reducible apply State.setPlane_step); rfl)
    | ((with_reducible apply State.beginTraining_step); rfl)
    | ((with_reducible apply Within.stepEach); intro _ _)
    | split
    | extract_lets
    | with_reducible intro _
    | with_reducible show Within _ _ (ite _ _ _)
    | ((with_reducible show Within _ _ (id _)); exact Within.refl _ _)
    | dsimp +zetaDelta only

theorem State.endRetune_step {a1 : _} {m : Nat} {r s : State} (c : 4294968448 &&& m = 4294968448) (h : Within m r s) :
    Within m r (State.endRetune s a1) := Within.step (State.endRetune_within s a1) c h

theorem State.resprayTo_within : ∀ (s : State) a1 a2, Within 12885428500 s (State.resprayTo s a1 a2) := by
  intro s a1 a2
  unfold State.resprayTo
  repeat' first
    | with_reducible exact Within.refl _ _
    | assumption
    | ((with_reducible apply State.takeIn_step); rfl)
    | ((with_reducible apply State.holdItem_step); rfl)
    | ((with_reducible apply State.tick_step); rfl)
    | ((with_reducible apply Within.stepEach); intro _ _)
    | split
    | extract_lets
    | with_reducible intro _
    | with_reducible show Within _ _ (ite _ _ _)
    | ((with_reducible show Within _ _ (id _)); exact Within.refl _ _)
    | dsimp +zetaDelta only

theorem State.resprayTo_step {a1 : _} {a2 : _} {m : Nat} {r s : State} (c : 12885428500 &&& m = 12885428500) (h : Within m r s) :
    Within m r (State.resprayTo s a1 a2) := Within.step (State.resprayTo_within s a1 a2) c h

theorem State.rehome_within : ∀ (s : State) a1, Within 12885428500 s (State.rehome s a1) := by
  intro s a1
  unfold State.rehome
  repeat' first
    | with_reducible exact Within.refl _ _
    | assumption
    | ((with_reducible apply State.takeIn_step); rfl)
    | ((with_reducible apply State.dropItem_step); rfl)
    | ((with_reducible apply State.resprayTo_step); rfl)
    | ((with_reducible apply State.holdItem_step); rfl)
    | ((with_reducible apply Within.stepEach); intro _ _)
    | split
    | extract_lets
    | with_reducible intro _
    | with_reducible show Within _ _ (ite _ _ _)
    | ((with_reducible show Within _ _ (id _)); exact Within.refl _ _)
    | dsimp +zetaDelta only

theorem State.rehome_step {a1 : _} {m : Nat} {r s : State} (c : 12885428500 &&& m = 12885428500) (h : Within m r s) :
    Within m r (State.rehome s a1) := Within.step (State.rehome_within s a1) c h

theorem State.freshLinks_within : ∀ (s : State) a1, Within 256 s (State.freshLinks s a1) := by
  intro s a1
  unfold State.freshLinks
  repeat' first
    | with_reducible exact Within.refl _ _
    | assumption
    | ((with_reducible apply State.setLink_step); rfl)
    | ((with_reducible apply Within.stepEach); intro _ _)
    | split
    | extract_lets
    | with_reducible intro _
    | with_reducible show Within _ _ (ite _ _ _)
    | ((with_reducible show Within _ _ (id _)); exact Within.refl _ _)
    | dsimp +zetaDelta only

theorem State.freshLinks_step {a1 : _} {m : Nat} {r s : State} (c : 256 &&& m = 256) (h : Within m r s) :
    Within m r (State.freshLinks s a1) := Within.step (State.freshLinks_within s a1) c h

theorem State.takePlane_within : ∀ (s : State) a1, Within 336 s (State.takePlane s a1).2 := by
  intro s a1
  unfold State.takePlane
  repeat' first
    | with_reducible exact Within.refl _ _
    | assumption
    | ((with_reducible apply State.toMoveCells_step); rfl)
    | ((with_reducible apply State.drainQueues_step); rfl)
    | (with_reducible refine Within.step (Within.ofSnd (by assumption) (State.drainQueues_within _ _ _)) rfl ?_)
    | ((with_reducible apply State.takeUnacked_step); rfl)
    | (with_reducible refine Within.step (Within.ofSnd (by assumption) (State.takeUnacked_within _ _)) rfl ?_)
    | ((with_reducible apply takeEach_step); intro _ _)
    | ((with_reducible apply Within.stepEach); intro _ _)
    | split
    | extract_lets
    | with_reducible intro _
    | with_reducible show Within _ _ (ite _ _ _)
    | ((with_reducible show Within _ _ (id _)); exact Within.refl _ _)
    | dsimp +zetaDelta only

theorem State.takePlane_step {a1 : _} {m : Nat} {r s : State} (c : 336 &&& m = 336) (h : Within m r s) :
    Within m r (State.takePlane s a1).2 := Within.step (State.takePlane_within s a1) c h

theorem State.remapDetours_within : ∀ (s : State), Within 16 s (State.remapDetours s) := by
  intro s
  unfold State.remapDetours
  repeat' first
    | with_reducible exact Within.refl _ _
    | assumption
    | ((with_reducible apply State.setBundle_step); rfl)
    | ((with_reducible apply Within.stepEach); intro _ _)
    | split
    | extract_lets
    | with_reducible intro _
    | with_reducible show Within _ _ (ite _ _ _)
    | ((with_reducible show Within _ _ (id _)); exact Within.refl _ _)
    | dsimp +zetaDelta only

theorem State.remapDetours_step  {m : Nat} {r s : State} (c : 16 &&& m = 16) (h : Within m r s) :
    Within m r (State.remapDetours s) := Within.step (State.remapDetours_within s) c h

theorem State.endRetunes_within : ∀ (s : State), Within 12885429716 s (State.endRetunes s) := by
  intro s
  unfold State.endRetunes
  repeat' first
    | with_reducible exact Within.refl _ _
    | assumption
    | ((with_reducible apply State.endRetune_step); rfl)
    | ((with_reducible apply State.rehome_step); rfl)
    | ((with_reducible apply State.freshLinks_step); rfl)
    | ((with_reducible apply State.sendLocal_step); rfl)
    | ((with_reducible apply State.takePlane_step); rfl)
    | (with_reducible refine Within.step (Within.ofSnd (by assumption) (State.takePlane_within _ _)) rfl ?_)
    | ((with_reducible apply State.remapDetours_step); rfl)
    | ((with_reducible apply takeEach_step); intro _ _)
    | ((with_reducible apply Within.stepEach); intro _ _)
    | split
    | extract_lets
    | ((fail_if_success with_reducible apply Within.upd_pending); (with_reducible apply Within.upd_prism); rfl)
    | with_reducible intro _
    | with_reducible show Within _ _ (ite _ _ _)
    | ((with_reducible show Within _ _ (id _)); exact Within.refl _ _)
    | dsimp +zetaDelta only
    | ((fail_if_success with_reducible apply Within.upd_pending); (with_reducible apply Within.upd_prism); rfl)

theorem State.endRetunes_step  {m : Nat} {r s : State} (c : 12885429716 &&& m = 12885429716) (h : Within m r s) :
    Within m r (State.endRetunes s) := Within.step (State.endRetunes_within s) c h

theorem State.endSlot_within : ∀ (s : State) a1 a2, Within 13824953812 s (State.endSlot s a1 a2) := by
  intro s a1 a2
  unfold State.endSlot
  repeat' first
    | with_reducible exact Within.refl _ _
    | assumption
    | ((with_reducible apply State.setPlane_step); rfl)
    | ((with_reducible apply State.pairHandover_step); rfl)
    | ((with_reducible apply Within.stepEach); intro _ _)
    | split
    | extract_lets
    | with_reducible intro _
    | with_reducible show Within _ _ (ite _ _ _)
    | ((with_reducible show Within _ _ (id _)); exact Within.refl _ _)
    | dsimp +zetaDelta only

theorem State.endSlot_step {a1 : _} {a2 : _} {m : Nat} {r s : State} (c : 13824953812 &&& m = 13824953812) (h : Within m r s) :
    Within m r (State.endSlot s a1 a2) := Within.step (State.endSlot_within s a1 a2) c h

theorem State.takeMissed_within : ∀ (s : State) a1, Within 336 s (State.takeMissed s a1).2 := by
  intro s a1
  unfold State.takeMissed
  repeat' first
    | with_reducible exact Within.refl _ _
    | assumption
    | ((with_reducible apply State.takeQueued_step); rfl)
    | (with_reducible refine Within.step (Within.ofSnd (by assumption) (State.takeQueued_within _ _ _ _)) rfl ?_)
    | ((with_reducible apply Within.stepEach); intro _ _)
    | split
    | extract_lets
    | with_reducible intro _
    | with_reducible show Within _ _ (ite _ _ _)
    | ((with_reducible show Within _ _ (id _)); exact Within.refl _ _)
    | dsimp +zetaDelta only

theorem State.takeMissed_step {a1 : _} {m : Nat} {r s : State} (c : 336 &&& m = 336) (h : Within m r s) :
    Within m r (State.takeMissed s a1).2 := Within.step (State.takeMissed_within s a1) c h

theorem State.followSlot_within : ∀ (s : State) a1, Within 12885428564 s (State.followSlot s a1) := by
  intro s a1
  unfold State.followSlot
  repeat' first
    | with_reducible exact Within.refl _ _
    | assumption
    | ((with_reducible apply State.takeMissed_step); rfl)
    | (with_reducible refine Within.step (Within.ofSnd (by assumption) (State.takeMissed_within _ _)) rfl ?_)
    | ((with_reducible apply State.resprayTo_step); rfl)
    | ((with_reducible apply takeEach_step); intro _ _)
    | ((with_reducible apply Within.stepEach); intro _ _)
    | split
    | extract_lets
    | with_reducible intro _
    | with_reducible show Within _ _ (ite _ _ _)
    | ((with_reducible show Within _ _ (id _)); exact Within.refl _ _)
    | dsimp +zetaDelta only

theorem State.followSlot_step {a1 : _} {m : Nat} {r s : State} (c : 12885428564 &&& m = 12885428564) (h : Within m r s) :
    Within m r (State.followSlot s a1) := Within.step (State.followSlot_within s a1) c h

theorem State.lapse_within : ∀ (s : State) a1 a2, Within 256 s (State.lapse s a1 a2) := by
  intro s a1 a2
  unfold State.lapse
  repeat' first
    | with_reducible exact Within.refl _ _
    | assumption
    | ((with_reducible apply State.setLink_step); rfl)
    | ((with_reducible apply Within.stepEach); intro _ _)
    | split
    | extract_lets
    | with_reducible intro _
    | with_reducible show Within _ _ (ite _ _ _)
    | ((with_reducible show Within _ _ (id _)); exact Within.refl _ _)
    | dsimp +zetaDelta only

theorem State.lapse_step {a1 : _} {a2 : _} {m : Nat} {r s : State} (c : 256 &&& m = 256) (h : Within m r s) :
    Within m r (State.lapse s a1 a2) := Within.step (State.lapse_within s a1 a2) c h

theorem State.lateMarks_within : ∀ (s : State) a1, Within 5234494598 s (State.lateMarks s a1) := by
  intro s a1
  unfold State.lateMarks
  repeat' first
    | with_reducible exact Within.refl _ _
    | assumption
    | ((with_reducible apply State.applyMarks_step); rfl)
    | ((with_reducible apply Within.stepEach); intro _ _)
    | split
    | extract_lets
    | with_reducible intro _
    | with_reducible show Within _ _ (ite _ _ _)
    | ((with_reducible show Within _ _ (id _)); exact Within.refl _ _)
    | dsimp +zetaDelta only

theorem State.lateMarks_step {a1 : _} {m : Nat} {r s : State} (c : 5234494598 &&& m = 5234494598) (h : Within m r s) :
    Within m r (State.lateMarks s a1) := Within.step (State.lateMarks_within s a1) c h

theorem State.lend_within : ∀ (s : State) a1, Within 256 s (State.lend s a1) := by
  intro s a1
  unfold State.lend
  repeat' first
    | with_reducible exact Within.refl _ _
    | assumption
    | ((with_reducible apply State.setLink_step); rfl)
    | ((with_reducible apply Within.stepEach); intro _ _)
    | split
    | extract_lets
    | with_reducible intro _
    | with_reducible show Within _ _ (ite _ _ _)
    | ((with_reducible show Within _ _ (id _)); exact Within.refl _ _)
    | dsimp +zetaDelta only

theorem State.lend_step {a1 : _} {m : Nat} {r s : State} (c : 256 &&& m = 256) (h : Within m r s) :
    Within m r (State.lend s a1) := Within.step (State.lend_within s a1) c h

theorem State.patRead_within : ∀ (s : State) a1 a2, Within 939524102 s (State.patRead s a1 a2) := by
  intro s a1 a2
  unfold State.patRead
  repeat' first
    | with_reducible exact Within.refl _ _
    | assumption
    | ((with_reducible apply State.wrWords_step); rfl)
    | ((with_reducible apply State.gate_step); rfl)
    | ((with_reducible apply State.status_step); rfl)
    | ((with_reducible apply Within.stepEach); intro _ _)
    | split
    | extract_lets
    | with_reducible intro _
    | with_reducible show Within _ _ (ite _ _ _)
    | ((with_reducible show Within _ _ (id _)); exact Within.refl _ _)
    | dsimp +zetaDelta only

theorem State.patRead_step {a1 : _} {a2 : _} {m : Nat} {r s : State} (c : 939524102 &&& m = 939524102) (h : Within m r s) :
    Within m r (State.patRead s a1 a2) := Within.step (State.patRead_within s a1 a2) c h

theorem execPatWriteShadow_within : ∀ a0 (s : State), WithinNext 939526150 s (execPatWriteShadow a0 s) := by
  intro a0 s
  unfold execPatWriteShadow
  repeat' first
    | with_reducible exact Within.refl _ _
    | assumption
    | ((with_reducible apply State.gate_step); rfl)
    | ((with_reducible apply State.status_step); rfl)
    | with_reducible apply WithinNext.ok
    | exact WithinNext.fault _
    | ((with_reducible apply Within.stepEach); intro _ _)
    | split
    | extract_lets
    | ((fail_if_success with_reducible apply Within.upd_pending); (with_reducible apply Within.upd_prism); rfl)
    | with_reducible intro _
    | with_reducible show Within _ _ (ite _ _ _)
    | ((with_reducible show Within _ _ (id _)); exact Within.refl _ _)
    | dsimp +zetaDelta only
    | ((fail_if_success with_reducible apply Within.upd_pending); (with_reducible apply Within.upd_prism); rfl)

theorem execPatWriteShadow_next {a0 : _} {m : Nat} {s : State} (c : 939526150 &&& m = 939526150) :
    WithinNext m s (execPatWriteShadow a0 s) := WithinNext.mono (execPatWriteShadow_within a0 s) c

theorem execPatReadShadow_within : ∀ a0 (s : State), WithinNext 939524102 s (execPatReadShadow a0 s) := by
  intro a0 s
  unfold execPatReadShadow
  repeat' first
    | with_reducible exact Within.refl _ _
    | assumption
    | ((with_reducible apply State.patRead_step); rfl)
    | with_reducible apply WithinNext.ok
    | exact WithinNext.fault _
    | ((with_reducible apply Within.stepEach); intro _ _)
    | split
    | extract_lets
    | with_reducible intro _
    | with_reducible show Within _ _ (ite _ _ _)
    | ((with_reducible show Within _ _ (id _)); exact Within.refl _ _)
    | dsimp +zetaDelta only

theorem execPatReadShadow_next {a0 : _} {m : Nat} {s : State} (c : 939524102 &&& m = 939524102) :
    WithinNext m s (execPatReadShadow a0 s) := WithinNext.mono (execPatReadShadow_within a0 s) c

theorem execPrismGuardWrite_within : ∀ a0 a1 (s : State), WithinNext 939524102 s (execPrismGuardWrite a0 a1 s) := by
  intro a0 a1 s
  unfold execPrismGuardWrite
  repeat' first
    | with_reducible exact Within.refl _ _
    | assumption
    | ((with_reducible apply State.setF_step); rfl)
    | ((with_reducible apply State.store_step); rfl)
    | ((with_reducible apply State.gate_step); rfl)
    | with_reducible apply WithinNext.ok
    | exact WithinNext.fault _
    | ((with_reducible apply Within.stepEach); intro _ _)
    | split
    | extract_lets
    | with_reducible intro _
    | with_reducible show Within _ _ (ite _ _ _)
    | ((with_reducible show Within _ _ (id _)); exact Within.refl _ _)
    | dsimp +zetaDelta only

theorem execPrismGuardWrite_next {a0 : _} {a1 : _} {m : Nat} {s : State} (c : 939524102 &&& m = 939524102) :
    WithinNext m s (execPrismGuardWrite a0 a1 s) := WithinNext.mono (execPrismGuardWrite_within a0 a1 s) c

theorem execPatReadActive_within : ∀ a0 (s : State), WithinNext 939524102 s (execPatReadActive a0 s) := by
  intro a0 s
  unfold execPatReadActive
  repeat' first
    | with_reducible exact Within.refl _ _
    | assumption
    | ((with_reducible apply State.patRead_step); rfl)
    | with_reducible apply WithinNext.ok
    | exact WithinNext.fault _
    | ((with_reducible apply Within.stepEach); intro _ _)
    | split
    | extract_lets
    | with_reducible intro _
    | with_reducible show Within _ _ (ite _ _ _)
    | ((with_reducible show Within _ _ (id _)); exact Within.refl _ _)
    | dsimp +zetaDelta only

theorem execPatReadActive_next {a0 : _} {m : Nat} {s : State} (c : 939524102 &&& m = 939524102) :
    WithinNext m s (execPatReadActive a0 s) := WithinNext.mono (execPatReadActive_within a0 s) c

theorem execPlaneRetuneEnd_within : ∀ (s : State), WithinNext 17079733719 s (execPlaneRetuneEnd s) := by
  intro s
  unfold execPlaneRetuneEnd
  repeat' first
    | with_reducible exact Within.refl _ _
    | assumption
    | ((with_reducible apply State.accountPlanes_step); rfl)
    | ((with_reducible apply State.endRetunes_step); rfl)
    | ((with_reducible apply State.lateMarks_step); rfl)
    | ((with_reducible apply State.reach_step); rfl)
    | with_reducible apply WithinNext.ok
    | exact WithinNext.fault _
    | ((with_reducible apply Within.stepEach); intro _ _)
    | split
    | extract_lets
    | with_reducible intro _
    | with_reducible show Within _ _ (ite _ _ _)
    | ((with_reducible show Within _ _ (id _)); exact Within.refl _ _)
    | dsimp +zetaDelta only

theorem execPlaneRetuneEnd_next  {m : Nat} {s : State} (c : 17079733719 &&& m = 17079733719) :
    WithinNext m s (execPlaneRetuneEnd s) := WithinNext.mono (execPlaneRetuneEnd_within s) c

theorem execPatternApply_within : ∀ (s : State), WithinNext 8489274503 s (execPatternApply s) := by
  intro s
  unfold execPatternApply
  repeat' first
    | with_reducible exact Within.refl _ _
    | assumption
    | ((with_reducible apply State.reach_step); rfl)
    | ((with_reducible apply State.applyMarks_step); rfl)
    | with_reducible apply WithinNext.ok
    | exact WithinNext.fault _
    | ((with_reducible apply Within.stepEach); intro _ _)
    | split
    | extract_lets
    | with_reducible intro _
    | with_reducible show Within _ _ (ite _ _ _)
    | ((with_reducible show Within _ _ (id _)); exact Within.refl _ _)
    | dsimp +zetaDelta only

theorem execPatternApply_next  {m : Nat} {s : State} (c : 8489274503 &&& m = 8489274503) :
    WithinNext m s (execPatternApply s) := WithinNext.mono (execPatternApply_within s) c


/-! ## Machine/Training.lean -/

theorem State.endDrain_within : ∀ (s : State) a1, Within 13826001364 s (State.endDrain s a1) := by
  intro s a1
  unfold State.endDrain
  repeat' first
    | with_reducible exact Within.refl _ _
    | assumption
    | ((with_reducible apply State.setPort_step); rfl)
    | ((with_reducible apply State.replayHandover_step); rfl)
    | ((with_reducible apply State.endMaint_step); rfl)
    | ((with_reducible apply Within.stepEach); intro _ _)
    | split
    | extract_lets
    | with_reducible intro _
    | with_reducible show Within _ _ (ite _ _ _)
    | ((with_reducible show Within _ _ (id _)); exact Within.refl _ _)
    | dsimp +zetaDelta only

theorem State.endDrain_step {a1 : _} {m : Nat} {r s : State} (c : 13826001364 &&& m = 13826001364) (h : Within m r s) :
    Within m r (State.endDrain s a1) := Within.step (State.endDrain_within s a1) c h

theorem State.easelZero_within : ∀ (s : State) a1, Within 13824952790 s (State.easelZero s a1) := by
  intro s a1
  unfold State.easelZero
  repeat' first
    | with_reducible exact Within.refl _ _
    | assumption
    | ((with_reducible apply State.setF_step); rfl)
    | ((with_reducible apply State.moveOffPort_step); rfl)
    | ((with_reducible apply Within.stepEach); intro _ _)
    | split
    | extract_lets
    | ((fail_if_success with_reducible apply Within.upd_pending); (with_reducible apply Within.upd_dp); rfl)
    | with_reducible intro _
    | with_reducible show Within _ _ (ite _ _ _)
    | ((with_reducible show Within _ _ (id _)); exact Within.refl _ _)
    | dsimp +zetaDelta only
    | ((fail_if_success with_reducible apply Within.upd_pending); (with_reducible apply Within.upd_dp); rfl)

theorem State.easelZero_step {a1 : _} {m : Nat} {r s : State} (c : 13824952790 &&& m = 13824952790) (h : Within m r s) :
    Within m r (State.easelZero s a1) := Within.step (State.easelZero_within s a1) c h

theorem State.startDrain_within : ∀ a0 (s : State), Within 13826001366 s (State.startDrain a0 s) := by
  intro a0 s
  unfold State.startDrain
  repeat' first
    | with_reducible exact Within.refl _ _
    | assumption
    | ((with_reducible apply State.setPort_step); rfl)
    | ((with_reducible apply State.sendWithdraw_step); rfl)
    | ((with_reducible apply State.endDrain_step); rfl)
    | ((with_reducible apply State.endMaint_step); rfl)
    | ((with_reducible apply State.easelZero_step); rfl)
    | ((with_reducible apply Within.stepEach); intro _ _)
    | split
    | extract_lets
    | with_reducible intro _
    | with_reducible show Within _ _ (ite _ _ _)
    | ((with_reducible show Within _ _ (id _)); exact Within.refl _ _)
    | dsimp +zetaDelta only

theorem State.startDrain_step {a0 : _} {m : Nat} {r s : State} (c : 13826001366 &&& m = 13826001366) (h : Within m r s) :
    Within m r (State.startDrain a0 s) := Within.step (State.startDrain_within a0 s) c h

theorem State.trimLanes_within : ∀ (s : State) a1, Within 13826002388 s (State.trimLanes s a1) := by
  intro s a1
  unfold State.trimLanes
  repeat' first
    | with_reducible exact Within.refl _ _
    | assumption
    | ((with_reducible apply State.setPort_step); rfl)
    | ((with_reducible apply State.linkDown_step); rfl)
    | ((with_reducible apply Within.stepEach); intro _ _)
    | split
    | extract_lets
    | with_reducible intro _
    | with_reducible show Within _ _ (ite _ _ _)
    | ((with_reducible show Within _ _ (id _)); exact Within.refl _ _)
    | dsimp +zetaDelta only

theorem State.trimLanes_step {a1 : _} {m : Nat} {r s : State} (c : 13826002388 &&& m = 13826002388) (h : Within m r s) :
    Within m r (State.trimLanes s a1) := Within.step (State.trimLanes_within s a1) c h

theorem State.trainingFails_within : ∀ (s : State) a1, Within 939524228 s (State.trainingFails s a1) := by
  intro s a1
  unfold State.trainingFails
  repeat' first
    | with_reducible exact Within.refl _ _
    | assumption
    | ((with_reducible apply State.setPort_step); rfl)
    | ((with_reducible apply State.raise_step); rfl)
    | ((with_reducible apply Within.stepEach); intro _ _)
    | split
    | extract_lets
    | with_reducible intro _
    | with_reducible show Within _ _ (ite _ _ _)
    | ((with_reducible show Within _ _ (id _)); exact Within.refl _ _)
    | dsimp +zetaDelta only

theorem State.trainingFails_step {a1 : _} {m : Nat} {r s : State} (c : 939524228 &&& m = 939524228) (h : Within m r s) :
    Within m r (State.trainingFails s a1) := Within.step (State.trainingFails_within s a1) c h

theorem State.laneLeaves_within : ∀ (s : State) a1 a2 a3, Within 13826002388 s (State.laneLeaves s a1 a2 a3) := by
  intro s a1 a2 a3
  unfold State.laneLeaves
  repeat' first
    | with_reducible exact Within.refl _ _
    | assumption
    | ((with_reducible apply State.setPort_step); rfl)
    | ((with_reducible apply State.linkDown_step); rfl)
    | ((with_reducible apply State.trainingFails_step); rfl)
    | ((with_reducible apply Within.stepEach); intro _ _)
    | split
    | extract_lets
    | with_reducible intro _
    | with_reducible show Within _ _ (ite _ _ _)
    | ((with_reducible show Within _ _ (id _)); exact Within.refl _ _)
    | dsimp +zetaDelta only

theorem State.laneLeaves_step {a1 : _} {a2 : _} {a3 : _} {m : Nat} {r s : State} (c : 13826002388 &&& m = 13826002388) (h : Within m r s) :
    Within m r (State.laneLeaves s a1 a2 a3) := Within.step (State.laneLeaves_within s a1 a2 a3) c h

theorem State.degrade_within : ∀ (s : State) a1 a2 a3, Within 13826002388 s (State.degrade s a1 a2 a3) := by
  intro s a1 a2 a3
  unfold State.degrade
  repeat' first
    | with_reducible exact Within.refl _ _
    | assumption
    | ((with_reducible apply State.bump_step); rfl)
    | ((with_reducible apply State.laneLeaves_step); rfl)
    | ((with_reducible apply Within.stepEach); intro _ _)
    | split
    | extract_lets
    | with_reducible intro _
    | with_reducible show Within _ _ (ite _ _ _)
    | ((with_reducible show Within _ _ (id _)); exact Within.refl _ _)
    | dsimp +zetaDelta only

theorem State.degrade_step {a1 : _} {a2 : _} {a3 : _} {m : Nat} {r s : State} (c : 13826002388 &&& m = 13826002388) (h : Within m r s) :
    Within m r (State.degrade s a1 a2 a3) := Within.step (State.degrade_within s a1 a2 a3) c h

theorem State.joinBundle_within : ∀ (s : State) a1 a2, Within 13824952788 s (State.joinBundle s a1 a2) := by
  intro s a1 a2
  unfold State.joinBundle
  repeat' first
    | with_reducible exact Within.refl _ _
    | assumption
    | ((with_reducible apply State.setBundle_step); rfl)
    | ((with_reducible apply State.startMove_step); rfl)
    | ((with_reducible apply Within.stepEach); intro _ _)
    | split
    | extract_lets
    | with_reducible intro _
    | with_reducible show Within _ _ (ite _ _ _)
    | ((with_reducible show Within _ _ (id _)); exact Within.refl _ _)
    | dsimp +zetaDelta only

theorem State.joinBundle_step {a1 : _} {a2 : _} {m : Nat} {r s : State} (c : 13824952788 &&& m = 13824952788) (h : Within m r s) :
    Within m r (State.joinBundle s a1 a2) := Within.step (State.joinBundle_within s a1 a2) c h

theorem State.planeUp_within : ∀ (s : State) a1, Within 3076 s (State.planeUp s a1) := by
  intro s a1
  unfold State.planeUp
  repeat' first
    | with_reducible exact Within.refl _ _
    | assumption
    | ((with_reducible apply State.accountPlanes_step); rfl)
    | ((with_reducible apply State.setPlane_step); rfl)
    | ((with_reducible apply Within.stepEach); intro _ _)
    | split
    | extract_lets
    | with_reducible intro _
    | with_reducible show Within _ _ (ite _ _ _)
    | ((with_reducible show Within _ _ (id _)); exact Within.refl _ _)
    | dsimp +zetaDelta only

theorem State.planeUp_step {a1 : _} {m : Nat} {r s : State} (c : 3076 &&& m = 3076) (h : Within m r s) :
    Within m r (State.planeUp s a1) := Within.step (State.planeUp_within s a1) c h

theorem State.portUp_within : ∀ (s : State) a1, Within 939527300 s (State.portUp s a1) := by
  intro s a1
  unfold State.portUp
  repeat' first
    | with_reducible exact Within.refl _ _
    | assumption
    | ((with_reducible apply State.planeUp_step); rfl)
    | ((with_reducible apply State.bump_step); rfl)
    | ((with_reducible apply State.setPort_step); rfl)
    | ((with_reducible apply State.raise_step); rfl)
    | ((with_reducible apply Within.stepEach); intro _ _)
    | split
    | extract_lets
    | with_reducible intro _
    | with_reducible show Within _ _ (ite _ _ _)
    | ((with_reducible show Within _ _ (id _)); exact Within.refl _ _)
    | dsimp +zetaDelta only

theorem State.portUp_step {a1 : _} {m : Nat} {r s : State} (c : 939527300 &&& m = 939527300) (h : Within m r s) :
    Within m r (State.portUp s a1) := Within.step (State.portUp_within s a1) c h

theorem State.identified_within : ∀ (s : State) a1 a2 a3, Within 13824953812 s (State.identified s a1 a2 a3) := by
  intro s a1 a2 a3
  unfold State.identified
  repeat' first
    | with_reducible exact Within.refl _ _
    | assumption
    | ((with_reducible apply State.joinBundle_step); rfl)
    | ((with_reducible apply State.portUp_step); rfl)
    | ((with_reducible apply State.setPort_step); rfl)
    | ((with_reducible apply State.replayHandover_step); rfl)
    | ((with_reducible apply State.reconsider_step); rfl)
    | ((with_reducible apply State.raise_step); rfl)
    | ((with_reducible apply Within.stepEach); intro _ _)
    | split
    | extract_lets
    | with_reducible intro _
    | with_reducible show Within _ _ (ite _ _ _)
    | ((with_reducible show Within _ _ (id _)); exact Within.refl _ _)
    | dsimp +zetaDelta only

theorem State.identified_step {a1 : _} {a2 : _} {a3 : _} {m : Nat} {r s : State} (c : 13824953812 &&& m = 13824953812) (h : Within m r s) :
    Within m r (State.identified s a1 a2 a3) := Within.step (State.identified_within s a1 a2 a3) c h

theorem State.portOff_within : ∀ (s : State) a1, Within 13826002388 s (State.portOff s a1) := by
  intro s a1
  unfold State.portOff
  repeat' first
    | with_reducible exact Within.refl _ _
    | assumption
    | ((with_reducible apply State.endMaint_step); rfl)
    | ((with_reducible apply State.takeDown_step); rfl)
    | ((with_reducible apply State.emit_step); rfl)
    | ((with_reducible apply Within.stepEach); intro _ _)
    | split
    | extract_lets
    | with_reducible intro _
    | with_reducible show Within _ _ (ite _ _ _)
    | ((with_reducible show Within _ _ (id _)); exact Within.refl _ _)
    | dsimp +zetaDelta only

theorem State.portOff_step {a1 : _} {m : Nat} {r s : State} (c : 13826002388 &&& m = 13826002388) (h : Within m r s) :
    Within m r (State.portOff s a1) := Within.step (State.portOff_within s a1) c h

theorem State.latchRsv_within : ∀ (s : State) a1, Within 128 s (State.latchRsv s a1) := by
  intro s a1
  unfold State.latchRsv
  repeat' first
    | with_reducible exact Within.refl _ _
    | assumption
    | ((with_reducible apply State.setPort_step); rfl)
    | ((with_reducible apply Within.stepEach); intro _ _)
    | split
    | extract_lets
    | with_reducible intro _
    | with_reducible show Within _ _ (ite _ _ _)
    | ((with_reducible show Within _ _ (id _)); exact Within.refl _ _)
    | dsimp +zetaDelta only

theorem State.latchRsv_step {a1 : _} {m : Nat} {r s : State} (c : 128 &&& m = 128) (h : Within m r s) :
    Within m r (State.latchRsv s a1) := Within.step (State.latchRsv_within s a1) c h

theorem State.lanesLock_within : ∀ (s : State) a1, Within 13824953748 s (State.lanesLock s a1) := by
  intro s a1
  unfold State.lanesLock
  repeat' first
    | with_reducible exact Within.refl _ _
    | assumption
    | ((with_reducible apply State.portUp_step); rfl)
    | ((with_reducible apply State.setPort_step); rfl)
    | ((with_reducible apply State.latchRsv_step); rfl)
    | ((with_reducible apply State.reconsider_step); rfl)
    | ((with_reducible apply Within.stepEach); intro _ _)
    | split
    | extract_lets
    | with_reducible intro _
    | with_reducible show Within _ _ (ite _ _ _)
    | ((with_reducible show Within _ _ (id _)); exact Within.refl _ _)
    | dsimp +zetaDelta only

theorem State.lanesLock_step {a1 : _} {m : Nat} {r s : State} (c : 13824953748 &&& m = 13824953748) (h : Within m r s) :
    Within m r (State.lanesLock s a1) := Within.step (State.lanesLock_within s a1) c h

theorem State.powerEvent_within : ∀ (s : State) a1 a2 a3 a4, Within 939524100 s (State.powerEvent s a1 a2 a3 a4) := by
  intro s a1 a2 a3 a4
  unfold State.powerEvent
  repeat' first
    | with_reducible exact Within.refl _ _
    | assumption
    | ((with_reducible apply State.raise_step); rfl)
    | ((with_reducible apply Within.stepEach); intro _ _)
    | split
    | extract_lets
    | with_reducible intro _
    | with_reducible show Within _ _ (ite _ _ _)
    | ((with_reducible show Within _ _ (id _)); exact Within.refl _ _)
    | dsimp +zetaDelta only

theorem State.powerEvent_step {a1 : _} {a2 : _} {a3 : _} {a4 : _} {m : Nat} {r s : State} (c : 939524100 &&& m = 939524100) (h : Within m r s) :
    Within m r (State.powerEvent s a1 a2 a3 a4) := Within.step (State.powerEvent_within s a1 a2 a3 a4) c h

theorem State.resetRegs_within : ∀ (s : State) a1, Within 2 s (State.resetRegs s a1) := by
  intro s a1
  unfold State.resetRegs
  repeat' first
    | with_reducible exact Within.refl _ _
    | assumption
    | ((with_reducible apply Within.stepEach); intro _ _)
    | split
    | extract_lets
    | ((fail_if_success with_reducible apply Within.upd_pending); (with_reducible apply Within.upd_regs); rfl)
    | with_reducible intro _
    | with_reducible show Within _ _ (ite _ _ _)
    | ((with_reducible show Within _ _ (id _)); exact Within.refl _ _)
    | dsimp +zetaDelta only
    | ((fail_if_success with_reducible apply Within.upd_pending); (with_reducible apply Within.upd_regs); rfl)

theorem State.resetRegs_step {a1 : _} {m : Nat} {r s : State} (c : 2 &&& m = 2) (h : Within m r s) :
    Within m r (State.resetRegs s a1) := Within.step (State.resetRegs_within s a1) c h

theorem State.resetSched_within : ∀ (s : State) a1, Within 64 s (State.resetSched s a1) := by
  intro s a1
  unfold State.resetSched
  repeat' first
    | with_reducible exact Within.refl _ _
    | assumption
    | ((with_reducible apply Within.stepEach); intro _ _)
    | split
    | extract_lets
    | ((fail_if_success with_reducible apply Within.upd_pending); (with_reducible apply Within.upd_sched); rfl)
    | with_reducible intro _
    | with_reducible show Within _ _ (ite _ _ _)
    | ((with_reducible show Within _ _ (id _)); exact Within.refl _ _)
    | dsimp +zetaDelta only
    | ((fail_if_success with_reducible apply Within.upd_pending); (with_reducible apply Within.upd_sched); rfl)

theorem State.resetSched_step {a1 : _} {m : Nat} {r s : State} (c : 64 &&& m = 64) (h : Within m r s) :
    Within m r (State.resetSched s a1) := Within.step (State.resetSched_within s a1) c h

theorem State.startPortReset_within : ∀ a0 (s : State), Within 13826002390 s (State.startPortReset a0 s) := by
  intro a0 s
  unfold State.startPortReset
  repeat' first
    | with_reducible exact Within.refl _ _
    | assumption
    | ((with_reducible apply State.endMaint_step); rfl)
    | ((with_reducible apply State.takeDown_step); rfl)
    | ((with_reducible apply State.resetRegs_step); rfl)
    | ((with_reducible apply State.beginTraining_step); rfl)
    | ((with_reducible apply State.resetSched_step); rfl)
    | ((with_reducible apply Within.stepEach); intro _ _)
    | split
    | extract_lets
    | with_reducible intro _
    | with_reducible show Within _ _ (ite _ _ _)
    | ((with_reducible show Within _ _ (id _)); exact Within.refl _ _)
    | dsimp +zetaDelta only

theorem State.startPortReset_step {a0 : _} {m : Nat} {r s : State} (c : 13826002390 &&& m = 13826002390) (h : Within m r s) :
    Within m r (State.startPortReset a0 s) := Within.step (State.startPortReset_within a0 s) c h

theorem State.startRetrain_within : ∀ a0 (s : State), Within 13826002388 s (State.startRetrain a0 s) := by
  intro a0 s
  unfold State.startRetrain
  repeat' first
    | with_reducible exact Within.refl _ _
    | assumption
    | ((with_reducible apply State.endMaint_step); rfl)
    | ((with_reducible apply State.takeDown_step); rfl)
    | ((with_reducible apply State.beginTraining_step); rfl)
    | ((with_reducible apply Within.stepEach); intro _ _)
    | split
    | extract_lets
    | with_reducible intro _
    | with_reducible show Within _ _ (ite _ _ _)
    | ((with_reducible show Within _ _ (id _)); exact Within.refl _ _)
    | dsimp +zetaDelta only

theorem State.startRetrain_step {a0 : _} {m : Nat} {r s : State} (c : 13826002388 &&& m = 13826002388) (h : Within m r s) :
    Within m r (State.startRetrain a0 s) := Within.step (State.startRetrain_within a0 s) c h

theorem State.trainedLinks_within : ∀ (s : State) a1 a2, Within 384 s (State.trainedLinks s a1 a2) := by
  intro s a1 a2
  unfold State.trainedLinks
  repeat' first
    | with_reducible exact Within.refl _ _
    | assumption
    | ((with_reducible apply State.latchRsv_step); rfl)
    | ((with_reducible apply State.setLink_step); rfl)
    | ((with_reducible apply Within.stepEach); intro _ _)
    | split
    | extract_lets
    | with_reducible intro _
    | with_reducible show Within _ _ (ite _ _ _)
    | ((with_reducible show Within _ _ (id _)); exact Within.refl _ _)
    | dsimp +zetaDelta only

theorem State.trainedLinks_step {a1 : _} {a2 : _} {m : Nat} {r s : State} (c : 384 &&& m = 384) (h : Within m r s) :
    Within m r (State.trainedLinks s a1 a2) := Within.step (State.trainedLinks_within s a1 a2) c h

theorem execPortEnableWrite_within : ∀ a0 a1 (s : State), WithinNext 13826002390 s (execPortEnableWrite a0 a1 s) := by
  intro a0 a1 s
  unfold execPortEnableWrite
  repeat' first
    | with_reducible exact Within.refl _ _
    | assumption
    | ((with_reducible apply State.setF_step); rfl)
    | ((with_reducible apply State.gate_step); rfl)
    | ((with_reducible apply State.portOff_step); rfl)
    | ((with_reducible apply State.beginTraining_step); rfl)
    | with_reducible apply WithinNext.ok
    | exact WithinNext.fault _
    | ((with_reducible apply Within.stepEach); intro _ _)
    | split
    | extract_lets
    | with_reducible intro _
    | with_reducible show Within _ _ (ite _ _ _)
    | ((with_reducible show Within _ _ (id _)); exact Within.refl _ _)
    | dsimp +zetaDelta only

theorem execPortEnableWrite_next {a0 : _} {a1 : _} {m : Nat} {s : State} (c : 13826002390 &&& m = 13826002390) :
    WithinNext m s (execPortEnableWrite a0 a1 s) := WithinNext.mono (execPortEnableWrite_within a0 a1 s) c

theorem execPortRetrain_within : ∀ a0 (s : State), WithinNext 13826002388 s (execPortRetrain a0 s) := by
  intro a0 s
  unfold execPortRetrain
  repeat' first
    | with_reducible exact Within.refl _ _
    | assumption
    | ((with_reducible apply State.requestMaint_step); rfl)
    | ((with_reducible apply State.gate_step); rfl)
    | ((with_reducible apply State.startRetrain_step); rfl)
    | with_reducible apply WithinNext.ok
    | exact WithinNext.fault _
    | ((with_reducible apply Within.stepEach); intro _ _)
    | split
    | extract_lets
    | with_reducible intro _
    | with_reducible show Within _ _ (ite _ _ _)
    | ((with_reducible show Within _ _ (id _)); exact Within.refl _ _)
    | dsimp +zetaDelta only

theorem execPortRetrain_next {a0 : _} {m : Nat} {s : State} (c : 13826002388 &&& m = 13826002388) :
    WithinNext m s (execPortRetrain a0 s) := WithinNext.mono (execPortRetrain_within a0 s) c

theorem execPortDrain_within : ∀ a0 (s : State), WithinNext 13826001366 s (execPortDrain a0 s) := by
  intro a0 s
  unfold execPortDrain
  repeat' first
    | with_reducible exact Within.refl _ _
    | assumption
    | ((with_reducible apply State.setF_step); rfl)
    | ((with_reducible apply State.requestMaint_step); rfl)
    | ((with_reducible apply State.gate_step); rfl)
    | ((with_reducible apply State.startDrain_step); rfl)
    | with_reducible apply WithinNext.ok
    | exact WithinNext.fault _
    | ((with_reducible apply Within.stepEach); intro _ _)
    | split
    | extract_lets
    | with_reducible intro _
    | with_reducible show Within _ _ (ite _ _ _)
    | ((with_reducible show Within _ _ (id _)); exact Within.refl _ _)
    | dsimp +zetaDelta only

theorem execPortDrain_next {a0 : _} {m : Nat} {s : State} (c : 13826001366 &&& m = 13826001366) :
    WithinNext m s (execPortDrain a0 s) := WithinNext.mono (execPortDrain_within a0 s) c

theorem execLaneMaskWrite_within : ∀ a0 a1 (s : State), WithinNext 13826002390 s (execLaneMaskWrite a0 a1 s) := by
  intro a0 a1 s
  unfold execLaneMaskWrite
  repeat' first
    | with_reducible exact Within.refl _ _
    | assumption
    | ((with_reducible apply State.setF_step); rfl)
    | ((with_reducible apply State.gate_step); rfl)
    | ((with_reducible apply State.trimLanes_step); rfl)
    | ((with_reducible apply State.portOff_step); rfl)
    | ((with_reducible apply State.beginTraining_step); rfl)
    | with_reducible apply WithinNext.ok
    | exact WithinNext.fault _
    | ((with_reducible apply Within.stepEach); intro _ _)
    | split
    | extract_lets
    | with_reducible intro _
    | with_reducible show Within _ _ (ite _ _ _)
    | ((with_reducible show Within _ _ (id _)); exact Within.refl _ _)
    | dsimp +zetaDelta only

theorem execLaneMaskWrite_next {a0 : _} {a1 : _} {m : Nat} {s : State} (c : 13826002390 &&& m = 13826002390) :
    WithinNext m s (execLaneMaskWrite a0 a1 s) := WithinNext.mono (execLaneMaskWrite_within a0 a1 s) c

theorem execPortUndrain_within : ∀ a0 (s : State), WithinNext 13826001366 s (execPortUndrain a0 s) := by
  intro a0 s
  unfold execPortUndrain
  repeat' first
    | with_reducible exact Within.refl _ _
    | assumption
    | ((with_reducible apply State.joinBundle_step); rfl)
    | ((with_reducible apply State.setPort_step); rfl)
    | ((with_reducible apply State.setF_step); rfl)
    | ((with_reducible apply State.endMaint_step); rfl)
    | ((with_reducible apply State.reconsider_step); rfl)
    | ((with_reducible apply State.gate_step); rfl)
    | ((with_reducible apply State.sendReady_step); rfl)
    | with_reducible apply WithinNext.ok
    | exact WithinNext.fault _
    | ((with_reducible apply Within.stepEach); intro _ _)
    | split
    | extract_lets
    | ((fail_if_success with_reducible apply Within.upd_pending); (with_reducible apply Within.upd_maint); rfl)
    | with_reducible intro _
    | with_reducible show Within _ _ (ite _ _ _)
    | ((with_reducible show Within _ _ (id _)); exact Within.refl _ _)
    | dsimp +zetaDelta only
    | ((fail_if_success with_reducible apply Within.upd_pending); (with_reducible apply Within.upd_maint); rfl)

theorem execPortUndrain_next {a0 : _} {m : Nat} {s : State} (c : 13826001366 &&& m = 13826001366) :
    WithinNext m s (execPortUndrain a0 s) := WithinNext.mono (execPortUndrain_within a0 s) c

theorem execPortReset_within : ∀ a0 (s : State), WithinNext 13826002390 s (execPortReset a0 s) := by
  intro a0 s
  unfold execPortReset
  repeat' first
    | with_reducible exact Within.refl _ _
    | assumption
    | ((with_reducible apply State.requestMaint_step); rfl)
    | ((with_reducible apply State.gate_step); rfl)
    | ((with_reducible apply State.startPortReset_step); rfl)
    | with_reducible apply WithinNext.ok
    | exact WithinNext.fault _
    | ((with_reducible apply Within.stepEach); intro _ _)
    | split
    | extract_lets
    | with_reducible intro _
    | with_reducible show Within _ _ (ite _ _ _)
    | ((with_reducible show Within _ _ (id _)); exact Within.refl _ _)
    | dsimp +zetaDelta only

theorem execPortReset_next {a0 : _} {m : Nat} {s : State} (c : 13826002390 &&& m = 13826002390) :
    WithinNext m s (execPortReset a0 s) := WithinNext.mono (execPortReset_within a0 s) c

theorem execPortDrainEnd_within : ∀ a0 (s : State), WithinNext 17080781269 s (execPortDrainEnd a0 s) := by
  intro a0 s
  unfold execPortDrainEnd
  repeat' first
    | with_reducible exact Within.refl _ _
    | assumption
    | ((with_reducible apply State.endDrain_step); rfl)
    | ((with_reducible apply State.reach_step); rfl)
    | with_reducible apply WithinNext.ok
    | exact WithinNext.fault _
    | ((with_reducible apply Within.stepEach); intro _ _)
    | split
    | extract_lets
    | with_reducible intro _
    | with_reducible show Within _ _ (ite _ _ _)
    | ((with_reducible show Within _ _ (id _)); exact Within.refl _ _)
    | dsimp +zetaDelta only

theorem execPortDrainEnd_next {a0 : _} {m : Nat} {s : State} (c : 17080781269 &&& m = 17080781269) :
    WithinNext m s (execPortDrainEnd a0 s) := WithinNext.mono (execPortDrainEnd_within a0 s) c

theorem execOpticalOverload_within : ∀ a0 a1 a2 (s : State), WithinNext 13826002388 s (execOpticalOverload a0 a1 a2 s) := by
  intro a0 a1 a2 s
  unfold execOpticalOverload
  repeat' first
    | with_reducible exact Within.refl _ _
    | assumption
    | ((with_reducible apply State.setPort_step); rfl)
    | ((with_reducible apply State.laneLeaves_step); rfl)
    | ((with_reducible apply State.powerEvent_step); rfl)
    | with_reducible apply WithinNext.ok
    | exact WithinNext.fault _
    | ((with_reducible apply Within.stepEach); intro _ _)
    | split
    | extract_lets
    | with_reducible intro _
    | with_reducible show Within _ _ (ite _ _ _)
    | ((with_reducible show Within _ _ (id _)); exact Within.refl _ _)
    | dsimp +zetaDelta only

theorem execOpticalOverload_next {a0 : _} {a1 : _} {a2 : _} {m : Nat} {s : State} (c : 13826002388 &&& m = 13826002388) :
    WithinNext m s (execOpticalOverload a0 a1 a2 s) := WithinNext.mono (execOpticalOverload_within a0 a1 a2 s) c

theorem execOpticalLos_within : ∀ a0 a1 (s : State), WithinNext 13826002388 s (execOpticalLos a0 a1 s) := by
  intro a0 a1 s
  unfold execOpticalLos
  repeat' first
    | with_reducible exact Within.refl _ _
    | assumption
    | ((with_reducible apply State.setPort_step); rfl)
    | ((with_reducible apply State.degrade_step); rfl)
    | with_reducible apply WithinNext.ok
    | exact WithinNext.fault _
    | ((with_reducible apply Within.stepEach); intro _ _)
    | split
    | extract_lets
    | with_reducible intro _
    | with_reducible show Within _ _ (ite _ _ _)
    | ((with_reducible show Within _ _ (id _)); exact Within.refl _ _)
    | dsimp +zetaDelta only

theorem execOpticalLos_next {a0 : _} {a1 : _} {m : Nat} {s : State} (c : 13826002388 &&& m = 13826002388) :
    WithinNext m s (execOpticalLos a0 a1 s) := WithinNext.mono (execOpticalLos_within a0 a1 s) c

theorem execLaneRejoin_within : ∀ a0 a1 (s : State), WithinNext 128 s (execLaneRejoin a0 a1 s) := by
  intro a0 a1 s
  unfold execLaneRejoin
  repeat' first
    | with_reducible exact Within.refl _ _
    | assumption
    | ((with_reducible apply State.setPort_step); rfl)
    | with_reducible apply WithinNext.ok
    | exact WithinNext.fault _
    | ((with_reducible apply Within.stepEach); intro _ _)
    | split
    | extract_lets
    | with_reducible intro _
    | with_reducible show Within _ _ (ite _ _ _)
    | ((with_reducible show Within _ _ (id _)); exact Within.refl _ _)
    | dsimp +zetaDelta only

theorem execLaneRejoin_next {a0 : _} {a1 : _} {m : Nat} {s : State} (c : 128 &&& m = 128) :
    WithinNext m s (execLaneRejoin a0 a1 s) := WithinNext.mono (execLaneRejoin_within a0 a1 s) c

theorem execLcIdentTimer_within : ∀ a0 (s : State), WithinNext 4294967300 s (execLcIdentTimer a0 s) := by
  intro a0 s
  unfold execLcIdentTimer
  repeat' first
    | with_reducible exact Within.refl _ _
    | assumption
    | ((with_reducible apply State.sendLocal_step); rfl)
    | with_reducible apply WithinNext.ok
    | exact WithinNext.fault _
    | ((with_reducible apply Within.stepEach); intro _ _)
    | split
    | extract_lets
    | with_reducible intro _
    | with_reducible show Within _ _ (ite _ _ _)
    | ((with_reducible show Within _ _ (id _)); exact Within.refl _ _)
    | dsimp +zetaDelta only

theorem execLcIdentTimer_next {a0 : _} {m : Nat} {s : State} (c : 4294967300 &&& m = 4294967300) :
    WithinNext m s (execLcIdentTimer a0 s) := WithinNext.mono (execLcIdentTimer_within a0 s) c

theorem execLcIdentReceive_within : ∀ a0 (s : State), WithinNext 13824953812 s (execLcIdentReceive a0 s) := by
  intro a0 s
  unfold execLcIdentReceive
  repeat' first
    | with_reducible exact Within.refl _ _
    | assumption
    | ((with_reducible apply State.setPort_step); rfl)
    | ((with_reducible apply State.identified_step); rfl)
    | with_reducible apply WithinNext.ok
    | exact WithinNext.fault _
    | ((with_reducible apply Within.stepEach); intro _ _)
    | split
    | extract_lets
    | with_reducible intro _
    | with_reducible show Within _ _ (ite _ _ _)
    | ((with_reducible show Within _ _ (id _)); exact Within.refl _ _)
    | dsimp +zetaDelta only

theorem execLcIdentReceive_next {a0 : _} {m : Nat} {s : State} (c : 13824953812 &&& m = 13824953812) :
    WithinNext m s (execLcIdentReceive a0 s) := WithinNext.mono (execLcIdentReceive_within a0 s) c

theorem execFlitLock_within : ∀ a0 a1 a2 a3 a4 (s : State), WithinNext 13824953748 s (execFlitLock a0 a1 a2 a3 a4 s) := by
  intro a0 a1 a2 a3 a4 s
  unfold execFlitLock
  repeat' first
    | with_reducible exact Within.refl _ _
    | assumption
    | ((with_reducible apply State.portUp_step); rfl)
    | ((with_reducible apply State.setPort_step); rfl)
    | ((with_reducible apply State.trainedLinks_step); rfl)
    | ((with_reducible apply State.reconsider_step); rfl)
    | ((with_reducible apply State.sendLocal_step); rfl)
    | with_reducible apply WithinNext.ok
    | exact WithinNext.fault _
    | ((with_reducible apply Within.stepEach); intro _ _)
    | split
    | extract_lets
    | with_reducible intro _
    | with_reducible show Within _ _ (ite _ _ _)
    | ((with_reducible show Within _ _ (id _)); exact Within.refl _ _)
    | dsimp +zetaDelta only

theorem execFlitLock_next {a0 : _} {a1 : _} {a2 : _} {a3 : _} {a4 : _} {m : Nat} {s : State} (c : 13824953748 &&& m = 13824953748) :
    WithinNext m s (execFlitLock a0 a1 a2 a3 a4 s) := WithinNext.mono (execFlitLock_within a0 a1 a2 a3 a4 s) c

theorem execOpticalLosClear_within : ∀ a0 a1 (s : State), WithinNext 128 s (execOpticalLosClear a0 a1 s) := by
  intro a0 a1 s
  unfold execOpticalLosClear
  repeat' first
    | with_reducible exact Within.refl _ _
    | assumption
    | ((with_reducible apply State.setPort_step); rfl)
    | with_reducible apply WithinNext.ok
    | exact WithinNext.fault _
    | ((with_reducible apply Within.stepEach); intro _ _)
    | split
    | extract_lets
    | with_reducible intro _
    | with_reducible show Within _ _ (ite _ _ _)
    | ((with_reducible show Within _ _ (id _)); exact Within.refl _ _)
    | dsimp +zetaDelta only

theorem execOpticalLosClear_next {a0 : _} {a1 : _} {m : Nat} {s : State} (c : 128 &&& m = 128) :
    WithinNext m s (execOpticalLosClear a0 a1 s) := WithinNext.mono (execOpticalLosClear_within a0 a1 s) c

theorem execTrainingStepTimeout_within : ∀ a0 (s : State), WithinNext 17079733653 s (execTrainingStepTimeout a0 s) := by
  intro a0 s
  unfold execTrainingStepTimeout
  repeat' first
    | with_reducible exact Within.refl _ _
    | assumption
    | ((with_reducible apply State.trainingFails_step); rfl)
    | ((with_reducible apply State.lanesLock_step); rfl)
    | ((with_reducible apply State.reach_step); rfl)
    | with_reducible apply WithinNext.ok
    | exact WithinNext.fault _
    | ((with_reducible apply Within.stepEach); intro _ _)
    | split
    | extract_lets
    | with_reducible intro _
    | with_reducible show Within _ _ (ite _ _ _)
    | ((with_reducible show Within _ _ (id _)); exact Within.refl _ _)
    | dsimp +zetaDelta only

theorem execTrainingStepTimeout_next {a0 : _} {m : Nat} {s : State} (c : 17079733653 &&& m = 17079733653) :
    WithinNext m s (execTrainingStepTimeout a0 s) := WithinNext.mono (execTrainingStepTimeout_within a0 s) c

theorem execLaneLock_within : ∀ a0 a1 (s : State), WithinNext 13824953748 s (execLaneLock a0 a1 s) := by
  intro a0 a1 s
  unfold execLaneLock
  repeat' first
    | with_reducible exact Within.refl _ _
    | assumption
    | ((with_reducible apply State.setPort_step); rfl)
    | ((with_reducible apply State.lanesLock_step); rfl)
    | with_reducible apply WithinNext.ok
    | exact WithinNext.fault _
    | ((with_reducible apply Within.stepEach); intro _ _)
    | split
    | extract_lets
    | with_reducible intro _
    | with_reducible show Within _ _ (ite _ _ _)
    | ((with_reducible show Within _ _ (id _)); exact Within.refl _ _)
    | dsimp +zetaDelta only

theorem execLaneLock_next {a0 : _} {a1 : _} {m : Nat} {s : State} (c : 13824953748 &&& m = 13824953748) :
    WithinNext m s (execLaneLock a0 a1 s) := WithinNext.mono (execLaneLock_within a0 a1 s) c

theorem execOverloadClear_within : ∀ a0 a1 (s : State), WithinNext 4294967424 s (execOverloadClear a0 a1 s) := by
  intro a0 a1 s
  unfold execOverloadClear
  repeat' first
    | with_reducible exact Within.refl _ _
    | assumption
    | ((with_reducible apply State.setPort_step); rfl)
    | ((with_reducible apply State.beginTraining_step); rfl)
    | with_reducible apply WithinNext.ok
    | exact WithinNext.fault _
    | ((with_reducible apply Within.stepEach); intro _ _)
    | split
    | extract_lets
    | with_reducible intro _
    | with_reducible show Within _ _ (ite _ _ _)
    | ((with_reducible show Within _ _ (id _)); exact Within.refl _ _)
    | dsimp +zetaDelta only

theorem execOverloadClear_next {a0 : _} {a1 : _} {m : Nat} {s : State} (c : 4294967424 &&& m = 4294967424) :
    WithinNext m s (execOverloadClear a0 a1 s) := WithinNext.mono (execOverloadClear_within a0 a1 s) c

theorem execLaneFail_within : ∀ a0 a1 (s : State), WithinNext 13826002388 s (execLaneFail a0 a1 s) := by
  intro a0 a1 s
  unfold execLaneFail
  repeat' first
    | with_reducible exact Within.refl _ _
    | assumption
    | ((with_reducible apply State.degrade_step); rfl)
    | with_reducible apply WithinNext.ok
    | exact WithinNext.fault _
    | ((with_reducible apply Within.stepEach); intro _ _)
    | split
    | extract_lets
    | with_reducible intro _
    | with_reducible show Within _ _ (ite _ _ _)
    | ((with_reducible show Within _ _ (id _)); exact Within.refl _ _)
    | dsimp +zetaDelta only

theorem execLaneFail_next {a0 : _} {a1 : _} {m : Nat} {s : State} (c : 13826002388 &&& m = 13826002388) :
    WithinNext m s (execLaneFail a0 a1 s) := WithinNext.mono (execLaneFail_within a0 a1 s) c

theorem execOpticalPowerWarning_within : ∀ a0 a1 a2 a3 (s : State), WithinNext 939528196 s (execOpticalPowerWarning a0 a1 a2 a3 s) := by
  intro a0 a1 a2 a3 s
  unfold execOpticalPowerWarning
  repeat' first
    | with_reducible exact Within.refl _ _
    | assumption
    | ((with_reducible apply State.powerEvent_step); rfl)
    | with_reducible apply WithinNext.ok
    | exact WithinNext.fault _
    | ((with_reducible apply Within.stepEach); intro _ _)
    | split
    | extract_lets
    | ((fail_if_success with_reducible apply Within.upd_pending); (with_reducible apply Within.upd_optics); rfl)
    | with_reducible intro _
    | with_reducible show Within _ _ (ite _ _ _)
    | ((with_reducible show Within _ _ (id _)); exact Within.refl _ _)
    | dsimp +zetaDelta only
    | ((fail_if_success with_reducible apply Within.upd_pending); (with_reducible apply Within.upd_optics); rfl)

theorem execOpticalPowerWarning_next {a0 : _} {a1 : _} {a2 : _} {a3 : _} {m : Nat} {s : State} (c : 939528196 &&& m = 939528196) :
    WithinNext m s (execOpticalPowerWarning a0 a1 a2 a3 s) := WithinNext.mono (execOpticalPowerWarning_within a0 a1 a2 a3 s) c

theorem execLinkSilenceTimeout_within : ∀ a0 (s : State), WithinNext 17080782293 s (execLinkSilenceTimeout a0 s) := by
  intro a0 s
  unfold execLinkSilenceTimeout
  repeat' first
    | with_reducible exact Within.refl _ _
    | assumption
    | ((with_reducible apply State.linkDown_step); rfl)
    | ((with_reducible apply State.reach_step); rfl)
    | with_reducible apply WithinNext.ok
    | exact WithinNext.fault _
    | ((with_reducible apply Within.stepEach); intro _ _)
    | split
    | extract_lets
    | with_reducible intro _
    | with_reducible show Within _ _ (ite _ _ _)
    | ((with_reducible show Within _ _ (id _)); exact Within.refl _ _)
    | dsimp +zetaDelta only

theorem execLinkSilenceTimeout_next {a0 : _} {m : Nat} {s : State} (c : 17080782293 &&& m = 17080782293) :
    WithinNext m s (execLinkSilenceTimeout a0 s) := WithinNext.mono (execLinkSilenceTimeout_within a0 s) c

theorem execTrainingRestExpiry_within : ∀ a0 (s : State), WithinNext 7549747333 s (execTrainingRestExpiry a0 s) := by
  intro a0 s
  unfold execTrainingRestExpiry
  repeat' first
    | with_reducible exact Within.refl _ _
    | assumption
    | ((with_reducible apply State.setPort_step); rfl)
    | ((with_reducible apply State.reach_step); rfl)
    | ((with_reducible apply State.beginTraining_step); rfl)
    | with_reducible apply WithinNext.ok
    | exact WithinNext.fault _
    | ((with_reducible apply Within.stepEach); intro _ _)
    | split
    | extract_lets
    | with_reducible intro _
    | with_reducible show Within _ _ (ite _ _ _)
    | ((with_reducible show Within _ _ (id _)); exact Within.refl _ _)
    | dsimp +zetaDelta only

theorem execTrainingRestExpiry_next {a0 : _} {m : Nat} {s : State} (c : 7549747333 &&& m = 7549747333) :
    WithinNext m s (execTrainingRestExpiry a0 s) := WithinNext.mono (execTrainingRestExpiry_within a0 s) c


/-! ## Machine/Flits.lean -/

theorem State.replayAll_within : ∀ (s : State) a1 a2, Within 13826002388 s (State.replayAll s a1 a2) := by
  intro s a1 a2
  unfold State.replayAll
  repeat' first
    | with_reducible exact Within.refl _ _
    | assumption
    | ((with_reducible apply State.bump_step); rfl)
    | ((with_reducible apply State.linkDown_step); rfl)
    | ((with_reducible apply State.setLink_step); rfl)
    | ((with_reducible apply Within.stepEach); intro _ _)
    | split
    | extract_lets
    | ((fail_if_success with_reducible apply Within.upd_pending); (with_reducible apply Within.upd_out); rfl)
    | with_reducible intro _
    | with_reducible show Within _ _ (ite _ _ _)
    | ((with_reducible show Within _ _ (id _)); exact Within.refl _ _)
    | dsimp +zetaDelta only
    | ((fail_if_success with_reducible apply Within.upd_pending); (with_reducible apply Within.upd_out); rfl)

theorem State.replayAll_step {a1 : _} {a2 : _} {m : Nat} {r s : State} (c : 13826002388 &&& m = 13826002388) (h : Within m r s) :
    Within m r (State.replayAll s a1 a2) := Within.step (State.replayAll_within s a1 a2) c h

theorem State.pairAcked_within : ∀ (s : State) a1 a2, Within 3072 s (State.pairAcked s a1 a2) := by
  intro s a1 a2
  unfold State.pairAcked
  repeat' first
    | with_reducible exact Within.refl _ _
    | assumption
    | ((with_reducible apply State.setPlane_step); rfl)
    | ((with_reducible apply Within.stepEach); intro _ _)
    | split
    | extract_lets
    | ((fail_if_success with_reducible apply Within.upd_pending); (with_reducible apply Within.upd_prism); rfl)
    | with_reducible intro _
    | with_reducible show Within _ _ (ite _ _ _)
    | ((with_reducible show Within _ _ (id _)); exact Within.refl _ _)
    | dsimp +zetaDelta only
    | ((fail_if_success with_reducible apply Within.upd_pending); (with_reducible apply Within.upd_prism); rfl)

theorem State.pairAcked_step {a1 : _} {a2 : _} {m : Nat} {r s : State} (c : 3072 &&& m = 3072) (h : Within m r s) :
    Within m r (State.pairAcked s a1 a2) := Within.step (State.pairAcked_within s a1 a2) c h

theorem State.applyAck_within : ∀ (s : State) a1 a2 a3 a4, Within 13826002388 s (State.applyAck s a1 a2 a3 a4) := by
  intro s a1 a2 a3 a4
  unfold State.applyAck
  repeat' first
    | with_reducible exact Within.refl _ _
    | assumption
    | ((with_reducible apply State.checkAcks_step); rfl)
    | ((with_reducible apply State.pairAcked_step); rfl)
    | ((with_reducible apply State.replayAll_step); rfl)
    | ((with_reducible apply State.setLink_step); rfl)
    | ((with_reducible apply Within.stepEach); intro _ _)
    | split
    | extract_lets
    | with_reducible intro _
    | with_reducible show Within _ _ (ite _ _ _)
    | ((with_reducible show Within _ _ (id _)); exact Within.refl _ _)
    | dsimp +zetaDelta only

theorem State.applyAck_step {a1 : _} {a2 : _} {a3 : _} {a4 : _} {m : Nat} {r s : State} (c : 13826002388 &&& m = 13826002388) (h : Within m r s) :
    Within m r (State.applyAck s a1 a2 a3 a4) := Within.step (State.applyAck_within s a1 a2 a3 a4) c h

theorem State.drawNak_within : ∀ (s : State) a1 a2, Within 4294967556 s (State.drawNak s a1 a2) := by
  intro s a1 a2
  unfold State.drawNak
  repeat' first
    | with_reducible exact Within.refl _ _
    | assumption
    | ((with_reducible apply State.bump_step); rfl)
    | ((with_reducible apply State.setLink_step); rfl)
    | ((with_reducible apply State.emit_step); rfl)
    | ((with_reducible apply Within.stepEach); intro _ _)
    | split
    | extract_lets
    | with_reducible intro _
    | with_reducible show Within _ _ (ite _ _ _)
    | ((with_reducible show Within _ _ (id _)); exact Within.refl _ _)
    | dsimp +zetaDelta only

theorem State.drawNak_step {a1 : _} {a2 : _} {m : Nat} {r s : State} (c : 4294967556 &&& m = 4294967556) (h : Within m r s) :
    Within m r (State.drawNak s a1 a2) := Within.step (State.drawNak_within s a1 a2) c h

theorem State.badFlit_within : ∀ (s : State) a1 a2, Within 4294967556 s (State.badFlit s a1 a2) := by
  intro s a1 a2
  unfold State.badFlit
  repeat' first
    | with_reducible exact Within.refl _ _
    | assumption
    | ((with_reducible apply State.bump_step); rfl)
    | ((with_reducible apply State.drawNak_step); rfl)
    | ((with_reducible apply Within.stepEach); intro _ _)
    | split
    | extract_lets
    | with_reducible intro _
    | with_reducible show Within _ _ (ite _ _ _)
    | ((with_reducible show Within _ _ (id _)); exact Within.refl _ _)
    | dsimp +zetaDelta only

theorem State.badFlit_step {a1 : _} {a2 : _} {m : Nat} {r s : State} (c : 4294967556 &&& m = 4294967556) (h : Within m r s) :
    Within m r (State.badFlit s a1 a2) := Within.step (State.badFlit_within s a1 a2) c h

theorem State.heardFrom_within : ∀ (s : State) a1 a2, Within 640 s (State.heardFrom s a1 a2) := by
  intro s a1 a2
  unfold State.heardFrom
  repeat' first
    | with_reducible exact Within.refl _ _
    | assumption
    | ((with_reducible apply State.setPort_step); rfl)
    | ((with_reducible apply State.setPeer_step); rfl)
    | ((with_reducible apply Within.stepEach); intro _ _)
    | split
    | extract_lets
    | with_reducible intro _
    | with_reducible show Within _ _ (ite _ _ _)
    | ((with_reducible show Within _ _ (id _)); exact Within.refl _ _)
    | dsimp +zetaDelta only

theorem State.heardFrom_step {a1 : _} {a2 : _} {m : Nat} {r s : State} (c : 640 &&& m = 640) (h : Within m r s) :
    Within m r (State.heardFrom s a1 a2) := Within.step (State.heardFrom_within s a1 a2) c h

theorem State.receivePacket_within : ∀ (s : State) a1 a2 a3 a4, Within 2013266196 s (State.receivePacket s a1 a2 a3 a4) := by
  intro s a1 a2 a3 a4
  unfold State.receivePacket
  repeat' first
    | with_reducible exact Within.refl _ _
    | assumption
    | ((with_reducible apply State.raise_step); rfl)
    | ((with_reducible apply State.bumpPort_step); rfl)
    | ((with_reducible apply State.countDrop_step); rfl)
    | ((with_reducible apply State.setLink_step); rfl)
    | ((with_reducible apply State.xPass_step); rfl)
    | ((with_reducible apply Within.stepEach); intro _ _)
    | split
    | extract_lets
    | ((fail_if_success with_reducible apply Within.upd_pending); (with_reducible apply Within.upd_dp); rfl)
    | with_reducible intro _
    | with_reducible show Within _ _ (ite _ _ _)
    | ((with_reducible show Within _ _ (id _)); exact Within.refl _ _)
    | dsimp +zetaDelta only
    | ((fail_if_success with_reducible apply Within.upd_pending); (with_reducible apply Within.upd_dp); rfl)

theorem State.receivePacket_step {a1 : _} {a2 : _} {a3 : _} {a4 : _} {m : Nat} {r s : State} (c : 2013266196 &&& m = 2013266196) (h : Within m r s) :
    Within m r (State.receivePacket s a1 a2 a3 a4) := Within.step (State.receivePacket_within s a1 a2 a3 a4) c h

theorem State.tailPassed_within : ∀ (s : State) a1, Within 5373495636 s (State.tailPassed s a1) := by
  intro s a1
  unfold State.tailPassed
  repeat' first
    | with_reducible exact Within.refl _ _
    | assumption
    | ((with_reducible apply State.flyOut_step); rfl)
    | ((with_reducible apply State.learn_step); rfl)
    | ((with_reducible apply Within.stepEach); intro _ _)
    | split
    | extract_lets
    | ((fail_if_success with_reducible apply Within.upd_pending); (with_reducible apply Within.upd_dp); rfl)
    | with_reducible intro _
    | with_reducible show Within _ _ (ite _ _ _)
    | ((with_reducible show Within _ _ (id _)); exact Within.refl _ _)
    | dsimp +zetaDelta only
    | ((fail_if_success with_reducible apply Within.upd_pending); (with_reducible apply Within.upd_dp); rfl)

theorem State.tailPassed_step {a1 : _} {m : Nat} {r s : State} (c : 5373495636 &&& m = 5373495636) (h : Within m r s) :
    Within m r (State.tailPassed s a1) := Within.step (State.tailPassed_within s a1) c h

theorem State.takeLocalPacket_within : ∀ (s : State) a1 a2, Within 132 s (State.takeLocalPacket s a1 a2) := by
  intro s a1 a2
  unfold State.takeLocalPacket
  repeat' first
    | with_reducible exact Within.refl _ _
    | assumption
    | ((with_reducible apply State.setPort_step); rfl)
    | ((with_reducible apply State.countDrop_step); rfl)
    | ((with_reducible apply Within.stepEach); intro _ _)
    | split
    | extract_lets
    | with_reducible intro _
    | with_reducible show Within _ _ (ite _ _ _)
    | ((with_reducible show Within _ _ (id _)); exact Within.refl _ _)
    | dsimp +zetaDelta only

theorem State.takeLocalPacket_step {a1 : _} {a2 : _} {m : Nat} {r s : State} (c : 132 &&& m = 132) (h : Within m r s) :
    Within m r (State.takeLocalPacket s a1 a2) := Within.step (State.takeLocalPacket_within s a1 a2) c h

theorem execPacketTail_within : ∀ a0 (s : State), WithinNext 5373495636 s (execPacketTail a0 s) := by
  intro a0 s
  unfold execPacketTail
  repeat' first
    | with_reducible exact Within.refl _ _
    | assumption
    | ((with_reducible apply State.countDrop_step); rfl)
    | ((with_reducible apply State.tailPassed_step); rfl)
    | with_reducible apply WithinNext.ok
    | exact WithinNext.fault _
    | ((with_reducible apply Within.stepEach); intro _ _)
    | split
    | extract_lets
    | ((fail_if_success with_reducible apply Within.upd_pending); (with_reducible apply Within.upd_dp); rfl)
    | with_reducible intro _
    | with_reducible show Within _ _ (ite _ _ _)
    | ((with_reducible show Within _ _ (id _)); exact Within.refl _ _)
    | dsimp +zetaDelta only
    | ((fail_if_success with_reducible apply Within.upd_pending); (with_reducible apply Within.upd_dp); rfl)

theorem execPacketTail_next {a0 : _} {m : Nat} {s : State} (c : 5373495636 &&& m = 5373495636) :
    WithinNext m s (execPacketTail a0 s) := WithinNext.mono (execPacketTail_within a0 s) c

theorem execControlFlitReceive_within : ∀ a0 a1 a2 (s : State), WithinNext 13826002900 s (execControlFlitReceive a0 a1 a2 s) := by
  intro a0 a1 a2 s
  unfold execControlFlitReceive
  repeat' first
    | with_reducible exact Within.refl _ _
    | assumption
    | ((with_reducible apply State.heardFrom_step); rfl)
    | ((with_reducible apply State.takeLocalPacket_step); rfl)
    | ((with_reducible apply State.applyAck_step); rfl)
    | ((with_reducible apply State.setLink_step); rfl)
    | ((with_reducible apply State.badFlit_step); rfl)
    | with_reducible apply WithinNext.ok
    | exact WithinNext.fault _
    | ((with_reducible apply Within.stepEach); intro _ _)
    | split
    | extract_lets
    | with_reducible intro _
    | with_reducible show Within _ _ (ite _ _ _)
    | ((with_reducible show Within _ _ (id _)); exact Within.refl _ _)
    | dsimp +zetaDelta only

theorem execControlFlitReceive_next {a0 : _} {a1 : _} {a2 : _} {m : Nat} {s : State} (c : 13826002900 &&& m = 13826002900) :
    WithinNext m s (execControlFlitReceive a0 a1 a2 s) := WithinNext.mono (execControlFlitReceive_within a0 a1 a2 s) c

theorem execFlitReceive_within : ∀ a0 a1 a2 a3 (s : State), WithinNext 6308234132 s (execFlitReceive a0 a1 a2 a3 s) := by
  intro a0 a1 a2 a3 s
  unfold execFlitReceive
  repeat' first
    | with_reducible exact Within.refl _ _
    | assumption
    | ((with_reducible apply State.bump_step); rfl)
    | ((with_reducible apply State.heardFrom_step); rfl)
    | ((with_reducible apply State.receivePacket_step); rfl)
    | ((with_reducible apply State.setLink_step); rfl)
    | ((with_reducible apply State.drawNak_step); rfl)
    | ((with_reducible apply State.badFlit_step); rfl)
    | with_reducible apply WithinNext.ok
    | exact WithinNext.fault _
    | ((with_reducible apply Within.stepEach); intro _ _)
    | split
    | extract_lets
    | with_reducible intro _
    | with_reducible show Within _ _ (ite _ _ _)
    | ((with_reducible show Within _ _ (id _)); exact Within.refl _ _)
    | dsimp +zetaDelta only

theorem execFlitReceive_next {a0 : _} {a1 : _} {a2 : _} {a3 : _} {m : Nat} {s : State} (c : 6308234132 &&& m = 6308234132) :
    WithinNext m s (execFlitReceive a0 a1 a2 a3 s) := WithinNext.mono (execFlitReceive_within a0 a1 a2 a3 s) c

end Sys2Proof.Machine
end

