-- ==== Sys2Proof/Laws/FrameCanvas.lean ====
section
/-!
SUPPORT. Frames of Canvas, and what Canvas and Palette share: one lemma per operation and command, which parts of the state it can change.
-/

set_option linter.all false
namespace Sys2Proof.Machine

/-! ## Machine/PalBase.lean -/

theorem State.setPalRing_within : ∀ (s : State) a1 a2, Within 16384 s (State.setPalRing s a1 a2) := by
  intro s a1 a2
  unfold State.setPalRing
  repeat' first
    | with_reducible exact Within.refl _ _
    | assumption
    | ((with_reducible apply Within.stepEach); intro _ _)
    | split
    | extract_lets
    | ((fail_if_success with_reducible apply Within.upd_pending); (with_reducible apply Within.upd_pal); rfl)
    | with_reducible intro _
    | with_reducible show Within _ _ (ite _ _ _)
    | ((with_reducible show Within _ _ (id _)); exact Within.refl _ _)
    | dsimp +zetaDelta only
    | ((fail_if_success with_reducible apply Within.upd_pending); (with_reducible apply Within.upd_pal); rfl)

theorem State.setPalRing_step {a1 : _} {a2 : _} {m : Nat} {r s : State} (c : 16384 &&& m = 16384) (h : Within m r s) :
    Within m r (State.setPalRing s a1 a2) := Within.step (State.setPalRing_within s a1 a2) c h

theorem State.setEngine_within : ∀ (s : State) a1 a2, Within 16384 s (State.setEngine s a1 a2) := by
  intro s a1 a2
  unfold State.setEngine
  repeat' first
    | with_reducible exact Within.refl _ _
    | assumption
    | ((with_reducible apply Within.stepEach); intro _ _)
    | split
    | extract_lets
    | ((fail_if_success with_reducible apply Within.upd_pending); (with_reducible apply Within.upd_pal); rfl)
    | with_reducible intro _
    | with_reducible show Within _ _ (ite _ _ _)
    | ((with_reducible show Within _ _ (id _)); exact Within.refl _ _)
    | dsimp +zetaDelta only
    | ((fail_if_success with_reducible apply Within.upd_pending); (with_reducible apply Within.upd_pal); rfl)

theorem State.setEngine_step {a1 : _} {a2 : _} {m : Nat} {r s : State} (c : 16384 &&& m = 16384) (h : Within m r s) :
    Within m r (State.setEngine s a1 a2) := Within.step (State.setEngine_within s a1 a2) c h


/-! ## Machine/CanvasOps.lean -/

theorem State.enterRecover_within : ∀ (s : State) a1, Within 939532292 s (State.enterRecover s a1) := by
  intro s a1
  unfold State.enterRecover
  repeat' first
    | with_reducible exact Within.refl _ _
    | assumption
    | ((with_reducible apply State.raise_step); rfl)
    | ((with_reducible apply State.setCtx_step); rfl)
    | ((with_reducible apply Within.stepEach); intro _ _)
    | split
    | extract_lets
    | with_reducible intro _
    | with_reducible show Within _ _ (ite _ _ _)
    | ((with_reducible show Within _ _ (id _)); exact Within.refl _ _)
    | dsimp +zetaDelta only

theorem State.enterRecover_step {a1 : _} {m : Nat} {r s : State} (c : 939532292 &&& m = 939532292) (h : Within m r s) :
    Within m r (State.enterRecover s a1) := Within.step (State.enterRecover_within s a1) c h

theorem State.freeContribs_within : ∀ (s : State) a1, Within 8192 s (State.freeContribs s a1) := by
  intro s a1
  unfold State.freeContribs
  repeat' first
    | with_reducible exact Within.refl _ _
    | assumption
    | ((with_reducible apply Within.stepEach); intro _ _)
    | split
    | extract_lets
    | ((fail_if_success with_reducible apply Within.upd_pending); (with_reducible apply Within.upd_canvas); rfl)
    | with_reducible intro _
    | with_reducible show Within _ _ (ite _ _ _)
    | ((with_reducible show Within _ _ (id _)); exact Within.refl _ _)
    | dsimp +zetaDelta only
    | ((fail_if_success with_reducible apply Within.upd_pending); (with_reducible apply Within.upd_canvas); rfl)

theorem State.freeContribs_step {a1 : _} {m : Nat} {r s : State} (c : 8192 &&& m = 8192) (h : Within m r s) :
    Within m r (State.freeContribs s a1) := Within.step (State.freeContribs_within s a1) c h

theorem State.noteTerms_within : ∀ (s : State) a1 a2, Within 8192 s (State.noteTerms s a1 a2) := by
  intro s a1 a2
  unfold State.noteTerms
  repeat' first
    | with_reducible exact Within.refl _ _
    | assumption
    | ((with_reducible apply Within.stepEach); intro _ _)
    | split
    | extract_lets
    | ((fail_if_success with_reducible apply Within.upd_pending); (with_reducible apply Within.upd_canvas); rfl)
    | with_reducible intro _
    | with_reducible show Within _ _ (ite _ _ _)
    | ((with_reducible show Within _ _ (id _)); exact Within.refl _ _)
    | dsimp +zetaDelta only
    | ((fail_if_success with_reducible apply Within.upd_pending); (with_reducible apply Within.upd_canvas); rfl)

theorem State.noteTerms_step {a1 : _} {a2 : _} {m : Nat} {r s : State} (c : 8192 &&& m = 8192) (h : Within m r s) :
    Within m r (State.noteTerms s a1 a2) := Within.step (State.noteTerms_within s a1 a2) c h

theorem State.clearHeld_within : ∀ (s : State) a1 a2, Within 8192 s (State.clearHeld s a1 a2) := by
  intro s a1 a2
  unfold State.clearHeld
  repeat' first
    | with_reducible exact Within.refl _ _
    | assumption
    | ((with_reducible apply State.freeContribs_step); rfl)
    | ((with_reducible apply State.noteTerms_step); rfl)
    | ((with_reducible apply Within.stepEach); intro _ _)
    | split
    | extract_lets
    | with_reducible intro _
    | with_reducible show Within _ _ (ite _ _ _)
    | ((with_reducible show Within _ _ (id _)); exact Within.refl _ _)
    | dsimp +zetaDelta only

theorem State.clearHeld_step {a1 : _} {a2 : _} {m : Nat} {r s : State} (c : 8192 &&& m = 8192) (h : Within m r s) :
    Within m r (State.clearHeld s a1 a2) := Within.step (State.clearHeld_within s a1 a2) c h

theorem State.sendResult_within : ∀ (s : State) a1 a2 a3 a4, Within 8212 s (State.sendResult s a1 a2 a3 a4) := by
  intro s a1 a2 a3 a4
  unfold State.sendResult
  repeat' first
    | with_reducible exact Within.refl _ _
    | assumption
    | ((with_reducible apply State.bump_step); rfl)
    | ((with_reducible apply State.originate_step); rfl)
    | ((with_reducible apply State.setCtx_step); rfl)
    | ((with_reducible apply Within.stepEach); intro _ _)
    | split
    | extract_lets
    | with_reducible intro _
    | with_reducible show Within _ _ (ite _ _ _)
    | ((with_reducible show Within _ _ (id _)); exact Within.refl _ _)
    | dsimp +zetaDelta only

theorem State.sendResult_step {a1 : _} {a2 : _} {a3 : _} {a4 : _} {m : Nat} {r s : State} (c : 8212 &&& m = 8212) (h : Within m r s) :
    Within m r (State.sendResult s a1 a2 a3 a4) := Within.step (State.sendResult_within s a1 a2 a3 a4) c h

theorem State.voidSeg_within : ∀ (s : State) a1 a2, Within 8212 s (State.voidSeg s a1 a2) := by
  intro s a1 a2
  unfold State.voidSeg
  repeat' first
    | with_reducible exact Within.refl _ _
    | assumption
    | ((with_reducible apply State.setSeg_step); rfl)
    | ((with_reducible apply State.clearHeld_step); rfl)
    | ((with_reducible apply State.sendResult_step); rfl)
    | ((with_reducible apply Within.stepEach); intro _ _)
    | split
    | extract_lets
    | with_reducible intro _
    | with_reducible show Within _ _ (ite _ _ _)
    | ((with_reducible show Within _ _ (id _)); exact Within.refl _ _)
    | dsimp +zetaDelta only

theorem State.voidSeg_step {a1 : _} {a2 : _} {m : Nat} {r s : State} (c : 8212 &&& m = 8212) (h : Within m r s) :
    Within m r (State.voidSeg s a1 a2) := Within.step (State.voidSeg_within s a1 a2) c h

theorem State.missing_within : ∀ (s : State) a1 a2 a3, Within 939532292 s (State.missing s a1 a2 a3) := by
  intro s a1 a2 a3
  unfold State.missing
  repeat' first
    | with_reducible exact Within.refl _ _
    | assumption
    | ((with_reducible apply State.raise_step); rfl)
    | ((with_reducible apply State.setCtx_step); rfl)
    | ((with_reducible apply Within.stepEach); intro _ _)
    | split
    | extract_lets
    | with_reducible intro _
    | with_reducible show Within _ _ (ite _ _ _)
    | ((with_reducible show Within _ _ (id _)); exact Within.refl _ _)
    | dsimp +zetaDelta only

theorem State.missing_step {a1 : _} {a2 : _} {a3 : _} {m : Nat} {r s : State} (c : 939532292 &&& m = 939532292) (h : Within m r s) :
    Within m r (State.missing s a1 a2 a3) := Within.step (State.missing_within s a1 a2 a3) c h

theorem State.partialEvent_within : ∀ (s : State) a1 a2, Within 939532292 s (State.partialEvent s a1 a2) := by
  intro s a1 a2
  unfold State.partialEvent
  repeat' first
    | with_reducible exact Within.refl _ _
    | assumption
    | ((with_reducible apply State.raise_step); rfl)
    | ((with_reducible apply State.setCtx_step); rfl)
    | ((with_reducible apply Within.stepEach); intro _ _)
    | split
    | extract_lets
    | with_reducible intro _
    | with_reducible show Within _ _ (ite _ _ _)
    | ((with_reducible show Within _ _ (id _)); exact Within.refl _ _)
    | dsimp +zetaDelta only

theorem State.partialEvent_step {a1 : _} {a2 : _} {m : Nat} {r s : State} (c : 939532292 &&& m = 939532292) (h : Within m r s) :
    Within m r (State.partialEvent s a1 a2) := Within.step (State.partialEvent_within s a1 a2) c h

theorem State.notePartial_within : ∀ (s : State) a1 a2, Within 939532292 s (State.notePartial s a1 a2) := by
  intro s a1 a2
  unfold State.notePartial
  repeat' first
    | with_reducible exact Within.refl _ _
    | assumption
    | ((with_reducible apply State.missing_step); rfl)
    | ((with_reducible apply State.partialEvent_step); rfl)
    | ((with_reducible apply Within.stepEach); intro _ _)
    | split
    | extract_lets
    | with_reducible intro _
    | with_reducible show Within _ _ (ite _ _ _)
    | ((with_reducible show Within _ _ (id _)); exact Within.refl _ _)
    | dsimp +zetaDelta only

theorem State.notePartial_step {a1 : _} {a2 : _} {m : Nat} {r s : State} (c : 939532292 &&& m = 939532292) (h : Within m r s) :
    Within m r (State.notePartial s a1 a2) := Within.step (State.notePartial_within s a1 a2) c h

theorem State.settleSeg_within : ∀ (s : State) a1 a2, Within 939532308 s (State.settleSeg s a1 a2) := by
  intro s a1 a2
  unfold State.settleSeg
  repeat' first
    | with_reducible exact Within.refl _ _
    | assumption
    | ((with_reducible apply State.setSeg_step); rfl)
    | ((with_reducible apply State.voidSeg_step); rfl)
    | ((with_reducible apply State.notePartial_step); rfl)
    | ((with_reducible apply Within.stepEach); intro _ _)
    | split
    | extract_lets
    | with_reducible intro _
    | with_reducible show Within _ _ (ite _ _ _)
    | ((with_reducible show Within _ _ (id _)); exact Within.refl _ _)
    | dsimp +zetaDelta only

theorem State.settleSeg_step {a1 : _} {a2 : _} {m : Nat} {r s : State} (c : 939532308 &&& m = 939532308) (h : Within m r s) :
    Within m r (State.settleSeg s a1 a2) := Within.step (State.settleSeg_within s a1 a2) c h

theorem State.dispatchSeg_within : ∀ (s : State) a1 a2, Within 8192 s (State.dispatchSeg s a1 a2) := by
  intro s a1 a2
  unfold State.dispatchSeg
  repeat' first
    | with_reducible exact Within.refl _ _
    | assumption
    | ((with_reducible apply State.setSeg_step); rfl)
    | ((with_reducible apply Within.stepEach); intro _ _)
    | split
    | extract_lets
    | with_reducible intro _
    | with_reducible show Within _ _ (ite _ _ _)
    | ((with_reducible show Within _ _ (id _)); exact Within.refl _ _)
    | dsimp +zetaDelta only

theorem State.dispatchSeg_step {a1 : _} {a2 : _} {m : Nat} {r s : State} (c : 8192 &&& m = 8192) (h : Within m r s) :
    Within m r (State.dispatchSeg s a1 a2) := Within.step (State.dispatchSeg_within s a1 a2) c h

theorem State.redispatch_within : ∀ (s : State) a1, Within 939532308 s (State.redispatch s a1) := by
  intro s a1
  unfold State.redispatch
  repeat' first
    | with_reducible exact Within.refl _ _
    | assumption
    | ((with_reducible apply State.settleSeg_step); rfl)
    | ((with_reducible apply State.dispatchSeg_step); rfl)
    | ((with_reducible apply Within.stepEach); intro _ _)
    | split
    | extract_lets
    | with_reducible intro _
    | with_reducible show Within _ _ (ite _ _ _)
    | ((with_reducible show Within _ _ (id _)); exact Within.refl _ _)
    | dsimp +zetaDelta only

theorem State.redispatch_step {a1 : _} {m : Nat} {r s : State} (c : 939532308 &&& m = 939532308) (h : Within m r s) :
    Within m r (State.redispatch s a1) := Within.step (State.redispatch_within s a1) c h

theorem State.leaveRecover_within : ∀ (s : State) a1 a2, Within 939532308 s (State.leaveRecover s a1 a2) := by
  intro s a1 a2
  unfold State.leaveRecover
  repeat' first
    | with_reducible exact Within.refl _ _
    | assumption
    | ((with_reducible apply State.redispatch_step); rfl)
    | ((with_reducible apply State.setCtx_step); rfl)
    | ((with_reducible apply Within.stepEach); intro _ _)
    | split
    | extract_lets
    | with_reducible intro _
    | with_reducible show Within _ _ (ite _ _ _)
    | ((with_reducible show Within _ _ (id _)); exact Within.refl _ _)
    | dsimp +zetaDelta only

theorem State.leaveRecover_step {a1 : _} {a2 : _} {m : Nat} {r s : State} (c : 939532308 &&& m = 939532308) (h : Within m r s) :
    Within m r (State.leaveRecover s a1 a2) := Within.step (State.leaveRecover_within s a1 a2) c h

theorem State.canvasEngines_within : ∀ (s : State), Within 939532308 s (State.canvasEngines s) := by
  intro s
  unfold State.canvasEngines
  repeat' first
    | with_reducible exact Within.refl _ _
    | assumption
    | ((with_reducible apply State.enterRecover_step); rfl)
    | ((with_reducible apply State.leaveRecover_step); rfl)
    | ((with_reducible apply Within.stepEach); intro _ _)
    | split
    | extract_lets
    | with_reducible intro _
    | with_reducible show Within _ _ (ite _ _ _)
    | ((with_reducible show Within _ _ (id _)); exact Within.refl _ _)
    | dsimp +zetaDelta only

theorem State.canvasEngines_step  {m : Nat} {r s : State} (c : 939532308 &&& m = 939532308) (h : Within m r s) :
    Within m r (State.canvasEngines s) := Within.step (State.canvasEngines_within s) c h

theorem State.childRetry_within : ∀ (s : State) a1 a2, Within 8212 s (State.childRetry s a1 a2) := by
  intro s a1 a2
  unfold State.childRetry
  repeat' first
    | with_reducible exact Within.refl _ _
    | assumption
    | ((with_reducible apply State.voidSeg_step); rfl)
    | ((with_reducible apply Within.stepEach); intro _ _)
    | split
    | extract_lets
    | with_reducible intro _
    | with_reducible show Within _ _ (ite _ _ _)
    | ((with_reducible show Within _ _ (id _)); exact Within.refl _ _)
    | dsimp +zetaDelta only

theorem State.childRetry_step {a1 : _} {a2 : _} {m : Nat} {r s : State} (c : 8212 &&& m = 8212) (h : Within m r s) :
    Within m r (State.childRetry s a1 a2) := Within.step (State.childRetry_within s a1 a2) c h

theorem State.rootDead_within : ∀ (s : State) a1, Within 8212 s (State.rootDead s a1) := by
  intro s a1
  unfold State.rootDead
  repeat' first
    | with_reducible exact Within.refl _ _
    | assumption
    | ((with_reducible apply State.childRetry_step); rfl)
    | ((with_reducible apply Within.stepEach); intro _ _)
    | split
    | extract_lets
    | with_reducible intro _
    | with_reducible show Within _ _ (ite _ _ _)
    | ((with_reducible show Within _ _ (id _)); exact Within.refl _ _)
    | dsimp +zetaDelta only

theorem State.rootDead_step {a1 : _} {m : Nat} {r s : State} (c : 8212 &&& m = 8212) (h : Within m r s) :
    Within m r (State.rootDead s a1) := Within.step (State.rootDead_within s a1) c h

theorem State.activate_within : ∀ (s : State) a1 a2, Within 8192 s (State.activate s a1 a2) := by
  intro s a1 a2
  unfold State.activate
  repeat' first
    | with_reducible exact Within.refl _ _
    | assumption
    | ((with_reducible apply State.setCtx_step); rfl)
    | ((with_reducible apply Within.stepEach); intro _ _)
    | split
    | extract_lets
    | with_reducible intro _
    | with_reducible show Within _ _ (ite _ _ _)
    | ((with_reducible show Within _ _ (id _)); exact Within.refl _ _)
    | dsimp +zetaDelta only

theorem State.activate_step {a1 : _} {a2 : _} {m : Nat} {r s : State} (c : 8192 &&& m = 8192) (h : Within m r s) :
    Within m r (State.activate s a1 a2) := Within.step (State.activate_within s a1 a2) c h

theorem State.canvasDieLost_within : ∀ (s : State) a1, Within 939532308 s (State.canvasDieLost s a1) := by
  intro s a1
  unfold State.canvasDieLost
  repeat' first
    | with_reducible exact Within.refl _ _
    | assumption
    | ((with_reducible apply State.canvasEngines_step); rfl)
    | ((with_reducible apply State.voidSeg_step); rfl)
    | ((with_reducible apply State.setCtx_step); rfl)
    | ((with_reducible apply Within.stepEach); intro _ _)
    | split
    | extract_lets
    | with_reducible intro _
    | with_reducible show Within _ _ (ite _ _ _)
    | ((with_reducible show Within _ _ (id _)); exact Within.refl _ _)
    | dsimp +zetaDelta only

theorem State.canvasDieLost_step {a1 : _} {m : Nat} {r s : State} (c : 939532308 &&& m = 939532308) (h : Within m r s) :
    Within m r (State.canvasDieLost s a1) := Within.step (State.canvasDieLost_within s a1) c h

theorem State.sendPhaseMark_within : ∀ (s : State) a1 a2 a3 a4 a5 a6 a7, Within 8212 s (State.sendPhaseMark s a1 a2 a3 a4 a5 a6 a7) := by
  intro s a1 a2 a3 a4 a5 a6 a7
  unfold State.sendPhaseMark
  repeat' first
    | with_reducible exact Within.refl _ _
    | assumption
    | ((with_reducible apply State.bump_step); rfl)
    | ((with_reducible apply State.originate_step); rfl)
    | ((with_reducible apply State.setCtx_step); rfl)
    | ((with_reducible apply Within.stepEach); intro _ _)
    | split
    | extract_lets
    | with_reducible intro _
    | with_reducible show Within _ _ (ite _ _ _)
    | ((with_reducible show Within _ _ (id _)); exact Within.refl _ _)
    | dsimp +zetaDelta only

theorem State.sendPhaseMark_step {a1 : _} {a2 : _} {a3 : _} {a4 : _} {a5 : _} {a6 : _} {a7 : _} {m : Nat} {r s : State} (c : 8212 &&& m = 8212) (h : Within m r s) :
    Within m r (State.sendPhaseMark s a1 a2 a3 a4 a5 a6 a7) := Within.step (State.sendPhaseMark_within s a1 a2 a3 a4 a5 a6 a7) c h

theorem State.issueMarks_within : ∀ (s : State) a1 a2 a3, Within 10260 s (State.issueMarks s a1 a2 a3) := by
  intro s a1 a2 a3
  unfold State.issueMarks
  repeat' first
    | with_reducible exact Within.refl _ _
    | assumption
    | ((with_reducible apply State.sendPhaseMark_step); rfl)
    | ((with_reducible apply State.takeMark_step); rfl)
    | ((with_reducible apply State.setCtx_step); rfl)
    | ((with_reducible apply Within.stepEach); intro _ _)
    | split
    | extract_lets
    | with_reducible intro _
    | with_reducible show Within _ _ (ite _ _ _)
    | ((with_reducible show Within _ _ (id _)); exact Within.refl _ _)
    | dsimp +zetaDelta only

theorem State.issueMarks_step {a1 : _} {a2 : _} {a3 : _} {m : Nat} {r s : State} (c : 10260 &&& m = 10260) (h : Within m r s) :
    Within m r (State.issueMarks s a1 a2 a3) := Within.step (State.issueMarks_within s a1 a2 a3) c h

theorem State.discards_within : ∀ (s : State) a1 a2 a3, Within 8196 s (State.discards s a1 a2 a3) := by
  intro s a1 a2 a3
  unfold State.discards
  repeat' first
    | with_reducible exact Within.refl _ _
    | assumption
    | ((with_reducible apply State.bump_step); rfl)
    | ((with_reducible apply State.noteTerms_step); rfl)
    | ((with_reducible apply Within.stepEach); intro _ _)
    | split
    | extract_lets
    | with_reducible intro _
    | with_reducible show Within _ _ (ite _ _ _)
    | ((with_reducible show Within _ _ (id _)); exact Within.refl _ _)
    | dsimp +zetaDelta only

theorem State.discards_step {a1 : _} {a2 : _} {a3 : _} {m : Nat} {r s : State} (c : 8196 &&& m = 8196) (h : Within m r s) :
    Within m r (State.discards s a1 a2 a3) := Within.step (State.discards_within s a1 a2 a3) c h

theorem State.segDone_within : ∀ (s : State) a1 a2 a3, Within 8196 s (State.segDone s a1 a2 a3) := by
  intro s a1 a2 a3
  unfold State.segDone
  repeat' first
    | with_reducible exact Within.refl _ _
    | assumption
    | ((with_reducible apply State.setSeg_step); rfl)
    | ((with_reducible apply State.freeContribs_step); rfl)
    | ((with_reducible apply State.discards_step); rfl)
    | ((with_reducible apply Within.stepEach); intro _ _)
    | split
    | extract_lets
    | with_reducible intro _
    | with_reducible show Within _ _ (ite _ _ _)
    | ((with_reducible show Within _ _ (id _)); exact Within.refl _ _)
    | dsimp +zetaDelta only

theorem State.segDone_step {a1 : _} {a2 : _} {a3 : _} {m : Nat} {r s : State} (c : 8196 &&& m = 8196) (h : Within m r s) :
    Within m r (State.segDone s a1 a2 a3) := Within.step (State.segDone_within s a1 a2 a3) c h

theorem State.issueRoot_within : ∀ (s : State) a1 a2, Within 10260 s (State.issueRoot s a1 a2) := by
  intro s a1 a2
  unfold State.issueRoot
  repeat' first
    | with_reducible exact Within.refl _ _
    | assumption
    | ((with_reducible apply State.issueMarks_step); rfl)
    | ((with_reducible apply State.segDone_step); rfl)
    | ((with_reducible apply State.sendResult_step); rfl)
    | ((with_reducible apply Within.stepEach); intro _ _)
    | split
    | extract_lets
    | with_reducible intro _
    | with_reducible show Within _ _ (ite _ _ _)
    | ((with_reducible show Within _ _ (id _)); exact Within.refl _ _)
    | dsimp +zetaDelta only

theorem State.issueRoot_step {a1 : _} {a2 : _} {m : Nat} {r s : State} (c : 10260 &&& m = 10260) (h : Within m r s) :
    Within m r (State.issueRoot s a1 a2) := Within.step (State.issueRoot_within s a1 a2) c h

theorem State.advance_within : ∀ a0 a1 (s : State), Within 10260 s (State.advance a0 a1 s) := by
  intro a0 a1 s
  induction a1 generalizing a0 s with
  | zero => unfold State.advance; exact Within.refl _ _
  | succ x ih =>
  unfold State.advance
  repeat' first
    | with_reducible exact Within.refl _ _
    | assumption
    | (refine Within.step (ih _ _) (Nat.and_self _) ?_)
    | ((with_reducible apply State.issueRoot_step); rfl)
    | ((with_reducible apply State.setCtx_step); rfl)
    | ((with_reducible apply Within.stepEach); intro _ _)
    | split
    | extract_lets
    | with_reducible intro _
    | with_reducible show Within _ _ (ite _ _ _)
    | ((with_reducible show Within _ _ (id _)); exact Within.refl _ _)
    | dsimp +zetaDelta only

theorem State.advance_step {a0 : _} {a1 : _} {m : Nat} {r s : State} (c : 10260 &&& m = 10260) (h : Within m r s) :
    Within m r (State.advance a0 a1 s) := Within.step (State.advance_within a0 a1 s) c h

theorem State.rewriteCtx_within : ∀ (s : State) a1 a2 a3, Within 939532308 s (State.rewriteCtx s a1 a2 a3) := by
  intro s a1 a2 a3
  unfold State.rewriteCtx
  repeat' first
    | with_reducible exact Within.refl _ _
    | assumption
    | ((with_reducible apply State.redispatch_step); rfl)
    | ((with_reducible apply State.raise_step); rfl)
    | ((with_reducible apply State.setCtx_step); rfl)
    | ((with_reducible apply Within.stepEach); intro _ _)
    | split
    | extract_lets
    | with_reducible intro _
    | with_reducible show Within _ _ (ite _ _ _)
    | ((with_reducible show Within _ _ (id _)); exact Within.refl _ _)
    | dsimp +zetaDelta only

theorem State.rewriteCtx_step {a1 : _} {a2 : _} {a3 : _} {m : Nat} {r s : State} (c : 939532308 &&& m = 939532308) (h : Within m r s) :
    Within m r (State.rewriteCtx s a1 a2 a3) := Within.step (State.rewriteCtx_within s a1 a2 a3) c h

theorem State.deleteCtx_within : ∀ (s : State) a1, Within 8196 s (State.deleteCtx s a1) := by
  intro s a1
  unfold State.deleteCtx
  repeat' first
    | with_reducible exact Within.refl _ _
    | assumption
    | ((with_reducible apply State.bump_step); rfl)
    | ((with_reducible apply State.segDone_step); rfl)
    | ((with_reducible apply State.freeContribs_step); rfl)
    | ((with_reducible apply State.noteTerms_step); rfl)
    | ((with_reducible apply State.setCtx_step); rfl)
    | ((with_reducible apply Within.stepEach); intro _ _)
    | split
    | extract_lets
    | with_reducible intro _
    | with_reducible show Within _ _ (ite _ _ _)
    | ((with_reducible show Within _ _ (id _)); exact Within.refl _ _)
    | dsimp +zetaDelta only

theorem State.deleteCtx_step {a1 : _} {m : Nat} {r s : State} (c : 8196 &&& m = 8196) (h : Within m r s) :
    Within m r (State.deleteCtx s a1) := Within.step (State.deleteCtx_within s a1) c h

theorem State.epochCtx_within : ∀ (s : State) a1 a2, Within 939532308 s (State.epochCtx s a1 a2) := by
  intro s a1 a2
  unfold State.epochCtx
  repeat' first
    | with_reducible exact Within.refl _ _
    | assumption
    | ((with_reducible apply State.rewriteCtx_step); rfl)
    | ((with_reducible apply State.activate_step); rfl)
    | ((with_reducible apply State.deleteCtx_step); rfl)
    | ((with_reducible apply Within.stepEach); intro _ _)
    | split
    | extract_lets
    | with_reducible intro _
    | with_reducible show Within _ _ (ite _ _ _)
    | ((with_reducible show Within _ _ (id _)); exact Within.refl _ _)
    | dsimp +zetaDelta only

theorem State.epochCtx_step {a1 : _} {a2 : _} {m : Nat} {r s : State} (c : 939532308 &&& m = 939532308) (h : Within m r s) :
    Within m r (State.epochCtx s a1 a2) := Within.step (State.epochCtx_within s a1 a2) c h

theorem State.canvasEpoch_within : ∀ (s : State) a1, Within 939532308 s (State.canvasEpoch s a1) := by
  intro s a1
  unfold State.canvasEpoch
  repeat' first
    | with_reducible exact Within.refl _ _
    | assumption
    | ((with_reducible apply State.epochCtx_step); rfl)
    | ((with_reducible apply State.canvasEngines_step); rfl)
    | ((with_reducible apply Within.stepEach); intro _ _)
    | split
    | extract_lets
    | with_reducible intro _
    | with_reducible show Within _ _ (ite _ _ _)
    | ((with_reducible show Within _ _ (id _)); exact Within.refl _ _)
    | dsimp +zetaDelta only

theorem State.canvasEpoch_step {a1 : _} {m : Nat} {r s : State} (c : 939532308 &&& m = 939532308) (h : Within m r s) :
    Within m r (State.canvasEpoch s a1) := Within.step (State.canvasEpoch_within s a1) c h

theorem State.countDiscard_within : ∀ (s : State) a1 a2 a3, Within 8196 s (State.countDiscard s a1 a2 a3) := by
  intro s a1 a2 a3
  unfold State.countDiscard
  repeat' first
    | with_reducible exact Within.refl _ _
    | assumption
    | ((with_reducible apply State.bumpPort_step); rfl)
    | ((with_reducible apply State.discards_step); rfl)
    | ((with_reducible apply Within.stepEach); intro _ _)
    | split
    | extract_lets
    | with_reducible intro _
    | with_reducible show Within _ _ (ite _ _ _)
    | ((with_reducible show Within _ _ (id _)); exact Within.refl _ _)
    | dsimp +zetaDelta only

theorem State.countDiscard_step {a1 : _} {a2 : _} {a3 : _} {m : Nat} {r s : State} (c : 8196 &&& m = 8196) (h : Within m r s) :
    Within m r (State.countDiscard s a1 a2 a3) := Within.step (State.countDiscard_within s a1 a2 a3) c h

theorem State.stage_within : ∀ (s : State) a1 a2 a3 a4, Within 8196 s (State.stage s a1 a2 a3 a4) := by
  intro s a1 a2 a3 a4
  unfold State.stage
  repeat' first
    | with_reducible exact Within.refl _ _
    | assumption
    | ((with_reducible apply State.bump_step); rfl)
    | ((with_reducible apply State.setSeg_step); rfl)
    | ((with_reducible apply State.dispatchSeg_step); rfl)
    | ((with_reducible apply State.takeSpace_step); rfl)
    | ((with_reducible apply Within.stepEach); intro _ _)
    | split
    | extract_lets
    | with_reducible intro _
    | with_reducible show Within _ _ (ite _ _ _)
    | ((with_reducible show Within _ _ (id _)); exact Within.refl _ _)
    | dsimp +zetaDelta only

theorem State.stage_step {a1 : _} {a2 : _} {a3 : _} {a4 : _} {m : Nat} {r s : State} (c : 8196 &&& m = 8196) (h : Within m r s) :
    Within m r (State.stage s a1 a2 a3 a4) := Within.step (State.stage_within s a1 a2 a3 a4) c h

theorem State.ingest_within : ∀ (s : State) a1, ∀ t, State.ingest s a1 = some t → Within 8196 s t := by
  intro s a1
  unfold State.ingest
  repeat' first
    | with_reducible exact Within.refl _ _
    | assumption
    | ((with_reducible apply State.stage_step); rfl)
    | ((with_reducible apply State.countDiscard_step); rfl)
    | ((with_reducible apply State.noteTerms_step); rfl)
    | ((with_reducible apply Within.stepEach); intro _ _)
    | split
    | extract_lets
    | with_reducible intro _
    | with_reducible show Within _ _ (ite _ _ _)
    | ((with_reducible show Within _ _ (id _)); exact Within.refl _ _)
    | contradiction
    | (cases ‹some _ = some _›)
    | (obtain ⟨_, _, rfl⟩ := Option.map_eq_some_iff.mp ‹_›)

theorem State.observe_within : ∀ (s : State) a1, Within 10260 s (State.observe s a1) := by
  intro s a1
  unfold State.observe
  repeat' first
    | with_reducible exact Within.refl _ _
    | assumption
    | ((with_reducible apply State.setSeg_step); rfl)
    | ((with_reducible apply State.segDone_step); rfl)
    | ((with_reducible apply State.clearHeld_step); rfl)
    | ((with_reducible apply State.advance_step); rfl)
    | ((with_reducible apply Within.stepEach); intro _ _)
    | split
    | extract_lets
    | with_reducible intro _
    | with_reducible show Within _ _ (ite _ _ _)
    | ((with_reducible show Within _ _ (id _)); exact Within.refl _ _)
    | dsimp +zetaDelta only

theorem State.observe_step {a1 : _} {m : Nat} {r s : State} (c : 10260 &&& m = 10260) (h : Within m r s) :
    Within m r (State.observe s a1) := Within.step (State.observe_within s a1) c h

theorem State.resendBatches_within : ∀ (s : State) a1, Within 8192 s (State.resendBatches s a1) := by
  intro s a1
  unfold State.resendBatches
  repeat' first
    | with_reducible exact Within.refl _ _
    | assumption
    | ((with_reducible apply Within.stepEach); intro _ _)
    | split
    | extract_lets
    | ((fail_if_success with_reducible apply Within.upd_pending); (with_reducible apply Within.upd_canvas); rfl)
    | with_reducible intro _
    | with_reducible show Within _ _ (ite _ _ _)
    | ((with_reducible show Within _ _ (id _)); exact Within.refl _ _)
    | dsimp +zetaDelta only
    | ((fail_if_success with_reducible apply Within.upd_pending); (with_reducible apply Within.upd_canvas); rfl)

theorem State.resendBatches_step {a1 : _} {m : Nat} {r s : State} (c : 8192 &&& m = 8192) (h : Within m r s) :
    Within m r (State.resendBatches s a1) := Within.step (State.resendBatches_within s a1) c h

theorem State.sendPartial_within : ∀ (s : State) a1 a2 a3, Within 16 s (State.sendPartial s a1 a2 a3) := by
  intro s a1 a2 a3
  unfold State.sendPartial
  repeat' first
    | with_reducible exact Within.refl _ _
    | assumption
    | ((with_reducible apply State.originate_step); rfl)
    | ((with_reducible apply Within.stepEach); intro _ _)
    | split
    | extract_lets
    | with_reducible intro _
    | with_reducible show Within _ _ (ite _ _ _)
    | ((with_reducible show Within _ _ (id _)); exact Within.refl _ _)
    | dsimp +zetaDelta only

theorem State.sendPartial_step {a1 : _} {a2 : _} {a3 : _} {m : Nat} {r s : State} (c : 16 &&& m = 16) (h : Within m r s) :
    Within m r (State.sendPartial s a1 a2 a3) := Within.step (State.sendPartial_within s a1 a2 a3) c h


/-! ## Machine/PalOps.lean -/

theorem State.accrueOne_within : ∀ (s : State) a1, Within 16388 s (State.accrueOne s a1) := by
  intro s a1
  unfold State.accrueOne
  repeat' first
    | with_reducible exact Within.refl _ _
    | assumption
    | ((with_reducible apply State.bump_step); rfl)
    | ((with_reducible apply State.updDie_step); rfl)
    | ((with_reducible apply State.setEngine_step); rfl)
    | ((with_reducible apply Within.stepEach); intro _ _)
    | split
    | extract_lets
    | with_reducible intro _
    | with_reducible show Within _ _ (ite _ _ _)
    | ((with_reducible show Within _ _ (id _)); exact Within.refl _ _)
    | dsimp +zetaDelta only

theorem State.accrueOne_step {a1 : _} {m : Nat} {r s : State} (c : 16388 &&& m = 16388) (h : Within m r s) :
    Within m r (State.accrueOne s a1) := Within.step (State.accrueOne_within s a1) c h

theorem State.setEngState_within : ∀ (s : State) a1 a2, Within 939548692 s (State.setEngState s a1 a2) := by
  intro s a1 a2
  unfold State.setEngState
  repeat' first
    | with_reducible exact Within.refl _ _
    | assumption
    | ((with_reducible apply State.raise_step); rfl)
    | ((with_reducible apply State.setEngine_step); rfl)
    | ((with_reducible apply State.accrueOne_step); rfl)
    | ((with_reducible apply State.canvasEngines_step); rfl)
    | ((with_reducible apply Within.stepEach); intro _ _)
    | split
    | extract_lets
    | with_reducible intro _
    | with_reducible show Within _ _ (ite _ _ _)
    | ((with_reducible show Within _ _ (id _)); exact Within.refl _ _)
    | dsimp +zetaDelta only

theorem State.setEngState_step {a1 : _} {a2 : _} {m : Nat} {r s : State} (c : 939548692 &&& m = 939548692) (h : Within m r s) :
    Within m r (State.setEngState s a1 a2) := Within.step (State.setEngState_within s a1 a2) c h

theorem State.enterTarget_within : ∀ (s : State) a1, Within 939548692 s (State.enterTarget s a1) := by
  intro s a1
  unfold State.enterTarget
  repeat' first
    | with_reducible exact Within.refl _ _
    | assumption
    | ((with_reducible apply State.setEngState_step); rfl)
    | ((with_reducible apply State.setEngine_step); rfl)
    | ((with_reducible apply Within.stepEach); intro _ _)
    | split
    | extract_lets
    | with_reducible intro _
    | with_reducible show Within _ _ (ite _ _ _)
    | ((with_reducible show Within _ _ (id _)); exact Within.refl _ _)
    | dsimp +zetaDelta only

theorem State.enterTarget_step {a1 : _} {m : Nat} {r s : State} (c : 939548692 &&& m = 939548692) (h : Within m r s) :
    Within m r (State.enterTarget s a1) := Within.step (State.enterTarget_within s a1) c h

theorem State.startRamp_within : ∀ (s : State) a1, Within 939548692 s (State.startRamp s a1) := by
  intro s a1
  unfold State.startRamp
  repeat' first
    | with_reducible exact Within.refl _ _
    | assumption
    | ((with_reducible apply State.bump_step); rfl)
    | ((with_reducible apply State.setEngState_step); rfl)
    | ((with_reducible apply State.setEngine_step); rfl)
    | ((with_reducible apply State.enterTarget_step); rfl)
    | ((with_reducible apply State.accrueOne_step); rfl)
    | ((with_reducible apply Within.stepEach); intro _ _)
    | split
    | extract_lets
    | with_reducible intro _
    | with_reducible show Within _ _ (ite _ _ _)
    | ((with_reducible show Within _ _ (id _)); exact Within.refl _ _)
    | dsimp +zetaDelta only

theorem State.startRamp_step {a1 : _} {m : Nat} {r s : State} (c : 939548692 &&& m = 939548692) (h : Within m r s) :
    Within m r (State.startRamp s a1) := Within.step (State.startRamp_within s a1) c h

theorem State.shedFiller_within : ∀ (s : State) a1, Within 939548692 s (State.shedFiller s a1) := by
  intro s a1
  unfold State.shedFiller
  repeat' first
    | with_reducible exact Within.refl _ _
    | assumption
    | ((with_reducible apply State.startRamp_step); rfl)
    | ((with_reducible apply Within.stepEach); intro _ _)
    | split
    | extract_lets
    | with_reducible intro _
    | with_reducible show Within _ _ (ite _ _ _)
    | ((with_reducible show Within _ _ (id _)); exact Within.refl _ _)
    | dsimp +zetaDelta only

theorem State.shedFiller_step {a1 : _} {m : Nat} {r s : State} (c : 939548692 &&& m = 939548692) (h : Within m r s) :
    Within m r (State.shedFiller s a1) := Within.step (State.shedFiller_within s a1) c h

theorem State.accrue_within : ∀ (s : State) a1, Within 939548692 s (State.accrue s a1) := by
  intro s a1
  unfold State.accrue
  repeat' first
    | with_reducible exact Within.refl _ _
    | assumption
    | ((with_reducible apply State.shedFiller_step); rfl)
    | ((with_reducible apply State.accrueOne_step); rfl)
    | ((with_reducible apply Within.stepEach); intro _ _)
    | split
    | extract_lets
    | with_reducible intro _
    | with_reducible show Within _ _ (ite _ _ _)
    | ((with_reducible show Within _ _ (id _)); exact Within.refl _ _)
    | dsimp +zetaDelta only

theorem State.accrue_step {a1 : _} {m : Nat} {r s : State} (c : 939548692 &&& m = 939548692) (h : Within m r s) :
    Within m r (State.accrue s a1) := Within.step (State.accrue_within s a1) c h

theorem State.gap_within : ∀ (s : State) a1, Within 9529483284 s (State.gap s a1) := by
  intro s a1
  unfold State.gap
  repeat' first
    | with_reducible exact Within.refl _ _
    | assumption
    | ((with_reducible apply State.accrue_step); rfl)
    | ((with_reducible apply State.setEngState_step); rfl)
    | ((with_reducible apply State.setEngine_step); rfl)
    | ((with_reducible apply State.tick_step); rfl)
    | ((with_reducible apply State.startRamp_step); rfl)
    | ((with_reducible apply Within.stepEach); intro _ _)
    | split
    | extract_lets
    | with_reducible intro _
    | with_reducible show Within _ _ (ite _ _ _)
    | ((with_reducible show Within _ _ (id _)); exact Within.refl _ _)
    | dsimp +zetaDelta only

theorem State.gap_step {a1 : _} {m : Nat} {r s : State} (c : 9529483284 &&& m = 9529483284) (h : Within m r s) :
    Within m r (State.gap s a1) := Within.step (State.gap_within s a1) c h

theorem State.cutBudget_within : ∀ (s : State) a1, Within 939548692 s (State.cutBudget s a1) := by
  intro s a1
  unfold State.cutBudget
  repeat' first
    | with_reducible exact Within.refl _ _
    | assumption
    | ((with_reducible apply State.updDie_step); rfl)
    | ((with_reducible apply State.shedFiller_step); rfl)
    | ((with_reducible apply Within.stepEach); intro _ _)
    | split
    | extract_lets
    | with_reducible intro _
    | with_reducible show Within _ _ (ite _ _ _)
    | ((with_reducible show Within _ _ (id _)); exact Within.refl _ _)
    | dsimp +zetaDelta only

theorem State.cutBudget_step {a1 : _} {m : Nat} {r s : State} (c : 939548692 &&& m = 939548692) (h : Within m r s) :
    Within m r (State.cutBudget s a1) := Within.step (State.cutBudget_within s a1) c h

theorem State.cutBudgets_within : ∀ (s : State), Within 939548692 s (State.cutBudgets s) := by
  intro s
  unfold State.cutBudgets
  repeat' first
    | with_reducible exact Within.refl _ _
    | assumption
    | ((with_reducible apply State.cutBudget_step); rfl)
    | ((with_reducible apply Within.stepEach); intro _ _)
    | split
    | extract_lets
    | with_reducible intro _
    | with_reducible show Within _ _ (ite _ _ _)
    | ((with_reducible show Within _ _ (id _)); exact Within.refl _ _)
    | dsimp +zetaDelta only

theorem State.cutBudgets_step  {m : Nat} {r s : State} (c : 939548692 &&& m = 939548692) (h : Within m r s) :
    Within m r (State.cutBudgets s) := Within.step (State.cutBudgets_within s) c h

theorem State.engineReady_within : ∀ (s : State) a1, Within 939548692 s (State.engineReady s a1) := by
  intro s a1
  unfold State.engineReady
  repeat' first
    | with_reducible exact Within.refl _ _
    | assumption
    | ((with_reducible apply State.accrue_step); rfl)
    | ((with_reducible apply State.setEngState_step); rfl)
    | ((with_reducible apply State.setEngine_step); rfl)
    | ((with_reducible apply Within.stepEach); intro _ _)
    | split
    | extract_lets
    | with_reducible intro _
    | with_reducible show Within _ _ (ite _ _ _)
    | ((with_reducible show Within _ _ (id _)); exact Within.refl _ _)
    | dsimp +zetaDelta only

theorem State.engineReady_step {a1 : _} {m : Nat} {r s : State} (c : 939548692 &&& m = 939548692) (h : Within m r s) :
    Within m r (State.engineReady s a1) := Within.step (State.engineReady_within s a1) c h

theorem State.unpark_within : ∀ (s : State) a1, Within 939548692 s (State.unpark s a1) := by
  intro s a1
  unfold State.unpark
  repeat' first
    | with_reducible exact Within.refl _ _
    | assumption
    | ((with_reducible apply State.engineReady_step); rfl)
    | ((with_reducible apply State.setEngState_step); rfl)
    | ((with_reducible apply Within.stepEach); intro _ _)
    | split
    | extract_lets
    | with_reducible intro _
    | with_reducible show Within _ _ (ite _ _ _)
    | ((with_reducible show Within _ _ (id _)); exact Within.refl _ _)
    | dsimp +zetaDelta only

theorem State.unpark_step {a1 : _} {m : Nat} {r s : State} (c : 939548692 &&& m = 939548692) (h : Within m r s) :
    Within m r (State.unpark s a1) := Within.step (State.unpark_within s a1) c h

theorem State.quiesce_within : ∀ (s : State) a1, Within 939548692 s (State.quiesce s a1) := by
  intro s a1
  unfold State.quiesce
  repeat' first
    | with_reducible exact Within.refl _ _
    | assumption
    | ((with_reducible apply State.enterTarget_step); rfl)
    | ((with_reducible apply State.startRamp_step); rfl)
    | ((with_reducible apply Within.stepEach); intro _ _)
    | split
    | extract_lets
    | with_reducible intro _
    | with_reducible show Within _ _ (ite _ _ _)
    | ((with_reducible show Within _ _ (id _)); exact Within.refl _ _)
    | dsimp +zetaDelta only

theorem State.quiesce_step {a1 : _} {m : Nat} {r s : State} (c : 939548692 &&& m = 939548692) (h : Within m r s) :
    Within m r (State.quiesce s a1) := Within.step (State.quiesce_within s a1) c h

theorem State.retarget_within : ∀ (s : State) a1, Within 939548692 s (State.retarget s a1) := by
  intro s a1
  unfold State.retarget
  repeat' first
    | with_reducible exact Within.refl _ _
    | assumption
    | ((with_reducible apply State.unpark_step); rfl)
    | ((with_reducible apply State.quiesce_step); rfl)
    | ((with_reducible apply State.setEngine_step); rfl)
    | ((with_reducible apply Within.stepEach); intro _ _)
    | split
    | extract_lets
    | with_reducible intro _
    | with_reducible show Within _ _ (ite _ _ _)
    | ((with_reducible show Within _ _ (id _)); exact Within.refl _ _)
    | dsimp +zetaDelta only

theorem State.retarget_step {a1 : _} {m : Nat} {r s : State} (c : 939548692 &&& m = 939548692) (h : Within m r s) :
    Within m r (State.retarget s a1) := Within.step (State.retarget_within s a1) c h

theorem State.setBudget_within : ∀ (s : State) a1 a2, Within 2 s (State.setBudget s a1 a2) := by
  intro s a1 a2
  unfold State.setBudget
  repeat' first
    | with_reducible exact Within.refl _ _
    | assumption
    | ((with_reducible apply State.wr_step); rfl)
    | ((with_reducible apply Within.stepEach); intro _ _)
    | split
    | extract_lets
    | with_reducible intro _
    | with_reducible show Within _ _ (ite _ _ _)
    | ((with_reducible show Within _ _ (id _)); exact Within.refl _ _)
    | dsimp +zetaDelta only

theorem State.setBudget_step {a1 : _} {a2 : _} {m : Nat} {r s : State} (c : 2 &&& m = 2) (h : Within m r s) :
    Within m r (State.setBudget s a1 a2) := Within.step (State.setBudget_within s a1 a2) c h

theorem State.startWindow_within : ∀ (s : State) a1 a2, Within 939548694 s (State.startWindow s a1 a2) := by
  intro s a1 a2
  unfold State.startWindow
  repeat' first
    | with_reducible exact Within.refl _ _
    | assumption
    | ((with_reducible apply State.updDie_step); rfl)
    | ((with_reducible apply State.shedFiller_step); rfl)
    | ((with_reducible apply State.setBudget_step); rfl)
    | ((with_reducible apply Within.stepEach); intro _ _)
    | split
    | extract_lets
    | with_reducible intro _
    | with_reducible show Within _ _ (ite _ _ _)
    | ((with_reducible show Within _ _ (id _)); exact Within.refl _ _)
    | dsimp +zetaDelta only

theorem State.startWindow_step {a1 : _} {a2 : _} {m : Nat} {r s : State} (c : 939548694 &&& m = 939548694) (h : Within m r s) :
    Within m r (State.startWindow s a1 a2) := Within.step (State.startWindow_within s a1 a2) c h

theorem State.rampDown_within : ∀ (s : State) a1, Within 16388 s (State.rampDown s a1) := by
  intro s a1
  unfold State.rampDown
  repeat' first
    | with_reducible exact Within.refl _ _
    | assumption
    | ((with_reducible apply State.bump_step); rfl)
    | ((with_reducible apply State.setEngine_step); rfl)
    | ((with_reducible apply Within.stepEach); intro _ _)
    | split
    | extract_lets
    | with_reducible intro _
    | with_reducible show Within _ _ (ite _ _ _)
    | ((with_reducible show Within _ _ (id _)); exact Within.refl _ _)
    | dsimp +zetaDelta only

theorem State.rampDown_step {a1 : _} {m : Nat} {r s : State} (c : 16388 &&& m = 16388) (h : Within m r s) :
    Within m r (State.rampDown s a1) := Within.step (State.rampDown_within s a1) c h

theorem State.faultStop_within : ∀ (s : State) a1 a2 a3, Within 947937302 s (State.faultStop s a1 a2 a3) := by
  intro s a1 a2 a3
  unfold State.faultStop
  repeat' first
    | with_reducible exact Within.refl _ _
    | assumption
    | ((with_reducible apply State.bump_step); rfl)
    | ((with_reducible apply State.accrue_step); rfl)
    | ((with_reducible apply State.setF_step); rfl)
    | ((with_reducible apply State.partErr_step); rfl)
    | ((with_reducible apply State.setEngState_step); rfl)
    | ((with_reducible apply State.rampDown_step); rfl)
    | ((with_reducible apply State.raise_step); rfl)
    | ((with_reducible apply State.setEngine_step); rfl)
    | ((with_reducible apply Within.stepEach); intro _ _)
    | split
    | extract_lets
    | with_reducible intro _
    | with_reducible show Within _ _ (ite _ _ _)
    | ((with_reducible show Within _ _ (id _)); exact Within.refl _ _)
    | dsimp +zetaDelta only

theorem State.faultStop_step {a1 : _} {a2 : _} {a3 : _} {m : Nat} {r s : State} (c : 947937302 &&& m = 947937302) (h : Within m r s) :
    Within m r (State.faultStop s a1 a2 a3) := Within.step (State.faultStop_within s a1 a2 a3) c h

theorem State.retireGroup_within : ∀ (s : State) a1 a2, Within 16386 s (State.retireGroup s a1 a2) := by
  intro s a1 a2
  unfold State.retireGroup
  repeat' first
    | with_reducible exact Within.refl _ _
    | assumption
    | ((with_reducible apply State.setF_step); rfl)
    | ((with_reducible apply State.setEngine_step); rfl)
    | ((with_reducible apply Within.stepEach); intro _ _)
    | split
    | extract_lets
    | with_reducible intro _
    | with_reducible show Within _ _ (ite _ _ _)
    | ((with_reducible show Within _ _ (id _)); exact Within.refl _ _)
    | dsimp +zetaDelta only

theorem State.retireGroup_step {a1 : _} {a2 : _} {m : Nat} {r s : State} (c : 16386 &&& m = 16386) (h : Within m r s) :
    Within m r (State.retireGroup s a1 a2) := Within.step (State.retireGroup_within s a1 a2) c h

theorem State.returnGroup_within : ∀ (s : State) a1 a2, Within 16386 s (State.returnGroup s a1 a2) := by
  intro s a1 a2
  unfold State.returnGroup
  repeat' first
    | with_reducible exact Within.refl _ _
    | assumption
    | ((with_reducible apply State.setF_step); rfl)
    | ((with_reducible apply State.setEngine_step); rfl)
    | ((with_reducible apply Within.stepEach); intro _ _)
    | split
    | extract_lets
    | with_reducible intro _
    | with_reducible show Within _ _ (ite _ _ _)
    | ((with_reducible show Within _ _ (id _)); exact Within.refl _ _)
    | dsimp +zetaDelta only

theorem State.returnGroup_step {a1 : _} {a2 : _} {m : Nat} {r s : State} (c : 16386 &&& m = 16386) (h : Within m r s) :
    Within m r (State.returnGroup s a1 a2) := Within.step (State.returnGroup_within s a1 a2) c h


/-! ## Machine/Canvas.lean -/

theorem State.endSeg_within : ∀ (s : State) a1 a2, Within 8196 s (State.endSeg s a1 a2) := by
  intro s a1 a2
  unfold State.endSeg
  repeat' first
    | with_reducible exact Within.refl _ _
    | assumption
    | ((with_reducible apply State.setSeg_step); rfl)
    | ((with_reducible apply State.segDone_step); rfl)
    | ((with_reducible apply Within.stepEach); intro _ _)
    | split
    | extract_lets
    | with_reducible intro _
    | with_reducible show Within _ _ (ite _ _ _)
    | ((with_reducible show Within _ _ (id _)); exact Within.refl _ _)
    | dsimp +zetaDelta only

theorem State.endSeg_step {a1 : _} {a2 : _} {m : Nat} {r s : State} (c : 8196 &&& m = 8196) (h : Within m r s) :
    Within m r (State.endSeg s a1 a2) := Within.step (State.endSeg_within s a1 a2) c h

theorem State.forceSeg_within : ∀ (s : State) a1 a2, Within 939532308 s (State.forceSeg s a1 a2) := by
  intro s a1 a2
  unfold State.forceSeg
  repeat' first
    | with_reducible exact Within.refl _ _
    | assumption
    | ((with_reducible apply State.settleSeg_step); rfl)
    | ((with_reducible apply State.setSeg_step); rfl)
    | ((with_reducible apply State.dispatchSeg_step); rfl)
    | ((with_reducible apply State.voidSeg_step); rfl)
    | ((with_reducible apply Within.stepEach); intro _ _)
    | split
    | extract_lets
    | with_reducible intro _
    | with_reducible show Within _ _ (ite _ _ _)
    | ((with_reducible show Within _ _ (id _)); exact Within.refl _ _)
    | dsimp +zetaDelta only

theorem State.forceSeg_step {a1 : _} {a2 : _} {m : Nat} {r s : State} (c : 939532308 &&& m = 939532308) (h : Within m r s) :
    Within m r (State.forceSeg s a1 a2) := Within.step (State.forceSeg_within s a1 a2) c h

theorem State.notePruned_within : ∀ (s : State) a1 a2, Within 8196 s (State.notePruned s a1 a2) := by
  intro s a1 a2
  unfold State.notePruned
  repeat' first
    | with_reducible exact Within.refl _ _
    | assumption
    | ((with_reducible apply State.bump_step); rfl)
    | ((with_reducible apply State.setCtx_step); rfl)
    | ((with_reducible apply Within.stepEach); intro _ _)
    | split
    | extract_lets
    | with_reducible intro _
    | with_reducible show Within _ _ (ite _ _ _)
    | ((with_reducible show Within _ _ (id _)); exact Within.refl _ _)
    | dsimp +zetaDelta only

theorem State.notePruned_step {a1 : _} {a2 : _} {m : Nat} {r s : State} (c : 8196 &&& m = 8196) (h : Within m r s) :
    Within m r (State.notePruned s a1 a2) := Within.step (State.notePruned_within s a1 a2) c h

theorem State.takeContrib_within : ∀ (s : State), Within 1073750036 s (State.takeContrib s) := by
  intro s
  unfold State.takeContrib
  repeat' first
    | with_reducible exact Within.refl _ _
    | assumption
    | ((with_reducible apply State.unitTake_step); rfl)
    | (with_reducible refine Within.step (State.ingest_within _ _ _ (by assumption)) rfl ?_)
    | ((with_reducible apply Within.stepEach); intro _ _)
    | split
    | extract_lets
    | with_reducible intro _
    | with_reducible show Within _ _ (ite _ _ _)
    | ((with_reducible show Within _ _ (id _)); exact Within.refl _ _)
    | dsimp +zetaDelta only

theorem State.takeContrib_step  {m : Nat} {r s : State} (c : 1073750036 &&& m = 1073750036) (h : Within m r s) :
    Within m r (State.takeContrib s) := Within.step (State.takeContrib_within s) c h

theorem execCnvWriteShadow_within : ∀ a0 (s : State), WithinNext 939532294 s (execCnvWriteShadow a0 s) := by
  intro a0 s
  unfold execCnvWriteShadow
  repeat' first
    | with_reducible exact Within.refl _ _
    | assumption
    | ((with_reducible apply State.gate_step); rfl)
    | ((with_reducible apply State.status_step); rfl)
    | with_reducible apply WithinNext.ok
    | exact WithinNext.fault _
    | ((with_reducible apply Within.stepEach); intro _ _)
    | split
    | extract_lets
    | ((fail_if_success with_reducible apply Within.upd_pending); (with_reducible apply Within.upd_canvas); rfl)
    | with_reducible intro _
    | with_reducible show Within _ _ (ite _ _ _)
    | ((with_reducible show Within _ _ (id _)); exact Within.refl _ _)
    | dsimp +zetaDelta only
    | ((fail_if_success with_reducible apply Within.upd_pending); (with_reducible apply Within.upd_canvas); rfl)

theorem execCnvWriteShadow_next {a0 : _} {m : Nat} {s : State} (c : 939532294 &&& m = 939532294) :
    WithinNext m s (execCnvWriteShadow a0 s) := WithinNext.mono (execCnvWriteShadow_within a0 s) c

theorem execCnvReadShadow_within : ∀ a0 (s : State), WithinNext 939524102 s (execCnvReadShadow a0 s) := by
  intro a0 s
  unfold execCnvReadShadow
  repeat' first
    | with_reducible exact Within.refl _ _
    | assumption
    | ((with_reducible apply State.wrWords_step); rfl)
    | ((with_reducible apply State.gate_step); rfl)
    | ((with_reducible apply State.status_step); rfl)
    | with_reducible apply WithinNext.ok
    | exact WithinNext.fault _
    | ((with_reducible apply Within.stepEach); intro _ _)
    | split
    | extract_lets
    | with_reducible intro _
    | with_reducible show Within _ _ (ite _ _ _)
    | ((with_reducible show Within _ _ (id _)); exact Within.refl _ _)
    | dsimp +zetaDelta only

theorem execCnvReadShadow_next {a0 : _} {m : Nat} {s : State} (c : 939524102 &&& m = 939524102) :
    WithinNext m s (execCnvReadShadow a0 s) := WithinNext.mono (execCnvReadShadow_within a0 s) c

theorem execCnvForce_within : ∀ a0 (s : State), WithinNext 939532310 s (execCnvForce a0 s) := by
  intro a0 s
  unfold execCnvForce
  repeat' first
    | with_reducible exact Within.refl _ _
    | assumption
    | ((with_reducible apply State.gate_step); rfl)
    | ((with_reducible apply State.forceSeg_step); rfl)
    | ((with_reducible apply State.status_step); rfl)
    | with_reducible apply WithinNext.ok
    | exact WithinNext.fault _
    | ((with_reducible apply Within.stepEach); intro _ _)
    | split
    | extract_lets
    | with_reducible intro _
    | with_reducible show Within _ _ (ite _ _ _)
    | ((with_reducible show Within _ _ (id _)); exact Within.refl _ _)
    | dsimp +zetaDelta only

theorem execCnvForce_next {a0 : _} {m : Nat} {s : State} (c : 939532310 &&& m = 939532310) :
    WithinNext m s (execCnvForce a0 s) := WithinNext.mono (execCnvForce_within a0 s) c

theorem execCnvReadStatus_within : ∀ a0 (s : State), WithinNext 939524102 s (execCnvReadStatus a0 s) := by
  intro a0 s
  unfold execCnvReadStatus
  repeat' first
    | with_reducible exact Within.refl _ _
    | assumption
    | ((with_reducible apply State.wrWords_step); rfl)
    | ((with_reducible apply State.gate_step); rfl)
    | ((with_reducible apply State.status_step); rfl)
    | with_reducible apply WithinNext.ok
    | exact WithinNext.fault _
    | ((with_reducible apply Within.stepEach); intro _ _)
    | split
    | extract_lets
    | with_reducible intro _
    | with_reducible show Within _ _ (ite _ _ _)
    | ((with_reducible show Within _ _ (id _)); exact Within.refl _ _)
    | dsimp +zetaDelta only

theorem execCnvReadStatus_next {a0 : _} {m : Nat} {s : State} (c : 939524102 &&& m = 939524102) :
    WithinNext m s (execCnvReadStatus a0 s) := WithinNext.mono (execCnvReadStatus_within a0 s) c

theorem execCnvReadActive_within : ∀ a0 (s : State), WithinNext 939524102 s (execCnvReadActive a0 s) := by
  intro a0 s
  unfold execCnvReadActive
  repeat' first
    | with_reducible exact Within.refl _ _
    | assumption
    | ((with_reducible apply State.wrWords_step); rfl)
    | ((with_reducible apply State.gate_step); rfl)
    | ((with_reducible apply State.status_step); rfl)
    | with_reducible apply WithinNext.ok
    | exact WithinNext.fault _
    | ((with_reducible apply Within.stepEach); intro _ _)
    | split
    | extract_lets
    | with_reducible intro _
    | with_reducible show Within _ _ (ite _ _ _)
    | ((with_reducible show Within _ _ (id _)); exact Within.refl _ _)
    | dsimp +zetaDelta only

theorem execCnvReadActive_next {a0 : _} {m : Nat} {s : State} (c : 939524102 &&& m = 939524102) :
    WithinNext m s (execCnvReadActive a0 s) := WithinNext.mono (execCnvReadActive_within a0 s) c

theorem execSegmentTimeout_within : ∀ a0 a1 a2 (s : State), WithinNext 8489279509 s (execSegmentTimeout a0 a1 a2 s) := by
  intro a0 a1 a2 s
  unfold execSegmentTimeout
  repeat' first
    | with_reducible exact Within.refl _ _
    | assumption
    | ((with_reducible apply State.settleSeg_step); rfl)
    | ((with_reducible apply State.setSeg_step); rfl)
    | ((with_reducible apply State.dispatchSeg_step); rfl)
    | ((with_reducible apply State.reach_step); rfl)
    | with_reducible apply WithinNext.ok
    | exact WithinNext.fault _
    | ((with_reducible apply Within.stepEach); intro _ _)
    | split
    | extract_lets
    | with_reducible intro _
    | with_reducible show Within _ _ (ite _ _ _)
    | ((with_reducible show Within _ _ (id _)); exact Within.refl _ _)
    | dsimp +zetaDelta only

theorem execSegmentTimeout_next {a0 : _} {a1 : _} {a2 : _} {m : Nat} {s : State} (c : 8489279509 &&& m = 8489279509) :
    WithinNext m s (execSegmentTimeout a0 a1 a2 s) := WithinNext.mono (execSegmentTimeout_within a0 a1 a2 s) c

theorem execChildResultTimeout_within : ∀ a0 a1 a2 (s : State), WithinNext 7549755413 s (execChildResultTimeout a0 a1 a2 s) := by
  intro a0 a1 a2 s
  unfold execChildResultTimeout
  repeat' first
    | with_reducible exact Within.refl _ _
    | assumption
    | ((with_reducible apply State.childRetry_step); rfl)
    | ((with_reducible apply State.reach_step); rfl)
    | with_reducible apply WithinNext.ok
    | exact WithinNext.fault _
    | ((with_reducible apply Within.stepEach); intro _ _)
    | split
    | extract_lets
    | with_reducible intro _
    | with_reducible show Within _ _ (ite _ _ _)
    | ((with_reducible show Within _ _ (id _)); exact Within.refl _ _)
    | dsimp +zetaDelta only

theorem execChildResultTimeout_next {a0 : _} {a1 : _} {a2 : _} {m : Nat} {s : State} (c : 7549755413 &&& m = 7549755413) :
    WithinNext m s (execChildResultTimeout a0 a1 a2 s) := WithinNext.mono (execChildResultTimeout_within a0 a1 a2 s) c

theorem execBatchFolded_within : ∀ a0 a1 a2 (s : State), WithinNext 939532308 s (execBatchFolded a0 a1 a2 s) := by
  intro a0 a1 a2 s
  unfold execBatchFolded
  repeat' first
    | with_reducible exact Within.refl _ _
    | assumption
    | ((with_reducible apply State.settleSeg_step); rfl)
    | ((with_reducible apply State.bump_step); rfl)
    | ((with_reducible apply State.setSeg_step); rfl)
    | ((with_reducible apply State.freeContribs_step); rfl)
    | ((with_reducible apply State.noteTerms_step); rfl)
    | with_reducible apply WithinNext.ok
    | exact WithinNext.fault _
    | ((with_reducible apply Within.stepEach); intro _ _)
    | split
    | extract_lets
    | with_reducible intro _
    | with_reducible show Within _ _ (ite _ _ _)
    | ((with_reducible show Within _ _ (id _)); exact Within.refl _ _)
    | dsimp +zetaDelta only

theorem execBatchFolded_next {a0 : _} {a1 : _} {a2 : _} {m : Nat} {s : State} (c : 939532308 &&& m = 939532308) :
    WithinNext m s (execBatchFolded a0 a1 a2 s) := WithinNext.mono (execBatchFolded_within a0 a1 a2 s) c

theorem execPhaseMarkReceive_within : ∀ (s : State), WithinNext 1073752084 s (execPhaseMarkReceive s) := by
  intro s
  unfold execPhaseMarkReceive
  repeat' first
    | with_reducible exact Within.refl _ _
    | assumption
    | ((with_reducible apply State.bump_step); rfl)
    | ((with_reducible apply State.takeMark_step); rfl)
    | ((with_reducible apply State.unitTake_step); rfl)
    | ((with_reducible apply State.setCtx_step); rfl)
    | with_reducible apply WithinNext.ok
    | exact WithinNext.fault _
    | ((with_reducible apply Within.stepEach); intro _ _)
    | split
    | extract_lets
    | with_reducible intro _
    | with_reducible show Within _ _ (ite _ _ _)
    | ((with_reducible show Within _ _ (id _)); exact Within.refl _ _)
    | dsimp +zetaDelta only

theorem execPhaseMarkReceive_next  {m : Nat} {s : State} (c : 1073752084 &&& m = 1073752084) :
    WithinNext m s (execPhaseMarkReceive s) := WithinNext.mono (execPhaseMarkReceive_within s) c

theorem execRecoverCopyDone_within : ∀ a0 (s : State), WithinNext 939532308 s (execRecoverCopyDone a0 s) := by
  intro a0 s
  unfold execRecoverCopyDone
  repeat' first
    | with_reducible exact Within.refl _ _
    | assumption
    | ((with_reducible apply State.leaveRecover_step); rfl)
    | with_reducible apply WithinNext.ok
    | exact WithinNext.fault _
    | ((with_reducible apply Within.stepEach); intro _ _)
    | split
    | extract_lets
    | with_reducible intro _
    | with_reducible show Within _ _ (ite _ _ _)
    | ((with_reducible show Within _ _ (id _)); exact Within.refl _ _)
    | dsimp +zetaDelta only

theorem execRecoverCopyDone_next {a0 : _} {m : Nat} {s : State} (c : 939532308 &&& m = 939532308) :
    WithinNext m s (execRecoverCopyDone a0 s) := WithinNext.mono (execRecoverCopyDone_within a0 s) c

theorem execContextFreed_within : ∀ a0 (s : State), WithinNext 939532292 s (execContextFreed a0 s) := by
  intro a0 s
  unfold execContextFreed
  repeat' first
    | with_reducible exact Within.refl _ _
    | assumption
    | ((with_reducible apply State.raise_step); rfl)
    | ((with_reducible apply State.setCtx_step); rfl)
    | with_reducible apply WithinNext.ok
    | exact WithinNext.fault _
    | ((with_reducible apply Within.stepEach); intro _ _)
    | split
    | extract_lets
    | with_reducible intro _
    | with_reducible show Within _ _ (ite _ _ _)
    | ((with_reducible show Within _ _ (id _)); exact Within.refl _ _)
    | dsimp +zetaDelta only

theorem execContextFreed_next {a0 : _} {m : Nat} {s : State} (c : 939532292 &&& m = 939532292) :
    WithinNext m s (execContextFreed a0 s) := WithinNext.mono (execContextFreed_within a0 s) c

theorem execCanvasIngestRetry_within : ∀ (s : State), WithinNext 5369309524 s (execCanvasIngestRetry s) := by
  intro s
  unfold execCanvasIngestRetry
  repeat' first
    | with_reducible exact Within.refl _ _
    | assumption
    | ((with_reducible apply State.takeContrib_step); rfl)
    | ((with_reducible apply State.schedule_step); rfl)
    | with_reducible apply WithinNext.ok
    | exact WithinNext.fault _
    | ((with_reducible apply Within.stepEach); intro _ _)
    | split
    | extract_lets
    | with_reducible intro _
    | with_reducible show Within _ _ (ite _ _ _)
    | ((with_reducible show Within _ _ (id _)); exact Within.refl _ _)
    | dsimp +zetaDelta only

theorem execCanvasIngestRetry_next  {m : Nat} {s : State} (c : 5369309524 &&& m = 5369309524) :
    WithinNext m s (execCanvasIngestRetry s) := WithinNext.mono (execCanvasIngestRetry_within s) c

theorem execBatchWaitExpiry_within : ∀ a0 a1 a2 (s : State), WithinNext 7549755397 s (execBatchWaitExpiry a0 a1 a2 s) := by
  intro a0 a1 a2 s
  unfold execBatchWaitExpiry
  repeat' first
    | with_reducible exact Within.refl _ _
    | assumption
    | ((with_reducible apply State.dispatchSeg_step); rfl)
    | ((with_reducible apply State.reach_step); rfl)
    | with_reducible apply WithinNext.ok
    | exact WithinNext.fault _
    | ((with_reducible apply Within.stepEach); intro _ _)
    | split
    | extract_lets
    | with_reducible intro _
    | with_reducible show Within _ _ (ite _ _ _)
    | ((with_reducible show Within _ _ (id _)); exact Within.refl _ _)
    | dsimp +zetaDelta only

theorem execBatchWaitExpiry_next {a0 : _} {a1 : _} {a2 : _} {m : Nat} {s : State} (c : 7549755397 &&& m = 7549755397) :
    WithinNext m s (execBatchWaitExpiry a0 a1 a2 s) := WithinNext.mono (execBatchWaitExpiry_within a0 a1 a2 s) c

theorem execSegmentEncodeDone_within : ∀ a0 a1 a2 (s : State), WithinNext 10260 s (execSegmentEncodeDone a0 a1 a2 s) := by
  intro a0 a1 a2 s
  unfold execSegmentEncodeDone
  repeat' first
    | with_reducible exact Within.refl _ _
    | assumption
    | ((with_reducible apply State.endSeg_step); rfl)
    | ((with_reducible apply State.setSeg_step); rfl)
    | ((with_reducible apply State.issueRoot_step); rfl)
    | ((with_reducible apply State.sendPartial_step); rfl)
    | ((with_reducible apply State.sendResult_step); rfl)
    | ((with_reducible apply State.advance_step); rfl)
    | with_reducible apply WithinNext.ok
    | exact WithinNext.fault _
    | ((with_reducible apply Within.stepEach); intro _ _)
    | split
    | extract_lets
    | with_reducible intro _
    | with_reducible show Within _ _ (ite _ _ _)
    | ((with_reducible show Within _ _ (id _)); exact Within.refl _ _)
    | dsimp +zetaDelta only

theorem execSegmentEncodeDone_next {a0 : _} {a1 : _} {a2 : _} {m : Nat} {s : State} (c : 10260 &&& m = 10260) :
    WithinNext m s (execSegmentEncodeDone a0 a1 a2 s) := WithinNext.mono (execSegmentEncodeDone_within a0 a1 a2 s) c

theorem execSegmentAreaGrant_within : ∀ a0 a1 a2 (s : State), WithinNext 8192 s (execSegmentAreaGrant a0 a1 a2 s) := by
  intro a0 a1 a2 s
  unfold execSegmentAreaGrant
  repeat' first
    | with_reducible exact Within.refl _ _
    | assumption
    | ((with_reducible apply State.setSeg_step); rfl)
    | ((with_reducible apply State.dispatchSeg_step); rfl)
    | with_reducible apply WithinNext.ok
    | exact WithinNext.fault _
    | ((with_reducible apply Within.stepEach); intro _ _)
    | split
    | extract_lets
    | with_reducible intro _
    | with_reducible show Within _ _ (ite _ _ _)
    | ((with_reducible show Within _ _ (id _)); exact Within.refl _ _)
    | dsimp +zetaDelta only

theorem execSegmentAreaGrant_next {a0 : _} {a1 : _} {a2 : _} {m : Nat} {s : State} (c : 8192 &&& m = 8192) :
    WithinNext m s (execSegmentAreaGrant a0 a1 a2 s) := WithinNext.mono (execSegmentAreaGrant_within a0 a1 a2 s) c

theorem execMcastReplicate_within : ∀ (s : State), WithinNext 12885436692 s (execMcastReplicate s) := by
  intro s
  unfold execMcastReplicate
  repeat' first
    | with_reducible exact Within.refl _ _
    | assumption
    | ((with_reducible apply State.observe_step); rfl)
    | ((with_reducible apply State.replicate_step); rfl)
    | ((with_reducible apply State.notePruned_step); rfl)
    | with_reducible apply WithinNext.ok
    | exact WithinNext.fault _
    | ((with_reducible apply Within.stepEach); intro _ _)
    | split
    | extract_lets
    | ((fail_if_success with_reducible apply Within.upd_pending); (with_reducible apply Within.upd_dp); rfl)
    | with_reducible intro _
    | with_reducible show Within _ _ (ite _ _ _)
    | ((with_reducible show Within _ _ (id _)); exact Within.refl _ _)
    | dsimp +zetaDelta only
    | ((fail_if_success with_reducible apply Within.upd_pending); (with_reducible apply Within.upd_dp); rfl)

theorem execMcastReplicate_next  {m : Nat} {s : State} (c : 12885436692 &&& m = 12885436692) :
    WithinNext m s (execMcastReplicate s) := WithinNext.mono (execMcastReplicate_within s) c

theorem execContribReceive_within : ∀ (s : State), WithinNext 1073750036 s (execContribReceive s) := by
  intro s
  unfold execContribReceive
  repeat' first
    | with_reducible exact Within.refl _ _
    | assumption
    | ((with_reducible apply State.takeContrib_step); rfl)
    | with_reducible apply WithinNext.ok
    | exact WithinNext.fault _
    | ((with_reducible apply Within.stepEach); intro _ _)
    | split
    | extract_lets
    | with_reducible intro _
    | with_reducible show Within _ _ (ite _ _ _)
    | ((with_reducible show Within _ _ (id _)); exact Within.refl _ _)
    | dsimp +zetaDelta only

theorem execContribReceive_next  {m : Nat} {s : State} (c : 1073750036 &&& m = 1073750036) :
    WithinNext m s (execContribReceive s) := WithinNext.mono (execContribReceive_within s) c

theorem execCanvasBatchAdmit_within : ∀ a0 a1 a2 (s : State), WithinNext 939548692 s (execCanvasBatchAdmit a0 a1 a2 s) := by
  intro a0 a1 a2 s
  unfold execCanvasBatchAdmit
  repeat' first
    | with_reducible exact Within.refl _ _
    | assumption
    | ((with_reducible apply State.updDie_step); rfl)
    | ((with_reducible apply State.shedFiller_step); rfl)
    | ((with_reducible apply State.setSeg_step); rfl)
    | with_reducible apply WithinNext.ok
    | exact WithinNext.fault _
    | ((with_reducible apply Within.stepEach); intro _ _)
    | split
    | extract_lets
    | with_reducible intro _
    | with_reducible show Within _ _ (ite _ _ _)
    | ((with_reducible show Within _ _ (id _)); exact Within.refl _ _)
    | dsimp +zetaDelta only

theorem execCanvasBatchAdmit_next {a0 : _} {a1 : _} {a2 : _} {m : Nat} {s : State} (c : 939548692 &&& m = 939548692) :
    WithinNext m s (execCanvasBatchAdmit a0 a1 a2 s) := WithinNext.mono (execCanvasBatchAdmit_within a0 a1 a2 s) c

end Sys2Proof.Machine
end

