-- ==== Sys2Proof/Laws/FramePalette.lean ====
section
/-!
SUPPORT. Frames of Palette: one lemma per operation and command, which parts of the state it can change.
-/

set_option linter.all false
namespace Sys2Proof.Machine

/-! ## Machine/PalLists.lean -/

theorem PRing.updated_within : ∀ (s : State) a1 a2, Within 16384 s (PRing.updated s a1 a2) := by
  intro s a1 a2
  unfold PRing.updated
  repeat' first
    | with_reducible exact Within.refl _ _
    | assumption
    | ((with_reducible apply State.setPalRing_step); rfl)
    | ((with_reducible apply Within.stepEach); intro _ _)
    | split
    | extract_lets
    | with_reducible intro _
    | with_reducible show Within _ _ (ite _ _ _)
    | ((with_reducible show Within _ _ (id _)); exact Within.refl _ _)
    | dsimp +zetaDelta only

theorem PRing.updated_step {a1 : _} {a2 : _} {m : Nat} {r s : State} (c : 16384 &&& m = 16384) (h : Within m r s) :
    Within m r (PRing.updated s a1 a2) := Within.step (PRing.updated_within s a1 a2) c h

theorem State.homeLost_within : ∀ (s : State) a1, Within 9529483284 s (State.homeLost s a1) := by
  intro s a1
  unfold State.homeLost
  repeat' first
    | with_reducible exact Within.refl _ _
    | assumption
    | ((with_reducible apply State.setPalRing_step); rfl)
    | ((with_reducible apply State.raise_step); rfl)
    | ((with_reducible apply State.setEngine_step); rfl)
    | ((with_reducible apply State.gap_step); rfl)
    | ((with_reducible apply Within.stepEach); intro _ _)
    | split
    | extract_lets
    | with_reducible intro _
    | with_reducible show Within _ _ (ite _ _ _)
    | ((with_reducible show Within _ _ (id _)); exact Within.refl _ _)
    | dsimp +zetaDelta only

theorem State.homeLost_step {a1 : _} {m : Nat} {r s : State} (c : 9529483284 &&& m = 9529483284) (h : Within m r s) :
    Within m r (State.homeLost s a1) := Within.step (State.homeLost_within s a1) c h

theorem State.suspendList_within : ∀ (s : State) a1, Within 939548692 s (State.suspendList s a1) := by
  intro s a1
  unfold State.suspendList
  repeat' first
    | with_reducible exact Within.refl _ _
    | assumption
    | ((with_reducible apply State.accrue_step); rfl)
    | ((with_reducible apply State.setEngine_step); rfl)
    | ((with_reducible apply Within.stepEach); intro _ _)
    | split
    | extract_lets
    | with_reducible intro _
    | with_reducible show Within _ _ (ite _ _ _)
    | ((with_reducible show Within _ _ (id _)); exact Within.refl _ _)
    | dsimp +zetaDelta only

theorem State.suspendList_step {a1 : _} {m : Nat} {r s : State} (c : 939548692 &&& m = 939548692) (h : Within m r s) :
    Within m r (State.suspendList s a1) := Within.step (State.suspendList_within s a1) c h

theorem State.setDbWord_within : ∀ (s : State) a1 a2 a3, Within 163840 s (State.setDbWord s a1 a2 a3) := by
  intro s a1 a2 a3
  unfold State.setDbWord
  repeat' first
    | with_reducible exact Within.refl _ _
    | assumption
    | ((with_reducible apply State.writeBytes_step); rfl)
    | ((with_reducible apply Within.stepEach); intro _ _)
    | split
    | extract_lets
    | with_reducible intro _
    | with_reducible show Within _ _ (ite _ _ _)
    | ((with_reducible show Within _ _ (id _)); exact Within.refl _ _)
    | dsimp +zetaDelta only

theorem State.setDbWord_step {a1 : _} {a2 : _} {a3 : _} {m : Nat} {r s : State} (c : 163840 &&& m = 163840) (h : Within m r s) :
    Within m r (State.setDbWord s a1 a2 a3) := Within.step (State.setDbWord_within s a1 a2 a3) c h

theorem State.writeRecord_within : ∀ (s : State) a1 a2, Within 180224 s (State.writeRecord s a1 a2) := by
  intro s a1 a2
  unfold State.writeRecord
  repeat' first
    | with_reducible exact Within.refl _ _
    | assumption
    | ((with_reducible apply State.setPalRing_step); rfl)
    | ((with_reducible apply State.writeBytes_step); rfl)
    | ((with_reducible apply State.setDbWord_step); rfl)
    | ((with_reducible apply Within.stepEach); intro _ _)
    | split
    | extract_lets
    | with_reducible intro _
    | with_reducible show Within _ _ (ite _ _ _)
    | ((with_reducible show Within _ _ (id _)); exact Within.refl _ _)
    | dsimp +zetaDelta only

theorem State.writeRecord_step {a1 : _} {a2 : _} {m : Nat} {r s : State} (c : 180224 &&& m = 180224) (h : Within m r s) :
    Within m r (State.writeRecord s a1 a2) := Within.step (State.writeRecord_within s a1 a2) c h

theorem State.advanceCi_within : ∀ (s : State) a1 a2, Within 180224 s (State.advanceCi s a1 a2) := by
  intro s a1 a2
  unfold State.advanceCi
  repeat' first
    | with_reducible exact Within.refl _ _
    | assumption
    | ((with_reducible apply State.setPalRing_step); rfl)
    | ((with_reducible apply State.setDbWord_step); rfl)
    | ((with_reducible apply Within.stepEach); intro _ _)
    | split
    | extract_lets
    | with_reducible intro _
    | with_reducible show Within _ _ (ite _ _ _)
    | ((with_reducible show Within _ _ (id _)); exact Within.refl _ _)
    | dsimp +zetaDelta only

theorem State.advanceCi_step {a1 : _} {a2 : _} {m : Nat} {r s : State} (c : 180224 &&& m = 180224) (h : Within m r s) :
    Within m r (State.advanceCi s a1 a2) := Within.step (State.advanceCi_within s a1 a2) c h

theorem State.ringFails_within : ∀ (s : State) a1 a2 a3 a4 a5 a6, Within 939704324 s (State.ringFails s a1 a2 a3 a4 a5 a6) := by
  intro s a1 a2 a3 a4 a5 a6
  unfold State.ringFails
  repeat' first
    | with_reducible exact Within.refl _ _
    | assumption
    | ((with_reducible apply State.writeRecord_step); rfl)
    | ((with_reducible apply State.bump_step); rfl)
    | ((with_reducible apply State.setPalRing_step); rfl)
    | ((with_reducible apply State.raise_step); rfl)
    | ((with_reducible apply State.advanceCi_step); rfl)
    | ((with_reducible apply State.setDbWord_step); rfl)
    | ((with_reducible apply Within.stepEach); intro _ _)
    | split
    | extract_lets
    | with_reducible intro _
    | with_reducible show Within _ _ (ite _ _ _)
    | ((with_reducible show Within _ _ (id _)); exact Within.refl _ _)
    | dsimp +zetaDelta only

theorem State.ringFails_step {a1 : _} {a2 : _} {a3 : _} {a4 : _} {a5 : _} {a6 : _} {m : Nat} {r s : State} (c : 939704324 &&& m = 939704324) (h : Within m r s) :
    Within m r (State.ringFails s a1 a2 a3 a4 a5 a6) := Within.step (State.ringFails_within s a1 a2 a3 a4 a5 a6) c h

theorem State.failRunning_within : ∀ (s : State) a1 a2 a3 a4, Within 939704324 s (State.failRunning s a1 a2 a3 a4) := by
  intro s a1 a2 a3 a4
  unfold State.failRunning
  repeat' first
    | with_reducible exact Within.refl _ _
    | assumption
    | ((with_reducible apply State.ringFails_step); rfl)
    | ((with_reducible apply PRing.updated_step); rfl)
    | ((with_reducible apply Within.stepEach); intro _ _)
    | split
    | extract_lets
    | with_reducible intro _
    | with_reducible show Within _ _ (ite _ _ _)
    | ((with_reducible show Within _ _ (id _)); exact Within.refl _ _)
    | dsimp +zetaDelta only

theorem State.failRunning_step {a1 : _} {a2 : _} {a3 : _} {a4 : _} {m : Nat} {r s : State} (c : 939704324 &&& m = 939704324) (h : Within m r s) :
    Within m r (State.failRunning s a1 a2 a3 a4) := Within.step (State.failRunning_within s a1 a2 a3 a4) c h

theorem State.failSuspended_within : ∀ (s : State) a1, Within 939704324 s (State.failSuspended s a1) := by
  intro s a1
  unfold State.failSuspended
  repeat' first
    | with_reducible exact Within.refl _ _
    | assumption
    | ((with_reducible apply State.failRunning_step); rfl)
    | ((with_reducible apply State.setEngine_step); rfl)
    | ((with_reducible apply Within.stepEach); intro _ _)
    | split
    | extract_lets
    | with_reducible intro _
    | with_reducible show Within _ _ (ite _ _ _)
    | ((with_reducible show Within _ _ (id _)); exact Within.refl _ _)
    | dsimp +zetaDelta only

theorem State.failSuspended_step {a1 : _} {m : Nat} {r s : State} (c : 939704324 &&& m = 939704324) (h : Within m r s) :
    Within m r (State.failSuspended s a1) := Within.step (State.failSuspended_within s a1) c h

theorem State.suspendRun_within : ∀ (s : State) a1, Within 939712532 s (State.suspendRun s a1) := by
  intro s a1
  unfold State.suspendRun
  repeat' first
    | with_reducible exact Within.refl _ _
    | assumption
    | ((with_reducible apply State.suspendList_step); rfl)
    | ((with_reducible apply State.failSuspended_step); rfl)
    | ((with_reducible apply Within.stepEach); intro _ _)
    | split
    | extract_lets
    | with_reducible intro _
    | with_reducible show Within _ _ (ite _ _ _)
    | ((with_reducible show Within _ _ (id _)); exact Within.refl _ _)
    | dsimp +zetaDelta only

theorem State.suspendRun_step {a1 : _} {m : Nat} {r s : State} (c : 939712532 &&& m = 939712532) (h : Within m r s) :
    Within m r (State.suspendRun s a1) := Within.step (State.suspendRun_within s a1) c h

theorem State.moveRing_within : ∀ (s : State) a1 a2 a3 a4, Within 16384 s (State.moveRing s a1 a2 a3 a4) := by
  intro s a1 a2 a3 a4
  unfold State.moveRing
  repeat' first
    | with_reducible exact Within.refl _ _
    | assumption
    | ((with_reducible apply State.setPalRing_step); rfl)
    | ((with_reducible apply State.setEngine_step); rfl)
    | ((with_reducible apply Within.stepEach); intro _ _)
    | split
    | extract_lets
    | with_reducible intro _
    | with_reducible show Within _ _ (ite _ _ _)
    | ((with_reducible show Within _ _ (id _)); exact Within.refl _ _)
    | dsimp +zetaDelta only

theorem State.moveRing_step {a1 : _} {a2 : _} {a3 : _} {a4 : _} {m : Nat} {r s : State} (c : 16384 &&& m = 16384) (h : Within m r s) :
    Within m r (State.moveRing s a1 a2 a3 a4) := Within.step (State.moveRing_within s a1 a2 a3 a4) c h

theorem State.refreshCands_within : ∀ (s : State) a1, Within 16384 s (State.refreshCands s a1) := by
  intro s a1
  unfold State.refreshCands
  repeat' first
    | with_reducible exact Within.refl _ _
    | assumption
    | ((with_reducible apply State.setEngine_step); rfl)
    | ((with_reducible apply Within.stepEach); intro _ _)
    | split
    | extract_lets
    | with_reducible intro _
    | with_reducible show Within _ _ (ite _ _ _)
    | ((with_reducible show Within _ _ (id _)); exact Within.refl _ _)
    | dsimp +zetaDelta only

theorem State.refreshCands_step {a1 : _} {m : Nat} {r s : State} (c : 16384 &&& m = 16384) (h : Within m r s) :
    Within m r (State.refreshCands s a1) := Within.step (State.refreshCands_within s a1) c h

theorem State.rehomeRings_within : ∀ (s : State) a1, Within 16384 s (State.rehomeRings s a1) := by
  intro s a1
  unfold State.rehomeRings
  repeat' first
    | with_reducible exact Within.refl _ _
    | assumption
    | ((with_reducible apply State.setPalRing_step); rfl)
    | ((with_reducible apply State.moveRing_step); rfl)
    | ((with_reducible apply State.refreshCands_step); rfl)
    | ((with_reducible apply Within.stepEach); intro _ _)
    | split
    | extract_lets
    | with_reducible intro _
    | with_reducible show Within _ _ (ite _ _ _)
    | ((with_reducible show Within _ _ (id _)); exact Within.refl _ _)
    | dsimp +zetaDelta only

theorem State.rehomeRings_step {a1 : _} {m : Nat} {r s : State} (c : 16384 &&& m = 16384) (h : Within m r s) :
    Within m r (State.rehomeRings s a1) := Within.step (State.rehomeRings_within s a1) c h

theorem State.engineLost_within : ∀ (s : State) a1, Within 939712532 s (State.engineLost s a1) := by
  intro s a1
  unfold State.engineLost
  repeat' first
    | with_reducible exact Within.refl _ _
    | assumption
    | ((with_reducible apply State.suspendRun_step); rfl)
    | ((with_reducible apply State.rehomeRings_step); rfl)
    | ((with_reducible apply Within.stepEach); intro _ _)
    | split
    | extract_lets
    | with_reducible intro _
    | with_reducible show Within _ _ (ite _ _ _)
    | ((with_reducible show Within _ _ (id _)); exact Within.refl _ _)
    | dsimp +zetaDelta only

theorem State.engineLost_step {a1 : _} {m : Nat} {r s : State} (c : 939712532 &&& m = 939712532) (h : Within m r s) :
    Within m r (State.engineLost s a1) := Within.step (State.engineLost_within s a1) c h

theorem State.rejectList_within : ∀ (s : State) a1 a2 a3 a4 a5, Within 939704324 s (State.rejectList s a1 a2 a3 a4 a5) := by
  intro s a1 a2 a3 a4 a5
  unfold State.rejectList
  repeat' first
    | with_reducible exact Within.refl _ _
    | assumption
    | ((with_reducible apply State.ringFails_step); rfl)
    | ((with_reducible apply Within.stepEach); intro _ _)
    | split
    | extract_lets
    | with_reducible intro _
    | with_reducible show Within _ _ (ite _ _ _)
    | ((with_reducible show Within _ _ (id _)); exact Within.refl _ _)
    | dsimp +zetaDelta only

theorem State.rejectList_step {a1 : _} {a2 : _} {a3 : _} {a4 : _} {a5 : _} {m : Nat} {r s : State} (c : 939704324 &&& m = 939704324) (h : Within m r s) :
    Within m r (State.rejectList s a1 a2 a3 a4 a5) := Within.step (State.rejectList_within s a1 a2 a3 a4 a5) c h

theorem State.placeNext_within : ∀ (s : State) a1, Within 939704324 s (State.placeNext s a1) := by
  intro s a1
  unfold State.placeNext
  repeat' first
    | with_reducible exact Within.refl _ _
    | assumption
    | ((with_reducible apply State.rejectList_step); rfl)
    | ((with_reducible apply State.setPalRing_step); rfl)
    | ((with_reducible apply State.setEngine_step); rfl)
    | ((with_reducible apply Within.stepEach); intro _ _)
    | split
    | extract_lets
    | with_reducible intro _
    | with_reducible show Within _ _ (ite _ _ _)
    | ((with_reducible show Within _ _ (id _)); exact Within.refl _ _)
    | dsimp +zetaDelta only

theorem State.placeNext_step {a1 : _} {m : Nat} {r s : State} (c : 939704324 &&& m = 939704324) (h : Within m r s) :
    Within m r (State.placeNext s a1) := Within.step (State.placeNext_within s a1) c h

theorem State.fillQueue_within : ∀ (s : State) a1 a2, Within 939704324 s (State.fillQueue s a1 a2) := by
  intro s a1 a2
  unfold State.fillQueue
  repeat' first
    | with_reducible exact Within.refl _ _
    | assumption
    | ((with_reducible apply State.placeNext_step); rfl)
    | ((with_reducible apply Within.stepEach); intro _ _)
    | split
    | extract_lets
    | with_reducible intro _
    | with_reducible show Within _ _ (ite _ _ _)
    | ((with_reducible show Within _ _ (id _)); exact Within.refl _ _)
    | dsimp +zetaDelta only

theorem State.fillQueue_step {a1 : _} {a2 : _} {m : Nat} {r s : State} (c : 939704324 &&& m = 939704324) (h : Within m r s) :
    Within m r (State.fillQueue s a1 a2) := Within.step (State.fillQueue_within s a1 a2) c h

theorem State.afterList_within : ∀ (s : State) a1 a2 a3, Within 9529647124 s (State.afterList s a1 a2 a3) := by
  intro s a1 a2 a3
  unfold State.afterList
  repeat' first
    | with_reducible exact Within.refl _ _
    | assumption
    | ((with_reducible apply State.quiesce_step); rfl)
    | ((with_reducible apply State.fillQueue_step); rfl)
    | ((with_reducible apply State.gap_step); rfl)
    | ((with_reducible apply State.placeNext_step); rfl)
    | ((with_reducible apply State.refreshCands_step); rfl)
    | ((with_reducible apply Within.stepEach); intro _ _)
    | split
    | extract_lets
    | with_reducible intro _
    | with_reducible show Within _ _ (ite _ _ _)
    | ((with_reducible show Within _ _ (id _)); exact Within.refl _ _)
    | dsimp +zetaDelta only

theorem State.afterList_step {a1 : _} {a2 : _} {a3 : _} {m : Nat} {r s : State} (c : 9529647124 &&& m = 9529647124) (h : Within m r s) :
    Within m r (State.afterList s a1 a2 a3) := Within.step (State.afterList_within s a1 a2 a3) c h

theorem State.afterOffline_within : ∀ (s : State) a1, Within 940761108 s (State.afterOffline s a1) := by
  intro s a1
  unfold State.afterOffline
  repeat' first
    | with_reducible exact Within.refl _ _
    | assumption
    | ((with_reducible apply State.endMaint_step); rfl)
    | ((with_reducible apply State.setEngine_step); rfl)
    | ((with_reducible apply State.engineLost_step); rfl)
    | ((with_reducible apply Within.stepEach); intro _ _)
    | split
    | extract_lets
    | with_reducible intro _
    | with_reducible show Within _ _ (ite _ _ _)
    | ((with_reducible show Within _ _ (id _)); exact Within.refl _ _)
    | dsimp +zetaDelta only

theorem State.afterOffline_step {a1 : _} {m : Nat} {r s : State} (c : 940761108 &&& m = 940761108) (h : Within m r s) :
    Within m r (State.afterOffline s a1) := Within.step (State.afterOffline_within s a1) c h

theorem State.listFail_within : ∀ (s : State) a1 a2 a3, Within 9529647124 s (State.listFail s a1 a2 a3) := by
  intro s a1 a2 a3
  unfold State.listFail
  repeat' first
    | with_reducible exact Within.refl _ _
    | assumption
    | ((with_reducible apply State.afterList_step); rfl)
    | ((with_reducible apply State.accrue_step); rfl)
    | ((with_reducible apply State.failRunning_step); rfl)
    | ((with_reducible apply State.setEngine_step); rfl)
    | ((with_reducible apply Within.stepEach); intro _ _)
    | split
    | extract_lets
    | with_reducible intro _
    | with_reducible show Within _ _ (ite _ _ _)
    | ((with_reducible show Within _ _ (id _)); exact Within.refl _ _)
    | dsimp +zetaDelta only

theorem State.listFail_step {a1 : _} {a2 : _} {a3 : _} {m : Nat} {r s : State} (c : 9529647124 &&& m = 9529647124) (h : Within m r s) :
    Within m r (State.listFail s a1 a2 a3) := Within.step (State.listFail_within s a1 a2 a3) c h

theorem State.rehomeAll_within : ∀ (s : State), Within 16384 s (State.rehomeAll s) := by
  intro s
  unfold State.rehomeAll
  repeat' first
    | with_reducible exact Within.refl _ _
    | assumption
    | ((with_reducible apply State.rehomeRings_step); rfl)
    | ((with_reducible apply Within.stepEach); intro _ _)
    | split
    | extract_lets
    | with_reducible intro _
    | with_reducible show Within _ _ (ite _ _ _)
    | ((with_reducible show Within _ _ (id _)); exact Within.refl _ _)
    | dsimp +zetaDelta only

theorem State.rehomeAll_step  {m : Nat} {r s : State} (c : 16384 &&& m = 16384) (h : Within m r s) :
    Within m r (State.rehomeAll s) := Within.step (State.rehomeAll_within s) c h

theorem State.engineBack_within : ∀ (s : State) a1, Within 939704324 s (State.engineBack s a1) := by
  intro s a1
  unfold State.engineBack
  repeat' first
    | with_reducible exact Within.refl _ _
    | assumption
    | ((with_reducible apply State.setPalRing_step); rfl)
    | ((with_reducible apply State.rehomeAll_step); rfl)
    | ((with_reducible apply State.placeNext_step); rfl)
    | ((with_reducible apply State.refreshCands_step); rfl)
    | ((with_reducible apply Within.stepEach); intro _ _)
    | split
    | extract_lets
    | with_reducible intro _
    | with_reducible show Within _ _ (ite _ _ _)
    | ((with_reducible show Within _ _ (id _)); exact Within.refl _ _)
    | dsimp +zetaDelta only

theorem State.engineBack_step {a1 : _} {m : Nat} {r s : State} (c : 939704324 &&& m = 939704324) (h : Within m r s) :
    Within m r (State.engineBack s a1) := Within.step (State.engineBack_within s a1) c h

theorem State.listDone_within : ∀ (s : State) a1 a2 a3, Within 9529647124 s (State.listDone s a1 a2 a3) := by
  intro s a1 a2 a3
  unfold State.listDone
  repeat' first
    | with_reducible exact Within.refl _ _
    | assumption
    | ((with_reducible apply State.writeRecord_step); rfl)
    | ((with_reducible apply State.bump_step); rfl)
    | ((with_reducible apply State.afterList_step); rfl)
    | ((with_reducible apply State.accrue_step); rfl)
    | ((with_reducible apply State.advanceCi_step); rfl)
    | ((with_reducible apply State.setEngine_step); rfl)
    | ((with_reducible apply PRing.updated_step); rfl)
    | ((with_reducible apply Within.stepEach); intro _ _)
    | split
    | extract_lets
    | with_reducible intro _
    | with_reducible show Within _ _ (ite _ _ _)
    | ((with_reducible show Within _ _ (id _)); exact Within.refl _ _)
    | dsimp +zetaDelta only

theorem State.listDone_step {a1 : _} {a2 : _} {a3 : _} {m : Nat} {r s : State} (c : 9529647124 &&& m = 9529647124) (h : Within m r s) :
    Within m r (State.listDone s a1 a2 a3) := Within.step (State.listDone_within s a1 a2 a3) c h

theorem State.resumeOn_within : ∀ (s : State) a1 a2, Within 939712532 s (State.resumeOn s a1 a2) := by
  intro s a1 a2
  unfold State.resumeOn
  repeat' first
    | with_reducible exact Within.refl _ _
    | assumption
    | ((with_reducible apply State.bump_step); rfl)
    | ((with_reducible apply State.failRunning_step); rfl)
    | ((with_reducible apply State.engineReady_step); rfl)
    | ((with_reducible apply State.fillQueue_step); rfl)
    | ((with_reducible apply State.setEngine_step); rfl)
    | ((with_reducible apply State.placeNext_step); rfl)
    | ((with_reducible apply PRing.updated_step); rfl)
    | ((with_reducible apply Within.stepEach); intro _ _)
    | split
    | extract_lets
    | with_reducible intro _
    | with_reducible show Within _ _ (ite _ _ _)
    | ((with_reducible show Within _ _ (id _)); exact Within.refl _ _)
    | dsimp +zetaDelta only

theorem State.resumeOn_step {a1 : _} {a2 : _} {m : Nat} {r s : State} (c : 939712532 &&& m = 939712532) (h : Within m r s) :
    Within m r (State.resumeOn s a1 a2) := Within.step (State.resumeOn_within s a1 a2) c h


/-! ## Machine/PalEngine.lean -/

theorem State.startOffline_within : ∀ a0 (s : State), Within 940761108 s (State.startOffline a0 s) := by
  intro a0 s
  unfold State.startOffline
  repeat' first
    | with_reducible exact Within.refl _ _
    | assumption
    | ((with_reducible apply State.afterOffline_step); rfl)
    | ((with_reducible apply State.retarget_step); rfl)
    | ((with_reducible apply State.setEngine_step); rfl)
    | ((with_reducible apply Within.stepEach); intro _ _)
    | split
    | extract_lets
    | with_reducible intro _
    | with_reducible show Within _ _ (ite _ _ _)
    | ((with_reducible show Within _ _ (id _)); exact Within.refl _ _)
    | dsimp +zetaDelta only

theorem State.startOffline_step {a0 : _} {m : Nat} {r s : State} (c : 940761108 &&& m = 940761108) (h : Within m r s) :
    Within m r (State.startOffline a0 s) := Within.step (State.startOffline_within a0 s) c h

theorem State.laneBit_within : ∀ (s : State) a1 a2 a3 a4, Within 940572676 s (State.laneBit s a1 a2 a3 a4) := by
  intro s a1 a2 a3 a4
  unfold State.laneBit
  repeat' first
    | with_reducible exact Within.refl _ _
    | assumption
    | ((with_reducible apply State.requestMaint_step); rfl)
    | ((with_reducible apply Within.stepEach); intro _ _)
    | split
    | extract_lets
    | with_reducible intro _
    | with_reducible show Within _ _ (ite _ _ _)
    | ((with_reducible show Within _ _ (id _)); exact Within.refl _ _)
    | dsimp +zetaDelta only

theorem State.laneBit_step {a1 : _} {a2 : _} {a3 : _} {a4 : _} {m : Nat} {r s : State} (c : 940572676 &&& m = 940572676) (h : Within m r s) :
    Within m r (State.laneBit s a1 a2 a3 a4) := Within.step (State.laneBit_within s a1 a2 a3 a4) c h

theorem State.enterIdle_within : ∀ (s : State) a1, Within 939712532 s (State.enterIdle s a1) := by
  intro s a1
  unfold State.enterIdle
  repeat' first
    | with_reducible exact Within.refl _ _
    | assumption
    | ((with_reducible apply State.retarget_step); rfl)
    | ((with_reducible apply State.setEngState_step); rfl)
    | ((with_reducible apply State.setEngine_step); rfl)
    | ((with_reducible apply State.engineBack_step); rfl)
    | ((with_reducible apply Within.stepEach); intro _ _)
    | split
    | extract_lets
    | with_reducible intro _
    | with_reducible show Within _ _ (ite _ _ _)
    | ((with_reducible show Within _ _ (id _)); exact Within.refl _ _)
    | dsimp +zetaDelta only

theorem State.enterIdle_step {a1 : _} {m : Nat} {r s : State} (c : 939712532 &&& m = 939712532) (h : Within m r s) :
    Within m r (State.enterIdle s a1) := Within.step (State.enterIdle_within s a1) c h

theorem State.laneShort_within : ∀ (s : State) a1, Within 940761108 s (State.laneShort s a1) := by
  intro s a1
  unfold State.laneShort
  repeat' first
    | with_reducible exact Within.refl _ _
    | assumption
    | ((with_reducible apply State.startOffline_step); rfl)
    | ((with_reducible apply Within.stepEach); intro _ _)
    | split
    | extract_lets
    | with_reducible intro _
    | with_reducible show Within _ _ (ite _ _ _)
    | ((with_reducible show Within _ _ (id _)); exact Within.refl _ _)
    | dsimp +zetaDelta only

theorem State.laneShort_step {a1 : _} {m : Nat} {r s : State} (c : 940761108 &&& m = 940761108) (h : Within m r s) :
    Within m r (State.laneShort s a1) := Within.step (State.laneShort_within s a1) c h

theorem State.resumeAfterFault_within : ∀ (s : State) a1, Within 939712532 s (State.resumeAfterFault s a1) := by
  intro s a1
  unfold State.resumeAfterFault
  repeat' first
    | with_reducible exact Within.refl _ _
    | assumption
    | ((with_reducible apply State.resumeOn_step); rfl)
    | ((with_reducible apply State.suspendRun_step); rfl)
    | ((with_reducible apply State.setEngine_step); rfl)
    | ((with_reducible apply Within.stepEach); intro _ _)
    | split
    | extract_lets
    | with_reducible intro _
    | with_reducible show Within _ _ (ite _ _ _)
    | ((with_reducible show Within _ _ (id _)); exact Within.refl _ _)
    | dsimp +zetaDelta only

theorem State.resumeAfterFault_step {a1 : _} {m : Nat} {r s : State} (c : 939712532 &&& m = 939712532) (h : Within m r s) :
    Within m r (State.resumeAfterFault s a1) := Within.step (State.resumeAfterFault_within s a1) c h

theorem State.startResume_within : ∀ a0 (s : State), Within 16384 s (State.startResume a0 s) := by
  intro a0 s
  unfold State.startResume
  repeat' first
    | with_reducible exact Within.refl _ _
    | assumption
    | ((with_reducible apply State.setEngine_step); rfl)
    | ((with_reducible apply Within.stepEach); intro _ _)
    | split
    | extract_lets
    | with_reducible intro _
    | with_reducible show Within _ _ (ite _ _ _)
    | ((with_reducible show Within _ _ (id _)); exact Within.refl _ _)
    | dsimp +zetaDelta only

theorem State.startResume_step {a0 : _} {m : Nat} {r s : State} (c : 16384 &&& m = 16384) (h : Within m r s) :
    Within m r (State.startResume a0 s) := Within.step (State.startResume_within a0 s) c h

theorem execEngineParkRequest_within : ∀ a0 (s : State), WithinNext 940761110 s (execEngineParkRequest a0 s) := by
  intro a0 s
  unfold execEngineParkRequest
  repeat' first
    | with_reducible exact Within.refl _ _
    | assumption
    | ((with_reducible apply State.afterOffline_step); rfl)
    | ((with_reducible apply State.setF_step); rfl)
    | ((with_reducible apply State.retarget_step); rfl)
    | ((with_reducible apply State.gate_step); rfl)
    | with_reducible apply WithinNext.ok
    | exact WithinNext.fault _
    | ((with_reducible apply Within.stepEach); intro _ _)
    | split
    | extract_lets
    | with_reducible intro _
    | with_reducible show Within _ _ (ite _ _ _)
    | ((with_reducible show Within _ _ (id _)); exact Within.refl _ _)
    | dsimp +zetaDelta only

theorem execEngineParkRequest_next {a0 : _} {m : Nat} {s : State} (c : 940761110 &&& m = 940761110) :
    WithinNext m s (execEngineParkRequest a0 s) := WithinNext.mono (execEngineParkRequest_within a0 s) c

theorem execEngineUnpark_within : ∀ a0 (s : State), WithinNext 939548694 s (execEngineUnpark a0 s) := by
  intro a0 s
  unfold execEngineUnpark
  repeat' first
    | with_reducible exact Within.refl _ _
    | assumption
    | ((with_reducible apply State.setF_step); rfl)
    | ((with_reducible apply State.retarget_step); rfl)
    | ((with_reducible apply State.gate_step); rfl)
    | with_reducible apply WithinNext.ok
    | exact WithinNext.fault _
    | ((with_reducible apply Within.stepEach); intro _ _)
    | split
    | extract_lets
    | with_reducible intro _
    | with_reducible show Within _ _ (ite _ _ _)
    | ((with_reducible show Within _ _ (id _)); exact Within.refl _ _)
    | dsimp +zetaDelta only

theorem execEngineUnpark_next {a0 : _} {m : Nat} {s : State} (c : 939548694 &&& m = 939548694) :
    WithinNext m s (execEngineUnpark a0 s) := WithinNext.mono (execEngineUnpark_within a0 s) c

theorem execEngineResume_within : ∀ a0 (s : State), WithinNext 940589060 s (execEngineResume a0 s) := by
  intro a0 s
  unfold execEngineResume
  repeat' first
    | with_reducible exact Within.refl _ _
    | assumption
    | ((with_reducible apply State.startResume_step); rfl)
    | ((with_reducible apply State.requestMaint_step); rfl)
    | ((with_reducible apply State.gate_step); rfl)
    | with_reducible apply WithinNext.ok
    | exact WithinNext.fault _
    | ((with_reducible apply Within.stepEach); intro _ _)
    | split
    | extract_lets
    | with_reducible intro _
    | with_reducible show Within _ _ (ite _ _ _)
    | ((with_reducible show Within _ _ (id _)); exact Within.refl _ _)
    | dsimp +zetaDelta only

theorem execEngineResume_next {a0 : _} {m : Nat} {s : State} (c : 940589060 &&& m = 940589060) :
    WithinNext m s (execEngineResume a0 s) := WithinNext.mono (execEngineResume_within a0 s) c

theorem execEngineOfflineRequest_within : ∀ a0 (s : State), WithinNext 940761110 s (execEngineOfflineRequest a0 s) := by
  intro a0 s
  unfold execEngineOfflineRequest
  repeat' first
    | with_reducible exact Within.refl _ _
    | assumption
    | ((with_reducible apply State.setF_step); rfl)
    | ((with_reducible apply State.startOffline_step); rfl)
    | ((with_reducible apply State.requestMaint_step); rfl)
    | ((with_reducible apply State.gate_step); rfl)
    | with_reducible apply WithinNext.ok
    | exact WithinNext.fault _
    | ((with_reducible apply Within.stepEach); intro _ _)
    | split
    | extract_lets
    | with_reducible intro _
    | with_reducible show Within _ _ (ite _ _ _)
    | ((with_reducible show Within _ _ (id _)); exact Within.refl _ _)
    | dsimp +zetaDelta only

theorem execEngineOfflineRequest_next {a0 : _} {m : Nat} {s : State} (c : 940761110 &&& m = 940761110) :
    WithinNext m s (execEngineOfflineRequest a0 s) := WithinNext.mono (execEngineOfflineRequest_within a0 s) c

theorem execLaneRetireWrite_within : ∀ a0 a1 (s : State), WithinNext 940572678 s (execLaneRetireWrite a0 a1 s) := by
  intro a0 a1 s
  unfold execLaneRetireWrite
  repeat' first
    | with_reducible exact Within.refl _ _
    | assumption
    | ((with_reducible apply State.setF_step); rfl)
    | ((with_reducible apply State.laneBit_step); rfl)
    | ((with_reducible apply State.gate_step); rfl)
    | with_reducible apply WithinNext.ok
    | exact WithinNext.fault _
    | ((with_reducible apply Within.stepEach); intro _ _)
    | split
    | extract_lets
    | with_reducible intro _
    | with_reducible show Within _ _ (ite _ _ _)
    | ((with_reducible show Within _ _ (id _)); exact Within.refl _ _)
    | dsimp +zetaDelta only

theorem execLaneRetireWrite_next {a0 : _} {a1 : _} {m : Nat} {s : State} (c : 940572678 &&& m = 940572678) :
    WithinNext m s (execLaneRetireWrite a0 a1 s) := WithinNext.mono (execLaneRetireWrite_within a0 a1 s) c

theorem execEngineScrubDone_within : ∀ a0 (s : State), WithinNext 940761108 s (execEngineScrubDone a0 s) := by
  intro a0 s
  unfold execEngineScrubDone
  repeat' first
    | with_reducible exact Within.refl _ _
    | assumption
    | ((with_reducible apply State.afterOffline_step); rfl)
    | ((with_reducible apply State.enterIdle_step); rfl)
    | ((with_reducible apply State.endMaint_step); rfl)
    | ((with_reducible apply State.setEngState_step); rfl)
    | ((with_reducible apply State.setEngine_step); rfl)
    | with_reducible apply WithinNext.ok
    | exact WithinNext.fault _
    | ((with_reducible apply Within.stepEach); intro _ _)
    | split
    | extract_lets
    | with_reducible intro _
    | with_reducible show Within _ _ (ite _ _ _)
    | ((with_reducible show Within _ _ (id _)); exact Within.refl _ _)
    | dsimp +zetaDelta only

theorem execEngineScrubDone_next {a0 : _} {m : Nat} {s : State} (c : 940761108 &&& m = 940761108) :
    WithinNext m s (execEngineScrubDone a0 s) := WithinNext.mono (execEngineScrubDone_within a0 s) c

theorem execGovernorStep_within : ∀ a0 a1 a2 (s : State), WithinNext 8489295893 s (execGovernorStep a0 a1 a2 s) := by
  intro a0 a1 a2 s
  unfold execGovernorStep
  repeat' first
    | with_reducible exact Within.refl _ _
    | assumption
    | ((with_reducible apply State.updDie_step); rfl)
    | ((with_reducible apply State.accrue_step); rfl)
    | ((with_reducible apply State.setEngine_step); rfl)
    | ((with_reducible apply State.reach_step); rfl)
    | with_reducible apply WithinNext.ok
    | exact WithinNext.fault _
    | ((with_reducible apply Within.stepEach); intro _ _)
    | split
    | extract_lets
    | with_reducible intro _
    | with_reducible show Within _ _ (ite _ _ _)
    | ((with_reducible show Within _ _ (id _)); exact Within.refl _ _)
    | dsimp +zetaDelta only

theorem execGovernorStep_next {a0 : _} {a1 : _} {a2 : _} {m : Nat} {s : State} (c : 8489295893 &&& m = 8489295893) :
    WithinNext m s (execGovernorStep a0 a1 a2 s) := WithinNext.mono (execGovernorStep_within a0 a1 a2 s) c

theorem execEngineFault_within : ∀ a0 a1 a2 (s : State), WithinNext 947937302 s (execEngineFault a0 a1 a2 s) := by
  intro a0 a1 a2 s
  unfold execEngineFault
  repeat' first
    | with_reducible exact Within.refl _ _
    | assumption
    | ((with_reducible apply State.bump_step); rfl)
    | ((with_reducible apply State.faultStop_step); rfl)
    | ((with_reducible apply State.partErr_step); rfl)
    | with_reducible apply WithinNext.ok
    | exact WithinNext.fault _
    | ((with_reducible apply Within.stepEach); intro _ _)
    | split
    | extract_lets
    | with_reducible intro _
    | with_reducible show Within _ _ (ite _ _ _)
    | ((with_reducible show Within _ _ (id _)); exact Within.refl _ _)
    | dsimp +zetaDelta only

theorem execEngineFault_next {a0 : _} {a1 : _} {a2 : _} {m : Nat} {s : State} (c : 947937302 &&& m = 947937302) :
    WithinNext m s (execEngineFault a0 a1 a2 s) := WithinNext.mono (execEngineFault_within a0 a1 a2 s) c

theorem execLaneGroupSwap_within : ∀ a0 (s : State), WithinNext 940761110 s (execLaneGroupSwap a0 s) := by
  intro a0 s
  unfold execLaneGroupSwap
  repeat' first
    | with_reducible exact Within.refl _ _
    | assumption
    | ((with_reducible apply State.endMaint_step); rfl)
    | ((with_reducible apply State.laneShort_step); rfl)
    | ((with_reducible apply State.retireGroup_step); rfl)
    | ((with_reducible apply State.returnGroup_step); rfl)
    | with_reducible apply WithinNext.ok
    | exact WithinNext.fault _
    | ((with_reducible apply Within.stepEach); intro _ _)
    | split
    | extract_lets
    | with_reducible intro _
    | with_reducible show Within _ _ (ite _ _ _)
    | ((with_reducible show Within _ _ (id _)); exact Within.refl _ _)
    | dsimp +zetaDelta only

theorem execLaneGroupSwap_next {a0 : _} {m : Nat} {s : State} (c : 940761110 &&& m = 940761110) :
    WithinNext m s (execLaneGroupSwap a0 s) := WithinNext.mono (execLaneGroupSwap_within a0 s) c

theorem execRampStep_within : ∀ a0 (s : State), WithinNext 8490508309 s (execRampStep a0 s) := by
  intro e s
  have hs : ∀ x : Engine, Within 8490508309 s (((s.reach (x.rampAt + 2500 * (x.rampStep + 1))).accrue e).setEngine e
      (((s.reach (x.rampAt + 2500 * (x.rampStep + 1))).accrue e).engine e).rampNext) := fun x =>
    State.setEngine_step rfl (State.accrue_step rfl (State.reach_step rfl (Within.refl _ _)))
  unfold execRampStep
  extract_lets
  split
  · exact WithinNext.ok (Within.refl _ _)
  · split
    · exact WithinNext.ok (State.afterOffline_step rfl (State.enterTarget_step rfl (hs _)))
    · exact WithinNext.ok (hs _)

theorem execRampStep_next {a0 : _} {m : Nat} {s : State} (c : 8490508309 &&& m = 8490508309) :
    WithinNext m s (execRampStep a0 s) := WithinNext.mono (execRampStep_within a0 s) c

theorem execEnergyWindowStart_within : ∀ a0 (s : State), WithinNext 8489295895 s (execEnergyWindowStart a0 s) := by
  intro a0 s
  unfold execEnergyWindowStart
  repeat' first
    | with_reducible exact Within.refl _ _
    | assumption
    | ((with_reducible apply State.accrue_step); rfl)
    | ((with_reducible apply State.startWindow_step); rfl)
    | ((with_reducible apply State.reach_step); rfl)
    | with_reducible apply WithinNext.ok
    | exact WithinNext.fault _
    | ((with_reducible apply Within.stepEach); intro _ _)
    | split
    | extract_lets
    | with_reducible intro _
    | with_reducible show Within _ _ (ite _ _ _)
    | ((with_reducible show Within _ _ (id _)); exact Within.refl _ _)
    | dsimp +zetaDelta only

theorem execEnergyWindowStart_next {a0 : _} {m : Nat} {s : State} (c : 8489295895 &&& m = 8489295895) :
    WithinNext m s (execEnergyWindowStart a0 s) := WithinNext.mono (execEnergyWindowStart_within a0 s) c

theorem execKeepExpiry_within : ∀ a0 (s : State), WithinNext 8490508309 s (execKeepExpiry a0 s) := by
  intro a0 s
  unfold execKeepExpiry
  repeat' first
    | with_reducible exact Within.refl _ _
    | assumption
    | ((with_reducible apply State.afterOffline_step); rfl)
    | ((with_reducible apply State.reach_step); rfl)
    | ((with_reducible apply State.startRamp_step); rfl)
    | with_reducible apply WithinNext.ok
    | exact WithinNext.fault _
    | ((with_reducible apply Within.stepEach); intro _ _)
    | split
    | extract_lets
    | with_reducible intro _
    | with_reducible show Within _ _ (ite _ _ _)
    | ((with_reducible show Within _ _ (id _)); exact Within.refl _ _)
    | dsimp +zetaDelta only

theorem execKeepExpiry_next {a0 : _} {m : Nat} {s : State} (c : 8490508309 &&& m = 8490508309) :
    WithinNext m s (execKeepExpiry a0 s) := WithinNext.mono (execKeepExpiry_within a0 s) c

theorem execWatchdogExpiry_within : ∀ a0 (s : State), WithinNext 8497684503 s (execWatchdogExpiry a0 s) := by
  intro a0 s
  unfold execWatchdogExpiry
  repeat' first
    | with_reducible exact Within.refl _ _
    | assumption
    | ((with_reducible apply State.faultStop_step); rfl)
    | ((with_reducible apply State.reach_step); rfl)
    | with_reducible apply WithinNext.ok
    | exact WithinNext.fault _
    | ((with_reducible apply Within.stepEach); intro _ _)
    | split
    | extract_lets
    | with_reducible intro _
    | with_reducible show Within _ _ (ite _ _ _)
    | ((with_reducible show Within _ _ (id _)); exact Within.refl _ _)
    | dsimp +zetaDelta only

theorem execWatchdogExpiry_next {a0 : _} {m : Nat} {s : State} (c : 8497684503 &&& m = 8497684503) :
    WithinNext m s (execWatchdogExpiry a0 s) := WithinNext.mono (execWatchdogExpiry_within a0 s) c

theorem execEngineResetDone_within : ∀ a0 (s : State), WithinNext 940761110 s (execEngineResetDone a0 s) := by
  intro a0 s
  unfold execEngineResetDone
  repeat' first
    | with_reducible exact Within.refl _ _
    | assumption
    | ((with_reducible apply State.afterOffline_step); rfl)
    | ((with_reducible apply State.resendBatches_step); rfl)
    | ((with_reducible apply State.retarget_step); rfl)
    | ((with_reducible apply State.resumeAfterFault_step); rfl)
    | ((with_reducible apply State.retireGroup_step); rfl)
    | ((with_reducible apply State.setEngState_step); rfl)
    | ((with_reducible apply State.setEngine_step); rfl)
    | with_reducible apply WithinNext.ok
    | exact WithinNext.fault _
    | ((with_reducible apply Within.stepEach); intro _ _)
    | split
    | extract_lets
    | with_reducible intro _
    | with_reducible show Within _ _ (ite _ _ _)
    | ((with_reducible show Within _ _ (id _)); exact Within.refl _ _)
    | dsimp +zetaDelta only

theorem execEngineResetDone_next {a0 : _} {m : Nat} {s : State} (c : 940761110 &&& m = 940761110) :
    WithinNext m s (execEngineResetDone a0 s) := WithinNext.mono (execEngineResetDone_within a0 s) c


/-! ## Machine/PalRings.lean -/

theorem State.admitList_within : ∀ (s : State) a1 a2, Within 939712532 s (State.admitList s a1 a2) := by
  intro s a1 a2
  unfold State.admitList
  repeat' first
    | with_reducible exact Within.refl _ _
    | assumption
    | ((with_reducible apply State.bump_step); rfl)
    | ((with_reducible apply State.updDie_step); rfl)
    | ((with_reducible apply State.accrue_step); rfl)
    | ((with_reducible apply State.shedFiller_step); rfl)
    | ((with_reducible apply State.engineReady_step); rfl)
    | ((with_reducible apply State.fillQueue_step); rfl)
    | ((with_reducible apply State.setEngine_step); rfl)
    | ((with_reducible apply State.refreshCands_step); rfl)
    | ((with_reducible apply PRing.updated_step); rfl)
    | ((with_reducible apply Within.stepEach); intro _ _)
    | split
    | extract_lets
    | with_reducible intro _
    | with_reducible show Within _ _ (ite _ _ _)
    | ((with_reducible show Within _ _ (id _)); exact Within.refl _ _)
    | dsimp +zetaDelta only

theorem State.admitList_step {a1 : _} {a2 : _} {m : Nat} {r s : State} (c : 939712532 &&& m = 939712532) (h : Within m r s) :
    Within m r (State.admitList s a1 a2) := Within.step (State.admitList_within s a1 a2) c h

theorem State.enableRing_within : ∀ (s : State) a1 a2, Within 180224 s (State.enableRing s a1 a2) := by
  intro s a1 a2
  unfold State.enableRing
  repeat' first
    | with_reducible exact Within.refl _ _
    | assumption
    | ((with_reducible apply State.setPalRing_step); rfl)
    | ((with_reducible apply State.setDbWord_step); rfl)
    | ((with_reducible apply Within.stepEach); intro _ _)
    | split
    | extract_lets
    | with_reducible intro _
    | with_reducible show Within _ _ (ite _ _ _)
    | ((with_reducible show Within _ _ (id _)); exact Within.refl _ _)
    | dsimp +zetaDelta only

theorem State.enableRing_step {a1 : _} {a2 : _} {m : Nat} {r s : State} (c : 180224 &&& m = 180224) (h : Within m r s) :
    Within m r (State.enableRing s a1 a2) := Within.step (State.enableRing_within s a1 a2) c h

theorem State.readDoorbell_within : ∀ (s : State) a1, Within 16384 s (State.readDoorbell s a1) := by
  intro s a1
  unfold State.readDoorbell
  repeat' first
    | with_reducible exact Within.refl _ _
    | assumption
    | ((with_reducible apply State.setPalRing_step); rfl)
    | ((with_reducible apply Within.stepEach); intro _ _)
    | split
    | extract_lets
    | with_reducible intro _
    | with_reducible show Within _ _ (ite _ _ _)
    | ((with_reducible show Within _ _ (id _)); exact Within.refl _ _)
    | dsimp +zetaDelta only

theorem State.readDoorbell_step {a1 : _} {m : Nat} {r s : State} (c : 16384 &&& m = 16384) (h : Within m r s) :
    Within m r (State.readDoorbell s a1) := Within.step (State.readDoorbell_within s a1) c h

theorem State.rebind_within : ∀ (s : State) a1 a2, Within 939704324 s (State.rebind s a1 a2) := by
  intro s a1 a2
  unfold State.rebind
  repeat' first
    | with_reducible exact Within.refl _ _
    | assumption
    | ((with_reducible apply State.setPalRing_step); rfl)
    | ((with_reducible apply State.moveRing_step); rfl)
    | ((with_reducible apply State.placeNext_step); rfl)
    | ((with_reducible apply State.refreshCands_step); rfl)
    | ((with_reducible apply Within.stepEach); intro _ _)
    | split
    | extract_lets
    | with_reducible intro _
    | with_reducible show Within _ _ (ite _ _ _)
    | ((with_reducible show Within _ _ (id _)); exact Within.refl _ _)
    | dsimp +zetaDelta only

theorem State.rebind_step {a1 : _} {a2 : _} {m : Nat} {r s : State} (c : 939704324 &&& m = 939704324) (h : Within m r s) :
    Within m r (State.rebind s a1 a2) := Within.step (State.rebind_within s a1 a2) c h

theorem State.unqueue_within : ∀ (s : State) a1, Within 16384 s (State.unqueue s a1) := by
  intro s a1
  unfold State.unqueue
  repeat' first
    | with_reducible exact Within.refl _ _
    | assumption
    | ((with_reducible apply State.setEngine_step); rfl)
    | ((with_reducible apply Within.stepEach); intro _ _)
    | split
    | extract_lets
    | with_reducible intro _
    | with_reducible show Within _ _ (ite _ _ _)
    | ((with_reducible show Within _ _ (id _)); exact Within.refl _ _)
    | dsimp +zetaDelta only

theorem State.unqueue_step {a1 : _} {m : Nat} {r s : State} (c : 16384 &&& m = 16384) (h : Within m r s) :
    Within m r (State.unqueue s a1) := Within.step (State.unqueue_within s a1) c h

theorem State.ringOverflow_within : ∀ (s : State) a1, Within 939704324 s (State.ringOverflow s a1) := by
  intro s a1
  unfold State.ringOverflow
  repeat' first
    | with_reducible exact Within.refl _ _
    | assumption
    | ((with_reducible apply State.rejectList_step); rfl)
    | ((with_reducible apply State.setPalRing_step); rfl)
    | ((with_reducible apply State.unqueue_step); rfl)
    | ((with_reducible apply Within.stepEach); intro _ _)
    | split
    | extract_lets
    | with_reducible intro _
    | with_reducible show Within _ _ (ite _ _ _)
    | ((with_reducible show Within _ _ (id _)); exact Within.refl _ _)
    | dsimp +zetaDelta only

theorem State.ringOverflow_step {a1 : _} {m : Nat} {r s : State} (c : 939704324 &&& m = 939704324) (h : Within m r s) :
    Within m r (State.ringOverflow s a1) := Within.step (State.ringOverflow_within s a1) c h

theorem State.writeRing_within : ∀ (s : State) a1 a2, Within 939704324 s (State.writeRing s a1 a2) := by
  intro s a1 a2
  unfold State.writeRing
  repeat' first
    | with_reducible exact Within.refl _ _
    | assumption
    | ((with_reducible apply State.rebind_step); rfl)
    | ((with_reducible apply State.setPalRing_step); rfl)
    | ((with_reducible apply State.enableRing_step); rfl)
    | ((with_reducible apply Within.stepEach); intro _ _)
    | split
    | extract_lets
    | with_reducible intro _
    | with_reducible show Within _ _ (ite _ _ _)
    | ((with_reducible show Within _ _ (id _)); exact Within.refl _ _)
    | dsimp +zetaDelta only

theorem State.writeRing_step {a1 : _} {a2 : _} {m : Nat} {r s : State} (c : 939704324 &&& m = 939704324) (h : Within m r s) :
    Within m r (State.writeRing s a1 a2) := Within.step (State.writeRing_within s a1 a2) c h

theorem execRingWrite_within : ∀ a0 (s : State), WithinNext 939704326 s (execRingWrite a0 s) := by
  intro a0 s
  unfold execRingWrite
  repeat' first
    | with_reducible exact Within.refl _ _
    | assumption
    | ((with_reducible apply State.setF_step); rfl)
    | ((with_reducible apply State.writeRing_step); rfl)
    | ((with_reducible apply State.gate_step); rfl)
    | with_reducible apply WithinNext.ok
    | exact WithinNext.fault _
    | ((with_reducible apply Within.stepEach); intro _ _)
    | split
    | extract_lets
    | with_reducible intro _
    | with_reducible show Within _ _ (ite _ _ _)
    | ((with_reducible show Within _ _ (id _)); exact Within.refl _ _)
    | dsimp +zetaDelta only

theorem execRingWrite_next {a0 : _} {m : Nat} {s : State} (c : 939704326 &&& m = 939704326) :
    WithinNext m s (execRingWrite a0 s) := WithinNext.mono (execRingWrite_within a0 s) c

theorem execRingStatusRead_within : ∀ a0 (s : State), WithinNext 939524102 s (execRingStatusRead a0 s) := by
  intro a0 s
  unfold execRingStatusRead
  repeat' first
    | with_reducible exact Within.refl _ _
    | assumption
    | ((with_reducible apply State.setF_step); rfl)
    | ((with_reducible apply State.wrWords_step); rfl)
    | ((with_reducible apply State.gate_step); rfl)
    | with_reducible apply WithinNext.ok
    | exact WithinNext.fault _
    | ((with_reducible apply Within.stepEach); intro _ _)
    | split
    | extract_lets
    | with_reducible intro _
    | with_reducible show Within _ _ (ite _ _ _)
    | ((with_reducible show Within _ _ (id _)); exact Within.refl _ _)
    | dsimp +zetaDelta only

theorem execRingStatusRead_next {a0 : _} {m : Nat} {s : State} (c : 939524102 &&& m = 939524102) :
    WithinNext m s (execRingStatusRead a0 s) := WithinNext.mono (execRingStatusRead_within a0 s) c

theorem execRingRead_within : ∀ a0 (s : State), WithinNext 939524102 s (execRingRead a0 s) := by
  intro a0 s
  unfold execRingRead
  repeat' first
    | with_reducible exact Within.refl _ _
    | assumption
    | ((with_reducible apply State.setF_step); rfl)
    | ((with_reducible apply State.wrWords_step); rfl)
    | ((with_reducible apply State.gate_step); rfl)
    | with_reducible apply WithinNext.ok
    | exact WithinNext.fault _
    | ((with_reducible apply Within.stepEach); intro _ _)
    | split
    | extract_lets
    | with_reducible intro _
    | with_reducible show Within _ _ (ite _ _ _)
    | ((with_reducible show Within _ _ (id _)); exact Within.refl _ _)
    | dsimp +zetaDelta only

theorem execRingRead_next {a0 : _} {m : Nat} {s : State} (c : 939524102 &&& m = 939524102) :
    WithinNext m s (execRingRead a0 s) := WithinNext.mono (execRingRead_within a0 s) c

theorem execDoorbellRead_within : ∀ a0 (s : State), WithinNext 939704324 s (execDoorbellRead a0 s) := by
  intro a0 s
  unfold execDoorbellRead
  repeat' first
    | with_reducible exact Within.refl _ _
    | assumption
    | ((with_reducible apply State.readDoorbell_step); rfl)
    | ((with_reducible apply State.ringOverflow_step); rfl)
    | ((with_reducible apply State.placeNext_step); rfl)
    | ((with_reducible apply State.refreshCands_step); rfl)
    | with_reducible apply WithinNext.ok
    | exact WithinNext.fault _
    | ((with_reducible apply Within.stepEach); intro _ _)
    | split
    | extract_lets
    | with_reducible intro _
    | with_reducible show Within _ _ (ite _ _ _)
    | ((with_reducible show Within _ _ (id _)); exact Within.refl _ _)
    | dsimp +zetaDelta only

theorem execDoorbellRead_next {a0 : _} {m : Nat} {s : State} (c : 939704324 &&& m = 939704324) :
    WithinNext m s (execDoorbellRead a0 s) := WithinNext.mono (execDoorbellRead_within a0 s) c

theorem execListAdmit_within : ∀ a0 (s : State), WithinNext 939712532 s (execListAdmit a0 s) := by
  intro a0 s
  unfold execListAdmit
  repeat' first
    | with_reducible exact Within.refl _ _
    | assumption
    | ((with_reducible apply State.resumeOn_step); rfl)
    | ((with_reducible apply State.setEngine_step); rfl)
    | ((with_reducible apply State.admitList_step); rfl)
    | ((with_reducible apply State.refreshCands_step); rfl)
    | with_reducible apply WithinNext.ok
    | exact WithinNext.fault _
    | ((with_reducible apply Within.stepEach); intro _ _)
    | split
    | extract_lets
    | with_reducible intro _
    | with_reducible show Within _ _ (ite _ _ _)
    | ((with_reducible show Within _ _ (id _)); exact Within.refl _ _)
    | dsimp +zetaDelta only

theorem execListAdmit_next {a0 : _} {m : Nat} {s : State} (c : 939712532 &&& m = 939712532) :
    WithinNext m s (execListAdmit a0 s) := WithinNext.mono (execListAdmit_within a0 s) c


/-! ## Machine/PalMove.lean -/

theorem State.updRun_within : ∀ (s : State) a1 a2, Within 16384 s (State.updRun s a1 a2) := by
  intro s a1 a2
  unfold State.updRun
  repeat' first
    | with_reducible exact Within.refl _ _
    | assumption
    | ((with_reducible apply State.setEngine_step); rfl)
    | ((with_reducible apply Within.stepEach); intro _ _)
    | split
    | extract_lets
    | with_reducible intro _
    | with_reducible show Within _ _ (ite _ _ _)
    | ((with_reducible show Within _ _ (id _)); exact Within.refl _ _)
    | dsimp +zetaDelta only

theorem State.updRun_step {a1 : _} {a2 : _} {m : Nat} {r s : State} (c : 16384 &&& m = 16384) (h : Within m r s) :
    Within m r (State.updRun s a1 a2) := Within.step (State.updRun_within s a1 a2) c h

theorem State.nextCmd_within : ∀ (s : State) a1, Within 16384 s (State.nextCmd s a1) := by
  intro s a1
  unfold State.nextCmd
  repeat' first
    | with_reducible exact Within.refl _ _
    | assumption
    | ((with_reducible apply State.updRun_step); rfl)
    | ((with_reducible apply Within.stepEach); intro _ _)
    | split
    | extract_lets
    | with_reducible intro _
    | with_reducible show Within _ _ (ite _ _ _)
    | ((with_reducible show Within _ _ (id _)); exact Within.refl _ _)
    | dsimp +zetaDelta only

theorem State.nextCmd_step {a1 : _} {m : Nat} {r s : State} (c : 16384 &&& m = 16384) (h : Within m r s) :
    Within m r (State.nextCmd s a1) := Within.step (State.nextCmd_within s a1) c h

theorem State.badCmd_within : ∀ (s : State) a1 a2, Within 9529647124 s (State.badCmd s a1 a2) := by
  intro s a1 a2
  unfold State.badCmd
  repeat' first
    | with_reducible exact Within.refl _ _
    | assumption
    | ((with_reducible apply State.listFail_step); rfl)
    | ((with_reducible apply Within.stepEach); intro _ _)
    | split
    | extract_lets
    | with_reducible intro _
    | with_reducible show Within _ _ (ite _ _ _)
    | ((with_reducible show Within _ _ (id _)); exact Within.refl _ _)
    | dsimp +zetaDelta only

theorem State.badCmd_step {a1 : _} {a2 : _} {m : Nat} {r s : State} (c : 9529647124 &&& m = 9529647124) (h : Within m r s) :
    Within m r (State.badCmd s a1 a2) := Within.step (State.badCmd_within s a1 a2) c h

theorem State.countMove_within : ∀ (s : State) a1 a2 a3 a4 a5, Within 131076 s (State.countMove s a1 a2 a3 a4 a5) := by
  intro s a1 a2 a3 a4 a5
  unfold State.countMove
  repeat' first
    | with_reducible exact Within.refl _ _
    | assumption
    | ((with_reducible apply State.heatPage_step); rfl)
    | ((with_reducible apply State.cxlBytesCount_step); rfl)
    | ((with_reducible apply Within.stepEach); intro _ _)
    | split
    | extract_lets
    | with_reducible intro _
    | with_reducible show Within _ _ (ite _ _ _)
    | ((with_reducible show Within _ _ (id _)); exact Within.refl _ _)
    | dsimp +zetaDelta only

theorem State.countMove_step {a1 : _} {a2 : _} {a3 : _} {a4 : _} {a5 : _} {m : Nat} {r s : State} (c : 131076 &&& m = 131076) (h : Within m r s) :
    Within m r (State.countMove s a1 a2 a3 a4 a5) := Within.step (State.countMove_within s a1 a2 a3 a4 a5) c h

theorem State.issueCmd_step {e op : Nat} {ms : List Word → List Nat} {f : Running → List Word → State → State} {m : Nat} {r s : State} (c : 9530695700 &&& m = 9530695700)
    (k : ∀ a b x, Within m x (f a b x)) (h : Within m r s) : Within m r (s.issueCmd e op ms f) := by
  refine Within.step (v := m) ?_ (Nat.and_self m) h
  unfold State.issueCmd
  repeat' first
    | with_reducible exact Within.refl _ _
    | assumption
    | (refine Within.step (k _ _ _) (Nat.and_self _) ?_)
    | ((with_reducible apply State.nextCmd_step); exact Within.covers (by decide) c)
    | ((with_reducible apply State.afterOffline_step); exact Within.covers (by decide) c)
    | ((with_reducible apply State.badCmd_step); exact Within.covers (by decide) c)
    | ((with_reducible apply State.quiesce_step); exact Within.covers (by decide) c)
    | split
    | extract_lets


/-! ## Machine/PalCtl.lean -/

theorem State.addMove_within : ∀ (s : State) a1 a2, Within 16384 s (State.addMove s a1 a2) := by
  intro s a1 a2
  unfold State.addMove
  repeat' first
    | with_reducible exact Within.refl _ _
    | assumption
    | ((with_reducible apply State.nextCmd_step); rfl)
    | ((with_reducible apply State.updRun_step); rfl)
    | ((with_reducible apply Within.stepEach); intro _ _)
    | split
    | extract_lets
    | with_reducible intro _
    | with_reducible show Within _ _ (ite _ _ _)
    | ((with_reducible show Within _ _ (id _)); exact Within.refl _ _)
    | dsimp +zetaDelta only

theorem State.addMove_step {a1 : _} {a2 : _} {m : Nat} {r s : State} (c : 16384 &&& m = 16384) (h : Within m r s) :
    Within m r (State.addMove s a1 a2) := Within.step (State.addMove_within s a1 a2) c h

theorem State.journal_within : ∀ (s : State) a1 a2, Within 8590098432 s (State.journal s a1 a2) := by
  intro s a1 a2
  unfold State.journal
  repeat' first
    | with_reducible exact Within.refl _ _
    | assumption
    | ((with_reducible apply State.writeBytes_step); rfl)
    | ((with_reducible apply Within.stepEach); intro _ _)
    | split
    | extract_lets
    | ((fail_if_success with_reducible apply Within.upd_pending); (with_reducible apply Within.upd_free); rfl)
    | with_reducible intro _
    | with_reducible show Within _ _ (ite _ _ _)
    | ((with_reducible show Within _ _ (id _)); exact Within.refl _ _)
    | dsimp +zetaDelta only
    | ((fail_if_success with_reducible apply Within.upd_pending); (with_reducible apply Within.upd_free); rfl)

theorem State.journal_step {a1 : _} {a2 : _} {m : Nat} {r s : State} (c : 8590098432 &&& m = 8590098432) (h : Within m r s) :
    Within m r (State.journal s a1 a2) := Within.step (State.journal_within s a1 a2) c h

theorem State.notifyAnswered_within : ∀ (s : State) a1 a2 a3, Within 9530695700 s (State.notifyAnswered s a1 a2 a3) := by
  intro s a1 a2 a3
  unfold State.notifyAnswered
  repeat' first
    | with_reducible exact Within.refl _ _
    | assumption
    | ((with_reducible apply State.afterOffline_step); rfl)
    | ((with_reducible apply State.failRunning_step); rfl)
    | ((with_reducible apply State.journal_step); rfl)
    | ((with_reducible apply State.setEngine_step); rfl)
    | ((with_reducible apply State.listFail_step); rfl)
    | ((with_reducible apply State.updRun_step); rfl)
    | ((with_reducible apply Within.stepEach); intro _ _)
    | split
    | extract_lets
    | with_reducible intro _
    | with_reducible show Within _ _ (ite _ _ _)
    | ((with_reducible show Within _ _ (id _)); exact Within.refl _ _)
    | dsimp +zetaDelta only

theorem State.notifyAnswered_step {a1 : _} {a2 : _} {a3 : _} {m : Nat} {r s : State} (c : 9530695700 &&& m = 9530695700) (h : Within m r s) :
    Within m r (State.notifyAnswered s a1 a2 a3) := Within.step (State.notifyAnswered_within s a1 a2 a3) c h

theorem State.placeData_within : ∀ (s : State) a1 a2 a3, Within 16384 s (State.placeData s a1 a2 a3) := by
  intro s a1 a2 a3
  unfold State.placeData
  repeat' first
    | with_reducible exact Within.refl _ _
    | assumption
    | ((with_reducible apply State.setEngine_step); rfl)
    | ((with_reducible apply Within.stepEach); intro _ _)
    | split
    | extract_lets
    | with_reducible intro _
    | with_reducible show Within _ _ (ite _ _ _)
    | ((with_reducible show Within _ _ (id _)); exact Within.refl _ _)
    | dsimp +zetaDelta only

theorem State.placeData_step {a1 : _} {a2 : _} {a3 : _} {m : Nat} {r s : State} (c : 16384 &&& m = 16384) (h : Within m r s) :
    Within m r (State.placeData s a1 a2 a3) := Within.step (State.placeData_within s a1 a2 a3) c h

theorem State.sendNotify_within : ∀ (s : State) a1 a2 a3, Within 8590180368 s (State.sendNotify s a1 a2 a3) := by
  intro s a1 a2 a3
  unfold State.sendNotify
  repeat' first
    | with_reducible exact Within.refl _ _
    | assumption
    | ((with_reducible apply State.issue_step); rfl)
    | ((with_reducible apply State.nextCmd_step); rfl)
    | ((with_reducible apply State.journal_step); rfl)
    | ((with_reducible apply State.updRun_step); rfl)
    | ((with_reducible apply Within.stepEach); intro _ _)
    | split
    | extract_lets
    | with_reducible intro _
    | with_reducible show Within _ _ (ite _ _ _)
    | ((with_reducible show Within _ _ (id _)); exact Within.refl _ _)
    | dsimp +zetaDelta only

theorem State.sendNotify_step {a1 : _} {a2 : _} {a3 : _} {m : Nat} {r s : State} (c : 8590180368 &&& m = 8590180368) (h : Within m r s) :
    Within m r (State.sendNotify s a1 a2 a3) := Within.step (State.sendNotify_within s a1 a2 a3) c h

theorem State.startFence_within : ∀ (s : State) a1, Within 16384 s (State.startFence s a1) := by
  intro s a1
  unfold State.startFence
  repeat' first
    | with_reducible exact Within.refl _ _
    | assumption
    | ((with_reducible apply State.updRun_step); rfl)
    | ((with_reducible apply Within.stepEach); intro _ _)
    | split
    | extract_lets
    | with_reducible intro _
    | with_reducible show Within _ _ (ite _ _ _)
    | ((with_reducible show Within _ _ (id _)); exact Within.refl _ _)
    | dsimp +zetaDelta only

theorem State.startFence_step {a1 : _} {m : Nat} {r s : State} (c : 16384 &&& m = 16384) (h : Within m r s) :
    Within m r (State.startFence s a1) := Within.step (State.startFence_within s a1) c h

theorem State.unknownCmd_within : ∀ (s : State) a1, Within 9530695700 s (State.unknownCmd s a1) := by
  intro s a1
  unfold State.unknownCmd
  repeat' first
    | with_reducible exact Within.refl _ _
    | assumption
    | ((with_reducible apply State.afterOffline_step); rfl)
    | ((with_reducible apply State.badCmd_step); rfl)
    | ((with_reducible apply Within.stepEach); intro _ _)
    | split
    | extract_lets
    | with_reducible intro _
    | with_reducible show Within _ _ (ite _ _ _)
    | ((with_reducible show Within _ _ (id _)); exact Within.refl _ _)
    | dsimp +zetaDelta only

theorem State.unknownCmd_step {a1 : _} {m : Nat} {r s : State} (c : 9530695700 &&& m = 9530695700) (h : Within m r s) :
    Within m r (State.unknownCmd s a1) := Within.step (State.unknownCmd_within s a1) c h

theorem execPalEnd_within : ∀ a0 (s : State), WithinNext 9530695700 s (execPalEnd a0 s) := by
  intro a0 s
  unfold execPalEnd
  repeat' first
    | with_reducible exact Within.refl _ _
    | assumption
    | ((with_reducible apply State.startFence_step); rfl)
    | ((with_reducible apply State.issueCmd_step); rfl)
    | with_reducible apply WithinNext.ok
    | exact WithinNext.fault _
    | ((with_reducible apply Within.stepEach); intro _ _)
    | split
    | extract_lets
    | with_reducible intro _
    | with_reducible show Within _ _ (ite _ _ _)
    | ((with_reducible show Within _ _ (id _)); exact Within.refl _ _)
    | dsimp +zetaDelta only

theorem execPalEnd_next {a0 : _} {m : Nat} {s : State} (c : 9530695700 &&& m = 9530695700) :
    WithinNext m s (execPalEnd a0 s) := WithinNext.mono (execPalEnd_within a0 s) c

theorem execMoveReadReturn_within : ∀ a0 a1 (s : State), WithinNext 9530695700 s (execMoveReadReturn a0 a1 s) := by
  intro a0 a1 s
  unfold execMoveReadReturn
  repeat' first
    | with_reducible exact Within.refl _ _
    | assumption
    | ((with_reducible apply State.afterOffline_step); rfl)
    | ((with_reducible apply State.countMove_step); rfl)
    | ((with_reducible apply State.quiesce_step); rfl)
    | ((with_reducible apply State.listFail_step); rfl)
    | ((with_reducible apply State.updRun_step); rfl)
    | ((with_reducible apply State.placeData_step); rfl)
    | with_reducible apply WithinNext.ok
    | exact WithinNext.fault _
    | ((with_reducible apply Within.stepEach); intro _ _)
    | split
    | extract_lets
    | with_reducible intro _
    | with_reducible show Within _ _ (ite _ _ _)
    | ((with_reducible show Within _ _ (id _)); exact Within.refl _ _)
    | dsimp +zetaDelta only

theorem execMoveReadReturn_next {a0 : _} {a1 : _} {m : Nat} {s : State} (c : 9530695700 &&& m = 9530695700) :
    WithinNext m s (execMoveReadReturn a0 a1 s) := WithinNext.mono (execMoveReadReturn_within a0 a1 s) c

theorem execFenceTimeout_within : ∀ a0 (s : State), WithinNext 17080442901 s (execFenceTimeout a0 s) := by
  intro a0 s
  unfold execFenceTimeout
  repeat' first
    | with_reducible exact Within.refl _ _
    | assumption
    | ((with_reducible apply State.afterOffline_step); rfl)
    | ((with_reducible apply State.listFail_step); rfl)
    | ((with_reducible apply State.reach_step); rfl)
    | with_reducible apply WithinNext.ok
    | exact WithinNext.fault _
    | ((with_reducible apply Within.stepEach); intro _ _)
    | split
    | extract_lets
    | with_reducible intro _
    | with_reducible show Within _ _ (ite _ _ _)
    | ((with_reducible show Within _ _ (id _)); exact Within.refl _ _)
    | dsimp +zetaDelta only

theorem execFenceTimeout_next {a0 : _} {m : Nat} {s : State} (c : 17080442901 &&& m = 17080442901) :
    WithinNext m s (execFenceTimeout a0 s) := WithinNext.mono (execFenceTimeout_within a0 s) c

theorem execFenceComplete_within : ∀ a0 (s : State), WithinNext 9530695700 s (execFenceComplete a0 s) := by
  intro a0 s
  unfold execFenceComplete
  repeat' first
    | with_reducible exact Within.refl _ _
    | assumption
    | ((with_reducible apply State.listDone_step); rfl)
    | ((with_reducible apply State.afterOffline_step); rfl)
    | ((with_reducible apply State.journal_step); rfl)
    | ((with_reducible apply State.quiesce_step); rfl)
    | ((with_reducible apply State.updRun_step); rfl)
    | with_reducible apply WithinNext.ok
    | exact WithinNext.fault _
    | ((with_reducible apply Within.stepEach); intro _ _)
    | split
    | extract_lets
    | with_reducible intro _
    | with_reducible show Within _ _ (ite _ _ _)
    | ((with_reducible show Within _ _ (id _)); exact Within.refl _ _)
    | dsimp +zetaDelta only

theorem execFenceComplete_next {a0 : _} {m : Nat} {s : State} (c : 9530695700 &&& m = 9530695700) :
    WithinNext m s (execFenceComplete a0 s) := WithinNext.mono (execFenceComplete_within a0 s) c

theorem execPalNotify_within : ∀ a0 (s : State), WithinNext 9530761236 s (execPalNotify a0 s) := by
  intro a0 s
  unfold execPalNotify
  repeat' first
    | with_reducible exact Within.refl _ _
    | assumption
    | ((with_reducible apply State.badCmd_step); rfl)
    | ((with_reducible apply State.sendNotify_step); rfl)
    | ((with_reducible apply State.issueCmd_step); rfl)
    | with_reducible apply WithinNext.ok
    | exact WithinNext.fault _
    | ((with_reducible apply Within.stepEach); intro _ _)
    | split
    | extract_lets
    | with_reducible intro _
    | with_reducible show Within _ _ (ite _ _ _)
    | ((with_reducible show Within _ _ (id _)); exact Within.refl _ _)
    | dsimp +zetaDelta only

theorem execPalNotify_next {a0 : _} {m : Nat} {s : State} (c : 9530761236 &&& m = 9530761236) :
    WithinNext m s (execPalNotify a0 s) := WithinNext.mono (execPalNotify_within a0 s) c

theorem execPalBegin_within : ∀ a0 (s : State), WithinNext 9530695700 s (execPalBegin a0 s) := by
  intro a0 s
  unfold execPalBegin
  repeat' first
    | with_reducible exact Within.refl _ _
    | assumption
    | ((with_reducible apply State.nextCmd_step); rfl)
    | ((with_reducible apply State.journal_step); rfl)
    | ((with_reducible apply State.updRun_step); rfl)
    | ((with_reducible apply State.issueCmd_step); rfl)
    | with_reducible apply WithinNext.ok
    | exact WithinNext.fault _
    | ((with_reducible apply Within.stepEach); intro _ _)
    | split
    | extract_lets
    | with_reducible intro _
    | with_reducible show Within _ _ (ite _ _ _)
    | ((with_reducible show Within _ _ (id _)); exact Within.refl _ _)
    | dsimp +zetaDelta only

theorem execPalBegin_next {a0 : _} {m : Nat} {s : State} (c : 9530695700 &&& m = 9530695700) :
    WithinNext m s (execPalBegin a0 s) := WithinNext.mono (execPalBegin_within a0 s) c

theorem execPalFence_within : ∀ a0 (s : State), WithinNext 9530695700 s (execPalFence a0 s) := by
  intro a0 s
  unfold execPalFence
  repeat' first
    | with_reducible exact Within.refl _ _
    | assumption
    | ((with_reducible apply State.badCmd_step); rfl)
    | ((with_reducible apply State.startFence_step); rfl)
    | ((with_reducible apply State.issueCmd_step); rfl)
    | with_reducible apply WithinNext.ok
    | exact WithinNext.fault _
    | ((with_reducible apply Within.stepEach); intro _ _)
    | split
    | extract_lets
    | with_reducible intro _
    | with_reducible show Within _ _ (ite _ _ _)
    | ((with_reducible show Within _ _ (id _)); exact Within.refl _ _)
    | dsimp +zetaDelta only

theorem execPalFence_next {a0 : _} {m : Nat} {s : State} (c : 9530695700 &&& m = 9530695700) :
    WithinNext m s (execPalFence a0 s) := WithinNext.mono (execPalFence_within a0 s) c

theorem execPalCkpt_within : ∀ a0 (s : State), WithinNext 9530695700 s (execPalCkpt a0 s) := by
  intro a0 s
  unfold execPalCkpt
  repeat' first
    | with_reducible exact Within.refl _ _
    | assumption
    | ((with_reducible apply State.badCmd_step); rfl)
    | ((with_reducible apply State.nextCmd_step); rfl)
    | ((with_reducible apply State.journal_step); rfl)
    | ((with_reducible apply State.listFail_step); rfl)
    | ((with_reducible apply State.updRun_step); rfl)
    | ((with_reducible apply State.issueCmd_step); rfl)
    | with_reducible apply WithinNext.ok
    | exact WithinNext.fault _
    | ((with_reducible apply Within.stepEach); intro _ _)
    | split
    | extract_lets
    | with_reducible intro _
    | with_reducible show Within _ _ (ite _ _ _)
    | ((with_reducible show Within _ _ (id _)); exact Within.refl _ _)
    | dsimp +zetaDelta only

theorem execPalCkpt_next {a0 : _} {m : Nat} {s : State} (c : 9530695700 &&& m = 9530695700) :
    WithinNext m s (execPalCkpt a0 s) := WithinNext.mono (execPalCkpt_within a0 s) c

theorem execPalNop_within : ∀ a0 (s : State), WithinNext 9530695700 s (execPalNop a0 s) := by
  intro a0 s
  unfold execPalNop
  repeat' first
    | with_reducible exact Within.refl _ _
    | assumption
    | ((with_reducible apply State.unknownCmd_step); rfl)
    | ((with_reducible apply State.nextCmd_step); rfl)
    | ((with_reducible apply State.issueCmd_step); rfl)
    | with_reducible apply WithinNext.ok
    | exact WithinNext.fault _
    | ((with_reducible apply Within.stepEach); intro _ _)
    | split
    | extract_lets
    | with_reducible intro _
    | with_reducible show Within _ _ (ite _ _ _)
    | ((with_reducible show Within _ _ (id _)); exact Within.refl _ _)
    | dsimp +zetaDelta only

theorem execPalNop_next {a0 : _} {m : Nat} {s : State} (c : 9530695700 &&& m = 9530695700) :
    WithinNext m s (execPalNop a0 s) := WithinNext.mono (execPalNop_within a0 s) c

theorem execPalMove_within : ∀ a0 (s : State), WithinNext 9530695700 s (execPalMove a0 s) := by
  intro a0 s
  unfold execPalMove
  repeat' first
    | with_reducible exact Within.refl _ _
    | assumption
    | ((with_reducible apply State.addMove_step); rfl)
    | ((with_reducible apply State.badCmd_step); rfl)
    | ((with_reducible apply State.nextCmd_step); rfl)
    | ((with_reducible apply State.placeData_step); rfl)
    | ((with_reducible apply State.issueCmd_step); rfl)
    | with_reducible apply WithinNext.ok
    | exact WithinNext.fault _
    | ((with_reducible apply Within.stepEach); intro _ _)
    | split
    | extract_lets
    | with_reducible intro _
    | with_reducible show Within _ _ (ite _ _ _)
    | ((with_reducible show Within _ _ (id _)); exact Within.refl _ _)
    | dsimp +zetaDelta only

theorem execPalMove_next {a0 : _} {m : Nat} {s : State} (c : 9530695700 &&& m = 9530695700) :
    WithinNext m s (execPalMove a0 s) := WithinNext.mono (execPalMove_within a0 s) c

theorem execMoveWritePerformed_within : ∀ a0 a1 (s : State), WithinNext 9530695700 s (execMoveWritePerformed a0 a1 s) := by
  intro a0 a1 s
  unfold execMoveWritePerformed
  repeat' first
    | with_reducible exact Within.refl _ _
    | assumption
    | ((with_reducible apply State.afterOffline_step); rfl)
    | ((with_reducible apply State.writeBytes_step); rfl)
    | ((with_reducible apply State.journal_step); rfl)
    | ((with_reducible apply State.countMove_step); rfl)
    | ((with_reducible apply State.quiesce_step); rfl)
    | ((with_reducible apply State.listFail_step); rfl)
    | ((with_reducible apply State.updRun_step); rfl)
    | with_reducible apply WithinNext.ok
    | exact WithinNext.fault _
    | ((with_reducible apply Within.stepEach); intro _ _)
    | split
    | extract_lets
    | with_reducible intro _
    | with_reducible show Within _ _ (ite _ _ _)
    | ((with_reducible show Within _ _ (id _)); exact Within.refl _ _)
    | dsimp +zetaDelta only

theorem execMoveWritePerformed_next {a0 : _} {a1 : _} {m : Nat} {s : State} (c : 9530695700 &&& m = 9530695700) :
    WithinNext m s (execMoveWritePerformed a0 a1 s) := WithinNext.mono (execMoveWritePerformed_within a0 a1 s) c

theorem execNotifyResponse_within : ∀ a0 (s : State), WithinNext 9530695700 s (execNotifyResponse a0 s) := by
  intro a0 s
  unfold execNotifyResponse
  repeat' first
    | with_reducible exact Within.refl _ _
    | assumption
    | ((with_reducible apply State.updDie_step); rfl)
    | ((with_reducible apply State.notifyAnswered_step); rfl)
    | with_reducible apply WithinNext.ok
    | exact WithinNext.fault _
    | ((with_reducible apply Within.stepEach); intro _ _)
    | split
    | extract_lets
    | with_reducible intro _
    | with_reducible show Within _ _ (ite _ _ _)
    | ((with_reducible show Within _ _ (id _)); exact Within.refl _ _)
    | dsimp +zetaDelta only

theorem execNotifyResponse_next {a0 : _} {m : Nat} {s : State} (c : 9530695700 &&& m = 9530695700) :
    WithinNext m s (execNotifyResponse a0 s) := WithinNext.mono (execNotifyResponse_within a0 s) c


/-! ## Machine/PalMath.lean -/

theorem execPalRow_within : ∀ a0 (s : State), WithinNext 9530695700 s (execPalRow a0 s) := by
  intro a0 s
  unfold execPalRow
  repeat' first
    | with_reducible exact Within.refl _ _
    | assumption
    | ((with_reducible apply State.bump_step); rfl)
    | ((with_reducible apply State.badCmd_step); rfl)
    | ((with_reducible apply State.nextCmd_step); rfl)
    | ((with_reducible apply State.setEngine_step); rfl)
    | ((with_reducible apply State.issueCmd_step); rfl)
    | with_reducible apply WithinNext.ok
    | exact WithinNext.fault _
    | ((with_reducible apply Within.stepEach); intro _ _)
    | split
    | extract_lets
    | with_reducible intro _
    | with_reducible show Within _ _ (ite _ _ _)
    | ((with_reducible show Within _ _ (id _)); exact Within.refl _ _)
    | dsimp +zetaDelta only

theorem execPalRow_next {a0 : _} {m : Nat} {s : State} (c : 9530695700 &&& m = 9530695700) :
    WithinNext m s (execPalRow a0 s) := WithinNext.mono (execPalRow_within a0 s) c

theorem execPalElem_within : ∀ a0 (s : State), WithinNext 9530695700 s (execPalElem a0 s) := by
  intro a0 s
  unfold execPalElem
  repeat' first
    | with_reducible exact Within.refl _ _
    | assumption
    | ((with_reducible apply State.badCmd_step); rfl)
    | ((with_reducible apply State.nextCmd_step); rfl)
    | ((with_reducible apply State.setEngine_step); rfl)
    | ((with_reducible apply State.issueCmd_step); rfl)
    | with_reducible apply WithinNext.ok
    | exact WithinNext.fault _
    | ((with_reducible apply Within.stepEach); intro _ _)
    | split
    | extract_lets
    | with_reducible intro _
    | with_reducible show Within _ _ (ite _ _ _)
    | ((with_reducible show Within _ _ (id _)); exact Within.refl _ _)
    | dsimp +zetaDelta only

theorem execPalElem_next {a0 : _} {m : Nat} {s : State} (c : 9530695700 &&& m = 9530695700) :
    WithinNext m s (execPalElem a0 s) := WithinNext.mono (execPalElem_within a0 s) c

theorem execPalConvert_within : ∀ a0 (s : State), WithinNext 9530695700 s (execPalConvert a0 s) := by
  intro a0 s
  unfold execPalConvert
  repeat' first
    | with_reducible exact Within.refl _ _
    | assumption
    | ((with_reducible apply State.badCmd_step); rfl)
    | ((with_reducible apply State.nextCmd_step); rfl)
    | ((with_reducible apply State.setEngine_step); rfl)
    | ((with_reducible apply State.issueCmd_step); rfl)
    | with_reducible apply WithinNext.ok
    | exact WithinNext.fault _
    | ((with_reducible apply Within.stepEach); intro _ _)
    | split
    | extract_lets
    | with_reducible intro _
    | with_reducible show Within _ _ (ite _ _ _)
    | ((with_reducible show Within _ _ (id _)); exact Within.refl _ _)
    | dsimp +zetaDelta only

theorem execPalConvert_next {a0 : _} {m : Nat} {s : State} (c : 9530695700 &&& m = 9530695700) :
    WithinNext m s (execPalConvert a0 s) := WithinNext.mono (execPalConvert_within a0 s) c

theorem execPalXlane_within : ∀ a0 (s : State), WithinNext 9530695700 s (execPalXlane a0 s) := by
  intro a0 s
  unfold execPalXlane
  repeat' first
    | with_reducible exact Within.refl _ _
    | assumption
    | ((with_reducible apply State.badCmd_step); rfl)
    | ((with_reducible apply State.nextCmd_step); rfl)
    | ((with_reducible apply State.setEngine_step); rfl)
    | ((with_reducible apply State.issueCmd_step); rfl)
    | with_reducible apply WithinNext.ok
    | exact WithinNext.fault _
    | ((with_reducible apply Within.stepEach); intro _ _)
    | split
    | extract_lets
    | with_reducible intro _
    | with_reducible show Within _ _ (ite _ _ _)
    | ((with_reducible show Within _ _ (id _)); exact Within.refl _ _)
    | dsimp +zetaDelta only

theorem execPalXlane_next {a0 : _} {m : Nat} {s : State} (c : 9530695700 &&& m = 9530695700) :
    WithinNext m s (execPalXlane a0 s) := WithinNext.mono (execPalXlane_within a0 s) c

end Sys2Proof.Machine
end

