-- ==== Sys2Proof/Laws/FrameEasel.lean ====
section
/-!
SUPPORT. Frames of Easel, peers, optics, Ethernet, time and host rings: one lemma per operation and command, which parts of the state it can change.
-/

set_option linter.all false
namespace Sys2Proof.Machine

/-! ## Machine/EaselOps.lean -/

theorem State.abandonMoves_within : ∀ (s : State) a1, Within 131072 s (State.abandonMoves s a1) := by
  intro s a1
  unfold State.abandonMoves
  repeat' first
    | with_reducible exact Within.refl _ _
    | assumption
    | ((with_reducible apply Within.stepEach); intro _ _)
    | split
    | extract_lets
    | ((fail_if_success with_reducible apply Within.upd_pending); (with_reducible apply Within.upd_mem); rfl)
    | with_reducible intro _
    | with_reducible show Within _ _ (ite _ _ _)
    | ((with_reducible show Within _ _ (id _)); exact Within.refl _ _)
    | dsimp +zetaDelta only
    | ((fail_if_success with_reducible apply Within.upd_pending); (with_reducible apply Within.upd_mem); rfl)

theorem State.abandonMoves_step {a1 : _} {m : Nat} {r s : State} (c : 131072 &&& m = 131072) (h : Within m r s) :
    Within m r (State.abandonMoves s a1) := Within.step (State.abandonMoves_within s a1) c h

theorem State.spillLost_within : ∀ (s : State) a1, Within 16 s (State.spillLost s a1) := by
  intro s a1
  unfold State.spillLost
  repeat' first
    | with_reducible exact Within.refl _ _
    | assumption
    | ((with_reducible apply Within.stepEach); intro _ _)
    | split
    | extract_lets
    | ((fail_if_success with_reducible apply Within.upd_pending); (with_reducible apply Within.upd_dp); rfl)
    | with_reducible intro _
    | with_reducible show Within _ _ (ite _ _ _)
    | ((with_reducible show Within _ _ (id _)); exact Within.refl _ _)
    | dsimp +zetaDelta only
    | ((fail_if_success with_reducible apply Within.upd_pending); (with_reducible apply Within.upd_dp); rfl)

theorem State.spillLost_step {a1 : _} {m : Nat} {r s : State} (c : 16 &&& m = 16) (h : Within m r s) :
    Within m r (State.spillLost s a1) := Within.step (State.spillLost_within s a1) c h

theorem State.pagesLost_within : ∀ (s : State) a1 a2, Within 131088 s (State.pagesLost s a1 a2) := by
  intro s a1 a2
  unfold State.pagesLost
  repeat' first
    | with_reducible exact Within.refl _ _
    | assumption
    | ((with_reducible apply State.spillLost_step); rfl)
    | ((with_reducible apply Within.stepEach); intro _ _)
    | split
    | extract_lets
    | ((fail_if_success with_reducible apply Within.upd_pending); (with_reducible apply Within.upd_mem); rfl)
    | with_reducible intro _
    | with_reducible show Within _ _ (ite _ _ _)
    | ((with_reducible show Within _ _ (id _)); exact Within.refl _ _)
    | dsimp +zetaDelta only
    | ((fail_if_success with_reducible apply Within.upd_pending); (with_reducible apply Within.upd_mem); rfl)

theorem State.pagesLost_step {a1 : _} {a2 : _} {m : Nat} {r s : State} (c : 131088 &&& m = 131088) (h : Within m r s) :
    Within m r (State.pagesLost s a1 a2) := Within.step (State.pagesLost_within s a1 a2) c h

theorem State.stackTo_within : ∀ (s : State) a1 a2, Within 939524102 s (State.stackTo s a1 a2) := by
  intro s a1 a2
  unfold State.stackTo
  repeat' first
    | with_reducible exact Within.refl _ _
    | assumption
    | ((with_reducible apply State.raise_step); rfl)
    | ((with_reducible apply State.setStack_step); rfl)
    | ((with_reducible apply Within.stepEach); intro _ _)
    | split
    | extract_lets
    | with_reducible intro _
    | with_reducible show Within _ _ (ite _ _ _)
    | ((with_reducible show Within _ _ (id _)); exact Within.refl _ _)
    | dsimp +zetaDelta only

theorem State.stackTo_step {a1 : _} {a2 : _} {m : Nat} {r s : State} (c : 939524102 &&& m = 939524102) (h : Within m r s) :
    Within m r (State.stackTo s a1 a2) := Within.step (State.stackTo_within s a1 a2) c h

theorem State.cxlFailed_within : ∀ (s : State) a1 a2, Within 131072 s (State.cxlFailed s a1 a2) := by
  intro s a1 a2
  unfold State.cxlFailed
  repeat' first
    | with_reducible exact Within.refl _ _
    | assumption
    | ((with_reducible apply Within.stepEach); intro _ _)
    | split
    | extract_lets
    | ((fail_if_success with_reducible apply Within.upd_pending); (with_reducible apply Within.upd_mem); rfl)
    | with_reducible intro _
    | with_reducible show Within _ _ (ite _ _ _)
    | ((with_reducible show Within _ _ (id _)); exact Within.refl _ _)
    | dsimp +zetaDelta only
    | ((fail_if_success with_reducible apply Within.upd_pending); (with_reducible apply Within.upd_mem); rfl)

theorem State.cxlFailed_step {a1 : _} {a2 : _} {m : Nat} {r s : State} (c : 131072 &&& m = 131072) (h : Within m r s) :
    Within m r (State.cxlFailed s a1 a2) := Within.step (State.cxlFailed_within s a1 a2) c h

theorem State.cxlEvent_within : ∀ (s : State) a1 a2, Within 939524100 s (State.cxlEvent s a1 a2) := by
  intro s a1 a2
  unfold State.cxlEvent
  repeat' first
    | with_reducible exact Within.refl _ _
    | assumption
    | ((with_reducible apply State.raise_step); rfl)
    | ((with_reducible apply Within.stepEach); intro _ _)
    | split
    | extract_lets
    | with_reducible intro _
    | with_reducible show Within _ _ (ite _ _ _)
    | ((with_reducible show Within _ _ (id _)); exact Within.refl _ _)
    | dsimp +zetaDelta only

theorem State.cxlEvent_step {a1 : _} {a2 : _} {m : Nat} {r s : State} (c : 939524100 &&& m = 939524100) (h : Within m r s) :
    Within m r (State.cxlEvent s a1 a2) := Within.step (State.cxlEvent_within s a1 a2) c h

theorem State.cxlDown_within : ∀ (s : State) a1 a2, Within 939655190 s (State.cxlDown s a1 a2) := by
  intro s a1 a2
  unfold State.cxlDown
  repeat' first
    | with_reducible exact Within.refl _ _
    | assumption
    | ((with_reducible apply State.cxlFailed_step); rfl)
    | ((with_reducible apply State.setF_step); rfl)
    | ((with_reducible apply State.pagesLost_step); rfl)
    | ((with_reducible apply State.setCxlSt_step); rfl)
    | ((with_reducible apply State.cxlEvent_step); rfl)
    | ((with_reducible apply Within.stepEach); intro _ _)
    | split
    | extract_lets
    | with_reducible intro _
    | with_reducible show Within _ _ (ite _ _ _)
    | ((with_reducible show Within _ _ (id _)); exact Within.refl _ _)
    | dsimp +zetaDelta only

theorem State.cxlDown_step {a1 : _} {a2 : _} {m : Nat} {r s : State} (c : 939655190 &&& m = 939655190) (h : Within m r s) :
    Within m r (State.cxlDown s a1 a2) := Within.step (State.cxlDown_within s a1 a2) c h

theorem State.setRetiring_within : ∀ (s : State) a1 a2, Within 131072 s (State.setRetiring s a1 a2) := by
  intro s a1 a2
  unfold State.setRetiring
  repeat' first
    | with_reducible exact Within.refl _ _
    | assumption
    | ((with_reducible apply Within.stepEach); intro _ _)
    | split
    | extract_lets
    | ((fail_if_success with_reducible apply Within.upd_pending); (with_reducible apply Within.upd_mem); rfl)
    | with_reducible intro _
    | with_reducible show Within _ _ (ite _ _ _)
    | ((with_reducible show Within _ _ (id _)); exact Within.refl _ _)
    | dsimp +zetaDelta only
    | ((fail_if_success with_reducible apply Within.upd_pending); (with_reducible apply Within.upd_mem); rfl)

theorem State.setRetiring_step {a1 : _} {a2 : _} {m : Nat} {r s : State} (c : 131072 &&& m = 131072) (h : Within m r s) :
    Within m r (State.setRetiring s a1 a2) := Within.step (State.setRetiring_within s a1 a2) c h

theorem State.startStack_within : ∀ a0 (s : State), Within 939655174 s (State.startStack a0 s) := by
  intro a0 s
  unfold State.startStack
  repeat' first
    | with_reducible exact Within.refl _ _
    | assumption
    | ((with_reducible apply State.setRetiring_step); rfl)
    | ((with_reducible apply State.stackTo_step); rfl)
    | ((with_reducible apply Within.stepEach); intro _ _)
    | split
    | extract_lets
    | with_reducible intro _
    | with_reducible show Within _ _ (ite _ _ _)
    | ((with_reducible show Within _ _ (id _)); exact Within.refl _ _)
    | dsimp +zetaDelta only

theorem State.startStack_step {a0 : _} {m : Nat} {r s : State} (c : 939655174 &&& m = 939655174) (h : Within m r s) :
    Within m r (State.startStack a0 s) := Within.step (State.startStack_within a0 s) c h

theorem State.beginRetire_within : ∀ (s : State) a1, Within 940703750 s (State.beginRetire s a1) := by
  intro s a1
  unfold State.beginRetire
  repeat' first
    | with_reducible exact Within.refl _ _
    | assumption
    | ((with_reducible apply State.startStack_step); rfl)
    | ((with_reducible apply State.setRetiring_step); rfl)
    | ((with_reducible apply State.requestMaint_step); rfl)
    | ((with_reducible apply Within.stepEach); intro _ _)
    | split
    | extract_lets
    | with_reducible intro _
    | with_reducible show Within _ _ (ite _ _ _)
    | ((with_reducible show Within _ _ (id _)); exact Within.refl _ _)
    | dsimp +zetaDelta only

theorem State.beginRetire_step {a1 : _} {m : Nat} {r s : State} (c : 940703750 &&& m = 940703750) (h : Within m r s) :
    Within m r (State.beginRetire s a1) := Within.step (State.beginRetire_within s a1) c h

theorem State.retireBit_within : ∀ (s : State) a1, Within 940703750 s (State.retireBit s a1) := by
  intro s a1
  unfold State.retireBit
  repeat' first
    | with_reducible exact Within.refl _ _
    | assumption
    | ((with_reducible apply State.setF_step); rfl)
    | ((with_reducible apply State.beginRetire_step); rfl)
    | ((with_reducible apply Within.stepEach); intro _ _)
    | split
    | extract_lets
    | ((fail_if_success with_reducible apply Within.upd_pending); (with_reducible apply Within.upd_mem); rfl)
    | with_reducible intro _
    | with_reducible show Within _ _ (ite _ _ _)
    | ((with_reducible show Within _ _ (id _)); exact Within.refl _ _)
    | dsimp +zetaDelta only
    | ((fail_if_success with_reducible apply Within.upd_pending); (with_reducible apply Within.upd_mem); rfl)

theorem State.retireBit_step {a1 : _} {m : Nat} {r s : State} (c : 940703750 &&& m = 940703750) (h : Within m r s) :
    Within m r (State.retireBit s a1) := Within.step (State.retireBit_within s a1) c h

theorem State.migrate_within : ∀ (s : State) a1 a2 a3, Within 131072 s (State.migrate s a1 a2 a3) := by
  intro s a1 a2 a3
  unfold State.migrate
  repeat' first
    | with_reducible exact Within.refl _ _
    | assumption
    | ((with_reducible apply State.setPage_step); rfl)
    | ((with_reducible apply Within.stepEach); intro _ _)
    | split
    | extract_lets
    | with_reducible intro _
    | with_reducible show Within _ _ (ite _ _ _)
    | ((with_reducible show Within _ _ (id _)); exact Within.refl _ _)
    | dsimp +zetaDelta only

theorem State.migrate_step {a1 : _} {a2 : _} {a3 : _} {m : Nat} {r s : State} (c : 131072 &&& m = 131072) (h : Within m r s) :
    Within m r (State.migrate s a1 a2 a3) := Within.step (State.migrate_within s a1 a2 a3) c h

theorem State.demotePage_within : ∀ (s : State) a1 a2, Within 131072 s (State.demotePage s a1 a2) := by
  intro s a1 a2
  unfold State.demotePage
  repeat' first
    | with_reducible exact Within.refl _ _
    | assumption
    | ((with_reducible apply State.migrate_step); rfl)
    | ((with_reducible apply Within.stepEach); intro _ _)
    | split
    | extract_lets
    | with_reducible intro _
    | with_reducible show Within _ _ (ite _ _ _)
    | ((with_reducible show Within _ _ (id _)); exact Within.refl _ _)
    | dsimp +zetaDelta only

theorem State.demotePage_step {a1 : _} {a2 : _} {m : Nat} {r s : State} (c : 131072 &&& m = 131072) (h : Within m r s) :
    Within m r (State.demotePage s a1 a2) := Within.step (State.demotePage_within s a1 a2) c h

theorem State.demoteDie_within : ∀ (s : State) a1, Within 131072 s (State.demoteDie s a1) := by
  intro s a1
  unfold State.demoteDie
  repeat' first
    | with_reducible exact Within.refl _ _
    | assumption
    | ((with_reducible apply State.demotePage_step); rfl)
    | ((with_reducible apply Within.stepEach); intro _ _)
    | split
    | extract_lets
    | with_reducible intro _
    | with_reducible show Within _ _ (ite _ _ _)
    | ((with_reducible show Within _ _ (id _)); exact Within.refl _ _)
    | dsimp +zetaDelta only

theorem State.demoteDie_step {a1 : _} {m : Nat} {r s : State} (c : 131072 &&& m = 131072) (h : Within m r s) :
    Within m r (State.demoteDie s a1) := Within.step (State.demoteDie_within s a1) c h

theorem State.followPage_within : ∀ (s : State) a1, Within 131072 s (State.followPage s a1) := by
  intro s a1
  unfold State.followPage
  repeat' first
    | with_reducible exact Within.refl _ _
    | assumption
    | ((with_reducible apply State.migrate_step); rfl)
    | ((with_reducible apply Within.stepEach); intro _ _)
    | split
    | extract_lets
    | with_reducible intro _
    | with_reducible show Within _ _ (ite _ _ _)
    | ((with_reducible show Within _ _ (id _)); exact Within.refl _ _)
    | dsimp +zetaDelta only

theorem State.followPage_step {a1 : _} {m : Nat} {r s : State} (c : 131072 &&& m = 131072) (h : Within m r s) :
    Within m r (State.followPage s a1) := Within.step (State.followPage_within s a1) c h

theorem State.promotePage_within : ∀ (s : State) a1, Within 131072 s (State.promotePage s a1) := by
  intro s a1
  unfold State.promotePage
  repeat' first
    | with_reducible exact Within.refl _ _
    | assumption
    | ((with_reducible apply State.migrate_step); rfl)
    | ((with_reducible apply Within.stepEach); intro _ _)
    | split
    | extract_lets
    | with_reducible intro _
    | with_reducible show Within _ _ (ite _ _ _)
    | ((with_reducible show Within _ _ (id _)); exact Within.refl _ _)
    | dsimp +zetaDelta only

theorem State.promotePage_step {a1 : _} {m : Nat} {r s : State} (c : 131072 &&& m = 131072) (h : Within m r s) :
    Within m r (State.promotePage s a1) := Within.step (State.promotePage_within s a1) c h

theorem State.heatMoves_within : ∀ (s : State), Within 131072 s (State.heatMoves s) := by
  intro s
  unfold State.heatMoves
  repeat' first
    | with_reducible exact Within.refl _ _
    | assumption
    | ((with_reducible apply State.followPage_step); rfl)
    | ((with_reducible apply State.promotePage_step); rfl)
    | ((with_reducible apply Within.stepEach); intro _ _)
    | split
    | extract_lets
    | with_reducible intro _
    | with_reducible show Within _ _ (ite _ _ _)
    | ((with_reducible show Within _ _ (id _)); exact Within.refl _ _)
    | dsimp +zetaDelta only

theorem State.heatMoves_step  {m : Nat} {r s : State} (c : 131072 &&& m = 131072) (h : Within m r s) :
    Within m r (State.heatMoves s) := Within.step (State.heatMoves_within s) c h

theorem State.emptyPort_within : ∀ (s : State) a1, Within 131072 s (State.emptyPort s a1) := by
  intro s a1
  unfold State.emptyPort
  repeat' first
    | with_reducible exact Within.refl _ _
    | assumption
    | ((with_reducible apply State.migrate_step); rfl)
    | ((with_reducible apply Within.stepEach); intro _ _)
    | split
    | extract_lets
    | with_reducible intro _
    | with_reducible show Within _ _ (ite _ _ _)
    | ((with_reducible show Within _ _ (id _)); exact Within.refl _ _)
    | dsimp +zetaDelta only

theorem State.emptyPort_step {a1 : _} {m : Nat} {r s : State} (c : 131072 &&& m = 131072) (h : Within m r s) :
    Within m r (State.emptyPort s a1) := Within.step (State.emptyPort_within s a1) c h

theorem State.moveToPin_within : ∀ (s : State) a1, Within 131072 s (State.moveToPin s a1) := by
  intro s a1
  unfold State.moveToPin
  repeat' first
    | with_reducible exact Within.refl _ _
    | assumption
    | ((with_reducible apply State.migrate_step); rfl)
    | ((with_reducible apply Within.stepEach); intro _ _)
    | split
    | extract_lets
    | with_reducible intro _
    | with_reducible show Within _ _ (ite _ _ _)
    | ((with_reducible show Within _ _ (id _)); exact Within.refl _ _)
    | dsimp +zetaDelta only

theorem State.moveToPin_step {a1 : _} {m : Nat} {r s : State} (c : 131072 &&& m = 131072) (h : Within m r s) :
    Within m r (State.moveToPin s a1) := Within.step (State.moveToPin_within s a1) c h

theorem State.relieveCxl_within : ∀ (s : State), Within 939655172 s (State.relieveCxl s) := by
  intro s
  unfold State.relieveCxl
  repeat' first
    | with_reducible exact Within.refl _ _
    | assumption
    | ((with_reducible apply State.migrate_step); rfl)
    | ((with_reducible apply State.placement_step); rfl)
    | ((with_reducible apply Within.stepEach); intro _ _)
    | split
    | extract_lets
    | with_reducible intro _
    | with_reducible show Within _ _ (ite _ _ _)
    | ((with_reducible show Within _ _ (id _)); exact Within.refl _ _)
    | dsimp +zetaDelta only

theorem State.relieveCxl_step  {m : Nat} {r s : State} (c : 939655172 &&& m = 939655172) (h : Within m r s) :
    Within m r (State.relieveCxl s) := Within.step (State.relieveCxl_within s) c h

theorem State.easelMoves_within : ∀ (s : State), Within 939655172 s (State.easelMoves s) := by
  intro s
  unfold State.easelMoves
  repeat' first
    | with_reducible exact Within.refl _ _
    | assumption
    | ((with_reducible apply State.heatMoves_step); rfl)
    | ((with_reducible apply State.demoteDie_step); rfl)
    | ((with_reducible apply State.emptyPort_step); rfl)
    | ((with_reducible apply State.moveToPin_step); rfl)
    | ((with_reducible apply State.relieveCxl_step); rfl)
    | ((with_reducible apply Within.stepEach); intro _ _)
    | split
    | extract_lets
    | with_reducible intro _
    | with_reducible show Within _ _ (ite _ _ _)
    | ((with_reducible show Within _ _ (id _)); exact Within.refl _ _)
    | dsimp +zetaDelta only

theorem State.easelMoves_step  {m : Nat} {r s : State} (c : 939655172 &&& m = 939655172) (h : Within m r s) :
    Within m r (State.easelMoves s) := Within.step (State.easelMoves_within s) c h

theorem State.seriesPoisoned_within : ∀ (s : State) a1, Within 32768 s (State.seriesPoisoned s a1) := by
  intro s a1
  unfold State.seriesPoisoned
  repeat' first
    | with_reducible exact Within.refl _ _
    | assumption
    | ((with_reducible apply State.setHome_step); rfl)
    | ((with_reducible apply Within.stepEach); intro _ _)
    | split
    | extract_lets
    | with_reducible intro _
    | with_reducible show Within _ _ (ite _ _ _)
    | ((with_reducible show Within _ _ (id _)); exact Within.refl _ _)
    | dsimp +zetaDelta only

theorem State.seriesPoisoned_step {a1 : _} {m : Nat} {r s : State} (c : 32768 &&& m = 32768) (h : Within m r s) :
    Within m r (State.seriesPoisoned s a1) := Within.step (State.seriesPoisoned_within s a1) c h

theorem State.failStack_within : ∀ (s : State) a1, Within 939687942 s (State.failStack s a1) := by
  intro s a1
  unfold State.failStack
  repeat' first
    | with_reducible exact Within.refl _ _
    | assumption
    | ((with_reducible apply State.abandonMoves_step); rfl)
    | ((with_reducible apply State.setRetiring_step); rfl)
    | ((with_reducible apply State.seriesPoisoned_step); rfl)
    | ((with_reducible apply State.stackTo_step); rfl)
    | ((with_reducible apply Within.stepEach); intro _ _)
    | split
    | extract_lets
    | ((fail_if_success with_reducible apply Within.upd_pending); (with_reducible apply Within.upd_mem); rfl)
    | with_reducible intro _
    | with_reducible show Within _ _ (ite _ _ _)
    | ((with_reducible show Within _ _ (id _)); exact Within.refl _ _)
    | dsimp +zetaDelta only
    | ((fail_if_success with_reducible apply Within.upd_pending); (with_reducible apply Within.upd_mem); rfl)

theorem State.failStack_step {a1 : _} {m : Nat} {r s : State} (c : 939687942 &&& m = 939687942) (h : Within m r s) :
    Within m r (State.failStack s a1) := Within.step (State.failStack_within s a1) c h

theorem State.startCxlAdd_within : ∀ a0 (s : State), Within 939524102 s (State.startCxlAdd a0 s) := by
  intro a0 s
  unfold State.startCxlAdd
  repeat' first
    | with_reducible exact Within.refl _ _
    | assumption
    | ((with_reducible apply State.setCxlSt_step); rfl)
    | ((with_reducible apply State.cxlEvent_step); rfl)
    | ((with_reducible apply Within.stepEach); intro _ _)
    | split
    | extract_lets
    | with_reducible intro _
    | with_reducible show Within _ _ (ite _ _ _)
    | ((with_reducible show Within _ _ (id _)); exact Within.refl _ _)
    | dsimp +zetaDelta only

theorem State.startCxlAdd_step {a0 : _} {m : Nat} {r s : State} (c : 939524102 &&& m = 939524102) (h : Within m r s) :
    Within m r (State.startCxlAdd a0 s) := Within.step (State.startCxlAdd_within a0 s) c h

theorem State.lineBad_within : ∀ (s : State) a1, Within 948076550 s (State.lineBad s a1) := by
  intro s a1
  unfold State.lineBad
  repeat' first
    | with_reducible exact Within.refl _ _
    | assumption
    | ((with_reducible apply State.bump_step); rfl)
    | ((with_reducible apply State.partErr_step); rfl)
    | ((with_reducible apply State.failStack_step); rfl)
    | ((with_reducible apply Within.stepEach); intro _ _)
    | split
    | extract_lets
    | ((fail_if_success with_reducible apply Within.upd_pending); (with_reducible apply Within.upd_mem); rfl)
    | with_reducible intro _
    | with_reducible show Within _ _ (ite _ _ _)
    | ((with_reducible show Within _ _ (id _)); exact Within.refl _ _)
    | dsimp +zetaDelta only
    | ((fail_if_success with_reducible apply Within.upd_pending); (with_reducible apply Within.upd_mem); rfl)

theorem State.lineBad_step {a1 : _} {m : Nat} {r s : State} (c : 948076550 &&& m = 948076550) (h : Within m r s) :
    Within m r (State.lineBad s a1) := Within.step (State.lineBad_within s a1) c h

theorem State.setClass_within : ∀ (s : State) a1 a2, Within 131072 s (State.setClass s a1 a2) := by
  intro s a1 a2
  unfold State.setClass
  repeat' first
    | with_reducible exact Within.refl _ _
    | assumption
    | ((with_reducible apply Within.stepEach); intro _ _)
    | split
    | extract_lets
    | ((fail_if_success with_reducible apply Within.upd_pending); (with_reducible apply Within.upd_mem); rfl)
    | with_reducible intro _
    | with_reducible show Within _ _ (ite _ _ _)
    | ((with_reducible show Within _ _ (id _)); exact Within.refl _ _)
    | dsimp +zetaDelta only
    | ((fail_if_success with_reducible apply Within.upd_pending); (with_reducible apply Within.upd_mem); rfl)

theorem State.setClass_step {a1 : _} {a2 : _} {m : Nat} {r s : State} (c : 131072 &&& m = 131072) (h : Within m r s) :
    Within m r (State.setClass s a1 a2) := Within.step (State.setClass_within s a1 a2) c h

theorem State.startCxlRemove_within : ∀ a0 (s : State), Within 939655174 s (State.startCxlRemove a0 s) := by
  intro a0 s
  unfold State.startCxlRemove
  repeat' first
    | with_reducible exact Within.refl _ _
    | assumption
    | ((with_reducible apply State.emptyPort_step); rfl)
    | ((with_reducible apply State.setCxlSt_step); rfl)
    | ((with_reducible apply State.cxlEvent_step); rfl)
    | ((with_reducible apply Within.stepEach); intro _ _)
    | split
    | extract_lets
    | with_reducible intro _
    | with_reducible show Within _ _ (ite _ _ _)
    | ((with_reducible show Within _ _ (id _)); exact Within.refl _ _)
    | dsimp +zetaDelta only

theorem State.startCxlRemove_step {a0 : _} {m : Nat} {r s : State} (c : 939655174 &&& m = 939655174) (h : Within m r s) :
    Within m r (State.startCxlRemove a0 s) := Within.step (State.startCxlRemove_within a0 s) c h


/-! ## Machine/Easel.lean -/

theorem State.cxlClock_within : ∀ (s : State) a1 a2, Within 131072 s (State.cxlClock s a1 a2) := by
  intro s a1 a2
  unfold State.cxlClock
  repeat' first
    | with_reducible exact Within.refl _ _
    | assumption
    | ((with_reducible apply Within.stepEach); intro _ _)
    | split
    | extract_lets
    | ((fail_if_success with_reducible apply Within.upd_pending); (with_reducible apply Within.upd_mem); rfl)
    | with_reducible intro _
    | with_reducible show Within _ _ (ite _ _ _)
    | ((with_reducible show Within _ _ (id _)); exact Within.refl _ _)
    | dsimp +zetaDelta only
    | ((fail_if_success with_reducible apply Within.upd_pending); (with_reducible apply Within.upd_mem); rfl)

theorem State.cxlClock_step {a1 : _} {a2 : _} {m : Nat} {r s : State} (c : 131072 &&& m = 131072) (h : Within m r s) :
    Within m r (State.cxlClock s a1 a2) := Within.step (State.cxlClock_within s a1 a2) c h

theorem State.reclaimBlock_within : ∀ (s : State) a1, Within 4295491924 s (State.reclaimBlock s a1) := by
  intro s a1
  unfold State.reclaimBlock
  repeat' first
    | with_reducible exact Within.refl _ _
    | assumption
    | ((with_reducible apply State.setQueue_step); rfl)
    | ((with_reducible apply State.emptied_step); rfl)
    | ((with_reducible apply State.dropItem_step); rfl)
    | ((with_reducible apply Within.stepEach); intro _ _)
    | split
    | extract_lets
    | ((fail_if_success with_reducible apply Within.upd_pending); (with_reducible apply Within.upd_dp); rfl)
    | with_reducible intro _
    | with_reducible show Within _ _ (ite _ _ _)
    | ((with_reducible show Within _ _ (id _)); exact Within.refl _ _)
    | dsimp +zetaDelta only
    | ((fail_if_success with_reducible apply Within.upd_pending); (with_reducible apply Within.upd_dp); rfl)

theorem State.reclaimBlock_step {a1 : _} {m : Nat} {r s : State} (c : 4295491924 &&& m = 4295491924) (h : Within m r s) :
    Within m r (State.reclaimBlock s a1) := Within.step (State.reclaimBlock_within s a1) c h

theorem State.scrubLine_within : ∀ (s : State) a1 a2 a3, Within 948076550 s (State.scrubLine s a1 a2 a3) := by
  intro s a1 a2 a3
  unfold State.scrubLine
  repeat' first
    | with_reducible exact Within.refl _ _
    | assumption
    | ((with_reducible apply State.bump_step); rfl)
    | ((with_reducible apply State.lineBad_step); rfl)
    | ((with_reducible apply State.partErr_step); rfl)
    | ((with_reducible apply Within.stepEach); intro _ _)
    | split
    | extract_lets
    | with_reducible intro _
    | with_reducible show Within _ _ (ite _ _ _)
    | ((with_reducible show Within _ _ (id _)); exact Within.refl _ _)
    | dsimp +zetaDelta only

theorem State.scrubLine_step {a1 : _} {a2 : _} {a3 : _} {m : Nat} {r s : State} (c : 948076550 &&& m = 948076550) (h : Within m r s) :
    Within m r (State.scrubLine s a1 a2 a3) := Within.step (State.scrubLine_within s a1 a2 a3) c h

theorem State.scrubOn_within : ∀ (s : State) a1 a2 a3 a4, Within 948076550 s (State.scrubOn s a1 a2 a3 a4) := by
  intro s a1 a2 a3 a4
  unfold State.scrubOn
  repeat' first
    | with_reducible exact Within.refl _ _
    | assumption
    | ((with_reducible apply State.scrubLine_step); rfl)
    | ((with_reducible apply Within.stepEach); intro _ _)
    | split
    | extract_lets
    | with_reducible intro _
    | with_reducible show Within _ _ (ite _ _ _)
    | ((with_reducible show Within _ _ (id _)); exact Within.refl _ _)
    | dsimp +zetaDelta only

theorem State.scrubOn_step {a1 : _} {a2 : _} {a3 : _} {a4 : _} {m : Nat} {r s : State} (c : 948076550 &&& m = 948076550) (h : Within m r s) :
    Within m r (State.scrubOn s a1 a2 a3 a4) := Within.step (State.scrubOn_within s a1 a2 a3 a4) c h

theorem State.setLoad_within : ∀ (s : State) a1 a2, Within 2 s (State.setLoad s a1 a2) := by
  intro s a1 a2
  unfold State.setLoad
  repeat' first
    | with_reducible exact Within.refl _ _
    | assumption
    | ((with_reducible apply State.setF_step); rfl)
    | ((with_reducible apply Within.stepEach); intro _ _)
    | split
    | extract_lets
    | with_reducible intro _
    | with_reducible show Within _ _ (ite _ _ _)
    | ((with_reducible show Within _ _ (id _)); exact Within.refl _ _)
    | dsimp +zetaDelta only

theorem State.setLoad_step {a1 : _} {a2 : _} {m : Nat} {r s : State} (c : 2 &&& m = 2) (h : Within m r s) :
    Within m r (State.setLoad s a1 a2) := Within.step (State.setLoad_within s a1 a2) c h

theorem execCxlRemove_within : ∀ a0 (s : State), WithinNext 940703750 s (execCxlRemove a0 s) := by
  intro a0 s
  unfold execCxlRemove
  repeat' first
    | with_reducible exact Within.refl _ _
    | assumption
    | ((with_reducible apply State.requestMaint_step); rfl)
    | ((with_reducible apply State.gate_step); rfl)
    | ((with_reducible apply State.startCxlRemove_step); rfl)
    | with_reducible apply WithinNext.ok
    | exact WithinNext.fault _
    | ((with_reducible apply Within.stepEach); intro _ _)
    | split
    | extract_lets
    | with_reducible intro _
    | with_reducible show Within _ _ (ite _ _ _)
    | ((with_reducible show Within _ _ (id _)); exact Within.refl _ _)
    | dsimp +zetaDelta only

theorem execCxlRemove_next {a0 : _} {m : Nat} {s : State} (c : 940703750 &&& m = 940703750) :
    WithinNext m s (execCxlRemove a0 s) := WithinNext.mono (execCxlRemove_within a0 s) c

theorem reclaimSpill_within : ∀ a0 a1 a2 (s : State), Within 4295491924 s (reclaimSpill a0 a1 a2 s) := by
  intro a0 a1 a2 s
  induction a1 generalizing a0 a2 s with
  | zero => unfold reclaimSpill; exact Within.refl _ _
  | succ x ih =>
  unfold reclaimSpill
  repeat' first
    | with_reducible exact Within.refl _ _
    | assumption
    | (refine Within.step (ih _ _ _) (Nat.and_self _) ?_)
    | ((with_reducible apply State.reclaimBlock_step); rfl)
    | ((with_reducible apply Within.stepEach); intro _ _)
    | split
    | extract_lets
    | with_reducible intro _
    | with_reducible show Within _ _ (ite _ _ _)
    | ((with_reducible show Within _ _ (id _)); exact Within.refl _ _)
    | dsimp +zetaDelta only

theorem reclaimSpill_step {a0 : _} {a1 : _} {a2 : _} {m : Nat} {r s : State} (c : 4295491924 &&& m = 4295491924) (h : Within m r s) :
    Within m r (reclaimSpill a0 a1 a2 s) := Within.step (reclaimSpill_within a0 a1 a2 s) c h

theorem execSpillMaxWrite_within : ∀ a0 (s : State), WithinNext 5235016022 s (execSpillMaxWrite a0 s) := by
  intro a0 s
  unfold execSpillMaxWrite
  repeat' first
    | with_reducible exact Within.refl _ _
    | assumption
    | ((with_reducible apply State.setF_step); rfl)
    | ((with_reducible apply reclaimSpill_step); rfl)
    | ((with_reducible apply State.gate_step); rfl)
    | with_reducible apply WithinNext.ok
    | exact WithinNext.fault _
    | ((with_reducible apply Within.stepEach); intro _ _)
    | split
    | extract_lets
    | with_reducible intro _
    | with_reducible show Within _ _ (ite _ _ _)
    | ((with_reducible show Within _ _ (id _)); exact Within.refl _ _)
    | dsimp +zetaDelta only

theorem execSpillMaxWrite_next {a0 : _} {m : Nat} {s : State} (c : 5235016022 &&& m = 5235016022) :
    WithinNext m s (execSpillMaxWrite a0 s) := WithinNext.mono (execSpillMaxWrite_within a0 s) c

theorem execFixGibWrite_within : ∀ a0 a1 (s : State), WithinNext 939687942 s (execFixGibWrite a0 a1 s) := by
  intro a0 a1 s
  unfold execFixGibWrite
  repeat' first
    | with_reducible exact Within.refl _ _
    | assumption
    | ((with_reducible apply State.setF_step); rfl)
    | ((with_reducible apply State.zeroRange_step); rfl)
    | ((with_reducible apply State.gate_step); rfl)
    | ((with_reducible apply State.placement_step); rfl)
    | with_reducible apply WithinNext.ok
    | exact WithinNext.fault _
    | ((with_reducible apply Within.stepEach); intro _ _)
    | split
    | extract_lets
    | ((fail_if_success with_reducible apply Within.upd_pending); (with_reducible apply Within.upd_mem); rfl)
    | with_reducible intro _
    | with_reducible show Within _ _ (ite _ _ _)
    | ((with_reducible show Within _ _ (id _)); exact Within.refl _ _)
    | dsimp +zetaDelta only
    | ((fail_if_success with_reducible apply Within.upd_pending); (with_reducible apply Within.upd_mem); rfl)

theorem execFixGibWrite_next {a0 : _} {a1 : _} {m : Nat} {s : State} (c : 939687942 &&& m = 939687942) :
    WithinNext m s (execFixGibWrite a0 a1 s) := WithinNext.mono (execFixGibWrite_within a0 a1 s) c

theorem execCxlPortEnable_within : ∀ a0 a1 a2 (s : State), WithinNext 940703766 s (execCxlPortEnable a0 a1 a2 s) := by
  intro a0 a1 a2 s
  unfold execCxlPortEnable
  repeat' first
    | with_reducible exact Within.refl _ _
    | assumption
    | ((with_reducible apply State.cxlDown_step); rfl)
    | ((with_reducible apply State.setF_step); rfl)
    | ((with_reducible apply State.endMaint_step); rfl)
    | ((with_reducible apply State.requestMaint_step); rfl)
    | ((with_reducible apply State.emptyPort_step); rfl)
    | ((with_reducible apply State.cxlClock_step); rfl)
    | ((with_reducible apply State.startCxlAdd_step); rfl)
    | ((with_reducible apply State.gate_step); rfl)
    | with_reducible apply WithinNext.ok
    | exact WithinNext.fault _
    | ((with_reducible apply Within.stepEach); intro _ _)
    | split
    | extract_lets
    | with_reducible intro _
    | with_reducible show Within _ _ (ite _ _ _)
    | ((with_reducible show Within _ _ (id _)); exact Within.refl _ _)
    | dsimp +zetaDelta only

theorem execCxlPortEnable_next {a0 : _} {a1 : _} {a2 : _} {m : Nat} {s : State} (c : 940703766 &&& m = 940703766) :
    WithinNext m s (execCxlPortEnable a0 a1 a2 s) := WithinNext.mono (execCxlPortEnable_within a0 a1 a2 s) c

theorem execStackRetireRequest_within : ∀ a0 (s : State), WithinNext 940703750 s (execStackRetireRequest a0 s) := by
  intro a0 s
  unfold execStackRetireRequest
  repeat' first
    | with_reducible exact Within.refl _ _
    | assumption
    | ((with_reducible apply State.retireBit_step); rfl)
    | ((with_reducible apply State.gate_step); rfl)
    | with_reducible apply WithinNext.ok
    | exact WithinNext.fault _
    | ((with_reducible apply Within.stepEach); intro _ _)
    | split
    | extract_lets
    | with_reducible intro _
    | with_reducible show Within _ _ (ite _ _ _)
    | ((with_reducible show Within _ _ (id _)); exact Within.refl _ _)
    | dsimp +zetaDelta only

theorem execStackRetireRequest_next {a0 : _} {m : Nat} {s : State} (c : 940703750 &&& m = 940703750) :
    WithinNext m s (execStackRetireRequest a0 s) := WithinNext.mono (execStackRetireRequest_within a0 s) c

theorem execPageSetPin_within : ∀ a0 (s : State), WithinNext 939655174 s (execPageSetPin a0 s) := by
  intro a0 s
  unfold execPageSetPin
  repeat' first
    | with_reducible exact Within.refl _ _
    | assumption
    | ((with_reducible apply State.setF_step); rfl)
    | ((with_reducible apply State.gate_step); rfl)
    | ((with_reducible apply State.setPage_step); rfl)
    | ((with_reducible apply State.moveToPin_step); rfl)
    | with_reducible apply WithinNext.ok
    | exact WithinNext.fault _
    | ((with_reducible apply Within.stepEach); intro _ _)
    | split
    | extract_lets
    | with_reducible intro _
    | with_reducible show Within _ _ (ite _ _ _)
    | ((with_reducible show Within _ _ (id _)); exact Within.refl _ _)
    | dsimp +zetaDelta only

theorem execPageSetPin_next {a0 : _} {m : Nat} {s : State} (c : 939655174 &&& m = 939655174) :
    WithinNext m s (execPageSetPin a0 s) := WithinNext.mono (execPageSetPin_within a0 s) c

theorem State.zeroPage_within : ∀ (s : State) a1, Within 163840 s (State.zeroPage s a1) := by
  intro s a1
  unfold State.zeroPage
  repeat' first
    | with_reducible exact Within.refl _ _
    | assumption
    | ((with_reducible apply State.zeroRange_step); rfl)
    | ((with_reducible apply Within.stepEach); intro _ _)
    | split
    | extract_lets
    | with_reducible intro _
    | with_reducible show Within _ _ (ite _ _ _)
    | ((with_reducible show Within _ _ (id _)); exact Within.refl _ _)
    | dsimp +zetaDelta only

theorem State.zeroPage_step {a1 : _} {m : Nat} {r s : State} (c : 163840 &&& m = 163840) (h : Within m r s) :
    Within m r (State.zeroPage s a1) := Within.step (State.zeroPage_within s a1) c h

theorem execPageAlloc_within : ∀ a0 (s : State), WithinNext 939687942 s (execPageAlloc a0 s) := by
  intro a0 s
  unfold execPageAlloc
  repeat' first
    | with_reducible exact Within.refl _ _
    | assumption
    | ((with_reducible apply State.zeroPage_step); rfl)
    | ((with_reducible apply State.setF_step); rfl)
    | ((with_reducible apply State.gate_step); rfl)
    | ((with_reducible apply State.setPage_step); rfl)
    | with_reducible apply WithinNext.ok
    | exact WithinNext.fault _
    | ((with_reducible apply Within.stepEach); intro _ _)
    | split
    | extract_lets
    | with_reducible intro _
    | with_reducible show Within _ _ (ite _ _ _)
    | ((with_reducible show Within _ _ (id _)); exact Within.refl _ _)
    | dsimp +zetaDelta only

theorem execPageAlloc_next {a0 : _} {m : Nat} {s : State} (c : 939687942 &&& m = 939687942) :
    WithinNext m s (execPageAlloc a0 s) := WithinNext.mono (execPageAlloc_within a0 s) c

theorem execPageRead_within : ∀ a0 (s : State), WithinNext 939524102 s (execPageRead a0 s) := by
  intro a0 s
  unfold execPageRead
  repeat' first
    | with_reducible exact Within.refl _ _
    | assumption
    | ((with_reducible apply State.setF_step); rfl)
    | ((with_reducible apply State.wrWords_step); rfl)
    | ((with_reducible apply State.gate_step); rfl)
    | with_reducible apply WithinNext.ok
    | exact WithinNext.fault _
    | ((with_reducible apply Within.stepEach); intro _ _)
    | split
    | extract_lets
    | with_reducible intro _
    | with_reducible show Within _ _ (ite _ _ _)
    | ((with_reducible show Within _ _ (id _)); exact Within.refl _ _)
    | dsimp +zetaDelta only

theorem execPageRead_next {a0 : _} {m : Nat} {s : State} (c : 939524102 &&& m = 939524102) :
    WithinNext m s (execPageRead a0 s) := WithinNext.mono (execPageRead_within a0 s) c

theorem execPageFree_within : ∀ a0 (s : State), WithinNext 939687942 s (execPageFree a0 s) := by
  intro a0 s
  unfold execPageFree
  repeat' first
    | with_reducible exact Within.refl _ _
    | assumption
    | ((with_reducible apply State.zeroPage_step); rfl)
    | ((with_reducible apply State.setF_step); rfl)
    | ((with_reducible apply State.gate_step); rfl)
    | ((with_reducible apply State.setPage_step); rfl)
    | with_reducible apply WithinNext.ok
    | exact WithinNext.fault _
    | ((with_reducible apply Within.stepEach); intro _ _)
    | split
    | extract_lets
    | with_reducible intro _
    | with_reducible show Within _ _ (ite _ _ _)
    | ((with_reducible show Within _ _ (id _)); exact Within.refl _ _)
    | dsimp +zetaDelta only

theorem execPageFree_next {a0 : _} {m : Nat} {s : State} (c : 939687942 &&& m = 939687942) :
    WithinNext m s (execPageFree a0 s) := WithinNext.mono (execPageFree_within a0 s) c

theorem execCxlDeviceEvent_within : ∀ a0 a1 (s : State), WithinNext 939524100 s (execCxlDeviceEvent a0 a1 s) := by
  intro a0 a1 s
  unfold execCxlDeviceEvent
  repeat' first
    | with_reducible exact Within.refl _ _
    | assumption
    | ((with_reducible apply State.cxlEvent_step); rfl)
    | with_reducible apply WithinNext.ok
    | exact WithinNext.fault _
    | ((with_reducible apply Within.stepEach); intro _ _)
    | split
    | extract_lets
    | with_reducible intro _
    | with_reducible show Within _ _ (ite _ _ _)
    | ((with_reducible show Within _ _ (id _)); exact Within.refl _ _)
    | dsimp +zetaDelta only

theorem execCxlDeviceEvent_next {a0 : _} {a1 : _} {m : Nat} {s : State} (c : 939524100 &&& m = 939524100) :
    WithinNext m s (execCxlDeviceEvent a0 a1 s) := WithinNext.mono (execCxlDeviceEvent_within a0 a1 s) c

theorem execHbmScrub_within : ∀ a0 a1 a2 (s : State), WithinNext 948076550 s (execHbmScrub a0 a1 a2 s) := by
  intro a0 a1 a2 s
  unfold execHbmScrub
  repeat' first
    | with_reducible exact Within.refl _ _
    | assumption
    | ((with_reducible apply State.scrubOn_step); rfl)
    | with_reducible apply WithinNext.ok
    | exact WithinNext.fault _
    | ((with_reducible apply Within.stepEach); intro _ _)
    | split
    | extract_lets
    | with_reducible intro _
    | with_reducible show Within _ _ (ite _ _ _)
    | ((with_reducible show Within _ _ (id _)); exact Within.refl _ _)
    | dsimp +zetaDelta only

theorem execHbmScrub_next {a0 : _} {a1 : _} {a2 : _} {m : Nat} {s : State} (c : 948076550 &&& m = 948076550) :
    WithinNext m s (execHbmScrub a0 a1 a2 s) := WithinNext.mono (execHbmScrub_within a0 a1 a2 s) c

theorem execPageCopyDone_within : ∀ a0 (s : State), WithinNext 163844 s (execPageCopyDone a0 s) := by
  intro a0 s
  unfold execPageCopyDone
  repeat' first
    | with_reducible exact Within.refl _ _
    | assumption
    | ((with_reducible apply State.bump_step); rfl)
    | ((with_reducible apply State.setPage_step); rfl)
    | ((with_reducible apply State.writeBack_step); rfl)
    | with_reducible apply WithinNext.ok
    | exact WithinNext.fault _
    | ((with_reducible apply Within.stepEach); intro _ _)
    | split
    | extract_lets
    | ((fail_if_success with_reducible apply Within.upd_pending); (with_reducible apply Within.upd_mem); rfl)
    | with_reducible intro _
    | with_reducible show Within _ _ (ite _ _ _)
    | ((with_reducible show Within _ _ (id _)); exact Within.refl _ _)
    | dsimp +zetaDelta only
    | ((fail_if_success with_reducible apply Within.upd_pending); (with_reducible apply Within.upd_mem); rfl)

theorem execPageCopyDone_next {a0 : _} {m : Nat} {s : State} (c : 163844 &&& m = 163844) :
    WithinNext m s (execPageCopyDone a0 s) := WithinNext.mono (execPageCopyDone_within a0 s) c

theorem execStackRelocateDone_within : ∀ a0 (s : State), WithinNext 940703750 s (execStackRelocateDone a0 s) := by
  intro a0 s
  unfold execStackRelocateDone
  repeat' first
    | with_reducible exact Within.refl _ _
    | assumption
    | ((with_reducible apply State.bump_step); rfl)
    | ((with_reducible apply State.setF_step); rfl)
    | ((with_reducible apply State.endMaint_step); rfl)
    | ((with_reducible apply State.setRetiring_step); rfl)
    | ((with_reducible apply State.beginRetire_step); rfl)
    | ((with_reducible apply State.stackTo_step); rfl)
    | with_reducible apply WithinNext.ok
    | exact WithinNext.fault _
    | ((with_reducible apply Within.stepEach); intro _ _)
    | split
    | extract_lets
    | ((fail_if_success with_reducible apply Within.upd_pending); (with_reducible apply Within.upd_mem); rfl)
    | with_reducible intro _
    | with_reducible show Within _ _ (ite _ _ _)
    | ((with_reducible show Within _ _ (id _)); exact Within.refl _ _)
    | dsimp +zetaDelta only
    | ((fail_if_success with_reducible apply Within.upd_pending); (with_reducible apply Within.upd_mem); rfl)

theorem execStackRelocateDone_next {a0 : _} {m : Nat} {s : State} (c : 940703750 &&& m = 940703750) :
    WithinNext m s (execStackRelocateDone a0 s) := WithinNext.mono (execStackRelocateDone_within a0 s) c

theorem execCxlPortTrained_within : ∀ a0 a1 a2 a3 a4 (s : State), WithinNext 8490450951 s (execCxlPortTrained a0 a1 a2 a3 a4 s) := by
  intro a0 a1 a2 a3 a4 s
  unfold execCxlPortTrained
  repeat' first
    | with_reducible exact Within.refl _ _
    | assumption
    | ((with_reducible apply State.cxlFailed_step); rfl)
    | ((with_reducible apply State.setF_step); rfl)
    | ((with_reducible apply State.endMaint_step); rfl)
    | ((with_reducible apply State.setCxlSt_step); rfl)
    | ((with_reducible apply State.reach_step); rfl)
    | ((with_reducible apply State.cxlEvent_step); rfl)
    | with_reducible apply WithinNext.ok
    | exact WithinNext.fault _
    | ((with_reducible apply Within.stepEach); intro _ _)
    | split
    | extract_lets
    | ((fail_if_success with_reducible apply Within.upd_pending); (with_reducible apply Within.upd_mem); rfl)
    | with_reducible intro _
    | with_reducible show Within _ _ (ite _ _ _)
    | ((with_reducible show Within _ _ (id _)); exact Within.refl _ _)
    | dsimp +zetaDelta only
    | ((fail_if_success with_reducible apply Within.upd_pending); (with_reducible apply Within.upd_mem); rfl)

theorem execCxlPortTrained_next {a0 : _} {a1 : _} {a2 : _} {a3 : _} {a4 : _} {m : Nat} {s : State} (c : 8490450951 &&& m = 8490450951) :
    WithinNext m s (execCxlPortTrained a0 a1 a2 a3 a4 s) := WithinNext.mono (execCxlPortTrained_within a0 a1 a2 a3 a4 s) c

theorem execEaselInterval_within : ∀ a0 a1 a2 a3 a4 a5 a6 (s : State), WithinNext 8489402391 s (execEaselInterval a0 a1 a2 a3 a4 a5 a6 s) := by
  intro a0 a1 a2 a3 a4 a5 a6 s
  unfold execEaselInterval
  repeat' first
    | with_reducible exact Within.refl _ _
    | assumption
    | ((with_reducible apply State.setLoad_step); rfl)
    | ((with_reducible apply State.easelMoves_step); rfl)
    | ((with_reducible apply State.setF_step); rfl)
    | ((with_reducible apply State.readbackAll_step); rfl)
    | ((with_reducible apply State.setClass_step); rfl)
    | ((with_reducible apply State.reach_step); rfl)
    | with_reducible apply WithinNext.ok
    | exact WithinNext.fault _
    | ((with_reducible apply Within.stepEach); intro _ _)
    | split
    | extract_lets
    | ((fail_if_success with_reducible apply Within.upd_pending); (with_reducible apply Within.upd_mem); rfl)
    | with_reducible intro _
    | with_reducible show Within _ _ (ite _ _ _)
    | ((with_reducible show Within _ _ (id _)); exact Within.refl _ _)
    | dsimp +zetaDelta only
    | ((fail_if_success with_reducible apply Within.upd_pending); (with_reducible apply Within.upd_mem); rfl)

theorem execEaselInterval_next {a0 : _} {a1 : _} {a2 : _} {a3 : _} {a4 : _} {a5 : _} {a6 : _} {m : Nat} {s : State} (c : 8489402391 &&& m = 8489402391) :
    WithinNext m s (execEaselInterval a0 a1 a2 a3 a4 a5 a6 s) := WithinNext.mono (execEaselInterval_within a0 a1 a2 a3 a4 a5 a6 s) c

theorem execHeatHalving_within : ∀ (s : State), WithinNext 7549878277 s (execHeatHalving s) := by
  intro s
  unfold execHeatHalving
  repeat' first
    | with_reducible exact Within.refl _ _
    | assumption
    | ((with_reducible apply State.reach_step); rfl)
    | with_reducible apply WithinNext.ok
    | exact WithinNext.fault _
    | ((with_reducible apply Within.stepEach); intro _ _)
    | split
    | extract_lets
    | ((fail_if_success with_reducible apply Within.upd_pending); (with_reducible apply Within.upd_mem); rfl)
    | with_reducible intro _
    | with_reducible show Within _ _ (ite _ _ _)
    | ((with_reducible show Within _ _ (id _)); exact Within.refl _ _)
    | dsimp +zetaDelta only
    | ((fail_if_success with_reducible apply Within.upd_pending); (with_reducible apply Within.upd_mem); rfl)

theorem execHeatHalving_next  {m : Nat} {s : State} (c : 7549878277 &&& m = 7549878277) :
    WithinNext m s (execHeatHalving s) := WithinNext.mono (execHeatHalving_within s) c

theorem execStackFail_within : ∀ a0 (s : State), WithinNext 939687942 s (execStackFail a0 s) := by
  intro a0 s
  unfold execStackFail
  repeat' first
    | with_reducible exact Within.refl _ _
    | assumption
    | ((with_reducible apply State.failStack_step); rfl)
    | with_reducible apply WithinNext.ok
    | exact WithinNext.fault _
    | ((with_reducible apply Within.stepEach); intro _ _)
    | split
    | extract_lets
    | with_reducible intro _
    | with_reducible show Within _ _ (ite _ _ _)
    | ((with_reducible show Within _ _ (id _)); exact Within.refl _ _)
    | dsimp +zetaDelta only

theorem execStackFail_next {a0 : _} {m : Nat} {s : State} (c : 939687942 &&& m = 939687942) :
    WithinNext m s (execStackFail a0 s) := WithinNext.mono (execStackFail_within a0 s) c

theorem execCxlRetrainTick_within : ∀ a0 (s : State), WithinNext 8489402375 s (execCxlRetrainTick a0 s) := by
  intro a0 s
  unfold execCxlRetrainTick
  repeat' first
    | with_reducible exact Within.refl _ _
    | assumption
    | ((with_reducible apply State.cxlFailed_step); rfl)
    | ((with_reducible apply State.setCxlSt_step); rfl)
    | ((with_reducible apply State.reach_step); rfl)
    | ((with_reducible apply State.cxlEvent_step); rfl)
    | with_reducible apply WithinNext.ok
    | exact WithinNext.fault _
    | ((with_reducible apply Within.stepEach); intro _ _)
    | split
    | extract_lets
    | with_reducible intro _
    | with_reducible show Within _ _ (ite _ _ _)
    | ((with_reducible show Within _ _ (id _)); exact Within.refl _ _)
    | dsimp +zetaDelta only

theorem execCxlRetrainTick_next {a0 : _} {m : Nat} {s : State} (c : 8489402375 &&& m = 8489402375) :
    WithinNext m s (execCxlRetrainTick a0 s) := WithinNext.mono (execCxlRetrainTick_within a0 s) c

theorem execStackDemoteDone_within : ∀ a0 (s : State), WithinNext 939655172 s (execStackDemoteDone a0 s) := by
  intro a0 s
  unfold execStackDemoteDone
  repeat' first
    | with_reducible exact Within.refl _ _
    | assumption
    | ((with_reducible apply State.setRetiring_step); rfl)
    | ((with_reducible apply State.placement_step); rfl)
    | with_reducible apply WithinNext.ok
    | exact WithinNext.fault _
    | ((with_reducible apply Within.stepEach); intro _ _)
    | split
    | extract_lets
    | with_reducible intro _
    | with_reducible show Within _ _ (ite _ _ _)
    | ((with_reducible show Within _ _ (id _)); exact Within.refl _ _)
    | dsimp +zetaDelta only

theorem execStackDemoteDone_next {a0 : _} {m : Nat} {s : State} (c : 939655172 &&& m = 939655172) :
    WithinNext m s (execStackDemoteDone a0 s) := WithinNext.mono (execStackDemoteDone_within a0 s) c

theorem execCxlPortFail_within : ∀ a0 (s : State), WithinNext 940703766 s (execCxlPortFail a0 s) := by
  intro a0 s
  unfold execCxlPortFail
  repeat' first
    | with_reducible exact Within.refl _ _
    | assumption
    | ((with_reducible apply State.cxlDown_step); rfl)
    | ((with_reducible apply State.endMaint_step); rfl)
    | with_reducible apply WithinNext.ok
    | exact WithinNext.fault _
    | ((with_reducible apply Within.stepEach); intro _ _)
    | split
    | extract_lets
    | with_reducible intro _
    | with_reducible show Within _ _ (ite _ _ _)
    | ((with_reducible show Within _ _ (id _)); exact Within.refl _ _)
    | dsimp +zetaDelta only

theorem execCxlPortFail_next {a0 : _} {m : Nat} {s : State} (c : 940703766 &&& m = 940703766) :
    WithinNext m s (execCxlPortFail a0 s) := WithinNext.mono (execCxlPortFail_within a0 s) c

theorem execCxlRemoveDone_within : ∀ a0 (s : State), WithinNext 940703766 s (execCxlRemoveDone a0 s) := by
  intro a0 s
  unfold execCxlRemoveDone
  repeat' first
    | with_reducible exact Within.refl _ _
    | assumption
    | ((with_reducible apply State.cxlDown_step); rfl)
    | ((with_reducible apply State.endMaint_step); rfl)
    | ((with_reducible apply State.emptyPort_step); rfl)
    | ((with_reducible apply State.cxlClock_step); rfl)
    | with_reducible apply WithinNext.ok
    | exact WithinNext.fault _
    | ((with_reducible apply Within.stepEach); intro _ _)
    | split
    | extract_lets
    | with_reducible intro _
    | with_reducible show Within _ _ (ite _ _ _)
    | ((with_reducible show Within _ _ (id _)); exact Within.refl _ _)
    | dsimp +zetaDelta only

theorem execCxlRemoveDone_next {a0 : _} {m : Nat} {s : State} (c : 940703766 &&& m = 940703766) :
    WithinNext m s (execCxlRemoveDone a0 s) := WithinNext.mono (execCxlRemoveDone_within a0 s) c

theorem execFixWindowMapped_within : ∀ a0 (s : State), WithinNext 939655174 s (execFixWindowMapped a0 s) := by
  intro a0 s
  unfold execFixWindowMapped
  repeat' first
    | with_reducible exact Within.refl _ _
    | assumption
    | ((with_reducible apply State.setF_step); rfl)
    | ((with_reducible apply State.placement_step); rfl)
    | with_reducible apply WithinNext.ok
    | exact WithinNext.fault _
    | ((with_reducible apply Within.stepEach); intro _ _)
    | split
    | extract_lets
    | ((fail_if_success with_reducible apply Within.upd_pending); (with_reducible apply Within.upd_mem); rfl)
    | with_reducible intro _
    | with_reducible show Within _ _ (ite _ _ _)
    | ((with_reducible show Within _ _ (id _)); exact Within.refl _ _)
    | dsimp +zetaDelta only
    | ((fail_if_success with_reducible apply Within.upd_pending); (with_reducible apply Within.upd_mem); rfl)

theorem execFixWindowMapped_next {a0 : _} {m : Nat} {s : State} (c : 939655174 &&& m = 939655174) :
    WithinNext m s (execFixWindowMapped a0 s) := WithinNext.mono (execFixWindowMapped_within a0 s) c


/-! ## Machine/Peers.lean -/

theorem State.colourDeath_within : ∀ (s : State) a1 a2, Within 13824961492 s (State.colourDeath s a1 a2) := by
  intro s a1 a2
  unfold State.colourDeath
  repeat' first
    | with_reducible exact Within.refl _ _
    | assumption
    | ((with_reducible apply State.rootDead_step); rfl)
    | ((with_reducible apply State.pairHandover_step); rfl)
    | ((with_reducible apply State.raise_step); rfl)
    | ((with_reducible apply State.setPeer_step); rfl)
    | ((with_reducible apply Within.stepEach); intro _ _)
    | split
    | extract_lets
    | with_reducible intro _
    | with_reducible show Within _ _ (ite _ _ _)
    | ((with_reducible show Within _ _ (id _)); exact Within.refl _ _)
    | dsimp +zetaDelta only

theorem State.colourDeath_step {a1 : _} {a2 : _} {m : Nat} {r s : State} (c : 13824961492 &&& m = 13824961492) (h : Within m r s) :
    Within m r (State.colourDeath s a1 a2) := Within.step (State.colourDeath_within s a1 a2) c h

theorem State.deathByPlanes_within : ∀ (s : State) a1, Within 13824961492 s (State.deathByPlanes s a1) := by
  intro s a1
  unfold State.deathByPlanes
  repeat' first
    | with_reducible exact Within.refl _ _
    | assumption
    | ((with_reducible apply State.colourDeath_step); rfl)
    | ((with_reducible apply Within.stepEach); intro _ _)
    | split
    | extract_lets
    | with_reducible intro _
    | with_reducible show Within _ _ (ite _ _ _)
    | ((with_reducible show Within _ _ (id _)); exact Within.refl _ _)
    | dsimp +zetaDelta only

theorem State.deathByPlanes_step {a1 : _} {m : Nat} {r s : State} (c : 13824961492 &&& m = 13824961492) (h : Within m r s) :
    Within m r (State.deathByPlanes s a1) := Within.step (State.deathByPlanes_within s a1) c h

theorem State.ackExpired_within : ∀ (s : State) a1 a2 a3 a4, Within 17080790997 s (State.ackExpired s a1 a2 a3 a4) := by
  intro s a1 a2 a3 a4
  unfold State.ackExpired
  repeat' first
    | with_reducible exact Within.refl _ _
    | assumption
    | ((with_reducible apply State.setPlane_step); rfl)
    | ((with_reducible apply State.pairHandover_step); rfl)
    | ((with_reducible apply State.replayAll_step); rfl)
    | ((with_reducible apply State.deathByPlanes_step); rfl)
    | ((with_reducible apply State.reach_step); rfl)
    | ((with_reducible apply Within.stepEach); intro _ _)
    | split
    | extract_lets
    | with_reducible intro _
    | with_reducible show Within _ _ (ite _ _ _)
    | ((with_reducible show Within _ _ (id _)); exact Within.refl _ _)
    | dsimp +zetaDelta only

theorem State.ackExpired_step {a1 : _} {a2 : _} {a3 : _} {a4 : _} {m : Nat} {r s : State} (c : 17080790997 &&& m = 17080790997) (h : Within m r s) :
    Within m r (State.ackExpired s a1 a2 a3 a4) := Within.step (State.ackExpired_within s a1 a2 a3 a4) c h

theorem State.startListening_within : ∀ (s : State), Within 13826002388 s (State.startListening s) := by
  intro s
  unfold State.startListening
  repeat' first
    | with_reducible exact Within.refl _ _
    | assumption
    | ((with_reducible apply State.accountPlanes_step); rfl)
    | ((with_reducible apply State.setPlane_step); rfl)
    | ((with_reducible apply State.takeDown_step); rfl)
    | ((with_reducible apply State.emit_step); rfl)
    | ((with_reducible apply Within.stepEach); intro _ _)
    | split
    | extract_lets
    | ((fail_if_success with_reducible apply Within.upd_pending); (with_reducible apply Within.upd_prism); rfl)
    | with_reducible intro _
    | with_reducible show Within _ _ (ite _ _ _)
    | ((with_reducible show Within _ _ (id _)); exact Within.refl _ _)
    | dsimp +zetaDelta only
    | ((fail_if_success with_reducible apply Within.upd_pending); (with_reducible apply Within.upd_prism); rfl)

theorem State.startListening_step  {m : Nat} {r s : State} (c : 13826002388 &&& m = 13826002388) (h : Within m r s) :
    Within m r (State.startListening s) := Within.step (State.startListening_within s) c h

theorem State.discovered_within : ∀ (s : State) a1 a2 a3 a4 a5, Within 13824961492 s (State.discovered s a1 a2 a3 a4 a5) := by
  intro s a1 a2 a3 a4 a5
  unfold State.discovered
  repeat' first
    | with_reducible exact Within.refl _ _
    | assumption
    | ((with_reducible apply State.setPeer_step); rfl)
    | ((with_reducible apply State.colourDeath_step); rfl)
    | ((with_reducible apply State.sendReady_step); rfl)
    | ((with_reducible apply Within.stepEach); intro _ _)
    | split
    | extract_lets
    | with_reducible intro _
    | with_reducible show Within _ _ (ite _ _ _)
    | ((with_reducible show Within _ _ (id _)); exact Within.refl _ _)
    | dsimp +zetaDelta only

theorem State.discovered_step {a1 : _} {a2 : _} {a3 : _} {a4 : _} {a5 : _} {m : Nat} {r s : State} (c : 13824961492 &&& m = 13824961492) (h : Within m r s) :
    Within m r (State.discovered s a1 a2 a3 a4 a5) := Within.step (State.discovered_within s a1 a2 a3 a4 a5) c h

theorem State.miswire_within : ∀ (s : State) a1, Within 13824953812 s (State.miswire s a1) := by
  intro s a1
  unfold State.miswire
  repeat' first
    | with_reducible exact Within.refl _ _
    | assumption
    | ((with_reducible apply State.accountPlanes_step); rfl)
    | ((with_reducible apply State.setPlane_step); rfl)
    | ((with_reducible apply State.replayHandover_step); rfl)
    | ((with_reducible apply State.raise_step); rfl)
    | ((with_reducible apply State.setLink_step); rfl)
    | ((with_reducible apply State.emit_step); rfl)
    | ((with_reducible apply Within.stepEach); intro _ _)
    | split
    | extract_lets
    | with_reducible intro _
    | with_reducible show Within _ _ (ite _ _ _)
    | ((with_reducible show Within _ _ (id _)); exact Within.refl _ _)
    | dsimp +zetaDelta only

theorem State.miswire_step {a1 : _} {m : Nat} {r s : State} (c : 13824953812 &&& m = 13824953812) (h : Within m r s) :
    Within m r (State.miswire s a1) := Within.step (State.miswire_within s a1) c h

theorem State.light_within : ∀ (s : State) a1 a2, Within 13824953812 s (State.light s a1 a2) := by
  intro s a1 a2
  unfold State.light
  repeat' first
    | with_reducible exact Within.refl _ _
    | assumption
    | ((with_reducible apply State.setPlane_step); rfl)
    | ((with_reducible apply State.miswire_step); rfl)
    | ((with_reducible apply State.beginTraining_step); rfl)
    | ((with_reducible apply Within.stepEach); intro _ _)
    | split
    | extract_lets
    | with_reducible intro _
    | with_reducible show Within _ _ (ite _ _ _)
    | ((with_reducible show Within _ _ (id _)); exact Within.refl _ _)
    | dsimp +zetaDelta only

theorem State.light_step {a1 : _} {a2 : _} {m : Nat} {r s : State} (c : 13824953812 &&& m = 13824953812) (h : Within m r s) :
    Within m r (State.light s a1 a2) := Within.step (State.light_within s a1 a2) c h

theorem execLcReadyReceive_within : ∀ a0 (s : State), WithinNext 12885430164 s (execLcReadyReceive a0 s) := by
  intro a0 s
  unfold execLcReadyReceive
  repeat' first
    | with_reducible exact Within.refl _ _
    | assumption
    | ((with_reducible apply State.setPlane_step); rfl)
    | ((with_reducible apply State.setPort_step); rfl)
    | ((with_reducible apply State.reconsider_step); rfl)
    | ((with_reducible apply State.setPeer_step); rfl)
    | with_reducible apply WithinNext.ok
    | exact WithinNext.fault _
    | ((with_reducible apply Within.stepEach); intro _ _)
    | split
    | extract_lets
    | with_reducible intro _
    | with_reducible show Within _ _ (ite _ _ _)
    | ((with_reducible show Within _ _ (id _)); exact Within.refl _ _)
    | dsimp +zetaDelta only

theorem execLcReadyReceive_next {a0 : _} {m : Nat} {s : State} (c : 12885430164 &&& m = 12885430164) :
    WithinNext m s (execLcReadyReceive a0 s) := WithinNext.mono (execLcReadyReceive_within a0 s) c

theorem execPrismListenEnd_within : ∀ (s : State), WithinNext 17079733717 s (execPrismListenEnd s) := by
  intro s
  unfold execPrismListenEnd
  repeat' first
    | with_reducible exact Within.refl _ _
    | assumption
    | ((with_reducible apply State.reach_step); rfl)
    | ((with_reducible apply State.light_step); rfl)
    | with_reducible apply WithinNext.ok
    | exact WithinNext.fault _
    | ((with_reducible apply Within.stepEach); intro _ _)
    | split
    | extract_lets
    | ((fail_if_success with_reducible apply Within.upd_pending); (with_reducible apply Within.upd_prism); rfl)
    | with_reducible intro _
    | with_reducible show Within _ _ (ite _ _ _)
    | ((with_reducible show Within _ _ (id _)); exact Within.refl _ _)
    | dsimp +zetaDelta only
    | ((fail_if_success with_reducible apply Within.upd_pending); (with_reducible apply Within.upd_prism); rfl)

theorem execPrismListenEnd_next  {m : Nat} {s : State} (c : 17079733717 &&& m = 17079733717) :
    WithinNext m s (execPrismListenEnd s) := WithinNext.mono (execPrismListenEnd_within s) c

theorem execLcWithdrawReceive_within : ∀ a0 (s : State), WithinNext 13824953300 s (execLcWithdrawReceive a0 s) := by
  intro a0 s
  unfold execLcWithdrawReceive
  repeat' first
    | with_reducible exact Within.refl _ _
    | assumption
    | ((with_reducible apply State.setPort_step); rfl)
    | ((with_reducible apply State.moveOff_step); rfl)
    | ((with_reducible apply State.setPeer_step); rfl)
    | with_reducible apply WithinNext.ok
    | exact WithinNext.fault _
    | ((with_reducible apply Within.stepEach); intro _ _)
    | split
    | extract_lets
    | with_reducible intro _
    | with_reducible show Within _ _ (ite _ _ _)
    | ((with_reducible show Within _ _ (id _)); exact Within.refl _ _)
    | dsimp +zetaDelta only

theorem execLcWithdrawReceive_next {a0 : _} {m : Nat} {s : State} (c : 13824953300 &&& m = 13824953300) :
    WithinNext m s (execLcWithdrawReceive a0 s) := WithinNext.mono (execLcWithdrawReceive_within a0 s) c

theorem execPeerSilenceTimeout_within : ∀ a0 (s : State), WithinNext 17079741397 s (execPeerSilenceTimeout a0 s) := by
  intro a0 s
  unfold execPeerSilenceTimeout
  repeat' first
    | with_reducible exact Within.refl _ _
    | assumption
    | ((with_reducible apply State.setPeer_step); rfl)
    | ((with_reducible apply State.colourDeath_step); rfl)
    | ((with_reducible apply State.reach_step); rfl)
    | with_reducible apply WithinNext.ok
    | exact WithinNext.fault _
    | ((with_reducible apply Within.stepEach); intro _ _)
    | split
    | extract_lets
    | with_reducible intro _
    | with_reducible show Within _ _ (ite _ _ _)
    | ((with_reducible show Within _ _ (id _)); exact Within.refl _ _)
    | dsimp +zetaDelta only

theorem execPeerSilenceTimeout_next {a0 : _} {m : Nat} {s : State} (c : 17079741397 &&& m = 17079741397) :
    WithinNext m s (execPeerSilenceTimeout a0 s) := WithinNext.mono (execPeerSilenceTimeout_within a0 s) c

theorem execSlotStart_within : ∀ (s : State), WithinNext 17079742421 s (execSlotStart s) := by
  intro s
  unfold execSlotStart
  repeat' first
    | with_reducible exact Within.refl _ _
    | assumption
    | ((with_reducible apply State.accountPlanes_step); rfl)
    | ((with_reducible apply State.lend_step); rfl)
    | ((with_reducible apply State.lapse_step); rfl)
    | ((with_reducible apply State.deathByPlanes_step); rfl)
    | ((with_reducible apply State.reach_step); rfl)
    | ((with_reducible apply State.followSlot_step); rfl)
    | ((with_reducible apply State.endSlot_step); rfl)
    | ((with_reducible apply State.sendLocal_step); rfl)
    | with_reducible apply WithinNext.ok
    | exact WithinNext.fault _
    | ((with_reducible apply Within.stepEach); intro _ _)
    | split
    | extract_lets
    | ((fail_if_success with_reducible apply Within.upd_pending); (with_reducible apply Within.upd_prism); rfl)
    | with_reducible intro _
    | with_reducible show Within _ _ (ite _ _ _)
    | ((with_reducible show Within _ _ (id _)); exact Within.refl _ _)
    | dsimp +zetaDelta only
    | ((fail_if_success with_reducible apply Within.upd_pending); (with_reducible apply Within.upd_prism); rfl)

theorem execSlotStart_next  {m : Nat} {s : State} (c : 17079742421 &&& m = 17079742421) :
    WithinNext m s (execSlotStart s) := WithinNext.mono (execSlotStart_within s) c

theorem execAckTimeout_within : ∀ a0 a1 (s : State), WithinNext 17080790997 s (execAckTimeout a0 a1 s) := by
  intro a0 a1 s
  unfold execAckTimeout
  repeat' first
    | with_reducible exact Within.refl _ _
    | assumption
    | ((with_reducible apply State.ackExpired_step); rfl)
    | with_reducible apply WithinNext.ok
    | exact WithinNext.fault _
    | ((with_reducible apply Within.stepEach); intro _ _)
    | split
    | extract_lets
    | with_reducible intro _
    | with_reducible show Within _ _ (ite _ _ _)
    | ((with_reducible show Within _ _ (id _)); exact Within.refl _ _)
    | dsimp +zetaDelta only

theorem execAckTimeout_next {a0 : _} {a1 : _} {m : Nat} {s : State} (c : 17080790997 &&& m = 17080790997) :
    WithinNext m s (execAckTimeout a0 a1 s) := WithinNext.mono (execAckTimeout_within a0 a1 s) c

theorem execDiscoverReceive_within : ∀ a0 a1 a2 (s : State), WithinNext 13824962516 s (execDiscoverReceive a0 a1 a2 s) := by
  intro a0 a1 a2 s
  unfold execDiscoverReceive
  repeat' first
    | with_reducible exact Within.refl _ _
    | assumption
    | ((with_reducible apply State.setPort_step); rfl)
    | ((with_reducible apply State.discovered_step); rfl)
    | ((with_reducible apply State.colourDeath_step); rfl)
    | ((with_reducible apply State.miswire_step); rfl)
    | with_reducible apply WithinNext.ok
    | exact WithinNext.fault _
    | ((with_reducible apply Within.stepEach); intro _ _)
    | split
    | extract_lets
    | ((fail_if_success with_reducible apply Within.upd_pending); (with_reducible apply Within.upd_prism); rfl)
    | with_reducible intro _
    | with_reducible show Within _ _ (ite _ _ _)
    | ((with_reducible show Within _ _ (id _)); exact Within.refl _ _)
    | dsimp +zetaDelta only
    | ((fail_if_success with_reducible apply Within.upd_pending); (with_reducible apply Within.upd_prism); rfl)

theorem execDiscoverReceive_next {a0 : _} {a1 : _} {a2 : _} {m : Nat} {s : State} (c : 13824962516 &&& m = 13824962516) :
    WithinNext m s (execDiscoverReceive a0 a1 a2 s) := WithinNext.mono (execDiscoverReceive_within a0 a1 a2 s) c


/-! ## Machine/Optics.lean -/

theorem State.setLaser_within : ∀ (s : State) a1 a2 a3, Within 4096 s (State.setLaser s a1 a2 a3) := by
  intro s a1 a2 a3
  unfold State.setLaser
  repeat' first
    | with_reducible exact Within.refl _ _
    | assumption
    | ((with_reducible apply Within.stepEach); intro _ _)
    | split
    | extract_lets
    | ((fail_if_success with_reducible apply Within.upd_pending); (with_reducible apply Within.upd_optics); rfl)
    | with_reducible intro _
    | with_reducible show Within _ _ (ite _ _ _)
    | ((with_reducible show Within _ _ (id _)); exact Within.refl _ _)
    | dsimp +zetaDelta only
    | ((fail_if_success with_reducible apply Within.upd_pending); (with_reducible apply Within.upd_optics); rfl)

theorem State.setLaser_step {a1 : _} {a2 : _} {a3 : _} {m : Nat} {r s : State} (c : 4096 &&& m = 4096) (h : Within m r s) :
    Within m r (State.setLaser s a1 a2 a3) := Within.step (State.setLaser_within s a1 a2 a3) c h

theorem State.startTakeover_within : ∀ a0 a1 (s : State), Within 940576772 s (State.startTakeover a0 a1 s) := by
  intro a0 a1 s
  unfold State.startTakeover
  repeat' first
    | with_reducible exact Within.refl _ _
    | assumption
    | ((with_reducible apply State.setLaser_step); rfl)
    | ((with_reducible apply State.endMaint_step); rfl)
    | ((with_reducible apply Within.stepEach); intro _ _)
    | split
    | extract_lets
    | ((fail_if_success with_reducible apply Within.upd_pending); (with_reducible apply Within.upd_optics); rfl)
    | with_reducible intro _
    | with_reducible show Within _ _ (ite _ _ _)
    | ((with_reducible show Within _ _ (id _)); exact Within.refl _ _)
    | dsimp +zetaDelta only
    | ((fail_if_success with_reducible apply Within.upd_pending); (with_reducible apply Within.upd_optics); rfl)

theorem State.startTakeover_step {a0 : _} {a1 : _} {m : Nat} {r s : State} (c : 940576772 &&& m = 940576772) (h : Within m r s) :
    Within m r (State.startTakeover a0 a1 s) := Within.step (State.startTakeover_within a0 a1 s) c h

theorem State.dropTakeover_within : ∀ (s : State) a1 a2, Within 4096 s (State.dropTakeover s a1 a2) := by
  intro s a1 a2
  unfold State.dropTakeover
  repeat' first
    | with_reducible exact Within.refl _ _
    | assumption
    | ((with_reducible apply Within.stepEach); intro _ _)
    | split
    | extract_lets
    | ((fail_if_success with_reducible apply Within.upd_pending); (with_reducible apply Within.upd_optics); rfl)
    | with_reducible intro _
    | with_reducible show Within _ _ (ite _ _ _)
    | ((with_reducible show Within _ _ (id _)); exact Within.refl _ _)
    | dsimp +zetaDelta only
    | ((fail_if_success with_reducible apply Within.upd_pending); (with_reducible apply Within.upd_optics); rfl)

theorem State.dropTakeover_step {a1 : _} {a2 : _} {m : Nat} {r s : State} (c : 4096 &&& m = 4096) (h : Within m r s) :
    Within m r (State.dropTakeover s a1 a2) := Within.step (State.dropTakeover_within s a1 a2) c h

theorem execLaserTakeoverRequest_within : ∀ a0 a1 (s : State), WithinNext 940576774 s (execLaserTakeoverRequest a0 a1 s) := by
  intro a0 a1 s
  unfold execLaserTakeoverRequest
  repeat' first
    | with_reducible exact Within.refl _ _
    | assumption
    | ((with_reducible apply State.setLaser_step); rfl)
    | ((with_reducible apply State.requestMaint_step); rfl)
    | ((with_reducible apply State.gate_step); rfl)
    | ((with_reducible apply State.startTakeover_step); rfl)
    | ((with_reducible apply State.status_step); rfl)
    | with_reducible apply WithinNext.ok
    | exact WithinNext.fault _
    | ((with_reducible apply Within.stepEach); intro _ _)
    | split
    | extract_lets
    | with_reducible intro _
    | with_reducible show Within _ _ (ite _ _ _)
    | ((with_reducible show Within _ _ (id _)); exact Within.refl _ _)
    | dsimp +zetaDelta only

theorem execLaserTakeoverRequest_next {a0 : _} {a1 : _} {m : Nat} {s : State} (c : 940576774 &&& m = 940576774) :
    WithinNext m s (execLaserTakeoverRequest a0 a1 s) := WithinNext.mono (execLaserTakeoverRequest_within a0 a1 s) c

theorem execLaserRead_within : ∀ a0 a1 (s : State), WithinNext 939524102 s (execLaserRead a0 a1 s) := by
  intro a0 a1 s
  unfold execLaserRead
  repeat' first
    | with_reducible exact Within.refl _ _
    | assumption
    | ((with_reducible apply State.wrWords_step); rfl)
    | ((with_reducible apply State.gate_step); rfl)
    | ((with_reducible apply State.status_step); rfl)
    | with_reducible apply WithinNext.ok
    | exact WithinNext.fault _
    | ((with_reducible apply Within.stepEach); intro _ _)
    | split
    | extract_lets
    | with_reducible intro _
    | with_reducible show Within _ _ (ite _ _ _)
    | ((with_reducible show Within _ _ (id _)); exact Within.refl _ _)
    | dsimp +zetaDelta only

theorem execLaserRead_next {a0 : _} {a1 : _} {m : Nat} {s : State} (c : 939524102 &&& m = 939524102) :
    WithinNext m s (execLaserRead a0 a1 s) := WithinNext.mono (execLaserRead_within a0 a1 s) c

theorem execLaserFail_within : ∀ a0 a1 (s : State), WithinNext 13826006484 s (execLaserFail a0 a1 s) := by
  intro a0 a1 s
  unfold execLaserFail
  repeat' first
    | with_reducible exact Within.refl _ _
    | assumption
    | ((with_reducible apply State.setPort_step); rfl)
    | ((with_reducible apply State.setLaser_step); rfl)
    | ((with_reducible apply State.degrade_step); rfl)
    | ((with_reducible apply State.startTakeover_step); rfl)
    | with_reducible apply WithinNext.ok
    | exact WithinNext.fault _
    | ((with_reducible apply Within.stepEach); intro _ _)
    | split
    | extract_lets
    | with_reducible intro _
    | with_reducible show Within _ _ (ite _ _ _)
    | ((with_reducible show Within _ _ (id _)); exact Within.refl _ _)
    | dsimp +zetaDelta only

theorem execLaserFail_next {a0 : _} {a1 : _} {m : Nat} {s : State} (c : 13826006484 &&& m = 13826006484) :
    WithinNext m s (execLaserFail a0 a1 s) := WithinNext.mono (execLaserFail_within a0 a1 s) c

theorem execTakeoverSwitch_within : ∀ a0 a1 (s : State), WithinNext 5235544196 s (execTakeoverSwitch a0 a1 s) := by
  intro a0 a1 s
  unfold execTakeoverSwitch
  repeat' first
    | with_reducible exact Within.refl _ _
    | assumption
    | ((with_reducible apply State.dropTakeover_step); rfl)
    | ((with_reducible apply State.bump_step); rfl)
    | ((with_reducible apply State.setPort_step); rfl)
    | ((with_reducible apply State.setLaser_step); rfl)
    | ((with_reducible apply State.endMaint_step); rfl)
    | ((with_reducible apply State.raise_step); rfl)
    | ((with_reducible apply State.beginTraining_step); rfl)
    | with_reducible apply WithinNext.ok
    | exact WithinNext.fault _
    | ((with_reducible apply Within.stepEach); intro _ _)
    | split
    | extract_lets
    | with_reducible intro _
    | with_reducible show Within _ _ (ite _ _ _)
    | ((with_reducible show Within _ _ (id _)); exact Within.refl _ _)
    | dsimp +zetaDelta only

theorem execTakeoverSwitch_next {a0 : _} {a1 : _} {m : Nat} {s : State} (c : 5235544196 &&& m = 5235544196) :
    WithinNext m s (execTakeoverSwitch a0 a1 s) := WithinNext.mono (execTakeoverSwitch_within a0 a1 s) c

theorem execSpareWarmDone_within : ∀ a0 a1 a2 (s : State), WithinNext 940576772 s (execSpareWarmDone a0 a1 a2 s) := by
  intro a0 a1 a2 s
  unfold execSpareWarmDone
  repeat' first
    | with_reducible exact Within.refl _ _
    | assumption
    | ((with_reducible apply State.dropTakeover_step); rfl)
    | ((with_reducible apply State.setLaser_step); rfl)
    | ((with_reducible apply State.startTakeover_step); rfl)
    | with_reducible apply WithinNext.ok
    | exact WithinNext.fault _
    | ((with_reducible apply Within.stepEach); intro _ _)
    | split
    | extract_lets
    | ((fail_if_success with_reducible apply Within.upd_pending); (with_reducible apply Within.upd_optics); rfl)
    | with_reducible intro _
    | with_reducible show Within _ _ (ite _ _ _)
    | ((with_reducible show Within _ _ (id _)); exact Within.refl _ _)
    | dsimp +zetaDelta only
    | ((fail_if_success with_reducible apply Within.upd_pending); (with_reducible apply Within.upd_optics); rfl)

theorem execSpareWarmDone_next {a0 : _} {a1 : _} {a2 : _} {m : Nat} {s : State} (c : 940576772 &&& m = 940576772) :
    WithinNext m s (execSpareWarmDone a0 a1 a2 s) := WithinNext.mono (execSpareWarmDone_within a0 a1 a2 s) c

theorem execLaserAgeingTick_within : ∀ a0 a1 a2 a3 a4 (s : State), WithinNext 4096 s (execLaserAgeingTick a0 a1 a2 a3 a4 s) := by
  intro a0 a1 a2 a3 a4 s
  unfold execLaserAgeingTick
  repeat' first
    | with_reducible exact Within.refl _ _
    | assumption
    | ((with_reducible apply State.setLaser_step); rfl)
    | with_reducible apply WithinNext.ok
    | exact WithinNext.fault _
    | ((with_reducible apply Within.stepEach); intro _ _)
    | split
    | extract_lets
    | with_reducible intro _
    | with_reducible show Within _ _ (ite _ _ _)
    | ((with_reducible show Within _ _ (id _)); exact Within.refl _ _)
    | dsimp +zetaDelta only

theorem execLaserAgeingTick_next {a0 : _} {a1 : _} {a2 : _} {a3 : _} {a4 : _} {m : Nat} {s : State} (c : 4096 &&& m = 4096) :
    WithinNext m s (execLaserAgeingTick a0 a1 a2 a3 a4 s) := WithinNext.mono (execLaserAgeingTick_within a0 a1 a2 a3 a4 s) c


/-! ## Machine/Ether.lean -/

theorem State.admitFrame_within : ∀ (s : State) a1 a2, Within 16 s (State.admitFrame s a1 a2) := by
  intro s a1 a2
  unfold State.admitFrame
  repeat' first
    | with_reducible exact Within.refl _ _
    | assumption
    | ((with_reducible apply Within.stepEach); intro _ _)
    | split
    | extract_lets
    | ((fail_if_success with_reducible apply Within.upd_pending); (with_reducible apply Within.upd_dp); rfl)
    | with_reducible intro _
    | with_reducible show Within _ _ (ite _ _ _)
    | ((with_reducible show Within _ _ (id _)); exact Within.refl _ _)
    | dsimp +zetaDelta only
    | ((fail_if_success with_reducible apply Within.upd_pending); (with_reducible apply Within.upd_dp); rfl)

theorem State.admitFrame_step {a1 : _} {a2 : _} {m : Nat} {r s : State} (c : 16 &&& m = 16) (h : Within m r s) :
    Within m r (State.admitFrame s a1 a2) := Within.step (State.admitFrame_within s a1 a2) c h

theorem State.answerEth_within : ∀ (s : State) a1, Within 2 s (State.answerEth s a1) := by
  intro s a1
  unfold State.answerEth
  repeat' first
    | with_reducible exact Within.refl _ _
    | assumption
    | ((with_reducible apply State.wrWords_step); rfl)
    | ((with_reducible apply State.status_step); rfl)
    | ((with_reducible apply Within.stepEach); intro _ _)
    | split
    | extract_lets
    | with_reducible intro _
    | with_reducible show Within _ _ (ite _ _ _)
    | ((with_reducible show Within _ _ (id _)); exact Within.refl _ _)
    | dsimp +zetaDelta only

theorem State.answerEth_step {a1 : _} {m : Nat} {r s : State} (c : 2 &&& m = 2) (h : Within m r s) :
    Within m r (State.answerEth s a1) := Within.step (State.answerEth_within s a1) c h

theorem State.ethRead_within : ∀ (s : State) a1 a2 a3 a4 a5 a6 a7, Within 939524102 s (State.ethRead s a1 a2 a3 a4 a5 a6 a7) := by
  intro s a1 a2 a3 a4 a5 a6 a7
  unfold State.ethRead
  repeat' first
    | with_reducible exact Within.refl _ _
    | assumption
    | ((with_reducible apply State.gate_step); rfl)
    | ((with_reducible apply State.answerEth_step); rfl)
    | ((with_reducible apply State.status_step); rfl)
    | ((with_reducible apply Within.stepEach); intro _ _)
    | split
    | extract_lets
    | with_reducible intro _
    | with_reducible show Within _ _ (ite _ _ _)
    | ((with_reducible show Within _ _ (id _)); exact Within.refl _ _)
    | dsimp +zetaDelta only

theorem State.ethRead_step {a1 : _} {a2 : _} {a3 : _} {a4 : _} {a5 : _} {a6 : _} {a7 : _} {m : Nat} {r s : State} (c : 939524102 &&& m = 939524102) (h : Within m r s) :
    Within m r (State.ethRead s a1 a2 a3 a4 a5 a6 a7) := Within.step (State.ethRead_within s a1 a2 a3 a4 a5 a6 a7) c h

theorem State.setRouteShadow_within : ∀ (s : State) a1 a2, Within 32 s (State.setRouteShadow s a1 a2) := by
  intro s a1 a2
  unfold State.setRouteShadow
  repeat' first
    | with_reducible exact Within.refl _ _
    | assumption
    | ((with_reducible apply Within.stepEach); intro _ _)
    | split
    | extract_lets
    | ((fail_if_success with_reducible apply Within.upd_pending); (with_reducible apply Within.upd_tab); rfl)
    | with_reducible intro _
    | with_reducible show Within _ _ (ite _ _ _)
    | ((with_reducible show Within _ _ (id _)); exact Within.refl _ _)
    | dsimp +zetaDelta only
    | ((fail_if_success with_reducible apply Within.upd_pending); (with_reducible apply Within.upd_tab); rfl)

theorem State.setRouteShadow_step {a1 : _} {a2 : _} {m : Nat} {r s : State} (c : 32 &&& m = 32) (h : Within m r s) :
    Within m r (State.setRouteShadow s a1 a2) := Within.step (State.setRouteShadow_within s a1 a2) c h

theorem execEthReadActive_within : ∀ a0 a1 a2 (s : State), WithinNext 939524102 s (execEthReadActive a0 a1 a2 s) := by
  intro a0 a1 a2 s
  unfold execEthReadActive
  repeat' first
    | with_reducible exact Within.refl _ _
    | assumption
    | ((with_reducible apply State.ethRead_step); rfl)
    | with_reducible apply WithinNext.ok
    | exact WithinNext.fault _
    | ((with_reducible apply Within.stepEach); intro _ _)
    | split
    | extract_lets
    | with_reducible intro _
    | with_reducible show Within _ _ (ite _ _ _)
    | ((with_reducible show Within _ _ (id _)); exact Within.refl _ _)
    | dsimp +zetaDelta only

theorem execEthReadActive_next {a0 : _} {a1 : _} {a2 : _} {m : Nat} {s : State} (c : 939524102 &&& m = 939524102) :
    WithinNext m s (execEthReadActive a0 a1 a2 s) := WithinNext.mono (execEthReadActive_within a0 a1 a2 s) c

theorem execEthReadEntry_within : ∀ a0 a1 a2 (s : State), WithinNext 939524102 s (execEthReadEntry a0 a1 a2 s) := by
  intro a0 a1 a2 s
  unfold execEthReadEntry
  repeat' first
    | with_reducible exact Within.refl _ _
    | assumption
    | ((with_reducible apply State.ethRead_step); rfl)
    | with_reducible apply WithinNext.ok
    | exact WithinNext.fault _
    | ((with_reducible apply Within.stepEach); intro _ _)
    | split
    | extract_lets
    | with_reducible intro _
    | with_reducible show Within _ _ (ite _ _ _)
    | ((with_reducible show Within _ _ (id _)); exact Within.refl _ _)
    | dsimp +zetaDelta only

theorem execEthReadEntry_next {a0 : _} {a1 : _} {a2 : _} {m : Nat} {s : State} (c : 939524102 &&& m = 939524102) :
    WithinNext m s (execEthReadEntry a0 a1 a2 s) := WithinNext.mono (execEthReadEntry_within a0 a1 a2 s) c

theorem State.writeRoute_within : ∀ (s : State) a1 a2, Within 34 s (State.writeRoute s a1 a2) := by
  intro s a1 a2
  unfold State.writeRoute
  repeat' first
    | with_reducible exact Within.refl _ _
    | assumption
    | ((with_reducible apply State.setRouteShadow_step); rfl)
    | ((with_reducible apply State.status_step); rfl)
    | ((with_reducible apply Within.stepEach); intro _ _)
    | split
    | extract_lets
    | with_reducible intro _
    | with_reducible show Within _ _ (ite _ _ _)
    | ((with_reducible show Within _ _ (id _)); exact Within.refl _ _)
    | dsimp +zetaDelta only

theorem State.writeRoute_step {a1 : _} {a2 : _} {m : Nat} {r s : State} (c : 34 &&& m = 34) (h : Within m r s) :
    Within m r (State.writeRoute s a1 a2) := Within.step (State.writeRoute_within s a1 a2) c h

theorem State.writeMac_within : ∀ (s : State) a1 a2, Within 4194306 s (State.writeMac s a1 a2) := by
  intro s a1 a2
  unfold State.writeMac
  repeat' first
    | with_reducible exact Within.refl _ _
    | assumption
    | ((with_reducible apply State.setMac_step); rfl)
    | ((with_reducible apply State.status_step); rfl)
    | ((with_reducible apply Within.stepEach); intro _ _)
    | split
    | extract_lets
    | with_reducible intro _
    | with_reducible show Within _ _ (ite _ _ _)
    | ((with_reducible show Within _ _ (id _)); exact Within.refl _ _)
    | dsimp +zetaDelta only

theorem State.writeMac_step {a1 : _} {a2 : _} {m : Nat} {r s : State} (c : 4194306 &&& m = 4194306) (h : Within m r s) :
    Within m r (State.writeMac s a1 a2) := Within.step (State.writeMac_within s a1 a2) c h

theorem execEthWriteEntry_within : ∀ a0 a1 a2 (s : State), WithinNext 943718438 s (execEthWriteEntry a0 a1 a2 s) := by
  intro a0 a1 a2 s
  unfold execEthWriteEntry
  repeat' first
    | with_reducible exact Within.refl _ _
    | assumption
    | ((with_reducible apply State.writeRoute_step); rfl)
    | ((with_reducible apply State.gate_step); rfl)
    | ((with_reducible apply State.writeMac_step); rfl)
    | ((with_reducible apply State.status_step); rfl)
    | with_reducible apply WithinNext.ok
    | exact WithinNext.fault _
    | ((with_reducible apply Within.stepEach); intro _ _)
    | split
    | extract_lets
    | ((fail_if_success with_reducible apply Within.upd_pending); (with_reducible apply Within.upd_tab); rfl)
    | with_reducible intro _
    | with_reducible show Within _ _ (ite _ _ _)
    | ((with_reducible show Within _ _ (id _)); exact Within.refl _ _)
    | dsimp +zetaDelta only
    | ((fail_if_success with_reducible apply Within.upd_pending); (with_reducible apply Within.upd_tab); rfl)

theorem execEthWriteEntry_next {a0 : _} {a1 : _} {a2 : _} {m : Nat} {s : State} (c : 943718438 &&& m = 943718438) :
    WithinNext m s (execEthWriteEntry a0 a1 a2 s) := WithinNext.mono (execEthWriteEntry_within a0 a1 a2 s) c

theorem execEthFrameReceive_within : ∀ a0 a1 (s : State), WithinNext 148 s (execEthFrameReceive a0 a1 s) := by
  intro a0 a1 s
  unfold execEthFrameReceive
  repeat' first
    | with_reducible exact Within.refl _ _
    | assumption
    | ((with_reducible apply State.bump_step); rfl)
    | ((with_reducible apply State.setPort_step); rfl)
    | ((with_reducible apply State.admitFrame_step); rfl)
    | ((with_reducible apply State.bumpPort_step); rfl)
    | ((with_reducible apply State.countDrop_step); rfl)
    | with_reducible apply WithinNext.ok
    | exact WithinNext.fault _
    | ((with_reducible apply Within.stepEach); intro _ _)
    | split
    | extract_lets
    | with_reducible intro _
    | with_reducible show Within _ _ (ite _ _ _)
    | ((with_reducible show Within _ _ (id _)); exact Within.refl _ _)
    | dsimp +zetaDelta only

theorem execEthFrameReceive_next {a0 : _} {a1 : _} {m : Nat} {s : State} (c : 148 &&& m = 148) :
    WithinNext m s (execEthFrameReceive a0 a1 s) := WithinNext.mono (execEthFrameReceive_within a0 a1 s) c

theorem execMacAgeingScan_within : ∀ a0 (s : State), WithinNext 4194304 s (execMacAgeingScan a0 s) := by
  intro a0 s
  unfold execMacAgeingScan
  repeat' first
    | with_reducible exact Within.refl _ _
    | assumption
    | with_reducible apply WithinNext.ok
    | exact WithinNext.fault _
    | ((with_reducible apply Within.stepEach); intro _ _)
    | split
    | extract_lets
    | ((fail_if_success with_reducible apply Within.upd_pending); (with_reducible apply Within.upd_macs); rfl)
    | with_reducible intro _
    | with_reducible show Within _ _ (ite _ _ _)
    | ((with_reducible show Within _ _ (id _)); exact Within.refl _ _)
    | dsimp +zetaDelta only
    | ((fail_if_success with_reducible apply Within.upd_pending); (with_reducible apply Within.upd_macs); rfl)

theorem execMacAgeingScan_next {a0 : _} {m : Nat} {s : State} (c : 4194304 &&& m = 4194304) :
    WithinNext m s (execMacAgeingScan a0 s) := WithinNext.mono (execMacAgeingScan_within a0 s) c


/-! ## Machine/Time.lean -/

theorem State.setPtp_within : ∀ (s : State) a1, Within 262144 s (State.setPtp s a1) := by
  intro s a1
  unfold State.setPtp
  repeat' first
    | with_reducible exact Within.refl _ _
    | assumption
    | ((with_reducible apply Within.stepEach); intro _ _)
    | split
    | extract_lets
    | ((fail_if_success with_reducible apply Within.upd_pending); (with_reducible apply Within.upd_timing); rfl)
    | with_reducible intro _
    | with_reducible show Within _ _ (ite _ _ _)
    | ((with_reducible show Within _ _ (id _)); exact Within.refl _ _)
    | dsimp +zetaDelta only
    | ((fail_if_success with_reducible apply Within.upd_pending); (with_reducible apply Within.upd_timing); rfl)

theorem State.setPtp_step {a1 : _} {m : Nat} {r s : State} (c : 262144 &&& m = 262144) (h : Within m r s) :
    Within m r (State.setPtp s a1) := Within.step (State.setPtp_within s a1) c h

theorem State.follow_within : ∀ (s : State) a1, Within 262144 s (State.follow s a1) := by
  intro s a1
  unfold State.follow
  repeat' first
    | with_reducible exact Within.refl _ _
    | assumption
    | ((with_reducible apply State.setPtp_step); rfl)
    | ((with_reducible apply Within.stepEach); intro _ _)
    | split
    | extract_lets
    | ((fail_if_success with_reducible apply Within.upd_pending); (with_reducible apply Within.upd_timing); rfl)
    | with_reducible intro _
    | with_reducible show Within _ _ (ite _ _ _)
    | ((with_reducible show Within _ _ (id _)); exact Within.refl _ _)
    | dsimp +zetaDelta only
    | ((fail_if_success with_reducible apply Within.upd_pending); (with_reducible apply Within.upd_timing); rfl)

theorem State.follow_step {a1 : _} {m : Nat} {r s : State} (c : 262144 &&& m = 262144) (h : Within m r s) :
    Within m r (State.follow s a1) := Within.step (State.follow_within s a1) c h

theorem State.announced_within : ∀ (s : State) a1, Within 262144 s (State.announced s a1) := by
  intro s a1
  unfold State.announced
  repeat' first
    | with_reducible exact Within.refl _ _
    | assumption
    | ((with_reducible apply State.follow_step); rfl)
    | ((with_reducible apply State.setPtp_step); rfl)
    | ((with_reducible apply Within.stepEach); intro _ _)
    | split
    | extract_lets
    | with_reducible intro _
    | with_reducible show Within _ _ (ite _ _ _)
    | ((with_reducible show Within _ _ (id _)); exact Within.refl _ _)
    | dsimp +zetaDelta only

theorem State.announced_step {a1 : _} {m : Nat} {r s : State} (c : 262144 &&& m = 262144) (h : Within m r s) :
    Within m r (State.announced s a1) := Within.step (State.announced_within s a1) c h

theorem State.timeEvent_within : ∀ (s : State) a1 a2 a3, Within 939524100 s (State.timeEvent s a1 a2 a3) := by
  intro s a1 a2 a3
  unfold State.timeEvent
  repeat' first
    | with_reducible exact Within.refl _ _
    | assumption
    | ((with_reducible apply State.raise_step); rfl)
    | ((with_reducible apply Within.stepEach); intro _ _)
    | split
    | extract_lets
    | with_reducible intro _
    | with_reducible show Within _ _ (ite _ _ _)
    | ((with_reducible show Within _ _ (id _)); exact Within.refl _ _)
    | dsimp +zetaDelta only

theorem State.timeEvent_step {a1 : _} {a2 : _} {a3 : _} {m : Nat} {r s : State} (c : 939524100 &&& m = 939524100) (h : Within m r s) :
    Within m r (State.timeEvent s a1 a2 a3) := Within.step (State.timeEvent_within s a1 a2 a3) c h

theorem State.bigOffset_within : ∀ (s : State) a1, Within 939786244 s (State.bigOffset s a1) := by
  intro s a1
  unfold State.bigOffset
  repeat' first
    | with_reducible exact Within.refl _ _
    | assumption
    | ((with_reducible apply State.timeEvent_step); rfl)
    | ((with_reducible apply Within.stepEach); intro _ _)
    | split
    | extract_lets
    | ((fail_if_success with_reducible apply Within.upd_pending); (with_reducible apply Within.upd_timing); rfl)
    | with_reducible intro _
    | with_reducible show Within _ _ (ite _ _ _)
    | ((with_reducible show Within _ _ (id _)); exact Within.refl _ _)
    | dsimp +zetaDelta only
    | ((fail_if_success with_reducible apply Within.upd_pending); (with_reducible apply Within.upd_timing); rfl)

theorem State.bigOffset_step {a1 : _} {m : Nat} {r s : State} (c : 939786244 &&& m = 939786244) (h : Within m r s) :
    Within m r (State.bigOffset s a1) := Within.step (State.bigOffset_within s a1) c h

theorem State.correctRate_within : ∀ (s : State), Within 8589934593 s (State.correctRate s) := by
  intro s
  unfold State.correctRate
  repeat' first
    | with_reducible exact Within.refl _ _
    | assumption
    | ((with_reducible apply State.tick_step); rfl)
    | ((with_reducible apply Within.stepEach); intro _ _)
    | split
    | extract_lets
    | ((fail_if_success with_reducible apply Within.upd_pending); (with_reducible apply Within.upd_clk); rfl)
    | with_reducible intro _
    | with_reducible show Within _ _ (ite _ _ _)
    | ((with_reducible show Within _ _ (id _)); exact Within.refl _ _)
    | dsimp +zetaDelta only
    | ((fail_if_success with_reducible apply Within.upd_pending); (with_reducible apply Within.upd_clk); rfl)

theorem State.correctRate_step  {m : Nat} {r s : State} (c : 8589934593 &&& m = 8589934593) (h : Within m r s) :
    Within m r (State.correctRate s) := Within.step (State.correctRate_within s) c h

theorem State.timeTo_within : ∀ (s : State) a1, Within 939786244 s (State.timeTo s a1) := by
  intro s a1
  unfold State.timeTo
  repeat' first
    | with_reducible exact Within.refl _ _
    | assumption
    | ((with_reducible apply State.timeEvent_step); rfl)
    | ((with_reducible apply Within.stepEach); intro _ _)
    | split
    | extract_lets
    | ((fail_if_success with_reducible apply Within.upd_pending); (with_reducible apply Within.upd_timing); rfl)
    | with_reducible intro _
    | with_reducible show Within _ _ (ite _ _ _)
    | ((with_reducible show Within _ _ (id _)); exact Within.refl _ _)
    | dsimp +zetaDelta only
    | ((fail_if_success with_reducible apply Within.upd_pending); (with_reducible apply Within.upd_timing); rfl)

theorem State.timeTo_step {a1 : _} {m : Nat} {r s : State} (c : 939786244 &&& m = 939786244) (h : Within m r s) :
    Within m r (State.timeTo s a1) := Within.step (State.timeTo_within s a1) c h

theorem State.retimeCommit_within : ∀ (s : State), Within 32 s (State.retimeCommit s) := by
  intro s
  unfold State.retimeCommit
  repeat' first
    | with_reducible exact Within.refl _ _
    | assumption
    | ((with_reducible apply Within.stepEach); intro _ _)
    | split
    | extract_lets
    | ((fail_if_success with_reducible apply Within.upd_pending); (with_reducible apply Within.upd_tab); rfl)
    | with_reducible intro _
    | with_reducible show Within _ _ (ite _ _ _)
    | ((with_reducible show Within _ _ (id _)); exact Within.refl _ _)
    | dsimp +zetaDelta only
    | ((fail_if_success with_reducible apply Within.upd_pending); (with_reducible apply Within.upd_tab); rfl)

theorem State.retimeCommit_step  {m : Nat} {r s : State} (c : 32 &&& m = 32) (h : Within m r s) :
    Within m r (State.retimeCommit s) := Within.step (State.retimeCommit_within s) c h

theorem State.firstLock_within : ∀ (s : State) a1, Within 952371237 s (State.firstLock s a1) := by
  intro s a1
  unfold State.firstLock
  repeat' first
    | with_reducible exact Within.refl _ _
    | assumption
    | ((with_reducible apply State.accountPlanes_step); rfl)
    | ((with_reducible apply State.retimeCommit_step); rfl)
    | ((with_reducible apply State.timeTo_step); rfl)
    | ((with_reducible apply Within.stepEach); intro _ _)
    | split
    | extract_lets
    | ((fail_if_success with_reducible apply Within.upd_pending); (with_reducible apply Within.upd_prism_macs_tel); rfl)
    | ((fail_if_success with_reducible apply Within.upd_pending); (with_reducible apply Within.upd_clk_tab_prism_timing_tel); rfl)
    | with_reducible intro _
    | with_reducible show Within _ _ (ite _ _ _)
    | ((with_reducible show Within _ _ (id _)); exact Within.refl _ _)
    | dsimp +zetaDelta only
    | ((fail_if_success with_reducible apply Within.upd_pending); (with_reducible apply Within.upd_prism_macs_tel); rfl)
    | ((fail_if_success with_reducible apply Within.upd_pending); (with_reducible apply Within.upd_clk_tab_prism_timing_tel); rfl)

theorem State.firstLock_step {a1 : _} {m : Nat} {r s : State} (c : 952371237 &&& m = 952371237) (h : Within m r s) :
    Within m r (State.firstLock s a1) := Within.step (State.firstLock_within s a1) c h

theorem State.measured_within : ∀ (s : State) a1, Within 9542305829 s (State.measured s a1) := by
  intro s a1
  unfold State.measured
  repeat' first
    | with_reducible exact Within.refl _ _
    | assumption
    | ((with_reducible apply State.correctRate_step); rfl)
    | ((with_reducible apply State.bigOffset_step); rfl)
    | ((with_reducible apply State.timeTo_step); rfl)
    | ((with_reducible apply State.firstLock_step); rfl)
    | ((with_reducible apply Within.stepEach); intro _ _)
    | split
    | extract_lets
    | ((fail_if_success with_reducible apply Within.upd_pending); (with_reducible apply Within.upd_timing); rfl)
    | with_reducible intro _
    | with_reducible show Within _ _ (ite _ _ _)
    | ((with_reducible show Within _ _ (id _)); exact Within.refl _ _)
    | dsimp +zetaDelta only
    | ((fail_if_success with_reducible apply Within.upd_pending); (with_reducible apply Within.upd_timing); rfl)

theorem State.measured_step {a1 : _} {m : Nat} {r s : State} (c : 9542305829 &&& m = 9542305829) (h : Within m r s) :
    Within m r (State.measured s a1) := Within.step (State.measured_within s a1) c h

theorem State.exchanged_within : ∀ (s : State) a1, Within 9542305829 s (State.exchanged s a1) := by
  intro s a1
  unfold State.exchanged
  repeat' first
    | with_reducible exact Within.refl _ _
    | assumption
    | ((with_reducible apply State.measured_step); rfl)
    | ((with_reducible apply State.setPtp_step); rfl)
    | ((with_reducible apply Within.stepEach); intro _ _)
    | split
    | extract_lets
    | ((fail_if_success with_reducible apply Within.upd_pending); (with_reducible apply Within.upd_timing); rfl)
    | with_reducible intro _
    | with_reducible show Within _ _ (ite _ _ _)
    | ((with_reducible show Within _ _ (id _)); exact Within.refl _ _)
    | dsimp +zetaDelta only
    | ((fail_if_success with_reducible apply Within.upd_pending); (with_reducible apply Within.upd_timing); rfl)

theorem State.exchanged_step {a1 : _} {m : Nat} {r s : State} (c : 9542305829 &&& m = 9542305829) (h : Within m r s) :
    Within m r (State.exchanged s a1) := Within.step (State.exchanged_within s a1) c h

theorem State.notePps_within : ∀ (s : State) a1, Within 262144 s (State.notePps s a1) := by
  intro s a1
  unfold State.notePps
  repeat' first
    | with_reducible exact Within.refl _ _
    | assumption
    | ((with_reducible apply Within.stepEach); intro _ _)
    | split
    | extract_lets
    | ((fail_if_success with_reducible apply Within.upd_pending); (with_reducible apply Within.upd_timing); rfl)
    | with_reducible intro _
    | with_reducible show Within _ _ (ite _ _ _)
    | ((with_reducible show Within _ _ (id _)); exact Within.refl _ _)
    | dsimp +zetaDelta only
    | ((fail_if_success with_reducible apply Within.upd_pending); (with_reducible apply Within.upd_timing); rfl)

theorem State.notePps_step {a1 : _} {m : Nat} {r s : State} (c : 262144 &&& m = 262144) (h : Within m r s) :
    Within m r (State.notePps s a1) := Within.step (State.notePps_within s a1) c h

theorem execTimeSet_within : ∀ (s : State), WithinNext 952371237 s (execTimeSet s) := by
  intro s
  unfold execTimeSet
  repeat' first
    | with_reducible exact Within.refl _ _
    | assumption
    | ((with_reducible apply State.gate_step); rfl)
    | ((with_reducible apply State.timeEvent_step); rfl)
    | ((with_reducible apply State.firstLock_step); rfl)
    | with_reducible apply WithinNext.ok
    | exact WithinNext.fault _
    | ((with_reducible apply Within.stepEach); intro _ _)
    | split
    | extract_lets
    | ((fail_if_success with_reducible apply Within.upd_pending); (with_reducible apply Within.upd_timing); rfl)
    | with_reducible intro _
    | with_reducible show Within _ _ (ite _ _ _)
    | ((with_reducible show Within _ _ (id _)); exact Within.refl _ _)
    | dsimp +zetaDelta only
    | ((fail_if_success with_reducible apply Within.upd_pending); (with_reducible apply Within.upd_timing); rfl)

theorem execTimeSet_next  {m : Nat} {s : State} (c : 952371237 &&& m = 952371237) :
    WithinNext m s (execTimeSet s) := WithinNext.mono (execTimeSet_within s) c

theorem execTimePacketTimer_within : ∀ (s : State), WithinNext 4294967300 s (execTimePacketTimer s) := by
  intro s
  unfold execTimePacketTimer
  repeat' first
    | with_reducible exact Within.refl _ _
    | assumption
    | ((with_reducible apply State.sendLocal_step); rfl)
    | with_reducible apply WithinNext.ok
    | exact WithinNext.fault _
    | ((with_reducible apply Within.stepEach); intro _ _)
    | split
    | extract_lets
    | with_reducible intro _
    | with_reducible show Within _ _ (ite _ _ _)
    | ((with_reducible show Within _ _ (id _)); exact Within.refl _ _)
    | dsimp +zetaDelta only

theorem execTimePacketTimer_next  {m : Nat} {s : State} (c : 4294967300 &&& m = 4294967300) :
    WithinNext m s (execTimePacketTimer s) := WithinNext.mono (execTimePacketTimer_within s) c

theorem execPtpMessageReceive_within : ∀ a0 (s : State), WithinNext 13837273125 s (execPtpMessageReceive a0 s) := by
  intro a0 s
  unfold execPtpMessageReceive
  repeat' first
    | with_reducible exact Within.refl _ _
    | assumption
    | ((with_reducible apply State.exchanged_step); rfl)
    | ((with_reducible apply State.announced_step); rfl)
    | ((with_reducible apply State.setPtp_step); rfl)
    | ((with_reducible apply State.emit_step); rfl)
    | with_reducible apply WithinNext.ok
    | exact WithinNext.fault _
    | ((with_reducible apply Within.stepEach); intro _ _)
    | split
    | extract_lets
    | with_reducible intro _
    | with_reducible show Within _ _ (ite _ _ _)
    | ((with_reducible show Within _ _ (id _)); exact Within.refl _ _)
    | dsimp +zetaDelta only

theorem execPtpMessageReceive_next {a0 : _} {m : Nat} {s : State} (c : 13837273125 &&& m = 13837273125) :
    WithinNext m s (execPtpMessageReceive a0 s) := WithinNext.mono (execPtpMessageReceive_within a0 s) c

theorem execPtpMessageTimer_within : ∀ a0 (s : State), WithinNext 4295229440 s (execPtpMessageTimer a0 s) := by
  intro a0 s
  unfold execPtpMessageTimer
  repeat' first
    | with_reducible exact Within.refl _ _
    | assumption
    | ((with_reducible apply State.setPtp_step); rfl)
    | ((with_reducible apply State.emit_step); rfl)
    | with_reducible apply WithinNext.ok
    | exact WithinNext.fault _
    | ((with_reducible apply Within.stepEach); intro _ _)
    | split
    | extract_lets
    | ((fail_if_success with_reducible apply Within.upd_pending); (with_reducible apply Within.upd_timing); rfl)
    | with_reducible intro _
    | with_reducible show Within _ _ (ite _ _ _)
    | ((with_reducible show Within _ _ (id _)); exact Within.refl _ _)
    | dsimp +zetaDelta only
    | ((fail_if_success with_reducible apply Within.upd_pending); (with_reducible apply Within.upd_timing); rfl)

theorem execPtpMessageTimer_next {a0 : _} {m : Nat} {s : State} (c : 4295229440 &&& m = 4295229440) :
    WithinNext m s (execPtpMessageTimer a0 s) := WithinNext.mono (execPtpMessageTimer_within a0 s) c

theorem execTimeMeasurement_within : ∀ a0 (s : State), WithinNext 9542305829 s (execTimeMeasurement a0 s) := by
  intro a0 s
  unfold execTimeMeasurement
  repeat' first
    | with_reducible exact Within.refl _ _
    | assumption
    | ((with_reducible apply State.measured_step); rfl)
    | with_reducible apply WithinNext.ok
    | exact WithinNext.fault _
    | ((with_reducible apply Within.stepEach); intro _ _)
    | split
    | extract_lets
    | with_reducible intro _
    | with_reducible show Within _ _ (ite _ _ _)
    | ((with_reducible show Within _ _ (id _)); exact Within.refl _ _)
    | dsimp +zetaDelta only

theorem execTimeMeasurement_next {a0 : _} {m : Nat} {s : State} (c : 9542305829 &&& m = 9542305829) :
    WithinNext m s (execTimeMeasurement a0 s) := WithinNext.mono (execTimeMeasurement_within a0 s) c

theorem execPpsEdge_within : ∀ a0 (s : State), WithinNext 952371237 s (execPpsEdge a0 s) := by
  intro a0 s
  unfold execPpsEdge
  repeat' first
    | with_reducible exact Within.refl _ _
    | assumption
    | ((with_reducible apply State.notePps_step); rfl)
    | ((with_reducible apply State.firstLock_step); rfl)
    | with_reducible apply WithinNext.ok
    | exact WithinNext.fault _
    | ((with_reducible apply Within.stepEach); intro _ _)
    | split
    | extract_lets
    | with_reducible intro _
    | with_reducible show Within _ _ (ite _ _ _)
    | ((with_reducible show Within _ _ (id _)); exact Within.refl _ _)
    | dsimp +zetaDelta only

theorem execPpsEdge_next {a0 : _} {m : Nat} {s : State} (c : 952371237 &&& m = 952371237) :
    WithinNext m s (execPpsEdge a0 s) := WithinNext.mono (execPpsEdge_within a0 s) c

theorem execTb0Realign_within : ∀ a0 a1 (s : State), WithinNext 948174852 s (execTb0Realign a0 a1 s) := by
  intro a0 a1 s
  unfold execTb0Realign
  repeat' first
    | with_reducible exact Within.refl _ _
    | assumption
    | ((with_reducible apply State.raise_step); rfl)
    | with_reducible apply WithinNext.ok
    | exact WithinNext.fault _
    | ((with_reducible apply Within.stepEach); intro _ _)
    | split
    | extract_lets
    | ((fail_if_success with_reducible apply Within.upd_pending); (with_reducible apply Within.upd_tel); rfl)
    | ((fail_if_success with_reducible apply Within.upd_pending); (with_reducible apply Within.upd_timing); rfl)
    | with_reducible intro _
    | with_reducible show Within _ _ (ite _ _ _)
    | ((with_reducible show Within _ _ (id _)); exact Within.refl _ _)
    | dsimp +zetaDelta only
    | ((fail_if_success with_reducible apply Within.upd_pending); (with_reducible apply Within.upd_tel); rfl)
    | ((fail_if_success with_reducible apply Within.upd_pending); (with_reducible apply Within.upd_timing); rfl)

theorem execTb0Realign_next {a0 : _} {a1 : _} {m : Nat} {s : State} (c : 948174852 &&& m = 948174852) :
    WithinNext m s (execTb0Realign a0 a1 s) := WithinNext.mono (execTb0Realign_within a0 a1 s) c

theorem execTimeSourceTimeout_within : ∀ (s : State), WithinNext 8489533445 s (execTimeSourceTimeout s) := by
  intro s
  unfold execTimeSourceTimeout
  repeat' first
    | with_reducible exact Within.refl _ _
    | assumption
    | ((with_reducible apply State.reach_step); rfl)
    | ((with_reducible apply State.timeTo_step); rfl)
    | with_reducible apply WithinNext.ok
    | exact WithinNext.fault _
    | ((with_reducible apply Within.stepEach); intro _ _)
    | split
    | extract_lets
    | with_reducible intro _
    | with_reducible show Within _ _ (ite _ _ _)
    | ((with_reducible show Within _ _ (id _)); exact Within.refl _ _)
    | dsimp +zetaDelta only

theorem execTimeSourceTimeout_next  {m : Nat} {s : State} (c : 8489533445 &&& m = 8489533445) :
    WithinNext m s (execTimeSourceTimeout s) := WithinNext.mono (execTimeSourceTimeout_within s) c


/-! ## Machine/HostRings.lean -/

theorem State.abortBuffers_within : ∀ (s : State) a1, Within 4295491588 s (State.abortBuffers s a1) := by
  intro s a1
  unfold State.abortBuffers
  repeat' first
    | with_reducible exact Within.refl _ _
    | assumption
    | ((with_reducible apply State.closeDesc_step); rfl)
    | ((with_reducible apply Within.stepEach); intro _ _)
    | split
    | extract_lets
    | ((fail_if_success with_reducible apply Within.upd_pending); (with_reducible apply Within.upd_host); rfl)
    | with_reducible intro _
    | with_reducible show Within _ _ (ite _ _ _)
    | ((with_reducible show Within _ _ (id _)); exact Within.refl _ _)
    | dsimp +zetaDelta only
    | ((fail_if_success with_reducible apply Within.upd_pending); (with_reducible apply Within.upd_host); rfl)

theorem State.abortBuffers_step {a1 : _} {m : Nat} {r s : State} (c : 4295491588 &&& m = 4295491588) (h : Within m r s) :
    Within m r (State.abortBuffers s a1) := Within.step (State.abortBuffers_within s a1) c h

theorem State.dropReport_within : ∀ (s : State), Within 956301318 s (State.dropReport s) := by
  intro s
  unfold State.dropReport
  repeat' first
    | with_reducible exact Within.refl _ _
    | assumption
    | ((with_reducible apply State.setF_step); rfl)
    | ((with_reducible apply State.raise_step); rfl)
    | ((with_reducible apply Within.stepEach); intro _ _)
    | split
    | extract_lets
    | ((fail_if_success with_reducible apply Within.upd_pending); (with_reducible apply Within.upd_boot); rfl)
    | with_reducible intro _
    | with_reducible show Within _ _ (ite _ _ _)
    | ((with_reducible show Within _ _ (id _)); exact Within.refl _ _)
    | dsimp +zetaDelta only
    | ((fail_if_success with_reducible apply Within.upd_pending); (with_reducible apply Within.upd_boot); rfl)

theorem State.dropReport_step  {m : Nat} {r s : State} (c : 956301318 &&& m = 956301318) (h : Within m r s) :
    Within m r (State.dropReport s) := Within.step (State.dropReport_within s) c h

theorem State.hostDown_within : ∀ (s : State) a1, Within 956825606 s (State.hostDown s a1) := by
  intro s a1
  unfold State.hostDown
  repeat' first
    | with_reducible exact Within.refl _ _
    | assumption
    | ((with_reducible apply State.raise_step); rfl)
    | ((with_reducible apply State.dropReport_step); rfl)
    | ((with_reducible apply Within.stepEach); intro _ _)
    | split
    | extract_lets
    | ((fail_if_success with_reducible apply Within.upd_pending); (with_reducible apply Within.upd_host); rfl)
    | with_reducible intro _
    | with_reducible show Within _ _ (ite _ _ _)
    | ((with_reducible show Within _ _ (id _)); exact Within.refl _ _)
    | dsimp +zetaDelta only
    | ((fail_if_success with_reducible apply Within.upd_pending); (with_reducible apply Within.upd_host); rfl)

theorem State.hostDown_step {a1 : _} {m : Nat} {r s : State} (c : 956825606 &&& m = 956825606) (h : Within m r s) :
    Within m r (State.hostDown s a1) := Within.step (State.hostDown_within s a1) c h

theorem State.askData_within : ∀ (s : State) a1 a2 a3, Within 4295491584 s (State.askData s a1 a2 a3) := by
  intro s a1 a2 a3
  induction a3 generalizing s a1 a2 with
  | zero => unfold State.askData; exact Within.refl _ _
  | succ x ih =>
  unfold State.askData
  repeat' first
    | with_reducible exact Within.refl _ _
    | assumption
    | (refine Within.step (ih _ _ _) (Nat.and_self _) ?_)
    | ((with_reducible apply State.hostRead_step); rfl)
    | ((with_reducible apply State.setRing_step); rfl)
    | ((with_reducible apply Within.stepEach); intro _ _)
    | split
    | extract_lets
    | with_reducible intro _
    | with_reducible show Within _ _ (ite _ _ _)
    | ((with_reducible show Within _ _ (id _)); exact Within.refl _ _)
    | dsimp +zetaDelta only

theorem State.askData_step {a1 : _} {a2 : _} {a3 : _} {m : Nat} {r s : State} (c : 4295491584 &&& m = 4295491584) (h : Within m r s) :
    Within m r (State.askData s a1 a2 a3) := Within.step (State.askData_within s a1 a2 a3) c h

theorem State.countData_within : ∀ (s : State) a1, Within 65536 s (State.countData s a1) := by
  intro s a1
  unfold State.countData
  repeat' first
    | with_reducible exact Within.refl _ _
    | assumption
    | ((with_reducible apply Within.stepEach); intro _ _)
    | split
    | extract_lets
    | ((fail_if_success with_reducible apply Within.upd_pending); (with_reducible apply Within.upd_req); rfl)
    | with_reducible intro _
    | with_reducible show Within _ _ (ite _ _ _)
    | ((with_reducible show Within _ _ (id _)); exact Within.refl _ _)
    | dsimp +zetaDelta only
    | ((fail_if_success with_reducible apply Within.upd_pending); (with_reducible apply Within.upd_req); rfl)

theorem State.countData_step {a1 : _} {m : Nat} {r s : State} (c : 65536 &&& m = 65536) (h : Within m r s) :
    Within m r (State.countData s a1) := Within.step (State.countData_within s a1) c h

theorem State.numbered_within : ∀ (s : State) a1, Within 16 s (State.numbered s a1).2 := by
  intro s a1
  unfold State.numbered
  repeat' first
    | with_reducible exact Within.refl _ _
    | assumption
    | ((with_reducible apply Within.stepEach); intro _ _)
    | split
    | extract_lets
    | ((fail_if_success with_reducible apply Within.upd_pending); (with_reducible apply Within.upd_dp); rfl)
    | with_reducible intro _
    | with_reducible show Within _ _ (ite _ _ _)
    | ((with_reducible show Within _ _ (id _)); exact Within.refl _ _)
    | dsimp +zetaDelta only
    | ((fail_if_success with_reducible apply Within.upd_pending); (with_reducible apply Within.upd_dp); rfl)

theorem State.numbered_step {a1 : _} {m : Nat} {r s : State} (c : 16 &&& m = 16) (h : Within m r s) :
    Within m r (State.numbered s a1).2 := Within.step (State.numbered_within s a1) c h

theorem State.sendOnPort_within : ∀ (s : State) a1 a2, Within 4295493908 s (State.sendOnPort s a1 a2) := by
  intro s a1 a2
  unfold State.sendOnPort
  repeat' first
    | with_reducible exact Within.refl _ _
    | assumption
    | ((with_reducible apply State.takeIn_step); rfl)
    | ((with_reducible apply Within.stepEach); intro _ _)
    | split
    | extract_lets
    | ((fail_if_success with_reducible apply Within.upd_pending); (with_reducible apply Within.upd_dp); rfl)
    | with_reducible intro _
    | with_reducible show Within _ _ (ite _ _ _)
    | ((with_reducible show Within _ _ (id _)); exact Within.refl _ _)
    | dsimp +zetaDelta only
    | ((fail_if_success with_reducible apply Within.upd_pending); (with_reducible apply Within.upd_dp); rfl)

theorem State.sendOnPort_step {a1 : _} {a2 : _} {m : Nat} {r s : State} (c : 4295493908 &&& m = 4295493908) (h : Within m r s) :
    Within m r (State.sendOnPort s a1 a2) := Within.step (State.sendOnPort_within s a1 a2) c h

theorem State.sendTx_within : ∀ (s : State) a1 a2 a3, Within 4295559444 s (State.sendTx s a1 a2 a3) := by
  intro s a1 a2 a3
  unfold State.sendTx
  repeat' first
    | with_reducible exact Within.refl _ _
    | assumption
    | ((with_reducible apply State.numbered_step); rfl)
    | (with_reducible refine Within.step (Within.ofSnd (by assumption) (State.numbered_within _ _)) rfl ?_)
    | ((with_reducible apply State.countData_step); rfl)
    | ((with_reducible apply State.originate_step); rfl)
    | ((with_reducible apply State.sendOnPort_step); rfl)
    | ((with_reducible apply State.endDesc_step); rfl)
    | ((with_reducible apply Within.stepEach); intro _ _)
    | split
    | extract_lets
    | ((fail_if_success with_reducible apply Within.upd_pending); (with_reducible apply Within.upd_host); rfl)
    | with_reducible intro _
    | with_reducible show Within _ _ (ite _ _ _)
    | ((with_reducible show Within _ _ (id _)); exact Within.refl _ _)
    | dsimp +zetaDelta only
    | ((fail_if_success with_reducible apply Within.upd_pending); (with_reducible apply Within.upd_host); rfl)

theorem State.sendTx_step {a1 : _} {a2 : _} {a3 : _} {m : Nat} {r s : State} (c : 4295559444 &&& m = 4295559444) (h : Within m r s) :
    Within m r (State.sendTx s a1 a2 a3) := Within.step (State.sendTx_within s a1 a2 a3) c h

theorem State.dataCame_within : ∀ (s : State) a1 a2, Within 4295559444 s (State.dataCame s a1 a2) := by
  intro s a1 a2
  unfold State.dataCame
  repeat' first
    | with_reducible exact Within.refl _ _
    | assumption
    | ((with_reducible apply State.sendMore_step); rfl)
    | ((with_reducible apply State.setRing_step); rfl)
    | ((with_reducible apply State.sendTx_step); rfl)
    | ((with_reducible apply Within.stepEach); intro _ _)
    | split
    | extract_lets
    | with_reducible intro _
    | with_reducible show Within _ _ (ite _ _ _)
    | ((with_reducible show Within _ _ (id _)); exact Within.refl _ _)
    | dsimp +zetaDelta only

theorem State.dataCame_step {a1 : _} {a2 : _} {m : Nat} {r s : State} (c : 4295559444 &&& m = 4295559444) (h : Within m r s) :
    Within m r (State.dataCame s a1 a2) := Within.step (State.dataCame_within s a1 a2) c h

theorem State.setAux_within : ∀ (s : State) a1 a2, Within 524288 s (State.setAux s a1 a2) := by
  intro s a1 a2
  unfold State.setAux
  repeat' first
    | with_reducible exact Within.refl _ _
    | assumption
    | ((with_reducible apply Within.stepEach); intro _ _)
    | split
    | extract_lets
    | ((fail_if_success with_reducible apply Within.upd_pending); (with_reducible apply Within.upd_host); rfl)
    | with_reducible intro _
    | with_reducible show Within _ _ (ite _ _ _)
    | ((with_reducible show Within _ _ (id _)); exact Within.refl _ _)
    | dsimp +zetaDelta only
    | ((fail_if_success with_reducible apply Within.upd_pending); (with_reducible apply Within.upd_host); rfl)

theorem State.setAux_step {a1 : _} {a2 : _} {m : Nat} {r s : State} (c : 524288 &&& m = 524288) (h : Within m r s) :
    Within m r (State.setAux s a1 a2) := Within.step (State.setAux_within s a1 a2) c h

theorem State.writeAux_within : ∀ (s : State) a1 a2, Within 4295491584 s (State.writeAux s a1 a2) := by
  intro s a1 a2
  unfold State.writeAux
  repeat' first
    | with_reducible exact Within.refl _ _
    | assumption
    | ((with_reducible apply State.setAux_step); rfl)
    | ((with_reducible apply State.hostWrites_step); rfl)
    | ((with_reducible apply Within.stepEach); intro _ _)
    | split
    | extract_lets
    | with_reducible intro _
    | with_reducible show Within _ _ (ite _ _ _)
    | ((with_reducible show Within _ _ (id _)); exact Within.refl _ _)
    | dsimp +zetaDelta only

theorem State.writeAux_step {a1 : _} {a2 : _} {m : Nat} {r s : State} (c : 4295491584 &&& m = 4295491584) (h : Within m r s) :
    Within m r (State.writeAux s a1 a2) := Within.step (State.writeAux_within s a1 a2) c h

theorem State.endEmpty_within : ∀ (s : State) a1 a2 a3, Within 4295491588 s (State.endEmpty s a1 a2 a3) := by
  intro s a1 a2 a3
  unfold State.endEmpty
  repeat' first
    | with_reducible exact Within.refl _ _
    | assumption
    | ((with_reducible apply State.closeDesc_step); rfl)
    | ((with_reducible apply State.endDesc_step); rfl)
    | ((with_reducible apply Within.stepEach); intro _ _)
    | split
    | extract_lets
    | with_reducible intro _
    | with_reducible show Within _ _ (ite _ _ _)
    | ((with_reducible show Within _ _ (id _)); exact Within.refl _ _)
    | dsimp +zetaDelta only

theorem State.endEmpty_step {a1 : _} {a2 : _} {a3 : _} {m : Nat} {r s : State} (c : 4295491588 &&& m = 4295491588) (h : Within m r s) :
    Within m r (State.endEmpty s a1 a2 a3) := Within.step (State.endEmpty_within s a1 a2 a3) c h

theorem State.markStarted_within : ∀ (s : State) a1 a2, Within 524288 s (State.markStarted s a1 a2) := by
  intro s a1 a2
  unfold State.markStarted
  repeat' first
    | with_reducible exact Within.refl _ _
    | assumption
    | ((with_reducible apply State.setRing_step); rfl)
    | ((with_reducible apply Within.stepEach); intro _ _)
    | split
    | extract_lets
    | with_reducible intro _
    | with_reducible show Within _ _ (ite _ _ _)
    | ((with_reducible show Within _ _ (id _)); exact Within.refl _ _)
    | dsimp +zetaDelta only

theorem State.markStarted_step {a1 : _} {a2 : _} {m : Nat} {r s : State} (c : 524288 &&& m = 524288) (h : Within m r s) :
    Within m r (State.markStarted s a1 a2) := Within.step (State.markStarted_within s a1 a2) c h

theorem State.failFront_within : ∀ (s : State) a1 a2, Within 4295491588 s (State.failFront s a1 a2) := by
  intro s a1 a2
  induction a2 generalizing s a1 with
  | zero => unfold State.failFront; exact Within.refl _ _
  | succ x ih =>
  unfold State.failFront
  repeat' first
    | with_reducible exact Within.refl _ _
    | assumption
    | (refine Within.step (ih _ _) (Nat.and_self _) ?_)
    | ((with_reducible apply State.markStarted_step); rfl)
    | ((with_reducible apply State.endDesc_step); rfl)
    | ((with_reducible apply Within.stepEach); intro _ _)
    | split
    | extract_lets
    | with_reducible intro _
    | with_reducible show Within _ _ (ite _ _ _)
    | ((with_reducible show Within _ _ (id _)); exact Within.refl _ _)
    | dsimp +zetaDelta only

theorem State.failFront_step {a1 : _} {a2 : _} {m : Nat} {r s : State} (c : 4295491588 &&& m = 4295491588) (h : Within m r s) :
    Within m r (State.failFront s a1 a2) := Within.step (State.failFront_within s a1 a2) c h

theorem State.fetchMore_within : ∀ (s : State) a1 a2, Within 4295491584 s (State.fetchMore s a1 a2) := by
  intro s a1 a2
  induction a2 generalizing s a1 with
  | zero => unfold State.fetchMore; exact Within.refl _ _
  | succ x ih =>
  unfold State.fetchMore
  repeat' first
    | with_reducible exact Within.refl _ _
    | assumption
    | (refine Within.step (ih _ _) (Nat.and_self _) ?_)
    | ((with_reducible apply State.hostRead_step); rfl)
    | ((with_reducible apply State.setRing_step); rfl)
    | ((with_reducible apply Within.stepEach); intro _ _)
    | split
    | extract_lets
    | with_reducible intro _
    | with_reducible show Within _ _ (ite _ _ _)
    | ((with_reducible show Within _ _ (id _)); exact Within.refl _ _)
    | dsimp +zetaDelta only

theorem State.fetchMore_step {a1 : _} {a2 : _} {m : Nat} {r s : State} (c : 4295491584 &&& m = 4295491584) (h : Within m r s) :
    Within m r (State.fetchMore s a1 a2) := Within.step (State.fetchMore_within s a1 a2) c h

theorem State.hostMemEvent_within : ∀ (s : State) a1 a2 a3, Within 939524100 s (State.hostMemEvent s a1 a2 a3) := by
  intro s a1 a2 a3
  unfold State.hostMemEvent
  repeat' first
    | with_reducible exact Within.refl _ _
    | assumption
    | ((with_reducible apply State.raise_step); rfl)
    | ((with_reducible apply Within.stepEach); intro _ _)
    | split
    | extract_lets
    | with_reducible intro _
    | with_reducible show Within _ _ (ite _ _ _)
    | ((with_reducible show Within _ _ (id _)); exact Within.refl _ _)
    | dsimp +zetaDelta only

theorem State.hostMemEvent_step {a1 : _} {a2 : _} {a3 : _} {m : Nat} {r s : State} (c : 939524100 &&& m = 939524100) (h : Within m r s) :
    Within m r (State.hostMemEvent s a1 a2 a3) := Within.step (State.hostMemEvent_within s a1 a2 a3) c h

theorem State.hostUp_within : ∀ (s : State), Within 5235015684 s (State.hostUp s) := by
  intro s
  unfold State.hostUp
  repeat' first
    | with_reducible exact Within.refl _ _
    | assumption
    | ((with_reducible apply State.hostRead_step); rfl)
    | ((with_reducible apply State.raise_step); rfl)
    | ((with_reducible apply State.pageCause_step); rfl)
    | ((with_reducible apply Within.stepEach); intro _ _)
    | split
    | extract_lets
    | ((fail_if_success with_reducible apply Within.upd_pending); (with_reducible apply Within.upd_host); rfl)
    | ((fail_if_success with_reducible apply Within.upd_pending); (with_reducible apply Within.upd_host_out); rfl)
    | with_reducible intro _
    | with_reducible show Within _ _ (ite _ _ _)
    | ((with_reducible show Within _ _ (id _)); exact Within.refl _ _)
    | dsimp +zetaDelta only
    | ((fail_if_success with_reducible apply Within.upd_pending); (with_reducible apply Within.upd_host); rfl)
    | ((fail_if_success with_reducible apply Within.upd_pending); (with_reducible apply Within.upd_host_out); rfl)

theorem State.hostUp_step  {m : Nat} {r s : State} (c : 5235015684 &&& m = 5235015684) (h : Within m r s) :
    Within m r (State.hostUp s) := Within.step (State.hostUp_within s) c h

theorem State.hostResume_within : ∀ (s : State), Within 5235015684 s (State.hostResume s) := by
  intro s
  unfold State.hostResume
  repeat' first
    | with_reducible exact Within.refl _ _
    | assumption
    | ((with_reducible apply State.hostUp_step); rfl)
    | ((with_reducible apply Within.stepEach); intro _ _)
    | split
    | extract_lets
    | ((fail_if_success with_reducible apply Within.upd_pending); (with_reducible apply Within.upd_host); rfl)
    | with_reducible intro _
    | with_reducible show Within _ _ (ite _ _ _)
    | ((with_reducible show Within _ _ (id _)); exact Within.refl _ _)
    | dsimp +zetaDelta only
    | ((fail_if_success with_reducible apply Within.upd_pending); (with_reducible apply Within.upd_host); rfl)

theorem State.hostResume_step  {m : Nat} {r s : State} (c : 5235015684 &&& m = 5235015684) (h : Within m r s) :
    Within m r (State.hostResume s) := Within.step (State.hostResume_within s) c h

theorem State.pump_within : ∀ (s : State) a1, Within 4295491584 s (State.pump s a1) := by
  intro s a1
  unfold State.pump
  repeat' first
    | with_reducible exact Within.refl _ _
    | assumption
    | ((with_reducible apply State.fetchMore_step); rfl)
    | ((with_reducible apply State.askData_step); rfl)
    | ((with_reducible apply Within.stepEach); intro _ _)
    | split
    | extract_lets
    | with_reducible intro _
    | with_reducible show Within _ _ (ite _ _ _)
    | ((with_reducible show Within _ _ (id _)); exact Within.refl _ _)
    | dsimp +zetaDelta only

theorem State.pump_step {a1 : _} {m : Nat} {r s : State} (c : 4295491584 &&& m = 4295491584) (h : Within m r s) :
    Within m r (State.pump s a1) := Within.step (State.pump_within s a1) c h

theorem State.ringError_within : ∀ (s : State) a1, Within 5235015684 s (State.ringError s a1) := by
  intro s a1
  unfold State.ringError
  repeat' first
    | with_reducible exact Within.refl _ _
    | assumption
    | ((with_reducible apply State.complete_step); rfl)
    | ((with_reducible apply State.raise_step); rfl)
    | ((with_reducible apply State.setRing_step); rfl)
    | ((with_reducible apply Within.stepEach); intro _ _)
    | split
    | extract_lets
    | with_reducible intro _
    | with_reducible show Within _ _ (ite _ _ _)
    | ((with_reducible show Within _ _ (id _)); exact Within.refl _ _)
    | dsimp +zetaDelta only

theorem State.ringError_step {a1 : _} {m : Nat} {r s : State} (c : 5235015684 &&& m = 5235015684) (h : Within m r s) :
    Within m r (State.ringError s a1) := Within.step (State.ringError_within s a1) c h

theorem State.settleRing_within : ∀ (s : State) a1, Within 4295491588 s (State.settleRing s a1) := by
  intro s a1
  unfold State.settleRing
  repeat' first
    | with_reducible exact Within.refl _ _
    | assumption
    | ((with_reducible apply State.failFront_step); rfl)
    | ((with_reducible apply Within.stepEach); intro _ _)
    | split
    | extract_lets
    | with_reducible intro _
    | with_reducible show Within _ _ (ite _ _ _)
    | ((with_reducible show Within _ _ (id _)); exact Within.refl _ _)
    | dsimp +zetaDelta only

theorem State.settleRing_step {a1 : _} {m : Nat} {r s : State} (c : 4295491588 &&& m = 4295491588) (h : Within m r s) :
    Within m r (State.settleRing s a1) := Within.step (State.settleRing_within s a1) c h

theorem State.runDesc_step {a op : Nat} {d : Desc} {f : Desc → State → State} {m : Nat} {r s : State} (c : 4295491588 &&& m = 4295491588)
    (k : ∀ d x, Within m x (f d x)) (h : Within m r s) : Within m r (s.runDesc a op d f) := by
  refine Within.step (v := m) ?_ (Nat.and_self m) h
  unfold State.runDesc
  repeat' first
    | with_reducible exact Within.refl _ _
    | assumption
    | (refine Within.step (k _ _) (Nat.and_self _) ?_)
    | ((with_reducible apply State.settleRing_step); exact Within.covers (by decide) c)
    | ((with_reducible apply State.endEmpty_step); exact Within.covers (by decide) c)
    | split
    | extract_lets

theorem State.startMem_within : ∀ (s : State) a1 a2, Within 4295557136 s (State.startMem s a1 a2) := by
  intro s a1 a2
  unfold State.startMem
  repeat' first
    | with_reducible exact Within.refl _ _
    | assumption
    | ((with_reducible apply State.sendMore_step); rfl)
    | ((with_reducible apply State.setRing_step); rfl)
    | ((with_reducible apply State.askData_step); rfl)
    | ((with_reducible apply Within.stepEach); intro _ _)
    | split
    | extract_lets
    | with_reducible intro _
    | with_reducible show Within _ _ (ite _ _ _)
    | ((with_reducible show Within _ _ (id _)); exact Within.refl _ _)
    | dsimp +zetaDelta only

theorem State.startMem_step {a1 : _} {a2 : _} {m : Nat} {r s : State} (c : 4295557136 &&& m = 4295557136) (h : Within m r s) :
    Within m r (State.startMem s a1 a2) := Within.step (State.startMem_within s a1 a2) c h

theorem State.startOp_step {a op : Nat} {f : Desc → State → State} {m : Nat} {r s : State} (c : 4295491588 &&& m = 4295491588)
    (k : ∀ d x, Within m x (f d x)) (h : Within m r s) : Within m r (s.startOp a op f) := by
  refine Within.step (v := m) ?_ (Nat.and_self m) h
  unfold State.startOp
  repeat' first
    | with_reducible exact Within.refl _ _
    | assumption
    | (refine Within.step (k _ _) (Nat.and_self _) ?_)
    | ((with_reducible apply State.settleRing_step); exact Within.covers (by decide) c)
    | ((with_reducible apply State.markStarted_step); exact Within.covers (by decide) c)
    | ((with_reducible apply State.runDesc_step); exact Within.covers (by decide) c; exact k)
    | split
    | extract_lets

theorem State.takeIndices_within : ∀ (s : State) a1 a2, Within 5235015684 s (State.takeIndices s a1 a2) := by
  intro s a1 a2
  unfold State.takeIndices
  repeat' first
    | with_reducible exact Within.refl _ _
    | assumption
    | ((with_reducible apply State.ringError_step); rfl)
    | ((with_reducible apply State.setRing_step); rfl)
    | ((with_reducible apply Within.stepEach); intro _ _)
    | split
    | extract_lets
    | with_reducible intro _
    | with_reducible show Within _ _ (ite _ _ _)
    | ((with_reducible show Within _ _ (id _)); exact Within.refl _ _)
    | dsimp +zetaDelta only

theorem State.takeIndices_step {a1 : _} {a2 : _} {m : Nat} {r s : State} (c : 5235015684 &&& m = 5235015684) (h : Within m r s) :
    Within m r (State.takeIndices s a1 a2) := Within.step (State.takeIndices_within s a1 a2) c h

theorem State.takeRead_within : ∀ (s : State) a1, Within 524288 s (State.takeRead s a1).2 := by
  intro s a1
  unfold State.takeRead
  repeat' first
    | with_reducible exact Within.refl _ _
    | assumption
    | ((with_reducible apply Within.stepEach); intro _ _)
    | split
    | extract_lets
    | ((fail_if_success with_reducible apply Within.upd_pending); (with_reducible apply Within.upd_host); rfl)
    | with_reducible intro _
    | with_reducible show Within _ _ (ite _ _ _)
    | ((with_reducible show Within _ _ (id _)); exact Within.refl _ _)
    | dsimp +zetaDelta only
    | ((fail_if_success with_reducible apply Within.upd_pending); (with_reducible apply Within.upd_host); rfl)

theorem State.takeRead_step {a1 : _} {m : Nat} {r s : State} (c : 524288 &&& m = 524288) (h : Within m r s) :
    Within m r (State.takeRead s a1).2 := Within.step (State.takeRead_within s a1) c h

theorem execHostRingDisable_within : ∀ a0 a1 (s : State), WithinNext 5235015686 s (execHostRingDisable a0 a1 s) := by
  intro a0 a1 s
  unfold execHostRingDisable
  repeat' first
    | with_reducible exact Within.refl _ _
    | assumption
    | ((with_reducible apply State.store_step); rfl)
    | ((with_reducible apply State.gate_step); rfl)
    | ((with_reducible apply State.setRing_step); rfl)
    | ((with_reducible apply State.abortBuffers_step); rfl)
    | with_reducible apply WithinNext.ok
    | exact WithinNext.fault _
    | ((with_reducible apply Within.stepEach); intro _ _)
    | split
    | extract_lets
    | with_reducible intro _
    | with_reducible show Within _ _ (ite _ _ _)
    | ((with_reducible show Within _ _ (id _)); exact Within.refl _ _)
    | dsimp +zetaDelta only

theorem execHostRingDisable_next {a0 : _} {a1 : _} {m : Nat} {s : State} (c : 5235015686 &&& m = 5235015686) :
    WithinNext m s (execHostRingDisable a0 a1 s) := WithinNext.mono (execHostRingDisable_within a0 a1 s) c

theorem execAuxRingEnable_within : ∀ a0 a1 (s : State), WithinNext 5235015686 s (execAuxRingEnable a0 a1 s) := by
  intro a0 a1 s
  unfold execAuxRingEnable
  repeat' first
    | with_reducible exact Within.refl _ _
    | assumption
    | ((with_reducible apply State.store_step); rfl)
    | ((with_reducible apply State.setAux_step); rfl)
    | ((with_reducible apply State.gate_step); rfl)
    | ((with_reducible apply State.hostWrites_step); rfl)
    | with_reducible apply WithinNext.ok
    | exact WithinNext.fault _
    | ((with_reducible apply Within.stepEach); intro _ _)
    | split
    | extract_lets
    | with_reducible intro _
    | with_reducible show Within _ _ (ite _ _ _)
    | ((with_reducible show Within _ _ (id _)); exact Within.refl _ _)
    | dsimp +zetaDelta only

theorem execAuxRingEnable_next {a0 : _} {a1 : _} {m : Nat} {s : State} (c : 5235015686 &&& m = 5235015686) :
    WithinNext m s (execAuxRingEnable a0 a1 s) := WithinNext.mono (execAuxRingEnable_within a0 a1 s) c

theorem execHostRingEnable_within : ∀ a0 a1 (s : State), WithinNext 5235015686 s (execHostRingEnable a0 a1 s) := by
  intro a0 a1 s
  unfold execHostRingEnable
  repeat' first
    | with_reducible exact Within.refl _ _
    | assumption
    | ((with_reducible apply State.store_step); rfl)
    | ((with_reducible apply State.gate_step); rfl)
    | ((with_reducible apply State.hostWrites_step); rfl)
    | ((with_reducible apply State.setRing_step); rfl)
    | with_reducible apply WithinNext.ok
    | exact WithinNext.fault _
    | ((with_reducible apply Within.stepEach); intro _ _)
    | split
    | extract_lets
    | with_reducible intro _
    | with_reducible show Within _ _ (ite _ _ _)
    | ((with_reducible show Within _ _ (id _)); exact Within.refl _ _)
    | dsimp +zetaDelta only

theorem execHostRingEnable_next {a0 : _} {a1 : _} {m : Nat} {s : State} (c : 5235015686 &&& m = 5235015686) :
    WithinNext m s (execHostRingEnable a0 a1 s) := WithinNext.mono (execHostRingEnable_within a0 a1 s) c

theorem execInterruptModerationExpiry_within : ∀ a0 (s : State), WithinNext 7550271493 s (execInterruptModerationExpiry a0 s) := by
  intro a0 s
  unfold execInterruptModerationExpiry
  repeat' first
    | with_reducible exact Within.refl _ _
    | assumption
    | ((with_reducible apply State.setAux_step); rfl)
    | ((with_reducible apply State.hostWrites_step); rfl)
    | ((with_reducible apply State.setRing_step); rfl)
    | ((with_reducible apply State.reach_step); rfl)
    | with_reducible apply WithinNext.ok
    | exact WithinNext.fault _
    | ((with_reducible apply Within.stepEach); intro _ _)
    | split
    | extract_lets
    | with_reducible intro _
    | with_reducible show Within _ _ (ite _ _ _)
    | ((with_reducible show Within _ _ (id _)); exact Within.refl _ _)
    | dsimp +zetaDelta only

theorem execInterruptModerationExpiry_next {a0 : _} {m : Nat} {s : State} (c : 7550271493 &&& m = 7550271493) :
    WithinNext m s (execInterruptModerationExpiry a0 s) := WithinNext.mono (execInterruptModerationExpiry_within a0 s) c

theorem execHmemResponse_within : ∀ a0 a1 a2 (s : State), WithinNext 5235083540 s (execHmemResponse a0 a1 a2 s) := by
  intro a0 a1 a2 s
  unfold execHmemResponse
  repeat' first
    | with_reducible exact Within.refl _ _
    | assumption
    | ((with_reducible apply State.pump_step); rfl)
    | ((with_reducible apply State.settleRing_step); rfl)
    | ((with_reducible apply State.dataCame_step); rfl)
    | ((with_reducible apply State.hostMemEvent_step); rfl)
    | ((with_reducible apply State.pieceEnds_step); rfl)
    | ((with_reducible apply State.setRing_step); rfl)
    | ((with_reducible apply State.endDesc_step); rfl)
    | ((with_reducible apply State.takeRead_step); rfl)
    | (with_reducible refine Within.step (Within.ofSnd (by assumption) (State.takeRead_within _ _)) rfl ?_)
    | with_reducible apply WithinNext.ok
    | exact WithinNext.fault _
    | ((with_reducible apply Within.stepEach); intro _ _)
    | split
    | extract_lets
    | with_reducible intro _
    | with_reducible show Within _ _ (ite _ _ _)
    | ((with_reducible show Within _ _ (id _)); exact Within.refl _ _)
    | dsimp +zetaDelta only

theorem execHmemResponse_next {a0 : _} {a1 : _} {a2 : _} {m : Nat} {s : State} (c : 5235083540 &&& m = 5235083540) :
    WithinNext m s (execHmemResponse a0 a1 a2 s) := WithinNext.mono (execHmemResponse_within a0 a1 a2 s) c

theorem execMemRead_within : ∀ a0 (s : State), WithinNext 4295557140 s (execMemRead a0 s) := by
  intro a0 s
  unfold execMemRead
  repeat' first
    | with_reducible exact Within.refl _ _
    | assumption
    | ((with_reducible apply State.startMem_step); rfl)
    | ((with_reducible apply State.startOp_step); rfl)
    | with_reducible apply WithinNext.ok
    | exact WithinNext.fault _
    | ((with_reducible apply Within.stepEach); intro _ _)
    | split
    | extract_lets
    | with_reducible intro _
    | with_reducible show Within _ _ (ite _ _ _)
    | ((with_reducible show Within _ _ (id _)); exact Within.refl _ _)
    | dsimp +zetaDelta only

theorem execMemRead_next {a0 : _} {m : Nat} {s : State} (c : 4295557140 &&& m = 4295557140) :
    WithinNext m s (execMemRead a0 s) := WithinNext.mono (execMemRead_within a0 s) c

theorem execDescriptorFetch_within : ∀ a0 a1 a2 (s : State), WithinNext 5235015684 s (execDescriptorFetch a0 a1 a2 s) := by
  intro a0 a1 a2 s
  unfold execDescriptorFetch
  repeat' first
    | with_reducible exact Within.refl _ _
    | assumption
    | ((with_reducible apply State.pump_step); rfl)
    | ((with_reducible apply State.settleRing_step); rfl)
    | ((with_reducible apply State.hostMemEvent_step); rfl)
    | ((with_reducible apply State.setRing_step); rfl)
    | ((with_reducible apply State.takeRead_step); rfl)
    | (with_reducible refine Within.step (Within.ofSnd (by assumption) (State.takeRead_within _ _)) rfl ?_)
    | with_reducible apply WithinNext.ok
    | exact WithinNext.fault _
    | ((with_reducible apply Within.stepEach); intro _ _)
    | split
    | extract_lets
    | with_reducible intro _
    | with_reducible show Within _ _ (ite _ _ _)
    | ((with_reducible show Within _ _ (id _)); exact Within.refl _ _)
    | dsimp +zetaDelta only

theorem execDescriptorFetch_next {a0 : _} {a1 : _} {a2 : _} {m : Nat} {s : State} (c : 5235015684 &&& m = 5235015684) :
    WithinNext m s (execDescriptorFetch a0 a1 a2 s) := WithinNext.mono (execDescriptorFetch_within a0 a1 a2 s) c

theorem execHostLinkUp_within : ∀ a0 (s : State), WithinNext 5235015684 s (execHostLinkUp a0 s) := by
  intro a0 s
  unfold execHostLinkUp
  repeat' first
    | with_reducible exact Within.refl _ _
    | assumption
    | ((with_reducible apply State.hostUp_step); rfl)
    | with_reducible apply WithinNext.ok
    | exact WithinNext.fault _
    | ((with_reducible apply Within.stepEach); intro _ _)
    | split
    | extract_lets
    | ((fail_if_success with_reducible apply Within.upd_pending); (with_reducible apply Within.upd_host); rfl)
    | with_reducible intro _
    | with_reducible show Within _ _ (ite _ _ _)
    | ((with_reducible show Within _ _ (id _)); exact Within.refl _ _)
    | dsimp +zetaDelta only
    | ((fail_if_success with_reducible apply Within.upd_pending); (with_reducible apply Within.upd_host); rfl)

theorem execHostLinkUp_next {a0 : _} {m : Nat} {s : State} (c : 5235015684 &&& m = 5235015684) :
    WithinNext m s (execHostLinkUp a0 s) := WithinNext.mono (execHostLinkUp_within a0 s) c

theorem execTxPacket_within : ∀ a0 (s : State), WithinNext 4295491588 s (execTxPacket a0 s) := by
  intro a0 s
  unfold execTxPacket
  repeat' first
    | with_reducible exact Within.refl _ _
    | assumption
    | ((with_reducible apply State.askData_step); rfl)
    | ((with_reducible apply State.startOp_step); rfl)
    | with_reducible apply WithinNext.ok
    | exact WithinNext.fault _
    | ((with_reducible apply Within.stepEach); intro _ _)
    | split
    | extract_lets
    | with_reducible intro _
    | with_reducible show Within _ _ (ite _ _ _)
    | ((with_reducible show Within _ _ (id _)); exact Within.refl _ _)
    | dsimp +zetaDelta only

theorem execTxPacket_next {a0 : _} {m : Nat} {s : State} (c : 4295491588 &&& m = 4295491588) :
    WithinNext m s (execTxPacket a0 s) := WithinNext.mono (execTxPacket_within a0 s) c

theorem execDoorbellPageReturn_within : ∀ a0 a1 (s : State), WithinNext 5235015684 s (execDoorbellPageReturn a0 a1 s) := by
  intro a0 a1 s
  unfold execDoorbellPageReturn
  repeat' first
    | with_reducible exact Within.refl _ _
    | assumption
    | ((with_reducible apply State.pump_step); rfl)
    | ((with_reducible apply State.settleRing_step); rfl)
    | ((with_reducible apply State.takeIndices_step); rfl)
    | ((with_reducible apply State.pageCause_step); rfl)
    | with_reducible apply WithinNext.ok
    | exact WithinNext.fault _
    | ((with_reducible apply Within.stepEach); intro _ _)
    | split
    | extract_lets
    | ((fail_if_success with_reducible apply Within.upd_pending); (with_reducible apply Within.upd_host); rfl)
    | with_reducible intro _
    | with_reducible show Within _ _ (ite _ _ _)
    | ((with_reducible show Within _ _ (id _)); exact Within.refl _ _)
    | dsimp +zetaDelta only
    | ((fail_if_success with_reducible apply Within.upd_pending); (with_reducible apply Within.upd_host); rfl)

theorem execDoorbellPageReturn_next {a0 : _} {a1 : _} {m : Nat} {s : State} (c : 5235015684 &&& m = 5235015684) :
    WithinNext m s (execDoorbellPageReturn a0 a1 s) := WithinNext.mono (execDoorbellPageReturn_within a0 a1 s) c

theorem execMemAtomic_within : ∀ a0 (s : State), WithinNext 4295557140 s (execMemAtomic a0 s) := by
  intro a0 s
  unfold execMemAtomic
  repeat' first
    | with_reducible exact Within.refl _ _
    | assumption
    | ((with_reducible apply State.startMem_step); rfl)
    | ((with_reducible apply State.startOp_step); rfl)
    | with_reducible apply WithinNext.ok
    | exact WithinNext.fault _
    | ((with_reducible apply Within.stepEach); intro _ _)
    | split
    | extract_lets
    | with_reducible intro _
    | with_reducible show Within _ _ (ite _ _ _)
    | ((with_reducible show Within _ _ (id _)); exact Within.refl _ _)
    | dsimp +zetaDelta only

theorem execMemAtomic_next {a0 : _} {m : Nat} {s : State} (c : 4295557140 &&& m = 4295557140) :
    WithinNext m s (execMemAtomic a0 s) := WithinNext.mono (execMemAtomic_within a0 s) c

theorem execNudgeReceive_within : ∀ a0 (s : State), WithinNext 4295491588 s (execNudgeReceive a0 s) := by
  intro a0 s
  unfold execNudgeReceive
  repeat' first
    | with_reducible exact Within.refl _ _
    | assumption
    | ((with_reducible apply State.bump_step); rfl)
    | ((with_reducible apply State.pageCause_step); rfl)
    | with_reducible apply WithinNext.ok
    | exact WithinNext.fault _
    | ((with_reducible apply Within.stepEach); intro _ _)
    | split
    | extract_lets
    | with_reducible intro _
    | with_reducible show Within _ _ (ite _ _ _)
    | ((with_reducible show Within _ _ (id _)); exact Within.refl _ _)
    | dsimp +zetaDelta only

theorem execNudgeReceive_next {a0 : _} {m : Nat} {s : State} (c : 4295491588 &&& m = 4295491588) :
    WithinNext m s (execNudgeReceive a0 s) := WithinNext.mono (execNudgeReceive_within a0 s) c

theorem execHostNop_within : ∀ a0 (s : State), WithinNext 4295491588 s (execHostNop a0 s) := by
  intro a0 s
  unfold execHostNop
  repeat' first
    | with_reducible exact Within.refl _ _
    | assumption
    | ((with_reducible apply State.endDesc_step); rfl)
    | ((with_reducible apply State.startOp_step); rfl)
    | with_reducible apply WithinNext.ok
    | exact WithinNext.fault _
    | ((with_reducible apply Within.stepEach); intro _ _)
    | split
    | extract_lets
    | with_reducible intro _
    | with_reducible show Within _ _ (ite _ _ _)
    | ((with_reducible show Within _ _ (id _)); exact Within.refl _ _)
    | dsimp +zetaDelta only

theorem execHostNop_next {a0 : _} {m : Nat} {s : State} (c : 4295491588 &&& m = 4295491588) :
    WithinNext m s (execHostNop a0 s) := WithinNext.mono (execHostNop_within a0 s) c

theorem execMemWrite_within : ∀ a0 (s : State), WithinNext 4295557140 s (execMemWrite a0 s) := by
  intro a0 s
  unfold execMemWrite
  repeat' first
    | with_reducible exact Within.refl _ _
    | assumption
    | ((with_reducible apply State.startMem_step); rfl)
    | ((with_reducible apply State.startOp_step); rfl)
    | with_reducible apply WithinNext.ok
    | exact WithinNext.fault _
    | ((with_reducible apply Within.stepEach); intro _ _)
    | split
    | extract_lets
    | with_reducible intro _
    | with_reducible show Within _ _ (ite _ _ _)
    | ((with_reducible show Within _ _ (id _)); exact Within.refl _ _)
    | dsimp +zetaDelta only

theorem execMemWrite_next {a0 : _} {m : Nat} {s : State} (c : 4295557140 &&& m = 4295557140) :
    WithinNext m s (execMemWrite a0 s) := WithinNext.mono (execMemWrite_within a0 s) c

theorem execDoorbellPollTimer_within : ∀ (s : State), WithinNext 7550271493 s (execDoorbellPollTimer s) := by
  intro s
  unfold execDoorbellPollTimer
  repeat' first
    | with_reducible exact Within.refl _ _
    | assumption
    | ((with_reducible apply State.pageCause_step); rfl)
    | ((with_reducible apply State.reach_step); rfl)
    | with_reducible apply WithinNext.ok
    | exact WithinNext.fault _
    | ((with_reducible apply Within.stepEach); intro _ _)
    | split
    | extract_lets
    | with_reducible intro _
    | with_reducible show Within _ _ (ite _ _ _)
    | ((with_reducible show Within _ _ (id _)); exact Within.refl _ _)
    | dsimp +zetaDelta only

theorem execDoorbellPollTimer_next  {m : Nat} {s : State} (c : 7550271493 &&& m = 7550271493) :
    WithinNext m s (execDoorbellPollTimer s) := WithinNext.mono (execDoorbellPollTimer_within s) c

theorem execHostLinkDown_within : ∀ (s : State), WithinNext 956825606 s (execHostLinkDown s) := by
  intro s
  unfold execHostLinkDown
  repeat' first
    | with_reducible exact Within.refl _ _
    | assumption
    | ((with_reducible apply State.hostDown_step); rfl)
    | with_reducible apply WithinNext.ok
    | exact WithinNext.fault _
    | ((with_reducible apply Within.stepEach); intro _ _)
    | split
    | extract_lets
    | with_reducible intro _
    | with_reducible show Within _ _ (ite _ _ _)
    | ((with_reducible show Within _ _ (id _)); exact Within.refl _ _)
    | dsimp +zetaDelta only

theorem execHostLinkDown_next  {m : Nat} {s : State} (c : 956825606 &&& m = 956825606) :
    WithinNext m s (execHostLinkDown s) := WithinNext.mono (execHostLinkDown_within s) c

theorem execRxPost_within : ∀ a0 (s : State), WithinNext 4295491588 s (execRxPost a0 s) := by
  intro a0 s
  unfold execRxPost
  repeat' first
    | with_reducible exact Within.refl _ _
    | assumption
    | ((with_reducible apply State.startOp_step); rfl)
    | with_reducible apply WithinNext.ok
    | exact WithinNext.fault _
    | ((with_reducible apply Within.stepEach); intro _ _)
    | split
    | extract_lets
    | ((fail_if_success with_reducible apply Within.upd_pending); (with_reducible apply Within.upd_host); rfl)
    | with_reducible intro _
    | with_reducible show Within _ _ (ite _ _ _)
    | ((with_reducible show Within _ _ (id _)); exact Within.refl _ _)
    | dsimp +zetaDelta only
    | ((fail_if_success with_reducible apply Within.upd_pending); (with_reducible apply Within.upd_host); rfl)

theorem execRxPost_next {a0 : _} {m : Nat} {s : State} (c : 4295491588 &&& m = 4295491588) :
    WithinNext m s (execRxPost a0 s) := WithinNext.mono (execRxPost_within a0 s) c

theorem execEventDeliver_within : ∀ (s : State), WithinNext 5235015684 s (execEventDeliver s) := by
  intro s
  unfold execEventDeliver
  repeat' first
    | with_reducible exact Within.refl _ _
    | assumption
    | ((with_reducible apply State.writeAux_step); rfl)
    | ((with_reducible apply State.raise_step); rfl)
    | with_reducible apply WithinNext.ok
    | exact WithinNext.fault _
    | ((with_reducible apply Within.stepEach); intro _ _)
    | split
    | extract_lets
    | ((fail_if_success with_reducible apply Within.upd_pending); (with_reducible apply Within.upd_evLost); rfl)
    | ((fail_if_success with_reducible apply Within.upd_pending); (with_reducible apply Within.upd_evq); rfl)
    | with_reducible intro _
    | with_reducible show Within _ _ (ite _ _ _)
    | ((with_reducible show Within _ _ (id _)); exact Within.refl _ _)
    | dsimp +zetaDelta only
    | ((fail_if_success with_reducible apply Within.upd_pending); (with_reducible apply Within.upd_evLost); rfl)
    | ((fail_if_success with_reducible apply Within.upd_pending); (with_reducible apply Within.upd_evq); rfl)

theorem execEventDeliver_next  {m : Nat} {s : State} (c : 5235015684 &&& m = 5235015684) :
    WithinNext m s (execEventDeliver s) := WithinNext.mono (execEventDeliver_within s) c

end Sys2Proof.Machine
end

