-- ==== Sys2Proof/Laws/FramePower.lean ====
section
/-!
SUPPORT. Frames of domains, power, I3C, boot, telemetry, health, service: one lemma per operation and command, which parts of the state it can change.
-/

set_option linter.all false
namespace Sys2Proof.Machine

/-! ## Machine/Domains.lean -/

theorem State.remapLanes_within : ∀ (s : State) a1, Within 16386 s (State.remapLanes s a1) := by
  intro s a1
  unfold State.remapLanes
  repeat' first
    | with_reducible exact Within.refl _ _
    | assumption
    | ((with_reducible apply State.setF_step); rfl)
    | ((with_reducible apply State.setEngine_step); rfl)
    | ((with_reducible apply Within.stepEach); intro _ _)
    | split
    | extract_lets
    | with_reducible intro _
    | with_reducible show Within _ _ (ite _ _ _)
    | ((with_reducible show Within _ _ (id _)); exact Within.refl _ _)
    | dsimp +zetaDelta only

theorem State.remapLanes_step {a1 : _} {m : Nat} {r s : State} (c : 16386 &&& m = 16386) (h : Within m r s) :
    Within m r (State.remapLanes s a1) := Within.step (State.remapLanes_within s a1) c h

theorem State.domainEvent_within : ∀ (s : State) a1 a2, Within 939524100 s (State.domainEvent s a1 a2) := by
  intro s a1 a2
  unfold State.domainEvent
  repeat' first
    | with_reducible exact Within.refl _ _
    | assumption
    | ((with_reducible apply State.raise_step); rfl)
    | ((with_reducible apply Within.stepEach); intro _ _)
    | split
    | extract_lets
    | with_reducible intro _
    | with_reducible show Within _ _ (ite _ _ _)
    | ((with_reducible show Within _ _ (id _)); exact Within.refl _ _)
    | dsimp +zetaDelta only

theorem State.domainEvent_step {a1 : _} {a2 : _} {m : Nat} {r s : State} (c : 939524100 &&& m = 939524100) (h : Within m r s) :
    Within m r (State.domainEvent s a1 a2) := Within.step (State.domainEvent_within s a1 a2) c h

theorem State.opDone_within : ∀ (s : State) a1, Within 940572676 s (State.opDone s a1) := by
  intro s a1
  unfold State.opDone
  repeat' first
    | with_reducible exact Within.refl _ _
    | assumption
    | ((with_reducible apply State.domainEvent_step); rfl)
    | ((with_reducible apply State.endMaint_step); rfl)
    | ((with_reducible apply State.raise_step); rfl)
    | ((with_reducible apply Within.stepEach); intro _ _)
    | split
    | extract_lets
    | with_reducible intro _
    | with_reducible show Within _ _ (ite _ _ _)
    | ((with_reducible show Within _ _ (id _)); exact Within.refl _ _)
    | dsimp +zetaDelta only

theorem State.opDone_step {a1 : _} {m : Nat} {r s : State} (c : 940572676 &&& m = 940572676) (h : Within m r s) :
    Within m r (State.opDone s a1) := Within.step (State.opDone_within s a1) c h

theorem State.noteDomain_within : ∀ (s : State) a1, Within 8388608 s (State.noteDomain s a1) := by
  intro s a1
  unfold State.noteDomain
  repeat' first
    | with_reducible exact Within.refl _ _
    | assumption
    | ((with_reducible apply Within.stepEach); intro _ _)
    | split
    | extract_lets
    | ((fail_if_success with_reducible apply Within.upd_pending); (with_reducible apply Within.upd_tel); rfl)
    | with_reducible intro _
    | with_reducible show Within _ _ (ite _ _ _)
    | ((with_reducible show Within _ _ (id _)); exact Within.refl _ _)
    | dsimp +zetaDelta only
    | ((fail_if_success with_reducible apply Within.upd_pending); (with_reducible apply Within.upd_tel); rfl)

theorem State.noteDomain_step {a1 : _} {m : Nat} {r s : State} (c : 8388608 &&& m = 8388608) (h : Within m r s) :
    Within m r (State.noteDomain s a1) := Within.step (State.noteDomain_within s a1) c h

theorem State.forgetPeers_within : ∀ (s : State), Within 2564 s (State.forgetPeers s) := by
  intro s
  unfold State.forgetPeers
  repeat' first
    | with_reducible exact Within.refl _ _
    | assumption
    | ((with_reducible apply State.accountPlanes_step); rfl)
    | ((with_reducible apply Within.stepEach); intro _ _)
    | split
    | extract_lets
    | ((fail_if_success with_reducible apply Within.upd_pending); (with_reducible apply Within.upd_peers); rfl)
    | with_reducible intro _
    | with_reducible show Within _ _ (ite _ _ _)
    | ((with_reducible show Within _ _ (id _)); exact Within.refl _ _)
    | dsimp +zetaDelta only
    | ((fail_if_success with_reducible apply Within.upd_pending); (with_reducible apply Within.upd_peers); rfl)

theorem State.forgetPeers_step  {m : Nat} {r s : State} (c : 2564 &&& m = 2564) (h : Within m r s) :
    Within m r (State.forgetPeers s) := Within.step (State.forgetPeers_within s) c h

theorem State.portsLost_within : ∀ (s : State) a1, Within 4194768 s (State.portsLost s a1) := by
  intro s a1
  unfold State.portsLost
  repeat' first
    | with_reducible exact Within.refl _ _
    | assumption
    | ((with_reducible apply Within.stepEach); intro _ _)
    | split
    | extract_lets
    | ((fail_if_success with_reducible apply Within.upd_pending); (with_reducible apply Within.upd_dp_sched_ports_links_macs); rfl)
    | with_reducible intro _
    | with_reducible show Within _ _ (ite _ _ _)
    | ((with_reducible show Within _ _ (id _)); exact Within.refl _ _)
    | dsimp +zetaDelta only
    | ((fail_if_success with_reducible apply Within.upd_pending); (with_reducible apply Within.upd_dp_sched_ports_links_macs); rfl)

theorem State.portsLost_step {a1 : _} {m : Nat} {r s : State} (c : 4194768 &&& m = 4194768) (h : Within m r s) :
    Within m r (State.portsLost s a1) := Within.step (State.portsLost_within s a1) c h

theorem State.coreLost_within : ∀ (s : State), Within 8304 s (State.coreLost s) := by
  intro s
  unfold State.coreLost
  repeat' first
    | with_reducible exact Within.refl _ _
    | assumption
    | ((with_reducible apply Within.stepEach); intro _ _)
    | split
    | extract_lets
    | ((fail_if_success with_reducible apply Within.upd_pending); (with_reducible apply Within.upd_dp_tab_sched_canvas); rfl)
    | with_reducible intro _
    | with_reducible show Within _ _ (ite _ _ _)
    | ((with_reducible show Within _ _ (id _)); exact Within.refl _ _)
    | dsimp +zetaDelta only
    | ((fail_if_success with_reducible apply Within.upd_pending); (with_reducible apply Within.upd_dp_tab_sched_canvas); rfl)

theorem State.coreLost_step  {m : Nat} {r s : State} (c : 8304 &&& m = 8304) (h : Within m r s) :
    Within m r (State.coreLost s) := Within.step (State.coreLost_within s) c h

theorem State.resetDomain_within : ∀ (s : State) a1, Within 6 s (State.resetDomain s a1) := by
  intro s a1
  unfold State.resetDomain
  repeat' first
    | with_reducible exact Within.refl _ _
    | assumption
    | ((with_reducible apply Within.stepEach); intro _ _)
    | split
    | extract_lets
    | ((fail_if_success with_reducible apply Within.upd_pending); (with_reducible apply Within.upd_regs_cnt); rfl)
    | with_reducible intro _
    | with_reducible show Within _ _ (ite _ _ _)
    | ((with_reducible show Within _ _ (id _)); exact Within.refl _ _)
    | dsimp +zetaDelta only
    | ((fail_if_success with_reducible apply Within.upd_pending); (with_reducible apply Within.upd_regs_cnt); rfl)

theorem State.resetDomain_step {a1 : _} {m : Nat} {r s : State} (c : 6 &&& m = 6) (h : Within m r s) :
    Within m r (State.resetDomain s a1) := Within.step (State.resetDomain_within s a1) c h

theorem State.hbmLost_within : ∀ (s : State) a1, Within 9530695702 s (State.hbmLost s a1) := by
  intro s a1
  unfold State.hbmLost
  repeat' first
    | with_reducible exact Within.refl _ _
    | assumption
    | ((with_reducible apply State.canvasDieLost_step); rfl)
    | ((with_reducible apply State.homeLost_step); rfl)
    | ((with_reducible apply State.endMaint_step); rfl)
    | ((with_reducible apply State.resetDomain_step); rfl)
    | ((with_reducible apply State.pagesLost_step); rfl)
    | ((with_reducible apply State.setStack_step); rfl)
    | ((with_reducible apply State.stackTo_step); rfl)
    | ((with_reducible apply Within.stepEach); intro _ _)
    | split
    | extract_lets
    | ((fail_if_success with_reducible apply Within.upd_pending); (with_reducible apply Within.upd_homes_mem); rfl)
    | with_reducible intro _
    | with_reducible show Within _ _ (ite _ _ _)
    | ((with_reducible show Within _ _ (id _)); exact Within.refl _ _)
    | dsimp +zetaDelta only
    | ((fail_if_success with_reducible apply Within.upd_pending); (with_reducible apply Within.upd_homes_mem); rfl)

theorem State.hbmLost_step {a1 : _} {m : Nat} {r s : State} (c : 9530695702 &&& m = 9530695702) (h : Within m r s) :
    Within m r (State.hbmLost s a1) := Within.step (State.hbmLost_within s a1) c h

theorem State.dropRings_within : ∀ (s : State) a1, Within 16384 s (State.dropRings s a1) := by
  intro s a1
  unfold State.dropRings
  repeat' first
    | with_reducible exact Within.refl _ _
    | assumption
    | ((with_reducible apply State.setEngine_step); rfl)
    | ((with_reducible apply Within.stepEach); intro _ _)
    | split
    | extract_lets
    | ((fail_if_success with_reducible apply Within.upd_pending); (with_reducible apply Within.upd_pal); rfl)
    | with_reducible intro _
    | with_reducible show Within _ _ (ite _ _ _)
    | ((with_reducible show Within _ _ (id _)); exact Within.refl _ _)
    | dsimp +zetaDelta only
    | ((fail_if_success with_reducible apply Within.upd_pending); (with_reducible apply Within.upd_pal); rfl)

theorem State.dropRings_step {a1 : _} {m : Nat} {r s : State} (c : 16384 &&& m = 16384) (h : Within m r s) :
    Within m r (State.dropRings s a1) := Within.step (State.dropRings_within s a1) c h

theorem State.palLost_within : ∀ (s : State) a1 a2, Within 940761110 s (State.palLost s a1 a2) := by
  intro s a1 a2
  unfold State.palLost
  repeat' first
    | with_reducible exact Within.refl _ _
    | assumption
    | ((with_reducible apply State.updDie_step); rfl)
    | ((with_reducible apply State.remapLanes_step); rfl)
    | ((with_reducible apply State.endMaint_step); rfl)
    | ((with_reducible apply State.resetDomain_step); rfl)
    | ((with_reducible apply State.setEngState_step); rfl)
    | ((with_reducible apply State.dropRings_step); rfl)
    | ((with_reducible apply State.setEngine_step); rfl)
    | ((with_reducible apply State.engineLost_step); rfl)
    | ((with_reducible apply Within.stepEach); intro _ _)
    | split
    | extract_lets
    | ((fail_if_success with_reducible apply Within.upd_pending); (with_reducible apply Within.upd_pal); rfl)
    | with_reducible intro _
    | with_reducible show Within _ _ (ite _ _ _)
    | ((with_reducible show Within _ _ (id _)); exact Within.refl _ _)
    | dsimp +zetaDelta only
    | ((fail_if_success with_reducible apply Within.upd_pending); (with_reducible apply Within.upd_pal); rfl)

theorem State.palLost_step {a1 : _} {a2 : _} {m : Nat} {r s : State} (c : 940761110 &&& m = 940761110) (h : Within m r s) :
    Within m r (State.palLost s a1 a2) := Within.step (State.palLost_within s a1 a2) c h

theorem State.discardSpill_within : ∀ (s : State), Within 4295491924 s (State.discardSpill s) := by
  intro s
  unfold State.discardSpill
  repeat' first
    | with_reducible exact Within.refl _ _
    | assumption
    | ((with_reducible apply State.emptied_step); rfl)
    | ((with_reducible apply State.dropItem_step); rfl)
    | ((with_reducible apply Within.stepEach); intro _ _)
    | split
    | extract_lets
    | ((fail_if_success with_reducible apply Within.upd_pending); (with_reducible apply Within.upd_dp); rfl)
    | with_reducible intro _
    | with_reducible show Within _ _ (ite _ _ _)
    | ((with_reducible show Within _ _ (id _)); exact Within.refl _ _)
    | dsimp +zetaDelta only
    | ((fail_if_success with_reducible apply Within.upd_pending); (with_reducible apply Within.upd_dp); rfl)

theorem State.discardSpill_step  {m : Nat} {r s : State} (c : 4295491924 &&& m = 4295491924) (h : Within m r s) :
    Within m r (State.discardSpill s) := Within.step (State.discardSpill_within s) c h

theorem State.cxlLost_within : ∀ (s : State), Within 5236195670 s (State.cxlLost s) := by
  intro s
  unfold State.cxlLost
  repeat' first
    | with_reducible exact Within.refl _ _
    | assumption
    | ((with_reducible apply State.cxlDown_step); rfl)
    | ((with_reducible apply State.endMaint_step); rfl)
    | ((with_reducible apply State.resetDomain_step); rfl)
    | ((with_reducible apply State.discardSpill_step); rfl)
    | ((with_reducible apply Within.stepEach); intro _ _)
    | split
    | extract_lets
    | ((fail_if_success with_reducible apply Within.upd_pending); (with_reducible apply Within.upd_dp_mem); rfl)
    | with_reducible intro _
    | with_reducible show Within _ _ (ite _ _ _)
    | ((with_reducible show Within _ _ (id _)); exact Within.refl _ _)
    | dsimp +zetaDelta only
    | ((fail_if_success with_reducible apply Within.upd_pending); (with_reducible apply Within.upd_dp_mem); rfl)

theorem State.cxlLost_step  {m : Nat} {r s : State} (c : 5236195670 &&& m = 5236195670) (h : Within m r s) :
    Within m r (State.cxlLost s) := Within.step (State.cxlLost_within s) c h

theorem State.dropHubJobs_within : ∀ (s : State), Within 940572678 s (State.dropHubJobs s) := by
  intro s
  unfold State.dropHubJobs
  repeat' first
    | with_reducible exact Within.refl _ _
    | assumption
    | ((with_reducible apply State.setF_step); rfl)
    | ((with_reducible apply State.maintEvent_step); rfl)
    | ((with_reducible apply Within.stepEach); intro _ _)
    | split
    | extract_lets
    | ((fail_if_success with_reducible apply Within.upd_pending); (with_reducible apply Within.upd_maint); rfl)
    | with_reducible intro _
    | with_reducible show Within _ _ (ite _ _ _)
    | ((with_reducible show Within _ _ (id _)); exact Within.refl _ _)
    | dsimp +zetaDelta only
    | ((fail_if_success with_reducible apply Within.upd_pending); (with_reducible apply Within.upd_maint); rfl)

theorem State.dropHubJobs_step  {m : Nat} {r s : State} (c : 940572678 &&& m = 940572678) (h : Within m r s) :
    Within m r (State.dropHubJobs s) := Within.step (State.dropHubJobs_within s) c h

theorem State.hubLost_within : ∀ (s : State), Within 966459398 s (State.hubLost s) := by
  intro s
  unfold State.hubLost
  repeat' first
    | with_reducible exact Within.refl _ _
    | assumption
    | ((with_reducible apply State.resetDomain_step); rfl)
    | ((with_reducible apply State.dropHubJobs_step); rfl)
    | ((with_reducible apply State.hostDown_step); rfl)
    | ((with_reducible apply Within.stepEach); intro _ _)
    | split
    | extract_lets
    | ((fail_if_success with_reducible apply Within.upd_pending); (with_reducible apply Within.upd_many8); rfl)
    | with_reducible intro _
    | with_reducible show Within _ _ (ite _ _ _)
    | ((with_reducible show Within _ _ (id _)); exact Within.refl _ _)
    | dsimp +zetaDelta only
    | ((fail_if_success with_reducible apply Within.upd_pending); (with_reducible apply Within.upd_many8); rfl)

theorem State.hubLost_step  {m : Nat} {r s : State} (c : 966459398 &&& m = 966459398) (h : Within m r s) :
    Within m r (State.hubLost s) := Within.step (State.hubLost_within s) c h

theorem State.spineSideLost_within : ∀ (s : State), Within 3600 s (State.spineSideLost s) := by
  intro s
  unfold State.spineSideLost
  repeat' first
    | with_reducible exact Within.refl _ _
    | assumption
    | ((with_reducible apply Within.stepEach); intro _ _)
    | split
    | extract_lets
    | ((fail_if_success with_reducible apply Within.upd_pending); (with_reducible apply Within.upd_dp_peers_planes_prism); rfl)
    | with_reducible intro _
    | with_reducible show Within _ _ (ite _ _ _)
    | ((with_reducible show Within _ _ (id _)); exact Within.refl _ _)
    | dsimp +zetaDelta only
    | ((fail_if_success with_reducible apply Within.upd_pending); (with_reducible apply Within.upd_dp_peers_planes_prism); rfl)

theorem State.spineSideLost_step  {m : Nat} {r s : State} (c : 3600 &&& m = 3600) (h : Within m r s) :
    Within m r (State.spineSideLost s) := Within.step (State.spineSideLost_within s) c h

theorem State.lose_within : ∀ (s : State) a1 a2, Within 13855621110 s (State.lose s a1 a2) := by
  intro s a1 a2
  unfold State.lose
  repeat' first
    | with_reducible exact Within.refl _ _
    | assumption
    | ((with_reducible apply State.forgetPeers_step); rfl)
    | ((with_reducible apply State.portsLost_step); rfl)
    | ((with_reducible apply State.coreLost_step); rfl)
    | ((with_reducible apply State.resetDomain_step); rfl)
    | ((with_reducible apply State.hbmLost_step); rfl)
    | ((with_reducible apply State.palLost_step); rfl)
    | ((with_reducible apply State.cxlLost_step); rfl)
    | ((with_reducible apply State.hubLost_step); rfl)
    | ((with_reducible apply State.spineSideLost_step); rfl)
    | ((with_reducible apply Within.stepEach); intro _ _)
    | split
    | extract_lets
    | ((fail_if_success with_reducible apply Within.upd_pending); (with_reducible apply Within.upd_optics); rfl)
    | with_reducible intro _
    | with_reducible show Within _ _ (ite _ _ _)
    | ((with_reducible show Within _ _ (id _)); exact Within.refl _ _)
    | dsimp +zetaDelta only
    | ((fail_if_success with_reducible apply Within.upd_pending); (with_reducible apply Within.upd_optics); rfl)

theorem State.lose_step {a1 : _} {a2 : _} {m : Nat} {r s : State} (c : 13855621110 &&& m = 13855621110) (h : Within m r s) :
    Within m r (State.lose s a1 a2) := Within.step (State.lose_within s a1 a2) c h

theorem State.shutCrossings_within : ∀ (s : State) a1, Within 1073741824 s (State.shutCrossings s a1) := by
  intro s a1
  unfold State.shutCrossings
  repeat' first
    | with_reducible exact Within.refl _ _
    | assumption
    | ((with_reducible apply State.xShut_step); rfl)
    | ((with_reducible apply Within.stepEach); intro _ _)
    | split
    | extract_lets
    | with_reducible intro _
    | with_reducible show Within _ _ (ite _ _ _)
    | ((with_reducible show Within _ _ (id _)); exact Within.refl _ _)
    | dsimp +zetaDelta only

theorem State.shutCrossings_step {a1 : _} {m : Nat} {r s : State} (c : 1073741824 &&& m = 1073741824) (h : Within m r s) :
    Within m r (State.shutCrossings s a1) := Within.step (State.shutCrossings_within s a1) c h

theorem State.tryLink_within : ∀ (s : State) a1, Within 2097152 s (State.tryLink s a1) := by
  intro s a1
  unfold State.tryLink
  repeat' first
    | with_reducible exact Within.refl _ _
    | assumption
    | ((with_reducible apply Within.stepEach); intro _ _)
    | split
    | extract_lets
    | ((fail_if_success with_reducible apply Within.upd_pending); (with_reducible apply Within.upd_pwr); rfl)
    | with_reducible intro _
    | with_reducible show Within _ _ (ite _ _ _)
    | ((with_reducible show Within _ _ (id _)); exact Within.refl _ _)
    | dsimp +zetaDelta only
    | ((fail_if_success with_reducible apply Within.upd_pending); (with_reducible apply Within.upd_pwr); rfl)

theorem State.tryLink_step {a1 : _} {m : Nat} {r s : State} (c : 2097152 &&& m = 2097152) (h : Within m r s) :
    Within m r (State.tryLink s a1) := Within.step (State.tryLink_within s a1) c h

theorem State.dieLinkEvent_within : ∀ (s : State) a1, Within 939524100 s (State.dieLinkEvent s a1) := by
  intro s a1
  unfold State.dieLinkEvent
  repeat' first
    | with_reducible exact Within.refl _ _
    | assumption
    | ((with_reducible apply State.raise_step); rfl)
    | ((with_reducible apply Within.stepEach); intro _ _)
    | split
    | extract_lets
    | with_reducible intro _
    | with_reducible show Within _ _ (ite _ _ _)
    | ((with_reducible show Within _ _ (id _)); exact Within.refl _ _)
    | dsimp +zetaDelta only

theorem State.dieLinkEvent_step {a1 : _} {m : Nat} {r s : State} (c : 939524100 &&& m = 939524100) (h : Within m r s) :
    Within m r (State.dieLinkEvent s a1) := Within.step (State.dieLinkEvent_within s a1) c h

theorem State.dieLinkOff_within : ∀ (s : State) a1, Within 2015363078 s (State.dieLinkOff s a1) := by
  intro s a1
  unfold State.dieLinkOff
  repeat' first
    | with_reducible exact Within.refl _ _
    | assumption
    | ((with_reducible apply State.setF_step); rfl)
    | ((with_reducible apply State.xShut_step); rfl)
    | ((with_reducible apply State.tryLink_step); rfl)
    | ((with_reducible apply State.dieLinkEvent_step); rfl)
    | ((with_reducible apply Within.stepEach); intro _ _)
    | split
    | extract_lets
    | with_reducible intro _
    | with_reducible show Within _ _ (ite _ _ _)
    | ((with_reducible show Within _ _ (id _)); exact Within.refl _ _)
    | dsimp +zetaDelta only

theorem State.dieLinkOff_step {a1 : _} {m : Nat} {r s : State} (c : 2015363078 &&& m = 2015363078) (h : Within m r s) :
    Within m r (State.dieLinkOff s a1) := Within.step (State.dieLinkOff_within s a1) c h

theorem State.clamp_within : ∀ (s : State) a1 a2, Within 2015363078 s (State.clamp s a1 a2) := by
  intro s a1 a2
  unfold State.clamp
  repeat' first
    | with_reducible exact Within.refl _ _
    | assumption
    | ((with_reducible apply State.setF_step); rfl)
    | ((with_reducible apply State.dieLinkOff_step); rfl)
    | ((with_reducible apply Within.stepEach); intro _ _)
    | split
    | extract_lets
    | with_reducible intro _
    | with_reducible show Within _ _ (ite _ _ _)
    | ((with_reducible show Within _ _ (id _)); exact Within.refl _ _)
    | dsimp +zetaDelta only

theorem State.clamp_step {a1 : _} {a2 : _} {m : Nat} {r s : State} (c : 2015363078 &&& m = 2015363078) (h : Within m r s) :
    Within m r (State.clamp s a1 a2) := Within.step (State.clamp_within s a1 a2) c h

theorem State.enterDomain_within : ∀ (s : State) a1 a2, Within 14931460094 s (State.enterDomain s a1 a2) := by
  intro s a1 a2
  unfold State.enterDomain
  repeat' first
    | with_reducible exact Within.refl _ _
    | assumption
    | ((with_reducible apply State.accountPlanes_step); rfl)
    | ((with_reducible apply State.noteDomain_step); rfl)
    | ((with_reducible apply State.takeDown_step); rfl)
    | ((with_reducible apply State.lose_step); rfl)
    | ((with_reducible apply State.shutCrossings_step); rfl)
    | ((with_reducible apply State.deathByPlanes_step); rfl)
    | ((with_reducible apply State.cutBudgets_step); rfl)
    | ((with_reducible apply State.clamp_step); rfl)
    | ((with_reducible apply State.canvasEngines_step); rfl)
    | ((with_reducible apply State.emit_step); rfl)
    | ((with_reducible apply Within.stepEach); intro _ _)
    | split
    | extract_lets
    | ((fail_if_success with_reducible apply Within.upd_pending); (with_reducible apply Within.upd_dom_pwr); rfl)
    | with_reducible intro _
    | with_reducible show Within _ _ (ite _ _ _)
    | ((with_reducible show Within _ _ (id _)); exact Within.refl _ _)
    | dsimp +zetaDelta only
    | ((fail_if_success with_reducible apply Within.upd_pending); (with_reducible apply Within.upd_dom_pwr); rfl)

theorem State.enterDomain_step {a1 : _} {a2 : _} {m : Nat} {r s : State} (c : 14931460094 &&& m = 14931460094) (h : Within m r s) :
    Within m r (State.enterDomain s a1 a2) := Within.step (State.enterDomain_within s a1 a2) c h

theorem State.withdrawPorts_within : ∀ (s : State) a1 a2, Within 4294967300 s (State.withdrawPorts s a1 a2) := by
  intro s a1 a2
  unfold State.withdrawPorts
  repeat' first
    | with_reducible exact Within.refl _ _
    | assumption
    | ((with_reducible apply State.sendWithdraw_step); rfl)
    | ((with_reducible apply Within.stepEach); intro _ _)
    | split
    | extract_lets
    | with_reducible intro _
    | with_reducible show Within _ _ (ite _ _ _)
    | ((with_reducible show Within _ _ (id _)); exact Within.refl _ _)
    | dsimp +zetaDelta only

theorem State.withdrawPorts_step {a1 : _} {a2 : _} {m : Nat} {r s : State} (c : 4294967300 &&& m = 4294967300) (h : Within m r s) :
    Within m r (State.withdrawPorts s a1 a2) := Within.step (State.withdrawPorts_within s a1 a2) c h

theorem State.startDrainDomain_within : ∀ (s : State) a1 a2 a3, Within 5245001756 s (State.startDrainDomain s a1 a2 a3) := by
  intro s a1 a2 a3
  unfold State.startDrainDomain
  repeat' first
    | with_reducible exact Within.refl _ _
    | assumption
    | ((with_reducible apply State.noteDomain_step); rfl)
    | ((with_reducible apply State.retarget_step); rfl)
    | ((with_reducible apply State.setEngine_step); rfl)
    | ((with_reducible apply State.cutBudgets_step); rfl)
    | ((with_reducible apply State.canvasEngines_step); rfl)
    | ((with_reducible apply State.withdrawPorts_step); rfl)
    | ((with_reducible apply Within.stepEach); intro _ _)
    | split
    | extract_lets
    | ((fail_if_success with_reducible apply Within.upd_pending); (with_reducible apply Within.upd_dom_pwr); rfl)
    | with_reducible intro _
    | with_reducible show Within _ _ (ite _ _ _)
    | ((with_reducible show Within _ _ (id _)); exact Within.refl _ _)
    | dsimp +zetaDelta only
    | ((fail_if_success with_reducible apply Within.upd_pending); (with_reducible apply Within.upd_dom_pwr); rfl)

theorem State.startDrainDomain_step {a1 : _} {a2 : _} {a3 : _} {m : Nat} {r s : State} (c : 5245001756 &&& m = 5245001756) (h : Within m r s) :
    Within m r (State.startDrainDomain s a1 a2 a3) := Within.step (State.startDrainDomain_within s a1 a2 a3) c h

theorem State.runOp_within : ∀ (s : State) a1 a2, Within 14931460094 s (State.runOp s a1 a2).2 := by
  intro s a1 a2
  induction a2 generalizing s a1 with
  | zero => unfold State.runOp; exact Within.refl _ _
  | succ x ih =>
  unfold State.runOp
  repeat' first
    | with_reducible exact Within.refl _ _
    | assumption
    | (refine Within.step (ih _ _) (Nat.and_self _) ?_)
    | ((with_reducible apply State.opDone_step); rfl)
    | ((with_reducible apply State.enterDomain_step); rfl)
    | ((with_reducible apply State.startDrainDomain_step); rfl)
    | ((with_reducible apply Within.stepEach); intro _ _)
    | split
    | extract_lets
    | ((fail_if_success with_reducible apply Within.upd_pending); (with_reducible apply Within.upd_dom); rfl)
    | ((fail_if_success with_reducible apply Within.upd_pending); (with_reducible apply Within.upd_pwr); rfl)
    | ((fail_if_success with_reducible apply Within.upd_pending); (with_reducible apply Within.upd_dom_pwr); rfl)
    | ((fail_if_success with_reducible apply Within.upd_pending); (with_reducible apply Within.upd_pwr_boot); rfl)
    | with_reducible intro _
    | with_reducible show Within _ _ (ite _ _ _)
    | ((with_reducible show Within _ _ (id _)); exact Within.refl _ _)
    | dsimp +zetaDelta only
    | ((fail_if_success with_reducible apply Within.upd_pending); (with_reducible apply Within.upd_dom); rfl)
    | ((fail_if_success with_reducible apply Within.upd_pending); (with_reducible apply Within.upd_pwr); rfl)
    | ((fail_if_success with_reducible apply Within.upd_pending); (with_reducible apply Within.upd_dom_pwr); rfl)
    | ((fail_if_success with_reducible apply Within.upd_pending); (with_reducible apply Within.upd_pwr_boot); rfl)

theorem State.runOp_step {a1 : _} {a2 : _} {m : Nat} {r s : State} (c : 14931460094 &&& m = 14931460094) (h : Within m r s) :
    Within m r (State.runOp s a1 a2).2 := Within.step (State.runOp_within s a1 a2) c h

theorem State.runOps_within : ∀ (s : State) a1, Within 14931460094 s (State.runOps s a1) := by
  intro s a1
  induction a1 generalizing s with
  | nil => unfold State.runOps; exact Within.refl _ _
  | cons x l ih =>
  unfold State.runOps
  repeat' first
    | with_reducible exact Within.refl _ _
    | assumption
    | (refine Within.step (ih _) (Nat.and_self _) ?_)
    | ((with_reducible apply State.runOp_step); rfl)
    | (with_reducible refine Within.step (Within.ofSnd (by assumption) (State.runOp_within _ _ _)) rfl ?_)
    | ((with_reducible apply Within.stepEach); intro _ _)
    | split
    | extract_lets
    | ((fail_if_success with_reducible apply Within.upd_pending); (with_reducible apply Within.upd_pwr); rfl)
    | with_reducible intro _
    | with_reducible show Within _ _ (ite _ _ _)
    | ((with_reducible show Within _ _ (id _)); exact Within.refl _ _)
    | dsimp +zetaDelta only
    | ((fail_if_success with_reducible apply Within.upd_pending); (with_reducible apply Within.upd_pwr); rfl)

theorem State.runOps_step {a1 : _} {m : Nat} {r s : State} (c : 14931460094 &&& m = 14931460094) (h : Within m r s) :
    Within m r (State.runOps s a1) := Within.step (State.runOps_within s a1) c h

theorem State.advanceOps_within : ∀ (s : State) a1, Within 14931460094 s (State.advanceOps s a1) := by
  intro s a1
  induction a1 generalizing s with
  | zero => unfold State.advanceOps; exact Within.refl _ _
  | succ x ih =>
  unfold State.advanceOps
  repeat' first
    | with_reducible exact Within.refl _ _
    | assumption
    | (refine Within.step (ih _) (Nat.and_self _) ?_)
    | ((with_reducible apply State.runOps_step); rfl)
    | ((with_reducible apply Within.stepEach); intro _ _)
    | split
    | extract_lets
    | ((fail_if_success with_reducible apply Within.upd_pending); (with_reducible apply Within.upd_pwr); rfl)
    | with_reducible intro _
    | with_reducible show Within _ _ (ite _ _ _)
    | ((with_reducible show Within _ _ (id _)); exact Within.refl _ _)
    | dsimp +zetaDelta only
    | ((fail_if_success with_reducible apply Within.upd_pending); (with_reducible apply Within.upd_pwr); rfl)

theorem State.advanceOps_step {a1 : _} {m : Nat} {r s : State} (c : 14931460094 &&& m = 14931460094) (h : Within m r s) :
    Within m r (State.advanceOps s a1) := Within.step (State.advanceOps_within s a1) c h

theorem State.attempt_within : ∀ (s : State) a1, Within 16777218 s (State.attempt s a1) := by
  intro s a1
  unfold State.attempt
  repeat' first
    | with_reducible exact Within.refl _ _
    | assumption
    | ((with_reducible apply State.setF_step); rfl)
    | ((with_reducible apply Within.stepEach); intro _ _)
    | split
    | extract_lets
    | ((fail_if_success with_reducible apply Within.upd_pending); (with_reducible apply Within.upd_boot); rfl)
    | with_reducible intro _
    | with_reducible show Within _ _ (ite _ _ _)
    | ((with_reducible show Within _ _ (id _)); exact Within.refl _ _)
    | dsimp +zetaDelta only
    | ((fail_if_success with_reducible apply Within.upd_pending); (with_reducible apply Within.upd_boot); rfl)

theorem State.attempt_step {a1 : _} {m : Nat} {r s : State} (c : 16777218 &&& m = 16777218) (h : Within m r s) :
    Within m r (State.attempt s a1) := Within.step (State.attempt_within s a1) c h

theorem State.measure_within : ∀ (s : State) a1 a2, Within 956301318 s (State.measure s a1 a2) := by
  intro s a1 a2
  unfold State.measure
  repeat' first
    | with_reducible exact Within.refl _ _
    | assumption
    | ((with_reducible apply State.setF_step); rfl)
    | ((with_reducible apply State.raise_step); rfl)
    | ((with_reducible apply Within.stepEach); intro _ _)
    | split
    | extract_lets
    | ((fail_if_success with_reducible apply Within.upd_pending); (with_reducible apply Within.upd_boot); rfl)
    | with_reducible intro _
    | with_reducible show Within _ _ (ite _ _ _)
    | ((with_reducible show Within _ _ (id _)); exact Within.refl _ _)
    | dsimp +zetaDelta only
    | ((fail_if_success with_reducible apply Within.upd_pending); (with_reducible apply Within.upd_boot); rfl)

theorem State.measure_step {a1 : _} {a2 : _} {m : Nat} {r s : State} (c : 956301318 &&& m = 956301318) (h : Within m r s) :
    Within m r (State.measure s a1 a2) := Within.step (State.measure_within s a1 a2) c h

theorem State.startBoot_within : ∀ (s : State), Within 958398470 s (State.startBoot s) := by
  intro s
  unfold State.startBoot
  repeat' first
    | with_reducible exact Within.refl _ _
    | assumption
    | ((with_reducible apply State.attempt_step); rfl)
    | ((with_reducible apply State.setF_step); rfl)
    | ((with_reducible apply State.measure_step); rfl)
    | ((with_reducible apply Within.stepEach); intro _ _)
    | split
    | extract_lets
    | ((fail_if_success with_reducible apply Within.upd_pending); (with_reducible apply Within.upd_pwr_boot); rfl)
    | with_reducible intro _
    | with_reducible show Within _ _ (ite _ _ _)
    | ((with_reducible show Within _ _ (id _)); exact Within.refl _ _)
    | dsimp +zetaDelta only
    | ((fail_if_success with_reducible apply Within.upd_pending); (with_reducible apply Within.upd_pwr_boot); rfl)

theorem State.startBoot_step  {m : Nat} {r s : State} (c : 958398470 &&& m = 958398470) (h : Within m r s) :
    Within m r (State.startBoot s) := Within.step (State.startBoot_within s) c h

theorem State.domainsGo_within : ∀ (s : State), Within 14931460094 s (State.domainsGo s) := by
  intro s
  unfold State.domainsGo
  repeat' first
    | with_reducible exact Within.refl _ _
    | assumption
    | ((with_reducible apply State.advanceOps_step); rfl)
    | ((with_reducible apply State.startBoot_step); rfl)
    | ((with_reducible apply Within.stepEach); intro _ _)
    | split
    | extract_lets
    | with_reducible intro _
    | with_reducible show Within _ _ (ite _ _ _)
    | ((with_reducible show Within _ _ (id _)); exact Within.refl _ _)
    | dsimp +zetaDelta only

theorem State.domainsGo_step  {m : Nat} {r s : State} (c : 14931460094 &&& m = 14931460094) (h : Within m r s) :
    Within m r (State.domainsGo s) := Within.step (State.domainsGo_within s) c h

theorem State.addOp_within : ∀ (s : State) a1 a2 a3, Within 14931460094 s (State.addOp s a1 a2 a3) := by
  intro s a1 a2 a3
  unfold State.addOp
  repeat' first
    | with_reducible exact Within.refl _ _
    | assumption
    | ((with_reducible apply State.domainsGo_step); rfl)
    | ((with_reducible apply Within.stepEach); intro _ _)
    | split
    | extract_lets
    | ((fail_if_success with_reducible apply Within.upd_pending); (with_reducible apply Within.upd_pwr); rfl)
    | with_reducible intro _
    | with_reducible show Within _ _ (ite _ _ _)
    | ((with_reducible show Within _ _ (id _)); exact Within.refl _ _)
    | dsimp +zetaDelta only
    | ((fail_if_success with_reducible apply Within.upd_pending); (with_reducible apply Within.upd_pwr); rfl)

theorem State.addOp_step {a1 : _} {a2 : _} {a3 : _} {m : Nat} {r s : State} (c : 14931460094 &&& m = 14931460094) (h : Within m r s) :
    Within m r (State.addOp s a1 a2 a3) := Within.step (State.addOp_within s a1 a2 a3) c h

theorem State.opStep_within : ∀ (s : State) a1 a2, Within 2097152 s (State.opStep s a1 a2) := by
  intro s a1 a2
  unfold State.opStep
  repeat' first
    | with_reducible exact Within.refl _ _
    | assumption
    | ((with_reducible apply Within.stepEach); intro _ _)
    | split
    | extract_lets
    | ((fail_if_success with_reducible apply Within.upd_pending); (with_reducible apply Within.upd_pwr); rfl)
    | with_reducible intro _
    | with_reducible show Within _ _ (ite _ _ _)
    | ((with_reducible show Within _ _ (id _)); exact Within.refl _ _)
    | dsimp +zetaDelta only
    | ((fail_if_success with_reducible apply Within.upd_pending); (with_reducible apply Within.upd_pwr); rfl)

theorem State.opStep_step {a1 : _} {a2 : _} {m : Nat} {r s : State} (c : 2097152 &&& m = 2097152) (h : Within m r s) :
    Within m r (State.opStep s a1 a2) := Within.step (State.opStep_within s a1 a2) c h

theorem State.openCrossings_within : ∀ (s : State), Within 1073741824 s (State.openCrossings s) := by
  intro s
  unfold State.openCrossings
  repeat' first
    | with_reducible exact Within.refl _ _
    | assumption
    | ((with_reducible apply State.xAnnounce_step); rfl)
    | ((with_reducible apply Within.stepEach); intro _ _)
    | split
    | extract_lets
    | with_reducible intro _
    | with_reducible show Within _ _ (ite _ _ _)
    | ((with_reducible show Within _ _ (id _)); exact Within.refl _ _)
    | dsimp +zetaDelta only

theorem State.openCrossings_step  {m : Nat} {r s : State} (c : 1073741824 &&& m = 1073741824) (h : Within m r s) :
    Within m r (State.openCrossings s) := Within.step (State.openCrossings_within s) c h

theorem State.unitsOn_within : ∀ (s : State) a1 a2, Within 939548694 s (State.unitsOn s a1 a2) := by
  intro s a1 a2
  unfold State.unitsOn
  repeat' first
    | with_reducible exact Within.refl _ _
    | assumption
    | ((with_reducible apply State.retarget_step); rfl)
    | ((with_reducible apply State.setEngine_step); rfl)
    | ((with_reducible apply State.startWindow_step); rfl)
    | ((with_reducible apply State.stackTo_step); rfl)
    | ((with_reducible apply Within.stepEach); intro _ _)
    | split
    | extract_lets
    | with_reducible intro _
    | with_reducible show Within _ _ (ite _ _ _)
    | ((with_reducible show Within _ _ (id _)); exact Within.refl _ _)
    | dsimp +zetaDelta only

theorem State.unitsOn_step {a1 : _} {a2 : _} {m : Nat} {r s : State} (c : 939548694 &&& m = 939548694) (h : Within m r s) :
    Within m r (State.unitsOn s a1 a2) := Within.step (State.unitsOn_within s a1 a2) c h

theorem State.startBases_within : ∀ (s : State) a1, Within 262144 s (State.startBases s a1) := by
  intro s a1
  unfold State.startBases
  repeat' first
    | with_reducible exact Within.refl _ _
    | assumption
    | ((with_reducible apply Within.stepEach); intro _ _)
    | split
    | extract_lets
    | ((fail_if_success with_reducible apply Within.upd_pending); (with_reducible apply Within.upd_timing); rfl)
    | with_reducible intro _
    | with_reducible show Within _ _ (ite _ _ _)
    | ((with_reducible show Within _ _ (id _)); exact Within.refl _ _)
    | dsimp +zetaDelta only
    | ((fail_if_success with_reducible apply Within.upd_pending); (with_reducible apply Within.upd_timing); rfl)

theorem State.startBases_step {a1 : _} {m : Nat} {r s : State} (c : 262144 &&& m = 262144) (h : Within m r s) :
    Within m r (State.startBases s a1) := Within.step (State.startBases_within s a1) c h

theorem State.portsOn_within : ∀ (s : State) a1, Within 13826002388 s (State.portsOn s a1) := by
  intro s a1
  unfold State.portsOn
  repeat' first
    | with_reducible exact Within.refl _ _
    | assumption
    | ((with_reducible apply State.startListening_step); rfl)
    | ((with_reducible apply State.beginTraining_step); rfl)
    | ((with_reducible apply Within.stepEach); intro _ _)
    | split
    | extract_lets
    | with_reducible intro _
    | with_reducible show Within _ _ (ite _ _ _)
    | ((with_reducible show Within _ _ (id _)); exact Within.refl _ _)
    | dsimp +zetaDelta only

theorem State.portsOn_step {a1 : _} {m : Nat} {r s : State} (c : 13826002388 &&& m = 13826002388) (h : Within m r s) :
    Within m r (State.portsOn s a1) := Within.step (State.portsOn_within s a1) c h

theorem State.dieLinkOn_within : ∀ (s : State) a1 a2, Within 2013265926 s (State.dieLinkOn s a1 a2) := by
  intro s a1 a2
  unfold State.dieLinkOn
  repeat' first
    | with_reducible exact Within.refl _ _
    | assumption
    | ((with_reducible apply State.setF_step); rfl)
    | ((with_reducible apply State.xAnnounce_step); rfl)
    | ((with_reducible apply State.dieLinkEvent_step); rfl)
    | ((with_reducible apply Within.stepEach); intro _ _)
    | split
    | extract_lets
    | with_reducible intro _
    | with_reducible show Within _ _ (ite _ _ _)
    | ((with_reducible show Within _ _ (id _)); exact Within.refl _ _)
    | dsimp +zetaDelta only

theorem State.dieLinkOn_step {a1 : _} {a2 : _} {m : Nat} {r s : State} (c : 2013265926 &&& m = 2013265926) (h : Within m r s) :
    Within m r (State.dieLinkOn s a1 a2) := Within.step (State.dieLinkOn_within s a1 a2) c h

theorem State.trainDie_within : ∀ (s : State) a1 a2, Within 2015887366 s (State.trainDie s a1 a2) := by
  intro s a1 a2
  unfold State.trainDie
  repeat' first
    | with_reducible exact Within.refl _ _
    | assumption
    | ((with_reducible apply State.tryLink_step); rfl)
    | ((with_reducible apply State.dieLinkOn_step); rfl)
    | ((with_reducible apply Within.stepEach); intro _ _)
    | split
    | extract_lets
    | ((fail_if_success with_reducible apply Within.upd_pending); (with_reducible apply Within.upd_host); rfl)
    | with_reducible intro _
    | with_reducible show Within _ _ (ite _ _ _)
    | ((with_reducible show Within _ _ (id _)); exact Within.refl _ _)
    | dsimp +zetaDelta only
    | ((fail_if_success with_reducible apply Within.upd_pending); (with_reducible apply Within.upd_host); rfl)

theorem State.trainDie_step {a1 : _} {a2 : _} {m : Nat} {r s : State} (c : 2015887366 &&& m = 2015887366) (h : Within m r s) :
    Within m r (State.trainDie s a1 a2) := Within.step (State.trainDie_within s a1 a2) c h

theorem State.trainDies_within : ∀ (s : State) a1 a2, Within 2015887366 s (State.trainDies s a1 a2) := by
  intro s a1 a2
  unfold State.trainDies
  repeat' first
    | with_reducible exact Within.refl _ _
    | assumption
    | ((with_reducible apply State.trainDie_step); rfl)
    | ((with_reducible apply Within.stepEach); intro _ _)
    | split
    | extract_lets
    | with_reducible intro _
    | with_reducible show Within _ _ (ite _ _ _)
    | ((with_reducible show Within _ _ (id _)); exact Within.refl _ _)
    | dsimp +zetaDelta only

theorem State.trainDies_step {a1 : _} {a2 : _} {m : Nat} {r s : State} (c : 2015887366 &&& m = 2015887366) (h : Within m r s) :
    Within m r (State.trainDies s a1 a2) := Within.step (State.trainDies_within s a1 a2) c h

theorem State.hubBack_within : ∀ (s : State), Within 947912708 s (State.hubBack s) := by
  intro s
  unfold State.hubBack
  repeat' first
    | with_reducible exact Within.refl _ _
    | assumption
    | ((with_reducible apply State.bump_step); rfl)
    | ((with_reducible apply State.raise_step); rfl)
    | ((with_reducible apply Within.stepEach); intro _ _)
    | split
    | extract_lets
    | ((fail_if_success with_reducible apply Within.upd_pending); (with_reducible apply Within.upd_evLostOff); rfl)
    | ((fail_if_success with_reducible apply Within.upd_pending); (with_reducible apply Within.upd_tel); rfl)
    | with_reducible intro _
    | with_reducible show Within _ _ (ite _ _ _)
    | ((with_reducible show Within _ _ (id _)); exact Within.refl _ _)
    | dsimp +zetaDelta only
    | ((fail_if_success with_reducible apply Within.upd_pending); (with_reducible apply Within.upd_evLostOff); rfl)
    | ((fail_if_success with_reducible apply Within.upd_pending); (with_reducible apply Within.upd_tel); rfl)

theorem State.hubBack_step  {m : Nat} {r s : State} (c : 947912708 &&& m = 947912708) (h : Within m r s) :
    Within m r (State.hubBack s) := Within.step (State.hubBack_within s) c h

theorem State.domainOn_within : ∀ (s : State) a1 a2 a3, Within 14910516702 s (State.domainOn s a1 a2 a3) := by
  intro s a1 a2 a3
  unfold State.domainOn
  repeat' first
    | with_reducible exact Within.refl _ _
    | assumption
    | ((with_reducible apply State.accountPlanes_step); rfl)
    | ((with_reducible apply State.noteDomain_step); rfl)
    | ((with_reducible apply State.openCrossings_step); rfl)
    | ((with_reducible apply State.unitsOn_step); rfl)
    | ((with_reducible apply State.startBases_step); rfl)
    | ((with_reducible apply State.reconsider_step); rfl)
    | ((with_reducible apply State.portsOn_step); rfl)
    | ((with_reducible apply State.readbackAll_step); rfl)
    | ((with_reducible apply State.clamp_step); rfl)
    | ((with_reducible apply State.trainDies_step); rfl)
    | ((with_reducible apply State.canvasEngines_step); rfl)
    | ((with_reducible apply State.hubBack_step); rfl)
    | ((with_reducible apply Within.stepEach); intro _ _)
    | split
    | extract_lets
    | ((fail_if_success with_reducible apply Within.upd_pending); (with_reducible apply Within.upd_dom_pwr); rfl)
    | with_reducible intro _
    | with_reducible show Within _ _ (ite _ _ _)
    | ((with_reducible show Within _ _ (id _)); exact Within.refl _ _)
    | dsimp +zetaDelta only
    | ((fail_if_success with_reducible apply Within.upd_pending); (with_reducible apply Within.upd_dom_pwr); rfl)

theorem State.domainOn_step {a1 : _} {a2 : _} {a3 : _} {m : Nat} {r s : State} (c : 14910516702 &&& m = 14910516702) (h : Within m r s) :
    Within m r (State.domainOn s a1 a2 a3) := Within.step (State.domainOn_within s a1 a2 a3) c h

theorem State.countArriving_within : ∀ (s : State) a1, Within 1073741824 s (State.countArriving s a1) := by
  intro s a1
  unfold State.countArriving
  repeat' first
    | with_reducible exact Within.refl _ _
    | assumption
    | ((with_reducible apply State.setXing_step); rfl)
    | ((with_reducible apply Within.stepEach); intro _ _)
    | split
    | extract_lets
    | with_reducible intro _
    | with_reducible show Within _ _ (ite _ _ _)
    | ((with_reducible show Within _ _ (id _)); exact Within.refl _ _)
    | dsimp +zetaDelta only

theorem State.countArriving_step {a1 : _} {m : Nat} {r s : State} (c : 1073741824 &&& m = 1073741824) (h : Within m r s) :
    Within m r (State.countArriving s a1) := Within.step (State.countArriving_within s a1) c h

theorem State.dieLinkLost_within : ∀ (s : State) a1, Within 13842968022 s (State.dieLinkLost s a1) := by
  intro s a1
  unfold State.dieLinkLost
  repeat' first
    | with_reducible exact Within.refl _ _
    | assumption
    | ((with_reducible apply State.canvasDieLost_step); rfl)
    | ((with_reducible apply State.accrue_step); rfl)
    | ((with_reducible apply State.homeLost_step); rfl)
    | ((with_reducible apply State.takeDown_step); rfl)
    | ((with_reducible apply State.setEngState_step); rfl)
    | ((with_reducible apply State.rampDown_step); rfl)
    | ((with_reducible apply State.pagesLost_step); rfl)
    | ((with_reducible apply State.canvasEngines_step); rfl)
    | ((with_reducible apply State.engineLost_step); rfl)
    | ((with_reducible apply State.hostDown_step); rfl)
    | ((with_reducible apply Within.stepEach); intro _ _)
    | split
    | extract_lets
    | with_reducible intro _
    | with_reducible show Within _ _ (ite _ _ _)
    | ((with_reducible show Within _ _ (id _)); exact Within.refl _ _)
    | dsimp +zetaDelta only

theorem State.dieLinkLost_step {a1 : _} {m : Nat} {r s : State} (c : 13842968022 &&& m = 13842968022) (h : Within m r s) :
    Within m r (State.dieLinkLost s a1) := Within.step (State.dieLinkLost_within s a1) c h

theorem State.dropUnit_within : ∀ (s : State) a1 a2, Within 5369233684 s (State.dropUnit s a1 a2) := by
  intro s a1 a2
  unfold State.dropUnit
  repeat' first
    | with_reducible exact Within.refl _ _
    | assumption
    | ((with_reducible apply State.setUnitIn_step); rfl)
    | ((with_reducible apply State.dropItem_step); rfl)
    | ((with_reducible apply State.setXing_step); rfl)
    | ((with_reducible apply Within.stepEach); intro _ _)
    | split
    | extract_lets
    | with_reducible intro _
    | with_reducible show Within _ _ (ite _ _ _)
    | ((with_reducible show Within _ _ (id _)); exact Within.refl _ _)
    | dsimp +zetaDelta only

theorem State.dropUnit_step {a1 : _} {a2 : _} {m : Nat} {r s : State} (c : 5369233684 &&& m = 5369233684) (h : Within m r s) :
    Within m r (State.dropUnit s a1 a2) := Within.step (State.dropUnit_within s a1 a2) c h

theorem State.dropHeld_within : ∀ (s : State) a1 a2 a3, Within 4295491924 s (State.dropHeld s a1 a2 a3) := by
  intro s a1 a2 a3
  unfold State.dropHeld
  repeat' first
    | with_reducible exact Within.refl _ _
    | assumption
    | ((with_reducible apply State.emptied_step); rfl)
    | ((with_reducible apply State.dropItem_step); rfl)
    | ((with_reducible apply State.mcSettle_step); rfl)
    | ((with_reducible apply State.countDrop_step); rfl)
    | ((with_reducible apply Within.stepEach); intro _ _)
    | split
    | extract_lets
    | ((fail_if_success with_reducible apply Within.upd_pending); (with_reducible apply Within.upd_dp); rfl)
    | with_reducible intro _
    | with_reducible show Within _ _ (ite _ _ _)
    | ((with_reducible show Within _ _ (id _)); exact Within.refl _ _)
    | dsimp +zetaDelta only
    | ((fail_if_success with_reducible apply Within.upd_pending); (with_reducible apply Within.upd_dp); rfl)

theorem State.dropHeld_step {a1 : _} {a2 : _} {a3 : _} {m : Nat} {r s : State} (c : 4295491924 &&& m = 4295491924) (h : Within m r s) :
    Within m r (State.dropHeld s a1 a2 a3) := Within.step (State.dropHeld_within s a1 a2 a3) c h

theorem State.discardItems_within : ∀ (s : State) a1 a2, Within 5369233748 s (State.discardItems s a1 a2) := by
  intro s a1 a2
  unfold State.discardItems
  repeat' first
    | with_reducible exact Within.refl _ _
    | assumption
    | ((with_reducible apply State.countArriving_step); rfl)
    | ((with_reducible apply State.dropUnit_step); rfl)
    | ((with_reducible apply State.dropHeld_step); rfl)
    | ((with_reducible apply Within.stepEach); intro _ _)
    | split
    | extract_lets
    | with_reducible intro _
    | with_reducible show Within _ _ (ite _ _ _)
    | ((with_reducible show Within _ _ (id _)); exact Within.refl _ _)
    | dsimp +zetaDelta only

theorem State.discardItems_step {a1 : _} {a2 : _} {m : Nat} {r s : State} (c : 5369233748 &&& m = 5369233748) (h : Within m r s) :
    Within m r (State.discardItems s a1 a2) := Within.step (State.discardItems_within s a1 a2) c h

theorem State.discardEntries_within : ∀ (s : State) a1, Within 5369250132 s (State.discardEntries s a1) := by
  intro s a1
  unfold State.discardEntries
  repeat' first
    | with_reducible exact Within.refl _ _
    | assumption
    | ((with_reducible apply State.updDie_step); rfl)
    | ((with_reducible apply State.discardItems_step); rfl)
    | ((with_reducible apply Within.stepEach); intro _ _)
    | split
    | extract_lets
    | with_reducible intro _
    | with_reducible show Within _ _ (ite _ _ _)
    | ((with_reducible show Within _ _ (id _)); exact Within.refl _ _)
    | dsimp +zetaDelta only

theorem State.discardEntries_step {a1 : _} {m : Nat} {r s : State} (c : 5369250132 &&& m = 5369250132) (h : Within m r s) :
    Within m r (State.discardEntries s a1) := Within.step (State.discardEntries_within s a1) c h

theorem State.domStatus_within : ∀ (s : State) a1 a2, Within 2 s (State.domStatus s a1 a2) := by
  intro s a1 a2
  unfold State.domStatus
  repeat' first
    | with_reducible exact Within.refl _ _
    | assumption
    | ((with_reducible apply State.setF_step); rfl)
    | ((with_reducible apply Within.stepEach); intro _ _)
    | split
    | extract_lets
    | with_reducible intro _
    | with_reducible show Within _ _ (ite _ _ _)
    | ((with_reducible show Within _ _ (id _)); exact Within.refl _ _)
    | dsimp +zetaDelta only

theorem State.domStatus_step {a1 : _} {a2 : _} {m : Nat} {r s : State} (c : 2 &&& m = 2) (h : Within m r s) :
    Within m r (State.domStatus s a1 a2) := Within.step (State.domStatus_within s a1 a2) c h

theorem State.domAnswer_within : ∀ (s : State) a1 a2, Within 2 s (State.domAnswer s a1 a2) := by
  intro s a1 a2
  unfold State.domAnswer
  repeat' first
    | with_reducible exact Within.refl _ _
    | assumption
    | ((with_reducible apply State.domStatus_step); rfl)
    | ((with_reducible apply Within.stepEach); intro _ _)
    | split
    | extract_lets
    | with_reducible intro _
    | with_reducible show Within _ _ (ite _ _ _)
    | ((with_reducible show Within _ _ (id _)); exact Within.refl _ _)
    | dsimp +zetaDelta only

theorem State.domAnswer_step {a1 : _} {a2 : _} {m : Nat} {r s : State} (c : 2 &&& m = 2) (h : Within m r s) :
    Within m r (State.domAnswer s a1 a2) := Within.step (State.domAnswer_within s a1 a2) c h

theorem State.startDomainOp_within : ∀ a0 a1 (s : State), Within 14931460094 s (State.startDomainOp a0 a1 s) := by
  intro a0 a1 s
  unfold State.startDomainOp
  repeat' first
    | with_reducible exact Within.refl _ _
    | assumption
    | ((with_reducible apply State.addOp_step); rfl)
    | ((with_reducible apply Within.stepEach); intro _ _)
    | split
    | extract_lets
    | with_reducible intro _
    | with_reducible show Within _ _ (ite _ _ _)
    | ((with_reducible show Within _ _ (id _)); exact Within.refl _ _)
    | dsimp +zetaDelta only

theorem State.startDomainOp_step {a0 : _} {a1 : _} {m : Nat} {r s : State} (c : 14931460094 &&& m = 14931460094) (h : Within m r s) :
    Within m r (State.startDomainOp a0 a1 s) := Within.step (State.startDomainOp_within a0 a1 s) c h

theorem State.domDown_within : ∀ (s : State) a1 a2, Within 14931460094 s (State.domDown s a1 a2) := by
  intro s a1 a2
  unfold State.domDown
  repeat' first
    | with_reducible exact Within.refl _ _
    | assumption
    | ((with_reducible apply State.requestMaint_step); rfl)
    | ((with_reducible apply State.domStatus_step); rfl)
    | ((with_reducible apply State.startDomainOp_step); rfl)
    | ((with_reducible apply State.domAnswer_step); rfl)
    | ((with_reducible apply Within.stepEach); intro _ _)
    | split
    | extract_lets
    | ((fail_if_success with_reducible apply Within.upd_pending); (with_reducible apply Within.upd_pwr); rfl)
    | with_reducible intro _
    | with_reducible show Within _ _ (ite _ _ _)
    | ((with_reducible show Within _ _ (id _)); exact Within.refl _ _)
    | dsimp +zetaDelta only
    | ((fail_if_success with_reducible apply Within.upd_pending); (with_reducible apply Within.upd_pwr); rfl)

theorem State.domDown_step {a1 : _} {a2 : _} {m : Nat} {r s : State} (c : 14931460094 &&& m = 14931460094) (h : Within m r s) :
    Within m r (State.domDown s a1 a2) := Within.step (State.domDown_within s a1 a2) c h

theorem State.shutIsland_within : ∀ (s : State) a1, Within 1073741824 s (State.shutIsland s a1) := by
  intro s a1
  unfold State.shutIsland
  repeat' first
    | with_reducible exact Within.refl _ _
    | assumption
    | ((with_reducible apply State.xShut_step); rfl)
    | ((with_reducible apply Within.stepEach); intro _ _)
    | split
    | extract_lets
    | with_reducible intro _
    | with_reducible show Within _ _ (ite _ _ _)
    | ((with_reducible show Within _ _ (id _)); exact Within.refl _ _)
    | dsimp +zetaDelta only

theorem State.shutIsland_step {a1 : _} {m : Nat} {r s : State} (c : 1073741824 &&& m = 1073741824) (h : Within m r s) :
    Within m r (State.shutIsland s a1) := Within.step (State.shutIsland_within s a1) c h

theorem State.openIsland_within : ∀ (s : State) a1, Within 1073741824 s (State.openIsland s a1) := by
  intro s a1
  unfold State.openIsland
  repeat' first
    | with_reducible exact Within.refl _ _
    | assumption
    | ((with_reducible apply State.openCrossings_step); rfl)
    | ((with_reducible apply State.xAnnounce_step); rfl)
    | ((with_reducible apply Within.stepEach); intro _ _)
    | split
    | extract_lets
    | with_reducible intro _
    | with_reducible show Within _ _ (ite _ _ _)
    | ((with_reducible show Within _ _ (id _)); exact Within.refl _ _)
    | dsimp +zetaDelta only

theorem State.openIsland_step {a1 : _} {m : Nat} {r s : State} (c : 1073741824 &&& m = 1073741824) (h : Within m r s) :
    Within m r (State.openIsland s a1) := Within.step (State.openIsland_within s a1) c h

theorem execDomainRetention_within : ∀ a0 (s : State), WithinNext 14931460094 s (execDomainRetention a0 s) := by
  intro a0 s
  unfold execDomainRetention
  repeat' first
    | with_reducible exact Within.refl _ _
    | assumption
    | ((with_reducible apply State.domDown_step); rfl)
    | with_reducible apply WithinNext.ok
    | exact WithinNext.fault _
    | ((with_reducible apply Within.stepEach); intro _ _)
    | split
    | extract_lets
    | with_reducible intro _
    | with_reducible show Within _ _ (ite _ _ _)
    | ((with_reducible show Within _ _ (id _)); exact Within.refl _ _)
    | dsimp +zetaDelta only

theorem execDomainRetention_next {a0 : _} {m : Nat} {s : State} (c : 14931460094 &&& m = 14931460094) :
    WithinNext m s (execDomainRetention a0 s) := WithinNext.mono (execDomainRetention_within a0 s) c

theorem execDomainOn_within : ∀ a0 (s : State), WithinNext 14931460094 s (execDomainOn a0 s) := by
  intro a0 s
  unfold execDomainOn
  repeat' first
    | with_reducible exact Within.refl _ _
    | assumption
    | ((with_reducible apply State.domStatus_step); rfl)
    | ((with_reducible apply State.domAnswer_step); rfl)
    | ((with_reducible apply State.addOp_step); rfl)
    | with_reducible apply WithinNext.ok
    | exact WithinNext.fault _
    | ((with_reducible apply Within.stepEach); intro _ _)
    | split
    | extract_lets
    | ((fail_if_success with_reducible apply Within.upd_pending); (with_reducible apply Within.upd_pwr); rfl)
    | with_reducible intro _
    | with_reducible show Within _ _ (ite _ _ _)
    | ((with_reducible show Within _ _ (id _)); exact Within.refl _ _)
    | dsimp +zetaDelta only
    | ((fail_if_success with_reducible apply Within.upd_pending); (with_reducible apply Within.upd_pwr); rfl)

theorem execDomainOn_next {a0 : _} {m : Nat} {s : State} (c : 14931460094 &&& m = 14931460094) :
    WithinNext m s (execDomainOn a0 s) := WithinNext.mono (execDomainOn_within a0 s) c

theorem execDomainOff_within : ∀ a0 (s : State), WithinNext 14931460094 s (execDomainOff a0 s) := by
  intro a0 s
  unfold execDomainOff
  repeat' first
    | with_reducible exact Within.refl _ _
    | assumption
    | ((with_reducible apply State.domDown_step); rfl)
    | with_reducible apply WithinNext.ok
    | exact WithinNext.fault _
    | ((with_reducible apply Within.stepEach); intro _ _)
    | split
    | extract_lets
    | with_reducible intro _
    | with_reducible show Within _ _ (ite _ _ _)
    | ((with_reducible show Within _ _ (id _)); exact Within.refl _ _)
    | dsimp +zetaDelta only

theorem execDomainOff_next {a0 : _} {m : Nat} {s : State} (c : 14931460094 &&& m = 14931460094) :
    WithinNext m s (execDomainOff a0 s) := WithinNext.mono (execDomainOff_within a0 s) c

theorem execDieLinkDown_within : ∀ a0 (s : State), WithinNext 14918806998 s (execDieLinkDown a0 s) := by
  intro a0 s
  unfold execDieLinkDown
  repeat' first
    | with_reducible exact Within.refl _ _
    | assumption
    | ((with_reducible apply State.dieLinkOff_step); rfl)
    | ((with_reducible apply State.dieLinkLost_step); rfl)
    | with_reducible apply WithinNext.ok
    | exact WithinNext.fault _
    | ((with_reducible apply Within.stepEach); intro _ _)
    | split
    | extract_lets
    | with_reducible intro _
    | with_reducible show Within _ _ (ite _ _ _)
    | ((with_reducible show Within _ _ (id _)); exact Within.refl _ _)
    | dsimp +zetaDelta only

theorem execDieLinkDown_next {a0 : _} {m : Nat} {s : State} (c : 14918806998 &&& m = 14918806998) :
    WithinNext m s (execDieLinkDown a0 s) := WithinNext.mono (execDieLinkDown_within a0 s) c

theorem execDomainDrainEnd_within : ∀ a0 (s : State), WithinNext 17112498175 s (execDomainDrainEnd a0 s) := by
  intro a0 s
  unfold execDomainDrainEnd
  repeat' first
    | with_reducible exact Within.refl _ _
    | assumption
    | ((with_reducible apply State.opStep_step); rfl)
    | ((with_reducible apply State.domainsGo_step); rfl)
    | ((with_reducible apply State.enterDomain_step); rfl)
    | ((with_reducible apply State.raise_step); rfl)
    | ((with_reducible apply State.reach_step); rfl)
    | ((with_reducible apply State.discardEntries_step); rfl)
    | with_reducible apply WithinNext.ok
    | exact WithinNext.fault _
    | ((with_reducible apply Within.stepEach); intro _ _)
    | split
    | extract_lets
    | with_reducible intro _
    | with_reducible show Within _ _ (ite _ _ _)
    | ((with_reducible show Within _ _ (id _)); exact Within.refl _ _)
    | dsimp +zetaDelta only

theorem execDomainDrainEnd_next {a0 : _} {m : Nat} {s : State} (c : 17112498175 &&& m = 17112498175) :
    WithinNext m s (execDomainDrainEnd a0 s) := WithinNext.mono (execDomainDrainEnd_within a0 s) c

theorem execDieLinkRetrain_within : ∀ a0 a1 (s : State), WithinNext 17081854359 s (execDieLinkRetrain a0 a1 s) := by
  intro a0 a1 s
  unfold execDieLinkRetrain
  repeat' first
    | with_reducible exact Within.refl _ _
    | assumption
    | ((with_reducible apply State.reconsider_step); rfl)
    | ((with_reducible apply State.hostResume_step); rfl)
    | ((with_reducible apply State.setEngine_step); rfl)
    | ((with_reducible apply State.reach_step); rfl)
    | ((with_reducible apply State.canvasEngines_step); rfl)
    | ((with_reducible apply State.tryLink_step); rfl)
    | ((with_reducible apply State.beginTraining_step); rfl)
    | ((with_reducible apply State.trainDie_step); rfl)
    | with_reducible apply WithinNext.ok
    | exact WithinNext.fault _
    | ((with_reducible apply Within.stepEach); intro _ _)
    | split
    | extract_lets
    | with_reducible intro _
    | with_reducible show Within _ _ (ite _ _ _)
    | ((with_reducible show Within _ _ (id _)); exact Within.refl _ _)
    | dsimp +zetaDelta only

theorem execDieLinkRetrain_next {a0 : _} {a1 : _} {m : Nat} {s : State} (c : 17081854359 &&& m = 17081854359) :
    WithinNext m s (execDieLinkRetrain a0 a1 s) := WithinNext.mono (execDieLinkRetrain_within a0 a1 s) c

theorem execDomainOnDone_within : ∀ a0 a1 (s : State), WithinNext 14931722238 s (execDomainOnDone a0 a1 s) := by
  intro a0 a1 s
  unfold execDomainOnDone
  repeat' first
    | with_reducible exact Within.refl _ _
    | assumption
    | ((with_reducible apply State.opStep_step); rfl)
    | ((with_reducible apply State.domainsGo_step); rfl)
    | ((with_reducible apply State.domainOn_step); rfl)
    | with_reducible apply WithinNext.ok
    | exact WithinNext.fault _
    | ((with_reducible apply Within.stepEach); intro _ _)
    | split
    | extract_lets
    | with_reducible intro _
    | with_reducible show Within _ _ (ite _ _ _)
    | ((with_reducible show Within _ _ (id _)); exact Within.refl _ _)
    | dsimp +zetaDelta only

theorem execDomainOnDone_next {a0 : _} {a1 : _} {m : Nat} {s : State} (c : 14931722238 &&& m = 14931722238) :
    WithinNext m s (execDomainOnDone a0 a1 s) := WithinNext.mono (execDomainOnDone_within a0 a1 s) c


/-! ## Machine/Power.lean -/

theorem State.darken_within : ∀ (s : State), Within 4294967296 s (State.darken s) := by
  intro s
  unfold State.darken
  repeat' first
    | with_reducible exact Within.refl _ _
    | assumption
    | ((with_reducible apply State.emit_step); rfl)
    | ((with_reducible apply Within.stepEach); intro _ _)
    | split
    | extract_lets
    | with_reducible intro _
    | with_reducible show Within _ _ (ite _ _ _)
    | ((with_reducible show Within _ _ (id _)); exact Within.refl _ _)
    | dsimp +zetaDelta only

theorem State.darken_step  {m : Nat} {r s : State} (c : 4294967296 &&& m = 4294967296) (h : Within m r s) :
    Within m r (State.darken s) := Within.step (State.darken_within s) c h

theorem State.stripped_within : ∀ (s : State) a1, Within 4294967294 s (State.stripped s a1) := by
  intro s a1
  unfold State.stripped
  repeat' first
    | with_reducible exact Within.refl _ _
    | assumption
    | ((with_reducible apply Within.stepEach); intro _ _)
    | split
    | extract_lets
    | with_reducible intro _
    | with_reducible show Within _ _ (ite _ _ _)
    | ((with_reducible show Within _ _ (id _)); exact Within.refl _ _)
    | dsimp +zetaDelta only
    | (intro p; cases p <;> first | exact .inl rfl | (right; simp only [Field.same]; done))

theorem State.stripped_step {a1 : _} {m : Nat} {r s : State} (c : 4294967294 &&& m = 4294967294) (h : Within m r s) :
    Within m r (State.stripped s a1) := Within.step (State.stripped_within s a1) c h

theorem State.strip_within : ∀ (s : State) a1, Within 4294967294 s (State.strip s a1) := by
  intro s a1
  unfold State.strip
  repeat' first
    | with_reducible exact Within.refl _ _
    | assumption
    | ((with_reducible apply State.remapLanes_step); rfl)
    | ((with_reducible apply State.stripped_step); rfl)
    | ((with_reducible apply Within.stepEach); intro _ _)
    | split
    | extract_lets
    | with_reducible intro _
    | with_reducible show Within _ _ (ite _ _ _)
    | ((with_reducible show Within _ _ (id _)); exact Within.refl _ _)
    | dsimp +zetaDelta only

theorem State.strip_step {a1 : _} {m : Nat} {r s : State} (c : 4294967294 &&& m = 4294967294) (h : Within m r s) :
    Within m r (State.strip s a1) := Within.step (State.strip_within s a1) c h

theorem State.abruptStop_within : ∀ (s : State) a1, Within 8589934590 s (State.abruptStop s a1) := by
  intro s a1
  unfold State.abruptStop
  repeat' first
    | with_reducible exact Within.refl _ _
    | assumption
    | ((with_reducible apply State.darken_step); rfl)
    | ((with_reducible apply State.strip_step); rfl)
    | ((with_reducible apply Within.stepEach); intro _ _)
    | split
    | extract_lets
    | ((fail_if_success with_reducible apply Within.upd_pending); (with_reducible apply Within.upd_boot); rfl)
    | with_reducible intro _
    | with_reducible show Within _ _ (ite _ _ _)
    | ((with_reducible show Within _ _ (id _)); exact Within.refl _ _)
    | dsimp +zetaDelta only
    | ((fail_if_success with_reducible apply Within.upd_pending); (with_reducible apply Within.upd_boot); rfl)

theorem State.abruptStop_step {a1 : _} {m : Nat} {r s : State} (c : 8589934590 &&& m = 8589934590) (h : Within m r s) :
    Within m r (State.abruptStop s a1) := Within.step (State.abruptStop_within s a1) c h

theorem State.followForce_within : ∀ (s : State) a1, Within 14931460094 s (State.followForce s a1) := by
  intro s a1
  unfold State.followForce
  repeat' first
    | with_reducible exact Within.refl _ _
    | assumption
    | ((with_reducible apply State.addOp_step); rfl)
    | ((with_reducible apply Within.stepEach); intro _ _)
    | split
    | extract_lets
    | ((fail_if_success with_reducible apply Within.upd_pending); (with_reducible apply Within.upd_pwr); rfl)
    | with_reducible intro _
    | with_reducible show Within _ _ (ite _ _ _)
    | ((with_reducible show Within _ _ (id _)); exact Within.refl _ _)
    | dsimp +zetaDelta only
    | ((fail_if_success with_reducible apply Within.upd_pending); (with_reducible apply Within.upd_pwr); rfl)

theorem State.followForce_step {a1 : _} {m : Nat} {r s : State} (c : 14931460094 &&& m = 14931460094) (h : Within m r s) :
    Within m r (State.followForce s a1) := Within.step (State.followForce_within s a1) c h

theorem State.leaveM3_within : ∀ (s : State) a1, Within 14931460094 s (State.leaveM3 s a1) := by
  intro s a1
  unfold State.leaveM3
  repeat' first
    | with_reducible exact Within.refl _ _
    | assumption
    | ((with_reducible apply State.setF_step); rfl)
    | ((with_reducible apply State.domainsGo_step); rfl)
    | ((with_reducible apply State.startBoot_step); rfl)
    | ((with_reducible apply Within.stepEach); intro _ _)
    | split
    | extract_lets
    | ((fail_if_success with_reducible apply Within.upd_pending); (with_reducible apply Within.upd_boot); rfl)
    | with_reducible intro _
    | with_reducible show Within _ _ (ite _ _ _)
    | ((with_reducible show Within _ _ (id _)); exact Within.refl _ _)
    | dsimp +zetaDelta only
    | ((fail_if_success with_reducible apply Within.upd_pending); (with_reducible apply Within.upd_boot); rfl)

theorem State.leaveM3_step {a1 : _} {m : Nat} {r s : State} (c : 14931460094 &&& m = 14931460094) (h : Within m r s) :
    Within m r (State.leaveM3 s a1) := Within.step (State.leaveM3_within s a1) c h

theorem State.beginWithdraw_within : ∀ (s : State) a1 a2, Within 4362076164 s (State.beginWithdraw s a1 a2) := by
  intro s a1 a2
  unfold State.beginWithdraw
  repeat' first
    | with_reducible exact Within.refl _ _
    | assumption
    | ((with_reducible apply State.sendWithdraw_step); rfl)
    | ((with_reducible apply Within.stepEach); intro _ _)
    | split
    | extract_lets
    | ((fail_if_success with_reducible apply Within.upd_pending); (with_reducible apply Within.upd_wd); rfl)
    | with_reducible intro _
    | with_reducible show Within _ _ (ite _ _ _)
    | ((with_reducible show Within _ _ (id _)); exact Within.refl _ _)
    | dsimp +zetaDelta only
    | ((fail_if_success with_reducible apply Within.upd_pending); (with_reducible apply Within.upd_wd); rfl)

theorem State.beginWithdraw_step {a1 : _} {a2 : _} {m : Nat} {r s : State} (c : 4362076164 &&& m = 4362076164) (h : Within m r s) :
    Within m r (State.beginWithdraw s a1 a2) := Within.step (State.beginWithdraw_within s a1 a2) c h

theorem State.applyForce_within : ∀ (s : State) a1, Within 14998568958 s (State.applyForce s a1) := by
  intro s a1
  unfold State.applyForce
  repeat' first
    | with_reducible exact Within.refl _ _
    | assumption
    | ((with_reducible apply State.followForce_step); rfl)
    | ((with_reducible apply State.setF_step); rfl)
    | ((with_reducible apply State.leaveM3_step); rfl)
    | ((with_reducible apply State.beginWithdraw_step); rfl)
    | ((with_reducible apply State.trimLanes_step); rfl)
    | ((with_reducible apply Within.stepEach); intro _ _)
    | split
    | extract_lets
    | with_reducible intro _
    | with_reducible show Within _ _ (ite _ _ _)
    | ((with_reducible show Within _ _ (id _)); exact Within.refl _ _)
    | dsimp +zetaDelta only

theorem State.applyForce_step {a1 : _} {m : Nat} {r s : State} (c : 14998568958 &&& m = 14998568958) (h : Within m r s) :
    Within m r (State.applyForce s a1) := Within.step (State.applyForce_within s a1) c h

theorem State.dropSent_within : ∀ (s : State) a1, Within 260 s (State.dropSent s a1) := by
  intro s a1
  unfold State.dropSent
  repeat' first
    | with_reducible exact Within.refl _ _
    | assumption
    | ((with_reducible apply State.countDrop_step); rfl)
    | ((with_reducible apply State.setLink_step); rfl)
    | ((with_reducible apply Within.stepEach); intro _ _)
    | split
    | extract_lets
    | with_reducible intro _
    | with_reducible show Within _ _ (ite _ _ _)
    | ((with_reducible show Within _ _ (id _)); exact Within.refl _ _)
    | dsimp +zetaDelta only

theorem State.dropSent_step {a1 : _} {m : Nat} {r s : State} (c : 260 &&& m = 260) (h : Within m r s) :
    Within m r (State.dropSent s a1) := Within.step (State.dropSent_within s a1) c h

theorem State.setPhase_within : ∀ (s : State) a1, Within 2 s (State.setPhase s a1) := by
  intro s a1
  unfold State.setPhase
  repeat' first
    | with_reducible exact Within.refl _ _
    | assumption
    | ((with_reducible apply State.setF_step); rfl)
    | ((with_reducible apply Within.stepEach); intro _ _)
    | split
    | extract_lets
    | with_reducible intro _
    | with_reducible show Within _ _ (ite _ _ _)
    | ((with_reducible show Within _ _ (id _)); exact Within.refl _ _)
    | dsimp +zetaDelta only

theorem State.setPhase_step {a1 : _} {m : Nat} {r s : State} (c : 2 &&& m = 2) (h : Within m r s) :
    Within m r (State.setPhase s a1) := Within.step (State.setPhase_within s a1) c h

theorem State.enterM3_within : ∀ (s : State), Within 8589934590 s (State.enterM3 s) := by
  intro s
  unfold State.enterM3
  repeat' first
    | with_reducible exact Within.refl _ _
    | assumption
    | ((with_reducible apply State.setF_step); rfl)
    | ((with_reducible apply State.darken_step); rfl)
    | ((with_reducible apply State.setPhase_step); rfl)
    | ((with_reducible apply State.strip_step); rfl)
    | ((with_reducible apply Within.stepEach); intro _ _)
    | split
    | extract_lets
    | ((fail_if_success with_reducible apply Within.upd_pending); (with_reducible apply Within.upd_pwr_boot); rfl)
    | with_reducible intro _
    | with_reducible show Within _ _ (ite _ _ _)
    | ((with_reducible show Within _ _ (id _)); exact Within.refl _ _)
    | dsimp +zetaDelta only
    | ((fail_if_success with_reducible apply Within.upd_pending); (with_reducible apply Within.upd_pwr_boot); rfl)

theorem State.enterM3_step  {m : Nat} {r s : State} (c : 8589934590 &&& m = 8589934590) (h : Within m r s) :
    Within m r (State.enterM3 s) := Within.step (State.enterM3_within s) c h

theorem State.restDark_within : ∀ (s : State) a1, Within 13826002388 s (State.restDark s a1) := by
  intro s a1
  unfold State.restDark
  repeat' first
    | with_reducible exact Within.refl _ _
    | assumption
    | ((with_reducible apply State.setPort_step); rfl)
    | ((with_reducible apply State.takeDown_step); rfl)
    | ((with_reducible apply State.emit_step); rfl)
    | ((with_reducible apply Within.stepEach); intro _ _)
    | split
    | extract_lets
    | with_reducible intro _
    | with_reducible show Within _ _ (ite _ _ _)
    | ((with_reducible show Within _ _ (id _)); exact Within.refl _ _)
    | dsimp +zetaDelta only

theorem State.restDark_step {a1 : _} {m : Nat} {r s : State} (c : 13826002388 &&& m = 13826002388) (h : Within m r s) :
    Within m r (State.restDark s a1) := Within.step (State.restDark_within s a1) c h

theorem State.leavePrism_within : ∀ (s : State), Within 13826002900 s (State.leavePrism s) := by
  intro s
  unfold State.leavePrism
  repeat' first
    | with_reducible exact Within.refl _ _
    | assumption
    | ((with_reducible apply State.accountPlanes_step); rfl)
    | ((with_reducible apply State.setPlane_step); rfl)
    | ((with_reducible apply State.takeDown_step); rfl)
    | ((with_reducible apply State.emit_step); rfl)
    | ((with_reducible apply Within.stepEach); intro _ _)
    | split
    | extract_lets
    | ((fail_if_success with_reducible apply Within.upd_pending); (with_reducible apply Within.upd_peers_prism); rfl)
    | with_reducible intro _
    | with_reducible show Within _ _ (ite _ _ _)
    | ((with_reducible show Within _ _ (id _)); exact Within.refl _ _)
    | dsimp +zetaDelta only
    | ((fail_if_success with_reducible apply Within.upd_pending); (with_reducible apply Within.upd_peers_prism); rfl)

theorem State.leavePrism_step  {m : Nat} {r s : State} (c : 13826002900 &&& m = 13826002900) (h : Within m r s) :
    Within m r (State.leavePrism s) := Within.step (State.leavePrism_within s) c h

theorem State.warmReset_within : ∀ (s : State), Within 17179869182 s (State.warmReset s) := by
  intro s
  unfold State.warmReset
  repeat' first
    | with_reducible exact Within.refl _ _
    | assumption
    | ((with_reducible apply State.darken_step); rfl)
    | ((with_reducible apply State.domainsGo_step); rfl)
    | ((with_reducible apply State.setStack_step); rfl)
    | ((with_reducible apply State.startBoot_step); rfl)
    | ((with_reducible apply State.strip_step); rfl)
    | ((with_reducible apply Within.stepEach); intro _ _)
    | split
    | extract_lets
    | ((fail_if_success with_reducible apply Within.upd_pending); (with_reducible apply Within.upd_dom_maint_boot); rfl)
    | with_reducible intro _
    | with_reducible show Within _ _ (ite _ _ _)
    | ((with_reducible show Within _ _ (id _)); exact Within.refl _ _)
    | dsimp +zetaDelta only
    | ((fail_if_success with_reducible apply Within.upd_pending); (with_reducible apply Within.upd_dom_maint_boot); rfl)

theorem State.warmReset_step  {m : Nat} {r s : State} (c : 17179869182 &&& m = 17179869182) (h : Within m r s) :
    Within m r (State.warmReset s) := Within.step (State.warmReset_within s) c h

theorem State.endWithdraw_within : ∀ (s : State) a1, Within 17179869182 s (State.endWithdraw s a1) := by
  intro s a1
  unfold State.endWithdraw
  repeat' first
    | with_reducible exact Within.refl _ _
    | assumption
    | ((with_reducible apply State.enterM3_step); rfl)
    | ((with_reducible apply State.restDark_step); rfl)
    | ((with_reducible apply State.leavePrism_step); rfl)
    | ((with_reducible apply State.leaveM3_step); rfl)
    | ((with_reducible apply State.warmReset_step); rfl)
    | ((with_reducible apply State.dropSent_step); rfl)
    | ((with_reducible apply Within.stepEach); intro _ _)
    | split
    | extract_lets
    | ((fail_if_success with_reducible apply Within.upd_pending); (with_reducible apply Within.upd_tab); rfl)
    | ((fail_if_success with_reducible apply Within.upd_pending); (with_reducible apply Within.upd_wd); rfl)
    | with_reducible intro _
    | with_reducible show Within _ _ (ite _ _ _)
    | ((with_reducible show Within _ _ (id _)); exact Within.refl _ _)
    | dsimp +zetaDelta only
    | ((fail_if_success with_reducible apply Within.upd_pending); (with_reducible apply Within.upd_tab); rfl)
    | ((fail_if_success with_reducible apply Within.upd_pending); (with_reducible apply Within.upd_wd); rfl)

theorem State.endWithdraw_step {a1 : _} {m : Nat} {r s : State} (c : 17179869182 &&& m = 17179869182) (h : Within m r s) :
    Within m r (State.endWithdraw s a1) := Within.step (State.endWithdraw_within s a1) c h

theorem State.supplyEvent_within : ∀ (s : State) a1, Within 939524100 s (State.supplyEvent s a1) := by
  intro s a1
  unfold State.supplyEvent
  repeat' first
    | with_reducible exact Within.refl _ _
    | assumption
    | ((with_reducible apply State.raise_step); rfl)
    | ((with_reducible apply Within.stepEach); intro _ _)
    | split
    | extract_lets
    | with_reducible intro _
    | with_reducible show Within _ _ (ite _ _ _)
    | ((with_reducible show Within _ _ (id _)); exact Within.refl _ _)
    | dsimp +zetaDelta only

theorem State.supplyEvent_step {a1 : _} {m : Nat} {r s : State} (c : 939524100 &&& m = 939524100) (h : Within m r s) :
    Within m r (State.supplyEvent s a1) := Within.step (State.supplyEvent_within s a1) c h

theorem State.enterLevel_within : ∀ (s : State) a1, Within 14998568958 s (State.enterLevel s a1) := by
  intro s a1
  unfold State.enterLevel
  repeat' first
    | with_reducible exact Within.refl _ _
    | assumption
    | ((with_reducible apply State.abandonMoves_step); rfl)
    | ((with_reducible apply State.bump_step); rfl)
    | ((with_reducible apply State.applyForce_step); rfl)
    | ((with_reducible apply State.setF_step); rfl)
    | ((with_reducible apply State.cutBudgets_step); rfl)
    | ((with_reducible apply State.supplyEvent_step); rfl)
    | ((with_reducible apply Within.stepEach); intro _ _)
    | split
    | extract_lets
    | with_reducible intro _
    | with_reducible show Within _ _ (ite _ _ _)
    | ((with_reducible show Within _ _ (id _)); exact Within.refl _ _)
    | dsimp +zetaDelta only

theorem State.enterLevel_step {a1 : _} {m : Nat} {r s : State} (c : 14998568958 &&& m = 14998568958) (h : Within m r s) :
    Within m r (State.enterLevel s a1) := Within.step (State.enterLevel_within s a1) c h

theorem State.enterLevels_within : ∀ (s : State) a1, Within 14998568958 s (State.enterLevels s a1) := by
  intro s a1
  induction a1 generalizing s with
  | nil => unfold State.enterLevels; exact Within.refl _ _
  | cons x l ih =>
  unfold State.enterLevels
  repeat' first
    | with_reducible exact Within.refl _ _
    | assumption
    | (refine Within.step (ih _) (Nat.and_self _) ?_)
    | ((with_reducible apply State.enterLevel_step); rfl)
    | ((with_reducible apply Within.stepEach); intro _ _)
    | split
    | extract_lets
    | with_reducible intro _
    | with_reducible show Within _ _ (ite _ _ _)
    | ((with_reducible show Within _ _ (id _)); exact Within.refl _ _)
    | dsimp +zetaDelta only

theorem State.enterLevels_step {a1 : _} {m : Nat} {r s : State} (c : 14998568958 &&& m = 14998568958) (h : Within m r s) :
    Within m r (State.enterLevels s a1) := Within.step (State.enterLevels_within s a1) c h

theorem State.hotSite_within : ∀ (s : State) a1 a2, Within 9529458692 s (State.hotSite s a1 a2) := by
  intro s a1 a2
  unfold State.hotSite
  repeat' first
    | with_reducible exact Within.refl _ _
    | assumption
    | ((with_reducible apply State.raise_step); rfl)
    | ((with_reducible apply State.tick_step); rfl)
    | ((with_reducible apply Within.stepEach); intro _ _)
    | split
    | extract_lets
    | with_reducible intro _
    | with_reducible show Within _ _ (ite _ _ _)
    | ((with_reducible show Within _ _ (id _)); exact Within.refl _ _)
    | dsimp +zetaDelta only

theorem State.hotSite_step {a1 : _} {a2 : _} {m : Nat} {r s : State} (c : 9529458692 &&& m = 9529458692) (h : Within m r s) :
    Within m r (State.hotSite s a1 a2) := Within.step (State.hotSite_within s a1 a2) c h

theorem State.heatCore_within : ∀ (s : State), Within 9531555844 s (State.heatCore s) := by
  intro s
  unfold State.heatCore
  repeat' first
    | with_reducible exact Within.refl _ _
    | assumption
    | ((with_reducible apply State.hotSite_step); rfl)
    | ((with_reducible apply Within.stepEach); intro _ _)
    | split
    | extract_lets
    | ((fail_if_success with_reducible apply Within.upd_pending); (with_reducible apply Within.upd_pwr); rfl)
    | with_reducible intro _
    | with_reducible show Within _ _ (ite _ _ _)
    | ((with_reducible show Within _ _ (id _)); exact Within.refl _ _)
    | dsimp +zetaDelta only
    | ((fail_if_success with_reducible apply Within.upd_pending); (with_reducible apply Within.upd_pwr); rfl)

theorem State.heatCore_step  {m : Nat} {r s : State} (c : 9531555844 &&& m = 9531555844) (h : Within m r s) :
    Within m r (State.heatCore s) := Within.step (State.heatCore_within s) c h

theorem State.heatDie_within : ∀ (s : State) a1, Within 941645846 s (State.heatDie s a1) := by
  intro s a1
  unfold State.heatDie
  repeat' first
    | with_reducible exact Within.refl _ _
    | assumption
    | ((with_reducible apply State.setF_step); rfl)
    | ((with_reducible apply State.cutBudget_step); rfl)
    | ((with_reducible apply State.raise_step); rfl)
    | ((with_reducible apply Within.stepEach); intro _ _)
    | split
    | extract_lets
    | ((fail_if_success with_reducible apply Within.upd_pending); (with_reducible apply Within.upd_pwr); rfl)
    | with_reducible intro _
    | with_reducible show Within _ _ (ite _ _ _)
    | ((with_reducible show Within _ _ (id _)); exact Within.refl _ _)
    | dsimp +zetaDelta only
    | ((fail_if_success with_reducible apply Within.upd_pending); (with_reducible apply Within.upd_pwr); rfl)

theorem State.heatDie_step {a1 : _} {m : Nat} {r s : State} (c : 941645846 &&& m = 941645846) (h : Within m r s) :
    Within m r (State.heatDie s a1) := Within.step (State.heatDie_within s a1) c h

theorem State.heatSite_within : ∀ (s : State) a1, Within 13828099540 s (State.heatSite s a1) := by
  intro s a1
  unfold State.heatSite
  repeat' first
    | with_reducible exact Within.refl _ _
    | assumption
    | ((with_reducible apply State.takeDown_step); rfl)
    | ((with_reducible apply State.trimLanes_step); rfl)
    | ((with_reducible apply State.beginTraining_step); rfl)
    | ((with_reducible apply State.emit_step); rfl)
    | ((with_reducible apply Within.stepEach); intro _ _)
    | split
    | extract_lets
    | ((fail_if_success with_reducible apply Within.upd_pending); (with_reducible apply Within.upd_pwr); rfl)
    | with_reducible intro _
    | with_reducible show Within _ _ (ite _ _ _)
    | ((with_reducible show Within _ _ (id _)); exact Within.refl _ _)
    | dsimp +zetaDelta only
    | ((fail_if_success with_reducible apply Within.upd_pending); (with_reducible apply Within.upd_pwr); rfl)

theorem State.heatSite_step {a1 : _} {m : Nat} {r s : State} (c : 13828099540 &&& m = 13828099540) (h : Within m r s) :
    Within m r (State.heatSite s a1) := Within.step (State.heatSite_within s a1) c h

theorem State.powerOff_within : ∀ (s : State), Within 8589934590 s (State.powerOff s) := by
  intro s
  unfold State.powerOff
  repeat' first
    | with_reducible exact Within.refl _ _
    | assumption
    | ((with_reducible apply State.abruptStop_step); rfl)
    | ((with_reducible apply Within.stepEach); intro _ _)
    | split
    | extract_lets
    | ((fail_if_success with_reducible apply Within.upd_pending); (with_reducible apply Within.upd_dom_pwr_boot); rfl)
    | with_reducible intro _
    | with_reducible show Within _ _ (ite _ _ _)
    | ((with_reducible show Within _ _ (id _)); exact Within.refl _ _)
    | dsimp +zetaDelta only
    | ((fail_if_success with_reducible apply Within.upd_pending); (with_reducible apply Within.upd_dom_pwr_boot); rfl)

theorem State.powerOff_step  {m : Nat} {r s : State} (c : 8589934590 &&& m = 8589934590) (h : Within m r s) :
    Within m r (State.powerOff s) := Within.step (State.powerOff_within s) c h

theorem State.takeTemps_within : ∀ (s : State) a1 a2 a3 a4 a5, Within 2097152 s (State.takeTemps s a1 a2 a3 a4 a5) := by
  intro s a1 a2 a3 a4 a5
  unfold State.takeTemps
  repeat' first
    | with_reducible exact Within.refl _ _
    | assumption
    | ((with_reducible apply Within.stepEach); intro _ _)
    | split
    | extract_lets
    | ((fail_if_success with_reducible apply Within.upd_pending); (with_reducible apply Within.upd_pwr); rfl)
    | with_reducible intro _
    | with_reducible show Within _ _ (ite _ _ _)
    | ((with_reducible show Within _ _ (id _)); exact Within.refl _ _)
    | dsimp +zetaDelta only
    | ((fail_if_success with_reducible apply Within.upd_pending); (with_reducible apply Within.upd_pwr); rfl)

theorem State.takeTemps_step {a1 : _} {a2 : _} {a3 : _} {a4 : _} {a5 : _} {m : Nat} {r s : State} (c : 2097152 &&& m = 2097152) (h : Within m r s) :
    Within m r (State.takeTemps s a1 a2 a3 a4 a5) := Within.step (State.takeTemps_within s a1 a2 a3 a4 a5) c h

theorem State.thermTick_within : ∀ (s : State), Within 7551844357 s (State.thermTick s) := by
  intro s
  unfold State.thermTick
  repeat' first
    | with_reducible exact Within.refl _ _
    | assumption
    | ((with_reducible apply State.bump_step); rfl)
    | ((with_reducible apply State.reach_step); rfl)
    | ((with_reducible apply Within.stepEach); intro _ _)
    | split
    | extract_lets
    | ((fail_if_success with_reducible apply Within.upd_pending); (with_reducible apply Within.upd_pwr); rfl)
    | with_reducible intro _
    | with_reducible show Within _ _ (ite _ _ _)
    | ((with_reducible show Within _ _ (id _)); exact Within.refl _ _)
    | dsimp +zetaDelta only
    | ((fail_if_success with_reducible apply Within.upd_pending); (with_reducible apply Within.upd_pwr); rfl)

theorem State.thermTick_step  {m : Nat} {r s : State} (c : 7551844357 &&& m = 7551844357) (h : Within m r s) :
    Within m r (State.thermTick s) := Within.step (State.thermTick_within s) c h

theorem State.tripCheck_within : ∀ (s : State), Within 8589934590 s (State.tripCheck s) := by
  intro s
  unfold State.tripCheck
  repeat' first
    | with_reducible exact Within.refl _ _
    | assumption
    | ((with_reducible apply State.abruptStop_step); rfl)
    | ((with_reducible apply Within.stepEach); intro _ _)
    | split
    | extract_lets
    | ((fail_if_success with_reducible apply Within.upd_pending); (with_reducible apply Within.upd_boot); rfl)
    | with_reducible intro _
    | with_reducible show Within _ _ (ite _ _ _)
    | ((with_reducible show Within _ _ (id _)); exact Within.refl _ _)
    | dsimp +zetaDelta only
    | ((fail_if_success with_reducible apply Within.upd_pending); (with_reducible apply Within.upd_boot); rfl)

theorem State.tripCheck_step  {m : Nat} {r s : State} (c : 8589934590 &&& m = 8589934590) (h : Within m r s) :
    Within m r (State.tripCheck s) := Within.step (State.tripCheck_within s) c h

theorem State.tryBoot_within : ∀ (s : State), Within 14931460094 s (State.tryBoot s) := by
  intro s
  unfold State.tryBoot
  repeat' first
    | with_reducible exact Within.refl _ _
    | assumption
    | ((with_reducible apply State.domainsGo_step); rfl)
    | ((with_reducible apply State.startBoot_step); rfl)
    | ((with_reducible apply Within.stepEach); intro _ _)
    | split
    | extract_lets
    | with_reducible intro _
    | with_reducible show Within _ _ (ite _ _ _)
    | ((with_reducible show Within _ _ (id _)); exact Within.refl _ _)
    | dsimp +zetaDelta only

theorem State.tryBoot_step  {m : Nat} {r s : State} (c : 14931460094 &&& m = 14931460094) (h : Within m r s) :
    Within m r (State.tryBoot s) := Within.step (State.tryBoot_within s) c h

theorem execMstateRequest_within : ∀ a0 a1 (s : State), WithinNext 14998568958 s (execMstateRequest a0 a1 s) := by
  intro a0 a1 s
  unfold execMstateRequest
  repeat' first
    | with_reducible exact Within.refl _ _
    | assumption
    | ((with_reducible apply State.applyForce_step); rfl)
    | ((with_reducible apply State.setF_step); rfl)
    | with_reducible apply WithinNext.ok
    | exact WithinNext.fault _
    | ((with_reducible apply Within.stepEach); intro _ _)
    | split
    | extract_lets
    | with_reducible intro _
    | with_reducible show Within _ _ (ite _ _ _)
    | ((with_reducible show Within _ _ (id _)); exact Within.refl _ _)
    | dsimp +zetaDelta only

theorem execMstateRequest_next {a0 : _} {a1 : _} {m : Nat} {s : State} (c : 14998568958 &&& m = 14998568958) :
    WithinNext m s (execMstateRequest a0 a1 s) := WithinNext.mono (execMstateRequest_within a0 a1 s) c

theorem execFabricIdWrite_within : ∀ a0 (s : State), WithinNext 13893111766 s (execFabricIdWrite a0 s) := by
  intro a0 s
  unfold execFabricIdWrite
  repeat' first
    | with_reducible exact Within.refl _ _
    | assumption
    | ((with_reducible apply State.leavePrism_step); rfl)
    | ((with_reducible apply State.startListening_step); rfl)
    | ((with_reducible apply State.store_step); rfl)
    | ((with_reducible apply State.beginWithdraw_step); rfl)
    | with_reducible apply WithinNext.ok
    | exact WithinNext.fault _
    | ((with_reducible apply Within.stepEach); intro _ _)
    | split
    | extract_lets
    | with_reducible intro _
    | with_reducible show Within _ _ (ite _ _ _)
    | ((with_reducible show Within _ _ (id _)); exact Within.refl _ _)
    | dsimp +zetaDelta only

theorem execFabricIdWrite_next {a0 : _} {m : Nat} {s : State} (c : 13893111766 &&& m = 13893111766) :
    WithinNext m s (execFabricIdWrite a0 s) := WithinNext.mono (execFabricIdWrite_within a0 s) c

theorem execSupplyLogClear_within : ∀ (s : State), WithinNext 2 s (execSupplyLogClear s) := by
  intro s
  unfold execSupplyLogClear
  repeat' first
    | with_reducible exact Within.refl _ _
    | assumption
    | ((with_reducible apply State.setF_step); rfl)
    | with_reducible apply WithinNext.ok
    | exact WithinNext.fault _
    | ((with_reducible apply Within.stepEach); intro _ _)
    | split
    | extract_lets
    | with_reducible intro _
    | with_reducible show Within _ _ (ite _ _ _)
    | ((with_reducible show Within _ _ (id _)); exact Within.refl _ _)
    | dsimp +zetaDelta only

theorem execSupplyLogClear_next  {m : Nat} {s : State} (c : 2 &&& m = 2) :
    WithinNext m s (execSupplyLogClear s) := WithinNext.mono (execSupplyLogClear_within s) c

theorem execSupplySample_within : ∀ a0 a1 (s : State), WithinNext 17179869183 s (execSupplySample a0 a1 s) := by
  intro a0 a1 s
  unfold execSupplySample
  repeat' first
    | with_reducible exact Within.refl _ _
    | assumption
    | ((with_reducible apply State.setF_step); rfl)
    | ((with_reducible apply State.enterLevels_step); rfl)
    | ((with_reducible apply State.powerOff_step); rfl)
    | ((with_reducible apply State.cutBudgets_step); rfl)
    | ((with_reducible apply State.reach_step); rfl)
    | ((with_reducible apply State.supplyEvent_step); rfl)
    | ((with_reducible apply State.tryBoot_step); rfl)
    | with_reducible apply WithinNext.ok
    | exact WithinNext.fault _
    | ((with_reducible apply Within.stepEach); intro _ _)
    | split
    | extract_lets
    | ((fail_if_success with_reducible apply Within.upd_pending); (with_reducible apply Within.upd_pwr); rfl)
    | ((fail_if_success with_reducible apply Within.upd_pending); (with_reducible apply Within.upd_pwr_boot); rfl)
    | with_reducible intro _
    | with_reducible show Within _ _ (ite _ _ _)
    | ((with_reducible show Within _ _ (id _)); exact Within.refl _ _)
    | dsimp +zetaDelta only
    | ((fail_if_success with_reducible apply Within.upd_pending); (with_reducible apply Within.upd_pwr); rfl)
    | ((fail_if_success with_reducible apply Within.upd_pending); (with_reducible apply Within.upd_pwr_boot); rfl)

theorem execSupplySample_next {a0 : _} {a1 : _} {m : Nat} {s : State} (c : 17179869183 &&& m = 17179869183) :
    WithinNext m s (execSupplySample a0 a1 s) := WithinNext.mono (execSupplySample_within a0 a1 s) c

theorem execThermalSample_within : ∀ a0 a1 a2 a3 a4 (s : State), WithinNext 17179869183 s (execThermalSample a0 a1 a2 a3 a4 s) := by
  intro a0 a1 a2 a3 a4 s
  unfold execThermalSample
  repeat' first
    | with_reducible exact Within.refl _ _
    | assumption
    | ((with_reducible apply State.heatDie_step); rfl)
    | ((with_reducible apply State.takeTemps_step); rfl)
    | ((with_reducible apply State.heatCore_step); rfl)
    | ((with_reducible apply State.thermTick_step); rfl)
    | ((with_reducible apply State.tripCheck_step); rfl)
    | ((with_reducible apply State.heatSite_step); rfl)
    | with_reducible apply WithinNext.ok
    | exact WithinNext.fault _
    | ((with_reducible apply Within.stepEach); intro _ _)
    | split
    | extract_lets
    | with_reducible intro _
    | with_reducible show Within _ _ (ite _ _ _)
    | ((with_reducible show Within _ _ (id _)); exact Within.refl _ _)
    | dsimp +zetaDelta only

theorem execThermalSample_next {a0 : _} {a1 : _} {a2 : _} {a3 : _} {a4 : _} {m : Nat} {s : State} (c : 17179869183 &&& m = 17179869183) :
    WithinNext m s (execThermalSample a0 a1 a2 a3 a4 s) := WithinNext.mono (execThermalSample_within a0 a1 a2 a3 a4 s) c

theorem execDroopDetect_within : ∀ a0 (s : State), WithinNext 2097156 s (execDroopDetect a0 s) := by
  intro a0 s
  unfold execDroopDetect
  repeat' first
    | with_reducible exact Within.refl _ _
    | assumption
    | ((with_reducible apply State.bump_step); rfl)
    | with_reducible apply WithinNext.ok
    | exact WithinNext.fault _
    | ((with_reducible apply Within.stepEach); intro _ _)
    | split
    | extract_lets
    | ((fail_if_success with_reducible apply Within.upd_pending); (with_reducible apply Within.upd_pwr); rfl)
    | with_reducible intro _
    | with_reducible show Within _ _ (ite _ _ _)
    | ((with_reducible show Within _ _ (id _)); exact Within.refl _ _)
    | dsimp +zetaDelta only
    | ((fail_if_success with_reducible apply Within.upd_pending); (with_reducible apply Within.upd_pwr); rfl)

theorem execDroopDetect_next {a0 : _} {m : Nat} {s : State} (c : 2097156 &&& m = 2097156) :
    WithinNext m s (execDroopDetect a0 s) := WithinNext.mono (execDroopDetect_within a0 s) c

theorem execM3WakeTimer_within : ∀ (s : State), WithinNext 17179607039 s (execM3WakeTimer s) := by
  intro s
  unfold execM3WakeTimer
  repeat' first
    | with_reducible exact Within.refl _ _
    | assumption
    | ((with_reducible apply State.applyForce_step); rfl)
    | ((with_reducible apply State.setF_step); rfl)
    | ((with_reducible apply State.reach_step); rfl)
    | with_reducible apply WithinNext.ok
    | exact WithinNext.fault _
    | ((with_reducible apply Within.stepEach); intro _ _)
    | split
    | extract_lets
    | ((fail_if_success with_reducible apply Within.upd_pending); (with_reducible apply Within.upd_pwr); rfl)
    | with_reducible intro _
    | with_reducible show Within _ _ (ite _ _ _)
    | ((with_reducible show Within _ _ (id _)); exact Within.refl _ _)
    | dsimp +zetaDelta only
    | ((fail_if_success with_reducible apply Within.upd_pending); (with_reducible apply Within.upd_pwr); rfl)

theorem execM3WakeTimer_next  {m : Nat} {s : State} (c : 17179607039 &&& m = 17179607039) :
    WithinNext m s (execM3WakeTimer s) := WithinNext.mono (execM3WakeTimer_within s) c

theorem execDroopRelease_within : ∀ a0 (s : State), WithinNext 2097152 s (execDroopRelease a0 s) := by
  intro a0 s
  unfold execDroopRelease
  repeat' first
    | with_reducible exact Within.refl _ _
    | assumption
    | with_reducible apply WithinNext.ok
    | exact WithinNext.fault _
    | ((with_reducible apply Within.stepEach); intro _ _)
    | split
    | extract_lets
    | ((fail_if_success with_reducible apply Within.upd_pending); (with_reducible apply Within.upd_pwr); rfl)
    | with_reducible intro _
    | with_reducible show Within _ _ (ite _ _ _)
    | ((with_reducible show Within _ _ (id _)); exact Within.refl _ _)
    | dsimp +zetaDelta only
    | ((fail_if_success with_reducible apply Within.upd_pending); (with_reducible apply Within.upd_pwr); rfl)

theorem execDroopRelease_next {a0 : _} {m : Nat} {s : State} (c : 2097152 &&& m = 2097152) :
    WithinNext m s (execDroopRelease a0 s) := WithinNext.mono (execDroopRelease_within a0 s) c

theorem execWithdrawalDrainEnd_within : ∀ (s : State), WithinNext 17179869183 s (execWithdrawalDrainEnd s) := by
  intro s
  unfold execWithdrawalDrainEnd
  repeat' first
    | with_reducible exact Within.refl _ _
    | assumption
    | ((with_reducible apply State.endWithdraw_step); rfl)
    | ((with_reducible apply State.dropHeld_step); rfl)
    | ((with_reducible apply State.reach_step); rfl)
    | with_reducible apply WithinNext.ok
    | exact WithinNext.fault _
    | ((with_reducible apply Within.stepEach); intro _ _)
    | split
    | extract_lets
    | with_reducible intro _
    | with_reducible show Within _ _ (ite _ _ _)
    | ((with_reducible show Within _ _ (id _)); exact Within.refl _ _)
    | dsimp +zetaDelta only

theorem execWithdrawalDrainEnd_next  {m : Nat} {s : State} (c : 17179869183 &&& m = 17179869183) :
    WithinNext m s (execWithdrawalDrainEnd s) := WithinNext.mono (execWithdrawalDrainEnd_within s) c

theorem execShedRelease_within : ∀ (s : State), WithinNext 17179607039 s (execShedRelease s) := by
  intro s
  unfold execShedRelease
  repeat' first
    | with_reducible exact Within.refl _ _
    | assumption
    | ((with_reducible apply State.applyForce_step); rfl)
    | ((with_reducible apply State.setF_step); rfl)
    | ((with_reducible apply State.reach_step); rfl)
    | ((with_reducible apply State.supplyEvent_step); rfl)
    | with_reducible apply WithinNext.ok
    | exact WithinNext.fault _
    | ((with_reducible apply Within.stepEach); intro _ _)
    | split
    | extract_lets
    | ((fail_if_success with_reducible apply Within.upd_pending); (with_reducible apply Within.upd_pwr); rfl)
    | with_reducible intro _
    | with_reducible show Within _ _ (ite _ _ _)
    | ((with_reducible show Within _ _ (id _)); exact Within.refl _ _)
    | dsimp +zetaDelta only
    | ((fail_if_success with_reducible apply Within.upd_pending); (with_reducible apply Within.upd_pwr); rfl)

theorem execShedRelease_next  {m : Nat} {s : State} (c : 17179607039 &&& m = 17179607039) :
    WithinNext m s (execShedRelease s) := WithinNext.mono (execShedRelease_within s) c


/-! ## Machine/I3c.lean -/

theorem State.i3cAnswer_within : ∀ (s : State) a1 a2 a3, Within 4294967296 s (State.i3cAnswer s a1 a2 a3) := by
  intro s a1 a2 a3
  unfold State.i3cAnswer
  repeat' first
    | with_reducible exact Within.refl _ _
    | assumption
    | ((with_reducible apply State.emit_step); rfl)
    | ((with_reducible apply Within.stepEach); intro _ _)
    | split
    | extract_lets
    | with_reducible intro _
    | with_reducible show Within _ _ (ite _ _ _)
    | ((with_reducible show Within _ _ (id _)); exact Within.refl _ _)
    | dsimp +zetaDelta only

theorem State.i3cAnswer_step {a1 : _} {a2 : _} {a3 : _} {m : Nat} {r s : State} (c : 4294967296 &&& m = 4294967296) (h : Within m r s) :
    Within m r (State.i3cAnswer s a1 a2 a3) := Within.step (State.i3cAnswer_within s a1 a2 a3) c h

theorem execI3cGetbcr_within : ∀ (s : State), WithinNext 4294967296 s (execI3cGetbcr s) := by
  intro s
  unfold execI3cGetbcr
  repeat' first
    | with_reducible exact Within.refl _ _
    | assumption
    | ((with_reducible apply State.i3cAnswer_step); rfl)
    | with_reducible apply WithinNext.ok
    | exact WithinNext.fault _
    | ((with_reducible apply Within.stepEach); intro _ _)
    | split
    | extract_lets
    | with_reducible intro _
    | with_reducible show Within _ _ (ite _ _ _)
    | ((with_reducible show Within _ _ (id _)); exact Within.refl _ _)
    | dsimp +zetaDelta only

theorem execI3cGetbcr_next  {m : Nat} {s : State} (c : 4294967296 &&& m = 4294967296) :
    WithinNext m s (execI3cGetbcr s) := WithinNext.mono (execI3cGetbcr_within s) c

theorem execI3cEnec_within : ∀ (s : State), WithinNext 33554432 s (execI3cEnec s) := by
  intro s
  unfold execI3cEnec
  repeat' first
    | with_reducible exact Within.refl _ _
    | assumption
    | with_reducible apply WithinNext.ok
    | exact WithinNext.fault _
    | ((with_reducible apply Within.stepEach); intro _ _)
    | split
    | extract_lets
    | ((fail_if_success with_reducible apply Within.upd_pending); (with_reducible apply Within.upd_i3c); rfl)
    | with_reducible intro _
    | with_reducible show Within _ _ (ite _ _ _)
    | ((with_reducible show Within _ _ (id _)); exact Within.refl _ _)
    | dsimp +zetaDelta only
    | ((fail_if_success with_reducible apply Within.upd_pending); (with_reducible apply Within.upd_i3c); rfl)

theorem execI3cEnec_next  {m : Nat} {s : State} (c : 33554432 &&& m = 33554432) :
    WithinNext m s (execI3cEnec s) := WithinNext.mono (execI3cEnec_within s) c

theorem execI3cEntdaa_within : ∀ a0 (s : State), WithinNext 33554432 s (execI3cEntdaa a0 s) := by
  intro a0 s
  unfold execI3cEntdaa
  repeat' first
    | with_reducible exact Within.refl _ _
    | assumption
    | with_reducible apply WithinNext.ok
    | exact WithinNext.fault _
    | ((with_reducible apply Within.stepEach); intro _ _)
    | split
    | extract_lets
    | ((fail_if_success with_reducible apply Within.upd_pending); (with_reducible apply Within.upd_i3c); rfl)
    | with_reducible intro _
    | with_reducible show Within _ _ (ite _ _ _)
    | ((with_reducible show Within _ _ (id _)); exact Within.refl _ _)
    | dsimp +zetaDelta only
    | ((fail_if_success with_reducible apply Within.upd_pending); (with_reducible apply Within.upd_i3c); rfl)

theorem execI3cEntdaa_next {a0 : _} {m : Nat} {s : State} (c : 33554432 &&& m = 33554432) :
    WithinNext m s (execI3cEntdaa a0 s) := WithinNext.mono (execI3cEntdaa_within a0 s) c

theorem execAlertEnWrite_within : ∀ a0 (s : State), WithinNext 4328521728 s (execAlertEnWrite a0 s) := by
  intro a0 s
  unfold execAlertEnWrite
  repeat' first
    | with_reducible exact Within.refl _ _
    | assumption
    | ((with_reducible apply State.alertStep_step); rfl)
    | with_reducible apply WithinNext.ok
    | exact WithinNext.fault _
    | ((with_reducible apply Within.stepEach); intro _ _)
    | split
    | extract_lets
    | ((fail_if_success with_reducible apply Within.upd_pending); (with_reducible apply Within.upd_i3c); rfl)
    | with_reducible intro _
    | with_reducible show Within _ _ (ite _ _ _)
    | ((with_reducible show Within _ _ (id _)); exact Within.refl _ _)
    | dsimp +zetaDelta only
    | ((fail_if_success with_reducible apply Within.upd_pending); (with_reducible apply Within.upd_i3c); rfl)

theorem execAlertEnWrite_next {a0 : _} {m : Nat} {s : State} (c : 4328521728 &&& m = 4328521728) :
    WithinNext m s (execAlertEnWrite a0 s) := WithinNext.mono (execAlertEnWrite_within a0 s) c

theorem execI3cRstdaa_within : ∀ (s : State), WithinNext 33554432 s (execI3cRstdaa s) := by
  intro s
  unfold execI3cRstdaa
  repeat' first
    | with_reducible exact Within.refl _ _
    | assumption
    | with_reducible apply WithinNext.ok
    | exact WithinNext.fault _
    | ((with_reducible apply Within.stepEach); intro _ _)
    | split
    | extract_lets
    | ((fail_if_success with_reducible apply Within.upd_pending); (with_reducible apply Within.upd_i3c); rfl)
    | with_reducible intro _
    | with_reducible show Within _ _ (ite _ _ _)
    | ((with_reducible show Within _ _ (id _)); exact Within.refl _ _)
    | dsimp +zetaDelta only
    | ((fail_if_success with_reducible apply Within.upd_pending); (with_reducible apply Within.upd_i3c); rfl)

theorem execI3cRstdaa_next  {m : Nat} {s : State} (c : 33554432 &&& m = 33554432) :
    WithinNext m s (execI3cRstdaa s) := WithinNext.mono (execI3cRstdaa_within s) c

theorem execI3cGetpid_within : ∀ (s : State), WithinNext 4294967296 s (execI3cGetpid s) := by
  intro s
  unfold execI3cGetpid
  repeat' first
    | with_reducible exact Within.refl _ _
    | assumption
    | ((with_reducible apply State.i3cAnswer_step); rfl)
    | with_reducible apply WithinNext.ok
    | exact WithinNext.fault _
    | ((with_reducible apply Within.stepEach); intro _ _)
    | split
    | extract_lets
    | with_reducible intro _
    | with_reducible show Within _ _ (ite _ _ _)
    | ((with_reducible show Within _ _ (id _)); exact Within.refl _ _)
    | dsimp +zetaDelta only

theorem execI3cGetpid_next  {m : Nat} {s : State} (c : 4294967296 &&& m = 4294967296) :
    WithinNext m s (execI3cGetpid s) := WithinNext.mono (execI3cGetpid_within s) c

theorem execI3cGetstatus_within : ∀ (s : State), WithinNext 12884901888 s (execI3cGetstatus s) := by
  intro s
  unfold execI3cGetstatus
  repeat' first
    | with_reducible exact Within.refl _ _
    | assumption
    | ((with_reducible apply State.i3cAnswer_step); rfl)
    | ((with_reducible apply State.tick_step); rfl)
    | with_reducible apply WithinNext.ok
    | exact WithinNext.fault _
    | ((with_reducible apply Within.stepEach); intro _ _)
    | split
    | extract_lets
    | with_reducible intro _
    | with_reducible show Within _ _ (ite _ _ _)
    | ((with_reducible show Within _ _ (id _)); exact Within.refl _ _)
    | dsimp +zetaDelta only

theorem execI3cGetstatus_next  {m : Nat} {s : State} (c : 12884901888 &&& m = 12884901888) :
    WithinNext m s (execI3cGetstatus s) := WithinNext.mono (execI3cGetstatus_within s) c

theorem execI3cGetdcr_within : ∀ (s : State), WithinNext 4294967296 s (execI3cGetdcr s) := by
  intro s
  unfold execI3cGetdcr
  repeat' first
    | with_reducible exact Within.refl _ _
    | assumption
    | ((with_reducible apply State.i3cAnswer_step); rfl)
    | with_reducible apply WithinNext.ok
    | exact WithinNext.fault _
    | ((with_reducible apply Within.stepEach); intro _ _)
    | split
    | extract_lets
    | with_reducible intro _
    | with_reducible show Within _ _ (ite _ _ _)
    | ((with_reducible show Within _ _ (id _)); exact Within.refl _ _)
    | dsimp +zetaDelta only

theorem execI3cGetdcr_next  {m : Nat} {s : State} (c : 4294967296 &&& m = 4294967296) :
    WithinNext m s (execI3cGetdcr s) := WithinNext.mono (execI3cGetdcr_within s) c

theorem execI3cSetdasa_within : ∀ a0 a1 (s : State), WithinNext 33554432 s (execI3cSetdasa a0 a1 s) := by
  intro a0 a1 s
  unfold execI3cSetdasa
  repeat' first
    | with_reducible exact Within.refl _ _
    | assumption
    | with_reducible apply WithinNext.ok
    | exact WithinNext.fault _
    | ((with_reducible apply Within.stepEach); intro _ _)
    | split
    | extract_lets
    | ((fail_if_success with_reducible apply Within.upd_pending); (with_reducible apply Within.upd_i3c); rfl)
    | with_reducible intro _
    | with_reducible show Within _ _ (ite _ _ _)
    | ((with_reducible show Within _ _ (id _)); exact Within.refl _ _)
    | dsimp +zetaDelta only
    | ((fail_if_success with_reducible apply Within.upd_pending); (with_reducible apply Within.upd_i3c); rfl)

theorem execI3cSetdasa_next {a0 : _} {a1 : _} {m : Nat} {s : State} (c : 33554432 &&& m = 33554432) :
    WithinNext m s (execI3cSetdasa a0 a1 s) := WithinNext.mono (execI3cSetdasa_within a0 a1 s) c

theorem execI3cDisec_within : ∀ (s : State), WithinNext 33554432 s (execI3cDisec s) := by
  intro s
  unfold execI3cDisec
  repeat' first
    | with_reducible exact Within.refl _ _
    | assumption
    | with_reducible apply WithinNext.ok
    | exact WithinNext.fault _
    | ((with_reducible apply Within.stepEach); intro _ _)
    | split
    | extract_lets
    | ((fail_if_success with_reducible apply Within.upd_pending); (with_reducible apply Within.upd_i3c); rfl)
    | with_reducible intro _
    | with_reducible show Within _ _ (ite _ _ _)
    | ((with_reducible show Within _ _ (id _)); exact Within.refl _ _)
    | dsimp +zetaDelta only
    | ((fail_if_success with_reducible apply Within.upd_pending); (with_reducible apply Within.upd_i3c); rfl)

theorem execI3cDisec_next  {m : Nat} {s : State} (c : 33554432 &&& m = 33554432) :
    WithinNext m s (execI3cDisec s) := WithinNext.mono (execI3cDisec_within s) c

theorem execI3cWake_within : ∀ (s : State), WithinNext 14998568958 s (execI3cWake s) := by
  intro s
  unfold execI3cWake
  repeat' first
    | with_reducible exact Within.refl _ _
    | assumption
    | ((with_reducible apply State.applyForce_step); rfl)
    | ((with_reducible apply State.setF_step); rfl)
    | with_reducible apply WithinNext.ok
    | exact WithinNext.fault _
    | ((with_reducible apply Within.stepEach); intro _ _)
    | split
    | extract_lets
    | with_reducible intro _
    | with_reducible show Within _ _ (ite _ _ _)
    | ((with_reducible show Within _ _ (id _)); exact Within.refl _ _)
    | dsimp +zetaDelta only

theorem execI3cWake_next  {m : Nat} {s : State} (c : 14998568958 &&& m = 14998568958) :
    WithinNext m s (execI3cWake s) := WithinNext.mono (execI3cWake_within s) c


/-! ## Machine/Boot.lean -/

theorem State.attStatus_within : ∀ (s : State) a1, Within 2 s (State.attStatus s a1) := by
  intro s a1
  unfold State.attStatus
  repeat' first
    | with_reducible exact Within.refl _ _
    | assumption
    | ((with_reducible apply State.setF_step); rfl)
    | ((with_reducible apply Within.stepEach); intro _ _)
    | split
    | extract_lets
    | with_reducible intro _
    | with_reducible show Within _ _ (ite _ _ _)
    | ((with_reducible show Within _ _ (id _)); exact Within.refl _ _)
    | dsimp +zetaDelta only

theorem State.attStatus_step {a1 : _} {m : Nat} {r s : State} (c : 2 &&& m = 2) (h : Within m r s) :
    Within m r (State.attStatus s a1) := Within.step (State.attStatus_within s a1) c h

theorem State.attCommand_step {f : State → State} {m : Nat} {r s : State} (c : 2 &&& m = 2)
    (k : ∀ x, Within m x (f x)) (h : Within m r s) : Within m r (s.attCommand f) := by
  refine Within.step (v := m) ?_ (Nat.and_self m) h
  unfold State.attCommand
  repeat' first
    | with_reducible exact Within.refl _ _
    | assumption
    | (refine Within.step (k _) (Nat.and_self _) ?_)
    | ((with_reducible apply State.attStatus_step); exact Within.covers (by decide) c)
    | split
    | extract_lets

theorem State.bootEvent_within : ∀ (s : State), Within 939524100 s (State.bootEvent s) := by
  intro s
  unfold State.bootEvent
  repeat' first
    | with_reducible exact Within.refl _ _
    | assumption
    | ((with_reducible apply State.raise_step); rfl)
    | ((with_reducible apply Within.stepEach); intro _ _)
    | split
    | extract_lets
    | with_reducible intro _
    | with_reducible show Within _ _ (ite _ _ _)
    | ((with_reducible show Within _ _ (id _)); exact Within.refl _ _)
    | dsimp +zetaDelta only

theorem State.bootEvent_step  {m : Nat} {r s : State} (c : 939524100 &&& m = 939524100) (h : Within m r s) :
    Within m r (State.bootEvent s) := Within.step (State.bootEvent_within s) c h

theorem State.bringUp_within : ∀ (s : State) a1 a2, Within 14910516702 s (State.bringUp s a1 a2) := by
  intro s a1 a2
  unfold State.bringUp
  repeat' first
    | with_reducible exact Within.refl _ _
    | assumption
    | ((with_reducible apply State.opStep_step); rfl)
    | ((with_reducible apply State.domainOn_step); rfl)
    | ((with_reducible apply Within.stepEach); intro _ _)
    | split
    | extract_lets
    | ((fail_if_success with_reducible apply Within.upd_pending); (with_reducible apply Within.upd_pwr); rfl)
    | with_reducible intro _
    | with_reducible show Within _ _ (ite _ _ _)
    | ((with_reducible show Within _ _ (id _)); exact Within.refl _ _)
    | dsimp +zetaDelta only
    | ((fail_if_success with_reducible apply Within.upd_pending); (with_reducible apply Within.upd_pwr); rfl)

theorem State.bringUp_step {a1 : _} {a2 : _} {m : Nat} {r s : State} (c : 14910516702 &&& m = 14910516702) (h : Within m r s) :
    Within m r (State.bringUp s a1 a2) := Within.step (State.bringUp_within s a1 a2) c h

theorem State.burnt_within : ∀ (s : State), Within 956301318 s (State.burnt s) := by
  intro s
  unfold State.burnt
  repeat' first
    | with_reducible exact Within.refl _ _
    | assumption
    | ((with_reducible apply State.raise_step); rfl)
    | ((with_reducible apply State.measure_step); rfl)
    | ((with_reducible apply Within.stepEach); intro _ _)
    | split
    | extract_lets
    | with_reducible intro _
    | with_reducible show Within _ _ (ite _ _ _)
    | ((with_reducible show Within _ _ (id _)); exact Within.refl _ _)
    | dsimp +zetaDelta only

theorem State.burnt_step  {m : Nat} {r s : State} (c : 956301318 &&& m = 956301318) (h : Within m r s) :
    Within m r (State.burnt s) := Within.step (State.burnt_within s) c h

theorem State.dropResets_within : ∀ (s : State), Within 942669828 s (State.dropResets s) := by
  intro s
  unfold State.dropResets
  repeat' first
    | with_reducible exact Within.refl _ _
    | assumption
    | ((with_reducible apply State.endMaint_step); rfl)
    | ((with_reducible apply Within.stepEach); intro _ _)
    | split
    | extract_lets
    | ((fail_if_success with_reducible apply Within.upd_pending); (with_reducible apply Within.upd_pwr); rfl)
    | with_reducible intro _
    | with_reducible show Within _ _ (ite _ _ _)
    | ((with_reducible show Within _ _ (id _)); exact Within.refl _ _)
    | dsimp +zetaDelta only
    | ((fail_if_success with_reducible apply Within.upd_pending); (with_reducible apply Within.upd_pwr); rfl)

theorem State.dropResets_step  {m : Nat} {r s : State} (c : 942669828 &&& m = 942669828) (h : Within m r s) :
    Within m r (State.dropResets s) := Within.step (State.dropResets_within s) c h

theorem State.eraseSlot_within : ∀ (s : State) a1 a2, Within 16777216 s (State.eraseSlot s a1 a2) := by
  intro s a1 a2
  unfold State.eraseSlot
  repeat' first
    | with_reducible exact Within.refl _ _
    | assumption
    | ((with_reducible apply Within.stepEach); intro _ _)
    | split
    | extract_lets
    | ((fail_if_success with_reducible apply Within.upd_pending); (with_reducible apply Within.upd_boot); rfl)
    | with_reducible intro _
    | with_reducible show Within _ _ (ite _ _ _)
    | ((with_reducible show Within _ _ (id _)); exact Within.refl _ _)
    | dsimp +zetaDelta only
    | ((fail_if_success with_reducible apply Within.upd_pending); (with_reducible apply Within.upd_boot); rfl)

theorem State.eraseSlot_step {a1 : _} {a2 : _} {m : Nat} {r s : State} (c : 16777216 &&& m = 16777216) (h : Within m r s) :
    Within m r (State.eraseSlot s a1 a2) := Within.step (State.eraseSlot_within s a1 a2) c h

theorem State.recordFail_within : ∀ (s : State) a1 a2, Within 16777218 s (State.recordFail s a1 a2) := by
  intro s a1 a2
  unfold State.recordFail
  repeat' first
    | with_reducible exact Within.refl _ _
    | assumption
    | ((with_reducible apply State.setF_step); rfl)
    | ((with_reducible apply Within.stepEach); intro _ _)
    | split
    | extract_lets
    | ((fail_if_success with_reducible apply Within.upd_pending); (with_reducible apply Within.upd_boot); rfl)
    | with_reducible intro _
    | with_reducible show Within _ _ (ite _ _ _)
    | ((with_reducible show Within _ _ (id _)); exact Within.refl _ _)
    | dsimp +zetaDelta only
    | ((fail_if_success with_reducible apply Within.upd_pending); (with_reducible apply Within.upd_boot); rfl)

theorem State.recordFail_step {a1 : _} {a2 : _} {m : Nat} {r s : State} (c : 16777218 &&& m = 16777218) (h : Within m r s) :
    Within m r (State.recordFail s a1 a2) := Within.step (State.recordFail_within s a1 a2) c h

theorem State.failAttempt_within : ∀ (s : State) a1, Within 16777218 s (State.failAttempt s a1) := by
  intro s a1
  unfold State.failAttempt
  repeat' first
    | with_reducible exact Within.refl _ _
    | assumption
    | ((with_reducible apply State.attempt_step); rfl)
    | ((with_reducible apply State.recordFail_step); rfl)
    | ((with_reducible apply State.setPhase_step); rfl)
    | ((with_reducible apply Within.stepEach); intro _ _)
    | split
    | extract_lets
    | ((fail_if_success with_reducible apply Within.upd_pending); (with_reducible apply Within.upd_boot); rfl)
    | with_reducible intro _
    | with_reducible show Within _ _ (ite _ _ _)
    | ((with_reducible show Within _ _ (id _)); exact Within.refl _ _)
    | dsimp +zetaDelta only
    | ((fail_if_success with_reducible apply Within.upd_pending); (with_reducible apply Within.upd_boot); rfl)

theorem State.failAttempt_step {a1 : _} {m : Nat} {r s : State} (c : 16777218 &&& m = 16777218) (h : Within m r s) :
    Within m r (State.failAttempt s a1) := Within.step (State.failAttempt_within s a1) c h

theorem State.flashStatus_within : ∀ (s : State) a1, Within 2 s (State.flashStatus s a1) := by
  intro s a1
  unfold State.flashStatus
  repeat' first
    | with_reducible exact Within.refl _ _
    | assumption
    | ((with_reducible apply State.setF_step); rfl)
    | ((with_reducible apply Within.stepEach); intro _ _)
    | split
    | extract_lets
    | with_reducible intro _
    | with_reducible show Within _ _ (ite _ _ _)
    | ((with_reducible show Within _ _ (id _)); exact Within.refl _ _)
    | dsimp +zetaDelta only

theorem State.flashStatus_step {a1 : _} {m : Nat} {r s : State} (c : 2 &&& m = 2) (h : Within m r s) :
    Within m r (State.flashStatus s a1) := Within.step (State.flashStatus_within s a1) c h

theorem State.flashRequest_step {a : Nat} {b : Option Nat} {f : State → State} {m : Nat} {r s : State} (c : 957349894 &&& m = 957349894)
    (k : ∀ x, Within m x (f x)) (h : Within m r s) : Within m r (s.flashRequest a b f) := by
  refine Within.step (v := m) ?_ (Nat.and_self m) h
  unfold State.flashRequest
  repeat' first
    | ((with_reducible apply State.requestMaint_step); exact Within.covers (by decide) c; exact k)
    | with_reducible exact Within.refl _ _
    | assumption
    | (refine Within.step (k _) (Nat.and_self _) ?_)
    | ((with_reducible apply State.flashStatus_step); exact Within.covers (by decide) c)
    | ((with_reducible apply State.setF_step); exact Within.covers (by decide) c)
    | split
    | extract_lets
    | ((with_reducible apply Within.upd_boot); exact Within.covers (by decide) c)

theorem State.resetEvent_within : ∀ (s : State), Within 939524102 s (State.resetEvent s) := by
  intro s
  unfold State.resetEvent
  repeat' first
    | with_reducible exact Within.refl _ _
    | assumption
    | ((with_reducible apply State.setF_step); rfl)
    | ((with_reducible apply State.raise_step); rfl)
    | ((with_reducible apply Within.stepEach); intro _ _)
    | split
    | extract_lets
    | with_reducible intro _
    | with_reducible show Within _ _ (ite _ _ _)
    | ((with_reducible show Within _ _ (id _)); exact Within.refl _ _)
    | dsimp +zetaDelta only

theorem State.resetEvent_step  {m : Nat} {r s : State} (c : 939524102 &&& m = 939524102) (h : Within m r s) :
    Within m r (State.resetEvent s) := Within.step (State.resetEvent_within s) c h

theorem State.rstStatus_within : ∀ (s : State) a1, Within 2 s (State.rstStatus s a1) := by
  intro s a1
  unfold State.rstStatus
  repeat' first
    | with_reducible exact Within.refl _ _
    | assumption
    | ((with_reducible apply State.setF_step); rfl)
    | ((with_reducible apply Within.stepEach); intro _ _)
    | split
    | extract_lets
    | with_reducible intro _
    | with_reducible show Within _ _ (ite _ _ _)
    | ((with_reducible show Within _ _ (id _)); exact Within.refl _ _)
    | dsimp +zetaDelta only

theorem State.rstStatus_step {a1 : _} {m : Nat} {r s : State} (c : 2 &&& m = 2) (h : Within m r s) :
    Within m r (State.rstStatus s a1) := Within.step (State.rstStatus_within s a1) c h

theorem State.secStatus_within : ∀ (s : State) a1, Within 2 s (State.secStatus s a1) := by
  intro s a1
  unfold State.secStatus
  repeat' first
    | with_reducible exact Within.refl _ _
    | assumption
    | ((with_reducible apply State.setF_step); rfl)
    | ((with_reducible apply Within.stepEach); intro _ _)
    | split
    | extract_lets
    | with_reducible intro _
    | with_reducible show Within _ _ (ite _ _ _)
    | ((with_reducible show Within _ _ (id _)); exact Within.refl _ _)
    | dsimp +zetaDelta only

theorem State.secStatus_step {a1 : _} {m : Nat} {r s : State} (c : 2 &&& m = 2) (h : Within m r s) :
    Within m r (State.secStatus s a1) := Within.step (State.secStatus_within s a1) c h

theorem State.startErase_within : ∀ a0 (s : State), Within 957349894 s (State.startErase a0 s) := by
  intro a0 s
  unfold State.startErase
  repeat' first
    | with_reducible exact Within.refl _ _
    | assumption
    | ((with_reducible apply State.setF_step); rfl)
    | ((with_reducible apply State.endMaint_step); rfl)
    | ((with_reducible apply State.eraseSlot_step); rfl)
    | ((with_reducible apply Within.stepEach); intro _ _)
    | split
    | extract_lets
    | with_reducible intro _
    | with_reducible show Within _ _ (ite _ _ _)
    | ((with_reducible show Within _ _ (id _)); exact Within.refl _ _)
    | dsimp +zetaDelta only

theorem State.startErase_step {a0 : _} {m : Nat} {r s : State} (c : 957349894 &&& m = 957349894) (h : Within m r s) :
    Within m r (State.startErase a0 s) := Within.step (State.startErase_within a0 s) c h

theorem State.startProgram_within : ∀ a0 a1 (s : State), Within 16777216 s (State.startProgram a0 a1 s) := by
  intro a0 a1 s
  unfold State.startProgram
  repeat' first
    | with_reducible exact Within.refl _ _
    | assumption
    | ((with_reducible apply State.eraseSlot_step); rfl)
    | ((with_reducible apply Within.stepEach); intro _ _)
    | split
    | extract_lets
    | ((fail_if_success with_reducible apply Within.upd_pending); (with_reducible apply Within.upd_boot); rfl)
    | with_reducible intro _
    | with_reducible show Within _ _ (ite _ _ _)
    | ((with_reducible show Within _ _ (id _)); exact Within.refl _ _)
    | dsimp +zetaDelta only
    | ((fail_if_success with_reducible apply Within.upd_pending); (with_reducible apply Within.upd_boot); rfl)

theorem State.startProgram_step {a0 : _} {a1 : _} {m : Nat} {r s : State} (c : 16777216 &&& m = 16777216) (h : Within m r s) :
    Within m r (State.startProgram a0 a1 s) := Within.step (State.startProgram_within a0 a1 s) c h

theorem State.startWarm_within : ∀ (s : State) a1, Within 5321523204 s (State.startWarm s a1) := by
  intro s a1
  unfold State.startWarm
  repeat' first
    | with_reducible exact Within.refl _ _
    | assumption
    | ((with_reducible apply State.dropResets_step); rfl)
    | ((with_reducible apply State.beginWithdraw_step); rfl)
    | ((with_reducible apply Within.stepEach); intro _ _)
    | split
    | extract_lets
    | ((fail_if_success with_reducible apply Within.upd_pending); (with_reducible apply Within.upd_boot); rfl)
    | with_reducible intro _
    | with_reducible show Within _ _ (ite _ _ _)
    | ((with_reducible show Within _ _ (id _)); exact Within.refl _ _)
    | dsimp +zetaDelta only
    | ((fail_if_success with_reducible apply Within.upd_pending); (with_reducible apply Within.upd_boot); rfl)

theorem State.startWarm_step {a1 : _} {m : Nat} {r s : State} (c : 5321523204 &&& m = 5321523204) (h : Within m r s) :
    Within m r (State.startWarm s a1) := Within.step (State.startWarm_within s a1) c h

theorem State.testStacks_within : ∀ (s : State) a1, Within 939524102 s (State.testStacks s a1).2 := by
  intro s a1
  unfold State.testStacks
  repeat' first
    | with_reducible exact Within.refl _ _
    | assumption
    | ((with_reducible apply State.setF_step); rfl)
    | ((with_reducible apply State.raise_step); rfl)
    | ((with_reducible apply Within.stepEach); intro _ _)
    | split
    | extract_lets
    | with_reducible intro _
    | with_reducible show Within _ _ (ite _ _ _)
    | ((with_reducible show Within _ _ (id _)); exact Within.refl _ _)
    | dsimp +zetaDelta only

theorem State.testStacks_step {a1 : _} {m : Nat} {r s : State} (c : 939524102 &&& m = 939524102) (h : Within m r s) :
    Within m r (State.testStacks s a1).2 := Within.step (State.testStacks_within s a1) c h

theorem execHostImageGo_within : ∀ a0 (s : State), WithinNext 16777218 s (execHostImageGo a0 s) := by
  intro a0 s
  unfold execHostImageGo
  repeat' first
    | with_reducible exact Within.refl _ _
    | assumption
    | ((with_reducible apply State.setF_step); rfl)
    | with_reducible apply WithinNext.ok
    | exact WithinNext.fault _
    | ((with_reducible apply Within.stepEach); intro _ _)
    | split
    | extract_lets
    | ((fail_if_success with_reducible apply Within.upd_pending); (with_reducible apply Within.upd_boot); rfl)
    | with_reducible intro _
    | with_reducible show Within _ _ (ite _ _ _)
    | ((with_reducible show Within _ _ (id _)); exact Within.refl _ _)
    | dsimp +zetaDelta only
    | ((fail_if_success with_reducible apply Within.upd_pending); (with_reducible apply Within.upd_boot); rfl)

theorem execHostImageGo_next {a0 : _} {m : Nat} {s : State} (c : 16777218 &&& m = 16777218) :
    WithinNext m s (execHostImageGo a0 s) := WithinNext.mono (execHostImageGo_within a0 s) c

theorem execFlashErase_within : ∀ a0 (s : State), WithinNext 957349894 s (execFlashErase a0 s) := by
  intro a0 s
  unfold execFlashErase
  repeat' first
    | with_reducible exact Within.refl _ _
    | assumption
    | ((with_reducible apply State.flashRequest_step); rfl)
    | ((with_reducible apply State.startErase_step); rfl)
    | with_reducible apply WithinNext.ok
    | exact WithinNext.fault _
    | ((with_reducible apply Within.stepEach); intro _ _)
    | split
    | extract_lets
    | with_reducible intro _
    | with_reducible show Within _ _ (ite _ _ _)
    | ((with_reducible show Within _ _ (id _)); exact Within.refl _ _)
    | dsimp +zetaDelta only

theorem execFlashErase_next {a0 : _} {m : Nat} {s : State} (c : 957349894 &&& m = 957349894) :
    WithinNext m s (execFlashErase a0 s) := WithinNext.mono (execFlashErase_within a0 s) c

theorem execDomainResetRequest_within : ∀ a0 (s : State), WithinNext 14931460094 s (execDomainResetRequest a0 s) := by
  intro a0 s
  unfold execDomainResetRequest
  repeat' first
    | with_reducible exact Within.refl _ _
    | assumption
    | ((with_reducible apply State.requestMaint_step); rfl)
    | ((with_reducible apply State.rstStatus_step); rfl)
    | ((with_reducible apply State.startDomainOp_step); rfl)
    | with_reducible apply WithinNext.ok
    | exact WithinNext.fault _
    | ((with_reducible apply Within.stepEach); intro _ _)
    | split
    | extract_lets
    | with_reducible intro _
    | with_reducible show Within _ _ (ite _ _ _)
    | ((with_reducible show Within _ _ (id _)); exact Within.refl _ _)
    | dsimp +zetaDelta only

theorem execDomainResetRequest_next {a0 : _} {m : Nat} {s : State} (c : 14931460094 &&& m = 14931460094) :
    WithinNext m s (execDomainResetRequest a0 s) := WithinNext.mono (execDomainResetRequest_within a0 s) c

theorem execFlashProgram_within : ∀ a0 a1 (s : State), WithinNext 957349894 s (execFlashProgram a0 a1 s) := by
  intro a0 a1 s
  unfold execFlashProgram
  repeat' first
    | with_reducible exact Within.refl _ _
    | assumption
    | ((with_reducible apply State.flashRequest_step); rfl)
    | ((with_reducible apply State.flashStatus_step); rfl)
    | ((with_reducible apply State.startErase_step); rfl)
    | ((with_reducible apply State.startProgram_step); rfl)
    | with_reducible apply WithinNext.ok
    | exact WithinNext.fault _
    | ((with_reducible apply Within.stepEach); intro _ _)
    | split
    | extract_lets
    | with_reducible intro _
    | with_reducible show Within _ _ (ite _ _ _)
    | ((with_reducible show Within _ _ (id _)); exact Within.refl _ _)
    | dsimp +zetaDelta only

theorem execFlashProgram_next {a0 : _} {a1 : _} {m : Nat} {s : State} (c : 957349894 &&& m = 957349894) :
    WithinNext m s (execFlashProgram a0 a1 s) := WithinNext.mono (execFlashProgram_within a0 a1 s) c

theorem execSecRaiseMinSvn_within : ∀ (s : State), WithinNext 956301318 s (execSecRaiseMinSvn s) := by
  intro s
  unfold execSecRaiseMinSvn
  repeat' first
    | with_reducible exact Within.refl _ _
    | assumption
    | ((with_reducible apply State.setF_step); rfl)
    | ((with_reducible apply State.burnt_step); rfl)
    | ((with_reducible apply State.secStatus_step); rfl)
    | with_reducible apply WithinNext.ok
    | exact WithinNext.fault _
    | ((with_reducible apply Within.stepEach); intro _ _)
    | split
    | extract_lets
    | ((fail_if_success with_reducible apply Within.upd_pending); (with_reducible apply Within.upd_boot); rfl)
    | with_reducible intro _
    | with_reducible show Within _ _ (ite _ _ _)
    | ((with_reducible show Within _ _ (id _)); exact Within.refl _ _)
    | dsimp +zetaDelta only
    | ((fail_if_success with_reducible apply Within.upd_pending); (with_reducible apply Within.upd_boot); rfl)

theorem execSecRaiseMinSvn_next  {m : Nat} {s : State} (c : 956301318 &&& m = 956301318) :
    WithinNext m s (execSecRaiseMinSvn s) := WithinNext.mono (execSecRaiseMinSvn_within s) c

theorem execSecBurnOwnerHash_within : ∀ a0 (s : State), WithinNext 956301318 s (execSecBurnOwnerHash a0 s) := by
  intro a0 s
  unfold execSecBurnOwnerHash
  repeat' first
    | with_reducible exact Within.refl _ _
    | assumption
    | ((with_reducible apply State.setF_step); rfl)
    | ((with_reducible apply State.burnt_step); rfl)
    | ((with_reducible apply State.secStatus_step); rfl)
    | with_reducible apply WithinNext.ok
    | exact WithinNext.fault _
    | ((with_reducible apply Within.stepEach); intro _ _)
    | split
    | extract_lets
    | ((fail_if_success with_reducible apply Within.upd_pending); (with_reducible apply Within.upd_boot); rfl)
    | with_reducible intro _
    | with_reducible show Within _ _ (ite _ _ _)
    | ((with_reducible show Within _ _ (id _)); exact Within.refl _ _)
    | dsimp +zetaDelta only
    | ((fail_if_success with_reducible apply Within.upd_pending); (with_reducible apply Within.upd_boot); rfl)

theorem execSecBurnOwnerHash_next {a0 : _} {m : Nat} {s : State} (c : 956301318 &&& m = 956301318) :
    WithinNext m s (execSecBurnOwnerHash a0 s) := WithinNext.mono (execSecBurnOwnerHash_within a0 s) c

theorem execAttestReadEntry_within : ∀ a0 (s : State), WithinNext 2 s (execAttestReadEntry a0 s) := by
  intro a0 s
  unfold execAttestReadEntry
  repeat' first
    | with_reducible exact Within.refl _ _
    | assumption
    | ((with_reducible apply State.wrWords_step); rfl)
    | ((with_reducible apply State.attStatus_step); rfl)
    | ((with_reducible apply State.attCommand_step); rfl)
    | with_reducible apply WithinNext.ok
    | exact WithinNext.fault _
    | ((with_reducible apply Within.stepEach); intro _ _)
    | split
    | extract_lets
    | with_reducible intro _
    | with_reducible show Within _ _ (ite _ _ _)
    | ((with_reducible show Within _ _ (id _)); exact Within.refl _ _)
    | dsimp +zetaDelta only

theorem execAttestReadEntry_next {a0 : _} {m : Nat} {s : State} (c : 2 &&& m = 2) :
    WithinNext m s (execAttestReadEntry a0 s) := WithinNext.mono (execAttestReadEntry_within a0 s) c

theorem execAttestReport_within : ∀ (s : State), WithinNext 956301318 s (execAttestReport s) := by
  intro s
  unfold execAttestReport
  repeat' first
    | with_reducible exact Within.refl _ _
    | assumption
    | ((with_reducible apply State.setF_step); rfl)
    | ((with_reducible apply State.attStatus_step); rfl)
    | ((with_reducible apply State.raise_step); rfl)
    | ((with_reducible apply State.attCommand_step); rfl)
    | with_reducible apply WithinNext.ok
    | exact WithinNext.fault _
    | ((with_reducible apply Within.stepEach); intro _ _)
    | split
    | extract_lets
    | ((fail_if_success with_reducible apply Within.upd_pending); (with_reducible apply Within.upd_boot); rfl)
    | with_reducible intro _
    | with_reducible show Within _ _ (ite _ _ _)
    | ((with_reducible show Within _ _ (id _)); exact Within.refl _ _)
    | dsimp +zetaDelta only
    | ((fail_if_success with_reducible apply Within.upd_pending); (with_reducible apply Within.upd_boot); rfl)

theorem execAttestReport_next  {m : Nat} {s : State} (c : 956301318 &&& m = 956301318) :
    WithinNext m s (execAttestReport s) := WithinNext.mono (execAttestReport_within s) c

theorem execWarmResetRequest_within : ∀ (s : State), WithinNext 5321523206 s (execWarmResetRequest s) := by
  intro s
  unfold execWarmResetRequest
  repeat' first
    | with_reducible exact Within.refl _ _
    | assumption
    | ((with_reducible apply State.startWarm_step); rfl)
    | ((with_reducible apply State.rstStatus_step); rfl)
    | with_reducible apply WithinNext.ok
    | exact WithinNext.fault _
    | ((with_reducible apply Within.stepEach); intro _ _)
    | split
    | extract_lets
    | with_reducible intro _
    | with_reducible show Within _ _ (ite _ _ _)
    | ((with_reducible show Within _ _ (id _)); exact Within.refl _ _)
    | dsimp +zetaDelta only

theorem execWarmResetRequest_next  {m : Nat} {s : State} (c : 5321523206 &&& m = 5321523206) :
    WithinNext m s (execWarmResetRequest s) := WithinNext.mono (execWarmResetRequest_within s) c

theorem execAttestWritePubkey_within : ∀ (s : State), WithinNext 4295491586 s (execAttestWritePubkey s) := by
  intro s
  unfold execAttestWritePubkey
  repeat' first
    | with_reducible exact Within.refl _ _
    | assumption
    | ((with_reducible apply State.attStatus_step); rfl)
    | ((with_reducible apply State.hostWrites_step); rfl)
    | ((with_reducible apply State.attCommand_step); rfl)
    | with_reducible apply WithinNext.ok
    | exact WithinNext.fault _
    | ((with_reducible apply Within.stepEach); intro _ _)
    | split
    | extract_lets
    | with_reducible intro _
    | with_reducible show Within _ _ (ite _ _ _)
    | ((with_reducible show Within _ _ (id _)); exact Within.refl _ _)
    | dsimp +zetaDelta only

theorem execAttestWritePubkey_next  {m : Nat} {s : State} (c : 4295491586 &&& m = 4295491586) :
    WithinNext m s (execAttestWritePubkey s) := WithinNext.mono (execAttestWritePubkey_within s) c

theorem execImageCheckDone_within : ∀ a0 (s : State), WithinNext 956301318 s (execImageCheckDone a0 s) := by
  intro a0 s
  unfold execImageCheckDone
  repeat' first
    | with_reducible exact Within.refl _ _
    | assumption
    | ((with_reducible apply State.setF_step); rfl)
    | ((with_reducible apply State.failAttempt_step); rfl)
    | ((with_reducible apply State.setPhase_step); rfl)
    | ((with_reducible apply State.measure_step); rfl)
    | with_reducible apply WithinNext.ok
    | exact WithinNext.fault _
    | ((with_reducible apply Within.stepEach); intro _ _)
    | split
    | extract_lets
    | ((fail_if_success with_reducible apply Within.upd_pending); (with_reducible apply Within.upd_boot); rfl)
    | with_reducible intro _
    | with_reducible show Within _ _ (ite _ _ _)
    | ((with_reducible show Within _ _ (id _)); exact Within.refl _ _)
    | dsimp +zetaDelta only
    | ((fail_if_success with_reducible apply Within.upd_pending); (with_reducible apply Within.upd_boot); rfl)

theorem execImageCheckDone_next {a0 : _} {m : Nat} {s : State} (c : 956301318 &&& m = 956301318) :
    WithinNext m s (execImageCheckDone a0 s) := WithinNext.mono (execImageCheckDone_within a0 s) c

theorem execResetNRelease_within : ∀ (s : State), WithinNext 14931460094 s (execResetNRelease s) := by
  intro s
  unfold execResetNRelease
  repeat' first
    | with_reducible exact Within.refl _ _
    | assumption
    | ((with_reducible apply State.tryBoot_step); rfl)
    | with_reducible apply WithinNext.ok
    | exact WithinNext.fault _
    | ((with_reducible apply Within.stepEach); intro _ _)
    | split
    | extract_lets
    | ((fail_if_success with_reducible apply Within.upd_pending); (with_reducible apply Within.upd_boot); rfl)
    | with_reducible intro _
    | with_reducible show Within _ _ (ite _ _ _)
    | ((with_reducible show Within _ _ (id _)); exact Within.refl _ _)
    | dsimp +zetaDelta only
    | ((fail_if_success with_reducible apply Within.upd_pending); (with_reducible apply Within.upd_boot); rfl)

theorem execResetNRelease_next  {m : Nat} {s : State} (c : 14931460094 &&& m = 14931460094) :
    WithinNext m s (execResetNRelease s) := WithinNext.mono (execResetNRelease_within s) c

theorem execFlashProgramDone_within : ∀ a0 (s : State), WithinNext 957349894 s (execFlashProgramDone a0 s) := by
  intro a0 s
  unfold execFlashProgramDone
  repeat' first
    | with_reducible exact Within.refl _ _
    | assumption
    | ((with_reducible apply State.setF_step); rfl)
    | ((with_reducible apply State.endMaint_step); rfl)
    | ((with_reducible apply State.eraseSlot_step); rfl)
    | ((with_reducible apply State.flashStatus_step); rfl)
    | with_reducible apply WithinNext.ok
    | exact WithinNext.fault _
    | ((with_reducible apply Within.stepEach); intro _ _)
    | split
    | extract_lets
    | ((fail_if_success with_reducible apply Within.upd_pending); (with_reducible apply Within.upd_boot); rfl)
    | with_reducible intro _
    | with_reducible show Within _ _ (ite _ _ _)
    | ((with_reducible show Within _ _ (id _)); exact Within.refl _ _)
    | dsimp +zetaDelta only
    | ((fail_if_success with_reducible apply Within.upd_pending); (with_reducible apply Within.upd_boot); rfl)

theorem execFlashProgramDone_next {a0 : _} {m : Nat} {s : State} (c : 957349894 &&& m = 957349894) :
    WithinNext m s (execFlashProgramDone a0 s) := WithinNext.mono (execFlashProgramDone_within a0 s) c

theorem execBringupDone_within : ∀ a0 a1 (s : State), WithinNext 14998831102 s (execBringupDone a0 a1 s) := by
  intro a0 a1 s
  unfold execBringupDone
  repeat' first
    | with_reducible exact Within.refl _ _
    | assumption
    | ((with_reducible apply State.applyForce_step); rfl)
    | ((with_reducible apply State.resetEvent_step); rfl)
    | ((with_reducible apply State.bootEvent_step); rfl)
    | ((with_reducible apply State.domainsGo_step); rfl)
    | ((with_reducible apply State.retireGroup_step); rfl)
    | ((with_reducible apply State.setPhase_step); rfl)
    | ((with_reducible apply State.testStacks_step); rfl)
    | (with_reducible refine Within.step (Within.ofSnd (by assumption) (State.testStacks_within _ _)) rfl ?_)
    | ((with_reducible apply State.bringUp_step); rfl)
    | ((with_reducible apply State.beginTraining_step); rfl)
    | with_reducible apply WithinNext.ok
    | exact WithinNext.fault _
    | ((with_reducible apply Within.stepEach); intro _ _)
    | split
    | extract_lets
    | ((fail_if_success with_reducible apply Within.upd_pending); (with_reducible apply Within.upd_boot); rfl)
    | with_reducible intro _
    | with_reducible show Within _ _ (ite _ _ _)
    | ((with_reducible show Within _ _ (id _)); exact Within.refl _ _)
    | dsimp +zetaDelta only
    | ((fail_if_success with_reducible apply Within.upd_pending); (with_reducible apply Within.upd_boot); rfl)

theorem execBringupDone_next {a0 : _} {a1 : _} {m : Nat} {s : State} (c : 14998831102 &&& m = 14998831102) :
    WithinNext m s (execBringupDone a0 a1 s) := WithinNext.mono (execBringupDone_within a0 a1 s) c

theorem execBootBackoffExpiry_within : ∀ (s : State), WithinNext 7566524423 s (execBootBackoffExpiry s) := by
  intro s
  unfold execBootBackoffExpiry
  repeat' first
    | with_reducible exact Within.refl _ _
    | assumption
    | ((with_reducible apply State.attempt_step); rfl)
    | ((with_reducible apply State.reach_step); rfl)
    | with_reducible apply WithinNext.ok
    | exact WithinNext.fault _
    | ((with_reducible apply Within.stepEach); intro _ _)
    | split
    | extract_lets
    | with_reducible intro _
    | with_reducible show Within _ _ (ite _ _ _)
    | ((with_reducible show Within _ _ (id _)); exact Within.refl _ _)
    | dsimp +zetaDelta only

theorem execBootBackoffExpiry_next  {m : Nat} {s : State} (c : 7566524423 &&& m = 7566524423) :
    WithinNext m s (execBootBackoffExpiry s) := WithinNext.mono (execBootBackoffExpiry_within s) c

theorem execResetNAssert_within : ∀ a0 (s : State), WithinNext 8589934590 s (execResetNAssert a0 s) := by
  intro a0 s
  unfold execResetNAssert
  repeat' first
    | with_reducible exact Within.refl _ _
    | assumption
    | ((with_reducible apply State.abruptStop_step); rfl)
    | with_reducible apply WithinNext.ok
    | exact WithinNext.fault _
    | ((with_reducible apply Within.stepEach); intro _ _)
    | split
    | extract_lets
    | ((fail_if_success with_reducible apply Within.upd_pending); (with_reducible apply Within.upd_boot); rfl)
    | with_reducible intro _
    | with_reducible show Within _ _ (ite _ _ _)
    | ((with_reducible show Within _ _ (id _)); exact Within.refl _ _)
    | dsimp +zetaDelta only
    | ((fail_if_success with_reducible apply Within.upd_pending); (with_reducible apply Within.upd_boot); rfl)

theorem execResetNAssert_next {a0 : _} {m : Nat} {s : State} (c : 8589934590 &&& m = 8589934590) :
    WithinNext m s (execResetNAssert a0 s) := WithinNext.mono (execResetNAssert_within a0 s) c

theorem execBootRecordClear_within : ∀ (s : State), WithinNext 7566524423 s (execBootRecordClear s) := by
  intro s
  unfold execBootRecordClear
  repeat' first
    | with_reducible exact Within.refl _ _
    | assumption
    | ((with_reducible apply State.setF_step); rfl)
    | ((with_reducible apply State.reach_step); rfl)
    | with_reducible apply WithinNext.ok
    | exact WithinNext.fault _
    | ((with_reducible apply Within.stepEach); intro _ _)
    | split
    | extract_lets
    | ((fail_if_success with_reducible apply Within.upd_pending); (with_reducible apply Within.upd_boot); rfl)
    | with_reducible intro _
    | with_reducible show Within _ _ (ite _ _ _)
    | ((with_reducible show Within _ _ (id _)); exact Within.refl _ _)
    | dsimp +zetaDelta only
    | ((fail_if_success with_reducible apply Within.upd_pending); (with_reducible apply Within.upd_boot); rfl)

theorem execBootRecordClear_next  {m : Nat} {s : State} (c : 7566524423 &&& m = 7566524423) :
    WithinNext m s (execBootRecordClear s) := WithinNext.mono (execBootRecordClear_within s) c

theorem execColdReset_within : ∀ (s : State), WithinNext 8589934591 s (execColdReset s) := by
  intro s
  unfold execColdReset
  repeat' first
    | with_reducible exact Within.refl _ _
    | assumption
    | ((with_reducible apply State.darken_step); rfl)
    | with_reducible apply WithinNext.ok
    | exact WithinNext.fault _
    | ((with_reducible apply Within.stepEach); intro _ _)
    | split
    | extract_lets
    | with_reducible intro _
    | with_reducible show Within _ _ (ite _ _ _)
    | ((with_reducible show Within _ _ (id _)); exact Within.refl _ _)
    | dsimp +zetaDelta only
    | (intro p; cases p <;> first | exact .inl rfl | (right; simp only [Field.same]; done))

theorem execColdReset_next  {m : Nat} {s : State} (c : 8589934591 &&& m = 8589934591) :
    WithinNext m s (execColdReset s) := WithinNext.mono (execColdReset_within s) c

theorem execFirmwareWatchdog_within : ∀ (s : State), WithinNext 5321523206 s (execFirmwareWatchdog s) := by
  intro s
  unfold execFirmwareWatchdog
  repeat' first
    | with_reducible exact Within.refl _ _
    | assumption
    | ((with_reducible apply State.recordFail_step); rfl)
    | ((with_reducible apply State.startWarm_step); rfl)
    | ((with_reducible apply State.failAttempt_step); rfl)
    | with_reducible apply WithinNext.ok
    | exact WithinNext.fault _
    | ((with_reducible apply Within.stepEach); intro _ _)
    | split
    | extract_lets
    | ((fail_if_success with_reducible apply Within.upd_pending); (with_reducible apply Within.upd_boot); rfl)
    | with_reducible intro _
    | with_reducible show Within _ _ (ite _ _ _)
    | ((with_reducible show Within _ _ (id _)); exact Within.refl _ _)
    | dsimp +zetaDelta only
    | ((fail_if_success with_reducible apply Within.upd_pending); (with_reducible apply Within.upd_boot); rfl)

theorem execFirmwareWatchdog_next  {m : Nat} {s : State} (c : 5321523206 &&& m = 5321523206) :
    WithinNext m s (execFirmwareWatchdog s) := WithinNext.mono (execFirmwareWatchdog_within s) c

theorem execThermalHoldEnd_within : ∀ (s : State), WithinNext 17112498175 s (execThermalHoldEnd s) := by
  intro s
  unfold execThermalHoldEnd
  repeat' first
    | with_reducible exact Within.refl _ _
    | assumption
    | ((with_reducible apply State.reach_step); rfl)
    | ((with_reducible apply State.tryBoot_step); rfl)
    | with_reducible apply WithinNext.ok
    | exact WithinNext.fault _
    | ((with_reducible apply Within.stepEach); intro _ _)
    | split
    | extract_lets
    | ((fail_if_success with_reducible apply Within.upd_pending); (with_reducible apply Within.upd_boot); rfl)
    | with_reducible intro _
    | with_reducible show Within _ _ (ite _ _ _)
    | ((with_reducible show Within _ _ (id _)); exact Within.refl _ _)
    | dsimp +zetaDelta only
    | ((fail_if_success with_reducible apply Within.upd_pending); (with_reducible apply Within.upd_boot); rfl)

theorem execThermalHoldEnd_next  {m : Nat} {s : State} (c : 17112498175 &&& m = 17112498175) :
    WithinNext m s (execThermalHoldEnd s) := WithinNext.mono (execThermalHoldEnd_within s) c

theorem execHostBootTimeout_within : ∀ (s : State), WithinNext 7566524423 s (execHostBootTimeout s) := by
  intro s
  unfold execHostBootTimeout
  repeat' first
    | with_reducible exact Within.refl _ _
    | assumption
    | ((with_reducible apply State.failAttempt_step); rfl)
    | ((with_reducible apply State.reach_step); rfl)
    | with_reducible apply WithinNext.ok
    | exact WithinNext.fault _
    | ((with_reducible apply Within.stepEach); intro _ _)
    | split
    | extract_lets
    | with_reducible intro _
    | with_reducible show Within _ _ (ite _ _ _)
    | ((with_reducible show Within _ _ (id _)); exact Within.refl _ _)
    | dsimp +zetaDelta only

theorem execHostBootTimeout_next  {m : Nat} {s : State} (c : 7566524423 &&& m = 7566524423) :
    WithinNext m s (execHostBootTimeout s) := WithinNext.mono (execHostBootTimeout_within s) c

theorem execAttestReportDone_within : ∀ (s : State), WithinNext 13841727494 s (execAttestReportDone s) := by
  intro s
  unfold execAttestReportDone
  repeat' first
    | with_reducible exact Within.refl _ _
    | assumption
    | ((with_reducible apply State.setF_step); rfl)
    | ((with_reducible apply State.attStatus_step); rfl)
    | ((with_reducible apply State.raise_step); rfl)
    | ((with_reducible apply State.hostWrites_step); rfl)
    | ((with_reducible apply State.tick_step); rfl)
    | with_reducible apply WithinNext.ok
    | exact WithinNext.fault _
    | ((with_reducible apply Within.stepEach); intro _ _)
    | split
    | extract_lets
    | ((fail_if_success with_reducible apply Within.upd_pending); (with_reducible apply Within.upd_boot); rfl)
    | with_reducible intro _
    | with_reducible show Within _ _ (ite _ _ _)
    | ((with_reducible show Within _ _ (id _)); exact Within.refl _ _)
    | dsimp +zetaDelta only
    | ((fail_if_success with_reducible apply Within.upd_pending); (with_reducible apply Within.upd_boot); rfl)

theorem execAttestReportDone_next  {m : Nat} {s : State} (c : 13841727494 &&& m = 13841727494) :
    WithinNext m s (execAttestReportDone s) := WithinNext.mono (execAttestReportDone_within s) c


/-! ## Machine/Tele.lean -/

theorem State.canvasIslandLost_within : ∀ (s : State) a1, Within 8192 s (State.canvasIslandLost s a1) := by
  intro s a1
  unfold State.canvasIslandLost
  repeat' first
    | with_reducible exact Within.refl _ _
    | assumption
    | ((with_reducible apply State.freeContribs_step); rfl)
    | ((with_reducible apply State.noteTerms_step); rfl)
    | ((with_reducible apply State.setCtx_step); rfl)
    | ((with_reducible apply Within.stepEach); intro _ _)
    | split
    | extract_lets
    | with_reducible intro _
    | with_reducible show Within _ _ (ite _ _ _)
    | ((with_reducible show Within _ _ (id _)); exact Within.refl _ _)
    | dsimp +zetaDelta only

theorem State.canvasIslandLost_step {a1 : _} {m : Nat} {r s : State} (c : 8192 &&& m = 8192) (h : Within m r s) :
    Within m r (State.canvasIslandLost s a1) := Within.step (State.canvasIslandLost_within s a1) c h

theorem State.closeTerms_within : ∀ (s : State), Within 8405056 s (State.closeTerms s) := by
  intro s
  unfold State.closeTerms
  repeat' first
    | with_reducible exact Within.refl _ _
    | assumption
    | ((with_reducible apply Within.stepEach); intro _ _)
    | split
    | extract_lets
    | ((fail_if_success with_reducible apply Within.upd_pending); (with_reducible apply Within.upd_sched_pal_tel); rfl)
    | with_reducible intro _
    | with_reducible show Within _ _ (ite _ _ _)
    | ((with_reducible show Within _ _ (id _)); exact Within.refl _ _)
    | dsimp +zetaDelta only
    | ((fail_if_success with_reducible apply Within.upd_pending); (with_reducible apply Within.upd_sched_pal_tel); rfl)

theorem State.closeTerms_step  {m : Nat} {r s : State} (c : 8405056 &&& m = 8405056) (h : Within m r s) :
    Within m r (State.closeTerms s) := Within.step (State.closeTerms_within s) c h

theorem State.deliverSnap_within : ∀ (s : State) a1 a2 a3, Within 4303880196 s (State.deliverSnap s a1 a2 a3) := by
  intro s a1 a2 a3
  unfold State.deliverSnap
  repeat' first
    | with_reducible exact Within.refl _ _
    | assumption
    | ((with_reducible apply State.bump_step); rfl)
    | ((with_reducible apply State.writeAux_step); rfl)
    | ((with_reducible apply Within.stepEach); intro _ _)
    | split
    | extract_lets
    | ((fail_if_success with_reducible apply Within.upd_pending); (with_reducible apply Within.upd_tel); rfl)
    | with_reducible intro _
    | with_reducible show Within _ _ (ite _ _ _)
    | ((with_reducible show Within _ _ (id _)); exact Within.refl _ _)
    | dsimp +zetaDelta only
    | ((fail_if_success with_reducible apply Within.upd_pending); (with_reducible apply Within.upd_tel); rfl)

theorem State.deliverSnap_step {a1 : _} {a2 : _} {a3 : _} {m : Nat} {r s : State} (c : 4303880196 &&& m = 4303880196) (h : Within m r s) :
    Within m r (State.deliverSnap s a1 a2 a3) := Within.step (State.deliverSnap_within s a1 a2 a3) c h

theorem State.dropWaitingMcast_within : ∀ (s : State), Within 4295491860 s (State.dropWaitingMcast s) := by
  intro s
  unfold State.dropWaitingMcast
  repeat' first
    | with_reducible exact Within.refl _ _
    | assumption
    | ((with_reducible apply State.dropItem_step); rfl)
    | ((with_reducible apply State.mcSettle_step); rfl)
    | ((with_reducible apply State.countDrop_step); rfl)
    | ((with_reducible apply Within.stepEach); intro _ _)
    | split
    | extract_lets
    | ((fail_if_success with_reducible apply Within.upd_pending); (with_reducible apply Within.upd_dp); rfl)
    | with_reducible intro _
    | with_reducible show Within _ _ (ite _ _ _)
    | ((with_reducible show Within _ _ (id _)); exact Within.refl _ _)
    | dsimp +zetaDelta only
    | ((fail_if_success with_reducible apply Within.upd_pending); (with_reducible apply Within.upd_dp); rfl)

theorem State.dropWaitingMcast_step  {m : Nat} {r s : State} (c : 4295491860 &&& m = 4295491860) (h : Within m r s) :
    Within m r (State.dropWaitingMcast s) := Within.step (State.dropWaitingMcast_within s) c h

theorem State.engineCut_within : ∀ (s : State) a1, Within 940761108 s (State.engineCut s a1) := by
  intro s a1
  unfold State.engineCut
  repeat' first
    | with_reducible exact Within.refl _ _
    | assumption
    | ((with_reducible apply State.afterOffline_step); rfl)
    | ((with_reducible apply State.accrue_step); rfl)
    | ((with_reducible apply State.setEngState_step); rfl)
    | ((with_reducible apply State.rampDown_step); rfl)
    | ((with_reducible apply State.engineLost_step); rfl)
    | ((with_reducible apply Within.stepEach); intro _ _)
    | split
    | extract_lets
    | with_reducible intro _
    | with_reducible show Within _ _ (ite _ _ _)
    | ((with_reducible show Within _ _ (id _)); exact Within.refl _ _)
    | dsimp +zetaDelta only

theorem State.engineCut_step {a1 : _} {m : Nat} {r s : State} (c : 940761108 &&& m = 940761108) (h : Within m r s) :
    Within m r (State.engineCut s a1) := Within.step (State.engineCut_within s a1) c h

theorem State.engineUncut_within : ∀ (s : State) a1, Within 16384 s (State.engineUncut s a1) := by
  intro s a1
  unfold State.engineUncut
  repeat' first
    | with_reducible exact Within.refl _ _
    | assumption
    | ((with_reducible apply State.setEngine_step); rfl)
    | ((with_reducible apply Within.stepEach); intro _ _)
    | split
    | extract_lets
    | with_reducible intro _
    | with_reducible show Within _ _ (ite _ _ _)
    | ((with_reducible show Within _ _ (id _)); exact Within.refl _ _)
    | dsimp +zetaDelta only

theorem State.engineUncut_step {a1 : _} {m : Nat} {r s : State} (c : 16384 &&& m = 16384) (h : Within m r s) :
    Within m r (State.engineUncut s a1) := Within.step (State.engineUncut_within s a1) c h

theorem State.linkReturns_within : ∀ (s : State) a1, Within 14898719126 s (State.linkReturns s a1) := by
  intro s a1
  unfold State.linkReturns
  repeat' first
    | with_reducible exact Within.refl _ _
    | assumption
    | ((with_reducible apply State.reconsider_step); rfl)
    | ((with_reducible apply State.hostResume_step); rfl)
    | ((with_reducible apply State.setEngine_step); rfl)
    | ((with_reducible apply State.canvasEngines_step); rfl)
    | ((with_reducible apply State.beginTraining_step); rfl)
    | ((with_reducible apply State.dieLinkOn_step); rfl)
    | ((with_reducible apply Within.stepEach); intro _ _)
    | split
    | extract_lets
    | with_reducible intro _
    | with_reducible show Within _ _ (ite _ _ _)
    | ((with_reducible show Within _ _ (id _)); exact Within.refl _ _)
    | dsimp +zetaDelta only

theorem State.linkReturns_step {a1 : _} {m : Nat} {r s : State} (c : 14898719126 &&& m = 14898719126) (h : Within m r s) :
    Within m r (State.linkReturns s a1) := Within.step (State.linkReturns_within s a1) c h

theorem State.islandBack_within : ∀ (s : State) a1, Within 14898719126 s (State.islandBack s a1) := by
  intro s a1
  unfold State.islandBack
  repeat' first
    | with_reducible exact Within.refl _ _
    | assumption
    | ((with_reducible apply State.openCrossings_step); rfl)
    | ((with_reducible apply State.startCxlAdd_step); rfl)
    | ((with_reducible apply State.stackTo_step); rfl)
    | ((with_reducible apply State.linkReturns_step); rfl)
    | ((with_reducible apply State.beginTraining_step); rfl)
    | ((with_reducible apply State.engineUncut_step); rfl)
    | ((with_reducible apply Within.stepEach); intro _ _)
    | split
    | extract_lets
    | with_reducible intro _
    | with_reducible show Within _ _ (ite _ _ _)
    | ((with_reducible show Within _ _ (id _)); exact Within.refl _ _)
    | dsimp +zetaDelta only

theorem State.islandBack_step {a1 : _} {m : Nat} {r s : State} (c : 14898719126 &&& m = 14898719126) (h : Within m r s) :
    Within m r (State.islandBack s a1) := Within.step (State.islandBack_within s a1) c h

theorem State.islandLost_within : ∀ (s : State) a1, Within 14918806998 s (State.islandLost s a1) := by
  intro s a1
  unfold State.islandLost
  repeat' first
    | with_reducible exact Within.refl _ _
    | assumption
    | ((with_reducible apply State.cxlDown_step); rfl)
    | ((with_reducible apply State.canvasDieLost_step); rfl)
    | ((with_reducible apply State.dieLinkOff_step); rfl)
    | ((with_reducible apply State.takeDown_step); rfl)
    | ((with_reducible apply State.dieLinkLost_step); rfl)
    | ((with_reducible apply State.pagesLost_step); rfl)
    | ((with_reducible apply State.discardSpill_step); rfl)
    | ((with_reducible apply State.engineCut_step); rfl)
    | ((with_reducible apply State.canvasIslandLost_step); rfl)
    | ((with_reducible apply State.stackTo_step); rfl)
    | ((with_reducible apply State.dropWaitingMcast_step); rfl)
    | ((with_reducible apply State.shutIsland_step); rfl)
    | ((with_reducible apply State.hostDown_step); rfl)
    | ((with_reducible apply Within.stepEach); intro _ _)
    | split
    | extract_lets
    | ((fail_if_success with_reducible apply Within.upd_pending); (with_reducible apply Within.upd_homes); rfl)
    | with_reducible intro _
    | with_reducible show Within _ _ (ite _ _ _)
    | ((with_reducible show Within _ _ (id _)); exact Within.refl _ _)
    | dsimp +zetaDelta only
    | ((fail_if_success with_reducible apply Within.upd_pending); (with_reducible apply Within.upd_homes); rfl)

theorem State.islandLost_step {a1 : _} {m : Nat} {r s : State} (c : 14918806998 &&& m = 14918806998) (h : Within m r s) :
    Within m r (State.islandLost s a1) := Within.step (State.islandLost_within s a1) c h

theorem State.isolateEffect_within : ∀ (s : State) a1 a2, Within 14931460094 s (State.isolateEffect s a1 a2) := by
  intro s a1 a2
  unfold State.isolateEffect
  repeat' first
    | with_reducible exact Within.refl _ _
    | assumption
    | ((with_reducible apply State.listFail_step); rfl)
    | ((with_reducible apply State.engineCut_step); rfl)
    | ((with_reducible apply State.portOff_step); rfl)
    | ((with_reducible apply State.islandLost_step); rfl)
    | ((with_reducible apply State.addOp_step); rfl)
    | ((with_reducible apply Within.stepEach); intro _ _)
    | split
    | extract_lets
    | with_reducible intro _
    | with_reducible show Within _ _ (ite _ _ _)
    | ((with_reducible show Within _ _ (id _)); exact Within.refl _ _)
    | dsimp +zetaDelta only

theorem State.isolateEffect_step {a1 : _} {a2 : _} {m : Nat} {r s : State} (c : 14931460094 &&& m = 14931460094) (h : Within m r s) :
    Within m r (State.isolateEffect s a1 a2) := Within.step (State.isolateEffect_within s a1 a2) c h

theorem State.isolate_within : ∀ (s : State) a1 a2, Within 14931460094 s (State.isolate s a1 a2) := by
  intro s a1 a2
  unfold State.isolate
  repeat' first
    | with_reducible exact Within.refl _ _
    | assumption
    | ((with_reducible apply State.accountPlanes_step); rfl)
    | ((with_reducible apply State.isolateEffect_step); rfl)
    | ((with_reducible apply Within.stepEach); intro _ _)
    | split
    | extract_lets
    | ((fail_if_success with_reducible apply Within.upd_pending); (with_reducible apply Within.upd_tel); rfl)
    | with_reducible intro _
    | with_reducible show Within _ _ (ite _ _ _)
    | ((with_reducible show Within _ _ (id _)); exact Within.refl _ _)
    | dsimp +zetaDelta only
    | ((fail_if_success with_reducible apply Within.upd_pending); (with_reducible apply Within.upd_tel); rfl)

theorem State.isolate_step {a1 : _} {a2 : _} {m : Nat} {r s : State} (c : 14931460094 &&& m = 14931460094) (h : Within m r s) :
    Within m r (State.isolate s a1 a2) := Within.step (State.isolate_within s a1 a2) c h

theorem State.latchTarget_within : ∀ (s : State) a1, Within 8405060 s (State.latchTarget s a1) := by
  intro s a1
  unfold State.latchTarget
  repeat' first
    | with_reducible exact Within.refl _ _
    | assumption
    | ((with_reducible apply State.bump_step); rfl)
    | ((with_reducible apply State.closeTerms_step); rfl)
    | ((with_reducible apply Within.stepEach); intro _ _)
    | split
    | extract_lets
    | ((fail_if_success with_reducible apply Within.upd_pending); (with_reducible apply Within.upd_tel); rfl)
    | with_reducible intro _
    | with_reducible show Within _ _ (ite _ _ _)
    | ((with_reducible show Within _ _ (id _)); exact Within.refl _ _)
    | dsimp +zetaDelta only
    | ((fail_if_success with_reducible apply Within.upd_pending); (with_reducible apply Within.upd_tel); rfl)

theorem State.latchTarget_step {a1 : _} {m : Nat} {r s : State} (c : 8405060 &&& m = 8405060) (h : Within m r s) :
    Within m r (State.latchTarget s a1) := Within.step (State.latchTarget_within s a1) c h

theorem State.publish_within : ∀ (s : State) a1, Within 8388608 s (State.publish s a1) := by
  intro s a1
  unfold State.publish
  repeat' first
    | with_reducible exact Within.refl _ _
    | assumption
    | ((with_reducible apply Within.stepEach); intro _ _)
    | split
    | extract_lets
    | ((fail_if_success with_reducible apply Within.upd_pending); (with_reducible apply Within.upd_tel); rfl)
    | with_reducible intro _
    | with_reducible show Within _ _ (ite _ _ _)
    | ((with_reducible show Within _ _ (id _)); exact Within.refl _ _)
    | dsimp +zetaDelta only
    | ((fail_if_success with_reducible apply Within.upd_pending); (with_reducible apply Within.upd_tel); rfl)

theorem State.publish_step {a1 : _} {m : Nat} {r s : State} (c : 8388608 &&& m = 8388608) (h : Within m r s) :
    Within m r (State.publish s a1) := Within.step (State.publish_within s a1) c h

theorem State.releaseEffect_within : ∀ (s : State) a1 a2, Within 14931460094 s (State.releaseEffect s a1 a2) := by
  intro s a1 a2
  unfold State.releaseEffect
  repeat' first
    | with_reducible exact Within.refl _ _
    | assumption
    | ((with_reducible apply State.islandBack_step); rfl)
    | ((with_reducible apply State.startPortReset_step); rfl)
    | ((with_reducible apply State.engineUncut_step); rfl)
    | ((with_reducible apply State.addOp_step); rfl)
    | ((with_reducible apply Within.stepEach); intro _ _)
    | split
    | extract_lets
    | with_reducible intro _
    | with_reducible show Within _ _ (ite _ _ _)
    | ((with_reducible show Within _ _ (id _)); exact Within.refl _ _)
    | dsimp +zetaDelta only

theorem State.releaseEffect_step {a1 : _} {a2 : _} {m : Nat} {r s : State} (c : 14931460094 &&& m = 14931460094) (h : Within m r s) :
    Within m r (State.releaseEffect s a1 a2) := Within.step (State.releaseEffect_within s a1 a2) c h

theorem State.settlePolicers_within : ∀ (s : State), Within 64 s (State.settlePolicers s) := by
  intro s
  unfold State.settlePolicers
  repeat' first
    | with_reducible exact Within.refl _ _
    | assumption
    | ((with_reducible apply State.setPolBucket_step); rfl)
    | ((with_reducible apply Within.stepEach); intro _ _)
    | split
    | extract_lets
    | with_reducible intro _
    | with_reducible show Within _ _ (ite _ _ _)
    | ((with_reducible show Within _ _ (id _)); exact Within.refl _ _)
    | dsimp +zetaDelta only

theorem State.settlePolicers_step  {m : Nat} {r s : State} (c : 64 &&& m = 64) (h : Within m r s) :
    Within m r (State.settlePolicers s) := Within.step (State.settlePolicers_within s) c h

theorem State.settleShapers_within : ∀ (s : State), Within 64 s (State.settleShapers s) := by
  intro s
  unfold State.settleShapers
  repeat' first
    | with_reducible exact Within.refl _ _
    | assumption
    | ((with_reducible apply State.setShaper_step); rfl)
    | ((with_reducible apply Within.stepEach); intro _ _)
    | split
    | extract_lets
    | with_reducible intro _
    | with_reducible show Within _ _ (ite _ _ _)
    | ((with_reducible show Within _ _ (id _)); exact Within.refl _ _)
    | dsimp +zetaDelta only

theorem State.settleShapers_step  {m : Nat} {r s : State} (c : 64 &&& m = 64) (h : Within m r s) :
    Within m r (State.settleShapers s) := Within.step (State.settleShapers_within s) c h

theorem State.settleCounters_within : ∀ (s : State), Within 939550804 s (State.settleCounters s) := by
  intro s
  unfold State.settleCounters
  repeat' first
    | with_reducible exact Within.refl _ _
    | assumption
    | ((with_reducible apply State.accountPlanes_step); rfl)
    | ((with_reducible apply State.accrue_step); rfl)
    | ((with_reducible apply State.settlePolicers_step); rfl)
    | ((with_reducible apply State.settleShapers_step); rfl)
    | ((with_reducible apply Within.stepEach); intro _ _)
    | split
    | extract_lets
    | with_reducible intro _
    | with_reducible show Within _ _ (ite _ _ _)
    | ((with_reducible show Within _ _ (id _)); exact Within.refl _ _)
    | dsimp +zetaDelta only

theorem State.settleCounters_step  {m : Nat} {r s : State} (c : 939550804 &&& m = 939550804) (h : Within m r s) :
    Within m r (State.settleCounters s) := Within.step (State.settleCounters_within s) c h

theorem State.unlock_within : ∀ (s : State), Within 8388610 s (State.unlock s) := by
  intro s
  unfold State.unlock
  repeat' first
    | with_reducible exact Within.refl _ _
    | assumption
    | ((with_reducible apply State.setF_step); rfl)
    | ((with_reducible apply Within.stepEach); intro _ _)
    | split
    | extract_lets
    | ((fail_if_success with_reducible apply Within.upd_pending); (with_reducible apply Within.upd_tel); rfl)
    | with_reducible intro _
    | with_reducible show Within _ _ (ite _ _ _)
    | ((with_reducible show Within _ _ (id _)); exact Within.refl _ _)
    | dsimp +zetaDelta only
    | ((fail_if_success with_reducible apply Within.upd_pending); (with_reducible apply Within.upd_tel); rfl)

theorem State.unlock_step  {m : Nat} {r s : State} (c : 8388610 &&& m = 8388610) (h : Within m r s) :
    Within m r (State.unlock s) := Within.step (State.unlock_within s) c h

theorem State.violate_within : ∀ (s : State) a1 a2, Within 14931460094 s (State.violate s a1 a2) := by
  intro s a1 a2
  unfold State.violate
  repeat' first
    | with_reducible exact Within.refl _ _
    | assumption
    | ((with_reducible apply State.bump_step); rfl)
    | ((with_reducible apply State.setF_step); rfl)
    | ((with_reducible apply State.raise_step); rfl)
    | ((with_reducible apply State.isolate_step); rfl)
    | ((with_reducible apply Within.stepEach); intro _ _)
    | split
    | extract_lets
    | with_reducible intro _
    | with_reducible show Within _ _ (ite _ _ _)
    | ((with_reducible show Within _ _ (id _)); exact Within.refl _ _)
    | dsimp +zetaDelta only

theorem State.violate_step {a1 : _} {a2 : _} {m : Nat} {r s : State} (c : 14931460094 &&& m = 14931460094) (h : Within m r s) :
    Within m r (State.violate s a1 a2) := Within.step (State.violate_within s a1 a2) c h

theorem execIsolationRelease_within : ∀ a0 a1 (s : State), WithinNext 14931460094 s (execIsolationRelease a0 a1 s) := by
  intro a0 a1 s
  unfold execIsolationRelease
  repeat' first
    | with_reducible exact Within.refl _ _
    | assumption
    | ((with_reducible apply State.accountPlanes_step); rfl)
    | ((with_reducible apply State.gate_step); rfl)
    | ((with_reducible apply State.releaseEffect_step); rfl)
    | ((with_reducible apply State.status_step); rfl)
    | with_reducible apply WithinNext.ok
    | exact WithinNext.fault _
    | ((with_reducible apply Within.stepEach); intro _ _)
    | split
    | extract_lets
    | ((fail_if_success with_reducible apply Within.upd_pending); (with_reducible apply Within.upd_tel); rfl)
    | with_reducible intro _
    | with_reducible show Within _ _ (ite _ _ _)
    | ((with_reducible show Within _ _ (id _)); exact Within.refl _ _)
    | dsimp +zetaDelta only
    | ((fail_if_success with_reducible apply Within.upd_pending); (with_reducible apply Within.upd_tel); rfl)

theorem execIsolationRelease_next {a0 : _} {a1 : _} {m : Nat} {s : State} (c : 14931460094 &&& m = 14931460094) :
    WithinNext m s (execIsolationRelease a0 a1 s) := WithinNext.mono (execIsolationRelease_within a0 a1 s) c

theorem execSnapshotLock_within : ∀ (s : State), WithinNext 947912710 s (execSnapshotLock s) := by
  intro s
  unfold execSnapshotLock
  repeat' first
    | with_reducible exact Within.refl _ _
    | assumption
    | ((with_reducible apply State.setF_step); rfl)
    | ((with_reducible apply State.gate_step); rfl)
    | with_reducible apply WithinNext.ok
    | exact WithinNext.fault _
    | ((with_reducible apply Within.stepEach); intro _ _)
    | split
    | extract_lets
    | ((fail_if_success with_reducible apply Within.upd_pending); (with_reducible apply Within.upd_tel); rfl)
    | with_reducible intro _
    | with_reducible show Within _ _ (ite _ _ _)
    | ((with_reducible show Within _ _ (id _)); exact Within.refl _ _)
    | dsimp +zetaDelta only
    | ((fail_if_success with_reducible apply Within.upd_pending); (with_reducible apply Within.upd_tel); rfl)

theorem execSnapshotLock_next  {m : Nat} {s : State} (c : 947912710 &&& m = 947912710) :
    WithinNext m s (execSnapshotLock s) := WithinNext.mono (execSnapshotLock_within s) c

theorem execSnapshotUnlock_within : ∀ (s : State), WithinNext 947912710 s (execSnapshotUnlock s) := by
  intro s
  unfold execSnapshotUnlock
  repeat' first
    | with_reducible exact Within.refl _ _
    | assumption
    | ((with_reducible apply State.gate_step); rfl)
    | ((with_reducible apply State.unlock_step); rfl)
    | with_reducible apply WithinNext.ok
    | exact WithinNext.fault _
    | ((with_reducible apply Within.stepEach); intro _ _)
    | split
    | extract_lets
    | with_reducible intro _
    | with_reducible show Within _ _ (ite _ _ _)
    | ((with_reducible show Within _ _ (id _)); exact Within.refl _ _)
    | dsimp +zetaDelta only

theorem execSnapshotUnlock_next  {m : Nat} {s : State} (c : 947912710 &&& m = 947912710) :
    WithinNext m s (execSnapshotUnlock s) := WithinNext.mono (execSnapshotUnlock_within s) c

theorem execSnapshotRequest_within : ∀ (s : State), WithinNext 947912708 s (execSnapshotRequest s) := by
  intro s
  unfold execSnapshotRequest
  repeat' first
    | with_reducible exact Within.refl _ _
    | assumption
    | ((with_reducible apply State.gate_step); rfl)
    | with_reducible apply WithinNext.ok
    | exact WithinNext.fault _
    | ((with_reducible apply Within.stepEach); intro _ _)
    | split
    | extract_lets
    | ((fail_if_success with_reducible apply Within.upd_pending); (with_reducible apply Within.upd_tel); rfl)
    | with_reducible intro _
    | with_reducible show Within _ _ (ite _ _ _)
    | ((with_reducible show Within _ _ (id _)); exact Within.refl _ _)
    | dsimp +zetaDelta only
    | ((fail_if_success with_reducible apply Within.upd_pending); (with_reducible apply Within.upd_tel); rfl)

theorem execSnapshotRequest_next  {m : Nat} {s : State} (c : 947912708 &&& m = 947912708) :
    WithinNext m s (execSnapshotRequest s) := WithinNext.mono (execSnapshotRequest_within s) c

theorem execQueueHwmClear_within : ∀ a0 a1 (s : State), WithinNext 939524116 s (execQueueHwmClear a0 a1 s) := by
  intro a0 a1 s
  unfold execQueueHwmClear
  repeat' first
    | with_reducible exact Within.refl _ _
    | assumption
    | ((with_reducible apply State.setQueue_step); rfl)
    | ((with_reducible apply State.gate_step); rfl)
    | with_reducible apply WithinNext.ok
    | exact WithinNext.fault _
    | ((with_reducible apply Within.stepEach); intro _ _)
    | split
    | extract_lets
    | with_reducible intro _
    | with_reducible show Within _ _ (ite _ _ _)
    | ((with_reducible show Within _ _ (id _)); exact Within.refl _ _)
    | dsimp +zetaDelta only

theorem execQueueHwmClear_next {a0 : _} {a1 : _} {m : Nat} {s : State} (c : 939524116 &&& m = 939524116) :
    WithinNext m s (execQueueHwmClear a0 a1 s) := WithinNext.mono (execQueueHwmClear_within a0 a1 s) c

theorem execSnapshotTarget_within : ∀ (s : State), WithinNext 8497686613 s (execSnapshotTarget s) := by
  intro s
  unfold execSnapshotTarget
  repeat' first
    | with_reducible exact Within.refl _ _
    | assumption
    | ((with_reducible apply State.settleCounters_step); rfl)
    | ((with_reducible apply State.latchTarget_step); rfl)
    | ((with_reducible apply State.reach_step); rfl)
    | with_reducible apply WithinNext.ok
    | exact WithinNext.fault _
    | ((with_reducible apply Within.stepEach); intro _ _)
    | split
    | extract_lets
    | with_reducible intro _
    | with_reducible show Within _ _ (ite _ _ _)
    | ((with_reducible show Within _ _ (id _)); exact Within.refl _ _)
    | dsimp +zetaDelta only

theorem execSnapshotTarget_next  {m : Nat} {s : State} (c : 8497686613 &&& m = 8497686613) :
    WithinNext m s (execSnapshotTarget s) := WithinNext.mono (execSnapshotTarget_within s) c

theorem execSnapshotLockExpiry_within : ∀ (s : State), WithinNext 7558135815 s (execSnapshotLockExpiry s) := by
  intro s
  unfold execSnapshotLockExpiry
  repeat' first
    | with_reducible exact Within.refl _ _
    | assumption
    | ((with_reducible apply State.reach_step); rfl)
    | ((with_reducible apply State.unlock_step); rfl)
    | with_reducible apply WithinNext.ok
    | exact WithinNext.fault _
    | ((with_reducible apply Within.stepEach); intro _ _)
    | split
    | extract_lets
    | with_reducible intro _
    | with_reducible show Within _ _ (ite _ _ _)
    | ((with_reducible show Within _ _ (id _)); exact Within.refl _ _)
    | dsimp +zetaDelta only

theorem execSnapshotLockExpiry_next  {m : Nat} {s : State} (c : 7558135815 &&& m = 7558135815) :
    WithinNext m s (execSnapshotLockExpiry s) := WithinNext.mono (execSnapshotLockExpiry_within s) c

theorem execSnapshotComplete_within : ∀ a0 a1 (s : State), WithinNext 14931460094 s (execSnapshotComplete a0 a1 s) := by
  intro a0 a1 s
  unfold execSnapshotComplete
  repeat' first
    | with_reducible exact Within.refl _ _
    | assumption
    | ((with_reducible apply State.bump_step); rfl)
    | ((with_reducible apply State.publish_step); rfl)
    | ((with_reducible apply State.raise_step); rfl)
    | ((with_reducible apply State.deliverSnap_step); rfl)
    | ((with_reducible apply State.violate_step); rfl)
    | with_reducible apply WithinNext.ok
    | exact WithinNext.fault _
    | ((with_reducible apply Within.stepEach); intro _ _)
    | split
    | extract_lets
    | ((fail_if_success with_reducible apply Within.upd_pending); (with_reducible apply Within.upd_tel); rfl)
    | with_reducible intro _
    | with_reducible show Within _ _ (ite _ _ _)
    | ((with_reducible show Within _ _ (id _)); exact Within.refl _ _)
    | dsimp +zetaDelta only
    | ((fail_if_success with_reducible apply Within.upd_pending); (with_reducible apply Within.upd_tel); rfl)

theorem execSnapshotComplete_next {a0 : _} {a1 : _} {m : Nat} {s : State} (c : 14931460094 &&& m = 14931460094) :
    WithinNext m s (execSnapshotComplete a0 a1 s) := WithinNext.mono (execSnapshotComplete_within a0 a1 s) c


/-! ## Machine/Health.lean -/

theorem State.setPart_within : ∀ (s : State) a1 a2, Within 8388608 s (State.setPart s a1 a2) := by
  intro s a1 a2
  unfold State.setPart
  repeat' first
    | with_reducible exact Within.refl _ _
    | assumption
    | ((with_reducible apply Within.stepEach); intro _ _)
    | split
    | extract_lets
    | ((fail_if_success with_reducible apply Within.upd_pending); (with_reducible apply Within.upd_tel); rfl)
    | with_reducible intro _
    | with_reducible show Within _ _ (ite _ _ _)
    | ((with_reducible show Within _ _ (id _)); exact Within.refl _ _)
    | dsimp +zetaDelta only
    | ((fail_if_success with_reducible apply Within.upd_pending); (with_reducible apply Within.upd_tel); rfl)

theorem State.setPart_step {a1 : _} {a2 : _} {m : Nat} {r s : State} (c : 8388608 &&& m = 8388608) (h : Within m r s) :
    Within m r (State.setPart s a1 a2) := Within.step (State.setPart_within s a1 a2) c h

theorem State.healthEvent_within : ∀ (s : State) a1 a2 a3, Within 939524100 s (State.healthEvent s a1 a2 a3) := by
  intro s a1 a2 a3
  unfold State.healthEvent
  repeat' first
    | with_reducible exact Within.refl _ _
    | assumption
    | ((with_reducible apply State.raise_step); rfl)
    | ((with_reducible apply Within.stepEach); intro _ _)
    | split
    | extract_lets
    | with_reducible intro _
    | with_reducible show Within _ _ (ite _ _ _)
    | ((with_reducible show Within _ _ (id _)); exact Within.refl _ _)
    | dsimp +zetaDelta only

theorem State.healthEvent_step {a1 : _} {a2 : _} {a3 : _} {m : Nat} {r s : State} (c : 939524100 &&& m = 939524100) (h : Within m r s) :
    Within m r (State.healthEvent s a1 a2 a3) := Within.step (State.healthEvent_within s a1 a2 a3) c h

theorem State.startAction_within : ∀ (s : State) a1, Within 13834582486 s (State.startAction s a1) := by
  intro s a1
  unfold State.startAction
  repeat' first
    | with_reducible exact Within.refl _ _
    | assumption
    | ((with_reducible apply State.bump_step); rfl)
    | ((with_reducible apply State.setPart_step); rfl)
    | ((with_reducible apply State.healthEvent_step); rfl)
    | ((with_reducible apply State.setF_step); rfl)
    | ((with_reducible apply State.startOffline_step); rfl)
    | ((with_reducible apply State.retireBit_step); rfl)
    | ((with_reducible apply State.requestMaint_step); rfl)
    | ((with_reducible apply State.laneBit_step); rfl)
    | ((with_reducible apply State.startTakeover_step); rfl)
    | ((with_reducible apply State.startDrain_step); rfl)
    | ((with_reducible apply Within.stepEach); intro _ _)
    | split
    | extract_lets
    | ((fail_if_success with_reducible apply Within.upd_pending); (with_reducible apply Within.upd_tel); rfl)
    | with_reducible intro _
    | with_reducible show Within _ _ (ite _ _ _)
    | ((with_reducible show Within _ _ (id _)); exact Within.refl _ _)
    | dsimp +zetaDelta only
    | ((fail_if_success with_reducible apply Within.upd_pending); (with_reducible apply Within.upd_tel); rfl)

theorem State.startAction_step {a1 : _} {m : Nat} {r s : State} (c : 13834582486 &&& m = 13834582486) (h : Within m r s) :
    Within m r (State.startAction s a1) := Within.step (State.startAction_within s a1) c h

theorem State.allowPart_within : ∀ (s : State) a1, Within 13834582486 s (State.allowPart s a1) := by
  intro s a1
  unfold State.allowPart
  repeat' first
    | with_reducible exact Within.refl _ _
    | assumption
    | ((with_reducible apply State.setPart_step); rfl)
    | ((with_reducible apply State.healthEvent_step); rfl)
    | ((with_reducible apply State.startAction_step); rfl)
    | ((with_reducible apply Within.stepEach); intro _ _)
    | split
    | extract_lets
    | with_reducible intro _
    | with_reducible show Within _ _ (ite _ _ _)
    | ((with_reducible show Within _ _ (id _)); exact Within.refl _ _)
    | dsimp +zetaDelta only

theorem State.allowPart_step {a1 : _} {m : Nat} {r s : State} (c : 13834582486 &&& m = 13834582486) (h : Within m r s) :
    Within m r (State.allowPart s a1) := Within.step (State.allowPart_within s a1) c h

theorem State.markSuspect_within : ∀ (s : State) a1, Within 16384 s (State.markSuspect s a1) := by
  intro s a1
  unfold State.markSuspect
  repeat' first
    | with_reducible exact Within.refl _ _
    | assumption
    | ((with_reducible apply State.setEngine_step); rfl)
    | ((with_reducible apply Within.stepEach); intro _ _)
    | split
    | extract_lets
    | with_reducible intro _
    | with_reducible show Within _ _ (ite _ _ _)
    | ((with_reducible show Within _ _ (id _)); exact Within.refl _ _)
    | dsimp +zetaDelta only

theorem State.markSuspect_step {a1 : _} {m : Nat} {r s : State} (c : 16384 &&& m = 16384) (h : Within m r s) :
    Within m r (State.markSuspect s a1) := Within.step (State.markSuspect_within s a1) c h

theorem State.evaluatePart_within : ∀ (s : State) a1 a2, Within 947929092 s (State.evaluatePart s a1 a2) := by
  intro s a1 a2
  unfold State.evaluatePart
  repeat' first
    | with_reducible exact Within.refl _ _
    | assumption
    | ((with_reducible apply State.setPart_step); rfl)
    | ((with_reducible apply State.healthEvent_step); rfl)
    | ((with_reducible apply State.markSuspect_step); rfl)
    | ((with_reducible apply Within.stepEach); intro _ _)
    | split
    | extract_lets
    | with_reducible intro _
    | with_reducible show Within _ _ (ite _ _ _)
    | ((with_reducible show Within _ _ (id _)); exact Within.refl _ _)
    | dsimp +zetaDelta only

theorem State.evaluatePart_step {a1 : _} {a2 : _} {m : Nat} {r s : State} (c : 947929092 &&& m = 947929092) (h : Within m r s) :
    Within m r (State.evaluatePart s a1 a2) := Within.step (State.evaluatePart_within s a1 a2) c h

theorem State.noteInputs_within : ∀ (s : State), Within 8388608 s (State.noteInputs s) := by
  intro s
  unfold State.noteInputs
  repeat' first
    | with_reducible exact Within.refl _ _
    | assumption
    | ((with_reducible apply Within.stepEach); intro _ _)
    | split
    | extract_lets
    | ((fail_if_success with_reducible apply Within.upd_pending); (with_reducible apply Within.upd_tel); rfl)
    | with_reducible intro _
    | with_reducible show Within _ _ (ite _ _ _)
    | ((with_reducible show Within _ _ (id _)); exact Within.refl _ _)
    | dsimp +zetaDelta only
    | ((fail_if_success with_reducible apply Within.upd_pending); (with_reducible apply Within.upd_tel); rfl)

theorem State.noteInputs_step  {m : Nat} {r s : State} (c : 8388608 &&& m = 8388608) (h : Within m r s) :
    Within m r (State.noteInputs s) := Within.step (State.noteInputs_within s) c h

theorem State.unpin_within : ∀ (s : State) a1 a2, Within 947929092 s (State.unpin s a1 a2) := by
  intro s a1 a2
  unfold State.unpin
  repeat' first
    | with_reducible exact Within.refl _ _
    | assumption
    | ((with_reducible apply State.setPart_step); rfl)
    | ((with_reducible apply State.healthEvent_step); rfl)
    | ((with_reducible apply State.markSuspect_step); rfl)
    | ((with_reducible apply Within.stepEach); intro _ _)
    | split
    | extract_lets
    | with_reducible intro _
    | with_reducible show Within _ _ (ite _ _ _)
    | ((with_reducible show Within _ _ (id _)); exact Within.refl _ _)
    | dsimp +zetaDelta only

theorem State.unpin_step {a1 : _} {a2 : _} {m : Nat} {r s : State} (c : 947929092 &&& m = 947929092) (h : Within m r s) :
    Within m r (State.unpin s a1 a2) := Within.step (State.unpin_within s a1 a2) c h

theorem execHealthUnpin_within : ∀ a0 a1 (s : State), WithinNext 947929094 s (execHealthUnpin a0 a1 s) := by
  intro a0 a1 s
  unfold execHealthUnpin
  repeat' first
    | with_reducible exact Within.refl _ _
    | assumption
    | ((with_reducible apply State.unpin_step); rfl)
    | ((with_reducible apply State.gate_step); rfl)
    | ((with_reducible apply State.status_step); rfl)
    | with_reducible apply WithinNext.ok
    | exact WithinNext.fault _
    | ((with_reducible apply Within.stepEach); intro _ _)
    | split
    | extract_lets
    | with_reducible intro _
    | with_reducible show Within _ _ (ite _ _ _)
    | ((with_reducible show Within _ _ (id _)); exact Within.refl _ _)
    | dsimp +zetaDelta only

theorem execHealthUnpin_next {a0 : _} {a1 : _} {m : Nat} {s : State} (c : 947929094 &&& m = 947929094) :
    WithinNext m s (execHealthUnpin a0 a1 s) := WithinNext.mono (execHealthUnpin_within a0 a1 s) c

theorem execHealthPin_within : ∀ a0 a1 (s : State), WithinNext 947929094 s (execHealthPin a0 a1 s) := by
  intro a0 a1 s
  unfold execHealthPin
  repeat' first
    | with_reducible exact Within.refl _ _
    | assumption
    | ((with_reducible apply State.setPart_step); rfl)
    | ((with_reducible apply State.healthEvent_step); rfl)
    | ((with_reducible apply State.unpin_step); rfl)
    | ((with_reducible apply State.gate_step); rfl)
    | ((with_reducible apply State.status_step); rfl)
    | with_reducible apply WithinNext.ok
    | exact WithinNext.fault _
    | ((with_reducible apply Within.stepEach); intro _ _)
    | split
    | extract_lets
    | with_reducible intro _
    | with_reducible show Within _ _ (ite _ _ _)
    | ((with_reducible show Within _ _ (id _)); exact Within.refl _ _)
    | dsimp +zetaDelta only

theorem execHealthPin_next {a0 : _} {a1 : _} {m : Nat} {s : State} (c : 947929094 &&& m = 947929094) :
    WithinNext m s (execHealthPin a0 a1 s) := WithinNext.mono (execHealthPin_within a0 a1 s) c

theorem execHealthRead_within : ∀ a0 a1 (s : State), WithinNext 939524102 s (execHealthRead a0 a1 s) := by
  intro a0 a1 s
  unfold execHealthRead
  repeat' first
    | with_reducible exact Within.refl _ _
    | assumption
    | ((with_reducible apply State.wr_step); rfl)
    | ((with_reducible apply State.gate_step); rfl)
    | ((with_reducible apply State.status_step); rfl)
    | with_reducible apply WithinNext.ok
    | exact WithinNext.fault _
    | ((with_reducible apply Within.stepEach); intro _ _)
    | split
    | extract_lets
    | with_reducible intro _
    | with_reducible show Within _ _ (ite _ _ _)
    | ((with_reducible show Within _ _ (id _)); exact Within.refl _ _)
    | dsimp +zetaDelta only

theorem execHealthRead_next {a0 : _} {a1 : _} {m : Nat} {s : State} (c : 939524102 &&& m = 939524102) :
    WithinNext m s (execHealthRead a0 a1 s) := WithinNext.mono (execHealthRead_within a0 a1 s) c

theorem execHealthPinExpiry_within : ∀ a0 a1 (s : State), WithinNext 8497676293 s (execHealthPinExpiry a0 a1 s) := by
  intro a0 a1 s
  unfold execHealthPinExpiry
  repeat' first
    | with_reducible exact Within.refl _ _
    | assumption
    | ((with_reducible apply State.unpin_step); rfl)
    | ((with_reducible apply State.reach_step); rfl)
    | with_reducible apply WithinNext.ok
    | exact WithinNext.fault _
    | ((with_reducible apply Within.stepEach); intro _ _)
    | split
    | extract_lets
    | with_reducible intro _
    | with_reducible show Within _ _ (ite _ _ _)
    | ((with_reducible show Within _ _ (id _)); exact Within.refl _ _)
    | dsimp +zetaDelta only

theorem execHealthPinExpiry_next {a0 : _} {a1 : _} {m : Nat} {s : State} (c : 8497676293 &&& m = 8497676293) :
    WithinNext m s (execHealthPinExpiry a0 a1 s) := WithinNext.mono (execHealthPinExpiry_within a0 a1 s) c

theorem execEaselWeightUpdate_within : ∀ a0 (s : State), WithinNext 13824952790 s (execEaselWeightUpdate a0 s) := by
  intro a0 s
  unfold execEaselWeightUpdate
  repeat' first
    | with_reducible exact Within.refl _ _
    | assumption
    | ((with_reducible apply State.setF_step); rfl)
    | ((with_reducible apply State.reconsider_step); rfl)
    | ((with_reducible apply State.moveOffPort_step); rfl)
    | with_reducible apply WithinNext.ok
    | exact WithinNext.fault _
    | ((with_reducible apply Within.stepEach); intro _ _)
    | split
    | extract_lets
    | ((fail_if_success with_reducible apply Within.upd_pending); (with_reducible apply Within.upd_dp); rfl)
    | with_reducible intro _
    | with_reducible show Within _ _ (ite _ _ _)
    | ((with_reducible show Within _ _ (id _)); exact Within.refl _ _)
    | dsimp +zetaDelta only
    | ((fail_if_success with_reducible apply Within.upd_pending); (with_reducible apply Within.upd_dp); rfl)

theorem execEaselWeightUpdate_next {a0 : _} {m : Nat} {s : State} (c : 13824952790 &&& m = 13824952790) :
    WithinNext m s (execEaselWeightUpdate a0 s) := WithinNext.mono (execEaselWeightUpdate_within a0 s) c

theorem execHealthActionStart_within : ∀ a0 a1 (s : State), WithinNext 17089362391 s (execHealthActionStart a0 a1 s) := by
  intro a0 a1 s
  unfold execHealthActionStart
  repeat' first
    | with_reducible exact Within.refl _ _
    | assumption
    | ((with_reducible apply State.setPart_step); rfl)
    | ((with_reducible apply State.startAction_step); rfl)
    | ((with_reducible apply State.reach_step); rfl)
    | with_reducible apply WithinNext.ok
    | exact WithinNext.fault _
    | ((with_reducible apply Within.stepEach); intro _ _)
    | split
    | extract_lets
    | with_reducible intro _
    | with_reducible show Within _ _ (ite _ _ _)
    | ((with_reducible show Within _ _ (id _)); exact Within.refl _ _)
    | dsimp +zetaDelta only

theorem execHealthActionStart_next {a0 : _} {a1 : _} {m : Nat} {s : State} (c : 17089362391 &&& m = 17089362391) :
    WithinNext m s (execHealthActionStart a0 a1 s) := WithinNext.mono (execHealthActionStart_within a0 a1 s) c

theorem execEaselRebalance_within : ∀ a0 a1 (s : State), WithinNext 13824952788 s (execEaselRebalance a0 a1 s) := by
  intro a0 a1 s
  unfold execEaselRebalance
  repeat' first
    | with_reducible exact Within.refl _ _
    | assumption
    | ((with_reducible apply State.setBundle_step); rfl)
    | ((with_reducible apply State.startMove_step); rfl)
    | with_reducible apply WithinNext.ok
    | exact WithinNext.fault _
    | ((with_reducible apply Within.stepEach); intro _ _)
    | split
    | extract_lets
    | with_reducible intro _
    | with_reducible show Within _ _ (ite _ _ _)
    | ((with_reducible show Within _ _ (id _)); exact Within.refl _ _)
    | dsimp +zetaDelta only

theorem execEaselRebalance_next {a0 : _} {a1 : _} {m : Nat} {s : State} (c : 13824952788 &&& m = 13824952788) :
    WithinNext m s (execEaselRebalance a0 a1 s) := WithinNext.mono (execEaselRebalance_within a0 a1 s) c

theorem execHealthEvaluate_within : ∀ a0 (s : State), WithinNext 17089362391 s (execHealthEvaluate a0 s) := by
  intro a0 s
  unfold execHealthEvaluate
  repeat' first
    | with_reducible exact Within.refl _ _
    | assumption
    | ((with_reducible apply State.bump_step); rfl)
    | ((with_reducible apply State.noteInputs_step); rfl)
    | ((with_reducible apply State.reach_step); rfl)
    | ((with_reducible apply State.evaluatePart_step); rfl)
    | ((with_reducible apply State.allowPart_step); rfl)
    | with_reducible apply WithinNext.ok
    | exact WithinNext.fault _
    | ((with_reducible apply Within.stepEach); intro _ _)
    | split
    | extract_lets
    | ((fail_if_success with_reducible apply Within.upd_pending); (with_reducible apply Within.upd_tel); rfl)
    | with_reducible intro _
    | with_reducible show Within _ _ (ite _ _ _)
    | ((with_reducible show Within _ _ (id _)); exact Within.refl _ _)
    | dsimp +zetaDelta only
    | ((fail_if_success with_reducible apply Within.upd_pending); (with_reducible apply Within.upd_tel); rfl)

theorem execHealthEvaluate_next {a0 : _} {m : Nat} {s : State} (c : 17089362391 &&& m = 17089362391) :
    WithinNext m s (execHealthEvaluate a0 s) := WithinNext.mono (execHealthEvaluate_within a0 s) c


/-! ## Machine/Service.lean -/

theorem State.setUpdate_within : ∀ (s : State) a1, Within 8388608 s (State.setUpdate s a1) := by
  intro s a1
  unfold State.setUpdate
  repeat' first
    | with_reducible exact Within.refl _ _
    | assumption
    | ((with_reducible apply Within.stepEach); intro _ _)
    | split
    | extract_lets
    | ((fail_if_success with_reducible apply Within.upd_pending); (with_reducible apply Within.upd_tel); rfl)
    | with_reducible intro _
    | with_reducible show Within _ _ (ite _ _ _)
    | ((with_reducible show Within _ _ (id _)); exact Within.refl _ _)
    | dsimp +zetaDelta only
    | ((fail_if_success with_reducible apply Within.upd_pending); (with_reducible apply Within.upd_tel); rfl)

theorem State.setUpdate_step {a1 : _} {m : Nat} {r s : State} (c : 8388608 &&& m = 8388608) (h : Within m r s) :
    Within m r (State.setUpdate s a1) := Within.step (State.setUpdate_within s a1) c h

theorem State.swapBanks_within : ∀ (s : State) a1, Within 1082130432 s (State.swapBanks s a1) := by
  intro s a1
  unfold State.swapBanks
  repeat' first
    | with_reducible exact Within.refl _ _
    | assumption
    | ((with_reducible apply State.setUpdate_step); rfl)
    | ((with_reducible apply State.shutIsland_step); rfl)
    | ((with_reducible apply Within.stepEach); intro _ _)
    | split
    | extract_lets
    | with_reducible intro _
    | with_reducible show Within _ _ (ite _ _ _)
    | ((with_reducible show Within _ _ (id _)); exact Within.refl _ _)
    | dsimp +zetaDelta only

theorem State.swapBanks_step {a1 : _} {m : Nat} {r s : State} (c : 1082130432 &&& m = 1082130432) (h : Within m r s) :
    Within m r (State.swapBanks s a1) := Within.step (State.swapBanks_within s a1) c h

theorem State.endIslandDrain_within : ∀ (s : State) a1 a2, Within 8498184533 s (State.endIslandDrain s a1 a2) := by
  intro s a1 a2
  unfold State.endIslandDrain
  repeat' first
    | with_reducible exact Within.refl _ _
    | assumption
    | ((with_reducible apply State.discardItems_step); rfl)
    | ((with_reducible apply State.raise_step); rfl)
    | ((with_reducible apply State.swapBanks_step); rfl)
    | ((with_reducible apply State.reach_step); rfl)
    | ((with_reducible apply Within.stepEach); intro _ _)
    | split
    | extract_lets
    | with_reducible intro _
    | with_reducible show Within _ _ (ite _ _ _)
    | ((with_reducible show Within _ _ (id _)); exact Within.refl _ _)
    | dsimp +zetaDelta only

theorem State.endIslandDrain_step {a1 : _} {a2 : _} {m : Nat} {r s : State} (c : 8498184533 &&& m = 8498184533) (h : Within m r s) :
    Within m r (State.endIslandDrain s a1 a2) := Within.step (State.endIslandDrain_within s a1 a2) c h

theorem State.ucodeStat_within : ∀ (s : State) a1 a2 a3, Within 2 s (State.ucodeStat s a1 a2 a3) := by
  intro s a1 a2 a3
  unfold State.ucodeStat
  repeat' first
    | with_reducible exact Within.refl _ _
    | assumption
    | ((with_reducible apply State.wr_step); rfl)
    | ((with_reducible apply Within.stepEach); intro _ _)
    | split
    | extract_lets
    | with_reducible intro _
    | with_reducible show Within _ _ (ite _ _ _)
    | ((with_reducible show Within _ _ (id _)); exact Within.refl _ _)
    | dsimp +zetaDelta only

theorem State.ucodeStat_step {a1 : _} {a2 : _} {a3 : _} {m : Nat} {r s : State} (c : 2 &&& m = 2) (h : Within m r s) :
    Within m r (State.ucodeStat s a1 a2 a3) := Within.step (State.ucodeStat_within s a1 a2 a3) c h

theorem State.endUcode_within : ∀ (s : State) a1 a2 a3, Within 948961286 s (State.endUcode s a1 a2 a3) := by
  intro s a1 a2 a3
  unfold State.endUcode
  repeat' first
    | with_reducible exact Within.refl _ _
    | assumption
    | ((with_reducible apply State.endMaint_step); rfl)
    | ((with_reducible apply State.ucodeStat_step); rfl)
    | ((with_reducible apply Within.stepEach); intro _ _)
    | split
    | extract_lets
    | ((fail_if_success with_reducible apply Within.upd_pending); (with_reducible apply Within.upd_tel); rfl)
    | with_reducible intro _
    | with_reducible show Within _ _ (ite _ _ _)
    | ((with_reducible show Within _ _ (id _)); exact Within.refl _ _)
    | dsimp +zetaDelta only
    | ((fail_if_success with_reducible apply Within.upd_pending); (with_reducible apply Within.upd_tel); rfl)

theorem State.endUcode_step {a1 : _} {a2 : _} {a3 : _} {m : Nat} {r s : State} (c : 948961286 &&& m = 948961286) (h : Within m r s) :
    Within m r (State.endUcode s a1 a2 a3) := Within.step (State.endUcode_within s a1 a2 a3) c h

theorem State.firstGeneration_within : ∀ (s : State), Within 4295557172 s (State.firstGeneration s) := by
  intro s
  unfold State.firstGeneration
  repeat' first
    | with_reducible exact Within.refl _ _
    | assumption
    | ((with_reducible apply State.sendMore_step); rfl)
    | ((with_reducible apply State.sendReady_step); rfl)
    | ((with_reducible apply Within.stepEach); intro _ _)
    | split
    | extract_lets
    | ((fail_if_success with_reducible apply Within.upd_pending); (with_reducible apply Within.upd_tab); rfl)
    | with_reducible intro _
    | with_reducible show Within _ _ (ite _ _ _)
    | ((with_reducible show Within _ _ (id _)); exact Within.refl _ _)
    | dsimp +zetaDelta only
    | ((fail_if_success with_reducible apply Within.upd_pending); (with_reducible apply Within.upd_tab); rfl)

theorem State.firstGeneration_step  {m : Nat} {r s : State} (c : 4295557172 &&& m = 4295557172) (h : Within m r s) :
    Within m r (State.firstGeneration s) := Within.step (State.firstGeneration_within s) c h

theorem State.genEvent_within : ∀ (s : State) a1, Within 939524100 s (State.genEvent s a1) := by
  intro s a1
  unfold State.genEvent
  repeat' first
    | with_reducible exact Within.refl _ _
    | assumption
    | ((with_reducible apply State.raise_step); rfl)
    | ((with_reducible apply Within.stepEach); intro _ _)
    | split
    | extract_lets
    | with_reducible intro _
    | with_reducible show Within _ _ (ite _ _ _)
    | ((with_reducible show Within _ _ (id _)); exact Within.refl _ _)
    | dsimp +zetaDelta only

theorem State.genEvent_step {a1 : _} {m : Nat} {r s : State} (c : 939524100 &&& m = 939524100) (h : Within m r s) :
    Within m r (State.genEvent s a1) := Within.step (State.genEvent_within s a1) c h

theorem State.startUcode_within : ∀ a0 a1 (s : State), Within 8388608 s (State.startUcode a0 a1 s) := by
  intro a0 a1 s
  unfold State.startUcode
  repeat' first
    | with_reducible exact Within.refl _ _
    | assumption
    | ((with_reducible apply Within.stepEach); intro _ _)
    | split
    | extract_lets
    | ((fail_if_success with_reducible apply Within.upd_pending); (with_reducible apply Within.upd_tel); rfl)
    | with_reducible intro _
    | with_reducible show Within _ _ (ite _ _ _)
    | ((with_reducible show Within _ _ (id _)); exact Within.refl _ _)
    | dsimp +zetaDelta only
    | ((fail_if_success with_reducible apply Within.upd_pending); (with_reducible apply Within.upd_tel); rfl)

theorem State.startUcode_step {a0 : _} {a1 : _} {m : Nat} {r s : State} (c : 8388608 &&& m = 8388608) (h : Within m r s) :
    Within m r (State.startUcode a0 a1 s) := Within.step (State.startUcode_within a0 a1 s) c h

theorem State.startActivity_within : ∀ a0 (s : State), Within 14931460094 s (State.startActivity a0 s) := by
  intro a0 s
  unfold State.startActivity
  repeat' first
    | with_reducible exact Within.refl _ _
    | assumption
    | ((with_reducible apply State.startResume_step); rfl)
    | ((with_reducible apply State.startOffline_step); rfl)
    | ((with_reducible apply State.startStack_step); rfl)
    | ((with_reducible apply State.startCxlAdd_step); rfl)
    | ((with_reducible apply State.startErase_step); rfl)
    | ((with_reducible apply State.startDomainOp_step); rfl)
    | ((with_reducible apply State.startCxlRemove_step); rfl)
    | ((with_reducible apply State.startPortReset_step); rfl)
    | ((with_reducible apply State.startUcode_step); rfl)
    | ((with_reducible apply State.startRetrain_step); rfl)
    | ((with_reducible apply State.startProgram_step); rfl)
    | ((with_reducible apply State.startTakeover_step); rfl)
    | ((with_reducible apply State.startDrain_step); rfl)
    | ((with_reducible apply Within.stepEach); intro _ _)
    | split
    | extract_lets
    | with_reducible intro _
    | with_reducible show Within _ _ (ite _ _ _)
    | ((with_reducible show Within _ _ (id _)); exact Within.refl _ _)
    | dsimp +zetaDelta only

theorem State.startActivity_step {a0 : _} {m : Nat} {r s : State} (c : 14931460094 &&& m = 14931460094) (h : Within m r s) :
    Within m r (State.startActivity a0 s) := Within.step (State.startActivity_within a0 s) c h

theorem execUcodeUpdate_within : ∀ a0 a1 (s : State), WithinNext 948961286 s (execUcodeUpdate a0 a1 s) := by
  intro a0 a1 s
  unfold execUcodeUpdate
  repeat' first
    | with_reducible exact Within.refl _ _
    | assumption
    | ((with_reducible apply State.requestMaint_step); rfl)
    | ((with_reducible apply State.gate_step); rfl)
    | ((with_reducible apply State.ucodeStat_step); rfl)
    | ((with_reducible apply State.startUcode_step); rfl)
    | ((with_reducible apply State.status_step); rfl)
    | with_reducible apply WithinNext.ok
    | exact WithinNext.fault _
    | ((with_reducible apply Within.stepEach); intro _ _)
    | split
    | extract_lets
    | with_reducible intro _
    | with_reducible show Within _ _ (ite _ _ _)
    | ((with_reducible show Within _ _ (id _)); exact Within.refl _ _)
    | dsimp +zetaDelta only

theorem execUcodeUpdate_next {a0 : _} {a1 : _} {m : Nat} {s : State} (c : 948961286 &&& m = 948961286) :
    WithinNext m s (execUcodeUpdate a0 a1 s) := WithinNext.mono (execUcodeUpdate_within a0 a1 s) c

theorem execMaintLockGrant_within : ∀ (s : State), WithinNext 14931460094 s (execMaintLockGrant s) := by
  intro s
  unfold execMaintLockGrant
  repeat' first
    | with_reducible exact Within.refl _ _
    | assumption
    | ((with_reducible apply State.startActivity_step); rfl)
    | ((with_reducible apply State.maintEvent_step); rfl)
    | with_reducible apply WithinNext.ok
    | exact WithinNext.fault _
    | ((with_reducible apply Within.stepEach); intro _ _)
    | split
    | extract_lets
    | ((fail_if_success with_reducible apply Within.upd_pending); (with_reducible apply Within.upd_maint); rfl)
    | with_reducible intro _
    | with_reducible show Within _ _ (ite _ _ _)
    | ((with_reducible show Within _ _ (id _)); exact Within.refl _ _)
    | dsimp +zetaDelta only
    | ((fail_if_success with_reducible apply Within.upd_pending); (with_reducible apply Within.upd_maint); rfl)

theorem execMaintLockGrant_next  {m : Nat} {s : State} (c : 14931460094 &&& m = 14931460094) :
    WithinNext m s (execMaintLockGrant s) := WithinNext.mono (execMaintLockGrant_within s) c

theorem execUcodeLoadDone_within : ∀ a0 (s : State), WithinNext 8499233111 s (execUcodeLoadDone a0 s) := by
  intro a0 s
  unfold execUcodeLoadDone
  repeat' first
    | with_reducible exact Within.refl _ _
    | assumption
    | ((with_reducible apply State.endIslandDrain_step); rfl)
    | ((with_reducible apply State.setUpdate_step); rfl)
    | ((with_reducible apply State.endUcode_step); rfl)
    | ((with_reducible apply State.swapBanks_step); rfl)
    | with_reducible apply WithinNext.ok
    | exact WithinNext.fault _
    | ((with_reducible apply Within.stepEach); intro _ _)
    | split
    | extract_lets
    | with_reducible intro _
    | with_reducible show Within _ _ (ite _ _ _)
    | ((with_reducible show Within _ _ (id _)); exact Within.refl _ _)
    | dsimp +zetaDelta only

theorem execUcodeLoadDone_next {a0 : _} {m : Nat} {s : State} (c : 8499233111 &&& m = 8499233111) :
    WithinNext m s (execUcodeLoadDone a0 s) := WithinNext.mono (execUcodeLoadDone_within a0 s) c

theorem execUcodeAnnounceTimeout_within : ∀ (s : State), WithinNext 8498708487 s (execUcodeAnnounceTimeout s) := by
  intro s
  unfold execUcodeAnnounceTimeout
  repeat' first
    | with_reducible exact Within.refl _ _
    | assumption
    | ((with_reducible apply State.openIsland_step); rfl)
    | ((with_reducible apply State.endUcode_step); rfl)
    | ((with_reducible apply State.reach_step); rfl)
    | with_reducible apply WithinNext.ok
    | exact WithinNext.fault _
    | ((with_reducible apply Within.stepEach); intro _ _)
    | split
    | extract_lets
    | with_reducible intro _
    | with_reducible show Within _ _ (ite _ _ _)
    | ((with_reducible show Within _ _ (id _)); exact Within.refl _ _)
    | dsimp +zetaDelta only

theorem execUcodeAnnounceTimeout_next  {m : Nat} {s : State} (c : 8498708487 &&& m = 8498708487) :
    WithinNext m s (execUcodeAnnounceTimeout s) := WithinNext.mono (execUcodeAnnounceTimeout_within s) c

theorem execEpochReached_within : ∀ (s : State), WithinNext 17079806389 s (execEpochReached s) := by
  intro s
  unfold execEpochReached
  repeat' first
    | with_reducible exact Within.refl _ _
    | assumption
    | ((with_reducible apply State.canvasEpoch_step); rfl)
    | ((with_reducible apply State.reconsider_step); rfl)
    | ((with_reducible apply State.genEvent_step); rfl)
    | ((with_reducible apply State.reach_step); rfl)
    | ((with_reducible apply State.firstGeneration_step); rfl)
    | with_reducible apply WithinNext.ok
    | exact WithinNext.fault _
    | ((with_reducible apply Within.stepEach); intro _ _)
    | split
    | extract_lets
    | ((fail_if_success with_reducible apply Within.upd_pending); (with_reducible apply Within.upd_tab_prism); rfl)
    | with_reducible intro _
    | with_reducible show Within _ _ (ite _ _ _)
    | ((with_reducible show Within _ _ (id _)); exact Within.refl _ _)
    | dsimp +zetaDelta only
    | ((fail_if_success with_reducible apply Within.upd_pending); (with_reducible apply Within.upd_tab_prism); rfl)

theorem execEpochReached_next  {m : Nat} {s : State} (c : 17079806389 &&& m = 17079806389) :
    WithinNext m s (execEpochReached s) := WithinNext.mono (execEpochReached_within s) c

theorem execCreditAnnounce_within : ∀ a0 (s : State), WithinNext 2039480326 s (execCreditAnnounce a0 s) := by
  intro a0 s
  unfold execCreditAnnounce
  repeat' first
    | with_reducible exact Within.refl _ _
    | assumption
    | ((with_reducible apply State.bump_step); rfl)
    | ((with_reducible apply State.openIsland_step); rfl)
    | ((with_reducible apply State.endUcode_step); rfl)
    | ((with_reducible apply State.measure_step); rfl)
    | with_reducible apply WithinNext.ok
    | exact WithinNext.fault _
    | ((with_reducible apply Within.stepEach); intro _ _)
    | split
    | extract_lets
    | with_reducible intro _
    | with_reducible show Within _ _ (ite _ _ _)
    | ((with_reducible show Within _ _ (id _)); exact Within.refl _ _)
    | dsimp +zetaDelta only

theorem execCreditAnnounce_next {a0 : _} {m : Nat} {s : State} (c : 2039480326 &&& m = 2039480326) :
    WithinNext m s (execCreditAnnounce a0 s) := WithinNext.mono (execCreditAnnounce_within a0 s) c

end Sys2Proof.Machine
end

