-- ==== Sys2Proof/Laws/FrameRegs.lean ====
section
/-!
SUPPORT. Frames of register writes and the dispatch: one lemma per operation and command, which parts of the state it can change.
-/

set_option linter.all false
namespace Sys2Proof.Machine

/-! ## Machine/Regs.lean -/

theorem writePageCmd_within : ∀ a0 (s : State), Within 939687942 s (writePageCmd a0 s) := by
  intro a0 s
  unfold writePageCmd
  repeat' first
    | with_reducible exact Within.refl _ _
    | assumption
    | ((with_reducible apply execPageSetPin_next); rfl)
    | ((with_reducible apply execPageAlloc_next); rfl)
    | ((with_reducible apply execPageRead_next); rfl)
    | ((with_reducible apply execPageFree_next); rfl)
    | ((with_reducible apply State.status_step); rfl)
    | (with_reducible apply State.after_step)
    | ((with_reducible apply Within.stepEach); intro _ _)
    | split
    | extract_lets
    | with_reducible intro _
    | with_reducible show Within _ _ (ite _ _ _)
    | ((with_reducible show Within _ _ (id _)); exact Within.refl _ _)
    | dsimp +zetaDelta only

theorem writePageCmd_step {a0 : _} {m : Nat} {r s : State} (c : 939687942 &&& m = 939687942) (h : Within m r s) :
    Within m r (writePageCmd a0 s) := Within.step (writePageCmd_within a0 s) c h

theorem writeMem_within : ∀ a0 a1 a2 a3 (s : State), Within 5236310358 s (writeMem a0 a1 a2 a3 s) := by
  intro a0 a1 a2 a3 s
  unfold writeMem
  repeat' first
    | with_reducible exact Within.refl _ _
    | assumption
    | ((with_reducible apply execHeldRelease_next); rfl)
    | ((with_reducible apply State.abandonMoves_step); rfl)
    | ((with_reducible apply execCxlRemove_next); rfl)
    | ((with_reducible apply execSpillMaxWrite_next); rfl)
    | ((with_reducible apply State.setF_step); rfl)
    | ((with_reducible apply execTrackerForget_next); rfl)
    | ((with_reducible apply execFixGibWrite_next); rfl)
    | ((with_reducible apply State.store_step); rfl)
    | ((with_reducible apply execCxlPortEnable_next); rfl)
    | ((with_reducible apply execWindowRead_next); rfl)
    | ((with_reducible apply execStackRetireRequest_next); rfl)
    | ((with_reducible apply execHeldReleaseDest_next); rfl)
    | ((with_reducible apply writePageCmd_step); rfl)
    | ((with_reducible apply execWindowWrite_next); rfl)
    | ((with_reducible apply execHeldRead_next); rfl)
    | ((with_reducible apply State.status_step); rfl)
    | (with_reducible apply State.after_step)
    | ((with_reducible apply Within.stepEach); intro _ _)
    | split
    | extract_lets
    | with_reducible intro _
    | with_reducible show Within _ _ (ite _ _ _)
    | ((with_reducible show Within _ _ (id _)); exact Within.refl _ _)
    | dsimp +zetaDelta only

theorem writeMem_step {a0 : _} {a1 : _} {a2 : _} {a3 : _} {m : Nat} {r s : State} (c : 5236310358 &&& m = 5236310358) (h : Within m r s) :
    Within m r (writeMem a0 a1 a2 a3 s) := Within.step (writeMem_within a0 a1 a2 a3 s) c h

theorem writeOpt_within : ∀ a0 a1 a2 (s : State), Within 944773158 s (writeOpt a0 a1 a2 s) := by
  intro a0 a1 a2 s
  unfold writeOpt
  repeat' first
    | with_reducible exact Within.refl _ _
    | assumption
    | ((with_reducible apply execEthReadActive_next); rfl)
    | ((with_reducible apply execEthReadEntry_next); rfl)
    | ((with_reducible apply execEthWriteEntry_next); rfl)
    | ((with_reducible apply execLaserTakeoverRequest_next); rfl)
    | ((with_reducible apply execLaserRead_next); rfl)
    | ((with_reducible apply execPatWriteShadow_next); rfl)
    | ((with_reducible apply State.store_step); rfl)
    | ((with_reducible apply execPatReadShadow_next); rfl)
    | ((with_reducible apply execPrismGuardWrite_next); rfl)
    | ((with_reducible apply execPatReadActive_next); rfl)
    | ((with_reducible apply State.status_step); rfl)
    | (with_reducible apply State.after_step)
    | ((with_reducible apply Within.stepEach); intro _ _)
    | split
    | extract_lets
    | with_reducible intro _
    | with_reducible show Within _ _ (ite _ _ _)
    | ((with_reducible show Within _ _ (id _)); exact Within.refl _ _)
    | dsimp +zetaDelta only

theorem writeOpt_step {a0 : _} {a1 : _} {a2 : _} {m : Nat} {r s : State} (c : 944773158 &&& m = 944773158) (h : Within m r s) :
    Within m r (writeOpt a0 a1 a2 s) := Within.step (writeOpt_within a0 a1 a2 s) c h

theorem writeHub_within : ∀ a0 a1 a2 a3 (s : State), Within 5247862823 s (writeHub a0 a1 a2 a3 s) := by
  intro a0 a1 a2 a3 s
  unfold writeHub
  repeat' first
    | with_reducible exact Within.refl _ _
    | assumption
    | ((with_reducible apply execHostRingDisable_next); rfl)
    | ((with_reducible apply execAuxRingEnable_next); rfl)
    | ((with_reducible apply State.store_step); rfl)
    | ((with_reducible apply execTimeSet_next); rfl)
    | ((with_reducible apply execHostRingEnable_next); rfl)
    | (with_reducible apply State.after_step)
    | ((with_reducible apply Within.stepEach); intro _ _)
    | split
    | extract_lets
    | with_reducible intro _
    | with_reducible show Within _ _ (ite _ _ _)
    | ((with_reducible show Within _ _ (id _)); exact Within.refl _ _)
    | dsimp +zetaDelta only

theorem writeHub_step {a0 : _} {a1 : _} {a2 : _} {a3 : _} {m : Nat} {r s : State} (c : 5247862823 &&& m = 5247862823) (h : Within m r s) :
    Within m r (writeHub a0 a1 a2 a3 s) := Within.step (writeHub_within a0 a1 a2 a3 s) c h

theorem writeGlb_within : ∀ a0 a1 a2 (s : State), Within 14998568958 s (writeGlb a0 a1 a2 s) := by
  intro a0 a1 a2 s
  unfold writeGlb
  repeat' first
    | with_reducible exact Within.refl _ _
    | assumption
    | ((with_reducible apply execMstateRequest_next); rfl)
    | ((with_reducible apply execHostImageGo_next); rfl)
    | ((with_reducible apply execFlashErase_next); rfl)
    | ((with_reducible apply execDomainResetRequest_next); rfl)
    | ((with_reducible apply execFlashProgram_next); rfl)
    | ((with_reducible apply State.store_step); rfl)
    | ((with_reducible apply State.flashStatus_step); rfl)
    | ((with_reducible apply execSecRaiseMinSvn_next); rfl)
    | ((with_reducible apply State.rstStatus_step); rfl)
    | ((with_reducible apply State.tick_step); rfl)
    | ((with_reducible apply State.cutBudgets_step); rfl)
    | ((with_reducible apply execDomainRetention_next); rfl)
    | ((with_reducible apply execDomainOn_next); rfl)
    | ((with_reducible apply execSecBurnOwnerHash_next); rfl)
    | ((with_reducible apply execAttestReadEntry_next); rfl)
    | ((with_reducible apply execFabricIdWrite_next); rfl)
    | ((with_reducible apply execSupplyLogClear_next); rfl)
    | ((with_reducible apply execAttestReport_next); rfl)
    | ((with_reducible apply State.secStatus_step); rfl)
    | ((with_reducible apply execWarmResetRequest_next); rfl)
    | ((with_reducible apply execDomainOff_next); rfl)
    | ((with_reducible apply execAttestWritePubkey_next); rfl)
    | (with_reducible apply State.after_step)
    | ((with_reducible apply Within.stepEach); intro _ _)
    | split
    | extract_lets
    | with_reducible intro _
    | with_reducible show Within _ _ (ite _ _ _)
    | ((with_reducible show Within _ _ (id _)); exact Within.refl _ _)
    | dsimp +zetaDelta only

theorem writeGlb_step {a0 : _} {a1 : _} {a2 : _} {m : Nat} {r s : State} (c : 14998568958 &&& m = 14998568958) (h : Within m r s) :
    Within m r (writeGlb a0 a1 a2 s) := Within.step (writeGlb_within a0 a1 a2 s) c h

theorem writeBuf_within : ∀ a0 a1 a2 a3 (s : State), Within 939524134 s (writeBuf a0 a1 a2 a3 s) := by
  intro a0 a1 a2 a3 s
  unfold writeBuf
  repeat' first
    | with_reducible exact Within.refl _ _
    | assumption
    | ((with_reducible apply execFwdReadShadow_next); rfl)
    | ((with_reducible apply execFwdReadActive_next); rfl)
    | ((with_reducible apply execFwdWriteShadow_next); rfl)
    | ((with_reducible apply execFwdCommit_next); rfl)
    | ((with_reducible apply State.store_step); rfl)
    | ((with_reducible apply execReservationWrite_next); rfl)
    | ((with_reducible apply execMarkThresholdWrite_next); rfl)
    | (with_reducible apply State.after_step)
    | ((with_reducible apply Within.stepEach); intro _ _)
    | split
    | extract_lets
    | with_reducible intro _
    | with_reducible show Within _ _ (ite _ _ _)
    | ((with_reducible show Within _ _ (id _)); exact Within.refl _ _)
    | dsimp +zetaDelta only

theorem writeBuf_step {a0 : _} {a1 : _} {a2 : _} {a3 : _} {m : Nat} {r s : State} (c : 939524134 &&& m = 939524134) (h : Within m r s) :
    Within m r (writeBuf a0 a1 a2 a3 s) := Within.step (writeBuf_within a0 a1 a2 a3 s) c h

theorem writeMct_within : ∀ a0 a1 a2 (s : State), Within 939532342 s (writeMct a0 a1 a2 s) := by
  intro a0 a1 a2 s
  unfold writeMct
  repeat' first
    | with_reducible exact Within.refl _ _
    | assumption
    | ((with_reducible apply execMctWriteShadow_next); rfl)
    | ((with_reducible apply execMctReadActive_next); rfl)
    | ((with_reducible apply State.store_step); rfl)
    | ((with_reducible apply execCnvWriteShadow_next); rfl)
    | ((with_reducible apply execCnvReadShadow_next); rfl)
    | ((with_reducible apply execCnvForce_next); rfl)
    | ((with_reducible apply execCnvReadStatus_next); rfl)
    | ((with_reducible apply execMctReadShadow_next); rfl)
    | ((with_reducible apply execCnvReadActive_next); rfl)
    | ((with_reducible apply State.status_step); rfl)
    | (with_reducible apply State.after_step)
    | ((with_reducible apply Within.stepEach); intro _ _)
    | split
    | extract_lets
    | with_reducible intro _
    | with_reducible show Within _ _ (ite _ _ _)
    | ((with_reducible show Within _ _ (id _)); exact Within.refl _ _)
    | dsimp +zetaDelta only

theorem writeMct_step {a0 : _} {a1 : _} {a2 : _} {m : Nat} {r s : State} (c : 939532342 &&& m = 939532342) (h : Within m r s) :
    Within m r (writeMct a0 a1 a2 s) := Within.step (writeMct_within a0 a1 a2 s) c h

theorem writePortCtrl_within : ∀ a0 a1 (s : State), Within 13826002390 s (writePortCtrl a0 a1 s) := by
  intro a0 a1 s
  unfold writePortCtrl
  repeat' first
    | with_reducible exact Within.refl _ _
    | assumption
    | ((with_reducible apply execPortEnableWrite_next); rfl)
    | ((with_reducible apply execPortRetrain_next); rfl)
    | ((with_reducible apply execPortDrain_next); rfl)
    | ((with_reducible apply execLaneMaskWrite_next); rfl)
    | ((with_reducible apply execPortUndrain_next); rfl)
    | ((with_reducible apply execPortReset_next); rfl)
    | (with_reducible apply State.after_step)
    | ((with_reducible apply Within.stepEach); intro _ _)
    | split
    | extract_lets
    | with_reducible intro _
    | with_reducible show Within _ _ (ite _ _ _)
    | ((with_reducible show Within _ _ (id _)); exact Within.refl _ _)
    | dsimp +zetaDelta only

theorem writePortCtrl_step {a0 : _} {a1 : _} {m : Nat} {r s : State} (c : 13826002390 &&& m = 13826002390) (h : Within m r s) :
    Within m r (writePortCtrl a0 a1 s) := Within.step (writePortCtrl_within a0 a1 s) c h

theorem writePl_within : ∀ a0 a1 a2 a3 (s : State), Within 13826002390 s (writePl a0 a1 a2 a3 s) := by
  intro a0 a1 a2 a3 s
  unfold writePl
  repeat' first
    | with_reducible exact Within.refl _ _
    | assumption
    | ((with_reducible apply writePortCtrl_step); rfl)
    | ((with_reducible apply execPathWeightWrite_next); rfl)
    | ((with_reducible apply State.store_step); rfl)
    | ((with_reducible apply State.polModeWrite_step); rfl)
    | ((with_reducible apply execPolicerBucketWrite_next); rfl)
    | ((with_reducible apply execShaperWrite_next); rfl)
    | (with_reducible apply State.after_step)
    | ((with_reducible apply Within.stepEach); intro _ _)
    | split
    | extract_lets
    | with_reducible intro _
    | with_reducible show Within _ _ (ite _ _ _)
    | ((with_reducible show Within _ _ (id _)); exact Within.refl _ _)
    | dsimp +zetaDelta only

theorem writePl_step {a0 : _} {a1 : _} {a2 : _} {a3 : _} {m : Nat} {r s : State} (c : 13826002390 &&& m = 13826002390) (h : Within m r s) :
    Within m r (writePl a0 a1 a2 a3 s) := Within.step (writePl_within a0 a1 a2 a3 s) c h

theorem writeSnapCtrl_within : ∀ a0 a1 (s : State), Within 947912710 s (writeSnapCtrl a0 a1 s) := by
  intro a0 a1 s
  unfold writeSnapCtrl
  repeat' first
    | with_reducible exact Within.refl _ _
    | assumption
    | ((with_reducible apply execSnapshotLock_next); rfl)
    | ((with_reducible apply State.setF_step); rfl)
    | ((with_reducible apply execSnapshotUnlock_next); rfl)
    | ((with_reducible apply execSnapshotRequest_next); rfl)
    | (with_reducible apply State.after_step)
    | ((with_reducible apply Within.stepEach); intro _ _)
    | split
    | extract_lets
    | ((fail_if_success with_reducible apply Within.upd_pending); (with_reducible apply Within.upd_tel); rfl)
    | with_reducible intro _
    | with_reducible show Within _ _ (ite _ _ _)
    | ((with_reducible show Within _ _ (id _)); exact Within.refl _ _)
    | dsimp +zetaDelta only
    | ((fail_if_success with_reducible apply Within.upd_pending); (with_reducible apply Within.upd_tel); rfl)

theorem writeSnapCtrl_step {a0 : _} {a1 : _} {m : Nat} {r s : State} (c : 947912710 &&& m = 947912710) (h : Within m r s) :
    Within m r (writeSnapCtrl a0 a1 s) := Within.step (writeSnapCtrl_within a0 a1 s) c h

theorem writeTel_within : ∀ a0 a1 a2 a3 (s : State), Within 14931460094 s (writeTel a0 a1 a2 a3 s) := by
  intro a0 a1 a2 a3 s
  unfold writeTel
  repeat' first
    | with_reducible exact Within.refl _ _
    | assumption
    | ((with_reducible apply execHealthUnpin_next); rfl)
    | ((with_reducible apply execIsolationRelease_next); rfl)
    | ((with_reducible apply execHealthPin_next); rfl)
    | ((with_reducible apply writeSnapCtrl_step); rfl)
    | ((with_reducible apply execUcodeUpdate_next); rfl)
    | ((with_reducible apply State.store_step); rfl)
    | ((with_reducible apply execHealthRead_next); rfl)
    | ((with_reducible apply execQueueHwmClear_next); rfl)
    | (with_reducible apply State.after_step)
    | ((with_reducible apply Within.stepEach); intro _ _)
    | split
    | extract_lets
    | with_reducible intro _
    | with_reducible show Within _ _ (ite _ _ _)
    | ((with_reducible show Within _ _ (id _)); exact Within.refl _ _)
    | dsimp +zetaDelta only

theorem writeTel_step {a0 : _} {a1 : _} {a2 : _} {a3 : _} {m : Nat} {r s : State} (c : 14931460094 &&& m = 14931460094) (h : Within m r s) :
    Within m r (writeTel a0 a1 a2 a3 s) := Within.step (writeTel_within a0 a1 a2 a3 s) c h

theorem writeEngCtrl_within : ∀ a0 a1 a2 (s : State), Within 940761110 s (writeEngCtrl a0 a1 a2 s) := by
  intro a0 a1 a2 s
  unfold writeEngCtrl
  repeat' first
    | with_reducible exact Within.refl _ _
    | assumption
    | ((with_reducible apply execEngineParkRequest_next); rfl)
    | ((with_reducible apply State.shedFiller_step); rfl)
    | ((with_reducible apply State.setF_step); rfl)
    | ((with_reducible apply execEngineUnpark_next); rfl)
    | ((with_reducible apply execEngineResume_next); rfl)
    | ((with_reducible apply execEngineOfflineRequest_next); rfl)
    | (with_reducible apply State.after_step)
    | ((with_reducible apply Within.stepEach); intro _ _)
    | split
    | extract_lets
    | with_reducible intro _
    | with_reducible show Within _ _ (ite _ _ _)
    | ((with_reducible show Within _ _ (id _)); exact Within.refl _ _)
    | dsimp +zetaDelta only

theorem writeEngCtrl_step {a0 : _} {a1 : _} {a2 : _} {m : Nat} {r s : State} (c : 940761110 &&& m = 940761110) (h : Within m r s) :
    Within m r (writeEngCtrl a0 a1 a2 s) := Within.step (writeEngCtrl_within a0 a1 a2 s) c h

theorem writePal_within : ∀ a0 a1 a2 a3 (s : State), Within 940761110 s (writePal a0 a1 a2 a3 s) := by
  intro a0 a1 a2 a3 s
  unfold writePal
  repeat' first
    | with_reducible exact Within.refl _ _
    | assumption
    | ((with_reducible apply execRingWrite_next); rfl)
    | ((with_reducible apply writeEngCtrl_step); rfl)
    | ((with_reducible apply execRingStatusRead_next); rfl)
    | ((with_reducible apply execLaneRetireWrite_next); rfl)
    | ((with_reducible apply State.store_step); rfl)
    | ((with_reducible apply execRingRead_next); rfl)
    | (with_reducible apply State.after_step)
    | ((with_reducible apply Within.stepEach); intro _ _)
    | split
    | extract_lets
    | with_reducible intro _
    | with_reducible show Within _ _ (ite _ _ _)
    | ((with_reducible show Within _ _ (id _)); exact Within.refl _ _)
    | dsimp +zetaDelta only

theorem writePal_step {a0 : _} {a1 : _} {a2 : _} {a3 : _} {m : Nat} {r s : State} (c : 940761110 &&& m = 940761110) (h : Within m r s) :
    Within m r (writePal a0 a1 a2 a3 s) := Within.step (writePal_within a0 a1 a2 a3 s) c h

theorem writeReg_within : ∀ a0 a1 a2 a3 (s : State), Within 14998831103 s (writeReg a0 a1 a2 a3 s) := by
  intro a0 a1 a2 a3 s
  unfold writeReg
  repeat' first
    | with_reducible exact Within.refl _ _
    | assumption
    | ((with_reducible apply writeMem_step); rfl)
    | ((with_reducible apply writeOpt_step); rfl)
    | ((with_reducible apply writeHub_step); rfl)
    | ((with_reducible apply writeGlb_step); rfl)
    | ((with_reducible apply writeBuf_step); rfl)
    | ((with_reducible apply writeMct_step); rfl)
    | ((with_reducible apply writePl_step); rfl)
    | ((with_reducible apply writeTel_step); rfl)
    | ((with_reducible apply writePal_step); rfl)
    | (with_reducible apply State.after_step)
    | ((with_reducible apply Within.stepEach); intro _ _)
    | split
    | extract_lets
    | with_reducible intro _
    | with_reducible show Within _ _ (ite _ _ _)
    | ((with_reducible show Within _ _ (id _)); exact Within.refl _ _)
    | dsimp +zetaDelta only

theorem writeReg_step {a0 : _} {a1 : _} {a2 : _} {a3 : _} {m : Nat} {r s : State} (c : 14998831103 &&& m = 14998831103) (h : Within m r s) :
    Within m r (writeReg a0 a1 a2 a3 s) := Within.step (writeReg_within a0 a1 a2 a3 s) c h


/-! ## Machine/Flags.lean -/

theorem State.readAccess_within : ∀ (s : State) a1 a2, Within 5234491396 s (State.readAccess s a1 a2) := by
  intro s a1 a2
  unfold State.readAccess
  repeat' first
    | with_reducible exact Within.refl _ _
    | assumption
    | ((with_reducible apply State.accessEvent_step); rfl)
    | ((with_reducible apply State.emit_step); rfl)
    | ((with_reducible apply Within.stepEach); intro _ _)
    | split
    | extract_lets
    | with_reducible intro _
    | with_reducible show Within _ _ (ite _ _ _)
    | ((with_reducible show Within _ _ (id _)); exact Within.refl _ _)
    | dsimp +zetaDelta only

theorem State.readAccess_step {a1 : _} {a2 : _} {m : Nat} {r s : State} (c : 5234491396 &&& m = 5234491396) (h : Within m r s) :
    Within m r (State.readAccess s a1 a2) := Within.step (State.readAccess_within s a1 a2) c h

theorem State.writeAccess_within : ∀ (s : State) a1 a2 a3, Within 14998831103 s (State.writeAccess s a1 a2 a3) := by
  intro s a1 a2 a3
  unfold State.writeAccess
  repeat' first
    | with_reducible exact Within.refl _ _
    | assumption
    | ((with_reducible apply writeReg_step); rfl)
    | ((with_reducible apply State.accessEvent_step); rfl)
    | ((with_reducible apply Within.stepEach); intro _ _)
    | split
    | extract_lets
    | with_reducible intro _
    | with_reducible show Within _ _ (ite _ _ _)
    | ((with_reducible show Within _ _ (id _)); exact Within.refl _ _)
    | dsimp +zetaDelta only

theorem State.writeAccess_step {a1 : _} {a2 : _} {a3 : _} {m : Nat} {r s : State} (c : 14998831103 &&& m = 14998831103) (h : Within m r s) :
    Within m r (State.writeAccess s a1 a2 a3) := Within.step (State.writeAccess_within s a1 a2 a3) c h

theorem execRegisterWrite_within : ∀ a0 a1 a2 (s : State), WithinNext 14998831103 s (execRegisterWrite a0 a1 a2 s) := by
  intro a0 a1 a2 s
  unfold execRegisterWrite
  repeat' first
    | with_reducible exact Within.refl _ _
    | assumption
    | ((with_reducible apply State.writeAccess_step); rfl)
    | ((with_reducible apply State.readAccess_step); rfl)
    | with_reducible apply WithinNext.ok
    | exact WithinNext.fault _
    | ((with_reducible apply Within.stepEach); intro _ _)
    | split
    | extract_lets
    | with_reducible intro _
    | with_reducible show Within _ _ (ite _ _ _)
    | ((with_reducible show Within _ _ (id _)); exact Within.refl _ _)
    | dsimp +zetaDelta only

theorem execRegisterWrite_next {a0 : _} {a1 : _} {a2 : _} {m : Nat} {s : State} (c : 14998831103 &&& m = 14998831103) :
    WithinNext m s (execRegisterWrite a0 a1 a2 s) := WithinNext.mono (execRegisterWrite_within a0 a1 a2 s) c


/-! ## Machine/Idle.lean -/

theorem idle_within : ∀ (s : State), Within 7549747205 s (idle s) := by
  intro s
  unfold idle
  repeat' first
    | with_reducible exact Within.refl _ _
    | assumption
    | ((with_reducible apply State.alertStep_step); rfl)
    | ((with_reducible apply State.attribute_step); rfl)
    | ((with_reducible apply Within.stepEach); intro _ _)
    | split
    | extract_lets
    | ((fail_if_success with_reducible apply Within.upd_pending); (with_reducible apply Within.upd_clk); rfl)
    | with_reducible intro _
    | with_reducible show Within _ _ (ite _ _ _)
    | ((with_reducible show Within _ _ (id _)); exact Within.refl _ _)
    | dsimp +zetaDelta only
    | ((fail_if_success with_reducible apply Within.upd_pending); (with_reducible apply Within.upd_clk); rfl)

theorem idle_step  {m : Nat} {r s : State} (c : 7549747205 &&& m = 7549747205) (h : Within m r s) :
    Within m r (idle s) := Within.step (idle_within s) c h


/-! ## Machine/Dispatch.lean -/

theorem exec_within : ∀ a0 (s : State), WithinNext 17179869183 s (exec a0 s) := by
  intro a0 s
  unfold exec
  repeat' first
    | with_reducible exact Within.refl _ _
    | assumption
    | ((with_reducible apply execPortEnableWrite_next); rfl)
    | ((with_reducible apply execMstateRequest_next); rfl)
    | ((with_reducible apply execLaserFail_next); rfl)
    | ((with_reducible apply execCxlDeviceEvent_next); rfl)
    | ((with_reducible apply execHeldRelease_next); rfl)
    | ((with_reducible apply execImageCheckDone_next); rfl)
    | ((with_reducible apply execHbmScrub_next); rfl)
    | ((with_reducible apply execEngineScrubDone_next); rfl)
    | ((with_reducible apply execRingWrite_next); rfl)
    | ((with_reducible apply execPalRow_next); rfl)
    | ((with_reducible apply execMctWriteShadow_next); rfl)
    | ((with_reducible apply execHostImageGo_next); rfl)
    | ((with_reducible apply execPortDrainEnd_next); rfl)
    | ((with_reducible apply execSegmentTimeout_next); rfl)
    | ((with_reducible apply execCxlRemove_next); rfl)
    | ((with_reducible apply execPathMarkAckReceive_next); rfl)
    | ((with_reducible apply execAgeLimitExpiry_next); rfl)
    | ((with_reducible apply execFlashErase_next); rfl)
    | ((with_reducible apply execPageCopyDone_next); rfl)
    | ((with_reducible apply execHealthPinExpiry_next); rfl)
    | ((with_reducible apply execPalEnd_next); rfl)
    | ((with_reducible apply execStackRelocateDone_next); rfl)
    | ((with_reducible apply execEthReadActive_next); rfl)
    | ((with_reducible apply execMoveReadReturn_next); rfl)
    | ((with_reducible apply execMaintLockGrant_next); rfl)
    | ((with_reducible apply execDieLinkDown_next); rfl)
    | ((with_reducible apply execI3cGetbcr_next); rfl)
    | ((with_reducible apply execFwdReadShadow_next); rfl)
    | ((with_reducible apply execHostRingDisable_next); rfl)
    | ((with_reducible apply execShaperEligible_next); rfl)
    | ((with_reducible apply execPacketTail_next); rfl)
    | ((with_reducible apply execCxlPortTrained_next); rfl)
    | ((with_reducible apply execInterruptModerationExpiry_next); rfl)
    | ((with_reducible apply execEaselInterval_next); rfl)
    | ((with_reducible apply execEthReadEntry_next); rfl)
    | ((with_reducible apply execSnapshotLock_next); rfl)
    | ((with_reducible apply execSpillWriteConfirm_next); rfl)
    | ((with_reducible apply execHealthUnpin_next); rfl)
    | ((with_reducible apply execSpillMaxWrite_next); rfl)
    | ((with_reducible apply execEngineParkRequest_next); rfl)
    | ((with_reducible apply execDomainDrainEnd_next); rfl)
    | ((with_reducible apply execFwdReadActive_next); rfl)
    | ((with_reducible apply execOpticalOverload_next); rfl)
    | ((with_reducible apply execEthWriteEntry_next); rfl)
    | ((with_reducible apply execTrackerLingerExpiry_next); rfl)
    | ((with_reducible apply execEaselWeightUpdate_next); rfl)
    | ((with_reducible apply execSupplySample_next); rfl)
    | ((with_reducible apply execLcReadyReceive_next); rfl)
    | ((with_reducible apply execIsolationRelease_next); rfl)
    | ((with_reducible apply execHealthPin_next); rfl)
    | ((with_reducible apply execLaserTakeoverRequest_next); rfl)
    | ((with_reducible apply execMctReadActive_next); rfl)
    | ((with_reducible apply execOpticalLos_next); rfl)
    | ((with_reducible apply execHmemResponse_next); rfl)
    | ((with_reducible apply execHomeRequestReceive_next); rfl)
    | ((with_reducible apply execHeatHalving_next); rfl)
    | ((with_reducible apply execI3cEnec_next); rfl)
    | ((with_reducible apply execDomainResetRequest_next); rfl)
    | ((with_reducible apply execAuxRingEnable_next); rfl)
    | ((with_reducible apply execLaneRejoin_next); rfl)
    | ((with_reducible apply execUcodeLoadDone_next); rfl)
    | ((with_reducible apply execTrackerForget_next); rfl)
    | ((with_reducible apply execUcodeAnnounceTimeout_next); rfl)
    | ((with_reducible apply execPrismListenEnd_next); rfl)
    | ((with_reducible apply execFixGibWrite_next); rfl)
    | ((with_reducible apply execPageSetPin_next); rfl)
    | ((with_reducible apply execRingStatusRead_next); rfl)
    | ((with_reducible apply execI3cEntdaa_next); rfl)
    | ((with_reducible apply execTimePacketTimer_next); rfl)
    | ((with_reducible apply execTakeoverSwitch_next); rfl)
    | ((with_reducible apply execPathWeightWrite_next); rfl)
    | ((with_reducible apply execFwdWriteShadow_next); rfl)
    | ((with_reducible apply execMemRead_next); rfl)
    | ((with_reducible apply execResetNRelease_next); rfl)
    | ((with_reducible apply execLcIdentTimer_next); rfl)
    | ((with_reducible apply execAlertEnWrite_next); rfl)
    | ((with_reducible apply execLaneRetireWrite_next); rfl)
    | ((with_reducible apply execMarkTimeout_next); rfl)
    | ((with_reducible apply execFlashProgramDone_next); rfl)
    | ((with_reducible apply execBringupDone_next); rfl)
    | ((with_reducible apply execFlashProgram_next); rfl)
    | ((with_reducible apply execLaserRead_next); rfl)
    | ((with_reducible apply execPageAlloc_next); rfl)
    | ((with_reducible apply execLcWithdrawReceive_next); rfl)
    | ((with_reducible apply execLcIdentReceive_next); rfl)
    | ((with_reducible apply execPtpMessageReceive_next); rfl)
    | ((with_reducible apply execFenceTimeout_next); rfl)
    | ((with_reducible apply execPageRead_next); rfl)
    | ((with_reducible apply execI3cRstdaa_next); rfl)
    | ((with_reducible apply execHomeRequestPerform_next); rfl)
    | ((with_reducible apply execSnapshotUnlock_next); rfl)
    | ((with_reducible apply execFwdCommit_next); rfl)
    | ((with_reducible apply execUcodeUpdate_next); rfl)
    | ((with_reducible apply execDescriptorFetch_next); rfl)
    | ((with_reducible apply execPatWriteShadow_next); rfl)
    | ((with_reducible apply execHostLinkUp_next); rfl)
    | ((with_reducible apply execPtpMessageTimer_next); rfl)
    | ((with_reducible apply execHeaderArrival_next); rfl)
    | ((with_reducible apply execCnvWriteShadow_next); rfl)
    | ((with_reducible apply execPacketAdmitRetry_next); rfl)
    | ((with_reducible apply execRequestTimerExpiry_next); rfl)
    | ((with_reducible apply execBootBackoffExpiry_next); rfl)
    | ((with_reducible apply execChildResultTimeout_next); rfl)
    | ((with_reducible apply execBankWriteRetry_next); rfl)
    | ((with_reducible apply execCxlPortEnable_next); rfl)
    | ((with_reducible apply execBatchFolded_next); rfl)
    | ((with_reducible apply execPalElem_next); rfl)
    | ((with_reducible apply execSnapshotRequest_next); rfl)
    | ((with_reducible apply execPhaseMarkReceive_next); rfl)
    | ((with_reducible apply execHealthActionStart_next); rfl)
    | ((with_reducible apply execThermalSample_next); rfl)
    | ((with_reducible apply execResetNAssert_next); rfl)
    | ((with_reducible apply execCnvReadShadow_next); rfl)
    | ((with_reducible apply execLineFill_next); rfl)
    | ((with_reducible apply execGovernorStep_next); rfl)
    | ((with_reducible apply execTimeMeasurement_next); rfl)
    | ((with_reducible apply execPeerSilenceTimeout_next); rfl)
    | ((with_reducible apply execEpochReached_next); rfl)
    | ((with_reducible apply execEngineFault_next); rfl)
    | ((with_reducible apply execRecoverCopyDone_next); rfl)
    | ((with_reducible apply execRequestRetry_next); rfl)
    | ((with_reducible apply execDoorbellRead_next); rfl)
    | ((with_reducible apply execTimeSet_next); rfl)
    | ((with_reducible apply execStackFail_next); rfl)
    | ((with_reducible apply execEthFrameReceive_next); rfl)
    | ((with_reducible apply execEngineUnpark_next); rfl)
    | ((with_reducible apply execFlitLock_next); rfl)
    | ((with_reducible apply execPatReadShadow_next); rfl)
    | ((with_reducible apply execPrismGuardWrite_next); rfl)
    | ((with_reducible apply execOpticalLosClear_next); rfl)
    | ((with_reducible apply execI3cGetpid_next); rfl)
    | ((with_reducible apply execTxPacket_next); rfl)
    | ((with_reducible apply execFenceComplete_next); rfl)
    | ((with_reducible apply execCnvForce_next); rfl)
    | ((with_reducible apply execSlotStart_next); rfl)
    | ((with_reducible apply execSecRaiseMinSvn_next); rfl)
    | ((with_reducible apply execPalNotify_next); rfl)
    | ((with_reducible apply execI3cGetstatus_next); rfl)
    | ((with_reducible apply execHostRingEnable_next); rfl)
    | ((with_reducible apply execDieLinkRetrain_next); rfl)
    | ((with_reducible apply execWheelOverflowRescan_next); rfl)
    | ((with_reducible apply execMacAgeingScan_next); rfl)
    | ((with_reducible apply execTrainingStepTimeout_next); rfl)
    | ((with_reducible apply execWindowRead_next); rfl)
    | ((with_reducible apply execStackRetireRequest_next); rfl)
    | ((with_reducible apply execI3cGetdcr_next); rfl)
    | ((with_reducible apply execCxlRetrainTick_next); rfl)
    | ((with_reducible apply execPlaneRetuneEnd_next); rfl)
    | ((with_reducible apply execLaneLock_next); rfl)
    | ((with_reducible apply execDoorbellPageReturn_next); rfl)
    | ((with_reducible apply execContextFreed_next); rfl)
    | ((with_reducible apply execPageFree_next); rfl)
    | ((with_reducible apply execI3cSetdasa_next); rfl)
    | ((with_reducible apply execLaneGroupSwap_next); rfl)
    | ((with_reducible apply execDroopDetect_next); rfl)
    | ((with_reducible apply execBootRecordClear_next); rfl)
    | ((with_reducible apply execPalBegin_next); rfl)
    | ((with_reducible apply execPortRetrain_next); rfl)
    | ((with_reducible apply execOverloadClear_next); rfl)
    | ((with_reducible apply execMemAtomic_next); rfl)
    | ((with_reducible apply execCnvReadStatus_next); rfl)
    | ((with_reducible apply execNudgeReceive_next); rfl)
    | ((with_reducible apply execLaneFail_next); rfl)
    | ((with_reducible apply execPpsEdge_next); rfl)
    | ((with_reducible apply execCanvasIngestRetry_next); rfl)
    | ((with_reducible apply execPatReadActive_next); rfl)
    | ((with_reducible apply execM3WakeTimer_next); rfl)
    | ((with_reducible apply execRampStep_next); rfl)
    | ((with_reducible apply execPalFence_next); rfl)
    | ((with_reducible apply execPalConvert_next); rfl)
    | ((with_reducible apply execListAdmit_next); rfl)
    | ((with_reducible apply execPalCkpt_next); rfl)
    | ((with_reducible apply execHostNop_next); rfl)
    | ((with_reducible apply execRateLimitRecover_next); rfl)
    | ((with_reducible apply execPalNop_next); rfl)
    | ((with_reducible apply execPolicerBucketWrite_next); rfl)
    | ((with_reducible apply execI3cDisec_next); rfl)
    | ((with_reducible apply execEgressSchedule_next); rfl)
    | ((with_reducible apply execCreditAnnounce_next); rfl)
    | ((with_reducible apply execTb0Realign_next); rfl)
    | ((with_reducible apply execBatchWaitExpiry_next); rfl)
    | ((with_reducible apply execResponseReceive_next); rfl)
    | ((with_reducible apply execReservationWrite_next); rfl)
    | ((with_reducible apply execSettleExpiry_next); rfl)
    | ((with_reducible apply execColdReset_next); rfl)
    | ((with_reducible apply execFirmwareWatchdog_next); rfl)
    | ((with_reducible apply execPathMarkAckSend_next); rfl)
    | ((with_reducible apply execMemWrite_next); rfl)
    | ((with_reducible apply execDoorbellPollTimer_next); rfl)
    | ((with_reducible apply execDomainRetention_next); rfl)
    | ((with_reducible apply execSpareWarmDone_next); rfl)
    | ((with_reducible apply execSnapshotTarget_next); rfl)
    | ((with_reducible apply execDomainOnDone_next); rfl)
    | ((with_reducible apply execDomainOn_next); rfl)
    | ((with_reducible apply execOpticalPowerWarning_next); rfl)
    | ((with_reducible apply execPortDrain_next); rfl)
    | ((with_reducible apply execLinkSilenceTimeout_next); rfl)
    | ((with_reducible apply execHostLinkDown_next); rfl)
    | ((with_reducible apply execEngineResume_next); rfl)
    | ((with_reducible apply execEnergyWindowStart_next); rfl)
    | ((with_reducible apply execSecBurnOwnerHash_next); rfl)
    | ((with_reducible apply execAttestReadEntry_next); rfl)
    | ((with_reducible apply execNopathTimeout_next); rfl)
    | ((with_reducible apply execPalXlane_next); rfl)
    | ((with_reducible apply execPalMove_next); rfl)
    | ((with_reducible apply execI3cWake_next); rfl)
    | ((with_reducible apply execRingRead_next); rfl)
    | ((with_reducible apply execDroopRelease_next); rfl)
    | ((with_reducible apply execControlFlitReceive_next); rfl)
    | ((with_reducible apply execFabricIdWrite_next); rfl)
    | ((with_reducible apply execRegisterWrite_next); rfl)
    | ((with_reducible apply execThermalHoldEnd_next); rfl)
    | ((with_reducible apply execPathMarkReceive_next); rfl)
    | ((with_reducible apply execLaneMaskWrite_next); rfl)
    | ((with_reducible apply execKeepExpiry_next); rfl)
    | ((with_reducible apply execShadowCopyDone_next); rfl)
    | ((with_reducible apply execHeaderLookup_next); rfl)
    | ((with_reducible apply execRxPost_next); rfl)
    | ((with_reducible apply execFlitReceive_next); rfl)
    | ((with_reducible apply execSupplyLogClear_next); rfl)
    | ((with_reducible apply execReplicaAdmitRetry_next); rfl)
    | ((with_reducible apply execLaserAgeingTick_next); rfl)
    | ((with_reducible apply execHealthRead_next); rfl)
    | ((with_reducible apply execMoveWritePerformed_next); rfl)
    | ((with_reducible apply execShaperWrite_next); rfl)
    | ((with_reducible apply execDepthRefresh_next); rfl)
    | ((with_reducible apply execAttestReport_next); rfl)
    | ((with_reducible apply execSegmentEncodeDone_next); rfl)
    | ((with_reducible apply execStackDemoteDone_next); rfl)
    | ((with_reducible apply execTimeSourceTimeout_next); rfl)
    | ((with_reducible apply execWatchdogExpiry_next); rfl)
    | ((with_reducible apply execHeldReleaseDest_next); rfl)
    | ((with_reducible apply execAckTimeout_next); rfl)
    | ((with_reducible apply execEaselRebalance_next); rfl)
    | ((with_reducible apply execPatternApply_next); rfl)
    | ((with_reducible apply execPortUndrain_next); rfl)
    | ((with_reducible apply execHostBootTimeout_next); rfl)
    | ((with_reducible apply execCombiningLineExpiry_next); rfl)
    | ((with_reducible apply execWarmResetRequest_next); rfl)
    | ((with_reducible apply execWithdrawalDrainEnd_next); rfl)
    | ((with_reducible apply execSegmentAreaGrant_next); rfl)
    | ((with_reducible apply execSnapshotLockExpiry_next); rfl)
    | ((with_reducible apply execCxlPortFail_next); rfl)
    | ((with_reducible apply execSnapshotComplete_next); rfl)
    | ((with_reducible apply execNotifyResponse_next); rfl)
    | ((with_reducible apply execCxlRemoveDone_next); rfl)
    | ((with_reducible apply execMcastReplicate_next); rfl)
    | ((with_reducible apply execEngineResetDone_next); rfl)
    | ((with_reducible apply execEventDeliver_next); rfl)
    | ((with_reducible apply execMarkThresholdWrite_next); rfl)
    | ((with_reducible apply execContribReceive_next); rfl)
    | ((with_reducible apply execSpillBlockWrite_next); rfl)
    | ((with_reducible apply execDomainOff_next); rfl)
    | ((with_reducible apply execEngineOfflineRequest_next); rfl)
    | ((with_reducible apply execWindowWrite_next); rfl)
    | ((with_reducible apply execQueueHwmClear_next); rfl)
    | ((with_reducible apply execFixWindowMapped_next); rfl)
    | ((with_reducible apply execCanvasBatchAdmit_next); rfl)
    | ((with_reducible apply execTrackerAllocate_next); rfl)
    | ((with_reducible apply execAttestWritePubkey_next); rfl)
    | ((with_reducible apply execSpillBlockReturn_next); rfl)
    | ((with_reducible apply execDiscoverReceive_next); rfl)
    | ((with_reducible apply execMctReadShadow_next); rfl)
    | ((with_reducible apply execShedRelease_next); rfl)
    | ((with_reducible apply execPortReset_next); rfl)
    | ((with_reducible apply execCnvReadActive_next); rfl)
    | ((with_reducible apply execHeldRead_next); rfl)
    | ((with_reducible apply execHealthEvaluate_next); rfl)
    | ((with_reducible apply execAttestReportDone_next); rfl)
    | ((with_reducible apply execTrainingRestExpiry_next); rfl)
    | with_reducible apply WithinNext.ok
    | exact WithinNext.fault _
    | ((with_reducible apply Within.stepEach); intro _ _)
    | split
    | extract_lets
    | with_reducible intro _
    | with_reducible show Within _ _ (ite _ _ _)
    | ((with_reducible show Within _ _ (id _)); exact Within.refl _ _)
    | dsimp +zetaDelta only

theorem exec_next {a0 : _} {m : Nat} {s : State} (c : 17179869183 &&& m = 17179869183) :
    WithinNext m s (exec a0 s) := WithinNext.mono (exec_within a0 s) c


/-! ## Machine/Step.lean -/

end Sys2Proof.Machine
end

