-- ==== Sys2Proof/Laws/Table.lean ====
section
/-!
SUPPORT. The laws of the sparse tables: what is read after a write, and that every way of changing a table keeps its
canonical form.
-/
namespace Sys2Proof.Machine

section
variable {α : Type} {d : Nat → α}

/-! ## Reading after writing -/

@[simp] theorem Tbl.get_nil (k : Nat) : Tbl.get d [] k = d k := rfl

theorem Tbl.get_insert_self (t : Tbl α) (k : Nat) (x : α) : Tbl.get d (Tbl.insert t k x) k = x := by
  induction t with
  | nil => simp [Tbl.insert, Tbl.get]
  | cons p t ih =>
    obtain ⟨j, v⟩ := p
    simp only [Tbl.insert]
    split
    · simp [Tbl.get]
    · split
      · simp [Tbl.get]
      · rename_i h1 h2
        simp [Tbl.get, h1, h2, ih]

theorem Tbl.get_insert_ne (t : Tbl α) {k j : Nat} (x : α) (h : j ≠ k) :
    Tbl.get d (Tbl.insert t k x) j = Tbl.get d t j := by
  induction t with
  | nil =>
    simp only [Tbl.insert, Tbl.get]
    rw [if_neg (Ne.symm h), ite_self]
  | cons p t ih =>
    obtain ⟨i, v⟩ := p
    simp only [Tbl.insert]
    by_cases h1 : i = k
    · subst h1
      rw [if_pos rfl]
      simp [Tbl.get, Ne.symm h]
    · rw [if_neg h1]
      by_cases h2 : k < i
      · rw [if_pos h2]
        simp only [Tbl.get]
        rw [if_neg (Ne.symm h)]
        by_cases h3 : j < k
        · rw [if_pos h3, if_neg (by omega), if_pos (by omega)]
        · rw [if_neg h3]
      · rw [if_neg h2]
        simp only [Tbl.get, ih]

variable [DecidableEq α]

/-- Above a bound, a canonical table lists only larger keys. -/
theorem Tbl.get_of_wfFrom_le {lo k : Nat} : ∀ {t : Tbl α}, Tbl.wfFrom d (some lo) t = true → k ≤ lo → Tbl.get d t k = d k
  | [], _, _ => rfl
  | (j, v) :: t, h, hk => by
    simp only [Tbl.wfFrom, Bool.and_eq_true, decide_eq_true_eq] at h
    simp only [Tbl.get]
    rw [if_neg (by omega), if_pos (by omega)]

theorem Tbl.wfFrom_mono {t : Tbl α} {lo : Option Nat} {b : Nat} (h : Tbl.wfFrom d (some b) t = true)
    (hb : ∀ l, lo = some l → l ≤ b) : Tbl.wfFrom d lo t = true := by
  cases t with
  | nil => rfl
  | cons p t =>
    obtain ⟨j, v⟩ := p
    simp only [Tbl.wfFrom, Bool.and_eq_true, decide_eq_true_eq] at h ⊢
    refine ⟨⟨?_, h.1.2⟩, h.2⟩
    cases lo with
    | none => rfl
    | some l => have := hb l rfl; simp; omega

theorem Tbl.get_erase {lo : Option Nat} {k j : Nat} : ∀ {t : Tbl α}, Tbl.wfFrom d lo t = true →
    Tbl.get d (Tbl.erase t k) j = if j = k then d k else Tbl.get d t j
  | [], _ => by
    simp only [Tbl.erase, Tbl.get]
    split
    · rename_i e; rw [e]
    · rfl
  | (i, v) :: t, h => by
    simp only [Tbl.wfFrom, Bool.and_eq_true] at h
    simp only [Tbl.erase]
    by_cases h1 : i = k
    · subst h1
      rw [if_pos rfl]
      by_cases h2 : j = i
      · rw [if_pos h2, h2, Tbl.get_of_wfFrom_le h.2 (Nat.le_refl _)]
      · rw [if_neg h2]
        simp only [Tbl.get]
        rw [if_neg (Ne.symm h2)]
        by_cases h3 : j < i
        · rw [if_pos h3, Tbl.get_of_wfFrom_le h.2 (by omega)]
        · rw [if_neg h3]
    · rw [if_neg h1]
      by_cases h2 : k < i
      · rw [if_pos h2]
        by_cases h3 : j = k
        · subst h3
          simp only [Tbl.get]
          simp [h1, h2]
        · rw [if_neg h3]
      · rw [if_neg h2]
        simp only [Tbl.get, Tbl.get_erase h.2]
        by_cases h3 : j = k
        · subst h3
          simp [h1, h2]
        · simp [h3]

/-- What a table reads after a write. -/
theorem Tbl.get_put {t : Tbl α} (h : Tbl.wf d t = true) (k j : Nat) (x : α) :
    Tbl.get d (Tbl.put d t k x) j = if j = k then x else Tbl.get d t j := by
  unfold Tbl.put
  split
  · rename_i e
    rw [Tbl.get_erase h, e]
  · split
    · rename_i e
      rw [e, Tbl.get_insert_self]
    · rename_i e
      rw [Tbl.get_insert_ne _ _ e]

theorem Tbl.get_put_self {t : Tbl α} (h : Tbl.wf d t = true) (k : Nat) (x : α) : Tbl.get d (Tbl.put d t k x) k = x := by
  rw [Tbl.get_put h, if_pos rfl]

theorem Tbl.get_put_ne {t : Tbl α} (h : Tbl.wf d t = true) {k j : Nat} (x : α) (n : j ≠ k) :
    Tbl.get d (Tbl.put d t k x) j = Tbl.get d t j := by
  rw [Tbl.get_put h, if_neg n]

/-- Writing anything but the default is read back from any table. -/
theorem Tbl.get_put_of_ne_default (t : Tbl α) (k : Nat) {x : α} (h : x ≠ d k) : Tbl.get d (Tbl.put d t k x) k = x := by
  unfold Tbl.put
  rw [if_neg h, Tbl.get_insert_self]

/-! ## The canonical form is kept -/

/-- A bound that lies below a key. -/
def boundBelow (lo : Option Nat) (k : Nat) : Bool := match lo with | none => true | some l => decide (l < k)

theorem Tbl.wfFrom_cons {lo : Option Nat} {k : Nat} {x : α} {t : Tbl α} :
    Tbl.wfFrom d lo ((k, x) :: t) = true ↔ boundBelow lo k = true ∧ x ≠ d k ∧ Tbl.wfFrom d (some k) t = true := by
  simp only [Tbl.wfFrom, Bool.and_eq_true, decide_eq_true_eq, and_assoc]
  cases lo <;> rfl

theorem Tbl.wfFrom_insert {k : Nat} {x : α} (hx : x ≠ d k) : ∀ {t : Tbl α} {lo : Option Nat},
    Tbl.wfFrom d lo t = true → boundBelow lo k = true → Tbl.wfFrom d lo (Tbl.insert t k x) = true
  | [], lo, _, hl => Tbl.wfFrom_cons.mpr ⟨hl, hx, rfl⟩
  | (i, v) :: t, lo, h, hl => by
    have g := Tbl.wfFrom_cons.mp h
    simp only [Tbl.insert]
    by_cases h1 : i = k
    · rw [if_pos h1]
      exact Tbl.wfFrom_cons.mpr ⟨hl, hx, h1 ▸ g.2.2⟩
    · rw [if_neg h1]
      by_cases h2 : k < i
      · rw [if_pos h2]
        exact Tbl.wfFrom_cons.mpr ⟨hl, hx, Tbl.wfFrom_cons.mpr ⟨by simpa [boundBelow] using h2, g.2⟩⟩
      · rw [if_neg h2]
        exact Tbl.wfFrom_cons.mpr ⟨g.1, g.2.1, Tbl.wfFrom_insert hx g.2.2 (by simp [boundBelow]; omega)⟩

theorem Tbl.wfFrom_erase {k : Nat} : ∀ {t : Tbl α} {lo : Option Nat},
    Tbl.wfFrom d lo t = true → Tbl.wfFrom d lo (Tbl.erase t k) = true
  | [], _, _ => rfl
  | (i, v) :: t, lo, h => by
    have h' := h
    simp only [Tbl.wfFrom, Bool.and_eq_true, decide_eq_true_eq] at h
    simp only [Tbl.erase]
    split
    · refine Tbl.wfFrom_mono h.2 (fun l e => ?_)
      subst e
      have := h.1.1
      simp at this
      omega
    · split
      · exact h'
      · simp only [Tbl.wfFrom, Bool.and_eq_true, decide_eq_true_eq]
        exact ⟨h.1, Tbl.wfFrom_erase h.2⟩

/-- Writing keeps the canonical form. -/
theorem Tbl.wf_put {t : Tbl α} (h : Tbl.wf d t = true) (k : Nat) (x : α) : Tbl.wf d (Tbl.put d t k x) = true := by
  unfold Tbl.put
  split
  · exact Tbl.wfFrom_erase h
  · rename_i e
    exact Tbl.wfFrom_insert e h rfl

theorem Tbl.wf_upd {t : Tbl α} (h : Tbl.wf d t = true) (k : Nat) (f : α → α) : Tbl.wf d (Tbl.upd d t k f) = true :=
  Tbl.wf_put h k _

theorem Tbl.wf_remap (f : α → α) : ∀ t : Tbl α, Tbl.wf d (Tbl.remap d f t) = true
  | [] => rfl
  | x :: t => Tbl.wf_put (Tbl.wf_remap f t) x.1 (f x.2)

theorem Tbl.wf_putRun {t : Tbl α} (h : Tbl.wf d t = true) : ∀ (xs : List α) (k : Nat), Tbl.wf d (Tbl.putRun d t k xs) = true := by
  intro xs
  induction xs generalizing t with
  | nil => intro _; exact h
  | cons x xs ih => intro k; exact ih (Tbl.wf_put h k x) (k + 1)

/-- Dropping entries keeps the canonical form. -/
theorem Tbl.wfFrom_filter (p : Nat × α → Bool) : ∀ {t : Tbl α} {lo : Option Nat},
    Tbl.wfFrom d lo t = true → Tbl.wfFrom d lo (t.filter p) = true
  | [], _, _ => rfl
  | (i, v) :: t, lo, h => by
    simp only [Tbl.wfFrom, Bool.and_eq_true, decide_eq_true_eq] at h
    simp only [List.filter_cons]
    split
    · simp only [Tbl.wfFrom, Bool.and_eq_true, decide_eq_true_eq]
      exact ⟨h.1, Tbl.wfFrom_filter p h.2⟩
    · refine Tbl.wfFrom_mono (Tbl.wfFrom_filter p h.2) (fun l e => ?_)
      subst e
      have := h.1.1
      simp at this
      omega

theorem Tbl.wf_filter {t : Tbl α} (h : Tbl.wf d t = true) (p : Nat × α → Bool) : Tbl.wf d (t.filter p) = true :=
  Tbl.wfFrom_filter p h

/-- A fold of writes keeps the canonical form. -/
theorem Tbl.wf_foldl {β : Type} {f : Tbl α → β → Tbl α} (hf : ∀ t x, Tbl.wf d t = true → Tbl.wf d (f t x) = true) :
    ∀ (l : List β) {t : Tbl α}, Tbl.wf d t = true → Tbl.wf d (l.foldl f t) = true
  | [], _, h => h
  | x :: l, _, h => Tbl.wf_foldl hf l (hf _ x h)

/-- What a canonical table reads after a run of writes. -/
theorem Tbl.get_putRun {t : Tbl α} (h : Tbl.wf d t = true) : ∀ (xs : List α) (k j : Nat),
    Tbl.get d (Tbl.putRun d t k xs) j = if k ≤ j ∧ j < k + xs.length then xs.getD (j - k) (d j) else Tbl.get d t j := by
  intro xs
  induction xs generalizing t with
  | nil => intro k j; rw [if_neg (by simp only [List.length_nil]; omega)]; rfl
  | cons x xs ih =>
    intro k j
    show Tbl.get d (Tbl.putRun d (Tbl.put d t k x) (k + 1) xs) j = _
    rw [ih (Tbl.wf_put h k x), Tbl.get_put h]
    by_cases h1 : j = k
    · subst h1
      rw [if_neg (by omega), if_pos rfl, if_pos (by simp only [List.length_cons]; omega)]
      simp
    · rw [if_neg h1]
      by_cases h2 : k + 1 ≤ j ∧ j < k + 1 + xs.length
      · rw [if_pos h2, if_pos (by simp only [List.length_cons]; omega)]
        obtain ⟨n, rfl⟩ : ∃ n, j = k + 1 + n := ⟨j - (k + 1), by omega⟩
        rw [show k + 1 + n - (k + 1) = n by omega, show k + 1 + n - k = n + 1 by omega]
        rfl
      · rw [if_neg h2, if_neg (by simp only [List.length_cons]; omega)]

end

end Sys2Proof.Machine
end

