-- ==== Sys2Proof/Laws/State.lean ====
section
/-!
SUPPORT. Laws of the plain updates of the state: one lemma per field per update, and what a register, a counter, a
port, a link, a peer, a plane or a crossing reads after a write.
-/
namespace Sys2Proof.Machine

variable (s : State)

/-! ### wr -/

@[simp] theorem State.wr_clk (off : Nat) (w : Word) : (s.wr off w).clk = s.clk := rfl
@[simp] theorem State.wr_cnt (off : Nat) (w : Word) : (s.wr off w).cnt = s.cnt := rfl
@[simp] theorem State.wr_dom (off : Nat) (w : Word) : (s.wr off w).dom = s.dom := rfl
@[simp] theorem State.wr_dp (off : Nat) (w : Word) : (s.wr off w).dp = s.dp := rfl
@[simp] theorem State.wr_tab (off : Nat) (w : Word) : (s.wr off w).tab = s.tab := rfl
@[simp] theorem State.wr_sched (off : Nat) (w : Word) : (s.wr off w).sched = s.sched := rfl
@[simp] theorem State.wr_ports (off : Nat) (w : Word) : (s.wr off w).ports = s.ports := rfl
@[simp] theorem State.wr_links (off : Nat) (w : Word) : (s.wr off w).links = s.links := rfl
@[simp] theorem State.wr_peers (off : Nat) (w : Word) : (s.wr off w).peers = s.peers := rfl
@[simp] theorem State.wr_planes (off : Nat) (w : Word) : (s.wr off w).planes = s.planes := rfl
@[simp] theorem State.wr_prism (off : Nat) (w : Word) : (s.wr off w).prism = s.prism := rfl
@[simp] theorem State.wr_optics (off : Nat) (w : Word) : (s.wr off w).optics = s.optics := rfl
@[simp] theorem State.wr_canvas (off : Nat) (w : Word) : (s.wr off w).canvas = s.canvas := rfl
@[simp] theorem State.wr_pal (off : Nat) (w : Word) : (s.wr off w).pal = s.pal := rfl
@[simp] theorem State.wr_homes (off : Nat) (w : Word) : (s.wr off w).homes = s.homes := rfl
@[simp] theorem State.wr_req (off : Nat) (w : Word) : (s.wr off w).req = s.req := rfl
@[simp] theorem State.wr_mem (off : Nat) (w : Word) : (s.wr off w).mem = s.mem := rfl
@[simp] theorem State.wr_timing (off : Nat) (w : Word) : (s.wr off w).timing = s.timing := rfl
@[simp] theorem State.wr_host (off : Nat) (w : Word) : (s.wr off w).host = s.host := rfl
@[simp] theorem State.wr_maint (off : Nat) (w : Word) : (s.wr off w).maint = s.maint := rfl
@[simp] theorem State.wr_pwr (off : Nat) (w : Word) : (s.wr off w).pwr = s.pwr := rfl
@[simp] theorem State.wr_macs (off : Nat) (w : Word) : (s.wr off w).macs = s.macs := rfl
@[simp] theorem State.wr_tel (off : Nat) (w : Word) : (s.wr off w).tel = s.tel := rfl
@[simp] theorem State.wr_boot (off : Nat) (w : Word) : (s.wr off w).boot = s.boot := rfl
@[simp] theorem State.wr_i3c (off : Nat) (w : Word) : (s.wr off w).i3c = s.i3c := rfl
@[simp] theorem State.wr_wd (off : Nat) (w : Word) : (s.wr off w).wd = s.wd := rfl
@[simp] theorem State.wr_evq (off : Nat) (w : Word) : (s.wr off w).evq = s.evq := rfl
@[simp] theorem State.wr_evLost (off : Nat) (w : Word) : (s.wr off w).evLost = s.evLost := rfl
@[simp] theorem State.wr_evLostOff (off : Nat) (w : Word) : (s.wr off w).evLostOff = s.evLostOff := rfl
@[simp] theorem State.wr_xings (off : Nat) (w : Word) : (s.wr off w).xings = s.xings := rfl
@[simp] theorem State.wr_cyc (off : Nat) (w : Word) : (s.wr off w).cyc = s.cyc := rfl
@[simp] theorem State.wr_out (off : Nat) (w : Word) : (s.wr off w).out = s.out := rfl
@[simp] theorem State.wr_free (off : Nat) (w : Word) : (s.wr off w).free = s.free := rfl
@[simp] theorem State.wr_pending (off : Nat) (w : Word) : (s.wr off w).pending = s.pending := rfl

/-! ### setF -/

@[simp] theorem State.setF_clk (off hi lo v : Nat) : (s.setF off hi lo v).clk = s.clk := rfl
@[simp] theorem State.setF_cnt (off hi lo v : Nat) : (s.setF off hi lo v).cnt = s.cnt := rfl
@[simp] theorem State.setF_dom (off hi lo v : Nat) : (s.setF off hi lo v).dom = s.dom := rfl
@[simp] theorem State.setF_dp (off hi lo v : Nat) : (s.setF off hi lo v).dp = s.dp := rfl
@[simp] theorem State.setF_tab (off hi lo v : Nat) : (s.setF off hi lo v).tab = s.tab := rfl
@[simp] theorem State.setF_sched (off hi lo v : Nat) : (s.setF off hi lo v).sched = s.sched := rfl
@[simp] theorem State.setF_ports (off hi lo v : Nat) : (s.setF off hi lo v).ports = s.ports := rfl
@[simp] theorem State.setF_links (off hi lo v : Nat) : (s.setF off hi lo v).links = s.links := rfl
@[simp] theorem State.setF_peers (off hi lo v : Nat) : (s.setF off hi lo v).peers = s.peers := rfl
@[simp] theorem State.setF_planes (off hi lo v : Nat) : (s.setF off hi lo v).planes = s.planes := rfl
@[simp] theorem State.setF_prism (off hi lo v : Nat) : (s.setF off hi lo v).prism = s.prism := rfl
@[simp] theorem State.setF_optics (off hi lo v : Nat) : (s.setF off hi lo v).optics = s.optics := rfl
@[simp] theorem State.setF_canvas (off hi lo v : Nat) : (s.setF off hi lo v).canvas = s.canvas := rfl
@[simp] theorem State.setF_pal (off hi lo v : Nat) : (s.setF off hi lo v).pal = s.pal := rfl
@[simp] theorem State.setF_homes (off hi lo v : Nat) : (s.setF off hi lo v).homes = s.homes := rfl
@[simp] theorem State.setF_req (off hi lo v : Nat) : (s.setF off hi lo v).req = s.req := rfl
@[simp] theorem State.setF_mem (off hi lo v : Nat) : (s.setF off hi lo v).mem = s.mem := rfl
@[simp] theorem State.setF_timing (off hi lo v : Nat) : (s.setF off hi lo v).timing = s.timing := rfl
@[simp] theorem State.setF_host (off hi lo v : Nat) : (s.setF off hi lo v).host = s.host := rfl
@[simp] theorem State.setF_maint (off hi lo v : Nat) : (s.setF off hi lo v).maint = s.maint := rfl
@[simp] theorem State.setF_pwr (off hi lo v : Nat) : (s.setF off hi lo v).pwr = s.pwr := rfl
@[simp] theorem State.setF_macs (off hi lo v : Nat) : (s.setF off hi lo v).macs = s.macs := rfl
@[simp] theorem State.setF_tel (off hi lo v : Nat) : (s.setF off hi lo v).tel = s.tel := rfl
@[simp] theorem State.setF_boot (off hi lo v : Nat) : (s.setF off hi lo v).boot = s.boot := rfl
@[simp] theorem State.setF_i3c (off hi lo v : Nat) : (s.setF off hi lo v).i3c = s.i3c := rfl
@[simp] theorem State.setF_wd (off hi lo v : Nat) : (s.setF off hi lo v).wd = s.wd := rfl
@[simp] theorem State.setF_evq (off hi lo v : Nat) : (s.setF off hi lo v).evq = s.evq := rfl
@[simp] theorem State.setF_evLost (off hi lo v : Nat) : (s.setF off hi lo v).evLost = s.evLost := rfl
@[simp] theorem State.setF_evLostOff (off hi lo v : Nat) : (s.setF off hi lo v).evLostOff = s.evLostOff := rfl
@[simp] theorem State.setF_xings (off hi lo v : Nat) : (s.setF off hi lo v).xings = s.xings := rfl
@[simp] theorem State.setF_cyc (off hi lo v : Nat) : (s.setF off hi lo v).cyc = s.cyc := rfl
@[simp] theorem State.setF_out (off hi lo v : Nat) : (s.setF off hi lo v).out = s.out := rfl
@[simp] theorem State.setF_free (off hi lo v : Nat) : (s.setF off hi lo v).free = s.free := rfl
@[simp] theorem State.setF_pending (off hi lo v : Nat) : (s.setF off hi lo v).pending = s.pending := rfl

/-! ### wrWords -/

@[simp] theorem State.wrWords_clk (off : Nat) (ws : List Word) : (s.wrWords off ws).clk = s.clk := rfl
@[simp] theorem State.wrWords_cnt (off : Nat) (ws : List Word) : (s.wrWords off ws).cnt = s.cnt := rfl
@[simp] theorem State.wrWords_dom (off : Nat) (ws : List Word) : (s.wrWords off ws).dom = s.dom := rfl
@[simp] theorem State.wrWords_dp (off : Nat) (ws : List Word) : (s.wrWords off ws).dp = s.dp := rfl
@[simp] theorem State.wrWords_tab (off : Nat) (ws : List Word) : (s.wrWords off ws).tab = s.tab := rfl
@[simp] theorem State.wrWords_sched (off : Nat) (ws : List Word) : (s.wrWords off ws).sched = s.sched := rfl
@[simp] theorem State.wrWords_ports (off : Nat) (ws : List Word) : (s.wrWords off ws).ports = s.ports := rfl
@[simp] theorem State.wrWords_links (off : Nat) (ws : List Word) : (s.wrWords off ws).links = s.links := rfl
@[simp] theorem State.wrWords_peers (off : Nat) (ws : List Word) : (s.wrWords off ws).peers = s.peers := rfl
@[simp] theorem State.wrWords_planes (off : Nat) (ws : List Word) : (s.wrWords off ws).planes = s.planes := rfl
@[simp] theorem State.wrWords_prism (off : Nat) (ws : List Word) : (s.wrWords off ws).prism = s.prism := rfl
@[simp] theorem State.wrWords_optics (off : Nat) (ws : List Word) : (s.wrWords off ws).optics = s.optics := rfl
@[simp] theorem State.wrWords_canvas (off : Nat) (ws : List Word) : (s.wrWords off ws).canvas = s.canvas := rfl
@[simp] theorem State.wrWords_pal (off : Nat) (ws : List Word) : (s.wrWords off ws).pal = s.pal := rfl
@[simp] theorem State.wrWords_homes (off : Nat) (ws : List Word) : (s.wrWords off ws).homes = s.homes := rfl
@[simp] theorem State.wrWords_req (off : Nat) (ws : List Word) : (s.wrWords off ws).req = s.req := rfl
@[simp] theorem State.wrWords_mem (off : Nat) (ws : List Word) : (s.wrWords off ws).mem = s.mem := rfl
@[simp] theorem State.wrWords_timing (off : Nat) (ws : List Word) : (s.wrWords off ws).timing = s.timing := rfl
@[simp] theorem State.wrWords_host (off : Nat) (ws : List Word) : (s.wrWords off ws).host = s.host := rfl
@[simp] theorem State.wrWords_maint (off : Nat) (ws : List Word) : (s.wrWords off ws).maint = s.maint := rfl
@[simp] theorem State.wrWords_pwr (off : Nat) (ws : List Word) : (s.wrWords off ws).pwr = s.pwr := rfl
@[simp] theorem State.wrWords_macs (off : Nat) (ws : List Word) : (s.wrWords off ws).macs = s.macs := rfl
@[simp] theorem State.wrWords_tel (off : Nat) (ws : List Word) : (s.wrWords off ws).tel = s.tel := rfl
@[simp] theorem State.wrWords_boot (off : Nat) (ws : List Word) : (s.wrWords off ws).boot = s.boot := rfl
@[simp] theorem State.wrWords_i3c (off : Nat) (ws : List Word) : (s.wrWords off ws).i3c = s.i3c := rfl
@[simp] theorem State.wrWords_wd (off : Nat) (ws : List Word) : (s.wrWords off ws).wd = s.wd := rfl
@[simp] theorem State.wrWords_evq (off : Nat) (ws : List Word) : (s.wrWords off ws).evq = s.evq := rfl
@[simp] theorem State.wrWords_evLost (off : Nat) (ws : List Word) : (s.wrWords off ws).evLost = s.evLost := rfl
@[simp] theorem State.wrWords_evLostOff (off : Nat) (ws : List Word) : (s.wrWords off ws).evLostOff = s.evLostOff := rfl
@[simp] theorem State.wrWords_xings (off : Nat) (ws : List Word) : (s.wrWords off ws).xings = s.xings := rfl
@[simp] theorem State.wrWords_cyc (off : Nat) (ws : List Word) : (s.wrWords off ws).cyc = s.cyc := rfl
@[simp] theorem State.wrWords_out (off : Nat) (ws : List Word) : (s.wrWords off ws).out = s.out := rfl
@[simp] theorem State.wrWords_free (off : Nat) (ws : List Word) : (s.wrWords off ws).free = s.free := rfl
@[simp] theorem State.wrWords_pending (off : Nat) (ws : List Word) : (s.wrWords off ws).pending = s.pending := rfl

/-! ### store -/

@[simp] theorem State.store_clk (off : Nat) (w : Word) : (s.store off w).clk = s.clk := rfl
@[simp] theorem State.store_cnt (off : Nat) (w : Word) : (s.store off w).cnt = s.cnt := rfl
@[simp] theorem State.store_dom (off : Nat) (w : Word) : (s.store off w).dom = s.dom := rfl
@[simp] theorem State.store_dp (off : Nat) (w : Word) : (s.store off w).dp = s.dp := rfl
@[simp] theorem State.store_tab (off : Nat) (w : Word) : (s.store off w).tab = s.tab := rfl
@[simp] theorem State.store_sched (off : Nat) (w : Word) : (s.store off w).sched = s.sched := rfl
@[simp] theorem State.store_ports (off : Nat) (w : Word) : (s.store off w).ports = s.ports := rfl
@[simp] theorem State.store_links (off : Nat) (w : Word) : (s.store off w).links = s.links := rfl
@[simp] theorem State.store_peers (off : Nat) (w : Word) : (s.store off w).peers = s.peers := rfl
@[simp] theorem State.store_planes (off : Nat) (w : Word) : (s.store off w).planes = s.planes := rfl
@[simp] theorem State.store_prism (off : Nat) (w : Word) : (s.store off w).prism = s.prism := rfl
@[simp] theorem State.store_optics (off : Nat) (w : Word) : (s.store off w).optics = s.optics := rfl
@[simp] theorem State.store_canvas (off : Nat) (w : Word) : (s.store off w).canvas = s.canvas := rfl
@[simp] theorem State.store_pal (off : Nat) (w : Word) : (s.store off w).pal = s.pal := rfl
@[simp] theorem State.store_homes (off : Nat) (w : Word) : (s.store off w).homes = s.homes := rfl
@[simp] theorem State.store_req (off : Nat) (w : Word) : (s.store off w).req = s.req := rfl
@[simp] theorem State.store_mem (off : Nat) (w : Word) : (s.store off w).mem = s.mem := rfl
@[simp] theorem State.store_timing (off : Nat) (w : Word) : (s.store off w).timing = s.timing := rfl
@[simp] theorem State.store_host (off : Nat) (w : Word) : (s.store off w).host = s.host := rfl
@[simp] theorem State.store_maint (off : Nat) (w : Word) : (s.store off w).maint = s.maint := rfl
@[simp] theorem State.store_pwr (off : Nat) (w : Word) : (s.store off w).pwr = s.pwr := rfl
@[simp] theorem State.store_macs (off : Nat) (w : Word) : (s.store off w).macs = s.macs := rfl
@[simp] theorem State.store_tel (off : Nat) (w : Word) : (s.store off w).tel = s.tel := rfl
@[simp] theorem State.store_boot (off : Nat) (w : Word) : (s.store off w).boot = s.boot := rfl
@[simp] theorem State.store_i3c (off : Nat) (w : Word) : (s.store off w).i3c = s.i3c := rfl
@[simp] theorem State.store_wd (off : Nat) (w : Word) : (s.store off w).wd = s.wd := rfl
@[simp] theorem State.store_evq (off : Nat) (w : Word) : (s.store off w).evq = s.evq := rfl
@[simp] theorem State.store_evLost (off : Nat) (w : Word) : (s.store off w).evLost = s.evLost := rfl
@[simp] theorem State.store_evLostOff (off : Nat) (w : Word) : (s.store off w).evLostOff = s.evLostOff := rfl
@[simp] theorem State.store_xings (off : Nat) (w : Word) : (s.store off w).xings = s.xings := rfl
@[simp] theorem State.store_cyc (off : Nat) (w : Word) : (s.store off w).cyc = s.cyc := rfl
@[simp] theorem State.store_out (off : Nat) (w : Word) : (s.store off w).out = s.out := rfl
@[simp] theorem State.store_free (off : Nat) (w : Word) : (s.store off w).free = s.free := rfl
@[simp] theorem State.store_pending (off : Nat) (w : Word) : (s.store off w).pending = s.pending := rfl

/-! ### status -/

@[simp] theorem State.status_clk (off v : Nat) : (s.status off v).clk = s.clk := rfl
@[simp] theorem State.status_cnt (off v : Nat) : (s.status off v).cnt = s.cnt := rfl
@[simp] theorem State.status_dom (off v : Nat) : (s.status off v).dom = s.dom := rfl
@[simp] theorem State.status_dp (off v : Nat) : (s.status off v).dp = s.dp := rfl
@[simp] theorem State.status_tab (off v : Nat) : (s.status off v).tab = s.tab := rfl
@[simp] theorem State.status_sched (off v : Nat) : (s.status off v).sched = s.sched := rfl
@[simp] theorem State.status_ports (off v : Nat) : (s.status off v).ports = s.ports := rfl
@[simp] theorem State.status_links (off v : Nat) : (s.status off v).links = s.links := rfl
@[simp] theorem State.status_peers (off v : Nat) : (s.status off v).peers = s.peers := rfl
@[simp] theorem State.status_planes (off v : Nat) : (s.status off v).planes = s.planes := rfl
@[simp] theorem State.status_prism (off v : Nat) : (s.status off v).prism = s.prism := rfl
@[simp] theorem State.status_optics (off v : Nat) : (s.status off v).optics = s.optics := rfl
@[simp] theorem State.status_canvas (off v : Nat) : (s.status off v).canvas = s.canvas := rfl
@[simp] theorem State.status_pal (off v : Nat) : (s.status off v).pal = s.pal := rfl
@[simp] theorem State.status_homes (off v : Nat) : (s.status off v).homes = s.homes := rfl
@[simp] theorem State.status_req (off v : Nat) : (s.status off v).req = s.req := rfl
@[simp] theorem State.status_mem (off v : Nat) : (s.status off v).mem = s.mem := rfl
@[simp] theorem State.status_timing (off v : Nat) : (s.status off v).timing = s.timing := rfl
@[simp] theorem State.status_host (off v : Nat) : (s.status off v).host = s.host := rfl
@[simp] theorem State.status_maint (off v : Nat) : (s.status off v).maint = s.maint := rfl
@[simp] theorem State.status_pwr (off v : Nat) : (s.status off v).pwr = s.pwr := rfl
@[simp] theorem State.status_macs (off v : Nat) : (s.status off v).macs = s.macs := rfl
@[simp] theorem State.status_tel (off v : Nat) : (s.status off v).tel = s.tel := rfl
@[simp] theorem State.status_boot (off v : Nat) : (s.status off v).boot = s.boot := rfl
@[simp] theorem State.status_i3c (off v : Nat) : (s.status off v).i3c = s.i3c := rfl
@[simp] theorem State.status_wd (off v : Nat) : (s.status off v).wd = s.wd := rfl
@[simp] theorem State.status_evq (off v : Nat) : (s.status off v).evq = s.evq := rfl
@[simp] theorem State.status_evLost (off v : Nat) : (s.status off v).evLost = s.evLost := rfl
@[simp] theorem State.status_evLostOff (off v : Nat) : (s.status off v).evLostOff = s.evLostOff := rfl
@[simp] theorem State.status_xings (off v : Nat) : (s.status off v).xings = s.xings := rfl
@[simp] theorem State.status_cyc (off v : Nat) : (s.status off v).cyc = s.cyc := rfl
@[simp] theorem State.status_out (off v : Nat) : (s.status off v).out = s.out := rfl
@[simp] theorem State.status_free (off v : Nat) : (s.status off v).free = s.free := rfl
@[simp] theorem State.status_pending (off v : Nat) : (s.status off v).pending = s.pending := rfl

/-! ### bump -/

@[simp] theorem State.bump_clk (off n : Nat) : (s.bump off n).clk = s.clk := rfl
@[simp] theorem State.bump_regs (off n : Nat) : (s.bump off n).regs = s.regs := rfl
@[simp] theorem State.bump_dom (off n : Nat) : (s.bump off n).dom = s.dom := rfl
@[simp] theorem State.bump_dp (off n : Nat) : (s.bump off n).dp = s.dp := rfl
@[simp] theorem State.bump_tab (off n : Nat) : (s.bump off n).tab = s.tab := rfl
@[simp] theorem State.bump_sched (off n : Nat) : (s.bump off n).sched = s.sched := rfl
@[simp] theorem State.bump_ports (off n : Nat) : (s.bump off n).ports = s.ports := rfl
@[simp] theorem State.bump_links (off n : Nat) : (s.bump off n).links = s.links := rfl
@[simp] theorem State.bump_peers (off n : Nat) : (s.bump off n).peers = s.peers := rfl
@[simp] theorem State.bump_planes (off n : Nat) : (s.bump off n).planes = s.planes := rfl
@[simp] theorem State.bump_prism (off n : Nat) : (s.bump off n).prism = s.prism := rfl
@[simp] theorem State.bump_optics (off n : Nat) : (s.bump off n).optics = s.optics := rfl
@[simp] theorem State.bump_canvas (off n : Nat) : (s.bump off n).canvas = s.canvas := rfl
@[simp] theorem State.bump_pal (off n : Nat) : (s.bump off n).pal = s.pal := rfl
@[simp] theorem State.bump_homes (off n : Nat) : (s.bump off n).homes = s.homes := rfl
@[simp] theorem State.bump_req (off n : Nat) : (s.bump off n).req = s.req := rfl
@[simp] theorem State.bump_mem (off n : Nat) : (s.bump off n).mem = s.mem := rfl
@[simp] theorem State.bump_timing (off n : Nat) : (s.bump off n).timing = s.timing := rfl
@[simp] theorem State.bump_host (off n : Nat) : (s.bump off n).host = s.host := rfl
@[simp] theorem State.bump_maint (off n : Nat) : (s.bump off n).maint = s.maint := rfl
@[simp] theorem State.bump_pwr (off n : Nat) : (s.bump off n).pwr = s.pwr := rfl
@[simp] theorem State.bump_macs (off n : Nat) : (s.bump off n).macs = s.macs := rfl
@[simp] theorem State.bump_tel (off n : Nat) : (s.bump off n).tel = s.tel := rfl
@[simp] theorem State.bump_boot (off n : Nat) : (s.bump off n).boot = s.boot := rfl
@[simp] theorem State.bump_i3c (off n : Nat) : (s.bump off n).i3c = s.i3c := rfl
@[simp] theorem State.bump_wd (off n : Nat) : (s.bump off n).wd = s.wd := rfl
@[simp] theorem State.bump_evq (off n : Nat) : (s.bump off n).evq = s.evq := rfl
@[simp] theorem State.bump_evLost (off n : Nat) : (s.bump off n).evLost = s.evLost := rfl
@[simp] theorem State.bump_evLostOff (off n : Nat) : (s.bump off n).evLostOff = s.evLostOff := rfl
@[simp] theorem State.bump_xings (off n : Nat) : (s.bump off n).xings = s.xings := rfl
@[simp] theorem State.bump_cyc (off n : Nat) : (s.bump off n).cyc = s.cyc := rfl
@[simp] theorem State.bump_out (off n : Nat) : (s.bump off n).out = s.out := rfl
@[simp] theorem State.bump_free (off n : Nat) : (s.bump off n).free = s.free := rfl
@[simp] theorem State.bump_pending (off n : Nat) : (s.bump off n).pending = s.pending := rfl

/-! ### tick -/

@[simp] theorem State.tick_clk : (s.tick).clk = s.clk := rfl
@[simp] theorem State.tick_regs : (s.tick).regs = s.regs := rfl
@[simp] theorem State.tick_cnt : (s.tick).cnt = s.cnt := rfl
@[simp] theorem State.tick_dom : (s.tick).dom = s.dom := rfl
@[simp] theorem State.tick_dp : (s.tick).dp = s.dp := rfl
@[simp] theorem State.tick_tab : (s.tick).tab = s.tab := rfl
@[simp] theorem State.tick_sched : (s.tick).sched = s.sched := rfl
@[simp] theorem State.tick_ports : (s.tick).ports = s.ports := rfl
@[simp] theorem State.tick_links : (s.tick).links = s.links := rfl
@[simp] theorem State.tick_peers : (s.tick).peers = s.peers := rfl
@[simp] theorem State.tick_planes : (s.tick).planes = s.planes := rfl
@[simp] theorem State.tick_prism : (s.tick).prism = s.prism := rfl
@[simp] theorem State.tick_optics : (s.tick).optics = s.optics := rfl
@[simp] theorem State.tick_canvas : (s.tick).canvas = s.canvas := rfl
@[simp] theorem State.tick_pal : (s.tick).pal = s.pal := rfl
@[simp] theorem State.tick_homes : (s.tick).homes = s.homes := rfl
@[simp] theorem State.tick_req : (s.tick).req = s.req := rfl
@[simp] theorem State.tick_mem : (s.tick).mem = s.mem := rfl
@[simp] theorem State.tick_timing : (s.tick).timing = s.timing := rfl
@[simp] theorem State.tick_host : (s.tick).host = s.host := rfl
@[simp] theorem State.tick_maint : (s.tick).maint = s.maint := rfl
@[simp] theorem State.tick_pwr : (s.tick).pwr = s.pwr := rfl
@[simp] theorem State.tick_macs : (s.tick).macs = s.macs := rfl
@[simp] theorem State.tick_tel : (s.tick).tel = s.tel := rfl
@[simp] theorem State.tick_boot : (s.tick).boot = s.boot := rfl
@[simp] theorem State.tick_i3c : (s.tick).i3c = s.i3c := rfl
@[simp] theorem State.tick_wd : (s.tick).wd = s.wd := rfl
@[simp] theorem State.tick_evq : (s.tick).evq = s.evq := rfl
@[simp] theorem State.tick_evLost : (s.tick).evLost = s.evLost := rfl
@[simp] theorem State.tick_evLostOff : (s.tick).evLostOff = s.evLostOff := rfl
@[simp] theorem State.tick_xings : (s.tick).xings = s.xings := rfl
@[simp] theorem State.tick_cyc : (s.tick).cyc = s.cyc := rfl
@[simp] theorem State.tick_out : (s.tick).out = s.out := rfl
@[simp] theorem State.tick_pending : (s.tick).pending = s.pending := rfl

/-! ### emit -/

@[simp] theorem State.emit_clk (o : Out) : (s.emit o).clk = s.clk := rfl
@[simp] theorem State.emit_regs (o : Out) : (s.emit o).regs = s.regs := rfl
@[simp] theorem State.emit_cnt (o : Out) : (s.emit o).cnt = s.cnt := rfl
@[simp] theorem State.emit_dom (o : Out) : (s.emit o).dom = s.dom := rfl
@[simp] theorem State.emit_dp (o : Out) : (s.emit o).dp = s.dp := rfl
@[simp] theorem State.emit_tab (o : Out) : (s.emit o).tab = s.tab := rfl
@[simp] theorem State.emit_sched (o : Out) : (s.emit o).sched = s.sched := rfl
@[simp] theorem State.emit_ports (o : Out) : (s.emit o).ports = s.ports := rfl
@[simp] theorem State.emit_links (o : Out) : (s.emit o).links = s.links := rfl
@[simp] theorem State.emit_peers (o : Out) : (s.emit o).peers = s.peers := rfl
@[simp] theorem State.emit_planes (o : Out) : (s.emit o).planes = s.planes := rfl
@[simp] theorem State.emit_prism (o : Out) : (s.emit o).prism = s.prism := rfl
@[simp] theorem State.emit_optics (o : Out) : (s.emit o).optics = s.optics := rfl
@[simp] theorem State.emit_canvas (o : Out) : (s.emit o).canvas = s.canvas := rfl
@[simp] theorem State.emit_pal (o : Out) : (s.emit o).pal = s.pal := rfl
@[simp] theorem State.emit_homes (o : Out) : (s.emit o).homes = s.homes := rfl
@[simp] theorem State.emit_req (o : Out) : (s.emit o).req = s.req := rfl
@[simp] theorem State.emit_mem (o : Out) : (s.emit o).mem = s.mem := rfl
@[simp] theorem State.emit_timing (o : Out) : (s.emit o).timing = s.timing := rfl
@[simp] theorem State.emit_host (o : Out) : (s.emit o).host = s.host := rfl
@[simp] theorem State.emit_maint (o : Out) : (s.emit o).maint = s.maint := rfl
@[simp] theorem State.emit_pwr (o : Out) : (s.emit o).pwr = s.pwr := rfl
@[simp] theorem State.emit_macs (o : Out) : (s.emit o).macs = s.macs := rfl
@[simp] theorem State.emit_tel (o : Out) : (s.emit o).tel = s.tel := rfl
@[simp] theorem State.emit_boot (o : Out) : (s.emit o).boot = s.boot := rfl
@[simp] theorem State.emit_i3c (o : Out) : (s.emit o).i3c = s.i3c := rfl
@[simp] theorem State.emit_wd (o : Out) : (s.emit o).wd = s.wd := rfl
@[simp] theorem State.emit_evq (o : Out) : (s.emit o).evq = s.evq := rfl
@[simp] theorem State.emit_evLost (o : Out) : (s.emit o).evLost = s.evLost := rfl
@[simp] theorem State.emit_evLostOff (o : Out) : (s.emit o).evLostOff = s.evLostOff := rfl
@[simp] theorem State.emit_xings (o : Out) : (s.emit o).xings = s.xings := rfl
@[simp] theorem State.emit_cyc (o : Out) : (s.emit o).cyc = s.cyc := rfl
@[simp] theorem State.emit_free (o : Out) : (s.emit o).free = s.free := rfl
@[simp] theorem State.emit_pending (o : Out) : (s.emit o).pending = s.pending := rfl

/-! ### takeSeq -/

@[simp] theorem State.takeSeq_clk (home dspace dest : Nat) : (s.takeSeq home dspace dest).clk = s.clk := rfl
@[simp] theorem State.takeSeq_regs (home dspace dest : Nat) : (s.takeSeq home dspace dest).regs = s.regs := rfl
@[simp] theorem State.takeSeq_cnt (home dspace dest : Nat) : (s.takeSeq home dspace dest).cnt = s.cnt := rfl
@[simp] theorem State.takeSeq_dom (home dspace dest : Nat) : (s.takeSeq home dspace dest).dom = s.dom := rfl
@[simp] theorem State.takeSeq_tab (home dspace dest : Nat) : (s.takeSeq home dspace dest).tab = s.tab := rfl
@[simp] theorem State.takeSeq_sched (home dspace dest : Nat) : (s.takeSeq home dspace dest).sched = s.sched := rfl
@[simp] theorem State.takeSeq_ports (home dspace dest : Nat) : (s.takeSeq home dspace dest).ports = s.ports := rfl
@[simp] theorem State.takeSeq_links (home dspace dest : Nat) : (s.takeSeq home dspace dest).links = s.links := rfl
@[simp] theorem State.takeSeq_peers (home dspace dest : Nat) : (s.takeSeq home dspace dest).peers = s.peers := rfl
@[simp] theorem State.takeSeq_planes (home dspace dest : Nat) : (s.takeSeq home dspace dest).planes = s.planes := rfl
@[simp] theorem State.takeSeq_prism (home dspace dest : Nat) : (s.takeSeq home dspace dest).prism = s.prism := rfl
@[simp] theorem State.takeSeq_optics (home dspace dest : Nat) : (s.takeSeq home dspace dest).optics = s.optics := rfl
@[simp] theorem State.takeSeq_canvas (home dspace dest : Nat) : (s.takeSeq home dspace dest).canvas = s.canvas := rfl
@[simp] theorem State.takeSeq_pal (home dspace dest : Nat) : (s.takeSeq home dspace dest).pal = s.pal := rfl
@[simp] theorem State.takeSeq_homes (home dspace dest : Nat) : (s.takeSeq home dspace dest).homes = s.homes := rfl
@[simp] theorem State.takeSeq_req (home dspace dest : Nat) : (s.takeSeq home dspace dest).req = s.req := rfl
@[simp] theorem State.takeSeq_mem (home dspace dest : Nat) : (s.takeSeq home dspace dest).mem = s.mem := rfl
@[simp] theorem State.takeSeq_timing (home dspace dest : Nat) : (s.takeSeq home dspace dest).timing = s.timing := rfl
@[simp] theorem State.takeSeq_host (home dspace dest : Nat) : (s.takeSeq home dspace dest).host = s.host := rfl
@[simp] theorem State.takeSeq_maint (home dspace dest : Nat) : (s.takeSeq home dspace dest).maint = s.maint := rfl
@[simp] theorem State.takeSeq_pwr (home dspace dest : Nat) : (s.takeSeq home dspace dest).pwr = s.pwr := rfl
@[simp] theorem State.takeSeq_macs (home dspace dest : Nat) : (s.takeSeq home dspace dest).macs = s.macs := rfl
@[simp] theorem State.takeSeq_tel (home dspace dest : Nat) : (s.takeSeq home dspace dest).tel = s.tel := rfl
@[simp] theorem State.takeSeq_boot (home dspace dest : Nat) : (s.takeSeq home dspace dest).boot = s.boot := rfl
@[simp] theorem State.takeSeq_i3c (home dspace dest : Nat) : (s.takeSeq home dspace dest).i3c = s.i3c := rfl
@[simp] theorem State.takeSeq_wd (home dspace dest : Nat) : (s.takeSeq home dspace dest).wd = s.wd := rfl
@[simp] theorem State.takeSeq_evq (home dspace dest : Nat) : (s.takeSeq home dspace dest).evq = s.evq := rfl
@[simp] theorem State.takeSeq_evLost (home dspace dest : Nat) : (s.takeSeq home dspace dest).evLost = s.evLost := rfl
@[simp] theorem State.takeSeq_evLostOff (home dspace dest : Nat) : (s.takeSeq home dspace dest).evLostOff = s.evLostOff := rfl
@[simp] theorem State.takeSeq_xings (home dspace dest : Nat) : (s.takeSeq home dspace dest).xings = s.xings := rfl
@[simp] theorem State.takeSeq_cyc (home dspace dest : Nat) : (s.takeSeq home dspace dest).cyc = s.cyc := rfl
@[simp] theorem State.takeSeq_out (home dspace dest : Nat) : (s.takeSeq home dspace dest).out = s.out := rfl
@[simp] theorem State.takeSeq_free (home dspace dest : Nat) : (s.takeSeq home dspace dest).free = s.free := rfl
@[simp] theorem State.takeSeq_pending (home dspace dest : Nat) : (s.takeSeq home dspace dest).pending = s.pending := rfl

/-! ### setPort -/

@[simp] theorem State.setPort_clk (p : Nat) (x : Port) : (s.setPort p x).clk = s.clk := rfl
@[simp] theorem State.setPort_regs (p : Nat) (x : Port) : (s.setPort p x).regs = s.regs := rfl
@[simp] theorem State.setPort_cnt (p : Nat) (x : Port) : (s.setPort p x).cnt = s.cnt := rfl
@[simp] theorem State.setPort_dom (p : Nat) (x : Port) : (s.setPort p x).dom = s.dom := rfl
@[simp] theorem State.setPort_dp (p : Nat) (x : Port) : (s.setPort p x).dp = s.dp := rfl
@[simp] theorem State.setPort_tab (p : Nat) (x : Port) : (s.setPort p x).tab = s.tab := rfl
@[simp] theorem State.setPort_sched (p : Nat) (x : Port) : (s.setPort p x).sched = s.sched := rfl
@[simp] theorem State.setPort_links (p : Nat) (x : Port) : (s.setPort p x).links = s.links := rfl
@[simp] theorem State.setPort_peers (p : Nat) (x : Port) : (s.setPort p x).peers = s.peers := rfl
@[simp] theorem State.setPort_planes (p : Nat) (x : Port) : (s.setPort p x).planes = s.planes := rfl
@[simp] theorem State.setPort_prism (p : Nat) (x : Port) : (s.setPort p x).prism = s.prism := rfl
@[simp] theorem State.setPort_optics (p : Nat) (x : Port) : (s.setPort p x).optics = s.optics := rfl
@[simp] theorem State.setPort_canvas (p : Nat) (x : Port) : (s.setPort p x).canvas = s.canvas := rfl
@[simp] theorem State.setPort_pal (p : Nat) (x : Port) : (s.setPort p x).pal = s.pal := rfl
@[simp] theorem State.setPort_homes (p : Nat) (x : Port) : (s.setPort p x).homes = s.homes := rfl
@[simp] theorem State.setPort_req (p : Nat) (x : Port) : (s.setPort p x).req = s.req := rfl
@[simp] theorem State.setPort_mem (p : Nat) (x : Port) : (s.setPort p x).mem = s.mem := rfl
@[simp] theorem State.setPort_timing (p : Nat) (x : Port) : (s.setPort p x).timing = s.timing := rfl
@[simp] theorem State.setPort_host (p : Nat) (x : Port) : (s.setPort p x).host = s.host := rfl
@[simp] theorem State.setPort_maint (p : Nat) (x : Port) : (s.setPort p x).maint = s.maint := rfl
@[simp] theorem State.setPort_pwr (p : Nat) (x : Port) : (s.setPort p x).pwr = s.pwr := rfl
@[simp] theorem State.setPort_macs (p : Nat) (x : Port) : (s.setPort p x).macs = s.macs := rfl
@[simp] theorem State.setPort_tel (p : Nat) (x : Port) : (s.setPort p x).tel = s.tel := rfl
@[simp] theorem State.setPort_boot (p : Nat) (x : Port) : (s.setPort p x).boot = s.boot := rfl
@[simp] theorem State.setPort_i3c (p : Nat) (x : Port) : (s.setPort p x).i3c = s.i3c := rfl
@[simp] theorem State.setPort_wd (p : Nat) (x : Port) : (s.setPort p x).wd = s.wd := rfl
@[simp] theorem State.setPort_evq (p : Nat) (x : Port) : (s.setPort p x).evq = s.evq := rfl
@[simp] theorem State.setPort_evLost (p : Nat) (x : Port) : (s.setPort p x).evLost = s.evLost := rfl
@[simp] theorem State.setPort_evLostOff (p : Nat) (x : Port) : (s.setPort p x).evLostOff = s.evLostOff := rfl
@[simp] theorem State.setPort_xings (p : Nat) (x : Port) : (s.setPort p x).xings = s.xings := rfl
@[simp] theorem State.setPort_cyc (p : Nat) (x : Port) : (s.setPort p x).cyc = s.cyc := rfl
@[simp] theorem State.setPort_out (p : Nat) (x : Port) : (s.setPort p x).out = s.out := rfl
@[simp] theorem State.setPort_free (p : Nat) (x : Port) : (s.setPort p x).free = s.free := rfl
@[simp] theorem State.setPort_pending (p : Nat) (x : Port) : (s.setPort p x).pending = s.pending := rfl

/-! ### setLink -/

@[simp] theorem State.setLink_clk (k : Nat) (x : Link) : (s.setLink k x).clk = s.clk := rfl
@[simp] theorem State.setLink_regs (k : Nat) (x : Link) : (s.setLink k x).regs = s.regs := rfl
@[simp] theorem State.setLink_cnt (k : Nat) (x : Link) : (s.setLink k x).cnt = s.cnt := rfl
@[simp] theorem State.setLink_dom (k : Nat) (x : Link) : (s.setLink k x).dom = s.dom := rfl
@[simp] theorem State.setLink_dp (k : Nat) (x : Link) : (s.setLink k x).dp = s.dp := rfl
@[simp] theorem State.setLink_tab (k : Nat) (x : Link) : (s.setLink k x).tab = s.tab := rfl
@[simp] theorem State.setLink_sched (k : Nat) (x : Link) : (s.setLink k x).sched = s.sched := rfl
@[simp] theorem State.setLink_ports (k : Nat) (x : Link) : (s.setLink k x).ports = s.ports := rfl
@[simp] theorem State.setLink_peers (k : Nat) (x : Link) : (s.setLink k x).peers = s.peers := rfl
@[simp] theorem State.setLink_planes (k : Nat) (x : Link) : (s.setLink k x).planes = s.planes := rfl
@[simp] theorem State.setLink_prism (k : Nat) (x : Link) : (s.setLink k x).prism = s.prism := rfl
@[simp] theorem State.setLink_optics (k : Nat) (x : Link) : (s.setLink k x).optics = s.optics := rfl
@[simp] theorem State.setLink_canvas (k : Nat) (x : Link) : (s.setLink k x).canvas = s.canvas := rfl
@[simp] theorem State.setLink_pal (k : Nat) (x : Link) : (s.setLink k x).pal = s.pal := rfl
@[simp] theorem State.setLink_homes (k : Nat) (x : Link) : (s.setLink k x).homes = s.homes := rfl
@[simp] theorem State.setLink_req (k : Nat) (x : Link) : (s.setLink k x).req = s.req := rfl
@[simp] theorem State.setLink_mem (k : Nat) (x : Link) : (s.setLink k x).mem = s.mem := rfl
@[simp] theorem State.setLink_timing (k : Nat) (x : Link) : (s.setLink k x).timing = s.timing := rfl
@[simp] theorem State.setLink_host (k : Nat) (x : Link) : (s.setLink k x).host = s.host := rfl
@[simp] theorem State.setLink_maint (k : Nat) (x : Link) : (s.setLink k x).maint = s.maint := rfl
@[simp] theorem State.setLink_pwr (k : Nat) (x : Link) : (s.setLink k x).pwr = s.pwr := rfl
@[simp] theorem State.setLink_macs (k : Nat) (x : Link) : (s.setLink k x).macs = s.macs := rfl
@[simp] theorem State.setLink_tel (k : Nat) (x : Link) : (s.setLink k x).tel = s.tel := rfl
@[simp] theorem State.setLink_boot (k : Nat) (x : Link) : (s.setLink k x).boot = s.boot := rfl
@[simp] theorem State.setLink_i3c (k : Nat) (x : Link) : (s.setLink k x).i3c = s.i3c := rfl
@[simp] theorem State.setLink_wd (k : Nat) (x : Link) : (s.setLink k x).wd = s.wd := rfl
@[simp] theorem State.setLink_evq (k : Nat) (x : Link) : (s.setLink k x).evq = s.evq := rfl
@[simp] theorem State.setLink_evLost (k : Nat) (x : Link) : (s.setLink k x).evLost = s.evLost := rfl
@[simp] theorem State.setLink_evLostOff (k : Nat) (x : Link) : (s.setLink k x).evLostOff = s.evLostOff := rfl
@[simp] theorem State.setLink_xings (k : Nat) (x : Link) : (s.setLink k x).xings = s.xings := rfl
@[simp] theorem State.setLink_cyc (k : Nat) (x : Link) : (s.setLink k x).cyc = s.cyc := rfl
@[simp] theorem State.setLink_out (k : Nat) (x : Link) : (s.setLink k x).out = s.out := rfl
@[simp] theorem State.setLink_free (k : Nat) (x : Link) : (s.setLink k x).free = s.free := rfl
@[simp] theorem State.setLink_pending (k : Nat) (x : Link) : (s.setLink k x).pending = s.pending := rfl

/-! ### setPeer -/

@[simp] theorem State.setPeer_clk (j : Nat) (x : Peer) : (s.setPeer j x).clk = s.clk := rfl
@[simp] theorem State.setPeer_regs (j : Nat) (x : Peer) : (s.setPeer j x).regs = s.regs := rfl
@[simp] theorem State.setPeer_cnt (j : Nat) (x : Peer) : (s.setPeer j x).cnt = s.cnt := rfl
@[simp] theorem State.setPeer_dom (j : Nat) (x : Peer) : (s.setPeer j x).dom = s.dom := rfl
@[simp] theorem State.setPeer_dp (j : Nat) (x : Peer) : (s.setPeer j x).dp = s.dp := rfl
@[simp] theorem State.setPeer_tab (j : Nat) (x : Peer) : (s.setPeer j x).tab = s.tab := rfl
@[simp] theorem State.setPeer_sched (j : Nat) (x : Peer) : (s.setPeer j x).sched = s.sched := rfl
@[simp] theorem State.setPeer_ports (j : Nat) (x : Peer) : (s.setPeer j x).ports = s.ports := rfl
@[simp] theorem State.setPeer_links (j : Nat) (x : Peer) : (s.setPeer j x).links = s.links := rfl
@[simp] theorem State.setPeer_planes (j : Nat) (x : Peer) : (s.setPeer j x).planes = s.planes := rfl
@[simp] theorem State.setPeer_prism (j : Nat) (x : Peer) : (s.setPeer j x).prism = s.prism := rfl
@[simp] theorem State.setPeer_optics (j : Nat) (x : Peer) : (s.setPeer j x).optics = s.optics := rfl
@[simp] theorem State.setPeer_canvas (j : Nat) (x : Peer) : (s.setPeer j x).canvas = s.canvas := rfl
@[simp] theorem State.setPeer_pal (j : Nat) (x : Peer) : (s.setPeer j x).pal = s.pal := rfl
@[simp] theorem State.setPeer_homes (j : Nat) (x : Peer) : (s.setPeer j x).homes = s.homes := rfl
@[simp] theorem State.setPeer_req (j : Nat) (x : Peer) : (s.setPeer j x).req = s.req := rfl
@[simp] theorem State.setPeer_mem (j : Nat) (x : Peer) : (s.setPeer j x).mem = s.mem := rfl
@[simp] theorem State.setPeer_timing (j : Nat) (x : Peer) : (s.setPeer j x).timing = s.timing := rfl
@[simp] theorem State.setPeer_host (j : Nat) (x : Peer) : (s.setPeer j x).host = s.host := rfl
@[simp] theorem State.setPeer_maint (j : Nat) (x : Peer) : (s.setPeer j x).maint = s.maint := rfl
@[simp] theorem State.setPeer_pwr (j : Nat) (x : Peer) : (s.setPeer j x).pwr = s.pwr := rfl
@[simp] theorem State.setPeer_macs (j : Nat) (x : Peer) : (s.setPeer j x).macs = s.macs := rfl
@[simp] theorem State.setPeer_tel (j : Nat) (x : Peer) : (s.setPeer j x).tel = s.tel := rfl
@[simp] theorem State.setPeer_boot (j : Nat) (x : Peer) : (s.setPeer j x).boot = s.boot := rfl
@[simp] theorem State.setPeer_i3c (j : Nat) (x : Peer) : (s.setPeer j x).i3c = s.i3c := rfl
@[simp] theorem State.setPeer_wd (j : Nat) (x : Peer) : (s.setPeer j x).wd = s.wd := rfl
@[simp] theorem State.setPeer_evq (j : Nat) (x : Peer) : (s.setPeer j x).evq = s.evq := rfl
@[simp] theorem State.setPeer_evLost (j : Nat) (x : Peer) : (s.setPeer j x).evLost = s.evLost := rfl
@[simp] theorem State.setPeer_evLostOff (j : Nat) (x : Peer) : (s.setPeer j x).evLostOff = s.evLostOff := rfl
@[simp] theorem State.setPeer_xings (j : Nat) (x : Peer) : (s.setPeer j x).xings = s.xings := rfl
@[simp] theorem State.setPeer_cyc (j : Nat) (x : Peer) : (s.setPeer j x).cyc = s.cyc := rfl
@[simp] theorem State.setPeer_out (j : Nat) (x : Peer) : (s.setPeer j x).out = s.out := rfl
@[simp] theorem State.setPeer_free (j : Nat) (x : Peer) : (s.setPeer j x).free = s.free := rfl
@[simp] theorem State.setPeer_pending (j : Nat) (x : Peer) : (s.setPeer j x).pending = s.pending := rfl

/-! ### setPlane -/

@[simp] theorem State.setPlane_clk (p : Nat) (x : Plane) : (s.setPlane p x).clk = s.clk := rfl
@[simp] theorem State.setPlane_regs (p : Nat) (x : Plane) : (s.setPlane p x).regs = s.regs := rfl
@[simp] theorem State.setPlane_cnt (p : Nat) (x : Plane) : (s.setPlane p x).cnt = s.cnt := rfl
@[simp] theorem State.setPlane_dom (p : Nat) (x : Plane) : (s.setPlane p x).dom = s.dom := rfl
@[simp] theorem State.setPlane_dp (p : Nat) (x : Plane) : (s.setPlane p x).dp = s.dp := rfl
@[simp] theorem State.setPlane_tab (p : Nat) (x : Plane) : (s.setPlane p x).tab = s.tab := rfl
@[simp] theorem State.setPlane_sched (p : Nat) (x : Plane) : (s.setPlane p x).sched = s.sched := rfl
@[simp] theorem State.setPlane_ports (p : Nat) (x : Plane) : (s.setPlane p x).ports = s.ports := rfl
@[simp] theorem State.setPlane_links (p : Nat) (x : Plane) : (s.setPlane p x).links = s.links := rfl
@[simp] theorem State.setPlane_peers (p : Nat) (x : Plane) : (s.setPlane p x).peers = s.peers := rfl
@[simp] theorem State.setPlane_prism (p : Nat) (x : Plane) : (s.setPlane p x).prism = s.prism := rfl
@[simp] theorem State.setPlane_optics (p : Nat) (x : Plane) : (s.setPlane p x).optics = s.optics := rfl
@[simp] theorem State.setPlane_canvas (p : Nat) (x : Plane) : (s.setPlane p x).canvas = s.canvas := rfl
@[simp] theorem State.setPlane_pal (p : Nat) (x : Plane) : (s.setPlane p x).pal = s.pal := rfl
@[simp] theorem State.setPlane_homes (p : Nat) (x : Plane) : (s.setPlane p x).homes = s.homes := rfl
@[simp] theorem State.setPlane_req (p : Nat) (x : Plane) : (s.setPlane p x).req = s.req := rfl
@[simp] theorem State.setPlane_mem (p : Nat) (x : Plane) : (s.setPlane p x).mem = s.mem := rfl
@[simp] theorem State.setPlane_timing (p : Nat) (x : Plane) : (s.setPlane p x).timing = s.timing := rfl
@[simp] theorem State.setPlane_host (p : Nat) (x : Plane) : (s.setPlane p x).host = s.host := rfl
@[simp] theorem State.setPlane_maint (p : Nat) (x : Plane) : (s.setPlane p x).maint = s.maint := rfl
@[simp] theorem State.setPlane_pwr (p : Nat) (x : Plane) : (s.setPlane p x).pwr = s.pwr := rfl
@[simp] theorem State.setPlane_macs (p : Nat) (x : Plane) : (s.setPlane p x).macs = s.macs := rfl
@[simp] theorem State.setPlane_tel (p : Nat) (x : Plane) : (s.setPlane p x).tel = s.tel := rfl
@[simp] theorem State.setPlane_boot (p : Nat) (x : Plane) : (s.setPlane p x).boot = s.boot := rfl
@[simp] theorem State.setPlane_i3c (p : Nat) (x : Plane) : (s.setPlane p x).i3c = s.i3c := rfl
@[simp] theorem State.setPlane_wd (p : Nat) (x : Plane) : (s.setPlane p x).wd = s.wd := rfl
@[simp] theorem State.setPlane_evq (p : Nat) (x : Plane) : (s.setPlane p x).evq = s.evq := rfl
@[simp] theorem State.setPlane_evLost (p : Nat) (x : Plane) : (s.setPlane p x).evLost = s.evLost := rfl
@[simp] theorem State.setPlane_evLostOff (p : Nat) (x : Plane) : (s.setPlane p x).evLostOff = s.evLostOff := rfl
@[simp] theorem State.setPlane_xings (p : Nat) (x : Plane) : (s.setPlane p x).xings = s.xings := rfl
@[simp] theorem State.setPlane_cyc (p : Nat) (x : Plane) : (s.setPlane p x).cyc = s.cyc := rfl
@[simp] theorem State.setPlane_out (p : Nat) (x : Plane) : (s.setPlane p x).out = s.out := rfl
@[simp] theorem State.setPlane_free (p : Nat) (x : Plane) : (s.setPlane p x).free = s.free := rfl
@[simp] theorem State.setPlane_pending (p : Nat) (x : Plane) : (s.setPlane p x).pending = s.pending := rfl

/-! ### setQueue -/

@[simp] theorem State.setQueue_clk (q : Nat) (x : EQueue) : (s.setQueue q x).clk = s.clk := rfl
@[simp] theorem State.setQueue_regs (q : Nat) (x : EQueue) : (s.setQueue q x).regs = s.regs := rfl
@[simp] theorem State.setQueue_cnt (q : Nat) (x : EQueue) : (s.setQueue q x).cnt = s.cnt := rfl
@[simp] theorem State.setQueue_dom (q : Nat) (x : EQueue) : (s.setQueue q x).dom = s.dom := rfl
@[simp] theorem State.setQueue_tab (q : Nat) (x : EQueue) : (s.setQueue q x).tab = s.tab := rfl
@[simp] theorem State.setQueue_sched (q : Nat) (x : EQueue) : (s.setQueue q x).sched = s.sched := rfl
@[simp] theorem State.setQueue_ports (q : Nat) (x : EQueue) : (s.setQueue q x).ports = s.ports := rfl
@[simp] theorem State.setQueue_links (q : Nat) (x : EQueue) : (s.setQueue q x).links = s.links := rfl
@[simp] theorem State.setQueue_peers (q : Nat) (x : EQueue) : (s.setQueue q x).peers = s.peers := rfl
@[simp] theorem State.setQueue_planes (q : Nat) (x : EQueue) : (s.setQueue q x).planes = s.planes := rfl
@[simp] theorem State.setQueue_prism (q : Nat) (x : EQueue) : (s.setQueue q x).prism = s.prism := rfl
@[simp] theorem State.setQueue_optics (q : Nat) (x : EQueue) : (s.setQueue q x).optics = s.optics := rfl
@[simp] theorem State.setQueue_canvas (q : Nat) (x : EQueue) : (s.setQueue q x).canvas = s.canvas := rfl
@[simp] theorem State.setQueue_pal (q : Nat) (x : EQueue) : (s.setQueue q x).pal = s.pal := rfl
@[simp] theorem State.setQueue_homes (q : Nat) (x : EQueue) : (s.setQueue q x).homes = s.homes := rfl
@[simp] theorem State.setQueue_req (q : Nat) (x : EQueue) : (s.setQueue q x).req = s.req := rfl
@[simp] theorem State.setQueue_mem (q : Nat) (x : EQueue) : (s.setQueue q x).mem = s.mem := rfl
@[simp] theorem State.setQueue_timing (q : Nat) (x : EQueue) : (s.setQueue q x).timing = s.timing := rfl
@[simp] theorem State.setQueue_host (q : Nat) (x : EQueue) : (s.setQueue q x).host = s.host := rfl
@[simp] theorem State.setQueue_maint (q : Nat) (x : EQueue) : (s.setQueue q x).maint = s.maint := rfl
@[simp] theorem State.setQueue_pwr (q : Nat) (x : EQueue) : (s.setQueue q x).pwr = s.pwr := rfl
@[simp] theorem State.setQueue_macs (q : Nat) (x : EQueue) : (s.setQueue q x).macs = s.macs := rfl
@[simp] theorem State.setQueue_tel (q : Nat) (x : EQueue) : (s.setQueue q x).tel = s.tel := rfl
@[simp] theorem State.setQueue_boot (q : Nat) (x : EQueue) : (s.setQueue q x).boot = s.boot := rfl
@[simp] theorem State.setQueue_i3c (q : Nat) (x : EQueue) : (s.setQueue q x).i3c = s.i3c := rfl
@[simp] theorem State.setQueue_wd (q : Nat) (x : EQueue) : (s.setQueue q x).wd = s.wd := rfl
@[simp] theorem State.setQueue_evq (q : Nat) (x : EQueue) : (s.setQueue q x).evq = s.evq := rfl
@[simp] theorem State.setQueue_evLost (q : Nat) (x : EQueue) : (s.setQueue q x).evLost = s.evLost := rfl
@[simp] theorem State.setQueue_evLostOff (q : Nat) (x : EQueue) : (s.setQueue q x).evLostOff = s.evLostOff := rfl
@[simp] theorem State.setQueue_xings (q : Nat) (x : EQueue) : (s.setQueue q x).xings = s.xings := rfl
@[simp] theorem State.setQueue_cyc (q : Nat) (x : EQueue) : (s.setQueue q x).cyc = s.cyc := rfl
@[simp] theorem State.setQueue_out (q : Nat) (x : EQueue) : (s.setQueue q x).out = s.out := rfl
@[simp] theorem State.setQueue_free (q : Nat) (x : EQueue) : (s.setQueue q x).free = s.free := rfl
@[simp] theorem State.setQueue_pending (q : Nat) (x : EQueue) : (s.setQueue q x).pending = s.pending := rfl

/-! ### setHq -/

@[simp] theorem State.setHq_clk (k : Nat) (x : List Item) : (s.setHq k x).clk = s.clk := rfl
@[simp] theorem State.setHq_regs (k : Nat) (x : List Item) : (s.setHq k x).regs = s.regs := rfl
@[simp] theorem State.setHq_cnt (k : Nat) (x : List Item) : (s.setHq k x).cnt = s.cnt := rfl
@[simp] theorem State.setHq_dom (k : Nat) (x : List Item) : (s.setHq k x).dom = s.dom := rfl
@[simp] theorem State.setHq_tab (k : Nat) (x : List Item) : (s.setHq k x).tab = s.tab := rfl
@[simp] theorem State.setHq_sched (k : Nat) (x : List Item) : (s.setHq k x).sched = s.sched := rfl
@[simp] theorem State.setHq_ports (k : Nat) (x : List Item) : (s.setHq k x).ports = s.ports := rfl
@[simp] theorem State.setHq_links (k : Nat) (x : List Item) : (s.setHq k x).links = s.links := rfl
@[simp] theorem State.setHq_peers (k : Nat) (x : List Item) : (s.setHq k x).peers = s.peers := rfl
@[simp] theorem State.setHq_planes (k : Nat) (x : List Item) : (s.setHq k x).planes = s.planes := rfl
@[simp] theorem State.setHq_prism (k : Nat) (x : List Item) : (s.setHq k x).prism = s.prism := rfl
@[simp] theorem State.setHq_optics (k : Nat) (x : List Item) : (s.setHq k x).optics = s.optics := rfl
@[simp] theorem State.setHq_canvas (k : Nat) (x : List Item) : (s.setHq k x).canvas = s.canvas := rfl
@[simp] theorem State.setHq_pal (k : Nat) (x : List Item) : (s.setHq k x).pal = s.pal := rfl
@[simp] theorem State.setHq_homes (k : Nat) (x : List Item) : (s.setHq k x).homes = s.homes := rfl
@[simp] theorem State.setHq_req (k : Nat) (x : List Item) : (s.setHq k x).req = s.req := rfl
@[simp] theorem State.setHq_mem (k : Nat) (x : List Item) : (s.setHq k x).mem = s.mem := rfl
@[simp] theorem State.setHq_timing (k : Nat) (x : List Item) : (s.setHq k x).timing = s.timing := rfl
@[simp] theorem State.setHq_host (k : Nat) (x : List Item) : (s.setHq k x).host = s.host := rfl
@[simp] theorem State.setHq_maint (k : Nat) (x : List Item) : (s.setHq k x).maint = s.maint := rfl
@[simp] theorem State.setHq_pwr (k : Nat) (x : List Item) : (s.setHq k x).pwr = s.pwr := rfl
@[simp] theorem State.setHq_macs (k : Nat) (x : List Item) : (s.setHq k x).macs = s.macs := rfl
@[simp] theorem State.setHq_tel (k : Nat) (x : List Item) : (s.setHq k x).tel = s.tel := rfl
@[simp] theorem State.setHq_boot (k : Nat) (x : List Item) : (s.setHq k x).boot = s.boot := rfl
@[simp] theorem State.setHq_i3c (k : Nat) (x : List Item) : (s.setHq k x).i3c = s.i3c := rfl
@[simp] theorem State.setHq_wd (k : Nat) (x : List Item) : (s.setHq k x).wd = s.wd := rfl
@[simp] theorem State.setHq_evq (k : Nat) (x : List Item) : (s.setHq k x).evq = s.evq := rfl
@[simp] theorem State.setHq_evLost (k : Nat) (x : List Item) : (s.setHq k x).evLost = s.evLost := rfl
@[simp] theorem State.setHq_evLostOff (k : Nat) (x : List Item) : (s.setHq k x).evLostOff = s.evLostOff := rfl
@[simp] theorem State.setHq_xings (k : Nat) (x : List Item) : (s.setHq k x).xings = s.xings := rfl
@[simp] theorem State.setHq_cyc (k : Nat) (x : List Item) : (s.setHq k x).cyc = s.cyc := rfl
@[simp] theorem State.setHq_out (k : Nat) (x : List Item) : (s.setHq k x).out = s.out := rfl
@[simp] theorem State.setHq_free (k : Nat) (x : List Item) : (s.setHq k x).free = s.free := rfl
@[simp] theorem State.setHq_pending (k : Nat) (x : List Item) : (s.setHq k x).pending = s.pending := rfl

/-! ### setRx -/

@[simp] theorem State.setRx_clk (p : Nat) (x : List Item) : (s.setRx p x).clk = s.clk := rfl
@[simp] theorem State.setRx_regs (p : Nat) (x : List Item) : (s.setRx p x).regs = s.regs := rfl
@[simp] theorem State.setRx_cnt (p : Nat) (x : List Item) : (s.setRx p x).cnt = s.cnt := rfl
@[simp] theorem State.setRx_dom (p : Nat) (x : List Item) : (s.setRx p x).dom = s.dom := rfl
@[simp] theorem State.setRx_tab (p : Nat) (x : List Item) : (s.setRx p x).tab = s.tab := rfl
@[simp] theorem State.setRx_sched (p : Nat) (x : List Item) : (s.setRx p x).sched = s.sched := rfl
@[simp] theorem State.setRx_ports (p : Nat) (x : List Item) : (s.setRx p x).ports = s.ports := rfl
@[simp] theorem State.setRx_links (p : Nat) (x : List Item) : (s.setRx p x).links = s.links := rfl
@[simp] theorem State.setRx_peers (p : Nat) (x : List Item) : (s.setRx p x).peers = s.peers := rfl
@[simp] theorem State.setRx_planes (p : Nat) (x : List Item) : (s.setRx p x).planes = s.planes := rfl
@[simp] theorem State.setRx_prism (p : Nat) (x : List Item) : (s.setRx p x).prism = s.prism := rfl
@[simp] theorem State.setRx_optics (p : Nat) (x : List Item) : (s.setRx p x).optics = s.optics := rfl
@[simp] theorem State.setRx_canvas (p : Nat) (x : List Item) : (s.setRx p x).canvas = s.canvas := rfl
@[simp] theorem State.setRx_pal (p : Nat) (x : List Item) : (s.setRx p x).pal = s.pal := rfl
@[simp] theorem State.setRx_homes (p : Nat) (x : List Item) : (s.setRx p x).homes = s.homes := rfl
@[simp] theorem State.setRx_req (p : Nat) (x : List Item) : (s.setRx p x).req = s.req := rfl
@[simp] theorem State.setRx_mem (p : Nat) (x : List Item) : (s.setRx p x).mem = s.mem := rfl
@[simp] theorem State.setRx_timing (p : Nat) (x : List Item) : (s.setRx p x).timing = s.timing := rfl
@[simp] theorem State.setRx_host (p : Nat) (x : List Item) : (s.setRx p x).host = s.host := rfl
@[simp] theorem State.setRx_maint (p : Nat) (x : List Item) : (s.setRx p x).maint = s.maint := rfl
@[simp] theorem State.setRx_pwr (p : Nat) (x : List Item) : (s.setRx p x).pwr = s.pwr := rfl
@[simp] theorem State.setRx_macs (p : Nat) (x : List Item) : (s.setRx p x).macs = s.macs := rfl
@[simp] theorem State.setRx_tel (p : Nat) (x : List Item) : (s.setRx p x).tel = s.tel := rfl
@[simp] theorem State.setRx_boot (p : Nat) (x : List Item) : (s.setRx p x).boot = s.boot := rfl
@[simp] theorem State.setRx_i3c (p : Nat) (x : List Item) : (s.setRx p x).i3c = s.i3c := rfl
@[simp] theorem State.setRx_wd (p : Nat) (x : List Item) : (s.setRx p x).wd = s.wd := rfl
@[simp] theorem State.setRx_evq (p : Nat) (x : List Item) : (s.setRx p x).evq = s.evq := rfl
@[simp] theorem State.setRx_evLost (p : Nat) (x : List Item) : (s.setRx p x).evLost = s.evLost := rfl
@[simp] theorem State.setRx_evLostOff (p : Nat) (x : List Item) : (s.setRx p x).evLostOff = s.evLostOff := rfl
@[simp] theorem State.setRx_xings (p : Nat) (x : List Item) : (s.setRx p x).xings = s.xings := rfl
@[simp] theorem State.setRx_cyc (p : Nat) (x : List Item) : (s.setRx p x).cyc = s.cyc := rfl
@[simp] theorem State.setRx_out (p : Nat) (x : List Item) : (s.setRx p x).out = s.out := rfl
@[simp] theorem State.setRx_free (p : Nat) (x : List Item) : (s.setRx p x).free = s.free := rfl
@[simp] theorem State.setRx_pending (p : Nat) (x : List Item) : (s.setRx p x).pending = s.pending := rfl

/-! ### setWaiting -/

@[simp] theorem State.setWaiting_clk (k : Nat) (x : List Waiting) : (s.setWaiting k x).clk = s.clk := rfl
@[simp] theorem State.setWaiting_regs (k : Nat) (x : List Waiting) : (s.setWaiting k x).regs = s.regs := rfl
@[simp] theorem State.setWaiting_cnt (k : Nat) (x : List Waiting) : (s.setWaiting k x).cnt = s.cnt := rfl
@[simp] theorem State.setWaiting_dom (k : Nat) (x : List Waiting) : (s.setWaiting k x).dom = s.dom := rfl
@[simp] theorem State.setWaiting_tab (k : Nat) (x : List Waiting) : (s.setWaiting k x).tab = s.tab := rfl
@[simp] theorem State.setWaiting_sched (k : Nat) (x : List Waiting) : (s.setWaiting k x).sched = s.sched := rfl
@[simp] theorem State.setWaiting_ports (k : Nat) (x : List Waiting) : (s.setWaiting k x).ports = s.ports := rfl
@[simp] theorem State.setWaiting_links (k : Nat) (x : List Waiting) : (s.setWaiting k x).links = s.links := rfl
@[simp] theorem State.setWaiting_peers (k : Nat) (x : List Waiting) : (s.setWaiting k x).peers = s.peers := rfl
@[simp] theorem State.setWaiting_planes (k : Nat) (x : List Waiting) : (s.setWaiting k x).planes = s.planes := rfl
@[simp] theorem State.setWaiting_prism (k : Nat) (x : List Waiting) : (s.setWaiting k x).prism = s.prism := rfl
@[simp] theorem State.setWaiting_optics (k : Nat) (x : List Waiting) : (s.setWaiting k x).optics = s.optics := rfl
@[simp] theorem State.setWaiting_canvas (k : Nat) (x : List Waiting) : (s.setWaiting k x).canvas = s.canvas := rfl
@[simp] theorem State.setWaiting_pal (k : Nat) (x : List Waiting) : (s.setWaiting k x).pal = s.pal := rfl
@[simp] theorem State.setWaiting_homes (k : Nat) (x : List Waiting) : (s.setWaiting k x).homes = s.homes := rfl
@[simp] theorem State.setWaiting_req (k : Nat) (x : List Waiting) : (s.setWaiting k x).req = s.req := rfl
@[simp] theorem State.setWaiting_mem (k : Nat) (x : List Waiting) : (s.setWaiting k x).mem = s.mem := rfl
@[simp] theorem State.setWaiting_timing (k : Nat) (x : List Waiting) : (s.setWaiting k x).timing = s.timing := rfl
@[simp] theorem State.setWaiting_host (k : Nat) (x : List Waiting) : (s.setWaiting k x).host = s.host := rfl
@[simp] theorem State.setWaiting_maint (k : Nat) (x : List Waiting) : (s.setWaiting k x).maint = s.maint := rfl
@[simp] theorem State.setWaiting_pwr (k : Nat) (x : List Waiting) : (s.setWaiting k x).pwr = s.pwr := rfl
@[simp] theorem State.setWaiting_macs (k : Nat) (x : List Waiting) : (s.setWaiting k x).macs = s.macs := rfl
@[simp] theorem State.setWaiting_tel (k : Nat) (x : List Waiting) : (s.setWaiting k x).tel = s.tel := rfl
@[simp] theorem State.setWaiting_boot (k : Nat) (x : List Waiting) : (s.setWaiting k x).boot = s.boot := rfl
@[simp] theorem State.setWaiting_i3c (k : Nat) (x : List Waiting) : (s.setWaiting k x).i3c = s.i3c := rfl
@[simp] theorem State.setWaiting_wd (k : Nat) (x : List Waiting) : (s.setWaiting k x).wd = s.wd := rfl
@[simp] theorem State.setWaiting_evq (k : Nat) (x : List Waiting) : (s.setWaiting k x).evq = s.evq := rfl
@[simp] theorem State.setWaiting_evLost (k : Nat) (x : List Waiting) : (s.setWaiting k x).evLost = s.evLost := rfl
@[simp] theorem State.setWaiting_evLostOff (k : Nat) (x : List Waiting) : (s.setWaiting k x).evLostOff = s.evLostOff := rfl
@[simp] theorem State.setWaiting_xings (k : Nat) (x : List Waiting) : (s.setWaiting k x).xings = s.xings := rfl
@[simp] theorem State.setWaiting_cyc (k : Nat) (x : List Waiting) : (s.setWaiting k x).cyc = s.cyc := rfl
@[simp] theorem State.setWaiting_out (k : Nat) (x : List Waiting) : (s.setWaiting k x).out = s.out := rfl
@[simp] theorem State.setWaiting_free (k : Nat) (x : List Waiting) : (s.setWaiting k x).free = s.free := rfl
@[simp] theorem State.setWaiting_pending (k : Nat) (x : List Waiting) : (s.setWaiting k x).pending = s.pending := rfl

/-! ### setPage -/

@[simp] theorem State.setPage_clk (h : Nat) (p : Page) : (s.setPage h p).clk = s.clk := rfl
@[simp] theorem State.setPage_regs (h : Nat) (p : Page) : (s.setPage h p).regs = s.regs := rfl
@[simp] theorem State.setPage_cnt (h : Nat) (p : Page) : (s.setPage h p).cnt = s.cnt := rfl
@[simp] theorem State.setPage_dom (h : Nat) (p : Page) : (s.setPage h p).dom = s.dom := rfl
@[simp] theorem State.setPage_dp (h : Nat) (p : Page) : (s.setPage h p).dp = s.dp := rfl
@[simp] theorem State.setPage_tab (h : Nat) (p : Page) : (s.setPage h p).tab = s.tab := rfl
@[simp] theorem State.setPage_sched (h : Nat) (p : Page) : (s.setPage h p).sched = s.sched := rfl
@[simp] theorem State.setPage_ports (h : Nat) (p : Page) : (s.setPage h p).ports = s.ports := rfl
@[simp] theorem State.setPage_links (h : Nat) (p : Page) : (s.setPage h p).links = s.links := rfl
@[simp] theorem State.setPage_peers (h : Nat) (p : Page) : (s.setPage h p).peers = s.peers := rfl
@[simp] theorem State.setPage_planes (h : Nat) (p : Page) : (s.setPage h p).planes = s.planes := rfl
@[simp] theorem State.setPage_prism (h : Nat) (p : Page) : (s.setPage h p).prism = s.prism := rfl
@[simp] theorem State.setPage_optics (h : Nat) (p : Page) : (s.setPage h p).optics = s.optics := rfl
@[simp] theorem State.setPage_canvas (h : Nat) (p : Page) : (s.setPage h p).canvas = s.canvas := rfl
@[simp] theorem State.setPage_pal (h : Nat) (p : Page) : (s.setPage h p).pal = s.pal := rfl
@[simp] theorem State.setPage_homes (h : Nat) (p : Page) : (s.setPage h p).homes = s.homes := rfl
@[simp] theorem State.setPage_req (h : Nat) (p : Page) : (s.setPage h p).req = s.req := rfl
@[simp] theorem State.setPage_timing (h : Nat) (p : Page) : (s.setPage h p).timing = s.timing := rfl
@[simp] theorem State.setPage_host (h : Nat) (p : Page) : (s.setPage h p).host = s.host := rfl
@[simp] theorem State.setPage_maint (h : Nat) (p : Page) : (s.setPage h p).maint = s.maint := rfl
@[simp] theorem State.setPage_pwr (h : Nat) (p : Page) : (s.setPage h p).pwr = s.pwr := rfl
@[simp] theorem State.setPage_macs (h : Nat) (p : Page) : (s.setPage h p).macs = s.macs := rfl
@[simp] theorem State.setPage_tel (h : Nat) (p : Page) : (s.setPage h p).tel = s.tel := rfl
@[simp] theorem State.setPage_boot (h : Nat) (p : Page) : (s.setPage h p).boot = s.boot := rfl
@[simp] theorem State.setPage_i3c (h : Nat) (p : Page) : (s.setPage h p).i3c = s.i3c := rfl
@[simp] theorem State.setPage_wd (h : Nat) (p : Page) : (s.setPage h p).wd = s.wd := rfl
@[simp] theorem State.setPage_evq (h : Nat) (p : Page) : (s.setPage h p).evq = s.evq := rfl
@[simp] theorem State.setPage_evLost (h : Nat) (p : Page) : (s.setPage h p).evLost = s.evLost := rfl
@[simp] theorem State.setPage_evLostOff (h : Nat) (p : Page) : (s.setPage h p).evLostOff = s.evLostOff := rfl
@[simp] theorem State.setPage_xings (h : Nat) (p : Page) : (s.setPage h p).xings = s.xings := rfl
@[simp] theorem State.setPage_cyc (h : Nat) (p : Page) : (s.setPage h p).cyc = s.cyc := rfl
@[simp] theorem State.setPage_out (h : Nat) (p : Page) : (s.setPage h p).out = s.out := rfl
@[simp] theorem State.setPage_free (h : Nat) (p : Page) : (s.setPage h p).free = s.free := rfl
@[simp] theorem State.setPage_pending (h : Nat) (p : Page) : (s.setPage h p).pending = s.pending := rfl

/-! ### setHome -/

@[simp] theorem State.setHome_clk (d : Nat) (h : Home) : (s.setHome d h).clk = s.clk := rfl
@[simp] theorem State.setHome_regs (d : Nat) (h : Home) : (s.setHome d h).regs = s.regs := rfl
@[simp] theorem State.setHome_cnt (d : Nat) (h : Home) : (s.setHome d h).cnt = s.cnt := rfl
@[simp] theorem State.setHome_dom (d : Nat) (h : Home) : (s.setHome d h).dom = s.dom := rfl
@[simp] theorem State.setHome_dp (d : Nat) (h : Home) : (s.setHome d h).dp = s.dp := rfl
@[simp] theorem State.setHome_tab (d : Nat) (h : Home) : (s.setHome d h).tab = s.tab := rfl
@[simp] theorem State.setHome_sched (d : Nat) (h : Home) : (s.setHome d h).sched = s.sched := rfl
@[simp] theorem State.setHome_ports (d : Nat) (h : Home) : (s.setHome d h).ports = s.ports := rfl
@[simp] theorem State.setHome_links (d : Nat) (h : Home) : (s.setHome d h).links = s.links := rfl
@[simp] theorem State.setHome_peers (d : Nat) (h : Home) : (s.setHome d h).peers = s.peers := rfl
@[simp] theorem State.setHome_planes (d : Nat) (h : Home) : (s.setHome d h).planes = s.planes := rfl
@[simp] theorem State.setHome_prism (d : Nat) (h : Home) : (s.setHome d h).prism = s.prism := rfl
@[simp] theorem State.setHome_optics (d : Nat) (h : Home) : (s.setHome d h).optics = s.optics := rfl
@[simp] theorem State.setHome_canvas (d : Nat) (h : Home) : (s.setHome d h).canvas = s.canvas := rfl
@[simp] theorem State.setHome_pal (d : Nat) (h : Home) : (s.setHome d h).pal = s.pal := rfl
@[simp] theorem State.setHome_req (d : Nat) (h : Home) : (s.setHome d h).req = s.req := rfl
@[simp] theorem State.setHome_mem (d : Nat) (h : Home) : (s.setHome d h).mem = s.mem := rfl
@[simp] theorem State.setHome_timing (d : Nat) (h : Home) : (s.setHome d h).timing = s.timing := rfl
@[simp] theorem State.setHome_host (d : Nat) (h : Home) : (s.setHome d h).host = s.host := rfl
@[simp] theorem State.setHome_maint (d : Nat) (h : Home) : (s.setHome d h).maint = s.maint := rfl
@[simp] theorem State.setHome_pwr (d : Nat) (h : Home) : (s.setHome d h).pwr = s.pwr := rfl
@[simp] theorem State.setHome_macs (d : Nat) (h : Home) : (s.setHome d h).macs = s.macs := rfl
@[simp] theorem State.setHome_tel (d : Nat) (h : Home) : (s.setHome d h).tel = s.tel := rfl
@[simp] theorem State.setHome_boot (d : Nat) (h : Home) : (s.setHome d h).boot = s.boot := rfl
@[simp] theorem State.setHome_i3c (d : Nat) (h : Home) : (s.setHome d h).i3c = s.i3c := rfl
@[simp] theorem State.setHome_wd (d : Nat) (h : Home) : (s.setHome d h).wd = s.wd := rfl
@[simp] theorem State.setHome_evq (d : Nat) (h : Home) : (s.setHome d h).evq = s.evq := rfl
@[simp] theorem State.setHome_evLost (d : Nat) (h : Home) : (s.setHome d h).evLost = s.evLost := rfl
@[simp] theorem State.setHome_evLostOff (d : Nat) (h : Home) : (s.setHome d h).evLostOff = s.evLostOff := rfl
@[simp] theorem State.setHome_xings (d : Nat) (h : Home) : (s.setHome d h).xings = s.xings := rfl
@[simp] theorem State.setHome_cyc (d : Nat) (h : Home) : (s.setHome d h).cyc = s.cyc := rfl
@[simp] theorem State.setHome_out (d : Nat) (h : Home) : (s.setHome d h).out = s.out := rfl
@[simp] theorem State.setHome_free (d : Nat) (h : Home) : (s.setHome d h).free = s.free := rfl
@[simp] theorem State.setHome_pending (d : Nat) (h : Home) : (s.setHome d h).pending = s.pending := rfl

/-! ### setRing -/

@[simp] theorem State.setRing_clk (r : Nat) (x : HostRing) : (s.setRing r x).clk = s.clk := rfl
@[simp] theorem State.setRing_regs (r : Nat) (x : HostRing) : (s.setRing r x).regs = s.regs := rfl
@[simp] theorem State.setRing_cnt (r : Nat) (x : HostRing) : (s.setRing r x).cnt = s.cnt := rfl
@[simp] theorem State.setRing_dom (r : Nat) (x : HostRing) : (s.setRing r x).dom = s.dom := rfl
@[simp] theorem State.setRing_dp (r : Nat) (x : HostRing) : (s.setRing r x).dp = s.dp := rfl
@[simp] theorem State.setRing_tab (r : Nat) (x : HostRing) : (s.setRing r x).tab = s.tab := rfl
@[simp] theorem State.setRing_sched (r : Nat) (x : HostRing) : (s.setRing r x).sched = s.sched := rfl
@[simp] theorem State.setRing_ports (r : Nat) (x : HostRing) : (s.setRing r x).ports = s.ports := rfl
@[simp] theorem State.setRing_links (r : Nat) (x : HostRing) : (s.setRing r x).links = s.links := rfl
@[simp] theorem State.setRing_peers (r : Nat) (x : HostRing) : (s.setRing r x).peers = s.peers := rfl
@[simp] theorem State.setRing_planes (r : Nat) (x : HostRing) : (s.setRing r x).planes = s.planes := rfl
@[simp] theorem State.setRing_prism (r : Nat) (x : HostRing) : (s.setRing r x).prism = s.prism := rfl
@[simp] theorem State.setRing_optics (r : Nat) (x : HostRing) : (s.setRing r x).optics = s.optics := rfl
@[simp] theorem State.setRing_canvas (r : Nat) (x : HostRing) : (s.setRing r x).canvas = s.canvas := rfl
@[simp] theorem State.setRing_pal (r : Nat) (x : HostRing) : (s.setRing r x).pal = s.pal := rfl
@[simp] theorem State.setRing_homes (r : Nat) (x : HostRing) : (s.setRing r x).homes = s.homes := rfl
@[simp] theorem State.setRing_req (r : Nat) (x : HostRing) : (s.setRing r x).req = s.req := rfl
@[simp] theorem State.setRing_mem (r : Nat) (x : HostRing) : (s.setRing r x).mem = s.mem := rfl
@[simp] theorem State.setRing_timing (r : Nat) (x : HostRing) : (s.setRing r x).timing = s.timing := rfl
@[simp] theorem State.setRing_maint (r : Nat) (x : HostRing) : (s.setRing r x).maint = s.maint := rfl
@[simp] theorem State.setRing_pwr (r : Nat) (x : HostRing) : (s.setRing r x).pwr = s.pwr := rfl
@[simp] theorem State.setRing_macs (r : Nat) (x : HostRing) : (s.setRing r x).macs = s.macs := rfl
@[simp] theorem State.setRing_tel (r : Nat) (x : HostRing) : (s.setRing r x).tel = s.tel := rfl
@[simp] theorem State.setRing_boot (r : Nat) (x : HostRing) : (s.setRing r x).boot = s.boot := rfl
@[simp] theorem State.setRing_i3c (r : Nat) (x : HostRing) : (s.setRing r x).i3c = s.i3c := rfl
@[simp] theorem State.setRing_wd (r : Nat) (x : HostRing) : (s.setRing r x).wd = s.wd := rfl
@[simp] theorem State.setRing_evq (r : Nat) (x : HostRing) : (s.setRing r x).evq = s.evq := rfl
@[simp] theorem State.setRing_evLost (r : Nat) (x : HostRing) : (s.setRing r x).evLost = s.evLost := rfl
@[simp] theorem State.setRing_evLostOff (r : Nat) (x : HostRing) : (s.setRing r x).evLostOff = s.evLostOff := rfl
@[simp] theorem State.setRing_xings (r : Nat) (x : HostRing) : (s.setRing r x).xings = s.xings := rfl
@[simp] theorem State.setRing_cyc (r : Nat) (x : HostRing) : (s.setRing r x).cyc = s.cyc := rfl
@[simp] theorem State.setRing_out (r : Nat) (x : HostRing) : (s.setRing r x).out = s.out := rfl
@[simp] theorem State.setRing_free (r : Nat) (x : HostRing) : (s.setRing r x).free = s.free := rfl
@[simp] theorem State.setRing_pending (r : Nat) (x : HostRing) : (s.setRing r x).pending = s.pending := rfl

/-! ### setEngine -/

@[simp] theorem State.setEngine_clk (e : Nat) (x : Engine) : (s.setEngine e x).clk = s.clk := rfl
@[simp] theorem State.setEngine_regs (e : Nat) (x : Engine) : (s.setEngine e x).regs = s.regs := rfl
@[simp] theorem State.setEngine_cnt (e : Nat) (x : Engine) : (s.setEngine e x).cnt = s.cnt := rfl
@[simp] theorem State.setEngine_dom (e : Nat) (x : Engine) : (s.setEngine e x).dom = s.dom := rfl
@[simp] theorem State.setEngine_dp (e : Nat) (x : Engine) : (s.setEngine e x).dp = s.dp := rfl
@[simp] theorem State.setEngine_tab (e : Nat) (x : Engine) : (s.setEngine e x).tab = s.tab := rfl
@[simp] theorem State.setEngine_sched (e : Nat) (x : Engine) : (s.setEngine e x).sched = s.sched := rfl
@[simp] theorem State.setEngine_ports (e : Nat) (x : Engine) : (s.setEngine e x).ports = s.ports := rfl
@[simp] theorem State.setEngine_links (e : Nat) (x : Engine) : (s.setEngine e x).links = s.links := rfl
@[simp] theorem State.setEngine_peers (e : Nat) (x : Engine) : (s.setEngine e x).peers = s.peers := rfl
@[simp] theorem State.setEngine_planes (e : Nat) (x : Engine) : (s.setEngine e x).planes = s.planes := rfl
@[simp] theorem State.setEngine_prism (e : Nat) (x : Engine) : (s.setEngine e x).prism = s.prism := rfl
@[simp] theorem State.setEngine_optics (e : Nat) (x : Engine) : (s.setEngine e x).optics = s.optics := rfl
@[simp] theorem State.setEngine_canvas (e : Nat) (x : Engine) : (s.setEngine e x).canvas = s.canvas := rfl
@[simp] theorem State.setEngine_homes (e : Nat) (x : Engine) : (s.setEngine e x).homes = s.homes := rfl
@[simp] theorem State.setEngine_req (e : Nat) (x : Engine) : (s.setEngine e x).req = s.req := rfl
@[simp] theorem State.setEngine_mem (e : Nat) (x : Engine) : (s.setEngine e x).mem = s.mem := rfl
@[simp] theorem State.setEngine_timing (e : Nat) (x : Engine) : (s.setEngine e x).timing = s.timing := rfl
@[simp] theorem State.setEngine_host (e : Nat) (x : Engine) : (s.setEngine e x).host = s.host := rfl
@[simp] theorem State.setEngine_maint (e : Nat) (x : Engine) : (s.setEngine e x).maint = s.maint := rfl
@[simp] theorem State.setEngine_pwr (e : Nat) (x : Engine) : (s.setEngine e x).pwr = s.pwr := rfl
@[simp] theorem State.setEngine_macs (e : Nat) (x : Engine) : (s.setEngine e x).macs = s.macs := rfl
@[simp] theorem State.setEngine_tel (e : Nat) (x : Engine) : (s.setEngine e x).tel = s.tel := rfl
@[simp] theorem State.setEngine_boot (e : Nat) (x : Engine) : (s.setEngine e x).boot = s.boot := rfl
@[simp] theorem State.setEngine_i3c (e : Nat) (x : Engine) : (s.setEngine e x).i3c = s.i3c := rfl
@[simp] theorem State.setEngine_wd (e : Nat) (x : Engine) : (s.setEngine e x).wd = s.wd := rfl
@[simp] theorem State.setEngine_evq (e : Nat) (x : Engine) : (s.setEngine e x).evq = s.evq := rfl
@[simp] theorem State.setEngine_evLost (e : Nat) (x : Engine) : (s.setEngine e x).evLost = s.evLost := rfl
@[simp] theorem State.setEngine_evLostOff (e : Nat) (x : Engine) : (s.setEngine e x).evLostOff = s.evLostOff := rfl
@[simp] theorem State.setEngine_xings (e : Nat) (x : Engine) : (s.setEngine e x).xings = s.xings := rfl
@[simp] theorem State.setEngine_cyc (e : Nat) (x : Engine) : (s.setEngine e x).cyc = s.cyc := rfl
@[simp] theorem State.setEngine_out (e : Nat) (x : Engine) : (s.setEngine e x).out = s.out := rfl
@[simp] theorem State.setEngine_free (e : Nat) (x : Engine) : (s.setEngine e x).free = s.free := rfl
@[simp] theorem State.setEngine_pending (e : Nat) (x : Engine) : (s.setEngine e x).pending = s.pending := rfl

/-! ### setCtx -/

@[simp] theorem State.setCtx_clk (n : Nat) (c : Ctx) : (s.setCtx n c).clk = s.clk := rfl
@[simp] theorem State.setCtx_regs (n : Nat) (c : Ctx) : (s.setCtx n c).regs = s.regs := rfl
@[simp] theorem State.setCtx_cnt (n : Nat) (c : Ctx) : (s.setCtx n c).cnt = s.cnt := rfl
@[simp] theorem State.setCtx_dom (n : Nat) (c : Ctx) : (s.setCtx n c).dom = s.dom := rfl
@[simp] theorem State.setCtx_dp (n : Nat) (c : Ctx) : (s.setCtx n c).dp = s.dp := rfl
@[simp] theorem State.setCtx_tab (n : Nat) (c : Ctx) : (s.setCtx n c).tab = s.tab := rfl
@[simp] theorem State.setCtx_sched (n : Nat) (c : Ctx) : (s.setCtx n c).sched = s.sched := rfl
@[simp] theorem State.setCtx_ports (n : Nat) (c : Ctx) : (s.setCtx n c).ports = s.ports := rfl
@[simp] theorem State.setCtx_links (n : Nat) (c : Ctx) : (s.setCtx n c).links = s.links := rfl
@[simp] theorem State.setCtx_peers (n : Nat) (c : Ctx) : (s.setCtx n c).peers = s.peers := rfl
@[simp] theorem State.setCtx_planes (n : Nat) (c : Ctx) : (s.setCtx n c).planes = s.planes := rfl
@[simp] theorem State.setCtx_prism (n : Nat) (c : Ctx) : (s.setCtx n c).prism = s.prism := rfl
@[simp] theorem State.setCtx_optics (n : Nat) (c : Ctx) : (s.setCtx n c).optics = s.optics := rfl
@[simp] theorem State.setCtx_pal (n : Nat) (c : Ctx) : (s.setCtx n c).pal = s.pal := rfl
@[simp] theorem State.setCtx_homes (n : Nat) (c : Ctx) : (s.setCtx n c).homes = s.homes := rfl
@[simp] theorem State.setCtx_req (n : Nat) (c : Ctx) : (s.setCtx n c).req = s.req := rfl
@[simp] theorem State.setCtx_mem (n : Nat) (c : Ctx) : (s.setCtx n c).mem = s.mem := rfl
@[simp] theorem State.setCtx_timing (n : Nat) (c : Ctx) : (s.setCtx n c).timing = s.timing := rfl
@[simp] theorem State.setCtx_host (n : Nat) (c : Ctx) : (s.setCtx n c).host = s.host := rfl
@[simp] theorem State.setCtx_maint (n : Nat) (c : Ctx) : (s.setCtx n c).maint = s.maint := rfl
@[simp] theorem State.setCtx_pwr (n : Nat) (c : Ctx) : (s.setCtx n c).pwr = s.pwr := rfl
@[simp] theorem State.setCtx_macs (n : Nat) (c : Ctx) : (s.setCtx n c).macs = s.macs := rfl
@[simp] theorem State.setCtx_tel (n : Nat) (c : Ctx) : (s.setCtx n c).tel = s.tel := rfl
@[simp] theorem State.setCtx_boot (n : Nat) (c : Ctx) : (s.setCtx n c).boot = s.boot := rfl
@[simp] theorem State.setCtx_i3c (n : Nat) (c : Ctx) : (s.setCtx n c).i3c = s.i3c := rfl
@[simp] theorem State.setCtx_wd (n : Nat) (c : Ctx) : (s.setCtx n c).wd = s.wd := rfl
@[simp] theorem State.setCtx_evq (n : Nat) (c : Ctx) : (s.setCtx n c).evq = s.evq := rfl
@[simp] theorem State.setCtx_evLost (n : Nat) (c : Ctx) : (s.setCtx n c).evLost = s.evLost := rfl
@[simp] theorem State.setCtx_evLostOff (n : Nat) (c : Ctx) : (s.setCtx n c).evLostOff = s.evLostOff := rfl
@[simp] theorem State.setCtx_xings (n : Nat) (c : Ctx) : (s.setCtx n c).xings = s.xings := rfl
@[simp] theorem State.setCtx_cyc (n : Nat) (c : Ctx) : (s.setCtx n c).cyc = s.cyc := rfl
@[simp] theorem State.setCtx_out (n : Nat) (c : Ctx) : (s.setCtx n c).out = s.out := rfl
@[simp] theorem State.setCtx_free (n : Nat) (c : Ctx) : (s.setCtx n c).free = s.free := rfl
@[simp] theorem State.setCtx_pending (n : Nat) (c : Ctx) : (s.setCtx n c).pending = s.pending := rfl

/-! ### setLaser -/

@[simp] theorem State.setLaser_clk (e l : Nat) (x : Laser) : (s.setLaser e l x).clk = s.clk := rfl
@[simp] theorem State.setLaser_regs (e l : Nat) (x : Laser) : (s.setLaser e l x).regs = s.regs := rfl
@[simp] theorem State.setLaser_cnt (e l : Nat) (x : Laser) : (s.setLaser e l x).cnt = s.cnt := rfl
@[simp] theorem State.setLaser_dom (e l : Nat) (x : Laser) : (s.setLaser e l x).dom = s.dom := rfl
@[simp] theorem State.setLaser_dp (e l : Nat) (x : Laser) : (s.setLaser e l x).dp = s.dp := rfl
@[simp] theorem State.setLaser_tab (e l : Nat) (x : Laser) : (s.setLaser e l x).tab = s.tab := rfl
@[simp] theorem State.setLaser_sched (e l : Nat) (x : Laser) : (s.setLaser e l x).sched = s.sched := rfl
@[simp] theorem State.setLaser_ports (e l : Nat) (x : Laser) : (s.setLaser e l x).ports = s.ports := rfl
@[simp] theorem State.setLaser_links (e l : Nat) (x : Laser) : (s.setLaser e l x).links = s.links := rfl
@[simp] theorem State.setLaser_peers (e l : Nat) (x : Laser) : (s.setLaser e l x).peers = s.peers := rfl
@[simp] theorem State.setLaser_planes (e l : Nat) (x : Laser) : (s.setLaser e l x).planes = s.planes := rfl
@[simp] theorem State.setLaser_prism (e l : Nat) (x : Laser) : (s.setLaser e l x).prism = s.prism := rfl
@[simp] theorem State.setLaser_canvas (e l : Nat) (x : Laser) : (s.setLaser e l x).canvas = s.canvas := rfl
@[simp] theorem State.setLaser_pal (e l : Nat) (x : Laser) : (s.setLaser e l x).pal = s.pal := rfl
@[simp] theorem State.setLaser_homes (e l : Nat) (x : Laser) : (s.setLaser e l x).homes = s.homes := rfl
@[simp] theorem State.setLaser_req (e l : Nat) (x : Laser) : (s.setLaser e l x).req = s.req := rfl
@[simp] theorem State.setLaser_mem (e l : Nat) (x : Laser) : (s.setLaser e l x).mem = s.mem := rfl
@[simp] theorem State.setLaser_timing (e l : Nat) (x : Laser) : (s.setLaser e l x).timing = s.timing := rfl
@[simp] theorem State.setLaser_host (e l : Nat) (x : Laser) : (s.setLaser e l x).host = s.host := rfl
@[simp] theorem State.setLaser_maint (e l : Nat) (x : Laser) : (s.setLaser e l x).maint = s.maint := rfl
@[simp] theorem State.setLaser_pwr (e l : Nat) (x : Laser) : (s.setLaser e l x).pwr = s.pwr := rfl
@[simp] theorem State.setLaser_macs (e l : Nat) (x : Laser) : (s.setLaser e l x).macs = s.macs := rfl
@[simp] theorem State.setLaser_tel (e l : Nat) (x : Laser) : (s.setLaser e l x).tel = s.tel := rfl
@[simp] theorem State.setLaser_boot (e l : Nat) (x : Laser) : (s.setLaser e l x).boot = s.boot := rfl
@[simp] theorem State.setLaser_i3c (e l : Nat) (x : Laser) : (s.setLaser e l x).i3c = s.i3c := rfl
@[simp] theorem State.setLaser_wd (e l : Nat) (x : Laser) : (s.setLaser e l x).wd = s.wd := rfl
@[simp] theorem State.setLaser_evq (e l : Nat) (x : Laser) : (s.setLaser e l x).evq = s.evq := rfl
@[simp] theorem State.setLaser_evLost (e l : Nat) (x : Laser) : (s.setLaser e l x).evLost = s.evLost := rfl
@[simp] theorem State.setLaser_evLostOff (e l : Nat) (x : Laser) : (s.setLaser e l x).evLostOff = s.evLostOff := rfl
@[simp] theorem State.setLaser_xings (e l : Nat) (x : Laser) : (s.setLaser e l x).xings = s.xings := rfl
@[simp] theorem State.setLaser_cyc (e l : Nat) (x : Laser) : (s.setLaser e l x).cyc = s.cyc := rfl
@[simp] theorem State.setLaser_out (e l : Nat) (x : Laser) : (s.setLaser e l x).out = s.out := rfl
@[simp] theorem State.setLaser_free (e l : Nat) (x : Laser) : (s.setLaser e l x).free = s.free := rfl
@[simp] theorem State.setLaser_pending (e l : Nat) (x : Laser) : (s.setLaser e l x).pending = s.pending := rfl

/-! ### setPart -/

@[simp] theorem State.setPart_clk (k : Nat) (x : Part) : (s.setPart k x).clk = s.clk := rfl
@[simp] theorem State.setPart_regs (k : Nat) (x : Part) : (s.setPart k x).regs = s.regs := rfl
@[simp] theorem State.setPart_cnt (k : Nat) (x : Part) : (s.setPart k x).cnt = s.cnt := rfl
@[simp] theorem State.setPart_dom (k : Nat) (x : Part) : (s.setPart k x).dom = s.dom := rfl
@[simp] theorem State.setPart_dp (k : Nat) (x : Part) : (s.setPart k x).dp = s.dp := rfl
@[simp] theorem State.setPart_tab (k : Nat) (x : Part) : (s.setPart k x).tab = s.tab := rfl
@[simp] theorem State.setPart_sched (k : Nat) (x : Part) : (s.setPart k x).sched = s.sched := rfl
@[simp] theorem State.setPart_ports (k : Nat) (x : Part) : (s.setPart k x).ports = s.ports := rfl
@[simp] theorem State.setPart_links (k : Nat) (x : Part) : (s.setPart k x).links = s.links := rfl
@[simp] theorem State.setPart_peers (k : Nat) (x : Part) : (s.setPart k x).peers = s.peers := rfl
@[simp] theorem State.setPart_planes (k : Nat) (x : Part) : (s.setPart k x).planes = s.planes := rfl
@[simp] theorem State.setPart_prism (k : Nat) (x : Part) : (s.setPart k x).prism = s.prism := rfl
@[simp] theorem State.setPart_optics (k : Nat) (x : Part) : (s.setPart k x).optics = s.optics := rfl
@[simp] theorem State.setPart_canvas (k : Nat) (x : Part) : (s.setPart k x).canvas = s.canvas := rfl
@[simp] theorem State.setPart_pal (k : Nat) (x : Part) : (s.setPart k x).pal = s.pal := rfl
@[simp] theorem State.setPart_homes (k : Nat) (x : Part) : (s.setPart k x).homes = s.homes := rfl
@[simp] theorem State.setPart_req (k : Nat) (x : Part) : (s.setPart k x).req = s.req := rfl
@[simp] theorem State.setPart_mem (k : Nat) (x : Part) : (s.setPart k x).mem = s.mem := rfl
@[simp] theorem State.setPart_timing (k : Nat) (x : Part) : (s.setPart k x).timing = s.timing := rfl
@[simp] theorem State.setPart_host (k : Nat) (x : Part) : (s.setPart k x).host = s.host := rfl
@[simp] theorem State.setPart_maint (k : Nat) (x : Part) : (s.setPart k x).maint = s.maint := rfl
@[simp] theorem State.setPart_pwr (k : Nat) (x : Part) : (s.setPart k x).pwr = s.pwr := rfl
@[simp] theorem State.setPart_macs (k : Nat) (x : Part) : (s.setPart k x).macs = s.macs := rfl
@[simp] theorem State.setPart_boot (k : Nat) (x : Part) : (s.setPart k x).boot = s.boot := rfl
@[simp] theorem State.setPart_i3c (k : Nat) (x : Part) : (s.setPart k x).i3c = s.i3c := rfl
@[simp] theorem State.setPart_wd (k : Nat) (x : Part) : (s.setPart k x).wd = s.wd := rfl
@[simp] theorem State.setPart_evq (k : Nat) (x : Part) : (s.setPart k x).evq = s.evq := rfl
@[simp] theorem State.setPart_evLost (k : Nat) (x : Part) : (s.setPart k x).evLost = s.evLost := rfl
@[simp] theorem State.setPart_evLostOff (k : Nat) (x : Part) : (s.setPart k x).evLostOff = s.evLostOff := rfl
@[simp] theorem State.setPart_xings (k : Nat) (x : Part) : (s.setPart k x).xings = s.xings := rfl
@[simp] theorem State.setPart_cyc (k : Nat) (x : Part) : (s.setPart k x).cyc = s.cyc := rfl
@[simp] theorem State.setPart_out (k : Nat) (x : Part) : (s.setPart k x).out = s.out := rfl
@[simp] theorem State.setPart_free (k : Nat) (x : Part) : (s.setPart k x).free = s.free := rfl
@[simp] theorem State.setPart_pending (k : Nat) (x : Part) : (s.setPart k x).pending = s.pending := rfl

/-! ### partErr -/

@[simp] theorem State.partErr_clk (kind index input n : Nat) : (s.partErr kind index input n).clk = s.clk := rfl
@[simp] theorem State.partErr_regs (kind index input n : Nat) : (s.partErr kind index input n).regs = s.regs := rfl
@[simp] theorem State.partErr_cnt (kind index input n : Nat) : (s.partErr kind index input n).cnt = s.cnt := rfl
@[simp] theorem State.partErr_dom (kind index input n : Nat) : (s.partErr kind index input n).dom = s.dom := rfl
@[simp] theorem State.partErr_dp (kind index input n : Nat) : (s.partErr kind index input n).dp = s.dp := rfl
@[simp] theorem State.partErr_tab (kind index input n : Nat) : (s.partErr kind index input n).tab = s.tab := rfl
@[simp] theorem State.partErr_sched (kind index input n : Nat) : (s.partErr kind index input n).sched = s.sched := rfl
@[simp] theorem State.partErr_ports (kind index input n : Nat) : (s.partErr kind index input n).ports = s.ports := rfl
@[simp] theorem State.partErr_links (kind index input n : Nat) : (s.partErr kind index input n).links = s.links := rfl
@[simp] theorem State.partErr_peers (kind index input n : Nat) : (s.partErr kind index input n).peers = s.peers := rfl
@[simp] theorem State.partErr_planes (kind index input n : Nat) : (s.partErr kind index input n).planes = s.planes := rfl
@[simp] theorem State.partErr_prism (kind index input n : Nat) : (s.partErr kind index input n).prism = s.prism := rfl
@[simp] theorem State.partErr_optics (kind index input n : Nat) : (s.partErr kind index input n).optics = s.optics := rfl
@[simp] theorem State.partErr_canvas (kind index input n : Nat) : (s.partErr kind index input n).canvas = s.canvas := rfl
@[simp] theorem State.partErr_pal (kind index input n : Nat) : (s.partErr kind index input n).pal = s.pal := rfl
@[simp] theorem State.partErr_homes (kind index input n : Nat) : (s.partErr kind index input n).homes = s.homes := rfl
@[simp] theorem State.partErr_req (kind index input n : Nat) : (s.partErr kind index input n).req = s.req := rfl
@[simp] theorem State.partErr_mem (kind index input n : Nat) : (s.partErr kind index input n).mem = s.mem := rfl
@[simp] theorem State.partErr_timing (kind index input n : Nat) : (s.partErr kind index input n).timing = s.timing := rfl
@[simp] theorem State.partErr_host (kind index input n : Nat) : (s.partErr kind index input n).host = s.host := rfl
@[simp] theorem State.partErr_maint (kind index input n : Nat) : (s.partErr kind index input n).maint = s.maint := rfl
@[simp] theorem State.partErr_pwr (kind index input n : Nat) : (s.partErr kind index input n).pwr = s.pwr := rfl
@[simp] theorem State.partErr_macs (kind index input n : Nat) : (s.partErr kind index input n).macs = s.macs := rfl
@[simp] theorem State.partErr_boot (kind index input n : Nat) : (s.partErr kind index input n).boot = s.boot := rfl
@[simp] theorem State.partErr_i3c (kind index input n : Nat) : (s.partErr kind index input n).i3c = s.i3c := rfl
@[simp] theorem State.partErr_wd (kind index input n : Nat) : (s.partErr kind index input n).wd = s.wd := rfl
@[simp] theorem State.partErr_evq (kind index input n : Nat) : (s.partErr kind index input n).evq = s.evq := rfl
@[simp] theorem State.partErr_evLost (kind index input n : Nat) : (s.partErr kind index input n).evLost = s.evLost := rfl
@[simp] theorem State.partErr_evLostOff (kind index input n : Nat) : (s.partErr kind index input n).evLostOff = s.evLostOff := rfl
@[simp] theorem State.partErr_xings (kind index input n : Nat) : (s.partErr kind index input n).xings = s.xings := rfl
@[simp] theorem State.partErr_cyc (kind index input n : Nat) : (s.partErr kind index input n).cyc = s.cyc := rfl
@[simp] theorem State.partErr_out (kind index input n : Nat) : (s.partErr kind index input n).out = s.out := rfl
@[simp] theorem State.partErr_free (kind index input n : Nat) : (s.partErr kind index input n).free = s.free := rfl
@[simp] theorem State.partErr_pending (kind index input n : Nat) : (s.partErr kind index input n).pending = s.pending := rfl

/-! ### setMac -/

@[simp] theorem State.setMac_clk (k : Nat) (e : Option MacEntry) : (s.setMac k e).clk = s.clk := rfl
@[simp] theorem State.setMac_regs (k : Nat) (e : Option MacEntry) : (s.setMac k e).regs = s.regs := rfl
@[simp] theorem State.setMac_cnt (k : Nat) (e : Option MacEntry) : (s.setMac k e).cnt = s.cnt := rfl
@[simp] theorem State.setMac_dom (k : Nat) (e : Option MacEntry) : (s.setMac k e).dom = s.dom := rfl
@[simp] theorem State.setMac_dp (k : Nat) (e : Option MacEntry) : (s.setMac k e).dp = s.dp := rfl
@[simp] theorem State.setMac_tab (k : Nat) (e : Option MacEntry) : (s.setMac k e).tab = s.tab := rfl
@[simp] theorem State.setMac_sched (k : Nat) (e : Option MacEntry) : (s.setMac k e).sched = s.sched := rfl
@[simp] theorem State.setMac_ports (k : Nat) (e : Option MacEntry) : (s.setMac k e).ports = s.ports := rfl
@[simp] theorem State.setMac_links (k : Nat) (e : Option MacEntry) : (s.setMac k e).links = s.links := rfl
@[simp] theorem State.setMac_peers (k : Nat) (e : Option MacEntry) : (s.setMac k e).peers = s.peers := rfl
@[simp] theorem State.setMac_planes (k : Nat) (e : Option MacEntry) : (s.setMac k e).planes = s.planes := rfl
@[simp] theorem State.setMac_prism (k : Nat) (e : Option MacEntry) : (s.setMac k e).prism = s.prism := rfl
@[simp] theorem State.setMac_optics (k : Nat) (e : Option MacEntry) : (s.setMac k e).optics = s.optics := rfl
@[simp] theorem State.setMac_canvas (k : Nat) (e : Option MacEntry) : (s.setMac k e).canvas = s.canvas := rfl
@[simp] theorem State.setMac_pal (k : Nat) (e : Option MacEntry) : (s.setMac k e).pal = s.pal := rfl
@[simp] theorem State.setMac_homes (k : Nat) (e : Option MacEntry) : (s.setMac k e).homes = s.homes := rfl
@[simp] theorem State.setMac_req (k : Nat) (e : Option MacEntry) : (s.setMac k e).req = s.req := rfl
@[simp] theorem State.setMac_mem (k : Nat) (e : Option MacEntry) : (s.setMac k e).mem = s.mem := rfl
@[simp] theorem State.setMac_timing (k : Nat) (e : Option MacEntry) : (s.setMac k e).timing = s.timing := rfl
@[simp] theorem State.setMac_host (k : Nat) (e : Option MacEntry) : (s.setMac k e).host = s.host := rfl
@[simp] theorem State.setMac_maint (k : Nat) (e : Option MacEntry) : (s.setMac k e).maint = s.maint := rfl
@[simp] theorem State.setMac_pwr (k : Nat) (e : Option MacEntry) : (s.setMac k e).pwr = s.pwr := rfl
@[simp] theorem State.setMac_tel (k : Nat) (e : Option MacEntry) : (s.setMac k e).tel = s.tel := rfl
@[simp] theorem State.setMac_boot (k : Nat) (e : Option MacEntry) : (s.setMac k e).boot = s.boot := rfl
@[simp] theorem State.setMac_i3c (k : Nat) (e : Option MacEntry) : (s.setMac k e).i3c = s.i3c := rfl
@[simp] theorem State.setMac_wd (k : Nat) (e : Option MacEntry) : (s.setMac k e).wd = s.wd := rfl
@[simp] theorem State.setMac_evq (k : Nat) (e : Option MacEntry) : (s.setMac k e).evq = s.evq := rfl
@[simp] theorem State.setMac_evLost (k : Nat) (e : Option MacEntry) : (s.setMac k e).evLost = s.evLost := rfl
@[simp] theorem State.setMac_evLostOff (k : Nat) (e : Option MacEntry) : (s.setMac k e).evLostOff = s.evLostOff := rfl
@[simp] theorem State.setMac_xings (k : Nat) (e : Option MacEntry) : (s.setMac k e).xings = s.xings := rfl
@[simp] theorem State.setMac_cyc (k : Nat) (e : Option MacEntry) : (s.setMac k e).cyc = s.cyc := rfl
@[simp] theorem State.setMac_out (k : Nat) (e : Option MacEntry) : (s.setMac k e).out = s.out := rfl
@[simp] theorem State.setMac_free (k : Nat) (e : Option MacEntry) : (s.setMac k e).free = s.free := rfl
@[simp] theorem State.setMac_pending (k : Nat) (e : Option MacEntry) : (s.setMac k e).pending = s.pending := rfl

/-! ### setLimit -/

@[simp] theorem State.setLimit_clk (l : Nat) (x : RateLim) : (s.setLimit l x).clk = s.clk := rfl
@[simp] theorem State.setLimit_regs (l : Nat) (x : RateLim) : (s.setLimit l x).regs = s.regs := rfl
@[simp] theorem State.setLimit_cnt (l : Nat) (x : RateLim) : (s.setLimit l x).cnt = s.cnt := rfl
@[simp] theorem State.setLimit_dom (l : Nat) (x : RateLim) : (s.setLimit l x).dom = s.dom := rfl
@[simp] theorem State.setLimit_tab (l : Nat) (x : RateLim) : (s.setLimit l x).tab = s.tab := rfl
@[simp] theorem State.setLimit_sched (l : Nat) (x : RateLim) : (s.setLimit l x).sched = s.sched := rfl
@[simp] theorem State.setLimit_ports (l : Nat) (x : RateLim) : (s.setLimit l x).ports = s.ports := rfl
@[simp] theorem State.setLimit_links (l : Nat) (x : RateLim) : (s.setLimit l x).links = s.links := rfl
@[simp] theorem State.setLimit_peers (l : Nat) (x : RateLim) : (s.setLimit l x).peers = s.peers := rfl
@[simp] theorem State.setLimit_planes (l : Nat) (x : RateLim) : (s.setLimit l x).planes = s.planes := rfl
@[simp] theorem State.setLimit_prism (l : Nat) (x : RateLim) : (s.setLimit l x).prism = s.prism := rfl
@[simp] theorem State.setLimit_optics (l : Nat) (x : RateLim) : (s.setLimit l x).optics = s.optics := rfl
@[simp] theorem State.setLimit_canvas (l : Nat) (x : RateLim) : (s.setLimit l x).canvas = s.canvas := rfl
@[simp] theorem State.setLimit_pal (l : Nat) (x : RateLim) : (s.setLimit l x).pal = s.pal := rfl
@[simp] theorem State.setLimit_homes (l : Nat) (x : RateLim) : (s.setLimit l x).homes = s.homes := rfl
@[simp] theorem State.setLimit_req (l : Nat) (x : RateLim) : (s.setLimit l x).req = s.req := rfl
@[simp] theorem State.setLimit_mem (l : Nat) (x : RateLim) : (s.setLimit l x).mem = s.mem := rfl
@[simp] theorem State.setLimit_timing (l : Nat) (x : RateLim) : (s.setLimit l x).timing = s.timing := rfl
@[simp] theorem State.setLimit_host (l : Nat) (x : RateLim) : (s.setLimit l x).host = s.host := rfl
@[simp] theorem State.setLimit_maint (l : Nat) (x : RateLim) : (s.setLimit l x).maint = s.maint := rfl
@[simp] theorem State.setLimit_pwr (l : Nat) (x : RateLim) : (s.setLimit l x).pwr = s.pwr := rfl
@[simp] theorem State.setLimit_macs (l : Nat) (x : RateLim) : (s.setLimit l x).macs = s.macs := rfl
@[simp] theorem State.setLimit_tel (l : Nat) (x : RateLim) : (s.setLimit l x).tel = s.tel := rfl
@[simp] theorem State.setLimit_boot (l : Nat) (x : RateLim) : (s.setLimit l x).boot = s.boot := rfl
@[simp] theorem State.setLimit_i3c (l : Nat) (x : RateLim) : (s.setLimit l x).i3c = s.i3c := rfl
@[simp] theorem State.setLimit_wd (l : Nat) (x : RateLim) : (s.setLimit l x).wd = s.wd := rfl
@[simp] theorem State.setLimit_evq (l : Nat) (x : RateLim) : (s.setLimit l x).evq = s.evq := rfl
@[simp] theorem State.setLimit_evLost (l : Nat) (x : RateLim) : (s.setLimit l x).evLost = s.evLost := rfl
@[simp] theorem State.setLimit_evLostOff (l : Nat) (x : RateLim) : (s.setLimit l x).evLostOff = s.evLostOff := rfl
@[simp] theorem State.setLimit_xings (l : Nat) (x : RateLim) : (s.setLimit l x).xings = s.xings := rfl
@[simp] theorem State.setLimit_cyc (l : Nat) (x : RateLim) : (s.setLimit l x).cyc = s.cyc := rfl
@[simp] theorem State.setLimit_out (l : Nat) (x : RateLim) : (s.setLimit l x).out = s.out := rfl
@[simp] theorem State.setLimit_free (l : Nat) (x : RateLim) : (s.setLimit l x).free = s.free := rfl
@[simp] theorem State.setLimit_pending (l : Nat) (x : RateLim) : (s.setLimit l x).pending = s.pending := rfl

/-! ### setDeficit -/

@[simp] theorem State.setDeficit_clk (egress tc x : Nat) : (s.setDeficit egress tc x).clk = s.clk := rfl
@[simp] theorem State.setDeficit_regs (egress tc x : Nat) : (s.setDeficit egress tc x).regs = s.regs := rfl
@[simp] theorem State.setDeficit_cnt (egress tc x : Nat) : (s.setDeficit egress tc x).cnt = s.cnt := rfl
@[simp] theorem State.setDeficit_dom (egress tc x : Nat) : (s.setDeficit egress tc x).dom = s.dom := rfl
@[simp] theorem State.setDeficit_dp (egress tc x : Nat) : (s.setDeficit egress tc x).dp = s.dp := rfl
@[simp] theorem State.setDeficit_tab (egress tc x : Nat) : (s.setDeficit egress tc x).tab = s.tab := rfl
@[simp] theorem State.setDeficit_ports (egress tc x : Nat) : (s.setDeficit egress tc x).ports = s.ports := rfl
@[simp] theorem State.setDeficit_links (egress tc x : Nat) : (s.setDeficit egress tc x).links = s.links := rfl
@[simp] theorem State.setDeficit_peers (egress tc x : Nat) : (s.setDeficit egress tc x).peers = s.peers := rfl
@[simp] theorem State.setDeficit_planes (egress tc x : Nat) : (s.setDeficit egress tc x).planes = s.planes := rfl
@[simp] theorem State.setDeficit_prism (egress tc x : Nat) : (s.setDeficit egress tc x).prism = s.prism := rfl
@[simp] theorem State.setDeficit_optics (egress tc x : Nat) : (s.setDeficit egress tc x).optics = s.optics := rfl
@[simp] theorem State.setDeficit_canvas (egress tc x : Nat) : (s.setDeficit egress tc x).canvas = s.canvas := rfl
@[simp] theorem State.setDeficit_pal (egress tc x : Nat) : (s.setDeficit egress tc x).pal = s.pal := rfl
@[simp] theorem State.setDeficit_homes (egress tc x : Nat) : (s.setDeficit egress tc x).homes = s.homes := rfl
@[simp] theorem State.setDeficit_req (egress tc x : Nat) : (s.setDeficit egress tc x).req = s.req := rfl
@[simp] theorem State.setDeficit_mem (egress tc x : Nat) : (s.setDeficit egress tc x).mem = s.mem := rfl
@[simp] theorem State.setDeficit_timing (egress tc x : Nat) : (s.setDeficit egress tc x).timing = s.timing := rfl
@[simp] theorem State.setDeficit_host (egress tc x : Nat) : (s.setDeficit egress tc x).host = s.host := rfl
@[simp] theorem State.setDeficit_maint (egress tc x : Nat) : (s.setDeficit egress tc x).maint = s.maint := rfl
@[simp] theorem State.setDeficit_pwr (egress tc x : Nat) : (s.setDeficit egress tc x).pwr = s.pwr := rfl
@[simp] theorem State.setDeficit_macs (egress tc x : Nat) : (s.setDeficit egress tc x).macs = s.macs := rfl
@[simp] theorem State.setDeficit_tel (egress tc x : Nat) : (s.setDeficit egress tc x).tel = s.tel := rfl
@[simp] theorem State.setDeficit_boot (egress tc x : Nat) : (s.setDeficit egress tc x).boot = s.boot := rfl
@[simp] theorem State.setDeficit_i3c (egress tc x : Nat) : (s.setDeficit egress tc x).i3c = s.i3c := rfl
@[simp] theorem State.setDeficit_wd (egress tc x : Nat) : (s.setDeficit egress tc x).wd = s.wd := rfl
@[simp] theorem State.setDeficit_evq (egress tc x : Nat) : (s.setDeficit egress tc x).evq = s.evq := rfl
@[simp] theorem State.setDeficit_evLost (egress tc x : Nat) : (s.setDeficit egress tc x).evLost = s.evLost := rfl
@[simp] theorem State.setDeficit_evLostOff (egress tc x : Nat) : (s.setDeficit egress tc x).evLostOff = s.evLostOff := rfl
@[simp] theorem State.setDeficit_xings (egress tc x : Nat) : (s.setDeficit egress tc x).xings = s.xings := rfl
@[simp] theorem State.setDeficit_cyc (egress tc x : Nat) : (s.setDeficit egress tc x).cyc = s.cyc := rfl
@[simp] theorem State.setDeficit_out (egress tc x : Nat) : (s.setDeficit egress tc x).out = s.out := rfl
@[simp] theorem State.setDeficit_free (egress tc x : Nat) : (s.setDeficit egress tc x).free = s.free := rfl
@[simp] theorem State.setDeficit_pending (egress tc x : Nat) : (s.setDeficit egress tc x).pending = s.pending := rfl

/-! ### setXing -/

@[simp] theorem State.setXing_clk (k : Nat) (x : Crossing) : (s.setXing k x).clk = s.clk := rfl
@[simp] theorem State.setXing_regs (k : Nat) (x : Crossing) : (s.setXing k x).regs = s.regs := rfl
@[simp] theorem State.setXing_cnt (k : Nat) (x : Crossing) : (s.setXing k x).cnt = s.cnt := rfl
@[simp] theorem State.setXing_dom (k : Nat) (x : Crossing) : (s.setXing k x).dom = s.dom := rfl
@[simp] theorem State.setXing_dp (k : Nat) (x : Crossing) : (s.setXing k x).dp = s.dp := rfl
@[simp] theorem State.setXing_tab (k : Nat) (x : Crossing) : (s.setXing k x).tab = s.tab := rfl
@[simp] theorem State.setXing_sched (k : Nat) (x : Crossing) : (s.setXing k x).sched = s.sched := rfl
@[simp] theorem State.setXing_ports (k : Nat) (x : Crossing) : (s.setXing k x).ports = s.ports := rfl
@[simp] theorem State.setXing_links (k : Nat) (x : Crossing) : (s.setXing k x).links = s.links := rfl
@[simp] theorem State.setXing_peers (k : Nat) (x : Crossing) : (s.setXing k x).peers = s.peers := rfl
@[simp] theorem State.setXing_planes (k : Nat) (x : Crossing) : (s.setXing k x).planes = s.planes := rfl
@[simp] theorem State.setXing_prism (k : Nat) (x : Crossing) : (s.setXing k x).prism = s.prism := rfl
@[simp] theorem State.setXing_optics (k : Nat) (x : Crossing) : (s.setXing k x).optics = s.optics := rfl
@[simp] theorem State.setXing_canvas (k : Nat) (x : Crossing) : (s.setXing k x).canvas = s.canvas := rfl
@[simp] theorem State.setXing_pal (k : Nat) (x : Crossing) : (s.setXing k x).pal = s.pal := rfl
@[simp] theorem State.setXing_homes (k : Nat) (x : Crossing) : (s.setXing k x).homes = s.homes := rfl
@[simp] theorem State.setXing_req (k : Nat) (x : Crossing) : (s.setXing k x).req = s.req := rfl
@[simp] theorem State.setXing_mem (k : Nat) (x : Crossing) : (s.setXing k x).mem = s.mem := rfl
@[simp] theorem State.setXing_timing (k : Nat) (x : Crossing) : (s.setXing k x).timing = s.timing := rfl
@[simp] theorem State.setXing_host (k : Nat) (x : Crossing) : (s.setXing k x).host = s.host := rfl
@[simp] theorem State.setXing_maint (k : Nat) (x : Crossing) : (s.setXing k x).maint = s.maint := rfl
@[simp] theorem State.setXing_pwr (k : Nat) (x : Crossing) : (s.setXing k x).pwr = s.pwr := rfl
@[simp] theorem State.setXing_macs (k : Nat) (x : Crossing) : (s.setXing k x).macs = s.macs := rfl
@[simp] theorem State.setXing_tel (k : Nat) (x : Crossing) : (s.setXing k x).tel = s.tel := rfl
@[simp] theorem State.setXing_boot (k : Nat) (x : Crossing) : (s.setXing k x).boot = s.boot := rfl
@[simp] theorem State.setXing_i3c (k : Nat) (x : Crossing) : (s.setXing k x).i3c = s.i3c := rfl
@[simp] theorem State.setXing_wd (k : Nat) (x : Crossing) : (s.setXing k x).wd = s.wd := rfl
@[simp] theorem State.setXing_evq (k : Nat) (x : Crossing) : (s.setXing k x).evq = s.evq := rfl
@[simp] theorem State.setXing_evLost (k : Nat) (x : Crossing) : (s.setXing k x).evLost = s.evLost := rfl
@[simp] theorem State.setXing_evLostOff (k : Nat) (x : Crossing) : (s.setXing k x).evLostOff = s.evLostOff := rfl
@[simp] theorem State.setXing_cyc (k : Nat) (x : Crossing) : (s.setXing k x).cyc = s.cyc := rfl
@[simp] theorem State.setXing_out (k : Nat) (x : Crossing) : (s.setXing k x).out = s.out := rfl
@[simp] theorem State.setXing_free (k : Nat) (x : Crossing) : (s.setXing k x).free = s.free := rfl
@[simp] theorem State.setXing_pending (k : Nat) (x : Crossing) : (s.setXing k x).pending = s.pending := rfl

/-! ### xPass -/

@[simp] theorem State.xPass_clk (k n : Nat) : (s.xPass k n).clk = s.clk := rfl
@[simp] theorem State.xPass_regs (k n : Nat) : (s.xPass k n).regs = s.regs := rfl
@[simp] theorem State.xPass_cnt (k n : Nat) : (s.xPass k n).cnt = s.cnt := rfl
@[simp] theorem State.xPass_dom (k n : Nat) : (s.xPass k n).dom = s.dom := rfl
@[simp] theorem State.xPass_dp (k n : Nat) : (s.xPass k n).dp = s.dp := rfl
@[simp] theorem State.xPass_tab (k n : Nat) : (s.xPass k n).tab = s.tab := rfl
@[simp] theorem State.xPass_sched (k n : Nat) : (s.xPass k n).sched = s.sched := rfl
@[simp] theorem State.xPass_ports (k n : Nat) : (s.xPass k n).ports = s.ports := rfl
@[simp] theorem State.xPass_links (k n : Nat) : (s.xPass k n).links = s.links := rfl
@[simp] theorem State.xPass_peers (k n : Nat) : (s.xPass k n).peers = s.peers := rfl
@[simp] theorem State.xPass_planes (k n : Nat) : (s.xPass k n).planes = s.planes := rfl
@[simp] theorem State.xPass_prism (k n : Nat) : (s.xPass k n).prism = s.prism := rfl
@[simp] theorem State.xPass_optics (k n : Nat) : (s.xPass k n).optics = s.optics := rfl
@[simp] theorem State.xPass_canvas (k n : Nat) : (s.xPass k n).canvas = s.canvas := rfl
@[simp] theorem State.xPass_pal (k n : Nat) : (s.xPass k n).pal = s.pal := rfl
@[simp] theorem State.xPass_homes (k n : Nat) : (s.xPass k n).homes = s.homes := rfl
@[simp] theorem State.xPass_req (k n : Nat) : (s.xPass k n).req = s.req := rfl
@[simp] theorem State.xPass_mem (k n : Nat) : (s.xPass k n).mem = s.mem := rfl
@[simp] theorem State.xPass_timing (k n : Nat) : (s.xPass k n).timing = s.timing := rfl
@[simp] theorem State.xPass_host (k n : Nat) : (s.xPass k n).host = s.host := rfl
@[simp] theorem State.xPass_maint (k n : Nat) : (s.xPass k n).maint = s.maint := rfl
@[simp] theorem State.xPass_pwr (k n : Nat) : (s.xPass k n).pwr = s.pwr := rfl
@[simp] theorem State.xPass_macs (k n : Nat) : (s.xPass k n).macs = s.macs := rfl
@[simp] theorem State.xPass_tel (k n : Nat) : (s.xPass k n).tel = s.tel := rfl
@[simp] theorem State.xPass_boot (k n : Nat) : (s.xPass k n).boot = s.boot := rfl
@[simp] theorem State.xPass_i3c (k n : Nat) : (s.xPass k n).i3c = s.i3c := rfl
@[simp] theorem State.xPass_wd (k n : Nat) : (s.xPass k n).wd = s.wd := rfl
@[simp] theorem State.xPass_evq (k n : Nat) : (s.xPass k n).evq = s.evq := rfl
@[simp] theorem State.xPass_evLost (k n : Nat) : (s.xPass k n).evLost = s.evLost := rfl
@[simp] theorem State.xPass_evLostOff (k n : Nat) : (s.xPass k n).evLostOff = s.evLostOff := rfl
@[simp] theorem State.xPass_cyc (k n : Nat) : (s.xPass k n).cyc = s.cyc := rfl
@[simp] theorem State.xPass_out (k n : Nat) : (s.xPass k n).out = s.out := rfl
@[simp] theorem State.xPass_free (k n : Nat) : (s.xPass k n).free = s.free := rfl
@[simp] theorem State.xPass_pending (k n : Nat) : (s.xPass k n).pending = s.pending := rfl

/-! ### setBankQ -/

@[simp] theorem State.setBankQ_clk (pl : Nat) (l : List BankWrite) : (s.setBankQ pl l).clk = s.clk := rfl
@[simp] theorem State.setBankQ_regs (pl : Nat) (l : List BankWrite) : (s.setBankQ pl l).regs = s.regs := rfl
@[simp] theorem State.setBankQ_cnt (pl : Nat) (l : List BankWrite) : (s.setBankQ pl l).cnt = s.cnt := rfl
@[simp] theorem State.setBankQ_dom (pl : Nat) (l : List BankWrite) : (s.setBankQ pl l).dom = s.dom := rfl
@[simp] theorem State.setBankQ_tab (pl : Nat) (l : List BankWrite) : (s.setBankQ pl l).tab = s.tab := rfl
@[simp] theorem State.setBankQ_sched (pl : Nat) (l : List BankWrite) : (s.setBankQ pl l).sched = s.sched := rfl
@[simp] theorem State.setBankQ_ports (pl : Nat) (l : List BankWrite) : (s.setBankQ pl l).ports = s.ports := rfl
@[simp] theorem State.setBankQ_links (pl : Nat) (l : List BankWrite) : (s.setBankQ pl l).links = s.links := rfl
@[simp] theorem State.setBankQ_peers (pl : Nat) (l : List BankWrite) : (s.setBankQ pl l).peers = s.peers := rfl
@[simp] theorem State.setBankQ_planes (pl : Nat) (l : List BankWrite) : (s.setBankQ pl l).planes = s.planes := rfl
@[simp] theorem State.setBankQ_prism (pl : Nat) (l : List BankWrite) : (s.setBankQ pl l).prism = s.prism := rfl
@[simp] theorem State.setBankQ_optics (pl : Nat) (l : List BankWrite) : (s.setBankQ pl l).optics = s.optics := rfl
@[simp] theorem State.setBankQ_canvas (pl : Nat) (l : List BankWrite) : (s.setBankQ pl l).canvas = s.canvas := rfl
@[simp] theorem State.setBankQ_pal (pl : Nat) (l : List BankWrite) : (s.setBankQ pl l).pal = s.pal := rfl
@[simp] theorem State.setBankQ_homes (pl : Nat) (l : List BankWrite) : (s.setBankQ pl l).homes = s.homes := rfl
@[simp] theorem State.setBankQ_req (pl : Nat) (l : List BankWrite) : (s.setBankQ pl l).req = s.req := rfl
@[simp] theorem State.setBankQ_mem (pl : Nat) (l : List BankWrite) : (s.setBankQ pl l).mem = s.mem := rfl
@[simp] theorem State.setBankQ_timing (pl : Nat) (l : List BankWrite) : (s.setBankQ pl l).timing = s.timing := rfl
@[simp] theorem State.setBankQ_host (pl : Nat) (l : List BankWrite) : (s.setBankQ pl l).host = s.host := rfl
@[simp] theorem State.setBankQ_maint (pl : Nat) (l : List BankWrite) : (s.setBankQ pl l).maint = s.maint := rfl
@[simp] theorem State.setBankQ_pwr (pl : Nat) (l : List BankWrite) : (s.setBankQ pl l).pwr = s.pwr := rfl
@[simp] theorem State.setBankQ_macs (pl : Nat) (l : List BankWrite) : (s.setBankQ pl l).macs = s.macs := rfl
@[simp] theorem State.setBankQ_tel (pl : Nat) (l : List BankWrite) : (s.setBankQ pl l).tel = s.tel := rfl
@[simp] theorem State.setBankQ_boot (pl : Nat) (l : List BankWrite) : (s.setBankQ pl l).boot = s.boot := rfl
@[simp] theorem State.setBankQ_i3c (pl : Nat) (l : List BankWrite) : (s.setBankQ pl l).i3c = s.i3c := rfl
@[simp] theorem State.setBankQ_wd (pl : Nat) (l : List BankWrite) : (s.setBankQ pl l).wd = s.wd := rfl
@[simp] theorem State.setBankQ_evq (pl : Nat) (l : List BankWrite) : (s.setBankQ pl l).evq = s.evq := rfl
@[simp] theorem State.setBankQ_evLost (pl : Nat) (l : List BankWrite) : (s.setBankQ pl l).evLost = s.evLost := rfl
@[simp] theorem State.setBankQ_evLostOff (pl : Nat) (l : List BankWrite) : (s.setBankQ pl l).evLostOff = s.evLostOff := rfl
@[simp] theorem State.setBankQ_xings (pl : Nat) (l : List BankWrite) : (s.setBankQ pl l).xings = s.xings := rfl
@[simp] theorem State.setBankQ_cyc (pl : Nat) (l : List BankWrite) : (s.setBankQ pl l).cyc = s.cyc := rfl
@[simp] theorem State.setBankQ_out (pl : Nat) (l : List BankWrite) : (s.setBankQ pl l).out = s.out := rfl
@[simp] theorem State.setBankQ_free (pl : Nat) (l : List BankWrite) : (s.setBankQ pl l).free = s.free := rfl
@[simp] theorem State.setBankQ_pending (pl : Nat) (l : List BankWrite) : (s.setBankQ pl l).pending = s.pending := rfl

/-! ## Canonical form, part by part -/

theorem State.canonical_iff : s.canonical = true ↔
    Tbl.wf regReset s.regs = true ∧ Tbl.wf (fun _ => 0) s.cnt = true ∧ Tbl.wf (fun _ => DomState.off) s.dom = true
    ∧ Tbl.wf (fun _ => Port.init) s.ports = true ∧ Tbl.wf (fun _ => Link.init) s.links = true
    ∧ Tbl.wf (fun _ => Peer.init) s.peers = true ∧ Tbl.wf (fun _ => Plane.init) s.planes = true
    ∧ Tbl.wf (fun _ => Home.init) s.homes = true ∧ s.mem.wf = true
    ∧ Tbl.wf (fun _ => Crossing.init) s.xings = true := by
  simp only [State.canonical, Bool.and_eq_true, and_assoc]

variable {s}

theorem State.canonical.regs (h : s.canonical = true) : Tbl.wf regReset s.regs = true := ((canonical_iff s).mp h).1
theorem State.canonical.cnt (h : s.canonical = true) : Tbl.wf (fun _ => 0) s.cnt = true := ((canonical_iff s).mp h).2.1
theorem State.canonical.dom (h : s.canonical = true) : Tbl.wf (fun _ => DomState.off) s.dom = true :=
  ((canonical_iff s).mp h).2.2.1
theorem State.canonical.ports (h : s.canonical = true) : Tbl.wf (fun _ => Port.init) s.ports = true :=
  ((canonical_iff s).mp h).2.2.2.1
theorem State.canonical.links (h : s.canonical = true) : Tbl.wf (fun _ => Link.init) s.links = true :=
  ((canonical_iff s).mp h).2.2.2.2.1
theorem State.canonical.peers (h : s.canonical = true) : Tbl.wf (fun _ => Peer.init) s.peers = true :=
  ((canonical_iff s).mp h).2.2.2.2.2.1
theorem State.canonical.planes (h : s.canonical = true) : Tbl.wf (fun _ => Plane.init) s.planes = true :=
  ((canonical_iff s).mp h).2.2.2.2.2.2.1
theorem State.canonical.homes (h : s.canonical = true) : Tbl.wf (fun _ => Home.init) s.homes = true :=
  ((canonical_iff s).mp h).2.2.2.2.2.2.2.1
theorem State.canonical.mem (h : s.canonical = true) : s.mem.wf = true := ((canonical_iff s).mp h).2.2.2.2.2.2.2.2.1
theorem State.canonical.xings (h : s.canonical = true) : Tbl.wf (fun _ => Crossing.init) s.xings = true :=
  ((canonical_iff s).mp h).2.2.2.2.2.2.2.2.2

/-! ## Registers -/

theorem State.rd_wr (h : Tbl.wf regReset s.regs = true) (off j : Nat) (w : Word) :
    (s.wr off w).rd j = if j = off then w else s.rd j := Tbl.get_put h off j w

theorem State.rd_wr_self (h : Tbl.wf regReset s.regs = true) (off : Nat) (w : Word) : (s.wr off w).rd off = w :=
  Tbl.get_put_self h off w

theorem State.rd_wr_ne (h : Tbl.wf regReset s.regs = true) {off j : Nat} (w : Word) (n : j ≠ off) :
    (s.wr off w).rd j = s.rd j := Tbl.get_put_ne h w n

theorem State.rd_setF_self (h : Tbl.wf regReset s.regs = true) (off hi lo v : Nat) :
    (s.setF off hi lo v).rd off = (s.rd off).setFld hi lo v := State.rd_wr_self h off _

theorem State.rd_setF_ne (h : Tbl.wf regReset s.regs = true) {off j : Nat} (hi lo v : Nat) (n : j ≠ off) :
    (s.setF off hi lo v).rd j = s.rd j := State.rd_wr_ne h _ n

theorem State.wr_regs_wf (h : Tbl.wf regReset s.regs = true) (off : Nat) (w : Word) :
    Tbl.wf regReset (s.wr off w).regs = true := Tbl.wf_put h off w

theorem State.setF_regs_wf (h : Tbl.wf regReset s.regs = true) (off hi lo v : Nat) :
    Tbl.wf regReset (s.setF off hi lo v).regs = true := Tbl.wf_put h off _

/-! ## Bit ranges -/

/-- The range written reads as the number written. -/
theorem Word.fld_setFld_self (w : Word) {hi lo : Nat} (v : Nat) (h : hi < 32) (k : lo ≤ hi) :
    (w.setFld hi lo v).fld hi lo = v % 2 ^ (hi + 1 - lo) := by
  obtain ⟨n, rfl⟩ : ∃ n, hi = lo + n := ⟨hi - lo, by omega⟩
  unfold Word.setFld Word.fld
  rw [BitVec.toNat_ofNat, show lo + n + 1 - lo = n + 1 by omega]
  have e32 : (2 : Nat) ^ 32 = 2 ^ lo * 2 ^ (n + 1) * 2 ^ (32 - (lo + n + 1)) := by
    rw [← Nat.pow_add, ← Nat.pow_add]; congr 1; omega
  have e1 : (2 : Nat) ^ (lo + n + 1) = 2 ^ lo * 2 ^ (n + 1) := by
    rw [← Nat.pow_add]; congr 1
  rw [e32, Nat.mul_assoc, Nat.mod_mul_right_div_self, Nat.mod_mul_right_mod, e1]
  have e2 : w.toNat / (2 ^ lo * 2 ^ (n + 1)) * (2 ^ lo * 2 ^ (n + 1)) + v % 2 ^ (n + 1) * 2 ^ lo + w.toNat % 2 ^ lo
      = w.toNat % 2 ^ lo + 2 ^ lo * (w.toNat / (2 ^ lo * 2 ^ (n + 1)) * 2 ^ (n + 1) + v % 2 ^ (n + 1)) := by
    rw [Nat.mul_left_comm, Nat.mul_comm (v % 2 ^ (n + 1)), Nat.mul_add]
    omega
  rw [e2, Nat.add_mul_div_left _ _ (Nat.two_pow_pos lo), Nat.div_eq_of_lt (Nat.mod_lt _ (Nat.two_pow_pos lo)), Nat.zero_add,
    Nat.mul_comm, Nat.mul_add_mod, Nat.mod_mod]

/-! ## Counters -/

theorem State.count_bump (h : Tbl.wf (fun _ => 0) s.cnt = true) (off n j : Nat) :
    (s.bump off n).count j = if j = off then (s.count off + n) % 2 ^ 64 else s.count j := Tbl.get_put h off j _

/-! ## Ports, links, peers, planes, crossings -/

theorem State.port_setPort (h : Tbl.wf (fun _ => Port.init) s.ports = true) (p j : Nat) (x : Port) :
    (s.setPort p x).port j = if j = p then x else s.port j := Tbl.get_put h p j x

theorem State.link_setLink (h : Tbl.wf (fun _ => Link.init) s.links = true) (k j : Nat) (x : Link) :
    (s.setLink k x).link j = if j = k then x else s.link j := Tbl.get_put h k j x

theorem State.peer_setPeer (h : Tbl.wf (fun _ => Peer.init) s.peers = true) (k j : Nat) (x : Peer) :
    (s.setPeer k x).peer j = if j = k then x else s.peer j := Tbl.get_put h k j x

theorem State.plane_setPlane (h : Tbl.wf (fun _ => Plane.init) s.planes = true) (p j : Nat) (x : Plane) :
    (s.setPlane p x).plane j = if j = p then x else s.plane j := Tbl.get_put h p j x

theorem State.xing_setXing (h : Tbl.wf (fun _ => Crossing.init) s.xings = true) (k j : Nat) (x : Crossing) :
    (s.setXing k x).xing j = if j = k then x else s.xing j := Tbl.get_put h k j x

end Sys2Proof.Machine
end

