-- ==== Sys2Proof/Tests/Slice0.lean ====
section
/-!
SUPPORT. Tests. `wit_<part>` shows, for each clause of an obligation, a concrete state and operands that meet all its
hypotheses together; `test_<part>` shows what a few commands give on those states, with the results that the rules state.
-/
set_option Elab.async false

namespace Sys2Proof.Tests
open Sys2Proof Sys2Proof.Machine

/-- A command's next state has a property. -/
def gives (c : Instr) (s : State) (p : State → Bool) : Bool :=
  match exec c s with
  | .next t => p t
  | _ => false

/-- An outcome is that next state. -/
def nextIs (o : Host.Outcome State Fault Refusal) (t : State) : Bool :=
  match o with
  | .next u => decide (u = t)
  | _ => false

/-- An outcome is that fault. -/
def faultIs (o : Host.Outcome State Fault Refusal) (f : Fault) : Bool :=
  match o with
  | .fault g => decide (g = f)
  | _ => false

/-- Two outcomes are the same next state. -/
def sameOut (o p : Host.Outcome State Fault Refusal) : Bool :=
  match p with
  | .next u => nextIs o u
  | _ => false

/-- A part is the same in two states. -/
def sameB : Field → State → State → Bool
  | .clk, s, t => decide (t.clk = s.clk)
  | .regs, s, t => decide (t.regs = s.regs)
  | .cnt, s, t => decide (t.cnt = s.cnt)
  | .dom, s, t => decide (t.dom = s.dom)
  | .dp, s, t => decide (t.dp = s.dp)
  | .tab, s, t => decide (t.tab = s.tab)
  | .sched, s, t => decide (t.sched = s.sched)
  | .ports, s, t => decide (t.ports = s.ports)
  | .links, s, t => decide (t.links = s.links)
  | .peers, s, t => decide (t.peers = s.peers)
  | .planes, s, t => decide (t.planes = s.planes)
  | .prism, s, t => decide (t.prism = s.prism)
  | .optics, s, t => decide (t.optics = s.optics)
  | .canvas, s, t => decide (t.canvas = s.canvas)
  | .pal, s, t => decide (t.pal = s.pal)
  | .homes, s, t => decide (t.homes = s.homes)
  | .req, s, t => decide (t.req = s.req)
  | .mem, s, t => decide (t.mem = s.mem)
  | .timing, s, t => decide (t.timing = s.timing)
  | .host, s, t => decide (t.host = s.host)
  | .maint, s, t => decide (t.maint = s.maint)
  | .pwr, s, t => decide (t.pwr = s.pwr)
  | .macs, s, t => decide (t.macs = s.macs)
  | .tel, s, t => decide (t.tel = s.tel)
  | .boot, s, t => decide (t.boot = s.boot)
  | .i3c, s, t => decide (t.i3c = s.i3c)
  | .wd, s, t => decide (t.wd = s.wd)
  | .evq, s, t => decide (t.evq = s.evq)
  | .evLost, s, t => decide (t.evLost = s.evLost)
  | .evLostOff, s, t => decide (t.evLostOff = s.evLostOff)
  | .out, s, t => decide (t.out = s.out)
  | .free, s, t => decide (t.free = s.free)
  | .xings, s, t => decide (t.xings = s.xings)
  | .cyc, s, t => decide (t.cyc = s.cyc)
  | .pending, s, t => decide (t.pending = s.pending)

/-- `t` differs from `s` in the listed parts alone. -/
def onlyB (ps : List Field) (s t : State) : Bool :=
  [Field.clk, .regs, .cnt, .dom, .dp, .tab, .sched, .ports, .links, .peers, .planes, .prism, .optics, .canvas, .pal,
    .homes, .req, .mem, .timing, .host, .maint, .pwr, .macs, .tel, .boot, .i3c, .wd, .evq, .evLost, .evLostOff, .out,
    .free, .xings, .cyc, .pending].all (fun p => decide (p ∈ ps) || sameB p s t)

/-- Every power domain on, and otherwise the state after reset. -/
def up : State := { State.reset with dom := (List.range 20).map (fun i => (i + 1, .on)) }

/-- The state with a register set. -/
abbrev wr (s : State) (off : Nat) (w : Word) : State := s.wr off w

/-- A packet, its header CRC and trailer left 0: type, VC, destination space and ID, source, words 3 to 10, payload. -/
def pk (ty vc dspace dest src : Nat) (ws : List Word) (payload : List Byte) : Packet :=
  let w0 : Word := BitVec.ofNat 32 (2 ^ 28 + ty * 2 ^ 20 + vc * 2 ^ 15)
  let w1 : Word := BitVec.ofNat 32 (payload.length * 2 ^ 19 + dest * 2 + dspace)
  let w2 : Word := BitVec.ofNat 32 (src * 2 ^ 14)
  ⟨[w0, w1, w2] ++ (ws ++ List.replicate 8 0).take 8 ++ [0], payload, 0⟩

/-- An item: its number, packet, port and VC. -/
def item (id : Nat) (p : Packet) (port : Nat) : Item :=
  { id := id, body := .ffp p, port := port, tc := p.tc, vc := p.vc, n := cellsOf p.size, gen := 0, since := 0,
    charge := .none, peer := none, bucket := none, own := false, mcast := none, leg := none, marked := false,
    spray := false, cut := false, sender := none, latch := [], via := 0 }

/-- A DATA packet of 4 bytes to endpoint 64, and an ACK to it. -/
def data1 : Packet := pk 0x01 3 0 64 7 [0, 0, 0x100000, 0, 1] [1, 2, 3, 4]
def ack1 : Packet := pk 0x02 1 0 64 7 [] []

/-- The registers not listed are the same. -/
def regsElse (l : List Nat) (s t : State) : Bool :=
  t.regs.filter (fun kw => !l.contains kw.1) == s.regs.filter (fun kw => !l.contains kw.1)

/-- Every domain on and every die link up. -/
def linked : State := { up with regs := (List.range 23).map (fun n => (R.GLB_D2D_STAT n, 0x80000000)) }

/-- An assigned module with a generation in effect. -/
def join (s : State) : State := { s.wr R.GLB_FABRIC_ID 0x80000000 with tab := { s.tab with ready := true } }

/-- A flit with its CRC: its first bytes, 0 after them. -/
def flt (h : List Byte) : Flit :=
  ⟨(h ++ List.replicate (252 - h.length) 0) ++ Word.bytesBE (Machine.crc32c (h ++ List.replicate (252 - h.length) 0))⟩

/-- The bytes of a word spell its value. -/
theorem natOfBytesBE_word (w : Word) : natOfBytesBE w.bytesBE = w.toNat := by
  have h := w.isLt
  simp [natOfBytesBE, Word.bytesBE, natOfBytesLE]
  omega

/-- Such a flit is good, if its kind is not reserved. -/
theorem flt_good (h : List Byte) (hl : h.length ≤ 252) (hk : (flt h).kind ≠ 3) : (flt h).good = true := by
  have e : (h ++ List.replicate (252 - h.length) (0 : Byte)).length = 252 := by simp; omega
  have k : ((flt h).kind != 3) = true := by simp [hk]
  unfold Flit.good
  rw [k]
  simp only [flt, List.length_append, List.take_left' e, List.drop_left' e, natOfBytesBE_word]
  simp [Word.bytesBE]
  omega

/-! ## Well-formedness: an ill-formed command for each check -/

/-- A check of an image whose owner hash is one byte short. -/
def shortHash : ImageCheck :=
  ⟨true, true, 4096, 1, true, true, false, List.replicate 31 0, false, true, List.replicate 32 0, List.replicate 32 0⟩

theorem test_wf_image :
    (Instr.imageCheckDone shortHash).wf = false ∧ (Instr.ucodeLoadDone shortHash).wf = false
      ∧ (Instr.flashProgramDone shortHash).wf = false
      ∧ (Instr.imageCheckDone { shortHash with ownerHash := List.replicate 32 0 }).wf = true := by decide
theorem test_wf_hash : (Instr.secBurnOwnerHash (List.replicate 33 0)).wf = false := by decide
theorem test_wf_write : (Instr.registerWrite 0 0 (some 0)).wf = false := by decide
theorem test_wf_pulse : (Instr.resetNAssert 0).wf = false ∧ (Instr.resetNAssert 1).wf = true := by decide
theorem test_wf_lists :
    (Instr.bringupDone [3, 3] []).wf = false ∧ (Instr.bringupDone [] [(1, 2), (1, 2)]).wf = false
      ∧ (Instr.easelRebalance 0 [(1, 2), (1, 3)]).wf = false ∧ (Instr.domainOnDone 2 (List.replicate 24 0)).wf = false := by
  decide
theorem test_wf_lasers :
    (Instr.spareWarmDone 16 68 true).wf = false ∧ (Instr.laserFail 15 136).wf = false
      ∧ (Instr.takeoverSwitch 0 136).wf = false ∧ (Instr.laserAgeingTick 16 68 0 0 0).wf = false
      ∧ (Instr.laserFail 15 135).wf = true := by decide
theorem test_wf_bytes :
    (Instr.flitReceive 0 0 false ⟨List.replicate 255 0⟩).wf = false ∧ (Instr.controlFlitReceive 0 0 ⟨[]⟩).wf = false
      ∧ (Instr.ethFrameReceive 0 []).wf = false := by
  decide +kernel
theorem test_wf_answers :
    (Instr.doorbellPageReturn 0 [1]).wf = false ∧ (Instr.descriptorFetch 0 1 [0]).wf = false
      ∧ (Instr.hmemResponse 0 1 [0]).wf = false := by decide
theorem test_wf_health :
    (Instr.thermalSample 0 0 [] [] []).wf = false ∧ (Instr.healthEvaluate [(1, 0, 2), (1, 1, 3)]).wf = false := by decide

/-! ## The queue and the table's bits -/

theorem test_no_row_has_bits : decodeTableWord 32 0x5EAF3002 = none ∧ (State.reset.withFetchWord 32 7).pending = [] := by
  decide +kernel

/-- The oldest command runs first, and the rest waits. -/
theorem test_queue_order :
    (match step { State.reset with pending := [.fabricIdWrite 0x80000001, .nudgeReceive 0] } with
      | .next t => decide (t.pending = [.nudgeReceive 0] ∧ t.rd R.GLB_FABRIC_ID = 0x80000001)
      | _ => false) = true := by decide +kernel

/-- A packet's bytes are read back from the words of its header: the byte of the type, the length and the destination. -/
theorem test_header_fields :
    (data1.ty = 0x01 ∧ data1.vc = 3) ∧ data1.payload.length = 4 := by decide

namespace Boot

/-- An image that passes every check. -/
def goodImage : ImageCheck :=
  { readOk := true, header := true, bodyLen := 4096, svn := 3, vendorKey := true, vendorSig := true, ownerSigned := false,
    ownerHash := [], ownerSig := false, body := true, digest := [], bodyDigest := [] }
/-- An image whose signature fails. -/
def badImage : ImageCheck := { goodImage with vendorSig := false }
/-- The boot record with PHASE set. -/
def phase (n : Nat) : State := up.setF R.GLB_BOOT_STAT 31 30 n
/-- The host link up. -/
def hosted : State := { up with host := { HostLink.init with up := true, lanes := 8 } }

theorem wit_ResetsTakeEffect :
    ((fun (s : State) ns =>
      (10000 ≤ ns)
      ∧ (s.boot.resetLow = false)
      ∧ (s.on 1 = true))
      (phase 3) 10000)
    ∧ ((fun (s : State) =>
      (s.boot.goodSince = none))
      (phase 3))
    ∧ ((fun (s : State) t0 =>
      (s.boot.goodSince = some t0)
      ∧ (s.boot.waiting = true)
      ∧ (s.boot.tripped = [])
      ∧ (t0 + 10000000 ≤ s.now)
      ∧ (s.on 1 = true))
      ({ up with boot := { Boot.init with goodSince := some 0 }, clk := ⟨10000000, 0, 0, 0⟩ }) 0)
    ∧ ((fun (s : State) t0 =>
      (s.boot.coolSince = some t0)
      ∧ (s.boot.goodSince = none))
      ({ up with boot := { Boot.init with coolSince := some 5, tripped := [3] } }) 5) :=
  by and_intros <;> decide +kernel

theorem test_ResetsTakeEffect :
    ((fun (s : State) =>
      gives .coldReset s (fun t => decide (t.regs = [] ∧ t.cnt = [] ∧ t.dom = [(1, .on)] ∧ t.mem = Memory.init ∧ t.now = s.now ∧ t.tb0 = 0 ∧ t.optics.lasers = s.optics.lasers ∧ t.boot.minSvn = s.boot.minSvnNext ∧ t.boot.ownerReq = s.boot.ownerReqNext ∧ t.boot.ownerHash = s.boot.ownerHashNext ∧ t.boot.erasedA = s.boot.erasedA ∧ t.boot.erasedB = s.boot.erasedB ∧ t.boot.waiting = true ∧ t.boot.kind = 0)) = true)
      (phase 3))
    ∧ ((fun (s : State) ns =>
      gives (.resetNAssert ns) s (fun t => decide (t.boot.resetLow = true ∧ t.boot.waiting = true ∧ t.boot.kind = 1 ∧ t.boot.cause = 1 ∧ t.boot.rounds = 0 ∧ t.dom = [(1, .on)] ∧ t.mem = Memory.init ∧ t.homes = [] ∧ t.dp = State.reset.dp ∧ t.wd = none)) = true)
      (phase 3) 10000) :=
  by and_intros <;> decide +kernel

theorem wit_ShortResetPulse :
    ((fun (ns : Nat) =>
      (ns < 1000))
      999)
    ∧ ((fun (ns : Nat) =>
      (1000 ≤ ns)
      ∧ (ns < 10000))
      1000) :=
  by and_intros <;> decide +kernel

theorem test_ShortResetPulse :
    ((fun (ns : Nat) (s : State) =>
      nextIs (exec (.resetNAssert ns) s) (s) = true)
      999 up)
    ∧ ((fun (ns : Nat) (s : State) =>
      faultIs (exec (.resetNAssert ns) s) (.resetPulseUndefined) = true)
      1000 up) :=
  by and_intros <;> decide +kernel

theorem wit_BootStarts :
    (fun (s : State) =>
      (s.canonical = true))
      up :=
  by decide +kernel

theorem test_BootStarts :
    (fun (s : State) =>
      s.startBoot.fld R.GLB_BOOT_STAT 31 30 = 1
      ∧ s.startBoot.fld R.GLB_BOOT_STAT 29 28 = s.boot.first % 4
      ∧ s.startBoot.boot.minSvn = s.boot.minSvnNext
      ∧ s.startBoot.boot.ownerReq = s.boot.ownerReqNext
      ∧ s.startBoot.boot.ownerHash = s.boot.ownerHashNext
      ∧ s.startBoot.boot.waiting = false
      ∧ s.startBoot.boot.measured = 1
      ∧ s.startBoot.boot.log.length = 1)
      up :=
  by and_intros <;> decide +kernel

theorem wit_ResetRequests :
    ((fun (s : State) =>
      (s.canonical = true)
      ∧ (s.booted = false))
      up)
    ∧ ((fun (s : State) =>
      (s.canonical = true)
      ∧ (s.booted = true)
      ∧ (s.wd = none))
      (phase 3))
    ∧ ((fun (s : State) (n : Fin 32) =>
      (s.canonical = true)
      ∧ (domKnown n = false))
      (phase 3) 21)
    ∧ ((fun (s : State) (n : Fin 32) =>
      (s.canonical = true)
      ∧ (domKnown n = true)
      ∧ (s.inTransit n = false)
      ∧ (s.booted = true)
      ∧ (s.wd = none)
      ∧ (s.forcedDom n = none))
      (phase 3) 20) :=
  by and_intros <;> decide +kernel

theorem test_ResetRequests :
    ((fun (s : State) =>
      gives .warmResetRequest s (fun t => decide (t.fld R.GLB_RST_STAT 3 0 = 2 ∧ t.wd = s.wd)) = true)
      up)
    ∧ ((fun (s : State) =>
      gives .warmResetRequest s (fun t => decide (t.fld R.GLB_RST_STAT 3 0 = 0 ∧ t.boot.cause = 0 ∧ t.wd = some ⟨s.now + 100000, [.warmReset]⟩)) = true)
      (phase 3)) :=
  by and_intros <;> decide +kernel

theorem wit_ImagesAreCheckedAndCounted :
    ((fun (s : State) c =>
      (s.canonical = true)
      ∧ (s.fld R.GLB_BOOT_STAT 31 30 = 1)
      ∧ (s.bootSource = 0)
      ∧ (s.boot.erasedA = false)
      ∧ (s.boot.checkImage c none = 0))
      (phase 1) goodImage)
    ∧ ((fun (s : State) c =>
      (s.canonical = true)
      ∧ (s.fld R.GLB_BOOT_STAT 31 30 = 1)
      ∧ (s.bootSource = 0)
      ∧ (s.boot.erasedA = false)
      ∧ (s.boot.checkImage c none ≠ 0))
      (phase 1) badImage)
    ∧ ((fun (s : State) t0 =>
      (s.canonical = true)
      ∧ (s.boot.hostFrom = some t0)
      ∧ (s.host.up = false))
      ({ phase 1 with boot := { Boot.init with hostFrom := some 9 } }) 9)
    ∧ ((fun (s : State) t0 =>
      (s.canonical = true)
      ∧ (s.boot.backoffEnd = some t0))
      ({ phase 0 with boot := { Boot.init with backoffEnd := some 9 } }) 9)
    ∧ ((fun (s : State) =>
      (s.canonical = true)
      ∧ (s.fld R.GLB_BOOT_STAT 31 30 = 1))
      (phase 1))
    ∧ ((fun (s : State) =>
      (s.canonical = true)
      ∧ (s.fld R.GLB_BOOT_STAT 31 30 = 2))
      (phase 2))
    ∧ ((fun (s : State) =>
      (s.canonical = true)
      ∧ (s.fld R.GLB_BOOT_STAT 31 30 = 3)
      ∧ (s.boot.upAt = none)
      ∧ (s.wd = none))
      (phase 3))
    ∧ ((fun (s : State) t0 =>
      (s.canonical = true)
      ∧ (s.boot.upAt = some t0))
      ({ phase 3 with boot := { Boot.init with upAt := some 9, fails := 4, codeA := 3 } }) 9) :=
  by and_intros <;> decide +kernel

theorem test_ImagesAreCheckedAndCounted :
    ((fun (s : State) c =>
      gives (.imageCheckDone c) s (fun t => decide (t.fld R.GLB_BOOT_STAT 31 30 = 2 ∧ t.fld R.GLB_BOOT_STAT 29 28 = 0 ∧ t.fld R.GLB_BOOT_STAT 6 0 = c.svn % 128 ∧ t.boot.fails = s.boot.fails)) = true)
      (phase 1) goodImage)
    ∧ ((fun (s : State) c =>
      gives (.imageCheckDone c) s (fun t => decide (t.boot.fails = s.boot.fails + 1 ∧ t.boot.last = s.boot.checkImage c none ∧ t.boot.codeA = s.boot.checkImage c none)) = true)
      (phase 1) badImage) :=
  by and_intros <;> decide +kernel

theorem wit_FlashSlotsAreWritten :
    ((fun (s : State) =>
      (s.canonical = true)
      ∧ (s.fld R.GLB_FLASH_STAT 31 31 = 0)
      ∧ (s.booted = false)
      ∧ (s.maint = []))
      up)
    ∧ ((fun (s : State) (len : Fin 67108864) =>
      (s.canonical = true)
      ∧ (s.fld R.GLB_FLASH_STAT 31 31 = 0)
      ∧ (s.booted = false)
      ∧ (s.maint = [])
      ∧ (0 < len.val)
      ∧ (len.val ≤ 33554432))
      up 33554432)
    ∧ ((fun (s : State) (len : Fin 67108864) =>
      (s.canonical = true)
      ∧ (33554432 < len.val)
      ∧ (s.fld R.GLB_FLASH_STAT 31 31 = 0))
      up 33554433)
    ∧ ((fun (s : State) slot len =>
      (s.canonical = true)
      ∧ (s.boot.program = some (slot, len))
      ∧ (s.maintRuns (.flash slot false) = true)
      ∧ (slot < 2))
      ({ up with boot := { Boot.init with program := some (1, 100) }, maint := [(.flash 1 false, true)] }) 1 100) :=
  by and_intros <;> decide +kernel

theorem test_FlashSlotsAreWritten :
    ((fun (s : State) slot =>
      gives (.flashErase slot) s (fun t => decide (t.boot.erased slot = true ∧ t.fld R.GLB_FLASH_STAT 31 31 = 0 ∧ t.fld R.GLB_FLASH_STAT 3 0 = 0 ∧ t.maint = [])) = true)
      up 1)
    ∧ ((fun (s : State) slot (len : Fin 67108864) =>
      gives (.flashProgram slot len) s (fun t => decide (t.boot.program = some (slot.val, len.val) ∧ t.boot.erased slot = true ∧ t.fld R.GLB_FLASH_STAT 31 31 = 1 ∧ t.maint = [(.flash slot false, true)])) = true)
      up 1 33554432) :=
  by and_intros <;> decide +kernel

theorem wit_FusesAreBurntForTheNextBoot :
    ((fun (s : State) =>
      (s.canonical = true)
      ∧ (s.level = 0)
      ∧ (s.boot.minSvnNext < s.fld R.GLB_BOOT_STAT 6 0))
      (up.setF R.GLB_BOOT_STAT 6 0 1))
    ∧ ((fun (s : State) (bytes : List Byte) =>
      (s.canonical = true)
      ∧ (bytes.length = 32)
      ∧ (s.level = 0)
      ∧ (s.boot.ownerReqNext = false))
      up (List.replicate 32 7))
    ∧ ((fun (s : State) =>
      (s.canonical = true)
      ∧ (1 ≤ s.level))
      (up.setF R.PWR_SUPPLY_STAT 15 13 1)) :=
  by and_intros <;> decide +kernel

theorem test_FusesAreBurntForTheNextBoot :
    ((fun (s : State) =>
      gives .secRaiseMinSvn s (fun t => decide (t.boot.minSvnNext = s.fld R.GLB_BOOT_STAT 6 0 ∧ t.boot.minSvn = s.boot.minSvn ∧ t.fld R.GLB_SEC_STAT 30 24 = s.fld R.GLB_BOOT_STAT 6 0 ∧ t.fld R.GLB_SEC_STAT 3 0 = 0)) = true)
      (up.setF R.GLB_BOOT_STAT 6 0 1))
    ∧ ((fun (s : State) (bytes : List Byte) =>
      gives (.secBurnOwnerHash bytes) s (fun t => decide (t.boot.ownerHashNext = bytes ∧ t.boot.ownerReqNext = true ∧ t.boot.ownerReq = s.boot.ownerReq ∧ t.boot.ownerHash = s.boot.ownerHash ∧ t.fld R.GLB_SEC_STAT 31 31 = 1 ∧ t.fld R.GLB_SEC_STAT 3 0 = 0)) = true)
      up (List.replicate 32 7)) :=
  by and_intros <;> decide +kernel

theorem wit_AttestationAnswers :
    ((fun (s : State) =>
      (s.canonical = true)
      ∧ (s.host.up = true)
      ∧ (s.fld R.GLB_ATT_STAT 31 31 = 0))
      ({ hosted with boot := { Boot.init with log := [(List.range 64).map (fun i => BitVec.ofNat 8 i)] } }))
    ∧ ((fun (s : State) x =>
      (s.canonical = true)
      ∧ (s.host.up = true)
      ∧ (s.boot.report = some x))
      ({ hosted with boot := { Boot.init with report := some ([], []) } }) (([], [])))
    ∧ ((fun (s : State) (i : Fin 256) (e : List Byte) =>
      (s.canonical = true)
      ∧ (s.host.up = true)
      ∧ (s.fld R.GLB_ATT_STAT 31 31 = 0)
      ∧ (s.boot.log[i.val]? = some e))
      ({ hosted with boot := { Boot.init with log := [(List.range 64).map (fun i => BitVec.ofNat 8 i)] } }) 0 ((List.range 64).map (fun i => BitVec.ofNat 8 i)))
    ∧ ((fun (s : State) (i : Fin 256) =>
      (s.canonical = true)
      ∧ (s.host.up = true)
      ∧ (s.fld R.GLB_ATT_STAT 31 31 = 0)
      ∧ (s.boot.log[i.val]? = none))
      ({ hosted with boot := { Boot.init with log := [(List.range 64).map (fun i => BitVec.ofNat 8 i)] } }) 1)
    ∧ ((fun (s : State) =>
      (s.canonical = true)
      ∧ (s.host.up = true)
      ∧ (s.fld R.GLB_ATT_STAT 31 31 = 0))
      ({ hosted with boot := { Boot.init with log := [(List.range 64).map (fun i => BitVec.ofNat 8 i)] } })) :=
  by and_intros <;> decide +kernel

theorem test_AttestationAnswers :
    ((fun (s : State) =>
      gives .attestReport s (fun t => decide (t.fld R.GLB_ATT_STAT 31 31 = 1 ∧ t.fld R.GLB_ATT_STAT 3 0 = 0 ∧ t.boot.report = some ((s.rdWords (R.GLB_NONCE 0) 8).flatMap Word.bytesLE, s.boot.logHash))) = true)
      ({ hosted with boot := { Boot.init with log := [(List.range 64).map (fun i => BitVec.ofNat 8 i)] } }))
    ∧ ((fun (s : State) =>
      gives .attestReportDone s (fun t => decide (t.fld R.GLB_ATT_STAT 31 31 = 0 ∧ t.fld R.GLB_ATT_STAT 3 0 = 0 ∧ t.boot.report = none ∧ t.free = s.free + 1)) = true)
      ({ hosted with boot := { Boot.init with report := some ([], []) } })) :=
  by and_intros <;> decide +kernel

end Boot

namespace Ingress

/-- A header waits at port 5. -/
def rx5 (it : Item) : State := up.setRx 5 [it]
def full5 : State := (rx5 (item 9 ack1 5)).setHq (pvKey 5 1) ((List.range 16).map (fun i => item i ack1 5))
/-- A header of the packet waits in pipeline 0's part for port 5. -/
def hq5 (p : Packet) : State := up.setHq (pvKey 5 p.vc) [item 9 p 5]
def held5 : State := up.setPort 5 { Port.init with st := .heldOut }
/-- A packet waits on port 5's VC_BULK for egress 7. -/
def wait5 : State := (up.setF R.BUF_AGE_LIMIT 15 0 3).setWaiting (pvKey 5 3) [⟨item 9 data1 5, 7⟩]
/-- A packet stands at the head of egress 7's queue of TC 0, whose class is strict. -/
def q7 (p : Packet) : State :=
  ((((up.setF (R.PL_TC_SCHED 0 7 0) 8 8 1).setPort 7 { Port.init with st := .up, lanesUp := 3 }).setLink 448
    { Link.init with credits := ⟨9, 9, 9, 9⟩ }).setQueue (qKey 7 0)
    { EQueue.empty with head := [item 9 p 5] }).setXing 64 ⟨true, 9, 0, 0, 0⟩

theorem wit_HeadersAreQueuedAndChecked :
    ((fun (s : State) (port : Fin 1089) it =>
      (s.canonical = true)
      ∧ (port.val < 1088)
      ∧ (s.islandHeld (6 + pipeOf port) = false)
      ∧ (s.rx port).find? (fun x => decide ((s.hq (pvKey port x.vc)).length < 16)) = some it)
      ((rx5 (item 9 ack1 5)).setHq (pvKey 5 1) [item 8 ack1 5]) 5 (item 9 ack1 5))
    ∧ ((fun (s : State) it =>
      (s.canonical = true)
      ∧ (s.islandHeld 23 = false)
      ∧ (s.rx 1088).find? (fun x => decide ((s.hq (pvKey 1088 x.vc)).length < 16) && s.pl17Room x.vc x.n) = some it)
      (up.setRx 1088 [item 9 ack1 1088]) (item 9 ack1 1088))
    ∧ ((fun (s : State) (port : Fin 1089) =>
      (s.canonical = true)
      ∧ (port.val < 1088)
      ∧ (s.rx port).find? (fun x => decide ((s.hq (pvKey port x.vc)).length < 16)) = none
      ∧ (s.headerWaits (pipeOf port) = true))
      full5 5)
    ∧ ((fun (s : State) (pl : Fin 18) k it rest p =>
      (s.canonical = true)
      ∧ (s.works (pipelineDomain pl) = true)
      ∧ (s.islandHeld (6 + pl) = false)
      ∧ (s.islandHeld 36 = false)
      ∧ (s.lookupKey pl = some k)
      ∧ (s.hq k = it :: rest)
      ∧ (it.body = .ffp p)
      ∧ (it.vc = vcRSP)
      ∧ (s.setHq k rest).headerWaits pl = false)
      ({ hq5 ack1 with dom := [(2, .on), (3, .on), (5, .on)] }) 0 (pvKey 5 1) (item 9 ack1 5) [] ack1)
    ∧ ((fun (s : State) it p reason =>
      (s.canonical = true)
      ∧ (it.own = false)
      ∧ (s.ingressCheck it.port p = some reason))
      up (item 9 { ack1 with trailer := 1 } 5) ({ ack1 with hdr := ack1.hdr.set 0 0 }) drHcrc) :=
  by and_intros <;> decide +kernel

theorem test_HeadersAreQueuedAndChecked :
    ((fun (s : State) (port : Fin 1089) it =>
      gives (.headerArrival port) s (fun t => decide (t.hq (pvKey port it.vc) = s.hq (pvKey port it.vc) ++ [it] ∧ t.dp.rx = Tbl.put (fun _ => []) s.dp.rx port ((s.rx port).filter (fun x => x.id != it.id)) ∧ (s.hq (pvKey port it.vc) = [] → t.cnt = s.cnt) ∧ (s.hq (pvKey port it.vc) ≠ [] → Tbl.get (fun _ => 0) s.cyc (C.PL_HDR_STALL (pipeOf port)) ≤ cycle16 s.now → t.count (C.PL_HDR_STALL (pipeOf port)) = (s.count (C.PL_HDR_STALL (pipeOf port)) + 1) % 2 ^ 64))) = true)
      ((rx5 (item 9 ack1 5)).setHq (pvKey 5 1) [item 8 ack1 5]) 5 (item 9 ack1 5))
    ∧ ((fun (s : State) it =>
      gives (.headerArrival 1088) s (fun t => decide (t.hq (pvKey 1088 it.vc) = s.hq (pvKey 1088 it.vc) ++ [{ it with charge := .reserved }] ∧ t.dp.inRsv = addAt s.dp.inRsv (pvKey 1088 it.vc) it.n)) = true)
      (up.setRx 1088 [item 9 ack1 1088]) (item 9 ack1 1088)) :=
  by and_intros <;> decide +kernel

theorem wit_FirstFailingCheckNamesTheDrop :
    ((fun (p : Packet) =>
      (p.hcrcOk = false))
      ({ ack1 with hdr := ack1.hdr.set 0 0 }))
    ∧ ((fun (s : State) (port : Nat) (p : Packet) =>
      (p.hcrcOk = true)
      ∧ (port < 1088)
      ∧ (s.port port).st = .heldOut
      ∧ (tyLinkLocal p.ty = false))
      held5 5 ack1.sealed)
    ∧ ((fun (s : State) (port : Nat) (p : Packet) =>
      (p.hcrcOk = true)
      ∧ (s.port port).st ≠ .heldOut
      ∧ (p.version ≠ 1))
      up 5 (Packet.sealed (ack1.setFld 0 31 28 2)))
    ∧ ((fun (s : State) (port : Nat) (p : Packet) =>
      (p.hcrcOk = true)
      ∧ (s.port port).st ≠ .heldOut
      ∧ (p.version = 1)
      ∧ (wellTyped p = false))
      up 5 (Packet.sealed (ack1.setFld 0 16 15 3)))
    ∧ ((fun (s : State) (port : Nat) (p : Packet) =>
      (p.hcrcOk = true)
      ∧ (s.port port).st ≠ .heldOut
      ∧ (p.version = 1)
      ∧ (wellTyped p = true)
      ∧ (4096 < p.length))
      up 5 (Packet.sealed (data1.setFld 1 31 19 4097))) :=
  by and_intros <;> decide +kernel

theorem test_FirstFailingCheckNamesTheDrop :
    ((fun (s : State) (port : Nat) (p : Packet) =>
      s.ingressCheck port p = some drHcrc)
      held5 5 ({ ack1 with hdr := ack1.hdr.set 0 0 }))
    ∧ ((fun (s : State) (port : Nat) (p : Packet) =>
      s.ingressCheck port p = some drOutOfService)
      held5 5 ack1.sealed) :=
  by and_intros <;> decide +kernel

theorem wit_DropsAreCounted :
    ((fun (s : State) (reason : Nat) (it : Item) =>
      (s.canonical = true)
      ∧ (1 ≤ reason)
      ∧ (reason ≤ 22)
      ∧ (∀ x, x ∈ s.host.txWait → x.1 ≠ it.id)
      ∧ (s.dp.badTails.contains it.id = false))
      up 22 (item 9 ack1 1087))
    ∧ ((fun (s : State) (reason : Nat) (it : Item) =>
      (s.canonical = true)
      ∧ (1 ≤ reason)
      ∧ (reason ≤ 22)
      ∧ (∀ x, x ∈ s.host.txWait → x.1 ≠ it.id)
      ∧ (s.dp.badTails.contains it.id = false)
      ∧ (it.port < 1088))
      up 22 (item 9 ack1 1087))
    ∧ ((fun (s : State) (reason : Nat) (it : Item) =>
      (s.canonical = true)
      ∧ (1 ≤ reason)
      ∧ (reason ≤ 22)
      ∧ (∀ x, x ∈ s.host.txWait → x.1 ≠ it.id)
      ∧ (s.dp.badTails.contains it.id = true))
      ({ up with dp := { Datapath.empty with badTails := [9] } }) 22 (item 9 ack1 1087))
    ∧ ((fun (s : State) (reason : Nat) (it : Item) =>
      (s.canonical = true)
      ∧ (1 ≤ reason)
      ∧ (reason ≤ 22)
      ∧ (∀ x, x ∈ s.host.txWait → x.1 ≠ it.id))
      ({ up with dp := { Datapath.empty with tails := [⟨9, 5, true, none⟩, ⟨8, 5, true, none⟩] } }) 22 (item 9 ack1 1087)) :=
  by and_intros <;> decide +kernel

theorem test_DropsAreCounted :
    ((fun (s : State) (reason : Nat) (q : Nat) (it : Item) =>
      (s.dropItem reason q it).count (C.BUF_DROP (reason - 1)) = (s.count (C.BUF_DROP (reason - 1)) + 1) % 2 ^ 64)
      up 22 0 (item 9 ack1 1087))
    ∧ ((fun (s : State) (reason : Nat) (q : Nat) (it : Item) =>
      (s.dropItem reason q it).count (C.TEL_PORT_DROP it.port (reason - 1)) = (s.count (C.TEL_PORT_DROP it.port (reason - 1)) + 1) % 2 ^ 64)
      up 22 0 (item 9 ack1 1087)) :=
  by and_intros <;> decide +kernel

theorem wit_WaitingPacketsAreRetriedOrAged :
    ((fun (s : State) (port : Fin 1089) (vc : Fin 4) =>
      (s.canonical = true)
      ∧ (s.replicaWaits port vc = false))
      wait5 5 3)
    ∧ ((fun (s : State) (pl : Fin 18) (vc : Fin 4) w =>
      (s.canonical = true)
      ∧ (s.bankWaiting pl).find? (fun x => x.vc == vc.val) = some w
      ∧ (w.port / 64 = pl.val))
      ({ up with dp := { Datapath.empty with bankQ := [(0, [⟨1, 4, 8, 5, false⟩, ⟨3, 2, 9, 5, false⟩])] } }) 0 3 (⟨3, 2, 9, 5, false⟩))
    ∧ ((fun (s : State) (pl : Fin 18) =>
      (s.canonical = true)
      ∧ (s.bankWaiting pl ≠ []))
      ({ up with dp := { Datapath.empty with bankQ := [(0, [⟨3, 2, 9, 5, false⟩])] } }) 0)
    ∧ ((fun (s : State) (port : Fin 1089) (vc : Fin 4) w ws =>
      (s.canonical = true)
      ∧ (s.ageNs ≠ 0)
      ∧ (s.waitingAt (pvKey port vc) = w :: ws))
      wait5 5 3 (⟨item 9 data1 5, 7⟩) [])
    ∧ ((fun (s : State) it l =>
      (s.canonical = true)
      ∧ (s.dp.hold = it :: l))
      ({ up with dp := { Datapath.empty with hold := [item 9 data1 5] } }) (item 9 data1 5) [])
    ∧ ((fun (s : State) (leaf : Fin 4096) =>
      (s.canonical = true)
      ∧ (s.limit leaf).rate < 400 * 65536)
      (up.setLimit 4095 { RateLim.init with rate := 65536 }) 4095)
    ∧ ((fun (s : State) (port : Fin 1089) x =>
      (s.canonical = true)
      ∧ (s.dp.tails.find? (fun t => t.port == port.val) = some x)
      ∧ (x.ok = true)
      ∧ (x.frame = none)
      ∧ (s.dp.flying = []))
      ({ up with dp := { Datapath.empty with tails := [⟨9, 5, true, none⟩] } }) 5 (⟨9, 5, true, none⟩))
    ∧ ((fun (s : State) (port : Fin 1089) x =>
      (s.canonical = true)
      ∧ (s.dp.tails.find? (fun t => t.port == port.val) = some x)
      ∧ (x.ok = false)
      ∧ (x.frame = none)
      ∧ (s.dp.flying = [])
      ∧ (x.port < 1088))
      ({ up with dp := { Datapath.empty with tails := [⟨9, 5, false, none⟩] } }) 5 (⟨9, 5, false, none⟩)) :=
  by and_intros <;> decide +kernel

theorem test_WaitingPacketsAreRetriedOrAged :
    ((fun (s : State) (port : Fin 1089) (vc : Fin 4) =>
      nextIs (exec (.packetAdmitRetry port vc) s) (((offerWaiting (s.waitingAt (pvKey port vc)) s).2.setWaiting (pvKey port vc) (offerWaiting (s.waitingAt (pvKey port vc)) s).1).reconsider) = true)
      wait5 5 3)
    ∧ ((fun (s : State) (pl : Fin 18) (vc : Fin 4) (w : BankWrite) =>
      gives (.bankWriteRetry pl vc true) s (fun t => decide (t.bankWaiting pl = (s.bankWaiting pl).filter (fun x => x.id != w.id) ∧ t.dp.cellBanks.any (fun x => x.1 == w.id) = true ∧ (t.bankWaiting pl = [] → t.cnt = s.cnt))) = true)
      ({ up with dp := { Datapath.empty with bankQ := [(0, [⟨1, 4, 8, 5, false⟩, ⟨3, 2, 9, 5, false⟩])] } }) 0 3 (⟨3, 2, 9, 5, false⟩)) :=
  by and_intros <;> decide +kernel

theorem wit_StrictClassesSendFirst :
    (fun (s : State) (egress : Nat) (tc : Nat) (it : Item) =>
      (tc < 8)
      ∧ (s.strict egress tc = true)
      ∧ (s.eligible egress tc = some it)
      ∧ (∀ u : Nat, u < 8 → tc < u → s.strict egress u = true → s.eligible egress u = none))
      (q7 ack1) 7 0 (item 9 ack1 5) :=
  by and_intros <;> decide +kernel

theorem test_StrictClassesSendFirst :
    (fun (s : State) (egress : Nat) (tc : Nat) (it : Item) =>
      s.choose egress = (some (tc, it), s)
      ∧ (it.vc = vcRSP ∨ (s.shaperAllows egress tc = true ∧ s.shaperAllows egress 8 = true)))
      (q7 ack1) 7 0 (item 9 ack1 5) :=
  by and_intros <;> decide +kernel

theorem wit_EgressCommandsTakeEffect :
    ((fun (s : State) (egress : Fin 1094) tc it (u : State) =>
      (s.canonical = true)
      ∧ (s.tel.isolated = [])
      ∧ (s.tel.update = none)
      ∧ (s.choose egress = (some (tc, it), u)))
      (q7 ack1) 7 0 (item 9 ack1 5) (q7 ack1))
    ∧ ((fun (s : State) (egress : Fin 1094) (i : Fin 9) t0 =>
      (s.canonical = true)
      ∧ (s.wheelPos egress i = .slot t0))
      (up.setShaper 7 8 shaperFull (.slot 55)) 7 8 55)
    ∧ ((fun (s : State) =>
      (s.canonical = true))
      (up.setShaper 7 8 shaperFull (.overflow 55)))
    ∧ ((fun (s : State) (egress : Fin 1094) (i : Fin 9) =>
      (s.canonical = true)
      ∧ (s.on (regDomain (R.PL_SHP (egress / 64) (egress % 64) i)) = true))
      up 1093 8)
    ∧ ((fun (s : State) (port : Fin 1088) (tc : Fin 8) =>
      (s.canonical = true)
      ∧ (s.on (regDomain (R.PL_POL_C (port / 64) (port % 64) tc)) = true))
      up 1087 7) :=
  by and_intros <;> decide +kernel

theorem test_EgressCommandsTakeEffect :
    ((fun (s : State) (egress : Fin 1094) tc =>
      gives (.egressSchedule egress) s (fun t => decide ((t.queue (qKey egress tc)).head = [] ∧ (t.link 448).txNext = 1)) = true)
      (q7 ack1) 7 0)
    ∧ ((fun (s : State) (egress : Fin 1094) (i : Fin 9) t0 =>
      gives (.shaperEligible egress i) s (fun t => decide (t.now = max s.now t0 ∧ t.sched.wheel = Tbl.put (fun _ => .free) s.sched.wheel (shpKey egress i) .free)) = true)
      (up.setShaper 7 8 shaperFull (.slot 55)) 7 8 55) :=
  by and_intros <;> decide +kernel

theorem wit_TokenLedgerBalances :
    ((fun (b : Bucket) (base : Int) =>
      (b.tokens = base + b.added + b.adjust - b.charged - b.clipped))
      shaperFull ((65536 * tokUnit : Nat)))
    ∧ ((fun (b : Bucket) (base : Int) =>
      (b.tokens = base + b.added + b.adjust - b.charged - b.clipped))
      shaperFull ((65536 * tokUnit : Nat)))
    ∧ ((fun (b : Bucket) (base : Int) =>
      (b.tokens = base + b.added + b.adjust - b.charged - b.clipped))
      shaperFull ((65536 * tokUnit : Nat))) :=
  by and_intros <;> decide +kernel

theorem test_TokenLedgerBalances :
    ((fun (b : Bucket) (base : Int) (rate : Nat) (cap : Nat) (now : Nat) =>
      (b.refill rate cap now).tokens = base + (b.refill rate cap now).added + (b.refill rate cap now).adjust - (b.refill rate cap now).charged - (b.refill rate cap now).clipped)
      shaperFull ((65536 * tokUnit : Nat)) 5 65536 700)
    ∧ ((fun (b : Bucket) (base : Int) (n : Nat) =>
      (b.charge n).tokens = base + (b.charge n).added + (b.charge n).adjust - (b.charge n).charged - (b.charge n).clipped)
      shaperFull ((65536 * tokUnit : Nat)) 300) :=
  by and_intros <;> decide +kernel

theorem wit_BufferRegistersTakeEffect :
    ((fun (s : State) (i : Fin 8) w =>
      (s.canonical = true)
      ∧ (s.on (regDomain (R.BUF_MARK i)) = true)
      ∧ (marksOrdered w = true))
      up 7 0x20080010)
    ∧ ((fun (s : State) (i : Fin 8) w =>
      (s.canonical = true)
      ∧ (s.on (regDomain (R.BUF_MARK i)) = true)
      ∧ (marksOrdered w = false))
      up 7 0x00100801)
    ∧ ((fun (s : State) r w =>
      (s.canonical = true)
      ∧ (s.on (regDomain (rsvOff r)) = true)
      ∧ (s.store (rsvOff r) w).reservedTotal ≤ 393216)
      up (.tcCfg 3) 0x00000001)
    ∧ ((fun (s : State) r w =>
      (s.canonical = true)
      ∧ (s.on (regDomain (rsvOff r)) = true)
      ∧ (393216 < (s.store (rsvOff r) w).reservedTotal))
      up .inRsv 0xFFFFFFFF)
    ∧ ((fun (s : State) =>
      (s.canonical = true)
      ∧ (s.fld R.BUF_FWD_SPRAY_CTRL 15 0 = 0))
      ({ up with dp := { Datapath.empty with depth := [(9, 3), (600, 4)] } }.setF R.BUF_FWD_SPRAY_CTRL 15 0 0))
    ∧ ((fun (s : State) =>
      (s.canonical = true)
      ∧ (s.fld R.BUF_FWD_SPRAY_CTRL 15 0 = 0))
      (up.setF R.BUF_FWD_SPRAY_CTRL 15 0 0))
    ∧ ((fun (s : State) (pl : Fin 17) (egress : Nat) (tc : Nat) =>
      (s.canonical = true)
      ∧ (s.fld R.BUF_FWD_SPRAY_CTRL 15 0 ≠ 0)
      ∧ (egress / 64 = pl.val)
      ∧ (tc < 8))
      (((up.setQueue (qKey 7 0) { EQueue.empty with guar := 9 }).setF R.BUF_FWD_SPRAY_CTRL 15 0 60).setF (R.BUF_MARK 0) 9 0 3) 0 7 0) :=
  by and_intros <;> decide +kernel

theorem test_BufferRegistersTakeEffect :
    ((fun (s : State) (i : Fin 8) w =>
      gives (.markThresholdWrite i w) s (fun t => decide (t.rd (R.BUF_MARK i) = storeWord (R.BUF_MARK i) w (s.rd (R.BUF_MARK i)) ∧ regsElse [R.BUF_MARK i] s t = true)) = true)
      up 7 0x20080010)
    ∧ ((fun (s : State) (i : Fin 8) w =>
      gives (.markThresholdWrite i w) s (fun t => decide (t.fld R.BUF_ADM_STAT 30 30 = 1 ∧ regsElse [R.BUF_ADM_STAT] s t = true)) = true)
      up 7 0x00100801) :=
  by and_intros <;> decide +kernel

theorem wit_SpillBlocksMove :
    ((fun (s : State) (egress : Fin 1094) (tc : Fin 8) b =>
      (s.canonical = true)
      ∧ (s.queue (qKey egress tc)).spill.find? SpillBlock.isFilling = some b
      ∧ (s.spillRuns = true)
      ∧ (s.spillRegionFree = true))
      ((({ linked.setQueue (qKey 7 2) { EQueue.empty with spill := [⟨.filling 7, [{ item 9 data1 5 with n := 64 }], 1⟩] } with clk := ⟨5000, 0, 0, 0⟩ }).setF R.MEM_SPILL_GRANT 15 0 8).setF R.MEM_EASEL_SPACE 31 16 9) 7 2 (⟨.filling 7, [{ item 9 data1 5 with n := 64 }], 1⟩))
    ∧ ((fun (s : State) (egress : Fin 1094) (tc : Fin 8) b =>
      (s.canonical = true)
      ∧ (s.queue (qKey egress tc)).spill.find? (fun x => x.st == .writing) = some b)
      ({ linked.setQueue (qKey 7 2) { EQueue.empty with spill := [⟨.writing, [{ item 9 data1 5 with n := 64 }], 1⟩] } with clk := ⟨5000, 0, 0, 0⟩ }) 7 2 (⟨.writing, [{ item 9 data1 5 with n := 64 }], 1⟩))
    ∧ ((fun (s : State) (egress : Fin 1094) (tc : Fin 8) its d bs =>
      (s.canonical = true)
      ∧ (s.queue (qKey egress tc)).spill = ⟨.reading, its, d⟩ :: bs)
      ({ linked.setQueue (qKey 7 2) { EQueue.empty with spill := [⟨.reading, [{ item 9 data1 5 with n := 64 }], 1⟩] } with clk := ⟨5000, 0, 0, 0⟩ }) 7 2 ([{ item 9 data1 5 with n := 64 }]) 1 []) :=
  by and_intros <;> decide +kernel

theorem test_SpillBlocksMove :
    ((fun (s : State) (egress : Fin 1094) (tc : Fin 8) (b : SpillBlock) =>
      gives (.spillBlockWrite egress tc) s (fun t => decide (((t.queue (qKey egress tc)).spill.find? (fun x => x.st == .writing)).isSome = true ∧ t.count C.BUF_SPILL_BYTES = (s.count C.BUF_SPILL_BYTES + cellsIn b.items * 256) % 2 ^ 64 ∧ (cellsIn b.items = 64 → t.now = s.now))) = true)
      ((({ linked.setQueue (qKey 7 2) { EQueue.empty with spill := [⟨.filling 7, [{ item 9 data1 5 with n := 64 }], 1⟩] } with clk := ⟨5000, 0, 0, 0⟩ }).setF R.MEM_SPILL_GRANT 15 0 8).setF R.MEM_EASEL_SPACE 31 16 9) 7 2 (⟨.filling 7, [{ item 9 data1 5 with n := 64 }], 1⟩))
    ∧ ((fun (s : State) (egress : Fin 1094) (tc : Fin 8) (b : SpillBlock) =>
      gives (.spillWriteConfirm egress tc) s (fun t => decide (t.dp.staging = s.dp.staging - cellsIn b.items ∧ t.dp.blocksWritten = s.dp.blocksWritten + 1)) = true)
      ({ linked.setQueue (qKey 7 2) { EQueue.empty with spill := [⟨.writing, [{ item 9 data1 5 with n := 64 }], 1⟩] } with clk := ⟨5000, 0, 0, 0⟩ }) 7 2 (⟨.writing, [{ item 9 data1 5 with n := 64 }], 1⟩)) :=
  by and_intros <;> decide +kernel

end Ingress

namespace Tables

def bit31 : Word := 0x80000000
/-- A leaf port up with its weight, in bundle 9. -/
def leaf5 : State :=
  ({ up with clk := ⟨1000000, 0, 0, 0⟩ }.setPort 5 { Port.init with st := .up, lanesUp := 3, uid := 9, identSeen := true }).setF (R.PL_PATH_WEIGHT 0 5) 3 0 2
def easel5 : State := leaf5.setF R.BUF_FWD_SPRAY_CTRL 31 31 1
def moving (p : MovePhase) : State :=
  ({ up with dp := { Datapath.empty with moves := [⟨9, 63, .member 4, .member 5, p, []⟩] } }).setF R.BUF_FWD_MOVE_CTRL 31 16 5
/-- A PATH_MARK. -/
def mark1 : Packet := pk 0x04 3 1 8 7 [] []
/-- A context entry: one contributor, port 5; fp32, one element, one segment; a timeout of 100 µs. -/
def entry1 (child : Bool) : List Word :=
  [if child then 0xC3000000 else bit31, 1, 0x100, 0, 0x200400, 0x640000, 0, 0, 0x20] ++ List.replicate 33 0
def ctxOf (child : Bool) (st : CtxState) (g : Segment) : State :=
  let m := membership (entry1 child)
  linked.setCtx 16383 { Ctx.init with
    st := st, entry := entry1 child, member := m, next := m, segs := if g = Segment.idle then [] else [(0, g)] }
/-- A contribution of port 5 to context 16383. -/
def contrib1 (fmt : Nat) : Item :=
  item 9 (pk 0x20 2 0 0 7 [0, 0, BitVec.ofNat 32 (16383 * 2 ^ 18 + 5 * 2 ^ 7), BitVec.ofNat 32 (fmt * 2 ^ 20 + 1)] [0, 0, 128, 63]) 5
def c1 : Contrib := ⟨5, 1, false, [0, 0, 128, 63], 1, 0, 0, 3⟩
def seg1 : Segment := { Segment.idle with st := .open_, timeoutNs := 100000, waiting := [c1], deadline := some 50 }
def taken1 : State :=
  (((ctxOf false .active Segment.idle).setUnitIn 4 [contrib1 0]).noteTerms 16383 (fun t => { t with delivered := t.delivered + 1 })).stage
    16383 0 (contrib1 0) true
def nospace : State :=
  let s := (ctxOf false .active Segment.idle).setF R.CNV_STAGE_CTRL 15 0 0
  { s with canvas := { s.canvas with staging := 0 } }
def eng0 (s : State) : State :=
  (({ s with pal := { s.pal with dies := [(0, { PalDie.init with budget := 1000000 })] } } : State).setEngine 0
    { Engine.init with st := .idle }).setF R.CNV_PAL_SHARE 6 0 100

theorem wit_PathWeightsAndMoves :
    ((fun (s : State) (port : Fin 1088) want =>
      (s.canonical = true)
      ∧ (s.easelWeight port = some want)
      ∧ (s.fld R.BUF_FWD_SPRAY_CTRL 31 31 = 1)
      ∧ (s.on (portDomain port) = true)
      ∧ (want ≠ 0)
      ∧ (want < 16)
      ∧ (s.wBase port ≠ 0)
      ∧ (s.wBase port ≠ want)
      ∧ (Tbl.get (fun _ => 0) s.dp.weightAt port + 100000 ≤ s.now))
      easel5 5 8)
    ∧ ((fun (s : State) (port : Fin 1088) (w : Word) =>
      (s.canonical = true)
      ∧ (s.on (regDomain (R.PL_PATH_WEIGHT (port / 64) (port % 64))) = true)
      ∧ (s.fld R.BUF_FWD_SPRAY_CTRL 31 31 = 0)
      ∧ (w.fld 3 0 ≠ 0)
      ∧ (s.wBase port ≠ 0))
      (leaf5.setF R.BUF_FWD_SPRAY_CTRL 31 31 0) 5 3)
    ∧ ((fun (s : State) (port : Fin 1088) =>
      (s.canonical = true)
      ∧ (s.on (regDomain (R.PL_PATH_WEIGHT (port / 64) (port % 64))) = true)
      ∧ (s.fld R.BUF_FWD_SPRAY_CTRL 31 31 = 1))
      easel5 5)
    ∧ ((fun (s : State) (uid : Word) =>
      (s.canonical = true)
      ∧ (s.fld R.BUF_FWD_SPRAY_CTRL 31 31 = 1)
      ∧ (s.bundle uid.toNat).lastRebalance = none
      ∧ (∀ m, m ∈ s.dp.moves → m.bundle ≠ uid.toNat))
      easel5 9)
    ∧ ((fun (s : State) (uid : Word) (b : Fin 64) (q : Fin 1024) p =>
      (s.canonical = true)
      ∧ (s.fld R.BUF_FWD_SPRAY_CTRL 31 31 = 1)
      ∧ (s.bundle uid.toNat).lastRebalance = none
      ∧ (∀ m, m ∈ s.dp.moves → m.bundle ≠ uid.toNat)
      ∧ (s.takesBuckets uid.toNat q = true)
      ∧ (s.bundle uid.toNat).map[b.val]? = some (.member p)
      ∧ (p ≠ q.val))
      (easel5.setBundle 9 ⟨List.replicate 64 (.member 4), none⟩) 9 63 5 4)
    ∧ ((fun (s : State) (uid : Word) (b : Fin 64) m t0 p =>
      (s.canonical = true)
      ∧ (s.findMove uid.toNat b = some m)
      ∧ (m.phase = .settle t0)
      ∧ (m.old = .member p)
      ∧ (m.held = [])
      ∧ (s.settleNs ≠ 0))
      (moving (.settle 77)) 9 63 (⟨9, 63, .member 4, .member 5, .settle 77, []⟩) 77 4)
    ∧ ((fun (s : State) (uid : Word) (b : Fin 64) m x t0 =>
      (s.canonical = true)
      ∧ (s.findMove uid.toNat b = some m)
      ∧ (m.phase = .marks x (some t0))
      ∧ (m.held = []))
      (moving (.marks [] (some 77))) 9 63 (⟨9, 63, .member 4, .member 5, .marks [] (some 77), []⟩) [] 77) :=
  by and_intros <;> decide +kernel

theorem test_PathWeightsAndMoves :
    ((fun (s : State) (port : Fin 1088) want =>
      gives (.easelWeightUpdate port) s (fun t => decide (t.wBase port = stepWeight (s.wBase port) want ∧ t.dp.weightAt = Tbl.put (fun _ => 0) s.dp.weightAt port s.now ∧ t.dp.moves = s.dp.moves)) = true)
      easel5 5 8)
    ∧ ((fun (s : State) (port : Fin 1088) w =>
      nextIs (exec (.pathWeightWrite port w) s) ((s.store (R.PL_PATH_WEIGHT (port / 64) (port % 64)) w)) = true)
      (leaf5.setF R.BUF_FWD_SPRAY_CTRL 31 31 0) 5 3) :=
  by and_intros <;> decide +kernel

theorem wit_PathMarksAreAcknowledged :
    ((fun (s : State) it l p =>
      (s.canonical = true)
      ∧ (s.dp.markIn = it :: l)
      ∧ (it.body = .ffp p))
      ({ up with dp := { Datapath.empty with markIn := [item 9 mark1 5] } }) (item 9 mark1 5) [] mark1)
    ∧ ((fun (s : State) m =>
      (s.canonical = true)
      ∧ (s.dp.markWaits.find? (fun m => m.behind.isEmpty) = some m)
      ∧ (s.joined = true))
      (join { up with dp := { Datapath.empty with markWaits := [⟨5, mark1, []⟩] } }) (⟨5, mark1, []⟩))
    ∧ ((fun (s : State) it l =>
      (s.canonical = true)
      ∧ (s.hubIn = it :: l)
      ∧ (it.pkt.ty = tyACK))
      (up.setUnitIn 5 [item 9 ack1 5]) (item 9 ack1 5) []) :=
  by and_intros <;> decide +kernel

theorem test_PathMarksAreAcknowledged :
    ((fun (s : State) it l p =>
      gives .pathMarkReceive s (fun t => decide (t.dp.markIn = l ∧ t.dp.markWaits.length = s.dp.markWaits.length + 1 ∧ (t.dp.markWaits.getLast?.map (fun m => (m.pkt, m.port)) = some (p, it.port)))) = true)
      ({ up with dp := { Datapath.empty with markIn := [item 9 mark1 5] } }) (item 9 mark1 5) [] mark1)
    ∧ ((fun (s : State) m =>
      gives .pathMarkAckSend s (fun t => decide (t.dp.markWaits = s.dp.markWaits.filter (fun x => decide (x ≠ m)) ∧ ((t.rx 1088).map (fun x => (x.body, x.own)) = [(.ffp (ackFor m.pkt 0 []), true)]))) = true)
      (join { up with dp := { Datapath.empty with markWaits := [⟨5, mark1, []⟩] } }) (⟨5, mark1, []⟩)) :=
  by and_intros <;> decide +kernel

theorem wit_ForwardingTablesSwitchAtTheEpoch :
    ((fun (s : State) =>
      (s.canonical = true)
      ∧ (s.on (regDomain R.BUF_FWD_CMD) = true)
      ∧ (s.tab.pending = none)
      ∧ (leafEntryOk (s.rdWords (R.BUF_FWD_DATA 0) 4) = true))
      (up.wrWords (R.BUF_FWD_DATA 0) [0xC0000000, 1, 2, 3]))
    ∧ ((fun (s : State) e =>
      (s.canonical = true)
      ∧ (s.on (regDomain R.BUF_FWD_CMD) = true)
      ∧ (s.tab.pending = some e))
      ({ up with tab := { Tables.empty with pending := some 5 } }) 5)
    ∧ ((fun (s : State) (i : Fin 4096) a b c d =>
      (s.canonical = true)
      ∧ (s.on (regDomain R.BUF_FWD_CMD) = true)
      ∧ (Tbl.get (fun _ => leafZero) s.tab.leafShadow i = [a, b, c, d]))
      ({ up with tab := { Tables.empty with leafShadow := [(4095, [1, 2, 3, 4])] } }) 4095 1 2 3 4)
    ∧ ((fun (s : State) (i : Fin 4096) a b c d =>
      (s.canonical = true)
      ∧ (s.on (regDomain R.BUF_FWD_CMD) = true)
      ∧ (Tbl.get (fun _ => leafZero) s.tab.leafActive i = [a, b, c, d]))
      ({ up with tab := { Tables.empty with leafActive := [(4095, [1, 2, 3, 4])] } }) 4095 1 2 3 4)
    ∧ ((fun (s : State) =>
      (s.canonical = true)
      ∧ (s.on (regDomain R.BUF_FWD_GEN_CTRL) = true)
      ∧ (s.tab.pending = none)
      ∧ (s.fld R.BUF_FWD_EPOCH_SEC 31 0 = 0)
      ∧ (s.fld R.BUF_FWD_EPOCH_NS 29 0 = 0)
      ∧ (s.tab.lastEpoch = none))
      up)
    ∧ ((fun (s : State) e =>
      (s.canonical = true)
      ∧ (s.tab.pending = some e)
      ∧ (s.tab.ready = true))
      ({ up with tab := { Tables.empty with pending := some 5000, ready := true, leafShadow := [(4095, [1, 2, 3, 4])] } }) 5000)
    ∧ ((fun (s : State) e =>
      (s.canonical = true)
      ∧ (s.tab.pending = some e)
      ∧ (s.tab.ready = true)
      ∧ (s.dp.hold = [])
      ∧ (s.canvas.ctxs = [])
      ∧ (s.canvas.shadow = []))
      ({ up with tab := { Tables.empty with pending := some 5000, ready := true }, prism := { Prism.init with patShadow := [(3, [1])] } }) 5000)
    ∧ ((fun (s : State) =>
      (s.canonical = true))
      ({ up with tab := { Tables.empty with copying := true } })) :=
  by and_intros <;> decide +kernel

theorem test_ForwardingTablesSwitchAtTheEpoch :
    ((fun (s : State) (i : Fin 4096) =>
      gives (.fwdWriteShadow false i) s (fun t => decide (t.fld R.BUF_FWD_STAT 3 0 = 0 ∧ t.tab = { s.tab with leafShadow := Tbl.put (fun _ => leafZero) s.tab.leafShadow i (s.rdWords (R.BUF_FWD_DATA 0) 4) })) = true)
      (up.wrWords (R.BUF_FWD_DATA 0) [0xC0000000, 1, 2, 3]) 4095)
    ∧ ((fun (s : State) (ovr : Bool) (i : Fin 4096) =>
      gives (.fwdWriteShadow ovr i) s (fun t => decide (t.fld R.BUF_FWD_STAT 3 0 = 2 ∧ t.tab = s.tab)) = true)
      ({ up with tab := { Tables.empty with pending := some 5 } }) true 4095) :=
  by and_intros <;> decide +kernel

theorem wit_GroupsAreWrittenReadAndReplicated :
    ((fun (s : State) =>
      (s.canonical = true)
      ∧ (s.on (regDomain R.MCT_CMD) = true)
      ∧ (s.tab.pending = none)
      ∧ (groupEntryOk (s.rdWords (R.MCT_DATA 0) 36) = true)
      ∧ (s.rd (R.MCT_DATA 0)).fld 31 31 = 1)
      (up.wr (R.MCT_DATA 0) 0xA0000000))
    ∧ ((fun (s : State) =>
      (s.canonical = true)
      ∧ (s.on (regDomain R.MCT_CMD) = true)
      ∧ (s.tab.pending = none)
      ∧ (groupEntryOk (s.rdWords (R.MCT_DATA 0) 36) = true)
      ∧ (s.rd (R.MCT_DATA 0)).fld 31 31 = 0)
      ({ up with tab := { Tables.empty with grpShadow := [(65535, [1])] } }))
    ∧ ((fun (s : State) (g : Fin 65536) =>
      (s.canonical = true)
      ∧ (s.on (regDomain R.MCT_CMD) = true)
      ∧ (Tbl.get (fun _ => groupZero) s.tab.grpShadow g).length = 36)
      ({ up with tab := { Tables.empty with grpShadow := [(65535, List.replicate 36 5)] } }) 65535)
    ∧ ((fun (s : State) (g : Fin 65536) =>
      (s.canonical = true)
      ∧ (s.on (regDomain R.MCT_CMD) = true)
      ∧ (Tbl.get (fun _ => groupZero) s.tab.grpActive g).length = 36)
      ({ up with tab := { Tables.empty with grpActive := [(65535, List.replicate 36 5)] } }) 65535)
    ∧ ((fun (s : State) x l =>
      (s.canonical = true)
      ∧ (s.dp.mcIn = x :: l)
      ∧ (s.works 8 = true)
      ∧ (s.islandHeld 37 = false))
      ({ up with dp := { Datapath.empty with mcIn := [⟨item 9 data1 5, [0]⟩] } }) (⟨item 9 data1 5, [0]⟩) [])
    ∧ ((fun (s : State) =>
      (s.canonical = true))
      up) :=
  by and_intros <;> decide +kernel

theorem test_GroupsAreWrittenReadAndReplicated :
    ((fun (s : State) (g : Fin 65536) =>
      gives (.mctWriteShadow g) s (fun t => decide (t.fld R.MCT_STAT 3 0 = 0 ∧ t.tab = { s.tab with grpShadow := Tbl.put (fun _ => groupZero) s.tab.grpShadow g (s.rdWords (R.MCT_DATA 0) 36) })) = true)
      (up.wr (R.MCT_DATA 0) 0xA0000000) 65535)
    ∧ ((fun (s : State) (g : Fin 65536) =>
      gives (.mctWriteShadow g) s (fun t => decide (t.fld R.MCT_STAT 3 0 = 0 ∧ t.tab = { s.tab with grpShadow := Tbl.erase s.tab.grpShadow g })) = true)
      ({ up with tab := { Tables.empty with grpShadow := [(65535, [1])] } }) 65535) :=
  by and_intros <;> decide +kernel

theorem wit_InvalidGroupIsDropped :
    (fun (s : State) (it : Item) (e : List Word) =>
      (s.canonical = true)
      ∧ (e.getD 0 0).fld 31 31 = 0
      ∧ (s.host.txWait = [])
      ∧ (s.dp.badTails.contains it.id = false))
      up (item 9 data1 5) ([0]) :=
  by and_intros <;> decide +kernel

theorem test_InvalidGroupIsDropped :
    (fun (s : State) (it : Item) (e : List Word) =>
      (s.replicate it e).2 = 0
      ∧ (s.replicate it e).1.count C.MCT_RX_PKTS = (s.count C.MCT_RX_PKTS + 1) % 2 ^ 64
      ∧ (s.replicate it e).1.count (C.BUF_DROP (drEmptyMask - 1)) = (s.count (C.BUF_DROP (drEmptyMask - 1)) + 1) % 2 ^ 64)
      up (item 9 data1 5) ([0]) :=
  by and_intros <;> decide +kernel

theorem wit_ContextTableAnswers :
    ((fun (s : State) (n : Fin 16384) =>
      (s.canonical = true)
      ∧ (s.on (regDomain R.CNV_CMD) = true)
      ∧ (s.ctxCheck n (s.rdWords (R.CNV_DATA 0) 42) = 0)
      ∧ (s.rd (R.CNV_DATA 0)).fld 31 31 = 1)
      (up.wrWords (R.CNV_DATA 0) (entry1 false)) 16383)
    ∧ ((fun (s : State) (n : Fin 16384) =>
      (s.canonical = true)
      ∧ (s.on (regDomain R.CNV_CMD) = true)
      ∧ (s.ctxCheck n (s.rdWords (R.CNV_DATA 0) 42) = 3))
      ((up.wrWords (R.CNV_DATA 0) (entry1 false)).wr (R.CNV_DATA 1) 0xF0000001) 16383)
    ∧ ((fun (s : State) (n : Fin 16384) =>
      (s.canonical = true)
      ∧ (s.on (regDomain R.CNV_CMD) = true)
      ∧ (Tbl.get (fun _ => ctxZero) s.canvas.shadow n).length = 42)
      ({ up with canvas := { Canvas.init with shadow := [(16383, entry1 false)] } }) 16383)
    ∧ ((fun (s : State) (n : Fin 16384) =>
      (s.canonical = true)
      ∧ (s.on (regDomain R.CNV_CMD) = true)
      ∧ (s.ctx n).live = false)
      up 16383)
    ∧ ((fun (s : State) (n : Fin 16384) =>
      (s.canonical = true)
      ∧ (s.on (regDomain R.CNV_CMD) = true)
      ∧ (s.ctx n).live = true
      ∧ (s.ctx n).entry.length = 42)
      (ctxOf false .active seg1) 16383)
    ∧ ((fun (s : State) =>
      (s.canonical = true)
      ∧ (s.on (regDomain R.CNV_CMD) = true))
      (ctxOf false .active seg1))
    ∧ ((fun (s : State) (n : Fin 16384) =>
      (s.canonical = true)
      ∧ (s.on (regDomain R.CNV_CMD) = true)
      ∧ (s.ctx n).live = false)
      up 16383)
    ∧ ((fun (s : State) (n : Fin 16384) =>
      (s.canonical = true)
      ∧ (s.on (regDomain R.CNV_CMD) = true)
      ∧ (s.ctx n).live = true
      ∧ (s.ctx n).segs = [])
      (ctxOf false .active Segment.idle) 16383) :=
  by and_intros <;> decide +kernel

theorem test_ContextTableAnswers :
    ((fun (s : State) (n : Fin 16384) =>
      gives (.cnvReadShadow n) s (fun t => decide (t.rdWords (R.CNV_DATA 0) 42 = Tbl.get (fun _ => ctxZero) s.canvas.shadow n ∧ t.fld R.CNV_STAT 3 0 = 0 ∧ t.canvas = s.canvas)) = true)
      ({ up with canvas := { Canvas.init with shadow := [(16383, entry1 false)] } }) 16383)
    ∧ ((fun (s : State) (n : Fin 16384) =>
      gives (.cnvReadActive n) s (fun t => decide (t.rdWords (R.CNV_DATA 0) 42 = ctxZero ∧ t.fld R.CNV_STAT 3 0 = 0 ∧ t.canvas = s.canvas)) = true)
      up 16383) :=
  by and_intros <;> decide +kernel

theorem wit_ContributionsAreTaken :
    ((fun (s : State) (it : Item) (l : List Item) t =>
      (it.pkt.ty = tyRED_CONTRIB)
      ∧ (s.unitQueue 4 = it :: l)
      ∧ (s.islandWaits it = false)
      ∧ (s.works 8 = true)
      ∧ (s.ingest it = some t))
      ((ctxOf false .active Segment.idle).setUnitIn 4 [contrib1 0]) (contrib1 0) [] taken1)
    ∧ ((fun (s : State) (it : Item) (l : List Item) t =>
      (it.pkt.ty = tyRED_CONTRIB)
      ∧ (s.unitQueue 4 = it :: l)
      ∧ (s.islandWaits it = false)
      ∧ (s.works 8 = true)
      ∧ (s.ingest it = some t))
      ((ctxOf false .active Segment.idle).setUnitIn 4 [contrib1 0]) (contrib1 0) [] taken1)
    ∧ ((fun (s : State) (it : Item) =>
      (it.pkt.ty = tyRED_CONTRIB)
      ∧ (s.unitQueue 4 = []))
      (ctxOf false .active Segment.idle) (contrib1 0))
    ∧ ((fun (s : State) (it : Item) =>
      (it.pkt.ty = tyRED_CONTRIB)
      ∧ (s.unitQueue 4 = []))
      (ctxOf false .active Segment.idle) (contrib1 0))
    ∧ ((fun (s : State) (it : Item) =>
      (it.pkt.ty = tyRED_CONTRIB)
      ∧ (s.canvasHolds (s.unitQueue 4) it = true))
      nospace (contrib1 0)) :=
  by and_intros <;> decide +kernel

theorem test_ContributionsAreTaken :
    ((fun (s : State) (it : Item) (l : List Item) t =>
      nextIs (exec .contribReceive s) ((t.unitTake 4 it l)) = true)
      ((ctxOf false .active Segment.idle).setUnitIn 4 [contrib1 0]) (contrib1 0) [] taken1)
    ∧ ((fun (s : State) (it : Item) (l : List Item) t =>
      nextIs (exec .canvasIngestRetry s) ((t.unitTake 4 it l)) = true)
      ((ctxOf false .active Segment.idle).setUnitIn 4 [contrib1 0]) (contrib1 0) [] taken1) :=
  by and_intros <;> decide +kernel

theorem wit_DiscardedContributionsLeaveContextsAlone :
    ((fun (s : State) (it : Item) (counter : Nat) =>
      (s.judge it = .discard counter))
      (ctxOf false .active Segment.idle) (contrib1 1) C.CNV_BAD)
    ∧ ((fun (s : State) (it : Item) (counter : Nat) =>
      (s.judge it = .discard counter)
      ∧ (s.canonical = true)
      ∧ (counter ≠ C.CNV_LATE))
      (ctxOf false .active Segment.idle) (contrib1 1) C.CNV_BAD) :=
  by and_intros <;> decide +kernel

theorem test_DiscardedContributionsLeaveContextsAlone :
    ((fun (s : State) (it : Item) =>
      (s.ingest it).any (fun t => onlyB [.cnt, .canvas] s t) = true)
      (ctxOf false .active Segment.idle) (contrib1 1))
    ∧ ((fun (s : State) (it : Item) (counter : Nat) =>
      (s.ingest it).any (fun t => t.count counter == 1) = true)
      (ctxOf false .active Segment.idle) (contrib1 1) C.CNV_BAD) :=
  by and_intros <;> decide +kernel

theorem wit_SegmentsAdvance :
    ((fun (s : State) (n : Fin 16384) =>
      (s.ctx n).st = .reclaim
      ∧ (s.ctx n).segs = [])
      (ctxOf false .reclaim Segment.idle) 16383)
    ∧ ((fun (s : State) (n : Fin 16384) (next : Bool) (seg : Fin 16777216) e =>
      (s.foldEngine ((s.ctx n).seg (segKey next seg)).die = some e)
      ∧ ((s.ctx n).seg (segKey next seg)).inWork = true
      ∧ ((s.ctx n).seg (segKey next seg)).area = false
      ∧ (s.accBytes ((s.ctx n).seg (segKey next seg)).die + 4 * (s.ctx n).elems + s.listScratch e ≤ scratchBytes))
      (eng0 (ctxOf false .active seg1)) 16383 false 0 0)
    ∧ ((fun (s : State) (n : Fin 16384) (next : Bool) (seg : Fin 16777216) x l =>
      ((s.ctx n).seg (segKey next seg)).waiting = x :: l)
      (eng0 (ctxOf false .active seg1)) 16383 false 0 c1 [])
    ∧ ((fun (s : State) (n : Fin 16384) (next : Bool) (seg : Fin 16777216) b =>
      ((s.ctx n).seg (segKey next seg)).batches.find? (fun b => !b.admitted) = some b
      ∧ (s.ctx n).st = .active
      ∧ (s.dieAvail ((s.ctx n).seg (segKey next seg)).die = true)
      ∧ (s.withinShareOf ((s.ctx n).seg (segKey next seg)).die (s.estimate (s.ctx n) ((s.ctx n).seg (segKey next seg)) b.items.length) = true))
      (eng0 (ctxOf false .active { seg1 with batches := [⟨[c1], false, 5⟩] })) 16383 false 0 (⟨[c1], false, 5⟩))
    ∧ ((fun (s : State) (n : Fin 16384) (next : Bool) (seg : Fin 16777216) b bs =>
      ((s.ctx n).seg (segKey next seg)).batches = b :: bs
      ∧ (b.admitted = true)
      ∧ (s.ctx n).st = .active
      ∧ (s.dieAvail ((s.ctx n).seg (segKey next seg)).die = true)
      ∧ (bs ≠ [])
      ∧ (s.canonical = true))
      (eng0 (ctxOf false .active { seg1 with batches := [⟨[c1], true, 5⟩, ⟨[c1], false, 6⟩] })) 16383 false 0 (⟨[c1], true, 5⟩) ([⟨[c1], false, 6⟩]))
    ∧ ((fun (s : State) (n : Fin 16384) (next : Bool) (seg : Fin 16777216) t0 =>
      ((s.ctx n).seg (segKey next seg)).deadline = some t0
      ∧ ((s.ctx n).seg (segKey next seg)).st = .open_)
      (eng0 (ctxOf false .active seg1)) 16383 false 0 50)
    ∧ ((fun (s : State) (n : Fin 16384) (next : Bool) (seg : Fin 16777216) =>
      ((s.ctx n).seg (segKey next seg)).st = .encode
      ∧ ((s.ctx n).seg (segKey next seg)).encoded = false
      ∧ ((s.ctx n).seg (segKey next seg)).sent = false
      ∧ (s.ctx n).child = true
      ∧ (s.ctx n).st = .active
      ∧ ((s.ctx n).seg (segKey next seg)).timeoutNs ≠ 0
      ∧ (s.joined = true))
      (join (eng0 (ctxOf true .active { seg1 with st := .encode, waiting := [], acc := some [0x3F800000] }))) 16383 false 0)
    ∧ ((fun (s : State) (n : Fin 16384) (next : Bool) (seg : Fin 16777216) t0 =>
      ((s.ctx n).seg (segKey next seg)).rootBy = some t0)
      (eng0 (ctxOf true .active { seg1 with st := .encode, waiting := [], sent := true, rootBy := some 60 })) 16383 false 0 60)
    ∧ ((fun (s : State) (n : Fin 16384) d =>
      (s.ctx n).st = .recover
      ∧ (s.grantDie (s.ctx n) = some d))
      (eng0 (ctxOf false .recover seg1)) 16383 0) :=
  by and_intros <;> decide +kernel

theorem test_SegmentsAdvance :
    ((fun (s : State) (n : Fin 16384) =>
      gives (.contextFreed n) s (fun t => decide (t.canvas = { s.canvas with ctxs := Tbl.put (fun _ => Ctx.init) s.canvas.ctxs n Ctx.init })) = true)
      (ctxOf false .reclaim Segment.idle) 16383)
    ∧ ((fun (s : State) (n : Fin 16384) (next : Bool) (seg : Fin 16777216) =>
      nextIs (exec (.segmentAreaGrant n next seg) s) (((s.setSeg n (segKey next seg) { (s.ctx n).seg (segKey next seg) with area := true }).dispatchSeg n (segKey next seg))) = true)
      (eng0 (ctxOf false .active seg1)) 16383 false 0) :=
  by and_intros <;> decide +kernel

theorem wit_PhaseMarksReachPrism :
    (fun (s : State) it l =>
      (s.unitQueue 4 = it :: l)
      ∧ (s.islandWaits it = false)
      ∧ (it.pkt.ty = tyPHASE_MARK)
      ∧ (s.works 8 = true)
      ∧ (1024 ≤ it.port)
      ∧ (it.port < 1088)
      ∧ (s.ctx (it.pkt.fld 5 31 18)).live = false
      ∧ (s.tb0 ≤ s.markAt it.pkt))
      (up.setUnitIn 4 [item 9 (pk 0x22 2 1 8 7 [0, 0, 0, 1] []) 1024]) (item 9 (pk 0x22 2 1 8 7 [0, 0, 0, 1] []) 1024) [] :=
  by and_intros <;> decide +kernel

theorem test_PhaseMarksReachPrism :
    (fun (s : State) it l =>
      nextIs (exec .phaseMarkReceive s) (((s.unitTake 4 it l).takeMark (it.pkt.fld 5 9 2) (s.markAt it.pkt))) = true)
      (up.setUnitIn 4 [item 9 (pk 0x22 2 1 8 7 [0, 0, 0, 1] []) 1024]) (item 9 (pk 0x22 2 1 8 7 [0, 0, 0, 1] []) 1024) [] :=
  by decide +kernel

end Tables

namespace Palette

/-- List 3 of ring 3 with its command at `pc` of `n`. -/
def run0 (pc n : Nat) : Running :=
  ⟨⟨3, 0, n, 7, 9, 1, none⟩, 0, 0, pc, 0, 0, none, [], Saved.none_, [], [], 0, [], [], 0⟩
/-- The bytes that are not 0 of words from a key on. -/
def cells (k : Nat) (ws : List Word) : List (Nat × Byte) :=
  (((ws.flatMap Word.bytesLE).zipIdx k).filter (fun bi => bi.1 != 0)).map (fun bi => (bi.2, bi.1))
def pad8 (ws : List Word) : List Word := (ws ++ List.replicate 8 0).take 8
/-- An engine 0 that runs `r`, whose command is `ws`. -/
def runs (r : Running) (ws : List Word) : State :=
  let s := linked.setEngine 0 { Engine.init with st := .active, level := 8, run := some r }
  let s := s.setPalRing 3 { PRing.init with st := .running, entry := [0x80000000, 0x0C400000] ++ List.replicate 10 0 }
  { s with mem := { s.mem with bytes := cells (r.pc * 32) (pad8 ws), fixed := [(0, 1)] } }
def withEng (s : State) (f : Engine → Engine) : State := s.setEngine 0 (f (s.engine 0))
def journal (s : State) : State :=
  s.setPalRing 3 { s.palRing 3 with entry := ((s.palRing 3).entry.set 10 1) }
def ck1 : List Word := pad8 [0x05000000, 1, 1, 1, 8]
def mvW (src dst len : Nat) (a b c d : Word) : List Word :=
  pad8 [BitVec.ofNat 32 (0x10 * 2 ^ 24 + src * 2 ^ 21 + dst * 2 ^ 18), BitVec.ofNat 32 len, a, b, c, d]
def mvOp (wait : MoveWait) (ws : List Word) (data : List Byte) : MoveOp := ⟨1, ws, wait, data⟩
def moving1 (m : MoveOp) : State :=
  withEng (runs (run0 2 9) []) (fun x => { x with run := some { run0 2 9 with moves := [m] } })
def engAt (st : EngState) : State := linked.setEngine 7 { Engine.init with st := st }
def entry3 : List Word := [0x80000000, 0x0C400000] ++ List.replicate 10 0
def fixedUp : State := { linked with mem := { linked.mem with fixed := [(0, 1)] } }

theorem wit_EnginesFollowTheirStates :
    ((fun (s : State) (e : Fin 8) =>
      (s.canonical = true)
      ∧ (s.on (regDomain (R.PAL_ENG_CTRL e)) = true)
      ∧ (s.engine e).st = .idle
      ∧ (s.engine e).level = 0
      ∧ (s.engine e).ramping = false
      ∧ (s.engine e).offlining = false)
      (engAt .idle) 7)
    ∧ ((fun (s : State) (e : Fin 8) =>
      (s.canonical = true)
      ∧ (s.on (regDomain (R.PAL_ENG_CTRL e)) = true)
      ∧ (s.engine e).st = .active
      ∧ (s.engine e).executing = true
      ∧ (s.engine e).offlining = false)
      (linked.setEngine 7 { Engine.init with st := .active, run := some { run0 1 9 with fence := some none } }) 7)
    ∧ ((fun (s : State) (e : Fin 8) =>
      (s.canonical = true)
      ∧ (s.on (regDomain (R.PAL_ENG_CTRL e)) = true)
      ∧ (s.engine e).st = .parked
      ∧ (s.engine e).run = none
      ∧ (s.engine e).offlining = false
      ∧ (s.engine e).levelPark = false)
      (engAt .parked) 7)
    ∧ ((fun (s : State) (e : Fin 8) =>
      (s.canonical = true)
      ∧ (s.on (regDomain (R.PAL_ENG_CTRL e)) = true)
      ∧ (s.engine e).st ≠ .off
      ∧ (s.fld (R.PAL_ENG_CTRL e) 30 30 = 0))
      (engAt .idle) 7)
    ∧ ((fun (s : State) (e : Fin 8) =>
      (s.canonical = true)
      ∧ (s.on (regDomain (R.PAL_ENG_CTRL e)) = true)
      ∧ (s.engine e).st = .offline
      ∧ (s.engine e).resetting = false
      ∧ (s.fld (R.PAL_ENG_CTRL e) 30 30 = 0)
      ∧ (groupsIn (s.fld (R.PAL_LANE_MAP e) 16 0) = 16)
      ∧ (s.tel.isolated = [])
      ∧ (s.maint = []))
      ((engAt .offline).setF (R.PAL_LANE_MAP 7) 16 0 65535) 7)
    ∧ ((fun (s : State) (e : Fin 8) =>
      (s.canonical = true)
      ∧ (s.engine e).resetting = true
      ∧ (s.on (palDomain (e / 2)) = true)
      ∧ (s.engine e).st = .off
      ∧ (s.fld (R.PAL_ENG_CTRL e) 30 30 = 0)
      ∧ (16 ≤ groupsIn (s.fld (R.PAL_LANE_MAP e) 16 0)))
      ((linked.setEngine 7 { Engine.init with resetting := true }).setF (R.PAL_LANE_MAP 7) 16 0 65535) 7)
    ∧ ((fun (s : State) (e : Fin 8) =>
      (s.canonical = true)
      ∧ (s.engine e).st = .keep
      ∧ (s.engine e).ramping = false
      ∧ (s.engine e).level ≠ 0)
      (linked.setEngine 7 { Engine.init with st := .keep, level := 63, keepEnd := 100 }) 7)
    ∧ ((fun (s : State) (e : Fin 8) =>
      (s.canonical = true)
      ∧ (s.engine e).ramping = true
      ∧ (s.engine e).rampStep + 1 < 8)
      (linked.setEngine 7 { Engine.init with st := .ramp, ramping := true, level := 64, rampD := 64, rampStep := 6 }) 7)
    ∧ ((fun (s : State) (e : Fin 8) =>
      (s.canonical = true)
      ∧ (s.engine e).ramping = true
      ∧ (s.engine e).rampStep = 7
      ∧ (s.engine e).st = .ramp
      ∧ (s.engine e).target = .idle)
      (linked.setEngine 7 { Engine.init with st := .ramp, ramping := true, level := 8, rampD := 64, rampStep := 7 }) 7)
    ∧ ((fun (s : State) (d : Fin 4) =>
      (s.canonical = true)
      ∧ (s.engine (2 * d)).mayRise = true)
      ((linked.setEngine 6 { Engine.init with st := .active, level := 63, run := some (run0 1 9) }).updDie 3 (fun x => { x with grantAt := some 1000, grantTo := 7 })) 3)
    ∧ ((fun (s : State) (e : Fin 8) (kind : Fin 5) =>
      (s.canonical = true)
      ∧ (s.engine e).runsAt = true
      ∧ (kind.val < 3))
      (linked.setEngine 7 { Engine.init with st := .active, run := some (run0 1 9) }) 7 2)
    ∧ ((fun (s : State) (e : Fin 8) =>
      (s.canonical = true)
      ∧ (s.engine e).runsAt = true)
      (engAt .idle) 7)
    ∧ ((fun (s : State) (e : Fin 8) r =>
      (s.canonical = true)
      ∧ (s.engine e).run = some r
      ∧ (s.fld (R.PAL_FAULT_CTRL e) 31 16 ≠ 0)
      ∧ (s.engine e).st = .active
      ∧ (s.engine e).executing = true)
      ((linked.setEngine 7 { Engine.init with st := .active, run := some { run0 1 9 with fence := some none } }).setF (R.PAL_FAULT_CTRL 7) 31 16 5) 7 ({ run0 1 9 with fence := some none }))
    ∧ ((fun (s : State) (e : Fin 8) =>
      (s.canonical = true)
      ∧ (s.engine e).st = .faulted
      ∧ (s.engine e).resetting = true
      ∧ (s.engine e).dueGroup = none
      ∧ (s.engine e).run = none
      ∧ (s.engine e).noSpare = false
      ∧ (s.engine e).offlining = false
      ∧ (s.engine e).levelPark = false
      ∧ (s.fld (R.PAL_FAULT_CTRL e) 3 0 = 0)
      ∧ (s.fld (R.PAL_ENG_CTRL e) 30 30 = 0)
      ∧ (s.fld (R.PAL_ENG_CTRL e) 31 31 = 0))
      ((linked.setEngine 7 { Engine.init with st := .faulted, resetting := true, lanes := [(1, 2)] }).setF (R.PAL_FAULT_CTRL 7) 3 0 0) 7) :=
  by and_intros <;> decide +kernel

theorem test_EnginesFollowTheirStates :
    ((fun (s : State) (e : Fin 8) =>
      gives (.engineParkRequest e) s (fun t => decide (t.fld (R.PAL_ENG_CTRL e) 31 31 = 1 ∧ (t.engine e).st = .parked ∧ (t.engine e).lanes = (s.engine e).lanes ∧ (t.engine e).scratch = (s.engine e).scratch)) = true)
      (engAt .idle) 7)
    ∧ ((fun (s : State) (e : Fin 8) =>
      gives (.engineParkRequest e) s (fun t => decide (t.fld (R.PAL_ENG_CTRL e) 31 31 = 1 ∧ t.engine e = { s.engine e with target := .parked })) = true)
      (linked.setEngine 7 { Engine.init with st := .active, run := some { run0 1 9 with fence := some none } }) 7) :=
  by and_intros <;> decide +kernel

theorem wit_SpareLaneGroupsTakeOver :
    ((fun (s : State) (e : Fin 8) =>
      (s.canonical = true)
      ∧ (s.on (regDomain (R.PAL_LANE_RETIRE e)) = true))
      linked 7)
    ∧ ((fun (s : State) (e : Fin 8) g =>
      (s.canonical = true)
      ∧ (g < 17)
      ∧ (s.maint = [(.lanes e g true, true)])
      ∧ (s.engine e).executing = false
      ∧ (s.engine e).resetting = false
      ∧ (s.engine e).noSpare = false
      ∧ (s.fld (R.PAL_LANE_MAP e) 16 0).testBit g = true
      ∧ (s.fld (R.PAL_LANE_MAP e) 31 27 < 17)
      ∧ (s.fld (R.PAL_LANE_MAP e) 16 0).testBit (s.fld (R.PAL_LANE_MAP e) 31 27) = false)
      ({ ((linked.setF (R.PAL_LANE_MAP 7) 16 0 65535).setF (R.PAL_LANE_MAP 7) 31 27 16) with maint := [(.lanes 7 15 true, true)] }) 7 15) :=
  by and_intros <;> decide +kernel

theorem test_SpareLaneGroupsTakeOver :
    ((fun (s : State) (e : Fin 8) (mask : Fin 131072) =>
      gives (.laneRetireWrite e mask) s (fun t => decide (t.fld (R.PAL_LANE_RETIRE e) 16 0 = mask ∧ t.fld (R.PAL_LANE_MAP e) 16 0 = s.fld (R.PAL_LANE_MAP e) 16 0 ∧ t.pal = s.pal)) = true)
      linked 7 131071)
    ∧ ((fun (s : State) (e : Fin 8) g =>
      gives (.laneGroupSwap e) s (fun t => decide (t.maint = [] ∧ t.fld (R.PAL_LANE_MAP e) 31 27 = 0x1F ∧ t.fld (R.PAL_LANE_MAP e) 16 0 = s.fld (R.PAL_LANE_MAP e) 16 0 - 2 ^ g + 2 ^ s.fld (R.PAL_LANE_MAP e) 31 27 ∧ t.pal = s.pal)) = true)
      ({ ((linked.setF (R.PAL_LANE_MAP 7) 16 0 65535).setF (R.PAL_LANE_MAP 7) 31 27 16) with maint := [(.lanes 7 15 true, true)] }) 7 15) :=
  by and_intros <;> decide +kernel

theorem wit_EnergyAccountsAreKept :
    ((fun (s : State) (d : Fin 4) =>
      (s.canonical = true)
      ∧ (s.on (palDomain d) = true)
      ∧ (s.engine (2 * d)).filling = false
      ∧ (s.engine (2 * d + 1)).filling = false)
      (linked.updDie 3 (fun x => { x with account := -5, windowEnd := 1000, charge := 9 })) 3)
    ∧ ((fun (s : State) (e : Nat) (c : Cand) l ls =>
      (s.canonical = true)
      ∧ (s.engine e).queue c.queue = l :: ls
      ∧ (s.engine e).filling = false
      ∧ ((s.palDie (e / 2)).windowEnd ≠ 0))
      ((linked.updDie 0 (fun x => { x with account := 100, budget := 50, windowEnd := 1000 })).setEngine 0 { Engine.init with st := .idle, queues := [(2, [⟨3, 0, 9, 7, 40, 1, some 0⟩])] }) 0 (⟨0, 0, 2, 0, 640⟩) (⟨3, 0, 9, 7, 40, 1, some 0⟩) [])
    ∧ ((fun (s : State) (e : Fin 8) r rest =>
      (s.canonical = true)
      ∧ (s.engine e).run = none
      ∧ (s.engineAvail e = true)
      ∧ (s.engine e).resumeQ = r :: rest)
      (linked.setEngine 0 { Engine.init with st := .idle, resumeQ := [run0 1 9] }) 0 (run0 1 9) [])
    ∧ ((fun (s : State) (e : Fin 8) c =>
      (s.canonical = true)
      ∧ (s.engine e).run = none
      ∧ (s.engineAvail e = true)
      ∧ (s.engine e).resumeQ = []
      ∧ ((s.refreshCands e).listCands e).find? (fun c => (s.refreshCands e).admits (e / 2) ((s.refreshCands e).listCands (2 * (e / 2)) ++ (s.refreshCands e).listCands (2 * (e / 2) + 1) ++ (s.refreshCands e).batchCands (e / 2)) ((s.refreshCands e).listCands e ++ (s.refreshCands e).batchCands (e / 2)) c) = some c)
      (((linked.updDie 0 (fun x => { x with account := 100, budget := 50, windowEnd := 1000 })).setEngine 0 { Engine.init with st := .idle, queues := [(2, [⟨3, 0, 9, 7, 40, 1, some 0⟩])] }).setPalRing 3 { PRing.init with st := .waiting, entry := entry3 }) 0 (⟨0, 0, 2, 0, 640⟩)) :=
  by and_intros <;> decide +kernel

theorem test_EnergyAccountsAreKept :
    ((fun (s : State) (d : Fin 4) =>
      gives (.energyWindowStart d) s (fun t => decide (t.now = max s.now (s.palDie d).windowEnd ∧ (t.palDie d).account = satAccount (min ((s.palDie d).account + (t.palDie d).budget) (t.palDie d).budget) ∧ (t.palDie d).charge = 0 ∧ (t.palDie d).lastCharge = (s.palDie d).charge ∧ t.rd (R.PAL_DIE_BUDGET d) = BitVec.ofNat 32 (t.palDie d).budget)) = true)
      (linked.updDie 3 (fun x => { x with account := -5, windowEnd := 1000, charge := 9 })) 3)
    ∧ ((fun (s : State) (e : Nat) (c : Cand) l =>
      ((s.admitList e c).palDie (e / 2)).account = satAccount ((s.palDie (e / 2)).account - s.listEnergy e l)
      ∧ ((s.admitList e c).palDie (e / 2)).charge = (s.palDie (e / 2)).charge + s.listEnergy e l
      ∧ ((s.admitList e c).palRing l.ring).st = .running
      ∧ ((s.admitList e c).palRing l.ring).reserved = (s.palRing l.ring).reserved + 1
      ∧ ((s.admitList e c).engine e).st = .active
      ∧ (((s.admitList e c).engine e).run.map (fun r => r.list)) = some l)
      ((linked.updDie 0 (fun x => { x with account := 100, budget := 50, windowEnd := 1000 })).setEngine 0 { Engine.init with st := .idle, queues := [(2, [⟨3, 0, 9, 7, 40, 1, some 0⟩])] }) 0 (⟨0, 0, 2, 0, 640⟩) (⟨3, 0, 9, 7, 40, 1, some 0⟩)) :=
  by and_intros <;> decide +kernel

theorem wit_ClientRingsAnswer :
    ((fun (s : State) (ring : Fin 4096) =>
      (s.canonical = true)
      ∧ (s.on (regDomain R.PAL_RING_CMD) = true)
      ∧ (s.palRing ring).st = .disabled
      ∧ ((s.rdWords (R.PAL_RING_DATA 0) 12).getD 0 0).fld 31 31 = 1
      ∧ (s.badEntry (s.rdWords (R.PAL_RING_DATA 0) 12) = false))
      (fixedUp.wrWords (R.PAL_RING_DATA 0) [0x80000000, 0x0C400000]) 4095)
    ∧ ((fun (s : State) (ring : Fin 4096) =>
      (s.canonical = true)
      ∧ (s.on (regDomain R.PAL_RING_CMD) = true)
      ∧ (s.palRing ring).st = .disabled
      ∧ ((s.rdWords (R.PAL_RING_DATA 0) 12).getD 0 0).fld 31 31 = 1
      ∧ (s.badEntry (s.rdWords (R.PAL_RING_DATA 0) 12) = true))
      (fixedUp.wrWords (R.PAL_RING_DATA 0) [0x80000000, 0x0A400000]) 4095)
    ∧ ((fun (s : State) (ring : Fin 4096) =>
      (s.canonical = true)
      ∧ (s.on (regDomain R.PAL_RING_CMD) = true)
      ∧ (s.palRing ring).st = .running)
      (linked.setPalRing 4095 { PRing.init with st := .running, entry := entry3 }) 4095)
    ∧ ((fun (s : State) (ring : Fin 4096) =>
      (s.canonical = true)
      ∧ (s.on (regDomain R.PAL_RING_CMD) = true)
      ∧ (s.palRing ring).entry.length = 12)
      (linked.setPalRing 4095 { PRing.init with st := .error, entry := entry3 }) 4095)
    ∧ ((fun (s : State) =>
      (s.canonical = true)
      ∧ (s.on (regDomain R.PAL_RING_CMD) = true))
      (linked.setPalRing 4095 { PRing.init with st := .error, entry := entry3, errCount := 5 }))
    ∧ ((fun (s : State) (ring : Fin 4096) =>
      (s.canonical = true)
      ∧ (s.palRing ring).st = .idle
      ∧ (s.palRing ring).pending = true
      ∧ (s.ringServed ring = true)
      ∧ ((s.engine (s.palRing ring).engine).queue (s.palRing ring).queue).length < 256
      ∧ (s.queuedList ring = false)
      ∧ (s.dbWord (s.palRing ring) 0 = (s.palRing ring).ci)
      ∧ (s.palRing ring).ci < 2 ^ 32)
      (linked.setPalRing 4095 { PRing.init with st := .idle, entry := entry3, pending := true }) 4095) :=
  by and_intros <;> decide +kernel

theorem test_ClientRingsAnswer :
    ((fun (s : State) (ring : Fin 4096) =>
      gives (.ringWrite ring) s (fun t => decide (t.fld R.PAL_RING_STAT 3 0 = 0 ∧ t.palRing ring = { PRing.init with st := .idle, entry := s.rdWords (R.PAL_RING_DATA 0) 12, engine := s.boundEngine (s.rdWords (R.PAL_RING_DATA 0) 12), queue := ((s.rdWords (R.PAL_RING_DATA 0) 12).getD 0 0).fld 26 23 })) = true)
      (fixedUp.wrWords (R.PAL_RING_DATA 0) [0x80000000, 0x0C400000]) 4095)
    ∧ ((fun (s : State) (ring : Fin 4096) =>
      gives (.ringWrite ring) s (fun t => decide (t.fld R.PAL_RING_STAT 3 0 = 1 ∧ t.pal = s.pal ∧ t.mem = s.mem)) = true)
      (linked.setPalRing 4095 { PRing.init with st := .running, entry := entry3 }) 4095) :=
  by and_intros <;> decide +kernel

theorem wit_FailedListsStopTheirRing :
    (fun (s : State) (ring : Nat) =>
      (s.canonical = true)
      ∧ (s.palRing ring).st ≠ .disabled)
      ((runs (run0 1 9) [])) 3 :=
  by and_intros <;> decide +kernel

theorem test_FailedListsStopTheirRing :
    (fun (s : State) (engine : Fin 8) (ring : Nat) (status : Nat) (idx : Nat) (ci : Nat) (ws : List Word) =>
      ((s.ringFails ring engine status idx ci ws).palRing ring).st = .error
      ∧ ((s.ringFails ring engine status idx ci ws).palRing ring).errCount = ((s.palRing ring).errCount + 1) % 2 ^ 32
      ∧ ((s.ringFails ring engine status idx ci ws).palRing ring).ci = ci % 2 ^ 32
      ∧ ((s.ringFails ring engine status idx ci ws).palRing ring).cqPi = ((s.palRing ring).cqPi + 1) % 2 ^ 32
      ∧ (s.ringFails ring engine status idx ci ws).count (C.PAL_LISTS_FAILED engine) = (s.count (C.PAL_LISTS_FAILED engine) + 1) % 2 ^ 64)
      ((runs (run0 1 9) [])) 7 3 4 5 4294967296 ([1, 2, 3, 4, 5, 6, 7, 8]) :=
  by and_intros <;> decide +kernel

theorem wit_ListControlCommandsAct :
    ((fun (s : State) (e : Fin 8) (r : Running) (w : List Word) =>
      (s.fetchCmd e = some (r, w))
      ∧ ((cw w 0).fld 31 24 = 0x00)
      ∧ (r.recorded = false ∧ r.placed 0x00 = true)
      ∧ (reservedOk [0xFF000000] w = true))
      (runs (run0 1 9) []) 0 (run0 1 9) (pad8 []))
    ∧ ((fun (s : State) (e : Fin 8) (r : Running) (w : List Word) =>
      (s.fetchCmd e = some (r, w))
      ∧ ((cw w 0).fld 31 24 = 0x01)
      ∧ (r.recorded = false ∧ r.placed 0x01 = true)
      ∧ (reservedOk [0xFF00FFFF, 0xFFFF0000, 0xFFFFFFFF, 0x0000FFFF] w = true)
      ∧ (s.palRing r.list.ring).jrnl = 0)
      (runs (run0 0 9) [0x01000000, 0, 0, 0]) 0 (run0 0 9) (pad8 [0x01000000, 0, 0, 0]))
    ∧ ((fun (s : State) (e : Fin 8) (r : Running) (w : List Word) =>
      (s.fetchCmd e = some (r, w))
      ∧ ((cw w 0).fld 31 24 = 0x01)
      ∧ (r.recorded = false ∧ r.placed 0x01 = true)
      ∧ (reservedOk [0xFF00FFFF, 0xFFFF0000, 0xFFFFFFFF, 0x0000FFFF] w = true))
      (runs (run0 0 9) [0x01000000, 0, 0, 0]) 0 (run0 0 9) (pad8 [0x01000000, 0, 0, 0]))
    ∧ ((fun (s : State) (e : Fin 8) (r : Running) (w : List Word) =>
      (s.fetchCmd e = some (r, w))
      ∧ ((cw w 0).fld 31 24 = 0x02)
      ∧ (r.recorded = false ∧ r.placed 0x02 = true)
      ∧ (reservedOk [0xFF000001, 0xFFFFFFFF] w = true))
      (runs (run0 8 9) [0x02000001, 5]) 0 (run0 8 9) (pad8 [0x02000001, 5]))
    ∧ ((fun (s : State) (e : Fin 8) (r : Running) (w : List Word) =>
      (s.fetchCmd e = some (r, w))
      ∧ ((cw w 0).fld 31 24 = 0x03)
      ∧ (r.recorded = false ∧ r.placed 0x03 = true)
      ∧ (reservedOk [0xFFE00000, 0x0003FFFF] w = true)
      ∧ (cw w 0).fld 23 22 ≠ 3)
      (runs (run0 1 9) [0x03800000]) 0 (run0 1 9) (pad8 [0x03800000]))
    ∧ ((fun (s : State) (e : Fin 8) (r : Running) (w : List Word) =>
      (s.fetchCmd e = some (r, w))
      ∧ ((cw w 0).fld 31 24 = 0x03)
      ∧ (r.recorded = false ∧ r.placed 0x03 = true)
      ∧ (reservedOk [0xFFE00000, 0x0003FFFF] w = true)
      ∧ (cw w 0).fld 23 22 = 3)
      (runs (run0 1 9) [0x03C00000]) 0 (run0 1 9) (pad8 [0x03C00000]))
    ∧ ((fun (s : State) (e : Fin 8) (r : Running) (w : List Word) =>
      (s.waitingCmd e = some (r, w))
      ∧ (s.engine e).st = .active
      ∧ (s.engine e).target = .idle
      ∧ (s.fenceDone e r w = true)
      ∧ (cw w 0).fld 31 24 = 0x03)
      (runs { run0 1 9 with fence := some none } [0x03800000]) 0 ({ run0 1 9 with fence := some none }) (pad8 [0x03800000]))
    ∧ ((fun (s : State) (e : Fin 8) (r : Running) (w : List Word) =>
      (s.waitingCmd e = some (r, w))
      ∧ (s.engine e).st = .active
      ∧ (s.fenceDone e r w = true)
      ∧ (cw w 0).fld 31 24 = 0x02
      ∧ (cw w 0).bit 0 = false)
      (runs { run0 8 9 with fence := some none } [0x02000000]) 0 ({ run0 8 9 with fence := some none }) (pad8 [0x02000000]))
    ∧ ((fun (s : State) (e : Fin 8) (r : Running) (w : List Word) t0 =>
      (s.waitingCmd e = some (r, w))
      ∧ (r.fence = some (some t0))
      ∧ (s.engine e).st = .active
      ∧ (s.fenceDone e r w = false))
      (runs { run0 1 9 with fence := some (some 50), moves := [mvOp .write (mvW 4 0 4 0 0 0 0) [1]] } [0x03800000]) 0 ({ run0 1 9 with fence := some (some 50), moves := [mvOp .write (mvW 4 0 4 0 0 0 0) [1]] }) (pad8 [0x03800000]) 50)
    ∧ ((fun (s : State) (e : Fin 8) (r : Running) (w : List Word) =>
      (s.fetchCmd e = some (r, w))
      ∧ ((cw w 0).fld 31 24 = 0x04)
      ∧ (r.recorded = false ∧ r.placed 0x04 = true)
      ∧ (reservedOk [0xFFFF0000, 0, 0xFFFFFFFF, 0xFFFFFFFF, 0xFFFFFFFF, 0xFFFFFFFF] w = true)
      ∧ (cw w 0).fld 23 21 ≤ 3
      ∧ (cw w 0).bit 19 = false
      ∧ (r.issued.contains r.pc = false)
      ∧ (s.mayIssue (4 + e / 2) (notifyDest w).1 (notifyDest w).2 = true)
      ∧ (s.notifyBytes w = none))
      (join (runs (run0 1 9) [0x04000000, 0, 0, 64, 1, 2])) 0 (run0 1 9) (pad8 [0x04000000, 0, 0, 64, 1, 2]))
    ∧ ((fun (s : State) (e : Fin 8) (r : Running) (w : List Word) k n =>
      (s.fetchCmd e = some (r, w))
      ∧ ((cw w 0).fld 31 24 = 0x04)
      ∧ (r.recorded = false ∧ r.placed 0x04 = true)
      ∧ (reservedOk [0xFFFF0000, 0, 0xFFFFFFFF, 0xFFFFFFFF, 0xFFFFFFFF, 0xFFFFFFFF] w = true)
      ∧ (cw w 0).fld 23 21 ≤ 3
      ∧ (cw w 0).bit 19 = false
      ∧ (r.issued.contains r.pc = false)
      ∧ (s.mayIssue (4 + e / 2) (notifyDest w).1 (notifyDest w).2 = true)
      ∧ (s.notifyBytes w = some (k, n))
      ∧ (r.blocked (noteFoot k n) = false))
      (join (runs (run0 1 9) [0x04100000, 0, 0, 64, 1, 2])) 0 (run0 1 9) (pad8 [0x04100000, 0, 0, 64, 1, 2]) 64 8)
    ∧ ((fun (s : State) (d : Fin 4) ring cmd st rest =>
      (s.palDie d).responses = (ring, cmd, st) :: rest)
      (linked.updDie 3 (fun x => { x with responses := [(3, 1, 0)] })) 3 3 1 0 [])
    ∧ ((fun (s : State) (e : Fin 8) (r : Running) (w : List Word) =>
      (s.fetchCmd e = some (r, w))
      ∧ ((cw w 0).fld 31 24 = 0x05)
      ∧ (r.recorded = false ∧ r.placed 0x05 = true)
      ∧ (reservedOk [0xFF000000, 0x3FFF3FFF, 0x0000FFFF, 0x0FFF0FFF, 0x01FFFFFF] w = true)
      ∧ (r.moves = [])
      ∧ (ckSlot w + ckSlots w ≤ 7680)
      ∧ (ckVec w + ckVecs w ≤ 4096)
      ∧ (ckScratch w ≤ r.scratchLen)
      ∧ (s.palRing r.list.ring).jrnl = 0)
      (runs (run0 1 9) ck1) 0 (run0 1 9) ck1)
    ∧ ((fun (s : State) (e : Fin 8) (r : Running) (w : List Word) =>
      (s.fetchCmd e = some (r, w))
      ∧ ((cw w 0).fld 31 24 = 0x05)
      ∧ (r.recorded = false ∧ r.placed 0x05 = true)
      ∧ (reservedOk [0xFF000000, 0x3FFF3FFF, 0x0000FFFF, 0x0FFF0FFF, 0x01FFFFFF] w = true)
      ∧ (r.moves = [])
      ∧ (ckSlot w + ckSlots w ≤ 7680)
      ∧ (ckVec w + ckVecs w ≤ 4096)
      ∧ (ckScratch w ≤ r.scratchLen)
      ∧ (s.palRing r.list.ring).jrnl ≠ 0
      ∧ (ckBytes w ≤ (s.palRing r.list.ring).jrnl * 32768))
      (journal (runs (run0 1 9) ck1)) 0 (run0 1 9) ck1) :=
  by and_intros <;> decide +kernel

theorem test_ListControlCommandsAct :
    ((fun (s : State) (e : Fin 8) (r : Running) =>
      nextIs (exec (.palNop e) s) ((s.setEngine e { s.engine e with run := some (r.next s.now) })) = true)
      (runs (run0 1 9) []) 0 (run0 1 9))
    ∧ ((fun (s : State) (e : Fin 8) (r : Running) =>
      nextIs (exec (.palBegin e) s) (((s.setEngine e { s.engine e with run := some { r with ckpt := Saved.none_, records := [], issued := [], half := 1 - r.half } }).nextCmd e)) = true)
      (runs (run0 0 9) [0x01000000, 0, 0, 0]) 0 (run0 0 9)) :=
  by and_intros <;> decide +kernel

theorem wit_MovesRunInSteps :
    ((fun (s : State) (e : Fin 8) (r : Running) (w : List Word) =>
      (s.fetchCmd e = some (r, w))
      ∧ ((cw w 0).fld 31 24 = 0x10)
      ∧ (r.recorded = false ∧ r.placed 0x10 = true)
      ∧ (reservedOk (moveMasks w) w = true)
      ∧ (s.moveBad w r.scratchLen = false)
      ∧ (mvLen w ≠ 0)
      ∧ (r.blocked (moveFoot w) = false)
      ∧ (r.moves.length < 16)
      ∧ (mvSrc w).isMem = true)
      (runs (run0 1 9) (mvW 0 4 1024 0 4096 0 0)) 0 (run0 1 9) (mvW 0 4 1024 0 4096 0 0))
    ∧ ((fun (s : State) (e : Fin 8) (r : Running) (w : List Word) =>
      (s.fetchCmd e = some (r, w))
      ∧ ((cw w 0).fld 31 24 = 0x10)
      ∧ (r.recorded = false ∧ r.placed 0x10 = true)
      ∧ (reservedOk (moveMasks w) w = true)
      ∧ (s.moveBad w r.scratchLen = false)
      ∧ (mvLen w ≠ 0)
      ∧ (r.blocked (moveFoot w) = false)
      ∧ (r.moves.length < 16)
      ∧ (mvSrc w).isMem = false
      ∧ (mvDst w).isMem = true)
      (runs (run0 1 9) (mvW 4 0 1024 0 0 0 4096)) 0 (run0 1 9) (mvW 4 0 1024 0 0 0 4096))
    ∧ ((fun (s : State) (e : Fin 8) (r : Running) (w : List Word) =>
      (s.fetchCmd e = some (r, w))
      ∧ ((cw w 0).fld 31 24 = 0x10)
      ∧ (r.recorded = false ∧ r.placed 0x10 = true)
      ∧ (reservedOk (moveMasks w) w = true)
      ∧ (s.moveBad w r.scratchLen = false)
      ∧ (mvLen w ≠ 0)
      ∧ (r.blocked (moveFoot w) = false)
      ∧ (r.moves.length < 16)
      ∧ (mvSrc w).isMem = false
      ∧ (mvDst w).isMem = false)
      (runs (run0 1 9) (mvW 4 3 256 0 0 4095 0)) 0 (run0 1 9) (mvW 4 3 256 0 0 4095 0))
    ∧ ((fun (s : State) (e : Fin 8) (r : Running) (w : List Word) =>
      (s.fetchCmd e = some (r, w))
      ∧ ((cw w 0).fld 31 24 = 0x10)
      ∧ (r.recorded = false ∧ r.placed 0x10 = true)
      ∧ (reservedOk (moveMasks w) w = true)
      ∧ (s.moveBad w r.scratchLen = true)
      ∧ (mvLen w ≠ 0))
      (runs (run0 1 9) (mvW 4 2 513 0 0 0 0)) 0 (run0 1 9) (mvW 4 2 513 0 0 0 0))
    ∧ ((fun (s : State) (e : Fin 8) (r : Running) (i : Fin 16) m =>
      (s.moveAt e i = some (r, m))
      ∧ (m.wait = .read)
      ∧ (s.sideAnswer (mvSrc m.words) (mvLen m.words) = .go)
      ∧ (s.readsPoison (mvSrc m.words).key (mvLen m.words) = false)
      ∧ (m.toMem = true))
      (moving1 (mvOp .read (mvW 0 0 4 0 4096 0 8192) [])) 0 ({ run0 2 9 with moves := [mvOp .read (mvW 0 0 4 0 4096 0 8192) []] }) 0 (mvOp .read (mvW 0 0 4 0 4096 0 8192) []))
    ∧ ((fun (s : State) (e : Fin 8) (r : Running) (i : Fin 16) m =>
      (s.moveAt e i = some (r, m))
      ∧ (m.wait = .read)
      ∧ (s.sideAnswer (mvSrc m.words) (mvLen m.words) = .go)
      ∧ (s.readsPoison (mvSrc m.words).key (mvLen m.words) = false)
      ∧ (m.toMem = false)
      ∧ (mvDst m.words).kind = 4
      ∧ (s.engine e).st = .active
      ∧ (s.engine e).target = .idle)
      (moving1 (mvOp .read (mvW 0 4 4 0 4096 1020 0) [])) 0 ({ run0 2 9 with moves := [mvOp .read (mvW 0 4 4 0 4096 1020 0) []] }) 0 (mvOp .read (mvW 0 4 4 0 4096 1020 0) []))
    ∧ ((fun (s : State) (e : Fin 8) (r : Running) (i : Fin 16) m =>
      (s.moveAt e i = some (r, m))
      ∧ (m.wait = .write)
      ∧ (s.sideAnswer (mvDst m.words) m.data.length = .go)
      ∧ (s.engine e).st = .active
      ∧ (s.engine e).target = .idle
      ∧ (s.palRing r.list.ring).jrnl = 0)
      (moving1 (mvOp .write (mvW 4 0 4 0 0 0 8192) [1, 2, 3, 4])) 0 ({ run0 2 9 with moves := [mvOp .write (mvW 4 0 4 0 0 0 8192) [1, 2, 3, 4]] }) 0 (mvOp .write (mvW 4 0 4 0 0 0 8192) [1, 2, 3, 4]))
    ∧ ((fun (s : State) (e : Fin 8) (r : Running) (i : Fin 16) m st =>
      (s.moveAt e i = some (r, m))
      ∧ (m.wait = .write)
      ∧ (s.sideAnswer (mvDst m.words) m.data.length = .fail st))
      (moving1 (mvOp .write (mvW 4 0 4 0 0 3 8192) [1, 2, 3, 4])) 0 ({ run0 2 9 with moves := [mvOp .write (mvW 4 0 4 0 0 3 8192) [1, 2, 3, 4]] }) 0 (mvOp .write (mvW 4 0 4 0 0 3 8192) [1, 2, 3, 4]) stMEM_REFUSED) :=
  by and_intros <;> decide +kernel

theorem test_MovesRunInSteps :
    ((fun (s : State) (e : Fin 8) (r : Running) (w : List Word) =>
      nextIs (exec (.palMove e) s) (((s.setEngine e { s.engine e with run := some { r with moves := r.moves ++ [⟨r.pc, w, .read, []⟩] } }).nextCmd e)) = true)
      (runs (run0 1 9) (mvW 0 4 1024 0 4096 0 0)) 0 (run0 1 9) (mvW 0 4 1024 0 4096 0 0))
    ∧ ((fun (s : State) (e : Fin 8) (r : Running) (w : List Word) =>
      nextIs (exec (.palMove e) s) (((s.setEngine e { s.engine e with run := some { r with moves := r.moves ++ [⟨r.pc, w, .write, (s.engine e).fromSide (mvSrc w) (mvLayout w == 1) (mvFmt w) (mvLen w)⟩] } }).nextCmd e)) = true)
      (runs (run0 1 9) (mvW 4 0 1024 0 0 0 4096)) 0 (run0 1 9) (mvW 4 0 1024 0 0 0 4096)) :=
  by and_intros <;> decide +kernel

theorem wit_ComputeCommandsAct :
    ((fun (s : State) (e : Fin 8) (r : Running) (w : List Word) =>
      (r.moves = [])
      ∧ (s.canonical = true)
      ∧ (s.fetchCmd e = some (r, w))
      ∧ ((cw w 0).fld 31 24 = 0x20)
      ∧ (r.recorded = false ∧ r.placed 0x20 = true)
      ∧ (reservedOk [0xFFFFFFE0, 0xFFFF3FFF, 0xFFFFFFFF, 0x0FFFFF00] w = true)
      ∧ (cmdLanes w ≤ 128)
      ∧ (rowPairs w = true)
      ∧ (∀ i, i < rowReps w → rowRepOk w i = true)
      ∧ (rowReps w ≠ 0)
      ∧ (cmdLanes w ≠ 0)
      ∧ (s.engine e).level ≠ 0)
      (runs (run0 1 9) [0x20000100, 0x00010000, 0, 0]) 0 (run0 1 9) (pad8 [0x20000100, 0x00010000, 0, 0]))
    ∧ ((fun (s : State) (e : Fin 8) (r : Running) (w : List Word) =>
      (r.moves = [])
      ∧ (s.fetchCmd e = some (r, w))
      ∧ ((cw w 0).fld 31 24 = 0x21)
      ∧ (r.recorded = false ∧ r.placed 0x21 = true)
      ∧ (reservedOk [0xFFFFFF00, 0xFFFFFFFF, 0xFFFFFFFF, 0x3FFF00FF, 0xFFFFFFFF] w = true)
      ∧ (elemBad w = false)
      ∧ (elPeriod w = 0)
      ∧ (elDst w).kind = 0
      ∧ (Tbl.wf (fun _ => 0) (s.engine e).lanes = true))
      (runs (run0 1 9) [0x21010200, 0x1DFF0001, 0x00020000, 0x00010000]) 0 (run0 1 9) (pad8 [0x21010200, 0x1DFF0001, 0x00020000, 0x00010000]))
    ∧ ((fun (s : State) (e : Fin 8) (r : Running) (w : List Word) =>
      (r.moves = [])
      ∧ (s.fetchCmd e = some (r, w))
      ∧ ((cw w 0).fld 31 24 = 0x22)
      ∧ (r.recorded = false ∧ r.placed 0x22 = true)
      ∧ (reservedOk [0xFFE0FF00, 0x0000FFFF, 0xFFFFFFFF, 0x000FFFFF] w = true)
      ∧ (xlaneBad w = false)
      ∧ (xlOp w ≠ 3)
      ∧ (cw w 0).bit 21 = false
      ∧ (cmdLanes w ≠ 0)
      ∧ (xlCount w ≠ 0)
      ∧ (Tbl.wf (fun _ => 0) (s.engine e).acc = true))
      (runs (run0 1 9) [0x22000200, 1, 0, 0x000F0001]) 0 (run0 1 9) (pad8 [0x22000200, 1, 0, 0x000F0001]))
    ∧ ((fun (s : State) (e : Fin 8) (r : Running) (w : List Word) =>
      (r.moves = [])
      ∧ (s.fetchCmd e = some (r, w))
      ∧ ((cw w 0).fld 31 24 = 0x23)
      ∧ (r.recorded = false ∧ r.placed 0x23 = true)
      ∧ (reservedOk [0xFFFFF0FF, 0x3FFF3FFF, 0x0000FFFF] w = true)
      ∧ (convertBad w = false)
      ∧ (cvElems w ≠ 0))
      (runs (run0 1 9) [0x23010001, 0x00000010, 1]) 0 (run0 1 9) (pad8 [0x23010001, 0x00000010, 1])) :=
  by and_intros <;> decide +kernel

theorem test_ComputeCommandsAct :
    ((fun (s : State) (e : Fin 8) (r : Running) (w : List Word) =>
      gives (.palRow e) s (fun t => decide (t.engine e = { s.engine e with acc := ((s.engine e).row w).acc, run := some (r.next s.now) } ∧ t.count (C.PAL_ROW_CYCLES e) = (s.count (C.PAL_ROW_CYCLES e) + rowReps w) % 2 ^ 64 ∧ t.count (C.PAL_ROW_UNITS e) = (s.count (C.PAL_ROW_UNITS e) + 128 * cmdLanes w * rowReps w) % 2 ^ 64)) = true)
      (runs (run0 1 9) [0x20000100, 0x00010000, 0, 0]) 0 (run0 1 9) (pad8 [0x20000100, 0x00010000, 0, 0]))
    ∧ ((fun (s : State) (e : Fin 8) (r : Running) (w : List Word) =>
      gives (.palElem e) s (fun t => decide ((t.engine e).run = some (r.next s.now) ∧ (t.engine e).acc = (s.engine e).acc ∧ (∀ l : Nat, l < cmdLanes w → ∀ k : Nat, k < elCount w → (t.engine e).lane l ((elDst w).index + k) = elemOp (elOp w) ((s.engine e).opndAt l (cw w 4) (elA w) k) ((s.engine e).opndAt l (cw w 4) (elB w) k) ((s.engine e).opndAt l (cw w 4) (elC w) k)))) = true)
      (runs (run0 1 9) [0x21010200, 0x1DFF0001, 0x00020000, 0x00010000]) 0 (run0 1 9) (pad8 [0x21010200, 0x1DFF0001, 0x00020000, 0x00010000])) :=
  by and_intros <;> decide +kernel

end Palette

namespace Memory

def fixed3 : State := { linked with mem := { linked.mem with fixed := [(0, 1), (3, 1)] } }
/-- A request of endpoint 7: type, offset, tag and size word, AOP word, operand, payload. -/
def rq (ty off : Nat) (tagSize aop oper : Word) (payload : List Byte) : Packet :=
  pk ty 0 1 3 7 [0, 0x900, BitVec.ofNat 32 (off / 2 ^ 32), BitVec.ofNat 32 off, tagSize, aop, 0, oper] payload
def ld8 : Packet := rq 0x10 4096 0x00050040 0 0 []
def st4 : Packet := rq 0x11 8188 0x00050000 0 0 [1, 2, 3, 4]
def atom4 : Packet := rq 0x12 4096 0x00050000 0 5 []
def atIn (s : State) (p : Packet) : State := s.setUnitIn 3 [item 9 p 1024]
def srcK : Nat := srcKey ld8.sspace ld8.src
def hr (p : Packet) (ready : Bool) : HomeReq := ⟨srcKey p.sspace p.src, p.seq, p, 0, ready⟩
def line1 : CLine := ⟨(3 * 2 ^ 46 + 4096) / 64, some (List.replicate 64 1), false, 50⟩
def withHome (h : Home) : State := fixed3.setHome 3 h
def trk (t : Tracker) : Home := ⟨[(srcK, none)], [(srcK, some t)], [], []⟩
def outRq (held : Option (Nat × Nat)) : OutReq := ⟨4, 5, rq 0x10 4096 0x00050040 0 0 [], .notify 3 1, 10, 10, false, held⟩
def asked (held : Option (Nat × Nat)) : State := { fixed3 with req := { fixed3.req with out := [outRq held] } }
def rsp1 : Item := item 9 (pk 0x18 1 1 0 3 [1, 0, 0x00050000, 0, 0, 0, 0, 0] [1, 2, 3, 4, 5, 6, 7, 8]) 1024

theorem wit_MemoryReadsBackWrites :
    ((fun (s : State) (key : Nat) (bs : List Byte) =>
      (s.canonical = true)
      ∧ (∀ i, i < bs.length → s.poisoned (key + i) = false)
      ∧ (key % 2 ^ 46 + bs.length ≤ 2 ^ 46)
      ∧ (s.home (key / 2 ^ 46)).lines = [])
      fixed3 4095 ([1, 2, 3]))
    ∧ ((fun (s : State) (key : Nat) (bs : List Byte) a =>
      (s.canonical = true)
      ∧ (a < key ∨ key + bs.length ≤ a))
      fixed3 4095 ([1, 2, 3]) 4098)
    ∧ ((fun (s : State) (key : Nat) (bs : List Byte) l =>
      (s.canonical = true)
      ∧ (key ≤ 64 * l)
      ∧ (64 * l + 64 ≤ key + bs.length))
      ({ fixed3 with mem := { fixed3.mem with poison := [(64, true)] } }) 4096 (List.replicate 64 7) 64) :=
  by and_intros <;> decide +kernel

theorem test_MemoryReadsBackWrites :
    ((fun (s : State) (key : Nat) (bs : List Byte) =>
      (s.writeBytes key bs).readBytes key bs.length = bs)
      fixed3 4095 ([1, 2, 3]))
    ∧ ((fun (s : State) (key : Nat) (bs : List Byte) a =>
      (s.writeBytes key bs).readByte a = s.readByte a)
      fixed3 4095 ([1, 2, 3]) 4098) :=
  by and_intros <;> decide +kernel

theorem wit_HomeRequestsAreTakenByClass :
    ((fun (s : State) (d : Fin 4) it rest =>
      (s.canonical = true)
      ∧ (Tbl.get (fun _ => []) s.dp.unitIn d = it :: rest)
      ∧ (s.homeDead d = true)
      ∧ (s.joined = true))
      (atIn (join { fixed3 with dom := [] }) ld8) 3 (item 9 ld8 1024) [])
    ∧ ((fun (s : State) (d : Fin 4) it rest h' =>
      (s.canonical = true)
      ∧ (Tbl.get (fun _ => []) s.dp.unitIn d = it :: rest)
      ∧ (s.homeDead d = false)
      ∧ (s.dieWorks d = true)
      ∧ (s.home d).take (srcKey it.pkt.sspace it.pkt.src) = some h'
      ∧ (s.home d).seriesOf (srcKey it.pkt.sspace it.pkt.src) = none
      ∧ (s.home d).roomFor it.pkt = true)
      (atIn fixed3 ld8) 3 (item 9 ld8 1024) [] (⟨[(srcK, none)], [], [], []⟩))
    ∧ ((fun (s : State) (d : Fin 4) it rest h' tr =>
      (s.canonical = true)
      ∧ (Tbl.get (fun _ => []) s.dp.unitIn d = it :: rest)
      ∧ (s.homeDead d = false)
      ∧ (s.dieWorks d = true)
      ∧ (s.home d).take (srcKey it.pkt.sspace it.pkt.src) = some h'
      ∧ (s.home d).seriesOf (srcKey it.pkt.sspace it.pkt.src) = some tr
      ∧ (tr.classify it.pkt.seq = .duplicate)
      ∧ (s.loadWaits d it.pkt = false ∨ ∀ a, tr.find it.pkt.seq = some (.answered a) → a.load = false))
      (atIn (withHome (trk ⟨9, 9, [(9, .waiting)]⟩)) ld8) 3 (item 9 ld8 1024) [] (trk ⟨9, 9, [(9, .waiting)]⟩) (⟨9, 9, [(9, .waiting)]⟩))
    ∧ ((fun (s : State) (d : Fin 4) it rest h' tr =>
      (s.canonical = true)
      ∧ (Tbl.get (fun _ => []) s.dp.unitIn d = it :: rest)
      ∧ (s.homeDead d = false)
      ∧ (s.dieWorks d = true)
      ∧ (s.home d).take (srcKey it.pkt.sspace it.pkt.src) = some h'
      ∧ (s.home d).seriesOf (srcKey it.pkt.sspace it.pkt.src) = some tr
      ∧ (tr.classify it.pkt.seq = .outside))
      (atIn (withHome (trk ⟨137, 9, []⟩)) ld8) 3 (item 9 ld8 1024) [] (trk ⟨137, 9, []⟩) (⟨137, 9, []⟩))
    ∧ ((fun (s : State) (d : Fin 4) it rest =>
      (s.canonical = true)
      ∧ (Tbl.get (fun _ => []) s.dp.unitIn d = it :: rest)
      ∧ (s.home d).active.length < 16384)
      (atIn fixed3 ld8) 3 (item 9 ld8 1024) [])
    ∧ ((fun (s : State) (d : Fin 4) (space : Bool) (src : Fin 262144) t0 =>
      (s.canonical = true)
      ∧ (Tbl.get (fun _ => none) (s.home d).active (srcKey (bit01 space) src) = some t0))
      (withHome ⟨[(srcKey 0 7, some 5)], [], [], []⟩) 3 false 7 5)
    ∧ ((fun (s : State) (d : Fin 4) (space : Bool) (src : Fin 262144) =>
      (s.canonical = true)
      ∧ (s.on (regDomain (R.MEM_HA_TRK_CMD d)) = true)
      ∧ (s.home d).slots.any (fun r => r.src == srcKey (bit01 space) src) = false)
      (withHome (trk ⟨9, 9, [(9, .waiting)]⟩)) 3 false 7)
    ∧ ((fun (s : State) (d : Fin 4) (space : Bool) (src : Fin 262144) =>
      (s.canonical = true)
      ∧ (s.on (regDomain (R.MEM_HA_TRK_CMD d)) = true)
      ∧ (s.home d).slots.any (fun r => r.src == srcKey (bit01 space) src) = true)
      (withHome { trk ⟨9, 9, [(9, .waiting)]⟩ with slots := [hr ld8 true] }) 3 false 7) :=
  by refine ⟨?_, ?_, ⟨?_, ?_, ?_, ?_, ?_, ?_, ?_, .inr (by simp [Tracker.find])⟩, ?_, ?_, ?_, ?_, ?_⟩ <;> and_intros <;> decide +kernel

theorem test_HomeRequestsAreTakenByClass :
    ((fun (s : State) (d : Fin 4) rest =>
      gives (.homeRequestReceive d) s (fun t => decide (t.dp.unitIn = Tbl.put (fun _ => []) s.dp.unitIn d rest)) = true)
      (atIn (join { fixed3 with dom := [] }) ld8) 3 [])
    ∧ ((fun (s : State) (d : Fin 4) it rest =>
      gives (.homeRequestReceive d) s (fun t => decide (t.dp.unitIn = Tbl.put (fun _ => []) s.dp.unitIn d rest ∧ (t.home d).seriesOf (srcKey it.pkt.sspace it.pkt.src) = some (Tracker.begin_ it.pkt.seq .held) ∧ (t.home d).slots.length = (s.home d).slots.length + 1 ∧ ((t.home d).slots.map (fun x => (x.src, x.pkt, x.since, x.ready)) = [(srcK, ld8, 0, true)]))) = true)
      (atIn fixed3 ld8) 3 (item 9 ld8 1024) []) :=
  by and_intros <;> decide +kernel

theorem wit_HomeRequestsArePerformed :
    ((fun (s : State) (d : Fin 4) (r : HomeReq) =>
      (s.canonical = true)
      ∧ (s.dieWorks d = true)
      ∧ (s.firstReady d (s.home d).slots [] = some r))
      (withHome ⟨[], [], [hr ld8 true], []⟩) 3 (hr ld8 true))
    ∧ ((fun (s : State) (d : Fin 4) (r : HomeReq) =>
      (s.canonical = true)
      ∧ (s.joined = true)
      ∧ (s.homeCheck d r.pkt ≠ 0))
      ((join linked).setHome 3 ⟨[], [], [hr ld8 true], []⟩) 3 (hr ld8 true))
    ∧ ((fun (s : State) (d : Fin 4) (r : HomeReq) =>
      (s.canonical = true)
      ∧ (s.joined = true)
      ∧ (s.homeCheck d r.pkt = 0)
      ∧ (r.pkt.isLoad = true)
      ∧ (reqLines d r.pkt).length ≤ 1)
      (join (withHome ⟨[], [], [hr ld8 true], [line1]⟩)) 3 (hr ld8 true))
    ∧ ((fun (s : State) (d : Fin 4) (r : HomeReq) l bs =>
      (s.canonical = true)
      ∧ (s.joined = true)
      ∧ (s.homeCheck d r.pkt = 0)
      ∧ (r.pkt.isAtomic = true)
      ∧ (s.lineOf (memKey d r.pkt.offset) = some l)
      ∧ (l.data = some bs)
      ∧ (bs.length = 64))
      (join (withHome ⟨[], [], [hr atom4 true], [line1]⟩)) 3 (hr atom4 true) line1 (List.replicate 64 1))
    ∧ ((fun (s : State) (d : Fin 4) (r : HomeReq) key bs a =>
      (s.canonical = true)
      ∧ (key = memKey d r.pkt.offset)
      ∧ (s.homeCheck d r.pkt = 0)
      ∧ (r.pkt.isLoad = false)
      ∧ (r.pkt.isAtomic = false)
      ∧ (r.pkt.isStore = true)
      ∧ (reqLines d r.pkt).length = 1
      ∧ (s.home d).buffered (key / 64) = false
      ∧ (bs = r.pkt.payload.take r.pkt.length)
      ∧ (a < key ∨ key + bs.length ≤ a))
      (withHome ⟨[], [], [hr st4 true], [line1]⟩) 3 (hr st4 true) (memKey 3 8188) ([1, 2, 3, 4]) (memKey 3 8192))
    ∧ ((fun (s : State) (d : Fin 4) (r : HomeReq) key bs =>
      (s.canonical = true)
      ∧ (key = memKey d r.pkt.offset)
      ∧ (s.homeCheck d r.pkt = 0)
      ∧ (r.pkt.isLoad = false)
      ∧ (r.pkt.isAtomic = false)
      ∧ (r.pkt.isStore = true)
      ∧ (reqLines d r.pkt).length = 1
      ∧ (s.home d).buffered (key / 64) = false
      ∧ (bs = r.pkt.payload.take r.pkt.length)
      ∧ (∀ i, i < bs.length → s.poisoned (key + i) = false))
      (withHome ⟨[], [], [hr st4 true], [line1]⟩) 3 (hr st4 true) (memKey 3 8188) ([1, 2, 3, 4]))
    ∧ ((fun (s : State) (d : Fin 4) x =>
      (s.canonical = true)
      ∧ (s.home d).lines.find? (fun y => y.data.isNone) = some x
      ∧ (s.home d).slots = [])
      (({ fixed3 with mem := { fixed3.mem with bytes := [(memKey 3 4096, 5)] } } : State).setHome 3 ⟨[], [], [], [{ line1 with data := none }]⟩) 3 ({ line1 with data := none }))
    ∧ ((fun (s : State) (d : Fin 4) x =>
      (s.canonical = true)
      ∧ (oldestLine ((s.home d).lines.filter (fun x => x.data.isSome && !((s.home d).queuedLines d).contains x.line)) = some x))
      (withHome ⟨[], [], [], [line1]⟩) 3 line1) :=
  by and_intros <;> decide +kernel

theorem test_HomeRequestsArePerformed :
    ((fun (s : State) (d : Fin 4) (r : HomeReq) =>
      nextIs (exec (.homeRequestPerform d) s) ((s.perform d r)) = true)
      (withHome ⟨[], [], [hr ld8 true], []⟩) 3 (hr ld8 true))
    ∧ ((fun (s : State) (d : Fin 4) (r : HomeReq) =>
      (s.perform d r).mem = s.mem
      ∧ ((s.perform d r).rx 1088).map (fun x => x.body) = [.ffp (rspPacket d s.spineId r.pkt (s.nextSeq d r.pkt.sspace r.pkt.src) (s.homeCheck d r.pkt) r.pkt.isLoad 0 (onesFor r.pkt))])
      ((join linked).setHome 3 ⟨[], [], [hr ld8 true], []⟩) 3 (hr ld8 true)) :=
  by and_intros <;> decide +kernel

theorem wit_RequestsAreResentHeldAndCompleted :
    ((fun (s : State) (origin : Fin 5) (tag : Fin 65536) r =>
      (s.canonical = true)
      ∧ (s.findReq origin tag = some r)
      ∧ (s.joined = true))
      (join (asked none)) 1 5 (outRq none))
    ∧ ((fun (s : State) (origin : Fin 5) (tag : Fin 65536) r =>
      (s.canonical = true)
      ∧ (s.findReq origin tag = some r)
      ∧ (r.held = none)
      ∧ (s.timeoutNs ≠ 0)
      ∧ (s.fld R.MEM_REQ_TIMER 31 31 = 0))
      ((asked none).setF R.MEM_REQ_TIMER 16 0 100000) 1 5 (outRq none))
    ∧ ((fun (s : State) (origin : Fin 5) (tag : Fin 65536) r =>
      (s.canonical = true)
      ∧ (s.findReq origin tag = some r)
      ∧ (r.held = none)
      ∧ (s.timeoutNs = 0)
      ∧ (s.req.out.filter (fun x => x.held.isSome)) = [])
      ((asked none).setF R.MEM_REQ_TIMER 16 0 0) 1 5 (outRq none))
    ∧ ((fun (s : State) it l =>
      (s.canonical = true)
      ∧ (s.hubIn = it :: l)
      ∧ (it.pkt.ty ≠ tyACK)
      ∧ (it.pkt.echo = 0)
      ∧ (s.req.out = [])
      ∧ (s.req.data = []))
      (fixed3.setUnitIn 5 [rsp1]) rsp1 [])
    ∧ ((fun (s : State) it l r =>
      (s.canonical = true)
      ∧ (s.hubIn = it :: l)
      ∧ (it.pkt.ty ≠ tyACK)
      ∧ (it.pkt.echo = 0)
      ∧ (r.held = none)
      ∧ (s.req.out.find? (fun r => r.origin == rspOrigin it.pkt && r.tag == it.pkt.fld 5 31 16 && tyResponse it.pkt.ty && rspType r.pkt.ty == it.pkt.ty && r.pkt.dest == it.pkt.src && r.space == it.pkt.sspace) = some r))
      ((asked none).setUnitIn 5 [rsp1]) rsp1 [] (outRq none))
    ∧ ((fun (s : State) (index : Fin 4096) =>
      (s.canonical = true)
      ∧ (s.on (regDomain R.MEM_HELD_CMD) = true)
      ∧ (s.heldAt index = none))
      (asked (some (5, 0))) 4095)
    ∧ ((fun (s : State) (index : Fin 4096) =>
      (s.canonical = true)
      ∧ (s.on (regDomain R.MEM_HELD_CMD) = true)
      ∧ (s.heldAt index = none))
      (asked (some (5, 0))) 4095)
    ∧ ((fun (s : State) (index : Fin 4096) r =>
      (s.canonical = true)
      ∧ (s.on (regDomain R.MEM_HELD_CMD) = true)
      ∧ (s.heldAt index = some r))
      (asked (some (4095, 0))) 4095 (outRq (some (4095, 0))))
    ∧ ((fun (s : State) (index : Fin 4096) r i t0 =>
      (s.canonical = true)
      ∧ (s.on (regDomain R.MEM_HELD_CMD) = true)
      ∧ (s.heldAt index = some r)
      ∧ (r.held = some (i, t0)))
      (asked (some (4095, 0))) 4095 (outRq (some (4095, 0))) 4095 0)
    ∧ ((fun (s : State) r =>
      (s.canonical = true)
      ∧ (s.on (regDomain R.MEM_HELD_CMD) = true)
      ∧ (s.req.out.filter (fun r => r.held.isSome && r.pkt.dest == (s.rd (R.MEM_HELD_DATA 0)).fld 17 0 && r.space == (s.rd (R.MEM_HELD_DATA 0)).fld 19 19) = [r]))
      ((asked (some (4095, 0))).wr (R.MEM_HELD_DATA 0) 3) (outRq (some (4095, 0)))) :=
  by and_intros <;> decide +kernel

theorem test_RequestsAreResentHeldAndCompleted :
    ((fun (s : State) (origin : Fin 5) (tag : Fin 65536) r =>
      gives (.requestRetry origin tag) s (fun t => decide (t.now = max s.now (r.lastSent + s.retryNs) ∧ ((t.rx 1088).map (fun x => x.body) = [.ffp r.pkt]))) = true)
      (join (asked none)) 1 5 (outRq none))
    ∧ ((fun (s : State) l =>
      gives .responseReceive s (fun t => decide (t.dp.unitIn = Tbl.put (fun _ => []) s.dp.unitIn 5 l ∧ t.count C.TEL_HUB_LATE_RSP = (s.count C.TEL_HUB_LATE_RSP + 1) % 2 ^ 64)) = true)
      (fixed3.setUnitIn 5 [rsp1]) []) :=
  by and_intros <;> decide +kernel

theorem wit_WindowsAreWrittenAndRead :
    ((fun (s : State) =>
      (s.canonical = true)
      ∧ (s.on (regDomain R.MEM_WIN_CMD) = true)
      ∧ (windowOk (s.rdWords (R.MEM_WIN_DATA 0) 4) = true))
      (up.wrWords (R.MEM_WIN_DATA 0) [0xFF800000, 5, 6, 0x3FFFFFFF]))
    ∧ ((fun (s : State) =>
      (s.canonical = true)
      ∧ (s.on (regDomain R.MEM_WIN_CMD) = true)
      ∧ (windowOk (s.rdWords (R.MEM_WIN_DATA 0) 4) = false))
      (up.wrWords (R.MEM_WIN_DATA 0) [0xFF840000, 5, 6, 7]))
    ∧ ((fun (s : State) (index : Fin 4096) =>
      (s.canonical = true)
      ∧ (s.on (regDomain R.MEM_WIN_CMD) = true)
      ∧ (Tbl.get (fun _ => windowZero) s.req.windows index).length = 4)
      ({ up with req := { up.req with windows := [(4095, [1, 2, 3, 4])] } }) 4095) :=
  by and_intros <;> decide +kernel

theorem test_WindowsAreWrittenAndRead :
    ((fun (s : State) (index : Fin 4096) =>
      gives (.windowWrite index) s (fun t => decide (t.fld R.MEM_WIN_STAT 3 0 = 0 ∧ t.req = { s.req with windows := Tbl.put (fun _ => windowZero) s.req.windows index (s.rdWords (R.MEM_WIN_DATA 0) 4) })) = true)
      (up.wrWords (R.MEM_WIN_DATA 0) [0xFF800000, 5, 6, 0x3FFFFFFF]) 4095)
    ∧ ((fun (s : State) (index : Fin 4096) =>
      gives (.windowWrite index) s (fun t => decide (t.fld R.MEM_WIN_STAT 3 0 = 3 ∧ t.req = s.req)) = true)
      (up.wrWords (R.MEM_WIN_DATA 0) [0xFF840000, 5, 6, 7]) 4095) :=
  by and_intros <;> decide +kernel

end Memory

namespace Easel

def online : State := (List.range 32).foldl (fun s k => s.setF (R.MEM_STACK_STAT k) 31 29 1) linked
def withPage (h : Nat) (p : Page) : State := linked.setPage h p
def pageOn (st : PageState) (p : Place) : Page := { Page.init with st := st, at_ := p, heat := 9 }
def retiring7 (r : RetireStep) : State := (linked.setRetiring 31 (some r)).setF R.MEM_STACK_RETIRED 31 0 0x80000000
def port (k st : Nat) : State := linked.setCxlSt k st

theorem wit_PagesAreMappedAndMoved :
    ((fun (s : State) (h : Fin 268435456) p =>
      (s.canonical = true)
      ∧ (s.on (regDomain R.MEM_PAGE_CMD) = true)
      ∧ (pageDataBad (s.rd (R.MEM_PAGE_DATA 0)) = false)
      ∧ (s.page h).st = .unmapped
      ∧ (s.rd (R.MEM_PAGE_DATA 0)).fld 24 24 = 0
      ∧ (s.easelPlace ((s.rd (R.MEM_PAGE_DATA 0)).fld 28 27) ((s.rd (R.MEM_PAGE_DATA 0)).fld 26 25) none = some p))
      ((({ linked with mem := { linked.mem with bytes := [(pageKey 268435455 + 7, 9)] } } : State).wr (R.MEM_PAGE_DATA 0) 0x14000000)) 268435455 (hbmPlace linked 2))
    ∧ ((fun (s : State) (h : Fin 268435456) =>
      (s.canonical = true)
      ∧ (s.on (regDomain R.MEM_PAGE_CMD) = true)
      ∧ (pageDataBad (s.rd (R.MEM_PAGE_DATA 0)) = false)
      ∧ (s.page h).st ≠ .unmapped)
      (withPage 268435455 (pageOn .hbm ⟨false, 2, 50000⟩)) 268435455)
    ∧ ((fun (s : State) (h : Fin 268435456) =>
      (s.canonical = true)
      ∧ (s.on (regDomain R.MEM_PAGE_CMD) = true)
      ∧ (s.page h).st ≠ .unmapped)
      (({ withPage 268435455 (pageOn .hbm ⟨false, 2, 50000⟩) with mem := { (withPage 268435455 (pageOn .hbm ⟨false, 2, 50000⟩)).mem with bytes := [(pageKey 268435455 + 7, 9)] } } : State)) 268435455)
    ∧ ((fun (s : State) (h : Fin 268435456) =>
      (s.canonical = true)
      ∧ (s.on (regDomain R.MEM_PAGE_CMD) = true)
      ∧ (s.page h).st = .unmapped)
      linked 268435455)
    ∧ ((fun (s : State) =>
      (s.canonical = true)
      ∧ (s.on (regDomain R.MEM_PAGE_CMD) = true))
      (withPage 268435455 (pageOn .hbm ⟨false, 2, 50000⟩)))
    ∧ ((fun (s : State) (h : Fin 268435456) =>
      (s.canonical = true)
      ∧ (s.on (regDomain R.MEM_PAGE_CMD) = true)
      ∧ (pageDataBad (s.rd (R.MEM_PAGE_DATA 0)) = false)
      ∧ (s.page h).st = .hbm
      ∧ (s.page h).dst = none
      ∧ (breaksPin ((s.rd (R.MEM_PAGE_DATA 0)).fld 28 27) ((s.rd (R.MEM_PAGE_DATA 0)).fld 26 25) (s.page h).at_ = false))
      ((withPage 268435455 (pageOn .hbm ⟨false, 2, 50000⟩)).wr (R.MEM_PAGE_DATA 0) 0x14000000) 268435455)
    ∧ ((fun (s : State) (h : Fin 268435456) d =>
      (s.canonical = true)
      ∧ (s.page h).st = .migrating
      ∧ (s.page h).dst = some d)
      (withPage 268435455 { pageOn .migrating ⟨false, 2, 50000⟩ with dst := some ⟨true, 7, 5⟩ }) 268435455 (⟨true, 7, 5⟩))
    ∧ ((fun (s : State) =>
      (s.canonical = true)
      ∧ (s.on 2 = true)
      ∧ (s.fld R.MEM_EASEL_HEAT 15 0 ≠ 0))
      ((withPage 268435455 (pageOn .hbm ⟨false, 2, 50000⟩)).setF R.MEM_EASEL_HEAT 15 0 65535)) :=
  by and_intros <;> decide +kernel

theorem test_PagesAreMappedAndMoved :
    ((fun (s : State) (h : Fin 268435456) p =>
      gives (.pageAlloc h) s (fun t => decide (t.fld R.MEM_PAGE_STAT 3 0 = 0 ∧ (t.page h).at_ = p ∧ (t.page h).st = (if p.cxl then .cxl else .hbm) ∧ (t.page h).pin = (s.rd (R.MEM_PAGE_DATA 0)).fld 28 27 ∧ t.readByte (pageKey h + 7) = 0)) = true)
      ((({ linked with mem := { linked.mem with bytes := [(pageKey 268435455 + 7, 9)] } } : State).wr (R.MEM_PAGE_DATA 0) 0x14000000)) 268435455 (hbmPlace linked 2))
    ∧ ((fun (s : State) (h : Fin 268435456) =>
      gives (.pageAlloc h) s (fun t => decide (t.fld R.MEM_PAGE_STAT 3 0 = 4 ∧ t.mem = s.mem)) = true)
      (withPage 268435455 (pageOn .hbm ⟨false, 2, 50000⟩)) 268435455) :=
  by and_intros <;> decide +kernel

theorem wit_WindowsAndIntervalsKeepMemory :
    ((fun (s : State) (d : Fin 4) (gib : Fin 512) =>
      (s.canonical = true)
      ∧ (s.on (regDomain (R.MEM_FIX_GIB d)) = true)
      ∧ (s.fixedGib d < gib))
      linked 3 511)
    ∧ ((fun (s : State) (d : Fin 4) (gib : Fin 512) =>
      (s.canonical = true)
      ∧ (s.on (regDomain (R.MEM_FIX_GIB d)) = true)
      ∧ (gib ≤ s.fixedGib d))
      ({ linked with mem := { linked.mem with fixed := [(3, 5)] } }) 3 5)
    ∧ ((fun (s : State) (d : Fin 4) =>
      (s.canonical = true)
      ∧ (s.fld (R.MEM_FIX_GIB d) 31 31 = 1)
      ∧ (s.dieUp d = true)
      ∧ (8192 * s.fixWanted d ≤ s.freeFrames d))
      (((linked.setF (R.MEM_FIX_GIB 3) 31 31 1).setF (R.MEM_FIX_GIB 3) 8 0 400)) 3)
    ∧ ((fun (s : State) =>
      (s.canonical = true)
      ∧ (s.on 2 = true)
      ∧ (s.fld R.MEM_EASEL_CTRL 31 31 = 0))
      ((withPage 5 { pageOn .hbm ⟨false, 2, 50000⟩ with otherReads := 3 }).setF R.MEM_EASEL_CTRL 31 31 0))
    ∧ ((fun (s : State) (gib : Fin 65536) =>
      (s.canonical = true)
      ∧ (s.on (regDomain R.MEM_EASEL_SPACE) = true)
      ∧ (s.spillBlocks * 16384 ≤ gib * 2 ^ 30))
      linked 65535) :=
  by and_intros <;> decide +kernel

theorem test_WindowsAndIntervalsKeepMemory :
    ((fun (s : State) (d : Fin 4) (gib : Fin 512) =>
      gives (.fixGibWrite d gib) s (fun t => decide (t.fld (R.MEM_FIX_GIB d) 8 0 = gib ∧ t.fld (R.MEM_FIX_GIB d) 31 31 = 1 ∧ t.mem.fixed = s.mem.fixed)) = true)
      linked 3 511)
    ∧ ((fun (s : State) (d : Fin 4) (gib : Fin 512) =>
      gives (.fixGibWrite d gib) s (fun t => decide (t.fld (R.MEM_FIX_GIB d) 8 0 = gib ∧ t.fld (R.MEM_FIX_GIB d) 31 31 = 0 ∧ t.mem.fixed = Tbl.put (fun _ => 0) s.mem.fixed d gib ∧ t.mem.pages = s.mem.pages)) = true)
      ({ linked with mem := { linked.mem with fixed := [(3, 5)] } }) 3 5) :=
  by and_intros <;> decide +kernel

theorem wit_StacksRetireAndFail :
    ((fun (s : State) =>
      (s.canonical = true)
      ∧ (s.on (regDomain R.MEM_STACK_RETIRED) = true)
      ∧ (s.fld R.MEM_STACK_RETIRED 31 0 = 0)
      ∧ (∀ j : Nat, j < 32 → s.stackSt j = 1)
      ∧ (s.mem.retiring = [])
      ∧ (s.maint = []))
      online)
    ∧ ((fun (s : State) (k : Fin 32) =>
      (s.canonical = true)
      ∧ (s.retiringAt k = some .demote)
      ∧ (s.usedFrames (k / 8) ≤ s.retireBound (k / 8)))
      (retiring7 .demote) 31)
    ∧ ((fun (s : State) (k : Fin 32) =>
      (s.canonical = true)
      ∧ (s.retiringAt k = some .relocate)
      ∧ (s.fld R.MEM_EASEL_RETIRE 15 0 ≠ 0)
      ∧ (s.fld R.MEM_STACK_RETIRED 31 0).testBit k = true
      ∧ (s.mem.retireQ = []))
      ((retiring7 .relocate).setF R.MEM_EASEL_RETIRE 15 0 10) 31)
    ∧ ((fun (s : State) (k : Fin 32) =>
      (s.canonical = true)
      ∧ (s.stackSt k = 1 ∨ s.stackSt k = 2))
      online 31)
    ∧ ((fun (s : State) (home : Fin 4) (line : Fin 1099511627776) st d =>
      (s.canonical = true)
      ∧ (s.stackOf (memKey home (line * 64)) = some st)
      ∧ (s.serve (memKey home (line * 64))).hbmDie = some d
      ∧ (s.dieUp d = true)
      ∧ (s.stackSt st ≠ 4)
      ∧ (s.poisoned (memKey home (line * 64)) = false))
      (({ online with mem := { online.mem with fixed := [(3, 1)] } } : State)) 3 0 24 3)
    ∧ ((fun (s : State) (home : Fin 4) (line : Fin 1099511627776) st d =>
      (s.canonical = true)
      ∧ (s.stackOf (memKey home (line * 64)) = some st)
      ∧ (s.serve (memKey home (line * 64))).hbmDie = some d
      ∧ (s.dieUp d = true)
      ∧ (s.stackSt st ≠ 4)
      ∧ (s.poisoned (memKey home (line * 64)) = false))
      (({ online with mem := { online.mem with fixed := [(3, 1)] } } : State)) 3 0 24 3)
    ∧ ((fun (s : State) (home : Fin 4) (line : Fin 1099511627776) st d =>
      (s.canonical = true)
      ∧ (s.stackOf (memKey home (line * 64)) = some st)
      ∧ (s.serve (memKey home (line * 64))).hbmDie = some d
      ∧ (s.dieUp d = true)
      ∧ (s.stackSt st ≠ 4)
      ∧ (s.poisoned (memKey home (line * 64)) = false))
      (({ online with mem := { online.mem with fixed := [(3, 1)] } } : State)) 3 0 24 3) :=
  by and_intros <;> decide +kernel

theorem test_StacksRetireAndFail :
    ((fun (s : State) (k : Fin 32) =>
      nextIs (exec (.stackDemoteDone k) s) ((s.setRetiring k (some .relocate))) = true)
      (retiring7 .demote) 31)
    ∧ ((fun (s : State) (k : Fin 32) =>
      gives (.stackRelocateDone k) s (fun t => decide (t.stackSt k = 3 ∧ t.mem.retiring = Tbl.put (fun _ => none) s.mem.retiring k none ∧ t.maint = (if s.maintRuns (.stack k) then dropActivity (.stack k) s.maint else s.maint) ∧ t.count C.MEM_RELOC_BYTES = (s.count C.MEM_RELOC_BYTES + 16384 * s.usedFrames (k / 8)) % 2 ^ 64)) = true)
      ((retiring7 .relocate).setF R.MEM_EASEL_RETIRE 15 0 10) 31) :=
  by and_intros <;> decide +kernel

theorem wit_CxlPortsFollowTheirStates :
    ((fun (s : State) (k : Fin 8) =>
      (s.canonical = true)
      ∧ (s.on (regDomain (R.CXL_PORT_CTRL k)) = true)
      ∧ (s.cxlSt k = 0)
      ∧ (s.maint = []))
      linked 7)
    ∧ ((fun (s : State) (k : Fin 8) =>
      (s.canonical = true)
      ∧ (s.on (regDomain (R.CXL_PORT_CTRL k)) = true)
      ∧ (s.cxlSt k ≠ 0))
      (port 7 4) 7)
    ∧ ((fun (s : State) (k : Fin 8) =>
      (s.canonical = true)
      ∧ (s.cxlSt k = 1)
      ∧ (s.on 20 = true))
      ({ port 7 1 with mem := { (port 7 1).mem with cxlEnAt := [(7, some 5)] } }) 7)
    ∧ ((fun (s : State) (k : Fin 8) =>
      (s.canonical = true)
      ∧ (s.on (regDomain (R.CXL_PORT_CTRL k)) = true)
      ∧ (s.cxlSt k = 2)
      ∧ (s.maint = []))
      (port 7 2) 7)
    ∧ ((fun (s : State) (k : Fin 8) =>
      (s.canonical = true)
      ∧ (s.cxlSt k = 3)
      ∧ (s.cxlFix k = 0)
      ∧ (s.takenFrames true k = [])
      ∧ (s.spillFramesAt (4 + k) = 0))
      (port 7 3) 7)
    ∧ ((fun (s : State) (k : Fin 8) =>
      (s.canonical = true)
      ∧ (s.cxlSt k = 2))
      ((port 7 2).setPage 5 (pageOn .cxl ⟨true, 7, 5⟩)) 7)
    ∧ ((fun (s : State) (k : Fin 8) =>
      (s.canonical = true)
      ∧ (s.cxlSt k = 4)
      ∧ (s.fld (R.CXL_PORT_CTRL k) 31 31 = 1)
      ∧ (s.on 20 = true))
      ({ port 7 4 with mem := { (port 7 4).mem with cxlFailAt := [(7, some 5)] } }.setF (R.CXL_PORT_CTRL 7) 31 31 1) 7)
    ∧ ((fun (s : State) (k : Fin 8) =>
      (s.canonical = true)
      ∧ (s.cxlServes k = true)
      ∧ (s.on 2 = true))
      (port 7 3) 7) :=
  by and_intros <;> decide +kernel

theorem test_CxlPortsFollowTheirStates :
    ((fun (s : State) (k : Fin 8) (fix : Fin 8192) =>
      gives (.cxlPortEnable k true fix) s (fun t => decide (t.cxlSt k = 1 ∧ t.fld (R.CXL_PORT_CTRL k) 31 31 = 1 ∧ t.fld (R.CXL_PORT_CTRL k) 12 0 = fix ∧ t.maint = [(.cxlAdd k, true)])) = true)
      linked 7 8191)
    ∧ ((fun (s : State) (k : Fin 8) (fix : Fin 8192) =>
      gives (.cxlPortEnable k false fix) s (fun t => decide (t.cxlSt k = 0 ∧ t.fld (R.CXL_PORT_CTRL k) 31 31 = 0)) = true)
      (port 7 4) 7 5) :=
  by and_intros <;> decide +kernel

end Easel

namespace Prism

def lc (ty : Nat) (w5 : Word) : Packet := pk ty 0 0 0 0 [0, 0, w5] []
def disc : Packet := lc tyLC_DISCOVER 0x02C40000
/-- Plane 9 up and delivering peer 4, with local packets waiting. -/
def pl9 (l : List Packet) (st : PeerState) : State :=
  ((linked.setPort 1033 { Port.init with st := .up, llq := l }).setPlane 9 { Plane.init with st := .phase 60 }).setPeer 4
    { Peer.init with st := st, lastFrame := 70 }
def pat18 : List Word := 0xFFFFFFFF :: 0xFFFFFFFF :: List.replicate 16 0x05050505
def marked : State := { linked with prism := { Prism.init with marks := [(500, 3), (500, 4), (900, 5)], patActive := [(3, pat18)] } }
def lasing (f : Laser → Laser) (ts : List Takeover) : State :=
  let s := linked.setLaser 17 63 (f (linked.laser 17 63))
  { s with optics := { s.optics with takeovers := ts } }

theorem wit_PeersFollowTheirStates :
    ((fun (s : State) (p : Fin 64) pkt rest =>
      (s.canonical = true)
      ∧ (takeLocal tyLC_DISCOVER (s.port (1024 + p)).llq = some (pkt, rest))
      ∧ (s.prism.listenEnd.isSome = true))
      (({ pl9 [disc] .unknown with prism := { Prism.init with listenEnd := some 99 } } : State)) 9 disc [])
    ∧ ((fun (s : State) (p : Fin 64) pkt rest g =>
      (s.canonical = true)
      ∧ (takeLocal tyLC_DISCOVER (s.port (1024 + p)).llq = some (pkt, rest))
      ∧ (s.prism.listenEnd = none)
      ∧ (s.deliveredBy p = some g)
      ∧ (pkt.fld 5 21 16 = g)
      ∧ (g ≠ s.prismPos)
      ∧ (s.spineTaken g (pkt.fld 5 31 22) = false)
      ∧ (s.peer g).st = .unknown)
      (pl9 [disc] .unknown) 9 disc [] 4)
    ∧ ((fun (s : State) (p : Fin 64) pkt rest g =>
      (s.canonical = true)
      ∧ (takeLocal tyLC_DISCOVER (s.port (1024 + p)).llq = some (pkt, rest))
      ∧ (s.prism.listenEnd = none)
      ∧ (s.deliveredBy p = some g)
      ∧ (pkt.fld 5 21 16 ≠ g)
      ∧ (pkt.fld 5 21 16 ≠ s.prismPos))
      (pl9 [lc tyLC_DISCOVER 0x02C50000] .unknown) 9 (lc tyLC_DISCOVER 0x02C50000) [] 4)
    ∧ ((fun (s : State) (port : Fin 1088) pkt rest j =>
      (s.canonical = true)
      ∧ (takeLocal tyLC_READY (s.port port).llq = some (pkt, rest))
      ∧ (1024 ≤ port.val)
      ∧ (s.deliveredBy (port - 1024) = some j)
      ∧ (s.peer j).st = .discovering)
      (pl9 [disc, lc tyLC_READY 0] .discovering) 1033 (lc tyLC_READY 0) ([disc]) 4)
    ∧ ((fun (s : State) (port : Fin 1088) pkt rest j =>
      (s.canonical = true)
      ∧ (takeLocal tyLC_WITHDRAW (s.port port).llq = some (pkt, rest))
      ∧ (1024 ≤ port.val)
      ∧ (s.deliveredBy (port - 1024) = some j)
      ∧ (s.peer j).st = .live)
      (pl9 [lc tyLC_WITHDRAW 0] .live) 1033 (lc tyLC_WITHDRAW 0) [] 4)
    ∧ ((fun (s : State) (j : Fin 64) =>
      (s.canonical = true)
      ∧ (s.deadNs ≠ 0)
      ∧ (s.delivers j = true)
      ∧ (s.peer j).st = .discovering)
      ((pl9 [] .discovering).setF R.OPT_PRISM_CTRL 15 0 499) 4)
    ∧ ((fun (s : State) (j : Fin 64) =>
      (s.canonical = true)
      ∧ (s.deadNs ≠ 0)
      ∧ (s.delivers j = true)
      ∧ (s.peer j).st = .live)
      ((pl9 [] .live).setF R.OPT_PRISM_CTRL 15 0 499) 4)
    ∧ ((fun (s : State) t0 =>
      (s.canonical = true)
      ∧ (s.prism.listenEnd = some t0))
      (({ pl9 [] .unknown with prism := { Prism.init with listenEnd := some 99 } } : State)) 99) :=
  by and_intros <;> decide +kernel

theorem test_PeersFollowTheirStates :
    ((fun (s : State) (p : Fin 64) (skew : Fin 256) (power : Fin 256) pkt rest =>
      gives (.discoverReceive p skew power) s (fun t => decide ((t.port (1024 + p)).llq = rest ∧ t.peers = s.peers ∧ (p.val, pkt.fld 5 21 16, slotNumber s.slotNs s.tb0 % 64) ∈ t.prism.heard)) = true)
      (({ pl9 [disc] .unknown with prism := { Prism.init with listenEnd := some 99 } } : State)) 9 255 7 disc [])
    ∧ ((fun (s : State) (p : Fin 64) (skew : Fin 256) (power : Fin 256) pkt rest g =>
      gives (.discoverReceive p skew power) s (fun t => decide ((t.port (1024 + p)).llq = rest ∧ (t.peer g).st = .discovering ∧ (t.peer g).spineId = pkt.fld 5 31 22 ∧ (t.peer g).lastFrame = s.now ∧ (t.peer g).skew = skew ∧ (t.peer g).rxPower = power)) = true)
      (pl9 [disc] .unknown) 9 255 7 disc [] 4) :=
  by and_intros <;> decide +kernel

theorem wit_PlanesTurnAtTheirInstants :
    ((fun (s : State) =>
      (s.canonical = true)
      ∧ (s.on 5 = true)
      ∧ ((List.range 64).filter s.rotates) ≠ [])
      (linked.setPlane 9 { Plane.init with st := .packet }))
    ∧ ((fun (s : State) at_ =>
      (s.canonical = true)
      ∧ (s.on 5 = true)
      ∧ (leastOf (s.prism.marks.map (·.1)) = some at_)
      ∧ (s.prism.retuneEnd = none))
      marked 500)
    ∧ ((fun (s : State) e =>
      (s.canonical = true)
      ∧ (s.prism.retuneEnd = some e)
      ∧ (s.prism.marks = []))
      (({ (linked.setPort 1033 { Port.init with st := .up }).setPlane 9 { Plane.init with st := .retune, next := .phase 5 } with prism := { Prism.init with retuneEnd := some 700 } } : State)) 700) :=
  by and_intros <;> decide +kernel

theorem test_PlanesTurnAtTheirInstants :
    ((fun (s : State) =>
      gives .slotStart s (fun t => decide (t.prism.slot = some s.nextSlot ∧ t.prism.acked = [] ∧ t.now = max s.now (s.atTb0 (slotStart s.slotNs s.nextSlot)))) = true)
      (linked.setPlane 9 { Plane.init with st := .packet }))
    ∧ ((fun (s : State) e =>
      gives .planeRetuneEnd s (fun t => decide (t.now = max s.now (s.atTb0 e) ∧ t.prism.retuneEnd = none ∧ t.prism.changed = s.retuning ∧ (t.plane 9).st = (s.plane 9).next)) = true)
      (({ (linked.setPort 1033 { Port.init with st := .up }).setPlane 9 { Plane.init with st := .retune, next := .phase 5 } with prism := { Prism.init with retuneEnd := some 700 } } : State)) 700) :=
  by and_intros <;> decide +kernel

theorem wit_PatternTableAnswers :
    ((fun (s : State) =>
      (s.canonical = true)
      ∧ (s.on (regDomain R.OPT_PAT_CMD) = true)
      ∧ (s.tab.pending = none)
      ∧ (patBad (s.rdWords (R.OPT_PAT_DATA 0) 18) = false))
      (up.wrWords (R.OPT_PAT_DATA 0) pat18))
    ∧ ((fun (s : State) e =>
      (s.canonical = true)
      ∧ (s.on (regDomain R.OPT_PAT_CMD) = true)
      ∧ (s.tab.pending = some e))
      ({ up with tab := { up.tab with pending := some 5 } }) 5)
    ∧ ((fun (s : State) (pattern : Fin 256) =>
      (s.canonical = true)
      ∧ (s.on (regDomain R.OPT_PAT_CMD) = true)
      ∧ (Tbl.get (fun _ => patZero) s.prism.patShadow pattern).length = 18)
      ({ up with prism := { Prism.init with patShadow := [(255, pat18)] } }) 255)
    ∧ ((fun (s : State) (pattern : Fin 256) =>
      (s.canonical = true)
      ∧ (s.on (regDomain R.OPT_PAT_CMD) = true)
      ∧ (Tbl.get (fun _ => patZero) s.prism.patActive pattern).length = 18)
      ({ up with prism := { Prism.init with patActive := [(255, pat18)] } }) 255)
    ∧ ((fun (s : State) w =>
      (s.canonical = true)
      ∧ (s.on (regDomain R.OPT_PRISM_GUARD) = true)
      ∧ (s.fld R.OPT_PRISM_CTRL 23 22 ≠ 3)
      ∧ (4 * gPktOf w ≤ slotNsOf (s.fld R.OPT_PRISM_CTRL 23 22)))
      (up.setF R.OPT_PRISM_CTRL 23 22 0) 0x1800)
    ∧ ((fun (s : State) w =>
      (s.canonical = true)
      ∧ (s.on (regDomain R.OPT_PRISM_GUARD) = true)
      ∧ (slotNsOf (s.fld R.OPT_PRISM_CTRL 23 22) < 4 * gPktOf w))
      (up.setF R.OPT_PRISM_CTRL 23 22 0) 0x1900) :=
  by and_intros <;> decide +kernel

theorem test_PatternTableAnswers :
    ((fun (s : State) (pattern : Fin 256) =>
      gives (.patWriteShadow pattern) s (fun t => decide (t.fld R.OPT_PAT_STAT 3 0 = 2 ∧ t.prism = s.prism)) = true)
      ({ up with tab := { up.tab with pending := some 5 } }) 255)
    ∧ ((fun (s : State) (pattern : Fin 256) =>
      gives (.patReadActive pattern) s (fun t => decide (t.fld R.OPT_PAT_STAT 3 0 = 0 ∧ t.prism = s.prism ∧ t.rdWords (R.OPT_PAT_DATA 0) 18 = Tbl.get (fun _ => patZero) s.prism.patActive pattern)) = true)
      ({ up with prism := { Prism.init with patActive := [(255, pat18)] } }) 255) :=
  by and_intros <;> decide +kernel

theorem wit_LasersAreTakenOver :
    ((fun (s : State) (e : Fin 32) (l : Fin 256) =>
      (s.canonical = true)
      ∧ (Tbl.wf laserNew s.optics.lasers = true)
      ∧ (s.on (regDomain R.OPT_LASER_CMD) = true)
      ∧ (laserKnown e l = true))
      linked 17 63)
    ∧ ((fun (s : State) (e : Fin 32) (l : Fin 256) =>
      (s.canonical = true)
      ∧ (Tbl.wf laserNew s.optics.lasers = true)
      ∧ (s.on (regDomain R.OPT_LASER_CMD) = true)
      ∧ (laserKnown e l = false))
      linked 18 0)
    ∧ ((fun (s : State) (e : Fin 32) (l : Fin 256) k lane =>
      (s.canonical = true)
      ∧ (Tbl.wf laserNew s.optics.lasers = true)
      ∧ (s.on (regDomain R.OPT_LASER_CMD) = true)
      ∧ (laserKnown e l = true)
      ∧ (s.laser e l).st = .inService
      ∧ (s.laser e l).lane = some lane
      ∧ (s.spareOf e = some k)
      ∧ (s.maint = []))
      linked 17 63 64 63)
    ∧ ((fun (s : State) (e : Fin 18) (l : Fin 256) x =>
      (s.canonical = true)
      ∧ (Tbl.wf laserNew s.optics.lasers = true)
      ∧ (s.takeoverOf e l = some x)
      ∧ (x.ready = false))
      (lasing id [⟨17, 63, 64, false⟩]) 17 63 (⟨17, 63, 64, false⟩))
    ∧ ((fun (s : State) (e : Fin 18) (l : Fin 256) x =>
      (s.canonical = true)
      ∧ (Tbl.wf laserNew s.optics.lasers = true)
      ∧ (s.takeoverOf e l = some x)
      ∧ (x.ready = false))
      (lasing id [⟨17, 63, 64, false⟩]) 17 63 (⟨17, 63, 64, false⟩))
    ∧ ((fun (s : State) (e : Fin 18) (l : Fin 256) x lane =>
      (s.canonical = true)
      ∧ (Tbl.wf laserNew s.optics.lasers = true)
      ∧ (s.takeoverOf e l = some x)
      ∧ (x.ready = true)
      ∧ (s.laser e l).lane = some lane
      ∧ (x.spare ≠ l)
      ∧ (x.spare < 256))
      (lasing id [⟨17, 63, 64, true⟩]) 17 63 (⟨17, 63, 64, true⟩) 63)
    ∧ ((fun (s : State) (e : Fin 18) (l : Fin 256) lane =>
      (s.canonical = true)
      ∧ (Tbl.wf laserNew s.optics.lasers = true)
      ∧ (s.laser e l).st = .inService
      ∧ (s.laser e l).lane = some lane)
      linked 17 63 63)
    ∧ ((fun (s : State) (e : Fin 18) (l : Fin 256) =>
      (s.canonical = true)
      ∧ (Tbl.wf laserNew s.optics.lasers = true)
      ∧ (laserKnown e l = true))
      linked 17 63) :=
  by and_intros <;> decide +kernel

theorem test_LasersAreTakenOver :
    ((fun (s : State) (e : Fin 32) (l : Fin 256) =>
      gives (.laserRead e l) s (fun t => decide (t.fld R.OPT_LASER_STAT 3 0 = 0 ∧ t.optics = s.optics ∧ t.rdWords (R.OPT_LASER_DATA 0) 4 = (s.laser e l).words)) = true)
      linked 17 63)
    ∧ ((fun (s : State) (e : Fin 32) (l : Fin 256) =>
      gives (.laserRead e l) s (fun t => decide (t.fld R.OPT_LASER_STAT 3 0 = 3 ∧ t.optics = s.optics)) = true)
      linked 18 0) :=
  by and_intros <;> decide +kernel

end Prism

namespace Links

/-- A leaf port 9 and a Prism plane's port 1033. -/
def prt (i : Nat) (p : Port) : State := linked.setPort i p
def train (step : Nat) : Port := { Port.init with st := .training, step := step, los := 0, uid := 9 }
def upP : Port := { Port.init with st := .up, lanesUp := 3, lanesLocked := 3, los := 0, uid := 9, identSeen := true }
def ident (uid w5 : Word) : Packet := pk tyLC_IDENT 0 0 0 0 [0, 0, w5, uid] []

theorem wit_PortsTrainStepByStep :
    ((fun (s : State) (port : Fin 1088) (lane : Fin 2) =>
      (s.canonical = true)
      ∧ (s.port port).st = .training
      ∧ (s.port port).step = 2
      ∧ (s.port port).eth = false
      ∧ (lanesMinus (s.lanesAllowed port) (s.port port).los) &&& 2 ^ lane.val ≠ 0
      ∧ (lanesMinus (s.lanesAllowed port) ((s.port port).lanesLocked ||| 2 ^ lane.val) = 0))
      (prt 9 { train 2 with lanesLocked := 1 }) 9 1)
    ∧ ((fun (s : State) (port : Fin 1088) =>
      (s.canonical = true)
      ∧ (port.val < 1024)
      ∧ (s.port port).st = .training
      ∧ (s.port port).step = 3)
      (prt 9 { train 3 with lanesLocked := 3 }) 9)
    ∧ ((fun (s : State) (port : Fin 1088) =>
      (s.canonical = true)
      ∧ (1024 ≤ port.val)
      ∧ (s.port port).st = .training
      ∧ (s.port port).step = 3)
      (prt 1033 { train 3 with lanesLocked := 3 }) 1033)
    ∧ ((fun (s : State) (port : Fin 1088) =>
      (s.canonical = true)
      ∧ (s.port port).st = .training
      ∧ (2 ≤ (s.port port).step)
      ∧ ((s.port port).step = 2 → (s.port port).lanesLocked = 0))
      (prt 9 (train 2)) 9)
    ∧ ((fun (s : State) (port : Fin 1088) t0 =>
      (s.canonical = true)
      ∧ (s.port port).restUntil = some t0)
      (prt 9 { Port.init with restUntil := some 70 }) 9 70)
    ∧ ((fun (s : State) (port : Fin 1024) pkt rest =>
      (s.canonical = true)
      ∧ (takeLocal tyLC_IDENT (s.port port).llq = some (pkt, rest))
      ∧ (s.port port).st = .training
      ∧ (s.port port).step = 5
      ∧ (pkt.fld 6 31 0 = 0))
      (prt 9 { train 5 with uid := 0, llq := [ident 0 0] }) 9 (ident 0 0) [])
    ∧ ((fun (s : State) (port : Fin 1024) pkt rest =>
      (s.canonical = true)
      ∧ (takeLocal tyLC_IDENT (s.port port).llq = some (pkt, rest))
      ∧ (s.port port).st = .training
      ∧ (s.port port).step = 5
      ∧ (s.setPort port { s.port port with llq := rest }).holdReason port (pkt.fld 6 31 0) (pkt.fld 5 9 6) = 0)
      (prt 9 { train 5 with uid := 0, llq := [ident 77 0x1C0] }) 9 (ident 77 0x1C0) [])
    ∧ ((fun (s : State) (port : Fin 1024) =>
      (s.canonical = true)
      ∧ (s.port port).trained_ = true)
      (prt 9 upP) 9) :=
  by and_intros <;> decide +kernel

theorem test_PortsTrainStepByStep :
    ((fun (s : State) (port : Fin 1088) (lane : Fin 2) =>
      gives (.laneLock port lane) s (fun t => decide (t.port port = { s.port port with lanesLocked := (s.port port).lanesLocked ||| 2 ^ lane.val, step := 3, stepSince := s.now })) = true)
      (prt 9 { train 2 with lanesLocked := 1 }) 9 1)
    ∧ ((fun (s : State) (port : Fin 1088) (req : Fin 65536) (rsp : Fin 65536) (coll : Fin 65536) (bulk : Fin 65536) =>
      gives (.flitLock port req rsp coll bulk) s (fun t => decide (t.port port = { s.port port with lanesUp := (s.port port).lanesLocked, goodFlits := 8, step := 5, stepSince := s.now, lastGood := s.now, rsv := s.grantNow } ∧ (t.link (port * 64)).credits = ⟨req, rsp, coll, bulk⟩ ∧ (t.link (port * 64)).grant = s.grantAt port s.grantNow ∧ (t.link (port * 64)).txNext = 0 ∧ (t.link (port * 64)).replay = [])) = true)
      (prt 9 { train 3 with lanesLocked := 3 }) 9 65535 1 2 3) :=
  by and_intros <;> decide +kernel

theorem wit_LanesLeaveAndRejoin :
    ((fun (s : State) (port : Fin 1088) =>
      (s.canonical = true)
      ∧ (s.port port).trained_ = true
      ∧ (s.port port).lanesUp = 3)
      (prt 9 upP) 9)
    ∧ ((fun (s : State) (port : Fin 1088) =>
      (s.canonical = true)
      ∧ (s.port port).trained_ = true
      ∧ (s.port port).lanesUp = 3
      ∧ (s.losToLink port = true))
      (prt 9 upP) 9)
    ∧ ((fun (s : State) (port : Fin 1088) (lane : Fin 2) =>
      (s.canonical = true)
      ∧ (s.port port).trained_ = true
      ∧ (s.port port).lanesUp &&& 2 ^ lane.val = 0
      ∧ (s.port port).lanesLocked &&& 2 ^ lane.val ≠ 0
      ∧ (lanesMinus (s.lanesAllowed port) (s.port port).los) &&& 2 ^ lane.val ≠ 0)
      (prt 9 { upP with lanesUp := 1 }) 9 1)
    ∧ ((fun (s : State) (port : Fin 1088) (lane : Fin 2) =>
      (s.canonical = true)
      ∧ (s.port port).st = .training
      ∧ (s.port port).step = 1
      ∧ (s.lanesAllowed port &&& 2 ^ lane.val ≠ 0))
      (prt 9 (train 1)) 9 1)
    ∧ ((fun (s : State) (port : Fin 1088) (lane : Fin 2) t0 =>
      (s.canonical = true)
      ∧ (Tbl.get (fun _ => none) s.optics.warnedAt (laneLaser port lane) = some t0)
      ∧ (s.now < t0 + 60000000000))
      ({ linked with optics := { linked.optics with warnedAt := [(laneLaser 9 1, some 5)] } }) 9 1 5)
    ∧ ((fun (s : State) (port : Fin 1088) (lane : Fin 2) =>
      (s.canonical = true)
      ∧ (Tbl.get (fun _ => none) s.optics.warnedAt (laneLaser port lane) = none))
      linked 9 1)
    ∧ ((fun (s : State) (port : Fin 1088) (lane : Fin 2) =>
      (s.canonical = true)
      ∧ (s.port port).overload &&& 2 ^ lane.val = 0
      ∧ (s.port port).trained_ = true
      ∧ (s.port port).lanesUp = 3)
      (prt 9 upP) 9 1)
    ∧ ((fun (s : State) =>
      (s.canonical = true))
      (prt 9 { upP with overload := 3 }))
    ∧ ((fun (s : State) (port : Fin 1088) =>
      (s.canonical = true)
      ∧ (port.val < 1024)
      ∧ (s.port port).trained_ = true
      ∧ (s.fld (R.PL_LINK_CFG (port / 64)) 31 16 ≠ 0)
      ∧ (lanesMinus (s.port port).lanesUp (s.port port).los ≠ 0))
      ((prt 9 upP).setF (R.PL_LINK_CFG 0) 31 16 65535) 9) :=
  by and_intros <;> decide +kernel

theorem test_LanesLeaveAndRejoin :
    ((fun (s : State) (port : Fin 1088) (lane : Fin 2) =>
      gives (.laneFail port lane) s (fun t => decide ((t.port port).lanesUp = 3 - 2 ^ lane.val ∧ (t.port port).st = (s.port port).st ∧ t.count (C.PL_LINK_CNT (port / 64) (port % 64) 6) = (s.count (C.PL_LINK_CNT (port / 64) (port % 64) 6) + 1) % 2 ^ 64)) = true)
      (prt 9 upP) 9 1)
    ∧ ((fun (s : State) (port : Fin 1088) (lane : Fin 2) =>
      gives (.opticalLos port lane) s (fun t => decide ((t.port port).lanesUp = 3 - 2 ^ lane.val ∧ (t.port port).los = (s.port port).los ||| 2 ^ lane.val ∧ (t.port port).st = (s.port port).st ∧ t.count (C.PL_LINK_CNT (port / 64) (port % 64) 6) = (s.count (C.PL_LINK_CNT (port / 64) (port % 64) 6) + 1) % 2 ^ 64)) = true)
      (prt 9 upP) 9 1) :=
  by and_intros <;> decide +kernel

theorem wit_FlitsAreTakenInOrder :
    ((fun (s : State) (port : Fin 1088) (sender : Fin 64) (f : Flit) =>
      (s.canonical = true)
      ∧ (s.hears port = true)
      ∧ (s.port port).trained_ = true
      ∧ (f.good = true)
      ∧ (f.kind = 0)
      ∧ (f.fseq = (s.link (s.linkKey port sender)).rxNext))
      (prt 9 upP) 9 0 (flt [0, 0, 0, 0]))
    ∧ ((fun (s : State) (port : Fin 1088) (sender : Fin 64) (f : Flit) =>
      (s.canonical = true)
      ∧ (s.hears port = true)
      ∧ (s.port port).trained_ = true
      ∧ (f.good = true)
      ∧ (f.kind = 0)
      ∧ (f.fseq ≠ (s.link (s.linkKey port sender)).rxNext)
      ∧ (s.link (s.linkKey port sender)).nakAt = none)
      (prt 9 upP) 9 0 (flt [0, 4, 0, 0]))
    ∧ ((fun (s : State) (port : Fin 1088) (sender : Fin 64) (f : Flit) =>
      (s.canonical = true)
      ∧ (s.hears port = true)
      ∧ (s.port port).trained_ = true
      ∧ (f.good = false)
      ∧ (s.link (s.linkKey port sender)).nakAt = none)
      (prt 9 upP) 9 0 (⟨[0, 0, 0, 0]⟩))
    ∧ ((fun (s : State) (port : Fin 1088) =>
      (s.canonical = true)
      ∧ (s.hears port = true)
      ∧ (s.port port).trained_ = true
      ∧ (1024 ≤ port.val)
      ∧ (s.plane (port - 1024)).st = .packet)
      ((prt 1033 upP).setPlane 9 { Plane.init with st := .packet }) 1033)
    ∧ ((fun (s : State) (port : Fin 1088) (f : Flit) =>
      (s.canonical = true)
      ∧ (s.hears port = true)
      ∧ (s.port port).trained_ = true
      ∧ (port.val < 1024)
      ∧ (f.good = true)
      ∧ (f.kind = 1)
      ∧ (f.nak = false))
      (prt 9 upP) 9 (flt [64, 0, 0, 0, 0, 0, 0, 0, 0, 9]))
    ∧ ((fun (s : State) (port : Fin 1088) (sender : Fin 64) =>
      (s.canonical = true)
      ∧ (port.val < 1024)
      ∧ (s.link (s.linkKey port sender)).replay ≠ []
      ∧ (s.port port).trained_ = true)
      ((prt 9 upP).setLink 576 { Link.init with replay := [⟨[0, 0, 0, 0]⟩], txNext := 1 }) 9 0) :=
  by refine ⟨⟨?_, ?_, ?_, flt_good _ (by decide) (by decide +kernel), ?_, ?_⟩, ⟨?_, ?_, ?_, flt_good _ (by decide) (by decide +kernel), ?_, ?_, ?_⟩, ?_, ?_, ⟨?_, ?_, ?_, ?_, flt_good _ (by decide) (by decide +kernel), ?_, ?_⟩, ?_⟩ <;> and_intros <;> decide +kernel

theorem test_FlitsAreTakenInOrder :
    ((fun (s : State) (port : Fin 1088) (sender : Fin 64) (f : Flit) =>
      gives (.flitReceive port sender false f) s (fun t => decide ((t.link (s.linkKey port sender)).rxNext = (s.link (s.linkKey port sender)).rxNext ∧ t.dp = s.dp ∧ t.ports = s.ports ∧ t.count (C.PL_LINK_CNT (port / 64) (port % 64) 2) = (s.count (C.PL_LINK_CNT (port / 64) (port % 64) 2) + 1) % 2 ^ 64)) = true)
      (prt 9 upP) 9 0 (⟨[0, 0, 0, 0]⟩))
    ∧ ((fun (s : State) (port : Fin 1088) (sender : Fin 64) (f : Flit) =>
      gives (.flitReceive port sender true f) s (fun t => decide (onlyB [.cnt] s t = true ∧ t.count C.OPT_ALIGN_ERR = (s.count C.OPT_ALIGN_ERR + 1) % 2 ^ 64)) = true)
      ((prt 1033 upP).setPlane 9 { Plane.init with st := .packet }) 1033 63 (⟨[0, 0, 0, 0]⟩)) :=
  by and_intros <;> decide +kernel

theorem wit_PortCommandsAct :
    ((fun (s : State) (port : Fin 1088) =>
      (s.canonical = true)
      ∧ (s.on (regDomain (portCtrl port)) = true))
      linked 9)
    ∧ ((fun (s : State) (port : Fin 1088) =>
      (s.canonical = true)
      ∧ (s.on (regDomain (portCtrl port)) = true)
      ∧ (s.fld (portCtrl port) 31 31 = 1)
      ∧ (s.port port).st = .training)
      ((prt 9 (train 2)).setF (portCtrl 9) 31 31 1) 9)
    ∧ ((fun (s : State) (port : Fin 1088) (mask : Fin 4) =>
      (s.canonical = true)
      ∧ (s.on (regDomain (portCtrl port)) = true)
      ∧ (mask ≠ 0))
      (prt 9 upP) 9 2)
    ∧ ((fun (s : State) (port : Fin 1088) =>
      (s.canonical = true)
      ∧ (s.on (regDomain (portCtrl port)) = true)
      ∧ (s.fld (portCtrl port) 30 30 = 0)
      ∧ (s.maint = [])
      ∧ (s.port port).st = .up
      ∧ (s.fld (R.PL_LINK_CFG (port / 64)) 11 0 ≠ 0))
      ((prt 9 upP).setF (R.PL_LINK_CFG 0) 11 0 4095) 9)
    ∧ ((fun (s : State) (port : Fin 1088) t0 =>
      (s.canonical = true)
      ∧ (s.port port).drainEnd = some t0)
      ((prt 9 { upP with st := .draining, drainEnd := some 80 })) 9 80)
    ∧ ((fun (s : State) (port : Fin 1088) =>
      (s.canonical = true)
      ∧ (s.on (regDomain (portCtrl port)) = true)
      ∧ (s.port port).st = .draining)
      ((prt 9 { upP with st := .draining, drainEnd := some 80 })) 9)
    ∧ ((fun (s : State) (port : Fin 1088) =>
      (s.canonical = true)
      ∧ (s.on (regDomain (portCtrl port)) = true))
      (prt 9 upP) 9)
    ∧ ((fun (s : State) (port : Fin 1088) =>
      (s.canonical = true)
      ∧ (s.on (regDomain (portCtrl port)) = true)
      ∧ (s.maint = []))
      ((prt 9 upP).wrWords (R.PL_SHP 0 9 0) [7, 7]) 9) :=
  by and_intros <;> decide +kernel

theorem test_PortCommandsAct :
    ((fun (s : State) (port : Fin 1088) =>
      nextIs (exec (.portEnableWrite port true) s) (((s.setF (portCtrl port) 31 31 1).beginTraining port)) = true)
      linked 9)
    ∧ ((fun (s : State) (port : Fin 1088) =>
      gives (.portEnableWrite port false) s (fun t => decide (t.fld (portCtrl port) 31 31 = 0 ∧ (t.port port).st = .down ∧ (t.out = .laser port false :: s.out))) = true)
      ((prt 9 (train 2)).setF (portCtrl 9) 31 31 1) 9) :=
  by and_intros <;> decide +kernel

theorem wit_DieLinksAndLocksAreGranted :
    ((fun (s : State) (n : Fin 23) =>
      (s.canonical = true)
      ∧ (s.dieLinkUp n = true))
      linked 22)
    ∧ ((fun (s : State) (n : Fin 23) =>
      (s.canonical = true)
      ∧ (s.dieLinkUp n = true))
      linked 22)
    ∧ ((fun (s : State) (n : Fin 23) (wires : Fin 64) =>
      (s.canonical = true)
      ∧ (s.dieLinkUp n = false)
      ∧ (s.on (dieLinkDomain n) = true)
      ∧ (wires.val ≤ 8)
      ∧ (s.tel.isolated = [])
      ∧ (s.xing n).announced = false
      ∧ (s.xing (32 + n)).announced = false)
      up 22 8)
    ∧ ((fun (s : State) (island : Fin 112) n =>
      (s.canonical = true)
      ∧ (s.on (islandDomain island) = true)
      ∧ (s.islandHeld island = false)
      ∧ (s.tel.update = none)
      ∧ (islandLink island = some n)
      ∧ (s.dieLinkUp n = true)
      ∧ (s.xing n).announced = false)
      linked 5 22)
    ∧ ((fun (s : State) a l =>
      (s.canonical = true)
      ∧ (firstGrantable [] s.maint = some (a, l)))
      ({ linked with maint := [(.retrain 9, false)] }) (.retrain 9) ([(.retrain 9, true)])) :=
  by and_intros <;> decide +kernel

theorem test_DieLinksAndLocksAreGranted :
    ((fun (s : State) (n : Fin 23) =>
      nextIs (exec (.dieLinkDown n) s) (((s.dieLinkOff n).dieLinkLost n)) = true)
      linked 22)
    ∧ ((fun (s : State) (n : Fin 23) =>
      (s.dieLinkOff n).fld (R.GLB_D2D_STAT n) 31 31 = 0
      ∧ ((s.dieLinkOff n).xing n).credits = 0
      ∧ ((s.dieLinkOff n).xing (32 + n)).credits = 0)
      linked 22) :=
  by and_intros <;> decide +kernel

end Links

namespace Ether

def ethP : Port := { Port.init with st := .up, lanesUp := 3, eth := true, rsv := ⟨99, 99, 99, 99⟩ }
def eth (s : State) : State := s.setPort 9 ethP
/-- A frame of 64 bytes: destination, source, EtherType, zeros, FCS. -/
def fr (dst src ty : List Byte) : List Byte :=
  let b := dst ++ src ++ ty ++ List.replicate 46 0
  b ++ (fcsOf b).bytesLE
def frA : List Byte := fr [0, 1, 2, 3, 4, 5] [0, 9, 9, 9, 9, 9] [0x08, 0x06]
def parsed (s : State) (bs : List Byte) : EthFrame := parseFrame (s.fld (R.PL_ETH_PVID 0 9) 11 0) bs
def ethOn : State := ((eth linked).setF R.ETH_CTRL 31 31 1).setF R.GLB_FABRIC_ID 31 31 1
def vlanOn : State := { ethOn with tab := { ethOn.tab with vlanActive := [(1, 0x80000000)] } }
def eitem : Item := { item 4 data1 9 with body := .eth (parsed ethOn frA), n := 36, charge := .reserved }
def mac9 : Nat := macKey 0 1 0x000909090909
def tm (st : TimeState) (f : Timing → Timing) (src : Nat) : State :=
  ({ linked with clk := ⟨5000000000, 0, 7, 0⟩, timing := f { linked.timing with st := st } } : State).setF R.TIM_CTRL 31 30 src
def recent16 (t : Timing) : Timing := { t with recent := List.replicate 16 40 }
def ptp (f : Ptp → Ptp) (src : Nat) (st : TimeState) : State := tm st (fun t => { t with ptp := f t.ptp }) src
def pmsg (k : PtpKind) : PtpMsg := ⟨k, 0, 77, 5, 1000, false, 3, 9, true⟩

theorem wit_FramesAreFilteredLearnedAndAged :
    ((fun (s : State) (port : Fin 1024) bytes =>
      (s.canonical = true)
      ∧ (s.port port).eth = true
      ∧ (s.port port).trained_ = true
      ∧ (s.portPowered port = true)
      ∧ (bytes.length < 64))
      (eth linked) 9 (List.replicate 63 0))
    ∧ ((fun (s : State) (port : Fin 1024) bytes =>
      (s.canonical = true)
      ∧ (s.port port).eth = true
      ∧ (s.port port).trained_ = true
      ∧ (s.portPowered port = true)
      ∧ (9216 < bytes.length))
      (eth linked) 9 (List.replicate 9217 0))
    ∧ ((fun (s : State) (port : Fin 1024) bytes =>
      (s.canonical = true)
      ∧ (s.port port).eth = true
      ∧ (s.port port).trained_ = true
      ∧ (s.portPowered port = true)
      ∧ (64 ≤ bytes.length)
      ∧ (bytes.length ≤ 9216)
      ∧ (parseFrame (s.fld (R.PL_ETH_PVID (port / 64) (port % 64)) 11 0) bytes).ethertype = 0x8808)
      (eth linked) 9 (fr [0, 1, 2, 3, 4, 5] [0, 9, 9, 9, 9, 9] [0x88, 0x08]))
    ∧ ((fun (s : State) (port : Fin 1024) bytes f =>
      (s.canonical = true)
      ∧ (s.port port).eth = true
      ∧ (s.port port).trained_ = true
      ∧ (s.portPowered port = true)
      ∧ (64 ≤ bytes.length)
      ∧ (bytes.length ≤ 9216)
      ∧ (f = parseFrame (s.fld (R.PL_ETH_PVID (port / 64) (port % 64)) 11 0) bytes)
      ∧ (f.ethertype ≠ 0x8808)
      ∧ (s.carries = true)
      ∧ (s.inCharged port vcBULK + 36 ≤ (s.port port).rsv.get vcBULK))
      ethOn 9 frA (parsed ethOn frA))
    ∧ ((fun (s : State) (port : Fin 1024) (w : TailWait) (f : EthFrame) =>
      (s.canonical = true)
      ∧ (s.dp.tails.find? (fun x => x.port == port.val) = some w)
      ∧ (w.ok = true)
      ∧ (w.frame = some f)
      ∧ (s.dp.flying = [])
      ∧ (s.fld R.ETH_CTRL 31 31 = 1)
      ∧ (f.bad = false)
      ∧ (macGroup f.src = false)
      ∧ (s.macAt (macKey (port / 64) f.vid f.src) = none)
      ∧ (s.bucketFull (macKey (port / 64) f.vid f.src) = false))
      (({ ethOn with dp := { ethOn.dp with tails := [⟨3, 8, true, none⟩, ⟨4, 9, true, some (parsed ethOn frA)⟩] } } : State)) 9 (⟨4, 9, true, some (parsed ethOn frA)⟩) (parsed ethOn frA))
    ∧ ((fun (s : State) (port : Fin 1024) (w : TailWait) (f : EthFrame) (it : Item) =>
      (s.canonical = true)
      ∧ (s.dp.tails.find? (fun x => x.port == port.val) = some w)
      ∧ (w.ok = true)
      ∧ (w.frame = some f)
      ∧ (s.dp.flying = [])
      ∧ (s.dp.copies w.id = [(0, it)])
      ∧ (it.charge = .reserved)
      ∧ (it.port = port)
      ∧ (it.vc = vcBULK)
      ∧ (cellsOf f.len ≤ it.n)
      ∧ (s.dp.mcLive = [])
      ∧ (s.dp.bankQ = [])
      ∧ (Tbl.wf (fun _ => []) s.dp.rx = true)
      ∧ (Tbl.wf (fun _ => 0) s.dp.inRsv = true))
      (({ ethOn with dp := { Datapath.empty with tails := [⟨4, 9, true, some (parsed ethOn frA)⟩], rx := [(9, [eitem])], inRsv := [(pvKey 9 3, 41)] } } : State)) 9 (⟨4, 9, true, some (parsed ethOn frA)⟩) (parsed ethOn frA) eitem)
    ∧ ((fun (s : State) (f : EthFrame) =>
      (s.canonical = true)
      ∧ (Tbl.get (fun _ => 0) s.tab.vlanActive f.vid).fld 31 31 = 0)
      ethOn (parsed ethOn frA))
    ∧ ((fun (s : State) (f : EthFrame) =>
      (s.canonical = true)
      ∧ (Tbl.get (fun _ => 0) s.tab.vlanActive f.vid).fld 31 31 = 1
      ∧ (f.dst ≠ s.rmac))
      vlanOn (parsed vlanOn frA))
    ∧ ((fun (s : State) =>
      (s.canonical = true)
      ∧ (Tbl.wf (fun _ => none) s.macs = true))
      ({ ethOn with macs := [(mac9, some ⟨false, 65000, 9⟩)] })) :=
  by and_intros <;> decide +kernel

theorem test_FramesAreFilteredLearnedAndAged :
    ((fun (s : State) (port : Fin 1024) bytes =>
      gives (.ethFrameReceive port bytes) s (fun t => decide (onlyB [.cnt, .ports] s t = true ∧ (t.port port).lastGood = s.now ∧ t.count (C.ETH_FILTER 0) = (s.count (C.ETH_FILTER 0) + 1) % 2 ^ 64 ∧ t.count (C.BUF_DROP (drEthFilter - 1)) = (s.count (C.BUF_DROP (drEthFilter - 1)) + 1) % 2 ^ 64)) = true)
      (eth linked) 9 (List.replicate 63 0))
    ∧ ((fun (s : State) (port : Fin 1024) bytes =>
      gives (.ethFrameReceive port bytes) s (fun t => decide (onlyB [.cnt, .ports] s t = true ∧ t.count (C.ETH_FILTER 1) = (s.count (C.ETH_FILTER 1) + 1) % 2 ^ 64)) = true)
      (eth linked) 9 (fr [0, 1, 2, 3, 4, 5] [0, 9, 9, 9, 9, 9] [0x88, 0x08])) :=
  by and_intros <;> decide +kernel

theorem wit_EthernetTablesAreWrittenAndRead :
    ((fun (s : State) (pipe : Fin 16) =>
      (s.canonical = true)
      ∧ (s.on (regDomain R.ETH_CMD) = true)
      ∧ (s.ethData.getD 0 0).fld 29 28 = 0
      ∧ (s.ethData.getD 2 0).fld 15 10 = 0
      ∧ (s.on (pipelineDomain pipe) = true)
      ∧ (s.ethData.getD 0 0).fld 31 31 = 1
      ∧ (s.bucketFull (macKeyOf pipe s.ethData) = false))
      (linked.wrWords (R.ETH_DATA 0) [0xC0FF0001, 5, 0x03FF]) 15)
    ∧ ((fun (s : State) (pipe : Fin 16) =>
      (s.canonical = true)
      ∧ (s.on (regDomain R.ETH_CMD) = true)
      ∧ (s.ethData.getD 0 0).fld 29 28 = 0
      ∧ (s.ethData.getD 2 0).fld 15 10 = 0
      ∧ (s.on (pipelineDomain pipe) = true)
      ∧ (s.ethData.getD 0 0).fld 31 31 = 0
      ∧ (Tbl.wf (fun _ => none) s.macs = true))
      (({ linked with macs := [(macKeyOf 15 [0x00FF0001, 5, 0x03FF], some ⟨false, 1, 9⟩)] } : State).wrWords (R.ETH_DATA 0) [0x00FF0001, 5, 0x03FF]) 15)
    ∧ ((fun (s : State) (v6 : Bool) =>
      (s.canonical = true)
      ∧ (s.on (regDomain R.ETH_CMD) = true)
      ∧ (s.tab.pending = none)
      ∧ (routeOk v6 s.ethData = true)
      ∧ (s.ethData.getD 0 0).fld 31 31 = 1
      ∧ (s.routeShadow v6).length < routeMax v6)
      (linked.wrWords (R.ETH_DATA 0) [0x80200007, 5]) false)
    ∧ ((fun (s : State) =>
      (s.canonical = true)
      ∧ (s.on (regDomain R.ETH_CMD) = true)
      ∧ (s.tab.pending = none)
      ∧ (s.ethData.getD 0 0).fld 29 28 = 0
      ∧ (s.ethData.getD 2 0).fld 31 10 = 0)
      (linked.wrWords (R.ETH_DATA 0) [0x80200007, 5, 6]))
    ∧ ((fun (s : State) (ix : Fin 65536) =>
      (s.canonical = true)
      ∧ (s.on (regDomain R.ETH_CMD) = true)
      ∧ (s.tab.pending = none)
      ∧ (s.ethData.getD 0 0).fld 30 16 = 0
      ∧ (ix.val < 4096))
      (linked.wrWords (R.ETH_DATA 0) [0x80000007, 5, 6]) 4095)
    ∧ ((fun (s : State) (table : Fin 8) =>
      (s.canonical = true)
      ∧ (s.on (regDomain R.ETH_CMD) = true)
      ∧ (1 ≤ table.val)
      ∧ (table.val ≤ 4)
      ∧ (s.tab.pending ≠ none))
      ({ linked with tab := { linked.tab with pending := some 5 } }) 4)
    ∧ ((fun (s : State) (table : Fin 8) =>
      (s.canonical = true)
      ∧ (s.on (regDomain R.ETH_CMD) = true)
      ∧ (5 ≤ table.val))
      linked 5)
    ∧ ((fun (s : State) (ix : Fin 65536) w =>
      (s.canonical = true)
      ∧ (s.on (regDomain R.ETH_CMD) = true)
      ∧ (ix.val < 4096)
      ∧ (Tbl.get (fun _ => 0) s.tab.vlanShadow ix = w))
      ({ linked with tab := { linked.tab with vlanShadow := [(4095, 9)] } }) 4095 9)
    ∧ ((fun (s : State) (ix : Fin 65536) w =>
      (s.canonical = true)
      ∧ (s.on (regDomain R.ETH_CMD) = true)
      ∧ (ix.val < 4096)
      ∧ (Tbl.get (fun _ => 0) s.tab.vlanActive ix = w))
      ({ linked with tab := { linked.tab with vlanActive := [(4095, 9)] } }) 4095 9)
    ∧ ((fun (s : State) (pipe : Fin 16) =>
      (s.canonical = true)
      ∧ (s.on (regDomain R.ETH_CMD) = true)
      ∧ (s.macAt (macKeyOf pipe s.ethData) = none))
      linked 15) :=
  by and_intros <;> decide +kernel

theorem test_EthernetTablesAreWrittenAndRead :
    ((fun (s : State) (pipe : Fin 16) (ix : Fin 65536) =>
      gives (.ethWriteEntry 0 pipe ix) s (fun t => decide (t.fld R.ETH_STAT 3 0 = 0 ∧ t.macAt (macKeyOf pipe s.ethData) = some ⟨(s.ethData.getD 0 0).fld 30 30 == 1, s.stampNow, (s.ethData.getD 2 0).fld 9 0⟩)) = true)
      (linked.wrWords (R.ETH_DATA 0) [0xC0FF0001, 5, 0x03FF]) 15 4095)
    ∧ ((fun (s : State) (table : Fin 8) (pipe : Fin 16) (ix : Fin 65536) =>
      nextIs (exec (.ethWriteEntry table pipe ix) s) ((s.setF R.ETH_STAT 3 0 2)) = true)
      ({ linked with tab := { linked.tab with pending := some 5 } }) 4 15 4095) :=
  by and_intros <;> decide +kernel

theorem wit_TimeStepsOnceAndThenRunsByRate :
    ((fun (s : State) =>
      (s.canonical = true)
      ∧ (0 : Int) ≤ s.clk.now + s.clk.tb0Off
      ∧ (s.timeSrc ≠ 0)
      ∧ (s.timing.st = .unset))
      (tm .unset (id) 1))
    ∧ ((fun (s : State) (o : Int) =>
      (s.canonical = true)
      ∧ (0 : Int) ≤ s.clk.now + s.clk.tb0Off
      ∧ (s.timeSrc ≠ 0)
      ∧ (s.timeSrc ≠ 3)
      ∧ (s.timing.st = .acquiring)
      ∧ (agree16 ((o :: s.timing.recent).take 16) = true))
      (tm .acquiring (recent16) 1) 40)
    ∧ ((fun (s : State) =>
      (s.canonical = true)
      ∧ (0 : Int) ≤ s.clk.now + s.clk.tb0Off
      ∧ (s.timeSrc ≠ 0)
      ∧ (s.timing.st = .locked))
      (tm .locked (id) 1))
    ∧ ((fun (s : State) =>
      (s.canonical = true)
      ∧ (0 : Int) ≤ s.clk.now + s.clk.tb0Off
      ∧ (s.timeSrc ≠ 0)
      ∧ (s.timing.st = .holdover))
      (tm .holdover (recent16) 1))
    ∧ ((fun (s : State) t0 =>
      (s.canonical = true)
      ∧ (0 : Int) ≤ s.clk.now + s.clk.tb0Off
      ∧ (s.timing.lastMeas = some t0)
      ∧ (s.timing.st = .acquiring))
      (tm .acquiring (fun t => { t with lastMeas := some 70 }) 1) 70)
    ∧ ((fun (s : State) t0 =>
      (s.canonical = true)
      ∧ (0 : Int) ≤ s.clk.now + s.clk.tb0Off
      ∧ (s.timing.lastMeas = some t0)
      ∧ (s.timing.st = .locked)
      ∧ (s.timeSrc ≠ 0))
      (tm .locked (fun t => { t with lastMeas := some 70 }) 1) 70)
    ∧ ((fun (s : State) =>
      (s.canonical = true)
      ∧ (0 : Int) ≤ s.clk.now + s.clk.tb0Off
      ∧ (s.timeSrc ≠ 3))
      (tm .unset (fun t => { t with ppsAt := some 4000000000 }) 1))
    ∧ ((fun (s : State) =>
      (s.canonical = true)
      ∧ (0 : Int) ≤ s.clk.now + s.clk.tb0Off
      ∧ (s.timeSrc = 3)
      ∧ (s.timing.setPending = true)
      ∧ (s.timing.st = .acquiring)
      ∧ (agree16 s.timing.recent = true))
      ((tm .acquiring (fun t => { recent16 t with setPending := true }) 3).setF R.TIM_SET_SEC_LO 31 0 99))
    ∧ ((fun (s : State) =>
      (s.canonical = true)
      ∧ (0 : Int) ≤ s.clk.now + s.clk.tb0Off
      ∧ (s.on (regDomain R.TIM_SET_CMD) = true)
      ∧ (s.timing.stepped = false)
      ∧ (s.timeSrc = 0))
      ((tm .unset (id) 0).setF R.TIM_SET_SEC_LO 31 0 99))
    ∧ ((fun (s : State) =>
      (s.canonical = true)
      ∧ (0 : Int) ≤ s.clk.now + s.clk.tb0Off
      ∧ (s.on (regDomain R.TIM_SET_CMD) = true)
      ∧ (s.timing.stepped = false)
      ∧ (s.timeSrc = 3))
      (tm .unset (id) 3))
    ∧ ((fun (s : State) =>
      (s.canonical = true)
      ∧ (0 : Int) ≤ s.clk.now + s.clk.tb0Off
      ∧ (s.on (regDomain R.TIM_SET_CMD) = true)
      ∧ (s.timing.stepped = true))
      (tm .locked (fun t => { t with stepped := true }) 1))
    ∧ ((fun (s : State) (err : Int) =>
      (s.canonical = true)
      ∧ (0 : Int) ≤ s.clk.now + s.clk.tb0Off
      ∧ (0 < err))
      (tm .locked (id) 1) 21) :=
  by and_intros <;> decide +kernel

theorem test_TimeStepsOnceAndThenRunsByRate :
    ((fun (s : State) (o : Int) =>
      gives (.timeMeasurement o) s (fun t => decide (t.timing.st = .acquiring ∧ t.timing.recent = [o] ∧ t.clk = s.clk ∧ t.timing.stepped = s.timing.stepped)) = true)
      (tm .unset (id) 1) 40)
    ∧ ((fun (s : State) (o : Int) =>
      gives (.timeMeasurement o) s (fun t => decide (t.timing.st = .locked ∧ t.timing.stepped = true ∧ t.tb0 = (s.tb0 + o).toNat ∧ t.now = s.now)) = true)
      (tm .acquiring (recent16) 1) 40) :=
  by and_intros <;> decide +kernel

theorem wit_Tb0IsNeverSteppedTwice :
    ((fun (c : Instr) (s : State) (t : State) =>
      (s.tb0Settled = true)
      ∧ (exec c s = .next t))
      .i3cRstdaa (tm .locked (fun t => { t with stepped := true }) 1) ({ tm .locked (fun t => { t with stepped := true }) 1 with i3c := { linked.i3c with dyn := none } }))
    ∧ ((fun (c : Instr) (s : State) (t : State) =>
      (s.tb0Settled = true)
      ∧ (exec c s = .next t)
      ∧ (s.timing.stepped = true)
      ∧ (t.timing.stepped = true))
      .i3cRstdaa (tm .locked (fun t => { t with stepped := true }) 1) ({ tm .locked (fun t => { t with stepped := true }) 1 with i3c := { linked.i3c with dyn := none } })) :=
  by refine ⟨⟨?_, rfl⟩, ⟨?_, rfl, ?_, ?_⟩⟩ <;> and_intros <;> decide +kernel

theorem wit_TimePacketsAndPtp :
    ((fun (s : State) =>
      (s.canonical = true)
      ∧ (s.timing.st = .unset ∨ s.timing.st = .acquiring))
      (tm .unset (id) 1))
    ∧ ((fun (s : State) =>
      (s.canonical = true)
      ∧ (s.timing.st = .locked ∨ s.timing.st = .holdover)
      ∧ (s.fld R.TIM_CTRL 15 0 ≠ 0))
      ((tm .locked (id) 1).setPort 9 { Port.init with st := .up }))
    ∧ ((fun (s : State) (m : PtpMsg) =>
      (s.canonical = true)
      ∧ (s.on 2 = true)
      ∧ (m.domain = min 127 (s.fld R.TIM_CTRL 23 16))
      ∧ (m.kind = .announce)
      ∧ (s.timing.ptp.st = .listening)
      ∧ (s.slaveOnly = true))
      ((ptp (fun p => { p with st := .listening }) 1 .unset).setF R.TIM_CTRL 29 29 1) (pmsg .announce))
    ∧ ((fun (s : State) (m : PtpMsg) =>
      (s.canonical = true)
      ∧ (s.on 2 = true)
      ∧ (m.domain = min 127 (s.fld R.TIM_CTRL 23 16))
      ∧ (m.kind = .announce)
      ∧ (s.timing.ptp.st = .slave)
      ∧ (m.source ≠ s.timing.ptp.source)
      ∧ (m.rank < s.timing.ptp.rank))
      (ptp (fun p => { p with st := .slave, source := 5, rank := 10 }) 1 .unset) (pmsg .announce))
    ∧ ((fun (s : State) (m : PtpMsg) =>
      (s.canonical = true)
      ∧ (s.on 2 = true)
      ∧ (m.domain = min 127 (s.fld R.TIM_CTRL 23 16))
      ∧ (m.kind = .sync)
      ∧ (m.twoStep = false)
      ∧ (s.timing.ptp.st = .slave)
      ∧ (m.source = s.timing.ptp.source))
      (ptp (fun p => { p with st := .slave, source := 77 }) 1 .unset) (pmsg .sync))
    ∧ ((fun (s : State) (m : PtpMsg) x =>
      (s.canonical = true)
      ∧ (s.on 2 = true)
      ∧ (m.domain = min 127 (s.fld R.TIM_CTRL 23 16))
      ∧ (m.kind = .followUp)
      ∧ (s.timing.ptp.st = .slave)
      ∧ (m.source = s.timing.ptp.source)
      ∧ (m.seq = s.timing.ptp.syncSeq)
      ∧ (s.timing.ptp.t2 = some x))
      (ptp (fun p => { p with st := .slave, source := 77, syncSeq := 5, t2 := some 4 }) 1 .unset) (pmsg .followUp) 4)
    ∧ ((fun (s : State) (m : PtpMsg) t1 t2 t3 =>
      (s.canonical = true)
      ∧ (s.on 2 = true)
      ∧ (m.domain = min 127 (s.fld R.TIM_CTRL 23 16))
      ∧ (m.kind = .delayResp)
      ∧ (s.timing.ptp.st = .slave)
      ∧ (m.source = s.timing.ptp.source)
      ∧ (m.seq = s.timing.ptp.reqSeq)
      ∧ (m.mine = true)
      ∧ (s.timing.ptp.t1 = some t1)
      ∧ (s.timing.ptp.t2 = some t2)
      ∧ (s.timing.ptp.t3 = some t3)
      ∧ (s.timeSrc = 1)
      ∧ (s.timing.st = .unset))
      (ptp (fun p => { p with st := .slave, source := 77, reqSeq := 5, t1 := some 4, t2 := some 400, t3 := some 500 }) 1 .unset) (pmsg .delayResp) 4 400 500)
    ∧ ((fun (s : State) (m : PtpMsg) =>
      (s.canonical = true)
      ∧ (s.on 2 = true)
      ∧ (m.domain = min 127 (s.fld R.TIM_CTRL 23 16))
      ∧ (m.kind = .delayReq)
      ∧ (s.timing.ptp.st = .master))
      (ptp (fun p => { p with st := .master }) 1 .unset) (pmsg .delayReq))
    ∧ ((fun (s : State) =>
      (s.canonical = true)
      ∧ (s.on 2 = true)
      ∧ (s.timing.ptp.st ≠ .master))
      (ptp (fun p => { p with st := .slave }) 1 .unset))
    ∧ ((fun (s : State) =>
      (s.canonical = true)
      ∧ (s.on 2 = true)
      ∧ (s.timing.ptp.st = .master))
      (ptp (fun p => { p with st := .master, seq := 65535 }) 1 .unset))
    ∧ ((fun (s : State) t1 =>
      (s.canonical = true)
      ∧ (s.on 2 = true)
      ∧ (s.timing.ptp.st = .slave)
      ∧ (s.timing.ptp.t1 = some t1))
      (ptp (fun p => { p with st := .slave, t1 := some 4 }) 1 .unset) 4) :=
  by and_intros <;> decide +kernel

theorem test_TimePacketsAndPtp :
    ((fun (s : State) =>
      nextIs (exec .timePacketTimer s) (s) = true)
      (tm .unset (id) 1))
    ∧ ((fun (s : State) =>
      gives .timePacketTimer s (fun t => decide (onlyB [.cnt, .out] s t = true ∧ t.out = (s.timePorts.map (fun p => Out.linkLocal p s.timePacket)).reverse ++ s.out)) = true)
      ((tm .locked (id) 1).setPort 9 { Port.init with st := .up })) :=
  by and_intros <;> decide +kernel

end Ether

namespace HostRings

/-- Host ring 15 running, the link up. -/
def hostUp (f : HostLink → HostLink) (g : HostRing → HostRing) : State :=
  let s := ({ linked with host := f { linked.host with up := true, lanes := 8 } } : State)
  ((s.setRing 15 (g { HostRing.init with st := .running })).setF (R.HLK_CR_CFG 15) 30 26 6).setF (R.HLK_CR_CFG 15) 25 21 4
def dsc (op : Nat) (len : Nat) (st : DescState) : Desc :=
  { idx := 7, words := [BitVec.ofNat 32 (op * 2 ^ 24), 5, 0, 4096, 0, 8192, BitVec.ofNat 32 len] ++ List.replicate 9 0, st := st,
    pieces := [], asked := 0, parts := [] }
def withD (d : Desc) : State := hostUp id (fun g => { g with descs := [d] })
def rd (tag : Nat) (u : ReadFor) : HostRead := ⟨tag, u, 4096, 64⟩
def evUp (l : List EvRec) (lost : Nat) : State :=
  ({ hostUp (fun h => { h with evRing := { AuxRing.init with st := .running } }) id with evq := l, evLost := lost } : State).setF
    R.HLK_EV_CFG 30 26 8
def ev1 : EvRec := ⟨0x0101, 1, 2, 3, 4, 5, 6, 1, 7, 8⟩

theorem wit_HostLinkGoesDownAndReturns :
    ((fun (s : State) =>
      (s.canonical = true)
      ∧ (s.host.up = true))
      (hostUp (fun h => { h with reads := [rd 5 .doorbell, rd 6 (.data 15 7 0)] }) id))
    ∧ ((fun (s : State) =>
      (s.canonical = true)
      ∧ (s.host.up = false))
      linked)
    ∧ ((fun (s : State) (lanes : Fin 256) =>
      (s.canonical = true)
      ∧ (s.on 2 = true)
      ∧ (lanes ≠ 0)
      ∧ (s.host.up = false)
      ∧ (s.host.voided = [])
      ∧ (s.host.pageRead = false))
      ({ linked with host := { (hostUp id (fun g => { g with descs := [dsc 0 0 .fetched] })).host with up := false, owed := [.interrupt 5] } }) 255)
    ∧ ((fun (s : State) =>
      (s.canonical = true)
      ∧ (s.on 2 = true)
      ∧ (s.host.up = true)
      ∧ (s.host.pageRead = false))
      (hostUp id id))
    ∧ ((fun (s : State) =>
      (s.canonical = true)
      ∧ (s.on 2 = true)
      ∧ (s.host.up = true)
      ∧ (s.host.pageRead = true))
      (hostUp (fun h => { h with pageRead := true }) id))
    ∧ ((fun (s : State) =>
      (s.canonical = true)
      ∧ (s.host.up = true)
      ∧ (s.fld R.HLK_CTRL 15 0 ≠ 0)
      ∧ (s.host.pageRead = false))
      ((hostUp id id).setF R.HLK_CTRL 15 0 5))
    ∧ ((fun (s : State) (status : Fin 3) =>
      (s.canonical = true)
      ∧ (s.host.pageRead = true)
      ∧ (s.host.pagePending = false)
      ∧ (status ≠ 0))
      (hostUp (fun h => { h with pageRead := true }) id) 2)
    ∧ ((fun (s : State) =>
      (s.canonical = true)
      ∧ (s.host.pageRead = true))
      (hostUp (fun h => { h with pageRead := true }) id)) :=
  by and_intros <;> decide +kernel

theorem test_HostLinkGoesDownAndReturns :
    ((fun (s : State) =>
      gives .hostLinkDown s (fun t => decide (t.host.up = false ∧ t.host.lanes = 0 ∧ t.host.reads = [] ∧ t.host.voided = s.host.voided ++ s.host.reads.filter (fun x => match x.use with | .data _ _ _ => true | _ => false) ∧ t.host.rings = s.host.rings ∧ t.out = s.out)) = true)
      (hostUp (fun h => { h with reads := [rd 5 .doorbell, rd 6 (.data 15 7 0)] }) id))
    ∧ ((fun (s : State) =>
      nextIs (exec .hostLinkDown s) (s) = true)
      linked) :=
  by and_intros <;> decide +kernel

theorem wit_DescriptorsRunInRingOrder :
    ((fun (s : State) (r : Fin 16) (tag : Fin 4096) tg idx addr len words d =>
      (s.canonical = true)
      ∧ (s.host.reads.find? (fun x => x.tag == tag.val) = some ⟨tg, .descriptor r idx, addr, len⟩)
      ∧ (s.ring r).st = .running
      ∧ (s.ring r).stopping = false
      ∧ (s.ring r).descs = []
      ∧ (s.ring r).fetch = (s.ring r).pi
      ∧ (words.length = 16)
      ∧ (d = ({ idx := idx, words := words, st := .fetched, pieces := [], asked := 0, parts := [] } : Desc))
      ∧ (d.legal = true))
      (hostUp (fun h => { h with reads := [rd 4095 (.descriptor 15 7)] }) id) 15 4095 4095 7 4096 64 ((dsc 1 48 .fetched).words) (dsc 1 48 .fetched))
    ∧ ((fun (s : State) (r : Fin 16) (tag : Fin 4096) tg idx addr len words d =>
      (s.canonical = true)
      ∧ (s.host.reads.find? (fun x => x.tag == tag.val) = some ⟨tg, .descriptor r idx, addr, len⟩)
      ∧ (s.ring r).st = .running
      ∧ (s.ring r).stopping = false
      ∧ (s.ring r).descs = []
      ∧ (s.ring r).fetch = (s.ring r).pi
      ∧ (words.length = 16)
      ∧ (s.host.up = true)
      ∧ (d = ({ idx := idx, words := words, st := .fetched, pieces := [], asked := 0, parts := [] } : Desc))
      ∧ (d.legal = false)
      ∧ ((s.ring r).cqPi + 2 ^ 32 - (s.ring r).cqCi) % 2 ^ 32 < 2 ^ s.fld (R.HLK_CR_CFG r) 25 21)
      (hostUp (fun h => { h with reads := [rd 4095 (.descriptor 15 7)] }) id) 15 4095 4095 7 4096 64 ((dsc 1 47 .fetched).words) (dsc 1 47 .fetched))
    ∧ ((fun (s : State) (r : Fin 16) d =>
      (s.canonical = true)
      ∧ (s.ring r).descs = [d]
      ∧ (s.startable r = some d)
      ∧ (d.fails = none)
      ∧ (d.opcode = 0))
      (withD (dsc 0 0 .fetched)) 15 (dsc 0 0 .fetched))
    ∧ ((fun (s : State) (r : Fin 16) d =>
      (s.canonical = true)
      ∧ (s.ring r).descs = [d]
      ∧ (s.startable r = some d)
      ∧ (d.fails = none)
      ∧ (d.opcode = 1)
      ∧ (d.asked = 0)
      ∧ (d.length ≠ 0)
      ∧ (d.length ≤ 4096 - d.haddr % 4096)
      ∧ (s.host.reads.length < 4096))
      (withD (dsc 1 48 .fetched)) 15 (dsc 1 48 .fetched))
    ∧ ((fun (s : State) (r : Fin 16) d =>
      (s.canonical = true)
      ∧ (s.ring r).descs = [d]
      ∧ (s.startable r = some d)
      ∧ (d.fails = none)
      ∧ (d.opcode = 2)
      ∧ (d.length ≠ 0))
      (withD (dsc 2 48 .fetched)) 15 (dsc 2 48 .fetched))
    ∧ ((fun (s : State) (r : Fin 16) d =>
      (s.canonical = true)
      ∧ (s.ring r).descs = [d]
      ∧ (s.startable r = some d)
      ∧ (d.fails = none)
      ∧ (d.opcode = 0x10)
      ∧ (d.length ≠ 0)
      ∧ (d.length ≤ 4096 - d.faddr % 4096)
      ∧ (s.req.out.filter (fun r => r.origin == 0)).length < 32768)
      (withD (dsc 16 4 .fetched)) 15 (dsc 16 4 .fetched))
    ∧ ((fun (s : State) (r : Fin 16) d =>
      (s.canonical = true)
      ∧ (s.ring r).descs = [d]
      ∧ (s.startable r = some d)
      ∧ (d.fails = none)
      ∧ (d.opcode = 0x11)
      ∧ (d.asked = 0)
      ∧ (d.length ≠ 0)
      ∧ (d.length ≤ 4096 - d.faddr % 4096)
      ∧ (d.length ≤ 4096 - d.haddr % 4096)
      ∧ (s.host.reads.length < 4096))
      (withD (dsc 17 4 .fetched)) 15 (dsc 17 4 .fetched))
    ∧ ((fun (s : State) (r : Fin 16) d =>
      (s.canonical = true)
      ∧ (s.ring r).descs = [d]
      ∧ (s.startable r = some d)
      ∧ (d.fails = none)
      ∧ (d.opcode = 0x12)
      ∧ (d.length ≠ 0)
      ∧ (s.req.out.filter (fun r => r.origin == 0)).length < 32768)
      (withD (dsc 18 4 .fetched)) 15 (dsc 18 4 .fetched))
    ∧ ((fun (s : State) (r : Fin 16) (tag : Fin 4096) (status : Fin 3) tg idx off addr len d =>
      (s.canonical = true)
      ∧ (s.host.reads.find? (fun x => x.tag == tag.val) = some ⟨tg, .data r idx off, addr, len⟩)
      ∧ (status ≠ 0)
      ∧ (s.ring r).st = .running
      ∧ (s.ring r).stopping = false
      ∧ (s.ring r).descs = [d]
      ∧ (d.idx = idx)
      ∧ (d.st = .started)
      ∧ (d.opcode = 1))
      (hostUp (fun h => { h with reads := [rd 4095 (.data 15 7 0)] }) (fun g => { g with descs := [{ dsc 1 48 .started with asked := 48 }] })) 15 4095 1 4095 7 0 4096 64 ({ dsc 1 48 .started with asked := 48 })) :=
  by and_intros <;> decide +kernel

theorem test_DescriptorsRunInRingOrder :
    ((fun (s : State) (r : Fin 16) (tag : Fin 4096) words d =>
      gives (.descriptorFetch tag 0 words) s (fun t => decide ((t.ring r).descs = [d] ∧ (t.ring r).ci = (s.ring r).ci ∧ t.host.reads = s.host.reads.filter (fun x => x.tag != tag.val) ∧ t.out = s.out)) = true)
      (hostUp (fun h => { h with reads := [rd 4095 (.descriptor 15 7)] }) id) 15 4095 ((dsc 1 48 .fetched).words) (dsc 1 48 .fetched))
    ∧ ((fun (s : State) (r : Fin 16) (tag : Fin 4096) words =>
      gives (.descriptorFetch tag 0 words) s (fun t => decide ((t.ring r).descs = [] ∧ onlyB [.host, .cnt, .out] s t = true ∧ (t.ring r).ci = ((s.ring r).ci + 1) % 2 ^ 32 ∧ (t.ring r).cqPi = ((s.ring r).cqPi + 1) % 2 ^ 32 ∧ t.host.buffers = s.host.buffers)) = true)
      (hostUp (fun h => { h with reads := [rd 4095 (.descriptor 15 7)] }) id) 15 4095 ((dsc 1 47 .fetched).words)) :=
  by and_intros <;> decide +kernel

theorem wit_RingsStartStopAndDeliver :
    ((fun (s : State) (r : Fin 16) (w : Word) =>
      (s.canonical = true)
      ∧ (s.on (regDomain (R.HLK_CR_CFG r)) = true)
      ∧ (ringSizes (w.setFld 31 31 1) = true)
      ∧ (s.ring r).st = .disabled
      ∧ (s.ring r).stopping = false
      ∧ (s.host.up = true))
      ({ linked with host := { linked.host with up := true } }) 15 0x98800000)
    ∧ ((fun (s : State) (r : Fin 16) (w : Word) =>
      (s.canonical = true)
      ∧ (s.on (regDomain (R.HLK_CR_CFG r)) = true)
      ∧ (ringSizes (w.setFld 31 31 1) = false))
      linked 15 0x94800000)
    ∧ ((fun (s : State) (r : Fin 16) =>
      (s.canonical = true)
      ∧ (s.on (regDomain (R.HLK_CR_CFG r)) = true)
      ∧ (s.ring r).st = .running
      ∧ (∀ d, d ∈ (s.ring r).descs → d.st = .fetched)
      ∧ (∀ b, b ∈ s.host.buffers → b.ring ≠ r.val)
      ∧ (Tbl.wf (fun _ => HostRing.init) s.host.rings = true))
      (hostUp id id) 15)
    ∧ ((fun (s : State) (tel : Bool) (w : Word) =>
      (s.canonical = true)
      ∧ (s.on (regDomain (auxCfg tel)) = true)
      ∧ (w.fld 31 31 = 1)
      ∧ (w.fld 30 26 ≤ 16)
      ∧ (if tel then 4 else 8) ≤ w.fld 30 26
      ∧ (s.aux tel).st = .disabled
      ∧ (s.host.up = true))
      ({ linked with host := { linked.host with up := true } }) false 0xA0000000)
    ∧ ((fun (s : State) (r : Fin 18) =>
      (s.canonical = true)
      ∧ (r.val < 16)
      ∧ (s.ring r).deferred = true)
      (hostUp id (fun g => { g with deferred := true })) 15)
    ∧ ((fun (s : State) =>
      (s.canonical = true)
      ∧ (s.host.evRing.deferred = true))
      (hostUp (fun h => { h with evRing := { AuxRing.init with deferred := true } }) id))
    ∧ ((fun (s : State) e l =>
      (s.canonical = true)
      ∧ (s.evq = e :: l)
      ∧ (s.on 2 = true)
      ∧ (s.host.up = true)
      ∧ (s.auxRoom false = true)
      ∧ (s.evLost = 0))
      (evUp [ev1, ev1] 0) ev1 ([ev1]))
    ∧ ((fun (s : State) e =>
      (s.canonical = true)
      ∧ (s.evq = [e])
      ∧ (s.on 2 = true)
      ∧ (s.host.up = true)
      ∧ (s.auxRoom false = true)
      ∧ (s.evLost ≠ 0))
      (evUp [ev1] 3) ev1)
    ∧ ((fun (s : State) =>
      (s.canonical = true)
      ∧ (s.evq = [] ∨ s.host.up = false))
      linked) :=
  by and_intros <;> decide +kernel

theorem test_RingsStartStopAndDeliver :
    ((fun (s : State) (r : Fin 16) w =>
      gives (.hostRingEnable r w) s (fun t => decide (t.ring r = { HostRing.init with st := .running, lastInt := (s.ring r).lastInt } ∧ t.fld (R.HLK_CR_CFG r) 31 31 = 1 ∧ t.out = .host (.data (s.statusPage + 64 + 4 * r) [0, 0, 0, 0]) :: .host (.data (s.statusPage + 4 * r) [0, 0, 0, 0]) :: s.out)) = true)
      ({ linked with host := { linked.host with up := true } }) 15 0x98800000)
    ∧ ((fun (s : State) (r : Fin 16) w =>
      nextIs (exec (.hostRingEnable r w) s) (s) = true)
      linked 15 0x94800000) :=
  by and_intros <;> decide +kernel

end HostRings

namespace Power

def dom (n : Nat) (st : DomState) : State := { linked with dom := Tbl.put (fun _ => .off) linked.dom n st }
def volts (l : List Nat) : State := { linked with pwr := { linked.pwr with samples := l }, boot := { linked.boot with waiting := false } }
def lvl1 : State := ({ linked with pwr := { linked.pwr with dwell := [(1, some 70)] } } : State).setF R.PWR_SUPPLY_STAT 15 13 1

theorem wit_DomainsTurnOnAndOff :
    ((fun (s : State) (n : Fin 32) =>
      (s.canonical = true)
      ∧ (s.pwr.ops = [])
      ∧ (s.pwr.bootDue = false)
      ∧ (domKnown n = true)
      ∧ (s.domSt n = .off)
      ∧ (∀ g, g ∈ requiresAny n → ∃ a, a ∈ g ∧ s.on a = true)
      ∧ (s.forcedDom n = none)
      ∧ (s.inTransit n = false)
      ∧ (s.tel.isolated = [])
      ∧ (s.pwr.coldOn = none))
      (dom 20 .off) 20)
    ∧ ((fun (s : State) (n : Fin 32) =>
      (s.canonical = true)
      ∧ (s.pwr.ops = [])
      ∧ (s.pwr.bootDue = false)
      ∧ (domKnown n = true)
      ∧ (s.on n = true))
      linked 20)
    ∧ ((fun (s : State) (n : Fin 32) =>
      (s.canonical = true)
      ∧ (s.pwr.ops = [])
      ∧ (s.pwr.bootDue = false)
      ∧ (domKnown n = true)
      ∧ (s.on n = false)
      ∧ (s.forcedDom n ≠ none))
      ((dom 20 .off).setF R.PWR_SUPPLY_STAT 15 13 2) 20)
    ∧ ((fun (s : State) (n : Fin 32) =>
      (s.canonical = true)
      ∧ (s.pwr.ops = [])
      ∧ (s.pwr.bootDue = false)
      ∧ (domKnown n = true)
      ∧ (s.domSt n = .on)
      ∧ (s.nextDown n = n)
      ∧ (grantable s.maint (.domain n .off) = true))
      linked 20)
    ∧ ((fun (s : State) (n : Fin 32) =>
      (s.canonical = true)
      ∧ (s.pwr.ops = [])
      ∧ (s.pwr.bootDue = false)
      ∧ (domKnown n = true)
      ∧ (retainable n = true)
      ∧ (s.domSt n = .on)
      ∧ (s.nextDown n = n)
      ∧ (grantable s.maint (.domain n .retention) = true))
      linked 20)
    ∧ ((fun (s : State) (n : Fin 32) =>
      (s.canonical = true)
      ∧ (s.pwr.ops = [])
      ∧ (s.pwr.bootDue = false)
      ∧ (domKnown n = true)
      ∧ (retainable n = false))
      linked 2)
    ∧ ((fun (s : State) (n : Fin 32) g =>
      (s.canonical = true)
      ∧ (s.pwr.ops = [])
      ∧ (s.pwr.bootDue = false)
      ∧ (s.pwr.going.find? (fun g => g.n == n.val) = some g)
      ∧ (s.enginesQuiet n = true)
      ∧ (s.entriesIn n = []))
      (({ dom 20 .draining with pwr := { linked.pwr with going := [⟨20, .off, 70⟩] } } : State)) 20 (⟨20, .off, 70⟩))
    ∧ ((fun (s : State) (n : Fin 32) =>
      (s.canonical = true)
      ∧ (s.pwr.ops = [])
      ∧ (s.pwr.bootDue = false)
      ∧ (s.domSt n = .turningOn))
      (({ dom 20 .turningOn with pwr := { linked.pwr with coldOn := some 20 } } : State)) 20) :=
  by and_intros <;> decide +kernel

theorem test_DomainsTurnOnAndOff :
    ((fun (s : State) (n : Fin 32) =>
      gives (.domainOn n) s (fun t => decide (t.domSt n = .turningOn ∧ t.pwr.coldOn = some n.val ∧ t.fld (R.PWR_DOM_STAT (n - 1)) 3 0 = 0)) = true)
      (dom 20 .off) 20)
    ∧ ((fun (s : State) (n : Fin 32) =>
      nextIs (exec (.domainOn n) s) ((s.setF (R.PWR_DOM_STAT (n - 1)) 3 0 0)) = true)
      linked 20) :=
  by and_intros <;> decide +kernel

theorem wit_SupplyLevelsAndMStates :
    ((fun (s : State) (v : Fin 65536) l =>
      (s.canonical = true)
      ∧ (l = (v.val :: s.pwr.samples).take 100)
      ∧ (s.on 1 = true)
      ∧ (4000 * l.length ≤ l.sum)
      ∧ (l.sum ≤ 6000 * l.length)
      ∧ (s.boot.waiting = false)
      ∧ (∀ n : Nat, n < 6 → below l (levelThreshold n) = true → below s.pwr.samples (levelThreshold n) = true))
      (volts [5400]) 5500 ([5500, 5400]))
    ∧ ((fun (s : State) (v : Fin 65536) l =>
      (s.canonical = true)
      ∧ (l = (v.val :: s.pwr.samples).take 100)
      ∧ (s.on 1 = true)
      ∧ (l.sum < 4000 * l.length))
      (volts [2000]) 5500 ([5500, 2000]))
    ∧ ((fun (s : State) (v : Fin 65536) l =>
      (s.canonical = true)
      ∧ (l = (v.val :: s.pwr.samples).take 100)
      ∧ (s.on 1 = true)
      ∧ (l.sum < 5000 * l.length)
      ∧ (4800 * l.length ≤ l.sum)
      ∧ (s.pwr.samples ≠ [])
      ∧ (below s.pwr.samples 5000 = false)
      ∧ (s.boot.waiting = false)
      ∧ (s.level = 0)
      ∧ (s.fld R.PWR_MSTATE 31 30 = 0)
      ∧ (s.pwr.m3 = false)
      ∧ (s.wd = none)
      ∧ (s.pwr.shed = [])
      ∧ (s.pwr.held = []))
      (volts [5000]) 4990 ([4990, 5000]))
    ∧ ((fun (s : State) t0 =>
      (s.canonical = true)
      ∧ (s.level = 1)
      ∧ (Tbl.get (fun _ => none) s.pwr.dwell 1 = some t0)
      ∧ (s.fld R.PWR_MSTATE 31 30 = 0)
      ∧ (s.pwr.m3 = false)
      ∧ (s.wd = none)
      ∧ (s.pwr.shed = [])
      ∧ (s.pwr.held = []))
      lvl1 70)
    ∧ ((fun (s : State) =>
      (s.canonical = true))
      ((linked.setF R.PWR_SUPPLY_LOG 30 28 5).setF R.PWR_SUPPLY_LOG 15 0 9))
    ∧ ((fun (s : State) =>
      (s.canonical = true)
      ∧ (s.level = 0)
      ∧ (s.pwr.m3 = false)
      ∧ (s.wd = none)
      ∧ (s.pwr.shed = [])
      ∧ (s.pwr.held = []))
      linked)
    ∧ ((fun (s : State) =>
      (s.canonical = true)
      ∧ (s.level < 5)
      ∧ (s.pwr.m3 = false)
      ∧ (s.wd = none))
      lvl1)
    ∧ ((fun (s : State) t0 =>
      (s.canonical = true)
      ∧ (s.pwr.wakeAt = some t0)
      ∧ (s.level = 0)
      ∧ (s.pwr.m3 = true))
      ({ linked with pwr := { linked.pwr with wakeAt := some 70, m3 := true } }) 70)
    ∧ ((fun (s : State) (i : Fin 112) =>
      (s.canonical = true)
      ∧ (s.works (islandDomain i) = true)
      ∧ (s.pwr.stretched.contains i.val = false))
      linked 111)
    ∧ ((fun (s : State) =>
      (s.canonical = true))
      ({ linked with pwr := { linked.pwr with stretched := [5, 111] } })) :=
  by and_intros <;> decide +kernel

theorem test_SupplyLevelsAndMStates :
    ((fun (s : State) (v : Fin 65536) (watts : Fin 65536) l =>
      gives (.supplySample v watts) s (fun t => decide (t.pwr.samples = l ∧ t.pwr.watts = watts ∧ t.fld R.PWR_SUPPLY_STAT 31 16 = l.sum / l.length ∧ t.level = s.level ∧ t.dom = s.dom)) = true)
      (volts [5400]) 5500 65535 ([5500, 5400]))
    ∧ ((fun (s : State) (v : Fin 65536) (watts : Fin 65536) =>
      gives (.supplySample v watts) s (fun t => decide (t.dom = [] ∧ t.boot.waiting = true ∧ t.boot.kind = 0 ∧ t.homes = [] ∧ t.dp = State.reset.dp)) = true)
      (volts [2000]) 5500 65535) :=
  by and_intros <;> decide +kernel

theorem wit_HeatThrottlesAndTrips :
    ((fun (s : State) (core : Int) (hub : Int) (dies : List Int) (stackList : List Int) (sites : List Int) =>
      (s.canonical = true)
      ∧ (s.on 1 = true)
      ∧ (s.boot.tripped = [])
      ∧ (s.takeTemps core hub dies stackList sites).tripsAt 0 = [])
      linked 500 400 ([951, 0, 1000, 500]) ([400]) ([250]))
    ∧ ((fun (s : State) (core : Int) (hub : Int) (dies : List Int) (stackList : List Int) (sites : List Int) x =>
      (s.canonical = true)
      ∧ (s.on 1 = true)
      ∧ (x ∈ (s.takeTemps core hub dies stackList sites).tripsAt 0)
      ∧ (s.boot.waiting = false))
      (volts []) 1100 400 ([951, 0, 1000, 500]) ([400]) ([250]) 0) :=
  by and_intros <;> decide +kernel

theorem test_HeatThrottlesAndTrips :
    ((fun (s : State) (core : Int) (hub : Int) (dies : List Int) (stackList : List Int) (sites : List Int) =>
      gives (.thermalSample core hub dies stackList sites) s (fun t => decide (t.pwr.coreTemp = core ∧ t.pwr.hubTemp = hub ∧ t.dom = s.dom ∧ t.boot.waiting = s.boot.waiting ∧ t.fld (R.PWR_DIE_THERM 0) 23 22 = 2 ∧ t.fld (R.PWR_DIE_THERM 0) 21 15 ≤ 50)) = true)
      linked 500 400 ([951, 0, 1000, 500]) ([400]) ([250]))
    ∧ ((fun (s : State) (core : Int) (hub : Int) (dies : List Int) (stackList : List Int) (sites : List Int) x =>
      gives (.thermalSample core hub dies stackList sites) s (fun t => decide (t.dom = [(1, .on)] ∧ t.boot.cause = 2 ∧ t.boot.waiting = true ∧ x ∈ t.boot.tripped)) = true)
      (volts []) 1100 400 ([951, 0, 1000, 500]) ([400]) ([250]) 0) :=
  by and_intros <;> decide +kernel

end Power

namespace Health

def tele (f : Telemetry → Telemetry) : State := { linked with tel := f linked.tel }
def snap1 (causes : List (Nat × Option Nat)) : Snap := ⟨4000, 0, 3, [], [], [], [], [], 0, [], [], causes, 0⟩
def sideb (f : I3c → I3c) : State := { linked with i3c := f linked.i3c }
def part1 (k : Nat) (p : Part) : State := linked.setPart k p
def upd7 (sw : Option Nat) : State :=
  let s := linked.setF R.TEL_UCODE_STAT 31 31 1
  { s with tel := { s.tel with update := some ⟨7, 1, none, sw⟩ } }
def upd7d : State :=
  let s := linked.setF R.TEL_UCODE_STAT 31 31 1
  { s with tel := { s.tel with update := some ⟨7, 1, some 70, none⟩ } }
def dl22 (s : State) : State := s.setF (R.GLB_D2D_STAT 22) 31 31 0
def img : ImageCheck := ⟨true, true, 4096, 5, true, true, false, [], false, true, [], []⟩
def viol : Violation := ⟨4, 0x10, 111, 9⟩
def noTel : State := linked.setF R.TEL_HEALTH_CFG 31 28 0
def assigned : State := linked.wr R.GLB_FABRIC_ID 0xC0050007
def fdef : FieldDef := ⟨"X", 7, 4, .w1c, 0⟩

theorem wit_SnapshotsAreTakenAndPublished :
    ((fun (s : State) =>
      (s.canonical = true)
      ∧ (s.on (regDomain R.TEL_SNAP_CTRL) = true))
      (tele (fun t => { t with req := [9000] })))
    ∧ ((fun (s : State) x =>
      (s.canonical = true)
      ∧ (s.on 2 = true)
      ∧ (s.nextTarget = some x)
      ∧ (s.tel.cur = none))
      (tele (fun t => { t with req := [9000, 3000], lastTarget := some 100, periodicFrom := 2000000000 })) 3000)
    ∧ ((fun (s : State) x c =>
      (s.canonical = true)
      ∧ (s.on 2 = true)
      ∧ (s.nextTarget = some x)
      ∧ (s.tel.cur = some c))
      (tele (fun t => { t with req := [9000, 3000], lastTarget := some 100, periodicFrom := 2000000000, cur := some (snap1 []) })) 3000 (snap1 []))
    ∧ ((fun (s : State) c =>
      (s.canonical = true)
      ∧ (s.tel.cur = some c)
      ∧ (s.dieLinkUp 22 = true)
      ∧ (s.tel.lockEnd = none)
      ∧ (c.violations [] = []))
      (tele (fun t => { t with cur := some (snap1 [(5, none)]) })) (snap1 [(5, none)]))
    ∧ ((fun (s : State) =>
      (s.canonical = true)
      ∧ (s.dieLinkUp 22 = false))
      (dl22 (tele (fun t => { t with cur := some (snap1 []) }))))
    ∧ ((fun (s : State) c t0 =>
      (s.canonical = true)
      ∧ (s.tel.cur = some c)
      ∧ (s.dieLinkUp 22 = true)
      ∧ (s.tel.lockEnd = some t0)
      ∧ (c.violations [] = []))
      (tele (fun t => { t with cur := some (snap1 []), lockEnd := some 70 })) (snap1 []) 70)
    ∧ ((fun (s : State) c fails v =>
      (s.canonical = true)
      ∧ (s.tel.cur = some c)
      ∧ (s.dieLinkUp 22 = true)
      ∧ (c.violations fails = [v])
      ∧ (v.code = 4)
      ∧ (v.kind = 0x10)
      ∧ (v.index = 111)
      ∧ (s.tel.isolated.contains (0x10, 111) = false))
      (tele (fun t => { t with cur := some (snap1 []) })) (snap1 []) ([viol]) (⟨4, 0x10, 111, 9⟩))
    ∧ ((fun (s : State) =>
      (s.canonical = true)
      ∧ (s.on (regDomain R.TEL_SNAP_CTRL) = true)
      ∧ (s.tel.lockEnd = none))
      linked)
    ∧ ((fun (s : State) c =>
      (s.canonical = true)
      ∧ (s.on (regDomain R.TEL_SNAP_CTRL) = true)
      ∧ (s.tel.newest = some c))
      (tele (fun t => { t with newest := some (snap1 []), lockEnd := some 70 })) (snap1 []))
    ∧ ((fun (s : State) t0 =>
      (s.canonical = true)
      ∧ (s.tel.lockEnd = some t0)
      ∧ (s.tel.newest = none))
      (tele (fun t => { t with pub := some (snap1 []), lockEnd := some 70 })) 70)
    ∧ ((fun (s : State) (kind : Fin 128) (index : Fin 16777216) =>
      (s.canonical = true)
      ∧ (s.on (regDomain R.TEL_ISO_CMD) = true)
      ∧ (unitKnown kind index = false))
      linked 0x10 112)
    ∧ ((fun (s : State) (kind : Fin 128) (index : Fin 16777216) =>
      (s.canonical = true)
      ∧ (s.on (regDomain R.TEL_ISO_CMD) = true)
      ∧ (unitKnown kind index = true)
      ∧ (s.tel.isolated.contains (kind.val, index.val) = false))
      linked 0x10 111)
    ∧ ((fun (s : State) =>
      (s.canonical = true)
      ∧ (s.on (regDomain R.TEL_ISO_CMD) = true)
      ∧ (s.tel.isolated.contains (0x10, 111) = true))
      (tele (fun t => { t with isolated := [(3, 5), (0x10, 111)] })))
    ∧ ((fun (s : State) (egress : Fin 1094) (tc : Fin 8) =>
      (s.canonical = true)
      ∧ (s.on (regDomain (R.TEL_QHWM egress tc)) = true)
      ∧ (Tbl.wf (fun _ => EQueue.empty) s.dp.queues = true))
      (linked.setQueue (qKey 1093 7) { EQueue.empty with hwm := 55 }) 1093 7) :=
  by and_intros <;> decide +kernel

theorem test_SnapshotsAreTakenAndPublished :
    ((fun (s : State) =>
      gives .snapshotRequest s (fun t => decide (t.tel.req = [9000, 2000])) = true)
      (tele (fun t => { t with req := [9000] })))
    ∧ ((fun (s : State) x =>
      gives .snapshotTarget s (fun t => decide (t.tel.lastTarget = some x ∧ t.tel.req = s.tel.req.filter (· != x) ∧ t.tel.causes = [] ∧ t.now = max s.now (s.atTb0 x) ∧ t.tel.cur.isSome = true)) = true)
      (tele (fun t => { t with req := [9000, 3000], lastTarget := some 100, periodicFrom := 2000000000 })) 3000) :=
  by and_intros <;> decide +kernel

theorem wit_ScoresRiseAtOnceAndFallSlowly :
    ((fun (x : Part) (raw : Nat) =>
      (x.score ≤ raw))
      (⟨700, [(5, 4)], 2, false, none, none, false⟩) 900)
    ∧ ((fun (x : Part) (raw : Nat) =>
      (raw < x.score))
      (⟨700, [(5, 4)], 2, false, none, none, false⟩) 100)
    ∧ ((fun (x : Part) (raw : Nat) (now : Nat) =>
      (raw < x.score)
      ∧ (((x.falls.filter (fun f => now < f.1 + 60000000000)).map (·.2)).sum ≤ 10))
      (⟨700, [(5, 4)], 2, false, none, none, false⟩) 100 7000)
    ∧ ((fun (s : State) =>
      (Tbl.wf (fun _ => Part.init) s.tel.parts = true))
      linked)
    ∧ ((fun (s : State) =>
      (s.on 2 = true)
      ∧ (s.fld R.TEL_HEALTH_CFG 31 28 = 0))
      noTel) :=
  by and_intros <;> decide +kernel

theorem test_ScoresRiseAtOnceAndFallSlowly :
    ((fun (s : State) (tot : Tbl Nat) (k : Nat) =>
      s.rawScore tot k ≤ 1000)
      linked ([(partKey 9 31 * 8 + 1, 5000)]) (partKey 9 31))
    ∧ ((fun (x : Part) (raw : Nat) (now : Nat) =>
      (x.publish raw now).score = raw)
      (⟨700, [(5, 4)], 2, false, none, none, false⟩) 900 7000) :=
  by and_intros <;> decide +kernel

theorem wit_PinsActionsAndHotUpdates :
    ((fun (s : State) (kind : Fin 256) (index : Fin 16777216) t0 =>
      (s.canonical = true)
      ∧ (s.part (partKey kind index)).allowedAt = some t0
      ∧ (s.part (partKey kind index)).score < 700)
      (part1 (partKey 9 31) { Part.init with allowedAt := some 70 }) 9 31 70)
    ∧ ((fun (s : State) (index : Fin 16777216) t0 =>
      (s.canonical = true)
      ∧ (index.val < 1024)
      ∧ (s.part (partKey 1 index)).allowedAt = some t0
      ∧ (700 ≤ (s.part (partKey 1 index)).score)
      ∧ (s.atBoundary (partKey 1 index) t0 = true)
      ∧ (s.fld (portCtrl index) 30 30 = 1))
      ({ (part1 (partKey 1 9) { Part.init with allowedAt := some 70, score := 800 }).setF (portCtrl 9) 30 30 1 with tab := { linked.tab with lastEpoch := some 80 }, clk := ⟨100, 0, 0, 0⟩ }) 9 70)
    ∧ ((fun (s : State) (kind : Fin 256) (index : Fin 65536) =>
      (s.canonical = true)
      ∧ (s.on (regDomain R.TEL_HEALTH_CMD) = true)
      ∧ (partKnown kind index = true)
      ∧ (s.part (partKey kind index)).score ≤ 1000)
      (part1 (partKey 9 31) { Part.init with score := 1000, flagged := true, pinEnd := some 7 }) 9 31)
    ∧ ((fun (s : State) (kind : Fin 256) (index : Fin 65536) =>
      (s.canonical = true)
      ∧ (s.on (regDomain R.TEL_HEALTH_CMD) = true)
      ∧ (partKnown kind index = true)
      ∧ (s.fld R.TEL_HEALTH_PIN_S 11 0 ≠ 0)
      ∧ (s.fld R.TEL_HEALTH_PIN_S 11 0 ≤ min 3600 (s.fld R.TEL_HEALTH_CFG 27 16)))
      (linked.setF R.TEL_HEALTH_PIN_S 11 0 5) 9 31)
    ∧ ((fun (s : State) (kind : Fin 256) (index : Fin 65536) =>
      (s.canonical = true)
      ∧ (s.on (regDomain R.TEL_HEALTH_CMD) = true)
      ∧ (partKnown kind index = true)
      ∧ (min 3600 (s.fld R.TEL_HEALTH_CFG 27 16) < s.fld R.TEL_HEALTH_PIN_S 11 0))
      (linked.setF R.TEL_HEALTH_PIN_S 11 0 4000) 9 31)
    ∧ ((fun (s : State) (kind : Fin 256) (index : Fin 65536) =>
      (s.canonical = true)
      ∧ (s.on (regDomain R.TEL_HEALTH_CMD) = true)
      ∧ (partKnown kind index = true)
      ∧ (Tbl.wf (fun _ => Part.init) s.tel.parts = true))
      (part1 (partKey 9 31) { Part.init with pinEnd := some 7 }) 9 31)
    ∧ ((fun (s : State) (kind : Fin 256) (index : Fin 16777216) t0 =>
      (s.canonical = true)
      ∧ (s.part (partKey kind index)).pinEnd = some t0
      ∧ (Tbl.wf (fun _ => Part.init) s.tel.parts = true))
      (part1 (partKey 9 31) { Part.init with pinEnd := some 70 }) 9 31 70)
    ∧ ((fun (s : State) (island : Fin 128) (slot : Fin 2) =>
      (s.canonical = true)
      ∧ (s.on (regDomain R.TEL_UCODE_CMD) = true)
      ∧ (s.fld R.TEL_UCODE_STAT 31 31 = 0)
      ∧ (island ≠ 0)
      ∧ (island.val < 112)
      ∧ (grantable s.maint (.ucode island slot) = true))
      linked 111 1)
    ∧ ((fun (s : State) (island : Fin 128) =>
      (s.canonical = true)
      ∧ (s.on (regDomain R.TEL_UCODE_CMD) = true)
      ∧ (s.fld R.TEL_UCODE_STAT 31 31 = 0)
      ∧ (island = 0 ∨ 112 ≤ island.val))
      linked 112)
    ∧ ((fun (s : State) u =>
      (s.canonical = true)
      ∧ (s.tel.update = some u)
      ∧ (u.swapped = none)
      ∧ (u.drainEnd = none)
      ∧ (s.boot.erased u.slot = true))
      ({ upd7 none with boot := { linked.boot with erasedB := true } }) (⟨7, 1, none, none⟩))
    ∧ ((fun (s : State) u c =>
      (s.canonical = true)
      ∧ (s.tel.update = some u)
      ∧ (u.swapped = none)
      ∧ (u.drainEnd = none)
      ∧ (s.boot.erased u.slot = false)
      ∧ (s.boot.checkImage c none = 0))
      (upd7 none) (⟨7, 1, none, none⟩) img)
    ∧ ((fun (s : State) u t0 =>
      (s.canonical = true)
      ∧ (s.tel.update = some u)
      ∧ (u.swapped = none)
      ∧ (u.drainEnd = some t0)
      ∧ (s.islandEntries u.island = []))
      upd7d (⟨7, 1, some 70, none⟩) 70)
    ∧ ((fun (s : State) u t0 =>
      (s.canonical = true)
      ∧ (s.tel.update = some u)
      ∧ (u.swapped = some t0))
      (upd7 (some 70)) (⟨7, 1, none, some 70⟩) 70) :=
  by and_intros <;> decide +kernel

theorem test_PinsActionsAndHotUpdates :
    ((fun (s : State) (kind : Fin 256) (index : Fin 16777216) =>
      nextIs (exec (.healthActionStart kind index) s) ((s.setPart (partKey kind index) { s.part (partKey kind index) with allowedAt := none })) = true)
      (part1 (partKey 9 31) { Part.init with allowedAt := some 70 }) 9 31)
    ∧ ((fun (s : State) (index : Fin 16777216) =>
      gives (.healthActionStart 1 index) s (fun t => decide (t.tel.expulsions = s.expHour ++ [s.now] ∧ (t.part (partKey 1 index)).acted = true ∧ (t.part (partKey 1 index)).allowedAt = none ∧ t.count C.TEL_EXPULSIONS = (s.count C.TEL_EXPULSIONS + 1) % 2 ^ 64)) = true)
      ({ (part1 (partKey 1 9) { Part.init with allowedAt := some 70, score := 800 }).setF (portCtrl 9) 30 30 1 with tab := { linked.tab with lastEpoch := some 80 }, clk := ⟨100, 0, 0, 0⟩ }) 9) :=
  by and_intros <;> decide +kernel

theorem wit_SidebandTargetAnswers :
    ((fun (s : State) =>
      (s.canonical = true)
      ∧ (s.i3c.dyn = none))
      linked)
    ∧ ((fun (s : State) b =>
      (s.canonical = true)
      ∧ (s.i3c.dyn = some b))
      (sideb (fun x => { x with dyn := some 5 })) 5)
    ∧ ((fun (s : State) =>
      (s.canonical = true)
      ∧ (s.i3c.dyn = none))
      linked)
    ∧ ((fun (s : State) =>
      (s.canonical = true))
      (sideb (fun x => { x with dyn := some 5 })))
    ∧ ((fun (s : State) =>
      (s.canonical = true)
      ∧ (s.i3c.dyn ≠ none))
      (sideb (fun x => { x with dyn := some 5 })))
    ∧ ((fun (s : State) =>
      (s.canonical = true)
      ∧ (s.i3c.dyn ≠ none))
      (sideb (fun x => { x with dyn := some 5 })))
    ∧ ((fun (s : State) =>
      (s.canonical = true)
      ∧ (s.i3c.dyn ≠ none))
      (sideb (fun x => { x with dyn := some 5 })))
    ∧ ((fun (s : State) =>
      (s.canonical = true)
      ∧ (s.i3c.dyn ≠ none))
      (sideb (fun x => { x with dyn := some 5 })))
    ∧ ((fun (s : State) =>
      (s.canonical = true))
      (sideb (fun x => { x with dyn := some 5 })))
    ∧ ((fun (s : State) =>
      (s.canonical = true))
      (sideb (fun x => { x with dyn := some 5 })))
    ∧ ((fun (s : State) =>
      (s.canonical = true)
      ∧ (s.on 1 = true))
      (sideb (fun x => { x with dyn := some 5 })))
    ∧ ((fun (s : State) =>
      (s.canonical = true)
      ∧ (s.on 1 = true)
      ∧ (s.boot.resetLow = false)
      ∧ (s.level = 0)
      ∧ (s.pwr.m3 = false)
      ∧ (s.wd = none)
      ∧ (s.pwr.shed = [])
      ∧ (s.pwr.held = []))
      (sideb (fun x => { x with dyn := some 5 })))
    ∧ ((fun (s : State) =>
      (s.canonical = true)
      ∧ (s.on 1 = true)
      ∧ (s.boot.resetLow = false)
      ∧ (s.level = 0)
      ∧ (s.pwr.m3 = true))
      ({ linked with pwr := { linked.pwr with m3 := true } }))
    ∧ ((fun (s : State) =>
      (s.canonical = true)
      ∧ (s.on 1 = true)
      ∧ (s.boot.resetLow = false)
      ∧ (s.level = 5)
      ∧ (s.pwr.m3 = true))
      ((({ linked with pwr := { linked.pwr with m3 := true } } : State).setF R.PWR_SUPPLY_STAT 15 13 5)))
    ∧ ((fun (s : State) =>
      (s.canonical = true)
      ∧ (s.boot.resetLow = true))
      ({ linked with boot := { linked.boot with resetLow := true } })) :=
  by and_intros <;> decide +kernel

theorem test_SidebandTargetAnswers :
    ((fun (s : State) (a : Fin 128) =>
      nextIs (exec (.i3cEntdaa a) s) ({ s with i3c := { s.i3c with dyn := some a.val } }) = true)
      linked 127)
    ∧ ((fun (s : State) (a : Fin 128) =>
      nextIs (exec (.i3cEntdaa a) s) (s) = true)
      (sideb (fun x => { x with dyn := some 5 })) 127) :=
  by and_intros <;> decide +kernel

theorem wit_RegisterWritesFollowAccessTypes :
    ((fun (s : State) (off : Word) (n : Fin 9) =>
      (s.canonical = true)
      ∧ (n ≠ 4 ∨ off.toNat % 4 ≠ 0))
      linked 3 4)
    ∧ ((fun (s : State) (off : Word) =>
      (s.canonical = true)
      ∧ (off.toNat % 4 = 0)
      ∧ (findReg regMap off.toNat = none)
      ∧ (findCnt cntMap off.toNat = none))
      linked 0x0000FF00)
    ∧ ((fun (s : State) (off : Word) r ix =>
      (s.canonical = true)
      ∧ (off.toNat % 4 = 0)
      ∧ (findReg regMap off.toNat = some (r, ix)))
      (linked.wr R.GLB_FABRIC_ID 0x00050007) (BitVec.ofNat 32 R.GLB_FABRIC_ID) (((findReg regMap R.GLB_FABRIC_ID).get (by decide +kernel)).1) (((findReg regMap R.GLB_FABRIC_ID).get (by decide +kernel)).2))
    ∧ ((fun (s : State) (off : Word) (n : Fin 9) =>
      (s.canonical = true)
      ∧ (n ≠ 4 ∨ off.toNat % 4 ≠ 0))
      linked 3 4)
    ∧ ((fun (s : State) (off : Word) r ix =>
      (s.canonical = true)
      ∧ (off.toNat % 4 = 0)
      ∧ (findReg regMap off.toNat = some (r, ix))
      ∧ (s.on (r.domain ix) = false))
      ({ linked with dom := [(1, .on)] }) (BitVec.ofNat 32 R.HLK_CAPTURE) (((findReg regMap R.HLK_CAPTURE).get (by decide +kernel)).1) (((findReg regMap R.HLK_CAPTURE).get (by decide +kernel)).2))
    ∧ ((fun (s : State) (off : Word) =>
      (s.canonical = true)
      ∧ (off.toNat % 4 = 0)
      ∧ (findReg regMap off.toNat = none)
      ∧ (findCnt cntMap off.toNat = none))
      linked 0x0000FF00)
    ∧ ((fun (s : State) (off : Word) =>
      (s.canonical = true)
      ∧ (off.toNat % 4 = 0)
      ∧ (findReg regMap off.toNat = none)
      ∧ (findCnt cntMap off.toNat ≠ none)
      ∧ (s.on 2 = true))
      linked 0x01000200)
    ∧ ((fun (s : State) =>
      (s.canonical = true)
      ∧ (s.on 2 = true))
      linked)
    ∧ ((fun (s : State) =>
      (s.canonical = true)
      ∧ (s.on 1 = true))
      linked)
    ∧ ((fun (s : State) (f : FieldDef) =>
      (s.canonical = true)
      ∧ (f.lo ≤ f.hi)
      ∧ (f.hi < 32))
      linked fdef) :=
  by and_intros <;> decide +kernel

theorem test_RegisterWritesFollowAccessTypes :
    ((fun (s : State) (off : Word) (n : Fin 9) =>
      gives (.registerWrite off n none) s (fun t => decide (onlyB [.cnt, .evq, .evLost, .evLostOff, .out] s t = true ∧ t.out = .regRead off.toNat 0 :: s.out)) = true)
      linked 3 4)
    ∧ ((fun (s : State) (off : Word) =>
      gives (.registerWrite off 4 none) s (fun t => decide (onlyB [.cnt, .evq, .evLost, .evLostOff, .out] s t = true ∧ t.out = .regRead off.toNat 0 :: s.out)) = true)
      linked 0x0000FF00) :=
  by and_intros <;> decide +kernel

theorem wit_IdentityIsChangedInTwoWrites :
    ((fun (s : State) (w : Word) =>
      (s.canonical = true)
      ∧ (s.assigned = true)
      ∧ (w.fld 31 31 = 1)
      ∧ (w.fld 9 0 ≠ s.fld R.GLB_FABRIC_ID 9 0 ∨ w.fld 30 30 ≠ s.fld R.GLB_FABRIC_ID 30 30 ∨ w.fld 21 16 ≠ s.fld R.GLB_FABRIC_ID 21 16))
      assigned 0xC0050008)
    ∧ ((fun (s : State) (w : Word) =>
      (s.canonical = true)
      ∧ (s.assigned = false ∨ w.fld 31 31 = 0 ∨ (w.fld 9 0 = s.fld R.GLB_FABRIC_ID 9 0 ∧ w.fld 30 30 = s.fld R.GLB_FABRIC_ID 30 30 ∧ w.fld 21 16 = s.fld R.GLB_FABRIC_ID 21 16)))
      assigned 0x40050007) :=
  by and_intros <;> decide +kernel

theorem test_IdentityIsChangedInTwoWrites :
    ((fun (s : State) (w : Word) =>
      nextIs (exec (.fabricIdWrite w) s) (s) = true)
      assigned 0xC0050008)
    ∧ ((fun (s : State) (w : Word) =>
      gives (.fabricIdWrite w) s (fun t => decide (t.fld R.GLB_FABRIC_ID 31 30 = w.fld 31 30 ∧ t.fld R.GLB_FABRIC_ID 21 16 = w.fld 21 16 ∧ t.fld R.GLB_FABRIC_ID 9 0 = w.fld 9 0 ∧ (s.assigned = true → w.fld 31 31 = 0 → s.wd = none → t.wd = some ⟨s.now + 100000, [.identity]⟩) ∧ (s.assigned = false ∨ w.fld 31 31 = 1 → t.wd = s.wd))) = true)
      assigned 0x40050007) :=
  by and_intros <;> decide +kernel

theorem wit_WithdrawalAndBringUpEnd :
    ((fun (s : State) w =>
      (s.canonical = true)
      ∧ (s.wd = some w)
      ∧ (w.causes = [.identity])
      ∧ (s.bufferEmpty = true))
      ({ linked with wd := some ⟨70, [.identity]⟩ }) (⟨70, [.identity]⟩))
    ∧ ((fun (s : State) w =>
      (s.canonical = true)
      ∧ (s.wd = some w)
      ∧ (w.causes = [.identity])
      ∧ (s.bufferEmpty = false))
      ({ linked.setRx 9 [item 9 data1 9] with wd := some ⟨70, [.identity]⟩ }) (⟨70, [.identity]⟩))
    ∧ ((fun (s : State) =>
      (s.canonical = true)
      ∧ (s.fld R.GLB_BOOT_STAT 31 30 = 2)
      ∧ (∀ n, n ∈ upOrder → s.on n = true)
      ∧ (s.level = 0)
      ∧ (s.fld R.PWR_MSTATE 31 30 = 0)
      ∧ (s.pwr.m3 = false)
      ∧ (s.wd = none)
      ∧ (s.pwr.shed = [])
      ∧ (s.pwr.held = [])
      ∧ (s.pwr.ops = [])
      ∧ (s.pwr.bootDue = false))
      (linked.setF R.GLB_BOOT_STAT 31 30 2))
    ∧ ((fun (s : State) =>
      (s.canonical = true)
      ∧ (s.fld R.GLB_BOOT_STAT 31 30 ≠ 2))
      linked) :=
  by and_intros <;> decide +kernel

theorem test_WithdrawalAndBringUpEnd :
    ((fun (s : State) =>
      gives .withdrawalDrainEnd s (fun t => decide (t.wd = none ∧ t.now = s.now ∧ t.dom = s.dom)) = true)
      ({ linked with wd := some ⟨70, [.identity]⟩ }))
    ∧ ((fun (s : State) (w : Withdrawal) =>
      gives .withdrawalDrainEnd s (fun t => decide (t.wd = none ∧ t.now = max s.now w.deadline ∧ t.dom = s.dom)) = true)
      ({ linked.setRx 9 [item 9 data1 9] with wd := some ⟨70, [.identity]⟩ }) (⟨70, [.identity]⟩)) :=
  by and_intros <;> decide +kernel

end Health

namespace Rest

def q7 (p : Packet) : State :=
  ((((linked.setF (R.PL_TC_SCHED 0 7 0) 8 8 1).setPort 7 { Port.init with st := .up, lanesUp := 3 }).setLink 448
    { Link.init with credits := ⟨9, 9, 9, 9⟩ }).setQueue (qKey 7 0)
    { EQueue.empty with head := [item 9 p 5] }).setXing 64 ⟨true, 9, 0, 0, 0⟩
def outR : OutReq := ⟨4, 5, pk 0x10 0 1 3 0 [0, 0x900, 0, 4096, 0x00050040] [], .notify 3 1, 10, 10, false, some (4095, 0)⟩
def heldS : State := ({ linked with req := { linked.req with out := [outR] } } : State).setUnitIn 5
  [item 9 (pk 0x18 1 1 0 3 [0, 0, 0x00050000] [1, 2, 3, 4, 5, 6, 7, 8]) 1024]
def rspI : Item := item 9 (pk 0x18 1 1 0 3 [0, 0, 0x00050000] [1, 2, 3, 4, 5, 6, 7, 8]) 1024

theorem wit_SubQueuesTakeTurns :
    ((fun (s : State) (egress : Fin 1094) (tc : Nat) it =>
      (s.headOf egress tc vcRSP = some it))
      (q7 ack1) 7 0 (item 9 ack1 5))
    ∧ ((fun (s : State) (egress : Fin 1094) (tc : Nat) last order =>
      (last, order) ∈ [(vcREQ, [vcCOLL, vcBULK, vcREQ]), (vcCOLL, [vcBULK, vcREQ, vcCOLL]), (vcBULK, [vcREQ, vcCOLL, vcBULK])]
      ∧ (s.headOf egress tc vcRSP = none)
      ∧ (Tbl.get (fun _ => 3) s.sched.vcLast (qKey egress tc) = last))
      (q7 data1) 7 0 vcBULK ([vcREQ, vcCOLL, vcBULK]))
    ∧ ((fun (s : State) (egress : Fin 1094) (tc : Nat) it u =>
      (s.tel.isolated = [])
      ∧ (s.islandHeld (6 + egress / 64) = false)
      ∧ (s.choose egress = (some (tc, it), u))
      ∧ (Tbl.wf (fun _ => 3) u.sched.vcLast = true))
      (q7 ack1) 7 0 (item 9 ack1 5) (q7 ack1)) :=
  by and_intros <;> decide +kernel

theorem test_SubQueuesTakeTurns :
    ((fun (s : State) (egress : Fin 1094) (tc : Nat) it =>
      s.nextHead egress tc = some it
      ∧ s.eligible egress tc = some it)
      (q7 ack1) 7 0 (item 9 ack1 5))
    ∧ ((fun (s : State) (egress : Fin 1094) (tc : Nat) order =>
      s.nextHead egress tc = (order.filterMap (fun v => s.headOf egress tc v)).head?)
      (q7 data1) 7 0 ([vcREQ, vcCOLL, vcBULK])) :=
  by and_intros <;> decide +kernel

theorem wit_AReleaseAfterTheResponseFindsNoEntry :
    ((fun (s : State) (index : Fin 4096) =>
      (s.on (regDomain R.MEM_HELD_CMD) = true)
      ∧ (s.heldAt index = none))
      linked 4095)
    ∧ ((fun (s : State) (index : Fin 4096) it l r t0 =>
      (s.on (regDomain R.MEM_HELD_CMD) = true)
      ∧ (s.hubIn = it :: l)
      ∧ (it.pkt.ty ≠ tyACK)
      ∧ (it.pkt.echo = 0)
      ∧ (r.held = some (index.val, t0))
      ∧ (s.req.out.find? (fun r => r.origin == rspOrigin it.pkt && r.tag == it.pkt.fld 5 31 16 && tyResponse it.pkt.ty && rspType r.pkt.ty == it.pkt.ty && r.pkt.dest == it.pkt.src && r.space == it.pkt.sspace) = some r)
      ∧ (∀ x t1, x ∈ s.req.out → x.held = some (index.val, t1) → x.origin = r.origin ∧ x.tag = r.tag))
      heldS 4095 rspI [] outR 0) :=
  by refine ⟨?_, ⟨?_, ?_, ?_, ?_, ?_, ?_, by simp only [heldS, State.setUnitIn, List.mem_singleton]; rintro _ _ rfl _; exact ⟨rfl, rfl⟩⟩⟩ <;> and_intros <;> decide +kernel

theorem test_AReleaseAfterTheResponseFindsNoEntry :
    ((fun (s : State) (index : Fin 4096) =>
      nextIs (exec (.heldRelease index) s) ((s.setF R.MEM_HELD_STAT 3 0 4)) = true)
      linked 4095)
    ∧ ((fun (s : State) (index : Fin 4096) =>
      gives .responseReceive s (fun t => decide (t.heldAt index = none)) = true)
      heldS 4095) :=
  by and_intros <;> decide +kernel

theorem wit_EveryCommandAnswersANextState :
    (fun (c : Instr) =>
      (∀ ns, c = .resetNAssert ns → ns < 1000 ∨ 10000 ≤ ns))
      (.resetNAssert 10000) :=
  by simp

theorem wit_RegistersAreWrittenWhereNamed :
    (fun (c : Instr) (l : List Nat) (s : State) (t : State) off =>
      (s.canonical = true)
      ∧ (s.regsWritten c = some l)
      ∧ (exec c s = .next t)
      ∧ (off ∉ l))
      .i3cRstdaa [] linked ({ linked with i3c := { linked.i3c with dyn := none } }) 0 :=
  by refine ⟨?_, ?_, rfl, ?_⟩ <;> and_intros <;> decide +kernel

theorem wit_CrossingsKeepTheirIdentity :
    (fun (s : State) (t : State) x =>
      (∀ x, x ∈ s.xings → x.2.announced = true → x.2.credits + x.2.entries + x.2.flight = crossingDepth x.1)
      ∧ (step s = .next t)
      ∧ (x ∈ t.xings)
      ∧ (x.2.announced = true))
      ({ linked with xings := [(70, ⟨true, 200, 40, 16, 3⟩)], pending := [.i3cRstdaa] }) ({ linked with xings := [(70, ⟨true, 200, 40, 16, 3⟩)], i3c := { linked.i3c with dyn := none } }) ((70, ⟨true, 200, 40, 16, 3⟩)) :=
  by refine ⟨?_, rfl, ?_, ?_⟩ <;> and_intros <;> decide +kernel

theorem wit_EveryStepKeepsCanonicalForm :
    (fun (s : State) (t : State) =>
      (s.canonical = true)
      ∧ (step s = .next t))
      ({ linked with pending := [.i3cRstdaa] }) ({ linked with i3c := { linked.i3c with dyn := none } }) :=
  by refine ⟨?_, rfl⟩ <;> and_intros <;> decide +kernel

end Rest

end Sys2Proof.Tests
end

/-!
PROOFS. The bit ranges of a word bit by bit, and the module's identity (R24): what FABRIC_ID_WRITE discards, stores and
begins.
-/
namespace Sys2Proof.Machine

/-! ## Bit ranges, bit by bit -/

/-- A range of bits read as a number has the word's bits. -/
theorem Word.testBit_fld (w : Word) (hi lo i : Nat) :
    (w.fld hi lo).testBit i = (decide (lo + i ≤ hi) && w.getLsbD (lo + i)) := by
  have e : decide (i < hi + 1 - lo) = decide (lo + i ≤ hi) := decide_eq_decide.mpr (by omega)
  rw [Word.fld, Nat.testBit_mod_two_pow, Nat.testBit_div_two_pow, BitVec.testBit_toNat, Nat.add_comm i lo, e]

/-- Two words that agree on a range of bits read the same number there. -/
theorem Word.fld_congr {w u : Word} {hi lo : Nat} (h : ∀ i, lo ≤ i → i ≤ hi → w.getLsbD i = u.getLsbD i) :
    w.fld hi lo = u.fld hi lo := by
  refine Nat.eq_of_testBit_eq fun i => ?_
  rw [Word.testBit_fld, Word.testBit_fld]
  by_cases k : lo + i ≤ hi
  · rw [h (lo + i) (by omega) k]
  · simp only [k, decide_false, Bool.false_and]

/-- A range written holds the number's bits; the bits outside stay. -/
theorem Word.getLsbD_setFld (w : Word) {hi lo : Nat} (v i : Nat) (h : hi < 32) (k : lo ≤ hi) :
    (w.setFld hi lo v).getLsbD i = if lo ≤ i ∧ i ≤ hi then v.testBit (i - lo) else w.getLsbD i := by
  have value : w.toNat / 2 ^ (hi + 1) * 2 ^ (hi + 1) + v % 2 ^ (hi + 1 - lo) * 2 ^ lo + w.toNat % 2 ^ lo
      = 2 ^ lo * (2 ^ (hi + 1 - lo) * (w.toNat / 2 ^ (hi + 1)) + v % 2 ^ (hi + 1 - lo)) + w.toNat % 2 ^ lo := by
    have e : (2 : Nat) ^ (hi + 1) = 2 ^ lo * 2 ^ (hi + 1 - lo) := by rw [← Nat.pow_add]; congr 1; omega
    rw [Nat.mul_add, ← Nat.mul_assoc, ← e, Nat.mul_comm (2 ^ lo), Nat.mul_comm (w.toNat / _)]
  rw [Word.setFld, value, BitVec.getLsbD_ofNat,
    Nat.testBit_two_pow_mul_add _ (Nat.mod_lt _ (Nat.two_pow_pos lo)),
    Nat.testBit_two_pow_mul_add _ (Nat.mod_lt _ (Nat.two_pow_pos _)), Nat.testBit_mod_two_pow,
    Nat.testBit_mod_two_pow, Nat.testBit_div_two_pow, BitVec.testBit_toNat, BitVec.testBit_toNat]
  by_cases below : i < lo
  · simp [below, show i < 32 by omega, show ¬ lo ≤ i by omega]
  · by_cases inside : i ≤ hi
    · simp [below, inside, show i < 32 by omega, show lo ≤ i by omega, show i - lo < hi + 1 - lo by omega]
    · have e : i - lo - (hi + 1 - lo) + (hi + 1) = i := by omega
      rw [if_neg below, if_neg (by omega), if_neg (by omega), e, Bool.and_eq_right_iff_imp]
      exact fun b => decide_eq_true (BitVec.lt_of_getLsbD b)

/-- A range copied from another word has that word's bits. -/
theorem Word.getLsbD_setFld_fld (w u : Word) {hi lo : Nat} (i : Nat) (h : hi < 32) (k : lo ≤ hi) :
    (u.setFld hi lo (w.fld hi lo)).getLsbD i = if lo ≤ i ∧ i ≤ hi then w.getLsbD i else u.getLsbD i := by
  rw [Word.getLsbD_setFld u _ i h k]
  split
  · next m => rw [Word.testBit_fld, Nat.add_sub_cancel' m.1, decide_eq_true m.2, Bool.true_and]
  · rfl

/-! ## The stored identity (R22) -/

/-- A write to GLB.FABRIC_ID stores its four fields. -/
theorem storeWord_fabricId (w old : Word) :
    storeWord R.GLB_FABRIC_ID w old =
      (((old.setFld 31 31 (w.fld 31 31)).setFld 30 30 (w.fld 30 30)).setFld 21 16 (w.fld 21 16)).setFld 9 0
        (w.fld 9 0) := rfl

/-- The bits of the four fields are the written ones. -/
theorem getLsbD_storeWord_fabricId (w old : Word) {i : Nat} (h : i ≤ 9 ∨ 16 ≤ i ∧ i ≤ 21 ∨ i = 30 ∨ i = 31) :
    (storeWord R.GLB_FABRIC_ID w old).getLsbD i = w.getLsbD i := by
  rw [storeWord_fabricId, Word.getLsbD_setFld_fld _ _ _ (by decide) (by decide),
    Word.getLsbD_setFld_fld _ _ _ (by decide) (by decide), Word.getLsbD_setFld_fld _ _ _ (by decide) (by decide),
    Word.getLsbD_setFld_fld _ _ _ (by decide) (by decide)]
  by_cases spine : 0 ≤ i ∧ i ≤ 9
  · rw [if_pos spine]
  · by_cases pos : 16 ≤ i ∧ i ≤ 21
    · rw [if_neg spine, if_pos pos]
    · by_cases member : 30 ≤ i ∧ i ≤ 30
      · rw [if_neg spine, if_neg pos, if_pos member]
      · rw [if_neg spine, if_neg pos, if_neg member, if_pos (by omega)]

/-- A range that lies in the four fields reads as written. -/
theorem fld_storeWord_fabricId (w old : Word) {hi lo : Nat}
    (h : ∀ i, lo ≤ i → i ≤ hi → i ≤ 9 ∨ 16 ≤ i ∧ i ≤ 21 ∨ i = 30 ∨ i = 31) :
    (storeWord R.GLB_FABRIC_ID w old).fld hi lo = w.fld hi lo :=
  Word.fld_congr fun i a b => getLsbD_storeWord_fabricId w old (h i a b)

theorem State.rd_store_self {s : State} (h : Tbl.wf regReset s.regs = true) (off : Nat) (w : Word) :
    (s.store off w).rd off = storeWord off w (s.rd off) := State.rd_wr_self h off _

/-! ## A withdrawal begins (R27) -/

/-- With no withdrawal running, one begins with a window of 100 µs from now. -/
theorem State.beginWithdraw_wd_of_none {s : State} (cause : WithdrawFor) (reason : Nat) (h : s.wd = none) :
    (s.beginWithdraw cause reason).wd = some ⟨s.now + 100000, [cause]⟩ := by
  have frame := Within.each (fun p u => State.sendWithdraw_within u p reason)
    ((s.ports.filter (fun x => x.2.st == .up || x.2.st == .draining)).map (·.1)) s
  have now := congrArg Clock.now (frame.clk_eq (by decide))
  simp only [State.beginWithdraw, h]
  rw [State.now, now]

theorem State.beginWithdraw_regs (s : State) (cause : WithdrawFor) (reason : Nat) :
    (s.beginWithdraw cause reason).regs = s.regs :=
  (State.beginWithdraw_within s cause reason).regs_eq (by decide)

/-! ## FABRIC_ID_WRITE (R24) -/

/-- The write changes SPINE_ID, PRISM_MEMBER or PRISM_POS. -/
def State.changesIdentity (s : State) (w : Word) : Prop :=
  w.fld 9 0 ≠ s.fld R.GLB_FABRIC_ID 9 0 ∨ w.fld 30 30 ≠ s.fld R.GLB_FABRIC_ID 30 30
    ∨ w.fld 21 16 ≠ s.fld R.GLB_FABRIC_ID 21 16

/-- The identity as a write stores it, with the withdrawal that clearing ASSIGNED begins. -/
def State.storeIdentity (s : State) (w : Word) : State :=
  if s.fld R.GLB_FABRIC_ID 31 31 = 1 ∧ w.fld 31 31 = 0 then (s.store R.GLB_FABRIC_ID w).beginWithdraw .identity 0
  else s.store R.GLB_FABRIC_ID w

/-- What follows for Prism when a write turns PRISM_MEMBER from what `old` held: listening begins, or the BP ports go
dark (R22, R302). -/
def State.followMember (s : State) (old w : Word) : State :=
  if old.fld 30 30 = 0 ∧ w.fld 30 30 = 1 then (if s.on 19 then s.startListening else s)
  else if old.fld 30 30 = 1 ∧ w.fld 30 30 = 0 ∧ s.wd.isNone then s.leavePrism
  else s

theorem State.assigned_iff (s : State) : s.assigned = true ↔ s.fld R.GLB_FABRIC_ID 31 31 = 1 := beq_iff_eq

/-- A changed identity while ASSIGNED is and stays 1 is discarded as a whole. -/
theorem execFabricIdWrite_discards {s : State} {w : Word} (ha : s.assigned = true) (hw : w.fld 31 31 = 1)
    (hc : s.changesIdentity w) : execFabricIdWrite w s = ok s := by
  refine if_pos ⟨?_, s.assigned_iff.mp ha, hw⟩
  simp only [Bool.or_eq_true, bne_iff_ne]
  exact or_assoc.mpr hc

/-- Any other write stores the identity, and Prism follows PRISM_MEMBER. -/
theorem execFabricIdWrite_stores {s : State} {w : Word}
    (h : ¬ (s.changesIdentity w ∧ s.assigned = true ∧ w.fld 31 31 = 1)) :
    execFabricIdWrite w s = ok ((s.storeIdentity w).followMember (s.rd R.GLB_FABRIC_ID) w) := by
  unfold execFabricIdWrite
  rw [if_neg]
  · rw [State.followMember, apply_ite ok, apply_ite ok (_ = 1 ∧ _)]
    rfl
  · rintro ⟨hc, ha, hw⟩
    simp only [Bool.or_eq_true, bne_iff_ne, or_assoc] at hc
    exact h ⟨hc, s.assigned_iff.mpr ha, hw⟩

/-- Listening and leaving Prism change neither the registers nor the withdrawal. -/
theorem State.followMember_within (s : State) (old w : Word) : Within 13826002900 s (s.followMember old w) := by
  have frame := Within.refl 13826002900 s
  unfold State.followMember
  split
  · split
    · exact State.startListening_step rfl frame
    · exact frame
  · split
    · exact State.leavePrism_step rfl frame
    · exact frame

theorem State.followMember_rd (s : State) (old w : Word) (off : Nat) : (s.followMember old w).rd off = s.rd off := by
  rw [State.rd, (s.followMember_within old w).regs_eq (by decide), ← State.rd]

theorem State.followMember_wd (s : State) (old w : Word) : (s.followMember old w).wd = s.wd :=
  (s.followMember_within old w).wd_eq (by decide)

theorem State.rd_storeIdentity {s : State} (h : s.canonical = true) (w : Word) :
    (s.storeIdentity w).rd R.GLB_FABRIC_ID = storeWord R.GLB_FABRIC_ID w (s.rd R.GLB_FABRIC_ID) := by
  rw [← State.rd_store_self (State.canonical.regs h), State.storeIdentity]
  split
  · rw [State.rd, State.beginWithdraw_regs, ← State.rd]
  · rfl

/-- Clearing ASSIGNED begins an orderly withdrawal. -/
theorem State.storeIdentity_wd_of_clears {s : State} {w : Word} (ha : s.assigned = true) (hw : w.fld 31 31 = 0)
    (hn : s.wd = none) : (s.storeIdentity w).wd = some ⟨s.now + 100000, [.identity]⟩ := by
  rw [State.storeIdentity, if_pos ⟨s.assigned_iff.mp ha, hw⟩,
    State.beginWithdraw_wd_of_none _ _ ((s.store_wd _ _).trans hn), State.now, State.store_clk]

/-- A write that does not clear ASSIGNED leaves the withdrawal as it is. -/
theorem State.storeIdentity_wd_of_keeps {s : State} {w : Word} (h : s.assigned = false ∨ w.fld 31 31 = 1) :
    (s.storeIdentity w).wd = s.wd := by
  rw [State.storeIdentity, if_neg, State.store_wd]
  rintro ⟨ha, hw⟩
  rcases h with h | h
  · rw [s.assigned_iff.mpr ha] at h
    cases h
  · omega

/-- Settles O59: a write that changes the identity while ASSIGNED stays 1 is the discarded branch of FABRIC_ID_WRITE;
every other write stores its four fields, withdraws where it clears ASSIGNED, and what follows for Prism keeps both. -/
theorem identityIsChangedInTwoWrites : Obligations.IdentityIsChangedInTwoWrites := by
  unfold Obligations.IdentityIsChangedInTwoWrites
  intro s w canonical
  refine ⟨fun ha hw hc => execFabricIdWrite_discards ha hw hc, fun h => ?_⟩
  have stores : ¬ (s.changesIdentity w ∧ s.assigned = true ∧ w.fld 31 31 = 1) := by
    rintro ⟨hc, ha, hw⟩
    rcases h with h | h | ⟨spine, member, pos⟩
    · rw [ha] at h
      cases h
    · omega
    · rcases hc with c | c | c
      · exact c spine
      · exact c member
      · exact c pos
  have fields {hi lo : Nat} (k : ∀ i, lo ≤ i → i ≤ hi → i ≤ 9 ∨ 16 ≤ i ∧ i ≤ 21 ∨ i = 30 ∨ i = 31) :
      ((s.storeIdentity w).followMember (s.rd R.GLB_FABRIC_ID) w).fld R.GLB_FABRIC_ID hi lo = w.fld hi lo := by
    rw [State.fld, State.followMember_rd, State.rd_storeIdentity canonical, fld_storeWord_fabricId w _ k]
  refine ⟨_, execFabricIdWrite_stores stores, fields (by omega), fields (by omega), fields (by omega), ?_, ?_⟩
  · intro ha hw hn
    rw [State.followMember_wd, State.storeIdentity_wd_of_clears ha hw hn]
  · intro hk
    rw [State.followMember_wd, State.storeIdentity_wd_of_keeps hk]

end Sys2Proof.Machine

/-!
PROOFS. Egress scheduling within a queue: the turns of the sub-queues (R131), responses that no shaper holds (R134), and
what a packet's leaving does to the round over the VCs and to the shapers.
-/
namespace Sys2Proof.Machine

/-! ## The head that a queue sends next (R131, R134) -/

/-- The head of a VC's sub-queue is of that VC. -/
theorem State.headOf_vc {s : State} {egress tc vc : Nat} {it : Item} (h : s.headOf egress tc vc = some it) :
    it.vc = vc := by
  have inSubQueue : it ∈ (s.queue (qKey egress tc)).head.filter (fun x => x.vc == vc) := by
    simp only [State.headOf] at h
    split at h
    · obtain ⟨j, -, first⟩ := List.mem_filterMap.mp (List.mem_of_find?_eq_some h)
      exact List.mem_of_find?_eq_some first
    · split at h
      · cases h
      · next e =>
        split at h
        · cases h
          exact e ▸ List.mem_cons_self
        · cases h
  exact beq_iff_eq.mp (List.mem_filter.mp inSubQueue).2

/-- A ready VC_RSP head goes first. -/
theorem State.nextHead_of_response {s : State} {egress tc : Nat} {it : Item} (h : s.headOf egress tc vcRSP = some it) :
    s.nextHead egress tc = some it := by
  rw [State.nextHead, List.filterMap_cons_some h, List.head?_cons]

/-- A queue with a ready VC_RSP head is eligible for it, whatever its shapers hold. -/
theorem State.eligible_of_response {s : State} {egress tc : Nat} {it : Item} (h : s.headOf egress tc vcRSP = some it) :
    s.eligible egress tc = some it := by
  simp only [State.eligible, State.nextHead_of_response h, State.headOf_vc h, true_or, if_true]

/-- The VCs other than VC_RSP in cyclic order, from the one after the last one served. -/
def vcAfter (last : Nat) : List Nat :=
  if last = vcREQ then [vcCOLL, vcBULK, vcREQ] else if last = vcCOLL then [vcBULK, vcREQ, vcCOLL]
  else [vcREQ, vcCOLL, vcBULK]

/-- With no VC_RSP head ready, the first ready head of the round is next. -/
theorem State.nextHead_of_no_response {s : State} {egress tc : Nat} (h : s.headOf egress tc vcRSP = none) :
    s.nextHead egress tc =
      ((vcAfter (Tbl.get (fun _ => 3) s.sched.vcLast (qKey egress tc))).filterMap
        (fun v => s.headOf egress tc v)).head? := by
  rw [State.nextHead, List.filterMap_cons_none h, vcAfter]

/-! ## What leaving a queue keeps -/

theorem Datapath.releaseCells_tails (d : Datapath) (id : Nat) : (d.releaseCells id).tails = d.tails := by
  unfold Datapath.releaseCells
  split <;> rfl

theorem Datapath.replicaDone_tails (d : Datapath) (id : Nat) : (d.replicaDone id).tails = d.tails := by
  unfold Datapath.replicaDone
  split
  · rfl
  · split
    · exact d.releaseCells_tails id
    · rfl

theorem Datapath.freed_tails (d : Datapath) (q : Nat) (it : Item) : (d.freed q it).tails = d.tails := by
  unfold Datapath.freed
  cases it.charge with
  | replica =>
    cases it.mcast with
    | none => rfl
    | some id => exact Datapath.replicaDone_tails _ id
  | _ => rfl

/-- Freeing an item's cells leaves the tails that are awaited. -/
theorem State.freeItem_tails (s : State) (q : Nat) (it : Item) : (s.freeItem q it).dp.tails = s.dp.tails := by
  unfold State.freeItem
  split
  · rfl
  · split
    · rw [(State.returnCredits_within _ _ _ _).dp_eq (by decide)]
      exact s.dp.freed_tails q it
    · exact s.dp.freed_tails q it

/-- The datapath's side of a packet's leaving: taken from its queue, its cells freed, and read-back begun. -/
def State.takeFromQueue (s : State) (k : Nat) (it : Item) : State :=
  ((s.setQueue k ((s.queue k).without it.id it.mcast)).freeItem k it).readbackQ k

theorem State.takeFromQueue_sched (s : State) (k : Nat) (it : Item) : (s.takeFromQueue k it).sched = s.sched :=
  (State.readbackQ_step (m := 272) rfl (State.freeItem_step rfl (State.setQueue_step rfl (Within.refl _ s)))).sched_eq
    (by decide)

theorem State.takeFromQueue_tails (s : State) (k : Nat) (it : Item) : (s.takeFromQueue k it).dp.tails = s.dp.tails :=
  (s.setQueue k _).freeItem_tails k it

/-- The round over a queue's VCs after a packet is sent: a response leaves it, any other packet's VC is the last one served
(R131). -/
def State.servedVc (s : State) (k : Nat) (it : Item) : Tbl Nat :=
  if it.vc = vcRSP then s.sched.vcLast else Tbl.put (fun _ => 3) s.sched.vcLast k it.vc

/-- A packet taken from its queue, and its VC noted in the round. -/
def State.serveFrom (s : State) (k : Nat) (it : Item) : State :=
  let t := s.takeFromQueue k it
  { t with sched := { t.sched with vcLast := t.servedVc k it } }

/-- Leaving a queue is serving the packet, with the queue's deficit lost where it is left empty. -/
theorem State.leaveQueue_eq_or (s : State) (egress tc : Nat) (it : Item) :
    s.leaveQueue egress tc it = (s.serveFrom (qKey egress tc) it).setDeficit egress tc 0
      ∨ s.leaveQueue egress tc it = s.serveFrom (qKey egress tc) it :=
  iteInduction (motive := fun t => t = (s.serveFrom (qKey egress tc) it).setDeficit egress tc 0
    ∨ t = s.serveFrom (qKey egress tc) it) (fun _ => .inl rfl) (fun _ => .inr rfl)

theorem State.leaveQueue_vcLast (s : State) (egress tc : Nat) (it : Item) :
    (s.leaveQueue egress tc it).sched.vcLast = s.servedVc (qKey egress tc) it := by
  have served : (s.serveFrom (qKey egress tc) it).sched.vcLast = s.servedVc (qKey egress tc) it := by
    simp only [State.serveFrom, State.servedVc, State.takeFromQueue_sched]
  rcases s.leaveQueue_eq_or egress tc it with e | e
  · rw [e]
    exact served
  · rw [e]
    exact served

theorem State.leaveQueue_shapers (s : State) (egress tc : Nat) (it : Item) :
    (s.leaveQueue egress tc it).sched.shapers = s.sched.shapers := by
  have kept := congrArg Sched.shapers (s.takeFromQueue_sched (qKey egress tc) it)
  rcases s.leaveQueue_eq_or egress tc it with e | e
  · rw [e]
    exact kept
  · rw [e]
    exact kept

theorem State.leaveQueue_tails (s : State) (egress tc : Nat) (it : Item) :
    (s.leaveQueue egress tc it).dp.tails = s.dp.tails := by
  have kept := s.takeFromQueue_tails (qKey egress tc) it
  rcases s.leaveQueue_eq_or egress tc it with e | e
  · rw [e]
    exact kept
  · rw [e]
    exact kept

/-! ## What a charge and a transmission keep -/

theorem State.chargeShaper_vcLast (s : State) (egress i len : Nat) :
    (s.chargeShaper egress i len).sched.vcLast = s.sched.vcLast := by
  simp only [State.chargeShaper]
  split <;> rfl

theorem State.chargeBoth_vcLast (s : State) (egress tc len : Nat) :
    (s.chargeBoth egress tc len).sched.vcLast = s.sched.vcLast := by
  rw [State.chargeBoth, State.chargeShaper_vcLast, State.chargeShaper_vcLast]

theorem State.transmit_sched (s : State) (egress : Nat) (it : Item) : (s.transmit egress it).sched = s.sched :=
  (State.transmit_within s egress it).sched_eq (by decide)

/-! ## One packet sent from a queue -/

/-- The packet starts before its tail has passed (R117). -/
def State.awaitsTail (s : State) (it : Item) : Bool := s.dp.tails.any (fun t => t.id == it.id)

/-- The scheduler after a packet is sent: the packet has left its queue and is charged to both shapers, but for a frame whose
tail has not passed (R133, R134). -/
theorem State.sendFrom_sched (s : State) (egress tc : Nat) (it : Item) :
    (s.sendFrom egress tc it).sched =
      if it.isEth = true ∧ s.awaitsTail it = true then (s.leaveQueue egress tc it).sched
      else ((s.leaveQueue egress tc it).chargeBoth egress tc (s.itemLen egress it)).sched := by
  have fly : (s.leaveQueue egress tc it).dp.tails.any (fun t => t.id == it.id) = s.awaitsTail it := by
    rw [State.leaveQueue_tails, State.awaitsTail]
  unfold State.sendFrom
  simp only [fly, Bool.and_eq_true, and_comm (a := s.awaitsTail it = true)]
  by_cases f : s.awaitsTail it = true
  · rw [if_pos f]
    split <;> rfl
  · rw [if_neg f, State.transmit_sched]
    split <;> rfl

theorem State.sendFrom_vcLast (s : State) (egress tc : Nat) (it : Item) :
    (s.sendFrom egress tc it).sched.vcLast = s.servedVc (qKey egress tc) it := by
  rw [State.sendFrom_sched]
  split
  · exact s.leaveQueue_vcLast egress tc it
  · rw [State.chargeBoth_vcLast, State.leaveQueue_vcLast]

theorem State.sendFrom_shapers (s : State) (egress tc : Nat) (it : Item) :
    (s.sendFrom egress tc it).sched.shapers =
      if it.isEth = true ∧ s.awaitsTail it = true then s.sched.shapers
      else ((s.leaveQueue egress tc it).chargeBoth egress tc (s.itemLen egress it)).sched.shapers := by
  rw [State.sendFrom_sched, apply_ite Sched.shapers, State.leaveQueue_shapers]

/-- The VC last served after a packet is sent. -/
theorem State.get_servedVc {s : State} (h : Tbl.wf (fun _ => 3) s.sched.vcLast = true) (k : Nat) (it : Item) :
    Tbl.get (fun _ => 3) (s.servedVc k it) k =
      if it.vc = vcRSP then Tbl.get (fun _ => 3) s.sched.vcLast k else it.vc := by
  unfold State.servedVc
  split
  · rfl
  · exact Tbl.get_put_self h k it.vc

/-- The choice of a port leaves the datapath. -/
theorem State.choose_dp {s u : State} {egress : Nat} {r : Option (Nat × Item)} (h : s.choose egress = (r, u)) :
    u.dp = s.dp :=
  (Within.ofSnd h (State.choose_within s egress)).dp_eq (by decide)

/-- EGRESS_SCHEDULE of a port that is not held sends the packet that the port chooses (R130). -/
theorem exec_egressSchedule_of_choose {s u : State} {egress : Fin 1094} {tc : Nat} {it : Item}
    (notIsolated : s.tel.isolated = []) (notHeld : s.islandHeld (6 + egress / 64) = false)
    (chosen : s.choose egress = (some (tc, it), u)) :
    exec (.egressSchedule egress) s = .next (u.sendFrom egress tc it) := by
  change ok (s.schedule egress) = _
  rw [State.schedule, if_neg, chosen]
  simp only [notIsolated, notHeld, List.contains_nil, Bool.false_eq_true, and_false, or_self, not_false_eq_true]

/-- Settles O19: a ready response is the first of the heads in order and eligible by its VC alone; the order of the other VCs
is the model's for each of the three last served; and the packet chosen is sent, which serves its VC and charges it. -/
theorem subQueuesTakeTurns : Obligations.SubQueuesTakeTurns := by
  unfold Obligations.SubQueuesTakeTurns
  intro s egress tc
  refine ⟨fun it ready => ⟨State.nextHead_of_response ready, State.eligible_of_response ready⟩, ?_, ?_⟩
  · intro last order turn noResponse served
    rw [State.nextHead_of_no_response noResponse, served]
    simp only [List.mem_cons, List.not_mem_nil, or_false, Prod.mk.injEq] at turn
    obtain ⟨rfl, rfl⟩ | ⟨rfl, rfl⟩ | ⟨rfl, rfl⟩ := turn
    · rfl
    · rfl
    · rfl
  · intro it u notIsolated notHeld chosen wf
    refine ⟨_, exec_egressSchedule_of_choose notIsolated notHeld chosen, ?_, ?_⟩
    · rw [State.sendFrom_vcLast, State.get_servedVc wf]
    · rw [State.sendFrom_shapers, State.awaitsTail, State.choose_dp chosen]
      rfl

end Sys2Proof.Machine

/-!
PROOFS. The held table (R258, R260, R261): which operations leave what an entry holds, how a completed request leaves its
entry, and the release of an empty entry.
-/
namespace Sys2Proof.Machine

/-! ## What leaves the entries of the held table -/

/-- An entry is empty when no outstanding request is held there. -/
theorem State.heldAt_eq_none {s : State} {i : Nat} :
    s.heldAt i = none ↔ ∀ x ∈ s.req.out, ∀ t, x.held ≠ some (i, t) := by
  rw [State.heldAt, List.find?_eq_none]
  refine forall₂_congr fun x _ => ?_
  rcases x.held with _ | ⟨j, since⟩
  · simp
  · simp

/-- The held table is a part of the requesters' state. -/
theorem State.heldAt_congr {s t : State} (h : t.req = s.req) (i : Nat) : t.heldAt i = s.heldAt i := by
  rw [State.heldAt, h, State.heldAt]

/-- A request issued is not held. -/
theorem State.issue_heldAt (s : State) (origin : Nat) (use : ReqUse) (q : ReqSpec) (i : Nat) :
    (s.issue origin use q).heldAt i = s.heldAt i := by
  rw [State.issue, State.heldAt_congr ((State.originate_within _ _).req_eq (by decide)),
    State.heldAt_congr ((State.takeSeq_within _ _ _ _).req_eq (by decide)), State.heldAt, List.find?_append,
    List.find?_singleton, if_neg Bool.false_ne_true, Option.or_none]
  rfl

theorem State.sendPiece_heldAt (s : State) (ring idx n i : Nat) : (s.sendPiece ring idx n).heldAt i = s.heldAt i := by
  unfold State.sendPiece
  split
  · rfl
  · split
    · rfl
    · dsimp only
      split
      · rw [State.issue_heldAt, State.heldAt_congr ((State.setRing_within _ _ _).req_eq (by decide))]
      · rfl

/-- What every element's operation leaves, the whole list's leaves. -/
theorem forEach_heldAt {α : Type} {f : α → State → State} {i : Nat} (h : ∀ x s, (f x s).heldAt i = s.heldAt i)
    (l : List α) (s : State) : (forEach f l s).heldAt i = s.heldAt i := by
  induction l generalizing s with
  | nil => rfl
  | cons x l ih => rw [forEach, ih, h]

theorem State.sendMore_heldAt (s : State) (ring i : Nat) : (s.sendMore ring).heldAt i = s.heldAt i :=
  forEach_heldAt (f := fun (x : Nat × Nat) u => u.sendPiece ring x.1 x.2)
    (fun x u => u.sendPiece_heldAt ring x.1 x.2 i) _ s

/-- A piece's end sends what may follow it, and holds nothing. -/
theorem State.pieceEnds_heldAt (s : State) (ring idx n status old : Nat) (data : List Byte) (i : Nat) :
    (s.pieceEnds ring idx n status old data).heldAt i = s.heldAt i := by
  unfold State.pieceEnds
  split
  · rfl
  · split
    · rfl
    · dsimp only
      rw [State.sendMore_heldAt, State.heldAt_congr ((State.settleDesc_within _ _ _ _).req_eq (by decide)),
        State.heldAt_congr ((State.setRing_within _ _ _).req_eq (by decide))]
      split
      · exact State.heldAt_congr ((State.hostWrites_within _ _).req_eq (by decide)) i
      · rfl

/-! ## A completed request leaves the held table -/

/-- What follows a completion holds nothing: the table is the one that the request left. -/
theorem State.completeReq_heldAt (s : State) (r : OutReq) (result : Nat) (poison : Bool) (old : Nat) (data : List Byte)
    (i : Nat) : (s.completeReq r result poison old data).heldAt i = (s.dropReq r).heldAt i := by
  unfold State.completeReq
  cases r.use with
  | piece ring idx n => exact State.pieceEnds_heldAt _ ring idx n _ old data i
  | notify ring cmd => exact State.heldAt_congr ((State.updDie_within _ _ _).req_eq (by decide)) i

/-- An entry that only a request's own origin and tag hold is empty once the request is gone. -/
theorem State.dropReq_heldAt {s : State} {r : OutReq} {i : Nat}
    (only : ∀ x ∈ s.req.out, ∀ t, x.held = some (i, t) → x.origin = r.origin ∧ x.tag = r.tag) :
    (s.dropReq r).heldAt i = none := by
  refine State.heldAt_eq_none.mpr fun x kept t held => ?_
  obtain ⟨outstanding, other⟩ := List.mem_filter.mp kept
  obtain ⟨origin, tag⟩ := only x outstanding t held
  simp [origin, tag] at other

/-! ## RESPONSE_RECEIVE of an answer (R258, R260) -/

/-- A response answers a request: its origin, tag, type, responder and space are those of the request (R258). -/
def OutReq.answeredBy (r : OutReq) (p : Packet) : Bool :=
  r.origin == rspOrigin p && r.tag == p.fld 5 31 16 && tyResponse p.ty && rspType r.pkt.ty == p.ty
    && r.pkt.dest == p.src && r.space == p.sspace

/-- The answer to a request taken from the hub's input: it is echoed where it asks for that, and a held request counts as
resolved (R260). -/
def State.takeAnswer (s : State) (it : Item) (l : List Item) (r : OutReq) : State :=
  let t := (s.unitTake 5 it l).echo it.pkt
  if r.held.isSome then t.bump C.MEM_REQ_HELD_RESOLVED 1 else t

theorem State.takeAnswer_within (s : State) (it : Item) (l : List Item) (r : OutReq) :
    Within 1073741844 s (s.takeAnswer it l r) := by
  have taken : Within 1073741844 s ((s.unitTake 5 it l).echo it.pkt) :=
    State.echo_step rfl (State.unitTake_step rfl (Within.refl _ s))
  unfold State.takeAnswer
  split
  · exact State.bump_step rfl taken
  · exact taken

/-- The response at the head of the hub's input completes the request that it answers. -/
theorem exec_responseReceive_of_answer {s : State} {it : Item} {l : List Item} {r : OutReq} (head : s.hubIn = it :: l)
    (notAck : it.pkt.ty ≠ tyACK) (found : s.req.out.find? (·.answeredBy it.pkt) = some r) :
    exec .responseReceive s = .next ((s.takeAnswer it l r).completeReq r (it.pkt.fld 5 15 12) (it.pkt.fld 5 11 11 == 1)
      (it.pkt.fld 6 31 0 * 2 ^ 32 + it.pkt.fld 7 31 0) it.pkt.payload) := by
  have requests : ((s.unitTake 5 it l).echo it.pkt).req = s.req :=
    (State.echo_step (m := 1073741840) rfl (State.unitTake_step rfl (Within.refl _ s))).req_eq (by decide)
  change execResponseReceive s = _
  simp only [OutReq.answeredBy] at found
  simp only [execResponseReceive, head, if_neg notAck, requests, found, State.takeAnswer]

/-! ## HELD_RELEASE (R260, R261) -/

/-- The release of an empty entry answers status 4, and does nothing else. -/
theorem exec_heldRelease_of_empty {s : State} {index : Fin 4096} (on : s.on (regDomain R.MEM_HELD_CMD) = true)
    (empty : s.heldAt index = none) : exec (.heldRelease index) s = .next (s.setF R.MEM_HELD_STAT 3 0 4) := by
  change execHeldRelease index s = _
  rw [execHeldRelease, State.gate, if_pos on, empty]
  rfl

/-- Settles O36: the release of an empty entry is its own law; a response completes the request, which leaves the entry
empty and the domain on, so that the release after it is one of an empty entry. -/
theorem aReleaseAfterTheResponseFindsNoEntry : Obligations.AReleaseAfterTheResponseFindsNoEntry := by
  unfold Obligations.AReleaseAfterTheResponseFindsNoEntry
  intro s index on
  refine ⟨fun empty => exec_heldRelease_of_empty on empty, ?_⟩
  intro it l r _ head notAck _ _ found only
  have taken := s.takeAnswer_within it l r
  refine ⟨_, exec_responseReceive_of_answer head notAck found, ?_⟩
  have empty (result old : Nat) (poison : Bool) (data : List Byte) :
      ((s.takeAnswer it l r).completeReq r result poison old data).heldAt index = none := by
    rw [State.completeReq_heldAt]
    refine State.dropReq_heldAt fun x outstanding t held => only x t ?_ held
    rwa [taken.req_eq (by decide)] at outstanding
  have stillOn (result old : Nat) (poison : Bool) (data : List Byte) :
      ((s.takeAnswer it l r).completeReq r result poison old data).on (regDomain R.MEM_HELD_CMD) = true := by
    rw [State.on, State.domSt, (State.completeReq_within _ _ _ _ _ _).dom_eq (by decide), taken.dom_eq (by decide)]
    exact on
  exact ⟨empty _ _ _ _, exec_heldRelease_of_empty (stillOn _ _ _ _) (empty _ _ _ _)⟩

end Sys2Proof.Machine

/-!
PROOFS. The step at the front of the queue, and the state after reset.
-/
namespace Sys2Proof.Machine

/-- Settles O1: the step's own equation for a queue that is not empty. -/
theorem stepRunsTheOldestCommand : Obligations.StepRunsTheOldestCommand := fun _ _ _ => rfl

theorem on_reset_iff (n : Nat) : State.reset.on n = true ↔ n = 1 := by
  have h : State.reset.domSt n = if n = 1 then .on else .off := by
    simp [State.domSt, State.reset, Tbl.get, eq_comm]
  rw [State.on, h]
  split <;> simp_all

/-- Settles O6. -/
theorem resetIsCanonical : Obligations.ResetIsCanonical :=
  ⟨by decide, rfl, rfl, rfl, on_reset_iff⟩

end Sys2Proof.Machine

/-!
PROOFS. Every command answers a next state, but for the RESET_N pulse whose outcome the spec leaves undefined (R443).
-/
namespace Sys2Proof.Machine

/-- An outcome that is a next state. -/
def Completes (o : Host.Outcome State Fault Refusal) : Prop := ∃ t, o = .next t

theorem completes_ok (s : State) : Completes (ok s) := ⟨s, rfl⟩

theorem execResetNAssert_completes (ns : Nat) (s : State) (h : ns < 1000 ∨ 10000 ≤ ns) :
    Completes (execResetNAssert ns s) := by
  have k : ns < 1000 ∨ ¬ ns < 10000 := h.imp_right Nat.not_lt.mpr
  unfold execResetNAssert
  repeat' first | exact completes_ok _ | split
  · omega

theorem execRegisterWrite_completes : ∀ a0 a1 a2 (s : State), Completes (execRegisterWrite a0 a1 a2 s) := by
  intro a0 a1 a2 s
  unfold execRegisterWrite
  repeat' first | with_reducible exact completes_ok _ | split

theorem execFabricIdWrite_completes : ∀ a0 (s : State), Completes (execFabricIdWrite a0 s) := by
  intro a0 s
  unfold execFabricIdWrite
  repeat' first | with_reducible exact completes_ok _ | split | extract_lets

theorem execWithdrawalDrainEnd_completes (s : State) : Completes (execWithdrawalDrainEnd s) := by
  unfold execWithdrawalDrainEnd
  repeat' first | with_reducible exact completes_ok _ | split

theorem execWarmResetRequest_completes (s : State) : Completes (execWarmResetRequest s) := by
  unfold execWarmResetRequest
  repeat' first | with_reducible exact completes_ok _ | split

theorem execDomainResetRequest_completes : ∀ a0 (s : State), Completes (execDomainResetRequest a0 s) := by
  intro a0 s
  unfold execDomainResetRequest
  repeat' first | with_reducible exact completes_ok _ | split | extract_lets

theorem execFirmwareWatchdog_completes (s : State) : Completes (execFirmwareWatchdog s) := by
  unfold execFirmwareWatchdog
  repeat' first | with_reducible exact completes_ok _ | split | extract_lets

theorem execThermalHoldEnd_completes (s : State) : Completes (execThermalHoldEnd s) := by
  unfold execThermalHoldEnd
  repeat' first | with_reducible exact completes_ok _ | split

theorem execImageCheckDone_completes : ∀ a0 (s : State), Completes (execImageCheckDone a0 s) := by
  intro a0 s
  unfold execImageCheckDone
  repeat' first | with_reducible exact completes_ok _ | split | extract_lets

theorem execHostBootTimeout_completes (s : State) : Completes (execHostBootTimeout s) := by
  unfold execHostBootTimeout
  repeat' first | with_reducible exact completes_ok _ | split

theorem execBootBackoffExpiry_completes (s : State) : Completes (execBootBackoffExpiry s) := by
  unfold execBootBackoffExpiry
  repeat' first | with_reducible exact completes_ok _ | split

theorem execBringupDone_completes : ∀ a0 a1 (s : State), Completes (execBringupDone a0 a1 s) := by
  intro a0 a1 s
  unfold execBringupDone
  repeat' first | with_reducible exact completes_ok _ | split

theorem execBootRecordClear_completes (s : State) : Completes (execBootRecordClear s) := by
  unfold execBootRecordClear
  repeat' first | with_reducible exact completes_ok _ | split

theorem execFlashProgram_completes : ∀ a0 a1 (s : State), Completes (execFlashProgram a0 a1 s) := by
  intro a0 a1 s
  unfold execFlashProgram
  repeat' first | with_reducible exact completes_ok _ | split

theorem execFlashProgramDone_completes : ∀ a0 (s : State), Completes (execFlashProgramDone a0 s) := by
  intro a0 s
  unfold execFlashProgramDone
  repeat' first | with_reducible exact completes_ok _ | split

theorem execSecRaiseMinSvn_completes (s : State) : Completes (execSecRaiseMinSvn s) := by
  unfold execSecRaiseMinSvn
  repeat' first | with_reducible exact completes_ok _ | split | extract_lets

theorem execSecBurnOwnerHash_completes : ∀ a0 (s : State), Completes (execSecBurnOwnerHash a0 s) := by
  intro a0 s
  unfold execSecBurnOwnerHash
  repeat' first | with_reducible exact completes_ok _ | split

theorem execAttestReportDone_completes (s : State) : Completes (execAttestReportDone s) := by
  unfold execAttestReportDone
  repeat' first | with_reducible exact completes_ok _ | split

theorem execHeaderArrival_completes : ∀ a0 (s : State), Completes (execHeaderArrival a0 s) := by
  intro a0 s
  unfold execHeaderArrival
  repeat' first | with_reducible exact completes_ok _ | split

theorem execHeaderLookup_completes : ∀ a0 a1 (s : State), Completes (execHeaderLookup a0 a1 s) := by
  intro a0 a1 s
  unfold execHeaderLookup
  repeat' first | with_reducible exact completes_ok _ | split

theorem execPacketAdmitRetry_completes : ∀ a0 a1 (s : State), Completes (execPacketAdmitRetry a0 a1 s) := by
  intro a0 a1 s
  unfold execPacketAdmitRetry
  repeat' first | with_reducible exact completes_ok _ | split

theorem execPacketTail_completes : ∀ a0 (s : State), Completes (execPacketTail a0 s) := by
  intro a0 s
  unfold execPacketTail
  repeat' first | with_reducible exact completes_ok _ | split

theorem execAgeLimitExpiry_completes : ∀ a0 a1 (s : State), Completes (execAgeLimitExpiry a0 a1 s) := by
  intro a0 a1 s
  unfold execAgeLimitExpiry
  repeat' first | with_reducible exact completes_ok _ | split | extract_lets

theorem execShaperEligible_completes : ∀ a0 a1 (s : State), Completes (execShaperEligible a0 a1 s) := by
  intro a0 a1 s
  unfold execShaperEligible
  repeat' first | with_reducible exact completes_ok _ | split

theorem execSpillBlockWrite_completes : ∀ a0 a1 (s : State), Completes (execSpillBlockWrite a0 a1 s) := by
  intro a0 a1 s
  unfold execSpillBlockWrite
  repeat' first | with_reducible exact completes_ok _ | split | extract_lets

theorem execSpillWriteConfirm_completes : ∀ a0 a1 (s : State), Completes (execSpillWriteConfirm a0 a1 s) := by
  intro a0 a1 s
  unfold execSpillWriteConfirm
  repeat' first | with_reducible exact completes_ok _ | split | extract_lets

theorem execSpillBlockReturn_completes : ∀ a0 a1 a2 (s : State), Completes (execSpillBlockReturn a0 a1 a2 s) := by
  intro a0 a1 a2 s
  unfold execSpillBlockReturn
  repeat' first | with_reducible exact completes_ok _ | split | extract_lets

theorem execNopathTimeout_completes (s : State) : Completes (execNopathTimeout s) := by
  unfold execNopathTimeout
  repeat' first | with_reducible exact completes_ok _ | split

theorem execRateLimitRecover_completes : ∀ a0 (s : State), Completes (execRateLimitRecover a0 s) := by
  intro a0 s
  unfold execRateLimitRecover
  repeat' first | with_reducible exact completes_ok _ | split | extract_lets

theorem execDepthRefresh_completes : ∀ a0 (s : State), Completes (execDepthRefresh a0 s) := by
  intro a0 s
  unfold execDepthRefresh
  repeat' first | with_reducible exact completes_ok _ | split

theorem execEaselWeightUpdate_completes : ∀ a0 (s : State), Completes (execEaselWeightUpdate a0 s) := by
  intro a0 s
  unfold execEaselWeightUpdate
  repeat' first | with_reducible exact completes_ok _ | split | extract_lets

theorem execEaselRebalance_completes : ∀ a0 a1 (s : State), Completes (execEaselRebalance a0 a1 s) := by
  intro a0 a1 s
  unfold execEaselRebalance
  repeat' first | with_reducible exact completes_ok _ | split | extract_lets

theorem execSettleExpiry_completes : ∀ a0 a1 (s : State), Completes (execSettleExpiry a0 a1 s) := by
  intro a0 a1 s
  unfold execSettleExpiry
  repeat' first | with_reducible exact completes_ok _ | split

theorem execPathMarkReceive_completes (s : State) : Completes (execPathMarkReceive s) := by
  unfold execPathMarkReceive
  repeat' first | with_reducible exact completes_ok _ | split

theorem execPathMarkAckSend_completes (s : State) : Completes (execPathMarkAckSend s) := by
  unfold execPathMarkAckSend
  repeat' first | with_reducible exact completes_ok _ | split

theorem execPathMarkAckReceive_completes (s : State) : Completes (execPathMarkAckReceive s) := by
  unfold execPathMarkAckReceive
  repeat' first | with_reducible exact completes_ok _ | split | extract_lets

theorem execMarkTimeout_completes : ∀ a0 a1 (s : State), Completes (execMarkTimeout a0 a1 s) := by
  intro a0 a1 s
  unfold execMarkTimeout
  repeat' first | with_reducible exact completes_ok _ | split

theorem execEpochReached_completes (s : State) : Completes (execEpochReached s) := by
  unfold execEpochReached
  repeat' first | with_reducible exact completes_ok _ | split

theorem execMcastReplicate_completes (s : State) : Completes (execMcastReplicate s) := by
  unfold execMcastReplicate
  repeat' first | with_reducible exact completes_ok _ | split

theorem execContextFreed_completes : ∀ a0 (s : State), Completes (execContextFreed a0 s) := by
  intro a0 s
  unfold execContextFreed
  repeat' first | with_reducible exact completes_ok _ | split | extract_lets

theorem execSegmentAreaGrant_completes : ∀ a0 a1 a2 (s : State), Completes (execSegmentAreaGrant a0 a1 a2 s) := by
  intro a0 a1 a2 s
  unfold execSegmentAreaGrant
  repeat' first | with_reducible exact completes_ok _ | split | extract_lets

theorem execBatchWaitExpiry_completes : ∀ a0 a1 a2 (s : State), Completes (execBatchWaitExpiry a0 a1 a2 s) := by
  intro a0 a1 a2 s
  unfold execBatchWaitExpiry
  repeat' first | with_reducible exact completes_ok _ | split | extract_lets

theorem execCanvasBatchAdmit_completes : ∀ a0 a1 a2 (s : State), Completes (execCanvasBatchAdmit a0 a1 a2 s) := by
  intro a0 a1 a2 s
  unfold execCanvasBatchAdmit
  repeat' first | with_reducible exact completes_ok _ | split | extract_lets

theorem execBatchFolded_completes : ∀ a0 a1 a2 (s : State), Completes (execBatchFolded a0 a1 a2 s) := by
  intro a0 a1 a2 s
  unfold execBatchFolded
  repeat' first | with_reducible exact completes_ok _ | split | extract_lets

theorem execSegmentTimeout_completes : ∀ a0 a1 a2 (s : State), Completes (execSegmentTimeout a0 a1 a2 s) := by
  intro a0 a1 a2 s
  unfold execSegmentTimeout
  repeat' first | with_reducible exact completes_ok _ | split | extract_lets

theorem execSegmentEncodeDone_completes : ∀ a0 a1 a2 (s : State), Completes (execSegmentEncodeDone a0 a1 a2 s) := by
  intro a0 a1 a2 s
  unfold execSegmentEncodeDone
  repeat' first | with_reducible exact completes_ok _ | split | extract_lets

theorem execPhaseMarkReceive_completes (s : State) : Completes (execPhaseMarkReceive s) := by
  unfold execPhaseMarkReceive
  repeat' first | with_reducible exact completes_ok _ | split | extract_lets

theorem execChildResultTimeout_completes : ∀ a0 a1 a2 (s : State), Completes (execChildResultTimeout a0 a1 a2 s) := by
  intro a0 a1 a2 s
  unfold execChildResultTimeout
  repeat' first | with_reducible exact completes_ok _ | split | extract_lets

theorem execRecoverCopyDone_completes : ∀ a0 (s : State), Completes (execRecoverCopyDone a0 s) := by
  intro a0 s
  unfold execRecoverCopyDone
  repeat' first | with_reducible exact completes_ok _ | split | extract_lets

theorem execLaneGroupSwap_completes : ∀ a0 (s : State), Completes (execLaneGroupSwap a0 s) := by
  intro a0 s
  unfold execLaneGroupSwap
  repeat' first | with_reducible exact completes_ok _ | split | extract_lets

theorem execEngineScrubDone_completes : ∀ a0 (s : State), Completes (execEngineScrubDone a0 s) := by
  intro a0 s
  unfold execEngineScrubDone
  repeat' first | with_reducible exact completes_ok _ | split | extract_lets

theorem execKeepExpiry_completes : ∀ a0 (s : State), Completes (execKeepExpiry a0 s) := by
  intro a0 s
  unfold execKeepExpiry
  repeat' first | with_reducible exact completes_ok _ | split | extract_lets

theorem execRampStep_completes : ∀ a0 (s : State), Completes (execRampStep a0 s) := by
  intro a0 s
  unfold execRampStep
  repeat' first | with_reducible exact completes_ok _ | split | extract_lets

theorem execGovernorStep_completes : ∀ a0 a1 a2 (s : State), Completes (execGovernorStep a0 a1 a2 s) := by
  intro a0 a1 a2 s
  unfold execGovernorStep
  repeat' first | with_reducible exact completes_ok _ | split | extract_lets

theorem execEngineFault_completes : ∀ a0 a1 a2 (s : State), Completes (execEngineFault a0 a1 a2 s) := by
  intro a0 a1 a2 s
  unfold execEngineFault
  repeat' first | with_reducible exact completes_ok _ | split

theorem execEngineResetDone_completes : ∀ a0 (s : State), Completes (execEngineResetDone a0 s) := by
  intro a0 s
  unfold execEngineResetDone
  repeat' first | with_reducible exact completes_ok _ | split | extract_lets

theorem execWatchdogExpiry_completes : ∀ a0 (s : State), Completes (execWatchdogExpiry a0 s) := by
  intro a0 s
  unfold execWatchdogExpiry
  repeat' first | with_reducible exact completes_ok _ | split | extract_lets

theorem execDoorbellRead_completes : ∀ a0 (s : State), Completes (execDoorbellRead a0 s) := by
  intro a0 s
  unfold execDoorbellRead
  repeat' first | with_reducible exact completes_ok _ | split | extract_lets

theorem execEnergyWindowStart_completes : ∀ a0 (s : State), Completes (execEnergyWindowStart a0 s) := by
  intro a0 s
  unfold execEnergyWindowStart
  repeat' first | with_reducible exact completes_ok _ | split

theorem execListAdmit_completes : ∀ a0 (s : State), Completes (execListAdmit a0 s) := by
  intro a0 s
  unfold execListAdmit
  repeat' first | with_reducible exact completes_ok _ | split | extract_lets

theorem execFenceComplete_completes : ∀ a0 (s : State), Completes (execFenceComplete a0 s) := by
  intro a0 s
  unfold execFenceComplete
  repeat' first | with_reducible exact completes_ok _ | split

theorem execFenceTimeout_completes : ∀ a0 (s : State), Completes (execFenceTimeout a0 s) := by
  intro a0 s
  unfold execFenceTimeout
  repeat' first | with_reducible exact completes_ok _ | split

theorem execNotifyResponse_completes : ∀ a0 (s : State), Completes (execNotifyResponse a0 s) := by
  intro a0 s
  unfold execNotifyResponse
  repeat' first | with_reducible exact completes_ok _ | split

theorem execMoveWritePerformed_completes : ∀ a0 a1 (s : State), Completes (execMoveWritePerformed a0 a1 s) := by
  intro a0 a1 s
  unfold execMoveWritePerformed
  repeat' first | with_reducible exact completes_ok _ | split | extract_lets

theorem execHomeRequestReceive_completes : ∀ a0 (s : State), Completes (execHomeRequestReceive a0 s) := by
  intro a0 s
  unfold execHomeRequestReceive
  repeat' first | with_reducible exact completes_ok _ | split

theorem execTrackerAllocate_completes : ∀ a0 (s : State), Completes (execTrackerAllocate a0 s) := by
  intro a0 s
  unfold execTrackerAllocate
  repeat' first | with_reducible exact completes_ok _ | split

theorem execTrackerLingerExpiry_completes : ∀ a0 a1 a2 (s : State), Completes (execTrackerLingerExpiry a0 a1 a2 s) := by
  intro a0 a1 a2 s
  unfold execTrackerLingerExpiry
  repeat' first | with_reducible exact completes_ok _ | split | extract_lets

theorem execHomeRequestPerform_completes : ∀ a0 (s : State), Completes (execHomeRequestPerform a0 s) := by
  intro a0 s
  unfold execHomeRequestPerform
  repeat' first | with_reducible exact completes_ok _ | split

theorem execLineFill_completes : ∀ a0 (s : State), Completes (execLineFill a0 s) := by
  intro a0 s
  unfold execLineFill
  repeat' first | with_reducible exact completes_ok _ | split | extract_lets

theorem execCombiningLineExpiry_completes : ∀ a0 (s : State), Completes (execCombiningLineExpiry a0 s) := by
  intro a0 s
  unfold execCombiningLineExpiry
  repeat' first | with_reducible exact completes_ok _ | split | extract_lets

theorem execResponseReceive_completes (s : State) : Completes (execResponseReceive s) := by
  unfold execResponseReceive
  repeat' first | with_reducible exact completes_ok _ | split | extract_lets

theorem execRequestRetry_completes : ∀ a0 a1 (s : State), Completes (execRequestRetry a0 a1 s) := by
  intro a0 a1 s
  unfold execRequestRetry
  repeat' first | with_reducible exact completes_ok _ | split

theorem execRequestTimerExpiry_completes : ∀ a0 a1 (s : State), Completes (execRequestTimerExpiry a0 a1 s) := by
  intro a0 a1 s
  unfold execRequestTimerExpiry
  repeat' first | with_reducible exact completes_ok _ | split | extract_lets

theorem execFixWindowMapped_completes : ∀ a0 (s : State), Completes (execFixWindowMapped a0 s) := by
  intro a0 s
  unfold execFixWindowMapped
  repeat' first | with_reducible exact completes_ok _ | split | extract_lets

theorem execEaselInterval_completes : ∀ a0 a1 a2 a3 a4 a5 a6 (s : State), Completes (execEaselInterval a0 a1 a2 a3 a4 a5 a6 s) := by
  intro a0 a1 a2 a3 a4 a5 a6 s
  unfold execEaselInterval
  repeat' first | with_reducible exact completes_ok _ | split

theorem execPageCopyDone_completes : ∀ a0 (s : State), Completes (execPageCopyDone a0 s) := by
  intro a0 s
  unfold execPageCopyDone
  repeat' first | with_reducible exact completes_ok _ | split | extract_lets

theorem execHeatHalving_completes (s : State) : Completes (execHeatHalving s) := by
  unfold execHeatHalving
  repeat' first | with_reducible exact completes_ok _ | split | extract_lets

theorem execStackDemoteDone_completes : ∀ a0 (s : State), Completes (execStackDemoteDone a0 s) := by
  intro a0 s
  unfold execStackDemoteDone
  repeat' first | with_reducible exact completes_ok _ | split | extract_lets

theorem execStackRelocateDone_completes : ∀ a0 (s : State), Completes (execStackRelocateDone a0 s) := by
  intro a0 s
  unfold execStackRelocateDone
  repeat' first | with_reducible exact completes_ok _ | split | extract_lets

theorem execStackFail_completes : ∀ a0 (s : State), Completes (execStackFail a0 s) := by
  intro a0 s
  unfold execStackFail
  repeat' first | with_reducible exact completes_ok _ | split

theorem execCxlRemoveDone_completes : ∀ a0 (s : State), Completes (execCxlRemoveDone a0 s) := by
  intro a0 s
  unfold execCxlRemoveDone
  repeat' first | with_reducible exact completes_ok _ | split

theorem execCxlPortFail_completes : ∀ a0 (s : State), Completes (execCxlPortFail a0 s) := by
  intro a0 s
  unfold execCxlPortFail
  repeat' first | with_reducible exact completes_ok _ | split | extract_lets

theorem execCxlRetrainTick_completes : ∀ a0 (s : State), Completes (execCxlRetrainTick a0 s) := by
  intro a0 s
  unfold execCxlRetrainTick
  repeat' first | with_reducible exact completes_ok _ | split

theorem execCxlDeviceEvent_completes : ∀ a0 a1 (s : State), Completes (execCxlDeviceEvent a0 a1 s) := by
  intro a0 a1 s
  unfold execCxlDeviceEvent
  repeat' first | with_reducible exact completes_ok _ | split

theorem execSlotStart_completes (s : State) : Completes (execSlotStart s) := by
  unfold execSlotStart
  repeat' first | with_reducible exact completes_ok _ | split | extract_lets

theorem execDiscoverReceive_completes : ∀ a0 a1 a2 (s : State), Completes (execDiscoverReceive a0 a1 a2 s) := by
  intro a0 a1 a2 s
  unfold execDiscoverReceive
  repeat' first | with_reducible exact completes_ok _ | split | extract_lets

theorem execLcReadyReceive_completes : ∀ a0 (s : State), Completes (execLcReadyReceive a0 s) := by
  intro a0 s
  unfold execLcReadyReceive
  repeat' first | with_reducible exact completes_ok _ | split | extract_lets

theorem execLcWithdrawReceive_completes : ∀ a0 (s : State), Completes (execLcWithdrawReceive a0 s) := by
  intro a0 s
  unfold execLcWithdrawReceive
  repeat' first | with_reducible exact completes_ok _ | split | extract_lets

theorem execPeerSilenceTimeout_completes : ∀ a0 (s : State), Completes (execPeerSilenceTimeout a0 s) := by
  intro a0 s
  unfold execPeerSilenceTimeout
  repeat' first | with_reducible exact completes_ok _ | split | extract_lets

theorem execPrismListenEnd_completes (s : State) : Completes (execPrismListenEnd s) := by
  unfold execPrismListenEnd
  repeat' first | with_reducible exact completes_ok _ | split

theorem execPatternApply_completes (s : State) : Completes (execPatternApply s) := by
  unfold execPatternApply
  repeat' first | with_reducible exact completes_ok _ | split

theorem execPlaneRetuneEnd_completes (s : State) : Completes (execPlaneRetuneEnd s) := by
  unfold execPlaneRetuneEnd
  repeat' first | with_reducible exact completes_ok _ | split

theorem execSpareWarmDone_completes : ∀ a0 a1 a2 (s : State), Completes (execSpareWarmDone a0 a1 a2 s) := by
  intro a0 a1 a2 s
  unfold execSpareWarmDone
  repeat' first | with_reducible exact completes_ok _ | split

theorem execTakeoverSwitch_completes : ∀ a0 a1 (s : State), Completes (execTakeoverSwitch a0 a1 s) := by
  intro a0 a1 s
  unfold execTakeoverSwitch
  repeat' first | with_reducible exact completes_ok _ | split | extract_lets

theorem execLaserFail_completes : ∀ a0 a1 (s : State), Completes (execLaserFail a0 a1 s) := by
  intro a0 a1 s
  unfold execLaserFail
  repeat' first | with_reducible exact completes_ok _ | split | extract_lets

theorem execLaserAgeingTick_completes : ∀ a0 a1 a2 a3 a4 (s : State), Completes (execLaserAgeingTick a0 a1 a2 a3 a4 s) := by
  intro a0 a1 a2 a3 a4 s
  unfold execLaserAgeingTick
  repeat' first | with_reducible exact completes_ok _ | split

theorem execOpticalLos_completes : ∀ a0 a1 (s : State), Completes (execOpticalLos a0 a1 s) := by
  intro a0 a1 s
  unfold execOpticalLos
  repeat' first | with_reducible exact completes_ok _ | split | extract_lets

theorem execOpticalLosClear_completes : ∀ a0 a1 (s : State), Completes (execOpticalLosClear a0 a1 s) := by
  intro a0 a1 s
  unfold execOpticalLosClear
  repeat' first | with_reducible exact completes_ok _ | split | extract_lets

theorem execOpticalPowerWarning_completes : ∀ a0 a1 a2 a3 (s : State), Completes (execOpticalPowerWarning a0 a1 a2 a3 s) := by
  intro a0 a1 a2 a3 s
  unfold execOpticalPowerWarning
  repeat' first | with_reducible exact completes_ok _ | split | extract_lets

theorem execOpticalOverload_completes : ∀ a0 a1 a2 (s : State), Completes (execOpticalOverload a0 a1 a2 s) := by
  intro a0 a1 a2 s
  unfold execOpticalOverload
  repeat' first | with_reducible exact completes_ok _ | split | extract_lets

theorem execLaneLock_completes : ∀ a0 a1 (s : State), Completes (execLaneLock a0 a1 s) := by
  intro a0 a1 s
  unfold execLaneLock
  repeat' first | with_reducible exact completes_ok _ | split | extract_lets

theorem execFlitLock_completes : ∀ a0 a1 a2 a3 a4 (s : State), Completes (execFlitLock a0 a1 a2 a3 a4 s) := by
  intro a0 a1 a2 a3 a4 s
  unfold execFlitLock
  repeat' first | with_reducible exact completes_ok _ | split | extract_lets

theorem execTrainingStepTimeout_completes : ∀ a0 (s : State), Completes (execTrainingStepTimeout a0 s) := by
  intro a0 s
  unfold execTrainingStepTimeout
  repeat' first | with_reducible exact completes_ok _ | split | extract_lets

theorem execTrainingRestExpiry_completes : ∀ a0 (s : State), Completes (execTrainingRestExpiry a0 s) := by
  intro a0 s
  unfold execTrainingRestExpiry
  repeat' first | with_reducible exact completes_ok _ | split | extract_lets

theorem execLcIdentReceive_completes : ∀ a0 (s : State), Completes (execLcIdentReceive a0 s) := by
  intro a0 s
  unfold execLcIdentReceive
  repeat' first | with_reducible exact completes_ok _ | split | extract_lets

theorem execLcIdentTimer_completes : ∀ a0 (s : State), Completes (execLcIdentTimer a0 s) := by
  intro a0 s
  unfold execLcIdentTimer
  repeat' first | with_reducible exact completes_ok _ | split | extract_lets

theorem execFlitReceive_completes : ∀ a0 a1 a2 a3 (s : State), Completes (execFlitReceive a0 a1 a2 a3 s) := by
  intro a0 a1 a2 a3 s
  unfold execFlitReceive
  repeat' first | with_reducible exact completes_ok _ | split | extract_lets

theorem execControlFlitReceive_completes : ∀ a0 a1 a2 (s : State), Completes (execControlFlitReceive a0 a1 a2 s) := by
  intro a0 a1 a2 s
  unfold execControlFlitReceive
  repeat' first | with_reducible exact completes_ok _ | split

theorem execAckTimeout_completes : ∀ a0 a1 (s : State), Completes (execAckTimeout a0 a1 s) := by
  intro a0 a1 s
  unfold execAckTimeout
  repeat' first | with_reducible exact completes_ok _ | split | extract_lets

theorem execLinkSilenceTimeout_completes : ∀ a0 (s : State), Completes (execLinkSilenceTimeout a0 s) := by
  intro a0 s
  unfold execLinkSilenceTimeout
  repeat' first | with_reducible exact completes_ok _ | split | extract_lets

theorem execLaneRejoin_completes : ∀ a0 a1 (s : State), Completes (execLaneRejoin a0 a1 s) := by
  intro a0 a1 s
  unfold execLaneRejoin
  repeat' first | with_reducible exact completes_ok _ | split | extract_lets

theorem execTimePacketTimer_completes (s : State) : Completes (execTimePacketTimer s) := by
  unfold execTimePacketTimer
  repeat' first | with_reducible exact completes_ok _ | split

theorem execPortDrainEnd_completes : ∀ a0 (s : State), Completes (execPortDrainEnd a0 s) := by
  intro a0 s
  unfold execPortDrainEnd
  repeat' first | with_reducible exact completes_ok _ | split

theorem execDieLinkDown_completes : ∀ a0 (s : State), Completes (execDieLinkDown a0 s) := by
  intro a0 s
  unfold execDieLinkDown
  repeat' first | with_reducible exact completes_ok _ | split

theorem execDieLinkRetrain_completes : ∀ a0 a1 (s : State), Completes (execDieLinkRetrain a0 a1 s) := by
  intro a0 a1 s
  unfold execDieLinkRetrain
  repeat' first | with_reducible exact completes_ok _ | split

theorem execCreditAnnounce_completes : ∀ a0 (s : State), Completes (execCreditAnnounce a0 s) := by
  intro a0 s
  unfold execCreditAnnounce
  repeat' first | with_reducible exact completes_ok _ | split

theorem execEthFrameReceive_completes : ∀ a0 a1 (s : State), Completes (execEthFrameReceive a0 a1 s) := by
  intro a0 a1 s
  unfold execEthFrameReceive
  repeat' first | with_reducible exact completes_ok _ | split | extract_lets

theorem execTimeSourceTimeout_completes (s : State) : Completes (execTimeSourceTimeout s) := by
  unfold execTimeSourceTimeout
  repeat' first | with_reducible exact completes_ok _ | split

theorem execPpsEdge_completes : ∀ a0 (s : State), Completes (execPpsEdge a0 s) := by
  intro a0 s
  unfold execPpsEdge
  repeat' first | with_reducible exact completes_ok _ | split | extract_lets

theorem execTb0Realign_completes : ∀ a0 a1 (s : State), Completes (execTb0Realign a0 a1 s) := by
  intro a0 a1 s
  unfold execTb0Realign
  repeat' first | with_reducible exact completes_ok _ | split

theorem execPtpMessageReceive_completes : ∀ a0 (s : State), Completes (execPtpMessageReceive a0 s) := by
  intro a0 s
  unfold execPtpMessageReceive
  repeat' first | with_reducible exact completes_ok _ | split | extract_lets

theorem execHostLinkUp_completes : ∀ a0 (s : State), Completes (execHostLinkUp a0 s) := by
  intro a0 s
  unfold execHostLinkUp
  repeat' first | with_reducible exact completes_ok _ | split

theorem execNudgeReceive_completes : ∀ a0 (s : State), Completes (execNudgeReceive a0 s) := by
  intro a0 s
  unfold execNudgeReceive
  repeat' first | with_reducible exact completes_ok _ | split

theorem execDoorbellPollTimer_completes (s : State) : Completes (execDoorbellPollTimer s) := by
  unfold execDoorbellPollTimer
  repeat' first | with_reducible exact completes_ok _ | split | extract_lets

theorem execDoorbellPageReturn_completes : ∀ a0 a1 (s : State), Completes (execDoorbellPageReturn a0 a1 s) := by
  intro a0 a1 s
  unfold execDoorbellPageReturn
  repeat' first | with_reducible exact completes_ok _ | split

theorem execDescriptorFetch_completes : ∀ a0 a1 a2 (s : State), Completes (execDescriptorFetch a0 a1 a2 s) := by
  intro a0 a1 a2 s
  unfold execDescriptorFetch
  repeat' first | with_reducible exact completes_ok _ | split | extract_lets

theorem execHmemResponse_completes : ∀ a0 a1 a2 (s : State), Completes (execHmemResponse a0 a1 a2 s) := by
  intro a0 a1 a2 s
  unfold execHmemResponse
  repeat' first | with_reducible exact completes_ok _ | split | extract_lets

theorem execInterruptModerationExpiry_completes : ∀ a0 (s : State), Completes (execInterruptModerationExpiry a0 s) := by
  intro a0 s
  unfold execInterruptModerationExpiry
  repeat' first | with_reducible exact completes_ok _ | split | extract_lets

theorem execEventDeliver_completes (s : State) : Completes (execEventDeliver s) := by
  unfold execEventDeliver
  repeat' first | with_reducible exact completes_ok _ | split | extract_lets

theorem execSupplySample_completes : ∀ a0 a1 (s : State), Completes (execSupplySample a0 a1 s) := by
  intro a0 a1 s
  unfold execSupplySample
  repeat' first | with_reducible exact completes_ok _ | split | extract_lets

theorem execShedRelease_completes (s : State) : Completes (execShedRelease s) := by
  unfold execShedRelease
  repeat' first | with_reducible exact completes_ok _ | split | extract_lets

theorem execDomainOn_completes : ∀ a0 (s : State), Completes (execDomainOn a0 s) := by
  intro a0 s
  unfold execDomainOn
  repeat' first | with_reducible exact completes_ok _ | split | extract_lets

theorem execDomainDrainEnd_completes : ∀ a0 (s : State), Completes (execDomainDrainEnd a0 s) := by
  intro a0 s
  unfold execDomainDrainEnd
  repeat' first | with_reducible exact completes_ok _ | split

theorem execDomainOnDone_completes : ∀ a0 a1 (s : State), Completes (execDomainOnDone a0 a1 s) := by
  intro a0 a1 s
  unfold execDomainOnDone
  repeat' first | with_reducible exact completes_ok _ | split

theorem execM3WakeTimer_completes (s : State) : Completes (execM3WakeTimer s) := by
  unfold execM3WakeTimer
  repeat' first | with_reducible exact completes_ok _ | split

theorem execThermalSample_completes : ∀ a0 a1 a2 a3 a4 (s : State), Completes (execThermalSample a0 a1 a2 a3 a4 s) := by
  intro a0 a1 a2 a3 a4 s
  unfold execThermalSample
  repeat' first | with_reducible exact completes_ok _ | split

theorem execDroopDetect_completes : ∀ a0 (s : State), Completes (execDroopDetect a0 s) := by
  intro a0 s
  unfold execDroopDetect
  repeat' first | with_reducible exact completes_ok _ | split

theorem execSnapshotTarget_completes (s : State) : Completes (execSnapshotTarget s) := by
  unfold execSnapshotTarget
  repeat' first | with_reducible exact completes_ok _ | split

theorem execSnapshotComplete_completes : ∀ a0 a1 (s : State), Completes (execSnapshotComplete a0 a1 s) := by
  intro a0 a1 s
  unfold execSnapshotComplete
  repeat' first | with_reducible exact completes_ok _ | split

theorem execSnapshotLockExpiry_completes (s : State) : Completes (execSnapshotLockExpiry s) := by
  unfold execSnapshotLockExpiry
  repeat' first | with_reducible exact completes_ok _ | split

theorem execHealthEvaluate_completes : ∀ a0 (s : State), Completes (execHealthEvaluate a0 s) := by
  intro a0 s
  unfold execHealthEvaluate
  repeat' first | with_reducible exact completes_ok _ | split

theorem execHealthActionStart_completes : ∀ a0 a1 (s : State), Completes (execHealthActionStart a0 a1 s) := by
  intro a0 a1 s
  unfold execHealthActionStart
  repeat' first | with_reducible exact completes_ok _ | split | extract_lets

theorem execHealthPinExpiry_completes : ∀ a0 a1 (s : State), Completes (execHealthPinExpiry a0 a1 s) := by
  intro a0 a1 s
  unfold execHealthPinExpiry
  repeat' first | with_reducible exact completes_ok _ | split | extract_lets

theorem execMaintLockGrant_completes (s : State) : Completes (execMaintLockGrant s) := by
  unfold execMaintLockGrant
  repeat' first | with_reducible exact completes_ok _ | split

theorem execUcodeLoadDone_completes : ∀ a0 (s : State), Completes (execUcodeLoadDone a0 s) := by
  intro a0 s
  unfold execUcodeLoadDone
  repeat' first | with_reducible exact completes_ok _ | split | extract_lets

theorem execUcodeAnnounceTimeout_completes (s : State) : Completes (execUcodeAnnounceTimeout s) := by
  unfold execUcodeAnnounceTimeout
  repeat' first | with_reducible exact completes_ok _ | split

theorem execI3cWake_completes (s : State) : Completes (execI3cWake s) := by
  unfold execI3cWake
  repeat' first | with_reducible exact completes_ok _ | split

theorem execI3cEntdaa_completes : ∀ a0 (s : State), Completes (execI3cEntdaa a0 s) := by
  intro a0 s
  unfold execI3cEntdaa
  repeat' first | with_reducible exact completes_ok _ | split

theorem execI3cSetdasa_completes : ∀ a0 a1 (s : State), Completes (execI3cSetdasa a0 a1 s) := by
  intro a0 a1 s
  unfold execI3cSetdasa
  repeat' first | with_reducible exact completes_ok _ | split

theorem execCxlPortTrained_completes : ∀ a0 a1 a2 a3 a4 (s : State), Completes (execCxlPortTrained a0 a1 a2 a3 a4 s) := by
  intro a0 a1 a2 a3 a4 s
  unfold execCxlPortTrained
  repeat' first | with_reducible exact completes_ok _ | split

theorem execMoveReadReturn_completes : ∀ a0 a1 (s : State), Completes (execMoveReadReturn a0 a1 s) := by
  intro a0 a1 s
  unfold execMoveReadReturn
  repeat' first | with_reducible exact completes_ok _ | split | extract_lets

theorem execPtpMessageTimer_completes : ∀ a0 (s : State), Completes (execPtpMessageTimer a0 s) := by
  intro a0 s
  unfold execPtpMessageTimer
  repeat' first | with_reducible exact completes_ok _ | split | extract_lets

theorem execAlertEnWrite_completes : ∀ a0 (s : State), Completes (execAlertEnWrite a0 s) := by
  intro a0 s
  unfold execAlertEnWrite
  repeat' first | with_reducible exact completes_ok _ | split

theorem exec_completes (c : Instr) (s : State) (h : ∀ ns, c = .resetNAssert ns → ns < 1000 ∨ 10000 ≤ ns) :
    Completes (exec c s) := by
  cases c with
  | registerWrite => exact execRegisterWrite_completes _ _ _ s
  | fabricIdWrite => exact execFabricIdWrite_completes _ s
  | withdrawalDrainEnd => exact execWithdrawalDrainEnd_completes s
  | warmResetRequest => exact execWarmResetRequest_completes s
  | domainResetRequest => exact execDomainResetRequest_completes _ s
  | coldReset => exact completes_ok _
  | resetNAssert ns => exact execResetNAssert_completes ns s (h ns rfl)
  | resetNRelease => exact completes_ok _
  | firmwareWatchdog => exact execFirmwareWatchdog_completes s
  | thermalHoldEnd => exact execThermalHoldEnd_completes s
  | imageCheckDone => exact execImageCheckDone_completes _ s
  | hostBootTimeout => exact execHostBootTimeout_completes s
  | bootBackoffExpiry => exact execBootBackoffExpiry_completes s
  | hostImageGo => exact completes_ok _
  | bringupDone => exact execBringupDone_completes _ _ s
  | bootRecordClear => exact execBootRecordClear_completes s
  | flashProgram => exact execFlashProgram_completes _ _ s
  | flashErase => exact completes_ok _
  | flashProgramDone => exact execFlashProgramDone_completes _ s
  | secRaiseMinSvn => exact execSecRaiseMinSvn_completes s
  | secBurnOwnerHash => exact execSecBurnOwnerHash_completes _ s
  | attestReport => exact completes_ok _
  | attestReportDone => exact execAttestReportDone_completes s
  | attestReadEntry => exact completes_ok _
  | attestWritePubkey => exact completes_ok _
  | headerArrival => exact execHeaderArrival_completes _ s
  | headerLookup => exact execHeaderLookup_completes _ _ s
  | packetAdmitRetry => exact execPacketAdmitRetry_completes _ _ s
  | bankWriteRetry => exact completes_ok _
  | packetTail => exact execPacketTail_completes _ s
  | ageLimitExpiry => exact execAgeLimitExpiry_completes _ _ s
  | egressSchedule => exact completes_ok _
  | shaperEligible => exact execShaperEligible_completes _ _ s
  | wheelOverflowRescan => exact completes_ok _
  | shaperWrite => exact completes_ok _
  | policerBucketWrite => exact completes_ok _
  | markThresholdWrite => exact completes_ok _
  | reservationWrite => exact completes_ok _
  | spillBlockWrite => exact execSpillBlockWrite_completes _ _ s
  | spillWriteConfirm => exact execSpillWriteConfirm_completes _ _ s
  | spillBlockReturn => exact execSpillBlockReturn_completes _ _ _ s
  | nopathTimeout => exact execNopathTimeout_completes s
  | rateLimitRecover => exact execRateLimitRecover_completes _ s
  | depthRefresh => exact execDepthRefresh_completes _ s
  | easelWeightUpdate => exact execEaselWeightUpdate_completes _ s
  | easelRebalance => exact execEaselRebalance_completes _ _ s
  | pathWeightWrite => exact completes_ok _
  | settleExpiry => exact execSettleExpiry_completes _ _ s
  | pathMarkReceive => exact execPathMarkReceive_completes s
  | pathMarkAckSend => exact execPathMarkAckSend_completes s
  | pathMarkAckReceive => exact execPathMarkAckReceive_completes s
  | markTimeout => exact execMarkTimeout_completes _ _ s
  | fwdWriteShadow => exact completes_ok _
  | fwdReadShadow => exact completes_ok _
  | fwdReadActive => exact completes_ok _
  | fwdCommit => exact completes_ok _
  | epochReached => exact execEpochReached_completes s
  | shadowCopyDone => exact completes_ok _
  | mctWriteShadow => exact completes_ok _
  | mctReadShadow => exact completes_ok _
  | mctReadActive => exact completes_ok _
  | mcastReplicate => exact execMcastReplicate_completes s
  | replicaAdmitRetry => exact completes_ok _
  | cnvWriteShadow => exact completes_ok _
  | cnvReadShadow => exact completes_ok _
  | cnvReadActive => exact completes_ok _
  | cnvReadStatus => exact completes_ok _
  | cnvForce => exact completes_ok _
  | contextFreed => exact execContextFreed_completes _ s
  | contribReceive => exact completes_ok _
  | canvasIngestRetry => exact completes_ok _
  | segmentAreaGrant => exact execSegmentAreaGrant_completes _ _ _ s
  | batchWaitExpiry => exact execBatchWaitExpiry_completes _ _ _ s
  | canvasBatchAdmit => exact execCanvasBatchAdmit_completes _ _ _ s
  | batchFolded => exact execBatchFolded_completes _ _ _ s
  | segmentTimeout => exact execSegmentTimeout_completes _ _ _ s
  | segmentEncodeDone => exact execSegmentEncodeDone_completes _ _ _ s
  | phaseMarkReceive => exact execPhaseMarkReceive_completes s
  | childResultTimeout => exact execChildResultTimeout_completes _ _ _ s
  | recoverCopyDone => exact execRecoverCopyDone_completes _ s
  | engineParkRequest => exact completes_ok _
  | engineUnpark => exact completes_ok _
  | engineOfflineRequest => exact completes_ok _
  | engineResume => exact completes_ok _
  | laneRetireWrite => exact completes_ok _
  | laneGroupSwap => exact execLaneGroupSwap_completes _ s
  | engineScrubDone => exact execEngineScrubDone_completes _ s
  | keepExpiry => exact execKeepExpiry_completes _ s
  | rampStep => exact execRampStep_completes _ s
  | governorStep => exact execGovernorStep_completes _ _ _ s
  | engineFault => exact execEngineFault_completes _ _ _ s
  | engineResetDone => exact execEngineResetDone_completes _ s
  | watchdogExpiry => exact execWatchdogExpiry_completes _ s
  | doorbellRead => exact execDoorbellRead_completes _ s
  | ringWrite => exact completes_ok _
  | ringRead => exact completes_ok _
  | ringStatusRead => exact completes_ok _
  | energyWindowStart => exact execEnergyWindowStart_completes _ s
  | listAdmit => exact execListAdmit_completes _ s
  | palNop => exact completes_ok _
  | palBegin => exact completes_ok _
  | palEnd => exact completes_ok _
  | palFence => exact completes_ok _
  | fenceComplete => exact execFenceComplete_completes _ s
  | fenceTimeout => exact execFenceTimeout_completes _ s
  | palNotify => exact completes_ok _
  | notifyResponse => exact execNotifyResponse_completes _ s
  | palCkpt => exact completes_ok _
  | palMove => exact completes_ok _
  | moveWritePerformed => exact execMoveWritePerformed_completes _ _ s
  | palRow => exact completes_ok _
  | palElem => exact completes_ok _
  | palXlane => exact completes_ok _
  | palConvert => exact completes_ok _
  | homeRequestReceive => exact execHomeRequestReceive_completes _ s
  | trackerAllocate => exact execTrackerAllocate_completes _ s
  | trackerLingerExpiry => exact execTrackerLingerExpiry_completes _ _ _ s
  | homeRequestPerform => exact execHomeRequestPerform_completes _ s
  | lineFill => exact execLineFill_completes _ s
  | combiningLineExpiry => exact execCombiningLineExpiry_completes _ s
  | responseReceive => exact execResponseReceive_completes s
  | requestRetry => exact execRequestRetry_completes _ _ s
  | requestTimerExpiry => exact execRequestTimerExpiry_completes _ _ s
  | trackerForget => exact completes_ok _
  | windowWrite => exact completes_ok _
  | windowRead => exact completes_ok _
  | heldRelease => exact completes_ok _
  | heldReleaseDest => exact completes_ok _
  | heldRead => exact completes_ok _
  | pageAlloc => exact completes_ok _
  | pageFree => exact completes_ok _
  | pageRead => exact completes_ok _
  | pageSetPin => exact completes_ok _
  | fixGibWrite => exact completes_ok _
  | fixWindowMapped => exact execFixWindowMapped_completes _ s
  | easelInterval => exact execEaselInterval_completes _ _ _ _ _ _ _ s
  | pageCopyDone => exact execPageCopyDone_completes _ s
  | heatHalving => exact execHeatHalving_completes s
  | spillMaxWrite => exact completes_ok _
  | stackRetireRequest => exact completes_ok _
  | stackDemoteDone => exact execStackDemoteDone_completes _ s
  | stackRelocateDone => exact execStackRelocateDone_completes _ s
  | stackFail => exact execStackFail_completes _ s
  | hbmScrub => exact completes_ok _
  | cxlPortEnable => exact completes_ok _
  | cxlRemove => exact completes_ok _
  | cxlRemoveDone => exact execCxlRemoveDone_completes _ s
  | cxlPortFail => exact execCxlPortFail_completes _ s
  | cxlRetrainTick => exact execCxlRetrainTick_completes _ s
  | cxlDeviceEvent => exact execCxlDeviceEvent_completes _ _ s
  | slotStart => exact execSlotStart_completes s
  | discoverReceive => exact execDiscoverReceive_completes _ _ _ s
  | lcReadyReceive => exact execLcReadyReceive_completes _ s
  | lcWithdrawReceive => exact execLcWithdrawReceive_completes _ s
  | peerSilenceTimeout => exact execPeerSilenceTimeout_completes _ s
  | prismListenEnd => exact execPrismListenEnd_completes s
  | patternApply => exact execPatternApply_completes s
  | planeRetuneEnd => exact execPlaneRetuneEnd_completes s
  | patWriteShadow => exact completes_ok _
  | patReadShadow => exact completes_ok _
  | patReadActive => exact completes_ok _
  | prismGuardWrite => exact completes_ok _
  | laserRead => exact completes_ok _
  | laserTakeoverRequest => exact completes_ok _
  | spareWarmDone => exact execSpareWarmDone_completes _ _ _ s
  | takeoverSwitch => exact execTakeoverSwitch_completes _ _ s
  | laserFail => exact execLaserFail_completes _ _ s
  | laserAgeingTick => exact execLaserAgeingTick_completes _ _ _ _ _ s
  | opticalLos => exact execOpticalLos_completes _ _ s
  | opticalLosClear => exact execOpticalLosClear_completes _ _ s
  | opticalPowerWarning => exact execOpticalPowerWarning_completes _ _ _ _ s
  | opticalOverload => exact execOpticalOverload_completes _ _ _ s
  | overloadClear => exact completes_ok _
  | laneLock => exact execLaneLock_completes _ _ s
  | flitLock => exact execFlitLock_completes _ _ _ _ _ s
  | trainingStepTimeout => exact execTrainingStepTimeout_completes _ s
  | trainingRestExpiry => exact execTrainingRestExpiry_completes _ s
  | lcIdentReceive => exact execLcIdentReceive_completes _ s
  | lcIdentTimer => exact execLcIdentTimer_completes _ s
  | flitReceive => exact execFlitReceive_completes _ _ _ _ s
  | controlFlitReceive => exact execControlFlitReceive_completes _ _ _ s
  | ackTimeout => exact execAckTimeout_completes _ _ s
  | linkSilenceTimeout => exact execLinkSilenceTimeout_completes _ s
  | laneFail => exact completes_ok _
  | laneRejoin => exact execLaneRejoin_completes _ _ s
  | timePacketTimer => exact execTimePacketTimer_completes s
  | portEnableWrite => exact completes_ok _
  | portDrain => exact completes_ok _
  | portUndrain => exact completes_ok _
  | portDrainEnd => exact execPortDrainEnd_completes _ s
  | portRetrain => exact completes_ok _
  | portReset => exact completes_ok _
  | laneMaskWrite => exact completes_ok _
  | dieLinkDown => exact execDieLinkDown_completes _ s
  | dieLinkRetrain => exact execDieLinkRetrain_completes _ _ s
  | creditAnnounce => exact execCreditAnnounce_completes _ s
  | ethFrameReceive => exact execEthFrameReceive_completes _ _ s
  | macAgeingScan => exact completes_ok _
  | ethWriteEntry => exact completes_ok _
  | ethReadEntry => exact completes_ok _
  | ethReadActive => exact completes_ok _
  | timeMeasurement => exact completes_ok _
  | timeSourceTimeout => exact execTimeSourceTimeout_completes s
  | ppsEdge => exact execPpsEdge_completes _ s
  | timeSet => exact completes_ok _
  | tb0Realign => exact execTb0Realign_completes _ _ s
  | ptpMessageReceive => exact execPtpMessageReceive_completes _ s
  | hostLinkDown => exact completes_ok _
  | hostLinkUp => exact execHostLinkUp_completes _ s
  | nudgeReceive rings => exact execNudgeReceive_completes rings s
  | doorbellPollTimer => exact execDoorbellPollTimer_completes s
  | doorbellPageReturn => exact execDoorbellPageReturn_completes _ _ s
  | descriptorFetch => exact execDescriptorFetch_completes _ _ _ s
  | hmemResponse => exact execHmemResponse_completes _ _ _ s
  | hostNop => exact completes_ok _
  | txPacket => exact completes_ok _
  | rxPost => exact completes_ok _
  | memRead => exact completes_ok _
  | memWrite => exact completes_ok _
  | memAtomic => exact completes_ok _
  | hostRingEnable => exact completes_ok _
  | hostRingDisable => exact completes_ok _
  | auxRingEnable => exact completes_ok _
  | interruptModerationExpiry => exact execInterruptModerationExpiry_completes _ s
  | eventDeliver => exact execEventDeliver_completes s
  | supplySample => exact execSupplySample_completes _ _ s
  | shedRelease => exact execShedRelease_completes s
  | supplyLogClear => exact completes_ok _
  | domainOn => exact execDomainOn_completes _ s
  | domainRetention => exact completes_ok _
  | domainOff => exact completes_ok _
  | domainDrainEnd => exact execDomainDrainEnd_completes _ s
  | domainOnDone => exact execDomainOnDone_completes _ _ s
  | mstateRequest => exact completes_ok _
  | m3WakeTimer => exact execM3WakeTimer_completes s
  | thermalSample => exact execThermalSample_completes _ _ _ _ _ s
  | droopDetect => exact execDroopDetect_completes _ s
  | droopRelease => exact completes_ok _
  | snapshotRequest => exact completes_ok _
  | snapshotTarget => exact execSnapshotTarget_completes s
  | snapshotComplete => exact execSnapshotComplete_completes _ _ s
  | snapshotLock => exact completes_ok _
  | snapshotUnlock => exact completes_ok _
  | snapshotLockExpiry => exact execSnapshotLockExpiry_completes s
  | isolationRelease => exact completes_ok _
  | queueHwmClear => exact completes_ok _
  | healthEvaluate => exact execHealthEvaluate_completes _ s
  | healthActionStart => exact execHealthActionStart_completes _ _ s
  | healthPinExpiry => exact execHealthPinExpiry_completes _ _ s
  | healthRead => exact completes_ok _
  | healthPin => exact completes_ok _
  | healthUnpin => exact completes_ok _
  | maintLockGrant => exact execMaintLockGrant_completes s
  | ucodeUpdate => exact completes_ok _
  | ucodeLoadDone => exact execUcodeLoadDone_completes _ s
  | ucodeAnnounceTimeout => exact execUcodeAnnounceTimeout_completes s
  | i3cWake => exact execI3cWake_completes s
  | i3cEntdaa => exact execI3cEntdaa_completes _ s
  | i3cSetdasa => exact execI3cSetdasa_completes _ _ s
  | i3cRstdaa => exact completes_ok _
  | i3cGetpid => exact completes_ok _
  | i3cGetbcr => exact completes_ok _
  | i3cGetdcr => exact completes_ok _
  | i3cGetstatus => exact completes_ok _
  | i3cEnec => exact completes_ok _
  | i3cDisec => exact completes_ok _
  | cxlPortTrained => exact execCxlPortTrained_completes _ _ _ _ _ s
  | moveReadReturn => exact execMoveReadReturn_completes _ _ s
  | ptpMessageTimer => exact execPtpMessageTimer_completes _ s
  | alertEnWrite => exact execAlertEnWrite_completes _ s

/-- Settles O3. -/
theorem everyCommandAnswersANextState : Obligations.EveryCommandAnswersANextState := exec_completes

end Sys2Proof.Machine

/-!
PROOFS. What each command can change at all (`frameOf`), from the masks of the commands' frames.
-/
namespace Sys2Proof.Machine

/-- The parts of the state, in the order of their bits in a mask. -/
def allParts : List Field :=
  [.clk, .regs, .cnt, .dom, .dp, .tab, .sched, .ports, .links, .peers, .planes, .prism, .optics, .canvas, .pal, .homes,
   .req, .mem, .timing, .host, .maint, .pwr, .macs, .tel, .boot, .i3c, .wd, .evq, .evLost, .evLostOff, .xings, .cyc,
   .out, .free, .pending]

theorem mem_allParts (p : Field) : p ∈ allParts := by
  cases p <;> decide

/-- A list of parts names every part of a mask. -/
def covers (m : Nat) (ps : List Field) : Bool := allParts.all fun p => !m.testBit p.ctorIdx || ps.contains p

/-- A frame given by a mask whose parts a list names. -/
theorem WithinNext.onlyNext {m : Nat} {ps : List Field} {s : State} {o : Host.Outcome State Fault Refusal}
    (h : WithinNext m s o) (c : covers m ps = true) : OnlyNext ps s o := fun t e =>
  (h t e).only fun p hp => by simpa [hp] using List.all_eq_true.mp c p (mem_allParts p)

theorem exec_onlyNext (c : Instr) (s : State) : OnlyNext (frameOf c) s (exec c s) := by
  cases c with
  | registerWrite => exact (execRegisterWrite_within _ _ _ _).onlyNext rfl
  | fabricIdWrite => exact (execFabricIdWrite_within _ _).onlyNext rfl
  | withdrawalDrainEnd => exact (execWithdrawalDrainEnd_within _).onlyNext rfl
  | warmResetRequest => exact (execWarmResetRequest_within _).onlyNext rfl
  | domainResetRequest => exact (execDomainResetRequest_within _ _).onlyNext rfl
  | coldReset => exact (execColdReset_within _).onlyNext rfl
  | resetNAssert => exact (execResetNAssert_within _ _).onlyNext rfl
  | resetNRelease => exact (execResetNRelease_within _).onlyNext rfl
  | firmwareWatchdog => exact (execFirmwareWatchdog_within _).onlyNext rfl
  | thermalHoldEnd => exact (execThermalHoldEnd_within _).onlyNext rfl
  | imageCheckDone => exact (execImageCheckDone_within _ _).onlyNext rfl
  | hostBootTimeout => exact (execHostBootTimeout_within _).onlyNext rfl
  | bootBackoffExpiry => exact (execBootBackoffExpiry_within _).onlyNext rfl
  | hostImageGo => exact (execHostImageGo_within _ _).onlyNext rfl
  | bringupDone => exact (execBringupDone_within _ _ _).onlyNext rfl
  | bootRecordClear => exact (execBootRecordClear_within _).onlyNext rfl
  | flashProgram => exact (execFlashProgram_within _ _ _).onlyNext rfl
  | flashErase => exact (execFlashErase_within _ _).onlyNext rfl
  | flashProgramDone => exact (execFlashProgramDone_within _ _).onlyNext rfl
  | secRaiseMinSvn => exact (execSecRaiseMinSvn_within _).onlyNext rfl
  | secBurnOwnerHash => exact (execSecBurnOwnerHash_within _ _).onlyNext rfl
  | attestReport => exact (execAttestReport_within _).onlyNext rfl
  | attestReportDone => exact (execAttestReportDone_within _).onlyNext rfl
  | attestReadEntry => exact (execAttestReadEntry_within _ _).onlyNext rfl
  | attestWritePubkey => exact (execAttestWritePubkey_within _).onlyNext rfl
  | headerArrival => exact (execHeaderArrival_within _ _).onlyNext rfl
  | headerLookup => exact (execHeaderLookup_within _ _ _).onlyNext rfl
  | packetAdmitRetry => exact (execPacketAdmitRetry_within _ _ _).onlyNext rfl
  | bankWriteRetry => exact (execBankWriteRetry_within _ _ _ _).onlyNext rfl
  | packetTail => exact (execPacketTail_within _ _).onlyNext rfl
  | ageLimitExpiry => exact (execAgeLimitExpiry_within _ _ _).onlyNext rfl
  | egressSchedule => exact (execEgressSchedule_within _ _).onlyNext rfl
  | shaperEligible => exact (execShaperEligible_within _ _ _).onlyNext rfl
  | wheelOverflowRescan => exact (execWheelOverflowRescan_within _ _).onlyNext rfl
  | shaperWrite => exact (execShaperWrite_within _ _ _ _).onlyNext rfl
  | policerBucketWrite => exact (execPolicerBucketWrite_within _ _ _ _ _).onlyNext rfl
  | markThresholdWrite => exact (execMarkThresholdWrite_within _ _ _).onlyNext rfl
  | reservationWrite => exact (execReservationWrite_within _ _ _).onlyNext rfl
  | spillBlockWrite => exact (execSpillBlockWrite_within _ _ _).onlyNext rfl
  | spillWriteConfirm => exact (execSpillWriteConfirm_within _ _ _).onlyNext rfl
  | spillBlockReturn => exact (execSpillBlockReturn_within _ _ _ _).onlyNext rfl
  | nopathTimeout => exact (execNopathTimeout_within _).onlyNext rfl
  | rateLimitRecover => exact (execRateLimitRecover_within _ _).onlyNext rfl
  | depthRefresh => exact (execDepthRefresh_within _ _).onlyNext rfl
  | easelWeightUpdate => exact (execEaselWeightUpdate_within _ _).onlyNext rfl
  | easelRebalance => exact (execEaselRebalance_within _ _ _).onlyNext rfl
  | pathWeightWrite => exact (execPathWeightWrite_within _ _ _).onlyNext rfl
  | settleExpiry => exact (execSettleExpiry_within _ _ _).onlyNext rfl
  | pathMarkReceive => exact (execPathMarkReceive_within _).onlyNext rfl
  | pathMarkAckSend => exact (execPathMarkAckSend_within _).onlyNext rfl
  | pathMarkAckReceive => exact (execPathMarkAckReceive_within _).onlyNext rfl
  | markTimeout => exact (execMarkTimeout_within _ _ _).onlyNext rfl
  | fwdWriteShadow => exact (execFwdWriteShadow_within _ _ _).onlyNext rfl
  | fwdReadShadow => exact (execFwdReadShadow_within _ _ _).onlyNext rfl
  | fwdReadActive => exact (execFwdReadActive_within _ _ _).onlyNext rfl
  | fwdCommit => exact (execFwdCommit_within _ _).onlyNext rfl
  | epochReached => exact (execEpochReached_within _).onlyNext rfl
  | shadowCopyDone => exact (execShadowCopyDone_within _).onlyNext rfl
  | mctWriteShadow => exact (execMctWriteShadow_within _ _).onlyNext rfl
  | mctReadShadow => exact (execMctReadShadow_within _ _).onlyNext rfl
  | mctReadActive => exact (execMctReadActive_within _ _).onlyNext rfl
  | mcastReplicate => exact (execMcastReplicate_within _).onlyNext rfl
  | replicaAdmitRetry => exact (execReplicaAdmitRetry_within _).onlyNext rfl
  | cnvWriteShadow => exact (execCnvWriteShadow_within _ _).onlyNext rfl
  | cnvReadShadow => exact (execCnvReadShadow_within _ _).onlyNext rfl
  | cnvReadActive => exact (execCnvReadActive_within _ _).onlyNext rfl
  | cnvReadStatus => exact (execCnvReadStatus_within _ _).onlyNext rfl
  | cnvForce => exact (execCnvForce_within _ _).onlyNext rfl
  | contextFreed => exact (execContextFreed_within _ _).onlyNext rfl
  | contribReceive => exact (execContribReceive_within _).onlyNext rfl
  | canvasIngestRetry => exact (execCanvasIngestRetry_within _).onlyNext rfl
  | segmentAreaGrant => exact (execSegmentAreaGrant_within _ _ _ _).onlyNext rfl
  | batchWaitExpiry => exact (execBatchWaitExpiry_within _ _ _ _).onlyNext rfl
  | canvasBatchAdmit => exact (execCanvasBatchAdmit_within _ _ _ _).onlyNext rfl
  | batchFolded => exact (execBatchFolded_within _ _ _ _).onlyNext rfl
  | segmentTimeout => exact (execSegmentTimeout_within _ _ _ _).onlyNext rfl
  | segmentEncodeDone => exact (execSegmentEncodeDone_within _ _ _ _).onlyNext rfl
  | phaseMarkReceive => exact (execPhaseMarkReceive_within _).onlyNext rfl
  | childResultTimeout => exact (execChildResultTimeout_within _ _ _ _).onlyNext rfl
  | recoverCopyDone => exact (execRecoverCopyDone_within _ _).onlyNext rfl
  | engineParkRequest => exact (execEngineParkRequest_within _ _).onlyNext rfl
  | engineUnpark => exact (execEngineUnpark_within _ _).onlyNext rfl
  | engineOfflineRequest => exact (execEngineOfflineRequest_within _ _).onlyNext rfl
  | engineResume => exact (execEngineResume_within _ _).onlyNext rfl
  | laneRetireWrite => exact (execLaneRetireWrite_within _ _ _).onlyNext rfl
  | laneGroupSwap => exact (execLaneGroupSwap_within _ _).onlyNext rfl
  | engineScrubDone => exact (execEngineScrubDone_within _ _).onlyNext rfl
  | keepExpiry => exact (execKeepExpiry_within _ _).onlyNext rfl
  | rampStep => exact (execRampStep_within _ _).onlyNext rfl
  | governorStep => exact (execGovernorStep_within _ _ _ _).onlyNext rfl
  | engineFault => exact (execEngineFault_within _ _ _ _).onlyNext rfl
  | engineResetDone => exact (execEngineResetDone_within _ _).onlyNext rfl
  | watchdogExpiry => exact (execWatchdogExpiry_within _ _).onlyNext rfl
  | doorbellRead => exact (execDoorbellRead_within _ _).onlyNext rfl
  | ringWrite => exact (execRingWrite_within _ _).onlyNext rfl
  | ringRead => exact (execRingRead_within _ _).onlyNext rfl
  | ringStatusRead => exact (execRingStatusRead_within _ _).onlyNext rfl
  | energyWindowStart => exact (execEnergyWindowStart_within _ _).onlyNext rfl
  | listAdmit => exact (execListAdmit_within _ _).onlyNext rfl
  | palNop => exact (execPalNop_within _ _).onlyNext rfl
  | palBegin => exact (execPalBegin_within _ _).onlyNext rfl
  | palEnd => exact (execPalEnd_within _ _).onlyNext rfl
  | palFence => exact (execPalFence_within _ _).onlyNext rfl
  | fenceComplete => exact (execFenceComplete_within _ _).onlyNext rfl
  | fenceTimeout => exact (execFenceTimeout_within _ _).onlyNext rfl
  | palNotify => exact (execPalNotify_within _ _).onlyNext rfl
  | notifyResponse => exact (execNotifyResponse_within _ _).onlyNext rfl
  | palCkpt => exact (execPalCkpt_within _ _).onlyNext rfl
  | palMove => exact (execPalMove_within _ _).onlyNext rfl
  | moveWritePerformed => exact (execMoveWritePerformed_within _ _ _).onlyNext rfl
  | palRow => exact (execPalRow_within _ _).onlyNext rfl
  | palElem => exact (execPalElem_within _ _).onlyNext rfl
  | palXlane => exact (execPalXlane_within _ _).onlyNext rfl
  | palConvert => exact (execPalConvert_within _ _).onlyNext rfl
  | homeRequestReceive => exact (execHomeRequestReceive_within _ _).onlyNext rfl
  | trackerAllocate => exact (execTrackerAllocate_within _ _).onlyNext rfl
  | trackerLingerExpiry => exact (execTrackerLingerExpiry_within _ _ _ _).onlyNext rfl
  | homeRequestPerform => exact (execHomeRequestPerform_within _ _).onlyNext rfl
  | lineFill => exact (execLineFill_within _ _).onlyNext rfl
  | combiningLineExpiry => exact (execCombiningLineExpiry_within _ _).onlyNext rfl
  | responseReceive => exact (execResponseReceive_within _).onlyNext rfl
  | requestRetry => exact (execRequestRetry_within _ _ _).onlyNext rfl
  | requestTimerExpiry => exact (execRequestTimerExpiry_within _ _ _).onlyNext rfl
  | trackerForget => exact (execTrackerForget_within _ _ _ _).onlyNext rfl
  | windowWrite => exact (execWindowWrite_within _ _).onlyNext rfl
  | windowRead => exact (execWindowRead_within _ _).onlyNext rfl
  | heldRelease => exact (execHeldRelease_within _ _).onlyNext rfl
  | heldReleaseDest => exact (execHeldReleaseDest_within _).onlyNext rfl
  | heldRead => exact (execHeldRead_within _ _).onlyNext rfl
  | pageAlloc => exact (execPageAlloc_within _ _).onlyNext rfl
  | pageFree => exact (execPageFree_within _ _).onlyNext rfl
  | pageRead => exact (execPageRead_within _ _).onlyNext rfl
  | pageSetPin => exact (execPageSetPin_within _ _).onlyNext rfl
  | fixGibWrite => exact (execFixGibWrite_within _ _ _).onlyNext rfl
  | fixWindowMapped => exact (execFixWindowMapped_within _ _).onlyNext rfl
  | easelInterval => exact (execEaselInterval_within _ _ _ _ _ _ _ _).onlyNext rfl
  | pageCopyDone => exact (execPageCopyDone_within _ _).onlyNext rfl
  | heatHalving => exact (execHeatHalving_within _).onlyNext rfl
  | spillMaxWrite => exact (execSpillMaxWrite_within _ _).onlyNext rfl
  | stackRetireRequest => exact (execStackRetireRequest_within _ _).onlyNext rfl
  | stackDemoteDone => exact (execStackDemoteDone_within _ _).onlyNext rfl
  | stackRelocateDone => exact (execStackRelocateDone_within _ _).onlyNext rfl
  | stackFail => exact (execStackFail_within _ _).onlyNext rfl
  | hbmScrub => exact (execHbmScrub_within _ _ _ _).onlyNext rfl
  | cxlPortEnable => exact (execCxlPortEnable_within _ _ _ _).onlyNext rfl
  | cxlRemove => exact (execCxlRemove_within _ _).onlyNext rfl
  | cxlRemoveDone => exact (execCxlRemoveDone_within _ _).onlyNext rfl
  | cxlPortFail => exact (execCxlPortFail_within _ _).onlyNext rfl
  | cxlRetrainTick => exact (execCxlRetrainTick_within _ _).onlyNext rfl
  | cxlDeviceEvent => exact (execCxlDeviceEvent_within _ _ _).onlyNext rfl
  | slotStart => exact (execSlotStart_within _).onlyNext rfl
  | discoverReceive => exact (execDiscoverReceive_within _ _ _ _).onlyNext rfl
  | lcReadyReceive => exact (execLcReadyReceive_within _ _).onlyNext rfl
  | lcWithdrawReceive => exact (execLcWithdrawReceive_within _ _).onlyNext rfl
  | peerSilenceTimeout => exact (execPeerSilenceTimeout_within _ _).onlyNext rfl
  | prismListenEnd => exact (execPrismListenEnd_within _).onlyNext rfl
  | patternApply => exact (execPatternApply_within _).onlyNext rfl
  | planeRetuneEnd => exact (execPlaneRetuneEnd_within _).onlyNext rfl
  | patWriteShadow => exact (execPatWriteShadow_within _ _).onlyNext rfl
  | patReadShadow => exact (execPatReadShadow_within _ _).onlyNext rfl
  | patReadActive => exact (execPatReadActive_within _ _).onlyNext rfl
  | prismGuardWrite => exact (execPrismGuardWrite_within _ _ _).onlyNext rfl
  | laserRead => exact (execLaserRead_within _ _ _).onlyNext rfl
  | laserTakeoverRequest => exact (execLaserTakeoverRequest_within _ _ _).onlyNext rfl
  | spareWarmDone => exact (execSpareWarmDone_within _ _ _ _).onlyNext rfl
  | takeoverSwitch => exact (execTakeoverSwitch_within _ _ _).onlyNext rfl
  | laserFail => exact (execLaserFail_within _ _ _).onlyNext rfl
  | laserAgeingTick => exact (execLaserAgeingTick_within _ _ _ _ _ _).onlyNext rfl
  | opticalLos => exact (execOpticalLos_within _ _ _).onlyNext rfl
  | opticalLosClear => exact (execOpticalLosClear_within _ _ _).onlyNext rfl
  | opticalPowerWarning => exact (execOpticalPowerWarning_within _ _ _ _ _).onlyNext rfl
  | opticalOverload => exact (execOpticalOverload_within _ _ _ _).onlyNext rfl
  | overloadClear => exact (execOverloadClear_within _ _ _).onlyNext rfl
  | laneLock => exact (execLaneLock_within _ _ _).onlyNext rfl
  | flitLock => exact (execFlitLock_within _ _ _ _ _ _).onlyNext rfl
  | trainingStepTimeout => exact (execTrainingStepTimeout_within _ _).onlyNext rfl
  | trainingRestExpiry => exact (execTrainingRestExpiry_within _ _).onlyNext rfl
  | lcIdentReceive => exact (execLcIdentReceive_within _ _).onlyNext rfl
  | lcIdentTimer => exact (execLcIdentTimer_within _ _).onlyNext rfl
  | flitReceive => exact (execFlitReceive_within _ _ _ _ _).onlyNext rfl
  | controlFlitReceive => exact (execControlFlitReceive_within _ _ _ _).onlyNext rfl
  | ackTimeout => exact (execAckTimeout_within _ _ _).onlyNext rfl
  | linkSilenceTimeout => exact (execLinkSilenceTimeout_within _ _).onlyNext rfl
  | laneFail => exact (execLaneFail_within _ _ _).onlyNext rfl
  | laneRejoin => exact (execLaneRejoin_within _ _ _).onlyNext rfl
  | timePacketTimer => exact (execTimePacketTimer_within _).onlyNext rfl
  | portEnableWrite => exact (execPortEnableWrite_within _ _ _).onlyNext rfl
  | portDrain => exact (execPortDrain_within _ _).onlyNext rfl
  | portUndrain => exact (execPortUndrain_within _ _).onlyNext rfl
  | portDrainEnd => exact (execPortDrainEnd_within _ _).onlyNext rfl
  | portRetrain => exact (execPortRetrain_within _ _).onlyNext rfl
  | portReset => exact (execPortReset_within _ _).onlyNext rfl
  | laneMaskWrite => exact (execLaneMaskWrite_within _ _ _).onlyNext rfl
  | dieLinkDown => exact (execDieLinkDown_within _ _).onlyNext rfl
  | dieLinkRetrain => exact (execDieLinkRetrain_within _ _ _).onlyNext rfl
  | creditAnnounce => exact (execCreditAnnounce_within _ _).onlyNext rfl
  | ethFrameReceive => exact (execEthFrameReceive_within _ _ _).onlyNext rfl
  | macAgeingScan => exact (execMacAgeingScan_within _ _).onlyNext rfl
  | ethWriteEntry => exact (execEthWriteEntry_within _ _ _ _).onlyNext rfl
  | ethReadEntry => exact (execEthReadEntry_within _ _ _ _).onlyNext rfl
  | ethReadActive => exact (execEthReadActive_within _ _ _ _).onlyNext rfl
  | timeMeasurement => exact (execTimeMeasurement_within _ _).onlyNext rfl
  | timeSourceTimeout => exact (execTimeSourceTimeout_within _).onlyNext rfl
  | ppsEdge => exact (execPpsEdge_within _ _).onlyNext rfl
  | timeSet => exact (execTimeSet_within _).onlyNext rfl
  | tb0Realign => exact (execTb0Realign_within _ _ _).onlyNext rfl
  | ptpMessageReceive => exact (execPtpMessageReceive_within _ _).onlyNext rfl
  | hostLinkDown => exact (execHostLinkDown_within _).onlyNext rfl
  | hostLinkUp => exact (execHostLinkUp_within _ _).onlyNext rfl
  | nudgeReceive rings => exact (execNudgeReceive_within rings _).onlyNext rfl
  | doorbellPollTimer => exact (execDoorbellPollTimer_within _).onlyNext rfl
  | doorbellPageReturn => exact (execDoorbellPageReturn_within _ _ _).onlyNext rfl
  | descriptorFetch => exact (execDescriptorFetch_within _ _ _ _).onlyNext rfl
  | hmemResponse => exact (execHmemResponse_within _ _ _ _).onlyNext rfl
  | hostNop => exact (execHostNop_within _ _).onlyNext rfl
  | txPacket => exact (execTxPacket_within _ _).onlyNext rfl
  | rxPost => exact (execRxPost_within _ _).onlyNext rfl
  | memRead => exact (execMemRead_within _ _).onlyNext rfl
  | memWrite => exact (execMemWrite_within _ _).onlyNext rfl
  | memAtomic => exact (execMemAtomic_within _ _).onlyNext rfl
  | hostRingEnable => exact (execHostRingEnable_within _ _ _).onlyNext rfl
  | hostRingDisable => exact (execHostRingDisable_within _ _ _).onlyNext rfl
  | auxRingEnable => exact (execAuxRingEnable_within _ _ _).onlyNext rfl
  | interruptModerationExpiry => exact (execInterruptModerationExpiry_within _ _).onlyNext rfl
  | eventDeliver => exact (execEventDeliver_within _).onlyNext rfl
  | supplySample => exact (execSupplySample_within _ _ _).onlyNext rfl
  | shedRelease => exact (execShedRelease_within _).onlyNext rfl
  | supplyLogClear => exact (execSupplyLogClear_within _).onlyNext rfl
  | domainOn => exact (execDomainOn_within _ _).onlyNext rfl
  | domainRetention => exact (execDomainRetention_within _ _).onlyNext rfl
  | domainOff => exact (execDomainOff_within _ _).onlyNext rfl
  | domainDrainEnd => exact (execDomainDrainEnd_within _ _).onlyNext rfl
  | domainOnDone => exact (execDomainOnDone_within _ _ _).onlyNext rfl
  | mstateRequest => exact (execMstateRequest_within _ _ _).onlyNext rfl
  | m3WakeTimer => exact (execM3WakeTimer_within _).onlyNext rfl
  | thermalSample => exact (execThermalSample_within _ _ _ _ _ _).onlyNext rfl
  | droopDetect => exact (execDroopDetect_within _ _).onlyNext rfl
  | droopRelease => exact (execDroopRelease_within _ _).onlyNext rfl
  | snapshotRequest => exact (execSnapshotRequest_within _).onlyNext rfl
  | snapshotTarget => exact (execSnapshotTarget_within _).onlyNext rfl
  | snapshotComplete => exact (execSnapshotComplete_within _ _ _).onlyNext rfl
  | snapshotLock => exact (execSnapshotLock_within _).onlyNext rfl
  | snapshotUnlock => exact (execSnapshotUnlock_within _).onlyNext rfl
  | snapshotLockExpiry => exact (execSnapshotLockExpiry_within _).onlyNext rfl
  | isolationRelease => exact (execIsolationRelease_within _ _ _).onlyNext rfl
  | queueHwmClear => exact (execQueueHwmClear_within _ _ _).onlyNext rfl
  | healthEvaluate => exact (execHealthEvaluate_within _ _).onlyNext rfl
  | healthActionStart => exact (execHealthActionStart_within _ _ _).onlyNext rfl
  | healthPinExpiry => exact (execHealthPinExpiry_within _ _ _).onlyNext rfl
  | healthRead => exact (execHealthRead_within _ _ _).onlyNext rfl
  | healthPin => exact (execHealthPin_within _ _ _).onlyNext rfl
  | healthUnpin => exact (execHealthUnpin_within _ _ _).onlyNext rfl
  | maintLockGrant => exact (execMaintLockGrant_within _).onlyNext rfl
  | ucodeUpdate => exact (execUcodeUpdate_within _ _ _).onlyNext rfl
  | ucodeLoadDone => exact (execUcodeLoadDone_within _ _).onlyNext rfl
  | ucodeAnnounceTimeout => exact (execUcodeAnnounceTimeout_within _).onlyNext rfl
  | i3cWake => exact (execI3cWake_within _).onlyNext rfl
  | i3cEntdaa => exact (execI3cEntdaa_within _ _).onlyNext rfl
  | i3cSetdasa => exact (execI3cSetdasa_within _ _ _).onlyNext rfl
  | i3cRstdaa => exact (execI3cRstdaa_within _).onlyNext rfl
  | i3cGetpid => exact (execI3cGetpid_within _).onlyNext rfl
  | i3cGetbcr => exact (execI3cGetbcr_within _).onlyNext rfl
  | i3cGetdcr => exact (execI3cGetdcr_within _).onlyNext rfl
  | i3cGetstatus => exact (execI3cGetstatus_within _).onlyNext rfl
  | i3cEnec => exact (execI3cEnec_within _).onlyNext rfl
  | i3cDisec => exact (execI3cDisec_within _).onlyNext rfl
  | cxlPortTrained => exact (execCxlPortTrained_within _ _ _ _ _ _).onlyNext rfl
  | moveReadReturn => exact (execMoveReadReturn_within _ _ _).onlyNext rfl
  | ptpMessageTimer => exact (execPtpMessageTimer_within _ _).onlyNext rfl
  | alertEnWrite => exact (execAlertEnWrite_within _ _).onlyNext rfl

theorem pending_not_mem_frameOf (c : Instr) : Field.pending ∉ frameOf c := by
  have h : (frameOf c).contains .pending = false := by cases c <;> rfl
  simpa using h

theorem State.readByte_congr {s t : State} (hm : t.mem = s.mem) (hh : t.homes = s.homes) (a : Nat) :
    t.readByte a = s.readByte a := by
  have hl : t.lineOf a = s.lineOf a := by simp only [State.lineOf, State.home, hh]
  have hb : t.memByte a = s.memByte a := by rw [State.memByte, State.memByte, State.poisoned, State.poisoned, hm]
  simp only [State.readByte, hl, hb]

/-- Settles O4. -/
theorem everyCommandKeepsItsFrame : Obligations.EveryCommandKeepsItsFrame := by
  intro c s
  refine ⟨exec_onlyNext c s, pending_not_mem_frameOf c, fun hm hh t ht a => ?_⟩
  have k := exec_onlyNext c s t ht
  exact State.readByte_congr ((k .mem).resolve_left hm) ((k .homes).resolve_left hh) a

end Sys2Proof.Machine

/-!
PROOFS. What every operation keeps (R33, R38, R346): each table of the canonical form, the identity of the announced
crossings, and TB0 once it has been stepped. The relation `Preserves` composes like a frame; an operation that changes none of
these parts keeps them by its frame, and every other one has a lemma here, in the order of the model's definitions.
-/
namespace Sys2Proof.Machine

/-- Every crossing that its consumer has announced has its depth as the sum of the producer's credits, the entries in its
FIFO and the credits in flight back (R38). -/
def CrossingsBalanced (t : Tbl Crossing) : Prop :=
  ∀ x, x ∈ t → x.2.announced = true → x.2.credits + x.2.entries + x.2.flight = crossingDepth x.1

/-- TB0 after the first-lock step (R346): it is LOCKED or in HOLDOVER, stays stepped, and keeps its offset. -/
def State.HoldsTime (s t : State) : Prop :=
  s.tb0Settled = true →
    t.tb0Settled = true ∧ (s.timing.stepped = true → t.timing.stepped = true ∧ t.clk.tb0Off = s.clk.tb0Off)

/-- `t` keeps what `s` has: each table in canonical form, the balance of the crossings, and TB0 once stepped. -/
structure Preserves (s t : State) : Prop where
  regs : Tbl.wf regReset s.regs = true → Tbl.wf regReset t.regs = true
  cnt : Tbl.wf (fun _ => 0) s.cnt = true → Tbl.wf (fun _ => 0) t.cnt = true
  dom : Tbl.wf (fun _ => DomState.off) s.dom = true → Tbl.wf (fun _ => DomState.off) t.dom = true
  ports : Tbl.wf (fun _ => Port.init) s.ports = true → Tbl.wf (fun _ => Port.init) t.ports = true
  links : Tbl.wf (fun _ => Link.init) s.links = true → Tbl.wf (fun _ => Link.init) t.links = true
  peers : Tbl.wf (fun _ => Peer.init) s.peers = true → Tbl.wf (fun _ => Peer.init) t.peers = true
  planes : Tbl.wf (fun _ => Plane.init) s.planes = true → Tbl.wf (fun _ => Plane.init) t.planes = true
  homes : Tbl.wf (fun _ => Home.init) s.homes = true → Tbl.wf (fun _ => Home.init) t.homes = true
  mem : s.mem.wf = true → t.mem.wf = true
  xings : Tbl.wf (fun _ => Crossing.init) s.xings = true → Tbl.wf (fun _ => Crossing.init) t.xings = true
  balance : CrossingsBalanced s.xings → CrossingsBalanced t.xings
  time : s.HoldsTime t

/-- A command's next state keeps what `s` has. -/
def PreservesNext (s : State) (o : Host.Outcome State Fault Refusal) : Prop := ∀ t, o = .next t → Preserves s t

theorem Preserves.canonical {s t : State} (k : Preserves s t) (h : s.canonical = true) : t.canonical = true := by
  rw [State.canonical_iff] at h ⊢
  obtain ⟨regs, cnt, dom, ports, links, peers, planes, homes, mem, xings⟩ := h
  exact ⟨k.regs regs, k.cnt cnt, k.dom dom, k.ports ports, k.links links, k.peers peers, k.planes planes, k.homes homes,
    k.mem mem, k.xings xings⟩

theorem Preserves.refl (s : State) : Preserves s s :=
  ⟨id, id, id, id, id, id, id, id, id, id, id, fun settled => ⟨settled, fun stepped => ⟨stepped, rfl⟩⟩⟩

theorem State.HoldsTime.trans {s t u : State} (h : s.HoldsTime t) (k : t.HoldsTime u) : s.HoldsTime u := by
  intro settled
  obtain ⟨settledT, stays⟩ := h settled
  obtain ⟨settledU, staysU⟩ := k settledT
  refine ⟨settledU, fun stepped => ?_⟩
  obtain ⟨steppedT, offT⟩ := stays stepped
  obtain ⟨steppedU, offU⟩ := staysU steppedT
  exact ⟨steppedU, offU.trans offT⟩

theorem Preserves.trans {s t u : State} (h : Preserves s t) (k : Preserves t u) : Preserves s u :=
  ⟨k.regs ∘ h.regs, k.cnt ∘ h.cnt, k.dom ∘ h.dom, k.ports ∘ h.ports, k.links ∘ h.links, k.peers ∘ h.peers,
    k.planes ∘ h.planes, k.homes ∘ h.homes, k.mem ∘ h.mem, k.xings ∘ h.xings, k.balance ∘ h.balance, h.time.trans k.time⟩

/-! ## Operations that change none of these parts -/

/-- The parts that `Preserves` speaks of: the clock, registers, counters, domains, ports, links, peers, planes, home agents,
memory, TB0 and the crossings. -/
def keptParts : Nat := 0x4006878f

theorem testBit_of_disjoint {v m i : Nat} (c : v &&& m = 0) (h : m.testBit i = true) : v.testBit i = false := by
  have none := congrArg (Nat.testBit · i) c
  simpa [Nat.testBit_and, h] using none

/-- An operation whose frame holds none of these parts. -/
theorem Preserves.through {v : Nat} {r s t : State} (k : Within v s t) (c : v &&& keptParts = 0) (h : Preserves r s) : Preserves r t := by
  have out {i : Nat} (b : keptParts.testBit i = true) : v.testBit i = false := testBit_of_disjoint c b
  have clk : t.clk = s.clk := k.clk_eq (out (by decide))
  have timing : t.timing = s.timing := k.timing_eq (out (by decide))
  have xings : t.xings = s.xings := k.xings_eq (out (by decide))
  refine ⟨?_, ?_, ?_, ?_, ?_, ?_, ?_, ?_, ?_, ?_, ?_, ?_⟩
  · rw [k.regs_eq (out (by decide))]
    exact h.regs
  · rw [k.cnt_eq (out (by decide))]
    exact h.cnt
  · rw [k.dom_eq (out (by decide))]
    exact h.dom
  · rw [k.ports_eq (out (by decide))]
    exact h.ports
  · rw [k.links_eq (out (by decide))]
    exact h.links
  · rw [k.peers_eq (out (by decide))]
    exact h.peers
  · rw [k.planes_eq (out (by decide))]
    exact h.planes
  · rw [k.homes_eq (out (by decide))]
    exact h.homes
  · rw [k.mem_eq (out (by decide))]
    exact h.mem
  · rw [xings]
    exact h.xings
  · rw [xings]
    exact h.balance
  · intro settled
    rw [State.tb0Settled, clk, timing]
    exact h.time settled

theorem PreservesNext.of_within {v : Nat} {r s : State} {o : Host.Outcome State Fault Refusal} (k : WithinNext v s o)
    (c : v &&& keptParts = 0) (h : Preserves r s) : PreservesNext r o := fun t e => h.through (k t e) c

theorem PreservesNext.ok {r t : State} (h : Preserves r t) : PreservesNext r (Sys2Proof.Machine.ok t) := by
  rintro _ ⟨⟩
  exact h

theorem PreservesNext.fault {r : State} (f : Fault) : PreservesNext r (.fault f) := fun _ e => nomatch e

/-! ## Composition -/

theorem Preserves.each {α : Type} {r : State} {f : α → State → State} (k : ∀ x s, Preserves r s → Preserves r (f x s)) :
    ∀ {l : List α} {s : State}, Preserves r s → Preserves r (forEach f l s)
  | [], _, h => h
  | x :: l, s, h => Preserves.each k (l := l) (k x s h)

theorem Preserves.takeEach {α : Type} {r : State} {f : State → α → List Item × State}
    (k : ∀ s x, Preserves r s → Preserves r (f s x).2) :
    ∀ {l : List α} {s : State}, Preserves r s → Preserves r (Sys2Proof.Machine.takeEach f l s).2
  | [], _, h => h
  | x :: l, s, h => Preserves.takeEach k (l := l) (k s x h)

/-- An operation that answers a pair, taken apart. -/
theorem Preserves.ofSnd {α : Type} {r t : State} {a : α} {x : α × State} (e : x = (a, t)) (h : Preserves r x.2) : Preserves r t := by
  rw [e] at h
  exact h

theorem State.after_preserves {f : State → Host.Outcome State Fault Refusal} {r s : State}
    (k : ∀ x, Preserves r x → PreservesNext r (f x)) (h : Preserves r s) : Preserves r (s.after f) := by
  unfold State.after
  split
  · exact k _ h _ (by assumption)
  · exact h

/-! ## Plain updates -/

theorem Preserves.upd_boot {r s : State} {x0 : _} (h : Preserves r s) :
    Preserves r { s with boot := x0 } :=
  { h with }

theorem Preserves.upd_canvas {r s : State} {x0 : _} (h : Preserves r s) :
    Preserves r { s with canvas := x0 } :=
  { h with }

theorem Preserves.upd_dp {r s : State} {x0 : _} (h : Preserves r s) :
    Preserves r { s with dp := x0 } :=
  { h with }

theorem Preserves.upd_dp_req {r s : State} {x0 : _} {x1 : _} (h : Preserves r s) :
    Preserves r { s with dp := x0, req := x1 } :=
  { h with }

theorem Preserves.upd_evLost {r s : State} {x0 : _} (h : Preserves r s) :
    Preserves r { s with evLost := x0 } :=
  { h with }

theorem Preserves.upd_evLostOff {r s : State} {x0 : _} (h : Preserves r s) :
    Preserves r { s with evLostOff := x0 } :=
  { h with }

theorem Preserves.upd_evq {r s : State} {x0 : _} (h : Preserves r s) :
    Preserves r { s with evq := x0 } :=
  { h with }

theorem Preserves.upd_free {r s : State} {x0 : _} (h : Preserves r s) :
    Preserves r { s with free := x0 } :=
  { h with }

theorem Preserves.upd_host {r s : State} {x0 : _} (h : Preserves r s) :
    Preserves r { s with host := x0 } :=
  { h with }

theorem Preserves.upd_host_out {r s : State} {x0 : _} {x1 : _} (h : Preserves r s) :
    Preserves r { s with host := x0, out := x1 } :=
  { h with }

theorem Preserves.upd_i3c_out {r s : State} {x0 : _} {x1 : _} (h : Preserves r s) :
    Preserves r { s with i3c := x0, out := x1 } :=
  { h with }

theorem Preserves.upd_maint {r s : State} {x0 : _} (h : Preserves r s) :
    Preserves r { s with maint := x0 } :=
  { h with }

theorem Preserves.upd_optics {r s : State} {x0 : _} (h : Preserves r s) :
    Preserves r { s with optics := x0 } :=
  { h with }

theorem Preserves.upd_out {r s : State} {x0 : _} (h : Preserves r s) :
    Preserves r { s with out := x0 } :=
  { h with }

theorem Preserves.upd_pal {r s : State} {x0 : _} (h : Preserves r s) :
    Preserves r { s with pal := x0 } :=
  { h with }

theorem Preserves.upd_pending {r s : State} {x0 : _} (h : Preserves r s) :
    Preserves r { s with pending := x0 } :=
  { h with }

theorem Preserves.upd_prism {r s : State} {x0 : _} (h : Preserves r s) :
    Preserves r { s with prism := x0 } :=
  { h with }

theorem Preserves.upd_pwr {r s : State} {x0 : _} (h : Preserves r s) :
    Preserves r { s with pwr := x0 } :=
  { h with }

theorem Preserves.upd_pwr_boot {r s : State} {x0 : _} {x1 : _} (h : Preserves r s) :
    Preserves r { s with pwr := x0, boot := x1 } :=
  { h with }

theorem Preserves.upd_req {r s : State} {x0 : _} (h : Preserves r s) :
    Preserves r { s with req := x0 } :=
  { h with }

theorem Preserves.upd_sched {r s : State} {x0 : _} (h : Preserves r s) :
    Preserves r { s with sched := x0 } :=
  { h with }

theorem Preserves.upd_tab {r s : State} {x0 : _} (h : Preserves r s) :
    Preserves r { s with tab := x0 } :=
  { h with }

theorem Preserves.upd_tab_prism {r s : State} {x0 : _} {x1 : _} (h : Preserves r s) :
    Preserves r { s with tab := x0, prism := x1 } :=
  { h with }

theorem Preserves.upd_tel {r s : State} {x0 : _} (h : Preserves r s) :
    Preserves r { s with tel := x0 } :=
  { h with }

theorem Preserves.upd_wd {r s : State} {x0 : _} (h : Preserves r s) :
    Preserves r { s with wd := x0 } :=
  { h with }
/-! ## Parts that keep their form by a law of their own -/

theorem bumpTbl_wf {t : Tbl Nat} (h : Tbl.wf (fun _ => 0) t = true) (off n : Nat) :
    Tbl.wf (fun _ => 0) (bumpTbl t off n) = true := Tbl.wf_upd h off _

theorem countDropTbl_wf {t : Tbl Nat} (h : Tbl.wf (fun _ => 0) t = true) (port reason : Nat) :
    Tbl.wf (fun _ => 0) (countDropTbl t port reason) = true := by
  unfold countDropTbl
  dsimp only
  split
  · exact bumpTbl_wf (bumpTbl_wf h _ _) _ _
  · exact bumpTbl_wf h _ _

theorem putWords_wf : ∀ (ws : List Word) {t : Tbl Word} (off : Nat), Tbl.wf regReset t = true →
    Tbl.wf regReset (putWords t off ws) = true
  | [], _, _, h => h
  | _ :: ws, _, off, h => putWords_wf ws (off + 4) (Tbl.wf_put h _ _)

theorem resetWords_wfFrom (which : Nat → Bool) (keep : Acc → Bool) : ∀ {t : Tbl Word} {lo : Option Nat},
    Tbl.wfFrom regReset lo t = true → Tbl.wfFrom regReset lo (resetWords which keep t) = true
  | [], _, _ => rfl
  | (k, w) :: t, lo, h => by
    obtain ⟨below, stored, rest⟩ := Tbl.wfFrom_cons.mp h
    have kept := resetWords_wfFrom which keep rest
    unfold resetWords
    dsimp only
    split
    · split
      · refine Tbl.wfFrom_mono kept fun l e => ?_
        subst e
        exact Nat.le_of_lt (by simpa [boundBelow] using below)
      · exact Tbl.wfFrom_cons.mpr ⟨below, by assumption, kept⟩
    · exact Tbl.wfFrom_cons.mpr ⟨below, stored, kept⟩

theorem resetWords_wf {t : Tbl Word} (h : Tbl.wf regReset t = true) (which : Nat → Bool) (keep : Acc → Bool) :
    Tbl.wf regReset (resetWords which keep t) = true := resetWords_wfFrom which keep h

theorem keptRegs_wf {t : Tbl Word} (h : Tbl.wf regReset t = true) (k : Keeps) : Tbl.wf regReset (keptRegs k t) = true :=
  resetWords_wf (resetWords_wf (Tbl.wf_filter h _) _ _) _ _

/-- Writes at each key of a list, whatever the values. -/
theorem Tbl.wf_foldl_put {α β : Type} [DecidableEq α] {d : Nat → α} (key : β → Nat) (val : Tbl α → β → α) (l : List β) {t : Tbl α}
    (h : Tbl.wf d t = true) : Tbl.wf d (l.foldl (fun t x => Tbl.put d t (key x) (val t x)) t) = true :=
  Tbl.wf_foldl (fun _ x w => Tbl.wf_put w (key x) _) l h

theorem Memory.wf_iff (m : Memory) : m.wf = true ↔ Tbl.wf (fun _ => (0 : Byte)) m.bytes = true
    ∧ Tbl.wf (fun _ => none) m.cxlBytes = true ∧ Tbl.wf (fun _ => false) m.poison = true
    ∧ Tbl.wf (fun _ => false) m.badSlices = true := by
  simp only [Memory.wf, Bool.and_eq_true, and_assoc]

theorem Memory.putByte_wf {m : Memory} (h : m.wf = true) (key : Nat) (b : Byte) : (m.putByte key b).wf = true := by
  rw [Memory.wf_iff] at h ⊢
  obtain ⟨bytes, cxl, poison, bad⟩ := h
  unfold Memory.putByte
  split
  · exact ⟨bytes, Tbl.wf_put cxl key (some b), poison, bad⟩
  · exact ⟨Tbl.wf_put bytes _ _, cxl, poison, bad⟩

theorem Memory.putBytes_wf : ∀ (bs : List Byte) {m : Memory} (key : Nat), m.wf = true → (m.putBytes key bs).wf = true
  | [], _, _, h => h
  | b :: bs, _, key, h => Memory.putBytes_wf bs (key + 1) (Memory.putByte_wf h key b)

theorem Memory.heal_wf {m : Memory} (h : m.wf = true) (key len : Nat) : (m.heal key len).wf = true := by
  rw [Memory.wf_iff] at h ⊢
  obtain ⟨bytes, cxl, poison, bad⟩ := h
  exact ⟨bytes, cxl, Tbl.wf_foldl_put id _ _ poison, Tbl.wf_foldl_put id _ _ bad⟩

theorem Memory.clear_wf {m : Memory} (h : m.wf = true) (lo hi : Nat) : (m.clear lo hi).wf = true := by
  rw [Memory.wf_iff] at h ⊢
  obtain ⟨bytes, cxl, poison, bad⟩ := h
  exact ⟨Tbl.wf_filter bytes _, cxl, Tbl.wf_filter poison _, Tbl.wf_filter bad _⟩

theorem Memory.foldl_clear_wf {β : Type} (lo hi : β → Nat) : ∀ (l : List β) {m : Memory}, m.wf = true →
    (l.foldl (fun m x => m.clear (lo x) (hi x)) m).wf = true
  | [], _, h => h
  | x :: l, _, h => Memory.foldl_clear_wf lo hi l (Memory.clear_wf h (lo x) (hi x))

theorem Memory.spreadPoison_wf {m : Memory} (h : m.wf = true) (l : List Nat) : (m.spreadPoison l).wf = true := by
  rw [Memory.wf_iff] at h ⊢
  obtain ⟨bytes, cxl, poison, bad⟩ := h
  exact ⟨bytes, cxl, Tbl.wf_foldl (fun _ _ w => Tbl.wf_foldl_put _ _ _ w) _ poison, Tbl.wf_foldl_put id _ _ bad⟩

/-- The form of memory is that of its bytes, CXL bytes, poison and bad slices alone. -/
theorem Memory.wf_congr {m n : Memory} (bytes : n.bytes = m.bytes) (cxl : n.cxlBytes = m.cxlBytes)
    (poison : n.poison = m.poison) (bad : n.badSlices = m.badSlices) (h : m.wf = true) : n.wf = true := by
  rwa [Memory.wf, bytes, cxl, poison, bad]

theorem Memory.failSlices_wf {m : Memory} (h : m.wf = true) (l : List Nat) :
    ({ m with badSlices := l.foldl (fun t x => Tbl.put (fun _ => false) t x true) m.badSlices } : Memory).wf = true := by
  rw [Memory.wf_iff] at h ⊢
  obtain ⟨bytes, cxl, poison, bad⟩ := h
  exact ⟨bytes, cxl, poison, Tbl.wf_foldl_put id _ _ bad⟩

theorem Memory.poisonLine_wf {m : Memory} (h : m.wf = true) (line : Nat) :
    ({ m with poison := Tbl.put (fun _ => false) m.poison line true } : Memory).wf = true := by
  rw [Memory.wf_iff] at h ⊢
  obtain ⟨bytes, cxl, poison, bad⟩ := h
  exact ⟨bytes, cxl, Tbl.wf_put poison line true, bad⟩

theorem Memory.renewCxl_wf {m : Memory} (h : m.wf = true) (gen : Tbl Nat) (keep : Nat × Option Byte → Bool) :
    ({ m with cxlGen := gen, cxlBytes := m.cxlBytes.filter keep } : Memory).wf = true := by
  rw [Memory.wf_iff] at h ⊢
  obtain ⟨bytes, cxl, poison, bad⟩ := h
  exact ⟨bytes, Tbl.wf_filter cxl _, poison, bad⟩

theorem Memory.warm_wf {m : Memory} (h : m.wf = true) : m.warm.wf = true := by
  have cleared := (Memory.wf_iff _).mp
    (Memory.foldl_clear_wf (fun d => memKey d 0) (fun d => memKey d (2 ^ 39)) (List.range 4) h)
  obtain ⟨bytes, -, poison, bad⟩ := cleared
  exact (Memory.wf_iff _).mpr ⟨bytes, rfl, poison, bad⟩

/-! ## The balance of the crossings (R38, R42) -/

theorem Tbl.mem_erase {α : Type} {k : Nat} {x : Nat × α} : ∀ {t : Tbl α}, x ∈ Tbl.erase t k → x ∈ t
  | [], h => h
  | (j, v) :: t, h => by
    unfold Tbl.erase at h
    split at h
    · exact List.mem_cons_of_mem _ h
    · split at h
      · exact h
      · rcases List.mem_cons.mp h with rfl | h
        · exact List.mem_cons_self
        · exact List.mem_cons_of_mem _ (Tbl.mem_erase h)

theorem Tbl.mem_insert {α : Type} {k : Nat} {v : α} {x : Nat × α} : ∀ {t : Tbl α}, x ∈ Tbl.insert t k v → x = (k, v) ∨ x ∈ t
  | [], h => .inl (List.mem_singleton.mp h)
  | (j, u) :: t, h => by
    unfold Tbl.insert at h
    split at h
    · exact (List.mem_cons.mp h).imp_right (List.mem_cons_of_mem _)
    · split at h
      · exact List.mem_cons.mp h
      · rcases List.mem_cons.mp h with rfl | h
        · exact .inr List.mem_cons_self
        · exact (Tbl.mem_insert h).imp_right (List.mem_cons_of_mem _)

theorem Tbl.mem_put {α : Type} [DecidableEq α] {d : Nat → α} {t : Tbl α} {k : Nat} {v : α} {x : Nat × α}
    (h : x ∈ Tbl.put d t k v) : x = (k, v) ∨ x ∈ t := by
  unfold Tbl.put at h
  split at h
  · exact .inr (Tbl.mem_erase h)
  · exact Tbl.mem_insert h

theorem Tbl.get_mem_or {α : Type} {d : Nat → α} {k : Nat} : ∀ (t : Tbl α), Tbl.get d t k = d k ∨ (k, Tbl.get d t k) ∈ t
  | [] => .inl rfl
  | (j, v) :: t => by
    unfold Tbl.get
    split
    · next e => exact .inr (e ▸ List.mem_cons_self)
    · split
      · exact .inl rfl
      · exact (Tbl.get_mem_or t).imp_right (List.mem_cons_of_mem _)

/-- The balance of one crossing of depth `d`, where its consumer has announced it. -/
def Crossing.Balanced (x : Crossing) (d : Nat) : Prop := x.announced = true → x.credits + x.entries + x.flight = d

theorem CrossingsBalanced.get {t : Tbl Crossing} (h : CrossingsBalanced t) (k : Nat) :
    (Tbl.get (fun _ => Crossing.init) t k).Balanced (crossingDepth k) := by
  rcases Tbl.get_mem_or (d := fun _ => Crossing.init) (k := k) t with e | m
  · rw [e]
    intro announced
    cases announced
  · exact h _ m

theorem CrossingsBalanced.put {t : Tbl Crossing} (h : CrossingsBalanced t) {k : Nat} {x : Crossing}
    (b : x.Balanced (crossingDepth k)) : CrossingsBalanced (Tbl.put (fun _ => Crossing.init) t k x) := by
  intro y m
  rcases Tbl.mem_put m with rfl | m
  · exact b
  · exact h y m

theorem Crossing.Balanced.announce {x : Crossing} {d : Nat} (h : x.Balanced d) : (x.announce d).Balanced d := by
  unfold Crossing.announce
  split
  · exact h
  · intro _
    rfl

theorem Crossing.shut_balanced (x : Crossing) (d : Nat) : x.shut.Balanced d := fun announced => nomatch announced

theorem Crossing.Balanced.send {x : Crossing} {d : Nat} (h : x.Balanced d) (n : Nat) : (x.send n).Balanced d := by
  intro announced
  have before := h announced
  simp only [Crossing.send]
  omega

theorem Crossing.Balanced.take {x : Crossing} {d : Nat} (h : x.Balanced d) (n : Nat) : (x.take n).Balanced d := by
  intro announced
  have before := h announced
  simp only [Crossing.take]
  omega

theorem Crossing.Balanced.discard {x : Crossing} {d : Nat} (h : x.Balanced d) (n : Nat) : (x.discard n).Balanced d := h.take n

theorem Crossing.Balanced.back {x : Crossing} {d : Nat} (h : x.Balanced d) : x.back.Balanced d := by
  intro announced
  have before := h announced
  simp only [Crossing.back]
  omega

theorem Crossing.Balanced.pass {x : Crossing} {d : Nat} (h : x.Balanced d) (n : Nat) : (x.pass n).Balanced d := by
  unfold Crossing.pass
  split
  · exact h
  · split
    · exact (h.send n).take n
    · exact (h.back.send _).take _

theorem CrossingsBalanced.remap_back : ∀ {t : Tbl Crossing}, CrossingsBalanced t →
    CrossingsBalanced (Tbl.remap (fun _ => Crossing.init) Crossing.back t)
  | [], h => h
  | (k, x) :: t, h => by
    have rest : CrossingsBalanced (Tbl.remap (fun _ => Crossing.init) Crossing.back t) :=
      CrossingsBalanced.remap_back fun y m => h y (List.mem_cons_of_mem _ m)
    have head : x.Balanced (crossingDepth k) := h (k, x) List.mem_cons_self
    exact rest.put head.back

/-! ## Updates of the kept parts -/

theorem State.HoldsTime.congr {s t : State} (st : t.timing.st = s.timing.st) (stepped : t.timing.stepped = s.timing.stepped)
    (off : t.clk.tb0Off = s.clk.tb0Off) : s.HoldsTime t := by
  intro settled
  refine ⟨?_, fun was => ⟨stepped.trans was, off⟩⟩
  rwa [State.tb0Settled, st, stepped]

theorem Preserves.upd_cnt {r s : State} {x0 : _} (h : Preserves r s)
    (cntK : Tbl.wf (fun _ => 0) s.cnt = true → Tbl.wf (fun _ => 0) x0 = true) :
    Preserves r { s with cnt := x0 } :=
  { h with cnt := cntK ∘ h.cnt }

theorem Preserves.upd_cnt_evLost {r s : State} {x0 : _} {x1 : _} (h : Preserves r s)
    (cntK : Tbl.wf (fun _ => 0) s.cnt = true → Tbl.wf (fun _ => 0) x0 = true) :
    Preserves r { s with cnt := x0, evLost := x1 } :=
  { h with cnt := cntK ∘ h.cnt }

theorem Preserves.upd_cnt_evq {r s : State} {x0 : _} {x1 : _} (h : Preserves r s)
    (cntK : Tbl.wf (fun _ => 0) s.cnt = true → Tbl.wf (fun _ => 0) x0 = true) :
    Preserves r { s with cnt := x0, evq := x1 } :=
  { h with cnt := cntK ∘ h.cnt }

theorem Preserves.upd_cnt_out {r s : State} {x0 : _} {x1 : _} (h : Preserves r s)
    (cntK : Tbl.wf (fun _ => 0) s.cnt = true → Tbl.wf (fun _ => 0) x0 = true) :
    Preserves r { s with cnt := x0, out := x1 } :=
  { h with cnt := cntK ∘ h.cnt }

theorem Preserves.upd_cnt_cyc {r s : State} {x0 : _} {x1 : _} (h : Preserves r s)
    (cntK : Tbl.wf (fun _ => 0) s.cnt = true → Tbl.wf (fun _ => 0) x0 = true) :
    Preserves r { s with cnt := x0, cyc := x1 } :=
  { h with cnt := cntK ∘ h.cnt }

theorem Preserves.upd_dom {r s : State} {x0 : _} (h : Preserves r s)
    (domK : Tbl.wf (fun _ => DomState.off) s.dom = true → Tbl.wf (fun _ => DomState.off) x0 = true) :
    Preserves r { s with dom := x0 } :=
  { h with dom := domK ∘ h.dom }

theorem Preserves.upd_dom_pwr {r s : State} {x0 : _} {x1 : _} (h : Preserves r s)
    (domK : Tbl.wf (fun _ => DomState.off) s.dom = true → Tbl.wf (fun _ => DomState.off) x0 = true) :
    Preserves r { s with dom := x0, pwr := x1 } :=
  { h with dom := domK ∘ h.dom }

theorem Preserves.upd_dom_maint_boot {r s : State} {x0 : _} {x1 : _} {x2 : _} (h : Preserves r s)
    (domK : Tbl.wf (fun _ => DomState.off) s.dom = true → Tbl.wf (fun _ => DomState.off) x0 = true) :
    Preserves r { s with dom := x0, maint := x1, boot := x2 } :=
  { h with dom := domK ∘ h.dom }

theorem Preserves.upd_dom_pwr_boot {r s : State} {x0 : _} {x1 : _} {x2 : _} (h : Preserves r s)
    (domK : Tbl.wf (fun _ => DomState.off) s.dom = true → Tbl.wf (fun _ => DomState.off) x0 = true) :
    Preserves r { s with dom := x0, pwr := x1, boot := x2 } :=
  { h with dom := domK ∘ h.dom }

theorem Preserves.upd_dp_mem {r s : State} {x0 : _} {x1 : Memory} (h : Preserves r s)
    (memK : s.mem.wf = true → x1.wf = true) :
    Preserves r { s with dp := x0, mem := x1 } :=
  { h with mem := memK ∘ h.mem }

theorem Preserves.upd_dp_peers_planes_prism {r s : State} {x0 : _} {x1 : _} {x2 : _} {x3 : _} (h : Preserves r s)
    (peersK : Tbl.wf (fun _ => Peer.init) s.peers = true → Tbl.wf (fun _ => Peer.init) x1 = true)
    (planesK : Tbl.wf (fun _ => Plane.init) s.planes = true → Tbl.wf (fun _ => Plane.init) x2 = true) :
    Preserves r { s with dp := x0, peers := x1, planes := x2, prism := x3 } :=
  { h with peers := peersK ∘ h.peers, planes := planesK ∘ h.planes }

theorem Preserves.upd_dp_sched_ports_links_macs {r s : State} {x0 : _} {x1 : _} {x2 : _} {x3 : _} {x4 : _} (h : Preserves r s)
    (portsK : Tbl.wf (fun _ => Port.init) s.ports = true → Tbl.wf (fun _ => Port.init) x2 = true)
    (linksK : Tbl.wf (fun _ => Link.init) s.links = true → Tbl.wf (fun _ => Link.init) x3 = true) :
    Preserves r { s with dp := x0, sched := x1, ports := x2, links := x3, macs := x4 } :=
  { h with ports := portsK ∘ h.ports, links := linksK ∘ h.links }

theorem Preserves.upd_homes {r s : State} {x0 : _} (h : Preserves r s)
    (homesK : Tbl.wf (fun _ => Home.init) s.homes = true → Tbl.wf (fun _ => Home.init) x0 = true) :
    Preserves r { s with homes := x0 } :=
  { h with homes := homesK ∘ h.homes }

theorem Preserves.upd_homes_mem {r s : State} {x0 : _} {x1 : Memory} (h : Preserves r s)
    (homesK : Tbl.wf (fun _ => Home.init) s.homes = true → Tbl.wf (fun _ => Home.init) x0 = true)
    (memK : s.mem.wf = true → x1.wf = true) :
    Preserves r { s with homes := x0, mem := x1 } :=
  { h with homes := homesK ∘ h.homes, mem := memK ∘ h.mem }

theorem Preserves.upd_links {r s : State} {x0 : _} (h : Preserves r s)
    (linksK : Tbl.wf (fun _ => Link.init) s.links = true → Tbl.wf (fun _ => Link.init) x0 = true) :
    Preserves r { s with links := x0 } :=
  { h with links := linksK ∘ h.links }

theorem Preserves.upd_mem {r s : State} {x0 : Memory} (h : Preserves r s)
    (memK : s.mem.wf = true → x0.wf = true) :
    Preserves r { s with mem := x0 } :=
  { h with mem := memK ∘ h.mem }

theorem Preserves.upd_peers {r s : State} {x0 : _} (h : Preserves r s)
    (peersK : Tbl.wf (fun _ => Peer.init) s.peers = true → Tbl.wf (fun _ => Peer.init) x0 = true) :
    Preserves r { s with peers := x0 } :=
  { h with peers := peersK ∘ h.peers }

theorem Preserves.upd_peers_prism {r s : State} {x0 : _} {x1 : _} (h : Preserves r s)
    (peersK : Tbl.wf (fun _ => Peer.init) s.peers = true → Tbl.wf (fun _ => Peer.init) x0 = true) :
    Preserves r { s with peers := x0, prism := x1 } :=
  { h with peers := peersK ∘ h.peers }

theorem Preserves.upd_planes {r s : State} {x0 : _} (h : Preserves r s)
    (planesK : Tbl.wf (fun _ => Plane.init) s.planes = true → Tbl.wf (fun _ => Plane.init) x0 = true) :
    Preserves r { s with planes := x0 } :=
  { h with planes := planesK ∘ h.planes }

theorem Preserves.upd_ports {r s : State} {x0 : _} (h : Preserves r s)
    (portsK : Tbl.wf (fun _ => Port.init) s.ports = true → Tbl.wf (fun _ => Port.init) x0 = true) :
    Preserves r { s with ports := x0 } :=
  { h with ports := portsK ∘ h.ports }

theorem Preserves.upd_regs {r s : State} {x0 : _} (h : Preserves r s)
    (regsK : Tbl.wf regReset s.regs = true → Tbl.wf regReset x0 = true) :
    Preserves r { s with regs := x0 } :=
  { h with regs := regsK ∘ h.regs }

theorem Preserves.upd_regs_cnt {r s : State} {x0 : _} {x1 : _} (h : Preserves r s)
    (regsK : Tbl.wf regReset s.regs = true → Tbl.wf regReset x0 = true)
    (cntK : Tbl.wf (fun _ => 0) s.cnt = true → Tbl.wf (fun _ => 0) x1 = true) :
    Preserves r { s with regs := x0, cnt := x1 } :=
  { h with regs := regsK ∘ h.regs, cnt := cntK ∘ h.cnt }

theorem Preserves.upd_timing {r s : State} {x0 : Timing} (h : Preserves r s)
    (st : x0.st = s.timing.st) (stepped : x0.stepped = s.timing.stepped) :
    Preserves r { s with timing := x0 } :=
  { h with time := h.time.trans (State.HoldsTime.congr st stepped rfl) }

/-! ## Machine/Ops.lean -/

theorem State.bump_preserves {r : State} : ∀ (s : State) off n, Preserves r s → Preserves r (State.bump s off n) :=
  fun _ _ _ h => h.upd_cnt fun w => bumpTbl_wf w _ _

theorem State.wr_preserves {r : State} : ∀ (s : State) off w, Preserves r s → Preserves r (State.wr s off w) :=
  fun _ off w h => h.upd_regs fun k => Tbl.wf_put k off w

theorem State.setF_preserves {r : State} : ∀ (s : State) a1 a2 a3 a4,
    Preserves r s → Preserves r (State.setF s a1 a2 a3 a4) := by
  intro s a1 a2 a3 a4 h
  unfold State.setF
  repeat' first
    | with_reducible assumption | with_reducible apply State.wr_preserves

theorem State.raise_preserves {r : State} : ∀ (s : State) a1, Preserves r s → Preserves r (State.raise s a1) := by
  intro s a1 h
  unfold State.raise
  repeat' first
    | with_reducible assumption | exact fun w => bumpTbl_wf w _ _ | split | extract_lets
    | ((fail_if_success with_reducible apply Preserves.upd_pending); with_reducible apply Preserves.upd_evLostOff)
    | ((fail_if_success with_reducible apply Preserves.upd_pending); with_reducible apply Preserves.upd_evq)
    | ((fail_if_success with_reducible apply Preserves.upd_pending); with_reducible apply Preserves.upd_cnt_evLost)
    | ((fail_if_success with_reducible apply Preserves.upd_pending); with_reducible apply Preserves.upd_cnt_evq)

theorem State.setPlane_preserves {r : State} : ∀ (s : State) p x, Preserves r s → Preserves r (State.setPlane s p x) :=
  fun _ p x h => h.upd_planes fun k => Tbl.wf_put k p x

theorem State.setLink_preserves {r : State} : ∀ (s : State) p x, Preserves r s → Preserves r (State.setLink s p x) :=
  fun _ p x h => h.upd_links fun k => Tbl.wf_put k p x

theorem State.setPort_preserves {r : State} : ∀ (s : State) p x, Preserves r s → Preserves r (State.setPort s p x) :=
  fun _ p x h => h.upd_ports fun k => Tbl.wf_put k p x

theorem State.setPeer_preserves {r : State} : ∀ (s : State) p x, Preserves r s → Preserves r (State.setPeer s p x) :=
  fun _ p x h => h.upd_peers fun k => Tbl.wf_put k p x

theorem State.countCycles_preserves {r : State} : ∀ (s : State) a1 a2 a3,
    Preserves r s → Preserves r (State.countCycles s a1 a2 a3) := by
  intro s a1 a2 a3 h
  unfold State.countCycles
  repeat' first
    | with_reducible assumption | exact fun w => bumpTbl_wf w _ _ | split | extract_lets
    | ((fail_if_success with_reducible apply Preserves.upd_pending); with_reducible apply Preserves.upd_cnt_cyc)

theorem State.setXing_preserves {r s : State} {k : Nat} {x : Crossing} (h : Preserves r s)
    (b : CrossingsBalanced s.xings → x.Balanced (crossingDepth k)) : Preserves r (s.setXing k x) :=
  { h with
    xings := fun w => Tbl.wf_put (h.xings w) k x
    balance := fun w => (h.balance w).put (b (h.balance w)) }

theorem State.xShut_preserves {r : State} : ∀ (s : State) k, Preserves r s → Preserves r (State.xShut s k) :=
  fun _ _ h => State.setXing_preserves h fun _ => Crossing.shut_balanced _ _

theorem State.wrWords_preserves {r : State} : ∀ (s : State) off ws, Preserves r s → Preserves r (State.wrWords s off ws) :=
  fun _ off ws h => h.upd_regs fun k => putWords_wf ws off k

theorem State.countCycle_preserves {r : State} : ∀ (s : State) a1,
    Preserves r s → Preserves r (State.countCycle s a1) := by
  intro s a1 h
  unfold State.countCycle
  repeat' first
    | with_reducible assumption | with_reducible apply State.countCycles_preserves

theorem State.xAnnounce_preserves {r : State} : ∀ (s : State) k, Preserves r s → Preserves r (State.xAnnounce s k) :=
  fun _ k h => State.setXing_preserves h fun w => (w.get k).announce

theorem State.bumpPort_preserves {r : State} : ∀ (s : State) a1 a2 a3,
    Preserves r s → Preserves r (State.bumpPort s a1 a2 a3) := by
  intro s a1 a2 a3 h
  unfold State.bumpPort
  repeat' first
    | with_reducible assumption | with_reducible apply State.bump_preserves | split

theorem State.xPass_preserves {r : State} : ∀ (s : State) k n, Preserves r s → Preserves r (State.xPass s k n) :=
  fun _ k n h => State.setXing_preserves h fun w => (w.get k).pass n

theorem State.store_preserves {r : State} : ∀ (s : State) a1 a2,
    Preserves r s → Preserves r (State.store s a1 a2) := by
  intro s a1 a2 h
  unfold State.store
  repeat' first
    | with_reducible assumption | with_reducible apply State.wr_preserves

/-! ## Machine/Maint.lean -/

theorem State.maintEvent_preserves {r : State} : ∀ (s : State) a1 a2,
    Preserves r s → Preserves r (State.maintEvent s a1 a2) := by
  intro s a1 a2 h
  unfold State.maintEvent
  repeat' first
    | with_reducible assumption | with_reducible apply State.raise_preserves

theorem State.endMaint_preserves {r : State} : ∀ (s : State) a1 a2,
    Preserves r s → Preserves r (State.endMaint s a1 a2) := by
  intro s a1 a2 h
  unfold State.endMaint
  repeat' first
    | with_reducible assumption | with_reducible apply State.maintEvent_preserves | split | extract_lets
    | ((fail_if_success with_reducible apply Preserves.upd_pending); with_reducible apply Preserves.upd_maint)

theorem State.requestMaint_preserves {a : Activity} {f : State → State} {r s : State}
    (k : ∀ x, Preserves r x → Preserves r (f x)) (h : Preserves r s) : Preserves r (s.requestMaint a f) := by
  unfold State.requestMaint
  split
  · exact k _ (State.maintEvent_preserves _ _ _ h.upd_maint)
  · exact State.maintEvent_preserves _ _ _ h.upd_maint

/-! ## Machine/Memory.lean -/

theorem State.setStack_preserves {r : State} : ∀ (s : State) a1 a2,
    Preserves r s → Preserves r (State.setStack s a1 a2) := by
  intro s a1 a2 h
  unfold State.setStack
  repeat' first
    | with_reducible assumption | with_reducible apply State.setF_preserves

theorem State.setHome_preserves {r : State} : ∀ (s : State) d x, Preserves r s → Preserves r (State.setHome s d x) :=
  fun _ d x h => h.upd_homes fun k => Tbl.wf_put k d x

theorem State.writeBytes_preserves {r : State} : ∀ (s : State) key bs, Preserves r s → Preserves r (State.writeBytes s key bs) := by
  intro s key bs h
  unfold State.writeBytes
  dsimp only
  refine Preserves.upd_mem ?_ fun w => Memory.heal_wf (Memory.putBytes_wf _ _ w) _ _
  split
  · exact h
  · exact State.setHome_preserves _ _ _ h

theorem State.setCxlSt_preserves {r : State} : ∀ (s : State) a1 a2,
    Preserves r s → Preserves r (State.setCxlSt s a1 a2) := by
  intro s a1 a2 h
  unfold State.setCxlSt
  repeat' first
    | with_reducible assumption | with_reducible apply State.setF_preserves

theorem State.setPage_preserves {r : State} : ∀ (s : State) a1 a2,
    Preserves r s → Preserves r (State.setPage s a1 a2) := by
  intro s a1 a2 h
  unfold State.setPage
  repeat' first
    | with_reducible assumption | with_reducible exact Memory.wf_congr rfl rfl rfl rfl | split | extract_lets
    | ((fail_if_success with_reducible apply Preserves.upd_pending); with_reducible apply Preserves.upd_mem)

theorem State.heatPage_preserves {r : State} : ∀ (s : State) a1 a2 a3 a4,
    Preserves r s → Preserves r (State.heatPage s a1 a2 a3 a4) := by
  intro s a1 a2 a3 a4 h
  unfold State.heatPage
  repeat' first
    | with_reducible assumption | with_reducible apply State.setPage_preserves | split | extract_lets

theorem State.cxlBytesCount_preserves {r : State} : ∀ (s : State) a1 a2 a3 a4,
    Preserves r s → Preserves r (State.cxlBytesCount s a1 a2 a3 a4) := by
  intro s a1 a2 a3 a4 h
  unfold State.cxlBytesCount
  repeat' first
    | with_reducible assumption | with_reducible apply State.bump_preserves | split

theorem State.placement_preserves {r : State} : ∀ (s : State) a1 a2,
    Preserves r s → Preserves r (State.placement s a1 a2) := by
  intro s a1 a2 h
  unfold State.placement
  repeat' first
    | with_reducible assumption | with_reducible exact Memory.wf_congr rfl rfl rfl rfl
    | with_reducible apply State.raise_preserves | split | extract_lets
    | ((fail_if_success with_reducible apply Preserves.upd_pending); with_reducible apply Preserves.upd_mem)

theorem State.zeroRange_preserves {r : State} : ∀ (s : State) lo hi, Preserves r s → Preserves r (State.zeroRange s lo hi) :=
  fun s _ _ h => (State.setHome_preserves s _ _ h).upd_mem fun w => Memory.clear_wf w _ _

theorem State.setRing_preserves {r : State} : ∀ (s : State) a1 a2,
    Preserves r s → Preserves r (State.setRing s a1 a2) :=
  fun _ _ _ h => Preserves.through (State.setRing_within _ _ _) rfl h

/-! ## Machine/HostOps.lean -/

theorem State.finishDesc_preserves {r : State} : ∀ (s : State) a1 a2,
    Preserves r s → Preserves r (State.finishDesc s a1 a2).1 := by
  intro s a1 a2 h
  unfold State.finishDesc
  repeat' first
    | with_reducible assumption | with_reducible apply State.bump_preserves
    | with_reducible apply State.setRing_preserves

theorem State.ringWrites_preserves {r : State} : ∀ (s : State) a1 a2,
    Preserves r s → Preserves r (State.ringWrites s a1 a2) :=
  fun _ _ _ h => Preserves.through (State.ringWrites_within _ _ _) rfl h

theorem State.addRecord_preserves {r : State} : ∀ (s : State) a1 a2,
    Preserves r s → Preserves r (State.addRecord s a1 a2).1 :=
  fun _ _ _ h => Preserves.through (State.addRecord_within _ _ _) rfl h

theorem State.closeDesc_preserves {r : State} : ∀ (s : State) a1 a2 a3,
    Preserves r s → Preserves r (State.closeDesc s a1 a2 a3) := by
  intro s a1 a2 a3 h
  unfold State.closeDesc
  repeat' first
    | with_reducible assumption | with_reducible apply State.ringWrites_preserves
    | with_reducible apply State.finishDesc_preserves | with_reducible apply State.addRecord_preserves | split
    | extract_lets

theorem State.endDesc_preserves {r : State} : ∀ (s : State) a1 a2 a3 a4 a5 a6 a7,
    Preserves r s → Preserves r (State.endDesc s a1 a2 a3 a4 a5 a6 a7) := by
  intro s a1 a2 a3 a4 a5 a6 a7 h
  unfold State.endDesc
  repeat' first
    | with_reducible assumption | with_reducible apply State.closeDesc_preserves

theorem State.txDone_preserves {r : State} : ∀ (s : State) a1 a2,
    Preserves r s → Preserves r (State.txDone s a1 a2) := by
  intro s a1 a2 h
  unfold State.txDone
  repeat' first
    | with_reducible assumption | with_reducible apply State.endDesc_preserves | split | extract_lets
    | ((fail_if_success with_reducible apply Preserves.upd_pending); with_reducible apply Preserves.upd_host)

theorem State.hostWrites_preserves {r : State} : ∀ (s : State) a1,
    Preserves r s → Preserves r (State.hostWrites s a1) :=
  fun _ _ h => Preserves.through (State.hostWrites_within _ _) rfl h

theorem State.capture_preserves {r : State} : ∀ (s : State) a1 a2,
    Preserves r s → Preserves r (State.capture s a1 a2) := by
  intro s a1 a2 h
  unfold State.capture
  repeat' first
    | with_reducible assumption | with_reducible apply State.bump_preserves
    | with_reducible apply State.closeDesc_preserves | with_reducible apply State.hostWrites_preserves | split
    | extract_lets
    | ((fail_if_success with_reducible apply Preserves.upd_pending); with_reducible apply Preserves.upd_host)

theorem State.hostRead_preserves {r : State} : ∀ (s : State) a1 a2 a3,
    Preserves r s → Preserves r (State.hostRead s a1 a2 a3) :=
  fun _ _ _ _ h => Preserves.through (State.hostRead_within _ _ _ _) rfl h

theorem State.pageCause_preserves {r : State} : ∀ (s : State), Preserves r s → Preserves r (State.pageCause s) := by
  intro s h
  unfold State.pageCause
  repeat' first
    | with_reducible assumption | with_reducible apply State.bump_preserves
    | with_reducible apply State.hostRead_preserves | split | extract_lets
    | ((fail_if_success with_reducible apply Preserves.upd_pending); with_reducible apply Preserves.upd_host)

/-! ## Machine/Buffer.lean -/

theorem State.returnCredits_preserves {r : State} : ∀ (s : State) a1 a2 a3,
    Preserves r s → Preserves r (State.returnCredits s a1 a2 a3) := by
  intro s a1 a2 a3 h
  unfold State.returnCredits
  repeat' first
    | with_reducible assumption | with_reducible apply State.setLink_preserves | split

theorem State.oweCredits_preserves {r : State} : ∀ (s : State) a1 a2,
    Preserves r s → Preserves r (State.oweCredits s a1 a2) :=
  fun _ _ _ h => Preserves.through (State.oweCredits_within _ _ _) rfl h

theorem State.freeItem_preserves {r : State} : ∀ (s : State) a1 a2,
    Preserves r s → Preserves r (State.freeItem s a1 a2) := by
  intro s a1 a2 h
  unfold State.freeItem
  repeat' first
    | with_reducible assumption | with_reducible apply State.returnCredits_preserves
    | with_reducible apply State.oweCredits_preserves | split | extract_lets
    | ((fail_if_success with_reducible apply Preserves.upd_pending); with_reducible apply Preserves.upd_dp)

theorem State.leaveCharge_preserves {r : State} : ∀ (s : State) a1,
    Preserves r s → Preserves r (State.leaveCharge s a1) := by
  intro s a1 h
  unfold State.leaveCharge
  repeat' first
    | with_reducible assumption | with_reducible apply State.freeItem_preserves

theorem State.place_preserves {r : State} : ∀ (s : State) a1 a2 a3,
    Preserves r s → Preserves r (State.place s a1 a2 a3) := by
  intro s a1 a2 a3 h
  unfold State.place
  repeat' first
    | with_reducible assumption | with_reducible apply State.leaveCharge_preserves | split | extract_lets
    | ((fail_if_success with_reducible apply Preserves.upd_pending); with_reducible apply Preserves.upd_dp)

theorem State.setBankQ_preserves {r : State} : ∀ (s : State) a1 a2,
    Preserves r s → Preserves r (State.setBankQ s a1 a2) :=
  fun _ _ _ h => Preserves.through (State.setBankQ_within _ _ _) rfl h

theorem State.bankLeave_preserves {r : State} : ∀ (s : State) a1 a2,
    Preserves r s → Preserves r (State.bankLeave s a1 a2) := by
  intro s a1 a2 h
  unfold State.bankLeave
  repeat' first
    | with_reducible assumption | with_reducible apply State.setBankQ_preserves
    | with_reducible apply State.returnCredits_preserves | split | extract_lets
    | ((fail_if_success with_reducible apply Preserves.upd_pending); with_reducible apply Preserves.upd_dp)

theorem State.countDrop_preserves {r : State} : ∀ (s : State) port reason, Preserves r s →
    Preserves r (State.countDrop s port reason) :=
  fun _ _ _ h => h.upd_cnt fun w => countDropTbl_wf w _ _

theorem State.dropItem_preserves {r : State} : ∀ (s : State) a1 a2 a3,
    Preserves r s → Preserves r (State.dropItem s a1 a2 a3) := by
  intro s a1 a2 a3 h
  unfold State.dropItem
  repeat' first
    | with_reducible assumption | with_reducible apply State.bankLeave_preserves
    | with_reducible apply State.txDone_preserves | with_reducible apply State.countDrop_preserves
    | with_reducible apply State.freeItem_preserves | split | extract_lets
    | ((fail_if_success with_reducible apply Preserves.upd_pending); with_reducible apply Preserves.upd_dp)
    | with_reducible intro _ | with_reducible show Preserves _ (ite _ _ _)

theorem State.entered_preserves {r : State} : ∀ (s : State) a1, Preserves r s → Preserves r (State.entered s a1) :=
  fun _ _ h => Preserves.through (State.entered_within _ _) rfl h

theorem State.offer_preserves {r : State} : ∀ (s : State) a1 a2, ∀ t, State.offer s a1 a2 = some t →
    Preserves r s → Preserves r t := by
  intro s a1 a2
  unfold State.offer
  repeat' first
    | with_reducible assumption | with_reducible apply State.place_preserves
    | with_reducible apply State.dropItem_preserves | with_reducible apply State.entered_preserves | split
    | extract_lets | with_reducible intro _ | with_reducible show Preserves _ (ite _ _ _) | contradiction
    | (cases ‹some _ = some _›)

theorem State.setWaiting_preserves {r : State} : ∀ (s : State) a1 a2,
    Preserves r s → Preserves r (State.setWaiting s a1 a2) :=
  fun _ _ _ h => Preserves.through (State.setWaiting_within _ _ _) rfl h

theorem State.takeIn_preserves {r : State} : ∀ (s : State) a1 a2,
    Preserves r s → Preserves r (State.takeIn s a1 a2) := by
  intro s a1 a2 h
  unfold State.takeIn
  repeat' first
    | with_reducible assumption | with_reducible refine State.offer_preserves _ _ _ _ (by assumption) ?_
    | with_reducible apply State.setWaiting_preserves | split | extract_lets

theorem State.holdItem_preserves {r : State} : ∀ (s : State) a1,
    Preserves r s → Preserves r (State.holdItem s a1) := by
  intro s a1 h
  unfold State.holdItem
  repeat' first
    | with_reducible assumption | with_reducible apply State.dropItem_preserves
    | with_reducible apply State.entered_preserves | with_reducible apply State.leaveCharge_preserves | split
    | extract_lets
    | ((fail_if_success with_reducible apply Preserves.upd_pending); with_reducible apply Preserves.upd_dp)

theorem State.mcSettle_preserves {r : State} : ∀ (s : State) a1,
    Preserves r s → Preserves r (State.mcSettle s a1) := by
  intro s a1 h
  unfold State.mcSettle
  repeat' first
    | with_reducible assumption | with_reducible apply State.returnCredits_preserves
    | with_reducible apply State.oweCredits_preserves | split | extract_lets
    | ((fail_if_success with_reducible apply Preserves.upd_pending); with_reducible apply Preserves.upd_dp)

theorem State.dropAll_preserves {r : State} : ∀ (s : State) a1 a2 a3,
    Preserves r s → Preserves r (State.dropAll s a1 a2 a3) := by
  intro s a1 a2 a3 h
  unfold State.dropAll
  repeat' first
    | with_reducible assumption | with_reducible apply State.dropItem_preserves
    | (with_reducible apply Preserves.each; intro _ _ _)

theorem State.mcDone_preserves {r : State} : ∀ (s : State) a1, Preserves r s → Preserves r (State.mcDone s a1) := by
  intro s a1 h
  unfold State.mcDone
  repeat' first
    | with_reducible assumption | with_reducible apply State.mcSettle_preserves
    | with_reducible apply State.entered_preserves | split | extract_lets

theorem offerWaiting_preserves {r : State} : ∀ a0 (s : State), Preserves r s → Preserves r (offerWaiting a0 s).2 := by
  intro a0 s
  induction a0 generalizing s with
  | nil => intro h; unfold offerWaiting; exact h
  | cons x l ih =>
  intro h
  unfold offerWaiting
  repeat' first
    | with_reducible assumption | refine ih _ ?_
    | with_reducible refine State.offer_preserves _ _ _ _ (by assumption) ?_ | split

/-! ## Machine/EthOps.lean -/

theorem State.filterItem_preserves {r : State} : ∀ (s : State) a1 a2,
    Preserves r s → Preserves r (State.filterItem s a1 a2) := by
  intro s a1 a2 h
  unfold State.filterItem
  repeat' first
    | with_reducible assumption | with_reducible apply State.bump_preserves
    | with_reducible apply State.dropItem_preserves | with_reducible apply State.entered_preserves

theorem State.setMac_preserves {r : State} : ∀ (s : State) a1 a2,
    Preserves r s → Preserves r (State.setMac s a1 a2) :=
  fun _ _ _ h => Preserves.through (State.setMac_within _ _ _) rfl h

theorem State.learn_preserves {r : State} : ∀ (s : State) a1 a2,
    Preserves r s → Preserves r (State.learn s a1 a2) := by
  intro s a1 a2 h
  unfold State.learn
  repeat' first
    | with_reducible assumption | with_reducible apply State.bump_preserves
    | with_reducible apply State.setMac_preserves | split | extract_lets

/-! ## Machine/Forward.lean -/

theorem State.holdForMove_preserves {r : State} : ∀ (s : State) a1 a2 a3,
    Preserves r s → Preserves r (State.holdForMove s a1 a2 a3) := by
  intro s a1 a2 a3 h
  unfold State.holdForMove
  repeat' first
    | with_reducible assumption | with_reducible apply State.leaveCharge_preserves | split | extract_lets
    | ((fail_if_success with_reducible apply Preserves.upd_pending); with_reducible apply Preserves.upd_dp)

theorem State.noteDetour_preserves {r : State} : ∀ (s : State) a1 a2,
    Preserves r s → Preserves r (State.noteDetour s a1 a2) :=
  fun _ _ _ h => Preserves.through (State.noteDetour_within _ _ _) rfl h

theorem State.tick_preserves {r : State} : ∀ (s : State), Preserves r s → Preserves r (State.tick s) :=
  fun _ h => Preserves.through (State.tick_within _) rfl h

theorem State.noteBucket_preserves {r : State} : ∀ (s : State) a1 a2,
    Preserves r s → Preserves r (State.noteBucket s a1 a2) :=
  fun _ _ _ h => Preserves.through (State.noteBucket_within _ _ _) rfl h

theorem State.dispatch_preserves {r : State} : ∀ (s : State) a1 a2,
    Preserves r s → Preserves r (State.dispatch s a1 a2) := by
  intro s a1 a2 h
  unfold State.dispatch
  repeat' first
    | with_reducible assumption | with_reducible apply State.setPort_preserves
    | with_reducible apply State.holdForMove_preserves | with_reducible apply State.takeIn_preserves
    | with_reducible apply State.dropItem_preserves | with_reducible apply State.bankLeave_preserves
    | with_reducible apply State.noteDetour_preserves | with_reducible apply State.entered_preserves
    | with_reducible apply State.holdItem_preserves | with_reducible apply State.tick_preserves
    | with_reducible apply State.txDone_preserves | with_reducible apply State.noteBucket_preserves
    | with_reducible apply State.freeItem_preserves | split | extract_lets
    | ((fail_if_success with_reducible apply Preserves.upd_pending); with_reducible apply Preserves.upd_dp)

theorem State.dispatchFrame_preserves {r : State} : ∀ (s : State) a1 a2,
    Preserves r s → Preserves r (State.dispatchFrame s a1 a2) := by
  intro s a1 a2 h
  unfold State.dispatchFrame
  repeat' first
    | with_reducible assumption | with_reducible apply State.filterItem_preserves
    | with_reducible apply State.dispatch_preserves | split

theorem State.sendAgain_preserves {r : State} : ∀ (s : State) a1,
    Preserves r s → Preserves r (State.sendAgain s a1) := by
  intro s a1 h
  unfold State.sendAgain
  repeat' first
    | with_reducible assumption | with_reducible apply State.dispatch_preserves
    | with_reducible apply State.dispatchFrame_preserves | split

theorem State.bankHold_preserves {r : State} : ∀ (s : State) a1 a2,
    Preserves r s → Preserves r (State.bankHold s a1 a2) := by
  intro s a1 a2 h
  unfold State.bankHold
  repeat' first
    | with_reducible assumption | with_reducible apply State.setBankQ_preserves
    | with_reducible apply State.countCycle_preserves

theorem State.writeCells_preserves {r : State} : ∀ (s : State) a1,
    Preserves r s → Preserves r (State.writeCells s a1) :=
  fun _ _ h => Preserves.through (State.writeCells_within _ _) rfl h

theorem State.bankWrite_preserves {r : State} : ∀ (s : State) a1 a2 a3,
    Preserves r s → Preserves r (State.bankWrite s a1 a2 a3) := by
  intro s a1 a2 a3 h
  unfold State.bankWrite
  repeat' first
    | with_reducible assumption | with_reducible apply State.bankHold_preserves
    | with_reducible apply State.writeCells_preserves | split

theorem State.offerHeld_preserves {r : State} : ∀ (s : State) a1 a2, ∀ t, State.offerHeld s a1 a2 = some t →
    Preserves r s → Preserves r t := by
  intro s a1 a2
  unfold State.offerHeld
  repeat' first
    | with_reducible assumption | with_reducible refine State.offer_preserves _ _ _ _ (by assumption) ?_
    | with_reducible apply State.noteDetour_preserves | with_reducible apply State.dispatch_preserves
    | with_reducible apply State.tick_preserves | with_reducible apply State.noteBucket_preserves | split
    | extract_lets | with_reducible intro _ | with_reducible show Preserves _ (ite _ _ _) | contradiction
    | (cases ‹some _ = some _›)

theorem State.lookupHeld_preserves {r : State} : ∀ (s : State) a1, ∀ t, State.lookupHeld s a1 = some t →
    Preserves r s → Preserves r t := by
  intro s a1
  unfold State.lookupHeld
  repeat' first
    | with_reducible assumption | with_reducible refine State.offerHeld_preserves _ _ _ _ (by assumption) ?_
    | with_reducible apply State.filterItem_preserves | with_reducible apply State.dispatch_preserves | split
    | extract_lets | with_reducible intro _ | with_reducible show Preserves _ (ite _ _ _) | contradiction
    | (cases ‹some _ = some _›)

theorem State.setPolBucket_preserves {r : State} : ∀ (s : State) a1 a2 a3 a4,
    Preserves r s → Preserves r (State.setPolBucket s a1 a2 a3 a4) :=
  fun _ _ _ _ _ h => Preserves.through (State.setPolBucket_within _ _ _ _ _) rfl h

theorem State.police_preserves {r : State} : ∀ (s : State) a1 a2 a3 a4,
    Preserves r s → Preserves r (State.police s a1 a2 a3 a4).1 := by
  intro s a1 a2 a3 a4 h
  unfold State.police
  repeat' first
    | with_reducible assumption | with_reducible apply State.setPolBucket_preserves
    | with_reducible apply State.bumpPort_preserves | split | extract_lets

theorem State.meterAndGo_preserves {r : State} : ∀ (s : State) a1 a2 a3,
    Preserves r s → Preserves r (State.meterAndGo s a1 a2 a3) := by
  intro s a1 a2 a3 h
  unfold State.meterAndGo
  repeat' first
    | with_reducible assumption | with_reducible apply State.dropItem_preserves
    | with_reducible apply State.dispatch_preserves | with_reducible apply State.entered_preserves
    | with_reducible apply State.police_preserves | split | extract_lets

theorem State.pace_preserves {r : State} : ∀ (s : State) a1, Preserves r s → Preserves r (State.pace s a1) :=
  fun _ _ h => Preserves.through (State.pace_within _ _) rfl h

theorem State.lookup_preserves {r : State} : ∀ (s : State) a1 a2,
    Preserves r s → Preserves r (State.lookup s a1 a2) := by
  intro s a1 a2 h
  unfold State.lookup
  repeat' first
    | with_reducible assumption | with_reducible apply State.dropItem_preserves
    | with_reducible apply State.meterAndGo_preserves | with_reducible apply State.dispatch_preserves
    | with_reducible apply State.entered_preserves | with_reducible apply State.pace_preserves
    | with_reducible apply State.capture_preserves | split | extract_lets

theorem State.lookupFrame_preserves {r : State} : ∀ (s : State) a1 a2,
    Preserves r s → Preserves r (State.lookupFrame s a1 a2) := by
  intro s a1 a2 h
  unfold State.lookupFrame
  repeat' first
    | with_reducible assumption | with_reducible apply State.dropItem_preserves
    | with_reducible apply State.filterItem_preserves | with_reducible apply State.entered_preserves
    | with_reducible apply State.police_preserves | with_reducible apply State.dispatchFrame_preserves | split
    | extract_lets

theorem State.setRx_preserves {r : State} : ∀ (s : State) a1 a2, Preserves r s → Preserves r (State.setRx s a1 a2) :=
  fun _ _ _ h => Preserves.through (State.setRx_within _ _ _) rfl h

theorem State.setHq_preserves {r : State} : ∀ (s : State) a1 a2, Preserves r s → Preserves r (State.setHq s a1 a2) :=
  fun _ _ _ h => Preserves.through (State.setHq_within _ _ _) rfl h

theorem execHeaderArrival_preserves {r : State} : ∀ a0 (s : State),
    Preserves r s → PreservesNext r (execHeaderArrival a0 s) := by
  intro a0 s h
  unfold execHeaderArrival
  repeat' first
    | with_reducible assumption | with_reducible apply State.setRx_preserves
    | with_reducible apply State.setHq_preserves | with_reducible apply State.countCycle_preserves
    | with_reducible apply PreservesNext.ok | exact PreservesNext.fault _ | split | extract_lets
    | ((fail_if_success with_reducible apply Preserves.upd_pending); with_reducible apply Preserves.upd_dp)

theorem State.takeSeq_preserves {r : State} : ∀ (s : State) a1 a2 a3,
    Preserves r s → Preserves r (State.takeSeq s a1 a2 a3) :=
  fun _ _ _ _ h => Preserves.through (State.takeSeq_within _ _ _ _) rfl h

/-! ## Machine/Links.lean -/

theorem State.sendMark_preserves {r : State} : ∀ (s : State) a1 a2 a3,
    Preserves r s → Preserves r (State.sendMark s a1 a2 a3) := by
  intro s a1 a2 a3 h
  unfold State.sendMark
  repeat' first
    | with_reducible assumption | with_reducible apply State.takeIn_preserves
    | with_reducible apply State.takeSeq_preserves | with_reducible apply State.writeCells_preserves | split
    | extract_lets
    | ((fail_if_success with_reducible apply Preserves.upd_pending); with_reducible apply Preserves.upd_dp)

theorem State.beginPhase_preserves {r : State} : ∀ (s : State) a1 a2 a3,
    Preserves r s → Preserves r (State.beginPhase s a1 a2 a3).2 := by
  intro s a1 a2 a3 h
  unfold State.beginPhase
  repeat' first
    | with_reducible assumption | with_reducible apply State.sendMark_preserves
    | (with_reducible apply Preserves.each; intro _ _ _) | split

theorem State.releaseItem_preserves {r : State} : ∀ (s : State) a1 a2,
    Preserves r s → Preserves r (State.releaseItem s a1 a2) := by
  intro s a1 a2 h
  unfold State.releaseItem
  repeat' first
    | with_reducible assumption | with_reducible apply State.takeIn_preserves
    | with_reducible apply State.sendAgain_preserves | split

theorem State.finishMove_preserves {r : State} : ∀ (s : State) a1 a2,
    Preserves r s → Preserves r (State.finishMove s a1 a2) := by
  intro s a1 a2 h
  unfold State.finishMove
  repeat' first
    | with_reducible assumption | with_reducible apply State.bump_preserves
    | with_reducible apply State.raise_preserves | with_reducible apply State.releaseItem_preserves
    | (with_reducible apply Preserves.each; intro _ _ _) | split | extract_lets
    | ((fail_if_success with_reducible apply Preserves.upd_pending); with_reducible apply Preserves.upd_dp)

theorem State.settleMarks_preserves {r : State} : ∀ (s : State) a1,
    Preserves r s → Preserves r (State.settleMarks s a1) := by
  intro s a1 h
  unfold State.settleMarks
  repeat' first
    | with_reducible assumption | with_reducible apply State.finishMove_preserves | split

theorem State.keepCells_preserves {r : State} : ∀ (s : State) a1,
    Preserves r s → Preserves r (State.keepCells s a1) :=
  fun _ _ h => Preserves.through (State.keepCells_within _ _) rfl h

theorem State.toMove_preserves {r : State} : ∀ (s : State) a1 a2,
    Preserves r s → Preserves r (State.toMove s a1 a2) := by
  intro s a1 a2 h
  unfold State.toMove
  repeat' first
    | with_reducible assumption | with_reducible apply State.keepCells_preserves
    | with_reducible apply State.freeItem_preserves | split | extract_lets
    | ((fail_if_success with_reducible apply Preserves.upd_pending); with_reducible apply Preserves.upd_dp)

theorem State.setQueue_preserves {r : State} : ∀ (s : State) a1 a2,
    Preserves r s → Preserves r (State.setQueue s a1 a2) :=
  fun _ _ _ h => Preserves.through (State.setQueue_within _ _ _) rfl h

theorem State.emptied_preserves {r : State} : ∀ (s : State) a1, Preserves r s → Preserves r (State.emptied s a1) :=
  fun _ _ h => Preserves.through (State.emptied_within _ _) rfl h

theorem State.pullBucket_preserves {r : State} : ∀ (s : State) a1 a2 a3 a4,
    Preserves r s → Preserves r (State.pullBucket s a1 a2 a3 a4).2 := by
  intro s a1 a2 a3 a4
  induction a4 generalizing s a1 a2 a3 with
  | zero => intro h; unfold State.pullBucket; exact h
  | succ x ih =>
  intro h
  unfold State.pullBucket
  repeat' first
    | with_reducible assumption | refine ih _ _ _ _ ?_ | with_reducible apply State.setQueue_preserves
    | with_reducible apply State.emptied_preserves | with_reducible apply State.toMove_preserves
    | (with_reducible apply Preserves.each; intro _ _ _)

theorem State.setBundle_preserves {r : State} : ∀ (s : State) a1 a2,
    Preserves r s → Preserves r (State.setBundle s a1 a2) :=
  fun _ _ _ h => Preserves.through (State.setBundle_within _ _ _) rfl h

theorem State.turnMove_preserves {r : State} : ∀ (s : State) a1 a2 a3,
    Preserves r s → Preserves r (State.turnMove s a1 a2 a3) :=
  fun _ _ _ _ h => Preserves.through (State.turnMove_within _ _ _ _) rfl h

theorem State.startMove_preserves {r : State} : ∀ (s : State) a1 a2 a3 a4 a5,
    Preserves r s → Preserves r (State.startMove s a1 a2 a3 a4 a5) := by
  intro s a1 a2 a3 a4 a5 h
  unfold State.startMove
  repeat' first
    | with_reducible assumption | with_reducible apply State.setBundle_preserves
    | with_reducible apply State.beginPhase_preserves
    | with_reducible refine Preserves.ofSnd (by assumption) (State.beginPhase_preserves _ _ _ _ ?_)
    | with_reducible apply State.settleMarks_preserves | with_reducible apply State.turnMove_preserves
    | with_reducible apply State.pullBucket_preserves
    | with_reducible refine Preserves.ofSnd (by assumption) (State.pullBucket_preserves _ _ _ _ _ ?_) | split
    | extract_lets
    | ((fail_if_success with_reducible apply Preserves.upd_pending); with_reducible apply Preserves.upd_dp)

theorem State.moveBuckets_preserves {r : State} : ∀ a0 a1 a2 a3 (s : State),
    Preserves r s → Preserves r (State.moveBuckets a0 a1 a2 a3 s) := by
  intro a0 a1 a2 a3 s
  induction a3 generalizing a0 a1 a2 s with
  | nil => intro h; unfold State.moveBuckets; exact h
  | cons x l ih =>
  intro h
  unfold State.moveBuckets
  repeat' first
    | with_reducible assumption | refine ih _ _ _ _ ?_ | with_reducible apply State.startMove_preserves | split

theorem State.moveOff_preserves {r : State} : ∀ (s : State) a1 a2,
    Preserves r s → Preserves r (State.moveOff s a1 a2) := by
  intro s a1 a2 h
  unfold State.moveOff
  repeat' first
    | with_reducible assumption | with_reducible apply State.moveBuckets_preserves
    | (with_reducible apply Preserves.each; intro _ _ _)

theorem State.handOver_preserves {r : State} : ∀ (s : State) a1,
    Preserves r s → Preserves r (State.handOver s a1) := by
  intro s a1 h
  unfold State.handOver
  repeat' first
    | with_reducible assumption | with_reducible apply State.keepCells_preserves
    | with_reducible apply State.sendAgain_preserves | split | extract_lets
    | ((fail_if_success with_reducible apply Preserves.upd_pending); with_reducible apply Preserves.upd_dp)

theorem State.toMoveCells_preserves {r : State} : ∀ (s : State) a1,
    Preserves r s → Preserves r (State.toMoveCells s a1) := by
  intro s a1 h
  unfold State.toMoveCells
  repeat' first
    | with_reducible assumption | with_reducible apply State.emptied_preserves
    | with_reducible apply State.toMove_preserves | (with_reducible apply Preserves.each; intro _ _ _)

theorem State.drainQueues_preserves {r : State} : ∀ (s : State) a1 a2,
    Preserves r s → Preserves r (State.drainQueues s a1 a2).2 :=
  fun _ _ _ h => Preserves.through (State.drainQueues_within _ _ _) rfl h

theorem State.replayHandover_preserves {r : State} : ∀ (s : State) a1 a2,
    Preserves r s → Preserves r (State.replayHandover s a1 a2) := by
  intro s a1 a2 h
  unfold State.replayHandover
  repeat' first
    | with_reducible assumption | with_reducible apply State.moveOff_preserves
    | with_reducible apply State.handOver_preserves | with_reducible apply State.toMoveCells_preserves
    | with_reducible apply State.setLink_preserves | with_reducible apply State.drainQueues_preserves
    | with_reducible refine Preserves.ofSnd (by assumption) (State.drainQueues_preserves _ _ _ ?_)
    | (with_reducible apply Preserves.each; intro _ _ _) | split | extract_lets
    | ((fail_if_success with_reducible apply Preserves.upd_pending); with_reducible apply Preserves.upd_dp)

theorem State.emit_preserves {r : State} : ∀ (s : State) a1, Preserves r s → Preserves r (State.emit s a1) :=
  fun _ _ h => Preserves.through (State.emit_within _ _) rfl h

theorem State.beginTraining_preserves {r : State} : ∀ (s : State) a1,
    Preserves r s → Preserves r (State.beginTraining s a1) := by
  intro s a1 h
  unfold State.beginTraining
  repeat' first
    | with_reducible assumption | with_reducible apply State.setPort_preserves
    | with_reducible apply State.emit_preserves | split | extract_lets

theorem State.linkDown_preserves {r : State} : ∀ (s : State) a1 a2,
    Preserves r s → Preserves r (State.linkDown s a1 a2) := by
  intro s a1 a2 h
  unfold State.linkDown
  repeat' first
    | with_reducible assumption | with_reducible apply State.setPlane_preserves
    | with_reducible apply State.setPort_preserves | with_reducible apply State.replayHandover_preserves
    | with_reducible apply State.endMaint_preserves | with_reducible apply State.raise_preserves
    | with_reducible apply State.setLink_preserves | with_reducible apply State.beginTraining_preserves
    | (with_reducible apply Preserves.each; intro _ _ _) | split

theorem State.takeDown_preserves {r : State} : ∀ (s : State) a1 a2,
    Preserves r s → Preserves r (State.takeDown s a1 a2) := by
  intro s a1 a2 h
  unfold State.takeDown
  repeat' first
    | with_reducible assumption | with_reducible apply State.setPort_preserves
    | with_reducible apply State.linkDown_preserves | split | extract_lets

theorem State.sendLocal_preserves {r : State} : ∀ (s : State) a1 a2,
    Preserves r s → Preserves r (State.sendLocal s a1 a2) := by
  intro s a1 a2 h
  unfold State.sendLocal
  repeat' first
    | with_reducible assumption | exact fun w => bumpTbl_wf w _ _ | split | extract_lets
    | ((fail_if_success with_reducible apply Preserves.upd_pending); with_reducible apply Preserves.upd_cnt_out)

theorem State.sendWithdraw_preserves {r : State} : ∀ (s : State) a1 a2,
    Preserves r s → Preserves r (State.sendWithdraw s a1 a2) := by
  intro s a1 a2 h
  unfold State.sendWithdraw
  repeat' first
    | with_reducible assumption | with_reducible apply State.sendLocal_preserves

theorem reconsiderAll_preserves {r : State} : ∀ a0 (s : State), Preserves r s → Preserves r (reconsiderAll a0 s) := by
  intro a0 s
  induction a0 generalizing s with
  | nil => intro h; unfold reconsiderAll; exact h
  | cons x l ih =>
  intro h
  unfold reconsiderAll
  repeat' first
    | with_reducible assumption | refine ih _ ?_
    | with_reducible refine State.lookupHeld_preserves _ _ _ (by assumption) ?_ | split | extract_lets
    | ((fail_if_success with_reducible apply Preserves.upd_pending); with_reducible apply Preserves.upd_dp)

theorem State.reconsider_preserves {r : State} : ∀ (s : State), Preserves r s → Preserves r (State.reconsider s) := by
  intro s h
  unfold State.reconsider
  repeat' first
    | with_reducible assumption | with_reducible apply reconsiderAll_preserves | split | extract_lets
    | ((fail_if_success with_reducible apply Preserves.upd_pending); with_reducible apply Preserves.upd_dp)

theorem State.sendReady_preserves {r : State} : ∀ (s : State) a1,
    Preserves r s → Preserves r (State.sendReady s a1) := by
  intro s a1 h
  unfold State.sendReady
  repeat' first
    | with_reducible assumption | with_reducible apply State.sendLocal_preserves

theorem State.endSettle_preserves {r : State} : ∀ (s : State) a1,
    Preserves r s → Preserves r (State.endSettle s a1) := by
  intro s a1 h
  unfold State.endSettle
  repeat' first
    | with_reducible assumption | with_reducible apply State.finishMove_preserves | split

theorem State.linkSend_preserves {r : State} : ∀ (s : State) a1 a2 a3 a4,
    Preserves r s → Preserves r (State.linkSend s a1 a2 a3 a4) := by
  intro s a1 a2 a3 a4 h
  unfold State.linkSend
  repeat' first
    | with_reducible assumption | with_reducible apply State.setLink_preserves
    | with_reducible apply State.xPass_preserves | split | extract_lets
    | ((fail_if_success with_reducible apply Preserves.upd_pending); with_reducible apply Preserves.upd_out)

/-! ## Machine/Trackers.lean -/

theorem State.refreshHome_preserves {r : State} : ∀ (s : State) a1,
    Preserves r s → Preserves r (State.refreshHome s a1) := by
  intro s a1 h
  unfold State.refreshHome
  repeat' first
    | with_reducible assumption | with_reducible apply State.bump_preserves
    | with_reducible apply State.setHome_preserves

theorem State.markClass_preserves {r : State} : ∀ (s : State) a1 a2 a3 a4 a5,
    Preserves r s → Preserves r (State.markClass s a1 a2 a3 a4 a5) := by
  intro s a1 a2 a3 a4 a5 h
  unfold State.markClass
  repeat' first
    | with_reducible assumption | with_reducible apply State.refreshHome_preserves
    | with_reducible apply State.setHome_preserves | split

theorem State.markSeq_preserves {r : State} : ∀ (s : State) a1, Preserves r s → Preserves r (State.markSeq s a1) := by
  intro s a1 h
  unfold State.markSeq
  repeat' first
    | with_reducible assumption | with_reducible apply State.markClass_preserves | split | extract_lets
    | ((fail_if_success with_reducible apply Preserves.upd_pending); with_reducible apply Preserves.upd_dp)

theorem State.echo_preserves {r : State} : ∀ (s : State) a1, Preserves r s → Preserves r (State.echo s a1) :=
  fun _ _ h => Preserves.through (State.echo_within _ _) rfl h

theorem State.receiveAck_preserves {r : State} : ∀ (s : State) a1,
    Preserves r s → Preserves r (State.receiveAck s a1) := by
  intro s a1 h
  unfold State.receiveAck
  repeat' first
    | with_reducible assumption | with_reducible apply State.bump_preserves
    | with_reducible apply State.echo_preserves | with_reducible apply State.finishMove_preserves
    | (with_reducible apply Preserves.each; intro _ _ _) | split | extract_lets
    | ((fail_if_success with_reducible apply Preserves.upd_pending); with_reducible apply Preserves.upd_dp_req)

/-! ## Machine/Egress.lean -/

theorem State.accessEvent_preserves {r : State} : ∀ (s : State) a1 a2 a3,
    Preserves r s → Preserves r (State.accessEvent s a1 a2 a3) := by
  intro s a1 a2 a3 h
  unfold State.accessEvent
  repeat' first
    | with_reducible assumption | with_reducible apply State.raise_preserves

theorem State.countSent_preserves {r : State} : ∀ (s : State) a1 a2 a3,
    Preserves r s → Preserves r (State.countSent s a1 a2 a3) := by
  intro s a1 a2 a3 h
  unfold State.countSent
  repeat' first
    | with_reducible assumption | with_reducible apply State.bumpPort_preserves | split

theorem State.gate_preserves {off : Nat} {f : State → State} {r s : State} (k : ∀ x, Preserves r x → Preserves r (f x))
    (h : Preserves r s) : Preserves r (s.gate off f) := by
  unfold State.gate
  split
  · exact k _ h
  · exact State.accessEvent_preserves _ _ _ _ h

theorem State.unitSend_preserves {r : State} : ∀ (s : State) u it, Preserves r s → Preserves r (State.unitSend s u it) := by
  intro s u it h
  unfold State.unitSend
  dsimp only
  refine Preserves.upd_dp ?_
  split
  · exact h
  · refine State.setXing_preserves h fun w => ?_
    have before := w.get (unitXing u)
    split
    · exact before.send _
    · exact before.back.send _

theorem State.leftBuffer_preserves {r : State} : ∀ (s : State) a1,
    Preserves r s → Preserves r (State.leftBuffer s a1) :=
  fun _ _ h => Preserves.through (State.leftBuffer_within _ _) rfl h

theorem State.noteFrame_preserves {r : State} : ∀ (s : State) a1 a2,
    Preserves r s → Preserves r (State.noteFrame s a1 a2) :=
  fun _ _ _ h => Preserves.through (State.noteFrame_within _ _ _) rfl h

theorem State.noteVia_preserves {r : State} : ∀ (s : State) a1 a2 a3,
    Preserves r s → Preserves r (State.noteVia s a1 a2 a3) :=
  fun _ _ _ _ h => Preserves.through (State.noteVia_within _ _ _ _) rfl h

theorem State.transmit_preserves {r : State} : ∀ (s : State) a1 a2,
    Preserves r s → Preserves r (State.transmit s a1 a2) := by
  intro s a1 a2 h
  unfold State.transmit
  repeat' first
    | with_reducible assumption | with_reducible apply State.unitSend_preserves
    | with_reducible apply State.leftBuffer_preserves | with_reducible apply State.countSent_preserves
    | with_reducible apply State.noteFrame_preserves | with_reducible apply State.linkSend_preserves
    | with_reducible apply State.txDone_preserves | with_reducible apply State.noteVia_preserves
    | with_reducible apply State.xPass_preserves | with_reducible apply State.emit_preserves | split | extract_lets
    | ((fail_if_success with_reducible apply Preserves.upd_pending); with_reducible apply Preserves.upd_dp)

theorem State.chargeBoth_preserves {r : State} : ∀ (s : State) a1 a2 a3,
    Preserves r s → Preserves r (State.chargeBoth s a1 a2 a3) :=
  fun _ _ _ _ h => Preserves.through (State.chargeBoth_within _ _ _ _) rfl h

theorem State.flyOut_preserves {r : State} : ∀ (s : State) a1, Preserves r s → Preserves r (State.flyOut s a1) := by
  intro s a1 h
  unfold State.flyOut
  repeat' first
    | with_reducible assumption | with_reducible apply State.transmit_preserves
    | with_reducible apply State.chargeBoth_preserves | split

theorem State.setDeficit_preserves {r : State} : ∀ (s : State) a1 a2 a3,
    Preserves r s → Preserves r (State.setDeficit s a1 a2 a3) :=
  fun _ _ _ _ h => Preserves.through (State.setDeficit_within _ _ _ _) rfl h

theorem State.readbackQ_preserves {r : State} : ∀ (s : State) a1,
    Preserves r s → Preserves r (State.readbackQ s a1) :=
  fun _ _ h => Preserves.through (State.readbackQ_within _ _) rfl h

theorem State.leaveQueue_preserves {r : State} : ∀ (s : State) a1 a2 a3,
    Preserves r s → Preserves r (State.leaveQueue s a1 a2 a3) := by
  intro s a1 a2 a3 h
  unfold State.leaveQueue
  repeat' first
    | with_reducible assumption | with_reducible apply State.setQueue_preserves
    | with_reducible apply State.setDeficit_preserves | with_reducible apply State.readbackQ_preserves
    | with_reducible apply State.freeItem_preserves | split | extract_lets
    | ((fail_if_success with_reducible apply Preserves.upd_pending); with_reducible apply Preserves.upd_sched)

theorem State.polStand_preserves {r : State} : ∀ (s : State) a1 a2,
    Preserves r s → Preserves r (State.polStand s a1 a2) :=
  fun _ _ _ h => Preserves.through (State.polStand_within _ _ _) rfl h

theorem State.polModeWrite_preserves {r : State} : ∀ (s : State) a1 a2 a3 a4,
    Preserves r s → Preserves r (State.polModeWrite s a1 a2 a3 a4) := by
  intro s a1 a2 a3 a4 h
  unfold State.polModeWrite
  repeat' first
    | with_reducible assumption | with_reducible apply State.polStand_preserves
    | with_reducible apply State.store_preserves | split

theorem State.sendFrom_preserves {r : State} : ∀ (s : State) a1 a2 a3,
    Preserves r s → Preserves r (State.sendFrom s a1 a2 a3) := by
  intro s a1 a2 a3 h
  unfold State.sendFrom
  repeat' first
    | with_reducible assumption | with_reducible apply State.leaveQueue_preserves
    | with_reducible apply State.transmit_preserves | with_reducible apply State.chargeBoth_preserves | split
    | extract_lets
    | ((fail_if_success with_reducible apply Preserves.upd_pending); with_reducible apply Preserves.upd_dp)
    | with_reducible intro _ | with_reducible show Preserves _ (ite _ _ _)

theorem State.choose_preserves {r : State} : ∀ (s : State) a1, Preserves r s → Preserves r (State.choose s a1).2 :=
  fun _ _ h => Preserves.through (State.choose_within _ _) rfl h

theorem State.schedule_preserves {r : State} : ∀ (s : State) a1,
    Preserves r s → Preserves r (State.schedule s a1) := by
  intro s a1 h
  unfold State.schedule
  repeat' first
    | with_reducible assumption | with_reducible apply State.sendFrom_preserves
    | with_reducible apply State.choose_preserves
    | with_reducible refine Preserves.ofSnd (by assumption) (State.choose_preserves _ _ ?_) | split

theorem State.unitTake_preserves {r : State} : ∀ (s : State) u it l, Preserves r s → Preserves r (State.unitTake s u it l) :=
  fun s u it l h => State.setXing_preserves (h.through (State.setUnitIn_within s u l) rfl) fun w =>
    (w.get (unitXing u)).take (unitEntries u it)

theorem execPolicerBucketWrite_preserves {r : State} : ∀ a0 a1 a2 a3 (s : State),
    Preserves r s → PreservesNext r (execPolicerBucketWrite a0 a1 a2 a3 s) := by
  intro a0 a1 a2 a3 s h
  unfold execPolicerBucketWrite
  repeat' first
    | with_reducible assumption | with_reducible apply State.setPolBucket_preserves
    | with_reducible apply State.store_preserves | with_reducible apply State.gate_preserves
    | with_reducible apply PreservesNext.ok | exact PreservesNext.fault _ | split | extract_lets
    | with_reducible intro _

theorem State.setShaper_preserves {r : State} : ∀ (s : State) a1 a2 a3 a4,
    Preserves r s → Preserves r (State.setShaper s a1 a2 a3 a4) :=
  fun _ _ _ _ _ h => Preserves.through (State.setShaper_within _ _ _ _ _) rfl h

theorem execShaperWrite_preserves {r : State} : ∀ a0 a1 a2 (s : State),
    Preserves r s → PreservesNext r (execShaperWrite a0 a1 a2 s) := by
  intro a0 a1 a2 s h
  unfold execShaperWrite
  repeat' first
    | with_reducible assumption | with_reducible apply State.setShaper_preserves
    | with_reducible apply State.store_preserves | with_reducible apply State.gate_preserves
    | with_reducible apply PreservesNext.ok | exact PreservesNext.fault _ | split | extract_lets
    | with_reducible intro _

theorem execEgressSchedule_preserves {r : State} : ∀ a0 (s : State),
    Preserves r s → PreservesNext r (execEgressSchedule a0 s) := by
  intro a0 s h
  unfold execEgressSchedule
  repeat' first
    | with_reducible assumption | with_reducible apply State.schedule_preserves
    | with_reducible apply PreservesNext.ok

/-! ## Machine/Clock.lean -/

theorem State.admitSpan_preserves {r : State} : ∀ (s : State) a1,
    Preserves r s → Preserves r (State.admitSpan s a1) := by
  intro s a1 h
  unfold State.admitSpan
  repeat' first
    | with_reducible assumption | with_reducible apply State.bump_preserves
    | (with_reducible apply Preserves.each; intro _ _ _) | split

theorem State.stallSpan_preserves {r : State} : ∀ (s : State) a1 a2,
    Preserves r s → Preserves r (State.stallSpan s a1 a2) := by
  intro s a1 a2 h
  unfold State.stallSpan
  repeat' first
    | with_reducible assumption | with_reducible apply State.countCycles_preserves
    | (with_reducible apply Preserves.each; intro _ _ _) | split

/-- Moving the clock on leaves TB0's offset. -/
theorem Preserves.upd_clk {r s : State} {c : Clock} (h : Preserves r s) (off : c.tb0Off = s.clk.tb0Off) :
    Preserves r { s with clk := c } :=
  { h with time := h.time.trans (State.HoldsTime.congr rfl rfl off) }

/-- The state once nanoseconds have passed over it and before its clock moves (R33, R38, R433). -/
def State.spanned (s : State) (ns : Nat) : State :=
  if ns = 0 then s
  else
    let u := (s.stallSpan s.now (s.now + ns)).admitSpan ns
    { u with xings := Tbl.remap (fun _ => Crossing.init) Crossing.back s.xings,
             cnt := if s.on 2 ∧ s.attrNow ≠ 0 then bumpTbl u.cnt C.TEL_STALL_ATTR_NS ns else u.cnt }

theorem State.reach_eq_spanned (s : State) (t : Nat) : s.reach t =
    (let u := ({ s.spanned (t - s.now) with clk := { s.clk with now := max s.now t } } : State).alertStep
     { u with i3c := if t ≤ s.now then s.i3c else u.i3c, out := if t ≤ s.now then s.out else u.out }) := rfl

theorem State.spanned_preserves {r s : State} (ns : Nat) (h : Preserves r s) : Preserves r (s.spanned ns) := by
  unfold State.spanned
  split
  · exact h
  · have spans : Preserves r ((s.stallSpan s.now (s.now + ns)).admitSpan ns) :=
      State.admitSpan_preserves _ _ (State.stallSpan_preserves _ _ _ h)
    refine { spans with cnt := fun w => ?_, xings := fun w => Tbl.wf_remap _ _, balance := fun w => (h.balance w).remap_back }
    dsimp only
    split
    · exact bumpTbl_wf (spans.cnt w) _ _
    · exact spans.cnt w

theorem State.spanned_clk (s : State) (ns : Nat) : (s.spanned ns).clk = s.clk := by
  unfold State.spanned
  split
  · rfl
  · exact ((State.admitSpan_within _ _).clk_eq (by decide)).trans ((State.stallSpan_within _ _ _).clk_eq (by decide))

theorem State.reach_preserves {r : State} : ∀ (s : State) t, Preserves r s → Preserves r (State.reach s t) := by
  intro s t h
  have moved : Preserves r { s.spanned (t - s.now) with clk := { s.clk with now := max s.now t } } :=
    (State.spanned_preserves _ h).upd_clk (by rw [State.spanned_clk])
  rw [State.reach_eq_spanned]
  exact (moved.through (State.alertStep_within _) rfl).upd_i3c_out

theorem State.takeSlot_preserves {r : State} : ∀ (s : State) a1,
    Preserves r s → Preserves r (State.takeSlot s a1) := by
  intro s a1 h
  unfold State.takeSlot
  repeat' first
    | with_reducible assumption | with_reducible apply State.reach_preserves | split | extract_lets
    | ((fail_if_success with_reducible apply Preserves.upd_pending); with_reducible apply Preserves.upd_dp)

theorem execHeaderLookup_preserves {r : State} : ∀ a0 a1 (s : State),
    Preserves r s → PreservesNext r (execHeaderLookup a0 a1 s) := by
  intro a0 a1 s h
  unfold execHeaderLookup
  repeat' first
    | with_reducible assumption | with_reducible apply State.lookupFrame_preserves
    | with_reducible apply State.bankWrite_preserves | with_reducible apply State.takeSlot_preserves
    | with_reducible apply State.setHq_preserves | with_reducible apply State.countCycle_preserves
    | with_reducible apply State.lookup_preserves | with_reducible apply PreservesNext.ok
    | exact PreservesNext.fault _ | split | extract_lets
    | ((fail_if_success with_reducible apply Preserves.upd_pending); with_reducible apply Preserves.upd_dp)

/-! ## Machine/Queues.lean -/

theorem State.moveOffPort_preserves {r : State} : ∀ (s : State) a1,
    Preserves r s → Preserves r (State.moveOffPort s a1) := by
  intro s a1 h
  unfold State.moveOffPort
  repeat' first
    | with_reducible assumption | with_reducible apply State.moveOff_preserves
    | (with_reducible apply Preserves.each; intro _ _ _) | split

theorem State.status_preserves {r : State} : ∀ (s : State) a1 a2,
    Preserves r s → Preserves r (State.status s a1 a2) := by
  intro s a1 a2 h
  unfold State.status
  repeat' first
    | with_reducible assumption | with_reducible apply State.setF_preserves

theorem State.writeN_preserves {r : State} : ∀ (s : State) a1 a2,
    Preserves r s → Preserves r (State.writeN s a1 a2) :=
  fun _ _ _ h => Preserves.through (State.writeN_within _ _ _) rfl h

theorem State.bankNext_preserves {r : State} : ∀ (s : State) a1 a2,
    Preserves r s → Preserves r (State.bankNext s a1 a2) := by
  intro s a1 a2 h
  unfold State.bankNext
  repeat' first
    | with_reducible assumption | with_reducible apply State.bankLeave_preserves
    | with_reducible apply State.writeN_preserves | split

theorem State.fwdRead_preserves {r : State} : ∀ (s : State) a1 a2 a3 a4,
    Preserves r s → Preserves r (State.fwdRead s a1 a2 a3 a4) := by
  intro s a1 a2 a3 a4 h
  unfold State.fwdRead
  repeat' first
    | with_reducible assumption | with_reducible apply State.wrWords_preserves
    | with_reducible apply State.gate_preserves | with_reducible apply State.status_preserves | split
    | extract_lets | with_reducible intro _

theorem State.returnItem_preserves {r : State} : ∀ (s : State) a1 a2,
    Preserves r s → Preserves r (State.returnItem s a1 a2) :=
  fun _ _ _ h => Preserves.through (State.returnItem_within _ _ _) rfl h

theorem State.returned_preserves {r : State} : ∀ (s : State) a1 a2 a3,
    Preserves r s → Preserves r (State.returned s a1 a2 a3) := by
  intro s a1 a2 a3 h
  unfold State.returned
  repeat' first
    | with_reducible assumption | with_reducible apply State.dropItem_preserves
    | with_reducible apply State.returnItem_preserves | split

theorem execFwdReadShadow_preserves {r : State} : ∀ a0 a1 (s : State),
    Preserves r s → PreservesNext r (execFwdReadShadow a0 a1 s) := by
  intro a0 a1 s h
  unfold execFwdReadShadow
  repeat' first
    | with_reducible assumption | with_reducible apply State.fwdRead_preserves
    | with_reducible apply PreservesNext.ok

theorem execFwdReadActive_preserves {r : State} : ∀ a0 a1 (s : State),
    Preserves r s → PreservesNext r (execFwdReadActive a0 a1 s) := by
  intro a0 a1 s h
  unfold execFwdReadActive
  repeat' first
    | with_reducible assumption | with_reducible apply State.fwdRead_preserves
    | with_reducible apply PreservesNext.ok

theorem execFwdWriteShadow_preserves {r : State} : ∀ a0 a1 (s : State),
    Preserves r s → PreservesNext r (execFwdWriteShadow a0 a1 s) := by
  intro a0 a1 s h
  unfold execFwdWriteShadow
  repeat' first
    | with_reducible assumption | with_reducible apply State.gate_preserves
    | with_reducible apply State.status_preserves | with_reducible apply PreservesNext.ok
    | exact PreservesNext.fault _ | split | extract_lets
    | ((fail_if_success with_reducible apply Preserves.upd_pending); with_reducible apply Preserves.upd_tab)
    | with_reducible intro _

theorem execFwdCommit_preserves {r : State} : ∀ a0 (s : State),
    Preserves r s → PreservesNext r (execFwdCommit a0 s) := by
  intro a0 s h
  unfold execFwdCommit
  repeat' first
    | with_reducible assumption | with_reducible apply State.setF_preserves
    | with_reducible apply State.gate_preserves | with_reducible apply State.status_preserves
    | with_reducible apply PreservesNext.ok | exact PreservesNext.fault _ | split | extract_lets
    | ((fail_if_success with_reducible apply Preserves.upd_pending); with_reducible apply Preserves.upd_tab)
    | with_reducible intro _

theorem execReservationWrite_preserves {r : State} : ∀ a0 a1 (s : State),
    Preserves r s → PreservesNext r (execReservationWrite a0 a1 s) := by
  intro a0 a1 s h
  unfold execReservationWrite
  repeat' first
    | with_reducible assumption | with_reducible apply State.setF_preserves
    | with_reducible apply State.store_preserves | with_reducible apply State.gate_preserves
    | with_reducible apply PreservesNext.ok | exact PreservesNext.fault _ | split | extract_lets
    | with_reducible intro _

theorem execMarkThresholdWrite_preserves {r : State} : ∀ a0 a1 (s : State),
    Preserves r s → PreservesNext r (execMarkThresholdWrite a0 a1 s) := by
  intro a0 a1 s h
  unfold execMarkThresholdWrite
  repeat' first
    | with_reducible assumption | with_reducible apply State.setF_preserves
    | with_reducible apply State.store_preserves | with_reducible apply State.gate_preserves
    | with_reducible apply PreservesNext.ok | exact PreservesNext.fault _ | split | extract_lets
    | with_reducible intro _

theorem execPathWeightWrite_preserves {r : State} : ∀ a0 a1 (s : State),
    Preserves r s → PreservesNext r (execPathWeightWrite a0 a1 s) := by
  intro a0 a1 s h
  unfold execPathWeightWrite
  repeat' first
    | with_reducible assumption | with_reducible apply State.store_preserves
    | with_reducible apply State.reconsider_preserves | with_reducible apply State.gate_preserves
    | with_reducible apply State.moveOffPort_preserves | with_reducible apply PreservesNext.ok
    | exact PreservesNext.fault _ | split | extract_lets | with_reducible intro _

theorem execPathMarkAckReceive_preserves {r : State} : ∀ (s : State),
    Preserves r s → PreservesNext r (execPathMarkAckReceive s) := by
  intro s h
  unfold execPathMarkAckReceive
  repeat' first
    | with_reducible assumption | with_reducible apply State.receiveAck_preserves
    | with_reducible apply State.unitTake_preserves | with_reducible apply PreservesNext.ok
    | exact PreservesNext.fault _ | split | extract_lets

theorem execAgeLimitExpiry_preserves {r : State} : ∀ a0 a1 (s : State),
    Preserves r s → PreservesNext r (execAgeLimitExpiry a0 a1 s) := by
  intro a0 a1 s h
  unfold execAgeLimitExpiry
  repeat' first
    | with_reducible assumption | with_reducible apply State.dropItem_preserves
    | with_reducible apply State.mcDone_preserves | with_reducible apply State.entered_preserves
    | with_reducible apply State.countDrop_preserves | with_reducible apply State.reach_preserves
    | with_reducible apply State.setWaiting_preserves | with_reducible apply PreservesNext.ok
    | exact PreservesNext.fault _ | split | extract_lets
    | ((fail_if_success with_reducible apply Preserves.upd_pending); with_reducible apply Preserves.upd_dp)

theorem execShaperEligible_preserves {r : State} : ∀ a0 a1 (s : State),
    Preserves r s → PreservesNext r (execShaperEligible a0 a1 s) := by
  intro a0 a1 s h
  unfold execShaperEligible
  repeat' first
    | with_reducible assumption | with_reducible apply State.setShaper_preserves
    | with_reducible apply State.reach_preserves | with_reducible apply PreservesNext.ok
    | exact PreservesNext.fault _ | split

theorem execMarkTimeout_preserves {r : State} : ∀ a0 a1 (s : State),
    Preserves r s → PreservesNext r (execMarkTimeout a0 a1 s) := by
  intro a0 a1 s h
  unfold execMarkTimeout
  repeat' first
    | with_reducible assumption | with_reducible apply State.reach_preserves
    | with_reducible apply State.finishMove_preserves | with_reducible apply PreservesNext.ok
    | exact PreservesNext.fault _ | split

theorem execPacketAdmitRetry_preserves {r : State} : ∀ a0 a1 (s : State),
    Preserves r s → PreservesNext r (execPacketAdmitRetry a0 a1 s) := by
  intro a0 a1 s h
  unfold execPacketAdmitRetry
  repeat' first
    | with_reducible assumption | with_reducible apply State.reconsider_preserves
    | with_reducible apply offerWaiting_preserves
    | with_reducible refine Preserves.ofSnd (by assumption) (offerWaiting_preserves _ _ ?_)
    | with_reducible apply State.setWaiting_preserves | with_reducible apply PreservesNext.ok
    | exact PreservesNext.fault _ | split

theorem execBankWriteRetry_preserves {r : State} : ∀ a0 a1 a2 (s : State),
    Preserves r s → PreservesNext r (execBankWriteRetry a0 a1 a2 s) := by
  intro a0 a1 a2 s h
  unfold execBankWriteRetry
  repeat' first
    | with_reducible assumption | with_reducible apply State.bankNext_preserves
    | with_reducible apply State.countCycle_preserves | with_reducible apply PreservesNext.ok
    | exact PreservesNext.fault _ | split

theorem State.setLimit_preserves {r : State} : ∀ (s : State) a1 a2,
    Preserves r s → Preserves r (State.setLimit s a1 a2) :=
  fun _ _ _ h => Preserves.through (State.setLimit_within _ _ _) rfl h

theorem execRateLimitRecover_preserves {r : State} : ∀ a0 (s : State),
    Preserves r s → PreservesNext r (execRateLimitRecover a0 s) := by
  intro a0 s h
  unfold execRateLimitRecover
  repeat' first
    | with_reducible assumption | with_reducible apply State.setLimit_preserves
    | with_reducible apply State.reach_preserves | with_reducible apply PreservesNext.ok
    | exact PreservesNext.fault _ | split | extract_lets

theorem execSettleExpiry_preserves {r : State} : ∀ a0 a1 (s : State),
    Preserves r s → PreservesNext r (execSettleExpiry a0 a1 s) := by
  intro a0 a1 s h
  unfold execSettleExpiry
  repeat' first
    | with_reducible assumption | with_reducible apply State.endSettle_preserves
    | with_reducible apply State.reach_preserves | with_reducible apply PreservesNext.ok
    | exact PreservesNext.fault _ | split

theorem execNopathTimeout_preserves {r : State} : ∀ (s : State),
    Preserves r s → PreservesNext r (execNopathTimeout s) := by
  intro s h
  unfold execNopathTimeout
  repeat' first
    | with_reducible assumption | with_reducible apply State.dropItem_preserves
    | with_reducible apply State.entered_preserves | with_reducible apply State.reach_preserves
    | with_reducible apply PreservesNext.ok | exact PreservesNext.fault _ | split | extract_lets
    | ((fail_if_success with_reducible apply Preserves.upd_pending); with_reducible apply Preserves.upd_dp)

theorem execPathMarkReceive_preserves {r : State} : ∀ (s : State),
    Preserves r s → PreservesNext r (execPathMarkReceive s) := by
  intro s h
  unfold execPathMarkReceive
  repeat' first
    | with_reducible assumption | with_reducible apply State.markSeq_preserves
    | with_reducible apply State.bankLeave_preserves | with_reducible apply State.freeItem_preserves
    | with_reducible apply PreservesNext.ok | exact PreservesNext.fault _ | split | extract_lets
    | ((fail_if_success with_reducible apply Preserves.upd_pending); with_reducible apply Preserves.upd_dp)

theorem execDepthRefresh_preserves {r : State} : ∀ a0 (s : State),
    Preserves r s → PreservesNext r (execDepthRefresh a0 s) := by
  intro a0 s h
  unfold execDepthRefresh
  repeat' first
    | with_reducible assumption | with_reducible apply State.reach_preserves
    | with_reducible apply PreservesNext.ok | exact PreservesNext.fault _ | split | extract_lets
    | ((fail_if_success with_reducible apply Preserves.upd_pending); with_reducible apply Preserves.upd_dp)

theorem execSpillBlockWrite_preserves {r : State} : ∀ a0 a1 (s : State),
    Preserves r s → PreservesNext r (execSpillBlockWrite a0 a1 s) := by
  intro a0 a1 s h
  unfold execSpillBlockWrite
  repeat' first
    | with_reducible assumption | with_reducible exact Memory.wf_congr rfl rfl rfl rfl
    | with_reducible apply State.bump_preserves | with_reducible apply State.setQueue_preserves
    | with_reducible apply State.reach_preserves | with_reducible apply PreservesNext.ok
    | exact PreservesNext.fault _ | split | extract_lets
    | ((fail_if_success with_reducible apply Preserves.upd_pending); with_reducible apply Preserves.upd_mem)

theorem execSpillBlockReturn_preserves {r : State} : ∀ a0 a1 a2 (s : State),
    Preserves r s → PreservesNext r (execSpillBlockReturn a0 a1 a2 s) := by
  intro a0 a1 a2 s h
  unfold execSpillBlockReturn
  repeat' first
    | with_reducible assumption | with_reducible apply State.setQueue_preserves
    | with_reducible apply State.emptied_preserves | with_reducible apply State.returned_preserves
    | with_reducible apply State.readbackQ_preserves | with_reducible apply PreservesNext.ok
    | exact PreservesNext.fault _ | (with_reducible apply Preserves.each; intro _ _ _) | split | extract_lets
    | ((fail_if_success with_reducible apply Preserves.upd_pending); with_reducible apply Preserves.upd_dp)

/-! ## Machine/Multicast.lean -/

theorem State.mcCharge_preserves {r : State} : ∀ (s : State) a1,
    Preserves r s → Preserves r (State.mcCharge s a1) := by
  intro s a1 h
  unfold State.mcCharge
  repeat' first
    | with_reducible assumption | with_reducible apply State.returnCredits_preserves
    | with_reducible apply State.oweCredits_preserves | split | extract_lets
    | ((fail_if_success with_reducible apply Preserves.upd_pending); with_reducible apply Preserves.upd_dp)

theorem State.holdReplica_preserves {r : State} : ∀ (s : State) a1 a2 a3,
    Preserves r s → Preserves r (State.holdReplica s a1 a2 a3) := by
  intro s a1 a2 a3 h
  unfold State.holdReplica
  repeat' first
    | with_reducible assumption | with_reducible apply State.holdForMove_preserves
    | with_reducible apply State.mcCharge_preserves | split | extract_lets
    | ((fail_if_success with_reducible apply Preserves.upd_pending); with_reducible apply Preserves.upd_dp)

theorem State.mctRead_preserves {r : State} : ∀ (s : State) a1 a2,
    Preserves r s → Preserves r (State.mctRead s a1 a2) := by
  intro s a1 a2 h
  unfold State.mctRead
  repeat' first
    | with_reducible assumption | with_reducible apply State.wrWords_preserves
    | with_reducible apply State.gate_preserves | with_reducible apply State.status_preserves | split
    | extract_lets | with_reducible intro _

theorem State.offerReplica_preserves {r : State} : ∀ (s : State) a1 a2 a3, ∀ t, State.offerReplica s a1 a2 a3 = some t →
    Preserves r s → Preserves r t := by
  intro s a1 a2 a3
  unfold State.offerReplica
  repeat' first
    | with_reducible assumption | with_reducible apply State.holdReplica_preserves
    | with_reducible apply State.mcSettle_preserves | with_reducible apply State.countDrop_preserves
    | with_reducible apply State.mcCharge_preserves | split | extract_lets
    | ((fail_if_success with_reducible apply Preserves.upd_pending); with_reducible apply Preserves.upd_dp)
    | with_reducible intro _ | with_reducible show Preserves _ (ite _ _ _) | contradiction
    | (cases ‹some _ = some _›)

theorem offerReplicas_preserves {r : State} : ∀ a0 a1 (s : State),
    Preserves r s → Preserves r (offerReplicas a0 a1 s) := by
  intro a0 a1 s
  induction a1 generalizing a0 s with
  | nil => intro h; unfold offerReplicas; exact h
  | cons x l ih =>
  intro h
  unfold offerReplicas
  repeat' first
    | with_reducible assumption | refine ih _ _ ?_
    | with_reducible refine State.offerReplica_preserves _ _ _ _ _ (by assumption) ?_ | split | extract_lets
    | ((fail_if_success with_reducible apply Preserves.upd_pending); with_reducible apply Preserves.upd_dp)

theorem State.replicate_preserves {r : State} : ∀ (s : State) a1 a2,
    Preserves r s → Preserves r (State.replicate s a1 a2).1 := by
  intro s a1 a2 h
  unfold State.replicate
  repeat' first
    | with_reducible assumption | with_reducible apply State.bump_preserves
    | with_reducible apply offerReplicas_preserves | with_reducible apply State.dropItem_preserves
    | with_reducible apply State.mcDone_preserves | with_reducible apply State.entered_preserves
    | with_reducible apply State.bumpPort_preserves | with_reducible apply State.txDone_preserves
    | with_reducible apply State.freeItem_preserves | (with_reducible apply Preserves.each; intro _ _ _) | split
    | extract_lets
    | ((fail_if_success with_reducible apply Preserves.upd_pending); with_reducible apply Preserves.upd_dp)
    | ((fail_if_success with_reducible apply Preserves.upd_pending); with_reducible apply Preserves.upd_free)

theorem execMctWriteShadow_preserves {r : State} : ∀ a0 (s : State),
    Preserves r s → PreservesNext r (execMctWriteShadow a0 s) := by
  intro a0 s h
  unfold execMctWriteShadow
  repeat' first
    | with_reducible assumption | with_reducible apply State.gate_preserves
    | with_reducible apply State.status_preserves | with_reducible apply PreservesNext.ok
    | exact PreservesNext.fault _ | split | extract_lets
    | ((fail_if_success with_reducible apply Preserves.upd_pending); with_reducible apply Preserves.upd_tab)
    | with_reducible intro _

theorem execMctReadActive_preserves {r : State} : ∀ a0 (s : State),
    Preserves r s → PreservesNext r (execMctReadActive a0 s) := by
  intro a0 s h
  unfold execMctReadActive
  repeat' first
    | with_reducible assumption | with_reducible apply State.mctRead_preserves
    | with_reducible apply PreservesNext.ok

theorem execMctReadShadow_preserves {r : State} : ∀ a0 (s : State),
    Preserves r s → PreservesNext r (execMctReadShadow a0 s) := by
  intro a0 s h
  unfold execMctReadShadow
  repeat' first
    | with_reducible assumption | with_reducible apply State.mctRead_preserves
    | with_reducible apply PreservesNext.ok

theorem offerAgain_preserves {r : State} : ∀ a0 (s : State), Preserves r s → Preserves r (offerAgain a0 s) := by
  intro a0 s
  induction a0 generalizing s with
  | nil => intro h; unfold offerAgain; exact h
  | cons x l ih =>
  intro h
  unfold offerAgain
  repeat' first
    | with_reducible assumption | refine ih _ ?_ | with_reducible apply State.mcDone_preserves
    | with_reducible refine State.offerReplica_preserves _ _ _ _ _ (by assumption) ?_ | split | extract_lets
    | ((fail_if_success with_reducible apply Preserves.upd_pending); with_reducible apply Preserves.upd_dp)

theorem execReplicaAdmitRetry_preserves {r : State} : ∀ (s : State),
    Preserves r s → PreservesNext r (execReplicaAdmitRetry s) := by
  intro s h
  unfold execReplicaAdmitRetry
  repeat' first
    | with_reducible assumption | with_reducible apply offerAgain_preserves | with_reducible apply PreservesNext.ok
    | exact PreservesNext.fault _ | split | extract_lets
    | ((fail_if_success with_reducible apply Preserves.upd_pending); with_reducible apply Preserves.upd_dp)

/-! ## Machine/Home.lean -/

theorem State.idleSource_preserves {r : State} : ∀ (s : State) a1 a2,
    Preserves r s → Preserves r (State.idleSource s a1 a2) := by
  intro s a1 a2 h
  unfold State.idleSource
  repeat' first
    | with_reducible assumption | with_reducible apply State.setHome_preserves | split | extract_lets

theorem State.respond_preserves {r : State} : ∀ (s : State) a1 a2 a3 a4 a5 a6,
    Preserves r s → Preserves r (State.respond s a1 a2 a3 a4 a5 a6).2 :=
  fun _ _ _ _ _ _ _ h => Preserves.through (State.respond_within _ _ _ _ _ _ _) rfl h

theorem State.answer_preserves {r : State} : ∀ (s : State) a1 a2 a3 a4 a5 a6,
    Preserves r s → Preserves r (State.answer s a1 a2 a3 a4 a5 a6) := by
  intro s a1 a2 a3 a4 a5 a6 h
  unfold State.answer
  repeat' first
    | with_reducible assumption | with_reducible apply State.bump_preserves
    | with_reducible apply State.refreshHome_preserves | with_reducible apply State.setHome_preserves
    | with_reducible apply State.respond_preserves
    | with_reducible refine Preserves.ofSnd (by assumption) (State.respond_preserves _ _ _ _ _ _ _ ?_)
    | with_reducible apply State.idleSource_preserves

theorem State.countAccess_preserves {r : State} : ∀ (s : State) a1 a2 a3,
    Preserves r s → Preserves r (State.countAccess s a1 a2 a3) := by
  intro s a1 a2 a3 h
  unfold State.countAccess
  repeat' first
    | with_reducible assumption | with_reducible apply State.heatPage_preserves
    | with_reducible apply State.cxlBytesCount_preserves | split

theorem State.writeBack_preserves {r : State} : ∀ (s : State) d ls, Preserves r s → Preserves r (State.writeBack s d ls) := by
  intro s d ls h
  refine Preserves.each (fun x s h => ?_) (State.setHome_preserves _ _ _ h)
  dsimp only
  split
  · exact h
  · refine State.cxlBytesCount_preserves _ _ _ _ _ (h.upd_mem fun w => ?_)
    split
    · exact Memory.putBytes_wf _ _ w
    · exact Memory.heal_wf (Memory.putBytes_wf _ _ w) _ _

theorem State.lineRoom_preserves {r : State} : ∀ (s : State) a1, ∀ t, State.lineRoom s a1 = some t →
    Preserves r s → Preserves r t := by
  intro s a1
  unfold State.lineRoom
  repeat' first
    | with_reducible assumption | with_reducible apply State.writeBack_preserves | split | extract_lets
    | with_reducible intro _ | with_reducible show Preserves _ (ite _ _ _) | contradiction
    | (cases ‹some _ = some _›)

theorem State.touchLine_preserves {r : State} : ∀ (s : State) a1 a2,
    Preserves r s → Preserves r (State.touchLine s a1 a2) := by
  intro s a1 a2 h
  unfold State.touchLine
  repeat' first
    | with_reducible assumption | with_reducible apply State.setHome_preserves

theorem State.writeLine_preserves {r : State} : ∀ (s : State) a1 a2 a3,
    Preserves r s → Preserves r (State.writeLine s a1 a2 a3) := by
  intro s a1 a2 a3 h
  unfold State.writeLine
  repeat' first
    | with_reducible assumption | with_reducible apply State.setHome_preserves

theorem State.watch_preserves {r : State} : ∀ (s : State) a1 a2, Preserves r s → Preserves r (State.watch s a1 a2) :=
  fun _ _ _ h => Preserves.through (State.watch_within _ _ _) rfl h

theorem State.performAtomic_preserves {r : State} : ∀ (s : State) a1 a2,
    Preserves r s → Preserves r (State.performAtomic s a1 a2) := by
  intro s a1 a2 h
  unfold State.performAtomic
  repeat' first
    | with_reducible assumption | with_reducible apply State.bump_preserves
    | with_reducible apply State.answer_preserves | with_reducible apply State.touchLine_preserves
    | with_reducible apply State.watch_preserves | with_reducible apply State.writeLine_preserves | split

theorem State.performPlain_preserves {r : State} : ∀ (s : State) a1 a2,
    Preserves r s → Preserves r (State.performPlain s a1 a2) := by
  intro s a1 a2 h
  unfold State.performPlain
  repeat' first
    | with_reducible assumption | with_reducible apply State.answer_preserves
    | with_reducible apply State.writeBytes_preserves | with_reducible apply State.countAccess_preserves
    | with_reducible apply State.touchLine_preserves | with_reducible apply State.watch_preserves
    | with_reducible apply State.writeLine_preserves | with_reducible apply State.writeBack_preserves
    | (with_reducible apply Preserves.each; intro _ _ _) | split | extract_lets | with_reducible intro _
    | with_reducible show Preserves _ (ite _ _ _)

theorem State.perform_preserves {r : State} : ∀ (s : State) a1 a2,
    Preserves r s → Preserves r (State.perform s a1 a2) := by
  intro s a1 a2 h
  unfold State.perform
  repeat' first
    | with_reducible assumption | with_reducible apply State.bump_preserves
    | with_reducible apply State.answer_preserves | with_reducible apply State.performAtomic_preserves
    | with_reducible apply State.countAccess_preserves | with_reducible apply State.setHome_preserves
    | with_reducible refine State.lineRoom_preserves _ _ _ (by assumption) ?_
    | with_reducible apply State.performPlain_preserves | split | extract_lets | with_reducible intro _
    | with_reducible show Preserves _ (ite _ _ _)

theorem State.replyAgain_preserves {r : State} : ∀ (s : State) a1 a2 a3,
    Preserves r s → Preserves r (State.replyAgain s a1 a2 a3) :=
  fun _ _ _ _ h => Preserves.through (State.replyAgain_within _ _ _ _) rfl h

theorem State.takeClass_preserves {r : State} : ∀ (s : State) a1 a2 a3 a4 a5 a6 a7,
    Preserves r s → Preserves r (State.takeClass s a1 a2 a3 a4 a5 a6 a7) := by
  intro s a1 a2 a3 a4 a5 a6 a7 h
  unfold State.takeClass
  repeat' first
    | with_reducible assumption | with_reducible apply State.bump_preserves
    | with_reducible apply State.refreshHome_preserves | with_reducible apply State.replyAgain_preserves
    | with_reducible apply State.setHome_preserves | with_reducible apply State.unitTake_preserves
    | with_reducible apply State.idleSource_preserves | split

theorem State.takeFirst_preserves {r : State} : ∀ (s : State) a1 a2 a3 a4 a5,
    Preserves r s → Preserves r (State.takeFirst s a1 a2 a3 a4 a5) := by
  intro s a1 a2 a3 a4 a5 h
  unfold State.takeFirst
  repeat' first
    | with_reducible assumption | with_reducible apply State.refreshHome_preserves
    | with_reducible apply State.setHome_preserves | with_reducible apply State.unitTake_preserves | split

theorem State.takeRequest_preserves {r : State} : ∀ (s : State) a1 a2 a3,
    Preserves r s → Preserves r (State.takeRequest s a1 a2 a3) := by
  intro s a1 a2 a3 h
  unfold State.takeRequest
  repeat' first
    | with_reducible assumption | with_reducible apply State.takeFirst_preserves
    | with_reducible apply State.takeClass_preserves | split | extract_lets

theorem execTrackerForget_preserves {r : State} : ∀ a0 a1 a2 (s : State),
    Preserves r s → PreservesNext r (execTrackerForget a0 a1 a2 s) := by
  intro a0 a1 a2 s h
  unfold execTrackerForget
  repeat' first
    | with_reducible assumption | with_reducible apply State.setHome_preserves
    | with_reducible apply State.gate_preserves | with_reducible apply State.status_preserves
    | with_reducible apply PreservesNext.ok | exact PreservesNext.fault _ | split | extract_lets
    | with_reducible intro _

theorem execWindowRead_preserves {r : State} : ∀ a0 (s : State),
    Preserves r s → PreservesNext r (execWindowRead a0 s) := by
  intro a0 s h
  unfold execWindowRead
  repeat' first
    | with_reducible assumption | with_reducible apply State.wrWords_preserves
    | with_reducible apply State.gate_preserves | with_reducible apply State.status_preserves
    | with_reducible apply PreservesNext.ok | exact PreservesNext.fault _ | split | extract_lets
    | with_reducible intro _

theorem execWindowWrite_preserves {r : State} : ∀ a0 (s : State),
    Preserves r s → PreservesNext r (execWindowWrite a0 s) := by
  intro a0 s h
  unfold execWindowWrite
  repeat' first
    | with_reducible assumption | with_reducible apply State.gate_preserves
    | with_reducible apply State.status_preserves | with_reducible apply PreservesNext.ok
    | exact PreservesNext.fault _ | split | extract_lets
    | ((fail_if_success with_reducible apply Preserves.upd_pending); with_reducible apply Preserves.upd_req)
    | with_reducible intro _

theorem drainLine_preserves {r : State} : ∀ a0 a1 a2 (s : State),
    Preserves r s → Preserves r (drainLine a0 a1 a2 s) := by
  intro a0 a1 a2 s
  induction a2 generalizing a0 a1 s with
  | zero => intro h; unfold drainLine; exact h
  | succ x ih =>
  intro h
  unfold drainLine
  repeat' first
    | with_reducible assumption | refine ih _ _ _ ?_ | with_reducible apply State.perform_preserves | split
    | extract_lets

theorem execTrackerLingerExpiry_preserves {r : State} : ∀ a0 a1 a2 (s : State),
    Preserves r s → PreservesNext r (execTrackerLingerExpiry a0 a1 a2 s) := by
  intro a0 a1 a2 s h
  unfold execTrackerLingerExpiry
  repeat' first
    | with_reducible assumption | with_reducible apply State.setHome_preserves
    | with_reducible apply State.reach_preserves | with_reducible apply PreservesNext.ok
    | exact PreservesNext.fault _ | split | extract_lets

theorem State.setUnitIn_preserves {r : State} : ∀ (s : State) a1 a2,
    Preserves r s → Preserves r (State.setUnitIn s a1 a2) :=
  fun _ _ _ h => Preserves.through (State.setUnitIn_within _ _ _) rfl h

theorem execHomeRequestReceive_preserves {r : State} : ∀ a0 (s : State),
    Preserves r s → PreservesNext r (execHomeRequestReceive a0 s) := by
  intro a0 s h
  unfold execHomeRequestReceive
  repeat' first
    | with_reducible assumption | with_reducible apply State.setUnitIn_preserves
    | with_reducible apply State.takeRequest_preserves | with_reducible apply State.respond_preserves
    | with_reducible refine Preserves.ofSnd (by assumption) (State.respond_preserves _ _ _ _ _ _ _ ?_)
    | with_reducible apply PreservesNext.ok | exact PreservesNext.fault _ | split

theorem execHomeRequestPerform_preserves {r : State} : ∀ a0 (s : State),
    Preserves r s → PreservesNext r (execHomeRequestPerform a0 s) := by
  intro a0 s h
  unfold execHomeRequestPerform
  repeat' first
    | with_reducible assumption | with_reducible apply State.perform_preserves
    | with_reducible apply PreservesNext.ok | exact PreservesNext.fault _ | split

theorem execLineFill_preserves {r : State} : ∀ a0 (s : State),
    Preserves r s → PreservesNext r (execLineFill a0 s) := by
  intro a0 s h
  unfold execLineFill
  repeat' first
    | with_reducible assumption | with_reducible apply State.cxlBytesCount_preserves
    | with_reducible apply State.setHome_preserves | with_reducible apply drainLine_preserves
    | with_reducible apply PreservesNext.ok | exact PreservesNext.fault _ | split | extract_lets

theorem execCombiningLineExpiry_preserves {r : State} : ∀ a0 (s : State),
    Preserves r s → PreservesNext r (execCombiningLineExpiry a0 s) := by
  intro a0 s h
  unfold execCombiningLineExpiry
  repeat' first
    | with_reducible assumption | with_reducible apply State.reach_preserves
    | with_reducible apply State.writeBack_preserves | with_reducible apply PreservesNext.ok
    | exact PreservesNext.fault _ | split | extract_lets

theorem execTrackerAllocate_preserves {r : State} : ∀ a0 (s : State),
    Preserves r s → PreservesNext r (execTrackerAllocate a0 s) := by
  intro a0 s h
  unfold execTrackerAllocate
  repeat' first
    | with_reducible assumption | with_reducible apply State.setHome_preserves
    | with_reducible apply PreservesNext.ok | exact PreservesNext.fault _ | split

/-! ## Machine/Requests.lean -/

theorem State.settleDesc_preserves {r : State} : ∀ (s : State) a1 a2 a3,
    Preserves r s → Preserves r (State.settleDesc s a1 a2 a3) := by
  intro s a1 a2 a3 h
  unfold State.settleDesc
  repeat' first
    | with_reducible assumption | with_reducible apply State.endDesc_preserves | split

theorem State.sendMore_preserves {r : State} : ∀ (s : State) a1, Preserves r s → Preserves r (State.sendMore s a1) :=
  fun _ _ h => Preserves.through (State.sendMore_within _ _) rfl h

theorem State.pieceEnds_preserves {r : State} : ∀ (s : State) a1 a2 a3 a4 a5 a6,
    Preserves r s → Preserves r (State.pieceEnds s a1 a2 a3 a4 a5 a6) := by
  intro s a1 a2 a3 a4 a5 a6 h
  unfold State.pieceEnds
  repeat' first
    | with_reducible assumption | with_reducible apply State.sendMore_preserves
    | with_reducible apply State.hostWrites_preserves | with_reducible apply State.settleDesc_preserves
    | with_reducible apply State.setRing_preserves | split

theorem State.updDie_preserves {r : State} : ∀ (s : State) a1 a2,
    Preserves r s → Preserves r (State.updDie s a1 a2) :=
  fun _ _ _ h => Preserves.through (State.updDie_within _ _ _) rfl h

theorem State.dropReq_preserves {r : State} : ∀ (s : State) a1, Preserves r s → Preserves r (State.dropReq s a1) :=
  fun _ _ h => Preserves.through (State.dropReq_within _ _) rfl h

theorem State.completeReq_preserves {r : State} : ∀ (s : State) a1 a2 a3 a4 a5,
    Preserves r s → Preserves r (State.completeReq s a1 a2 a3 a4 a5) := by
  intro s a1 a2 a3 a4 a5 h
  unfold State.completeReq
  repeat' first
    | with_reducible assumption | with_reducible apply State.updDie_preserves
    | with_reducible apply State.dropReq_preserves | with_reducible apply State.pieceEnds_preserves | split

theorem State.poisonReq_preserves {r : State} : ∀ (s : State) a1,
    Preserves r s → Preserves r (State.poisonReq s a1) := by
  intro s a1 h
  unfold State.poisonReq
  repeat' first
    | with_reducible assumption | with_reducible apply State.bump_preserves
    | with_reducible apply State.completeReq_preserves | with_reducible apply State.raise_preserves

theorem State.setReq_preserves {r : State} : ∀ (s : State) a1, Preserves r s → Preserves r (State.setReq s a1) :=
  fun _ _ h => Preserves.through (State.setReq_within _ _) rfl h

theorem State.holdReq_preserves {r : State} : ∀ (s : State) a1, Preserves r s → Preserves r (State.holdReq s a1) := by
  intro s a1 h
  unfold State.holdReq
  repeat' first
    | with_reducible assumption | with_reducible apply State.bump_preserves
    | with_reducible apply State.poisonReq_preserves | with_reducible apply State.setReq_preserves
    | with_reducible apply State.raise_preserves | split

theorem State.releaseReq_preserves {r : State} : ∀ (s : State) a1,
    Preserves r s → Preserves r (State.releaseReq s a1) := by
  intro s a1 h
  unfold State.releaseReq
  repeat' first
    | with_reducible assumption | with_reducible apply State.bump_preserves
    | with_reducible apply State.completeReq_preserves

theorem execHeldRelease_preserves {r : State} : ∀ a0 (s : State),
    Preserves r s → PreservesNext r (execHeldRelease a0 s) := by
  intro a0 s h
  unfold execHeldRelease
  repeat' first
    | with_reducible assumption | with_reducible apply State.releaseReq_preserves
    | with_reducible apply State.gate_preserves | with_reducible apply State.status_preserves
    | with_reducible apply PreservesNext.ok | exact PreservesNext.fault _ | split | extract_lets
    | with_reducible intro _

theorem execHeldReleaseDest_preserves {r : State} : ∀ (s : State),
    Preserves r s → PreservesNext r (execHeldReleaseDest s) := by
  intro s h
  unfold execHeldReleaseDest
  repeat' first
    | with_reducible assumption | with_reducible apply State.releaseReq_preserves
    | with_reducible apply State.gate_preserves | with_reducible apply State.status_preserves
    | with_reducible apply PreservesNext.ok | exact PreservesNext.fault _
    | (with_reducible apply Preserves.each; intro _ _ _) | split | extract_lets | with_reducible intro _

theorem execHeldRead_preserves {r : State} : ∀ a0 (s : State),
    Preserves r s → PreservesNext r (execHeldRead a0 s) := by
  intro a0 s h
  unfold execHeldRead
  repeat' first
    | with_reducible assumption | with_reducible apply State.wrWords_preserves
    | with_reducible apply State.gate_preserves | with_reducible apply State.status_preserves
    | with_reducible apply PreservesNext.ok | exact PreservesNext.fault _ | split | extract_lets
    | with_reducible intro _

theorem execRequestTimerExpiry_preserves {r : State} : ∀ a0 a1 (s : State),
    Preserves r s → PreservesNext r (execRequestTimerExpiry a0 a1 s) := by
  intro a0 a1 s h
  unfold execRequestTimerExpiry
  repeat' first
    | with_reducible assumption | with_reducible apply State.poisonReq_preserves
    | with_reducible apply State.holdReq_preserves | with_reducible apply State.reach_preserves
    | with_reducible apply PreservesNext.ok | exact PreservesNext.fault _ | split | extract_lets

theorem State.originate_preserves {r : State} : ∀ (s : State) a1,
    Preserves r s → Preserves r (State.originate s a1) :=
  fun _ _ h => Preserves.through (State.originate_within _ _) rfl h

theorem execRequestRetry_preserves {r : State} : ∀ a0 a1 (s : State),
    Preserves r s → PreservesNext r (execRequestRetry a0 a1 s) := by
  intro a0 a1 s h
  unfold execRequestRetry
  repeat' first
    | with_reducible assumption | with_reducible apply State.setReq_preserves
    | with_reducible apply State.originate_preserves | with_reducible apply State.reach_preserves
    | with_reducible apply PreservesNext.ok | exact PreservesNext.fault _ | split

theorem execResponseReceive_preserves {r : State} : ∀ (s : State),
    Preserves r s → PreservesNext r (execResponseReceive s) := by
  intro s h
  unfold execResponseReceive
  repeat' first
    | with_reducible assumption | with_reducible apply State.bump_preserves
    | with_reducible apply State.receiveAck_preserves | with_reducible apply State.completeReq_preserves
    | with_reducible apply State.echo_preserves | with_reducible apply State.unitTake_preserves
    | with_reducible apply PreservesNext.ok | exact PreservesNext.fault _ | split | extract_lets
    | ((fail_if_success with_reducible apply Preserves.upd_pending); with_reducible apply Preserves.upd_req)

/-! ## Machine/Prism.lean -/

theorem State.countPlane_preserves {r : State} : ∀ (s : State) a1 a2,
    Preserves r s → Preserves r (State.countPlane s a1 a2) := by
  intro s a1 a2 h
  unfold State.countPlane
  repeat' first
    | with_reducible assumption | with_reducible apply State.bump_preserves | split | extract_lets

theorem State.accountPlanes_preserves {r : State} : ∀ (s : State),
    Preserves r s → Preserves r (State.accountPlanes s) := by
  intro s h
  unfold State.accountPlanes
  repeat' first
    | with_reducible assumption | with_reducible apply State.countPlane_preserves
    | (with_reducible apply Preserves.each; intro _ _ _) | split | extract_lets
    | ((fail_if_success with_reducible apply Preserves.upd_pending); with_reducible apply Preserves.upd_prism)

theorem State.takeQueued_preserves {r : State} : ∀ (s : State) a1 a2 a3,
    Preserves r s → Preserves r (State.takeQueued s a1 a2 a3).2 := by
  intro s a1 a2 a3
  induction a3 generalizing s a1 a2 with
  | zero => intro h; unfold State.takeQueued; exact h
  | succ x ih =>
  intro h
  unfold State.takeQueued
  repeat' first
    | with_reducible assumption | refine ih _ _ _ ?_ | with_reducible apply State.setQueue_preserves
    | with_reducible apply State.toMoveCells_preserves

theorem State.takeUnacked_preserves {r : State} : ∀ (s : State) a1,
    Preserves r s → Preserves r (State.takeUnacked s a1).2 := by
  intro s a1 h
  unfold State.takeUnacked
  repeat' first
    | with_reducible assumption | with_reducible apply State.setLink_preserves | split | extract_lets
    | ((fail_if_success with_reducible apply Preserves.upd_pending); with_reducible apply Preserves.upd_dp)

theorem State.pairHandover_preserves {r : State} : ∀ (s : State) a1 a2,
    Preserves r s → Preserves r (State.pairHandover s a1 a2) := by
  intro s a1 a2 h
  unfold State.pairHandover
  repeat' first
    | with_reducible assumption | with_reducible apply State.moveOff_preserves
    | with_reducible apply State.handOver_preserves | with_reducible apply State.takeQueued_preserves
    | with_reducible refine Preserves.ofSnd (by assumption) (State.takeQueued_preserves _ _ _ _ ?_)
    | with_reducible apply State.takeUnacked_preserves
    | with_reducible refine Preserves.ofSnd (by assumption) (State.takeUnacked_preserves _ _ ?_)
    | (with_reducible apply Preserves.each; intro _ _ _) | split | extract_lets
    | ((fail_if_success with_reducible apply Preserves.upd_pending); with_reducible apply Preserves.upd_dp)

theorem State.setForce_preserves {r : State} : ∀ (s : State) a1 a2,
    Preserves r s → Preserves r (State.setForce s a1 a2) := by
  intro s a1 a2 h
  unfold State.setForce
  repeat' first
    | with_reducible assumption | with_reducible apply State.setPlane_preserves
    | with_reducible apply State.beginTraining_preserves | split | extract_lets

theorem State.applyEntry_preserves {r : State} : ∀ (s : State) a1,
    Preserves r s → Preserves r (State.applyEntry s a1) := by
  intro s a1 h
  unfold State.applyEntry
  repeat' first
    | with_reducible assumption | with_reducible apply State.setF_preserves
    | with_reducible apply State.setForce_preserves | with_reducible apply State.raise_preserves
    | (with_reducible apply Preserves.each; intro _ _ _)

theorem State.applyMarks_preserves {r : State} : ∀ (s : State) a1 a2,
    Preserves r s → Preserves r (State.applyMarks s a1 a2) := by
  intro s a1 a2 h
  unfold State.applyMarks
  repeat' first
    | with_reducible assumption | with_reducible apply State.accountPlanes_preserves
    | with_reducible apply State.bump_preserves | with_reducible apply State.applyEntry_preserves
    | (with_reducible apply Preserves.each; intro _ _ _) | split | extract_lets
    | ((fail_if_success with_reducible apply Preserves.upd_pending); with_reducible apply Preserves.upd_prism)

theorem State.endRetune_preserves {r : State} : ∀ (s : State) a1,
    Preserves r s → Preserves r (State.endRetune s a1) := by
  intro s a1 h
  unfold State.endRetune
  repeat' first
    | with_reducible assumption | with_reducible apply State.setPlane_preserves
    | with_reducible apply State.beginTraining_preserves

theorem State.resprayTo_preserves {r : State} : ∀ (s : State) a1 a2,
    Preserves r s → Preserves r (State.resprayTo s a1 a2) := by
  intro s a1 a2 h
  unfold State.resprayTo
  repeat' first
    | with_reducible assumption | with_reducible apply State.takeIn_preserves
    | with_reducible apply State.holdItem_preserves | with_reducible apply State.tick_preserves | split

theorem State.rehome_preserves {r : State} : ∀ (s : State) a1, Preserves r s → Preserves r (State.rehome s a1) := by
  intro s a1 h
  unfold State.rehome
  repeat' first
    | with_reducible assumption | with_reducible apply State.takeIn_preserves
    | with_reducible apply State.dropItem_preserves | with_reducible apply State.resprayTo_preserves
    | with_reducible apply State.holdItem_preserves | split | extract_lets

theorem State.freshLinks_preserves {r : State} : ∀ (s : State) a1,
    Preserves r s → Preserves r (State.freshLinks s a1) := by
  intro s a1 h
  unfold State.freshLinks
  repeat' first
    | with_reducible assumption | with_reducible apply State.setLink_preserves
    | (with_reducible apply Preserves.each; intro _ _ _)

theorem State.takePlane_preserves {r : State} : ∀ (s : State) a1,
    Preserves r s → Preserves r (State.takePlane s a1).2 := by
  intro s a1 h
  unfold State.takePlane
  repeat' first
    | with_reducible assumption | with_reducible apply State.toMoveCells_preserves
    | with_reducible apply State.drainQueues_preserves
    | with_reducible refine Preserves.ofSnd (by assumption) (State.drainQueues_preserves _ _ _ ?_)
    | with_reducible apply State.takeUnacked_preserves
    | with_reducible refine Preserves.ofSnd (by assumption) (State.takeUnacked_preserves _ _ ?_)
    | (with_reducible apply Preserves.takeEach; intro _ _ _)

theorem State.remapDetours_preserves {r : State} : ∀ (s : State),
    Preserves r s → Preserves r (State.remapDetours s) :=
  fun _ h => Preserves.through (State.remapDetours_within _) rfl h

theorem State.endRetunes_preserves {r : State} : ∀ (s : State), Preserves r s → Preserves r (State.endRetunes s) := by
  intro s h
  unfold State.endRetunes
  repeat' first
    | with_reducible assumption | with_reducible apply State.endRetune_preserves
    | with_reducible apply State.rehome_preserves | with_reducible apply State.freshLinks_preserves
    | with_reducible apply State.sendLocal_preserves | with_reducible apply State.takePlane_preserves
    | with_reducible refine Preserves.ofSnd (by assumption) (State.takePlane_preserves _ _ ?_)
    | with_reducible apply State.remapDetours_preserves | (with_reducible apply Preserves.takeEach; intro _ _ _)
    | (with_reducible apply Preserves.each; intro _ _ _) | split | extract_lets
    | ((fail_if_success with_reducible apply Preserves.upd_pending); with_reducible apply Preserves.upd_prism)

theorem State.endSlot_preserves {r : State} : ∀ (s : State) a1 a2,
    Preserves r s → Preserves r (State.endSlot s a1 a2) := by
  intro s a1 a2 h
  unfold State.endSlot
  repeat' first
    | with_reducible assumption | with_reducible apply State.setPlane_preserves
    | with_reducible apply State.pairHandover_preserves | split | extract_lets

theorem State.takeMissed_preserves {r : State} : ∀ (s : State) a1,
    Preserves r s → Preserves r (State.takeMissed s a1).2 := by
  intro s a1 h
  unfold State.takeMissed
  repeat' first
    | with_reducible assumption | with_reducible apply State.takeQueued_preserves

theorem State.followSlot_preserves {r : State} : ∀ (s : State) a1,
    Preserves r s → Preserves r (State.followSlot s a1) := by
  intro s a1 h
  unfold State.followSlot
  repeat' first
    | with_reducible assumption | with_reducible apply State.takeMissed_preserves
    | with_reducible refine Preserves.ofSnd (by assumption) (State.takeMissed_preserves _ _ ?_)
    | with_reducible apply State.resprayTo_preserves | (with_reducible apply Preserves.takeEach; intro _ _ _)
    | (with_reducible apply Preserves.each; intro _ _ _) | split

theorem State.lapse_preserves {r : State} : ∀ (s : State) a1 a2,
    Preserves r s → Preserves r (State.lapse s a1 a2) := by
  intro s a1 a2 h
  unfold State.lapse
  repeat' first
    | with_reducible assumption | with_reducible apply State.setLink_preserves

theorem State.lateMarks_preserves {r : State} : ∀ (s : State) a1,
    Preserves r s → Preserves r (State.lateMarks s a1) := by
  intro s a1 h
  unfold State.lateMarks
  repeat' first
    | with_reducible assumption | with_reducible apply State.applyMarks_preserves | split

theorem State.lend_preserves {r : State} : ∀ (s : State) a1, Preserves r s → Preserves r (State.lend s a1) := by
  intro s a1 h
  unfold State.lend
  repeat' first
    | with_reducible assumption | with_reducible apply State.setLink_preserves
    | (with_reducible apply Preserves.each; intro _ _ _) | split | extract_lets

theorem State.patRead_preserves {r : State} : ∀ (s : State) a1 a2,
    Preserves r s → Preserves r (State.patRead s a1 a2) := by
  intro s a1 a2 h
  unfold State.patRead
  repeat' first
    | with_reducible assumption | with_reducible apply State.wrWords_preserves
    | with_reducible apply State.gate_preserves | with_reducible apply State.status_preserves | split
    | extract_lets | with_reducible intro _

theorem execPatWriteShadow_preserves {r : State} : ∀ a0 (s : State),
    Preserves r s → PreservesNext r (execPatWriteShadow a0 s) := by
  intro a0 s h
  unfold execPatWriteShadow
  repeat' first
    | with_reducible assumption | with_reducible apply State.gate_preserves
    | with_reducible apply State.status_preserves | with_reducible apply PreservesNext.ok
    | exact PreservesNext.fault _ | split | extract_lets
    | ((fail_if_success with_reducible apply Preserves.upd_pending); with_reducible apply Preserves.upd_prism)
    | with_reducible intro _

theorem execPatReadShadow_preserves {r : State} : ∀ a0 (s : State),
    Preserves r s → PreservesNext r (execPatReadShadow a0 s) := by
  intro a0 s h
  unfold execPatReadShadow
  repeat' first
    | with_reducible assumption | with_reducible apply State.patRead_preserves
    | with_reducible apply PreservesNext.ok

theorem execPrismGuardWrite_preserves {r : State} : ∀ a0 a1 (s : State),
    Preserves r s → PreservesNext r (execPrismGuardWrite a0 a1 s) := by
  intro a0 a1 s h
  unfold execPrismGuardWrite
  repeat' first
    | with_reducible assumption | with_reducible apply State.setF_preserves
    | with_reducible apply State.store_preserves | with_reducible apply State.gate_preserves
    | with_reducible apply PreservesNext.ok | exact PreservesNext.fault _ | split | extract_lets
    | with_reducible intro _

theorem execPatReadActive_preserves {r : State} : ∀ a0 (s : State),
    Preserves r s → PreservesNext r (execPatReadActive a0 s) := by
  intro a0 s h
  unfold execPatReadActive
  repeat' first
    | with_reducible assumption | with_reducible apply State.patRead_preserves
    | with_reducible apply PreservesNext.ok

theorem execPlaneRetuneEnd_preserves {r : State} : ∀ (s : State),
    Preserves r s → PreservesNext r (execPlaneRetuneEnd s) := by
  intro s h
  unfold execPlaneRetuneEnd
  repeat' first
    | with_reducible assumption | with_reducible apply State.accountPlanes_preserves
    | with_reducible apply State.endRetunes_preserves | with_reducible apply State.lateMarks_preserves
    | with_reducible apply State.reach_preserves | with_reducible apply PreservesNext.ok
    | exact PreservesNext.fault _ | split

theorem execPatternApply_preserves {r : State} : ∀ (s : State),
    Preserves r s → PreservesNext r (execPatternApply s) := by
  intro s h
  unfold execPatternApply
  repeat' first
    | with_reducible assumption | with_reducible apply State.reach_preserves
    | with_reducible apply State.applyMarks_preserves | with_reducible apply PreservesNext.ok
    | exact PreservesNext.fault _ | split

/-! ## Machine/Training.lean -/

theorem State.endDrain_preserves {r : State} : ∀ (s : State) a1,
    Preserves r s → Preserves r (State.endDrain s a1) := by
  intro s a1 h
  unfold State.endDrain
  repeat' first
    | with_reducible assumption | with_reducible apply State.setPort_preserves
    | with_reducible apply State.replayHandover_preserves | with_reducible apply State.endMaint_preserves | split

theorem State.easelZero_preserves {r : State} : ∀ (s : State) a1,
    Preserves r s → Preserves r (State.easelZero s a1) := by
  intro s a1 h
  unfold State.easelZero
  repeat' first
    | with_reducible assumption | with_reducible apply State.setF_preserves
    | with_reducible apply State.moveOffPort_preserves | split | extract_lets
    | ((fail_if_success with_reducible apply Preserves.upd_pending); with_reducible apply Preserves.upd_dp)

theorem State.startDrain_preserves {r : State} : ∀ a0 (s : State),
    Preserves r s → Preserves r (State.startDrain a0 s) := by
  intro a0 s h
  unfold State.startDrain
  repeat' first
    | with_reducible assumption | with_reducible apply State.setPort_preserves
    | with_reducible apply State.sendWithdraw_preserves | with_reducible apply State.endDrain_preserves
    | with_reducible apply State.endMaint_preserves | with_reducible apply State.easelZero_preserves | split
    | extract_lets

theorem State.trimLanes_preserves {r : State} : ∀ (s : State) a1,
    Preserves r s → Preserves r (State.trimLanes s a1) := by
  intro s a1 h
  unfold State.trimLanes
  repeat' first
    | with_reducible assumption | with_reducible apply State.setPort_preserves
    | with_reducible apply State.linkDown_preserves | split | extract_lets

theorem State.trainingFails_preserves {r : State} : ∀ (s : State) a1,
    Preserves r s → Preserves r (State.trainingFails s a1) := by
  intro s a1 h
  unfold State.trainingFails
  repeat' first
    | with_reducible assumption | with_reducible apply State.setPort_preserves
    | with_reducible apply State.raise_preserves | split | extract_lets

theorem State.laneLeaves_preserves {r : State} : ∀ (s : State) a1 a2 a3,
    Preserves r s → Preserves r (State.laneLeaves s a1 a2 a3) := by
  intro s a1 a2 a3 h
  unfold State.laneLeaves
  repeat' first
    | with_reducible assumption | with_reducible apply State.setPort_preserves
    | with_reducible apply State.linkDown_preserves | with_reducible apply State.trainingFails_preserves | split
    | extract_lets

theorem State.degrade_preserves {r : State} : ∀ (s : State) a1 a2 a3,
    Preserves r s → Preserves r (State.degrade s a1 a2 a3) := by
  intro s a1 a2 a3 h
  unfold State.degrade
  repeat' first
    | with_reducible assumption | with_reducible apply State.bump_preserves
    | with_reducible apply State.laneLeaves_preserves | split

theorem State.joinBundle_preserves {r : State} : ∀ (s : State) a1 a2,
    Preserves r s → Preserves r (State.joinBundle s a1 a2) := by
  intro s a1 a2 h
  unfold State.joinBundle
  repeat' first
    | with_reducible assumption | with_reducible apply State.setBundle_preserves
    | with_reducible apply State.startMove_preserves | (with_reducible apply Preserves.each; intro _ _ _) | split
    | extract_lets

theorem State.planeUp_preserves {r : State} : ∀ (s : State) a1, Preserves r s → Preserves r (State.planeUp s a1) := by
  intro s a1 h
  unfold State.planeUp
  repeat' first
    | with_reducible assumption | with_reducible apply State.accountPlanes_preserves
    | with_reducible apply State.setPlane_preserves | split

theorem State.portUp_preserves {r : State} : ∀ (s : State) a1, Preserves r s → Preserves r (State.portUp s a1) := by
  intro s a1 h
  unfold State.portUp
  repeat' first
    | with_reducible assumption | with_reducible apply State.planeUp_preserves
    | with_reducible apply State.bump_preserves | with_reducible apply State.setPort_preserves
    | with_reducible apply State.raise_preserves

theorem State.identified_preserves {r : State} : ∀ (s : State) a1 a2 a3,
    Preserves r s → Preserves r (State.identified s a1 a2 a3) := by
  intro s a1 a2 a3 h
  unfold State.identified
  repeat' first
    | with_reducible assumption | with_reducible apply State.joinBundle_preserves
    | with_reducible apply State.portUp_preserves | with_reducible apply State.setPort_preserves
    | with_reducible apply State.replayHandover_preserves | with_reducible apply State.reconsider_preserves
    | with_reducible apply State.raise_preserves | split | extract_lets | with_reducible intro _
    | with_reducible show Preserves _ (ite _ _ _)

theorem State.portOff_preserves {r : State} : ∀ (s : State) a1, Preserves r s → Preserves r (State.portOff s a1) := by
  intro s a1 h
  unfold State.portOff
  repeat' first
    | with_reducible assumption | with_reducible apply State.endMaint_preserves
    | with_reducible apply State.takeDown_preserves | with_reducible apply State.emit_preserves

theorem State.latchRsv_preserves {r : State} : ∀ (s : State) a1,
    Preserves r s → Preserves r (State.latchRsv s a1) := by
  intro s a1 h
  unfold State.latchRsv
  repeat' first
    | with_reducible assumption | with_reducible apply State.setPort_preserves

theorem State.lanesLock_preserves {r : State} : ∀ (s : State) a1,
    Preserves r s → Preserves r (State.lanesLock s a1) := by
  intro s a1 h
  unfold State.lanesLock
  repeat' first
    | with_reducible assumption | with_reducible apply State.portUp_preserves
    | with_reducible apply State.setPort_preserves | with_reducible apply State.latchRsv_preserves
    | with_reducible apply State.reconsider_preserves | split | extract_lets

theorem State.powerEvent_preserves {r : State} : ∀ (s : State) a1 a2 a3 a4,
    Preserves r s → Preserves r (State.powerEvent s a1 a2 a3 a4) := by
  intro s a1 a2 a3 a4 h
  unfold State.powerEvent
  repeat' first
    | with_reducible assumption | with_reducible apply State.raise_preserves

/-- Lowering a register's form: a list of writes at each key. -/
theorem State.resetRegs_preserves {r : State} : ∀ (s : State) offs, Preserves r s → Preserves r (State.resetRegs s offs) :=
  fun _ _ h => h.upd_regs fun w => Tbl.wf_filter w _

theorem State.resetSched_preserves {r : State} : ∀ (s : State) a1,
    Preserves r s → Preserves r (State.resetSched s a1) :=
  fun _ _ h => Preserves.through (State.resetSched_within _ _) rfl h

theorem State.startPortReset_preserves {r : State} : ∀ a0 (s : State),
    Preserves r s → Preserves r (State.startPortReset a0 s) := by
  intro a0 s h
  unfold State.startPortReset
  repeat' first
    | with_reducible assumption | with_reducible apply State.endMaint_preserves
    | with_reducible apply State.takeDown_preserves | with_reducible apply State.resetRegs_preserves
    | with_reducible apply State.beginTraining_preserves | with_reducible apply State.resetSched_preserves

theorem State.startRetrain_preserves {r : State} : ∀ a0 (s : State),
    Preserves r s → Preserves r (State.startRetrain a0 s) := by
  intro a0 s h
  unfold State.startRetrain
  repeat' first
    | with_reducible assumption | with_reducible apply State.endMaint_preserves
    | with_reducible apply State.takeDown_preserves | with_reducible apply State.beginTraining_preserves

theorem State.trainedLinks_preserves {r : State} : ∀ (s : State) a1 a2,
    Preserves r s → Preserves r (State.trainedLinks s a1 a2) := by
  intro s a1 a2 h
  unfold State.trainedLinks
  repeat' first
    | with_reducible assumption | with_reducible apply State.latchRsv_preserves
    | with_reducible apply State.setLink_preserves | (with_reducible apply Preserves.each; intro _ _ _)

theorem execPortEnableWrite_preserves {r : State} : ∀ a0 a1 (s : State),
    Preserves r s → PreservesNext r (execPortEnableWrite a0 a1 s) := by
  intro a0 a1 s h
  unfold execPortEnableWrite
  repeat' first
    | with_reducible assumption | with_reducible apply State.setF_preserves
    | with_reducible apply State.gate_preserves | with_reducible apply State.portOff_preserves
    | with_reducible apply State.beginTraining_preserves | with_reducible apply PreservesNext.ok
    | exact PreservesNext.fault _ | split | extract_lets | with_reducible intro _

theorem execPortRetrain_preserves {r : State} : ∀ a0 (s : State),
    Preserves r s → PreservesNext r (execPortRetrain a0 s) := by
  intro a0 s h
  unfold execPortRetrain
  repeat' first
    | with_reducible assumption | with_reducible apply State.requestMaint_preserves
    | with_reducible apply State.gate_preserves | with_reducible apply State.startRetrain_preserves
    | with_reducible apply PreservesNext.ok | exact PreservesNext.fault _ | split | extract_lets
    | with_reducible intro _

theorem execPortDrain_preserves {r : State} : ∀ a0 (s : State),
    Preserves r s → PreservesNext r (execPortDrain a0 s) := by
  intro a0 s h
  unfold execPortDrain
  repeat' first
    | with_reducible assumption | with_reducible apply State.setF_preserves
    | with_reducible apply State.requestMaint_preserves | with_reducible apply State.gate_preserves
    | with_reducible apply State.startDrain_preserves | with_reducible apply PreservesNext.ok
    | exact PreservesNext.fault _ | split | extract_lets | with_reducible intro _

theorem execLaneMaskWrite_preserves {r : State} : ∀ a0 a1 (s : State),
    Preserves r s → PreservesNext r (execLaneMaskWrite a0 a1 s) := by
  intro a0 a1 s h
  unfold execLaneMaskWrite
  repeat' first
    | with_reducible assumption | with_reducible apply State.setF_preserves
    | with_reducible apply State.gate_preserves | with_reducible apply State.trimLanes_preserves
    | with_reducible apply State.portOff_preserves | with_reducible apply State.beginTraining_preserves
    | with_reducible apply PreservesNext.ok | exact PreservesNext.fault _ | split | extract_lets
    | with_reducible intro _

theorem execPortUndrain_preserves {r : State} : ∀ a0 (s : State),
    Preserves r s → PreservesNext r (execPortUndrain a0 s) := by
  intro a0 s h
  unfold execPortUndrain
  repeat' first
    | with_reducible assumption | with_reducible apply State.joinBundle_preserves
    | with_reducible apply State.setPort_preserves | with_reducible apply State.setF_preserves
    | with_reducible apply State.endMaint_preserves | with_reducible apply State.reconsider_preserves
    | with_reducible apply State.gate_preserves | with_reducible apply State.sendReady_preserves
    | with_reducible apply PreservesNext.ok | exact PreservesNext.fault _ | split | extract_lets
    | ((fail_if_success with_reducible apply Preserves.upd_pending); with_reducible apply Preserves.upd_maint)
    | with_reducible intro _ | with_reducible show Preserves _ (ite _ _ _)

theorem execPortReset_preserves {r : State} : ∀ a0 (s : State),
    Preserves r s → PreservesNext r (execPortReset a0 s) := by
  intro a0 s h
  unfold execPortReset
  repeat' first
    | with_reducible assumption | with_reducible apply State.requestMaint_preserves
    | with_reducible apply State.gate_preserves | with_reducible apply State.startPortReset_preserves
    | with_reducible apply PreservesNext.ok | exact PreservesNext.fault _ | split | extract_lets
    | with_reducible intro _

theorem execPortDrainEnd_preserves {r : State} : ∀ a0 (s : State),
    Preserves r s → PreservesNext r (execPortDrainEnd a0 s) := by
  intro a0 s h
  unfold execPortDrainEnd
  repeat' first
    | with_reducible assumption | with_reducible apply State.endDrain_preserves
    | with_reducible apply State.reach_preserves | with_reducible apply PreservesNext.ok
    | exact PreservesNext.fault _ | split

theorem execOpticalOverload_preserves {r : State} : ∀ a0 a1 a2 (s : State),
    Preserves r s → PreservesNext r (execOpticalOverload a0 a1 a2 s) := by
  intro a0 a1 a2 s h
  unfold execOpticalOverload
  repeat' first
    | with_reducible assumption | with_reducible apply State.setPort_preserves
    | with_reducible apply State.laneLeaves_preserves | with_reducible apply State.powerEvent_preserves
    | with_reducible apply PreservesNext.ok | exact PreservesNext.fault _ | split | extract_lets

theorem execOpticalLos_preserves {r : State} : ∀ a0 a1 (s : State),
    Preserves r s → PreservesNext r (execOpticalLos a0 a1 s) := by
  intro a0 a1 s h
  unfold execOpticalLos
  repeat' first
    | with_reducible assumption | with_reducible apply State.setPort_preserves
    | with_reducible apply State.degrade_preserves | with_reducible apply PreservesNext.ok
    | exact PreservesNext.fault _ | split | extract_lets

theorem execLaneRejoin_preserves {r : State} : ∀ a0 a1 (s : State),
    Preserves r s → PreservesNext r (execLaneRejoin a0 a1 s) := by
  intro a0 a1 s h
  unfold execLaneRejoin
  repeat' first
    | with_reducible assumption | with_reducible apply State.setPort_preserves
    | with_reducible apply PreservesNext.ok | exact PreservesNext.fault _ | split | extract_lets

theorem execLcIdentTimer_preserves {r : State} : ∀ a0 (s : State),
    Preserves r s → PreservesNext r (execLcIdentTimer a0 s) := by
  intro a0 s h
  unfold execLcIdentTimer
  repeat' first
    | with_reducible assumption | with_reducible apply State.sendLocal_preserves
    | with_reducible apply PreservesNext.ok | exact PreservesNext.fault _ | split | extract_lets

theorem execLcIdentReceive_preserves {r : State} : ∀ a0 (s : State),
    Preserves r s → PreservesNext r (execLcIdentReceive a0 s) := by
  intro a0 s h
  unfold execLcIdentReceive
  repeat' first
    | with_reducible assumption | with_reducible apply State.setPort_preserves
    | with_reducible apply State.identified_preserves | with_reducible apply PreservesNext.ok
    | exact PreservesNext.fault _ | split | extract_lets

theorem execFlitLock_preserves {r : State} : ∀ a0 a1 a2 a3 a4 (s : State),
    Preserves r s → PreservesNext r (execFlitLock a0 a1 a2 a3 a4 s) := by
  intro a0 a1 a2 a3 a4 s h
  unfold execFlitLock
  repeat' first
    | with_reducible assumption | with_reducible apply State.portUp_preserves
    | with_reducible apply State.setPort_preserves | with_reducible apply State.trainedLinks_preserves
    | with_reducible apply State.reconsider_preserves | with_reducible apply State.sendLocal_preserves
    | with_reducible apply PreservesNext.ok | exact PreservesNext.fault _ | split | extract_lets

theorem execOpticalLosClear_preserves {r : State} : ∀ a0 a1 (s : State),
    Preserves r s → PreservesNext r (execOpticalLosClear a0 a1 s) := by
  intro a0 a1 s h
  unfold execOpticalLosClear
  repeat' first
    | with_reducible assumption | with_reducible apply State.setPort_preserves
    | with_reducible apply PreservesNext.ok | exact PreservesNext.fault _ | split | extract_lets

theorem execTrainingStepTimeout_preserves {r : State} : ∀ a0 (s : State),
    Preserves r s → PreservesNext r (execTrainingStepTimeout a0 s) := by
  intro a0 s h
  unfold execTrainingStepTimeout
  repeat' first
    | with_reducible assumption | with_reducible apply State.trainingFails_preserves
    | with_reducible apply State.lanesLock_preserves | with_reducible apply State.reach_preserves
    | with_reducible apply PreservesNext.ok | exact PreservesNext.fault _ | split | extract_lets

theorem execLaneLock_preserves {r : State} : ∀ a0 a1 (s : State),
    Preserves r s → PreservesNext r (execLaneLock a0 a1 s) := by
  intro a0 a1 s h
  unfold execLaneLock
  repeat' first
    | with_reducible assumption | with_reducible apply State.setPort_preserves
    | with_reducible apply State.lanesLock_preserves | with_reducible apply PreservesNext.ok
    | exact PreservesNext.fault _ | split | extract_lets

theorem execOverloadClear_preserves {r : State} : ∀ a0 a1 (s : State),
    Preserves r s → PreservesNext r (execOverloadClear a0 a1 s) := by
  intro a0 a1 s h
  unfold execOverloadClear
  repeat' first
    | with_reducible assumption | with_reducible apply State.setPort_preserves
    | with_reducible apply State.beginTraining_preserves | with_reducible apply PreservesNext.ok

theorem execLaneFail_preserves {r : State} : ∀ a0 a1 (s : State),
    Preserves r s → PreservesNext r (execLaneFail a0 a1 s) := by
  intro a0 a1 s h
  unfold execLaneFail
  repeat' first
    | with_reducible assumption | with_reducible apply State.degrade_preserves
    | with_reducible apply PreservesNext.ok

theorem execOpticalPowerWarning_preserves {r : State} : ∀ a0 a1 a2 a3 (s : State),
    Preserves r s → PreservesNext r (execOpticalPowerWarning a0 a1 a2 a3 s) := by
  intro a0 a1 a2 a3 s h
  unfold execOpticalPowerWarning
  repeat' first
    | with_reducible assumption | with_reducible apply State.powerEvent_preserves
    | with_reducible apply PreservesNext.ok | exact PreservesNext.fault _ | split | extract_lets
    | ((fail_if_success with_reducible apply Preserves.upd_pending); with_reducible apply Preserves.upd_optics)

theorem execLinkSilenceTimeout_preserves {r : State} : ∀ a0 (s : State),
    Preserves r s → PreservesNext r (execLinkSilenceTimeout a0 s) := by
  intro a0 s h
  unfold execLinkSilenceTimeout
  repeat' first
    | with_reducible assumption | with_reducible apply State.linkDown_preserves
    | with_reducible apply State.reach_preserves | with_reducible apply PreservesNext.ok
    | exact PreservesNext.fault _ | split | extract_lets

theorem execTrainingRestExpiry_preserves {r : State} : ∀ a0 (s : State),
    Preserves r s → PreservesNext r (execTrainingRestExpiry a0 s) := by
  intro a0 s h
  unfold execTrainingRestExpiry
  repeat' first
    | with_reducible assumption | with_reducible apply State.setPort_preserves
    | with_reducible apply State.reach_preserves | with_reducible apply State.beginTraining_preserves
    | with_reducible apply PreservesNext.ok | exact PreservesNext.fault _ | split | extract_lets

/-! ## Machine/Flits.lean -/

theorem State.replayAll_preserves {r : State} : ∀ (s : State) a1 a2,
    Preserves r s → Preserves r (State.replayAll s a1 a2) := by
  intro s a1 a2 h
  unfold State.replayAll
  repeat' first
    | with_reducible assumption | with_reducible apply State.bump_preserves
    | with_reducible apply State.linkDown_preserves | with_reducible apply State.setLink_preserves | split
    | extract_lets
    | ((fail_if_success with_reducible apply Preserves.upd_pending); with_reducible apply Preserves.upd_out)

theorem State.pairAcked_preserves {r : State} : ∀ (s : State) a1 a2,
    Preserves r s → Preserves r (State.pairAcked s a1 a2) := by
  intro s a1 a2 h
  unfold State.pairAcked
  repeat' first
    | with_reducible assumption | with_reducible apply State.setPlane_preserves | split | extract_lets
    | ((fail_if_success with_reducible apply Preserves.upd_pending); with_reducible apply Preserves.upd_prism)

theorem State.checkAcks_preserves {r : State} : ∀ (s : State), Preserves r s → Preserves r (State.checkAcks s) :=
  fun _ h => Preserves.through (State.checkAcks_within _) rfl h

theorem State.applyAck_preserves {r : State} : ∀ (s : State) a1 a2 a3 a4,
    Preserves r s → Preserves r (State.applyAck s a1 a2 a3 a4) := by
  intro s a1 a2 a3 a4 h
  unfold State.applyAck
  repeat' first
    | with_reducible assumption | with_reducible apply State.checkAcks_preserves
    | with_reducible apply State.pairAcked_preserves | with_reducible apply State.replayAll_preserves
    | with_reducible apply State.setLink_preserves | split | extract_lets

theorem State.drawNak_preserves {r : State} : ∀ (s : State) a1 a2,
    Preserves r s → Preserves r (State.drawNak s a1 a2) := by
  intro s a1 a2 h
  unfold State.drawNak
  repeat' first
    | with_reducible assumption | with_reducible apply State.bump_preserves
    | with_reducible apply State.setLink_preserves | with_reducible apply State.emit_preserves | split
    | extract_lets

theorem State.badFlit_preserves {r : State} : ∀ (s : State) a1 a2,
    Preserves r s → Preserves r (State.badFlit s a1 a2) := by
  intro s a1 a2 h
  unfold State.badFlit
  repeat' first
    | with_reducible assumption | with_reducible apply State.bump_preserves
    | with_reducible apply State.drawNak_preserves

theorem State.heardFrom_preserves {r : State} : ∀ (s : State) a1 a2,
    Preserves r s → Preserves r (State.heardFrom s a1 a2) := by
  intro s a1 a2 h
  unfold State.heardFrom
  repeat' first
    | with_reducible assumption | with_reducible apply State.setPort_preserves
    | with_reducible apply State.setPeer_preserves | split | extract_lets

theorem State.receivePacket_preserves {r : State} : ∀ (s : State) a1 a2 a3 a4,
    Preserves r s → Preserves r (State.receivePacket s a1 a2 a3 a4) := by
  intro s a1 a2 a3 a4 h
  unfold State.receivePacket
  repeat' first
    | with_reducible assumption | with_reducible apply State.raise_preserves
    | with_reducible apply State.bumpPort_preserves | with_reducible apply State.countDrop_preserves
    | with_reducible apply State.setLink_preserves | with_reducible apply State.xPass_preserves | split
    | extract_lets
    | ((fail_if_success with_reducible apply Preserves.upd_pending); with_reducible apply Preserves.upd_dp)

theorem State.tailPassed_preserves {r : State} : ∀ (s : State) a1,
    Preserves r s → Preserves r (State.tailPassed s a1) := by
  intro s a1 h
  unfold State.tailPassed
  repeat' first
    | with_reducible assumption | with_reducible apply State.flyOut_preserves
    | with_reducible apply State.learn_preserves | (with_reducible apply Preserves.each; intro _ _ _) | split
    | extract_lets
    | ((fail_if_success with_reducible apply Preserves.upd_pending); with_reducible apply Preserves.upd_dp)

theorem State.takeLocalPacket_preserves {r : State} : ∀ (s : State) a1 a2,
    Preserves r s → Preserves r (State.takeLocalPacket s a1 a2) := by
  intro s a1 a2 h
  unfold State.takeLocalPacket
  repeat' first
    | with_reducible assumption | with_reducible apply State.setPort_preserves
    | with_reducible apply State.countDrop_preserves | split

theorem execPacketTail_preserves {r : State} : ∀ a0 (s : State),
    Preserves r s → PreservesNext r (execPacketTail a0 s) := by
  intro a0 s h
  unfold execPacketTail
  repeat' first
    | with_reducible assumption | with_reducible apply State.countDrop_preserves
    | with_reducible apply State.tailPassed_preserves | with_reducible apply PreservesNext.ok
    | exact PreservesNext.fault _ | split | extract_lets
    | ((fail_if_success with_reducible apply Preserves.upd_pending); with_reducible apply Preserves.upd_dp)

theorem execControlFlitReceive_preserves {r : State} : ∀ a0 a1 a2 (s : State),
    Preserves r s → PreservesNext r (execControlFlitReceive a0 a1 a2 s) := by
  intro a0 a1 a2 s h
  unfold execControlFlitReceive
  repeat' first
    | with_reducible assumption | with_reducible apply State.heardFrom_preserves
    | with_reducible apply State.takeLocalPacket_preserves | with_reducible apply State.applyAck_preserves
    | with_reducible apply State.setLink_preserves | with_reducible apply State.badFlit_preserves
    | with_reducible apply PreservesNext.ok | exact PreservesNext.fault _
    | (with_reducible apply Preserves.each; intro _ _ _) | split

theorem execFlitReceive_preserves {r : State} : ∀ a0 a1 a2 a3 (s : State),
    Preserves r s → PreservesNext r (execFlitReceive a0 a1 a2 a3 s) := by
  intro a0 a1 a2 a3 s h
  unfold execFlitReceive
  repeat' first
    | with_reducible assumption | with_reducible apply State.bump_preserves
    | with_reducible apply State.heardFrom_preserves | with_reducible apply State.receivePacket_preserves
    | with_reducible apply State.setLink_preserves | with_reducible apply State.drawNak_preserves
    | with_reducible apply State.badFlit_preserves | with_reducible apply PreservesNext.ok
    | exact PreservesNext.fault _ | (with_reducible apply Preserves.each; intro _ _ _) | split | extract_lets
    | with_reducible intro _ | with_reducible show Preserves _ (ite _ _ _)

theorem State.setCtx_preserves {r : State} : ∀ (s : State) a1 a2,
    Preserves r s → Preserves r (State.setCtx s a1 a2) :=
  fun _ _ _ h => Preserves.through (State.setCtx_within _ _ _) rfl h

/-! ## Machine/CanvasOps.lean -/

theorem State.enterRecover_preserves {r : State} : ∀ (s : State) a1,
    Preserves r s → Preserves r (State.enterRecover s a1) := by
  intro s a1 h
  unfold State.enterRecover
  repeat' first
    | with_reducible assumption | with_reducible apply State.raise_preserves
    | with_reducible apply State.setCtx_preserves

theorem State.sendResult_preserves {r : State} : ∀ (s : State) a1 a2 a3 a4,
    Preserves r s → Preserves r (State.sendResult s a1 a2 a3 a4) := by
  intro s a1 a2 a3 a4 h
  unfold State.sendResult
  repeat' first
    | with_reducible assumption | with_reducible apply State.bump_preserves
    | with_reducible apply State.originate_preserves | with_reducible apply State.setCtx_preserves | split

theorem State.setSeg_preserves {r : State} : ∀ (s : State) a1 a2 a3,
    Preserves r s → Preserves r (State.setSeg s a1 a2 a3) :=
  fun _ _ _ _ h => Preserves.through (State.setSeg_within _ _ _ _) rfl h

theorem State.clearHeld_preserves {r : State} : ∀ (s : State) a1 a2,
    Preserves r s → Preserves r (State.clearHeld s a1 a2) :=
  fun _ _ _ h => Preserves.through (State.clearHeld_within _ _ _) rfl h

theorem State.voidSeg_preserves {r : State} : ∀ (s : State) a1 a2,
    Preserves r s → Preserves r (State.voidSeg s a1 a2) := by
  intro s a1 a2 h
  unfold State.voidSeg
  repeat' first
    | with_reducible assumption | with_reducible apply State.setSeg_preserves
    | with_reducible apply State.clearHeld_preserves | with_reducible apply State.sendResult_preserves

theorem State.missing_preserves {r : State} : ∀ (s : State) a1 a2 a3,
    Preserves r s → Preserves r (State.missing s a1 a2 a3) := by
  intro s a1 a2 a3 h
  unfold State.missing
  repeat' first
    | with_reducible assumption | with_reducible apply State.raise_preserves
    | with_reducible apply State.setCtx_preserves | split | extract_lets

theorem State.partialEvent_preserves {r : State} : ∀ (s : State) a1 a2,
    Preserves r s → Preserves r (State.partialEvent s a1 a2) := by
  intro s a1 a2 h
  unfold State.partialEvent
  repeat' first
    | with_reducible assumption | with_reducible apply State.raise_preserves
    | with_reducible apply State.setCtx_preserves | split | extract_lets

theorem State.notePartial_preserves {r : State} : ∀ (s : State) a1 a2,
    Preserves r s → Preserves r (State.notePartial s a1 a2) := by
  intro s a1 a2 h
  unfold State.notePartial
  repeat' first
    | with_reducible assumption | with_reducible apply State.missing_preserves
    | with_reducible apply State.partialEvent_preserves | (with_reducible apply Preserves.each; intro _ _ _)
    | split | extract_lets

theorem State.settleSeg_preserves {r : State} : ∀ (s : State) a1 a2,
    Preserves r s → Preserves r (State.settleSeg s a1 a2) := by
  intro s a1 a2 h
  unfold State.settleSeg
  repeat' first
    | with_reducible assumption | with_reducible apply State.setSeg_preserves
    | with_reducible apply State.voidSeg_preserves | with_reducible apply State.notePartial_preserves | split
    | extract_lets

theorem State.dispatchSeg_preserves {r : State} : ∀ (s : State) a1 a2,
    Preserves r s → Preserves r (State.dispatchSeg s a1 a2) :=
  fun _ _ _ h => Preserves.through (State.dispatchSeg_within _ _ _) rfl h

theorem State.redispatch_preserves {r : State} : ∀ (s : State) a1,
    Preserves r s → Preserves r (State.redispatch s a1) := by
  intro s a1 h
  unfold State.redispatch
  repeat' first
    | with_reducible assumption | with_reducible apply State.settleSeg_preserves
    | with_reducible apply State.dispatchSeg_preserves | (with_reducible apply Preserves.each; intro _ _ _)

theorem State.leaveRecover_preserves {r : State} : ∀ (s : State) a1 a2,
    Preserves r s → Preserves r (State.leaveRecover s a1 a2) := by
  intro s a1 a2 h
  unfold State.leaveRecover
  repeat' first
    | with_reducible assumption | with_reducible apply State.redispatch_preserves
    | with_reducible apply State.setCtx_preserves

theorem State.canvasEngines_preserves {r : State} : ∀ (s : State),
    Preserves r s → Preserves r (State.canvasEngines s) := by
  intro s h
  unfold State.canvasEngines
  repeat' first
    | with_reducible assumption | with_reducible apply State.enterRecover_preserves
    | with_reducible apply State.leaveRecover_preserves | (with_reducible apply Preserves.each; intro _ _ _)
    | split | extract_lets

theorem State.childRetry_preserves {r : State} : ∀ (s : State) a1 a2,
    Preserves r s → Preserves r (State.childRetry s a1 a2) := by
  intro s a1 a2 h
  unfold State.childRetry
  repeat' first
    | with_reducible assumption | with_reducible apply State.voidSeg_preserves

theorem State.rootDead_preserves {r : State} : ∀ (s : State) a1,
    Preserves r s → Preserves r (State.rootDead s a1) := by
  intro s a1 h
  unfold State.rootDead
  repeat' first
    | with_reducible assumption | with_reducible apply State.childRetry_preserves
    | (with_reducible apply Preserves.each; intro _ _ _) | split | extract_lets

theorem State.canvasDieLost_preserves {r : State} : ∀ (s : State) a1,
    Preserves r s → Preserves r (State.canvasDieLost s a1) := by
  intro s a1 h
  unfold State.canvasDieLost
  repeat' first
    | with_reducible assumption | with_reducible apply State.canvasEngines_preserves
    | with_reducible apply State.voidSeg_preserves | with_reducible apply State.setCtx_preserves
    | (with_reducible apply Preserves.each; intro _ _ _) | split | extract_lets

theorem State.sendPhaseMark_preserves {r : State} : ∀ (s : State) a1 a2 a3 a4 a5 a6 a7,
    Preserves r s → Preserves r (State.sendPhaseMark s a1 a2 a3 a4 a5 a6 a7) := by
  intro s a1 a2 a3 a4 a5 a6 a7 h
  unfold State.sendPhaseMark
  repeat' first
    | with_reducible assumption | with_reducible apply State.bump_preserves
    | with_reducible apply State.originate_preserves | with_reducible apply State.setCtx_preserves | split

theorem State.takeMark_preserves {r : State} : ∀ (s : State) a1 a2,
    Preserves r s → Preserves r (State.takeMark s a1 a2) :=
  fun _ _ _ h => Preserves.through (State.takeMark_within _ _ _) rfl h

theorem State.issueMarks_preserves {r : State} : ∀ (s : State) a1 a2 a3,
    Preserves r s → Preserves r (State.issueMarks s a1 a2 a3) := by
  intro s a1 a2 a3 h
  unfold State.issueMarks
  repeat' first
    | with_reducible assumption | with_reducible apply State.sendPhaseMark_preserves
    | with_reducible apply State.takeMark_preserves | with_reducible apply State.setCtx_preserves
    | (with_reducible apply Preserves.each; intro _ _ _)

theorem State.noteTerms_preserves {r : State} : ∀ (s : State) a1 a2,
    Preserves r s → Preserves r (State.noteTerms s a1 a2) :=
  fun _ _ _ h => Preserves.through (State.noteTerms_within _ _ _) rfl h

theorem State.discards_preserves {r : State} : ∀ (s : State) a1 a2 a3,
    Preserves r s → Preserves r (State.discards s a1 a2 a3) := by
  intro s a1 a2 a3 h
  unfold State.discards
  repeat' first
    | with_reducible assumption | with_reducible apply State.bump_preserves
    | with_reducible apply State.noteTerms_preserves

theorem State.freeContribs_preserves {r : State} : ∀ (s : State) a1,
    Preserves r s → Preserves r (State.freeContribs s a1) :=
  fun _ _ h => Preserves.through (State.freeContribs_within _ _) rfl h

theorem State.segDone_preserves {r : State} : ∀ (s : State) a1 a2 a3,
    Preserves r s → Preserves r (State.segDone s a1 a2 a3) := by
  intro s a1 a2 a3 h
  unfold State.segDone
  repeat' first
    | with_reducible assumption | with_reducible apply State.setSeg_preserves
    | with_reducible apply State.freeContribs_preserves | with_reducible apply State.discards_preserves | split

theorem State.issueRoot_preserves {r : State} : ∀ (s : State) a1 a2,
    Preserves r s → Preserves r (State.issueRoot s a1 a2) := by
  intro s a1 a2 h
  unfold State.issueRoot
  repeat' first
    | with_reducible assumption | with_reducible apply State.issueMarks_preserves
    | with_reducible apply State.segDone_preserves | with_reducible apply State.sendResult_preserves | split

theorem State.advance_preserves {r : State} : ∀ a0 a1 (s : State),
    Preserves r s → Preserves r (State.advance a0 a1 s) := by
  intro a0 a1 s
  induction a1 generalizing a0 s with
  | zero => intro h; unfold State.advance; exact h
  | succ x ih =>
  intro h
  unfold State.advance
  repeat' first
    | with_reducible assumption | refine ih _ _ ?_ | with_reducible apply State.issueRoot_preserves
    | with_reducible apply State.setCtx_preserves | split | extract_lets

theorem State.rewriteCtx_preserves {r : State} : ∀ (s : State) a1 a2 a3,
    Preserves r s → Preserves r (State.rewriteCtx s a1 a2 a3) := by
  intro s a1 a2 a3 h
  unfold State.rewriteCtx
  repeat' first
    | with_reducible assumption | with_reducible apply State.redispatch_preserves
    | with_reducible apply State.raise_preserves | with_reducible apply State.setCtx_preserves | split
    | extract_lets

theorem State.deleteCtx_preserves {r : State} : ∀ (s : State) a1,
    Preserves r s → Preserves r (State.deleteCtx s a1) := by
  intro s a1 h
  unfold State.deleteCtx
  repeat' first
    | with_reducible assumption | with_reducible apply State.bump_preserves
    | with_reducible apply State.segDone_preserves | with_reducible apply State.freeContribs_preserves
    | with_reducible apply State.noteTerms_preserves | with_reducible apply State.setCtx_preserves
    | (with_reducible apply Preserves.each; intro _ _ _)

theorem State.activate_preserves {r : State} : ∀ (s : State) a1 a2,
    Preserves r s → Preserves r (State.activate s a1 a2) :=
  fun _ _ _ h => Preserves.through (State.activate_within _ _ _) rfl h

theorem State.epochCtx_preserves {r : State} : ∀ (s : State) a1 a2,
    Preserves r s → Preserves r (State.epochCtx s a1 a2) := by
  intro s a1 a2 h
  unfold State.epochCtx
  repeat' first
    | with_reducible assumption | with_reducible apply State.rewriteCtx_preserves
    | with_reducible apply State.activate_preserves | with_reducible apply State.deleteCtx_preserves | split
    | extract_lets

theorem State.canvasEpoch_preserves {r : State} : ∀ (s : State) a1,
    Preserves r s → Preserves r (State.canvasEpoch s a1) := by
  intro s a1 h
  unfold State.canvasEpoch
  repeat' first
    | with_reducible assumption | with_reducible apply State.epochCtx_preserves
    | with_reducible apply State.canvasEngines_preserves | (with_reducible apply Preserves.each; intro _ _ _)

theorem State.countDiscard_preserves {r : State} : ∀ (s : State) a1 a2 a3,
    Preserves r s → Preserves r (State.countDiscard s a1 a2 a3) := by
  intro s a1 a2 a3 h
  unfold State.countDiscard
  repeat' first
    | with_reducible assumption | with_reducible apply State.bumpPort_preserves
    | with_reducible apply State.discards_preserves | split

theorem State.takeSpace_preserves {r : State} : ∀ (s : State) a1 a2 a3,
    Preserves r s → Preserves r (State.takeSpace s a1 a2 a3) :=
  fun _ _ _ _ h => Preserves.through (State.takeSpace_within _ _ _ _) rfl h

theorem State.stage_preserves {r : State} : ∀ (s : State) a1 a2 a3 a4,
    Preserves r s → Preserves r (State.stage s a1 a2 a3 a4) := by
  intro s a1 a2 a3 a4 h
  unfold State.stage
  repeat' first
    | with_reducible assumption | with_reducible apply State.bump_preserves
    | with_reducible apply State.setSeg_preserves | with_reducible apply State.dispatchSeg_preserves
    | with_reducible apply State.takeSpace_preserves | split

theorem State.ingest_preserves {r : State} : ∀ (s : State) a1, ∀ t, State.ingest s a1 = some t →
    Preserves r s → Preserves r t := by
  intro s a1
  unfold State.ingest
  repeat' first
    | with_reducible assumption | with_reducible apply State.stage_preserves
    | with_reducible apply State.countDiscard_preserves | with_reducible apply State.noteTerms_preserves | split
    | extract_lets | with_reducible intro _ | with_reducible show Preserves _ (ite _ _ _) | contradiction
    | (cases ‹some _ = some _›) | (obtain ⟨_, _, rfl⟩ := Option.map_eq_some_iff.mp ‹_›)

theorem State.observe_preserves {r : State} : ∀ (s : State) a1, Preserves r s → Preserves r (State.observe s a1) := by
  intro s a1 h
  unfold State.observe
  repeat' first
    | with_reducible assumption | with_reducible apply State.setSeg_preserves
    | with_reducible apply State.segDone_preserves | with_reducible apply State.clearHeld_preserves
    | with_reducible apply State.advance_preserves | split | extract_lets

theorem State.setEngine_preserves {r : State} : ∀ (s : State) a1 a2,
    Preserves r s → Preserves r (State.setEngine s a1 a2) :=
  fun _ _ _ h => Preserves.through (State.setEngine_within _ _ _) rfl h

/-! ## Machine/PalOps.lean -/

theorem State.accrueOne_preserves {r : State} : ∀ (s : State) a1,
    Preserves r s → Preserves r (State.accrueOne s a1) := by
  intro s a1 h
  unfold State.accrueOne
  repeat' first
    | with_reducible assumption | with_reducible apply State.bump_preserves
    | with_reducible apply State.updDie_preserves | with_reducible apply State.setEngine_preserves | split
    | extract_lets

theorem State.setEngState_preserves {r : State} : ∀ (s : State) a1 a2,
    Preserves r s → Preserves r (State.setEngState s a1 a2) := by
  intro s a1 a2 h
  unfold State.setEngState
  repeat' first
    | with_reducible assumption | with_reducible apply State.raise_preserves
    | with_reducible apply State.setEngine_preserves | with_reducible apply State.accrueOne_preserves
    | with_reducible apply State.canvasEngines_preserves | split | extract_lets

theorem State.enterTarget_preserves {r : State} : ∀ (s : State) a1,
    Preserves r s → Preserves r (State.enterTarget s a1) := by
  intro s a1 h
  unfold State.enterTarget
  repeat' first
    | with_reducible assumption | with_reducible apply State.setEngState_preserves
    | with_reducible apply State.setEngine_preserves | split | extract_lets

theorem State.startRamp_preserves {r : State} : ∀ (s : State) a1,
    Preserves r s → Preserves r (State.startRamp s a1) := by
  intro s a1 h
  unfold State.startRamp
  repeat' first
    | with_reducible assumption | with_reducible apply State.bump_preserves
    | with_reducible apply State.setEngState_preserves | with_reducible apply State.setEngine_preserves
    | with_reducible apply State.enterTarget_preserves | with_reducible apply State.accrueOne_preserves | split
    | extract_lets

theorem State.shedFiller_preserves {r : State} : ∀ (s : State) a1,
    Preserves r s → Preserves r (State.shedFiller s a1) := by
  intro s a1 h
  unfold State.shedFiller
  repeat' first
    | with_reducible assumption | with_reducible apply State.startRamp_preserves
    | (with_reducible apply Preserves.each; intro _ _ _) | split

theorem State.accrue_preserves {r : State} : ∀ (s : State) a1, Preserves r s → Preserves r (State.accrue s a1) := by
  intro s a1 h
  unfold State.accrue
  repeat' first
    | with_reducible assumption | with_reducible apply State.shedFiller_preserves
    | with_reducible apply State.accrueOne_preserves

theorem State.gap_preserves {r : State} : ∀ (s : State) a1, Preserves r s → Preserves r (State.gap s a1) := by
  intro s a1 h
  unfold State.gap
  repeat' first
    | with_reducible assumption | with_reducible apply State.accrue_preserves
    | with_reducible apply State.setEngState_preserves | with_reducible apply State.setEngine_preserves
    | with_reducible apply State.tick_preserves | with_reducible apply State.startRamp_preserves | split

theorem State.cutBudget_preserves {r : State} : ∀ (s : State) a1,
    Preserves r s → Preserves r (State.cutBudget s a1) := by
  intro s a1 h
  unfold State.cutBudget
  repeat' first
    | with_reducible assumption | with_reducible apply State.updDie_preserves
    | with_reducible apply State.shedFiller_preserves | split | extract_lets

theorem State.cutBudgets_preserves {r : State} : ∀ (s : State), Preserves r s → Preserves r (State.cutBudgets s) := by
  intro s h
  unfold State.cutBudgets
  repeat' first
    | with_reducible assumption | with_reducible apply State.cutBudget_preserves
    | (with_reducible apply Preserves.each; intro _ _ _)

theorem State.engineReady_preserves {r : State} : ∀ (s : State) a1,
    Preserves r s → Preserves r (State.engineReady s a1) := by
  intro s a1 h
  unfold State.engineReady
  repeat' first
    | with_reducible assumption | with_reducible apply State.accrue_preserves
    | with_reducible apply State.setEngState_preserves | with_reducible apply State.setEngine_preserves

theorem State.unpark_preserves {r : State} : ∀ (s : State) a1, Preserves r s → Preserves r (State.unpark s a1) := by
  intro s a1 h
  unfold State.unpark
  repeat' first
    | with_reducible assumption | with_reducible apply State.engineReady_preserves
    | with_reducible apply State.setEngState_preserves | split | extract_lets | with_reducible intro _
    | with_reducible show Preserves _ (ite _ _ _)

theorem State.quiesce_preserves {r : State} : ∀ (s : State) a1, Preserves r s → Preserves r (State.quiesce s a1) := by
  intro s a1 h
  unfold State.quiesce
  repeat' first
    | with_reducible assumption | with_reducible apply State.enterTarget_preserves
    | with_reducible apply State.startRamp_preserves | split | extract_lets

theorem State.retarget_preserves {r : State} : ∀ (s : State) a1,
    Preserves r s → Preserves r (State.retarget s a1) := by
  intro s a1 h
  unfold State.retarget
  repeat' first
    | with_reducible assumption | with_reducible apply State.unpark_preserves
    | with_reducible apply State.quiesce_preserves | with_reducible apply State.setEngine_preserves | split
    | extract_lets

theorem State.setBudget_preserves {r : State} : ∀ (s : State) a1 a2,
    Preserves r s → Preserves r (State.setBudget s a1 a2) := by
  intro s a1 a2 h
  unfold State.setBudget
  repeat' first
    | with_reducible assumption | with_reducible apply State.wr_preserves

theorem State.startWindow_preserves {r : State} : ∀ (s : State) a1 a2,
    Preserves r s → Preserves r (State.startWindow s a1 a2) := by
  intro s a1 a2 h
  unfold State.startWindow
  repeat' first
    | with_reducible assumption | with_reducible apply State.updDie_preserves
    | with_reducible apply State.shedFiller_preserves | with_reducible apply State.setBudget_preserves

theorem State.rampDown_preserves {r : State} : ∀ (s : State) a1,
    Preserves r s → Preserves r (State.rampDown s a1) := by
  intro s a1 h
  unfold State.rampDown
  repeat' first
    | with_reducible assumption | with_reducible apply State.bump_preserves
    | with_reducible apply State.setEngine_preserves | split | extract_lets

theorem State.partErr_preserves {r : State} : ∀ (s : State) a1 a2 a3 a4,
    Preserves r s → Preserves r (State.partErr s a1 a2 a3 a4) :=
  fun _ _ _ _ _ h => Preserves.through (State.partErr_within _ _ _ _ _) rfl h

theorem State.faultStop_preserves {r : State} : ∀ (s : State) a1 a2 a3,
    Preserves r s → Preserves r (State.faultStop s a1 a2 a3) := by
  intro s a1 a2 a3 h
  unfold State.faultStop
  repeat' first
    | with_reducible assumption | with_reducible apply State.bump_preserves
    | with_reducible apply State.accrue_preserves | with_reducible apply State.setF_preserves
    | with_reducible apply State.partErr_preserves | with_reducible apply State.setEngState_preserves
    | with_reducible apply State.rampDown_preserves | with_reducible apply State.raise_preserves
    | with_reducible apply State.setEngine_preserves | split

theorem State.retireGroup_preserves {r : State} : ∀ (s : State) a1 a2,
    Preserves r s → Preserves r (State.retireGroup s a1 a2) := by
  intro s a1 a2 h
  unfold State.retireGroup
  repeat' first
    | with_reducible assumption | with_reducible apply State.setF_preserves
    | with_reducible apply State.setEngine_preserves | split | extract_lets | with_reducible intro _
    | with_reducible show Preserves _ (ite _ _ _)

theorem State.returnGroup_preserves {r : State} : ∀ (s : State) a1 a2,
    Preserves r s → Preserves r (State.returnGroup s a1 a2) := by
  intro s a1 a2 h
  unfold State.returnGroup
  repeat' first
    | with_reducible assumption | with_reducible apply State.setF_preserves
    | with_reducible apply State.setEngine_preserves | split | extract_lets | with_reducible intro _
    | with_reducible show Preserves _ (ite _ _ _)

/-! ## Machine/Canvas.lean -/

theorem State.endSeg_preserves {r : State} : ∀ (s : State) a1 a2,
    Preserves r s → Preserves r (State.endSeg s a1 a2) := by
  intro s a1 a2 h
  unfold State.endSeg
  repeat' first
    | with_reducible assumption | with_reducible apply State.setSeg_preserves
    | with_reducible apply State.segDone_preserves

theorem State.forceSeg_preserves {r : State} : ∀ (s : State) a1 a2,
    Preserves r s → Preserves r (State.forceSeg s a1 a2) := by
  intro s a1 a2 h
  unfold State.forceSeg
  repeat' first
    | with_reducible assumption | with_reducible apply State.settleSeg_preserves
    | with_reducible apply State.setSeg_preserves | with_reducible apply State.dispatchSeg_preserves
    | with_reducible apply State.voidSeg_preserves | split | extract_lets

theorem State.notePruned_preserves {r : State} : ∀ (s : State) a1 a2,
    Preserves r s → Preserves r (State.notePruned s a1 a2) := by
  intro s a1 a2 h
  unfold State.notePruned
  repeat' first
    | with_reducible assumption | with_reducible apply State.bump_preserves
    | with_reducible apply State.setCtx_preserves | split | extract_lets | with_reducible intro _
    | with_reducible show Preserves _ (ite _ _ _)

theorem State.takeContrib_preserves {r : State} : ∀ (s : State),
    Preserves r s → Preserves r (State.takeContrib s) := by
  intro s h
  unfold State.takeContrib
  repeat' first
    | with_reducible assumption | with_reducible apply State.unitTake_preserves
    | with_reducible refine State.ingest_preserves _ _ _ (by assumption) ?_ | split

theorem execCnvWriteShadow_preserves {r : State} : ∀ a0 (s : State),
    Preserves r s → PreservesNext r (execCnvWriteShadow a0 s) := by
  intro a0 s h
  unfold execCnvWriteShadow
  repeat' first
    | with_reducible assumption | with_reducible apply State.gate_preserves
    | with_reducible apply State.status_preserves | with_reducible apply PreservesNext.ok
    | exact PreservesNext.fault _ | split | extract_lets
    | ((fail_if_success with_reducible apply Preserves.upd_pending); with_reducible apply Preserves.upd_canvas)
    | with_reducible intro _ | with_reducible show Preserves _ (ite _ _ _)

theorem execCnvReadShadow_preserves {r : State} : ∀ a0 (s : State),
    Preserves r s → PreservesNext r (execCnvReadShadow a0 s) := by
  intro a0 s h
  unfold execCnvReadShadow
  repeat' first
    | with_reducible assumption | with_reducible apply State.wrWords_preserves
    | with_reducible apply State.gate_preserves | with_reducible apply State.status_preserves
    | with_reducible apply PreservesNext.ok | exact PreservesNext.fault _ | split | extract_lets
    | with_reducible intro _

theorem execCnvForce_preserves {r : State} : ∀ a0 (s : State),
    Preserves r s → PreservesNext r (execCnvForce a0 s) := by
  intro a0 s h
  unfold execCnvForce
  repeat' first
    | with_reducible assumption | with_reducible apply State.gate_preserves
    | with_reducible apply State.forceSeg_preserves | with_reducible apply State.status_preserves
    | with_reducible apply PreservesNext.ok | exact PreservesNext.fault _
    | (with_reducible apply Preserves.each; intro _ _ _) | split | extract_lets | with_reducible intro _

theorem execCnvReadStatus_preserves {r : State} : ∀ a0 (s : State),
    Preserves r s → PreservesNext r (execCnvReadStatus a0 s) := by
  intro a0 s h
  unfold execCnvReadStatus
  repeat' first
    | with_reducible assumption | with_reducible apply State.wrWords_preserves
    | with_reducible apply State.gate_preserves | with_reducible apply State.status_preserves
    | with_reducible apply PreservesNext.ok | exact PreservesNext.fault _ | split | extract_lets
    | with_reducible intro _

theorem execCnvReadActive_preserves {r : State} : ∀ a0 (s : State),
    Preserves r s → PreservesNext r (execCnvReadActive a0 s) := by
  intro a0 s h
  unfold execCnvReadActive
  repeat' first
    | with_reducible assumption | with_reducible apply State.wrWords_preserves
    | with_reducible apply State.gate_preserves | with_reducible apply State.status_preserves
    | with_reducible apply PreservesNext.ok | exact PreservesNext.fault _ | split | extract_lets
    | with_reducible intro _

theorem execSegmentTimeout_preserves {r : State} : ∀ a0 a1 a2 (s : State),
    Preserves r s → PreservesNext r (execSegmentTimeout a0 a1 a2 s) := by
  intro a0 a1 a2 s h
  unfold execSegmentTimeout
  repeat' first
    | with_reducible assumption | with_reducible apply State.settleSeg_preserves
    | with_reducible apply State.setSeg_preserves | with_reducible apply State.dispatchSeg_preserves
    | with_reducible apply State.reach_preserves | with_reducible apply PreservesNext.ok
    | exact PreservesNext.fault _ | split | extract_lets

theorem execChildResultTimeout_preserves {r : State} : ∀ a0 a1 a2 (s : State),
    Preserves r s → PreservesNext r (execChildResultTimeout a0 a1 a2 s) := by
  intro a0 a1 a2 s h
  unfold execChildResultTimeout
  repeat' first
    | with_reducible assumption | with_reducible apply State.childRetry_preserves
    | with_reducible apply State.reach_preserves | with_reducible apply PreservesNext.ok
    | exact PreservesNext.fault _ | split | extract_lets

theorem execBatchFolded_preserves {r : State} : ∀ a0 a1 a2 (s : State),
    Preserves r s → PreservesNext r (execBatchFolded a0 a1 a2 s) := by
  intro a0 a1 a2 s h
  unfold execBatchFolded
  repeat' first
    | with_reducible assumption | with_reducible apply State.settleSeg_preserves
    | with_reducible apply State.bump_preserves | with_reducible apply State.setSeg_preserves
    | with_reducible apply State.freeContribs_preserves | with_reducible apply State.noteTerms_preserves
    | with_reducible apply PreservesNext.ok | exact PreservesNext.fault _ | split | extract_lets

theorem execPhaseMarkReceive_preserves {r : State} : ∀ (s : State),
    Preserves r s → PreservesNext r (execPhaseMarkReceive s) := by
  intro s h
  unfold execPhaseMarkReceive
  repeat' first
    | with_reducible assumption | with_reducible apply State.bump_preserves
    | with_reducible apply State.takeMark_preserves | with_reducible apply State.unitTake_preserves
    | with_reducible apply State.setCtx_preserves | with_reducible apply PreservesNext.ok
    | exact PreservesNext.fault _ | split | extract_lets | with_reducible intro _
    | with_reducible show Preserves _ (ite _ _ _)

theorem execRecoverCopyDone_preserves {r : State} : ∀ a0 (s : State),
    Preserves r s → PreservesNext r (execRecoverCopyDone a0 s) := by
  intro a0 s h
  unfold execRecoverCopyDone
  repeat' first
    | with_reducible assumption | with_reducible apply State.leaveRecover_preserves
    | with_reducible apply PreservesNext.ok | exact PreservesNext.fault _ | split | extract_lets

theorem execContextFreed_preserves {r : State} : ∀ a0 (s : State),
    Preserves r s → PreservesNext r (execContextFreed a0 s) := by
  intro a0 s h
  unfold execContextFreed
  repeat' first
    | with_reducible assumption | with_reducible apply State.raise_preserves
    | with_reducible apply State.setCtx_preserves | with_reducible apply PreservesNext.ok
    | exact PreservesNext.fault _ | split | extract_lets

theorem execCanvasIngestRetry_preserves {r : State} : ∀ (s : State),
    Preserves r s → PreservesNext r (execCanvasIngestRetry s) := by
  intro s h
  unfold execCanvasIngestRetry
  repeat' first
    | with_reducible assumption | with_reducible apply State.takeContrib_preserves
    | with_reducible apply State.schedule_preserves | with_reducible apply PreservesNext.ok
    | exact PreservesNext.fault _ | split

theorem execBatchWaitExpiry_preserves {r : State} : ∀ a0 a1 a2 (s : State),
    Preserves r s → PreservesNext r (execBatchWaitExpiry a0 a1 a2 s) := by
  intro a0 a1 a2 s h
  unfold execBatchWaitExpiry
  repeat' first
    | with_reducible assumption | with_reducible apply State.dispatchSeg_preserves
    | with_reducible apply State.reach_preserves | with_reducible apply PreservesNext.ok
    | exact PreservesNext.fault _ | split | extract_lets

theorem State.sendPartial_preserves {r : State} : ∀ (s : State) a1 a2 a3,
    Preserves r s → Preserves r (State.sendPartial s a1 a2 a3) :=
  fun _ _ _ _ h => Preserves.through (State.sendPartial_within _ _ _ _) rfl h

theorem execSegmentEncodeDone_preserves {r : State} : ∀ a0 a1 a2 (s : State),
    Preserves r s → PreservesNext r (execSegmentEncodeDone a0 a1 a2 s) := by
  intro a0 a1 a2 s h
  unfold execSegmentEncodeDone
  repeat' first
    | with_reducible assumption | with_reducible apply State.endSeg_preserves
    | with_reducible apply State.setSeg_preserves | with_reducible apply State.issueRoot_preserves
    | with_reducible apply State.sendPartial_preserves | with_reducible apply State.sendResult_preserves
    | with_reducible apply State.advance_preserves | with_reducible apply PreservesNext.ok
    | exact PreservesNext.fault _ | split | extract_lets

theorem execMcastReplicate_preserves {r : State} : ∀ (s : State),
    Preserves r s → PreservesNext r (execMcastReplicate s) := by
  intro s h
  unfold execMcastReplicate
  repeat' first
    | with_reducible assumption | with_reducible apply State.observe_preserves
    | with_reducible apply State.replicate_preserves | with_reducible apply State.notePruned_preserves
    | with_reducible apply PreservesNext.ok | exact PreservesNext.fault _ | split | extract_lets
    | ((fail_if_success with_reducible apply Preserves.upd_pending); with_reducible apply Preserves.upd_dp)

theorem execContribReceive_preserves {r : State} : ∀ (s : State),
    Preserves r s → PreservesNext r (execContribReceive s) := by
  intro s h
  unfold execContribReceive
  repeat' first
    | with_reducible assumption | with_reducible apply State.takeContrib_preserves
    | with_reducible apply PreservesNext.ok

theorem execCanvasBatchAdmit_preserves {r : State} : ∀ a0 a1 a2 (s : State),
    Preserves r s → PreservesNext r (execCanvasBatchAdmit a0 a1 a2 s) := by
  intro a0 a1 a2 s h
  unfold execCanvasBatchAdmit
  repeat' first
    | with_reducible assumption | with_reducible apply State.updDie_preserves
    | with_reducible apply State.shedFiller_preserves | with_reducible apply State.setSeg_preserves
    | with_reducible apply PreservesNext.ok | exact PreservesNext.fault _ | split | extract_lets

theorem State.setPalRing_preserves {r : State} : ∀ (s : State) a1 a2,
    Preserves r s → Preserves r (State.setPalRing s a1 a2) :=
  fun _ _ _ h => Preserves.through (State.setPalRing_within _ _ _) rfl h

/-! ## Machine/PalLists.lean -/

theorem State.homeLost_preserves {r : State} : ∀ (s : State) a1,
    Preserves r s → Preserves r (State.homeLost s a1) := by
  intro s a1 h
  unfold State.homeLost
  repeat' first
    | with_reducible assumption | with_reducible apply State.setPalRing_preserves
    | with_reducible apply State.raise_preserves | with_reducible apply State.setEngine_preserves
    | with_reducible apply State.gap_preserves | (with_reducible apply Preserves.each; intro _ _ _) | split
    | extract_lets

theorem State.suspendList_preserves {r : State} : ∀ (s : State) a1,
    Preserves r s → Preserves r (State.suspendList s a1) := by
  intro s a1 h
  unfold State.suspendList
  repeat' first
    | with_reducible assumption | with_reducible apply State.accrue_preserves
    | with_reducible apply State.setEngine_preserves

theorem State.setDbWord_preserves {r : State} : ∀ (s : State) a1 a2 a3,
    Preserves r s → Preserves r (State.setDbWord s a1 a2 a3) := by
  intro s a1 a2 a3 h
  unfold State.setDbWord
  repeat' first
    | with_reducible assumption | with_reducible apply State.writeBytes_preserves

theorem State.writeRecord_preserves {r : State} : ∀ (s : State) a1 a2,
    Preserves r s → Preserves r (State.writeRecord s a1 a2) := by
  intro s a1 a2 h
  unfold State.writeRecord
  repeat' first
    | with_reducible assumption | with_reducible apply State.setPalRing_preserves
    | with_reducible apply State.writeBytes_preserves | with_reducible apply State.setDbWord_preserves | split
    | extract_lets

theorem State.advanceCi_preserves {r : State} : ∀ (s : State) a1 a2,
    Preserves r s → Preserves r (State.advanceCi s a1 a2) := by
  intro s a1 a2 h
  unfold State.advanceCi
  repeat' first
    | with_reducible assumption | with_reducible apply State.setPalRing_preserves
    | with_reducible apply State.setDbWord_preserves | split | extract_lets

theorem State.ringFails_preserves {r : State} : ∀ (s : State) a1 a2 a3 a4 a5 a6,
    Preserves r s → Preserves r (State.ringFails s a1 a2 a3 a4 a5 a6) := by
  intro s a1 a2 a3 a4 a5 a6 h
  unfold State.ringFails
  repeat' first
    | with_reducible assumption | with_reducible apply State.writeRecord_preserves
    | with_reducible apply State.bump_preserves | with_reducible apply State.setPalRing_preserves
    | with_reducible apply State.raise_preserves | with_reducible apply State.advanceCi_preserves
    | with_reducible apply State.setDbWord_preserves | split

theorem PRing.updated_preserves {r : State} : ∀ (s : State) a1 a2,
    Preserves r s → Preserves r (PRing.updated s a1 a2) :=
  fun _ _ _ h => Preserves.through (PRing.updated_within _ _ _) rfl h

theorem State.failRunning_preserves {r : State} : ∀ (s : State) a1 a2 a3 a4,
    Preserves r s → Preserves r (State.failRunning s a1 a2 a3 a4) := by
  intro s a1 a2 a3 a4 h
  unfold State.failRunning
  repeat' first
    | with_reducible assumption | with_reducible apply State.ringFails_preserves
    | with_reducible apply PRing.updated_preserves

theorem State.failSuspended_preserves {r : State} : ∀ (s : State) a1,
    Preserves r s → Preserves r (State.failSuspended s a1) := by
  intro s a1 h
  unfold State.failSuspended
  repeat' first
    | with_reducible assumption | with_reducible apply State.failRunning_preserves
    | with_reducible apply State.setEngine_preserves | (with_reducible apply Preserves.each; intro _ _ _)

theorem State.suspendRun_preserves {r : State} : ∀ (s : State) a1,
    Preserves r s → Preserves r (State.suspendRun s a1) := by
  intro s a1 h
  unfold State.suspendRun
  repeat' first
    | with_reducible assumption | with_reducible apply State.suspendList_preserves
    | with_reducible apply State.failSuspended_preserves

theorem State.rehomeRings_preserves {r : State} : ∀ (s : State) a1,
    Preserves r s → Preserves r (State.rehomeRings s a1) :=
  fun _ _ h => Preserves.through (State.rehomeRings_within _ _) rfl h

theorem State.engineLost_preserves {r : State} : ∀ (s : State) a1,
    Preserves r s → Preserves r (State.engineLost s a1) := by
  intro s a1 h
  unfold State.engineLost
  repeat' first
    | with_reducible assumption | with_reducible apply State.suspendRun_preserves
    | with_reducible apply State.rehomeRings_preserves

theorem State.rejectList_preserves {r : State} : ∀ (s : State) a1 a2 a3 a4 a5,
    Preserves r s → Preserves r (State.rejectList s a1 a2 a3 a4 a5) := by
  intro s a1 a2 a3 a4 a5 h
  unfold State.rejectList
  repeat' first
    | with_reducible assumption | with_reducible apply State.ringFails_preserves

theorem State.placeNext_preserves {r : State} : ∀ (s : State) a1,
    Preserves r s → Preserves r (State.placeNext s a1) := by
  intro s a1 h
  unfold State.placeNext
  repeat' first
    | with_reducible assumption | with_reducible apply State.rejectList_preserves
    | with_reducible apply State.setPalRing_preserves | with_reducible apply State.setEngine_preserves | split
    | extract_lets

theorem State.fillQueue_preserves {r : State} : ∀ (s : State) a1 a2,
    Preserves r s → Preserves r (State.fillQueue s a1 a2) := by
  intro s a1 a2 h
  unfold State.fillQueue
  repeat' first
    | with_reducible assumption | with_reducible apply State.placeNext_preserves
    | (with_reducible apply Preserves.each; intro _ _ _) | split | extract_lets

theorem State.refreshCands_preserves {r : State} : ∀ (s : State) a1,
    Preserves r s → Preserves r (State.refreshCands s a1) :=
  fun _ _ h => Preserves.through (State.refreshCands_within _ _) rfl h

theorem State.afterList_preserves {r : State} : ∀ (s : State) a1 a2 a3,
    Preserves r s → Preserves r (State.afterList s a1 a2 a3) := by
  intro s a1 a2 a3 h
  unfold State.afterList
  repeat' first
    | with_reducible assumption | with_reducible apply State.quiesce_preserves
    | with_reducible apply State.fillQueue_preserves | with_reducible apply State.gap_preserves
    | with_reducible apply State.placeNext_preserves | with_reducible apply State.refreshCands_preserves | split
    | extract_lets

theorem State.afterOffline_preserves {r : State} : ∀ (s : State) a1,
    Preserves r s → Preserves r (State.afterOffline s a1) := by
  intro s a1 h
  unfold State.afterOffline
  repeat' first
    | with_reducible assumption | with_reducible apply State.endMaint_preserves
    | with_reducible apply State.setEngine_preserves | with_reducible apply State.engineLost_preserves | split

theorem State.listFail_preserves {r : State} : ∀ (s : State) a1 a2 a3,
    Preserves r s → Preserves r (State.listFail s a1 a2 a3) := by
  intro s a1 a2 a3 h
  unfold State.listFail
  repeat' first
    | with_reducible assumption | with_reducible apply State.afterList_preserves
    | with_reducible apply State.accrue_preserves | with_reducible apply State.failRunning_preserves
    | with_reducible apply State.setEngine_preserves | split | extract_lets

theorem State.rehomeAll_preserves {r : State} : ∀ (s : State), Preserves r s → Preserves r (State.rehomeAll s) :=
  fun _ h => Preserves.through (State.rehomeAll_within _) rfl h

theorem State.engineBack_preserves {r : State} : ∀ (s : State) a1,
    Preserves r s → Preserves r (State.engineBack s a1) := by
  intro s a1 h
  unfold State.engineBack
  repeat' first
    | with_reducible assumption | with_reducible apply State.setPalRing_preserves
    | with_reducible apply State.rehomeAll_preserves | with_reducible apply State.placeNext_preserves
    | with_reducible apply State.refreshCands_preserves | (with_reducible apply Preserves.each; intro _ _ _)
    | split | extract_lets

theorem State.listDone_preserves {r : State} : ∀ (s : State) a1 a2 a3,
    Preserves r s → Preserves r (State.listDone s a1 a2 a3) := by
  intro s a1 a2 a3 h
  unfold State.listDone
  repeat' first
    | with_reducible assumption | with_reducible apply State.writeRecord_preserves
    | with_reducible apply State.bump_preserves | with_reducible apply State.afterList_preserves
    | with_reducible apply State.accrue_preserves | with_reducible apply State.advanceCi_preserves
    | with_reducible apply State.setEngine_preserves | with_reducible apply PRing.updated_preserves | split
    | extract_lets

theorem State.resumeOn_preserves {r : State} : ∀ (s : State) a1 a2,
    Preserves r s → Preserves r (State.resumeOn s a1 a2) := by
  intro s a1 a2 h
  unfold State.resumeOn
  repeat' first
    | with_reducible assumption | with_reducible apply State.bump_preserves
    | with_reducible apply State.failRunning_preserves | with_reducible apply State.engineReady_preserves
    | with_reducible apply State.fillQueue_preserves | with_reducible apply State.setEngine_preserves
    | with_reducible apply State.placeNext_preserves | with_reducible apply PRing.updated_preserves | split

/-! ## Machine/PalEngine.lean -/

theorem State.startOffline_preserves {r : State} : ∀ a0 (s : State),
    Preserves r s → Preserves r (State.startOffline a0 s) := by
  intro a0 s h
  unfold State.startOffline
  repeat' first
    | with_reducible assumption | with_reducible apply State.afterOffline_preserves
    | with_reducible apply State.retarget_preserves | with_reducible apply State.setEngine_preserves | split
    | extract_lets

theorem State.laneBit_preserves {r : State} : ∀ (s : State) a1 a2 a3 a4,
    Preserves r s → Preserves r (State.laneBit s a1 a2 a3 a4) := by
  intro s a1 a2 a3 a4 h
  unfold State.laneBit
  repeat' first
    | with_reducible assumption | with_reducible apply State.requestMaint_preserves | split | extract_lets
    | with_reducible intro _ | with_reducible show Preserves _ (ite _ _ _)
    | ((with_reducible show Preserves _ (id _)); assumption)

theorem State.enterIdle_preserves {r : State} : ∀ (s : State) a1,
    Preserves r s → Preserves r (State.enterIdle s a1) := by
  intro s a1 h
  unfold State.enterIdle
  repeat' first
    | with_reducible assumption | with_reducible apply State.retarget_preserves
    | with_reducible apply State.setEngState_preserves | with_reducible apply State.setEngine_preserves
    | with_reducible apply State.engineBack_preserves

theorem State.laneShort_preserves {r : State} : ∀ (s : State) a1,
    Preserves r s → Preserves r (State.laneShort s a1) := by
  intro s a1 h
  unfold State.laneShort
  repeat' first
    | with_reducible assumption | with_reducible apply State.startOffline_preserves | split | extract_lets

theorem State.resumeAfterFault_preserves {r : State} : ∀ (s : State) a1,
    Preserves r s → Preserves r (State.resumeAfterFault s a1) := by
  intro s a1 h
  unfold State.resumeAfterFault
  repeat' first
    | with_reducible assumption | with_reducible apply State.resumeOn_preserves
    | with_reducible apply State.suspendRun_preserves | with_reducible apply State.setEngine_preserves | split
    | extract_lets

theorem execEngineParkRequest_preserves {r : State} : ∀ a0 (s : State),
    Preserves r s → PreservesNext r (execEngineParkRequest a0 s) := by
  intro a0 s h
  unfold execEngineParkRequest
  repeat' first
    | with_reducible assumption | with_reducible apply State.afterOffline_preserves
    | with_reducible apply State.setF_preserves | with_reducible apply State.retarget_preserves
    | with_reducible apply State.gate_preserves | with_reducible apply PreservesNext.ok
    | exact PreservesNext.fault _ | split | extract_lets | with_reducible intro _

theorem execEngineUnpark_preserves {r : State} : ∀ a0 (s : State),
    Preserves r s → PreservesNext r (execEngineUnpark a0 s) := by
  intro a0 s h
  unfold execEngineUnpark
  repeat' first
    | with_reducible assumption | with_reducible apply State.setF_preserves
    | with_reducible apply State.retarget_preserves | with_reducible apply State.gate_preserves
    | with_reducible apply PreservesNext.ok | exact PreservesNext.fault _ | split | extract_lets
    | with_reducible intro _

theorem State.startResume_preserves {r : State} : ∀ a0 (s : State),
    Preserves r s → Preserves r (State.startResume a0 s) :=
  fun _ _ h => Preserves.through (State.startResume_within _ _) rfl h

theorem execEngineResume_preserves {r : State} : ∀ a0 (s : State),
    Preserves r s → PreservesNext r (execEngineResume a0 s) := by
  intro a0 s h
  unfold execEngineResume
  repeat' first
    | with_reducible assumption | with_reducible apply State.startResume_preserves
    | with_reducible apply State.requestMaint_preserves | with_reducible apply State.gate_preserves
    | with_reducible apply PreservesNext.ok | exact PreservesNext.fault _ | split | extract_lets
    | with_reducible intro _

theorem execEngineOfflineRequest_preserves {r : State} : ∀ a0 (s : State),
    Preserves r s → PreservesNext r (execEngineOfflineRequest a0 s) := by
  intro a0 s h
  unfold execEngineOfflineRequest
  repeat' first
    | with_reducible assumption | with_reducible apply State.setF_preserves
    | with_reducible apply State.startOffline_preserves | with_reducible apply State.requestMaint_preserves
    | with_reducible apply State.gate_preserves | with_reducible apply PreservesNext.ok
    | exact PreservesNext.fault _ | split | extract_lets | with_reducible intro _

theorem execLaneRetireWrite_preserves {r : State} : ∀ a0 a1 (s : State),
    Preserves r s → PreservesNext r (execLaneRetireWrite a0 a1 s) := by
  intro a0 a1 s h
  unfold execLaneRetireWrite
  repeat' first
    | with_reducible assumption | with_reducible apply State.setF_preserves
    | with_reducible apply State.laneBit_preserves | with_reducible apply State.gate_preserves
    | with_reducible apply PreservesNext.ok | exact PreservesNext.fault _
    | (with_reducible apply Preserves.each; intro _ _ _) | split | extract_lets | with_reducible intro _

theorem execEngineScrubDone_preserves {r : State} : ∀ a0 (s : State),
    Preserves r s → PreservesNext r (execEngineScrubDone a0 s) := by
  intro a0 s h
  unfold execEngineScrubDone
  repeat' first
    | with_reducible assumption | with_reducible apply State.afterOffline_preserves
    | with_reducible apply State.enterIdle_preserves | with_reducible apply State.endMaint_preserves
    | with_reducible apply State.setEngState_preserves | with_reducible apply State.setEngine_preserves
    | with_reducible apply PreservesNext.ok | exact PreservesNext.fault _ | split | extract_lets

theorem execGovernorStep_preserves {r : State} : ∀ a0 a1 a2 (s : State),
    Preserves r s → PreservesNext r (execGovernorStep a0 a1 a2 s) := by
  intro a0 a1 a2 s h
  unfold execGovernorStep
  repeat' first
    | with_reducible assumption | with_reducible apply State.updDie_preserves
    | with_reducible apply State.accrue_preserves | with_reducible apply State.setEngine_preserves
    | with_reducible apply State.reach_preserves | with_reducible apply PreservesNext.ok
    | exact PreservesNext.fault _ | split | extract_lets

theorem execEngineFault_preserves {r : State} : ∀ a0 a1 a2 (s : State),
    Preserves r s → PreservesNext r (execEngineFault a0 a1 a2 s) := by
  intro a0 a1 a2 s h
  unfold execEngineFault
  repeat' first
    | with_reducible assumption | with_reducible apply State.bump_preserves
    | with_reducible apply State.faultStop_preserves | with_reducible apply State.partErr_preserves
    | with_reducible apply PreservesNext.ok | exact PreservesNext.fault _ | split

theorem execLaneGroupSwap_preserves {r : State} : ∀ a0 (s : State),
    Preserves r s → PreservesNext r (execLaneGroupSwap a0 s) := by
  intro a0 s h
  unfold execLaneGroupSwap
  repeat' first
    | with_reducible assumption | with_reducible apply State.endMaint_preserves
    | with_reducible apply State.laneShort_preserves | with_reducible apply State.retireGroup_preserves
    | with_reducible apply State.returnGroup_preserves | with_reducible apply PreservesNext.ok
    | exact PreservesNext.fault _ | (with_reducible apply Preserves.each; intro _ _ _) | split | extract_lets

theorem execRampStep_preserves {r : State} : ∀ a0 (s : State), Preserves r s → PreservesNext r (execRampStep a0 s) := by
  intro e s h
  have accrued (t : Nat) (x : Engine) : Preserves r (((s.reach t).accrue e).setEngine e x) :=
    State.setEngine_preserves _ _ _ (State.accrue_preserves _ _ (State.reach_preserves _ _ h))
  unfold execRampStep
  extract_lets
  split
  · exact .ok h
  · split
    · exact .ok (State.afterOffline_preserves _ _ (State.enterTarget_preserves _ _ (accrued _ _)))
    · exact .ok (accrued _ _)

theorem execEnergyWindowStart_preserves {r : State} : ∀ a0 (s : State),
    Preserves r s → PreservesNext r (execEnergyWindowStart a0 s) := by
  intro a0 s h
  unfold execEnergyWindowStart
  repeat' first
    | with_reducible assumption | with_reducible apply State.accrue_preserves
    | with_reducible apply State.startWindow_preserves | with_reducible apply State.reach_preserves
    | with_reducible apply PreservesNext.ok | exact PreservesNext.fault _ | split

theorem execKeepExpiry_preserves {r : State} : ∀ a0 (s : State),
    Preserves r s → PreservesNext r (execKeepExpiry a0 s) := by
  intro a0 s h
  unfold execKeepExpiry
  repeat' first
    | with_reducible assumption | with_reducible apply State.afterOffline_preserves
    | with_reducible apply State.reach_preserves | with_reducible apply State.startRamp_preserves
    | with_reducible apply PreservesNext.ok | exact PreservesNext.fault _ | split | extract_lets

theorem execWatchdogExpiry_preserves {r : State} : ∀ a0 (s : State),
    Preserves r s → PreservesNext r (execWatchdogExpiry a0 s) := by
  intro a0 s h
  unfold execWatchdogExpiry
  repeat' first
    | with_reducible assumption | with_reducible apply State.faultStop_preserves
    | with_reducible apply State.reach_preserves | with_reducible apply PreservesNext.ok
    | exact PreservesNext.fault _ | split | extract_lets

theorem State.resendBatches_preserves {r : State} : ∀ (s : State) a1,
    Preserves r s → Preserves r (State.resendBatches s a1) :=
  fun _ _ h => Preserves.through (State.resendBatches_within _ _) rfl h

theorem execEngineResetDone_preserves {r : State} : ∀ a0 (s : State),
    Preserves r s → PreservesNext r (execEngineResetDone a0 s) := by
  intro a0 s h
  unfold execEngineResetDone
  repeat' first
    | with_reducible assumption | with_reducible apply State.afterOffline_preserves
    | with_reducible apply State.resendBatches_preserves | with_reducible apply State.retarget_preserves
    | with_reducible apply State.resumeAfterFault_preserves | with_reducible apply State.retireGroup_preserves
    | with_reducible apply State.setEngState_preserves | with_reducible apply State.setEngine_preserves
    | with_reducible apply PreservesNext.ok | exact PreservesNext.fault _ | split | extract_lets
    | with_reducible intro _ | with_reducible show Preserves _ (ite _ _ _) | dsimp +zetaDelta only

/-! ## Machine/PalRings.lean -/

theorem State.admitList_preserves {r : State} : ∀ (s : State) a1 a2,
    Preserves r s → Preserves r (State.admitList s a1 a2) := by
  intro s a1 a2 h
  unfold State.admitList
  repeat' first
    | with_reducible assumption | with_reducible apply State.bump_preserves
    | with_reducible apply State.updDie_preserves | with_reducible apply State.accrue_preserves
    | with_reducible apply State.shedFiller_preserves | with_reducible apply State.engineReady_preserves
    | with_reducible apply State.fillQueue_preserves | with_reducible apply State.setEngine_preserves
    | with_reducible apply State.refreshCands_preserves | with_reducible apply PRing.updated_preserves | split
    | extract_lets

theorem State.enableRing_preserves {r : State} : ∀ (s : State) a1 a2,
    Preserves r s → Preserves r (State.enableRing s a1 a2) := by
  intro s a1 a2 h
  unfold State.enableRing
  repeat' first
    | with_reducible assumption | with_reducible apply State.setPalRing_preserves
    | with_reducible apply State.setDbWord_preserves | split | extract_lets

theorem State.moveRing_preserves {r : State} : ∀ (s : State) a1 a2 a3 a4,
    Preserves r s → Preserves r (State.moveRing s a1 a2 a3 a4) :=
  fun _ _ _ _ _ h => Preserves.through (State.moveRing_within _ _ _ _ _) rfl h

theorem State.rebind_preserves {r : State} : ∀ (s : State) a1 a2,
    Preserves r s → Preserves r (State.rebind s a1 a2) := by
  intro s a1 a2 h
  unfold State.rebind
  repeat' first
    | with_reducible assumption | with_reducible apply State.setPalRing_preserves
    | with_reducible apply State.moveRing_preserves | with_reducible apply State.placeNext_preserves
    | with_reducible apply State.refreshCands_preserves

theorem State.unqueue_preserves {r : State} : ∀ (s : State) a1, Preserves r s → Preserves r (State.unqueue s a1) :=
  fun _ _ h => Preserves.through (State.unqueue_within _ _) rfl h

theorem State.ringOverflow_preserves {r : State} : ∀ (s : State) a1,
    Preserves r s → Preserves r (State.ringOverflow s a1) := by
  intro s a1 h
  unfold State.ringOverflow
  repeat' first
    | with_reducible assumption | with_reducible apply State.rejectList_preserves
    | with_reducible apply State.setPalRing_preserves | with_reducible apply State.unqueue_preserves | split
    | extract_lets

theorem State.writeRing_preserves {r : State} : ∀ (s : State) a1 a2,
    Preserves r s → Preserves r (State.writeRing s a1 a2) := by
  intro s a1 a2 h
  unfold State.writeRing
  repeat' first
    | with_reducible assumption | with_reducible apply State.rebind_preserves
    | with_reducible apply State.setPalRing_preserves | with_reducible apply State.enableRing_preserves | split
    | extract_lets

theorem execRingWrite_preserves {r : State} : ∀ a0 (s : State),
    Preserves r s → PreservesNext r (execRingWrite a0 s) := by
  intro a0 s h
  unfold execRingWrite
  repeat' first
    | with_reducible assumption | with_reducible apply State.setF_preserves
    | with_reducible apply State.writeRing_preserves | with_reducible apply State.gate_preserves
    | with_reducible apply PreservesNext.ok | exact PreservesNext.fault _ | split | extract_lets
    | with_reducible intro _ | with_reducible show Preserves _ (ite _ _ _)

theorem execRingStatusRead_preserves {r : State} : ∀ a0 (s : State),
    Preserves r s → PreservesNext r (execRingStatusRead a0 s) := by
  intro a0 s h
  unfold execRingStatusRead
  repeat' first
    | with_reducible assumption | with_reducible apply State.setF_preserves
    | with_reducible apply State.wrWords_preserves | with_reducible apply State.gate_preserves
    | with_reducible apply PreservesNext.ok | exact PreservesNext.fault _ | split | extract_lets
    | with_reducible intro _

theorem execRingRead_preserves {r : State} : ∀ a0 (s : State),
    Preserves r s → PreservesNext r (execRingRead a0 s) := by
  intro a0 s h
  unfold execRingRead
  repeat' first
    | with_reducible assumption | with_reducible apply State.setF_preserves
    | with_reducible apply State.wrWords_preserves | with_reducible apply State.gate_preserves
    | with_reducible apply PreservesNext.ok | exact PreservesNext.fault _ | split | extract_lets
    | with_reducible intro _

theorem State.readDoorbell_preserves {r : State} : ∀ (s : State) a1,
    Preserves r s → Preserves r (State.readDoorbell s a1) :=
  fun _ _ h => Preserves.through (State.readDoorbell_within _ _) rfl h

theorem execDoorbellRead_preserves {r : State} : ∀ a0 (s : State),
    Preserves r s → PreservesNext r (execDoorbellRead a0 s) := by
  intro a0 s h
  unfold execDoorbellRead
  repeat' first
    | with_reducible assumption | with_reducible apply State.readDoorbell_preserves
    | with_reducible apply State.ringOverflow_preserves | with_reducible apply State.placeNext_preserves
    | with_reducible apply State.refreshCands_preserves | with_reducible apply PreservesNext.ok
    | exact PreservesNext.fault _ | split | extract_lets | with_reducible intro _
    | with_reducible show Preserves _ (ite _ _ _)

theorem execListAdmit_preserves {r : State} : ∀ a0 (s : State),
    Preserves r s → PreservesNext r (execListAdmit a0 s) := by
  intro a0 s h
  unfold execListAdmit
  repeat' first
    | with_reducible assumption | with_reducible apply State.resumeOn_preserves
    | with_reducible apply State.setEngine_preserves | with_reducible apply State.admitList_preserves
    | with_reducible apply State.refreshCands_preserves | with_reducible apply PreservesNext.ok
    | exact PreservesNext.fault _ | split | extract_lets

/-! ## Machine/PalMove.lean -/

theorem State.badCmd_preserves {r : State} : ∀ (s : State) a1 a2,
    Preserves r s → Preserves r (State.badCmd s a1 a2) := by
  intro s a1 a2 h
  unfold State.badCmd
  repeat' first
    | with_reducible assumption | with_reducible apply State.listFail_preserves

theorem State.countMove_preserves {r : State} : ∀ (s : State) a1 a2 a3 a4 a5,
    Preserves r s → Preserves r (State.countMove s a1 a2 a3 a4 a5) := by
  intro s a1 a2 a3 a4 a5 h
  unfold State.countMove
  repeat' first
    | with_reducible assumption | with_reducible apply State.heatPage_preserves
    | with_reducible apply State.cxlBytesCount_preserves | (with_reducible apply Preserves.each; intro _ _ _)
    | split

theorem State.nextCmd_preserves {r : State} : ∀ (s : State) a1, Preserves r s → Preserves r (State.nextCmd s a1) :=
  fun _ _ h => Preserves.through (State.nextCmd_within _ _) rfl h

theorem State.issueCmd_preserves {e op : Nat} {ms : List Word → List Nat} {f : Running → List Word → State → State}
    {r s : State} (k : ∀ a b x, Preserves r x → Preserves r (f a b x)) (h : Preserves r s) :
    Preserves r (s.issueCmd e op ms f) := by
  unfold State.issueCmd
  split
  · exact h
  split
  · exact h
  split
  · exact State.nextCmd_preserves _ _ h
  split
  · exact State.afterOffline_preserves _ _ (State.badCmd_preserves _ _ _ h)
  · exact State.afterOffline_preserves _ _ (State.quiesce_preserves _ _ (k _ _ _ h))

/-! ## Machine/PalCtl.lean -/

theorem State.journal_preserves {r : State} : ∀ (s : State) a1 a2,
    Preserves r s → Preserves r (State.journal s a1 a2) := by
  intro s a1 a2 h
  unfold State.journal
  repeat' first
    | with_reducible assumption | with_reducible apply State.writeBytes_preserves | split | extract_lets
    | ((fail_if_success with_reducible apply Preserves.upd_pending); with_reducible apply Preserves.upd_free)

theorem State.updRun_preserves {r : State} : ∀ (s : State) a1 a2,
    Preserves r s → Preserves r (State.updRun s a1 a2) :=
  fun _ _ _ h => Preserves.through (State.updRun_within _ _ _) rfl h

theorem State.notifyAnswered_preserves {r : State} : ∀ (s : State) a1 a2 a3,
    Preserves r s → Preserves r (State.notifyAnswered s a1 a2 a3) := by
  intro s a1 a2 a3 h
  unfold State.notifyAnswered
  repeat' first
    | with_reducible assumption | with_reducible apply State.afterOffline_preserves
    | with_reducible apply State.failRunning_preserves | with_reducible apply State.journal_preserves
    | with_reducible apply State.setEngine_preserves | with_reducible apply State.listFail_preserves
    | with_reducible apply State.updRun_preserves | split | extract_lets

theorem State.issue_preserves {r : State} : ∀ (s : State) a1 a2 a3,
    Preserves r s → Preserves r (State.issue s a1 a2 a3) :=
  fun _ _ _ _ h => Preserves.through (State.issue_within _ _ _ _) rfl h

theorem State.sendNotify_preserves {r : State} : ∀ (s : State) a1 a2 a3,
    Preserves r s → Preserves r (State.sendNotify s a1 a2 a3) := by
  intro s a1 a2 a3 h
  unfold State.sendNotify
  repeat' first
    | with_reducible assumption | with_reducible apply State.issue_preserves
    | with_reducible apply State.nextCmd_preserves | with_reducible apply State.journal_preserves
    | with_reducible apply State.updRun_preserves

theorem State.unknownCmd_preserves {r : State} : ∀ (s : State) a1,
    Preserves r s → Preserves r (State.unknownCmd s a1) := by
  intro s a1 h
  unfold State.unknownCmd
  repeat' first
    | with_reducible assumption | with_reducible apply State.afterOffline_preserves
    | with_reducible apply State.badCmd_preserves | split

theorem State.startFence_preserves {r : State} : ∀ (s : State) a1,
    Preserves r s → Preserves r (State.startFence s a1) :=
  fun _ _ h => Preserves.through (State.startFence_within _ _) rfl h

theorem execPalEnd_preserves {r : State} : ∀ a0 (s : State), Preserves r s → PreservesNext r (execPalEnd a0 s) := by
  intro a0 s h
  unfold execPalEnd
  repeat' first
    | with_reducible assumption | with_reducible apply State.startFence_preserves
    | with_reducible apply State.issueCmd_preserves | with_reducible apply PreservesNext.ok
    | exact PreservesNext.fault _ | split | extract_lets | with_reducible intro _

theorem State.placeData_preserves {r : State} : ∀ (s : State) a1 a2 a3,
    Preserves r s → Preserves r (State.placeData s a1 a2 a3) :=
  fun _ _ _ _ h => Preserves.through (State.placeData_within _ _ _ _) rfl h

theorem execMoveReadReturn_preserves {r : State} : ∀ a0 a1 (s : State),
    Preserves r s → PreservesNext r (execMoveReadReturn a0 a1 s) := by
  intro a0 a1 s h
  unfold execMoveReadReturn
  repeat' first
    | with_reducible assumption | with_reducible apply State.afterOffline_preserves
    | with_reducible apply State.countMove_preserves | with_reducible apply State.quiesce_preserves
    | with_reducible apply State.listFail_preserves | with_reducible apply State.updRun_preserves
    | with_reducible apply State.placeData_preserves | with_reducible apply PreservesNext.ok
    | exact PreservesNext.fault _ | split | extract_lets

theorem execFenceTimeout_preserves {r : State} : ∀ a0 (s : State),
    Preserves r s → PreservesNext r (execFenceTimeout a0 s) := by
  intro a0 s h
  unfold execFenceTimeout
  repeat' first
    | with_reducible assumption | with_reducible apply State.afterOffline_preserves
    | with_reducible apply State.listFail_preserves | with_reducible apply State.reach_preserves
    | with_reducible apply PreservesNext.ok | exact PreservesNext.fault _ | split

theorem execFenceComplete_preserves {r : State} : ∀ a0 (s : State),
    Preserves r s → PreservesNext r (execFenceComplete a0 s) := by
  intro a0 s h
  unfold execFenceComplete
  repeat' first
    | with_reducible assumption | with_reducible apply State.listDone_preserves
    | with_reducible apply State.afterOffline_preserves | with_reducible apply State.journal_preserves
    | with_reducible apply State.quiesce_preserves | with_reducible apply State.updRun_preserves
    | with_reducible apply PreservesNext.ok | exact PreservesNext.fault _ | split

theorem execPalNotify_preserves {r : State} : ∀ a0 (s : State),
    Preserves r s → PreservesNext r (execPalNotify a0 s) := by
  intro a0 s h
  unfold execPalNotify
  repeat' first
    | with_reducible assumption | with_reducible apply State.badCmd_preserves
    | with_reducible apply State.sendNotify_preserves | with_reducible apply State.issueCmd_preserves
    | with_reducible apply PreservesNext.ok | exact PreservesNext.fault _ | split | extract_lets
    | with_reducible intro _

theorem execPalBegin_preserves {r : State} : ∀ a0 (s : State),
    Preserves r s → PreservesNext r (execPalBegin a0 s) := by
  intro a0 s h
  unfold execPalBegin
  repeat' first
    | with_reducible assumption | with_reducible apply State.nextCmd_preserves
    | with_reducible apply State.journal_preserves | with_reducible apply State.updRun_preserves
    | with_reducible apply State.issueCmd_preserves | with_reducible apply PreservesNext.ok
    | exact PreservesNext.fault _ | split | extract_lets | with_reducible intro _

theorem execPalFence_preserves {r : State} : ∀ a0 (s : State),
    Preserves r s → PreservesNext r (execPalFence a0 s) := by
  intro a0 s h
  unfold execPalFence
  repeat' first
    | with_reducible assumption | with_reducible apply State.badCmd_preserves
    | with_reducible apply State.startFence_preserves | with_reducible apply State.issueCmd_preserves
    | with_reducible apply PreservesNext.ok | exact PreservesNext.fault _ | split | extract_lets
    | with_reducible intro _

theorem execPalCkpt_preserves {r : State} : ∀ a0 (s : State), Preserves r s → PreservesNext r (execPalCkpt a0 s) := by
  intro a0 s h
  unfold execPalCkpt
  repeat' first
    | with_reducible assumption | with_reducible apply State.badCmd_preserves
    | with_reducible apply State.nextCmd_preserves | with_reducible apply State.journal_preserves
    | with_reducible apply State.listFail_preserves | with_reducible apply State.updRun_preserves
    | with_reducible apply State.issueCmd_preserves | with_reducible apply PreservesNext.ok
    | exact PreservesNext.fault _ | split | extract_lets | with_reducible intro _

theorem execPalNop_preserves {r : State} : ∀ a0 (s : State), Preserves r s → PreservesNext r (execPalNop a0 s) := by
  intro a0 s h
  unfold execPalNop
  repeat' first
    | with_reducible assumption | with_reducible apply State.unknownCmd_preserves
    | with_reducible apply State.nextCmd_preserves | with_reducible apply State.issueCmd_preserves
    | with_reducible apply PreservesNext.ok | exact PreservesNext.fault _ | split | extract_lets
    | with_reducible intro _

theorem State.addMove_preserves {r : State} : ∀ (s : State) a1 a2,
    Preserves r s → Preserves r (State.addMove s a1 a2) :=
  fun _ _ _ h => Preserves.through (State.addMove_within _ _ _) rfl h

theorem execPalMove_preserves {r : State} : ∀ a0 (s : State), Preserves r s → PreservesNext r (execPalMove a0 s) := by
  intro a0 s h
  unfold execPalMove
  repeat' first
    | with_reducible assumption | with_reducible apply State.addMove_preserves
    | with_reducible apply State.badCmd_preserves | with_reducible apply State.nextCmd_preserves
    | with_reducible apply State.placeData_preserves | with_reducible apply State.issueCmd_preserves
    | with_reducible apply PreservesNext.ok | exact PreservesNext.fault _ | split | extract_lets
    | with_reducible intro _

theorem execMoveWritePerformed_preserves {r : State} : ∀ a0 a1 (s : State),
    Preserves r s → PreservesNext r (execMoveWritePerformed a0 a1 s) := by
  intro a0 a1 s h
  unfold execMoveWritePerformed
  repeat' first
    | with_reducible assumption | with_reducible apply State.afterOffline_preserves
    | with_reducible apply State.writeBytes_preserves | with_reducible apply State.journal_preserves
    | with_reducible apply State.countMove_preserves | with_reducible apply State.quiesce_preserves
    | with_reducible apply State.listFail_preserves | with_reducible apply State.updRun_preserves
    | with_reducible apply PreservesNext.ok | exact PreservesNext.fault _ | split | extract_lets

theorem execNotifyResponse_preserves {r : State} : ∀ a0 (s : State),
    Preserves r s → PreservesNext r (execNotifyResponse a0 s) := by
  intro a0 s h
  unfold execNotifyResponse
  repeat' first
    | with_reducible assumption | with_reducible apply State.updDie_preserves
    | with_reducible apply State.notifyAnswered_preserves | with_reducible apply PreservesNext.ok
    | exact PreservesNext.fault _ | split

/-! ## Machine/PalMath.lean -/

theorem execPalRow_preserves {r : State} : ∀ a0 (s : State), Preserves r s → PreservesNext r (execPalRow a0 s) := by
  intro a0 s h
  unfold execPalRow
  repeat' first
    | with_reducible assumption | with_reducible apply State.bump_preserves
    | with_reducible apply State.badCmd_preserves | with_reducible apply State.nextCmd_preserves
    | with_reducible apply State.setEngine_preserves | with_reducible apply State.issueCmd_preserves
    | with_reducible apply PreservesNext.ok | exact PreservesNext.fault _ | split | extract_lets
    | with_reducible intro _

theorem execPalElem_preserves {r : State} : ∀ a0 (s : State), Preserves r s → PreservesNext r (execPalElem a0 s) := by
  intro a0 s h
  unfold execPalElem
  repeat' first
    | with_reducible assumption | with_reducible apply State.badCmd_preserves
    | with_reducible apply State.nextCmd_preserves | with_reducible apply State.setEngine_preserves
    | with_reducible apply State.issueCmd_preserves | with_reducible apply PreservesNext.ok
    | exact PreservesNext.fault _ | split | extract_lets | with_reducible intro _

theorem execPalConvert_preserves {r : State} : ∀ a0 (s : State),
    Preserves r s → PreservesNext r (execPalConvert a0 s) := by
  intro a0 s h
  unfold execPalConvert
  repeat' first
    | with_reducible assumption | with_reducible apply State.badCmd_preserves
    | with_reducible apply State.nextCmd_preserves | with_reducible apply State.setEngine_preserves
    | with_reducible apply State.issueCmd_preserves | with_reducible apply PreservesNext.ok
    | exact PreservesNext.fault _ | split | extract_lets | with_reducible intro _

theorem execPalXlane_preserves {r : State} : ∀ a0 (s : State),
    Preserves r s → PreservesNext r (execPalXlane a0 s) := by
  intro a0 s h
  unfold execPalXlane
  repeat' first
    | with_reducible assumption | with_reducible apply State.badCmd_preserves
    | with_reducible apply State.nextCmd_preserves | with_reducible apply State.setEngine_preserves
    | with_reducible apply State.issueCmd_preserves | with_reducible apply PreservesNext.ok
    | exact PreservesNext.fault _ | split | extract_lets | with_reducible intro _

/-! ## Machine/EaselOps.lean -/

theorem State.abandonMoves_preserves {r : State} : ∀ (s : State) a1,
    Preserves r s → Preserves r (State.abandonMoves s a1) := by
  intro s a1 h
  unfold State.abandonMoves
  repeat' first
    | with_reducible assumption | with_reducible exact Memory.wf_congr rfl rfl rfl rfl | split | extract_lets
    | ((fail_if_success with_reducible apply Preserves.upd_pending); with_reducible apply Preserves.upd_mem)

theorem State.pagesLost_preserves {r : State} : ∀ (s : State) cxl unit, Preserves r s →
    Preserves r (State.pagesLost s cxl unit) :=
  fun _ _ _ h => (h.through (State.spillLost_within _ _) rfl).upd_mem fun w =>
    Memory.foldl_clear_wf (fun kp : Nat × Page => pageKey kp.1) (fun kp => pageKey kp.1 + 131072) _ w

theorem State.stackTo_preserves {r : State} : ∀ (s : State) a1 a2,
    Preserves r s → Preserves r (State.stackTo s a1 a2) := by
  intro s a1 a2 h
  unfold State.stackTo
  repeat' first
    | with_reducible assumption | with_reducible apply State.raise_preserves
    | with_reducible apply State.setStack_preserves

theorem State.cxlFailed_preserves {r : State} : ∀ (s : State) a1 a2,
    Preserves r s → Preserves r (State.cxlFailed s a1 a2) := by
  intro s a1 a2 h
  unfold State.cxlFailed
  repeat' first
    | with_reducible assumption | with_reducible exact Memory.wf_congr rfl rfl rfl rfl | split | extract_lets
    | ((fail_if_success with_reducible apply Preserves.upd_pending); with_reducible apply Preserves.upd_mem)

theorem State.cxlEvent_preserves {r : State} : ∀ (s : State) a1 a2,
    Preserves r s → Preserves r (State.cxlEvent s a1 a2) := by
  intro s a1 a2 h
  unfold State.cxlEvent
  repeat' first
    | with_reducible assumption | with_reducible apply State.raise_preserves

theorem State.cxlDown_preserves {r : State} : ∀ (s : State) a1 a2,
    Preserves r s → Preserves r (State.cxlDown s a1 a2) := by
  intro s a1 a2 h
  unfold State.cxlDown
  repeat' first
    | with_reducible assumption | with_reducible apply State.cxlFailed_preserves
    | with_reducible apply State.setF_preserves | with_reducible apply State.pagesLost_preserves
    | with_reducible apply State.setCxlSt_preserves | with_reducible apply State.cxlEvent_preserves

theorem State.setRetiring_preserves {r : State} : ∀ (s : State) a1 a2,
    Preserves r s → Preserves r (State.setRetiring s a1 a2) := by
  intro s a1 a2 h
  unfold State.setRetiring
  repeat' first
    | with_reducible assumption | with_reducible exact Memory.wf_congr rfl rfl rfl rfl | split | extract_lets
    | ((fail_if_success with_reducible apply Preserves.upd_pending); with_reducible apply Preserves.upd_mem)

theorem State.startStack_preserves {r : State} : ∀ a0 (s : State),
    Preserves r s → Preserves r (State.startStack a0 s) := by
  intro a0 s h
  unfold State.startStack
  repeat' first
    | with_reducible assumption | with_reducible apply State.setRetiring_preserves
    | with_reducible apply State.stackTo_preserves | split

theorem State.beginRetire_preserves {r : State} : ∀ (s : State) a1,
    Preserves r s → Preserves r (State.beginRetire s a1) := by
  intro s a1 h
  unfold State.beginRetire
  repeat' first
    | with_reducible assumption | with_reducible apply State.startStack_preserves
    | with_reducible apply State.setRetiring_preserves | with_reducible apply State.requestMaint_preserves

theorem State.retireBit_preserves {r : State} : ∀ (s : State) a1,
    Preserves r s → Preserves r (State.retireBit s a1) := by
  intro s a1 h
  unfold State.retireBit
  repeat' first
    | with_reducible assumption | with_reducible exact Memory.wf_congr rfl rfl rfl rfl
    | with_reducible apply State.setF_preserves | with_reducible apply State.beginRetire_preserves | split
    | extract_lets
    | ((fail_if_success with_reducible apply Preserves.upd_pending); with_reducible apply Preserves.upd_mem)

theorem State.migrate_preserves {r : State} : ∀ (s : State) a1 a2 a3,
    Preserves r s → Preserves r (State.migrate s a1 a2 a3) := by
  intro s a1 a2 a3 h
  unfold State.migrate
  repeat' first
    | with_reducible assumption | with_reducible apply State.setPage_preserves | split | extract_lets

theorem State.demotePage_preserves {r : State} : ∀ (s : State) a1 a2,
    Preserves r s → Preserves r (State.demotePage s a1 a2) := by
  intro s a1 a2 h
  unfold State.demotePage
  repeat' first
    | with_reducible assumption | with_reducible apply State.migrate_preserves | split | extract_lets

theorem State.demoteDie_preserves {r : State} : ∀ (s : State) a1,
    Preserves r s → Preserves r (State.demoteDie s a1) := by
  intro s a1 h
  unfold State.demoteDie
  repeat' first
    | with_reducible assumption | with_reducible apply State.demotePage_preserves
    | (with_reducible apply Preserves.each; intro _ _ _) | split | extract_lets

theorem State.followPage_preserves {r : State} : ∀ (s : State) a1,
    Preserves r s → Preserves r (State.followPage s a1) := by
  intro s a1 h
  unfold State.followPage
  repeat' first
    | with_reducible assumption | with_reducible apply State.migrate_preserves | split | extract_lets

theorem State.promotePage_preserves {r : State} : ∀ (s : State) a1,
    Preserves r s → Preserves r (State.promotePage s a1) := by
  intro s a1 h
  unfold State.promotePage
  repeat' first
    | with_reducible assumption | with_reducible apply State.migrate_preserves | split | extract_lets
    | with_reducible intro _ | with_reducible show Preserves _ (ite _ _ _) | dsimp +zetaDelta only

theorem State.heatMoves_preserves {r : State} : ∀ (s : State), Preserves r s → Preserves r (State.heatMoves s) := by
  intro s h
  unfold State.heatMoves
  repeat' first
    | with_reducible assumption | with_reducible apply State.followPage_preserves
    | with_reducible apply State.promotePage_preserves | (with_reducible apply Preserves.each; intro _ _ _) | split
    | extract_lets

theorem State.emptyPort_preserves {r : State} : ∀ (s : State) a1,
    Preserves r s → Preserves r (State.emptyPort s a1) := by
  intro s a1 h
  unfold State.emptyPort
  repeat' first
    | with_reducible assumption | with_reducible apply State.migrate_preserves
    | (with_reducible apply Preserves.each; intro _ _ _) | split | extract_lets

theorem State.moveToPin_preserves {r : State} : ∀ (s : State) a1,
    Preserves r s → Preserves r (State.moveToPin s a1) := by
  intro s a1 h
  unfold State.moveToPin
  repeat' first
    | with_reducible assumption | with_reducible apply State.migrate_preserves | split | extract_lets

theorem State.relieveCxl_preserves {r : State} : ∀ (s : State), Preserves r s → Preserves r (State.relieveCxl s) := by
  intro s h
  unfold State.relieveCxl
  repeat' first
    | with_reducible assumption | with_reducible apply State.migrate_preserves
    | with_reducible apply State.placement_preserves | (with_reducible apply Preserves.each; intro _ _ _) | split

theorem State.easelMoves_preserves {r : State} : ∀ (s : State), Preserves r s → Preserves r (State.easelMoves s) := by
  intro s h
  unfold State.easelMoves
  repeat' first
    | with_reducible assumption | with_reducible apply State.heatMoves_preserves
    | with_reducible apply State.demoteDie_preserves | with_reducible apply State.emptyPort_preserves
    | with_reducible apply State.moveToPin_preserves | with_reducible apply State.relieveCxl_preserves
    | (with_reducible apply Preserves.each; intro _ _ _)

theorem State.seriesPoisoned_preserves {r : State} : ∀ (s : State) a1,
    Preserves r s → Preserves r (State.seriesPoisoned s a1) := by
  intro s a1 h
  unfold State.seriesPoisoned
  repeat' first
    | with_reducible assumption | with_reducible apply State.setHome_preserves

theorem State.failStack_preserves {r : State} : ∀ (s : State) a1,
    Preserves r s → Preserves r (State.failStack s a1) := by
  intro s a1 h
  unfold State.failStack
  repeat' first
    | with_reducible assumption | exact fun w => Memory.failSlices_wf w _
    | with_reducible exact Memory.wf_congr rfl rfl rfl rfl | with_reducible apply State.abandonMoves_preserves
    | with_reducible apply State.setRetiring_preserves | with_reducible apply State.seriesPoisoned_preserves
    | with_reducible apply State.stackTo_preserves | split | extract_lets
    | ((fail_if_success with_reducible apply Preserves.upd_pending); with_reducible apply Preserves.upd_mem)

theorem State.startCxlAdd_preserves {r : State} : ∀ a0 (s : State),
    Preserves r s → Preserves r (State.startCxlAdd a0 s) := by
  intro a0 s h
  unfold State.startCxlAdd
  repeat' first
    | with_reducible assumption | with_reducible apply State.setCxlSt_preserves
    | with_reducible apply State.cxlEvent_preserves

theorem State.lineBad_preserves {r : State} : ∀ (s : State) a1, Preserves r s → Preserves r (State.lineBad s a1) := by
  intro s a1 h
  unfold State.lineBad
  repeat' first
    | with_reducible assumption | exact fun w => Memory.poisonLine_wf w _
    | with_reducible exact Memory.wf_congr rfl rfl rfl rfl | with_reducible apply State.bump_preserves
    | with_reducible apply State.partErr_preserves | with_reducible apply State.failStack_preserves | split
    | extract_lets
    | ((fail_if_success with_reducible apply Preserves.upd_pending); with_reducible apply Preserves.upd_mem)

theorem State.setClass_preserves {r : State} : ∀ (s : State) i raw, Preserves r s → Preserves r (State.setClass s i raw) := by
  intro s i raw h
  refine h.upd_mem fun w => ?_
  split
  · exact w
  · exact w

theorem State.startCxlRemove_preserves {r : State} : ∀ a0 (s : State),
    Preserves r s → Preserves r (State.startCxlRemove a0 s) := by
  intro a0 s h
  unfold State.startCxlRemove
  repeat' first
    | with_reducible assumption | with_reducible apply State.emptyPort_preserves
    | with_reducible apply State.setCxlSt_preserves | with_reducible apply State.cxlEvent_preserves

/-! ## Machine/Easel.lean -/

theorem State.cxlClock_preserves {r : State} : ∀ (s : State) a1 a2,
    Preserves r s → Preserves r (State.cxlClock s a1 a2) := by
  intro s a1 a2 h
  unfold State.cxlClock
  repeat' first
    | with_reducible assumption | with_reducible exact Memory.wf_congr rfl rfl rfl rfl | split | extract_lets
    | ((fail_if_success with_reducible apply Preserves.upd_pending); with_reducible apply Preserves.upd_mem)

theorem State.reclaimBlock_preserves {r : State} : ∀ (s : State) a1,
    Preserves r s → Preserves r (State.reclaimBlock s a1) := by
  intro s a1 h
  unfold State.reclaimBlock
  repeat' first
    | with_reducible assumption | with_reducible apply State.setQueue_preserves
    | with_reducible apply State.emptied_preserves | with_reducible apply State.dropItem_preserves
    | (with_reducible apply Preserves.each; intro _ _ _) | split | extract_lets
    | ((fail_if_success with_reducible apply Preserves.upd_pending); with_reducible apply Preserves.upd_dp)

theorem State.scrubLine_preserves {r : State} : ∀ (s : State) a1 a2 a3,
    Preserves r s → Preserves r (State.scrubLine s a1 a2 a3) := by
  intro s a1 a2 a3 h
  unfold State.scrubLine
  repeat' first
    | with_reducible assumption | with_reducible apply State.bump_preserves
    | with_reducible apply State.lineBad_preserves | with_reducible apply State.partErr_preserves | split

theorem State.scrubOn_preserves {r : State} : ∀ (s : State) a1 a2 a3 a4,
    Preserves r s → Preserves r (State.scrubOn s a1 a2 a3 a4) := by
  intro s a1 a2 a3 a4 h
  unfold State.scrubOn
  repeat' first
    | with_reducible assumption | with_reducible apply State.scrubLine_preserves | split

theorem State.setLoad_preserves {r : State} : ∀ (s : State) a1 a2,
    Preserves r s → Preserves r (State.setLoad s a1 a2) := by
  intro s a1 a2 h
  unfold State.setLoad
  repeat' first
    | with_reducible assumption | with_reducible apply State.setF_preserves

theorem execCxlRemove_preserves {r : State} : ∀ a0 (s : State),
    Preserves r s → PreservesNext r (execCxlRemove a0 s) := by
  intro a0 s h
  unfold execCxlRemove
  repeat' first
    | with_reducible assumption | with_reducible apply State.requestMaint_preserves
    | with_reducible apply State.gate_preserves | with_reducible apply State.startCxlRemove_preserves
    | with_reducible apply PreservesNext.ok | exact PreservesNext.fault _ | split | extract_lets
    | with_reducible intro _

theorem reclaimSpill_preserves {r : State} : ∀ a0 a1 a2 (s : State),
    Preserves r s → Preserves r (reclaimSpill a0 a1 a2 s) := by
  intro a0 a1 a2 s
  induction a1 generalizing a0 a2 s with
  | zero => intro h; unfold reclaimSpill; exact h
  | succ x ih =>
  intro h
  unfold reclaimSpill
  repeat' first
    | with_reducible assumption | refine ih _ _ _ ?_ | with_reducible apply State.reclaimBlock_preserves | split
    | extract_lets | with_reducible intro _ | with_reducible show Preserves _ (ite _ _ _) | dsimp +zetaDelta only

theorem execSpillMaxWrite_preserves {r : State} : ∀ a0 (s : State),
    Preserves r s → PreservesNext r (execSpillMaxWrite a0 s) := by
  intro a0 s h
  unfold execSpillMaxWrite
  repeat' first
    | with_reducible assumption | with_reducible apply State.setF_preserves
    | with_reducible apply reclaimSpill_preserves | with_reducible apply State.gate_preserves
    | with_reducible apply PreservesNext.ok | exact PreservesNext.fault _ | split | extract_lets
    | with_reducible intro _

theorem execFixGibWrite_preserves {r : State} : ∀ a0 a1 (s : State),
    Preserves r s → PreservesNext r (execFixGibWrite a0 a1 s) := by
  intro a0 a1 s h
  unfold execFixGibWrite
  repeat' first
    | with_reducible assumption | with_reducible exact Memory.wf_congr rfl rfl rfl rfl
    | with_reducible apply State.setF_preserves | with_reducible apply State.zeroRange_preserves
    | with_reducible apply State.gate_preserves | with_reducible apply State.placement_preserves
    | with_reducible apply PreservesNext.ok | exact PreservesNext.fault _ | split | extract_lets
    | ((fail_if_success with_reducible apply Preserves.upd_pending); with_reducible apply Preserves.upd_mem)
    | with_reducible intro _

theorem execCxlPortEnable_preserves {r : State} : ∀ a0 a1 a2 (s : State),
    Preserves r s → PreservesNext r (execCxlPortEnable a0 a1 a2 s) := by
  intro a0 a1 a2 s h
  unfold execCxlPortEnable
  repeat' first
    | with_reducible assumption | with_reducible apply State.cxlDown_preserves
    | with_reducible apply State.setF_preserves | with_reducible apply State.endMaint_preserves
    | with_reducible apply State.requestMaint_preserves | with_reducible apply State.emptyPort_preserves
    | with_reducible apply State.cxlClock_preserves | with_reducible apply State.startCxlAdd_preserves
    | with_reducible apply State.gate_preserves | with_reducible apply PreservesNext.ok
    | exact PreservesNext.fault _ | split | extract_lets | with_reducible intro _

theorem execStackRetireRequest_preserves {r : State} : ∀ a0 (s : State),
    Preserves r s → PreservesNext r (execStackRetireRequest a0 s) := by
  intro a0 s h
  unfold execStackRetireRequest
  repeat' first
    | with_reducible assumption | with_reducible apply State.retireBit_preserves
    | with_reducible apply State.gate_preserves | with_reducible apply PreservesNext.ok
    | exact PreservesNext.fault _ | (with_reducible apply Preserves.each; intro _ _ _) | split

theorem execPageSetPin_preserves {r : State} : ∀ a0 (s : State),
    Preserves r s → PreservesNext r (execPageSetPin a0 s) := by
  intro a0 s h
  unfold execPageSetPin
  repeat' first
    | with_reducible assumption | with_reducible apply State.setF_preserves
    | with_reducible apply State.gate_preserves | with_reducible apply State.setPage_preserves
    | with_reducible apply State.moveToPin_preserves | with_reducible apply PreservesNext.ok
    | exact PreservesNext.fault _ | split | extract_lets | with_reducible intro _

theorem State.zeroPage_preserves {r : State} : ∀ (s : State) a1,
    Preserves r s → Preserves r (State.zeroPage s a1) := by
  intro s a1 h
  unfold State.zeroPage
  repeat' first
    | with_reducible assumption | with_reducible apply State.zeroRange_preserves

theorem execPageAlloc_preserves {r : State} : ∀ a0 (s : State),
    Preserves r s → PreservesNext r (execPageAlloc a0 s) := by
  intro a0 s h
  unfold execPageAlloc
  repeat' first
    | with_reducible assumption | with_reducible apply State.zeroPage_preserves
    | with_reducible apply State.setF_preserves | with_reducible apply State.gate_preserves
    | with_reducible apply State.setPage_preserves | with_reducible apply PreservesNext.ok
    | exact PreservesNext.fault _ | split | extract_lets | with_reducible intro _

theorem execPageRead_preserves {r : State} : ∀ a0 (s : State),
    Preserves r s → PreservesNext r (execPageRead a0 s) := by
  intro a0 s h
  unfold execPageRead
  repeat' first
    | with_reducible assumption | with_reducible apply State.setF_preserves
    | with_reducible apply State.wrWords_preserves | with_reducible apply State.gate_preserves
    | with_reducible apply PreservesNext.ok | exact PreservesNext.fault _ | split | extract_lets
    | with_reducible intro _

theorem execPageFree_preserves {r : State} : ∀ a0 (s : State),
    Preserves r s → PreservesNext r (execPageFree a0 s) := by
  intro a0 s h
  unfold execPageFree
  repeat' first
    | with_reducible assumption | with_reducible apply State.zeroPage_preserves
    | with_reducible apply State.setF_preserves | with_reducible apply State.gate_preserves
    | with_reducible apply State.setPage_preserves | with_reducible apply PreservesNext.ok
    | exact PreservesNext.fault _ | split | extract_lets | with_reducible intro _

theorem execCxlDeviceEvent_preserves {r : State} : ∀ a0 a1 (s : State),
    Preserves r s → PreservesNext r (execCxlDeviceEvent a0 a1 s) := by
  intro a0 a1 s h
  unfold execCxlDeviceEvent
  repeat' first
    | with_reducible assumption | with_reducible apply State.cxlEvent_preserves
    | with_reducible apply PreservesNext.ok | exact PreservesNext.fault _ | split

theorem execHbmScrub_preserves {r : State} : ∀ a0 a1 a2 (s : State),
    Preserves r s → PreservesNext r (execHbmScrub a0 a1 a2 s) := by
  intro a0 a1 a2 s h
  unfold execHbmScrub
  repeat' first
    | with_reducible assumption | with_reducible apply State.scrubOn_preserves
    | with_reducible apply PreservesNext.ok

theorem execPageCopyDone_preserves {r : State} : ∀ a0 (s : State),
    Preserves r s → PreservesNext r (execPageCopyDone a0 s) := by
  intro a0 s h
  unfold execPageCopyDone
  repeat' first
    | with_reducible assumption | exact fun w => Memory.spreadPoison_wf w _
    | with_reducible exact Memory.wf_congr rfl rfl rfl rfl | with_reducible apply State.bump_preserves
    | with_reducible apply State.setPage_preserves | with_reducible apply State.writeBack_preserves
    | with_reducible apply PreservesNext.ok | exact PreservesNext.fault _ | split | extract_lets
    | ((fail_if_success with_reducible apply Preserves.upd_pending); with_reducible apply Preserves.upd_mem)

theorem execStackRelocateDone_preserves {r : State} : ∀ a0 (s : State),
    Preserves r s → PreservesNext r (execStackRelocateDone a0 s) := by
  intro a0 s h
  unfold execStackRelocateDone
  repeat' first
    | with_reducible assumption | exact fun w => Memory.spreadPoison_wf w _
    | with_reducible exact Memory.wf_congr rfl rfl rfl rfl | with_reducible apply State.bump_preserves
    | with_reducible apply State.setF_preserves | with_reducible apply State.endMaint_preserves
    | with_reducible apply State.setRetiring_preserves | with_reducible apply State.beginRetire_preserves
    | with_reducible apply State.stackTo_preserves | with_reducible apply PreservesNext.ok
    | exact PreservesNext.fault _ | split | extract_lets
    | ((fail_if_success with_reducible apply Preserves.upd_pending); with_reducible apply Preserves.upd_mem)
    | with_reducible intro _ | with_reducible show Preserves _ (ite _ _ _)

theorem execCxlPortTrained_preserves {r : State} : ∀ a0 a1 a2 a3 a4 (s : State),
    Preserves r s → PreservesNext r (execCxlPortTrained a0 a1 a2 a3 a4 s) := by
  intro k cap width speed decoders s h
  unfold execCxlPortTrained
  split
  · exact .ok h
  extract_lets c s1 s2 m m2
  have reached : Preserves r s1 := State.reach_preserves _ _ h
  have told : Preserves r s2 := State.setF_preserves _ _ _ _ _ (State.setF_preserves _ _ _ _ _
    (State.setF_preserves _ _ _ _ _ (State.setF_preserves _ _ _ _ _ (State.setCxlSt_preserves _ _ _ reached))))
  have renewed : Preserves r { s2 with mem := m2 } := told.upd_mem fun w => Memory.renewCxl_wf w _ _
  exact .ok (State.endMaint_preserves _ _ _ (State.cxlEvent_preserves _ _ _ (State.cxlFailed_preserves _ _ _ renewed)))

theorem State.readbackAll_preserves {r : State} : ∀ (s : State), Preserves r s → Preserves r (State.readbackAll s) :=
  fun _ h => Preserves.through (State.readbackAll_within _) rfl h

theorem Preserves.upd_intervalAt {r s : State} (h : Preserves r s) (at_ : Nat) :
    Preserves r { s with mem := { s.mem with intervalAt := at_ } } :=
  h.upd_mem fun w => Memory.wf_congr rfl rfl rfl rfl w

theorem execEaselInterval_preserves {r : State} : ∀ a0 a1 a2 a3 a4 a5 a6 (s : State),
    Preserves r s → PreservesNext r (execEaselInterval a0 a1 a2 a3 a4 a5 a6 s) := by
  intro u0 u1 u2 u3 waited cxlRd cxlWr s h
  have reached := State.reach_preserves s (s.mem.intervalAt + 100000) h
  unfold execEaselInterval
  split
  · exact .ok h
  dsimp only
  generalize s.reach _ = x at reached ⊢
  refine .ok (State.easelMoves_preserves _ (State.readbackAll_preserves _ (State.setF_preserves _ _ _ _ _ ?_)))
  refine Preserves.each (fun d x k => State.setLoad_preserves _ _ _ k) ?_
  refine State.setClass_preserves _ _ _ (State.setClass_preserves _ _ _ ?_)
  exact Preserves.each (fun d x k => State.setClass_preserves _ _ _ k) (reached.upd_intervalAt _)

theorem Preserves.upd_heat {r s : State} (h : Preserves r s) (at_ : Nat) (pages : Tbl Page) :
    Preserves r { s with mem := { s.mem with heatAt := at_, pages := pages } } :=
  h.upd_mem fun w => Memory.wf_congr rfl rfl rfl rfl w

theorem execHeatHalving_preserves {r : State} : ∀ (s : State), Preserves r s → PreservesNext r (execHeatHalving s) := by
  intro s h
  have reached := State.reach_preserves s (s.mem.heatAt + s.fld R.MEM_EASEL_HEAT 15 0 * 1000000) h
  unfold execHeatHalving
  dsimp only
  split
  · exact .ok h
  · generalize s.reach _ = x at reached ⊢
    exact .ok (reached.upd_heat _ _)

theorem execStackFail_preserves {r : State} : ∀ a0 (s : State),
    Preserves r s → PreservesNext r (execStackFail a0 s) := by
  intro a0 s h
  unfold execStackFail
  repeat' first
    | with_reducible assumption | with_reducible apply State.failStack_preserves
    | with_reducible apply PreservesNext.ok | exact PreservesNext.fault _ | split

theorem execCxlRetrainTick_preserves {r : State} : ∀ a0 (s : State),
    Preserves r s → PreservesNext r (execCxlRetrainTick a0 s) := by
  intro a0 s h
  unfold execCxlRetrainTick
  repeat' first
    | with_reducible assumption | with_reducible apply State.cxlFailed_preserves
    | with_reducible apply State.setCxlSt_preserves | with_reducible apply State.reach_preserves
    | with_reducible apply State.cxlEvent_preserves | with_reducible apply PreservesNext.ok
    | exact PreservesNext.fault _ | split

theorem execStackDemoteDone_preserves {r : State} : ∀ a0 (s : State),
    Preserves r s → PreservesNext r (execStackDemoteDone a0 s) := by
  intro a0 s h
  unfold execStackDemoteDone
  repeat' first
    | with_reducible assumption | with_reducible apply State.setRetiring_preserves
    | with_reducible apply State.placement_preserves | with_reducible apply PreservesNext.ok
    | exact PreservesNext.fault _ | split | extract_lets

theorem execCxlPortFail_preserves {r : State} : ∀ a0 (s : State),
    Preserves r s → PreservesNext r (execCxlPortFail a0 s) := by
  intro a0 s h
  unfold execCxlPortFail
  repeat' first
    | with_reducible assumption | with_reducible apply State.cxlDown_preserves
    | with_reducible apply State.endMaint_preserves | with_reducible apply PreservesNext.ok
    | exact PreservesNext.fault _ | split | extract_lets

theorem execCxlRemoveDone_preserves {r : State} : ∀ a0 (s : State),
    Preserves r s → PreservesNext r (execCxlRemoveDone a0 s) := by
  intro a0 s h
  unfold execCxlRemoveDone
  repeat' first
    | with_reducible assumption | with_reducible apply State.cxlDown_preserves
    | with_reducible apply State.endMaint_preserves | with_reducible apply State.emptyPort_preserves
    | with_reducible apply State.cxlClock_preserves | with_reducible apply PreservesNext.ok
    | exact PreservesNext.fault _ | split

theorem execFixWindowMapped_preserves {r : State} : ∀ a0 (s : State),
    Preserves r s → PreservesNext r (execFixWindowMapped a0 s) := by
  intro a0 s h
  unfold execFixWindowMapped
  repeat' first
    | with_reducible assumption | exact fun w => Memory.wf_congr rfl rfl rfl rfl (Memory.clear_wf w _ _)
    | with_reducible exact Memory.wf_congr rfl rfl rfl rfl | with_reducible apply State.setF_preserves
    | with_reducible apply State.placement_preserves | with_reducible apply PreservesNext.ok
    | exact PreservesNext.fault _ | split | extract_lets
    | ((fail_if_success with_reducible apply Preserves.upd_pending); with_reducible apply Preserves.upd_mem)

/-! ## Machine/Peers.lean -/

theorem State.colourDeath_preserves {r : State} : ∀ (s : State) a1 a2,
    Preserves r s → Preserves r (State.colourDeath s a1 a2) := by
  intro s a1 a2 h
  unfold State.colourDeath
  repeat' first
    | with_reducible assumption | with_reducible apply State.rootDead_preserves
    | with_reducible apply State.pairHandover_preserves | with_reducible apply State.raise_preserves
    | with_reducible apply State.setPeer_preserves | (with_reducible apply Preserves.each; intro _ _ _)

theorem State.deathByPlanes_preserves {r : State} : ∀ (s : State) a1,
    Preserves r s → Preserves r (State.deathByPlanes s a1) := by
  intro s a1 h
  unfold State.deathByPlanes
  repeat' first
    | with_reducible assumption | with_reducible apply State.colourDeath_preserves | split | extract_lets

theorem State.ackExpired_preserves {r : State} : ∀ (s : State) a1 a2 a3 a4,
    Preserves r s → Preserves r (State.ackExpired s a1 a2 a3 a4) := by
  intro s a1 a2 a3 a4 h
  unfold State.ackExpired
  repeat' first
    | with_reducible assumption | with_reducible apply State.setPlane_preserves
    | with_reducible apply State.pairHandover_preserves | with_reducible apply State.replayAll_preserves
    | with_reducible apply State.deathByPlanes_preserves | with_reducible apply State.reach_preserves | split
    | extract_lets

theorem State.startListening_preserves {r : State} : ∀ (s : State),
    Preserves r s → Preserves r (State.startListening s) := by
  intro s h
  unfold State.startListening
  repeat' first
    | with_reducible assumption | with_reducible apply State.accountPlanes_preserves
    | with_reducible apply State.setPlane_preserves | with_reducible apply State.takeDown_preserves
    | with_reducible apply State.emit_preserves | (with_reducible apply Preserves.each; intro _ _ _) | split
    | extract_lets
    | ((fail_if_success with_reducible apply Preserves.upd_pending); with_reducible apply Preserves.upd_prism)

theorem State.discovered_preserves {r : State} : ∀ (s : State) a1 a2 a3 a4 a5,
    Preserves r s → Preserves r (State.discovered s a1 a2 a3 a4 a5) := by
  intro s a1 a2 a3 a4 a5 h
  unfold State.discovered
  repeat' first
    | with_reducible assumption | with_reducible apply State.setPeer_preserves
    | with_reducible apply State.colourDeath_preserves | with_reducible apply State.sendReady_preserves | split
    | extract_lets

theorem State.miswire_preserves {r : State} : ∀ (s : State) a1, Preserves r s → Preserves r (State.miswire s a1) := by
  intro s a1 h
  unfold State.miswire
  repeat' first
    | with_reducible assumption | with_reducible apply State.accountPlanes_preserves
    | with_reducible apply State.setPlane_preserves | with_reducible apply State.replayHandover_preserves
    | with_reducible apply State.raise_preserves | with_reducible apply State.setLink_preserves
    | with_reducible apply State.emit_preserves | (with_reducible apply Preserves.each; intro _ _ _)

theorem State.light_preserves {r : State} : ∀ (s : State) a1 a2,
    Preserves r s → Preserves r (State.light s a1 a2) := by
  intro s a1 a2 h
  unfold State.light
  repeat' first
    | with_reducible assumption | with_reducible apply State.setPlane_preserves
    | with_reducible apply State.miswire_preserves | with_reducible apply State.beginTraining_preserves | split

theorem execLcReadyReceive_preserves {r : State} : ∀ a0 (s : State),
    Preserves r s → PreservesNext r (execLcReadyReceive a0 s) := by
  intro a0 s h
  unfold execLcReadyReceive
  repeat' first
    | with_reducible assumption | with_reducible apply State.setPlane_preserves
    | with_reducible apply State.setPort_preserves | with_reducible apply State.reconsider_preserves
    | with_reducible apply State.setPeer_preserves | with_reducible apply PreservesNext.ok
    | exact PreservesNext.fault _ | (with_reducible apply Preserves.each; intro _ _ _) | split | extract_lets

theorem execPrismListenEnd_preserves {r : State} : ∀ (s : State),
    Preserves r s → PreservesNext r (execPrismListenEnd s) := by
  intro s h
  unfold execPrismListenEnd
  repeat' first
    | with_reducible assumption | with_reducible apply State.reach_preserves
    | with_reducible apply State.light_preserves | with_reducible apply PreservesNext.ok
    | exact PreservesNext.fault _ | (with_reducible apply Preserves.each; intro _ _ _) | split | extract_lets
    | ((fail_if_success with_reducible apply Preserves.upd_pending); with_reducible apply Preserves.upd_prism)

theorem execLcWithdrawReceive_preserves {r : State} : ∀ a0 (s : State),
    Preserves r s → PreservesNext r (execLcWithdrawReceive a0 s) := by
  intro a0 s h
  unfold execLcWithdrawReceive
  repeat' first
    | with_reducible assumption | with_reducible apply State.setPort_preserves
    | with_reducible apply State.moveOff_preserves | with_reducible apply State.setPeer_preserves
    | with_reducible apply PreservesNext.ok | exact PreservesNext.fault _
    | (with_reducible apply Preserves.each; intro _ _ _) | split | extract_lets

theorem execPeerSilenceTimeout_preserves {r : State} : ∀ a0 (s : State),
    Preserves r s → PreservesNext r (execPeerSilenceTimeout a0 s) := by
  intro a0 s h
  unfold execPeerSilenceTimeout
  repeat' first
    | with_reducible assumption | with_reducible apply State.setPeer_preserves
    | with_reducible apply State.colourDeath_preserves | with_reducible apply State.reach_preserves
    | with_reducible apply PreservesNext.ok | exact PreservesNext.fault _ | split | extract_lets

theorem execSlotStart_preserves {r : State} : ∀ (s : State), Preserves r s → PreservesNext r (execSlotStart s) := by
  intro s h
  unfold execSlotStart
  repeat' first
    | with_reducible assumption | with_reducible apply State.accountPlanes_preserves
    | with_reducible apply State.lend_preserves | with_reducible apply State.lapse_preserves
    | with_reducible apply State.deathByPlanes_preserves | with_reducible apply State.reach_preserves
    | with_reducible apply State.followSlot_preserves | with_reducible apply State.endSlot_preserves
    | with_reducible apply State.sendLocal_preserves | with_reducible apply PreservesNext.ok
    | exact PreservesNext.fault _ | (with_reducible apply Preserves.each; intro _ _ _) | split | extract_lets
    | ((fail_if_success with_reducible apply Preserves.upd_pending); with_reducible apply Preserves.upd_prism)

theorem execAckTimeout_preserves {r : State} : ∀ a0 a1 (s : State),
    Preserves r s → PreservesNext r (execAckTimeout a0 a1 s) := by
  intro a0 a1 s h
  unfold execAckTimeout
  repeat' first
    | with_reducible assumption | with_reducible apply State.ackExpired_preserves
    | with_reducible apply PreservesNext.ok | exact PreservesNext.fault _ | split | extract_lets

theorem execDiscoverReceive_preserves {r : State} : ∀ a0 a1 a2 (s : State),
    Preserves r s → PreservesNext r (execDiscoverReceive a0 a1 a2 s) := by
  intro a0 a1 a2 s h
  unfold execDiscoverReceive
  repeat' first
    | with_reducible assumption | with_reducible apply State.setPort_preserves
    | with_reducible apply State.discovered_preserves | with_reducible apply State.colourDeath_preserves
    | with_reducible apply State.miswire_preserves | with_reducible apply PreservesNext.ok
    | exact PreservesNext.fault _ | split | extract_lets
    | ((fail_if_success with_reducible apply Preserves.upd_pending); with_reducible apply Preserves.upd_prism)

theorem State.setLaser_preserves {r : State} : ∀ (s : State) a1 a2 a3,
    Preserves r s → Preserves r (State.setLaser s a1 a2 a3) :=
  fun _ _ _ _ h => Preserves.through (State.setLaser_within _ _ _ _) rfl h

/-! ## Machine/Optics.lean -/

theorem State.startTakeover_preserves {r : State} : ∀ a0 a1 (s : State),
    Preserves r s → Preserves r (State.startTakeover a0 a1 s) := by
  intro a0 a1 s h
  unfold State.startTakeover
  repeat' first
    | with_reducible assumption | with_reducible apply State.setLaser_preserves
    | with_reducible apply State.endMaint_preserves | split | extract_lets
    | ((fail_if_success with_reducible apply Preserves.upd_pending); with_reducible apply Preserves.upd_optics)

theorem execLaserTakeoverRequest_preserves {r : State} : ∀ a0 a1 (s : State),
    Preserves r s → PreservesNext r (execLaserTakeoverRequest a0 a1 s) := by
  intro a0 a1 s h
  unfold execLaserTakeoverRequest
  repeat' first
    | with_reducible assumption | with_reducible apply State.setLaser_preserves
    | with_reducible apply State.requestMaint_preserves | with_reducible apply State.gate_preserves
    | with_reducible apply State.startTakeover_preserves | with_reducible apply State.status_preserves
    | with_reducible apply PreservesNext.ok | exact PreservesNext.fault _ | split | extract_lets
    | with_reducible intro _

theorem execLaserRead_preserves {r : State} : ∀ a0 a1 (s : State),
    Preserves r s → PreservesNext r (execLaserRead a0 a1 s) := by
  intro a0 a1 s h
  unfold execLaserRead
  repeat' first
    | with_reducible assumption | with_reducible apply State.wrWords_preserves
    | with_reducible apply State.gate_preserves | with_reducible apply State.status_preserves
    | with_reducible apply PreservesNext.ok | exact PreservesNext.fault _ | split | extract_lets
    | with_reducible intro _

theorem execLaserFail_preserves {r : State} : ∀ a0 a1 (s : State),
    Preserves r s → PreservesNext r (execLaserFail a0 a1 s) := by
  intro a0 a1 s h
  unfold execLaserFail
  repeat' first
    | with_reducible assumption | with_reducible apply State.setPort_preserves
    | with_reducible apply State.setLaser_preserves | with_reducible apply State.degrade_preserves
    | with_reducible apply State.startTakeover_preserves | with_reducible apply PreservesNext.ok
    | exact PreservesNext.fault _ | split | extract_lets

theorem State.dropTakeover_preserves {r : State} : ∀ (s : State) a1 a2,
    Preserves r s → Preserves r (State.dropTakeover s a1 a2) :=
  fun _ _ _ h => Preserves.through (State.dropTakeover_within _ _ _) rfl h

theorem execTakeoverSwitch_preserves {r : State} : ∀ a0 a1 (s : State),
    Preserves r s → PreservesNext r (execTakeoverSwitch a0 a1 s) := by
  intro a0 a1 s h
  unfold execTakeoverSwitch
  repeat' first
    | with_reducible assumption | with_reducible apply State.dropTakeover_preserves
    | with_reducible apply State.bump_preserves | with_reducible apply State.setPort_preserves
    | with_reducible apply State.setLaser_preserves | with_reducible apply State.endMaint_preserves
    | with_reducible apply State.raise_preserves | with_reducible apply State.beginTraining_preserves
    | with_reducible apply PreservesNext.ok | exact PreservesNext.fault _ | split | extract_lets

theorem execSpareWarmDone_preserves {r : State} : ∀ a0 a1 a2 (s : State),
    Preserves r s → PreservesNext r (execSpareWarmDone a0 a1 a2 s) := by
  intro a0 a1 a2 s h
  unfold execSpareWarmDone
  repeat' first
    | with_reducible assumption | with_reducible apply State.dropTakeover_preserves
    | with_reducible apply State.setLaser_preserves | with_reducible apply State.startTakeover_preserves
    | with_reducible apply PreservesNext.ok | exact PreservesNext.fault _ | split | extract_lets
    | ((fail_if_success with_reducible apply Preserves.upd_pending); with_reducible apply Preserves.upd_optics)

/-! ## Machine/Ether.lean -/

theorem State.answerEth_preserves {r : State} : ∀ (s : State) a1,
    Preserves r s → Preserves r (State.answerEth s a1) := by
  intro s a1 h
  unfold State.answerEth
  repeat' first
    | with_reducible assumption | with_reducible apply State.wrWords_preserves
    | with_reducible apply State.status_preserves | split

theorem State.ethRead_preserves {r : State} : ∀ (s : State) a1 a2 a3 a4 a5 a6 a7,
    Preserves r s → Preserves r (State.ethRead s a1 a2 a3 a4 a5 a6 a7) := by
  intro s a1 a2 a3 a4 a5 a6 a7 h
  unfold State.ethRead
  repeat' first
    | with_reducible assumption | with_reducible apply State.gate_preserves
    | with_reducible apply State.answerEth_preserves | with_reducible apply State.status_preserves | split
    | extract_lets | with_reducible intro _

theorem execEthReadActive_preserves {r : State} : ∀ a0 a1 a2 (s : State),
    Preserves r s → PreservesNext r (execEthReadActive a0 a1 a2 s) := by
  intro a0 a1 a2 s h
  unfold execEthReadActive
  repeat' first
    | with_reducible assumption | with_reducible apply State.ethRead_preserves
    | with_reducible apply PreservesNext.ok

theorem execEthReadEntry_preserves {r : State} : ∀ a0 a1 a2 (s : State),
    Preserves r s → PreservesNext r (execEthReadEntry a0 a1 a2 s) := by
  intro a0 a1 a2 s h
  unfold execEthReadEntry
  repeat' first
    | with_reducible assumption | with_reducible apply State.ethRead_preserves
    | with_reducible apply PreservesNext.ok

theorem State.setRouteShadow_preserves {r : State} : ∀ (s : State) a1 a2,
    Preserves r s → Preserves r (State.setRouteShadow s a1 a2) :=
  fun _ _ _ h => Preserves.through (State.setRouteShadow_within _ _ _) rfl h

theorem State.writeRoute_preserves {r : State} : ∀ (s : State) a1 a2,
    Preserves r s → Preserves r (State.writeRoute s a1 a2) := by
  intro s a1 a2 h
  unfold State.writeRoute
  repeat' first
    | with_reducible assumption | with_reducible apply State.setRouteShadow_preserves
    | with_reducible apply State.status_preserves | split | extract_lets

theorem State.writeMac_preserves {r : State} : ∀ (s : State) a1 a2,
    Preserves r s → Preserves r (State.writeMac s a1 a2) := by
  intro s a1 a2 h
  unfold State.writeMac
  repeat' first
    | with_reducible assumption | with_reducible apply State.setMac_preserves
    | with_reducible apply State.status_preserves | split | extract_lets

theorem execEthWriteEntry_preserves {r : State} : ∀ a0 a1 a2 (s : State),
    Preserves r s → PreservesNext r (execEthWriteEntry a0 a1 a2 s) := by
  intro a0 a1 a2 s h
  unfold execEthWriteEntry
  repeat' first
    | with_reducible assumption | with_reducible apply State.writeRoute_preserves
    | with_reducible apply State.gate_preserves | with_reducible apply State.writeMac_preserves
    | with_reducible apply State.status_preserves | with_reducible apply PreservesNext.ok
    | exact PreservesNext.fault _ | split | extract_lets
    | ((fail_if_success with_reducible apply Preserves.upd_pending); with_reducible apply Preserves.upd_tab)
    | with_reducible intro _

theorem State.admitFrame_preserves {r : State} : ∀ (s : State) a1 a2,
    Preserves r s → Preserves r (State.admitFrame s a1 a2) :=
  fun _ _ _ h => Preserves.through (State.admitFrame_within _ _ _) rfl h

theorem execEthFrameReceive_preserves {r : State} : ∀ a0 a1 (s : State),
    Preserves r s → PreservesNext r (execEthFrameReceive a0 a1 s) := by
  intro a0 a1 s h
  unfold execEthFrameReceive
  repeat' first
    | with_reducible assumption | with_reducible apply State.bump_preserves
    | with_reducible apply State.setPort_preserves | with_reducible apply State.admitFrame_preserves
    | with_reducible apply State.bumpPort_preserves | with_reducible apply State.countDrop_preserves
    | with_reducible apply PreservesNext.ok | exact PreservesNext.fault _ | split | extract_lets

/-! ## Machine/Time.lean -/

theorem State.setPtp_preserves {r : State} : ∀ (s : State) a1, Preserves r s → Preserves r (State.setPtp s a1) := by
  intro s a1 h
  unfold State.setPtp
  repeat' first
    | with_reducible assumption | exact rfl | split | extract_lets
    | ((fail_if_success with_reducible apply Preserves.upd_pending); with_reducible apply Preserves.upd_timing)

theorem State.follow_preserves {r : State} : ∀ (s : State) a1, Preserves r s → Preserves r (State.follow s a1) := by
  intro s a1 h
  unfold State.follow
  repeat' first
    | with_reducible assumption | exact rfl | with_reducible apply State.setPtp_preserves | split | extract_lets
    | ((fail_if_success with_reducible apply Preserves.upd_pending); with_reducible apply Preserves.upd_timing)

theorem State.announced_preserves {r : State} : ∀ (s : State) a1,
    Preserves r s → Preserves r (State.announced s a1) := by
  intro s a1 h
  unfold State.announced
  repeat' first
    | with_reducible assumption | with_reducible apply State.follow_preserves
    | with_reducible apply State.setPtp_preserves | split | extract_lets

theorem State.timeEvent_preserves {r : State} : ∀ (s : State) a1 a2 a3,
    Preserves r s → Preserves r (State.timeEvent s a1 a2 a3) := by
  intro s a1 a2 a3 h
  unfold State.timeEvent
  repeat' first
    | with_reducible assumption | with_reducible apply State.raise_preserves

theorem State.bigOffset_preserves {r : State} : ∀ (s : State) a1,
    Preserves r s → Preserves r (State.bigOffset s a1) := by
  intro s a1 h
  unfold State.bigOffset
  repeat' first
    | with_reducible assumption | exact rfl | with_reducible apply State.timeEvent_preserves | split | extract_lets
    | ((fail_if_success with_reducible apply Preserves.upd_pending); with_reducible apply Preserves.upd_timing)

theorem State.correctRate_preserves {r : State} : ∀ (s : State), Preserves r s → Preserves r (State.correctRate s) :=
  fun _ h => Preserves.through (State.tick_within _) rfl (Preserves.upd_clk h rfl)

/-- A step to a state of TB0 that is LOCKED, HOLDOVER or, before the first-lock step, any. -/
theorem State.HoldsTime.to {s t : State} (off : t.clk.tb0Off = s.clk.tb0Off)
    (stepped : t.timing.stepped = s.timing.stepped)
    (settles : s.tb0Settled = true → s.timing.stepped = true → t.timing.st = .locked ∨ t.timing.st = .holdover) :
    s.HoldsTime t := by
  refine fun settled => ⟨?_, fun was => ⟨stepped.trans was, off⟩⟩
  rw [State.tb0Settled, stepped]
  cases e : s.timing.stepped with
  | false => rfl
  | true => rcases settles settled e with k | k <;> rw [k] <;> rfl

theorem State.timeTo_preserves {r s : State} {st : TimeState} (h : Preserves r s)
    (settles : s.tb0Settled = true → s.timing.stepped = true → st = .locked ∨ st = .holdover) :
    Preserves r (s.timeTo st) :=
  State.timeEvent_preserves _ _ _ _ { h with time := h.time.trans (State.HoldsTime.to rfl rfl settles) }

theorem State.retimeCommit_preserves {r : State} : ∀ (s : State),
    Preserves r s → Preserves r (State.retimeCommit s) :=
  fun _ h => Preserves.through (State.retimeCommit_within _) rfl h

theorem State.not_stepped_of_settled {s : State} {st : TimeState} (settled : s.tb0Settled = true)
    (at_ : s.timing.st = st) (other : st ≠ .locked ∧ st ≠ .holdover) : s.timing.stepped = false := by
  obtain ⟨notLocked, notHoldover⟩ := other
  simpa [State.tb0Settled, at_, notLocked, notHoldover] using settled

theorem State.timeTo_retimeCommit (s : State) (st : TimeState) :
    s.retimeCommit.timeTo st = (({ s with timing := { s.timing with st := st, recent := [] } } : State).retimeCommit).timeEvent
      0 0 s.timing.lastOffset := by
  unfold State.timeTo State.retimeCommit
  split <;> rfl

/-- The first-lock step, taken where none has been. -/
theorem State.firstLock_preserves {r s : State} {t : Int} (h : Preserves r s)
    (unstepped : s.tb0Settled = true → s.timing.stepped = false) : Preserves r (s.firstLock t) := by
  have accounted := State.accountPlanes_preserves s h
  have before : r.tb0Settled = true → r.timing.stepped = false := fun settled => by
    obtain ⟨settledS, stays⟩ := h.time settled
    cases was : r.timing.stepped with
    | false => rfl
    | true => exact absurd (stays was).1 (by rw [unstepped settledS]; decide)
  unfold State.firstLock
  extract_lets s1 d rebase s2 s3
  rw [State.timeTo_retimeCommit]
  refine State.timeEvent_preserves _ _ _ _ (State.retimeCommit_preserves _ ?_)
  exact { accounted with time := fun settled => ⟨rfl, fun was => by simp [before settled] at was⟩ }

theorem State.measured_preserves {r : State} : ∀ (s : State) o, Preserves r s → Preserves r (State.measured s o) := by
  intro s o h
  unfold State.measured
  split
  · exact h
  extract_lets _ s1
  have noted : Preserves r s1 := h.upd_timing rfl rfl
  have unstepped {st : TimeState} (e : s1.timing.st = st) (other : st ≠ .locked ∧ st ≠ .holdover)
      (settled : s1.tb0Settled = true) : s1.timing.stepped = false := State.not_stepped_of_settled settled e other
  split
  next e =>
    exact (State.timeTo_preserves noted fun settled was => by simp [unstepped e (by decide) settled] at was).upd_timing rfl rfl
  next e =>
    split
    · exact State.firstLock_preserves noted (unstepped e (by decide))
    · exact noted
  next => exact State.bigOffset_preserves _ _ (State.correctRate_preserves _ noted)
  next =>
    refine State.bigOffset_preserves _ _ ?_
    split
    · exact State.correctRate_preserves _ (State.timeTo_preserves noted fun _ _ => .inl rfl)
    · exact noted

theorem State.exchanged_preserves {r : State} : ∀ (s : State) a1,
    Preserves r s → Preserves r (State.exchanged s a1) := by
  intro s a1 h
  unfold State.exchanged
  repeat' first
    | with_reducible assumption | exact rfl | with_reducible apply State.measured_preserves
    | with_reducible apply State.setPtp_preserves | split | extract_lets
    | ((fail_if_success with_reducible apply Preserves.upd_pending); with_reducible apply Preserves.upd_timing)

theorem State.notePps_preserves {r : State} : ∀ (s : State) a1, Preserves r s → Preserves r (State.notePps s a1) := by
  intro s a1 h
  unfold State.notePps
  repeat' first
    | with_reducible assumption | exact rfl | split | extract_lets
    | ((fail_if_success with_reducible apply Preserves.upd_pending); with_reducible apply Preserves.upd_timing)

theorem execTimeSet_preserves {r : State} : ∀ (s : State), Preserves r s → PreservesNext r (execTimeSet s) := by
  intro s h
  refine .ok (State.gate_preserves (fun x hx => ?_) h)
  dsimp only
  split
  · exact State.timeEvent_preserves _ _ _ _ hx
  next unstepped =>
    split
    · exact State.firstLock_preserves hx fun _ => by simpa using unstepped
    · split
      · exact hx.upd_timing rfl rfl
      · exact hx

theorem execTimePacketTimer_preserves {r : State} : ∀ (s : State),
    Preserves r s → PreservesNext r (execTimePacketTimer s) := by
  intro s h
  unfold execTimePacketTimer
  repeat' first
    | with_reducible assumption | with_reducible apply State.sendLocal_preserves
    | with_reducible apply PreservesNext.ok | exact PreservesNext.fault _
    | (with_reducible apply Preserves.each; intro _ _ _) | split

theorem execPtpMessageReceive_preserves {r : State} : ∀ a0 (s : State),
    Preserves r s → PreservesNext r (execPtpMessageReceive a0 s) := by
  intro a0 s h
  unfold execPtpMessageReceive
  repeat' first
    | with_reducible assumption | with_reducible apply State.exchanged_preserves
    | with_reducible apply State.announced_preserves | with_reducible apply State.setPtp_preserves
    | with_reducible apply State.emit_preserves | with_reducible apply PreservesNext.ok
    | exact PreservesNext.fault _ | split | extract_lets

theorem execPtpMessageTimer_preserves {r : State} : ∀ a0 (s : State),
    Preserves r s → PreservesNext r (execPtpMessageTimer a0 s) := by
  intro a0 s h
  unfold execPtpMessageTimer
  repeat' first
    | with_reducible assumption | exact rfl | with_reducible apply State.setPtp_preserves
    | with_reducible apply State.emit_preserves | with_reducible apply PreservesNext.ok
    | exact PreservesNext.fault _ | split | extract_lets
    | ((fail_if_success with_reducible apply Preserves.upd_pending); with_reducible apply Preserves.upd_timing)

theorem execTimeMeasurement_preserves {r : State} : ∀ a0 (s : State),
    Preserves r s → PreservesNext r (execTimeMeasurement a0 s) := by
  intro a0 s h
  unfold execTimeMeasurement
  repeat' first
    | with_reducible assumption | with_reducible apply State.measured_preserves
    | with_reducible apply PreservesNext.ok

theorem execPpsEdge_preserves {r : State} : ∀ a0 (s : State), Preserves r s → PreservesNext r (execPpsEdge a0 s) := by
  intro ref10 s h
  have noted : Preserves r (s.notePps ref10) := h.upd_timing rfl rfl
  unfold execPpsEdge
  extract_lets s1
  split
  next due =>
    obtain ⟨_, _, acquiring, _⟩ := due
    exact .ok (State.firstLock_preserves noted fun settled => State.not_stepped_of_settled settled acquiring (by decide))
  next => exact .ok noted

theorem execTb0Realign_preserves {r : State} : ∀ a0 a1 (s : State),
    Preserves r s → PreservesNext r (execTb0Realign a0 a1 s) := by
  intro a0 a1 s h
  unfold execTb0Realign
  repeat' first
    | with_reducible assumption | exact rfl | with_reducible apply State.raise_preserves
    | with_reducible apply PreservesNext.ok | exact PreservesNext.fault _ | split | extract_lets
    | ((fail_if_success with_reducible apply Preserves.upd_pending); with_reducible apply Preserves.upd_tel)
    | ((fail_if_success with_reducible apply Preserves.upd_pending); with_reducible apply Preserves.upd_timing)

theorem execTimeSourceTimeout_preserves {r : State} : ∀ (s : State),
    Preserves r s → PreservesNext r (execTimeSourceTimeout s) := by
  intro s h
  have reached (t : Nat) : (s.reach t).timing = s.timing := (State.reach_within s t).timing_eq (by decide)
  unfold execTimeSourceTimeout
  split
  · exact .ok h
  split
  next t _ e =>
    refine .ok (State.timeTo_preserves (State.reach_preserves _ _ h) fun settled was => ?_)
    have unstepped := State.not_stepped_of_settled settled ((congrArg Timing.st (reached _)).trans e) (by decide)
    simp [unstepped] at was
  next t _ _ =>
    split
    · exact .ok h
    · exact .ok (State.timeTo_preserves (State.reach_preserves _ _ h) fun _ _ => .inr rfl)
  next => exact .ok h

/-! ## Machine/HostRings.lean -/

theorem State.abortBuffers_preserves {r : State} : ∀ (s : State) a1,
    Preserves r s → Preserves r (State.abortBuffers s a1) := by
  intro s a1 h
  unfold State.abortBuffers
  repeat' first
    | with_reducible assumption | with_reducible apply State.closeDesc_preserves
    | (with_reducible apply Preserves.each; intro _ _ _) | split | extract_lets
    | ((fail_if_success with_reducible apply Preserves.upd_pending); with_reducible apply Preserves.upd_host)

theorem State.dropReport_preserves {r : State} : ∀ (s : State), Preserves r s → Preserves r (State.dropReport s) := by
  intro s h
  unfold State.dropReport
  repeat' first
    | with_reducible assumption | with_reducible apply State.setF_preserves
    | with_reducible apply State.raise_preserves | split | extract_lets
    | ((fail_if_success with_reducible apply Preserves.upd_pending); with_reducible apply Preserves.upd_boot)

theorem State.hostDown_preserves {r : State} : ∀ (s : State) a1,
    Preserves r s → Preserves r (State.hostDown s a1) := by
  intro s a1 h
  unfold State.hostDown
  repeat' first
    | with_reducible assumption | with_reducible apply State.raise_preserves
    | with_reducible apply State.dropReport_preserves | split | extract_lets
    | ((fail_if_success with_reducible apply Preserves.upd_pending); with_reducible apply Preserves.upd_host)

theorem State.sendOnPort_preserves {r : State} : ∀ (s : State) a1 a2,
    Preserves r s → Preserves r (State.sendOnPort s a1 a2) := by
  intro s a1 a2 h
  unfold State.sendOnPort
  repeat' first
    | with_reducible assumption | with_reducible apply State.takeIn_preserves | split | extract_lets
    | ((fail_if_success with_reducible apply Preserves.upd_pending); with_reducible apply Preserves.upd_dp)

theorem State.numbered_preserves {r : State} : ∀ (s : State) a1,
    Preserves r s → Preserves r (State.numbered s a1).2 :=
  fun _ _ h => Preserves.through (State.numbered_within _ _) rfl h

theorem State.countData_preserves {r : State} : ∀ (s : State) a1,
    Preserves r s → Preserves r (State.countData s a1) :=
  fun _ _ h => Preserves.through (State.countData_within _ _) rfl h

theorem State.sendTx_preserves {r : State} : ∀ (s : State) a1 a2 a3,
    Preserves r s → Preserves r (State.sendTx s a1 a2 a3) := by
  intro s a1 a2 a3 h
  unfold State.sendTx
  repeat' first
    | with_reducible assumption | with_reducible apply State.numbered_preserves
    | with_reducible refine Preserves.ofSnd (by assumption) (State.numbered_preserves _ _ ?_)
    | with_reducible apply State.countData_preserves | with_reducible apply State.originate_preserves
    | with_reducible apply State.sendOnPort_preserves | with_reducible apply State.endDesc_preserves | split
    | extract_lets
    | ((fail_if_success with_reducible apply Preserves.upd_pending); with_reducible apply Preserves.upd_host)

theorem State.dataCame_preserves {r : State} : ∀ (s : State) a1 a2,
    Preserves r s → Preserves r (State.dataCame s a1 a2) := by
  intro s a1 a2 h
  unfold State.dataCame
  repeat' first
    | with_reducible assumption | with_reducible apply State.sendMore_preserves
    | with_reducible apply State.setRing_preserves | with_reducible apply State.sendTx_preserves | split

theorem State.endEmpty_preserves {r : State} : ∀ (s : State) a1 a2 a3,
    Preserves r s → Preserves r (State.endEmpty s a1 a2 a3) := by
  intro s a1 a2 a3 h
  unfold State.endEmpty
  repeat' first
    | with_reducible assumption | with_reducible apply State.closeDesc_preserves
    | with_reducible apply State.endDesc_preserves | split

theorem State.markStarted_preserves {r : State} : ∀ (s : State) a1 a2,
    Preserves r s → Preserves r (State.markStarted s a1 a2) :=
  fun _ _ _ h => Preserves.through (State.markStarted_within _ _ _) rfl h

theorem State.failFront_preserves {r : State} : ∀ (s : State) a1 a2,
    Preserves r s → Preserves r (State.failFront s a1 a2) := by
  intro s a1 a2
  induction a2 generalizing s a1 with
  | zero => intro h; unfold State.failFront; exact h
  | succ x ih =>
  intro h
  unfold State.failFront
  repeat' first
    | with_reducible assumption | refine ih _ _ ?_ | with_reducible apply State.markStarted_preserves
    | with_reducible apply State.endDesc_preserves | split

theorem State.hostMemEvent_preserves {r : State} : ∀ (s : State) a1 a2 a3,
    Preserves r s → Preserves r (State.hostMemEvent s a1 a2 a3) := by
  intro s a1 a2 a3 h
  unfold State.hostMemEvent
  repeat' first
    | with_reducible assumption | with_reducible apply State.raise_preserves

theorem State.hostUp_preserves {r : State} : ∀ (s : State), Preserves r s → Preserves r (State.hostUp s) := by
  intro s h
  unfold State.hostUp
  repeat' first
    | with_reducible assumption | with_reducible apply State.hostRead_preserves
    | with_reducible apply State.raise_preserves | with_reducible apply State.pageCause_preserves
    | (with_reducible apply Preserves.each; intro _ _ _) | split | extract_lets
    | ((fail_if_success with_reducible apply Preserves.upd_pending); with_reducible apply Preserves.upd_host)
    | ((fail_if_success with_reducible apply Preserves.upd_pending); with_reducible apply Preserves.upd_host_out)

theorem State.hostResume_preserves {r : State} : ∀ (s : State), Preserves r s → Preserves r (State.hostResume s) := by
  intro s h
  unfold State.hostResume
  repeat' first
    | with_reducible assumption | with_reducible apply State.hostUp_preserves | split | extract_lets
    | ((fail_if_success with_reducible apply Preserves.upd_pending); with_reducible apply Preserves.upd_host)

theorem State.complete_preserves {r : State} : ∀ (s : State) a1 a2,
    Preserves r s → Preserves r (State.complete s a1 a2) :=
  fun _ _ _ h => Preserves.through (State.complete_within _ _ _) rfl h

theorem State.ringError_preserves {r : State} : ∀ (s : State) a1,
    Preserves r s → Preserves r (State.ringError s a1) := by
  intro s a1 h
  unfold State.ringError
  repeat' first
    | with_reducible assumption | with_reducible apply State.complete_preserves
    | with_reducible apply State.raise_preserves | with_reducible apply State.setRing_preserves

theorem State.settleRing_preserves {r : State} : ∀ (s : State) a1,
    Preserves r s → Preserves r (State.settleRing s a1) := by
  intro s a1 h
  unfold State.settleRing
  repeat' first
    | with_reducible assumption | with_reducible apply State.failFront_preserves

theorem State.runDesc_preserves {a op : Nat} {d : Desc} {f : Desc → State → State} {r s : State}
    (k : ∀ d x, Preserves r x → Preserves r (f d x)) (h : Preserves r s) : Preserves r (s.runDesc a op d f) := by
  unfold State.runDesc
  split
  · exact State.settleRing_preserves _ _ (State.endEmpty_preserves _ _ _ _ h)
  · exact State.settleRing_preserves _ _ (k _ _ h)

theorem State.startOp_preserves {a op : Nat} {f : Desc → State → State} {r s : State}
    (k : ∀ d x, Preserves r x → Preserves r (f d x)) (h : Preserves r s) : Preserves r (s.startOp a op f) := by
  have settled := State.settleRing_preserves s a h
  unfold State.startOp
  dsimp only
  split
  · exact settled
  split
  · exact settled
  · exact State.runDesc_preserves k (State.markStarted_preserves _ _ _ settled)

theorem State.takeIndices_preserves {r : State} : ∀ (s : State) a1 a2,
    Preserves r s → Preserves r (State.takeIndices s a1 a2) := by
  intro s a1 a2 h
  unfold State.takeIndices
  repeat' first
    | with_reducible assumption | with_reducible apply State.ringError_preserves
    | with_reducible apply State.setRing_preserves | split | extract_lets

theorem execHostRingDisable_preserves {r : State} : ∀ a0 a1 (s : State),
    Preserves r s → PreservesNext r (execHostRingDisable a0 a1 s) := by
  intro a0 a1 s h
  unfold execHostRingDisable
  repeat' first
    | with_reducible assumption | with_reducible apply State.store_preserves
    | with_reducible apply State.gate_preserves | with_reducible apply State.setRing_preserves
    | with_reducible apply State.abortBuffers_preserves | with_reducible apply PreservesNext.ok
    | exact PreservesNext.fault _ | split | extract_lets | with_reducible intro _

theorem State.setAux_preserves {r : State} : ∀ (s : State) a1 a2,
    Preserves r s → Preserves r (State.setAux s a1 a2) :=
  fun _ _ _ h => Preserves.through (State.setAux_within _ _ _) rfl h

theorem execAuxRingEnable_preserves {r : State} : ∀ a0 a1 (s : State),
    Preserves r s → PreservesNext r (execAuxRingEnable a0 a1 s) := by
  intro a0 a1 s h
  unfold execAuxRingEnable
  repeat' first
    | with_reducible assumption | with_reducible apply State.store_preserves
    | with_reducible apply State.setAux_preserves | with_reducible apply State.gate_preserves
    | with_reducible apply State.hostWrites_preserves | with_reducible apply PreservesNext.ok
    | exact PreservesNext.fault _ | split | extract_lets | with_reducible intro _

theorem execHostRingEnable_preserves {r : State} : ∀ a0 a1 (s : State),
    Preserves r s → PreservesNext r (execHostRingEnable a0 a1 s) := by
  intro a0 a1 s h
  unfold execHostRingEnable
  repeat' first
    | with_reducible assumption | with_reducible apply State.store_preserves
    | with_reducible apply State.gate_preserves | with_reducible apply State.hostWrites_preserves
    | with_reducible apply State.setRing_preserves | with_reducible apply PreservesNext.ok
    | exact PreservesNext.fault _ | split | extract_lets | with_reducible intro _

theorem execInterruptModerationExpiry_preserves {r : State} : ∀ a0 (s : State),
    Preserves r s → PreservesNext r (execInterruptModerationExpiry a0 s) := by
  intro a0 s h
  unfold execInterruptModerationExpiry
  repeat' first
    | with_reducible assumption | with_reducible apply State.setAux_preserves
    | with_reducible apply State.hostWrites_preserves | with_reducible apply State.setRing_preserves
    | with_reducible apply State.reach_preserves | with_reducible apply PreservesNext.ok
    | exact PreservesNext.fault _ | split | extract_lets

theorem State.pump_preserves {r : State} : ∀ (s : State) a1, Preserves r s → Preserves r (State.pump s a1) :=
  fun _ _ h => Preserves.through (State.pump_within _ _) rfl h

theorem State.takeRead_preserves {r : State} : ∀ (s : State) a1,
    Preserves r s → Preserves r (State.takeRead s a1).2 :=
  fun _ _ h => Preserves.through (State.takeRead_within _ _) rfl h

theorem execHmemResponse_preserves {r : State} : ∀ a0 a1 a2 (s : State),
    Preserves r s → PreservesNext r (execHmemResponse a0 a1 a2 s) := by
  intro a0 a1 a2 s h
  unfold execHmemResponse
  repeat' first
    | with_reducible assumption | with_reducible apply State.pump_preserves
    | with_reducible apply State.settleRing_preserves | with_reducible apply State.dataCame_preserves
    | with_reducible apply State.hostMemEvent_preserves | with_reducible apply State.pieceEnds_preserves
    | with_reducible apply State.setRing_preserves | with_reducible apply State.endDesc_preserves
    | with_reducible apply State.takeRead_preserves
    | with_reducible refine Preserves.ofSnd (by assumption) (State.takeRead_preserves _ _ ?_)
    | with_reducible apply PreservesNext.ok | exact PreservesNext.fault _ | split | extract_lets

theorem State.startMem_preserves {r : State} : ∀ (s : State) a1 a2,
    Preserves r s → Preserves r (State.startMem s a1 a2) :=
  fun _ _ _ h => Preserves.through (State.startMem_within _ _ _) rfl h

theorem execMemRead_preserves {r : State} : ∀ a0 (s : State), Preserves r s → PreservesNext r (execMemRead a0 s) := by
  intro a0 s h
  unfold execMemRead
  repeat' first
    | with_reducible assumption | with_reducible apply State.startMem_preserves
    | with_reducible apply State.startOp_preserves | with_reducible apply PreservesNext.ok
    | exact PreservesNext.fault _ | split | extract_lets | with_reducible intro _

theorem execDescriptorFetch_preserves {r : State} : ∀ a0 a1 a2 (s : State),
    Preserves r s → PreservesNext r (execDescriptorFetch a0 a1 a2 s) := by
  intro a0 a1 a2 s h
  unfold execDescriptorFetch
  repeat' first
    | with_reducible assumption | with_reducible apply State.pump_preserves
    | with_reducible apply State.settleRing_preserves | with_reducible apply State.hostMemEvent_preserves
    | with_reducible apply State.setRing_preserves | with_reducible apply State.takeRead_preserves
    | with_reducible refine Preserves.ofSnd (by assumption) (State.takeRead_preserves _ _ ?_)
    | with_reducible apply PreservesNext.ok | exact PreservesNext.fault _ | split | extract_lets

theorem execHostLinkUp_preserves {r : State} : ∀ a0 (s : State),
    Preserves r s → PreservesNext r (execHostLinkUp a0 s) := by
  intro a0 s h
  unfold execHostLinkUp
  repeat' first
    | with_reducible assumption | with_reducible apply State.hostUp_preserves
    | with_reducible apply PreservesNext.ok | exact PreservesNext.fault _ | split | extract_lets
    | ((fail_if_success with_reducible apply Preserves.upd_pending); with_reducible apply Preserves.upd_host)

theorem State.askData_preserves {r : State} : ∀ (s : State) a1 a2 a3,
    Preserves r s → Preserves r (State.askData s a1 a2 a3) :=
  fun _ _ _ _ h => Preserves.through (State.askData_within _ _ _ _) rfl h

theorem execTxPacket_preserves {r : State} : ∀ a0 (s : State),
    Preserves r s → PreservesNext r (execTxPacket a0 s) := by
  intro a0 s h
  unfold execTxPacket
  repeat' first
    | with_reducible assumption | with_reducible apply State.askData_preserves
    | with_reducible apply State.startOp_preserves | with_reducible apply PreservesNext.ok
    | exact PreservesNext.fault _ | split | extract_lets | with_reducible intro _

theorem execDoorbellPageReturn_preserves {r : State} : ∀ a0 a1 (s : State),
    Preserves r s → PreservesNext r (execDoorbellPageReturn a0 a1 s) := by
  intro a0 a1 s h
  unfold execDoorbellPageReturn
  repeat' first
    | with_reducible assumption | with_reducible apply State.pump_preserves
    | with_reducible apply State.settleRing_preserves | with_reducible apply State.takeIndices_preserves
    | with_reducible apply State.pageCause_preserves | with_reducible apply PreservesNext.ok
    | exact PreservesNext.fault _ | (with_reducible apply Preserves.each; intro _ _ _) | split | extract_lets
    | ((fail_if_success with_reducible apply Preserves.upd_pending); with_reducible apply Preserves.upd_host)

theorem execMemAtomic_preserves {r : State} : ∀ a0 (s : State),
    Preserves r s → PreservesNext r (execMemAtomic a0 s) := by
  intro a0 s h
  unfold execMemAtomic
  repeat' first
    | with_reducible assumption | with_reducible apply State.startMem_preserves
    | with_reducible apply State.startOp_preserves | with_reducible apply PreservesNext.ok
    | exact PreservesNext.fault _ | split | extract_lets | with_reducible intro _

theorem execNudgeReceive_preserves {r : State} : ∀ a0 (s : State),
    Preserves r s → PreservesNext r (execNudgeReceive a0 s) := by
  intro a0 s h
  unfold execNudgeReceive
  repeat' first
    | with_reducible assumption | with_reducible apply State.bump_preserves
    | with_reducible apply State.pageCause_preserves | with_reducible apply PreservesNext.ok
    | exact PreservesNext.fault _ | split

theorem execHostNop_preserves {r : State} : ∀ a0 (s : State), Preserves r s → PreservesNext r (execHostNop a0 s) := by
  intro a0 s h
  unfold execHostNop
  repeat' first
    | with_reducible assumption | with_reducible apply State.endDesc_preserves
    | with_reducible apply State.startOp_preserves | with_reducible apply PreservesNext.ok
    | exact PreservesNext.fault _ | split | extract_lets | with_reducible intro _

theorem execMemWrite_preserves {r : State} : ∀ a0 (s : State),
    Preserves r s → PreservesNext r (execMemWrite a0 s) := by
  intro a0 s h
  unfold execMemWrite
  repeat' first
    | with_reducible assumption | with_reducible apply State.startMem_preserves
    | with_reducible apply State.startOp_preserves | with_reducible apply PreservesNext.ok
    | exact PreservesNext.fault _ | split | extract_lets | with_reducible intro _

theorem execDoorbellPollTimer_preserves {r : State} : ∀ (s : State),
    Preserves r s → PreservesNext r (execDoorbellPollTimer s) := by
  intro s h
  unfold execDoorbellPollTimer
  repeat' first
    | with_reducible assumption | with_reducible apply State.pageCause_preserves
    | with_reducible apply State.reach_preserves | with_reducible apply PreservesNext.ok
    | exact PreservesNext.fault _ | split | extract_lets

theorem execHostLinkDown_preserves {r : State} : ∀ (s : State),
    Preserves r s → PreservesNext r (execHostLinkDown s) := by
  intro s h
  unfold execHostLinkDown
  repeat' first
    | with_reducible assumption | with_reducible apply State.hostDown_preserves
    | with_reducible apply PreservesNext.ok

theorem execRxPost_preserves {r : State} : ∀ a0 (s : State), Preserves r s → PreservesNext r (execRxPost a0 s) := by
  intro a0 s h
  unfold execRxPost
  repeat' first
    | with_reducible assumption | with_reducible apply State.startOp_preserves
    | with_reducible apply PreservesNext.ok | exact PreservesNext.fault _ | split | extract_lets
    | ((fail_if_success with_reducible apply Preserves.upd_pending); with_reducible apply Preserves.upd_host)
    | with_reducible intro _

theorem State.writeAux_preserves {r : State} : ∀ (s : State) a1 a2,
    Preserves r s → Preserves r (State.writeAux s a1 a2) :=
  fun _ _ _ h => Preserves.through (State.writeAux_within _ _ _) rfl h

theorem execEventDeliver_preserves {r : State} : ∀ (s : State),
    Preserves r s → PreservesNext r (execEventDeliver s) := by
  intro s h
  unfold execEventDeliver
  repeat' first
    | with_reducible assumption | with_reducible apply State.writeAux_preserves
    | with_reducible apply State.raise_preserves | with_reducible apply PreservesNext.ok
    | exact PreservesNext.fault _ | split | extract_lets
    | ((fail_if_success with_reducible apply Preserves.upd_pending); with_reducible apply Preserves.upd_evLost)
    | ((fail_if_success with_reducible apply Preserves.upd_pending); with_reducible apply Preserves.upd_evq)

/-! ## Machine/Domains.lean -/

theorem State.remapLanes_preserves {r : State} : ∀ (s : State) a1,
    Preserves r s → Preserves r (State.remapLanes s a1) := by
  intro s a1 h
  unfold State.remapLanes
  repeat' first
    | with_reducible assumption | with_reducible apply State.setF_preserves
    | with_reducible apply State.setEngine_preserves

theorem State.domainEvent_preserves {r : State} : ∀ (s : State) a1 a2,
    Preserves r s → Preserves r (State.domainEvent s a1 a2) := by
  intro s a1 a2 h
  unfold State.domainEvent
  repeat' first
    | with_reducible assumption | with_reducible apply State.raise_preserves | split | extract_lets

theorem State.opDone_preserves {r : State} : ∀ (s : State) a1, Preserves r s → Preserves r (State.opDone s a1) := by
  intro s a1 h
  unfold State.opDone
  repeat' first
    | with_reducible assumption | with_reducible apply State.domainEvent_preserves
    | with_reducible apply State.endMaint_preserves | with_reducible apply State.raise_preserves | split

theorem State.forgetPeers_preserves {r : State} : ∀ (s : State), Preserves r s → Preserves r (State.forgetPeers s) :=
  fun _ h => (State.accountPlanes_preserves _ h).upd_peers fun _ => rfl

theorem Tbl.wf_foldl_bare (ports : Tbl Port) : Tbl.wf (fun _ => Port.init)
    (ports.foldl (fun t x => Tbl.put (fun _ => Port.init) t x.1 x.2.bare) []) = true :=
  Tbl.wf_foldl (fun _ x w => Tbl.wf_put w x.1 x.2.bare) _ rfl

theorem State.portsLost_preserves {r : State} : ∀ (s : State) n, Preserves r s → Preserves r (State.portsLost s n) := by
  intro s n h
  refine h.upd_dp_sched_ports_links_macs (fun w => Tbl.wf_foldl (fun t x w => ?_) _ w) (fun w => Tbl.wf_filter w _)
  split
  · exact Tbl.wf_put w x.1 x.2.bare
  · exact w

theorem State.resetDomain_preserves {r : State} : ∀ (s : State) n, Preserves r s → Preserves r (State.resetDomain s n) :=
  fun _ _ h => h.upd_regs_cnt (fun w => resetWords_wf w _ _) (fun w => Tbl.wf_filter w _)

/-- What a die's memory domain loses besides its contents leaves the tables of the canonical form as they are. -/
theorem Preserves.upd_die {r s : State} {lo hi : Nat} {fixed : _} {retiring : _} {retireQ : _} {ue : _} {raw : _} {cls : _}
    {keep : Nat × Home → Bool} (h : Preserves r s) :
    Preserves r { s with
      mem := { s.mem.clear lo hi with fixed := fixed, retiring := retiring, retireQ := retireQ, ueTimes := ue,
                                      rawClass := raw, class_ := cls },
      homes := s.homes.filter keep } :=
  { h with
    homes := fun w => Tbl.wf_filter (h.homes w) keep
    mem := fun w => Memory.wf_congr rfl rfl rfl rfl (Memory.clear_wf (h.mem w) lo hi) }

theorem State.hbmLost_preserves {r : State} : ∀ (s : State) d, Preserves r s → Preserves r (State.hbmLost s d) := by
  intro s d h
  have off (k : Nat) (x : State) (hx : Preserves r x) : Preserves r (if x.stackSt k = 0 then x else x.stackTo k 0) := by
    split
    · exact hx
    · exact State.stackTo_preserves _ _ _ hx
  have lost := State.homeLost_preserves _ d (State.canvasDieLost_preserves _ d (State.pagesLost_preserves _ false d
    (Preserves.each off (l := (List.range 8).map (· + 8 * d)) h)))
  unfold State.hbmLost
  dsimp only
  refine Preserves.each (fun _ x k => State.setStack_preserves _ _ _ k) (State.resetDomain_preserves _ _ ?_)
  exact Preserves.each (fun k x hx => State.endMaint_preserves _ _ _ hx) lost.upd_die

theorem State.dropRings_preserves {r : State} : ∀ (s : State) a1,
    Preserves r s → Preserves r (State.dropRings s a1) :=
  fun _ _ h => Preserves.through (State.dropRings_within _ _) rfl h

theorem State.palLost_preserves {r : State} : ∀ (s : State) a1 a2,
    Preserves r s → Preserves r (State.palLost s a1 a2) := by
  intro s a1 a2 h
  unfold State.palLost
  repeat' first
    | with_reducible assumption | with_reducible apply State.updDie_preserves
    | with_reducible apply State.remapLanes_preserves | with_reducible apply State.endMaint_preserves
    | with_reducible apply State.resetDomain_preserves | with_reducible apply State.setEngState_preserves
    | with_reducible apply State.dropRings_preserves | with_reducible apply State.setEngine_preserves
    | with_reducible apply State.engineLost_preserves | (with_reducible apply Preserves.each; intro _ _ _) | split
    | extract_lets
    | ((fail_if_success with_reducible apply Preserves.upd_pending); with_reducible apply Preserves.upd_pal)

theorem State.discardSpill_preserves {r : State} : ∀ (s : State),
    Preserves r s → Preserves r (State.discardSpill s) := by
  intro s h
  unfold State.discardSpill
  repeat' first
    | with_reducible assumption | with_reducible apply State.emptied_preserves
    | with_reducible apply State.dropItem_preserves | (with_reducible apply Preserves.each; intro _ _ _) | split
    | extract_lets
    | ((fail_if_success with_reducible apply Preserves.upd_pending); with_reducible apply Preserves.upd_dp)

theorem Memory.dropCxl_wf {m : Memory} (h : m.wf = true) (fails ens : Tbl (Option Nat)) :
    ({ m with cxlBytes := [], cxlFailAt := fails, cxlEnAt := ens } : Memory).wf = true := by
  rw [Memory.wf_iff] at h ⊢
  obtain ⟨bytes, -, poison, bad⟩ := h
  exact ⟨bytes, rfl, poison, bad⟩

theorem State.cxlLost_preserves {r : State} : ∀ (s : State), Preserves r s → Preserves r (State.cxlLost s) := by
  intro s h
  have down (k : Nat) (x : State) (hx : Preserves r x) : Preserves r (if x.cxlSt k = 0 then x else
      ((x.cxlDown k 0).endMaint (.cxlAdd k) 3).endMaint (.cxlRemove k) 3) := by
    split
    · exact hx
    · exact State.endMaint_preserves _ _ _ (State.endMaint_preserves _ _ _ (State.cxlDown_preserves _ _ _ hx))
  have discarded := State.resetDomain_preserves _ 20 (State.discardSpill_preserves _
    (Preserves.each down (l := List.range 8) h))
  exact discarded.upd_dp_mem fun w => Memory.dropCxl_wf w _ _

theorem State.dropHubJobs_preserves {r : State} : ∀ (s : State),
    Preserves r s → Preserves r (State.dropHubJobs s) := by
  intro s h
  unfold State.dropHubJobs
  repeat' first
    | with_reducible assumption | with_reducible apply State.setF_preserves
    | with_reducible apply State.maintEvent_preserves | (with_reducible apply Preserves.each; intro _ _ _) | split
    | extract_lets
    | ((fail_if_success with_reducible apply Preserves.upd_pending); with_reducible apply Preserves.upd_maint)

/-- What PD02's loss takes leaves the tables of the canonical form as they are. -/
theorem Preserves.upd_hub {r s : State} {evLostOff evLost : Nat} {evq : List EvRec} {host : HostLink} {req : Requesters}
    {tel : Telemetry} {boot : Boot} {interval heat : Nat} {placed : Tbl (Option Nat)} (h : Preserves r s) :
    Preserves r { s with
      evLostOff := evLostOff, evq := evq, evLost := evLost, host := host, req := req, tel := tel, boot := boot,
      mem := { s.mem with intervalAt := interval, heatAt := heat, placedAt := placed } } :=
  { h with mem := fun w => Memory.wf_congr rfl rfl rfl rfl (h.mem w) }

theorem State.hubLost_preserves {r : State} : ∀ (s : State), Preserves r s → Preserves r (State.hubLost s) :=
  fun _ h => State.resetDomain_preserves _ _
    (Preserves.upd_hub (State.dropHubJobs_preserves _ (State.hostDown_preserves _ _ h)))

theorem State.spineSideLost_preserves {r : State} : ∀ (s : State), Preserves r s → Preserves r (State.spineSideLost s) :=
  fun _ h => h.upd_dp_peers_planes_prism (fun _ => rfl) (fun _ => rfl)

theorem State.coreLost_preserves {r : State} : ∀ (s : State), Preserves r s → Preserves r (State.coreLost s) :=
  fun _ h => Preserves.through (State.coreLost_within _) rfl h

theorem State.lose_preserves {r : State} : ∀ (s : State) a1 a2, Preserves r s → Preserves r (State.lose s a1 a2) := by
  intro s a1 a2 h
  unfold State.lose
  repeat' first
    | with_reducible assumption | with_reducible apply State.forgetPeers_preserves
    | with_reducible apply State.portsLost_preserves | with_reducible apply State.coreLost_preserves
    | with_reducible apply State.resetDomain_preserves | with_reducible apply State.hbmLost_preserves
    | with_reducible apply State.palLost_preserves | with_reducible apply State.cxlLost_preserves
    | with_reducible apply State.hubLost_preserves | with_reducible apply State.spineSideLost_preserves | split
    | extract_lets
    | ((fail_if_success with_reducible apply Preserves.upd_pending); with_reducible apply Preserves.upd_optics)

theorem State.shutCrossings_preserves {r : State} : ∀ (s : State) a1,
    Preserves r s → Preserves r (State.shutCrossings s a1) := by
  intro s a1 h
  unfold State.shutCrossings
  repeat' first
    | with_reducible assumption | with_reducible apply State.xShut_preserves
    | (with_reducible apply Preserves.each; intro _ _ _) | split

theorem State.dieLinkEvent_preserves {r : State} : ∀ (s : State) a1,
    Preserves r s → Preserves r (State.dieLinkEvent s a1) := by
  intro s a1 h
  unfold State.dieLinkEvent
  repeat' first
    | with_reducible assumption | with_reducible apply State.raise_preserves

theorem State.tryLink_preserves {r : State} : ∀ (s : State) a1, Preserves r s → Preserves r (State.tryLink s a1) :=
  fun _ _ h => Preserves.through (State.tryLink_within _ _) rfl h

theorem State.dieLinkOff_preserves {r : State} : ∀ (s : State) a1,
    Preserves r s → Preserves r (State.dieLinkOff s a1) := by
  intro s a1 h
  unfold State.dieLinkOff
  repeat' first
    | with_reducible assumption | with_reducible apply State.setF_preserves
    | with_reducible apply State.xShut_preserves | with_reducible apply State.tryLink_preserves
    | with_reducible apply State.dieLinkEvent_preserves | split

theorem State.clamp_preserves {r : State} : ∀ (s : State) a1 a2,
    Preserves r s → Preserves r (State.clamp s a1 a2) := by
  intro s a1 a2 h
  unfold State.clamp
  repeat' first
    | with_reducible assumption | with_reducible apply State.setF_preserves
    | with_reducible apply State.dieLinkOff_preserves | (with_reducible apply Preserves.each; intro _ _ _) | split

theorem State.noteDomain_preserves {r : State} : ∀ (s : State) a1,
    Preserves r s → Preserves r (State.noteDomain s a1) :=
  fun _ _ h => Preserves.through (State.noteDomain_within _ _) rfl h

theorem State.enterDomain_preserves {r : State} : ∀ (s : State) a1 a2,
    Preserves r s → Preserves r (State.enterDomain s a1 a2) := by
  intro s a1 a2 h
  unfold State.enterDomain
  repeat' first
    | with_reducible assumption | exact fun w => Tbl.wf_put w _ _
    | with_reducible apply State.accountPlanes_preserves | with_reducible apply State.noteDomain_preserves
    | with_reducible apply State.takeDown_preserves | with_reducible apply State.lose_preserves
    | with_reducible apply State.shutCrossings_preserves | with_reducible apply State.deathByPlanes_preserves
    | with_reducible apply State.cutBudgets_preserves | with_reducible apply State.clamp_preserves
    | with_reducible apply State.canvasEngines_preserves | with_reducible apply State.emit_preserves
    | (with_reducible apply Preserves.each; intro _ _ _) | split | extract_lets
    | ((fail_if_success with_reducible apply Preserves.upd_pending); with_reducible apply Preserves.upd_dom_pwr)

theorem State.withdrawPorts_preserves {r : State} : ∀ (s : State) a1 a2,
    Preserves r s → Preserves r (State.withdrawPorts s a1 a2) := by
  intro s a1 a2 h
  unfold State.withdrawPorts
  repeat' first
    | with_reducible assumption | with_reducible apply State.sendWithdraw_preserves
    | (with_reducible apply Preserves.each; intro _ _ _) | split

theorem State.startDrainDomain_preserves {r : State} : ∀ (s : State) a1 a2 a3,
    Preserves r s → Preserves r (State.startDrainDomain s a1 a2 a3) := by
  intro s a1 a2 a3 h
  unfold State.startDrainDomain
  repeat' first
    | with_reducible assumption | exact fun w => Tbl.wf_put w _ _ | with_reducible apply State.noteDomain_preserves
    | with_reducible apply State.retarget_preserves | with_reducible apply State.setEngine_preserves
    | with_reducible apply State.cutBudgets_preserves | with_reducible apply State.canvasEngines_preserves
    | with_reducible apply State.withdrawPorts_preserves | (with_reducible apply Preserves.each; intro _ _ _)
    | split | extract_lets
    | ((fail_if_success with_reducible apply Preserves.upd_pending); with_reducible apply Preserves.upd_dom_pwr)

theorem State.runOp_preserves {r : State} : ∀ (s : State) a1 a2,
    Preserves r s → Preserves r (State.runOp s a1 a2).2 := by
  intro s a1 a2
  induction a2 generalizing s a1 with
  | zero => intro h; unfold State.runOp; exact h
  | succ x ih =>
  intro h
  unfold State.runOp
  repeat' first
    | with_reducible assumption | exact fun w => Tbl.wf_put w _ _ | refine ih _ _ ?_
    | with_reducible apply State.opDone_preserves | with_reducible apply State.enterDomain_preserves
    | with_reducible apply State.startDrainDomain_preserves | split | extract_lets
    | ((fail_if_success with_reducible apply Preserves.upd_pending); with_reducible apply Preserves.upd_dom)
    | ((fail_if_success with_reducible apply Preserves.upd_pending); with_reducible apply Preserves.upd_pwr)
    | ((fail_if_success with_reducible apply Preserves.upd_pending); with_reducible apply Preserves.upd_dom_pwr)
    | ((fail_if_success with_reducible apply Preserves.upd_pending); with_reducible apply Preserves.upd_pwr_boot)

theorem State.runOps_preserves {r : State} : ∀ (s : State) a1, Preserves r s → Preserves r (State.runOps s a1) := by
  intro s a1
  induction a1 generalizing s with
  | nil => intro h; unfold State.runOps; exact h
  | cons x l ih =>
  intro h
  unfold State.runOps
  repeat' first
    | with_reducible assumption | refine ih _ ?_ | with_reducible apply State.runOp_preserves
    | with_reducible refine Preserves.ofSnd (by assumption) (State.runOp_preserves _ _ _ ?_) | split | extract_lets
    | ((fail_if_success with_reducible apply Preserves.upd_pending); with_reducible apply Preserves.upd_pwr)

theorem State.advanceOps_preserves {r : State} : ∀ (s : State) a1,
    Preserves r s → Preserves r (State.advanceOps s a1) := by
  intro s a1
  induction a1 generalizing s with
  | zero => intro h; unfold State.advanceOps; exact h
  | succ x ih =>
  intro h
  unfold State.advanceOps
  repeat' first
    | with_reducible assumption | refine ih _ ?_ | with_reducible apply State.runOps_preserves | split
    | extract_lets
    | ((fail_if_success with_reducible apply Preserves.upd_pending); with_reducible apply Preserves.upd_pwr)

theorem State.attempt_preserves {r : State} : ∀ (s : State) a1, Preserves r s → Preserves r (State.attempt s a1) := by
  intro s a1 h
  unfold State.attempt
  repeat' first
    | with_reducible assumption | with_reducible apply State.setF_preserves | split | extract_lets
    | ((fail_if_success with_reducible apply Preserves.upd_pending); with_reducible apply Preserves.upd_boot)

theorem State.measure_preserves {r : State} : ∀ (s : State) a1 a2,
    Preserves r s → Preserves r (State.measure s a1 a2) := by
  intro s a1 a2 h
  unfold State.measure
  repeat' first
    | with_reducible assumption | with_reducible apply State.setF_preserves
    | with_reducible apply State.raise_preserves | split | extract_lets
    | ((fail_if_success with_reducible apply Preserves.upd_pending); with_reducible apply Preserves.upd_boot)

theorem State.startBoot_preserves {r : State} : ∀ (s : State), Preserves r s → Preserves r (State.startBoot s) := by
  intro s h
  unfold State.startBoot
  repeat' first
    | with_reducible assumption | with_reducible apply State.attempt_preserves
    | with_reducible apply State.setF_preserves | with_reducible apply State.measure_preserves | split
    | extract_lets
    | ((fail_if_success with_reducible apply Preserves.upd_pending); with_reducible apply Preserves.upd_pwr_boot)

theorem State.domainsGo_preserves {r : State} : ∀ (s : State), Preserves r s → Preserves r (State.domainsGo s) := by
  intro s h
  unfold State.domainsGo
  repeat' first
    | with_reducible assumption | with_reducible apply State.advanceOps_preserves
    | with_reducible apply State.startBoot_preserves | split | extract_lets

theorem State.addOp_preserves {r : State} : ∀ (s : State) a1 a2 a3,
    Preserves r s → Preserves r (State.addOp s a1 a2 a3) := by
  intro s a1 a2 a3 h
  unfold State.addOp
  repeat' first
    | with_reducible assumption | with_reducible apply State.domainsGo_preserves | split | extract_lets
    | ((fail_if_success with_reducible apply Preserves.upd_pending); with_reducible apply Preserves.upd_pwr)

theorem State.openCrossings_preserves {r : State} : ∀ (s : State),
    Preserves r s → Preserves r (State.openCrossings s) := by
  intro s h
  unfold State.openCrossings
  repeat' first
    | with_reducible assumption | with_reducible apply State.xAnnounce_preserves
    | (with_reducible apply Preserves.each; intro _ _ _) | split

theorem State.unitsOn_preserves {r : State} : ∀ (s : State) a1 a2,
    Preserves r s → Preserves r (State.unitsOn s a1 a2) := by
  intro s a1 a2 h
  unfold State.unitsOn
  repeat' first
    | with_reducible assumption | with_reducible apply State.retarget_preserves
    | with_reducible apply State.setEngine_preserves | with_reducible apply State.startWindow_preserves
    | with_reducible apply State.stackTo_preserves | (with_reducible apply Preserves.each; intro _ _ _) | split

theorem State.startBases_preserves {r : State} : ∀ (s : State) a1,
    Preserves r s → Preserves r (State.startBases s a1) := by
  intro s a1 h
  unfold State.startBases
  repeat' first
    | with_reducible assumption | exact rfl | split | extract_lets
    | ((fail_if_success with_reducible apply Preserves.upd_pending); with_reducible apply Preserves.upd_timing)

theorem State.portsOn_preserves {r : State} : ∀ (s : State) a1, Preserves r s → Preserves r (State.portsOn s a1) := by
  intro s a1 h
  unfold State.portsOn
  repeat' first
    | with_reducible assumption | with_reducible apply State.startListening_preserves
    | with_reducible apply State.beginTraining_preserves | (with_reducible apply Preserves.each; intro _ _ _)
    | split

theorem State.dieLinkOn_preserves {r : State} : ∀ (s : State) a1 a2,
    Preserves r s → Preserves r (State.dieLinkOn s a1 a2) := by
  intro s a1 a2 h
  unfold State.dieLinkOn
  repeat' first
    | with_reducible assumption | with_reducible apply State.setF_preserves
    | with_reducible apply State.xAnnounce_preserves | with_reducible apply State.dieLinkEvent_preserves

theorem State.trainDie_preserves {r : State} : ∀ (s : State) a1 a2,
    Preserves r s → Preserves r (State.trainDie s a1 a2) := by
  intro s a1 a2 h
  unfold State.trainDie
  repeat' first
    | with_reducible assumption | with_reducible apply State.tryLink_preserves
    | with_reducible apply State.dieLinkOn_preserves | split | extract_lets
    | ((fail_if_success with_reducible apply Preserves.upd_pending); with_reducible apply Preserves.upd_host)

theorem State.trainDies_preserves {r : State} : ∀ (s : State) a1 a2,
    Preserves r s → Preserves r (State.trainDies s a1 a2) := by
  intro s a1 a2 h
  unfold State.trainDies
  repeat' first
    | with_reducible assumption | with_reducible apply State.trainDie_preserves
    | (with_reducible apply Preserves.each; intro _ _ _)

theorem State.hubBack_preserves {r : State} : ∀ (s : State), Preserves r s → Preserves r (State.hubBack s) := by
  intro s h
  unfold State.hubBack
  repeat' first
    | with_reducible assumption | with_reducible apply State.bump_preserves
    | with_reducible apply State.raise_preserves | split | extract_lets
    | ((fail_if_success with_reducible apply Preserves.upd_pending); with_reducible apply Preserves.upd_evLostOff)
    | ((fail_if_success with_reducible apply Preserves.upd_pending); with_reducible apply Preserves.upd_tel)

theorem State.domainOn_preserves {r : State} : ∀ (s : State) a1 a2 a3,
    Preserves r s → Preserves r (State.domainOn s a1 a2 a3) := by
  intro s a1 a2 a3 h
  unfold State.domainOn
  repeat' first
    | with_reducible assumption | exact fun w => Tbl.wf_put w _ _
    | with_reducible apply State.accountPlanes_preserves | with_reducible apply State.noteDomain_preserves
    | with_reducible apply State.openCrossings_preserves | with_reducible apply State.unitsOn_preserves
    | with_reducible apply State.startBases_preserves | with_reducible apply State.reconsider_preserves
    | with_reducible apply State.portsOn_preserves | with_reducible apply State.readbackAll_preserves
    | with_reducible apply State.clamp_preserves | with_reducible apply State.trainDies_preserves
    | with_reducible apply State.canvasEngines_preserves | with_reducible apply State.hubBack_preserves | split
    | extract_lets
    | ((fail_if_success with_reducible apply Preserves.upd_pending); with_reducible apply Preserves.upd_dom_pwr)

theorem State.countArriving_preserves {r : State} : ∀ (s : State) l, Preserves r s → Preserves r (State.countArriving s l) := by
  intro s l h
  refine Preserves.each (fun it s h => ?_) h
  dsimp only
  split
  · exact State.setXing_preserves h fun w => w.get (32 + engineOf it.port)
  · exact h

theorem State.dieLinkLost_preserves {r : State} : ∀ (s : State) a1,
    Preserves r s → Preserves r (State.dieLinkLost s a1) := by
  intro s a1 h
  unfold State.dieLinkLost
  repeat' first
    | with_reducible assumption | with_reducible apply State.canvasDieLost_preserves
    | with_reducible apply State.accrue_preserves | with_reducible apply State.homeLost_preserves
    | with_reducible apply State.takeDown_preserves | with_reducible apply State.setEngState_preserves
    | with_reducible apply State.rampDown_preserves | with_reducible apply State.pagesLost_preserves
    | with_reducible apply State.canvasEngines_preserves | with_reducible apply State.engineLost_preserves
    | with_reducible apply State.hostDown_preserves | (with_reducible apply Preserves.each; intro _ _ _) | split

theorem State.dropUnit_preserves {r : State} : ∀ (s : State) u gone, Preserves r s → Preserves r (State.dropUnit s u gone) := by
  intro s u gone h
  refine Preserves.each (fun it s h => State.dropItem_preserves _ _ _ _ ?_) (h.through (State.setUnitIn_within _ _ _) rfl)
  exact State.setXing_preserves h fun w => (w.get (unitXing u)).discard _

theorem State.dropHeld_preserves {r : State} : ∀ (s : State) a1 a2 a3,
    Preserves r s → Preserves r (State.dropHeld s a1 a2 a3) := by
  intro s a1 a2 a3 h
  unfold State.dropHeld
  repeat' first
    | with_reducible assumption | with_reducible apply State.emptied_preserves
    | with_reducible apply State.dropItem_preserves | with_reducible apply State.mcSettle_preserves
    | with_reducible apply State.countDrop_preserves | (with_reducible apply Preserves.each; intro _ _ _) | split
    | extract_lets
    | ((fail_if_success with_reducible apply Preserves.upd_pending); with_reducible apply Preserves.upd_dp)

theorem State.discardItems_preserves {r : State} : ∀ (s : State) a1 a2,
    Preserves r s → Preserves r (State.discardItems s a1 a2) := by
  intro s a1 a2 h
  unfold State.discardItems
  repeat' first
    | with_reducible assumption | with_reducible apply State.countArriving_preserves
    | with_reducible apply State.dropUnit_preserves | with_reducible apply State.dropHeld_preserves
    | (with_reducible apply Preserves.each; intro _ _ _)

theorem State.discardEntries_preserves {r : State} : ∀ (s : State) a1,
    Preserves r s → Preserves r (State.discardEntries s a1) := by
  intro s a1 h
  unfold State.discardEntries
  repeat' first
    | with_reducible assumption | with_reducible apply State.updDie_preserves
    | with_reducible apply State.discardItems_preserves | split

theorem State.domStatus_preserves {r : State} : ∀ (s : State) a1 a2,
    Preserves r s → Preserves r (State.domStatus s a1 a2) := by
  intro s a1 a2 h
  unfold State.domStatus
  repeat' first
    | with_reducible assumption | with_reducible apply State.setF_preserves

theorem State.domAnswer_preserves {r : State} : ∀ (s : State) a1 a2,
    Preserves r s → Preserves r (State.domAnswer s a1 a2) := by
  intro s a1 a2 h
  unfold State.domAnswer
  repeat' first
    | with_reducible assumption | with_reducible apply State.domStatus_preserves | split

theorem State.startDomainOp_preserves {r : State} : ∀ a0 a1 (s : State),
    Preserves r s → Preserves r (State.startDomainOp a0 a1 s) := by
  intro a0 a1 s h
  unfold State.startDomainOp
  repeat' first
    | with_reducible assumption | with_reducible apply State.addOp_preserves

theorem State.domDown_preserves {r : State} : ∀ (s : State) a1 a2,
    Preserves r s → Preserves r (State.domDown s a1 a2) := by
  intro s a1 a2 h
  unfold State.domDown
  repeat' first
    | with_reducible assumption | with_reducible apply State.requestMaint_preserves
    | with_reducible apply State.domStatus_preserves | with_reducible apply State.startDomainOp_preserves
    | with_reducible apply State.domAnswer_preserves | split | extract_lets
    | ((fail_if_success with_reducible apply Preserves.upd_pending); with_reducible apply Preserves.upd_pwr)

theorem State.shutIsland_preserves {r : State} : ∀ (s : State) a1,
    Preserves r s → Preserves r (State.shutIsland s a1) := by
  intro s a1 h
  unfold State.shutIsland
  repeat' first
    | with_reducible assumption | with_reducible apply State.xShut_preserves
    | (with_reducible apply Preserves.each; intro _ _ _) | split

theorem State.openIsland_preserves {r : State} : ∀ (s : State) a1,
    Preserves r s → Preserves r (State.openIsland s a1) := by
  intro s a1 h
  unfold State.openIsland
  repeat' first
    | with_reducible assumption | with_reducible apply State.openCrossings_preserves
    | with_reducible apply State.xAnnounce_preserves | split

theorem execDomainRetention_preserves {r : State} : ∀ a0 (s : State),
    Preserves r s → PreservesNext r (execDomainRetention a0 s) := by
  intro a0 s h
  unfold execDomainRetention
  repeat' first
    | with_reducible assumption | with_reducible apply State.domDown_preserves
    | with_reducible apply PreservesNext.ok

theorem execDomainOn_preserves {r : State} : ∀ a0 (s : State),
    Preserves r s → PreservesNext r (execDomainOn a0 s) := by
  intro a0 s h
  unfold execDomainOn
  repeat' first
    | with_reducible assumption | with_reducible apply State.domStatus_preserves
    | with_reducible apply State.domAnswer_preserves | with_reducible apply State.addOp_preserves
    | with_reducible apply PreservesNext.ok | exact PreservesNext.fault _ | split | extract_lets
    | ((fail_if_success with_reducible apply Preserves.upd_pending); with_reducible apply Preserves.upd_pwr)

theorem execDomainOff_preserves {r : State} : ∀ a0 (s : State),
    Preserves r s → PreservesNext r (execDomainOff a0 s) := by
  intro a0 s h
  unfold execDomainOff
  repeat' first
    | with_reducible assumption | with_reducible apply State.domDown_preserves
    | with_reducible apply PreservesNext.ok

theorem execDieLinkDown_preserves {r : State} : ∀ a0 (s : State),
    Preserves r s → PreservesNext r (execDieLinkDown a0 s) := by
  intro a0 s h
  unfold execDieLinkDown
  repeat' first
    | with_reducible assumption | with_reducible apply State.dieLinkOff_preserves
    | with_reducible apply State.dieLinkLost_preserves | with_reducible apply PreservesNext.ok
    | exact PreservesNext.fault _ | split

theorem State.opStep_preserves {r : State} : ∀ (s : State) a1 a2,
    Preserves r s → Preserves r (State.opStep s a1 a2) :=
  fun _ _ _ h => Preserves.through (State.opStep_within _ _ _) rfl h

theorem execDomainDrainEnd_preserves {r : State} : ∀ a0 (s : State),
    Preserves r s → PreservesNext r (execDomainDrainEnd a0 s) := by
  intro a0 s h
  unfold execDomainDrainEnd
  repeat' first
    | with_reducible assumption | with_reducible apply State.opStep_preserves
    | with_reducible apply State.domainsGo_preserves | with_reducible apply State.enterDomain_preserves
    | with_reducible apply State.raise_preserves | with_reducible apply State.reach_preserves
    | with_reducible apply State.discardEntries_preserves | with_reducible apply PreservesNext.ok
    | exact PreservesNext.fault _ | split

theorem execDieLinkRetrain_preserves {r : State} : ∀ a0 a1 (s : State),
    Preserves r s → PreservesNext r (execDieLinkRetrain a0 a1 s) := by
  intro a0 a1 s h
  unfold execDieLinkRetrain
  repeat' first
    | with_reducible assumption | with_reducible apply State.reconsider_preserves
    | with_reducible apply State.hostResume_preserves | with_reducible apply State.setEngine_preserves
    | with_reducible apply State.reach_preserves | with_reducible apply State.canvasEngines_preserves
    | with_reducible apply State.tryLink_preserves | with_reducible apply State.beginTraining_preserves
    | with_reducible apply State.trainDie_preserves | with_reducible apply PreservesNext.ok
    | exact PreservesNext.fault _ | (with_reducible apply Preserves.each; intro _ _ _) | split

theorem execDomainOnDone_preserves {r : State} : ∀ a0 a1 (s : State),
    Preserves r s → PreservesNext r (execDomainOnDone a0 a1 s) := by
  intro a0 a1 s h
  unfold execDomainOnDone
  repeat' first
    | with_reducible assumption | with_reducible apply State.opStep_preserves
    | with_reducible apply State.domainsGo_preserves | with_reducible apply State.domainOn_preserves
    | with_reducible apply PreservesNext.ok | exact PreservesNext.fault _ | split

/-! ## Machine/Power.lean -/

theorem State.stripped_preserves {r : State} : ∀ (s : State) k, Preserves r s → Preserves r (State.stripped s k) := by
  intro s k h
  refine ⟨fun w => keptRegs_wf (h.regs w) k, fun w => ?_, fun _ => rfl, fun _ => Tbl.wf_foldl_bare s.ports, fun _ => rfl,
    fun _ => rfl, fun _ => rfl, fun _ => ?_, fun w => ?_, fun _ => rfl, fun _ _ m => (nomatch m),
    h.time.trans (State.HoldsTime.congr rfl rfl rfl)⟩
  · unfold State.stripped
    dsimp only
    split
    · exact Tbl.wf_filter (h.cnt w) _
    · rfl
  · unfold State.stripped
    dsimp only
    split
    · exact Tbl.wf_remap _ _
    · rfl
  · unfold State.stripped
    dsimp only
    split
    · exact Memory.warm_wf (h.mem w)
    · rfl

theorem State.strip_preserves {r : State} : ∀ (s : State) a1, Preserves r s → Preserves r (State.strip s a1) := by
  intro s a1 h
  unfold State.strip
  repeat' first
    | with_reducible assumption | with_reducible apply State.remapLanes_preserves
    | with_reducible apply State.stripped_preserves | (with_reducible apply Preserves.each; intro _ _ _)

theorem State.darken_preserves {r : State} : ∀ (s : State), Preserves r s → Preserves r (State.darken s) :=
  fun _ h => Preserves.through (State.darken_within _) rfl h

theorem State.abruptStop_preserves {r : State} : ∀ (s : State) a1,
    Preserves r s → Preserves r (State.abruptStop s a1) := by
  intro s a1 h
  unfold State.abruptStop
  repeat' first
    | with_reducible assumption | with_reducible apply State.darken_preserves
    | with_reducible apply State.strip_preserves | split | extract_lets
    | ((fail_if_success with_reducible apply Preserves.upd_pending); with_reducible apply Preserves.upd_boot)

theorem State.followForce_preserves {r : State} : ∀ (s : State) a1,
    Preserves r s → Preserves r (State.followForce s a1) := by
  intro s a1 h
  unfold State.followForce
  repeat' first
    | with_reducible assumption | with_reducible apply State.addOp_preserves | split | extract_lets
    | ((fail_if_success with_reducible apply Preserves.upd_pending); with_reducible apply Preserves.upd_pwr)

theorem State.leaveM3_preserves {r : State} : ∀ (s : State) a1, Preserves r s → Preserves r (State.leaveM3 s a1) := by
  intro s a1 h
  unfold State.leaveM3
  repeat' first
    | with_reducible assumption | with_reducible apply State.setF_preserves
    | with_reducible apply State.domainsGo_preserves | with_reducible apply State.startBoot_preserves | split
    | extract_lets
    | ((fail_if_success with_reducible apply Preserves.upd_pending); with_reducible apply Preserves.upd_boot)

theorem State.beginWithdraw_preserves {r : State} : ∀ (s : State) a1 a2,
    Preserves r s → Preserves r (State.beginWithdraw s a1 a2) := by
  intro s a1 a2 h
  unfold State.beginWithdraw
  repeat' first
    | with_reducible assumption | with_reducible apply State.sendWithdraw_preserves
    | (with_reducible apply Preserves.each; intro _ _ _) | split | extract_lets
    | ((fail_if_success with_reducible apply Preserves.upd_pending); with_reducible apply Preserves.upd_wd)

theorem State.applyForce_preserves {r : State} : ∀ (s : State) a1,
    Preserves r s → Preserves r (State.applyForce s a1) := by
  intro s a1 h
  unfold State.applyForce
  repeat' first
    | with_reducible assumption | with_reducible apply State.followForce_preserves
    | with_reducible apply State.setF_preserves | with_reducible apply State.leaveM3_preserves
    | with_reducible apply State.beginWithdraw_preserves | with_reducible apply State.trimLanes_preserves
    | (with_reducible apply Preserves.each; intro _ _ _) | split

theorem State.dropSent_preserves {r : State} : ∀ (s : State) a1,
    Preserves r s → Preserves r (State.dropSent s a1) := by
  intro s a1 h
  unfold State.dropSent
  repeat' first
    | with_reducible assumption | with_reducible apply State.countDrop_preserves
    | with_reducible apply State.setLink_preserves | (with_reducible apply Preserves.each; intro _ _ _)

theorem State.setPhase_preserves {r : State} : ∀ (s : State) a1,
    Preserves r s → Preserves r (State.setPhase s a1) := by
  intro s a1 h
  unfold State.setPhase
  repeat' first
    | with_reducible assumption | with_reducible apply State.setF_preserves

theorem State.enterM3_preserves {r : State} : ∀ (s : State), Preserves r s → Preserves r (State.enterM3 s) := by
  intro s h
  unfold State.enterM3
  repeat' first
    | with_reducible assumption | with_reducible apply State.setF_preserves
    | with_reducible apply State.darken_preserves | with_reducible apply State.setPhase_preserves
    | with_reducible apply State.strip_preserves | split | extract_lets
    | ((fail_if_success with_reducible apply Preserves.upd_pending); with_reducible apply Preserves.upd_pwr_boot)

theorem State.restDark_preserves {r : State} : ∀ (s : State) a1,
    Preserves r s → Preserves r (State.restDark s a1) := by
  intro s a1 h
  unfold State.restDark
  repeat' first
    | with_reducible assumption | with_reducible apply State.setPort_preserves
    | with_reducible apply State.takeDown_preserves | with_reducible apply State.emit_preserves

theorem State.leavePrism_preserves {r : State} : ∀ (s : State), Preserves r s → Preserves r (State.leavePrism s) := by
  intro s h
  unfold State.leavePrism
  repeat' first
    | with_reducible assumption | exact fun _ => rfl | with_reducible apply State.accountPlanes_preserves
    | with_reducible apply State.setPlane_preserves | with_reducible apply State.takeDown_preserves
    | with_reducible apply State.emit_preserves | (with_reducible apply Preserves.each; intro _ _ _) | split
    | extract_lets
    | ((fail_if_success with_reducible apply Preserves.upd_pending); with_reducible apply Preserves.upd_peers_prism)

theorem State.warmReset_preserves {r : State} : ∀ (s : State), Preserves r s → Preserves r (State.warmReset s) := by
  intro s h
  unfold State.warmReset
  repeat' first
    | with_reducible assumption | exact fun w => Tbl.wf_foldl_put hbmDomain _ _ w | exact fun w => Tbl.wf_put w _ _
    | with_reducible apply State.darken_preserves | with_reducible apply State.domainsGo_preserves
    | with_reducible apply State.setStack_preserves | with_reducible apply State.startBoot_preserves
    | with_reducible apply State.strip_preserves | (with_reducible apply Preserves.each; intro _ _ _) | split
    | extract_lets
    | ((fail_if_success with_reducible apply Preserves.upd_pending); with_reducible apply Preserves.upd_dom_maint_boot)

theorem State.endWithdraw_preserves {r : State} : ∀ (s : State) a1,
    Preserves r s → Preserves r (State.endWithdraw s a1) := by
  intro s a1 h
  unfold State.endWithdraw
  repeat' first
    | with_reducible assumption | with_reducible apply State.enterM3_preserves
    | with_reducible apply State.restDark_preserves | with_reducible apply State.leavePrism_preserves
    | with_reducible apply State.leaveM3_preserves | with_reducible apply State.warmReset_preserves
    | with_reducible apply State.dropSent_preserves | (with_reducible apply Preserves.each; intro _ _ _) | split
    | extract_lets
    | ((fail_if_success with_reducible apply Preserves.upd_pending); with_reducible apply Preserves.upd_tab)
    | ((fail_if_success with_reducible apply Preserves.upd_pending); with_reducible apply Preserves.upd_wd)

theorem State.supplyEvent_preserves {r : State} : ∀ (s : State) a1,
    Preserves r s → Preserves r (State.supplyEvent s a1) := by
  intro s a1 h
  unfold State.supplyEvent
  repeat' first
    | with_reducible assumption | with_reducible apply State.raise_preserves

theorem State.enterLevel_preserves {r : State} : ∀ (s : State) a1,
    Preserves r s → Preserves r (State.enterLevel s a1) := by
  intro s a1 h
  unfold State.enterLevel
  repeat' first
    | with_reducible assumption | with_reducible apply State.abandonMoves_preserves
    | with_reducible apply State.bump_preserves | with_reducible apply State.applyForce_preserves
    | with_reducible apply State.setF_preserves | with_reducible apply State.cutBudgets_preserves
    | with_reducible apply State.supplyEvent_preserves | split

theorem State.enterLevels_preserves {r : State} : ∀ (s : State) a1,
    Preserves r s → Preserves r (State.enterLevels s a1) := by
  intro s a1
  induction a1 generalizing s with
  | nil => intro h; unfold State.enterLevels; exact h
  | cons x l ih =>
  intro h
  unfold State.enterLevels
  repeat' first
    | with_reducible assumption | refine ih _ ?_ | with_reducible apply State.enterLevel_preserves

theorem State.hotSite_preserves {r : State} : ∀ (s : State) a1 a2,
    Preserves r s → Preserves r (State.hotSite s a1 a2) := by
  intro s a1 a2 h
  unfold State.hotSite
  repeat' first
    | with_reducible assumption | with_reducible apply State.raise_preserves
    | with_reducible apply State.tick_preserves | split

theorem State.heatCore_preserves {r : State} : ∀ (s : State), Preserves r s → Preserves r (State.heatCore s) := by
  intro s h
  unfold State.heatCore
  repeat' first
    | with_reducible assumption | with_reducible apply State.hotSite_preserves | split | extract_lets
    | ((fail_if_success with_reducible apply Preserves.upd_pending); with_reducible apply Preserves.upd_pwr)

theorem State.heatDie_preserves {r : State} : ∀ (s : State) a1, Preserves r s → Preserves r (State.heatDie s a1) := by
  intro s a1 h
  unfold State.heatDie
  repeat' first
    | with_reducible assumption | with_reducible apply State.setF_preserves
    | with_reducible apply State.cutBudget_preserves | with_reducible apply State.raise_preserves | split
    | extract_lets
    | ((fail_if_success with_reducible apply Preserves.upd_pending); with_reducible apply Preserves.upd_pwr)

theorem State.heatSite_preserves {r : State} : ∀ (s : State) a1,
    Preserves r s → Preserves r (State.heatSite s a1) := by
  intro s a1 h
  unfold State.heatSite
  repeat' first
    | with_reducible assumption | with_reducible apply State.takeDown_preserves
    | with_reducible apply State.trimLanes_preserves | with_reducible apply State.beginTraining_preserves
    | with_reducible apply State.emit_preserves | (with_reducible apply Preserves.each; intro _ _ _) | split
    | extract_lets
    | ((fail_if_success with_reducible apply Preserves.upd_pending); with_reducible apply Preserves.upd_pwr)
    | with_reducible intro _ | with_reducible show Preserves _ (ite _ _ _) | dsimp +zetaDelta only

theorem State.powerOff_preserves {r : State} : ∀ (s : State), Preserves r s → Preserves r (State.powerOff s) := by
  intro s h
  unfold State.powerOff
  repeat' first
    | with_reducible assumption | exact fun _ => rfl | exact fun w => Tbl.wf_put w _ _
    | with_reducible apply State.abruptStop_preserves | split | extract_lets
    | ((fail_if_success with_reducible apply Preserves.upd_pending); with_reducible apply Preserves.upd_dom_pwr_boot)

theorem State.thermTick_preserves {r : State} : ∀ (s : State), Preserves r s → Preserves r (State.thermTick s) := by
  intro s h
  unfold State.thermTick
  repeat' first
    | with_reducible assumption | with_reducible apply State.bump_preserves
    | with_reducible apply State.reach_preserves | split | extract_lets
    | ((fail_if_success with_reducible apply Preserves.upd_pending); with_reducible apply Preserves.upd_pwr)
    | with_reducible intro _ | with_reducible show Preserves _ (ite _ _ _)

theorem State.tripCheck_preserves {r : State} : ∀ (s : State), Preserves r s → Preserves r (State.tripCheck s) := by
  intro s h
  unfold State.tripCheck
  repeat' first
    | with_reducible assumption | with_reducible apply State.abruptStop_preserves | split | extract_lets
    | ((fail_if_success with_reducible apply Preserves.upd_pending); with_reducible apply Preserves.upd_boot)

theorem State.tryBoot_preserves {r : State} : ∀ (s : State), Preserves r s → Preserves r (State.tryBoot s) := by
  intro s h
  unfold State.tryBoot
  repeat' first
    | with_reducible assumption | with_reducible apply State.domainsGo_preserves
    | with_reducible apply State.startBoot_preserves | split | extract_lets

theorem execMstateRequest_preserves {r : State} : ∀ a0 a1 (s : State),
    Preserves r s → PreservesNext r (execMstateRequest a0 a1 s) := by
  intro a0 a1 s h
  unfold execMstateRequest
  repeat' first
    | with_reducible assumption | with_reducible apply State.applyForce_preserves
    | with_reducible apply State.setF_preserves | with_reducible apply PreservesNext.ok

theorem execFabricIdWrite_preserves {r : State} : ∀ a0 (s : State),
    Preserves r s → PreservesNext r (execFabricIdWrite a0 s) := by
  intro a0 s h
  unfold execFabricIdWrite
  repeat' first
    | with_reducible assumption | with_reducible apply State.leavePrism_preserves
    | with_reducible apply State.startListening_preserves | with_reducible apply State.store_preserves
    | with_reducible apply State.beginWithdraw_preserves | with_reducible apply PreservesNext.ok
    | exact PreservesNext.fault _ | split | extract_lets | with_reducible intro _
    | with_reducible show Preserves _ (ite _ _ _)

theorem execSupplyLogClear_preserves {r : State} : ∀ (s : State),
    Preserves r s → PreservesNext r (execSupplyLogClear s) := by
  intro s h
  unfold execSupplyLogClear
  repeat' first
    | with_reducible assumption | with_reducible apply State.setF_preserves | with_reducible apply PreservesNext.ok

theorem execSupplySample_preserves {r : State} : ∀ a0 a1 (s : State),
    Preserves r s → PreservesNext r (execSupplySample a0 a1 s) := by
  intro a0 a1 s h
  unfold execSupplySample
  repeat' first
    | with_reducible assumption | with_reducible apply State.setF_preserves
    | with_reducible apply State.enterLevels_preserves | with_reducible apply State.powerOff_preserves
    | with_reducible apply State.cutBudgets_preserves | with_reducible apply State.reach_preserves
    | with_reducible apply State.supplyEvent_preserves | with_reducible apply State.tryBoot_preserves
    | with_reducible apply PreservesNext.ok | exact PreservesNext.fault _ | split | extract_lets
    | ((fail_if_success with_reducible apply Preserves.upd_pending); with_reducible apply Preserves.upd_pwr)
    | ((fail_if_success with_reducible apply Preserves.upd_pending); with_reducible apply Preserves.upd_pwr_boot)
    | with_reducible intro _ | with_reducible show Preserves _ (ite _ _ _)

theorem State.takeTemps_preserves {r : State} : ∀ (s : State) a1 a2 a3 a4 a5,
    Preserves r s → Preserves r (State.takeTemps s a1 a2 a3 a4 a5) :=
  fun _ _ _ _ _ _ h => Preserves.through (State.takeTemps_within _ _ _ _ _ _) rfl h

theorem execThermalSample_preserves {r : State} : ∀ a0 a1 a2 a3 a4 (s : State),
    Preserves r s → PreservesNext r (execThermalSample a0 a1 a2 a3 a4 s) := by
  intro a0 a1 a2 a3 a4 s h
  unfold execThermalSample
  repeat' first
    | with_reducible assumption | with_reducible apply State.heatDie_preserves
    | with_reducible apply State.takeTemps_preserves | with_reducible apply State.heatCore_preserves
    | with_reducible apply State.thermTick_preserves | with_reducible apply State.tripCheck_preserves
    | with_reducible apply State.heatSite_preserves | with_reducible apply PreservesNext.ok
    | exact PreservesNext.fault _ | (with_reducible apply Preserves.each; intro _ _ _) | split

theorem execDroopDetect_preserves {r : State} : ∀ a0 (s : State),
    Preserves r s → PreservesNext r (execDroopDetect a0 s) := by
  intro a0 s h
  unfold execDroopDetect
  repeat' first
    | with_reducible assumption | with_reducible apply State.bump_preserves | with_reducible apply PreservesNext.ok
    | exact PreservesNext.fault _ | split | extract_lets
    | ((fail_if_success with_reducible apply Preserves.upd_pending); with_reducible apply Preserves.upd_pwr)

theorem execM3WakeTimer_preserves {r : State} : ∀ (s : State),
    Preserves r s → PreservesNext r (execM3WakeTimer s) := by
  intro s h
  unfold execM3WakeTimer
  repeat' first
    | with_reducible assumption | with_reducible apply State.applyForce_preserves
    | with_reducible apply State.setF_preserves | with_reducible apply State.reach_preserves
    | with_reducible apply PreservesNext.ok | exact PreservesNext.fault _ | split | extract_lets
    | ((fail_if_success with_reducible apply Preserves.upd_pending); with_reducible apply Preserves.upd_pwr)

theorem execWithdrawalDrainEnd_preserves {r : State} : ∀ (s : State),
    Preserves r s → PreservesNext r (execWithdrawalDrainEnd s) := by
  intro s h
  unfold execWithdrawalDrainEnd
  repeat' first
    | with_reducible assumption | with_reducible apply State.endWithdraw_preserves
    | with_reducible apply State.dropHeld_preserves | with_reducible apply State.reach_preserves
    | with_reducible apply PreservesNext.ok | exact PreservesNext.fault _ | split

theorem execShedRelease_preserves {r : State} : ∀ (s : State),
    Preserves r s → PreservesNext r (execShedRelease s) := by
  intro s h
  unfold execShedRelease
  repeat' first
    | with_reducible assumption | with_reducible apply State.applyForce_preserves
    | with_reducible apply State.setF_preserves | with_reducible apply State.reach_preserves
    | with_reducible apply State.supplyEvent_preserves | with_reducible apply PreservesNext.ok
    | exact PreservesNext.fault _ | split | extract_lets
    | ((fail_if_success with_reducible apply Preserves.upd_pending); with_reducible apply Preserves.upd_pwr)

/-! ## Machine/I3c.lean -/

theorem execI3cWake_preserves {r : State} : ∀ (s : State), Preserves r s → PreservesNext r (execI3cWake s) := by
  intro s h
  unfold execI3cWake
  repeat' first
    | with_reducible assumption | with_reducible apply State.applyForce_preserves
    | with_reducible apply State.setF_preserves | with_reducible apply PreservesNext.ok
    | exact PreservesNext.fault _ | split

/-! ## Machine/Boot.lean -/

theorem State.attStatus_preserves {r : State} : ∀ (s : State) a1,
    Preserves r s → Preserves r (State.attStatus s a1) := by
  intro s a1 h
  unfold State.attStatus
  repeat' first
    | with_reducible assumption | with_reducible apply State.setF_preserves

theorem State.attCommand_preserves {f : State → State} {r s : State} (k : ∀ x, Preserves r x → Preserves r (f x))
    (h : Preserves r s) : Preserves r (s.attCommand f) := by
  unfold State.attCommand
  split
  · exact State.attStatus_preserves _ _ h
  · exact k _ h

theorem State.bootEvent_preserves {r : State} : ∀ (s : State), Preserves r s → Preserves r (State.bootEvent s) := by
  intro s h
  unfold State.bootEvent
  repeat' first
    | with_reducible assumption | with_reducible apply State.raise_preserves

theorem State.bringUp_preserves {r : State} : ∀ (s : State) a1 a2,
    Preserves r s → Preserves r (State.bringUp s a1 a2) := by
  intro s a1 a2 h
  unfold State.bringUp
  repeat' first
    | with_reducible assumption | with_reducible apply State.opStep_preserves
    | with_reducible apply State.domainOn_preserves | split | extract_lets
    | ((fail_if_success with_reducible apply Preserves.upd_pending); with_reducible apply Preserves.upd_pwr)

theorem State.burnt_preserves {r : State} : ∀ (s : State), Preserves r s → Preserves r (State.burnt s) := by
  intro s h
  unfold State.burnt
  repeat' first
    | with_reducible assumption | with_reducible apply State.raise_preserves
    | with_reducible apply State.measure_preserves

theorem State.dropResets_preserves {r : State} : ∀ (s : State), Preserves r s → Preserves r (State.dropResets s) := by
  intro s h
  unfold State.dropResets
  repeat' first
    | with_reducible assumption | with_reducible apply State.endMaint_preserves
    | (with_reducible apply Preserves.each; intro _ _ _) | split | extract_lets
    | ((fail_if_success with_reducible apply Preserves.upd_pending); with_reducible apply Preserves.upd_pwr)

theorem State.recordFail_preserves {r : State} : ∀ (s : State) a1 a2,
    Preserves r s → Preserves r (State.recordFail s a1 a2) := by
  intro s a1 a2 h
  unfold State.recordFail
  repeat' first
    | with_reducible assumption | with_reducible apply State.setF_preserves | split | extract_lets
    | ((fail_if_success with_reducible apply Preserves.upd_pending); with_reducible apply Preserves.upd_boot)

theorem State.failAttempt_preserves {r : State} : ∀ (s : State) a1,
    Preserves r s → Preserves r (State.failAttempt s a1) := by
  intro s a1 h
  unfold State.failAttempt
  repeat' first
    | with_reducible assumption | with_reducible apply State.attempt_preserves
    | with_reducible apply State.recordFail_preserves | with_reducible apply State.setPhase_preserves | split
    | extract_lets
    | ((fail_if_success with_reducible apply Preserves.upd_pending); with_reducible apply Preserves.upd_boot)

theorem State.flashStatus_preserves {r : State} : ∀ (s : State) a1,
    Preserves r s → Preserves r (State.flashStatus s a1) := by
  intro s a1 h
  unfold State.flashStatus
  repeat' first
    | with_reducible assumption | with_reducible apply State.setF_preserves

theorem State.flashRequest_preserves {a : Nat} {b : Option Nat} {f : State → State} {r s : State}
    (k : ∀ x, Preserves r x → Preserves r (f x)) (h : Preserves r s) : Preserves r (s.flashRequest a b f) := by
  unfold State.flashRequest
  split
  · exact State.flashStatus_preserves _ _ h
  split
  · exact State.flashStatus_preserves _ _ h
  · exact State.requestMaint_preserves k (State.setF_preserves _ _ _ _ _ (State.flashStatus_preserves _ _ h.upd_boot))

theorem State.resetEvent_preserves {r : State} : ∀ (s : State), Preserves r s → Preserves r (State.resetEvent s) := by
  intro s h
  unfold State.resetEvent
  repeat' first
    | with_reducible assumption | with_reducible apply State.setF_preserves
    | with_reducible apply State.raise_preserves

theorem State.rstStatus_preserves {r : State} : ∀ (s : State) a1,
    Preserves r s → Preserves r (State.rstStatus s a1) := by
  intro s a1 h
  unfold State.rstStatus
  repeat' first
    | with_reducible assumption | with_reducible apply State.setF_preserves

theorem State.secStatus_preserves {r : State} : ∀ (s : State) a1,
    Preserves r s → Preserves r (State.secStatus s a1) := by
  intro s a1 h
  unfold State.secStatus
  repeat' first
    | with_reducible assumption | with_reducible apply State.setF_preserves

theorem State.eraseSlot_preserves {r : State} : ∀ (s : State) a1 a2,
    Preserves r s → Preserves r (State.eraseSlot s a1 a2) :=
  fun _ _ _ h => Preserves.through (State.eraseSlot_within _ _ _) rfl h

theorem State.startErase_preserves {r : State} : ∀ a0 (s : State),
    Preserves r s → Preserves r (State.startErase a0 s) := by
  intro a0 s h
  unfold State.startErase
  repeat' first
    | with_reducible assumption | with_reducible apply State.setF_preserves
    | with_reducible apply State.endMaint_preserves | with_reducible apply State.eraseSlot_preserves

theorem State.startWarm_preserves {r : State} : ∀ (s : State) a1,
    Preserves r s → Preserves r (State.startWarm s a1) := by
  intro s a1 h
  unfold State.startWarm
  repeat' first
    | with_reducible assumption | with_reducible apply State.dropResets_preserves
    | with_reducible apply State.beginWithdraw_preserves | split | extract_lets
    | ((fail_if_success with_reducible apply Preserves.upd_pending); with_reducible apply Preserves.upd_boot)

theorem State.testStacks_preserves {r : State} : ∀ (s : State) a1,
    Preserves r s → Preserves r (State.testStacks s a1).2 := by
  intro s a1 h
  unfold State.testStacks
  repeat' first
    | with_reducible assumption | with_reducible apply State.setF_preserves
    | with_reducible apply State.raise_preserves | (with_reducible apply Preserves.each; intro _ _ _)

theorem execHostImageGo_preserves {r : State} : ∀ a0 (s : State),
    Preserves r s → PreservesNext r (execHostImageGo a0 s) := by
  intro a0 s h
  unfold execHostImageGo
  repeat' first
    | with_reducible assumption | with_reducible apply State.setF_preserves | with_reducible apply PreservesNext.ok
    | exact PreservesNext.fault _ | split | extract_lets
    | ((fail_if_success with_reducible apply Preserves.upd_pending); with_reducible apply Preserves.upd_boot)

theorem execFlashErase_preserves {r : State} : ∀ a0 (s : State),
    Preserves r s → PreservesNext r (execFlashErase a0 s) := by
  intro a0 s h
  unfold execFlashErase
  repeat' first
    | with_reducible assumption | with_reducible apply State.flashRequest_preserves
    | with_reducible apply State.startErase_preserves | with_reducible apply PreservesNext.ok

theorem execDomainResetRequest_preserves {r : State} : ∀ a0 (s : State),
    Preserves r s → PreservesNext r (execDomainResetRequest a0 s) := by
  intro a0 s h
  unfold execDomainResetRequest
  repeat' first
    | with_reducible assumption | with_reducible apply State.requestMaint_preserves
    | with_reducible apply State.rstStatus_preserves | with_reducible apply State.startDomainOp_preserves
    | with_reducible apply PreservesNext.ok | exact PreservesNext.fault _ | split | extract_lets

theorem State.startProgram_preserves {r : State} : ∀ a0 a1 (s : State),
    Preserves r s → Preserves r (State.startProgram a0 a1 s) :=
  fun _ _ _ h => Preserves.through (State.startProgram_within _ _ _) rfl h

theorem execFlashProgram_preserves {r : State} : ∀ a0 a1 (s : State),
    Preserves r s → PreservesNext r (execFlashProgram a0 a1 s) := by
  intro a0 a1 s h
  unfold execFlashProgram
  repeat' first
    | with_reducible assumption | with_reducible apply State.flashRequest_preserves
    | with_reducible apply State.flashStatus_preserves | with_reducible apply State.startErase_preserves
    | with_reducible apply State.startProgram_preserves | with_reducible apply PreservesNext.ok
    | exact PreservesNext.fault _ | split

theorem execSecRaiseMinSvn_preserves {r : State} : ∀ (s : State),
    Preserves r s → PreservesNext r (execSecRaiseMinSvn s) := by
  intro s h
  unfold execSecRaiseMinSvn
  repeat' first
    | with_reducible assumption | with_reducible apply State.setF_preserves
    | with_reducible apply State.burnt_preserves | with_reducible apply State.secStatus_preserves
    | with_reducible apply PreservesNext.ok | exact PreservesNext.fault _ | split | extract_lets
    | ((fail_if_success with_reducible apply Preserves.upd_pending); with_reducible apply Preserves.upd_boot)

theorem execSecBurnOwnerHash_preserves {r : State} : ∀ a0 (s : State),
    Preserves r s → PreservesNext r (execSecBurnOwnerHash a0 s) := by
  intro a0 s h
  unfold execSecBurnOwnerHash
  repeat' first
    | with_reducible assumption | with_reducible apply State.setF_preserves
    | with_reducible apply State.burnt_preserves | with_reducible apply State.secStatus_preserves
    | with_reducible apply PreservesNext.ok | exact PreservesNext.fault _ | split | extract_lets
    | ((fail_if_success with_reducible apply Preserves.upd_pending); with_reducible apply Preserves.upd_boot)

theorem execAttestReadEntry_preserves {r : State} : ∀ a0 (s : State),
    Preserves r s → PreservesNext r (execAttestReadEntry a0 s) := by
  intro a0 s h
  unfold execAttestReadEntry
  repeat' first
    | with_reducible assumption | with_reducible apply State.wrWords_preserves
    | with_reducible apply State.attStatus_preserves | with_reducible apply State.attCommand_preserves
    | with_reducible apply PreservesNext.ok | exact PreservesNext.fault _ | split | extract_lets
    | with_reducible intro _

theorem execAttestReport_preserves {r : State} : ∀ (s : State),
    Preserves r s → PreservesNext r (execAttestReport s) := by
  intro s h
  unfold execAttestReport
  repeat' first
    | with_reducible assumption | with_reducible apply State.setF_preserves
    | with_reducible apply State.attStatus_preserves | with_reducible apply State.raise_preserves
    | with_reducible apply State.attCommand_preserves | with_reducible apply PreservesNext.ok
    | exact PreservesNext.fault _ | split | extract_lets
    | ((fail_if_success with_reducible apply Preserves.upd_pending); with_reducible apply Preserves.upd_boot)
    | with_reducible intro _

theorem execWarmResetRequest_preserves {r : State} : ∀ (s : State),
    Preserves r s → PreservesNext r (execWarmResetRequest s) := by
  intro s h
  unfold execWarmResetRequest
  repeat' first
    | with_reducible assumption | with_reducible apply State.startWarm_preserves
    | with_reducible apply State.rstStatus_preserves | with_reducible apply PreservesNext.ok
    | exact PreservesNext.fault _ | split

theorem execAttestWritePubkey_preserves {r : State} : ∀ (s : State),
    Preserves r s → PreservesNext r (execAttestWritePubkey s) := by
  intro s h
  unfold execAttestWritePubkey
  repeat' first
    | with_reducible assumption | with_reducible apply State.attStatus_preserves
    | with_reducible apply State.hostWrites_preserves | with_reducible apply State.attCommand_preserves
    | with_reducible apply PreservesNext.ok | exact PreservesNext.fault _ | split | extract_lets
    | with_reducible intro _

theorem execImageCheckDone_preserves {r : State} : ∀ a0 (s : State),
    Preserves r s → PreservesNext r (execImageCheckDone a0 s) := by
  intro a0 s h
  unfold execImageCheckDone
  repeat' first
    | with_reducible assumption | with_reducible apply State.setF_preserves
    | with_reducible apply State.failAttempt_preserves | with_reducible apply State.setPhase_preserves
    | with_reducible apply State.measure_preserves | with_reducible apply PreservesNext.ok
    | exact PreservesNext.fault _ | split | extract_lets
    | ((fail_if_success with_reducible apply Preserves.upd_pending); with_reducible apply Preserves.upd_boot)
    | with_reducible intro _ | with_reducible show Preserves _ (ite _ _ _)

theorem execResetNRelease_preserves {r : State} : ∀ (s : State),
    Preserves r s → PreservesNext r (execResetNRelease s) := by
  intro s h
  unfold execResetNRelease
  repeat' first
    | with_reducible assumption | with_reducible apply State.tryBoot_preserves
    | with_reducible apply PreservesNext.ok | exact PreservesNext.fault _ | split | extract_lets
    | ((fail_if_success with_reducible apply Preserves.upd_pending); with_reducible apply Preserves.upd_boot)

theorem execFlashProgramDone_preserves {r : State} : ∀ a0 (s : State),
    Preserves r s → PreservesNext r (execFlashProgramDone a0 s) := by
  intro a0 s h
  unfold execFlashProgramDone
  repeat' first
    | with_reducible assumption | with_reducible apply State.setF_preserves
    | with_reducible apply State.endMaint_preserves | with_reducible apply State.eraseSlot_preserves
    | with_reducible apply State.flashStatus_preserves | with_reducible apply PreservesNext.ok
    | exact PreservesNext.fault _ | split | extract_lets
    | ((fail_if_success with_reducible apply Preserves.upd_pending); with_reducible apply Preserves.upd_boot)

theorem execBringupDone_preserves {r : State} : ∀ a0 a1 (s : State),
    Preserves r s → PreservesNext r (execBringupDone a0 a1 s) := by
  intro a0 a1 s h
  unfold execBringupDone
  repeat' first
    | with_reducible assumption | with_reducible apply State.applyForce_preserves
    | with_reducible apply State.resetEvent_preserves | with_reducible apply State.bootEvent_preserves
    | with_reducible apply State.domainsGo_preserves | with_reducible apply State.retireGroup_preserves
    | with_reducible apply State.setPhase_preserves | with_reducible apply State.testStacks_preserves
    | with_reducible refine Preserves.ofSnd (by assumption) (State.testStacks_preserves _ _ ?_)
    | with_reducible apply State.bringUp_preserves | with_reducible apply State.beginTraining_preserves
    | with_reducible apply PreservesNext.ok | exact PreservesNext.fault _
    | (with_reducible apply Preserves.each; intro _ _ _) | split | extract_lets
    | ((fail_if_success with_reducible apply Preserves.upd_pending); with_reducible apply Preserves.upd_boot)

theorem execBootBackoffExpiry_preserves {r : State} : ∀ (s : State),
    Preserves r s → PreservesNext r (execBootBackoffExpiry s) := by
  intro s h
  unfold execBootBackoffExpiry
  repeat' first
    | with_reducible assumption | with_reducible apply State.attempt_preserves
    | with_reducible apply State.reach_preserves | with_reducible apply PreservesNext.ok
    | exact PreservesNext.fault _ | split

theorem execResetNAssert_preserves {r : State} : ∀ a0 (s : State),
    Preserves r s → PreservesNext r (execResetNAssert a0 s) := by
  intro a0 s h
  unfold execResetNAssert
  repeat' first
    | with_reducible assumption | with_reducible apply State.abruptStop_preserves
    | with_reducible apply PreservesNext.ok | exact PreservesNext.fault _ | split | extract_lets
    | ((fail_if_success with_reducible apply Preserves.upd_pending); with_reducible apply Preserves.upd_boot)

theorem execBootRecordClear_preserves {r : State} : ∀ (s : State),
    Preserves r s → PreservesNext r (execBootRecordClear s) := by
  intro s h
  unfold execBootRecordClear
  repeat' first
    | with_reducible assumption | with_reducible apply State.setF_preserves
    | with_reducible apply State.reach_preserves | with_reducible apply PreservesNext.ok
    | exact PreservesNext.fault _ | split | extract_lets
    | ((fail_if_success with_reducible apply Preserves.upd_pending); with_reducible apply Preserves.upd_boot)

theorem execFirmwareWatchdog_preserves {r : State} : ∀ (s : State),
    Preserves r s → PreservesNext r (execFirmwareWatchdog s) := by
  intro s h
  unfold execFirmwareWatchdog
  repeat' first
    | with_reducible assumption | with_reducible apply State.recordFail_preserves
    | with_reducible apply State.startWarm_preserves | with_reducible apply State.failAttempt_preserves
    | with_reducible apply PreservesNext.ok | exact PreservesNext.fault _ | split | extract_lets
    | ((fail_if_success with_reducible apply Preserves.upd_pending); with_reducible apply Preserves.upd_boot)
    | with_reducible intro _ | with_reducible show Preserves _ (ite _ _ _)

theorem execThermalHoldEnd_preserves {r : State} : ∀ (s : State),
    Preserves r s → PreservesNext r (execThermalHoldEnd s) := by
  intro s h
  unfold execThermalHoldEnd
  repeat' first
    | with_reducible assumption | with_reducible apply State.reach_preserves
    | with_reducible apply State.tryBoot_preserves | with_reducible apply PreservesNext.ok
    | exact PreservesNext.fault _ | split | extract_lets
    | ((fail_if_success with_reducible apply Preserves.upd_pending); with_reducible apply Preserves.upd_boot)

theorem execHostBootTimeout_preserves {r : State} : ∀ (s : State),
    Preserves r s → PreservesNext r (execHostBootTimeout s) := by
  intro s h
  unfold execHostBootTimeout
  repeat' first
    | with_reducible assumption | with_reducible apply State.failAttempt_preserves
    | with_reducible apply State.reach_preserves | with_reducible apply PreservesNext.ok
    | exact PreservesNext.fault _ | split

theorem execAttestReportDone_preserves {r : State} : ∀ (s : State),
    Preserves r s → PreservesNext r (execAttestReportDone s) := by
  intro s h
  unfold execAttestReportDone
  repeat' first
    | with_reducible assumption | with_reducible apply State.setF_preserves
    | with_reducible apply State.attStatus_preserves | with_reducible apply State.raise_preserves
    | with_reducible apply State.hostWrites_preserves | with_reducible apply State.tick_preserves
    | with_reducible apply PreservesNext.ok | exact PreservesNext.fault _ | split | extract_lets
    | ((fail_if_success with_reducible apply Preserves.upd_pending); with_reducible apply Preserves.upd_boot)

/-! ## Machine/Tele.lean -/

theorem State.deliverSnap_preserves {r : State} : ∀ (s : State) a1 a2 a3,
    Preserves r s → Preserves r (State.deliverSnap s a1 a2 a3) := by
  intro s a1 a2 a3 h
  unfold State.deliverSnap
  repeat' first
    | with_reducible assumption | with_reducible apply State.bump_preserves
    | with_reducible apply State.writeAux_preserves | split | extract_lets
    | ((fail_if_success with_reducible apply Preserves.upd_pending); with_reducible apply Preserves.upd_tel)

theorem State.dropWaitingMcast_preserves {r : State} : ∀ (s : State),
    Preserves r s → Preserves r (State.dropWaitingMcast s) := by
  intro s h
  unfold State.dropWaitingMcast
  repeat' first
    | with_reducible assumption | with_reducible apply State.dropItem_preserves
    | with_reducible apply State.mcSettle_preserves | with_reducible apply State.countDrop_preserves
    | (with_reducible apply Preserves.each; intro _ _ _) | split | extract_lets
    | ((fail_if_success with_reducible apply Preserves.upd_pending); with_reducible apply Preserves.upd_dp)

theorem State.engineCut_preserves {r : State} : ∀ (s : State) a1,
    Preserves r s → Preserves r (State.engineCut s a1) := by
  intro s a1 h
  unfold State.engineCut
  repeat' first
    | with_reducible assumption | with_reducible apply State.afterOffline_preserves
    | with_reducible apply State.accrue_preserves | with_reducible apply State.setEngState_preserves
    | with_reducible apply State.rampDown_preserves | with_reducible apply State.engineLost_preserves | split

theorem State.linkReturns_preserves {r : State} : ∀ (s : State) a1,
    Preserves r s → Preserves r (State.linkReturns s a1) := by
  intro s a1 h
  unfold State.linkReturns
  repeat' first
    | with_reducible assumption | with_reducible apply State.reconsider_preserves
    | with_reducible apply State.hostResume_preserves | with_reducible apply State.setEngine_preserves
    | with_reducible apply State.canvasEngines_preserves | with_reducible apply State.beginTraining_preserves
    | with_reducible apply State.dieLinkOn_preserves | (with_reducible apply Preserves.each; intro _ _ _) | split

theorem State.engineUncut_preserves {r : State} : ∀ (s : State) a1,
    Preserves r s → Preserves r (State.engineUncut s a1) :=
  fun _ _ h => Preserves.through (State.engineUncut_within _ _) rfl h

theorem State.islandBack_preserves {r : State} : ∀ (s : State) a1,
    Preserves r s → Preserves r (State.islandBack s a1) := by
  intro s a1 h
  unfold State.islandBack
  repeat' first
    | with_reducible assumption | with_reducible apply State.openCrossings_preserves
    | with_reducible apply State.startCxlAdd_preserves | with_reducible apply State.stackTo_preserves
    | with_reducible apply State.linkReturns_preserves | with_reducible apply State.beginTraining_preserves
    | with_reducible apply State.engineUncut_preserves | (with_reducible apply Preserves.each; intro _ _ _) | split
    | extract_lets

theorem State.canvasIslandLost_preserves {r : State} : ∀ (s : State) a1,
    Preserves r s → Preserves r (State.canvasIslandLost s a1) :=
  fun _ _ h => Preserves.through (State.canvasIslandLost_within _ _) rfl h

theorem State.islandLost_preserves {r : State} : ∀ (s : State) a1,
    Preserves r s → Preserves r (State.islandLost s a1) := by
  intro s a1 h
  unfold State.islandLost
  repeat' first
    | with_reducible assumption | exact fun w => Tbl.wf_filter w _ | with_reducible apply State.cxlDown_preserves
    | with_reducible apply State.canvasDieLost_preserves | with_reducible apply State.dieLinkOff_preserves
    | with_reducible apply State.takeDown_preserves | with_reducible apply State.dieLinkLost_preserves
    | with_reducible apply State.pagesLost_preserves | with_reducible apply State.discardSpill_preserves
    | with_reducible apply State.engineCut_preserves | with_reducible apply State.canvasIslandLost_preserves
    | with_reducible apply State.stackTo_preserves | with_reducible apply State.dropWaitingMcast_preserves
    | with_reducible apply State.shutIsland_preserves | with_reducible apply State.hostDown_preserves
    | (with_reducible apply Preserves.each; intro _ _ _) | split | extract_lets
    | ((fail_if_success with_reducible apply Preserves.upd_pending); with_reducible apply Preserves.upd_homes)

theorem State.isolateEffect_preserves {r : State} : ∀ (s : State) a1 a2,
    Preserves r s → Preserves r (State.isolateEffect s a1 a2) := by
  intro s a1 a2 h
  unfold State.isolateEffect
  repeat' first
    | with_reducible assumption | with_reducible apply State.listFail_preserves
    | with_reducible apply State.engineCut_preserves | with_reducible apply State.portOff_preserves
    | with_reducible apply State.islandLost_preserves | with_reducible apply State.addOp_preserves
    | (with_reducible apply Preserves.each; intro _ _ _) | split

theorem State.isolate_preserves {r : State} : ∀ (s : State) a1 a2,
    Preserves r s → Preserves r (State.isolate s a1 a2) := by
  intro s a1 a2 h
  unfold State.isolate
  repeat' first
    | with_reducible assumption | with_reducible apply State.accountPlanes_preserves
    | with_reducible apply State.isolateEffect_preserves | split | extract_lets
    | ((fail_if_success with_reducible apply Preserves.upd_pending); with_reducible apply Preserves.upd_tel)

theorem State.closeTerms_preserves {r : State} : ∀ (s : State), Preserves r s → Preserves r (State.closeTerms s) :=
  fun _ h => Preserves.through (State.closeTerms_within _) rfl h

theorem State.latchTarget_preserves {r : State} : ∀ (s : State) a1,
    Preserves r s → Preserves r (State.latchTarget s a1) := by
  intro s a1 h
  unfold State.latchTarget
  repeat' first
    | with_reducible assumption | with_reducible apply State.bump_preserves
    | with_reducible apply State.closeTerms_preserves | split | extract_lets
    | ((fail_if_success with_reducible apply Preserves.upd_pending); with_reducible apply Preserves.upd_tel)

theorem State.releaseEffect_preserves {r : State} : ∀ (s : State) a1 a2,
    Preserves r s → Preserves r (State.releaseEffect s a1 a2) := by
  intro s a1 a2 h
  unfold State.releaseEffect
  repeat' first
    | with_reducible assumption | with_reducible apply State.islandBack_preserves
    | with_reducible apply State.startPortReset_preserves | with_reducible apply State.engineUncut_preserves
    | with_reducible apply State.addOp_preserves | (with_reducible apply Preserves.each; intro _ _ _) | split

theorem State.settlePolicers_preserves {r : State} : ∀ (s : State),
    Preserves r s → Preserves r (State.settlePolicers s) :=
  fun _ h => Preserves.through (State.settlePolicers_within _) rfl h

theorem State.settleShapers_preserves {r : State} : ∀ (s : State),
    Preserves r s → Preserves r (State.settleShapers s) :=
  fun _ h => Preserves.through (State.settleShapers_within _) rfl h

theorem State.settleCounters_preserves {r : State} : ∀ (s : State),
    Preserves r s → Preserves r (State.settleCounters s) := by
  intro s h
  unfold State.settleCounters
  repeat' first
    | with_reducible assumption | with_reducible apply State.accountPlanes_preserves
    | with_reducible apply State.accrue_preserves | with_reducible apply State.settlePolicers_preserves
    | with_reducible apply State.settleShapers_preserves | (with_reducible apply Preserves.each; intro _ _ _)

theorem State.unlock_preserves {r : State} : ∀ (s : State), Preserves r s → Preserves r (State.unlock s) := by
  intro s h
  unfold State.unlock
  repeat' first
    | with_reducible assumption | with_reducible apply State.setF_preserves | split | extract_lets
    | ((fail_if_success with_reducible apply Preserves.upd_pending); with_reducible apply Preserves.upd_tel)

theorem State.violate_preserves {r : State} : ∀ (s : State) a1 a2,
    Preserves r s → Preserves r (State.violate s a1 a2) := by
  intro s a1 a2 h
  unfold State.violate
  repeat' first
    | with_reducible assumption | with_reducible apply State.bump_preserves
    | with_reducible apply State.setF_preserves | with_reducible apply State.raise_preserves
    | with_reducible apply State.isolate_preserves | (with_reducible apply Preserves.each; intro _ _ _) | split

theorem execIsolationRelease_preserves {r : State} : ∀ a0 a1 (s : State),
    Preserves r s → PreservesNext r (execIsolationRelease a0 a1 s) := by
  intro a0 a1 s h
  unfold execIsolationRelease
  repeat' first
    | with_reducible assumption | with_reducible apply State.accountPlanes_preserves
    | with_reducible apply State.gate_preserves | with_reducible apply State.releaseEffect_preserves
    | with_reducible apply State.status_preserves | with_reducible apply PreservesNext.ok
    | exact PreservesNext.fault _ | split | extract_lets
    | ((fail_if_success with_reducible apply Preserves.upd_pending); with_reducible apply Preserves.upd_tel)
    | with_reducible intro _

theorem execSnapshotLock_preserves {r : State} : ∀ (s : State),
    Preserves r s → PreservesNext r (execSnapshotLock s) := by
  intro s h
  unfold execSnapshotLock
  repeat' first
    | with_reducible assumption | with_reducible apply State.setF_preserves
    | with_reducible apply State.gate_preserves | with_reducible apply PreservesNext.ok
    | exact PreservesNext.fault _ | split | extract_lets
    | ((fail_if_success with_reducible apply Preserves.upd_pending); with_reducible apply Preserves.upd_tel)
    | with_reducible intro _

theorem execSnapshotUnlock_preserves {r : State} : ∀ (s : State),
    Preserves r s → PreservesNext r (execSnapshotUnlock s) := by
  intro s h
  unfold execSnapshotUnlock
  repeat' first
    | with_reducible assumption | with_reducible apply State.gate_preserves
    | with_reducible apply State.unlock_preserves | with_reducible apply PreservesNext.ok

theorem execSnapshotRequest_preserves {r : State} : ∀ (s : State),
    Preserves r s → PreservesNext r (execSnapshotRequest s) := by
  intro s h
  unfold execSnapshotRequest
  repeat' first
    | with_reducible assumption | with_reducible apply State.gate_preserves | with_reducible apply PreservesNext.ok
    | exact PreservesNext.fault _ | split | extract_lets
    | ((fail_if_success with_reducible apply Preserves.upd_pending); with_reducible apply Preserves.upd_tel)
    | with_reducible intro _

theorem execQueueHwmClear_preserves {r : State} : ∀ a0 a1 (s : State),
    Preserves r s → PreservesNext r (execQueueHwmClear a0 a1 s) := by
  intro a0 a1 s h
  unfold execQueueHwmClear
  repeat' first
    | with_reducible assumption | with_reducible apply State.setQueue_preserves
    | with_reducible apply State.gate_preserves | with_reducible apply PreservesNext.ok
    | exact PreservesNext.fault _ | split | extract_lets | with_reducible intro _

theorem execSnapshotTarget_preserves {r : State} : ∀ (s : State),
    Preserves r s → PreservesNext r (execSnapshotTarget s) := by
  intro s h
  unfold execSnapshotTarget
  repeat' first
    | with_reducible assumption | with_reducible apply State.settleCounters_preserves
    | with_reducible apply State.latchTarget_preserves | with_reducible apply State.reach_preserves
    | with_reducible apply PreservesNext.ok | exact PreservesNext.fault _ | split

theorem execSnapshotLockExpiry_preserves {r : State} : ∀ (s : State),
    Preserves r s → PreservesNext r (execSnapshotLockExpiry s) := by
  intro s h
  unfold execSnapshotLockExpiry
  repeat' first
    | with_reducible assumption | with_reducible apply State.reach_preserves
    | with_reducible apply State.unlock_preserves | with_reducible apply PreservesNext.ok
    | exact PreservesNext.fault _ | split

theorem State.publish_preserves {r : State} : ∀ (s : State) a1, Preserves r s → Preserves r (State.publish s a1) :=
  fun _ _ h => Preserves.through (State.publish_within _ _) rfl h

theorem execSnapshotComplete_preserves {r : State} : ∀ a0 a1 (s : State),
    Preserves r s → PreservesNext r (execSnapshotComplete a0 a1 s) := by
  intro a0 a1 s h
  unfold execSnapshotComplete
  repeat' first
    | with_reducible assumption | with_reducible apply State.bump_preserves
    | with_reducible apply State.publish_preserves | with_reducible apply State.raise_preserves
    | with_reducible apply State.deliverSnap_preserves | with_reducible apply State.violate_preserves
    | with_reducible apply PreservesNext.ok | exact PreservesNext.fault _
    | (with_reducible apply Preserves.each; intro _ _ _) | split | extract_lets
    | ((fail_if_success with_reducible apply Preserves.upd_pending); with_reducible apply Preserves.upd_tel)

/-! ## Machine/Health.lean -/

theorem State.healthEvent_preserves {r : State} : ∀ (s : State) a1 a2 a3,
    Preserves r s → Preserves r (State.healthEvent s a1 a2 a3) := by
  intro s a1 a2 a3 h
  unfold State.healthEvent
  repeat' first
    | with_reducible assumption | with_reducible apply State.raise_preserves

theorem State.setPart_preserves {r : State} : ∀ (s : State) a1 a2,
    Preserves r s → Preserves r (State.setPart s a1 a2) :=
  fun _ _ _ h => Preserves.through (State.setPart_within _ _ _) rfl h

theorem State.startAction_preserves {r : State} : ∀ (s : State) a1,
    Preserves r s → Preserves r (State.startAction s a1) := by
  intro s a1 h
  unfold State.startAction
  repeat' first
    | with_reducible assumption | with_reducible apply State.bump_preserves
    | with_reducible apply State.setPart_preserves | with_reducible apply State.healthEvent_preserves
    | with_reducible apply State.setF_preserves | with_reducible apply State.startOffline_preserves
    | with_reducible apply State.retireBit_preserves | with_reducible apply State.requestMaint_preserves
    | with_reducible apply State.laneBit_preserves | with_reducible apply State.startTakeover_preserves
    | with_reducible apply State.startDrain_preserves | split | extract_lets
    | ((fail_if_success with_reducible apply Preserves.upd_pending); with_reducible apply Preserves.upd_tel)

theorem State.allowPart_preserves {r : State} : ∀ (s : State) a1,
    Preserves r s → Preserves r (State.allowPart s a1) := by
  intro s a1 h
  unfold State.allowPart
  repeat' first
    | with_reducible assumption | with_reducible apply State.setPart_preserves
    | with_reducible apply State.healthEvent_preserves | with_reducible apply State.startAction_preserves | split
    | extract_lets

theorem State.markSuspect_preserves {r : State} : ∀ (s : State) a1,
    Preserves r s → Preserves r (State.markSuspect s a1) :=
  fun _ _ h => Preserves.through (State.markSuspect_within _ _) rfl h

theorem State.evaluatePart_preserves {r : State} : ∀ (s : State) a1 a2,
    Preserves r s → Preserves r (State.evaluatePart s a1 a2) := by
  intro s a1 a2 h
  unfold State.evaluatePart
  repeat' first
    | with_reducible assumption | with_reducible apply State.setPart_preserves
    | with_reducible apply State.healthEvent_preserves | with_reducible apply State.markSuspect_preserves | split
    | extract_lets | with_reducible intro _ | with_reducible show Preserves _ (ite _ _ _)

theorem State.unpin_preserves {r : State} : ∀ (s : State) a1 a2,
    Preserves r s → Preserves r (State.unpin s a1 a2) := by
  intro s a1 a2 h
  unfold State.unpin
  repeat' first
    | with_reducible assumption | with_reducible apply State.setPart_preserves
    | with_reducible apply State.healthEvent_preserves | with_reducible apply State.markSuspect_preserves | split
    | extract_lets

theorem execHealthUnpin_preserves {r : State} : ∀ a0 a1 (s : State),
    Preserves r s → PreservesNext r (execHealthUnpin a0 a1 s) := by
  intro a0 a1 s h
  unfold execHealthUnpin
  repeat' first
    | with_reducible assumption | with_reducible apply State.unpin_preserves
    | with_reducible apply State.gate_preserves | with_reducible apply State.status_preserves
    | with_reducible apply PreservesNext.ok | exact PreservesNext.fault _ | split | extract_lets
    | with_reducible intro _

theorem execHealthPin_preserves {r : State} : ∀ a0 a1 (s : State),
    Preserves r s → PreservesNext r (execHealthPin a0 a1 s) := by
  intro a0 a1 s h
  unfold execHealthPin
  repeat' first
    | with_reducible assumption | with_reducible apply State.setPart_preserves
    | with_reducible apply State.healthEvent_preserves | with_reducible apply State.unpin_preserves
    | with_reducible apply State.gate_preserves | with_reducible apply State.status_preserves
    | with_reducible apply PreservesNext.ok | exact PreservesNext.fault _ | split | extract_lets
    | with_reducible intro _

theorem execHealthRead_preserves {r : State} : ∀ a0 a1 (s : State),
    Preserves r s → PreservesNext r (execHealthRead a0 a1 s) := by
  intro a0 a1 s h
  unfold execHealthRead
  repeat' first
    | with_reducible assumption | with_reducible apply State.wr_preserves
    | with_reducible apply State.gate_preserves | with_reducible apply State.status_preserves
    | with_reducible apply PreservesNext.ok | exact PreservesNext.fault _ | split | extract_lets
    | with_reducible intro _

theorem execHealthPinExpiry_preserves {r : State} : ∀ a0 a1 (s : State),
    Preserves r s → PreservesNext r (execHealthPinExpiry a0 a1 s) := by
  intro a0 a1 s h
  unfold execHealthPinExpiry
  repeat' first
    | with_reducible assumption | with_reducible apply State.unpin_preserves
    | with_reducible apply State.reach_preserves | with_reducible apply PreservesNext.ok
    | exact PreservesNext.fault _ | split | extract_lets

theorem execEaselWeightUpdate_preserves {r : State} : ∀ a0 (s : State),
    Preserves r s → PreservesNext r (execEaselWeightUpdate a0 s) := by
  intro a0 s h
  unfold execEaselWeightUpdate
  repeat' first
    | with_reducible assumption | with_reducible apply State.setF_preserves
    | with_reducible apply State.reconsider_preserves | with_reducible apply State.moveOffPort_preserves
    | with_reducible apply PreservesNext.ok | exact PreservesNext.fault _ | split | extract_lets
    | ((fail_if_success with_reducible apply Preserves.upd_pending); with_reducible apply Preserves.upd_dp)

theorem execHealthActionStart_preserves {r : State} : ∀ a0 a1 (s : State),
    Preserves r s → PreservesNext r (execHealthActionStart a0 a1 s) := by
  intro a0 a1 s h
  unfold execHealthActionStart
  repeat' first
    | with_reducible assumption | with_reducible apply State.setPart_preserves
    | with_reducible apply State.startAction_preserves | with_reducible apply State.reach_preserves
    | with_reducible apply PreservesNext.ok | exact PreservesNext.fault _ | split | extract_lets

theorem execEaselRebalance_preserves {r : State} : ∀ a0 a1 (s : State),
    Preserves r s → PreservesNext r (execEaselRebalance a0 a1 s) := by
  intro a0 a1 s h
  unfold execEaselRebalance
  repeat' first
    | with_reducible assumption | with_reducible apply State.setBundle_preserves
    | with_reducible apply State.startMove_preserves | with_reducible apply PreservesNext.ok
    | exact PreservesNext.fault _ | (with_reducible apply Preserves.each; intro _ _ _) | split | extract_lets

theorem State.noteInputs_preserves {r : State} : ∀ (s : State), Preserves r s → Preserves r (State.noteInputs s) :=
  fun _ h => Preserves.through (State.noteInputs_within _) rfl h

theorem execHealthEvaluate_preserves {r : State} : ∀ a0 (s : State),
    Preserves r s → PreservesNext r (execHealthEvaluate a0 s) := by
  intro a0 s h
  unfold execHealthEvaluate
  repeat' first
    | with_reducible assumption | with_reducible apply State.bump_preserves
    | with_reducible apply State.noteInputs_preserves | with_reducible apply State.reach_preserves
    | with_reducible apply State.evaluatePart_preserves | with_reducible apply State.allowPart_preserves
    | with_reducible apply PreservesNext.ok | exact PreservesNext.fault _
    | (with_reducible apply Preserves.each; intro _ _ _) | split | extract_lets
    | ((fail_if_success with_reducible apply Preserves.upd_pending); with_reducible apply Preserves.upd_tel)

theorem State.setUpdate_preserves {r : State} : ∀ (s : State) a1,
    Preserves r s → Preserves r (State.setUpdate s a1) :=
  fun _ _ h => Preserves.through (State.setUpdate_within _ _) rfl h

/-! ## Machine/Service.lean -/

theorem State.swapBanks_preserves {r : State} : ∀ (s : State) a1,
    Preserves r s → Preserves r (State.swapBanks s a1) := by
  intro s a1 h
  unfold State.swapBanks
  repeat' first
    | with_reducible assumption | with_reducible apply State.setUpdate_preserves
    | with_reducible apply State.shutIsland_preserves

theorem State.endIslandDrain_preserves {r : State} : ∀ (s : State) a1 a2,
    Preserves r s → Preserves r (State.endIslandDrain s a1 a2) := by
  intro s a1 a2 h
  unfold State.endIslandDrain
  repeat' first
    | with_reducible assumption | with_reducible apply State.discardItems_preserves
    | with_reducible apply State.raise_preserves | with_reducible apply State.swapBanks_preserves
    | with_reducible apply State.reach_preserves | split | extract_lets

theorem State.ucodeStat_preserves {r : State} : ∀ (s : State) a1 a2 a3,
    Preserves r s → Preserves r (State.ucodeStat s a1 a2 a3) := by
  intro s a1 a2 a3 h
  unfold State.ucodeStat
  repeat' first
    | with_reducible assumption | with_reducible apply State.wr_preserves

theorem State.endUcode_preserves {r : State} : ∀ (s : State) a1 a2 a3,
    Preserves r s → Preserves r (State.endUcode s a1 a2 a3) := by
  intro s a1 a2 a3 h
  unfold State.endUcode
  repeat' first
    | with_reducible assumption | with_reducible apply State.endMaint_preserves
    | with_reducible apply State.ucodeStat_preserves | split | extract_lets
    | ((fail_if_success with_reducible apply Preserves.upd_pending); with_reducible apply Preserves.upd_tel)

theorem State.firstGeneration_preserves {r : State} : ∀ (s : State),
    Preserves r s → Preserves r (State.firstGeneration s) := by
  intro s h
  unfold State.firstGeneration
  repeat' first
    | with_reducible assumption | with_reducible apply State.sendMore_preserves
    | with_reducible apply State.sendReady_preserves | (with_reducible apply Preserves.each; intro _ _ _) | split
    | extract_lets
    | ((fail_if_success with_reducible apply Preserves.upd_pending); with_reducible apply Preserves.upd_tab)

theorem State.genEvent_preserves {r : State} : ∀ (s : State) a1,
    Preserves r s → Preserves r (State.genEvent s a1) := by
  intro s a1 h
  unfold State.genEvent
  repeat' first
    | with_reducible assumption | with_reducible apply State.raise_preserves

theorem State.startUcode_preserves {r : State} : ∀ a0 a1 (s : State),
    Preserves r s → Preserves r (State.startUcode a0 a1 s) :=
  fun _ _ _ h => Preserves.through (State.startUcode_within _ _ _) rfl h

theorem State.startActivity_preserves {r : State} : ∀ a0 (s : State),
    Preserves r s → Preserves r (State.startActivity a0 s) := by
  intro a0 s h
  unfold State.startActivity
  repeat' first
    | with_reducible assumption | with_reducible apply State.startResume_preserves
    | with_reducible apply State.startOffline_preserves | with_reducible apply State.startStack_preserves
    | with_reducible apply State.startCxlAdd_preserves | with_reducible apply State.startErase_preserves
    | with_reducible apply State.startDomainOp_preserves | with_reducible apply State.startCxlRemove_preserves
    | with_reducible apply State.startPortReset_preserves | with_reducible apply State.startUcode_preserves
    | with_reducible apply State.startRetrain_preserves | with_reducible apply State.startProgram_preserves
    | with_reducible apply State.startTakeover_preserves | with_reducible apply State.startDrain_preserves | split

theorem execUcodeUpdate_preserves {r : State} : ∀ a0 a1 (s : State),
    Preserves r s → PreservesNext r (execUcodeUpdate a0 a1 s) := by
  intro a0 a1 s h
  unfold execUcodeUpdate
  repeat' first
    | with_reducible assumption | with_reducible apply State.requestMaint_preserves
    | with_reducible apply State.gate_preserves | with_reducible apply State.ucodeStat_preserves
    | with_reducible apply State.startUcode_preserves | with_reducible apply State.status_preserves
    | with_reducible apply PreservesNext.ok | exact PreservesNext.fault _ | split | extract_lets
    | with_reducible intro _

theorem execMaintLockGrant_preserves {r : State} : ∀ (s : State),
    Preserves r s → PreservesNext r (execMaintLockGrant s) := by
  intro s h
  unfold execMaintLockGrant
  repeat' first
    | with_reducible assumption | with_reducible apply State.startActivity_preserves
    | with_reducible apply State.maintEvent_preserves | with_reducible apply PreservesNext.ok
    | exact PreservesNext.fault _ | split | extract_lets
    | ((fail_if_success with_reducible apply Preserves.upd_pending); with_reducible apply Preserves.upd_maint)

theorem execUcodeLoadDone_preserves {r : State} : ∀ a0 (s : State),
    Preserves r s → PreservesNext r (execUcodeLoadDone a0 s) := by
  intro a0 s h
  unfold execUcodeLoadDone
  repeat' first
    | with_reducible assumption | with_reducible apply State.endIslandDrain_preserves
    | with_reducible apply State.setUpdate_preserves | with_reducible apply State.endUcode_preserves
    | with_reducible apply State.swapBanks_preserves | with_reducible apply PreservesNext.ok
    | exact PreservesNext.fault _ | split | extract_lets

theorem execUcodeAnnounceTimeout_preserves {r : State} : ∀ (s : State),
    Preserves r s → PreservesNext r (execUcodeAnnounceTimeout s) := by
  intro s h
  unfold execUcodeAnnounceTimeout
  repeat' first
    | with_reducible assumption | with_reducible apply State.openIsland_preserves
    | with_reducible apply State.endUcode_preserves | with_reducible apply State.reach_preserves
    | with_reducible apply PreservesNext.ok | exact PreservesNext.fault _ | split

theorem execEpochReached_preserves {r : State} : ∀ (s : State),
    Preserves r s → PreservesNext r (execEpochReached s) := by
  intro s h
  unfold execEpochReached
  repeat' first
    | with_reducible assumption | with_reducible apply State.canvasEpoch_preserves
    | with_reducible apply State.reconsider_preserves | with_reducible apply State.genEvent_preserves
    | with_reducible apply State.reach_preserves | with_reducible apply State.firstGeneration_preserves
    | with_reducible apply PreservesNext.ok | exact PreservesNext.fault _ | split | extract_lets
    | ((fail_if_success with_reducible apply Preserves.upd_pending); with_reducible apply Preserves.upd_tab_prism)

theorem execCreditAnnounce_preserves {r : State} : ∀ a0 (s : State),
    Preserves r s → PreservesNext r (execCreditAnnounce a0 s) := by
  intro a0 s h
  unfold execCreditAnnounce
  repeat' first
    | with_reducible assumption | with_reducible apply State.bump_preserves
    | with_reducible apply State.openIsland_preserves | with_reducible apply State.endUcode_preserves
    | with_reducible apply State.measure_preserves | with_reducible apply PreservesNext.ok
    | exact PreservesNext.fault _ | split

/-! ## Machine/Regs.lean -/

theorem writePageCmd_preserves {r : State} : ∀ a0 (s : State), Preserves r s → Preserves r (writePageCmd a0 s) := by
  intro a0 s h
  unfold writePageCmd
  repeat' first
    | with_reducible assumption | with_reducible apply execPageSetPin_preserves
    | with_reducible apply execPageAlloc_preserves | with_reducible apply execPageRead_preserves
    | with_reducible apply execPageFree_preserves | with_reducible apply State.status_preserves
    | with_reducible apply State.after_preserves | split

theorem writeMem_preserves {r : State} : ∀ a0 a1 a2 a3 (s : State),
    Preserves r s → Preserves r (writeMem a0 a1 a2 a3 s) := by
  intro a0 a1 a2 a3 s h
  unfold writeMem
  repeat' first
    | with_reducible assumption | with_reducible apply execHeldRelease_preserves
    | with_reducible apply State.abandonMoves_preserves | with_reducible apply execCxlRemove_preserves
    | with_reducible apply execSpillMaxWrite_preserves | with_reducible apply State.setF_preserves
    | with_reducible apply execTrackerForget_preserves | with_reducible apply execFixGibWrite_preserves
    | with_reducible apply State.store_preserves | with_reducible apply execCxlPortEnable_preserves
    | with_reducible apply execWindowRead_preserves | with_reducible apply execStackRetireRequest_preserves
    | with_reducible apply execHeldReleaseDest_preserves | with_reducible apply writePageCmd_preserves
    | with_reducible apply execWindowWrite_preserves | with_reducible apply execHeldRead_preserves
    | with_reducible apply State.status_preserves | with_reducible apply State.after_preserves | split
    | extract_lets

theorem writeOpt_preserves {r : State} : ∀ a0 a1 a2 (s : State),
    Preserves r s → Preserves r (writeOpt a0 a1 a2 s) := by
  intro a0 a1 a2 s h
  unfold writeOpt
  repeat' first
    | with_reducible assumption | with_reducible apply execEthReadActive_preserves
    | with_reducible apply execEthReadEntry_preserves | with_reducible apply execEthWriteEntry_preserves
    | with_reducible apply execLaserTakeoverRequest_preserves | with_reducible apply execLaserRead_preserves
    | with_reducible apply execPatWriteShadow_preserves | with_reducible apply State.store_preserves
    | with_reducible apply execPatReadShadow_preserves | with_reducible apply execPrismGuardWrite_preserves
    | with_reducible apply execPatReadActive_preserves | with_reducible apply State.status_preserves
    | with_reducible apply State.after_preserves | split

theorem writeHub_preserves {r : State} : ∀ a0 a1 a2 a3 (s : State),
    Preserves r s → Preserves r (writeHub a0 a1 a2 a3 s) := by
  intro a0 a1 a2 a3 s h
  unfold writeHub
  repeat' first
    | with_reducible assumption | with_reducible apply execHostRingDisable_preserves
    | with_reducible apply execAuxRingEnable_preserves | with_reducible apply State.store_preserves
    | with_reducible apply execTimeSet_preserves | with_reducible apply execHostRingEnable_preserves
    | with_reducible apply State.after_preserves | split

theorem writeGlb_preserves {r : State} : ∀ a0 a1 a2 (s : State),
    Preserves r s → Preserves r (writeGlb a0 a1 a2 s) := by
  intro a0 a1 a2 s h
  unfold writeGlb
  repeat' first
    | with_reducible assumption | with_reducible apply execMstateRequest_preserves
    | with_reducible apply execHostImageGo_preserves | with_reducible apply execFlashErase_preserves
    | with_reducible apply execDomainResetRequest_preserves | with_reducible apply execFlashProgram_preserves
    | with_reducible apply State.store_preserves | with_reducible apply State.flashStatus_preserves
    | with_reducible apply execSecRaiseMinSvn_preserves | with_reducible apply State.rstStatus_preserves
    | with_reducible apply State.tick_preserves | with_reducible apply State.cutBudgets_preserves
    | with_reducible apply execDomainRetention_preserves | with_reducible apply execDomainOn_preserves
    | with_reducible apply execSecBurnOwnerHash_preserves | with_reducible apply execAttestReadEntry_preserves
    | with_reducible apply execFabricIdWrite_preserves | with_reducible apply execSupplyLogClear_preserves
    | with_reducible apply execAttestReport_preserves | with_reducible apply State.secStatus_preserves
    | with_reducible apply execWarmResetRequest_preserves | with_reducible apply execDomainOff_preserves
    | with_reducible apply execAttestWritePubkey_preserves | with_reducible apply State.after_preserves | split

theorem writeBuf_preserves {r : State} : ∀ a0 a1 a2 a3 (s : State),
    Preserves r s → Preserves r (writeBuf a0 a1 a2 a3 s) := by
  intro a0 a1 a2 a3 s h
  unfold writeBuf
  repeat' first
    | with_reducible assumption | with_reducible apply execFwdReadShadow_preserves
    | with_reducible apply execFwdReadActive_preserves | with_reducible apply execFwdWriteShadow_preserves
    | with_reducible apply execFwdCommit_preserves | with_reducible apply State.store_preserves
    | with_reducible apply execReservationWrite_preserves | with_reducible apply execMarkThresholdWrite_preserves
    | with_reducible apply State.after_preserves | split

theorem writeMct_preserves {r : State} : ∀ a0 a1 a2 (s : State),
    Preserves r s → Preserves r (writeMct a0 a1 a2 s) := by
  intro a0 a1 a2 s h
  unfold writeMct
  repeat' first
    | with_reducible assumption | with_reducible apply execMctWriteShadow_preserves
    | with_reducible apply execMctReadActive_preserves | with_reducible apply State.store_preserves
    | with_reducible apply execCnvWriteShadow_preserves | with_reducible apply execCnvReadShadow_preserves
    | with_reducible apply execCnvForce_preserves | with_reducible apply execCnvReadStatus_preserves
    | with_reducible apply execMctReadShadow_preserves | with_reducible apply execCnvReadActive_preserves
    | with_reducible apply State.status_preserves | with_reducible apply State.after_preserves | split

theorem writePortCtrl_preserves {r : State} : ∀ a0 a1 (s : State),
    Preserves r s → Preserves r (writePortCtrl a0 a1 s) := by
  intro a0 a1 s h
  unfold writePortCtrl
  repeat' first
    | with_reducible assumption | with_reducible apply execPortEnableWrite_preserves
    | with_reducible apply execPortRetrain_preserves | with_reducible apply execPortDrain_preserves
    | with_reducible apply execLaneMaskWrite_preserves | with_reducible apply execPortUndrain_preserves
    | with_reducible apply execPortReset_preserves | with_reducible apply State.after_preserves | split
    | extract_lets | with_reducible intro _ | with_reducible show Preserves _ (ite _ _ _)

theorem writePl_preserves {r : State} : ∀ a0 a1 a2 a3 (s : State),
    Preserves r s → Preserves r (writePl a0 a1 a2 a3 s) := by
  intro a0 a1 a2 a3 s h
  unfold writePl
  repeat' first
    | with_reducible assumption | with_reducible apply writePortCtrl_preserves
    | with_reducible apply execPathWeightWrite_preserves | with_reducible apply State.store_preserves
    | with_reducible apply State.polModeWrite_preserves | with_reducible apply execPolicerBucketWrite_preserves
    | with_reducible apply execShaperWrite_preserves | with_reducible apply State.after_preserves | split

theorem writeSnapCtrl_preserves {r : State} : ∀ a0 a1 (s : State),
    Preserves r s → Preserves r (writeSnapCtrl a0 a1 s) := by
  intro a0 a1 s h
  unfold writeSnapCtrl
  repeat' first
    | with_reducible assumption | with_reducible apply execSnapshotLock_preserves
    | with_reducible apply State.setF_preserves | with_reducible apply execSnapshotUnlock_preserves
    | with_reducible apply execSnapshotRequest_preserves | with_reducible apply State.after_preserves | split
    | extract_lets
    | ((fail_if_success with_reducible apply Preserves.upd_pending); with_reducible apply Preserves.upd_tel)
    | with_reducible intro _ | with_reducible show Preserves _ (ite _ _ _)

theorem writeTel_preserves {r : State} : ∀ a0 a1 a2 a3 (s : State),
    Preserves r s → Preserves r (writeTel a0 a1 a2 a3 s) := by
  intro a0 a1 a2 a3 s h
  unfold writeTel
  repeat' first
    | with_reducible assumption | with_reducible apply execHealthUnpin_preserves
    | with_reducible apply execIsolationRelease_preserves | with_reducible apply execHealthPin_preserves
    | with_reducible apply writeSnapCtrl_preserves | with_reducible apply execUcodeUpdate_preserves
    | with_reducible apply State.store_preserves | with_reducible apply execHealthRead_preserves
    | with_reducible apply execQueueHwmClear_preserves | with_reducible apply State.after_preserves | split

theorem writeEngCtrl_preserves {r : State} : ∀ a0 a1 a2 (s : State),
    Preserves r s → Preserves r (writeEngCtrl a0 a1 a2 s) := by
  intro a0 a1 a2 s h
  unfold writeEngCtrl
  repeat' first
    | with_reducible assumption | with_reducible apply execEngineParkRequest_preserves
    | with_reducible apply State.shedFiller_preserves | with_reducible apply State.setF_preserves
    | with_reducible apply execEngineUnpark_preserves | with_reducible apply execEngineResume_preserves
    | with_reducible apply execEngineOfflineRequest_preserves | with_reducible apply State.after_preserves | split

theorem writePal_preserves {r : State} : ∀ a0 a1 a2 a3 (s : State),
    Preserves r s → Preserves r (writePal a0 a1 a2 a3 s) := by
  intro a0 a1 a2 a3 s h
  unfold writePal
  repeat' first
    | with_reducible assumption | with_reducible apply execRingWrite_preserves
    | with_reducible apply writeEngCtrl_preserves | with_reducible apply execRingStatusRead_preserves
    | with_reducible apply execLaneRetireWrite_preserves | with_reducible apply State.store_preserves
    | with_reducible apply execRingRead_preserves | with_reducible apply State.after_preserves | split

theorem writeReg_preserves {r : State} : ∀ a0 a1 a2 a3 (s : State),
    Preserves r s → Preserves r (writeReg a0 a1 a2 a3 s) := by
  intro a0 a1 a2 a3 s h
  unfold writeReg
  repeat' first
    | with_reducible assumption | with_reducible apply writeMem_preserves | with_reducible apply writeOpt_preserves
    | with_reducible apply writeHub_preserves | with_reducible apply writeGlb_preserves
    | with_reducible apply writeBuf_preserves | with_reducible apply writeMct_preserves
    | with_reducible apply writePl_preserves | with_reducible apply writeTel_preserves
    | with_reducible apply writePal_preserves | with_reducible apply State.after_preserves | split

/-! ## Machine/Flags.lean -/

theorem State.readAccess_preserves {r : State} : ∀ (s : State) a1 a2,
    Preserves r s → Preserves r (State.readAccess s a1 a2) := by
  intro s a1 a2 h
  unfold State.readAccess
  repeat' first
    | with_reducible assumption | with_reducible apply State.accessEvent_preserves
    | with_reducible apply State.emit_preserves | split

theorem State.writeAccess_preserves {r : State} : ∀ (s : State) a1 a2 a3,
    Preserves r s → Preserves r (State.writeAccess s a1 a2 a3) := by
  intro s a1 a2 a3 h
  unfold State.writeAccess
  repeat' first
    | with_reducible assumption | with_reducible apply writeReg_preserves
    | with_reducible apply State.accessEvent_preserves | split

theorem execRegisterWrite_preserves {r : State} : ∀ a0 a1 a2 (s : State),
    Preserves r s → PreservesNext r (execRegisterWrite a0 a1 a2 s) := by
  intro a0 a1 a2 s h
  unfold execRegisterWrite
  repeat' first
    | with_reducible assumption | with_reducible apply State.writeAccess_preserves
    | with_reducible apply State.readAccess_preserves | with_reducible apply PreservesNext.ok
    | exact PreservesNext.fault _ | split

/-! ## Machine/Idle.lean -/

theorem idle_eq_spanned (s : State) :
    idle s = ({ s.spanned (s.clk.advance.now - s.now) with clk := s.clk.advance } : State).alertStep := rfl

theorem idle_preserves {r : State} : ∀ (s : State), Preserves r s → Preserves r (idle s) := by
  intro s h
  have off : s.clk.advance.tb0Off = (s.spanned (s.clk.advance.now - s.now)).clk.tb0Off := by
    rw [State.spanned_clk]
    rfl
  rw [idle_eq_spanned]
  exact Preserves.through (State.alertStep_within _) rfl ((State.spanned_preserves _ h).upd_clk off)

/-! ## Every command and every step -/

/-- Every command but a cold reset, which starts TB0 anew. -/
theorem exec_preserves {c : Instr} {r s : State} (cold : c ≠ .coldReset) (h : Preserves r s) :
    PreservesNext r (exec c s) := by
  cases c with
  | registerWrite => exact execRegisterWrite_preserves _ _ _ _ h
  | fabricIdWrite => exact execFabricIdWrite_preserves _ _ h
  | withdrawalDrainEnd => exact execWithdrawalDrainEnd_preserves _ h
  | warmResetRequest => exact execWarmResetRequest_preserves _ h
  | domainResetRequest => exact execDomainResetRequest_preserves _ _ h
  | coldReset => exact absurd rfl cold
  | resetNAssert => exact execResetNAssert_preserves _ _ h
  | resetNRelease => exact execResetNRelease_preserves _ h
  | firmwareWatchdog => exact execFirmwareWatchdog_preserves _ h
  | thermalHoldEnd => exact execThermalHoldEnd_preserves _ h
  | imageCheckDone => exact execImageCheckDone_preserves _ _ h
  | hostBootTimeout => exact execHostBootTimeout_preserves _ h
  | bootBackoffExpiry => exact execBootBackoffExpiry_preserves _ h
  | hostImageGo => exact execHostImageGo_preserves _ _ h
  | bringupDone => exact execBringupDone_preserves _ _ _ h
  | bootRecordClear => exact execBootRecordClear_preserves _ h
  | flashProgram => exact execFlashProgram_preserves _ _ _ h
  | flashErase => exact execFlashErase_preserves _ _ h
  | flashProgramDone => exact execFlashProgramDone_preserves _ _ h
  | secRaiseMinSvn => exact execSecRaiseMinSvn_preserves _ h
  | secBurnOwnerHash => exact execSecBurnOwnerHash_preserves _ _ h
  | attestReport => exact execAttestReport_preserves _ h
  | attestReportDone => exact execAttestReportDone_preserves _ h
  | attestReadEntry => exact execAttestReadEntry_preserves _ _ h
  | attestWritePubkey => exact execAttestWritePubkey_preserves _ h
  | headerArrival => exact execHeaderArrival_preserves _ _ h
  | headerLookup => exact execHeaderLookup_preserves _ _ _ h
  | packetAdmitRetry => exact execPacketAdmitRetry_preserves _ _ _ h
  | bankWriteRetry => exact execBankWriteRetry_preserves _ _ _ _ h
  | packetTail => exact execPacketTail_preserves _ _ h
  | ageLimitExpiry => exact execAgeLimitExpiry_preserves _ _ _ h
  | egressSchedule => exact execEgressSchedule_preserves _ _ h
  | shaperEligible => exact execShaperEligible_preserves _ _ _ h
  | wheelOverflowRescan => exact .of_within (execWheelOverflowRescan_within _ _) rfl h
  | shaperWrite => exact execShaperWrite_preserves _ _ _ _ h
  | policerBucketWrite => exact execPolicerBucketWrite_preserves _ _ _ _ _ h
  | markThresholdWrite => exact execMarkThresholdWrite_preserves _ _ _ h
  | reservationWrite => exact execReservationWrite_preserves _ _ _ h
  | spillBlockWrite => exact execSpillBlockWrite_preserves _ _ _ h
  | spillWriteConfirm => exact .of_within (execSpillWriteConfirm_within _ _ _) rfl h
  | spillBlockReturn => exact execSpillBlockReturn_preserves _ _ _ _ h
  | nopathTimeout => exact execNopathTimeout_preserves _ h
  | rateLimitRecover => exact execRateLimitRecover_preserves _ _ h
  | depthRefresh => exact execDepthRefresh_preserves _ _ h
  | easelWeightUpdate => exact execEaselWeightUpdate_preserves _ _ h
  | easelRebalance => exact execEaselRebalance_preserves _ _ _ h
  | pathWeightWrite => exact execPathWeightWrite_preserves _ _ _ h
  | settleExpiry => exact execSettleExpiry_preserves _ _ _ h
  | pathMarkReceive => exact execPathMarkReceive_preserves _ h
  | pathMarkAckSend => exact .of_within (execPathMarkAckSend_within _) rfl h
  | pathMarkAckReceive => exact execPathMarkAckReceive_preserves _ h
  | markTimeout => exact execMarkTimeout_preserves _ _ _ h
  | fwdWriteShadow => exact execFwdWriteShadow_preserves _ _ _ h
  | fwdReadShadow => exact execFwdReadShadow_preserves _ _ _ h
  | fwdReadActive => exact execFwdReadActive_preserves _ _ _ h
  | fwdCommit => exact execFwdCommit_preserves _ _ h
  | epochReached => exact execEpochReached_preserves _ h
  | shadowCopyDone => exact .of_within (execShadowCopyDone_within _) rfl h
  | mctWriteShadow => exact execMctWriteShadow_preserves _ _ h
  | mctReadShadow => exact execMctReadShadow_preserves _ _ h
  | mctReadActive => exact execMctReadActive_preserves _ _ h
  | mcastReplicate => exact execMcastReplicate_preserves _ h
  | replicaAdmitRetry => exact execReplicaAdmitRetry_preserves _ h
  | cnvWriteShadow => exact execCnvWriteShadow_preserves _ _ h
  | cnvReadShadow => exact execCnvReadShadow_preserves _ _ h
  | cnvReadActive => exact execCnvReadActive_preserves _ _ h
  | cnvReadStatus => exact execCnvReadStatus_preserves _ _ h
  | cnvForce => exact execCnvForce_preserves _ _ h
  | contextFreed => exact execContextFreed_preserves _ _ h
  | contribReceive => exact execContribReceive_preserves _ h
  | canvasIngestRetry => exact execCanvasIngestRetry_preserves _ h
  | segmentAreaGrant => exact .of_within (execSegmentAreaGrant_within _ _ _ _) rfl h
  | batchWaitExpiry => exact execBatchWaitExpiry_preserves _ _ _ _ h
  | canvasBatchAdmit => exact execCanvasBatchAdmit_preserves _ _ _ _ h
  | batchFolded => exact execBatchFolded_preserves _ _ _ _ h
  | segmentTimeout => exact execSegmentTimeout_preserves _ _ _ _ h
  | segmentEncodeDone => exact execSegmentEncodeDone_preserves _ _ _ _ h
  | phaseMarkReceive => exact execPhaseMarkReceive_preserves _ h
  | childResultTimeout => exact execChildResultTimeout_preserves _ _ _ _ h
  | recoverCopyDone => exact execRecoverCopyDone_preserves _ _ h
  | engineParkRequest => exact execEngineParkRequest_preserves _ _ h
  | engineUnpark => exact execEngineUnpark_preserves _ _ h
  | engineOfflineRequest => exact execEngineOfflineRequest_preserves _ _ h
  | engineResume => exact execEngineResume_preserves _ _ h
  | laneRetireWrite => exact execLaneRetireWrite_preserves _ _ _ h
  | laneGroupSwap => exact execLaneGroupSwap_preserves _ _ h
  | engineScrubDone => exact execEngineScrubDone_preserves _ _ h
  | keepExpiry => exact execKeepExpiry_preserves _ _ h
  | rampStep => exact execRampStep_preserves _ _ h
  | governorStep => exact execGovernorStep_preserves _ _ _ _ h
  | engineFault => exact execEngineFault_preserves _ _ _ _ h
  | engineResetDone => exact execEngineResetDone_preserves _ _ h
  | watchdogExpiry => exact execWatchdogExpiry_preserves _ _ h
  | doorbellRead => exact execDoorbellRead_preserves _ _ h
  | ringWrite => exact execRingWrite_preserves _ _ h
  | ringRead => exact execRingRead_preserves _ _ h
  | ringStatusRead => exact execRingStatusRead_preserves _ _ h
  | energyWindowStart => exact execEnergyWindowStart_preserves _ _ h
  | listAdmit => exact execListAdmit_preserves _ _ h
  | palNop => exact execPalNop_preserves _ _ h
  | palBegin => exact execPalBegin_preserves _ _ h
  | palEnd => exact execPalEnd_preserves _ _ h
  | palFence => exact execPalFence_preserves _ _ h
  | fenceComplete => exact execFenceComplete_preserves _ _ h
  | fenceTimeout => exact execFenceTimeout_preserves _ _ h
  | palNotify => exact execPalNotify_preserves _ _ h
  | notifyResponse => exact execNotifyResponse_preserves _ _ h
  | palCkpt => exact execPalCkpt_preserves _ _ h
  | palMove => exact execPalMove_preserves _ _ h
  | moveWritePerformed => exact execMoveWritePerformed_preserves _ _ _ h
  | palRow => exact execPalRow_preserves _ _ h
  | palElem => exact execPalElem_preserves _ _ h
  | palXlane => exact execPalXlane_preserves _ _ h
  | palConvert => exact execPalConvert_preserves _ _ h
  | homeRequestReceive => exact execHomeRequestReceive_preserves _ _ h
  | trackerAllocate => exact execTrackerAllocate_preserves _ _ h
  | trackerLingerExpiry => exact execTrackerLingerExpiry_preserves _ _ _ _ h
  | homeRequestPerform => exact execHomeRequestPerform_preserves _ _ h
  | lineFill => exact execLineFill_preserves _ _ h
  | combiningLineExpiry => exact execCombiningLineExpiry_preserves _ _ h
  | responseReceive => exact execResponseReceive_preserves _ h
  | requestRetry => exact execRequestRetry_preserves _ _ _ h
  | requestTimerExpiry => exact execRequestTimerExpiry_preserves _ _ _ h
  | trackerForget => exact execTrackerForget_preserves _ _ _ _ h
  | windowWrite => exact execWindowWrite_preserves _ _ h
  | windowRead => exact execWindowRead_preserves _ _ h
  | heldRelease => exact execHeldRelease_preserves _ _ h
  | heldReleaseDest => exact execHeldReleaseDest_preserves _ h
  | heldRead => exact execHeldRead_preserves _ _ h
  | pageAlloc => exact execPageAlloc_preserves _ _ h
  | pageFree => exact execPageFree_preserves _ _ h
  | pageRead => exact execPageRead_preserves _ _ h
  | pageSetPin => exact execPageSetPin_preserves _ _ h
  | fixGibWrite => exact execFixGibWrite_preserves _ _ _ h
  | fixWindowMapped => exact execFixWindowMapped_preserves _ _ h
  | easelInterval => exact execEaselInterval_preserves _ _ _ _ _ _ _ _ h
  | pageCopyDone => exact execPageCopyDone_preserves _ _ h
  | heatHalving => exact execHeatHalving_preserves _ h
  | spillMaxWrite => exact execSpillMaxWrite_preserves _ _ h
  | stackRetireRequest => exact execStackRetireRequest_preserves _ _ h
  | stackDemoteDone => exact execStackDemoteDone_preserves _ _ h
  | stackRelocateDone => exact execStackRelocateDone_preserves _ _ h
  | stackFail => exact execStackFail_preserves _ _ h
  | hbmScrub => exact execHbmScrub_preserves _ _ _ _ h
  | cxlPortEnable => exact execCxlPortEnable_preserves _ _ _ _ h
  | cxlRemove => exact execCxlRemove_preserves _ _ h
  | cxlRemoveDone => exact execCxlRemoveDone_preserves _ _ h
  | cxlPortFail => exact execCxlPortFail_preserves _ _ h
  | cxlRetrainTick => exact execCxlRetrainTick_preserves _ _ h
  | cxlDeviceEvent => exact execCxlDeviceEvent_preserves _ _ _ h
  | slotStart => exact execSlotStart_preserves _ h
  | discoverReceive => exact execDiscoverReceive_preserves _ _ _ _ h
  | lcReadyReceive => exact execLcReadyReceive_preserves _ _ h
  | lcWithdrawReceive => exact execLcWithdrawReceive_preserves _ _ h
  | peerSilenceTimeout => exact execPeerSilenceTimeout_preserves _ _ h
  | prismListenEnd => exact execPrismListenEnd_preserves _ h
  | patternApply => exact execPatternApply_preserves _ h
  | planeRetuneEnd => exact execPlaneRetuneEnd_preserves _ h
  | patWriteShadow => exact execPatWriteShadow_preserves _ _ h
  | patReadShadow => exact execPatReadShadow_preserves _ _ h
  | patReadActive => exact execPatReadActive_preserves _ _ h
  | prismGuardWrite => exact execPrismGuardWrite_preserves _ _ _ h
  | laserRead => exact execLaserRead_preserves _ _ _ h
  | laserTakeoverRequest => exact execLaserTakeoverRequest_preserves _ _ _ h
  | spareWarmDone => exact execSpareWarmDone_preserves _ _ _ _ h
  | takeoverSwitch => exact execTakeoverSwitch_preserves _ _ _ h
  | laserFail => exact execLaserFail_preserves _ _ _ h
  | laserAgeingTick => exact .of_within (execLaserAgeingTick_within _ _ _ _ _ _) rfl h
  | opticalLos => exact execOpticalLos_preserves _ _ _ h
  | opticalLosClear => exact execOpticalLosClear_preserves _ _ _ h
  | opticalPowerWarning => exact execOpticalPowerWarning_preserves _ _ _ _ _ h
  | opticalOverload => exact execOpticalOverload_preserves _ _ _ _ h
  | overloadClear => exact execOverloadClear_preserves _ _ _ h
  | laneLock => exact execLaneLock_preserves _ _ _ h
  | flitLock => exact execFlitLock_preserves _ _ _ _ _ _ h
  | trainingStepTimeout => exact execTrainingStepTimeout_preserves _ _ h
  | trainingRestExpiry => exact execTrainingRestExpiry_preserves _ _ h
  | lcIdentReceive => exact execLcIdentReceive_preserves _ _ h
  | lcIdentTimer => exact execLcIdentTimer_preserves _ _ h
  | flitReceive => exact execFlitReceive_preserves _ _ _ _ _ h
  | controlFlitReceive => exact execControlFlitReceive_preserves _ _ _ _ h
  | ackTimeout => exact execAckTimeout_preserves _ _ _ h
  | linkSilenceTimeout => exact execLinkSilenceTimeout_preserves _ _ h
  | laneFail => exact execLaneFail_preserves _ _ _ h
  | laneRejoin => exact execLaneRejoin_preserves _ _ _ h
  | timePacketTimer => exact execTimePacketTimer_preserves _ h
  | portEnableWrite => exact execPortEnableWrite_preserves _ _ _ h
  | portDrain => exact execPortDrain_preserves _ _ h
  | portUndrain => exact execPortUndrain_preserves _ _ h
  | portDrainEnd => exact execPortDrainEnd_preserves _ _ h
  | portRetrain => exact execPortRetrain_preserves _ _ h
  | portReset => exact execPortReset_preserves _ _ h
  | laneMaskWrite => exact execLaneMaskWrite_preserves _ _ _ h
  | dieLinkDown => exact execDieLinkDown_preserves _ _ h
  | dieLinkRetrain => exact execDieLinkRetrain_preserves _ _ _ h
  | creditAnnounce => exact execCreditAnnounce_preserves _ _ h
  | ethFrameReceive => exact execEthFrameReceive_preserves _ _ _ h
  | macAgeingScan => exact .of_within (execMacAgeingScan_within _ _) rfl h
  | ethWriteEntry => exact execEthWriteEntry_preserves _ _ _ _ h
  | ethReadEntry => exact execEthReadEntry_preserves _ _ _ _ h
  | ethReadActive => exact execEthReadActive_preserves _ _ _ _ h
  | timeMeasurement => exact execTimeMeasurement_preserves _ _ h
  | timeSourceTimeout => exact execTimeSourceTimeout_preserves _ h
  | ppsEdge => exact execPpsEdge_preserves _ _ h
  | timeSet => exact execTimeSet_preserves _ h
  | tb0Realign => exact execTb0Realign_preserves _ _ _ h
  | ptpMessageReceive => exact execPtpMessageReceive_preserves _ _ h
  | hostLinkDown => exact execHostLinkDown_preserves _ h
  | hostLinkUp => exact execHostLinkUp_preserves _ _ h
  | nudgeReceive rings => exact execNudgeReceive_preserves rings _ h
  | doorbellPollTimer => exact execDoorbellPollTimer_preserves _ h
  | doorbellPageReturn => exact execDoorbellPageReturn_preserves _ _ _ h
  | descriptorFetch => exact execDescriptorFetch_preserves _ _ _ _ h
  | hmemResponse => exact execHmemResponse_preserves _ _ _ _ h
  | hostNop => exact execHostNop_preserves _ _ h
  | txPacket => exact execTxPacket_preserves _ _ h
  | rxPost => exact execRxPost_preserves _ _ h
  | memRead => exact execMemRead_preserves _ _ h
  | memWrite => exact execMemWrite_preserves _ _ h
  | memAtomic => exact execMemAtomic_preserves _ _ h
  | hostRingEnable => exact execHostRingEnable_preserves _ _ _ h
  | hostRingDisable => exact execHostRingDisable_preserves _ _ _ h
  | auxRingEnable => exact execAuxRingEnable_preserves _ _ _ h
  | interruptModerationExpiry => exact execInterruptModerationExpiry_preserves _ _ h
  | eventDeliver => exact execEventDeliver_preserves _ h
  | supplySample => exact execSupplySample_preserves _ _ _ h
  | shedRelease => exact execShedRelease_preserves _ h
  | supplyLogClear => exact execSupplyLogClear_preserves _ h
  | domainOn => exact execDomainOn_preserves _ _ h
  | domainRetention => exact execDomainRetention_preserves _ _ h
  | domainOff => exact execDomainOff_preserves _ _ h
  | domainDrainEnd => exact execDomainDrainEnd_preserves _ _ h
  | domainOnDone => exact execDomainOnDone_preserves _ _ _ h
  | mstateRequest => exact execMstateRequest_preserves _ _ _ h
  | m3WakeTimer => exact execM3WakeTimer_preserves _ h
  | thermalSample => exact execThermalSample_preserves _ _ _ _ _ _ h
  | droopDetect => exact execDroopDetect_preserves _ _ h
  | droopRelease => exact .of_within (execDroopRelease_within _ _) rfl h
  | snapshotRequest => exact execSnapshotRequest_preserves _ h
  | snapshotTarget => exact execSnapshotTarget_preserves _ h
  | snapshotComplete => exact execSnapshotComplete_preserves _ _ _ h
  | snapshotLock => exact execSnapshotLock_preserves _ h
  | snapshotUnlock => exact execSnapshotUnlock_preserves _ h
  | snapshotLockExpiry => exact execSnapshotLockExpiry_preserves _ h
  | isolationRelease => exact execIsolationRelease_preserves _ _ _ h
  | queueHwmClear => exact execQueueHwmClear_preserves _ _ _ h
  | healthEvaluate => exact execHealthEvaluate_preserves _ _ h
  | healthActionStart => exact execHealthActionStart_preserves _ _ _ h
  | healthPinExpiry => exact execHealthPinExpiry_preserves _ _ _ h
  | healthRead => exact execHealthRead_preserves _ _ _ h
  | healthPin => exact execHealthPin_preserves _ _ _ h
  | healthUnpin => exact execHealthUnpin_preserves _ _ _ h
  | maintLockGrant => exact execMaintLockGrant_preserves _ h
  | ucodeUpdate => exact execUcodeUpdate_preserves _ _ _ h
  | ucodeLoadDone => exact execUcodeLoadDone_preserves _ _ h
  | ucodeAnnounceTimeout => exact execUcodeAnnounceTimeout_preserves _ h
  | i3cWake => exact execI3cWake_preserves _ h
  | i3cEntdaa => exact .of_within (execI3cEntdaa_within _ _) rfl h
  | i3cSetdasa => exact .of_within (execI3cSetdasa_within _ _ _) rfl h
  | i3cRstdaa => exact .of_within (execI3cRstdaa_within _) rfl h
  | i3cGetpid => exact .of_within (execI3cGetpid_within _) rfl h
  | i3cGetbcr => exact .of_within (execI3cGetbcr_within _) rfl h
  | i3cGetdcr => exact .of_within (execI3cGetdcr_within _) rfl h
  | i3cGetstatus => exact .of_within (execI3cGetstatus_within _) rfl h
  | i3cEnec => exact .of_within (execI3cEnec_within _) rfl h
  | i3cDisec => exact .of_within (execI3cDisec_within _) rfl h
  | cxlPortTrained => exact execCxlPortTrained_preserves _ _ _ _ _ _ h
  | moveReadReturn => exact execMoveReadReturn_preserves _ _ _ h
  | ptpMessageTimer => exact execPtpMessageTimer_preserves _ _ h
  | alertEnWrite => exact .of_within (execAlertEnWrite_within _ _) rfl h

theorem step_preserves {s t : State} (cold : ∀ rest, s.pending ≠ .coldReset :: rest) (h : step s = .next t) :
    Preserves s t := by
  unfold step at h
  split at h
  · cases h
    exact idle_preserves s (.refl s)
  next c rest e =>
    have k : c ≠ .coldReset := fun k => cold rest (k ▸ e)
    exact exec_preserves k (Preserves.upd_pending (.refl s)) t h

theorem step_coldReset {s t : State} {rest : List Instr} (e : s.pending = .coldReset :: rest) (h : step s = .next t) :
    exec .coldReset { s with pending := rest } = .next t := by
  simpa only [step, e] using h

theorem canonical_of_coldReset {s t : State} (h : exec .coldReset s = .next t) : t.canonical = true := by
  cases h
  rw [State.canonical_iff]
  exact ⟨rfl, rfl, rfl, Tbl.wf_foldl_bare s.ports, rfl, rfl, rfl, rfl, rfl, rfl⟩

/-- Settles O7: each table of the canonical form is kept by every operation, and a cold reset builds it anew. -/
theorem everyStepKeepsCanonicalForm : Obligations.EveryStepKeepsCanonicalForm := by
  intro s t canonical h
  by_cases cold : ∃ rest, s.pending = .coldReset :: rest
  · obtain ⟨rest, e⟩ := cold
    exact canonical_of_coldReset (step_coldReset e h)
  · exact (step_preserves (not_exists.mp cold) h).canonical canonical

/-- Settles O8: every operation keeps the balance of the crossings, and a cold reset leaves none announced. -/
theorem crossingsKeepTheirIdentity : Obligations.CrossingsKeepTheirIdentity := by
  intro s t balanced h
  by_cases cold : ∃ rest, s.pending = .coldReset :: rest
  · obtain ⟨rest, e⟩ := cold
    cases step_coldReset e h
    exact fun _ m => (nomatch m)
  · exact (step_preserves (not_exists.mp cold) h).balance balanced

/-- Settles O48: only the first-lock step moves TB0, it is taken where none has been, and a cold reset clears STEPPED. -/
theorem tb0IsNeverSteppedTwice : Obligations.Tb0IsNeverSteppedTwice := by
  intro c s t settled h
  by_cases cold : c = .coldReset
  · subst cold
    cases h
    exact ⟨rfl, fun _ stepped => nomatch stepped⟩
  · obtain ⟨settledT, stays⟩ := (exec_preserves cold (.refl s) t h).time settled
    exact ⟨settledT, fun stepped _ => (stays stepped).2⟩

end Sys2Proof.Machine

/-!
PROOFS. The ledger of a bucket of tokens (R133, R137, R138).
-/
namespace Sys2Proof.Machine

/-- The ledger's identity (R138): the tokens are a base and what was added and set, less what was charged and clipped. -/
def Bucket.Balances (b : Bucket) (base : Int) : Prop := b.tokens = base + b.added + b.adjust - b.charged - b.clipped

theorem Bucket.Balances.refill {b : Bucket} {base : Int} (h : b.Balances base) (rate cap now : Nat) :
    (b.refill rate cap now).Balances base := by
  simp only [Bucket.Balances, Bucket.refill] at h ⊢
  omega

theorem Bucket.Balances.charge {b : Bucket} {base : Int} (h : b.Balances base) (n : Nat) : (b.charge n).Balances base := by
  simp only [Bucket.Balances, Bucket.charge] at h ⊢
  omega

theorem Bucket.Balances.restart {b : Bucket} {base : Int} (h : b.Balances base) (v now : Nat) :
    (b.restart v now).Balances base := by
  simp only [Bucket.Balances, Bucket.restart] at h ⊢
  omega

/-- Settles O17: what a cap or the floor takes from the tokens is counted as clipped. -/
theorem tokenLedgerBalances : Obligations.TokenLedgerBalances := fun _ _ h =>
  ⟨Bucket.Balances.refill h, Bucket.Balances.charge h, Bucket.Balances.restart h⟩

end Sys2Proof.Machine

/-!
PROOFS. Reading registers after a gated command, after a run of words and after a status; counters after an event.
-/
namespace Sys2Proof.Machine

variable {s : State}

theorem State.gate_on {off : Nat} (h : s.on (regDomain off) = true) (f : State → State) : s.gate off f = f s := by
  rw [State.gate, if_pos h]

/-! ## A run of words (R105, R157) -/

theorem get_putWords_of_lt : ∀ (ws : List Word) {t : Tbl Word} {off j : Nat}, Tbl.wf regReset t = true → j < off →
    Tbl.get regReset (putWords t off ws) j = Tbl.get regReset t j
  | [], _, _, _, _, _ => rfl
  | w :: ws, t, off, j, h, lt => by
    rw [putWords, get_putWords_of_lt ws (Tbl.wf_put h off w) (by omega), Tbl.get_put_ne h w (by omega)]

/-- A register that is none of those written. -/
theorem get_putWords_of_ne : ∀ (ws : List Word) {t : Tbl Word} {off j : Nat}, Tbl.wf regReset t = true →
    (∀ i, i < ws.length → j ≠ off + 4 * i) → Tbl.get regReset (putWords t off ws) j = Tbl.get regReset t j
  | [], _, _, _, _, _ => rfl
  | w :: ws, t, off, j, h, other => by
    have first : j ≠ off := other 0 (Nat.succ_pos _)
    have rest (i : Nat) (k : i < ws.length) : j ≠ off + 4 + 4 * i := by
      have := other (i + 1) (Nat.succ_lt_succ k)
      omega
    rw [putWords, get_putWords_of_ne ws (Tbl.wf_put h off w) rest, Tbl.get_put_ne h w first]

theorem State.rd_wrWords_ne (h : Tbl.wf regReset s.regs = true) {ws : List Word} {off j : Nat}
    (other : ∀ i, i < ws.length → j ≠ off + 4 * i) : (s.wrWords off ws).rd j = s.rd j := get_putWords_of_ne ws h other

theorem State.wrWords_cons (off : Nat) (w : Word) (ws : List Word) :
    s.wrWords off (w :: ws) = (s.wr off w).wrWords (off + 4) ws := rfl

/-- Words written read back. -/
theorem State.rdWords_wrWords : ∀ (ws : List Word) {s : State} {off : Nat}, Tbl.wf regReset s.regs = true →
    (s.wrWords off ws).rdWords off ws.length = ws
  | [], _, _, _ => rfl
  | w :: ws, s, off, h => by
    have written : Tbl.wf regReset (s.wr off w).regs = true := Tbl.wf_put h off w
    have first : ((s.wr off w).wrWords (off + 4) ws).rd off = w :=
      (get_putWords_of_lt ws written (Nat.lt_add_of_pos_right (by decide))).trans (State.rd_wr_self h off w)
    rw [State.wrWords_cons, List.length_cons, State.rdWords, first, State.rdWords_wrWords ws written]

theorem State.rdWords_congr {t : State} : ∀ {n off : Nat}, (∀ i, i < n → t.rd (off + 4 * i) = s.rd (off + 4 * i)) →
    t.rdWords off n = s.rdWords off n
  | 0, _, _ => rfl
  | n + 1, off, same => by
    have rest (i : Nat) (k : i < n) : t.rd (off + 4 + 4 * i) = s.rd (off + 4 + 4 * i) := by
      have := same (i + 1) (Nat.succ_lt_succ k)
      rwa [show off + 4 * (i + 1) = off + 4 + 4 * i by omega] at this
    rw [State.rdWords, State.rdWords, State.rdWords_congr rest, show t.rd off = s.rd off from same 0 (Nat.succ_pos n)]

/-! ## A status (R105) -/

theorem State.fld_setF_self (h : Tbl.wf regReset s.regs = true) (off : Nat) {hi lo v : Nat} (top : hi < 32) (le : lo ≤ hi)
    (fits : v < 2 ^ (hi + 1 - lo)) : (s.setF off hi lo v).fld off hi lo = v := by
  rw [State.fld, State.rd_setF_self h, Word.fld_setFld_self _ _ top le, Nat.mod_eq_of_lt fits]

theorem Word.fld_setFld_apart (w : Word) {hi lo hi' lo' : Nat} (v : Nat) (top : hi < 32) (le : lo ≤ hi)
    (apart : hi' < lo ∨ hi < lo') : (w.setFld hi lo v).fld hi' lo' = w.fld hi' lo' :=
  Word.fld_congr fun i _ _ => by rw [Word.getLsbD_setFld w v i top le, if_neg (by omega)]

theorem State.fld_setF_apart (h : Tbl.wf regReset s.regs = true) (off : Nat) {hi lo hi' lo' : Nat} (v : Nat) (top : hi < 32)
    (le : lo ≤ hi) (apart : hi' < lo ∨ hi < lo') : (s.setF off hi lo v).fld off hi' lo' = s.fld off hi' lo' := by
  rw [State.fld, State.rd_setF_self h, Word.fld_setFld_apart _ v top le apart, State.fld]

theorem State.fld_setF_ne (h : Tbl.wf regReset s.regs = true) {off off' : Nat} (hi lo v hi' lo' : Nat) (ne : off' ≠ off) :
    (s.setF off hi lo v).fld off' hi' lo' = s.fld off' hi' lo' := by
  rw [State.fld, State.rd_setF_ne h hi lo v ne, State.fld]

theorem State.fld_of_regs {t : State} (h : t.regs = s.regs) (off hi lo : Nat) : t.fld off hi lo = s.fld off hi lo := by
  rw [State.fld, State.fld, State.rd, State.rd, h]

theorem Word.fld_lt (w : Word) (hi lo : Nat) : w.fld hi lo < 2 ^ (hi + 1 - lo) := Nat.mod_lt _ (Nat.two_pow_pos _)

theorem State.fld_status_self (h : Tbl.wf regReset s.regs = true) (off : Nat) {v : Nat} (fits : v < 16) :
    (s.status off v).fld off 3 0 = v := State.fld_setF_self h off (by decide) (by decide) fits

theorem State.rdWords_setF (h : Tbl.wf regReset s.regs = true) {stat hi lo v off n : Nat}
    (other : ∀ i, i < n → off + 4 * i ≠ stat) : (s.setF stat hi lo v).rdWords off n = s.rdWords off n :=
  State.rdWords_congr fun i k => State.rd_setF_ne h hi lo v (other i k)

/-- What a read of a table answers (R105): the words in the data registers and the status. -/
theorem State.answered (h : Tbl.wf regReset s.regs = true) {off stat v n : Nat} {ws : List Word} (len : ws.length = n)
    (fits : v < 16) (other : ∀ i, i < n → off + 4 * i ≠ stat) :
    ((s.wrWords off ws).status stat v).rdWords off n = ws ∧ ((s.wrWords off ws).status stat v).fld stat 3 0 = v := by
  subst len
  have written : Tbl.wf regReset (s.wrWords off ws).regs = true := putWords_wf ws off h
  exact ⟨(State.rdWords_setF written other).trans (State.rdWords_wrWords ws h), State.fld_status_self written stat fits⟩

/-! ## Counters -/

theorem State.count_bump_self (h : Tbl.wf (fun _ => 0) s.cnt = true) (off n : Nat) :
    (s.bump off n).count off = (s.count off + n) % 2 ^ 64 := by
  rw [State.count_bump h, if_pos rfl]

theorem State.count_bump_ne (h : Tbl.wf (fun _ => 0) s.cnt = true) {off j : Nat} (n : Nat) (ne : j ≠ off) :
    (s.bump off n).count j = s.count j := by
  rw [State.count_bump h, if_neg ne]

end Sys2Proof.Machine

/-!
PROOFS. The forwarding tables: writes and reads of an entry, the commit and the epoch (R82 to R84, R102 to R105).
-/
namespace Sys2Proof.Machine

variable {s : State}

/-! ## Entries -/

theorem exec_fwdWriteShadow_of_ok {i : Fin 4096} (on : s.on (regDomain R.BUF_FWD_CMD) = true) (free : s.tab.pending = none)
    (good : leafEntryOk (s.rdWords (R.BUF_FWD_DATA 0) 4) = true) :
    exec (.fwdWriteShadow false i) s = .next (({ s with tab := { s.tab with
      leafShadow := Tbl.put (fun _ => leafZero) s.tab.leafShadow i (s.rdWords (R.BUF_FWD_DATA 0) 4) } } : State).status
        R.BUF_FWD_STAT 0) := by
  change execFwdWriteShadow _ _ _ = _
  rw [execFwdWriteShadow, State.gate_on on]
  simp [free, good]

theorem exec_fwdWriteShadow_of_pending {ovr : Bool} {i : Fin 4096} {e : Nat} (on : s.on (regDomain R.BUF_FWD_CMD) = true)
    (pending : s.tab.pending = some e) : exec (.fwdWriteShadow ovr i) s = .next (s.status R.BUF_FWD_STAT 2) := by
  change execFwdWriteShadow _ _ _ = _
  rw [execFwdWriteShadow, State.gate_on on]
  simp [pending]

theorem fwdRead_leaf {i : Nat} {leaf ovr : Tbl (List Word)} (on : s.on (regDomain R.BUF_FWD_CMD) = true) :
    s.fwdRead false i leaf ovr
      = (s.wrWords (R.BUF_FWD_DATA 0) (Tbl.get (fun _ => leafZero) leaf i)).status R.BUF_FWD_STAT 0 := by
  rw [State.fwdRead, State.gate_on on]
  rfl

/-- A read of either bank answers its entry (R105). -/
theorem fwdRead_answers (h : s.canonical = true) {i : Nat} {leaf ovr : Tbl (List Word)} {a b c d : Word}
    (on : s.on (regDomain R.BUF_FWD_CMD) = true) (entry : Tbl.get (fun _ => leafZero) leaf i = [a, b, c, d]) :
    (s.fwdRead false i leaf ovr).rdWords (R.BUF_FWD_DATA 0) 4 = [a, b, c, d]
      ∧ (s.fwdRead false i leaf ovr).fld R.BUF_FWD_STAT 3 0 = 0 ∧ (s.fwdRead false i leaf ovr).tab = s.tab := by
  rw [fwdRead_leaf on, entry]
  obtain ⟨words, status⟩ := State.answered (State.canonical.regs h) (ws := [a, b, c, d]) (off := R.BUF_FWD_DATA 0)
    (stat := R.BUF_FWD_STAT) (v := 0) (n := 4) rfl (by decide) (by decide)
  exact ⟨words, status, rfl⟩

/-! ## The commit and the epoch -/

/-- A commit with no epoch asked for: GAP_US is stored, and the epoch is the earliest (R102). -/
theorem exec_fwdCommit_of_free {gap : Fin 65536} (h : s.canonical = true)
    (on : s.on (regDomain R.BUF_FWD_GEN_CTRL) = true) (free : s.tab.pending = none)
    (sec : s.fld R.BUF_FWD_EPOCH_SEC 31 0 = 0) (ns : s.fld R.BUF_FWD_EPOCH_NS 29 0 = 0) (first : s.tab.lastEpoch = none) :
    exec (.fwdCommit gap) s = .next (({ s.setF R.BUF_FWD_GEN_CTRL 15 0 gap with
      tab := { s.tab with pending := some (nextMicro (s.tb0 + 2000)), requested := 0 } } : State).status R.BUF_FWD_STAT 0) := by
  have wf := State.canonical.regs h
  have sec' : (s.setF R.BUF_FWD_GEN_CTRL 15 0 gap).fld R.BUF_FWD_EPOCH_SEC 31 0 = 0 := by
    rwa [State.fld, State.rd_setF_ne wf _ _ _ (by decide)]
  have ns' : (s.setF R.BUF_FWD_GEN_CTRL 15 0 gap).fld R.BUF_FWD_EPOCH_NS 29 0 = 0 := by
    rwa [State.fld, State.rd_setF_ne wf _ _ _ (by decide)]
  have earliest : (s.setF R.BUF_FWD_GEN_CTRL 15 0 gap).earliestEpoch (s.setF R.BUF_FWD_GEN_CTRL 15 0 gap).tb0
      = nextMicro (s.tb0 + 2000) := by
    simp [State.earliestEpoch, State.setF_tab, first, State.tb0, State.setF_clk]
  change execFwdCommit _ _ = _
  rw [execFwdCommit, State.gate_on on]
  simp [State.requestedEpoch, sec', ns', free, earliest]

/-- The state in which an epoch has made every shadow bank active, and what of Canvas follows it. -/
def State.switched (s : State) (e : Nat) : State :=
  (({ s.reach (s.atTb0 e) with
      tab := s.tab.switch e, prism := { s.prism with patActive := s.prism.patShadow } } : State).canvasEpoch
        (s.tab.switch e).gen).genEvent e

theorem exec_epochReached {e : Nat} (pending : s.tab.pending = some e) (ready : s.tab.ready = true) :
    exec .epochReached s = .next (s.switched e).reconsider := by
  have tab : (s.reach (s.atTb0 e)).tab = s.tab := (State.reach_within s _).tab_eq (by decide)
  have prism : (s.reach (s.atTb0 e)).prism = s.prism := (State.reach_within s _).prism_eq (by decide)
  have still : (s.switched e).tab.ready = true := by
    rw [State.switched, (State.genEvent_within _ _).tab_eq (by decide), (State.canvasEpoch_within _ _).tab_eq (by decide)]
    exact ready
  have first : (s.switched e).firstGeneration = s.switched e := by simp [State.firstGeneration, still]
  change execEpochReached s = _
  simp only [execEpochReached, pending, tab, prism]
  exact congrArg (fun x => Host.Outcome.next (State.reconsider x)) first

theorem State.switched_reconsider_tab (e : Nat) : (s.switched e).reconsider.tab = s.tab.switch e := by
  rw [(State.reconsider_within _).tab_eq (by decide), State.switched, (State.genEvent_within _ _).tab_eq (by decide),
    (State.canvasEpoch_within _ _).tab_eq (by decide)]

theorem State.now_reach (t : Nat) : (s.reach t).now = max s.now t := by
  have clk : (s.reach t).clk = { s.clk with now := max s.now t } := by
    rw [State.reach_eq_spanned]
    exact (State.alertStep_within _).clk_eq (by decide)
  rw [State.now, clk]

theorem State.switched_reconsider_now (e : Nat) : (s.switched e).reconsider.now = max s.now (s.atTb0 e) := by
  rw [State.now, (State.reconsider_within _).clk_eq (by decide), State.switched,
    (State.genEvent_within _ _).clk_eq (by decide), (State.canvasEpoch_within _ _).clk_eq (by decide)]
  exact State.now_reach _

/-- With no packet held nothing is looked up again. -/
theorem State.reconsider_of_no_hold (none : s.dp.hold = []) : s.reconsider.prism = s.prism := by
  rw [State.reconsider, none]
  rfl

theorem State.canvasEpoch_of_no_contexts {g : Nat} (ctxs : s.canvas.ctxs = []) (shadow : s.canvas.shadow = []) :
    s.canvasEpoch g = s := by
  simp [State.canvasEpoch, State.canvasEngines, ctxs, shadow, Tbl.keys, forEach]

theorem State.switched_patActive {e : Nat} (hold : s.dp.hold = []) (ctxs : s.canvas.ctxs = [])
    (shadow : s.canvas.shadow = []) : (s.switched e).reconsider.prism.patActive = s.prism.patShadow := by
  have canvas : (s.reach (s.atTb0 e)).canvas = s.canvas := (State.reach_within s _).canvas_eq (by decide)
  have dp : (s.reach (s.atTb0 e)).dp = s.dp := (State.reach_within s _).dp_eq (by decide)
  rw [State.switched, State.canvasEpoch_of_no_contexts (by rw [canvas, ctxs]) (by rw [canvas, shadow]),
    State.reconsider_of_no_hold, (State.genEvent_within _ _).prism_eq (by decide)]
  rw [(State.genEvent_within _ _).dp_eq (by decide)]
  exact (congrArg Datapath.hold dp).trans hold

/-- Settles O21: each command by its equation, and the epoch by what its later steps leave unchanged. -/
theorem forwardingTablesSwitchAtTheEpoch : Obligations.ForwardingTablesSwitchAtTheEpoch := by
  intro s h
  have wf := State.canonical.regs h
  refine ⟨fun i on free good => ?_, fun ovr i e on pending => ?_, fun i a b c d on entry => ?_, fun i a b c d on entry => ?_,
    fun gap on free sec ns first => ?_, fun e pending ready => ?_, fun e pending ready hold ctxs shadow => ?_, rfl⟩
  · exact ⟨_, exec_fwdWriteShadow_of_ok on free good, State.fld_status_self wf _ (by decide), rfl⟩
  · exact ⟨_, exec_fwdWriteShadow_of_pending on pending, State.fld_status_self wf _ (by decide), rfl⟩
  · exact ⟨_, rfl, fwdRead_answers h on entry⟩
  · exact ⟨_, rfl, fwdRead_answers h on entry⟩
  · exact ⟨_, exec_fwdCommit_of_free h on free sec ns first,
      State.fld_status_self (State.setF_regs_wf wf R.BUF_FWD_GEN_CTRL 15 0 gap) _ (by decide), rfl⟩
  · exact ⟨_, exec_epochReached pending ready, State.switched_reconsider_tab e, State.switched_reconsider_now e⟩
  · exact ⟨_, exec_epochReached pending ready, State.switched_patActive hold ctxs shadow⟩

end Sys2Proof.Machine

/-!
PROOFS. Multicast groups: the group table and what the replication unit counts (R147, R149, R154, R157).
-/
namespace Sys2Proof.Machine

variable {s : State}

/-! ## What freeing an item leaves (R126) -/

theorem State.bankLeave_badTails (port id : Nat) : (s.bankLeave port id).dp.badTails = s.dp.badTails := by
  unfold State.bankLeave
  split
  · rfl
  · dsimp only
    split
    · rw [(State.returnCredits_within _ _ _ _).dp_eq (by decide)]
      rfl
    · rfl

theorem Datapath.releaseCells_badTails (d : Datapath) (id : Nat) : (d.releaseCells id).badTails = d.badTails := by
  unfold Datapath.releaseCells
  split <;> rfl

theorem Datapath.replicaDone_badTails_sub (d : Datapath) (id : Nat) : (d.replicaDone id).badTails ⊆ d.badTails := by
  unfold Datapath.replicaDone
  split
  · exact fun _ m => m
  · split
    · dsimp only
      rw [Datapath.releaseCells_badTails]
      exact fun _ m => (List.mem_filter.mp m).1
    · exact fun _ m => m

theorem Datapath.freed_badTails_sub (d : Datapath) (q : Nat) (it : Item) : (d.freed q it).badTails ⊆ d.badTails := by
  unfold Datapath.freed
  dsimp only
  repeat' split
  all_goals first
    | exact Datapath.replicaDone_badTails_sub _ _
    | exact fun _ m => m

theorem State.freeItem_badTails_sub (q : Nat) (it : Item) : (s.freeItem q it).dp.badTails ⊆ s.dp.badTails := by
  unfold State.freeItem
  split
  · exact fun _ m => m
  · split
    · rw [(State.returnCredits_within _ _ _ _).dp_eq (by decide)]
      exact s.dp.freed_badTails_sub q it
    · exact s.dp.freed_badTails_sub q it

/-! ## A drop is counted (R126) -/

theorem C.BUF_DROP_ne_TEL_PORT_DROP {i j p : Nat} (h : i < 22) : C.BUF_DROP i ≠ C.TEL_PORT_DROP p j := by
  simp only [C.BUF_DROP, C.TEL_PORT_DROP]
  omega

theorem State.count_countDrop_eq (port reason : Nat) : (s.countDrop port reason).count = (if port < 1088 then
    (s.bump (C.BUF_DROP (reason - 1)) 1).bump (C.TEL_PORT_DROP port (reason - 1)) 1
    else s.bump (C.BUF_DROP (reason - 1)) 1).count := by
  unfold State.countDrop countDropTbl
  split <;> rfl

theorem State.count_countDrop (h : Tbl.wf (fun _ => 0) s.cnt = true) (port : Nat) {reason : Nat} (low : reason ≤ 22) :
    (s.countDrop port reason).count (C.BUF_DROP (reason - 1)) = (s.count (C.BUF_DROP (reason - 1)) + 1) % 2 ^ 64 := by
  rw [State.count_countDrop_eq]
  split
  · rw [State.count_bump_ne (bumpTbl_wf h _ _) _ (C.BUF_DROP_ne_TEL_PORT_DROP (by omega)), State.count_bump_self h]
  · rw [State.count_bump_self h]

theorem C.TEL_PORT_DROP_ne_of_lt {i p j : Nat} (h : i < 0x0A000000) : i ≠ C.TEL_PORT_DROP p j := by
  simp only [C.TEL_PORT_DROP]
  omega

theorem State.count_countDrop_ne (h : Tbl.wf (fun _ => 0) s.cnt = true) {port reason j : Nat}
    (total : j ≠ C.BUF_DROP (reason - 1)) (atPort : j ≠ C.TEL_PORT_DROP port (reason - 1)) :
    (s.countDrop port reason).count j = s.count j := by
  rw [State.count_countDrop_eq]
  split
  · rw [State.count_bump_ne (bumpTbl_wf h _ _) _ atPort, State.count_bump_ne h _ total]
  · rw [State.count_bump_ne h _ total]

theorem State.txDone_of_no_wait {id : Nat} {port : Option Nat} (none : s.host.txWait = []) : s.txDone id port = s := by
  rw [State.txDone, none]
  rfl

/-- A packet whose trailer did not fail is counted once under the reason of its drop. -/
theorem State.cnt_dropItem {reason q : Nat} {it : Item} (wait : s.host.txWait = [])
    (good : s.dp.badTails.contains it.id = false) : (s.dropItem reason q it).cnt = (s.countDrop it.port reason).cnt := by
  have still : ((s.bankLeave it.port it.id).freeItem q it).dp.badTails.contains it.id = false := by
    have out : it.id ∉ s.dp.badTails := by simpa using good
    have gone : it.id ∉ ((s.bankLeave it.port it.id).freeItem q it).dp.badTails := fun m =>
      out (State.bankLeave_badTails (s := s) it.port it.id ▸ State.freeItem_badTails_sub q it m)
    simpa using gone
  have freed : Within 272 s ((s.bankLeave it.port it.id).freeItem q it) :=
    Within.step (State.freeItem_within _ _ _) rfl (State.bankLeave_within _ _ _)
  have unsent : (((s.bankLeave it.port it.id).freeItem q it).countDrop it.port reason).host.txWait = [] := by
    rw [← wait]
    exact congrArg HostLink.txWait (freed.host_eq (by decide))
  unfold State.dropItem
  simp only [still, Bool.false_eq_true, if_false, State.txDone_of_no_wait unsent]
  rw [State.countDrop, State.countDrop, freed.cnt_eq (by decide)]

/-! ## The group table -/

theorem exec_mctWriteShadow_of_ok {g : Fin 65536} (on : s.on (regDomain R.MCT_CMD) = true) (free : s.tab.pending = none)
    (good : groupEntryOk (s.rdWords (R.MCT_DATA 0) 36) = true) :
    exec (.mctWriteShadow g) s = .next (({ s with tab := { s.tab with
      grpShadow := if (s.rd (R.MCT_DATA 0)).fld 31 31 = 0 then Tbl.erase s.tab.grpShadow g
        else Tbl.put (fun _ => groupZero) s.tab.grpShadow g (s.rdWords (R.MCT_DATA 0) 36) } } : State).status R.MCT_STAT 0) := by
  have head : (s.rdWords (R.MCT_DATA 0) 36).getD 0 0 = s.rd (R.MCT_DATA 0) := rfl
  change execMctWriteShadow _ _ = _
  rw [execMctWriteShadow, State.gate_on on]
  simp only [free, good, head, Option.isSome_none, Bool.false_eq_true, if_false, Bool.not_true]

/-- A read of either bank of groups answers its entry (R157). -/
theorem mctRead_answers (h : s.canonical = true) {g : Nat} {t : Tbl (List Word)} (on : s.on (regDomain R.MCT_CMD) = true)
    (len : (Tbl.get (fun _ => groupZero) t g).length = 36) :
    (s.mctRead t g).rdWords (R.MCT_DATA 0) 36 = Tbl.get (fun _ => groupZero) t g
      ∧ (s.mctRead t g).fld R.MCT_STAT 3 0 = 0 ∧ (s.mctRead t g).tab = s.tab := by
  rw [State.mctRead, State.gate_on on]
  obtain ⟨words, status⟩ := State.answered (State.canonical.regs h) (off := R.MCT_DATA 0) (stat := R.MCT_STAT) (v := 0)
    (n := 36) len (by decide) (by decide)
  exact ⟨words, status, rfl⟩

/-! ## Replication -/

theorem exec_mcastReplicate_of_head {x : McIn} {l : List McIn} (head : s.dp.mcIn = x :: l) (works : s.works 8 = true)
    (free : s.islandHeld 37 = false) :
    exec .mcastReplicate s
      = .next (((({ s with dp := { s.dp with mcIn := l } } : State).replicate x.item x.entry).1.notePruned x.item
          (({ s with dp := { s.dp with mcIn := l } } : State).replicate x.item x.entry).2).observe x.item) := by
  change execMcastReplicate s = _
  simp [execMcastReplicate, head, works, free]

theorem replicate_of_invalid {it : Item} {e : List Word} (invalid : (e.getD 0 0).fld 31 31 = 0) :
    s.replicate it e = (((s.bump C.MCT_RX_PKTS 1).dropItem drEmptyMask 0 it).entered it.id, 0) := by
  unfold State.replicate
  dsimp only
  rw [if_pos invalid]

theorem count_replicate_of_invalid (h : s.canonical = true) {it : Item} {e : List Word}
    (invalid : (e.getD 0 0).fld 31 31 = 0) (wait : s.host.txWait = []) (good : s.dp.badTails.contains it.id = false) :
    (s.replicate it e).1.count C.MCT_RX_PKTS = (s.count C.MCT_RX_PKTS + 1) % 2 ^ 64
      ∧ (s.replicate it e).1.count (C.BUF_DROP (drEmptyMask - 1)) = (s.count (C.BUF_DROP (drEmptyMask - 1)) + 1) % 2 ^ 64 := by
  have wf := State.canonical.cnt h
  have bumped : Tbl.wf (fun _ => 0) (s.bump C.MCT_RX_PKTS 1).cnt = true := bumpTbl_wf wf _ _
  have count (j : Nat) : (s.replicate it e).1.count j = ((s.bump C.MCT_RX_PKTS 1).countDrop it.port drEmptyMask).count j := by
    rw [replicate_of_invalid invalid, State.count, (State.entered_within _ _).cnt_eq (by decide),
      State.cnt_dropItem (s := s.bump C.MCT_RX_PKTS 1) wait good, ← State.count]
  have other : C.BUF_DROP (drEmptyMask - 1) ≠ C.MCT_RX_PKTS := by decide
  refine ⟨?_, ?_⟩
  · rw [count, State.count_countDrop_ne bumped (by decide) (C.TEL_PORT_DROP_ne_of_lt (by decide)), State.count_bump_self wf]
  · rw [count, State.count_countDrop bumped _ (by decide), State.count_bump_ne wf _ other]

/-- Settles O22. -/
theorem groupsAreWrittenReadAndReplicated : Obligations.GroupsAreWrittenReadAndReplicated := by
  refine ⟨fun s h => ⟨fun g on free good valid => ?_, fun g on free good invalid => ?_, fun g on len => ?_,
    fun g on len => ?_, fun x l head works held => exec_mcastReplicate_of_head head works held, rfl⟩,
    fun s h it e invalid wait good => ⟨?_, count_replicate_of_invalid h invalid wait good⟩⟩
  · exact ⟨_, exec_mctWriteShadow_of_ok on free good, State.fld_status_self (State.canonical.regs h) _ (by decide),
      by simp [valid]⟩
  · exact ⟨_, exec_mctWriteShadow_of_ok on free good, State.fld_status_self (State.canonical.regs h) _ (by decide),
      by simp [invalid]⟩
  · exact ⟨_, rfl, mctRead_answers h on len⟩
  · exact ⟨_, rfl, mctRead_answers h on len⟩
  · rw [replicate_of_invalid invalid]

end Sys2Proof.Machine

/-!
PROOFS. The drop of a multicast packet's last replica after its trailer failed is counted a second time (R126).
-/
namespace Sys2Proof.Machine

/-- The last replica of the multicast packet 0, whose cells the pool holds. -/
def lastReplica : Item :=
  { id := 0, body := .ffp ⟨[], [], 0⟩, port := 0, tc := 0, vc := 0, n := 1, gen := 0, since := 0, charge := .replica,
    peer := none, bucket := none, own := false, mcast := some 0, leg := none, marked := false, spray := false, cut := false,
    sender := none, latch := [], via := 0 }

/-- The reset state with that packet live, one replica left, its trailer failed and counted. -/
def failedReplica : State :=
  { State.reset with dp := { Datapath.empty with badTails := [0], mcLive := [⟨0, 0, 0, 1, 1, true⟩] } }

/-- Refutes O14: freeing the last replica of a packet forgets that its trailer failed, so its drop is counted again. -/
theorem not_ingressChecksAndDropsAreCounted : ¬ Obligations.IngressChecksAndDropsAreCounted := by
  intro h
  have counted := (h.2 failedReplica (by decide) 1 0 lastReplica (by decide) (by decide) (fun _ m => nomatch m)).2.2.1 (by decide)
  exact absurd counted (by decide)

end Sys2Proof.Machine

/-!
PROOFS. The table of Canvas contexts: writes, reads and the force of a context (R160, R180, R188, R189).
-/
namespace Sys2Proof.Machine

variable {s : State}

/-- A read into CNV.DATA answers its words (R188). -/
theorem cnvAnswered (h : s.canonical = true) {ws : List Word} {n : Nat} (len : ws.length = n) (fits : n ≤ 42) :
    ((s.wrWords (R.CNV_DATA 0) ws).status R.CNV_STAT 0).rdWords (R.CNV_DATA 0) n = ws
      ∧ ((s.wrWords (R.CNV_DATA 0) ws).status R.CNV_STAT 0).fld R.CNV_STAT 3 0 = 0
      ∧ ((s.wrWords (R.CNV_DATA 0) ws).status R.CNV_STAT 0).canvas = s.canvas := by
  have apart : ∀ i, i < 42 → R.CNV_DATA 0 + 4 * i ≠ R.CNV_STAT := by decide
  obtain ⟨words, status⟩ := State.answered (State.canonical.regs h) (v := 0) len (by decide)
    fun i k => apart i (Nat.lt_of_lt_of_le k fits)
  exact ⟨words, status, rfl⟩

theorem execCnvWriteShadow_gated {n : Fin 16384} (on : s.on (regDomain R.CNV_CMD) = true) {st : Nat}
    (check : s.ctxCheck n (s.rdWords (R.CNV_DATA 0) 42) = st) :
    exec (.cnvWriteShadow n) s = .next ((if st = 0 then { s with canvas := { s.canvas with
      shadow := Tbl.put (fun _ => ctxZero) s.canvas.shadow n (if (s.rd (R.CNV_DATA 0)).fld 31 31 = 1 then
        s.rdWords (R.CNV_DATA 0) 42 else ctxZero) } } else s).status R.CNV_STAT st) := by
  have head : (s.rdWords (R.CNV_DATA 0) 42).getD 0 0 = s.rd (R.CNV_DATA 0) := rfl
  change execCnvWriteShadow _ _ = _
  rw [execCnvWriteShadow, State.gate_on on]
  simp only [check, head]

theorem exec_cnvReadShadow_gated {n : Fin 16384} (on : s.on (regDomain R.CNV_CMD) = true) :
    exec (.cnvReadShadow n) s
      = .next ((s.wrWords (R.CNV_DATA 0) (Tbl.get (fun _ => ctxZero) s.canvas.shadow n)).status R.CNV_STAT 0) := by
  change execCnvReadShadow _ _ = _
  rw [execCnvReadShadow, State.gate_on on]

theorem exec_cnvReadActive_gated {n : Fin 16384} (on : s.on (regDomain R.CNV_CMD) = true) :
    exec (.cnvReadActive n) s = .next ((s.wrWords (R.CNV_DATA 0)
      (if (s.ctx n).live then (s.ctx n).entry else ctxZero)).status R.CNV_STAT 0) := by
  change execCnvReadActive _ _ = _
  rw [execCnvReadActive, State.gate_on on]

theorem exec_cnvReadStatus_gated {n : Fin 16384} (on : s.on (regDomain R.CNV_CMD) = true) :
    exec (.cnvReadStatus n) s
      = .next ((s.wrWords (R.CNV_DATA 0) (s.ctx n).statusWords).status R.CNV_STAT 0) := by
  change execCnvReadStatus _ _ = _
  rw [execCnvReadStatus, State.gate_on on]

/-- A force of a context with no segment, or of one that is not live, changes its status alone (R180). -/
theorem exec_cnvForce_gated {n : Fin 16384} (on : s.on (regDomain R.CNV_CMD) = true)
    (none : (s.ctx n).live = true → (s.ctx n).segs = []) :
    exec (.cnvForce n) s = .next (s.status R.CNV_STAT (if (s.ctx n).live then 0 else 4)) := by
  change execCnvForce _ _ = _
  rw [execCnvForce, State.gate_on on]
  cases live : (s.ctx n).live with
  | false => rfl
  | true => simp [none live, forEach]

/-- Settles O23: each command by its equation, and its answer read back. -/
theorem contextTableAnswers : Obligations.ContextTableAnswers := by
  intro s h on n
  have wf := State.canonical.regs h
  refine ⟨fun good valid => ?_, fun bad => ?_, fun len => ?_, fun dead => ?_, fun live len => ?_, ?_, fun dead => ?_,
    fun live none => ?_⟩
  · exact ⟨_, execCnvWriteShadow_gated on good, State.fld_status_self wf _ (by decide), by simp [valid]⟩
  · exact ⟨_, execCnvWriteShadow_gated on bad, State.fld_status_self wf _ (by decide), rfl⟩
  · exact ⟨_, exec_cnvReadShadow_gated on, cnvAnswered h len (by decide)⟩
  · refine ⟨_, exec_cnvReadActive_gated on, ?_⟩
    rw [dead]
    exact cnvAnswered h rfl (by decide)
  · refine ⟨_, exec_cnvReadActive_gated on, ?_⟩
    rw [live]
    exact cnvAnswered h len (by decide)
  · exact ⟨_, exec_cnvReadStatus_gated on, cnvAnswered h rfl (by decide)⟩
  · refine ⟨_, exec_cnvForce_gated on (by simp [dead]), ?_⟩
    rw [dead]
    exact ⟨State.fld_status_self wf _ (by decide), rfl⟩
  · refine ⟨_, exec_cnvForce_gated on fun _ => none, ?_⟩
    rw [live]
    exact ⟨State.fld_status_self wf _ (by decide), rfl⟩

end Sys2Proof.Machine

/-!
PROOFS. Measurements, fuses and attestation (R402 to R405).
-/
namespace Sys2Proof.Machine

variable {s : State}

theorem State.fld_raise (e : Ev) (off hi lo : Nat) : (s.raise e).fld off hi lo = s.fld off hi lo :=
  State.fld_of_regs ((State.raise_within s e).regs_eq (by decide)) off hi lo

theorem State.boot_raise (e : Ev) : (s.raise e).boot = s.boot := (State.raise_within s e).boot_eq (by decide)

/-! ## A measurement (R403) -/

/-- A measurement changes the log, its hash and its count alone of the boot state. -/
theorem State.boot_measure (kind : Nat) (meas : List Byte) :
    ∃ n hash log, (s.measure kind meas).boot = { s.boot with measured := n, logHash := hash, log := log } := by
  unfold State.measure
  extract_lets b entry full s1 s2
  split
  · rw [State.boot_raise]
    exact ⟨_, _, _, rfl⟩
  · exact ⟨_, _, _, rfl⟩

theorem State.fld_measure (h : Tbl.wf regReset s.regs = true) (kind : Nat) (meas : List Byte) {off : Nat} (hi lo : Nat)
    (ne : off ≠ R.GLB_ATT_STAT) : (s.measure kind meas).fld off hi lo = s.fld off hi lo := by
  unfold State.measure
  extract_lets b entry full s1 s2
  have stored : s2.fld off hi lo = s.fld off hi lo := State.fld_setF_ne (s := s1) h _ _ _ _ _ ne
  split
  · rw [State.fld_raise, State.fld_setF_ne (State.setF_regs_wf (s := s1) h _ _ _ _) _ _ _ _ _ ne, stored]
  · exact stored

theorem State.fld_burnt (h : Tbl.wf regReset s.regs = true) {off : Nat} (hi lo : Nat) (ne : off ≠ R.GLB_ATT_STAT) :
    s.burnt.fld off hi lo = s.fld off hi lo := by
  rw [State.burnt, State.fld_raise, State.fld_measure h _ _ _ _ ne]

theorem State.boot_burnt : ∃ n hash log, s.burnt.boot = { s.boot with measured := n, logHash := hash, log := log } := by
  rw [State.burnt, State.boot_raise]
  exact State.boot_measure _ _

/-! ## Fuses (R405) -/

/-- The security status with a field and its status set, once the burn is recorded. -/
theorem State.fld_burnt_secStatus (h : Tbl.wf regReset s.regs = true) {hi lo v st : Nat} (top : hi < 32) (le : lo ≤ hi)
    (above : 3 < lo) (fits : v < 2 ^ (hi + 1 - lo)) (small : st < 16) :
    ((s.setF R.GLB_SEC_STAT hi lo v).secStatus st).burnt.fld R.GLB_SEC_STAT hi lo = v
      ∧ ((s.setF R.GLB_SEC_STAT hi lo v).secStatus st).burnt.fld R.GLB_SEC_STAT 3 0 = st := by
  have wf := State.setF_regs_wf h R.GLB_SEC_STAT hi lo v
  have told : Tbl.wf regReset ((s.setF R.GLB_SEC_STAT hi lo v).secStatus st).regs = true := State.setF_regs_wf wf _ _ _ _
  rw [State.fld_burnt told _ _ (by decide), State.fld_burnt told _ _ (by decide)]
  refine ⟨?_, State.fld_setF_self wf _ (by decide) (by decide) small⟩
  rw [State.secStatus, State.fld_setF_apart wf _ _ (by decide) (by decide) (by omega), State.fld_setF_self h _ top le fits]

theorem exec_secRaiseMinSvn_of_higher (level : s.level = 0) (higher : s.boot.minSvnNext < s.fld R.GLB_BOOT_STAT 6 0) :
    exec .secRaiseMinSvn s = .next ((({ s with boot := { s.boot with minSvnNext := s.fld R.GLB_BOOT_STAT 6 0 } } : State).setF
      R.GLB_SEC_STAT 30 24 (s.fld R.GLB_BOOT_STAT 6 0)).secStatus 0).burnt := by
  change execSecRaiseMinSvn s = _
  simp [execSecRaiseMinSvn, level, Nat.not_le.mpr higher]

theorem exec_secRaiseMinSvn_of_level (level : 1 ≤ s.level) : exec .secRaiseMinSvn s = .next (s.secStatus 6) := by
  change execSecRaiseMinSvn s = _
  simp [execSecRaiseMinSvn, level]

theorem exec_secBurnOwnerHash_of_unset {bytes : List Byte} (len : bytes.length = 32) (level : s.level = 0)
    (unset : s.boot.ownerReqNext = false) :
    exec (.secBurnOwnerHash bytes) s = .next ((({ s with boot := { s.boot with ownerReqNext := true, ownerHashNext := bytes } }
      : State).setF R.GLB_SEC_STAT 31 31 1).secStatus 0).burnt := by
  have all : (bytes ++ List.replicate 32 0).take 32 = bytes := List.take_left' len
  change execSecBurnOwnerHash _ s = _
  rw [execSecBurnOwnerHash, if_neg (by omega), if_neg (by simp [unset])]
  dsimp only
  rw [all]

/-! ## Attestation (R402 to R404) -/

theorem State.attCommand_of_idle (idle : s.fld R.GLB_ATT_STAT 31 31 = 0) (f : State → State) : s.attCommand f = f s := by
  rw [State.attCommand, if_neg (by omega)]

theorem exec_attestReport_of_idle (up : s.host.up = true) (idle : s.fld R.GLB_ATT_STAT 31 31 = 0) :
    exec .attestReport s = .next ((({ s with boot := { s.boot with
      report := some ((s.rdWords (R.GLB_NONCE 0) 8).flatMap Word.bytesLE, s.boot.logHash) } } : State).setF
        R.GLB_ATT_STAT 31 31 1).attStatus 0) := by
  change execAttestReport s = _
  rw [execAttestReport, State.attCommand_of_idle idle]
  simp [up]

/-- The attestation status with BUSY and its status set. -/
theorem State.fld_attStatus_setF (h : Tbl.wf regReset s.regs = true) {v : Nat} (bit : v < 2) :
    ((s.setF R.GLB_ATT_STAT 31 31 v).attStatus 0).fld R.GLB_ATT_STAT 31 31 = v
      ∧ ((s.setF R.GLB_ATT_STAT 31 31 v).attStatus 0).fld R.GLB_ATT_STAT 3 0 = 0 := by
  have wf := State.setF_regs_wf h R.GLB_ATT_STAT 31 31 v
  refine ⟨?_, State.fld_setF_self wf _ (by decide) (by decide) (by decide)⟩
  rw [State.attStatus, State.fld_setF_apart wf _ _ (by decide) (by decide) (by decide),
    State.fld_setF_self h _ (by decide) (by decide) bit]

theorem State.fld_attStatus (h : Tbl.wf regReset s.regs = true) {st : Nat} (small : st < 16) :
    (s.attStatus st).fld R.GLB_ATT_STAT 3 0 = st := State.fld_setF_self h _ (by decide) (by decide) small

/-- The state in which a report's bytes, signed with a free value, have gone to the host. -/
def State.reportSent (s : State) (ws : List HostWrite) : State :=
  (({ s with boot := { s.boot with report := none } } : State).tick).hostWrites ws

theorem State.reportSent_boot (ws : List HostWrite) : (s.reportSent ws).boot = { s.boot with report := none } :=
  (State.hostWrites_within _ _).boot_eq (by decide)

theorem State.reportSent_free (ws : List HostWrite) : (s.reportSent ws).free = s.free + 1 :=
  (State.hostWrites_within _ _).free_eq (by decide)

theorem exec_attestReportDone_of_running {x : List Byte × List Byte} (running : s.boot.report = some x) :
    ∃ ws, exec .attestReportDone s
      = .next ((((s.reportSent ws).setF R.GLB_ATT_STAT 31 31 0).attStatus 0).raise (modEv 0x0B02 0 1 0 0)) := by
  change ∃ ws, execAttestReportDone s = _
  rw [execAttestReportDone, running]
  exact ⟨_, rfl⟩

theorem attestReportDone_gives (h : s.canonical = true) {x : List Byte × List Byte} (running : s.boot.report = some x) :
    Gives .attestReportDone s (fun t => t.fld R.GLB_ATT_STAT 31 31 = 0 ∧ t.fld R.GLB_ATT_STAT 3 0 = 0
      ∧ t.boot.report = none ∧ t.free = s.free + 1) := by
  obtain ⟨nonce, hash⟩ := x
  obtain ⟨ws, e⟩ := exec_attestReportDone_of_running running
  have wf : Tbl.wf regReset (s.reportSent ws).regs = true := by
    rw [State.reportSent, (State.hostWrites_within _ _).regs_eq (by decide)]
    exact State.canonical.regs h
  obtain ⟨busy, status⟩ := State.fld_attStatus_setF wf (v := 0) (by decide)
  refine ⟨_, e, ?_, ?_, ?_, ?_⟩
  · rw [State.fld_raise, busy]
  · rw [State.fld_raise, status]
  · rw [State.boot_raise, State.attStatus, State.setF_boot, State.setF_boot, State.reportSent_boot]
  · rw [(State.raise_within _ _).free_eq (by decide), State.attStatus, State.setF_free, State.setF_free,
      State.reportSent_free]

theorem exec_attestReadEntry_of_stored {i : Fin 256} {e : List Byte} (idle : s.fld R.GLB_ATT_STAT 31 31 = 0)
    (stored : s.boot.log[i.val]? = some e) :
    exec (.attestReadEntry i) s = .next ((s.wrWords (R.GLB_ATT_DATA 0)
      ((List.range 16).map (fun w => BitVec.ofNat 32 (natOfBytesLE ((e.drop (4 * w)).take 4))))).attStatus 0) := by
  change execAttestReadEntry _ s = _
  rw [execAttestReadEntry, State.attCommand_of_idle idle, stored]

theorem exec_attestReadEntry_of_missing {i : Fin 256} (idle : s.fld R.GLB_ATT_STAT 31 31 = 0)
    (missing : s.boot.log[i.val]? = none) : exec (.attestReadEntry i) s = .next (s.attStatus 3) := by
  change execAttestReadEntry _ s = _
  rw [execAttestReadEntry, State.attCommand_of_idle idle, missing]

/-- A word of a run that was written. -/
theorem State.rd_wrWords_get : ∀ (ws : List Word) {s : State} {off : Nat}, Tbl.wf regReset s.regs = true →
    ∀ i, (lt : i < ws.length) → (s.wrWords off ws).rd (off + 4 * i) = ws[i]
  | [], _, _, _, _, lt => nomatch lt
  | w :: ws, s, off, h, i, lt => by
    have written : Tbl.wf regReset (s.wr off w).regs = true := Tbl.wf_put h off w
    rw [State.wrWords_cons]
    cases i with
    | zero => exact (get_putWords_of_lt ws written (by omega)).trans (State.rd_wr_self h off w)
    | succ i =>
      rw [show off + 4 * (i + 1) = off + 4 + 4 * i by omega]
      exact State.rd_wrWords_get ws written i (Nat.lt_of_succ_lt_succ lt)

theorem exec_attestWritePubkey_of_idle (up : s.host.up = true) (idle : s.fld R.GLB_ATT_STAT 31 31 = 0) :
    exec .attestWritePubkey s
      = .next ((s.hostWrites [.data s.attAddr ((List.range 1312).map Config.identityKey)]).attStatus 0) := by
  change execAttestWritePubkey s = _
  rw [execAttestWritePubkey, State.attCommand_of_idle idle]
  simp [up]

theorem State.hostWrites_of_up (up : s.host.up = true) (w : HostWrite) :
    s.hostWrites [w] = { s with out := (w.parts.map Out.host).reverse ++ s.out } := by
  simp [State.hostWrites, up]

/-- Data written to the host while its link is up, and the status. -/
theorem written_of_up (h : s.canonical = true) (up : s.host.up = true) (w : HostWrite) :
    ((s.hostWrites [w]).attStatus 0).fld R.GLB_ATT_STAT 3 0 = 0
      ∧ ((s.hostWrites [w]).attStatus 0).out = (w.parts.map Out.host).reverse ++ s.out := by
  rw [State.hostWrites_of_up up]
  exact ⟨State.fld_attStatus (State.canonical.regs h) (by decide), rfl⟩

theorem fusesAnswer (s : State) (h : s.canonical = true) :
    (s.level = 0 → s.boot.minSvnNext < s.fld R.GLB_BOOT_STAT 6 0 →
         Gives .secRaiseMinSvn s (fun t => t.boot.minSvnNext = s.fld R.GLB_BOOT_STAT 6 0 ∧ t.boot.minSvn = s.boot.minSvn
           ∧ t.fld R.GLB_SEC_STAT 30 24 = s.fld R.GLB_BOOT_STAT 6 0 ∧ t.fld R.GLB_SEC_STAT 3 0 = 0))
     ∧ (∀ bytes : List Byte, bytes.length = 32 → s.level = 0 → s.boot.ownerReqNext = false →
         Gives (.secBurnOwnerHash bytes) s (fun t => t.boot.ownerHashNext = bytes ∧ t.boot.ownerReqNext = true
           ∧ t.boot.ownerReq = s.boot.ownerReq ∧ t.boot.ownerHash = s.boot.ownerHash
           ∧ t.fld R.GLB_SEC_STAT 31 31 = 1 ∧ t.fld R.GLB_SEC_STAT 3 0 = 0))
     ∧ (1 ≤ s.level → Gives .secRaiseMinSvn s (fun t => t.fld R.GLB_SEC_STAT 3 0 = 6 ∧ t.boot = s.boot)) := by
  have wf := State.canonical.regs h
  refine ⟨fun level higher => ?_, fun bytes len level unset => ?_, fun level => ?_⟩
  · obtain ⟨n, hash, log, boot⟩ := State.boot_burnt (s := (({ s with boot := { s.boot with
      minSvnNext := s.fld R.GLB_BOOT_STAT 6 0 } } : State).setF R.GLB_SEC_STAT 30 24 (s.fld R.GLB_BOOT_STAT 6 0)).secStatus 0)
    obtain ⟨svn, status⟩ := State.fld_burnt_secStatus (s := { s with boot := { s.boot with
      minSvnNext := s.fld R.GLB_BOOT_STAT 6 0 } }) (hi := 30) (lo := 24) (st := 0) wf (by decide) (by decide) (by decide)
      (Word.fld_lt (s.rd R.GLB_BOOT_STAT) 6 0) (by decide)
    refine ⟨_, exec_secRaiseMinSvn_of_higher level higher, by rw [boot]; rfl, by rw [boot]; rfl, svn, status⟩
  · obtain ⟨n, hash, log, boot⟩ := State.boot_burnt (s := (({ s with boot := { s.boot with
      ownerReqNext := true, ownerHashNext := bytes } } : State).setF R.GLB_SEC_STAT 31 31 1).secStatus 0)
    obtain ⟨owned, status⟩ := State.fld_burnt_secStatus (s := { s with boot := { s.boot with
      ownerReqNext := true, ownerHashNext := bytes } }) (hi := 31) (lo := 31) (v := 1) (st := 0) wf (by decide) (by decide)
      (by decide) (by decide) (by decide)
    refine ⟨_, exec_secBurnOwnerHash_of_unset len level unset, by rw [boot]; rfl, by rw [boot]; rfl, by rw [boot]; rfl,
      by rw [boot]; rfl, owned, status⟩
  · exact ⟨_, exec_secRaiseMinSvn_of_level level, State.fld_setF_self wf _ (by decide) (by decide) (by decide), rfl⟩

/-- Settles O12. -/
theorem fusesAndAttestationAnswer : Obligations.FusesAndAttestationAnswer := by
  refine ⟨fusesAnswer, fun s h up => ⟨fun idle => ?_, fun x running => attestReportDone_gives h running,
    fun i e idle entry => ?_, fun i idle missing => ?_, fun idle => ?_⟩⟩
  · obtain ⟨busy, status⟩ := State.fld_attStatus_setF (s := { s with boot := { s.boot with
      report := some ((s.rdWords (R.GLB_NONCE 0) 8).flatMap Word.bytesLE, s.boot.logHash) } }) (State.canonical.regs h)
      (v := 1) (by decide)
    exact ⟨_, exec_attestReport_of_idle up idle, busy, status, rfl⟩
  · have wf := State.canonical.regs h
    refine ⟨_, exec_attestReadEntry_of_stored idle entry, State.fld_attStatus (putWords_wf _ _ wf) (by decide), fun w lt => ?_⟩
    have apart : ∀ w, w < 16 → R.GLB_ATT_DATA 0 + 4 * w ≠ R.GLB_ATT_STAT := by decide
    rw [State.attStatus, State.rd_setF_ne (putWords_wf _ _ wf) _ _ _ (apart w lt),
      State.rd_wrWords_get _ wf w (by simpa using lt)]
    simp
  · exact ⟨_, exec_attestReadEntry_of_missing idle missing, State.fld_attStatus (State.canonical.regs h) (by decide)⟩
  · refine ⟨_, exec_attestWritePubkey_of_idle up idle, written_of_up h up _⟩

end Sys2Proof.Machine

/-!
PROOFS. Images, failed attempts and flash slots (R394 to R400).
-/
namespace Sys2Proof.Machine

variable {s : State}

theorem State.reach_boot (t : Nat) : (s.reach t).boot = s.boot := (State.reach_within s t).boot_eq (by decide)

theorem State.reach_regs (t : Nat) : (s.reach t).regs = s.regs := (State.reach_within s t).regs_eq (by decide)

theorem State.now_setF (off hi lo v : Nat) : (s.setF off hi lo v).now = s.now := rfl

/-! ## The measurements of a hand-over (R397, R403) -/

/-- What measurements leave: every register but the attestation status, and the count of failed attempts. -/
structure Measured (s t : State) : Prop where
  wf : Tbl.wf regReset s.regs = true → Tbl.wf regReset t.regs = true
  fld : Tbl.wf regReset s.regs = true → ∀ hi lo, t.fld R.GLB_BOOT_STAT hi lo = s.fld R.GLB_BOOT_STAT hi lo
  fails : t.boot.fails = s.boot.fails

theorem Measured.refl (s : State) : Measured s s := ⟨id, fun _ _ _ => rfl, rfl⟩

theorem Measured.measure {t : State} (h : Measured s t) (kind : Nat) (meas : List Byte) : Measured s (t.measure kind meas) := by
  obtain ⟨_, _, _, boot⟩ := State.boot_measure (s := t) kind meas
  refine ⟨fun w => (State.measure_preserves t kind meas (.refl t)).regs (h.wf w), fun w hi lo => ?_, ?_⟩
  · rw [State.fld_measure (h.wf w) _ _ _ _ (by decide), h.fld w]
  · rw [boot]
    exact h.fails

/-- The owner's hash is measured where an owner is required. -/
theorem Measured.owner {t : State} (h : Measured s t) (b : Bool) (hash : List Byte) :
    Measured s (if b then t.measure 4 hash else t) := by
  split
  · exact h.measure 4 hash
  · exact h

/-- The state that is handed over before its measurements. -/
def State.handedOver (s : State) (svn : Nat) : State :=
  ((({ s with boot := { s.boot with hostFrom := none } } : State).setPhase 2).setF R.GLB_BOOT_STAT 7 7
    (bit01 s.boot.ownerReq)).setF R.GLB_BOOT_STAT 6 0 svn

/-- A good image of slot A is handed over: PHASE, the owner bit and the SVN, and its measurements (R397). -/
theorem exec_imageCheckDone_of_good {c : ImageCheck} (phase : s.fld R.GLB_BOOT_STAT 31 30 = 1) (source : s.bootSource = 0)
    (written : s.boot.erasedA = false) (good : s.boot.checkImage c none = 0) :
    ∃ t, exec (.imageCheckDone c) s = .next t ∧ Measured (s.handedOver c.svn) t := by
  have present : s.boot.erased 0 = false := written
  have through (x y : List Byte) : Measured (s.handedOver c.svn) (((if s.boot.ownerReq then
      ((s.handedOver c.svn).measure 2 c.digest |>.measure 3 c.bodyDigest).measure 4 s.boot.ownerHash
      else ((s.handedOver c.svn).measure 2 c.digest |>.measure 3 c.bodyDigest)).measure 5 x).measure 7 y) :=
    ((((Measured.refl _).measure 2 c.digest).measure 3 c.bodyDigest).owner _ _).measure 5 x |>.measure 7 y
  refine ⟨_, ?_, through (Config.measure 5 s.boot.minSvn (bit01 s.boot.ownerReq) 0) (Config.measure 7 0 s.boot.fails 0)⟩
  change execImageCheckDone c s = _
  simp [execImageCheckDone, phase, source, present, good, State.handedOver]

/-! ## Failed attempts (R394, R399) -/

/-- An attempt that fails counts once in the boot record, under its code and at its source. -/
theorem State.boot_failAttempt (code : Nat) : (s.failAttempt code).boot.fails = s.boot.fails + 1
    ∧ (s.failAttempt code).boot.last = code ∧ (s.bootSource = 0 → (s.failAttempt code).boot.codeA = code) := by
  unfold State.failAttempt
  extract_lets src s1 b k
  split
  · exact ⟨rfl, rfl, fun e => if_pos e⟩
  · exact ⟨rfl, rfl, fun e => if_pos e⟩

theorem State.now_failAttempt (code : Nat) : (s.failAttempt code).now = s.now :=
  congrArg Clock.now ((State.failAttempt_within s code).clk_eq (by decide))

theorem exec_imageCheckDone_of_bad {c : ImageCheck} (phase : s.fld R.GLB_BOOT_STAT 31 30 = 1) (source : s.bootSource = 0)
    (written : s.boot.erasedA = false) (bad : s.boot.checkImage c none ≠ 0) :
    exec (.imageCheckDone c) s = .next (s.failAttempt (s.boot.checkImage c none)) := by
  have present : s.boot.erased 0 = false := written
  change execImageCheckDone c s = _
  simp [execImageCheckDone, phase, source, present, bad]

theorem exec_hostBootTimeout_of_down {t0 : Nat} (started : s.boot.hostFrom = some t0) (down : s.host.up = false) :
    exec .hostBootTimeout s = .next ((s.reach (t0 + 100000000)).failAttempt 8) := by
  change execHostBootTimeout s = _
  simp [execHostBootTimeout, started, down]

theorem exec_bootBackoffExpiry_of_some {t0 : Nat} (waits : s.boot.backoffEnd = some t0) :
    exec .bootBackoffExpiry s = .next ((s.reach t0).attempt 0) := by
  change execBootBackoffExpiry s = _
  simp [execBootBackoffExpiry, waits]

theorem State.regs_attempt (source : Nat) :
    (s.attempt source).regs = ((s.setF R.GLB_BOOT_STAT 31 30 1).setF R.GLB_BOOT_STAT 29 28 source).regs := rfl

theorem State.fld_attempt (h : Tbl.wf regReset s.regs = true) {source : Nat} (known : source < 4) :
    (s.attempt source).fld R.GLB_BOOT_STAT 31 30 = 1 ∧ (s.attempt source).fld R.GLB_BOOT_STAT 29 28 = source := by
  have wf := State.setF_regs_wf h R.GLB_BOOT_STAT 31 30 1
  constructor
  · rw [State.fld_of_regs (State.regs_attempt source), State.fld_setF_apart wf _ _ (by decide) (by decide) (by decide),
      State.fld_setF_self h _ (by decide) (by decide) (by decide)]
  · rw [State.fld_of_regs (State.regs_attempt source), State.fld_setF_self wf _ (by decide) (by decide) known]

/-- GO kept for the host attempt (R397). -/
def State.goKept (s : State) : State := { s with boot := { s.boot with go := true } }

theorem State.regs_goKept : s.goKept.regs = s.regs := rfl

theorem execHostImageGo_eq (len : Fin 67108864) : execHostImageGo len s
    = ok (if ((s.setF R.GLB_HOST_IMG_CTL 25 0 len).fld R.GLB_BOOT_STAT 31 30 == 1
        || (s.setF R.GLB_HOST_IMG_CTL 25 0 len).boot.backoffEnd.isSome) = true
      then (s.setF R.GLB_HOST_IMG_CTL 25 0 len).goKept else s.setF R.GLB_HOST_IMG_CTL 25 0 len) := rfl

theorem exec_hostImageGo_of_booting (h : s.canonical = true) {len : Fin 67108864}
    (phase : s.fld R.GLB_BOOT_STAT 31 30 = 1) :
    exec (.hostImageGo len) s = .next (s.setF R.GLB_HOST_IMG_CTL 25 0 len).goKept := by
  have still : (s.setF R.GLB_HOST_IMG_CTL 25 0 len).fld R.GLB_BOOT_STAT 31 30 = 1 := by
    rw [State.fld_setF_ne (State.canonical.regs h) _ _ _ _ _ (by decide), phase]
  change execHostImageGo len s = _
  rw [execHostImageGo_eq, still, beq_self_eq_true, Bool.true_or, if_pos rfl]

theorem exec_firmwareWatchdog_of_phase2 (phase : s.fld R.GLB_BOOT_STAT 31 30 = 2) :
    exec .firmwareWatchdog s = .next (s.failAttempt 0x0A) := by
  change execFirmwareWatchdog s = _
  simp [execFirmwareWatchdog, phase]

theorem exec_firmwareWatchdog_of_service (phase : s.fld R.GLB_BOOT_STAT 31 30 = 3) (late : s.boot.upAt = none) :
    exec .firmwareWatchdog s = .next (s.startWarm 3) := by
  change execFirmwareWatchdog s = _
  simp [execFirmwareWatchdog, phase, late]

/-- A warm reset that begins notes its cause and opens its drain window of 100 µs (R27, R389). -/
theorem State.startWarm_begins {cause : Nat} (none : s.wd = none) :
    (s.startWarm cause).boot.cause = cause ∧ (s.startWarm cause).wd = some ⟨s.now + 100000, [.warmReset]⟩ := by
  have dropped := State.dropResets_within { s with boot := { s.boot with cause := cause } }
  constructor
  · rw [State.startWarm, (State.beginWithdraw_within _ _ _).boot_eq (by decide), dropped.boot_eq (by decide)]
  · rw [State.startWarm, State.beginWithdraw_wd_of_none _ _ ((dropped.wd_eq (by decide)).trans none), State.now,
      dropped.clk_eq (by decide), State.now]

/-- The boot record with its counts cleared. -/
def State.recordCleared (s : State) : State :=
  { (s.setF R.GLB_BOOT_STAT 27 20 0).setF R.GLB_BOOT_STAT 15 8 0 with
    boot := { ((s.setF R.GLB_BOOT_STAT 27 20 0).setF R.GLB_BOOT_STAT 15 8 0).boot.clearRecord with upAt := none } }

theorem State.regs_recordCleared :
    s.recordCleared.regs = ((s.setF R.GLB_BOOT_STAT 27 20 0).setF R.GLB_BOOT_STAT 15 8 0).regs := rfl

theorem State.fld_recordCleared (h : Tbl.wf regReset s.regs = true) :
    s.recordCleared.fld R.GLB_BOOT_STAT 27 20 = 0 ∧ s.recordCleared.fld R.GLB_BOOT_STAT 15 8 = 0 := by
  have wf := State.setF_regs_wf h R.GLB_BOOT_STAT 27 20 0
  constructor
  · rw [State.fld_of_regs State.regs_recordCleared, State.fld_setF_apart wf _ _ (by decide) (by decide) (by decide),
      State.fld_setF_self h _ (by decide) (by decide) (by decide)]
  · rw [State.fld_of_regs State.regs_recordCleared, State.fld_setF_self wf _ (by decide) (by decide) (by decide)]

theorem exec_bootRecordClear_of_up {t0 : Nat} (up : s.boot.upAt = some t0) :
    exec .bootRecordClear s = .next (s.reach (t0 + 60000000000)).recordCleared := by
  change execBootRecordClear s = _
  rw [execBootRecordClear, up]
  rfl

/-- The boot status once PHASE, the owner bit and the SVN are written. -/
theorem State.fld_phase_owner_svn (h : Tbl.wf regReset s.regs = true) {phase : Nat} (known : phase < 4) (owner svn : Nat) :
    (((s.setPhase phase).setF R.GLB_BOOT_STAT 7 7 owner).setF R.GLB_BOOT_STAT 6 0 svn).fld R.GLB_BOOT_STAT 31 30 = phase
      ∧ (((s.setPhase phase).setF R.GLB_BOOT_STAT 7 7 owner).setF R.GLB_BOOT_STAT 6 0 svn).fld R.GLB_BOOT_STAT 29 28
        = s.bootSource
      ∧ (((s.setPhase phase).setF R.GLB_BOOT_STAT 7 7 owner).setF R.GLB_BOOT_STAT 6 0 svn).fld R.GLB_BOOT_STAT 6 0
        = svn % 128 := by
  have w1 := State.setF_regs_wf h R.GLB_BOOT_STAT 31 30 phase
  have w2 := State.setF_regs_wf w1 R.GLB_BOOT_STAT 7 7 owner
  rw [State.setPhase, State.bootSource]
  refine ⟨?_, ?_, ?_⟩
  · rw [State.fld_setF_apart w2 _ _ (by decide) (by decide) (by decide),
      State.fld_setF_apart w1 _ _ (by decide) (by decide) (by decide), State.fld_setF_self h _ (by decide) (by decide) known]
  · rw [State.fld_setF_apart w2 _ _ (by decide) (by decide) (by decide),
      State.fld_setF_apart w1 _ _ (by decide) (by decide) (by decide),
      State.fld_setF_apart h _ _ (by decide) (by decide) (by decide)]
  · rw [State.fld, State.rd_setF_self w2]
    exact Word.fld_setFld_self _ _ (by decide) (by decide)

theorem State.wf_handedOver (h : Tbl.wf regReset s.regs = true) (svn : Nat) : Tbl.wf regReset (s.handedOver svn).regs = true := by
  have w0 : Tbl.wf regReset ({ s with boot := { s.boot with hostFrom := none } } : State).regs = true := h
  rw [State.handedOver, State.setPhase]
  exact State.setF_regs_wf (State.setF_regs_wf (State.setF_regs_wf w0 _ _ _ _) _ _ _ _) _ _ _ _

theorem State.boot_handedOver (svn : Nat) : (s.handedOver svn).boot = { s.boot with hostFrom := none } := by
  rw [State.handedOver, State.setF_boot, State.setF_boot, State.setPhase, State.setF_boot]

theorem imageCheckDone_gives_good (h : s.canonical = true) {c : ImageCheck} (phase : s.fld R.GLB_BOOT_STAT 31 30 = 1)
    (source : s.bootSource = 0) (written : s.boot.erasedA = false) (good : s.boot.checkImage c none = 0) :
    Gives (.imageCheckDone c) s (fun t => t.fld R.GLB_BOOT_STAT 31 30 = 2 ∧ t.fld R.GLB_BOOT_STAT 29 28 = 0
      ∧ t.fld R.GLB_BOOT_STAT 6 0 = c.svn % 128 ∧ t.boot.fails = s.boot.fails) := by
  obtain ⟨t, e, measured⟩ := exec_imageCheckDone_of_good phase source written good
  have wf := State.canonical.regs h
  have told := State.wf_handedOver wf c.svn
  obtain ⟨phase', source', svn⟩ := State.fld_phase_owner_svn (s := { s with boot := { s.boot with hostFrom := none } }) wf
    (phase := 2) (by decide) (bit01 s.boot.ownerReq) c.svn
  have same : ({ s with boot := { s.boot with hostFrom := none } } : State).bootSource = s.bootSource := State.fld_of_regs rfl _ _ _
  exact ⟨t, e, (measured.fld told _ _).trans phase', (measured.fld told _ _).trans (source'.trans (same.trans source)),
    (measured.fld told _ _).trans svn, measured.fails.trans (by rw [State.boot_handedOver])⟩

/-- The clearing of the boot record's counts, once the boot has stood for 60 s (R399). -/
theorem bootRecordClear_gives (h : s.canonical = true) {t0 : Nat} (up : s.boot.upAt = some t0) :
    Gives .bootRecordClear s (fun t => t.boot.fails = 0 ∧ t.boot.codeA = 0 ∧ t.boot.codeB = 0 ∧ t.boot.codeHost = 0
      ∧ t.boot.upAt = none ∧ t.fld R.GLB_BOOT_STAT 27 20 = 0 ∧ t.fld R.GLB_BOOT_STAT 15 8 = 0
      ∧ t.now = max s.now (t0 + 60000000000)) := by
  have wf : Tbl.wf regReset (s.reach (t0 + 60000000000)).regs = true := by
    rw [State.reach_regs]
    exact State.canonical.regs h
  obtain ⟨fails, last⟩ := State.fld_recordCleared wf
  have now : (s.reach (t0 + 60000000000)).recordCleared.now = max s.now (t0 + 60000000000) := State.now_reach _
  exact ⟨_, exec_bootRecordClear_of_up up, rfl, rfl, rfl, rfl, rfl, fails, last, now⟩

theorem imagesAreChecked (s : State) (h : s.canonical = true) :
    (∀ c, s.fld R.GLB_BOOT_STAT 31 30 = 1 → s.bootSource = 0 → s.boot.erasedA = false → s.boot.checkImage c none = 0 →
         Gives (.imageCheckDone c) s (fun t => t.fld R.GLB_BOOT_STAT 31 30 = 2 ∧ t.fld R.GLB_BOOT_STAT 29 28 = 0
           ∧ t.fld R.GLB_BOOT_STAT 6 0 = c.svn % 128 ∧ t.boot.fails = s.boot.fails))
     ∧ (∀ c, s.fld R.GLB_BOOT_STAT 31 30 = 1 → s.bootSource = 0 → s.boot.erasedA = false → s.boot.checkImage c none ≠ 0 →
         Gives (.imageCheckDone c) s (fun t => t.boot.fails = s.boot.fails + 1 ∧ t.boot.last = s.boot.checkImage c none
           ∧ t.boot.codeA = s.boot.checkImage c none))
     ∧ (∀ t0, s.boot.hostFrom = some t0 → s.host.up = false →
         Gives .hostBootTimeout s (fun t => t.boot.fails = s.boot.fails + 1 ∧ t.boot.last = 8
           ∧ t.now = max s.now (t0 + 100000000)))
     ∧ (∀ t0, s.boot.backoffEnd = some t0 →
         Gives .bootBackoffExpiry s (fun t => t.fld R.GLB_BOOT_STAT 31 30 = 1 ∧ t.fld R.GLB_BOOT_STAT 29 28 = 0
           ∧ t.boot.backoffEnd = none ∧ t.now = max s.now t0))
     ∧ (∀ len, s.fld R.GLB_BOOT_STAT 31 30 = 1 →
         Gives (.hostImageGo len) s (fun t => t.boot.go = true ∧ t.fld R.GLB_HOST_IMG_CTL 25 0 = len))
     ∧ (s.fld R.GLB_BOOT_STAT 31 30 = 2 →
         Gives .firmwareWatchdog s (fun t => t.boot.fails = s.boot.fails + 1 ∧ t.boot.last = 0x0A))
     ∧ (s.fld R.GLB_BOOT_STAT 31 30 = 3 → s.boot.upAt = none → s.wd = none →
         Gives .firmwareWatchdog s (fun t => t.boot.cause = 3 ∧ t.wd = some ⟨s.now + 100000, [.warmReset]⟩))
     ∧ (∀ t0, s.boot.upAt = some t0 →
         Gives .bootRecordClear s (fun t => t.boot.fails = 0 ∧ t.boot.codeA = 0 ∧ t.boot.codeB = 0 ∧ t.boot.codeHost = 0
           ∧ t.boot.upAt = none ∧ t.fld R.GLB_BOOT_STAT 27 20 = 0 ∧ t.fld R.GLB_BOOT_STAT 15 8 = 0
           ∧ t.now = max s.now (t0 + 60000000000))) := by
  have wf := State.canonical.regs h
  refine ⟨fun c => imageCheckDone_gives_good h, fun c phase source written bad => ?_, fun t0 started down => ?_,
    fun t0 waits => ?_, fun len phase => ?_, fun phase => ?_, fun phase late none => ?_, fun t0 => bootRecordClear_gives h⟩
  · obtain ⟨fails, last, codeA⟩ := State.boot_failAttempt (s := s) (s.boot.checkImage c none)
    exact ⟨_, exec_imageCheckDone_of_bad phase source written bad, fails, last, codeA source⟩
  · obtain ⟨fails, last, -⟩ := State.boot_failAttempt (s := s.reach (t0 + 100000000)) 8
    refine ⟨_, exec_hostBootTimeout_of_down started down, ?_, last, ?_⟩
    · rw [fails, State.reach_boot]
    · rw [State.now_failAttempt, State.now_reach]
  · obtain ⟨phase, source⟩ := State.fld_attempt (s := s.reach t0) (by rw [State.reach_regs]; exact wf) (source := 0) (by decide)
    exact ⟨_, exec_bootBackoffExpiry_of_some waits, phase, source, rfl, State.now_reach _⟩
  · exact ⟨_, exec_hostImageGo_of_booting h phase, rfl, (State.fld_of_regs State.regs_goKept _ _ _).trans
      (State.fld_setF_self wf _ (by decide) (by decide) len.isLt)⟩
  · obtain ⟨fails, last, -⟩ := State.boot_failAttempt (s := s) 0x0A
    exact ⟨_, exec_firmwareWatchdog_of_phase2 phase, fails, last⟩
  · exact ⟨_, exec_firmwareWatchdog_of_service phase late, State.startWarm_begins none⟩

/-! ## Maintenance locks (R431) -/

theorem State.regs_maintEvent (a : Activity) (st : Nat) : (s.maintEvent a st).regs = s.regs :=
  (State.maintEvent_within s a st).regs_eq (by decide)

theorem State.boot_maintEvent (a : Activity) (st : Nat) : (s.maintEvent a st).boot = s.boot :=
  (State.maintEvent_within s a st).boot_eq (by decide)

theorem State.maint_maintEvent (a : Activity) (st : Nat) : (s.maintEvent a st).maint = s.maint :=
  (State.maintEvent_within s a st).maint_eq (by decide)

theorem State.regs_endMaint (a : Activity) (st : Nat) : (s.endMaint a st).regs = s.regs :=
  (State.endMaint_within s a st).regs_eq (by decide)

theorem State.boot_endMaint (a : Activity) (st : Nat) : (s.endMaint a st).boot = s.boot :=
  (State.endMaint_within s a st).boot_eq (by decide)

/-- The state of a lock that is held alone. -/
def State.holding (s : State) (a : Activity) : State := ({ s with maint := [(a, true)] } : State).maintEvent a 1

theorem State.regs_holding (a : Activity) : (s.holding a).regs = s.regs :=
  State.regs_maintEvent (s := { s with maint := [(a, true)] }) a 1

theorem State.maint_holding (a : Activity) : (s.holding a).maint = [(a, true)] :=
  State.maint_maintEvent (s := { s with maint := [(a, true)] }) a 1

theorem State.boot_holding (a : Activity) : (s.holding a).boot = s.boot :=
  State.boot_maintEvent (s := { s with maint := [(a, true)] }) a 1

/-- With nothing queued an activity starts at once. -/
theorem State.requestMaint_of_nil (free : s.maint = []) (a : Activity) (start : State → State) :
    s.requestMaint a start = start (s.holding a) := by
  rw [State.requestMaint, free, grantable, List.all_nil, if_pos rfl, List.nil_append, State.holding]

/-- The only activity that runs ends. -/
theorem State.maint_endMaint_alone {a : Activity} (alone : s.maint = [(a, true)]) (st : Nat) : (s.endMaint a st).maint = [] := by
  have runs : s.maintRuns a = true := by rw [State.maintRuns, alone, List.contains_cons, beq_self_eq_true, Bool.true_or]
  rw [State.endMaint, if_pos runs, State.maint_maintEvent, alone, dropActivity, if_pos rfl]

/-! ## Flash slots (R400) -/

theorem State.erased_eraseSlot {slot : Nat} (known : slot < 2) (erased : Bool) :
    (s.eraseSlot slot erased).boot.erased slot = erased := by
  have cases : slot = 0 ∨ slot = 1 := by omega
  obtain rfl | rfl := cases <;> rfl

/-- The flash status once BUSY is written. -/
theorem State.fld_flash_busy (h : Tbl.wf regReset s.regs = true) {v : Nat} (bit : v < 2) :
    (s.setF R.GLB_FLASH_STAT 31 31 v).fld R.GLB_FLASH_STAT 31 31 = v
      ∧ (s.setF R.GLB_FLASH_STAT 31 31 v).fld R.GLB_FLASH_STAT 3 0 = s.fld R.GLB_FLASH_STAT 3 0
      ∧ (s.setF R.GLB_FLASH_STAT 31 31 v).fld R.GLB_FLASH_STAT 15 8 = s.fld R.GLB_FLASH_STAT 15 8 :=
  ⟨State.fld_setF_self h _ (by decide) (by decide) bit, State.fld_setF_apart h _ _ (by decide) (by decide) (by decide),
    State.fld_setF_apart h _ _ (by decide) (by decide) (by decide)⟩

/-- A program noted, or the noted one dropped. -/
def State.withProgram (s : State) (p : Option (Nat × Nat)) : State := { s with boot := { s.boot with program := p } }

theorem State.regs_withProgram (p : Option (Nat × Nat)) : (s.withProgram p).regs = s.regs := rfl

/-- The state in which an activity of the flash has its lock, before it starts. -/
def State.flashGranted (s : State) (slot : Nat) (len : Option Nat) : State :=
  (((s.withProgram (len.map (fun n => (slot, n)))).flashStatus 0).setF R.GLB_FLASH_STAT 31 31 1).holding
    (.flash slot len.isNone)

/-- A request of the flash that finds it free. -/
theorem State.flashRequest_of_nil {slot : Nat} {len : Option Nat} (idle : s.fld R.GLB_FLASH_STAT 31 31 = 0)
    (early : s.booted = false) (free : s.maint = []) (start : State → State) :
    s.flashRequest slot len start = start (s.flashGranted slot len) := by
  have still : (((s.withProgram (len.map (fun n => (slot, n)))).flashStatus 0).setF R.GLB_FLASH_STAT 31 31 1).maint = [] := by
    rw [State.setF_maint, State.flashStatus, State.setF_maint, State.withProgram]
    exact free
  rw [State.flashRequest, if_neg (by omega), if_neg (by simp [early]), State.flashGranted,
    ← State.requestMaint_of_nil still _ start]
  rfl

theorem State.wf_flashGranted (h : Tbl.wf regReset s.regs = true) (slot : Nat) (len : Option Nat) :
    Tbl.wf regReset (s.flashGranted slot len).regs = true := by
  rw [State.flashGranted, State.regs_holding, State.flashStatus]
  exact State.setF_regs_wf (State.setF_regs_wf (by rw [State.regs_withProgram]; exact h) _ _ _ _) _ _ _ _

theorem State.fld_flashGranted (h : Tbl.wf regReset s.regs = true) (slot : Nat) (len : Option Nat) :
    (s.flashGranted slot len).fld R.GLB_FLASH_STAT 31 31 = 1 ∧ (s.flashGranted slot len).fld R.GLB_FLASH_STAT 3 0 = 0 := by
  have w0 : Tbl.wf regReset (s.withProgram (len.map (fun n => (slot, n)))).regs = true := by rwa [State.regs_withProgram]
  have w1 := State.setF_regs_wf w0 R.GLB_FLASH_STAT 3 0 0
  obtain ⟨busy, status, -⟩ := State.fld_flash_busy w1 (v := 1) (by decide)
  rw [State.flashGranted, State.fld_of_regs (State.regs_holding _), State.fld_of_regs (State.regs_holding _), State.flashStatus]
  exact ⟨busy, status.trans (State.fld_setF_self w0 _ (by decide) (by decide) (by decide))⟩

theorem State.boot_flashGranted (slot : Nat) (len : Option Nat) :
    (s.flashGranted slot len).boot = { s.boot with program := len.map (fun n => (slot, n)) } := by
  rw [State.flashGranted, State.boot_holding, State.setF_boot, State.flashStatus, State.setF_boot, State.withProgram]

theorem State.maint_flashGranted (slot : Nat) (len : Option Nat) :
    (s.flashGranted slot len).maint = [(.flash slot len.isNone, true)] := State.maint_holding _

/-- An erase that has the only lock. -/
theorem State.startErase_gives {g : State} (h : Tbl.wf regReset g.regs = true) {slot : Nat} (known : slot < 2)
    (lock : g.maint = [(.flash slot true, true)]) :
    (State.startErase slot g).boot.erased slot = true ∧ (State.startErase slot g).fld R.GLB_FLASH_STAT 31 31 = 0
      ∧ (State.startErase slot g).fld R.GLB_FLASH_STAT 3 0 = g.fld R.GLB_FLASH_STAT 3 0
      ∧ (State.startErase slot g).maint = [] := by
  have w0 : Tbl.wf regReset (g.eraseSlot slot true).regs = true := h
  have same : (g.eraseSlot slot true).regs = g.regs := rfl
  have lock' : ((g.eraseSlot slot true).setF R.GLB_FLASH_STAT 31 31 0).maint = [(.flash slot true, true)] := by
    rw [State.setF_maint]
    exact lock
  obtain ⟨busy, status, -⟩ := State.fld_flash_busy w0 (v := 0) (by decide)
  refine ⟨?_, ?_, ?_, State.maint_endMaint_alone lock' 2⟩
  · rw [State.startErase, State.boot_endMaint, State.setF_boot]
    exact State.erased_eraseSlot known true
  · rw [State.startErase, State.fld_of_regs (State.regs_endMaint _ _), busy]
  · rw [State.startErase, State.fld_of_regs (State.regs_endMaint _ _), status, State.fld_of_regs same]

theorem flashErase_gives (h : s.canonical = true) {slot : Fin 2} (idle : s.fld R.GLB_FLASH_STAT 31 31 = 0)
    (early : s.booted = false) (free : s.maint = []) :
    Gives (.flashErase slot) s (fun t => t.boot.erased slot = true ∧ t.fld R.GLB_FLASH_STAT 31 31 = 0
      ∧ t.fld R.GLB_FLASH_STAT 3 0 = 0 ∧ t.maint = []) := by
  have e : exec (.flashErase slot) s = .next (State.startErase slot (s.flashGranted slot none)) := by
    change execFlashErase slot s = _
    rw [execFlashErase, State.flashRequest_of_nil idle early free]
  obtain ⟨erased, busy, status, done⟩ := State.startErase_gives (State.wf_flashGranted (State.canonical.regs h) slot none)
    slot.isLt (State.maint_flashGranted _ _)
  exact ⟨_, e, erased, busy, status.trans (State.fld_flashGranted (State.canonical.regs h) slot none).2, done⟩

theorem State.regs_startProgram (slot len : Nat) : (State.startProgram slot len s).regs = s.regs := rfl

theorem State.maint_startProgram (slot len : Nat) : (State.startProgram slot len s).maint = s.maint := rfl

theorem exec_flashProgram_of_fits {slot : Fin 2} {len : Fin 67108864} (idle : s.fld R.GLB_FLASH_STAT 31 31 = 0)
    (some' : 0 < len.val) (fits : len.val ≤ 33554432) :
    exec (.flashProgram slot len) s = .next (s.flashRequest slot (some len.val) (State.startProgram slot len)) := by
  change execFlashProgram slot len s = _
  rw [execFlashProgram, if_neg (by omega), if_neg (by omega), if_neg (by omega)]

theorem exec_flashProgram_of_large {slot : Fin 2} {len : Fin 67108864} (idle : s.fld R.GLB_FLASH_STAT 31 31 = 0)
    (large : 33554432 < len.val) : exec (.flashProgram slot len) s = .next (s.flashStatus 3) := by
  change execFlashProgram slot len s = _
  rw [execFlashProgram, if_neg (by omega), if_pos large]

/-- The state in which a program's read-back has been told. -/
def State.programChecked (s : State) (slot code : Nat) : State :=
  ((((s.withProgram none).eraseSlot slot (code != 0)).setF R.GLB_FLASH_STAT 15 8 code).flashStatus
    (if code = 0 then 0 else 5)).setF R.GLB_FLASH_STAT 31 31 0

theorem State.boot_programChecked (slot code : Nat) :
    (s.programChecked slot code).boot = ((s.withProgram none).eraseSlot slot (code != 0)).boot := by
  rw [State.programChecked, State.setF_boot, State.flashStatus, State.setF_boot, State.setF_boot]

theorem State.fld_programChecked (h : Tbl.wf regReset s.regs = true) (slot : Nat) {code : Nat} (small : code < 2 ^ 8) :
    (s.programChecked slot code).fld R.GLB_FLASH_STAT 15 8 = code ∧ (s.programChecked slot code).fld R.GLB_FLASH_STAT 31 31 = 0 := by
  have w0 : Tbl.wf regReset ((s.withProgram none).eraseSlot slot (code != 0)).regs = true := h
  have w1 := State.setF_regs_wf w0 R.GLB_FLASH_STAT 15 8 code
  have w2 := State.setF_regs_wf w1 R.GLB_FLASH_STAT 3 0 (if code = 0 then 0 else 5)
  obtain ⟨busy, -, told⟩ := State.fld_flash_busy w2 (v := 0) (by decide)
  rw [State.programChecked, State.flashStatus, told, State.fld_setF_apart w1 _ _ (by decide) (by decide) (by decide),
    State.fld_setF_self w0 _ (by decide) (by decide) small]
  exact ⟨rfl, busy⟩

theorem exec_flashProgramDone_of_runs {c : ImageCheck} {slot len : Nat} (programs : s.boot.program = some (slot, len))
    (runs : s.maintRuns (.flash slot false) = true) :
    exec (.flashProgramDone c) s
      = .next ((s.programChecked slot (s.boot.checkImage c none)).endMaint (.flash slot false) 2) := by
  change execFlashProgramDone c s = _
  rw [execFlashProgramDone, programs]
  dsimp only
  rw [runs]
  rfl

/-- Every failure code of an image fits its field. -/
theorem Boot.checkImage_lt (b : Boot) (c : ImageCheck) (host : Option Nat) : b.checkImage c host < 2 ^ 8 := by
  unfold Boot.checkImage
  repeat' split
  all_goals decide

theorem flashProgramDone_gives (h : s.canonical = true) {c : ImageCheck} {slot len : Nat}
    (programs : s.boot.program = some (slot, len)) (runs : s.maintRuns (.flash slot false) = true) (known : slot < 2) :
    Gives (.flashProgramDone c) s (fun t => t.boot.program = none ∧ t.boot.erased slot = (s.boot.checkImage c none != 0)
      ∧ t.fld R.GLB_FLASH_STAT 15 8 = s.boot.checkImage c none ∧ t.fld R.GLB_FLASH_STAT 31 31 = 0) := by
  have e := exec_flashProgramDone_of_runs (c := c) programs runs
  have small : s.boot.checkImage c none < 2 ^ 8 := Boot.checkImage_lt _ _ _
  generalize s.boot.checkImage c none = code at e small
  obtain ⟨told, busy⟩ := State.fld_programChecked (State.canonical.regs h) slot small
  have regs := State.regs_endMaint (s := s.programChecked slot code) (.flash slot false) 2
  refine ⟨_, e, ?_, ?_, (State.fld_of_regs regs _ _ _).trans told, (State.fld_of_regs regs _ _ _).trans busy⟩
  · rw [State.boot_endMaint, State.boot_programChecked]
    rfl
  · rw [State.boot_endMaint, State.boot_programChecked]
    exact State.erased_eraseSlot known _

/-- Settles O11. -/
theorem imagesAndFlashSlotsAreChecked : Obligations.ImagesAndFlashSlotsAreChecked := by
  refine ⟨imagesAreChecked, fun s h => ⟨fun slot => flashErase_gives h, fun slot len idle early free some' fits => ?_,
    fun slot len large idle => ?_, fun c slot len => flashProgramDone_gives h⟩⟩
  · have wf := State.canonical.regs h
    refine ⟨_, exec_flashProgram_of_fits idle some' fits, ?_⟩
    rw [State.flashRequest_of_nil idle early free]
    exact ⟨rfl, State.erased_eraseSlot slot.isLt true, (State.fld_of_regs (State.regs_startProgram _ _) _ _ _).trans
      (State.fld_flashGranted wf slot _).1, (State.maint_startProgram _ _).trans (State.maint_flashGranted _ _)⟩
  · exact ⟨_, exec_flashProgram_of_large idle large, State.fld_setF_self (State.canonical.regs h) _ (by decide) (by decide)
      (by decide), State.setF_boot _ _ _ _ _⟩

end Sys2Proof.Machine

/-!
PROOFS. Cold reset, module reset, the release of RESET_N and the end of a thermal hold (R389, R443).
-/
namespace Sys2Proof.Machine

variable {s : State}

/-! ## Cold reset (R389) -/

theorem State.tb0_coldReset (t : Nat) : ((t : Int) + -(t : Int)).toNat = 0 := by
  rw [Int.add_right_neg, Int.toNat_zero]

theorem coldReset_gives (s : State) : Gives .coldReset s (fun t => t.regs = [] ∧ t.cnt = [] ∧ t.dom = [(1, .on)]
    ∧ t.mem = Memory.init ∧ t.now = s.now ∧ t.tb0 = 0 ∧ t.optics.lasers = s.optics.lasers ∧ t.boot.minSvn = s.boot.minSvnNext
    ∧ t.boot.ownerReq = s.boot.ownerReqNext ∧ t.boot.ownerHash = s.boot.ownerHashNext
    ∧ t.boot.erasedA = s.boot.erasedA ∧ t.boot.erasedB = s.boot.erasedB ∧ t.boot.waiting = true ∧ t.boot.kind = 0) :=
  ⟨_, rfl, rfl, rfl, rfl, rfl, rfl, State.tb0_coldReset s.now, rfl, rfl, rfl, rfl, rfl, rfl, rfl, rfl⟩

/-! ## Module reset (R28, R389, R443) -/

theorem State.darken_boot : s.darken.boot = s.boot := (State.darken_within s).boot_eq (by decide)

/-- Lane maps alone are written after the rest is stripped. -/
theorem State.strip_within_stripped (k : Keeps) : Within 16386 (s.stripped k) (s.strip k) :=
  Within.stepEach (fun e s => State.remapLanes_within s e) (Within.refl _ _)

/-- Without the column of memory nothing that it holds is kept (R393). -/
theorem State.stripped_of_forget {k : Keeps} (forget : k.memory = false) :
    (s.stripped k).mem = Memory.init ∧ (s.stripped k).homes = [] ∧ (s.stripped k).dp = Datapath.empty := by
  refine ⟨?_, ?_, ?_⟩ <;> simp only [State.stripped, forget, Bool.false_eq_true, if_false]

/-- RESET_N is low after the abrupt stop that it caused (R443). -/
def State.resetHeld (s : State) : State :=
  { s.abruptStop 1 with boot := { (s.abruptStop 1).boot with resetLow := true } }

theorem State.resetHeld_within_stripped : Within (16386 + 16777216) (s.darken.stripped keepModule) s.resetHeld := by
  have strip : Within (16386 + 16777216) (s.darken.stripped keepModule) (s.darken.strip keepModule) :=
    Within.step (State.strip_within_stripped keepModule) (by decide) (Within.refl _ _)
  unfold State.resetHeld State.abruptStop
  exact Within.upd_boot (by decide) (Within.upd_boot (by decide) strip)

theorem State.boot_resetHeld : ∃ b : Boot,
    s.resetHeld.boot = { b with resetLow := true, waiting := true, kind := 1, cause := 1, rounds := 0 } := by
  unfold State.resetHeld State.abruptStop
  generalize s.darken.strip keepModule = x
  exact ⟨_, rfl⟩

theorem exec_resetNAssert_of_long {ns : Nat} (long : 10000 ≤ ns) (high : s.boot.resetLow = false) (on : s.on 1 = true) :
    exec (.resetNAssert ns) s = .next s.resetHeld := by
  change execResetNAssert ns s = _
  rw [execResetNAssert, if_neg (by omega), if_neg (by omega), if_neg (by simp [high]), if_neg (by simp [on])]
  rfl

theorem resetNAssert_gives {ns : Nat} (long : 10000 ≤ ns) (high : s.boot.resetLow = false) (on : s.on 1 = true) :
    Gives (.resetNAssert ns) s (fun t => t.boot.resetLow = true ∧ t.boot.waiting = true ∧ t.boot.kind = 1
      ∧ t.boot.cause = 1 ∧ t.boot.rounds = 0 ∧ t.dom = [(1, .on)] ∧ t.mem = Memory.init ∧ t.homes = []
      ∧ t.dp = State.reset.dp ∧ t.wd = none) := by
  have same := State.resetHeld_within_stripped (s := s)
  obtain ⟨b, boot⟩ := State.boot_resetHeld (s := s)
  obtain ⟨mem, homes, dp⟩ := State.stripped_of_forget (s := s.darken) (k := keepModule) rfl
  refine ⟨_, exec_resetNAssert_of_long long high on, ?_⟩
  dsimp only
  rw [boot, same.dom_eq (by decide), same.mem_eq (by decide), same.homes_eq (by decide), same.dp_eq (by decide),
    same.wd_eq (by decide), mem, homes, dp]
  exact ⟨rfl, rfl, rfl, rfl, rfl, rfl, rfl, rfl, rfl, rfl⟩

/-! ## A boot that is owed (R389) -/

theorem State.tryBoot_of_bad (bad : s.boot.goodSince = none) : s.tryBoot = s := by
  rw [State.tryBoot, bad]

theorem State.tryBoot_of_good {t0 : Nat} (good : s.boot.goodSince = some t0) (owed : s.boot.waiting = true)
    (high : s.boot.resetLow = false) (cool : s.boot.tripped = []) (long : t0 + 10000000 ≤ s.now) (on : s.on 1 = true) :
    s.tryBoot = s.startBoot.domainsGo := by
  rw [State.tryBoot, good]
  exact if_pos ⟨owed, by rw [high]; rfl, by rw [cool]; rfl, long, on⟩

/-- RESET_N high again. -/
def State.released (s : State) : State := { s with boot := { s.boot with resetLow := false } }

theorem exec_resetNRelease (s : State) : exec .resetNRelease s = .next s.released.tryBoot := rfl

/-- No site is tripped any longer. -/
def State.cooled (s : State) : State := { s with boot := { s.boot with tripped := [], coolSince := none } }

theorem exec_thermalHoldEnd_of_some {t0 : Nat} (cool : s.boot.coolSince = some t0) :
    exec .thermalHoldEnd s = .next (s.reach (t0 + 1000000000)).cooled.tryBoot := by
  change execThermalHoldEnd s = _
  rw [execThermalHoldEnd, cool]
  rfl

theorem thermalHoldEnd_gives {t0 : Nat} (cool : s.boot.coolSince = some t0) (bad : s.boot.goodSince = none) :
    Gives .thermalHoldEnd s (fun t => t.boot.tripped = [] ∧ t.boot.coolSince = none
      ∧ t.now = max s.now (t0 + 1000000000)) := by
  have still : (s.reach (t0 + 1000000000)).cooled.boot.goodSince = none := by
    rw [State.cooled, State.reach_boot]
    exact bad
  refine ⟨_, exec_thermalHoldEnd_of_some cool, ?_⟩
  rw [State.tryBoot_of_bad still]
  exact ⟨rfl, rfl, State.now_reach _⟩

/-- Settles O9. -/
theorem resetsTakeEffect : Obligations.ResetsTakeEffect := by
  refine ⟨fun s => ⟨coldReset_gives s, fun ns => resetNAssert_gives, fun bad => ?_, fun t0 good owed cool long on => ?_,
    fun t0 => thermalHoldEnd_gives⟩, fun ns s => ⟨fun short => ?_, fun low short => ?_⟩⟩
  · have still : s.released.boot.goodSince = none := bad
    rw [exec_resetNRelease, State.tryBoot_of_bad still, State.released]
  · have b : s.released.tryBoot = s.released.startBoot.domainsGo := State.tryBoot_of_good good owed rfl cool long on
    rw [exec_resetNRelease, b, State.released]
  · change execResetNAssert ns s = _
    rw [execResetNAssert, if_pos short]
  · change execResetNAssert ns s = _
    rw [execResetNAssert, if_neg (by omega), if_pos short]

end Sys2Proof.Machine

/-!
PROOFS. The I3C target, ALERT_N and the wake command (R444 to R446).
-/
namespace Sys2Proof.Machine

variable {s : State}

/-! ## Dynamic addresses and common commands (R444) -/

theorem exec_i3cEntdaa_of_none (a : Fin 128) (none : s.i3c.dyn = none) :
    exec (.i3cEntdaa a) s = .next { s with i3c := { s.i3c with dyn := some a.val } } := by
  change execI3cEntdaa a s = _
  rw [execI3cEntdaa, none]

theorem exec_i3cEntdaa_of_some (a : Fin 128) {b : Nat} (held : s.i3c.dyn = some b) : exec (.i3cEntdaa a) s = .next s := by
  change execI3cEntdaa a s = _
  rw [execI3cEntdaa, held]

theorem exec_i3cSetdasa_of_none (static a : Fin 128) (none : s.i3c.dyn = none) : exec (.i3cSetdasa static a) s
    = .next (if static = 0x50 then { s with i3c := { s.i3c with dyn := some a.val } } else s) := by
  change execI3cSetdasa static a s = _
  by_cases h : static = 0x50
  · rw [execI3cSetdasa, if_pos ⟨by rw [h]; rfl, by rw [none]; rfl⟩, if_pos h]
  · rw [execI3cSetdasa, if_neg (fun k => h (Fin.ext k.1)), if_neg h]

theorem State.i3cAnswer_of_held (held : s.i3c.dyn ≠ none) (what n draw : Nat) : ∃ b : List Byte,
    b.length = n ∧ s.i3cAnswer what n draw = { s with out := .i3c b :: s.out } := by
  have yes : s.i3c.dyn.isSome = true := Option.isSome_iff_ne_none.mpr held
  refine ⟨(List.range n).map (fun i => Config.i3cByte what i draw), by simp, ?_⟩
  rw [State.i3cAnswer, if_pos yes]
  rfl

theorem i3cGetstatus_gives (held : s.i3c.dyn ≠ none) : Gives .i3cGetstatus s (fun t => ∃ b : List Byte,
    b.length = 2 ∧ t = { s with out := .i3c b :: s.out, free := s.free + 1 }) := by
  obtain ⟨b, len, e⟩ := State.i3cAnswer_of_held held 3 2 s.free
  refine ⟨_, rfl, b, len, ?_⟩
  rw [e]
  rfl

/-! ## ALERT_N (R445) -/

theorem alertEnWrite_gives (v : Fin 256) (on : s.on 1 = true) : Gives (.alertEnWrite v) s (fun t => Only [.i3c, .out] s t
    ∧ t.i3c.alertEn = v ∧ (t.i3c.low = true ↔ s.alertCause &&& v.val ≠ 0)) := by
  have e : exec (.alertEnWrite v) s = .next ({ s with i3c := { s.i3c with alertEn := v.val } } : State).alertStep := by
    change execAlertEnWrite v s = _
    rw [execAlertEnWrite, if_neg (by simp [on])]
  have low : ({ s with i3c := { s.i3c with alertEn := v.val } } : State).alertLow = (s.alertCause &&& v.val != 0) := by
    rw [State.alertLow, show ({ s with i3c := { s.i3c with alertEn := v.val } } : State).on 1 = true from on, Bool.true_and]
    rfl
  refine ⟨_, e, exec_onlyNext (.alertEnWrite v) s _ e, rfl, ?_⟩
  rw [show (({ s with i3c := { s.i3c with alertEn := v.val } } : State).alertStep).i3c.low
    = ({ s with i3c := { s.i3c with alertEn := v.val } } : State).alertLow from rfl, low, bne_iff_ne]

/-! ## The wake command (R446) -/

/-- M0 requested and WAKE_S cleared. -/
def State.wakeRequested (s : State) : State := (s.setF R.PWR_MSTATE 31 30 0).setF R.PWR_MSTATE 15 0 0

theorem State.wakeRequested_within (s : State) : Within 2 s s.wakeRequested :=
  State.setF_step rfl (State.setF_step rfl (Within.refl _ _))

theorem State.wakeRequested_wf (h : Tbl.wf regReset s.regs = true) : Tbl.wf regReset s.wakeRequested.regs = true :=
  State.setF_regs_wf (State.setF_regs_wf h _ _ _ _) _ _ _ _

theorem State.fld_wakeRequested (h : Tbl.wf regReset s.regs = true) :
    s.wakeRequested.fld R.PWR_MSTATE 31 30 = 0 ∧ s.wakeRequested.fld R.PWR_MSTATE 15 0 = 0 := by
  have wf := State.setF_regs_wf h R.PWR_MSTATE 31 30 0
  rw [State.wakeRequested]
  constructor
  · rw [State.fld_setF_apart wf _ _ (by decide) (by decide) (by decide), State.fld_setF_self h _ (by decide) (by decide) (by decide)]
  · rw [State.fld_setF_self wf _ (by decide) (by decide) (by decide)]

theorem State.level_wakeRequested (h : Tbl.wf regReset s.regs = true) : s.wakeRequested.level = s.level := by
  rw [State.wakeRequested, State.level, State.fld_setF_ne (State.setF_regs_wf h _ _ _ _) _ _ _ _ _ (by decide),
    State.fld_setF_ne h _ _ _ _ _ (by decide), State.level]

/-- The M-state wanted once M0 is requested: the one that the level forces. -/
theorem State.wantM_wakeRequested (h : Tbl.wf regReset s.regs = true) : s.wakeRequested.wantM = forcedM s.level := by
  rw [State.wantM, (State.fld_wakeRequested h).1, State.level_wakeRequested h, Nat.zero_max]

theorem exec_i3cWake_of_high (on : s.on 1 = true) (high : s.boot.resetLow = false) :
    exec .i3cWake s = .next (s.wakeRequested.applyForce 0) := by
  change execI3cWake s = _
  rw [execI3cWake, if_neg (by simp [on, high]), State.wakeRequested]

theorem exec_i3cWake_of_low (low : s.boot.resetLow = true) : exec .i3cWake s = .next s := by
  change execI3cWake s = _
  rw [execI3cWake, if_pos (.inr low)]

theorem forEach_of_fixed {α : Type} {f : α → State → State} (fixed : ∀ x, f x s = s) : ∀ l : List α, forEach f l s = s
  | [] => rfl
  | x :: l => by rw [forEach, fixed x, forEach_of_fixed fixed l]

theorem State.followForce_of_free (level : s.level = 0) (want : s.wantM = 0) (shed : s.pwr.shed = [])
    (held : s.pwr.held = []) (n : Nat) : s.followForce n = s := by
  have free : s.forcedDom n = none := by simp [State.forcedDom, level, want]
  rw [State.followForce, free, shed, held]
  rfl

/-- With M0 wanted and no domain held nothing but the M-state in force is written (R387). -/
theorem State.applyForce_of_m0 (h : Tbl.wf regReset s.regs = true) (cause : Nat) (level : s.level = 0) (want : s.wantM = 0)
    (awake : s.pwr.m3 = false) (stay : s.wd = none) (shed : s.pwr.shed = []) (held : s.pwr.held = []) :
    s.applyForce cause = s.setF R.PWR_MSTATE 29 28 0 := by
  have level' : (s.setF R.PWR_MSTATE 29 28 0).level = 0 := by
    rw [State.level, State.fld_setF_ne h _ _ _ _ _ (by decide)]
    exact level
  have want' : (s.setF R.PWR_MSTATE 29 28 0).wantM = 0 := by
    rw [State.wantM, level] at want
    rw [State.wantM, level', State.fld_setF_apart h _ _ (by decide) (by decide) (by decide), want]
  have all : (s.setF R.PWR_MSTATE 29 28 0).oneLane = false := by
    rw [State.level] at level'
    rw [State.oneLane, level', State.fld_setF_self h _ (by decide) (by decide) (by decide)]
    decide
  have rest := State.followForce_of_free level' want' (by rw [State.setF_pwr, shed]) (by rw [State.setF_pwr, held])
  rw [State.applyForce, want, if_neg (by decide), awake, if_neg (by decide), stay, if_neg (by decide)]
  dsimp only
  rw [all, if_neg (by decide)]
  exact forEach_of_fixed rest heldDomains

theorem Word.fld_eq_zero_of_halves {w : Word} (upper : w.fld 31 30 = 0) (lower : w.fld 29 28 = 0) : w.fld 31 28 = 0 := by
  simp only [Word.fld] at *
  simp only [Nat.reduceAdd, Nat.reduceSub, Nat.reducePow] at *
  omega

theorem i3cWake_gives (h : s.canonical = true) (on : s.on 1 = true) (high : s.boot.resetLow = false) (level : s.level = 0)
    (awake : s.pwr.m3 = false) (stay : s.wd = none) (shed : s.pwr.shed = []) (held : s.pwr.held = []) :
    Gives .i3cWake s (fun t => Only [.regs] s t ∧ t.fld R.PWR_MSTATE 31 28 = 0 ∧ t.fld R.PWR_MSTATE 15 0 = 0) := by
  have wf := State.canonical.regs h
  have asked := State.wakeRequested_within s
  have wf' := State.wakeRequested_wf wf
  have pwr := asked.pwr_eq (by decide)
  have follow := State.applyForce_of_m0 wf' 0 ((State.level_wakeRequested wf).trans level)
    ((State.wantM_wakeRequested wf).trans (by rw [level]; rfl)) (by rw [pwr, awake]) (by rw [asked.wd_eq (by decide), stay])
    (by rw [pwr, shed]) (by rw [pwr, held])
  obtain ⟨request, wake⟩ := State.fld_wakeRequested wf
  refine ⟨_, (exec_i3cWake_of_high on high).trans (by rw [follow]), ?_, ?_, ?_⟩
  · have all : Within 2 s (s.wakeRequested.setF R.PWR_MSTATE 29 28 0) := State.setF_step rfl asked
    exact all.only fun p hp => by revert hp; cases p <;> decide
  · refine Word.fld_eq_zero_of_halves ?_ ?_
    · exact (State.fld_setF_apart wf' _ _ (by decide) (by decide) (by decide)).trans request
    · exact State.fld_setF_self wf' _ (by decide) (by decide) (by decide)
  · rw [State.fld_setF_apart wf' _ _ (by decide) (by decide) (by decide), wake]

/-- Settles O57. -/
theorem sidebandTargetAnswers : Obligations.SidebandTargetAnswers := by
  refine fun s h => ⟨exec_i3cEntdaa_of_none, fun a b => exec_i3cEntdaa_of_some a, exec_i3cSetdasa_of_none, rfl,
    fun held => ⟨⟨_, rfl, State.i3cAnswer_of_held held 0 6 0⟩, ⟨_, rfl, State.i3cAnswer_of_held held 1 1 0⟩,
      ⟨_, rfl, State.i3cAnswer_of_held held 2 1 0⟩, i3cGetstatus_gives held⟩, rfl, rfl, alertEnWrite_gives, i3cWake_gives h,
    fun on high level asleep => ?_, fun on high level asleep => ?_, exec_i3cWake_of_low⟩
  all_goals
    have wf := State.canonical.regs h
    have want := State.wantM_wakeRequested wf
    have asleep' : s.wakeRequested.pwr.m3 = true := by rw [(State.wakeRequested_within s).pwr_eq (by decide), asleep]
    rw [level] at want
    rw [exec_i3cWake_of_high on high, State.applyForce, want]
  · rw [if_neg (by decide), asleep', if_pos rfl, State.wakeRequested]
  · rw [if_pos (by decide), asleep', if_pos rfl, State.wakeRequested]

end Sys2Proof.Machine

/-!
PROOFS. Health scores (R422): the published score, and what an evaluation leaves.
-/
namespace Sys2Proof.Machine

variable {s : State}

/-! ## The published score -/

theorem State.rawScore_le (s : State) (tot : Tbl Nat) (k : Nat) : s.rawScore tot k ≤ 1000 := Nat.min_le_left _ _

/-- How far a score may still fall in 60 s (R422). -/
def Part.room (x : Part) (now : Nat) : Nat := 10 - ((x.falls.filter (fun f => now < f.1 + 60000000000)).map (·.2)).sum

theorem Part.publish_score_of_le {x : Part} {raw : Nat} (now : Nat) (le : x.score ≤ raw) : (x.publish raw now).score = raw :=
  if_pos le

theorem Part.publish_score_of_lt {x : Part} {raw : Nat} (now : Nat) (lt : raw < x.score) :
    (x.publish raw now).score = x.score - min (x.room now) (x.score - raw) := if_neg (Nat.not_le.mpr lt)

/-- A fall is noted with its instant. -/
theorem Part.publish_falls_of_lt {x : Part} {raw : Nat} (now : Nat) (lt : raw < x.score) :
    ((x.publish raw now).falls.map (·.2)).sum
      = ((x.falls.filter (fun f => now < f.1 + 60000000000)).map (·.2)).sum + min (x.room now) (x.score - raw) := by
  by_cases falls : 0 < min (x.room now) (x.score - raw)
  · have e : (x.publish raw now).falls
        = x.falls.filter (fun f => now < f.1 + 60000000000) ++ [(now, min (x.room now) (x.score - raw))] := if_pos ⟨lt, falls⟩
    rw [e, List.map_append, List.sum_append]
    simp
  · have e : (x.publish raw now).falls = x.falls.filter (fun f => now < f.1 + 60000000000) := if_neg (fun h => falls h.2)
    rw [e, Nat.eq_zero_of_not_pos falls, Nat.add_zero]

theorem Part.publish_bounds {x : Part} {raw now : Nat} (lt : raw < x.score)
    (kept : ((x.falls.filter (fun f => now < f.1 + 60000000000)).map (·.2)).sum ≤ 10) :
    ((x.publish raw now).falls.map (·.2)).sum ≤ 10 ∧ ((x.publish raw now).falls.map (·.2)).sum
      = ((x.falls.filter (fun f => now < f.1 + 60000000000)).map (·.2)).sum + (x.score - (x.publish raw now).score) := by
  have room : x.room now = 10 - ((x.falls.filter (fun f => now < f.1 + 60000000000)).map (·.2)).sum := rfl
  rw [Part.publish_falls_of_lt now lt, Part.publish_score_of_lt now lt]
  generalize ((x.falls.filter (fun f => now < f.1 + 60000000000)).map (·.2)).sum = sum at *
  omega

/-! ## An evaluation -/

theorem State.part_setPart_self (h : Tbl.wf (fun _ => Part.init) s.tel.parts = true) (k : Nat) (x : Part) :
    (s.setPart k x).part k = x := Tbl.get_put_self h k x

theorem State.part_of_tel {t : State} (h : t.tel = s.tel) (k : Nat) : t.part k = s.part k := by
  rw [State.part, State.part, h]

theorem State.tel_healthEvent (k cause arg2 : Nat) : (s.healthEvent k cause arg2).tel = s.tel :=
  (State.healthEvent_within _ _ _ _).tel_eq (by decide)

theorem State.tel_markSuspect (k : Nat) : (s.markSuspect k).tel = s.tel := (State.markSuspect_within _ _).tel_eq (by decide)

/-- The part that an evaluation leaves (R422, R424, R426). -/
def State.evaluated (s : State) (tot : Tbl Nat) (k : Nat) : Part :=
  let x := (s.part k).publish (s.rawScore tot k) s.now
  if x.score < 700 then { x with st := healthState x.score, flagged := false, allowedAt := none, acted := false }
  else { x with st := healthState x.score }

theorem State.evaluated_score (tot : Tbl Nat) (k : Nat) :
    (s.evaluated tot k).score = ((s.part k).publish (s.rawScore tot k) s.now).score := by
  unfold State.evaluated
  extract_lets x
  split <;> rfl

theorem State.evaluated_st (tot : Tbl Nat) (k : Nat) : (s.evaluated tot k).st = healthState (s.evaluated tot k).score := by
  unfold State.evaluated
  extract_lets x
  split <;> rfl

theorem State.evaluatePart_tel (tot : Tbl Nat) (k : Nat) :
    (s.evaluatePart tot k).tel = (s.setPart k (s.evaluated tot k)).tel := by
  unfold State.evaluatePart
  extract_lets x st was y z s1 s2
  have noted : s2.tel = s1.tel := by
    unfold s2
    split
    · exact State.tel_healthEvent _ _ _
    · rfl
  have stored : s1 = s.setPart k (s.evaluated tot k) := rfl
  split
  · rw [State.tel_markSuspect, noted, stored]
  · rw [noted, stored]

theorem State.part_evaluatePart (h : Tbl.wf (fun _ => Part.init) s.tel.parts = true) (tot : Tbl Nat) (k : Nat) :
    (s.evaluatePart tot k).part k = s.evaluated tot k :=
  (State.part_of_tel (State.evaluatePart_tel tot k) k).trans (State.part_setPart_self h k _)

/-- What scoring leaves: registers, ports, the history and what is isolated. -/
structure Graded (s t : State) : Prop where
  regs : t.regs = s.regs
  ports : t.ports = s.ports
  hist : t.tel.hist = s.tel.hist
  isolated : t.tel.isolated = s.tel.isolated

theorem Graded.refl (s : State) : Graded s s := ⟨rfl, rfl, rfl, rfl⟩

theorem Graded.trans {t u : State} (h : Graded s t) (k : Graded t u) : Graded s u :=
  ⟨k.regs.trans h.regs, k.ports.trans h.ports, k.hist.trans h.hist, k.isolated.trans h.isolated⟩

theorem Graded.each {α : Type} {f : α → State → State} (P : State → Prop) (closed : ∀ s t, P s → Graded s t → P t)
    (step : ∀ x s, P s → Graded s (f x s)) : ∀ (l : List α) (s : State), P s → Graded s (forEach f l s)
  | [], s, _ => .refl s
  | x :: l, s, h => (step x s h).trans (Graded.each P closed step l _ (closed _ _ h (step x s h)))

theorem State.evaluatePart_graded (tot : Tbl Nat) (k : Nat) (s : State) : Graded s (s.evaluatePart tot k) where
  regs := (State.evaluatePart_within _ _ _).regs_eq (by decide)
  ports := (State.evaluatePart_within _ _ _).ports_eq (by decide)
  hist := by rw [State.evaluatePart_tel]; rfl
  isolated := by rw [State.evaluatePart_tel]; rfl

/-- With no action budgeted a part that waits is flagged at most (R426). -/
theorem State.allowPart_graded (none : s.fld R.TEL_HEALTH_CFG 31 28 = 0) (k : Nat) : Graded s (s.allowPart k) := by
  unfold State.allowPart
  extract_lets x
  rw [none, if_neg (fun h => Nat.not_lt_zero _ h.1)]
  split
  · exact .refl s
  · have tel := State.tel_healthEvent (s := s.setPart k { x with flagged := true }) k 1 0
    exact ⟨(State.healthEvent_within _ _ _ _).regs_eq (by decide), (State.healthEvent_within _ _ _ _).ports_eq (by decide),
      by rw [tel]; rfl, by rw [tel]; rfl⟩

theorem State.tel_reach (t : Nat) : (s.reach t).tel = s.tel := (State.reach_within s t).tel_eq (by decide)

/-- The instant of an evaluation noted. -/
def State.evaluatedNow (s : State) : State := { s with tel := { s.tel with evalAt := s.now } }

theorem State.evaluatedNow_regs : s.evaluatedNow.regs = s.regs := rfl

theorem State.evaluatedNow_ports : s.evaluatedNow.ports = s.ports := rfl

theorem State.evaluatedNow_tel : s.evaluatedNow.tel = { s.tel with evalAt := s.now } := rfl

/-- The next evaluation is one second after the last (R422). -/
def State.secondPassed (s : State) : State := (s.reach (s.tel.evalAt + 1000000000)).evaluatedNow

theorem State.noteInputs_tel : ∃ seen grown,
    s.noteInputs.tel = { s.tel with seen := seen, hist := (grown :: s.tel.hist).take 600 } := by
  unfold State.noteInputs
  exact ⟨_, _, rfl⟩

/-- The inputs of a second join the history (R422). -/
theorem State.secondPassed_noteInputs : s.secondPassed.noteInputs.regs = s.regs ∧ s.secondPassed.noteInputs.ports = s.ports
    ∧ s.secondPassed.noteInputs.tel.hist.length = min 600 (s.tel.hist.length + 1)
    ∧ s.secondPassed.noteInputs.tel.isolated = s.tel.isolated := by
  have noted := State.noteInputs_within s.secondPassed
  obtain ⟨seen, grown, tel⟩ := State.noteInputs_tel (s := s.secondPassed)
  rw [noted.regs_eq (by decide), noted.ports_eq (by decide), tel, State.secondPassed, State.evaluatedNow_tel,
    State.evaluatedNow_regs, State.evaluatedNow_ports, State.tel_reach, State.reach_regs,
    (State.reach_within s _).ports_eq (by decide)]
  exact ⟨rfl, rfl, List.length_take, rfl⟩

/-- Every part scored. -/
def State.scored (s : State) (tot : Tbl Nat) : State := forEach (fun k (s : State) => s.evaluatePart tot k) healthParts s

theorem State.scored_graded (tot : Tbl Nat) : Graded s (s.scored tot) :=
  Graded.each (fun _ => True) (fun _ _ _ _ => trivial) (fun k s _ => State.evaluatePart_graded tot k s) _ _ trivial

/-- The expulsions older than an hour forgotten. -/
def State.forgetExpulsions (s : State) : State := { s with tel := { s.tel with expulsions := s.expHour } }

theorem State.forgetExpulsions_graded : Graded s s.forgetExpulsions := ⟨rfl, rfl, rfl, rfl⟩

/-- The parts that wait allowed or flagged. -/
def State.waitersAllowed (s : State) : State := forEach (fun k (s : State) => s.allowPart k) s.waitingParts s

theorem State.waitersAllowed_graded (none : s.fld R.TEL_HEALTH_CFG 31 28 = 0) : Graded s s.waitersAllowed :=
  Graded.each (fun t => t.fld R.TEL_HEALTH_CFG 31 28 = 0) (fun _ _ h k => (State.fld_of_regs k.regs _ _ _).trans h)
    (fun k _ h => State.allowPart_graded h k) _ _ none

theorem exec_healthEvaluate_nil (on : s.on 2 = true) : exec (.healthEvaluate []) s
    = .next (s.secondPassed.noteInputs.scored
        (sumHistory s.secondPassed.noteInputs.tel.hist)).forgetExpulsions.waitersAllowed := by
  change execHealthEvaluate [] s = _
  rw [execHealthEvaluate, if_neg (by simp [on])]
  dsimp only [forEach]
  rw [State.waitersAllowed, State.forgetExpulsions, State.scored, State.secondPassed, State.evaluatedNow]

theorem healthEvaluate_gives (on : s.on 2 = true) (none : s.fld R.TEL_HEALTH_CFG 31 28 = 0) :
    Gives (.healthEvaluate []) s (fun t => t.tel.hist.length = min 600 (s.tel.hist.length + 1)
      ∧ t.tel.isolated = s.tel.isolated ∧ t.ports = s.ports) := by
  obtain ⟨regs, ports, hist, isolated⟩ := State.secondPassed_noteInputs (s := s)
  have scored := ((State.scored_graded (s := s.secondPassed.noteInputs)
    (sumHistory s.secondPassed.noteInputs.tel.hist)).trans State.forgetExpulsions_graded)
  have all := scored.trans (State.waitersAllowed_graded
    ((State.fld_of_regs (scored.regs.trans regs) R.TEL_HEALTH_CFG 31 28).trans none))
  exact ⟨_, exec_healthEvaluate_nil on, (congrArg List.length all.hist).trans hist, all.isolated.trans isolated,
    all.ports.trans ports⟩

/-- Settles O55. -/
theorem scoresRiseAtOnceAndFallSlowly : Obligations.ScoresRiseAtOnceAndFallSlowly := by
  refine ⟨State.rawScore_le, fun x raw now => Part.publish_score_of_le now, fun x raw now lt => ?_,
    fun x raw now => Part.publish_bounds, fun s tot k wf => ?_, fun s => healthEvaluate_gives⟩
  · rw [Part.publish_score_of_lt now lt]
    omega
  · rw [State.part_evaluatePart wf]
    exact ⟨State.evaluated_score tot k, State.evaluated_st tot k⟩

end Sys2Proof.Machine

/-!
PROOFS. TB0's states, the first-lock step and the rate (R345 to R347).
-/
namespace Sys2Proof.Machine

variable {s : State}

/-! ## The first-lock step (R346, R348) -/

/-- TB0 moved by a number of nanoseconds, with the instants that are kept in it. -/
def State.steppedBy (s : State) (d : Int) : State :=
  { s with
    clk := { s.clk with tb0Off := s.clk.tb0Off + d },
    tab := { s.tab with lastEpoch := s.tab.lastEpoch.map fun (n : Nat) => ((n : Int) + d).toNat },
    prism := { s.prism with retuneEnd := s.prism.retuneEnd.map fun (n : Nat) => ((n : Int) + d).toNat, slot := none },
    tel := { s.tel with cur := s.tel.cur.map (fun (c : Snap) => { c with target := ((c.target : Int) + d).toNat }),
                        req := s.tel.req.map fun (n : Nat) => ((n : Int) + d).toNat,
                        lastTarget := s.tel.lastTarget.map fun (n : Nat) => ((n : Int) + d).toNat,
                        causes := s.tel.causes ++ [(2, none)] },
    timing := { s.timing with stepped := true, setPending := false } }

/-- What starts anew from the stepped time. -/
def State.restarted (s : State) : State :=
  { s with
    tel := { s.tel with periodicFrom := s.tb0 }, macs := restamp s.tb0Sec s.macs,
    prism := { s.prism with frameFrom := boundaryFrom s.slotNs (s.tb0 + s.gPkt) } }

theorem State.firstLock_eq (t : Int) : s.firstLock t
    = (s.accountPlanes.steppedBy (t - s.accountPlanes.tb0)).restarted.retimeCommit.timeTo .locked := by
  unfold State.firstLock
  extract_lets s1 d rebase _ _ _ _ _ s2 _ _ s3
  have moved : s2 = s1.steppedBy d := rfl
  have anew : s3 = s2.restarted := rfl
  rw [anew, moved]

theorem State.restarted_within (s : State) : Within 12584960 s s.restarted := by
  unfold State.restarted
  exact Within.upd_prism_macs_tel rfl (Within.refl _ _)

theorem State.restarted_macs : s.restarted.macs = restamp s.tb0Sec s.macs := rfl

theorem State.steppedBy_clk (d : Int) : (s.steppedBy d).clk = { s.clk with tb0Off := s.clk.tb0Off + d } := rfl

theorem State.steppedBy_timing (d : Int) :
    (s.steppedBy d).timing = { s.timing with stepped := true, setPending := false } := rfl

theorem State.steppedBy_macs (d : Int) : (s.steppedBy d).macs = s.macs := rfl

theorem State.timeTo_clk (st : TimeState) : (s.timeTo st).clk = s.clk := (State.timeTo_within _ _).clk_eq (by decide)

theorem State.timeEvent_timing (sev what : Nat) (offset : Int) : (s.timeEvent sev what offset).timing = s.timing :=
  (State.timeEvent_within _ _ _ _).timing_eq (by decide)

theorem State.timeTo_timing (st : TimeState) : (s.timeTo st).timing = { s.timing with st := st, recent := [] } :=
  State.timeEvent_timing _ _ _

/-- What the first-lock step leaves of the clock, of the states of TB0 and of the learned stamps. -/
theorem State.firstLock_gives (zero : (0 : Int) ≤ s.clk.now + s.clk.tb0Off) (t : Int) :
    (s.firstLock t).now = s.now ∧ (s.firstLock t).tb0 = t.toNat
      ∧ (s.firstLock t).timing = { s.timing with st := .locked, recent := [], stepped := true, setPending := false }
      ∧ (s.firstLock t).macs = restamp (s.firstLock t).tb0Sec s.macs := by
  have accounted := State.accountPlanes_within s
  have clk : (s.firstLock t).clk
      = { s.clk with tb0Off := s.clk.tb0Off + (t - ((s.clk.now + s.clk.tb0Off).toNat : Int)) } := by
    rw [State.firstLock_eq, State.timeTo_clk, (State.retimeCommit_within _).clk_eq (by decide), (State.restarted_within _).clk_eq (by decide),
      State.steppedBy_clk, State.tb0, accounted.clk_eq (by decide)]
  have time : (s.accountPlanes.steppedBy (t - s.accountPlanes.tb0)).tb0 = (s.firstLock t).tb0 := by
    rw [State.tb0, State.steppedBy_clk, State.tb0, accounted.clk_eq (by decide), State.tb0, clk]
  refine ⟨?_, ?_, ?_, ?_⟩
  · rw [State.now, clk]
  · rw [State.tb0, clk]
    dsimp only
    omega
  · rw [State.firstLock_eq, State.timeTo_timing, (State.retimeCommit_within _).timing_eq (by decide), 
      (State.restarted_within _).timing_eq (by decide),
      State.steppedBy_timing, accounted.timing_eq (by decide)]
  · rw [State.tb0Sec, ← time, ← State.tb0Sec]
    rw [State.firstLock_eq, (State.timeTo_within _ _).macs_eq (by decide), (State.retimeCommit_within _).macs_eq (by decide),
      State.restarted_macs, State.steppedBy_macs, accounted.macs_eq (by decide)]

/-! ## Measurements (R346, R347) -/

/-- An offset noted. -/
def State.offsetNoted (s : State) (o : Int) : State :=
  { s with timing := { s.timing with lastOffset := o, lastMeas := some s.now, recent := (o :: s.timing.recent).take 16 } }

theorem State.measured_eq (o : Int) (source : s.timeSrc ≠ 0) : s.measured o = match s.timing.st with
    | .unset => { (s.offsetNoted o).timeTo .acquiring with
                  timing := { ((s.offsetNoted o).timeTo .acquiring).timing with recent := [o] } }
    | .acquiring => if agree16 (s.offsetNoted o).timing.recent ∧ (s.offsetNoted o).timeSrc ≠ 3 then
        (s.offsetNoted o).firstLock ((s.offsetNoted o).tb0 + o) else s.offsetNoted o
    | .locked => (s.offsetNoted o).correctRate.bigOffset o
    | .holdover => (if agree16 (s.offsetNoted o).timing.recent then ((s.offsetNoted o).timeTo .locked).correctRate
        else s.offsetNoted o).bigOffset o := by
  rw [State.measured, if_neg source]
  rfl

theorem State.bigOffset_clk (o : Int) : (s.bigOffset o).clk = s.clk := (State.bigOffset_within _ _).clk_eq (by decide)

theorem State.bigOffset_st (o : Int) : (s.bigOffset o).timing.st = s.timing.st := by
  unfold State.bigOffset
  extract_lets due
  split
  · rw [State.timeEvent_timing]
  · rfl

theorem State.correctRate_timing : s.correctRate.timing = s.timing := rfl

/-- A correction of the rate keeps the instant and TB0, and stays within the bound (R347). -/
theorem State.correctRate_clk : ∃ adj : Int, s.correctRate.clk = { s.clk with adj := adj } ∧ -s.rateBound ≤ adj
    ∧ adj ≤ s.rateBound := by
  have positive : 0 ≤ s.rateBound := Int.natCast_nonneg _
  exact ⟨_, rfl, Int.le_max_left _ _, Int.max_le.mpr ⟨by omega, Int.min_le_left _ _⟩⟩

theorem timeMeasurement_unset {o : Int} (source : s.timeSrc ≠ 0) (st : s.timing.st = .unset) :
    Gives (.timeMeasurement o) s (fun t => t.timing.st = .acquiring ∧ t.timing.recent = [o] ∧ t.clk = s.clk
      ∧ t.timing.stepped = s.timing.stepped) := by
  refine ⟨s.measured o, rfl, ?_⟩
  rw [State.measured_eq o source, st]
  dsimp only
  rw [State.timeTo_timing, State.timeTo_clk]
  exact ⟨rfl, rfl, rfl, rfl⟩

theorem timeMeasurement_acquiring (zero : (0 : Int) ≤ s.clk.now + s.clk.tb0Off) {o : Int} (source : s.timeSrc ≠ 0)
    (ownStep : s.timeSrc ≠ 3) (st : s.timing.st = .acquiring) (agree : agree16 ((o :: s.timing.recent).take 16) = true) :
    Gives (.timeMeasurement o) s (fun t => t.timing.st = .locked ∧ t.timing.stepped = true
      ∧ t.tb0 = (s.tb0 + o).toNat ∧ t.now = s.now) := by
  obtain ⟨now, tb0, timing, -⟩ := State.firstLock_gives (s := s.offsetNoted o) zero ((s.offsetNoted o).tb0 + o)
  have e : s.measured o = (s.offsetNoted o).firstLock ((s.offsetNoted o).tb0 + o) := by
    rw [State.measured_eq o source, st]
    exact if_pos ⟨agree, ownStep⟩
  refine ⟨_, congrArg Host.Outcome.next e, ?_⟩
  dsimp only
  rw [timing]
  exact ⟨rfl, rfl, tb0, now⟩

theorem timeMeasurement_locked {o : Int} (source : s.timeSrc ≠ 0) (st : s.timing.st = .locked) :
    Gives (.timeMeasurement o) s (fun t => t.timing.st = .locked ∧ t.tb0 = s.tb0
      ∧ -(s.rateBound) ≤ t.clk.adj ∧ t.clk.adj ≤ s.rateBound) := by
  obtain ⟨adj, clk, low, high⟩ := State.correctRate_clk (s := s.offsetNoted o)
  have e : s.measured o = (s.offsetNoted o).correctRate.bigOffset o := by rw [State.measured_eq o source, st]
  refine ⟨_, congrArg Host.Outcome.next e, ?_⟩
  dsimp only
  rw [State.bigOffset_st, State.correctRate_timing, State.tb0, State.bigOffset_clk, clk]
  exact ⟨st, rfl, low, high⟩

theorem timeMeasurement_holdover {o : Int} (source : s.timeSrc ≠ 0) (st : s.timing.st = .holdover) :
    Gives (.timeMeasurement o) s (fun t => t.tb0 = s.tb0
      ∧ t.timing.st = if agree16 ((o :: s.timing.recent).take 16) = true then .locked else .holdover) := by
  obtain ⟨adj, clk, -, -⟩ := State.correctRate_clk (s := (s.offsetNoted o).timeTo .locked)
  have e : s.measured o = (if agree16 (s.offsetNoted o).timing.recent then ((s.offsetNoted o).timeTo .locked).correctRate
      else s.offsetNoted o).bigOffset o := by rw [State.measured_eq o source, st]
  refine ⟨_, congrArg Host.Outcome.next e, ?_⟩
  dsimp only
  rw [State.tb0, State.bigOffset_clk, State.bigOffset_st]
  by_cases agree : agree16 ((o :: s.timing.recent).take 16) = true
  · have agree' : agree16 (s.offsetNoted o).timing.recent = true := agree
    rw [if_pos agree, if_pos agree', clk, State.correctRate_timing, State.timeTo_timing, State.timeTo_clk]
    exact ⟨rfl, rfl⟩
  · have differ : ¬ agree16 (s.offsetNoted o).timing.recent = true := agree
    rw [if_neg agree, if_neg differ]
    exact ⟨rfl, st⟩

/-! ## The source is lost (R346) -/

theorem State.clk_reach (t : Nat) : (s.reach t).clk = { s.clk with now := max s.now t } := by
  rw [State.reach_eq_spanned]
  exact (State.alertStep_within _).clk_eq (by decide)

theorem timeSourceTimeout_acquiring {t0 : Nat} (last : s.timing.lastMeas = some t0) (st : s.timing.st = .acquiring) :
    Gives .timeSourceTimeout s (fun t => t.timing.st = .unset ∧ t.now = max s.now (t0 + 2000000000)) := by
  have e : exec .timeSourceTimeout s = .next ((s.reach (t0 + 2000000000)).timeTo .unset) := by
    change execTimeSourceTimeout s = _
    rw [execTimeSourceTimeout, last, st]
  refine ⟨_, e, ?_, ?_⟩
  · rw [State.timeTo_timing]
  · rw [State.now, State.timeTo_clk, State.clk_reach]

theorem timeSourceTimeout_locked {t0 : Nat} (last : s.timing.lastMeas = some t0) (st : s.timing.st = .locked)
    (source : s.timeSrc ≠ 0) : Gives .timeSourceTimeout s (fun t => t.timing.st = .holdover
      ∧ t.now = max s.now (t0 + 2000000000) ∧ t.clk.adj = s.clk.adj) := by
  have e : exec .timeSourceTimeout s = .next ((s.reach (t0 + 2000000000)).timeTo .holdover) := by
    change execTimeSourceTimeout s = _
    rw [execTimeSourceTimeout, last, st]
    exact if_neg source
  refine ⟨_, e, ?_⟩
  dsimp only
  rw [State.timeTo_timing, State.now, State.timeTo_clk, State.clk_reach]
  exact ⟨rfl, rfl, rfl⟩

/-! ## 1PPS edges and SET_CMD (R346, R356) -/

theorem exec_ppsEdge_of_step {ref10 : Bool} (source : s.timeSrc = 3) (pending : s.timing.setPending = true)
    (st : s.timing.st = .acquiring) (agree : agree16 s.timing.recent = true) :
    exec (.ppsEdge ref10) s = .next ((s.notePps ref10).firstLock s.setTime) := if_pos ⟨source, pending, st, agree⟩

theorem exec_ppsEdge_of_other {ref10 : Bool} (source : s.timeSrc ≠ 3) :
    exec (.ppsEdge ref10) s = .next (s.notePps ref10) := if_neg (fun h => source h.1)

theorem State.notePps_ok {ref10 : Bool} {t0 : Nat} (last : s.timing.ppsAt = some t0) :
    ((s.notePps ref10).timing.ppsOk = true ↔ 999999000 ≤ s.now - t0 ∧ s.now - t0 ≤ 1000001000) := by
  unfold State.notePps
  rw [last]
  exact decide_eq_true_iff

/-! ## Copies (R345) -/

theorem tb0Realign_gives {island : Fin 112} {err : Int} (ahead : 0 < err) :
    Gives (.tb0Realign island err) s (fun t => t.clk = s.clk
      ∧ Tbl.get (fun _ => 0) t.timing.holding island = s.now + err.toNat
      ∧ t.tel.causes = (if 20 < err then s.tel.causes ++ [(0, some island.val)] else s.tel.causes)) := by
  have held : Tbl.get (fun _ => 0) (Tbl.put (fun _ => 0) s.timing.holding island (s.now + err.toNat)) island
      = s.now + err.toNat := Tbl.get_put_of_ne_default _ _ (by omega)
  change ∃ t, execTb0Realign island err s = _ ∧ _
  rw [execTb0Realign, if_pos ahead]
  dsimp only
  by_cases far : 20 < err
  · rw [if_pos (by omega), if_pos far]
    refine ⟨_, rfl, ?_⟩
    rw [(State.raise_within _ _).clk_eq (by decide), (State.raise_within _ _).timing_eq (by decide),
      (State.raise_within _ _).tel_eq (by decide)]
    exact ⟨rfl, held, rfl⟩
  · rw [if_neg (by omega), if_neg far]
    exact ⟨_, rfl, rfl, held, rfl⟩

/-- Settles O47. -/
theorem timeStepsOnceAndThenRunsByRate : Obligations.TimeStepsOnceAndThenRunsByRate := by
  refine fun s _ zero => ⟨fun o => timeMeasurement_unset, fun o => timeMeasurement_acquiring zero,
    fun o => timeMeasurement_locked, fun o => timeMeasurement_holdover, fun t0 => timeSourceTimeout_acquiring,
    fun t0 => timeSourceTimeout_locked, fun ref10 source => ?_, fun ref10 source pending st agree => ?_,
    fun on unset source => ?_, fun on unset source => ?_, fun on stepped => ?_, fun island err => tb0Realign_gives⟩
  · exact ⟨_, exec_ppsEdge_of_other source, (State.notePps_within s ref10).only fun p hp => by revert hp; cases p <;> decide,
      rfl, rfl, rfl, fun t0 last => State.notePps_ok last⟩
  · obtain ⟨-, tb0, timing, -⟩ := State.firstLock_gives (s := s.notePps ref10) zero s.setTime
    refine ⟨_, exec_ppsEdge_of_step source pending st agree, ?_⟩
    dsimp only
    rw [timing]
    exact ⟨rfl, rfl, tb0, rfl⟩
  · obtain ⟨now, tb0, timing, macs⟩ := State.firstLock_gives zero s.setTime
    have e : exec .timeSet s = .next (s.firstLock s.setTime) := by
      change execTimeSet s = _
      rw [execTimeSet, State.gate_on on, unset, if_neg (by decide), if_pos source]
    refine ⟨_, e, ?_⟩
    dsimp only
    rw [timing]
    exact ⟨rfl, rfl, tb0, now, macs⟩
  · change execTimeSet s = _
    rw [execTimeSet, State.gate_on on, unset, if_neg (by decide), if_neg (by omega), if_pos source]
  · have e : exec .timeSet s = .next (s.timeEvent 1 3 s.timing.lastOffset) := by
      change execTimeSet s = _
      rw [execTimeSet, State.gate_on on, stepped, if_pos rfl]
    exact ⟨_, e, (State.timeEvent_within _ _ _ _).only fun p hp => by revert hp; cases p <;> decide⟩

end Sys2Proof.Machine

/-!
PROOFS. TIME packets, and PTP on the management port (R351, R353).
-/
namespace Sys2Proof.Machine

variable {s : State}

/-! ## Entries of a table -/

theorem Tbl.lt_of_mem_wfFrom {α : Type} [DecidableEq α] {d : Nat → α} {k : Nat} {v : α} : ∀ {t : Tbl α} {lo : Nat},
    Tbl.wfFrom d (some lo) t = true → (k, v) ∈ t → lo < k
  | (j, w) :: t, lo, h, mem => by
    obtain ⟨above, -, rest⟩ := Tbl.wfFrom_cons.mp h
    have first : lo < j := of_decide_eq_true above
    cases mem with
    | head => exact first
    | tail _ mem => exact Nat.lt_trans first (Tbl.lt_of_mem_wfFrom rest mem)

theorem Tbl.get_of_mem_wfFrom {α : Type} [DecidableEq α] {d : Nat → α} {k : Nat} {v : α} : ∀ {t : Tbl α} {lo : Option Nat},
    Tbl.wfFrom d lo t = true → (k, v) ∈ t → Tbl.get d t k = v
  | (j, w) :: t, lo, h, mem => by
    obtain ⟨-, -, rest⟩ := Tbl.wfFrom_cons.mp h
    cases mem with
    | head => exact if_pos rfl
    | tail _ mem =>
      have above : j < k := Tbl.lt_of_mem_wfFrom rest mem
      rw [Tbl.get, if_neg (by omega), if_neg (by omega), Tbl.get_of_mem_wfFrom rest mem]

/-- A canonical table reads as what it lists. -/
theorem Tbl.get_of_mem {α : Type} [DecidableEq α] {d : Nat → α} {k : Nat} {v : α} {t : Tbl α} (h : Tbl.wf d t = true)
    (mem : (k, v) ∈ t) : Tbl.get d t k = v := Tbl.get_of_mem_wfFrom h mem

/-! ## TIME packets (R351) -/

theorem State.timePorts_ffp (h : s.canonical = true) {p : Nat} (mem : p ∈ s.timePorts) : (s.port p).eth = false := by
  obtain ⟨⟨k, x⟩, listed, rfl⟩ := List.mem_map.mp mem
  obtain ⟨listed, picked⟩ := List.mem_filter.mp listed
  have same : s.port k = x := Tbl.get_of_mem (State.canonical.ports h) listed
  simp only [Bool.and_eq_true, Bool.not_eq_true'] at picked
  rw [same]
  exact picked.1.2

theorem State.sendLocal_ports (p : Nat) (pkt : Packet) : (s.sendLocal p pkt).ports = s.ports :=
  (State.sendLocal_within _ _ _).ports_eq (by decide)

theorem State.sendLocal_timePacket (p : Nat) (pkt : Packet) : (s.sendLocal p pkt).timePacket = s.timePacket := by
  have clk : (s.sendLocal p pkt).clk = s.clk := (State.sendLocal_within _ _ _).clk_eq (by decide)
  simp only [State.timePacket, State.tb0Sec, State.tb0Frac, State.tb0Ns, State.tb0, clk]

/-- TIME packets sent on ports that run FFP go out on each of them. -/
theorem State.out_sendTimes : ∀ (l : List Nat) (s : State), (∀ p ∈ l, (s.port p).eth = false) →
    (forEach (fun p (s : State) => s.sendLocal p s.timePacket) l s).out
      = (l.map (fun p => Out.linkLocal p s.timePacket)).reverse ++ s.out
  | [], _, _ => rfl
  | p :: l, s, ffp => by
    have first : (s.port p).eth = false := ffp p List.mem_cons_self
    have sent : (s.sendLocal p s.timePacket).out = .linkLocal p s.timePacket :: s.out := by
      rw [State.sendLocal, first]
      rfl
    have rest (q : Nat) (mem : q ∈ l) : ((s.sendLocal p s.timePacket).port q).eth = false := by
      rw [State.port, State.sendLocal_ports]
      exact ffp q (List.mem_cons_of_mem _ mem)
    rw [forEach, State.out_sendTimes l _ rest, sent, State.sendLocal_timePacket, List.map_cons, List.reverse_cons,
      List.append_assoc, List.singleton_append]

theorem timePacketTimer_gives (h : s.canonical = true) (st : s.timing.st = .locked ∨ s.timing.st = .holdover)
    (every : s.fld R.TIM_CTRL 15 0 ≠ 0) : Gives .timePacketTimer s (fun t => Only [.cnt, .out] s t
      ∧ t.out = (s.timePorts.map (fun p => Out.linkLocal p s.timePacket)).reverse ++ s.out) := by
  have e : exec .timePacketTimer s = .next (forEach (fun p (s : State) => s.sendLocal p s.timePacket) s.timePorts s) := by
    change execTimePacketTimer s = _
    refine if_neg ?_
    rintro (zero | other | other)
    · exact every zero
    · simp [other] at st
    · simp [other] at st
  have sent : Within 4294967300 s (forEach (fun p (s : State) => s.sendLocal p s.timePacket) s.timePorts s) :=
    Within.stepEach (fun p s => State.sendLocal_within s p _) (Within.refl _ _)
  exact ⟨_, e, sent.only fun p hp => by revert hp; cases p <;> decide,
    State.out_sendTimes _ _ fun p mem => State.timePorts_ffp h mem⟩

/-! ## Messages (R353) -/

section
variable {m : PtpMsg} (on : s.on 2 = true) (domain : m.domain = min 127 (s.fld R.TIM_CTRL 23 16))
include on domain

/-- A message of the clock's domain is processed by its kind. -/
theorem execPtpMessageReceive_of_domain : execPtpMessageReceive m s = match m.kind with
    | .announce => ok (s.announced m)
    | .delayReq => if s.timing.ptp.st = .master then ok (s.emit (.ptp 9 m.seq s.rxStamp.toNat)) else ok s
    | .sync =>
      if s.timing.ptp.st ≠ .slave ∨ m.source ≠ s.timing.ptp.source then ok s
      else ok (s.setPtp { s.timing.ptp with syncSeq := m.seq, t2 := some s.rxStamp, corr := m.corr,
                                            t1 := if m.twoStep then none else some (m.time + m.corr) })
    | .followUp =>
      if s.timing.ptp.st ≠ .slave ∨ m.source ≠ s.timing.ptp.source ∨ m.seq ≠ s.timing.ptp.syncSeq ∨ s.timing.ptp.t2.isNone
        then ok s
      else ok (s.setPtp { s.timing.ptp with t1 := some (m.time + s.timing.ptp.corr + m.corr) })
    | .delayResp =>
      if s.timing.ptp.st ≠ .slave ∨ m.source ≠ s.timing.ptp.source ∨ m.seq ≠ s.timing.ptp.reqSeq ∨ m.mine = false then ok s
      else ok (s.exchanged (m.time - m.corr)) := by
  rw [execPtpMessageReceive, on, domain]
  exact if_neg (by simp)

theorem exec_ptpMessageReceive_announce (kind : m.kind = .announce) :
    exec (.ptpMessageReceive m) s = .next (s.announced m) := by
  change execPtpMessageReceive m s = _
  rw [execPtpMessageReceive_of_domain on domain, kind]

theorem exec_ptpMessageReceive_sync (kind : m.kind = .sync) (oneStep : m.twoStep = false) (st : s.timing.ptp.st = .slave)
    (source : m.source = s.timing.ptp.source) : exec (.ptpMessageReceive m) s
      = .next (s.setPtp { s.timing.ptp with syncSeq := m.seq, t2 := some s.rxStamp, corr := m.corr,
                                            t1 := some (m.time + m.corr) }) := by
  change execPtpMessageReceive m s = _
  rw [execPtpMessageReceive_of_domain on domain, kind]
  dsimp only
  rw [if_neg (by simp [st, source]), oneStep]
  rfl

theorem exec_ptpMessageReceive_followUp (kind : m.kind = .followUp) (st : s.timing.ptp.st = .slave)
    (source : m.source = s.timing.ptp.source) (seq : m.seq = s.timing.ptp.syncSeq) {x : Int} (t2 : s.timing.ptp.t2 = some x) :
    exec (.ptpMessageReceive m) s
      = .next (s.setPtp { s.timing.ptp with t1 := some (m.time + s.timing.ptp.corr + m.corr) }) := by
  change execPtpMessageReceive m s = _
  rw [execPtpMessageReceive_of_domain on domain, kind]
  exact if_neg (by simp [st, source, seq, t2])

theorem exec_ptpMessageReceive_delayResp (kind : m.kind = .delayResp) (st : s.timing.ptp.st = .slave)
    (source : m.source = s.timing.ptp.source) (seq : m.seq = s.timing.ptp.reqSeq) (mine : m.mine = true) :
    exec (.ptpMessageReceive m) s = .next (s.exchanged (m.time - m.corr)) := by
  change execPtpMessageReceive m s = _
  rw [execPtpMessageReceive_of_domain on domain, kind]
  exact if_neg (by simp [st, source, seq, mine])

theorem exec_ptpMessageReceive_delayReq (kind : m.kind = .delayReq) (st : s.timing.ptp.st = .master) :
    exec (.ptpMessageReceive m) s = .next { s with out := .ptp 9 m.seq s.rxStamp.toNat :: s.out } := by
  change execPtpMessageReceive m s = _
  rw [execPtpMessageReceive_of_domain on domain, kind]
  exact if_pos st

end

theorem State.follow_ptp (m : PtpMsg) : (s.follow m).timing.ptp.st = .slave ∧ (s.follow m).timing.ptp.source = m.source
    ∧ (s.follow m).timing.ptp.rank = m.rank ∧ (s.follow m).timing.ptpOk = false := ⟨rfl, rfl, rfl, rfl⟩

theorem State.announced_of_listening {m : PtpMsg} (st : s.timing.ptp.st = .listening) (only : s.slaveOnly = true) :
    s.announced m = s.follow m := by
  rw [State.announced, st]
  exact if_pos (by rw [only, Bool.true_or])

theorem State.announced_of_better {m : PtpMsg} (st : s.timing.ptp.st = .slave) (other : m.source ≠ s.timing.ptp.source)
    (better : m.rank < s.timing.ptp.rank) : s.announced m = s.follow m := by
  rw [State.announced, st]
  dsimp only
  rw [if_neg other, if_pos better]

/-- The state of a whole exchange, before its offset is a measurement. -/
def State.exchangeNoted (s : State) (o : Int) : State :=
  { s with timing := { s.timing with ptp := { s.timing.ptp with offset := some o, t3 := none }, ptpOk := true } }

theorem State.exchanged_of_whole {t1 t2 t3 t4 : Int} (h1 : s.timing.ptp.t1 = some t1) (h2 : s.timing.ptp.t2 = some t2)
    (h3 : s.timing.ptp.t3 = some t3) (source : s.timeSrc = 1) : s.exchanged t4
      = (s.exchangeNoted (-(((t2 - t1) - (t4 - t3)) / 2))).measured (-(((t2 - t1) - (t4 - t3)) / 2)) := by
  unfold State.exchanged
  extract_lets p
  split
  case h_1 a b c e1 e2 e3 =>
    obtain rfl : a = t1 := Option.some.inj (e1.symm.trans h1)
    obtain rfl : b = t2 := Option.some.inj (e2.symm.trans h2)
    obtain rfl : c = t3 := Option.some.inj (e3.symm.trans h3)
    exact if_pos source
  case h_2 none => exact absurd h3 (none t1 t2 t3 h1 h2)

/-- The first measurement of a source (R346). -/
theorem State.measured_timing_of_unset {o : Int} (source : s.timeSrc ≠ 0) (st : s.timing.st = .unset) :
    (s.measured o).timing = { s.timing with st := .acquiring, lastOffset := o, lastMeas := some s.now, recent := [o] } := by
  rw [State.measured_eq o source, st]
  dsimp only
  rw [State.timeTo_timing]
  rfl

theorem delayResp_gives {m : PtpMsg} {t1 t2 t3 : Int} (on : s.on 2 = true)
    (domain : m.domain = min 127 (s.fld R.TIM_CTRL 23 16)) (kind : m.kind = .delayResp) (st : s.timing.ptp.st = .slave)
    (source : m.source = s.timing.ptp.source) (seq : m.seq = s.timing.ptp.reqSeq) (mine : m.mine = true)
    (h1 : s.timing.ptp.t1 = some t1) (h2 : s.timing.ptp.t2 = some t2) (h3 : s.timing.ptp.t3 = some t3)
    (selected : s.timeSrc = 1) (unset : s.timing.st = .unset) :
    Gives (.ptpMessageReceive m) s (fun t => t.timing.ptpOk = true ∧ t.timing.st = .acquiring
      ∧ t.timing.lastOffset = -(((t2 - t1) - (m.time - m.corr - t3)) / 2)) := by
  have e := exec_ptpMessageReceive_delayResp on domain kind st source seq mine
  rw [State.exchanged_of_whole h1 h2 h3 selected] at e
  generalize -(((t2 - t1) - (m.time - m.corr - t3)) / 2) = o at e ⊢
  have noted : (s.exchangeNoted o).timeSrc ≠ 0 := by
    rw [show (s.exchangeNoted o).timeSrc = s.timeSrc from State.fld_of_regs rfl _ _ _, selected]
    decide
  refine ⟨_, e, ?_⟩
  dsimp only
  rw [State.measured_timing_of_unset noted unset]
  exact ⟨rfl, rfl, rfl⟩

/-! ## Timers (R353) -/

theorem execPtpMessageTimer_announceTimeout (on : s.on 2 = true) (st : s.timing.ptp.st ≠ .master) :
    Gives (.ptpMessageTimer .announceTimeout) s (fun t =>
      t.timing.ptp.st = (if s.fld R.TIM_CTRL 29 29 = 1 then .listening else .master) ∧ t.timing.ptpOk = false) := by
  change ∃ t, execPtpMessageTimer .announceTimeout s = _ ∧ _
  rw [execPtpMessageTimer, if_neg (by simp [on])]
  dsimp only
  rw [if_neg st]
  refine ⟨_, rfl, ?_, rfl⟩
  have which : (s.slaveOnly = true) = (s.fld R.TIM_CTRL 29 29 = 1) := by rw [State.slaveOnly, beq_iff_eq]
  simp only [State.setPtp, which]

theorem execPtpMessageTimer_sync (on : s.on 2 = true) (st : s.timing.ptp.st = .master) :
    Gives (.ptpMessageTimer .sync) s (fun t => t.timing.ptp.seq = (s.timing.ptp.seq + 1) % 65536
      ∧ t.out = .ptp 8 s.timing.ptp.seq s.txStamp.toNat :: .ptp 0 s.timing.ptp.seq 0 :: s.out) := by
  change ∃ t, execPtpMessageTimer .sync s = _ ∧ _
  rw [execPtpMessageTimer, if_neg (by simp [on])]
  dsimp only
  rw [if_neg (by simp [st])]
  exact ⟨_, rfl, rfl, rfl⟩

theorem execPtpMessageTimer_delayReq {t1 : Int} (on : s.on 2 = true) (st : s.timing.ptp.st = .slave)
    (synced : s.timing.ptp.t1 = some t1) : Gives (.ptpMessageTimer .delayReq) s (fun t =>
      t.timing.ptp.t3 = some ((s.tb0 : Int) + s.fld R.TIM_PHY_LAT 31 16)
      ∧ t.out = .ptp 1 ((s.timing.ptp.reqSeq + 1) % 65536) 0 :: s.out) := by
  change ∃ t, execPtpMessageTimer .delayReq s = _ ∧ _
  rw [execPtpMessageTimer, if_neg (by simp [on])]
  dsimp only
  rw [if_neg (by simp [st, synced])]
  exact ⟨_, rfl, rfl, rfl⟩

/-- Settles O49. -/
theorem timePacketsAndPtp : Obligations.TimePacketsAndPtp := by
  refine fun s h => ⟨fun st => if_pos (.inr st), timePacketTimer_gives h, fun m on domain kind st only => ?_,
    fun m on domain kind st other better => ?_, fun m on domain kind oneStep st source => ?_,
    fun m x on domain kind st source seq t2 => ?_, fun m t1 t2 t3 => delayResp_gives,
    fun m => exec_ptpMessageReceive_delayReq, execPtpMessageTimer_announceTimeout, execPtpMessageTimer_sync,
    fun t1 => execPtpMessageTimer_delayReq⟩
  · refine ⟨_, exec_ptpMessageReceive_announce on domain kind, ?_⟩
    rw [State.announced_of_listening st only]
    exact State.follow_ptp m
  · refine ⟨_, exec_ptpMessageReceive_announce on domain kind, ?_⟩
    rw [State.announced_of_better st other better]
    exact ⟨rfl, rfl, rfl⟩
  · exact ⟨_, exec_ptpMessageReceive_sync on domain kind oneStep st source, rfl, rfl⟩
  · exact ⟨_, exec_ptpMessageReceive_followUp on domain kind st source seq t2, rfl, t2⟩

end Sys2Proof.Machine

/-!
PROOFS. Laser records, takeovers and ageing (R306 to R308, R310).
-/
namespace Sys2Proof.Machine

variable {s : State}

/-! ## Counters under events (R372, R431) -/

/-- An event counts itself alone, merged or lost. -/
theorem State.count_raise (h : Tbl.wf (fun _ => 0) s.cnt = true) (e : Ev) {j : Nat} (merged : j ≠ C.HLK_EV_MERGED)
    (lost : j ≠ C.HLK_EV_LOST) : (s.raise e).count j = s.count j := by
  have merge := State.count_bump_ne h 1 merged
  have lose := State.count_bump_ne h 1 lost
  unfold State.raise
  repeat' split
  · exact merge
  · rfl
  · exact lose
  · rfl

theorem State.cnt_raise_wf (h : Tbl.wf (fun _ => 0) s.cnt = true) (e : Ev) : Tbl.wf (fun _ => 0) (s.raise e).cnt = true :=
  (State.raise_preserves s e (.refl s)).cnt h

theorem State.count_of_cnt {t : State} (same : t.cnt = s.cnt) (j : Nat) : t.count j = s.count j := by
  rw [State.count, State.count, same]

theorem State.count_endMaint (h : Tbl.wf (fun _ => 0) s.cnt = true) (a : Activity) (st : Nat) {j : Nat}
    (merged : j ≠ C.HLK_EV_MERGED) (lost : j ≠ C.HLK_EV_LOST) : (s.endMaint a st).count j = s.count j := by
  unfold State.endMaint
  split
  · exact State.count_raise (s := { s with maint := dropActivity a s.maint }) h _ merged lost
  · rfl

/-! ## The laser table -/

theorem State.laser_of_optics {t : State} (same : t.optics = s.optics) (e l : Nat) : t.laser e l = s.laser e l := by
  rw [State.laser, State.laser, same]

theorem State.laser_setLaser_self (h : Tbl.wf laserNew s.optics.lasers = true) (e l : Nat) (x : Laser) :
    (s.setLaser e l x).laser e l = x := Tbl.get_put_self h _ x

theorem State.laser_setLaser_ne (h : Tbl.wf laserNew s.optics.lasers = true) (e : Nat) {l k : Nat} (x : Laser) (ne : k ≠ l) :
    (s.setLaser e l x).laser e k = s.laser e k := Tbl.get_put_ne h x (by omega)

theorem State.setLaser_wf (h : Tbl.wf laserNew s.optics.lasers = true) (e l : Nat) (x : Laser) :
    Tbl.wf laserNew (s.setLaser e l x).optics.lasers = true := Tbl.wf_put h _ _

theorem State.optics_endMaint (a : Activity) (st : Nat) : (s.endMaint a st).optics = s.optics :=
  (State.endMaint_within _ _ _).optics_eq (by decide)

/-! ## Takeovers (R307) -/

theorem State.spare_of_spareOf {e k : Nat} (found : s.spareOf e = some k) : (s.laser e k).st = .spare :=
  beq_iff_eq.mp (List.find?_some found :)

/-- A takeover that starts changes no laser that is no spare, but for its flag. -/
theorem State.laser_startTakeover (h : Tbl.wf laserNew s.optics.lasers = true) (e l : Nat) {k : Nat}
    (busy : (s.laser e k).st ≠ .spare) :
    ((State.startTakeover e l s).laser e k).st = (s.laser e k).st
      ∧ ((State.startTakeover e l s).laser e k).lane = (s.laser e k).lane := by
  unfold State.startTakeover
  split
  · next j found =>
    have other : k ≠ j := fun same => busy (same ▸ State.spare_of_spareOf found)
    have kept := State.laser_setLaser_ne h e { s.laser e j with st := .warming } other
    exact ⟨congrArg Laser.st kept, congrArg Laser.lane kept⟩
  · rw [State.laser_of_optics (State.optics_endMaint _ _)]
    by_cases same : k = l
    · rw [same, State.laser_setLaser_self h]
      exact ⟨rfl, rfl⟩
    · rw [State.laser_setLaser_ne h e _ same]
      exact ⟨rfl, rfl⟩

/-- A takeover that starts with a spare at hand. -/
theorem State.startTakeover_of_spare (h : Tbl.wf laserNew s.optics.lasers = true) {e l k : Nat} (found : s.spareOf e = some k) :
    ((State.startTakeover e l s).laser e k).st = .warming
      ∧ (State.startTakeover e l s).optics.takeovers = s.optics.takeovers ++ [⟨e, l, k, false⟩]
      ∧ (State.startTakeover e l s).maint = s.maint ∧ (State.startTakeover e l s).regs = s.regs := by
  rw [State.startTakeover, found]
  exact ⟨congrArg Laser.st (State.laser_setLaser_self h e k { s.laser e k with st := .warming }), rfl, rfl, rfl⟩

theorem exec_laserTakeoverRequest_of_spare {e : Fin 32} {l : Fin 256} {k lane : Nat}
    (on : s.on (regDomain R.OPT_LASER_CMD) = true) (known : laserKnown e l = true) (st : (s.laser e l).st = .inService)
    (used : (s.laser e l).lane = some lane) (found : s.spareOf e = some k) (free : s.maint = []) :
    exec (.laserTakeoverRequest e l) s
      = .next (State.startTakeover e l ((s.status R.OPT_LASER_STAT 0).holding (.takeover e l))) := by
  have still : (s.status R.OPT_LASER_STAT 0).maint = [] := free
  change execLaserTakeoverRequest e l s = _
  rw [execLaserTakeoverRequest, State.gate_on on, if_neg (by simp [known]), if_neg (by simp [st, used]),
    if_neg (by simp [found]), State.requestMaint_of_nil still]

theorem laserTakeoverRequest_gives (h : s.canonical = true) (wf : Tbl.wf laserNew s.optics.lasers = true) {e : Fin 32}
    {l : Fin 256} {k lane : Nat} (on : s.on (regDomain R.OPT_LASER_CMD) = true) (known : laserKnown e l = true)
    (st : (s.laser e l).st = .inService) (used : (s.laser e l).lane = some lane) (found : s.spareOf e = some k)
    (free : s.maint = []) :
    Gives (.laserTakeoverRequest e l) s (fun t => t.fld R.OPT_LASER_STAT 3 0 = 0 ∧ (t.laser e k).st = .warming
      ∧ t.optics.takeovers = s.optics.takeovers ++ [⟨e, l, k, false⟩] ∧ t.maint = [(.takeover e l, true)]) := by
  have optics : ((s.status R.OPT_LASER_STAT 0).holding (.takeover e l)).optics = s.optics :=
    (State.maintEvent_within _ _ _).optics_eq (by decide)
  have regs := State.regs_holding (s := s.status R.OPT_LASER_STAT 0) (.takeover e l)
  have lock := State.maint_holding (s := s.status R.OPT_LASER_STAT 0) (.takeover e l)
  have told := State.fld_status_self (State.canonical.regs h) R.OPT_LASER_STAT (v := 0) (by decide)
  have run := exec_laserTakeoverRequest_of_spare on known st used found free
  generalize (s.status R.OPT_LASER_STAT 0).holding (.takeover e l) = g at optics regs lock run
  have found' : g.spareOf e = some k := by
    rw [← found]
    simp only [State.spareOf, State.laser_of_optics optics]
  obtain ⟨warming, takeovers, maint, kept⟩ := State.startTakeover_of_spare (l := l.val) (by rw [optics]; exact wf) found'
  exact ⟨_, run, (State.fld_of_regs (kept.trans regs) _ _ _).trans told, warming, by rw [takeovers, optics], maint.trans lock⟩

theorem exec_spareWarmDone_of_locked {e : Fin 18} {l : Fin 256} {x : Takeover} (found : s.takeoverOf e l = some x)
    (early : x.ready = false) : exec (.spareWarmDone e l true) s
      = .next { s.dropTakeover e l with
          optics := { (s.dropTakeover e l).optics with
            takeovers := (s.dropTakeover e l).optics.takeovers ++ [{ x with ready := true }] } } := by
  change execSpareWarmDone e l true s = _
  rw [execSpareWarmDone, found]
  exact (if_neg (by simp [early])).trans (if_pos rfl)

/-- The spare of a takeover that did not lock (R307). -/
def State.spareFailed (s : State) (e l k : Nat) : State := (s.dropTakeover e l).setLaser e k { s.laser e k with st := .failed }

theorem exec_spareWarmDone_of_unlocked {e : Fin 18} {l : Fin 256} {x : Takeover} (found : s.takeoverOf e l = some x)
    (early : x.ready = false) : exec (.spareWarmDone e l false) s
      = .next (State.startTakeover e l (s.spareFailed e l x.spare)) := by
  change execSpareWarmDone e l false s = _
  rw [execSpareWarmDone, found]
  exact (if_neg (by simp [early])).trans (if_neg (by decide))

theorem spareWarmDone_gives (wf : Tbl.wf laserNew s.optics.lasers = true) {e : Fin 18} {l : Fin 256} {x : Takeover}
    (found : s.takeoverOf e l = some x) (early : x.ready = false) :
    Gives (.spareWarmDone e l true) s (fun t => t.optics.lasers = s.optics.lasers ∧ t.optics.takeovers
        = s.optics.takeovers.filter (fun y => !(y.engine == e.val && y.old == l.val)) ++ [{ x with ready := true }])
      ∧ Gives (.spareWarmDone e l false) s (fun t => (t.laser e x.spare).st = .failed) := by
  refine ⟨⟨_, exec_spareWarmDone_of_locked found early, rfl, rfl⟩, _, exec_spareWarmDone_of_unlocked found early, ?_⟩
  have wf' : Tbl.wf laserNew (s.dropTakeover e l).optics.lasers = true := wf
  have failed : (s.spareFailed e l x.spare).laser e x.spare = { s.laser e x.spare with st := .failed } :=
    State.laser_setLaser_self wf' _ _ _
  have out := State.laser_startTakeover (State.setLaser_wf wf' e x.spare { s.laser e x.spare with st := .failed }) e l
    (k := x.spare) (by rw [← State.spareFailed, failed]; exact LaserState.noConfusion)
  rw [← State.spareFailed, failed] at out
  exact out.1

/-! ## The switch (R307 steps 4 to 6) -/

/-- The spare in service on the lane of the laser that it replaces, which is RETIRED. -/
def State.lasersSwitched (s : State) (e l k : Nat) : State :=
  ((s.dropTakeover e l).setLaser e k { s.laser e k with st := .inService, lane := (s.laser e l).lane }).setLaser e l
    { s.laser e l with st := .retired, lane := none, flagged := false }

/-- The switch told, counted, and its lock released. -/
def State.switchTold (s : State) (e l k : Nat) : State :=
  (((s.lasersSwitched e l k).raise { code := 0x0604, sev := 0, kind := 0x0B, index := e * 256 + l, arg0 := k, arg1 := 0 }).bump
    C.OPT_TAKEOVERS 1).endMaint (.takeover e l) 2

/-- A lane that its laser's failure took out may retrain (R308). -/
def State.laneBack (s : State) (e lane : Nat) : State :=
  (s.setPort (lanePort e lane) { s.port (lanePort e lane) with
    laserOut := lanesMinus (s.port (lanePort e lane)).laserOut (2 ^ (lane % 2)) }).beginTraining (lanePort e lane)

theorem exec_takeoverSwitch_of_ready {e : Fin 18} {l : Fin 256} {x : Takeover} {lane : Nat}
    (found : s.takeoverOf e l = some x) (ready : x.ready = true) (used : (s.laser e l).lane = some lane) :
    exec (.takeoverSwitch e l) s = .next ((s.switchTold e l x.spare).laneBack e lane) := by
  change execTakeoverSwitch e l s = _
  unfold State.switchTold State.lasersSwitched
  rw [execTakeoverSwitch, found]
  dsimp only
  rw [if_neg (by simp [ready]), used]
  rfl

theorem State.laneBack_optics (e lane : Nat) : (s.laneBack e lane).optics = s.optics :=
  (State.beginTraining_within _ _).optics_eq (by decide)

theorem State.laneBack_cnt (e lane : Nat) : (s.laneBack e lane).cnt = s.cnt :=
  (State.beginTraining_within _ _).cnt_eq (by decide)

theorem State.switchTold_optics (e l k : Nat) : (s.switchTold e l k).optics = (s.lasersSwitched e l k).optics := by
  rw [State.switchTold, State.optics_endMaint]
  exact (State.raise_within _ _).optics_eq (by decide)

theorem State.count_switchTold (h : Tbl.wf (fun _ => 0) s.cnt = true) (e l k : Nat) :
    (s.switchTold e l k).count C.OPT_TAKEOVERS = (s.count C.OPT_TAKEOVERS + 1) % 2 ^ 64 := by
  have wf : Tbl.wf (fun _ => 0) (s.lasersSwitched e l k).cnt = true := h
  have told := State.cnt_raise_wf wf { code := 0x0604, sev := 0, kind := 0x0B, index := e * 256 + l, arg0 := k, arg1 := 0 }
  rw [State.switchTold, State.count_endMaint (bumpTbl_wf told _ _) _ _ (by decide) (by decide), State.count_bump_self told,
    State.count_raise wf _ (by decide) (by decide)]
  rfl

theorem takeoverSwitch_gives (h : s.canonical = true) (wf : Tbl.wf laserNew s.optics.lasers = true) {e : Fin 18} {l : Fin 256}
    {x : Takeover} {lane : Nat} (found : s.takeoverOf e l = some x) (ready : x.ready = true)
    (used : (s.laser e l).lane = some lane) (other : x.spare ≠ l) :
    Gives (.takeoverSwitch e l) s (fun t => t.laser e x.spare = { s.laser e x.spare with st := .inService, lane := some lane }
      ∧ t.laser e l = { s.laser e l with st := .retired, lane := none, flagged := false }
      ∧ t.count C.OPT_TAKEOVERS = (s.count C.OPT_TAKEOVERS + 1) % 2 ^ 64) := by
  have wf0 : Tbl.wf laserNew (s.dropTakeover e l).optics.lasers = true := wf
  have wf1 := State.setLaser_wf wf0 e x.spare { s.laser e x.spare with st := .inService, lane := (s.laser e l).lane }
  have optics := (State.laneBack_optics (s := s.switchTold e l x.spare) e lane).trans (State.switchTold_optics e l x.spare)
  refine ⟨_, exec_takeoverSwitch_of_ready found ready used, ?_, ?_, ?_⟩
  · rw [State.laser_of_optics optics, State.lasersSwitched, State.laser_setLaser_ne wf1 e _ other,
      State.laser_setLaser_self wf0, used]
  · rw [State.laser_of_optics optics, State.lasersSwitched, State.laser_setLaser_self wf1]
  · rw [State.count_of_cnt (State.laneBack_cnt e lane), State.count_switchTold (State.canonical.cnt h)]

/-! ## Failure and ageing (R306, R308) -/

/-- The port of a failed laser runs on its other lane. -/
def State.laneLost (s : State) (e lane : Nat) : State :=
  (s.setPort (lanePort e lane) { s.port (lanePort e lane) with
    laserOut := (s.port (lanePort e lane)).laserOut ||| 2 ^ (lane % 2) }).degrade (lanePort e lane) (lane % 2) 1

theorem State.laneLost_optics (e lane : Nat) : (s.laneLost e lane).optics = s.optics :=
  (State.degrade_within _ _ _ _).optics_eq (by decide)

theorem exec_laserFail_of_inService {e : Fin 18} {l : Fin 256} {lane : Nat} (st : (s.laser e l).st = .inService)
    (used : (s.laser e l).lane = some lane) : ∃ u : State,
      u.optics = (s.setLaser e l { s.laser e l with st := .failed }).optics
        ∧ (exec (.laserFail e l) s = .next u ∨ exec (.laserFail e l) s = .next (State.startTakeover e l u)) := by
  refine ⟨(s.setLaser e l { s.laser e l with st := .failed }).laneLost e lane, State.laneLost_optics _ _, ?_⟩
  have run : exec (.laserFail e l) s = .next (if (((s.setLaser e l { s.laser e l with st := .failed }).laneLost e lane).takeoverOf
      e l).isSome then (s.setLaser e l { s.laser e l with st := .failed }).laneLost e lane
      else State.startTakeover e l ((s.setLaser e l { s.laser e l with st := .failed }).laneLost e lane)) := by
    change execLaserFail e l s = _
    unfold execLaserFail
    extract_lets x
    split
    · next lane' st' used' =>
      obtain rfl : lane' = lane := Option.some.inj (used'.symm.trans used)
      rfl
    · next none => exact absurd used (none lane st)
  rw [run]
  split
  · exact .inl rfl
  · exact .inr rfl

theorem laserFail_gives (wf : Tbl.wf laserNew s.optics.lasers = true) {e : Fin 18} {l : Fin 256} {lane : Nat}
    (st : (s.laser e l).st = .inService) (used : (s.laser e l).lane = some lane) :
    Gives (.laserFail e l) s (fun t => (t.laser e l).st = .failed ∧ (t.laser e l).lane = some lane) := by
  obtain ⟨u, optics, run⟩ := exec_laserFail_of_inService st used
  have failed : u.laser e l = { s.laser e l with st := .failed } :=
    (State.laser_of_optics optics _ _).trans (State.laser_setLaser_self wf _ _ _)
  have wf' : Tbl.wf laserNew u.optics.lasers = true := by
    rw [optics]
    exact State.setLaser_wf wf _ _ _
  obtain run | run := run
  · exact ⟨u, run, by rw [failed], by rw [failed]; exact used⟩
  · obtain ⟨st', lane'⟩ := State.laser_startTakeover wf' e l (k := l) (by rw [failed]; exact LaserState.noConfusion)
    rw [failed] at st' lane'
    exact ⟨_, run, st', lane'.trans used⟩

/-- Settles O41. -/
theorem lasersAreTakenOver : Obligations.LasersAreTakenOver := by
  refine fun s h wf => ⟨fun e l on known => ?_, fun e l on unknown => ?_, fun e l k lane => laserTakeoverRequest_gives h wf,
    fun e l x => spareWarmDone_gives wf, fun e l x lane found ready used other _ => takeoverSwitch_gives h wf found ready used other,
    fun e l lane => laserFail_gives wf, fun e l ratio power rx known => ?_⟩
  · have run : exec (.laserRead e l) s
        = .next ((s.wrWords (R.OPT_LASER_DATA 0) (s.laser e l).words).status R.OPT_LASER_STAT 0) := by
      change execLaserRead e l s = _
      rw [execLaserRead, State.gate_on on, if_pos known]
    obtain ⟨words, told⟩ := State.answered (State.canonical.regs h) (off := R.OPT_LASER_DATA 0) (stat := R.OPT_LASER_STAT)
      (v := 0) (n := 4) (ws := (s.laser e l).words) rfl (by decide) (by decide)
    exact ⟨_, run, told, rfl, words⟩
  · have run : exec (.laserRead e l) s = .next (s.status R.OPT_LASER_STAT 3) := by
      change execLaserRead e l s = _
      rw [execLaserRead, State.gate_on on, if_neg (by simp [unknown])]
    exact ⟨_, run, State.fld_status_self (State.canonical.regs h) _ (by decide), rfl⟩
  · refine ⟨_, if_pos known, ?_⟩
    dsimp only
    rw [State.laser_setLaser_self wf]
    exact ⟨rfl, rfl, rfl, rfl, Nat.le_add_right _ _⟩

end Sys2Proof.Machine

/-!
PROOFS. Slots, marks, re-tunes, the pattern table and the timing registers of Prism (R292 to R304, R310).
-/
namespace Sys2Proof.Machine

variable {s : State}

/-! ## What the paths of packets change of Prism -/

/-- Only the packets that a fence waits behind may differ (R298). -/
def PrismKept (s t : State) : Prop := ∃ behind, t.prism = { s.prism with behind := behind }

theorem PrismKept.refl (s : State) : PrismKept s s := ⟨s.prism.behind, rfl⟩

theorem PrismKept.trans {s t u : State} (h : PrismKept s t) (k : PrismKept t u) : PrismKept s u := by
  obtain ⟨b, h⟩ := h
  obtain ⟨c, k⟩ := k
  exact ⟨c, by rw [k, h]⟩

theorem PrismKept.of_eq {t : State} (h : t.prism = s.prism) : PrismKept s t := ⟨s.prism.behind, h⟩

theorem PrismKept.each {α : Type} {f : α → State → State} (k : ∀ x s, PrismKept s (f x s)) :
    ∀ (l : List α) (s : State), PrismKept s (forEach f l s)
  | [], s => .refl s
  | x :: l, s => (k x s).trans (PrismKept.each k l _)

theorem State.entered_prismKept (s : State) (id : Nat) : PrismKept s (s.entered id) := ⟨_, rfl⟩

theorem State.place_prism (r : Admit) (egress : Nat) (it : Item) : (s.place r egress it).prism = s.prism :=
  (State.place_within _ _ _ _).prism_eq (by decide)

theorem State.dropItem_prism (reason q : Nat) (it : Item) : (s.dropItem reason q it).prism = s.prism :=
  (State.dropItem_within _ _ _ _).prism_eq (by decide)

theorem State.offer_prismKept {it : Item} {egress : Nat} {t : State} (e : s.offer it egress = some t) : PrismKept s t := by
  unfold State.offer at e
  split at e
  case h_6 => exact nomatch e
  case h_5 =>
    obtain rfl := Option.some.inj e
    exact (PrismKept.of_eq (State.dropItem_prism _ _ _)).trans (State.entered_prismKept _ _)
  all_goals
    obtain rfl := Option.some.inj e
    exact (PrismKept.of_eq (State.place_prism _ _ _)).trans (State.entered_prismKept _ _)

theorem State.takeIn_prismKept (s : State) (it : Item) (egress : Nat) : PrismKept s (s.takeIn it egress) := by
  unfold State.takeIn
  extract_lets k it'
  split
  · split
    · next t e => exact State.offer_prismKept e
    · exact .of_eq (State.setWaiting_prism _ _ _)
  · exact .of_eq (State.setWaiting_prism _ _ _)

theorem State.holdItem_prismKept (s : State) (it : Item) : PrismKept s (s.holdItem it) := by
  unfold State.holdItem
  split
  · exact (PrismKept.of_eq (State.dropItem_prism _ _ _)).trans (State.entered_prismKept _ _)
  · exact .of_eq ((State.leaveCharge_within _ _).prism_eq (by decide))

theorem State.resprayTo_prismKept (s : State) (it : Item) (j : Nat) : PrismKept s (s.resprayTo it j) := by
  unfold State.resprayTo
  split
  · exact (PrismKept.of_eq (t := s.tick) rfl).trans (State.takeIn_prismKept _ _ _)
  · exact State.holdItem_prismKept s it

theorem State.rehome_prismKept (s : State) (it : Item) : PrismKept s (s.rehome it) := by
  unfold State.rehome
  split
  · split
    · exact State.resprayTo_prismKept _ _ _
    · extract_lets plane
      split
      · exact State.takeIn_prismKept _ _ _
      · exact State.holdItem_prismKept _ _
  · exact .of_eq (State.dropItem_prism _ _ _)

theorem State.takeMissed_prism (p : Nat) : (s.takeMissed p).2.prism = s.prism :=
  (State.takeMissed_within _ _).prism_eq (by decide)

theorem prism_takeEach {f : State → Nat → List Item × State} (k : ∀ s x, (f s x).2.prism = s.prism) :
    ∀ (l : List Nat) (s : State), (takeEach f l s).2.prism = s.prism
  | [], _ => rfl
  | x :: l, s => (prism_takeEach k l _).trans (k s x)

theorem State.followSlot_prismKept (s : State) (ps : List Nat) : PrismKept s (s.followSlot ps) := by
  unfold State.followSlot
  refine (PrismKept.of_eq (prism_takeEach (fun _ _ => State.takeMissed_prism _) ps s)).trans (.each (fun it t => ?_) _ _)
  split
  · exact State.resprayTo_prismKept _ _ _
  · exact .refl _

/-! ## Slots (R292) -/

/-- The last slot ended on the planes that rotate. -/
def State.slotEnded (s : State) : State := match s.prism.slot with
  | none => s
  | some m => forEach (fun p (s : State) => (s.endSlot m p).lapse m p) ((List.range 64).filter s.rotates) s

/-- The beginning of a slot reached, and the peers that the last one left dead. -/
def State.slotReached (s : State) (n : Nat) : State :=
  forEach (fun j (s : State) => s.deathByPlanes j) (List.range 64) (s.reach (s.atTb0 (slotStart s.slotNs n))).accountPlanes

/-- The slot noted: no pair has its acknowledgement yet. -/
def State.slotNoted (s : State) (n : Nat) : State := { s with prism := { s.prism with acked := [], slot := some n } }

/-- The slot's credits lent, its packets sprayed again, and the discovery packets sent. -/
def State.slotServed (s : State) (ps : List Nat) : State :=
  forEach (fun p (s : State) => s.sendLocal (1024 + p) s.discoverPacket) ps
    ((forEach (fun p (s : State) => s.lend p) ps s).followSlot ps)

theorem exec_slotStart_of_planes (on : s.on 5 = true) (some' : (List.range 64).filter s.rotates ≠ []) :
    exec .slotStart s = .next (((s.slotEnded.slotReached s.nextSlot).slotNoted s.nextSlot).slotServed
      ((List.range 64).filter s.rotates)) := by
  have go : (!s.on 5 || ((List.range 64).filter s.rotates).isEmpty) = false := by
    rw [on, Bool.not_true, Bool.false_or, List.isEmpty_eq_false_iff]
    exact some'
  change execSlotStart s = _
  unfold execSlotStart
  extract_lets ps n s1 _ s3 _ s4 _
  rw [go, if_neg Bool.false_ne_true]
  have ended : s1 = s.slotEnded := rfl
  have reached : s3 = s1.slotReached n := rfl
  have noted : s4 = s3.slotNoted n := rfl
  change ok (s4.slotServed ps) = _
  rw [noted, reached, ended]

theorem State.slotNoted_clk (n : Nat) : (s.slotNoted n).clk = s.clk := rfl

theorem State.slotEnded_within (s : State) : Within 13824953812 s s.slotEnded := by
  unfold State.slotEnded
  split
  · exact .refl _ _
  · exact Within.stepEach (fun p s => State.lapse_step rfl (State.endSlot_step rfl (.refl _ _))) (.refl _ _)

theorem State.slotReached_now (n : Nat) : (s.slotReached n).now = max s.now (s.atTb0 (slotStart s.slotNs n)) := by
  have deaths : Within 13824961492 ((s.reach (s.atTb0 (slotStart s.slotNs n))).accountPlanes) (s.slotReached n) :=
    Within.stepEach (fun j s => State.deathByPlanes_within s j) (.refl _ _)
  rw [State.now, deaths.clk_eq (by decide), (State.accountPlanes_within _).clk_eq (by decide)]
  exact State.now_reach _

theorem State.slotServed_within (ps : List Nat) : Within 12885428564 s (s.slotServed ps) := by
  unfold State.slotServed
  exact Within.stepEach (fun p s => State.sendLocal_step rfl (.refl _ _)) (State.followSlot_step rfl
    (Within.stepEach (fun p s => State.lend_step rfl (.refl _ _)) (.refl _ _)))

theorem State.slotServed_prismKept (ps : List Nat) : PrismKept s (s.slotServed ps) := by
  have lent : Within 256 s (forEach (fun p (s : State) => s.lend p) ps s) :=
    Within.stepEach (fun p s => State.lend_within s p) (.refl _ _)
  unfold State.slotServed
  exact ((PrismKept.of_eq (lent.prism_eq (by decide))).trans (State.followSlot_prismKept _ _)).trans
    (.each (fun p s => .of_eq ((State.sendLocal_within _ _ _).prism_eq (by decide))) _ _)

theorem State.slotNs_of_regs {t : State} (h : t.regs = s.regs) : t.slotNs = s.slotNs := by
  rw [State.slotNs, State.slotNs, State.fld_of_regs h]

theorem State.atTb0_of_clk {t : State} (h : t.clk = s.clk) (n : Nat) : t.atTb0 n = s.atTb0 n := by
  rw [State.atTb0, State.atTb0, h]

theorem slotStart_gives (on : s.on 5 = true) (some' : (List.range 64).filter s.rotates ≠ []) :
    Gives .slotStart s (fun t => t.prism.slot = some s.nextSlot ∧ t.prism.acked = []
      ∧ t.now = max s.now (s.atTb0 (slotStart s.slotNs s.nextSlot))) := by
  have ended := State.slotEnded_within s
  have clk := ended.clk_eq (by decide)
  obtain ⟨behind, prism⟩ := State.slotServed_prismKept (s := (s.slotEnded.slotReached s.nextSlot).slotNoted s.nextSlot)
    ((List.range 64).filter s.rotates)
  refine ⟨_, exec_slotStart_of_planes on some', by rw [prism]; rfl, by rw [prism]; rfl, ?_⟩
  have reached := State.slotReached_now (s := s.slotEnded) s.nextSlot
  rw [State.slotNs_of_regs (ended.regs_eq (by decide)), State.atTb0_of_clk clk, State.now, State.now, clk] at reached
  rw [State.now, (State.slotServed_within _).clk_eq (by decide), State.slotNoted_clk, State.now, ← reached]

/-! ## Marks (R298, R300) -/

theorem State.accountPlanes_prism (s : State) : ∃ nsAt dataNs,
    s.accountPlanes.prism = { s.prism with nsAt := nsAt, dataNs := dataNs } := by
  unfold State.accountPlanes
  extract_lets e _ counted _
  split
  · exact ⟨_, _, rfl⟩
  · split
    · exact ⟨_, _, rfl⟩
    · have kept : Within 4 s counted := Within.stepEach (fun p s => State.countPlane_within s e p) (.refl _ _)
      exact ⟨counted.now, [], congrArg (fun x : Prism => { x with nsAt := counted.now, dataNs := [] })
        (kept.prism_eq (by decide))⟩

theorem State.applyMarks_prism (s : State) (at_ start : Nat) : (s.applyMarks at_ start).prism.lastAt = some at_
    ∧ (s.applyMarks at_ start).prism.marks = s.prism.marks.filter (fun m => m.1 != at_)
    ∧ (s.applyMarks at_ start).prism.patActive = s.prism.patActive := by
  obtain ⟨nsAt, dataNs, accounted⟩ := State.accountPlanes_prism s
  have entries (ps : List Nat) : Within 5234492550 s.accountPlanes (forEach (fun p (s : State) => s.applyEntry p) ps s.accountPlanes) :=
    Within.stepEach (fun p s => State.applyEntry_within s p) (.refl _ _)
  have prism (ps : List Nat) := ((entries ps).prism_eq (by decide)).trans accounted
  unfold State.applyMarks
  extract_lets s1 ps old before s2 now s3
  have same : s3.prism = { s.prism with nsAt := nsAt, dataNs := dataNs } := prism ps
  have marks : s3.prism.marks = s.prism.marks := by rw [same]
  have active : s3.prism.patActive = s.prism.patActive := by rw [same]
  exact ⟨rfl, congrArg (List.filter fun m => m.1 != at_) marks, active⟩

theorem patternApply_gives {at_ : Nat} (on : s.on 5 = true) (first : leastOf (s.prism.marks.map (·.1)) = some at_)
    (idle : s.prism.retuneEnd = none) :
    Gives .patternApply s (fun t => t.now = max s.now (s.atTb0 at_) ∧ t.prism.lastAt = some at_
      ∧ t.prism.marks = s.prism.marks.filter (fun m => m.1 != at_) ∧ t.prism.patActive = s.prism.patActive) := by
  have run : exec .patternApply s
      = .next ((s.reach (s.atTb0 at_)).applyMarks at_ (max at_ (s.reach (s.atTb0 at_)).tb0)) := by
    change execPatternApply s = _
    rw [execPatternApply, if_neg (by simp [on]), first, idle]
  have prism : (s.reach (s.atTb0 at_)).prism = s.prism := (State.reach_within _ _).prism_eq (by decide)
  obtain ⟨lastAt, marks, active⟩ := State.applyMarks_prism (s.reach (s.atTb0 at_)) at_ (max at_ (s.reach (s.atTb0 at_)).tb0)
  rw [prism] at marks active
  refine ⟨_, run, ?_, lastAt, marks, active⟩
  rw [State.now, (State.applyMarks_within _ _ _).clk_eq (by decide)]
  exact State.now_reach _

/-! ## The end of a re-tune (R298, R304) -/

theorem State.plane_of_planes {t : State} (h : t.planes = s.planes) (p : Nat) : t.plane p = s.plane p := by
  rw [State.plane, State.plane, h]

theorem State.retuning_of_planes {t : State} (h : t.planes = s.planes) : t.retuning = s.retuning := by
  simp only [State.retuning, State.plane_of_planes h]

/-- A plane whose port is up, with the state that it is to enter. -/
structure PlaneReady (p : Nat) (x : PlaneState) (s : State) : Prop where
  planes : Tbl.wf (fun _ => Plane.init) s.planes = true
  ports : Tbl.wf (fun _ => Port.init) s.ports = true
  up : (s.port (1024 + p)).st = .up
  next : (s.plane p).next = x

theorem PlaneReady.within {p : Nat} {x : PlaneState} {m : Nat} {t : State} (h : PlaneReady p x s) (k : Within m s t)
    (c : m.testBit 7 = false ∧ m.testBit 10 = false) : PlaneReady p x t ∧ t.plane p = s.plane p := by
  have ports : t.ports = s.ports := k.ports_eq c.1
  have planes : t.planes = s.planes := k.planes_eq c.2
  have port : t.port (1024 + p) = s.port (1024 + p) := by rw [State.port, State.port, ports]
  refine ⟨⟨by rw [planes]; exact h.planes, by rw [ports]; exact h.ports, by rw [port]; exact h.up, ?_⟩,
    State.plane_of_planes planes p⟩
  rw [State.plane_of_planes planes]
  exact h.next

theorem State.beginTraining_planes (port : Nat) : (s.beginTraining port).planes = s.planes :=
  (State.beginTraining_within _ _).planes_eq (by decide)

/-- Training of a port leaves a port that is up. -/
theorem State.up_beginTraining (h : Tbl.wf (fun _ => Port.init) s.ports = true) {q : Nat} (up : (s.port q).st = .up) (port : Nat) :
    ((s.beginTraining port).port q).st = .up := by
  unfold State.beginTraining
  extract_lets p step
  split
  · next down =>
    have other : q ≠ port := by
      rintro rfl
      simp [p, up] at down
    have kept : (s.setPort port { p with st := .training, step := step, stepSince := s.now, lanesLocked := 0, goodFlits := 0,
                                         eth := s.ethChosen port }).port q = s.port q := by
      rw [State.port_setPort h, if_neg other]
    exact (congrArg Port.st kept).trans up
  · exact up

/-- The end of the re-tune of a plane: the plane itself enters its state. -/
theorem PlaneReady.endRetune {p : Nat} {x : PlaneState} (h : PlaneReady p x s) (q : Nat) :
    PlaneReady p x (s.endRetune q) ∧ ((s.endRetune q).plane p).st = if p = q then x else (s.plane p).st := by
  have kept := State.endRetune_preserves s q (.refl s)
  have planes (y : Plane) : ((s.setPlane q y).beginTraining (1024 + q)).plane p = if p = q then y else s.plane p :=
    (State.plane_of_planes (State.beginTraining_planes _) p).trans (State.plane_setPlane h.planes q p y)
  have up : ((s.endRetune q).port (1024 + p)).st = .up := by
    unfold State.endRetune
    extract_lets pl s1
    exact State.up_beginTraining (s := s1) h.ports h.up _
  by_cases same : p = q
  · subst same
    have here : (s.endRetune p).plane p = { s.plane p with st := (s.plane p).next, unreachable := [], missed := [] } := by
      unfold State.endRetune
      extract_lets pl s1
      rw [planes, if_pos rfl, if_pos (.inl h.up)]
    rw [if_pos rfl, here]
    exact ⟨⟨kept.planes h.planes, kept.ports h.ports, up, by rw [here]; exact h.next⟩, h.next⟩
  · have other : (s.endRetune q).plane p = s.plane p := by
      unfold State.endRetune
      extract_lets pl s1
      rw [planes, if_neg same]
    rw [if_neg same, other]
    exact ⟨⟨kept.planes h.planes, kept.ports h.ports, up, by rw [other]; exact h.next⟩, rfl⟩

theorem PlaneReady.endRetunes {p : Nat} {x : PlaneState} : ∀ (l : List Nat) {s : State}, PlaneReady p x s →
    p ∈ l ∨ (s.plane p).st = x →
    PlaneReady p x (forEach (fun p (s : State) => (s.endRetune p).freshLinks (1024 + p)) l s)
      ∧ ((forEach (fun p (s : State) => (s.endRetune p).freshLinks (1024 + p)) l s).plane p).st = x
  | [], s, h, mem => ⟨h, mem.resolve_left List.not_mem_nil⟩
  | q :: l, s, h, mem => by
    obtain ⟨ready, st⟩ := h.endRetune q
    obtain ⟨ready', kept⟩ := ready.within (State.freshLinks_within _ (1024 + q)) (by decide)
    refine PlaneReady.endRetunes l ready' ?_
    rw [kept, st]
    by_cases same : p = q
    · exact .inr (if_pos same)
    · rw [if_neg same]
      exact mem.imp_left fun k => (List.mem_cons.mp k).resolve_left same

/-- The planes that end a re-tune, and their packets taken back. -/
def State.planesEnded (s : State) : State :=
  forEach (fun p (s : State) => (s.endRetune p).freshLinks (1024 + p)) s.retuning (takeEach State.takePlane s.retuning s).2

/-- The fence of a re-tune begins (R298). -/
def State.fenceBegun (s : State) (ps : List Nat) : State :=
  { s with prism := { s.prism with retuneEnd := none, changed := ps, fenceFrom := s.dp.nextId, behind := s.bpInside } }

theorem State.endRetunes_eq : ∃ out : List Item, s.endRetunes = forEach (fun it (s : State) => s.rehome it) (byArrival out)
    (forEach (fun p (s : State) => if (s.plane p).st = .packet ∨ (s.plane p).st = .dark then s
      else s.sendLocal (1024 + p) (localPacket tyLC_DISCOVER
        [((0 : Word).setFld 31 22 s.spineId).setFld 21 16 s.prismPos])) s.retuning
      (s.planesEnded.fenceBegun s.retuning)).remapDetours := ⟨(takeEach State.takePlane s.retuning s).1, rfl⟩

theorem State.fenceBegun_prism (ps : List Nat) : ∃ n behind, (s.fenceBegun ps).prism
    = { s.prism with retuneEnd := none, changed := ps, fenceFrom := n, behind := behind } := ⟨_, _, rfl⟩

theorem State.fenceBegun_within (ps : List Nat) : Within 2048 s (s.fenceBegun ps) := by
  unfold State.fenceBegun
  exact Within.upd_prism rfl (.refl _ _)

theorem State.planesEnded_prism : s.planesEnded.prism = s.prism := by
  have taken : Within 336 s (takeEach State.takePlane s.retuning s).2 :=
    takeEach_step (fun s p => State.takePlane_within s p) (.refl _ _)
  have ended : Within 4294968704 (takeEach State.takePlane s.retuning s).2 s.planesEnded :=
    Within.stepEach (fun p s => State.freshLinks_step rfl (State.endRetune_step rfl (.refl _ _))) (.refl _ _)
  rw [ended.prism_eq (by decide), taken.prism_eq (by decide)]

theorem State.endRetunes_prism : ∃ n behind, s.endRetunes.prism
    = { s.prism with retuneEnd := none, changed := s.retuning, fenceFrom := n, behind := behind } := by
  obtain ⟨out, e⟩ := State.endRetunes_eq (s := s)
  obtain ⟨n, behind, fence⟩ := State.fenceBegun_prism (s := s.planesEnded) s.retuning
  rw [State.planesEnded_prism] at fence
  have told : PrismKept (s.planesEnded.fenceBegun s.retuning) s.endRetunes := by
    rw [e]
    refine ((PrismKept.each (fun p t => ?_) _ _).trans (.of_eq ((State.remapDetours_within _).prism_eq (by decide)))).trans
      (.each (fun it t => State.rehome_prismKept t it) _ _)
    split
    · exact .refl t
    · exact .of_eq ((State.sendLocal_within _ _ _).prism_eq (by decide))
  obtain ⟨behind', told⟩ := told
  exact ⟨n, behind', by rw [told, fence]⟩

theorem State.endRetunes_plane {p : Nat} {x : PlaneState} (h : PlaneReady p x s) (mem : p ∈ s.retuning) :
    (s.endRetunes.plane p).st = x := by
  obtain ⟨out, e⟩ := State.endRetunes_eq (s := s)
  obtain ⟨taken, -⟩ := h.within (takeEach_step (l := s.retuning) (fun s p => State.takePlane_within s p) (.refl 336 s)) (by decide)
  obtain ⟨-, st⟩ := PlaneReady.endRetunes s.retuning taken (.inl mem)
  have rest : Within 12885428500 (s.planesEnded.fenceBegun s.retuning) s.endRetunes := by
    rw [e]
    refine Within.stepEach (fun it s => State.rehome_step rfl (.refl _ _)) (State.remapDetours_step rfl
      (Within.stepEach (fun p s => ?_) (.refl _ _)))
    split
    · exact .refl _ _
    · exact State.sendLocal_step rfl (.refl _ _)
  rw [State.plane_of_planes (rest.planes_eq (by decide)), State.plane_of_planes ((State.fenceBegun_within _).planes_eq (by decide))]
  exact st

theorem State.lateMarks_of_nil (none : s.prism.marks = []) (e : Nat) : s.lateMarks e = s := by
  rw [State.lateMarks, none]
  rfl

theorem planeRetuneEnd_gives (h : s.canonical = true) {e : Nat} (at_ : s.prism.retuneEnd = some e) (none : s.prism.marks = []) :
    Gives .planeRetuneEnd s (fun t => t.now = max s.now (s.atTb0 e) ∧ t.prism.retuneEnd = Option.none
      ∧ t.prism.changed = s.retuning
      ∧ ∀ p, p < 64 → (s.plane p).st = .retune → (s.port (1024 + p)).st = .up → (t.plane p).st = (s.plane p).next) := by
  have reached : Within 7549749253 s (s.reach (s.atTb0 e)).accountPlanes :=
    State.accountPlanes_step rfl (State.reach_step rfl (.refl _ _))
  have now : (s.reach (s.atTb0 e)).accountPlanes.now = max s.now (s.atTb0 e) := by
    rw [State.now, (State.accountPlanes_within _).clk_eq (by decide)]
    exact State.now_reach _
  obtain ⟨nsAt, dataNs, prism⟩ := State.accountPlanes_prism (s.reach (s.atTb0 e))
  have run : exec .planeRetuneEnd s = .next ((s.reach (s.atTb0 e)).accountPlanes.endRetunes.lateMarks e) := by
    change execPlaneRetuneEnd s = _
    rw [execPlaneRetuneEnd, at_]
  rw [(State.reach_within s _).prism_eq (by decide)] at prism
  generalize (s.reach (s.atTb0 e)).accountPlanes = u at reached now prism run
  have planes : u.planes = s.planes := reached.planes_eq (by decide)
  have ports : u.ports = s.ports := reached.ports_eq (by decide)
  obtain ⟨n, behind, ended⟩ := State.endRetunes_prism (s := u)
  have quiet : u.endRetunes.prism.marks = [] := by
    rw [ended, prism]
    exact none
  rw [State.lateMarks_of_nil quiet] at run
  refine ⟨_, run, ?_, by rw [ended], ?_, fun p lt tunes up => ?_⟩
  · rw [State.now, (State.endRetunes_within _).clk_eq (by decide)]
    exact now
  · rw [ended]
    exact State.retuning_of_planes planes
  · have here : u.plane p = s.plane p := State.plane_of_planes planes p
    refine State.endRetunes_plane ⟨by rw [planes]; exact State.canonical.planes h, by rw [ports]; exact State.canonical.ports h,
      by rw [State.port, ports]; exact up, by rw [here]⟩ ?_
    rw [State.retuning_of_planes planes]
    exact List.mem_filter.mpr ⟨List.mem_range.mpr lt, by rw [tunes]; rfl⟩

/-! ## The pattern table and the timing registers (R293, R310) -/

theorem exec_patWriteShadow_of_good {pattern : Fin 256} (on : s.on (regDomain R.OPT_PAT_CMD) = true)
    (none : s.tab.pending = none) (good : patBad (s.rdWords (R.OPT_PAT_DATA 0) 18) = false) :
    exec (.patWriteShadow pattern) s = .next (({ s with prism := { s.prism with
      patShadow := Tbl.put (fun _ => patZero) s.prism.patShadow pattern (s.rdWords (R.OPT_PAT_DATA 0) 18) } } : State).status
        R.OPT_PAT_STAT 0) := by
  change execPatWriteShadow pattern s = _
  rw [execPatWriteShadow, State.gate_on on, none]
  dsimp only
  rw [if_neg (by simp), good, if_neg Bool.false_ne_true]

theorem exec_patWriteShadow_of_pending {pattern : Fin 256} {e : Nat} (on : s.on (regDomain R.OPT_PAT_CMD) = true)
    (pending : s.tab.pending = some e) : exec (.patWriteShadow pattern) s = .next (s.status R.OPT_PAT_STAT 2) := by
  change execPatWriteShadow pattern s = _
  rw [execPatWriteShadow, State.gate_on on, pending]
  rfl

/-- A read of either bank (R310). -/
theorem patRead_gives (h : s.canonical = true) {t : Tbl (List Word)} {pattern : Nat}
    (on : s.on (regDomain R.OPT_PAT_CMD) = true) (len : (Tbl.get (fun _ => patZero) t pattern).length = 18) :
    (s.patRead t pattern).fld R.OPT_PAT_STAT 3 0 = 0 ∧ (s.patRead t pattern).prism = s.prism
      ∧ (s.patRead t pattern).rdWords (R.OPT_PAT_DATA 0) 18 = Tbl.get (fun _ => patZero) t pattern := by
  obtain ⟨words, told⟩ := State.answered (State.canonical.regs h) (off := R.OPT_PAT_DATA 0) (stat := R.OPT_PAT_STAT)
    (v := 0) len (by decide) (by decide)
  refine ⟨?_, (State.patRead_within _ _ _).prism_eq (by decide), ?_⟩
  · rw [State.patRead, State.gate_on on]
    exact told
  · rw [State.patRead, State.gate_on on]
    exact words

theorem execPrismGuardWrite_guard (on : s.on (regDomain R.OPT_PRISM_GUARD) = true) (w : Word) :
    exec (.prismGuardWrite false w) s = ok (if s.fld R.OPT_PRISM_CTRL 23 22 = 3
      ∨ slotNsOf (s.fld R.OPT_PRISM_CTRL 23 22) < 4 * gPktOf w then s.setF R.OPT_PRISM_STAT 23 23 1
      else s.store R.OPT_PRISM_GUARD w) := by
  change ok (s.gate R.OPT_PRISM_GUARD _) = _
  rw [State.gate_on on]
  rfl

/-- Settles O40. -/
theorem planesAndPatternTable : Obligations.PlanesAndPatternTable := by
  refine ⟨fun s h => ⟨slotStart_gives, fun at_ => patternApply_gives, fun e => planeRetuneEnd_gives h⟩,
    fun s h => ⟨fun pattern on none good => ?_, fun pattern e on pending => ?_,
      fun pattern on len => ⟨_, rfl, patRead_gives h on len⟩, fun pattern on len => ⟨_, rfl, patRead_gives h on len⟩,
      fun w on valid fits => ?_, fun w on wide => ?_⟩⟩
  · exact ⟨_, exec_patWriteShadow_of_good on none good,
      State.fld_status_self (State.canonical.regs h) R.OPT_PAT_STAT (by decide), rfl⟩
  · exact ⟨_, exec_patWriteShadow_of_pending on pending,
      State.fld_status_self (State.canonical.regs h) R.OPT_PAT_STAT (by decide), rfl⟩
  · rw [execPrismGuardWrite_guard on, if_neg (by omega)]
  · refine ⟨_, (execPrismGuardWrite_guard on w).trans (congrArg ok (if_pos (.inr wide))), ?_, fun off other => ?_⟩
    · exact State.fld_setF_self (State.canonical.regs h) _ (by decide) (by decide) (by decide)
    · exact State.rd_setF_ne (State.canonical.regs h) _ _ _ other

end Sys2Proof.Machine

/-!
PROOFS. Peers of the dispersion core (R302 to R304).
-/
namespace Sys2Proof.Machine

variable {s : State}

/-! ## What moves and their packets change of Prism (R93 to R98) -/

theorem PrismKept.within {m : Nat} {t : State} (k : Within m s t) (c : m.testBit 11 = false) : PrismKept s t :=
  .of_eq (k.prism_eq c)

theorem State.dispatch_prismKept (s : State) (it : Item) (r : Route) : PrismKept s (s.dispatch it r) := by
  unfold State.dispatch
  split
  · extract_lets it'
    exact ((PrismKept.within (State.noteBucket_within s _ it') (by decide)).trans (.of_eq (t := State.tick _) rfl)).trans
      (State.takeIn_prismKept _ _ _)
  · next via egress j =>
    exact ((PrismKept.within (State.noteDetour_within s via j) (by decide)).trans (.of_eq (t := State.tick _) rfl)).trans
      (State.takeIn_prismKept _ _ _)
  · exact (PrismKept.within (State.noteBucket_within s _ _) (by decide)).trans
      (.within (State.holdForMove_within _ _ _ _) (by decide))
  · exact .of_eq rfl
  · exact .of_eq ((State.txDone_within _ _ _).prism_eq (by decide))
  · extract_lets s1 s2
    have out : PrismKept s s2 := .of_eq (((State.freeItem_within _ _ _).prism_eq (by decide)).trans
      ((State.bankLeave_within _ _ _).prism_eq (by decide)))
    split
    · exact out.trans (.of_eq rfl)
    · exact out
  · exact (PrismKept.of_eq (t := s.tick) rfl).trans (State.holdItem_prismKept _ _)
  · exact (PrismKept.of_eq (State.dropItem_prism _ _ _)).trans (State.entered_prismKept _ _)

theorem State.filterItem_prismKept (s : State) (c : Nat) (it : Item) : PrismKept s (s.filterItem c it) :=
  (PrismKept.of_eq (State.dropItem_prism _ _ _)).trans (State.entered_prismKept _ _)

theorem State.sendAgain_prismKept (s : State) (it : Item) : PrismKept s (s.sendAgain it) := by
  unfold State.sendAgain
  split
  · exact State.dispatch_prismKept _ _ _
  · exact State.dispatch_prismKept _ _ _
  · unfold State.dispatchFrame
    split
    · exact State.filterItem_prismKept _ _ _
    · exact State.dispatch_prismKept _ _ _
    · exact State.dispatch_prismKept _ _ _

theorem State.handOver_prismKept (s : State) (it : Item) : PrismKept s (s.handOver it) := by
  unfold State.handOver
  extract_lets _ s1
  have charged : PrismKept s s1 := by
    unfold s1
    split
    · exact .of_eq rfl
    · exact .refl s
  exact (charged.trans (.within (State.keepCells_within _ _) (by decide))).trans (State.sendAgain_prismKept _ _)

theorem State.sendMark_prismKept (s : State) (plane peer vc : Nat) : PrismKept s (s.sendMark plane peer vc) := by
  unfold State.sendMark
  extract_lets dest seq p _ it s1 _ s2
  have noted : PrismKept s s2 := .of_eq ((State.takeSeq_within s 0 1 dest).prism_eq (by decide))
  exact (noted.trans (.within (State.writeCells_within _ _) (by decide))).trans (State.takeIn_prismKept _ _ _)

theorem State.beginPhase_prismKept (s : State) (u b : Nat) (old : Path) : PrismKept s (s.beginPhase u b old).2 := by
  unfold State.beginPhase
  split
  · split
    · exact .refl s
    · exact .refl s
  · exact .each (fun v t => State.sendMark_prismKept t _ _ v) _ _

theorem State.releaseItem_prismKept (s : State) (new : Path) (it : Item) : PrismKept s (s.releaseItem new it) := by
  unfold State.releaseItem
  split
  · split
    · exact State.takeIn_prismKept _ _ _
    · exact State.takeIn_prismKept _ _ _
  · exact State.sendAgain_prismKept _ _

theorem State.finishMove_prismKept (s : State) (m : Move) (forced : Option Nat) : PrismKept s (s.finishMove m forced) := by
  unfold State.finishMove
  extract_lets _ s1 s2 s3
  have told : PrismKept s s3 := by
    unfold s3
    split
    · exact .of_eq rfl
    · exact .of_eq ((State.raise_within _ _).prism_eq (by decide))
  exact told.trans (.each (fun it t => State.releaseItem_prismKept t _ it) _ _)

theorem State.settleMarks_prismKept (s : State) (m : Move) : PrismKept s (s.settleMarks m) := by
  unfold State.settleMarks
  split
  · exact State.finishMove_prismKept _ _ _
  · exact .refl s

theorem State.startMove_prismKept (s : State) (u b : Nat) (old new : Path) (fence : Option Nat) :
    PrismKept s (s.startMove u b old new fence) := by
  unfold State.startMove
  split
  · exact .within (State.turnMove_within _ _ _ _) (by decide)
  · extract_lets r ph bd s1 m
    have pulled : PrismKept s r.2 := .within (State.pullBucket_within s u b old 8) (by decide)
    have begun : PrismKept r.2 ph.2 := by
      unfold ph
      clear_value r
      split
      · exact State.beginPhase_prismKept _ _ _ _
      · exact PrismKept.refl r.2
    have mapped : PrismKept ph.2 s1 := .of_eq rfl
    refine (((pulled.trans begun).trans mapped).trans (.of_eq ?_)).trans (State.settleMarks_prismKept _ _)
    rfl

theorem State.moveBuckets_prismKept (u : Nat) (old : Path) (fence : Option Nat) : ∀ (bs : List Nat) (s : State),
    PrismKept s (State.moveBuckets u old fence bs s)
  | [], s => .refl s
  | b :: bs, s => by
    unfold State.moveBuckets
    split
    · exact (State.startMove_prismKept s _ _ _ _ _).trans (State.moveBuckets_prismKept u old fence bs _)
    · exact State.moveBuckets_prismKept u old fence bs s

theorem State.moveOff_prismKept (s : State) (old : Path) (fence : Option Nat) : PrismKept s (s.moveOff old fence) := by
  unfold State.moveOff
  exact .each (fun u t => State.moveBuckets_prismKept u _ _ _ t) _ _

/-- The packets unacknowledged and in flight on a port taken back, with those of its queues (R317). -/
theorem State.replayHandover_prismKept (s : State) (port : Nat) (keys : List Nat) : PrismKept s (s.replayHandover port keys) := by
  unfold State.replayHandover
  extract_lets sent lastAck s1 _ s2 q s3 items _ s4 s5 _ s6
  have voided : PrismKept s s1 := by
    unfold s1
    exact PrismKept.each (fun k t => .of_eq (t := t.setLink k _) rfl) keys s
  have pulled : PrismKept s2 s3 := .within (State.toMoveCells_step (m := 336) rfl
    (Within.step (State.drainQueues_within s2 port 8) rfl (.refl _ _))) (by decide)
  have moved : PrismKept s4 s5 := by
    unfold s5
    split
    · exact State.moveOff_prismKept _ _ _
    · exact .each (fun j t => State.moveOff_prismKept t _ _) _ _
  exact (((((voided.trans (.of_eq (t := s2) rfl)).trans pulled).trans (.of_eq (t := s4) rfl)).trans moved).trans
    (.of_eq (t := s6) rfl)).trans (.each (fun it t => State.handOver_prismKept t _) _ _)

/-! ## Reads of ports and peers -/

theorem State.port_of_ports {t : State} (h : t.ports = s.ports) (p : Nat) : t.port p = s.port p := by
  rw [State.port, State.port, h]

theorem State.peer_of_peers {t : State} (h : t.peers = s.peers) (j : Nat) : t.peer j = s.peer j := by
  rw [State.peer, State.peer, h]

theorem State.port_setPort_self (h : Tbl.wf (fun _ => Port.init) s.ports = true) (p : Nat) (x : Port) :
    (s.setPort p x).port p = x := by rw [State.port_setPort h, if_pos rfl]

theorem State.peer_setPeer_self (h : Tbl.wf (fun _ => Peer.init) s.peers = true) (j : Nat) (x : Peer) :
    (s.setPeer j x).peer j = x := by rw [State.peer_setPeer h, if_pos rfl]

theorem State.plane_setPlane_self (h : Tbl.wf (fun _ => Plane.init) s.planes = true) (p : Nat) (x : Plane) :
    (s.setPlane p x).plane p = x := by rw [State.plane_setPlane h, if_pos rfl]

/-- The packet at the head of a port's link-local queue taken. -/
def State.llqTaken (s : State) (port : Nat) (rest : List Packet) : State := s.setPort port { s.port port with llq := rest }

theorem State.llqTaken_within (port : Nat) (rest : List Packet) : Within 128 s (s.llqTaken port rest) :=
  State.setPort_within _ _ _

theorem State.llqTaken_llq (h : Tbl.wf (fun _ => Port.init) s.ports = true) (port : Nat) (rest : List Packet) :
    ((s.llqTaken port rest).port port).llq = rest := by rw [State.llqTaken, State.port_setPort_self h]

/-- The position that a plane delivers from depends on the planes, the registers and the clock. -/
theorem State.deliveredBy_of_parts {t : State} (planes : t.planes = s.planes) (regs : t.regs = s.regs) (clk : t.clk = s.clk)
    (p : Nat) : t.deliveredBy p = s.deliveredBy p := by
  have pos : t.prismPos = s.prismPos := State.fld_of_regs regs _ _ _
  have tb0 : t.tb0 = s.tb0 := by rw [State.tb0, State.tb0, clk]
  have colour : t.slotColour p = s.slotColour p := by rw [State.slotColour, State.slotColour, State.slotNs_of_regs regs, tb0]
  simp only [State.deliveredBy, State.plane_of_planes planes, pos, colour]

theorem State.deliveredBy_llqTaken (port : Nat) (rest : List Packet) (p : Nat) :
    (s.llqTaken port rest).deliveredBy p = s.deliveredBy p :=
  State.deliveredBy_of_parts ((State.llqTaken_within _ _).planes_eq (by decide)) ((State.llqTaken_within _ _).regs_eq (by decide))
    ((State.llqTaken_within _ _).clk_eq (by decide)) p

/-! ## Discovery (R302, R303) -/

/-- What is heard while the module listens is noted once. -/
def State.heardNoted (s : State) (h : Nat × Nat × Nat) : State :=
  { s with prism := { s.prism with heard := if s.prism.heard.contains h then s.prism.heard else s.prism.heard ++ [h] } }

theorem State.mem_heardNoted (h : Nat × Nat × Nat) : h ∈ (s.heardNoted h).prism.heard := by
  change h ∈ (if s.prism.heard.contains h then s.prism.heard else s.prism.heard ++ [h])
  split
  · next heard => exact List.contains_iff_mem.mp heard
  · exact List.mem_append_right _ List.mem_cons_self

section
variable {p : Fin 64} {skew power : Fin 256} {pkt : Packet} {rest : List Packet}
  (head : takeLocal tyLC_DISCOVER (s.port (1024 + p)).llq = some (pkt, rest))
include head

theorem exec_discoverReceive_of_listening (listening : s.prism.listenEnd.isSome = true) :
    exec (.discoverReceive p skew power) s = .next ((s.llqTaken (1024 + p) rest).heardNoted
      (p.val, pkt.fld 5 21 16, slotNumber (s.llqTaken (1024 + p) rest).slotNs (s.llqTaken (1024 + p) rest).tb0 % 64)) := by
  change execDiscoverReceive p skew power s = _
  unfold execDiscoverReceive
  extract_lets port
  rw [head]
  exact if_pos listening

/-- Outside listening the discovery packet is checked against the routing law. -/
theorem execDiscoverReceive_of_joined {g : Nat} (joined : s.prism.listenEnd = none) (from_ : s.deliveredBy p = some g) :
    execDiscoverReceive p skew power s = if pkt.fld 5 21 16 ≠ g then
        ok (if pkt.fld 5 21 16 = ((s.llqTaken (1024 + p) rest).miswire p).prismPos
          ∧ (((s.llqTaken (1024 + p) rest).miswire p).peer g).st ≠ .dead
          then ((s.llqTaken (1024 + p) rest).miswire p).colourDeath g 3 else (s.llqTaken (1024 + p) rest).miswire p)
      else if g = (s.llqTaken (1024 + p) rest).prismPos then ok (s.llqTaken (1024 + p) rest)
      else ok ((s.llqTaken (1024 + p) rest).discovered p g (pkt.fld 5 31 22) skew power) := by
  have deaf : ¬ (s.llqTaken (1024 + p) rest).prism.listenEnd.isSome = true := by
    rw [State.llqTaken, State.setPort_prism, joined]
    exact Bool.false_ne_true
  have law := (State.deliveredBy_llqTaken (1024 + p) rest p).trans from_
  unfold execDiscoverReceive
  extract_lets port
  rw [head]
  refine (if_neg deaf).trans ?_
  dsimp only
  rw [← State.llqTaken, law]

end

theorem discoverReceive_gives_listening (h : s.canonical = true) {p : Fin 64} {skew power : Fin 256} {pkt : Packet}
    {rest : List Packet} (head : takeLocal tyLC_DISCOVER (s.port (1024 + p)).llq = some (pkt, rest))
    (listening : s.prism.listenEnd.isSome = true) :
    Gives (.discoverReceive p skew power) s (fun t => (t.port (1024 + p)).llq = rest ∧ t.peers = s.peers
      ∧ (p.val, pkt.fld 5 21 16, slotNumber s.slotNs s.tb0 % 64) ∈ t.prism.heard) := by
  have run := exec_discoverReceive_of_listening (skew := skew) (power := power) head listening
  have tb0 : (s.llqTaken (1024 + p) rest).tb0 = s.tb0 := rfl
  rw [State.slotNs_of_regs ((State.llqTaken_within (s := s) _ _).regs_eq (by decide)), tb0] at run
  exact ⟨_, run, State.llqTaken_llq (State.canonical.ports h) _ _, rfl, State.mem_heardNoted _⟩

/-- A peer that is found (R303). -/
def State.found (s : State) (j spine skew power : Nat) : State :=
  s.setPeer j { s.peer j with st := .discovering, spineId := spine, skew := skew, rxPower := power, lastFrame := s.now }

theorem State.discovered_of_unknown {p j spine skew power : Nat} (free : s.spineTaken j spine = false)
    (st : (s.peer j).st = .unknown) : s.discovered p j spine skew power = s.found j spine skew power
      ∨ s.discovered p j spine skew power = (s.found j spine skew power).sendReady (1024 + p) := by
  have new : ((s.peer j).st == .unknown || (s.peer j).st == .dead) = true := by rw [st]; rfl
  unfold State.discovered
  extract_lets x n s1
  rw [free, if_neg Bool.false_ne_true]
  have stored : s1 = s.found j spine skew power := by
    unfold s1 State.found
    rw [if_pos new]
  rw [stored]
  split
  · exact .inr rfl
  · exact .inl rfl

theorem discoverReceive_gives_found (h : s.canonical = true) {p : Fin 64} {skew power : Fin 256} {pkt : Packet}
    {rest : List Packet} {g : Nat} (head : takeLocal tyLC_DISCOVER (s.port (1024 + p)).llq = some (pkt, rest))
    (joined : s.prism.listenEnd = none) (from_ : s.deliveredBy p = some g) (law : pkt.fld 5 21 16 = g) (other : g ≠ s.prismPos)
    (free : s.spineTaken g (pkt.fld 5 31 22) = false) (st : (s.peer g).st = .unknown) :
    Gives (.discoverReceive p skew power) s (fun t => (t.port (1024 + p)).llq = rest
      ∧ (t.peer g).st = .discovering ∧ (t.peer g).spineId = pkt.fld 5 31 22 ∧ (t.peer g).lastFrame = s.now
      ∧ (t.peer g).skew = skew ∧ (t.peer g).rxPower = power) := by
  have taken := State.llqTaken_within (s := s) (1024 + p) rest
  have peers := taken.peers_eq (by decide)
  have regs := taken.regs_eq (by decide)
  have clk := taken.clk_eq (by decide)
  have llq := State.llqTaken_llq (State.canonical.ports h) (1024 + p) rest
  have pos : (s.llqTaken (1024 + p) rest).prismPos = s.prismPos := State.fld_of_regs regs _ _ _
  have run : exec (.discoverReceive p skew power) s
      = .next ((s.llqTaken (1024 + p) rest).discovered p g (pkt.fld 5 31 22) skew power) := by
    change execDiscoverReceive p skew power s = _
    rw [execDiscoverReceive_of_joined head joined from_, if_neg (not_not_intro law), pos, if_neg other]
  generalize s.llqTaken (1024 + p) rest = u at *
  have peer (j : Nat) : u.peer j = s.peer j := State.peer_of_peers peers j
  have spine : u.spineId = s.spineId := State.fld_of_regs regs _ _ _
  have free' : u.spineTaken g (pkt.fld 5 31 22) = false := by
    rw [← free]
    simp only [State.spineTaken, spine, State.peerLive, peer]
  have there : (u.found g (pkt.fld 5 31 22) skew power).peer g =
      { u.peer g with st := .discovering, spineId := pkt.fld 5 31 22, skew := skew, rxPower := power, lastFrame := u.now } :=
    State.peer_setPeer_self (by rw [peers]; exact State.canonical.peers h) _ _
  have now : u.now = s.now := by rw [State.now, clk]
  have same : ((u.discovered p g (pkt.fld 5 31 22) skew power).peer g = (u.found g (pkt.fld 5 31 22) skew power).peer g)
      ∧ ((u.discovered p g (pkt.fld 5 31 22) skew power).port (1024 + p)) = u.port (1024 + p) := by
    obtain e | e := State.discovered_of_unknown (p := p.val) (skew := skew.val) (power := power.val) free' (by rw [peer]; exact st)
    · rw [e]
      exact ⟨rfl, rfl⟩
    · have sent := State.sendReady_within (u.found g (pkt.fld 5 31 22) skew power) (1024 + p)
      rw [e]
      exact ⟨State.peer_of_peers (sent.peers_eq (by decide)) g, (State.port_of_ports (sent.ports_eq (by decide)) _).trans rfl⟩
  refine ⟨_, run, ?_⟩
  dsimp only
  rw [same.1, same.2, there, now]
  exact ⟨llq, rfl, rfl, rfl, rfl, rfl⟩

theorem State.miswire_plane (h : Tbl.wf (fun _ => Plane.init) s.planes = true) (p : Nat) :
    ((s.miswire p).plane p).st = .miswired := by
  have accounted : s.accountPlanes.planes = s.planes := (State.accountPlanes_within s).planes_eq (by decide)
  have wf : Tbl.wf (fun _ => Plane.init) s.accountPlanes.planes = true := by rw [accounted]; exact h
  have there := State.plane_setPlane_self wf p { s.accountPlanes.plane p with st := .miswired }
  unfold State.miswire
  extract_lets s1 _ s2 s3 s4
  have told : s3.planes = s2.planes := (State.raise_within _ _).planes_eq (by decide)
  have handed : s4.planes = s3.planes := (State.replayHandover_within _ _ _).planes_eq (by decide)
  have voided : Within 256 s4 (forEach (fun k (s : State) => s.setLink k (s.link k).voided) (linkKeys (1024 + p)) s4) :=
    Within.stepEach (fun k s => State.setLink_within _ _ _) (.refl _ _)
  have planes := ((voided.planes_eq (by decide)).trans handed).trans told
  have same : ((forEach (fun k (s : State) => s.setLink k (s.link k).voided) (linkKeys (1024 + p)) s4).emit
      (.laser (1024 + p) false)).plane p = s2.plane p := State.plane_of_planes planes p
  rw [same]
  exact congrArg Plane.st there

theorem discoverReceive_gives_miswired (h : s.canonical = true) {p : Fin 64} {skew power : Fin 256} {pkt : Packet}
    {rest : List Packet} {g : Nat} (head : takeLocal tyLC_DISCOVER (s.port (1024 + p)).llq = some (pkt, rest))
    (joined : s.prism.listenEnd = none) (from_ : s.deliveredBy p = some g) (broken : pkt.fld 5 21 16 ≠ g)
    (other : pkt.fld 5 21 16 ≠ s.prismPos) :
    Gives (.discoverReceive p skew power) s (fun t => (t.plane p).st = .miswired ∧ t.peers = s.peers) := by
  have taken := State.llqTaken_within (s := s) (1024 + p) rest
  have wired := State.miswire_within (s.llqTaken (1024 + p) rest) p
  have pos : ((s.llqTaken (1024 + p) rest).miswire p).prismPos = s.prismPos :=
    State.fld_of_regs ((wired.regs_eq (by decide)).trans (taken.regs_eq (by decide))) _ _ _
  have run : exec (.discoverReceive p skew power) s = .next ((s.llqTaken (1024 + p) rest).miswire p) := by
    change execDiscoverReceive p skew power s = _
    rw [execDiscoverReceive_of_joined head joined from_, if_pos broken, pos, if_neg (fun k => other k.1)]
  refine ⟨_, run, State.miswire_plane ?_ p, (wired.peers_eq (by decide)).trans (taken.peers_eq (by decide))⟩
  rw [taken.planes_eq (by decide)]
  exact State.canonical.planes h

/-! ## Ready, withdrawal and silence (R303, R304) -/

/-- The planes that had a peer as unreachable reach it again. -/
def State.reachable (s : State) (j : Nat) : State :=
  forEach (fun p (s : State) => s.setPlane p { s.plane p with
    unreachable := (s.plane p).unreachable.filter (· != j),
    missed := (s.plane p).missed.filter (fun m => m.1 != j) }) (List.range 64) s

theorem State.reachable_peers (j : Nat) : (s.reachable j).peers = s.peers := by
  have each : Within 1024 s (s.reachable j) := Within.stepEach (fun p s => State.setPlane_within _ _ _) (.refl _ _)
  exact each.peers_eq (by decide)

theorem lcReadyReceive_gives (h : s.canonical = true) {port : Fin 1088} {pkt : Packet} {rest : List Packet} {j : Nat}
    (head : takeLocal tyLC_READY (s.port port).llq = some (pkt, rest)) (bp : 1024 ≤ port.val)
    (from_ : s.deliveredBy (port - 1024) = some j) (st : (s.peer j).st = .discovering) :
    Gives (.lcReadyReceive port) s (fun t => t.peer j = { s.peer j with st := .live }) := by
  have law := (State.deliveredBy_llqTaken port rest (port - 1024)).trans from_
  have peers := (State.llqTaken_within (s := s) port rest).peers_eq (by decide)
  have st' : ((s.llqTaken port rest).peer j).st = .discovering := by rw [State.peer_of_peers peers]; exact st
  have run : exec (.lcReadyReceive port) s = .next (((s.llqTaken port rest).setPeer j
      { (s.llqTaken port rest).peer j with st := .live }).reachable j).reconsider := by
    change execLcReadyReceive port s = _
    rw [execLcReadyReceive, head]
    dsimp only
    rw [← State.llqTaken, if_neg (by omega), law]
    exact if_pos (.inl st')
  refine ⟨_, run, ?_⟩
  dsimp only
  rw [State.peer_of_peers ((State.reconsider_within _).peers_eq (by decide)), State.peer_of_peers (State.reachable_peers j),
    State.peer_setPeer_self (by rw [peers]; exact State.canonical.peers h), State.peer_of_peers peers]

theorem lcWithdrawReceive_gives (h : s.canonical = true) {port : Fin 1088} {pkt : Packet} {rest : List Packet} {j : Nat}
    (head : takeLocal tyLC_WITHDRAW (s.port port).llq = some (pkt, rest)) (bp : 1024 ≤ port.val)
    (from_ : s.deliveredBy (port - 1024) = some j) (st : (s.peer j).st = .live) :
    Gives (.lcWithdrawReceive port) s (fun t => t.peer j = { s.peer j with st := .withdrawn }) := by
  have law := (State.deliveredBy_llqTaken port rest (port - 1024)).trans from_
  have peers := (State.llqTaken_within (s := s) port rest).peers_eq (by decide)
  have st' : ((s.llqTaken port rest).peer j).st = .live := by rw [State.peer_of_peers peers]; exact st
  have run : exec (.lcWithdrawReceive port) s = .next (forEach (fun p (s : State) => s.moveOff (.plane p j) none) (List.range 64)
      ((s.llqTaken port rest).setPeer j { (s.llqTaken port rest).peer j with st := .withdrawn })) := by
    change execLcWithdrawReceive port s = _
    rw [execLcWithdrawReceive, head]
    dsimp only
    rw [← State.llqTaken, if_neg (by omega), law]
    exact if_pos st'
  have moved (u : State) : Within 13824952788 u (forEach (fun p (s : State) => s.moveOff (.plane p j) none) (List.range 64) u) :=
    Within.stepEach (fun p s => State.moveOff_within _ _ _) (.refl _ _)
  refine ⟨_, run, ?_⟩
  dsimp only
  rw [State.peer_of_peers ((moved _).peers_eq (by decide)),
    State.peer_setPeer_self (by rw [peers]; exact State.canonical.peers h), State.peer_of_peers peers]

theorem State.peers_reach (t : Nat) : (s.reach t).peers = s.peers := (State.reach_within s t).peers_eq (by decide)

theorem peerSilenceTimeout_gives_unknown (h : s.canonical = true) {j : Fin 64} (watched : s.deadNs ≠ 0)
    (delivers : s.delivers j = true) (st : (s.peer j).st = .discovering) :
    Gives (.peerSilenceTimeout j) s (fun t => t.peer j = { s.peer j with st := .unknown }
      ∧ t.now = max s.now ((s.peer j).lastFrame + s.deadNs)) := by
  have run : exec (.peerSilenceTimeout j) s = .next ((s.reach ((s.peer j).lastFrame + s.deadNs)).setPeer j
      { s.peer j with st := .unknown }) := by
    change execPeerSilenceTimeout j s = _
    unfold execPeerSilenceTimeout
    extract_lets x t
    rw [if_neg (by simp [watched, delivers]), show x.st = .discovering from st]
  refine ⟨_, run, State.peer_setPeer_self ?_ _ _, State.now_reach _⟩
  rw [State.peers_reach]
  exact State.canonical.peers h

theorem State.colourDeath_peer (h : Tbl.wf (fun _ => Peer.init) s.peers = true) (j cause : Nat) :
    (s.colourDeath j cause).peer j = { s.peer j with st := .dead, cause := cause } := by
  unfold State.colourDeath
  extract_lets x s1 s2
  have handed : Within 13824952788 s2 (forEach (fun p (s : State) => s.pairHandover p j) (s2.aimed j) s2) :=
    Within.stepEach (fun p s => State.pairHandover_within _ _ _) (.refl _ _)
  have told : s2.peers = s1.peers := (State.raise_within _ _).peers_eq (by decide)
  rw [State.peer_of_peers ((State.rootDead_within _ _).peers_eq (by decide)), State.peer_of_peers (handed.peers_eq (by decide)),
    State.peer_of_peers told]
  exact State.peer_setPeer_self h _ _

theorem peerSilenceTimeout_gives_dead (h : s.canonical = true) {j : Fin 64} (watched : s.deadNs ≠ 0)
    (delivers : s.delivers j = true) (st : (s.peer j).st = .live) :
    Gives (.peerSilenceTimeout j) s (fun t => t.peer j = { s.peer j with st := .dead, cause := 1 }
      ∧ t.now = max s.now ((s.peer j).lastFrame + s.deadNs)) := by
  have run : exec (.peerSilenceTimeout j) s = .next ((s.reach ((s.peer j).lastFrame + s.deadNs)).colourDeath j 1) := by
    change execPeerSilenceTimeout j s = _
    unfold execPeerSilenceTimeout
    extract_lets x t
    rw [if_neg (by simp [watched, delivers]), show x.st = .live from st]
  have peers := State.peers_reach (s := s) ((s.peer j).lastFrame + s.deadNs)
  refine ⟨_, run, ?_, ?_⟩
  · rw [State.colourDeath_peer (by rw [peers]; exact State.canonical.peers h), State.peer_of_peers peers]
  · rw [State.now, (State.colourDeath_within _ _ _).clk_eq (by decide)]
    exact State.now_reach _

/-! ## The end of listening (R302) -/

/-- What listening left is as it was. -/
def HeardKept (s t : State) : Prop := t.prism.listenEnd = s.prism.listenEnd ∧ t.prism.heard = s.prism.heard

theorem PrismKept.heard {t : State} (h : PrismKept s t) : HeardKept s t := by
  obtain ⟨behind, h⟩ := h
  rw [HeardKept, h]
  exact ⟨rfl, rfl⟩

theorem HeardKept.trans {t u : State} (h : HeardKept s t) (k : HeardKept t u) : HeardKept s u :=
  ⟨k.1.trans h.1, k.2.trans h.2⟩

theorem State.accountPlanes_heard : HeardKept s s.accountPlanes := by
  obtain ⟨nsAt, dataNs, e⟩ := State.accountPlanes_prism s
  rw [HeardKept, e]
  exact ⟨rfl, rfl⟩

theorem State.miswire_heard (s : State) (p : Nat) : HeardKept s (s.miswire p) := by
  unfold State.miswire
  extract_lets s1 _ s2 s3 s4
  have told : PrismKept s1 s3 := .of_eq ((State.raise_within s2 _).prism_eq (by decide))
  have voided : PrismKept s4 (forEach (fun k (s : State) => s.setLink k (s.link k).voided) (linkKeys (1024 + p)) s4) :=
    .each (fun k t => .of_eq ((State.setLink_within _ _ _).prism_eq (by decide))) _ _
  exact State.accountPlanes_heard.trans
    (((told.trans (State.replayHandover_prismKept _ _ _)).trans voided).trans (.of_eq rfl)).heard

theorem State.light_heard (s : State) (p : Nat) (x : PlaneState) : HeardKept s (s.light p x) := by
  unfold State.light
  split
  · exact ⟨rfl, rfl⟩
  · exact State.miswire_heard s p
  · exact (PrismKept.of_eq ((State.beginTraining_within _ _).prism_eq (by decide))).heard

theorem State.lightEach_heard : ∀ (l : List (Nat × PlaneState)) (s : State),
    HeardKept s (forEach (fun x (s : State) => s.light x.1 x.2) l s)
  | [], _ => ⟨rfl, rfl⟩
  | x :: l, s => (State.light_heard s x.1 x.2).trans (State.lightEach_heard l _)

/-- Listening is over. -/
def State.listened (s : State) : State := { s with prism := { s.prism with listenEnd := none, heard := [] } }

theorem exec_prismListenEnd_of_some {t0 : Nat} (listening : s.prism.listenEnd = some t0) : ∃ l : List (Nat × PlaneState),
    exec .prismListenEnd s = .next (forEach (fun x (s : State) => s.light x.1 x.2) l (s.reach t0).listened) := by
  change ∃ l, execPrismListenEnd s = _
  rw [execPrismListenEnd, listening]
  exact ⟨_, rfl⟩

theorem prismListenEnd_gives {t0 : Nat} (listening : s.prism.listenEnd = some t0) :
    Gives .prismListenEnd s (fun t => t.prism.listenEnd = none ∧ t.prism.heard = [] ∧ t.now = max s.now t0) := by
  obtain ⟨l, run⟩ := exec_prismListenEnd_of_some listening
  obtain ⟨listenEnd, heard⟩ := State.lightEach_heard l (s.reach t0).listened
  have lit : Within 13824953812 (s.reach t0).listened
      (forEach (fun x (s : State) => s.light x.1 x.2) l (s.reach t0).listened) :=
    Within.stepEach (fun x s => State.light_within _ _ _) (.refl _ _)
  refine ⟨_, run, listenEnd, heard, ?_⟩
  rw [State.now, lit.clk_eq (by decide)]
  exact State.now_reach t0

/-- Settles O39. -/
theorem peersFollowTheirStates : Obligations.PeersFollowTheirStates := fun _ h =>
  ⟨fun _ _ _ _ _ => discoverReceive_gives_listening h, fun _ _ _ _ _ _ => discoverReceive_gives_found h,
    fun _ _ _ _ _ _ => discoverReceive_gives_miswired h, fun _ _ _ _ => lcReadyReceive_gives h,
    fun _ _ _ _ => lcWithdrawReceive_gives h, fun _ => peerSilenceTimeout_gives_unknown h,
    fun _ => peerSilenceTimeout_gives_dead h, fun _ => prismListenEnd_gives⟩

end Sys2Proof.Machine

/-!
PROOFS. Training of ports, lanes and light (R305, R315 to R317).
-/
namespace Sys2Proof.Machine

variable {s : State}

/-! ## What packets on their way change of ports -/

/-- Every port is as it was but for the packets of its link-local queue. -/
def PortsKept (s t : State) : Prop := Tbl.wf (fun _ => Port.init) s.ports = true →
  Tbl.wf (fun _ => Port.init) t.ports = true ∧ ∀ q, ∃ llq, t.port q = { s.port q with llq := llq }

theorem PortsKept.trans {t u : State} (h : PortsKept s t) (k : PortsKept t u) : PortsKept s u := by
  intro wf
  obtain ⟨wf', port⟩ := h wf
  obtain ⟨wf'', port'⟩ := k wf'
  refine ⟨wf'', fun q => ?_⟩
  obtain ⟨l, e⟩ := port q
  obtain ⟨l', e'⟩ := port' q
  exact ⟨l', by rw [e', e]⟩

theorem PortsKept.of_eq {t : State} (h : t.ports = s.ports) : PortsKept s t := fun wf =>
  ⟨by rw [h]; exact wf, fun q => ⟨(s.port q).llq, State.port_of_ports h q⟩⟩

theorem PortsKept.refl (s : State) : PortsKept s s := .of_eq rfl

theorem PortsKept.within {m : Nat} {t : State} (k : Within m s t) (c : m.testBit 7 = false) : PortsKept s t :=
  .of_eq (k.ports_eq c)

theorem PortsKept.each {α : Type} {f : α → State → State} (k : ∀ x s, PortsKept s (f x s)) :
    ∀ (l : List α) (s : State), PortsKept s (forEach f l s)
  | [], s => .refl s
  | x :: l, s => (k x s).trans (PortsKept.each k l _)

/-- A packet joins the link-local queue of a port. -/
theorem State.setPort_portsKept (p : Nat) (l : List Packet) : PortsKept s (s.setPort p { s.port p with llq := l }) := by
  intro wf
  refine ⟨Tbl.wf_put wf _ _, fun q => ?_⟩
  rw [State.port_setPort wf]
  split
  · next same => exact ⟨l, by rw [same]⟩
  · exact ⟨(s.port q).llq, rfl⟩

theorem State.tick_portsKept (s : State) : PortsKept s s.tick := .of_eq rfl

theorem State.dispatch_portsKept (s : State) (it : Item) (r : Route) : PortsKept s (s.dispatch it r) := by
  unfold State.dispatch
  split
  · extract_lets it'
    exact ((PortsKept.within (State.noteBucket_within s _ it') (by decide)).trans (State.tick_portsKept _)).trans
      (.within (State.takeIn_within _ _ _) (by decide))
  · next via egress j =>
    exact ((PortsKept.within (State.noteDetour_within s via j) (by decide)).trans (State.tick_portsKept _)).trans
      (.within (State.takeIn_within _ _ _) (by decide))
  · next u b =>
    exact (PortsKept.within (State.noteBucket_within s (some (u, b)) it) (by decide)).trans
      (.within (State.holdForMove_within _ _ _ _) (by decide))
  · exact .of_eq rfl
  · exact .of_eq ((State.txDone_within _ _ _).ports_eq (by decide))
  · extract_lets s1 s2
    have out : PortsKept s s2 := .of_eq (((State.freeItem_within _ _ _).ports_eq (by decide)).trans
      ((State.bankLeave_within _ _ _).ports_eq (by decide)))
    split
    · exact out.trans (State.setPort_portsKept _ _)
    · exact out
  · exact (PortsKept.of_eq (t := s.tick) rfl).trans (.within (State.holdItem_within _ _) (by decide))
  · exact (PortsKept.within (State.dropItem_within _ _ _ _) (by decide)).trans (.within (State.entered_within _ _) (by decide))

theorem State.filterItem_portsKept (s : State) (c : Nat) (it : Item) : PortsKept s (s.filterItem c it) :=
  .within (State.filterItem_within _ _ _) (by decide)

theorem State.sendAgain_portsKept (s : State) (it : Item) : PortsKept s (s.sendAgain it) := by
  unfold State.sendAgain
  split
  · exact State.dispatch_portsKept _ _ _
  · exact State.dispatch_portsKept _ _ _
  · unfold State.dispatchFrame
    split
    · exact State.filterItem_portsKept _ _ _
    · exact State.dispatch_portsKept _ _ _
    · exact State.dispatch_portsKept _ _ _

theorem State.releaseItem_portsKept (s : State) (new : Path) (it : Item) : PortsKept s (s.releaseItem new it) := by
  unfold State.releaseItem
  split
  · split
    · exact .within (State.takeIn_within _ _ _) (by decide)
    · exact .within (State.takeIn_within _ _ _) (by decide)
  · exact State.sendAgain_portsKept _ _

theorem State.finishMove_portsKept (s : State) (m : Move) (forced : Option Nat) : PortsKept s (s.finishMove m forced) := by
  unfold State.finishMove
  extract_lets _ s1 s2 s3
  have told : PortsKept s s3 := by
    unfold s3
    split
    · exact .of_eq rfl
    · exact .of_eq ((State.raise_within _ _).ports_eq (by decide))
  exact told.trans (.each (fun it t => State.releaseItem_portsKept t _ it) _ _)

theorem State.settleMarks_portsKept (s : State) (m : Move) : PortsKept s (s.settleMarks m) := by
  unfold State.settleMarks
  split
  · exact State.finishMove_portsKept _ _ _
  · exact .refl s

theorem State.startMove_portsKept (s : State) (u b : Nat) (old new : Path) (fence : Option Nat) :
    PortsKept s (s.startMove u b old new fence) := by
  unfold State.startMove
  split
  · exact .within (State.turnMove_within _ _ _ _) (by decide)
  · extract_lets r ph bd s1 m
    have pulled : PortsKept s r.2 := .within (State.pullBucket_within s u b old 8) (by decide)
    have begun : PortsKept r.2 ph.2 := by
      unfold ph
      clear_value r
      split
      · exact .within (State.beginPhase_within _ _ _ _) (by decide)
      · exact .refl r.2
    have mapped : PortsKept ph.2 s1 := .of_eq rfl
    refine (((pulled.trans begun).trans mapped).trans (.of_eq ?_)).trans (State.settleMarks_portsKept _ _)
    rfl

theorem State.offerHeld_portsKept {it : Item} {r : Route} {t : State} (e : s.offerHeld it r = some t) : PortsKept s t := by
  unfold State.offerHeld at e
  split at e
  · exact nomatch e
  · next bucket =>
    exact ((PortsKept.within (State.noteBucket_within s bucket it) (by decide)).trans (State.tick_portsKept _)).trans
      (.within (State.offer_within _ _ _ _ e) (by decide))
  · next via _ j =>
    exact ((PortsKept.within (State.noteDetour_within s via j) (by decide)).trans (State.tick_portsKept _)).trans
      (.within (State.offer_within _ _ _ _ e) (by decide))
  · obtain rfl := Option.some.inj e
    exact State.dispatch_portsKept _ _ _

theorem State.lookupHeld_portsKept {it : Item} {t : State} (e : s.lookupHeld it = some t) : PortsKept s t := by
  unfold State.lookupHeld at e
  split at e
  · exact State.offerHeld_portsKept e
  · exact State.offerHeld_portsKept e
  · split at e
    · obtain rfl := Option.some.inj e
      exact State.filterItem_portsKept _ _ _
    · obtain rfl := Option.some.inj e
      exact State.dispatch_portsKept _ _ _
    · exact State.offerHeld_portsKept e

theorem reconsiderAll_portsKept : ∀ (l : List Item) (s : State), PortsKept s (reconsiderAll l s)
  | [], s => .refl s
  | it :: l, s => by
    have stays := (PortsKept.of_eq (t := { s with dp := { s.dp with hold := s.dp.hold ++ [it] } }) (s := s) rfl).trans
      (reconsiderAll_portsKept l _)
    unfold reconsiderAll
    extract_lets stay
    split
    · exact stays
    · split
      · next e => exact (State.lookupHeld_portsKept e).trans (reconsiderAll_portsKept l _)
      · exact stays

theorem State.reconsider_portsKept (s : State) : PortsKept s s.reconsider :=
  (PortsKept.of_eq (t := { s with dp := { s.dp with hold := [] } }) rfl).trans (reconsiderAll_portsKept _ _)

theorem State.joinBundle_portsKept (s : State) (port uid : Nat) : PortsKept s (s.joinBundle port uid) := by
  unfold State.joinBundle
  split
  · exact .refl s
  · extract_lets b set s1
    split
    · exact .of_eq rfl
    · refine (PortsKept.of_eq (t := s1) rfl).trans (.each (fun i t => ?_) _ _)
      split
      · exact State.startMove_portsKept _ _ _ _ _ _
      · exact .refl t

/-- What is kept of a port: all but its queue. -/
theorem PortsKept.port {t : State} (k : PortsKept s t) (wf : Tbl.wf (fun _ => Port.init) s.ports = true) (q : Nat) :
    ∃ llq, t.port q = { s.port q with llq := llq } := (k wf).2 q

/-! ## Training, step by step (R315, R316) -/

theorem laneLock_gives (h : s.canonical = true) {port : Fin 1088} {lane : Fin 2} (st : (s.port port).st = .training)
    (step : (s.port port).step = 2) (eth : (s.port port).eth = false)
    (may : (lanesMinus (s.lanesAllowed port) (s.port port).los) &&& 2 ^ lane.val ≠ 0)
    (all : lanesMinus (s.lanesAllowed port) ((s.port port).lanesLocked ||| 2 ^ lane.val) = 0) :
    Gives (.laneLock port lane) s (fun t => t.port port = { s.port port with
      lanesLocked := (s.port port).lanesLocked ||| 2 ^ lane.val, step := 3, stepSince := s.now }) := by
  have run : exec (.laneLock port lane) s = .next ((s.setPort port { s.port port with
      lanesLocked := (s.port port).lanesLocked ||| 2 ^ lane.val }).lanesLock port) := by
    change execLaneLock port lane s = _
    unfold execLaneLock
    extract_lets p bit locked
    rw [if_neg may, if_pos ⟨st, step⟩, if_pos all]
  refine ⟨_, run, ?_⟩
  dsimp only
  have wf := State.canonical.ports h
  rw [State.lanesLock, State.port_setPort_self wf, if_neg (by rw [eth]; exact Bool.false_ne_true),
    State.port_setPort_self (Tbl.wf_put wf _ _)]
  rfl

theorem State.grantNow_of_regs {t : State} (h : t.regs = s.regs) : t.grantNow = s.grantNow := by
  have part (vc : Nat) : t.inRsvOf vc = s.inRsvOf vc := by rw [State.inRsvOf, State.inRsvOf, State.fld_of_regs h]
  rw [State.grantNow, State.grantNow, part, part, part, part]

theorem State.latchRsv_port (wf : Tbl.wf (fun _ => Port.init) s.ports = true) (port : Nat) :
    (s.latchRsv port).port port = { s.port port with rsv := s.grantNow } := State.port_setPort_self wf _ _

/-- The ports of a state whose links take their values after training. -/
theorem State.trainedLinks_ports (port : Nat) (g : Four) : (s.trainedLinks port g).ports = (s.latchRsv port).ports := by
  unfold State.trainedLinks
  extract_lets packet s1 own
  have set : Within 256 s1 (forEach (fun k (s : State) => s.setLink k
      { Link.init with credits := if packet then .zero else g, granted := g, grant := if packet then .zero else own })
      (linkKeys port) s1) := Within.stepEach (fun k s => State.setLink_within _ _ _) (.refl _ _)
  exact set.ports_eq (by decide)

theorem State.trainedLinks_port (wf : Tbl.wf (fun _ => Port.init) s.ports = true) (port : Nat) (g : Four) :
    (s.trainedLinks port g).port port = { s.port port with rsv := s.grantNow } := by
  rw [State.port_of_ports (State.trainedLinks_ports port g), State.latchRsv_port wf]

/-- The one link of a leaf port after training. -/
theorem State.trainedLinks_link (ports : Tbl.wf (fun _ => Port.init) s.ports = true)
    (links : Tbl.wf (fun _ => Link.init) s.links = true) {port : Nat} (leaf : port < 1024) (g : Four) :
    (s.trainedLinks port g).link (port * 64)
      = { Link.init with credits := g, granted := g, grant := s.grantAt port s.grantNow } := by
  unfold State.trainedLinks
  extract_lets packet s1 own
  have shared : packet = false := by
    unfold packet
    rw [decide_eq_false (Nat.not_le.mpr leaf), Bool.false_and]
  have set : own = s.grantAt port s.grantNow := by
    unfold own s1
    rw [State.latchRsv_port ports]
    rfl
  rw [shared, set, linkKeys, if_pos leaf]
  exact (State.link_setLink links _ _ _).trans (if_pos rfl)

theorem State.sendLocal_keeps (port : Nat) (p : Packet) :
    (s.sendLocal port p).ports = s.ports ∧ (s.sendLocal port p).links = s.links :=
  ⟨(State.sendLocal_within _ _ _).ports_eq (by decide), (State.sendLocal_within _ _ _).links_eq (by decide)⟩

/-- A port in flit lock, on the lanes locked (R315). -/
def State.flitLocked (s : State) (port : Nat) : State :=
  s.setPort port { s.port port with lanesUp := (s.port port).lanesLocked, goodFlits := 8, step := 5, stepSince := s.now, lastGood := s.now }

theorem execFlitLock_of_step3 {port : Fin 1088} {req rsp coll bulk : Fin 65536} (st : (s.port port).st = .training)
    (step : (s.port port).step = 3) : execFlitLock port req rsp coll bulk s =
      if port.val < 1024 then .next (((s.flitLocked port).trainedLinks port ⟨req, rsp, coll, bulk⟩).sendLocal port
          (((s.flitLocked port).trainedLinks port ⟨req, rsp, coll, bulk⟩).identPacket port))
        else .next ((((s.flitLocked port).trainedLinks port ⟨req, rsp, coll, bulk⟩).portUp port).reconsider) := by
  unfold execFlitLock
  extract_lets p s1
  rw [if_pos ⟨st, step⟩]
  rfl

theorem State.flitLocked_regs (port : Nat) : (s.flitLocked port).regs = s.regs := rfl

theorem flitLock_gives_leaf (h : s.canonical = true) {port : Fin 1088} {req rsp coll bulk : Fin 65536} (leaf : port.val < 1024)
    (st : (s.port port).st = .training) (step : (s.port port).step = 3) :
    Gives (.flitLock port req rsp coll bulk) s (fun t => t.port port = { s.port port with
        lanesUp := (s.port port).lanesLocked, goodFlits := 8, step := 5, stepSince := s.now, lastGood := s.now,
        rsv := s.grantNow }
      ∧ (t.link (port * 64)).credits = ⟨req, rsp, coll, bulk⟩
      ∧ (t.link (port * 64)).grant = s.grantAt port s.grantNow
      ∧ (t.link (port * 64)).txNext = 0 ∧ (t.link (port * 64)).replay = []) := by
  have run := execFlitLock_of_step3 (req := req) (rsp := rsp) (coll := coll) (bulk := bulk) st step
  rw [if_pos leaf] at run
  refine ⟨_, run, ?_⟩
  dsimp only
  have wf := State.canonical.ports h
  have locked : Tbl.wf (fun _ => Port.init) (s.flitLocked port).ports = true := Tbl.wf_put wf _ _
  have links : Tbl.wf (fun _ => Link.init) (s.flitLocked port).links = true := by
    rw [show (s.flitLocked port).links = s.links from rfl]
    exact State.canonical.links h
  generalize ((s.flitLocked port).trainedLinks port ⟨req, rsp, coll, bulk⟩).identPacket port = ident
  have link : (((s.flitLocked port).trainedLinks port ⟨req, rsp, coll, bulk⟩).sendLocal port ident).link (port * 64)
      = { Link.init with credits := ⟨req, rsp, coll, bulk⟩, granted := ⟨req, rsp, coll, bulk⟩,
                         grant := s.grantAt port s.grantNow } := by
    rw [State.link, (State.sendLocal_keeps _ _).2, ← State.link, State.trainedLinks_link locked links leaf,
      State.grantNow_of_regs (State.flitLocked_regs (s := s) port)]
    rfl
  rw [link, State.port_of_ports (State.sendLocal_keeps _ _).1, State.trainedLinks_port locked,
    State.grantNow_of_regs (State.flitLocked_regs (s := s) port), State.flitLocked, State.port_setPort_self wf]
  exact ⟨rfl, rfl, rfl, rfl, rfl⟩

/-! ## Ports up (R291, R315) -/

theorem State.planeUp_ports (port : Nat) : (s.planeUp port).ports = s.ports :=
  (State.planeUp_within _ _).ports_eq (by decide)

/-- A port whose training has ended. -/
theorem State.portUp_port (wf : Tbl.wf (fun _ => Port.init) s.ports = true) (port : Nat) :
    (s.portUp port).port port = { s.port port with
      st := if s.fld (portCtrl port) 30 30 = 1 then .draining else .up, step := 0, failures := 0,
      trained := (s.port port).trained + 1, lastGood := s.now } := by
  unfold State.portUp
  extract_lets p s1
  rw [State.port_of_ports ((State.raise_within _ _).ports_eq (by decide)), State.port_of_ports (State.planeUp_ports _)]
  exact State.port_setPort_self wf _ _

theorem State.portUp_ports_wf (wf : Tbl.wf (fun _ => Port.init) s.ports = true) (port : Nat) :
    Tbl.wf (fun _ => Port.init) (s.portUp port).ports = true := by
  unfold State.portUp
  extract_lets p s1
  rw [(State.raise_within _ _).ports_eq (by decide), State.planeUp_ports]
  exact Tbl.wf_put wf _ _

theorem State.planeUp_plane (wf : Tbl.wf (fun _ => Plane.init) s.planes = true) {port : Nat} (bp : 1024 ≤ port) :
    ((s.planeUp port).plane (port - 1024)).st = (s.plane (port - 1024)).next := by
  have planes : s.accountPlanes.planes = s.planes := (State.accountPlanes_within s).planes_eq (by decide)
  unfold State.planeUp
  rw [if_neg (by omega)]
  dsimp only
  rw [State.plane_setPlane_self (by rw [planes]; exact wf), State.plane_of_planes planes]

theorem State.portUp_plane (wf : Tbl.wf (fun _ => Plane.init) s.planes = true) {port : Nat} (bp : 1024 ≤ port) :
    ((s.portUp port).plane (port - 1024)).st = (s.plane (port - 1024)).next := by
  unfold State.portUp
  extract_lets p s1
  have told (t : State) (e : Ev) : (t.raise e).plane (port - 1024) = t.plane (port - 1024) :=
    State.plane_of_planes ((State.raise_within _ _).planes_eq (by decide)) _
  have counted : (s1.bump (C.PL_LINK_CNT (port / 64) (port % 64) 5) 1).planes = s.planes := (State.bump_within _ _ _).planes_eq (by decide)
  rw [told, State.planeUp_plane (by rw [counted]; exact wf) bp, State.plane_of_planes counted]

theorem flitLock_gives_bp (h : s.canonical = true) {port : Fin 1088} {req rsp coll bulk : Fin 65536} (bp : 1024 ≤ port.val)
    (st : (s.port port).st = .training) (step : (s.port port).step = 3) :
    Gives (.flitLock port req rsp coll bulk) s (fun t =>
      (t.port port).st = (if s.fld (portCtrl port) 30 30 = 1 then .draining else .up) ∧ (t.port port).failures = 0
      ∧ (t.plane (port - 1024)).st = (s.plane (port - 1024)).next) := by
  have run := execFlitLock_of_step3 (req := req) (rsp := rsp) (coll := coll) (bulk := bulk) st step
  rw [if_neg (by omega)] at run
  refine ⟨_, run, ?_⟩
  dsimp only
  have trained := State.trainedLinks_within (s.flitLocked port) port ⟨req, rsp, coll, bulk⟩
  have regs : ((s.flitLocked port).trainedLinks port ⟨req, rsp, coll, bulk⟩).regs = s.regs := trained.regs_eq (by decide)
  have planes : ((s.flitLocked port).trainedLinks port ⟨req, rsp, coll, bulk⟩).planes = s.planes := trained.planes_eq (by decide)
  have wf : Tbl.wf (fun _ => Port.init) ((s.flitLocked port).trainedLinks port ⟨req, rsp, coll, bulk⟩).ports = true := by
    rw [State.trainedLinks_ports]
    exact Tbl.wf_put (Tbl.wf_put (State.canonical.ports h) _ _) _ _
  generalize (s.flitLocked port).trainedLinks port ⟨req, rsp, coll, bulk⟩ = u at regs planes wf
  obtain ⟨llq, port'⟩ := (State.reconsider_portsKept (u.portUp port)).port (State.portUp_ports_wf wf port) port
  rw [port', State.plane_of_planes ((State.reconsider_within _).planes_eq (by decide)), State.portUp_port wf,
    State.portUp_plane (by rw [planes]; exact State.canonical.planes h) bp, State.plane_of_planes planes]
  exact ⟨by rw [State.fld_of_regs regs], rfl, rfl⟩

/-! ## Training that fails, and rests (R315) -/

theorem State.trainingFails_port (wf : Tbl.wf (fun _ => Port.init) s.ports = true) (port : Nat) :
    (s.trainingFails port).port port = { s.port port with
      st := .down, step := 0, lanesUp := 0, lanesLocked := 0, goodFlits := 0, restUntil := some (s.now + 1000000),
      failures := (s.port port).failures + 1,
      reason := if (s.port port).failures + 1 = 3 then 2 else (s.port port).reason } := by
  unfold State.trainingFails
  extract_lets p n s1
  have set := State.port_setPort_self wf port { p with
    st := .down, step := 0, lanesUp := 0, lanesLocked := 0, goodFlits := 0, restUntil := some (s.now + 1000000),
    failures := n, reason := if n = 3 then 2 else p.reason }
  have told : (if n = 3 then s1.raise (portEv 0x0102 1 port 2 0) else s1).ports = s1.ports := by
    split
    · exact (State.raise_within _ _).ports_eq (by decide)
    · rfl
  exact (State.port_of_ports told port).trans set

theorem State.ports_reach (t : Nat) : (s.reach t).ports = s.ports := (State.reach_within s t).ports_eq (by decide)

theorem trainingStepTimeout_gives (h : s.canonical = true) {port : Fin 1088} (st : (s.port port).st = .training)
    (step : 2 ≤ (s.port port).step) (unlocked : (s.port port).step = 2 → (s.port port).lanesLocked = 0) :
    Gives (.trainingStepTimeout port) s (fun t => t.now = max s.now (s.port port).stepEnd ∧ (t.port port).st = .down
      ∧ (t.port port).restUntil = some (t.now + 1000000) ∧ (t.port port).failures = (s.port port).failures + 1) := by
  have run : exec (.trainingStepTimeout port) s = .next ((s.reach (s.port port).stepEnd).trainingFails port) := by
    change execTrainingStepTimeout port s = _
    rw [execTrainingStepTimeout]
    extract_lets p
    rw [if_pos ⟨st, step⟩, if_neg (fun k => k.2 (unlocked k.1))]
  have ports := State.ports_reach (s := s) (s.port port).stepEnd
  have now : ((s.reach (s.port port).stepEnd).trainingFails port).now = (s.reach (s.port port).stepEnd).now := by
    rw [State.now, (State.trainingFails_within _ _).clk_eq (by decide), ← State.now]
  refine ⟨_, run, ?_⟩
  dsimp only
  rw [State.trainingFails_port (by rw [ports]; exact State.canonical.ports h), State.port_of_ports ports, now]
  exact ⟨State.now_reach _, rfl, rfl, rfl⟩

theorem exec_trainingRestExpiry {port : Fin 1088} {t0 : Nat} (rest : (s.port port).restUntil = some t0) :
    exec (.trainingRestExpiry port) s
      = .next (((s.reach t0).setPort port { s.port port with restUntil := none }).beginTraining port) := by
  change execTrainingRestExpiry port s = _
  rw [execTrainingRestExpiry, rest]

/-! ## Identities (R65, R66) -/

theorem exec_lcIdentReceive_of_step5 {port : Fin 1024} {pkt : Packet} {rest : List Packet}
    (head : takeLocal tyLC_IDENT (s.port port).llq = some (pkt, rest)) (st : (s.port port).st = .training)
    (step : (s.port port).step = 5) : exec (.lcIdentReceive port) s
      = .next ((s.llqTaken port rest).identified port (pkt.fld 6 31 0) (pkt.fld 5 9 6)) := by
  change execLcIdentReceive port s = _
  unfold execLcIdentReceive
  extract_lets p
  rw [head]
  exact if_pos ⟨st, step⟩

/-- A port that has taken an identity. -/
def State.named (s : State) (port uid member : Nat) : State :=
  s.setPort port { s.port port with uid := uid, member := member, identSeen := true, step := 0, failures := 0 }

theorem State.identified_of_held {port uid member : Nat} (st : (s.port port).st = .training)
    (held : s.holdReason port uid member ≠ 0) : s.identified port uid member = ((s.named port uid member).setPort port { (s.named port uid member).port port with
      st := .heldOut, reason := s.holdReason port uid member }).raise (portEv 0x0102 1 port (s.holdReason port uid member) 0) := by
  have out : ¬ ((s.port port).st = .up ∨ (s.port port).st = .draining) := by
    rw [st]
    simp
  unfold State.identified
  dsimp only
  rw [if_pos held, if_neg out]
  rfl

theorem State.identified_of_free {port uid member : Nat} (free : s.holdReason port uid member = 0) :
    s.identified port uid member = (((s.named port uid member).portUp port).joinBundle port uid).reconsider := by
  unfold State.identified
  extract_lets p r s1 s2
  rw [if_neg (not_not_intro free)]
  rfl

theorem lcIdentReceive_gives_absent (h : s.canonical = true) {port : Fin 1024} {pkt : Packet} {rest : List Packet}
    (head : takeLocal tyLC_IDENT (s.port port).llq = some (pkt, rest)) (st : (s.port port).st = .training)
    (step : (s.port port).step = 5) (absent : pkt.fld 6 31 0 = 0) :
    Gives (.lcIdentReceive port) s (fun t => (t.port port).st = .heldOut ∧ (t.port port).reason = 6
      ∧ (t.port port).llq = rest ∧ (t.port port).uid = 0) := by
  have wf := State.canonical.ports h
  have wf1 : Tbl.wf (fun _ => Port.init) (s.llqTaken port rest).ports = true := Tbl.wf_put wf _ _
  have wf2 : Tbl.wf (fun _ => Port.init) ((s.llqTaken port rest).named port 0 (pkt.fld 5 9 6)).ports = true := Tbl.wf_put wf1 _ _
  have reason : (s.llqTaken port rest).holdReason port 0 (pkt.fld 5 9 6) = 6 := if_pos rfl
  have taken : (s.llqTaken port rest).port port = { s.port port with llq := rest } := State.port_setPort_self wf _ _
  have run := exec_lcIdentReceive_of_step5 head st step
  rw [absent, State.identified_of_held (by rw [taken]; exact st) (by rw [reason]; decide), reason] at run
  refine ⟨_, run, ?_⟩
  dsimp only
  rw [State.port_of_ports ((State.raise_within _ _).ports_eq (by decide)), State.port_setPort_self wf2, State.named,
    State.port_setPort_self wf1, taken]
  exact ⟨rfl, rfl, rfl, rfl⟩

theorem lcIdentReceive_gives_up (h : s.canonical = true) {port : Fin 1024} {pkt : Packet} {rest : List Packet}
    (head : takeLocal tyLC_IDENT (s.port port).llq = some (pkt, rest)) (st : (s.port port).st = .training)
    (step : (s.port port).step = 5) (free : (s.setPort port { s.port port with llq := rest }).holdReason port
      (pkt.fld 6 31 0) (pkt.fld 5 9 6) = 0) :
    Gives (.lcIdentReceive port) s (fun t => (t.port port).uid = pkt.fld 6 31 0 ∧ (t.port port).member = pkt.fld 5 9 6
      ∧ (t.port port).st = (if s.fld (portCtrl port) 30 30 = 1 then .draining else .up)) := by
  have wf1 : Tbl.wf (fun _ => Port.init) (s.llqTaken port rest).ports = true := Tbl.wf_put (State.canonical.ports h) _ _
  have wf2 : Tbl.wf (fun _ => Port.init) ((s.llqTaken port rest).named port (pkt.fld 6 31 0) (pkt.fld 5 9 6)).ports = true :=
    Tbl.wf_put wf1 _ _
  have regs : ((s.llqTaken port rest).named port (pkt.fld 6 31 0) (pkt.fld 5 9 6)).regs = s.regs := rfl
  have named : ((s.llqTaken port rest).named port (pkt.fld 6 31 0) (pkt.fld 5 9 6)).port port = _ := State.port_setPort_self wf1 _ _
  have run := exec_lcIdentReceive_of_step5 head st step
  rw [State.identified_of_free (s := s.llqTaken port rest) free] at run
  generalize (s.llqTaken port rest).named port (pkt.fld 6 31 0) (pkt.fld 5 9 6) = u at *
  obtain ⟨llq, port'⟩ := ((State.joinBundle_portsKept (u.portUp port) port (pkt.fld 6 31 0)).trans
    (State.reconsider_portsKept _)).port (State.portUp_ports_wf wf2 port) port
  refine ⟨_, run, ?_⟩
  dsimp only
  rw [port', State.portUp_port wf2, named]
  exact ⟨rfl, rfl, by rw [State.fld_of_regs regs]⟩

theorem exec_lcIdentTimer {port : Fin 1024} (trained : (s.port port).trained_ = true) :
    exec (.lcIdentTimer port) s = .next (s.sendLocal port (s.identPacket port)) := by
  change execLcIdentTimer port s = _
  rw [execLcIdentTimer]
  exact if_pos (.inl trained)

/-- Settles O42. -/
theorem portsTrainStepByStep : Obligations.PortsTrainStepByStep := fun _ h =>
  ⟨fun _ _ => laneLock_gives h, fun _ _ _ _ _ => flitLock_gives_leaf h, fun _ _ _ _ _ => flitLock_gives_bp h,
    fun _ => trainingStepTimeout_gives h, fun _ _ => exec_trainingRestExpiry, fun _ _ _ => lcIdentReceive_gives_absent h,
    fun _ _ _ => lcIdentReceive_gives_up h, fun _ => exec_lcIdentTimer⟩

end Sys2Proof.Machine

/-!
PROOFS. Lanes that leave and rejoin, light, and silence (R305, R316, R317).
-/
namespace Sys2Proof.Machine

variable {s : State}

/-- One lane of two taken away leaves the other. -/
theorem lanesMinus_both (lane : Fin 2) : lanesMinus 3 (2 ^ lane.val) = 3 - 2 ^ lane.val := by
  revert lane
  decide

theorem both_sub_lane_ne_zero (lane : Fin 2) : 3 - 2 ^ lane.val ≠ 0 := by
  revert lane
  decide

theorem both_and_lane_ne_zero (lane : Fin 2) : 3 &&& 2 ^ lane.val ≠ 0 := by
  revert lane
  decide

/-- A trained port with two lanes runs on without one of them. -/
theorem State.laneLeaves_of_both {port : Nat} (lane : Fin 2) (reason : Nat) (trained : (s.port port).trained_ = true)
    (both : (s.port port).lanesUp = 3) : s.laneLeaves port lane reason = s.setPort port { s.port port with
      lanesUp := 3 - 2 ^ lane.val, lanesLocked := lanesMinus (s.port port).lanesLocked (2 ^ lane.val) } := by
  unfold State.laneLeaves
  dsimp only
  rw [if_pos trained, both, lanesMinus_both, if_neg (fun k => both_sub_lane_ne_zero lane k.2)]

/-- A lane degrade of a port with two lanes, counted (R316). -/
theorem State.degrade_gives (ports : Tbl.wf (fun _ => Port.init) s.ports = true) (cnt : Tbl.wf (fun _ => 0) s.cnt = true)
    {port : Nat} (lane : Fin 2) (reason : Nat) (trained : (s.port port).trained_ = true) (both : (s.port port).lanesUp = 3) :
    (s.degrade port lane reason).port port = { s.port port with
        lanesUp := 3 - 2 ^ lane.val, lanesLocked := lanesMinus (s.port port).lanesLocked (2 ^ lane.val) }
      ∧ (s.degrade port lane reason).count (C.PL_LINK_CNT (port / 64) (port % 64) 6)
        = (s.count (C.PL_LINK_CNT (port / 64) (port % 64) 6) + 1) % 2 ^ 64 := by
  have carried : (s.port port).trained_ = true ∧ (s.port port).lanesUp &&& 2 ^ lane.val ≠ 0 := by
    rw [both]
    exact ⟨trained, both_and_lane_ne_zero lane⟩
  have counted : (s.bump (C.PL_LINK_CNT (port / 64) (port % 64) 6) 1).ports = s.ports := (State.bump_within _ _ _).ports_eq (by decide)
  have port' := State.port_of_ports counted port
  have e : s.degrade port lane reason = (s.bump (C.PL_LINK_CNT (port / 64) (port % 64) 6) 1).setPort port { s.port port with
      lanesUp := 3 - 2 ^ lane.val, lanesLocked := lanesMinus (s.port port).lanesLocked (2 ^ lane.val) } := by
    unfold State.degrade
    dsimp only
    rw [if_pos carried, State.laneLeaves_of_both lane reason (by rw [port']; exact trained) (by rw [port']; exact both), port']
  rw [e]
  exact ⟨State.port_setPort_self (by rw [counted]; exact ports) _ _,
    (State.count_of_cnt ((State.setPort_within _ _ _).cnt_eq (by decide)) _).trans (State.count_bump_self cnt _ _)⟩

theorem laneFail_gives (h : s.canonical = true) {port : Fin 1088} {lane : Fin 2} (trained : (s.port port).trained_ = true)
    (both : (s.port port).lanesUp = 3) :
    Gives (.laneFail port lane) s (fun t => (t.port port).lanesUp = 3 - 2 ^ lane.val ∧ (t.port port).st = (s.port port).st
      ∧ t.count (C.PL_LINK_CNT (port / 64) (port % 64) 6) = (s.count (C.PL_LINK_CNT (port / 64) (port % 64) 6) + 1) % 2 ^ 64) := by
  obtain ⟨left, counted⟩ := State.degrade_gives (State.canonical.ports h) (State.canonical.cnt h) lane
    (if (s.port port).los &&& 2 ^ lane.val ≠ 0 then 1 else 4) trained both
  exact ⟨_, rfl, by rw [left], by rw [left], counted⟩

/-- A lane that has lost its signal. -/
def State.losNoted (s : State) (port lane : Nat) : State :=
  s.setPort port { s.port port with los := (s.port port).los ||| 2 ^ lane }

theorem opticalLos_gives (h : s.canonical = true) {port : Fin 1088} {lane : Fin 2} (trained : (s.port port).trained_ = true)
    (both : (s.port port).lanesUp = 3) (link : s.losToLink port = true) :
    Gives (.opticalLos port lane) s (fun t => (t.port port).lanesUp = 3 - 2 ^ lane.val
      ∧ (t.port port).los = (s.port port).los ||| 2 ^ lane.val ∧ (t.port port).st = (s.port port).st
      ∧ t.count (C.PL_LINK_CNT (port / 64) (port % 64) 6) = (s.count (C.PL_LINK_CNT (port / 64) (port % 64) 6) + 1) % 2 ^ 64) := by
  have wf := State.canonical.ports h
  have noted : (s.losNoted port lane).port port = _ := State.port_setPort_self wf _ _
  have run : exec (.opticalLos port lane) s = .next ((s.losNoted port lane).degrade port lane 1) := by
    change execOpticalLos port lane s = _
    rw [execOpticalLos]
    exact if_pos link
  have cnt : Tbl.wf (fun _ => 0) (s.losNoted port lane).cnt = true := by
    rw [show (s.losNoted port lane).cnt = s.cnt from rfl]
    exact State.canonical.cnt h
  obtain ⟨left, counted⟩ := State.degrade_gives (s := s.losNoted port lane) (port := port) (Tbl.wf_put wf _ _) cnt lane 1
    (by rw [noted]; exact trained) (by rw [noted]; exact both)
  rw [noted] at left
  exact ⟨_, run, by rw [left], by rw [left], by rw [left], counted⟩

theorem laneRejoin_gives (h : s.canonical = true) {port : Fin 1088} {lane : Fin 2} (trained : (s.port port).trained_ = true)
    (out : (s.port port).lanesUp &&& 2 ^ lane.val = 0) (locked : (s.port port).lanesLocked &&& 2 ^ lane.val ≠ 0)
    (may : (lanesMinus (s.lanesAllowed port) (s.port port).los) &&& 2 ^ lane.val ≠ 0) :
    Gives (.laneRejoin port lane) s (fun t => t.port port = { s.port port with
      lanesUp := (s.port port).lanesUp ||| 2 ^ lane.val }) := by
  refine ⟨_, ?_, State.port_setPort_self (State.canonical.ports h) _ _⟩
  change execLaneRejoin port lane s = _
  rw [execLaneRejoin]
  exact if_pos ⟨trained, out, locked, may⟩

theorem opticalLosClear_gives (h : s.canonical = true) {port : Fin 1088} {lane : Fin 2} (st : (s.port port).st = .training)
    (step : (s.port port).step = 1) (may : s.lanesAllowed port &&& 2 ^ lane.val ≠ 0) :
    Gives (.opticalLosClear port lane) s (fun t => t.port port = { s.port port with
      los := lanesMinus (s.port port).los (2 ^ lane.val), step := 2, stepSince := s.now, lanesLocked := 0 }) := by
  refine ⟨_, ?_, State.port_setPort_self (State.canonical.ports h) _ _⟩
  change execOpticalLosClear port lane s = _
  rw [execOpticalLosClear]
  exact if_pos ⟨st, step, may⟩

/-! ## Warnings and overload (R305) -/

section
variable {port : Fin 1088} {lane : Fin 2} {high : Bool} {power : Word}

theorem exec_opticalPowerWarning_of_recent {t0 : Nat} (warned : Tbl.get (fun _ => none) s.optics.warnedAt (laneLaser port lane) = some t0)
    (recent : s.now < t0 + 60000000000) : exec (.opticalPowerWarning port lane high power) s = .next s := by
  change execOpticalPowerWarning port lane high power s = _
  unfold execOpticalPowerWarning
  dsimp only
  rw [warned]
  exact if_neg (by simp only [decide_eq_true_eq]; omega)

/-- The instant of a lane's warning noted. -/
def State.warnNoted (s : State) (k : Nat) : State :=
  { s with optics := { s.optics with warnedAt := Tbl.put (fun _ => none) s.optics.warnedAt k (some s.now) } }

theorem opticalPowerWarning_gives (first : Tbl.get (fun _ => none) s.optics.warnedAt (laneLaser port lane) = none) :
    Gives (.opticalPowerWarning port lane high power) s (fun t =>
      Tbl.get (fun _ => none) t.optics.warnedAt (laneLaser port lane) = some s.now ∧ t.ports = s.ports) := by
  have run : exec (.opticalPowerWarning port lane high power) s
      = .next ((s.warnNoted (laneLaser port lane)).powerEvent port lane (bit01 high) power.toNat) := by
    change execOpticalPowerWarning port lane high power s = _
    unfold execOpticalPowerWarning
    dsimp only
    rw [first]
    exact if_pos rfl
  have told := State.powerEvent_within (s.warnNoted (laneLaser port lane)) port lane (bit01 high) power.toNat
  refine ⟨_, run, ?_, told.ports_eq (by decide)⟩
  rw [told.optics_eq (by decide)]
  exact Tbl.get_put_of_ne_default (d := fun _ => none) _ _ (Option.some_ne_none _)

theorem opticalOverload_gives (h : s.canonical = true) (free : (s.port port).overload &&& 2 ^ lane.val = 0)
    (trained : (s.port port).trained_ = true) (both : (s.port port).lanesUp = 3) :
    Gives (.opticalOverload port lane power) s (fun t => (t.port port).overload = (s.port port).overload ||| 2 ^ lane.val
      ∧ (t.port port).lanesUp = 3 - 2 ^ lane.val ∧ (t.port port).st = (s.port port).st) := by
  have wf := State.canonical.ports h
  have run : exec (.opticalOverload port lane power) s = .next (((s.setPort port { s.port port with
      overload := (s.port port).overload ||| 2 ^ lane.val }).powerEvent port lane 2 power.toNat).laneLeaves port lane 9) := by
    change execOpticalOverload port lane power s = _
    rw [execOpticalOverload]
    exact if_neg (not_not_intro free)
  have wf1 := Tbl.wf_put wf port.val { s.port port with overload := (s.port port).overload ||| 2 ^ lane.val }
  have told := State.powerEvent_within (s.setPort port { s.port port with
    overload := (s.port port).overload ||| 2 ^ lane.val }) port lane 2 power.toNat
  have ports := told.ports_eq (by decide)
  have port' := (State.port_of_ports ports port).trans (State.port_setPort_self wf _ _)
  rw [State.laneLeaves_of_both lane 9 (by rw [port']; exact trained) (by rw [port']; exact both)] at run
  refine ⟨_, run, ?_⟩
  dsimp only
  rw [State.port_setPort_self (by rw [ports]; exact wf1), port']
  exact ⟨rfl, rfl, rfl⟩

end

/-- What the start of a training leaves of a port. -/
theorem State.beginTraining_overload (wf : Tbl.wf (fun _ => Port.init) s.ports = true) (port : Nat) :
    ((s.beginTraining port).port port).overload = (s.port port).overload := by
  unfold State.beginTraining
  extract_lets p step
  split
  · have set := State.port_setPort_self wf port { p with
      st := .training, step := step, stepSince := s.now, lanesLocked := 0, goodFlits := 0, eth := s.ethChosen port }
    exact (congrArg Port.overload set).trans rfl
  · rfl

theorem overloadClear_gives (h : s.canonical = true) {port : Fin 1088} {lane : Fin 2} :
    Gives (.overloadClear port lane) s (fun t =>
      (t.port port).overload = lanesMinus (s.port port).overload (2 ^ lane.val)) := by
  have wf := State.canonical.ports h
  refine ⟨_, rfl, ?_⟩
  dsimp only
  rw [State.beginTraining_overload (Tbl.wf_put wf _ _), State.port_setPort_self wf]

theorem exec_linkSilenceTimeout_leaf {port : Fin 1088} (leaf : port.val < 1024) (trained : (s.port port).trained_ = true)
    (watched : s.fld (R.PL_LINK_CFG (port / 64)) 31 16 ≠ 0) (signal : lanesMinus (s.port port).lanesUp (s.port port).los ≠ 0) :
    exec (.linkSilenceTimeout port) s
      = .next ((s.reach ((s.port port).lastGood + max 250 (s.fld (R.PL_LINK_CFG (port / 64)) 31 16))).linkDown port 4) := by
  change execLinkSilenceTimeout port s = _
  unfold execLinkSilenceTimeout
  extract_lets p lim phase
  refine if_neg ?_
  rintro (k | k | k | k)
  · exact watched k
  · exact k trained
  · exact signal k
  · omega

/-- Settles O43. -/
theorem lanesLeaveAndRejoin : Obligations.LanesLeaveAndRejoin := fun _ _ _ h =>
  ⟨laneFail_gives h, opticalLos_gives h, laneRejoin_gives h, opticalLosClear_gives h,
    fun _ _ _ => exec_opticalPowerWarning_of_recent, fun _ _ => opticalPowerWarning_gives, fun _ => opticalOverload_gives h,
    overloadClear_gives h, exec_linkSilenceTimeout_leaf⟩

end Sys2Proof.Machine

/-!
PROOFS. Port commands, die links and maintenance locks (R34, R42, R324 to R326, R431).
-/
namespace Sys2Proof.Machine

variable {s : State}

/-! ## Tables -/

theorem Tbl.get_of_absent {α : Type} {d : Nat → α} {k : Nat} : ∀ {t : Tbl α}, (∀ x, x ∈ t → x.1 ≠ k) → Tbl.get d t k = d k
  | [], _ => rfl
  | x :: t, absent => by
    rw [Tbl.get, if_neg (absent x List.mem_cons_self), Tbl.get_of_absent fun y m => absent y (List.mem_cons_of_mem _ m)]
    exact ite_self _

/-- A table mapped by a function that fixes the default reads as the function of what it read. -/
theorem Tbl.get_remap {α : Type} [DecidableEq α] {x : α} {f : α → α} (fixed : f x = x) (k : Nat) :
    ∀ {t : Tbl α} {lo : Option Nat}, Tbl.wfFrom (fun _ => x) lo t = true →
      Tbl.get (fun _ => x) (Tbl.remap (fun _ => x) f t) k = f (Tbl.get (fun _ => x) t k)
  | [], _, _ => fixed.symm
  | (j, v) :: t, lo, wf => by
    obtain ⟨-, -, rest⟩ := Tbl.wfFrom_cons.mp wf
    have step : Tbl.remap (fun _ => x) f ((j, v) :: t) = Tbl.put (fun _ => x) (Tbl.remap (fun _ => x) f t) j (f v) := rfl
    rw [step, Tbl.get_put (Tbl.wf_remap f t), Tbl.get_remap fixed k rest, Tbl.get]
    by_cases same : k = j
    · rw [if_pos same, if_pos same.symm]
    · rw [if_neg same, if_neg fun e => same e.symm]
      split
      · next lt => rw [Tbl.get_of_wfFrom_le rest (Nat.le_of_lt lt)]
      · rfl

/-! ## Ports under moves -/

theorem State.moveBuckets_portsKept (u : Nat) (old : Path) (fence : Option Nat) : ∀ (bs : List Nat) (s : State),
    PortsKept s (State.moveBuckets u old fence bs s)
  | [], s => .refl s
  | b :: bs, s => by
    unfold State.moveBuckets
    split
    · exact (State.startMove_portsKept s _ _ _ _ _).trans (State.moveBuckets_portsKept u old fence bs _)
    · exact State.moveBuckets_portsKept u old fence bs s

theorem State.moveOff_portsKept (s : State) (old : Path) (fence : Option Nat) : PortsKept s (s.moveOff old fence) := by
  unfold State.moveOff
  exact .each (fun u t => State.moveBuckets_portsKept u _ _ _ t) _ _

theorem State.moveOffPort_portsKept (s : State) (port : Nat) : PortsKept s (s.moveOffPort port) := by
  unfold State.moveOffPort
  split
  · exact State.moveOff_portsKept _ _ _
  · exact .each (fun j t => State.moveOff_portsKept t _ _) _ _

/-- Easel's weight of a port cleared, with the instant. -/
def State.weightCleared (s : State) (port : Nat) : State :=
  { s.setF (R.PL_PATH_WEIGHT (port / 64) (port % 64)) 3 0 0 with
    dp := { s.dp with weightAt := Tbl.put (fun _ => 0) s.dp.weightAt port s.now } }

theorem State.weightCleared_ports (port : Nat) : (s.weightCleared port).ports = s.ports := rfl

theorem State.easelZero_cases (s : State) (port : Nat) :
    s.easelZero port = (s.weightCleared port).moveOffPort port ∨ s.easelZero port = s := by
  unfold State.easelZero
  split
  · exact .inl rfl
  · exact .inr rfl

theorem State.easelZero_portsKept (s : State) (port : Nat) : PortsKept s (s.easelZero port) := by
  obtain e | e := State.easelZero_cases s port
  · rw [e]
    exact (PortsKept.of_eq (State.weightCleared_ports port)).trans (State.moveOffPort_portsKept _ _)
  · rw [e]
    exact .refl s

theorem State.weightCleared_regs (port : Nat) :
    (s.weightCleared port).regs = (s.setF (R.PL_PATH_WEIGHT (port / 64) (port % 64)) 3 0 0).regs := rfl

/-- Easel's weight of a port is another register than its control. -/
theorem State.easelZero_fld (wf : Tbl.wf regReset s.regs = true) (port : Nat) (hi lo : Nat) :
    (s.easelZero port).fld (portCtrl port) hi lo = s.fld (portCtrl port) hi lo := by
  obtain e | e := State.easelZero_cases s port
  · have other : portCtrl port ≠ R.PL_PATH_WEIGHT (port / 64) (port % 64) := by
      simp only [portCtrl, R.PL_PORT_CTRL, R.PL_PATH_WEIGHT]
      omega
    rw [e, State.fld_of_regs ((State.moveOffPort_within _ _).regs_eq (by decide)),
      State.fld_of_regs (State.weightCleared_regs port), State.fld_setF_ne wf 3 0 0 hi lo other]
  · rw [e]

/-- An activity that starts alone changes only the locks, the events and the counters. -/
theorem State.holding_within (s : State) (a : Activity) : Within 940572676 s (s.holding a) :=
  Within.step (State.maintEvent_within { s with maint := [(a, true)] } a 1) rfl (Within.upd_maint rfl (.refl _ _))

/-- The drain of a port that is up, with a window. -/
theorem State.startDrain_of_up {p : Nat} (st : (s.port p).st = .up) (window : s.fld (R.PL_LINK_CFG (p / 64)) 11 0 ≠ 0) :
    State.startDrain p s = ((s.setPort p { s.port p with
      st := .draining, drainEnd := some (s.now + s.fld (R.PL_LINK_CFG (p / 64)) 11 0 * 1000) }).sendWithdraw p 4).easelZero p := by
  unfold State.startDrain
  dsimp only
  rw [if_pos st, if_neg window]

theorem State.setPort_ports_wf (wf : Tbl.wf (fun _ => Port.init) s.ports = true) (p : Nat) (x : Port) :
    Tbl.wf (fun _ => Port.init) (s.setPort p x).ports = true := Tbl.wf_put wf p x

/-- What the drain of a port that is up leaves. -/
theorem State.startDrain_gives (regs : Tbl.wf regReset s.regs = true) (ports : Tbl.wf (fun _ => Port.init) s.ports = true) {p : Nat}
    (st : (s.port p).st = .up) (window : s.fld (R.PL_LINK_CFG (p / 64)) 11 0 ≠ 0) :
    (State.startDrain p s).fld (portCtrl p) 30 30 = s.fld (portCtrl p) 30 30
      ∧ ((State.startDrain p s).port p).st = .draining
      ∧ ((State.startDrain p s).port p).drainEnd = some (s.now + s.fld (R.PL_LINK_CFG (p / 64)) 11 0 * 1000)
      ∧ (State.startDrain p s).maint = s.maint := by
  rw [State.startDrain_of_up st window]
  have set := State.setPort_within s p { s.port p with
    st := .draining, drainEnd := some (s.now + s.fld (R.PL_LINK_CFG (p / 64)) 11 0 * 1000) }
  have there := State.port_setPort_self ports p { s.port p with
    st := .draining, drainEnd := some (s.now + s.fld (R.PL_LINK_CFG (p / 64)) 11 0 * 1000) }
  have wf : Tbl.wf (fun _ => Port.init) (s.setPort p { s.port p with
    st := .draining, drainEnd := some (s.now + s.fld (R.PL_LINK_CFG (p / 64)) 11 0 * 1000) }).ports = true := State.setPort_ports_wf ports _ _
  generalize s.setPort p { s.port p with
    st := .draining, drainEnd := some (s.now + s.fld (R.PL_LINK_CFG (p / 64)) 11 0 * 1000) } = v at *
  have sent := State.sendWithdraw_within v p 4
  obtain ⟨llq, kept⟩ := (State.easelZero_portsKept (v.sendWithdraw p 4) p).port (by rw [sent.ports_eq (by decide)]; exact wf) p
  have regs' := (sent.regs_eq (by decide)).trans (set.regs_eq (by decide))
  rw [kept, State.port_of_ports (sent.ports_eq (by decide)), there]
  refine ⟨?_, rfl, rfl, ?_⟩
  · rw [State.easelZero_fld (by rw [regs']; exact regs), State.fld_of_regs regs']
  · rw [(State.easelZero_within _ _).maint_eq (by decide), sent.maint_eq (by decide), set.maint_eq (by decide)]

/-! ## The end of a drain, and resets (R325) -/

/-- What a port whose drain is cleared does first (R325). -/
def State.undrained (s : State) (port : Nat) : State :=
  (s.setPort port { s.port port with st := .up, drainEnd := none }).endMaint (.drain port) 3

theorem State.undrained_within (s : State) (port : Nat) : Within 940572804 s (s.undrained port) :=
  Within.step (State.endMaint_within _ _ _) rfl (Within.step (State.setPort_within _ _ _) rfl (.refl _ _))

theorem State.undrained_port (wf : Tbl.wf (fun _ => Port.init) s.ports = true) (port : Nat) :
    (s.undrained port).port port = { s.port port with st := .up, drainEnd := none } := by
  rw [State.undrained, State.port_of_ports ((State.endMaint_within _ _ _).ports_eq (by decide)), State.port_setPort_self wf]

theorem State.undrained_ports_wf (wf : Tbl.wf (fun _ => Port.init) s.ports = true) (port : Nat) :
    Tbl.wf (fun _ => Port.init) (s.undrained port).ports = true := by
  rw [State.undrained, (State.endMaint_within _ _ _).ports_eq (by decide)]
  exact State.setPort_ports_wf wf _ _

/-- What follows the end of a drain: readiness, and the port's place in its bundle. -/
def State.readmitted (s : State) (port : Fin 1088) (join : Bool) (uid : Nat) : State :=
  let t := if s.joined then s.sendReady port else s
  (if join then t.joinBundle port uid else t).reconsider

theorem State.readmitted_within (s : State) (port : Fin 1088) (join : Bool) (uid : Nat) :
    Within 13824952788 s (s.readmitted port join uid) := by
  have ready : Within 13824952788 s (if s.joined then s.sendReady port else s) := by
    split
    · exact Within.step (State.sendReady_within _ _) rfl (.refl _ _)
    · exact .refl _ _
  unfold State.readmitted
  refine Within.step (State.reconsider_within _) rfl ?_
  split
  · exact Within.step (State.joinBundle_within _ _ _) rfl ready
  · exact ready

theorem State.readmitted_portsKept (s : State) (port : Fin 1088) (join : Bool) (uid : Nat) :
    PortsKept s (s.readmitted port join uid) := by
  have ready : PortsKept s (if s.joined then s.sendReady port else s) := by
    split
    · exact .within (State.sendReady_within _ _) (by decide)
    · exact .refl s
  unfold State.readmitted
  refine PortsKept.trans ?_ (State.reconsider_portsKept _)
  split
  · exact ready.trans (State.joinBundle_portsKept _ _ _)
  · exact ready

/-- A register that is reset reads as after a reset. -/
theorem State.rd_resetRegs {offs : List Nat} {off : Nat} (named : off ∈ offs) : (s.resetRegs offs).rd off = regReset off := by
  refine Tbl.get_of_absent fun x listed same => ?_
  obtain ⟨-, out⟩ := List.mem_filter.mp listed
  rw [same, List.contains_iff_mem.mpr named] at out
  exact absurd out (by decide)

/-! ## Enabling and masking (R324) -/

section
variable {port : Fin 1088} (powered : s.on (regDomain (portCtrl port)) = true)
include powered

theorem exec_portEnableWrite_true :
    exec (.portEnableWrite port true) s = .next ((s.setF (portCtrl port) 31 31 1).beginTraining port) := by
  change execPortEnableWrite port true s = _
  rw [execPortEnableWrite, State.gate_on powered]
  rfl

theorem portEnableWrite_gives_false (h : s.canonical = true) (was : s.fld (portCtrl port) 31 31 = 1)
    (st : (s.port port).st = .training) :
    Gives (.portEnableWrite port false) s (fun t => t.fld (portCtrl port) 31 31 = 0 ∧ (t.port port).st = .down
      ∧ ∃ l, t.out = .laser port false :: l) := by
  have run : exec (.portEnableWrite port false) s = .next ((s.setF (portCtrl port) 31 31 0).portOff port) := by
    change execPortEnableWrite port false s = _
    rw [execPortEnableWrite, State.gate_on powered, was]
    rfl
  have written := State.fld_setF_self (State.canonical.regs h) (portCtrl port) (hi := 31) (lo := 31) (v := 0) (by decide) (by decide)
    (by decide)
  have ports : (s.setF (portCtrl port) 31 31 0).ports = s.ports := State.setF_ports s _ _ _ _
  refine ⟨_, run, ?_⟩
  generalize s.setF (portCtrl port) 31 31 0 = u at written ports
  have ended := State.endMaint_within u (.drain port) 3
  have port' : (u.endMaint (.drain port) 3).port port = s.port port :=
    State.port_of_ports ((ended.ports_eq (by decide)).trans ports) port
  have untrained : ¬ ((u.endMaint (.drain port) 3).port port).trained_ = true := by
    rw [port', Port.trained_, st]
    decide
  have wf : Tbl.wf (fun _ => Port.init) (u.endMaint (.drain port) 3).ports = true := by
    rw [ended.ports_eq (by decide), ports]
    exact State.canonical.ports h
  refine ⟨?_, ?_, _, rfl⟩
  · exact (State.fld_of_regs ((State.portOff_within u port).regs_eq (by decide)) _ _ _).trans written
  · have off : (u.portOff port).port port = ((u.endMaint (.drain port) 3).takeDown port 7).port port := rfl
    rw [off, State.takeDown, if_neg untrained, State.port_setPort_self wf]

theorem laneMaskWrite_gives (h : s.canonical = true) {mask : Fin 4} (some_ : mask ≠ 0) :
    Gives (.laneMaskWrite port mask) s (fun t => t.fld (portCtrl port) 1 0 = mask) := by
  have run : exec (.laneMaskWrite port mask) s
      = .next (((s.setF (portCtrl port) 1 0 mask).trimLanes port).beginTraining port) := by
    change execLaneMaskWrite port mask s = _
    rw [execLaneMaskWrite, State.gate_on powered, if_neg some_]
  refine ⟨_, run, ?_⟩
  dsimp only
  rw [State.fld_of_regs ((State.beginTraining_within _ _).regs_eq (by decide)),
    State.fld_of_regs ((State.trimLanes_within _ _).regs_eq (by decide))]
  exact State.fld_setF_self (State.canonical.regs h) _ (by decide) (by decide) mask.isLt

/-! ## Drains (R324, R325) -/

theorem portDrain_gives (h : s.canonical = true) (idle : s.fld (portCtrl port) 30 30 = 0) (free : s.maint = [])
    (st : (s.port port).st = .up) (window : s.fld (R.PL_LINK_CFG (port / 64)) 11 0 ≠ 0) :
    Gives (.portDrain port) s (fun t => t.fld (portCtrl port) 30 30 = 1 ∧ (t.port port).st = .draining
      ∧ (t.port port).drainEnd = some (s.now + s.fld (R.PL_LINK_CFG (port / 64)) 11 0 * 1000)
      ∧ t.maint = [(.drain port, true)]) := by
  have wf := State.canonical.regs h
  have other : R.PL_LINK_CFG (port / 64) ≠ portCtrl port := by
    simp only [portCtrl, R.PL_PORT_CTRL, R.PL_LINK_CFG]
    omega
  have run : exec (.portDrain port) s = .next (State.startDrain port ((s.setF (portCtrl port) 30 30 1).holding (.drain port))) := by
    change execPortDrain port s = _
    rw [execPortDrain, State.gate_on powered, if_neg (by rw [idle]; decide), State.requestMaint_of_nil (by rw [State.setF_maint, free])]
  have held := State.holding_within (s.setF (portCtrl port) 30 30 1) (.drain port)
  have regs := held.regs_eq (by decide)
  have ports : ((s.setF (portCtrl port) 30 30 1).holding (.drain port)).ports = s.ports :=
    (held.ports_eq (by decide)).trans (State.setF_ports s _ _ _ _)
  have set := (State.fld_of_regs regs (portCtrl port) 30 30).trans
    (State.fld_setF_self wf _ (v := 1) (by decide) (by decide) (by decide))
  have us : ((s.setF (portCtrl port) 30 30 1).holding (.drain port)).fld (R.PL_LINK_CFG (port / 64)) 11 0
      = s.fld (R.PL_LINK_CFG (port / 64)) 11 0 := (State.fld_of_regs regs _ _ _).trans (State.fld_setF_ne wf _ _ _ _ _ other)
  have now : ((s.setF (portCtrl port) 30 30 1).holding (.drain port)).now = s.now := by
    rw [State.now, held.clk_eq (by decide), State.setF_clk, ← State.now]
  have lock := State.maint_holding (s := s.setF (portCtrl port) 30 30 1) (.drain port)
  have regsWf : Tbl.wf regReset ((s.setF (portCtrl port) 30 30 1).holding (.drain port)).regs = true := by
    rw [regs]
    exact State.wr_regs_wf wf _ _
  obtain ⟨ctrl, st', ends, maint⟩ := State.startDrain_gives (p := port) regsWf (by rw [ports]; exact State.canonical.ports h)
    (by rw [State.port_of_ports ports]; exact st) (by rw [us]; exact window)
  exact ⟨_, run, ctrl.trans set, st', by rw [ends, us, now], maint.trans lock⟩

theorem portUndrain_gives (h : s.canonical = true) (st : (s.port port).st = .draining) :
    Gives (.portUndrain port) s (fun t => t.fld (portCtrl port) 30 30 = 0 ∧ (t.port port).st = .up
      ∧ (t.port port).drainEnd = none) := by
  have ports : (s.setF (portCtrl port) 30 30 0).ports = s.ports := State.setF_ports s _ _ _ _
  have port' := State.port_of_ports ports port
  have run : exec (.portUndrain port) s = .next (((s.setF (portCtrl port) 30 30 0).undrained port).readmitted port
      (decide (port.val < 1024 ∧ (s.port port).eth = false)) (s.port port).uid) := by
    change execPortUndrain port s = _
    rw [execPortUndrain, State.gate_on powered]
    dsimp only
    rw [port', if_pos st, ← port', ← State.undrained, port']
    unfold State.readmitted
    simp only [decide_eq_true_eq]
  have wf : Tbl.wf (fun _ => Port.init) (s.setF (portCtrl port) 30 30 0).ports = true := by
    rw [ports]
    exact State.canonical.ports h
  have cleared := State.fld_setF_self (State.canonical.regs h) (portCtrl port) (hi := 30) (lo := 30) (v := 0) (by decide) (by decide)
    (by decide)
  obtain ⟨llq, kept⟩ := (State.readmitted_portsKept ((s.setF (portCtrl port) 30 30 0).undrained port) port
    (decide (port.val < 1024 ∧ (s.port port).eth = false)) (s.port port).uid).port (State.undrained_ports_wf wf port) port
  refine ⟨_, run, ?_⟩
  dsimp only
  rw [kept, State.undrained_port wf, State.fld_of_regs ((State.readmitted_within _ _ _ _).regs_eq (by decide)),
    State.fld_of_regs ((State.undrained_within _ _).regs_eq (by decide))]
  exact ⟨cleared, rfl, rfl⟩

theorem exec_portRetrain :
    exec (.portRetrain port) s = .next (s.requestMaint (.retrain port) (State.startRetrain port)) := by
  change execPortRetrain port s = _
  rw [execPortRetrain, State.gate_on powered]

theorem portReset_gives (free : s.maint = []) :
    Gives (.portReset port) s (fun t => ∀ off, off ∈ portRegs port → t.rd off = regReset off) := by
  have run : exec (.portReset port) s = .next (State.startPortReset port (s.holding (.portReset port))) := by
    change execPortReset port s = _
    rw [execPortReset, State.gate_on powered, State.requestMaint_of_nil free]
  refine ⟨_, run, fun off named => ?_⟩
  generalize s.holding (.portReset port) = u
  have rest : Within 5235540164 ((u.takeDown port 7).resetRegs (portRegs port)) (State.startPortReset port u) :=
    Within.step (State.endMaint_within _ _ _) rfl (Within.step (State.beginTraining_within _ _) rfl
      (Within.step (State.resetSched_within _ _) rfl (.refl _ _)))
  rw [State.rd, rest.regs_eq (by decide)]
  exact State.rd_resetRegs named

end

theorem portDrainEnd_gives (h : s.canonical = true) {port : Fin 1088} {t0 : Nat} (window : (s.port port).drainEnd = some t0) :
    Gives (.portDrainEnd port) s (fun t => (t.port port).drainEnd = none
      ∧ t.now = (if s.drained port then s.now else max s.now t0)) := by
  have run : exec (.portDrainEnd port) s = .next ((if s.drained port then s else s.reach t0).endDrain port) := by
    change execPortDrainEnd port s = _
    rw [execPortDrainEnd, window]
  have waited : (if s.drained port then s else s.reach t0).now = (if s.drained port then s.now else max s.now t0) ∧
      (if s.drained port then s else s.reach t0).canonical = true := by
    split
    · exact ⟨rfl, h⟩
    · exact ⟨State.now_reach t0, (State.reach_preserves s t0 (.refl s)).canonical h⟩
  refine ⟨_, run, ?_⟩
  dsimp only
  generalize (if s.drained port then s else s.reach t0) = u at waited
  obtain ⟨now, canonical⟩ := waited
  rw [State.now, (State.endDrain_within u port).clk_eq (by decide), ← State.now, now]
  refine ⟨?_, rfl⟩
  have wf : Tbl.wf (fun _ => Port.init) (if u.drained port then u else u.replayHandover port (linkKeys port)).ports = true := by
    split
    · exact State.canonical.ports canonical
    · exact (State.replayHandover_preserves u port (linkKeys port) (.refl u)).ports (State.canonical.ports canonical)
  rw [State.endDrain, State.port_of_ports ((State.endMaint_within _ _ _).ports_eq (by decide)), State.port_setPort_self wf]

/-! ## Die links and crossings (R34, R42) -/

theorem State.xing_of_xings {t : State} (h : t.xings = s.xings) (k : Nat) : t.xing k = s.xing k := by
  rw [State.xing, State.xing, h]

theorem State.setXing_xings_wf (wf : Tbl.wf (fun _ => Crossing.init) s.xings = true) (k : Nat) (x : Crossing) :
    Tbl.wf (fun _ => Crossing.init) (s.setXing k x).xings = true := Tbl.wf_put wf k x

theorem exec_dieLinkDown {n : Fin 23} (up : s.dieLinkUp n = true) :
    exec (.dieLinkDown n) s = .next ((s.dieLinkOff n).dieLinkLost n) := by
  change execDieLinkDown n s = _
  rw [execDieLinkDown, if_neg (by rw [up]; decide)]

theorem State.dieLinkOff_gives (h : s.canonical = true) {n : Fin 23} (up : s.dieLinkUp n = true) :
    (s.dieLinkOff n).fld (R.GLB_D2D_STAT n) 31 31 = 0
      ∧ ((s.dieLinkOff n).xing n).credits = 0 ∧ ((s.dieLinkOff n).xing (32 + n)).credits = 0 := by
  have cleared := State.fld_setF_self (State.canonical.regs h) (R.GLB_D2D_STAT n) (hi := 31) (lo := 31) (v := 0) (by decide) (by decide)
    (by decide)
  have xings : (s.setF (R.GLB_D2D_STAT n) 31 31 0).xings = s.xings := State.setF_xings s _ _ _ _
  rw [State.dieLinkOff, if_pos up]
  generalize s.setF (R.GLB_D2D_STAT n) 31 31 0 = u at cleared xings
  have wf : Tbl.wf (fun _ => Crossing.init) u.xings = true := by
    rw [xings]
    exact State.canonical.xings h
  have told : Within 941621252 ((u.xShut n).xShut (32 + n)) ((((u.xShut n).xShut (32 + n)).tryLink n).dieLinkEvent n) :=
    Within.step (State.dieLinkEvent_within _ _) rfl (Within.step (State.tryLink_within _ _) rfl (.refl _ _))
  have shut : Within 1073741824 u ((u.xShut n).xShut (32 + n)) :=
    Within.step (State.xShut_within _ _) rfl (Within.step (State.xShut_within _ _) rfl (.refl _ _))
  have wf1 : Tbl.wf (fun _ => Crossing.init) (u.xShut n).xings = true := State.setXing_xings_wf wf _ _
  have first : ((u.xShut n).xShut (32 + n)).xing n = (u.xing n).shut := by
    rw [State.xShut, State.xing_setXing wf1, if_neg (by omega), State.xShut, State.xing_setXing wf, if_pos rfl]
  have second : ((u.xShut n).xShut (32 + n)).xing (32 + n) = ((u.xShut n).xing (32 + n)).shut := by
    rw [State.xShut, State.xing_setXing wf1, if_pos rfl]
  rw [State.fld_of_regs (told.regs_eq (by decide)), State.fld_of_regs (shut.regs_eq (by decide)),
    State.xing_of_xings (told.xings_eq (by decide)), State.xing_of_xings (told.xings_eq (by decide)), first, second]
  exact ⟨cleared, rfl, rfl⟩

/-- An announcement by a consumer that has made none gives its producer the credits. -/
theorem Crossing.announce_of_new {x : Crossing} (new : x.announced = false) (d : Nat) :
    (x.announce d).announced = true ∧ (x.announce d).credits = d := by
  rw [Crossing.announce, if_neg (by rw [new]; decide)]
  exact ⟨rfl, rfl⟩

theorem State.reach_xings (t : Nat) :
    (s.reach t).xings = s.xings ∨ (s.reach t).xings = Tbl.remap (fun _ => Crossing.init) Crossing.back s.xings := by
  rw [State.reach_eq_spanned]
  change (s.spanned (t - s.now)).xings = _ ∨ (s.spanned (t - s.now)).xings = _
  unfold State.spanned
  split
  · exact .inl rfl
  · exact .inr rfl

/-- Time announces no crossing (R38). -/
theorem State.announced_reach (wf : Tbl.wf (fun _ => Crossing.init) s.xings = true) (t k : Nat) :
    ((s.reach t).xing k).announced = (s.xing k).announced := by
  obtain e | e := State.reach_xings (s := s) t
  · rw [State.xing_of_xings e]
  · rw [State.xing, e, Tbl.get_remap rfl k wf]
    rfl

theorem crossingDepth_die (n : Fin 23) : crossingDepth n = dieCredits n ∧ crossingDepth (32 + n) = dieCredits n := by
  revert n
  decide

/-- A die link whose training succeeds: its status, and the credits of each direction. -/
theorem State.dieLinkOn_gives (regs : Tbl.wf regReset s.regs = true) (xings : Tbl.wf (fun _ => Crossing.init) s.xings = true)
    {n : Fin 23} {w : Nat} (few : w ≤ 8) (out : (s.xing n).announced = false) (in_ : (s.xing (32 + n)).announced = false) :
    (s.dieLinkOn n w).fld (R.GLB_D2D_STAT n) 31 30 = 2 ∧ (s.dieLinkOn n w).fld (R.GLB_D2D_STAT n) 27 24 = w
      ∧ ((s.dieLinkOn n w).xing n).credits = dieCredits n ∧ ((s.dieLinkOn n w).xing (32 + n)).credits = dieCredits n := by
  have wf1 := State.wr_regs_wf regs (R.GLB_D2D_STAT n) ((s.rd (R.GLB_D2D_STAT n)).setFld 31 30 2)
  have up : ((s.setF (R.GLB_D2D_STAT n) 31 30 2).setF (R.GLB_D2D_STAT n) 27 24 w).fld (R.GLB_D2D_STAT n) 31 30 = 2 :=
    (State.fld_setF_apart wf1 _ _ (by decide) (by decide) (.inr (by decide))).trans
      (State.fld_setF_self regs _ (by decide) (by decide) (by decide))
  have wires : ((s.setF (R.GLB_D2D_STAT n) 31 30 2).setF (R.GLB_D2D_STAT n) 27 24 w).fld (R.GLB_D2D_STAT n) 27 24 = w :=
    State.fld_setF_self wf1 _ (by decide) (by decide) (by omega)
  have same : ((s.setF (R.GLB_D2D_STAT n) 31 30 2).setF (R.GLB_D2D_STAT n) 27 24 w).xings = s.xings :=
    (State.setF_xings _ _ _ _ _).trans (State.setF_xings _ _ _ _ _)
  rw [State.dieLinkOn]
  generalize (s.setF (R.GLB_D2D_STAT n) 31 30 2).setF (R.GLB_D2D_STAT n) 27 24 w = u at *
  have wf : Tbl.wf (fun _ => Crossing.init) u.xings = true := by rw [same]; exact xings
  have wf2 : Tbl.wf (fun _ => Crossing.init) (u.xAnnounce n).xings = true := State.setXing_xings_wf wf _ _
  have first : ((u.xAnnounce n).xAnnounce (32 + n)).xing n = (s.xing n).announce (crossingDepth n) := by
    rw [State.xAnnounce, State.xing_setXing wf2, if_neg (by omega), State.xAnnounce, State.xing_setXing wf, if_pos rfl,
      State.xing_of_xings same]
  have second : ((u.xAnnounce n).xAnnounce (32 + n)).xing (32 + n) = (s.xing (32 + n)).announce (crossingDepth (32 + n)) := by
    rw [State.xAnnounce, State.xing_setXing wf2, if_pos rfl, State.xAnnounce, State.xing_setXing wf, if_neg (by omega),
      State.xing_of_xings same]
  have said : Within 1073741824 u ((u.xAnnounce n).xAnnounce (32 + n)) :=
    Within.step (State.xAnnounce_within _ _) rfl (Within.step (State.xAnnounce_within _ _) rfl (.refl _ _))
  have told := State.dieLinkEvent_within ((u.xAnnounce n).xAnnounce (32 + n)) n
  have regs' := (told.regs_eq (by decide)).trans (said.regs_eq (by decide))
  obtain ⟨depth, depth'⟩ := crossingDepth_die n
  rw [State.fld_of_regs regs', State.fld_of_regs regs', State.xing_of_xings (told.xings_eq (by decide)),
    State.xing_of_xings (told.xings_eq (by decide)), first, second, (Crossing.announce_of_new out _).2,
    (Crossing.announce_of_new in_ _).2]
  exact ⟨up, wires, depth, depth'⟩

/-- What follows the training of a die link changes neither registers nor crossings, and takes no time. -/
theorem execDieLinkRetrain_of_few {n : Fin 23} {wires : Fin 64} (down : s.dieLinkUp n = false)
    (powered : s.on (dieLinkDomain n) = true) (few : wires.val ≤ 8) (whole : s.tel.isolated = []) :
    ∃ t, execDieLinkRetrain n wires s = .next t ∧
      Within 13824977300 (((s.reach (Tbl.get (fun _ => 0) s.pwr.linkTryAt n + 1000000000)).tryLink n).dieLinkOn n wires) t := by
  have together : (linkIslands n).any s.islandIsolated = false := by
    rw [List.any_eq_false]
    intro i _
    rw [State.islandIsolated, whole]
    exact Bool.false_ne_true
  have on_ (u : State) : u.trainDie n wires = u.dieLinkOn n wires := by
    rw [State.trainDie, if_pos few]
  unfold execDieLinkRetrain
  rw [if_neg (by rw [down, powered, together]; decide)]
  dsimp only
  rw [if_neg (by omega), on_]
  generalize ((s.reach (Tbl.get (fun _ => 0) s.pwr.linkTryAt n + 1000000000)).tryLink n).dieLinkOn n wires = u
  split
  · refine ⟨_, rfl, Within.stepEach (fun p s => ?_) (.refl _ _)⟩
    exact Within.step (State.beginTraining_within s p) rfl (.refl _ _)
  · split
    · refine ⟨_, rfl, Within.step (State.reconsider_within _) rfl (Within.step (State.canvasEngines_within _) rfl
        (Within.stepEach (fun e s => ?_) (.refl _ _)))⟩
      split
      · exact Within.step (State.setEngine_within _ _ _) rfl (.refl _ _)
      · exact .refl _ _
    · exact ⟨_, rfl, Within.step (State.hostResume_within _) rfl (.refl _ _)⟩

theorem dieLinkRetrain_gives (h : s.canonical = true) {n : Fin 23} {wires : Fin 64} (down : s.dieLinkUp n = false)
    (powered : s.on (dieLinkDomain n) = true) (few : wires.val ≤ 8) (whole : s.tel.isolated = [])
    (out : (s.xing n).announced = false) (in_ : (s.xing (32 + n)).announced = false) :
    Gives (.dieLinkRetrain n wires) s (fun t => t.fld (R.GLB_D2D_STAT n) 31 30 = 2
      ∧ t.fld (R.GLB_D2D_STAT n) 27 24 = wires ∧ (t.xing n).credits = dieCredits n
      ∧ (t.xing (32 + n)).credits = dieCredits n
      ∧ t.now = max s.now (Tbl.get (fun _ => 0) s.pwr.linkTryAt n + 1000000000)) := by
  obtain ⟨t, run, rest⟩ := execDieLinkRetrain_of_few down powered few whole
  refine ⟨t, run, ?_⟩
  generalize Tbl.get (fun _ => 0) s.pwr.linkTryAt n + 1000000000 = t0 at *
  have reached := (State.reach_preserves s t0 (.refl s)).canonical h
  have tried := State.tryLink_within (s.reach t0) n
  have xings := tried.xings_eq (by decide)
  obtain ⟨up, w, first, second⟩ := State.dieLinkOn_gives (s := (s.reach t0).tryLink n) (n := n)
    (by rw [tried.regs_eq (by decide)]; exact State.canonical.regs reached) (by rw [xings]; exact State.canonical.xings reached) few
    (by rw [State.xing_of_xings xings, State.announced_reach (State.canonical.xings h), out])
    (by rw [State.xing_of_xings xings, State.announced_reach (State.canonical.xings h), in_])
  have regs := rest.regs_eq (by decide)
  have kept := rest.xings_eq (by decide)
  rw [State.fld_of_regs regs, State.fld_of_regs regs, State.xing_of_xings kept, State.xing_of_xings kept]
  refine ⟨up, w, first, second, ?_⟩
  rw [State.now, rest.clk_eq (by decide), (State.dieLinkOn_within _ _ _).clk_eq (by decide), tried.clk_eq (by decide), ← State.now,
    State.now_reach]

theorem islandLink_lt {i n : Nat} (h : islandLink i = some n) : n < 23 := List.mem_range.mp (List.mem_of_find?_eq_some h)

theorem creditAnnounce_gives (h : s.canonical = true) {island : Fin 112} {n : Nat} (powered : s.on (islandDomain island) = true)
    (free : s.islandHeld island = false) (idle : s.tel.update = none) (link : islandLink island = some n)
    (up : s.dieLinkUp n = true) (new : (s.xing n).announced = false) :
    Gives (.creditAnnounce island) s (fun t => (t.xing n).announced = true ∧ (t.xing n).credits = dieCredits n) := by
  obtain ⟨whole, -⟩ := Bool.or_eq_false_iff.mp free
  have run : exec (.creditAnnounce island) s = .next ((s.xAnnounce n).xAnnounce (32 + n)) := by
    change execCreditAnnounce island s = _
    rw [execCreditAnnounce, if_neg (by rw [powered, whole]; decide), idle]
    dsimp only
    rw [State.openIsland, link]
    dsimp only
    rw [if_pos up]
  have wf := State.canonical.xings h
  have wf1 : Tbl.wf (fun _ => Crossing.init) (s.xAnnounce n).xings = true := State.setXing_xings_wf wf _ _
  have there : ((s.xAnnounce n).xAnnounce (32 + n)).xing n = (s.xing n).announce (crossingDepth n) := by
    rw [State.xAnnounce, State.xing_setXing wf1, if_neg (by omega), State.xAnnounce, State.xing_setXing wf,
      if_pos rfl]
  obtain ⟨said, credits⟩ := Crossing.announce_of_new new (crossingDepth n)
  refine ⟨_, run, ?_⟩
  dsimp only
  rw [there, said, credits]
  exact ⟨rfl, (crossingDepth_die ⟨n, islandLink_lt link⟩).1⟩

theorem exec_maintLockGrant {a : Activity} {l : List (Activity × Bool)} (first : firstGrantable [] s.maint = some (a, l)) :
    exec .maintLockGrant s = .next (State.startActivity a (({ s with maint := l } : State).maintEvent a 1)) := by
  change execMaintLockGrant s = _
  rw [execMaintLockGrant, first]

/-- Settles O45. -/
theorem portCommandsAndDieLinks : Obligations.PortCommandsAndDieLinks :=
  ⟨fun _ _ h => ⟨exec_portEnableWrite_true, fun powered => portEnableWrite_gives_false powered h,
      fun _ powered => laneMaskWrite_gives powered h, fun powered => portDrain_gives powered h, fun _ => portDrainEnd_gives h,
      fun powered => portUndrain_gives powered h, exec_portRetrain, portReset_gives⟩,
    fun _ h => ⟨fun _ => exec_dieLinkDown, fun _ => State.dieLinkOff_gives h, fun _ _ => dieLinkRetrain_gives h,
      fun _ _ => creditAnnounce_gives h, fun _ _ => exec_maintLockGrant⟩⟩

end Sys2Proof.Machine

/-!
PROOFS. The module's own requests, the held table and access windows (R254, R255, R258 to R260, R263).
-/
namespace Sys2Proof.Machine

variable {s : State}

/-- Whether the module takes part in the fabric depends on its registers, a withdrawal and its tables. -/
theorem State.joined_of_parts {t : State} (regs : t.regs = s.regs) (wd : t.wd = s.wd) (tab : t.tab = s.tab) : t.joined = s.joined := by
  rw [State.joined, State.joined, State.carries, State.carries, State.assigned, State.assigned, State.fld_of_regs regs, wd, tab]

theorem State.joined_reach (t : Nat) : (s.reach t).joined = s.joined :=
  State.joined_of_parts (State.reach_regs _) ((State.reach_within _ _).wd_eq (by decide)) ((State.reach_within _ _).tab_eq (by decide))

/-- A packet that the module originates joins PL17's ingress. -/
theorem State.rx_originate (joined : s.joined = true) (p : Packet) :
    (s.originate p).rx 1088 = s.rx 1088 ++ [ownItem s.dp.nextId s.tab.gen s.now p .none] := by
  rw [State.originate, if_neg (by rw [joined]; decide)]
  exact Tbl.get_put_of_ne_default (d := fun _ => []) _ _ (by simp)

/-! ## Counters that time leaves (R33, R411, R433) -/

/-- A counter is canonical as before and reads as before. -/
def CountKept (j : Nat) (s t : State) : Prop := Tbl.wf (fun _ => 0) s.cnt = true →
  Tbl.wf (fun _ => 0) t.cnt = true ∧ t.count j = s.count j

theorem CountKept.of_cnt {j : Nat} {t : State} (same : t.cnt = s.cnt) : CountKept j s t := fun wf =>
  ⟨by rw [same]; exact wf, State.count_of_cnt same j⟩

theorem CountKept.trans {j : Nat} {t u : State} (h : CountKept j s t) (k : CountKept j t u) : CountKept j s u := by
  intro wf
  obtain ⟨wf', e⟩ := h wf
  obtain ⟨wf'', e'⟩ := k wf'
  exact ⟨wf'', e'.trans e⟩

theorem CountKept.each {α : Type} {j : Nat} {f : α → State → State} : ∀ (l : List α) (s : State),
    (∀ x, x ∈ l → ∀ s, CountKept j s (f x s)) → CountKept j s (forEach f l s)
  | [], _, _ => .of_cnt rfl
  | x :: l, s, k => (k x List.mem_cons_self s).trans (CountKept.each l _ fun y m => k y (List.mem_cons_of_mem _ m))

theorem State.bump_countKept {j off : Nat} (n : Nat) (other : j ≠ off) : CountKept j s (s.bump off n) := fun wf =>
  ⟨bumpTbl_wf wf off n, State.count_bump_ne wf n other⟩

theorem State.countCycles_countKept {j off : Nat} (a b : Nat) (other : j ≠ off) : CountKept j s (s.countCycles off a b) := by
  unfold State.countCycles
  extract_lets c
  split
  · exact State.bump_countKept _ other
  · exact .of_cnt rfl

/-- No counter of the cycles and nanoseconds that something waited (R106, R128, R244, R411, R433). -/
def NoWaitCounter (j : Nat) : Prop := j < 0x0A400000 ∧ j ≠ C.TEL_STALL_ATTR_NS ∧ j ≠ C.BUF_BANK_STALL
  ∧ (∀ n, n < 18 → j ≠ C.PL_HDR_STALL n) ∧ ∀ e, e < 8 → j ≠ C.PAL_ADMIT_WAIT e

theorem State.stallSpan_countKept {j : Nat} (k : NoWaitCounter j) (a b : Nat) : CountKept j s (s.stallSpan a b) := by
  obtain ⟨low, -, bank, header, -⟩ := k
  unfold State.stallSpan
  extract_lets u v
  have stalls : CountKept j s u := .each _ _ fun x _ t =>
    State.countCycles_countKept _ _ (by simp only [C.TEL_STALL]; omega)
  have headers : CountKept j u v := .each _ _ fun n m t => by
    split
    · exact State.countCycles_countKept _ _ (header n (List.mem_range.mp m))
    · exact .of_cnt rfl
  split
  · exact (stalls.trans headers).trans (State.countCycles_countKept _ _ bank)
  · exact stalls.trans headers

theorem State.admitSpan_countKept {j : Nat} (k : NoWaitCounter j) (ns : Nat) : CountKept j s (s.admitSpan ns) := by
  obtain ⟨-, -, -, -, waits⟩ := k
  unfold State.admitSpan
  refine .each _ _ fun e m t => ?_
  split
  · exact State.bump_countKept _ (waits e (List.mem_range.mp m))
  · exact .of_cnt rfl

theorem State.spanned_countKept {j : Nat} (k : NoWaitCounter j) (ns : Nat) : CountKept j s (s.spanned ns) := by
  have spans := (State.stallSpan_countKept k s.now (s.now + ns)).trans (State.admitSpan_countKept (s := s.stallSpan s.now (s.now + ns)) k ns)
  unfold State.spanned
  split
  · exact .of_cnt rfl
  · extract_lets u
    refine CountKept.trans (t := u) spans ?_
    split
    · intro wf
      exact ⟨bumpTbl_wf wf _ _, State.count_bump_ne wf ns k.2.1⟩
    · exact .of_cnt rfl

theorem State.reach_countKept {j : Nat} (k : NoWaitCounter j) (t : Nat) : CountKept j s (s.reach t) := by
  have same : (s.reach t).cnt = (s.spanned (t - s.now)).cnt := by
    rw [State.reach_eq_spanned]
    exact (State.alertStep_within { s.spanned (t - s.now) with clk := { s.clk with now := max s.now t } }).cnt_eq (by decide)
  exact (State.spanned_countKept k _).trans (.of_cnt same)

theorem State.count_reach (h : Tbl.wf (fun _ => 0) s.cnt = true) {j : Nat} (k : NoWaitCounter j) (t : Nat) :
    (s.reach t).count j = s.count j := (State.reach_countKept k t h).2

/-! ## Retries and timers (R258 to R260) -/

theorem requestRetry_gives {origin : Fin 5} {tag : Fin 65536} {r : OutReq} (out : s.findReq origin tag = some r)
    (joined : s.joined = true) :
    Gives (.requestRetry origin tag) s (fun t => t.now = max s.now (r.lastSent + s.retryNs)
      ∧ ∃ x, t.rx 1088 = s.rx 1088 ++ [x] ∧ x.body = .ffp r.pkt) := by
  generalize due : r.lastSent + s.retryNs = t0
  have run : exec (.requestRetry origin tag) s
      = .next (((s.reach t0).setReq { r with lastSent := (s.reach t0).now }).originate r.pkt) := by
    change execRequestRetry origin tag s = _
    rw [execRequestRetry, out]
    dsimp only
    rw [due]
  refine ⟨_, run, ?_⟩
  have reached := State.reach_within s t0
  have now := State.now_reach (s := s) t0
  have joined' := (State.joined_reach (s := s) t0).trans joined
  have rx : (s.reach t0).rx 1088 = s.rx 1088 := by rw [State.rx, State.rx, reached.dp_eq (by decide)]
  generalize s.reach t0 = u at *
  have noted : ∀ q, (u.setReq q).joined = true ∧ (u.setReq q).rx 1088 = u.rx 1088 := fun q => ⟨joined', rfl⟩
  refine ⟨?_, _, (State.rx_originate (noted _).1 r.pkt).trans (by rw [(noted _).2, rx]), rfl⟩
  rw [State.now, (State.originate_within _ _).clk_eq (by decide)]
  exact now

theorem exec_requestTimerExpiry_of_poison {origin : Fin 5} {tag : Fin 65536} {r : OutReq} (out : s.findReq origin tag = some r)
    (free : r.held = none) (limited : s.timeoutNs ≠ 0) (poison : s.fld R.MEM_REQ_TIMER 31 31 = 0) :
    exec (.requestTimerExpiry origin tag) s = .next ((s.reach (r.started + s.timeoutNs)).poisonReq r) := by
  have policy : (s.reach (r.started + s.timeoutNs)).fld R.MEM_REQ_TIMER 31 31 ≠ 1 := by
    rw [State.fld_of_regs (State.reach_regs _), poison]
    decide
  change execRequestTimerExpiry origin tag s = _
  rw [execRequestTimerExpiry, out]
  dsimp only
  rw [free, if_neg (by decide), if_neg limited, if_neg limited, if_neg fun k => policy k.1]

/-- An empty held table has its first entry free. -/
theorem State.freeHeld_of_empty (empty : s.req.out.filter (fun x => x.held.isSome) = []) : s.freeHeld = some 0 := by
  have first : List.range 4096 = 0 :: (List.range 4095).map Nat.succ := List.range_succ_eq_map (n := 4095)
  unfold State.freeHeld
  rw [first, List.find?_cons_of_pos]
  rw [Bool.not_eq_true', List.any_eq_false]
  intro r out
  have free := List.filter_eq_nil_iff.mp empty r out
  cases held : r.held with
  | none => exact Bool.false_ne_true
  | some x => exact absurd (by rw [held]; rfl) free

/-- A request noted again, with the same origin and tag, is found in its place. -/
theorem State.findReq_setReq {origin tag : Nat} {r r' : OutReq} (out : s.findReq origin tag = some r) (same : r'.origin = r.origin)
    (tag' : r'.tag = r.tag) : (s.setReq r').findReq origin tag = some r' := by
  unfold State.findReq State.setReq at *
  dsimp only
  have place : (fun x : OutReq => x.origin == (if origin = 0 then 0 else origin + 3) && x.tag == tag)
        ∘ (fun x => if x.origin = r'.origin ∧ x.tag = r'.tag then r' else x)
      = fun x => x.origin == (if origin = 0 then 0 else origin + 3) && x.tag == tag := by
    funext x
    simp only [Function.comp_apply]
    split
    · next e => rw [e.1, e.2]
    · rfl
  rw [List.find?_map, place, out]
  exact congrArg some (if_pos ⟨same.symm, tag'.symm⟩)

theorem noWaitCounter_reqHeld : NoWaitCounter C.MEM_REQ_HELD := ⟨by decide, by decide, by decide, by decide, by decide⟩

/-- A request in the first entry of the held table (R260). -/
def State.heldFirst (s : State) (r : OutReq) : State :=
  ((s.setReq { r with held := some (0, s.now) }).bump C.MEM_REQ_HELD 1).raise
    { code := 0x0502, sev := 1, kind := 0x0C, index := r.origin, arg0 := 0, arg1 := r.destArg }

theorem State.holdReq_of_empty (empty : s.req.out.filter (fun x => x.held.isSome) = []) (r : OutReq) :
    s.holdReq r = s.heldFirst r := by
  rw [State.holdReq, State.freeHeld_of_empty empty, empty]
  rfl

theorem State.heldFirst_now (r : OutReq) : (s.heldFirst r).now = s.now := by
  rw [State.heldFirst, State.now, (State.raise_within _ _).clk_eq (by decide), (State.bump_within _ _ _).clk_eq (by decide),
    (State.setReq_within _ _).clk_eq (by decide), ← State.now]

theorem State.findReq_heldFirst {origin tag : Nat} {r : OutReq} (out : s.findReq origin tag = some r) :
    (s.heldFirst r).findReq origin tag = some { r with held := some (0, s.now) } := by
  have req : (s.heldFirst r).req = (s.setReq { r with held := some (0, s.now) }).req := by
    rw [State.heldFirst, (State.raise_within _ _).req_eq (by decide), (State.bump_within _ _ _).req_eq (by decide)]
  rw [State.findReq, req]
  exact State.findReq_setReq (r' := { r with held := some (0, s.now) }) out rfl rfl

theorem State.count_heldFirst (wf : Tbl.wf (fun _ => 0) s.cnt = true) (r : OutReq) :
    (s.heldFirst r).count C.MEM_REQ_HELD = (s.count C.MEM_REQ_HELD + 1) % 2 ^ 64 := by
  have cnt : (s.setReq { r with held := some (0, s.now) }).cnt = s.cnt := (State.setReq_within _ _).cnt_eq (by decide)
  have wf' : Tbl.wf (fun _ => 0) (s.setReq { r with held := some (0, s.now) }).cnt = true := by rw [cnt]; exact wf
  rw [State.heldFirst, State.count_raise (bumpTbl_wf wf' _ _) _ (by decide) (by decide), State.count_bump_self wf',
    State.count_of_cnt cnt]

theorem exec_requestTimerExpiry_of_unlimited {origin : Fin 5} {tag : Fin 65536} {r : OutReq}
    (out : s.findReq origin tag = some r) (free : r.held = none) (unlimited : s.timeoutNs = 0) :
    exec (.requestTimerExpiry origin tag) s = .next ((s.reach (r.started + 100000000)).holdReq r) := by
  change execRequestTimerExpiry origin tag s = _
  rw [execRequestTimerExpiry, out]
  dsimp only
  rw [free, if_neg (by decide), unlimited, if_pos rfl, if_pos rfl]

theorem requestTimerExpiry_gives_held (h : s.canonical = true) {origin : Fin 5} {tag : Fin 65536} {r : OutReq}
    (out : s.findReq origin tag = some r) (free : r.held = none) (unlimited : s.timeoutNs = 0)
    (empty : (s.req.out.filter (fun x => x.held.isSome)) = []) :
    Gives (.requestTimerExpiry origin tag) s (fun t => t.now = max s.now (r.started + 100000000)
      ∧ t.findReq origin tag = some { r with held := some (0, t.now) }
      ∧ t.count C.MEM_REQ_HELD = (s.count C.MEM_REQ_HELD + 1) % 2 ^ 64) := by
  have run := exec_requestTimerExpiry_of_unlimited out free unlimited
  have now := State.now_reach (s := s) (r.started + 100000000)
  have canonical := (State.reach_preserves s (r.started + 100000000) (.refl s)).canonical h
  have counted := State.count_reach (State.canonical.cnt h) noWaitCounter_reqHeld (r.started + 100000000)
  have req := (State.reach_within s (r.started + 100000000)).req_eq (by decide)
  generalize s.reach (r.started + 100000000) = u at *
  rw [← req] at empty
  have out' : u.findReq origin tag = some r := by
    rw [State.findReq, req]
    exact out
  rw [State.holdReq_of_empty empty] at run
  refine ⟨_, run, ?_⟩
  dsimp only
  rw [State.heldFirst_now, State.findReq_heldFirst out', State.count_heldFirst (State.canonical.cnt canonical), counted]
  exact ⟨now, rfl, rfl⟩

/-! ## Responses (R258, R260) -/

theorem State.echo_of_zero {p : Packet} (zero : p.echo = 0) : s.echo p = s := by
  rw [State.echo, if_pos (.inr zero)]

theorem responseReceive_gives_late (h : s.canonical = true) {it : Item} {l : List Item} (head : s.hubIn = it :: l)
    (notAck : it.pkt.ty ≠ tyACK) (zero : it.pkt.echo = 0) (out : s.req.out = []) (data : s.req.data = []) :
    Gives .responseReceive s (fun t => t.dp.unitIn = Tbl.put (fun _ => []) s.dp.unitIn 5 l
      ∧ t.count C.TEL_HUB_LATE_RSP = (s.count C.TEL_HUB_LATE_RSP + 1) % 2 ^ 64) := by
  have req : (s.unitTake 5 it l).req = s.req := (State.unitTake_within _ _ _ _).req_eq (by decide)
  have run : exec .responseReceive s = .next ((s.unitTake 5 it l).bump C.TEL_HUB_LATE_RSP 1) := by
    change execResponseReceive s = _
    rw [execResponseReceive, head]
    dsimp only
    rw [if_neg notAck, State.echo_of_zero zero, req, out, data]
    rfl
  have cnt : (s.unitTake 5 it l).cnt = s.cnt := (State.unitTake_within _ _ _ _).cnt_eq (by decide)
  refine ⟨_, run, rfl, ?_⟩
  rw [State.count_bump_self (by rw [cnt]; exact State.canonical.cnt h), State.count_of_cnt cnt]

theorem exec_responseReceive_of_request {it : Item} {l : List Item} {r : OutReq} (head : s.hubIn = it :: l)
    (notAck : it.pkt.ty ≠ tyACK) (zero : it.pkt.echo = 0) (free : r.held = none)
    (found : s.req.out.find? (fun r => r.origin == rspOrigin it.pkt && r.tag == it.pkt.fld 5 31 16 && tyResponse it.pkt.ty
      && rspType r.pkt.ty == it.pkt.ty && r.pkt.dest == it.pkt.src && r.space == it.pkt.sspace) = some r) :
    exec .responseReceive s = .next ((s.unitTake 5 it l).completeReq r (it.pkt.fld 5 15 12) (it.pkt.fld 5 11 11 == 1)
      (it.pkt.fld 6 31 0 * 2 ^ 32 + it.pkt.fld 7 31 0) it.pkt.payload) := by
  have taken : s.takeAnswer it l r = s.unitTake 5 it l := by
    rw [State.takeAnswer, State.echo_of_zero zero, free]
    rfl
  rw [exec_responseReceive_of_answer head notAck found, taken]

/-! ## The held table (R260) -/

section
variable (powered : s.on (regDomain R.MEM_HELD_CMD) = true)
include powered

theorem held_gives_empty (h : s.canonical = true) {index : Fin 4096} (empty : s.heldAt index = none) :
    Gives (.heldRelease index) s (fun t => t.fld R.MEM_HELD_STAT 3 0 = 4 ∧ t.req = s.req)
      ∧ Gives (.heldRead index) s (fun t => t.fld R.MEM_HELD_STAT 3 0 = 4 ∧ t.req = s.req) := by
  have told := State.fld_status_self (State.canonical.regs h) R.MEM_HELD_STAT (v := 4) (by decide)
  have run : exec (.heldRead index) s = .next (s.status R.MEM_HELD_STAT 4) := by
    change execHeldRead index s = _
    rw [execHeldRead, State.gate_on powered, empty]
  exact ⟨⟨_, exec_heldRelease_of_empty powered empty, told, rfl⟩, _, run, told, rfl⟩

theorem exec_heldRelease_of_held {index : Fin 4096} {r : OutReq} (held : s.heldAt index = some r) :
    exec (.heldRelease index) s = .next (((s.bump C.MEM_REQ_HELD_RELEASED 1).completeReq r 5 r.pkt.isLoad 0
      (onesFor r.pkt)).status R.MEM_HELD_STAT 0) := by
  change execHeldRelease index s = _
  rw [execHeldRelease, State.gate_on powered, held]
  rfl

theorem heldRead_gives (h : s.canonical = true) {index : Fin 4096} {r : OutReq} {i t0 : Nat} (entry : s.heldAt index = some r)
    (held : r.held = some (i, t0)) :
    Gives (.heldRead index) s (fun t => t.fld R.MEM_HELD_STAT 3 0 = 0 ∧ t.req = s.req
      ∧ t.rdWords (R.MEM_HELD_DATA 0) 4 = heldWords r t0 s.now) := by
  have run : exec (.heldRead index) s
      = .next ((s.wrWords (R.MEM_HELD_DATA 0) (heldWords r t0 s.now)).status R.MEM_HELD_STAT 0) := by
    change execHeldRead index s = _
    rw [execHeldRead, State.gate_on powered, entry]
    dsimp only
    rw [held]
  obtain ⟨words, told⟩ := State.answered (State.canonical.regs h) (off := R.MEM_HELD_DATA 0) (stat := R.MEM_HELD_STAT) (v := 0)
    (n := 4) (ws := heldWords r t0 s.now) rfl (by decide) (fun i _ => by simp only [R.MEM_HELD_DATA, R.MEM_HELD_STAT]; omega)
  exact ⟨_, run, told, rfl, words⟩

theorem exec_heldReleaseDest_of_one {r : OutReq} (one : s.req.out.filter (fun r => r.held.isSome
      && r.pkt.dest == (s.rd (R.MEM_HELD_DATA 0)).fld 17 0 && r.space == (s.rd (R.MEM_HELD_DATA 0)).fld 19 19) = [r]) :
    exec .heldReleaseDest s = .next ((s.releaseReq r).status R.MEM_HELD_STAT 0) := by
  change execHeldReleaseDest s = _
  rw [execHeldReleaseDest, State.gate_on powered]
  dsimp only
  rw [one]
  rfl

end

/-! ## Access windows (R255, R263) -/

theorem windowWrite_gives (h : s.canonical = true) {index : Fin 4096} (powered : s.on (regDomain R.MEM_WIN_CMD) = true) :
    (windowOk (s.rdWords (R.MEM_WIN_DATA 0) 4) = true →
        Gives (.windowWrite index) s (fun t => t.fld R.MEM_WIN_STAT 3 0 = 0 ∧ t.req = { s.req with
          windows := Tbl.put (fun _ => windowZero) s.req.windows index (s.rdWords (R.MEM_WIN_DATA 0) 4) }))
      ∧ (windowOk (s.rdWords (R.MEM_WIN_DATA 0) 4) = false →
        Gives (.windowWrite index) s (fun t => t.fld R.MEM_WIN_STAT 3 0 = 3 ∧ t.req = s.req)) := by
  have regs := State.canonical.regs h
  refine ⟨fun good => ⟨_, ?_, State.fld_status_self (s := { s with req := { s.req with
      windows := Tbl.put (fun _ => windowZero) s.req.windows index (s.rdWords (R.MEM_WIN_DATA 0) 4) } }) regs _ (by decide), rfl⟩,
    fun bad => ⟨_, ?_, State.fld_status_self regs _ (by decide), rfl⟩⟩
  · change execWindowWrite index s = _
    rw [execWindowWrite, State.gate_on powered, if_pos good]
  · change execWindowWrite index s = _
    rw [execWindowWrite, State.gate_on powered, if_neg (by rw [bad]; decide)]

theorem windowRead_gives (h : s.canonical = true) {index : Fin 4096} (powered : s.on (regDomain R.MEM_WIN_CMD) = true)
    (len : (Tbl.get (fun _ => windowZero) s.req.windows index).length = 4) :
    Gives (.windowRead index) s (fun t => t.fld R.MEM_WIN_STAT 3 0 = 0 ∧ t.req = s.req
      ∧ t.rdWords (R.MEM_WIN_DATA 0) 4 = Tbl.get (fun _ => windowZero) s.req.windows index) := by
  have run : exec (.windowRead index) s = .next ((s.wrWords (R.MEM_WIN_DATA 0)
      (Tbl.get (fun _ => windowZero) s.req.windows index)).status R.MEM_WIN_STAT 0) := by
    change execWindowRead index s = _
    rw [execWindowRead, State.gate_on powered]
  obtain ⟨words, told⟩ := State.answered (State.canonical.regs h) (off := R.MEM_WIN_DATA 0) (stat := R.MEM_WIN_STAT) (v := 0)
    len (by decide) (fun i _ => by simp only [R.MEM_WIN_DATA, R.MEM_WIN_STAT]; omega)
  exact ⟨_, run, told, rfl, words⟩

/-- Settles O35. -/
theorem requestsAndAccessWindows : Obligations.RequestsAndAccessWindows :=
  ⟨fun _ h => ⟨fun _ _ _ => requestRetry_gives, fun _ _ _ => exec_requestTimerExpiry_of_poison,
      fun _ _ _ => requestTimerExpiry_gives_held h, fun _ _ => responseReceive_gives_late h,
      fun _ _ _ head notAck zero free found => exec_responseReceive_of_request head notAck zero free found,
      fun _ powered => held_gives_empty powered h, fun _ _ powered => exec_heldRelease_of_held powered,
      fun _ _ _ _ powered => heldRead_gives powered h, fun _ powered => exec_heldReleaseDest_of_one powered⟩,
    fun _ _ h powered => ⟨(windowWrite_gives h powered).1, (windowWrite_gives h powered).2, windowRead_gives h powered⟩⟩

end Sys2Proof.Machine

/-!
PROOFS. Memory: bytes written, read back and left, and the poison that a write clears (R251, R253, R264, R269).
-/
namespace Sys2Proof.Machine

variable {s : State}

/-! ## Bytes as memory holds them -/

/-- A byte of memory that is not poisoned. -/
def Memory.held (m : Memory) (key : Nat) : Byte :=
  if isExtent key then
    match Tbl.get (fun _ => none) m.cxlBytes key with
    | some b => b
    | none => Config.cxlByte (Tbl.get (fun _ => 0) m.cxlGen (extentPort key)) key
  else Tbl.get (fun _ => 0) m.bytes key

theorem State.memByte_eq (key : Nat) : s.memByte key = if s.poisoned key then Config.poisonByte key else s.mem.held key := rfl

theorem Memory.held_putByte {m : Memory} (h : m.wf = true) (key : Nat) (b : Byte) (a : Nat) :
    (m.putByte key b).held a = if a = key then b else m.held a := by
  obtain ⟨bytes, cxl, -, -⟩ := (Memory.wf_iff m).mp h
  by_cases ext : isExtent key = true
  · rw [Memory.putByte, if_pos ext, Memory.held, Memory.held]
    dsimp only
    by_cases same : a = key
    · rw [if_pos same, same, if_pos ext, Tbl.get_put_self cxl]
    · rw [if_neg same, Tbl.get_put_ne cxl _ same]
  · rw [Memory.putByte, if_neg ext, Memory.held, Memory.held]
    dsimp only
    by_cases same : a = key
    · rw [if_pos same, same, if_neg ext, Tbl.get_put_self bytes]
    · rw [if_neg same, Tbl.get_put_ne bytes _ same]

/-- A byte outside those written. -/
theorem Memory.held_putBytes_ne : ∀ (bs : List Byte) {m : Memory} {key a : Nat}, m.wf = true → a < key ∨ key + bs.length ≤ a →
    (m.putBytes key bs).held a = m.held a
  | [], _, _, _, _, _ => rfl
  | b :: bs, m, key, a, h, out => by
    rw [List.length_cons] at out
    rw [Memory.putBytes, Memory.held_putBytes_ne bs (Memory.putByte_wf h key b) (by omega), Memory.held_putByte h, if_neg (by omega)]

/-- A byte written. -/
theorem Memory.held_putBytes : ∀ (bs : List Byte) {m : Memory} {key i : Nat} (_ : m.wf = true) (lt : i < bs.length),
    (m.putBytes key bs).held (key + i) = bs[i]
  | b :: bs, m, key, 0, h, _ => by
    rw [Memory.putBytes, Memory.held_putBytes_ne bs (Memory.putByte_wf h key b) (by omega), Memory.held_putByte h, if_pos (Nat.add_zero key)]
    rfl
  | b :: bs, m, key, i + 1, h, lt => by
    rw [Memory.putBytes, show key + (i + 1) = key + 1 + i by omega,
      Memory.held_putBytes bs (Memory.putByte_wf h key b) (Nat.lt_of_succ_lt_succ lt)]
    rfl

/-- Bytes written change no poison, and poison cleared changes no byte. -/
theorem Memory.putBytes_keeps : ∀ (bs : List Byte) (m : Memory) (key : Nat),
    (m.putBytes key bs).poison = m.poison ∧ (m.putBytes key bs).badSlices = m.badSlices
  | [], _, _ => ⟨rfl, rfl⟩
  | b :: bs, m, key => by
    obtain ⟨poison, bad⟩ := Memory.putBytes_keeps bs (m.putByte key b) (key + 1)
    have step : (m.putByte key b).poison = m.poison ∧ (m.putByte key b).badSlices = m.badSlices := by
      unfold Memory.putByte
      split
      · exact ⟨rfl, rfl⟩
      · exact ⟨rfl, rfl⟩
    exact ⟨poison.trans step.1, bad.trans step.2⟩

theorem Memory.held_heal (m : Memory) (key len a : Nat) : (m.heal key len).held a = m.held a := rfl

/-! ## Poison (R264, R284) -/

theorem Tbl.get_foldl_put {α : Type} [DecidableEq α] {d : Nat → α} (x : α) (k : Nat) : ∀ (l : List Nat) {t : Tbl α}, Tbl.wf d t = true →
    Tbl.get d (l.foldl (fun t j => Tbl.put d t j x) t) k = if k ∈ l then x else Tbl.get d t k
  | [], _, _ => by rw [if_neg List.not_mem_nil]; rfl
  | j :: l, t, wf => by
    rw [List.foldl_cons, Tbl.get_foldl_put x k l (Tbl.wf_put wf j x), Tbl.get_put wf]
    by_cases there : k ∈ l
    · rw [if_pos there, if_pos (List.mem_cons_of_mem _ there)]
    · simp only [List.mem_cons, there, or_false, if_false]

theorem mem_wholeLines {key len l : Nat} : l ∈ wholeLines key len ↔ key ≤ 64 * l ∧ 64 * l + 64 ≤ key + len := by
  simp only [wholeLines, List.mem_map, List.mem_range]
  constructor
  · rintro ⟨i, lt, rfl⟩
    omega
  · intro ⟨low, high⟩
    exact ⟨l - (key + 63) / 64, by omega, by omega⟩

theorem mem_wholeSlices {key len l : Nat} : l ∈ wholeSlices key len ↔ key ≤ 16384 * l ∧ 16384 * l + 16384 ≤ key + len := by
  simp only [wholeSlices, List.mem_map, List.mem_range]
  constructor
  · rintro ⟨i, lt, rfl⟩
    omega
  · intro ⟨low, high⟩
    exact ⟨l - (key + 16383) / 16384, by omega, by omega⟩

/-- The marks of poison after a write. -/
theorem State.poison_writeBytes (h : s.mem.wf = true) (key : Nat) (bs : List Byte) (l : Nat) :
    Tbl.get (fun _ => false) (s.writeBytes key bs).mem.poison l
        = (if l ∈ wholeLines key bs.length then false else Tbl.get (fun _ => false) s.mem.poison l)
      ∧ Tbl.get (fun _ => false) (s.writeBytes key bs).mem.badSlices l
        = (if l ∈ wholeSlices key bs.length then false else Tbl.get (fun _ => false) s.mem.badSlices l) := by
  obtain ⟨-, -, poison, bad⟩ := (Memory.wf_iff s.mem).mp h
  obtain ⟨samePoison, sameBad⟩ := Memory.putBytes_keeps bs s.mem key
  have mem : (s.writeBytes key bs).mem = (s.mem.putBytes key bs).heal key bs.length := by
    unfold State.writeBytes
    dsimp only
    split
    · rfl
    · rfl
  rw [mem, Memory.heal, samePoison, sameBad]
  exact ⟨Tbl.get_foldl_put false l _ poison, Tbl.get_foldl_put false l _ bad⟩

/-- A write poisons no byte. -/
theorem State.poisoned_writeBytes_of_clean (h : s.mem.wf = true) (key : Nat) (bs : List Byte) {a : Nat} (clean : s.poisoned a = false) :
    (s.writeBytes key bs).poisoned a = false := by
  obtain ⟨line, slice⟩ := Bool.or_eq_false_iff.mp clean
  rw [State.poisoned, (State.poison_writeBytes h key bs _).1, (State.poison_writeBytes h key bs _).2, line, slice, ite_self, ite_self]
  rfl

/-- A byte outside a write is poisoned as before. -/
theorem State.poisoned_writeBytes_ne (h : s.mem.wf = true) {key : Nat} {bs : List Byte} {a : Nat} (out : a < key ∨ key + bs.length ≤ a) :
    (s.writeBytes key bs).poisoned a = s.poisoned a := by
  have line : a / 64 ∉ wholeLines key bs.length := by
    rw [mem_wholeLines]
    omega
  have slice : a / 16384 ∉ wholeSlices key bs.length := by
    rw [mem_wholeSlices]
    omega
  rw [State.poisoned, State.poisoned, (State.poison_writeBytes h key bs _).1, (State.poison_writeBytes h key bs _).2, if_neg line,
    if_neg slice]

/-! ## The combining buffer under a write (R253, R269) -/

/-- The byte that a line holds, where it is filled. -/
def CLine.byte (l : CLine) (a : Nat) : Option Byte := l.data.map (fun bs => bs.getD (a % 64) 0)

theorem State.readByte_eq (a : Nat) : s.readByte a = ((s.lineOf a).bind (·.byte a)).getD (s.memByte a) := by
  unfold State.readByte
  cases s.lineOf a with
  | none => rfl
  | some l =>
    dsimp only [Option.bind_some, CLine.byte]
    cases l.data with
    | none => rfl
    | some bs => rfl

theorem CLine.putByte_line (l : CLine) (key : Nat) (b : Byte) : (l.putByte key b).line = l.line := by
  unfold CLine.putByte
  split
  · rfl
  · rfl

/-- A byte put into its line changes no other byte. -/
theorem CLine.byte_putByte_ne {l : CLine} {key a : Nat} (b : Byte) (line : l.line = a / 64) (ne : a ≠ key) :
    (l.putByte key b).byte a = l.byte a := by
  unfold CLine.putByte
  split
  · next same =>
    have other : key % 64 ≠ a % 64 := by omega
    unfold CLine.byte
    cases l.data with
    | none => rfl
    | some bs =>
      simp only [Option.map_some, List.getD_eq_getElem?_getD, List.getElem?_set_ne other]
  · rfl

/-- What the buffer holds of a byte outside a write. -/
theorem putLines_byte_ne : ∀ (bs : List Byte) {ls : List CLine} {key a : Nat}, a < key ∨ key + bs.length ≤ a →
    ((putLines ls key bs).find? (fun l => l.line == a / 64)).bind (·.byte a) = (ls.find? (fun l => l.line == a / 64)).bind (·.byte a)
  | [], _, _, _, _ => rfl
  | b :: bs, ls, key, a, out => by
    rw [List.length_cons] at out
    rw [putLines, putLines_byte_ne bs (by omega), List.find?_map]
    have same : ((fun (l : CLine) => l.line == a / 64) ∘ fun (l : CLine) => l.putByte key b) = fun (l : CLine) => l.line == a / 64 := by
      funext l
      rw [Function.comp_apply, CLine.putByte_line]
    rw [same]
    cases found : ls.find? (fun l => l.line == a / 64) with
    | none => rfl
    | some l => exact CLine.byte_putByte_ne b (beq_iff_eq.mp (List.find?_some found :)) (by omega)

theorem State.home_setHome (h : Tbl.wf (fun _ => Home.init) s.homes = true) (d j : Nat) (x : Home) :
    (s.setHome d x).home j = if j = d then x else s.home j := Tbl.get_put h d j x

/-- A byte outside a write reads as before. -/
theorem State.readByte_writeBytes_ne (wf : s.mem.wf = true) (homes : Tbl.wf (fun _ => Home.init) s.homes = true) {key : Nat}
    {bs : List Byte} {a : Nat} (out : a < key ∨ key + bs.length ≤ a) : (s.writeBytes key bs).readByte a = s.readByte a := by
  have poisoned := State.poisoned_writeBytes_ne wf out
  have mem : (s.writeBytes key bs).memByte a = s.memByte a := by
    have held : (s.writeBytes key bs).mem.held a = s.mem.held a := by
      unfold State.writeBytes
      dsimp only
      split
      · exact Memory.held_putBytes_ne bs wf out
      · exact Memory.held_putBytes_ne bs wf out
    rw [State.memByte_eq, State.memByte_eq, poisoned, held]
  have line : ((s.writeBytes key bs).lineOf a).bind (·.byte a) = (s.lineOf a).bind (·.byte a) := by
    unfold State.writeBytes
    dsimp only
    split
    · rfl
    · rw [State.lineOf, State.lineOf, show ∀ (t : State) m n, State.home { t with mem := m } n = t.home n from fun _ _ _ => rfl,
        State.home_setHome homes]
      split
      · next same => rw [putLines_byte_ne bs out, same]
      · rfl
  rw [State.readByte_eq, State.readByte_eq, mem, line]

/-! ## What is written reads back (R251) -/

theorem State.readBytes_eq : ∀ (bs : List Byte) {s : State} {key : Nat}, (∀ i (lt : i < bs.length), s.readByte (key + i) = bs[i]) →
    s.readBytes key bs.length = bs
  | [], _, _, _ => rfl
  | b :: bs, s, key, each => by
    have first : s.readByte key = b := each 0 (Nat.succ_pos _)
    rw [List.length_cons, State.readBytes, first, State.readBytes_eq bs fun i lt => ?_]
    rw [show key + 1 + i = key + (i + 1) by omega]
    exact each (i + 1) (Nat.succ_lt_succ lt)

/-- A write leaves each line's place in the buffer. -/
theorem putLines_lines : ∀ (bs : List Byte) (ls : List CLine) (key : Nat), (putLines ls key bs).map (·.line) = ls.map (·.line)
  | [], _, _ => rfl
  | b :: bs, ls, key => by
    rw [putLines, putLines_lines bs, List.map_map]
    exact List.map_congr_left fun l _ => CLine.putByte_line l key b

theorem find_line_none {ls : List CLine} {n : Nat} : ls.find? (fun l => l.line == n) = none ↔ n ∉ ls.map (·.line) := by
  simp only [List.find?_eq_none, beq_iff_eq, List.mem_map, not_exists, not_and]

theorem State.lineOf_writeBytes_none (homes : Tbl.wf (fun _ => Home.init) s.homes = true) (key : Nat) (bs : List Byte) {a : Nat}
    (none_ : s.lineOf a = none) : (s.writeBytes key bs).lineOf a = none := by
  unfold State.writeBytes
  dsimp only
  split
  · exact none_
  · rw [State.lineOf, show ∀ (t : State) m n, State.home { t with mem := m } n = t.home n from fun _ _ _ => rfl,
      State.home_setHome homes]
    split
    · next same =>
      rw [find_line_none, putLines_lines, ← find_line_none, ← same]
      exact none_
    · exact none_

theorem State.readBytes_writeBytes (wf : s.mem.wf = true) (homes : Tbl.wf (fun _ => Home.init) s.homes = true) {key : Nat}
    {bs : List Byte} (clean : ∀ i, i < bs.length → s.poisoned (key + i) = false)
    (unbuffered : ∀ i, i < bs.length → s.lineOf (key + i) = none) : (s.writeBytes key bs).readBytes key bs.length = bs := by
  refine State.readBytes_eq bs fun i lt => ?_
  have held : (s.writeBytes key bs).mem.held (key + i) = bs[i] := by
    unfold State.writeBytes
    dsimp only
    split
    · exact Memory.held_putBytes bs wf lt
    · exact Memory.held_putBytes bs wf lt
  rw [State.readByte_eq, State.lineOf_writeBytes_none homes key bs (unbuffered i lt), State.memByte_eq,
    State.poisoned_writeBytes_of_clean wf key bs (clean i lt), held]
  rfl

theorem State.lineOf_of_empty {key a : Nat} (same : a / 2 ^ 46 = key / 2 ^ 46) (empty : (s.home (key / 2 ^ 46)).lines = []) :
    s.lineOf a = none := by
  rw [State.lineOf, same, empty]
  rfl

/-- Settles O32. -/
theorem memoryReadsBackWrites : Obligations.MemoryReadsBackWrites := fun _ key bs h =>
  ⟨fun clean within empty => State.readBytes_writeBytes (State.canonical.mem h) (State.canonical.homes h) clean fun i lt =>
      State.lineOf_of_empty (by omega) empty,
    fun _ => State.readByte_writeBytes_ne (State.canonical.mem h) (State.canonical.homes h), fun l low high => by
    rw [(State.poison_writeBytes (State.canonical.mem h) key bs l).1, if_pos (mem_wholeLines.mpr ⟨low, high⟩)]⟩

end Sys2Proof.Machine

/-!
PROOFS. Requests at a home agent taken by their class, and trackers (R245 to R250, R263).
-/
namespace Sys2Proof.Machine

variable {s : State}

/-! ## Series, slots and lines of a home agent -/

theorem State.home_of_homes {t : State} (h : t.homes = s.homes) (d : Nat) : t.home d = s.home d := by
  rw [State.home, State.home, h]

theorem State.home_setHome_self (h : Tbl.wf (fun _ => Home.init) s.homes = true) (d : Nat) (x : Home) :
    (s.setHome d x).home d = x := by rw [State.home_setHome h, if_pos rfl]

theorem State.setHome_homes_wf (h : Tbl.wf (fun _ => Home.init) s.homes = true) (d : Nat) (x : Home) :
    Tbl.wf (fun _ => Home.init) (s.setHome d x).homes = true := Tbl.wf_put h d x

theorem Home.seriesOf_setSeries_self (h : Home) (k : Nat) (t : Tracker) : (h.setSeries k t).seriesOf k = some t :=
  Tbl.get_put_of_ne_default (d := fun _ => none) _ _ (Option.some_ne_none t)

theorem Home.seriesOf_setSeries_ne (h : Home) {k j : Nat} (t : Tracker) (ne : j ≠ k) : (h.setSeries k t).seriesOf j = h.seriesOf j := by
  have listed : Tbl.put (fun _ => none) h.series k (some t) = Tbl.insert h.series k (some t) := if_neg (Option.some_ne_none t)
  rw [Home.seriesOf, Home.setSeries, listed, Tbl.get_insert_ne _ _ ne, Home.seriesOf]

/-- The state of a SEQ changes the series alone. -/
theorem Home.setSeq_keeps (h : Home) (k a : Nat) (st : SeqState) :
    (h.setSeq k a st).slots = h.slots ∧ (h.setSeq k a st).active = h.active ∧ (h.setSeq k a st).lines = h.lines := by
  unfold Home.setSeq
  repeat' split
  · exact ⟨rfl, rfl, rfl⟩
  · exact ⟨rfl, rfl, rfl⟩
  · exact ⟨rfl, rfl, rfl⟩

theorem Home.foldl_setSeq_keeps : ∀ (l : List HomeReq) (h : Home),
    (l.foldl (fun (h : Home) (r : HomeReq) => h.setSeq r.src r.seq .held) h).slots = h.slots
      ∧ (l.foldl (fun (h : Home) (r : HomeReq) => h.setSeq r.src r.seq .held) h).active = h.active
      ∧ (l.foldl (fun (h : Home) (r : HomeReq) => h.setSeq r.src r.seq .held) h).lines = h.lines
  | [], _ => ⟨rfl, rfl, rfl⟩
  | r :: l, h => by
    obtain ⟨slots, active, lines⟩ := Home.foldl_setSeq_keeps l (h.setSeq r.src r.seq .held)
    obtain ⟨slots', active', lines'⟩ := Home.setSeq_keeps h r.src r.seq .held
    exact ⟨slots.trans slots', active.trans active', lines.trans lines'⟩

/-- The tracker that a source in first contact takes changes the active trackers alone (R246). -/
theorem Home.take_keeps {h h' : Home} {k : Nat} (taken : h.take k = some h') :
    h'.slots = h.slots ∧ h'.series = h.series ∧ h'.lines = h.lines := by
  unfold Home.take at taken
  split at taken
  · obtain rfl := Option.some.inj taken
    exact ⟨rfl, rfl, rfl⟩
  · exact nomatch taken

/-! ## Ready requests (R248, R251) -/

/-- The slots after a refresh: those ready before, those ready now, and the rest. -/
theorem Home.refresh_slots (h : Home) (now : Nat) : (h.refresh now).1.slots = h.slots.filter (·.ready)
    ++ (h.slots.filter (fun r => !r.ready && h.ordered r)).map (fun r => { r with ready := true })
    ++ h.slots.filter (fun r => !r.ready && !h.ordered r) := (Home.foldl_setSeq_keeps _ _).1

theorem Home.refresh_lines (h : Home) (now : Nat) : (h.refresh now).1.lines = h.lines := (Home.foldl_setSeq_keeps _ _).2.2

/-- Readiness adds and loses no slot. -/
theorem filter_three_length (l : List HomeReq) (p q : HomeReq → Bool) :
    (l.filter p).length + (l.filter (fun r => !p r && q r)).length + (l.filter (fun r => !p r && !q r)).length = l.length := by
  induction l with
  | nil => rfl
  | cons r l ih =>
    simp only [List.filter_cons]
    cases p r <;> cases q r <;> simp <;> omega

theorem Home.refresh_slots_length (h : Home) (now : Nat) : (h.refresh now).1.slots.length = h.slots.length := by
  rw [Home.refresh_slots, List.length_append, List.length_append, List.length_map]
  exact filter_three_length h.slots (·.ready) h.ordered

/-- A request that ordering lets proceed is ready after a refresh. -/
theorem Home.mem_refresh_slots {h : Home} {r : HomeReq} (slot : r ∈ h.slots) (waiting : r.ready = false) (free : h.ordered r = true)
    (now : Nat) : { r with ready := true } ∈ (h.refresh now).1.slots := by
  rw [Home.refresh_slots]
  refine List.mem_append_left _ (List.mem_append_right _ (List.mem_map.mpr ⟨r, List.mem_filter.mpr ⟨slot, ?_⟩, rfl⟩))
  rw [waiting, free]
  rfl

/-- A SEQ held in a series that a request has begun with one SEQ alone. -/
theorem Home.setSeq_began {h : Home} {k a : Nat} {st : SeqState} (began : h.seriesOf k = some (Tracker.begin_ a st)) (k' a' : Nat) :
    (h.setSeq k' a' .held).seriesOf k = some (Tracker.begin_ a (if k' = k ∧ a' = a then .held else st)) := by
  by_cases same : k' = k
  · subst same
    rw [Home.setSeq, began]
    dsimp only
    by_cases seq : a' = a
    · subst seq
      have there : ((Tracker.begin_ a' st).find a').isSome = true := by simp [Tracker.begin_, Tracker.find]
      rw [if_pos there, Home.seriesOf_setSeries_self, if_pos ⟨rfl, rfl⟩]
      simp [Tracker.begin_, Tracker.put]
    · have absent : ¬ ((Tracker.begin_ a st).find a').isSome = true := by
        simp [Tracker.begin_, Tracker.find, Ne.symm seq]
      rw [if_neg absent, began, if_neg fun e => seq e.2]
  · rw [if_neg fun e => same e.1, ← began, Home.setSeq]
    split
    · split
      · exact Home.seriesOf_setSeries_ne _ _ (Ne.symm same)
      · rfl
    · rfl

theorem Home.foldl_setSeq_held {k a : Nat} : ∀ (l : List HomeReq) {h : Home}, h.seriesOf k = some (Tracker.begin_ a .held) →
    (l.foldl (fun (h : Home) (r : HomeReq) => h.setSeq r.src r.seq .held) h).seriesOf k = some (Tracker.begin_ a .held)
  | [], _, began => began
  | r :: l, h, began => by
    have next := Home.setSeq_began began r.src r.seq
    rw [ite_self] at next
    exact Home.foldl_setSeq_held l next

theorem Home.foldl_setSeq_waiting {k a : Nat} {r : HomeReq} (src : r.src = k) (seq : r.seq = a) : ∀ (l : List HomeReq) {h : Home}, r ∈ l →
    h.seriesOf k = some (Tracker.begin_ a .waiting) →
    (l.foldl (fun (h : Home) (r : HomeReq) => h.setSeq r.src r.seq .held) h).seriesOf k = some (Tracker.begin_ a .held)
  | [], _, listed, _ => nomatch listed
  | q :: l, h, listed, began => by
    have next := Home.setSeq_began began q.src q.seq
    rw [List.foldl_cons]
    by_cases same : q.src = k ∧ q.seq = a
    · rw [if_pos same] at next
      exact Home.foldl_setSeq_held l next
    · rw [if_neg same] at next
      have rest : r ∈ l := (List.mem_cons.mp listed).resolve_left fun e => same (e ▸ ⟨src, seq⟩)
      exact Home.foldl_setSeq_waiting src seq l rest next

/-! ## Requests taken (R245, R247, R250) -/

/-- The input of a home agent with its head gone. -/
theorem State.unitTake_unitIn (u : Nat) (it : Item) (l : List Item) :
    (s.unitTake u it l).dp.unitIn = Tbl.put (fun _ => []) s.dp.unitIn u l := rfl

theorem State.unitTake_homes (u : Nat) (it : Item) (l : List Item) : (s.unitTake u it l).homes = s.homes := rfl

/-- What a home answers goes to PL17's ingress (R61, R68). -/
theorem State.respond_gives (joined : s.joined = true) (d : Nat) (p : Packet) (result : Nat) (poison : Bool) (old : Nat)
    (data : List Byte) : ∃ x, (s.respond d p result poison old data).2.rx 1088 = s.rx 1088 ++ [x]
      ∧ x.body = .ffp (rspPacket d s.spineId p (s.nextSeq d p.sspace p.src) result poison old data) :=
  ⟨_, State.rx_originate (s := s.takeSeq d p.sspace p.src) ((State.joined_of_parts rfl rfl rfl).trans joined) _, rfl⟩

theorem State.originate_unitIn (p : Packet) : (s.originate p).dp.unitIn = s.dp.unitIn := by
  unfold State.originate
  extract_lets it
  split
  · rfl
  · rfl

theorem State.respond_unitIn (d : Nat) (p : Packet) (result : Nat) (poison : Bool) (old : Nat) (data : List Byte) :
    (s.respond d p result poison old data).2.dp.unitIn = s.dp.unitIn := State.originate_unitIn (s := s.takeSeq d p.sspace p.src) _

section
variable {d : Fin 4} {it : Item} {rest : List Item} (head : Tbl.get (fun _ => []) s.dp.unitIn d = it :: rest)
include head

theorem exec_homeRequestReceive_of_dead (dead : s.homeDead d = true) : exec (.homeRequestReceive d) s
    = .next ((s.setUnitIn d rest).respond d it.pkt 1 it.pkt.isLoad 0 (onesFor it.pkt)).2 := by
  change execHomeRequestReceive d s = _
  rw [execHomeRequestReceive, State.unitQueue, head]
  exact if_pos dead

theorem homeRequestReceive_gives_dead (dead : s.homeDead d = true) (joined : s.joined = true) :
    Gives (.homeRequestReceive d) s (fun t => t.dp.unitIn = Tbl.put (fun _ => []) s.dp.unitIn d rest
      ∧ ∃ x, t.rx 1088 = s.rx 1088 ++ [x] ∧ x.body = .ffp (rspPacket d s.spineId it.pkt
          (s.nextSeq d it.pkt.sspace it.pkt.src) 1 it.pkt.isLoad 0 (onesFor it.pkt))) := by
  have run := exec_homeRequestReceive_of_dead head dead
  have regs : (s.setUnitIn d rest).regs = s.regs := rfl
  have joined' : (s.setUnitIn d rest).joined = true := (State.joined_of_parts regs rfl rfl).trans joined
  have spine : (s.setUnitIn d rest).spineId = s.spineId := State.fld_of_regs regs _ _ _
  have unitIn : (s.setUnitIn d rest).dp.unitIn = Tbl.put (fun _ => []) s.dp.unitIn d rest := rfl
  have rx : (s.setUnitIn d rest).rx 1088 = s.rx 1088 := rfl
  have seq (k : Nat) : (s.setUnitIn d rest).nextSeq d it.pkt.sspace k = s.nextSeq d it.pkt.sspace k := rfl
  obtain ⟨x, sent, body⟩ := State.respond_gives joined' d it.pkt 1 it.pkt.isLoad 0 (onesFor it.pkt)
  refine ⟨_, run, ?_, x, ?_, ?_⟩
  · rw [State.respond_unitIn, unitIn]
  · rw [sent, rx]
  · rw [body, spine, seq]

theorem exec_homeRequestReceive_of_alive (alive : s.homeDead d = false) (works : s.dieWorks d = true) :
    exec (.homeRequestReceive d) s = .next (s.takeRequest d it rest) := by
  change execHomeRequestReceive d s = _
  rw [execHomeRequestReceive, State.unitQueue, head]
  dsimp only
  rw [alive, works]
  rfl

end

/-- A refresh of a home agent. -/
theorem State.refreshHome_home (h : Tbl.wf (fun _ => Home.init) s.homes = true) (d : Nat) :
    (s.refreshHome d).home d = ((s.home d).refresh s.now).1 := State.home_setHome_self h d _

/-- A home agent in which a request of a source in first contact has its slot and its series (R250). -/
def Home.begin_ (h : Home) (r : HomeReq) : Home :=
  { h.setSeries r.src (Tracker.begin_ r.seq .waiting) with slots := h.slots ++ [r] }

theorem Home.begin_ordered (h : Home) (r : HomeReq) : (h.begin_ r).ordered r = true := by
  have series : (h.begin_ r).seriesOf r.src = some (Tracker.begin_ r.seq .waiting) := Home.seriesOf_setSeries_self h r.src _
  have alone : (Tracker.begin_ r.seq .waiting).back (Tracker.begin_ r.seq .waiting).first - (Tracker.begin_ r.seq .waiting).back r.seq = 0 :=
    Nat.sub_self _
  rw [Home.ordered, series]
  split
  · rfl
  · dsimp only
    rw [alone]
    rfl

theorem Home.refresh_begin_ (h : Home) {r : HomeReq} (waiting : r.ready = false) (now : Nat) :
    ((h.begin_ r).refresh now).1.seriesOf r.src = some (Tracker.begin_ r.seq .held)
      ∧ ((h.begin_ r).refresh now).1.slots.length = h.slots.length + 1
      ∧ { r with ready := true } ∈ ((h.begin_ r).refresh now).1.slots := by
  have there : r ∈ (h.begin_ r).slots := List.mem_append_right _ List.mem_cons_self
  have ordered := Home.begin_ordered h r
  refine ⟨?_, ?_, Home.mem_refresh_slots there waiting ordered _⟩
  · exact Home.foldl_setSeq_waiting (r := r) rfl rfl _ (List.mem_filter.mpr ⟨there, by rw [waiting, ordered]; rfl⟩)
      (Home.seriesOf_setSeries_self h r.src _)
  · rw [Home.refresh_slots_length]
    exact List.length_append

theorem State.takeFirst_eq {d k : Nat} {it : Item} (rest : List Item) (h' : Home) (room : (s.home d).roomFor it.pkt = true) :
    s.takeFirst d it rest k h'
      = ((s.unitTake d it rest).setHome d (h'.begin_ ⟨k, it.pkt.seq, it.pkt, s.now, false⟩)).refreshHome d := by
  rw [State.takeFirst, if_neg (by rw [room]; decide)]
  rfl

theorem State.takeFirst_gives (h : s.canonical = true) {d k : Nat} {it : Item} {rest : List Item} {h' : Home}
    (slots : h'.slots = (s.home d).slots) (room : (s.home d).roomFor it.pkt = true) :
    (s.takeFirst d it rest k h').dp.unitIn = Tbl.put (fun _ => []) s.dp.unitIn d rest
      ∧ ((s.takeFirst d it rest k h').home d).seriesOf k = some (Tracker.begin_ it.pkt.seq .held)
      ∧ ((s.takeFirst d it rest k h').home d).slots.length = (s.home d).slots.length + 1
      ∧ ∃ x, x ∈ ((s.takeFirst d it rest k h').home d).slots ∧ x.src = k ∧ x.pkt = it.pkt ∧ x.since = s.now ∧ x.ready = true := by
  rw [State.takeFirst_eq rest h' room]
  have wf : Tbl.wf (fun _ => Home.init) (s.unitTake d it rest).homes = true := by
    rw [State.unitTake_homes]
    exact State.canonical.homes h
  have unitIn := State.unitTake_unitIn (s := s) d it rest
  generalize s.unitTake d it rest = u at *
  obtain ⟨series, length, there⟩ := Home.refresh_begin_ h' (r := ⟨k, it.pkt.seq, it.pkt, s.now, false⟩) rfl
    (u.setHome d (h'.begin_ ⟨k, it.pkt.seq, it.pkt, s.now, false⟩)).now
  rw [(State.refreshHome_within _ _).dp_eq (by decide), State.setHome_dp, State.refreshHome_home (State.setHome_homes_wf wf d _),
    State.home_setHome_self wf, ← slots]
  exact ⟨unitIn, series, length, _, there, rfl, rfl, rfl, rfl⟩

theorem homeRequestReceive_gives_first (h : s.canonical = true) {d : Fin 4} {it : Item} {rest : List Item} {h' : Home}
    (head : Tbl.get (fun _ => []) s.dp.unitIn d = it :: rest) (alive : s.homeDead d = false) (works : s.dieWorks d = true)
    (taken : (s.home d).take (srcKey it.pkt.sspace it.pkt.src) = some h')
    (new : (s.home d).seriesOf (srcKey it.pkt.sspace it.pkt.src) = none) (room : (s.home d).roomFor it.pkt = true) :
    Gives (.homeRequestReceive d) s (fun t => t.dp.unitIn = Tbl.put (fun _ => []) s.dp.unitIn d rest
      ∧ (t.home d).seriesOf (srcKey it.pkt.sspace it.pkt.src) = some (Tracker.begin_ it.pkt.seq .held)
      ∧ (t.home d).slots.length = (s.home d).slots.length + 1
      ∧ ∃ x, x ∈ (t.home d).slots ∧ x.src = srcKey it.pkt.sspace it.pkt.src ∧ x.pkt = it.pkt ∧ x.since = s.now
          ∧ x.ready = true) := by
  have run := exec_homeRequestReceive_of_alive head alive works
  rw [State.takeRequest, taken] at run
  dsimp only at run
  rw [new] at run
  exact ⟨_, run, State.takeFirst_gives h (Home.take_keeps taken).1 room⟩

/-- A source with no request left changes its tracker alone. -/
theorem State.idleSource_home (h : Tbl.wf (fun _ => Home.init) s.homes = true) (d k : Nat) :
    ((s.idleSource d k).home d).slots = (s.home d).slots ∧ ((s.idleSource d k).home d).series = (s.home d).series := by
  unfold State.idleSource
  dsimp only
  split
  · exact ⟨rfl, rfl⟩
  · split
    · rw [State.home_setHome_self h]
      exact ⟨rfl, rfl⟩
    · rw [State.home_setHome_self h]
      exact ⟨rfl, rfl⟩

/-- What a home counts of a request that it takes no slot for. -/
def State.recounted (s : State) (d : Nat) (it : Item) (rest : List Item) (h' : Home) (c : Nat) : State :=
  ((s.unitTake d it rest).setHome d h').bump c 1

theorem State.recounted_homes (d : Nat) (it : Item) (rest : List Item) (h' : Home) (c : Nat) :
    (s.recounted d it rest h' c).homes = ((s.unitTake d it rest).setHome d h').homes := rfl

theorem State.recounted_gives (h : s.canonical = true) (d : Nat) (it : Item) (rest : List Item) (h' : Home) (c : Nat) :
    (s.recounted d it rest h' c).home d = h' ∧ Tbl.wf (fun _ => Home.init) (s.recounted d it rest h' c).homes = true
      ∧ (s.recounted d it rest h' c).mem = s.mem ∧ (s.recounted d it rest h' c).rx 1088 = s.rx 1088
      ∧ (s.recounted d it rest h' c).count c = (s.count c + 1) % 2 ^ 64 := by
  have homes : Tbl.wf (fun _ => Home.init) (s.unitTake d it rest).homes = true := by
    rw [State.unitTake_homes]
    exact State.canonical.homes h
  have cnt : ((s.unitTake d it rest).setHome d h').cnt = s.cnt := rfl
  refine ⟨State.home_setHome_self homes d h', State.setHome_homes_wf homes d h', rfl, rfl, ?_⟩
  rw [State.recounted, State.count_bump_self (by rw [cnt]; exact State.canonical.cnt h), State.count_of_cnt cnt]

theorem exec_homeRequestReceive_of_known {d : Fin 4} {it : Item} {rest : List Item} {h' : Home} {tr : Tracker}
    (head : Tbl.get (fun _ => []) s.dp.unitIn d = it :: rest) (alive : s.homeDead d = false) (works : s.dieWorks d = true)
    (taken : (s.home d).take (srcKey it.pkt.sspace it.pkt.src) = some h')
    (known : (s.home d).seriesOf (srcKey it.pkt.sspace it.pkt.src) = some tr) : exec (.homeRequestReceive d) s
      = .next (s.takeClass d it rest (srcKey it.pkt.sspace it.pkt.src) tr h' (tr.classify it.pkt.seq)) := by
  have run := exec_homeRequestReceive_of_alive head alive works
  rw [State.takeRequest, taken] at run
  dsimp only at run
  rw [known] at run
  exact run

theorem Home.markAgain_slots (h : Home) (k : Nat) (p : Packet) :
    (h.markAgain k p).slots.map (fun x => (x.src, x.seq, x.ready)) = h.slots.map (fun x => (x.src, x.seq, x.ready)) := by
  rw [Home.markAgain, List.map_map]
  refine List.map_congr_left fun r _ => ?_
  rw [Function.comp_apply]
  split
  · rfl
  · rfl

theorem State.takeClass_gives_duplicate (h : s.canonical = true) {d k : Nat} {it : Item} {rest : List Item} {h' : Home} {tr : Tracker}
    (slots : h'.slots = (s.home d).slots) (series : h'.series = (s.home d).series)
    (ready : s.loadWaits d it.pkt = false ∨ ∀ a, tr.find it.pkt.seq = some (.answered a) → a.load = false) :
    ((s.takeClass d it rest k tr h' .duplicate).home d).slots.map (fun x => (x.src, x.seq, x.ready))
        = (s.home d).slots.map (fun x => (x.src, x.seq, x.ready))
      ∧ ((s.takeClass d it rest k tr h' .duplicate).home d).series = (s.home d).series
      ∧ (s.takeClass d it rest k tr h' .duplicate).mem = s.mem
      ∧ (s.takeClass d it rest k tr h' .duplicate).count (C.MEM_HA_DUP d) = (s.count (C.MEM_HA_DUP d) + 1) % 2 ^ 64 := by
  unfold State.takeClass
  dsimp only
  split
  · next a found =>
    have goes : (a.load && s.loadWaits d it.pkt) = false := by
      obtain waits | load := ready
      · rw [waits, Bool.and_false]
      · rw [load a found, Bool.false_and]
    rw [if_neg (by rw [goes]; decide), ← State.recounted]
    obtain ⟨home, wf, mem, -, count⟩ := State.recounted_gives h d it rest h' (C.MEM_HA_DUP d)
    generalize s.recounted d it rest h' (C.MEM_HA_DUP d) = u at *
    have again := State.replyAgain_within u d a it.pkt
    have idle := State.idleSource_within (u.replyAgain d a it.pkt) d k
    obtain ⟨slots', series'⟩ := State.idleSource_home (s := u.replyAgain d a it.pkt) (by rw [again.homes_eq (by decide)]; exact wf) d k
    rw [slots', series', State.home_of_homes (again.homes_eq (by decide)), home, slots, series, idle.mem_eq (by decide),
      again.mem_eq (by decide), State.count_of_cnt (idle.cnt_eq (by decide)), State.count_of_cnt (again.cnt_eq (by decide))]
    exact ⟨rfl, rfl, mem, count⟩
  · rw [← State.recounted]
    obtain ⟨home, wf, mem, -, count⟩ := State.recounted_gives h d it rest (h'.markAgain k it.pkt) (C.MEM_HA_DUP d)
    generalize s.recounted d it rest (h'.markAgain k it.pkt) (C.MEM_HA_DUP d) = u at *
    have idle := State.idleSource_within u d k
    obtain ⟨slots', series'⟩ := State.idleSource_home wf d k
    rw [slots', series', home, Home.markAgain_slots, slots, idle.mem_eq (by decide), State.count_of_cnt (idle.cnt_eq (by decide))]
    exact ⟨rfl, series, mem, count⟩

theorem homeRequestReceive_gives_duplicate (h : s.canonical = true) {d : Fin 4} {it : Item} {rest : List Item} {h' : Home} {tr : Tracker}
    (head : Tbl.get (fun _ => []) s.dp.unitIn d = it :: rest) (alive : s.homeDead d = false) (works : s.dieWorks d = true)
    (taken : (s.home d).take (srcKey it.pkt.sspace it.pkt.src) = some h')
    (known : (s.home d).seriesOf (srcKey it.pkt.sspace it.pkt.src) = some tr) (class_ : tr.classify it.pkt.seq = .duplicate)
    (ready : s.loadWaits d it.pkt = false ∨ ∀ a, tr.find it.pkt.seq = some (.answered a) → a.load = false) :
    Gives (.homeRequestReceive d) s (fun t =>
      (t.home d).slots.map (fun x => (x.src, x.seq, x.ready)) = (s.home d).slots.map (fun x => (x.src, x.seq, x.ready))
      ∧ (t.home d).series = (s.home d).series ∧ t.mem = s.mem
      ∧ t.count (C.MEM_HA_DUP d) = (s.count (C.MEM_HA_DUP d) + 1) % 2 ^ 64) := by
  have run := exec_homeRequestReceive_of_known head alive works taken known
  rw [class_] at run
  obtain ⟨slots, series, -⟩ := Home.take_keeps taken
  exact ⟨_, run, State.takeClass_gives_duplicate h slots series ready⟩

theorem homeRequestReceive_gives_outside (h : s.canonical = true) {d : Fin 4} {it : Item} {rest : List Item} {h' : Home} {tr : Tracker}
    (head : Tbl.get (fun _ => []) s.dp.unitIn d = it :: rest) (alive : s.homeDead d = false) (works : s.dieWorks d = true)
    (taken : (s.home d).take (srcKey it.pkt.sspace it.pkt.src) = some h')
    (known : (s.home d).seriesOf (srcKey it.pkt.sspace it.pkt.src) = some tr) (class_ : tr.classify it.pkt.seq = .outside) :
    Gives (.homeRequestReceive d) s (fun t => (t.home d).slots = (s.home d).slots
      ∧ (t.home d).series = (s.home d).series ∧ t.mem = s.mem ∧ t.rx 1088 = s.rx 1088
      ∧ t.count (C.MEM_HA_DISCARD d) = (s.count (C.MEM_HA_DISCARD d) + 1) % 2 ^ 64) := by
  have run : exec (.homeRequestReceive d) s
      = .next ((s.recounted d it rest h' (C.MEM_HA_DISCARD d)).idleSource d (srcKey it.pkt.sspace it.pkt.src)) := by
    rw [exec_homeRequestReceive_of_known head alive works taken known, class_]
    rfl
  obtain ⟨slots, series, -⟩ := Home.take_keeps taken
  obtain ⟨home, wf, mem, rx, count⟩ := State.recounted_gives h d it rest h' (C.MEM_HA_DISCARD d)
  generalize s.recounted d it rest h' (C.MEM_HA_DISCARD d) = u at *
  have idle := State.idleSource_within u d (srcKey it.pkt.sspace it.pkt.src)
  obtain ⟨slots', series'⟩ := State.idleSource_home wf d (srcKey it.pkt.sspace it.pkt.src)
  refine ⟨_, run, ?_⟩
  dsimp only
  rw [slots', series', home, idle.mem_eq (by decide), State.count_of_cnt (idle.cnt_eq (by decide)), State.rx, idle.dp_eq (by decide)]
  exact ⟨slots, series, mem, rx, count⟩

/-! ## Trackers (R246, R263) -/

theorem trackerAllocate_gives (h : s.canonical = true) {d : Fin 4} {it : Item} {rest : List Item}
    (head : Tbl.get (fun _ => []) s.dp.unitIn d = it :: rest) (free : (s.home d).active.length < 16384) :
    Gives (.trackerAllocate d) s (fun t => (t.home d).active
        = Tbl.insert (s.home d).active (srcKey it.pkt.sspace it.pkt.src) none
      ∧ (t.home d).series = (s.home d).series) := by
  have run : exec (.trackerAllocate d) s = .next (s.setHome d { s.home d with
      active := Tbl.insert (s.home d).active (srcKey it.pkt.sspace it.pkt.src) none }) := by
    change execTrackerAllocate d s = _
    rw [execTrackerAllocate, State.unitQueue, head]
    dsimp only
    rw [Home.take, if_pos (.inr free)]
  refine ⟨_, run, ?_⟩
  dsimp only
  rw [State.home_setHome_self (State.canonical.homes h)]
  exact ⟨rfl, rfl⟩

theorem trackerLingerExpiry_gives (h : s.canonical = true) {d : Fin 4} {space : Bool} {src : Fin 262144} {t0 : Nat}
    (idle : Tbl.get (fun _ => none) (s.home d).active (srcKey (bit01 space) src) = some t0) :
    Gives (.trackerLingerExpiry d space src) s (fun t => t.now = max s.now (t0 + s.lingerNs d)
      ∧ (t.home d).active = Tbl.erase (s.home d).active (srcKey (bit01 space) src)
      ∧ (t.home d).series = (s.home d).series) := by
  have run : exec (.trackerLingerExpiry d space src) s = .next ((s.reach (t0 + s.lingerNs d)).setHome d { s.home d with
      active := Tbl.erase (s.home d).active (srcKey (bit01 space) src) }) := by
    change execTrackerLingerExpiry d space src s = _
    unfold execTrackerLingerExpiry
    dsimp only
    rw [idle]
  have wf : Tbl.wf (fun _ => Home.init) (s.reach (t0 + s.lingerNs d)).homes = true := by
    rw [(State.reach_within _ _).homes_eq (by decide)]
    exact State.canonical.homes h
  have now := State.now_reach (s := s) (t0 + s.lingerNs d)
  generalize s.reach (t0 + s.lingerNs d) = u at *
  refine ⟨_, run, ?_⟩
  dsimp only
  rw [State.home_setHome_self wf, State.now, State.setHome_clk, ← State.now]
  exact ⟨now, rfl, rfl⟩

section
variable {d : Fin 4} {space : Bool} {src : Fin 262144} (powered : s.on (regDomain (R.MEM_HA_TRK_CMD d)) = true)
include powered

theorem trackerForget_gives (h : s.canonical = true)
    (idle : (s.home d).slots.any (fun r => r.src == srcKey (bit01 space) src) = false) :
    Gives (.trackerForget d space src) s (fun t => t.fld (R.MEM_HA_TRK_STAT d) 3 0 = 0
      ∧ (t.home d).series = Tbl.erase (s.home d).series (srcKey (bit01 space) src)
      ∧ (t.home d).active = Tbl.erase (s.home d).active (srcKey (bit01 space) src)
      ∧ (t.home d).slots = (s.home d).slots) := by
  have run : exec (.trackerForget d space src) s = .next ((s.setHome d { s.home d with
      series := Tbl.erase (s.home d).series (srcKey (bit01 space) src),
      active := Tbl.erase (s.home d).active (srcKey (bit01 space) src) }).status (R.MEM_HA_TRK_STAT d) 0) := by
    change execTrackerForget d space src s = _
    rw [execTrackerForget, State.gate_on powered]
    dsimp only
    rw [idle]
    rfl
  have home := State.home_setHome_self (State.canonical.homes h) d { s.home d with
    series := Tbl.erase (s.home d).series (srcKey (bit01 space) src),
    active := Tbl.erase (s.home d).active (srcKey (bit01 space) src) }
  have regs : Tbl.wf regReset (s.setHome d { s.home d with
      series := Tbl.erase (s.home d).series (srcKey (bit01 space) src),
      active := Tbl.erase (s.home d).active (srcKey (bit01 space) src) }).regs = true := by
    rw [State.setHome_regs]
    exact State.canonical.regs h
  generalize s.setHome d { s.home d with
    series := Tbl.erase (s.home d).series (srcKey (bit01 space) src),
    active := Tbl.erase (s.home d).active (srcKey (bit01 space) src) } = u at *
  have kept : (u.status (R.MEM_HA_TRK_STAT d) 0).home d = u.home d := State.home_of_homes (State.setF_homes u _ _ _ _) d
  refine ⟨_, run, State.fld_status_self regs _ (by decide), ?_⟩
  rw [kept, home]
  exact ⟨rfl, rfl, rfl⟩

theorem trackerForget_gives_busy (h : s.canonical = true)
    (busy : (s.home d).slots.any (fun r => r.src == srcKey (bit01 space) src) = true) :
    Gives (.trackerForget d space src) s (fun t => t.fld (R.MEM_HA_TRK_STAT d) 3 0 = 1 ∧ t.homes = s.homes) := by
  refine ⟨_, ?_, State.fld_status_self (State.canonical.regs h) _ (by decide), rfl⟩
  change execTrackerForget d space src s = _
  rw [execTrackerForget, State.gate_on powered]
  dsimp only
  rw [busy]
  rfl

end

/-- Settles O33. -/
theorem homeRequestsAreTakenByClass : Obligations.HomeRequestsAreTakenByClass := fun _ _ h =>
  ⟨fun _ _ head => homeRequestReceive_gives_dead head, fun _ _ _ => homeRequestReceive_gives_first h,
    fun _ _ _ _ => homeRequestReceive_gives_duplicate h, fun _ _ _ _ => homeRequestReceive_gives_outside h,
    fun _ _ => trackerAllocate_gives h, fun _ _ _ => trackerLingerExpiry_gives h,
    fun _ _ powered => trackerForget_gives powered h, fun _ _ powered => trackerForget_gives_busy powered h⟩

end Sys2Proof.Machine

/-!
PROOFS. Requests performed at a home agent (R251 to R253).
-/
namespace Sys2Proof.Machine

variable {s : State}

/-! ## States that read the same -/

/-- What an access sees of a buffered line. -/
def CLine.content (l : CLine) : Nat × Option (List Byte) × Bool := (l.line, l.data, l.poisoned)

/-- Memory and the combining buffers read the same: bytes, poison, and the lines but for their last use. -/
structure ReadsSame (s t : State) : Prop where
  bytes : t.mem.bytes = s.mem.bytes
  cxl : t.mem.cxlBytes = s.mem.cxlBytes
  gen : t.mem.cxlGen = s.mem.cxlGen
  poison : t.mem.poison = s.mem.poison
  bad : t.mem.badSlices = s.mem.badSlices
  lines : ∀ d, (t.home d).lines.map CLine.content = (s.home d).lines.map CLine.content

theorem ReadsSame.trans {t u : State} (h : ReadsSame s t) (k : ReadsSame t u) : ReadsSame s u :=
  ⟨k.bytes.trans h.bytes, k.cxl.trans h.cxl, k.gen.trans h.gen, k.poison.trans h.poison, k.bad.trans h.bad,
    fun d => (k.lines d).trans (h.lines d)⟩

theorem ReadsSame.of_eq {t : State} (mem : t.mem = s.mem) (homes : t.homes = s.homes) : ReadsSame s t :=
  ⟨by rw [mem], by rw [mem], by rw [mem], by rw [mem], by rw [mem], fun d => by rw [State.home_of_homes homes]⟩

theorem ReadsSame.refl (s : State) : ReadsSame s s := .of_eq rfl rfl

theorem ReadsSame.within {m : Nat} {t : State} (k : Within m s t) (c : m.testBit 17 = false ∧ m.testBit 15 = false) : ReadsSame s t :=
  .of_eq (k.mem_eq c.1) (k.homes_eq c.2)

/-- What the lines hold of a byte follows from their contents. -/
theorem find_byte_of_content (ls : List CLine) (n a : Nat) : (ls.find? (fun l => l.line == n)).bind (·.byte a)
    = ((ls.map CLine.content).find? (fun c => c.1 == n)).bind (fun c => c.2.1.map (fun bs => bs.getD (a % 64) 0)) := by
  rw [List.find?_map, show ((fun (c : Nat × Option (List Byte) × Bool) => c.1 == n) ∘ CLine.content) = fun (l : CLine) => l.line == n from rfl]
  cases ls.find? (fun l => l.line == n) with
  | none => rfl
  | some l => rfl

theorem ReadsSame.poisoned {t : State} (k : ReadsSame s t) (a : Nat) : t.poisoned a = s.poisoned a := by
  rw [State.poisoned, State.poisoned, k.poison, k.bad]

theorem ReadsSame.memByte {t : State} (k : ReadsSame s t) (a : Nat) : t.memByte a = s.memByte a := by
  rw [State.memByte, State.memByte, k.poisoned, k.bytes, k.cxl, k.gen]

theorem ReadsSame.readByte {t : State} (k : ReadsSame s t) (a : Nat) : t.readByte a = s.readByte a := by
  rw [State.readByte_eq, State.readByte_eq, State.lineOf, State.lineOf, find_byte_of_content, find_byte_of_content, k.lines, k.memByte]

theorem readBytes_congr {t : State} : ∀ (n : Nat) {key : Nat}, (∀ i, i < n → t.readByte (key + i) = s.readByte (key + i)) →
    t.readBytes key n = s.readBytes key n
  | 0, _, _ => rfl
  | n + 1, key, same => by
    have rest (i : Nat) (lt : i < n) : t.readByte (key + 1 + i) = s.readByte (key + 1 + i) := by
      have := same (i + 1) (Nat.succ_lt_succ lt)
      rwa [show key + (i + 1) = key + 1 + i by omega] at this
    rw [State.readBytes, State.readBytes, readBytes_congr n rest, show t.readByte key = s.readByte key from same 0 (Nat.succ_pos n)]

theorem ReadsSame.readBytes {t : State} (k : ReadsSame s t) (key n : Nat) : t.readBytes key n = s.readBytes key n :=
  readBytes_congr n fun _ _ => k.readByte _

theorem ReadsSame.readsPoison {t : State} (k : ReadsSame s t) (key n : Nat) : t.readsPoison key n = s.readsPoison key n := by
  have any (u : State) (ls : List CLine) : ls.any (fun l => l.poisoned && key / 64 ≤ l.line && l.line ≤ (key + n - 1) / 64)
      = (ls.map CLine.content).any (fun c => c.2.2 && key / 64 ≤ c.1 && c.1 ≤ (key + n - 1) / 64) := by
    rw [List.any_map]
    rfl
  have range : t.anyPoison key n = s.anyPoison key n := by
    simp only [State.anyPoison, k.poisoned]
  rw [State.readsPoison, State.readsPoison, range, any t, any s, k.lines]

/-! ## What performing changes besides (R246, R253, R276, R286) -/

theorem State.setHome_readsSame (h : Tbl.wf (fun _ => Home.init) s.homes = true) {d : Nat} {x : Home}
    (same : x.lines.map CLine.content = (s.home d).lines.map CLine.content) : ReadsSame s (s.setHome d x) where
  bytes := rfl
  cxl := rfl
  gen := rfl
  poison := rfl
  bad := rfl
  lines := fun j => by
    rw [State.home_setHome h]
    split
    · next e => rw [same, e]
    · rfl

theorem State.touchLine_readsSame (h : Tbl.wf (fun _ => Home.init) s.homes = true) (d l : Nat) : ReadsSame s (s.touchLine d l) := by
  refine State.setHome_readsSame h ?_
  rw [List.map_map]
  refine List.map_congr_left fun x _ => ?_
  rw [Function.comp_apply]
  split
  · rfl
  · rfl

theorem State.touchLine_homes_wf (h : Tbl.wf (fun _ => Home.init) s.homes = true) (d l : Nat) :
    Tbl.wf (fun _ => Home.init) (s.touchLine d l).homes = true := State.setHome_homes_wf h d _

theorem State.touchLines_readsSame (d : Nat) : ∀ (ls : List Nat) {s : State}, Tbl.wf (fun _ => Home.init) s.homes = true →
    ReadsSame s (forEach (fun l (s : State) => s.touchLine d l) ls s)
      ∧ Tbl.wf (fun _ => Home.init) (forEach (fun l (s : State) => s.touchLine d l) ls s).homes = true
  | [], s, h => ⟨.refl s, h⟩
  | l :: ls, s, h => by
    obtain ⟨same, wf⟩ := State.touchLines_readsSame d ls (State.touchLine_homes_wf h d l)
    exact ⟨(State.touchLine_readsSame h d l).trans same, wf⟩

theorem State.heatPage_readsSame (h n : Nat) (die : Option Nat) (read : Bool) : ReadsSame s (s.heatPage h n die read) := by
  unfold State.heatPage
  extract_lets p p1 p2
  split
  · exact .refl s
  · exact ⟨rfl, rfl, rfl, rfl, rfl, fun _ => rfl⟩

theorem State.countAccess_readsSame (d : Nat) (p : Packet) (poison : Bool) : ReadsSame s (s.countAccess d p poison) := by
  unfold State.countAccess
  extract_lets k s1
  have heated : ReadsSame s s1 := by
    unfold s1
    split
    · exact State.heatPage_readsSame _ _ _ _
    · exact .refl s
  exact heated.trans (.within (State.cxlBytesCount_within _ _ _ _ _) (by decide))

theorem State.idleSource_lines (h : Tbl.wf (fun _ => Home.init) s.homes = true) (d k : Nat) : ReadsSame s (s.idleSource d k) := by
  unfold State.idleSource
  dsimp only
  split
  · exact .refl s
  · split
    · exact State.setHome_readsSame h rfl
    · exact State.setHome_readsSame h rfl

theorem State.refreshHome_readsSame (h : Tbl.wf (fun _ => Home.init) s.homes = true) (d : Nat) : ReadsSame s (s.refreshHome d) := by
  have same : ((s.home d).refresh s.now).1.lines.map CLine.content = (s.home d).lines.map CLine.content := by rw [Home.refresh_lines]
  exact (State.setHome_readsSame h same).trans (.within (State.bump_within _ _ _) (by decide))

/-- What a home agent keeps of a request that it has answered (R246, R253). -/
def State.answerKept (s : State) (d : Nat) (r : HomeReq) (rsp : Packet) : State :=
  ((s.setHome d (({ s.home d with slots := (s.home d).slots.filter (fun y => !(y.src == r.src && y.seq == r.seq)) } : Home).setSeq
    r.src r.seq (.answered ⟨rsp, r.pkt.isLoad⟩))).refreshHome d).idleSource d r.src

theorem State.answer_eq (d : Nat) (r : HomeReq) (result : Nat) (poison : Bool) (old : Nat) (data : List Byte) :
    s.answer d r result poison old data = ((s.respond d r.pkt result poison old data).2.bump (C.MEM_HA_REQ_DONE d) 1).answerKept d r
      (s.respond d r.pkt result poison old data).1 := rfl

theorem State.answerKept_readsSame (h : Tbl.wf (fun _ => Home.init) s.homes = true) (d : Nat) (r : HomeReq) (rsp : Packet) :
    ReadsSame s (s.answerKept d r rsp) := by
  have kept : ReadsSame s (s.setHome d (({ s.home d with
      slots := (s.home d).slots.filter (fun y => !(y.src == r.src && y.seq == r.seq)) } : Home).setSeq
        r.src r.seq (.answered ⟨rsp, r.pkt.isLoad⟩))) :=
    State.setHome_readsSame h (by rw [(Home.setSeq_keeps _ _ _ _).2.2])
  have wf := State.setHome_homes_wf h d (({ s.home d with
      slots := (s.home d).slots.filter (fun y => !(y.src == r.src && y.seq == r.seq)) } : Home).setSeq
        r.src r.seq (.answered ⟨rsp, r.pkt.isLoad⟩))
  exact (kept.trans (State.refreshHome_readsSame wf d)).trans
    (State.idleSource_lines ((State.refreshHome_preserves _ d (.refl _)).homes wf) d r.src)

/-- A request answered: memory and buffers read as before, and its response goes to PL17's ingress (R251, R252). -/
theorem State.answer_readsSame (h : Tbl.wf (fun _ => Home.init) s.homes = true) (d : Nat) (r : HomeReq) (result : Nat) (poison : Bool)
    (old : Nat) (data : List Byte) : ReadsSame s (s.answer d r result poison old data) := by
  have sent := State.respond_within s d r.pkt result poison old data
  have counted := State.bump_within (s.respond d r.pkt result poison old data).2 (C.MEM_HA_REQ_DONE d) 1
  rw [State.answer_eq]
  refine ((ReadsSame.within sent (by decide)).trans (.within counted (by decide))).trans (State.answerKept_readsSame ?_ _ _ _)
  rw [counted.homes_eq (by decide), sent.homes_eq (by decide)]
  exact h

theorem State.answerKept_within (d : Nat) (r : HomeReq) (rsp : Packet) : Within 32772 s (s.answerKept d r rsp) :=
  Within.step (State.idleSource_within _ _ _) rfl (Within.step (State.refreshHome_within _ _) rfl
    (Within.step (State.setHome_within _ _ _) rfl (.refl _ _)))

theorem State.answer_rx (joined : s.joined = true) (d : Nat) (r : HomeReq) (result : Nat) (poison : Bool) (old : Nat) (data : List Byte) :
    ∃ x, (s.answer d r result poison old data).rx 1088 = s.rx 1088 ++ [x]
      ∧ x.body = .ffp (rspPacket d s.spineId r.pkt (s.nextSeq d r.pkt.sspace r.pkt.src) result poison old data) := by
  obtain ⟨x, sent, body⟩ := State.respond_gives joined d r.pkt result poison old data
  have kept := State.answerKept_within (s := (s.respond d r.pkt result poison old data).2.bump (C.MEM_HA_REQ_DONE d) 1) d r
    (s.respond d r.pkt result poison old data).1
  refine ⟨x, ?_, body⟩
  rw [State.answer_eq, State.rx, kept.dp_eq (by decide), State.bump_dp, ← State.rx, sent]

/-- What a response says and where it goes depends on the fabric state and the sequence numbers alone. -/
theorem State.answer_rx_of_parts {t : State} (dp : t.dp = s.dp) (regs : t.regs = s.regs) (wd : t.wd = s.wd) (tab : t.tab = s.tab)
    (joined : s.joined = true) (d : Nat) (r : HomeReq) (result : Nat) (poison : Bool) (old : Nat) (data : List Byte) :
    ∃ x, (t.answer d r result poison old data).rx 1088 = s.rx 1088 ++ [x]
      ∧ x.body = .ffp (rspPacket d s.spineId r.pkt (s.nextSeq d r.pkt.sspace r.pkt.src) result poison old data) := by
  obtain ⟨x, sent, body⟩ := State.answer_rx ((State.joined_of_parts regs wd tab).trans joined) d r result poison old data
  have spine : t.spineId = s.spineId := State.fld_of_regs regs _ _ _
  rw [show t.rx 1088 = s.rx 1088 by rw [State.rx, dp, ← State.rx]] at sent
  rw [spine, State.nextSeq, dp, ← State.nextSeq] at body
  exact ⟨x, sent, body⟩

/-! ## Performing (R251 to R253) -/

section
variable {d : Fin 4} {r : HomeReq}

theorem exec_homeRequestPerform (works : s.dieWorks d = true) (ready : s.firstReady d (s.home d).slots [] = some r) :
    exec (.homeRequestPerform d) s = .next (s.perform d r) := by
  change execHomeRequestPerform d s = _
  rw [execHomeRequestPerform, works, ready]
  rfl

/-- A request that a window refuses is counted. -/
def State.refusalCounted (s : State) (d res : Nat) : State := if res = 2 then s.bump (C.MEM_HA_WIN_REFUSED d) 1 else s

theorem State.refusalCounted_within (s : State) (d res : Nat) : Within 4 s (s.refusalCounted d res) := by
  unfold State.refusalCounted
  split
  · exact Within.step (State.bump_within _ _ _) rfl (.refl _ _)
  · exact .refl _ _

theorem State.perform_of_fails (fails : s.homeCheck d r.pkt ≠ 0) : s.perform d r
    = (s.refusalCounted d (s.homeCheck d r.pkt)).answer d r (s.homeCheck d r.pkt) r.pkt.isLoad 0 (onesFor r.pkt) := by
  rw [State.perform]
  exact if_pos fails

theorem State.perform_gives_refused (joined : s.joined = true) (fails : s.homeCheck d r.pkt ≠ 0) : (s.perform d r).mem = s.mem
    ∧ ∃ x, (s.perform d r).rx 1088 = s.rx 1088 ++ [x] ∧ x.body = .ffp (rspPacket d s.spineId r.pkt
        (s.nextSeq d r.pkt.sspace r.pkt.src) (s.homeCheck d r.pkt) r.pkt.isLoad 0 (onesFor r.pkt)) := by
  have counted := State.refusalCounted_within s d (s.homeCheck d r.pkt)
  rw [State.perform_of_fails fails]
  refine ⟨?_, State.answer_rx_of_parts (counted.dp_eq (by decide)) (counted.regs_eq (by decide)) (counted.wd_eq (by decide))
    (counted.tab_eq (by decide)) joined _ _ _ _ _ _⟩
  rw [(State.answer_within _ _ _ _ _ _ _).mem_eq (by decide), counted.mem_eq (by decide)]

/-- The lines of a request, each touched. -/
def State.linesTouched (s : State) (d : Nat) (ls : List Nat) : State := forEach (fun l (s : State) => s.touchLine d l) ls s

theorem State.linesTouched_within (s : State) (d : Nat) (ls : List Nat) : Within 32768 s (s.linesTouched d ls) :=
  Within.stepEach (fun l s => State.touchLine_within s d l) (.refl _ _)

theorem State.perform_of_load (passes : s.homeCheck d r.pkt = 0) (load : r.pkt.isLoad = true) (notAtomic : r.pkt.isAtomic = false)
    (one : (reqLines d r.pkt).length ≤ 1) : s.perform d r
      = (((s.linesTouched d (reqLines d r.pkt)).countAccess d r.pkt
          ((s.linesTouched d (reqLines d r.pkt)).readsPoison (memKey d r.pkt.offset) r.pkt.reqSize)).answer d r 0
        ((s.linesTouched d (reqLines d r.pkt)).readsPoison (memKey d r.pkt.offset) r.pkt.reqSize) 0
        ((s.linesTouched d (reqLines d r.pkt)).readBytes (memKey d r.pkt.offset) r.pkt.reqSize)) := by
  rw [State.perform]
  dsimp only
  rw [if_neg (not_not_intro passes), if_neg (by rw [notAtomic]; decide), State.performPlain]
  dsimp only
  rw [if_pos one, if_pos load]
  rfl

theorem isAtomic_of_isLoad {p : Packet} (load : p.isLoad = true) : p.isAtomic = false := by
  unfold Packet.isLoad Packet.isAtomic at *
  obtain e | e := Bool.or_eq_true_iff.mp load
  · rw [beq_iff_eq.mp e]
    rfl
  · rw [beq_iff_eq.mp e]
    rfl

theorem State.perform_gives_load (h : s.canonical = true) (joined : s.joined = true) (passes : s.homeCheck d r.pkt = 0)
    (load : r.pkt.isLoad = true) (one : (reqLines d r.pkt).length ≤ 1) : (s.perform d r).mem.bytes = s.mem.bytes
      ∧ ∃ x, (s.perform d r).rx 1088 = s.rx 1088 ++ [x] ∧ x.body = .ffp (rspPacket d s.spineId r.pkt
        (s.nextSeq d r.pkt.sspace r.pkt.src) 0 (s.readsPoison (memKey d r.pkt.offset) r.pkt.reqSize) 0
        (s.readBytes (memKey d r.pkt.offset) r.pkt.reqSize)) := by
  obtain ⟨same, wf⟩ := State.touchLines_readsSame d (reqLines d r.pkt) (State.canonical.homes h)
  change ReadsSame s (s.linesTouched d (reqLines d r.pkt)) at same
  have touched := State.linesTouched_within s d (reqLines d r.pkt)
  rw [State.perform_of_load passes load (isAtomic_of_isLoad load) one, same.readsPoison, same.readBytes]
  have counted := State.countAccess_within (s.linesTouched d (reqLines d r.pkt)) d r.pkt
    (s.readsPoison (memKey d r.pkt.offset) r.pkt.reqSize)
  have counted' := State.countAccess_readsSame (s := s.linesTouched d (reqLines d r.pkt)) d r.pkt
    (s.readsPoison (memKey d r.pkt.offset) r.pkt.reqSize)
  refine ⟨?_, State.answer_rx_of_parts ((counted.dp_eq (by decide)).trans (touched.dp_eq (by decide)))
    ((counted.regs_eq (by decide)).trans (touched.regs_eq (by decide)))
    ((counted.wd_eq (by decide)).trans (touched.wd_eq (by decide)))
    ((counted.tab_eq (by decide)).trans (touched.tab_eq (by decide))) joined _ _ _ _ _ _⟩
  rw [(State.answer_within _ _ _ _ _ _ _).mem_eq (by decide), counted'.bytes, same.bytes]

end

/-! ## Lines of the combining buffer under a write to them (R253, R269) -/

/-- A line found in a buffer whose lines have been changed in place. -/
theorem find_line_map {f : CLine → CLine} (line : ∀ l, (f l).line = l.line) (ls : List CLine) (n : Nat) :
    (ls.map f).find? (fun l => l.line == n) = (ls.find? (fun l => l.line == n)).map f := by
  rw [List.find?_map]
  exact congrArg _ (congrArg (List.find? · ls) (funext fun l => by rw [Function.comp_apply, line]))

theorem putLines_byte : ∀ (bs : List Byte) {ls : List CLine} {key i n : Nat} {l : CLine} {data : List Byte} (lt : i < bs.length),
    ls.find? (fun l => l.line == n) = some l → l.data = some data → data.length = 64 → key / 64 = n → key % 64 + bs.length ≤ 64 →
    ((putLines ls key bs).find? (fun l => l.line == n)).bind (·.byte (key + i)) = some bs[i]
  | b :: bs, ls, key, i, n, l, data, lt, found, filled, len, here, fits => by
    rw [List.length_cons] at fits lt
    have line : l.line = n := beq_iff_eq.mp (List.find?_some found :)
    have put : l.putByte key b = { l with data := some (data.set (key % 64) b) } := by
      rw [CLine.putByte, if_pos (line.trans here.symm), filled]
      rfl
    have found' : (ls.map (fun l => l.putByte key b)).find? (fun l => l.line == n) = some { l with data := some (data.set (key % 64) b) } := by
      rw [find_line_map (fun l => CLine.putByte_line l key b), found, Option.map_some, put]
    rw [putLines]
    match i with
    | 0 =>
      have rest := putLines_byte_ne bs (ls := ls.map (fun l => l.putByte key b)) (key := key + 1) (a := key) (.inl (Nat.lt_succ_self key))
      subst here
      refine rest.trans ?_
      rw [found', Option.bind_some, CLine.byte]
      simp only [Option.map_some, List.getD_eq_getElem?_getD]
      rw [List.getElem?_set_self (by rw [len]; exact Nat.mod_lt _ (by decide))]
      rfl
    | i + 1 =>
      have lt' := Nat.lt_of_succ_lt_succ lt
      rw [show key + (i + 1) = key + 1 + i by omega]
      exact putLines_byte bs lt' found' rfl (by rw [List.length_set, len]) (by omega) (by omega)

/-- The lines that a touch leaves are those before, with the instant. -/
theorem State.touchLine_find (h : Tbl.wf (fun _ => Home.init) s.homes = true) (d n k : Nat) :
    ((s.touchLine d n).home d).lines.find? (fun l => l.line == k)
      = ((s.home d).lines.find? (fun l => l.line == k)).map (fun x => if x.line = n then { x with last := s.now } else x) := by
  rw [State.touchLine, State.home_setHome_self h]
  exact find_line_map (f := fun x => if x.line = n then { x with last := s.now } else x) (fun l => by split <;> rfl) _ _

/-- A write of bytes in one filled line of the buffer reads back (R253). -/
theorem State.readBytes_writeLine (h : Tbl.wf (fun _ => Home.init) s.homes = true) {d key : Nat} {bs : List Byte} {l : CLine}
    {data : List Byte} (home : key / 2 ^ 46 = d) (found : s.lineOf key = some l) (filled : l.data = some data) (len : data.length = 64)
    (fits : key % 64 + bs.length ≤ 64) : (s.writeLine d key bs).readBytes key bs.length = bs := by
  refine State.readBytes_eq bs fun i lt => ?_
  have line : (key + i) / 64 = key / 64 := by omega
  have place : (key + i) / 2 ^ 46 = d := by omega
  rw [State.lineOf, home] at found
  have there := putLines_byte bs lt found filled len rfl fits
  have contents : ((s.writeLine d key bs).lineOf (key + i)).bind (·.byte (key + i)) = some bs[i] := by
    rw [State.lineOf, place, State.writeLine, State.home_setHome_self h, line]
    dsimp only
    rw [find_line_map (fun l => by split <;> rfl), ← there]
    cases (putLines (s.home d).lines key bs).find? (fun l => l.line == key / 64) with
    | none => rfl
    | some x =>
      simp only [Option.map_some, Option.bind_some, CLine.byte]
      split
      · rfl
      · rfl
  rw [State.readByte_eq, contents]
  rfl

theorem bytesLEOfNat_length : ∀ n x : Nat, (bytesLEOfNat n x).length = n
  | 0, _ => rfl
  | n + 1, x => by rw [bytesLEOfNat, List.length_cons, bytesLEOfNat_length]

section
variable {d : Fin 4} {r : HomeReq}

theorem memKey_home (off : Nat) : memKey d off / 2 ^ 46 = d.val := by
  have := d.isLt
  rw [memKey]
  omega

theorem memKey_mod64 (off : Nat) : memKey d off % 64 = off % 64 := by
  rw [memKey]
  omega

/-- An atomic that passes its checks is aligned to its width (R60, R252). -/
theorem State.atomic_fits (passes : s.homeCheck d r.pkt = 0) (atomic : r.pkt.isAtomic = true) :
    memKey d r.pkt.offset % 64 + r.pkt.span ≤ 64 ∧ r.pkt.isLoad = false := by
  have aligned : spanOk r.pkt = true := by
    cases bad : spanOk r.pkt with
    | true => rfl
    | false =>
      rw [State.homeCheck, bad, if_pos Bool.not_false] at passes
      exact absurd passes (by decide)
  rw [spanOk, if_pos atomic, beq_iff_eq] at aligned
  have type : r.pkt.ty = 0x12 ∨ r.pkt.ty = 0x16 := by
    rw [Packet.isAtomic, Bool.or_eq_true, beq_iff_eq, beq_iff_eq] at atomic
    exact atomic
  have load : r.pkt.isLoad = false := by
    obtain e | e := type <;> rw [Packet.isLoad, e] <;> rfl
  have store : r.pkt.isStore = false := by
    obtain e | e := type <;> rw [Packet.isStore, e] <;> rfl
  refine ⟨?_, load⟩
  have width : r.pkt.span = 8 ∨ r.pkt.span = 4 := by
    rw [Packet.span, load, store]
    simp only [Bool.false_eq_true, if_false]
    split
    · exact .inl rfl
    · exact .inr rfl
  rw [memKey_mod64]
  obtain e | e := width <;> rw [e] at aligned ⊢ <;> omega

/-- The line of an atomic with its new value written, and its combining counted (R253). -/
def State.atomicDone (s : State) (d key aop : Nat) (new : List Byte) : State :=
  let t := (s.touchLine d (key / 64)).writeLine d key new
  if aop = 5 then t else t.bump (C.MEM_HA_COMBINED d) 1

theorem State.atomicDone_within (s : State) (d key aop : Nat) (new : List Byte) : Within 32772 s (s.atomicDone d key aop new) := by
  have written : Within 32772 s ((s.touchLine d (key / 64)).writeLine d key new) :=
    Within.step (State.writeLine_within _ _ _ _) rfl (Within.step (State.touchLine_within _ _ _) rfl (.refl _ _))
  unfold State.atomicDone
  dsimp only
  split
  · exact written
  · exact Within.step (State.bump_within _ _ _) rfl written

theorem State.atomicDone_homes (d key aop : Nat) (new : List Byte) :
    (s.atomicDone d key aop new).homes = ((s.touchLine d (key / 64)).writeLine d key new).homes
      ∧ (s.atomicDone d key aop new).mem = ((s.touchLine d (key / 64)).writeLine d key new).mem := by
  unfold State.atomicDone
  dsimp only
  split
  · exact ⟨rfl, rfl⟩
  · exact ⟨rfl, rfl⟩

theorem State.perform_of_atomic (passes : s.homeCheck d r.pkt = 0) (atomic : r.pkt.isAtomic = true)
    (filled : (s.home d).filled (memKey d r.pkt.offset / 64) = true) : s.perform d r
      = (((s.countAccess d r.pkt false).atomicDone d (memKey d r.pkt.offset) r.pkt.aop
          (bytesLEOfNat r.pkt.span (atomicNew r.pkt.aop (8 * r.pkt.span)
            (natOfBytesLE ((s.countAccess d r.pkt false).readBytes (memKey d r.pkt.offset) r.pkt.span)) r.pkt.operand r.pkt.swap))).answer d r 0
        ((s.countAccess d r.pkt false).readsPoison (memKey d r.pkt.offset) r.pkt.span)
        (natOfBytesLE ((s.countAccess d r.pkt false).readBytes (memKey d r.pkt.offset) r.pkt.span)) []).watch
          (memKey d r.pkt.offset) r.pkt.span := by
  rw [State.perform]
  dsimp only
  rw [if_neg (not_not_intro passes), if_pos atomic, if_pos filled]
  rfl

theorem State.watch_readsSame (key len : Nat) : ReadsSame s (s.watch key len) := .within (State.watch_within _ _ _) (by decide)

theorem State.perform_gives_atomic (h : s.canonical = true) {l : CLine} {bs : List Byte} (joined : s.joined = true)
    (passes : s.homeCheck d r.pkt = 0) (atomic : r.pkt.isAtomic = true) (line : s.lineOf (memKey d r.pkt.offset) = some l)
    (filled : l.data = some bs) (len : bs.length = 64) :
    (s.perform d r).readBytes (memKey d r.pkt.offset) r.pkt.span = bytesLEOfNat r.pkt.span
        (atomicNew r.pkt.aop (8 * r.pkt.span) (natOfBytesLE (s.readBytes (memKey d r.pkt.offset) r.pkt.span))
          r.pkt.operand r.pkt.swap)
      ∧ ∃ x, (s.perform d r).rx 1088 = s.rx 1088 ++ [x] ∧ x.body = .ffp (rspPacket d s.spineId r.pkt
        (s.nextSeq d r.pkt.sspace r.pkt.src) 0 (s.readsPoison (memKey d r.pkt.offset) r.pkt.span)
        (natOfBytesLE (s.readBytes (memKey d r.pkt.offset) r.pkt.span)) []) := by
  have home := memKey_home (d := d) r.pkt.offset
  obtain ⟨fits, -⟩ := State.atomic_fits passes atomic
  generalize hk : memKey d r.pkt.offset = key at *
  have listed := line
  rw [State.lineOf, home] at listed
  have full : (s.home d).filled (memKey d r.pkt.offset / 64) = true := by
    rw [hk, Home.filled, List.any_eq_true]
    exact ⟨l, List.mem_of_find?_eq_some listed, by rw [(List.find?_some listed :), filled]; rfl⟩
  have counted := State.countAccess_within s d r.pkt false
  have same := State.countAccess_readsSame (s := s) d r.pkt false
  have homes : Tbl.wf (fun _ => Home.init) (s.countAccess d r.pkt false).homes = true := by
    rw [counted.homes_eq (by decide)]
    exact State.canonical.homes h
  have line' : (s.countAccess d r.pkt false).lineOf key = some l := by
    rw [State.lineOf, State.home_of_homes (counted.homes_eq (by decide)), home]
    exact listed
  rw [State.perform_of_atomic passes atomic full, hk, same.readBytes, same.readsPoison]
  generalize s.countAccess d r.pkt false = u at *
  generalize hn : bytesLEOfNat r.pkt.span (atomicNew r.pkt.aop (8 * r.pkt.span)
    (natOfBytesLE (s.readBytes key r.pkt.span)) r.pkt.operand r.pkt.swap) = new
  have width : new.length = r.pkt.span := by rw [← hn, bytesLEOfNat_length]
  have done := State.atomicDone_within u d key r.pkt.aop new
  obtain ⟨homes', mem'⟩ := State.atomicDone_homes (s := u) d key r.pkt.aop new
  have wf : Tbl.wf (fun _ => Home.init) (u.atomicDone d key r.pkt.aop new).homes = true := by
    rw [homes']
    exact State.setHome_homes_wf (State.touchLine_homes_wf homes _ _) _ _
  have written := State.answer_readsSame wf d r 0 (s.readsPoison key r.pkt.span) (natOfBytesLE (s.readBytes key r.pkt.span)) []
  refine ⟨?_, ?_⟩
  · rw [(written.trans (State.watch_readsSame key r.pkt.span)).readBytes, (ReadsSame.of_eq mem' homes').readBytes, ← width]
    have touched : (u.touchLine d (key / 64)).lineOf key = some (if l.line = key / 64 then { l with last := u.now } else l) := by
      rw [State.lineOf, home] at line' ⊢
      rw [State.touchLine_find homes, line', Option.map_some]
    exact State.readBytes_writeLine (State.touchLine_homes_wf homes _ _) home touched
      (by split <;> exact filled) len (by rw [width]; exact fits)
  · obtain ⟨x, sent, body⟩ := State.answer_rx_of_parts ((done.dp_eq (by decide)).trans (counted.dp_eq (by decide)))
      ((done.regs_eq (by decide)).trans (counted.regs_eq (by decide))) ((done.wd_eq (by decide)).trans (counted.wd_eq (by decide)))
      ((done.tab_eq (by decide)).trans (counted.tab_eq (by decide))) joined d r 0 (s.readsPoison key r.pkt.span)
      (natOfBytesLE (s.readBytes key r.pkt.span)) []
    refine ⟨x, ?_, body⟩
    rw [State.rx, (State.watch_within _ _ _).dp_eq (by decide), ← State.rx]
    exact sent

/-! ## Stores (R251) -/

theorem State.linesTouched_buffered (h : Tbl.wf (fun _ => Home.init) s.homes = true) (ls : List Nat) (l : Nat) :
    ((s.linesTouched d ls).home d).buffered l = (s.home d).buffered l := by
  obtain ⟨same, -⟩ := State.touchLines_readsSame d ls h
  have any (hm : Home) : hm.buffered l = (hm.lines.map CLine.content).any (fun c => c.1 == l) := by
    rw [Home.buffered, List.any_map]
    rfl
  rw [any, any]
  exact congrArg (List.any · _) (same.lines d)

theorem State.perform_of_store (passes : s.homeCheck d r.pkt = 0) (load : r.pkt.isLoad = false) (atomic : r.pkt.isAtomic = false)
    (one : (reqLines d r.pkt).length = 1)
    (free : ((s.linesTouched d (reqLines d r.pkt)).home d).buffered (memKey d r.pkt.offset / 64) = false) : s.perform d r
      = ((((s.linesTouched d (reqLines d r.pkt)).writeBytes (memKey d r.pkt.offset) (r.pkt.payload.take r.pkt.length)).countAccess
          d r.pkt false).answer d r 0 false 0 []).watch (memKey d r.pkt.offset) (r.pkt.payload.take r.pkt.length).length := by
  rw [State.perform]
  dsimp only
  rw [if_neg (not_not_intro passes), if_neg (by rw [atomic]; decide), State.performPlain]
  dsimp only
  have plain : ¬ ((reqLines d r.pkt).length = 1
      ∧ ((s.linesTouched d (reqLines d r.pkt)).home d).buffered (memKey d r.pkt.offset / 64) = true) := by
    rw [free]
    exact fun e => Bool.false_ne_true e.2
  rw [if_pos (Nat.le_of_eq one), if_neg (show ¬ r.pkt.isLoad = true by rw [load]; decide), ← State.linesTouched, if_neg plain]

theorem State.perform_gives_store (h : s.canonical = true) {key : Nat} {bs : List Byte} (at_ : key = memKey d r.pkt.offset)
    (passes : s.homeCheck d r.pkt = 0) (load : r.pkt.isLoad = false) (atomic : r.pkt.isAtomic = false) (store : r.pkt.isStore = true)
    (one : (reqLines d r.pkt).length = 1) (free : (s.home d).buffered (key / 64) = false)
    (data : bs = r.pkt.payload.take r.pkt.length) :
    (∀ a, a < key ∨ key + bs.length ≤ a → (s.perform d r).readByte a = s.readByte a)
      ∧ ((∀ i, i < bs.length → s.poisoned (key + i) = false) → (s.perform d r).readBytes key bs.length = bs) := by
  have home := memKey_home (d := d) r.pkt.offset
  have wf := State.canonical.homes h
  have within : ∀ i, i < bs.length → (key + i) / 64 = key / 64 := by
    have span : r.pkt.span = r.pkt.length := by rw [Packet.span, load, store]; rfl
    have shorter : bs.length ≤ r.pkt.length := by rw [data, List.length_take]; exact Nat.min_le_left _ _
    rw [reqLines, span, ← at_] at one
    split at one
    · exact absurd one (by decide)
    · rw [List.length_map, List.length_range] at one
      intro i lt
      omega
  obtain ⟨same, wf'⟩ := State.touchLines_readsSame d (reqLines d r.pkt) wf
  change ReadsSame s (s.linesTouched d (reqLines d r.pkt)) at same
  change Tbl.wf (fun _ => Home.init) (s.linesTouched d (reqLines d r.pkt)).homes = true at wf'
  have free' : ((s.linesTouched d (reqLines d r.pkt)).home d).buffered (memKey d r.pkt.offset / 64) = false := by
    rw [State.linesTouched_buffered wf, ← at_]
    exact free
  have mem : (s.linesTouched d (reqLines d r.pkt)).mem.wf = true := by
    rw [(State.linesTouched_within s d _).mem_eq (by decide)]
    exact State.canonical.mem h
  rw [State.perform_of_store passes load atomic one free', ← data, ← at_]
  rw [← at_] at home free'
  generalize s.linesTouched d (reqLines d r.pkt) = u at *
  have homes : Tbl.wf (fun _ => Home.init) ((u.writeBytes key bs).countAccess d r.pkt false).homes = true :=
    (State.countAccess_preserves _ _ _ _ (State.writeBytes_preserves _ _ _ (.refl u))).homes wf'
  have after : ReadsSame (u.writeBytes key bs)
      ((((u.writeBytes key bs).countAccess d r.pkt false).answer d r 0 false 0 []).watch key bs.length) :=
    ((State.countAccess_readsSame _ _ _).trans (State.answer_readsSame homes _ _ _ _ _ _)).trans (State.watch_readsSame _ _)
  refine ⟨fun a out => ?_, fun clean => ?_⟩
  · rw [after.readByte, State.readByte_writeBytes_ne mem wf' out, same.readByte]
  · rw [after.readBytes]
    refine State.readBytes_writeBytes mem wf' (fun i lt => by rw [same.poisoned]; exact clean i lt) fun i lt => ?_
    have line := within i lt
    rw [State.lineOf, line, show (key + i) / 2 ^ 46 = d.val by omega, List.find?_eq_none]
    intro x listed e
    rw [Home.buffered, List.any_eq_false] at free'
    exact free' x listed e

/-! ## Lines filled and written back (R253) -/

theorem lineFill_gives (h : s.canonical = true) {x : CLine} (oldest : (s.home d).lines.find? (fun y => y.data.isNone) = some x)
    (idle : (s.home d).slots = []) :
    Gives (.lineFill d) s (fun t => (t.home d).lines = (s.home d).lines.map (fun y =>
      if y.line = x.line then { y with data := some ((List.range 64).map (fun i => s.memByte (x.line * 64 + i))),
                                       poisoned := s.anyPoison (x.line * 64) 64 } else y)) := by
  have counted := State.cxlBytesCount_within s (s.serve (x.line * 64)) false 64 (s.anyPoison (x.line * 64) 64)
  have run : exec (.lineFill d) s = .next ((s.cxlBytesCount (s.serve (x.line * 64)) false 64 (s.anyPoison (x.line * 64) 64)).setHome d
      { (s.cxlBytesCount (s.serve (x.line * 64)) false 64 (s.anyPoison (x.line * 64) 64)).home d with
        lines := (s.home d).lines.map (fun y =>
          if y.line = x.line then { y with data := some ((List.range 64).map (fun i => s.memByte (x.line * 64 + i))),
                                           poisoned := s.anyPoison (x.line * 64) 64 } else y) }) := by
    change execLineFill d s = _
    unfold execLineFill
    dsimp only
    rw [oldest]
    dsimp only
    rw [idle]
    rfl
  refine ⟨_, run, ?_⟩
  dsimp only
  rw [State.home_setHome_self (by rw [counted.homes_eq (by decide)]; exact State.canonical.homes h)]

theorem State.writeBack_home (h : Tbl.wf (fun _ => Home.init) s.homes = true) (d : Nat) (ls : List Nat) :
    ((s.writeBack d ls).home d).lines = (s.home d).lines.filter (fun x => !ls.contains x.line) := by
  unfold State.writeBack
  extract_lets hm out s1
  have stored : Within 131076 s1 (forEach (fun (x : CLine) (s : State) =>
      match x.data with
      | none => s
      | some bs =>
        let m := s.mem.putBytes (x.line * 64) bs
        let s := { s with mem := if x.poisoned then m else m.heal (x.line * 64) 64 }
        s.cxlBytesCount (s.serve (x.line * 64)) true 64 false) out s1) := by
    refine Within.stepEach (fun x s => ?_) (.refl _ _)
    split
    · exact .refl _ _
    · exact Within.step (State.cxlBytesCount_within _ _ _ _ _) rfl (Within.upd_mem rfl (.refl _ _))
  refine (congrArg Home.lines (State.home_of_homes (stored.homes_eq (by decide)) d)).trans ?_
  exact congrArg Home.lines (State.home_setHome_self h d { hm with lines := hm.lines.filter (fun x => !ls.contains x.line) })

theorem combiningLineExpiry_gives (h : s.canonical = true) {x : CLine} (oldest : oldestLine ((s.home d).lines.filter
      (fun x => x.data.isSome && !((s.home d).queuedLines d).contains x.line)) = some x) :
    Gives (.combiningLineExpiry d) s (fun t => t.now = max s.now (x.last + 1000)
      ∧ (t.home d).lines = (s.home d).lines.filter (fun y => !([x.line].contains y.line))) := by
  have run : exec (.combiningLineExpiry d) s = .next ((s.reach (x.last + 1000)).writeBack d [x.line]) := by
    change execCombiningLineExpiry d s = _
    unfold execCombiningLineExpiry
    dsimp only
    rw [oldest]
  have homes := (State.reach_within s (x.last + 1000)).homes_eq (by decide)
  refine ⟨_, run, ?_, ?_⟩
  · rw [State.now, (State.writeBack_within _ _ _).clk_eq (by decide)]
    exact State.now_reach _
  · rw [State.writeBack_home (by rw [homes]; exact State.canonical.homes h), State.home_of_homes homes]

end

/-- Settles O34. -/
theorem homeRequestsArePerformed : Obligations.HomeRequestsArePerformed := fun _ _ _ h =>
  ⟨exec_homeRequestPerform, State.perform_gives_refused, State.perform_gives_load h, fun _ _ => State.perform_gives_atomic h,
    fun _ _ => State.perform_gives_store h, fun _ => lineFill_gives h, fun _ => combiningLineExpiry_gives h⟩

end Sys2Proof.Machine

/-!
PROOFS. A lane group that leaves use takes its lanes' contents along (R190, R206; log entry 175), so a swap of groups changes
the Palette's state.
-/
namespace Sys2Proof.Machine

/-- The reset state with the lock of group 0's retirement granted, and one word in the lanes that group 0 forms. -/
def groupRetires : State :=
  { State.reset with maint := [(.lanes 0 0 true, true)],
                     pal := { State.reset.pal with engines := [(0, { Engine.init with lanes := [(0, 1)] })] } }

/-- That state after the swap. -/
def groupRetired : State :=
  ((groupRetires.retireGroup 0 0).endMaint (.lanes 0 0 true) 2).laneShort 0

theorem exec_laneGroupSwap_groupRetires : exec (.laneGroupSwap 0) groupRetires = .next groupRetired := rfl

theorem outLanes_groupRetired : (groupRetired.engine 0).outLanes = [(0, 1)] := by decide

/-- Refutes O27: the word in the lanes of the retired group is kept as that group's contents, so `pal` changes. -/
theorem not_energyAccountsAndLaneGroups : ¬ Obligations.EnergyAccountsAndLaneGroups := by
  intro h
  obtain ⟨t, ran, -, -, -, kept⟩ := (h.2 groupRetires 0 (by decide)).2 0 (by decide) rfl (by decide) (by decide) (by decide)
    (by decide) (by decide) (by decide)
  rw [exec_laneGroupSwap_groupRetires] at ran
  cases ran
  have moved : (groupRetired.engine 0).outLanes = (groupRetires.engine 0).outLanes := by rw [State.engine, kept, State.engine]
  rw [outLanes_groupRetired] at moved
  exact absurd moved (by decide)

end Sys2Proof.Machine

/-!
PROOFS. Cycles are counted at a step of a ramp, and an engine in KEEP whose filler is shed then begins its RAMP (R210, R211).
-/
namespace Sys2Proof.Machine

/-- The reset state with engine 0 in KEEP while a ramp runs; no energy is budgeted, so its filler is shed. -/
def rampingInKeep : State :=
  { State.reset with
    pal := { State.reset.pal with engines := [(0, { Engine.init with st := .keep, level := 8, ramping := true, rampD := 8 })] } }

/-- That state once the cycles up to the step's instant are counted. -/
def rampCounted : State := (rampingInKeep.reach 2500).accrue 0

theorem exec_rampStep_rampingInKeep :
    exec (.rampStep 0) rampingInKeep = .next (rampCounted.setEngine 0 (rampCounted.engine 0).rampNext) := rfl

theorem st_rampingInKeep_stepped : ((rampCounted.setEngine 0 (rampCounted.engine 0).rampNext).engine 0).st = .ramp := by decide

/-- Refutes O26: an engine in KEEP with a ramp that runs is in RAMP after a step of it, not in the state that it had. -/
theorem not_enginesFollowTheirStates : ¬ Obligations.EnginesFollowTheirStates := by
  intro h
  obtain ⟨-, -, -, -, -, -, -, step, -⟩ := h rampingInKeep 0 (by decide)
  obtain ⟨t, ran, -, -, same, -⟩ := step (by decide) (by decide)
  rw [exec_rampStep_rampingInKeep] at ran
  cases ran
  exact absurd (st_rampingInKeep_stepped.symm.trans same) (by decide)

end Sys2Proof.Machine

/-!
PROOFS. The energy of a batch that is admitted overdraws the account of its die, the die's filler is shed, and with the engine's
state the contexts in RECOVER are looked at again (R162, R185, R211).
-/
namespace Sys2Proof.Machine

/-- A segment with one batch that waits to be admitted. -/
def batchWaits : Segment := { Segment.idle with st := .full, batches := [⟨[], false, 0⟩] }

/-- A segment forced to end before a contribution came. -/
def forcedEmpty : Segment := { Segment.idle with st := .full, forced := true }

/-- A module of the fabric with engine 0 in KEEP and the account of its die overdrawn. Context 0 has the waiting batch, and
context 1 is in RECOVER with the segment that was forced. -/
def keepOverdrawn : State :=
  let s : State := { State.reset with
    dom := [(1, .on), (9, .on), (13, .on)],
    tab := { Tables.empty with ready := true },
    canvas := { Canvas.init with ctxs := [(0, { Ctx.init with st := .active, segs := [(0, batchWaits)] }),
                                          (1, { Ctx.init with st := .recover, segs := [(0, forcedEmpty)] })] },
    pal := { State.reset.pal with engines := [(0, { Engine.init with st := .keep })],
                                  dies := [(0, { PalDie.init with budget := 100, account := -1 })] } }
  (s.setF (R.GLB_D2D_STAT 18) 31 31 1).setF R.GLB_FABRIC_ID 31 31 1

/-- That state once the batch is admitted. -/
def batchAdmitted : State :=
  ((keepOverdrawn.setSeg 0 0 { batchWaits with batches := admitFirst batchWaits.batches }).updDie 0
    (fun x => x.spendBatch 0)).shedFiller 0

theorem exec_canvasBatchAdmit_keepOverdrawn : exec (.canvasBatchAdmit 0 false 0) keepOverdrawn = .next batchAdmitted := rfl

theorem rx_batchAdmitted : (batchAdmitted.rx 1088).length = 1 := by decide +kernel

/-- Refutes O25: the retry result of context 1 is put among the packets to be sent, so admitting a batch changes `dp`. -/
theorem not_segmentsAdvance : ¬ Obligations.SegmentsAdvance := by
  intro h
  obtain ⟨-, -, -, taken, -⟩ := h keepOverdrawn 0 false 0
  obtain ⟨t, ran, -, -, kept⟩ := taken ⟨[], false, 0⟩ (by decide) (by decide) (by decide) (by decide)
  rw [exec_canvasBatchAdmit_keepOverdrawn] at ran
  cases ran
  have none_sent : batchAdmitted.rx 1088 = keepOverdrawn.rx 1088 := by rw [State.rx, kept, State.rx]
  have one := rx_batchAdmitted
  rw [none_sent] at one
  exact absurd one (by decide)

end Sys2Proof.Machine

/-!
PROOFS. Contributions at Canvas's input, and phase marks (R168, R177, R184).
-/
namespace Sys2Proof.Machine
variable {s : State}

/-! ## The head of the input -/

theorem State.takeContrib_of_empty (empty : s.unitQueue 4 = []) : s.takeContrib = s := by
  rw [State.takeContrib, empty]; rfl

theorem State.takeContrib_of_ingest {it : Item} {l : List Item} {t : State} (ty : it.pkt.ty = tyRED_CONTRIB)
    (head : s.unitQueue 4 = it :: l) (free : s.islandWaits it = false) (up : s.works 8 = true) (taken : s.ingest it = some t) :
    s.takeContrib = t.unitTake 4 it l := by
  simp [State.takeContrib, head, free, ty, up, taken]

theorem exec_contribReceive (s : State) : exec .contribReceive s = .next s.takeContrib := rfl

theorem exec_canvasIngestRetry (s : State) : exec .canvasIngestRetry s
    = .next (if (s.unitQueue 4).isEmpty then s.schedule 1092 else s).takeContrib := rfl

theorem State.itemReady_of_canvasHolds {it : Item} (holds : s.canvasHolds (s.unitQueue 4) it = true) :
    s.itemReady 1092 it = false := by
  simp [State.itemReady, holds]

/-! ## A discard -/

theorem State.ingest_of_discard {it : Item} {counter : Nat} (judged : s.judge it = .discard counter) :
    s.ingest it = some ((s.noteTerms (it.pkt.fld 5 31 18) (fun t => { t with delivered := t.delivered + 1 })).countDiscard
      (it.pkt.fld 5 31 18) it.port counter) := by
  rw [State.ingest, judged]

theorem State.countDiscard_canvas (n port counter : Nat) :
    (s.countDiscard n port counter).canvas.ctxs = s.canvas.ctxs
      ∧ (s.countDiscard n port counter).canvas.staging = s.canvas.staging
      ∧ (s.countDiscard n port counter).canvas.ovf = s.canvas.ovf := by
  have same : (s.countDiscard n port counter).canvas = (s.discards n counter 1).canvas := by
    unfold State.countDiscard
    dsimp only
    split
    · exact (State.bumpPort_within _ port 10 1).canvas_eq (by decide)
    · rfl
  rw [same]
  exact ⟨rfl, rfl, rfl⟩

theorem State.countDiscard_of_not_late {counter : Nat} (n port : Nat) (other : counter ≠ C.CNV_LATE) :
    s.countDiscard n port counter = s.discards n counter 1 := if_neg fun h => other h.1

theorem State.count_discards (wf : Tbl.wf (fun _ => 0) s.cnt = true) (n counter m : Nat) :
    (s.discards n counter m).count counter = (s.count counter + m) % 2 ^ 64 := State.count_bump_self wf counter m

/-! ## A phase mark -/

theorem exec_phaseMarkReceive_of_foreign {it : Item} {l : List Item} (head : s.unitQueue 4 = it :: l)
    (free : s.islandWaits it = false) (ty : it.pkt.ty = tyPHASE_MARK) (up : s.works 8 = true) (low : 1024 ≤ it.port)
    (high : it.port < 1088) (dead : (s.ctx (it.pkt.fld 5 31 18)).live = false) (due : s.tb0 ≤ s.markAt it.pkt) :
    exec .phaseMarkReceive s = .next ((s.unitTake 4 it l).takeMark (it.pkt.fld 5 9 2) (s.markAt it.pkt)) := by
  have dead' : ((s.unitTake 4 it l).ctx (it.pkt.fld 5 31 18)).live = false := dead
  have early : ¬ (s.unitTake 4 it l).markAt it.pkt < (s.unitTake 4 it l).tb0 := Nat.not_lt.mpr due
  change execPhaseMarkReceive s = _
  simp [execPhaseMarkReceive, head, free, ty, up, low, high, dead', early, ok]
  rfl

/-- Settles O24. -/
theorem contributionsAreTakenOrDiscarded : Obligations.ContributionsAreTakenOrDiscarded := by
  refine ⟨fun s it l ty => ⟨fun t head free up taken => ?_, fun empty => ?_, State.itemReady_of_canvasHolds⟩,
    fun s it counter judged => ⟨_, State.ingest_of_discard judged, ?_, ?_, ?_, ?_, ?_⟩,
    fun s it l head free ty up low high dead due => exec_phaseMarkReceive_of_foreign head free ty up low high dead due⟩
  · have some_left : (s.unitQueue 4).isEmpty = false := by rw [head]; rfl
    rw [exec_contribReceive, exec_canvasIngestRetry, some_left, State.takeContrib_of_ingest ty head free up taken]
    exact ⟨rfl, congrArg _ (State.takeContrib_of_ingest ty head free up taken)⟩
  · rw [exec_contribReceive, exec_canvasIngestRetry, empty, State.takeContrib_of_empty empty]
    exact ⟨rfl, rfl⟩
  · exact (State.countDiscard_step (m := 8196) (by decide)
      (State.noteTerms_step (by decide) (Within.refl 8196 s))).only fun p hp => by revert hp; cases p <;> decide
  · exact (State.countDiscard_canvas _ _ _).1
  · exact (State.countDiscard_canvas _ _ _).2.1
  · exact (State.countDiscard_canvas _ _ _).2.2
  · intro canonical other
    rw [State.countDiscard_of_not_late _ _ other]
    exact State.count_discards (s := s.noteTerms _ _) (State.canonical.cnt canonical) (it.pkt.fld 5 31 18) counter 1

end Sys2Proof.Machine

/-!
PROOFS. While DL22 is down the rings stay paused, and a host link that trains does not come up (R361).
-/
namespace Sys2Proof.Machine

/-- The host domain on, the host link down, and its rings paused since DL22 is down. -/
def pausedLink : State :=
  { State.reset with dom := [(1, .on), (2, .on)], host := { State.reset.host with paused := true } }

/-- That state once the link is trained on lane 0. -/
def pausedTrained : State := { pausedLink with host := { pausedLink.host with trained := true, lanes := 1 } }

theorem exec_hostLinkUp_pausedLink : exec (.hostLinkUp 1) pausedLink = .next pausedTrained := rfl

/-- Refutes O50: the link trains while DL22 is down, and `up` stays false. -/
theorem not_hostLinkAndRings : ¬ Obligations.HostLinkAndRings := by
  intro h
  obtain ⟨-, -, linkUp, -⟩ := h.1 pausedLink (by decide)
  obtain ⟨t, ran, up, -⟩ := linkUp 1 (by decide) (by decide) (by decide) (by decide) (by decide)
  rw [exec_hostLinkUp_pausedLink] at ran
  cases ran
  exact absurd up (by decide)

end Sys2Proof.Machine

/-!
PROOFS. With 4,095 reads outstanding the data of a descriptor is not read: the last of the 4,096 is the doorbell page's (R360;
log entry 125).
-/
namespace Sys2Proof.Machine
variable {s : State}

theorem State.askData_of_full (full : 4095 ≤ s.host.reads.length) (r idx n : Nat) : s.askData r idx n = s := by
  cases n with
  | zero => rfl
  | succ n =>
    rw [State.askData]
    split
    · rfl
    · exact if_neg fun h => Nat.not_lt.mpr full h.2.2

theorem State.settleRing_of_idle {r : Nat} (idle : s.startable r = none) : s.settleRing r = s := by
  rw [State.settleRing, State.failFront, idle]

theorem State.settleRing_of_legal {r : Nat} {d : Desc} (start : s.startable r = some d) (legal : d.fails = none) :
    s.settleRing r = s := by
  rw [State.settleRing, State.failFront, start]
  dsimp only
  rw [legal]

/-- A TX_PACKET of 48 bytes that waits to be started. -/
def waitingTx : Desc :=
  { idx := 0, words := [(0 : Word).setFld 31 24 1, 0, 0, 0, 0, 0, 48] ++ List.replicate 9 0, st := .fetched, pieces := [], asked := 0,
    parts := [] }

/-- Reads of the doorbell page, as many as leave one read free. -/
def manyReads : List HostRead := List.replicate 4095 ⟨1, .doorbell, 0, 0⟩

theorem length_manyReads : manyReads.length = 4095 := List.length_replicate

/-- The host link up with 4,095 reads outstanding, and ring 0 running with that descriptor. -/
def readsFull : State :=
  { State.reset with
    host := { State.reset.host with up := true, reads := manyReads,
                                    rings := [(0, { HostRing.init with st := .running, descs := [waitingTx] })] } }

/-- That state once the descriptor is started. -/
def startedFull : State := readsFull.markStarted 0 0

theorem length_reads_startedFull : startedFull.host.reads.length = 4095 := length_manyReads

theorem readsFull_startable : readsFull.startable 0 = some waitingTx := by decide

theorem startedFull_startable : startedFull.startable 0 = none := by decide

theorem exec_txPacket_readsFull : exec (.txPacket 0) readsFull = .next startedFull := by
  have before := State.settleRing_of_legal readsFull_startable (by decide)
  have asked : startedFull.askData 0 0 4096 = startedFull := State.askData_of_full (Nat.le_of_eq length_reads_startedFull.symm) 0 0 4096
  have after := State.settleRing_of_idle startedFull_startable
  change Host.Outcome.next (readsFull.startOp 0 1 _) = _
  rw [State.startOp, before]
  rw [readsFull_startable]
  dsimp only
  rw [if_neg (by decide), State.runDesc, if_neg (by decide)]
  exact congrArg Host.Outcome.next ((congrArg (fun t => State.settleRing t 0) asked).trans after)

/-- Refutes O51: with 4,095 reads outstanding TX_PACKET starts, and its data is not asked for. -/
theorem not_descriptorsRunInRingOrder : ¬ Obligations.DescriptorsRunInRingOrder := by
  intro h
  obtain ⟨-, -, -, tx, -⟩ := h readsFull 0 (by decide)
  obtain ⟨t, ran, asked, -⟩ := tx waitingTx (by decide) readsFull_startable (by decide) (by decide) (by decide) (by decide)
    (by decide) (Nat.lt_of_le_of_lt (Nat.le_of_eq length_manyReads) (by decide))
  rw [exec_txPacket_readsFull] at ran
  cases ran
  exact absurd (List.self_eq_append_right.mp asked) (List.cons_ne_nil _ _)

end Sys2Proof.Machine

/-!
PROOFS. Health actions, pins and hot updates (R425, R426, R427, R432).
-/
namespace Sys2Proof.Machine
variable {s : State}

/-! ## Parts -/

theorem State.part_setPart_of_ne {k : Nat} {x : Part} (ne : x ≠ Part.init) : (s.setPart k x).part k = x :=
  Tbl.get_put_of_ne_default (d := fun _ => Part.init) _ _ ne

theorem State.regs_healthEvent (k cause arg2 : Nat) : (s.healthEvent k cause arg2).regs = s.regs :=
  (State.healthEvent_within _ _ _ _).regs_eq (by decide)

theorem State.ports_healthEvent (k cause arg2 : Nat) : (s.healthEvent k cause arg2).ports = s.ports :=
  (State.healthEvent_within _ _ _ _).ports_eq (by decide)

theorem State.part_healthEvent (k cause arg2 j : Nat) : (s.healthEvent k cause arg2).part j = s.part j :=
  State.part_of_tel (State.tel_healthEvent k cause arg2) j

theorem State.part_setF (off hi lo v k : Nat) : (s.setF off hi lo v).part k = s.part k := rfl

/-! ## The start of an action (R426) -/

/-- A part whose action has started. -/
def Part.started (x : Part) : Part := { x with allowedAt := none, acted := true }

/-- The action of a part that starts, with its instant among the expulsions. -/
def State.actedOn (s : State) (k : Nat) : State :=
  { s.setPart k (s.part k).started with
    tel := { (s.setPart k (s.part k).started).tel with expulsions := s.expHour ++ [s.now] } }

theorem State.actedOn_cnt (k : Nat) : (s.actedOn k).cnt = s.cnt := rfl

theorem State.actedOn_regs (k : Nat) : (s.actedOn k).regs = s.regs := rfl

theorem State.part_actedOn (k : Nat) : (s.actedOn k).part k = (s.part k).started :=
  State.part_setPart_of_ne fun e => Bool.noConfusion (congrArg Part.acted e)

/-- The action of a part noted as started. -/
def State.actionNoted (s : State) (k : Nat) : State := ((s.actedOn k).bump C.TEL_EXPULSIONS 1).healthEvent k 5 0

theorem State.tel_actionNoted (k : Nat) : (s.actionNoted k).tel = (s.actedOn k).tel :=
  State.tel_healthEvent (s := (s.actedOn k).bump C.TEL_EXPULSIONS 1) k 5 0

theorem State.regs_actionNoted (k : Nat) : (s.actionNoted k).regs = s.regs :=
  State.regs_healthEvent (s := (s.actedOn k).bump C.TEL_EXPULSIONS 1) k 5 0

theorem State.part_actionNoted (k : Nat) : (s.actionNoted k).part k = (s.part k).started :=
  (State.part_of_tel (State.tel_actionNoted k) k).trans (State.part_actedOn k)

theorem State.count_healthEvent (h : Tbl.wf (fun _ => 0) s.cnt = true) (k cause arg2 : Nat) {j : Nat}
    (merged : j ≠ C.HLK_EV_MERGED) (lost : j ≠ C.HLK_EV_LOST) : (s.healthEvent k cause arg2).count j = s.count j := by
  rw [State.healthEvent]
  exact State.count_raise h _ merged lost

theorem State.count_actionNoted (h : Tbl.wf (fun _ => 0) s.cnt = true) (k : Nat) :
    (s.actionNoted k).count C.TEL_EXPULSIONS = (s.count C.TEL_EXPULSIONS + 1) % 2 ^ 64 := by
  have same := State.actedOn_cnt (s := s) k
  have wf : Tbl.wf (fun _ => 0) (s.actedOn k).cnt = true := by rw [same]; exact h
  have counted := State.count_bump_self wf C.TEL_EXPULSIONS 1
  rw [State.count_of_cnt same] at counted
  rw [State.actionNoted, State.count_healthEvent (bumpTbl_wf wf _ _) k 5 0 (by decide) (by decide), counted]

theorem State.startAction_eq (k : Nat) : s.startAction k
    = match portOfUnit (partKind k) (partIndex k) with
      | some p =>
        if (s.actionNoted k).fld (portCtrl p) 30 30 = 1 then s.actionNoted k
        else ((s.actionNoted k).setF (portCtrl p) 30 30 1).requestMaint (.drain p) (State.startDrain p)
      | none => s.startAction k := by
  cases port : portOfUnit (partKind k) (partIndex k) with
  | none => rfl
  | some p =>
    rw [State.startAction, port]
    rfl

theorem State.startAction_of_drained {index : Nat} (leaf : index < 1024) (drains : s.fld (portCtrl index) 30 30 = 1) :
    s.startAction (partKey 1 index) = s.actionNoted (partKey 1 index) := by
  have kind : partKind (partKey 1 index) = 1 := by rw [partKind, partKey]; omega
  have number : partIndex (partKey 1 index) = index := by rw [partIndex, partKey]; omega
  have port : portOfUnit 1 index = some index := if_pos ⟨rfl, leaf⟩
  have same := (State.fld_of_regs (s := s) (State.regs_actionNoted (partKey 1 index)) (portCtrl index) 30 30).trans drains
  rw [State.startAction_eq, kind, number, port]
  exact if_pos same

theorem exec_healthActionStart_of_low {kind : Fin 256} {index : Fin 16777216} {t0 : Nat}
    (allowed : (s.part (partKey kind index)).allowedAt = some t0) (low : (s.part (partKey kind index)).score < 700) :
    exec (.healthActionStart kind index) s
      = .next (s.setPart (partKey kind index) { s.part (partKey kind index) with allowedAt := none }) := by
  change execHealthActionStart kind index s = _
  rw [execHealthActionStart, allowed]
  exact if_pos low

theorem exec_healthActionStart_of_boundary {kind : Fin 256} {index : Fin 16777216} {t0 : Nat}
    (allowed : (s.part (partKey kind index)).allowedAt = some t0) (high : 700 ≤ (s.part (partKey kind index)).score)
    (boundary : s.atBoundary (partKey kind index) t0 = true) :
    exec (.healthActionStart kind index) s = .next (s.startAction (partKey kind index)) := by
  change execHealthActionStart kind index s = _
  rw [execHealthActionStart, allowed]
  exact (if_neg (Nat.not_lt.mpr high)).trans (if_pos boundary)

/-! ## Pins (R427) -/

theorem State.unpin_of_pinned {k : Nat} {t0 : Nat} (pinned : (s.part k).pinEnd = some t0) (cause : Nat) :
    (s.unpin k cause).regs = s.regs ∧ (s.unpin k cause).now = s.now
      ∧ (s.unpin k cause).tel = (s.setPart k { s.part k with pinEnd := none }).tel := by
  have told := State.tel_healthEvent (s := s.setPart k { s.part k with pinEnd := none }) k cause 0
  have kept := State.regs_healthEvent (s := s.setPart k { s.part k with pinEnd := none }) k cause 0
  have clk : ((s.setPart k { s.part k with pinEnd := none }).healthEvent k cause 0).clk = s.clk :=
    (State.healthEvent_within _ _ _ _).clk_eq (by decide)
  rw [State.unpin, if_pos (by rw [pinned]; rfl)]
  dsimp only
  split
  · exact ⟨((State.markSuspect_within _ _).regs_eq (by decide)).trans kept,
      congrArg Clock.now (((State.markSuspect_within _ _).clk_eq (by decide)).trans clk),
      (State.tel_markSuspect k).trans told⟩
  · exact ⟨kept, congrArg Clock.now clk, told⟩

theorem State.regs_unpin (k cause : Nat) : (s.unpin k cause).regs = s.regs := (State.unpin_within _ _ _).regs_eq (by decide)

/-- An unpinned part is as it was, without its pin. -/
theorem State.part_unpin (h : Tbl.wf (fun _ => Part.init) s.tel.parts = true) (k cause : Nat) :
    (s.unpin k cause).part k = { s.part k with pinEnd := none } := by
  cases pinned : (s.part k).pinEnd with
  | none =>
    have same : s.unpin k cause = s := by rw [State.unpin, pinned]; rfl
    rw [same, ← pinned]
  | some t0 =>
    obtain ⟨-, -, tel⟩ := State.unpin_of_pinned pinned cause
    rw [State.part, tel]
    exact State.part_setPart_self h k _

/-- A part with a pin until an instant. -/
def Part.pinned (x : Part) (until_ : Nat) : Part := { x with pinEnd := some until_, allowedAt := none }

theorem State.part_pinned (k t : Nat) : (s.setPart k ((s.part k).pinned t)).part k = (s.part k).pinned t :=
  State.part_setPart_of_ne fun e => Option.some_ne_none _ (congrArg Part.pinEnd e)

theorem execHealthPin_eq (kind : Fin 256) (index : Fin 65536) : execHealthPin kind index s
    = ok (s.gate R.TEL_HEALTH_CMD (fun s =>
      if !partKnown kind index then s.status R.TEL_HEALTH_STAT 3
      else if s.fld R.TEL_HEALTH_PIN_S 11 0 = 0 then (s.unpin (partKey kind index) 4).status R.TEL_HEALTH_STAT 0
      else if min 3600 (s.fld R.TEL_HEALTH_CFG 27 16) < s.fld R.TEL_HEALTH_PIN_S 11 0 then s.status R.TEL_HEALTH_STAT 5
      else ((s.setPart (partKey kind index)
        ((s.part (partKey kind index)).pinned (s.now + s.fld R.TEL_HEALTH_PIN_S 11 0 * 1000000000))).healthEvent
          (partKey kind index) 2 (s.fld R.TEL_HEALTH_PIN_S 11 0)).status R.TEL_HEALTH_STAT 0)) := rfl

section
variable {kind : Fin 256} {index : Fin 65536} (on : s.on (regDomain R.TEL_HEALTH_CMD) = true)
  (known : partKnown kind index = true)
include on known

theorem healthPin_gives (h : s.canonical = true) (set : s.fld R.TEL_HEALTH_PIN_S 11 0 ≠ 0)
    (fits : s.fld R.TEL_HEALTH_PIN_S 11 0 ≤ min 3600 (s.fld R.TEL_HEALTH_CFG 27 16)) :
    Gives (.healthPin kind index) s (fun t => t.fld R.TEL_HEALTH_STAT 3 0 = 0
      ∧ (t.part (partKey kind index)).pinEnd = some (s.now + s.fld R.TEL_HEALTH_PIN_S 11 0 * 1000000000)
      ∧ (t.part (partKey kind index)).allowedAt = none
      ∧ (t.part (partKey kind index)).score = (s.part (partKey kind index)).score ∧ t.ports = s.ports) := by
  have run : exec (.healthPin kind index) s = _ := execHealthPin_eq kind index
  rw [State.gate_on on, known, if_neg (by decide), if_neg set, if_neg (Nat.not_lt.mpr fits)] at run
  refine ⟨_, run, ?_⟩
  generalize s.now + s.fld R.TEL_HEALTH_PIN_S 11 0 * 1000000000 = until_
  generalize s.fld R.TEL_HEALTH_PIN_S 11 0 = seconds
  have part : ((s.setPart (partKey kind index) ((s.part (partKey kind index)).pinned until_)).healthEvent (partKey kind index) 2
      seconds).part (partKey kind index) = (s.part (partKey kind index)).pinned until_ :=
    (State.part_healthEvent _ _ _ _).trans (State.part_pinned _ _)
  have regs := State.regs_healthEvent (s := s.setPart (partKey kind index) ((s.part (partKey kind index)).pinned until_))
    (partKey kind index) 2 seconds
  have ports := State.ports_healthEvent (s := s.setPart (partKey kind index) ((s.part (partKey kind index)).pinned until_))
    (partKey kind index) 2 seconds
  generalize (s.setPart (partKey kind index) ((s.part (partKey kind index)).pinned until_)).healthEvent (partKey kind index) 2
      seconds = u at part regs ports
  have wf : Tbl.wf regReset u.regs = true := by rw [regs]; exact State.canonical.regs h
  rw [State.status, State.part_setF, part]
  exact ⟨State.fld_status_self wf _ (by decide), rfl, rfl, rfl, ports⟩

theorem exec_healthPin_of_long (long : min 3600 (s.fld R.TEL_HEALTH_CFG 27 16) < s.fld R.TEL_HEALTH_PIN_S 11 0) :
    exec (.healthPin kind index) s = .next (s.setF R.TEL_HEALTH_STAT 3 0 5) := by
  have run : exec (.healthPin kind index) s = _ := execHealthPin_eq kind index
  rw [State.gate_on on, known, if_neg (by decide), if_neg (Nat.ne_of_gt (Nat.zero_lt_of_lt long)), if_pos long] at run
  exact run

theorem healthUnpin_gives (h : s.canonical = true) (wf : Tbl.wf (fun _ => Part.init) s.tel.parts = true) :
    Gives (.healthUnpin kind index) s (fun t => t.fld R.TEL_HEALTH_STAT 3 0 = 0
      ∧ t.part (partKey kind index) = { s.part (partKey kind index) with pinEnd := none }) := by
  have run : exec (.healthUnpin kind index) s = .next (s.gate R.TEL_HEALTH_CMD (fun s =>
    if !partKnown kind index then s.status R.TEL_HEALTH_STAT 3
    else (s.unpin (partKey kind index) 4).status R.TEL_HEALTH_STAT 0)) := rfl
  rw [State.gate_on on, known, if_neg (by decide)] at run
  refine ⟨_, run, ?_, State.part_unpin wf _ _⟩
  have regs : Tbl.wf regReset (s.unpin (partKey kind index) 4).regs = true := by
    rw [State.regs_unpin]; exact State.canonical.regs h
  exact State.fld_status_self regs _ (by decide)

end

theorem healthPinExpiry_gives {kind : Fin 256} {index : Fin 16777216} {t0 : Nat}
    (pinned : (s.part (partKey kind index)).pinEnd = some t0) (wf : Tbl.wf (fun _ => Part.init) s.tel.parts = true) :
    Gives (.healthPinExpiry kind index) s (fun t => t.now = max s.now t0
      ∧ t.part (partKey kind index) = { s.part (partKey kind index) with pinEnd := none }) := by
  have run : exec (.healthPinExpiry kind index) s = .next ((s.reach t0).unpin (partKey kind index) 3) := by
    change execHealthPinExpiry kind index s = _
    rw [execHealthPinExpiry, pinned]
  have tel := State.tel_reach (s := s) t0
  have same : (s.reach t0).part (partKey kind index) = s.part (partKey kind index) := State.part_of_tel tel _
  have wf' : Tbl.wf (fun _ => Part.init) (s.reach t0).tel.parts = true := by rw [tel]; exact wf
  have still : ((s.reach t0).part (partKey kind index)).pinEnd = some t0 := by rw [same]; exact pinned
  have part := State.part_unpin wf' (partKey kind index) 3
  rw [same] at part
  exact ⟨_, run, (State.unpin_of_pinned still 3).2.1.trans (State.now_reach ..), part⟩

/-! ## A read (R422) -/

/-- The words that a read of a part answers. -/
def Part.word0 (x : Part) (now : Nat) : Word :=
  ((((((0 : Word).setFld 31 22 x.score).setFld 21 19 x.st).setFld 18 18 (bit01 x.flagged)).setFld 17 17
    (bit01 x.pinEnd.isSome)).setFld 16 16 (bit01 x.acted)).setFld 11 0 (x.pinLeft now)

theorem bit01_lt (b : Bool) : bit01 b < 2 := by cases b <;> decide

theorem Part.word0_fields (x : Part) (now : Nat) (small : x.score ≤ 1000) : (x.word0 now).fld 31 22 = x.score
    ∧ (x.word0 now).fld 18 18 = bit01 x.flagged ∧ (x.word0 now).fld 17 17 = bit01 x.pinEnd.isSome := by
  have flagged := bit01_lt x.flagged
  have pinned := bit01_lt x.pinEnd.isSome
  unfold Part.word0
  refine ⟨?_, ?_, ?_⟩
  · rw [Word.fld_setFld_apart _ _ (by decide) (by decide) (by decide), Word.fld_setFld_apart _ _ (by decide) (by decide) (by decide),
      Word.fld_setFld_apart _ _ (by decide) (by decide) (by decide), Word.fld_setFld_apart _ _ (by decide) (by decide) (by decide),
      Word.fld_setFld_apart _ _ (by decide) (by decide) (by decide), Word.fld_setFld_self _ _ (by decide) (by decide)]
    exact Nat.mod_eq_of_lt (by omega)
  · rw [Word.fld_setFld_apart _ _ (by decide) (by decide) (by decide), Word.fld_setFld_apart _ _ (by decide) (by decide) (by decide),
      Word.fld_setFld_apart _ _ (by decide) (by decide) (by decide), Word.fld_setFld_self _ _ (by decide) (by decide)]
    exact Nat.mod_eq_of_lt flagged
  · rw [Word.fld_setFld_apart _ _ (by decide) (by decide) (by decide), Word.fld_setFld_apart _ _ (by decide) (by decide) (by decide),
      Word.fld_setFld_self _ _ (by decide) (by decide)]
    exact Nat.mod_eq_of_lt pinned

theorem Part.applied_le (x : Part) (small : x.score ≤ 1000) : x.applied < 2 ^ 10 := by
  unfold Part.applied
  split <;> omega

/-- The words of a part put where a read shows them. -/
def State.showPart (s : State) (w0 w1 : Word) : State :=
  ((s.wr R.TEL_HEALTH_DATA_0 w0).wr R.TEL_HEALTH_DATA_1 w1).status R.TEL_HEALTH_STAT 0

theorem State.fld_showPart (h : Tbl.wf regReset s.regs = true) (w0 w1 : Word) (hi lo : Nat) :
    (s.showPart w0 w1).fld R.TEL_HEALTH_STAT 3 0 = 0 ∧ (s.showPart w0 w1).fld R.TEL_HEALTH_DATA_0 hi lo = w0.fld hi lo
      ∧ (s.showPart w0 w1).fld R.TEL_HEALTH_DATA_1 hi lo = w1.fld hi lo := by
  have wf0 : Tbl.wf regReset (s.wr R.TEL_HEALTH_DATA_0 w0).regs = true := State.wr_regs_wf h _ _
  have wf1 : Tbl.wf regReset ((s.wr R.TEL_HEALTH_DATA_0 w0).wr R.TEL_HEALTH_DATA_1 w1).regs = true := State.wr_regs_wf wf0 _ _
  refine ⟨State.fld_status_self wf1 _ (by decide), ?_, ?_⟩
  · rw [State.showPart, State.status, State.fld_setF_ne wf1 _ _ _ _ _ (by decide), State.fld, State.rd_wr_ne wf0 _ (by decide),
      State.rd_wr_self h]
  · rw [State.showPart, State.status, State.fld_setF_ne wf1 _ _ _ _ _ (by decide), State.fld, State.rd_wr_self wf0]

theorem State.showPart_within (w0 w1 : Word) : Within 2 s (s.showPart w0 w1) :=
  State.status_step (by decide) (State.wr_step (by decide) (State.wr_within s _ _))

theorem exec_healthRead_of_known {kind : Fin 256} {index : Fin 65536} (on : s.on (regDomain R.TEL_HEALTH_CMD) = true)
    (known : partKnown kind index = true) : exec (.healthRead kind index) s
      = .next (s.showPart ((s.part (partKey kind index)).word0 s.now)
        ((0 : Word).setFld 31 22 (s.part (partKey kind index)).applied)) := by
  have run : exec (.healthRead kind index) s = .next (s.gate R.TEL_HEALTH_CMD (fun s =>
    if !partKnown kind index then s.status R.TEL_HEALTH_STAT 3
    else s.showPart ((s.part (partKey kind index)).word0 s.now)
      ((0 : Word).setFld 31 22 (s.part (partKey kind index)).applied))) := rfl
  rw [State.gate_on on, known, if_neg (by decide)] at run
  exact run

theorem healthRead_gives (h : s.canonical = true) {kind : Fin 256} {index : Fin 65536}
    (on : s.on (regDomain R.TEL_HEALTH_CMD) = true) (known : partKnown kind index = true)
    (small : (s.part (partKey kind index)).score ≤ 1000) :
    Gives (.healthRead kind index) s (fun t => Only [.regs] s t ∧ t.fld R.TEL_HEALTH_STAT 3 0 = 0
      ∧ t.fld R.TEL_HEALTH_DATA_0 31 22 = (s.part (partKey kind index)).score
      ∧ t.fld R.TEL_HEALTH_DATA_0 18 18 = bit01 (s.part (partKey kind index)).flagged
      ∧ t.fld R.TEL_HEALTH_DATA_0 17 17 = bit01 (s.part (partKey kind index)).pinEnd.isSome
      ∧ t.fld R.TEL_HEALTH_DATA_1 31 22 = (s.part (partKey kind index)).applied) := by
  have run := exec_healthRead_of_known on known
  have regs := State.canonical.regs h
  generalize s.part (partKey kind index) = x at run small ⊢
  obtain ⟨score, flagged, pinned⟩ := x.word0_fields s.now small
  have applied : ((0 : Word).setFld 31 22 x.applied).fld 31 22 = x.applied :=
    (Word.fld_setFld_self _ _ (by decide) (by decide)).trans (Nat.mod_eq_of_lt (x.applied_le small))
  have shown := State.fld_showPart regs (x.word0 s.now) ((0 : Word).setFld 31 22 x.applied)
  exact ⟨_, run, (State.showPart_within _ _).only fun p hp => by revert hp; cases p <;> decide, (shown 0 0).1,
    (shown 31 22).2.1.trans score, (shown 18 18).2.1.trans flagged, (shown 17 17).2.1.trans pinned,
    (shown 31 22).2.2.trans applied⟩

/-! ## Hot updates (R432) -/

/-- What TEL.UCODE_STAT shows after an answer. -/
theorem State.fld_ucodeStat (h : Tbl.wf regReset s.regs = true) {busy check st : Nat} (bit : busy < 2) (code : check < 256)
    (status : st < 16) : (s.ucodeStat busy check st).fld R.TEL_UCODE_STAT 31 31 = busy
      ∧ (s.ucodeStat busy check st).fld R.TEL_UCODE_STAT 15 8 = check
      ∧ (s.ucodeStat busy check st).fld R.TEL_UCODE_STAT 3 0 = st := by
  rw [State.ucodeStat, State.fld, State.fld, State.fld, State.rd_wr_self h]
  refine ⟨?_, ?_, ?_⟩
  · rw [Word.fld_setFld_apart _ _ (by decide) (by decide) (by decide), Word.fld_setFld_apart _ _ (by decide) (by decide) (by decide),
      Word.fld_setFld_self _ _ (by decide) (by decide)]
    exact Nat.mod_eq_of_lt bit
  · rw [Word.fld_setFld_apart _ _ (by decide) (by decide) (by decide), Word.fld_setFld_self _ _ (by decide) (by decide)]
    exact Nat.mod_eq_of_lt code
  · rw [Word.fld_setFld_self _ _ (by decide) (by decide)]
    exact Nat.mod_eq_of_lt status

/-- A lock that is granted at once. -/
theorem State.requestMaint_of_grantable {a : Activity} (free : grantable s.maint a = true) (start : State → State) :
    s.requestMaint a start = start (({ s with maint := s.maint ++ [(a, true)] } : State).maintEvent a 1) := if_pos free

theorem execUcodeUpdate_eq (island : Fin 128) (slot : Fin 2) : exec (.ucodeUpdate island slot) s
    = .next (s.gate R.TEL_UCODE_CMD (fun s =>
      if s.fld R.TEL_UCODE_STAT 31 31 = 1 then s.status R.TEL_UCODE_STAT 2
      else if island.val = 0 ∨ 112 ≤ island.val then s.status R.TEL_UCODE_STAT 3
      else (s.ucodeStat 1 0 2).requestMaint (.ucode island slot) (State.startUcode island slot))) := rfl

theorem ucodeUpdate_gives (h : s.canonical = true) {island : Fin 128} {slot : Fin 2}
    (on : s.on (regDomain R.TEL_UCODE_CMD) = true) (idle : s.fld R.TEL_UCODE_STAT 31 31 = 0) (some_ : island ≠ 0)
    (known : island.val < 112) (free : grantable s.maint (.ucode island slot) = true) :
    Gives (.ucodeUpdate island slot) s (fun t => t.tel.update = some ⟨island, slot, none, none⟩
      ∧ t.fld R.TEL_UCODE_STAT 31 31 = 1 ∧ t.maint = s.maint ++ [(.ucode island slot, true)]) := by
  have named : ¬ (island.val = 0 ∨ 112 ≤ island.val) := by
    rintro (zero | high)
    · exact some_ (Fin.ext zero)
    · omega
  have run := execUcodeUpdate_eq (s := s) island slot
  rw [State.gate_on on, if_neg (by rw [idle]; decide), if_neg named, State.requestMaint_of_grantable (s := s.ucodeStat 1 0 2) free]
    at run
  have shown := (State.fld_ucodeStat (State.canonical.regs h) (busy := 1) (check := 0) (st := 2) (by decide) (by decide)
    (by decide)).1
  have maint := State.maint_maintEvent (s := { s.ucodeStat 1 0 2 with maint := s.maint ++ [(.ucode island slot, true)] })
    (.ucode island slot) 1
  have regs := State.regs_maintEvent (s := { s.ucodeStat 1 0 2 with maint := s.maint ++ [(.ucode island slot, true)] })
    (.ucode island slot) 1
  exact ⟨_, run, rfl, (State.fld_of_regs regs _ _ _).trans shown, maint⟩

theorem exec_ucodeUpdate_of_unknown {island : Fin 128} {slot : Fin 2} (on : s.on (regDomain R.TEL_UCODE_CMD) = true)
    (idle : s.fld R.TEL_UCODE_STAT 31 31 = 0) (unknown : island = 0 ∨ 112 ≤ island.val) :
    exec (.ucodeUpdate island slot) s = .next (s.setF R.TEL_UCODE_STAT 3 0 3) := by
  have named : island.val = 0 ∨ 112 ≤ island.val := unknown.imp_left fun e => by rw [e]; rfl
  have run := execUcodeUpdate_eq (s := s) island slot
  rw [State.gate_on on, if_neg (by rw [idle]; decide), if_pos named] at run
  exact run

/-- The state without a hot update. -/
def State.updateEnded (s : State) : State := { s with tel := { s.tel with update := none } }

theorem State.endUcode_gives (h : Tbl.wf regReset s.regs = true) (u : Update) {check st : Nat} (code : check < 256)
    (status : st < 16) : (s.endUcode u check st).tel.update = none ∧ (s.endUcode u check st).now = s.now
      ∧ (s.endUcode u check st).fld R.TEL_UCODE_STAT 31 31 = 0 ∧ (s.endUcode u check st).fld R.TEL_UCODE_STAT 15 8 = check
      ∧ (s.endUcode u check st).fld R.TEL_UCODE_STAT 3 0 = st := by
  have shown := State.fld_ucodeStat (s := s.updateEnded) h (busy := 0) (by decide) code status
  have ended : s.endUcode u check st
      = (s.updateEnded.ucodeStat 0 check st).endMaint (.ucode u.island u.slot) (if st = 0 then 2 else 3) := rfl
  have within := State.endMaint_within (s.updateEnded.ucodeStat 0 check st) (.ucode u.island u.slot) (if st = 0 then 2 else 3)
  rw [ended]
  have regs := State.fld_of_regs (within.regs_eq (by decide))
  refine ⟨(congrArg Telemetry.update (within.tel_eq (by decide))), congrArg Clock.now (within.clk_eq (by decide)), ?_, ?_, ?_⟩
  · rw [regs]; exact shown.1
  · rw [regs]; exact shown.2.1
  · rw [regs]; exact shown.2.2

section
variable {u : Update} {c : ImageCheck} (runs : s.tel.update = some u) (here : u.swapped = none)
include runs here

theorem exec_ucodeLoadDone_of_idle (started : u.drainEnd = none) : exec (.ucodeLoadDone c) s
    = .next (if (if s.boot.erased u.slot then 0x07 else s.boot.checkImage c none) ≠ 0
      then s.endUcode u (if s.boot.erased u.slot then 0x07 else s.boot.checkImage c none) 5
      else if (s.islandEntries u.island).isEmpty then s.swapBanks u
      else s.setUpdate { u with drainEnd := some (s.now + 100000) }) := by
  change execUcodeLoadDone c s = _
  rw [execUcodeLoadDone, runs]
  dsimp only
  rw [here, started]
  dsimp only
  generalize (if s.boot.erased u.slot then 0x07 else s.boot.checkImage c none) = code
  split
  · rfl
  · split <;> rfl

theorem exec_ucodeLoadDone_of_drains {t0 : Nat} (drains : u.drainEnd = some t0) :
    exec (.ucodeLoadDone c) s = .next (s.endIslandDrain u t0) := by
  change execUcodeLoadDone c s = _
  rw [execUcodeLoadDone, runs]
  dsimp only
  rw [here, drains]

end

theorem State.update_swapBanks (u : Update) :
    (s.swapBanks u).tel.update = some { u with drainEnd := none, swapped := some s.now } :=
  congrArg Telemetry.update ((State.shutIsland_within (s.setUpdate { u with drainEnd := none, swapped := some s.now })
    u.island).tel_eq (by decide))

theorem Update.without_drain {u : Update} (started : u.drainEnd = none) (t : Nat) :
    ({ u with drainEnd := none, swapped := some t } : Update) = { u with swapped := some t } := by
  cases u; cases started; rfl

theorem ucodeAnnounceTimeout_gives (h : s.canonical = true) {u : Update} {t0 : Nat} (runs : s.tel.update = some u)
    (swapped : u.swapped = some t0) : Gives .ucodeAnnounceTimeout s (fun t => t.tel.update = none
      ∧ t.now = max s.now (t0 + 10000) ∧ t.fld R.TEL_UCODE_STAT 3 0 = 5) := by
  have run : exec .ucodeAnnounceTimeout s = .next (((s.reach (t0 + 10000)).endUcode u 0 5).openIsland u.island) := by
    change execUcodeAnnounceTimeout s = _
    rw [execUcodeAnnounceTimeout, runs]
    dsimp only
    rw [swapped]
  have wf : Tbl.wf regReset (s.reach (t0 + 10000)).regs = true := by rw [State.reach_regs]; exact State.canonical.regs h
  obtain ⟨none_, now, -, -, status⟩ := State.endUcode_gives wf u (check := 0) (st := 5) (by decide) (by decide)
  have opened := State.openIsland_within ((s.reach (t0 + 10000)).endUcode u 0 5) u.island
  exact ⟨_, run, (congrArg Telemetry.update (opened.tel_eq (by decide))).trans none_,
    ((congrArg Clock.now (opened.clk_eq (by decide))).trans now).trans (State.now_reach ..),
    (State.fld_of_regs (opened.regs_eq (by decide)) _ _ _).trans status⟩

/-- Settles O56. -/
theorem pinsActionsAndHotUpdates : Obligations.PinsActionsAndHotUpdates := by
  intro s h
  refine ⟨fun kind index t0 allowed low => exec_healthActionStart_of_low allowed low,
    fun index t0 leaf allowed high boundary drains => ?_,
    fun kind index on known small => healthRead_gives h on known small,
    fun kind index on known set fits => healthPin_gives on known h set fits,
    fun kind index on known long => exec_healthPin_of_long on known long,
    fun kind index on known wf => healthUnpin_gives on known h wf,
    fun kind index t0 pinned wf => healthPinExpiry_gives pinned wf,
    fun island slot on idle some_ known free => ucodeUpdate_gives h on idle some_ known free,
    fun island slot on idle unknown => exec_ucodeUpdate_of_unknown on idle unknown,
    fun u c runs here started erased => ?_, fun u c runs here started written good => ?_,
    fun u c t0 runs here drains empty => ?_, fun u t0 runs swapped => ucodeAnnounceTimeout_gives h runs swapped⟩
  · have run := exec_healthActionStart_of_boundary (kind := 1) (index := index) allowed high boundary
    rw [show ((1 : Fin 256) : Nat) = 1 from rfl, State.startAction_of_drained leaf drains] at run
    have part := State.part_actionNoted (s := s) (partKey 1 index)
    refine ⟨_, run, ?_, ?_, ?_, State.count_actionNoted (State.canonical.cnt h) _⟩
    · rw [State.tel_actionNoted]; rfl
    · rw [part]; rfl
    · rw [part]; rfl
  · have run := exec_ucodeLoadDone_of_idle (c := c) runs here started
    rw [if_pos erased, if_pos (by decide)] at run
    obtain ⟨none_, -, idle, code, status⟩ := State.endUcode_gives (State.canonical.regs h) u (check := 7) (st := 5) (by decide)
      (by decide)
    exact ⟨_, run, none_, idle, code, status⟩
  · have run := exec_ucodeLoadDone_of_idle (c := c) runs here started
    have passed : (if s.boot.erased u.slot = true then 7 else s.boot.checkImage c none) = 0 := by rw [written]; exact good
    rw [if_neg (by rw [passed]; decide)] at run
    refine ⟨_, run, ?_⟩
    cases empty : s.islandEntries u.island with
    | nil => exact (State.update_swapBanks u).trans (congrArg some (Update.without_drain started s.now))
    | cons it l => rfl
  · have run := exec_ucodeLoadDone_of_drains (c := c) runs here drains
    refine ⟨_, run, ?_⟩
    rw [State.endIslandDrain, empty]
    exact State.update_swapBanks u

end Sys2Proof.Machine

/-!
PROOFS. Snapshots: targets, latching, completion, LOCK, isolation and release (R412 to R421).
-/
namespace Sys2Proof.Machine
variable {s : State}

/-! ## Targets (R412) -/

theorem multipleFrom_bounds (t : Nat) : multipleFrom 1000 t % 1000 = 0 ∧ t ≤ multipleFrom 1000 t
    ∧ multipleFrom 1000 t < t + 1000 := by
  unfold multipleFrom
  omega

/-- A target requested. -/
def State.requested (s : State) (x : Nat) : State := if s.tel.req.contains x then s else { s with tel := { s.tel with req := s.tel.req ++ [x] } }

theorem State.mem_requested (x : Nat) : x ∈ (s.requested x).tel.req
    ∧ ∀ y, y ∈ (s.requested x).tel.req → y ∈ s.tel.req ∨ y = x := by
  unfold State.requested
  split
  case isTrue asked => exact ⟨List.contains_iff_mem.mp asked, fun y m => .inl m⟩
  case isFalse new =>
    exact ⟨List.mem_append_right _ (List.mem_singleton_self x),
      fun y m => (List.mem_append.mp m).imp_right List.mem_singleton.mp⟩

theorem snapshotRequest_gives (on : s.on (regDomain R.TEL_SNAP_CTRL) = true) :
    Gives .snapshotRequest s (fun t => ∃ x, x ∈ t.tel.req ∧ x % 1000 = 0 ∧ s.tb0 + 2000 ≤ x ∧ x < s.tb0 + 3000
      ∧ ∀ y, y ∈ t.tel.req → y ∈ s.tel.req ∨ y = x) := by
  have run : exec .snapshotRequest s
    = .next (s.gate R.TEL_SNAP_CTRL (fun s => s.requested (multipleFrom 1000 (s.tb0 + 2000)))) := rfl
  rw [State.gate_on on] at run
  obtain ⟨whole, low, high⟩ := multipleFrom_bounds (s.tb0 + 2000)
  obtain ⟨mem, only⟩ := State.mem_requested (s := s) (multipleFrom 1000 (s.tb0 + 2000))
  exact ⟨_, run, _, mem, whole, low, by omega, only⟩

/-! ## Latching (R413, R415) -/

/-- The state at a target, its counters settled. -/
def State.atTarget (s : State) (x : Nat) : State := (s.reach (s.atTb0 x)).settleCounters

theorem State.tel_atTarget (x : Nat) : (s.atTarget x).tel = s.tel :=
  ((State.settleCounters_within _).tel_eq (by decide)).trans (State.tel_reach _)

theorem State.now_of_clk {t : State} (same : t.clk = s.clk) : t.now = s.now := by rw [State.now, State.now, same]

theorem State.now_atTarget (x : Nat) : (s.atTarget x).now = max s.now (s.atTb0 x) := by
  have settled := (State.settleCounters_within (s.reach (s.atTb0 x))).clk_eq (by decide)
  rw [State.atTarget, State.now_of_clk settled, State.now_reach]

theorem exec_snapshotTarget_of_next {x : Nat} (on : s.on 2 = true) (next : s.nextTarget = some x) :
    exec .snapshotTarget s = .next ((s.atTarget x).latchTarget x) := by
  change execSnapshotTarget s = _
  rw [execSnapshotTarget, on, if_neg (by decide), next]
  rfl

theorem State.mem_imbalances {b : Balance} (h : b ∈ s.imbalances) : b.diff ≠ 0 :=
  bne_iff_ne.mp (List.mem_filter.mp h).2

theorem State.latchTarget_of_free (free : s.tel.cur = none) (x : Nat) :
    (s.latchTarget x).tel.lastTarget = some x ∧ (s.latchTarget x).tel.req = s.tel.req.filter (· != x)
      ∧ (s.latchTarget x).tel.causes = [] ∧ (s.latchTarget x).clk = s.clk ∧ (s.latchTarget x).tel.cur = some (s.latch x) := by
  unfold State.latchTarget
  extract_lets tel
  rw [free]
  exact ⟨rfl, rfl, rfl, rfl, rfl⟩

theorem State.latch_facts (x : Nat) : (s.latch x).target = x ∧ (s.latch x).causes = s.tel.causes
    ∧ ∀ b, b ∈ (s.latch x).ledger → b.diff ≠ 0 := by
  rw [State.latch]
  exact ⟨rfl, rfl, fun b => State.mem_imbalances (s := s)⟩

/-- A target at which no snapshot is latched. -/
def State.targetSkipped (s : State) (x : Nat) : State :=
  { s with tel := { s.tel with req := s.tel.req.filter (· != x), lastTarget := some x, skipped := true } }

theorem State.latchTarget_of_busy {c : Snap} (busy : s.tel.cur = some c) (x : Nat) :
    s.latchTarget x = (s.targetSkipped x).bump C.TEL_SNAP_SKIPPED 1 := by
  rw [State.latchTarget, if_pos (by rw [busy]; rfl)]
  rfl

theorem State.tel_latchTarget_of_busy {c : Snap} (busy : s.tel.cur = some c) (x : Nat) :
    (s.latchTarget x).tel = { s.tel with req := s.tel.req.filter (· != x), lastTarget := some x, skipped := true } := by
  rw [State.latchTarget_of_busy busy]
  exact (State.bump_within _ C.TEL_SNAP_SKIPPED 1).tel_eq (by decide)

/-! ## Completion (R414 to R417, R420) -/

theorem State.tel_deliverSnap (c : Snap) (violated storage : Bool) :
    ∃ b, (s.deliverSnap c violated storage).tel = { s.tel with skipped := b } := by
  unfold State.deliverSnap
  extract_lets t u
  split
  · have same : u.tel = s.tel := (State.writeAux_within _ _ _).tel_eq (by decide)
    exact ⟨false, congrArg (fun tel : Telemetry => { tel with skipped := false }) same⟩
  · exact ⟨s.tel.skipped, rfl⟩

/-- The snapshot in progress published and recorded. -/
def State.snapPublished (s : State) (c : Snap) (violated storage : Bool) : State :=
  (({ s with tel := { s.tel with cur := none, seq := c.seq } } : State).publish c).deliverSnap c violated storage

/-- The causes of a snapshot told. -/
def State.causesTold (s : State) (c : Snap) (storage : Bool) : State :=
  let s := if c.causes.isEmpty then s else s.bump C.TEL_INCONSISTENT 1
  let s := forEach (fun (x : Nat × Option Nat) (s : State) =>
    s.raise { code := 0x0902, sev := 1, kind := if x.2.isSome then 0x10 else 0x0F, index := x.2.getD 0, arg0 := x.1 }) c.causes s
  if storage then s.raise { code := 0x0902, sev := 1, kind := 0x10, index := 3, arg0 := 3 } else s

theorem State.causesTold_within (c : Snap) (storage : Bool) : Within 939524100 s (s.causesTold c storage) := by
  have counted : Within 939524100 s (if c.causes.isEmpty then s else s.bump C.TEL_INCONSISTENT 1) := by
    split
    · exact Within.refl _ _
    · exact State.bump_step (by decide) (Within.refl _ _)
  have told := Within.stepEach (l := c.causes) (f := fun (x : Nat × Option Nat) (s : State) =>
    s.raise { code := 0x0902, sev := 1, kind := if x.2.isSome then 0x10 else 0x0F, index := x.2.getD 0, arg0 := x.1 })
    (fun _ t => State.raise_within t _) counted
  unfold State.causesTold
  dsimp only
  split
  · exact State.raise_step (by decide) told
  · exact told

/-- The telemetry state once a snapshot is published. -/
def State.telPublished (s : State) (c : Snap) : Telemetry :=
  (({ s with tel := { s.tel with cur := none, seq := c.seq } } : State).publish c).tel

theorem State.tel_causesTold (c : Snap) (violated storage : Bool) :
    ∃ b, ((s.snapPublished c violated storage).causesTold c storage).tel = { s.telPublished c with skipped := b } := by
  obtain ⟨b, same⟩ := State.tel_deliverSnap (s := ({ s with tel := { s.tel with cur := none, seq := c.seq } } : State).publish c)
    c violated storage
  exact ⟨b, ((State.causesTold_within c storage).tel_eq (by decide)).trans same⟩

theorem State.regs_causesTold (c : Snap) (violated storage : Bool) :
    ((s.snapPublished c violated storage).causesTold c storage).regs = s.regs := by
  have published : (({ s with tel := { s.tel with cur := none, seq := c.seq } } : State).publish c).regs = s.regs := by
    unfold State.publish
    split <;> rfl
  exact ((State.causesTold_within c storage).regs_eq (by decide)).trans
    (((State.deliverSnap_within _ _ _ _).regs_eq (by decide)).trans published)

theorem State.telPublished_of_open (open_ : s.tel.lockEnd = none) (c : Snap) :
    s.telPublished c = { s.tel with cur := none, seq := c.seq, pub := some c, newest := none } := by
  rw [State.telPublished, State.publish, if_neg (by rw [open_]; decide)]

theorem State.telPublished_of_locked {t0 : Nat} (locked : s.tel.lockEnd = some t0) (c : Snap) :
    s.telPublished c = { s.tel with cur := none, seq := c.seq, newest := some c } := by
  rw [State.telPublished, State.publish, if_pos (by rw [locked]; rfl)]

/-- A snapshot with the next SEQ. -/
def State.numberedSnap (s : State) (c : Snap) : Snap := { c with seq := (s.tel.seq + 1) % 2 ^ 32 }

theorem exec_snapshotComplete_of_cur {c : Snap} (cur : s.tel.cur = some c) (up : s.dieLinkUp 22 = true)
    (fails : List Violation) (storage : Bool) : exec (.snapshotComplete fails storage) s
      = .next (forEach (fun v (t : State) => t.violate ((s.tel.seq + 1) % 2 ^ 32) v) (c.violations fails)
        ((s.snapPublished (s.numberedSnap c) (!(c.violations fails).isEmpty) storage).causesTold (s.numberedSnap c) storage)) := by
  change execSnapshotComplete fails storage s = _
  rw [execSnapshotComplete, cur]
  dsimp only
  rw [up, if_neg (by decide)]
  rfl

theorem exec_snapshotComplete_of_down (down : s.dieLinkUp 22 = false) (fails : List Violation) (storage : Bool) :
    exec (.snapshotComplete fails storage) s = .next s := by
  change execSnapshotComplete fails storage s = _
  unfold execSnapshotComplete
  split
  · rfl
  · rw [down]
    rfl

section
variable {c : Snap} (cur : s.tel.cur = some c) (up : s.dieLinkUp 22 = true)
include cur up

theorem exec_snapshotComplete_of_clean (clean : c.violations [] = []) : exec (.snapshotComplete [] false) s
    = .next ((s.snapPublished (s.numberedSnap c) false false).causesTold (s.numberedSnap c) false) := by
  rw [exec_snapshotComplete_of_cur cur up, clean]
  rfl

theorem exec_snapshotComplete_of_one {fails : List Violation} {v : Balance} (one : c.violations fails = [v]) :
    exec (.snapshotComplete fails false) s
      = .next (((s.snapPublished (s.numberedSnap c) true false).causesTold (s.numberedSnap c) false).violate
        ((s.tel.seq + 1) % 2 ^ 32) v) := by
  rw [exec_snapshotComplete_of_cur cur up, one]
  rfl

end

/-! ## The spill identity's violation (R418, R419) -/

/-- The registers of a violation of the spill identity. -/
def State.spillShown (s : State) : State :=
  ((s.setF R.TEL_LEDGER_UNIT 31 24 0x10).setF R.TEL_LEDGER_UNIT 23 0 111).setF R.TEL_LEDGER_STAT 31 24 4

/-- A violation of the spill identity counted and told. -/
def State.spillRaised (s : State) (seq : Nat) (diff : Int) : State :=
  (s.spillShown.bump C.TEL_LEDGER_FAILS 1).raise
    { code := 0x0901, sev := 3, kind := 0x10, index := 111, arg0 := 4, arg1 := fieldOfInt 32 diff, arg2 := seq }

theorem State.tel_spillShown : s.spillShown.tel = s.tel := by
  rw [State.spillShown, State.setF_tel, State.setF_tel, State.setF_tel]

theorem State.spillRaised_within (seq : Nat) (diff : Int) : Within 939524100 s.spillShown (s.spillRaised seq diff) := by
  rw [State.spillRaised]
  exact State.raise_step (by decide) (State.bump_step (by decide) (Within.refl _ _))

/-- Easel's island isolated. -/
def State.easelIsolated (s : State) : State :=
  (({ s with tel := { s.tel with isolated := s.tel.isolated ++ [(0x10, 111)] } } : State).shutIsland 111).discardSpill

theorem islandLink_111 : islandLink 111 = none := by decide

theorem State.isolateEffect_111 : s.isolateEffect 0x10 111 = (s.shutIsland 111).discardSpill := by
  change s.islandLost 111 = _
  unfold State.islandLost
  rw [islandLink_111]
  rfl

theorem State.easelIsolated_frame : s.easelIsolated.regs = s.regs ∧ s.easelIsolated.tel.isolated = s.tel.isolated ++ [(0x10, 111)] := by
  have shut := State.shutIsland_within ({ s with tel := { s.tel with isolated := s.tel.isolated ++ [(0x10, 111)] } } : State) 111
  have gone := State.discardSpill_within
    (({ s with tel := { s.tel with isolated := s.tel.isolated ++ [(0x10, 111)] } } : State).shutIsland 111)
  exact ⟨(gone.regs_eq (by decide)).trans (shut.regs_eq (by decide)),
    congrArg Telemetry.isolated ((gone.tel_eq (by decide)).trans (shut.tel_eq (by decide)))⟩

theorem State.tel_spillRaised (seq : Nat) (diff : Int) : (s.spillRaised seq diff).accountPlanes.tel = s.tel := by
  have planes := (State.accountPlanes_within (s.spillRaised seq diff)).tel_eq (by decide)
  have raised := (s.spillRaised_within seq diff).tel_eq (by decide)
  rw [planes, raised, State.tel_spillShown]

theorem State.regs_spillRaised (seq : Nat) (diff : Int) : (s.spillRaised seq diff).accountPlanes.regs = s.spillShown.regs := by
  have planes := (State.accountPlanes_within (s.spillRaised seq diff)).regs_eq (by decide)
  rw [planes, (s.spillRaised_within seq diff).regs_eq (by decide)]

theorem State.isolate_easel (free : s.tel.isolated.contains (0x10, 111) = false) :
    s.isolate 0x10 111 = s.accountPlanes.easelIsolated := by
  rw [State.isolate, free, if_neg (by decide)]
  exact State.isolateEffect_111

/-- A violation of the spill identity, while Easel's island works. -/
theorem State.violate_spill (seq : Nat) {v : Balance} (code : v.code = 4) (kind : v.kind = 0x10) (index : v.index = 111)
    (free : s.tel.isolated.contains (0x10, 111) = false) :
    s.violate seq v = (s.spillRaised seq v.diff).accountPlanes.easelIsolated := by
  obtain ⟨c, k, i, diff⟩ := v
  cases code
  cases kind
  cases index
  have tel := ((s.spillRaised_within seq diff).tel_eq (by decide)).trans State.tel_spillShown
  have run : s.violate seq ⟨4, 0x10, 111, diff⟩ = (s.spillRaised seq diff).isolate 0x10 111 := rfl
  rw [run]
  generalize s.spillRaised seq diff = u at tel
  exact State.isolate_easel (by rw [tel]; exact free)

theorem Word.spillUnit (w : Word) : (w.setFld 31 24 0x10).setFld 23 0 111 = BitVec.ofNat 32 (0x10 * 2 ^ 24 + 111) := by
  apply BitVec.eq_of_toNat_eq
  have bound := w.isLt
  simp only [Word.setFld, BitVec.toNat_ofNat]
  omega

/-- What the registers show of it. -/
theorem State.fld_spillShown (h : Tbl.wf regReset s.regs = true) : s.spillShown.fld R.TEL_LEDGER_STAT 31 24 = 4
    ∧ s.spillShown.fld R.TEL_LEDGER_UNIT 31 0 = 0x10 * 2 ^ 24 + 111 := by
  have wf1 := State.setF_regs_wf h R.TEL_LEDGER_UNIT 31 24 0x10
  have wf2 := State.setF_regs_wf wf1 R.TEL_LEDGER_UNIT 23 0 111
  have unit : (((s.rd R.TEL_LEDGER_UNIT).setFld 31 24 0x10).setFld 23 0 111) = BitVec.ofNat 32 (0x10 * 2 ^ 24 + 111) := by
    exact Word.spillUnit _
  refine ⟨State.fld_setF_self wf2 _ (by decide) (by decide) (by decide), ?_⟩
  rw [State.spillShown, State.fld_setF_ne wf2 _ _ _ _ _ (by decide), State.fld, State.rd_setF_self wf1, State.rd_setF_self h, unit]
  rfl

theorem snapshotComplete_gives_spill (h : s.canonical = true) {c : Snap} {fails : List Violation} {v : Balance}
    (cur : s.tel.cur = some c) (up : s.dieLinkUp 22 = true) (one : c.violations fails = [v]) (code : v.code = 4)
    (kind : v.kind = 0x10) (index : v.index = 111) (free : s.tel.isolated.contains (0x10, 111) = false) :
    Gives (.snapshotComplete fails false) s (fun t => t.tel.isolated = s.tel.isolated ++ [(0x10, 111)]
      ∧ t.fld R.TEL_LEDGER_STAT 31 24 = 4 ∧ t.fld R.TEL_LEDGER_UNIT 31 0 = 0x10 * 2 ^ 24 + 111) := by
  have run := exec_snapshotComplete_of_one cur up one
  obtain ⟨b, tel⟩ := State.tel_causesTold (s := s) (s.numberedSnap c) true false
  have regs := State.regs_causesTold (s := s) (s.numberedSnap c) true false
  have same : (s.telPublished (s.numberedSnap c)).isolated = s.tel.isolated := by
    unfold State.telPublished State.publish
    split <;> rfl
  generalize (s.snapPublished (s.numberedSnap c) true false).causesTold (s.numberedSnap c) false = u at run tel regs
  have isolated : u.tel.isolated = s.tel.isolated := by rw [tel]; exact same
  have wf : Tbl.wf regReset u.regs = true := by rw [regs]; exact State.canonical.regs h
  rw [State.violate_spill _ code kind index (by rw [isolated]; exact free)] at run
  have kept := (State.tel_spillRaised (s := u) ((s.tel.seq + 1) % 2 ^ 32) v.diff)
  have shown := State.regs_spillRaised (s := u) ((s.tel.seq + 1) % 2 ^ 32) v.diff
  generalize (u.spillRaised ((s.tel.seq + 1) % 2 ^ 32) v.diff).accountPlanes = x at run kept shown
  obtain ⟨after, gone⟩ := State.easelIsolated_frame (s := x)
  obtain ⟨stat, unit⟩ := State.fld_spillShown wf
  have fields := State.fld_of_regs (after.trans shown)
  exact ⟨_, run, by rw [gone, kept, isolated], (fields _ _ _).trans stat, (fields _ _ _).trans unit⟩

/-! ## LOCK (R416) -/

/-- The state with another telemetry state. -/
def State.withTel (s : State) (tel : Telemetry) : State := { s with tel := tel }

theorem State.withTel_tel (s : State) (tel : Telemetry) : (s.withTel tel).tel = tel := rfl

theorem State.withTel_regs (s : State) (tel : Telemetry) : (s.withTel tel).regs = s.regs := rfl

theorem State.withTel_clk (s : State) (tel : Telemetry) : (s.withTel tel).clk = s.clk := rfl

/-- LOCK clear, with a telemetry state of its own. -/
def State.unlockedWith (s : State) (tel : Telemetry) : State := (s.setF R.TEL_SNAP_CTRL 30 30 0).withTel tel

theorem State.unlock_eq_of_newest {c : Snap} (newest : s.tel.newest = some c) :
    s.unlock = s.unlockedWith { s.tel with lockEnd := none, pub := some c, newest := none } := by
  rw [State.unlock, newest]
  rfl

theorem State.unlock_eq_of_none (newest : s.tel.newest = none) : s.unlock = s.unlockedWith { s.tel with lockEnd := none, newest := none } := by
  rw [State.unlock, newest]
  rfl

theorem State.unlock_of_newest {c : Snap} (newest : s.tel.newest = some c) :
    s.unlock.tel = { s.tel with lockEnd := none, pub := some c, newest := none } :=
  congrArg State.tel (State.unlock_eq_of_newest newest)

theorem State.unlock_of_none (newest : s.tel.newest = none) : s.unlock.tel = { s.tel with lockEnd := none, newest := none } :=
  congrArg State.tel (State.unlock_eq_of_none newest)

theorem State.unlock_eq (s : State) : ∃ tel, s.unlock = s.unlockedWith tel := by
  cases newest : s.tel.newest with
  | none => exact ⟨_, State.unlock_eq_of_none newest⟩
  | some c => exact ⟨_, State.unlock_eq_of_newest newest⟩

theorem State.fld_unlock (h : Tbl.wf regReset s.regs = true) : s.unlock.fld R.TEL_SNAP_CTRL 30 30 = 0 := by
  obtain ⟨tel, run⟩ := State.unlock_eq s
  rw [run, State.unlockedWith, State.fld_of_regs (State.withTel_regs _ tel)]
  exact State.fld_setF_self h _ (by decide) (by decide) (by decide)

theorem State.clk_unlock : s.unlock.clk = s.clk := by
  obtain ⟨tel, run⟩ := State.unlock_eq s
  rw [run, State.unlockedWith, State.withTel_clk, State.setF_clk]

/-- LOCK's end noted. -/
def State.lockTimed (s : State) : State := { s with tel := { s.tel with lockEnd := some (s.tel.lockEnd.getD (s.now + 10000000)) } }

theorem State.lockTimed_regs (s : State) : s.lockTimed.regs = s.regs := rfl

theorem State.lockTimed_tel (s : State) (open_ : s.tel.lockEnd = none) : s.lockTimed.tel.lockEnd = some (s.now + 10000000)
    ∧ s.lockTimed.tel.pub = s.tel.pub := by
  rw [State.lockTimed, open_]
  exact ⟨rfl, rfl⟩

theorem exec_snapshotLock_eq : exec .snapshotLock s
    = .next (s.gate R.TEL_SNAP_CTRL (fun s => (s.setF R.TEL_SNAP_CTRL 30 30 1).lockTimed)) := rfl

theorem snapshotLock_gives (h : s.canonical = true) (on : s.on (regDomain R.TEL_SNAP_CTRL) = true)
    (open_ : s.tel.lockEnd = none) : Gives .snapshotLock s (fun t => t.fld R.TEL_SNAP_CTRL 30 30 = 1
      ∧ t.tel.lockEnd = some (s.now + 10000000) ∧ t.tel.pub = s.tel.pub) := by
  have run := exec_snapshotLock_eq (s := s)
  rw [State.gate_on on] at run
  have shown := State.fld_setF_self (State.canonical.regs h) R.TEL_SNAP_CTRL (hi := 30) (lo := 30) (v := 1) (by decide)
    (by decide) (by decide)
  have tel := State.setF_tel s R.TEL_SNAP_CTRL 30 30 1
  have now : (s.setF R.TEL_SNAP_CTRL 30 30 1).now = s.now := State.now_of_clk (State.setF_clk s R.TEL_SNAP_CTRL 30 30 1)
  generalize s.setF R.TEL_SNAP_CTRL 30 30 1 = u at run shown tel now
  obtain ⟨end_, pub⟩ := State.lockTimed_tel u (by rw [tel]; exact open_)
  exact ⟨_, run, (State.fld_of_regs (State.lockTimed_regs u) _ _ _).trans shown, by rw [end_, now], by rw [pub, tel]⟩

/-! ## Release (R421) -/

theorem execIsolationRelease_eq (kind : Fin 128) (index : Fin 16777216) : exec (.isolationRelease kind index) s
    = .next (s.gate R.TEL_ISO_CMD (fun s =>
      if !unitKnown kind index then s.status R.TEL_ISO_STAT 3
      else if !s.tel.isolated.contains (kind.val, index.val) then s.status R.TEL_ISO_STAT 4
      else
        let s := (s.accountPlanes).status R.TEL_ISO_STAT 0
        ({ s with tel := { s.tel with isolated := s.tel.isolated.filter (· != (kind.val, index.val)),
                                      planeBase := if kind.val = 3 ∧ index.val = 16 then none else s.tel.planeBase } } : State).releaseEffect
          kind index)) := rfl

theorem State.islandBack_111 : s.islandBack 111 = s.openCrossings := by
  have engines : islandEngines 111 = [] := by decide
  have noStacks : islandStacks 111 = [] := by decide
  unfold State.islandBack
  extract_lets u
  rw [islandLink_111, engines, noStacks]
  dsimp only
  rw [if_neg (by decide), if_neg (by decide), if_neg (by rintro ⟨-, h⟩; exact absurd h (by decide)), if_neg (by decide)]

theorem exec_isolationRelease_of_unknown {kind : Fin 128} {index : Fin 16777216} (on : s.on (regDomain R.TEL_ISO_CMD) = true)
    (unknown : unitKnown kind index = false) :
    exec (.isolationRelease kind index) s = .next (s.status R.TEL_ISO_STAT 3) := by
  rw [execIsolationRelease_eq, State.gate_on on, unknown]
  rfl

section
variable {kind : Fin 128} {index : Fin 16777216} (on : s.on (regDomain R.TEL_ISO_CMD) = true)
  (known : unitKnown kind index = true)
include on known

theorem exec_isolationRelease_of_free (free : s.tel.isolated.contains (kind.val, index.val) = false) :
    exec (.isolationRelease kind index) s = .next (s.status R.TEL_ISO_STAT 4) := by
  rw [execIsolationRelease_eq, State.gate_on on, known, free]
  rfl

/-- An isolated unit no longer held. -/
def State.isolationLifted (s : State) (kind index : Nat) : State :=
  { s with tel := { s.tel with isolated := s.tel.isolated.filter (· != (kind, index)),
                               planeBase := if kind = 3 ∧ index = 16 then none else s.tel.planeBase } }

theorem exec_isolationRelease_of_held (held : s.tel.isolated.contains (kind.val, index.val) = true) :
    exec (.isolationRelease kind index) s
      = .next (((s.accountPlanes.status R.TEL_ISO_STAT 0).isolationLifted kind index).releaseEffect kind index) := by
  rw [execIsolationRelease_eq, State.gate_on on, known, held]
  rfl

end

theorem portOfUnit_easel : portOfUnit 0x10 111 = none := by decide

theorem State.releaseEffect_easel : s.releaseEffect 0x10 111 = s.openCrossings := by
  rw [State.releaseEffect, portOfUnit_easel]
  dsimp only
  rw [if_neg (by decide), if_neg (by decide), if_pos rfl, State.islandBack_111]

theorem State.regs_isolationLifted (kind index : Nat) : (s.isolationLifted kind index).regs = s.regs := rfl

theorem State.isolated_isolationLifted (kind index : Nat) :
    (s.isolationLifted kind index).tel.isolated = s.tel.isolated.filter (· != (kind, index)) := rfl

theorem isolationRelease_gives {kind : Fin 128} {index : Fin 16777216} (easel : kind.val = 0x10) (island : index.val = 111)
    (h : s.canonical = true) (on : s.on (regDomain R.TEL_ISO_CMD) = true)
    (held : s.tel.isolated.contains (0x10, 111) = true) :
    Gives (.isolationRelease kind index) s (fun t => t.fld R.TEL_ISO_STAT 3 0 = 0
      ∧ t.tel.isolated = s.tel.isolated.filter (· != (0x10, 111))) := by
  have run := exec_isolationRelease_of_held (kind := kind) (index := index) on (by rw [easel, island]; decide)
    (by rw [easel, island]; exact held)
  rw [easel, island, State.releaseEffect_easel] at run
  have planes := State.accountPlanes_within s
  have wf : Tbl.wf regReset s.accountPlanes.regs = true := by rw [planes.regs_eq (by decide)]; exact State.canonical.regs h
  have tel : (s.accountPlanes.status R.TEL_ISO_STAT 0).tel = s.tel := by
    rw [State.status, State.setF_tel, planes.tel_eq (by decide)]
  have shown := State.fld_status_self wf R.TEL_ISO_STAT (v := 0) (by decide)
  generalize s.accountPlanes.status R.TEL_ISO_STAT 0 = u at run tel shown
  have opened := State.openCrossings_within (u.isolationLifted 0x10 111)
  have regs : (u.isolationLifted 0x10 111).openCrossings.regs = u.regs :=
    (opened.regs_eq (by decide)).trans (State.regs_isolationLifted _ _)
  have gone := (congrArg Telemetry.isolated (opened.tel_eq (by decide))).trans (State.isolated_isolationLifted 0x10 111)
  rw [tel] at gone
  exact ⟨_, run, (State.fld_of_regs regs _ _ _).trans shown, gone⟩

/-! ## High-water marks (R410) -/

theorem queueHwmClear_gives {egress : Fin 1094} {tc : Fin 8} (on : s.on (regDomain (R.TEL_QHWM egress tc)) = true)
    (wf : Tbl.wf (fun _ => EQueue.empty) s.dp.queues = true) : Gives (.queueHwmClear egress tc) s (fun t =>
      t.queue (qKey egress tc) = { s.queue (qKey egress tc) with hwm := (s.queue (qKey egress tc)).occupancy }
      ∧ ∀ k, k ≠ qKey egress tc → t.queue k = s.queue k) := by
  have run : exec (.queueHwmClear egress tc) s = .next (s.gate (R.TEL_QHWM egress tc) (fun s =>
    s.setQueue (qKey egress tc) { s.queue (qKey egress tc) with hwm := (s.queue (qKey egress tc)).occupancy })) := rfl
  rw [State.gate_on on] at run
  exact ⟨_, run, Tbl.get_put_self wf _ _, fun k ne => Tbl.get_put_ne wf _ ne⟩

/-- Settles O54. -/
theorem snapshotsAreTakenAndPublished : Obligations.SnapshotsAreTakenAndPublished := by
  intro s h
  have regs := State.canonical.regs h
  refine ⟨snapshotRequest_gives, fun x on next free => ?_, fun x c on next busy => ?_, fun c cur up open_ clean => ?_,
    fun fails storage down => exec_snapshotComplete_of_down down fails storage, fun c t0 cur up locked clean => ?_,
    fun c fails v cur up one code kind index free => snapshotComplete_gives_spill h cur up one code kind index free,
    fun on open_ => snapshotLock_gives h on open_, fun c on newest => ?_, fun t0 locked newest => ?_,
    fun kind index => exec_isolationRelease_of_unknown, fun kind index => exec_isolationRelease_of_free, isolationRelease_gives rfl rfl h,
    fun egress tc on wf => queueHwmClear_gives on wf⟩
  · have run := exec_snapshotTarget_of_next on next
    have tel := State.tel_atTarget (s := s) x
    have now := State.now_atTarget (s := s) x
    generalize s.atTarget x = u at run tel now
    obtain ⟨last, req, causes, clk, cur⟩ := State.latchTarget_of_free (s := u) (by rw [tel]; exact free) x
    obtain ⟨target, told, sound⟩ := State.latch_facts (s := u) x
    rw [tel] at req told
    exact ⟨_, run, last, req, causes, (State.now_of_clk clk).trans now, _, cur, target, told, sound⟩
  · have run := exec_snapshotTarget_of_next on next
    have tel := State.tel_atTarget (s := s) x
    generalize s.atTarget x = u at run tel
    have after := State.tel_latchTarget_of_busy (s := u) (by rw [tel]; exact busy) x
    refine ⟨_, run, ?_, ?_, ?_, ?_⟩
    · exact (congrArg Telemetry.cur after).trans ((congrArg Telemetry.cur tel).trans busy)
    · exact congrArg Telemetry.skipped after
    · exact congrArg Telemetry.lastTarget after
    · have pub : u.tel.pub = s.tel.pub := congrArg Telemetry.pub tel
      exact (congrArg Telemetry.pub after).trans pub
  · have run := exec_snapshotComplete_of_clean cur up clean
    obtain ⟨b, tel⟩ := State.tel_causesTold (s := s) (s.numberedSnap c) false false
    rw [State.telPublished_of_open open_] at tel
    exact ⟨_, run, by rw [tel], by rw [tel]; rfl, by rw [tel]; rfl, by rw [tel]⟩
  · have run := exec_snapshotComplete_of_clean cur up clean
    obtain ⟨b, tel⟩ := State.tel_causesTold (s := s) (s.numberedSnap c) false false
    rw [State.telPublished_of_locked locked] at tel
    exact ⟨_, run, by rw [tel], by rw [tel], by rw [tel]; rfl⟩
  · have run : exec .snapshotUnlock s = .next (s.gate R.TEL_SNAP_CTRL State.unlock) := rfl
    rw [State.gate_on on] at run
    have tel := State.unlock_of_newest newest
    exact ⟨_, run, State.fld_unlock regs, by rw [tel], by rw [tel], by rw [tel]⟩
  · have run : exec .snapshotLockExpiry s = .next (s.reach t0).unlock := by
      change execSnapshotLockExpiry s = _
      rw [execSnapshotLockExpiry, locked]
    have same := State.tel_reach (s := s) t0
    have wf : Tbl.wf regReset (s.reach t0).regs = true := by rw [State.reach_regs]; exact regs
    have tel := State.unlock_of_none (s := s.reach t0) (by rw [same]; exact newest)
    exact ⟨_, run, (State.now_of_clk State.clk_unlock).trans (State.now_reach ..), State.fld_unlock wf, by rw [tel],
      by rw [tel, same]⟩

end Sys2Proof.Machine

/-!
PROOFS. Headers into and out of the header queues (R77 to R79), and the drops at ingress (R67).
-/
namespace Sys2Proof.Machine
variable {s : State}

/-! ## Counting a cycle -/

theorem State.dp_countCycle (off : Nat) : (s.countCycle off).dp = s.dp := (State.countCycle_within s off).dp_eq (by decide)

/-- A cycle that is not counted yet is counted once. -/
theorem State.count_countCycle {off : Nat} (h : Tbl.wf (fun _ => 0) s.cnt = true)
    (due : Tbl.get (fun _ => 0) s.cyc off ≤ cycle16 s.now) :
    (s.countCycle off).count off = (s.count off + 1) % 2 ^ 64 := by
  have run : (s.countCycle off).cnt = (s.bump off 1).cnt := by
    rw [State.countCycle, State.countCycles, Nat.max_eq_left due, if_pos (Nat.lt_succ_self _), Nat.add_sub_cancel_left]
    rfl
  rw [State.count_of_cnt run]
  exact State.count_bump_self h off 1

/-! ## Into a header queue (R79) -/

/-- A header in its part of the header queue. -/
def State.headerIn (s : State) (port : Nat) (it : Item) : State :=
  (s.setRx port ((s.rx port).filter (fun x => x.id != it.id))).setHq (pvKey port it.vc) (s.hq (pvKey port it.vc) ++ [it])

theorem State.headerIn_frame (port : Nat) (it : Item) :
    (s.headerIn port it).hq (pvKey port it.vc) = s.hq (pvKey port it.vc) ++ [it]
      ∧ (s.headerIn port it).dp.rx = Tbl.put (fun _ => []) s.dp.rx port ((s.rx port).filter (fun x => x.id != it.id))
      ∧ (s.headerIn port it).cnt = s.cnt ∧ (s.headerIn port it).cyc = s.cyc ∧ (s.headerIn port it).clk = s.clk :=
  ⟨Tbl.get_put_of_ne_default (d := fun _ => []) s.dp.hq _ (List.append_ne_nil_of_right_ne_nil _ (List.cons_ne_nil _ _)),
    rfl, rfl, rfl, rfl⟩

/-- The stall of a pipeline counted where a header stands before. -/
def State.stallBehind (s : State) (port k : Nat) : State :=
  if 1 < (s.hq k).length then s.countCycle (C.PL_HDR_STALL (pipeOf port)) else s

theorem State.dp_stallBehind (port k : Nat) : (s.stallBehind port k).dp = s.dp := by
  unfold State.stallBehind
  split
  · exact State.dp_countCycle _
  · rfl

theorem exec_headerArrival_of_none {port : Fin 1089} (none_ : s.arriving port = none) :
    exec (.headerArrival port) s
      = .next (if s.headerWaits (pipeOf port) then s.countCycle (C.PL_HDR_STALL (pipeOf port)) else s) := by
  change execHeaderArrival port s = _
  rw [execHeaderArrival, none_, ite_self]

section
variable {port : Fin 1089} {it : Item} (free : s.islandHeld (6 + pipeOf port) = false) (head : s.arriving port = some it)
include free head

theorem exec_headerArrival_of_port (leaf : port.val < 1088) : exec (.headerArrival port) s
    = .next ((s.headerIn port it).stallBehind port (pvKey port it.vc)) := by
  have other : (port.val == 1088) = false := beq_eq_false_iff_ne.mpr (Nat.ne_of_lt leaf)
  change execHeaderArrival port s = _
  rw [execHeaderArrival, free, head, other]
  rfl

/-- A header in PL17's queue, its cells charged. -/
def State.headerIn17 (s : State) (port : Nat) (it : Item) : State :=
  let s := (s.setRx port ((s.rx port).filter (fun x => x.id != it.id))).setHq (pvKey port it.vc)
    (s.hq (pvKey port it.vc) ++ [{ it with charge := .reserved }])
  { s with dp := { s.dp with inRsv := addAt s.dp.inRsv (pvKey port it.vc) it.n } }

theorem exec_headerArrival_of_pl17 (hub : port.val = 1088) : exec (.headerArrival port) s
    = .next ((s.headerIn17 port it).stallBehind port (pvKey port it.vc)) := by
  have own : (port.val == 1088) = true := beq_iff_eq.mpr hub
  change execHeaderArrival port s = _
  rw [execHeaderArrival, free, head, own]
  rfl

end

theorem State.headerIn17_frame (port : Nat) (it : Item) :
    (s.headerIn17 port it).hq (pvKey port it.vc) = s.hq (pvKey port it.vc) ++ [{ it with charge := .reserved }]
      ∧ (s.headerIn17 port it).dp.inRsv = addAt s.dp.inRsv (pvKey port it.vc) it.n :=
  ⟨Tbl.get_put_of_ne_default (d := fun _ => []) s.dp.hq _ (List.append_ne_nil_of_right_ne_nil _ (List.cons_ne_nil _ _)), rfl⟩

theorem State.arriving_of_leaf {port : Nat} (leaf : port < 1088) :
    s.arriving port = (s.rx port).find? (fun x => decide ((s.hq (pvKey port x.vc)).length < 16)) := by
  have other : (port != 1088) = true := bne_iff_ne.mpr (Nat.ne_of_lt leaf)
  rw [State.arriving, other]
  simp only [Bool.true_or, Bool.and_true]

theorem State.arriving_of_pl17 : s.arriving 1088
    = (s.rx 1088).find? (fun x => decide ((s.hq (pvKey 1088 x.vc)).length < 16) && s.pl17Room x.vc x.n) := rfl

theorem headerArrival_gives (h : s.canonical = true) {port : Fin 1089} {it : Item} (leaf : port.val < 1088)
    (free : s.islandHeld (6 + pipeOf port) = false) (head : s.arriving port = some it) :
    Gives (.headerArrival port) s (fun t => t.hq (pvKey port it.vc) = s.hq (pvKey port it.vc) ++ [it]
      ∧ t.dp.rx = Tbl.put (fun _ => []) s.dp.rx port ((s.rx port).filter (fun x => x.id != it.id))
      ∧ (s.hq (pvKey port it.vc) = [] → t.cnt = s.cnt)
      ∧ (s.hq (pvKey port it.vc) ≠ [] → Tbl.get (fun _ => 0) s.cyc (C.PL_HDR_STALL (pipeOf port)) ≤ cycle16 s.now →
          t.count (C.PL_HDR_STALL (pipeOf port)) = (s.count (C.PL_HDR_STALL (pipeOf port)) + 1) % 2 ^ 64)) := by
  have run := exec_headerArrival_of_port free head leaf
  obtain ⟨hq, rx, cnt, cyc, clk⟩ := State.headerIn_frame (s := s) port it
  generalize s.headerIn port it = u at run hq rx cnt cyc clk
  have dp := State.dp_stallBehind (s := u) port (pvKey port it.vc)
  have kept : (u.stallBehind port (pvKey port it.vc)).hq (pvKey port it.vc) = u.hq (pvKey port it.vc) := by
    rw [State.hq, dp, State.hq]
  refine ⟨_, run, kept.trans hq, (congrArg Datapath.rx dp).trans rx, fun first => ?_, fun behind due => ?_⟩
  · rw [State.stallBehind, hq, first, List.nil_append, List.length_singleton, if_neg (Nat.lt_irrefl 1), cnt]
  · have long : 1 < (u.hq (pvKey port it.vc)).length := by
      rw [hq, List.length_append]
      exact Nat.lt_add_of_pos_left (List.length_pos_iff.mpr behind)
    have wf : Tbl.wf (fun _ => 0) u.cnt = true := by rw [cnt]; exact State.canonical.cnt h
    rw [State.stallBehind, if_pos long, State.count_countCycle wf (by rw [cyc, State.now_of_clk clk]; exact due),
      State.count_of_cnt cnt]

theorem headerArrival_gives_pl17 {it : Item} {port : Fin 1089} (hub : port.val = 1088) (free : s.islandHeld 23 = false)
    (head : s.arriving 1088 = some it) :
    Gives (.headerArrival port) s (fun t => t.hq (pvKey 1088 it.vc) = s.hq (pvKey 1088 it.vc)
        ++ [{ it with charge := .reserved }] ∧ t.dp.inRsv = addAt s.dp.inRsv (pvKey 1088 it.vc) it.n) := by
  have run := exec_headerArrival_of_pl17 (s := s) (port := port) (by rw [hub]; exact free) (by rw [hub]; exact head) hub
  obtain ⟨hq, rsv⟩ := State.headerIn17_frame (s := s) port it
  generalize s.headerIn17 port it = u at run hq rsv
  rw [hub] at run hq rsv
  have dp := State.dp_stallBehind (s := u) 1088 (pvKey 1088 it.vc)
  refine ⟨_, run, ?_, (congrArg Datapath.inRsv dp).trans rsv⟩
  rw [State.hq, dp, ← State.hq, hq]

theorem headerArrival_gives_stall (h : s.canonical = true) {port : Fin 1089} (none_ : s.arriving port = none)
    (waits : s.headerWaits (pipeOf port) = true) : Gives (.headerArrival port) s (fun t => t.dp = s.dp
      ∧ (Tbl.get (fun _ => 0) s.cyc (C.PL_HDR_STALL (pipeOf port)) ≤ cycle16 s.now →
          t.count (C.PL_HDR_STALL (pipeOf port)) = (s.count (C.PL_HDR_STALL (pipeOf port)) + 1) % 2 ^ 64)) := by
  have run := exec_headerArrival_of_none none_
  rw [if_pos waits] at run
  exact ⟨_, run, State.dp_countCycle _, State.count_countCycle (State.canonical.cnt h)⟩

/-! ## Out of a header queue (R79) -/

theorem State.headerWaits_congr {t : State} (same : t.dp.hq = s.dp.hq) (pl : Nat) : t.headerWaits pl = s.headerWaits pl := by
  simp only [State.headerWaits, State.hq, same]

theorem State.hq_takeSlot (pl : Nat) : (s.takeSlot pl).dp.hq = s.dp.hq := by
  unfold State.takeSlot
  extract_lets n u
  have same : u.dp.hq = s.dp.hq := congrArg Datapath.hq ((State.reach_within s (instant16 (n / 4))).dp_eq (by decide))
  exact same

theorem exec_headerLookup_of_head {pl : Fin 18} {k : Nat} {it : Item} {rest : List Item} {p : Packet}
    (works : s.works (pipelineDomain pl) = true) (free : s.islandHeld (6 + pl) = false) (open_ : s.islandHeld 36 = false)
    (key : s.lookupKey pl = some k) (head : s.hq k = it :: rest) (ffp : it.body = .ffp p) (rsp : it.vc = vcRSP)
    (last : (s.setHq k rest).headerWaits pl = false) : exec (.headerLookup pl true) s
      = .next ((((s.takeSlot pl).setHq k rest).writeCells it).lookup it p) := by
  have waits : ((s.takeSlot pl).setHq k rest).headerWaits pl = false := by
    rw [State.headerWaits_congr (s := s.setHq k rest) _ pl, last]
    exact congrArg (fun t => Tbl.put (fun _ => []) t k rest) (State.hq_takeSlot pl)
  change execHeaderLookup pl true s = _
  rw [execHeaderLookup, works, free, open_, if_neg (by decide), key]
  dsimp only
  rw [head]
  dsimp only
  rw [if_pos rsp, waits, ffp]
  rfl

/-- Settles O13. -/
theorem headersAreQueuedAndChecked : Obligations.HeadersAreQueuedAndChecked := by
  intro s h
  refine ⟨fun port it leaf free head => headerArrival_gives h leaf free ((State.arriving_of_leaf leaf).trans head),
    fun it free head => headerArrival_gives_pl17 rfl free (State.arriving_of_pl17.trans head),
    fun port leaf none_ waits => headerArrival_gives_stall h ((State.arriving_of_leaf leaf).trans none_) waits,
    fun pl k it rest p works free open_ key head ffp rsp last =>
      exec_headerLookup_of_head works free open_ key head ffp rsp last, fun it p reason other failed => ?_⟩
  rw [State.lookup, other, if_neg (by decide), failed]

end Sys2Proof.Machine

/-!
PROOFS. The choice of an egress port, the shapers' wheel and the writes of buckets (R130 to R144).
-/
namespace Sys2Proof.Machine
variable {s : State}

/-! ## The choice (R130, R134) -/

theorem strictFirst {f : Nat → Option α} {strict : Nat → Bool} {tc : Nat} {x : α} (bound : tc < 8) (is : strict tc = true)
    (val : f tc = some x) (above : ∀ u, u < 8 → tc < u → strict u = true → f u = none) :
    ([7, 6, 5, 4, 3, 2, 1, 0].filter strict).findSome? f = some x := by
  rw [List.findSome?_eq_some_iff]
  obtain ⟨before, after, split_, higher⟩ : ∃ a b, [7, 6, 5, 4, 3, 2, 1, 0] = a ++ tc :: b ∧ ∀ u ∈ a, u < 8 ∧ tc < u := by
    have all : ∀ n : Fin 8, ∃ k, [7, 6, 5, 4, 3, 2, 1, 0] = ([7, 6, 5, 4, 3, 2, 1, 0].take k) ++ n.val ::
        ([7, 6, 5, 4, 3, 2, 1, 0].drop (k + 1)) ∧ ∀ u ∈ [7, 6, 5, 4, 3, 2, 1, 0].take k, u < 8 ∧ n.val < u :=
      fun n => ⟨7 - n.val, by revert n; decide⟩
    obtain ⟨k, parts, higher⟩ := all ⟨tc, bound⟩
    exact ⟨_, _, parts, higher⟩
  refine ⟨before.filter strict, tc, after.filter strict, ?_, val, fun u m => ?_⟩
  · rw [split_, List.filter_append, List.filter_cons, if_pos is]
  · obtain ⟨mem, on⟩ := List.mem_filter.mp m
    obtain ⟨lt, gt⟩ := higher u mem
    exact above u lt gt on

theorem State.choose_of_strict {egress tc : Nat} {it : Item} (bound : tc < 8) (strict : s.strict egress tc = true)
    (head : s.eligible egress tc = some it)
    (above : ∀ u : Nat, u < 8 → tc < u → s.strict egress u = true → s.eligible egress u = none) :
    s.choose egress = (some (tc, it), s) := by
  have found : ([7, 6, 5, 4, 3, 2, 1, 0].filter (fun t => s.strict egress t)).findSome?
      (fun t => (s.eligible egress t).map (fun it => (t, it))) = some (tc, it) :=
    strictFirst bound strict (by rw [head]; rfl) (fun u lt gt on => by rw [above u lt gt on]; rfl)
  rw [State.choose, found]

theorem State.allowed_of_eligible {egress tc : Nat} {it : Item} (head : s.eligible egress tc = some it) :
    it.vc = vcRSP ∨ (s.shaperAllows egress tc = true ∧ s.shaperAllows egress 8 = true) := by
  unfold State.eligible at head
  split at head
  · cases head
  · split at head
    case isTrue allowed =>
      cases head
      exact allowed
    case isFalse => cases head

theorem exec_egressSchedule_of_chosen {egress : Fin 1094} {tc : Nat} {it : Item} {u : State} (whole : s.tel.isolated = [])
    (same : s.tel.update = none) (chosen : s.choose egress = (some (tc, it), u)) :
    exec (.egressSchedule egress) s = .next (u.sendFrom egress tc it) := by
  have free (i : Nat) : s.islandHeld i = false := by
    rw [State.islandHeld, State.islandIsolated, State.updating, whole, same]
    rfl
  change Host.Outcome.next (s.schedule egress) = _
  rw [State.schedule, free, whole, if_neg (by rintro (⟨-, h⟩ | h) <;> exact Bool.false_ne_true h), chosen]

/-! ## The wheel (R136, R137) -/

theorem shaperEligible_gives {egress : Fin 1094} {i : Fin 9} {t0 : Nat} (slot : s.wheelPos egress i = .slot t0) :
    Gives (.shaperEligible egress i) s (fun t => t.now = max s.now t0
      ∧ t.sched.wheel = Tbl.put (fun _ => .free) s.sched.wheel (shpKey egress i) .free) := by
  have run : exec (.shaperEligible egress i) s
      = .next ((s.reach t0).setShaper egress i ((s.reach t0).shaperNow egress i) .free) := by
    change execShaperEligible egress i s = _
    rw [execShaperEligible, slot]
  have now := State.now_reach (s := s) t0
  have sched := (State.reach_within s t0).sched_eq (by decide)
  generalize s.reach t0 = u at run now sched
  rw [← now, ← sched]
  exact ⟨_, run, rfl, rfl⟩

/-! ## Buckets written (R136, R144) -/

/-- A bucket restarted at an instant. -/
def Bucket.written (b : Bucket) (w : Word) (now : Nat) : Bucket := b.restart (if w.fld 31 31 = 0 then w.fld 30 20 * 4096 else 0) now

/-- A shaper that holds a bucket and is off the wheel. -/
theorem State.setShaper_frame (egress i : Nat) (b : Bucket) : (s.setShaper egress i b .free).regs = s.regs
    ∧ (s.setShaper egress i b .free).sched.shapers = Tbl.put (fun _ => shaperFull) s.sched.shapers (shpKey egress i) b := ⟨rfl, rfl⟩

theorem State.setPolBucket_frame (port tc which : Nat) (b : Bucket) : (s.setPolBucket port tc which b).regs = s.regs
    ∧ (s.setPolBucket port tc which b).sched.police = Tbl.put (fun _ => policeFull) s.sched.police (polKey port tc which) b :=
  ⟨rfl, rfl⟩

theorem State.store_frame (off : Nat) (w : Word) : (s.store off w).sched = s.sched ∧ (s.store off w).now = s.now := ⟨rfl, rfl⟩

theorem State.rd_of_regs {t : State} (same : t.regs = s.regs) (off : Nat) : t.rd off = s.rd off := by
  rw [State.rd, State.rd, same]

theorem exec_shaperWrite_of_on {egress : Fin 1094} {i : Fin 9} {w : Word}
    (on : s.on (regDomain (R.PL_SHP (egress / 64) (egress % 64) i)) = true) : exec (.shaperWrite egress i w) s
      = .next ((s.store (R.PL_SHP (egress / 64) (egress % 64) i) w).setShaper egress i
        ((s.shaperNow egress i).written w (s.store (R.PL_SHP (egress / 64) (egress % 64) i) w).now) .free) := by
  change execShaperWrite egress i w s = _
  rw [execShaperWrite, State.gate_on on]
  rfl

theorem exec_policerBucketWrite_of_on {port : Fin 1088} {tc : Fin 8} {w : Word}
    (on : s.on (regDomain (R.PL_POL_C (port / 64) (port % 64) tc)) = true) : exec (.policerBucketWrite port tc false w) s
      = .next ((s.store (R.PL_POL_C (port / 64) (port % 64) tc) w).setPolBucket port tc 0 ((s.polNow port tc 0).written w s.now)) := by
  change execPolicerBucketWrite port tc false w s = _
  rw [execPolicerBucketWrite, if_neg (by decide), State.gate_on on]
  rfl

theorem shaperWrite_gives (h : s.canonical = true) {egress : Fin 1094} {i : Fin 9} {w : Word}
    (on : s.on (regDomain (R.PL_SHP (egress / 64) (egress % 64) i)) = true) : Gives (.shaperWrite egress i w) s (fun t =>
      t.rd (R.PL_SHP (egress / 64) (egress % 64) i)
          = storeWord (R.PL_SHP (egress / 64) (egress % 64) i) w (s.rd (R.PL_SHP (egress / 64) (egress % 64) i))
      ∧ t.sched.shapers = Tbl.put (fun _ => shaperFull) s.sched.shapers (shpKey egress i)
          ((s.shaperNow egress i).restart (if w.fld 31 31 = 0 then w.fld 30 20 * 4096 else 0) s.now)) := by
  have run := exec_shaperWrite_of_on (w := w) on
  generalize R.PL_SHP (egress / 64) (egress % 64) i = off at run ⊢
  obtain ⟨sched, now⟩ := State.store_frame (s := s) off w
  have stored := State.rd_store_self (State.canonical.regs h) off w
  generalize s.store off w = u at run sched now stored
  obtain ⟨regs, shapers⟩ := State.setShaper_frame (s := u) egress i ((s.shaperNow egress i).written w u.now)
  rw [sched, now] at shapers
  exact ⟨_, run, (State.rd_of_regs regs off).trans stored, by rw [now]; exact shapers⟩

theorem policerBucketWrite_gives (h : s.canonical = true) {port : Fin 1088} {tc : Fin 8} {w : Word}
    (on : s.on (regDomain (R.PL_POL_C (port / 64) (port % 64) tc)) = true) :
    Gives (.policerBucketWrite port tc false w) s (fun t =>
      t.rd (R.PL_POL_C (port / 64) (port % 64) tc)
          = storeWord (R.PL_POL_C (port / 64) (port % 64) tc) w (s.rd (R.PL_POL_C (port / 64) (port % 64) tc))
      ∧ ∃ b, t.sched.police = Tbl.put (fun _ => policeFull) s.sched.police (polKey port tc 0) b
          ∧ b.tokens = (((if w.fld 31 31 = 0 then w.fld 30 20 * 4096 else 0) * tokUnit : Nat) : Int) ∧ b.time = s.now) := by
  have run := exec_policerBucketWrite_of_on (w := w) on
  generalize R.PL_POL_C (port / 64) (port % 64) tc = off at run ⊢
  obtain ⟨sched, -⟩ := State.store_frame (s := s) off w
  have stored := State.rd_store_self (State.canonical.regs h) off w
  generalize s.store off w = u at run sched stored
  obtain ⟨regs, police⟩ := State.setPolBucket_frame (s := u) port tc 0 ((s.polNow port tc 0).written w s.now)
  rw [sched] at police
  exact ⟨_, run, (State.rd_of_regs regs off).trans stored, _, police, rfl, rfl⟩

/-- Settles O16. -/
theorem egressChoosesAndShapes : Obligations.EgressChoosesAndShapes :=
  ⟨fun _ _ _ _ bound strict head above => ⟨State.choose_of_strict bound strict head above, State.allowed_of_eligible head⟩,
    fun _ h => ⟨fun _ _ _ _ whole same chosen => exec_egressSchedule_of_chosen whole same chosen,
      fun _ _ _ slot => shaperEligible_gives slot, fun _ => ⟨_, rfl, rfl, rfl⟩, fun _ _ _ on => shaperWrite_gives h on,
      fun _ _ _ on => policerBucketWrite_gives h on⟩⟩

end Sys2Proof.Machine

/-!
PROOFS. Path weights, moves between members of a bundle, and path marks (R62, R88 to R106).
-/
namespace Sys2Proof.Machine
variable {s : State}

/-! ## Weights (R88) -/

theorem stepWeight_lt {was want : Nat} (low : was < 16) (fits : want < 16) : stepWeight was want < 16 := by
  unfold stepWeight
  split
  · exact fits
  · split <;> omega

theorem State.wBase_lt (port : Nat) : s.wBase port < 16 :=
  Nat.mod_lt _ (by decide)

/-- A weight that takes effect. -/
def State.weightSet (s : State) (port v : Nat) : State :=
  let s := s.setF (R.PL_PATH_WEIGHT (port / 64) (port % 64)) 3 0 v
  { s with dp := { s.dp with weightAt := Tbl.put (fun _ => 0) s.dp.weightAt port s.now } }

theorem State.weightSet_frame (h : Tbl.wf regReset s.regs = true) (port : Nat) {v : Nat} (fits : v < 16) :
    (s.weightSet port v).wBase port = v
      ∧ (s.weightSet port v).dp.weightAt = Tbl.put (fun _ => 0) s.dp.weightAt port s.now
      ∧ (s.weightSet port v).dp.moves = s.dp.moves := by
  unfold State.weightSet State.wBase
  generalize R.PL_PATH_WEIGHT (port / 64) (port % 64) = off
  have shown := State.fld_setF_self h off (hi := 3) (lo := 0) (v := v) (by decide) (by decide) fits
  have dp := State.setF_dp s off 3 0 v
  have now : (s.setF off 3 0 v).now = s.now := State.now_of_clk (State.setF_clk s off 3 0 v)
  generalize s.setF off 3 0 v = u at shown dp now
  dsimp only
  rw [dp, now]
  exact ⟨shown, rfl, rfl⟩

theorem easelWeightUpdate_gives (h : s.canonical = true) {port : Fin 1088} {want : Nat} (weight : s.easelWeight port = some want)
    (owns : s.fld R.BUF_FWD_SPRAY_CTRL 31 31 = 1) (on : s.on (portDomain port) = true) (some_ : want ≠ 0) (fits : want < 16)
    (live : s.wBase port ≠ 0) (other : s.wBase port ≠ want)
    (due : Tbl.get (fun _ => 0) s.dp.weightAt port + 100000 ≤ s.now) :
    Gives (.easelWeightUpdate port) s (fun t => t.wBase port = stepWeight (s.wBase port) want
      ∧ t.dp.weightAt = Tbl.put (fun _ => 0) s.dp.weightAt port s.now ∧ t.dp.moves = s.dp.moves) := by
  have run : exec (.easelWeightUpdate port) s = .next (s.weightSet port (stepWeight (s.wBase port) want)) := by
    change execEaselWeightUpdate port s = _
    rw [execEaselWeightUpdate, weight]
    dsimp only
    rw [owns, on, if_neg (by
      rintro (h | h | h | h)
      · exact absurd h (by decide)
      · exact absurd h (by decide)
      · exact other h
      · exact h (.inr (.inl due))), if_neg some_, if_neg live]
    rfl
  exact ⟨_, run, State.weightSet_frame (State.canonical.regs h) port (stepWeight_lt (State.wBase_lt _) fits)⟩

section
variable {port : Fin 1088} {w : Word} (on : s.on (regDomain (R.PL_PATH_WEIGHT (port / 64) (port % 64))) = true)
include on

theorem exec_pathWeightWrite_of_free (free : s.fld R.BUF_FWD_SPRAY_CTRL 31 31 = 0) (some_ : w.fld 3 0 ≠ 0)
    (live : s.wBase port ≠ 0) :
    exec (.pathWeightWrite port w) s = .next (s.store (R.PL_PATH_WEIGHT (port / 64) (port % 64)) w) := by
  change execPathWeightWrite port w s = _
  rw [execPathWeightWrite, State.gate_on on, free, if_neg (by decide), if_neg some_, if_neg live]

theorem exec_pathWeightWrite_of_owned (owns : s.fld R.BUF_FWD_SPRAY_CTRL 31 31 = 1) :
    exec (.pathWeightWrite port w) s = .next s := by
  change execPathWeightWrite port w s = _
  rw [execPathWeightWrite, State.gate_on on, if_pos owns]

end

/-! ## Rebalancing (R90) -/

/-- A bundle with the instant of its rebalance. -/
def State.rebalanced (s : State) (u : Nat) : State := s.setBundle u { s.bundle u with lastRebalance := some s.now }

theorem State.bundle_setBundle (u : Nat) {b : Bundle} (ne : b ≠ ⟨[], none⟩) : (s.setBundle u b).bundle u = b :=
  Tbl.get_put_of_ne_default (d := fun _ => (⟨[], none⟩ : Bundle)) s.dp.bundles u ne

theorem State.bundle_rebalanced (u : Nat) : (s.rebalanced u).bundle u = { s.bundle u with lastRebalance := some s.now } :=
  State.bundle_setBundle u (fun e => by cases congrArg Bundle.lastRebalance e)

theorem State.map_rebalanced (u : Nat) : ((s.rebalanced u).bundle u).map = (s.bundle u).map := by
  rw [State.bundle_rebalanced]

theorem State.noMove_of_still {u : Nat} (still : ∀ m, m ∈ s.dp.moves → m.bundle ≠ u) :
    s.dp.moves.any (fun m => m.bundle == u) = false := by
  rw [List.any_eq_false]
  exact fun m mem e => still m mem (beq_iff_eq.mp e)

section
variable {uid : Word} (owns : s.fld R.BUF_FWD_SPRAY_CTRL 31 31 = 1) (first : (s.bundle uid.toNat).lastRebalance = none)
  (still : ∀ m, m ∈ s.dp.moves → m.bundle ≠ uid.toNat)
include owns first still

theorem exec_easelRebalance_of_none : exec (.easelRebalance uid []) s = .next (s.rebalanced uid.toNat) := by
  change execEaselRebalance uid [] s = _
  rw [execEaselRebalance, owns, first, State.noMove_of_still still]
  rfl

theorem exec_easelRebalance_of_one {b : Fin 64} {q : Fin 1024} {p : Nat} (takes : s.takesBuckets uid.toNat q = true)
    (mapped : (s.bundle uid.toNat).map[b.val]? = some (.member p)) (other : p ≠ q.val) :
    exec (.easelRebalance uid [(b, q)]) s
      = .next ((s.rebalanced uid.toNat).startMove uid.toNat b (.member p) (.member q) none) := by
  have held : ((s.rebalanced uid.toNat).bundle uid.toNat).map[b.val]? = some (.member p) := by
    rw [State.bundle_rebalanced]
    exact mapped
  have differs : (p != q.val) = true := bne_iff_ne.mpr other
  have all : [(b, q)].all (fun m => s.takesBuckets uid.toNat m.2.val &&
      (match (s.bundle uid.toNat).map[m.1.val]? with | some (.member p) => p != m.2.val | _ => false)) = true := by
    simp only [List.all_cons, List.all_nil, takes, mapped, differs, Bool.and_true]
  change execEaselRebalance uid [(b, q)] s = _
  rw [execEaselRebalance]
  dsimp only
  rw [owns, first, State.noMove_of_still still, if_neg (by
    rintro (h | h | h | h | h)
    · exact absurd h (by decide)
    · exact absurd h (by decide : ¬ 4 < 1)
    · exact absurd all (Bool.eq_false_iff.mp (Bool.not_eq_true' _ ▸ h))
    · exact Bool.false_ne_true h
    · exact Bool.false_ne_true h)]
  change Host.Outcome.next (match ((s.rebalanced uid.toNat).bundle uid.toNat).map[b.val]? with
    | some old => (s.rebalanced uid.toNat).startMove uid.toNat b old (.member q) none
    | none => s.rebalanced uid.toNat) = _
  rw [held]

end

/-! ## The end of a move (R91, R93) -/

/-- A move that ends: its entry leaves the list, and it counts. -/
def State.moveEnded (s : State) (m : Move) : State :=
  ({ s with dp := { s.dp with moves := s.dp.moves.filter (fun x => !(x.bundle == m.bundle && x.bucket == m.bucket)) } } : State).bump
    C.BUF_FWD_MOVES 1

theorem State.finishMove_of_free {m : Move} (none_ : m.held = []) : s.finishMove m none = s.moveEnded m := by
  rw [State.finishMove, none_]
  rfl

/-- The event of a forced move. -/
def State.forcedEvent (s : State) (m : Move) (cause : Nat) : Ev :=
  { code := 0x0201, sev := 1, kind := 0x11, index := s.bundleIndex m.bundle, arg0 := m.bucket, arg1 := cause }

theorem State.finishMove_of_forced {m : Move} (none_ : m.held = []) (cause : Nat) :
    ∃ e : Ev, s.finishMove m (some cause) = ((s.moveEnded m).bump C.BUF_FWD_FORCED 1).raise e := by
  rw [State.finishMove, none_]
  exact ⟨_, rfl⟩

theorem State.moveEnded_frame (m : Move) : (s.moveEnded m).dp.moves
      = s.dp.moves.filter (fun x => !(x.bundle == m.bundle && x.bucket == m.bucket))
    ∧ (s.moveEnded m).clk = s.clk ∧ (s.moveEnded m).cnt = (s.bump C.BUF_FWD_MOVES 1).cnt := ⟨rfl, rfl, rfl⟩

theorem exec_settleExpiry_of_move {uid : Word} {b : Fin 64} {m : Move} {t0 : Nat} (found : s.findMove uid.toNat b = some m)
    (settles : m.phase = .settle t0) : exec (.settleExpiry uid b) s = .next ((s.reach t0).endSettle m) := by
  change execSettleExpiry uid b s = _
  rw [execSettleExpiry, found]
  dsimp only
  rw [settles]

theorem exec_markTimeout_of_move {uid : Word} {b : Fin 64} {m : Move} {x : List (Nat × Nat)} {t0 : Nat}
    (found : s.findMove uid.toNat b = some m) (marks : m.phase = .marks x (some t0)) :
    exec (.markTimeout uid b) s = .next ((s.reach t0).finishMove m (some 0)) := by
  change execMarkTimeout uid b s = _
  rw [execMarkTimeout, found]
  dsimp only
  rw [marks]

theorem noWaitCounter_moves : NoWaitCounter C.BUF_FWD_MOVES := by
  refine ⟨by decide, by decide, by decide, ?_, ?_⟩ <;> decide

theorem noWaitCounter_forced : NoWaitCounter C.BUF_FWD_FORCED := by
  refine ⟨by decide, by decide, by decide, ?_, ?_⟩ <;> decide

theorem settleExpiry_gives (h : s.canonical = true) {uid : Word} {b : Fin 64} {m : Move} {t0 p : Nat}
    (found : s.findMove uid.toNat b = some m) (settles : m.phase = .settle t0) (member : m.old = .member p)
    (none_ : m.held = []) (waits : s.settleNs ≠ 0) : Gives (.settleExpiry uid b) s (fun t => t.now = max s.now t0
      ∧ t.dp.moves = s.dp.moves.filter (fun x => !(x.bundle == m.bundle && x.bucket == m.bucket))
      ∧ t.count C.BUF_FWD_MOVES = (s.count C.BUF_FWD_MOVES + 1) % 2 ^ 64
      ∧ t.count C.BUF_FWD_FORCED = s.count C.BUF_FWD_FORCED) := by
  have run := exec_settleExpiry_of_move found settles
  have now := State.now_reach (s := s) t0
  have reached := State.reach_within s t0
  have dp := reached.dp_eq (by decide)
  have same : (s.reach t0).settleNs = s.settleNs := by
    rw [State.settleNs, State.fld_of_regs (State.reach_regs t0), State.settleNs]
  obtain ⟨wf, moves⟩ := State.reach_countKept (s := s) noWaitCounter_moves t0 (State.canonical.cnt h)
  have forced := State.count_reach (State.canonical.cnt h) noWaitCounter_forced t0
  generalize s.reach t0 = u at run now dp same wf moves forced
  rw [State.endSettle, member] at run
  dsimp only at run
  rw [if_neg (by rw [same]; exact waits), State.finishMove_of_free none_] at run
  obtain ⟨gone, clk, cnt⟩ := State.moveEnded_frame (s := u) m
  rw [dp] at gone
  refine ⟨_, run, (State.now_of_clk clk).trans now, gone, ?_, ?_⟩
  · rw [State.count_of_cnt cnt, State.count_bump_self wf, moves]
  · rw [State.count_of_cnt cnt, State.count_bump_ne wf _ (by decide), forced]

theorem markTimeout_gives (h : s.canonical = true) {uid : Word} {b : Fin 64} {m : Move} {x : List (Nat × Nat)} {t0 : Nat}
    (found : s.findMove uid.toNat b = some m) (marks : m.phase = .marks x (some t0)) (none_ : m.held = []) :
    Gives (.markTimeout uid b) s (fun t => t.now = max s.now t0
      ∧ t.dp.moves = s.dp.moves.filter (fun x => !(x.bundle == m.bundle && x.bucket == m.bucket))
      ∧ t.count C.BUF_FWD_FORCED = (s.count C.BUF_FWD_FORCED + 1) % 2 ^ 64) := by
  have run := exec_markTimeout_of_move found marks
  have now := State.now_reach (s := s) t0
  have dp := (State.reach_within s t0).dp_eq (by decide)
  obtain ⟨wf, forced⟩ := State.reach_countKept (s := s) noWaitCounter_forced t0 (State.canonical.cnt h)
  generalize s.reach t0 = u at run now dp wf forced
  obtain ⟨e, done⟩ := State.finishMove_of_forced (s := u) none_ 0
  rw [done] at run
  obtain ⟨gone, clk, cnt⟩ := State.moveEnded_frame (s := u) m
  rw [dp] at gone
  have wf' : Tbl.wf (fun _ => 0) (u.moveEnded m).cnt = true := by rw [cnt]; exact bumpTbl_wf wf _ _
  have counted : (u.moveEnded m).count C.BUF_FWD_FORCED = s.count C.BUF_FWD_FORCED := by
    rw [State.count_of_cnt cnt, State.count_bump_ne wf _ (by decide), forced]
  generalize u.moveEnded m = v at run gone clk wf' counted
  have told : Within 939524100 v ((v.bump C.BUF_FWD_FORCED 1).raise e) :=
    State.raise_step (by decide) (State.bump_step (by decide) (Within.refl _ v))
  refine ⟨_, run, ?_, (congrArg Datapath.moves (told.dp_eq (by decide))).trans gone, ?_⟩
  · exact (State.now_of_clk ((told.clk_eq (by decide)).trans clk)).trans now
  · rw [State.count_raise (bumpTbl_wf wf' _ _) e (by decide) (by decide), State.count_bump_self wf', counted]

/-! ## Path marks (R62, R93) -/

/-- The marks that wait, and those received, are as before. -/
def MarksKept (s t : State) : Prop := t.dp.markIn = s.dp.markIn ∧ t.dp.markWaits = s.dp.markWaits

theorem MarksKept.trans {t u : State} (h : MarksKept s t) (k : MarksKept t u) : MarksKept s u :=
  ⟨k.1.trans h.1, k.2.trans h.2⟩

theorem MarksKept.of_dp {t : State} (same : t.dp = s.dp) : MarksKept s t := ⟨by rw [same], by rw [same]⟩

theorem State.returnCredits_marksKept (port vc n : Nat) : MarksKept s (s.returnCredits port vc n) :=
  .of_dp ((State.returnCredits_within s port vc n).dp_eq (by decide))

theorem State.bankLeave_marksKept (port id : Nat) : MarksKept s (s.bankLeave port id) := by
  unfold State.bankLeave
  split
  · exact .of_dp rfl
  · dsimp only
    split
    · exact MarksKept.trans ⟨rfl, rfl⟩ (State.returnCredits_marksKept _ _ _)
    · exact ⟨rfl, rfl⟩

theorem Datapath.releaseCells_marks (d : Datapath) (id : Nat) :
    (d.releaseCells id).markIn = d.markIn ∧ (d.releaseCells id).markWaits = d.markWaits := by
  unfold Datapath.releaseCells
  split <;> exact ⟨rfl, rfl⟩

theorem Datapath.replicaDone_marks (d : Datapath) (id : Nat) :
    (d.replicaDone id).markIn = d.markIn ∧ (d.replicaDone id).markWaits = d.markWaits := by
  unfold Datapath.replicaDone
  split
  · exact ⟨rfl, rfl⟩
  · split
    · exact Datapath.releaseCells_marks _ _
    · exact ⟨rfl, rfl⟩

theorem Datapath.freed_marks (d : Datapath) (q : Nat) (it : Item) :
    (d.freed q it).markIn = d.markIn ∧ (d.freed q it).markWaits = d.markWaits := by
  unfold Datapath.freed
  extract_lets upd
  split
  case h_9 =>
    split
    · exact Datapath.replicaDone_marks _ _
    · exact ⟨rfl, rfl⟩
  all_goals exact ⟨rfl, rfl⟩

theorem State.freeItem_marksKept (q : Nat) (it : Item) : MarksKept s (s.freeItem q it) := by
  unfold State.freeItem
  split
  · exact ⟨rfl, rfl⟩
  · extract_lets u
    have freed : MarksKept s u := s.dp.freed_marks q it
    split
    · exact freed.trans (State.returnCredits_marksKept _ _ _)
    · exact freed

/-- An item's cells given back to their banks. -/
def State.cellsGone (s : State) (id : Nat) : State := { s with dp := s.dp.releaseCells id }

theorem State.cellsGone_marksKept (id : Nat) : MarksKept s (s.cellsGone id) := s.dp.releaseCells_marks id

theorem State.setHome_marksKept (d : Nat) (x : Home) : MarksKept s (s.setHome d x) := ⟨rfl, rfl⟩

theorem State.refreshHome_marksKept (d : Nat) : MarksKept s (s.refreshHome d) :=
  .of_dp ((State.refreshHome_within s d).dp_eq (by decide))

theorem State.markClass_marksKept (d k seq : Nat) (t : Tracker) (c : SeqClass) : MarksKept s (s.markClass d k seq t c) := by
  cases c with
  | new => exact (State.setHome_marksKept d _).trans (State.refreshHome_marksKept d)
  | duplicate => exact .of_dp rfl
  | outside => exact .of_dp rfl

/-- The SEQ of a mark noted beside the series that no home keeps. -/
def State.markNoted (s : State) (n seq : Nat) : State :=
  let c := (Tbl.get (fun _ => none) s.dp.markSeen n).getD ⟨0, []⟩
  { s with dp := { s.dp with markSeen := Tbl.put (fun _ => none) s.dp.markSeen n (some (c.add seq)) } }

theorem State.markNoted_marksKept (n seq : Nat) : MarksKept s (s.markNoted n seq) := ⟨rfl, rfl⟩

theorem State.markSeq_marksKept (p : Packet) : MarksKept s (s.markSeq p) := by
  unfold State.markSeq
  extract_lets d k
  split
  · exact State.markNoted_marksKept (d * 2 ^ 19 + k) p.seq
  · exact State.markClass_marksKept d k p.seq _ _

/-- A mark that waits behind the earlier packets of its port and VC. -/
def State.markWaiting (s : State) (it : Item) (p : Packet) (l : List Item) : State :=
  { s with dp := { s.dp with markIn := l, markWaits := s.dp.markWaits ++ [⟨it.port, p, s.behindOf it.port it.vc⟩] } }

/-- A mark whose cells are free and whose SEQ is noted. -/
def State.markTaken (s : State) (it : Item) : State :=
  (((s.bankLeave it.port it.id).freeItem 0 it).cellsGone it.id).markSeq it.pkt

theorem State.markTaken_marksKept (it : Item) : MarksKept s (s.markTaken it) := by
  rw [State.markTaken]
  refine MarksKept.trans ?_ (State.markSeq_marksKept it.pkt)
  refine MarksKept.trans ?_ (State.cellsGone_marksKept it.id)
  exact (State.bankLeave_marksKept it.port it.id).trans (State.freeItem_marksKept 0 it)

theorem exec_pathMarkReceive_of_head {it : Item} {l : List Item} {p : Packet} (head : s.dp.markIn = it :: l)
    (ffp : it.body = .ffp p) : exec .pathMarkReceive s = .next ((s.markTaken it).markWaiting it p l) := by
  change execPathMarkReceive s = _
  rw [execPathMarkReceive, head]
  dsimp only
  rw [ffp]
  rfl

/-- A mark no longer waiting. -/
def State.markGone (s : State) (m : MarkWait) : State :=
  { s with dp := { s.dp with markWaits := s.dp.markWaits.filter (fun x => decide (x ≠ m)) } }

theorem exec_pathMarkAckSend_of_ready {m : MarkWait} (ready : s.dp.markWaits.find? (fun m => m.behind.isEmpty) = some m) :
    exec .pathMarkAckSend s
      = .next ((s.markGone m).originate (ackFor m.pkt (s.receivedOf m.pkt).cum (s.receivedOf m.pkt).beyond)) := by
  change execPathMarkAckSend s = _
  rw [execPathMarkAckSend, ready]
  rfl

theorem State.markWaits_originate (p : Packet) : (s.originate p).dp.markWaits = s.dp.markWaits := by
  unfold State.originate
  extract_lets it
  split <;> rfl

theorem pathMarkReceive_gives {it : Item} {l : List Item} {p : Packet} (head : s.dp.markIn = it :: l) (ffp : it.body = .ffp p) :
    Gives .pathMarkReceive s (fun t => t.dp.markIn = l ∧ t.dp.markWaits.length = s.dp.markWaits.length + 1
      ∧ ∃ m, t.dp.markWaits.getLast? = some m ∧ m.pkt = p ∧ m.port = it.port) := by
  have run := exec_pathMarkReceive_of_head head ffp
  obtain ⟨-, waits⟩ := State.markTaken_marksKept (s := s) it
  generalize s.markTaken it = u at run waits
  rw [← waits]
  exact ⟨_, run, rfl, List.length_append, _, List.getLast?_concat, rfl, rfl⟩

theorem pathMarkAckSend_gives {m : MarkWait} (ready : s.dp.markWaits.find? (fun m => m.behind.isEmpty) = some m)
    (joined : s.joined = true) : Gives .pathMarkAckSend s (fun t =>
      t.dp.markWaits = s.dp.markWaits.filter (fun x => decide (x ≠ m))
      ∧ ∃ it, t.rx 1088 = s.rx 1088 ++ [it] ∧ it.own = true
          ∧ it.body = .ffp (ackFor m.pkt (s.receivedOf m.pkt).cum (s.receivedOf m.pkt).beyond)) :=
  ⟨_, exec_pathMarkAckSend_of_ready ready, State.markWaits_originate _, _, State.rx_originate (s := s.markGone m) joined _, rfl, rfl⟩

theorem exec_pathMarkAckReceive_of_ack {it : Item} {l : List Item} (head : s.hubIn = it :: l) (ack : it.pkt.ty = tyACK) :
    exec .pathMarkAckReceive s = .next ((s.unitTake 5 it l).receiveAck it.pkt) := by
  change execPathMarkAckReceive s = _
  rw [execPathMarkAckReceive, head]
  dsimp only
  rw [ack, if_neg (fun h => h rfl)]

/-- Settles O20. -/
theorem pathWeightsMovesAndMarks : Obligations.PathWeightsMovesAndMarks :=
  ⟨fun _ h => ⟨fun _ _ weight owns on some_ fits live other due =>
      easelWeightUpdate_gives h weight owns on some_ fits live other due,
    fun _ _ on free some_ live => exec_pathWeightWrite_of_free on free some_ live,
    fun _ _ on owns => exec_pathWeightWrite_of_owned on owns,
    fun _ owns first still => ⟨_, exec_easelRebalance_of_none owns first still,
      congrArg Bundle.lastRebalance (State.bundle_rebalanced _), State.map_rebalanced _, rfl⟩,
    fun _ _ _ owns first still takes _ mapped other => exec_easelRebalance_of_one owns first still takes mapped other,
    fun _ _ _ _ _ found settles member none_ waits => settleExpiry_gives h found settles member none_ waits,
    fun _ _ _ _ _ found marks none_ => markTimeout_gives h found marks none_⟩,
  fun _ _ => ⟨fun _ _ _ head ffp => pathMarkReceive_gives head ffp,
    fun _ ready joined => pathMarkAckSend_gives ready joined, fun _ _ head ack => exec_pathMarkAckReceive_of_ack head ack⟩⟩

end Sys2Proof.Machine

/-!
PROOFS. Power domains turn on, drain and turn off (R45 to R47, R379, R386).
-/
namespace Sys2Proof.Machine
variable {s : State}

/-! ## What the parts of a transition leave of the domains' state -/

/-- The states of the domains and their transitions are as before. -/
def DomKept (s t : State) : Prop := t.dom = s.dom ∧ t.pwr.ops = s.pwr.ops ∧ t.pwr.going = s.pwr.going
  ∧ t.pwr.coldOn = s.pwr.coldOn ∧ t.pwr.bootDue = s.pwr.bootDue

theorem DomKept.trans {t u : State} (h : DomKept s t) (k : DomKept t u) : DomKept s u := by
  obtain ⟨dom, ops, going, cold, due⟩ := h
  obtain ⟨dom', ops', going', cold', due'⟩ := k
  exact ⟨dom'.trans dom, ops'.trans ops, going'.trans going, cold'.trans cold, due'.trans due⟩

theorem DomKept.of_eq {t : State} (dom : t.dom = s.dom) (pwr : t.pwr = s.pwr) : DomKept s t :=
  ⟨dom, congrArg Power.ops pwr, congrArg Power.going pwr, congrArg Power.coldOn pwr, congrArg Power.bootDue pwr⟩

theorem DomKept.of_within {m : Nat} {t : State} (h : Within m s t) (dom : m.testBit 3 = false) (pwr : m.testBit 21 = false) :
    DomKept s t := .of_eq (h.dom_eq dom) (h.pwr_eq pwr)

theorem DomKept.each {α : Type} {f : α → State → State} (k : ∀ x s, DomKept s (f x s)) :
    ∀ (l : List α) (s : State), DomKept s (forEach f l s)
  | [], _ => .of_eq rfl rfl
  | x :: l, s => (k x s).trans (DomKept.each k l (f x s))

theorem DomKept.ite {c : Prop} [Decidable c] {t : State} (h : c → DomKept s t) : DomKept s (if c then t else s) := by
  split
  case isTrue is => exact h is
  case isFalse => exact .of_eq rfl rfl

theorem State.tryLink_domKept (n : Nat) : DomKept s (s.tryLink n) := ⟨rfl, rfl, rfl, rfl, rfl⟩

theorem State.setF_domKept (off hi lo v : Nat) : DomKept s (s.setF off hi lo v) := .of_eq rfl rfl

theorem State.dieLinkOff_domKept (n : Nat) : DomKept s (s.dieLinkOff n) := by
  unfold State.dieLinkOff
  split
  · refine DomKept.trans ?_ (.of_within (State.dieLinkEvent_within _ n) (by decide) (by decide))
    refine DomKept.trans ?_ (State.tryLink_domKept n)
    refine DomKept.trans ?_ (.of_within (State.xShut_within _ _) (by decide) (by decide))
    exact (State.setF_domKept _ _ _ _).trans (.of_within (State.xShut_within _ n) (by decide) (by decide))
  · exact .of_eq rfl rfl

theorem State.clamp_domKept (d : Nat) (on : Bool) : DomKept s (s.clamp d on) := by
  unfold State.clamp
  refine DomKept.each (fun n t => ?_) _ _
  dsimp only
  exact (DomKept.ite fun _ => State.dieLinkOff_domKept n).trans (State.setF_domKept _ _ _ _)

theorem State.dieLinkOn_domKept (n w : Nat) : DomKept s (s.dieLinkOn n w) :=
  .of_within (State.dieLinkOn_within _ _ _) (by decide) (by decide)

theorem State.trainDie_domKept (n w : Nat) : DomKept s (s.trainDie n w) := by
  unfold State.trainDie
  split
  · exact State.dieLinkOn_domKept n w
  · dsimp only
    exact (State.tryLink_domKept n).trans (DomKept.ite fun _ => .of_eq rfl rfl)

theorem State.trainDies_domKept (n : Nat) (wires : List Nat) : DomKept s (s.trainDies n wires) :=
  DomKept.each (fun _ _ => State.trainDie_domKept _ _) _ _

/-! ## Entering and leaving the on state (R46, R47) -/

theorem State.enterDomain_frame (n : Nat) (target : DomState) :
    (s.enterDomain n target).dom = Tbl.put (fun _ => .off) s.dom n target
      ∧ (s.enterDomain n target).pwr.ops = s.pwr.ops
      ∧ (s.enterDomain n target).pwr.going = s.pwr.going.filter (fun g => g.n != n)
      ∧ (s.enterDomain n target).pwr.bootDue = s.pwr.bootDue := by
  unfold State.enterDomain
  extract_lets a b c d pwr e f g
  have planes : DomKept s a := .of_within (State.accountPlanes_within s) (by decide) (by decide)
  have down : DomKept a b := DomKept.each (fun p t => by
    dsimp only
    exact (DomKept.of_within (State.takeDown_within t p 8) (by decide) (by decide)).trans (DomKept.ite fun _ => .of_eq rfl rfl)) _ _
  have dead : DomKept b c := (DomKept.ite fun _ => DomKept.each (fun j t =>
    .of_within (State.deathByPlanes_within t j) (by decide) (by decide)) _ _).trans (State.clamp_domKept n true)
  have shut : DomKept c d := .of_within (State.shutCrossings_within c n) (by decide) (by decide)
  obtain ⟨dom, ops, going, -, due⟩ := ((planes.trans down).trans dead).trans shut
  have lost : DomKept e f := by
    change DomKept e (if target = .retention then e else e.lose n (target == .reset))
    split
    · exact .of_eq rfl rfl
    · exact .of_within (State.lose_within e n _) (by decide) (by decide)
  have noted : DomKept f g := (DomKept.of_within (State.noteDomain_within f n) (by decide) (by decide)).trans
    (.of_within (State.canvasEngines_within (f.noteDomain n)) (by decide) (by decide))
  have cut : DomKept g (if 9 ≤ n ∧ n ≤ 16 then g.cutBudgets else g) := DomKept.ite fun _ =>
    .of_within (State.cutBudgets_within g) (by decide) (by decide)
  obtain ⟨dom', ops', going', -, due'⟩ := (lost.trans noted).trans cut
  exact ⟨dom'.trans (congrArg (fun t => Tbl.put (fun _ => .off) t n target) dom), ops'.trans ops,
    going'.trans (congrArg (List.filter (fun g => g.n != n)) going), due'.trans due⟩

theorem State.domainOn_frame (n : Nat) (cold : Bool) (wires : List Nat) :
    (s.domainOn n cold wires).dom = Tbl.put (fun _ => .off) s.dom n .on
      ∧ (s.domainOn n cold wires).pwr.ops = s.pwr.ops
      ∧ (s.domainOn n cold wires).pwr.coldOn = (if s.pwr.coldOn = some n then none else s.pwr.coldOn)
      ∧ (s.domainOn n cold wires).pwr.bootDue = s.pwr.bootDue := by
  unfold State.domainOn
  extract_lets a pwr b c d e f g
  have planes : DomKept s a := .of_within (State.accountPlanes_within s) (by decide) (by decide)
  obtain ⟨dom, ops, -, first, due⟩ := planes
  have bases : DomKept b c := DomKept.ite fun _ => .of_within (State.startBases_within b n) (by decide) (by decide)
  have trained : DomKept c d := (((DomKept.of_within (State.noteDomain_within c n) (by decide) (by decide)).trans
    (State.clamp_domKept n false)).trans (State.trainDies_domKept n wires)).trans
      (.of_within (State.openCrossings_within (((c.noteDomain n).clamp n false).trainDies n wires)) (by decide) (by decide))
  have hub : DomKept d e := DomKept.ite fun _ => .of_within (State.hubBack_within d) (by decide) (by decide)
  have units : DomKept e f := (DomKept.of_within (State.unitsOn_within e n cold) (by decide) (by decide)).trans
    (.of_within (State.portsOn_within (e.unitsOn n cold) n) (by decide) (by decide))
  have back : DomKept f g := DomKept.ite fun _ => .of_within (State.readbackAll_within f) (by decide) (by decide)
  have last : DomKept g g.canvasEngines.reconsider :=
    (DomKept.of_within (State.canvasEngines_within g) (by decide) (by decide)).trans
      (.of_within (State.reconsider_within g.canvasEngines) (by decide) (by decide))
  obtain ⟨dom', ops', -, first', due'⟩ := ((((bases.trans trained).trans hub).trans units).trans back).trans last
  exact ⟨dom'.trans (congrArg (fun t => Tbl.put (fun _ => .off) t n .on) dom), ops'.trans ops,
    first'.trans (congrArg (fun c => if c = some n then none else c) first), due'.trans due⟩

/-- What a domain that begins to drain changes of the domains' state. -/
theorem State.startDrainDomain_frame (n : Nat) (target : DomState) (reason : Nat) :
    (s.startDrainDomain n target reason).dom = Tbl.put (fun _ => .off) s.dom n .draining
      ∧ (s.startDrainDomain n target reason).pwr = { s.pwr with going := s.pwr.going ++ [⟨n, target, s.now + 100000⟩] }
      ∧ (s.startDrainDomain n target reason).maint = s.maint := by
  unfold State.startDrainDomain
  extract_lets pwr a b c
  have noted : Within 4303355908 a b := State.withdrawPorts_step (by decide) (State.noteDomain_step (by decide) (Within.refl _ a))
  have parked : Within 939548692 b c := by
    change Within _ b (if _ then _ else b)
    split
    · refine Within.stepEach (fun e t => ?_) (Within.refl _ b)
      exact State.retarget_step (by decide) (State.setEngine_step (by decide) (Within.refl _ t))
    · exact Within.refl _ b
  have cut : Within 939548692 c (if 9 ≤ n ∧ n ≤ 16 then c.canvasEngines.cutBudgets else c) := by
    split
    · exact State.cutBudgets_step (by decide) (State.canvasEngines_step (by decide) (Within.refl _ c))
    · exact Within.refl _ c
  exact ⟨(cut.dom_eq (by decide)).trans ((parked.dom_eq (by decide)).trans (noted.dom_eq (by decide))),
    (cut.pwr_eq (by decide)).trans ((parked.pwr_eq (by decide)).trans (noted.pwr_eq (by decide))),
    (cut.maint_eq (by decide)).trans ((parked.maint_eq (by decide)).trans (noted.maint_eq (by decide)))⟩

/-! ## Operations carried on (R45) -/

/-- The state with other operations on domains. -/
def State.withOps (s : State) (l : List DomOp) : State := { s with pwr := { s.pwr with ops := l } }

theorem State.withOps_self {l : List DomOp} (same : s.pwr.ops = l) : s.withOps l = s := by
  subst same
  rfl

theorem State.withOps_withOps (l l' : List DomOp) : (s.withOps l).withOps l' = s.withOps l' := rfl

theorem State.advanceOps_of_nil (none_ : s.pwr.ops = []) : ∀ k, s.advanceOps k = s
  | 0 => rfl
  | k + 1 => by
    rw [State.advanceOps, none_]
    change (s.withOps []).advanceOps k = s
    rw [State.withOps_self none_]
    exact State.advanceOps_of_nil none_ k

theorem State.domainsGo_of_nil (none_ : s.pwr.ops = []) (due : s.pwr.bootDue = false) : s.domainsGo = s := by
  rw [State.domainsGo, State.advanceOps_of_nil none_, due, if_neg (by decide)]

/-- An operation whose domain is in transit waits. -/
theorem State.runOp_of_transit {o : DomOp} (cur : o.cur.isSome = true) (k : Nat) : s.runOp o (k + 1) = (some o, s) := by
  rw [State.runOp, if_pos cur]

/-- One operation carried on until its domain is in transit. -/
theorem State.advanceOps_of_one {o o' : DomOp} {u : State} (run : (s.withOps []).runOp o 24 = (some o', u))
    (still : u.pwr.ops = []) (transit : o'.cur.isSome = true) : (s.withOps [o]).advanceOps 2 = u.withOps [o'] := by
  have first : (s.withOps [o]).advanceOps 2 = (u.withOps [o']).advanceOps 1 := by
    rw [State.advanceOps]
    change State.advanceOps (State.runOps (s.withOps []) [o]) 1 = _
    rw [State.runOps, run]
    dsimp only
    rw [State.runOps, still]
    rfl
  have second : (u.withOps [o']).advanceOps 1 = ((u.withOps []).withOps [o']).advanceOps 0 := by
    rw [State.advanceOps]
    change State.advanceOps (State.runOps (u.withOps []) [o']) 0 = _
    rw [State.runOps, State.runOp_of_transit transit]
    dsimp only
    rw [State.runOps]
    rfl
  rw [first, second]
  rfl

theorem State.addOp_of_one {goal : DomGoal} {n : Nat} {host : Bool} {o' : DomOp} {u : State} (none_ : s.pwr.ops = [])
    (run : s.runOp ⟨goal, n, host, none, [], false⟩ 24 = (some o', u)) (still : u.pwr.ops = []) (due : u.pwr.bootDue = false)
    (transit : o'.cur.isSome = true) : s.addOp goal n host = u.withOps [o'] := by
  have start : s.addOp goal n host = (s.withOps [⟨goal, n, host, none, [], false⟩]).domainsGo := by
    rw [State.addOp, none_]
    rfl
  rw [start, State.domainsGo]
  have gone : (s.withOps [⟨goal, n, host, none, [], false⟩]).advanceOps 2 = u.withOps [o'] :=
    State.advanceOps_of_one (by rw [State.withOps_self none_]; exact run) still transit
  change (if ((s.withOps [⟨goal, n, host, none, [], false⟩]).advanceOps 2).pwr.bootDue = true then _ else
    (s.withOps [⟨goal, n, host, none, [], false⟩]).advanceOps 2) = _
  rw [gone, if_neg (by change ¬ u.pwr.bootDue = true; rw [due]; decide)]

/-! ## Turning on (R45, R47) -/

/-- A domain that begins to turn on, cold. -/
def State.turningOn (s : State) (n : Nat) : State :=
  { s with dom := Tbl.put (fun _ => .off) s.dom n .turningOn, pwr := { s.pwr with coldOn := some n } }

theorem State.nextUp_of_met {n : Nat} (met : ∀ g, g ∈ requiresAny n → ∃ a, a ∈ g ∧ s.on a = true) (k : Nat) :
    s.nextUp n (k + 1) = n := by
  have none_ : (requiresAny n).find? (fun g => !g.any s.on) = none := by
    rw [List.find?_eq_none]
    intro g mem not
    obtain ⟨a, inside, on⟩ := met g mem
    rw [List.any_eq_true.mpr ⟨a, inside, on⟩] at not
    exact Bool.false_ne_true not
  rw [State.nextUp, none_]

theorem State.on_of_off {n : Nat} (off : s.domSt n = .off) : s.on n = false := by
  rw [State.on, off]
  rfl

theorem State.runOp_of_off {n k : Nat} (off : s.domSt n = .off) (met : ∀ g, g ∈ requiresAny n → ∃ a, a ∈ g ∧ s.on a = true)
    (free : s.forcedDom n = none) (cold : s.pwr.coldOn = none) :
    s.runOp ⟨.on, n, false, none, [], false⟩ (k + 1) = (some ⟨.on, n, false, some n, [], false⟩, s.turningOn n) := by
  have found : [n].find? (fun n => !s.on n && (s.forcedDom n).isNone) = some n := by
    rw [List.find?_cons, State.on_of_off off, free]
    rfl
  rw [State.runOp, if_neg (by decide : ¬ (Option.isSome (none : Option Nat)) = true), if_pos (.inr rfl), if_neg (by decide : ¬ false = true)]
  dsimp only
  rw [found]
  dsimp only
  rw [State.nextUp_of_met met, off]
  dsimp only
  rw [cold]
  rfl

theorem State.forcedDom_of_regs {t : State} (same : ∀ off hi lo, off = R.PWR_MSTATE ∨ off = R.PWR_SUPPLY_STAT →
    t.fld off hi lo = s.fld off hi lo) (n : Nat) : t.forcedDom n = s.forcedDom n := by
  have level : t.level = s.level := same _ _ _ (.inr rfl)
  have want : t.wantM = s.wantM := by rw [State.wantM, level, same _ _ _ (.inl rfl), State.wantM]
  rw [State.forcedDom, want, level, State.forcedDom]

theorem domKnown_bounds {n : Nat} (known : domKnown n = true) : 2 ≤ n ∧ n ≤ 20 := by
  obtain ⟨low, high⟩ := Bool.and_eq_true_iff.mp known
  exact ⟨of_decide_eq_true low, of_decide_eq_true high⟩

theorem R.PWR_DOM_STAT_ne {n : Nat} (known : domKnown n = true) : R.PWR_MSTATE ≠ R.PWR_DOM_STAT (n - 1)
    ∧ R.PWR_SUPPLY_STAT ≠ R.PWR_DOM_STAT (n - 1) := by
  have bounds := domKnown_bounds known
  simp only [R.PWR_MSTATE, R.PWR_SUPPLY_STAT, R.PWR_DOM_STAT]
  omega

/-- PWR.DOM_STAT's STATUS is apart from what decides the forced states. -/
theorem State.forcedDom_domStatus (h : Tbl.wf regReset s.regs = true) {n : Nat} (known : domKnown n = true) (st m : Nat) :
    (s.domStatus n st).forcedDom m = s.forcedDom m := by
  obtain ⟨ne, ne'⟩ := R.PWR_DOM_STAT_ne known
  refine State.forcedDom_of_regs (fun off hi lo is => ?_) m
  rcases is with rfl | rfl
  · exact State.fld_setF_ne h _ _ _ _ _ ne
  · exact State.fld_setF_ne h _ _ _ _ _ ne'

theorem noNeedHeld {f : Nat → Option DomGoal} {n : Nat} (met : ∀ g, g ∈ requiresAny n → ∃ a, a ∈ g ∧ s.on a = true)
    (free : f n = none) : (n :: (requiresAny n).flatMap (fun g => if g.any s.on then [] else g.take 1)).any
      (fun m => (f m).isSome && !s.on m) = false := by
  have none_ : (requiresAny n).flatMap (fun g => if g.any s.on then [] else g.take 1) = [] := by
    rw [List.flatMap_eq_nil_iff]
    intro g mem
    obtain ⟨a, inside, on⟩ := met g mem
    rw [if_pos (List.any_eq_true.mpr ⟨a, inside, on⟩)]
  rw [none_, List.any_cons, free]
  rfl

/-- A domain whose request stands while a level holds it. -/
def State.heldOn (s : State) (n : Nat) : State :=
  { s with pwr := { s.pwr with held := if s.pwr.held.contains n then s.pwr.held else s.pwr.held ++ [n] } }

theorem State.mem_heldOn (n : Nat) : n ∈ (s.heldOn n).pwr.held := by
  change n ∈ (if s.pwr.held.contains n then s.pwr.held else s.pwr.held ++ [n])
  split
  case isTrue is => exact List.contains_iff_mem.mp is
  case isFalse => exact List.mem_append_right _ (List.mem_singleton_self n)

section
variable {n : Fin 32} (known : domKnown n = true)
include known

theorem domainOn_gives_turning (h : s.canonical = true) (none_ : s.pwr.ops = []) (due : s.pwr.bootDue = false) (off : s.domSt n = .off)
    (met : ∀ g, g ∈ requiresAny n → ∃ a, a ∈ g ∧ s.on a = true) (free : s.forcedDom n = none) (still : s.inTransit n = false)
    (whole : s.tel.isolated = []) (cold : s.pwr.coldOn = none) :
    Gives (.domainOn n) s (fun t => t.domSt n = .turningOn ∧ t.pwr.coldOn = some n.val
      ∧ t.fld (R.PWR_DOM_STAT (n - 1)) 3 0 = 0) := by
  have run : exec (.domainOn n) s = .next ((s.domStatus n 0).addOp .on n false) := by
    change execDomainOn n s = _
    rw [execDomainOn]
    dsimp only
    rw [known, State.on_of_off off, noNeedHeld (f := s.forcedDom) met free, still, whole]
    rfl
  have regs := State.canonical.regs h
  have shown := State.fld_status_self regs (R.PWR_DOM_STAT (n - 1)) (v := 0) (by decide)
  have forced := State.forcedDom_domStatus regs known 0 n
  have dom : (s.domStatus n 0).dom = s.dom := State.setF_dom ..
  have pwr : (s.domStatus n 0).pwr = s.pwr := State.setF_pwr ..
  change (s.domStatus n 0).fld (R.PWR_DOM_STAT (n - 1)) 3 0 = 0 at shown
  generalize s.domStatus n 0 = u at run shown forced dom pwr
  have on (a : Nat) : u.on a = s.on a := by rw [State.on, State.domSt, dom]; rfl
  have start : u.runOp ⟨.on, n, false, none, [], false⟩ 24 = (some ⟨.on, n, false, some n.val, [], false⟩, u.turningOn n) := by
    refine State.runOp_of_off ?_ (fun g mem => ?_) (forced.trans free) ?_
    · rw [State.domSt, dom]; exact off
    · obtain ⟨a, inside, is⟩ := met g mem
      exact ⟨a, inside, (on a).trans is⟩
    · rw [pwr]; exact cold
  rw [State.addOp_of_one (by rw [pwr]; exact none_) start (by rw [State.turningOn, pwr]; exact none_)
    (by rw [State.turningOn, pwr]; exact due) rfl] at run
  refine ⟨_, run, ?_, rfl, shown⟩
  exact Tbl.get_put_of_ne_default (d := fun _ => DomState.off) u.dom n.val (x := .turningOn) (by decide)

theorem exec_domainOn_of_on (on : s.on n = true) : exec (.domainOn n) s = .next (s.domStatus n 0) := by
  change execDomainOn n s = _
  rw [execDomainOn]
  dsimp only
  rw [known, on]
  rfl

theorem exec_domainOn_of_forced (off : s.on n = false) (forced : s.forcedDom n ≠ none) :
    exec (.domainOn n) s = .next ((s.heldOn n).domStatus n 6) := by
  have held : ((n.val :: (requiresAny n).flatMap (fun g => if g.any s.on then [] else g.take 1)).any
      (fun m => (s.forcedDom m).isSome && !s.on m)) = true := by
    rw [List.any_cons, off, Option.isSome_iff_ne_none.mpr forced]
    rfl
  change execDomainOn n s = _
  rw [execDomainOn]
  dsimp only
  rw [known, off, held]
  rfl

theorem domainOn_gives_held (h : s.canonical = true) (off : s.on n = false) (forced : s.forcedDom n ≠ none) :
    Gives (.domainOn n) s (fun t => t.dom = s.dom ∧ n.val ∈ t.pwr.held ∧ t.fld (R.PWR_DOM_STAT (n - 1)) 3 0 = 6) := by
  have wf : Tbl.wf regReset (s.heldOn n).regs = true := State.canonical.regs h
  refine ⟨_, exec_domainOn_of_forced known off forced, State.setF_dom .., ?_, State.fld_status_self wf _ (by decide)⟩
  rw [State.domStatus, State.setF_pwr]
  exact State.mem_heldOn n.val

end

/-! ## Taking down (R45, R46, R386) -/

theorem State.nextDown_of_dom {t : State} (same : t.dom = s.dom) (n : Nat) : t.nextDown n = s.nextDown n := by
  have st (m : Nat) : t.domSt m = s.domSt m := by rw [State.domSt, same, State.domSt]
  have stands (m : Nat) : t.stands m = s.stands m := by rw [State.stands, st, State.stands]
  have grow (c : List Nat) : t.growCascade c = s.growCascade c := by simp only [State.growCascade, stands]
  simp only [State.nextDown, State.cascade, grow, stands]

/-- No request for PDn stands, and no level holds it. -/
def State.requestDropped (s : State) (n : Nat) : State :=
  { s with pwr := { s.pwr with held := s.pwr.held.filter (· != n), shed := s.pwr.shed.filter (· != n) } }

/-- PDn's locks granted for an operation. -/
def State.domainLocked (s : State) (n : Nat) (a : Activity) : State :=
  ({ (s.requestDropped n).domStatus n 0 with maint := ((s.requestDropped n).domStatus n 0).maint ++ [(a, true)] } : State).maintEvent
    a 1

theorem State.maintTaken_frame (l : List (Activity × Bool)) (a : Activity) :
    (({ s with maint := l } : State).maintEvent a 1).dom = s.dom
      ∧ (({ s with maint := l } : State).maintEvent a 1).pwr = s.pwr
      ∧ (({ s with maint := l } : State).maintEvent a 1).clk = s.clk
      ∧ (({ s with maint := l } : State).maintEvent a 1).maint = l := by
  have told := State.maintEvent_within ({ s with maint := l } : State) a 1
  exact ⟨told.dom_eq (by decide), told.pwr_eq (by decide), told.clk_eq (by decide), told.maint_eq (by decide)⟩

theorem State.domainLocked_frame (n : Nat) (a : Activity) : (s.domainLocked n a).dom = s.dom
    ∧ (s.domainLocked n a).pwr = (s.requestDropped n).pwr ∧ (s.domainLocked n a).clk = s.clk
    ∧ (s.domainLocked n a).maint = s.maint ++ [(a, true)] := by
  have dom : ((s.requestDropped n).domStatus n 0).dom = s.dom := State.setF_dom ..
  have pwr : ((s.requestDropped n).domStatus n 0).pwr = (s.requestDropped n).pwr := State.setF_pwr ..
  have clk : ((s.requestDropped n).domStatus n 0).clk = s.clk := State.setF_clk ..
  have maint : ((s.requestDropped n).domStatus n 0).maint = s.maint := State.setF_maint ..
  rw [State.domainLocked]
  generalize (s.requestDropped n).domStatus n 0 = u at dom pwr clk maint
  obtain ⟨dom', pwr', clk', maint'⟩ := State.maintTaken_frame (s := u) (u.maint ++ [(a, true)]) a
  exact ⟨dom'.trans dom, pwr'.trans pwr, clk'.trans clk, maint'.trans (by rw [maint])⟩

theorem State.domDown_of_on {n : Nat} {act : DomAct} (known : domKnown n = true) (can : act = .retention → retainable n = true)
    (on : s.domSt n = .on) (free : grantable s.maint (.domain n act) = true) :
    s.domDown n act = State.startDomainOp n act (s.domainLocked n (.domain n act)) := by
  have refused : ¬ ((!domKnown n) = true ∨ (act = .retention ∧ (!retainable n) = true)) := by
    rintro (h | ⟨is, h⟩)
    · rw [known] at h
      exact Bool.false_ne_true h
    · rw [can is] at h
      exact Bool.false_ne_true h
  have maint : ((s.requestDropped n).domStatus n 0).maint = s.maint := State.setF_maint ..
  rw [State.domDown, if_neg refused]
  extract_lets pwr u
  have st : u.domSt n = .on := on
  rw [st]
  exact State.requestMaint_of_grantable (s := (s.requestDropped n).domStatus n 0) (by rw [maint]; exact free) _

/-- An operation that takes PDn down begins with PDn itself, which drains. -/
theorem State.runOp_of_down {goal : DomGoal} {n k : Nat} (down : goal ≠ .on) (on : s.domSt n = .on) (alone : s.nextDown n = n) :
    s.runOp ⟨goal, n, true, none, [], false⟩ (k + 1)
      = (some ⟨goal, n, true, some n, [], false⟩, s.startDrainDomain n (goal.stateOf n) 4) := by
  rw [State.runOp, if_neg (by decide : ¬ (Option.isSome (none : Option Nat)) = true), if_neg (by
    rintro (h | h)
    · exact Bool.false_ne_true h
    · exact down h)]
  dsimp only
  rw [alone, on]
  rfl

/-- PDn drains toward a state once its locks are granted. -/
theorem domDown_drains {n : Nat} {act : DomAct} {goal : DomGoal} (none_ : s.pwr.ops = []) (due : s.pwr.bootDue = false)
    (known : domKnown n = true) (can : act = .retention → retainable n = true) (on : s.domSt n = .on) (alone : s.nextDown n = n)
    (free : grantable s.maint (.domain n act) = true) (down : goal ≠ .on)
    (is : State.startDomainOp n act = fun s => s.addOp goal n true) :
    (s.domDown n act).domSt n = .draining
      ∧ (⟨n, goal.stateOf n, s.now + 100000⟩ : Going) ∈ (s.domDown n act).pwr.going
      ∧ (.domain n act, true) ∈ (s.domDown n act).maint := by
  rw [State.domDown_of_on known can on free, is]
  dsimp only
  obtain ⟨dom, pwr, clk, maint⟩ := State.domainLocked_frame (s := s) n (.domain n act)
  generalize s.domainLocked n (.domain n act) = u at dom pwr clk maint
  have run : u.runOp ⟨goal, n, true, none, [], false⟩ 24
      = (some ⟨goal, n, true, some n, [], false⟩, u.startDrainDomain n (goal.stateOf n) 4) :=
    State.runOp_of_down down (by rw [State.domSt, dom]; exact on) ((State.nextDown_of_dom dom n).trans alone)
  obtain ⟨dom', pwr', maint'⟩ := State.startDrainDomain_frame (s := u) n (goal.stateOf n) 4
  generalize u.startDrainDomain n (goal.stateOf n) 4 = v at run dom' pwr' maint'
  rw [State.addOp_of_one (by rw [pwr]; exact none_) run (by rw [pwr', pwr]; exact none_) (by rw [pwr', pwr]; exact due) rfl]
  refine ⟨?_, ?_, ?_⟩
  · change Tbl.get (fun _ => .off) v.dom n = .draining
    rw [dom']
    exact Tbl.get_put_of_ne_default (d := fun _ => DomState.off) u.dom n (x := .draining) (by decide)
  · change _ ∈ v.pwr.going
    rw [pwr', ← State.now_of_clk clk]
    exact List.mem_append_right _ (List.mem_singleton_self _)
  · change _ ∈ v.maint
    rw [maint', maint]
    exact List.mem_append_right _ (List.mem_singleton_self _)

theorem exec_domainRetention_of_refused {n : Fin 32} (known : domKnown n = true) (not : retainable n = false) :
    exec (.domainRetention n) s = .next (s.domStatus n 3) := by
  obtain ⟨low, high⟩ := domKnown_bounds known
  change Host.Outcome.next (s.domDown n DomAct.retention) = Host.Outcome.next (s.domStatus n 3)
  rw [State.domDown, if_pos (.inr ⟨rfl, by rw [not]; rfl⟩), State.domAnswer, if_pos ⟨by omega, high⟩]

/-! ## A transition ends (R46, R47) -/

theorem State.opStep_of_nil (none_ : s.pwr.ops = []) (n code : Nat) : s.opStep n code = s := by
  have same : s.opStep n code = s.withOps [] := by
    rw [State.opStep, none_]
    rfl
  rw [same, State.withOps_self none_]

/-- What a draining domain still holds discarded at the end of its window. -/
def State.leftDiscarded (s : State) (n : Nat) (g : Going) : State :=
  if s.entryCount n = 0 then s
  else ((s.reach g.deadline).discardEntries n).raise { code := 0x0105, sev := 1, kind := 5, index := n, arg0 := s.entryCount n }

theorem State.leftDiscarded_domKept (n : Nat) (g : Going) : DomKept s (s.leftDiscarded n g) := by
  unfold State.leftDiscarded
  split
  · exact .of_eq rfl rfl
  · refine DomKept.trans ?_ (.of_within (State.raise_within _ _) (by decide) (by decide))
    exact (DomKept.of_within (State.reach_within s g.deadline) (by decide) (by decide)).trans
      (.of_within (State.discardEntries_within _ n) (by decide) (by decide))

theorem domainDrainEnd_gives (h : s.canonical = true) {n : Fin 32} {g : Going} (none_ : s.pwr.ops = [])
    (due : s.pwr.bootDue = false) (going : s.pwr.going.find? (fun g => g.n == n.val) = some g)
    (quiet : s.enginesQuiet n = true) :
    Gives (.domainDrainEnd n) s (fun t => t.domSt n = g.target ∧ ∀ x, x ∈ t.pwr.going → x.n ≠ n.val) := by
  have run : exec (.domainDrainEnd n) s = .next ((((s.leftDiscarded n g).enterDomain n g.target).opStep n
      (if g.target = .retention then 1 else 0)).domainsGo) := by
    change execDomainDrainEnd n s = _
    rw [execDomainDrainEnd, going]
    dsimp only
    rw [quiet, if_neg (by decide)]
    rfl
  obtain ⟨dom, ops, gone, -, due'⟩ := State.leftDiscarded_domKept (s := s) n g
  generalize s.leftDiscarded n g = u at run dom ops gone due'
  obtain ⟨dom', ops', gone', due''⟩ := State.enterDomain_frame (s := u) n g.target
  generalize u.enterDomain n g.target = v at run dom' ops' gone' due''
  have still : v.pwr.ops = [] := ops'.trans (ops.trans none_)
  rw [State.opStep_of_nil still, State.domainsGo_of_nil still (due''.trans (due'.trans due))] at run
  refine ⟨_, run, ?_, fun x mem => ?_⟩
  · rw [State.domSt, dom', dom]
    exact Tbl.get_put_self (State.canonical.dom h) n.val g.target
  · rw [gone'] at mem
    exact bne_iff_ne.mp (List.mem_filter.mp mem).2

theorem domainOnDone_gives {n : Fin 32} {wires : List (Fin 16)} (none_ : s.pwr.ops = [])
    (due : s.pwr.bootDue = false) (turning : s.domSt n = .turningOn) :
    Gives (.domainOnDone n wires) s (fun t => t.on n = true ∧ t.pwr.coldOn ≠ some n.val) := by
  have run : exec (.domainOnDone n wires) s
      = .next (((s.domainOn n (s.pwr.coldOn == some n.val) (wires.map (·.val))).opStep n 2).domainsGo) := by
    change execDomainOnDone n wires s = _
    rw [execDomainOnDone, if_neg (fun ne => ne turning)]
  obtain ⟨dom, ops, cold, due'⟩ := State.domainOn_frame (s := s) n (s.pwr.coldOn == some n.val) (wires.map (·.val))
  generalize s.domainOn n (s.pwr.coldOn == some n.val) (wires.map (·.val)) = v at run dom ops cold due'
  have still : v.pwr.ops = [] := ops.trans none_
  rw [State.opStep_of_nil still, State.domainsGo_of_nil still (due'.trans due)] at run
  refine ⟨_, run, ?_, ?_⟩
  · rw [State.on, State.domSt, dom, Tbl.get_put_of_ne_default (d := fun _ => DomState.off) s.dom n.val (x := .on) (by decide)]
    rfl
  · rw [cold]
    split
    case isTrue => exact fun e => nomatch e
    case isFalse ne => exact ne

/-- Settles O52. -/
theorem domainsTurnOnAndOff : Obligations.DomainsTurnOnAndOff := by
  intro s n h none_ due
  refine ⟨fun known off met free still whole cold => domainOn_gives_turning known h none_ due off met free still whole cold,
    fun known on => exec_domainOn_of_on known on, fun known off forced => domainOn_gives_held known h off forced,
    fun known on alone free => ⟨_, rfl, ?_⟩, fun known can on alone free => ⟨_, rfl, ?_⟩,
    fun known not => exec_domainRetention_of_refused known not, fun g going quiet _ => domainDrainEnd_gives h none_ due going quiet,
    fun wires turning => domainOnDone_gives none_ due turning⟩
  · exact domDown_drains (goal := .off) none_ due known (fun e => nomatch e) on alone free (by decide) rfl
  · obtain ⟨st, going, -⟩ := domDown_drains (goal := .retention) none_ due known (fun _ => can) on alone free (by decide) rfl
    have target : DomGoal.retention.stateOf n.val = .retention := if_pos can
    rw [target] at going
    exact ⟨st, going⟩

end Sys2Proof.Machine

/-!
PROOFS. The supply, the M-states, heat and droop (R376 to R389).
-/
namespace Sys2Proof.Machine
variable {s : State}

/-! ## Forces that hold nothing (R377, R387) -/

theorem State.followForce_of_unforced {n : Nat} (free : s.forcedDom n = none) (shed : s.pwr.shed = []) (held : s.pwr.held = []) :
    s.followForce n = s := by
  rw [State.followForce, free]
  dsimp only
  rw [shed, held, if_neg (by rintro (h | h) <;> exact Bool.false_ne_true h)]

theorem State.forcedDom_of_low (low : s.level < 2) (m0 : s.wantM = 0) (n : Nat) : s.forcedDom n = none := by
  rw [State.forcedDom, m0, if_neg (by omega), if_neg (by omega), if_neg (by omega)]

/-- The M-state in force shown, and the lanes that it forbids off. -/
def State.forceShown (s : State) : State :=
  let s := s.setF R.PWR_MSTATE 29 28 s.wantM
  if s.oneLane then forEach (fun p (s : State) => s.trimLanes p) (s.ports.map (·.1)) s else s

theorem State.forceShown_within (s : State) : Within 13826002388 (s.setF R.PWR_MSTATE 29 28 s.wantM) s.forceShown := by
  unfold State.forceShown
  extract_lets u
  split
  · exact Within.stepEach (fun p t => State.trimLanes_within t p) (Within.refl _ u)
  · exact Within.refl _ u

theorem State.forceShown_frame (s : State) : s.forceShown.regs = (s.setF R.PWR_MSTATE 29 28 s.wantM).regs
    ∧ s.forceShown.dom = s.dom ∧ s.forceShown.pwr = s.pwr ∧ s.forceShown.clk = s.clk ∧ s.forceShown.boot = s.boot := by
  have trimmed := State.forceShown_within s
  refine ⟨trimmed.regs_eq (by decide), ?_, ?_, ?_, ?_⟩
  · rw [trimmed.dom_eq (by decide), State.setF_dom]
  · rw [trimmed.pwr_eq (by decide), State.setF_pwr]
  · rw [trimmed.clk_eq (by decide), State.setF_clk]
  · rw [trimmed.boot_eq (by decide), State.setF_boot]

theorem R.PWR_SUPPLY_STAT_ne_MSTATE : R.PWR_SUPPLY_STAT ≠ R.PWR_MSTATE := by decide

section
variable (wf : Tbl.wf regReset s.regs = true)
include wf

theorem State.level_forceShown : s.forceShown.level = s.level := by
  obtain ⟨regs, -⟩ := State.forceShown_frame s
  rw [State.level, State.fld_of_regs regs, State.fld_setF_ne wf _ _ _ _ _ R.PWR_SUPPLY_STAT_ne_MSTATE, State.level]

theorem State.wantM_forceShown : s.forceShown.wantM = s.wantM := by
  obtain ⟨regs, -⟩ := State.forceShown_frame s
  rw [State.wantM, State.level_forceShown wf, State.fld_of_regs regs,
    State.fld_setF_apart wf _ _ (by decide) (by decide) (.inr (by decide)), ← State.wantM]

/-- Where nothing is forced and nothing was shed, the domains stay as they are. -/
theorem State.applyForce_of_free {cause : Nat} (low : s.level < 2) (m0 : s.wantM = 0) (m3 : s.pwr.m3 = false) (wd : s.wd = none)
    (shed : s.pwr.shed = []) (held : s.pwr.held = []) : s.applyForce cause = s.forceShown := by
  obtain ⟨regs, -, pwr, -⟩ := State.forceShown_frame s
  have level := State.level_forceShown wf
  have want := State.wantM_forceShown wf
  have run : s.applyForce cause = forEach (fun n (s : State) => s.followForce n) heldDomains s.forceShown := by
    rw [State.applyForce, m0, if_neg (by decide), m3, if_neg (by decide), wd, if_neg (by decide)]
    dsimp only
    rw [State.forceShown, m0]
  rw [run]
  refine forEach_of_fixed (fun n => ?_) heldDomains
  exact State.followForce_of_unforced (State.forcedDom_of_low (by rw [level]; exact low) (by rw [want, m0]) n)
    (by rw [pwr, shed]) (by rw [pwr, held])

end

/-! ## Supply samples (R376 to R378) -/

/-- The instant of a sample. -/
def State.sampleDue (s : State) : State := match s.pwr.sampleAt with | some t => s.reach (t + 1000) | none => s

theorem State.sampleDue_within (s : State) : Within 7549747205 s s.sampleDue := by
  unfold State.sampleDue
  split
  · exact State.reach_within s _
  · exact Within.refl _ s

/-- A sample noted. -/
def State.sampleNoted (s : State) (l : List Nat) (watts : Nat) : State :=
  { s with pwr := { s.pwr with samples := l, sampleAt := some s.now, watts := watts } }

/-- A sample taken. -/
def State.sampled (s : State) (l : List Nat) (watts : Nat) : State := s.sampleDue.sampleNoted l watts

theorem State.sampleNoted_frame (l : List Nat) (watts : Nat) : (s.sampleNoted l watts).regs = s.regs
    ∧ (s.sampleNoted l watts).dom = s.dom ∧ (s.sampleNoted l watts).boot = s.boot ∧ (s.sampleNoted l watts).wd = s.wd
    ∧ (s.sampleNoted l watts).pwr.samples = l ∧ (s.sampleNoted l watts).pwr.watts = watts
    ∧ (s.sampleNoted l watts).pwr.m3 = s.pwr.m3 ∧ (s.sampleNoted l watts).pwr.shed = s.pwr.shed
    ∧ (s.sampleNoted l watts).pwr.held = s.pwr.held := ⟨rfl, rfl, rfl, rfl, rfl, rfl, rfl, rfl, rfl⟩

theorem State.sampled_frame (l : List Nat) (watts : Nat) : (s.sampled l watts).regs = s.regs ∧ (s.sampled l watts).dom = s.dom
    ∧ (s.sampled l watts).boot = s.boot ∧ (s.sampled l watts).wd = s.wd ∧ (s.sampled l watts).pwr.samples = l
    ∧ (s.sampled l watts).pwr.watts = watts ∧ (s.sampled l watts).pwr.m3 = s.pwr.m3
    ∧ (s.sampled l watts).pwr.shed = s.pwr.shed ∧ (s.sampled l watts).pwr.held = s.pwr.held := by
  have due := State.sampleDue_within s
  have pwr := due.pwr_eq (by decide)
  have regs := due.regs_eq (by decide)
  have dom := due.dom_eq (by decide)
  have boot := due.boot_eq (by decide)
  have wd := due.wd_eq (by decide)
  rw [State.sampled]
  generalize s.sampleDue = u at *
  rw [← pwr, ← regs, ← dom, ← boot, ← wd]
  exact State.sampleNoted_frame l watts

/-- The deepest level whose threshold the mean fell through. -/
def deepestFall (was l : List Nat) : Nat :=
  ([5, 4, 3, 2, 1].find? (fun n => below l (levelThreshold n) && !was.isEmpty && !below was (levelThreshold n))).getD 0

/-- The mean of the samples shown. -/
def State.meanShown (s : State) (l : List Nat) : State := s.setF R.PWR_SUPPLY_STAT 31 16 (l.sum / l.length)

/-- The levels down to the deepest one that was fallen through entered. -/
def State.fallen (s : State) (deepest : Nat) : State :=
  s.enterLevels (((List.range 5).map (· + 1)).filter (fun n => s.level < n && n ≤ deepest))

/-- The dwells and the good time of the input noted. -/
def State.dwelt (s : State) (l : List Nat) : State :=
  { s with pwr := { s.pwr with dwell := dwells l s.now s.level s.pwr.dwell },
           boot := { s.boot with goodSince := if below l 4300 then none else some (s.boot.goodSince.getD s.now) } }

/-- An input above 60.0 V told, once per second. -/
def State.overTold (s : State) (l : List Nat) : State :=
  if 6000 * l.length < l.sum ∧ overDue s.pwr.overAt s.now then
    ({ s with pwr := { s.pwr with overAt := some s.now } } : State).supplyEvent 7
  else s

/-- What a sample leads to. -/
def State.sampleJudged (s : State) (was l : List Nat) (watts : Nat) : Host.Outcome State Fault Refusal :=
  if below l 4000 ∨ 6400 * l.length < l.sum then .next (s.sampleNoted l watts).powerOff
  else .next ((((((s.sampleNoted l watts).meanShown l).fallen (deepestFall was l)).dwelt l).overTold l).cutBudgets).tryBoot

theorem exec_supplySample_of_on {v watts : Fin 65536} (on : s.on 1 = true) : exec (.supplySample v watts) s
    = s.sampleDue.sampleJudged s.sampleDue.pwr.samples ((v.val :: s.sampleDue.pwr.samples).take 100) watts := by
  change execSupplySample v watts s = _
  rw [execSupplySample, on, if_neg (by decide)]
  rfl

section
variable {v watts : Fin 65536} {l : List Nat} (is : l = (v.val :: s.pwr.samples).take 100) (on : s.on 1 = true)
include is on

theorem exec_supplySample_of_list :
    exec (.supplySample v watts) s = s.sampleDue.sampleJudged s.pwr.samples l watts := by
  rw [exec_supplySample_of_on on, (State.sampleDue_within s).pwr_eq (by decide), ← is]

theorem exec_supplySample_of_low (low : below l 4000 = true) :
    exec (.supplySample v watts) s = .next (s.sampled l watts).powerOff := by
  rw [exec_supplySample_of_list is on, State.sampleJudged, if_pos (.inl low)]
  rfl

theorem exec_supplySample_of_mean (above : below l 4000 = false) (high : l.sum ≤ 6000 * l.length) :
    exec (.supplySample v watts) s
      = .next ((((s.sampled l watts).meanShown l).fallen (deepestFall s.pwr.samples l)).dwelt l).cutBudgets.tryBoot := by
  have quiet (u : State) : u.overTold l = u := by
    rw [State.overTold, if_neg (by omega)]
  rw [exec_supplySample_of_list is on, State.sampleJudged, above, if_neg (fun e => e.elim Bool.false_ne_true (by omega)), quiet]
  rfl

end

theorem State.tryBoot_of_started (started : s.boot.waiting = false) : s.tryBoot = s := by
  unfold State.tryBoot
  extract_lets b
  split
  · rfl
  · exact if_neg (fun h => by rw [started] at h; exact Bool.false_ne_true h.1)

/-- What the rest of a sample leaves. -/
theorem State.dwelt_frame (started : s.boot.waiting = false) (l : List Nat) :
    (s.dwelt l).cutBudgets.tryBoot.regs = s.regs ∧ (s.dwelt l).cutBudgets.tryBoot.dom = s.dom
      ∧ (s.dwelt l).cutBudgets.tryBoot.pwr.samples = s.pwr.samples
      ∧ (s.dwelt l).cutBudgets.tryBoot.pwr.watts = s.pwr.watts := by
  have cut := State.cutBudgets_within (s.dwelt l)
  have boot : (s.dwelt l).cutBudgets.boot.waiting = false := by
    rw [cut.boot_eq (by decide)]
    exact started
  rw [State.tryBoot_of_started boot, cut.regs_eq (by decide), cut.dom_eq (by decide), cut.pwr_eq (by decide)]
  exact ⟨rfl, rfl, rfl, rfl⟩

theorem below_of_le {l : List Nat} {v : Nat} (h : v * l.length ≤ l.sum) : below l v = false :=
  decide_eq_false (by omega)

theorem below_of_lt {l : List Nat} {v : Nat} (h : l.sum < v * l.length) : below l v = true := decide_eq_true h

theorem deepestFall_of_none {was l : List Nat} (none_ : ∀ n : Nat, n < 6 → below l (levelThreshold n) = true →
    below was (levelThreshold n) = true) : deepestFall was l = 0 := by
  have stays (n : Nat) (lt : n < 6) : (below l (levelThreshold n) && !was.isEmpty && !below was (levelThreshold n)) = false := by
    cases is : below l (levelThreshold n) with
    | false => rfl
    | true => rw [none_ n lt is, Bool.not_true, Bool.and_false]
  simp only [deepestFall, List.find?_cons, List.find?_nil, stays 5 (by decide), stays 4 (by decide), stays 3 (by decide),
    stays 2 (by decide), stays 1 (by decide), Option.getD_none]

theorem deepestFall_of_first {was l : List Nat} (first : l.sum < 5000 * l.length) (stays : 4800 * l.length ≤ l.sum)
    (some_ : was ≠ []) (good : below was 5000 = false) : deepestFall was l = 1 := by
  have deeper (v : Nat) (le : v ≤ 4800) : below l v = false := below_of_le (by
    have := Nat.mul_le_mul_right l.length le
    omega)
  have there : was.isEmpty = false := List.isEmpty_eq_false_iff.mpr some_
  have first' : below l 5000 = true := below_of_lt first
  simp only [deepestFall, List.find?_cons, levelThreshold, deeper _ (by decide : 5200 - 200 * 5 ≤ 4800),
    deeper _ (by decide : 5200 - 200 * 4 ≤ 4800), deeper _ (by decide : 5200 - 200 * 3 ≤ 4800),
    deeper _ (by decide : 5200 - 200 * 2 ≤ 4800), first', there, good, Bool.false_and, Bool.not_false, Bool.and_true,
    Option.getD_some, if_neg (by decide : ¬ 1 = 0), if_neg (by decide : ¬ 2 = 0), if_neg (by decide : ¬ 3 = 0),
    if_neg (by decide : ¬ 4 = 0), if_neg (by decide : ¬ 5 = 0)]

theorem State.fallen_zero : s.fallen 0 = s := by
  have none_ : ((List.range 5).map (· + 1)).filter (fun n => s.level < n && n ≤ 0) = [] := by
    rw [List.filter_eq_nil_iff]
    intro n mem
    obtain ⟨k, -, rfl⟩ := List.mem_map.mp mem
    simp
  rw [State.fallen, none_]
  rfl

theorem State.fallen_one (level : s.level = 0) : s.fallen 1 = s.enterLevel 1 := by
  rw [State.fallen, level]
  rfl

theorem State.level_of_regs {t : State} (same : t.regs = s.regs) : t.level = s.level := State.fld_of_regs same _ _ _

section
variable (wf : Tbl.wf regReset s.regs = true) {l : List Nat}
include wf

theorem State.level_meanShown : (s.meanShown l).level = s.level := by
  rw [State.level, State.meanShown, State.fld_setF_apart wf _ _ (by decide) (by decide) (by decide), State.level]

theorem State.fld_meanShown (high : l.sum ≤ 6000 * l.length) :
    (s.meanShown l).fld R.PWR_SUPPLY_STAT 31 16 = l.sum / l.length := by
  refine State.fld_setF_self wf _ (by decide) (by decide) (Nat.lt_of_le_of_lt (Nat.div_le_of_le_mul ?_) (by decide : 6000 < 65536))
  rw [Nat.mul_comm]
  exact high

end

theorem State.meanShown_frame (l : List Nat) : (s.meanShown l).dom = s.dom ∧ (s.meanShown l).boot = s.boot
    ∧ (s.meanShown l).pwr = s.pwr ∧ (s.meanShown l).wd = s.wd := by
  rw [State.meanShown, State.setF_dom, State.setF_boot, State.setF_pwr, State.setF_wd]
  exact ⟨rfl, rfl, rfl, rfl⟩

theorem supplySample_gives_mean (h : s.canonical = true) {v watts : Fin 65536} {l : List Nat}
    (is : l = (v.val :: s.pwr.samples).take 100) (on : s.on 1 = true) (low : 4000 * l.length ≤ l.sum)
    (high : l.sum ≤ 6000 * l.length) (started : s.boot.waiting = false)
    (none_ : ∀ n : Nat, n < 6 → below l (levelThreshold n) = true → below s.pwr.samples (levelThreshold n) = true) :
    Gives (.supplySample v watts) s (fun t => t.pwr.samples = l ∧ t.pwr.watts = watts
      ∧ t.fld R.PWR_SUPPLY_STAT 31 16 = l.sum / l.length ∧ t.level = s.level ∧ t.dom = s.dom) := by
  have run := exec_supplySample_of_mean (watts := watts) is on (below_of_le low) high
  rw [deepestFall_of_none none_, State.fallen_zero] at run
  obtain ⟨regs, dom, boot, -, samples, power, -⟩ := State.sampled_frame (s := s) l watts
  have wf : Tbl.wf regReset (s.sampled l watts).regs = true := by rw [regs]; exact State.canonical.regs h
  have kept := (State.level_meanShown wf (l := l)).trans (State.level_of_regs regs)
  have shown := State.fld_meanShown wf high
  obtain ⟨dom', boot', pwr', -⟩ := State.meanShown_frame (s := s.sampled l watts) l
  generalize (s.sampled l watts).meanShown l = u at run kept shown dom' boot' pwr'
  obtain ⟨regs'', dom'', samples'', power''⟩ := State.dwelt_frame (s := u) (by rw [boot', boot]; exact started) l
  exact ⟨_, run, samples''.trans (by rw [pwr']; exact samples), power''.trans (by rw [pwr']; exact power),
    (State.fld_of_regs regs'' _ _ _).trans shown, (State.fld_of_regs regs'' _ _ _).trans kept,
    dom''.trans (dom'.trans dom)⟩

/-! ## PD01 off with the supply (R376, R377) -/

theorem State.stripped_frame (k : Keeps) (gone : k.memory = false) : (s.stripped k).homes = [] ∧ (s.stripped k).dp = .empty
    ∧ (s.stripped k).dom = State.reset.dom ∧ (s.stripped k).boot = { s.boot with program := none, report := none } := by
  refine ⟨?_, ?_, rfl, rfl⟩
  · change (if k.memory then _ else []) = _
    rw [gone, if_neg (by decide)]
  · change (if k.memory then _ else Datapath.empty) = _
    rw [gone, if_neg (by decide)]

/-- What an abrupt stop leaves. -/
theorem State.abruptStop_frame (cause : Nat) : (s.abruptStop cause).homes = [] ∧ (s.abruptStop cause).dp = .empty
    ∧ (s.abruptStop cause).dom = State.reset.dom ∧ (s.abruptStop cause).boot.waiting = true
    ∧ (s.abruptStop cause).boot.cause = cause ∧ (s.abruptStop cause).boot.tripped = s.boot.tripped := by
  have dark := (State.darken_within s).boot_eq (by decide)
  obtain ⟨homes, dp, dom, boot⟩ := State.stripped_frame (s := s.darken) keepModule rfl
  have lanes : Within 16386 (s.darken.stripped keepModule) (s.darken.strip keepModule) :=
    Within.stepEach (fun e t => State.remapLanes_within t e) (Within.refl _ _)
  have tripped : (s.darken.strip keepModule).boot.tripped = s.boot.tripped := by
    rw [lanes.boot_eq (by decide), boot, dark]
  have homes' := (lanes.homes_eq (by decide)).trans homes
  have dp' := (lanes.dp_eq (by decide)).trans dp
  have dom' := (lanes.dom_eq (by decide)).trans dom
  rw [State.abruptStop]
  generalize s.darken.strip keepModule = u at homes' dp' dom' tripped
  exact ⟨homes', dp', dom', rfl, rfl, tripped⟩

theorem State.powerOff_frame : s.powerOff.dom = [] ∧ s.powerOff.boot.waiting = true ∧ s.powerOff.boot.kind = 0
    ∧ s.powerOff.homes = [] ∧ s.powerOff.dp = State.reset.dp := by
  obtain ⟨homes, dp, -, waiting, -⟩ := State.abruptStop_frame (s := s) 4
  rw [State.powerOff]
  generalize s.abruptStop 4 = u at homes dp waiting
  exact ⟨rfl, waiting, rfl, homes, dp⟩

/-! ## Entry to the first level (R377, R379, R388) -/

/-- The first level shown, counted and logged. -/
def State.firstShown (s : State) : State :=
  let s := (s.setF R.PWR_SUPPLY_STAT 15 13 1).bump C.PWR_SHED_ENTRIES 1
  s.setF R.PWR_SUPPLY_LOG 30 28 (max 1 (s.fld R.PWR_SUPPLY_LOG 30 28))

/-- The first level shown and told, its budgets cut and the pages' moves given up. -/
def State.firstLevel (s : State) : State := ((s.firstShown.supplyEvent 1).cutBudgets).abandonMoves (fun _ => true)

theorem State.enterLevel_one : s.enterLevel 1 = s.firstLevel.applyForce 4 := rfl

theorem State.firstLevel_within : Within 939679764 s.firstShown s.firstLevel := by
  rw [State.firstLevel]
  exact State.abandonMoves_step (by decide) (State.cutBudgets_step (by decide)
    (State.supplyEvent_step (by decide) (Within.refl _ s.firstShown)))

theorem State.firstShown_within : Within 6 s s.firstShown := by
  unfold State.firstShown
  extract_lets u
  exact State.setF_step (by decide) (State.bump_step (by decide) (State.setF_step (by decide) (Within.refl _ s)))

section
variable (wf : Tbl.wf regReset s.regs = true)
include wf

theorem State.firstShown_wf : Tbl.wf regReset s.firstShown.regs = true :=
  State.setF_regs_wf (State.setF_regs_wf wf R.PWR_SUPPLY_STAT 15 13 1) _ _ _ _

theorem State.fld_firstShown : s.firstShown.level = 1 ∧ s.firstShown.fld R.PWR_MSTATE 31 30 = s.fld R.PWR_MSTATE 31 30
    ∧ s.firstShown.fld R.PWR_SUPPLY_LOG 30 28 = max 1 (s.fld R.PWR_SUPPLY_LOG 30 28) := by
  unfold State.firstShown
  extract_lets u
  have regs : u.regs = (s.setF R.PWR_SUPPLY_STAT 15 13 1).regs := (State.bump_within _ _ _).regs_eq (by decide)
  have wf' : Tbl.wf regReset u.regs = true := by rw [regs]; exact State.setF_regs_wf wf R.PWR_SUPPLY_STAT 15 13 1
  have fields := State.fld_of_regs regs
  have log : u.fld R.PWR_SUPPLY_LOG 30 28 = s.fld R.PWR_SUPPLY_LOG 30 28 := by
    rw [fields, State.fld_setF_ne wf _ _ _ _ _ (by decide)]
  have low : u.fld R.PWR_SUPPLY_LOG 30 28 < 8 := Word.fld_lt _ 30 28
  refine ⟨?_, ?_, ?_⟩
  · rw [State.level, State.fld_setF_ne wf' _ _ _ _ _ (by decide), fields]
    exact State.fld_setF_self wf _ (by decide) (by decide) (by decide)
  · rw [State.fld_setF_ne wf' _ _ _ _ _ (by decide), fields, State.fld_setF_ne wf _ _ _ _ _ (by decide)]
  · rw [← log]
    exact State.fld_setF_self wf' _ (by decide) (by decide) (Nat.max_lt.mpr ⟨by decide, low⟩)

/-- With M0 requested the first level takes nothing down. -/
theorem State.enterLevel_one_frame (m0 : s.fld R.PWR_MSTATE 31 30 = 0) (m3 : s.pwr.m3 = false) (wd : s.wd = none)
    (shed : s.pwr.shed = []) (held : s.pwr.held = []) : (s.enterLevel 1).level = 1 ∧ (s.enterLevel 1).dom = s.dom
      ∧ (s.enterLevel 1).fld R.PWR_SUPPLY_LOG 30 28 = max 1 (s.fld R.PWR_SUPPLY_LOG 30 28)
      ∧ (s.enterLevel 1).boot = s.boot := by
  have shown := State.firstShown_within (s := s)
  obtain ⟨level, request, log⟩ := State.fld_firstShown wf
  have wf' := State.firstShown_wf wf
  have entered := State.firstLevel_within (s := s)
  have regs := entered.regs_eq (by decide)
  have pwr := (entered.pwr_eq (by decide)).trans (shown.pwr_eq (by decide))
  have dom := (entered.dom_eq (by decide)).trans (shown.dom_eq (by decide))
  have boot := (entered.boot_eq (by decide)).trans (shown.boot_eq (by decide))
  have wd' := (entered.wd_eq (by decide)).trans (shown.wd_eq (by decide))
  have fields := State.fld_of_regs regs
  rw [State.enterLevel_one]
  generalize s.firstLevel = u at regs pwr dom boot wd' fields
  have wfu : Tbl.wf regReset u.regs = true := by rw [regs]; exact wf'
  have level' : u.level = 1 := (State.level_of_regs regs).trans level
  have want : u.wantM = 0 := by
    rw [State.wantM, level', fields, request, m0]
    decide
  obtain ⟨regs', dom', -, -, boot'⟩ := State.forceShown_frame u
  rw [State.applyForce_of_free wfu (by rw [level']; decide) want (by rw [pwr]; exact m3) (by rw [wd']; exact wd)
    (by rw [pwr]; exact shed) (by rw [pwr]; exact held)]
  refine ⟨(State.level_forceShown wfu).trans level', dom'.trans dom, ?_, boot'.trans boot⟩
  rw [State.fld_of_regs regs', State.fld_setF_ne wfu _ _ _ _ _ (by decide), fields, log]

end

theorem supplySample_gives_first (h : s.canonical = true) {v watts : Fin 65536} {l : List Nat}
    (is : l = (v.val :: s.pwr.samples).take 100) (on : s.on 1 = true) (first : l.sum < 5000 * l.length)
    (stays : 4800 * l.length ≤ l.sum) (some_ : s.pwr.samples ≠ []) (good : below s.pwr.samples 5000 = false)
    (started : s.boot.waiting = false) (level : s.level = 0) (m0 : s.fld R.PWR_MSTATE 31 30 = 0) (m3 : s.pwr.m3 = false)
    (wd : s.wd = none) (shed : s.pwr.shed = []) (held : s.pwr.held = []) :
    Gives (.supplySample v watts) s (fun t => t.level = 1 ∧ t.dom = s.dom
      ∧ t.fld R.PWR_SUPPLY_LOG 30 28 = max 1 (s.fld R.PWR_SUPPLY_LOG 30 28)) := by
  have run := exec_supplySample_of_mean (watts := watts) is on (below_of_le (by omega)) (by omega)
  rw [deepestFall_of_first first stays some_ good] at run
  obtain ⟨regs, dom, boot, wd', -, -, m3', shed', held'⟩ := State.sampled_frame (s := s) l watts
  have wf : Tbl.wf regReset (s.sampled l watts).regs = true := by rw [regs]; exact State.canonical.regs h
  have level' := (State.level_meanShown wf (l := l)).trans ((State.level_of_regs regs).trans level)
  have fields (off hi lo : Nat) (ne : off ≠ R.PWR_SUPPLY_STAT) : ((s.sampled l watts).meanShown l).fld off hi lo = s.fld off hi lo := by
    rw [State.meanShown, State.fld_setF_ne wf _ _ _ _ _ ne, State.fld_of_regs regs]
  have wf' : Tbl.wf regReset ((s.sampled l watts).meanShown l).regs = true := State.setF_regs_wf wf _ _ _ _
  obtain ⟨dom', boot', pwr', wd''⟩ := State.meanShown_frame (s := s.sampled l watts) l
  generalize (s.sampled l watts).meanShown l = u at run level' fields wf' dom' boot' pwr' wd''
  rw [State.fallen_one level'] at run
  obtain ⟨entered, dom'', log, boot''⟩ := State.enterLevel_one_frame wf' ((fields _ _ _ (by decide)).trans m0)
    (by rw [pwr', m3', m3]) (by rw [wd'', wd', wd]) (by rw [pwr', shed', shed]) (by rw [pwr', held', held])
  generalize u.enterLevel 1 = x at run entered dom'' log boot''
  obtain ⟨regs3, dom3, -⟩ := State.dwelt_frame (s := x) (by rw [boot'', boot', boot]; exact started) l
  exact ⟨_, run, (State.level_of_regs regs3).trans entered, dom3.trans (dom''.trans (dom'.trans dom)),
    (State.fld_of_regs regs3 _ _ _).trans (log.trans (by rw [fields _ _ _ (by decide)]))⟩

/-! ## A level released (R378) -/

/-- The dwell of a level gone. -/
def State.dwellGone (s : State) (n : Nat) : State :=
  { s with pwr := { s.pwr with dwell := Tbl.put (fun _ => none) s.pwr.dwell n none } }

theorem State.dwellGone_frame (n : Nat) : (s.dwellGone n).regs = s.regs ∧ (s.dwellGone n).dom = s.dom
    ∧ (s.dwellGone n).clk = s.clk ∧ (s.dwellGone n).wd = s.wd ∧ (s.dwellGone n).pwr.m3 = s.pwr.m3
    ∧ (s.dwellGone n).pwr.shed = s.pwr.shed ∧ (s.dwellGone n).pwr.held = s.pwr.held := ⟨rfl, rfl, rfl, rfl, rfl, rfl, rfl⟩

/-- The deepest level released once its dwell is complete. -/
def State.levelReleased (s : State) (n t0 : Nat) : State :=
  (((s.reach (t0 + 10000000)).setF R.PWR_SUPPLY_STAT 15 13 (n - 1)).dwellGone n).supplyEvent (8 + n)

theorem State.levelReleased_frame (n t0 : Nat) :
    (s.levelReleased n t0).regs = (s.setF R.PWR_SUPPLY_STAT 15 13 (n - 1)).regs ∧ (s.levelReleased n t0).dom = s.dom
      ∧ (s.levelReleased n t0).now = max s.now (t0 + 10000000) ∧ (s.levelReleased n t0).wd = s.wd
      ∧ (s.levelReleased n t0).pwr.m3 = s.pwr.m3 ∧ (s.levelReleased n t0).pwr.shed = s.pwr.shed
      ∧ (s.levelReleased n t0).pwr.held = s.pwr.held := by
  have reached := State.reach_within s (t0 + 10000000)
  have now := State.now_reach (s := s) (t0 + 10000000)
  have regs : ((s.reach (t0 + 10000000)).setF R.PWR_SUPPLY_STAT 15 13 (n - 1)).regs = (s.setF R.PWR_SUPPLY_STAT 15 13 (n - 1)).regs := by
    have same := reached.regs_eq (by decide)
    generalize s.reach (t0 + 10000000) = u at same
    rw [State.setF, State.wr, State.setF, State.wr, State.rd, State.rd, same]
  have dom : ((s.reach (t0 + 10000000)).setF R.PWR_SUPPLY_STAT 15 13 (n - 1)).dom = s.dom := by
    rw [State.setF_dom, reached.dom_eq (by decide)]
  have pwr : ((s.reach (t0 + 10000000)).setF R.PWR_SUPPLY_STAT 15 13 (n - 1)).pwr = s.pwr := by
    rw [State.setF_pwr, reached.pwr_eq (by decide)]
  have wd : ((s.reach (t0 + 10000000)).setF R.PWR_SUPPLY_STAT 15 13 (n - 1)).wd = s.wd := by
    rw [State.setF_wd, reached.wd_eq (by decide)]
  have now' : ((s.reach (t0 + 10000000)).setF R.PWR_SUPPLY_STAT 15 13 (n - 1)).now = max s.now (t0 + 10000000) :=
    (State.now_of_clk (State.setF_clk _ _ _ _ _)).trans now
  unfold State.levelReleased
  generalize (s.reach (t0 + 10000000)).setF R.PWR_SUPPLY_STAT 15 13 (n - 1) = u at regs dom pwr wd now'
  obtain ⟨regs', dom', clk', wd', m3', shed', held'⟩ := State.dwellGone_frame (s := u) n
  have told := State.supplyEvent_within (u.dwellGone n) (8 + n)
  have power := told.pwr_eq (by decide)
  rw [← dom, ← now', ← wd, ← pwr, ← regs]
  refine ⟨(told.regs_eq (by decide)).trans regs', (told.dom_eq (by decide)).trans dom',
    State.now_of_clk ((told.clk_eq (by decide)).trans clk'), (told.wd_eq (by decide)).trans wd', ?_, ?_, ?_⟩
  · rw [power, m3']
  · rw [power, shed']
  · rw [power, held']

theorem exec_shedRelease_of_dwell {t0 n : Nat} (level : s.level = n) (some_ : n ≠ 0)
    (dwell : Tbl.get (fun _ => none) s.pwr.dwell n = some t0) :
    exec .shedRelease s = .next ((s.levelReleased n t0).applyForce 4) := by
  change execShedRelease s = _
  rw [execShedRelease]
  dsimp only
  rw [level, dwell]
  dsimp only
  rw [if_neg some_]
  rfl

theorem shedRelease_gives (h : s.canonical = true) {t0 : Nat} (level : s.level = 1)
    (dwell : Tbl.get (fun _ => none) s.pwr.dwell 1 = some t0) (m0 : s.fld R.PWR_MSTATE 31 30 = 0) (m3 : s.pwr.m3 = false)
    (wd : s.wd = none) (shed : s.pwr.shed = []) (held : s.pwr.held = []) :
    Gives .shedRelease s (fun t => t.level = 0 ∧ t.now = max s.now (t0 + 10000000) ∧ t.dom = s.dom) := by
  have run := exec_shedRelease_of_dwell level (by decide) dwell
  have wf := State.canonical.regs h
  obtain ⟨regs, dom, now, wd', m3', shed', held'⟩ := State.levelReleased_frame (s := s) 1 t0
  have shown : (s.levelReleased 1 t0).level = 0 := (State.level_of_regs regs).trans
    (State.fld_setF_self wf _ (by decide) (by decide) (by decide))
  have request : (s.levelReleased 1 t0).fld R.PWR_MSTATE 31 30 = 0 := by
    rw [State.fld_of_regs regs, State.fld_setF_ne wf _ _ _ _ _ (by decide), m0]
  have wf' : Tbl.wf regReset (s.levelReleased 1 t0).regs = true := by rw [regs]; exact State.setF_regs_wf wf _ _ _ _
  generalize s.levelReleased 1 t0 = u at run dom now wd' m3' shed' held' shown request wf'
  have want : u.wantM = 0 := by
    rw [State.wantM, shown, request]
    decide
  rw [State.applyForce_of_free wf' (by rw [shown]; decide) want (m3'.trans m3) (wd'.trans wd) (shed'.trans shed)
    (held'.trans held)] at run
  obtain ⟨-, dom', -, clk, -⟩ := State.forceShown_frame u
  exact ⟨_, run, (State.level_forceShown wf').trans shown, (State.now_of_clk clk).trans now, dom'.trans dom⟩

theorem supplyLogClear_gives (h : s.canonical = true) : Gives .supplyLogClear s (fun t => Only [.regs] s t
    ∧ t.fld R.PWR_SUPPLY_LOG 30 28 = 0 ∧ t.fld R.PWR_SUPPLY_LOG 15 0 = 0
    ∧ ∀ off, off ≠ R.PWR_SUPPLY_LOG → t.rd off = s.rd off) := by
  have wf := State.canonical.regs h
  have wf' := State.setF_regs_wf wf R.PWR_SUPPLY_LOG 30 28 0
  refine ⟨(s.setF R.PWR_SUPPLY_LOG 30 28 0).setF R.PWR_SUPPLY_LOG 15 0 0, rfl, ?_, ?_, ?_, fun off ne => ?_⟩
  · have all : Within 2 s ((s.setF R.PWR_SUPPLY_LOG 30 28 0).setF R.PWR_SUPPLY_LOG 15 0 0) :=
      State.setF_step rfl (State.setF_step rfl (Within.refl _ s))
    exact all.only fun p hp => by revert hp; cases p <;> decide
  · rw [State.fld_setF_apart wf' _ _ (by decide) (by decide) (by decide)]
    exact State.fld_setF_self wf _ (by decide) (by decide) (by decide)
  · exact State.fld_setF_self wf' _ (by decide) (by decide) (by decide)
  · rw [State.rd_setF_ne wf' _ _ _ ne, State.rd_setF_ne wf _ _ _ ne]

/-! ## Requests for an M-state (R387, R388) -/

/-- A request and its wake time written. -/
def State.mRequested (s : State) (req wake : Nat) : State := (s.setF R.PWR_MSTATE 31 30 req).setF R.PWR_MSTATE 15 0 wake

theorem exec_mstateRequest_eq (req : Fin 4) (wake : Fin 65536) :
    exec (.mstateRequest req wake) s = .next ((s.mRequested req wake).applyForce 0) := rfl

theorem State.mRequested_within (req wake : Nat) : Within 2 s (s.mRequested req wake) :=
  State.setF_step rfl (State.setF_step rfl (Within.refl _ _))

section
variable (wf : Tbl.wf regReset s.regs = true) {req wake : Nat} (fits : req < 4) (short : wake < 65536)
include wf fits short

theorem State.fld_mRequested : (s.mRequested req wake).fld R.PWR_MSTATE 31 30 = req
    ∧ (s.mRequested req wake).fld R.PWR_MSTATE 15 0 = wake ∧ (s.mRequested req wake).level = s.level
    ∧ Tbl.wf regReset (s.mRequested req wake).regs = true := by
  have wf' := State.setF_regs_wf wf R.PWR_MSTATE 31 30 req
  rw [State.mRequested]
  refine ⟨?_, ?_, ?_, State.setF_regs_wf wf' _ _ _ _⟩
  · rw [State.fld_setF_apart wf' _ _ (by decide) (by decide) (by decide)]
    exact State.fld_setF_self wf _ (by decide) (by decide) fits
  · exact State.fld_setF_self wf' _ (by decide) (by decide) short
  · rw [State.level, State.fld_setF_ne wf' _ _ _ _ _ (by decide), State.fld_setF_ne wf _ _ _ _ _ (by decide), State.level]

end

theorem mstateRequest_gives_m0 (h : s.canonical = true) {wake : Fin 65536} (level : s.level = 0) (m3 : s.pwr.m3 = false)
    (wd : s.wd = none) (shed : s.pwr.shed = []) (held : s.pwr.held = []) :
    Gives (.mstateRequest 0 wake) s (fun t => Only [.regs] s t ∧ t.fld R.PWR_MSTATE 31 28 = 0
      ∧ t.fld R.PWR_MSTATE 15 0 = wake) := by
  have run := exec_mstateRequest_eq (s := s) 0 wake
  obtain ⟨request, waits, level', wf⟩ := State.fld_mRequested (State.canonical.regs h) (req := (0 : Fin 4)) (by decide) wake.isLt
  have asked := State.mRequested_within (s := s) (0 : Fin 4) wake
  have pwr := asked.pwr_eq (by decide)
  have wd' := asked.wd_eq (by decide)
  generalize s.mRequested (0 : Fin 4) wake = u at run request waits level' wf asked pwr wd'
  have want : u.wantM = 0 := by
    rw [State.wantM, level', level, request]
    rfl
  rw [State.applyForce_of_m0 wf 0 (level'.trans level) want (by rw [pwr]; exact m3) (wd'.trans wd) (by rw [pwr]; exact shed)
    (by rw [pwr]; exact held)] at run
  refine ⟨_, run, ?_, Word.fld_eq_zero_of_halves ?_ ?_, ?_⟩
  · have all : Within 2 s (u.setF R.PWR_MSTATE 29 28 0) := State.setF_step rfl asked
    exact all.only fun p hp => by revert hp; cases p <;> decide
  · exact (State.fld_setF_apart wf _ _ (by decide) (by decide) (by decide)).trans request
  · exact State.fld_setF_self wf _ (by decide) (by decide) (by decide)
  · exact (State.fld_setF_apart wf _ _ (by decide) (by decide) (by decide)).trans waits

theorem mstateRequest_gives_m3 (h : s.canonical = true) {wake : Fin 65536} (m3 : s.pwr.m3 = false)
    (wd : s.wd = none) : Gives (.mstateRequest 3 wake) s (fun t => t.wd = some ⟨s.now + 100000, [.m3]⟩
      ∧ t.fld R.PWR_MSTATE 31 30 = 3 ∧ t.dom = s.dom) := by
  have run := exec_mstateRequest_eq (s := s) 3 wake
  obtain ⟨request, -, level', -⟩ := State.fld_mRequested (State.canonical.regs h) (req := (3 : Fin 4)) (by decide) wake.isLt
  have asked := State.mRequested_within (s := s) (3 : Fin 4) wake
  have now := State.now_of_clk (asked.clk_eq (by decide))
  have pwr := asked.pwr_eq (by decide)
  have wd' := asked.wd_eq (by decide)
  have dom := asked.dom_eq (by decide)
  generalize s.mRequested (3 : Fin 4) wake = u at run request level' now pwr wd' dom
  have forced : forcedM s.level ≤ 3 := by
    unfold forcedM
    repeat' split
    all_goals decide
  have want : u.wantM = 3 := by
    rw [State.wantM, level', request]
    exact Nat.max_eq_left forced
  have awake : ¬ u.pwr.m3 = true := by rw [pwr, m3]; decide
  rw [State.applyForce, if_pos want, if_neg awake] at run
  have left := State.beginWithdraw_wd_of_none (s := u) .m3 (if u.level = 5 then 2 else 3) (wd'.trans wd)
  have frame := State.beginWithdraw_within u .m3 (if u.level = 5 then 2 else 3)
  rw [now] at left
  exact ⟨_, run, left, (State.fld_of_regs (frame.regs_eq (by decide)) _ _ _).trans request, (frame.dom_eq (by decide)).trans dom⟩

/-- The wake timer's instant, with M0 requested. -/
def State.wokenAt (s : State) (t0 : Nat) : State :=
  ({ s.reach t0 with pwr := { s.pwr with wakeAt := none } } : State).setF R.PWR_MSTATE 31 30 0

theorem exec_m3WakeTimer_of_due (h : s.canonical = true) {t0 : Nat} (due : s.pwr.wakeAt = some t0) (level : s.level = 0)
    (m3 : s.pwr.m3 = true) : exec .m3WakeTimer s = .next ((s.wokenAt t0).leaveM3 0) := by
  have reached := State.reach_within s t0
  have run : exec .m3WakeTimer s = .next ((s.wokenAt t0).applyForce 0) := by
    change execM3WakeTimer s = _
    rw [execM3WakeTimer, due]
    dsimp only
    rw [reached.pwr_eq (by decide)]
    rfl
  have wf : Tbl.wf regReset (s.reach t0).regs = true := by rw [State.reach_regs]; exact State.canonical.regs h
  have asleep : (s.wokenAt t0).pwr.m3 = true := by
    rw [State.wokenAt, State.setF_pwr]
    exact m3
  have request : (s.wokenAt t0).fld R.PWR_MSTATE 31 30 = 0 := State.fld_setF_self wf _ (by decide) (by decide) (by decide)
  have level' : (s.wokenAt t0).level = 0 := by
    refine (State.fld_setF_ne wf _ _ _ _ _ (by decide)).trans ?_
    exact (State.fld_of_regs (State.reach_regs t0) _ _ _).trans level
  have want : (s.wokenAt t0).wantM = 0 := by
    rw [State.wantM, level', request]
    rfl
  rw [run, State.applyForce, want, if_neg (by decide), if_pos asleep]

/-! ## Droop (R385) -/

theorem droopDetect_gives (h : s.canonical = true) {i : Fin 112} (works : s.works (islandDomain i) = true)
    (free : s.pwr.stretched.contains i.val = false) : Gives (.droopDetect i) s (fun t => Only [.pwr, .cnt] s t
      ∧ i.val ∈ t.pwr.stretched ∧ t.count C.PWR_STRETCH = (s.count C.PWR_STRETCH + 1) % 2 ^ 64) := by
  have run : exec (.droopDetect i) s = .next
      (({ s with pwr := { s.pwr with stretched := s.pwr.stretched ++ [i.val] } } : State).bump C.PWR_STRETCH 1) := by
    change execDroopDetect i s = _
    rw [execDroopDetect, works, free, if_neg (by decide)]
  have wf : Tbl.wf (fun _ => 0) ({ s with pwr := { s.pwr with stretched := s.pwr.stretched ++ [i.val] } } : State).cnt = true :=
    State.canonical.cnt h
  refine ⟨_, run, ?_, List.mem_append_right _ (List.mem_singleton_self _), State.count_bump_self wf _ 1⟩
  have all : Within 2097156 s
      (({ s with pwr := { s.pwr with stretched := s.pwr.stretched ++ [i.val] } } : State).bump C.PWR_STRETCH 1) :=
    State.bump_step (by decide) (Within.upd_pwr (by decide) (Within.refl _ s))
  exact all.only fun p hp => by revert hp; cases p <;> decide

theorem droopRelease_gives {i : Fin 112} : Gives (.droopRelease i) s (fun t => Only [.pwr] s t ∧ i.val ∉ t.pwr.stretched) := by
  refine ⟨{ s with pwr := { s.pwr with stretched := s.pwr.stretched.filter (· != i.val) } }, rfl, ?_, fun mem => ?_⟩
  · have all : Within 2097152 s { s with pwr := { s.pwr with stretched := s.pwr.stretched.filter (· != i.val) } } :=
      Within.upd_pwr (by decide) (Within.refl _ s)
    exact all.only fun p hp => by revert hp; cases p <;> decide
  · exact bne_iff_ne.mp (List.mem_filter.mp mem).2 rfl

/-! ## Heat (R383, R384, R389) -/

/-- The temperatures, the domains and the boot's state are as before. -/
def TempsKept (s t : State) : Prop := t.pwr.coreTemp = s.pwr.coreTemp ∧ t.pwr.hubTemp = s.pwr.hubTemp
  ∧ t.pwr.dieTemps = s.pwr.dieTemps ∧ t.pwr.stackTemps = s.pwr.stackTemps ∧ t.dom = s.dom ∧ t.boot = s.boot

theorem TempsKept.trans {t u : State} (h : TempsKept s t) (k : TempsKept t u) : TempsKept s u := by
  obtain ⟨core, hub, die, stack, dom, boot⟩ := h
  obtain ⟨core', hub', die', stack', dom', boot'⟩ := k
  exact ⟨core'.trans core, hub'.trans hub, die'.trans die, stack'.trans stack, dom'.trans dom, boot'.trans boot⟩

theorem TempsKept.of_eq {t : State} (pwr : t.pwr = s.pwr) (dom : t.dom = s.dom) (boot : t.boot = s.boot) : TempsKept s t :=
  ⟨congrArg Power.coreTemp pwr, congrArg Power.hubTemp pwr, congrArg Power.dieTemps pwr, congrArg Power.stackTemps pwr, dom, boot⟩

theorem TempsKept.of_within {m : Nat} {t : State} (h : Within m s t) (pwr : m.testBit 21 = false) (dom : m.testBit 3 = false)
    (boot : m.testBit 24 = false) : TempsKept s t := .of_eq (h.pwr_eq pwr) (h.dom_eq dom) (h.boot_eq boot)

theorem TempsKept.each {α : Type} {f : α → State → State} (k : ∀ x s, TempsKept s (f x s)) :
    ∀ (l : List α) (s : State), TempsKept s (forEach f l s)
  | [], _ => .of_eq rfl rfl rfl
  | x :: l, s => (k x s).trans (TempsKept.each k l (f x s))

theorem TempsKept.headroom {t : State} (h : TempsKept s t) (d : Nat) : t.headroom d = s.headroom d := by
  obtain ⟨-, -, die, stack, -⟩ := h
  rw [State.headroom, die, stack, State.headroom]

theorem TempsKept.tripsAt {t : State} (h : TempsKept s t) (less : Int) : t.tripsAt less = s.tripsAt less := by
  obtain ⟨core, hub, die, stack, -⟩ := h
  rw [State.tripsAt, core, hub, die, stack, State.tripsAt]

/-- The thermal row of a die after a sample: the present factor, the one wanted and whether it may climb. -/
def heatRow (pct want : Nat) (climbs : Bool) : Nat := if want ≤ pct then want else if climbs then rowUp pct want else pct

theorem heatRow_le {pct want : Nat} {climbs : Bool} : heatRow pct want climbs ≤ want := by
  unfold heatRow rowUp
  split
  · exact Nat.le_refl _
  · split
    · exact Nat.min_le_left _ _
    · omega

/-- The climb of a die's factor noted. -/
def State.climbNoted (s : State) (d : Nat) (since : Option Nat) (climbs : Bool) : State :=
  { s with pwr := { s.pwr with
    calmSince := Tbl.put (fun _ => none) s.pwr.calmSince d since,
    roseAt := if climbs then Tbl.put (fun _ => 0) s.pwr.roseAt d s.now else s.pwr.roseAt } }

/-- A die's thermal state shown. -/
def State.thermShown (s : State) (d head st pct : Nat) : State :=
  ((s.setF (R.PWR_DIE_THERM d) 31 24 head).setF (R.PWR_DIE_THERM d) 23 22 st).setF (R.PWR_DIE_THERM d) 21 15 pct

theorem State.regs_thermShown {t : State} (same : t.regs = s.regs) (d head st pct : Nat) :
    (t.thermShown d head st pct).regs = (s.thermShown d head st pct).regs := by
  have write {t s : State} (same : t.regs = s.regs) (off hi lo v : Nat) : (t.setF off hi lo v).regs = (s.setF off hi lo v).regs := by
    rw [State.setF, State.wr, State.setF, State.wr, State.rd, State.rd, same]
  exact write (write (write same _ _ _ _) _ _ _ _) _ _ _ _

theorem State.thermShown_tempsKept (d head st pct : Nat) : TempsKept s (s.thermShown d head st pct) := by
  refine .of_eq ?_ ?_ ?_
  · rw [State.thermShown, State.setF_pwr, State.setF_pwr, State.setF_pwr]
  · rw [State.thermShown, State.setF_dom, State.setF_dom, State.setF_dom]
  · rw [State.thermShown, State.setF_boot, State.setF_boot, State.setF_boot]

/-- What a sample makes of a die: its state and row are shown, and nothing else of heat changes. -/
theorem State.heatDie_frame (d : Nat) : ∃ head st pct, (heatOf (s.headroom d) = 2 → st = 2 ∧ pct ≤ 50)
    ∧ (s.heatDie d).regs = (s.thermShown d head st pct).regs ∧ TempsKept s (s.heatDie d) := by
  unfold State.heatDie
  extract_lets off h rise was calm since left st want pct climbs pwr u shown v
  have noted : TempsKept s u := ⟨rfl, rfl, rfl, rfl, rfl, rfl⟩
  have row : shown = u.thermShown d (fieldOfInt 8 (h / 10)) st (heatRow pct want climbs) := rfl
  have told : Within 939524100 shown v := by
    change Within _ shown (if _ then _ else _)
    split
    · exact Within.refl _ shown
    · exact State.raise_within shown _
  have cut := State.cutBudget_within v d
  refine ⟨fieldOfInt 8 (h / 10), st, heatRow pct want climbs, fun hot => ?_, ?_, ?_⟩
  · have two : st = 2 := if_pos (.inr hot)
    have low : want ≤ 50 := by
      change (if st = 2 then min 50 (factorOf h) else factorOf h) ≤ 50
      rw [if_pos two]
      exact Nat.min_le_left _ _
    exact ⟨two, Nat.le_trans heatRow_le low⟩
  · rw [cut.regs_eq (by decide), told.regs_eq (by decide), row]
    exact State.regs_thermShown rfl _ _ _ _
  · have shownKept : TempsKept u shown := by
      rw [row]
      exact State.thermShown_tempsKept _ _ _ _
    exact ((noted.trans shownKept).trans (.of_within told (by decide) (by decide) (by decide))).trans
      (.of_within cut (by decide) (by decide) (by decide))

theorem State.thermShown_wf (wf : Tbl.wf regReset s.regs = true) (d head st pct : Nat) :
    Tbl.wf regReset (s.thermShown d head st pct).regs = true :=
  State.setF_regs_wf (State.setF_regs_wf (State.setF_regs_wf wf _ _ _ _) _ _ _ _) _ _ _ _

theorem State.fld_thermShown_self (wf : Tbl.wf regReset s.regs = true) {d head st pct : Nat} (two : st < 4) (row : pct < 128) :
    (s.thermShown d head st pct).fld (R.PWR_DIE_THERM d) 23 22 = st
      ∧ (s.thermShown d head st pct).fld (R.PWR_DIE_THERM d) 21 15 = pct := by
  have wf1 := State.setF_regs_wf wf (R.PWR_DIE_THERM d) 31 24 head
  have wf2 := State.setF_regs_wf wf1 (R.PWR_DIE_THERM d) 23 22 st
  rw [State.thermShown]
  constructor
  · rw [State.fld_setF_apart wf2 _ _ (by decide) (by decide) (by decide)]
    exact State.fld_setF_self wf1 _ (by decide) (by decide) two
  · exact State.fld_setF_self wf2 _ (by decide) (by decide) row

theorem State.fld_thermShown_ne (wf : Tbl.wf regReset s.regs = true) {d head st pct off : Nat} (ne : off ≠ R.PWR_DIE_THERM d)
    (hi lo : Nat) : (s.thermShown d head st pct).fld off hi lo = s.fld off hi lo := by
  have wf1 := State.setF_regs_wf wf (R.PWR_DIE_THERM d) 31 24 head
  have wf2 := State.setF_regs_wf wf1 (R.PWR_DIE_THERM d) 23 22 st
  rw [State.thermShown, State.fld_setF_ne wf2 _ _ _ _ _ ne, State.fld_setF_ne wf1 _ _ _ _ _ ne, State.fld_setF_ne wf _ _ _ _ _ ne]

theorem R.PWR_DIE_THERM_inj {d e : Nat} (h : R.PWR_DIE_THERM d = R.PWR_DIE_THERM e) : d = e := by
  simp only [R.PWR_DIE_THERM] at h
  omega

/-- A die is shown THROTTLED, at no more than 50 percent. -/
def Throttled (d : Nat) (s : State) : Prop :=
  s.fld (R.PWR_DIE_THERM d) 23 22 = 2 ∧ s.fld (R.PWR_DIE_THERM d) 21 15 ≤ 50

theorem Throttled.of_regs {d : Nat} {t : State} (h : Throttled d s) (same : t.regs = s.regs) : Throttled d t := by
  obtain ⟨st, row⟩ := h
  exact ⟨(State.fld_of_regs same _ _ _).trans st, by rw [State.fld_of_regs same]; exact row⟩

theorem heatOf_of_hot {h : Int} (hot : h < 50) : heatOf h = 2 := by
  rw [heatOf, if_neg (by omega), if_neg (by omega)]

theorem State.heatDie_throttles (wf : Tbl.wf regReset s.regs = true) {d : Nat} (hot : s.headroom d < 50) :
    Throttled d (s.heatDie d) := by
  obtain ⟨head, st, pct, judged, regs, -⟩ := State.heatDie_frame (s := s) d
  obtain ⟨two, low⟩ := judged (heatOf_of_hot hot)
  obtain ⟨st', row⟩ := State.fld_thermShown_self wf (d := d) (head := head) (st := st) (pct := pct) (by omega) (by omega)
  exact Throttled.of_regs ⟨st'.trans two, by rw [row]; exact low⟩ regs

theorem State.heatDie_keeps (wf : Tbl.wf regReset s.regs = true) {d e : Nat} (other : d ≠ e) (h : Throttled d s) :
    Throttled d (s.heatDie e) := by
  obtain ⟨head, st, pct, -, regs, -⟩ := State.heatDie_frame (s := s) e
  have fields := State.fld_thermShown_ne wf (d := e) (head := head) (st := st) (pct := pct) (off := R.PWR_DIE_THERM d)
    (fun same => other (R.PWR_DIE_THERM_inj same))
  obtain ⟨two, row⟩ := h
  exact Throttled.of_regs ⟨(fields _ _).trans two, by rw [fields]; exact row⟩ regs

theorem State.heatDie_wf (wf : Tbl.wf regReset s.regs = true) (d : Nat) : Tbl.wf regReset (s.heatDie d).regs = true := by
  obtain ⟨head, st, pct, -, regs, -⟩ := State.heatDie_frame (s := s) d
  rw [regs]
  exact State.thermShown_wf wf _ _ _ _

theorem heatDies_throttles {d : Nat} : ∀ {l : List Nat} {s : State}, Tbl.wf regReset s.regs = true → s.headroom d < 50 →
    d ∈ l ∨ Throttled d s → Throttled d (forEach (fun d (s : State) => s.heatDie d) l s)
  | [], _, _, _, h => h.resolve_left (fun m => nomatch m)
  | x :: l, s, wf, hot, h => by
    obtain ⟨-, -, -, -, -, temps⟩ := State.heatDie_frame (s := s) x
    refine heatDies_throttles (l := l) (s := s.heatDie x) (State.heatDie_wf wf x) (by rw [temps.headroom]; exact hot) ?_
    by_cases same : x = d
    · subst same
      exact .inr (State.heatDie_throttles wf hot)
    · rcases h with mem | already
      · exact .inl ((List.mem_cons.mp mem).resolve_left (fun e => same e.symm))
      · exact .inr (State.heatDie_keeps wf (fun e => same e.symm) already)

theorem State.emit_tempsKept (o : Out) : TempsKept s (s.emit o) := .of_eq rfl rfl rfl

theorem State.heatSite_frame (e : Nat) : (s.heatSite e).regs = s.regs ∧ TempsKept s (s.heatSite e) := by
  have regs := (State.heatSite_within s e).regs_eq (by decide)
  refine ⟨regs, ?_⟩
  unfold State.heatSite
  extract_lets t was now pwr u ps
  split
  · exact .of_eq rfl rfl rfl
  · have noted : TempsKept s u := ⟨rfl, rfl, rfl, rfl, rfl, rfl⟩
    refine noted.trans ?_
    clear_value u now
    split
    · exact TempsKept.each (fun p t => (TempsKept.of_within (State.takeDown_within t p 8) (by decide) (by decide) (by decide)).trans
        (State.emit_tempsKept (.laser p false))) ps u
    · exact TempsKept.each (fun p t => .of_within (State.trimLanes_within t p) (by decide) (by decide) (by decide)) ps u
    · exact TempsKept.each (fun p t => .of_within (State.beginTraining_within t p) (by decide) (by decide) (by decide)) ps u

theorem State.heatCore_frame : s.heatCore.regs = s.regs ∧ TempsKept s s.heatCore := by
  refine ⟨(State.heatCore_within s).regs_eq (by decide), ?_⟩
  unfold State.heatCore
  extract_lets hotC hotH u
  have told : TempsKept s u := (TempsKept.of_within (State.hotSite_within s s.pwr.coreHot hotC) (by decide) (by decide) (by decide)).trans
    (.of_within (State.hotSite_within _ _ hotH) (by decide) (by decide) (by decide))
  exact told.trans ⟨rfl, rfl, rfl, rfl, rfl, rfl⟩

theorem State.thermTick_frame : s.thermTick.regs = s.regs ∧ TempsKept s s.thermTick := by
  refine ⟨(State.thermTick_within s).regs_eq (by decide), ?_⟩
  unfold State.thermTick
  extract_lets u v
  have due : TempsKept s u := by
    change TempsKept s (match s.pwr.thermAt with | some t => s.reach (t + 10000) | none => s)
    split
    · exact .of_within (State.reach_within s _) (by decide) (by decide) (by decide)
    · exact .of_eq rfl rfl rfl
  have counted : TempsKept u v := by
    change TempsKept u (if _ then _ else u)
    split
    · exact .of_within (State.bump_within u _ _) (by decide) (by decide) (by decide)
    · exact .of_eq rfl rfl rfl
  exact (due.trans counted).trans ⟨rfl, rfl, rfl, rfl, rfl, rfl⟩

/-- New temperatures depend on the old ones alone. -/
theorem State.takeTemps_tempsKept {t : State} (h : TempsKept s t) (core hub : Int) (dies stackList sites : List Int) :
    TempsKept (s.takeTemps core hub dies stackList sites) (t.takeTemps core hub dies stackList sites) := by
  obtain ⟨-, -, die, stack, dom, boot⟩ := h
  refine ⟨rfl, rfl, ?_, ?_, dom, boot⟩
  · simp only [State.takeTemps, die]
  · simp only [State.takeTemps, stack]

/-- The machine at a sample of the sensors, its temperatures taken, before the trips are looked at. -/
def State.heated (s : State) (core hub : Int) (dies stackList sites : List Int) : State :=
  forEach (fun e (s : State) => s.heatSite e) (List.range 18)
    (forEach (fun d (s : State) => s.heatDie d) (List.range 4) ((s.thermTick.takeTemps core hub dies stackList sites).heatCore))

theorem exec_thermalSample_of_on {core hub : Int} {dies stackList sites : List Int} (on : s.on 1 = true) :
    exec (.thermalSample core hub dies stackList sites) s = .next ((s.heated core hub dies stackList sites).tripCheck) := by
  change execThermalSample core hub dies stackList sites s = _
  rw [execThermalSample, on, if_neg (by decide)]
  rfl

theorem State.heated_tempsKept (core hub : Int) (dies stackList sites : List Int) :
    TempsKept (s.takeTemps core hub dies stackList sites) (s.heated core hub dies stackList sites) := by
  obtain ⟨-, ticked⟩ := State.thermTick_frame (s := s)
  have taken := State.takeTemps_tempsKept ticked core hub dies stackList sites
  have cored := (State.heatCore_frame (s := s.thermTick.takeTemps core hub dies stackList sites)).2
  refine ((taken.trans cored).trans (TempsKept.each (fun d t => ?_) _ _)).trans
    (TempsKept.each (fun e t => (State.heatSite_frame (s := t) e).2) _ _)
  obtain ⟨-, -, -, -, -, temps⟩ := State.heatDie_frame (s := t) d
  exact temps

theorem State.heated_throttles (wf : Tbl.wf regReset s.regs = true) {core hub : Int} {dies stackList sites : List Int} {d : Nat}
    (die : d < 4) (hot : (s.takeTemps core hub dies stackList sites).headroom d < 50) :
    Throttled d (s.heated core hub dies stackList sites) := by
  obtain ⟨regs, ticked⟩ := State.thermTick_frame (s := s)
  have taken := State.takeTemps_tempsKept ticked core hub dies stackList sites
  obtain ⟨regs', cored⟩ := State.heatCore_frame (s := s.thermTick.takeTemps core hub dies stackList sites)
  have same : (s.thermTick.takeTemps core hub dies stackList sites).heatCore.regs = s.regs := regs'.trans regs
  have sites' (u : State) : ∀ l : List Nat, (forEach (fun e (s : State) => s.heatSite e) l u).regs = u.regs := by
    intro l
    induction l generalizing u with
    | nil => rfl
    | cons e l ih => exact (ih _).trans (State.heatSite_frame (s := u) e).1
  refine Throttled.of_regs (heatDies_throttles (by rw [same]; exact wf) ?_ (.inl (List.mem_range.mpr die))) (sites' _ _)
  rw [(taken.trans cored).headroom]
  exact hot

/-- The trips of a sample noted, with the instant since which every tripped site has cooled. -/
def State.tripsNoted (s : State) : State :=
  let all := s.boot.tripped ++ (s.tripsAt 0).filter (fun x => !s.boot.tripped.contains x)
  let cool := !all.isEmpty && !all.any (s.tripsAt 99).contains
  { s with boot := { s.boot with tripped := all, coolSince := if cool then some (s.boot.coolSince.getD s.now) else none } }

theorem State.tripCheck_eq : s.tripCheck
    = if (s.tripsAt 0).isEmpty ∨ (s.tripsNoted.boot.waiting ∧ s.tripsNoted.boot.kind = 1) then s.tripsNoted
      else s.tripsNoted.abruptStop 2 := rfl

theorem State.tripsNoted_frame : s.tripsNoted.regs = s.regs ∧ s.tripsNoted.dom = s.dom ∧ s.tripsNoted.pwr = s.pwr
    ∧ s.tripsNoted.boot.waiting = s.boot.waiting
    ∧ s.tripsNoted.boot.tripped = s.boot.tripped ++ (s.tripsAt 0).filter (fun x => !s.boot.tripped.contains x) :=
  ⟨rfl, rfl, rfl, rfl, rfl⟩

theorem mem_append_new {l new : List Nat} {x : Nat} (mem : x ∈ new) : x ∈ l ++ new.filter (fun x => !l.contains x) := by
  by_cases old : x ∈ l
  · exact List.mem_append_left _ old
  · refine List.mem_append_right _ (List.mem_filter.mpr ⟨mem, ?_⟩)
    rw [Bool.eq_false_iff.mpr (fun h => old (List.contains_iff_mem.mp h))]
    rfl

section
variable {core hub : Int} {dies stackList sites : List Int} (on : s.on 1 = true)
include on

theorem thermalSample_gives (h : s.canonical = true)
    (none_ : (s.takeTemps core hub dies stackList sites).tripsAt 0 = []) :
    Gives (.thermalSample core hub dies stackList sites) s (fun t => t.pwr.coreTemp = core ∧ t.pwr.hubTemp = hub
      ∧ t.dom = s.dom ∧ t.boot.waiting = s.boot.waiting
      ∧ ∀ d, d < 4 → (s.takeTemps core hub dies stackList sites).headroom d < 50 →
          t.fld (R.PWR_DIE_THERM d) 23 22 = 2 ∧ t.fld (R.PWR_DIE_THERM d) 21 15 ≤ 50) := by
  have run := exec_thermalSample_of_on (core := core) (hub := hub) (dies := dies) (stackList := stackList) (sites := sites) on
  have temps := State.heated_tempsKept (s := s) core hub dies stackList sites
  have hot (d : Nat) := State.heated_throttles (State.canonical.regs h) (core := core) (hub := hub) (dies := dies)
    (stackList := stackList) (sites := sites) (d := d)
  generalize s.heated core hub dies stackList sites = u at run temps hot
  rw [State.tripCheck_eq, if_pos (.inl (by rw [temps.tripsAt, none_]; rfl))] at run
  obtain ⟨regs, dom, pwr, waiting, -⟩ := State.tripsNoted_frame (s := u)
  obtain ⟨coreTemp, hubTemp, -, -, dom', boot⟩ := temps
  refine ⟨_, run, by rw [pwr, coreTemp]; rfl, by rw [pwr, hubTemp]; rfl, dom.trans dom', by rw [waiting, boot]; rfl,
    fun d die cold => (hot d die cold).of_regs regs⟩

theorem thermalSample_gives_trip {x : Nat} (trips : x ∈ (s.takeTemps core hub dies stackList sites).tripsAt 0)
    (started : s.boot.waiting = false) :
    Gives (.thermalSample core hub dies stackList sites) s (fun t => t.dom = [(1, .on)] ∧ t.boot.cause = 2
      ∧ t.boot.waiting = true ∧ x ∈ t.boot.tripped) := by
  have run := exec_thermalSample_of_on (core := core) (hub := hub) (dies := dies) (stackList := stackList) (sites := sites) on
  have temps := State.heated_tempsKept (s := s) core hub dies stackList sites
  generalize s.heated core hub dies stackList sites = u at run temps
  rw [← temps.tripsAt] at trips
  obtain ⟨-, -, -, waiting, tripped⟩ := State.tripsNoted_frame (s := u)
  obtain ⟨-, -, -, -, -, boot⟩ := temps
  have up : u.tripsNoted.boot.waiting = false := by
    rw [waiting, boot]
    exact started
  rw [State.tripCheck_eq, if_neg (by
    rintro (h | ⟨h, -⟩)
    · rw [List.isEmpty_iff.mp h] at trips
      exact nomatch trips
    · rw [up] at h
      exact Bool.false_ne_true h)] at run
  obtain ⟨-, -, dom, waits, cause, kept⟩ := State.abruptStop_frame (s := u.tripsNoted) 2
  exact ⟨_, run, dom, cause, waits, by rw [kept, tripped]; exact mem_append_new trips⟩

end

/-- Settles O53. -/
theorem supplyAndHeat : Obligations.SupplyAndHeat :=
  ⟨fun _ h => ⟨fun _ _ _ is on low high started none_ => supplySample_gives_mean h is on low high started none_,
    fun _ _ _ is on low => ⟨_, exec_supplySample_of_low is on (below_of_lt low), State.powerOff_frame⟩,
    fun _ _ _ is on first stays some_ good started level m0 m3 wd shed held =>
      supplySample_gives_first h is on first stays some_ good started level m0 m3 wd shed held,
    fun _ level dwell m0 m3 wd shed held => shedRelease_gives h level dwell m0 m3 wd shed held, supplyLogClear_gives h,
    fun _ level m3 wd shed held => mstateRequest_gives_m0 h level m3 wd shed held,
    fun _ _ m3 wd => mstateRequest_gives_m3 h m3 wd, fun _ due level m3 => exec_m3WakeTimer_of_due h due level m3,
    fun _ works free => droopDetect_gives h works free, fun _ => droopRelease_gives⟩,
  fun _ _ _ _ _ _ h on => ⟨fun _ none_ => thermalSample_gives on h none_,
    fun _ trips started => thermalSample_gives_trip on trips started⟩⟩

end Sys2Proof.Machine

/-!
PROOFS. HBM stacks and CXL ports (R264 to R272, R283, R284, R286).
-/
namespace Sys2Proof.Machine
variable {s : State}

/-! ## Which registers keep their reading -/

/-- Of a list without repetition one element alone acts. -/
theorem forEach_of_only {α : Type} {f : α → State → State} {x : α} (other : ∀ y, y ≠ x → ∀ s, f y s = s) :
    ∀ (l : List α) (s : State), l.Nodup → x ∈ l → forEach f l s = f x s
  | [], _, _, at_ => nomatch at_
  | y :: l, s, once, at_ => by
    obtain ⟨fresh, once⟩ := List.nodup_cons.mp once
    rw [forEach]
    by_cases same : y = x
    · subst same
      have fixed : ∀ (l : List α) (s : State), y ∉ l → forEach f l s = s := fun l => by
        induction l with
        | nil => exact fun _ _ => rfl
        | cons z l ih =>
          intro s absent
          rw [forEach, other z (fun e => absent (e ▸ List.mem_cons_self)), ih s (fun m => absent (List.mem_cons_of_mem z m))]
      exact fixed l _ fresh
    · rw [other y same, forEach_of_only other l s once ((List.mem_cons.mp at_).resolve_left (fun e => same e.symm))]

theorem Word.bit_two_pow {k : Nat} (lt : k < 32) (j : Nat) : Word.bit (BitVec.ofNat 32 (2 ^ k)) j = decide (k = j) := by
  rw [Word.bit, BitVec.toNat_ofNat, Nat.mod_eq_of_lt (Nat.pow_lt_pow_right (by decide) lt), Nat.testBit_two_pow]

/-! ## Stacks (R264, R283, R284) -/

theorem State.regs_raise (e : Ev) : (s.raise e).regs = s.regs := (State.raise_within s e).regs_eq (by decide)

theorem State.regs_stackTo (k st : Nat) : (s.stackTo k st).regs = (s.setStack k st).regs := State.regs_raise _

theorem State.stackSt_of_regs {t : State} (same : t.regs = s.regs) (k : Nat) : t.stackSt k = s.stackSt k := State.fld_of_regs same _ _ _

theorem State.stackSt_setStack (h : Tbl.wf regReset s.regs = true) (k : Nat) {st : Nat} (fits : st < 8) :
    (s.setStack k st).stackSt k = st := State.fld_setF_self h _ (by decide) (by decide) fits

theorem State.stackSt_stackTo (h : Tbl.wf regReset s.regs = true) (k : Nat) {st : Nat} (fits : st < 8) :
    (s.stackTo k st).stackSt k = st := (State.stackSt_of_regs (State.regs_stackTo k st) k).trans (State.stackSt_setStack h k fits)

theorem State.count_stackTo (h : Tbl.wf (fun _ => 0) s.cnt = true) (k st : Nat) {j : Nat} (merged : j ≠ C.HLK_EV_MERGED)
    (lost : j ≠ C.HLK_EV_LOST) : (s.stackTo k st).count j = s.count j := by
  have same : (s.setStack k st).cnt = s.cnt := State.setF_cnt _ _ _ _ _
  rw [State.stackTo, State.count_raise (by rw [same]; exact h) _ merged lost]
  exact State.count_of_cnt same j

theorem State.stackTo_frame (wf : Tbl.wf regReset s.regs = true) (wfc : Tbl.wf (fun _ => 0) s.cnt = true) (k : Nat) {st : Nat} (fits : st < 8) :
    (s.stackTo k st).stackSt k = st ∧ (s.stackTo k st).mem = s.mem
      ∧ (∀ j, j ≠ C.HLK_EV_MERGED → j ≠ C.HLK_EV_LOST → (s.stackTo k st).count j = s.count j) :=
  ⟨State.stackSt_stackTo wf k fits, (State.stackTo_within s k st).mem_eq (by decide),
    fun _ merged lost => State.count_stackTo wfc k st merged lost⟩

/-- A stack that fails is FAILED; what was poisoned stays so, and no counter but those of events moves. -/
theorem State.failStack_frame (wf : Tbl.wf regReset s.regs = true) (wfc : Tbl.wf (fun _ => 0) s.cnt = true) (k : Nat) :
    (s.failStack k).stackSt k = 4 ∧ (s.failStack k).mem.poison = s.mem.poison
      ∧ (∀ j, j ≠ C.HLK_EV_MERGED → j ≠ C.HLK_EV_LOST → (s.failStack k).count j = s.count j) := by
  obtain ⟨failed, mem, counted⟩ := State.stackTo_frame wf wfc k (st := 4) (by decide)
  unfold State.failStack
  extract_lets d bad others z a b c
  have kept : c.mem.poison = (s.stackTo k 4).mem.poison := rfl
  have poison : c.mem.poison = s.mem.poison := kept.trans (congrArg Memory.poison mem)
  have regs : c.regs = (s.stackTo k 4).regs := rfl
  have cnt : c.cnt = (s.stackTo k 4).cnt := rfl
  have last : (if (c.retiringAt k).isSome = true ∨ 2 ≤ others then c else c.setRetiring k (some .demote)).regs = c.regs
      ∧ (if (c.retiringAt k).isSome = true ∨ 2 ≤ others then c else c.setRetiring k (some .demote)).mem.poison = c.mem.poison
      ∧ (if (c.retiringAt k).isSome = true ∨ 2 ≤ others then c else c.setRetiring k (some .demote)).cnt = c.cnt := by
    split
    · exact ⟨rfl, rfl, rfl⟩
    · exact ⟨rfl, rfl, rfl⟩
  obtain ⟨regs', poison', cnt'⟩ := last
  exact ⟨(State.stackSt_of_regs (regs'.trans regs) k).trans failed, poison'.trans poison,
    fun j merged lost => (State.count_of_cnt (cnt'.trans cnt) j).trans (counted j merged lost)⟩

theorem stackFail_gives (h : s.canonical = true) (k : Fin 32) (works : s.stackSt k = 1 ∨ s.stackSt k = 2) :
    Gives (.stackFail k) s (fun t => t.stackSt k = 4) := by
  obtain ⟨failed, -, -⟩ := State.failStack_frame (State.canonical.regs h) (State.canonical.cnt h) k
  refine ⟨s.failStack k, ?_, failed⟩
  change execStackFail k s = _
  rw [execStackFail, if_pos works]

/-! ## Retirement (R283) -/

theorem stackStat_ne_retired {k : Nat} (lt : k < 32) : R.MEM_STACK_STAT k ≠ R.MEM_STACK_RETIRED := by
  unfold R.MEM_STACK_STAT R.MEM_STACK_RETIRED
  omega

theorem stackStat_ne_opstat {k : Nat} (lt : k < 32) : R.MEM_STACK_STAT k ≠ R.MEM_STACK_OPSTAT := by
  unfold R.MEM_STACK_STAT R.MEM_STACK_OPSTAT
  omega

/-- With no bit set before, every stack ONLINE and nothing retiring, a retirement asks for its lock. -/
theorem State.retireBit_of_online (wf : Tbl.wf regReset s.regs = true) {k : Nat} (lt : k < 32) (none_ : s.fld R.MEM_STACK_RETIRED 31 0 = 0)
    (online : ∀ j, j < 32 → s.stackSt j = 1) (still : s.mem.retiring = []) :
    s.retireBit k = ((s.setF R.MEM_STACK_RETIRED 31 0 (2 ^ k)).beginRetire k).setF R.MEM_STACK_OPSTAT 3 0 0 := by
  have idle (j : Nat) : s.retiringAt j = none := by rw [State.retiringAt, still]; rfl
  have one : (s.setF R.MEM_STACK_RETIRED 31 0 (2 ^ k)).stackSt k = 1 :=
    (State.fld_setF_ne wf _ _ _ _ _ (stackStat_ne_retired lt)).trans (online k lt)
  have kept (off hi lo v : Nat) : (s.setF off hi lo v).retiringAt k = none := idle k
  unfold State.retireBit
  extract_lets d mask busy n a
  have few : n = 0 := by
    change (List.filter _ _).length = 0
    rw [List.length_eq_zero_iff, List.filter_eq_nil_iff]
    intro i at_
    have lt8 := List.mem_range.mp at_
    have die : d = k / 8 := rfl
    have none_' : mask = 0 := none_
    rw [online _ (by omega), none_', Nat.zero_testBit]
    decide
  have free : busy = false := by
    change List.any _ _ = false
    rw [List.any_eq_false]
    intro j _
    rw [idle]
    decide
  have fresh : ¬mask.testBit k = true := by
    have none_' : mask = 0 := none_
    rw [none_', Nat.zero_testBit]
    exact Bool.false_ne_true
  have written : a = s.setF R.MEM_STACK_RETIRED 31 0 (2 ^ k) := by
    have none_' : mask = 0 := none_
    change s.setF _ _ _ (mask + 2 ^ k) = _
    rw [none_', Nat.zero_add]
  have here : ¬(a.stackSt k = 0 ∨ a.stackSt k = 3 ∨ (a.retiringAt k).isSome = true) := by
    rw [written, one, kept]
    simp
  rw [if_neg fresh, if_neg (fun c => absurd c.2 (by omega)), if_neg here, if_neg (by rw [free]; exact Bool.false_ne_true), written]

theorem State.setRetiring_frame (k : Nat) (r : Option RetireStep) : (s.setRetiring k r).regs = s.regs
    ∧ (s.setRetiring k r).cnt = s.cnt ∧ (s.setRetiring k r).maint = s.maint
    ∧ (s.setRetiring k r).mem.retiring = Tbl.put (fun _ => none) s.mem.retiring k r := ⟨rfl, rfl, rfl, rfl⟩

theorem State.retiringAt_setRetiring (k : Nat) (r : RetireStep) : (s.setRetiring k (some r)).retiringAt k = some r :=
  Tbl.get_put_of_ne_default (d := fun _ => (none : Option RetireStep)) s.mem.retiring k (x := some r) (Option.some_ne_none r)

/-- The lock of an ONLINE stack's retirement is free: it is DRAINING. -/
theorem State.beginRetire_of_free {k : Nat} (online : s.stackSt k = 1) (free : s.maint = []) :
    ∃ t, s.beginRetire k = t ∧ t.regs = (s.setStack k 2).regs ∧ t.retiringAt k = some .demote ∧ t.maint = [(.stack k, true)] := by
  refine ⟨_, rfl, ?_⟩
  rw [State.beginRetire, State.requestMaint_of_nil (s := s.setRetiring k (some .lock)) free, State.startStack]
  have regs : ((s.setRetiring k (some .lock)).holding (.stack k)).regs = s.regs := State.regs_holding _
  have maint : ((s.setRetiring k (some .lock)).holding (.stack k)).maint = [(.stack k, true)] := State.maint_holding _
  generalize (s.setRetiring k (some .lock)).holding (.stack k) = v at regs maint
  rw [if_pos ((State.stackSt_of_regs regs k).trans online)]
  refine ⟨?_, State.retiringAt_setRetiring k _, ((State.stackTo_within v k 2).maint_eq (by decide)).trans maint⟩
  have drained : (v.stackTo k 2).regs = (v.setStack k 2).regs := State.regs_stackTo k 2
  have same : (v.setStack k 2).regs = (s.setStack k 2).regs := by
    rw [State.setStack, State.setStack, State.setF, State.setF, State.rd, State.rd, regs]
    exact congrArg (fun t => Tbl.put regReset t (R.MEM_STACK_STAT k) _) regs
  exact drained.trans same

theorem exec_stackRetireRequest_single {k : Nat} (lt : k < 32) (on : s.on (regDomain R.MEM_STACK_RETIRED) = true) :
    exec (.stackRetireRequest (BitVec.ofNat 32 (2 ^ k))) s = .next (s.retireBit k) := by
  have other (j : Nat) (ne : j ≠ k) (s : State) :
      (if Word.bit (BitVec.ofNat 32 (2 ^ k)) j then s.retireBit j else s) = s :=
    if_neg (by rw [Word.bit_two_pow lt, decide_eq_true_iff]; exact fun e => ne e.symm)
  change execStackRetireRequest _ s = _
  rw [execStackRetireRequest, State.gate_on on, forEach_of_only other _ _ List.nodup_range (List.mem_range.mpr lt),
    if_pos (by rw [Word.bit_two_pow lt, decide_eq_true_iff])]

/-- The one bit written of MEM.STACK_RETIRED. -/
theorem State.markRetired_frame (wf : Tbl.wf regReset s.regs = true) {k : Nat} (lt : k < 32) :
    Tbl.wf regReset (s.setF R.MEM_STACK_RETIRED 31 0 (2 ^ k)).regs = true
      ∧ (s.setF R.MEM_STACK_RETIRED 31 0 (2 ^ k)).stackSt k = s.stackSt k
      ∧ (s.setF R.MEM_STACK_RETIRED 31 0 (2 ^ k)).fld R.MEM_STACK_RETIRED 31 0 = 2 ^ k
      ∧ (s.setF R.MEM_STACK_RETIRED 31 0 (2 ^ k)).maint = s.maint :=
  ⟨State.setF_regs_wf wf _ _ _ _, State.fld_setF_ne wf _ _ _ _ _ (stackStat_ne_retired lt),
    State.fld_setF_self wf _ (by decide) (by decide) (Nat.pow_lt_pow_right (by decide) lt), State.setF_maint _ _ _ _ _⟩

theorem State.retiringAt_setF (off hi lo v : Nat) : (s.setF off hi lo v).retiringAt = s.retiringAt := by
  funext k
  rw [State.retiringAt, State.retiringAt, State.setF_mem]

theorem stackRetireRequest_gives (h : s.canonical = true) {k : Nat} (lt : k < 32) (on : s.on (regDomain R.MEM_STACK_RETIRED) = true)
    (none_ : s.fld R.MEM_STACK_RETIRED 31 0 = 0) (online : ∀ j : Nat, j < 32 → s.stackSt j = 1) (still : s.mem.retiring = [])
    (free : s.maint = []) : Gives (.stackRetireRequest (BitVec.ofNat 32 (2 ^ k))) s (fun t =>
      t.fld R.MEM_STACK_RETIRED 31 0 = 2 ^ k ∧ t.stackSt k = 2 ∧ t.retiringAt k = some .demote
        ∧ t.fld R.MEM_STACK_OPSTAT 3 0 = 0 ∧ t.maint = [(.stack k, true)]) := by
  have wf := State.canonical.regs h
  have run := exec_stackRetireRequest_single lt on
  rw [State.retireBit_of_online wf lt none_ online still] at run
  obtain ⟨wf1, online1, asked, free1⟩ := State.markRetired_frame wf lt
  rw [online k lt] at online1
  rw [free] at free1
  generalize s.setF R.MEM_STACK_RETIRED 31 0 (2 ^ k) = u at run wf1 online1 asked free1
  obtain ⟨v, begun, regs, retiring, maint⟩ := State.beginRetire_of_free online1 free1
  rw [begun] at run
  have wf2 : Tbl.wf regReset v.regs = true := by rw [regs]; exact State.setF_regs_wf wf1 _ _ _ _
  refine ⟨_, run, ?_, ?_, ?_, State.fld_setF_self wf2 _ (by decide) (by decide) (by decide), ?_⟩
  · rw [State.fld_setF_ne wf2 _ _ _ _ _ (by decide), State.fld_of_regs regs, State.setStack,
      State.fld_setF_ne wf1 _ _ _ _ _ (stackStat_ne_retired lt).symm, asked]
  · rw [State.stackSt, State.fld_setF_ne wf2 _ _ _ _ _ (stackStat_ne_opstat lt), State.fld_of_regs regs]
    exact State.stackSt_setStack wf1 k (by decide)
  · rw [State.retiringAt_setF, retiring]
  · rw [State.setF_maint, maint]

theorem stackDemoteDone_eq {k : Fin 32} (step : s.retiringAt k = some .demote)
    (fits : s.usedFrames (k / 8) ≤ s.retireBound (k / 8)) :
    exec (.stackDemoteDone k) s = .next (s.setRetiring k (some .relocate)) := by
  change execStackDemoteDone k s = _
  rw [execStackDemoteDone]
  dsimp only
  rw [if_neg (fun c => c step), if_pos fits]

theorem stackRelocateDone_gives (h : s.canonical = true) {k : Fin 32} (step : s.retiringAt k = some .relocate)
    (rate : s.fld R.MEM_EASEL_RETIRE 15 0 ≠ 0) (marked : (s.fld R.MEM_STACK_RETIRED 31 0).testBit k = true)
    (alone : s.mem.retireQ = []) : Gives (.stackRelocateDone k) s (fun t => t.stackSt k = 3
      ∧ t.mem.retiring = Tbl.put (fun _ => none) s.mem.retiring k none
      ∧ t.maint = (if s.maintRuns (.stack k) then dropActivity (.stack k) s.maint else s.maint)
      ∧ t.count C.MEM_RELOC_BYTES = (s.count C.MEM_RELOC_BYTES + 16384 * s.usedFrames (k / 8)) % 2 ^ 64) := by
  have wf := State.canonical.regs h
  have wfc := State.canonical.cnt h
  let a : State := { s with mem := s.mem.spreadPoison (s.stackSlices k) }
  let b := a.bump C.MEM_RELOC_BYTES (16384 * a.usedFrames (k.val / 8))
  let c := b.setF (R.MEM_STACK_STAT k) 6 0 100
  have moved : (c.stackTo k 3).mem = s.mem.spreadPoison (s.stackSlices k) := (State.stackTo_within c k 3).mem_eq (by decide)
  have maint : (c.stackTo k 3).maint = s.maint := (State.stackTo_within c k 3).maint_eq (by decide)
  have counted : (c.stackTo k 3).count C.MEM_RELOC_BYTES = (s.count C.MEM_RELOC_BYTES + 16384 * s.usedFrames (k / 8)) % 2 ^ 64 := by
    rw [State.count_stackTo (bumpTbl_wf wfc _ _) k 3 (by decide) (by decide)]
    exact State.count_bump_self (s := a) wfc _ _
  have cnt : Tbl.wf (fun _ => 0) (c.stackTo k 3).cnt = true := State.cnt_raise_wf (s := c.setStack k 3) (bumpTbl_wf wfc _ _) _
  have retired : (c.stackTo k 3).stackSt k = 3 := State.stackSt_stackTo (State.setF_regs_wf (s := b) wf _ _ _ _) k (by decide)
  have mask : (c.stackTo k 3).fld R.MEM_STACK_RETIRED 31 0 = s.fld R.MEM_STACK_RETIRED 31 0 := by
    rw [State.fld_of_regs (State.regs_stackTo k 3), State.setStack,
      State.fld_setF_ne (State.setF_regs_wf (s := b) wf _ _ _ _) _ _ _ _ _ (stackStat_ne_retired k.isLt).symm]
    exact State.fld_setF_ne (s := b) wf _ _ _ _ _ (stackStat_ne_retired k.isLt).symm
  obtain ⟨-, free, same, tbl⟩ := State.setRetiring_frame (s := c.stackTo k 3) k none
  have queue : (((c.stackTo k 3).setRetiring k none).endMaint (.stack k) 2).mem.retireQ = [] := by
    rw [(State.endMaint_within _ _ _).mem_eq (by decide)]
    exact (congrArg Memory.retireQ moved).trans alone
  have run : exec (.stackRelocateDone k) s = .next (((c.stackTo k 3).setRetiring k none).endMaint (.stack k) 2) := by
    change execStackRelocateDone k s = _
    have busy : ¬(s.retiringAt k ≠ some .relocate ∨ s.fld R.MEM_EASEL_RETIRE 15 0 = 0) := fun w => w.elim (· step) rate
    have set_ : ((c.stackTo k 3).fld R.MEM_STACK_RETIRED 31 0).testBit k = true := mask ▸ marked
    rw [execStackRelocateDone]
    dsimp only
    rw [if_neg busy, if_pos set_, queue]
    rfl
  have left : ((c.stackTo k 3).setRetiring k none).maintRuns (.stack k) = s.maintRuns (.stack k) := by
    rw [State.maintRuns, State.maintRuns, same, maint]
  refine ⟨_, run, ?_, ?_, ?_, ?_⟩
  · rw [State.stackSt_of_regs (State.regs_endMaint _ _)]
    exact retired
  · rw [(State.endMaint_within _ _ _).mem_eq (by decide), tbl, moved]
    rfl
  · rw [State.endMaint, left]
    split
    · rw [State.maint_maintEvent]
      exact congrArg (dropActivity (.stack k)) maint
    · exact maint
  · rw [State.count_endMaint (by rw [free]; exact cnt) _ _ (by decide) (by decide)]
    exact counted

/-! ## The scrub (R264) -/

theorem State.scrubOn_of_line {key st d : Nat} (on : s.dieUp d = true) (works : s.stackSt st ≠ 4) (clean : s.poisoned key = false) :
    s.scrubOn (some st) (some d) key 2 = s.lineBad key
      ∧ s.scrubOn (some st) (some d) key 1 = (s.bump C.MEM_HBM_CE 1).partErr 9 st 0 1
      ∧ s.scrubOn (some st) (some d) key 0 = s := by
  have reads : ¬(s.stackSt st = 4 ∨ s.poisoned key = true) := fun c => c.elim works (fun p => Bool.false_ne_true (clean.symm.trans p))
  have run (o : Fin 4) : s.scrubOn (some st) (some d) key o = s.scrubLine st key o := by
    rw [State.scrubOn]
    exact if_pos on
  refine ⟨?_, ?_, ?_⟩
  · rw [run, State.scrubLine, if_neg reads, if_neg (by decide), if_neg (by decide), if_pos (by decide)]
  · rw [run, State.scrubLine, if_neg reads, if_pos (by decide)]
  · rw [run, State.scrubLine, if_neg reads, if_neg (by decide), if_neg (by decide), if_neg (by decide)]

theorem exec_hbmScrub_eq (home : Fin 4) (line : Fin 1099511627776) (outcome : Fin 4) : exec (.hbmScrub home line outcome) s
    = .next (s.scrubOn (s.stackOf (memKey home (line * 64))) (s.serve (memKey home (line * 64))).hbmDie (memKey home (line * 64))
      outcome) := rfl

/-- The state in which a line is marked poisoned. -/
def State.withPoison (s : State) (key : Nat) : State :=
  { s with mem := { s.mem with poison := Tbl.put (fun _ => false) s.mem.poison (key / 64) true } }

theorem State.poisoned_of_line {key : Nat} (bad : Tbl.get (fun _ => false) s.mem.poison (key / 64) = true) : s.poisoned key = true := by
  rw [State.poisoned, bad, Bool.true_or]

/-- The state in which the uncorrectable lines of a stack are noted. -/
def State.withUeTimes (s : State) (k : Nat) (l : List Nat) : State :=
  { s with mem := { s.mem with ueTimes := Tbl.put (fun _ => []) s.mem.ueTimes k l } }

theorem State.withUeTimes_frame (k : Nat) (l : List Nat) : (s.withUeTimes k l).regs = s.regs ∧ (s.withUeTimes k l).cnt = s.cnt
    ∧ (s.withUeTimes k l).mem.poison = s.mem.poison := ⟨rfl, rfl, rfl⟩

/-- The state in which a line is poisoned and counted. -/
def State.lineMarked (s : State) (key : Nat) : State := (s.withPoison key).bump C.MEM_HBM_UE 1

theorem State.lineMarked_frame (h : s.canonical = true) (key : Nat) :
    Tbl.wf regReset (s.lineMarked key).regs = true ∧ Tbl.wf (fun _ => 0) (s.lineMarked key).cnt = true
      ∧ Tbl.get (fun _ => false) (s.lineMarked key).mem.poison (key / 64) = true
      ∧ (s.lineMarked key).count C.MEM_HBM_UE = (s.count C.MEM_HBM_UE + 1) % 2 ^ 64 := by
  have wf := State.canonical.regs h
  have wfc := State.canonical.cnt h
  exact ⟨wf, bumpTbl_wf wfc _ _,
    Tbl.get_put_of_ne_default (d := fun _ => false) s.mem.poison (key / 64) (x := true) (by decide),
    State.count_bump_self (s := s.withPoison key) wfc _ _⟩

/-- The instants of a stack's uncorrectable lines within the last second. -/
def State.recentUe (s : State) (k : Nat) : List Nat :=
  s.now :: (Tbl.get (fun _ => []) s.mem.ueTimes k).filter (fun t => s.now < t + 1000000000)

theorem State.lineBad_eq (key : Nat) : s.lineBad key = (match (s.lineMarked key).stackOf key with
    | none => s.lineMarked key
    | some k =>
      if 64 < (((s.lineMarked key).partErr 9 k 1 1).recentUe k).length
          ∧ (((((s.lineMarked key).partErr 9 k 1 1).withUeTimes k (((s.lineMarked key).partErr 9 k 1 1).recentUe k)).stackSt k = 1)
            ∨ ((((s.lineMarked key).partErr 9 k 1 1).withUeTimes k (((s.lineMarked key).partErr 9 k 1 1).recentUe k)).stackSt k = 2))
      then (((s.lineMarked key).partErr 9 k 1 1).withUeTimes k (((s.lineMarked key).partErr 9 k 1 1).recentUe k)).failStack k
      else ((s.lineMarked key).partErr 9 k 1 1).withUeTimes k (((s.lineMarked key).partErr 9 k 1 1).recentUe k)) := rfl

/-- A line found uncorrectable is poisoned and counted, whether or not its stack fails with it. -/
theorem State.lineBad_frame (h : s.canonical = true) (key : Nat) : (s.lineBad key).poisoned key = true
    ∧ (s.lineBad key).count C.MEM_HBM_UE = (s.count C.MEM_HBM_UE + 1) % 2 ^ 64 := by
  obtain ⟨wf, wfc, bad, counted⟩ := State.lineMarked_frame h key
  rw [State.lineBad_eq]
  generalize s.lineMarked key = a at wf wfc bad counted
  split
  case h_1 => exact ⟨State.poisoned_of_line bad, counted⟩
  case h_2 k _ =>
    obtain ⟨regs, cnt, poison⟩ := State.withUeTimes_frame (s := a.partErr 9 k 1 1) k ((a.partErr 9 k 1 1).recentUe k)
    have poison' : (a.partErr 9 k 1 1).mem.poison = a.mem.poison := rfl
    have cnt' : (a.partErr 9 k 1 1).cnt = a.cnt := rfl
    have regs' : (a.partErr 9 k 1 1).regs = a.regs := rfl
    rw [← regs', ← regs] at wf
    rw [← cnt', ← cnt] at wfc
    rw [← poison', ← poison] at bad
    rw [← State.count_of_cnt (cnt.trans cnt') C.MEM_HBM_UE] at counted
    generalize (a.partErr 9 k 1 1).withUeTimes k ((a.partErr 9 k 1 1).recentUe k) = b at wf wfc bad counted
    split
    · obtain ⟨-, same, others⟩ := State.failStack_frame wf wfc k
      exact ⟨State.poisoned_of_line (by rw [same]; exact bad), (others _ (by decide) (by decide)).trans counted⟩
    · exact ⟨State.poisoned_of_line bad, counted⟩

theorem hbmScrub_gives (h : s.canonical = true) {home : Fin 4} {line : Fin 1099511627776} {st d : Nat}
    (stack : s.stackOf (memKey home (line * 64)) = some st) (die : (s.serve (memKey home (line * 64))).hbmDie = some d)
    (on : s.dieUp d = true) (works : s.stackSt st ≠ 4) (clean : s.poisoned (memKey home (line * 64)) = false) :
    Gives (.hbmScrub home line 2) s (fun t => t.poisoned (memKey home (line * 64)) = true
        ∧ t.count C.MEM_HBM_UE = (s.count C.MEM_HBM_UE + 1) % 2 ^ 64)
      ∧ Gives (.hbmScrub home line 1) s (fun t => t.mem = s.mem ∧ t.count C.MEM_HBM_CE = (s.count C.MEM_HBM_CE + 1) % 2 ^ 64)
      ∧ exec (.hbmScrub home line 0) s = .next s := by
  have wfc := State.canonical.cnt h
  have run (o : Fin 4) := exec_hbmScrub_eq (s := s) home line o
  rw [stack, die] at run
  generalize memKey home (line * 64) = key at run clean
  obtain ⟨bad, corrected, good⟩ := State.scrubOn_of_line on works clean
  have counted := State.count_of_cnt (s := s.bump C.MEM_HBM_CE 1) (t := (s.bump C.MEM_HBM_CE 1).partErr 9 st 0 1) rfl C.MEM_HBM_CE
  have one := State.count_bump_self wfc C.MEM_HBM_CE 1
  exact ⟨⟨_, (run 2).trans (congrArg Host.Outcome.next bad), State.lineBad_frame h key⟩,
    ⟨_, (run 1).trans (congrArg Host.Outcome.next corrected), rfl, counted.trans one⟩,
    (run 0).trans (congrArg Host.Outcome.next good)⟩

/-! ## CXL ports (R270 to R272, R286) -/

theorem cxlCtrl_ne_stat (k : Nat) : R.CXL_PORT_CTRL k ≠ R.CXL_PORT_STAT k := by
  unfold R.CXL_PORT_CTRL R.CXL_PORT_STAT
  omega

theorem State.cxlSt_of_regs {t : State} (same : t.regs = s.regs) (k : Nat) : t.cxlSt k = s.cxlSt k := State.fld_of_regs same _ _ _

theorem State.regs_cxlEvent (k cls : Nat) : (s.cxlEvent k cls).regs = s.regs := (State.cxlEvent_within s k cls).regs_eq (by decide)

theorem State.cxlSt_setCxlSt (wf : Tbl.wf regReset s.regs = true) (k : Nat) {st : Nat} (fits : st < 16) :
    (s.setCxlSt k st).cxlSt k = st := State.fld_setF_self wf _ (by decide) (by decide) fits

theorem State.setCxlSt_frame (wf : Tbl.wf regReset s.regs = true) (k st : Nat) :
    Tbl.wf regReset (s.setCxlSt k st).regs = true
      ∧ (∀ hi lo, (s.setCxlSt k st).fld (R.CXL_PORT_CTRL k) hi lo = s.fld (R.CXL_PORT_CTRL k) hi lo)
      ∧ (s.setCxlSt k st).maint = s.maint ∧ (s.setCxlSt k st).mem = s.mem :=
  ⟨State.setF_regs_wf wf _ _ _ _, fun _ _ => State.fld_setF_ne wf _ _ _ _ _ (cxlCtrl_ne_stat k), State.setF_maint _ _ _ _ _,
    State.setF_mem _ _ _ _ _⟩

/-- A field of a port's status below its state leaves the state and the control register. -/
theorem State.setStat_frame (wf : Tbl.wf regReset s.regs = true) (k : Nat) {hi lo v : Nat} (le : lo ≤ hi) (below : hi < 28) :
    Tbl.wf regReset (s.setF (R.CXL_PORT_STAT k) hi lo v).regs = true
      ∧ (s.setF (R.CXL_PORT_STAT k) hi lo v).cxlSt k = s.cxlSt k
      ∧ (∀ hi' lo', (s.setF (R.CXL_PORT_STAT k) hi lo v).fld (R.CXL_PORT_CTRL k) hi' lo' = s.fld (R.CXL_PORT_CTRL k) hi' lo')
      ∧ (s.setF (R.CXL_PORT_STAT k) hi lo v).mem = s.mem :=
  ⟨State.setF_regs_wf wf _ _ _ _, State.fld_setF_apart wf _ _ (by omega) le (Or.inr below),
    fun _ _ => State.fld_setF_ne wf _ _ _ _ _ (cxlCtrl_ne_stat k), State.setF_mem _ _ _ _ _⟩

theorem Memory.pages_clear (m : Memory) (lo hi : Nat) : (m.clear lo hi).pages = m.pages := rfl

theorem Memory.pages_clearAll (gone : List (Nat × Page)) (m : Memory) :
    (gone.foldl (fun m kp => m.clear (pageKey kp.1) (pageKey kp.1 + 131072)) m).pages = m.pages := by
  induction gone generalizing m with
  | nil => rfl
  | cons kp gone ih => exact (ih _).trans (Memory.pages_clear m _ _)

theorem State.pages_pagesLost (cxl : Bool) (unit : Nat) :
    (s.pagesLost cxl unit).mem.pages = s.mem.pages.map (fun kp => (kp.1, kp.2.placeLost cxl unit)) :=
  Memory.pages_clearAll _ _

/-- The fields of a port's status that say what its link gives, at zero (R271). -/
def State.cxlCleared (s : State) (k : Nat) : State :=
  ((s.setF (R.CXL_PORT_STAT k) 27 23 0).setF (R.CXL_PORT_STAT k) 20 17 0).setF (R.CXL_PORT_STAT k) 13 0 0

theorem State.cxlDown_eq (k st : Nat) : s.cxlDown k st
    = ((((s.setCxlSt k st).cxlFailed k (if st = 4 then some s.now else none)).cxlCleared k).pagesLost true k).cxlEvent k 0 := rfl

theorem State.cxlCleared_frame (wf : Tbl.wf regReset s.regs = true) (k : Nat) : (s.cxlCleared k).cxlSt k = s.cxlSt k
    ∧ (∀ hi lo, (s.cxlCleared k).fld (R.CXL_PORT_CTRL k) hi lo = s.fld (R.CXL_PORT_CTRL k) hi lo)
    ∧ (s.cxlCleared k).mem = s.mem := by
  obtain ⟨wf1, st1, ctrl1, mem1⟩ := State.setStat_frame (hi := 27) (lo := 23) (v := 0) wf k (by decide) (by decide)
  obtain ⟨wf2, st2, ctrl2, mem2⟩ := State.setStat_frame (hi := 20) (lo := 17) (v := 0) wf1 k (by decide) (by decide)
  obtain ⟨wf3, st3, ctrl3, mem3⟩ := State.setStat_frame (hi := 13) (lo := 0) (v := 0) wf2 k (by decide) (by decide)
  exact ⟨st3.trans (st2.trans st1), fun hi lo => (ctrl3 hi lo).trans ((ctrl2 hi lo).trans (ctrl1 hi lo)), mem3.trans (mem2.trans mem1)⟩

theorem State.cxlFailed_frame (k : Nat) (t : Option Nat) : (s.cxlFailed k t).regs = s.regs
    ∧ (s.cxlFailed k t).mem.pages = s.mem.pages ∧ (s.cxlFailed k t).clk = s.clk := ⟨rfl, rfl, rfl⟩

theorem State.regs_pagesLost (cxl : Bool) (unit : Nat) : (s.pagesLost cxl unit).regs = s.regs :=
  (State.pagesLost_within s cxl unit).regs_eq (by decide)

/-- A link that is down: the port's state, and its pool's pages are LOST. -/
theorem State.cxlDown_frame (wf : Tbl.wf regReset s.regs = true) (k : Nat) {st : Nat} (fits : st < 16) :
    (s.cxlDown k st).cxlSt k = st
      ∧ (∀ hi lo, (s.cxlDown k st).fld (R.CXL_PORT_CTRL k) hi lo = s.fld (R.CXL_PORT_CTRL k) hi lo)
      ∧ (s.cxlDown k st).mem.pages = s.mem.pages.map (fun kp => (kp.1, kp.2.placeLost true k)) := by
  obtain ⟨wf0, ctrl0, -, mem0⟩ := State.setCxlSt_frame wf k st
  have st0 := State.cxlSt_setCxlSt wf k fits
  rw [State.cxlDown_eq]
  generalize (if st = 4 then some s.now else none) = t
  generalize s.setCxlSt k st = a at wf0 ctrl0 mem0 st0
  obtain ⟨regs, pages, -⟩ := State.cxlFailed_frame (s := a) k t
  obtain ⟨st1, ctrl1, mem1⟩ := State.cxlCleared_frame (s := a.cxlFailed k t) (by rw [regs]; exact wf0) k
  rw [State.cxlSt_of_regs regs k] at st1
  have ctrl2 (hi lo : Nat) := (ctrl1 hi lo).trans (State.fld_of_regs regs (R.CXL_PORT_CTRL k) hi lo)
  have pages2 := (congrArg Memory.pages mem1).trans (pages.trans (congrArg Memory.pages mem0))
  generalize (a.cxlFailed k t).cxlCleared k = b at st1 ctrl2 pages2
  have lost : ((b.pagesLost true k).cxlEvent k 0).regs = b.regs := (State.regs_cxlEvent k 0).trans (State.regs_pagesLost true k)
  refine ⟨(State.cxlSt_of_regs lost k).trans (st1.trans st0),
    fun hi lo => (State.fld_of_regs lost _ hi lo).trans ((ctrl2 hi lo).trans (ctrl0 hi lo)), ?_⟩
  rw [(State.cxlEvent_within _ k 0).mem_eq (by decide), State.pages_pagesLost, pages2]

theorem Page.abandon_at (p : Page) : p.abandon.at_ = p.at_ := by
  unfold Page.abandon
  split
  · rfl
  · rfl

/-- A page that is in the CXL tier after a port's loss is not at that port. -/
theorem Page.placeLost_spares {unit : Nat} (p : Page) (left : (p.placeLost true unit).st = .cxl) :
    ¬((p.placeLost true unit).at_.cxl = true ∧ (p.placeLost true unit).at_.unit = unit) := by
  have same : (p.placeLost true unit).at_ = p.at_ := by
    unfold Page.placeLost
    dsimp only
    split
    case h_1 | h_2 => split <;> rfl
    case h_3 =>
      split
      · rfl
      · split
        · split
          · exact Page.abandon_at p
          · rfl
        · rfl
    case h_4 => rfl
  rw [same]
  rintro ⟨cxl, here⟩
  have at_ : (p.at_.cxl == true && p.at_.unit == unit) = true := by rw [cxl, here, beq_self_eq_true, beq_self_eq_true]; rfl
  unfold Page.placeLost at left
  dsimp only at left
  split at left
  case h_1 | h_2 | h_3 =>
    rw [if_pos at_] at left
    cases left
  case h_4 _ notHbm notCxl notMoving => exact notCxl left

/-- The control register of a port as CXL_PORT_ENABLE writes it (R286). -/
def State.cxlWritten (s : State) (k : Nat) (en : Bool) (fix : Nat) : State :=
  ((s.setF (R.CXL_PORT_CTRL k) 31 31 (bit01 en)).setF (R.CXL_PORT_CTRL k) 12 0 fix).cxlClock k en

theorem State.cxlWritten_frame (wf : Tbl.wf regReset s.regs = true) (k : Nat) (en : Bool) {fix : Nat} (fits : fix < 8192) :
    Tbl.wf regReset (s.cxlWritten k en fix).regs = true ∧ (s.cxlWritten k en fix).cxlSt k = s.cxlSt k
      ∧ (s.cxlWritten k en fix).fld (R.CXL_PORT_CTRL k) 31 31 = bit01 en
      ∧ (s.cxlWritten k en fix).fld (R.CXL_PORT_CTRL k) 12 0 = fix ∧ (s.cxlWritten k en fix).maint = s.maint := by
  have wf1 : Tbl.wf regReset (s.setF (R.CXL_PORT_CTRL k) 31 31 (bit01 en)).regs = true := State.setF_regs_wf wf _ _ _ _
  have first : (s.setF (R.CXL_PORT_CTRL k) 31 31 (bit01 en)).fld (R.CXL_PORT_CTRL k) 31 31 = bit01 en :=
    State.fld_setF_self wf _ (by decide) (by decide) (bit01_lt en)
  have st : (s.setF (R.CXL_PORT_CTRL k) 31 31 (bit01 en)).cxlSt k = s.cxlSt k :=
    State.fld_setF_ne wf _ _ _ _ _ (cxlCtrl_ne_stat k).symm
  have maint : (s.setF (R.CXL_PORT_CTRL k) 31 31 (bit01 en)).maint = s.maint := State.setF_maint _ _ _ _ _
  rw [State.cxlWritten]
  generalize s.setF (R.CXL_PORT_CTRL k) 31 31 (bit01 en) = a at wf1 first st maint
  have clock (u : State) : (u.cxlClock k en).regs = u.regs ∧ (u.cxlClock k en).maint = u.maint := ⟨rfl, rfl⟩
  obtain ⟨regs, maint'⟩ := clock (a.setF (R.CXL_PORT_CTRL k) 12 0 fix)
  refine ⟨by rw [regs]; exact State.setF_regs_wf wf1 _ _ _ _, ?_, ?_, ?_, maint'.trans ((State.setF_maint _ _ _ _ _).trans maint)⟩
  · rw [State.cxlSt_of_regs regs]
    exact (State.fld_setF_ne wf1 _ _ _ _ _ (cxlCtrl_ne_stat k).symm).trans st
  · rw [State.fld_of_regs regs, State.fld_setF_apart wf1 _ _ (by decide) (by decide) (by decide), first]
  · rw [State.fld_of_regs regs]
    exact State.fld_setF_self wf1 _ (by decide) (by decide) fits

theorem exec_cxlPortEnable_eq (k : Fin 8) (en : Bool) (fix : Fin 8192) : exec (.cxlPortEnable k en fix) s
    = .next (s.gate (R.CXL_PORT_CTRL k) (fun s =>
      if en = true ∧ (s.cxlWritten k en fix).cxlSt k = 0 then (s.cxlWritten k en fix).requestMaint (.cxlAdd k) (State.startCxlAdd k)
      else if (!en) = true ∧ (s.cxlWritten k en fix).cxlSt k ≠ 0 then
        (((s.cxlWritten k en fix).cxlDown k 0).endMaint (.cxlAdd k) 3).endMaint (.cxlRemove k) 3
      else (s.cxlWritten k en fix).emptyPort k)) := rfl

/-- A port's state that is entered with its event. -/
theorem State.cxlTo_frame (wf : Tbl.wf regReset s.regs = true) (k : Nat) {st : Nat} (fits : st < 16) :
    ((s.setCxlSt k st).cxlEvent k 0).cxlSt k = st
      ∧ (∀ hi lo, ((s.setCxlSt k st).cxlEvent k 0).fld (R.CXL_PORT_CTRL k) hi lo = s.fld (R.CXL_PORT_CTRL k) hi lo)
      ∧ ((s.setCxlSt k st).cxlEvent k 0).maint = s.maint := by
  obtain ⟨-, ctrl, maint, -⟩ := State.setCxlSt_frame wf k st
  have entered := State.cxlSt_setCxlSt wf k fits
  generalize s.setCxlSt k st = a at ctrl maint entered
  exact ⟨(State.cxlSt_of_regs (State.regs_cxlEvent k 0) k).trans entered,
    fun hi lo => (State.fld_of_regs (State.regs_cxlEvent k 0) _ hi lo).trans (ctrl hi lo),
    ((State.cxlEvent_within a k 0).maint_eq (by decide)).trans maint⟩

theorem cxlPortEnable_gives_training (wf : Tbl.wf regReset s.regs = true) {k : Fin 8} (fix : Fin 8192)
    (on : s.on (regDomain (R.CXL_PORT_CTRL k)) = true) (down : s.cxlSt k = 0) (free : s.maint = []) :
    Gives (.cxlPortEnable k true fix) s (fun t => t.cxlSt k = 1 ∧ t.fld (R.CXL_PORT_CTRL k) 31 31 = 1
      ∧ t.fld (R.CXL_PORT_CTRL k) 12 0 = fix ∧ t.maint = [(.cxlAdd k, true)]) := by
  obtain ⟨wf1, st, en, fixed, maint⟩ := State.cxlWritten_frame wf k true fix.isLt
  have run := exec_cxlPortEnable_eq (s := s) k true fix
  rw [State.gate_on on] at run
  rw [if_pos ⟨rfl, st.trans down⟩, State.requestMaint_of_nil (maint.trans free)] at run
  generalize s.cxlWritten k true fix = a at run wf1 en fixed
  have regs : (a.holding (.cxlAdd k)).regs = a.regs := State.regs_holding _
  obtain ⟨trains, ctrl, lock⟩ := State.cxlTo_frame (s := a.holding (.cxlAdd k)) (by rw [regs]; exact wf1) k (st := 1) (by decide)
  exact ⟨_, run, trains, (ctrl 31 31).trans ((State.fld_of_regs regs _ _ _).trans en),
    (ctrl 12 0).trans ((State.fld_of_regs regs _ _ _).trans fixed), lock.trans (State.maint_holding _)⟩

theorem cxlPortEnable_gives_down (wf : Tbl.wf regReset s.regs = true) {k : Fin 8} (fix : Fin 8192)
    (on : s.on (regDomain (R.CXL_PORT_CTRL k)) = true) (up : s.cxlSt k ≠ 0) :
    Gives (.cxlPortEnable k false fix) s (fun t => t.cxlSt k = 0 ∧ t.fld (R.CXL_PORT_CTRL k) 31 31 = 0) := by
  obtain ⟨wf1, st, en, -, -⟩ := State.cxlWritten_frame wf k false fix.isLt
  have run := exec_cxlPortEnable_eq (s := s) k false fix
  rw [State.gate_on on] at run
  rw [if_neg (fun c => Bool.false_ne_true c.1), if_pos ⟨rfl, by rw [st]; exact up⟩] at run
  generalize s.cxlWritten k false fix = a at run wf1 en
  obtain ⟨down, ctrl, -⟩ := State.cxlDown_frame wf1 k (st := 0) (by decide)
  have regs := (State.regs_endMaint (s := (a.cxlDown k 0).endMaint (.cxlAdd k) 3) (.cxlRemove k) 3).trans (State.regs_endMaint (.cxlAdd k) 3)
  exact ⟨_, run, (State.cxlSt_of_regs regs k).trans down, (State.fld_of_regs regs _ _ _).trans ((ctrl 31 31).trans en)⟩

/-- What a trained link gives, in its port's status (R271). -/
def State.cxlLinked (s : State) (k c width speed decoders : Nat) : State :=
  ((((s.setCxlSt k 2).setF (R.CXL_PORT_STAT k) 27 23 width).setF (R.CXL_PORT_STAT k) 22 21 speed).setF
    (R.CXL_PORT_STAT k) 20 17 decoders).setF (R.CXL_PORT_STAT k) 13 0 c

theorem State.cxlLinked_fields (wf : Tbl.wf regReset s.regs = true) (k : Nat) {c width speed decoders : Nat} (hc : c < 16384)
    (hw : width < 32) (hs : speed < 4) (hd : decoders < 16) :
    (s.cxlLinked k c width speed decoders).cxlSt k = 2
      ∧ (s.cxlLinked k c width speed decoders).fld (R.CXL_PORT_STAT k) 27 23 = width
      ∧ (s.cxlLinked k c width speed decoders).fld (R.CXL_PORT_STAT k) 22 21 = speed
      ∧ (s.cxlLinked k c width speed decoders).fld (R.CXL_PORT_STAT k) 20 17 = decoders
      ∧ (s.cxlLinked k c width speed decoders).fld (R.CXL_PORT_STAT k) 13 0 = c := by
  rw [State.cxlLinked, State.setCxlSt, State.cxlSt]
  generalize R.CXL_PORT_STAT k = off
  have wf1 : Tbl.wf regReset (s.setF off 31 28 2).regs = true := State.setF_regs_wf wf _ _ _ _
  have st : (s.setF off 31 28 2).fld off 31 28 = 2 := State.fld_setF_self wf _ (by decide) (by decide) (by decide)
  generalize s.setF off 31 28 2 = a at wf1 st
  have wf2 : Tbl.wf regReset (a.setF off 27 23 width).regs = true := State.setF_regs_wf wf1 _ _ _ _
  have wf3 : Tbl.wf regReset ((a.setF off 27 23 width).setF off 22 21 speed).regs = true := State.setF_regs_wf wf2 _ _ _ _
  have wf4 : Tbl.wf regReset (((a.setF off 27 23 width).setF off 22 21 speed).setF off 20 17 decoders).regs = true :=
    State.setF_regs_wf wf3 _ _ _ _
  refine ⟨?_, ?_, ?_, ?_, State.fld_setF_self wf4 _ (by decide) (by decide) hc⟩
  · rw [State.fld_setF_apart wf4 _ _ (by decide) (by decide) (by decide), State.fld_setF_apart wf3 _ _ (by decide) (by decide) (by decide),
      State.fld_setF_apart wf2 _ _ (by decide) (by decide) (by decide), State.fld_setF_apart wf1 _ _ (by decide) (by decide) (by decide), st]
  · rw [State.fld_setF_apart wf4 _ _ (by decide) (by decide) (by decide), State.fld_setF_apart wf3 _ _ (by decide) (by decide) (by decide),
      State.fld_setF_apart wf2 _ _ (by decide) (by decide) (by decide), State.fld_setF_self wf1 _ (by decide) (by decide) hw]
  · rw [State.fld_setF_apart wf4 _ _ (by decide) (by decide) (by decide), State.fld_setF_apart wf3 _ _ (by decide) (by decide) (by decide),
      State.fld_setF_self wf2 _ (by decide) (by decide) hs]
  · rw [State.fld_setF_apart wf4 _ _ (by decide) (by decide) (by decide), State.fld_setF_self wf3 _ (by decide) (by decide) hd]

theorem State.clk_cxlLinked (k c width speed decoders : Nat) : (s.cxlLinked k c width speed decoders).clk = s.clk := by
  rw [State.cxlLinked, State.setF_clk, State.setF_clk, State.setF_clk, State.setF_clk, State.setCxlSt, State.setF_clk]

/-- The extent of a port mapped with undefined contents (R271). -/
def State.cxlExtent (s : State) (k : Nat) : State :=
  { s with mem := { s.mem with cxlGen := Tbl.upd (fun _ => 0) s.mem.cxlGen k (· + 1),
                               cxlBytes := s.mem.cxlBytes.filter (fun kb => extentPort kb.1 != k) } }

theorem State.cxlExtent_frame (k : Nat) : (s.cxlExtent k).regs = s.regs ∧ (s.cxlExtent k).clk = s.clk := ⟨rfl, rfl⟩

theorem exec_cxlPortTrained_eq {k : Fin 8} (cap : Fin 16384) (width : Fin 17) (speed : Fin 3) (decoders : Fin 9)
    (trains : s.cxlSt k = 1) (on : s.on 20 = true) : exec (.cxlPortTrained k cap width speed decoders) s
    = .next (((((((s.reach ((Tbl.get (fun _ => none) s.mem.cxlEnAt k).elim 0 (· + 100000000))).cxlLinked k
        (min (min cap.val 8192) (s.cxlLeft k)) width speed decoders).cxlExtent k).cxlFailed k none).cxlEvent k 0)).endMaint (.cxlAdd k) 2) := by
  have go : ¬(s.cxlSt k ≠ 1 ∨ (!s.on 20) = true) := by
    rw [trains, on]
    decide
  change execCxlPortTrained k cap width speed decoders s = _
  rw [execCxlPortTrained, if_neg go]
  rfl

theorem cxlPortTrained_gives (wf : Tbl.wf regReset s.regs = true) {k : Fin 8} (cap : Fin 16384) (width : Fin 17) (speed : Fin 3)
    (decoders : Fin 9) (trains : s.cxlSt k = 1) (on : s.on 20 = true) :
    Gives (.cxlPortTrained k cap width speed decoders) s (fun t => t.cxlSt k = 2
      ∧ t.fld (R.CXL_PORT_STAT k) 27 23 = width ∧ t.fld (R.CXL_PORT_STAT k) 22 21 = speed
      ∧ t.fld (R.CXL_PORT_STAT k) 20 17 = decoders
      ∧ t.fld (R.CXL_PORT_STAT k) 13 0 = min (min cap.val 8192) (s.cxlLeft k)
      ∧ t.now = max s.now ((Tbl.get (fun _ => none) s.mem.cxlEnAt k).elim 0 (· + 100000000))) := by
  have run := exec_cxlPortTrained_eq cap width speed decoders trains on
  have small : min (min cap.val 8192) (s.cxlLeft k) < 16384 := by omega
  generalize (Tbl.get (fun _ => none) s.mem.cxlEnAt k).elim 0 (· + 100000000) = t0 at run ⊢
  generalize min (min cap.val 8192) (s.cxlLeft k) = c at run small ⊢
  have now := State.now_reach (s := s) t0
  have wf1 : Tbl.wf regReset (s.reach t0).regs = true := by rw [State.reach_regs]; exact wf
  generalize s.reach t0 = a at run now wf1
  obtain ⟨st, w, sp, d, ca⟩ := State.cxlLinked_fields wf1 k small (Nat.lt_of_lt_of_le width.isLt (by decide))
    (Nat.lt_of_lt_of_le speed.isLt (by decide)) (Nat.lt_of_lt_of_le decoders.isLt (by decide))
  have clk : (a.cxlLinked k c width speed decoders).clk = a.clk := State.clk_cxlLinked k c width speed decoders
  generalize a.cxlLinked k c width speed decoders = b at run st w sp d ca clk
  obtain ⟨regs1, clk1⟩ := State.cxlExtent_frame (s := b) k
  obtain ⟨regs2, -, clk2⟩ := State.cxlFailed_frame (s := b.cxlExtent k) k none
  have regs := (State.regs_endMaint (s := ((b.cxlExtent k).cxlFailed k none).cxlEvent k 0) (.cxlAdd k) 2).trans
    ((State.regs_cxlEvent k 0).trans (regs2.trans regs1))
  have time := ((State.endMaint_within (((b.cxlExtent k).cxlFailed k none).cxlEvent k 0) (.cxlAdd k) 2).clk_eq (by decide)).trans
    (((State.cxlEvent_within ((b.cxlExtent k).cxlFailed k none) k 0).clk_eq (by decide)).trans (clk2.trans (clk1.trans clk)))
  exact ⟨_, run, (State.cxlSt_of_regs regs k).trans st, (State.fld_of_regs regs _ _ _).trans w, (State.fld_of_regs regs _ _ _).trans sp,
    (State.fld_of_regs regs _ _ _).trans d, (State.fld_of_regs regs _ _ _).trans ca, (State.now_of_clk time).trans now⟩

theorem cxlRemove_gives (wf : Tbl.wf regReset s.regs = true) {k : Fin 8} (on : s.on (regDomain (R.CXL_PORT_CTRL k)) = true)
    (up : s.cxlSt k = 2) (free : s.maint = []) :
    Gives (.cxlRemove k) s (fun t => t.cxlSt k = 3 ∧ t.maint = [(.cxlRemove k, true)]) := by
  have run : exec (.cxlRemove k) s = .next ((((s.holding (.cxlRemove k)).setCxlSt k 3).cxlEvent k 0).emptyPort k) := by
    change execCxlRemove k s = _
    rw [execCxlRemove, State.gate_on on, if_pos up, State.requestMaint_of_nil free, State.startCxlRemove]
  have regs : (s.holding (.cxlRemove k)).regs = s.regs := State.regs_holding _
  obtain ⟨removing, -, lock⟩ := State.cxlTo_frame (s := s.holding (.cxlRemove k)) (by rw [regs]; exact wf) k (st := 3) (by decide)
  have lock' := lock.trans (State.maint_holding _)
  generalize ((s.holding (.cxlRemove k)).setCxlSt k 3).cxlEvent k 0 = a at run removing lock'
  have still := State.emptyPort_within a k
  exact ⟨_, run, (State.cxlSt_of_regs (still.regs_eq (by decide)) k).trans removing, (still.maint_eq (by decide)).trans lock'⟩

theorem cxlRemoveDone_gives (wf : Tbl.wf regReset s.regs = true) {k : Fin 8} (removing : s.cxlSt k = 3) (fixed : s.cxlFix k = 0)
    (empty : s.takenFrames true k = []) (unspilled : s.spillFramesAt (4 + k) = 0) :
    Gives (.cxlRemoveDone k) s (fun t => t.cxlSt k = 0) := by
  have go : ¬(s.cxlSt k ≠ 3 ∨ s.cxlFix k ≠ 0 ∨ s.takenFrames true k ≠ [] ∨ s.spillFramesAt (4 + k) ≠ 0) := by
    rw [removing, fixed, empty, unspilled]
    simp
  have run : exec (.cxlRemoveDone k) s = .next (((s.cxlDown k 0).cxlClock k false).endMaint (.cxlRemove k) 2) := by
    change execCxlRemoveDone k s = _
    rw [execCxlRemoveDone, if_neg go]
  obtain ⟨down, -, -⟩ := State.cxlDown_frame wf k (st := 0) (by decide)
  have clock (u : State) : (u.cxlClock k false).regs = u.regs := rfl
  exact ⟨_, run, (State.cxlSt_of_regs ((State.regs_endMaint _ _).trans (clock _)) k).trans down⟩

theorem cxlPortFail_gives (wf : Tbl.wf regReset s.regs = true) {k : Fin 8} (up : s.cxlSt k = 2) :
    Gives (.cxlPortFail k) s (fun t => t.cxlSt k = 4
      ∧ ∀ x, x ∈ t.mem.pages → x.2.st = .cxl → ¬(x.2.at_.cxl = true ∧ x.2.at_.unit = k)) := by
  have go : ¬(s.cxlSt k = 0 ∨ s.cxlSt k = 4) := by
    rw [up]
    decide
  have run : exec (.cxlPortFail k) s = .next (((s.cxlDown k 4).endMaint (.cxlRemove k) 3).endMaint (.cxlAdd k) 3) := by
    change execCxlPortFail k s = _
    rw [execCxlPortFail, if_neg go]
  obtain ⟨failed, -, pages⟩ := State.cxlDown_frame wf k (st := 4) (by decide)
  have regs := (State.regs_endMaint (s := (s.cxlDown k 4).endMaint (.cxlRemove k) 3) (.cxlAdd k) 3).trans (State.regs_endMaint (.cxlRemove k) 3)
  have mem := ((State.endMaint_within ((s.cxlDown k 4).endMaint (.cxlRemove k) 3) (.cxlAdd k) 3).mem_eq (by decide)).trans
    ((State.endMaint_within (s.cxlDown k 4) (.cxlRemove k) 3).mem_eq (by decide))
  refine ⟨_, run, (State.cxlSt_of_regs regs k).trans failed, fun x at_ tier => ?_⟩
  rw [mem, pages] at at_
  obtain ⟨kp, -, rfl⟩ := List.mem_map.mp at_
  exact Page.placeLost_spares kp.2 tier

theorem cxlRetrainTick_gives (wf : Tbl.wf regReset s.regs = true) {k : Fin 8} (failed : s.cxlSt k = 4)
    (en : s.fld (R.CXL_PORT_CTRL k) 31 31 = 1) (on : s.on 20 = true) :
    Gives (.cxlRetrainTick k) s (fun t => t.cxlSt k = 1
      ∧ t.now = max s.now ((Tbl.get (fun _ => none) s.mem.cxlFailAt k).getD s.now + 1000000000)) := by
  have go : ¬(s.cxlSt k ≠ 4 ∨ s.fld (R.CXL_PORT_CTRL k) 31 31 = 0 ∨ (!s.on 20) = true) := by
    rw [failed, en, on]
    decide
  have run : exec (.cxlRetrainTick k) s
      = .next ((((s.reach ((Tbl.get (fun _ => none) s.mem.cxlFailAt k).getD s.now + 1000000000)).cxlFailed k
        (some (s.reach ((Tbl.get (fun _ => none) s.mem.cxlFailAt k).getD s.now + 1000000000)).now)).setCxlSt k 1).cxlEvent k 0) := by
    change execCxlRetrainTick k s = _
    rw [execCxlRetrainTick, if_neg go]
  generalize (Tbl.get (fun _ => none) s.mem.cxlFailAt k).getD s.now + 1000000000 = t0 at run
  have now := State.now_reach (s := s) t0
  have wf1 : Tbl.wf regReset (s.reach t0).regs = true := by rw [State.reach_regs]; exact wf
  generalize s.reach t0 = a at run now wf1
  obtain ⟨regs, -, clk⟩ := State.cxlFailed_frame (s := a) k (some a.now)
  generalize a.cxlFailed k (some a.now) = b at run regs clk
  obtain ⟨trains, -, -⟩ := State.cxlTo_frame (s := b) (by rw [regs]; exact wf1) k (st := 1) (by decide)
  have time := ((State.cxlEvent_within (b.setCxlSt k 1) k 0).clk_eq (by decide)).trans ((State.setF_clk _ _ _ _ _).trans clk)
  exact ⟨_, run, trains, (State.now_of_clk time).trans now⟩

theorem cxlDeviceEvent_eq {k : Fin 8} (cls : Fin 256) (serves : s.cxlServes k = true) (on : s.on 2 = true) :
    exec (.cxlDeviceEvent k cls) s = .next (s.cxlEvent k cls) := by
  change execCxlDeviceEvent k cls s = _
  rw [execCxlDeviceEvent, if_pos ⟨serves, on⟩]

/-- Settles O38. -/
theorem stacksAndCxlPortsFollowTheirStates : Obligations.StacksAndCxlPortsFollowTheirStates := by
  unfold Obligations.StacksAndCxlPortsFollowTheirStates
  refine ⟨fun s k h => ⟨fun on none_ online still free => stackRetireRequest_gives h k.isLt on none_ online still free,
    stackDemoteDone_eq, stackRelocateDone_gives h, stackFail_gives h k,
    fun _ _ _ _ stack die on works clean => hbmScrub_gives h stack die on works clean⟩, fun s k h => ?_⟩
  have wf := State.canonical.regs h
  exact ⟨fun fix on down free => cxlPortEnable_gives_training wf fix on down free,
    fun fix on up => cxlPortEnable_gives_down wf fix on up,
    fun cap width speed decoders trains on => cxlPortTrained_gives wf cap width speed decoders trains on,
    cxlRemove_gives wf, cxlRemoveDone_gives wf, cxlPortFail_gives wf, cxlRetrainTick_gives wf, cxlDeviceEvent_eq⟩

end Sys2Proof.Machine

/-!
PROOFS. Pages, fixed windows, Easel's interval and the room for spill (R268, R273, R274, R276, R279 to R281).
-/
namespace Sys2Proof.Machine
variable {s : State}

/-! ## A range made zero (R268, R273) -/

/-- The key of a handle's byte: its anchor, and its place in the handle window. -/
theorem pageKey_eq {h : Nat} (lt : h < 2 ^ 28) : pageKey h = h % 4 * 2 ^ 46 + (2 ^ 45 + h * 2 ^ 17) := by
  unfold pageKey memKey
  omega

theorem Tbl.get_filter_of_false {α : Type} {d : Nat → α} {keep : Nat × α → Bool} {k : Nat} {t : Tbl α} (gone : ∀ v, keep (k, v) = false) :
    Tbl.get d (t.filter keep) k = d k := by
  refine Tbl.get_of_absent fun x at_ same => ?_
  obtain ⟨-, kept⟩ := List.mem_filter.mp at_
  have off := gone x.2
  rw [← same] at off
  exact Bool.false_ne_true (off.symm.trans kept)

/-- A byte of a cleared range is zero, where no CXL extent holds it. -/
theorem Memory.held_clear {m : Memory} {lo hi key : Nat} (low : lo ≤ key) (high : key < hi) (ext : isExtent key = false) :
    (m.clear lo hi).held key = 0 := by
  rw [Memory.held, if_neg (by rw [ext]; exact Bool.false_ne_true)]
  exact Tbl.get_filter_of_false fun _ => by simp [low, high]

/-- A range of whole slices that is cleared holds no poison. -/
theorem State.poisoned_zeroRange {lo hi key : Nat} (first : lo % 16384 = 0) (last : hi % 16384 = 0) (low : lo ≤ key) (high : key < hi) :
    (s.zeroRange lo hi).poisoned key = false := by
  have line : Tbl.get (fun _ => false) (s.zeroRange lo hi).mem.poison (key / 64) = false :=
    Tbl.get_filter_of_false (d := fun _ => false) fun _ => by
      simp only [Bool.or_eq_false_iff, decide_eq_false_iff_not]
      omega
  have slice : Tbl.get (fun _ => false) (s.zeroRange lo hi).mem.badSlices (key / 16384) = false :=
    Tbl.get_filter_of_false (d := fun _ => false) fun _ => by
      simp only [Bool.or_eq_false_iff, decide_eq_false_iff_not]
      omega
  rw [State.poisoned, line, slice]
  rfl

/-- The buffer holds no line of a range made zero. -/
theorem State.lineOf_zeroRange (homes : Tbl.wf (fun _ => Home.init) s.homes = true) {lo hi key : Nat} (first : lo % 64 = 0)
    (last : hi % 64 = 0) (low : lo ≤ key) (high : key < hi) (home : key / 2 ^ 46 = lo / 2 ^ 46) : (s.zeroRange lo hi).lineOf key = none := by
  have lines : ((s.zeroRange lo hi).home (lo / 2 ^ 46)).lines
      = (s.home (lo / 2 ^ 46)).lines.filter (fun l => l.line * 64 < lo || hi ≤ l.line * 64) :=
    congrArg Home.lines (Tbl.get_put_self homes _ _)
  rw [State.lineOf, home, lines, List.find?_eq_none]
  intro l at_ same
  obtain ⟨-, out⟩ := List.mem_filter.mp at_
  have line := beq_iff_eq.mp same
  simp only [Bool.or_eq_true, decide_eq_true_eq] at out
  omega

theorem State.readByte_zeroRange (homes : Tbl.wf (fun _ => Home.init) s.homes = true) {lo hi key : Nat} (first : lo % 16384 = 0)
    (last : hi % 16384 = 0) (low : lo ≤ key) (high : key < hi) (home : key / 2 ^ 46 = lo / 2 ^ 46) (ext : isExtent key = false) :
    (s.zeroRange lo hi).readByte key = 0 := by
  have mem : (s.zeroRange lo hi).mem.held key = 0 := Memory.held_clear low high ext
  rw [State.readByte_eq, State.lineOf_zeroRange homes (by omega) (by omega) low high home, State.memByte_eq,
    State.poisoned_zeroRange first last low high, mem]
  rfl

theorem State.readByte_zeroPage (homes : Tbl.wf (fun _ => Home.init) s.homes = true) (h : Fin 268435456) {i : Nat} (lt : i < 131072) :
    (s.zeroPage h).readByte (pageKey h + i) = 0 := by
  have key : pageKey h = h.val % 4 * 2 ^ 46 + (2 ^ 45 + h.val * 2 ^ 17) := pageKey_eq h.isLt
  have bound := h.isLt
  have place : pageKey h + i = 2 ^ 45 + h.val * 2 ^ 17 + i + 2 ^ 46 * (h.val % 4) := by omega
  have small : 2 ^ 45 + h.val * 2 ^ 17 + i < 2 ^ 46 := by omega
  have offset : (pageKey h + i) % 2 ^ 46 = 2 ^ 45 + h.val * 2 ^ 17 + i := by
    rw [place, Nat.add_mul_mod_self_left, Nat.mod_eq_of_lt small]
  have ext : isExtent (pageKey h + i) = false := by
    rw [isExtent, offset]
    simp only [Bool.and_eq_false_iff, decide_eq_false_iff_not]
    omega
  have home : (pageKey h + i) / 2 ^ 46 = h.val % 4 := by
    rw [place, Nat.add_mul_div_left _ _ (by decide), Nat.div_eq_of_lt small, Nat.zero_add]
  have anchor : pageKey h / 2 ^ 46 = h.val % 4 := by omega
  exact State.readByte_zeroRange homes (by omega) (by omega) (by omega) (by omega) (home.trans anchor.symm) ext

/-! ## Commands on pages (R274) -/

theorem State.page_setPage (h : Nat) {p : Page} (mapped : p ≠ Page.init) : (s.setPage h p).page h = p :=
  Tbl.get_put_of_ne_default (d := fun _ => Page.init) s.mem.pages h (x := p) mapped

theorem Page.ne_init_of_st {p : Page} (mapped : p.st ≠ .unmapped) : p ≠ Page.init := fun same => mapped (congrArg Page.st same)

theorem State.setPage_frame (h : Nat) (p : Page) : (s.setPage h p).regs = s.regs ∧ (s.setPage h p).homes = s.homes
    ∧ (∀ a, (s.setPage h p).readByte a = s.readByte a) ∧ (s.setPage h p).mem.pages = Tbl.put (fun _ => Page.init) s.mem.pages h p :=
  ⟨rfl, rfl, fun _ => rfl, rfl⟩

theorem State.zeroPage_frame (h : Nat) : (s.zeroPage h).regs = s.regs ∧ (s.zeroPage h).mem.pages = s.mem.pages := ⟨rfl, rfl⟩

theorem State.page_of_mem {t : State} (same : t.mem = s.mem) (h : Nat) : t.page h = s.page h := by rw [State.page, State.page, same]

/-- A status written leaves memory, and says itself. -/
theorem State.pageStatus_frame (wf : Tbl.wf regReset s.regs = true) {v : Nat} (fits : v < 16) :
    (s.setF R.MEM_PAGE_STAT 3 0 v).fld R.MEM_PAGE_STAT 3 0 = v ∧ (s.setF R.MEM_PAGE_STAT 3 0 v).mem = s.mem
      ∧ (∀ h, (s.setF R.MEM_PAGE_STAT 3 0 v).page h = s.page h)
      ∧ (∀ a, (s.setF R.MEM_PAGE_STAT 3 0 v).readByte a = s.readByte a) :=
  ⟨State.fld_setF_self wf _ (by decide) (by decide) fits, State.setF_mem _ _ _ _ _, State.page_of_mem (State.setF_mem _ _ _ _ _),
    State.readByte_congr (State.setF_mem _ _ _ _ _) (State.setF_homes _ _ _ _ _)⟩

theorem pageAlloc_gives (h : s.canonical = true) {n : Fin 268435456} {p : Place} (on : s.on (regDomain R.MEM_PAGE_CMD) = true)
    (good : pageDataBad (s.rd (R.MEM_PAGE_DATA 0)) = false) (free : (s.page n).st = .unmapped)
    (loose : (s.rd (R.MEM_PAGE_DATA 0)).fld 24 24 = 0)
    (placed : s.easelPlace ((s.rd (R.MEM_PAGE_DATA 0)).fld 28 27) ((s.rd (R.MEM_PAGE_DATA 0)).fld 26 25) none = some p) :
    Gives (.pageAlloc n) s (fun t => t.fld R.MEM_PAGE_STAT 3 0 = 0 ∧ (t.page n).at_ = p
      ∧ (t.page n).st = (if p.cxl then .cxl else .hbm) ∧ (t.page n).pin = (s.rd (R.MEM_PAGE_DATA 0)).fld 28 27
      ∧ ∀ i, i < 131072 → t.readByte (pageKey n + i) = 0) := by
  let x : Page := { Page.init with st := if p.cxl then .cxl else .hbm, pin := (s.rd (R.MEM_PAGE_DATA 0)).fld 28 27,
                                   pinDie := (s.rd (R.MEM_PAGE_DATA 0)).fld 26 25,
                                   affValid := false, affDie := (s.rd (R.MEM_PAGE_DATA 0)).fld 23 22, at_ := p }
  have run : exec (.pageAlloc n) s = .next (((s.zeroPage n).setPage n x).setF R.MEM_PAGE_STAT 3 0 0) := by
    change execPageAlloc n s = _
    rw [execPageAlloc, State.gate_on on]
    dsimp only
    rw [loose, if_neg (by rw [good]; exact Bool.false_ne_true), if_neg (fun c => c free), if_neg (by decide), placed]
    rfl
  have mapped : x.st ≠ .unmapped := by
    change (if p.cxl = true then PageState.cxl else .hbm) ≠ .unmapped
    split
    · exact nofun
    · exact nofun
  obtain ⟨zregs, -⟩ := State.zeroPage_frame (s := s) n
  have zero := fun i (lt : i < 131072) => State.readByte_zeroPage (State.canonical.homes h) n lt
  generalize s.zeroPage n = z at run zregs zero
  obtain ⟨regs, -, bytes, -⟩ := State.setPage_frame (s := z) n x
  obtain ⟨stat, -, page, byte⟩ := State.pageStatus_frame (s := z.setPage n x) (v := 0)
    (by rw [regs, zregs]; exact State.canonical.regs h) (by decide)
  have entry := (page n).trans (State.page_setPage n (Page.ne_init_of_st mapped))
  exact ⟨_, run, stat, congrArg Page.at_ entry, congrArg Page.st entry, congrArg Page.pin entry,
    fun i lt => (byte _).trans ((bytes _).trans (zero i lt))⟩

theorem pageAlloc_gives_mapped (wf : Tbl.wf regReset s.regs = true) {n : Fin 268435456} (on : s.on (regDomain R.MEM_PAGE_CMD) = true)
    (good : pageDataBad (s.rd (R.MEM_PAGE_DATA 0)) = false) (mapped : (s.page n).st ≠ .unmapped) :
    Gives (.pageAlloc n) s (fun t => t.fld R.MEM_PAGE_STAT 3 0 = 4 ∧ t.mem = s.mem) := by
  have run : exec (.pageAlloc n) s = .next (s.setF R.MEM_PAGE_STAT 3 0 4) := by
    change execPageAlloc n s = _
    rw [execPageAlloc, State.gate_on on]
    dsimp only
    rw [if_neg (by rw [good]; exact Bool.false_ne_true), if_pos mapped]
  obtain ⟨stat, mem, -, -⟩ := State.pageStatus_frame wf (v := 4) (by decide)
  exact ⟨_, run, stat, mem⟩

theorem pageFree_gives (h : s.canonical = true) {n : Fin 268435456} (on : s.on (regDomain R.MEM_PAGE_CMD) = true)
    (mapped : (s.page n).st ≠ .unmapped) : Gives (.pageFree n) s (fun t => t.fld R.MEM_PAGE_STAT 3 0 = 0
      ∧ t.mem.pages = Tbl.put (fun _ => Page.init) s.mem.pages n Page.init
      ∧ ∀ i, i < 131072 → t.readByte (pageKey n + i) = 0) := by
  have run : exec (.pageFree n) s = .next (((s.zeroPage n).setPage n Page.init).setF R.MEM_PAGE_STAT 3 0 0) := by
    change execPageFree n s = _
    rw [execPageFree, State.gate_on on, if_neg mapped]
  obtain ⟨zregs, zpages⟩ := State.zeroPage_frame (s := s) n
  have zero := fun i (lt : i < 131072) => State.readByte_zeroPage (State.canonical.homes h) n lt
  generalize s.zeroPage n = z at run zregs zero zpages
  obtain ⟨regs, -, bytes, pages⟩ := State.setPage_frame (s := z) n Page.init
  obtain ⟨stat, mem, -, byte⟩ := State.pageStatus_frame (s := z.setPage n Page.init) (v := 0)
    (by rw [regs, zregs]; exact State.canonical.regs h) (by decide)
  rw [zpages] at pages
  exact ⟨_, run, stat, (congrArg Memory.pages mem).trans pages, fun i lt => (byte _).trans ((bytes _).trans (zero i lt))⟩

theorem pageFree_gives_unmapped (wf : Tbl.wf regReset s.regs = true) {n : Fin 268435456} (on : s.on (regDomain R.MEM_PAGE_CMD) = true)
    (unmapped : (s.page n).st = .unmapped) : Gives (.pageFree n) s (fun t => t.fld R.MEM_PAGE_STAT 3 0 = 4 ∧ t.mem = s.mem) := by
  have run : exec (.pageFree n) s = .next (s.setF R.MEM_PAGE_STAT 3 0 4) := by
    change execPageFree n s = _
    rw [execPageFree, State.gate_on on, if_pos unmapped]
  obtain ⟨stat, mem, -, -⟩ := State.pageStatus_frame wf (v := 4) (by decide)
  exact ⟨_, run, stat, mem⟩

theorem Page.words_length (p : Page) : p.words.length = 4 := by
  unfold Page.words
  dsimp only
  split
  · rfl
  · rfl

theorem pageRead_gives (wf : Tbl.wf regReset s.regs = true) {n : Fin 268435456} (on : s.on (regDomain R.MEM_PAGE_CMD) = true) :
    Gives (.pageRead n) s (fun t => t.fld R.MEM_PAGE_STAT 3 0 = 0 ∧ t.mem = s.mem
      ∧ t.rdWords (R.MEM_PAGE_DATA 0) 4 = (s.page n).words) := by
  have run : exec (.pageRead n) s = .next ((s.wrWords (R.MEM_PAGE_DATA 0) (s.page n).words).status R.MEM_PAGE_STAT 0) := by
    change execPageRead n s = _
    rw [execPageRead, State.gate_on on]
    rfl
  have apart : ∀ i, i < 4 → R.MEM_PAGE_DATA 0 + 4 * i ≠ R.MEM_PAGE_STAT := by decide
  obtain ⟨words, stat⟩ := State.answered wf (off := R.MEM_PAGE_DATA 0) (Page.words_length (s.page n)) (v := 0) (by decide) apart
  exact ⟨_, run, stat, rfl, words⟩

theorem State.moveToPin_of_kept {n : Nat} (kept : breaksPin (s.page n).pin (s.page n).pinDie (s.page n).at_ = false) :
    s.moveToPin n = s := if_pos (by rw [kept]; rfl)

/-- A page with other pin fields (R274). -/
def Page.repinned (p : Page) (pin die : Nat) : Page := { p with pin := pin, pinDie := die }

theorem pageSetPin_gives (wf : Tbl.wf regReset s.regs = true) {n : Fin 268435456} (on : s.on (regDomain R.MEM_PAGE_CMD) = true)
    (good : pageDataBad (s.rd (R.MEM_PAGE_DATA 0)) = false) (hbm : (s.page n).st = .hbm) (still : (s.page n).dst = none)
    (kept : breaksPin ((s.rd (R.MEM_PAGE_DATA 0)).fld 28 27) ((s.rd (R.MEM_PAGE_DATA 0)).fld 26 25) (s.page n).at_ = false) :
    Gives (.pageSetPin n) s (fun t => t.fld R.MEM_PAGE_STAT 3 0 = 0 ∧ t.page n = { s.page n with
      pin := (s.rd (R.MEM_PAGE_DATA 0)).fld 28 27, pinDie := (s.rd (R.MEM_PAGE_DATA 0)).fld 26 25 }) := by
  change Gives (.pageSetPin n) s (fun t => _ ∧ t.page n = (s.page n).repinned ((s.rd (R.MEM_PAGE_DATA 0)).fld 28 27)
    ((s.rd (R.MEM_PAGE_DATA 0)).fld 26 25))
  generalize hx : (s.page n).repinned ((s.rd (R.MEM_PAGE_DATA 0)).fld 28 27) ((s.rd (R.MEM_PAGE_DATA 0)).fld 26 25) = x
  have run : exec (.pageSetPin n) s = .next (((s.setPage n x).moveToPin n).setF R.MEM_PAGE_STAT 3 0 0) := by
    change execPageSetPin n s = _
    rw [execPageSetPin, State.gate_on on]
    dsimp only
    rw [if_neg (by rw [good]; exact Bool.false_ne_true), if_neg (by rw [hbm]; simp), still, kept, ← hx]
    exact congrArg Host.Outcome.next (if_neg (fun c => Bool.false_ne_true c.1))
  have entry : (s.setPage n x).page n = x := State.page_setPage n (Page.ne_init_of_st (by rw [← hx]; exact fun c => nomatch hbm.symm.trans c))
  rw [State.moveToPin_of_kept (by rw [entry, ← hx]; exact kept)] at run
  obtain ⟨regs, -⟩ := State.setPage_frame (s := s) n x
  obtain ⟨stat, -, page, -⟩ := State.pageStatus_frame (s := s.setPage n x) (v := 0) (by rw [regs]; exact wf) (by decide)
  exact ⟨_, run, stat, (page n).trans entry⟩

/-! ## A copy that is done (R281) -/

/-- The page map and the counter of copied bytes are as before, and counters stay well-formed. -/
structure CopyKept (s t : State) : Prop where
  pages : t.mem.pages = s.mem.pages
  wf : Tbl.wf (fun _ => 0) s.cnt = true → Tbl.wf (fun _ => 0) t.cnt = true
  count : Tbl.wf (fun _ => 0) s.cnt = true → t.count C.MEM_MIG_BYTES = s.count C.MEM_MIG_BYTES

theorem CopyKept.trans {t u : State} (h : CopyKept s t) (k : CopyKept t u) : CopyKept s u :=
  ⟨k.pages.trans h.pages, fun w => k.wf (h.wf w), fun w => (k.count (h.wf w)).trans (h.count w)⟩

theorem CopyKept.of_eq {t : State} (pages : t.mem.pages = s.mem.pages) (cnt : t.cnt = s.cnt) : CopyKept s t :=
  ⟨pages, fun w => by rw [cnt]; exact w, fun _ => State.count_of_cnt cnt _⟩

theorem CopyKept.bump {off : Nat} (ne : C.MEM_MIG_BYTES ≠ off) (n : Nat) : CopyKept s (s.bump off n) :=
  ⟨rfl, fun w => bumpTbl_wf w _ _, fun w => State.count_bump_ne w n ne⟩

theorem State.page_bump (off n h : Nat) : (s.bump off n).page h = s.page h := rfl

theorem State.cnt_bump_wf (wf : Tbl.wf (fun _ => 0) s.cnt = true) (off n : Nat) : Tbl.wf (fun _ => 0) (s.bump off n).cnt = true :=
  bumpTbl_wf wf off n

theorem CopyKept.each {α : Type} {f : α → State → State} (k : ∀ x s, CopyKept s (f x s)) :
    ∀ (l : List α) (s : State), CopyKept s (forEach f l s)
  | [], _ => .of_eq rfl rfl
  | x :: l, s => (k x s).trans (CopyKept.each k l (f x s))

theorem migBytes_ne_cxl (k : Nat) : C.MEM_MIG_BYTES ≠ C.CXL_WR_BYTES k ∧ C.MEM_MIG_BYTES ≠ C.CXL_RD_BYTES k
    ∧ C.MEM_MIG_BYTES ≠ C.CXL_POISON k := by
  unfold C.MEM_MIG_BYTES C.CXL_WR_BYTES C.CXL_RD_BYTES C.CXL_POISON
  omega

theorem State.cxlBytesCount_copyKept (at_ : Serve) (write : Bool) (n : Nat) (poison : Bool) : CopyKept s (s.cxlBytesCount at_ write n poison) := by
  unfold State.cxlBytesCount
  split
  case h_2 => exact .of_eq rfl rfl
  case h_1 k =>
    obtain ⟨wr, rd, bad⟩ := migBytes_ne_cxl k
    have counted : CopyKept s (s.bump (if write then C.CXL_WR_BYTES k else C.CXL_RD_BYTES k) n) := by
      cases write
      · exact .bump rd n
      · exact .bump wr n
    dsimp only
    split
    · exact counted.trans (.bump bad 1)
    · exact counted

theorem Memory.pages_putBytes : ∀ (bs : List Byte) (m : Memory) (key : Nat), (m.putBytes key bs).pages = m.pages
  | [], _, _ => rfl
  | b :: bs, m, key => by
    have step : (m.putByte key b).pages = m.pages := by
      unfold Memory.putByte
      split
      · rfl
      · rfl
    exact (Memory.pages_putBytes bs (m.putByte key b) (key + 1)).trans step

theorem State.writeBack_copyKept (d : Nat) (ls : List Nat) : CopyKept s (s.writeBack d ls) := by
  unfold State.writeBack
  extract_lets h out a
  have dropped : CopyKept s a := .of_eq rfl rfl
  refine dropped.trans (CopyKept.each (fun x t => ?_) _ _)
  split
  · exact .of_eq rfl rfl
  · next bs _ =>
    extract_lets m b
    have same : b.mem.pages = t.mem.pages := by
      change (if x.poisoned then m else m.heal (x.line * 64) 64).pages = _
      split
      · exact Memory.pages_putBytes bs t.mem _
      · exact Memory.pages_putBytes bs t.mem _
    have put : CopyKept t b := .of_eq same rfl
    exact put.trans (State.cxlBytesCount_copyKept _ _ _ _)

/-- The count of the reason of a move. -/
def State.countReason (s : State) (why : Nat) : State :=
  if why = 0 then s.bump C.MEM_DEMOTIONS 1 else if why = 1 then s.bump C.MEM_PROMOTIONS 1
  else if why = 2 then s.bump C.MEM_FOLLOW_MOVES 1 else s

theorem State.countReason_copyKept (why : Nat) : CopyKept s (s.countReason why) := by
  unfold State.countReason
  split
  · exact .bump (by decide) 1
  · split
    · exact .bump (by decide) 1
    · split
      · exact .bump (by decide) 1
      · exact .of_eq rfl rfl

/-- The lines of a page that its anchor's buffer holds. -/
def State.heldLines (s : State) (h : Nat) : List Nat :=
  ((s.home (h % 4)).lines.filter (fun l => l.line / 2048 == pageKey h / 131072)).map (·.line)

/-- The state in which a page's lines and poison are at its destination. -/
def State.copied (s : State) (h : Nat) : State :=
  { s.writeBack (h % 4) (s.heldLines h) with
    mem := (s.writeBack (h % 4) (s.heldLines h)).mem.spreadPoison ((List.range 8).map (fun i => pageKey h / 16384 + i)) }

theorem State.copied_copyKept (h : Nat) : CopyKept s (s.copied h) :=
  (State.writeBack_copyKept (h % 4) (s.heldLines h)).trans (.of_eq rfl rfl)

/-- A page at the destination of its move. -/
def Page.landed (p : Page) (d : Place) : Page := { p with st := if d.cxl then .cxl else .hbm, at_ := d, dst := none }

theorem Page.landed_ne_init (p : Page) (d : Place) : p.landed d ≠ Page.init := by
  refine Page.ne_init_of_st ?_
  change (if d.cxl = true then PageState.cxl else .hbm) ≠ .unmapped
  split
  · exact nofun
  · exact nofun

theorem exec_pageCopyDone_of_moving {n : Fin 268435456} {d : Place} (moves : (s.page n).st = .migrating)
    (to_ : (s.page n).dst = some d) : exec (.pageCopyDone n) s = .next (((((s.copied n).setPage n (((s.copied n).page n).landed d)).bump
      C.MEM_MIG_BYTES 131072)).countReason ((s.copied n).page n).why) := by
  change execPageCopyDone n s = _
  unfold execPageCopyDone
  extract_lets p
  have st : p.st = .migrating := moves
  have dst : p.dst = some d := to_
  rw [st, dst]
  rfl

theorem pageCopyDone_gives (h : s.canonical = true) {n : Fin 268435456} {d : Place} (moves : (s.page n).st = .migrating)
    (to_ : (s.page n).dst = some d) : Gives (.pageCopyDone n) s (fun t => (t.page n).at_ = d ∧ (t.page n).dst = none
      ∧ (t.page n).st = (if d.cxl then .cxl else .hbm) ∧ (t.page n).pin = (s.page n).pin
      ∧ t.count C.MEM_MIG_BYTES = (s.count C.MEM_MIG_BYTES + 131072) % 2 ^ 64) := by
  have run := exec_pageCopyDone_of_moving moves to_
  obtain ⟨pages, wfc, count⟩ := State.copied_copyKept (s := s) n
  have wfc := wfc (State.canonical.cnt h)
  have count := count (State.canonical.cnt h)
  have page : (s.copied n).page n = s.page n := congrArg (fun t => Tbl.get (fun _ => Page.init) t n.val) pages
  rw [page] at run
  generalize s.copied n = a at run wfc count
  have entry := State.page_setPage (s := a) n (Page.landed_ne_init (s.page n) d)
  have cnt : (a.setPage n ((s.page n).landed d)).cnt = a.cnt := rfl
  rw [← cnt] at wfc
  rw [← State.count_of_cnt cnt] at count
  generalize a.setPage n ((s.page n).landed d) = b at run wfc count entry
  have counted := State.count_bump_self wfc C.MEM_MIG_BYTES 131072
  have wfc1 : Tbl.wf (fun _ => 0) (b.bump C.MEM_MIG_BYTES 131072).cnt = true := State.cnt_bump_wf wfc C.MEM_MIG_BYTES 131072
  have entry1 : (b.bump C.MEM_MIG_BYTES 131072).page n = (s.page n).landed d := (State.page_bump C.MEM_MIG_BYTES 131072 n).trans entry
  generalize b.bump C.MEM_MIG_BYTES 131072 = c at run counted wfc1 entry1
  obtain ⟨pages2, -, count2⟩ := State.countReason_copyKept (s := c) (s.page n).why
  have last := (congrArg (fun t => Tbl.get (fun _ => Page.init) t n.val) pages2).trans entry1
  exact ⟨_, run, congrArg Page.at_ last, congrArg Page.dst last, congrArg Page.st last, (congrArg Page.pin last).trans rfl,
    (count2 wfc1).trans (counted.trans (by rw [count]))⟩

/-! ## Heat (R276) -/

/-- The state in which every HEAT is halved. -/
def State.halved (s : State) : State :=
  { s with mem := { s.mem with heatAt := s.now, pages := s.mem.pages.map (fun kp => (kp.1, { kp.2 with
      heat := kp.2.heat / 2, reads := Four.zero, otherReads := 0 })) } }

theorem State.halved_frame : s.halved.clk = s.clk ∧ s.halved.mem.heatAt = s.now
    ∧ s.halved.mem.pages = s.mem.pages.map (fun kp => (kp.1, { kp.2 with
      heat := kp.2.heat / 2, reads := Four.zero, otherReads := 0 })) := ⟨rfl, rfl, rfl⟩

theorem heatHalving_gives (on : s.on 2 = true) (rate : s.fld R.MEM_EASEL_HEAT 15 0 ≠ 0) :
    Gives .heatHalving s (fun t => t.now = max s.now (s.mem.heatAt + s.fld R.MEM_EASEL_HEAT 15 0 * 1000000)
      ∧ t.mem.heatAt = t.now
      ∧ t.mem.pages = s.mem.pages.map (fun kp => (kp.1, { kp.2 with
          heat := kp.2.heat / 2, reads := Four.zero, otherReads := 0 }))) := by
  have go : ¬(s.fld R.MEM_EASEL_HEAT 15 0 = 0 ∨ (!s.on 2) = true) := by
    rw [on]
    exact fun c => c.elim rate nofun
  have run : exec .heatHalving s
      = .next ((s.reach (s.mem.heatAt + s.fld R.MEM_EASEL_HEAT 15 0 * 1000000)).halved) := by
    change execHeatHalving s = _
    rw [execHeatHalving]
    dsimp only
    rw [if_neg go]
    rfl
  generalize s.mem.heatAt + s.fld R.MEM_EASEL_HEAT 15 0 * 1000000 = t0 at run ⊢
  have now := State.now_reach (s := s) t0
  have mem := (State.reach_within s t0).mem_eq (by decide)
  generalize s.reach t0 = a at run now mem
  obtain ⟨clk, at_, pages⟩ := State.halved_frame (s := a)
  rw [mem] at pages
  exact ⟨_, run, (State.now_of_clk clk).trans now, at_.trans (State.now_of_clk clk).symm, pages⟩

/-! ## Fixed windows (R268) -/

theorem State.placement_fixed (cause : Nat) (die : Option Nat) : (s.placement cause die).mem.fixed = s.mem.fixed := by
  have noted (t : State) (e : Ev) (same : t.mem.fixed = s.mem.fixed) : (t.raise e).mem.fixed = s.mem.fixed :=
    (congrArg Memory.fixed ((State.raise_within t e).mem_eq (by decide))).trans same
  unfold State.placement
  extract_lets k
  split
  · split
    · rfl
    · exact noted _ _ rfl
  · exact noted _ _ rfl

/-- FIX_GIB_WRITE's register after the size and the PENDING bit are written. -/
theorem State.fixWritten_fields (wf : Tbl.wf regReset s.regs = true) (off : Nat) {gib bit : Nat} (fits : gib < 512) (one : bit < 2) :
    ((s.setF off 8 0 gib).setF off 31 31 bit).fld off 8 0 = gib ∧ ((s.setF off 8 0 gib).setF off 31 31 bit).fld off 31 31 = bit := by
  have wf1 : Tbl.wf regReset (s.setF off 8 0 gib).regs = true := State.setF_regs_wf wf _ _ _ _
  refine ⟨?_, State.fld_setF_self wf1 _ (by decide) (by decide) one⟩
  rw [State.fld_setF_apart wf1 _ _ (by decide) (by decide) (by decide), State.fld_setF_self wf _ (by decide) (by decide) fits]

theorem fixGibWrite_gives_grown (wf : Tbl.wf regReset s.regs = true) {d : Fin 4} {gib : Fin 512}
    (on : s.on (regDomain (R.MEM_FIX_GIB d)) = true) (grows : s.fixedGib d < gib) :
    Gives (.fixGibWrite d gib) s (fun t => t.fld (R.MEM_FIX_GIB d) 8 0 = gib ∧ t.fld (R.MEM_FIX_GIB d) 31 31 = 1
      ∧ t.mem.fixed = s.mem.fixed) := by
  obtain ⟨size, pending⟩ := State.fixWritten_fields wf (R.MEM_FIX_GIB d) gib.isLt (bit := 1) (by decide)
  have fixed : ((s.setF (R.MEM_FIX_GIB d) 8 0 gib).setF (R.MEM_FIX_GIB d) 31 31 1).mem.fixed = s.mem.fixed := by
    rw [State.setF_mem, State.setF_mem]
  have run : exec (.fixGibWrite d gib) s = .next
      (if ((s.setF (R.MEM_FIX_GIB d) 8 0 gib).setF (R.MEM_FIX_GIB d) 31 31 1).freeFrames d < 8192 * (gib - s.fixedGib d)
        then ((s.setF (R.MEM_FIX_GIB d) 8 0 gib).setF (R.MEM_FIX_GIB d) 31 31 1).placement 0 (some d)
        else (s.setF (R.MEM_FIX_GIB d) 8 0 gib).setF (R.MEM_FIX_GIB d) 31 31 1) := by
    change execFixGibWrite d gib s = _
    rw [execFixGibWrite, State.gate_on on]
    dsimp only
    rw [if_pos grows]
  generalize (s.setF (R.MEM_FIX_GIB d) 8 0 gib).setF (R.MEM_FIX_GIB d) 31 31 1 = a at run size pending fixed
  split at run
  · have regs := (State.placement_within a 0 (some d)).regs_eq (by decide)
    exact ⟨_, run, (State.fld_of_regs regs _ _ _).trans size, (State.fld_of_regs regs _ _ _).trans pending,
      (State.placement_fixed 0 (some d)).trans fixed⟩
  · exact ⟨_, run, size, pending, fixed⟩

/-- The state in which a fixed window has a size. -/
def State.withFixed (s : State) (d gib : Nat) : State :=
  { s with mem := { s.mem with fixed := Tbl.put (fun _ => 0) s.mem.fixed d gib } }

theorem State.withFixed_frame (d gib : Nat) : (s.withFixed d gib).regs = s.regs
    ∧ (s.withFixed d gib).mem.fixed = Tbl.put (fun _ => 0) s.mem.fixed d gib ∧ (s.withFixed d gib).mem.pages = s.mem.pages :=
  ⟨rfl, rfl, rfl⟩

theorem State.zeroRange_frame (lo hi : Nat) : (s.zeroRange lo hi).regs = s.regs ∧ (s.zeroRange lo hi).mem.fixed = s.mem.fixed
    ∧ (s.zeroRange lo hi).mem.pages = s.mem.pages := ⟨rfl, rfl, rfl⟩

theorem fixGibWrite_gives_shrunk (wf : Tbl.wf regReset s.regs = true) {d : Fin 4} {gib : Fin 512}
    (on : s.on (regDomain (R.MEM_FIX_GIB d)) = true) (fits : gib ≤ s.fixedGib d) :
    Gives (.fixGibWrite d gib) s (fun t => t.fld (R.MEM_FIX_GIB d) 8 0 = gib ∧ t.fld (R.MEM_FIX_GIB d) 31 31 = 0
      ∧ t.mem.fixed = Tbl.put (fun _ => 0) s.mem.fixed d gib ∧ t.mem.pages = s.mem.pages) := by
  obtain ⟨lo, hi, run⟩ : ∃ lo hi, exec (.fixGibWrite d gib) s = .next ((((s.setF (R.MEM_FIX_GIB d) 8 0 gib).zeroRange lo
      hi).withFixed d gib).setF (R.MEM_FIX_GIB d) 31 31 0) := by
    refine ⟨memKey d (gib * 2 ^ 30), memKey d (s.fixedGib d * 2 ^ 30), ?_⟩
    change execFixGibWrite d gib s = _
    rw [execFixGibWrite, State.gate_on on]
    dsimp only
    rw [if_neg (by omega)]
    rfl
  have wf1 : Tbl.wf regReset (s.setF (R.MEM_FIX_GIB d) 8 0 gib).regs = true := State.setF_regs_wf wf _ _ _ _
  have size : (s.setF (R.MEM_FIX_GIB d) 8 0 gib).fld (R.MEM_FIX_GIB d) 8 0 = gib :=
    State.fld_setF_self wf _ (by decide) (by decide) gib.isLt
  have mem : (s.setF (R.MEM_FIX_GIB d) 8 0 gib).mem = s.mem := State.setF_mem _ _ _ _ _
  generalize s.setF (R.MEM_FIX_GIB d) 8 0 gib = a at run wf1 size mem
  obtain ⟨regs, fixed, pages⟩ := State.zeroRange_frame (s := a) lo hi
  rw [mem] at fixed pages
  generalize a.zeroRange lo hi = b at run regs fixed pages
  obtain ⟨regs', fixed', pages'⟩ := State.withFixed_frame (s := b) d gib
  rw [fixed] at fixed'
  have same := regs'.trans regs
  have mem' : ((b.withFixed d gib).setF (R.MEM_FIX_GIB d) 31 31 0).mem = (b.withFixed d gib).mem := State.setF_mem _ _ _ _ _
  have wf2 : Tbl.wf regReset (b.withFixed d gib).regs = true := by rw [same]; exact wf1
  refine ⟨_, run, ?_, State.fld_setF_self wf2 _ (by decide) (by decide) (by decide),
    (congrArg Memory.fixed mem').trans fixed', (congrArg Memory.pages mem').trans (pages'.trans pages)⟩
  rw [State.fld_setF_apart wf2 _ _ (by decide) (by decide) (by decide), State.fld_of_regs same, size]

/-- The state in which a range of memory is cleared. -/
def State.withCleared (s : State) (lo hi : Nat) : State := { s with mem := s.mem.clear lo hi }

theorem State.withCleared_frame (lo hi : Nat) : (s.withCleared lo hi).regs = s.regs ∧ (s.withCleared lo hi).mem.fixed = s.mem.fixed :=
  ⟨rfl, rfl⟩

theorem fixWindowMapped_gives (wf : Tbl.wf regReset s.regs = true) {d : Fin 4} (pending : s.fld (R.MEM_FIX_GIB d) 31 31 = 1)
    (up : s.dieUp d = true) (room : 8192 * s.fixWanted d ≤ s.freeFrames d) :
    Gives (.fixWindowMapped d) s (fun t => t.fld (R.MEM_FIX_GIB d) 31 31 = 0
      ∧ t.mem.fixed = Tbl.put (fun _ => 0) s.mem.fixed d (s.fixedGib d + s.fixWanted d)) := by
  have go : ¬(s.fld (R.MEM_FIX_GIB d) 31 31 = 0 ∨ (!s.dieUp d) = true) := by
    rw [pending, up]
    decide
  obtain ⟨lo, hi, run⟩ : ∃ lo hi, exec (.fixWindowMapped d) s
      = .next (((s.withCleared lo hi).withFixed d (s.fixedGib d + s.fixWanted d)).setF (R.MEM_FIX_GIB d) 31 31 0) := by
    refine ⟨memKey d (s.fixedGib d * 2 ^ 30), memKey d ((s.fixedGib d + s.fixWanted d) * 2 ^ 30), ?_⟩
    change execFixWindowMapped d s = _
    rw [execFixWindowMapped]
    dsimp only
    rw [if_neg go, if_neg (by omega)]
    rfl
  generalize s.fixedGib d + s.fixWanted d = gib at run ⊢
  obtain ⟨regs, fixed⟩ := State.withCleared_frame (s := s) lo hi
  generalize s.withCleared lo hi = b at run regs fixed
  obtain ⟨regs', fixed', -⟩ := State.withFixed_frame (s := b) d gib
  rw [fixed] at fixed'
  have mem' : ((b.withFixed d gib).setF (R.MEM_FIX_GIB d) 31 31 0).mem = (b.withFixed d gib).mem := State.setF_mem _ _ _ _ _
  exact ⟨_, run, State.fld_setF_self (by rw [regs', regs]; exact wf) _ (by decide) (by decide) (by decide),
    (congrArg Memory.fixed mem').trans fixed'⟩

/-! ## Easel's interval (R279, R280) -/

/-- Time, the pages, their bytes and the interval's instant are as before, and so is Easel's enable. -/
structure EaselKept (s t : State) : Prop where
  clk : t.clk = s.clk
  pages : t.mem.pages = s.mem.pages
  bytes : t.mem.bytes = s.mem.bytes
  interval : t.mem.intervalAt = s.mem.intervalAt
  wf : Tbl.wf regReset s.regs = true → Tbl.wf regReset t.regs = true
  ctrl : Tbl.wf regReset s.regs = true → t.fld R.MEM_EASEL_CTRL 31 31 = s.fld R.MEM_EASEL_CTRL 31 31

theorem EaselKept.trans {t u : State} (h : EaselKept s t) (k : EaselKept t u) : EaselKept s u :=
  ⟨k.clk.trans h.clk, k.pages.trans h.pages, k.bytes.trans h.bytes, k.interval.trans h.interval, fun w => k.wf (h.wf w),
    fun w => (k.ctrl (h.wf w)).trans (h.ctrl w)⟩

theorem EaselKept.of_regs {t : State} (clk : t.clk = s.clk) (pages : t.mem.pages = s.mem.pages) (bytes : t.mem.bytes = s.mem.bytes)
    (interval : t.mem.intervalAt = s.mem.intervalAt) (regs : t.regs = s.regs) : EaselKept s t :=
  ⟨clk, pages, bytes, interval, fun w => by rw [regs]; exact w, fun _ => State.fld_of_regs regs _ _ _⟩

theorem EaselKept.refl (s : State) : EaselKept s s := .of_regs rfl rfl rfl rfl rfl

theorem State.setClass_easelKept (i : Nat) (raw : LoadClass) : EaselKept s (s.setClass i raw) := by
  unfold State.setClass
  extract_lets old m
  refine .of_regs rfl ?_ ?_ ?_ rfl
  all_goals
    dsimp only
    split
    · rfl
    · rfl

theorem State.setF_easelKept {off : Nat} (ne : R.MEM_EASEL_CTRL ≠ off) (hi lo v : Nat) : EaselKept s (s.setF off hi lo v) := by
  have mem : (s.setF off hi lo v).mem = s.mem := State.setF_mem _ _ _ _ _
  exact ⟨State.setF_clk _ _ _ _ _, congrArg Memory.pages mem, congrArg Memory.bytes mem, congrArg Memory.intervalAt mem,
    fun w => State.setF_regs_wf w _ _ _ _, fun w => State.fld_setF_ne w _ _ _ _ _ ne⟩

theorem State.setLoad_easelKept {d : Nat} (die : d < 4) (pct : Nat) : EaselKept s (s.setLoad d pct) := by
  have ne : R.MEM_EASEL_CTRL ≠ R.MEM_DIE_LOAD d := by
    unfold R.MEM_EASEL_CTRL R.MEM_DIE_LOAD
    omega
  exact (State.setF_easelKept ne 6 0 pct).trans (State.setF_easelKept ne _ _ _)

theorem State.readbackAll_easelKept : EaselKept s s.readbackAll := by
  have same := State.readbackAll_within s
  have mem := same.mem_eq (by decide)
  exact .of_regs (same.clk_eq (by decide)) (congrArg Memory.pages mem) (congrArg Memory.bytes mem) (congrArg Memory.intervalAt mem)
    (same.regs_eq (by decide))

theorem EaselKept.each {α : Type} {f : α → State → State} : ∀ {l : List α}, (∀ x, x ∈ l → ∀ s, EaselKept s (f x s)) → ∀ s,
    EaselKept s (forEach f l s)
  | [], _, s => .refl s
  | _ :: _, k, _ => (k _ List.mem_cons_self _).trans (EaselKept.each (fun y m => k y (List.mem_cons_of_mem _ m)) _)

/-- With Easel disabled no move starts (R281). -/
theorem State.migrate_of_disabled (off : s.fld R.MEM_EASEL_CTRL 31 31 = 0) (h : Nat) (dst : Place) (why : Nat) : s.migrate h dst why = s := by
  have no (a : Place) : s.movesOk a dst = false := by
    rw [State.movesOk, off]
    simp
  unfold State.migrate
  extract_lets p
  rw [no]
  split
  · exact if_neg Bool.false_ne_true
  · exact if_neg Bool.false_ne_true
  · rfl

section Disabled
variable (off : s.fld R.MEM_EASEL_CTRL 31 31 = 0)
include off

theorem State.moveToPin_of_disabled (h : Nat) : s.moveToPin h = s := by
  unfold State.moveToPin
  extract_lets p
  split
  · rfl
  · split
    · exact State.migrate_of_disabled off _ _ _
    · rfl

theorem State.demotePage_of_disabled (d h : Nat) : s.demotePage d h = s := by
  unfold State.demotePage
  extract_lets need p
  split
  · rfl
  · split
    · exact State.migrate_of_disabled off _ _ _
    · split
      · rfl
      · split
        · exact State.migrate_of_disabled off _ _ _
        · rfl

theorem State.demoteDie_of_disabled (d : Nat) : s.demoteDie d = s := by
  unfold State.demoteDie
  extract_lets due
  split
  · rfl
  · exact forEach_of_fixed (fun h => State.demotePage_of_disabled off d h) _

theorem State.emptyPort_of_disabled (k : Nat) : s.emptyPort k = s := by
  unfold State.emptyPort
  split
  · rfl
  · refine forEach_of_fixed (fun h => ?_) _
    dsimp only
    split
    · split
      · exact State.migrate_of_disabled off _ _ _
      · rfl
    · split
      · exact State.migrate_of_disabled off _ _ _
      · split
        · exact State.migrate_of_disabled off _ _ _
        · rfl

theorem State.promotePage_of_disabled (h : Nat) : s.promotePage h = s := by
  unfold State.promotePage
  extract_lets p to_
  clear_value to_
  split
  · split
    · exact State.migrate_of_disabled off _ _ _
    · rfl
  · rfl

theorem State.followPage_of_disabled (h : Nat) : s.followPage h = s := by
  unfold State.followPage
  extract_lets p all
  split
  · split
    · exact State.migrate_of_disabled off _ _ _
    · rfl
  · rfl

theorem State.heatMoves_of_disabled : s.heatMoves = s := by
  unfold State.heatMoves
  extract_lets n a
  split
  · rfl
  · have same : a = s := forEach_of_fixed (State.promotePage_of_disabled off) _
    rw [same]
    exact forEach_of_fixed (State.followPage_of_disabled off) _

/-- Relief of the CXL tier then at most notes that pages have no place. -/
theorem State.relieveCxl_of_disabled : s.relieveCxl = s ∨ s.relieveCxl = s.placement 1 none := by
  unfold State.relieveCxl
  split
  · exact .inl rfl
  · split
    · refine .inl (forEach_of_fixed (fun h => ?_) _)
      split
      · exact State.migrate_of_disabled off _ _ _
      · rfl
    · split
      · exact .inr rfl
      · exact .inl rfl

theorem State.easelMoves_of_disabled : s.easelMoves = s ∨ s.easelMoves = s.placement 1 none := by
  unfold State.easelMoves
  extract_lets a b c
  have pins : a = s := forEach_of_fixed (fun kp => State.moveToPin_of_disabled off _) _
  have dies : b = a := forEach_of_fixed (State.demoteDie_of_disabled (by rw [pins]; exact off)) _
  have ports : c = b := forEach_of_fixed (State.emptyPort_of_disabled (by rw [dies, pins]; exact off)) _
  rw [ports, dies, pins, State.heatMoves_of_disabled off]
  exact State.relieveCxl_of_disabled off

end Disabled

theorem State.placement_easelKept (cause : Nat) (die : Option Nat) : EaselKept s (s.placement cause die) := by
  have noted (t : State) (e : Ev) (same : EaselKept s t) : EaselKept s (t.raise e) := by
    have quiet := State.raise_within t e
    have mem := quiet.mem_eq (by decide)
    exact same.trans (.of_regs (quiet.clk_eq (by decide)) (congrArg Memory.pages mem) (congrArg Memory.bytes mem)
      (congrArg Memory.intervalAt mem) (quiet.regs_eq (by decide)))
  unfold State.placement
  extract_lets k
  split
  · split
    · exact .refl s
    · exact noted _ _ (.of_regs rfl rfl rfl rfl rfl)
  · exact noted _ _ (.of_regs rfl rfl rfl rfl rfl)

/-- An interval that starts, before its classes. -/
def State.intervalStarted (s : State) : State := { s with mem := { s.mem with intervalAt := s.now } }

theorem State.intervalStarted_frame : s.intervalStarted.clk = s.clk ∧ s.intervalStarted.regs = s.regs
    ∧ s.intervalStarted.mem.pages = s.mem.pages ∧ s.intervalStarted.mem.bytes = s.mem.bytes ∧ s.intervalStarted.mem.intervalAt = s.now :=
  ⟨rfl, rfl, rfl, rfl, rfl⟩

/-- What an interval publishes of the dies, the buffer and CXL. -/
def State.classified (s : State) (us : List Nat) (waited cxl : Nat) : State :=
  let s := forEach (fun d (s : State) => s.setClass d (s.loadClass (us.getD d 0) (waited.testBit d))) [0, 1, 2, 3] s
  let s := s.setClass 4 s.bufferClass
  let s := s.setClass 5 (s.loadClass cxl true)
  let s := forEach (fun d (s : State) => s.setLoad d (us.getD d 0)) [0, 1, 2, 3] s
  (s.setF R.MEM_SPILL_GRANT 15 0 s.nextGrant).readbackAll

theorem State.classified_easelKept (us : List Nat) (waited cxl : Nat) : EaselKept s (s.classified us waited cxl) := by
  unfold State.classified
  extract_lets a b c d
  have dies : EaselKept s a := EaselKept.each (fun x _ t => State.setClass_easelKept x _) s
  have tiers : EaselKept a c := (State.setClass_easelKept 4 _).trans (State.setClass_easelKept 5 _)
  have loads : EaselKept c d := EaselKept.each (fun x m t => State.setLoad_easelKept
    (by simp only [List.mem_cons, List.not_mem_nil, or_false] at m; omega) _) c
  exact ((dies.trans tiers).trans loads).trans ((State.setF_easelKept (by decide) 15 0 _).trans State.readbackAll_easelKept)

theorem exec_easelInterval_of_on (u0 u1 u2 u3 : Fin 101) (waited : Fin 16) (cxlRd cxlWr : Fin 101) (on : s.on 2 = true) :
    exec (.easelInterval u0 u1 u2 u3 waited cxlRd cxlWr) s = .next (((s.reach (s.mem.intervalAt + 100000)).intervalStarted.classified
      [u0.val, u1.val, u2.val, u3.val] waited.val (max cxlRd.val cxlWr.val)).easelMoves) := by
  change execEaselInterval u0 u1 u2 u3 waited cxlRd cxlWr s = _
  rw [execEaselInterval, if_neg (by rw [on]; decide)]
  rfl

theorem easelInterval_gives (wf : Tbl.wf regReset s.regs = true) (u0 u1 u2 u3 : Fin 101) (waited : Fin 16) (cxlRd cxlWr : Fin 101)
    (on : s.on 2 = true) (off : s.fld R.MEM_EASEL_CTRL 31 31 = 0) :
    Gives (.easelInterval u0 u1 u2 u3 waited cxlRd cxlWr) s (fun t => t.now = max s.now (s.mem.intervalAt + 100000)
      ∧ t.mem.intervalAt = t.now ∧ t.mem.bytes = s.mem.bytes ∧ t.mem.pages = s.mem.pages) := by
  have run := exec_easelInterval_of_on u0 u1 u2 u3 waited cxlRd cxlWr on
  generalize s.mem.intervalAt + 100000 = t0 at run ⊢
  have now := State.now_reach (s := s) t0
  have same := State.reach_within s t0
  have mem := same.mem_eq (by decide)
  have regs := same.regs_eq (by decide)
  generalize s.reach t0 = a at run now mem regs
  obtain ⟨clk, regs', pages, bytes, interval⟩ := State.intervalStarted_frame (s := a)
  rw [mem] at pages bytes
  have off' := (State.fld_of_regs (regs'.trans regs) R.MEM_EASEL_CTRL 31 31).trans off
  have wf' : Tbl.wf regReset a.intervalStarted.regs = true := by rw [regs', regs]; exact wf
  generalize a.intervalStarted = b at run clk pages bytes interval off' wf'
  have kept := State.classified_easelKept (s := b) [u0.val, u1.val, u2.val, u3.val] waited.val (max cxlRd.val cxlWr.val)
  generalize b.classified [u0.val, u1.val, u2.val, u3.val] waited.val (max cxlRd.val cxlWr.val) = c at run kept
  have moved : EaselKept c c.easelMoves := by
    obtain same | same := State.easelMoves_of_disabled ((kept.ctrl wf').trans off')
    · rw [same]
      exact .refl c
    · rw [same]
      exact State.placement_easelKept 1 none
  obtain ⟨clk2, pages2, bytes2, interval2, -, -⟩ := kept.trans moved
  have time := (State.now_of_clk (clk2.trans clk)).trans now
  exact ⟨_, run, time, (interval2.trans interval).trans (State.now_of_clk (clk2.trans clk)).symm, bytes2.trans bytes, pages2.trans pages⟩

/-! ## The room for spill (R279) -/

theorem reclaimSpill_of_fits {bound : Nat} (fits : s.spillBlocks * 16384 ≤ bound) : ∀ n cur, reclaimSpill bound n cur s = s
  | 0, _ => rfl
  | _ + 1, _ => if_pos fits

theorem spillMaxWrite_gives (wf : Tbl.wf regReset s.regs = true) (gib : Fin 65536) (on : s.on (regDomain R.MEM_EASEL_SPACE) = true)
    (fits : s.spillBlocks * 16384 ≤ gib * 2 ^ 30) :
    Gives (.spillMaxWrite gib) s (fun t => t.fld R.MEM_EASEL_SPACE 31 16 = gib ∧ t.dp = s.dp) := by
  have dp : (s.setF R.MEM_EASEL_SPACE 31 16 gib).dp = s.dp := State.setF_dp _ _ _ _ _
  have still : (s.setF R.MEM_EASEL_SPACE 31 16 gib).spillBlocks * 16384 ≤ gib * 2 ^ 30 := by
    rw [State.spillBlocks, dp]
    exact fits
  have run : exec (.spillMaxWrite gib) s = .next (s.setF R.MEM_EASEL_SPACE 31 16 gib) := by
    change execSpillMaxWrite gib s = _
    rw [execSpillMaxWrite, State.gate_on on]
    exact congrArg Host.Outcome.next (reclaimSpill_of_fits still _ _)
  exact ⟨_, run, State.fld_setF_self wf _ (by decide) (by decide) gib.isLt, dp⟩

/-- Settles O37. -/
theorem pagesWindowsAndIntervals : Obligations.PagesWindowsAndIntervals := by
  unfold Obligations.PagesWindowsAndIntervals
  refine ⟨fun s n h => ?_, fun s h => ?_⟩
  · have wf := State.canonical.regs h
    exact ⟨fun p => pageAlloc_gives h, pageAlloc_gives_mapped wf, pageFree_gives h, pageFree_gives_unmapped wf, pageRead_gives wf,
      pageSetPin_gives wf, fun d => pageCopyDone_gives h, heatHalving_gives⟩
  · have wf := State.canonical.regs h
    exact ⟨fun d gib => fixGibWrite_gives_grown wf, fun d gib => fixGibWrite_gives_shrunk wf, fun d => fixWindowMapped_gives wf,
      easelInterval_gives wf, spillMaxWrite_gives wf⟩

end Sys2Proof.Machine

/-!
PROOFS. Client rings: their entries, doorbells and failed lists (R217 to R220, R239, R244).
-/
namespace Sys2Proof.Machine
variable {s : State}

/-! ## The ring table -/

theorem State.palRing_of_pal {t : State} (same : t.pal = s.pal) (k : Nat) : t.palRing k = s.palRing k := by
  rw [State.palRing, State.palRing, same]

theorem State.palRing_setPalRing (k : Nat) {x : PRing} (enabled : x.st ≠ .disabled) : (s.setPalRing k x).palRing k = x :=
  Tbl.get_put_of_ne_default (d := fun _ => PRing.init) s.pal.rings k (x := x) (fun same => enabled (congrArg PRing.st same))

/-- What a ring's record written leaves. -/
theorem State.setPalRing_frame (k : Nat) (x : PRing) : (s.setPalRing k x).pal.engines = s.pal.engines ∧ (s.setPalRing k x).mem = s.mem
    ∧ (s.setPalRing k x).homes = s.homes ∧ (s.setPalRing k x).regs = s.regs ∧ (s.setPalRing k x).dom = s.dom
    ∧ (s.setPalRing k x).cnt = s.cnt := ⟨rfl, rfl, rfl, rfl, rfl, rfl⟩

/-! ## Entries (R244) -/

theorem State.enableRing_palRing (k : Nat) (e : List Word) : (s.enableRing k e).palRing k
    = { PRing.init with st := .idle, entry := e, engine := s.boundEngine e, queue := (e.getD 0 0).fld 26 23 } := by
  unfold State.enableRing
  extract_lets _ r a
  have here : a.palRing k = r := State.palRing_setPalRing k (x := r) nofun
  split
  · have wrote := (State.setDbWord_step (by decide) (State.setDbWord_step (by decide) (State.setDbWord_step (by decide)
      (Within.refl 163840 a))) : Within 163840 a (((a.setDbWord r 8 0).setDbWord r 12 0).setDbWord r 20 0))
    exact (State.palRing_of_pal (wrote.pal_eq (by decide)) k).trans here
  · exact here

theorem exec_ringWrite_eq (k : Fin 4096) : exec (.ringWrite k) s = .next (s.gate R.PAL_RING_CMD (fun s =>
    (if s.ringWriteStatus k (s.rdWords (R.PAL_RING_DATA 0) 12) = 0 then s.writeRing k (s.rdWords (R.PAL_RING_DATA 0) 12) else s).setF
      R.PAL_RING_STAT 3 0 (s.ringWriteStatus k (s.rdWords (R.PAL_RING_DATA 0) 12)))) := rfl

theorem State.ringStatus_frame (wf : Tbl.wf regReset s.regs = true) {v : Nat} (fits : v < 16) :
    (s.setF R.PAL_RING_STAT 3 0 v).fld R.PAL_RING_STAT 3 0 = v ∧ (s.setF R.PAL_RING_STAT 3 0 v).pal = s.pal
      ∧ (s.setF R.PAL_RING_STAT 3 0 v).mem = s.mem :=
  ⟨State.fld_setF_self wf _ (by decide) (by decide) fits, State.setF_pal _ _ _ _ _, State.setF_mem _ _ _ _ _⟩

/-- The status of a write to a ring that holds no list. -/
theorem State.ringWriteStatus_of_disabled {k : Nat} (e : List Word) (disabled : (s.palRing k).st = .disabled) :
    s.ringWriteStatus k e = if (e.getD 0 0).fld 31 31 = 1 ∧ s.badEntry e = true then 3 else 0 := by
  unfold State.ringWriteStatus
  dsimp only
  rw [disabled]
  rfl

theorem State.ringWriteStatus_of_running {k : Nat} (e : List Word) (running : (s.palRing k).st = .running) : s.ringWriteStatus k e = 1 := by
  unfold State.ringWriteStatus
  dsimp only
  rw [running]
  rfl

/-- A write whose status is not zero changes no ring. -/
theorem ringWrite_gives_refused (wf : Tbl.wf regReset s.regs = true) {k : Fin 4096} (on : s.on (regDomain R.PAL_RING_CMD) = true) {v : Nat}
    (status : s.ringWriteStatus k (s.rdWords (R.PAL_RING_DATA 0) 12) = v) (ne : v ≠ 0) (fits : v < 16) :
    Gives (.ringWrite k) s (fun t => t.fld R.PAL_RING_STAT 3 0 = v ∧ t.pal = s.pal ∧ t.mem = s.mem) := by
  have run := exec_ringWrite_eq (s := s) k
  rw [State.gate_on on, status, if_neg ne] at run
  exact ⟨_, run, State.ringStatus_frame wf fits⟩

theorem ringWrite_gives_enabled (wf : Tbl.wf regReset s.regs = true) {k : Fin 4096} (on : s.on (regDomain R.PAL_RING_CMD) = true)
    (disabled : (s.palRing k).st = .disabled) (enable : ((s.rdWords (R.PAL_RING_DATA 0) 12).getD 0 0).fld 31 31 = 1)
    (good : s.badEntry (s.rdWords (R.PAL_RING_DATA 0) 12) = false) :
    Gives (.ringWrite k) s (fun t => t.fld R.PAL_RING_STAT 3 0 = 0 ∧ t.palRing k =
      { PRing.init with st := .idle, entry := s.rdWords (R.PAL_RING_DATA 0) 12,
                        engine := s.boundEngine (s.rdWords (R.PAL_RING_DATA 0) 12),
                        queue := ((s.rdWords (R.PAL_RING_DATA 0) 12).getD 0 0).fld 26 23 }) := by
  have run := exec_ringWrite_eq (s := s) k
  rw [State.gate_on on] at run
  generalize s.rdWords (R.PAL_RING_DATA 0) 12 = e at run enable good ⊢
  have status : s.ringWriteStatus k e = 0 := by
    rw [State.ringWriteStatus_of_disabled e disabled, if_neg (by rw [good]; exact fun c => Bool.false_ne_true c.2)]
  have written : s.writeRing k e = s.enableRing k e := by
    unfold State.writeRing
    dsimp only
    rw [if_neg (by rw [enable]; decide), disabled]
  rw [status, if_pos rfl, written] at run
  have regs := (State.enableRing_within s k e).regs_eq (by decide)
  have here := State.enableRing_palRing (s := s) k e
  obtain ⟨stat, pal, -⟩ := State.ringStatus_frame (s := s.enableRing k e) (v := 0) (by rw [regs]; exact wf) (by decide)
  exact ⟨_, run, stat, (State.palRing_of_pal pal k).trans here⟩

/-- A read of the ring table answers its words. -/
theorem State.ringAnswer (wf : Tbl.wf regReset s.regs = true) {ws : List Word} {n : Nat} (len : ws.length = n) (few : n ≤ 12) :
    ((s.wrWords (R.PAL_RING_DATA 0) ws).setF R.PAL_RING_STAT 3 0 0).fld R.PAL_RING_STAT 3 0 = 0
      ∧ ((s.wrWords (R.PAL_RING_DATA 0) ws).setF R.PAL_RING_STAT 3 0 0).pal = s.pal
      ∧ ((s.wrWords (R.PAL_RING_DATA 0) ws).setF R.PAL_RING_STAT 3 0 0).rdWords (R.PAL_RING_DATA 0) n = ws := by
  have apart : ∀ i, i < 12 → R.PAL_RING_DATA 0 + 4 * i ≠ R.PAL_RING_STAT := by decide
  obtain ⟨words, stat⟩ := State.answered wf (off := R.PAL_RING_DATA 0) (stat := R.PAL_RING_STAT) len (v := 0) (by decide)
    (fun i lt => apart i (by omega))
  exact ⟨stat, (State.setF_pal _ _ _ _ _).trans rfl, words⟩

theorem exec_ringRead_eq (k : Fin 4096) : exec (.ringRead k) s = .next (s.gate R.PAL_RING_CMD (fun s =>
    (s.wrWords (R.PAL_RING_DATA 0) (s.palRing k).entry).setF R.PAL_RING_STAT 3 0 0)) := rfl

theorem exec_ringStatusRead_eq (k : Fin 4096) : exec (.ringStatusRead k) s = .next (s.gate R.PAL_RING_CMD (fun s =>
    (s.wrWords (R.PAL_RING_DATA 0) (s.palRing k).statusWords).setF R.PAL_RING_STAT 3 0 0)) := rfl

theorem ringRead_gives (wf : Tbl.wf regReset s.regs = true) {k : Fin 4096} (on : s.on (regDomain R.PAL_RING_CMD) = true)
    (len : (s.palRing k).entry.length = 12) : Gives (.ringRead k) s (fun t => t.fld R.PAL_RING_STAT 3 0 = 0 ∧ t.pal = s.pal
      ∧ t.rdWords (R.PAL_RING_DATA 0) 12 = (s.palRing k).entry) := by
  have run := exec_ringRead_eq (s := s) k
  rw [State.gate_on on] at run
  exact ⟨_, run, State.ringAnswer wf len (by decide)⟩

theorem ringStatusRead_gives (wf : Tbl.wf regReset s.regs = true) {k : Fin 4096} (on : s.on (regDomain R.PAL_RING_CMD) = true) :
    Gives (.ringStatusRead k) s (fun t => t.fld R.PAL_RING_STAT 3 0 = 0 ∧ t.pal = s.pal
      ∧ t.rdWords (R.PAL_RING_DATA 0) 4 = (s.palRing k).statusWords) := by
  have run := exec_ringStatusRead_eq (s := s) k
  rw [State.gate_on on] at run
  exact ⟨_, run, State.ringAnswer wf rfl (by decide)⟩

/-! ## Doorbells (R218, R219) -/

/-- The ring as a doorbell line leaves it, while it is IDLE. -/
def PRing.read (r : PRing) (pi cqCi : Nat) : PRing := { r with pending := false, pi := pi, cqCi := cqCi }

theorem State.readDoorbell_of_idle {k : Nat} (idle : (s.palRing k).st = .idle) : s.readDoorbell k
    = s.setPalRing k ((s.palRing k).read (s.dbWord (s.palRing k) 0) (s.dbWord (s.palRing k) 16)) := by
  unfold State.readDoorbell
  extract_lets r st
  have same : st = r.st := if_neg (by rw [show r.st = .idle from idle]; exact fun c => nomatch c.1)
  rw [same]
  rfl

theorem PRing.posted_of_caught {r : PRing} (caught : r.pi = r.ci) : r.posted = 0 := by
  rw [PRing.posted, caught]
  omega

theorem State.nextList_of_caught {k : Nat} (caught : (s.palRing k).posted = 0) : s.nextList k = .nothing := by
  unfold State.nextList
  extract_lets r n
  have none_ : n = 0 := caught
  rw [none_, if_neg (Nat.not_lt_zero _), if_pos rfl]

theorem PRing.idle_self {r : PRing} (idle : r.st = .idle) : ({ r with st := .idle } : PRing) = r := by rw [← idle]

theorem State.placeNext_of_unserved {k : Nat} (off : s.ringServed k = false) : s.placeNext k = s := if_pos (by rw [off]; rfl)

theorem State.placeNext_of_busy {k : Nat} (busy : (s.queuedList k || (s.runList k).isSome) = true) : s.placeNext k = s := by
  unfold State.placeNext
  split
  · rfl
  · dsimp only
    cases (s.palRing k).st with
    | idle | waiting | disabled | running | stalled | error => rfl

theorem State.placeNext_of_nothing {k : Nat} (idle : (s.palRing k).st = .idle) (served : s.ringServed k = true)
    (free : (s.queuedList k || (s.runList k).isSome) = false) (nothing : s.nextList k = .nothing) :
    s.placeNext k = s.setPalRing k { s.palRing k with st := .idle } := by
  simp only [State.placeNext, served, idle, free, nothing, Bool.not_true, Bool.false_eq_true, if_false]

/-- With nothing posted an IDLE ring stays as it is. -/
theorem State.placeNext_of_caught {k : Nat} (idle : (s.palRing k).st = .idle) (caught : (s.palRing k).posted = 0) :
    s.placeNext k = s ∨ s.placeNext k = s.setPalRing k (s.palRing k) := by
  cases served : s.ringServed k with
  | false => exact .inl (State.placeNext_of_unserved served)
  | true =>
    cases busy : (s.queuedList k || (s.runList k).isSome) with
    | true => exact .inl (State.placeNext_of_busy busy)
    | false =>
      exact .inr ((State.placeNext_of_nothing idle served busy (State.nextList_of_caught caught)).trans
        (congrArg (s.setPalRing k) (PRing.idle_self idle)))

theorem State.palRing_refreshCands (e k : Nat) : (s.refreshCands e).palRing k = s.palRing k := rfl

theorem exec_doorbellRead_of_pending {k : Fin 4096} (idle : (s.palRing k).st = .idle) (pending : (s.palRing k).pending = true)
    (served : s.ringServed k = true) (room : ((s.engine (s.palRing k).engine).queue (s.palRing k).queue).length < 256) :
    exec (.doorbellRead k) s = .next ((if ((s.readDoorbell k).palRing k).st ≠ .error
        ∧ 2 ^ ((s.readDoorbell k).palRing k).log2 < ((s.readDoorbell k).palRing k).posted then (s.readDoorbell k).ringOverflow k
      else (s.readDoorbell k).placeNext k).refreshCands ((if ((s.readDoorbell k).palRing k).st ≠ .error
        ∧ 2 ^ ((s.readDoorbell k).palRing k).log2 < ((s.readDoorbell k).palRing k).posted then (s.readDoorbell k).ringOverflow k
      else (s.readDoorbell k).placeNext k).palRing k).engine) := by
  have go : ¬((s.palRing k).st = .disabled ∨ (!(s.palRing k).pending) = true ∨ (!s.ringServed k) = true
      ∨ 256 ≤ ((s.engine (s.palRing k).engine).queue (s.palRing k).queue).length) := by
    rw [idle, pending, served]
    simp only [reduceCtorEq, Bool.not_true, Bool.false_eq_true, false_or]
    omega
  change execDoorbellRead k s = _
  rw [execDoorbellRead]
  dsimp only
  rw [if_neg go]

theorem doorbellRead_gives {k : Fin 4096} (idle : (s.palRing k).st = .idle) (pending : (s.palRing k).pending = true)
    (served : s.ringServed k = true) (room : ((s.engine (s.palRing k).engine).queue (s.palRing k).queue).length < 256)
    (caught : s.dbWord (s.palRing k) 0 = (s.palRing k).ci) :
    Gives (.doorbellRead k) s (fun t => t.palRing k =
      { s.palRing k with pending := false, pi := (s.palRing k).ci, cqCi := s.dbWord (s.palRing k) 16 }) := by
  have run := exec_doorbellRead_of_pending idle pending served room
  rw [State.readDoorbell_of_idle idle, caught] at run
  have idle' : ((s.palRing k).read (s.palRing k).ci (s.dbWord (s.palRing k) 16)).st = .idle := idle
  have none_ : ((s.palRing k).read (s.palRing k).ci (s.dbWord (s.palRing k) 16)).posted = 0 := PRing.posted_of_caught rfl
  change Gives _ _ (fun t => t.palRing k = (s.palRing k).read (s.palRing k).ci (s.dbWord (s.palRing k) 16))
  generalize (s.palRing k).read (s.palRing k).ci (s.dbWord (s.palRing k) 16) = r at run idle' none_ ⊢
  have here : (s.setPalRing k r).palRing k = r := State.palRing_setPalRing k (by rw [idle']; exact nofun)
  generalize s.setPalRing k r = a at run here
  rw [here, none_, if_neg (fun c => Nat.not_lt_zero _ c.2)] at run
  refine ⟨_, run, (State.palRing_refreshCands _ _).trans ?_⟩
  obtain same | same := State.placeNext_of_caught (s := a) (k := k) (by rw [here]; exact idle') (by rw [here]; exact none_)
  · rw [same, here]
  · rw [same, here]
    exact State.palRing_setPalRing k (by rw [idle']; exact nofun)

/-! ## A list that fails (R239) -/

theorem State.setDbWord_frame (r : PRing) (at_ v : Nat) : (s.setDbWord r at_ v).pal = s.pal ∧ (s.setDbWord r at_ v).cnt = s.cnt :=
  ⟨(State.setDbWord_within s r at_ v).pal_eq (by decide), (State.setDbWord_within s r at_ v).cnt_eq (by decide)⟩

/-- The ring's record once a completion record has its place. -/
def PRing.recorded (r : PRing) : PRing := { r with cqPi := (r.cqPi + 1) % 2 ^ 32 }
/-- The ring's record once CI has gone on. -/
def PRing.advanced (r : PRing) (ci : Nat) : PRing := { r with ci := ci % 2 ^ 32 }
/-- The ring's record once a list of it has failed. -/
def PRing.failed (r : PRing) : PRing := { r with errCount := (r.errCount + 1) % 2 ^ 32, st := .error }

theorem State.writeRecord_frame {k : Nat} (enabled : (s.palRing k).st ≠ .disabled) (ws : List Word) :
    (s.writeRecord k ws).palRing k = (s.palRing k).recorded ∧ (s.writeRecord k ws).cnt = s.cnt := by
  refine ⟨?_, (State.writeRecord_within s k ws).cnt_eq (by decide)⟩
  unfold State.writeRecord
  extract_lets r w0 a b
  have here : a.palRing k = r.recorded := State.palRing_setPalRing k (x := r.recorded) enabled
  split
  · have wrote : (b.setDbWord r 20 (r.cqPi + 1)).pal = a.pal :=
      (State.setDbWord_frame r 20 (r.cqPi + 1)).1.trans ((State.writeBytes_within a _ _).pal_eq (by decide))
    exact (State.palRing_of_pal wrote k).trans here
  · exact here

theorem State.advanceCi_frame {k : Nat} (enabled : (s.palRing k).st ≠ .disabled) (ci : Nat) :
    (s.advanceCi k ci).palRing k = (s.palRing k).advanced ci ∧ (s.advanceCi k ci).cnt = s.cnt := by
  refine ⟨?_, (State.advanceCi_within s k ci).cnt_eq (by decide)⟩
  unfold State.advanceCi
  extract_lets r a
  have here : a.palRing k = r.advanced ci := State.palRing_setPalRing k (x := r.advanced ci) enabled
  split
  · exact (State.palRing_of_pal (State.setDbWord_frame r 8 ci).1 k).trans here
  · exact here

theorem failedCount_ne (engine : Nat) : C.PAL_LISTS_FAILED engine ≠ C.HLK_EV_MERGED ∧ C.PAL_LISTS_FAILED engine ≠ C.HLK_EV_LOST := by
  unfold C.PAL_LISTS_FAILED C.HLK_EV_MERGED C.HLK_EV_LOST
  omega

/-- What is counted with an event counts once. -/
theorem State.count_bump_raise (wfc : Tbl.wf (fun _ => 0) s.cnt = true) {off : Nat} (merged : off ≠ C.HLK_EV_MERGED)
    (lost : off ≠ C.HLK_EV_LOST) (e : Ev) : ((s.bump off 1).raise e).count off = (s.count off + 1) % 2 ^ 64 :=
  (State.count_raise (State.cnt_bump_wf wfc off 1) e merged lost).trans (State.count_bump_self wfc off 1)

/-- ERR_COUNT and the state of a failed ring written (R239). -/
def State.failWritten (s : State) (k : Nat) : State :=
  if (s.setPalRing k (s.palRing k).failed).dieUp (s.palRing k).home then
    (s.setPalRing k (s.palRing k).failed).setDbWord (s.palRing k) 12 (((s.palRing k).errCount + 1) % 2 ^ 32)
  else s.setPalRing k (s.palRing k).failed

theorem State.failWritten_frame {k : Nat} {r : PRing} (ring : s.palRing k = r) : (s.failWritten k).palRing k = r.failed
    ∧ (s.failWritten k).cnt = s.cnt := by
  subst ring
  have here : (s.setPalRing k (s.palRing k).failed).palRing k = (s.palRing k).failed := State.palRing_setPalRing k nofun
  unfold State.failWritten
  split
  · obtain ⟨pal, cnt⟩ := State.setDbWord_frame (s := s.setPalRing k (s.palRing k).failed) (s.palRing k) 12
      (((s.palRing k).errCount + 1) % 2 ^ 32)
    exact ⟨(State.palRing_of_pal pal k).trans here, cnt⟩
  · exact ⟨here, rfl⟩

theorem State.ringFails_eq (k engine status idx ci : Nat) (ws : List Word) : s.ringFails k engine status idx ci ws
    = ((((s.writeRecord k ws).advanceCi k ci).failWritten k).bump (C.PAL_LISTS_FAILED engine) 1).raise
      { code := 0x0403, sev := 2, kind := 7, index := k, arg0 := idx, arg1 := status } := rfl

theorem State.ringFails_frame (wfc : Tbl.wf (fun _ => 0) s.cnt = true) {k : Nat} (enabled : (s.palRing k).st ≠ .disabled)
    (engine status idx ci : Nat) (ws : List Word) :
    (s.ringFails k engine status idx ci ws).palRing k = (((s.palRing k).recorded).advanced ci).failed
      ∧ (s.ringFails k engine status idx ci ws).count (C.PAL_LISTS_FAILED engine)
        = (s.count (C.PAL_LISTS_FAILED engine) + 1) % 2 ^ 64 := by
  obtain ⟨record, cnt1⟩ := State.writeRecord_frame enabled ws
  have enabled1 : ((s.writeRecord k ws).palRing k).st ≠ .disabled := by rw [record]; exact enabled
  obtain ⟨advance, cnt2⟩ := State.advanceCi_frame enabled1 ci
  rw [record] at advance
  have enabled2 : (((s.writeRecord k ws).advanceCi k ci).palRing k) = ((s.palRing k).recorded).advanced ci := advance
  obtain ⟨ring, cnt3⟩ := State.failWritten_frame enabled2
  obtain ⟨merged, lost⟩ := failedCount_ne engine
  have cnt : (((s.writeRecord k ws).advanceCi k ci).failWritten k).cnt = s.cnt := cnt3.trans (cnt2.trans cnt1)
  rw [State.ringFails_eq]
  generalize ((s.writeRecord k ws).advanceCi k ci).failWritten k = d at ring cnt
  have ringed := State.palRing_of_pal ((State.raise_within (d.bump (C.PAL_LISTS_FAILED engine) 1)
    { code := 0x0403, sev := 2, kind := 7, index := k, arg0 := idx, arg1 := status }).pal_eq (by decide)) k
  have bumped : (d.bump (C.PAL_LISTS_FAILED engine) 1).palRing k = d.palRing k := State.palRing_of_pal rfl k
  refine ⟨ringed.trans (bumped.trans ring), ?_⟩
  rw [State.count_bump_raise (by rw [cnt]; exact wfc) merged lost, State.count_of_cnt cnt]

/-- Settles O28. -/
theorem clientRingsAnswer : Obligations.ClientRingsAnswer := by
  unfold Obligations.ClientRingsAnswer
  refine ⟨fun s k h => ?_, fun s engine ring status idx ci ws h enabled => ?_⟩
  · have wf := State.canonical.regs h
    refine ⟨ringWrite_gives_enabled wf, fun on disabled enable bad => ?_, fun on running => ?_, ringRead_gives wf, ringStatusRead_gives wf,
      fun idle pending served room _ caught _ => doorbellRead_gives idle pending served room caught⟩
    · exact ringWrite_gives_refused wf on (by rw [State.ringWriteStatus_of_disabled _ disabled, if_pos ⟨enable, bad⟩]) (by decide) (by decide)
    · exact ringWrite_gives_refused wf on (State.ringWriteStatus_of_running _ running) (by decide) (by decide)
  · obtain ⟨record, count⟩ := State.ringFails_frame (State.canonical.cnt h) enabled engine status idx ci ws
    rw [record]
    exact ⟨rfl, rfl, rfl, rfl, count⟩

end Sys2Proof.Machine

/-!
PROOFS. The control commands of a list (R221, R222, R224, R232, R240).
-/
namespace Sys2Proof.Machine
variable {s : State}

/-! ## The engine table -/

theorem State.engine_of_pal {t : State} (same : t.pal = s.pal) (e : Nat) : t.engine e = s.engine e := by
  rw [State.engine, State.engine, same]

theorem State.engine_setEngine (e : Nat) {x : Engine} {r : Running} (runs : x.run = some r) : (s.setEngine e x).engine e = x :=
  Tbl.get_put_of_ne_default (d := fun _ => Engine.init) s.pal.engines e (x := x)
    (fun same => nomatch runs.symm.trans (congrArg Engine.run same))

/-- An engine's running list changed. -/
def Engine.running (x : Engine) (r : Running) : Engine := { x with run := some r }

theorem State.updRun_of_running {e : Nat} {r : Running} (runs : (s.engine e).run = some r) (f : Running → Running) :
    s.updRun e f = s.setEngine e ((s.engine e).running (f r)) := by
  unfold State.updRun
  dsimp only
  rw [runs]
  rfl

theorem State.engine_updRun {e : Nat} {r : Running} (runs : (s.engine e).run = some r) (f : Running → Running) :
    (s.updRun e f).engine e = (s.engine e).running (f r) := by
  rw [State.updRun_of_running runs]
  exact State.engine_setEngine e (r := f r) rfl

theorem State.nextCmd_of_running {e : Nat} {r : Running} (runs : (s.engine e).run = some r) :
    s.nextCmd e = s.setEngine e ((s.engine e).running (r.next s.now)) := State.updRun_of_running runs _

theorem State.engine_nextCmd {e : Nat} {r : Running} (runs : (s.engine e).run = some r) :
    (s.nextCmd e).engine e = (s.engine e).running (r.next s.now) := State.engine_updRun runs _

/-! ## Issue (R221) -/

/-- The engine of a list whose next command may start. -/
theorem State.fetchCmd_some {e : Nat} {r : Running} {w : List Word} (fetched : s.fetchCmd e = some (r, w)) :
    (s.engine e).run = some r ∧ (s.engine e).st = .active ∧ (s.engine e).target = .idle := by
  unfold State.fetchCmd at fetched
  dsimp only at fetched
  split at fetched
  · cases fetched
  · next y runs =>
    split at fetched
    · next ready =>
      obtain ⟨active, idle, -⟩ := ready
      obtain ⟨rfl, -⟩ := Prod.mk.inj (Option.some.inj fetched)
      exact ⟨runs, active, idle⟩
    · cases fetched

/-- With the engine ACTIVE and nothing asked of it, the end of a command changes nothing more. -/
theorem State.quiet_of_active {e : Nat} (active : (s.engine e).st = .active) (idle : (s.engine e).target = .idle) :
    (s.quiesce e).afterOffline e = s := by
  have still : s.quiesce e = s := by
    unfold State.quiesce
    dsimp only
    rw [active, idle]
    rfl
  rw [still]
  exact if_neg (by rw [active]; exact nofun)

theorem State.issueCmd_of_issues {e op : Nat} {masks : List Nat} {r : Running} {w : List Word} (h : s.issues e op masks r w)
    {f : List Word → List Nat} (same : f w = masks) (eff : Running → List Word → State → State) :
    s.issueCmd e op f eff = ((eff r w s).quiesce e).afterOffline e := by
  obtain ⟨fetched, code, fresh, placed, reserved⟩ := h
  unfold State.issueCmd
  rw [fetched]
  dsimp only
  rw [if_neg (fun c => c code), if_neg (by rw [fresh]; exact Bool.false_ne_true), same, if_neg (by rw [placed, reserved]; decide)]

/-- A command that leaves its engine ACTIVE with nothing asked of it has its own effect alone. -/
theorem State.issueCmd_of_quiet {e op : Nat} {masks : List Nat} {r : Running} {w : List Word} (h : s.issues e op masks r w)
    {f : List Word → List Nat} (same : f w = masks) {eff : Running → List Word → State → State}
    (active : ((eff r w s).engine e).st = .active) (idle : ((eff r w s).engine e).target = .idle) :
    s.issueCmd e op f eff = eff r w s := (State.issueCmd_of_issues h same eff).trans (State.quiet_of_active active idle)

/-- The engine of a command that is issued. -/
theorem State.issues.engine {e op : Nat} {masks : List Nat} {r : Running} {w : List Word} (h : s.issues e op masks r w) :
    (s.engine e).run = some r ∧ (s.engine e).st = .active ∧ (s.engine e).target = .idle := State.fetchCmd_some h.1

/-! ## NOP and BEGIN (R222, R224) -/

theorem State.unknownCmd_of_issues {e op : Nat} {masks : List Nat} {r : Running} {w : List Word} (h : s.issues e op masks r w)
    (known : opKnown op = true) : s.unknownCmd e = s := by
  obtain ⟨fetched, code, -⟩ := h
  unfold State.unknownCmd
  rw [fetched]
  dsimp only
  rw [code, if_pos known]

theorem exec_palNop_eq (e : Fin 8) : exec (.palNop e) s
    = .next ((s.unknownCmd e).issueCmd e 0x00 (fun _ => [0xFF000000]) (fun _ _ s => s.nextCmd e)) := rfl

/-- A command whose only effect is that the next one follows. -/
theorem State.issueCmd_nextCmd {e op : Nat} {masks : List Nat} {r : Running} {w : List Word} (h : s.issues e op masks r w)
    {f : List Word → List Nat} (same : f w = masks) {eff : Running → List Word → State → State} (next : eff r w s = s.nextCmd e) :
    s.issueCmd e op f eff = s.setEngine e ((s.engine e).running (r.next s.now)) := by
  obtain ⟨runs, active, idle⟩ := h.engine
  have after := State.engine_nextCmd runs
  rw [State.issueCmd_of_quiet h same (by rw [next, after]; exact active) (by rw [next, after]; exact idle), next,
    State.nextCmd_of_running runs]

theorem palNop_eq {e : Fin 8} {r : Running} {w : List Word} (h : s.issues e 0x00 [0xFF000000] r w) :
    exec (.palNop e) s = .next (s.setEngine e ((s.engine e).running (r.next s.now))) := by
  rw [exec_palNop_eq, State.unknownCmd_of_issues h rfl, State.issueCmd_nextCmd h rfl rfl]

/-- What a write of a list's journal leaves. -/
theorem State.journal_frame (r : Running) (half : Nat) : (s.journal r half).pal = s.pal ∧ (s.journal r half).clk = s.clk
    ∧ (s.journal r half).regs = s.regs ∧ (s.journal r half).req = s.req :=
  have same := State.journal_within s r half
  ⟨same.pal_eq (by decide), same.clk_eq (by decide), same.regs_eq (by decide), same.req_eq (by decide)⟩

theorem State.journal_of_none {r : Running} (none_ : (s.palRing r.list.ring).jrnl = 0) (half : Nat) : s.journal r half = s :=
  if_pos (.inl none_)

/-- The list with a new checkpoint, in the other half of its journal (R240). -/
def Running.checked (r : Running) (sv : Saved) : Running := { r with ckpt := sv, records := [], issued := [], half := 1 - r.half }

/-- A checkpoint written and the next command to follow. -/
def State.checkpoint (s : State) (e : Nat) (r : Running) (sv : Saved) : State :=
  ((s.journal r (1 - r.half)).updRun e (fun r => r.checked sv)).nextCmd e

theorem State.engine_checkpoint {e : Nat} {r : Running} (runs : (s.engine e).run = some r) (sv : Saved) :
    (s.checkpoint e r sv).engine e = (s.engine e).running ((r.checked sv).next s.now) := by
  obtain ⟨pal, clk, -, -⟩ := State.journal_frame (s := s) r (1 - r.half)
  have same := State.engine_of_pal pal e
  have now := State.now_of_clk clk
  rw [State.checkpoint]
  generalize s.journal r (1 - r.half) = a at same now
  have upd := State.engine_updRun (s := a) (e := e) (r := r) (by rw [same]; exact runs) (fun r => r.checked sv)
  have clock : (a.updRun e (fun r => r.checked sv)).now = a.now := rfl
  generalize a.updRun e (fun r => r.checked sv) = b at upd clock
  rw [State.engine_nextCmd (r := r.checked sv) (by rw [upd]; rfl), upd, same, clock, now]
  rfl

theorem exec_palBegin_eq (e : Fin 8) : exec (.palBegin e) s
    = .next (s.issueCmd e opBEGIN (fun _ => [0xFF00FFFF, 0xFFFF0000, 0xFFFFFFFF, 0x0000FFFF]) (fun r _ s => s.checkpoint e r Saved.none_)) := rfl

theorem exec_palBegin_of_issues {e : Fin 8} {r : Running} {w : List Word}
    (h : s.issues e 0x01 [0xFF00FFFF, 0xFFFF0000, 0xFFFFFFFF, 0x0000FFFF] r w) :
    exec (.palBegin e) s = .next (s.checkpoint e r Saved.none_) := by
  obtain ⟨runs, active, idle⟩ := h.engine
  have after := State.engine_checkpoint runs Saved.none_
  rw [exec_palBegin_eq, State.issueCmd_of_quiet (op := opBEGIN) h rfl (by rw [after]; exact active) (by rw [after]; exact idle)]

theorem palBegin_eq {e : Fin 8} {r : Running} {w : List Word}
    (h : s.issues e 0x01 [0xFF00FFFF, 0xFFFF0000, 0xFFFFFFFF, 0x0000FFFF] r w) (none_ : (s.palRing r.list.ring).jrnl = 0) :
    exec (.palBegin e) s = .next ((s.setEngine e ((s.engine e).running (r.checked Saved.none_))).nextCmd e) := by
  rw [exec_palBegin_of_issues h, State.checkpoint, State.journal_of_none none_, State.updRun_of_running h.engine.1]

theorem palBegin_gives {e : Fin 8} {r : Running} {w : List Word}
    (h : s.issues e 0x01 [0xFF00FFFF, 0xFFFF0000, 0xFFFFFFFF, 0x0000FFFF] r w) :
    Gives (.palBegin e) s (fun t => (t.engine e).run = some ((r.checked Saved.none_).next s.now)) :=
  ⟨_, exec_palBegin_of_issues h, congrArg Engine.run (State.engine_checkpoint h.engine.1 Saved.none_)⟩

/-! ## END and FENCE (R232) -/

/-- The list while a fence waits. -/
def Running.fenced (r : Running) (limit : Option Nat) : Running := { r with fence := some limit }

/-- When the wait of a fence that begins now ends. -/
def State.fenceLimit (s : State) (e : Nat) : Option Nat :=
  if s.fld (R.PAL_LIST_CTRL e) 31 16 = 0 then none else some (s.now + s.fld (R.PAL_LIST_CTRL e) 31 16 * 1000)

theorem State.engine_startFence {e : Nat} {r : Running} (runs : (s.engine e).run = some r) :
    (s.startFence e).engine e = (s.engine e).running (r.fenced (s.fenceLimit e)) := State.engine_updRun runs _

/-- A command that begins a fence. -/
theorem State.issueCmd_startFence {e op : Nat} {masks : List Nat} {r : Running} {w : List Word} (h : s.issues e op masks r w)
    {f : List Word → List Nat} (same : f w = masks) {eff : Running → List Word → State → State} (start : eff r w s = s.startFence e) :
    (s.issueCmd e op f eff).engine e = (s.engine e).running (r.fenced (s.fenceLimit e)) := by
  obtain ⟨runs, active, idle⟩ := h.engine
  have after := State.engine_startFence runs
  rw [State.issueCmd_of_quiet h same (by rw [start, after]; exact active) (by rw [start, after]; exact idle), start, after]

theorem palEnd_gives {e : Fin 8} {r : Running} {w : List Word} (h : s.issues e 0x02 [0xFF000001, 0xFFFFFFFF] r w) :
    Gives (.palEnd e) s (fun t => t.engine e = (s.engine e).running (r.fenced (s.fenceLimit e))) :=
  ⟨_, rfl, State.issueCmd_startFence h rfl rfl⟩

theorem palFence_gives {e : Fin 8} {r : Running} {w : List Word} (h : s.issues e 0x03 [0xFFE00000, 0x0003FFFF] r w)
    (known : (cw w 0).fld 23 22 ≠ 3) : Gives (.palFence e) s (fun t => t.engine e = (s.engine e).running (r.fenced (s.fenceLimit e))) :=
  ⟨_, rfl, State.issueCmd_startFence h rfl (if_neg known)⟩

theorem palFence_eq {e : Fin 8} {r : Running} {w : List Word} (h : s.issues e 0x03 [0xFFE00000, 0x0003FFFF] r w)
    (bad : (cw w 0).fld 23 22 = 3) :
    exec (.palFence e) s = .next (((s.listFail e stCMD_FORMAT r.pc).quiesce e).afterOffline e) := by
  change execPalFence e s = _
  rw [execPalFence, State.issueCmd_of_issues h rfl, if_pos bad]
  rfl

/-- The command that waits is of the list that the engine runs. -/
theorem State.waitingCmd_some {e : Nat} {r : Running} {w : List Word} (waits : s.waitingCmd e = some (r, w)) :
    (s.engine e).run = some r := by
  unfold State.waitingCmd at waits
  split at waits
  · cases waits
  · next y runs =>
    split at waits
    · obtain ⟨rfl, -⟩ := Prod.mk.inj (Option.some.inj waits)
      exact runs
    · cases waits

/-- The list once a FENCE is done. -/
def Running.unfenced (r : Running) (now : Nat) : Running := (({ r with fence := none } : Running).record r.pc).next now

theorem exec_fenceComplete_of_waiting {e : Fin 8} {r : Running} {w : List Word} (waits : s.waitingCmd e = some (r, w))
    (active : (s.engine e).st = .active) (done : s.fenceDone e r w = true) : exec (.fenceComplete e) s
    = (if (cw w 0).fld 31 24 = opEND ∧ (cw w 0).bit 0 ∧ !s.dieUp (s.palRing r.list.ring).home then .next s
      else if (cw w 0).fld 31 24 = opEND then .next ((s.listDone e ((cw w 0).bit 0) (cw w 1)).afterOffline e)
      else .next ((((s.journal r r.half).updRun e (fun r => r.unfenced s.now)).quiesce e).afterOffline e)) := by
  change execFenceComplete e s = _
  rw [execFenceComplete, waits]
  dsimp only
  rw [if_neg (by rw [active, done]; simp)]
  rfl

theorem fenceComplete_gives {e : Fin 8} {r : Running} {w : List Word} (waits : s.waitingCmd e = some (r, w))
    (active : (s.engine e).st = .active) (idle : (s.engine e).target = .idle) (done : s.fenceDone e r w = true)
    (fence : (cw w 0).fld 31 24 = 0x03) :
    Gives (.fenceComplete e) s (fun t => t.engine e = (s.engine e).running (r.unfenced s.now)) := by
  have run := exec_fenceComplete_of_waiting waits active done
  have other : (cw w 0).fld 31 24 ≠ opEND := by rw [fence]; decide
  rw [if_neg (fun c => other c.1), if_neg other] at run
  have same := State.engine_of_pal (State.journal_frame (s := s) r r.half).1 e
  generalize s.journal r r.half = a at run same
  have after := State.engine_updRun (s := a) (e := e) (r := r) (by rw [same]; exact State.waitingCmd_some waits) (fun r => r.unfenced s.now)
  rw [same] at after
  generalize a.updRun e (fun r => r.unfenced s.now) = b at run after
  rw [State.quiet_of_active (by rw [after]; exact active) (by rw [after]; exact idle)] at run
  exact ⟨_, run, after⟩

theorem fenceComplete_eq {e : Fin 8} {r : Running} {w : List Word} (waits : s.waitingCmd e = some (r, w))
    (active : (s.engine e).st = .active) (done : s.fenceDone e r w = true) (end_ : (cw w 0).fld 31 24 = 0x02)
    (plain : (cw w 0).bit 0 = false) :
    exec (.fenceComplete e) s = .next ((s.listDone e false (cw w 1)).afterOffline e) := by
  have last : (cw w 0).fld 31 24 = opEND := end_
  rw [exec_fenceComplete_of_waiting waits active done, if_neg (by rw [plain]; exact fun c => Bool.false_ne_true c.2.1), if_pos last, plain]

theorem fenceTimeout_eq {e : Fin 8} {r : Running} {w : List Word} {t0 : Nat} (waits : s.waitingCmd e = some (r, w))
    (limit : r.fence = some (some t0)) (active : (s.engine e).st = .active) (open_ : s.fenceDone e r w = false) :
    exec (.fenceTimeout e) s = .next (((s.reach t0).listFail e stFENCE_TIMEOUT r.pc).afterOffline e) := by
  change execFenceTimeout e s = _
  rw [execFenceTimeout, waits]
  dsimp only
  rw [limit]
  dsimp only
  rw [if_neg (by rw [active, open_]; simp)]

/-! ## NOTIFY (R224, R240) -/

/-- The packet of a request (R246). -/
def ReqSpec.packet (q : ReqSpec) (origin tag src seq : Nat) : Packet :=
  mkPacket { ty := q.ty, tc := q.tc, vc := vcREQ, spray := q.spray, length := q.payload.length, dest := q.addr / 2 ^ 46,
             dspace := if origin = 0 then 0 else q.space, src := src, sspace := 1, job := q.job, seq := seq } (reqWords q tag) q.payload

/-- The tag that a request takes, and the key of its origin's counter. -/
def State.issueTag (s : State) (origin : Nat) : Nat :=
  freeTag s.req.out origin 32768 (Tbl.get (fun _ => 0) s.req.tags (if origin = 0 then 0 else origin - 3))

theorem State.req_issue (origin : Nat) (use : ReqUse) (q : ReqSpec) : (s.issue origin use q).req = { s.req with
    out := s.req.out ++ [⟨origin, s.issueTag origin, q.packet origin (s.issueTag origin) (s.homeId (originHome origin))
      (s.nextSeq (originHome origin) q.space (q.addr / 2 ^ 46)), use, s.now, s.now, false, none⟩],
    tags := Tbl.put (fun _ => 0) s.req.tags (if origin = 0 then 0 else origin - 3) ((s.issueTag origin + 1) % 32768) } := by
  unfold State.issue
  extract_lets key next tag home dest p r a b
  exact (State.originate_within _ p).req_eq (by decide)

/-- A request issued reads of the state the time, the module's ID, the series and the table of requests alone. -/
theorem State.req_issue_congr {t : State} (clk : t.clk = s.clk) (regs : t.regs = s.regs) (dp : t.dp = s.dp) (req : t.req = s.req)
    (origin : Nat) (use : ReqUse) (q : ReqSpec) : (t.issue origin use q).req = (s.issue origin use q).req := by
  have home (h : Nat) : t.homeId h = s.homeId h := by
    rw [State.homeId, State.homeId, State.spineId, State.spineId, State.fld_of_regs regs]
  have seq (a b c : Nat) : t.nextSeq a b c = s.nextSeq a b c := by
    rw [State.nextSeq, State.nextSeq, dp]
  have now : t.now = s.now := State.now_of_clk clk
  have tag : t.issueTag origin = s.issueTag origin := by rw [State.issueTag, State.issueTag, req]
  rw [State.req_issue, State.req_issue, tag, home, seq, now, req]

/-- The list once a NOTIFY of it is sent. -/
def Running.notified (r : Running) (w : List Word) (notes : List (Nat × Nat × Nat)) : Running :=
  { r with issued := r.issued ++ [r.pc], dests := (notifyDest w :: r.dests).eraseDups, notes := r.notes ++ notes }

/-- The request of a list's NOTIFY. -/
def State.notifyReq (s : State) (e : Nat) (r : Running) (w : List Word) : State :=
  s.issue (4 + e / 2) (.notify r.list.ring ((r.list.first + r.pc) % 2 ^ 32)) (notifySpec w (s.palRing r.list.ring).job)

/-- The bytes that a NOTIFY to memory of the module holds back. -/
def State.noteOf (s : State) (r : Running) (w : List Word) : List (Nat × Nat × Nat) :=
  match s.notifyBytes w with | some (k, n) => [(r.pc, k, n)] | none => []

theorem State.sendNotify_eq (e : Nat) (r : Running) (w : List Word) : s.sendNotify e r w
    = ((((s.journal r r.half).updRun e (fun r' => r'.notified w (s.noteOf r w))).issue (4 + e / 2)
      (.notify r.list.ring ((r.list.first + r.pc) % 2 ^ 32)) (notifySpec w (s.palRing r.list.ring).job)).nextCmd e) := rfl

theorem State.sendNotify_frame {e : Nat} {r : Running} (runs : (s.engine e).run = some r) (w : List Word) :
    (s.sendNotify e r w).engine e = (s.engine e).running ((r.notified w (s.noteOf r w)).next s.now)
      ∧ (s.sendNotify e r w).req = (s.notifyReq e r w).req := by
  rw [State.sendNotify_eq, State.notifyReq]
  generalize (4 + e / 2) = origin
  generalize (ReqUse.notify r.list.ring ((r.list.first + r.pc) % 2 ^ 32)) = use
  generalize notifySpec w (s.palRing r.list.ring).job = q
  have kept := State.journal_within s r r.half
  have pal := kept.pal_eq (by decide)
  have clk := kept.clk_eq (by decide)
  have regs := kept.regs_eq (by decide)
  have dp := kept.dp_eq (by decide)
  have req := kept.req_eq (by decide)
  have same := State.engine_of_pal pal e
  generalize s.journal r r.half = a at clk regs dp req same
  have upd := State.engine_updRun (s := a) (e := e) (r := r) (by rw [same]; exact runs) (fun r' => r'.notified w (s.noteOf r w))
  have quiet := State.updRun_within a e (fun r' => r'.notified w (s.noteOf r w))
  have clk1 := (quiet.clk_eq (by decide)).trans clk
  have regs1 := (quiet.regs_eq (by decide)).trans regs
  have dp1 := (quiet.dp_eq (by decide)).trans dp
  have req1 := (quiet.req_eq (by decide)).trans req
  generalize a.updRun e (fun r' => r'.notified w (s.noteOf r w)) = b at upd clk1 regs1 dp1 req1
  have asked := State.req_issue_congr clk1 regs1 dp1 req1 origin use q
  have still := State.issue_within b origin use q
  have upd2 := (State.engine_of_pal (still.pal_eq (by decide)) e).trans upd
  have now := State.now_of_clk ((still.clk_eq (by decide)).trans clk1)
  generalize b.issue origin use q = c at asked upd2 now
  have runs2 : (c.engine e).run = some (r.notified w (s.noteOf r w)) := by rw [upd2]; rfl
  have last := State.engine_nextCmd runs2
  rw [upd2, now, same] at last
  exact ⟨last, asked⟩

theorem exec_palNotify_eq (e : Fin 8) : exec (.palNotify e) s = .next (s.issueCmd e 0x04
    (fun _ => [0xFFFF0000, 0, 0xFFFFFFFF, 0xFFFFFFFF, 0xFFFFFFFF, 0xFFFFFFFF]) (fun r w s =>
      if 3 < (cw w 0).fld 23 21 then s.badCmd e r
      else if r.issued.contains r.pc then s
      else if (cw w 0).bit 19 ∧ !s.fenceMet e 0 0 0 r then s
      else if (match s.notifyBytes w with | some (k, n) => r.blocked (noteFoot k n) | none => false) then s
      else if !s.mayIssue (4 + e / 2) (notifyDest w).1 (notifyDest w).2 then s
      else s.sendNotify e r w)) := rfl

section Notify
variable {e : Fin 8} {r : Running} {w : List Word}
  (h : s.issues e 0x04 [0xFFFF0000, 0, 0xFFFFFFFF, 0xFFFFFFFF, 0xFFFFFFFF, 0xFFFFFFFF] r w) (kind : (cw w 0).fld 23 21 ≤ 3)
  (plain : (cw w 0).bit 19 = false) (fresh : r.issued.contains r.pc = false)
  (may : s.mayIssue (4 + e / 2) (notifyDest w).1 (notifyDest w).2 = true)
include h kind plain fresh may

/-- A NOTIFY that no earlier command holds back is sent (R224, R231). -/
theorem palNotify_gives_sent
    (free : (match s.notifyBytes w with | some (k, n) => r.blocked (noteFoot k n) | none => false) = false) :
    Gives (.palNotify e) s (fun t => (t.engine e).run = some ((r.notified w (s.noteOf r w)).next s.now)
      ∧ t.req = (s.notifyReq e r w).req) := by
  obtain ⟨runs, active, idle⟩ := h.engine
  obtain ⟨after, req⟩ := State.sendNotify_frame runs w
  have run := exec_palNotify_eq (s := s) e
  have sent : (if 3 < (cw w 0).fld 23 21 then s.badCmd e r
      else if r.issued.contains r.pc then s
      else if (cw w 0).bit 19 ∧ !s.fenceMet e 0 0 0 r then s
      else if (match s.notifyBytes w with | some (k, n) => r.blocked (noteFoot k n) | none => false) then s
      else if !s.mayIssue (4 + e / 2) (notifyDest w).1 (notifyDest w).2 then s
      else s.sendNotify e r w) = s.sendNotify e r w := by
    rw [if_neg (by omega), if_neg (by rw [fresh]; exact Bool.false_ne_true), if_neg (by rw [plain]; exact fun c => Bool.false_ne_true c.1),
      if_neg (by rw [free]; exact Bool.false_ne_true), if_neg (by rw [may]; decide)]
  rw [State.issueCmd_of_issues h rfl, sent, State.quiet_of_active (by rw [after]; exact active) (by rw [after]; exact idle)] at run
  exact ⟨_, run, congrArg Engine.run after, req⟩

theorem palNotify_gives_away (away : s.notifyBytes w = none) :
    Gives (.palNotify e) s (fun t => (t.engine e).run = some ((r.notified w []).next s.now) ∧ t.req = (s.notifyReq e r w).req) := by
  have note : s.noteOf r w = [] := by rw [State.noteOf, away]
  have sent := palNotify_gives_sent h kind plain fresh may (by rw [away])
  rwa [note] at sent

theorem palNotify_gives_home {k n : Nat} (here : s.notifyBytes w = some (k, n)) (free : r.blocked (noteFoot k n) = false) :
    Gives (.palNotify e) s (fun t => (t.engine e).run = some ((r.notified w [(r.pc, k, n)]).next s.now)
      ∧ t.req = (s.notifyReq e r w).req) := by
  have note : s.noteOf r w = [(r.pc, k, n)] := by rw [State.noteOf, here]
  have sent := palNotify_gives_sent h kind plain fresh may (by rw [here]; exact free)
  rwa [note] at sent

end Notify

theorem Running.notified_nil (r : Running) (w : List Word) : r.notified w []
    = { r with issued := r.issued ++ [r.pc], dests := (notifyDest w :: r.dests).eraseDups, notes := r.notes } := by
  rw [Running.notified, List.append_nil]

theorem notifyResponse_eq {d : Fin 4} {ring cmd st : Nat} {rest : List (Nat × Nat × Nat)}
    (oldest : (s.palDie d).responses = (ring, cmd, st) :: rest) : exec (.notifyResponse d) s
    = .next ((s.updDie d (fun x => { x with responses := rest })).notifyAnswered ring cmd st) := by
  change execNotifyResponse d s = _
  rw [execNotifyResponse, oldest]

/-! ## CKPT (R240) -/

theorem Extent.meets_of_space {a b : Extent} (apart : a.space ≠ b.space) : a.meets b = false := by
  rw [Extent.meets, beq_eq_false_iff_ne.mpr apart]
  rfl

/-- Storage of the engine and memory are apart. -/
theorem piecesMeet_of_spaces {l m : List Extent} (apart : ∀ a, a ∈ l → ∀ b, b ∈ m → a.space ≠ b.space) : piecesMeet l m = false := by
  rw [piecesMeet, List.any_eq_false]
  intro a at_
  rw [Bool.not_eq_true, List.any_eq_false]
  intro b bt
  rw [Extent.meets_of_space (apart a at_ b bt)]
  exact Bool.false_ne_true

/-- A command that uses no memory waits for MOVEs alone. -/
theorem Running.blocked_of_engine {r : Running} {f : Foot} (still : r.moves = []) (engine : ∀ a, a ∈ f.reads ++ f.writes → a.space ≠ 5) :
    r.blocked f = false := by
  have note (n : Nat × Nat × Nat) : f.after (noteFoot n.2.1 n.2.2) = false := by
    have writes : piecesMeet (noteFoot n.2.1 n.2.2).writes (f.reads ++ f.writes) = false :=
      piecesMeet_of_spaces fun a at_ b bt => by
        obtain rfl := List.mem_singleton.mp at_
        exact fun c => engine b bt c.symm
    rw [Foot.after, writes]
    rfl
  rw [Running.blocked, still, List.any_nil, Bool.false_or, List.any_eq_false]
  intro n _
  rw [note]
  exact Bool.false_ne_true

theorem ckFoot_engine (w : List Word) : ∀ a, a ∈ (ckFoot w).reads ++ (ckFoot w).writes → a.space ≠ 5 := by
  intro a at_
  simp only [ckFoot, List.append_nil, List.mem_cons, List.not_mem_nil, or_false] at at_
  obtain rfl | rfl | rfl | rfl | rfl := at_ <;> exact Nat.ne_of_beq_eq_false rfl

theorem exec_palCkpt_eq (e : Fin 8) : exec (.palCkpt e) s = .next (s.issueCmd e 0x05
    (fun _ => [0xFF000000, 0x3FFF3FFF, 0x0000FFFF, 0x0FFF0FFF, 0x01FFFFFF]) (fun r w s =>
      if 7680 < ckSlot w + ckSlots w ∨ 4096 < ckVec w + ckVecs w ∨ r.scratchLen < ckScratch w then s.badCmd e r
      else if r.blocked (ckFoot w) ∨ 16 ≤ r.moves.length then s
      else if (s.palRing r.list.ring).jrnl = 0 then s.nextCmd e
      else if (s.palRing r.list.ring).jrnl * 32768 < ckBytes w then s.listFail e stJOURNAL_FULL r.pc
      else s.checkpoint e r ((s.engine e).saved w r.pc))) := rfl

section Checkpoint
variable {e : Fin 8} {r : Running} {w : List Word}
  (h : s.issues e 0x05 [0xFF000000, 0x3FFF3FFF, 0x0000FFFF, 0x0FFF0FFF, 0x01FFFFFF] r w) (still : r.moves = [])
  (slots : ckSlot w + ckSlots w ≤ 7680) (vecs : ckVec w + ckVecs w ≤ 4096) (scratch : ckScratch w ≤ r.scratchLen)
include h still slots vecs scratch

theorem palCkpt_eq (none_ : (s.palRing r.list.ring).jrnl = 0) :
    exec (.palCkpt e) s = .next (s.setEngine e ((s.engine e).running (r.next s.now))) := by
  rw [exec_palCkpt_eq, State.issueCmd_nextCmd h rfl]
  rw [if_neg (by omega), if_neg (by rw [Running.blocked_of_engine still (ckFoot_engine w), still]; simp), if_pos none_]

theorem palCkpt_gives (some_ : (s.palRing r.list.ring).jrnl ≠ 0) (fits : ckBytes w ≤ (s.palRing r.list.ring).jrnl * 32768) :
    Gives (.palCkpt e) s (fun t => (t.engine e).lanes = (s.engine e).lanes
      ∧ (t.engine e).run = some ((r.checked ((s.engine e).saved w r.pc)).next s.now)) := by
  obtain ⟨runs, active, idle⟩ := h.engine
  have after := State.engine_checkpoint runs ((s.engine e).saved w r.pc)
  have run := exec_palCkpt_eq (s := s) e
  have taken : (if 7680 < ckSlot w + ckSlots w ∨ 4096 < ckVec w + ckVecs w ∨ r.scratchLen < ckScratch w then s.badCmd e r
      else if r.blocked (ckFoot w) ∨ 16 ≤ r.moves.length then s
      else if (s.palRing r.list.ring).jrnl = 0 then s.nextCmd e
      else if (s.palRing r.list.ring).jrnl * 32768 < ckBytes w then s.listFail e stJOURNAL_FULL r.pc
      else s.checkpoint e r ((s.engine e).saved w r.pc)) = s.checkpoint e r ((s.engine e).saved w r.pc) := by
    rw [if_neg (by omega), if_neg (by rw [Running.blocked_of_engine still (ckFoot_engine w), still]; simp), if_neg some_,
      if_neg (by omega)]
  rw [State.issueCmd_of_issues h rfl, taken, State.quiet_of_active (by rw [after]; exact active) (by rw [after]; exact idle)] at run
  exact ⟨_, run, (congrArg Engine.lanes after).trans rfl, congrArg Engine.run after⟩

end Checkpoint

/-- Settles O29. -/
theorem listControlCommandsAct : Obligations.ListControlCommandsAct := by
  unfold Obligations.ListControlCommandsAct
  intro s e r w
  refine ⟨palNop_eq, palBegin_eq, palBegin_gives, palEnd_gives, palFence_gives, palFence_eq, fenceComplete_gives, fenceComplete_eq,
    fun t0 => fenceTimeout_eq, fun h kind plain fresh may => ⟨fun away => ?_, fun k n => palNotify_gives_home h kind plain fresh may⟩,
    fun d ring cmd st rest => notifyResponse_eq, palCkpt_eq, palCkpt_gives⟩
  rw [← Running.notified_nil]
  exact palNotify_gives_away h kind plain fresh may away

end Sys2Proof.Machine

/-!
PROOFS. MOVE: read, returned, written, completed (R194, R226, R231, R232).
-/
namespace Sys2Proof.Machine
variable {s : State}

/-! ## Data placed in an engine (R194) -/

/-- An engine's state, what is asked of it and its list are as before. -/
structure ControlKept (x y : Engine) : Prop where
  st : y.st = x.st
  target : y.target = x.target
  run : y.run = x.run

theorem ControlKept.refl (x : Engine) : ControlKept x x := ⟨rfl, rfl, rfl⟩

theorem ControlKept.trans {x y z : Engine} (h : ControlKept x y) (k : ControlKept y z) : ControlKept x z :=
  ⟨k.st.trans h.st, k.target.trans h.target, k.run.trans h.run⟩

theorem ControlKept.eachDo {α : Type} {f : α → Engine → Engine} (k : ∀ a x, ControlKept x (f a x)) : ∀ (l : List α) (x : Engine),
    ControlKept x (eachDo f l x)
  | [], x => .refl x
  | a :: l, x => (k a x).trans (ControlKept.eachDo k l (f a x))

theorem Engine.putLane_kept (x : Engine) (l slot : Nat) (ws : List Word) : ControlKept x (x.putLane l slot ws) := ⟨rfl, rfl, rfl⟩

theorem Engine.putScale_kept (x : Engine) (fmt l slot : Nat) (b : Byte) : ControlKept x (x.putScale fmt l slot b) := ⟨rfl, rfl, rfl⟩

theorem putBlocks_kept (fmt l : Nat) : ∀ (bs : List (List Byte)) (slot : Nat) (x : Engine), ControlKept x (putBlocks fmt l bs slot x)
  | [], _, x => .refl x
  | _ :: bs, slot, x => ((x.putScale_kept fmt l slot _).trans (Engine.putLane_kept _ l slot _)).trans (putBlocks_kept fmt l bs _ _)

theorem putVecBlocks_kept (fmt : Nat) : ∀ (bs : List (List Byte)) (v i : Nat) (x : Engine), ControlKept x (putVecBlocks fmt bs v i x)
  | [], _, _, x => .refl x
  | b :: bs, v, i, x => by
    have step : ControlKept x { x with sharedScale := Tbl.put (fun _ => 0) x.sharedScale (v * 16 + i) (b.headD 0),
                                       shared := Tbl.putRun (fun _ => 0) x.shared (v * 256 + i * mxElemBytes fmt) (b.drop 1) } := ⟨rfl, rfl, rfl⟩
    exact step.trans (putVecBlocks_kept fmt bs v (i + 1) _)

theorem Engine.toLanes_kept (x : Engine) (transposed : Bool) (fmt first : Nat) (bs : List Byte) :
    ControlKept x (x.toLanes transposed fmt first bs) := by
  refine ControlKept.eachDo (fun p y => ?_) _ x
  split
  · exact putBlocks_kept fmt p.1 _ first y
  · exact y.putLane_kept _ _ _

theorem Engine.toShared_kept (x : Engine) (fmt first : Nat) (bs : List Byte) : ControlKept x (x.toShared fmt first bs) := by
  unfold Engine.toShared
  split
  · exact ControlKept.eachDo (fun p y => putVecBlocks_kept fmt _ _ 0 y) _ x
  · exact ⟨rfl, rfl, rfl⟩

theorem Engine.toSide_kept (x : Engine) (d : Side) (transposed : Bool) (fmt : Nat) (bs : List Byte) :
    ControlKept x (x.toSide d transposed fmt bs) := by
  unfold Engine.toSide
  split
  · exact x.toLanes_kept transposed fmt d.at_ bs
  · exact x.toShared_kept fmt d.at_ bs
  · exact ⟨rfl, rfl, rfl⟩

/-- An engine changed, with its list as it was. -/
theorem State.engine_setEngine_kept {e : Nat} {r : Running} (runs : (s.engine e).run = some r) {x : Engine} (kept : ControlKept (s.engine e) x) :
    (s.setEngine e x).engine e = x := State.engine_setEngine e (kept.run.trans runs)

/-- A compute or data command: the engine changed, then the next command. -/
theorem State.issueCmd_setEngine {e op : Nat} {masks : List Nat} {r : Running} {w : List Word} (h : s.issues e op masks r w)
    {f : List Word → List Nat} (same : f w = masks) {eff : Running → List Word → State → State} {x : Engine}
    (kept : ControlKept (s.engine e) x) (sets : eff r w s = (s.setEngine e x).nextCmd e) :
    s.issueCmd e op f eff = (s.setEngine e x).nextCmd e := by
  obtain ⟨runs, active, idle⟩ := h.engine
  have here := State.engine_setEngine_kept runs kept
  have after := State.engine_nextCmd (s := s.setEngine e x) (e := e) (r := r) (by rw [here, kept.run, runs])
  rw [here] at after
  rw [State.issueCmd_of_quiet h same (by rw [sets, after]; exact kept.st.trans active) (by rw [sets, after]; exact kept.target.trans idle), sets]

/-! ## MOVE issued (R226, R231) -/

/-- The list with one more MOVE in flight. -/
def Running.moved (r : Running) (m : MoveOp) : Running := { r with moves := r.moves ++ [m] }

theorem State.addMove_of_running {e : Nat} {r : Running} (runs : (s.engine e).run = some r) (m : MoveOp) :
    s.addMove e m = (s.setEngine e ((s.engine e).running (r.moved m))).nextCmd e := by
  rw [State.addMove, State.updRun_of_running runs]
  rfl

theorem exec_palMove_eq (e : Fin 8) : exec (.palMove e) s = .next (s.issueCmd e 0x10 moveMasks (fun r w s =>
    if mvLen w = 0 ∧ mvLayout w ≤ 1 ∧ (mvSrc w).kind ≤ 4 ∧ (mvDst w).kind ≤ 4 then s.nextCmd e
    else if s.moveBad w r.scratchLen then s.badCmd e r
    else if r.blocked (moveFoot w) ∨ 16 ≤ r.moves.length then s
    else if (mvSrc w).isMem then s.addMove e ⟨r.pc, w, .read, []⟩
    else if (mvDst w).isMem then s.addMove e ⟨r.pc, w, .write, (s.engine e).fromSide (mvSrc w) (mvLayout w == 1) (mvFmt w) (mvLen w)⟩
    else (s.placeData e w ((s.engine e).fromSide (mvSrc w) (mvLayout w == 1) (mvFmt w) (mvLen w))).nextCmd e)) := rfl

theorem State.issueCmd_addMove {e op : Nat} {masks : List Nat} {r : Running} {w : List Word} (h : s.issues e op masks r w)
    {f : List Word → List Nat} (same : f w = masks) {eff : Running → List Word → State → State} {m : MoveOp}
    (adds : eff r w s = s.addMove e m) : s.issueCmd e op f eff = (s.setEngine e ((s.engine e).running (r.moved m))).nextCmd e := by
  obtain ⟨runs, active, idle⟩ := h.engine
  rw [State.addMove_of_running runs] at adds
  have here := State.engine_setEngine (s := s) e (x := (s.engine e).running (r.moved m)) (r := r.moved m) rfl
  have after := State.engine_nextCmd (s := s.setEngine e ((s.engine e).running (r.moved m))) (e := e) (r := r.moved m) (by rw [here]; rfl)
  rw [here] at after
  rw [State.issueCmd_of_quiet h same (by rw [adds, after]; exact active) (by rw [adds, after]; exact idle), adds]

section Issue
variable {e : Fin 8} {r : Running} {w : List Word} (h : s.issues e 0x10 (moveMasks w) r w) (some_ : mvLen w ≠ 0)
include h some_

theorem palMove_eq_bad (bad : s.moveBad w r.scratchLen = true) :
    exec (.palMove e) s = .next (((s.listFail e stCMD_FORMAT r.pc).quiesce e).afterOffline e) := by
  rw [exec_palMove_eq, State.issueCmd_of_issues h rfl, if_neg (fun c => some_ c.1), if_pos bad]
  rfl

variable (good : s.moveBad w r.scratchLen = false) (free : r.blocked (moveFoot w) = false) (few : r.moves.length < 16)
include good free few

theorem palMove_eq_read (mem : (mvSrc w).isMem = true) : exec (.palMove e) s
    = .next ((s.setEngine e ((s.engine e).running (r.moved ⟨r.pc, w, .read, []⟩))).nextCmd e) := by
  rw [exec_palMove_eq, State.issueCmd_addMove h rfl]
  rw [if_neg (fun c => some_ c.1), if_neg (by rw [good]; exact Bool.false_ne_true), if_neg (fun c => c.elim (fun b => Bool.false_ne_true (free.symm.trans b)) (Nat.not_le_of_lt few)), if_pos mem]

theorem palMove_eq_write (engine : (mvSrc w).isMem = false) (mem : (mvDst w).isMem = true) : exec (.palMove e) s
    = .next ((s.setEngine e ((s.engine e).running (r.moved ⟨r.pc, w, .write,
      (s.engine e).fromSide (mvSrc w) (mvLayout w == 1) (mvFmt w) (mvLen w)⟩))).nextCmd e) := by
  rw [exec_palMove_eq, State.issueCmd_addMove h rfl]
  rw [if_neg (fun c => some_ c.1), if_neg (by rw [good]; exact Bool.false_ne_true), if_neg (fun c => c.elim (fun b => Bool.false_ne_true (free.symm.trans b)) (Nat.not_le_of_lt few)),
    if_neg (by rw [engine]; exact Bool.false_ne_true), if_pos mem]

theorem palMove_eq_placed (engine : (mvSrc w).isMem = false) (place : (mvDst w).isMem = false) : exec (.palMove e) s
    = .next ((s.placeData e w ((s.engine e).fromSide (mvSrc w) (mvLayout w == 1) (mvFmt w) (mvLen w))).nextCmd e) := by
  rw [exec_palMove_eq, State.issueCmd_setEngine h rfl (Engine.toSide_kept _ (mvDst w) (mvLayout w == 1) (mvFmt w)
    ((s.engine e).fromSide (mvSrc w) (mvLayout w == 1) (mvFmt w) (mvLen w)))]
  · rfl
  · rw [if_neg (fun c => some_ c.1), if_neg (by rw [good]; exact Bool.false_ne_true), if_neg (fun c => c.elim (fun b => Bool.false_ne_true (free.symm.trans b)) (Nat.not_le_of_lt few)),
      if_neg (by rw [engine]; exact Bool.false_ne_true), if_neg (by rw [place]; exact Bool.false_ne_true)]
    rfl

end Issue

/-! ## Data returned and written (R226, R232) -/

theorem State.moveAt_some {e i : Nat} {r : Running} {m : MoveOp} (flies : s.moveAt e i = some (r, m)) : (s.engine e).run = some r := by
  unfold State.moveAt at flies
  split at flies
  · cases flies
  · next y runs =>
    obtain ⟨x, -, same⟩ := Option.map_eq_some_iff.mp flies
    obtain ⟨rfl, -⟩ := Prod.mk.inj same
    exact runs

/-- The list once the data of a MOVE to memory has returned. -/
def Running.returned (r : Running) (cmd : Nat) (data : List Byte) : Running :=
  { r with moves := r.moves.map (fun x => if x.cmd = cmd then { x with wait := .write, data := data } else x) }

/-- The list once a MOVE is done. -/
def Running.moveDone (r : Running) (cmd now : Nat) : Running := { r.dropMove cmd with lastDone := now }

/-- The list once a MOVE to memory is done and journalled. -/
def Running.writeDone (r : Running) (cmd now : Nat) : Running := { (r.dropMove cmd).record cmd with lastDone := now }

theorem ReadsSame.each {α : Type} {f : α → State → State} (k : ∀ x s, ReadsSame s (f x s)) : ∀ (l : List α) (s : State),
    ReadsSame s (forEach f l s)
  | [], s => .refl s
  | x :: l, s => (k x s).trans (ReadsSame.each k l (f x s))

theorem State.countMove_readsSame (e key len : Nat) (read poison : Bool) : ReadsSame s (s.countMove e key len read poison) := by
  unfold State.countMove
  refine ReadsSame.each (fun p t => ?_) _ s
  extract_lets a
  have heated : ReadsSame t a := by
    unfold a
    split
    · exact State.heatPage_readsSame _ _ _ _
    · exact .refl t
  exact heated.trans (.within (State.cxlBytesCount_within _ _ _ _ _) (by decide))

theorem exec_moveReadReturn_of_go {e : Fin 8} {i : Fin 16} {r : Running} {m : MoveOp} (flies : s.moveAt e i = some (r, m))
    (reads : m.wait = .read) (go : s.sideAnswer (mvSrc m.words) (mvLen m.words) = .go)
    (clean : s.readsPoison (mvSrc m.words).key (mvLen m.words) = false) : exec (.moveReadReturn e i) s
    = (if m.toMem = true then .next ((s.countMove e (mvSrc m.words).key (mvLen m.words) true false).updRun e
        (fun r => r.returned m.cmd ((s.countMove e (mvSrc m.words).key (mvLen m.words) true false).readBytes (mvSrc m.words).key (mvLen m.words))))
      else .next (((((s.countMove e (mvSrc m.words).key (mvLen m.words) true false).placeData e m.words
          ((s.countMove e (mvSrc m.words).key (mvLen m.words) true false).readBytes (mvSrc m.words).key (mvLen m.words))).updRun e
        (fun r => r.moveDone m.cmd (s.countMove e (mvSrc m.words).key (mvLen m.words) true false).now)).quiesce e).afterOffline e)) := by
  change execMoveReadReturn e i s = _
  rw [execMoveReadReturn, flies]
  dsimp only
  rw [if_neg (fun c => c reads), go]
  dsimp only
  rw [clean, if_neg Bool.false_ne_true]
  rfl

theorem moveReadReturn_gives_written {e : Fin 8} {i : Fin 16} {r : Running} {m : MoveOp} (flies : s.moveAt e i = some (r, m))
    (reads : m.wait = .read) (go : s.sideAnswer (mvSrc m.words) (mvLen m.words) = .go)
    (clean : s.readsPoison (mvSrc m.words).key (mvLen m.words) = false) (mem : m.toMem = true) :
    Gives (.moveReadReturn e i) s (fun t => (t.engine e).run
      = some (r.returned m.cmd (s.readBytes (mvSrc m.words).key (mvLen m.words)))) := by
  have run := exec_moveReadReturn_of_go flies reads go clean
  rw [if_pos mem, (State.countMove_readsSame e _ _ true false).readBytes] at run
  have same := State.engine_of_pal ((State.countMove_within s e (mvSrc m.words).key (mvLen m.words) true false).pal_eq (by decide)) e
  generalize s.countMove e (mvSrc m.words).key (mvLen m.words) true false = a at run same
  exact ⟨_, run, congrArg Engine.run (State.engine_updRun (by rw [same]; exact State.moveAt_some flies) _)⟩

theorem Engine.toSide_of_scratch {d : Side} (scratch : d.kind = 4) (x : Engine) (transposed : Bool) (fmt : Nat) (bs : List Byte) :
    x.toSide d transposed fmt bs = { x with scratch := Tbl.putRun (fun _ => 0) x.scratch d.at_ bs } := by
  unfold Engine.toSide
  rw [scratch]
  rfl

theorem moveReadReturn_gives_placed {e : Fin 8} {i : Fin 16} {r : Running} {m : MoveOp} (flies : s.moveAt e i = some (r, m))
    (reads : m.wait = .read) (go : s.sideAnswer (mvSrc m.words) (mvLen m.words) = .go)
    (clean : s.readsPoison (mvSrc m.words).key (mvLen m.words) = false) (engine : m.toMem = false) (scratch : (mvDst m.words).kind = 4)
    (active : (s.engine e).st = .active) (idle : (s.engine e).target = .idle) :
    Gives (.moveReadReturn e i) s (fun t => (t.engine e).run = some (r.moveDone m.cmd s.now)
      ∧ (t.engine e).scratch = Tbl.putRun (fun _ => 0) (s.engine e).scratch (mvDst m.words).at_
          (s.readBytes (mvSrc m.words).key (mvLen m.words))) := by
  have run := exec_moveReadReturn_of_go flies reads go clean
  rw [if_neg (by rw [engine]; exact Bool.false_ne_true), (State.countMove_readsSame e _ _ true false).readBytes] at run
  have counted := State.countMove_within s e (mvSrc m.words).key (mvLen m.words) true false
  have same := State.engine_of_pal (counted.pal_eq (by decide)) e
  have now := State.now_of_clk (counted.clk_eq (by decide))
  generalize s.countMove e (mvSrc m.words).key (mvLen m.words) true false = a at run same now
  generalize s.readBytes (mvSrc m.words).key (mvLen m.words) = bs at run ⊢
  have side := Engine.toSide_of_scratch scratch (s.engine e) (mvLayout m.words == 1) (mvFmt m.words) bs
  have kept := Engine.toSide_kept (s.engine e) (mvDst m.words) (mvLayout m.words == 1) (mvFmt m.words) bs
  rw [State.placeData, same, now] at run
  generalize (s.engine e).toSide (mvDst m.words) (mvLayout m.words == 1) (mvFmt m.words) bs = x at run side kept
  have runs := State.moveAt_some flies
  have here : (a.setEngine e x).engine e = x := State.engine_setEngine e (kept.run.trans runs)
  have after := State.engine_updRun (s := a.setEngine e x) (e := e) (r := r) (by rw [here, kept.run, runs]) (fun r => r.moveDone m.cmd s.now)
  rw [here] at after
  generalize (a.setEngine e x).updRun e (fun r => r.moveDone m.cmd s.now) = b at run after
  rw [State.quiet_of_active (by rw [after]; exact kept.st.trans active) (by rw [after]; exact kept.target.trans idle)] at run
  refine ⟨_, run, congrArg Engine.run after, (congrArg Engine.scratch after).trans ?_⟩
  exact congrArg Engine.scratch side

theorem exec_moveWritePerformed_of_wait {e : Fin 8} {i : Fin 16} {r : Running} {m : MoveOp} (flies : s.moveAt e i = some (r, m))
    (writes : m.wait = .write) : exec (.moveWritePerformed e i) s
    = (match s.sideAnswer (mvDst m.words) m.data.length with
      | .wait => .next s
      | .fail st => .next ((s.listFail e st m.cmd).afterOffline e)
      | .go => .next ((((((s.writeBytes (mvDst m.words).key m.data).countMove e (mvDst m.words).key m.data.length false false).journal r r.half).updRun
          e (fun x => x.writeDone m.cmd ((s.writeBytes (mvDst m.words).key m.data).countMove e (mvDst m.words).key m.data.length
            false false).now)).quiesce e).afterOffline e)) := by
  change execMoveWritePerformed e i s = _
  rw [execMoveWritePerformed, flies]
  dsimp only
  rw [if_neg (fun c => c writes)]
  rfl

theorem moveWritePerformed_eq {e : Fin 8} {i : Fin 16} {r : Running} {m : MoveOp} {st : Nat} (flies : s.moveAt e i = some (r, m))
    (writes : m.wait = .write) (fails : s.sideAnswer (mvDst m.words) m.data.length = .fail st) :
    exec (.moveWritePerformed e i) s = .next ((s.listFail e st m.cmd).afterOffline e) := by
  rw [exec_moveWritePerformed_of_wait flies writes, fails]

theorem moveWritePerformed_gives {e : Fin 8} {i : Fin 16} {r : Running} {m : MoveOp} (flies : s.moveAt e i = some (r, m))
    (writes : m.wait = .write) (go : s.sideAnswer (mvDst m.words) m.data.length = .go) (active : (s.engine e).st = .active)
    (idle : (s.engine e).target = .idle) (none_ : (s.palRing r.list.ring).jrnl = 0) :
    Gives (.moveWritePerformed e i) s (fun t => (t.engine e).run = some (r.writeDone m.cmd s.now)
      ∧ t.mem.bytes = (s.writeBytes (mvDst m.words).key m.data).mem.bytes) := by
  have run := exec_moveWritePerformed_of_wait flies writes
  rw [go] at run
  dsimp only at run
  have wrote := State.writeBytes_within s (mvDst m.words).key m.data
  have counted := State.countMove_within (s.writeBytes (mvDst m.words).key m.data) e (mvDst m.words).key m.data.length false false
  have pal := (counted.pal_eq (by decide)).trans (wrote.pal_eq (by decide))
  have now := State.now_of_clk ((counted.clk_eq (by decide)).trans (wrote.clk_eq (by decide)))
  have bytes := (State.countMove_readsSame (s := s.writeBytes (mvDst m.words).key m.data) e (mvDst m.words).key m.data.length false false).bytes
  have same := State.engine_of_pal pal e
  have ring := State.palRing_of_pal pal r.list.ring
  generalize (s.writeBytes (mvDst m.words).key m.data).countMove e (mvDst m.words).key m.data.length false false = a at run now bytes same ring
  rw [State.journal_of_none (by rw [ring]; exact none_), now] at run
  have after := State.engine_updRun (s := a) (e := e) (r := r) (by rw [same]; exact State.moveAt_some flies) (fun x => x.writeDone m.cmd s.now)
  have mem : (a.updRun e (fun x => x.writeDone m.cmd s.now)).mem = a.mem := (State.updRun_within a e _).mem_eq (by decide)
  rw [same] at after
  generalize a.updRun e (fun x => x.writeDone m.cmd s.now) = b at run after mem
  rw [State.quiet_of_active (by rw [after]; exact active) (by rw [after]; exact idle)] at run
  exact ⟨_, run, congrArg Engine.run after, (congrArg Memory.bytes mem).trans bytes⟩

/-- Settles O30. -/
theorem movesRunInSteps : Obligations.MovesRunInSteps := by
  unfold Obligations.MovesRunInSteps
  intro s e r w
  exact ⟨fun h good some_ free few => ⟨palMove_eq_read h some_ good free few, palMove_eq_write h some_ good free few,
      palMove_eq_placed h some_ good free few⟩,
    fun h bad some_ => palMove_eq_bad h some_ bad, fun i m => moveReadReturn_gives_written, fun i m => moveReadReturn_gives_placed,
    fun i m => moveWritePerformed_gives, fun i m st => moveWritePerformed_eq⟩

end Sys2Proof.Machine

/-!
PROOFS. The compute commands: ROW, ELEM, XLANE and CONVERT (R202, R227 to R230).
-/
namespace Sys2Proof.Machine
variable {s : State}

theorem eachDo_append {α : Type} (f : α → Engine → Engine) (m : List α) : ∀ (l : List α) (x : Engine),
    eachDo f (l ++ m) x = eachDo f m (eachDo f l x)
  | [], _ => rfl
  | _ :: l, _ => eachDo_append f m l _

theorem eachDo_range_succ (f : Nat → Engine → Engine) (n : Nat) (x : Engine) :
    eachDo f (List.range (n + 1)) x = f n (eachDo f (List.range n) x) := by
  rw [List.range_succ, eachDo_append]
  rfl

/-! ## ROW (R227) -/

/-- An engine is as before but for its accumulators. -/
def AccOnly (x y : Engine) : Prop := y = { x with acc := y.acc }

theorem AccOnly.refl (x : Engine) : AccOnly x x := rfl

theorem AccOnly.trans {x y z : Engine} (h : AccOnly x y) (k : AccOnly y z) : AccOnly x z := by
  rw [AccOnly] at h k ⊢
  rw [k, h]

theorem AccOnly.eachDo {α : Type} {f : α → Engine → Engine} (k : ∀ a x, AccOnly x (f a x)) : ∀ (l : List α) (x : Engine),
    AccOnly x (eachDo f l x)
  | [], x => .refl x
  | a :: l, x => (k a x).trans (AccOnly.eachDo k l (f a x))

theorem Engine.putAcc_accOnly (x : Engine) (l a : Nat) (w : Word) : AccOnly x (x.putAcc l a w) := rfl

theorem Engine.row_accOnly (x : Engine) (w : List Word) : AccOnly x (x.row w) := by
  refine AccOnly.eachDo (fun l y => ?_) _ x
  have cleared : AccOnly y (if (cw w 0).bit 5 then y.clearAccs w l else y) := by
    split
    · exact AccOnly.eachDo (fun r z => AccOnly.eachDo (fun g u => u.putAcc_accOnly _ _ _) _ z) _ y
    · exact .refl y
  exact cleared.trans (AccOnly.eachDo (fun r z => AccOnly.eachDo (fun g u => u.putAcc_accOnly _ _ _) _ z) _ _)

theorem AccOnly.kept {x y : Engine} (h : AccOnly x y) : ControlKept x y := by
  rw [AccOnly] at h
  exact ⟨by rw [h], by rw [h], by rw [h]⟩

theorem rowFoot_engine (w : List Word) : ∀ a, a ∈ (rowFoot w).reads ++ (rowFoot w).writes → a.space ≠ 5 := by
  intro a at_
  simp only [rowFoot, List.mem_append, List.mem_flatMap, List.mem_map, List.mem_cons, List.not_mem_nil, or_false] at at_
  obtain (⟨_, -, rfl | rfl | rfl⟩ | ⟨_, -, rfl⟩) | ⟨_, -, rfl⟩ := at_ <;> exact Nat.ne_of_beq_eq_false rfl

theorem rowCycles_ne_units (e : Nat) : C.PAL_ROW_CYCLES e ≠ C.PAL_ROW_UNITS e := by
  unfold C.PAL_ROW_CYCLES C.PAL_ROW_UNITS
  omega

theorem exec_palRow_eq (e : Fin 8) : exec (.palRow e) s
    = .next (s.issueCmd e 0x20 (fun _ => [0xFFFFFFE0, 0xFFFF3FFF, 0xFFFFFFFF, 0x0FFFFF00]) (fun r w s =>
      if 128 < cmdLanes w ∨ !rowPairs w ∨ !(List.range (rowReps w)).all (rowRepOk w) then s.badCmd e r
      else if rowReps w = 0 ∨ cmdLanes w = 0 then s.nextCmd e
      else if r.blocked (rowFoot w) ∨ (s.engine e).level = 0 then s
      else (((s.setEngine e ((s.engine e).row w)).bump (C.PAL_ROW_CYCLES e) (rowReps w)).bump (C.PAL_ROW_UNITS e)
        (128 * cmdLanes w * rowReps w)).nextCmd e)) := rfl

/-- What the row operations of a command count. -/
def State.rowCounted (s : State) (e n m : Nat) : State := (s.bump (C.PAL_ROW_CYCLES e) n).bump (C.PAL_ROW_UNITS e) m

theorem State.rowCounted_frame (wfc : Tbl.wf (fun _ => 0) s.cnt = true) (e n m : Nat) :
    (s.rowCounted e n m).count (C.PAL_ROW_CYCLES e) = (s.count (C.PAL_ROW_CYCLES e) + n) % 2 ^ 64
      ∧ (s.rowCounted e n m).count (C.PAL_ROW_UNITS e) = (s.count (C.PAL_ROW_UNITS e) + m) % 2 ^ 64
      ∧ (s.rowCounted e n m).pal = s.pal ∧ (s.rowCounted e n m).clk = s.clk := by
  have ne := rowCycles_ne_units e
  have wfc1 := State.cnt_bump_wf wfc (C.PAL_ROW_CYCLES e) n
  refine ⟨?_, ?_, rfl, rfl⟩
  · rw [State.rowCounted, State.count_bump_ne wfc1 _ ne, State.count_bump_self wfc]
  · rw [State.rowCounted, State.count_bump_self wfc1, State.count_bump_ne wfc _ ne.symm]

theorem palRow_gives {e : Fin 8} {r : Running} {w : List Word} (still : r.moves = []) (c : s.canonical = true)
    (h : s.issues e 0x20 [0xFFFFFFE0, 0xFFFF3FFF, 0xFFFFFFFF, 0x0FFFFF00] r w) (lanes : cmdLanes w ≤ 128) (pairs : rowPairs w = true)
    (reps : ∀ i, i < rowReps w → rowRepOk w i = true) (some_ : rowReps w ≠ 0) (wide : cmdLanes w ≠ 0) (level : (s.engine e).level ≠ 0) :
    Gives (.palRow e) s (fun t =>
      t.engine e = { s.engine e with acc := ((s.engine e).row w).acc, run := some (r.next s.now) }
      ∧ t.count (C.PAL_ROW_CYCLES e) = (s.count (C.PAL_ROW_CYCLES e) + rowReps w) % 2 ^ 64
      ∧ t.count (C.PAL_ROW_UNITS e) = (s.count (C.PAL_ROW_UNITS e) + 128 * cmdLanes w * rowReps w) % 2 ^ 64) := by
  obtain ⟨runs, active, idle⟩ := h.engine
  have only := (s.engine e).row_accOnly w
  have kept := only.kept
  have here := State.engine_setEngine_kept runs kept
  have wfc : Tbl.wf (fun _ => 0) (s.setEngine e ((s.engine e).row w)).cnt = true := State.canonical.cnt (s := s) c
  obtain ⟨cycles, units, pal, clk⟩ := State.rowCounted_frame wfc e (rowReps w) (128 * cmdLanes w * rowReps w)
  have now : ((s.setEngine e ((s.engine e).row w)).rowCounted e (rowReps w) (128 * cmdLanes w * rowReps w)).now = s.now :=
    State.now_of_clk clk
  have same := (State.engine_of_pal pal e).trans here
  have all : (List.range (rowReps w)).all (rowRepOk w) = true :=
    List.all_eq_true.mpr fun i lt => reps i (List.mem_range.mp lt)
  have run := exec_palRow_eq (s := s) e
  have issued : (if 128 < cmdLanes w ∨ !rowPairs w ∨ !(List.range (rowReps w)).all (rowRepOk w) then s.badCmd e r
      else if rowReps w = 0 ∨ cmdLanes w = 0 then s.nextCmd e
      else if r.blocked (rowFoot w) ∨ (s.engine e).level = 0 then s
      else (((s.setEngine e ((s.engine e).row w)).bump (C.PAL_ROW_CYCLES e) (rowReps w)).bump (C.PAL_ROW_UNITS e)
        (128 * cmdLanes w * rowReps w)).nextCmd e)
      = ((s.setEngine e ((s.engine e).row w)).rowCounted e (rowReps w) (128 * cmdLanes w * rowReps w)).nextCmd e := by
    rw [if_neg (by rw [pairs, all]; simp; omega), if_neg (fun c => c.elim some_ wide),
      if_neg (by rw [Running.blocked_of_engine still (rowFoot_engine w)]; exact fun c => c.elim Bool.false_ne_true level)]
    rfl
  rw [State.issueCmd_of_issues h rfl, issued] at run
  generalize (s.setEngine e ((s.engine e).row w)).rowCounted e (rowReps w) (128 * cmdLanes w * rowReps w) = b at run cycles units now same
  have after := State.engine_nextCmd (s := b) (e := e) (r := r) (by rw [same, kept.run, runs])
  have cnt : (b.nextCmd e).cnt = b.cnt := (State.nextCmd_within b e).cnt_eq (by decide)
  rw [same, now] at after
  generalize b.nextCmd e = t at run after cnt
  rw [State.quiet_of_active (by rw [after]; exact kept.st.trans active) (by rw [after]; exact kept.target.trans idle)] at run
  exact ⟨_, run, after.trans (congrArg (fun y => y.running (r.next s.now)) only), (State.count_of_cnt cnt _).trans cycles,
    (State.count_of_cnt cnt _).trans units⟩

/-! ## ELEM (R228) -/

/-- The value that an ELEM puts into an element of a lane. -/
def Engine.elemVal (x : Engine) (w : List Word) (l k : Nat) : Word :=
  elemOp (elOp w) (x.opndAt l (cw w 4) (elA w) k) (x.opndAt l (cw w 4) (elB w) k) (x.opndAt l (cw w 4) (elC w) k)

/-- What an operation does not name does not count (R228). -/
theorem elemOp_of_unary {op : Nat} (unary : (elUsesB op || op == 8) = false) (a b c b' c' : Word) : elemOp op a b c = elemOp op a b' c' := by
  have cases : op = 0 ∨ 9 < op := by
    rw [elUsesB] at unary
    simp only [Bool.or_eq_false_iff, Bool.and_eq_false_iff, decide_eq_false_iff_not, beq_eq_false_iff_ne, bne_eq_false_iff_eq] at unary
    omega
  unfold elemOp
  obtain rfl | high := cases
  · rfl
  · have other (n : Nat) (low : n ≤ 9) : ¬op = n := by omega
    simp only [if_neg (other 0 (by decide)), if_neg (other 1 (by decide)), if_neg (other 2 (by decide)), if_neg (other 3 (by decide)),
      if_neg (other 4 (by decide)), if_neg (other 5 (by decide)), if_neg (other 6 (by decide)), if_neg (other 7 (by decide)),
      if_neg (other 8 (by decide)), if_neg (other 9 (by decide))]

theorem elemOp_of_binary {op : Nat} (binary : elUsesC op = false) (a b c c' : Word) : elemOp op a b c = elemOp op a b c' := by
  have ne : op ≠ 4 ∧ op ≠ 8 := by
    rw [elUsesC] at binary
    simp only [Bool.or_eq_false_iff, beq_eq_false_iff_ne] at binary
    exact binary
  obtain ⟨four, eight⟩ := ne
  unfold elemOp
  rw [if_neg four, if_neg eight, if_neg four, if_neg eight]

/-- What the checks of an ELEM to lane slots give: its destination in range, and each operand that it uses in range and clear of the
destination. -/
structure ElemOk (w : List Word) : Prop where
  lanes : cmdLanes w ≤ 128
  dst : (elDst w).index + elCount w ≤ 7680
  a : (elA w).ok_ (elCount w) = true ∧ runClash (elDst w) (elCount w) (elA w) (elCount w) = false
  b : (elUsesB (elOp w) || elOp w == 8) = true →
    (elB w).ok_ (elCount w) = true ∧ runClash (elDst w) (elCount w) (elB w) (elCount w) = false
  c : elUsesC (elOp w) = true → (elC w).ok_ (elCount w) = true ∧ runClash (elDst w) (elCount w) (elC w) (elCount w) = false
  plain : elPeriod w = 0
  slots : (elDst w).kind = 0

theorem elemOk_of_good {w : List Word} (good : elemBad w = false) (plain : elPeriod w = 0) (slots : (elDst w).kind = 0) : ElemOk w := by
  have part : elPart w = elCount w := by rw [elPart, if_pos plain]
  unfold elemBad at good
  simp only [part, Bool.or_eq_false_iff, decide_eq_false_iff_not, Bool.not_eq_false'] at good
  obtain ⟨⟨⟨⟨⟨⟨⟨⟨-, lanes⟩, count⟩, kind⟩, dst⟩, a⟩, clash⟩, b⟩, c⟩ := good
  rw [Opnd.ok_, if_pos slots, decide_eq_true_iff] at dst
  refine ⟨by omega, dst, ⟨a, clash⟩, fun used => ?_, fun used => ?_, plain, slots⟩
  · rw [if_pos used, Bool.or_eq_false_iff, Bool.not_eq_false'] at b
    exact b
  · rw [if_pos used, Bool.or_eq_false_iff, Bool.not_eq_false'] at c
    exact c

theorem Engine.lane_putLane {x : Engine} (wf : Tbl.wf (fun _ => 0) x.lanes = true) {l slot l' slot' : Nat} (v : Word) (low : slot < 8192)
    (low' : slot' < 8192) : (x.putLane l slot [v]).lane l' slot' = if l' = l ∧ slot' = slot then v else x.lane l' slot' := by
  have put := Tbl.get_putRun wf [v] (l * 8192 + slot) (l' * 8192 + slot')
  rw [Engine.lane, Engine.putLane, put, List.length_singleton]
  by_cases same : l' = l ∧ slot' = slot
  · obtain ⟨rfl, rfl⟩ := same
    rw [if_pos (by omega), if_pos ⟨rfl, rfl⟩, Nat.sub_self]
    rfl
  · rw [if_neg (by omega), if_neg same]
    rfl

/-- An operand reads the same where the accumulators, and the slot that it reads, are the same. -/
theorem Engine.opndAt_congr {x y : Engine} (acc : y.acc = x.acc) {l k : Nat} {o : Opnd} (imm : Word)
    (lane : o.kind = 0 → y.lane l (o.index + k) = x.lane l (o.index + k)) : y.opndAt l imm o k = x.opndAt l imm o k := by
  have accum (a : Nat) : y.accum l a = x.accum l a := by rw [Engine.accum, Engine.accum, acc]
  rw [Engine.opndAt, Engine.opndAt, accum, accum]
  split
  · next kind => exact lane kind
  · rfl

/-- Two lanes agree but for the results of an ELEM other than the k-th. -/
def ElemSame (w : List Word) (x y : Engine) (l k : Nat) : Prop := ∀ slot, slot < 8192 →
  ¬((elDst w).index ≤ slot ∧ slot < (elDst w).index + elCount w ∧ slot ≠ (elDst w).index + k) → y.lane l slot = x.lane l slot

theorem ElemOk.opnd {w : List Word} (ok : ElemOk w) {x y : Engine} (acc : y.acc = x.acc) {l k : Nat} (lt : k < elCount w)
    (same : ElemSame w x y l k) {o : Opnd} (range : o.ok_ (elCount w) = true) (clear : runClash (elDst w) (elCount w) o (elCount w) = false) :
    y.opndAt l (cw w 4) o k = x.opndAt l (cw w 4) o k := by
  refine Engine.opndAt_congr acc _ fun kind => ?_
  rw [Opnd.ok_, if_pos kind, decide_eq_true_iff] at range
  rw [runClash, ok.slots, kind] at clear
  simp only [beq_self_eq_true, Nat.zero_le, decide_true, Bool.and_self, Bool.true_and, Bool.and_eq_false_iff, bne_eq_false_iff_eq,
    decide_eq_false_iff_not] at clear
  exact same _ (by omega) (by omega)

/-- The k-th value of an ELEM reads what the earlier elements left (R228). -/
theorem ElemOk.val {w : List Word} (ok : ElemOk w) {x y : Engine} (acc : y.acc = x.acc) {l k : Nat} (lt : k < elCount w)
    (same : ElemSame w x y l k) : y.elemVal w l k = x.elemVal w l k := by
  obtain ⟨rangeA, clearA⟩ := ok.a
  rw [Engine.elemVal, Engine.elemVal, ok.opnd acc lt same rangeA clearA]
  cases binary : (elUsesB (elOp w) || elOp w == 8) with
  | false => exact elemOp_of_unary binary _ _ _ _ _
  | true =>
    obtain ⟨rangeB, clearB⟩ := ok.b binary
    rw [ok.opnd acc lt same rangeB clearB]
    cases ternary : elUsesC (elOp w) with
    | false => exact elemOp_of_binary ternary _ _ _ _
    | true =>
      obtain ⟨rangeC, clearC⟩ := ok.c ternary
      rw [ok.opnd acc lt same rangeC clearC]

theorem ElemOk.elemAt_eq {w : List Word} (ok : ElemOk w) (x : Engine) (l k : Nat) :
    x.elemAt w l k = x.putLane l ((elDst w).index + k) [x.elemVal w l k] := by
  have index : elIndex w k = k := by rw [elIndex, if_pos ok.plain]
  rw [Engine.elemAt, if_pos ok.slots, index]
  rfl

/-- The elements of a set of lanes and slots hold their results, and the others what they held. -/
structure ElemDone (w : List Word) (x y : Engine) (p : Nat → Nat → Prop) : Prop where
  kept : ControlKept x y
  acc : y.acc = x.acc
  wf : Tbl.wf (fun _ => 0) y.lanes = true
  done : ∀ l slot, slot < 8192 → p l slot → y.lane l slot = x.elemVal w l (slot - (elDst w).index)
  rest : ∀ l slot, slot < 8192 → ¬p l slot → y.lane l slot = x.lane l slot

/-- The first n elements of a lane. -/
theorem ElemOk.lane_done {w : List Word} (ok : ElemOk w) {x : Engine} (wf : Tbl.wf (fun _ => 0) x.lanes = true) (l : Nat) :
    ∀ n, n ≤ elCount w → ElemDone w x (eachDo (fun k x => x.elemAt w l k) (List.range n) x)
      (fun l' slot => l' = l ∧ (elDst w).index ≤ slot ∧ slot < (elDst w).index + n)
  | 0, _ => ⟨.refl x, rfl, wf, fun _ _ _ p => absurd p (by omega), fun _ _ _ _ => rfl⟩
  | n + 1, le => by
    have range := ok.dst
    obtain ⟨kept, acc, wf', done, rest⟩ := ok.lane_done wf l n (by omega)
    rw [eachDo_range_succ, ok.elemAt_eq]
    generalize eachDo (fun k x => x.elemAt w l k) (List.range n) x = y at kept acc wf' done rest
    have val : y.elemVal w l n = x.elemVal w l n := ok.val acc (by omega) fun slot low out => rest l slot low (by omega)
    rw [val]
    refine ⟨kept.trans (y.putLane_kept _ _ _), acc, Tbl.wf_putRun wf' _ _, fun l' slot low p => ?_, fun l' slot low p => ?_⟩
    · rw [Engine.lane_putLane wf' _ (by omega) low]
      split
      · next here =>
        obtain ⟨rfl, rfl⟩ := here
        rw [Nat.add_sub_cancel_left]
      · exact done l' slot low (by omega)
    · rw [Engine.lane_putLane wf' _ (by omega) low, if_neg (by omega)]
      exact rest l' slot low (by omega)

/-- Every element of the first m lanes. -/
theorem ElemOk.lanes_done {w : List Word} (ok : ElemOk w) {x : Engine} (wf : Tbl.wf (fun _ => 0) x.lanes = true) :
    ∀ m, ElemDone w x (eachDo (fun l x => eachDo (fun k x => x.elemAt w l k) (List.range (elCount w)) x) (List.range m) x)
      (fun l slot => l < m ∧ (elDst w).index ≤ slot ∧ slot < (elDst w).index + elCount w)
  | 0 => ⟨.refl x, rfl, wf, fun _ _ _ p => absurd p (by omega), fun _ _ _ _ => rfl⟩
  | m + 1 => by
    obtain ⟨kept, acc, wf', done, rest⟩ := ok.lanes_done wf m
    rw [eachDo_range_succ]
    generalize eachDo (fun l x => eachDo (fun k x => x.elemAt w l k) (List.range (elCount w)) x) (List.range m) x = y at kept acc wf' done rest
    obtain ⟨kept2, acc2, wf2, done2, rest2⟩ := ok.lane_done wf' m (elCount w) (Nat.le_refl _)
    refine ⟨kept.trans kept2, acc2.trans acc, wf2, fun l slot low p => ?_, fun l slot low p => ?_⟩
    · by_cases last : l = m
      · subst last
        rw [done2 l slot low (by omega)]
        exact ok.val acc (by omega) fun i low _ => rest l i low (by omega)
      · rw [rest2 l slot low (by omega)]
        exact done l slot low (by omega)
    · rw [rest2 l slot low (by omega)]
      exact rest l slot low (by omega)

theorem Opnd.pieces_engine {o : Opnd} {n : Nat} : ∀ a, a ∈ o.pieces n → a.space ≠ 5 := by
  intro a at_
  unfold Opnd.pieces at at_
  split at at_
  · obtain rfl := List.mem_singleton.mp at_
    exact Nat.ne_of_beq_eq_false rfl
  · split at at_
    · obtain rfl := List.mem_singleton.mp at_
      exact Nat.ne_of_beq_eq_false rfl
    · split at at_
      · obtain rfl := List.mem_singleton.mp at_
        exact Nat.ne_of_beq_eq_false rfl
      · exact absurd at_ List.not_mem_nil

theorem mem_ite_nil {α : Type} {c : Bool} {l : List α} {a : α} (at_ : a ∈ (if c = true then l else [])) : a ∈ l := by
  split at at_
  · exact at_
  · exact absurd at_ List.not_mem_nil

theorem elemFoot_engine (w : List Word) : ∀ a, a ∈ (elemFoot w).reads ++ (elemFoot w).writes → a.space ≠ 5 := by
  intro a at_
  simp only [elemFoot, List.mem_append] at at_
  obtain ((a_ | b_) | c_) | d_ := at_
  · exact Opnd.pieces_engine a a_
  · exact Opnd.pieces_engine a (mem_ite_nil b_)
  · exact Opnd.pieces_engine a (mem_ite_nil c_)
  · exact Opnd.pieces_engine a d_

/-- The engine after the elements of an ELEM. -/
def Engine.elem (x : Engine) (w : List Word) : Engine :=
  eachDo (fun l x => eachDo (fun k x => x.elemAt w l k) (List.range (elCount w)) x) (List.range (cmdLanes w)) x

theorem exec_palElem_eq (e : Fin 8) : exec (.palElem e) s = .next (s.issueCmd e 0x21
    (fun _ => [0xFFFFFF00, 0xFFFFFFFF, 0xFFFFFFFF, 0x3FFF00FF, 0xFFFFFFFF]) (fun r w s =>
      if elemBad w then s.badCmd e r
      else if r.blocked (elemFoot w) then s
      else (s.setEngine e ((s.engine e).elem w)).nextCmd e)) := rfl

/-- A compute command's engine, once the next command follows. -/
theorem State.engine_setEngine_nextCmd {e : Nat} {r : Running} (runs : (s.engine e).run = some r) {x : Engine}
    (kept : ControlKept (s.engine e) x) : ((s.setEngine e x).nextCmd e).engine e = x.running (r.next s.now) := by
  have here := State.engine_setEngine_kept runs kept
  have after := State.engine_nextCmd (s := s.setEngine e x) (e := e) (r := r) (by rw [here, kept.run, runs])
  rw [here] at after
  exact after

theorem palElem_gives {e : Fin 8} {r : Running} {w : List Word} (still : r.moves = [])
    (h : s.issues e 0x21 [0xFFFFFF00, 0xFFFFFFFF, 0xFFFFFFFF, 0x3FFF00FF, 0xFFFFFFFF] r w) (good : elemBad w = false)
    (plain : elPeriod w = 0) (slots : (elDst w).kind = 0) (wf : Tbl.wf (fun _ => 0) (s.engine e).lanes = true) :
    Gives (.palElem e) s (fun t => (t.engine e).run = some (r.next s.now)
      ∧ (∀ l k, l < cmdLanes w → k < elCount w → (t.engine e).lane l ((elDst w).index + k) = (s.engine e).elemVal w l k)
      ∧ (∀ l slot, slot < 8192 → (cmdLanes w ≤ l ∨ slot < (elDst w).index ∨ (elDst w).index + elCount w ≤ slot) →
          (t.engine e).lane l slot = (s.engine e).lane l slot)
      ∧ (t.engine e).acc = (s.engine e).acc) := by
  have ok := elemOk_of_good good plain slots
  have range := ok.dst
  have fin : ElemDone w (s.engine e) ((s.engine e).elem w) _ := ok.lanes_done wf (cmdLanes w)
  obtain ⟨kept, acc, -, done, rest⟩ := fin
  have after := State.engine_setEngine_nextCmd h.engine.1 kept
  have run := exec_palElem_eq (s := s) e
  rw [State.issueCmd_setEngine h rfl kept (by
    rw [if_neg (by rw [good]; exact Bool.false_ne_true),
      if_neg (by rw [Running.blocked_of_engine still (elemFoot_engine w)]; exact Bool.false_ne_true)])] at run
  refine ⟨_, run, congrArg Engine.run after, fun l k lane elem => ?_, fun l slot low out => ?_, (congrArg Engine.acc after).trans acc⟩
  · rw [after]
    refine (done l _ (by omega) (by omega)).trans ?_
    rw [Nat.add_sub_cancel_left]
  · rw [after]
    exact rest l slot low (by omega)

/-! ## XLANE (R229) -/

/-- The accumulators of a set of lanes hold their values, and the others what they held. -/
structure ColumnDone (first : Nat) (vs : List Word) (x y : Engine) (p : Nat → Nat → Prop) : Prop where
  kept : ControlKept x y
  lanes : y.lanes = x.lanes
  wf : Tbl.wf (fun _ => 0) y.acc = true
  done : ∀ l a, a < 16 → p l a → y.accum l a = vs.getD (a - first) 0
  rest : ∀ l a, a < 16 → ¬p l a → y.accum l a = x.accum l a

theorem Engine.accum_putAcc {x : Engine} (wf : Tbl.wf (fun _ => 0) x.acc = true) {l a l' a' : Nat} (v : Word) (low : a < 16)
    (low' : a' < 16) : (x.putAcc l a v).accum l' a' = if l' = l ∧ a' = a then v else x.accum l' a' := by
  have put : (x.putAcc l a v).accum l' a' = if l' * 16 + a' = l * 16 + a then v else x.accum l' a' := Tbl.get_put wf _ _ v
  rw [put]
  by_cases same : l' = l ∧ a' = a
  · rw [if_pos same, if_pos (by omega)]
  · rw [if_neg same, if_neg (by omega)]

/-- The first n values of a lane. -/
theorem columnDone_lane {first : Nat} {vs : List Word} {x : Engine} (wf : Tbl.wf (fun _ => 0) x.acc = true) (l : Nat) :
    ∀ n, first + n ≤ 16 → ColumnDone first vs x (eachDo (fun k x => x.putAcc l (first + k) (vs.getD k 0)) (List.range n) x)
      (fun l' a => l' = l ∧ first ≤ a ∧ a < first + n)
  | 0, _ => ⟨.refl x, rfl, wf, fun _ _ _ p => absurd p (by omega), fun _ _ _ _ => rfl⟩
  | n + 1, le => by
    obtain ⟨kept, lanes, wf', done, rest⟩ := columnDone_lane (first := first) (vs := vs) wf l n (by omega)
    rw [eachDo_range_succ]
    generalize eachDo (fun k x => x.putAcc l (first + k) (vs.getD k 0)) (List.range n) x = y at kept lanes wf' done rest
    refine ⟨kept.trans ⟨rfl, rfl, rfl⟩, lanes, Tbl.wf_put wf' _ _, fun l' a low p => ?_, fun l' a low p => ?_⟩
    · rw [Engine.accum_putAcc wf' _ (by omega) low]
      split
      · next here =>
        obtain ⟨-, rfl⟩ := here
        rw [Nat.add_sub_cancel_left]
      · exact done l' a low (by omega)
    · rw [Engine.accum_putAcc wf' _ (by omega) low, if_neg (by omega)]
      exact rest l' a low (by omega)

/-- Every value of the first m lanes. -/
theorem columnDone_lanes {first n : Nat} {vs : List Word} {x : Engine} (wf : Tbl.wf (fun _ => 0) x.acc = true) (range : first + n ≤ 16) :
    ∀ m, ColumnDone first vs x
      (eachDo (fun l x => eachDo (fun k x => x.putAcc l (first + k) (vs.getD k 0)) (List.range n) x) (List.range m) x)
      (fun l a => l < m ∧ first ≤ a ∧ a < first + n)
  | 0 => ⟨.refl x, rfl, wf, fun _ _ _ p => absurd p (by omega), fun _ _ _ _ => rfl⟩
  | m + 1 => by
    obtain ⟨kept, lanes, wf', done, rest⟩ := columnDone_lanes (vs := vs) wf range m
    rw [eachDo_range_succ]
    generalize eachDo (fun l x => eachDo (fun k x => x.putAcc l (first + k) (vs.getD k 0)) (List.range n) x) (List.range m) x = y
      at kept lanes wf' done rest
    obtain ⟨kept2, lanes2, wf2, done2, rest2⟩ := columnDone_lane (first := first) (vs := vs) wf' m n range
    refine ⟨kept.trans kept2, lanes2.trans lanes, wf2, fun l a low p => ?_, fun l a low p => ?_⟩
    · by_cases last : l = m
      · exact done2 l a low (by omega)
      · rw [rest2 l a low (by omega)]
        exact done l a low (by omega)
    · rw [rest2 l a low (by omega)]
      exact rest l a low (by omega)

theorem exec_palXlane_eq (e : Fin 8) : exec (.palXlane e) s = .next (s.issueCmd e 0x22
    (fun _ => [0xFFE0FF00, 0x0000FFFF, 0xFFFFFFFF, 0x000FFFFF]) (fun r w s =>
      if xlaneBad w then s.badCmd e r
      else if cmdLanes w = 0 ∨ xlCount w = 0 then s.nextCmd e
      else if r.blocked (xlaneFoot w) then s
      else (s.setEngine e ((s.engine e).xlane w)).nextCmd e)) := rfl

/-- The checks of a reduce to accumulators. -/
theorem xlane_range {w : List Word} (good : xlaneBad w = false) (toAcc : xlShared w = false) : xlAcc w + xlCount w ≤ 16 := by
  unfold xlaneBad at good
  obtain ⟨-, range⟩ := Bool.or_eq_false_iff.mp good
  rw [if_neg (by rw [toAcc]; exact Bool.false_ne_true), decide_eq_false_iff_not] at range
  omega

theorem xlaneFoot_engine (w : List Word) : ∀ a, a ∈ (xlaneFoot w).reads ++ (xlaneFoot w).writes → a.space ≠ 5 := by
  intro a at_
  simp only [xlaneFoot, List.mem_append] at at_
  obtain src | dst := at_
  · exact Opnd.pieces_engine a src
  · split at dst
    · obtain rfl := List.mem_singleton.mp dst
      exact Nat.ne_of_beq_eq_false rfl
    · obtain rfl := List.mem_singleton.mp dst
      exact Nat.ne_of_beq_eq_false rfl

theorem Engine.xlane_of_reduce {w : List Word} (op : xlOp w ≠ 3) (toAcc : xlShared w = false) (x : Engine) : x.xlane w
    = eachDo (fun l y => eachDo (fun k y => y.putAcc l (xlAcc w + k)
        (((List.range (xlCount w)).map (fun k => reduceRow (xlOp w) (x.column w k))).getD k 0)) (List.range (xlCount w)) y) (List.range 128) x := by
  unfold Engine.xlane
  dsimp only
  rw [if_neg op, if_neg (by rw [toAcc]; exact Bool.false_ne_true)]

theorem palXlane_gives {e : Fin 8} {r : Running} {w : List Word} (still : r.moves = [])
    (h : s.issues e 0x22 [0xFFE0FF00, 0x0000FFFF, 0xFFFFFFFF, 0x000FFFFF] r w) (good : xlaneBad w = false) (op : xlOp w ≠ 3)
    (toAcc : (cw w 0).bit 21 = false) (wide : cmdLanes w ≠ 0) (some_ : xlCount w ≠ 0) (wf : Tbl.wf (fun _ => 0) (s.engine e).acc = true) :
    Gives (.palXlane e) s (fun t => (t.engine e).run = some (r.next s.now) ∧ (t.engine e).lanes = (s.engine e).lanes
      ∧ ∀ l k, l < 128 → k < xlCount w → (t.engine e).accum l (xlAcc w + k) = reduceRow (xlOp w) ((s.engine e).column w k)) := by
  have inAcc : xlShared w = false := by rw [xlShared, toAcc, beq_eq_false_iff_ne.mpr op]; rfl
  have range := xlane_range good inAcc
  have fin := columnDone_lanes (vs := (List.range (xlCount w)).map (fun k => reduceRow (xlOp w) ((s.engine e).column w k))) wf range 128
  rw [← Engine.xlane_of_reduce op inAcc] at fin
  obtain ⟨kept, lanes, -, done, -⟩ := fin
  have after := State.engine_setEngine_nextCmd h.engine.1 kept
  have run := exec_palXlane_eq (s := s) e
  rw [State.issueCmd_setEngine h rfl kept (by
    rw [if_neg (by rw [good]; exact Bool.false_ne_true), if_neg (fun c => c.elim wide some_),
      if_neg (by rw [Running.blocked_of_engine still (xlaneFoot_engine w)]; exact Bool.false_ne_true)])] at run
  refine ⟨_, run, congrArg Engine.run after, (congrArg Engine.lanes after).trans lanes, fun l k lane lt => ?_⟩
  rw [after]
  refine (done l _ (by omega) (by omega)).trans ?_
  rw [Nat.add_sub_cancel_left, List.getD_eq_getElem?_getD, List.getElem?_map, List.getElem?_range lt]
  rfl

/-! ## CONVERT (R230) -/

theorem Engine.convertLane_kept (w : List Word) (l : Nat) (x : Engine) : ControlKept x (x.convertLane w l) :=
  (Engine.putLane_kept x l (cvDst w) _).trans (ControlKept.eachDo (fun _ y => y.putScale_kept _ _ _ _) _ _)

theorem convertFoot_engine (w : List Word) : ∀ a, a ∈ (convertFoot w).reads ++ (convertFoot w).writes → a.space ≠ 5 := by
  intro a at_
  simp only [convertFoot, List.cons_append, List.nil_append, List.mem_cons, List.not_mem_nil, or_false] at at_
  obtain rfl | rfl | rfl | rfl := at_ <;> exact Nat.ne_of_beq_eq_false rfl

theorem exec_palConvert_eq (e : Fin 8) : exec (.palConvert e) s = .next (s.issueCmd e 0x23
    (fun _ => [0xFFFFF0FF, 0x3FFF3FFF, 0x0000FFFF]) (fun r w s =>
      if convertBad w then s.badCmd e r
      else if cvElems w = 0 then s.nextCmd e
      else if r.blocked (convertFoot w) then s
      else (s.setEngine e (eachDo (fun l x => x.convertLane w l) (List.range (cvLanes w)) (s.engine e))).nextCmd e)) := rfl

theorem palConvert_eq {e : Fin 8} {r : Running} {w : List Word} (still : r.moves = [])
    (h : s.issues e 0x23 [0xFFFFF0FF, 0x3FFF3FFF, 0x0000FFFF] r w) (good : convertBad w = false) (some_ : cvElems w ≠ 0) :
    exec (.palConvert e) s = .next ((s.setEngine e
      (eachDo (fun l x => x.convertLane w l) (List.range (cvLanes w)) (s.engine e))).nextCmd e) := by
  rw [exec_palConvert_eq, State.issueCmd_setEngine h rfl (ControlKept.eachDo (fun l x => x.convertLane_kept w l) _ _)]
  rw [if_neg (by rw [good]; exact Bool.false_ne_true), if_neg some_,
    if_neg (by rw [Running.blocked_of_engine still (convertFoot_engine w)]; exact Bool.false_ne_true)]

/-- Settles O31. -/
theorem computeCommandsAct : Obligations.ComputeCommandsAct := by
  unfold Obligations.ComputeCommandsAct
  intro s e r w still
  exact ⟨palRow_gives still, palElem_gives still, palXlane_gives still, palConvert_eq still⟩

end Sys2Proof.Machine

/-!
PROOFS. The stack whose status a scrub writes follows from the place of the line's page, and the canonical form bounds no place
(R264, R284): a page of a die that there is not gives a status register that `regsWritten` does not name.
-/
namespace Sys2Proof.Machine
variable {s : State}

/-- A stack that works and has 64 uncorrectable lines within the last second fails with the next one. -/
theorem State.stackSt_lineBad_of_many (h : s.canonical = true) {key k : Nat} (stack : (s.lineMarked key).stackOf key = some k)
    (many : 64 < (((s.lineMarked key).partErr 9 k 1 1).recentUe k).length) (works : s.stackSt k = 1) :
    (s.lineBad key).stackSt k = 4 := by
  obtain ⟨wf, wfc, -, -⟩ := State.lineMarked_frame h key
  have same : (s.lineMarked key).regs = s.regs := rfl
  rw [← State.stackSt_of_regs same] at works
  rw [State.lineBad_eq, stack]
  dsimp only
  generalize s.lineMarked key = a at wf wfc many works
  rw [if_pos ⟨many, .inl works⟩]
  exact (State.failStack_frame (s := (a.partErr 9 k 1 1).withUeTimes k ((a.partErr 9 k 1 1).recentUe k)) wf wfc k).1

/-- Page 0 lies on a fifth die, which is up; the stack of its first line is ONLINE and has 64 uncorrectable lines. -/
def pageOffDies : State :=
  { State.reset with
    dom := [(1, .on), (17, .on)],
    regs := [(R.GLB_D2D_STAT 22, 0x80000000), (R.MEM_STACK_STAT 34, 0x20000000)],
    mem := { State.reset.mem with pages := [(0, { Page.init with st := .hbm, at_ := ⟨false, 4, 2⟩ })],
                                  ueTimes := [(34, List.replicate 64 0)] } }

/-- The home's key of that page's first line. -/
def scrubbedKey : Nat := memKey 0 (549755813888 * 64)

theorem pageOffDies_canonical : pageOffDies.canonical = true := by decide

theorem exec_hbmScrub_pageOffDies : exec (.hbmScrub 0 549755813888 2) pageOffDies = .next (pageOffDies.lineBad scrubbedKey) := by
  have stack : pageOffDies.stackOf scrubbedKey = some 34 := by decide
  have die : (pageOffDies.serve scrubbedKey).hbmDie = some 4 := by decide
  obtain ⟨bad, -, -⟩ := State.scrubOn_of_line (s := pageOffDies) (key := scrubbedKey) (st := 34) (d := 4) (by decide) (by decide)
    (by decide)
  rw [← stack, ← die] at bad
  exact (exec_hbmScrub_eq _ _ _).trans (congrArg Host.Outcome.next bad)

theorem stackSt_scrubbed : (pageOffDies.lineBad scrubbedKey).stackSt 34 = 4 :=
  State.stackSt_lineBad_of_many pageOffDies_canonical (by decide) (by decide) (by decide)

/-- Refutes O5: the scrub of that line fails the stack, and writes a status register past those of the 32 stacks. -/
theorem not_registersAreWrittenWhereNamed : ¬ Obligations.RegistersAreWrittenWhereNamed := by
  intro h
  have kept := h (.hbmScrub 0 549755813888 2) _ pageOffDies _ pageOffDies_canonical rfl exec_hbmScrub_pageOffDies
    (R.MEM_STACK_STAT 34) (by decide)
  have same : (pageOffDies.lineBad scrubbedKey).stackSt 34 = pageOffDies.stackSt 34 := by
    rw [State.stackSt, State.stackSt, State.fld, State.fld, kept]
  rw [stackSt_scrubbed] at same
  exact absurd same (by decide)

end Sys2Proof.Machine
